-- ==== Sys2Proof/Word.lean ====
section
/-! DEFINITION. The word types of the hub: 32-bit registers, 64-bit registers and header words, bytes. -/
namespace Sys2Proof

/-- A 32-bit register or bus word (R4). -/
abbrev Word := BitVec 32
/-- A 64-bit register, header word or payload word (R4, R168). -/
abbrev DWord := BitVec 64
/-- One byte of a store. -/
abbrev Byte := BitVec 8

end Sys2Proof
end

