-- ==== Sys2Proof/Syntax.lean ====
section
/-! DEFINITION. The commands of the hub: one constructor per row of spec/opcode_table.json, with the operands that the
row's text names. The commands come from the bus requesters, the lanes, the pins, the clocks and the die-to-die link. -/
namespace Sys2Proof

/-- A ring or stack frame: the three header words of R168 and R169 and its payload of 8-byte words (R167). -/
structure Frame where
  hw0 : DWord
  hw1 : DWord
  hw2 : DWord
  payload : List DWord
deriving DecidableEq, Repr

/-- A 66-bit block as it stands on a lane: the sync header and the scrambled payload, byte n in bits [8n+7:8n] (R140). -/
structure Block where
  hdr  : BitVec 2
  body : DWord
deriving DecidableEq, Repr

/-- The indivisible operations of a bank: the A extension's (R41) and the fabric's SWAP, ADD and CAS (R410). -/
inductive AmoOp where
  | lr | sc | swap | add | xor | and | or | min | max | minu | maxu | cas
deriving DecidableEq, Repr

/-- The forms of an access to the main store (R38): a read or write of 2^size bytes, a burst of `beats` beats of 32 B, a
burst write whose source may stop supplying words, the words that continue such a burst, and an indivisible operation. -/
inductive AccForm where
  | read (size : Fin 4)
  | write (size : Fin 4) (data : DWord)
  | burstRead (beats : Nat)
  | burstWrite (beats : Nat) (data : List DWord)
  | resume (data : List DWord)
  | amo (op : AmoOp) (size : Fin 4) (a b : DWord)
deriving DecidableEq, Repr

/-- Bits of a store word that the environment has flipped: the word's index, whether the check bits can no longer correct
it, and the error pattern (R43, R44, R46). -/
structure Upset where
  word    : Nat
  uncorr  : Bool
  pattern : Nat
deriving DecidableEq, Repr

/-- Who makes a register access: the REQ code of R410 (0 M0, 1 M1, 2 and 3 the DMA channels, 4 HOST, 5 CFG and RPE; 6 and 7 are reserved), and
the node and chip the access comes from, which are the hub's own for a local access. -/
structure Who where
  req  : Fin 8
  node : BitVec 8
  chip : Fin 4
deriving DecidableEq, Repr

/-- The commands the hub takes: one constructor per row of the opcode table. -/
inductive Instr where
  /-- REGISTER_WRITE (R6): A write to a register that has no row of its own stores or ignores the value according to its access code. The requester, whether the write is a broadcast, the log2 of the bytes, the chip-local offset, the data, and the bit flips that have reached bivouac memory -/
  | registerWrite (who : Who) (bcast : Bool) (size : Fin 4) (off : BitVec 38) (data : DWord) (upset : List Upset)
  /-- MAIN_STORE_ACCESS (R38): A requester's read, write or burst to the main store is arbitrated, checked and performed in its bank. The requester, the chip-local offset, the form, and the bit flips that have reached the store -/
  | mainStoreAccess (req : Fin 8) (addr : BitVec 38) (form : AccForm) (upset : List Upset)
  /-- ATOMIC_OPERATION (R41): A core A-extension operation executes as one indivisible read and write in its bank and manages LR reservations. The core, the core address, the RV32 A operation and its operand -/
  | atomicOperation (core : Fin 2) (addr : BitVec 32) (op : AmoOp) (data : Word) (upset : List Upset)
  /-- ECC_WRITEBACK (R43): The bank writes the corrected word back in its next idle cycle unless a requester wrote it first. The word index -/
  | eccWriteback (word : BitVec 20)
  /-- AGE_PROMOTION (R49): A normal-priority requester that has waited AGE_LIMIT cycles is promoted ahead of high-priority requesters. -/
  | agePromotion (bank : Fin 16) (req : Fin 8)
  /-- ARB_HOLD_CUTOFF (R51): The hold count reaching HOLD_LIMIT cuts off the owner, flags it, logs and reports ARB_HOLD_CUTOFF. -/
  | arbHoldCutoff (bank : Fin 16)
  /-- SCRUB_READ (R47): The scrubber reads the next 256 B block in idle bank cycles and corrects or reports errors. -/
  | scrubRead (upset : List Upset)
  /-- SCRUB_LATE (R47): A scrub pass that overruns its time sets SCRUB_LATE and sends fault kind SCRUB_LATE. -/
  | scrubLate
  /-- STORE_ZEROING_DONE (R42): Zeroing of the main store after power-on or DORMANT wake ends and INIT_DONE becomes 1. -/
  | storeZeroingDone
  /-- PARTITION_ZEROING_DONE (R37): Zeroing of the banks whose partition changed ends and MSA_STAT.ZEROING clears. -/
  | partitionZeroingDone
  /-- DMA_START (R54): A write of CTRL.START starts a DMA copy channel, unless it is busy. The channel -/
  | dmaStart (ch : Fin 2)
  /-- DMA_ABORT (R55): A write of CTRL.ABORT stops the channel issuing bursts at the next burst boundary. The channel -/
  | dmaAbort (ch : Fin 2)
  /-- DMA_BURST (R54): A DMA channel issues its next read and write burst of up to 256 B when credits and banks allow. The channel -/
  | dmaBurst (ch : Fin 2)
  /-- DMA_DONE (R54): The channel's write fence returns, so it clears BUSY, sets DONE and ERR as needed and raises DMA_DONE_n. The channel -/
  | dmaDone (ch : Fin 2)
  /-- COUNTER_SNAP (R56): A write of SNAP copies a block's counter group to the read values, clearing the live counters with CLEAR. The counter group: 0 MSA, 1 to 4 LANE_E, W, S0, S1, 5 RPE, 6 FWD, 7 RED, 8 TIME, 9 GG, 10 MB, 11 HBR, 12 FLT, 13 LPW; for a lane, the bits checked and errored since they were last counted -/
  | counterSnap (group : Fin 14) (clear : Bool) (checked errored : BitVec 48)
  /-- KEEP_ALIVE_TX (R12): Each die sends the die-to-die keep-alive every 10 us. -/
  | keepAliveTx
  /-- D2D_LOSS (R12): No keep-alive for 100 us declares the die-to-die link lost, freezes the P-die state and marks measurements stale. -/
  | d2dLoss
  /-- D2D_RESTORED (R13): Keep-alive present for 1 ms restores the link and the D-die re-reads the P-die state. -/
  | d2dRestored
  /-- REFCLK_ABSENT (R17): A hub without REFCLK keeps its lanes down and reports REFCLK_ABSENT. -/
  | refclkAbsent
  /-- REFCLK_ABSENT_REPORT (R98): While REFCLK is absent at boot, CKG reports REFCLK_ABSENT every 10 ms. -/
  | refclkAbsentReport
  /-- RC100_STOP (R18): RC100 stops 64 RC100 cycles after its last use ends. -/
  | rc100Stop
  /-- MODE_REQUEST (R62): A write of MPC_REQ requests a mode, judged and reported in MPC_REQ_STAT. -/
  | modeRequest (word : Word) (who : Who)
  /-- MODE_REQUEST_TIMED (R62): A timed mode request takes effect at the first cycle boundary at or after MPC_REQ_T. -/
  | modeRequestTimed
  /-- MODE_TRANSITION (R61): A mode transition completes at its boundary, updates MPC_MODE and acts on held causes. -/
  | modeTransition
  /-- STACK_MODE_RX (R67): A stacked hub takes a mode change from S1 and repeats it onward on S0. -/
  | stackModeRx (mode : Fin 6)
  /-- WATCH_WAKE (R75): An enabled wake source in WATCH starts the transition to RUN. -/
  | watchWake (src : Fin 20)
  /-- DORMANT_ENTRY (R66): At a DORMANT commit the hub stops transmitting, lowers the rails not kept and enters DORMANT. -/
  | dormantEntry
  /-- LANE_WAKE_ARM (R68): The lane-energy wake of a lane is armed 100 us after its signal detect last showed. -/
  | laneWakeArm (lane : Fin 4) (energy : Bool)
  /-- DORMANT_WAKE (R70): An enabled wake source in DORMANT records its cause and runs the boot path as a warm reset. -/
  | dormantWake (srcs : BitVec 20) (lane : Fin 4)
  /-- WAKE_PATTERN_END (R73): After 200 us of wake pattern a lane enters DETECT and trains. -/
  | wakePatternEnd (lane : Fin 4)
  /-- WAKE_TIMER_EXPIRY (R70): MPC_WAKE_TIMER reaching 0 is a wake source. -/
  | wakeTimerExpiry
  /-- RETRAIN_WINDOW_END (R65): The 50 ms retrain window of a WATCH commit ends and lanes still down count as lost. -/
  | retrainWindowEnd
  /-- ISLAND_ENTRY (R77): Both ring directions lost for the island delay puts the hub into ISLAND and starts its fallback. -/
  | islandEntry (quiet : BitVec 2)
  /-- ISLAND_EXIT (R79): At a cycle boundary with a direction up, census membership and PLAY 0 the hub returns to RUN. -/
  | islandExit
  /-- PROOF_ABORT (R76): An abort cause ends PROOF, reports PROOF_ABORT and returns to RUN at the next boundary. -/
  | proofAbort
  /-- FTEST_KEY (R81): A write of MPC_FTEST advances or restarts the two-word unlock of FACTORY TEST. -/
  | ftestKey (value : Word)
  /-- POWER_ON_RESET (R84): The P-die power-on reset resets every domain, clears the AON state and starts the boot path. -/
  | powerOnReset (stacked : Bool)
  /-- RESET_N (R84): RESET_N low for 1 us causes a WARM reset that also resamples the straps. -/
  | resetN
  /-- STRAP_SAMPLE (R96): The straps are sampled 1 us after power-on release or a RESET_N rise. -/
  | strapSample (testmode compat : Bool) (stackId : Fin 4) (twinPref head : Bool)
  /-- RAILS_OK (R97): The sequencer declares RAILS_OK and the D-die start-up sequence begins. -/
  | railsOk
  /-- WDOG_START (R91): A write of RSTC_WDOGn_CTL.EN starts watchdog n with its TIMEOUT. -/
  | wdogStart (n : Fin 2) (ctl : Word)
  /-- WDOG_KICK (R91): A write of the kick key reloads the watchdog, and any other value counts as an expiry. -/
  | wdogKick (n : Fin 2) (value : Word)
  /-- WDOG_EXPIRY (R91): A watchdog expires, warning at the first expiry and resetting at the second. -/
  | wdogExpiry (n : Fin 2)
  /-- SOFTWARE_RESET (R85): A keyed write of RSTC_SWRST requests a UNIT or WARM reset, refused for protected units. -/
  | softwareReset (unit : BitVec 8) (key : BitVec 16)
  /-- REMOTE_AUTH (R93): A write of RSTC_REMOTE_AUTH offers the authorisation word for a remote reset. -/
  | remoteAuth (word : Word) (node : BitVec 8) (bcast : Bool)
  /-- REMOTE_CMD (R94): A write of RSTC_REMOTE_CMD resets the named unit if authorised, or counts a failure. -/
  | remoteCmd (unit node : BitVec 8) (bcast : Bool)
  /-- UNIT_IDLE_ACK (R88): A unit acknowledges the idle request, so RSTC asserts its reset. -/
  | unitIdleAck (unit : BitVec 8)
  /-- IDLE_TIMEOUT (R88): No idle acknowledgement within RSTC_IDLE_TO resets the unit anyway and reports IDLE_TIMEOUT. -/
  | idleTimeout (unit : BitVec 8)
  /-- RESET_ASSERT_END (R87): After 16 RC100 cycles of assertion the unit's clock is switched back to its functional source. -/
  | resetAssertEnd (unit : BitVec 8)
  /-- UNIT_RELEASE (R89): After 64 stable functional clock cycles RSTC releases the unit, which applies its own release rules. -/
  | unitRelease (unit : BitVec 8)
  /-- CLOCK_NOT_READY (R89): A unit whose clock is not ready 1 ms after assertion stays in reset and is reported. -/
  | clockNotReady (unit : BitVec 8)
  /-- LOG_CLEAR (R107): A write of RSTC_LOG_HEAD.CLR empties the reset-cause log. -/
  | logClear
  /-- LOADER_RUN (R115): The loader reads the directory, slot, firmware and record, checks them, and applies or falls back. -/
  | loaderRun
  /-- FLASH_TIMEOUT (R116): The flash giving no answer for 10 ms ends the loader attempt with FLASH_TIMEOUT. Which attempts of the loader find no answer -/
  | flashTimeout (first second : Bool)
  /-- CFG_OPEN (R120): CFG_CMD.OPEN opens a staging session. -/
  | cfgOpen
  /-- CFG_CHECK (R120): CFG_CMD.CHECK starts the consistency check. -/
  | cfgCheck
  /-- CFG_APPLY_NOW (R123): CFG_CMD.APPLY_NOW checks if needed and sets the apply at the next cycle boundary. -/
  | cfgApplyNow
  /-- CFG_APPLY_AT (R123): CFG_CMD.APPLY_AT checks if needed and sets the apply at CFG_APPLY_T, refused while the floor is 1. -/
  | cfgApplyAt
  /-- CFG_ABORT (R131): CFG_CMD.ABORT returns an ARMED hub to OPEN. -/
  | cfgAbort
  /-- CFG_DISCARD (R120): CFG_CMD.DISCARD drops the staged changes and goes to SYNC. -/
  | cfgDiscard
  /-- SHADOW_WRITE (R121): A write to a shadow register or bank is accepted only in OPEN, otherwise refused with CFG_SHADOW_LOCKED. -/
  | shadowWrite (who : Who) (off : BitVec 24) (value : Word)
  /-- CONSISTENCY_CHECK_DONE (R122): The consistency check ends, moving to ARMED or back to OPEN with CFG_CHECK_RES written. -/
  | consistencyCheckDone
  /-- APPLY (R124): At the apply instant every shadow is copied to its active register and every table swaps in one cycle. -/
  | apply
  /-- APPLY_SYNC_DONE (R119): The copy of active state into the shadows ends and CFG enters IDLE. -/
  | applySyncDone
  /-- ARM_TIMEOUT (R131): The arm timeout returns an ARMED hub without an apply instant to OPEN and reports COMMIT_ABANDONED. -/
  | armTimeout
  /-- PREPARE (R127): A PREPARE commit message makes the hub check and arm and answer READY or NOT_READY. The commit, its GUARD, the node and chip that sent it -/
  | prepare (cid : BitVec 16) (guard : DWord) (node : BitVec 8) (chip : Fin 4)
  /-- GO (R128): A GO message with a matching CID sets the apply at T, or is answered DONE, ignored or counted late. The commit, its T, the node and chip that sent it -/
  | go (cid : BitVec 16) (time : DWord) (node : BitVec 8) (chip : Fin 4)
  /-- ABORT (R131): An ABORT commit message with a matching CID returns an ARMED hub to OPEN. -/
  | cfgAbortMsg (cid : BitVec 16)
  /-- GUARD_EXPIRY (R130): A hub still ARMED at the GUARD boundary sends MISSED and reports COMMIT_MISSED. -/
  | guardExpiry
  /-- SIGNAL_DETECT (R151): Signal detect for 10 us moves a lane from DETECT to CDR. -/
  | signalDetect (lane : Fin 4) (present : Bool)
  /-- CDR_LOCK (R151): CDR lock with the CTLE converged moves the lane to ALIGN. The lane and the equaliser's adapted values -/
  | cdrLock (lane : Fin 4) (ctle : BitVec 4) (dfe : BitVec 30)
  /-- ALIGN_SLIP (R146): A write of LANE_ALIGN.SLIP moves the receive boundary by one bit. -/
  | alignSlip (lane : Fin 4)
  /-- ALIGN_WINDOW (R146): A 32-block window of sync headers completes, writing HDR_CNT and LOCK. Bit i: the (i+1)-th sync header of the window is valid -/
  | alignWindow (lane : Fin 4) (hdrs : BitVec 32)
  /-- ALIGN_DONE (R146): A write of LANE_ALIGN.DONE with LOCK 1 ends ALIGN. -/
  | alignDone (lane : Fin 4)
  /-- ALIGN_TIMEOUT (R147): ALIGN not ended within 1 ms takes the lane down with ALIGN_TIMEOUT. -/
  | alignTimeout (lane : Fin 4)
  /-- HELLO_TX (R151): The lane sends a HELLO training message on its period. -/
  | helloTx (lane : Fin 4)
  /-- HELLO (R152): A good peer HELLO is stored, checks roles and version and drives training or a peer change. -/
  | hello (lane : Fin 4) (ver cap rates role mode node : BitVec 8) (seq : BitVec 16) (uid : BitVec 48)
  /-- RATE_REQ_TX (R155): In STEP each end sends RATE_REQ every 10 us. -/
  | rateReqTx (lane : Fin 4)
  /-- RATE_REQ (R155): A received RATE_REQ is answered with RATE_ACK or RATE_NAK. -/
  | rateReq (lane : Fin 4) (target : BitVec 8)
  /-- RATE_ACK (R155): A RATE_ACK, once also sent, idles the transmitter and relocks the PLL at the target rate. -/
  | rateAck (lane : Fin 4) (target : BitVec 8)
  /-- RATE_NAK (R155): A RATE_NAK returns both ends to HELLO. -/
  | rateNak (lane : Fin 4)
  /-- PLL_RELOCK (R151): The lane PLL relocks at the target rate and the lane enters CDR. -/
  | pllRelock (lane : Fin 4)
  /-- QUALIFY_DONE (R151): 1 ms clean in QUALIFY brings the lane UP. -/
  | qualifyDone (lane : Fin 4)
  /-- TRAIN_TIMEOUT (R151): A training state bound passes, taking the lane down and possibly failing the rate. -/
  | trainTimeout (lane : Fin 4)
  /-- STEP_CONDITION (R155): The step condition of a lane holds after STEP_HOLD, so the lane enters STEP. -/
  | stepCondition (lane : Fin 4)
  /-- RATE_FAIL_HOLDOFF (R151): 1 s after cause RATE_FAIL a lane in FAULT returns to DETECT. -/
  | rateFailHoldoff (lane : Fin 4)
  /-- LANE_DOWN (R149): A down cause takes a lane down, logs it, reports LANE_DOWN and starts RF blocks. 0 LOS, 1 HDR, 2 CDR -/
  | laneDown (lane : Fin 4) (cause : Fin 3)
  /-- RF_RX (R150): Reception of RF blocks sets RF_RX and LANE_EVT.RF. The lane and the cause in the RF block -/
  | rfRx (lane : Fin 4) (cause : BitVec 8)
  /-- RF_CLEAR (R150): 64 blocks without RF clear RF_RX. -/
  | rfClear (lane : Fin 4)
  /-- V1_PROBE_SWITCH (R158): The GH-320 probe alternates the lane between code 0 and code 2. -/
  | v1ProbeSwitch (lane : Fin 4)
  /-- HOST_LINK_STATE (R159): The clause 49 host link goes up or down and LANE_STAT.UP follows. The CDR holds lock, block lock holds, and a fault is received -/
  | hostLinkState (cdr blk fault : Bool)
  /-- EYE_START (R145): A write of LANE_EYE_CTL.START begins an eye measurement. The word written to LANE_EYE_CTL, START apart -/
  | eyeStart (lane : Fin 4) (ctl : Word)
  /-- EYE_DONE (R145): The eye measurement ends and writes ERRS and DONE. -/
  | eyeDone (lane : Fin 4) (errs : Word)
  /-- PAT_CTL_WRITE (R161): A write of LANE_PAT_CTL starts or stops the generator and checker, taking the lane down at raw level. The word written, and the bits counted up to the write -/
  | patCtlWrite (lane : Fin 4) (ctl : Word) (checked errored : BitVec 48)
  /-- CHK_LOCK (R160): The pattern checker locks after its run of error-free bits. -/
  | chkLock (lane : Fin 4)
  /-- PAT_LOCK_LOST (R160): Too many errored bits clear CHK_LOCK and the checker reseeds. -/
  | patLockLost (lane : Fin 4) (checked errored : BitVec 48)
  /-- FRAME_RX (R205): A frame arrives whole on a lane and is checked, decided and queued or dropped. The lane, the class in the SOF block, the frame, its trailer, and how long ago the SOF reached the lane in units of 1/1,024 ns -/
  | frameRx (lane : Fin 4) (sofClass : Fin 8) (frame : Frame) (trailer : DWord) (age : BitVec 32)
  /-- FRAME_ORIGINATE (R208): A frame originated at LOC is written into cells and queued once its queues have space. What the frame says (SRC, SEQ, TSTAMP and PLEN are the hub's to fill in) and its producer: 0 to 4 the requesters of R410, 5 RPE and CFG, 6 RED, 7 TIME, 8 responses, 16 + q stream queue q -/
  | frameOriginate (frame : Frame) (prod : BitVec 8)
  /-- FRAME_TX (R175): A free lane begins the next eligible frame under class order, windows and BULK cap. The lane, where in the ECLK cycle the SOF leaves in units of 1/1,024 ns, whether it has left when an unreadable cell shows, and the bit flips of a cell word -/
  | frameTx (lane : Fin 4) (frac : BitVec 12) (sof : Bool) (upset : Option Upset)
  /-- SCHED_WINDOW (R198): A schedule window of a slot opens on a ring lane for scheduled frames. The ring lane and the slot -/
  | schedWindow (lane : Fin 2) (slot : Fin 512)
  /-- SCHED_STALE (R199): A scheduled frame still waiting past MAXAGE cycles is dropped and reported. The egress port -/
  | schedStale (port : Fin 5)
  /-- CYCLE_BOUNDARY (R196): A 125 us cycle boundary advances RPE_CYCLE, pulses STACK_SYNC, closes cycle items and resets shares. -/
  | cycleBoundary
  /-- LOC_DELIVER (R179): A frame leaves LOC for a stream queue, mailbox, host bridge or block. The queue of LOC: classes 7, 6, 5 responses, 5 requests, 4, BULK3 to BULK0; and the bit flips of a cell word -/
  | locDeliver (qi : Fin 9) (upset : Option Upset)
  /-- CALL (R186): RPE_CEN_CMD.CALL at the head-end starts a census round out of E and W. -/
  | censusCall
  /-- ASSIGN (R188): RPE_CEN_CMD.ASSIGN at the head-end sends the ASSIGN built in RPE_CEN_ASGN. RPE_CEN_CMD.COUNT -/
  | assign (count : BitVec 8)
  /-- CALL_RX (R186): A hub receives a CALL, appends its entry and forwards or returns it, or the head-end stores the list. -/
  | callRx (lane : Fin 2) (frame : Frame)
  /-- ASSIGN_RX (R187): A newer ASSIGN gives the hub its node number, floor, profile and rate. -/
  | assignRx (frame : Frame)
  /-- FLOOR_CHANGE (R187): A changed ring floor takes effect at the next cycle boundary. -/
  | floorChange
  /-- CENSUS_TIMEOUT (R186): 20 ms after a CALL, CEN_DONE is set even without both lists. -/
  | censusTimeout
  /-- BEACON_TX (R190): The acting head-end sends a BEACON every BEACON ms. -/
  | beaconTx
  /-- BEACON_RX (R190): A received BEACON is checked against the hub's ROUND and may cause a NOTE. -/
  | beaconRx (lane : Fin 2) (frame : Frame)
  /-- BEACON_LOST (R190): No BEACON through a lane for three periods sets BEACON_LOST. -/
  | beaconLost
  /-- NOTE_RX (R191): The head-end receives a NOTE and sets NOTE_RX. -/
  | noteRx
  /-- RSP_TIMEOUT (R183): A non-posted request without response within RSP_TO ends with TIMEOUT and releases its credit. The TAG of the request that has waited for RSP_TO -/
  | rspTimeout (tag : BitVec 16)
  /-- READ (R410): A fabric READ request is performed at its target and answered with data. The request frame at LOC -/
  | fabRead (frame : Frame)
  /-- WRITE (R412): A fabric WRITE is performed at its target and answered only on failure. The request frame at LOC -/
  | fabWrite (frame : Frame)
  /-- SWAP (R410): A fabric SWAP is executed indivisibly in the target store and answered with the old value. The request frame at LOC -/
  | fabSwap (frame : Frame)
  /-- ADD (R410): A fabric ADD is executed indivisibly in the target store and answered with the old value. The request frame at LOC -/
  | fabAdd (frame : Frame)
  /-- CAS (R410): A fabric CAS is executed indivisibly in the target store and answered with the old value. The request frame at LOC -/
  | fabCas (frame : Frame)
  /-- FENCE (R415): A fabric FENCE is answered after every earlier request from the same requester is performed. The request frame at LOC -/
  | fabFence (frame : Frame)
  /-- FABRIC_RESPONSE_RX (R412): A response reaches its requester and completes the non-posted request. The response frame at LOC -/
  | fabricResponseRx (frame : Frame)
  /-- MARK_RX (R216): A drain marker returns to its source, closing the drain and releasing held frames. The marker's payload word -/
  | markRx (word : DWord)
  /-- DRAIN_TIMEOUT (R216): A drain still open after DRAIN_TO releases its frames and reports DRAIN_TIMEOUT. The pinned queue and the direction left -/
  | drainTimeout (q : Fin 6) (frm : Fin 2)
  /-- FWD_FENCE_START (R223): A write of FWD_FENCE.START records GEN and begins waiting for older frames. -/
  | fwdFenceStart
  /-- FWD_FENCE_DONE (R223): No frame of an older generation remains and the FWD fence completes. -/
  | fwdFenceDone
  /-- FWD_FENCE_TIMEOUT (R223): The FWD fence times out with LEFT holding the older frames still present. -/
  | fwdFenceTimeout
  /-- RING_LOSS (R239): RED declares a ring direction LOST, logs, reports, starts the wrap and sends BREAK. The direction: 0 CW, 1 CCW -/
  | ringLoss (dir : Fin 2)
  /-- WRAP_DONE (R240): Every frame queued on the lost lane has been moved or dropped and the wrap is complete. -/
  | wrapDone (dir : Fin 2)
  /-- BREAK_REPEAT (R243): RED repeats the BREAK every 1 ms while the direction is lost. -/
  | breakRepeat (dir : Fin 2)
  /-- BREAK_RX (R244): A received BREAK updates FWD_REACH and its record and opens a gap window. The direction lost at the sender, the sender and the frame's HOPS -/
  | breakRx (lost : Fin 2) (node : BitVec 8) (chip : Fin 4) (hops : BitVec 10)
  /-- RESTORE_RX (R244): A RESTORE from the recorded sender returns FWD_REACH to 255. -/
  | restoreRx (lost : Fin 2) (node : BitVec 8) (chip : Fin 4)
  /-- BREAK_RECORD_EXPIRY (R244): 5 ms without a BREAK from the recorded sender ends the record. -/
  | breakRecordExpiry (lost : Fin 2)
  /-- GAP_WINDOW_CLOSE (R245): The gap window closes and engine outputs follow their engines again. The window: 0 CW loss, 1 CCW loss, 2 BREAK -/
  | gapWindowClose (w : Fin 3)
  /-- RETURN_HOLD_EXPIRY (R238): RETURN_HOLD spent in RETURN brings the direction UP and starts the unwrap hold. -/
  | returnHoldExpiry (dir : Fin 2)
  /-- UNWRAP_HOLD_END (R246): The unwrap hold ends and held frames are released in decision order. -/
  | unwrapHoldEnd (dir : Fin 2)
  /-- ANCHOR_IN_CHANGE (R249): A filtered change of ANCHOR_IN moves the anchor state machine. -/
  | anchorInChange (level : Bool)
  /-- CLAIM_CONFIRM (R249): ANCHOR_IN low for the confirm time moves CLAIM to HOLD. -/
  | claimConfirm
  /-- YIELD_SETTLE (R249): 64 cycles after forcing its pins a yielding twin enters YIELDED and drops ANCHOR_OUT. -/
  | yieldSettle
  /-- YIELDED_TIMEOUT (R249): 10 ms in YIELDED without ANCHOR_IN high returns to STANDBY and may reclaim. -/
  | yieldedTimeout
  /-- SECOND_CLAIM_DELAY (R251): SECOND claims after ANCHOR_IN has been low for 100 ms. -/
  | secondClaimDelay
  /-- TAKE (R251): RED_TWIN_CMD.TAKE makes a STANDBY twin claim the anchor. -/
  | twinTake
  /-- YIELD (R252): RED_TWIN_CMD.YIELD makes a holding twin yield. -/
  | twinYield
  /-- REVERT (R257): RED_TWIN_CMD.REVERT on LEAD sends revert requests at once. -/
  | twinRevert
  /-- UNLOCK (R252): RED_TWIN_CMD.UNLOCK clears YLOCK. -/
  | twinUnlock
  /-- BEAT_TX (R250): A healthy twin pulls TWIN_BEAT low at its phase of the cycle. -/
  | beatTx
  /-- BEAT_RX (R250): A partner beat or revert request pulse is seen on TWIN_BEAT. Whether the pulse lasted 3 us or more -/
  | beatRx (request : Bool)
  /-- BEAT_LOST (R250): 4 cycles without the partner's pulse clear PARTNER_BEAT and report TWIN_BEAT_LOST. -/
  | beatLost
  /-- TWIN_STUCK (R253): ANCHOR_IN high for 10 ms without partner beat reports TWIN_STUCK. -/
  | twinStuck
  /-- REVERT_HOLDOFF_EXPIRY (R257): The revert hold-off expires and LEAD requests the anchor or defers to PROOF. -/
  | revertHoldoffExpiry
  /-- REVERT_REQUEST_END (R257): LEAD stops its revert request pulses after at most 10 ms. -/
  | revertRequestEnd
  /-- OVERLAP_END (R255): OVERLAP us after leaving HOLD a twin stops sending twin-flow frames. -/
  | overlapEnd
  /-- SYNC_TX (R272): A grandmaster sends a one-step Sync on its PTP ports every interval. The port: 0 E, 1 W, 2 S0 -/
  | syncTx (port : Fin 3)
  /-- SYNC_RX (R273): A received Sync is forwarded with correction and, if counting, steers the servo. The port, the frame, and how long ago its SOF reached the lane, in 1/1,024 ns -/
  | syncRx (port : Fin 4) (frame : Frame) (age : BitVec 32)
  /-- SYNC_LOSS (R274): No counting Sync for LOSS_N intervals switches the slave port or enters HOLDOVER. -/
  | syncLoss (port : Fin 4)
  /-- PDELAY_REQ_TX (R269): TIME sends a Pdelay_Req on each PTP port on its period. -/
  | pdelayReqTx (port : Fin 4)
  /-- PDELAY_REQ_RX (R269): A received Pdelay_Req is answered with a one-step Pdelay_Resp. -/
  | pdelayReqRx (port : Fin 4) (frame : Frame) (age : BitVec 32)
  /-- PDELAY_RESP_RX (R269): A received Pdelay_Resp completes an exchange and updates the link delay and PD_VALID. -/
  | pdelayRespRx (port : Fin 4) (frame : Frame) (age : BitVec 32)
  /-- PDELAY_TIMEOUT (R269): A Pdelay_Resp missing for 10 ms makes the exchange invalid. -/
  | pdelayTimeout (port : Fin 4)
  /-- PTP_MESSAGE_RX (R266): An Announce, Signaling or Management message is forwarded and delivered to M0, or an unsupported one dropped. -/
  | ptpMessageRx (port : Fin 4) (frame : Frame) (age : BitVec 32)
  /-- TIME_SET (R277): A write of TIME_SET requests a step to the given value. -/
  | timeSet (value : DWord)
  /-- TIME_ADJ (R277): A write of TIME_ADJ adds a signed value to the pending step. -/
  | timeAdj (ticks : Word)
  /-- TIME_STEP (R277): The spindle steps at a cycle boundary and TIME_STEP is reported. -/
  | timeStep
  /-- SPINDLE_READ (R264): A read of TIME_SPINDLE returns the spindle, latching the high word on a low-word read. The requester, and 0 for a 64-bit read, 1 for the low word, 2 for the high word -/
  | spindleRead (who : Who) (part : Fin 3)
  /-- REF_SWITCH (R278): After 1 s of lock CKG moves the PLL reference to the slave lane's recovered clock. -/
  | refSwitch
  /-- REF_REVERT (R278): The slave lane leaving UP freezes the PLL control and moves the reference back to REFCLK. -/
  | refRevert
  /-- PPS_OUT_RISE (R279): PPS_OUT rises at each whole second plus PPS_OFS. -/
  | ppsOutRise
  /-- PPS_OUT_FALL (R279): PPS_OUT falls WIDTH ms after its rise. -/
  | ppsOutFall
  /-- PPS_IN_EDGE (R280): A PPS_IN edge is captured and may steer or step a grandmaster. The part past the ECLK edge in 62.5 ps -/
  | ppsInEdge (frac : BitVec 6)
  /-- PPS_LOST (R280): No PPS_IN edge for 2 s sets PPS_LOST and freezes the trim. -/
  | ppsLost
  /-- FE_CALIBRATE (R281): TIME calibrates each fine-edge delay line every 1 ms. -/
  | feCalibrate (pin : Fin 4) (good : Bool)
  /-- MCG_EDGE (R282): A media clock generator reaches an edge time, giving a tick and pin edges. The generator, and whether the edge is the falling one of its pin -/
  | mcgEdge (n : Fin 4) (fall : Bool)
  /-- DEADLINE_LOG (R285): TIME takes a queued deadline miss into the deadline log. -/
  | deadlineLog
  /-- DL_CLEAR (R285): A write of TIME_DL_HEAD.CLR empties the deadline log. -/
  | dlClear
  /-- NOP (R307): Engine instruction NOP does only its gate, marker and loop-back. The engine -/
  | nop (n : Fin 16)
  /-- JMP (R308): Engine instruction JMP jumps when its condition holds. The engine and the levels of PIO0 to PIO63 that it sees in the cycle -/
  | jmp (n : Fin 16) (seen : DWord)
  /-- WAIT (R309): Engine instruction WAIT executes when its condition holds and writes TCAP. -/
  | wait (n : Fin 16) (seen : DWord)
  /-- SHIFT (R310): Engine instruction SHIFT moves bits out of or into SR through the slots. -/
  | shift (n : Fin 16) (seen : DWord)
  /-- PULL (R313): Engine instruction PULL moves TX FIFO words to a register, adding a pilot sample with P. -/
  | pull (n : Fin 16)
  /-- PUSH (R315): Engine instruction PUSH appends a value to the RX FIFO. -/
  | push (n : Fin 16)
  /-- MOV (R316): Engine instruction MOV writes a transformed source to a destination. -/
  | movReg (n : Fin 16) (seen : DWord)
  /-- SET (R317): Engine instruction SET writes slot levels or output enables. -/
  | setReg (n : Fin 16)
  /-- EDGE (R318): Engine instruction EDGE sets a fine-edge pin level at step K. -/
  | edge (n : Fin 16)
  /-- LDI (R319): Engine instruction LDI loads an immediate. -/
  | ldi (n : Fin 16)
  /-- ALU (R320): Engine instruction ALU computes into a scratch register and sets Z. -/
  | alu (n : Fin 16) (seen : DWord)
  /-- TEST (R321): Engine instruction TEST compares with CMP and sets EQ and LT. -/
  | testFlag (n : Fin 16) (seen : DWord)
  /-- FLAG (R322): Engine instruction FLAG sets, clears or toggles an event flag, optionally raising GG_FLAG. -/
  | flag (n : Fin 16)
  /-- CLKR (R323): Engine instruction CTL CLKR restarts the engine clock. -/
  | clkr (n : Fin 16)
  /-- HALT (R323): Engine instruction CTL HALT stops the engine at its boundary. -/
  | halt (n : Fin 16)
  /-- JMPX (R323): Engine instruction CTL JMPX jumps to a scratch register value. -/
  | jmpx (n : Fin 16)
  /-- GG_ILLEGAL (R297): An illegal instruction halts the engine and reports GG_ILLEGAL. -/
  | ggIllegal (n : Fin 16)
  /-- INSTRUCTION_SKIP (R300): A late stamped instruction with LATE 1 is skipped, advancing only TB for GATE 3, and reported. -/
  | instructionSkip (n : Fin 16)
  /-- GG_START (R331): GG_CTL.START starts an engine fresh. -/
  | ggStart (n : Fin 16)
  /-- GG_STOP (R303): GG_CTL.STOP stops an engine at its boundary or in its stall. -/
  | ggStop (n : Fin 16)
  /-- GG_RESUME (R330): GG_CTL.RESUME resumes a stopped or HALT-halted engine. -/
  | ggResume (n : Fin 16)
  /-- GG_CLKR (R331): GG_CTL.CLKR restarts an engine clock in any state. -/
  | ggClkr (n : Fin 16)
  /-- FIFO_CLR (R330): GG_CTL.FIFO_CLR empties both FIFOs of an engine. -/
  | fifoClr (n : Fin 16)
  /-- GROUP_DISARM (R334): GG_GCMD OP 0 disarms a group. -/
  | groupDisarm (g : Fin 4)
  /-- GROUP_START (R333): GG_GCMD START starts every group member in one cycle, or arms it with AT_TIME. -/
  | groupStart (g : Fin 4) (atTime : Bool)
  /-- GROUP_STOP (R333): GG_GCMD STOP stops every group member, or arms it with AT_TIME. -/
  | groupStop (g : Fin 4) (atTime : Bool)
  /-- GROUP_RESUME (R333): GG_GCMD RESUME resumes every group member, or arms it with AT_TIME. -/
  | groupResume (g : Fin 4) (atTime : Bool)
  /-- GROUP_CLKR (R333): GG_GCMD CLKR restarts every group member's clock, or arms it with AT_TIME. -/
  | groupClkr (g : Fin 4) (atTime : Bool)
  /-- GROUP_TIMED_FIRE (R334): An armed group command acts at GG_GTIMEg, late if its time had passed. -/
  | groupTimedFire (g : Fin 4)
  /-- GG_TXF_WRITE (R325): A write of GG_TXF appends a word to the TX FIFO or is refused. -/
  | ggTxfWrite (n : Fin 16) (word : Word)
  /-- GG_RXF_READ (R325): A read of GG_RXF pops the oldest RX word or returns 0. -/
  | ggRxfRead (n : Fin 16) (who : Who)
  /-- GG_INJ (R338): A write of GG_INJ injects one instruction at the next boundary. -/
  | ggInj (n : Fin 16) (word : Word)
  /-- GG_INJ_FORCE (R341): A write of GG_INJ_FORCE abandons a stalled instruction and injects. -/
  | ggInjForce (n : Fin 16) (word : Word)
  /-- GG_IMEM_WRITE (R337): A write of GG_IMEMw changes instruction word w in place. -/
  | ggImemWrite (n : Fin 16) (w : Fin 64) (word : Word)
  /-- EF_SET (R322): A write of GG_EF_SET sets event flags. -/
  | efSet (mask : BitVec 16)
  /-- EF_CLR (R322): A write of GG_EF_CLR clears event flags. -/
  | efClr (mask : BitVec 16)
  /-- MOVER_TX_WORD (R329): A queue mover writes the next committed word into an engine's TX FIFO. The stream queue -/
  | moverTxWord (q : Fin 64)
  /-- MOVER_RX_WORD (R329): A queue mover takes a word from an engine's RX FIFO into its queue. -/
  | moverRxWord (q : Fin 64)
  /-- FLUSH (R348): SQ_CMDq.FLUSH sets FLUSH_PEND. -/
  | flush (q : Fin 64)
  /-- FLUSH_TAKE_EFFECT (R348): At the consumer's packet boundary the flush discards committed items not begun. -/
  | flushTakeEffect (q : Fin 64)
  /-- LOST_CLR (R349): SQ_CMDq.LOST_CLR sets the lost count to 0. -/
  | lostClr (q : Fin 64)
  /-- ADV (R347): SQ_CMDq.ADV releases the item software has begun. -/
  | adv (q : Fin 64)
  /-- COMMIT (R344): SQ_CMDq.COMMIT closes a software-produced item of NW words. -/
  | sqCommit (q : Fin 64) (nw : BitVec 10)
  /-- SQ_HEAD_READ (R347): A read of SQ_HEADq returns the head descriptor and begins that item. -/
  | sqHeadRead (q : Fin 64) (who : Who)
  /-- LOC_CONSUMER_TAKE (R351): A LOC consumer takes its head item into cells and offers the frame to FWD. -/
  | locConsumerTake (q : Fin 64)
  /-- CREDIT_ACK_RX (R352): A credit acknowledgement returns one credit to its sending queue. -/
  | creditAckRx (q : Fin 64)
  /-- CRED_TO (R352): An unacknowledged item past RSP_TO restores its credit and sets CRED_TO. -/
  | credTo (q : Fin 64)
  /-- SCI_SAMPLE (R365): A contact input sample is measured, banded and debounced. The input and the converter's code -/
  | sciSample (n : Fin 8) (code : BitVec 16)
  /-- ACTION_QUEUE_DRAIN (R370): Actions held in WATCH are carried out after the engines resume. -/
  | actionQueueDrain
  /-- PLAYQ_READ (R372): A read of LSV_PLAYQ returns and removes the oldest posted message number. -/
  | playqRead (who : Who)
  /-- LS_WINDOW_END (R377): A 100 ms measurement window ends and the channel's impedance and status are written. The channel and the window's phasors, signed, in 1/4,096 code -/
  | lsWindowEnd (n : Fin 8) (vre vim ire iim : Word)
  /-- CAPTURE (R382): LSV_LSn_CMD.CAPTURE starts a baseline capture over 8 windows. -/
  | capture (n : Fin 8)
  /-- SWEEP (R383): LSV_LSn_CMD.SWEEP starts a pilot frequency sweep. -/
  | sweep (n : Fin 8)
  /-- CAN_INTEGRATED (R391): 11 recessive bits in INTEGRATING bring a CAN port to ACTIVE or LISTEN. -/
  | canIntegrated (port : Fin 4)
  /-- CAN_FRAME_RX (R395): A valid CAN frame is stored in its matching receive object or counted NOMATCH. The port, the frame, and the spindle at its SOF edge -/
  | canFrameRx (port : Fin 4) (id : BitVec 29) (ide fdf brs esi rtr : Bool) (dlc : BitVec 4) (data : List Byte) (sof : DWord)
  /-- TX_REQ (R398): MBn_TXCMD.REQ makes a transmit object pending. -/
  | txReq (port : Fin 4) (index : BitVec 11)
  /-- TX_ABORT (R400): MBn_TXCMD.ABORT fails a pending object now or after its frame. -/
  | txAbort (port : Fin 4) (index : BitVec 11)
  /-- CAN_ARBITRATION (R398): At a start of arbitration the port offers its highest-priority pending object. The port, whether the offered frame wins the bus, and the spindle at the SOF edge -/
  | canArbitration (port : Fin 4) (won : Bool) (sof : DWord)
  /-- CAN_TX_END (R399): A transmission ends DONE or FAIL and clears its pending bit. The port, whether the frame became valid, and the transmitter delay measured in CANCLK cycles -/
  | canTxEnd (port : Fin 4) (good : Bool) (delay : BitVec 16)
  /-- CAN_ERROR (R401): A detected bus error updates TEC, REC, the error state and the error log. The error, and whether ISO 11898-1 exempts it from the error counts -/
  | canError (port : Fin 4) (kind : Fin 5) (field : Fin 7) (dphase tx exempt : Bool)
  /-- RESTART (R403): MBn_CMD.RESTART starts bus-off recovery. -/
  | restart (port : Fin 4)
  /-- CAN_RECOVERED (R403): The 128th recessive sequence ends recovery and the port becomes error active. -/
  | canRecovered (port : Fin 4)
  /-- STATUS (R420): QSPI command STATUS returns HBR_HST. -/
  | qspiStatus
  /-- IDENT (R420): QSPI command IDENT returns the part, stepping and unit ID. -/
  | qspiIdent
  /-- QSPI_WRITE (R420): QSPI command WRITE posts a write through the post buffer. The fabric address, N and the data bytes in address order -/
  | qspiWrite (addr : BitVec 48) (n : Fin 64) (data : List Byte)
  /-- READ_REQ (R420): QSPI command READ_REQ issues a read under a host tag. The tag, the fabric address and N -/
  | readReq (tag : Fin 8) (addr : BitVec 48) (n : Fin 64)
  /-- READ_GET (R420): QSPI command READ_GET returns a tag's result and frees it. The tag -/
  | readGet (tag : Fin 8)
  /-- AMO (R420): QSPI command AMO issues an atomic operation under a host tag. The tag, OP less 3, SIZE less 2, the fabric address and the operand words -/
  | amo (tag : Fin 8) (op : Fin 3) (size : Fin 2) (addr : BitVec 48) (data : List DWord)
  /-- QSPI_FENCE (R420): QSPI command FENCE starts the host's write fence. -/
  | qspiFence
  /-- FENCE_GET (R420): QSPI command FENCE_GET returns the host fence status and first failure address. -/
  | fenceGet
  /-- HOST_FRAME_RX (R421): A host-lane Ethernet frame is accepted and its records issued as requests. Destination and source address as MAC_HI and MAC_LO hold one, the EtherType, the length with FCS, whether a VLAN tag is present, whether the FCS is good, and the payload in words -/
  | hostFrameRx (dst src : BitVec 48) (etherType len : BitVec 16) (vlan good : Bool) (payload : List DWord)
  /-- HOST_RESPONSE_TX (R422): HBR sends a response frame of packed records at least every 10 us while responses wait. -/
  | hostResponseTx
  /-- FENCE_START (R415): HBR_FENCE_r_CTL.START flips the EPOCH and issues FENCE requests to the destination set. -/
  | fenceStart (r : Fin 5)
  /-- FENCE_COMPLETE (R416): All FENCE responses arrive and the fence ends with DONE and FAIL as needed. -/
  | fenceComplete (r : Fin 5)
  /-- POSTED_WR_FAIL (R414): A failure response to a posted write is logged, reported and counted against the fence. -/
  | postedWrFail (tag : BitVec 16) (status : BitVec 8) (addr : BitVec 48)
  /-- SEM_READ (R417): A read of HBR_SEMk takes a free semaphore or returns its holder. -/
  | semRead (k : Fin 32) (who : Who)
  /-- SEM_WRITE (R418): A write of HBR_SEMk by the holder frees it, otherwise it is refused. -/
  | semWrite (k : Fin 32) (who : Who)
  /-- SEM_EXPIRED (R418): A semaphore held longer than HOLD_MS is freed and reported. -/
  | semExpired (k : Fin 32)
  /-- CLAIM (R429): A write of INTC_CLAIM moves pending sources to active for a target. The word written to INTC_CLAIM_t_w -/
  | intcClaim (t : Fin 3) (w : Fin 8) (mask : Word)
  /-- DONE (R429): A write of INTC_DONE completes active sources and re-samples level sources. The word written to INTC_DONE_t_w -/
  | intcDone (t : Fin 3) (w : Fin 8) (mask : Word)
  /-- SWI (R426): A write of INTC_SWI raises software edge interrupts. The bits written to INTC_SWI -/
  | swi (mask : BitVec 8)
  /-- COALESCE_TIMEOUT (R435): A holding coalescing group's timer reaches TIME and the group releases. The group whose timer ends -/
  | coalesceTimeout (g : Fin 16)
  /-- FAULT_PROCESS (R444): FLT processes a queued fault message, matching rules, recording and acting. -/
  | faultProcess
  /-- FAULT_RECORD_CLOSE (R448): A write of FLT_OPEN closes and frees fault records. -/
  | faultRecordClose (mask : BitVec 16)
  /-- FAULT_RECORD_READ (R448): A read of FLT_RECn_W0 latches the other words of that record. -/
  | faultRecordRead (n : Fin 16) (word : Fin 8) (who : Who)
  /-- SAFE_CLR (R445): FLT_CMD.SAFE_CLR ends the safe outputs. -/
  | safeClr
  /-- FAULT_INJECT (R450): A write of FLT_INJ_W0 with GO in FACTORY TEST injects a fault message. -/
  | faultInject (word : Word) (who : Who)
  /-- LINE_WINDOW_CHANGE (R458): A port side or VBUS enters or leaves its voltage window. 0 side E, 1 side W, 2 VBUS; its class, 0 IN, 1 DEAD, 2 BETWEEN; the side is below 12 V -/
  | lineWindowChange (which : Fin 3) (cls : Fin 3) (low : Bool)
  /-- INS_DLY_EXPIRY (R459): The insertion delay ends and an INFLOW port starts its ramp. -/
  | insDlyExpiry (p : Fin 2)
  /-- DETECTION_DUE (R462): A detection falls due and a SOURCE port starts detecting. -/
  | detectionDue (p : Fin 2)
  /-- DETECTION_DONE (R462): A detection ends with its far resistance and result. V1 and V2 in mV, and whether the side was 2.0 V or above at the start -/
  | detectionDone (p : Fin 2) (v1 v2 : BitVec 17) (bias : Bool)
  /-- RAMP_DONE (R459): Gate-source voltage reaching 10 V moves the port to ON. -/
  | rampDone (p : Fin 2)
  /-- RAMP_TIMEOUT (R468): A ramp passing SS_TO reports LP_GATE and enters RETRY or LATCHED. -/
  | rampTimeout (p : Fin 2)
  /-- FAST_TRIP (R464): Current above 2 x ILIM turns the gate off within 1 us and reports LP_TRIP. The attempt time in us -/
  | fastTrip (p : Fin 2) (ta : BitVec 18)
  /-- FAULT_TIMER_EXPIRY (R464): The current-limit fault timer reaches TFLT, turning the gate off and reporting LP_TIMER. The attempt time in us, for a failure in RAMP -/
  | faultTimerExpiry (p : Fin 2) (ta : BitVec 18)
  /-- OFF_TIME_END (R465): A port's off time ends and it returns to WAIT or LATCHED. -/
  | offTimeEnd (p : Fin 2)
  /-- FET_SHORT (R468): Current through a gated-off port for 1 ms reports LP_GATE and latches. -/
  | fetShort (p : Fin 2)
  /-- PG_BLANK_END (R469): 1 ms of good ON conditions sets the port's PG. -/
  | pgBlankEnd (p : Fin 2)
  /-- FAILS_CLEAR (R465): PG held for 1 s returns FAILS to 0. -/
  | failsClear (p : Fin 2)
  /-- OFF (R459): LPW_Pp_CMD.OFF forces the port to DISABLED. -/
  | lpwOff (p : Fin 2)
  /-- ON (R459): LPW_Pp_CMD.ON clears FORCED. -/
  | lpwOn (p : Fin 2)
  /-- CLEAR (R466): LPW_Pp_CMD.CLEAR takes a latched port to WAIT. -/
  | lpwClear (p : Fin 2)
  /-- DETECT (R462): LPW_Pp_CMD.DETECT makes a detection due now. -/
  | lpwDetect (p : Fin 2)
  /-- LPW_MEASURE (R472): Every 1 ms LPW writes the mean voltages, currents and powers. Means in mV, mA and mW, and energies in uJ -/
  | lpwMeasure (vE vW vBus : BitVec 17) (iE iW : BitVec 16) (pE pW : Word) (inE outE inW outW : Word)
  /-- LPW_APPLY_TAKE (R455): The P-die takes the applied LPW values in one LPW cycle, refusing bad windows. The classes of the sides and VBUS under the new windows -/
  | lpwApplyTake (e w : Fin 3) (lowE lowW bus : Bool)
  /-- SEQ_START (R474): VBUS IN for 1 ms starts the rail sequencer. -/
  | seqStart
  /-- SEQ_STEP (R474): The sequencer raises the next PEN output after STEP. The groups in their windows -/
  | seqStep (inwin : BitVec 4)
  /-- RAIL_TIMEOUT (R475): A group not in its windows within RAIL_TO reports LP_RAIL and lowers the rails. -/
  | railTimeout (n : Fin 4)
  /-- SEQ_RETRY (R475): 1 s after a rail failure the sequencer starts again. -/
  | seqRetry
  /-- LP_RAIL (R475): A monitored rail leaving its window for 100 us after RAILS_OK reports LP_RAIL. -/
  | lpRail (n : Fin 4)
  /-- AON_SUPPLY_LOSS (R477): VHV falling below 20 V stops the always-on supply. -/
  | aonSupplyLoss
  /-- ERASE (R487): UPD command ERASE erases a 64 KiB flash sector. The flash finishes in time -/
  | erase (good : Bool)
  /-- PROGRAM (R487): UPD command PROGRAM writes UPD_BUF to flash and reads it back. -/
  | program (good : Bool)
  /-- UPD_READ (R487): UPD command READ reads 256 B of flash into UPD_BUF. -/
  | updRead
  /-- VERIFY (R484): UPD command VERIFY runs the image check of a slot. -/
  | verify (slot : Fin 2)
  /-- ARM (R487): UPD command ARM writes the directory ARMED for a slot. -/
  | updArm (slot : Fin 2) (good : Bool)
  /-- DISARM (R487): UPD command DISARM writes the directory with STATE NONE. -/
  | updDisarm (good : Bool)
  /-- ACTIVATE (R491): UPD command ACTIVATE arms if needed and starts the trial-boot activation. -/
  | activate (slot : Fin 2) (good : Bool)
  /-- CONFIRM (R492): UPD command CONFIRM makes the trial slot active and stops the trial timer. -/
  | confirm (good : Bool)
  /-- MAC (R487): UPD command MAC computes the device tag over a main-store range. -/
  | updMac
  /-- OTP_PROG (R486): UPD command OTP_PROG programs a key slot hash. -/
  | otpProg (k : Fin 4)
  /-- OTP_REVOKE (R486): UPD command OTP_REVOKE revokes a key slot. -/
  | otpRevoke (k : Fin 4)
  /-- CHECK_ISL (R485): UPD command CHECK_ISL checks the island area hash and sets ISL_OK. -/
  | checkIsl
  /-- DIR_INIT (R487): UPD command DIR_INIT writes both directory copies in recovery. -/
  | dirInit (slot : Fin 2) (good : Bool)
  /-- UPD_COMMAND_END (R487): A UPD command ends, writing UPD_RES and its events. -/
  | updCommandEnd
  /-- OTP_KEY_WRITE (R486): A write of UPD_OTP_KEY unlocks the next OTP command. -/
  | otpKeyWrite (value : Word)
  /-- TRIAL_EXPIRY (R492): The trial timer reaching 0 requests a WARM reset with cause TRIAL_FALLBACK. -/
  | trialExpiry
  /-- PROOF_STEP_END (R496): A proof step ends, records its result and the next step starts or the sequence ends. Per lane, the bits checked and errored since they were last counted -/
  | proofStepEnd (counts : List (BitVec 48 × BitVec 48))
  /-- MBIST (R505): A write of TST_FTCTL.MBIST starts the main store march test. -/
  | mbist (who : Who)
  /-- MBIST_DONE (R505): The store test ends, zeroes the store and sets MBIST_DONE and MBIST_FAIL. -/
  | mbistDone (faulty : Bool)
  /-- BYPASS (R504): JTAG instruction BYPASS. -/
  | bypass
  /-- IDCODE (R504): JTAG instruction IDCODE returns TST_IDCODE. -/
  | idcode
  /-- SAMPLE_PRELOAD (R504): JTAG instruction SAMPLE/PRELOAD. Boundary cells: number, level, output enable -/
  | samplePreload (cells : List (Fin 96 × Bool × Bool))
  /-- EXTEST (R504): JTAG instruction EXTEST drives the boundary cells, forcing ANCHOR_OUT low outside FACTORY TEST. -/
  | extest (cells : List (Fin 96 × Bool × Bool))
  /-- HIGHZ (R504): JTAG instruction HIGHZ. -/
  | highz
  /-- CLAMP (R504): JTAG instruction CLAMP, forcing ANCHOR_OUT low outside FACTORY TEST. -/
  | clamp
  /-- JTAG_PRIVATE (R504): A private JTAG instruction, accepted only in FACTORY TEST. -/
  | jtagPrivate (code : BitVec 8)
  /-- REGISTER_READ (R6): A register read with behaviour of its own: an RC field returns and clears, an unmapped or illegal-width read returns 0 with an error response and a fault, a read of a unit in reset reports UNIT_IN_RESET, and an RSTC or CKG read starts RC100. The requester, the log2 of the bytes, the chip-local offset, and the bit flips that have reached bivouac memory -/
  | registerRead (who : Who) (size : Fin 4) (off : BitVec 38) (upset : List Upset)
  /-- BIVOUAC_ZEROING_DONE (R105): Zeroing of bivouac memory after power-on ends, BIV_STAT.INIT_DONE becomes 1 and waiting accesses proceed. -/
  | bivouacZeroingDone
  /-- REFCLK_ARRIVAL (R98): REFCLK becomes present, so the PLLs can lock, the start-up continues and lanes may train. -/
  | refclkArrival
  /-- INVALID_SYNC_HEADER (R151): An invalid sync header received in QUALIFY returns the lane to CDR, and every invalid header with the CDR locked counts in LANE_HDR_ERRS. -/
  | invalidSyncHeader (lane : Fin 4)
  /-- FRAME_DISCARD (R142): A frame in progress is discarded and counted in LANE_BLK_ERRS on an abort EOF, a misplaced control block, an invalid header inside the frame or more than 260 data blocks, as is a stray data block or an unknown control type. The blocks that arrive, in their order -/
  | frameDiscard (lane : Fin 4) (blocks : List Block)
  /-- QSPI_CUT_SHORT (R420): A QSPI command cut short by CS_N rising has no effect, counts in QSPI_DROP and sets HBR_EVT.DROP. -/
  | qspiCutShort
  /-- CURRENT_LIMIT (R464): A port's current reaches ILIM, so LPW starts regulating, sets LIMIT and starts the fault timer, or falls back below it, so regulation ends and the timer restarts from 0. -/
  | currentLimit (p : Fin 2) (regulating : Bool)
  /-- GATE_VOLTAGE_LOW (R469): The gate-source voltage of a port in ON falls below 9 V while its fault timer is not running, and PG becomes 0. -/
  | gateVoltageLow (p : Fin 2)
  /-- RECOVERY_OCCURRENCE (R403): During bus-off recovery an occurrence of 11 consecutive recessive bits increments MBn_STAT.RCNT. -/
  | recoveryOccurrence (port : Fin 4)
  /-- STACK_NODE_RX (R181): A stacked hub receives its node number from the master over S1, sent within 10 us of an ASSIGN that changes it. -/
  | stackNodeRx (node : BitVec 8)
deriving DecidableEq, Repr

end Sys2Proof
end

