-- ==== Sys2Proof/Decode.lean ====
section
/-! DEFINITION. The command a table word spells. The hub is a block: no row of the opcode table gives its command bits, so
no word spells a command. -/
namespace Sys2Proof

/-- The command that a word of `nbits` bits spells by the table's bits: no row gives bits, so there is none. -/
def decodeTableWord (_nbits _w : Nat) : Option Instr := none

end Sys2Proof
end

