-- ==== Sys2Proof/Config.lean ====
section
/-! DEFINITION. What one implementation fixes and the free values the spec leaves open. None has a body a proof could
look into: a claim about one holds whatever its value is. -/
namespace Sys2Proof.Config

/-- R46: the check-bit syndrome of an error pattern in a word, less 1. It is not 0, and one pattern in one word always
gives the same value; nothing else is said. DESIGN CHOICE, log entry 3. -/
opaque syndrome (word pattern : Nat) : Fin 255

/-- R44, R396: the header below SEQ that a port takes a message object to have where it cannot read the object's word 0; the
chapter gives none. DESIGN CHOICE, log entry 3. -/
opaque badWord (off : Nat) : Nat

/-- R344: TSTAMP of an item that software commits; the rule gives one for the other producers only.
DESIGN CHOICE, log entry 3. -/
opaque softStamp (queue now : Nat) : Nat

/-- R352: the sending queue that a STREAM or MAILBOX frame names for its acknowledgement, if it is under credit flow. No
field of R168 and R169 carries it; the argument is the frame's header. DESIGN CHOICE, log entry 3. -/
opaque credQueue (hw0 hw1 : Nat) : Option (Fin 64)

/-- R269, R274, R277: whether TIME rounds a quotient up where its unit does not divide the value; the chapter gives each
unit and no rounding. DESIGN CHOICE, log entry 3. -/
opaque roundUp (num : Int) (den : Nat) : Bool

/-- R274, R275, R280: the trim of the ECLK PLL that the servo has reached, one for each time it moves; the chapter bounds it
and gives no law for it. DESIGN CHOICE, log entry 3. -/
opaque trim (draw : Nat) : BitVec 32

/-- R401: how far above 119 REC stands after a frame received without error while it was above 127; the standard the rule
names gives the range 119 to 127. DESIGN CHOICE, log entry 3. -/
opaque recDrop (port draw : Nat) : Fin 9

/-- R377, R387: what a 32-bit signed impedance register holds of a value outside its range; the chapter names no bound.
DESIGN CHOICE, log entry 3. -/
opaque zOver (z : Int) : BitVec 32

/-- R483, R484: SHA-256, the published function the rules name. DESIGN CHOICE, log entry 3.
DEDUCED, log entry 41. -/
opaque sha256 (data : List Byte) : BitVec 256

/-- R483, R484: whether a P-256 signature verifies for a digest and a public key. DESIGN CHOICE, log entry 3.
DEDUCED, log entry 41. -/
opaque ecdsaOk (digest : BitVec 256) (pubkey sig : List Byte) : Bool

/-- R135, R487: the tag that UPD computes with the device's secret key. DESIGN CHOICE, log entry 3.
DEDUCED, log entry 41. -/
opaque deviceTag (data : List Byte) : BitVec 256

/-- R489, R495: a flash byte whose write failed or was cut short; the rules say only that the command ends.
DESIGN CHOICE, log entry 3. -/
opaque flashTorn (addr draw : Nat) : Byte

/-- R487: SEQ and CAND of the directory that DIR_INIT writes; the rule gives ACTIVE and STATE only.
DESIGN CHOICE, log entry 3. -/
opaque dirSeq : BitVec 32
opaque dirCand : Fin 2

/-- R420: the free bytes that READ_GET returns for a part whose access failed; R410 gives an error response no data.
DESIGN CHOICE, log entry 3. -/
opaque noData (tag at_ : Nat) : Byte

/-- R512: the levels on the strap balls now, which ID_LIVE shows. DESIGN CHOICE, log entry 3.
DESIGN CHOICE, log entry 48. -/
opaque liveStraps (t : Nat) : BitVec 6

/-- R101: the level on a PIO ball that the hub does not drive at the instant of a reset, an input from outside that the
command of a reset does not carry. DESIGN CHOICE, log entry 3. -/
opaque padLevel (pin t : Nat) : Bool

/-- R54: the multiple of 8 with which a DMA channel works where SRC, DST or LEN is not the multiple the rule asks for.
DESIGN CHOICE, log entry 3. -/
opaque dmaOdd (value : Nat) : Nat

/-- Where in its period the pattern of a lane's generator begins (R160 does not say).
DESIGN CHOICE, log entry 32. -/
opaque patSeed (lane : Nat) : Nat

/-- The CTLE setting of a lane's equaliser as it adapts (R144). DESIGN CHOICE, log entry 32. -/
opaque ctleNow (lane t : Nat) : BitVec 4

/-- The DFE taps of a lane's equaliser as they adapt (R144). DESIGN CHOICE, log entry 32. -/
opaque dfeNow (lane t : Nat) : BitVec 30

end Sys2Proof.Config
end

