-- ==== Sys2Proof/Machine/Bits.lean ====
section
/-! DEFINITION. Bit-field, sign and byte-order helpers shared by every block. -/
namespace Sys2Proof.Machine

/-- A named bit field of a 32-bit register: chip-local offset of the register, lowest bit, width. -/
structure Fld where
  off : Nat
  lo  : Nat
  w   : Nat
deriving DecidableEq, Repr

/-- Bits [lo+w-1:lo] of a word of any width, as a number. -/
def bits (x lo w : Nat) : Nat := x / 2 ^ lo % 2 ^ w

/-- Bit `i` of a number. -/
def bit (x i : Nat) : Bool := x.testBit i

/-- The number of a truth value. -/
def b2n (b : Bool) : Nat := if b then 1 else 0

/-- Reads a field out of a register word. -/
def wordField (x : Word) (lo w : Nat) : Nat := (x >>> lo).toNat % 2 ^ w

/-- The mask of a field. -/
def maskAt (lo w : Nat) : Word := BitVec.ofNat 32 ((2 ^ w - 1) * 2 ^ lo)

/-- Replaces a field of a register word; bits above the field's width are dropped. -/
def wordSet (x : Word) (lo w v : Nat) : Word :=
  (x &&& ~~~ maskAt lo w) ||| (BitVec.ofNat 32 (v % 2 ^ w) <<< lo)

/-- Two's-complement reading of the low `w` bits of a number. -/
def sext (w x : Nat) : Int :=
  let y := x % 2 ^ w
  if 2 * y < 2 ^ w then (y : Int) else (y : Int) - 2 ^ w

/-- The low `w` bits of an integer, two's complement. -/
def wrapInt (w : Nat) (x : Int) : Nat := (x % 2 ^ w).toNat

/-- Clamps an integer to a signed `w`-bit range. -/
def satInt (w : Nat) (x : Int) : Int :=
  if x < -(2 ^ (w - 1)) then -(2 ^ (w - 1)) else if x ≥ 2 ^ (w - 1) then 2 ^ (w - 1) - 1 else x

/-- The little-endian bytes of a number. -/
def leBytes : Nat → Nat → List Byte
  | 0, _ => []
  | n + 1, x => BitVec.ofNat 8 x :: leBytes n (x / 256)

/-- The number spelled by little-endian bytes. -/
def ofLeBytes : List Byte → Nat
  | [] => 0
  | b :: bs => b.toNat + 256 * ofLeBytes bs

/-- The indices of the bits set in the low `n` bits of a number, lowest first. -/
def bitList (n x : Nat) : List Nat := (List.range n).filter fun i => x.testBit i

/-- The number of bits set in the low `n` bits. -/
def popCount (n x : Nat) : Nat := (bitList n x).length

/-- Sets bit `i` of a number to a value. -/
def setBitTo (x i : Nat) (v : Bool) : Nat :=
  if x.testBit i = v then x else if v then x + 2 ^ i else x - 2 ^ i

end Sys2Proof.Machine
end

