-- ==== Sys2Proof/Machine/RegMap.lean ====
section
/-! DEFINITION. The register map of the chapters' map and field tables: where each register lies, its width, its
reset value (R4 to R7, and the register section of every chapter), and which of its bits software may write. -/
namespace Sys2Proof.Machine

/-- One row of a map table: offset, two index ranges (count and step), width in bytes, reset value, and the bits of
the access codes RW, W1C and RC (R6). Bits under none of the three ignore a plain write. -/
structure RegRow where
  off : Nat
  n1 : Nat
  s1 : Nat
  n2 : Nat
  s2 : Nat
  bytes : Nat
  reset : Nat
  rw : Nat
  w1c : Nat
  rd : Nat
deriving DecidableEq, Repr

/-- Whether a chip-local offset lies in a register of the row, and the offset of that register. -/
def RegRow.base? (r : RegRow) (o : Nat) : Option Nat :=
  if o < r.off then none else
  let d := o - r.off
  let i := if r.n1 ≤ 1 then 0 else d / r.s1
  let e := d - i * r.s1
  let j := if r.n2 ≤ 1 then 0 else e / r.s2
  if i < r.n1 ∧ j < r.n2 ∧ e - j * r.s2 < r.bytes then some (r.off + i * r.s1 + j * r.s2) else none

/-- Register rows of block 0x00. -/
def regRows00 : List RegRow := [
  ⟨0, 1, 0, 1, 0, 4, 0x640, 0, 0, 0xFFFFF⟩, -- ID_PART
  ⟨4, 1, 0, 1, 0, 4, 0, 0, 0, 0x7F⟩, -- ID_STRAP
  ⟨8, 1, 0, 1, 0, 4, 0, 0, 0, 0x3F⟩] -- ID_LIVE

/-- Register rows of block 0x01. -/
def regRows01 : List RegRow := [
  ⟨0x10000, 1, 0, 1, 0, 4, 0x22D, 0, 0, 0x373F⟩, -- MPC_MODE
  ⟨0x10004, 1, 0, 1, 0, 4, 0, 0, 0, 0⟩, -- MPC_REQ
  ⟨0x10008, 1, 0, 1, 0, 4, 0, 0, 4, 0xFF07⟩, -- MPC_REQ_STAT
  ⟨0x1000C, 1, 0, 1, 0, 4, 0, 0x97, 0, 0x97⟩, -- MPC_REQ_SH
  ⟨0x10010, 1, 0, 1, 0, 8, 0, 0xFFFFFFFFFFFFFFFF, 0, 0xFFFFFFFFFFFFFFFF⟩, -- MPC_REQ_T
  ⟨0x10018, 1, 0, 1, 0, 4, 0xFF1B, 0xFFF0F, 0, 0xFFF1F⟩, -- MPC_WAKE_EN
  ⟨0x1001C, 1, 0, 1, 0, 4, 0, 0, 0xFFF1F, 0xFFF1F⟩, -- MPC_WAKE_CAUSE
  ⟨0x10020, 1, 0, 1, 0, 4, 0, 0xFFFFFFFF, 0, 0xFFFFFFFF⟩, -- MPC_WAKE_TIMER
  ⟨0x10024, 1, 0, 1, 0, 4, 0x64, 0x33FFF, 0, 0x33FFF⟩, -- MPC_ISLAND
  ⟨0x10028, 1, 0, 1, 0, 4, 0x18, 0x3F, 0, 0x3F⟩, -- MPC_DORM
  ⟨0x1002C, 1, 0, 1, 0, 4, 0, 0, 0, 0⟩, -- MPC_FTEST
  ⟨0x10030, 1, 0, 1, 0, 4, 0, 0, 0, 0xFFFFF⟩, -- MPC_WAKE_LAT
  ⟨0x10034, 1, 0, 1, 0, 4, 0, 0xFFFFFFFF, 0, 0xFFFFFFFF⟩] -- MPC_WAKE_RELOAD

/-- Register rows of block 0x02. -/
def regRows02 : List RegRow := [
  ⟨0x20000, 1, 0, 1, 0, 4, 0xFE01, 0, 0, 0xFFFF⟩, -- RSTC_CAUSE
  ⟨0x20004, 1, 0, 1, 0, 4, 0, 0, 0, 0⟩, -- RSTC_SWRST
  ⟨0x20008, 1, 0, 1, 0, 4, 0, 0, 0, 0x31FFFFFF⟩, -- RSTC_INRST
  ⟨0x2000C, 1, 0, 1, 0, 4, 0, 0, 0x31FFFFFF, 0x31FFFFFF⟩, -- RSTC_CLKFAIL
  ⟨0x20010, 1, 0, 1, 0, 4, 0xA, 0x3FF, 0, 0x3FF⟩, -- RSTC_IDLE_TO
  ⟨0x20020, 1, 0, 1, 0, 4, 0, 0, 0, 0⟩, -- RSTC_AUTH
  ⟨0x20024, 1, 0, 1, 0, 4, 0, 0, 0, 0⟩, -- RSTC_REMOTE_AUTH
  ⟨0x20028, 1, 0, 1, 0, 4, 0, 0, 0, 0⟩, -- RSTC_REMOTE_CMD
  ⟨0x2002C, 1, 0, 1, 0, 4, 0, 0, 0, 0xF⟩, -- RSTC_REMOTE_STAT
  ⟨0x20040, 2, 0x10, 1, 0, 4, 0x3E80000, 0xFFFF0002, 0, 0xFFFF0003⟩, -- RSTC_WDOG_CTL
  ⟨0x20044, 2, 0x10, 1, 0, 4, 0, 0, 0, 0⟩, -- RSTC_WDOG_KICK
  ⟨0x20048, 2, 0x10, 1, 0, 4, 0, 0, 0, 0x1FFFF⟩, -- RSTC_WDOG_CNT
  ⟨0x20060, 1, 0, 1, 0, 4, 1, 0, 0, 0x10F⟩, -- RSTC_LOG_HEAD
  ⟨0x20080, 16, 8, 1, 0, 4, 0, 0, 0, 0xFF07FFFF⟩, -- RSTC_LOG_W0
  ⟨0x20084, 16, 8, 1, 0, 4, 0, 0, 0, 0xFFFFFFFF⟩] -- RSTC_LOG_W1

/-- Register rows of block 0x04. -/
def regRows04 : List RegRow := [
  ⟨0x40000, 1, 0, 1, 0, 4, 5, 0, 0x1F0, 0x1FF⟩, -- CFG_STAT
  ⟨0x40004, 1, 0, 1, 0, 4, 0, 0, 0, 0⟩, -- CFG_CMD
  ⟨0x40008, 1, 0, 1, 0, 4, 0, 1, 0, 1⟩, -- CFG_CTL
  ⟨0x4000C, 1, 0, 1, 0, 4, 0, 0, 0, 0xFFFFFFFF⟩, -- CFG_CHECK_RES
  ⟨0x40010, 1, 0, 1, 0, 8, 0, 0xFFFFFFFFFFFFFFFF, 0, 0xFFFFFFFFFFFFFFFF⟩, -- CFG_APPLY_T
  ⟨0x40018, 1, 0, 1, 0, 8, 0, 0, 0, 0xFFFFFFFFFFFFFFFF⟩, -- CFG_GUARD
  ⟨0x40020, 1, 0, 1, 0, 8, 0, 0, 0, 0xFFFFFFFFFFFFFFFF⟩, -- CFG_LAST_T
  ⟨0x40028, 1, 0, 1, 0, 4, 0, 0, 0, 0x1FFFF⟩, -- CFG_COMMIT
  ⟨0x4002C, 1, 0, 1, 0, 4, 0x2710, 0xFFFF, 0, 0xFFFF⟩, -- CFG_ARM_TO
  ⟨0x40030, 1, 0, 1, 0, 4, 0, 0, 0, 0xFFFF07FF⟩, -- CFG_LOAD
  ⟨0x40034, 1, 0, 1, 0, 4, 0, 0, 0, 0xFFFFFFFF⟩, -- CFG_MISSED
  ⟨0x40038, 1, 0, 1, 0, 8, 0, 0, 0, 0xFFFFFFFFFFFFFFFF⟩] -- CFG_SERIAL

/-- Register rows of block 0x05. -/
def regRows05 : List RegRow := [
  ⟨0x50000, 1, 0, 1, 0, 4, 0, 0, 0x1700, 0x1F1F3F⟩, -- FLT_STAT
  ⟨0x50004, 1, 0, 1, 0, 4, 0, 0, 0xFFFF, 0xFFFF⟩, -- FLT_OPEN
  ⟨0x50008, 1, 0, 1, 0, 4, 0, 0, 0, 0xFFFF⟩, -- FLT_FN
  ⟨0x5000C, 1, 0, 1, 0, 4, 0, 0, 0, 0⟩, -- FLT_CMD
  ⟨0x50010, 1, 0, 1, 0, 4, 0, 0, 0, 0⟩, -- FLT_SNAP
  ⟨0x50020, 1, 0, 1, 0, 4, 0, 0x3FFFF, 0, 0x3FFFF⟩, -- FLT_INJ_W0
  ⟨0x50024, 1, 0, 1, 0, 4, 0, 0xFFFFFFFF, 0, 0xFFFFFFFF⟩, -- FLT_INJ_ADDR_LO
  ⟨0x50028, 1, 0, 1, 0, 4, 0, 0xFFFF, 0, 0xFFFF⟩, -- FLT_INJ_ADDR_HI
  ⟨0x50100, 16, 0x20, 1, 0, 4, 0, 0, 0, 0xFFFFFFF⟩, -- FLT_REC_W0
  ⟨0x50104, 16, 0x20, 1, 0, 4, 0, 0, 0, 0xFFFFFFFF⟩, -- FLT_REC_ADDR_LO
  ⟨0x50108, 16, 0x20, 1, 0, 4, 0, 0, 0, 0x7FFFFF⟩, -- FLT_REC_ADDR_HI
  ⟨0x5010C, 16, 0x20, 1, 0, 4, 0, 0, 0, 0xFFFF⟩, -- FLT_REC_MCOUNT
  ⟨0x50110, 16, 0x20, 1, 0, 8, 0, 0, 0, 0xFFFFFFFFFFFFFFFF⟩, -- FLT_REC_T0
  ⟨0x50118, 16, 0x20, 1, 0, 8, 0, 0, 0, 0xFFFFFFFFFFFFFFFF⟩, -- FLT_REC_T1
  ⟨0x50400, 64, 8, 1, 0, 4, 0, 0, 0, 0x8003FFFF⟩, -- FLT_RULE_M
  ⟨0x50404, 64, 8, 1, 0, 4, 0, 0, 0, 0x7FF7F⟩, -- FLT_RULE_A
  ⟨0x50800, 64, 8, 1, 0, 4, 0, 0x8003FFFF, 0, 0x8003FFFF⟩, -- FLT_RULE_M_SH
  ⟨0x50804, 64, 8, 1, 0, 4, 0, 0x7FF7F, 0, 0x7FF7F⟩, -- FLT_RULE_A_SH
  ⟨0x50C00, 7, 8, 1, 0, 8, 0, 0, 0, 0xFFFFFFFFFFFF⟩] -- FLT_CNT

/-- Register rows of block 0x06. -/
def regRows06 : List RegRow := [
  ⟨0x60000, 256, 4, 1, 0, 4, 0, 0x1F7, 0, 0x301F7⟩, -- INTC_ROUTE
  ⟨0x60400, 3, 0x100, 8, 4, 4, 0, 0, 0, 0xFFFFFFFF⟩, -- INTC_PEND
  ⟨0x60420, 3, 0x100, 8, 4, 4, 0, 0xFFFFFFFF, 0, 0xFFFFFFFF⟩, -- INTC_EN
  ⟨0x60440, 3, 0x100, 8, 4, 4, 0, 0, 0, 0xFFFFFFFF⟩, -- INTC_CLAIM
  ⟨0x60460, 3, 0x100, 8, 4, 4, 0, 0, 0, 0⟩, -- INTC_DONE
  ⟨0x60480, 3, 0x100, 1, 0, 4, 0, 0, 0, 0x1FF⟩, -- INTC_SUM
  ⟨0x60700, 16, 8, 1, 0, 4, 0, 0x3FFFFF03, 0, 0x3FFFFF03⟩, -- INTC_GRP_CTL
  ⟨0x60704, 16, 8, 1, 0, 4, 0, 0, 0, 0x3FFFFF03⟩, -- INTC_GRP_STAT
  ⟨0x60800, 1, 0, 1, 0, 4, 0, 0, 0, 0xFF⟩, -- INTC_SWI
  ⟨0x60820, 8, 4, 1, 0, 4, 0, 0, 0, 0xFFFFFFFF⟩] -- INTC_RAW

/-- Register rows of block 0x07. -/
def regRows07 : List RegRow := [
  ⟨0x70000, 1, 0, 1, 0, 4, 0, 0, 0, 3⟩, -- MSA_STAT
  ⟨0x70004, 1, 0, 1, 0, 4, 0x12346, 0, 0, 0xFFFFF⟩, -- MSA_PART
  ⟨0x70008, 1, 0, 1, 0, 4, 0x12346, 0xFFFFF, 0, 0xFFFFF⟩, -- MSA_PART_SH
  ⟨0x70010, 1, 0, 1, 0, 4, 0x1000040, 0x1FF01FF, 0, 0x1FF01FF⟩, -- MSA_ARBCTL
  ⟨0x70014, 1, 0, 1, 0, 4, 0x11, 0xFF, 0, 0xFF⟩, -- MSA_PRIO
  ⟨0x70018, 1, 0, 1, 0, 4, 0, 0, 0xFF, 0xFF⟩, -- MSA_HOLD_FLAG
  ⟨0x7001C, 1, 0, 1, 0, 4, 0, 0, 0, 0xFFFF0F0F⟩, -- MSA_HOLD_LOG
  ⟨0x70020, 1, 0, 1, 0, 4, 0x7A101, 0xFFFFFF01, 0, 0xFFFFFF01⟩, -- MSA_SCRUB
  ⟨0x70024, 1, 0, 1, 0, 4, 0, 0, 0, 0xFFFFFFFF⟩, -- MSA_SCRUB_PASS
  ⟨0x70028, 1, 0, 1, 0, 4, 0, 0, 0x1F, 0x1F⟩, -- MSA_ECC_STAT
  ⟨0x7002C, 1, 0, 1, 0, 4, 0, 0, 0, 0⟩, -- MSA_SNAP
  ⟨0x70030, 1, 0, 1, 0, 8, 0, 0, 0, 0xFFFFFFFFFFFF⟩, -- MSA_ECC_CE
  ⟨0x70038, 1, 0, 1, 0, 8, 0, 0, 0, 0xFFFFFFFFFFFF⟩, -- MSA_ECC_UE
  ⟨0x70040, 1, 0, 1, 0, 4, 0x81, 0, 0, 0xFF⟩, -- MSA_WPROT
  ⟨0x70044, 1, 0, 1, 0, 4, 0xAE, 0, 0, 0xFF⟩, -- MSA_WPROT
  ⟨0x70048, 1, 0, 1, 0, 4, 0xBF, 0, 0, 0xFF⟩, -- MSA_WPROT
  ⟨0x7004C, 1, 0, 1, 0, 4, 0xAE, 0, 0, 0xFF⟩, -- MSA_WPROT
  ⟨0x70050, 1, 0, 1, 0, 4, 0xEE, 0, 0, 0xFF⟩, -- MSA_WPROT
  ⟨0x70060, 1, 0, 1, 0, 4, 0, 0, 0, 0xFFFFF⟩, -- MSA_ECC_LOG0
  ⟨0x70064, 1, 0, 1, 0, 4, 0, 0, 0, 0xF1FF⟩, -- MSA_ECC_LOG1
  ⟨0x70070, 2, 4, 1, 0, 4, 0xFE, 0x7F03FF, 0, 0x7F03FF⟩, -- MSA_FWIN
  ⟨0x70080, 1, 0, 1, 0, 4, 0x81, 0xFF, 0, 0xFF⟩, -- MSA_WPROT_SH
  ⟨0x70084, 1, 0, 1, 0, 4, 0xAE, 0xFF, 0, 0xFF⟩, -- MSA_WPROT_SH
  ⟨0x70088, 1, 0, 1, 0, 4, 0xBF, 0xFF, 0, 0xFF⟩, -- MSA_WPROT_SH
  ⟨0x7008C, 1, 0, 1, 0, 4, 0xAE, 0xFF, 0, 0xFF⟩, -- MSA_WPROT_SH
  ⟨0x70090, 1, 0, 1, 0, 4, 0xEE, 0xFF, 0, 0xFF⟩, -- MSA_WPROT_SH
  ⟨0x70100, 16, 8, 1, 0, 8, 0, 0, 0, 0xFFFFFFFFFFFF⟩, -- MSA_BEATS
  ⟨0x70400, 2, 0x20, 1, 0, 4, 0, 0xFFFFFFFF, 0, 0xFFFFFFFF⟩, -- MSA_DMA_SRC_LO
  ⟨0x70404, 2, 0x20, 1, 0, 4, 0, 0xFFFF, 0, 0xFFFF⟩, -- MSA_DMA_SRC_HI
  ⟨0x70408, 2, 0x20, 1, 0, 4, 0, 0xFFFFFFFF, 0, 0xFFFFFFFF⟩, -- MSA_DMA_DST_LO
  ⟨0x7040C, 2, 0x20, 1, 0, 4, 0, 0xFFFF, 0, 0xFFFF⟩, -- MSA_DMA_DST_HI
  ⟨0x70410, 2, 0x20, 1, 0, 4, 0, 0xFFFFFF, 0, 0xFFFFFF⟩, -- MSA_DMA_LEN
  ⟨0x70414, 2, 0x20, 1, 0, 4, 0, 4, 0, 7⟩, -- MSA_DMA_CTRL
  ⟨0x70418, 2, 0x20, 1, 0, 4, 0, 0, 6, 0xFF07⟩] -- MSA_DMA_STAT

/-- Register rows of block 0x08. -/
def regRows08 : List RegRow := [
  ⟨0x80000, 1, 0, 1, 0, 4, 0, 0, 0, 0xFF0FFF⟩, -- LANE_STAT
  ⟨0x80004, 1, 0, 1, 0, 4, 0x29, 0, 0, 0xFF3D⟩, -- LANE_CTL
  ⟨0x80008, 1, 0, 1, 0, 4, 0x29, 0xFF3D, 0, 0xFF3D⟩, -- LANE_CTL_SH
  ⟨0x8000C, 1, 0, 1, 0, 4, 0x40A, 0, 0, 0xF7F⟩, -- LANE_TXEQ
  ⟨0x80010, 1, 0, 1, 0, 4, 0x40A, 0xF7F, 0, 0xF7F⟩, -- LANE_TXEQ_SH
  ⟨0x80014, 1, 0, 1, 0, 4, 0, 0x300, 0, 0x30F⟩, -- LANE_RXEQ
  ⟨0x80018, 1, 0, 1, 0, 4, 0, 0, 0, 0x3FFFFFFF⟩, -- LANE_DFE
  ⟨0x8001C, 1, 0, 1, 0, 4, 0, 0, 0, 0x33FFF00⟩, -- LANE_ALIGN
  ⟨0x80020, 1, 0, 1, 0, 4, 0, 0, 0, 0xFF1F070F⟩, -- LANE_TRAIN
  ⟨0x80024, 1, 0, 1, 0, 4, 0, 0, 0, 0xFFFFFFFF⟩, -- LANE_PEER0
  ⟨0x80028, 1, 0, 1, 0, 4, 0, 0, 0, 0xFFFFFFFF⟩, -- LANE_PEER1
  ⟨0x8002C, 1, 0, 1, 0, 4, 0, 0, 0, 0xFFFFFFFF⟩, -- LANE_PEER2
  ⟨0x80030, 1, 0, 1, 0, 4, 0, 0, 0, 0xFFFF⟩, -- LANE_PEER3
  ⟨0x80034, 1, 0, 1, 0, 4, 0, 0, 0x3FF, 0x3FF⟩, -- LANE_EVT
  ⟨0x80038, 1, 0, 1, 0, 4, 0x3FF, 0x3FF, 0, 0x3FF⟩, -- LANE_EVT_EN
  ⟨0x8003C, 1, 0, 1, 0, 4, 0, 0x7FF7F, 0, 0x8007FF7F⟩, -- LANE_EYE_CTL
  ⟨0x80040, 1, 0, 1, 0, 4, 0, 0, 0, 0xFFFFFF03⟩, -- LANE_EYE_STAT
  ⟨0x80044, 1, 0, 1, 0, 4, 0, 0x77, 0, 0x77⟩, -- LANE_PAT_CTL
  ⟨0x80048, 1, 0, 1, 0, 4, 0, 0, 0, 0xFF03⟩, -- LANE_PAT_STAT
  ⟨0x8004C, 1, 0, 1, 0, 4, 0, 0, 0, 0⟩, -- LANE_SNAP
  ⟨0x80050, 1, 0, 1, 0, 8, 0, 0xFFFFFFFFFFFFFFFF, 0, 0xFFFFFFFFFFFFFFFF⟩, -- LANE_PAT_USER
  ⟨0x80058, 1, 0, 1, 0, 8, 0, 0, 0, 0xFFFFFFFFFFFF⟩, -- LANE_PAT_BITS
  ⟨0x80060, 1, 0, 1, 0, 8, 0, 0, 0, 0xFFFFFFFFFFFF⟩, -- LANE_PAT_ERRS
  ⟨0x80068, 1, 0, 1, 0, 8, 0, 0, 0, 0xFFFFFFFFFFFF⟩, -- LANE_HDR_ERRS
  ⟨0x80070, 1, 0, 1, 0, 8, 0, 0, 0, 0xFFFFFFFFFFFF⟩, -- LANE_BLK_ERRS
  ⟨0x80078, 1, 0, 1, 0, 8, 0, 0, 0, 0xFFFFFFFFFFFF⟩] -- LANE_DOWNS

/-- Register rows of block 0x09. -/
def regRows09 : List RegRow := [
  ⟨0x90000, 1, 0, 1, 0, 4, 0, 0, 0, 0xFF0FFF⟩, -- LANE_STAT
  ⟨0x90004, 1, 0, 1, 0, 4, 0x29, 0, 0, 0xFF3D⟩, -- LANE_CTL
  ⟨0x90008, 1, 0, 1, 0, 4, 0x29, 0xFF3D, 0, 0xFF3D⟩, -- LANE_CTL_SH
  ⟨0x9000C, 1, 0, 1, 0, 4, 0x40A, 0, 0, 0xF7F⟩, -- LANE_TXEQ
  ⟨0x90010, 1, 0, 1, 0, 4, 0x40A, 0xF7F, 0, 0xF7F⟩, -- LANE_TXEQ_SH
  ⟨0x90014, 1, 0, 1, 0, 4, 0, 0x300, 0, 0x30F⟩, -- LANE_RXEQ
  ⟨0x90018, 1, 0, 1, 0, 4, 0, 0, 0, 0x3FFFFFFF⟩, -- LANE_DFE
  ⟨0x9001C, 1, 0, 1, 0, 4, 0, 0, 0, 0x33FFF00⟩, -- LANE_ALIGN
  ⟨0x90020, 1, 0, 1, 0, 4, 0, 0, 0, 0xFF1F070F⟩, -- LANE_TRAIN
  ⟨0x90024, 1, 0, 1, 0, 4, 0, 0, 0, 0xFFFFFFFF⟩, -- LANE_PEER0
  ⟨0x90028, 1, 0, 1, 0, 4, 0, 0, 0, 0xFFFFFFFF⟩, -- LANE_PEER1
  ⟨0x9002C, 1, 0, 1, 0, 4, 0, 0, 0, 0xFFFFFFFF⟩, -- LANE_PEER2
  ⟨0x90030, 1, 0, 1, 0, 4, 0, 0, 0, 0xFFFF⟩, -- LANE_PEER3
  ⟨0x90034, 1, 0, 1, 0, 4, 0, 0, 0x3FF, 0x3FF⟩, -- LANE_EVT
  ⟨0x90038, 1, 0, 1, 0, 4, 0x3FF, 0x3FF, 0, 0x3FF⟩, -- LANE_EVT_EN
  ⟨0x9003C, 1, 0, 1, 0, 4, 0, 0x7FF7F, 0, 0x8007FF7F⟩, -- LANE_EYE_CTL
  ⟨0x90040, 1, 0, 1, 0, 4, 0, 0, 0, 0xFFFFFF03⟩, -- LANE_EYE_STAT
  ⟨0x90044, 1, 0, 1, 0, 4, 0, 0x77, 0, 0x77⟩, -- LANE_PAT_CTL
  ⟨0x90048, 1, 0, 1, 0, 4, 0, 0, 0, 0xFF03⟩, -- LANE_PAT_STAT
  ⟨0x9004C, 1, 0, 1, 0, 4, 0, 0, 0, 0⟩, -- LANE_SNAP
  ⟨0x90050, 1, 0, 1, 0, 8, 0, 0xFFFFFFFFFFFFFFFF, 0, 0xFFFFFFFFFFFFFFFF⟩, -- LANE_PAT_USER
  ⟨0x90058, 1, 0, 1, 0, 8, 0, 0, 0, 0xFFFFFFFFFFFF⟩, -- LANE_PAT_BITS
  ⟨0x90060, 1, 0, 1, 0, 8, 0, 0, 0, 0xFFFFFFFFFFFF⟩, -- LANE_PAT_ERRS
  ⟨0x90068, 1, 0, 1, 0, 8, 0, 0, 0, 0xFFFFFFFFFFFF⟩, -- LANE_HDR_ERRS
  ⟨0x90070, 1, 0, 1, 0, 8, 0, 0, 0, 0xFFFFFFFFFFFF⟩, -- LANE_BLK_ERRS
  ⟨0x90078, 1, 0, 1, 0, 8, 0, 0, 0, 0xFFFFFFFFFFFF⟩] -- LANE_DOWNS

/-- Register rows of block 0x0A. -/
def regRows0A : List RegRow := [
  ⟨0xA0000, 1, 0, 1, 0, 4, 0, 0, 0, 0xFF0FFF⟩, -- LANE_STAT
  ⟨0xA0004, 1, 0, 1, 0, 4, 0x10, 0, 0, 0xFF3D⟩, -- LANE_CTL
  ⟨0xA0008, 1, 0, 1, 0, 4, 0x10, 0xFF3D, 0, 0xFF3D⟩, -- LANE_CTL_SH
  ⟨0xA000C, 1, 0, 1, 0, 4, 0x40A, 0, 0, 0xF7F⟩, -- LANE_TXEQ
  ⟨0xA0010, 1, 0, 1, 0, 4, 0x40A, 0xF7F, 0, 0xF7F⟩, -- LANE_TXEQ_SH
  ⟨0xA0014, 1, 0, 1, 0, 4, 0, 0x300, 0, 0x30F⟩, -- LANE_RXEQ
  ⟨0xA0018, 1, 0, 1, 0, 4, 0, 0, 0, 0x3FFFFFFF⟩, -- LANE_DFE
  ⟨0xA001C, 1, 0, 1, 0, 4, 0, 0, 0, 0x33FFF00⟩, -- LANE_ALIGN
  ⟨0xA0020, 1, 0, 1, 0, 4, 0, 0, 0, 0xFF1F070F⟩, -- LANE_TRAIN
  ⟨0xA0024, 1, 0, 1, 0, 4, 0, 0, 0, 0xFFFFFFFF⟩, -- LANE_PEER0
  ⟨0xA0028, 1, 0, 1, 0, 4, 0, 0, 0, 0xFFFFFFFF⟩, -- LANE_PEER1
  ⟨0xA002C, 1, 0, 1, 0, 4, 0, 0, 0, 0xFFFFFFFF⟩, -- LANE_PEER2
  ⟨0xA0030, 1, 0, 1, 0, 4, 0, 0, 0, 0xFFFF⟩, -- LANE_PEER3
  ⟨0xA0034, 1, 0, 1, 0, 4, 0, 0, 0x3FF, 0x3FF⟩, -- LANE_EVT
  ⟨0xA0038, 1, 0, 1, 0, 4, 0x3FF, 0x3FF, 0, 0x3FF⟩, -- LANE_EVT_EN
  ⟨0xA003C, 1, 0, 1, 0, 4, 0, 0x7FF7F, 0, 0x8007FF7F⟩, -- LANE_EYE_CTL
  ⟨0xA0040, 1, 0, 1, 0, 4, 0, 0, 0, 0xFFFFFF03⟩, -- LANE_EYE_STAT
  ⟨0xA0044, 1, 0, 1, 0, 4, 0, 0x77, 0, 0x77⟩, -- LANE_PAT_CTL
  ⟨0xA0048, 1, 0, 1, 0, 4, 0, 0, 0, 0xFF03⟩, -- LANE_PAT_STAT
  ⟨0xA004C, 1, 0, 1, 0, 4, 0, 0, 0, 0⟩, -- LANE_SNAP
  ⟨0xA0050, 1, 0, 1, 0, 8, 0, 0xFFFFFFFFFFFFFFFF, 0, 0xFFFFFFFFFFFFFFFF⟩, -- LANE_PAT_USER
  ⟨0xA0058, 1, 0, 1, 0, 8, 0, 0, 0, 0xFFFFFFFFFFFF⟩, -- LANE_PAT_BITS
  ⟨0xA0060, 1, 0, 1, 0, 8, 0, 0, 0, 0xFFFFFFFFFFFF⟩, -- LANE_PAT_ERRS
  ⟨0xA0068, 1, 0, 1, 0, 8, 0, 0, 0, 0xFFFFFFFFFFFF⟩, -- LANE_HDR_ERRS
  ⟨0xA0070, 1, 0, 1, 0, 8, 0, 0, 0, 0xFFFFFFFFFFFF⟩, -- LANE_BLK_ERRS
  ⟨0xA0078, 1, 0, 1, 0, 8, 0, 0, 0, 0xFFFFFFFFFFFF⟩] -- LANE_DOWNS

/-- Register rows of block 0x0B. -/
def regRows0B : List RegRow := [
  ⟨0xB0000, 1, 0, 1, 0, 4, 0, 0, 0, 0xFF0FFF⟩, -- LANE_STAT
  ⟨0xB0004, 1, 0, 1, 0, 4, 0x10, 0, 0, 0xFF3F⟩, -- LANE_CTL
  ⟨0xB0008, 1, 0, 1, 0, 4, 0x10, 0xFF3F, 0, 0xFF3F⟩, -- LANE_CTL_SH
  ⟨0xB000C, 1, 0, 1, 0, 4, 0x40A, 0, 0, 0xF7F⟩, -- LANE_TXEQ
  ⟨0xB0010, 1, 0, 1, 0, 4, 0x40A, 0xF7F, 0, 0xF7F⟩, -- LANE_TXEQ_SH
  ⟨0xB0014, 1, 0, 1, 0, 4, 0, 0x300, 0, 0x30F⟩, -- LANE_RXEQ
  ⟨0xB0018, 1, 0, 1, 0, 4, 0, 0, 0, 0x3FFFFFFF⟩, -- LANE_DFE
  ⟨0xB001C, 1, 0, 1, 0, 4, 0, 0, 0, 0x33FFF00⟩, -- LANE_ALIGN
  ⟨0xB0020, 1, 0, 1, 0, 4, 0, 0, 0, 0xFF1F070F⟩, -- LANE_TRAIN
  ⟨0xB0024, 1, 0, 1, 0, 4, 0, 0, 0, 0xFFFFFFFF⟩, -- LANE_PEER0
  ⟨0xB0028, 1, 0, 1, 0, 4, 0, 0, 0, 0xFFFFFFFF⟩, -- LANE_PEER1
  ⟨0xB002C, 1, 0, 1, 0, 4, 0, 0, 0, 0xFFFFFFFF⟩, -- LANE_PEER2
  ⟨0xB0030, 1, 0, 1, 0, 4, 0, 0, 0, 0xFFFF⟩, -- LANE_PEER3
  ⟨0xB0034, 1, 0, 1, 0, 4, 0, 0, 0x3FF, 0x3FF⟩, -- LANE_EVT
  ⟨0xB0038, 1, 0, 1, 0, 4, 0x3FF, 0x3FF, 0, 0x3FF⟩, -- LANE_EVT_EN
  ⟨0xB003C, 1, 0, 1, 0, 4, 0, 0x7FF7F, 0, 0x8007FF7F⟩, -- LANE_EYE_CTL
  ⟨0xB0040, 1, 0, 1, 0, 4, 0, 0, 0, 0xFFFFFF03⟩, -- LANE_EYE_STAT
  ⟨0xB0044, 1, 0, 1, 0, 4, 0, 0x77, 0, 0x77⟩, -- LANE_PAT_CTL
  ⟨0xB0048, 1, 0, 1, 0, 4, 0, 0, 0, 0xFF03⟩, -- LANE_PAT_STAT
  ⟨0xB004C, 1, 0, 1, 0, 4, 0, 0, 0, 0⟩, -- LANE_SNAP
  ⟨0xB0050, 1, 0, 1, 0, 8, 0, 0xFFFFFFFFFFFFFFFF, 0, 0xFFFFFFFFFFFFFFFF⟩, -- LANE_PAT_USER
  ⟨0xB0058, 1, 0, 1, 0, 8, 0, 0, 0, 0xFFFFFFFFFFFF⟩, -- LANE_PAT_BITS
  ⟨0xB0060, 1, 0, 1, 0, 8, 0, 0, 0, 0xFFFFFFFFFFFF⟩, -- LANE_PAT_ERRS
  ⟨0xB0068, 1, 0, 1, 0, 8, 0, 0, 0, 0xFFFFFFFFFFFF⟩, -- LANE_HDR_ERRS
  ⟨0xB0070, 1, 0, 1, 0, 8, 0, 0, 0, 0xFFFFFFFFFFFF⟩, -- LANE_BLK_ERRS
  ⟨0xB0078, 1, 0, 1, 0, 8, 0, 0, 0, 0xFFFFFFFFFFFF⟩] -- LANE_DOWNS

/-- Register rows of block 0x0C. -/
def regRows0C : List RegRow := [
  ⟨0xC0000, 1, 0, 1, 0, 4, 0, 0, 0, 0x307⟩, -- RPE_STAT
  ⟨0xC0004, 1, 0, 1, 0, 4, 0xA100646, 0, 0, 0xFFFF07F7⟩, -- RPE_CTL
  ⟨0xC0008, 1, 0, 1, 0, 4, 0xA100646, 0xFFFF07F7, 0, 0xFFFF07F7⟩, -- RPE_CTL_SH
  ⟨0xC000C, 1, 0, 1, 0, 4, 0xA06FE, 0, 0, 0xFF3FFF⟩, -- RPE_CEN_CTL
  ⟨0xC0010, 1, 0, 1, 0, 4, 0xA06FE, 0xFF3FFF, 0, 0xFF3FFF⟩, -- RPE_CEN_CTL_SH
  ⟨0xC0014, 1, 0, 1, 0, 4, 8, 0, 0, 0xFF⟩, -- RPE_SCHED_CTL
  ⟨0xC0018, 1, 0, 1, 0, 4, 8, 0xFF, 0, 0xFF⟩, -- RPE_SCHED_CTL_SH
  ⟨0xC001C, 1, 0, 1, 0, 4, 0xFFE, 0, 0, 0xFFFF0FFF⟩, -- RPE_NODE
  ⟨0xC0020, 1, 0, 1, 0, 4, 1, 0, 0, 0xFFFFFFFF⟩, -- RPE_RING
  ⟨0xC0024, 1, 0, 1, 0, 4, 0, 0, 0, 0⟩, -- RPE_CEN_CMD
  ⟨0xC0028, 1, 0, 1, 0, 4, 0, 0, 0x1F, 0xFFFF1F⟩, -- RPE_CEN_STAT
  ⟨0xC002C, 1, 0, 1, 0, 4, 0, 0, 0xFFF, 0xFFF⟩, -- RPE_EVT
  ⟨0xC0030, 1, 0, 1, 0, 4, 0xEF7, 0xFFF, 0, 0xFFF⟩, -- RPE_EVT_EN
  ⟨0xC0034, 1, 0, 1, 0, 4, 0, 0, 0, 0⟩, -- RPE_SNAP
  ⟨0xC0038, 1, 0, 1, 0, 4, 0, 0, 0, 0x3FF03FF⟩, -- RPE_LATE_LOG0
  ⟨0xC003C, 1, 0, 1, 0, 4, 0, 0, 0, 0xFFFFFFFF⟩, -- RPE_LATE_LOG1
  ⟨0xC0040, 1, 0, 1, 0, 4, 0, 0, 0, 0xFF03FF⟩, -- RPE_HDR_LOG
  ⟨0xC0048, 1, 0, 1, 0, 8, 0, 0, 0, 0xFFFFFFFFFFFFFFFF⟩, -- RPE_CYCLE
  ⟨0xC0100, 8, 8, 1, 0, 8, 0, 0, 0, 0xFFFFFFFFFFFF⟩, -- RPE_CNT
  ⟨0xC2000, 2, 0x800, 512, 4, 4, 0, 0, 0, 0xFFFFFFFF⟩, -- RPE_CEN_LIST
  ⟨0xC3000, 512, 4, 1, 0, 4, 0, 0xFFFFFFFF, 0, 0xFFFFFFFF⟩, -- RPE_CEN_ASGN
  ⟨0xC4000, 2, 0x1000, 512, 8, 4, 0, 0, 0, 0x7FFF0FFF⟩, -- RPE_SCHED, bits [31:0] of an entry (R197)
  ⟨0xC4004, 2, 0x1000, 512, 8, 4, 0, 0, 0, 0xFFFF7FFF⟩, -- RPE_SCHED, bits [63:32]
  ⟨0xC6000, 2, 0x1000, 512, 8, 4, 0, 0x7FFF0FFF, 0, 0x7FFF0FFF⟩, -- RPE_SCHED_SH
  ⟨0xC6004, 2, 0x1000, 512, 8, 4, 0, 0xFFFF7FFF, 0, 0xFFFF7FFF⟩] -- RPE_SCHED_SH

/-- Register rows of block 0x0D. -/
def regRows0D : List RegRow := [
  ⟨0xD0000, 1, 0, 1, 0, 4, 0, 0, 0, 0xFF⟩, -- FWD_STAT
  ⟨0xD0004, 1, 0, 1, 0, 4, 0x1F40000, 0, 0, 0xFFFFFFFF⟩, -- FWD_PIN_CTL
  ⟨0xD0008, 1, 0, 1, 0, 4, 0x1F40000, 0xFFFFFFFF, 0, 0xFFFFFFFF⟩, -- FWD_PIN_CTL_SH
  ⟨0xD000C, 1, 0, 1, 0, 4, 0xFFFF, 0, 0, 0xFFFF⟩, -- FWD_REACH
  ⟨0xD0010, 1, 0, 1, 0, 4, 0, 0, 0xC, 0xFFFF000F⟩, -- FWD_FENCE
  ⟨0xD0014, 1, 0, 1, 0, 4, 0x64, 0xFFFF, 0, 0xFFFF⟩, -- FWD_FENCE_TO
  ⟨0xD0018, 1, 0, 1, 0, 4, 0, 0, 0, 0xFFFF3F3F⟩, -- FWD_DRAIN
  ⟨0xD001C, 1, 0, 1, 0, 4, 0, 0, 0, 0xFFFFFFFF⟩, -- FWD_DRAIN_CNT
  ⟨0xD0020, 1, 0, 1, 0, 4, 0x1316, 0, 0, 0xFFFFFFFF⟩, -- FWD_BUF_STAT
  ⟨0xD0024, 1, 0, 1, 0, 4, 0, 0, 0x1FF, 0x1FF⟩, -- FWD_EVT
  ⟨0xD0028, 1, 0, 1, 0, 4, 0x1F2, 0x1FF, 0, 0x1FF⟩, -- FWD_EVT_EN
  ⟨0xD002C, 1, 0, 1, 0, 4, 0, 0, 0, 0⟩, -- FWD_SNAP
  ⟨0xD0030, 1, 0, 1, 0, 4, 0, 0, 0, 0xFFFFFFF⟩, -- FWD_UNREACH_LOG
  ⟨0xD0100, 5, 0x20, 1, 0, 4, 0x2000200, 0, 0, 0xFFFFFFFF⟩, -- FWD_LIM_0
  ⟨0xD0200, 5, 0x20, 1, 0, 4, 0x2000200, 0xFFFFFFFF, 0, 0xFFFFFFFF⟩, -- FWD_LIM_0_SH
  ⟨0xD0104, 5, 0x20, 1, 0, 4, 0x2000200, 0, 0, 0xFFFFFFFF⟩, -- FWD_LIM_1
  ⟨0xD0204, 5, 0x20, 1, 0, 4, 0x2000200, 0xFFFFFFFF, 0, 0xFFFFFFFF⟩, -- FWD_LIM_1_SH
  ⟨0xD0108, 5, 0x20, 1, 0, 4, 0x1000040, 0, 0, 0xFFFFFFFF⟩, -- FWD_LIM_2
  ⟨0xD0208, 5, 0x20, 1, 0, 4, 0x1000040, 0xFFFFFFFF, 0, 0xFFFFFFFF⟩, -- FWD_LIM_2_SH
  ⟨0xD010C, 5, 0x20, 1, 0, 4, 0x4000100, 0, 0, 0xFFFFFFFF⟩, -- FWD_LIM_3
  ⟨0xD020C, 5, 0x20, 1, 0, 4, 0x4000100, 0xFFFFFFFF, 0, 0xFFFFFFFF⟩, -- FWD_LIM_3_SH
  ⟨0xD0110, 5, 0x20, 1, 0, 4, 0x100, 0, 0, 0xFFFF⟩, -- FWD_LIM_4
  ⟨0xD0210, 5, 0x20, 1, 0, 4, 0x100, 0xFFFF, 0, 0xFFFF⟩, -- FWD_LIM_4_SH
  ⟨0xD0300, 5, 0x20, 5, 4, 4, 0, 0, 0, 0xFFFFFFFF⟩, -- FWD_OCC
  ⟨0xD0400, 5, 0x80, 16, 8, 8, 0, 0, 0, 0xFFFFFFFFFFFF⟩, -- FWD_CNT
  ⟨0xD1000, 1024, 4, 1, 0, 4, 0, 0, 0, 0xFFFF07⟩, -- FWD_NODET
  ⟨0xD2000, 1024, 4, 1, 0, 4, 0, 0xFFFF07, 0, 0xFFFF07⟩, -- FWD_NODET_SH
  ⟨0xD3000, 128, 4, 1, 0, 4, 0xAAAAAAAA, 0, 0, 0xFFFFFFFF⟩, -- FWD_PINT
  ⟨0xD3200, 128, 4, 1, 0, 4, 0xAAAAAAAA, 0xFFFFFFFF, 0, 0xFFFFFFFF⟩, -- FWD_PINT_SH
  ⟨0xD4000, 4096, 4, 1, 0, 4, 0, 0, 0, 0x1F⟩, -- FWD_MCT
  ⟨0xD8000, 4096, 4, 1, 0, 4, 0, 0x1F, 0, 0x1F⟩] -- FWD_MCT_SH

/-- Register rows of block 0x0E. -/
def regRows0E : List RegRow := [
  ⟨0xE0000, 1, 0, 1, 0, 4, 0x400005, 0, 0, 0x7FF00FF⟩, -- RED_STAT
  ⟨0xE0004, 1, 0, 1, 0, 4, 0xA0C8032, 0, 0, 0xFFFFFFFF⟩, -- RED_CTL
  ⟨0xE0008, 1, 0, 1, 0, 4, 0xA0C8032, 0xFFFFFFFF, 0, 0xFFFFFFFF⟩, -- RED_CTL_SH
  ⟨0xE000C, 1, 0, 1, 0, 4, 0x10, 0, 0, 0xFF⟩, -- RED_DUP_CTL
  ⟨0xE0010, 1, 0, 1, 0, 4, 0x10, 0xFF, 0, 0xFF⟩, -- RED_DUP_CTL_SH
  ⟨0xE0014, 1, 0, 1, 0, 4, 0, 0, 0, 0xFFFF⟩, -- RED_GAP_POL
  ⟨0xE0018, 1, 0, 1, 0, 4, 0, 0xFFFF, 0, 0xFFFF⟩, -- RED_GAP_POL_SH
  ⟨0xE001C, 1, 0, 1, 0, 4, 0x3CC8316, 0, 0, 0xFFFFFF1F⟩, -- RED_TWIN_CTL
  ⟨0xE0020, 1, 0, 1, 0, 4, 0x3CC8316, 0xFFFFFF1F, 0, 0xFFFFFF1F⟩, -- RED_TWIN_CTL_SH
  ⟨0xE0024, 1, 0, 1, 0, 4, 0, 0, 0, 0⟩, -- RED_TWIN_CMD
  ⟨0xE0028, 1, 0, 1, 0, 4, 0xFE0005, 0, 0, 0xFF07FF⟩, -- RED_TWIN_STAT
  ⟨0xE002C, 1, 0, 1, 0, 4, 0, 0, 0, 0x3FFF⟩, -- RED_TWIN_LEFT
  ⟨0xE0030, 1, 0, 1, 0, 4, 0, 0, 0xFFF, 0xFFF⟩, -- RED_EVT
  ⟨0xE0034, 1, 0, 1, 0, 4, 0x7E7, 0xFFF, 0, 0xFFF⟩, -- RED_EVT_EN
  ⟨0xE0038, 1, 0, 1, 0, 4, 0, 0, 0, 0⟩, -- RED_SNAP
  ⟨0xE003C, 1, 0, 1, 0, 4, 0, 0, 0, 0xFF01⟩, -- RED_LOSS_LOG
  ⟨0xE0040, 1, 0, 1, 0, 8, 0, 0, 0, 0xFFFFFFFFFFFFFFFF⟩, -- RED_LOSS_T
  ⟨0xE0048, 1, 0, 1, 0, 8, 0, 0, 0, 0xFFFFFFFFFFFFFFFF⟩, -- RED_WRAP_T
  ⟨0xE0050, 1, 0, 1, 0, 4, 0, 0, 0, 0xFFFFFFFF⟩, -- RED_ANCH_A
  ⟨0xE0090, 1, 0, 1, 0, 4, 0, 0xFFFFFFFF, 0, 0xFFFFFFFF⟩, -- RED_ANCH_A_SH
  ⟨0xE0054, 1, 0, 1, 0, 4, 0, 0, 0, 0xFFFFFFFF⟩, -- RED_ANCH_B
  ⟨0xE0094, 1, 0, 1, 0, 4, 0, 0xFFFFFFFF, 0, 0xFFFFFFFF⟩, -- RED_ANCH_B_SH
  ⟨0xE0058, 4, 4, 1, 0, 4, 0xFFFFFFFF, 0, 0, 0xFFFFFFFF⟩, -- RED_SAFE
  ⟨0xE0098, 4, 4, 1, 0, 4, 0xFFFFFFFF, 0xFFFFFFFF, 0, 0xFFFFFFFF⟩, -- RED_SAFE_SH
  ⟨0xE0068, 1, 0, 1, 0, 4, 0, 0, 0, 0xFFFFFFFF⟩, -- RED_MHOLD_A
  ⟨0xE00A8, 1, 0, 1, 0, 4, 0, 0xFFFFFFFF, 0, 0xFFFFFFFF⟩, -- RED_MHOLD_A_SH
  ⟨0xE006C, 1, 0, 1, 0, 4, 0, 0, 0, 0xFFFFFFFF⟩, -- RED_MHOLD_B
  ⟨0xE00AC, 1, 0, 1, 0, 4, 0, 0xFFFFFFFF, 0, 0xFFFFFFFF⟩, -- RED_MHOLD_B_SH
  ⟨0xE0070, 1, 0, 1, 0, 4, 0, 0, 0, 0xFFFFFFFF⟩, -- RED_TWIN_Q_LO
  ⟨0xE00B0, 1, 0, 1, 0, 4, 0, 0xFFFFFFFF, 0, 0xFFFFFFFF⟩, -- RED_TWIN_Q_LO_SH
  ⟨0xE0074, 1, 0, 1, 0, 4, 0, 0, 0, 0xFFFFFFFF⟩, -- RED_TWIN_Q_HI
  ⟨0xE00B4, 1, 0, 1, 0, 4, 0, 0xFFFFFFFF, 0, 0xFFFFFFFF⟩, -- RED_TWIN_Q_HI_SH
  ⟨0xE0100, 12, 8, 1, 0, 8, 0, 0, 0, 0xFFFFFFFFFFFF⟩] -- RED_CNT

/-- Register rows of block 0x0F. -/
def regRows0F : List RegRow := [
  ⟨0xF0000, 1, 0, 1, 0, 4, 0, 0, 0, 0xFFF⟩, -- TIME_STAT
  ⟨0xF0004, 1, 0, 1, 0, 4, 0x470004, 0, 0, 0x77FF3F⟩, -- TIME_CTL
  ⟨0xF0804, 1, 0, 1, 0, 4, 0x470004, 0x77FF3F, 0, 0x77FF3F⟩, -- TIME_CTL_SH
  ⟨0xF0008, 1, 0, 1, 0, 4, 0x46400FA, 0, 0, 0xFFFFFFF⟩, -- TIME_SERVO
  ⟨0xF0808, 1, 0, 1, 0, 4, 0x46400FA, 0xFFFFFFF, 0, 0xFFFFFFF⟩, -- TIME_SERVO_SH
  ⟨0xF0010, 1, 0, 1, 0, 8, 0, 0, 0, 0xFFFFFFFFFFFFFFFF⟩, -- TIME_SPINDLE
  ⟨0xF0018, 1, 0, 1, 0, 8, 0, 0, 0, 0⟩, -- TIME_SET
  ⟨0xF0020, 1, 0, 1, 0, 4, 0, 0, 0, 0⟩, -- TIME_ADJ
  ⟨0xF0024, 1, 0, 1, 0, 4, 0, 0, 0, 0xFFFFFFFF⟩, -- TIME_OFFSET
  ⟨0xF0028, 1, 0, 1, 0, 4, 0, 0, 0, 0xFFFFFFFF⟩, -- TIME_RATE
  ⟨0xF0030, 1, 0, 1, 0, 8, 0, 0xFFFFFFFFFFFFFFFF, 0, 0xFFFFFFFFFFFFFFFF⟩, -- TIME_GM_ID
  ⟨0xF0038, 1, 0, 1, 0, 4, 1, 0xFFFF, 0, 0xFFFF⟩, -- TIME_GM_PORT
  ⟨0xF0040, 1, 0, 1, 0, 8, 0, 0, 0, 0xFFFFFFFFFFFFFFFF⟩, -- TIME_HOLD_T
  ⟨0xF0048, 1, 0, 1, 0, 4, 0x6400, 0, 0, 0xFF03⟩, -- TIME_PPS_CTL
  ⟨0xF0848, 1, 0, 1, 0, 4, 0x6400, 0xFF03, 0, 0xFF03⟩, -- TIME_PPS_CTL_SH
  ⟨0xF004C, 1, 0, 1, 0, 4, 0, 0, 0, 0xFFFFFFFF⟩, -- TIME_PPS_OFS
  ⟨0xF084C, 1, 0, 1, 0, 4, 0, 0xFFFFFFFF, 0, 0xFFFFFFFF⟩, -- TIME_PPS_OFS_SH
  ⟨0xF0050, 1, 0, 1, 0, 8, 0, 0, 0, 0xFFFFFFFFFFFFFFFF⟩, -- TIME_PPS_CAP
  ⟨0xF0058, 1, 0, 1, 0, 4, 0, 0, 0, 0x3F⟩, -- TIME_PPS_CAPF
  ⟨0xF005C, 1, 0, 1, 0, 4, 0, 0, 0, 0x7F7F7F7F⟩, -- TIME_FE_TRIM
  ⟨0xF085C, 1, 0, 1, 0, 4, 0, 0x7F7F7F7F, 0, 0x7F7F7F7F⟩, -- TIME_FE_TRIM_SH
  ⟨0xF0060, 1, 0, 1, 0, 4, 0, 0, 0, 0xF⟩, -- TIME_FE_STAT
  ⟨0xF0064, 1, 0, 1, 0, 4, 0, 0, 0xFFF, 0xFFF⟩, -- TIME_EVT
  ⟨0xF0068, 1, 0, 1, 0, 4, 0xFBF, 0xFFF, 0, 0xFFF⟩, -- TIME_EVT_EN
  ⟨0xF006C, 1, 0, 1, 0, 4, 0, 0, 0, 0⟩, -- TIME_SNAP
  ⟨0xF0070, 1, 0, 1, 0, 4, 0, 0, 0, 0x10F⟩, -- TIME_DL_HEAD
  ⟨0xF0080, 4, 0x10, 1, 0, 4, 0x10000, 0, 0, 0x1FFFF⟩, -- TIME_PORT_CTL
  ⟨0xF0880, 4, 0x10, 1, 0, 4, 0x10000, 0x1FFFF, 0, 0x1FFFF⟩, -- TIME_PORT_CTL_SH
  ⟨0xF0084, 4, 0x10, 1, 0, 4, 0, 0, 0, 0xFF01⟩, -- TIME_PORT_STAT
  ⟨0xF0088, 4, 0x10, 1, 0, 4, 0, 0, 0, 0xFFFFFFFF⟩, -- TIME_PORT_DLY
  ⟨0xF00C0, 4, 0x10, 1, 0, 4, 0x3D09, 0, 0, 0xFFFFFFFF⟩, -- TIME_MCG_NUM
  ⟨0xF08C0, 4, 0x10, 1, 0, 4, 0x3D09, 0xFFFFFFFF, 0, 0xFFFFFFFF⟩, -- TIME_MCG_NUM_SH
  ⟨0xF00C4, 4, 0x10, 1, 0, 4, 3, 0, 0, 0xFFFF⟩, -- TIME_MCG_DEN
  ⟨0xF08C4, 4, 0x10, 1, 0, 4, 3, 0xFFFF, 0, 0xFFFF⟩, -- TIME_MCG_DEN_SH
  ⟨0xF00C8, 4, 0x10, 1, 0, 4, 2, 0, 0, 0x1F⟩, -- TIME_MCG_CTL
  ⟨0xF08C8, 4, 0x10, 1, 0, 4, 2, 0x1F, 0, 0x1F⟩, -- TIME_MCG_CTL_SH
  ⟨0xF0100, 16, 0x10, 1, 0, 4, 0, 0, 0, 0x1FFFFFF⟩, -- TIME_DL_W0
  ⟨0xF0104, 16, 0x10, 1, 0, 4, 0, 0, 0, 0xFFFFFFFF⟩, -- TIME_DL_W1
  ⟨0xF0108, 16, 0x10, 1, 0, 8, 0, 0, 0, 0xFFFFFFFFFFFFFFFF⟩, -- TIME_DL_T
  ⟨0xF0200, 10, 8, 1, 0, 8, 0, 0, 0, 0xFFFFFFFFFFFF⟩] -- TIME_CNT

/-- Register rows of block 0x10. -/
def regRows10 : List RegRow := [
  ⟨0x100000, 16, 0x1000, 1, 0, 4, 0, 0, 0, 0xFFFFFFFF⟩, -- GG_CLK
  ⟨0x100040, 16, 0x1000, 1, 0, 4, 0, 0xFFFFFFFF, 0, 0xFFFFFFFF⟩, -- GG_CLK_SH
  ⟨0x100004, 16, 0x1000, 1, 0, 4, 0, 0, 0, 0x100F7F7⟩, -- GG_MAP
  ⟨0x100044, 16, 0x1000, 1, 0, 4, 0, 0x100F7F7, 0, 0x100F7F7⟩, -- GG_MAP_SH
  ⟨0x100008, 16, 0x1000, 1, 0, 4, 0x80000000, 0, 0, 0xFD3F003F⟩, -- GG_EXEC
  ⟨0x100048, 16, 0x1000, 1, 0, 4, 0x80000000, 0xFD3F003F, 0, 0xFD3F003F⟩, -- GG_EXEC_SH
  ⟨0x100010, 16, 0x1000, 8, 4, 4, 0, 0, 0, 0x7F7F⟩, -- GG_SLOT
  ⟨0x100050, 16, 0x1000, 8, 4, 4, 0, 0x7F7F, 0, 0x7F7F⟩, -- GG_SLOT_SH
  ⟨0x100104, 16, 0x1000, 7, 4, 4, 0, 0, 0, 0xFFFFFF⟩, -- GG_MARK
  ⟨0x100144, 16, 0x1000, 7, 4, 4, 0, 0xFFFFFF, 0, 0xFFFFFF⟩, -- GG_MARK_SH
  ⟨0x100400, 16, 0x1000, 64, 4, 4, 0, 0xFFFFFFFF, 0, 0xFFFFFFFF⟩, -- GG_IMEM
  ⟨0x100030, 8, 0x2000, 1, 0, 4, 2, 0, 0, 0xF⟩, -- GG_FIFO, even engines
  ⟨0x101030, 8, 0x2000, 1, 0, 4, 2, 0, 0, 7⟩, -- GG_FIFO, odd engines
  ⟨0x100070, 8, 0x2000, 1, 0, 4, 2, 0xF, 0, 0xF⟩, -- GG_FIFO_SH, even engines
  ⟨0x101070, 8, 0x2000, 1, 0, 4, 2, 7, 0, 7⟩, -- GG_FIFO_SH, odd engines
  ⟨0x100080, 16, 0x1000, 1, 0, 4, 0, 0, 0, 0⟩, -- GG_CTL
  ⟨0x100084, 16, 0x1000, 1, 0, 4, 0, 0, 0x1FF0000, 0x1FF7F1F⟩, -- GG_STAT
  ⟨0x100088, 16, 0x1000, 1, 0, 4, 0, 0, 0, 0x3F3F⟩, -- GG_FSTAT
  ⟨0x10008C, 16, 0x1000, 1, 0, 4, 0, 0, 0, 0⟩, -- GG_TXF
  ⟨0x100090, 16, 0x1000, 1, 0, 4, 0, 0, 0, 0xFFFFFFFF⟩, -- GG_RXF
  ⟨0x100094, 16, 0x1000, 1, 0, 4, 0, 0, 0, 0⟩, -- GG_INJ
  ⟨0x100098, 16, 0x1000, 1, 0, 4, 0, 0, 0, 0⟩, -- GG_INJ_FORCE
  ⟨0x1000A0, 16, 0x1000, 1, 0, 4, 0, 0, 0, 0xFFFFFFFF⟩, -- GG_SR
  ⟨0x1000A4, 16, 0x1000, 1, 0, 4, 0, 0, 0, 0x73F⟩, -- GG_SCF
  ⟨0x1000A8, 16, 0x1000, 4, 4, 4, 0, 0, 0, 0xFFFFFFFF⟩, -- GG_X
  ⟨0x1000B8, 16, 0x1000, 1, 0, 4, 0, 0, 0, 0xFFFFFFFF⟩, -- GG_CMP
  ⟨0x1000BC, 16, 0x1000, 1, 0, 4, 0, 0, 0, 0xFFFFFFFF⟩, -- GG_TSTEP
  ⟨0x1000C0, 16, 0x1000, 1, 0, 8, 0, 0, 0, 0xFFFFFFFFFFFFFFFF⟩, -- GG_TB
  ⟨0x1000C8, 16, 0x1000, 1, 0, 8, 0, 0, 0, 0xFFFFFFFFFFFFFFFF⟩, -- GG_TCAP
  ⟨0x1000D0, 16, 0x1000, 5, 8, 8, 0, 0, 0, 0xFFFFFFFFFFFF⟩, -- GG_CNT
  ⟨0x100800, 1, 0, 1, 0, 4, 0, 0, 0, 0⟩, -- GG_GCMD
  ⟨0x100804, 1, 0, 1, 0, 4, 0, 0, 0x1F0, 0x1FF⟩, -- GG_GSTAT
  ⟨0x100808, 1, 0, 1, 0, 4, 0, 0, 0, 0xFFFF⟩, -- GG_EF
  ⟨0x10080C, 1, 0, 1, 0, 4, 0, 0, 0, 0⟩, -- GG_EF_SET
  ⟨0x100810, 1, 0, 1, 0, 4, 0, 0, 0, 0⟩, -- GG_EF_CLR
  ⟨0x100814, 1, 0, 1, 0, 4, 0, 0, 0xFFFF, 0xFFFF⟩, -- GG_FLAG_SRC
  ⟨0x100818, 1, 0, 1, 0, 4, 0, 0, 0, 0⟩, -- GG_GSNAP
  ⟨0x10081C, 1, 0, 1, 0, 4, 0, 0, 0, 0xFFFF⟩, -- GG_AUTO
  ⟨0x10085C, 1, 0, 1, 0, 4, 0, 0xFFFF, 0, 0xFFFF⟩, -- GG_AUTO_SH
  ⟨0x100820, 4, 4, 1, 0, 4, 0, 0, 0, 0x1FFFF⟩, -- GG_GMEM
  ⟨0x100860, 4, 4, 1, 0, 4, 0, 0x1FFFF, 0, 0x1FFFF⟩, -- GG_GMEM_SH
  ⟨0x100880, 4, 8, 1, 0, 8, 0, 0xFFFFFFFFFFFFFFFF, 0, 0xFFFFFFFFFFFFFFFF⟩] -- GG_GTIME

/-- Register rows of block 0x11. -/
def regRows11 : List RegRow := [
  ⟨0x110000, 1, 0, 1, 0, 4, 0, 0, 0x1F, 0x1F⟩, -- SQ_EVT
  ⟨0x110004, 1, 0, 1, 0, 4, 0x17, 0x1F, 0, 0x1F⟩, -- SQ_EVT_EN
  ⟨0x110008, 1, 0, 1, 0, 4, 0, 0, 0xFFFFFFFF, 0xFFFFFFFF⟩, -- SQ_LVLPEND_LO
  ⟨0x11000C, 1, 0, 1, 0, 4, 0, 0, 0xFFFFFFFF, 0xFFFFFFFF⟩, -- SQ_LVLPEND_HI
  ⟨0x110010, 1, 0, 1, 0, 4, 0, 0, 0, 0x3FF3F⟩, -- SQ_NOQ_LOG
  ⟨0x111000, 64, 0x40, 1, 0, 4, 0x1013FF0, 0, 0, 0xFFFF3FFF⟩, -- SQ_CFG
  ⟨0x111030, 64, 0x40, 1, 0, 4, 0x1013FF0, 0xFFFF3FFF, 0, 0xFFFF3FFF⟩, -- SQ_CFG_SH
  ⟨0x111004, 64, 0x40, 1, 0, 4, 0x20000, 0, 0, 0x7FFFFFF⟩, -- SQ_GEOM
  ⟨0x111034, 64, 0x40, 1, 0, 4, 0x20000, 0x7FFFFFF, 0, 0x7FFFFFF⟩, -- SQ_GEOM_SH
  ⟨0x111008, 64, 0x40, 1, 0, 4, 0xFE, 0, 0, 0x1FFFFFFF⟩, -- SQ_DEST0
  ⟨0x111038, 64, 0x40, 1, 0, 4, 0xFE, 0x1FFFFFFF, 0, 0x1FFFFFFF⟩, -- SQ_DEST0_SH
  ⟨0x11100C, 64, 0x40, 1, 0, 4, 0, 0, 0, 0x1FFFFFFF⟩, -- SQ_DEST1
  ⟨0x11103C, 64, 0x40, 1, 0, 4, 0, 0x1FFFFFFF, 0, 0x1FFFFFFF⟩, -- SQ_DEST1_SH
  ⟨0x111010, 64, 0x40, 1, 0, 4, 0, 0, 0, 0xFFFF1FFF⟩, -- SQ_CNT
  ⟨0x111014, 64, 0x40, 1, 0, 4, 0, 0x7FF, 0, 0x7FF⟩, -- SQ_LVL
  ⟨0x111018, 64, 0x40, 1, 0, 4, 0, 0, 0, 0⟩, -- SQ_CMD
  ⟨0x11101C, 64, 0x40, 1, 0, 4, 0, 0, 0, 0xFFFFFFFF⟩, -- SQ_HEAD
  ⟨0x111020, 64, 0x40, 1, 0, 4, 0, 0, 0, 0xFFFFFFFF⟩] -- SQ_TAIL

/-- Register rows of block 0x12. -/
def regRows12 : List RegRow := [
  ⟨0x120000, 1, 0, 1, 0, 4, 0, 0, 0x3C, 0xFFFF3F⟩, -- LSV_STAT
  ⟨0x120004, 1, 0, 1, 0, 4, 0, 0, 0x7FFFF, 0x7FFFF⟩, -- LSV_EVT
  ⟨0x120008, 1, 0, 1, 0, 4, 0x7FFFF, 0x7FFFF, 0, 0x7FFFF⟩, -- LSV_EVT_EN
  ⟨0x12000C, 1, 0, 1, 0, 4, 0, 0, 0, 0x3FF⟩, -- LSV_PLAYQ
  ⟨0x120010, 1, 0, 1, 0, 4, 0xF084650, 0, 0, 0xFFFFFFF⟩, -- LSV_SWP
  ⟨0x124010, 1, 0, 1, 0, 4, 0xF084650, 0xFFFFFFF, 0, 0xFFFFFFF⟩, -- LSV_SWP_SH
  ⟨0x120100, 8, 0x20, 1, 0, 4, 0x21402, 0, 0, 0xFFFFFF03⟩, -- LSV_SCI_CFG
  ⟨0x124100, 8, 0x20, 1, 0, 4, 0x21402, 0xFFFFFF03, 0, 0xFFFFFF03⟩, -- LSV_SCI_CFG_SH
  ⟨0x120104, 8, 0x20, 1, 0, 4, 0x7D000C8, 0, 0, 0xFFFFFFFF⟩, -- LSV_SCI_TH_LO
  ⟨0x124104, 8, 0x20, 1, 0, 4, 0x7D000C8, 0xFFFFFFFF, 0, 0xFFFFFFFF⟩, -- LSV_SCI_TH_LO_SH
  ⟨0x120108, 8, 0x20, 1, 0, 4, 0x27100DAC, 0, 0, 0xFFFFFFFF⟩, -- LSV_SCI_TH_HI
  ⟨0x124108, 8, 0x20, 1, 0, 4, 0x27100DAC, 0xFFFFFFFF, 0, 0xFFFFFFFF⟩, -- LSV_SCI_TH_HI_SH
  ⟨0x12010C, 8, 0x20, 1, 0, 4, 0xFFFF, 0, 0, 0x1FFFF⟩, -- LSV_SCI_R
  ⟨0x120110, 8, 0x20, 1, 0, 4, 0x4C, 0, 0, 0xFFFF⟩, -- LSV_SCI_STAT
  ⟨0x120400, 8, 0x40, 1, 0, 4, 0x300A, 0, 0, 0xF3FF⟩, -- LSV_LS_CTL
  ⟨0x124400, 8, 0x40, 1, 0, 4, 0x300A, 0xF3FF, 0, 0xF3FF⟩, -- LSV_LS_CTL_SH
  ⟨0x120404, 8, 0x40, 1, 0, 4, 0x2855F0, 0, 0, 0x7FFFFF⟩, -- LSV_LS_PILOT
  ⟨0x124404, 8, 0x40, 1, 0, 4, 0x2855F0, 0x7FFFFF, 0, 0x7FFFFF⟩, -- LSV_LS_PILOT_SH
  ⟨0x120408, 8, 0x40, 1, 0, 4, 0x640000, 0, 0, 0xFFFFFFFF⟩, -- LSV_LS_SCALE
  ⟨0x124408, 8, 0x40, 1, 0, 4, 0x640000, 0xFFFFFFFF, 0, 0xFFFFFFFF⟩, -- LSV_LS_SCALE_SH
  ⟨0x12040C, 8, 0x40, 1, 0, 4, 0xA0A0A, 0, 0, 0xFFFFFFFF⟩, -- LSV_LS_WIN
  ⟨0x12440C, 8, 0x40, 1, 0, 4, 0xA0A0A, 0xFFFFFFFF, 0, 0xFFFFFFFF⟩, -- LSV_LS_WIN_SH
  ⟨0x120410, 8, 0x40, 1, 0, 4, 0, 0xFFFFFFFF, 0, 0xFFFFFFFF⟩, -- LSV_LS_BASE_RE
  ⟨0x120414, 8, 0x40, 1, 0, 4, 0, 0xFFFFFFFF, 0, 0xFFFFFFFF⟩, -- LSV_LS_BASE_IM
  ⟨0x120418, 8, 0x40, 1, 0, 4, 0, 0, 8, 0x1F⟩, -- LSV_LS_CMD
  ⟨0x12041C, 8, 0x40, 1, 0, 4, 7, 0, 0, 0xFF3F⟩, -- LSV_LS_RES
  ⟨0x120420, 8, 0x40, 1, 0, 4, 0, 0, 0, 0xFFFFFFFF⟩, -- LSV_LS_Z_RE
  ⟨0x120424, 8, 0x40, 1, 0, 4, 0, 0, 0, 0xFFFFFFFF⟩, -- LSV_LS_Z_IM
  ⟨0x120428, 8, 0x40, 1, 0, 4, 0, 0, 0, 0xFFFFFFFF⟩, -- LSV_LS_ZMAG
  ⟨0x12042C, 8, 0x40, 1, 0, 4, 0, 0, 0, 0xFFFF⟩, -- LSV_LS_ZPH
  ⟨0x120430, 8, 0x40, 1, 0, 4, 0, 0, 0, 0xFFFFFFFF⟩, -- LSV_LS_AMP
  ⟨0x120438, 8, 0x40, 1, 0, 8, 0, 0, 0, 0xFFFFFFFFFFFFFFFF⟩, -- LSV_LS_RES_T
  ⟨0x120800, 16, 4, 1, 0, 4, 0, 0, 0, 0xFFF7F7⟩, -- LSV_ACT
  ⟨0x124800, 16, 4, 1, 0, 4, 0, 0xFFF7F7, 0, 0xFFF7F7⟩, -- LSV_ACT_SH
  ⟨0x120C00, 8, 4, 1, 0, 4, 0, 0, 0, 0xFFFF⟩, -- LSV_SWP_STAT
  ⟨0x121000, 8, 0x100, 16, 8, 4, 0, 0, 0, 0xFFFFFFFF⟩, -- LSV_SWP_Z_RE
  ⟨0x121004, 8, 0x100, 16, 8, 4, 0, 0, 0, 0xFFFFFFFF⟩] -- LSV_SWP_Z_IM

/-- Register rows of block 0x13. -/
def regRows13 : List RegRow := [
  ⟨0x130000, 4, 0x4000, 1, 0, 4, 0xA, 0, 0, 0xFFFF003F⟩, -- MB_CTL
  ⟨0x130040, 4, 0x4000, 1, 0, 4, 0xA, 0xFFFF003F, 0, 0xFFFF003F⟩, -- MB_CTL_SH
  ⟨0x130004, 4, 0x4000, 1, 0, 4, 0x1F1F7E, 0, 0, 0x1F7F7FFF⟩, -- MB_NBT
  ⟨0x130044, 4, 0x4000, 1, 0, 4, 0x1F1F7E, 0x1F7F7FFF, 0, 0x1F7F7FFF⟩, -- MB_NBT_SH
  ⟨0x130008, 4, 0x4000, 1, 0, 4, 0x991C, 0, 0, 0x1FFF1F⟩, -- MB_DBT
  ⟨0x130048, 4, 0x4000, 1, 0, 4, 0x991C, 0x1FFF1F, 0, 0x1FFF1F⟩, -- MB_DBT_SH
  ⟨0x13000C, 4, 0x4000, 1, 0, 4, 0x1E01, 0, 0, 0x7F01⟩, -- MB_TDC
  ⟨0x13004C, 4, 0x4000, 1, 0, 4, 0x1E01, 0x7F01, 0, 0x7F01⟩, -- MB_TDC_SH
  ⟨0x130010, 1, 0, 1, 0, 4, 0, 0, 0, 0x7FFFFFF⟩, -- MB_OBJ
  ⟨0x134010, 1, 0, 1, 0, 4, 0x1E0, 0, 0, 0x7FFFFFF⟩, -- MB_OBJ
  ⟨0x138010, 1, 0, 1, 0, 4, 0x3C0, 0, 0, 0x7FFFFFF⟩, -- MB_OBJ
  ⟨0x13C010, 1, 0, 1, 0, 4, 0x5A0, 0, 0, 0x7FFFFFF⟩, -- MB_OBJ
  ⟨0x130050, 1, 0, 1, 0, 4, 0, 0x7FFFFFF, 0, 0x7FFFFFF⟩, -- MB_OBJ_SH
  ⟨0x134050, 1, 0, 1, 0, 4, 0x1E0, 0x7FFFFFF, 0, 0x7FFFFFF⟩, -- MB_OBJ_SH
  ⟨0x138050, 1, 0, 1, 0, 4, 0x3C0, 0x7FFFFFF, 0, 0x7FFFFFF⟩, -- MB_OBJ_SH
  ⟨0x13C050, 1, 0, 1, 0, 4, 0x5A0, 0x7FFFFFF, 0, 0x7FFFFFF⟩, -- MB_OBJ_SH
  ⟨0x130080, 4, 0x4000, 1, 0, 4, 0, 0, 0, 0xFF7F1F⟩, -- MB_STAT
  ⟨0x130084, 4, 0x4000, 1, 0, 4, 0, 0, 0, 0x7FF01FF⟩, -- MB_ERR
  ⟨0x130088, 4, 0x4000, 1, 0, 4, 0, 0, 0x100, 0x1FF⟩, -- MB_ERRLOG
  ⟨0x13008C, 4, 0x4000, 1, 0, 4, 0, 0, 0, 0⟩, -- MB_CMD
  ⟨0x130090, 4, 0x4000, 1, 0, 4, 0, 0, 0, 0⟩, -- MB_TXCMD
  ⟨0x130094, 4, 0x4000, 1, 0, 4, 0, 0, 0xFFF, 0xFFF⟩, -- MB_EVT
  ⟨0x130098, 4, 0x4000, 1, 0, 4, 0xEEF, 0xFFF, 0, 0xFFF⟩, -- MB_EVT_EN
  ⟨0x13009C, 4, 0x4000, 1, 0, 4, 0, 0, 0, 0xF7FF⟩, -- MB_TXLOG
  ⟨0x1300A0, 4, 0x4000, 1, 0, 4, 0, 0, 0, 0xFFFFFFFF⟩, -- MB_NEWSUM_LO
  ⟨0x1300A4, 4, 0x4000, 1, 0, 4, 0, 0, 0, 0xFFFF⟩, -- MB_NEWSUM_HI
  ⟨0x130100, 4, 0x4000, 48, 4, 4, 0, 0, 0xFFFFFFFF, 0xFFFFFFFF⟩, -- MB_NEW
  ⟨0x130200, 4, 0x4000, 48, 4, 4, 0, 0, 0xFFFFFFFF, 0xFFFFFFFF⟩, -- MB_LOST
  ⟨0x130300, 4, 0x4000, 48, 4, 4, 0, 0, 0, 0xFFFFFFFF⟩, -- MB_TXPEND
  ⟨0x130400, 4, 0x4000, 48, 4, 4, 0, 0, 0xFFFFFFFF, 0xFFFFFFFF⟩, -- MB_TXDONE
  ⟨0x130500, 4, 0x4000, 48, 4, 4, 0, 0, 0xFFFFFFFF, 0xFFFFFFFF⟩, -- MB_TXFAIL
  ⟨0x130800, 4, 0x4000, 12, 8, 8, 0, 0, 0, 0xFFFFFFFFFFFF⟩, -- MB_CNT
  ⟨0x130F00, 1, 0, 1, 0, 4, 0, 0, 0, 0⟩, -- MB_SNAP
  ⟨0x130F04, 1, 0, 1, 0, 4, 0, 0x1FFF, 0, 0x1FFF⟩, -- MB_TXLIST_IDX
  ⟨0x130F08, 1, 0, 1, 0, 4, 0, 0, 0, 0x1FFF⟩, -- MB_TXLIST_CNT
  ⟨0x130F0C, 1, 0, 1, 0, 4, 0, 0, 0, 0xFFFFFFFF⟩, -- MB_TXLIST_LO
  ⟨0x130F10, 1, 0, 1, 0, 4, 0, 0, 0, 0xFFFFFFFF⟩, -- MB_TXLIST_HI
  ⟨0x131000, 4, 0x4000, 1536, 4, 4, 0, 0, 0, 0xFFFFFFFF⟩, -- MB_DIR
  ⟨0x132800, 4, 0x4000, 1536, 4, 4, 0, 0xFFFFFFFF, 0, 0xFFFFFFFF⟩] -- MB_DIR_SH

/-- Register rows of block 0x14. -/
def regRows14 : List RegRow := [
  ⟨0x140000, 1, 0, 1, 0, 4, 0, 0, 0, 3⟩, -- HBR_STAT
  ⟨0x140004, 1, 0, 1, 0, 4, 5, 0, 0, 7⟩, -- HBR_CTL
  ⟨0x140044, 1, 0, 1, 0, 4, 5, 7, 0, 7⟩, -- HBR_CTL_SH
  ⟨0x140008, 1, 0, 1, 0, 4, 0, 0, 0, 0xFFFFFFFF⟩, -- HBR_MAC_LO
  ⟨0x140048, 1, 0, 1, 0, 4, 0, 0xFFFFFFFF, 0, 0xFFFFFFFF⟩, -- HBR_MAC_LO_SH
  ⟨0x14000C, 1, 0, 1, 0, 4, 0, 0, 0, 0xFFFF⟩, -- HBR_MAC_HI
  ⟨0x14004C, 1, 0, 1, 0, 4, 0, 0xFFFF, 0, 0xFFFF⟩, -- HBR_MAC_HI_SH
  ⟨0x140010, 1, 0, 1, 0, 4, 0, 0, 0, 0xFFFFFFFF⟩, -- HBR_HOSTMAC_LO
  ⟨0x140014, 1, 0, 1, 0, 4, 0, 0, 0, 0xFFFF⟩, -- HBR_HOSTMAC_HI
  ⟨0x140018, 1, 0, 1, 0, 4, 0x800000, 0, 0, 0x3FFFFFFF⟩, -- HBR_HST
  ⟨0x14001C, 1, 0, 1, 0, 4, 0, 0, 0x3F, 0x3F⟩, -- HBR_EVT
  ⟨0x140020, 1, 0, 1, 0, 4, 0x3B, 0x3F, 0, 0x3F⟩, -- HBR_EVT_EN
  ⟨0x140024, 1, 0, 1, 0, 4, 0, 0, 0, 0⟩, -- HBR_SNAP
  ⟨0x140028, 1, 0, 1, 0, 4, 0x64, 0, 0, 0xFFFF⟩, -- HBR_SEM_CTL
  ⟨0x140068, 1, 0, 1, 0, 4, 0x64, 0xFFFF, 0, 0xFFFF⟩, -- HBR_SEM_CTL_SH
  ⟨0x140080, 5, 0x10, 1, 0, 4, 0, 0, 0, 1⟩, -- HBR_FENCE_CTL
  ⟨0x140084, 5, 0x10, 1, 0, 4, 0, 0, 6, 0xFFFFFF0F⟩, -- HBR_FENCE_STAT
  ⟨0x140088, 5, 0x10, 1, 0, 4, 0, 0, 0, 0xFFFFFFFF⟩, -- HBR_FENCE_ADDR_LO
  ⟨0x14008C, 5, 0x10, 1, 0, 4, 0, 0, 0, 0xFFFF⟩, -- HBR_FENCE_ADDR_HI
  ⟨0x140100, 1, 0, 1, 0, 4, 0, 0, 0, 0xFFFF07FF⟩, -- HBR_PWLOG0
  ⟨0x140104, 1, 0, 1, 0, 4, 0, 0, 0, 0xFFFFFFFF⟩, -- HBR_PWLOG1
  ⟨0x140108, 1, 0, 1, 0, 4, 0, 0, 0, 0xFFFFFFFF⟩, -- HBR_PWLOG2
  ⟨0x140200, 32, 4, 1, 0, 4, 0, 0, 0, 0x80001FFF⟩, -- HBR_SEM
  ⟨0x140300, 10, 8, 1, 0, 8, 0, 0, 0, 0xFFFFFFFFFFFF⟩] -- HBR_CNT

/-- Register rows of block 0x15. -/
def regRows15 : List RegRow := [
  ⟨0x150000, 1, 0, 1, 0, 4, 0, 0, 0x38, 0x3F⟩, -- LPW_STAT
  ⟨0x150004, 1, 0, 1, 0, 4, 0, 0, 0x3FFFF, 0x3FFFF⟩, -- LPW_EVT
  ⟨0x150008, 1, 0, 1, 0, 4, 0x1F7EF, 0x3FFFF, 0, 0x3FFFF⟩, -- LPW_EVT_EN
  ⟨0x15000C, 1, 0, 1, 0, 4, 0, 0, 0, 0⟩, -- LPW_SNAP
  ⟨0x150010, 1, 0, 1, 0, 4, 0xA262015E, 0, 0, 0xF3FF03FF⟩, -- LPW_BUS
  ⟨0x150810, 1, 0, 1, 0, 4, 0xA262015E, 0xF3FF03FF, 0, 0xF3FF03FF⟩, -- LPW_BUS_SH
  ⟨0x150014, 1, 0, 1, 0, 4, 0xF0A04, 0, 0, 0xF3F3F⟩, -- LPW_SEQ
  ⟨0x150814, 1, 0, 1, 0, 4, 0xF0A04, 0xF3F3F, 0, 0xF3F3F⟩, -- LPW_SEQ_SH
  ⟨0x150018, 1, 0, 1, 0, 4, 0, 0, 0, 0xFF07FF⟩, -- LPW_SEQ_STAT
  ⟨0x15001C, 1, 0, 1, 0, 4, 0, 0, 0, 0x3FFFF⟩, -- LPW_VBUS
  ⟨0x150100, 2, 0x40, 1, 0, 4, 0x320003, 0, 0, 0xFFFF03⟩, -- LPW_P_CFG
  ⟨0x150900, 2, 0x40, 1, 0, 4, 0x320003, 0xFFFF03, 0, 0xFFFF03⟩, -- LPW_P_CFG_SH
  ⟨0x150104, 2, 0x40, 1, 0, 4, 0xA262015E, 0, 0, 0xF3FF03FF⟩, -- LPW_P_WIN
  ⟨0x150904, 2, 0x40, 1, 0, 4, 0xA262015E, 0xF3FF03FF, 0, 0xF3FF03FF⟩, -- LPW_P_WIN_SH
  ⟨0x150108, 2, 0x40, 1, 0, 4, 0x140528, 0, 0, 0xFF1F7F⟩, -- LPW_P_LIM
  ⟨0x150908, 2, 0x40, 1, 0, 4, 0x140528, 0xFF1F7F, 0, 0xFF1F7F⟩, -- LPW_P_LIM_SH
  ⟨0x15010C, 2, 0x40, 1, 0, 4, 0xA0A, 0, 0, 0xFF3F⟩, -- LPW_P_TIM
  ⟨0x15090C, 2, 0x40, 1, 0, 4, 0xA0A, 0xFF3F, 0, 0xFF3F⟩, -- LPW_P_TIM_SH
  ⟨0x150110, 2, 0x40, 1, 0, 4, 0, 0, 0, 0⟩, -- LPW_P_CMD
  ⟨0x150114, 2, 0x40, 1, 0, 4, 0x81, 0, 0, 0xFFFFFFFF⟩, -- LPW_P_STAT
  ⟨0x150118, 2, 0x40, 1, 0, 4, 0, 0, 0, 0x1FFFF⟩, -- LPW_P_V
  ⟨0x15011C, 2, 0x40, 1, 0, 4, 0, 0, 0, 0xFFFF⟩, -- LPW_P_I
  ⟨0x150120, 2, 0x40, 1, 0, 4, 0, 0, 0, 0xFFFFFFFF⟩, -- LPW_P_P
  ⟨0x150124, 2, 0x40, 1, 0, 4, 0, 0, 0, 0xFFFFF⟩, -- LPW_P_DET
  ⟨0x150200, 4, 8, 1, 0, 8, 0, 0, 0, 0xFFFFFFFFFFFF⟩] -- LPW_CNT

/-- Register rows of block 0x16. -/
def regRows16 : List RegRow := [
  ⟨0x160000, 1, 0, 1, 0, 4, 0, 0, 0x90, 0x1FF⟩, -- UPD_STAT
  ⟨0x160004, 1, 0, 1, 0, 4, 0, 0, 0, 0⟩, -- UPD_CMD
  ⟨0x160008, 1, 0, 1, 0, 4, 0, 0xFFFFFF, 0, 0xFFFFFF⟩, -- UPD_FADDR
  ⟨0x16000C, 1, 0, 1, 0, 4, 0, 0, 0, 0xFFF⟩, -- UPD_RES
  ⟨0x160010, 1, 0, 1, 0, 4, 0, 0xFFF, 0, 0xFFFFFF⟩, -- UPD_TRIAL
  ⟨0x160014, 1, 0, 1, 0, 4, 0, 0, 0, 7⟩, -- UPD_BOOT
  ⟨0x160018, 1, 0, 1, 0, 4, 0, 0, 0, 1⟩, -- UPD_ACT
  ⟨0x16001C, 1, 0, 1, 0, 4, 0, 0, 0xF, 0xF⟩, -- UPD_EVT
  ⟨0x160020, 1, 0, 1, 0, 4, 0xF, 0xF, 0, 0xF⟩, -- UPD_EVT_EN
  ⟨0x160024, 1, 0, 1, 0, 4, 0, 0, 0, 0xFF⟩, -- UPD_OTP_STAT
  ⟨0x160028, 1, 0, 1, 0, 4, 0, 0, 0, 0⟩, -- UPD_OTP_KEY
  ⟨0x16002C, 1, 0, 1, 0, 4, 0, 0x1FFFFF, 0, 0x1FFFFF⟩, -- UPD_MLEN
  ⟨0x160030, 1, 0, 1, 0, 4, 0, 0xFFFFFFFF, 0, 0xFFFFFFFF⟩, -- UPD_MSRC
  ⟨0x160034, 1, 0, 1, 0, 4, 0, 1, 0, 1⟩, -- UPD_ACT_SH
  ⟨0x160040, 8, 4, 1, 0, 4, 0, 0xFFFFFFFF, 0, 0xFFFFFFFF⟩, -- UPD_HASH
  ⟨0x160060, 8, 4, 1, 0, 4, 0, 0, 0, 0xFFFFFFFF⟩, -- UPD_TAG
  ⟨0x160080, 4, 4, 1, 0, 4, 0, 0, 0, 0xFFFFFFFF⟩, -- UPD_UID
  ⟨0x160100, 4, 0x20, 8, 4, 4, 0, 0, 0, 0xFFFFFFFF⟩, -- UPD_KHASH
  ⟨0x161000, 64, 4, 1, 0, 4, 0, 0xFFFFFFFF, 0, 0xFFFFFFFF⟩] -- UPD_BUF

/-- Register rows of block 0x17. -/
def regRows17 : List RegRow := [
  ⟨0x170000, 1, 0, 1, 0, 4, 0xA54643F, 0xFFF7FF3F, 0, 0xFFF7FF3F⟩, -- TST_PCTL
  ⟨0x170004, 1, 0, 1, 0, 4, 0x32, 0xFFFF, 0, 0xFFFF⟩, -- TST_PCTL2
  ⟨0x170008, 1, 0, 1, 0, 4, 0, 0, 0, 0x1F⟩, -- TST_PSTAT
  ⟨0x17000C, 1, 0, 1, 0, 4, 0, 0, 0, 0xFFF⟩, -- TST_PRES
  ⟨0x170010, 1, 0, 1, 0, 4, 0, 0, 0, 0xFF⟩, -- TST_PLANE
  ⟨0x170014, 1, 0, 1, 0, 4, 0, 0, 0, 0xFFFFFFFF⟩, -- TST_PWRAP
  ⟨0x170018, 1, 0, 1, 0, 4, 0, 0, 0, 0xFFFFFFFF⟩, -- TST_PTWIN
  ⟨0x17001C, 1, 0, 1, 0, 4, 0, 0, 0, 0xFFFF⟩, -- TST_PFAIL
  ⟨0x170020, 1, 0, 1, 0, 8, 0, 0, 0, 0xFFFFFFFFFFFFFFFF⟩, -- TST_PT0
  ⟨0x170028, 1, 0, 1, 0, 4, 0, 0, 7, 7⟩, -- TST_EVT
  ⟨0x17002C, 1, 0, 1, 0, 4, 7, 7, 0, 7⟩, -- TST_EVT_EN
  ⟨0x170030, 1, 0, 1, 0, 4, 0x6404C3, 0, 0, 0xFFFFFFFF⟩, -- TST_IDCODE
  ⟨0x170034, 1, 0, 1, 0, 4, 0, 0xF, 0, 0x60F⟩] -- TST_FTCTL

/-- Register rows of block 0x18. -/
def regRows18 : List RegRow := [
  ⟨0x180000, 32, 4, 1, 0, 4, 0, 0xFFFFFFFF, 0, 0xFFFFFFFF⟩, -- BIV_BKP
  ⟨0x180080, 1, 0, 1, 0, 4, 0, 0, 6, 7⟩, -- BIV_STAT
  ⟨0x180084, 1, 0, 1, 0, 4, 0, 1, 0, 1⟩, -- BIV_CTL
  ⟨0x180088, 1, 0, 1, 0, 4, 0, 1, 0, 1⟩, -- BIV_PAGE
  ⟨0x180090, 1, 0, 1, 0, 4, 0, 0, 0, 0xFFFFFFFF⟩, -- BIV_HOLD_A
  ⟨0x180094, 1, 0, 1, 0, 4, 0, 0, 0, 0xFFFFFFFF⟩, -- BIV_HOLD_B
  ⟨0x180098, 1, 0, 1, 0, 4, 0, 0, 0, 0xFFFFFFFF⟩, -- BIV_HOLD_LVL_A
  ⟨0x18009C, 1, 0, 1, 0, 4, 0, 0, 0, 0xFFFFFFFF⟩, -- BIV_HOLD_LVL_B
  ⟨0x1800A0, 1, 0, 1, 0, 4, 0, 0xFFFFFFFF, 0, 0xFFFFFFFF⟩, -- BIV_HOLD_A_SH
  ⟨0x1800A4, 1, 0, 1, 0, 4, 0, 0xFFFFFFFF, 0, 0xFFFFFFFF⟩] -- BIV_HOLD_B_SH

/-- The rows of a block by its number in the block map (R24). -/
def regRowsOf (blk : Nat) : List RegRow :=
  match blk with
  | 0x00 => regRows00
  | 0x01 => regRows01
  | 0x02 => regRows02
  | 0x04 => regRows04
  | 0x05 => regRows05
  | 0x06 => regRows06
  | 0x07 => regRows07
  | 0x08 => regRows08
  | 0x09 => regRows09
  | 0x0A => regRows0A
  | 0x0B => regRows0B
  | 0x0C => regRows0C
  | 0x0D => regRows0D
  | 0x0E => regRows0E
  | 0x0F => regRows0F
  | 0x10 => regRows10
  | 0x11 => regRows11
  | 0x12 => regRows12
  | 0x13 => regRows13
  | 0x14 => regRows14
  | 0x15 => regRows15
  | 0x16 => regRows16
  | 0x17 => regRows17
  | 0x18 => regRows18
  | _ => []

/-- The window that holds a register of its own: the group registers of GG and the shared registers of MB are the same in
every window of their block (R356, R408). -/
def oneWindow (o : Nat) : Nat :=
  if 0x100000 ≤ o ∧ o < 0x110000 ∧ 0x800 ≤ o % 0x1000 ∧ o % 0x1000 < 0x900 then 0x100000 + o % 0x1000
  else if 0x130000 ≤ o ∧ o < 0x140000 ∧ 0xF00 ≤ o % 0x4000 ∧ o % 0x4000 < 0xF14 then 0x130000 + o % 0x4000
  else o

/-- The row and register an offset lies in, if any (R5: an offset in none is unmapped). -/
def regFind (o : Nat) : Option (RegRow × Nat) :=
  (regRowsOf (o / 0x10000)).findSome? fun r => (r.base? o).map fun b => (r, b)

end Sys2Proof.Machine
end

