-- ==== Sys2Proof/Machine/FrameFmt.lean ====
section
/-! DEFINITION. The ring frame's fields (R167 to R171) and the CRC-32C that protects frames and records. -/
namespace Sys2Proof.Machine

/-- A field of a 64-bit word. -/
def hwGet (x : DWord) (lo w : Nat) : Nat := x.toNat / 2 ^ lo % 2 ^ w

/-- Replaces a field of a 64-bit word. -/
def hwSet (x : DWord) (lo w v : Nat) : DWord :=
  (x &&& ~~~ BitVec.ofNat 64 ((2 ^ w - 1) * 2 ^ lo)) ||| (BitVec.ofNat 64 (v % 2 ^ w) <<< lo)

/-! ### HW0 (R168) -/
def frHver (f : Frame) : Nat := hwGet f.hw0 0 4
def frClass (f : Frame) : Nat := hwGet f.hw0 4 3
def frVc (f : Frame) : Nat := hwGet f.hw0 7 1
def frDst (f : Frame) : Nat := hwGet f.hw0 8 8
def frDstChip (f : Frame) : Nat := hwGet f.hw0 16 2
def frDup (f : Frame) : Nat := hwGet f.hw0 18 1
def frDir (f : Frame) : Nat := hwGet f.hw0 19 1
def frWrap (f : Frame) : Nat := hwGet f.hw0 20 1
def frMcast (f : Frame) : Nat := hwGet f.hw0 21 1
def frSched (f : Frame) : Nat := hwGet f.hw0 22 1
def frSrc (f : Frame) : Nat := hwGet f.hw0 24 8
def frSrcChip (f : Frame) : Nat := hwGet f.hw0 32 2
def frPlen (f : Frame) : Nat := hwGet f.hw0 36 9
def frSeq (f : Frame) : Nat := hwGet f.hw0 48 16
/-! ### HW1 (R169) -/
def frHops (f : Frame) : Nat := hwGet f.hw1 0 10
def frGroup (f : Frame) : Nat := hwGet f.hw1 16 12
def frKind (f : Frame) : Nat := hwGet f.hw1 28 4
def frSlot (f : Frame) : Nat := hwGet f.hw1 32 9
def frQueue (f : Frame) : Nat := hwGet f.hw1 42 6
def frTag (f : Frame) : Nat := hwGet f.hw1 48 16
/-- HW2, the TSTAMP (R170). -/
def frStamp (f : Frame) : Nat := f.hw2.toNat

/-- Sets a field of HW0. -/
def frSet0 (f : Frame) (lo w v : Nat) : Frame := { f with hw0 := hwSet f.hw0 lo w v }
/-- Sets a field of HW1. -/
def frSet1 (f : Frame) (lo w v : Nat) : Frame := { f with hw1 := hwSet f.hw1 lo w v }

def frPutHver (f : Frame) (v : Nat) : Frame := frSet0 f 0 4 v
def frPutDup (f : Frame) (v : Nat) : Frame := frSet0 f 18 1 v
def frPutDir (f : Frame) (v : Nat) : Frame := frSet0 f 19 1 v
def frPutWrap (f : Frame) (v : Nat) : Frame := frSet0 f 20 1 v
def frPutSeq (f : Frame) (v : Nat) : Frame := frSet0 f 48 16 v
def frPutHops (f : Frame) (v : Nat) : Frame := frSet1 f 0 10 v
def frPutStamp (f : Frame) (v : Nat) : Frame := { f with hw2 := BitVec.ofNat 64 v }

/-- What a producer says of a frame it originates; the hub adds SRC, SEQ, DUP, DIR, HOPS and TSTAMP. `via` names the lane
that the rule of the frame prescribes, 0 E, 1 W, 2 S0, 3 S1. -/
structure FrameSpec where
  cls     : Nat
  vc      : Nat
  kind    : Nat
  dst     : Nat
  dstChip : Nat
  mcast   : Nat
  group   : Nat
  sched   : Nat
  slot    : Nat
  queue   : Nat
  tag     : Nat
  payload : List DWord
  via     : Option Nat := none
deriving DecidableEq, Repr

/-- A plain unicast or broadcast frame without schedule, group or queue. -/
def FrameSpec.plain (cls vc kind dst dstChip tag : Nat) (payload : List DWord) : FrameSpec :=
  ⟨cls, vc, kind, dst, dstChip, 0, 0, 0, 0, 0, tag, payload, none⟩

/-- Builds a frame: every field of R168 to R170 at its place, HVER 2 and HOPS 0. -/
def FrameSpec.build (p : FrameSpec) (src srcChip seq stamp : Nat) : Frame where
  hw0 := BitVec.ofNat 64 (2 + p.cls % 8 * 2 ^ 4 + p.vc % 2 * 2 ^ 7 + p.dst % 256 * 2 ^ 8 + p.dstChip % 4 * 2 ^ 16
    + p.mcast % 2 * 2 ^ 21 + p.sched % 2 * 2 ^ 22 + src % 256 * 2 ^ 24 + srcChip % 4 * 2 ^ 32
    + p.payload.length % 512 * 2 ^ 36 + seq % 65536 * 2 ^ 48)
  hw1 := BitVec.ofNat 64 ((if p.mcast % 2 = 1 then p.group % 4096 else 0) * 2 ^ 16 + p.kind % 16 * 2 ^ 28
    + (if p.sched % 2 = 1 then p.slot % 512 else 0) * 2 ^ 32 + p.queue % 64 * 2 ^ 42 + p.tag % 65536 * 2 ^ 48)
  hw2 := BitVec.ofNat 64 stamp
  payload := p.payload

/-- Bytes of a frame from header to trailer (R167). -/
def frBytes (f : Frame) : Nat := 32 + 8 * f.payload.length

/-- Cells of 128 B a frame occupies (R207). -/
def frCells (f : Frame) : Nat := (frBytes f + 127) / 128

/-- Payload word `i`, 0 where the frame has none. -/
def frWord (f : Frame) (i : Nat) : Nat := (f.payload.getD i 0#64).toNat

/-! ### CRC-32C -/

/-- One bit of the reflected CRC-32C. -/
def crcBit (c : Nat) : Nat := if c % 2 = 1 then (c / 2) ^^^ 0x82F63B78 else c / 2

/-- One byte of the CRC. -/
def crcByte (c : Nat) (b : Nat) : Nat :=
  crcBit (crcBit (crcBit (crcBit (crcBit (crcBit (crcBit (crcBit (c ^^^ (b % 256)))))))))

/-- The low `n` bytes of a little-endian number through the CRC. -/
def crcBytes : Nat → Nat → Nat → Nat
  | 0, c, _ => c
  | n + 1, c, x => crcBytes n (crcByte c x) (x / 256)

/-- CRC-32C of a list of 64-bit little-endian words. -/
def crc32c (ws : List Nat) : Nat := (ws.foldl (crcBytes 8) 0xFFFFFFFF) ^^^ 0xFFFFFFFF

/-- The trailer of a frame: the CRC of header and payload in bits [31:0] (R171). -/
def frTrailer (f : Frame) : Nat :=
  crc32c (f.hw0.toNat :: f.hw1.toNat :: f.hw2.toNat :: f.payload.map (·.toNat))

end Sys2Proof.Machine
end

