-- ==== Sys2Proof/Machine/Regs.lean ====
section
/-! DEFINITION. The names of the registers and of their fields, as the register tables of the chapters give them. A
register name is its chip-local offset; a field name is its place. Indexed registers take their indices as arguments, in
the order of the map table. -/
namespace Sys2Proof.Machine

/-- ID_PART, R512. -/
def ID_PART : Nat := 0x000000
def ID_PART_HWTYPE : Fld := ⟨ID_PART, 0, 16⟩
def ID_PART_STEP : Fld := ⟨ID_PART, 16, 4⟩
/-- ID_STRAP, R512. -/
def ID_STRAP : Nat := 0x000004
def ID_STRAP_TESTMODE : Fld := ⟨ID_STRAP, 0, 1⟩
def ID_STRAP_COMPAT : Fld := ⟨ID_STRAP, 1, 1⟩
def ID_STRAP_STACK_ID : Fld := ⟨ID_STRAP, 2, 2⟩
def ID_STRAP_TWIN_PREF : Fld := ⟨ID_STRAP, 4, 1⟩
def ID_STRAP_HEAD : Fld := ⟨ID_STRAP, 5, 1⟩
def ID_STRAP_GH320 : Fld := ⟨ID_STRAP, 6, 1⟩
/-- ID_LIVE, R512. -/
def ID_LIVE : Nat := 0x000008
def ID_LIVE_LEVEL : Fld := ⟨ID_LIVE, 0, 6⟩
/-- MPC_MODE, R83. -/
def MPC_MODE : Nat := 0x010000
def MPC_MODE_CUR : Fld := ⟨MPC_MODE, 0, 3⟩
def MPC_MODE_PREV : Fld := ⟨MPC_MODE, 3, 3⟩
def MPC_MODE_TRANS : Fld := ⟨MPC_MODE, 8, 1⟩
def MPC_MODE_BOOTING : Fld := ⟨MPC_MODE, 9, 1⟩
def MPC_MODE_FTEST : Fld := ⟨MPC_MODE, 10, 1⟩
def MPC_MODE_AWAKE_M0 : Fld := ⟨MPC_MODE, 12, 1⟩
def MPC_MODE_AWAKE_M1 : Fld := ⟨MPC_MODE, 13, 1⟩
/-- MPC_REQ, R83. -/
def MPC_REQ : Nat := 0x010004
def MPC_REQ_TARGET : Fld := ⟨MPC_REQ, 0, 3⟩
def MPC_REQ_AT_TIME : Fld := ⟨MPC_REQ, 4, 1⟩
def MPC_REQ_VALID : Fld := ⟨MPC_REQ, 7, 1⟩
/-- MPC_REQ_STAT, R83. -/
def MPC_REQ_STAT : Nat := 0x010008
def MPC_REQ_STAT_STATE : Fld := ⟨MPC_REQ_STAT, 0, 2⟩
def MPC_REQ_STAT_LATE : Fld := ⟨MPC_REQ_STAT, 2, 1⟩
def MPC_REQ_STAT_CODE : Fld := ⟨MPC_REQ_STAT, 8, 8⟩
/-- MPC_REQ_SH, R83. -/
def MPC_REQ_SH : Nat := 0x01000C
def MPC_REQ_SH_TARGET : Fld := ⟨MPC_REQ_SH, 0, 3⟩
def MPC_REQ_SH_AT_TIME : Fld := ⟨MPC_REQ_SH, 4, 1⟩
def MPC_REQ_SH_VALID : Fld := ⟨MPC_REQ_SH, 7, 1⟩
/-- MPC_REQ_T, R83. -/
def MPC_REQ_T : Nat := 0x010010
/-- MPC_WAKE_EN, R83. -/
def MPC_WAKE_EN : Nat := 0x010018
def MPC_WAKE_EN_LANE : Fld := ⟨MPC_WAKE_EN, 0, 1⟩
def MPC_WAKE_EN_CLASS7 : Fld := ⟨MPC_WAKE_EN, 1, 1⟩
def MPC_WAKE_EN_TIMER : Fld := ⟨MPC_WAKE_EN, 2, 1⟩
def MPC_WAKE_EN_WAKEN : Fld := ⟨MPC_WAKE_EN, 3, 1⟩
def MPC_WAKE_EN_REQ : Fld := ⟨MPC_WAKE_EN, 4, 1⟩
def MPC_WAKE_EN_SCI : Fld := ⟨MPC_WAKE_EN, 8, 8⟩
def MPC_WAKE_EN_CAN : Fld := ⟨MPC_WAKE_EN, 16, 4⟩
/-- MPC_WAKE_CAUSE, R83. -/
def MPC_WAKE_CAUSE : Nat := 0x01001C
def MPC_WAKE_CAUSE_LANE : Fld := ⟨MPC_WAKE_CAUSE, 0, 1⟩
def MPC_WAKE_CAUSE_CLASS7 : Fld := ⟨MPC_WAKE_CAUSE, 1, 1⟩
def MPC_WAKE_CAUSE_TIMER : Fld := ⟨MPC_WAKE_CAUSE, 2, 1⟩
def MPC_WAKE_CAUSE_WAKEN : Fld := ⟨MPC_WAKE_CAUSE, 3, 1⟩
def MPC_WAKE_CAUSE_REQ : Fld := ⟨MPC_WAKE_CAUSE, 4, 1⟩
def MPC_WAKE_CAUSE_SCI : Fld := ⟨MPC_WAKE_CAUSE, 8, 8⟩
def MPC_WAKE_CAUSE_CAN : Fld := ⟨MPC_WAKE_CAUSE, 16, 4⟩
/-- MPC_WAKE_TIMER, R83. -/
def MPC_WAKE_TIMER : Nat := 0x010020
def MPC_WAKE_TIMER_COUNT : Fld := ⟨MPC_WAKE_TIMER, 0, 32⟩
/-- MPC_ISLAND, R83. -/
def MPC_ISLAND : Nat := 0x010024
def MPC_ISLAND_DELAY : Fld := ⟨MPC_ISLAND, 0, 14⟩
def MPC_ISLAND_FRAG : Fld := ⟨MPC_ISLAND, 16, 1⟩
def MPC_ISLAND_PLAY : Fld := ⟨MPC_ISLAND, 17, 1⟩
/-- MPC_DORM, R83. -/
def MPC_DORM : Nat := 0x010028
def MPC_DORM_PEN_KEEP : Fld := ⟨MPC_DORM, 0, 4⟩
def MPC_DORM_WAKE_PAT : Fld := ⟨MPC_DORM, 4, 1⟩
def MPC_DORM_WAKE_RUN : Fld := ⟨MPC_DORM, 5, 1⟩
/-- MPC_FTEST, R83. -/
def MPC_FTEST : Nat := 0x01002C
def MPC_FTEST_KEY : Fld := ⟨MPC_FTEST, 0, 32⟩
/-- MPC_WAKE_LAT, R83. -/
def MPC_WAKE_LAT : Nat := 0x010030
def MPC_WAKE_LAT_LAT : Fld := ⟨MPC_WAKE_LAT, 0, 20⟩
/-- MPC_WAKE_RELOAD, R83. -/
def MPC_WAKE_RELOAD : Nat := 0x010034
def MPC_WAKE_RELOAD_COUNT : Fld := ⟨MPC_WAKE_RELOAD, 0, 32⟩
/-- RSTC_CAUSE, R108. -/
def RSTC_CAUSE : Nat := 0x020000
def RSTC_CAUSE_CODE : Fld := ⟨RSTC_CAUSE, 0, 8⟩
def RSTC_CAUSE_UNIT : Fld := ⟨RSTC_CAUSE, 8, 8⟩
/-- RSTC_SWRST, R108. -/
def RSTC_SWRST : Nat := 0x020004
def RSTC_SWRST_UNIT : Fld := ⟨RSTC_SWRST, 0, 8⟩
def RSTC_SWRST_KEY : Fld := ⟨RSTC_SWRST, 16, 16⟩
/-- RSTC_INRST, R108. -/
def RSTC_INRST : Nat := 0x020008
def RSTC_INRST_BLK : Fld := ⟨RSTC_INRST, 0, 25⟩
def RSTC_INRST_M0 : Fld := ⟨RSTC_INRST, 28, 1⟩
def RSTC_INRST_M1 : Fld := ⟨RSTC_INRST, 29, 1⟩
/-- RSTC_CLKFAIL, R108. -/
def RSTC_CLKFAIL : Nat := 0x02000C
def RSTC_CLKFAIL_BLK : Fld := ⟨RSTC_CLKFAIL, 0, 25⟩
def RSTC_CLKFAIL_M0 : Fld := ⟨RSTC_CLKFAIL, 28, 1⟩
def RSTC_CLKFAIL_M1 : Fld := ⟨RSTC_CLKFAIL, 29, 1⟩
/-- RSTC_IDLE_TO, R108. -/
def RSTC_IDLE_TO : Nat := 0x020010
def RSTC_IDLE_TO_US : Fld := ⟨RSTC_IDLE_TO, 0, 10⟩
/-- RSTC_AUTH, R108. -/
def RSTC_AUTH : Nat := 0x020020
def RSTC_AUTH_WORD : Fld := ⟨RSTC_AUTH, 0, 32⟩
/-- RSTC_REMOTE_AUTH, R108. -/
def RSTC_REMOTE_AUTH : Nat := 0x020024
def RSTC_REMOTE_AUTH_WORD : Fld := ⟨RSTC_REMOTE_AUTH, 0, 32⟩
/-- RSTC_REMOTE_CMD, R108. -/
def RSTC_REMOTE_CMD : Nat := 0x020028
def RSTC_REMOTE_CMD_UNIT : Fld := ⟨RSTC_REMOTE_CMD, 0, 8⟩
/-- RSTC_REMOTE_STAT, R108. -/
def RSTC_REMOTE_STAT : Nat := 0x02002C
def RSTC_REMOTE_STAT_FAILS : Fld := ⟨RSTC_REMOTE_STAT, 0, 3⟩
def RSTC_REMOTE_STAT_LOCKED : Fld := ⟨RSTC_REMOTE_STAT, 3, 1⟩
/-- RSTC_WDOG_CTL, R108. -/
def RSTC_WDOG_CTL (i : Nat) : Nat := 0x020040 + i * 0x10
def RSTC_WDOG_CTL_EN (i : Nat) : Fld := ⟨RSTC_WDOG_CTL i, 0, 1⟩
def RSTC_WDOG_CTL_SCOPE (i : Nat) : Fld := ⟨RSTC_WDOG_CTL i, 1, 1⟩
def RSTC_WDOG_CTL_TIMEOUT (i : Nat) : Fld := ⟨RSTC_WDOG_CTL i, 16, 16⟩
/-- RSTC_WDOG_KICK, R108. -/
def RSTC_WDOG_KICK (i : Nat) : Nat := 0x020044 + i * 0x10
def RSTC_WDOG_KICK_KEY (i : Nat) : Fld := ⟨RSTC_WDOG_KICK i, 0, 32⟩
/-- RSTC_WDOG_CNT, R108. -/
def RSTC_WDOG_CNT (i : Nat) : Nat := 0x020048 + i * 0x10
def RSTC_WDOG_CNT_LEFT (i : Nat) : Fld := ⟨RSTC_WDOG_CNT i, 0, 16⟩
def RSTC_WDOG_CNT_WARNED (i : Nat) : Fld := ⟨RSTC_WDOG_CNT i, 16, 1⟩
/-- RSTC_LOG_HEAD, R108. -/
def RSTC_LOG_HEAD : Nat := 0x020060
def RSTC_LOG_HEAD_NEXT : Fld := ⟨RSTC_LOG_HEAD, 0, 4⟩
def RSTC_LOG_HEAD_CLR : Fld := ⟨RSTC_LOG_HEAD, 8, 1⟩
/-- RSTC_LOG_W0, R108. -/
def RSTC_LOG_W0 (i : Nat) : Nat := 0x020080 + i * 8
def RSTC_LOG_W0_CODE (i : Nat) : Fld := ⟨RSTC_LOG_W0 i, 0, 8⟩
def RSTC_LOG_W0_UNIT (i : Nat) : Fld := ⟨RSTC_LOG_W0 i, 8, 8⟩
def RSTC_LOG_W0_SCOPE (i : Nat) : Fld := ⟨RSTC_LOG_W0 i, 16, 2⟩
def RSTC_LOG_W0_MULTI (i : Nat) : Fld := ⟨RSTC_LOG_W0 i, 18, 1⟩
def RSTC_LOG_W0_COUNT (i : Nat) : Fld := ⟨RSTC_LOG_W0 i, 24, 8⟩
/-- RSTC_LOG_W1, R108. -/
def RSTC_LOG_W1 (i : Nat) : Nat := 0x020084 + i * 8
def RSTC_LOG_W1_TIME (i : Nat) : Fld := ⟨RSTC_LOG_W1 i, 0, 32⟩
/-- BIV_BKP, R109. -/
def BIV_BKP (i : Nat) : Nat := 0x180000 + i * 4
def BIV_BKP_DATA (i : Nat) : Fld := ⟨BIV_BKP i, 0, 32⟩
/-- BIV_STAT, R109. -/
def BIV_STAT : Nat := 0x180080
def BIV_STAT_INIT_DONE : Fld := ⟨BIV_STAT, 0, 1⟩
def BIV_STAT_CE : Fld := ⟨BIV_STAT, 1, 1⟩
def BIV_STAT_UE : Fld := ⟨BIV_STAT, 2, 1⟩
/-- BIV_CTL, R109. -/
def BIV_CTL : Nat := 0x180084
def BIV_CTL_EXT_WR : Fld := ⟨BIV_CTL, 0, 1⟩
/-- BIV_PAGE, R109. -/
def BIV_PAGE : Nat := 0x180088
def BIV_PAGE_HALF : Fld := ⟨BIV_PAGE, 0, 1⟩
/-- BIV_HOLD_A, R109. -/
def BIV_HOLD_A : Nat := 0x180090
def BIV_HOLD_A_PIN : Fld := ⟨BIV_HOLD_A, 0, 32⟩
/-- BIV_HOLD_B, R109. -/
def BIV_HOLD_B : Nat := 0x180094
def BIV_HOLD_B_PIN : Fld := ⟨BIV_HOLD_B, 0, 32⟩
/-- BIV_HOLD_LVL_A, R109. -/
def BIV_HOLD_LVL_A : Nat := 0x180098
def BIV_HOLD_LVL_A_LVL : Fld := ⟨BIV_HOLD_LVL_A, 0, 32⟩
/-- BIV_HOLD_LVL_B, R109. -/
def BIV_HOLD_LVL_B : Nat := 0x18009C
def BIV_HOLD_LVL_B_LVL : Fld := ⟨BIV_HOLD_LVL_B, 0, 32⟩
/-- BIV_HOLD_A_SH, R109. -/
def BIV_HOLD_A_SH : Nat := 0x1800A0
def BIV_HOLD_A_SH_PIN : Fld := ⟨BIV_HOLD_A_SH, 0, 32⟩
/-- BIV_HOLD_B_SH, R109. -/
def BIV_HOLD_B_SH : Nat := 0x1800A4
def BIV_HOLD_B_SH_PIN : Fld := ⟨BIV_HOLD_B_SH, 0, 32⟩
/-- CFG_STAT, R137. -/
def CFG_STAT : Nat := 0x040000
def CFG_STAT_STATE : Fld := ⟨CFG_STAT, 0, 3⟩
def CFG_STAT_RING : Fld := ⟨CFG_STAT, 3, 1⟩
def CFG_STAT_LATE : Fld := ⟨CFG_STAT, 4, 1⟩
def CFG_STAT_DEFERRED : Fld := ⟨CFG_STAT, 5, 1⟩
def CFG_STAT_MISSED : Fld := ⟨CFG_STAT, 6, 1⟩
def CFG_STAT_APPLIED : Fld := ⟨CFG_STAT, 7, 1⟩
def CFG_STAT_REFUSED : Fld := ⟨CFG_STAT, 8, 1⟩
/-- CFG_CMD, R137. -/
def CFG_CMD : Nat := 0x040004
def CFG_CMD_OPEN : Fld := ⟨CFG_CMD, 0, 1⟩
def CFG_CMD_CHECK : Fld := ⟨CFG_CMD, 1, 1⟩
def CFG_CMD_APPLY_NOW : Fld := ⟨CFG_CMD, 2, 1⟩
def CFG_CMD_APPLY_AT : Fld := ⟨CFG_CMD, 3, 1⟩
def CFG_CMD_ABORT : Fld := ⟨CFG_CMD, 4, 1⟩
def CFG_CMD_DISCARD : Fld := ⟨CFG_CMD, 5, 1⟩
/-- CFG_CTL, R137. -/
def CFG_CTL : Nat := 0x040008
def CFG_CTL_LEGACY : Fld := ⟨CFG_CTL, 0, 1⟩
/-- CFG_CHECK_RES, R137. -/
def CFG_CHECK_RES : Nat := 0x04000C
def CFG_CHECK_RES_CODE : Fld := ⟨CFG_CHECK_RES, 0, 8⟩
def CFG_CHECK_RES_BLK : Fld := ⟨CFG_CHECK_RES, 8, 8⟩
def CFG_CHECK_RES_INDEX : Fld := ⟨CFG_CHECK_RES, 16, 12⟩
def CFG_CHECK_RES_NFAIL : Fld := ⟨CFG_CHECK_RES, 28, 4⟩
/-- CFG_APPLY_T, R137. -/
def CFG_APPLY_T : Nat := 0x040010
/-- CFG_GUARD, R137. -/
def CFG_GUARD : Nat := 0x040018
/-- CFG_LAST_T, R137. -/
def CFG_LAST_T : Nat := 0x040020
/-- CFG_COMMIT, R137. -/
def CFG_COMMIT : Nat := 0x040028
def CFG_COMMIT_CID : Fld := ⟨CFG_COMMIT, 0, 16⟩
def CFG_COMMIT_APPLIED : Fld := ⟨CFG_COMMIT, 16, 1⟩
/-- CFG_ARM_TO, R137. -/
def CFG_ARM_TO : Nat := 0x04002C
def CFG_ARM_TO_MS : Fld := ⟨CFG_ARM_TO, 0, 16⟩
/-- CFG_LOAD, R137. -/
def CFG_LOAD : Nat := 0x040030
def CFG_LOAD_CODE : Fld := ⟨CFG_LOAD, 0, 8⟩
def CFG_LOAD_SLOT : Fld := ⟨CFG_LOAD, 8, 1⟩
def CFG_LOAD_MIGRATED : Fld := ⟨CFG_LOAD, 9, 1⟩
def CFG_LOAD_OTHER : Fld := ⟨CFG_LOAD, 10, 1⟩
def CFG_LOAD_FORMAT : Fld := ⟨CFG_LOAD, 16, 16⟩
/-- CFG_MISSED, R137. -/
def CFG_MISSED : Nat := 0x040034
def CFG_MISSED_COUNT : Fld := ⟨CFG_MISSED, 0, 16⟩
def CFG_MISSED_LATE_GO : Fld := ⟨CFG_MISSED, 16, 16⟩
/-- CFG_SERIAL, R137. -/
def CFG_SERIAL : Nat := 0x040038
/-- FLT_STAT, R451. -/
def FLT_STAT : Nat := 0x050000
def FLT_STAT_QFILL : Fld := ⟨FLT_STAT, 0, 6⟩
def FLT_STAT_REC_OVF : Fld := ⟨FLT_STAT, 8, 1⟩
def FLT_STAT_MSG_LOST : Fld := ⟨FLT_STAT, 9, 1⟩
def FLT_STAT_FN_ORPHAN : Fld := ⟨FLT_STAT, 10, 1⟩
def FLT_STAT_SAFE : Fld := ⟨FLT_STAT, 11, 1⟩
def FLT_STAT_SAT : Fld := ⟨FLT_STAT, 12, 1⟩
def FLT_STAT_NOPEN : Fld := ⟨FLT_STAT, 16, 5⟩
/-- FLT_OPEN, R451. -/
def FLT_OPEN : Nat := 0x050004
def FLT_OPEN_REC : Fld := ⟨FLT_OPEN, 0, 16⟩
/-- FLT_FN, R451. -/
def FLT_FN : Nat := 0x050008
def FLT_FN_REC : Fld := ⟨FLT_FN, 0, 16⟩
/-- FLT_CMD, R451. -/
def FLT_CMD : Nat := 0x05000C
def FLT_CMD_SAFE_CLR : Fld := ⟨FLT_CMD, 0, 1⟩
/-- FLT_SNAP, R451. -/
def FLT_SNAP : Nat := 0x050010
def FLT_SNAP_SNAP : Fld := ⟨FLT_SNAP, 0, 1⟩
def FLT_SNAP_CLEAR : Fld := ⟨FLT_SNAP, 1, 1⟩
/-- FLT_INJ_W0, R451. -/
def FLT_INJ_W0 : Nat := 0x050020
def FLT_INJ_W0_SRC : Fld := ⟨FLT_INJ_W0, 0, 8⟩
def FLT_INJ_W0_KIND : Fld := ⟨FLT_INJ_W0, 8, 8⟩
def FLT_INJ_W0_SEV : Fld := ⟨FLT_INJ_W0, 16, 2⟩
def FLT_INJ_W0_GO : Fld := ⟨FLT_INJ_W0, 31, 1⟩
/-- FLT_INJ_ADDR_LO, R451. -/
def FLT_INJ_ADDR_LO : Nat := 0x050024
def FLT_INJ_ADDR_LO_ADDR : Fld := ⟨FLT_INJ_ADDR_LO, 0, 32⟩
/-- FLT_INJ_ADDR_HI, R451. -/
def FLT_INJ_ADDR_HI : Nat := 0x050028
def FLT_INJ_ADDR_HI_ADDR : Fld := ⟨FLT_INJ_ADDR_HI, 0, 16⟩
/-- FLT_REC_W0, R451. -/
def FLT_REC_W0 (i : Nat) : Nat := 0x050100 + i * 0x20
def FLT_REC_W0_SRC (i : Nat) : Fld := ⟨FLT_REC_W0 i, 0, 8⟩
def FLT_REC_W0_KIND (i : Nat) : Fld := ⟨FLT_REC_W0 i, 8, 8⟩
def FLT_REC_W0_LKIND (i : Nat) : Fld := ⟨FLT_REC_W0 i, 16, 8⟩
def FLT_REC_W0_SEV (i : Nat) : Fld := ⟨FLT_REC_W0 i, 24, 2⟩
def FLT_REC_W0_FN (i : Nat) : Fld := ⟨FLT_REC_W0 i, 26, 1⟩
def FLT_REC_W0_INJ (i : Nat) : Fld := ⟨FLT_REC_W0 i, 27, 1⟩
/-- FLT_REC_ADDR_LO, R451. -/
def FLT_REC_ADDR_LO (i : Nat) : Nat := 0x050104 + i * 0x20
def FLT_REC_ADDR_LO_ADDR (i : Nat) : Fld := ⟨FLT_REC_ADDR_LO i, 0, 32⟩
/-- FLT_REC_ADDR_HI, R451. -/
def FLT_REC_ADDR_HI (i : Nat) : Nat := 0x050108 + i * 0x20
def FLT_REC_ADDR_HI_ADDR (i : Nat) : Fld := ⟨FLT_REC_ADDR_HI i, 0, 16⟩
def FLT_REC_ADDR_HI_RULE (i : Nat) : Fld := ⟨FLT_REC_ADDR_HI i, 16, 6⟩
def FLT_REC_ADDR_HI_MATCH (i : Nat) : Fld := ⟨FLT_REC_ADDR_HI i, 22, 1⟩
/-- FLT_REC_MCOUNT, R451. -/
def FLT_REC_MCOUNT (i : Nat) : Nat := 0x05010C + i * 0x20
def FLT_REC_MCOUNT_MCOUNT (i : Nat) : Fld := ⟨FLT_REC_MCOUNT i, 0, 16⟩
/-- FLT_REC_T0, R451. -/
def FLT_REC_T0 (i : Nat) : Nat := 0x050110 + i * 0x20
/-- FLT_REC_T1, R451. -/
def FLT_REC_T1 (i : Nat) : Nat := 0x050118 + i * 0x20
/-- FLT_RULE_M, R451. -/
def FLT_RULE_M (i : Nat) : Nat := 0x050400 + i * 8
def FLT_RULE_M_SRC (i : Nat) : Fld := ⟨FLT_RULE_M i, 0, 8⟩
def FLT_RULE_M_KIND (i : Nat) : Fld := ⟨FLT_RULE_M i, 8, 8⟩
def FLT_RULE_M_SEV_MIN (i : Nat) : Fld := ⟨FLT_RULE_M i, 16, 2⟩
def FLT_RULE_M_VALID (i : Nat) : Fld := ⟨FLT_RULE_M i, 31, 1⟩
/-- FLT_RULE_A, R451. -/
def FLT_RULE_A (i : Nat) : Nat := 0x050404 + i * 8
def FLT_RULE_A_LOG (i : Nat) : Fld := ⟨FLT_RULE_A i, 0, 1⟩
def FLT_RULE_A_IRQ (i : Nat) : Fld := ⟨FLT_RULE_A i, 1, 1⟩
def FLT_RULE_A_LINE (i : Nat) : Fld := ⟨FLT_RULE_A i, 2, 3⟩
def FLT_RULE_A_FAULTN (i : Nat) : Fld := ⟨FLT_RULE_A i, 5, 1⟩
def FLT_RULE_A_RESET (i : Nat) : Fld := ⟨FLT_RULE_A i, 6, 1⟩
def FLT_RULE_A_UNIT (i : Nat) : Fld := ⟨FLT_RULE_A i, 8, 8⟩
def FLT_RULE_A_ISLAND (i : Nat) : Fld := ⟨FLT_RULE_A i, 16, 1⟩
def FLT_RULE_A_SAFE (i : Nat) : Fld := ⟨FLT_RULE_A i, 17, 1⟩
def FLT_RULE_A_YIELD (i : Nat) : Fld := ⟨FLT_RULE_A i, 18, 1⟩
/-- FLT_RULE_M_SH, R451. -/
def FLT_RULE_M_SH (i : Nat) : Nat := 0x050800 + i * 8
def FLT_RULE_M_SH_SRC (i : Nat) : Fld := ⟨FLT_RULE_M_SH i, 0, 8⟩
def FLT_RULE_M_SH_KIND (i : Nat) : Fld := ⟨FLT_RULE_M_SH i, 8, 8⟩
def FLT_RULE_M_SH_SEV_MIN (i : Nat) : Fld := ⟨FLT_RULE_M_SH i, 16, 2⟩
def FLT_RULE_M_SH_VALID (i : Nat) : Fld := ⟨FLT_RULE_M_SH i, 31, 1⟩
/-- FLT_RULE_A_SH, R451. -/
def FLT_RULE_A_SH (i : Nat) : Nat := 0x050804 + i * 8
def FLT_RULE_A_SH_LOG (i : Nat) : Fld := ⟨FLT_RULE_A_SH i, 0, 1⟩
def FLT_RULE_A_SH_IRQ (i : Nat) : Fld := ⟨FLT_RULE_A_SH i, 1, 1⟩
def FLT_RULE_A_SH_LINE (i : Nat) : Fld := ⟨FLT_RULE_A_SH i, 2, 3⟩
def FLT_RULE_A_SH_FAULTN (i : Nat) : Fld := ⟨FLT_RULE_A_SH i, 5, 1⟩
def FLT_RULE_A_SH_RESET (i : Nat) : Fld := ⟨FLT_RULE_A_SH i, 6, 1⟩
def FLT_RULE_A_SH_UNIT (i : Nat) : Fld := ⟨FLT_RULE_A_SH i, 8, 8⟩
def FLT_RULE_A_SH_ISLAND (i : Nat) : Fld := ⟨FLT_RULE_A_SH i, 16, 1⟩
def FLT_RULE_A_SH_SAFE (i : Nat) : Fld := ⟨FLT_RULE_A_SH i, 17, 1⟩
def FLT_RULE_A_SH_YIELD (i : Nat) : Fld := ⟨FLT_RULE_A_SH i, 18, 1⟩
/-- FLT_CNT, R451. -/
def FLT_CNT (i : Nat) : Nat := 0x050C00 + i * 8
/-- INTC_ROUTE, R437. -/
def INTC_ROUTE (i : Nat) : Nat := 0x060000 + i * 4
def INTC_ROUTE_TGT (i : Nat) : Fld := ⟨INTC_ROUTE i, 0, 3⟩
def INTC_ROUTE_GRP (i : Nat) : Fld := ⟨INTC_ROUTE i, 4, 4⟩
def INTC_ROUTE_CO (i : Nat) : Fld := ⟨INTC_ROUTE i, 8, 1⟩
def INTC_ROUTE_KIND (i : Nat) : Fld := ⟨INTC_ROUTE i, 16, 1⟩
def INTC_ROUTE_IMPL (i : Nat) : Fld := ⟨INTC_ROUTE i, 17, 1⟩
/-- INTC_PEND, R437. -/
def INTC_PEND (i : Nat) (j : Nat) : Nat := 0x060400 + i * 0x100 + j * 4
def INTC_PEND_P (i : Nat) (j : Nat) : Fld := ⟨INTC_PEND i j, 0, 32⟩
/-- INTC_EN, R437. -/
def INTC_EN (i : Nat) (j : Nat) : Nat := 0x060420 + i * 0x100 + j * 4
def INTC_EN_EN (i : Nat) (j : Nat) : Fld := ⟨INTC_EN i j, 0, 32⟩
/-- INTC_CLAIM, R437. -/
def INTC_CLAIM (i : Nat) (j : Nat) : Nat := 0x060440 + i * 0x100 + j * 4
def INTC_CLAIM_A (i : Nat) (j : Nat) : Fld := ⟨INTC_CLAIM i j, 0, 32⟩
/-- INTC_DONE, R437. -/
def INTC_DONE (i : Nat) (j : Nat) : Nat := 0x060460 + i * 0x100 + j * 4
def INTC_DONE_DONE (i : Nat) (j : Nat) : Fld := ⟨INTC_DONE i j, 0, 32⟩
/-- INTC_SUM, R437. -/
def INTC_SUM (i : Nat) : Nat := 0x060480 + i * 0x100
def INTC_SUM_WORDS (i : Nat) : Fld := ⟨INTC_SUM i, 0, 8⟩
def INTC_SUM_REQ (i : Nat) : Fld := ⟨INTC_SUM i, 8, 1⟩
/-- INTC_GRP_CTL, R437. -/
def INTC_GRP_CTL (i : Nat) : Nat := 0x060700 + i * 8
def INTC_GRP_CTL_TGT (i : Nat) : Fld := ⟨INTC_GRP_CTL i, 0, 2⟩
def INTC_GRP_CTL_COUNT (i : Nat) : Fld := ⟨INTC_GRP_CTL i, 8, 8⟩
def INTC_GRP_CTL_TIME (i : Nat) : Fld := ⟨INTC_GRP_CTL i, 16, 14⟩
/-- INTC_GRP_STAT, R437. -/
def INTC_GRP_STAT (i : Nat) : Nat := 0x060704 + i * 8
def INTC_GRP_STAT_STATE (i : Nat) : Fld := ⟨INTC_GRP_STAT i, 0, 2⟩
def INTC_GRP_STAT_HELD (i : Nat) : Fld := ⟨INTC_GRP_STAT i, 8, 8⟩
def INTC_GRP_STAT_ELAPSED (i : Nat) : Fld := ⟨INTC_GRP_STAT i, 16, 14⟩
/-- INTC_SWI, R437. -/
def INTC_SWI : Nat := 0x060800
def INTC_SWI_SET : Fld := ⟨INTC_SWI, 0, 8⟩
/-- INTC_RAW, R437. -/
def INTC_RAW (i : Nat) : Nat := 0x060820 + i * 4
def INTC_RAW_RAW (i : Nat) : Fld := ⟨INTC_RAW i, 0, 32⟩
/-- MSA_STAT, R57. -/
def MSA_STAT : Nat := 0x070000
def MSA_STAT_INIT_DONE : Fld := ⟨MSA_STAT, 0, 1⟩
def MSA_STAT_ZEROING : Fld := ⟨MSA_STAT, 1, 1⟩
/-- MSA_PART, R57. -/
def MSA_PART : Nat := 0x070004
def MSA_PART_FB : Fld := ⟨MSA_PART, 0, 4⟩
def MSA_PART_CORE : Fld := ⟨MSA_PART, 4, 4⟩
def MSA_PART_SQ : Fld := ⟨MSA_PART, 8, 4⟩
def MSA_PART_TBL : Fld := ⟨MSA_PART, 12, 4⟩
def MSA_PART_MOBJ : Fld := ⟨MSA_PART, 16, 4⟩
/-- MSA_PART_SH, R57. -/
def MSA_PART_SH : Nat := 0x070008
def MSA_PART_SH_FB : Fld := ⟨MSA_PART_SH, 0, 4⟩
def MSA_PART_SH_CORE : Fld := ⟨MSA_PART_SH, 4, 4⟩
def MSA_PART_SH_SQ : Fld := ⟨MSA_PART_SH, 8, 4⟩
def MSA_PART_SH_TBL : Fld := ⟨MSA_PART_SH, 12, 4⟩
def MSA_PART_SH_MOBJ : Fld := ⟨MSA_PART_SH, 16, 4⟩
/-- MSA_ARBCTL, R57. -/
def MSA_ARBCTL : Nat := 0x070010
def MSA_ARBCTL_HOLD_LIMIT : Fld := ⟨MSA_ARBCTL, 0, 8⟩
def MSA_ARBCTL_LOCKOUT : Fld := ⟨MSA_ARBCTL, 8, 1⟩
def MSA_ARBCTL_AGE_LIMIT : Fld := ⟨MSA_ARBCTL, 16, 9⟩
/-- MSA_PRIO, R57. -/
def MSA_PRIO : Nat := 0x070014
def MSA_PRIO_HIGH : Fld := ⟨MSA_PRIO, 0, 8⟩
/-- MSA_HOLD_FLAG, R57. -/
def MSA_HOLD_FLAG : Nat := 0x070018
def MSA_HOLD_FLAG_CUT : Fld := ⟨MSA_HOLD_FLAG, 0, 8⟩
/-- MSA_HOLD_LOG, R57. -/
def MSA_HOLD_LOG : Nat := 0x07001C
def MSA_HOLD_LOG_BANK : Fld := ⟨MSA_HOLD_LOG, 0, 4⟩
def MSA_HOLD_LOG_REQ : Fld := ⟨MSA_HOLD_LOG, 8, 4⟩
def MSA_HOLD_LOG_COUNT : Fld := ⟨MSA_HOLD_LOG, 16, 16⟩
/-- MSA_SCRUB, R57. -/
def MSA_SCRUB : Nat := 0x070020
def MSA_SCRUB_EN : Fld := ⟨MSA_SCRUB, 0, 1⟩
def MSA_SCRUB_INTERVAL : Fld := ⟨MSA_SCRUB, 8, 24⟩
/-- MSA_SCRUB_PASS, R57. -/
def MSA_SCRUB_PASS : Nat := 0x070024
def MSA_SCRUB_PASS_PASSES : Fld := ⟨MSA_SCRUB_PASS, 0, 32⟩
/-- MSA_ECC_STAT, R57. -/
def MSA_ECC_STAT : Nat := 0x070028
def MSA_ECC_STAT_CE : Fld := ⟨MSA_ECC_STAT, 0, 1⟩
def MSA_ECC_STAT_UE : Fld := ⟨MSA_ECC_STAT, 1, 1⟩
def MSA_ECC_STAT_SCRUB_LATE : Fld := ⟨MSA_ECC_STAT, 2, 1⟩
def MSA_ECC_STAT_SAT : Fld := ⟨MSA_ECC_STAT, 3, 1⟩
def MSA_ECC_STAT_LOG_VALID : Fld := ⟨MSA_ECC_STAT, 4, 1⟩
/-- MSA_SNAP, R57. -/
def MSA_SNAP : Nat := 0x07002C
def MSA_SNAP_SNAP : Fld := ⟨MSA_SNAP, 0, 1⟩
def MSA_SNAP_CLEAR : Fld := ⟨MSA_SNAP, 1, 1⟩
/-- MSA_ECC_CE, R57. -/
def MSA_ECC_CE : Nat := 0x070030
/-- MSA_ECC_UE, R57. -/
def MSA_ECC_UE : Nat := 0x070038
/-- MSA_WPROT, R57. -/
def MSA_WPROT (i : Nat) : Nat := 0x070040 + i * 4
def MSA_WPROT_WR (i : Nat) : Fld := ⟨MSA_WPROT i, 0, 8⟩
/-- MSA_ECC_LOG0, R57. -/
def MSA_ECC_LOG0 : Nat := 0x070060
def MSA_ECC_LOG0_WORD : Fld := ⟨MSA_ECC_LOG0, 0, 20⟩
/-- MSA_ECC_LOG1, R57. -/
def MSA_ECC_LOG1 : Nat := 0x070064
def MSA_ECC_LOG1_SYNDROME : Fld := ⟨MSA_ECC_LOG1, 0, 8⟩
def MSA_ECC_LOG1_UNCORR : Fld := ⟨MSA_ECC_LOG1, 8, 1⟩
def MSA_ECC_LOG1_REQ : Fld := ⟨MSA_ECC_LOG1, 12, 4⟩
/-- MSA_FWIN, R57. -/
def MSA_FWIN (i : Nat) : Nat := 0x070070 + i * 4
def MSA_FWIN_NODE (i : Nat) : Fld := ⟨MSA_FWIN i, 0, 8⟩
def MSA_FWIN_CHIP (i : Nat) : Fld := ⟨MSA_FWIN i, 8, 2⟩
def MSA_FWIN_OFFS_HI (i : Nat) : Fld := ⟨MSA_FWIN i, 16, 7⟩
/-- MSA_WPROT_SH, R57. -/
def MSA_WPROT_SH (i : Nat) : Nat := 0x070080 + i * 4
def MSA_WPROT_SH_WR (i : Nat) : Fld := ⟨MSA_WPROT_SH i, 0, 8⟩
/-- MSA_BEATS, R57. -/
def MSA_BEATS (i : Nat) : Nat := 0x070100 + i * 8
/-- MSA_DMA_SRC_LO, R57. -/
def MSA_DMA_SRC_LO (i : Nat) : Nat := 0x070400 + i * 0x20
def MSA_DMA_SRC_LO_ADDR (i : Nat) : Fld := ⟨MSA_DMA_SRC_LO i, 0, 32⟩
/-- MSA_DMA_SRC_HI, R57. -/
def MSA_DMA_SRC_HI (i : Nat) : Nat := 0x070404 + i * 0x20
def MSA_DMA_SRC_HI_ADDR (i : Nat) : Fld := ⟨MSA_DMA_SRC_HI i, 0, 16⟩
/-- MSA_DMA_DST_LO, R57. -/
def MSA_DMA_DST_LO (i : Nat) : Nat := 0x070408 + i * 0x20
def MSA_DMA_DST_LO_ADDR (i : Nat) : Fld := ⟨MSA_DMA_DST_LO i, 0, 32⟩
/-- MSA_DMA_DST_HI, R57. -/
def MSA_DMA_DST_HI (i : Nat) : Nat := 0x07040C + i * 0x20
def MSA_DMA_DST_HI_ADDR (i : Nat) : Fld := ⟨MSA_DMA_DST_HI i, 0, 16⟩
/-- MSA_DMA_LEN, R57. -/
def MSA_DMA_LEN (i : Nat) : Nat := 0x070410 + i * 0x20
def MSA_DMA_LEN_BYTES (i : Nat) : Fld := ⟨MSA_DMA_LEN i, 0, 24⟩
/-- MSA_DMA_CTRL, R57. -/
def MSA_DMA_CTRL (i : Nat) : Nat := 0x070414 + i * 0x20
def MSA_DMA_CTRL_START (i : Nat) : Fld := ⟨MSA_DMA_CTRL i, 0, 1⟩
def MSA_DMA_CTRL_ABORT (i : Nat) : Fld := ⟨MSA_DMA_CTRL i, 1, 1⟩
def MSA_DMA_CTRL_IRQ_EN (i : Nat) : Fld := ⟨MSA_DMA_CTRL i, 2, 1⟩
/-- MSA_DMA_STAT, R57. -/
def MSA_DMA_STAT (i : Nat) : Nat := 0x070418 + i * 0x20
def MSA_DMA_STAT_BUSY (i : Nat) : Fld := ⟨MSA_DMA_STAT i, 0, 1⟩
def MSA_DMA_STAT_DONE (i : Nat) : Fld := ⟨MSA_DMA_STAT i, 1, 1⟩
def MSA_DMA_STAT_ERR (i : Nat) : Fld := ⟨MSA_DMA_STAT i, 2, 1⟩
def MSA_DMA_STAT_ERR_KIND (i : Nat) : Fld := ⟨MSA_DMA_STAT i, 8, 8⟩
/-- LANE_STAT, R166. -/
def LANE_STAT (i : Nat) : Nat := 0x080000 + i * 0x10000
def LANE_STAT_RATE (i : Nat) : Fld := ⟨LANE_STAT i, 0, 3⟩
def LANE_STAT_UP (i : Nat) : Fld := ⟨LANE_STAT i, 3, 1⟩
def LANE_STAT_VER (i : Nat) : Fld := ⟨LANE_STAT i, 4, 2⟩
def LANE_STAT_HOSTMODE (i : Nat) : Fld := ⟨LANE_STAT i, 6, 1⟩
def LANE_STAT_PLANNED (i : Nat) : Fld := ⟨LANE_STAT i, 7, 1⟩
def LANE_STAT_SIGDET (i : Nat) : Fld := ⟨LANE_STAT i, 8, 1⟩
def LANE_STAT_CDR_LOCK (i : Nat) : Fld := ⟨LANE_STAT i, 9, 1⟩
def LANE_STAT_BLK_LOCK (i : Nat) : Fld := ⟨LANE_STAT i, 10, 1⟩
def LANE_STAT_RF_RX (i : Nat) : Fld := ⟨LANE_STAT i, 11, 1⟩
def LANE_STAT_DOWN_CAUSE (i : Nat) : Fld := ⟨LANE_STAT i, 16, 8⟩
/-- LANE_CTL, R166. -/
def LANE_CTL (i : Nat) : Nat := 0x080004 + i * 0x10000
def LANE_CTL_ENABLE (i : Nat) : Fld := ⟨LANE_CTL i, 0, 1⟩
def LANE_CTL_HOST (i : Nat) : Fld := ⟨LANE_CTL i, 1, 1⟩
def LANE_CTL_RATE_MAX (i : Nat) : Fld := ⟨LANE_CTL i, 2, 3⟩
def LANE_CTL_V1_PROBE (i : Nat) : Fld := ⟨LANE_CTL i, 5, 1⟩
def LANE_CTL_STEP_HOLD (i : Nat) : Fld := ⟨LANE_CTL i, 8, 8⟩
/-- LANE_CTL_SH, R166. -/
def LANE_CTL_SH (i : Nat) : Nat := 0x080008 + i * 0x10000
def LANE_CTL_SH_ENABLE (i : Nat) : Fld := ⟨LANE_CTL_SH i, 0, 1⟩
def LANE_CTL_SH_HOST (i : Nat) : Fld := ⟨LANE_CTL_SH i, 1, 1⟩
def LANE_CTL_SH_RATE_MAX (i : Nat) : Fld := ⟨LANE_CTL_SH i, 2, 3⟩
def LANE_CTL_SH_V1_PROBE (i : Nat) : Fld := ⟨LANE_CTL_SH i, 5, 1⟩
def LANE_CTL_SH_STEP_HOLD (i : Nat) : Fld := ⟨LANE_CTL_SH i, 8, 8⟩
/-- LANE_TXEQ, R166. -/
def LANE_TXEQ (i : Nat) : Nat := 0x08000C + i * 0x10000
def LANE_TXEQ_AMP (i : Nat) : Fld := ⟨LANE_TXEQ i, 0, 4⟩
def LANE_TXEQ_PRE (i : Nat) : Fld := ⟨LANE_TXEQ i, 4, 3⟩
def LANE_TXEQ_POST (i : Nat) : Fld := ⟨LANE_TXEQ i, 8, 4⟩
/-- LANE_TXEQ_SH, R166. -/
def LANE_TXEQ_SH (i : Nat) : Nat := 0x080010 + i * 0x10000
def LANE_TXEQ_SH_AMP (i : Nat) : Fld := ⟨LANE_TXEQ_SH i, 0, 4⟩
def LANE_TXEQ_SH_PRE (i : Nat) : Fld := ⟨LANE_TXEQ_SH i, 4, 3⟩
def LANE_TXEQ_SH_POST (i : Nat) : Fld := ⟨LANE_TXEQ_SH i, 8, 4⟩
/-- LANE_RXEQ, R166. -/
def LANE_RXEQ (i : Nat) : Nat := 0x080014 + i * 0x10000
def LANE_RXEQ_CTLE (i : Nat) : Fld := ⟨LANE_RXEQ i, 0, 4⟩
def LANE_RXEQ_FRZ_CTLE (i : Nat) : Fld := ⟨LANE_RXEQ i, 8, 1⟩
def LANE_RXEQ_FRZ_DFE (i : Nat) : Fld := ⟨LANE_RXEQ i, 9, 1⟩
/-- LANE_DFE, R166. -/
def LANE_DFE (i : Nat) : Nat := 0x080018 + i * 0x10000
def LANE_DFE_T1_T5 (i : Nat) : Fld := ⟨LANE_DFE i, 0, 30⟩
/-- LANE_ALIGN, R166. -/
def LANE_ALIGN (i : Nat) : Nat := 0x08001C + i * 0x10000
def LANE_ALIGN_SLIP (i : Nat) : Fld := ⟨LANE_ALIGN i, 0, 1⟩
def LANE_ALIGN_DONE (i : Nat) : Fld := ⟨LANE_ALIGN i, 1, 1⟩
def LANE_ALIGN_POS (i : Nat) : Fld := ⟨LANE_ALIGN i, 8, 7⟩
def LANE_ALIGN_WIN_VALID (i : Nat) : Fld := ⟨LANE_ALIGN i, 15, 1⟩
def LANE_ALIGN_HDR_CNT (i : Nat) : Fld := ⟨LANE_ALIGN i, 16, 6⟩
def LANE_ALIGN_LOCK (i : Nat) : Fld := ⟨LANE_ALIGN i, 24, 1⟩
def LANE_ALIGN_REQ (i : Nat) : Fld := ⟨LANE_ALIGN i, 25, 1⟩
/-- LANE_TRAIN, R166. -/
def LANE_TRAIN (i : Nat) : Nat := 0x080020 + i * 0x10000
def LANE_TRAIN_STATE (i : Nat) : Fld := ⟨LANE_TRAIN i, 0, 4⟩
def LANE_TRAIN_TARGET (i : Nat) : Fld := ⟨LANE_TRAIN i, 8, 3⟩
def LANE_TRAIN_FAILED (i : Nat) : Fld := ⟨LANE_TRAIN i, 16, 5⟩
def LANE_TRAIN_ATTEMPTS (i : Nat) : Fld := ⟨LANE_TRAIN i, 24, 8⟩
/-- LANE_PEER0, R166. -/
def LANE_PEER0 (i : Nat) : Nat := 0x080024 + i * 0x10000
def LANE_PEER0_VER (i : Nat) : Fld := ⟨LANE_PEER0 i, 0, 8⟩
def LANE_PEER0_CAP (i : Nat) : Fld := ⟨LANE_PEER0 i, 8, 8⟩
def LANE_PEER0_RATES (i : Nat) : Fld := ⟨LANE_PEER0 i, 16, 8⟩
def LANE_PEER0_ROLE (i : Nat) : Fld := ⟨LANE_PEER0 i, 24, 8⟩
/-- LANE_PEER1, R166. -/
def LANE_PEER1 (i : Nat) : Nat := 0x080028 + i * 0x10000
def LANE_PEER1_MODE (i : Nat) : Fld := ⟨LANE_PEER1 i, 0, 8⟩
def LANE_PEER1_NODE (i : Nat) : Fld := ⟨LANE_PEER1 i, 8, 8⟩
def LANE_PEER1_SEQ (i : Nat) : Fld := ⟨LANE_PEER1 i, 16, 16⟩
/-- LANE_PEER2, R166. -/
def LANE_PEER2 (i : Nat) : Nat := 0x08002C + i * 0x10000
def LANE_PEER2_UID_LO (i : Nat) : Fld := ⟨LANE_PEER2 i, 0, 32⟩
/-- LANE_PEER3, R166. -/
def LANE_PEER3 (i : Nat) : Nat := 0x080030 + i * 0x10000
def LANE_PEER3_UID_HI (i : Nat) : Fld := ⟨LANE_PEER3 i, 0, 16⟩
/-- LANE_EVT, R166. -/
def LANE_EVT (i : Nat) : Nat := 0x080034 + i * 0x10000
def LANE_EVT_UP (i : Nat) : Fld := ⟨LANE_EVT i, 0, 1⟩
def LANE_EVT_DOWN (i : Nat) : Fld := ⟨LANE_EVT i, 1, 1⟩
def LANE_EVT_ALIGN_REQ (i : Nat) : Fld := ⟨LANE_EVT i, 2, 1⟩
def LANE_EVT_RF (i : Nat) : Fld := ⟨LANE_EVT i, 3, 1⟩
def LANE_EVT_RATE_FAIL (i : Nat) : Fld := ⟨LANE_EVT i, 4, 1⟩
def LANE_EVT_PEER_CHANGED (i : Nat) : Fld := ⟨LANE_EVT i, 5, 1⟩
def LANE_EVT_ROLE_FAULT (i : Nat) : Fld := ⟨LANE_EVT i, 6, 1⟩
def LANE_EVT_PAT_LOCK_LOST (i : Nat) : Fld := ⟨LANE_EVT i, 7, 1⟩
def LANE_EVT_SAT (i : Nat) : Fld := ⟨LANE_EVT i, 8, 1⟩
def LANE_EVT_EYE_DONE (i : Nat) : Fld := ⟨LANE_EVT i, 9, 1⟩
/-- LANE_EVT_EN, R166. -/
def LANE_EVT_EN (i : Nat) : Nat := 0x080038 + i * 0x10000
def LANE_EVT_EN_UP (i : Nat) : Fld := ⟨LANE_EVT_EN i, 0, 1⟩
def LANE_EVT_EN_DOWN (i : Nat) : Fld := ⟨LANE_EVT_EN i, 1, 1⟩
def LANE_EVT_EN_ALIGN_REQ (i : Nat) : Fld := ⟨LANE_EVT_EN i, 2, 1⟩
def LANE_EVT_EN_RF (i : Nat) : Fld := ⟨LANE_EVT_EN i, 3, 1⟩
def LANE_EVT_EN_RATE_FAIL (i : Nat) : Fld := ⟨LANE_EVT_EN i, 4, 1⟩
def LANE_EVT_EN_PEER_CHANGED (i : Nat) : Fld := ⟨LANE_EVT_EN i, 5, 1⟩
def LANE_EVT_EN_ROLE_FAULT (i : Nat) : Fld := ⟨LANE_EVT_EN i, 6, 1⟩
def LANE_EVT_EN_PAT_LOCK_LOST (i : Nat) : Fld := ⟨LANE_EVT_EN i, 7, 1⟩
def LANE_EVT_EN_SAT (i : Nat) : Fld := ⟨LANE_EVT_EN i, 8, 1⟩
def LANE_EVT_EN_EYE_DONE (i : Nat) : Fld := ⟨LANE_EVT_EN i, 9, 1⟩
/-- LANE_EYE_CTL, R166. -/
def LANE_EYE_CTL (i : Nat) : Nat := 0x08003C + i * 0x10000
def LANE_EYE_CTL_PHASE (i : Nat) : Fld := ⟨LANE_EYE_CTL i, 0, 7⟩
def LANE_EYE_CTL_VOFS (i : Nat) : Fld := ⟨LANE_EYE_CTL i, 8, 8⟩
def LANE_EYE_CTL_DWELL (i : Nat) : Fld := ⟨LANE_EYE_CTL i, 16, 3⟩
def LANE_EYE_CTL_START (i : Nat) : Fld := ⟨LANE_EYE_CTL i, 31, 1⟩
/-- LANE_EYE_STAT, R166. -/
def LANE_EYE_STAT (i : Nat) : Nat := 0x080040 + i * 0x10000
def LANE_EYE_STAT_DONE (i : Nat) : Fld := ⟨LANE_EYE_STAT i, 0, 1⟩
def LANE_EYE_STAT_BUSY (i : Nat) : Fld := ⟨LANE_EYE_STAT i, 1, 1⟩
def LANE_EYE_STAT_ERRS (i : Nat) : Fld := ⟨LANE_EYE_STAT i, 8, 24⟩
/-- LANE_PAT_CTL, R166. -/
def LANE_PAT_CTL (i : Nat) : Nat := 0x080044 + i * 0x10000
def LANE_PAT_CTL_GEN_EN (i : Nat) : Fld := ⟨LANE_PAT_CTL i, 0, 1⟩
def LANE_PAT_CTL_CHK_EN (i : Nat) : Fld := ⟨LANE_PAT_CTL i, 1, 1⟩
def LANE_PAT_CTL_LEVEL (i : Nat) : Fld := ⟨LANE_PAT_CTL i, 2, 1⟩
def LANE_PAT_CTL_POLY (i : Nat) : Fld := ⟨LANE_PAT_CTL i, 4, 3⟩
/-- LANE_PAT_STAT, R166. -/
def LANE_PAT_STAT (i : Nat) : Nat := 0x080048 + i * 0x10000
def LANE_PAT_STAT_CHK_LOCK (i : Nat) : Fld := ⟨LANE_PAT_STAT i, 0, 1⟩
def LANE_PAT_STAT_GEN_ACTIVE (i : Nat) : Fld := ⟨LANE_PAT_STAT i, 1, 1⟩
def LANE_PAT_STAT_LOCK_LOSS (i : Nat) : Fld := ⟨LANE_PAT_STAT i, 8, 8⟩
/-- LANE_SNAP, R166. -/
def LANE_SNAP (i : Nat) : Nat := 0x08004C + i * 0x10000
def LANE_SNAP_SNAP (i : Nat) : Fld := ⟨LANE_SNAP i, 0, 1⟩
def LANE_SNAP_CLEAR (i : Nat) : Fld := ⟨LANE_SNAP i, 1, 1⟩
/-- LANE_PAT_USER, R166. -/
def LANE_PAT_USER (i : Nat) : Nat := 0x080050 + i * 0x10000
/-- LANE_PAT_BITS, R166. -/
def LANE_PAT_BITS (i : Nat) : Nat := 0x080058 + i * 0x10000
/-- LANE_PAT_ERRS, R166. -/
def LANE_PAT_ERRS (i : Nat) : Nat := 0x080060 + i * 0x10000
/-- LANE_HDR_ERRS, R166. -/
def LANE_HDR_ERRS (i : Nat) : Nat := 0x080068 + i * 0x10000
/-- LANE_BLK_ERRS, R166. -/
def LANE_BLK_ERRS (i : Nat) : Nat := 0x080070 + i * 0x10000
/-- LANE_DOWNS, R166. -/
def LANE_DOWNS (i : Nat) : Nat := 0x080078 + i * 0x10000
/-- RPE_STAT, R202. -/
def RPE_STAT : Nat := 0x0C0000
def RPE_STAT_LISTED : Fld := ⟨RPE_STAT, 0, 1⟩
def RPE_STAT_HEAD_ACT : Fld := ⟨RPE_STAT, 1, 1⟩
def RPE_STAT_HEAD_YIELD : Fld := ⟨RPE_STAT, 2, 1⟩
def RPE_STAT_BLOCK : Fld := ⟨RPE_STAT, 8, 2⟩
/-- RPE_CTL, R202. -/
def RPE_CTL : Nat := 0x0C0004
def RPE_CTL_DUP5 : Fld := ⟨RPE_CTL, 0, 1⟩
def RPE_CTL_DUP6 : Fld := ⟨RPE_CTL, 1, 1⟩
def RPE_CTL_DUP7 : Fld := ⟨RPE_CTL, 2, 1⟩
def RPE_CTL_BULK_CAP : Fld := ⟨RPE_CTL, 4, 7⟩
def RPE_CTL_CRED : Fld := ⟨RPE_CTL, 16, 8⟩
def RPE_CTL_RSP_TO : Fld := ⟨RPE_CTL, 24, 8⟩
/-- RPE_CTL_SH, R202. -/
def RPE_CTL_SH : Nat := 0x0C0008
def RPE_CTL_SH_DUP5 : Fld := ⟨RPE_CTL_SH, 0, 1⟩
def RPE_CTL_SH_DUP6 : Fld := ⟨RPE_CTL_SH, 1, 1⟩
def RPE_CTL_SH_DUP7 : Fld := ⟨RPE_CTL_SH, 2, 1⟩
def RPE_CTL_SH_BULK_CAP : Fld := ⟨RPE_CTL_SH, 4, 7⟩
def RPE_CTL_SH_CRED : Fld := ⟨RPE_CTL_SH, 16, 8⟩
def RPE_CTL_SH_RSP_TO : Fld := ⟨RPE_CTL_SH, 24, 8⟩
/-- RPE_CEN_CTL, R202. -/
def RPE_CEN_CTL : Nat := 0x0C000C
def RPE_CEN_CTL_WANT : Fld := ⟨RPE_CEN_CTL, 0, 8⟩
def RPE_CEN_CTL_PROFILE : Fld := ⟨RPE_CEN_CTL, 8, 1⟩
def RPE_CEN_CTL_RATE : Fld := ⟨RPE_CEN_CTL, 9, 3⟩
def RPE_CEN_CTL_STACK : Fld := ⟨RPE_CEN_CTL, 12, 2⟩
def RPE_CEN_CTL_BEACON : Fld := ⟨RPE_CEN_CTL, 16, 8⟩
/-- RPE_CEN_CTL_SH, R202. -/
def RPE_CEN_CTL_SH : Nat := 0x0C0010
def RPE_CEN_CTL_SH_WANT : Fld := ⟨RPE_CEN_CTL_SH, 0, 8⟩
def RPE_CEN_CTL_SH_PROFILE : Fld := ⟨RPE_CEN_CTL_SH, 8, 1⟩
def RPE_CEN_CTL_SH_RATE : Fld := ⟨RPE_CEN_CTL_SH, 9, 3⟩
def RPE_CEN_CTL_SH_STACK : Fld := ⟨RPE_CEN_CTL_SH, 12, 2⟩
def RPE_CEN_CTL_SH_BEACON : Fld := ⟨RPE_CEN_CTL_SH, 16, 8⟩
/-- RPE_SCHED_CTL, R202. -/
def RPE_SCHED_CTL : Nat := 0x0C0014
def RPE_SCHED_CTL_MAXAGE : Fld := ⟨RPE_SCHED_CTL, 0, 8⟩
/-- RPE_SCHED_CTL_SH, R202. -/
def RPE_SCHED_CTL_SH : Nat := 0x0C0018
def RPE_SCHED_CTL_SH_MAXAGE : Fld := ⟨RPE_SCHED_CTL_SH, 0, 8⟩
/-- RPE_NODE, R202. -/
def RPE_NODE : Nat := 0x0C001C
def RPE_NODE_NODE : Fld := ⟨RPE_NODE, 0, 8⟩
def RPE_NODE_STATUS : Fld := ⟨RPE_NODE, 8, 4⟩
def RPE_NODE_ROUND : Fld := ⟨RPE_NODE, 16, 16⟩
/-- RPE_RING, R202. -/
def RPE_RING : Nat := 0x0C0020
def RPE_RING_FLOOR : Fld := ⟨RPE_RING, 0, 4⟩
def RPE_RING_PROFILE : Fld := ⟨RPE_RING, 4, 1⟩
def RPE_RING_RATE : Fld := ⟨RPE_RING, 5, 3⟩
def RPE_RING_NLISTED : Fld := ⟨RPE_RING, 8, 8⟩
def RPE_RING_ROUND : Fld := ⟨RPE_RING, 16, 16⟩
/-- RPE_CEN_CMD, R202. -/
def RPE_CEN_CMD : Nat := 0x0C0024
def RPE_CEN_CMD_CALL : Fld := ⟨RPE_CEN_CMD, 0, 1⟩
def RPE_CEN_CMD_ASSIGN : Fld := ⟨RPE_CEN_CMD, 1, 1⟩
def RPE_CEN_CMD_COUNT : Fld := ⟨RPE_CEN_CMD, 8, 8⟩
/-- RPE_CEN_STAT, R202. -/
def RPE_CEN_STAT : Nat := 0x0C0028
def RPE_CEN_STAT_CW_DONE : Fld := ⟨RPE_CEN_STAT, 0, 1⟩
def RPE_CEN_STAT_CCW_DONE : Fld := ⟨RPE_CEN_STAT, 1, 1⟩
def RPE_CEN_STAT_CW_RET : Fld := ⟨RPE_CEN_STAT, 2, 1⟩
def RPE_CEN_STAT_CCW_RET : Fld := ⟨RPE_CEN_STAT, 3, 1⟩
def RPE_CEN_STAT_OVERFLOW : Fld := ⟨RPE_CEN_STAT, 4, 1⟩
def RPE_CEN_STAT_CW_COUNT : Fld := ⟨RPE_CEN_STAT, 8, 8⟩
def RPE_CEN_STAT_CCW_COUNT : Fld := ⟨RPE_CEN_STAT, 16, 8⟩
/-- RPE_EVT, R202. -/
def RPE_EVT : Nat := 0x0C002C
def RPE_EVT_LATE : Fld := ⟨RPE_EVT, 0, 1⟩
def RPE_EVT_NOSLOT : Fld := ⟨RPE_EVT, 1, 1⟩
def RPE_EVT_STALE : Fld := ⟨RPE_EVT, 2, 1⟩
def RPE_EVT_HDR : Fld := ⟨RPE_EVT, 3, 1⟩
def RPE_EVT_NODE_CHG : Fld := ⟨RPE_EVT, 4, 1⟩
def RPE_EVT_FLOOR_CHG : Fld := ⟨RPE_EVT, 5, 1⟩
def RPE_EVT_HEAD_DUP : Fld := ⟨RPE_EVT, 6, 1⟩
def RPE_EVT_CEN_DONE : Fld := ⟨RPE_EVT, 7, 1⟩
def RPE_EVT_RSP_TIMEOUT : Fld := ⟨RPE_EVT, 8, 1⟩
def RPE_EVT_SAT : Fld := ⟨RPE_EVT, 9, 1⟩
def RPE_EVT_BEACON_LOST : Fld := ⟨RPE_EVT, 10, 1⟩
def RPE_EVT_NOTE_RX : Fld := ⟨RPE_EVT, 11, 1⟩
/-- RPE_EVT_EN, R202. -/
def RPE_EVT_EN : Nat := 0x0C0030
def RPE_EVT_EN_LATE : Fld := ⟨RPE_EVT_EN, 0, 1⟩
def RPE_EVT_EN_NOSLOT : Fld := ⟨RPE_EVT_EN, 1, 1⟩
def RPE_EVT_EN_STALE : Fld := ⟨RPE_EVT_EN, 2, 1⟩
def RPE_EVT_EN_HDR : Fld := ⟨RPE_EVT_EN, 3, 1⟩
def RPE_EVT_EN_NODE_CHG : Fld := ⟨RPE_EVT_EN, 4, 1⟩
def RPE_EVT_EN_FLOOR_CHG : Fld := ⟨RPE_EVT_EN, 5, 1⟩
def RPE_EVT_EN_HEAD_DUP : Fld := ⟨RPE_EVT_EN, 6, 1⟩
def RPE_EVT_EN_CEN_DONE : Fld := ⟨RPE_EVT_EN, 7, 1⟩
def RPE_EVT_EN_RSP_TIMEOUT : Fld := ⟨RPE_EVT_EN, 8, 1⟩
def RPE_EVT_EN_SAT : Fld := ⟨RPE_EVT_EN, 9, 1⟩
def RPE_EVT_EN_BEACON_LOST : Fld := ⟨RPE_EVT_EN, 10, 1⟩
def RPE_EVT_EN_NOTE_RX : Fld := ⟨RPE_EVT_EN, 11, 1⟩
/-- RPE_SNAP, R202. -/
def RPE_SNAP : Nat := 0x0C0034
def RPE_SNAP_SNAP : Fld := ⟨RPE_SNAP, 0, 1⟩
def RPE_SNAP_CLEAR : Fld := ⟨RPE_SNAP, 1, 1⟩
/-- RPE_LATE_LOG0, R202. -/
def RPE_LATE_LOG0 : Nat := 0x0C0038
def RPE_LATE_LOG0_SRC_NODE : Fld := ⟨RPE_LATE_LOG0, 0, 8⟩
def RPE_LATE_LOG0_SRC_CHIP : Fld := ⟨RPE_LATE_LOG0, 8, 2⟩
def RPE_LATE_LOG0_SLOT : Fld := ⟨RPE_LATE_LOG0, 16, 9⟩
def RPE_LATE_LOG0_DIR : Fld := ⟨RPE_LATE_LOG0, 25, 1⟩
/-- RPE_LATE_LOG1, R202. -/
def RPE_LATE_LOG1 : Nat := 0x0C003C
def RPE_LATE_LOG1_LATENESS : Fld := ⟨RPE_LATE_LOG1, 0, 32⟩
/-- RPE_HDR_LOG, R202. -/
def RPE_HDR_LOG : Nat := 0x0C0040
def RPE_HDR_LOG_REASON : Fld := ⟨RPE_HDR_LOG, 0, 8⟩
def RPE_HDR_LOG_LANE : Fld := ⟨RPE_HDR_LOG, 8, 2⟩
def RPE_HDR_LOG_SRC_NODE : Fld := ⟨RPE_HDR_LOG, 16, 8⟩
/-- RPE_CYCLE, R202. -/
def RPE_CYCLE : Nat := 0x0C0048
/-- RPE_CNT, R202. -/
def RPE_CNT (i : Nat) : Nat := 0x0C0100 + i * 8
/-- RPE_CEN_LIST, R202. -/
def RPE_CEN_LIST (i : Nat) (j : Nat) : Nat := 0x0C2000 + i * 0x800 + j * 4
def RPE_CEN_LIST_WORD (i : Nat) (j : Nat) : Fld := ⟨RPE_CEN_LIST i j, 0, 32⟩
/-- RPE_CEN_ASGN, R202. -/
def RPE_CEN_ASGN (i : Nat) : Nat := 0x0C3000 + i * 4
def RPE_CEN_ASGN_WORD (i : Nat) : Fld := ⟨RPE_CEN_ASGN i, 0, 32⟩
/-- RPE_SCHED, R202. -/
def RPE_SCHED (i : Nat) (j : Nat) : Nat := 0x0C4000 + i * 0x1000 + j * 4
def RPE_SCHED_WORD (i : Nat) (j : Nat) : Fld := ⟨RPE_SCHED i j, 0, 32⟩
/-- RPE_SCHED_SH, R202. -/
def RPE_SCHED_SH (i : Nat) (j : Nat) : Nat := 0x0C6000 + i * 0x1000 + j * 4
def RPE_SCHED_SH_WORD (i : Nat) (j : Nat) : Fld := ⟨RPE_SCHED_SH i j, 0, 32⟩
/-- FWD_STAT, R230. -/
def FWD_STAT : Nat := 0x0D0000
def FWD_STAT_GEN : Fld := ⟨FWD_STAT, 0, 8⟩
/-- FWD_PIN_CTL, R230. -/
def FWD_PIN_CTL : Nat := 0x0D0004
def FWD_PIN_CTL_SEED : Fld := ⟨FWD_PIN_CTL, 0, 16⟩
def FWD_PIN_CTL_DRAIN_TO : Fld := ⟨FWD_PIN_CTL, 16, 16⟩
/-- FWD_PIN_CTL_SH, R230. -/
def FWD_PIN_CTL_SH : Nat := 0x0D0008
def FWD_PIN_CTL_SH_SEED : Fld := ⟨FWD_PIN_CTL_SH, 0, 16⟩
def FWD_PIN_CTL_SH_DRAIN_TO : Fld := ⟨FWD_PIN_CTL_SH, 16, 16⟩
/-- FWD_REACH, R230. -/
def FWD_REACH : Nat := 0x0D000C
def FWD_REACH_CW : Fld := ⟨FWD_REACH, 0, 8⟩
def FWD_REACH_CCW : Fld := ⟨FWD_REACH, 8, 8⟩
/-- FWD_FENCE, R230. -/
def FWD_FENCE : Nat := 0x0D0010
def FWD_FENCE_START : Fld := ⟨FWD_FENCE, 0, 1⟩
def FWD_FENCE_BUSY : Fld := ⟨FWD_FENCE, 1, 1⟩
def FWD_FENCE_DONE : Fld := ⟨FWD_FENCE, 2, 1⟩
def FWD_FENCE_TIMEOUT : Fld := ⟨FWD_FENCE, 3, 1⟩
def FWD_FENCE_LEFT : Fld := ⟨FWD_FENCE, 16, 16⟩
/-- FWD_FENCE_TO, R230. -/
def FWD_FENCE_TO : Nat := 0x0D0014
def FWD_FENCE_TO_MS : Fld := ⟨FWD_FENCE_TO, 0, 16⟩
/-- FWD_DRAIN, R230. -/
def FWD_DRAIN : Nat := 0x0D0018
def FWD_DRAIN_FROM_CW : Fld := ⟨FWD_DRAIN, 0, 6⟩
def FWD_DRAIN_FROM_CCW : Fld := ⟨FWD_DRAIN, 8, 6⟩
def FWD_DRAIN_HELD : Fld := ⟨FWD_DRAIN, 16, 16⟩
/-- FWD_DRAIN_CNT, R230. -/
def FWD_DRAIN_CNT : Nat := 0x0D001C
def FWD_DRAIN_CNT_CLOSED : Fld := ⟨FWD_DRAIN_CNT, 0, 16⟩
def FWD_DRAIN_CNT_TIMEOUTS : Fld := ⟨FWD_DRAIN_CNT, 16, 16⟩
/-- FWD_BUF_STAT, R230. -/
def FWD_BUF_STAT : Nat := 0x0D0020
def FWD_BUF_STAT_SPARE : Fld := ⟨FWD_BUF_STAT, 0, 16⟩
def FWD_BUF_STAT_SPARE_USED : Fld := ⟨FWD_BUF_STAT, 16, 16⟩
/-- FWD_EVT, R230. -/
def FWD_EVT : Nat := 0x0D0024
def FWD_EVT_CRC : Fld := ⟨FWD_EVT, 0, 1⟩
def FWD_EVT_UNREACH : Fld := ⟨FWD_EVT, 1, 1⟩
def FWD_EVT_FULL : Fld := ⟨FWD_EVT, 2, 1⟩
def FWD_EVT_MCDROP : Fld := ⟨FWD_EVT, 3, 1⟩
def FWD_EVT_ECC : Fld := ⟨FWD_EVT, 4, 1⟩
def FWD_EVT_FENCE_DONE : Fld := ⟨FWD_EVT, 5, 1⟩
def FWD_EVT_DRAIN_TO : Fld := ⟨FWD_EVT, 6, 1⟩
def FWD_EVT_SPARE : Fld := ⟨FWD_EVT, 7, 1⟩
def FWD_EVT_SAT : Fld := ⟨FWD_EVT, 8, 1⟩
/-- FWD_EVT_EN, R230. -/
def FWD_EVT_EN : Nat := 0x0D0028
def FWD_EVT_EN_CRC : Fld := ⟨FWD_EVT_EN, 0, 1⟩
def FWD_EVT_EN_UNREACH : Fld := ⟨FWD_EVT_EN, 1, 1⟩
def FWD_EVT_EN_FULL : Fld := ⟨FWD_EVT_EN, 2, 1⟩
def FWD_EVT_EN_MCDROP : Fld := ⟨FWD_EVT_EN, 3, 1⟩
def FWD_EVT_EN_ECC : Fld := ⟨FWD_EVT_EN, 4, 1⟩
def FWD_EVT_EN_FENCE_DONE : Fld := ⟨FWD_EVT_EN, 5, 1⟩
def FWD_EVT_EN_DRAIN_TO : Fld := ⟨FWD_EVT_EN, 6, 1⟩
def FWD_EVT_EN_SPARE : Fld := ⟨FWD_EVT_EN, 7, 1⟩
def FWD_EVT_EN_SAT : Fld := ⟨FWD_EVT_EN, 8, 1⟩
/-- FWD_SNAP, R230. -/
def FWD_SNAP : Nat := 0x0D002C
def FWD_SNAP_SNAP : Fld := ⟨FWD_SNAP, 0, 1⟩
def FWD_SNAP_CLEAR : Fld := ⟨FWD_SNAP, 1, 1⟩
/-- FWD_UNREACH_LOG, R230. -/
def FWD_UNREACH_LOG : Nat := 0x0D0030
def FWD_UNREACH_LOG_DST_NODE : Fld := ⟨FWD_UNREACH_LOG, 0, 8⟩
def FWD_UNREACH_LOG_DST_CHIP : Fld := ⟨FWD_UNREACH_LOG, 8, 2⟩
def FWD_UNREACH_LOG_PORT : Fld := ⟨FWD_UNREACH_LOG, 10, 3⟩
def FWD_UNREACH_LOG_CLASS : Fld := ⟨FWD_UNREACH_LOG, 13, 3⟩
def FWD_UNREACH_LOG_GROUP : Fld := ⟨FWD_UNREACH_LOG, 16, 12⟩
/-- FWD_LIM_0, R230. -/
def FWD_LIM_0 (i : Nat) : Nat := 0x0D0100 + i * 0x20
def FWD_LIM_0_C0 (i : Nat) : Fld := ⟨FWD_LIM_0 i, 0, 16⟩
def FWD_LIM_0_C1 (i : Nat) : Fld := ⟨FWD_LIM_0 i, 16, 16⟩
/-- FWD_LIM_0_SH, R230. -/
def FWD_LIM_0_SH (i : Nat) : Nat := 0x0D0200 + i * 0x20
def FWD_LIM_0_SH_C0 (i : Nat) : Fld := ⟨FWD_LIM_0_SH i, 0, 16⟩
def FWD_LIM_0_SH_C1 (i : Nat) : Fld := ⟨FWD_LIM_0_SH i, 16, 16⟩
/-- FWD_LIM_1, R230. -/
def FWD_LIM_1 (i : Nat) : Nat := 0x0D0104 + i * 0x20
def FWD_LIM_1_C2 (i : Nat) : Fld := ⟨FWD_LIM_1 i, 0, 16⟩
def FWD_LIM_1_C3 (i : Nat) : Fld := ⟨FWD_LIM_1 i, 16, 16⟩
/-- FWD_LIM_1_SH, R230. -/
def FWD_LIM_1_SH (i : Nat) : Nat := 0x0D0204 + i * 0x20
def FWD_LIM_1_SH_C2 (i : Nat) : Fld := ⟨FWD_LIM_1_SH i, 0, 16⟩
def FWD_LIM_1_SH_C3 (i : Nat) : Fld := ⟨FWD_LIM_1_SH i, 16, 16⟩
/-- FWD_LIM_2, R230. -/
def FWD_LIM_2 (i : Nat) : Nat := 0x0D0108 + i * 0x20
def FWD_LIM_2_C4 (i : Nat) : Fld := ⟨FWD_LIM_2 i, 0, 16⟩
def FWD_LIM_2_C5REQ (i : Nat) : Fld := ⟨FWD_LIM_2 i, 16, 16⟩
/-- FWD_LIM_2_SH, R230. -/
def FWD_LIM_2_SH (i : Nat) : Nat := 0x0D0208 + i * 0x20
def FWD_LIM_2_SH_C4 (i : Nat) : Fld := ⟨FWD_LIM_2_SH i, 0, 16⟩
def FWD_LIM_2_SH_C5REQ (i : Nat) : Fld := ⟨FWD_LIM_2_SH i, 16, 16⟩
/-- FWD_LIM_3, R230. -/
def FWD_LIM_3 (i : Nat) : Nat := 0x0D010C + i * 0x20
def FWD_LIM_3_C5RSP (i : Nat) : Fld := ⟨FWD_LIM_3 i, 0, 16⟩
def FWD_LIM_3_C6 (i : Nat) : Fld := ⟨FWD_LIM_3 i, 16, 16⟩
/-- FWD_LIM_3_SH, R230. -/
def FWD_LIM_3_SH (i : Nat) : Nat := 0x0D020C + i * 0x20
def FWD_LIM_3_SH_C5RSP (i : Nat) : Fld := ⟨FWD_LIM_3_SH i, 0, 16⟩
def FWD_LIM_3_SH_C6 (i : Nat) : Fld := ⟨FWD_LIM_3_SH i, 16, 16⟩
/-- FWD_LIM_4, R230. -/
def FWD_LIM_4 (i : Nat) : Nat := 0x0D0110 + i * 0x20
def FWD_LIM_4_RES7 (i : Nat) : Fld := ⟨FWD_LIM_4 i, 0, 16⟩
/-- FWD_LIM_4_SH, R230. -/
def FWD_LIM_4_SH (i : Nat) : Nat := 0x0D0210 + i * 0x20
def FWD_LIM_4_SH_RES7 (i : Nat) : Fld := ⟨FWD_LIM_4_SH i, 0, 16⟩
/-- FWD_OCC, R230. -/
def FWD_OCC (i : Nat) (j : Nat) : Nat := 0x0D0300 + i * 0x20 + j * 4
def FWD_OCC_LOW (i : Nat) (j : Nat) : Fld := ⟨FWD_OCC i j, 0, 16⟩
def FWD_OCC_HIGH (i : Nat) (j : Nat) : Fld := ⟨FWD_OCC i j, 16, 16⟩
/-- FWD_CNT, R230. -/
def FWD_CNT (i : Nat) (j : Nat) : Nat := 0x0D0400 + i * 0x80 + j * 8
/-- FWD_NODET, R230. -/
def FWD_NODET (i : Nat) : Nat := 0x0D1000 + i * 4
def FWD_NODET_VALID (i : Nat) : Fld := ⟨FWD_NODET i, 0, 1⟩
def FWD_NODET_MODE (i : Nat) : Fld := ⟨FWD_NODET i, 1, 2⟩
def FWD_NODET_HOPS_CW (i : Nat) : Fld := ⟨FWD_NODET i, 8, 8⟩
def FWD_NODET_HOPS_CCW (i : Nat) : Fld := ⟨FWD_NODET i, 16, 8⟩
/-- FWD_NODET_SH, R230. -/
def FWD_NODET_SH (i : Nat) : Nat := 0x0D2000 + i * 4
def FWD_NODET_SH_VALID (i : Nat) : Fld := ⟨FWD_NODET_SH i, 0, 1⟩
def FWD_NODET_SH_MODE (i : Nat) : Fld := ⟨FWD_NODET_SH i, 1, 2⟩
def FWD_NODET_SH_HOPS_CW (i : Nat) : Fld := ⟨FWD_NODET_SH i, 8, 8⟩
def FWD_NODET_SH_HOPS_CCW (i : Nat) : Fld := ⟨FWD_NODET_SH i, 16, 8⟩
/-- FWD_PINT, R230. -/
def FWD_PINT (i : Nat) : Nat := 0x0D3000 + i * 4
def FWD_PINT_PIN (i : Nat) : Fld := ⟨FWD_PINT i, 0, 32⟩
/-- FWD_PINT_SH, R230. -/
def FWD_PINT_SH (i : Nat) : Nat := 0x0D3200 + i * 4
def FWD_PINT_SH_PIN (i : Nat) : Fld := ⟨FWD_PINT_SH i, 0, 32⟩
/-- FWD_MCT, R230. -/
def FWD_MCT (i : Nat) : Nat := 0x0D4000 + i * 4
def FWD_MCT_LOC (i : Nat) : Fld := ⟨FWD_MCT i, 0, 1⟩
def FWD_MCT_S0 (i : Nat) : Fld := ⟨FWD_MCT i, 1, 1⟩
def FWD_MCT_S1 (i : Nat) : Fld := ⟨FWD_MCT i, 2, 1⟩
def FWD_MCT_RING (i : Nat) : Fld := ⟨FWD_MCT i, 3, 1⟩
def FWD_MCT_VALID (i : Nat) : Fld := ⟨FWD_MCT i, 4, 1⟩
/-- FWD_MCT_SH, R230. -/
def FWD_MCT_SH (i : Nat) : Nat := 0x0D8000 + i * 4
def FWD_MCT_SH_LOC (i : Nat) : Fld := ⟨FWD_MCT_SH i, 0, 1⟩
def FWD_MCT_SH_S0 (i : Nat) : Fld := ⟨FWD_MCT_SH i, 1, 1⟩
def FWD_MCT_SH_S1 (i : Nat) : Fld := ⟨FWD_MCT_SH i, 2, 1⟩
def FWD_MCT_SH_RING (i : Nat) : Fld := ⟨FWD_MCT_SH i, 3, 1⟩
def FWD_MCT_SH_VALID (i : Nat) : Fld := ⟨FWD_MCT_SH i, 4, 1⟩
/-- RED_STAT, R261. -/
def RED_STAT : Nat := 0x0E0000
def RED_STAT_CW : Fld := ⟨RED_STAT, 0, 2⟩
def RED_STAT_CCW : Fld := ⟨RED_STAT, 2, 2⟩
def RED_STAT_WRAP_CW : Fld := ⟨RED_STAT, 4, 1⟩
def RED_STAT_WRAP_CCW : Fld := ⟨RED_STAT, 5, 1⟩
def RED_STAT_UNWRAP : Fld := ⟨RED_STAT, 6, 1⟩
def RED_STAT_GAP : Fld := ⟨RED_STAT, 7, 1⟩
def RED_STAT_DUP_LIMIT : Fld := ⟨RED_STAT, 16, 11⟩
/-- RED_CTL, R261. -/
def RED_CTL : Nat := 0x0E0004
def RED_CTL_RETURN_HOLD : Fld := ⟨RED_CTL, 0, 12⟩
def RED_CTL_UNWRAP_HOLD : Fld := ⟨RED_CTL, 12, 12⟩
def RED_CTL_GAP_EXTRA : Fld := ⟨RED_CTL, 24, 8⟩
/-- RED_CTL_SH, R261. -/
def RED_CTL_SH : Nat := 0x0E0008
def RED_CTL_SH_RETURN_HOLD : Fld := ⟨RED_CTL_SH, 0, 12⟩
def RED_CTL_SH_UNWRAP_HOLD : Fld := ⟨RED_CTL_SH, 12, 12⟩
def RED_CTL_SH_GAP_EXTRA : Fld := ⟨RED_CTL_SH, 24, 8⟩
/-- RED_DUP_CTL, R261. -/
def RED_DUP_CTL : Nat := 0x0E000C
def RED_DUP_CTL_AGE : Fld := ⟨RED_DUP_CTL, 0, 8⟩
/-- RED_DUP_CTL_SH, R261. -/
def RED_DUP_CTL_SH : Nat := 0x0E0010
def RED_DUP_CTL_SH_AGE : Fld := ⟨RED_DUP_CTL_SH, 0, 8⟩
/-- RED_GAP_POL, R261. -/
def RED_GAP_POL : Nat := 0x0E0014
def RED_GAP_POL_POL (m : Nat) : Fld := ⟨RED_GAP_POL, m * 2, 2⟩
/-- RED_GAP_POL_SH, R261. -/
def RED_GAP_POL_SH : Nat := 0x0E0018
def RED_GAP_POL_SH_POL (m : Nat) : Fld := ⟨RED_GAP_POL_SH, m * 2, 2⟩
/-- RED_TWIN_CTL, R261. -/
def RED_TWIN_CTL : Nat := 0x0E001C
def RED_TWIN_CTL_TWIN : Fld := ⟨RED_TWIN_CTL, 0, 1⟩
def RED_TWIN_CTL_AUTO_TAKE : Fld := ⟨RED_TWIN_CTL, 1, 1⟩
def RED_TWIN_CTL_AUTO_REVERT : Fld := ⟨RED_TWIN_CTL, 2, 1⟩
def RED_TWIN_CTL_DEFER_PROOF : Fld := ⟨RED_TWIN_CTL, 3, 1⟩
def RED_TWIN_CTL_HONOR_REQ : Fld := ⟨RED_TWIN_CTL, 4, 1⟩
def RED_TWIN_CTL_CONFIRM : Fld := ⟨RED_TWIN_CTL, 8, 5⟩
def RED_TWIN_CTL_OVERLAP : Fld := ⟨RED_TWIN_CTL, 13, 7⟩
def RED_TWIN_CTL_HOLDOFF : Fld := ⟨RED_TWIN_CTL, 20, 12⟩
/-- RED_TWIN_CTL_SH, R261. -/
def RED_TWIN_CTL_SH : Nat := 0x0E0020
def RED_TWIN_CTL_SH_TWIN : Fld := ⟨RED_TWIN_CTL_SH, 0, 1⟩
def RED_TWIN_CTL_SH_AUTO_TAKE : Fld := ⟨RED_TWIN_CTL_SH, 1, 1⟩
def RED_TWIN_CTL_SH_AUTO_REVERT : Fld := ⟨RED_TWIN_CTL_SH, 2, 1⟩
def RED_TWIN_CTL_SH_DEFER_PROOF : Fld := ⟨RED_TWIN_CTL_SH, 3, 1⟩
def RED_TWIN_CTL_SH_HONOR_REQ : Fld := ⟨RED_TWIN_CTL_SH, 4, 1⟩
def RED_TWIN_CTL_SH_CONFIRM : Fld := ⟨RED_TWIN_CTL_SH, 8, 5⟩
def RED_TWIN_CTL_SH_OVERLAP : Fld := ⟨RED_TWIN_CTL_SH, 13, 7⟩
def RED_TWIN_CTL_SH_HOLDOFF : Fld := ⟨RED_TWIN_CTL_SH, 20, 12⟩
/-- RED_TWIN_CMD, R261. -/
def RED_TWIN_CMD : Nat := 0x0E0024
def RED_TWIN_CMD_TAKE : Fld := ⟨RED_TWIN_CMD, 0, 1⟩
def RED_TWIN_CMD_YIELD : Fld := ⟨RED_TWIN_CMD, 1, 1⟩
def RED_TWIN_CMD_REVERT : Fld := ⟨RED_TWIN_CMD, 2, 1⟩
def RED_TWIN_CMD_UNLOCK : Fld := ⟨RED_TWIN_CMD, 3, 1⟩
/-- RED_TWIN_STAT, R261. -/
def RED_TWIN_STAT : Nat := 0x0E0028
def RED_TWIN_STAT_STATE : Fld := ⟨RED_TWIN_STAT, 0, 3⟩
def RED_TWIN_STAT_ANCHOR_OUT : Fld := ⟨RED_TWIN_STAT, 3, 1⟩
def RED_TWIN_STAT_ANCHOR_IN : Fld := ⟨RED_TWIN_STAT, 4, 1⟩
def RED_TWIN_STAT_PARTNER_BEAT : Fld := ⟨RED_TWIN_STAT, 5, 1⟩
def RED_TWIN_STAT_PARTNER_REQ : Fld := ⟨RED_TWIN_STAT, 6, 1⟩
def RED_TWIN_STAT_YLOCK : Fld := ⟨RED_TWIN_STAT, 7, 1⟩
def RED_TWIN_STAT_LEAD : Fld := ⟨RED_TWIN_STAT, 8, 1⟩
def RED_TWIN_STAT_CONFLICT : Fld := ⟨RED_TWIN_STAT, 9, 1⟩
def RED_TWIN_STAT_SEEN_HIGH : Fld := ⟨RED_TWIN_STAT, 10, 1⟩
def RED_TWIN_STAT_PAIR_NODE : Fld := ⟨RED_TWIN_STAT, 16, 8⟩
/-- RED_TWIN_LEFT, R261. -/
def RED_TWIN_LEFT : Nat := 0x0E002C
def RED_TWIN_LEFT_SECONDS : Fld := ⟨RED_TWIN_LEFT, 0, 12⟩
def RED_TWIN_LEFT_RUNNING : Fld := ⟨RED_TWIN_LEFT, 12, 1⟩
def RED_TWIN_LEFT_DUE : Fld := ⟨RED_TWIN_LEFT, 13, 1⟩
/-- RED_EVT, R261. -/
def RED_EVT : Nat := 0x0E0030
def RED_EVT_LOSS : Fld := ⟨RED_EVT, 0, 1⟩
def RED_EVT_WRAP_DONE : Fld := ⟨RED_EVT, 1, 1⟩
def RED_EVT_RETURN : Fld := ⟨RED_EVT, 2, 1⟩
def RED_EVT_BREAK_RX : Fld := ⟨RED_EVT, 3, 1⟩
def RED_EVT_RESTORE_RX : Fld := ⟨RED_EVT, 4, 1⟩
def RED_EVT_TAKE : Fld := ⟨RED_EVT, 5, 1⟩
def RED_EVT_YIELD : Fld := ⟨RED_EVT, 6, 1⟩
def RED_EVT_BEAT_LOST : Fld := ⟨RED_EVT, 7, 1⟩
def RED_EVT_TWIN_STUCK : Fld := ⟨RED_EVT, 8, 1⟩
def RED_EVT_CONFLICT : Fld := ⟨RED_EVT, 9, 1⟩
def RED_EVT_SAT : Fld := ⟨RED_EVT, 10, 1⟩
def RED_EVT_DUP_OLD : Fld := ⟨RED_EVT, 11, 1⟩
/-- RED_EVT_EN, R261. -/
def RED_EVT_EN : Nat := 0x0E0034
def RED_EVT_EN_LOSS : Fld := ⟨RED_EVT_EN, 0, 1⟩
def RED_EVT_EN_WRAP_DONE : Fld := ⟨RED_EVT_EN, 1, 1⟩
def RED_EVT_EN_RETURN : Fld := ⟨RED_EVT_EN, 2, 1⟩
def RED_EVT_EN_BREAK_RX : Fld := ⟨RED_EVT_EN, 3, 1⟩
def RED_EVT_EN_RESTORE_RX : Fld := ⟨RED_EVT_EN, 4, 1⟩
def RED_EVT_EN_TAKE : Fld := ⟨RED_EVT_EN, 5, 1⟩
def RED_EVT_EN_YIELD : Fld := ⟨RED_EVT_EN, 6, 1⟩
def RED_EVT_EN_BEAT_LOST : Fld := ⟨RED_EVT_EN, 7, 1⟩
def RED_EVT_EN_TWIN_STUCK : Fld := ⟨RED_EVT_EN, 8, 1⟩
def RED_EVT_EN_CONFLICT : Fld := ⟨RED_EVT_EN, 9, 1⟩
def RED_EVT_EN_SAT : Fld := ⟨RED_EVT_EN, 10, 1⟩
def RED_EVT_EN_DUP_OLD : Fld := ⟨RED_EVT_EN, 11, 1⟩
/-- RED_SNAP, R261. -/
def RED_SNAP : Nat := 0x0E0038
def RED_SNAP_SNAP : Fld := ⟨RED_SNAP, 0, 1⟩
def RED_SNAP_CLEAR : Fld := ⟨RED_SNAP, 1, 1⟩
/-- RED_LOSS_LOG, R261. -/
def RED_LOSS_LOG : Nat := 0x0E003C
def RED_LOSS_LOG_DIR : Fld := ⟨RED_LOSS_LOG, 0, 1⟩
def RED_LOSS_LOG_CAUSE : Fld := ⟨RED_LOSS_LOG, 8, 8⟩
/-- RED_LOSS_T, R261. -/
def RED_LOSS_T : Nat := 0x0E0040
/-- RED_WRAP_T, R261. -/
def RED_WRAP_T : Nat := 0x0E0048
/-- RED_ANCH_A, R261. -/
def RED_ANCH_A : Nat := 0x0E0050
def RED_ANCH_A_PIN : Fld := ⟨RED_ANCH_A, 0, 32⟩
/-- RED_ANCH_A_SH, R261. -/
def RED_ANCH_A_SH : Nat := 0x0E0090
def RED_ANCH_A_SH_PIN : Fld := ⟨RED_ANCH_A_SH, 0, 32⟩
/-- RED_ANCH_B, R261. -/
def RED_ANCH_B : Nat := 0x0E0054
def RED_ANCH_B_PIN : Fld := ⟨RED_ANCH_B, 0, 32⟩
/-- RED_ANCH_B_SH, R261. -/
def RED_ANCH_B_SH : Nat := 0x0E0094
def RED_ANCH_B_SH_PIN : Fld := ⟨RED_ANCH_B_SH, 0, 32⟩
/-- RED_SAFE, R261. -/
def RED_SAFE (i : Nat) : Nat := 0x0E0058 + i * 4
def RED_SAFE_SAFE (i : Nat) (m : Nat) : Fld := ⟨RED_SAFE i, m * 2, 2⟩
/-- RED_SAFE_SH, R261. -/
def RED_SAFE_SH (i : Nat) : Nat := 0x0E0098 + i * 4
def RED_SAFE_SH_SAFE (i : Nat) (m : Nat) : Fld := ⟨RED_SAFE_SH i, m * 2, 2⟩
/-- RED_MHOLD_A, R261. -/
def RED_MHOLD_A : Nat := 0x0E0068
def RED_MHOLD_A_PIN : Fld := ⟨RED_MHOLD_A, 0, 32⟩
/-- RED_MHOLD_A_SH, R261. -/
def RED_MHOLD_A_SH : Nat := 0x0E00A8
def RED_MHOLD_A_SH_PIN : Fld := ⟨RED_MHOLD_A_SH, 0, 32⟩
/-- RED_MHOLD_B, R261. -/
def RED_MHOLD_B : Nat := 0x0E006C
def RED_MHOLD_B_PIN : Fld := ⟨RED_MHOLD_B, 0, 32⟩
/-- RED_MHOLD_B_SH, R261. -/
def RED_MHOLD_B_SH : Nat := 0x0E00AC
def RED_MHOLD_B_SH_PIN : Fld := ⟨RED_MHOLD_B_SH, 0, 32⟩
/-- RED_TWIN_Q_LO, R261. -/
def RED_TWIN_Q_LO : Nat := 0x0E0070
def RED_TWIN_Q_LO_Q : Fld := ⟨RED_TWIN_Q_LO, 0, 32⟩
/-- RED_TWIN_Q_LO_SH, R261. -/
def RED_TWIN_Q_LO_SH : Nat := 0x0E00B0
def RED_TWIN_Q_LO_SH_Q : Fld := ⟨RED_TWIN_Q_LO_SH, 0, 32⟩
/-- RED_TWIN_Q_HI, R261. -/
def RED_TWIN_Q_HI : Nat := 0x0E0074
def RED_TWIN_Q_HI_Q : Fld := ⟨RED_TWIN_Q_HI, 0, 32⟩
/-- RED_TWIN_Q_HI_SH, R261. -/
def RED_TWIN_Q_HI_SH : Nat := 0x0E00B4
def RED_TWIN_Q_HI_SH_Q : Fld := ⟨RED_TWIN_Q_HI_SH, 0, 32⟩
/-- RED_CNT, R261. -/
def RED_CNT (i : Nat) : Nat := 0x0E0100 + i * 8
/-- TIME_STAT, R286. -/
def TIME_STAT : Nat := 0x0F0000
def TIME_STAT_STATE : Fld := ⟨TIME_STAT, 0, 3⟩
def TIME_STAT_REF : Fld := ⟨TIME_STAT, 3, 2⟩
def TIME_STAT_SLAVE : Fld := ⟨TIME_STAT, 5, 2⟩
def TIME_STAT_PPS_LOST : Fld := ⟨TIME_STAT, 7, 1⟩
def TIME_STAT_PD_VALID : Fld := ⟨TIME_STAT, 8, 4⟩
/-- TIME_CTL, R286. -/
def TIME_CTL : Nat := 0x0F0004
def TIME_CTL_GM : Fld := ⟨TIME_CTL, 0, 1⟩
def TIME_CTL_ANY_GM : Fld := ⟨TIME_CTL, 1, 1⟩
def TIME_CTL_SYNTON : Fld := ⟨TIME_CTL, 2, 1⟩
def TIME_CTL_PPS_DISC : Fld := ⟨TIME_CTL, 3, 1⟩
def TIME_CTL_SLAVE_SEL : Fld := ⟨TIME_CTL, 4, 2⟩
def TIME_CTL_DOMAIN : Fld := ⟨TIME_CTL, 8, 8⟩
def TIME_CTL_SYNC_LOG : Fld := ⟨TIME_CTL, 16, 3⟩
def TIME_CTL_PD_LOG : Fld := ⟨TIME_CTL, 20, 3⟩
/-- TIME_CTL_SH, R286. -/
def TIME_CTL_SH : Nat := 0x0F0804
def TIME_CTL_SH_GM : Fld := ⟨TIME_CTL_SH, 0, 1⟩
def TIME_CTL_SH_ANY_GM : Fld := ⟨TIME_CTL_SH, 1, 1⟩
def TIME_CTL_SH_SYNTON : Fld := ⟨TIME_CTL_SH, 2, 1⟩
def TIME_CTL_SH_PPS_DISC : Fld := ⟨TIME_CTL_SH, 3, 1⟩
def TIME_CTL_SH_SLAVE_SEL : Fld := ⟨TIME_CTL_SH, 4, 2⟩
def TIME_CTL_SH_DOMAIN : Fld := ⟨TIME_CTL_SH, 8, 8⟩
def TIME_CTL_SH_SYNC_LOG : Fld := ⟨TIME_CTL_SH, 16, 3⟩
def TIME_CTL_SH_PD_LOG : Fld := ⟨TIME_CTL_SH, 20, 3⟩
/-- TIME_SERVO, R286. -/
def TIME_SERVO : Nat := 0x0F0008
def TIME_SERVO_STEP_TH : Fld := ⟨TIME_SERVO, 0, 16⟩
def TIME_SERVO_SLEW_MAX : Fld := ⟨TIME_SERVO, 16, 8⟩
def TIME_SERVO_LOSS_N : Fld := ⟨TIME_SERVO, 24, 4⟩
/-- TIME_SERVO_SH, R286. -/
def TIME_SERVO_SH : Nat := 0x0F0808
def TIME_SERVO_SH_STEP_TH : Fld := ⟨TIME_SERVO_SH, 0, 16⟩
def TIME_SERVO_SH_SLEW_MAX : Fld := ⟨TIME_SERVO_SH, 16, 8⟩
def TIME_SERVO_SH_LOSS_N : Fld := ⟨TIME_SERVO_SH, 24, 4⟩
/-- TIME_SPINDLE, R286. -/
def TIME_SPINDLE : Nat := 0x0F0010
/-- TIME_SET, R286. -/
def TIME_SET : Nat := 0x0F0018
/-- TIME_ADJ, R286. -/
def TIME_ADJ : Nat := 0x0F0020
def TIME_ADJ_TICKS : Fld := ⟨TIME_ADJ, 0, 32⟩
/-- TIME_OFFSET, R286. -/
def TIME_OFFSET : Nat := 0x0F0024
def TIME_OFFSET_OFS : Fld := ⟨TIME_OFFSET, 0, 32⟩
/-- TIME_RATE, R286. -/
def TIME_RATE : Nat := 0x0F0028
def TIME_RATE_TRIM : Fld := ⟨TIME_RATE, 0, 32⟩
/-- TIME_GM_ID, R286. -/
def TIME_GM_ID : Nat := 0x0F0030
/-- TIME_GM_PORT, R286. -/
def TIME_GM_PORT : Nat := 0x0F0038
def TIME_GM_PORT_PORT : Fld := ⟨TIME_GM_PORT, 0, 16⟩
/-- TIME_HOLD_T, R286. -/
def TIME_HOLD_T : Nat := 0x0F0040
/-- TIME_PPS_CTL, R286. -/
def TIME_PPS_CTL : Nat := 0x0F0048
def TIME_PPS_CTL_OUT_EN : Fld := ⟨TIME_PPS_CTL, 0, 1⟩
def TIME_PPS_CTL_ALWAYS : Fld := ⟨TIME_PPS_CTL, 1, 1⟩
def TIME_PPS_CTL_WIDTH : Fld := ⟨TIME_PPS_CTL, 8, 8⟩
/-- TIME_PPS_CTL_SH, R286. -/
def TIME_PPS_CTL_SH : Nat := 0x0F0848
def TIME_PPS_CTL_SH_OUT_EN : Fld := ⟨TIME_PPS_CTL_SH, 0, 1⟩
def TIME_PPS_CTL_SH_ALWAYS : Fld := ⟨TIME_PPS_CTL_SH, 1, 1⟩
def TIME_PPS_CTL_SH_WIDTH : Fld := ⟨TIME_PPS_CTL_SH, 8, 8⟩
/-- TIME_PPS_OFS, R286. -/
def TIME_PPS_OFS : Nat := 0x0F004C
def TIME_PPS_OFS_TICKS : Fld := ⟨TIME_PPS_OFS, 0, 32⟩
/-- TIME_PPS_OFS_SH, R286. -/
def TIME_PPS_OFS_SH : Nat := 0x0F084C
def TIME_PPS_OFS_SH_TICKS : Fld := ⟨TIME_PPS_OFS_SH, 0, 32⟩
/-- TIME_PPS_CAP, R286. -/
def TIME_PPS_CAP : Nat := 0x0F0050
/-- TIME_PPS_CAPF, R286. -/
def TIME_PPS_CAPF : Nat := 0x0F0058
def TIME_PPS_CAPF_FRAC : Fld := ⟨TIME_PPS_CAPF, 0, 6⟩
/-- TIME_FE_TRIM, R286. -/
def TIME_FE_TRIM : Nat := 0x0F005C
def TIME_FE_TRIM_TRIM (m : Nat) : Fld := ⟨TIME_FE_TRIM, m * 8, 7⟩
/-- TIME_FE_TRIM_SH, R286. -/
def TIME_FE_TRIM_SH : Nat := 0x0F085C
def TIME_FE_TRIM_SH_TRIM (m : Nat) : Fld := ⟨TIME_FE_TRIM_SH, m * 8, 7⟩
/-- TIME_FE_STAT, R286. -/
def TIME_FE_STAT : Nat := 0x0F0060
def TIME_FE_STAT_CAL_OK : Fld := ⟨TIME_FE_STAT, 0, 4⟩
/-- TIME_EVT, R286. -/
def TIME_EVT : Nat := 0x0F0064
def TIME_EVT_LOCK : Fld := ⟨TIME_EVT, 0, 1⟩
def TIME_EVT_HOLDOVER : Fld := ⟨TIME_EVT, 1, 1⟩
def TIME_EVT_STEP : Fld := ⟨TIME_EVT, 2, 1⟩
def TIME_EVT_GM_OTHER : Fld := ⟨TIME_EVT, 3, 1⟩
def TIME_EVT_PD_FAIL : Fld := ⟨TIME_EVT, 4, 1⟩
def TIME_EVT_DEADLINE : Fld := ⟨TIME_EVT, 5, 1⟩
def TIME_EVT_PPS_IN : Fld := ⟨TIME_EVT, 6, 1⟩
def TIME_EVT_PPS_LOST : Fld := ⟨TIME_EVT, 7, 1⟩
def TIME_EVT_REF_SWITCH : Fld := ⟨TIME_EVT, 8, 1⟩
def TIME_EVT_FE_CAL : Fld := ⟨TIME_EVT, 9, 1⟩
def TIME_EVT_SAT : Fld := ⟨TIME_EVT, 10, 1⟩
def TIME_EVT_DL_OVF : Fld := ⟨TIME_EVT, 11, 1⟩
/-- TIME_EVT_EN, R286. -/
def TIME_EVT_EN : Nat := 0x0F0068
def TIME_EVT_EN_LOCK : Fld := ⟨TIME_EVT_EN, 0, 1⟩
def TIME_EVT_EN_HOLDOVER : Fld := ⟨TIME_EVT_EN, 1, 1⟩
def TIME_EVT_EN_STEP : Fld := ⟨TIME_EVT_EN, 2, 1⟩
def TIME_EVT_EN_GM_OTHER : Fld := ⟨TIME_EVT_EN, 3, 1⟩
def TIME_EVT_EN_PD_FAIL : Fld := ⟨TIME_EVT_EN, 4, 1⟩
def TIME_EVT_EN_DEADLINE : Fld := ⟨TIME_EVT_EN, 5, 1⟩
def TIME_EVT_EN_PPS_IN : Fld := ⟨TIME_EVT_EN, 6, 1⟩
def TIME_EVT_EN_PPS_LOST : Fld := ⟨TIME_EVT_EN, 7, 1⟩
def TIME_EVT_EN_REF_SWITCH : Fld := ⟨TIME_EVT_EN, 8, 1⟩
def TIME_EVT_EN_FE_CAL : Fld := ⟨TIME_EVT_EN, 9, 1⟩
def TIME_EVT_EN_SAT : Fld := ⟨TIME_EVT_EN, 10, 1⟩
def TIME_EVT_EN_DL_OVF : Fld := ⟨TIME_EVT_EN, 11, 1⟩
/-- TIME_SNAP, R286. -/
def TIME_SNAP : Nat := 0x0F006C
def TIME_SNAP_SNAP : Fld := ⟨TIME_SNAP, 0, 1⟩
def TIME_SNAP_CLEAR : Fld := ⟨TIME_SNAP, 1, 1⟩
/-- TIME_DL_HEAD, R286. -/
def TIME_DL_HEAD : Nat := 0x0F0070
def TIME_DL_HEAD_NEXT : Fld := ⟨TIME_DL_HEAD, 0, 4⟩
def TIME_DL_HEAD_CLR : Fld := ⟨TIME_DL_HEAD, 8, 1⟩
/-- TIME_PORT_CTL, R286. -/
def TIME_PORT_CTL (i : Nat) : Nat := 0x0F0080 + i * 0x10
def TIME_PORT_CTL_ASYM (i : Nat) : Fld := ⟨TIME_PORT_CTL i, 0, 16⟩
def TIME_PORT_CTL_PTP_EN (i : Nat) : Fld := ⟨TIME_PORT_CTL i, 16, 1⟩
/-- TIME_PORT_CTL_SH, R286. -/
def TIME_PORT_CTL_SH (i : Nat) : Nat := 0x0F0880 + i * 0x10
def TIME_PORT_CTL_SH_ASYM (i : Nat) : Fld := ⟨TIME_PORT_CTL_SH i, 0, 16⟩
def TIME_PORT_CTL_SH_PTP_EN (i : Nat) : Fld := ⟨TIME_PORT_CTL_SH i, 16, 1⟩
/-- TIME_PORT_STAT, R286. -/
def TIME_PORT_STAT (i : Nat) : Nat := 0x0F0084 + i * 0x10
def TIME_PORT_STAT_PD_VALID (i : Nat) : Fld := ⟨TIME_PORT_STAT i, 0, 1⟩
def TIME_PORT_STAT_FAILS (i : Nat) : Fld := ⟨TIME_PORT_STAT i, 8, 8⟩
/-- TIME_PORT_DLY, R286. -/
def TIME_PORT_DLY (i : Nat) : Nat := 0x0F0088 + i * 0x10
def TIME_PORT_DLY_DLY (i : Nat) : Fld := ⟨TIME_PORT_DLY i, 0, 32⟩
/-- TIME_MCG_NUM, R286. -/
def TIME_MCG_NUM (i : Nat) : Nat := 0x0F00C0 + i * 0x10
def TIME_MCG_NUM_NUM (i : Nat) : Fld := ⟨TIME_MCG_NUM i, 0, 32⟩
/-- TIME_MCG_NUM_SH, R286. -/
def TIME_MCG_NUM_SH (i : Nat) : Nat := 0x0F08C0 + i * 0x10
def TIME_MCG_NUM_SH_NUM (i : Nat) : Fld := ⟨TIME_MCG_NUM_SH i, 0, 32⟩
/-- TIME_MCG_DEN, R286. -/
def TIME_MCG_DEN (i : Nat) : Nat := 0x0F00C4 + i * 0x10
def TIME_MCG_DEN_DEN (i : Nat) : Fld := ⟨TIME_MCG_DEN i, 0, 16⟩
/-- TIME_MCG_DEN_SH, R286. -/
def TIME_MCG_DEN_SH (i : Nat) : Nat := 0x0F08C4 + i * 0x10
def TIME_MCG_DEN_SH_DEN (i : Nat) : Fld := ⟨TIME_MCG_DEN_SH i, 0, 16⟩
/-- TIME_MCG_CTL, R286. -/
def TIME_MCG_CTL (i : Nat) : Nat := 0x0F00C8 + i * 0x10
def TIME_MCG_CTL_EN (i : Nat) : Fld := ⟨TIME_MCG_CTL i, 0, 1⟩
def TIME_MCG_CTL_ALIGN (i : Nat) : Fld := ⟨TIME_MCG_CTL i, 1, 1⟩
def TIME_MCG_CTL_PIN_EN (i : Nat) : Fld := ⟨TIME_MCG_CTL i, 2, 1⟩
def TIME_MCG_CTL_PIN (i : Nat) : Fld := ⟨TIME_MCG_CTL i, 3, 2⟩
/-- TIME_MCG_CTL_SH, R286. -/
def TIME_MCG_CTL_SH (i : Nat) : Nat := 0x0F08C8 + i * 0x10
def TIME_MCG_CTL_SH_EN (i : Nat) : Fld := ⟨TIME_MCG_CTL_SH i, 0, 1⟩
def TIME_MCG_CTL_SH_ALIGN (i : Nat) : Fld := ⟨TIME_MCG_CTL_SH i, 1, 1⟩
def TIME_MCG_CTL_SH_PIN_EN (i : Nat) : Fld := ⟨TIME_MCG_CTL_SH i, 2, 1⟩
def TIME_MCG_CTL_SH_PIN (i : Nat) : Fld := ⟨TIME_MCG_CTL_SH i, 3, 2⟩
/-- TIME_DL_W0, R286. -/
def TIME_DL_W0 (i : Nat) : Nat := 0x0F0100 + i * 0x10
def TIME_DL_W0_KIND (i : Nat) : Fld := ⟨TIME_DL_W0 i, 0, 8⟩
def TIME_DL_W0_SRC (i : Nat) : Fld := ⟨TIME_DL_W0 i, 8, 8⟩
def TIME_DL_W0_INDEX (i : Nat) : Fld := ⟨TIME_DL_W0 i, 16, 8⟩
def TIME_DL_W0_STEP (i : Nat) : Fld := ⟨TIME_DL_W0 i, 24, 1⟩
/-- TIME_DL_W1, R286. -/
def TIME_DL_W1 (i : Nat) : Nat := 0x0F0104 + i * 0x10
def TIME_DL_W1_LATENESS (i : Nat) : Fld := ⟨TIME_DL_W1 i, 0, 32⟩
/-- TIME_DL_T, R286. -/
def TIME_DL_T (i : Nat) : Nat := 0x0F0108 + i * 0x10
/-- TIME_CNT, R286. -/
def TIME_CNT (i : Nat) : Nat := 0x0F0200 + i * 8
/-- GG_CLK, R324. -/
def GG_CLK (i : Nat) : Nat := 0x100000 + i * 0x1000
def GG_CLK_INC (i : Nat) : Fld := ⟨GG_CLK i, 0, 32⟩
/-- GG_CLK_SH, R324. -/
def GG_CLK_SH (i : Nat) : Nat := 0x100040 + i * 0x1000
def GG_CLK_SH_INC (i : Nat) : Fld := ⟨GG_CLK_SH i, 0, 32⟩
/-- GG_MAP, R324. -/
def GG_MAP (i : Nat) : Nat := 0x100004 + i * 0x1000
def GG_MAP_OUT_BASE (i : Nat) : Fld := ⟨GG_MAP i, 0, 3⟩
def GG_MAP_OUT_N (i : Nat) : Fld := ⟨GG_MAP i, 4, 4⟩
def GG_MAP_IN_BASE (i : Nat) : Fld := ⟨GG_MAP i, 8, 3⟩
def GG_MAP_IN_N (i : Nat) : Fld := ⟨GG_MAP i, 12, 4⟩
def GG_MAP_DIR (i : Nat) : Fld := ⟨GG_MAP i, 24, 1⟩
/-- GG_MAP_SH, R324. -/
def GG_MAP_SH (i : Nat) : Nat := 0x100044 + i * 0x1000
def GG_MAP_SH_OUT_BASE (i : Nat) : Fld := ⟨GG_MAP_SH i, 0, 3⟩
def GG_MAP_SH_OUT_N (i : Nat) : Fld := ⟨GG_MAP_SH i, 4, 4⟩
def GG_MAP_SH_IN_BASE (i : Nat) : Fld := ⟨GG_MAP_SH i, 8, 3⟩
def GG_MAP_SH_IN_N (i : Nat) : Fld := ⟨GG_MAP_SH i, 12, 4⟩
def GG_MAP_SH_DIR (i : Nat) : Fld := ⟨GG_MAP_SH i, 24, 1⟩
/-- GG_EXEC, R324. -/
def GG_EXEC (i : Nat) : Nat := 0x100008 + i * 0x1000
def GG_EXEC_LOOP_PC (i : Nat) : Fld := ⟨GG_EXEC i, 0, 6⟩
def GG_EXEC_START_PC (i : Nat) : Fld := ⟨GG_EXEC i, 16, 6⟩
def GG_EXEC_LATE (i : Nat) : Fld := ⟨GG_EXEC i, 24, 1⟩
def GG_EXEC_SC_LIM (i : Nat) : Fld := ⟨GG_EXEC i, 26, 6⟩
/-- GG_EXEC_SH, R324. -/
def GG_EXEC_SH (i : Nat) : Nat := 0x100048 + i * 0x1000
def GG_EXEC_SH_LOOP_PC (i : Nat) : Fld := ⟨GG_EXEC_SH i, 0, 6⟩
def GG_EXEC_SH_START_PC (i : Nat) : Fld := ⟨GG_EXEC_SH i, 16, 6⟩
def GG_EXEC_SH_LATE (i : Nat) : Fld := ⟨GG_EXEC_SH i, 24, 1⟩
def GG_EXEC_SH_SC_LIM (i : Nat) : Fld := ⟨GG_EXEC_SH i, 26, 6⟩
/-- GG_SLOT, R324. -/
def GG_SLOT (i : Nat) (j : Nat) : Nat := 0x100010 + i * 0x1000 + j * 4
def GG_SLOT_PIO (i : Nat) (j : Nat) : Fld := ⟨GG_SLOT i j, 0, 6⟩
def GG_SLOT_VALID (i : Nat) (j : Nat) : Fld := ⟨GG_SLOT i j, 6, 1⟩
def GG_SLOT_MODE (i : Nat) (j : Nat) : Fld := ⟨GG_SLOT i j, 8, 2⟩
def GG_SLOT_PULL (i : Nat) (j : Nat) : Fld := ⟨GG_SLOT i j, 10, 2⟩
def GG_SLOT_INV (i : Nat) (j : Nat) : Fld := ⟨GG_SLOT i j, 12, 1⟩
def GG_SLOT_INIT_LVL (i : Nat) (j : Nat) : Fld := ⟨GG_SLOT i j, 13, 1⟩
def GG_SLOT_INIT_OE (i : Nat) (j : Nat) : Fld := ⟨GG_SLOT i j, 14, 1⟩
/-- GG_SLOT_SH, R324. -/
def GG_SLOT_SH (i : Nat) (j : Nat) : Nat := 0x100050 + i * 0x1000 + j * 4
def GG_SLOT_SH_PIO (i : Nat) (j : Nat) : Fld := ⟨GG_SLOT_SH i j, 0, 6⟩
def GG_SLOT_SH_VALID (i : Nat) (j : Nat) : Fld := ⟨GG_SLOT_SH i j, 6, 1⟩
def GG_SLOT_SH_MODE (i : Nat) (j : Nat) : Fld := ⟨GG_SLOT_SH i j, 8, 2⟩
def GG_SLOT_SH_PULL (i : Nat) (j : Nat) : Fld := ⟨GG_SLOT_SH i j, 10, 2⟩
def GG_SLOT_SH_INV (i : Nat) (j : Nat) : Fld := ⟨GG_SLOT_SH i j, 12, 1⟩
def GG_SLOT_SH_INIT_LVL (i : Nat) (j : Nat) : Fld := ⟨GG_SLOT_SH i j, 13, 1⟩
def GG_SLOT_SH_INIT_OE (i : Nat) (j : Nat) : Fld := ⟨GG_SLOT_SH i j, 14, 1⟩
/-- GG_MARK, R324. -/
def GG_MARK (i : Nat) (j : Nat) : Nat := 0x100104 + i * 0x1000 + (j - 1) * 4
def GG_MARK_MASK (i : Nat) (j : Nat) : Fld := ⟨GG_MARK i j, 0, 8⟩
def GG_MARK_VAL (i : Nat) (j : Nat) : Fld := ⟨GG_MARK i j, 8, 8⟩
def GG_MARK_TGL (i : Nat) (j : Nat) : Fld := ⟨GG_MARK i j, 16, 8⟩
/-- GG_MARK_SH, R324. -/
def GG_MARK_SH (i : Nat) (j : Nat) : Nat := 0x100144 + i * 0x1000 + (j - 1) * 4
def GG_MARK_SH_MASK (i : Nat) (j : Nat) : Fld := ⟨GG_MARK_SH i j, 0, 8⟩
def GG_MARK_SH_VAL (i : Nat) (j : Nat) : Fld := ⟨GG_MARK_SH i j, 8, 8⟩
def GG_MARK_SH_TGL (i : Nat) (j : Nat) : Fld := ⟨GG_MARK_SH i j, 16, 8⟩
/-- GG_IMEM, R324. -/
def GG_IMEM (i : Nat) (j : Nat) : Nat := 0x100400 + i * 0x1000 + j * 4
def GG_IMEM_WORD (i : Nat) (j : Nat) : Fld := ⟨GG_IMEM i j, 0, 32⟩
/-- GG_FIFO, R356. -/
def GG_FIFO (i : Nat) : Nat := 0x100030 + i * 0x1000
def GG_FIFO_SPLIT (i : Nat) : Fld := ⟨GG_FIFO i, 0, 3⟩
def GG_FIFO_POOL (i : Nat) : Fld := ⟨GG_FIFO i, 3, 1⟩
/-- GG_FIFO_SH, R356. -/
def GG_FIFO_SH (i : Nat) : Nat := 0x100070 + i * 0x1000
def GG_FIFO_SH_SPLIT (i : Nat) : Fld := ⟨GG_FIFO_SH i, 0, 3⟩
def GG_FIFO_SH_POOL (i : Nat) : Fld := ⟨GG_FIFO_SH i, 3, 1⟩
/-- GG_CTL, R356. -/
def GG_CTL (i : Nat) : Nat := 0x100080 + i * 0x1000
def GG_CTL_START (i : Nat) : Fld := ⟨GG_CTL i, 0, 1⟩
def GG_CTL_STOP (i : Nat) : Fld := ⟨GG_CTL i, 1, 1⟩
def GG_CTL_RESUME (i : Nat) : Fld := ⟨GG_CTL i, 2, 1⟩
def GG_CTL_CLKR (i : Nat) : Fld := ⟨GG_CTL i, 3, 1⟩
def GG_CTL_FIFO_CLR (i : Nat) : Fld := ⟨GG_CTL i, 4, 1⟩
/-- GG_STAT, R356. -/
def GG_STAT (i : Nat) : Nat := 0x100084 + i * 0x1000
def GG_STAT_STATE (i : Nat) : Fld := ⟨GG_STAT i, 0, 2⟩
def GG_STAT_CAUSE (i : Nat) : Fld := ⟨GG_STAT i, 2, 3⟩
def GG_STAT_PC (i : Nat) : Fld := ⟨GG_STAT i, 8, 6⟩
def GG_STAT_INJ_PEND (i : Nat) : Fld := ⟨GG_STAT i, 14, 1⟩
def GG_STAT_ABANDONED (i : Nat) : Fld := ⟨GG_STAT i, 16, 1⟩
def GG_STAT_INJ_REJ (i : Nat) : Fld := ⟨GG_STAT i, 17, 1⟩
def GG_STAT_UNDERRUN (i : Nat) : Fld := ⟨GG_STAT i, 18, 1⟩
def GG_STAT_OVERFLOW (i : Nat) : Fld := ⟨GG_STAT i, 19, 1⟩
def GG_STAT_TX_REJ (i : Nat) : Fld := ⟨GG_STAT i, 20, 1⟩
def GG_STAT_RX_EMPTY_RD (i : Nat) : Fld := ⟨GG_STAT i, 21, 1⟩
def GG_STAT_FIFO_RESET (i : Nat) : Fld := ⟨GG_STAT i, 22, 1⟩
def GG_STAT_LATE (i : Nat) : Fld := ⟨GG_STAT i, 23, 1⟩
def GG_STAT_SKIP (i : Nat) : Fld := ⟨GG_STAT i, 24, 1⟩
/-- GG_FSTAT, R356. -/
def GG_FSTAT (i : Nat) : Nat := 0x100088 + i * 0x1000
def GG_FSTAT_TX_CNT (i : Nat) : Fld := ⟨GG_FSTAT i, 0, 6⟩
def GG_FSTAT_RX_CNT (i : Nat) : Fld := ⟨GG_FSTAT i, 8, 6⟩
/-- GG_TXF, R356. -/
def GG_TXF (i : Nat) : Nat := 0x10008C + i * 0x1000
def GG_TXF_WORD (i : Nat) : Fld := ⟨GG_TXF i, 0, 32⟩
/-- GG_RXF, R356. -/
def GG_RXF (i : Nat) : Nat := 0x100090 + i * 0x1000
def GG_RXF_WORD (i : Nat) : Fld := ⟨GG_RXF i, 0, 32⟩
/-- GG_INJ, R356. -/
def GG_INJ (i : Nat) : Nat := 0x100094 + i * 0x1000
def GG_INJ_WORD (i : Nat) : Fld := ⟨GG_INJ i, 0, 32⟩
/-- GG_INJ_FORCE, R356. -/
def GG_INJ_FORCE (i : Nat) : Nat := 0x100098 + i * 0x1000
def GG_INJ_FORCE_WORD (i : Nat) : Fld := ⟨GG_INJ_FORCE i, 0, 32⟩
/-- GG_SR, R356. -/
def GG_SR (i : Nat) : Nat := 0x1000A0 + i * 0x1000
def GG_SR_VALUE (i : Nat) : Fld := ⟨GG_SR i, 0, 32⟩
/-- GG_SCF, R356. -/
def GG_SCF (i : Nat) : Nat := 0x1000A4 + i * 0x1000
def GG_SCF_SC (i : Nat) : Fld := ⟨GG_SCF i, 0, 6⟩
def GG_SCF_Z (i : Nat) : Fld := ⟨GG_SCF i, 8, 1⟩
def GG_SCF_EQ (i : Nat) : Fld := ⟨GG_SCF i, 9, 1⟩
def GG_SCF_LT (i : Nat) : Fld := ⟨GG_SCF i, 10, 1⟩
/-- GG_X, R356. -/
def GG_X (i : Nat) (j : Nat) : Nat := 0x1000A8 + i * 0x1000 + j * 4
def GG_X_VALUE (i : Nat) (j : Nat) : Fld := ⟨GG_X i j, 0, 32⟩
/-- GG_CMP, R356. -/
def GG_CMP (i : Nat) : Nat := 0x1000B8 + i * 0x1000
def GG_CMP_VALUE (i : Nat) : Fld := ⟨GG_CMP i, 0, 32⟩
/-- GG_TSTEP, R356. -/
def GG_TSTEP (i : Nat) : Nat := 0x1000BC + i * 0x1000
def GG_TSTEP_VALUE (i : Nat) : Fld := ⟨GG_TSTEP i, 0, 32⟩
/-- GG_TB, R356. -/
def GG_TB (i : Nat) : Nat := 0x1000C0 + i * 0x1000
/-- GG_TCAP, R356. -/
def GG_TCAP (i : Nat) : Nat := 0x1000C8 + i * 0x1000
/-- GG_CNT, R356. -/
def GG_CNT (i : Nat) (j : Nat) : Nat := 0x1000D0 + i * 0x1000 + j * 8
/-- GG_GCMD, R356. -/
def GG_GCMD : Nat := 0x100800
def GG_GCMD_OP : Fld := ⟨GG_GCMD, 0, 3⟩
def GG_GCMD_GRP : Fld := ⟨GG_GCMD, 4, 2⟩
def GG_GCMD_AT_TIME : Fld := ⟨GG_GCMD, 8, 1⟩
/-- GG_GSTAT, R356. -/
def GG_GSTAT : Nat := 0x100804
def GG_GSTAT_ARMED : Fld := ⟨GG_GSTAT, 0, 4⟩
def GG_GSTAT_LATE : Fld := ⟨GG_GSTAT, 4, 4⟩
def GG_GSTAT_SAT : Fld := ⟨GG_GSTAT, 8, 1⟩
/-- GG_EF, R356. -/
def GG_EF : Nat := 0x100808
def GG_EF_EF : Fld := ⟨GG_EF, 0, 16⟩
/-- GG_EF_SET, R356. -/
def GG_EF_SET : Nat := 0x10080C
def GG_EF_SET_SET : Fld := ⟨GG_EF_SET, 0, 16⟩
/-- GG_EF_CLR, R356. -/
def GG_EF_CLR : Nat := 0x100810
def GG_EF_CLR_CLR : Fld := ⟨GG_EF_CLR, 0, 16⟩
/-- GG_FLAG_SRC, R356. -/
def GG_FLAG_SRC : Nat := 0x100814
def GG_FLAG_SRC_ENG : Fld := ⟨GG_FLAG_SRC, 0, 16⟩
/-- GG_GSNAP, R356. -/
def GG_GSNAP : Nat := 0x100818
def GG_GSNAP_SNAP : Fld := ⟨GG_GSNAP, 0, 1⟩
def GG_GSNAP_CLEAR : Fld := ⟨GG_GSNAP, 1, 1⟩
/-- GG_AUTO, R356. -/
def GG_AUTO : Nat := 0x10081C
def GG_AUTO_RUN : Fld := ⟨GG_AUTO, 0, 16⟩
/-- GG_AUTO_SH, R356. -/
def GG_AUTO_SH : Nat := 0x10085C
def GG_AUTO_SH_RUN : Fld := ⟨GG_AUTO_SH, 0, 16⟩
/-- GG_GMEM, R356. -/
def GG_GMEM (i : Nat) : Nat := 0x100820 + i * 4
def GG_GMEM_MEM (i : Nat) : Fld := ⟨GG_GMEM i, 0, 16⟩
def GG_GMEM_WAKE (i : Nat) : Fld := ⟨GG_GMEM i, 16, 1⟩
/-- GG_GMEM_SH, R356. -/
def GG_GMEM_SH (i : Nat) : Nat := 0x100860 + i * 4
def GG_GMEM_SH_MEM (i : Nat) : Fld := ⟨GG_GMEM_SH i, 0, 16⟩
def GG_GMEM_SH_WAKE (i : Nat) : Fld := ⟨GG_GMEM_SH i, 16, 1⟩
/-- GG_GTIME, R356. -/
def GG_GTIME (i : Nat) : Nat := 0x100880 + i * 8
/-- SQ_EVT, R359. -/
def SQ_EVT : Nat := 0x110000
def SQ_EVT_LOST : Fld := ⟨SQ_EVT, 0, 1⟩
def SQ_EVT_NOQUEUE : Fld := ⟨SQ_EVT, 1, 1⟩
def SQ_EVT_OVERSIZE : Fld := ⟨SQ_EVT, 2, 1⟩
def SQ_EVT_FLUSH_DONE : Fld := ⟨SQ_EVT, 3, 1⟩
def SQ_EVT_CRED_TO : Fld := ⟨SQ_EVT, 4, 1⟩
/-- SQ_EVT_EN, R359. -/
def SQ_EVT_EN : Nat := 0x110004
def SQ_EVT_EN_LOST : Fld := ⟨SQ_EVT_EN, 0, 1⟩
def SQ_EVT_EN_NOQUEUE : Fld := ⟨SQ_EVT_EN, 1, 1⟩
def SQ_EVT_EN_OVERSIZE : Fld := ⟨SQ_EVT_EN, 2, 1⟩
def SQ_EVT_EN_FLUSH_DONE : Fld := ⟨SQ_EVT_EN, 3, 1⟩
def SQ_EVT_EN_CRED_TO : Fld := ⟨SQ_EVT_EN, 4, 1⟩
/-- SQ_LVLPEND_LO, R359. -/
def SQ_LVLPEND_LO : Nat := 0x110008
def SQ_LVLPEND_LO_Q : Fld := ⟨SQ_LVLPEND_LO, 0, 32⟩
/-- SQ_LVLPEND_HI, R359. -/
def SQ_LVLPEND_HI : Nat := 0x11000C
def SQ_LVLPEND_HI_Q : Fld := ⟨SQ_LVLPEND_HI, 0, 32⟩
/-- SQ_NOQ_LOG, R359. -/
def SQ_NOQ_LOG : Nat := 0x110010
def SQ_NOQ_LOG_QUEUE : Fld := ⟨SQ_NOQ_LOG, 0, 6⟩
def SQ_NOQ_LOG_SRC_NODE : Fld := ⟨SQ_NOQ_LOG, 8, 8⟩
def SQ_NOQ_LOG_SRC_CHIP : Fld := ⟨SQ_NOQ_LOG, 16, 2⟩
/-- SQ_CFG, R359. -/
def SQ_CFG (i : Nat) : Nat := 0x111000 + i * 0x40
def SQ_CFG_EN (i : Nat) : Fld := ⟨SQ_CFG i, 0, 1⟩
def SQ_CFG_CYC_CLOSE (i : Nat) : Fld := ⟨SQ_CFG i, 1, 1⟩
def SQ_CFG_CRED (i : Nat) : Fld := ⟨SQ_CFG i, 2, 1⟩
def SQ_CFG_MBOX (i : Nat) : Fld := ⟨SQ_CFG i, 3, 1⟩
def SQ_CFG_PROD (i : Nat) : Fld := ⟨SQ_CFG i, 4, 5⟩
def SQ_CFG_CONS (i : Nat) : Fld := ⟨SQ_CFG i, 9, 5⟩
def SQ_CFG_ITEM_W (i : Nat) : Fld := ⟨SQ_CFG i, 16, 8⟩
def SQ_CFG_WIN (i : Nat) : Fld := ⟨SQ_CFG i, 24, 8⟩
/-- SQ_CFG_SH, R359. -/
def SQ_CFG_SH (i : Nat) : Nat := 0x111030 + i * 0x40
def SQ_CFG_SH_EN (i : Nat) : Fld := ⟨SQ_CFG_SH i, 0, 1⟩
def SQ_CFG_SH_CYC_CLOSE (i : Nat) : Fld := ⟨SQ_CFG_SH i, 1, 1⟩
def SQ_CFG_SH_CRED (i : Nat) : Fld := ⟨SQ_CFG_SH i, 2, 1⟩
def SQ_CFG_SH_MBOX (i : Nat) : Fld := ⟨SQ_CFG_SH i, 3, 1⟩
def SQ_CFG_SH_PROD (i : Nat) : Fld := ⟨SQ_CFG_SH i, 4, 5⟩
def SQ_CFG_SH_CONS (i : Nat) : Fld := ⟨SQ_CFG_SH i, 9, 5⟩
def SQ_CFG_SH_ITEM_W (i : Nat) : Fld := ⟨SQ_CFG_SH i, 16, 8⟩
def SQ_CFG_SH_WIN (i : Nat) : Fld := ⟨SQ_CFG_SH i, 24, 8⟩
/-- SQ_GEOM, R359. -/
def SQ_GEOM (i : Nat) : Nat := 0x111004 + i * 0x40
def SQ_GEOM_BASE (i : Nat) : Fld := ⟨SQ_GEOM i, 0, 16⟩
def SQ_GEOM_ITEMS (i : Nat) : Fld := ⟨SQ_GEOM i, 16, 11⟩
/-- SQ_GEOM_SH, R359. -/
def SQ_GEOM_SH (i : Nat) : Nat := 0x111034 + i * 0x40
def SQ_GEOM_SH_BASE (i : Nat) : Fld := ⟨SQ_GEOM_SH i, 0, 16⟩
def SQ_GEOM_SH_ITEMS (i : Nat) : Fld := ⟨SQ_GEOM_SH i, 16, 11⟩
/-- SQ_DEST0, R359. -/
def SQ_DEST0 (i : Nat) : Nat := 0x111008 + i * 0x40
def SQ_DEST0_DST_NODE (i : Nat) : Fld := ⟨SQ_DEST0 i, 0, 8⟩
def SQ_DEST0_DST_CHIP (i : Nat) : Fld := ⟨SQ_DEST0 i, 8, 2⟩
def SQ_DEST0_DST_Q (i : Nat) : Fld := ⟨SQ_DEST0 i, 10, 6⟩
def SQ_DEST0_CLASS (i : Nat) : Fld := ⟨SQ_DEST0 i, 16, 3⟩
def SQ_DEST0_SCHED (i : Nat) : Fld := ⟨SQ_DEST0 i, 19, 1⟩
def SQ_DEST0_SLOT (i : Nat) : Fld := ⟨SQ_DEST0 i, 20, 9⟩
/-- SQ_DEST0_SH, R359. -/
def SQ_DEST0_SH (i : Nat) : Nat := 0x111038 + i * 0x40
def SQ_DEST0_SH_DST_NODE (i : Nat) : Fld := ⟨SQ_DEST0_SH i, 0, 8⟩
def SQ_DEST0_SH_DST_CHIP (i : Nat) : Fld := ⟨SQ_DEST0_SH i, 8, 2⟩
def SQ_DEST0_SH_DST_Q (i : Nat) : Fld := ⟨SQ_DEST0_SH i, 10, 6⟩
def SQ_DEST0_SH_CLASS (i : Nat) : Fld := ⟨SQ_DEST0_SH i, 16, 3⟩
def SQ_DEST0_SH_SCHED (i : Nat) : Fld := ⟨SQ_DEST0_SH i, 19, 1⟩
def SQ_DEST0_SH_SLOT (i : Nat) : Fld := ⟨SQ_DEST0_SH i, 20, 9⟩
/-- SQ_DEST1, R359. -/
def SQ_DEST1 (i : Nat) : Nat := 0x11100C + i * 0x40
def SQ_DEST1_FLOW (i : Nat) : Fld := ⟨SQ_DEST1 i, 0, 16⟩
def SQ_DEST1_GROUP (i : Nat) : Fld := ⟨SQ_DEST1 i, 16, 12⟩
def SQ_DEST1_MCAST (i : Nat) : Fld := ⟨SQ_DEST1 i, 28, 1⟩
/-- SQ_DEST1_SH, R359. -/
def SQ_DEST1_SH (i : Nat) : Nat := 0x11103C + i * 0x40
def SQ_DEST1_SH_FLOW (i : Nat) : Fld := ⟨SQ_DEST1_SH i, 0, 16⟩
def SQ_DEST1_SH_GROUP (i : Nat) : Fld := ⟨SQ_DEST1_SH i, 16, 12⟩
def SQ_DEST1_SH_MCAST (i : Nat) : Fld := ⟨SQ_DEST1_SH i, 28, 1⟩
/-- SQ_CNT, R359. -/
def SQ_CNT (i : Nat) : Nat := 0x111010 + i * 0x40
def SQ_CNT_COUNT (i : Nat) : Fld := ⟨SQ_CNT i, 0, 11⟩
def SQ_CNT_BUSY (i : Nat) : Fld := ⟨SQ_CNT i, 11, 1⟩
def SQ_CNT_FLUSH_PEND (i : Nat) : Fld := ⟨SQ_CNT i, 12, 1⟩
def SQ_CNT_LOST (i : Nat) : Fld := ⟨SQ_CNT i, 16, 16⟩
/-- SQ_LVL, R359. -/
def SQ_LVL (i : Nat) : Nat := 0x111014 + i * 0x40
def SQ_LVL_LEVEL (i : Nat) : Fld := ⟨SQ_LVL i, 0, 11⟩
/-- SQ_CMD, R359. -/
def SQ_CMD (i : Nat) : Nat := 0x111018 + i * 0x40
def SQ_CMD_FLUSH (i : Nat) : Fld := ⟨SQ_CMD i, 0, 1⟩
def SQ_CMD_LOST_CLR (i : Nat) : Fld := ⟨SQ_CMD i, 1, 1⟩
def SQ_CMD_ADV (i : Nat) : Fld := ⟨SQ_CMD i, 2, 1⟩
def SQ_CMD_COMMIT (i : Nat) : Fld := ⟨SQ_CMD i, 3, 1⟩
def SQ_CMD_NW (i : Nat) : Fld := ⟨SQ_CMD i, 16, 10⟩
/-- SQ_HEAD, R359. -/
def SQ_HEAD (i : Nat) : Nat := 0x11101C + i * 0x40
def SQ_HEAD_ADDR (i : Nat) : Fld := ⟨SQ_HEAD i, 0, 32⟩
/-- SQ_TAIL, R359. -/
def SQ_TAIL (i : Nat) : Nat := 0x111020 + i * 0x40
def SQ_TAIL_ADDR (i : Nat) : Fld := ⟨SQ_TAIL i, 0, 32⟩
/-- LSV_STAT, R387. -/
def LSV_STAT : Nat := 0x120000
def LSV_STAT_LINK_OK : Fld := ⟨LSV_STAT, 0, 1⟩
def LSV_STAT_PLAY_PEND : Fld := ⟨LSV_STAT, 1, 1⟩
def LSV_STAT_PLAY_OVF : Fld := ⟨LSV_STAT, 2, 1⟩
def LSV_STAT_ACT_OVF : Fld := ⟨LSV_STAT, 3, 1⟩
def LSV_STAT_BAD_ACT : Fld := ⟨LSV_STAT, 4, 1⟩
def LSV_STAT_CMD_REJ : Fld := ⟨LSV_STAT, 5, 1⟩
def LSV_STAT_LS_CFGERR : Fld := ⟨LSV_STAT, 8, 8⟩
def LSV_STAT_SCI_CFGERR : Fld := ⟨LSV_STAT, 16, 8⟩
/-- LSV_EVT, R387. -/
def LSV_EVT : Nat := 0x120004
def LSV_EVT_SCI : Fld := ⟨LSV_EVT, 0, 8⟩
def LSV_EVT_LS : Fld := ⟨LSV_EVT, 8, 8⟩
def LSV_EVT_STALE : Fld := ⟨LSV_EVT, 16, 1⟩
def LSV_EVT_CFG : Fld := ⟨LSV_EVT, 17, 1⟩
def LSV_EVT_SWEEP_DONE : Fld := ⟨LSV_EVT, 18, 1⟩
/-- LSV_EVT_EN, R387. -/
def LSV_EVT_EN : Nat := 0x120008
def LSV_EVT_EN_SCI : Fld := ⟨LSV_EVT_EN, 0, 8⟩
def LSV_EVT_EN_LS : Fld := ⟨LSV_EVT_EN, 8, 8⟩
def LSV_EVT_EN_STALE : Fld := ⟨LSV_EVT_EN, 16, 1⟩
def LSV_EVT_EN_CFG : Fld := ⟨LSV_EVT_EN, 17, 1⟩
def LSV_EVT_EN_SWEEP_DONE : Fld := ⟨LSV_EVT_EN, 18, 1⟩
/-- LSV_PLAYQ, R387. -/
def LSV_PLAYQ : Nat := 0x12000C
def LSV_PLAYQ_NUMBER : Fld := ⟨LSV_PLAYQ, 0, 8⟩
def LSV_PLAYQ_VALID : Fld := ⟨LSV_PLAYQ, 8, 1⟩
def LSV_PLAYQ_ISLAND : Fld := ⟨LSV_PLAYQ, 9, 1⟩
/-- LSV_SWP, R387. -/
def LSV_SWP : Nat := 0x120010
def LSV_SWP_F0 : Fld := ⟨LSV_SWP, 0, 16⟩
def LSV_SWP_STEP : Fld := ⟨LSV_SWP, 16, 8⟩
def LSV_SWP_NPTS : Fld := ⟨LSV_SWP, 24, 4⟩
/-- LSV_SWP_SH, R387. -/
def LSV_SWP_SH : Nat := 0x124010
def LSV_SWP_SH_F0 : Fld := ⟨LSV_SWP_SH, 0, 16⟩
def LSV_SWP_SH_STEP : Fld := ⟨LSV_SWP_SH, 16, 8⟩
def LSV_SWP_SH_NPTS : Fld := ⟨LSV_SWP_SH, 24, 4⟩
/-- LSV_SCI_CFG, R387. -/
def LSV_SCI_CFG (i : Nat) : Nat := 0x120100 + i * 0x20
def LSV_SCI_CFG_EN (i : Nat) : Fld := ⟨LSV_SCI_CFG i, 0, 1⟩
def LSV_SCI_CFG_FLT (i : Nat) : Fld := ⟨LSV_SCI_CFG i, 1, 1⟩
def LSV_SCI_CFG_DEB (i : Nat) : Fld := ⟨LSV_SCI_CFG i, 8, 8⟩
def LSV_SCI_CFG_HYST (i : Nat) : Fld := ⟨LSV_SCI_CFG i, 16, 4⟩
def LSV_SCI_CFG_OFFSET (i : Nat) : Fld := ⟨LSV_SCI_CFG i, 20, 12⟩
/-- LSV_SCI_CFG_SH, R387. -/
def LSV_SCI_CFG_SH (i : Nat) : Nat := 0x124100 + i * 0x20
def LSV_SCI_CFG_SH_EN (i : Nat) : Fld := ⟨LSV_SCI_CFG_SH i, 0, 1⟩
def LSV_SCI_CFG_SH_FLT (i : Nat) : Fld := ⟨LSV_SCI_CFG_SH i, 1, 1⟩
def LSV_SCI_CFG_SH_DEB (i : Nat) : Fld := ⟨LSV_SCI_CFG_SH i, 8, 8⟩
def LSV_SCI_CFG_SH_HYST (i : Nat) : Fld := ⟨LSV_SCI_CFG_SH i, 16, 4⟩
def LSV_SCI_CFG_SH_OFFSET (i : Nat) : Fld := ⟨LSV_SCI_CFG_SH i, 20, 12⟩
/-- LSV_SCI_TH_LO, R387. -/
def LSV_SCI_TH_LO (i : Nat) : Nat := 0x120104 + i * 0x20
def LSV_SCI_TH_LO_T1 (i : Nat) : Fld := ⟨LSV_SCI_TH_LO i, 0, 16⟩
def LSV_SCI_TH_LO_T2 (i : Nat) : Fld := ⟨LSV_SCI_TH_LO i, 16, 16⟩
/-- LSV_SCI_TH_LO_SH, R387. -/
def LSV_SCI_TH_LO_SH (i : Nat) : Nat := 0x124104 + i * 0x20
def LSV_SCI_TH_LO_SH_T1 (i : Nat) : Fld := ⟨LSV_SCI_TH_LO_SH i, 0, 16⟩
def LSV_SCI_TH_LO_SH_T2 (i : Nat) : Fld := ⟨LSV_SCI_TH_LO_SH i, 16, 16⟩
/-- LSV_SCI_TH_HI, R387. -/
def LSV_SCI_TH_HI (i : Nat) : Nat := 0x120108 + i * 0x20
def LSV_SCI_TH_HI_T3 (i : Nat) : Fld := ⟨LSV_SCI_TH_HI i, 0, 16⟩
def LSV_SCI_TH_HI_T4 (i : Nat) : Fld := ⟨LSV_SCI_TH_HI i, 16, 16⟩
/-- LSV_SCI_TH_HI_SH, R387. -/
def LSV_SCI_TH_HI_SH (i : Nat) : Nat := 0x124108 + i * 0x20
def LSV_SCI_TH_HI_SH_T3 (i : Nat) : Fld := ⟨LSV_SCI_TH_HI_SH i, 0, 16⟩
def LSV_SCI_TH_HI_SH_T4 (i : Nat) : Fld := ⟨LSV_SCI_TH_HI_SH i, 16, 16⟩
/-- LSV_SCI_R, R387. -/
def LSV_SCI_R (i : Nat) : Nat := 0x12010C + i * 0x20
def LSV_SCI_R_OHMS (i : Nat) : Fld := ⟨LSV_SCI_R i, 0, 16⟩
def LSV_SCI_R_EXTV (i : Nat) : Fld := ⟨LSV_SCI_R i, 16, 1⟩
/-- LSV_SCI_STAT, R387. -/
def LSV_SCI_STAT (i : Nat) : Nat := 0x120110 + i * 0x20
def LSV_SCI_STAT_STATE (i : Nat) : Fld := ⟨LSV_SCI_STAT i, 0, 3⟩
def LSV_SCI_STAT_INIT (i : Nat) : Fld := ⟨LSV_SCI_STAT i, 3, 1⟩
def LSV_SCI_STAT_CAND (i : Nat) : Fld := ⟨LSV_SCI_STAT i, 4, 3⟩
def LSV_SCI_STAT_STALE (i : Nat) : Fld := ⟨LSV_SCI_STAT i, 7, 1⟩
def LSV_SCI_STAT_DCNT (i : Nat) : Fld := ⟨LSV_SCI_STAT i, 8, 8⟩
/-- LSV_LS_CTL, R387. -/
def LSV_LS_CTL (i : Nat) : Nat := 0x120400 + i * 0x40
def LSV_LS_CTL_EN (i : Nat) : Fld := ⟨LSV_LS_CTL i, 0, 1⟩
def LSV_LS_CTL_PILOT_EN (i : Nat) : Fld := ⟨LSV_LS_CTL i, 1, 1⟩
def LSV_LS_CTL_ANCH (i : Nat) : Fld := ⟨LSV_LS_CTL i, 2, 1⟩
def LSV_LS_CTL_FLT (i : Nat) : Fld := ⟨LSV_LS_CTL i, 3, 1⟩
def LSV_LS_CTL_ENGINE (i : Nat) : Fld := ⟨LSV_LS_CTL i, 4, 4⟩
def LSV_LS_CTL_FS (i : Nat) : Fld := ⟨LSV_LS_CTL i, 8, 2⟩
def LSV_LS_CTL_ALARM_N (i : Nat) : Fld := ⟨LSV_LS_CTL i, 12, 4⟩
/-- LSV_LS_CTL_SH, R387. -/
def LSV_LS_CTL_SH (i : Nat) : Nat := 0x124400 + i * 0x40
def LSV_LS_CTL_SH_EN (i : Nat) : Fld := ⟨LSV_LS_CTL_SH i, 0, 1⟩
def LSV_LS_CTL_SH_PILOT_EN (i : Nat) : Fld := ⟨LSV_LS_CTL_SH i, 1, 1⟩
def LSV_LS_CTL_SH_ANCH (i : Nat) : Fld := ⟨LSV_LS_CTL_SH i, 2, 1⟩
def LSV_LS_CTL_SH_FLT (i : Nat) : Fld := ⟨LSV_LS_CTL_SH i, 3, 1⟩
def LSV_LS_CTL_SH_ENGINE (i : Nat) : Fld := ⟨LSV_LS_CTL_SH i, 4, 4⟩
def LSV_LS_CTL_SH_FS (i : Nat) : Fld := ⟨LSV_LS_CTL_SH i, 8, 2⟩
def LSV_LS_CTL_SH_ALARM_N (i : Nat) : Fld := ⟨LSV_LS_CTL_SH i, 12, 4⟩
/-- LSV_LS_PILOT, R387. -/
def LSV_LS_PILOT (i : Nat) : Nat := 0x120404 + i * 0x40
def LSV_LS_PILOT_FREQ (i : Nat) : Fld := ⟨LSV_LS_PILOT i, 0, 16⟩
def LSV_LS_PILOT_ATTEN (i : Nat) : Fld := ⟨LSV_LS_PILOT i, 16, 7⟩
/-- LSV_LS_PILOT_SH, R387. -/
def LSV_LS_PILOT_SH (i : Nat) : Nat := 0x124404 + i * 0x40
def LSV_LS_PILOT_SH_FREQ (i : Nat) : Fld := ⟨LSV_LS_PILOT_SH i, 0, 16⟩
def LSV_LS_PILOT_SH_ATTEN (i : Nat) : Fld := ⟨LSV_LS_PILOT_SH i, 16, 7⟩
/-- LSV_LS_SCALE, R387. -/
def LSV_LS_SCALE (i : Nat) : Nat := 0x120408 + i * 0x40
def LSV_LS_SCALE_SCALE (i : Nat) : Fld := ⟨LSV_LS_SCALE i, 0, 32⟩
/-- LSV_LS_SCALE_SH, R387. -/
def LSV_LS_SCALE_SH (i : Nat) : Nat := 0x124408 + i * 0x40
def LSV_LS_SCALE_SH_SCALE (i : Nat) : Fld := ⟨LSV_LS_SCALE_SH i, 0, 32⟩
/-- LSV_LS_WIN, R387. -/
def LSV_LS_WIN (i : Nat) : Nat := 0x12040C + i * 0x40
def LSV_LS_WIN_LOW (i : Nat) : Fld := ⟨LSV_LS_WIN i, 0, 8⟩
def LSV_LS_WIN_HIGH (i : Nat) : Fld := ⟨LSV_LS_WIN i, 8, 8⟩
def LSV_LS_WIN_PHWIN (i : Nat) : Fld := ⟨LSV_LS_WIN i, 16, 8⟩
def LSV_LS_WIN_PHCOR (i : Nat) : Fld := ⟨LSV_LS_WIN i, 24, 8⟩
/-- LSV_LS_WIN_SH, R387. -/
def LSV_LS_WIN_SH (i : Nat) : Nat := 0x12440C + i * 0x40
def LSV_LS_WIN_SH_LOW (i : Nat) : Fld := ⟨LSV_LS_WIN_SH i, 0, 8⟩
def LSV_LS_WIN_SH_HIGH (i : Nat) : Fld := ⟨LSV_LS_WIN_SH i, 8, 8⟩
def LSV_LS_WIN_SH_PHWIN (i : Nat) : Fld := ⟨LSV_LS_WIN_SH i, 16, 8⟩
def LSV_LS_WIN_SH_PHCOR (i : Nat) : Fld := ⟨LSV_LS_WIN_SH i, 24, 8⟩
/-- LSV_LS_BASE_RE, R387. -/
def LSV_LS_BASE_RE (i : Nat) : Nat := 0x120410 + i * 0x40
def LSV_LS_BASE_RE_BASE (i : Nat) : Fld := ⟨LSV_LS_BASE_RE i, 0, 32⟩
/-- LSV_LS_BASE_IM, R387. -/
def LSV_LS_BASE_IM (i : Nat) : Nat := 0x120414 + i * 0x40
def LSV_LS_BASE_IM_BASE (i : Nat) : Fld := ⟨LSV_LS_BASE_IM i, 0, 32⟩
/-- LSV_LS_CMD, R387. -/
def LSV_LS_CMD (i : Nat) : Nat := 0x120418 + i * 0x40
def LSV_LS_CMD_CAPTURE (i : Nat) : Fld := ⟨LSV_LS_CMD i, 0, 1⟩
def LSV_LS_CMD_SWEEP (i : Nat) : Fld := ⟨LSV_LS_CMD i, 1, 1⟩
def LSV_LS_CMD_CAPT_BUSY (i : Nat) : Fld := ⟨LSV_LS_CMD i, 2, 1⟩
def LSV_LS_CMD_CAPT_DONE (i : Nat) : Fld := ⟨LSV_LS_CMD i, 3, 1⟩
def LSV_LS_CMD_SWP_BUSY (i : Nat) : Fld := ⟨LSV_LS_CMD i, 4, 1⟩
/-- LSV_LS_RES, R387. -/
def LSV_LS_RES (i : Nat) : Nat := 0x12041C + i * 0x40
def LSV_LS_RES_STATUS (i : Nat) : Fld := ⟨LSV_LS_RES i, 0, 4⟩
def LSV_LS_RES_RANGE (i : Nat) : Fld := ⟨LSV_LS_RES i, 4, 1⟩
def LSV_LS_RES_ALARM (i : Nat) : Fld := ⟨LSV_LS_RES i, 5, 1⟩
def LSV_LS_RES_ACNT (i : Nat) : Fld := ⟨LSV_LS_RES i, 8, 4⟩
def LSV_LS_RES_CAUSE (i : Nat) : Fld := ⟨LSV_LS_RES i, 12, 4⟩
/-- LSV_LS_Z_RE, R387. -/
def LSV_LS_Z_RE (i : Nat) : Nat := 0x120420 + i * 0x40
def LSV_LS_Z_RE_Z (i : Nat) : Fld := ⟨LSV_LS_Z_RE i, 0, 32⟩
/-- LSV_LS_Z_IM, R387. -/
def LSV_LS_Z_IM (i : Nat) : Nat := 0x120424 + i * 0x40
def LSV_LS_Z_IM_Z (i : Nat) : Fld := ⟨LSV_LS_Z_IM i, 0, 32⟩
/-- LSV_LS_ZMAG, R387. -/
def LSV_LS_ZMAG (i : Nat) : Nat := 0x120428 + i * 0x40
def LSV_LS_ZMAG_MAG (i : Nat) : Fld := ⟨LSV_LS_ZMAG i, 0, 32⟩
/-- LSV_LS_ZPH, R387. -/
def LSV_LS_ZPH (i : Nat) : Nat := 0x12042C + i * 0x40
def LSV_LS_ZPH_PH (i : Nat) : Fld := ⟨LSV_LS_ZPH i, 0, 16⟩
/-- LSV_LS_AMP, R387. -/
def LSV_LS_AMP (i : Nat) : Nat := 0x120430 + i * 0x40
def LSV_LS_AMP_V_AMP (i : Nat) : Fld := ⟨LSV_LS_AMP i, 0, 16⟩
def LSV_LS_AMP_I_AMP (i : Nat) : Fld := ⟨LSV_LS_AMP i, 16, 16⟩
/-- LSV_LS_RES_T, R387. -/
def LSV_LS_RES_T (i : Nat) : Nat := 0x120438 + i * 0x40
/-- LSV_ACT, R387. -/
def LSV_ACT (i : Nat) : Nat := 0x120800 + i * 4
def LSV_ACT_SCI (i : Nat) : Fld := ⟨LSV_ACT i, 0, 3⟩
def LSV_ACT_ON (i : Nat) : Fld := ⟨LSV_ACT i, 4, 5⟩
def LSV_ACT_ARM_N (i : Nat) : Fld := ⟨LSV_ACT i, 9, 1⟩
def LSV_ACT_ARM_I (i : Nat) : Fld := ⟨LSV_ACT i, 10, 1⟩
def LSV_ACT_OP (i : Nat) : Fld := ⟨LSV_ACT i, 12, 4⟩
def LSV_ACT_ARG (i : Nat) : Fld := ⟨LSV_ACT i, 16, 8⟩
/-- LSV_ACT_SH, R387. -/
def LSV_ACT_SH (i : Nat) : Nat := 0x124800 + i * 4
def LSV_ACT_SH_SCI (i : Nat) : Fld := ⟨LSV_ACT_SH i, 0, 3⟩
def LSV_ACT_SH_ON (i : Nat) : Fld := ⟨LSV_ACT_SH i, 4, 5⟩
def LSV_ACT_SH_ARM_N (i : Nat) : Fld := ⟨LSV_ACT_SH i, 9, 1⟩
def LSV_ACT_SH_ARM_I (i : Nat) : Fld := ⟨LSV_ACT_SH i, 10, 1⟩
def LSV_ACT_SH_OP (i : Nat) : Fld := ⟨LSV_ACT_SH i, 12, 4⟩
def LSV_ACT_SH_ARG (i : Nat) : Fld := ⟨LSV_ACT_SH i, 16, 8⟩
/-- LSV_SWP_STAT, R387. -/
def LSV_SWP_STAT (i : Nat) : Nat := 0x120C00 + i * 4
def LSV_SWP_STAT_VALID (i : Nat) : Fld := ⟨LSV_SWP_STAT i, 0, 16⟩
/-- LSV_SWP_Z_RE, R387. -/
def LSV_SWP_Z_RE (i : Nat) (j : Nat) : Nat := 0x121000 + i * 0x100 + j * 8
def LSV_SWP_Z_RE_Z (i : Nat) (j : Nat) : Fld := ⟨LSV_SWP_Z_RE i j, 0, 32⟩
/-- LSV_SWP_Z_IM, R387. -/
def LSV_SWP_Z_IM (i : Nat) (j : Nat) : Nat := 0x121004 + i * 0x100 + j * 8
def LSV_SWP_Z_IM_Z (i : Nat) (j : Nat) : Fld := ⟨LSV_SWP_Z_IM i j, 0, 32⟩
/-- MB_CTL, R408. -/
def MB_CTL (i : Nat) : Nat := 0x130000 + i * 0x4000
def MB_CTL_EN (i : Nat) : Fld := ⟨MB_CTL i, 0, 1⟩
def MB_CTL_FD (i : Nat) : Fld := ⟨MB_CTL i, 1, 1⟩
def MB_CTL_ONESHOT (i : Nat) : Fld := ⟨MB_CTL i, 2, 1⟩
def MB_CTL_AUTO_REC (i : Nat) : Fld := ⟨MB_CTL i, 3, 1⟩
def MB_CTL_LOM (i : Nat) : Fld := ⟨MB_CTL i, 4, 1⟩
def MB_CTL_STBY_TX (i : Nat) : Fld := ⟨MB_CTL i, 5, 1⟩
def MB_CTL_BUSID (i : Nat) : Fld := ⟨MB_CTL i, 16, 16⟩
/-- MB_CTL_SH, R408. -/
def MB_CTL_SH (i : Nat) : Nat := 0x130040 + i * 0x4000
def MB_CTL_SH_EN (i : Nat) : Fld := ⟨MB_CTL_SH i, 0, 1⟩
def MB_CTL_SH_FD (i : Nat) : Fld := ⟨MB_CTL_SH i, 1, 1⟩
def MB_CTL_SH_ONESHOT (i : Nat) : Fld := ⟨MB_CTL_SH i, 2, 1⟩
def MB_CTL_SH_AUTO_REC (i : Nat) : Fld := ⟨MB_CTL_SH i, 3, 1⟩
def MB_CTL_SH_LOM (i : Nat) : Fld := ⟨MB_CTL_SH i, 4, 1⟩
def MB_CTL_SH_STBY_TX (i : Nat) : Fld := ⟨MB_CTL_SH i, 5, 1⟩
def MB_CTL_SH_BUSID (i : Nat) : Fld := ⟨MB_CTL_SH i, 16, 16⟩
/-- MB_NBT, R408. -/
def MB_NBT (i : Nat) : Nat := 0x130004 + i * 0x4000
def MB_NBT_TSEG1 (i : Nat) : Fld := ⟨MB_NBT i, 0, 8⟩
def MB_NBT_TSEG2 (i : Nat) : Fld := ⟨MB_NBT i, 8, 7⟩
def MB_NBT_SJW (i : Nat) : Fld := ⟨MB_NBT i, 16, 7⟩
def MB_NBT_BRP (i : Nat) : Fld := ⟨MB_NBT i, 24, 5⟩
/-- MB_NBT_SH, R408. -/
def MB_NBT_SH (i : Nat) : Nat := 0x130044 + i * 0x4000
def MB_NBT_SH_TSEG1 (i : Nat) : Fld := ⟨MB_NBT_SH i, 0, 8⟩
def MB_NBT_SH_TSEG2 (i : Nat) : Fld := ⟨MB_NBT_SH i, 8, 7⟩
def MB_NBT_SH_SJW (i : Nat) : Fld := ⟨MB_NBT_SH i, 16, 7⟩
def MB_NBT_SH_BRP (i : Nat) : Fld := ⟨MB_NBT_SH i, 24, 5⟩
/-- MB_DBT, R408. -/
def MB_DBT (i : Nat) : Nat := 0x130008 + i * 0x4000
def MB_DBT_TSEG1 (i : Nat) : Fld := ⟨MB_DBT i, 0, 5⟩
def MB_DBT_TSEG2 (i : Nat) : Fld := ⟨MB_DBT i, 8, 4⟩
def MB_DBT_SJW (i : Nat) : Fld := ⟨MB_DBT i, 12, 4⟩
def MB_DBT_BRP (i : Nat) : Fld := ⟨MB_DBT i, 16, 5⟩
/-- MB_DBT_SH, R408. -/
def MB_DBT_SH (i : Nat) : Nat := 0x130048 + i * 0x4000
def MB_DBT_SH_TSEG1 (i : Nat) : Fld := ⟨MB_DBT_SH i, 0, 5⟩
def MB_DBT_SH_TSEG2 (i : Nat) : Fld := ⟨MB_DBT_SH i, 8, 4⟩
def MB_DBT_SH_SJW (i : Nat) : Fld := ⟨MB_DBT_SH i, 12, 4⟩
def MB_DBT_SH_BRP (i : Nat) : Fld := ⟨MB_DBT_SH i, 16, 5⟩
/-- MB_TDC, R408. -/
def MB_TDC (i : Nat) : Nat := 0x13000C + i * 0x4000
def MB_TDC_EN (i : Nat) : Fld := ⟨MB_TDC i, 0, 1⟩
def MB_TDC_OFS (i : Nat) : Fld := ⟨MB_TDC i, 8, 7⟩
/-- MB_TDC_SH, R408. -/
def MB_TDC_SH (i : Nat) : Nat := 0x13004C + i * 0x4000
def MB_TDC_SH_EN (i : Nat) : Fld := ⟨MB_TDC_SH i, 0, 1⟩
def MB_TDC_SH_OFS (i : Nat) : Fld := ⟨MB_TDC_SH i, 8, 7⟩
/-- MB_OBJ, R408. -/
def MB_OBJ (i : Nat) : Nat := 0x130010 + i * 0x4000
def MB_OBJ_BASE (i : Nat) : Fld := ⟨MB_OBJ i, 0, 16⟩
def MB_OBJ_COUNT (i : Nat) : Fld := ⟨MB_OBJ i, 16, 11⟩
/-- MB_OBJ_SH, R408. -/
def MB_OBJ_SH (i : Nat) : Nat := 0x130050 + i * 0x4000
def MB_OBJ_SH_BASE (i : Nat) : Fld := ⟨MB_OBJ_SH i, 0, 16⟩
def MB_OBJ_SH_COUNT (i : Nat) : Fld := ⟨MB_OBJ_SH i, 16, 11⟩
/-- MB_STAT, R408. -/
def MB_STAT (i : Nat) : Nat := 0x130080 + i * 0x4000
def MB_STAT_STATE (i : Nat) : Fld := ⟨MB_STAT i, 0, 3⟩
def MB_STAT_TXING (i : Nat) : Fld := ⟨MB_STAT i, 3, 1⟩
def MB_STAT_RXING (i : Nat) : Fld := ⟨MB_STAT i, 4, 1⟩
def MB_STAT_TDCV (i : Nat) : Fld := ⟨MB_STAT i, 8, 7⟩
def MB_STAT_RCNT (i : Nat) : Fld := ⟨MB_STAT i, 16, 8⟩
/-- MB_ERR, R408. -/
def MB_ERR (i : Nat) : Nat := 0x130084 + i * 0x4000
def MB_ERR_TEC (i : Nat) : Fld := ⟨MB_ERR i, 0, 9⟩
def MB_ERR_REC (i : Nat) : Fld := ⟨MB_ERR i, 16, 7⟩
def MB_ERR_RP (i : Nat) : Fld := ⟨MB_ERR i, 23, 1⟩
def MB_ERR_ECS (i : Nat) : Fld := ⟨MB_ERR i, 24, 2⟩
def MB_ERR_EW (i : Nat) : Fld := ⟨MB_ERR i, 26, 1⟩
/-- MB_ERRLOG, R408. -/
def MB_ERRLOG (i : Nat) : Nat := 0x130088 + i * 0x4000
def MB_ERRLOG_TYPE (i : Nat) : Fld := ⟨MB_ERRLOG i, 0, 3⟩
def MB_ERRLOG_DPHASE (i : Nat) : Fld := ⟨MB_ERRLOG i, 3, 1⟩
def MB_ERRLOG_TX (i : Nat) : Fld := ⟨MB_ERRLOG i, 4, 1⟩
def MB_ERRLOG_FIELD (i : Nat) : Fld := ⟨MB_ERRLOG i, 5, 3⟩
def MB_ERRLOG_TDC_SAT (i : Nat) : Fld := ⟨MB_ERRLOG i, 8, 1⟩
/-- MB_CMD, R408. -/
def MB_CMD (i : Nat) : Nat := 0x13008C + i * 0x4000
def MB_CMD_RESTART (i : Nat) : Fld := ⟨MB_CMD i, 0, 1⟩
/-- MB_TXCMD, R408. -/
def MB_TXCMD (i : Nat) : Nat := 0x130090 + i * 0x4000
def MB_TXCMD_INDEX (i : Nat) : Fld := ⟨MB_TXCMD i, 0, 11⟩
def MB_TXCMD_REQ (i : Nat) : Fld := ⟨MB_TXCMD i, 12, 1⟩
def MB_TXCMD_ABORT (i : Nat) : Fld := ⟨MB_TXCMD i, 13, 1⟩
/-- MB_EVT, R408. -/
def MB_EVT (i : Nat) : Nat := 0x130094 + i * 0x4000
def MB_EVT_RX (i : Nat) : Fld := ⟨MB_EVT i, 0, 1⟩
def MB_EVT_LOST (i : Nat) : Fld := ⟨MB_EVT i, 1, 1⟩
def MB_EVT_TXDONE (i : Nat) : Fld := ⟨MB_EVT i, 2, 1⟩
def MB_EVT_TXFAIL (i : Nat) : Fld := ⟨MB_EVT i, 3, 1⟩
def MB_EVT_EWARN (i : Nat) : Fld := ⟨MB_EVT i, 4, 1⟩
def MB_EVT_EPASS (i : Nat) : Fld := ⟨MB_EVT i, 5, 1⟩
def MB_EVT_BUSOFF (i : Nat) : Fld := ⟨MB_EVT i, 6, 1⟩
def MB_EVT_RECOVERED (i : Nat) : Fld := ⟨MB_EVT i, 7, 1⟩
def MB_EVT_NOMATCH (i : Nat) : Fld := ⟨MB_EVT i, 8, 1⟩
def MB_EVT_CMD_REJ (i : Nat) : Fld := ⟨MB_EVT i, 9, 1⟩
def MB_EVT_SAT (i : Nat) : Fld := ⟨MB_EVT i, 10, 1⟩
def MB_EVT_CFG (i : Nat) : Fld := ⟨MB_EVT i, 11, 1⟩
/-- MB_EVT_EN, R408. -/
def MB_EVT_EN (i : Nat) : Nat := 0x130098 + i * 0x4000
def MB_EVT_EN_RX (i : Nat) : Fld := ⟨MB_EVT_EN i, 0, 1⟩
def MB_EVT_EN_LOST (i : Nat) : Fld := ⟨MB_EVT_EN i, 1, 1⟩
def MB_EVT_EN_TXDONE (i : Nat) : Fld := ⟨MB_EVT_EN i, 2, 1⟩
def MB_EVT_EN_TXFAIL (i : Nat) : Fld := ⟨MB_EVT_EN i, 3, 1⟩
def MB_EVT_EN_EWARN (i : Nat) : Fld := ⟨MB_EVT_EN i, 4, 1⟩
def MB_EVT_EN_EPASS (i : Nat) : Fld := ⟨MB_EVT_EN i, 5, 1⟩
def MB_EVT_EN_BUSOFF (i : Nat) : Fld := ⟨MB_EVT_EN i, 6, 1⟩
def MB_EVT_EN_RECOVERED (i : Nat) : Fld := ⟨MB_EVT_EN i, 7, 1⟩
def MB_EVT_EN_NOMATCH (i : Nat) : Fld := ⟨MB_EVT_EN i, 8, 1⟩
def MB_EVT_EN_CMD_REJ (i : Nat) : Fld := ⟨MB_EVT_EN i, 9, 1⟩
def MB_EVT_EN_SAT (i : Nat) : Fld := ⟨MB_EVT_EN i, 10, 1⟩
def MB_EVT_EN_CFG (i : Nat) : Fld := ⟨MB_EVT_EN i, 11, 1⟩
/-- MB_TXLOG, R408. -/
def MB_TXLOG (i : Nat) : Nat := 0x13009C + i * 0x4000
def MB_TXLOG_INDEX (i : Nat) : Fld := ⟨MB_TXLOG i, 0, 11⟩
def MB_TXLOG_CAUSE (i : Nat) : Fld := ⟨MB_TXLOG i, 12, 4⟩
/-- MB_NEWSUM_LO, R408. -/
def MB_NEWSUM_LO (i : Nat) : Nat := 0x1300A0 + i * 0x4000
def MB_NEWSUM_LO_WORDS (i : Nat) : Fld := ⟨MB_NEWSUM_LO i, 0, 32⟩
/-- MB_NEWSUM_HI, R408. -/
def MB_NEWSUM_HI (i : Nat) : Nat := 0x1300A4 + i * 0x4000
def MB_NEWSUM_HI_WORDS (i : Nat) : Fld := ⟨MB_NEWSUM_HI i, 0, 16⟩
/-- MB_NEW, R408. -/
def MB_NEW (i : Nat) (j : Nat) : Nat := 0x130100 + i * 0x4000 + j * 4
def MB_NEW_OBJ (i : Nat) (j : Nat) : Fld := ⟨MB_NEW i j, 0, 32⟩
/-- MB_LOST, R408. -/
def MB_LOST (i : Nat) (j : Nat) : Nat := 0x130200 + i * 0x4000 + j * 4
def MB_LOST_OBJ (i : Nat) (j : Nat) : Fld := ⟨MB_LOST i j, 0, 32⟩
/-- MB_TXPEND, R408. -/
def MB_TXPEND (i : Nat) (j : Nat) : Nat := 0x130300 + i * 0x4000 + j * 4
def MB_TXPEND_OBJ (i : Nat) (j : Nat) : Fld := ⟨MB_TXPEND i j, 0, 32⟩
/-- MB_TXDONE, R408. -/
def MB_TXDONE (i : Nat) (j : Nat) : Nat := 0x130400 + i * 0x4000 + j * 4
def MB_TXDONE_OBJ (i : Nat) (j : Nat) : Fld := ⟨MB_TXDONE i j, 0, 32⟩
/-- MB_TXFAIL, R408. -/
def MB_TXFAIL (i : Nat) (j : Nat) : Nat := 0x130500 + i * 0x4000 + j * 4
def MB_TXFAIL_OBJ (i : Nat) (j : Nat) : Fld := ⟨MB_TXFAIL i j, 0, 32⟩
/-- MB_CNT, R408. -/
def MB_CNT (i : Nat) (j : Nat) : Nat := 0x130800 + i * 0x4000 + j * 8
/-- MB_SNAP, R408. -/
def MB_SNAP : Nat := 0x130F00
def MB_SNAP_SNAP : Fld := ⟨MB_SNAP, 0, 1⟩
def MB_SNAP_CLEAR : Fld := ⟨MB_SNAP, 1, 1⟩
/-- MB_TXLIST_IDX, R408. -/
def MB_TXLIST_IDX : Nat := 0x130F04
def MB_TXLIST_IDX_E : Fld := ⟨MB_TXLIST_IDX, 0, 13⟩
/-- MB_TXLIST_CNT, R408. -/
def MB_TXLIST_CNT : Nat := 0x130F08
def MB_TXLIST_CNT_CNT : Fld := ⟨MB_TXLIST_CNT, 0, 13⟩
/-- MB_TXLIST_LO, R408. -/
def MB_TXLIST_LO : Nat := 0x130F0C
def MB_TXLIST_LO_ENTRY : Fld := ⟨MB_TXLIST_LO, 0, 32⟩
/-- MB_TXLIST_HI, R408. -/
def MB_TXLIST_HI : Nat := 0x130F10
def MB_TXLIST_HI_ENTRY : Fld := ⟨MB_TXLIST_HI, 0, 32⟩
/-- MB_DIR, R408. -/
def MB_DIR (i : Nat) (j : Nat) : Nat := 0x131000 + i * 0x4000 + j * 4
def MB_DIR_ID (i : Nat) (j : Nat) : Fld := ⟨MB_DIR i j, 0, 29⟩
def MB_DIR_IDE (i : Nat) (j : Nat) : Fld := ⟨MB_DIR i j, 29, 1⟩
def MB_DIR_TX (i : Nat) (j : Nat) : Fld := ⟨MB_DIR i j, 30, 1⟩
def MB_DIR_VALID (i : Nat) (j : Nat) : Fld := ⟨MB_DIR i j, 31, 1⟩
/-- MB_DIR_SH, R408. -/
def MB_DIR_SH (i : Nat) (j : Nat) : Nat := 0x132800 + i * 0x4000 + j * 4
def MB_DIR_SH_ID (i : Nat) (j : Nat) : Fld := ⟨MB_DIR_SH i j, 0, 29⟩
def MB_DIR_SH_IDE (i : Nat) (j : Nat) : Fld := ⟨MB_DIR_SH i j, 29, 1⟩
def MB_DIR_SH_TX (i : Nat) (j : Nat) : Fld := ⟨MB_DIR_SH i j, 30, 1⟩
def MB_DIR_SH_VALID (i : Nat) (j : Nat) : Fld := ⟨MB_DIR_SH i j, 31, 1⟩
/-- HBR_STAT, R424. -/
def HBR_STAT : Nat := 0x140000
def HBR_STAT_LANE_UP : Fld := ⟨HBR_STAT, 0, 1⟩
def HBR_STAT_HOSTMAC_VALID : Fld := ⟨HBR_STAT, 1, 1⟩
/-- HBR_CTL, R424. -/
def HBR_CTL : Nat := 0x140004
def HBR_CTL_PORT : Fld := ⟨HBR_CTL, 0, 2⟩
def HBR_CTL_INT_FRAME : Fld := ⟨HBR_CTL, 2, 1⟩
/-- HBR_CTL_SH, R424. -/
def HBR_CTL_SH : Nat := 0x140044
def HBR_CTL_SH_PORT : Fld := ⟨HBR_CTL_SH, 0, 2⟩
def HBR_CTL_SH_INT_FRAME : Fld := ⟨HBR_CTL_SH, 2, 1⟩
/-- HBR_MAC_LO, R424. -/
def HBR_MAC_LO : Nat := 0x140008
def HBR_MAC_LO_MAC : Fld := ⟨HBR_MAC_LO, 0, 32⟩
/-- HBR_MAC_LO_SH, R424. -/
def HBR_MAC_LO_SH : Nat := 0x140048
def HBR_MAC_LO_SH_MAC : Fld := ⟨HBR_MAC_LO_SH, 0, 32⟩
/-- HBR_MAC_HI, R424. -/
def HBR_MAC_HI : Nat := 0x14000C
def HBR_MAC_HI_MAC : Fld := ⟨HBR_MAC_HI, 0, 16⟩
/-- HBR_MAC_HI_SH, R424. -/
def HBR_MAC_HI_SH : Nat := 0x14004C
def HBR_MAC_HI_SH_MAC : Fld := ⟨HBR_MAC_HI_SH, 0, 16⟩
/-- HBR_HOSTMAC_LO, R424. -/
def HBR_HOSTMAC_LO : Nat := 0x140010
def HBR_HOSTMAC_LO_MAC : Fld := ⟨HBR_HOSTMAC_LO, 0, 32⟩
/-- HBR_HOSTMAC_HI, R424. -/
def HBR_HOSTMAC_HI : Nat := 0x140014
def HBR_HOSTMAC_HI_MAC : Fld := ⟨HBR_HOSTMAC_HI, 0, 16⟩
/-- HBR_HST, R424. -/
def HBR_HST : Nat := 0x140018
def HBR_HST_READY : Fld := ⟨HBR_HST, 0, 8⟩
def HBR_HST_BUSY : Fld := ⟨HBR_HST, 8, 8⟩
def HBR_HST_WFREE : Fld := ⟨HBR_HST, 16, 8⟩
def HBR_HST_FENCE_BUSY : Fld := ⟨HBR_HST, 24, 1⟩
def HBR_HST_FENCE_DONE : Fld := ⟨HBR_HST, 25, 1⟩
def HBR_HST_FENCE_FAIL : Fld := ⟨HBR_HST, 26, 1⟩
def HBR_HST_INT : Fld := ⟨HBR_HST, 27, 1⟩
def HBR_HST_WR_DROP : Fld := ⟨HBR_HST, 28, 1⟩
def HBR_HST_PWF : Fld := ⟨HBR_HST, 29, 1⟩
/-- HBR_EVT, R424. -/
def HBR_EVT : Nat := 0x14001C
def HBR_EVT_PWF : Fld := ⟨HBR_EVT, 0, 1⟩
def HBR_EVT_FENCE_DONE : Fld := ⟨HBR_EVT, 1, 1⟩
def HBR_EVT_READY : Fld := ⟨HBR_EVT, 2, 1⟩
def HBR_EVT_SEM_EXP : Fld := ⟨HBR_EVT, 3, 1⟩
def HBR_EVT_DROP : Fld := ⟨HBR_EVT, 4, 1⟩
def HBR_EVT_SAT : Fld := ⟨HBR_EVT, 5, 1⟩
/-- HBR_EVT_EN, R424. -/
def HBR_EVT_EN : Nat := 0x140020
def HBR_EVT_EN_PWF : Fld := ⟨HBR_EVT_EN, 0, 1⟩
def HBR_EVT_EN_FENCE_DONE : Fld := ⟨HBR_EVT_EN, 1, 1⟩
def HBR_EVT_EN_READY : Fld := ⟨HBR_EVT_EN, 2, 1⟩
def HBR_EVT_EN_SEM_EXP : Fld := ⟨HBR_EVT_EN, 3, 1⟩
def HBR_EVT_EN_DROP : Fld := ⟨HBR_EVT_EN, 4, 1⟩
def HBR_EVT_EN_SAT : Fld := ⟨HBR_EVT_EN, 5, 1⟩
/-- HBR_SNAP, R424. -/
def HBR_SNAP : Nat := 0x140024
def HBR_SNAP_SNAP : Fld := ⟨HBR_SNAP, 0, 1⟩
def HBR_SNAP_CLEAR : Fld := ⟨HBR_SNAP, 1, 1⟩
/-- HBR_SEM_CTL, R424. -/
def HBR_SEM_CTL : Nat := 0x140028
def HBR_SEM_CTL_HOLD_MS : Fld := ⟨HBR_SEM_CTL, 0, 16⟩
/-- HBR_SEM_CTL_SH, R424. -/
def HBR_SEM_CTL_SH : Nat := 0x140068
def HBR_SEM_CTL_SH_HOLD_MS : Fld := ⟨HBR_SEM_CTL_SH, 0, 16⟩
/-- HBR_FENCE_CTL, R424. -/
def HBR_FENCE_CTL (i : Nat) : Nat := 0x140080 + i * 0x10
def HBR_FENCE_CTL_START (i : Nat) : Fld := ⟨HBR_FENCE_CTL i, 0, 1⟩
/-- HBR_FENCE_STAT, R424. -/
def HBR_FENCE_STAT (i : Nat) : Nat := 0x140084 + i * 0x10
def HBR_FENCE_STAT_BUSY (i : Nat) : Fld := ⟨HBR_FENCE_STAT i, 0, 1⟩
def HBR_FENCE_STAT_DONE (i : Nat) : Fld := ⟨HBR_FENCE_STAT i, 1, 1⟩
def HBR_FENCE_STAT_FAIL (i : Nat) : Fld := ⟨HBR_FENCE_STAT i, 2, 1⟩
def HBR_FENCE_STAT_EPOCH (i : Nat) : Fld := ⟨HBR_FENCE_STAT i, 3, 1⟩
def HBR_FENCE_STAT_FIRST (i : Nat) : Fld := ⟨HBR_FENCE_STAT i, 8, 8⟩
def HBR_FENCE_STAT_NFAIL (i : Nat) : Fld := ⟨HBR_FENCE_STAT i, 16, 16⟩
/-- HBR_FENCE_ADDR_LO, R424. -/
def HBR_FENCE_ADDR_LO (i : Nat) : Nat := 0x140088 + i * 0x10
def HBR_FENCE_ADDR_LO_ADDR (i : Nat) : Fld := ⟨HBR_FENCE_ADDR_LO i, 0, 32⟩
/-- HBR_FENCE_ADDR_HI, R424. -/
def HBR_FENCE_ADDR_HI (i : Nat) : Nat := 0x14008C + i * 0x10
def HBR_FENCE_ADDR_HI_ADDR (i : Nat) : Fld := ⟨HBR_FENCE_ADDR_HI i, 0, 16⟩
/-- HBR_PWLOG0, R424. -/
def HBR_PWLOG0 : Nat := 0x140100
def HBR_PWLOG0_STATUS : Fld := ⟨HBR_PWLOG0, 0, 8⟩
def HBR_PWLOG0_REQ : Fld := ⟨HBR_PWLOG0, 8, 3⟩
def HBR_PWLOG0_TAG : Fld := ⟨HBR_PWLOG0, 16, 16⟩
/-- HBR_PWLOG1, R424. -/
def HBR_PWLOG1 : Nat := 0x140104
def HBR_PWLOG1_ADDR : Fld := ⟨HBR_PWLOG1, 0, 32⟩
/-- HBR_PWLOG2, R424. -/
def HBR_PWLOG2 : Nat := 0x140108
def HBR_PWLOG2_ADDR : Fld := ⟨HBR_PWLOG2, 0, 16⟩
def HBR_PWLOG2_COUNT : Fld := ⟨HBR_PWLOG2, 16, 16⟩
/-- HBR_SEM, R424. -/
def HBR_SEM (i : Nat) : Nat := 0x140200 + i * 4
def HBR_SEM_OWNER (i : Nat) : Fld := ⟨HBR_SEM i, 0, 13⟩
def HBR_SEM_HELD (i : Nat) : Fld := ⟨HBR_SEM i, 31, 1⟩
/-- HBR_CNT, R424. -/
def HBR_CNT (i : Nat) : Nat := 0x140300 + i * 8
/-- LPW_STAT, R479. -/
def LPW_STAT : Nat := 0x150000
def LPW_STAT_PGOOD : Fld := ⟨LPW_STAT, 0, 1⟩
def LPW_STAT_RAILS_OK : Fld := ⟨LPW_STAT, 1, 1⟩
def LPW_STAT_STACKED : Fld := ⟨LPW_STAT, 2, 1⟩
def LPW_STAT_CFG_REJ : Fld := ⟨LPW_STAT, 3, 1⟩
def LPW_STAT_EVT_LOST : Fld := ⟨LPW_STAT, 4, 1⟩
def LPW_STAT_SAT : Fld := ⟨LPW_STAT, 5, 1⟩
/-- LPW_EVT, R479. -/
def LPW_EVT : Nat := 0x150004
def LPW_EVT_P0 : Fld := ⟨LPW_EVT, 0, 7⟩
def LPW_EVT_P1 : Fld := ⟨LPW_EVT, 7, 7⟩
def LPW_EVT_RAIL : Fld := ⟨LPW_EVT, 14, 1⟩
def LPW_EVT_CFG_REJ : Fld := ⟨LPW_EVT, 15, 1⟩
def LPW_EVT_SAT : Fld := ⟨LPW_EVT, 16, 1⟩
def LPW_EVT_BUS : Fld := ⟨LPW_EVT, 17, 1⟩
/-- LPW_EVT_EN, R479. -/
def LPW_EVT_EN : Nat := 0x150008
def LPW_EVT_EN_P0 : Fld := ⟨LPW_EVT_EN, 0, 7⟩
def LPW_EVT_EN_P1 : Fld := ⟨LPW_EVT_EN, 7, 7⟩
def LPW_EVT_EN_RAIL : Fld := ⟨LPW_EVT_EN, 14, 1⟩
def LPW_EVT_EN_CFG_REJ : Fld := ⟨LPW_EVT_EN, 15, 1⟩
def LPW_EVT_EN_SAT : Fld := ⟨LPW_EVT_EN, 16, 1⟩
def LPW_EVT_EN_BUS : Fld := ⟨LPW_EVT_EN, 17, 1⟩
/-- LPW_SNAP, R479. -/
def LPW_SNAP : Nat := 0x15000C
def LPW_SNAP_SNAP : Fld := ⟨LPW_SNAP, 0, 1⟩
def LPW_SNAP_CLEAR : Fld := ⟨LPW_SNAP, 1, 1⟩
/-- LPW_BUS, R479. -/
def LPW_BUS : Nat := 0x150010
def LPW_BUS_UV : Fld := ⟨LPW_BUS, 0, 10⟩
def LPW_BUS_OV : Fld := ⟨LPW_BUS, 16, 10⟩
def LPW_BUS_HYST : Fld := ⟨LPW_BUS, 28, 4⟩
/-- LPW_BUS_SH, R479. -/
def LPW_BUS_SH : Nat := 0x150810
def LPW_BUS_SH_UV : Fld := ⟨LPW_BUS_SH, 0, 10⟩
def LPW_BUS_SH_OV : Fld := ⟨LPW_BUS_SH, 16, 10⟩
def LPW_BUS_SH_HYST : Fld := ⟨LPW_BUS_SH, 28, 4⟩
/-- LPW_SEQ, R479. -/
def LPW_SEQ : Nat := 0x150014
def LPW_SEQ_STEP : Fld := ⟨LPW_SEQ, 0, 6⟩
def LPW_SEQ_RAIL_TO : Fld := ⟨LPW_SEQ, 8, 6⟩
def LPW_SEQ_MON : Fld := ⟨LPW_SEQ, 16, 4⟩
/-- LPW_SEQ_SH, R479. -/
def LPW_SEQ_SH : Nat := 0x150814
def LPW_SEQ_SH_STEP : Fld := ⟨LPW_SEQ_SH, 0, 6⟩
def LPW_SEQ_SH_RAIL_TO : Fld := ⟨LPW_SEQ_SH, 8, 6⟩
def LPW_SEQ_SH_MON : Fld := ⟨LPW_SEQ_SH, 16, 4⟩
/-- LPW_SEQ_STAT, R479. -/
def LPW_SEQ_STAT : Nat := 0x150018
def LPW_SEQ_STAT_PEN : Fld := ⟨LPW_SEQ_STAT, 0, 4⟩
def LPW_SEQ_STAT_INWIN : Fld := ⟨LPW_SEQ_STAT, 4, 4⟩
def LPW_SEQ_STAT_STATE : Fld := ⟨LPW_SEQ_STAT, 8, 3⟩
def LPW_SEQ_STAT_RAIL_FAILS : Fld := ⟨LPW_SEQ_STAT, 16, 8⟩
/-- LPW_VBUS, R479. -/
def LPW_VBUS : Nat := 0x15001C
def LPW_VBUS_MV : Fld := ⟨LPW_VBUS, 0, 17⟩
def LPW_VBUS_IN : Fld := ⟨LPW_VBUS, 17, 1⟩
/-- LPW_P_CFG, R479. -/
def LPW_P_CFG (i : Nat) : Nat := 0x150100 + i * 0x40
def LPW_P_CFG_EN (i : Nat) : Fld := ⟨LPW_P_CFG i, 0, 1⟩
def LPW_P_CFG_SOURCE (i : Nat) : Fld := ⟨LPW_P_CFG i, 1, 1⟩
def LPW_P_CFG_RETRY_MAX (i : Nat) : Fld := ⟨LPW_P_CFG i, 8, 8⟩
def LPW_P_CFG_DET_PERIOD (i : Nat) : Fld := ⟨LPW_P_CFG i, 16, 8⟩
/-- LPW_P_CFG_SH, R479. -/
def LPW_P_CFG_SH (i : Nat) : Nat := 0x150900 + i * 0x40
def LPW_P_CFG_SH_EN (i : Nat) : Fld := ⟨LPW_P_CFG_SH i, 0, 1⟩
def LPW_P_CFG_SH_SOURCE (i : Nat) : Fld := ⟨LPW_P_CFG_SH i, 1, 1⟩
def LPW_P_CFG_SH_RETRY_MAX (i : Nat) : Fld := ⟨LPW_P_CFG_SH i, 8, 8⟩
def LPW_P_CFG_SH_DET_PERIOD (i : Nat) : Fld := ⟨LPW_P_CFG_SH i, 16, 8⟩
/-- LPW_P_WIN, R479. -/
def LPW_P_WIN (i : Nat) : Nat := 0x150104 + i * 0x40
def LPW_P_WIN_UV (i : Nat) : Fld := ⟨LPW_P_WIN i, 0, 10⟩
def LPW_P_WIN_OV (i : Nat) : Fld := ⟨LPW_P_WIN i, 16, 10⟩
def LPW_P_WIN_HYST (i : Nat) : Fld := ⟨LPW_P_WIN i, 28, 4⟩
/-- LPW_P_WIN_SH, R479. -/
def LPW_P_WIN_SH (i : Nat) : Nat := 0x150904 + i * 0x40
def LPW_P_WIN_SH_UV (i : Nat) : Fld := ⟨LPW_P_WIN_SH i, 0, 10⟩
def LPW_P_WIN_SH_OV (i : Nat) : Fld := ⟨LPW_P_WIN_SH i, 16, 10⟩
def LPW_P_WIN_SH_HYST (i : Nat) : Fld := ⟨LPW_P_WIN_SH i, 28, 4⟩
/-- LPW_P_LIM, R479. -/
def LPW_P_LIM (i : Nat) : Nat := 0x150108 + i * 0x40
def LPW_P_LIM_ILIM (i : Nat) : Fld := ⟨LPW_P_LIM i, 0, 7⟩
def LPW_P_LIM_SS_RATE (i : Nat) : Fld := ⟨LPW_P_LIM i, 8, 5⟩
def LPW_P_LIM_SS_TO (i : Nat) : Fld := ⟨LPW_P_LIM i, 16, 8⟩
/-- LPW_P_LIM_SH, R479. -/
def LPW_P_LIM_SH (i : Nat) : Nat := 0x150908 + i * 0x40
def LPW_P_LIM_SH_ILIM (i : Nat) : Fld := ⟨LPW_P_LIM_SH i, 0, 7⟩
def LPW_P_LIM_SH_SS_RATE (i : Nat) : Fld := ⟨LPW_P_LIM_SH i, 8, 5⟩
def LPW_P_LIM_SH_SS_TO (i : Nat) : Fld := ⟨LPW_P_LIM_SH i, 16, 8⟩
/-- LPW_P_TIM, R479. -/
def LPW_P_TIM (i : Nat) : Nat := 0x15010C + i * 0x40
def LPW_P_TIM_TFLT (i : Nat) : Fld := ⟨LPW_P_TIM i, 0, 6⟩
def LPW_P_TIM_INS_DLY (i : Nat) : Fld := ⟨LPW_P_TIM i, 8, 8⟩
/-- LPW_P_TIM_SH, R479. -/
def LPW_P_TIM_SH (i : Nat) : Nat := 0x15090C + i * 0x40
def LPW_P_TIM_SH_TFLT (i : Nat) : Fld := ⟨LPW_P_TIM_SH i, 0, 6⟩
def LPW_P_TIM_SH_INS_DLY (i : Nat) : Fld := ⟨LPW_P_TIM_SH i, 8, 8⟩
/-- LPW_P_CMD, R479. -/
def LPW_P_CMD (i : Nat) : Nat := 0x150110 + i * 0x40
def LPW_P_CMD_OFF (i : Nat) : Fld := ⟨LPW_P_CMD i, 0, 1⟩
def LPW_P_CMD_ON (i : Nat) : Fld := ⟨LPW_P_CMD i, 1, 1⟩
def LPW_P_CMD_CLEAR (i : Nat) : Fld := ⟨LPW_P_CMD i, 2, 1⟩
def LPW_P_CMD_DETECT (i : Nat) : Fld := ⟨LPW_P_CMD i, 3, 1⟩
/-- LPW_P_STAT, R479. -/
def LPW_P_STAT (i : Nat) : Nat := 0x150114 + i * 0x40
def LPW_P_STAT_STATE (i : Nat) : Fld := ⟨LPW_P_STAT i, 0, 3⟩
def LPW_P_STAT_ROLE (i : Nat) : Fld := ⟨LPW_P_STAT i, 3, 1⟩
def LPW_P_STAT_PG (i : Nat) : Fld := ⟨LPW_P_STAT i, 4, 1⟩
def LPW_P_STAT_FORCED (i : Nat) : Fld := ⟨LPW_P_STAT i, 5, 1⟩
def LPW_P_STAT_LIMIT (i : Nat) : Fld := ⟨LPW_P_STAT i, 6, 1⟩
def LPW_P_STAT_SIG (i : Nat) : Fld := ⟨LPW_P_STAT i, 7, 1⟩
def LPW_P_STAT_FAILS (i : Nat) : Fld := ⟨LPW_P_STAT i, 8, 8⟩
def LPW_P_STAT_CAUSE (i : Nat) : Fld := ⟨LPW_P_STAT i, 16, 4⟩
def LPW_P_STAT_DRES (i : Nat) : Fld := ⟨LPW_P_STAT i, 20, 4⟩
def LPW_P_STAT_OFF_LEFT (i : Nat) : Fld := ⟨LPW_P_STAT i, 24, 8⟩
/-- LPW_P_V, R479. -/
def LPW_P_V (i : Nat) : Nat := 0x150118 + i * 0x40
def LPW_P_V_MV (i : Nat) : Fld := ⟨LPW_P_V i, 0, 17⟩
/-- LPW_P_I, R479. -/
def LPW_P_I (i : Nat) : Nat := 0x15011C + i * 0x40
def LPW_P_I_MA (i : Nat) : Fld := ⟨LPW_P_I i, 0, 16⟩
/-- LPW_P_P, R479. -/
def LPW_P_P (i : Nat) : Nat := 0x150120 + i * 0x40
def LPW_P_P_MW (i : Nat) : Fld := ⟨LPW_P_P i, 0, 32⟩
/-- LPW_P_DET, R479. -/
def LPW_P_DET (i : Nat) : Nat := 0x150124 + i * 0x40
def LPW_P_DET_OHMS (i : Nat) : Fld := ⟨LPW_P_DET i, 0, 20⟩
/-- LPW_CNT, R479. -/
def LPW_CNT (i : Nat) : Nat := 0x150200 + i * 8
/-- UPD_STAT, R495. -/
def UPD_STAT : Nat := 0x160000
def UPD_STAT_BUSY : Fld := ⟨UPD_STAT, 0, 1⟩
def UPD_STAT_ACTIVE : Fld := ⟨UPD_STAT, 1, 1⟩
def UPD_STAT_RECOVERY : Fld := ⟨UPD_STAT, 2, 1⟩
def UPD_STAT_TRIAL : Fld := ⟨UPD_STAT, 3, 1⟩
def UPD_STAT_FELL_BACK : Fld := ⟨UPD_STAT, 4, 1⟩
def UPD_STAT_ISL_OK : Fld := ⟨UPD_STAT, 5, 1⟩
def UPD_STAT_VERIFIED : Fld := ⟨UPD_STAT, 6, 1⟩
def UPD_STAT_REJ : Fld := ⟨UPD_STAT, 7, 1⟩
def UPD_STAT_ARMED : Fld := ⟨UPD_STAT, 8, 1⟩
/-- UPD_CMD, R495. -/
def UPD_CMD : Nat := 0x160004
def UPD_CMD_OP : Fld := ⟨UPD_CMD, 0, 4⟩
def UPD_CMD_SLOT : Fld := ⟨UPD_CMD, 4, 1⟩
def UPD_CMD_KSLOT : Fld := ⟨UPD_CMD, 8, 2⟩
/-- UPD_FADDR, R495. -/
def UPD_FADDR : Nat := 0x160008
def UPD_FADDR_ADDR : Fld := ⟨UPD_FADDR, 0, 24⟩
/-- UPD_RES, R495. -/
def UPD_RES : Nat := 0x16000C
def UPD_RES_CODE : Fld := ⟨UPD_RES, 0, 8⟩
def UPD_RES_OP : Fld := ⟨UPD_RES, 8, 4⟩
/-- UPD_TRIAL, R495. -/
def UPD_TRIAL : Nat := 0x160010
def UPD_TRIAL_WINDOW : Fld := ⟨UPD_TRIAL, 0, 12⟩
def UPD_TRIAL_LEFT : Fld := ⟨UPD_TRIAL, 12, 12⟩
/-- UPD_BOOT, R495. -/
def UPD_BOOT : Nat := 0x160014
def UPD_BOOT_STATE : Fld := ⟨UPD_BOOT, 0, 2⟩
def UPD_BOOT_SLOT : Fld := ⟨UPD_BOOT, 2, 1⟩
/-- UPD_ACT, R495. -/
def UPD_ACT : Nat := 0x160018
def UPD_ACT_GO : Fld := ⟨UPD_ACT, 0, 1⟩
/-- UPD_EVT, R495. -/
def UPD_EVT : Nat := 0x16001C
def UPD_EVT_DONE : Fld := ⟨UPD_EVT, 0, 1⟩
def UPD_EVT_REFUSED : Fld := ⟨UPD_EVT, 1, 1⟩
def UPD_EVT_CONFIRMED : Fld := ⟨UPD_EVT, 2, 1⟩
def UPD_EVT_FELL_BACK : Fld := ⟨UPD_EVT, 3, 1⟩
/-- UPD_EVT_EN, R495. -/
def UPD_EVT_EN : Nat := 0x160020
def UPD_EVT_EN_DONE : Fld := ⟨UPD_EVT_EN, 0, 1⟩
def UPD_EVT_EN_REFUSED : Fld := ⟨UPD_EVT_EN, 1, 1⟩
def UPD_EVT_EN_CONFIRMED : Fld := ⟨UPD_EVT_EN, 2, 1⟩
def UPD_EVT_EN_FELL_BACK : Fld := ⟨UPD_EVT_EN, 3, 1⟩
/-- UPD_OTP_STAT, R495. -/
def UPD_OTP_STAT : Nat := 0x160024
def UPD_OTP_STAT_KEY (m : Nat) : Fld := ⟨UPD_OTP_STAT, m * 2, 2⟩
/-- UPD_OTP_KEY, R495. -/
def UPD_OTP_KEY : Nat := 0x160028
def UPD_OTP_KEY_KEY : Fld := ⟨UPD_OTP_KEY, 0, 32⟩
/-- UPD_MLEN, R495. -/
def UPD_MLEN : Nat := 0x16002C
def UPD_MLEN_BYTES : Fld := ⟨UPD_MLEN, 0, 21⟩
/-- UPD_MSRC, R495. -/
def UPD_MSRC : Nat := 0x160030
def UPD_MSRC_ADDR : Fld := ⟨UPD_MSRC, 0, 32⟩
/-- UPD_ACT_SH, R495. -/
def UPD_ACT_SH : Nat := 0x160034
def UPD_ACT_SH_GO : Fld := ⟨UPD_ACT_SH, 0, 1⟩
/-- UPD_HASH, R495. -/
def UPD_HASH (i : Nat) : Nat := 0x160040 + i * 4
def UPD_HASH_HASH (i : Nat) : Fld := ⟨UPD_HASH i, 0, 32⟩
/-- UPD_TAG, R495. -/
def UPD_TAG (i : Nat) : Nat := 0x160060 + i * 4
def UPD_TAG_TAG (i : Nat) : Fld := ⟨UPD_TAG i, 0, 32⟩
/-- UPD_UID, R495. -/
def UPD_UID (i : Nat) : Nat := 0x160080 + i * 4
def UPD_UID_UID (i : Nat) : Fld := ⟨UPD_UID i, 0, 32⟩
/-- UPD_KHASH, R495. -/
def UPD_KHASH (i : Nat) (j : Nat) : Nat := 0x160100 + i * 0x20 + j * 4
def UPD_KHASH_HASH (i : Nat) (j : Nat) : Fld := ⟨UPD_KHASH i j, 0, 32⟩
/-- UPD_BUF, R495. -/
def UPD_BUF (i : Nat) : Nat := 0x161000 + i * 4
def UPD_BUF_DATA (i : Nat) : Fld := ⟨UPD_BUF i, 0, 32⟩
/-- TST_PCTL, R506. -/
def TST_PCTL : Nat := 0x170000
def TST_PCTL_STEPS : Fld := ⟨TST_PCTL, 0, 6⟩
def TST_PCTL_PRBS_T : Fld := ⟨TST_PCTL, 8, 8⟩
def TST_PCTL_POLY : Fld := ⟨TST_PCTL, 16, 3⟩
def TST_PCTL_MARGIN : Fld := ⟨TST_PCTL, 20, 4⟩
def TST_PCTL_WRAP_T : Fld := ⟨TST_PCTL, 24, 8⟩
/-- TST_PCTL2, R506. -/
def TST_PCTL2 : Nat := 0x170004
def TST_PCTL2_HDWELL : Fld := ⟨TST_PCTL2, 0, 8⟩
def TST_PCTL2_ERR_MAX : Fld := ⟨TST_PCTL2, 8, 8⟩
/-- TST_PSTAT, R506. -/
def TST_PSTAT : Nat := 0x170008
def TST_PSTAT_STATE : Fld := ⟨TST_PSTAT, 0, 2⟩
def TST_PSTAT_STEP : Fld := ⟨TST_PSTAT, 2, 3⟩
/-- TST_PRES, R506. -/
def TST_PRES : Nat := 0x17000C
def TST_PRES_RES (m : Nat) : Fld := ⟨TST_PRES, m * 2, 2⟩
/-- TST_PLANE, R506. -/
def TST_PLANE : Nat := 0x170010
def TST_PLANE_RES (m : Nat) : Fld := ⟨TST_PLANE, m * 2, 2⟩
/-- TST_PWRAP, R506. -/
def TST_PWRAP : Nat := 0x170014
def TST_PWRAP_CW : Fld := ⟨TST_PWRAP, 0, 16⟩
def TST_PWRAP_CCW : Fld := ⟨TST_PWRAP, 16, 16⟩
/-- TST_PTWIN, R506. -/
def TST_PTWIN : Nat := 0x170018
def TST_PTWIN_OUT : Fld := ⟨TST_PTWIN, 0, 16⟩
def TST_PTWIN_BACK : Fld := ⟨TST_PTWIN, 16, 16⟩
/-- TST_PFAIL, R506. -/
def TST_PFAIL : Nat := 0x17001C
def TST_PFAIL_LINE : Fld := ⟨TST_PFAIL, 0, 8⟩
def TST_PFAIL_SCI : Fld := ⟨TST_PFAIL, 8, 8⟩
/-- TST_PT0, R506. -/
def TST_PT0 : Nat := 0x170020
/-- TST_EVT, R506. -/
def TST_EVT : Nat := 0x170028
def TST_EVT_DONE : Fld := ⟨TST_EVT, 0, 1⟩
def TST_EVT_FAIL : Fld := ⟨TST_EVT, 1, 1⟩
def TST_EVT_ABORT : Fld := ⟨TST_EVT, 2, 1⟩
/-- TST_EVT_EN, R506. -/
def TST_EVT_EN : Nat := 0x17002C
def TST_EVT_EN_DONE : Fld := ⟨TST_EVT_EN, 0, 1⟩
def TST_EVT_EN_FAIL : Fld := ⟨TST_EVT_EN, 1, 1⟩
def TST_EVT_EN_ABORT : Fld := ⟨TST_EVT_EN, 2, 1⟩
/-- TST_IDCODE, R506. -/
def TST_IDCODE : Nat := 0x170030
def TST_IDCODE_ID : Fld := ⟨TST_IDCODE, 0, 32⟩
/-- TST_FTCTL, R506. -/
def TST_FTCTL : Nat := 0x170034
def TST_FTCTL_LOOP : Fld := ⟨TST_FTCTL, 0, 4⟩
def TST_FTCTL_MBIST : Fld := ⟨TST_FTCTL, 8, 1⟩
def TST_FTCTL_MBIST_DONE : Fld := ⟨TST_FTCTL, 9, 1⟩
def TST_FTCTL_MBIST_FAIL : Fld := ⟨TST_FTCTL, 10, 1⟩

end Sys2Proof.Machine
end

