-- ==== Sys2Proof/Machine/State.lean ====
section
/-! DEFINITION. The state of the hub as plain data, and the state after power-on reset. -/
namespace Sys2Proof.Machine

/-- A message to the fault collector (R438); `inj` marks an injected one (R450), and `cyc` is the time of its FCLK cycle, by
which the messages of one cycle are known (R441). -/
structure FaultMsg where
  src  : Nat
  kind : Nat
  sev  : Nat
  addr : Nat
  inj  : Bool
  cyc  : Nat
deriving DecidableEq, Repr

/-- The response a requester received: its status under R411 and the data of a read. -/
structure Resp where
  req    : Nat
  status : Nat
  data   : Nat
deriving DecidableEq, Repr

/-- No command of this block stops the machine with a fault: errors are responses and fault messages. The type has no
constructor, so no meaning can answer one (safe). -/
inductive Fault where
deriving DecidableEq, Repr

/-- Why a command was refused. -/
inductive Refusal where
  /-- Raised by an arm of `exec` that has no meaning yet (safe). -/
  | notModelled (mnemonic : String)
deriving DecidableEq, Repr

/-- The error a store word carries: uncorrectable or not, its pattern, and whether a corrected write-back is due (R43). -/
structure Mark where
  uncorr  : Bool
  pattern : Nat
  wb      : Bool
deriving DecidableEq, Repr

/-- A burst write in progress in a bank (R50, R51): its requester, its start, the next store offset and the beats left. -/
structure Burst where
  req   : Nat
  start : Nat
  next  : Nat
  left  : Nat
deriving DecidableEq, Repr

/-- What a fabric request is for: a core or CFG and RPE, the fence of a requester (R415), a part of the result of a host tag
from a byte on (R420), a host-lane record with its HTAG (R422), a DMA read for a destination address (R54). -/
inductive Use where
  | direct
  | fence (r : Nat)
  | tag (t at_ : Nat)
  | lane (htag : Nat)
  | dma (ch dst : Nat)
deriving DecidableEq, Repr

/-- A non-posted request: what for, REQ code, operation, SIZE, BEATS, fabric address as issued, data (R410). -/
structure FReq where
  use   : Use
  req   : Nat
  op    : Nat
  size  : Nat
  beats : Nat
  addr  : Nat
  data  : List DWord
deriving DecidableEq, Repr

/-- One bank's arbiter: the parked owner (R48), the last requester served at each priority (R49), the burst in progress, and
MSA_ARBCTL as it stood when the contention episode of the bank began (R57). -/
structure BankSt where
  owner  : Nat
  lastHi : Nat
  lastNo : Nat
  burst  : Option Burst
  ctl    : Option Word
deriving DecidableEq, Repr

/-- Where an access of the store comes from: a command of its requester, a fabric request of this hub to itself with its TAG,
a request frame that has left LOC, or a mover that asks for its bank and acts by its own command. -/
inductive AccSrc where
  | cmd
  | own (tag : Nat) (q : FReq)
  | net (f : Frame)
  | ask
deriving DecidableEq, Repr

/-- An access that waits for its bank: requester, store offset, form, source. -/
structure Acc where
  req  : Nat
  off  : Nat
  form : AccForm
  src  : AccSrc := .cmd
deriving DecidableEq, Repr

/-- The main store beside its bytes: error marks by word, the arbiters, the waiting accesses in order of arrival, the
promoted (bank, requester) pairs in order of promotion, the banks being zeroed, the LR granule of each core, the scrubber's
next block, when its pass began and whether the pass has been reported late (R37 to R53); the accesses that have been served
after a wait and whose source has yet to hear of it, each with its status and its data. -/
structure StoreSt where
  marks   : Tab (Option Mark)
  banks   : Tab BankSt
  wait    : List Acc
  promo   : List (Nat × Nat)
  zeroing : Nat
  lr      : Tab (Option Nat)
  scrub   : Nat
  scrubT  : Nat
  late    : Bool
  served  : List (AccSrc × Nat × Nat)
deriving DecidableEq, Repr

/-- An arbiter that has served nobody. DESIGN CHOICE, log entry 6. -/
def BankSt.init : BankSt := ⟨0, 0, 0, none, none⟩

/-- A frame in the cell buffer (R205, R222): its generation, the port it entered by, whether its cells came from the
class 7 spare (R224), whether LOC originated it here, when its SOF reached the lane balls, or LOC queued it, in units of
1/1,024 ns of ring time (R268), and the cells of the frame-buffer partition it stands in, which all its copies share (R34,
R225). -/
structure QFrame where
  f      : Frame
  gen    : Nat
  inPort : Nat
  spare  : Bool
  own    : Bool
  rxT    : Int
  cells  : List Nat
deriving DecidableEq, Repr

/-- Why a decided frame is held: a drain of pinned queue `q` leaving direction `frm` (R216), or the unwrap hold of a
direction (R246). -/
inductive HoldWhy where
  | drain (q frm : Nat)
  | unwrap (dir : Nat)
deriving DecidableEq, Repr

/-- A held frame: the port and queue it counts against and will enter. -/
structure Held where
  why  : HoldWhy
  port : Nat
  qi   : Nat
  qf   : QFrame
deriving DecidableEq, Repr

/-- An open drain (R216): pinned queue, direction left, marker ID, and for each changed node-table entry its index with the
direction it took before the change for bucket bit 0 and 1 (2 for none); and the pin table before the change, bit b for bucket
b. -/
structure Drain where
  q       : Nat
  frm     : Nat
  id      : Nat
  entries : List (Nat × Nat × Nat)
  pins    : Nat
deriving DecidableEq, Repr

/-- An originated frame that waits at LOC (R208, R236): what it says, its producer, and whether THROTTLE has counted it.
Producers: 0 to 4 the requesters of R410, 5 RPE and CFG, 6 RED, 7 TIME, 8 responses, 16 + q stream queue q. -/
structure LocWait where
  spec : FrameSpec
  prod : Nat
  thr  : Bool
deriving DecidableEq, Repr

/-- An open schedule window of a ring lane (R198): slot, ring time of its start, length in ticks. -/
structure Win where
  slot  : Nat
  start : Nat
  len   : Nat
deriving DecidableEq, Repr

/-- The switch core beside its registers: the egress queues keyed 16 * port + queue (R204), held frames, drains, marker
numbers, LOC's waiting frames, SEQ per class (R174), BULK units counted per lane (R177, in 1/400 B), open windows, the last
frame each lane sent and its trailer, the generation a fence waits for (R223), and the bank of the frame buffer that takes the
next cell (R34). -/
structure FwdSt where
  queues   : Tab (List QFrame)
  held     : List Held
  drains   : List Drain
  markId   : Nat
  lastMark : Tab Nat
  locWait  : List LocWait
  seq      : Tab Nat
  bulk     : Tab Nat
  win      : Tab (Option Win)
  sent     : Tab (Option (Frame × Nat))
  fenceGen : Nat
  stripe   : Nat
deriving DecidableEq, Repr

/-- A discard record (R234): TOP, the map as a number whose bit i is SEQ TOP - i, T_TOP. -/
structure Disc where
  top  : Nat
  map  : Nat
  tTop : Nat
deriving DecidableEq, Repr

/-- RED beside its registers: discard records keyed by source node, chip and class (R234); frames with DUP 1 originated in
this cycle per class (R236); the BREAK record of each direction, sender and HOPS (R244); the sender's EPOCH (R243);
directions that have been UP since RED's reset (R238); directions whose unwrap hold runs (R246); directions whose wrap is
not complete; loss causes a direction's lane has shown and RED has yet to declare (R239); open gap windows (bit 0 CW loss,
1 CCW loss, 2 BREAK) and the level each PIO pin held when they opened (R245); the twin counters (R255); the overlap runs;
the revert request runs (R257); the last yield was that of R80; an applied TWIN section is active (R251); the microseconds
of the last pulse sent on TWIN_BEAT (R250); when the revert hold-off began (R257). -/
structure RedSt where
  disc      : Tab (Option Disc)
  dupCnt    : Tab Nat
  brk       : Tab (Option (Nat × Nat))
  epoch     : Nat
  everUp    : Nat
  unwrap    : Nat
  wrapping  : Nat
  due       : Tab (Option Nat)
  gaps      : Nat
  gapPins   : Tab (Option Bool)
  twinSeq   : Tab Nat
  twinN     : Tab Nat
  overlap   : Bool
  revertReq : Bool
  r80       : Bool
  twinOn    : Bool
  beat      : Nat
  holdT0    : Nat
deriving DecidableEq, Repr

/-- A gouge engine beside its registers: the fetched instruction and whether it was injected; the instruction kept by a
stop in a stall (R303); the injection that waits (R338); whether it has executed in this cycle; a stop request that waits
for the boundary; whether the halt came from an illegal instruction (R330); the state before a STEP; the FIFOs, oldest
first; the slot levels and output enables (R289); the clock accumulator and whether this cycle is a tick (R292). -/
structure Eng where
  fetched : Option Word
  inj     : Bool
  kept    : Option (Word × Bool)
  pend    : Option Word
  ran     : Bool
  stopReq : Bool
  ill     : Bool
  former  : Nat
  tx      : List Word
  rx      : List Word
  lvl     : Nat
  oe      : Nat
  acc     : Nat
  tick    : Bool
deriving DecidableEq, Repr

/-- An engine that has done nothing. -/
def Eng.init : Eng := ⟨none, false, none, none, false, false, false, 0, [], [], 0, 0, 0, false⟩

/-- The engine block beside its registers: the engines; the event flags at the beginning of this cycle and what has acted
on them in it (R322); the media clocks that tick in this cycle; the armed group commands (R334); the engines a group
command has reached in this cycle (R335); the groups a local action has commanded in this cycle (R369); the engines an entry to WATCH has stopped (R74); the step of the last edge of each fine-edge pin (R318); whether the claimed pins
hold the states of R99 until the next apply (R358). -/
structure GgSt where
  eng     : Tab Eng
  efBase  : Nat
  efSet   : Nat
  efClr   : Nat
  efTgl   : Nat
  mcgTick : Nat
  arm     : Tab (Option Nat)
  grpHit  : Nat
  actHit  : Nat
  watch   : Nat
  fine    : Tab Nat
  padsR99 : Bool
deriving DecidableEq, Repr

/-- An item of a stream queue: its slot, and the node, chip and queue to which its acknowledgement goes (R352). -/
structure SqItem where
  slot : Nat
  ack  : Option (Nat × Nat × Nat)
deriving DecidableEq, Repr

/-- An item whose closing waits for its bank: its words to be written, or none where software has written them; NW, TSTAMP and
the acknowledgement it owes. -/
structure SqClose where
  ws    : List Word
  nw    : Nat
  stamp : Nat
  ack   : Option (Nat × Nat × Nat)
deriving DecidableEq, Repr

/-- A stream queue beside its registers (R342 to R352): the committed items not begun, oldest first; the begun item and its
words; the slot after the last one closed; the words of the item an engine is filling and when its first word came; words
of the begun item already moved; items without acknowledgement; whether the level has been signalled (R350); the closings that
wait for their bank, oldest first. -/
structure Sq where
  items : List SqItem
  begun : Option SqItem
  nw    : Nat
  next  : Nat
  part  : List Word
  partT : Nat
  moved : Nat
  unack : Nat
  lvlUp : Bool
  closes : List SqClose
deriving DecidableEq, Repr

/-- An empty queue. -/
def Sq.init : Sq := ⟨[], none, 0, 0, [], 0, 0, 0, false, []⟩

/-- A deadline miss that waits for the log (R285). -/
structure Miss where
  kind  : Nat
  src   : Nat
  index : Nat
  late  : Nat
  t     : Nat
  step  : Bool
deriving DecidableEq, Repr

/-- TIME beside its registers: the written step that waits, as a value and an amount to add (R277); a step the servo or
PPS_IN is due; the high words latched by requester (R264); the deadline misses that wait (R285) and the cycles the last
forward step skipped; consecutive Syncs within 100 ns and above the threshold (R274); the HOPS of the last counting Syncs
by port; the ports that have had a counting Sync within LOSS_N intervals (R273); the last valid link delays by port, the
consecutive valid exchanges and the exchange under way as (sequenceId, t1) (R269); the next sequence number of the hub's
own messages; the generators' start times (R282) and pin levels; a PPS_IN edge has been followed (R280); no window opens
until the next boundary (R277); the level of PPS_OUT; a counter of the free values the servo has taken (log entry 3); the
value the last step gave, while the spindle holds it (R277); the last boundary whose actions have been taken (R196). -/
structure TimeSt where
  setTo   : Option Nat
  addBy   : Option Int
  due     : Option Int
  latch   : Tab (Option Word)
  dlQ     : List Miss
  skipLo  : Nat
  skipHi  : Nat
  near    : Nat
  far     : Nat
  hops    : Tab (List Nat)
  fresh   : Nat
  delays  : Tab (List Nat)
  pdOk    : Tab Nat
  pdOpen  : Tab (Option (Nat × Nat))
  ptpSeq  : Tab Nat
  mcgT    : Tab Nat
  mcgLvl  : Nat
  ppsSeen : Bool
  noWin   : Bool
  ppsOut  : Bool
  draws   : Nat
  stepAt  : Option Nat
  cycAt   : Option Nat
deriving DecidableEq, Repr

/-- The pilot generator of a loudspeaker channel (R374, R375): running or idle; phase in 1/14,112,000 of a turn; the
amplitude at the start of the ramp as a fraction; the amplitude the ramp leads to; samples of the ramp taken. -/
structure Pilot where
  on    : Bool
  phase : Nat
  num   : Nat
  den   : Nat
  goal  : Nat
  n     : Nat
deriving DecidableEq, Repr

/-- A loudspeaker channel beside its registers: the pilot; what happened in the present window (samples taken, a ramp, the
engine not running, the anchor not held, a spindle step, a window that began before the link was restored); the windows and
the sum of a running capture (R382); the point, the phase and the frequency of a running sweep (R383). -/
structure LsCh where
  pilot  : Pilot
  taken  : Nat
  ramp   : Bool
  idle   : Bool
  noHold : Bool
  step   : Bool
  stale  : Bool
  capt   : Option (Nat × Int × Int)
  sweep  : Option (Nat × Nat)
deriving DecidableEq, Repr

/-- A channel at rest. -/
def LsCh.init : LsCh := ⟨⟨false, 0, 0, 1, 0, 0⟩, 0, false, false, false, false, false, none, none⟩

/-- LSV beside its registers: the channels, the actions held in WATCH (R370), the posted message numbers (R372) and the
entry actions of the record's ISLAND section (R371), each an operation with its argument. -/
structure LsvSt where
  ch     : Tab LsCh
  actQ   : List (Nat × Nat)
  playQ  : List (Nat × Bool)
  entry  : List (Nat × Nat)
deriving DecidableEq, Repr

/-- A pattern checker: the last bits, the newest in bit 0; the run of error-free ones; the bits taken in; while it is locked,
which of the last 1,024 checked bits were errored (R160). -/
structure ChkSt where
  sh   : Nat
  run  : Nat
  bits : Nat
  errs : Nat
deriving DecidableEq, Repr

/-- A lane beside its registers (R146 to R161): its training is that of a rate step; a RATE_ACK has been sent, and received,
in this STEP; a good HELLO has come since DETECT; the next SEQ; consecutive valid sync headers since the last slip; a raw
pattern keeps it out of training; when the step condition first held; the last training message sent; the cause that
the received RF blocks carry (R150); the last 58 bits sent and received, for the scrambler (R140); the last blocks sent; the frame
in progress at the receiver as the class of its SOF and its words, and the parts of a training message (R142, R152); the blocks
since the last RF; the cause that the lane sends in RF blocks (R149); the equaliser values that are held, bit 0 CTLE, bit 1 DFE
(R144); the pattern generator's last bits, once it has begun, and the checker (R160). -/
structure LaneSt where
  stepped : Bool
  ackTx   : Bool
  ackRx   : Bool
  seen    : Bool
  seq     : Nat
  good    : Nat
  raw     : Bool
  condT   : Option Nat
  sent    : List Byte
  rfCause : Nat
  scr     : Nat
  descr   : Nat
  txb     : List Block
  rxf     : Option (Nat × List DWord)
  parts   : List Nat
  rfGap   : Nat
  rfTx    : Option Nat
  hold    : Nat
  gen     : Option Nat
  chk     : ChkSt
deriving DecidableEq, Repr

/-- A lane that has done nothing. -/
def LaneSt.init : LaneSt :=
  ⟨false, false, false, false, 0, 0, false, none, [], 0, 0, 0, [], none, [], 0, none, 0, none, ⟨0, 0, 0, 0⟩⟩

/-- The ring protocol engine beside its registers (R183 to R192): an ASSIGN has been taken; the floor in effect; the head-end's
round; a round of the head-end is open, and the directions whose list it has stored; when the last NOTE that a BEACON caused
was sent; when the last BEACON came by each ring lane. -/
structure RpeSt where
  assigned : Bool
  floor    : Nat
  round    : Nat
  cenOpen  : Bool
  cenGot   : Nat
  noteT    : Option Nat
  bcnT     : Tab (Option Nat)
deriving DecidableEq, Repr

/-- A transmission of a message bus port under way (R398 to R400): the object, the spindle at its SOF, the object's words as
read, the ESI it carries, an abort asked for meanwhile, its request dropped by an apply or a reset. -/
structure MbTx where
  obj     : Nat
  sof     : Nat
  body    : List DWord
  esi     : Bool
  aborted : Bool
  dropped : Bool
deriving DecidableEq, Repr

/-- An object that MB has yet to write, because its bank is shut: the object, the header of a received frame, none for the time
stamp of one sent, and the words that follow the header (R395, R399). -/
structure MbJob where
  obj : Nat
  hdr : Option Nat
  ws  : List Nat
deriving DecidableEq, Repr

/-- A message bus port beside its registers: the transmission under way; the whole of REC (R401); bus-off recovery runs
(R403); the port passes through OFF at the end of the frame in progress (R391, R406); a counter of the free values REC has
taken; the objects whose writing waits for their bank, oldest first. -/
structure MbSt where
  sending : Option MbTx
  rxErr   : Nat
  recover : Bool
  leave   : Bool
  draws   : Nat
  todo    : List MbJob
deriving DecidableEq, Repr

/-- A port at rest. -/
def MbSt.init : MbSt := ⟨none, 0, false, false, 0, []⟩

/-- A request that waits for its response: its TAG, the request and when it was issued (R183). -/
structure Outst where
  tag : Nat
  q   : FReq
  t   : Nat
deriving DecidableEq, Repr

/-- The requester side of the fabric: outstanding requests, those that wait for a credit (R182), requests for this hub itself
that wait for their bank, each with its TAG (R48), timed-out TAGs with the time until which they rest (R183), the next number
of each requester, the destination sets (R413), and the failures that belong to the next fence, as count, first status and
first address (R416). -/
structure FabSt where
  out  : List Outst
  wait : List FReq
  here : List (Nat × FReq)
  rest : List (Nat × Nat)
  num  : Tab Nat
  dest : Tab (List Nat)
  next : Tab (Nat × Nat × Nat)
deriving DecidableEq, Repr

/-- A host tag in use: N, the parts still due, the first error status and the bytes that have come (R420). -/
structure HTag where
  n      : Nat
  due    : Nat
  status : Nat
  data   : Tab (Option Byte)
deriving DecidableEq, Repr

/-- A frame sent on the host lane (R421): its destination and source addresses and its payload. -/
structure HostTx where
  dst     : Nat
  src     : Nat
  payload : List DWord
deriving DecidableEq, Repr

/-- The host's side of HBR: the tags; the bytes the last QSPI command returned; response records that wait for a host-lane
frame (R422); the lane's SEQ; the last frame sent to the host; HTAGs whose record has asked for the fence; HOST_INT_N was
asserted when last sampled (R423); HBR's balls hold the states of R99 until the next apply (R100). -/
structure HbrSt where
  tags    : Tab (Option HTag)
  qspi    : List Byte
  rsp     : List (List DWord)
  seq     : Nat
  sent    : Option HostTx
  fences  : List Nat
  intWas  : Bool
  r99     : Bool
deriving DecidableEq, Repr

/-- A DMA channel at work beside its registers: bytes issued, an abort, the first ERR_KIND, its fence issued (R54, R55). -/
structure DmaSt where
  pos   : Nat
  abort : Bool
  err   : Nat
  fence : Bool
deriving DecidableEq, Repr

/-- A channel at rest. -/
def DmaSt.init : DmaSt := ⟨0, false, 0, false⟩

/-- A line-power port beside its registers: the class of its side, 0 IN, 1 DEAD, 2 BETWEEN (R458); the side is below 12 V
(R460); a detection is due (R462); the off time left in us (R465). -/
structure LpPort where
  cls : Nat
  low : Bool
  due : Bool
  off : Nat
deriving DecidableEq, Repr

/-- A port whose side is dead. -/
def LpPort.init : LpPort := ⟨1, true, false, 0⟩

/-- Line power beside its registers: the ports; energy below 1 mJ by counter, in uJ (R473); faults that wait for the link
(R456); the values of the last apply, in the order of their registers, and whether the P-die has yet to take them (R455);
the always-on supply runs (R477). -/
structure LpwSt where
  port : Tab LpPort
  acc  : Tab Nat
  q    : List FaultMsg
  sent : List Word
  take : Bool
  aon  : Bool
deriving DecidableEq, Repr

/-- A UPD command under way: its operation, its refusal code, the flash address a failure reports, the flash bytes it
writes (R487 to R489), and when it was accepted. -/
structure UpdRun where
  op   : Nat
  code : Nat
  addr : Nat
  area : List Nat
  at_  : Nat
deriving DecidableEq, Repr

/-- Firmware update beside its registers: the flash, 0xFF where nothing is listed; the command under way; the slots verified
(R489); the unlock word has just been written (R486); the trial timer runs, and when it started (R492); the activation that
waits for MAINTAIN (R491); a counter of the free values flash bytes have taken. -/
structure UpdSt where
  flash : List Host.Cell
  run   : Option UpdRun
  ver   : Nat
  key   : Bool
  trial : Option Nat
  act   : Bool
  draws : Nat
deriving DecidableEq, Repr

/-- Test beside its registers (R496 to R505): the phase of the running proof step; the lanes under test with the errored bits
and the lock losses counted before; the direction whose lane sends RF with cause TEST; the directions RED has declared lost
since the step began; the channels being swept; when the proof yielded, when ANCHOR_IN last rose, when the first request
pulse of the return went out, when the hub last took the anchor; the causes of R76 that have come in this run, bit 0 a ring loss
that it did not force, 1 the loss of the partner's beat, 2 a line-power fault; the store test runs; the JTAG instruction, 0 BYPASS,
1 IDCODE, 2 SAMPLE/PRELOAD, 3 EXTEST, 4 HIGHZ, 5 CLAMP, 6 private, and its private code; the boundary cells, each a level and
an enable; the word TDO gives. -/
structure TstSt where
  phase  : Nat
  lanes  : Nat
  errs0  : Tab Nat
  loss0  : Tab Nat
  force  : Option Nat
  lost   : Nat
  swept  : Nat
  yieldT : Nat
  riseT  : Nat
  pulseT : Option Nat
  holdT  : Nat
  abort  : Nat
  mbist  : Bool
  ir     : Nat
  priv   : Nat
  cells  : Tab (Bool × Bool)
  tdo    : Word
deriving DecidableEq, Repr

/-- A UNIT reset under way (R87 to R89): its phase, 1 idle request, 2 assertion, 3 waiting for the clock, 4 the clock never
came; its cause, its MULTI, the repeats absorbed before its log entry is written, that entry, and the slow-clock cycle of the
cause (R86). -/
structure UnitSt where
  phase : Nat
  cause : Nat
  multi : Bool
  count : Nat
  entry : Nat
  cyc   : Nat
deriving DecidableEq, Repr

/-- A register access: requester, whether it is a write, bytes, offset, data (R5). -/
structure RegAcc where
  who   : Who
  write : Bool
  size  : Nat
  off   : Nat
  data  : Nat
deriving DecidableEq, Repr

/-- Bivouac memory (R104, R105): its bytes, 0 where nothing is listed; the error marks by word; the accesses that wait for
the zeroing. -/
structure BivSt where
  mem   : List Host.Cell
  marks : Tab (Option Mark)
  wait  : List RegAcc
deriving DecidableEq, Repr

/-- The commit machine beside its registers (R120 to R131): the loader has yet to run; while CHECKING, what asked for it, 0
CHECK, 1 APPLY_NOW, 2 APPLY_AT, 3 PREPARE; the way the apply instant was set, 0 none, 1 APPLY_NOW, 2 APPLY_AT, 3 GO, and the
ring time it waits for; MISSED has been sent for the present GUARD; the node and the chip of the last PREPARE's sender; the
instant that an APPLY_AT in OPEN recorded (R123); when the check of the last PREPARE ended (R126); when the last ring-wide
commit applied (R128). -/
structure CfgSt where
  loading : Bool
  asked   : Nat
  way     : Nat
  at_     : Nat
  missed  : Bool
  head    : Nat × Nat
  inst    : Nat
  endT    : Nat
  doneT   : Nat
deriving DecidableEq, Repr

/-- CFG after a reset: the loader has yet to run. -/
def CfgSt.init : CfgSt := ⟨true, 0, 0, 0, false, (0, 0), 0, 0, 0⟩

/-- Modes and resets beside their registers: the time since the AON domain came up, in periods of ECLK; a record has been
applied since the last reset of the D-die; the cores have left reset since then; the output enables the pad-hold latches
captured (R101); the UNIT resets under way; REFCLK is present (R17); RC100 runs (R18); what each watchdog has counted since
its last reload, in periods of ECLK (R91); the times and the nodes of good AUTH writes (R93); the retrain window of a WATCH
commit is open (R65); a DORMANT commit's time has come and DORMANT is not entered yet (R66); the mode request that waits,
its target and the ring time it waits for (R62); a request to RUN waits for R79; since when a transition holds an ISLAND
entry, and the wakes and the master's mode change it holds (R63); when the last wake came; whether a DORMANT wake settles in RUN, while its
boot runs (R71); the handover of R80 runs; when the first key of R81 came; the lanes whose wake is armed (R68); the lanes
that send the wake pattern (R73); the mode change that S0 carried last (R67); when the wake timer was last written (R83);
the reset of the whole D-die under way, 2 assertion, 3 waiting for the clocks (R87, R97); the straps have yet to be sampled
(R96); the cores that a debugger holds, bit n for Mn, an input from outside (R92); the last POWER-ON or WARM reset as its
slow-clock cycle, cause, log entry and whether it ended DORMANT (R86); a stacked hub is in an ISLAND of its own (R67). -/
structure SysSt where
  t        : Nat
  recordOn : Bool
  cores    : Bool
  holdOe   : Nat
  units    : Tab (Option UnitSt)
  refclk   : Bool
  rc100    : Bool
  wdRun    : Tab Nat
  auth     : List (Nat × Nat)
  retrain  : Bool
  dormT    : Bool
  req      : Option (Nat × Nat)
  waitRun  : Bool
  heldIsl  : Option Nat
  heldWake : Nat
  wakeT    : Option Nat
  woke     : Option Bool
  hand     : Bool
  ftKey    : Option Nat
  laneArm  : Nat
  wakePat  : Nat
  stackTx  : Option Nat
  timerT   : Nat
  heldMode : Option Nat
  die      : Option Nat
  strapDue : Bool
  dbg      : Nat
  lastRst  : Option (Nat × Nat × Nat × Bool)
  ownIsl   : Bool
deriving DecidableEq, Repr

/-- No mode business. -/
def SysSt.init : SysSt :=
  ⟨0, false, false, 0, [], true, false, [], [], false, false, none, false, none, 0, none, none, false, none, 0, 0, none, 0, none,
    none, false, 0, none, false⟩

/-- The state of the hub. -/
structure State where
  /-- Every register by chip-local offset; an unlisted one holds its reset value (R6). -/
  regs : Tab Word
  /-- The live values of the snapshot counters, by the offset of the register that shows the snapshot (R56). -/
  live : Tab Nat
  /-- The main store's bytes by store offset (R33); an unlisted byte reads 0 (R42). -/
  mem : List Host.Cell
  /-- The main store's error marks, arbiters and scrubber. -/
  store : StoreSt
  /-- The switch core. -/
  fwd : FwdSt
  /-- The lanes: 0 E, 1 W, 2 S0, 3 S1. -/
  lane : Tab LaneSt
  /-- The ring protocol engine. -/
  rpe : RpeSt
  /-- The redundancy block. -/
  red : RedSt
  /-- The gouge engines. -/
  gg : GgSt
  /-- The stream queues. -/
  sq : Tab Sq
  /-- Ring time. -/
  time : TimeSt
  /-- Line supervision. -/
  lsv : LsvSt
  /-- The message bus ports. -/
  mb : Tab MbSt
  /-- The requester side of the fabric. -/
  fab : FabSt
  /-- The host bridge's host side. -/
  hbr : HbrSt
  /-- The DMA channels. -/
  dma : Tab DmaSt
  /-- Line power. -/
  lpw : LpwSt
  /-- Firmware update. -/
  upd : UpdSt
  /-- Test. -/
  tst : TstSt
  /-- The commit machine. -/
  cfg : CfgSt
  /-- Bivouac memory. -/
  biv : BivSt
  /-- Modes and resets. -/
  sys : SysSt
  /-- The last response to a requester (R411). -/
  resp : Option Resp
  /-- The intake queue of the fault collector (R441), oldest first. -/
  fltQ : List FaultMsg
  /-- The words of a fault record latched for a requester, keyed 16 * requester + record (R448). -/
  recLatch : Tab (Option (List Word))
  /-- Per coalescing group: the spindle when HOLDING began (R435). -/
  grpT0 : Tab Nat
  /-- Per interrupt target: the sources that were pending and enabled when arrivals were last counted (R435). -/
  seenP : Tab Nat
  /-- The raw state of LPW_EVT held while the die-to-die link is lost (R427). -/
  lpwRawHeld : Bool
  /-- The die-to-die link is lost (R12). -/
  d2dLost : Bool
  /-- The waiting commands, first in, first out. -/
  pending : List Instr
deriving DecidableEq, Repr

/-- The hub at power-on. DESIGN CHOICE, log entry 4. -/
def State.reset : State where
  regs := [(0x20080, 0xFE01#32)]
  live := []
  mem := []
  store := ⟨[], [], [], [], 0, [], 0, 0, false, []⟩
  fwd := ⟨[], [], [], 0, [], [], [], [], [], [], 0, 0⟩
  lane := []
  rpe := ⟨false, 1, 0, false, 0, none, []⟩
  red := ⟨[], [], [], 0, 0, 0, 0, [], 0, [], [], [], false, false, false, false, 0, 0⟩
  gg := ⟨[], 0, 0, 0, 0, 0, [], 0, 0, 0, [], true⟩
  sq := []
  time := ⟨none, none, none, [], [], 0, 0, 0, 0, [], 0, [], [], [], [], [], 0, false, false, false, 0, none, none⟩
  lsv := ⟨[], [], [], []⟩
  mb := []
  fab := ⟨[], [], [], [], [], [], []⟩
  hbr := ⟨[], [], [], 0, none, [], false, false⟩
  dma := []
  lpw := ⟨[], [], [], [], false, true⟩
  upd := ⟨[], none, 0, false, none, false, 0⟩
  tst := ⟨0, 0, [], [], none, 0, 0, 0, 0, none, 0, 0, false, 0, 0, [], 0⟩
  cfg := CfgSt.init
  biv := ⟨[], [], []⟩
  sys := SysSt.init
  resp := none
  fltQ := []
  recLatch := []
  grpT0 := []
  seenP := []
  lpwRawHeld := false
  d2dLost := false
  pending := []

end Sys2Proof.Machine
end

