-- ==== Sys2Proof/Machine/Ops.lean ====
section
/-! DEFINITION. The named operations every block shares: reading and writing registers and fields, counters, fault
messages, interrupt events and responses. -/
namespace Sys2Proof.Machine

/-- What every meaning answers. -/
abbrev Out := Host.Outcome State Fault Refusal

/-! ### Registers -/

/-- The kinds of the implemented interrupt sources (R426): `some true` an edge source, `some false` a level source. -/
def intcKind (n : Nat) : Option Bool :=
  if n ≤ 8 then some true
  else if n = 9 then some false
  else if n ≤ 11 then some true
  else if n ≤ 13 then some false
  else if n ≤ 21 then some true
  else if n ≤ 45 then some false
  else if n ≤ 49 then some true
  else if n ≤ 52 then some false
  else none

/-- The reset value of INTC_ROUTE_s: KIND and IMPL of R426, the record's fields 0. -/
def routeReset (n : Nat) : Nat :=
  match intcKind n with
  | none => 0
  | some edge => 2 ^ 17 + b2n edge * 2 ^ 16

/-- The reset value of the register word at an offset: the Reset columns of the register tables.
DESIGN CHOICE, log entry 4. -/
def regReset (o : Nat) : Word :=
  match regFind o with
  | none => 0#32
  | some (r, b) =>
    if r.off = INTC_ROUTE 0 then BitVec.ofNat 32 (routeReset ((b - r.off) / 4))
    else BitVec.ofNat 32 (r.reset / 2 ^ (8 * (o - b)))

/-- The word at a register offset. -/
def State.rd (s : State) (o : Nat) : Word := Tab.get regReset s.regs o

/-- Writes the word at a register offset. -/
def State.wr (s : State) (o : Nat) (v : Word) : State := { s with regs := Tab.set regReset s.regs o v }

/-- Reads a field. -/
def State.get (s : State) (f : Fld) : Nat := wordField (s.rd f.off) f.lo f.w

/-- Writes a field and leaves the register's other bits. -/
def State.put (s : State) (f : Fld) (v : Nat) : State := s.wr f.off (wordSet (s.rd f.off) f.lo f.w v)

/-- Whether a field is not 0. -/
def State.on (s : State) (f : Fld) : Bool := s.get f != 0

/-- Reads a one-bit or wider field as a number array: bit `i` of the field. -/
def State.getBit (s : State) (f : Fld) (i : Nat) : Bool := (s.get f).testBit i

/-- Sets bit `i` of a field. -/
def State.setBit (s : State) (f : Fld) (i : Nat) : State := s.put f (s.get f ||| 2 ^ i)

/-- Clears bit `i` of a field. -/
def State.clrBit (s : State) (f : Fld) (i : Nat) : State :=
  s.put f (if (s.get f).testBit i then s.get f - 2 ^ i else s.get f)

/-- Adds to a field and stays at its largest value. -/
def State.satAdd (s : State) (f : Fld) (n : Nat) : State := s.put f (min (s.get f + n) (2 ^ f.w - 1))

/-- Adds to a field and wraps. -/
def State.wrapAdd (s : State) (f : Fld) (n : Nat) : State := s.put f (s.get f + n)

/-- A 64-bit register as a number (R4). -/
def State.rd64 (s : State) (o : Nat) : Nat := (s.rd o).toNat + 2 ^ 32 * (s.rd (o + 4)).toNat

/-- Writes a 64-bit register, both halves at once (R4). -/
def State.wr64 (s : State) (o : Nat) (v : Nat) : State :=
  (s.wr o (BitVec.ofNat 32 v)).wr (o + 4) (BitVec.ofNat 32 (v / 2 ^ 32))

/-- Returns a register to its reset value. -/
def State.clr (s : State) (o : Nat) : State := s.wr o (regReset o)

/-- Returns a 64-bit register to its reset value. -/
def State.clr64 (s : State) (o : Nat) : State := (s.clr o).clr (o + 4)

/-- Folds an update over a list. -/
def State.each {α : Type} (s : State) (l : List α) (f : State → α → State) : State := l.foldl f s

/-- Applies an update when a condition holds. -/
def State.when (s : State) (c : Bool) (f : State → State) : State := if c then f s else s

/-- Copies a register word to another. -/
def State.copy (s : State) (src dst : Nat) : State := s.wr dst (s.rd src)

/-! ### Counters (R56) -/

/-- The block number of an offset. -/
def blkOf (o : Nat) : Nat := o / 0x10000

/-- The SAT bit of the counter group that a snapshot counter register belongs to. -/
def satField (o : Nat) : Option Fld :=
  match blkOf o with
  | 0x05 => some FLT_STAT_SAT
  | 0x07 => some MSA_ECC_STAT_SAT
  | 0x08 => some (LANE_EVT_SAT 0)
  | 0x09 => some (LANE_EVT_SAT 1)
  | 0x0A => some (LANE_EVT_SAT 2)
  | 0x0B => some (LANE_EVT_SAT 3)
  | 0x0C => some RPE_EVT_SAT
  | 0x0D => some FWD_EVT_SAT
  | 0x0E => some RED_EVT_SAT
  | 0x0F => some TIME_EVT_SAT
  | 0x10 => some GG_GSTAT_SAT
  | 0x13 => some (MB_EVT_SAT (o % 0x10000 / 0x4000))
  | 0x14 => some HBR_EVT_SAT
  | 0x15 => some LPW_STAT_SAT
  | _ => none

/-- The live value of a counter. -/
def State.cnt (s : State) (o : Nat) : Nat := Tab.get (fun _ => 0) s.live o

/-- Sets the live value of a counter. -/
def State.setCnt (s : State) (o v : Nat) : State := { s with live := Tab.set (fun _ => 0) s.live o v }

/-- Adds to a live counter; a counter that reaches all ones of its 48 bits stays there and sets SAT (R56). -/
def State.count (s : State) (o n : Nat) : State :=
  let top := 2 ^ 48 - 1
  let v := s.cnt o
  let v' := min (v + n) top
  let s1 := s.setCnt o v'
  if v < top ∧ v' = top then
    match satField o with
    | some f =>
      let s2 := s1.put f 1
      if f = LPW_STAT_SAT then s2.put LPW_EVT_SAT 1 else s2
    | none => s1
  else s1

/-- Counts one. -/
def State.bump (s : State) (o : Nat) : State := s.count o 1

/-- The counters of each group, by group number: 0 MSA, 1 to 4 the lanes, 5 RPE, 6 FWD, 7 RED, 8 TIME, 9 GG, 10 MB,
11 HBR, 12 FLT, 13 LPW (R56 and the register section of each chapter). -/
def cntGroup (g : Nat) : List Nat :=
  match g with
  | 0 => MSA_ECC_CE :: MSA_ECC_UE :: (List.range 16).map MSA_BEATS
  | 1 | 2 | 3 | 4 =>
    [LANE_PAT_BITS (g - 1), LANE_PAT_ERRS (g - 1), LANE_HDR_ERRS (g - 1), LANE_BLK_ERRS (g - 1), LANE_DOWNS (g - 1)]
  | 5 => (List.range 8).map RPE_CNT
  | 6 => (List.range 5).flatMap fun p => (List.range 16).map fun k => FWD_CNT p k
  | 7 => (List.range 12).map RED_CNT
  | 8 => (List.range 10).map TIME_CNT
  | 9 => (List.range 16).flatMap fun n => (List.range 5).map fun k => GG_CNT n k
  | 10 => (List.range 4).flatMap fun n => (List.range 12).map fun k => MB_CNT n k
  | 11 => (List.range 10).map HBR_CNT
  | 12 => (List.range 7).map FLT_CNT
  | 13 => (List.range 4).map LPW_CNT
  | _ => []

/-- Takes the snapshot of a counter group, and clears its live counters when asked (R56). -/
def State.snap (s : State) (g : Nat) (clear : Bool) : State :=
  s.each (cntGroup g) fun s o =>
    let s1 := s.wr64 o (s.cnt o)
    if clear then s1.setCnt o 0 else s1

/-- Clears the live counters and the snapshots of a group. -/
def State.cntReset (s : State) (g : Nat) : State :=
  s.each (cntGroup g) fun s o => (s.clr64 o).setCnt o 0

/-! ### Units, addresses, faults and responses -/

/-- The present mode (R58): 0 DORMANT, 1 WATCH, 2 RUN, 3 PROOF, 4 ISLAND, 5 MAINTAIN. -/
def State.mode (s : State) : Nat := s.get MPC_MODE_CUR

/-- The D-die does not run: in DORMANT its supply and its clocks are off (R59), and a POWER-ON or WARM reset holds it until its
clocks run (R87, R97). DESIGN CHOICE, log entry 2. -/
def State.dark (s : State) : Bool := s.mode == 0 || s.sys.die.isSome

/-- Whether a unit lies on the D-die, outside the AON domain and the P-die (R14). -/
def onDie (u : Nat) : Bool := u != 0x01 && u != 0x02 && u != 0x15 && u != 0x18

/-- Whether a unit of R85 does not run: held in reset, as its bit of RSTC_INRST shows, or with the whole D-die. -/
def State.inReset (s : State) (u : Nat) : Bool :=
  (onDie u && s.dark) ||
    (if u = 0x40 then s.on RSTC_INRST_M0
    else if u = 0x41 then s.on RSTC_INRST_M1
    else s.getBit RSTC_INRST_BLK u)

/-- Whether a unit is asked to become idle and takes no new work (R88). -/
def State.idling (s : State) (u : Nat) : Bool :=
  match Tab.get (fun _ => none) s.sys.units u with
  | some x => x.phase == 1
  | none => false

/-- Whether a unit takes new work. -/
def State.open_ (s : State) (u : Nat) : Bool := !s.inReset u && !s.idling u

/-- Starts RC100, for a reset, a clock switch or a register access to RSTC or CKG (R18). -/
def State.rcUse (s : State) : State := { s with sys := { s.sys with rc100 := true } }

/-- This hub's node number: 0xFE until the census lists it (R440). -/
def State.node (s : State) : Nat := s.get RPE_NODE_NODE

/-- This hub's stack position. -/
def State.chip (s : State) : Nat := s.get ID_STRAP_STACK_ID

/-- A 48-bit fabric address from its parts. -/
def fabAddr (node chip off : Nat) : Nat := node % 256 * 2 ^ 40 + chip % 4 * 2 ^ 38 + off % 2 ^ 38

/-- The fault address of an access this hub served (R440). -/
def State.selfAddr (s : State) (off : Nat) : Nat := fabAddr s.node s.chip off

/-- The severity of a fault kind: the table of R440 (R439). -/
def kindSev (k : Nat) : Nat :=
  if k ∈ [0x06, 0x34] then 0
  else if k ∈ [0x01, 0x02, 0x03, 0x05, 0x08, 0x0A, 0x0B, 0x10, 0x24, 0x30, 0x33, 0x38, 0x39, 0x3A, 0x3C, 0x44, 0x46,
      0x51, 0x52, 0x57, 0x59, 0x63] then 1
  else if k ∈ [0x12, 0x15, 0x16, 0x21, 0x36, 0x41, 0x43, 0x50, 0x64, 0x65, 0x66, 0x71] then 3
  else 2

/-- A message's place in the intake queue: behind those of earlier cycles, and among those of its own cycle in order of SRC,
an injected one last (R441, R450). Messages of one tick of the P-die's clock are taken as sent in one FCLK cycle.
DESIGN CHOICE, log entry 44. -/
def fltInsert (m : FaultMsg) : List FaultMsg → List FaultMsg
  | [] => [m]
  | x :: r => if x.cyc = m.cyc ∧ !m.inj ∧ (x.inj ∨ m.src < x.src) then m :: x :: r else x :: fltInsert m r

/-- Puts a message into the intake queue of the fault collector; a full queue loses and counts the last one, and a collector in
reset loses it uncounted (R441, R442). What CKG reports while a reset holds the whole D-die waits there (R98).
DEDUCED, log entry 42. -/
def State.faultMsg (s : State) (m : FaultMsg) : State :=
  if s.mode = 0 ∨ s.getBit RSTC_INRST_BLK 0x05 then s
  else if s.fltQ.length < 32 then { s with fltQ := fltInsert m s.fltQ }
  else (({ s with fltQ := (fltInsert m s.fltQ).take 32 } : State).put FLT_STAT_MSG_LOST 1).bump (FLT_CNT 5)

/-- A block reports a fault of a kind, with the kind's own severity (R438, R439). -/
def State.fault (s : State) (src kind addr : Nat) : State :=
  s.faultMsg ⟨src, kind, kindSev kind, addr % 2 ^ 48, false, s.sys.t⟩

/-- The number under which a requester of registers receives its responses. -/
def whoKey (w : Who) : Nat := 16 + w.req.val + 8 * (w.chip.val + 4 * w.node.toNat)

/-- The requester of a REQ code at this hub. -/
def State.ownWho (s : State) (r : Nat) : Who := ⟨Fin.ofNat 8 r, BitVec.ofNat 8 s.node, Fin.ofNat 4 s.chip⟩

/-- Gives a requester its response. -/
def State.answer (s : State) (req status data : Nat) : State := { s with resp := some ⟨req, status, data⟩ }

/-- A command that is a write of a register: it acts unless the register's unit is held in reset, and is then reported as
UNIT_IN_RESET (R90). No requester runs while the D-die does not. DESIGN CHOICE, log entry 2. -/
def State.cmd (s : State) (off : Nat) (f : State → State) : State :=
  if s.dark then s
  else if s.inReset (blkOf off) then s.fault 0x02 0x05 (s.selfAddr off)
  else f s

/-- A command that is a read of a register by a requester: 0 with status IN_RESET while the register's unit is held in reset
(R90), otherwise the value read. No requester runs while the D-die does not. -/
def State.readCmd (s : State) (off req : Nat) (f : State → State × Nat) : State :=
  if s.dark then s
  else if s.inReset (blkOf off) then (s.fault 0x02 0x05 (s.selfAddr off)).answer req 0x08 0
  else (f s).1.answer req 0 (f s).2

/-- A command that is a write of a register with a response: an error response and no effect while the register's unit is held in
reset (R90), otherwise the status that the write gives. -/
def State.ackCmd (s : State) (off req : Nat) (f : State → State × Nat) : State :=
  if s.dark then s
  else if s.inReset (blkOf off) then (s.fault 0x02 0x05 (s.selfAddr off)).answer req 0x08 0
  else (f s).1.answer req (f s).2 0

/-- An event inside the D-die, which does not come while the die does not run (R59, R87). -/
def State.live_ (s : State) (f : State → State) : State := if s.dark then s else f s

/-- An event in a unit of the D-die, which does not come while the unit is held in reset (R87). -/
def State.inUnit (s : State) (u : Nat) (f : State → State) : State := if s.inReset u then s else f s

/-- Whether watchdog `n` counts: enabled, and its core neither in retention, halted by debug nor in reset, outside DORMANT (R91,
R92). -/
def State.wdCounts (s : State) (n : Nat) : Bool :=
  let awake := if n = 0 then s.on MPC_MODE_AWAKE_M0 else s.on MPC_MODE_AWAKE_M1
  s.on (RSTC_WDOG_CTL_EN n) && !s.inReset (0x40 + n) && !s.sys.dbg.testBit n && s.get MPC_MODE_CUR != 0 && (s.get MPC_MODE_CUR != 1 || awake)

/-- Lets `n` periods of ECLK pass for the slow clock's counters. -/
def State.elapse (s : State) (n : Nat) : State :=
  let wd := (List.range 2).foldl (fun t i =>
    if s.wdCounts i then Tab.set (fun _ => 0) t i (Tab.get (fun _ => 0) t i + n) else t) s.sys.wdRun
  { s with sys := { s.sys with t := s.sys.t + n, wdRun := wd } }

/-- Ring time now: the spindle (R263). -/
def State.now (s : State) : Nat := s.rd64 TIME_SPINDLE

/-- A lane's record. -/
def State.ln (s : State) (l : Nat) : LaneSt := Tab.get (fun _ => LaneSt.init) s.lane l

/-- Changes a lane's record. -/
def State.modLn (s : State) (l : Nat) (f : LaneSt → LaneSt) : State :=
  { s with lane := Tab.set (fun _ => LaneSt.init) s.lane l (f (s.ln l)) }

/-- The slow always-on clock's cycle that the hub stands in (R86): 1.024 MHz. -/
def State.slowCycle (s : State) : Nat := s.sys.t * 1024 / 250000

/-- Whether a core runs: out of reset, not held by a debugger (R60). -/
def State.coreRuns (s : State) (n : Nat) : Bool := s.sys.cores && !s.inReset (0x40 + n) && !s.sys.dbg.testBit n

/-- Whether the hub runs in GH-320 behaviour: the COMPAT strap or CFG_CTL.LEGACY (R96). -/
def State.gh320 (s : State) : Bool := s.on ID_STRAP_GH320

/-! ### Wakes (R63, R75) -/

/-- Starts the transition from WATCH to RUN (R75); the divider switch uses RC100 (R18). -/
def State.startWake (s : State) : State :=
  let s1 := s.rcUse.put MPC_MODE_TRANS 1
  { s1 with sys := { s1.sys with wakeT := some (s1.sys.wakeT.getD s1.sys.t) } }

/-- An enabled wake source in WATCH, or during a transition (R63): recorded; in WATCH the transition to RUN starts, but on a
stacked hub, which takes its mode from the master (R67). DEDUCED, log entry 43. -/
def State.watchWake (s : State) (src : Nat) : State :=
  if !(s.rd MPC_WAKE_EN).getLsbD src then s
  else
    let s1 := s.wr MPC_WAKE_CAUSE (s.rd MPC_WAKE_CAUSE ||| BitVec.ofNat 32 (2 ^ src))
    if s.on MPC_MODE_TRANS then { s1 with sys := { s1.sys with heldWake := s1.sys.heldWake ||| 2 ^ src } }
    else if s.mode = 1 then (if s.chip = 0 then s1.startWake else s1) else s

/-- The source acts as a wake source now: in WATCH, and during a transition (R63, R75). -/
def State.wakeBy (s : State) (src : Nat) : State := if s.mode = 1 || s.on MPC_MODE_TRANS then s.watchWake src else s

/-! ### Interrupt events of edge sources -/

/-- An event on an edge source sets P for the targets its ROUTE names, whatever A and EN are (R428, R429). A source of a
unit held in reset produces no event (R427), and a controller in reset loses it (R436). -/
def State.edgeIrq (s : State) (blk n : Nat) : State :=
  if s.inReset blk || s.inReset 0x06 then s
  else s.each (bitList 3 (s.get (INTC_ROUTE_TGT n))) fun s t => s.setBit (INTC_PEND_P t (n / 32)) (n % 32)

end Sys2Proof.Machine
end

