-- ==== Sys2Proof/Machine/Deadline.lean ====
section
/-! DEFINITION. Deadline misses and their log (R283 to R285). -/
namespace Sys2Proof.Machine

/-- Puts a miss behind those that wait, and before those of the same cycle from blocks of a higher ID (R285).
DEDUCED, log entry 21. -/
def missInsert (m : Miss) : List Miss → List Miss
  | [] => [m]
  | x :: r => if x.t = m.t ∧ m.src < x.src then m :: x :: r else x :: missInsert m r

/-- A block reports a missed deadline to TIME: the event happens now (R283, R284). A miss that finds 16 waiting is lost and
counted (R285). DEDUCED, log entry 21. -/
def State.miss (s : State) (kind src index deadline : Nat) : State :=
  if s.inReset 0x0F then s
  else if 16 ≤ s.time.dlQ.length then (s.bump (TIME_CNT 9)).put TIME_EVT_DL_OVF 1
  else
    let m : Miss := ⟨kind, src, index % 256, s.now - deadline, s.now,
      decide (s.time.skipLo ≤ deadline ∧ deadline < s.time.skipHi)⟩
    { s with time := { s.time with dlQ := missInsert m s.time.dlQ } }

/-- Writes a miss into the entry NEXT names, and moves NEXT on. -/
def State.logMiss (s : State) (m : Miss) : State :=
  let e := s.get TIME_DL_HEAD_NEXT
  let s1 := (s.wr (TIME_DL_W0 e) (BitVec.ofNat 32 (m.kind % 256 + m.src % 256 * 2 ^ 8 + m.index % 256 * 2 ^ 16
    + b2n m.step * 2 ^ 24))).wr (TIME_DL_W1 e) (BitVec.ofNat 32 (min m.late (2 ^ 32 - 1)))
  (((s1.wr64 (TIME_DL_T e) m.t).wrapAdd TIME_DL_HEAD_NEXT 1).bump (TIME_CNT 8)).put TIME_EVT_DEADLINE 1

/-- DEADLINE_LOG (R285): TIME takes the oldest waiting miss into the log. -/
def execDeadlineLog (s : State) : Out :=
  if s.inReset 0x0F then .next s else
  .next (match s.time.dlQ with
    | [] => s
    | m :: r => ({ s with time := { s.time with dlQ := r } }).logMiss m)

/-- Empties the deadline log (R285). DEDUCED, log entry 21. -/
def State.dlClear (s : State) : State :=
  (s.each (List.range 16) fun s e => ((s.clr (TIME_DL_W0 e)).clr (TIME_DL_W1 e)).clr64 (TIME_DL_T e)).put
    TIME_DL_HEAD_NEXT 0

/-- DL_CLEAR (R285). -/
def execDlClear (s : State) : Out := .next (s.cmd TIME_DL_HEAD State.dlClear)

end Sys2Proof.Machine
end

