-- ==== Sys2Proof/Machine/Store.lean ====
section
/-! DEFINITION. The main store: partitions, protection, error correction, the bank arbiters and the scrubber (R33 to R53),
and the counter snapshots (R56). Store offsets count bytes from 0x1000_0000. -/
namespace Sys2Proof.Machine

/-! ### Layout -/

/-- Bytes of the main store. -/
def storeSize : Nat := 0x800000
/-- Chip-local offset of the first byte. -/
def storeBase : Nat := 0x10000000
/-- The bank of a store offset: 512 KiB each. -/
def bankOf (off : Nat) : Nat := off / 0x80000

/-- The first bank of each partition and the one after the last (R33), from a register's bank counts. -/
def partStarts (counts : List Nat) : List Nat := counts.foldl (fun a n => a ++ [a.getLastD 0 + n]) [0]

/-- The bank counts of the active partition, in index order. -/
def State.partCounts (s : State) : List Nat :=
  [s.get MSA_PART_FB, s.get MSA_PART_CORE, s.get MSA_PART_SQ, s.get MSA_PART_TBL, s.get MSA_PART_MOBJ]

/-- The partition index of a bank, given bank counts (R33); 5 where the counts do not reach the bank. -/
def partOfBank (counts : List Nat) (b : Nat) : Nat :=
  match counts with
  | [] => 0
  | n :: r => if b < n then 0 else 1 + partOfBank r (b - n)

/-- The store offset where partition `i` begins. -/
def State.partBase (s : State) (i : Nat) : Nat := ((s.partCounts.take i).foldl (· + ·) 0) * 0x80000

/-- The bytes of partition `i`. -/
def State.partSize (s : State) (i : Nat) : Nat := s.partCounts.getD i 0 * 0x80000

/-- Whether requester `r` may write the bank (R39). -/
def State.mayWrite (s : State) (r b : Nat) : Bool := s.getBit (MSA_WPROT_WR (partOfBank s.partCounts b)) r

/-! ### Bytes -/

/-- What a byte that nothing has written reads as: 0, from the zeroing of R42. DEDUCED, log entry 5. -/
def memDefault (_ : Nat) : Byte := 0#8

/-- The canonical form of the main store. DEDUCED, log entry 5. -/
def Memory.wf (m : List Host.Cell) : Bool := Tab.wf memDefault m

/-- One byte of the main store. DEDUCED, log entry 5. -/
def State.byte (s : State) (off : Nat) : Byte := Tab.get memDefault s.mem off

/-- Reads `n` bytes, little-endian. -/
def State.load (s : State) (off n : Nat) : Nat := ofLeBytes (Tab.getList memDefault s.mem off n)

/-- Writes the low `n` bytes of a number, little-endian. -/
def State.poke (s : State) (off n v : Nat) : State :=
  { s with mem := Tab.setList memDefault s.mem off (leBytes n v) }

/-- Zeroes the banks of a mask: their bytes and their error marks (R37, R42). -/
def State.zeroBanks (s : State) (mask : Nat) : State :=
  { s with
    mem := s.mem.filter fun e => !mask.testBit (bankOf e.1)
    store := { s.store with marks := s.store.marks.filter fun e => !mask.testBit (bankOf (8 * e.1)) } }

/-! ### Error correction -/

/-- The error mark of a store word. -/
def State.mark (s : State) (w : Nat) : Option Mark := Tab.get (fun _ => none) s.store.marks w

/-- Sets or clears the error mark of a store word. -/
def State.setMark (s : State) (w : Nat) (m : Option Mark) : State :=
  { s with store := { s.store with marks := Tab.set (fun _ => none) s.store.marks w m } }

/-- Bit flips that have reached the store; a second error in a marked word leaves it uncorrectable. -/
def State.upset (s : State) (us : List Upset) : State :=
  s.each us fun s u =>
    if u.word < storeSize / 8 then
      s.setMark u.word (some ⟨u.uncorr || (s.mark u.word).isSome, u.pattern, false⟩)
    else s

/-- The error log of R46: an uncorrectable error always enters; a corrected one only while no uncorrectable one stands. -/
def State.eccLog (s : State) (w : Nat) (m : Mark) (req : Nat) : State :=
  if m.uncorr || !(s.on MSA_ECC_STAT_LOG_VALID && s.on MSA_ECC_LOG1_UNCORR) then
    ((((s.put MSA_ECC_LOG0_WORD w).put MSA_ECC_LOG1_SYNDROME (1 + (Config.syndrome w m.pattern).val)).put
      MSA_ECC_LOG1_UNCORR (b2n m.uncorr)).put MSA_ECC_LOG1_REQ req).put MSA_ECC_STAT_LOG_VALID 1
  else s

/-- A single-bit error found by a read: counted, logged and reported, and a write-back is due (R43). -/
def State.eccCe (s : State) (w : Nat) (m : Mark) (req : Nat) : State :=
  ((((s.setMark w (some { m with wb := true })).bump MSA_ECC_CE).put MSA_ECC_STAT_CE 1).eccLog w m req).fault 0x07 0x06
    (s.selfAddr (storeBase + 8 * w))

/-- An uncorrectable error found by a read: counted, logged and reported; the word keeps it (R44). -/
def State.eccUe (s : State) (w : Nat) (m : Mark) (req : Nat) : State :=
  (((s.bump MSA_ECC_UE).put MSA_ECC_STAT_UE 1).eccLog w m req).fault 0x07 0x07 (s.selfAddr (storeBase + 8 * w))

/-- Reads the words `w` to `w + n - 1` through the check bits; answers whether every one was good (R43, R44). -/
def State.eccRead (s : State) (w n req : Nat) : State × Bool :=
  (List.range n).foldl (fun (a : State × Bool) i =>
    match a.1.mark (w + i) with
    | none => a
    | some m => if m.uncorr then (a.1.eccUe (w + i) m req, false) else (a.1.eccCe (w + i) m req, a.2)) (s, true)

/-- Clears the marks of words a requester has written whole, and with them a write-back that was due (R43, R44). -/
def State.eccWritten (s : State) (w n : Nat) : State :=
  s.each (List.range n) fun s i => if (s.mark (w + i)).isSome then s.setMark (w + i) none else s

/-! ### LR reservations (R41) -/

/-- The granule a core has reserved. -/
def State.lrOf (s : State) (c : Nat) : Option Nat := Tab.get (fun _ => none) s.store.lr c

/-- Sets or drops a core's reservation. -/
def State.setLr (s : State) (c : Nat) (g : Option Nat) : State :=
  { s with store := { s.store with lr := Tab.set (fun _ => none) s.store.lr c g } }

/-- A write by `req` to bytes from `off` takes the reservation of those granules from every other core. -/
def State.lrWritten (s : State) (req off n : Nat) : State :=
  s.each [0, 1] fun s c =>
    match s.lrOf c with
    | some g => if req ≠ c + 1 ∧ off / 64 ≤ g ∧ g ≤ (off + n - 1) / 64 then s.setLr c none else s
    | none => s

/-! ### Performing an access in its bank -/

/-- The arbiter of a bank. -/
def State.bank (s : State) (b : Nat) : BankSt := Tab.get (fun _ => BankSt.init) s.store.banks b

/-- Sets a bank's arbiter. -/
def State.setBank (s : State) (b : Nat) (k : BankSt) : State :=
  { s with store := { s.store with banks := Tab.set (fun _ => BankSt.init) s.store.banks b k } }

/-- Whether a requester has high priority (MSA_PRIO). DESIGN CHOICE, log entry 12. -/
def State.highPrio (s : State) (r : Nat) : Bool := s.getBit MSA_PRIO_HIGH r

/-- The grant passes to a requester and stays parked on it (R48, R49). -/
def State.grant (s : State) (b r : Nat) : State :=
  let k := s.bank b
  s.setBank b (if s.highPrio r then { k with owner := r, lastHi := r } else { k with owner := r, lastNo := r })

/-- The result an indivisible operation stores; operands are taken as numbers of `w` bits (R41, R410).
PRESUMED, log entry 8. -/
def amoResult (op : AmoOp) (w old a b : Nat) : Nat :=
  match op with
  | .lr => old
  | .sc => a
  | .swap => a
  | .add => (old + a) % 2 ^ w
  | .xor => old ^^^ a
  | .and => old &&& a
  | .or => old ||| a
  | .min => if sext w old ≤ sext w a then old else a
  | .max => if sext w old ≥ sext w a then old else a
  | .minu => if old ≤ a then old else a
  | .maxu => if old ≥ a then old else a
  | .cas => if old = a then b else old

/-- Whether an operation is judged by R39 when it begins; the beats of a burst have been judged at its start. -/
def accWrites : AccForm → Bool
  | .read _ => false
  | .burstRead _ => false
  | .resume _ => false
  | .amo .lr _ _ _ => false
  | _ => true

/-- MSA_ARBCTL as it applies at a bank: a change takes effect from the next contention episode on (R57).
DESIGN CHOICE, log entry 12. -/
def State.bankCtl (s : State) (b : Nat) (f : Fld) : Nat :=
  wordField ((s.bank b).ctl.getD (s.rd MSA_ARBCTL)) f.lo f.w

/-- Whether a bank refuses a requester that has been cut off (R53). -/
def State.lockedOut (s : State) (b r : Nat) : Bool :=
  s.bankCtl b MSA_ARBCTL_LOCKOUT != 0 && s.getBit MSA_HOLD_FLAG_CUT r

/-- Refuses an access to its requester with a status. -/
def State.refuse (s : State) (req status : Nat) : State := s.answer req status 0

/-- Writes whole 64-bit words from a store offset: bytes, marks and reservations. -/
def State.writeWords (s : State) (req off : Nat) (ws : List DWord) : State :=
  let s1 := { s with mem := Tab.setList memDefault s.mem off (ws.flatMap fun (w : DWord) => leBytes 8 w.toNat) }
  (s1.eccWritten (off / 8) ws.length).lrWritten req off (8 * ws.length)

/-- The beats of a burst write: those whose four words have been supplied are transferred; the rest stay due, and the
burst holds its bank (R50, R51). Answers when the last beat is done. -/
def State.burstBeats (s : State) (req start off left : Nat) (ws : List DWord) : State :=
  let n := min left (ws.length / 4)
  let s1 := (s.writeWords req off (ws.take (4 * n))).count (MSA_BEATS (bankOf off)) n
  let k := s1.bank (bankOf off)
  if n = left then (s1.setBank (bankOf off) { k with burst := none }).answer req 0 0
  else s1.setBank (bankOf off) { k with burst := some ⟨req, start, off + 32 * n, left - n⟩ }

/-- An indivisible operation in its bank: two beats (R41); SC fails when the core holds no reservation on the granule.
PRESUMED, log entry 8. -/
def State.amoDo (s : State) (req off : Nat) (op : AmoOp) (size : Fin 4) (a b : DWord) : State :=
  let n := 2 ^ size.val
  let r := s.eccRead (off / 8) 1 req
  let s1 := r.1.count (MSA_BEATS (bankOf off)) 2
  let c := req - 1
  if !r.2 then (if op = .lr then s1.setLr c none else s1).refuse req 0x07
  else
    let old := s1.load off n
    match op with
    | .lr => (s1.setLr c (some (off / 64))).answer req 0 old
    | .sc =>
      let ok := s1.lrOf c == some (off / 64)
      let s2 := s1.setLr c none
      if ok then
        (((s2.poke off n (a.toNat % 2 ^ (8 * n))).eccWritten (off / 8) 1).lrWritten req off n).answer req 0 0
      else s2.answer req 0 1
    | _ =>
      let v := amoResult op (8 * n) old (a.toNat % 2 ^ (8 * n)) (b.toNat % 2 ^ (8 * n))
      (((s1.poke off n v).eccWritten (off / 8) 1).lrWritten req off n).answer req 0 old

/-- Performs an access that has its bank: lockout (R53), protection (R39), check bits (R43 to R45), then its effect.
DESIGN CHOICE, log entry 7. -/
def State.perform (s : State) (x : Acc) : State :=
  let b := bankOf x.off
  if s.lockedOut b x.req then s.refuse x.req 0x0C
  else if accWrites x.form && !s.mayWrite x.req b then
    (s.fault 0x07 0x04 (s.selfAddr (storeBase + x.off))).refuse x.req 0x06
  else
    let s1 := s.grant b x.req
    match x.form with
    | .read size =>
      let r := s1.eccRead (x.off / 8) 1 x.req
      let s2 := r.1.count (MSA_BEATS b) 1
      if r.2 then s2.answer x.req 0 (s2.load x.off (2 ^ size.val)) else s2.refuse x.req 0x07
    | .burstRead n =>
      let r := s1.eccRead (x.off / 8) (4 * n) x.req
      let s2 := r.1.count (MSA_BEATS b) n
      if r.2 then s2.answer x.req 0 (s2.load x.off (32 * n)) else s2.refuse x.req 0x07
    | .write size data =>
      if size.val = 3 then ((s1.writeWords x.req x.off [data]).count (MSA_BEATS b) 1).answer x.req 0 0
      else
        let r := s1.eccRead (x.off / 8) 1 x.req
        let s2 := r.1.count (MSA_BEATS b) 2
        if !r.2 then s2.refuse x.req 0x07
        else
          (((s2.poke x.off (2 ^ size.val) data.toNat).eccWritten (x.off / 8) 1).lrWritten x.req x.off
            (2 ^ size.val)).answer x.req 0 0
    | .burstWrite n ws => s1.burstBeats x.req x.off x.off n ws
    | .resume ws =>
      match (s1.bank b).burst with
      | some u => if u.req = x.req then s1.burstBeats u.req u.start u.next u.left ws else s1
      | none => s1
    | .amo op size u v => s1.amoDo x.req x.off op size u v

/-! ### Waiting (R37, R40, R50) -/

/-- Whether a bank is being zeroed (R37, R42). -/
def State.bankZeroing (s : State) (b : Nat) : Bool := !s.on MSA_STAT_INIT_DONE || s.store.zeroing.testBit b

/-- Whether a bank takes no new access: it is being zeroed (R37, R42) or holds an unfinished burst (R50). -/
def State.bankShut (s : State) (b : Nat) : Bool := s.bankZeroing b || (s.bank b).burst.isSome

/-- Whether a requester has an unfinished burst in some bank, behind which its later accesses wait (R40). -/
def State.midBurst (s : State) (r : Nat) : Bool :=
  (List.range 16).any fun b => match (s.bank b).burst with | some u => u.req == r | none => false

/-- The first access that waits at a bank begins a contention episode, for which MSA_ARBCTL holds as it is now (R57); with
the last one gone the episode is over. DESIGN CHOICE, log entry 12. -/
def State.setWait (s : State) (b : Nat) (l : List Acc) : State :=
  let some_ := l.any fun x => bankOf x.off == b
  let k := s.bank b
  let s1 := s.setBank b { k with ctl := if some_ then some (k.ctl.getD (s.rd MSA_ARBCTL)) else none }
  { s1 with store := { s1.store with wait := l } }

/-- An access begins to wait. -/
def State.enwait (s : State) (x : Acc) : State := s.setWait (bankOf x.off) (s.store.wait ++ [x])

/-- Takes accesses of a requester at a bank out of the waiting list, and its promotion there with them. -/
def State.unwait (s : State) (b r : Nat) (l : List Acc) : State :=
  let s1 := s.setWait b l
  { s1 with store := { s1.store with promo := s1.store.promo.filter fun p => !(p.1 == b && p.2 == r) } }

/-- Whether an access comes from a request of this hub to itself that satisfies a condition. -/
def AccSrc.isOwn (x : AccSrc) (p : FReq → Bool) : Bool := match x with | .own _ q => p q | _ => false

/-- The requests of this hub to itself that wait, for bivouac memory or at the store, or have yet to hear of their end. -/
def State.hereAll (s : State) : List FReq :=
  let own (x : AccSrc) : Option FReq := match x with | .own _ q => some q | _ => none
  s.fab.here.map (·.2) ++ s.store.wait.filterMap (fun x => own x.src) ++ s.store.served.filterMap fun x => own x.1

/-- Whether an access must wait behind its bank or behind the requester's own earlier accesses. -/
def State.accWaits (s : State) (req off : Nat) : Bool :=
  s.bankShut (bankOf off) || s.midBurst req || s.store.wait.any fun y => y.req == req

/-! ### The hub's own movers -/

/-- The banks in which `n` bytes from an offset lie. -/
def banksOf (off n : Nat) : List Nat :=
  (List.range (bankOf (off + (n - 1)) + 1 - bankOf off)).map (bankOf off + ·)

/-- Whether a mover that needs `n` bytes from an offset waits: for a bank, or behind other accesses of its requester (R37, R40,
R50). DESIGN CHOICE, log entry 10. -/
def State.moverWaits (s : State) (req off n : Nat) : Bool :=
  ((banksOf off n).any s.bankShut) || s.midBurst req ||
    s.store.wait.any fun y => y.req == req && !(y.src == .ask)

/-- A mover that waits asks for its bank, so that the arbiter counts it among the requesters (R49, R51). -/
def State.ask (s : State) (req off : Nat) : State :=
  let x : Acc := ⟨req, off, .read 3, .ask⟩
  if s.store.wait.any fun y => y.req == req && y.src == .ask && bankOf y.off == bankOf off then s else s.enwait x

/-- The mover has its bank: it no longer asks, and the grant stays parked on it (R48). -/
def State.moverGrant (s : State) (req b : Nat) : State :=
  (s.unwait b req (s.store.wait.filter fun y => !(y.req == req && y.src == .ask && bankOf y.off == b))).grant b req

/-- A word of 4 or 8 bytes that one of the hub's own blocks reads: one beat, through the check bits. None where the bank refuses
the mover (R53) or the word cannot be read (R44): it is never delivered as good. DESIGN CHOICE, log entry 10. -/
def State.hubRead (s : State) (req off n : Nat) : State × Option Nat :=
  if s.lockedOut (bankOf off) req then (s, none)
  else
    let r := (s.moverGrant req (bankOf off)).eccRead (off / 8) 1 req
    let s1 := r.1.count (MSA_BEATS (bankOf off)) 1
    (s1, if r.2 then some (s1.load off n) else none)

/-- A word of 4 or 8 bytes that one of the hub's own blocks writes, under R53, the protection of R39 and, when it is narrow, the
read of R45. DESIGN CHOICE, log entry 10. -/
def State.hubWrite (s : State) (req off n v : Nat) : State :=
  if s.lockedOut (bankOf off) req then s
  else if !s.mayWrite req (bankOf off) then s.fault 0x07 0x04 (s.selfAddr (storeBase + off))
  else
    let s0 := s.moverGrant req (bankOf off)
    if n = 8 then (s0.writeWords req off [BitVec.ofNat 64 v]).count (MSA_BEATS (bankOf off)) 1
    else
      let r := s0.eccRead (off / 8) 1 req
      let s1 := r.1.count (MSA_BEATS (bankOf off)) 2
      if r.2 then ((s1.poke off n v).eccWritten (off / 8) 1).lrWritten req off n else s1

/-- Reads `n` words of 32 bits; none where one of them cannot be had. DESIGN CHOICE, log entry 10. -/
def State.hubReads (s : State) (req off : Nat) : Nat → State × Option (List Word)
  | 0 => (s, some [])
  | n + 1 =>
    let a := s.hubRead req off 4
    let r := a.1.hubReads req (off + 4) n
    (r.1, match a.2, r.2 with | some v, some l => some (BitVec.ofNat 32 v :: l) | _, _ => none)

/-- Writes words of 32 bits. DESIGN CHOICE, log entry 10. -/
def State.hubWrites (s : State) (req off : Nat) : List Word → State
  | [] => s
  | w :: r => (s.hubWrite req off 4 w.toNat).hubWrites req (off + 4) r

/-! ### Arbitration (R48 to R51) -/

/-- The waiting accesses a bank could serve now: the first of each requester (R40), for this bank.
DEDUCED, log entry 9. -/
def State.ready (s : State) (b : Nat) : List Acc :=
  s.store.wait.filter fun x =>
    bankOf x.off == b && !s.midBurst x.req &&
      ((s.store.wait.find? fun y => y.req == x.req) == some x)

/-- Round robin: the candidate whose number comes next after the last one served (R49).
DESIGN CHOICE, log entry 6. -/
def roundRobin (last : Nat) (l : List Acc) : Option Acc :=
  l.foldl (fun a x =>
    match a with
    | none => some x
    | some y => if (x.req + 8 - last) % 9 < (y.req + 8 - last) % 9 then some x else some y) none

/-- The access a free bank serves next: promoted requesters in the order of their promotion, then the high-priority ones
in round-robin order, then the normal ones (R49). DESIGN CHOICE, log entry 6. -/
def State.choose (s : State) (b : Nat) : Option Acc :=
  let l := s.ready b
  match s.store.promo.findSome? fun p => if p.1 = b then l.find? fun x => x.req == p.2 else none with
  | some x => some x
  | none =>
    match roundRobin (s.bank b).lastHi (l.filter fun x => s.highPrio x.req) with
    | some x => some x
    | none => roundRobin (s.bank b).lastNo (l.filter fun x => !s.highPrio x.req)

/-- Serves one waiting access. One that came through the fabric leaves its status and data for the source, which answers in
its own way; a mover that asked has the grant, and acts by its own command. DEDUCED, log entry 9. -/
def State.serveAcc (s : State) (x : Acc) : State :=
  let s1 := s.unwait (bankOf x.off) x.req (s.store.wait.erase x)
  match x.src with
  | .cmd => s1.perform x
  | .ask => s1.grant (bankOf x.off) x.req
  | _ =>
    let t := s1.perform x
    let r : Nat × Nat := match t.resp with | some r => (r.status, r.data) | none => (0, 0)
    { t with resp := s.resp, store := { t.store with served := t.store.served ++ [(x.src, r)] } }

/-- The access an open bank serves next, or the beats its unfinished burst has been waiting for. -/
def State.nextAcc (s : State) (b : Nat) : Option Acc :=
  if s.bankZeroing b then none
  else match (s.bank b).burst with
    | some u => s.store.wait.find? fun x => x.req == u.req && bankOf x.off == b && match x.form with | .resume _ => true | _ => false
    | none => s.choose b

/-- Serves the waiting accesses of every bank, as long as any can be served. DEDUCED, log entry 9. -/
def State.serve (s : State) : State :=
  (List.range (16 * s.store.wait.length)).foldl (fun s i =>
    match s.nextAcc (i % 16) with
    | some x => s.serveAcc x
    | none => s) s

/-- Whether an access is of a form R38 allows at its offset. -/
def accLegal (f : AccForm) (off : Nat) : Bool :=
  match f with
  | .read z => off % 2 ^ z.val == 0
  | .write z _ => off % 2 ^ z.val == 0
  | .burstRead n => off % 32 == 0 && decide (1 ≤ n ∧ n ≤ 8 ∧ off % 256 + 32 * n ≤ 256)
  | .burstWrite n _ => off % 32 == 0 && decide (1 ≤ n ∧ n ≤ 8 ∧ off % 256 + 32 * n ≤ 256)
  | .resume _ => true
  | .amo _ z _ _ => off % 2 ^ z.val == 0 && decide (2 ≤ z.val)

/-- An access to the main store by a requester: refused if its form is illegal (R38), otherwise performed, or left to wait
behind its bank or behind the requester's own earlier accesses (R37, R40, R50); the further beats of a burst wait only for the
zeroing of their bank. DEDUCED, log entry 9. -/
def State.access (s : State) (req off : Nat) (f : AccForm) : State :=
  if !accLegal f off then (s.fault 0x07 0x01 (s.selfAddr (storeBase + off))).refuse req 0x05
  else
    let x : Acc := ⟨req, off, f, .cmd⟩
    match f with
    | .resume _ => if s.bankZeroing (bankOf off) then s.enwait x else (s.perform x).serve
    | _ => if s.accWaits req off then s.enwait x else s.perform x

/-! ### The commands -/

/-- ECC_WRITEBACK (R43): the bank writes the corrected word back; a write that came first has cancelled it. -/
def execEccWriteback (word : BitVec 20) (s : State) : Out :=
  if s.dark then .next s else
  .next (match s.mark word.toNat with
    | some m => if m.wb && !m.uncorr && !s.bankShut (bankOf (8 * word.toNat)) then s.setMark word.toNat none else s
    | none => s)

/-- AGE_PROMOTION (R49): a normal-priority requester that waits at the bank is promoted. -/
def execAgePromotion (bank : Fin 16) (req : Fin 8) (s : State) : Out :=
  if s.dark then .next s else
  .next (if !s.highPrio req.val && (s.store.wait.any fun x => bankOf x.off == bank.val && x.req == req.val)
      && !s.store.promo.contains (bank.val, req.val) then
    { s with store := { s.store with promo := s.store.promo ++ [(bank.val, req.val)] } }
  else s)

/-- ARB_HOLD_CUTOFF (R51, R52): with another requester waiting and the owner's burst not at its boundary, the owner is cut
off. Beats transferred stand; the owner gets an error response; the grant passes under R49. -/
def execArbHoldCutoff (bank : Fin 16) (s : State) : Out :=
  if s.dark then .next s else
  .next (match (s.bank bank.val).burst with
    | some u =>
      if s.store.wait.any fun x => bankOf x.off == bank.val && x.req != u.req then
        let s1 := s.setBank bank.val { s.bank bank.val with burst := none }
        let s2 := (s1.setBit MSA_HOLD_FLAG_CUT u.req).put MSA_HOLD_LOG_BANK bank.val
        let s3 := (s2.put MSA_HOLD_LOG_REQ u.req).satAdd MSA_HOLD_LOG_COUNT 1
        ((s3.fault 0x07 0x09 (s.selfAddr (storeBase + u.start))).refuse u.req 0x0C).serve
      else s
    | none => s)

/-- A pass of the scrubber begins now (R47). -/
def State.scrubStart (s : State) : State := { s with store := { s.store with scrubT := s.sys.t, late := false } }

/-- SCRUB_READ (R47): the scrubber reads the next 256 B block while its bank is idle.
DESIGN CHOICE, log entry 7. -/
def execScrubRead (upset : List Upset) (s : State) : Out :=
  let s0 := s.upset upset
  let blk := s0.store.scrub
  let b := bankOf (256 * blk)
  .next (if s0.on MSA_SCRUB_EN && !s0.dark && !s0.bankShut b then
    let s1 := (s0.eccRead (32 * blk) 32 8).1.count (MSA_BEATS b) 8
    let s2 := { s1 with store := { s1.store with scrub := (blk + 1) % 32768 } }
    if blk + 1 = 32768 then (s2.wrapAdd MSA_SCRUB_PASS_PASSES 1).scrubStart else s2
  else s0)

/-- The time a pass may take, in periods of ECLK; INTERVAL 0 acts as 1 (R47). -/
def State.scrubLimit (s : State) : Nat := 2 * 32768 * max 1 (s.get MSA_SCRUB_INTERVAL) * 250

/-- SCRUB_LATE (R47): the pass has taken longer than its limit; reported once for each pass. -/
def execScrubLate (s : State) : Out :=
  .next (if s.on MSA_SCRUB_EN && !s.dark && !s.store.late && decide (s.scrubLimit < s.sys.t - s.store.scrubT) then
    (({ s with store := { s.store with late := true } } : State).put MSA_ECC_STAT_SCRUB_LATE 1).fault 0x07 0x08 0
  else s)

/-- Whether the steps of R97 before the zeroing have ended: the rails stand, the straps have been sampled, and the clocks run (R97,
R98). DEDUCED, log entry 42. -/
def State.upTo (s : State) : Bool := s.on LPW_STAT_RAILS_OK && s.sys.refclk && !s.sys.strapDue

/-- STORE_ZEROING_DONE (R42, R97): all 8 MiB zeroed with valid check bits, INIT_DONE 1, and the requesters released. -/
def execStoreZeroingDone (s : State) : Out :=
  .next (if s.on MSA_STAT_INIT_DONE || s.dark || s.tst.mbist || !s.upTo then s
    else ((s.zeroBanks 0xFFFF).put MSA_STAT_INIT_DONE 1).serve)

/-- PARTITION_ZEROING_DONE (R37): the banks that changed partition are zeroed, and the accesses that waited are served. -/
def execPartitionZeroingDone (s : State) : Out :=
  if s.dark then .next s else
  .next (if s.on MSA_STAT_ZEROING then
    let s1 := s.zeroBanks s.store.zeroing
    ({ s1 with store := { s1.store with zeroing := 0 } }.put MSA_STAT_ZEROING 0).serve
  else s)

/-- The SNAP register of a counter group. -/
def snapReg (g : Nat) : Nat :=
  match g with
  | 0 => MSA_SNAP
  | 1 | 2 | 3 | 4 => LANE_SNAP (g - 1)
  | 5 => RPE_SNAP
  | 6 => FWD_SNAP
  | 7 => RED_SNAP
  | 8 => TIME_SNAP
  | 9 => GG_GSNAP
  | 10 => MB_SNAP
  | 11 => HBR_SNAP
  | 12 => FLT_SNAP
  | _ => LPW_SNAP

/-- Bits checked and found in error while a lane's checker was locked (R160). DEDUCED, log entry 32. -/
def State.patCount (s : State) (l checked errored : Nat) : State :=
  if s.on (LANE_PAT_STAT_CHK_LOCK l) then (s.count (LANE_PAT_BITS l) checked).count (LANE_PAT_ERRS l) errored else s

/-- COUNTER_SNAP (R56): the snapshot of one counter group, in the numbering of `cntGroup`. A lane's checker counts up to the
snapshot (R162); the group of LPW cannot be reached while the die-to-die link is lost (R12). -/
def execCounterSnap (group : Fin 14) (clear : Bool) (checked errored : BitVec 48) (s : State) : Out :=
  let g := group.val
  .next (if g = 13 ∧ s.d2dLost then s
    else s.cmd (snapReg g) fun s =>
      (if 1 ≤ g ∧ g ≤ 4 then s.patCount (g - 1) checked.toNat errored.toNat else s).snap g clear)

end Sys2Proof.Machine
end

