-- ==== Sys2Proof/Machine/Switch.lean ====
section
/-! DEFINITION. The switch core: cells of the frame buffer, the forwarding decision, the egress queues and their limits, wrap and
drain treatment of ring copies, and the origination of frames at LOC (R34, R203 to R232, R240 to R242, R246, R255). -/
namespace Sys2Proof.Machine

/-! ### Ports, lanes and directions -/

/-- Whether a lane is up: 0 E, 1 W, 2 S0, 3 S1. -/
def State.laneUp (s : State) (l : Nat) : Bool := s.on (LANE_STAT_UP l)

/-- The state of a ring direction (R238): 0 CW (lane E), 1 CCW (lane W). -/
def State.dirState (s : State) (d : Nat) : Nat := if d = 0 then s.get RED_STAT_CW else s.get RED_STAT_CCW

/-- Writes the state of a ring direction. -/
def State.setDir (s : State) (d v : Nat) : State := if d = 0 then s.put RED_STAT_CW v else s.put RED_STAT_CCW v

/-- LOST and RETURN count as lost (R238). -/
def State.dirLost (s : State) (d : Nat) : Bool := s.dirState d == 1 || s.dirState d == 2

/-- Whether a ring lane is blocked under LONG (R194). -/
def State.blocked (s : State) (d : Nat) : Bool := s.getBit RPE_STAT_BLOCK d

/-- FWD_REACH of a direction (R215). -/
def State.reach (s : State) (d : Nat) : Nat := if d = 0 then s.get FWD_REACH_CW else s.get FWD_REACH_CCW

/-- Whether this hub is the master of its stack (R20). -/
def State.master (s : State) : Bool := s.chip == 0

/-- Whether the hub's own origination duplicates a class (R173, R189): under LONG classes 6 and 7 always (R193). -/
def State.dupClass (s : State) (cls : Nat) : Bool :=
  let long := s.on RPE_RING_PROFILE
  decide (2 ≤ s.rpe.floor) &&
    ((cls == 5 && s.on RPE_CTL_DUP5) || (cls == 6 && (long || s.on RPE_CTL_DUP6)) || (cls == 7 && (long || s.on RPE_CTL_DUP7)))

/-- Whether the census has listed this hub (R187). -/
def State.listed (s : State) : Bool := s.on RPE_STAT_LISTED

/-! ### Queues and cells -/

/-- The egress queue of a frame: 0 class 7, 1 class 6, 2 class 5 responses, 3 class 5 requests, 4 class 4, 5 to 8 BULK3
to BULK0 (R204). DEDUCED, log entry 14. -/
def queueOf (cls vc : Nat) : Nat :=
  if cls = 7 then 0 else if cls = 6 then 1 else if cls = 5 then (if vc = 1 then 2 else 3) else if cls = 4 then 4 else 8 - cls

/-- The frames of an egress queue, oldest first. -/
def State.queue (s : State) (port qi : Nat) : List QFrame := Tab.get (fun _ => []) s.fwd.queues (16 * port + qi)

/-- Replaces an egress queue. -/
def State.setQueue (s : State) (port qi : Nat) (l : List QFrame) : State :=
  { s with fwd := { s.fwd with queues := Tab.set (fun _ => []) s.fwd.queues (16 * port + qi) l } }

/-- Cells of a list of frames. -/
def cellsOf (l : List QFrame) : Nat := l.foldl (fun a x => a + frCells x.f) 0

/-- The frames that count against a port's queue: queued there, or held for it (R216, R246). -/
def State.counted (s : State) (port qi : Nat) : List QFrame :=
  s.queue port qi ++ (s.fwd.held.filter fun h => h.port == port && h.qi == qi).map (·.qf)

/-- Cells queued at a port's queue, live (R228). -/
def State.occ (s : State) (port qi : Nat) : Nat := cellsOf (s.counted port qi)

/-- Spare cells held by class 7 frames (R224). DEDUCED, log entry 14. -/
def State.spareUsed (s : State) : Nat :=
  (List.range 5).foldl (fun a p => a + cellsOf ((s.counted p 0).filter (·.spare))) 0

/-- The limit of a port's queue in cells; RES7 for class 7 (R224). DEDUCED, log entry 14. -/
def State.limit (s : State) (p qi : Nat) : Nat :=
  match qi with
  | 0 => s.get (FWD_LIM_4_RES7 p)
  | 1 => s.get (FWD_LIM_3_C6 p)
  | 2 => s.get (FWD_LIM_3_C5RSP p)
  | 3 => s.get (FWD_LIM_2_C5REQ p)
  | 4 => s.get (FWD_LIM_2_C4 p)
  | 5 => s.get (FWD_LIM_1_C3 p)
  | 6 => s.get (FWD_LIM_1_C2 p)
  | 7 => s.get (FWD_LIM_0_C1 p)
  | _ => s.get (FWD_LIM_0_C0 p)

/-- Whether a frame of `c` cells fits a port's queue while `taken` cells of the spare go to other copies of it: `some false`
under its limit, `some true` in the class 7 spare (R224). DEDUCED, log entry 14. -/
def State.fitsWith (s : State) (taken p qi c : Nat) : Option Bool :=
  if qi = 0 then
    if cellsOf ((s.counted p 0).filter fun x => !x.spare) + c ≤ s.limit p 0 then some false
    else if s.spareUsed + taken + c ≤ s.get FWD_BUF_STAT_SPARE then some true
    else none
  else if s.occ p qi + c ≤ s.limit p qi then some false
  else none

/-- Whether a frame of `c` cells fits a port's queue (R224). -/
def State.fits (s : State) (p qi c : Nat) : Option Bool := s.fitsWith 0 p qi c

/-- Puts a frame at the end of a port's queue; a class 7 frame that takes spare cells sets the SPARE event, and one for LOC is a
wake source (R75). -/
def State.enqueue (s : State) (p qi : Nat) (x : QFrame) (spare : Bool) : State :=
  let s1 := s.setQueue p qi (s.queue p qi ++ [{ x with spare := spare }])
  let s2 := if spare then s1.put FWD_EVT_SPARE 1 else s1
  if p = 4 ∧ qi = 0 then s2.wakeBy 1 else s2

/-! ### Cells in the main store (R34, R206, R207, R225) -/

/-- Every frame in the buffer. -/
def State.allFrames (s : State) : List QFrame := s.fwd.queues.flatMap (·.2) ++ s.fwd.held.map (·.qf)

/-- The 64-bit words of a frame that stand in the `k`-th of its cells. -/
def cellWords (f : Frame) (k : Nat) : Nat := min 16 ((frBytes f + 7) / 8 - 16 * k)

/-- FWD moves the words of one cell: its beats, and the grant of the cell's bank (R34, R48).
DESIGN CHOICE, log entry 53. -/
def State.cellBeats (s : State) (c words : Nat) : State :=
  (s.grant (bankOf (128 * c)) 0).count (MSA_BEATS (bankOf (128 * c))) ((words + 3) / 4)

/-- Writes a frame whole into cells: the `k`-th into the lowest free cell of the `k`-th bank of the frame buffer from the one
whose turn it is. Which cells are taken, and that the bytes another requester would read in them do not change, is the model's.
DESIGN CHOICE, log entry 53. -/
def State.writeCells (s : State) (f : Frame) : State × List Nat :=
  let fb := max 1 (s.get MSA_PART_FB)
  let used := s.allFrames.flatMap (·.cells)
  let r := (List.range (frCells f)).foldl (fun (a : State × List Nat) k =>
    let b := (s.fwd.stripe + k) % fb
    match ((List.range 4096).map (4096 * b + ·)).find? fun c => !used.contains c && !a.2.contains c with
    | some c => ((a.1.cellBeats c (cellWords f k)).eccWritten (16 * c) (cellWords f k), a.2 ++ [c])
    | none => a) (s, [])
  ({ r.1 with fwd := { r.1.fwd with stripe := (s.fwd.stripe + frCells f) % fb } }, r.2)

/-- Reads a frame's cells for egress, through the check bits; answers whether every word was good (R43, R44, R209). -/
def State.readCells (s : State) (x : QFrame) : State × Bool :=
  (List.range x.cells.length).foldl (fun (a : State × Bool) k =>
    let c := x.cells.getD k 0
    let r := (a.1.cellBeats c (cellWords x.f k)).eccRead (16 * c) (cellWords x.f k) 0
    (r.1, a.2 && r.2)) (s, true)

/-- A frame that finds its only queue at its limit is dropped and counted by class (R226).
DEDUCED, log entry 18. -/
def State.dropFull (s : State) (p cls : Nat) : State := (s.bump (FWD_CNT p (8 + cls))).put FWD_EVT_FULL 1

/-! ### Unreachable frames (R181, R212, R213, R220) -/

/-- Counts a frame in CNT_UNREACH of the port it entered by, and writes FWD_UNREACH_LOG. -/
def State.unreachLog (s : State) (inPort : Nat) (f : Frame) : State :=
  let s1 := (s.bump (FWD_CNT inPort 5)).put FWD_UNREACH_LOG_DST_NODE (frDst f)
  let s2 := (s1.put FWD_UNREACH_LOG_DST_CHIP (frDstChip f)).put FWD_UNREACH_LOG_PORT inPort
  (s2.put FWD_UNREACH_LOG_CLASS (frClass f)).put FWD_UNREACH_LOG_GROUP (if frMcast f = 1 then frGroup f else 0)

/-- A drop under R212: counted, logged, reported with DST_NODE and DST_CHIP. -/
def State.dropUnreach (s : State) (inPort : Nat) (f : Frame) : State :=
  ((s.unreachLog inPort f).put FWD_EVT_UNREACH 1).fault 0x0D 0x3A (4 * frDst f + frDstChip f)

/-- Whether a frame is a fabric request, which a drop under R212 answers. -/
def isFabReq (f : Frame) : Bool := frClass f == 5 && frVc f == 0 && frKind f == 1

/-- The response that answers a fabric request with a status and no data: VC 1, the request's TAG, to its source (R212,
R410). -/
def fabRsp (f : Frame) (status : Nat) (data : List DWord) : FrameSpec :=
  let w0 := hwSet (hwSet (f.payload.getD 0 0#64) 8 8 status) 22 42 0
  FrameSpec.plain 5 1 1 (frSrc f) (frSrcChip f) (frTag f) (w0 :: f.payload.getD 1 0#64 :: data)

/-! ### Direction of one-way frames (R213, R214) -/

/-- The bucket of a frame's flow key. -/
def State.bucket (s : State) (f : Frame) : Nat :=
  let key := frDst f + frDstChip f * 2 ^ 8 + frSrcChip f * 2 ^ 10 + frClass f * 2 ^ 12 + frVc f * 2 ^ 15
    + (if frKind f = 1 then 0 else frTag f) * 2 ^ 16 + frKind f * 2 ^ 32 + s.get FWD_PIN_CTL_SEED * 2 ^ 48
  crc32c [key] % 4096

/-- The DIR bit of a bucket in the active pin table. -/
def State.pinBit (s : State) (b : Nat) : Nat := b2n (s.getBit (FWD_PINT_PIN (b / 32)) (b % 32))

/-- The direction an entry's flow with the given bucket bit takes: 0 CW, 1 CCW, 2 none (R213). -/
def State.entryDir (s : State) (idx bit : Nat) : Nat :=
  if !s.on (FWD_NODET_VALID idx) then 2
  else
    let cw := s.get (FWD_NODET_HOPS_CW idx)
    let ccw := s.get (FWD_NODET_HOPS_CCW idx)
    let pick (d : Nat) : Nat :=
      let h (x : Nat) : Nat := if x = 0 then cw else ccw
      if h d ≤ s.reach d then d else if h (1 - d) ≤ s.reach (1 - d) then 1 - d else 2
    match s.get (FWD_NODET_MODE idx) with
    | 0 => pick bit
    | 1 => pick (if cw < ccw then 0 else if ccw < cw then 1 else bit)
    | 2 => 0
    | _ => 1

/-- The node-table index of a frame's destination (R219). -/
def nodeIdx (f : Frame) : Nat := frDst f * 4 + frDstChip f

/-- The direction of an originated one-way frame. -/
def State.wayOf (s : State) (f : Frame) : Nat := s.entryDir (nodeIdx f) (s.pinBit (s.bucket f))

/-- The pinned queue of a frame: 0 BULK0 to 3 BULK3, 4 class 5 requests, 5 class 5 responses while DUP5 is 0 (R216). -/
def State.pinnedQ (s : State) (cls vc : Nat) : Option Nat :=
  if cls ≤ 3 then some cls
  else if cls = 5 ∧ !s.on RPE_CTL_DUP5 then some (4 + vc)
  else none

/-! ### Copies -/

/-- What becomes of one copy of a frame. -/
inductive Fate where
  | queue
  | hold (why : HoldWhy)
  | cut | wrapDrop | silent | noslot | unreach | unreachQuiet
deriving DecidableEq, Repr

/-- One copy of a decided frame: its egress port, the frame as that port sends it, what becomes of it, and whether it was
wrapped. -/
structure Copy where
  port    : Nat
  frame   : Frame
  fate    : Fate
  wrapped : Bool
deriving DecidableEq, Repr

/-- The schedule table word pair of an entry as a number (R197); direction 0 CW, 1 CCW. -/
def State.schedEntry (s : State) (d n : Nat) : Nat := (s.rd (RPE_SCHED d (2 * n))).toNat + 2 ^ 32 * (s.rd (RPE_SCHED d (2 * n + 1))).toNat

/-- The WIN entries of a direction's active table as (slot, start, length) (R197). Unlisted table words read 0, so only
the words that hold something are looked at. -/
def State.wins (s : State) (d : Nat) : List (Nat × Nat × Nat) :=
  (s.regs.filterMap fun e =>
    if RPE_SCHED d 0 ≤ e.1 ∧ e.1 < RPE_SCHED d 1024 ∧ (e.1 - RPE_SCHED d 0) % 8 = 0 ∧ e.2.toNat.testBit 10 then
      let x := s.schedEntry d ((e.1 - RPE_SCHED d 0) / 8)
      some (bits x 0 10, bits x 16 15, bits x 32 15)
    else none)

/-- The deadline in units of 256 ns of a slot's DELIVER entry, if the direction's active table has one (R201). -/
def State.deliver (s : State) (d slot : Nat) : Option Nat :=
  (s.regs.findSome? fun e =>
    if RPE_SCHED d 0 ≤ e.1 ∧ e.1 < RPE_SCHED d 1024 ∧ (e.1 - RPE_SCHED d 0) % 8 = 0 ∧ e.2.toNat.testBit 11
        ∧ e.2.toNat % 1024 = slot then
      some (bits (s.schedEntry d ((e.1 - RPE_SCHED d 0) / 8)) 48 16)
    else none)

/-- Four times the REFCLK multiple of a rate code; 5 to 7 act as 4 (R139). -/
def rateMult4 (code : Nat) : Nat :=
  match code with
  | 0 => 33 | 1 => 66 | 2 => 132 | 3 => 264 | _ => 660

/-- Whether a frame lasts longer than `ticks` spindle ticks on a lane of a rate code: its blocks with SOF and EOF are 66 bits
each, and a block lasts 2112 / (5 * rateMult4) ticks (R139, R142). -/
def tooLong (f : Frame) (code ticks : Nat) : Bool := decide (5 * rateMult4 code * ticks < 2112 * (f.payload.length + 6))

/-- Whether a scheduled frame has no window that can hold it in a direction's table (R199). -/
def State.noSlot (s : State) (d : Nat) (f : Frame) : Bool :=
  frSched f == 1 && !((s.wins d).any fun w => w.1 == frSlot f && !tooLong f (s.get (LANE_STAT_RATE d)) w.2.2)

/-- The census operation of a frame's payload word 0 (R184). -/
def cenOp (f : Frame) : Nat := frWord f 0 % 256

/-- A copy for a ring lane: the treatment of R240 to R246 for a lost direction, the hold of R246, the missing slot of
R199. -/
def State.ringCopy (s : State) (f : Frame) (d : Nat) : Copy :=
  let final (d' : Nat) (g : Frame) (w : Bool) : Copy :=
    if s.noSlot d' g then ⟨d', g, .noslot, w⟩ else ⟨d', g, .queue, w⟩
  let st := s.dirState d
  let oneWay := frDup f == 0 && frDst f != 0xFF && frClass f != 4
  if s.blocked d && frKind f == 3 && (cenOp f == 1 || cenOp f == 3 || cenOp f == 4) then ⟨d, f, .queue, false⟩
  else if st = 0 ∨ st = 3 then
    if s.red.unwrap.testBit d && oneWay then ⟨d, f, .hold (.unwrap d), false⟩ else final d f false
  else if st = 2 ∧ (frClass f = 4 ∨ frKind f = 3) then ⟨d, f, .queue, false⟩
  else if frKind f = 7 then ⟨d, f, .silent, false⟩
  else if !oneWay then ⟨d, f, .cut, false⟩
  else if frWrap f = 1 ∨ s.dirLost (1 - d) then ⟨d, f, .wrapDrop, false⟩
  else final (1 - d) (frPutWrap f 1) true

/-- A copy for a stack lane: dropped as unreachable while the lane is not UP (R212). DEDUCED, log entry 17. -/
def State.stackCopy (s : State) (f : Frame) (p : Nat) : Copy :=
  if s.laneUp p then ⟨p, f, .queue, false⟩ else ⟨p, f, .unreach, false⟩

/-- A copy for LOC. DEDUCED, log entry 17. -/
def locCopy (f : Frame) : Copy := ⟨4, f, .queue, false⟩

/-- The ring copies of a frame that counts as originated at the master (R210, R213, R216, R242). -/
def State.ringOrig (s : State) (f : Frame) : List Copy :=
  if !s.listed ∧ frKind f ≠ 3 then [⟨0, f, .unreachQuiet, false⟩]
  else if s.dupClass (frClass f) && frKind f != 3 && frKind f != 7 then
    [s.ringCopy (frPutDir (frPutDup f 1) 0) 0, s.ringCopy (frPutDir (frPutDup f 1) 1) 1]
  else
    let g := frPutDup f 0
    if frDst f = 0xFF then
      if s.get FWD_REACH_CW = 255 ∧ s.get FWD_REACH_CCW = 255 then [s.ringCopy (frPutDir g 0) 0]
      else [s.ringCopy (frPutDir g 0) 0, s.ringCopy (frPutDir g 1) 1]
    else
      let d := s.wayOf f
      if d = 2 then [⟨0, f, .unreach, false⟩]
      else
        let c := s.ringCopy (frPutDir g d) d
        match s.pinnedQ (frClass f) (frVc f) with
        | none => [c]
        | some q =>
          match s.fwd.drains.find? fun x => x.q == q && x.frm == 1 - d && x.entries.any fun e => e.1 == nodeIdx f with
          | some x => [{ c with fate := if c.fate = .queue then .hold (.drain x.q x.frm) else c.fate }]
          | none => [c]

/-- The ports a multicast group's entry allows (R217, R220); the RING bit is ignored off the master. -/
def State.groupAllows (s : State) (g p : Nat) : Bool :=
  match p with
  | 2 => s.on (FWD_MCT_S0 g)
  | 3 => s.on (FWD_MCT_S1 g)
  | 4 => s.on (FWD_MCT_LOC g)
  | _ => s.on (FWD_MCT_RING g)

/-- The egress copies of a frame that entered by a port (R210, R211); port 4 is LOC. -/
def State.egress (s : State) (inPort : Nat) (f : Frame) : List Copy :=
  let own := s.node
  let s0 : List Copy := if s.laneUp 2 then [⟨2, f, .queue, false⟩] else []
  if frDst f = 0xFF then
    let allow (p : Nat) : Bool := frMcast f == 0 || s.groupAllows (frGroup f) p
    let ring : List Copy :=
      if !allow 0 then []
      else if inPort ≤ 1 then [s.ringCopy f (1 - inPort)]
      else if s.master && inPort != 3 then s.ringOrig f
      else []
    let up : List Copy :=
      if inPort ≥ 2 ∧ inPort ≠ 3 ∧ !s.master ∧ allow 3 then [s.stackCopy f 3] else []
    if frMcast f = 1 ∧ !s.on (FWD_MCT_VALID (frGroup f)) then [⟨4, f, .unreachQuiet, false⟩]
    else
      (if allow 4 then [locCopy f] else []) ++ (if inPort ≠ 2 ∧ allow 2 then s0 else []) ++ up ++ ring
  else if frDst f = own then
    if frDstChip f = s.chip then [locCopy f]
    else if frDstChip f > s.chip then [s.stackCopy f 2]
    else [s.stackCopy f 3]
  else if inPort ≤ 1 then (if !s.listed ∧ frKind f = 3 then [locCopy f] else []) ++ [s.ringCopy f (1 - inPort)]
  else if inPort = 3 then [⟨3, f, .unreach, false⟩]
  else if s.master then s.ringOrig f
  else [s.stackCopy f 3]

/-! ### Placing copies -/

/-- What a copy that is not queued leaves behind: its counters, events and faults. -/
def State.dropCopy (s : State) (inPort : Nat) (c : Copy) : State :=
  match c.fate with
  | .cut => s.bump (RED_CNT 8)
  | .wrapDrop => s.bump (RED_CNT 7)
  | .noslot => ((s.bump (RPE_CNT 3)).put RPE_EVT_NOSLOT 1).fault 0x0C 0x37 (frSlot c.frame)
  | .unreach => s.dropUnreach inPort c.frame
  | .unreachQuiet => s.unreachLog inPort c.frame
  | _ => s

/-- Whether a copy wants cells. -/
def Copy.wants (c : Copy) : Bool := match c.fate with | .queue => true | .hold _ => true | _ => false

/-- Whether every copy of a frame that wants cells has room, all of them together (R208, R227).
DEDUCED, log entry 14. -/
def State.roomFor (s : State) (l : List Copy) : Bool :=
  (l.foldl (fun (a : Option Nat) c =>
    match a with
    | none => none
    | some taken =>
      if c.wants then
        (s.fitsWith taken c.port (queueOf (frClass c.frame) (frVc c.frame)) (frCells c.frame)).map fun sp =>
          if sp then taken + frCells c.frame else taken
      else some taken) (some 0)).isSome

/-- Puts a frame that has room behind the others of its queue, or holds it; a wrapped frame counts in WRAPPED. -/
def State.putCopy (s : State) (c : Copy) (qi : Nat) (x : QFrame) (spare : Bool) : State :=
  let s1 := s.when c.wrapped fun s => s.bump (RED_CNT 6)
  match c.fate with
  | .hold why =>
    { s1 with fwd := { s1.fwd with held := s1.fwd.held ++ [⟨why, c.port, qi, { x with f := c.frame, spare := spare }⟩] } }
  | _ => s1.enqueue c.port qi { x with f := c.frame } spare

/-- Places one copy, or drops it. `t` is when the frame came, in units of 1/1,024 ns; `multi` says whether it has more than
one egress port (R226, R227); `cells` are those the frame stands in. -/
def State.placeCopy (s : State) (inPort : Nat) (own multi : Bool) (t : Int) (cells : List Nat) (c : Copy) : State :=
  let cls := frClass c.frame
  let qi := queueOf cls (frVc c.frame)
  if c.wants then
    match s.fits c.port qi (frCells c.frame) with
    | none => if multi then (s.bump (FWD_CNT c.port 6)).put FWD_EVT_MCDROP 1 else s.dropFull c.port cls
    | some sp => s.putCopy c qi ⟨c.frame, s.get FWD_STAT_GEN, inPort, false, own, t, cells⟩ sp
  else s.dropCopy inPort c

/-- Gives a frame that stood queued or held for a ring lane the lane's present treatment (R240, R246): it stays on the
lane, moves to the other one behind the frames there, waits for an unwrap hold, or is dropped. -/
def State.retreat (s : State) (d qi : Nat) (x : QFrame) : State :=
  let c := s.ringCopy x.f d
  if !c.wants then s.dropCopy x.inPort c
  else if c.port = d then s.putCopy c qi x x.spare
  else match s.fits c.port qi (frCells c.frame) with
    | none => s.dropFull c.port (frClass c.frame)
    | some sp => s.putCopy c qi x sp

/-- Writes a decided frame into cells, and places every copy of it; the cells of a frame none of whose copies stays are free
again. DESIGN CHOICE, log entry 53. -/
def State.place (s : State) (inPort : Nat) (own : Bool) (t : Int) (l : List Copy) : State :=
  match l with
  | [] => s
  | c :: _ =>
    let multi := decide (1 < (l.filter Copy.wants).length)
    let w := s.writeCells c.frame
    w.1.each l fun s c => s.placeCopy inPort own multi t w.2 c

/-- The response that a frame's drop as unreachable owes (R212). -/
def owed (f : Frame) (l : List Copy) : List FrameSpec :=
  if isFabReq f && l.any fun c => c.fate == .unreach then [fabRsp f 0x01 []] else []

/-! ### Origination at LOC (R208) -/

/-- Frames of one class originated with DUP 1 in this cycle (R236). -/
def State.dupCount (s : State) (cls : Nat) : Nat := Tab.get (fun _ => 0) s.red.dupCnt cls

/-- The next SEQ of a class (R174). -/
def State.seqOf (s : State) (cls : Nat) : Nat := Tab.get (fun _ => 0) s.fwd.seq cls

/-- Advances the SEQ counter of a class, wrapping (R174). -/
def State.nextSeq (s : State) (cls : Nat) : State :=
  { s with fwd := { s.fwd with seq := Tab.set (fun _ => 0) s.fwd.seq cls ((s.seqOf cls + 1) % 65536) } }

/-- Whether a stream queue is a twin flow (R255). DEDUCED, log entry 18. -/
def State.twinQ (s : State) (q : Nat) : Bool :=
  if q < 32 then s.getBit RED_TWIN_Q_LO_Q q else s.getBit RED_TWIN_Q_HI_Q (q - 32)

/-- Identity of an originated frame. -/
inductive Ident where
  | own | twin | mute | quiet | waitNext
deriving DecidableEq, Repr

/-- The identity a producer's frame takes (R255): a twin flow's in HOLD or the overlap, the hub's own otherwise; a twin flow
is muted outside, and its ninth frame of a class waits for the next cycle. -/
def State.identOf (s : State) (cls prod : Nat) : Ident :=
  if prod < 16 ∨ !s.twinQ (prod - 16) then .own
  else
    let hold := s.get RED_TWIN_STAT_STATE == 2
    if s.dupClass cls then
      if (hold || s.red.overlap) && s.get RED_TWIN_STAT_PAIR_NODE != 0xFE then
        if Tab.get (fun _ => 0) s.red.twinN cls ≥ 8 then .waitNext else .twin
      else .mute
    else if hold then .own else .quiet

/-- The frame a producer's words become (R167 to R170): SRC, SEQ and TSTAMP by its identity; a census frame of a hub that is not
listed has SRC_NODE 0xFE (R181).
DEDUCED, log entry 15. -/
def State.buildFrame (s : State) (p : FrameSpec) (id : Ident) : Frame :=
  match id with
  | .twin => p.build (s.get RED_TWIN_STAT_PAIR_NODE) 1
      (Tab.get (fun _ => 0) s.red.twinSeq p.cls) s.now
  | _ => p.build (if p.kind = 3 && !s.listed then 0xFE else s.node) s.chip (s.seqOf p.cls) s.now

/-- Whether R236 limits a frame: it leaves with DUP 1, or a stacked hub originates it in class 6 or 7. -/
def State.dupLimited (s : State) (p : FrameSpec) (l : List Copy) : Bool :=
  (l.any fun c => frDup c.frame == 1) || (!s.master && (p.cls == 6 || p.cls == 7))

/-- Whether a frame must wait for the next cycle (R236). -/
def State.overLimit (s : State) (p : FrameSpec) (l : List Copy) : Bool :=
  s.dupLimited p l && decide (s.get RED_STAT_DUP_LIMIT ≤ s.dupCount p.cls)

/-- The copies of an originated frame: on the lane its rule prescribes, or under the forwarding decision. -/
def State.specCopies (s : State) (p : FrameSpec) (f : Frame) : List Copy :=
  match p.via with
  | none => s.egress 4 f
  | some l =>
    if 2 ≤ l then [s.stackCopy f l]
    else if !s.listed ∧ frKind f ≠ 3 then [⟨l, f, .unreachQuiet, false⟩]
    else [s.ringCopy (frPutDir (frPutDup f 0) l) l]

/-- Tries to originate a frame: `none` while it must wait (R208, R236, R255); otherwise the state after it is queued or
dropped, and the response its drop owes. -/
def State.tryOrig (s : State) (p : FrameSpec) (prod : Nat) : Option (State × List FrameSpec) :=
  match s.identOf p.cls prod with
  | .mute => some (s.bump (RED_CNT 11), [])
  | .quiet => some (s, [])
  | .waitNext => none
  | id =>
    let f := s.buildFrame p id
    let l := s.specCopies p f
    if s.overLimit p l then none
    else if !s.roomFor l then none
    else
    let s0 := (s.bump (FWD_CNT 4 0)).count (FWD_CNT 4 1) (frBytes f)
    if l.any fun c => c.fate == .unreachQuiet then some (s0.unreachLog 4 f, [])
    else
      let s1 := s0.place 4 true (s.now * 4096) l
      let s2 := if s.dupLimited p l then
          { s1 with red := { s1.red with dupCnt := Tab.set (fun _ => 0) s1.red.dupCnt p.cls (s1.dupCount p.cls + 1) } }
        else s1
      let s3 := match id with
        | .twin =>
          { s2 with red := { s2.red with
              twinSeq := Tab.set (fun _ => 0) s2.red.twinSeq p.cls (Tab.get (fun _ => 0) s2.red.twinSeq p.cls + 1)
              twinN := Tab.set (fun _ => 0) s2.red.twinN p.cls (Tab.get (fun _ => 0) s2.red.twinN p.cls + 1) } }
        | _ => s2.nextSeq p.cls
      some (s3, owed f l)

/-- Leaves a frame waiting at LOC; THROTTLE counts it once, when the limit of R236 is what it waits for. -/
def State.locWait (s : State) (w : LocWait) : State :=
  let thr := !w.thr && s.overLimit w.spec (s.specCopies w.spec (s.buildFrame w.spec .own))
  let s1 := if thr then s.bump (RED_CNT 5) else s
  { s1 with fwd := { s1.fwd with locWait := s1.fwd.locWait ++ [{ w with thr := w.thr || thr }] } }

/-- The ports on which a frame would be queued now. -/
def State.portsOf (s : State) (p : FrameSpec) : List Nat :=
  ((s.specCopies p (s.buildFrame p .own)).filter Copy.wants).map (·.port)

/-- Whether an earlier frame waits behind which a new one must wait: of the same class and channel, and from the same producer
(R218) or for a port that the new one takes too (R208). DEDUCED, log entry 15. -/
def State.locBlocked (s : State) (p : FrameSpec) (prod : Nat) : Bool :=
  let ports := s.portsOf p
  s.fwd.locWait.any fun w => w.spec.cls == p.cls && w.spec.vc == p.vc &&
    ((w.prod == prod && (prod < 5 || 16 ≤ prod)) || (s.portsOf w.spec).any ports.contains)

/-- Originates a frame that owes no response of its own. DEDUCED, log entry 15. -/
def State.orig1 (s : State) (p : FrameSpec) (prod : Nat) : State × List FrameSpec :=
  if s.inReset 0x0D then (s, [])
  else if s.idling 0x0D || s.locBlocked p prod then (s.locWait ⟨p, prod, false⟩, [])
  else match s.tryOrig p prod with
    | some r => r
    | none => (s.locWait ⟨p, prod, false⟩, [])

/-- Originates a frame at LOC, and the response its drop owes (R208, R212). -/
def State.originate (s : State) (p : FrameSpec) (prod : Nat) : State :=
  let r := s.orig1 p prod
  r.1.each r.2 fun s q => (s.orig1 q 8).1

/-- Offers the frames that wait at LOC again, in their order, after space may have been freed or a cycle has begun. -/
def State.locPump (s : State) : State :=
  if s.idling 0x0D then s else
  let ws := s.fwd.locWait
  (ws.foldl (fun (a : State × List FrameSpec) w =>
    if a.1.locBlocked w.spec w.prod then (a.1.locWait w, a.2)
    else match a.1.tryOrig w.spec w.prod with
      | some r => (r.1, a.2 ++ r.2)
      | none => (a.1.locWait w, a.2))
    ({ s with fwd := { s.fwd with locWait := [] } }, [])) |> fun r => r.1.each r.2 fun s q => (s.orig1 q 8).1

/-! ### Drains (R216) -/

/-- The bit of a drain in FWD_DRAIN. -/
def State.setDrainBit (s : State) (q frm : Nat) (v : Bool) : State :=
  let f := if frm = 0 then FWD_DRAIN_FROM_CW else FWD_DRAIN_FROM_CCW
  if v then s.setBit f q else s.clrBit f q

/-- The node-table entries that are in use. -/
def State.entries (s : State) : List Nat :=
  s.regs.filterMap fun e =>
    if FWD_NODET 0 ≤ e.1 ∧ e.1 < FWD_NODET 1024 ∧ e.2.toNat.testBit 0 ∧ (e.1 - FWD_NODET 0) / 4 / 4 ≠ s.node then
      some ((e.1 - FWD_NODET 0) / 4)
    else none

/-- The active pin table as one number: bit b is the DIR bit of bucket b. -/
def State.pins (s : State) : Nat := (List.range 128).foldl (fun a w => a + (s.rd (FWD_PINT w)).toNat * 2 ^ (32 * w)) 0

/-- The pairs of DIR bits that some bucket has in two pin tables. -/
def pinPairs (o n : Nat) : List (Nat × Nat) :=
  let top := 2 ^ 4096 - 1
  [(0, 0), (0, 1), (1, 0), (1, 1)].filter fun p =>
    ((if p.1 = 1 then o else top ^^^ o) &&& (if p.2 = 1 then n else top ^^^ n)) != 0

/-- The entries with MODE 0 or 1 of which a change moves some flow from X to the other direction, with the directions before the
change. `old` is the hub before the change. A flow takes the DIR bits of its bucket. -/
def State.movedEntries (old new : State) (x : Nat) : List (Nat × Nat × Nat) :=
  let ps := pinPairs old.pins new.pins
  (new.entries.filter fun i => new.get (FWD_NODET_MODE i) ≤ 1).filterMap fun i =>
    if ps.any fun p => old.entryDir i p.1 == x && new.entryDir i p.2 == 1 - x then
      some (i, old.entryDir i 0, old.entryDir i 1)
    else none

/-- Whether every flow that a drain's change moved goes in the direction left again (R216). -/
def State.returned (s : State) (x : Drain) : Bool :=
  let ps := pinPairs x.pins s.pins
  x.entries.all fun e => ps.all fun p => (if p.1 = 0 then e.2.1 else e.2.2) != x.frm || s.entryDir e.1 p.2 == x.frm

/-- The class and channel of a pinned queue. -/
def pinnedClass (q : Nat) : Nat × Nat := if q ≤ 3 then (q, 0) else (5, q - 4)

/-- The marker of a drain (R217). -/
def markSpec (s : State) (q frm id : Nat) : FrameSpec :=
  let c := pinnedClass q
  FrameSpec.plain c.1 c.2 6 s.node s.chip 0
    [BitVec.ofNat 64 (1 + c.1 * 2 ^ 8 + c.2 * 2 ^ 11 + frm * 2 ^ 12 + id % 65536 * 2 ^ 16)]

/-- Opens a drain: its bit, and its marker at the end of queue q on the direction left. An unlisted hub drops the marker at
origination (R181). DEDUCED, log entry 16. -/
def State.openDrain (s : State) (q frm : Nat) (es : List (Nat × Nat × Nat)) (pins : Nat) : State :=
  let id := (s.fwd.markId + 1) % 65536
  let s1 : State := { s with fwd := { s.fwd with
      drains := s.fwd.drains ++ [⟨q, frm, id, es, pins⟩], markId := id
      lastMark := Tab.set (fun _ => 0) s.fwd.lastMark (2 * q + frm) id } }
  let s2 := s1.setDrainBit q frm true
  let p := markSpec s2 q frm id
  let f := frPutDir (p.build s2.node s2.chip (s2.seqOf p.cls) s2.now) frm
  if !s2.listed then s2.unreachLog 4 f
  else
    let w := s2.writeCells f
    let s3 := w.1
    let c := s3.ringCopy f frm
    let x : QFrame := ⟨c.frame, s3.get FWD_STAT_GEN, 4, false, true, s3.now * 4096, w.2⟩
    match c.fate with
    | .queue => (s3.enqueue c.port (queueOf p.cls p.vc) x false).nextSeq p.cls
    | .hold w =>
      let s4 : State := { s3 with fwd := { s3.fwd with held := s3.fwd.held ++ [⟨w, c.port, queueOf p.cls p.vc, x⟩] } }
      s4.nextSeq p.cls
    | _ => (s3.dropCopy 4 c).nextSeq p.cls

/-- Releases the frames held by `why` onto a direction's lane, in order: each under the present treatment of that lane. -/
def State.releaseHeld (s : State) (why : HoldWhy) (d : Nat) : State :=
  let hs := s.fwd.held.filter fun h => h.why == why
  let s1 : State := { s with fwd := { s.fwd with held := s.fwd.held.filter fun h => h.why != why } }
  s1.each hs fun s h => s.retreat d h.qi { h.qf with f := frPutDir h.qf.f d }

/-- Closes a drain and releases its frames to a direction. -/
def State.closeDrain (s : State) (x : Drain) (d : Nat) : State :=
  let s1 : State := { s with fwd := { s.fwd with drains := s.fwd.drains.filter fun y => !(y.q == x.q && y.frm == x.frm) } }
  ((s1.setDrainBit x.q x.frm false).releaseHeld (.drain x.q x.frm) d).locPump

/-- The drains a change of FWD_REACH or of the active tables opens, and those whose entries have returned (R216). `old` is
the hub before the change. DEDUCED, log entry 16. -/
def State.drainsAfter (s old : State) : State :=
  let s1 := s.each s.fwd.drains fun s x =>
    if s.returned x then s.closeDrain x x.frm else s
  s1.each [0, 1] fun s d =>
    let es := State.movedEntries old s d
    if es.isEmpty then s
    else s.each (List.range 6) fun s q =>
      let pinned := q ≤ 3 || !s.on RPE_CTL_DUP5
      if pinned && !(s.fwd.drains.any fun x => x.q == q && x.frm == d) then s.openDrain q d es old.pins else s

/-- Sets FWD_REACH of a direction, with the drains the change opens (R216, R244). -/
def State.setReach (s : State) (d v : Nat) : State :=
  if s.reach d = v then s
  else (s.put (if d = 0 then FWD_REACH_CW else FWD_REACH_CCW) v).drainsAfter s

/-- A marker comes back on a ring lane: FWD consumes it. It closes its drain if ID names the last one sent (R216, R217). -/
def State.markRx (s : State) (word : Nat) : State :=
  let cls := bits word 8 3
  let q := if cls ≤ 3 then cls else 4 + bits word 11 1
  let frm := bits word 12 1
  if bits word 0 8 = 1 ∧ Tab.get (fun _ => 0) s.fwd.lastMark (2 * q + frm) = bits word 16 16 then
    match s.fwd.drains.find? fun x => x.q == q && x.frm == frm && x.id == bits word 16 16 with
    | some x => (s.satAdd FWD_DRAIN_CNT_CLOSED 1).closeDrain x (1 - x.frm)
    | none => s
  else s

/-! ### The FWD fence (R223) -/

/-- The frames decided under an older generation than the present one; a frame with several copies is one (R225). -/
def State.olderFrames (s : State) : Nat :=
  ((s.allFrames.filter fun x => x.gen != s.get FWD_STAT_GEN).map (·.cells)).eraseDups.length

/-- A write of 1 to FWD_FENCE.START (R223). -/
def State.fwdFenceStart (s : State) : State :=
  if s.on FWD_FENCE_BUSY then s
  else
    let s1 : State := { s with fwd := { s.fwd with fenceGen := s.get FWD_STAT_GEN } }
    s1.put FWD_FENCE_BUSY 1

/-! ### The commands -/

/-- MARK_RX (R216): a marker with this hub's own source returns; the word is its payload.
DEDUCED, log entry 16. -/
def execMarkRx (word : DWord) (s : State) : Out :=
  if s.inReset 0x0D then .next s else
  .next (s.markRx word.toNat)

/-- DRAIN_TIMEOUT (R216): a drain still open releases its frames to the new direction. -/
def execDrainTimeout (q : Fin 6) (frm : Fin 2) (s : State) : Out :=
  if s.inReset 0x0D then .next s else
  .next (match s.fwd.drains.find? fun x => x.q == q.val && x.frm == frm.val with
    | some x =>
      (((s.satAdd FWD_DRAIN_CNT_TIMEOUTS 1).put FWD_EVT_DRAIN_TO 1).fault 0x0D 0x3B (q.val + 2 ^ 8 * frm.val)).closeDrain x
        (1 - frm.val)
    | none => s)

/-- FWD_FENCE_START (R223). -/
def execFwdFenceStart (s : State) : Out := .next (s.cmd FWD_FENCE State.fwdFenceStart)

/-- FWD_FENCE_DONE (R223): the fence completes only when no frame of an older generation remains.
DEDUCED, log entry 16. -/
def execFwdFenceDone (s : State) : Out :=
  if s.inReset 0x0D then .next s else
  .next (if s.on FWD_FENCE_BUSY && s.olderFrames == 0 then
    ((s.put FWD_FENCE_BUSY 0).put FWD_FENCE_DONE 1).put FWD_EVT_FENCE_DONE 1
  else s)

/-- FWD_FENCE_TIMEOUT (R223). -/
def execFwdFenceTimeout (s : State) : Out :=
  if s.inReset 0x0D then .next s else
  .next (if s.on FWD_FENCE_BUSY then
    (((s.put FWD_FENCE_BUSY 0).put FWD_FENCE_DONE 1).put FWD_FENCE_TIMEOUT 1).put FWD_FENCE_LEFT (min s.olderFrames 65535)
  else s)

end Sys2Proof.Machine
end

