-- ==== Sys2Proof/Machine/Fabric.lean ====
section
/-! DEFINITION. The requester side of the fabric: credits and tags, posted-write accounting, the write fences and the
semaphores (R26 to R28, R182, R183, R410 to R418, R425). -/
namespace Sys2Proof.Machine

/-! ### Addresses -/

/-- NODE of a fabric address. -/
def fabNode (a : Nat) : Nat := a / 2 ^ 40 % 256
/-- CHIP of a fabric address. -/
def fabChip (a : Nat) : Nat := a / 2 ^ 38 % 4
/-- OFFSET of a fabric address. -/
def fabOff (a : Nat) : Nat := a % 2 ^ 38

/-- The node a request goes to: 0xFE is this node (R26, R27). -/
def State.dstNode (s : State) (a : Nat) : Nat := if fabNode a = 0xFE then s.node else fabNode a

/-- Whether a request stays in this hub. -/
def State.isLocal (s : State) (a : Nat) : Bool := s.dstNode a == s.node && fabChip a == s.chip

/-- Whether an unlisted hub refuses a request (R181). -/
def State.notMember (s : State) (a : Nat) : Bool := !s.listed && s.dstNode a != s.node

/-- The number of a destination in a destination set (R413). -/
def State.destBit (s : State) (a : Nat) : Nat := s.dstNode a * 4 + fabChip a

/-- Payload word 0 of a request or response (R410). -/
def fabWord0 (op status size beats : Nat) : DWord :=
  BitVec.ofNat 64 (op % 256 + status % 256 * 2 ^ 8 + size % 8 * 2 ^ 16 + (if size = 4 then (beats - 1) % 8 else 0) * 2 ^ 19)

/-- The frame of a request (R410): class 5, VC 0, KIND FABRIC. -/
def State.reqSpec (s : State) (tag op size beats addr : Nat) (data : List DWord) : FrameSpec :=
  FrameSpec.plain 5 0 1 (s.dstNode addr) (fabChip addr) tag
    (fabWord0 op 0 size beats :: BitVec.ofNat 64 (addr % 2 ^ 48) :: data)

/-! ### Posted writes (R413, R414) -/

/-- The present EPOCH of a requester. -/
def State.epoch (s : State) (r : Nat) : Nat := if r ≤ 4 then s.get (HBR_FENCE_STAT_EPOCH r) else 0

/-- The TAG of a request: REQ, EPOCH and a number (R410). -/
def State.mkTag (s : State) (r n : Nat) : Nat := n % 4096 + s.epoch r * 2 ^ 12 + r % 8 * 2 ^ 13

/-- The destination set of a requester. -/
def State.destSet (s : State) (r : Nat) : List Nat := Tab.get (fun _ => []) s.fab.dest r

/-- Replaces a destination set. -/
def State.setDest (s : State) (r : Nat) (l : List Nat) : State :=
  { s with fab := { s.fab with dest := Tab.set (fun _ => []) s.fab.dest r l } }

/-- The acceptance of a posted write puts its destination into the set; a broadcast sets no bit (R413). -/
def State.accepted (s : State) (r addr : Nat) : State :=
  if fabNode addr = 0xFF ∨ 4 < r ∨ s.destBit addr ∈ s.destSet r then s
  else s.setDest r ((s.destSet r ++ [s.destBit addr]).mergeSort)

/-- Failures kept for a requester's next fence. -/
def State.nextFail (s : State) (r : Nat) : Nat × Nat × Nat := Tab.get (fun _ => (0, 0, 0)) s.fab.next r

/-- Counts a failure against the running fence of a requester (R416). -/
def State.fenceFail (s : State) (r status addr : Nat) : State :=
  let s1 := s.satAdd (HBR_FENCE_STAT_NFAIL r) 1
  if s.get (HBR_FENCE_STAT_NFAIL r) = 0 then
    ((s1.put (HBR_FENCE_STAT_FIRST r) status).put (HBR_FENCE_ADDR_LO_ADDR r) addr).put (HBR_FENCE_ADDR_HI_ADDR r)
      (addr / 2 ^ 32)
  else s1

/-- A failure response to a posted write is consumed (R414, R416): log, fault, interrupt, and the fence window that the
TAG's EPOCH names. -/
def State.pwFail (s : State) (tag status addr : Nat) : State :=
  let r := tag / 2 ^ 13 % 8
  let s1 := (((s.put HBR_PWLOG0_STATUS status).put HBR_PWLOG0_REQ r).put HBR_PWLOG0_TAG tag).put HBR_PWLOG1_ADDR addr
  let s2 := ((s1.put HBR_PWLOG2_ADDR (addr / 2 ^ 32)).satAdd HBR_PWLOG2_COUNT 1).fault 0x14 0x0C addr
  let s3 := ((s2.bump (HBR_CNT 3)).put HBR_EVT_PWF 1).when (decide (r ≤ 4)) fun s => s.edgeIrq 0x14
    (if r = 0 then 46 else if r = 1 then 47 else if r ≤ 3 then 48 else 49)
  let s4 := if r = 4 then s3.put HBR_HST_PWF 1 else s3
  if 4 < r then s4
  else if s.on (HBR_FENCE_STAT_BUSY r) && tag / 2 ^ 12 % 2 != s.epoch r then s4.fenceFail r status addr
  else
    let n := s.nextFail r
    { s4 with fab := { s4.fab with
        next := Tab.set (fun _ => (0, 0, 0)) s4.fab.next r
          (min 65535 (n.1 + 1), if n.1 = 0 then (status, addr % 2 ^ 48) else n.2) } }

/-- Posts a write to another hub (R181, R413): an unlisted hub refuses it with NOT_MEMBER, which reports under R414.
DEDUCED, log entry 35. -/
def State.postWrite (s : State) (r tag size beats addr : Nat) (data : List DWord) : State :=
  if s.notMember addr then s.pwFail tag 0x03 addr
  else if s.inReset 0x0D then (s.accepted r addr).pwFail tag 0x08 addr
  else (s.accepted r addr).originate (s.reqSpec tag 2 size beats addr data) r

/-- A response record for the host lane (R422): HTAG in bits [63:48] of word 1. -/
def laneRecord (op status size beats addr htag : Nat) (data : List DWord) : List DWord :=
  fabWord0 op status size beats :: BitVec.ofNat 64 (addr % 2 ^ 48 + htag % 2 ^ 16 * 2 ^ 48) :: data

/-! ### What a response does (R411, R412) -/

/-- Bytes of an access. -/
def accBytes (size beats : Nat) : Nat := if size = 4 then 32 * beats else 2 ^ size

/-- The number spelled by data words, the first one lowest. -/
def dataNum : List DWord → Nat
  | [] => 0
  | w :: r => w.toNat + 2 ^ 64 * dataNum r

/-- A host tag. -/
def State.hTag (s : State) (t : Nat) : Option HTag := Tab.get (fun _ => none) s.hbr.tags t

/-- Replaces a host tag. -/
def State.setHTag (s : State) (t : Nat) (h : Option HTag) : State :=
  { s with hbr := { s.hbr with tags := Tab.set (fun _ => none) s.hbr.tags t h } }

/-- A part of a host tag's result has come (R420): the first error is the status, and after the last part READY. -/
def State.tagPart (s : State) (t at_ status : Nat) (bs : List Byte) : State :=
  match s.hTag t with
  | none => s
  | some h =>
    let st := if h.status = 0 then status else h.status
    let d := if status = 0 then Tab.setList (fun _ => none) h.data at_ (bs.map some) else h.data
    let s1 := s.setHTag t (some { h with due := h.due - 1, status := st, data := d })
    if h.due ≤ 1 then (s1.setBit HBR_HST_READY t).put HBR_EVT_READY 1 else s1

/-- Notes the first error of a DMA channel (R54). DESIGN CHOICE, log entry 19. -/
def State.dmaErr (s : State) (ch kind : Nat) : State :=
  let d := Tab.get (fun _ => DmaSt.init) s.dma ch
  if d.err ≠ 0 then s else { s with dma := Tab.set (fun _ => DmaSt.init) s.dma ch { d with err := kind } }

/-- A response ends a request for whoever made it; the data of a DMA read goes on to its destination elsewhere. -/
def State.finish (s : State) (q : FReq) (status : Nat) (data : List DWord) : State :=
  let ok := if status = 0 then data else []
  match q.use with
  | .direct => s.answer (whoKey (s.ownWho q.req)) status (dataNum ok)
  | .fence r => if status = 0 then s else s.fenceFail r status q.addr
  | .tag t at_ => s.tagPart t at_ status (leBytes (accBytes q.size q.beats) (dataNum ok))
  | .lane h => { s with hbr := { s.hbr with rsp := s.hbr.rsp ++ [laneRecord q.op status q.size q.beats q.addr h ok] } }
  | .dma ch _ => if status = 0 then s else s.dmaErr ch (if status = 0x04 ∨ status = 0x0B then 4 else 1)

/-! ### Credits and tags (R182, R183) -/

/-- Who holds a requester's credits: M0, M1, DMA and HBR each; CFG and RPE are not named. -/
def credPool (r : Nat) : Nat := if r = 3 then 2 else r

/-- The credits of a pool. -/
def State.credits (s : State) : Nat := min 64 (max 1 (s.get RPE_CTL_CRED))

/-- Whether a requester holds a credit. -/
def State.hasCredit (s : State) (r : Nat) : Bool :=
  decide (4 < r) || decide ((s.fab.out.filter fun o => credPool o.q.req == credPool r).length < s.credits)

/-- Whether a TAG may be used: not outstanding, and not resting after a time-out. -/
def State.tagFree (s : State) (tag : Nat) : Bool :=
  !(s.fab.out.any fun o => o.tag == tag) && !(s.fab.rest.any fun x => x.1 == tag && decide (s.now < x.2))

/-- The number the hub chooses for a requester: the first free one from the last on. DEDUCED, log entry 35. -/
def State.pickNum (s : State) (r : Nat) : Nat :=
  let n0 := Tab.get (fun _ => 0) s.fab.num r
  match (List.range 4096).find? fun k => s.tagFree (s.mkTag r (n0 + k)) with
  | some k => (n0 + k) % 4096
  | none => n0

/-- Issues a request that holds its credit; a switch core in reset takes none, and the request ends with IN_RESET (R88).
DEDUCED, log entry 35. -/
def State.issue (s : State) (q : FReq) : State :=
  if s.inReset 0x0D then s.finish q 0x08 [] else
  let n := s.pickNum q.req
  let tag := s.mkTag q.req n
  let s1 : State := { s with fab := { s.fab with
      num := Tab.set (fun _ => 0) s.fab.num q.req ((n + 1) % 4096)
      out := s.fab.out ++ [⟨tag, q, s.now⟩] } }
  s1.originate (s1.reqSpec tag q.op q.size q.beats q.addr q.data) q.req

/-- Issues the requests that wait, as far as credits allow, each requester's in order. -/
def State.creditPump (s : State) : State :=
  let ws := s.fab.wait
  ({ s with fab := { s.fab with wait := [] } } : State).each ws fun s q =>
    if s.hasCredit q.req && !(s.fab.wait.any fun w => w.req == q.req) then s.issue q
    else { s with fab := { s.fab with wait := s.fab.wait ++ [q] } }

/-- Sends a non-posted request to another hub, now or when a credit comes. -/
def State.request (s : State) (q : FReq) : State :=
  ({ s with fab := { s.fab with wait := s.fab.wait ++ [q] } } : State).creditPump

/-! ### The write fence (R415, R416) -/

/-- Issues the FENCE of one destination: this hub answers its own as soon as the requester's earlier requests to it have been
performed, and an unlisted hub reaches no other. The bit set while the hub's node was still 0xFE is its own too.
DEDUCED, log entry 35. -/
def State.fenceIssue (s : State) (r b : Nat) : State :=
  let addr := fabAddr (b / 4) (b % 4) 0
  if s.isLocal addr then
    (if s.hereAll.any fun q => q.req == r then
      { s with fab := { s.fab with here := s.fab.here ++ [(0, ⟨.fence r, r, 6, 0, 0, addr, []⟩)] } }
    else s)
  else if s.notMember addr then s.fenceFail r 0x03 addr
  else s.request ⟨.fence r, r, 6, 0, 0, addr, []⟩

/-- A start of a requester's fence (R415). -/
def State.fenceStart (s : State) (r : Nat) : State :=
  if s.on (HBR_FENCE_STAT_BUSY r) || s.idling 0x14 then s
  else
    let n := s.nextFail r
    let s1 := ((s.put (HBR_FENCE_STAT_BUSY r) 1).put (HBR_FENCE_STAT_EPOCH r) (1 - s.epoch r)).put (HBR_FENCE_STAT_NFAIL r) n.1
    let s2 := ((s1.put (HBR_FENCE_STAT_FIRST r) n.2.1).put (HBR_FENCE_ADDR_LO_ADDR r) n.2.2).put (HBR_FENCE_ADDR_HI_ADDR r)
      (n.2.2 / 2 ^ 32)
    let s3 : State := { s2 with fab := { s2.fab with next := Tab.set (fun _ => (0, 0, 0)) s2.fab.next r (0, 0, 0) } }
    let s4 := (if r = 4 then s3.put HBR_HST_FENCE_BUSY 1 else s3).setDest r []
    s4.each (s.destSet r) fun s b => s.fenceIssue r b

/-- Whether every FENCE of a running fence has been answered. -/
def State.fenceReady (s : State) (r : Nat) : Bool :=
  s.on (HBR_FENCE_STAT_BUSY r) && !(s.fab.out.any fun o => o.q.use == .fence r) && !(s.fab.wait.any fun q => q.use == .fence r) &&
    !(s.fab.here.any fun x => x.2.use == .fence r)

/-- The end of a fence (R416); the host's shows in HBR_HST, and answers the FENCE records that asked for it (R422). -/
def State.fenceEnd (s : State) (r : Nat) : State :=
  let fail := s.get (HBR_FENCE_STAT_NFAIL r) != 0
  let s1 := (((s.put (HBR_FENCE_STAT_BUSY r) 0).put (HBR_FENCE_STAT_DONE r) 1).when fail fun s =>
    s.put (HBR_FENCE_STAT_FAIL r) 1).bump (HBR_CNT 4)
  if r = 4 then
    let s2 := (((s1.put HBR_HST_FENCE_BUSY 0).put HBR_HST_FENCE_DONE 1).put HBR_HST_FENCE_FAIL (b2n fail)).put
      HBR_EVT_FENCE_DONE 1
    let addr := s2.get (HBR_FENCE_ADDR_LO_ADDR 4) + 2 ^ 32 * s2.get (HBR_FENCE_ADDR_HI_ADDR 4)
    let st := if fail then s2.get (HBR_FENCE_STAT_FIRST 4) else 0
    { s2 with hbr := { s2.hbr with
        rsp := s2.hbr.rsp ++ s2.hbr.fences.map fun h => laneRecord 6 st 0 0 addr h []
        fences := [] } }
  else s1

/-- FENCE_START (R415): a write to the CTL of a DMA channel has no effect. -/
def execFenceStart (r : Fin 5) (s : State) : Out :=
  .next (s.cmd (HBR_FENCE_CTL r.val) fun s => if r.val = 2 ∨ r.val = 3 then s else s.fenceStart r.val)

/-- FENCE_COMPLETE (R416): the last answer has arrived. -/
def execFenceComplete (r : Fin 5) (s : State) : Out :=
  if s.inReset 0x14 then .next s else
  .next (if s.fenceReady r.val then s.fenceEnd r.val else s)

/-- POSTED_WR_FAIL (R414): a failure response reaches LOC. While HBR is held in reset nothing consumes it. -/
def execPostedWrFail (tag : BitVec 16) (status : BitVec 8) (addr : BitVec 48) (s : State) : Out :=
  .next (if s.inReset 0x14 then s else s.pwFail tag.toNat status.toNat addr.toNat)

/-! ### Semaphores (R417, R418) -/

/-- The identity of a requester: SRC_NODE, SRC_CHIP and REQ. -/
def whoId (w : Who) : Nat := w.node.toNat + w.chip.val * 2 ^ 8 + w.req.val * 2 ^ 10

/-- A read of a semaphore (R417). DEDUCED, log entry 35. -/
def State.semRead (s : State) (k id : Nat) : State × Nat :=
  if s.on (HBR_SEM_HELD k) then (s, 2 ^ 31 + s.get (HBR_SEM_OWNER k))
  else ((s.put (HBR_SEM_HELD k) 1).put (HBR_SEM_OWNER k) id, 0)

/-- A write of a semaphore (R418): the state and the response's status. DEDUCED, log entry 35. -/
def State.semWrite (s : State) (k id : Nat) : State × Nat :=
  if s.on (HBR_SEM_HELD k) && s.get (HBR_SEM_OWNER k) == id then (s.clr (HBR_SEM k), 0) else (s, 0x0D)

/-- SEM_READ (R417). -/
def execSemRead (k : Fin 32) (who : Who) (s : State) : Out :=
  .next (s.readCmd (HBR_SEM k.val) (whoKey who) fun s => s.semRead k.val (whoId who))

/-- SEM_WRITE (R418). -/
def execSemWrite (k : Fin 32) (who : Who) (s : State) : Out :=
  .next (s.ackCmd (HBR_SEM k.val) (whoKey who) fun s => s.semWrite k.val (whoId who))

/-- SEM_EXPIRED (R418): held for longer than HOLD_MS, 0 for ever. -/
def execSemExpired (k : Fin 32) (s : State) : Out :=
  if s.inReset 0x14 then .next s else
  .next (if s.on (HBR_SEM_HELD k.val) && s.on HBR_SEM_CTL_HOLD_MS then
    (((s.clr (HBR_SEM k.val)).bump (HBR_CNT 9)).put HBR_EVT_SEM_EXP 1).fault 0x14 0x59 k.val
  else s)

/-! ### The UNIT reset (R425) -/

/-- The fence of a requester at a UNIT reset of HBR (R425): one that runs ends with DONE, FAIL, one failure more and FIRST
IN_RESET; EPOCH stays, so that a failure still to come counts in the next fence, and the rest takes its reset values.
DEDUCED, log entry 35. -/
def State.fenceReset (s : State) (r : Nat) : State :=
  let s1 := (s.each [HBR_FENCE_STAT r, HBR_FENCE_ADDR_LO r, HBR_FENCE_ADDR_HI r] State.clr).put (HBR_FENCE_STAT_EPOCH r) (s.epoch r)
  if s.on (HBR_FENCE_STAT_BUSY r) then
    (((s1.put (HBR_FENCE_STAT_DONE r) 1).put (HBR_FENCE_STAT_FAIL r) 1).put (HBR_FENCE_STAT_NFAIL r)
      (min 65535 (s.get (HBR_FENCE_STAT_NFAIL r) + 1))).put (HBR_FENCE_STAT_FIRST r) 0x08
  else s1

/-- A UNIT reset of HBR (R425): semaphores, tags, buffers, fences and destination sets; its active registers, shadows, counters and
HBR_PWLOG stay, and its other registers take their reset values (R84). Its balls take the states of R99 until the next apply
(R100). DEDUCED, log entry 35. -/
def State.hbrReset (s : State) : State :=
  let s1 := (s.each (List.range 5) State.fenceReset).each ([HBR_HST, HBR_EVT, HBR_EVT_EN, HBR_STAT, HBR_HOSTMAC_LO,
    HBR_HOSTMAC_HI] ++ (List.range 32).map HBR_SEM) State.clr
  let mine (q : FReq) : Bool := q.req == 4 || match q.use with | .fence _ => true | _ => false
  let s2 := s1.when (s.on (HBR_FENCE_STAT_BUSY 4)) fun s =>
    ((s.put HBR_HST_FENCE_DONE 1).put HBR_HST_FENCE_FAIL 1).put HBR_EVT_FENCE_DONE 1
  ({ s2 with
    fwd := { s2.fwd with locWait := s2.fwd.locWait.filter fun w => w.prod != 4 }
    hbr := { State.reset.hbr with r99 := true }
    fab := { s2.fab with
      out := s2.fab.out.filter fun o => !mine o.q
      wait := s2.fab.wait.filter fun q => !mine q
      here := s2.fab.here.filter fun x => !mine x.2
      dest := [], next := [] }
    store := { s2.store with
      wait := s2.store.wait.filter fun x => !x.src.isOwn mine
      served := s2.store.served.filter fun x => !x.1.isOwn mine } } : State).creditPump

end Sys2Proof.Machine
end

