-- ==== Sys2Proof/Machine/Listen.lean ====
section
/-! DEFINITION. The listen condition of the message bus ports (R391, R392), which RED's anchor decides. -/
namespace Sys2Proof.Machine

/-- A port's record. -/
def State.mbOf (s : State) (n : Nat) : MbSt := Tab.get (fun _ => MbSt.init) s.mb n

/-- Writes a port's record. -/
def State.setMb (s : State) (n : Nat) (m : MbSt) : State := { s with mb := Tab.set (fun _ => MbSt.init) s.mb n m }

/-- The listen condition (R392). -/
def State.mbListen (s : State) (n : Nat) : Bool :=
  s.on (MB_CTL_LOM n) || (s.on RED_TWIN_CTL_TWIN && s.get RED_TWIN_STAT_STATE != 2)

/-- Whether a frame is in progress at a port. -/
def State.mbBusy (s : State) (n : Nat) : Bool := (s.mbOf n).sending.isSome || s.on (MB_STAT_RXING n)

/-- Follows the listen condition of one port (R391): ACTIVE leaves at the end of the frame in progress. -/
def State.listenPort (s : State) (n : Nat) : State :=
  let st := s.get (MB_STAT_STATE n)
  if st = 2 ∧ s.mbListen n ∧ !s.mbBusy n then s.put (MB_STAT_STATE n) 3
  else if st = 3 ∧ !s.mbListen n then s.put (MB_STAT_STATE n) 1
  else s

/-- Follows the listen condition of every port. -/
def State.listenCheck (s : State) : State := s.each (List.range 4) State.listenPort

end Sys2Proof.Machine
end

