-- ==== Sys2Proof/Machine/MsgBus.lean ====
section
/-! DEFINITION. The message bus ports: their states, their objects, transmission, errors and bus-off (R388 to R409). -/
namespace Sys2Proof.Machine

/-! ### Objects, directories and bitmaps -/

/-- The data bytes of a frame of a DLC: 8 at most in a classical frame (R388). -/
def dlcLen (fdf : Bool) (dlc : Nat) : Nat :=
  if dlc ≤ 8 then dlc
  else if !fdf then 8
  else [12, 16, 20, 24, 32, 48, 64].getD (dlc - 9) 64

/-- The store offset of object `i` of port `n` (R393). -/
def State.objOff (s : State) (n i : Nat) : Nat := s.partBase 4 + s.get (MB_OBJ_BASE n) * 256 + i * 80

/-- Whether object `i` exists, and is a transmit object when `tx` (R394). -/
def State.objIs (s : State) (n i : Nat) (tx : Bool) : Bool :=
  decide (i < min 1536 (s.get (MB_OBJ_COUNT n))) && s.on (MB_DIR_VALID n i) && (s.on (MB_DIR_TX n i) == tx)

/-- The VALID receive object of the lowest index for an identifier (R394). -/
def State.rxObject (s : State) (n id : Nat) (ide : Bool) : Option Nat :=
  (List.range (s.get (MB_OBJ_COUNT n))).find? fun i =>
    s.objIs n i false && s.get (MB_DIR_ID n i) == id && s.on (MB_DIR_IDE n i) == ide

/-- A bit of one of a port's bitmaps of 48 words. -/
def State.objBit (s : State) (map : Nat → Fld) (i : Nat) : Bool := s.getBit (map (i / 32)) (i % 32)

/-- Sets a bit of a bitmap. -/
def State.setObj (s : State) (map : Nat → Fld) (i : Nat) : State := s.setBit (map (i / 32)) (i % 32)

/-- Clears a bit of a bitmap. -/
def State.clrObj (s : State) (map : Nat → Fld) (i : Nat) : State := s.clrBit (map (i / 32)) (i % 32)

/-- The objects of a port that are pending, in index order. -/
def State.txPending (s : State) (n : Nat) : List Nat :=
  (List.range 48).flatMap fun w => (bitList 32 (s.get (MB_TXPEND_OBJ n w))).map (32 * w + ·)

/-- The arbitration field of an identifier in the order of the standard: base identifier, then SRR and IDE, then the
extension. -/
def arbField (id : Nat) (ide : Bool) : Nat :=
  if ide then id / 2 ^ 18 % 2 ^ 11 * 2 ^ 20 + 2 ^ 19 + 2 ^ 18 + id % 2 ^ 18 else id % 2 ^ 11 * 2 ^ 20

/-- The pending object a port offers (R398). DESIGN CHOICE, log entry 27. -/
def State.txChoice (s : State) (n : Nat) : Option Nat :=
  let key (i : Nat) : Nat := arbField (s.get (MB_DIR_ID n i)) (s.on (MB_DIR_IDE n i))
  (s.txPending n).foldl (fun b i =>
    match b with
    | none => some i
    | some j => if key i < key j then some i else some j) none

/-- Reads consecutive words of 8 bytes as MB. -/
def State.mbReads (s : State) (off : Nat) : Nat → State × Option (List DWord)
  | 0 => (s, some [])
  | k + 1 =>
    let a := s.hubRead 6 off 8
    let r := a.1.mbReads (off + 8) k
    (r.1, match a.2, r.2 with | some v, some l => some (BitVec.ofNat 64 v :: l) | _, _ => none)

/-- Writes consecutive words of 8 bytes as MB. -/
def State.mbWrites (s : State) (off : Nat) : List Nat → State
  | [] => s
  | w :: r => (s.hubWrite 6 off 8 w).mbWrites (off + 8) r

/-- The odd SEQ that opens a write after SEQ `q` (R396); the next value closes it. -/
def seqOpen (q : Nat) : Nat := if q % 2 = 0 then q + 1 else q + 2

/-- Writes words of an object past its header between the odd and the even SEQ of R396; `hdr` gives the header below SEQ
from the one that stands there, a free value where that cannot be read. DESIGN CHOICE, log entry 27.
DESIGN CHOICE, log entry 10. -/
def State.objWrite (s : State) (off : Nat) (hdr : Nat → Nat) (ws : List Nat) : State :=
  let a := s.hubRead 6 off 8
  let old := a.2.getD (Config.badWord off % 2 ^ 64)
  let h := hdr old % 2 ^ 48
  let q := seqOpen (old / 2 ^ 48)
  ((a.1.hubWrite 6 off 8 (h + q % 2 ^ 16 * 2 ^ 48)).mbWrites (off + 8) ws).hubWrite 6 off 8 (h + (q + 1) % 2 ^ 16 * 2 ^ 48)

/-! ### Errors and states -/

/-- Whether the bit timing is in configuration error (R389). -/
def State.mbCfgBad (s : State) (n : Nat) : Bool :=
  let nom := (s.get (MB_NBT_BRP n) + 1) * (1 + (s.get (MB_NBT_TSEG1 n) + 1) + (s.get (MB_NBT_TSEG2 n) + 1))
  let dat := (s.get (MB_DBT_BRP n) + 1) * (1 + (s.get (MB_DBT_TSEG1 n) + 1) + (s.get (MB_DBT_TSEG2 n) + 1))
  decide (nom < 80) || decide (dat < 10) || decide (nom < dat)

/-- An object fails with a cause (R399). -/
def State.mbFail (s : State) (n cause i : Nat) : State :=
  (((((s.clrObj (MB_TXPEND_OBJ n) i).setObj (MB_TXFAIL_OBJ n) i).put (MB_EVT_TXFAIL n) 1).put (MB_TXLOG_INDEX n) i).put
    (MB_TXLOG_CAUSE n) cause)

/-- Every pending object fails with a cause. -/
def State.mbFailAll (s : State) (n cause : Nat) : State := s.each (s.txPending n) fun s i => s.mbFail n cause i

/-- Enters a state from OFF (R391): a unit in reset and EN 0 stay OFF, a bad bit timing gives CFG_ERR. -/
def State.mbEnter (s : State) (n : Nat) : State :=
  if s.inReset 0x13 || !s.on (MB_CTL_EN n) then s.put (MB_STAT_STATE n) 0
  else if s.mbCfgBad n then ((s.put (MB_STAT_STATE n) 5).put (MB_EVT_CFG n) 1).fault 0x13 0x56 n
  else s.put (MB_STAT_STATE n) 1

/-- Shows the error counters and the error state (R401). -/
def State.mbShow (s : State) (n tec rxe : Nat) : State :=
  let ecs := if tec > 255 then 2 else if tec > 127 ∨ rxe > 127 then 1 else 0
  let s1 := s.setMb n { s.mbOf n with rxErr := rxe }
  (((((s1.put (MB_ERR_TEC n) tec).put (MB_ERR_REC n) (min rxe 127)).put (MB_ERR_RP n) (b2n (rxe > 127))).put
    (MB_ERR_ECS n) ecs).put (MB_ERR_EW n) (b2n (tec ≥ 96 || rxe ≥ 96)))

/-- Passes through OFF (R406): TEC and REC become 0, with EN 0 pending objects fail DISABLED, and the port re-enters. -/
def State.mbThroughOff (s : State) (n : Nat) : State :=
  let m := s.mbOf n
  let s1 := (s.setMb n { m with leave := false, recover := false }).mbShow n 0 0
  let s2 := if s.on (MB_CTL_EN n) then s1 else s1.mbFailAll n 6
  s2.mbEnter n

/-- The frame in progress ends: what waited for that happens (R391, R392). -/
def State.mbFrameEnd (s : State) (n : Nat) : State :=
  let s1 := ((s.setMb n { s.mbOf n with sending := none }).put (MB_STAT_TXING n) 0).put (MB_STAT_RXING n) 0
  if (s1.mbOf n).leave then s1.mbThroughOff n else s1.listenPort n

/-- The end of a frame that was in progress when MB was reset takes its port to OFF (R391, R409). -/
def State.mbResetEnd (s : State) (n : Nat) : State := if (s.mbOf n).leave then s.mbFrameEnd n else s

/-- Enters bus-off (R402, R403). DESIGN CHOICE, log entry 27. -/
def State.mbBusOff (s : State) (n : Nat) : State :=
  let m := s.mbOf n
  let s1 := ((s.put (MB_STAT_STATE n) 4).put (MB_EVT_BUSOFF n) 1).bump (MB_CNT n 10)
  let s2 := s1.fault 0x13 0x58 n
  let s3 :=
    match m.sending with
    | some t => if t.aborted && !t.dropped then s2.mbFail n 5 t.obj else s2
    | none => s2
  let s4 := if s.on (MB_CTL_ONESHOT n) then s3.mbFailAll n 3 else s3
  let s5 := (s4.setMb n { s4.mbOf n with recover := s.on (MB_CTL_AUTO_REC n) }).put (MB_STAT_RCNT n) 0
  s5.mbFrameEnd n

/-- Changes TEC and REC, with the events of R401 and bus-off. PRESUMED, log entry 28. -/
def State.mbErrCount (s : State) (n tec rxe : Nat) : State :=
  let tec0 := s.get (MB_ERR_TEC n)
  let rec0 := (s.mbOf n).rxErr
  let s1 := s.mbShow n tec rxe
  let s2 := s1.when ((tec0 < 96 && tec ≥ 96) || (rec0 < 96 && rxe ≥ 96)) fun s => s.put (MB_EVT_EWARN n) 1
  let s3 := s2.when (s.get (MB_ERR_ECS n) == 0 && s2.get (MB_ERR_ECS n) == 1) fun s =>
    (s.put (MB_EVT_EPASS n) 1).fault 0x13 0x57 n
  if tec > 255 then s3.mbBusOff n else s3

/-- A detected error (R401): the log, its counter and, outside LISTEN, the counters by the rules of the standard; an error
of a received frame ends it. PRESUMED, log entry 28. -/
def State.mbError (s : State) (n type field : Nat) (dphase tx exempt : Bool) : State :=
  let s1 := ((((s.put (MB_ERRLOG_TYPE n) type).put (MB_ERRLOG_DPHASE n) (b2n dphase)).put (MB_ERRLOG_TX n) (b2n tx)).put
    (MB_ERRLOG_FIELD n) field).bump (MB_CNT n (4 + type))
  let tec := s.get (MB_ERR_TEC n)
  let rxe := (s.mbOf n).rxErr
  let s2 :=
    if s.get (MB_STAT_STATE n) = 3 || exempt then s1
    else if tx then s1.mbErrCount n (tec + 8) rxe
    else s1.mbErrCount n tec (min 255 (rxe + if field = 6 then 8 else 1))
  if tx then s2 else s2.mbFrameEnd n

/-- REC after a frame received without error (R401): the standard takes 1 off, and brings a value above 127 to 119 to
127. DESIGN CHOICE, log entry 3. PRESUMED, log entry 28. -/
def State.mbRxGood (s : State) (n : Nat) : State :=
  let m := s.mbOf n
  if s.get (MB_STAT_STATE n) != 2 || m.rxErr = 0 then s
  else if m.rxErr ≤ 127 then s.mbErrCount n (s.get (MB_ERR_TEC n)) (m.rxErr - 1)
  else (s.setMb n { m with draws := m.draws + 1 }).mbErrCount n (s.get (MB_ERR_TEC n))
    (119 + (Config.recDrop n m.draws).val)

/-! ### Events of the bus -/

/-- CAN_INTEGRATED (R391): 11 recessive bits. -/
def execCanIntegrated (port : Fin 4) (s : State) : Out :=
  if s.inReset 0x13 then .next s else
  .next (if s.get (MB_STAT_STATE port.val) = 1 then
    s.put (MB_STAT_STATE port.val) (if s.mbListen port.val then 3 else 2) else s)

/-- Writes an object and reports it: a received frame (R395, R396), or the time stamp of a frame sent (R399). -/
def State.objDo (s : State) (n : Nat) (j : MbJob) : State :=
  match j.hdr with
  | some hdr =>
    let s1 := s.when (s.objBit (MB_NEW_OBJ n) j.obj) fun s =>
      ((s.setObj (MB_LOST_OBJ n) j.obj).put (MB_EVT_LOST n) 1).bump (MB_CNT n 3)
    let s2 := s1.objWrite (s.objOff n j.obj) (fun _ => hdr) j.ws
    ((s2.setObj (MB_NEW_OBJ n) j.obj).put (MB_EVT_RX n) 1).bump (MB_CNT n 0)
  | none =>
    let s1 := s.objWrite (s.objOff n j.obj) (fun h => h) j.ws
    (((s1.clrObj (MB_TXPEND_OBJ n) j.obj).setObj (MB_TXDONE_OBJ n) j.obj).put (MB_EVT_TXDONE n) 1).bump (MB_CNT n 1)

/-- Whether the writing of an object waits for its banks (R37, R50). -/
def State.objWaits (s : State) (n : Nat) (j : MbJob) : Bool := s.moverWaits 6 (s.objOff n j.obj) 80

/-- Writes an object, or leaves it to wait behind earlier ones or for its banks. -/
def State.objPut (s : State) (n : Nat) (j : MbJob) : State :=
  let m := s.mbOf n
  if !m.todo.isEmpty || s.objWaits n j then (s.setMb n { m with todo := m.todo ++ [j] }).ask 6 (s.objOff n j.obj)
  else s.objDo n j

/-- Writes the objects of a port that waited, as long as their banks are open. -/
def State.objPump (s : State) (n : Nat) : State :=
  s.each (s.mbOf n).todo fun s _ =>
    match (s.mbOf n).todo with
    | [] => s
    | j :: l => if s.objWaits n j then s else (s.setMb n { s.mbOf n with todo := l }).objDo n j

/-- Writes the objects that waited, at every port. -/
def State.objPumpAll (s : State) : State := if s.inReset 0x13 then s else s.each (List.range 4) State.objPump

/-- Stores a frame in object `i` (R395). -/
def State.objStore (s : State) (n i hdr sof : Nat) (data : List Byte) : State :=
  s.objPut n ⟨i, some hdr, sof :: (List.range 8).map fun k => ofLeBytes ((data.drop (8 * k)).take 8)⟩

/-- CAN_FRAME_RX (R394 to R396): a frame of another node becomes valid. A remote frame is counted in RTR, and with FD 0 an
FDF bit of 1 is a form error (R388). DESIGN CHOICE, log entry 27. -/
def execCanFrameRx (port : Fin 4) (id : BitVec 29) (ide fdf brs esi rtr : Bool) (dlc : BitVec 4) (data : List Byte)
    (sof : DWord) (s : State) : Out :=
  if s.inReset 0x13 then .next (s.mbResetEnd port.val) else
  let n := port.val
  let st := s.get (MB_STAT_STATE n)
  .next (if (st != 2 && st != 3) || s.idling 0x13 then s
    else if fdf && !s.on (MB_CTL_FD n) then s.mbError n 3 1 false false false
    else
      let s1 := s.mbRxGood n
      let idv := if ide then id.toNat else id.toNat % 2 ^ 11
      let hdr := idv + b2n ide * 2 ^ 29 + b2n fdf * 2 ^ 30 + b2n brs * 2 ^ 31 + dlc.toNat * 2 ^ 32 + b2n esi * 2 ^ 36
      let s2 :=
        if rtr then s1.bump (MB_CNT n 11)
        else
          match s1.rxObject n idv ide with
          | none => (s1.bump (MB_CNT n 2)).put (MB_EVT_NOMATCH n) 1
          | some i => s1.objStore n i hdr sof.toNat (data.take (dlcLen fdf dlc.toNat))
      s2.mbFrameEnd n)

/-- A request for an object (R398), with what LISTEN (R392) and bus-off (R399) do to it. -/
def State.txRequest (s : State) (n i : Nat) : State :=
  if !s.objIs n i true || s.objBit (MB_TXPEND_OBJ n) i then s.put (MB_EVT_CMD_REJ n) 1
  else
    let s1 := ((s.setObj (MB_TXPEND_OBJ n) i).clrObj (MB_TXDONE_OBJ n) i).clrObj (MB_TXFAIL_OBJ n) i
    let st := s.get (MB_STAT_STATE n)
    if st = 3 ∧ !s.on (MB_CTL_STBY_TX n) then s1.mbFail n 4 i
    else if st = 4 ∧ s.on (MB_CTL_ONESHOT n) then s1.mbFail n 3 i
    else s1

/-- TX_REQ (R398). -/
def execTxReq (port : Fin 4) (index : BitVec 11) (s : State) : Out :=
  .next (s.cmd (MB_TXCMD port.val) fun s => s.txRequest port.val index.toNat)

/-- A write of MBn_TXCMD with ABORT (R400): an object being sent runs to the end of its frame.
DESIGN CHOICE, log entry 27. -/
def State.txAbort (s : State) (n i : Nat) : State :=
  if !s.objIs n i true || !s.objBit (MB_TXPEND_OBJ n) i then s
  else
    match (s.mbOf n).sending with
    | some t =>
      if t.obj = i && !t.dropped then s.setMb n { s.mbOf n with sending := some { t with aborted := true } }
      else s.mbFail n 5 i
    | none => s.mbFail n 5 i

/-- TX_ABORT (R400). -/
def execTxAbort (port : Fin 4) (index : BitVec 11) (s : State) : Out :=
  .next (s.cmd (MB_TXCMD port.val) fun s => s.txAbort port.val index.toNat)

/-- The object a port offers at a start of arbitration, with its words as read then (R398). A port that must wait for the
object's banks, or cannot read its words, has none to offer. DESIGN CHOICE, log entry 10. -/
def State.txOffer (s : State) (n : Nat) : State × Option (Nat × List DWord) :=
  match s.txChoice n with
  | none => (s, none)
  | some i =>
    if !(s.mbOf n).todo.isEmpty || s.moverWaits 6 (s.objOff n i) 80 then (s.ask 6 (s.objOff n i), none)
    else
      let r := s.mbReads (s.objOff n i) 10
      (r.1, r.2.map fun b => (i, b))

/-- CAN_ARBITRATION (R398, R399): a frame starts. The port offers its object; what it loses it receives.
DEDUCED, log entry 29. -/
def execCanArbitration (port : Fin 4) (won : Bool) (sof : DWord) (s : State) : Out :=
  if s.inReset 0x13 then .next s else
  let n := port.val
  let st := s.get (MB_STAT_STATE n)
  .next (if (st != 2 && st != 3) || s.mbBusy n || s.idling 0x13 then s
    else
      let r := if st = 2 then s.txOffer n else (s, none)
      match r.2 with
      | none => if won then r.1 else r.1.put (MB_STAT_RXING n) 1
      | some (i, body) =>
        if won then
          (r.1.setMb n { r.1.mbOf n with
            sending := some ⟨i, sof.toNat, body, s.get (MB_ERR_ECS n) == 1, false, false⟩ }).put (MB_STAT_TXING n) 1
        else
          let s1 := (r.1.bump (MB_CNT n 4)).put (MB_STAT_RXING n) 1
          if s.on (MB_CTL_ONESHOT n) then s1.mbFail n 1 i else s1)

/-- The measurement of R390 on an FD frame. -/
def State.tdcMeasure (s : State) (n delay : Nat) (body : List DWord) : State :=
  if s.on (MB_TDC_EN n) && (body.headD 0#64).getLsbD 30 then
    (s.put (MB_STAT_TDCV n) (min delay 127)).when (delay > 127) fun s => s.put (MB_ERRLOG_TDC_SAT n) 1
  else s

/-- CAN_TX_END (R399, R400): the frame became valid for the transmitter, or ended in an error. -/
def execCanTxEnd (port : Fin 4) (good : Bool) (delay : BitVec 16) (s : State) : Out :=
  if s.inReset 0x13 then .next (s.mbResetEnd port.val) else
  let n := port.val
  .next (match (s.mbOf n).sending with
    | none => s
    | some t =>
      let s0 := s.tdcMeasure n delay.toNat t.body
      let s1 :=
        if good then
          let a := s0.mbErrCount n (s0.get (MB_ERR_TEC n) - 1) (s0.mbOf n).rxErr
          if t.dropped then a
          else a.objPut n ⟨t.obj, none, [t.sof]⟩
        else if t.dropped then s0
        else if t.aborted then s0.mbFail n 5 t.obj
        else if s.on (MB_CTL_ONESHOT n) then s0.mbFail n 2 t.obj
        else s0
      s1.mbFrameEnd n)

/-- CAN_ERROR (R401): `kind` 0 bit, 1 stuff, 2 form, 3 CRC, 4 acknowledgement. -/
def execCanError (port : Fin 4) (kind : Fin 5) (field : Fin 7) (dphase tx exempt : Bool) (s : State) : Out :=
  if s.inReset 0x13 then .next s else
  let n := port.val
  let st := s.get (MB_STAT_STATE n)
  .next (if (st = 2 ∧ (tx → (s.mbOf n).sending.isSome)) ∨ (st = 3 ∧ !tx) then
    s.mbError n (kind.val + 1) field.val dphase tx exempt else s)

/-! ### Recovery -/

/-- The end of recovery (R403). -/
def State.mbRecovered (s : State) (n : Nat) : State :=
  let s1 := (s.put (MB_STAT_RCNT n) 128).setMb n { s.mbOf n with recover := false }
  ((s1.mbShow n 0 0).put (MB_EVT_RECOVERED n) 1).put (MB_STAT_STATE n) (if s.mbListen n then 3 else 2)

/-- A write of MBn_CMD.RESTART (R403). -/
def State.mbRestart (s : State) (n : Nat) : State :=
  if s.get (MB_STAT_STATE n) = 4 && !(s.mbOf n).recover then
    (s.setMb n { s.mbOf n with recover := true }).put (MB_STAT_RCNT n) 0
  else s

/-- RESTART (R403). -/
def execRestart (port : Fin 4) (s : State) : Out := .next (s.cmd (MB_CMD port.val) fun s => s.mbRestart port.val)

/-- RECOVERY_OCCURRENCE (R403): 11 consecutive recessive bits; the 128th ends recovery. -/
def execRecoveryOccurrence (port : Fin 4) (s : State) : Out :=
  if s.inReset 0x13 then .next s else
  let n := port.val
  .next (if s.get (MB_STAT_STATE n) = 4 && (s.mbOf n).recover then
    if s.get (MB_STAT_RCNT n) ≥ 127 then s.mbRecovered n else s.wrapAdd (MB_STAT_RCNT n) 1
  else s)

/-- CAN_RECOVERED (R403): the 128th occurrence. -/
def execCanRecovered (port : Fin 4) (s : State) : Out :=
  if s.inReset 0x13 then .next s else
  let n := port.val
  .next (if s.get (MB_STAT_STATE n) = 4 && (s.mbOf n).recover && s.get (MB_STAT_RCNT n) ≥ 127 then s.mbRecovered n else s)

/-! ### Applies, resets and the transmit list -/

/-- An object loses its bits, and its request without a report (R406). -/
def State.mbObjDrop (s : State) (n i : Nat) : State :=
  let s1 := s.each [MB_NEW_OBJ n, MB_LOST_OBJ n, MB_TXPEND_OBJ n, MB_TXDONE_OBJ n, MB_TXFAIL_OBJ n]
    fun s map => s.clrObj map i
  let m := s.mbOf n
  s1.setMb n { m with
    todo := m.todo.filter fun j => j.obj != i
    sending := m.sending.map fun t => if t.obj = i then { t with dropped := true } else t }

/-- Whether an apply changed object `i` (R406). -/
def State.mbObjChanged (s old : State) (n i : Nat) : Bool :=
  s.rd (MB_DIR n i) != old.rd (MB_DIR n i)
    || (decide (i < old.get (MB_OBJ_COUNT n)) && s.get (MB_OBJ_BASE n) != old.get (MB_OBJ_BASE n))
    || (decide (i < old.get (MB_OBJ_COUNT n)) && !decide (i < s.get (MB_OBJ_COUNT n)))

/-- What an apply does to a port (R406); `old` is the state with the former active registers.
DEDUCED, log entry 29. -/
def State.mbApplyPort (s old : State) (n : Nat) : State :=
  let s1 := s.each ((List.range 1536).filter (s.mbObjChanged old n)) fun s i => s.mbObjDrop n i
  let moved := (s.rd (MB_CTL n)).toNat % 2 ^ 16 != (old.rd (MB_CTL n)).toNat % 2 ^ 16 || s.rd (MB_NBT n) != old.rd (MB_NBT n)
    || s.rd (MB_DBT n) != old.rd (MB_DBT n) || s.rd (MB_TDC n) != old.rd (MB_TDC n)
  let st := s.get (MB_STAT_STATE n)
  if moved then
    if s.mbBusy n then s1.setMb n { s1.mbOf n with leave := true } else s1.mbThroughOff n
  else if st = 0 ∨ (st = 5 ∧ !s.mbCfgBad n) then s1.mbEnter n
  else s1.listenPort n

/-- What an apply does to the ports (R406). -/
def State.mbApply (s old : State) : State := s.each (List.range 4) fun s n => s.mbApplyPort old n

/-- The bitmaps and requests of a port are cleared. -/
def State.mbClear (s : State) (n : Nat) : State :=
  let s1 := s.each (List.range 48) fun s w =>
    s.each [MB_NEW n w, MB_LOST n w, MB_TXPEND n w, MB_TXDONE n w, MB_TXFAIL n w] State.clr
  let m := s.mbOf n
  (s1.setMb n { m with todo := [], sending := m.sending.map fun t => { t with dropped := true } }).mbShow n 0 0

/-- A UNIT reset of MB (R409): OFF, at the end of the frame in progress; what is not kept takes its reset values.
DEDUCED, log entry 29. -/
def State.mbReset (s : State) : State :=
  (s.clr MB_TXLIST_IDX).each (List.range 4) fun s n =>
    let s0 := s.each [MB_EVT n, MB_EVT_EN n, MB_ERRLOG n, MB_TXLOG n] State.clr
    let s1 := ((s0.put (MB_STAT_TDCV n) 0).put (MB_STAT_RCNT n) 0).mbClear n
    if s.mbBusy n then s1.setMb n { s1.mbOf n with leave := true }
    else (s1.setMb n { s1.mbOf n with leave := false, recover := false }).put (MB_STAT_STATE n) 0

/-- The release of a UNIT reset of MB (R409). -/
def State.mbRelease (s : State) : State :=
  s.each (List.range 4) fun s n => if s.get (MB_STAT_STATE n) = 0 then s.mbEnter n else s

/-- The ports are off in DORMANT (R391). -/
def State.mbDormant (s : State) : State :=
  s.each (List.range 4) fun s n =>
    ((((s.setMb n { s.mbOf n with sending := none, leave := false, recover := false, todo := [] }).put (MB_STAT_STATE n) 0).put
      (MB_STAT_TXING n) 0).put (MB_STAT_RXING n) 0)

/-- The entries of table 0x0007 (R405). DEDUCED, log entry 29. -/
def State.txList (s : State) : List Nat :=
  (List.range 4).flatMap fun n =>
    ((List.range (s.get (MB_OBJ_COUNT n))).filter fun i => s.objIs n i true).map fun i =>
      (s.rd (MB_DIR n i)).toNat % 2 ^ 30 + n * 2 ^ 30 + s.get (MB_CTL_BUSID n) * 2 ^ 32 + i * 2 ^ 48

/-- MBn_NEWSUM (R397): bit w is 1 while MBn_NEW_w is not 0. -/
def State.newSum (s : State) (n : Nat) : Nat :=
  ((List.range 48).filter fun w => s.rd (MB_NEW n w) != 0#32).foldl (fun a w => a + 2 ^ w) 0

end Sys2Proof.Machine
end

