-- ==== Sys2Proof/Machine/Interrupt.lean ====
section
/-! DEFINITION. The interrupt controller: raw states, pending and active bits, requests and coalescing groups (R426 to
R437). -/
namespace Sys2Proof.Machine

/-! ### Sources -/

/-- Whether a register has a bit set that is also set in its enable register. -/
def State.evtRaised (s : State) (evt en : Nat) : Bool := (s.rd evt &&& s.rd en) != 0#32

/-- The condition that asserts LPW_EVT on the P-die (R473, R479). DEDUCED, log entry 39. -/
def State.lpwRaw (s : State) : Bool := s.evtRaised LPW_EVT LPW_EVT_EN

/-- Whether some enabled queue with MBOX 1 and the given consumer holds an item (R354). -/
def State.mboxRaised (s : State) (cons : Nat) : Bool :=
  (List.range 64).any fun q =>
    s.on (SQ_CFG_EN q) && s.on (SQ_CFG_MBOX q) && s.get (SQ_CFG_CONS q) == cons && s.get (SQ_CNT_COUNT q) != 0

/-- The block of a level source and its asserted condition (R426). DEDUCED, log entry 39. -/
def State.levelCond (s : State) (n : Nat) : Nat × Bool :=
  match n with
  | 9 => (0x01, s.rd MPC_WAKE_CAUSE != 0#32)
  | 12 => (0x04, s.on CFG_STAT_APPLIED)
  | 13 => (0x04, s.on CFG_STAT_MISSED)
  | 22 => (0x07, s.on MSA_ECC_STAT_SAT)
  | 23 => (0x07, s.on (MSA_DMA_STAT_DONE 0) && s.on (MSA_DMA_CTRL_IRQ_EN 0))
  | 24 => (0x07, s.on (MSA_DMA_STAT_DONE 1) && s.on (MSA_DMA_CTRL_IRQ_EN 1))
  | 25 => (0x08, s.evtRaised (LANE_EVT 0) (LANE_EVT_EN 0))
  | 26 => (0x09, s.evtRaised (LANE_EVT 1) (LANE_EVT_EN 1))
  | 27 => (0x0A, s.evtRaised (LANE_EVT 2) (LANE_EVT_EN 2))
  | 28 => (0x0B, s.evtRaised (LANE_EVT 3) (LANE_EVT_EN 3))
  | 29 => (0x0C, s.evtRaised RPE_EVT RPE_EVT_EN)
  | 30 => (0x0D, s.evtRaised FWD_EVT FWD_EVT_EN)
  | 31 => (0x0E, s.evtRaised RED_EVT RED_EVT_EN)
  | 32 => (0x0F, s.evtRaised TIME_EVT TIME_EVT_EN)
  | 33 => (0x10, s.on GG_FLAG_SRC_ENG)
  | 34 => (0x10, s.on GG_GSTAT_SAT)
  | 35 => (0x11, s.evtRaised SQ_EVT SQ_EVT_EN)
  | 36 => (0x11, s.rd SQ_LVLPEND_LO != 0#32 || s.rd SQ_LVLPEND_HI != 0#32)
  | 37 => (0x11, s.mboxRaised 0x11)
  | 38 => (0x11, s.mboxRaised 0x12)
  | 39 => (0x12, s.evtRaised LSV_EVT LSV_EVT_EN)
  | 40 => (0x12, s.on LSV_STAT_PLAY_PEND)
  | 41 => (0x13, s.evtRaised (MB_EVT 0) (MB_EVT_EN 0))
  | 42 => (0x13, s.evtRaised (MB_EVT 1) (MB_EVT_EN 1))
  | 43 => (0x13, s.evtRaised (MB_EVT 2) (MB_EVT_EN 2))
  | 44 => (0x13, s.evtRaised (MB_EVT 3) (MB_EVT_EN 3))
  | 45 => (0x14, s.evtRaised HBR_EVT HBR_EVT_EN)
  | 50 => (0x15, if s.d2dLost then s.lpwRawHeld else s.lpwRaw)
  | 51 => (0x16, s.evtRaised UPD_EVT UPD_EVT_EN)
  | 52 => (0x17, s.evtRaised TST_EVT TST_EVT_EN)
  | _ => (0x06, false)

/-- The raw state of a source: a level source's condition, 0 for an edge source and for a unit in reset (R427).
DEDUCED, log entry 39. -/
def State.raw (s : State) (n : Nat) : Bool :=
  let c := s.levelCond n
  c.2 && !s.inReset c.1

/-- Whether ROUTE sends a source to a target. -/
def State.routed (s : State) (t n : Nat) : Bool := s.getBit (INTC_ROUTE_TGT n) t

/-- The active bit A of a source for a target. -/
def State.intcA (s : State) (t n : Nat) : Bool := s.getBit (INTC_CLAIM_A t (n / 32)) (n % 32)

/-- The enable bit of a source for a target. -/
def State.intcEn (s : State) (t n : Nat) : Bool := s.getBit (INTC_EN_EN t (n / 32)) (n % 32)

/-- The pending bit P of a source for a target: held for an edge source; for a level source the raw state while A is 0,
and the claimed 0 while A is 1 (R428, R429). -/
def State.intcP (s : State) (t n : Nat) : Bool :=
  match intcKind n with
  | none => false
  | some true => s.getBit (INTC_PEND_P t (n / 32)) (n % 32)
  | some false => s.raw n && s.routed t n && !s.intcA t n && !s.inReset 0x06

/-- The pending bits of word `w` for a target, as a read of INTC_PEND_t_w returns them. -/
def State.intcPend (s : State) (t w : Nat) : Nat :=
  ((List.range 32).filter fun i => s.intcP t (32 * w + i)).foldl (fun a i => a + 2 ^ i) 0

/-- The raw states of word `w`, as a read of INTC_RAW_w returns them. -/
def State.intcRaw (s : State) (w : Nat) : Nat :=
  ((List.range 32).filter fun i => s.raw (32 * w + i)).foldl (fun a i => a + 2 ^ i) 0

/-! ### Requests and coalescing -/

/-- The target a coalescing group serves; 3 acts as 0 (R437). -/
def State.grpTgt (s : State) (g : Nat) : Nat := if s.get (INTC_GRP_CTL_TGT g) = 3 then 0 else s.get (INTC_GRP_CTL_TGT g)

/-- Whether a source is a member of a group, for the group's target (R435). -/
def State.member (s : State) (g n : Nat) : Bool :=
  s.on (INTC_ROUTE_CO n) && s.get (INTC_ROUTE_GRP n) == g && s.routed (s.grpTgt g) n

/-- Whether a group that is HOLDING holds a source back from a target (R435). -/
def State.grpHeld (s : State) (t n : Nat) : Bool :=
  let g := s.get (INTC_ROUTE_GRP n)
  s.member g n && s.grpTgt g == t && s.get (INTC_GRP_STAT_STATE g) == 1

/-- The request of a target (R432). -/
def State.intcReq (s : State) (t : Nat) : Bool :=
  (List.range 53).any fun n => s.intcP t n && s.intcEn t n && !s.grpHeld t n

/-- The value of INTC_SUM_t. -/
def State.intcSum (s : State) (t : Nat) : Nat :=
  ((List.range 8).filter fun w => (s.intcPend t w &&& s.get (INTC_EN_EN t w)) != 0).foldl (fun a i => a + 2 ^ i) 0
    + b2n (s.intcReq t) * 2 ^ 8

/-- The sources pending and enabled for a target, as a number whose bit `n` is source `n`. -/
def State.intcLit (s : State) (t : Nat) : Nat :=
  ((List.range 53).filter fun n => s.intcP t n && s.intcEn t n).foldl (fun a n => a + 2 ^ n) 0

/-- COUNT of a group; 0 acts as 1. -/
def State.grpCount (s : State) (g : Nat) : Nat := max 1 (s.get (INTC_GRP_CTL_COUNT g))

/-- A group leaves HOLDING for RELEASED when HELD has reached COUNT (R435). -/
def State.grpRelease (s : State) (g : Nat) : State :=
  if s.get (INTC_GRP_STAT_HELD g) ≥ s.grpCount g then s.put (INTC_GRP_STAT_STATE g) 2 else s

/-- One group takes `n` arrivals and then looks at its members, under the state table of R435.
DESIGN CHOICE, log entry 11. -/
def State.grpStep (s : State) (g n : Nat) : State :=
  let t := s.grpTgt g
  let mem := (List.range 53).filter fun k => s.member g k
  let lit := mem.any fun k => s.intcP t k && s.intcEn t k
  let busy := lit || mem.any fun k => s.intcA t k
  let st := s.get (INTC_GRP_STAT_STATE g)
  if st = 0 then
    if n = 0 then s
    else
      let s1 := (s.put (INTC_GRP_STAT_STATE g) 1).put (INTC_GRP_STAT_HELD g) (min n 255)
      { s1 with grpT0 := Tab.set (fun _ => 0) s1.grpT0 g s1.now }.grpRelease g
  else if st = 1 then
    let s1 := (s.satAdd (INTC_GRP_STAT_HELD g) n).grpRelease g
    if s1.get (INTC_GRP_STAT_STATE g) = 1 ∧ !lit then
      (s1.put (INTC_GRP_STAT_STATE g) 0).put (INTC_GRP_STAT_HELD g) 0
    else s1
  else if busy then s
  else (s.put (INTC_GRP_STAT_STATE g) 0).put (INTC_GRP_STAT_HELD g) 0

/-- Counts the arrivals since the last look and moves every group (R435). DESIGN CHOICE, log entry 11. -/
def State.intcSample (s : State) : State :=
  if s.inReset 0x06 then s
  else
    let fresh (t : Nat) : Nat :=
      let lit := s.intcLit t
      lit - (lit &&& Tab.get (fun _ => 0) s.seenP t)
    let arr (g : Nat) : Nat :=
      ((List.range 53).filter fun k => s.member g k && (fresh (s.grpTgt g)).testBit k).length
    let s1 := s.each (List.range 16) fun x g => x.grpStep g (arr g)
    s1.each [0, 1, 2] fun x t => { x with seenP := Tab.set (fun _ => 0) x.seenP t (s.intcLit t) }

/-- The elapsed microseconds of a group's timer, counted from the spindle (R435). -/
def State.grpElapsed (s : State) (g : Nat) : Nat :=
  if s.get (INTC_GRP_STAT_STATE g) = 1 then min 16383 ((s.now - Tab.get (fun _ => 0) s.grpT0 g) / 250) else 0

/-! ### Claim and completion -/

/-- A claim of one source for one target: P must be 1; P becomes 0 and A becomes 1 (R429). -/
def State.claimOne (s : State) (t n : Nat) : State :=
  if s.intcP t n then
    (s.clrBit (INTC_PEND_P t (n / 32)) (n % 32)).setBit (INTC_CLAIM_A t (n / 32)) (n % 32)
  else s

/-- A completion of one source for one target: A becomes 0, so a level source shows its raw state again (R429). -/
def State.doneOne (s : State) (t n : Nat) : State :=
  if s.intcA t n then s.clrBit (INTC_CLAIM_A t (n / 32)) (n % 32) else s

/-- A write to INTC_CLAIM_t_w. -/
def State.claim (s : State) (t w : Nat) (m : Word) : State :=
  (s.intcSample.each (bitList 32 m.toNat) fun x i => x.claimOne t (32 * w + i)).intcSample

/-- A write to INTC_DONE_t_w. -/
def State.complete (s : State) (t w : Nat) (m : Word) : State :=
  (s.intcSample.each (bitList 32 m.toNat) fun x i => x.doneOne t (32 * w + i)).intcSample

/-- A write to INTC_SWI: an event on SWI_n for each 1 (R426). DEDUCED, log entry 39. -/
def State.swi (s : State) (m : Nat) : State :=
  (s.intcSample.each (bitList 8 m) fun x n => x.edgeIrq 0x06 n).intcSample

/-- A UNIT reset of INTC (R436): every P and A and every group state cleared; ROUTE, EN and the controls kept. -/
def State.intcUnitReset (s : State) : State :=
  let s1 := s.each [0, 1, 2] fun x t => x.each (List.range 8) fun x w => (x.clr (INTC_PEND t w)).clr (INTC_CLAIM t w)
  let s2 := s1.each (List.range 16) fun x g => x.clr (INTC_GRP_STAT g)
  { s2 with grpT0 := [], seenP := [] }

/-! ### The commands -/

/-- CLAIM (R429). -/
def execIntcClaim (t : Fin 3) (w : Fin 8) (mask : Word) (s : State) : Out := .next (s.cmd (INTC_CLAIM t.val w.val) fun s => s.claim t.val w.val mask)

/-- DONE (R429). -/
def execIntcDone (t : Fin 3) (w : Fin 8) (mask : Word) (s : State) : Out := .next (s.cmd (INTC_DONE t.val w.val) fun s => s.complete t.val w.val mask)

/-- SWI (R426). -/
def execSwi (mask : BitVec 8) (s : State) : Out := .next (s.cmd INTC_SWI fun s => s.swi mask.toNat)

/-- COALESCE_TIMEOUT (R435): the timer of a HOLDING group reaches TIME, and the group is RELEASED. -/
def execCoalesceTimeout (g : Fin 16) (s : State) : Out :=
  if s.inReset 0x06 then .next s else
  let s1 := s.intcSample
  .next (if s1.get (INTC_GRP_STAT_STATE g) = 1 then s1.put (INTC_GRP_STAT_STATE g) 2 else s1)

end Sys2Proof.Machine
end

