-- ==== Sys2Proof/Machine/Pads.lean ====
section
/-! DEFINITION. What stands between the engines and the PIO balls: slots, gap policy, safe outputs, anchor forcing, pin
holds (R99 to R102, R245, R248, R289 to R291, R445). A level is `some` while the ball is driven and `none` while it is
released. -/
namespace Sys2Proof.Machine

/-- An engine's record. -/
def State.eng (s : State) (n : Nat) : Eng := Tab.get (fun _ => Eng.init) s.gg.eng n

/-- Replaces an engine's record. -/
def State.setEng (s : State) (n : Nat) (e : Eng) : State :=
  { s with gg := { s.gg with eng := Tab.set (fun _ => Eng.init) s.gg.eng n e } }

/-- The engine and slot that claim a pin (R289). -/
def State.claimOf (s : State) (pin : Nat) : Option (Nat × Nat) :=
  (List.range 128).findSome? fun i =>
    if s.on (GG_SLOT_VALID (i / 8) (i % 8)) && s.get (GG_SLOT_PIO (i / 8) (i % 8)) == pin then some (i / 8, i % 8) else none

/-- What a slot drives: its level through INV in the manner of its MODE (R289). -/
def State.slotDrive (s : State) (n k : Nat) : Option Bool :=
  let e := s.eng n
  let lvl := e.lvl.testBit k != s.on (GG_SLOT_INV n k)
  if !e.oe.testBit k then none
  else match s.get (GG_SLOT_MODE n k) with
    | 1 => some lvl
    | 2 => if lvl then none else some false
    | _ => none

/-- Whether a slot may drive its pin. -/
def State.slotOutput (s : State) (n k : Nat) : Bool := s.get (GG_SLOT_MODE n k) == 1 || s.get (GG_SLOT_MODE n k) == 2

/-- The media clock generator whose square wave a fine-edge pin carries (R282). -/
def State.mcgOf (s : State) (pin : Nat) : Option Nat :=
  (List.range 4).find? fun g => s.on (TIME_MCG_CTL_EN g) && s.on (TIME_MCG_CTL_PIN_EN g) && 60 + s.get (TIME_MCG_CTL_PIN g) == pin

/-- Whether a pin is anchored (R248). -/
def State.anchored (s : State) (pin : Nat) : Bool :=
  if pin < 32 then s.getBit RED_ANCH_A_PIN pin else s.getBit RED_ANCH_B_PIN (pin - 32)

/-- The RED_SAFE level of a pin; code 3 is none (R248). -/
def State.safeLevel (s : State) (pin : Nat) : Option Bool :=
  match s.get (RED_SAFE_SAFE (pin / 16) (pin % 16)) with
  | 0 => some false
  | 1 => some true
  | _ => none

/-- Whether an anchored pin follows its engine in MAINTAIN (R80). DEDUCED, log entry 49. -/
def State.mhold (s : State) (pin : Nat) : Bool :=
  if pin < 32 then s.getBit RED_MHOLD_A_PIN pin else s.getBit RED_MHOLD_B_PIN (pin - 32)

/-- Whether the anchor forcing holds an anchored pin at its safe level: outside HOLD, and in MAINTAIN unless marked
(R80, R248). -/
def State.forced (s : State) (pin : Nat) : Bool :=
  s.get RED_TWIN_STAT_STATE != 2 || (s.get MPC_MODE_CUR == 5 && !s.mhold pin)

/-- What policy SAFE puts on a pin: its safe level if it is anchored and has one, otherwise high impedance (R245).
DEDUCED, log entry 49. -/
def State.policySafe (s : State) (pin : Nat) : Option Bool := if s.anchored pin then s.safeLevel pin else none

/-- What the engine, or the media clock, that claims a pin drives, under the gap policy and the safe outputs.
DEDUCED, log entry 49. -/
def State.padEngine (s : State) (pin : Nat) : Option Bool :=
  match s.claimOf pin with
  | some (n, k) =>
    let e := s.slotDrive n k
    if !s.slotOutput n k then none
    else if s.on FLT_STAT_SAFE then s.policySafe pin
    else if s.red.gaps != 0 then
      match s.get (RED_GAP_POL_POL n) with
      | 1 => Tab.get (fun _ => none) s.red.gapPins pin
      | 2 => s.policySafe pin
      | _ => e
    else e
  | none => (s.mcgOf pin).map fun g => s.time.mcgLvl.testBit g

/-- Whether the pad-hold latch of a pin is closed: the hub has yet to apply its record and the pin is marked hold
(R101). -/
def State.latched (s : State) (pin : Nat) : Bool :=
  !s.sys.recordOn && (if pin < 32 then s.getBit BIV_HOLD_A_PIN pin else s.getBit BIV_HOLD_B_PIN (pin - 32))

/-- What the hub puts on a PIO ball while its bank has its supply: the latch or the high impedance of R99 before the record's apply; then the anchor forcing, the
gap policy and the engine, in this order (R291). DEDUCED, log entry 49. -/
def State.padDrive (s : State) (pin : Nat) : Option Bool :=
  if !s.sys.recordOn then
    if s.latched pin && s.sys.holdOe.testBit pin then
      some (if pin < 32 then s.getBit BIV_HOLD_LVL_A_LVL pin else s.getBit BIV_HOLD_LVL_B_LVL (pin - 32))
    else none
  else if s.anchored pin && s.forced pin then s.safeLevel pin
  else if s.gg.padsR99 then none
  else s.padEngine pin

/-- Whether the I/O supplies are in their operating range: the rails of PEN3 under the recommended assignment (R19, R102,
R474). DESIGN CHOICE, log entry 49. -/
def State.ioOn (s : State) : Bool := s.lpw.aon && s.getBit LPW_SEQ_STAT_INWIN 3

/-- The level on a PIO ball: nothing is driven while the bank's supply is below its range (R19, R102).
DEDUCED, log entry 49. -/
def State.pad (s : State) (pin : Nat) : Option Bool := if s.ioOn then s.padDrive pin else none

end Sys2Proof.Machine
end

