-- ==== Sys2Proof/Machine/Trig.lean ====
section
/-! DEFINITION. Sines, cosines and roots in fixed point, for the pilot samples and the phases of line supervision (R374,
R377, R380). The fraction has 96 bits, far below the last place of any result that is rounded to an integer. -/
namespace Sys2Proof.Machine

/-- One in the fixed-point format. -/
def fxOne : Int := 2 ^ 96

/-- Pi, rounded down, in the fixed-point format. -/
def fxPi : Int := 248902613312231085230521944622

/-- Product of two fixed-point numbers, rounded towards minus infinity. -/
def fxMul (a b : Int) : Int := a * b / fxOne

/-- The terms of a sine or cosine series from index `k` on: each is the last one times -x^2 / ((k+1)(k+2)). -/
def fxTerms : Nat → Int → Int → Int → Int
  | 0, _, _, _ => 0
  | n + 1, k, t, x2 => t + fxTerms n (k + 2) (-(fxMul t x2) / ((k + 1) * (k + 2))) x2

/-- The sine of a fixed-point angle between minus half of pi and half of pi. -/
def fxSin0 (x : Int) : Int := fxTerms 16 1 x (fxMul x x)

/-- The sine of the fraction `a / b` of a turn. DESIGN CHOICE, log entry 25. -/
def fxSinTurn (a b : Nat) : Int :=
  let a := a % b
  let q := 4 * a / b
  let ang (n : Nat) : Int := 2 * fxPi * n / b
  match q with
  | 0 => fxSin0 (ang a)
  | 1 => fxSin0 (fxPi - ang a)
  | 2 => fxSin0 (fxPi - ang a)
  | _ => fxSin0 (ang a - 2 * fxPi)

/-- The cosine of the fraction `a / b` of a turn. -/
def fxCosTurn (a b : Nat) : Int := fxSinTurn (4 * a + b) (4 * b)

/-- Rounds the quotient of two integers to the nearest integer, halves away from 0; the divisor is positive. -/
def roundDiv (a b : Int) : Int := if 0 ≤ a then (2 * a + b) / (2 * b) else -((2 * -a + b) / (2 * b))

/-- Bit by bit, the largest number below `2 ^ n + acc` whose predicate holds, for a predicate that holds up to a limit. -/
def bitSearch (p : Nat → Bool) : Nat → Nat → Nat
  | 0, acc => acc
  | n + 1, acc => if p (acc + 2 ^ n) then bitSearch p n (acc + 2 ^ n) else bitSearch p n acc

/-- The integer part of a square root below 2^80. DESIGN CHOICE, log entry 25. -/
def isqrt (x : Nat) : Nat := bitSearch (fun r => decide (r * r ≤ x)) 80 0

/-- round(8,388,607 x 10^(-atten / 40)), the pilot's full amplitude (R374). DESIGN CHOICE, log entry 25. -/
def pilotAmp (atten : Nat) : Nat :=
  bitSearch (fun a => decide ((2 * a - 1) ^ 40 * 10 ^ atten ≤ (2 * 8388607) ^ 40)) 23 0

/-- The angle of the vector (re, im) in units of `1 / u` of half a turn, rounded down, between `-u` and `u`.
DESIGN CHOICE, log entry 25. -/
def fxAngle (u : Nat) (re im : Int) : Int :=
  let up (r i : Int) : Nat :=
    bitSearch (fun h => decide (h ≤ u) && decide (0 ≤ i * fxCosTurn h (2 * u) - r * fxSinTurn h (2 * u))) 16 0
  if 0 ≤ im then up re im
  else
    let h := up re (-im)
    if decide ((-im) * fxCosTurn h (2 * u) - re * fxSinTurn h (2 * u) = 0) then -(h : Int) else -(h : Int) - 1

end Sys2Proof.Machine
end

