-- ==== Sys2Proof/Machine/Pilot.lean ====
section
/-! DEFINITION. The pilot generators of the loudspeaker channels (R374 to R376). -/
namespace Sys2Proof.Machine

/-- A channel's record. -/
def State.lsCh (s : State) (n : Nat) : LsCh := Tab.get (fun _ => LsCh.init) s.lsv.ch n

/-- Replaces a channel's record. -/
def State.setCh (s : State) (n : Nat) (c : LsCh) : State :=
  { s with lsv := { s.lsv with ch := Tab.set (fun _ => LsCh.init) s.lsv.ch n c } }

/-- The anchor is outside HOLD within the windows under way (R381). -/
def State.lsvAnchor (s : State) : State := s.each (List.range 8) fun s n => s.setCh n { s.lsCh n with noHold := true }

/-- The sample rate of a channel (R374). -/
def State.lsFs (s : State) (n : Nat) : Nat :=
  match s.get (LSV_LS_CTL_FS n) with | 0 => 48000 | 1 => 96000 | 2 => 44100 | _ => 32000

/-- A frequency within 18,000 Hz to 30,000 Hz (R374). -/
def clampFreq (f : Nat) : Nat := min 30000 (max 18000 f)

/-- The frequency of sweep point `p` (R383). -/
def State.sweepFreq (s : State) (p : Nat) : Nat := s.get LSV_SWP_F0 + p * max 1 (s.get LSV_SWP_STEP) * 100

/-- The pilot frequency of a channel: FREQ, or the point a sweep has reached. -/
def State.lsFreq (s : State) (n : Nat) : Nat :=
  match (s.lsCh n).sweep with
  | some (p, k) => if (k = 1 ∨ k = 2) ∧ p < 16 then s.sweepFreq p else clampFreq (s.get (LSV_LS_PILOT_FREQ n))
  | none => clampFreq (s.get (LSV_LS_PILOT_FREQ n))

/-- Whether a frequency exceeds 0.47 x FS (R376). -/
def tooHigh (f fs : Nat) : Bool := decide (47 * fs < 100 * f)

/-- Whether an enabled channel is in configuration error (R376). DEDUCED, log entry 26. -/
def State.lsCfgErr (s : State) (n : Nat) : Bool :=
  tooHigh (clampFreq (s.get (LSV_LS_PILOT_FREQ n))) (s.lsFs n) || s.get (LSV_LS_SCALE_SCALE n) == 0 ||
    (List.range n).any fun m => s.on (LSV_LS_CTL_EN m) && s.get (LSV_LS_CTL_ENGINE m) == s.get (LSV_LS_CTL_ENGINE n)

/-- The channel that feeds an engine: the lowest enabled one that names it. -/
def State.chanOf (s : State) (eng : Nat) : Option Nat :=
  (List.range 8).find? fun n => s.on (LSV_LS_CTL_EN n) && s.get (LSV_LS_CTL_ENGINE n) == eng

/-- The full amplitude of a channel (R374). -/
def State.lsAmp (s : State) (n : Nat) : Nat := pilotAmp (min 120 (s.get (LSV_LS_PILOT_ATTEN n)))

/-- Samples of a ramp: 50 ms, rounded up (R375). -/
def State.lsRamp (s : State) (n : Nat) : Nat := (s.lsFs n + 19) / 20

/-- The present amplitude as a fraction: linear from the start of the ramp to its goal.
DESIGN CHOICE, log entry 25. -/
def pilotLevel (p : Pilot) (ramp : Nat) : Int × Int :=
  let k := min p.n ramp
  ((p.num : Int) * (ramp - k : Nat) + (p.goal : Int) * p.den * k, (p.den : Int) * ramp)

/-- Starts a ramp from the present amplitude to a new goal (R375). -/
def rampTo (p : Pilot) (ramp goal : Nat) : Pilot :=
  let a := pilotLevel p ramp
  { p with num := a.1.toNat, den := a.2.toNat, goal := goal, n := 0 }

/-- The generator starts from idle: phase 0, amplitude rising from 0 (R374, R375). -/
def State.pilotStart (s : State) (n : Nat) : State :=
  if s.on (LSV_LS_CTL_EN n) && s.on (LSV_LS_CTL_PILOT_EN n) && !s.lsCfgErr n && !s.inReset 0x12 then
    s.setCh n { s.lsCh n with pilot := ⟨true, 0, 0, 1, s.lsAmp n, 0⟩ }
  else s

/-- The generator is idle at once. -/
def State.pilotStop (s : State) (n : Nat) : State :=
  s.setCh n { s.lsCh n with pilot := LsCh.init.pilot }

/-- An engine starts fresh or resumes: its channel's pilot starts from idle (R375). -/
def State.pilotRun (s : State) (eng : Nat) : State :=
  match s.chanOf eng with | some n => s.pilotStart n | none => s

/-- An engine stops: its pilot stops with it, and the channel's window has seen the engine not running (R375, R379). -/
def State.pilotHalt (s : State) (eng : Nat) : State :=
  match s.chanOf eng with
  | some n => (s.pilotStop n).setCh n { s.lsCh n with pilot := LsCh.init.pilot, idle := true }
  | none => s

/-- Takes the next pilot sample for an engine: round(A_j sin(2 pi F j / FS)), 0 with no channel, a channel in error or an
idle generator (R314, R374 to R376). DESIGN CHOICE, log entry 25. -/
def State.pilotTake (s : State) (eng : Nat) : Int × State :=
  match s.chanOf eng with
  | none => (0, s)
  | some n =>
    let c := s.lsCh n
    let p := c.pilot
    if !p.on || s.lsCfgErr n || s.inReset 0x12 then (0, s.setCh n { c with taken := c.taken + 1 })
    else
      let ramp := s.lsRamp n
      let a := pilotLevel p ramp
      let v := roundDiv (a.1 * fxSinTurn p.phase 14112000) (a.2 * fxOne)
      let q : Pilot := { p with phase := (p.phase + s.lsFreq n * (14112000 / s.lsFs n)) % 14112000, n := min ramp (p.n + 1) }
      let q := if q.n = ramp ∧ q.goal = 0 then LsCh.init.pilot else q
      (v, s.setCh n { c with pilot := q, taken := c.taken + 1, ramp := c.ramp || decide (p.n < ramp) })

end Sys2Proof.Machine
end

