-- ==== Sys2Proof/Machine/Red.lean ====
section
/-! DEFINITION. Redundancy and failover: the ring directions, the wrap, BREAK and RESTORE, the gap windows, the discard of
second copies, the anchor of a twin pair and its flows (R233 to R262). -/
namespace Sys2Proof.Machine

/-! ### Discard of second copies (R233 to R236) -/

/-- The key of a discard record. -/
def discKey (node chip cls : Nat) : Nat := (node * 4 + chip) * 8 + cls

/-- RED_DUP_CTL.AGE in ticks; 0 acts as 1. -/
def State.dupAge (s : State) : Nat := max 1 (s.get RED_DUP_CTL_AGE) * 31250

/-- DUP_LIMIT under R236. -/
def dupLimit (age : Nat) : Nat := 1024 / max 1 age

/-- Writes a discard record. -/
def State.setDisc (s : State) (k : Nat) (d : Disc) : State :=
  { s with red := { s.red with disc := Tab.set (fun _ => none) s.red.disc k (some d) } }

/-- Discards a copy as OLD. -/
def State.dupOld (s : State) : State := (s.bump (RED_CNT 3)).put RED_EVT_DUP_OLD 1

/-- The decision of R235 on a frame with DUP 1: the state after it and whether the frame is delivered. -/
def State.discard (s : State) (f : Frame) : State × Bool :=
  let k := discKey (frSrc f) (frSrcChip f) (frClass f)
  let first (s : State) : State := s.bump (RED_CNT (if frDir f = 0 then 0 else 1))
  let t := frStamp f
  let q := frSeq f
  if (s.now : Int) - t > s.dupAge then (s.dupOld, false)
  else
    let restart := (first ((s.setDisc k ⟨q, 1, t⟩).bump (RED_CNT 4)), true)
    match Tab.get (fun _ => none) s.red.disc k with
    | none => restart
    | some d =>
      if (t : Int) - d.tTop > s.dupAge then restart
      else
        let up := (q + 65536 - d.top) % 65536
        let dn := (d.top + 65536 - q) % 65536
        if 1 ≤ up ∧ up ≤ 32767 then (first (s.setDisc k ⟨q, (d.map * 2 ^ up + 1) % 2 ^ 1024, t⟩), true)
        else if dn ≤ 1023 then
          if d.map.testBit dn then (s.bump (RED_CNT 2), false)
          else (first (s.setDisc k { d with map := d.map + 2 ^ dn }), true)
        else (s.dupOld, false)

/-! ### The ring directions (R238, R239) -/

/-- Whether an own lane lets a direction return: UP with RF_RX 0 and BLOCK 0, and no forced wrap on it (R498). -/
def State.dirOk (s : State) (d : Nat) : Bool :=
  s.laneUp d && !s.on (LANE_STAT_RF_RX d) && !s.blocked d && s.tst.force != some d

/-- The BREAK record of a direction: sender and HOPS. -/
def State.brkOf (s : State) (d : Nat) : Option (Nat × Nat) := Tab.get (fun _ => none) s.red.brk d

/-- Sets or ends the BREAK record of a direction. -/
def State.setBrk (s : State) (d : Nat) (b : Option (Nat × Nat)) : State :=
  { s with red := { s.red with brk := Tab.set (fun _ => none) s.red.brk d b } }

/-- FWD_REACH of a direction that is not lost at this hub (R244). -/
def State.reachOf (s : State) (d : Nat) : Nat := match s.brkOf d with | some b => b.2 | none => 255

/-- BREAK (1) or RESTORE (2) for direction `d`, on ring lane `lane` (R243). -/
def State.sendRed (s : State) (op d lane : Nat) : State :=
  s.originate { FrameSpec.plain 7 0 7 0xFF 0 0 [BitVec.ofNat 64 (op + d * 2 ^ 8 + s.red.epoch % 65536 * 2 ^ 16)] with
    via := some lane } 6

/-- Opens a gap window (bit 0 CW loss, 1 CCW loss, 2 BREAK); the first one notes the level of every pin (R245). -/
def State.openGap (s : State) (w : Nat) : State :=
  let s1 := if s.red.gaps = 0 then
      let pins := (List.range 64).foldl (fun t p => Tab.set (fun _ => none) t p (s.pad p)) []
      { s with red := { s.red with gapPins := pins } }
    else s
  ({ s1 with red := { s1.red with gaps := s1.red.gaps ||| 2 ^ w } }).put RED_STAT_GAP 1

/-- Closes a gap window (R245). -/
def State.closeGap (s : State) (w : Nat) : State :=
  let g := if s.red.gaps.testBit w then s.red.gaps - 2 ^ w else s.red.gaps
  let s1 : State := { s with red := { s.red with gaps := g } }
  if g = 0 then ({ s1 with red := { s1.red with gapPins := [] } }).put RED_STAT_GAP 0 else s1

/-- The WRAP bit of a direction. -/
def wrapFld (d : Nat) : Fld := if d = 0 then RED_STAT_WRAP_CW else RED_STAT_WRAP_CCW

/-- A direction reaches UP: FWD_REACH follows R244. -/
def State.dirUp (s : State) (d : Nat) : State :=
  let s1 : State := { s with red := { s.red with everUp := setBitTo s.red.everUp d true } }
  ((s1.setDir d 0).put (wrapFld d) 0).setReach d (s1.reachOf d)

/-- The cause that RED has yet to declare for a direction. -/
def State.lossDue (s : State) (d : Nat) : Option Nat := Tab.get (fun _ => none) s.red.due d

/-- RED has a loss to declare, or has declared it. -/
def State.setDue (s : State) (d : Nat) (c : Option Nat) : State :=
  { s with red := { s.red with due := Tab.set (fun _ => none) s.red.due d c } }

/-- A direction that comes UP out of PLANNED on a lane with RF_RX 1 or BLOCK 1 is down by that event at once (R194, R238).
DEDUCED, log entry 20. -/
def State.dirLevels (s : State) (d : Nat) : State :=
  if s.on (LANE_STAT_RF_RX d) then s.setDue d (some 0x80) else if s.blocked d then s.setDue d (some 0x81) else s

/-- Moves a direction whose own lane has come right: PLANNED to UP, LOST to RETURN or, the first time, to UP (R238). -/
def State.dirRight (s : State) (d : Nat) : State :=
  match s.dirState d with
  | 3 => if s.laneUp d && !s.inReset 0x0D && (s.lossDue d).isNone then (s.setDir d 0).dirLevels d else s
  | 1 =>
    if !s.dirOk d || (s.lossDue d).isSome then s
    else if s.red.everUp.testBit d then s.setDir d 2 else (s.dirUp d).locPump
  | _ => s

/-- A direction leaves UP for a planned absence (R238), which a running proof step notes (R499). -/
def State.dirPlanned (s : State) (d : Nat) : State :=
  ({ s with tst := { s.tst with lost := setBitTo s.tst.lost d true } } : State).setDir d 3

/-- A lane event of R238 takes a direction down: out of UP planned, or with a cause that RED has yet to declare; a direction in
RETURN has no planned absence. -/
def State.dirDown (s : State) (d cause : Nat) (planned : Bool) : State :=
  match s.dirState d with
  | 0 => if planned then s.dirPlanned d else s.setDue d (some cause)
  | 2 => s.setDue d (some cause)
  | _ => s

/-- Whether a lane that leaves UP, or fails to reach it, counts as planned: in the retrain window of R65, and before DORMANT entry
(R66). -/
def State.quietDown (s : State) : Bool := s.sys.retrain || s.sys.dormT

/-- A planned absence ends without the lane UP (R238); within the window of R65 it goes on. -/
def State.planEnd (s : State) (d cause : Nat) : State :=
  if s.dirState d = 3 && !s.quietDown then s.setDue d (some cause) else s

/-- Whether a loss counts as forced for PROOF (R500). -/
def State.forcedLoss (s : State) (d cause : Nat) : Bool := cause == 0x07 || (cause == 0x80 && (s.ln d).rfCause == 0x07)

/-- A cause of R76 ends the running proof. -/
def State.proofCause (s : State) (k : Nat) : State :=
  if s.get TST_PSTAT_STATE = 1 then { s with tst := { s.tst with abort := setBitTo s.tst.abort k true } } else s

/-- Every frame queued or held for a ring lane takes the lane's present treatment, in queue order (R240).
DEDUCED, log entry 20. -/
def State.rewrap (s : State) (d : Nat) : State :=
  let s1 := s.each (List.range 9) fun s qi =>
    let q := s.queue d qi
    (s.setQueue d qi []).each q fun s x => s.retreat d qi x
  (s1.releaseHeld (.unwrap d) d).locPump

/-- RED declares a direction LOST (R239): log, events and fault; the wrap (R240); the BREAK on the other lane (R243);
FWD_REACH (R244); the gap window (R245). DEDUCED, log entry 20. -/
def State.declareLost (s : State) (d cause : Nat) : State :=
  let s1 := ((s.put RED_LOSS_LOG_DIR d).put RED_LOSS_LOG_CAUSE cause).wr64 RED_LOSS_T s.now
  let s2 := ((s1.put RED_EVT_LOSS 1).bump (RED_CNT 9)).fault 0x0E 0x40 (cause + 2 ^ 8 * d)
  let s3 : State := { s2 with
    tst := { s2.tst with lost := setBitTo s2.tst.lost d true }
    red := { s2.red with
      due := Tab.set (fun _ => none) s2.red.due d none
      epoch := (s2.red.epoch + 1) % 65536
      unwrap := setBitTo s2.red.unwrap d false
      wrapping := setBitTo s2.red.wrapping d true } }
  let s4 := (s3.openGap d).put RED_STAT_UNWRAP (b2n (s3.red.unwrap != 0))
  let s5 := ((s4.setDir d 1).rewrap d).setReach d 0
  ((s5.sendRed 1 d (1 - d)).when (!s.forcedLoss d cause) fun s => s.proofCause 0).dirRight d

/-- Lane `l` is 0 or 1 of the ring. -/
def ringLane (l : Nat) : Bool := decide (l < 2)

/-! ### The anchor (R248 to R254) -/

/-- The TWIN_PREF strap makes this hub LEAD; a hub with TWIN 0 takes the anchor as a LEAD does (R248).
DESIGN CHOICE, log entry 48. -/
def State.leads (s : State) : Bool := s.on ID_STRAP_TWIN_PREF || !s.on RED_TWIN_CTL_TWIN

/-- Whether the twin is eligible (R251). -/
def State.eligible (s : State) : Bool :=
  s.red.twinOn && !s.on MPC_MODE_BOOTING && s.get MPC_MODE_CUR != 5 && s.get MPC_MODE_CUR != 0
    && !s.on RED_TWIN_STAT_YLOCK && !s.on RED_TWIN_STAT_CONFLICT

/-- Whether the twin is healthy (R250). -/
def State.healthy (s : State) : Bool :=
  s.sys.recordOn && !s.on MPC_MODE_BOOTING && !s.on (RSTC_WDOG_CNT_WARNED 0) && !s.on (RSTC_WDOG_CNT_WARNED 1)
    && !s.on RED_TWIN_STAT_YLOCK

/-- Enters CLAIM and raises ANCHOR_OUT. -/
def State.claimAnchor (s : State) : State := (s.put RED_TWIN_STAT_STATE 1).put RED_TWIN_STAT_ANCHOR_OUT 1

/-- The claims of R251 that a STANDBY twin with ANCHOR_IN low makes at once. -/
def State.claimCheck (s : State) : State :=
  if s.get RED_TWIN_STAT_STATE = 0 ∧ !s.on RED_TWIN_STAT_ANCHOR_IN ∧ s.on RED_TWIN_CTL_AUTO_TAKE
      ∧ (s.leads || s.on RED_TWIN_STAT_SEEN_HIGH) then s.claimAnchor
  else s

/-- Enters STANDBY. -/
def State.standby (s : State) : State :=
  ((s.put RED_TWIN_STAT_STATE 0).put RED_TWIN_STAT_ANCHOR_OUT 0).put RED_TWIN_STAT_SEEN_HIGH (s.get RED_TWIN_STAT_ANCHOR_IN)

/-- Leaves every state for OFF. -/
def State.anchorOff (s : State) : State := ((s.put RED_TWIN_STAT_STATE 5).put RED_TWIN_STAT_ANCHOR_OUT 0).lsvAnchor

/-- Follows a change of eligibility (R249). -/
def State.eligCheck (s : State) : State :=
  let st := s.get RED_TWIN_STAT_STATE
  if s.eligible then (if st = 5 then s.standby.claimCheck else s)
  else if st = 0 ∨ st = 1 ∨ st = 4 then s.anchorOff
  else s

/-- The conditions under which LEAD counts the hold-off (R257). -/
def State.holdoffOn (s : State) : Bool :=
  s.on RED_TWIN_CTL_TWIN && s.on RED_TWIN_CTL_AUTO_REVERT && s.on ID_STRAP_TWIN_PREF && s.get RED_TWIN_STAT_STATE == 0
    && s.healthy && s.get MPC_MODE_CUR == 2 && (s.dirState 0 == 0 || s.dirState 1 == 0)
    && s.on RED_TWIN_STAT_ANCHOR_IN && s.on RED_TWIN_STAT_PARTNER_BEAT

/-- The hold-off in seconds (R257, R261). -/
def State.holdoff (s : State) : Nat := min 3600 (max 1 (s.get RED_TWIN_CTL_HOLDOFF))

/-- Starts or stops the hold-off with its conditions (R257). -/
def State.holdoffSample (s : State) : State :=
  if s.holdoffOn then
    if s.on RED_TWIN_LEFT_RUNNING || s.on RED_TWIN_LEFT_DUE || s.red.revertReq then s
    else (({ s with red := { s.red with holdT0 := s.now } }).put RED_TWIN_LEFT_RUNNING 1).put RED_TWIN_LEFT_SECONDS s.holdoff
  else if s.on RED_TWIN_LEFT_RUNNING then (s.put RED_TWIN_LEFT_RUNNING 0).put RED_TWIN_LEFT_SECONDS 0
  else s

/-- Leaves HOLD for YIELDING: the anchored pins are forced, and twin flows run on for the overlap (R249, R252, R255). -/
def State.yieldAnchor (s : State) (r80 : Bool) : State :=
  if s.get RED_TWIN_STAT_STATE = 2 then
    let s1 := ((s.put RED_TWIN_STAT_STATE 3).put RED_EVT_YIELD 1).listenCheck.lsvAnchor
    { s1 with red := { s1.red with r80 := r80, overlap := s.get RED_TWIN_CTL_OVERLAP != 0 } }
  else s

/-- The fault reaction "twin yield" (R252): YLOCK, and the yield of a holder. -/
def State.twinYield (s : State) : State := ((s.put RED_TWIN_STAT_YLOCK 1).yieldAnchor false).eligCheck

/-- Entry to DORMANT takes a holder to OFF (R249). -/
def State.anchorDormant (s : State) : State :=
  let st := s.get RED_TWIN_STAT_STATE
  if st = 2 then ((s.anchorOff).put RED_EVT_YIELD 1).listenCheck else if st = 5 then s else s.anchorOff

/-- Whether the last good HELLO that stands on a ring lane, one since the lane was last down, comes from a peer with TWIN 1 and this hub's own TWIN_PREF (R251). -/
def State.prefClash (s : State) (l : Nat) : Bool :=
  let role := s.get (LANE_PEER0_ROLE l)
  s.on RED_TWIN_CTL_TWIN && (s.ln l).seen && role.testBit 7 && (role.testBit 6 == s.on ID_STRAP_TWIN_PREF)

/-- Follows CONFLICT, and reports each rise (R23, R251). -/
def State.conflictCheck (s : State) : State :=
  let c := s.prefClash 0 || s.prefClash 1
  let s1 := if c && !s.on RED_TWIN_STAT_CONFLICT then (s.put RED_EVT_CONFLICT 1).fault 0x0E 0x41 0 else s
  (s1.put RED_TWIN_STAT_CONFLICT (b2n c)).eligCheck

/-- Follows PAIR_NODE (R255): the own node number on LEAD; on SECOND the last NODE other than 0xFE that lane E's peer
told. -/
def State.pairCheck (s : State) : State :=
  if !s.on RED_TWIN_CTL_TWIN then s
  else if s.on ID_STRAP_TWIN_PREF then s.put RED_TWIN_STAT_PAIR_NODE s.node
  else if s.get (LANE_PEER1_NODE 0) = 0xFE then s
  else s.put RED_TWIN_STAT_PAIR_NODE (s.get (LANE_PEER1_NODE 0))

/-! ### The commands -/

/-- RING_LOSS (R239): RED declares the loss that the direction's lane has shown. -/
def execRingLoss (dir : Fin 2) (s : State) : Out :=
  if s.inReset 0x0E then .next s else
  .next (match s.lossDue dir.val with
    | some c => s.declareLost dir.val c
    | none => s)

/-- WRAP_DONE (R240). -/
def execWrapDone (dir : Fin 2) (s : State) : Out :=
  if s.inReset 0x0E then .next s else
  .next (if s.red.wrapping.testBit dir.val && s.dirState dir.val == 1 then
    let s1 : State := { s with red := { s.red with wrapping := setBitTo s.red.wrapping dir.val false } }
    ((s1.put (wrapFld dir.val) 1).wr64 RED_WRAP_T s.now).put RED_EVT_WRAP_DONE 1
  else s)

/-- BREAK_REPEAT (R243). -/
def execBreakRepeat (dir : Fin 2) (s : State) : Out :=
  if s.inReset 0x0E then .next s else
  .next (if s.dirLost dir.val then s.sendRed 1 dir.val (1 - dir.val) else s)

/-- A BREAK reaches LOC (R244): recorded if it comes from the sender recorded, from a nearer one, or while none is.
DEDUCED, log entry 20. -/
def State.breakRx (s : State) (lost : Nat) (sender hops : Nat) : State :=
  let s1 := s.put RED_EVT_BREAK_RX 1
  let take := match s1.brkOf lost with
    | none => true
    | some b => b.1 == sender || decide (hops < b.2)
  if !take then s1
  else
    let s2 := s1.setBrk lost (some (sender, hops))
    if s2.dirLost lost || s2.reach lost == hops then s2
    else (s2.setReach lost hops).openGap 2

/-- Ends a BREAK record (R244). -/
def State.breakEnd (s : State) (lost : Nat) : State :=
  let s1 := s.setBrk lost none
  if s1.dirLost lost then s1 else s1.setReach lost 255

/-- A RESTORE reaches LOC (R244). -/
def State.restoreRx (s : State) (lost sender : Nat) : State :=
  let s1 := s.put RED_EVT_RESTORE_RX 1
  match s1.brkOf lost with
  | some b => if b.1 = sender then s1.breakEnd lost else s1
  | none => s1

/-- BREAK_RX (R244). -/
def execBreakRx (lost : Fin 2) (node : BitVec 8) (chip : Fin 4) (hops : BitVec 10) (s : State) : Out :=
  if s.inReset 0x0E then .next s else
  .next (s.breakRx lost.val (4 * node.toNat + chip.val) hops.toNat)

/-- RESTORE_RX (R244). -/
def execRestoreRx (lost : Fin 2) (node : BitVec 8) (chip : Fin 4) (s : State) : Out :=
  if s.inReset 0x0E then .next s else
  .next (s.restoreRx lost.val (4 * node.toNat + chip.val))

/-- BREAK_RECORD_EXPIRY (R244). -/
def execBreakRecordExpiry (lost : Fin 2) (s : State) : Out :=
  if s.inReset 0x0E then .next s else
  .next (match s.brkOf lost.val with | some _ => s.breakEnd lost.val | none => s)

/-- GAP_WINDOW_CLOSE (R245): the window of a loss closes only after its wrap is complete. -/
def execGapWindowClose (w : Fin 3) (s : State) : Out :=
  if s.inReset 0x0E then .next s else
  .next (if s.red.gaps.testBit w.val && !s.red.wrapping.testBit w.val then s.closeGap w.val else s)

/-- RETURN_HOLD_EXPIRY (R238, R243, R246): the direction is UP again; RESTORE on both lanes; the unwrap hold begins. -/
def execReturnHoldExpiry (dir : Fin 2) (s : State) : Out :=
  if s.inReset 0x0E then .next s else
  .next (if s.dirState dir.val = 2 && (s.lossDue dir.val).isNone then
    let hold := s.get RED_CTL_UNWRAP_HOLD != 0
    let s1 : State := { s with red := { s.red with unwrap := setBitTo s.red.unwrap dir.val hold } }
    let s2 := ((s1.put RED_STAT_UNWRAP (b2n (s1.red.unwrap != 0))).put RED_EVT_RETURN 1).dirUp dir.val
    ((s2.sendRed 2 dir.val 0).sendRed 2 dir.val 1).locPump
  else s)

/-- UNWRAP_HOLD_END (R246): the held frames go on the lane in the order of their decision. -/
def execUnwrapHoldEnd (dir : Fin 2) (s : State) : Out :=
  if s.inReset 0x0E then .next s else
  .next (if s.red.unwrap.testBit dir.val then
    let s1 : State := { s with red := { s.red with unwrap := setBitTo s.red.unwrap dir.val false } }
    ((s1.put RED_STAT_UNWRAP (b2n (s1.red.unwrap != 0))).releaseHeld (.unwrap dir.val) dir.val).locPump
  else s)

/-- ANCHOR_IN_CHANGE (R249): the filtered level of ANCHOR_IN changes. -/
def execAnchorInChange (level : Bool) (s : State) : Out :=
  if s.inReset 0x0E then .next s else
  .next (
    let s0 : State := if level then { s with tst := { s.tst with riseT := s.sys.t } } else s
    let s1 := s0.put RED_TWIN_STAT_ANCHOR_IN (b2n level)
    let st := s1.get RED_TWIN_STAT_STATE
    let s2 := if level then s1 else { s1 with red := { s1.red with revertReq := false } }
    let s3 :=
      if level then
        match st with
        | 0 => s2.put RED_TWIN_STAT_SEEN_HIGH 1
        | 1 => if s2.leads then s2 else s2.standby
        | 4 => s2.standby
        | _ => s2
      else s2.claimCheck
    s3.holdoffSample)

/-- YIELD_SETTLE (R249): ANCHOR_OUT falls; a partner that already drives ANCHOR_IN takes the twin to STANDBY. -/
def execYieldSettle (s : State) : Out :=
  if s.inReset 0x0E then .next s else
  .next (if s.get RED_TWIN_STAT_STATE = 3 then
    let s1 := (s.put RED_TWIN_STAT_STATE 4).put RED_TWIN_STAT_ANCHOR_OUT 0
    if !s1.eligible then s1.anchorOff else if s1.on RED_TWIN_STAT_ANCHOR_IN then s1.standby else s1
  else s)

/-- YIELDED_TIMEOUT (R249, R251): STANDBY, and the twin claims again where R251 says so. -/
def execYieldedTimeout (s : State) : Out :=
  if s.inReset 0x0E then .next s else
  .next (if s.get RED_TWIN_STAT_STATE = 4 ∧ !s.on RED_TWIN_STAT_ANCHOR_IN then
    let s1 := s.standby
    if s.on RED_TWIN_CTL_AUTO_TAKE || s.red.r80 then s1.claimAnchor else s1
  else s)

/-- SECOND_CLAIM_DELAY (R251): ANCHOR_IN has been low for 100 ms. -/
def execSecondClaimDelay (s : State) : Out :=
  if s.inReset 0x0E then .next s else
  .next (if s.get RED_TWIN_STAT_STATE = 0 ∧ !s.on RED_TWIN_STAT_ANCHOR_IN ∧ !s.leads ∧ s.on RED_TWIN_CTL_AUTO_TAKE then
    s.claimAnchor else s)

/-- RED_TWIN_CMD.TAKE (R251). -/
def State.take (s : State) : State :=
  if s.get RED_TWIN_STAT_STATE = 0 ∧ !s.on RED_TWIN_STAT_ANCHOR_IN then s.claimAnchor else s

/-- RED_TWIN_CMD.REVERT (R257): LEAD asks for the anchor at once; on SECOND it has no effect. -/
def State.revert (s : State) : State :=
  if s.on RED_TWIN_CTL_TWIN && s.on ID_STRAP_TWIN_PREF && s.get RED_TWIN_STAT_STATE != 2 then
    { s with red := { s.red with revertReq := true } } else s

/-- RED_TWIN_CMD.UNLOCK (R252). -/
def State.unlock (s : State) : State := (s.put RED_TWIN_STAT_YLOCK 0).eligCheck

/-- TAKE (R251). -/
def execTwinTake (s : State) : Out := .next (s.cmd RED_TWIN_CMD State.take)

/-- YIELD (R252). -/
def execTwinYield (s : State) : Out := .next (s.cmd RED_TWIN_CMD fun s => s.yieldAnchor false)

/-- REVERT (R257). -/
def execTwinRevert (s : State) : Out := .next (s.cmd RED_TWIN_CMD State.revert)

/-- UNLOCK (R252). -/
def execTwinUnlock (s : State) : Out := .next (s.cmd RED_TWIN_CMD State.unlock)

/-- BEAT_TX (R250): a healthy twin pulls TWIN_BEAT low for 1 us, or for 4 us while it requests the anchor. -/
def execBeatTx (s : State) : Out :=
  if s.inReset 0x0E then .next s else
  let b := if s.on RED_TWIN_CTL_TWIN && s.healthy then (if s.red.revertReq then 4 else 1) else 0
  .next { s with
    red := { s.red with beat := b }
    tst := { s.tst with pulseT := if b = 4 ∧ s.tst.pulseT = none then some s.sys.t else s.tst.pulseT } }

/-- BEAT_RX (R250, R252): the partner's pulse at its phase; a request makes a holder yield while HONOR_REQ is 1. -/
def execBeatRx (request : Bool) (s : State) : Out :=
  if s.inReset 0x0E then .next s else
  .next (if s.on RED_TWIN_CTL_TWIN then
    let s1 := ((s.put RED_TWIN_STAT_PARTNER_BEAT 1).put RED_TWIN_STAT_PARTNER_REQ (b2n request))
    (if request && s.on RED_TWIN_CTL_HONOR_REQ then s1.yieldAnchor false else s1).holdoffSample
  else s)

/-- BEAT_LOST (R250). -/
def execBeatLost (s : State) : Out :=
  if s.inReset 0x0E then .next s else
  .next (if s.on RED_TWIN_STAT_PARTNER_BEAT then
    (((((s.put RED_TWIN_STAT_PARTNER_BEAT 0).put RED_TWIN_STAT_PARTNER_REQ 0).put RED_EVT_BEAT_LOST 1).fault 0x0E 0x42
      0).proofCause 1).holdoffSample
  else s)

/-- TWIN_STUCK (R253). -/
def execTwinStuck (s : State) : Out :=
  if s.inReset 0x0E then .next s else
  .next (if s.get RED_TWIN_STAT_STATE = 0 ∧ s.on RED_TWIN_STAT_ANCHOR_IN ∧ !s.on RED_TWIN_STAT_PARTNER_BEAT then
    (s.put RED_EVT_TWIN_STUCK 1).fault 0x0E 0x43 0 else s)

/-- REVERT_HOLDOFF_EXPIRY (R257). -/
def execRevertHoldoffExpiry (s : State) : Out :=
  if s.inReset 0x0E then .next s else
  .next (if s.on RED_TWIN_LEFT_RUNNING && s.holdoffOn then
    let s1 := (s.put RED_TWIN_LEFT_RUNNING 0).put RED_TWIN_LEFT_SECONDS 0
    if s.on RED_TWIN_CTL_DEFER_PROOF then s1.put RED_TWIN_LEFT_DUE 1
    else { s1 with red := { s1.red with revertReq := true } }
  else s)

/-- REVERT_REQUEST_END (R257). -/
def execRevertRequestEnd (s : State) : Out :=
  if s.inReset 0x0E then .next s else
  .next { s with red := { s.red with revertReq := false } }

/-- OVERLAP_END (R255). -/
def execOverlapEnd (s : State) : Out :=
  if s.inReset 0x0E then .next s else
  .next { s with red := { s.red with overlap := false } }

end Sys2Proof.Machine
end

