-- ==== Sys2Proof/Machine/Engine.lean ====
section
/-! DEFINITION. The gouge engines' instruction set: legality, gates, stalls, skips and the effect of each instruction (R288
to R323). An engine command is one ECLK cycle of one engine: what stands fetched executes, stalls, is skipped or halts the
engine. `seen` holds the levels of the 64 PIO balls as the synchronisers deliver them in the cycle (R291). -/
namespace Sys2Proof.Machine

/-! ### Parts -/

/-- Updates an engine's record. -/
def State.modEng (s : State) (n : Nat) (f : Eng → Eng) : State := s.setEng n (f (s.eng n))

/-- SPLIT; 5 to 7 act as 2 (R326). -/
def State.split (s : State) (n : Nat) : Nat := if s.get (GG_FIFO_SPLIT n) > 4 then 2 else s.get (GG_FIFO_SPLIT n)

/-- Whether an engine's storage is pooled on it, and whether its partner holds it (R327). -/
def State.pooled (s : State) (n : Nat) : Bool := n % 2 == 0 && s.on (GG_FIFO_POOL n)

/-- The sizes of the TX and RX FIFOs (R326, R327). -/
def State.fifoCaps (s : State) (n : Nat) : Nat × Nat :=
  if n % 2 = 1 ∧ s.pooled (n - 1) then (0, 0)
  else if s.pooled n then (8 * s.split n, 32 - 8 * s.split n)
  else (4 * s.split n, 16 - 4 * s.split n)

/-- The level a slot reads: the ball through INV; 0 while the slot claims no pin (R289). -/
def State.slotRead (s : State) (n k : Nat) (seen : DWord) : Bool :=
  s.on (GG_SLOT_VALID n k) && (seen.toNat.testBit (s.get (GG_SLOT_PIO n k)) != s.on (GG_SLOT_INV n k))

/-- The value of the IN slots, at most `m` of them (R311). -/
def State.pinsIn (s : State) (n m : Nat) (seen : DWord) : Nat :=
  (List.range (min m (min 8 (s.get (GG_MAP_IN_N n))))).foldl
    (fun a i => a + b2n (s.slotRead n ((s.get (GG_MAP_IN_BASE n) + i) % 8) seen) * 2 ^ i) 0

/-- Sets one slot's level. -/
def State.setLvl (s : State) (n k : Nat) (v : Bool) : State := s.modEng n fun e => { e with lvl := setBitTo e.lvl k v }

/-- The OUT slots take the low bits of a value, at most `m` of them (R306, R310). -/
def State.pinsOut (s : State) (n m v : Nat) : State :=
  s.each (List.range (min m (min 8 (s.get (GG_MAP_OUT_N n))))) fun s i =>
    s.setLvl n ((s.get (GG_MAP_OUT_BASE n) + i) % 8) (v.testBit i)

/-- Marker pattern `k` on an engine's valid slots (R304). -/
def State.applyMark (s : State) (n k : Nat) : State :=
  if k = 0 then s
  else s.each (List.range 8) fun s i =>
    if !s.on (GG_SLOT_VALID n i) then s
    else if s.getBit (GG_MARK_MASK n k) i then s.setLvl n i (s.getBit (GG_MARK_VAL n k) i)
    else if s.getBit (GG_MARK_TGL n k) i then s.setLvl n i (!(s.eng n).lvl.testBit i)
    else s

/-- SC_LIM; 0 and values above 32 act as 32 (R324). -/
def State.scLim (s : State) (n : Nat) : Nat :=
  let v := s.get (GG_EXEC_SC_LIM n)
  if v = 0 ∨ v > 32 then 32 else v

/-! ### Event flags (R322) -/

/-- GG_EF follows what acts on the flags in this cycle: SET wins, then CLEAR, then an odd number of TOGGLE. Engines read the
flags as they stood at the beginning of the cycle. DESIGN CHOICE, log entry 22. -/
def State.efFold (s : State) : State :=
  let g := s.gg
  let flag (i : Nat) : Bool :=
    if g.efSet.testBit i then true else if g.efClr.testBit i then false else g.efBase.testBit i != g.efTgl.testBit i
  s.put GG_EF_EF ((List.range 16).foldl (fun a i => a + b2n (flag i) * 2 ^ i) 0)

/-- SET acts on the flags of a mask. -/
def State.efSet (s : State) (m : Nat) : State :=
  ({ s with gg := { s.gg with efSet := s.gg.efSet ||| m } }).efFold

/-- CLEAR acts on the flags of a mask. -/
def State.efClr (s : State) (m : Nat) : State :=
  ({ s with gg := { s.gg with efClr := s.gg.efClr ||| m } }).efFold

/-- TOGGLE acts on one flag. -/
def State.efTgl (s : State) (i : Nat) : State :=
  ({ s with gg := { s.gg with efTgl := s.gg.efTgl ^^^ 2 ^ i } }).efFold

/-! ### Legality (R297) -/

/-- Whether an instruction word is illegal for an engine. -/
def State.illegal (s : State) (n w : Nat) : Bool :=
  let op := bits w 28 4
  let caps := s.fifoCaps n
  let noTx := caps.1 == 0
  let noRx := caps.2 == 0
  bit w 21 || match op with
  | 0 => bits w 0 21 != 0
  | 1 =>
    let c := bits w 17 4
    let i := bits w 13 4
    bits w 6 7 != 0 || (if c = 5 ∨ c = 6 then decide (i > 7) else c != 15 && i != 0)
      || ((c == 11 || c == 12) && noTx) || (c == 13 && noRx)
  | 2 =>
    let src := bits w 16 4
    let i := bits w 10 6
    bits w 0 9 != 0 || (bit w 9 && !(src == 3 && bit w 20)) || match src with
      | 0 => decide (i > 7)
      | 1 => false
      | 2 => !bit w 20 || decide (i > 3)
      | 3 => decide (i > 15)
      | 4 => i != 0
      | 5 => !bit w 20 || decide (i > 31) || noTx
      | 6 => !bit w 20 || decide (i > 31) || noRx
      | 7 => !bit w 20 || i != 0
      | _ => true
  | 3 => bits w 0 14 != 0 || bits w 19 2 == 3
  | 4 => bits w 0 16 != 0 || (bit w 16 && decide (5 ≤ bits w 18 3)) || noTx
  | 5 => bits w 0 16 != 0 || (bit w 16 && bits w 18 3 != 0) || noRx
  | 6 =>
    let d := bits w 17 4
    bits w 0 11 != 0 || d == 11 || d == 12 || d == 15 || bits w 13 4 == 14
  | 7 => bits w 16 4 != 0
  | 8 =>
    let k := bits w 18 3
    bits w 6 11 != 0 || !s.on (GG_SLOT_VALID n k) || decide (s.get (GG_SLOT_PIO n k) < 60)
  | 9 => decide (5 < bits w 18 3) || bits w 16 2 == 3
  | 10 => if bit w 15 then bits w 12 3 != 0 else bits w 0 12 != 0
  | 11 => bits w 0 18 != 0
  | 12 => bits w 0 14 != 0 || bits w 19 2 == 3
  | 13 => bits w 0 16 != 0 || decide (2 < bits w 18 3) || (bits w 18 3 != 2 && bits w 16 2 != 0)
  | _ => true

/-! ### Stalls (R298, R299, R302) -/

/-- What a fetched instruction does in a cycle. -/
inductive Verdict where
  | run | skip | stall (cause : Nat)
deriving DecidableEq, Repr

/-- The condition of a WAIT (R309). -/
def State.waitOk (s : State) (n w : Nat) (seen : DWord) : Bool :=
  let pol := bit w 20
  let i := bits w 10 6
  match bits w 16 4 with
  | 0 => s.slotRead n i seen == pol
  | 1 => seen.toNat.testBit i == pol
  | 2 => s.gg.mcgTick.testBit i
  | 3 => s.gg.efBase.testBit i == pol
  | 4 =>
    let m := 2 ^ min 8 (s.get (GG_MAP_IN_N n))
    (s.pinsIn n 8 seen == s.get (GG_CMP_VALUE n) % m) == pol
  | 5 => decide (i + 1 ≤ (s.eng n).tx.length)
  | 6 => decide (i + 1 + (s.eng n).rx.length ≤ (s.fifoCaps n).2)
  | _ => (s.eng n).tick

/-- The stall cause of the opcode, 0 for none. -/
def State.opStall (s : State) (n w : Nat) (seen : DWord) : Nat :=
  match bits w 28 4 with
  | 2 => if s.waitOk n w seen then 0 else if bits w 16 4 = 5 then 3 else if bits w 16 4 = 6 then 4 else 5
  | 4 => if !bit w 17 && decide ((s.eng n).tx.length < if bits w 18 3 = 7 then 2 else 1) then 3 else 0
  | 5 => if !bit w 17 && decide ((s.fifoCaps n).2 ≤ (s.eng n).rx.length) then 4 else 0
  | _ => 0

/-- Gate, then opcode (R298, R299, R302). -/
def State.verdict (s : State) (n w : Nat) (seen : DWord) : Verdict :=
  let g := bits w 26 2
  let t := s.rd64 (GG_TB n)
  if 2 ≤ g ∧ s.now < t then .stall 1
  else if 2 ≤ g ∧ s.on (GG_EXEC_LATE n) ∧ t < s.now then .skip
  else if g = 1 ∧ !(s.eng n).tick then .stall 2
  else match s.opStall n w seen with
    | 0 => .run
    | c => .stall c

/-! ### Effects -/

/-- A source operand of R306. -/
def State.srcVal (s : State) (n code : Nat) (seen : DWord) : Nat :=
  match code with
  | 0 => s.get (GG_SR_VALUE n)
  | 1 | 2 | 3 | 4 => s.get (GG_X_VALUE n (code - 1))
  | 5 => s.get (GG_CMP_VALUE n)
  | 6 => s.get (GG_SCF_SC n)
  | 7 => s.pinsIn n 8 seen
  | 8 => s.get (GG_TSTEP_VALUE n)
  | 9 => (s.rd (GG_TB n)).toNat
  | 10 => (s.rd (GG_TB n + 4)).toNat
  | 11 => s.now % 2 ^ 32
  | 12 => s.now / 2 ^ 32
  | 15 => (s.rd (GG_TCAP n)).toNat
  | _ => 0

/-- Writes a destination operand of R306. -/
def State.dstPut (s : State) (n code v : Nat) : State :=
  match code with
  | 0 => (s.put (GG_SR_VALUE n) v).put (GG_SCF_SC n) 0
  | 1 | 2 | 3 | 4 => s.put (GG_X_VALUE n (code - 1)) v
  | 5 => s.put (GG_CMP_VALUE n) v
  | 6 => s.put (GG_SCF_SC n) (min 32 v)
  | 7 => s.pinsOut n 8 v
  | 8 => s.put (GG_TSTEP_VALUE n) v
  | 9 => s.wr (GG_TB n) (BitVec.ofNat 32 v)
  | 10 => s.wr (GG_TB n + 4) (BitVec.ofNat 32 v)
  | 14 => s.wr64 (GG_TB n) (s.now + v)
  | _ => s

/-- Bit order reversed. -/
def revBits (v : Nat) : Nat := (List.range 32).foldl (fun a i => a + b2n (v.testBit i) * 2 ^ (31 - i)) 0

/-- Byte order reversed. -/
def revBytes (v : Nat) : Nat := bits v 0 8 * 2 ^ 24 + bits v 8 8 * 2 ^ 16 + bits v 16 8 * 2 ^ 8 + bits v 24 8

/-- What an instruction leaves: the state and the jump it takes. -/
abbrev Effect := State × Option Nat

/-- JMP (R308). -/
def State.doJmp (s : State) (n w : Nat) (seen : DWord) : Effect :=
  let i := bits w 13 4
  let x (k : Nat) : Nat := s.get (GG_X_VALUE n k)
  let caps := s.fifoCaps n
  let e := s.eng n
  let take : Bool := match bits w 17 4 with
    | 0 => true
    | 1 => x 0 == 0
    | 2 => decide (2 ≤ x 0)
    | 3 => x 1 == 0
    | 4 => decide (2 ≤ x 1)
    | 5 => s.slotRead n i seen
    | 6 => !s.slotRead n i seen
    | 7 => s.on (GG_SCF_EQ n)
    | 8 => !s.on (GG_SCF_EQ n)
    | 9 => s.on (GG_SCF_LT n)
    | 10 => s.on (GG_SCF_Z n)
    | 11 => e.tx.isEmpty
    | 12 => !e.tx.isEmpty
    | 13 => decide (caps.2 ≤ e.rx.length)
    | 14 => decide (s.scLim n ≤ s.get (GG_SCF_SC n))
    | _ => s.gg.efBase.testBit i
  let s1 := match bits w 17 4 with
    | 2 => s.put (GG_X_VALUE n 0) (x 0 - 1)
    | 4 => s.put (GG_X_VALUE n 1) (x 1 - 1)
    | _ => s
  (s1, if take then some (bits w 0 6) else none)

/-- WAIT (R309): TCAP, and the flag's clear. -/
def State.doWait (s : State) (n w : Nat) : Effect :=
  let src := bits w 16 4
  let pin := src == 0 || src == 1 || src == 4
  let s1 := s.wr64 (GG_TCAP n) (if pin then (s.now + 2 ^ 64 - 2) % 2 ^ 64 else s.now)
  (if bit w 9 then s1.efClr (2 ^ bits w 10 6) else s1, none)

/-- SHIFT (R310 to R312). -/
def State.doShift (s : State) (n w : Nat) (seen : DWord) : Effect :=
  let k := bits w 14 5 + 1
  let sr := s.get (GG_SR_VALUE n)
  let lsb := s.on (GG_MAP_DIR n)
  let out := if lsb then sr % 2 ^ k else sr / 2 ^ (32 - k)
  let base := if lsb then sr / 2 ^ k else sr * 2 ^ k % 2 ^ 32
  let vin := s.pinsIn n k seen
  let into := if k = 32 then vin else if lsb then base ||| (vin * 2 ^ (32 - k) % 2 ^ 32) else base ||| vin
  let m := bits w 19 2
  let s1 := if m = 1 then s else s.pinsOut n k out
  ((s1.put (GG_SR_VALUE n) (if m = 0 then base else into)).put (GG_SCF_SC n) (min 32 (s.get (GG_SCF_SC n) + k)), none)

/-- Adds a pilot sample in bits [31:8] to a word, saturating (R314). -/
def addPilot (v : Nat) (p : Int) : Nat := wrapInt 32 (satInt 32 (sext 32 v + p * 256))

/-- PULL (R313, R314). -/
def State.doPull (s : State) (n w : Nat) : Effect :=
  let d := bits w 18 3
  let tx := (s.eng n).tx
  let need := if d = 7 then 2 else 1
  let short := decide (tx.length < need)
  let s1 :=
    if short then (s.put (GG_STAT_UNDERRUN n) 1).bump (GG_CNT n 2)
    else s.modEng n fun e => { e with tx := e.tx.drop need }
  if d = 7 then
    (if short then s1
      else (s1.wr (GG_TB n) (tx.getD 0 0#32)).wr (GG_TB n + 4) (tx.getD 1 0#32), none)
  else
    let v := if short then 0 else (tx.getD 0 0#32).toNat
    let r := if bit w 16 then s1.pilotTake n else (0, s1)
    let v := if bit w 16 then addPilot v r.1 else v
    let s2 := r.2
    (match d with
      | 0 => (s2.put (GG_SR_VALUE n) v).put (GG_SCF_SC n) 0
      | 5 => s2.put (GG_CMP_VALUE n) v
      | 6 => s2.put (GG_TSTEP_VALUE n) v
      | _ => s2.put (GG_X_VALUE n (d - 1)) v, none)

/-- PUSH (R315). -/
def State.doPush (s : State) (n w : Nat) : Effect :=
  let src := bits w 18 3
  let sc := s.get (GG_SCF_SC n)
  let v := match src with
    | 0 =>
      let sr := s.get (GG_SR_VALUE n)
      if bit w 16 && s.on (GG_MAP_DIR n) then sr / 2 ^ (32 - min 32 sc) else sr
    | 5 => s.get (GG_CMP_VALUE n)
    | 6 => (s.rd (GG_TCAP n)).toNat
    | 7 => (s.rd (GG_TCAP n + 4)).toNat
    | _ => s.get (GG_X_VALUE n (src - 1))
  let s1 :=
    if (s.fifoCaps n).2 ≤ (s.eng n).rx.length then (s.put (GG_STAT_OVERFLOW n) 1).bump (GG_CNT n 3)
    else s.modEng n fun e => { e with rx := e.rx ++ [BitVec.ofNat 32 v] }
  (if src = 0 then s1.put (GG_SCF_SC n) 0 else s1, none)

/-- MOV (R316). -/
def State.doMov (s : State) (n w : Nat) (seen : DWord) : Effect :=
  let v := s.srcVal n (bits w 13 4) seen
  let r := match bits w 11 2 with
    | 0 => v
    | 1 => 2 ^ 32 - 1 - v % 2 ^ 32
    | 2 => revBits v
    | _ => revBytes v
  (s.dstPut n (bits w 17 4) r, none)

/-- SET (R317). -/
def State.doSet (s : State) (n w : Nat) : Effect :=
  (s.each (List.range 8) fun s k =>
    if bit w (8 + k) && s.on (GG_SLOT_VALID n k) then
      if bit w 20 then s.modEng n fun e => { e with oe := setBitTo e.oe k (bit w k) }
      else s.setLvl n k (bit w k)
    else s, none)

/-- EDGE (R318): the level; the step is placed with the pin's edge. -/
def State.doEdge (s : State) (n w : Nat) : Effect := (s.setLvl n (bits w 18 3) (bit w 17), none)

/-- LDI (R319). -/
def State.doLdi (s : State) (n w : Nat) : Effect :=
  let d := bits w 18 3
  let f := if d ≤ 3 then GG_X_VALUE n d else if d = 4 then GG_CMP_VALUE n else GG_TSTEP_VALUE n
  let imm := bits w 0 16
  (s.put f (match bits w 16 2 with
    | 0 => imm
    | 1 => imm * 2 ^ 16 + s.get f % 2 ^ 16
    | _ => wrapInt 32 (sext 16 imm)), none)

/-- The result of an ALU operation (R320). -/
def aluResult (opc a b : Nat) : Nat :=
  match opc with
  | 0 => (a + b) % 2 ^ 32
  | 1 => (a + 2 ^ 32 - b % 2 ^ 32) % 2 ^ 32
  | 2 => a &&& b
  | 3 => a ||| b
  | 4 => a ^^^ b
  | 5 => a * 2 ^ (b % 32) % 2 ^ 32
  | 6 => a / 2 ^ (b % 32)
  | _ => wrapInt 32 (sext 32 a / 2 ^ (b % 32))

/-- ALU (R320). -/
def State.doAlu (s : State) (n w : Nat) (seen : DWord) : Effect :=
  let d := bits w 16 2
  let k := bits w 12 3
  let b := if bit w 15 then bits w 0 12
    else if k ≤ 3 then s.get (GG_X_VALUE n k)
    else if k = 4 then s.get (GG_SR_VALUE n) else if k = 5 then s.get (GG_CMP_VALUE n)
    else if k = 6 then s.get (GG_SCF_SC n) else s.pinsIn n 8 seen
  let r := aluResult (bits w 18 3) (s.get (GG_X_VALUE n d)) b
  ((s.put (GG_X_VALUE n d) r).put (GG_SCF_Z n) (b2n (r == 0)), none)

/-- TEST (R321). -/
def State.doTest (s : State) (n w : Nat) (seen : DWord) : Effect :=
  let v := match bits w 18 3 with
    | 0 => s.get (GG_SR_VALUE n)
    | 5 => s.pinsIn n 8 seen
    | 6 => s.get (GG_SCF_SC n)
    | 7 => s.now % 2 ^ 32
    | k => s.get (GG_X_VALUE n (k - 1))
  let c := s.get (GG_CMP_VALUE n)
  ((s.put (GG_SCF_EQ n) (b2n (v == c))).put (GG_SCF_LT n) (b2n (decide (v < c))), none)

/-- FLAG (R322). -/
def State.doFlag (s : State) (n w : Nat) : Effect :=
  let i := bits w 15 4
  let s1 := match bits w 19 2 with
    | 0 => s.efSet (2 ^ i)
    | 1 => s.efClr (2 ^ i)
    | _ => s.efTgl i
  (if bit w 14 then s1.setBit GG_FLAG_SRC_ENG n else s1, none)

/-- Restarts an engine's clock in this cycle: tick 0 falls in the next (R292). -/
def State.clkRestart (s : State) (n : Nat) : State :=
  s.modEng n fun e => { e with acc := (2 ^ 32 - s.get (GG_CLK_INC n)) % 2 ^ 32 }

/-- CTL (R323); HALT is completed at the boundary. -/
def State.doCtl (s : State) (n w : Nat) : Effect :=
  match bits w 18 3 with
  | 0 => (s.clkRestart n, none)
  | 2 => (s, some (s.get (GG_X_VALUE n (bits w 16 2)) % 64))
  | _ => (s, none)

/-- The effect of a legal instruction's opcode. -/
def State.opEffect (s : State) (n w : Nat) (seen : DWord) : Effect :=
  match bits w 28 4 with
  | 1 => s.doJmp n w seen
  | 2 => s.doWait n w
  | 3 => s.doShift n w seen
  | 4 => s.doPull n w
  | 5 => s.doPush n w
  | 6 => s.doMov n w seen
  | 7 => s.doSet n w
  | 8 => s.doEdge n w
  | 9 => s.doLdi n w
  | 10 => s.doAlu n w seen
  | 11 => s.doTest n w seen
  | 12 => s.doFlag n w
  | 13 => s.doCtl n w
  | _ => (s, none)

/-! ### One cycle of one engine -/

/-- Notes the step of the edges that a cycle has placed on the fine-edge pins: K for an EDGE whose slot the pattern leaves
alone, 0 otherwise (R304, R318). -/
def State.fineEdges (s : State) (n w before : Nat) : State :=
  s.each (List.range 8) fun s k =>
    let pin := s.get (GG_SLOT_PIO n k)
    let m := bits w 23 3
    let named := m != 0 && (s.getBit (GG_MARK_MASK n m) k || s.getBit (GG_MARK_TGL n m) k)
    if s.on (GG_SLOT_VALID n k) && decide (60 ≤ pin) && ((s.eng n).lvl.testBit k != before.testBit k) then
      let st := if bits w 28 4 = 8 && bits w 18 3 = k && !named then bits w 0 6 else 0
      { s with gg := { s.gg with fine := Tab.set (fun _ => 0) s.gg.fine pin st } }
    else s

/-- The PC after an instruction that takes no jump (R296); an injected one leaves it as it stands (R338). -/
def State.nextPc (s : State) (n w : Nat) (inj : Bool) : Nat :=
  if inj then s.get (GG_STAT_PC n)
  else if bit w 22 then s.get (GG_EXEC_LOOP_PC n)
  else (s.get (GG_STAT_PC n) + 1) % 64

/-- An engine leaves RUNNING: its pilot stops with it. -/
def State.engStop (s : State) (n st : Nat) : State := ((s.put (GG_STAT_STATE n) st).put (GG_STAT_CAUSE n) 0).pilotHalt n

/-- The instruction boundary: the PC, then what HALT, a stop request or the end of a STEP makes of the engine (R303, R323,
R330). DESIGN CHOICE, log entry 22. -/
def State.boundary (s : State) (n w : Nat) (jump : Option Nat) (halt : Bool) : State :=
  let e := s.eng n
  let pc := match jump with | some t => t | none => s.nextPc n w e.inj
  let step := s.get (GG_STAT_STATE n) == 3
  let kept := if jump.isSome then none else e.kept
  let s1 := ((s.put (GG_STAT_PC n) pc).put (GG_STAT_CAUSE n) 0).setEng n
    { e with fetched := none, inj := false, ran := true, stopReq := false, kept := kept }
  if step then s1.put (GG_STAT_STATE n) e.former
  else if halt then (s1.modEng n fun e => { e with ill := false }).engStop n 2
  else if e.stopReq then s1.engStop n 0
  else s1

/-- Reports a late execution or a skip (R301): `k` 0 late, 1 skip. -/
def State.lateReport (s : State) (n k deadline : Nat) : State :=
  let late := s.now - deadline
  let s1 := (s.put (if k = 0 then GG_STAT_LATE n else GG_STAT_SKIP n) 1).bump (GG_CNT n k)
  (s1.fault 0x10 (0x51 + k) (n * 2 ^ 40 + min late (2 ^ 32 - 1))).miss (3 + k) 0x10 n deadline

/-- The stamp of a GATE 3 instruction advances TB (R300). -/
def State.advanceTb (s : State) (n w : Nat) : State :=
  if bits w 26 2 = 3 then s.wr64 (GG_TB n) ((s.rd64 (GG_TB n) + s.get (GG_TSTEP_VALUE n)) % 2 ^ 64) else s

/-- A skip (R300). -/
def State.engSkip (s : State) (n w : Nat) : State :=
  let t := s.rd64 (GG_TB n)
  ((s.advanceTb n w).lateReport n 1 t).boundary n w none false

/-- An execution: the stamp, the opcode, the marker pattern, then the boundary (R295, R300, R304). -/
def State.engRun (s : State) (n w : Nat) (seen : DWord) : State :=
  let t := s.rd64 (GG_TB n)
  let before := (s.eng n).lvl
  let r := (s.advanceTb n w).opEffect n w seen
  let s1 := (r.1.applyMark n (bits w 23 3)).fineEdges n w before
  let s2 := if 2 ≤ bits w 26 2 ∧ t < s.now then s1.lateReport n 0 t else s1
  s2.boundary n w r.2 (bits w 28 4 = 13 && bits w 18 3 = 1)

/-- An illegal instruction halts the engine with PC at it (R297). -/
def State.engIllegal (s : State) (n w : Nat) : State :=
  let s1 := s.modEng n fun e => { e with fetched := none, inj := false, kept := none, ran := true, stopReq := false, ill := true }
  ((s1.engStop n 2).put (GG_STAT_CAUSE n) 6).fault 0x10 0x50 (n * 2 ^ 40 + s.get (GG_STAT_PC n) * 2 ^ 32 + w)

/-- A stall shows its cause; a stop request that waits stops the engine in its stall, with the instruction kept (R302,
R303). -/
def State.engStall (s : State) (n c : Nat) : State :=
  let e := s.eng n
  let s1 := s.put (GG_STAT_CAUSE n) c
  if e.stopReq then
    (s1.setEng n { e with kept := e.fetched.map fun w => (w, e.inj), fetched := none, inj := false, stopReq := false }).engStop
      n 0
  else s1

/-- Whether an engine may act in this cycle. -/
def State.engLive (s : State) (n : Nat) : Bool :=
  (s.get (GG_STAT_STATE n) == 1 || s.get (GG_STAT_STATE n) == 3) && !(s.eng n).ran && !s.inReset 0x10

/-- One cycle of an engine whose fetched instruction has opcode `op`; another opcode stands for no such event. -/
def State.engCycle (s : State) (n op : Nat) (seen : DWord) : State :=
  match (s.eng n).fetched with
  | none => s
  | some v =>
    let w := v.toNat
    if !s.engLive n || bits w 28 4 != op then s
    else if s.illegal n w then s.engIllegal n w
    else match s.verdict n w seen with
      | .run => s.engRun n w seen
      | .skip => s.engSkip n w
      | .stall c => s.engStall n c

/-! ### The commands -/

/-- NOP (R307). -/
def execNop (n : Fin 16) (s : State) : Out := .next (s.engCycle n.val 0 0)
/-- JMP (R308). -/
def execJmp (n : Fin 16) (seen : DWord) (s : State) : Out := .next (s.engCycle n.val 1 seen)
/-- WAIT (R309). -/
def execWait (n : Fin 16) (seen : DWord) (s : State) : Out := .next (s.engCycle n.val 2 seen)
/-- SHIFT (R310 to R312). -/
def execShift (n : Fin 16) (seen : DWord) (s : State) : Out := .next (s.engCycle n.val 3 seen)
/-- PULL (R313, R314). -/
def execPull (n : Fin 16) (s : State) : Out := .next (s.engCycle n.val 4 0)
/-- PUSH (R315). -/
def execPush (n : Fin 16) (s : State) : Out := .next (s.engCycle n.val 5 0)
/-- MOV (R316). -/
def execMovReg (n : Fin 16) (seen : DWord) (s : State) : Out := .next (s.engCycle n.val 6 seen)
/-- SET (R317). -/
def execSetReg (n : Fin 16) (s : State) : Out := .next (s.engCycle n.val 7 0)
/-- EDGE (R318). -/
def execEdge (n : Fin 16) (s : State) : Out := .next (s.engCycle n.val 8 0)
/-- LDI (R319). -/
def execLdi (n : Fin 16) (s : State) : Out := .next (s.engCycle n.val 9 0)
/-- ALU (R320). -/
def execAlu (n : Fin 16) (seen : DWord) (s : State) : Out := .next (s.engCycle n.val 10 seen)
/-- TEST (R321). -/
def execTestFlag (n : Fin 16) (seen : DWord) (s : State) : Out := .next (s.engCycle n.val 11 seen)
/-- FLAG (R322). -/
def execFlag (n : Fin 16) (s : State) : Out := .next (s.engCycle n.val 12 0)

/-- The fetched instruction is CTL with the given operation; an illegal CTL word acts under R297 whichever is named. -/
def State.ctlCycle (s : State) (n opc : Nat) : State :=
  match (s.eng n).fetched with
  | none => s
  | some v => if bits v.toNat 18 3 = opc || s.illegal n v.toNat then s.engCycle n 13 0 else s

/-- CLKR (R323). -/
def execClkr (n : Fin 16) (s : State) : Out := .next (s.ctlCycle n.val 0)
/-- HALT (R323). -/
def execHalt (n : Fin 16) (s : State) : Out := .next (s.ctlCycle n.val 1)
/-- JMPX (R323). -/
def execJmpx (n : Fin 16) (s : State) : Out := .next (s.ctlCycle n.val 2)

/-- GG_ILLEGAL (R297): in its c0 an illegal instruction halts the engine. -/
def execGgIllegal (n : Fin 16) (s : State) : Out :=
  .next (match (s.eng n.val).fetched with
    | some v => if s.engLive n.val && s.illegal n.val v.toNat then s.engIllegal n.val v.toNat else s
    | none => s)

/-- INSTRUCTION_SKIP (R300): a stamped instruction with LATE 1 whose time has passed. -/
def execInstructionSkip (n : Fin 16) (s : State) : Out :=
  .next (match (s.eng n.val).fetched with
    | some v =>
      if s.engLive n.val && !s.illegal n.val v.toNat && decide (s.verdict n.val v.toNat 0 = .skip) then
        s.engSkip n.val v.toNat else s
    | none => s)

end Sys2Proof.Machine
end

