-- ==== Sys2Proof/Machine/EngineCtl.lean ====
section
/-! DEFINITION. Gouge engines in operation: starting and stopping, groups, injection, FIFO access by software, event flags,
the cycle's end, applies and the UNIT reset (R325 to R341, R358). -/
namespace Sys2Proof.Machine

/-! ### One engine (R330, R331) -/

/-- A fresh start (R331): the first instruction is fetched for the next cycle. DESIGN CHOICE, log entry 22. -/
def State.freshStart (s : State) (n : Nat) : State :=
  let s1 := ((s.put (GG_STAT_STATE n) 1).put (GG_STAT_PC n) (s.get (GG_EXEC_START_PC n))).put (GG_STAT_CAUSE n) 0
  let s2 := ((s1.put (GG_SCF_Z n) 0).put (GG_SCF_EQ n) 0).put (GG_SCF_LT n) 0
  ((s2.modEng n fun e =>
    { e with fetched := none, inj := false, kept := none, ran := true, stopReq := false, ill := false }).clkRestart n).pilotRun n

/-- START. -/
def State.ggStart (s : State) (n : Nat) : State :=
  let st := s.get (GG_STAT_STATE n)
  if (st = 0 ∨ st = 2) ∧ !s.idling 0x10 then s.freshStart n else s

/-- STOP: at the boundary, or in the stall that the engine shows; a STEP ends with its injection discarded (R303, R330). -/
def State.ggStop (s : State) (n : Nat) : State :=
  let e := s.eng n
  match s.get (GG_STAT_STATE n) with
  | 1 =>
    match e.fetched with
    | none => s.engStop n 0
    | some w =>
      if s.on (GG_STAT_CAUSE n) then
        (s.setEng n { e with fetched := none, inj := false, kept := some (w, e.inj) }).engStop n 0
      else s.setEng n { e with stopReq := true }
  | 3 =>
    ((s.setEng n { e with fetched := none, inj := false, pend := none }).put (GG_STAT_INJ_PEND n) 0).put (GG_STAT_STATE n)
      e.former
  | _ => s

/-- The engine runs again with the instruction it kept, or from PC. DESIGN CHOICE, log entry 22. -/
def State.runAgain (s : State) (n : Nat) : State :=
  let e := s.eng n
  ((s.setEng n { e with
      fetched := e.kept.map (·.1), inj := (e.kept.map (·.2)).getD false, kept := none, ran := true, ill := false }).put
    (GG_STAT_STATE n) 1).pilotRun n

/-- RESUME: not after an illegal instruction. -/
def State.ggResume (s : State) (n : Nat) : State :=
  let st := s.get (GG_STAT_STATE n)
  if (st = 0 ∨ (st = 2 ∧ !(s.eng n).ill)) ∧ !s.idling 0x10 then s.runAgain n else s

/-- A GG_CTL command is discarded if a group command has reached the engine in this cycle (R335). -/
def State.ggCtl (s : State) (n : Nat) (f : State → State) : State :=
  if s.gg.grpHit.testBit n then s else f s

/-- FIFO_CLR. -/
def State.fifoClr (s : State) (n : Nat) : State := s.modEng n fun e => { e with tx := [], rx := [] }

/-! ### Groups (R333 to R335) -/

/-- One group operation on one engine: 1 START, 2 STOP, 3 RESUME, 4 CLKR. -/
def State.groupOp (s : State) (op n : Nat) : State :=
  match op with
  | 1 => s.ggStart n
  | 2 => s.ggStop n
  | 3 => s.ggResume n
  | 4 => s.clkRestart n
  | _ => s

/-- The members of a group. -/
def State.members (s : State) (g : Nat) : List Nat := bitList 16 (s.get (GG_GMEM_MEM g))

/-- A group operation on every member that no group command has reached in this cycle. -/
def State.groupAct (s : State) (g op : Nat) : State :=
  s.each (s.members g) fun s n =>
    if s.gg.grpHit.testBit n then s
    else
      let s1 := s.groupOp op n
      { s1 with gg := { s1.gg with grpHit := setBitTo s1.gg.grpHit n true } }

/-- The operation a group is armed with. -/
def State.armed (s : State) (g : Nat) : Option Nat := Tab.get (fun _ => none) s.gg.arm g

/-- Arms or disarms a group. -/
def State.setArm (s : State) (g : Nat) (op : Option Nat) : State :=
  let s1 : State := { s with gg := { s.gg with arm := Tab.set (fun _ => none) s.gg.arm g op } }
  if op.isSome then s1.setBit GG_GSTAT_ARMED g else s1.clrBit GG_GSTAT_ARMED g

/-- A GG_GCMD command: OP 0 disarms; with AT_TIME it arms the group; otherwise it acts, in place of an armed one. -/
def State.groupCmd (s : State) (g op : Nat) (atTime : Bool) : State :=
  if 4 < op then s
  else if op = 0 then s.setArm g none
  else if atTime then s.setArm g (some op)
  else (s.setArm g none).groupAct g op

/-- A written GG_GCMD: discarded when a local action has commanded the same group in this cycle (R369). -/
def State.groupWrite (s : State) (g op : Nat) (atTime : Bool) : State :=
  if s.gg.actHit.testBit g || s.idling 0x10 then s else s.groupCmd g op atTime

/-- An armed group command acts, at its time or late (R334). -/
def State.groupFire (s : State) (g : Nat) : State :=
  match s.armed g with
  | none => s
  | some op =>
    let t := s.rd64 (GG_GTIME g)
    if s.now < t ∨ s.inReset 0x10 then s
    else
      let s1 := (s.setArm g none).groupAct g op
      if t < s.now then (s1.setBit GG_GSTAT_LATE g).each (s.members g) fun s n => s.lateReport n 0 t else s1

/-! ### FIFO access by software (R325) -/

/-- The lowest enabled queue that names a consumer or a producer (R343). -/
def State.queueOfCons (s : State) (c : Nat) : Option Nat :=
  (List.range 64).find? fun q => s.on (SQ_CFG_EN q) && s.get (SQ_CFG_CONS q) == c

/-- The lowest enabled queue that names a producer (R343). -/
def State.queueOfProd (s : State) (c : Nat) : Option Nat :=
  (List.range 64).find? fun q => s.on (SQ_CFG_EN q) && s.get (SQ_CFG_PROD q) == c

/-- A write of GG_TXF. -/
def State.txfWrite (s : State) (n : Nat) (w : Word) : State :=
  if (s.fifoCaps n).1 ≤ (s.eng n).tx.length ∨ (s.queueOfCons n).isSome then s.put (GG_STAT_TX_REJ n) 1
  else s.modEng n fun e => { e with tx := e.tx ++ [w] }

/-- A read of GG_RXF: the state after it and the word read. -/
def State.rxfRead (s : State) (n : Nat) : State × Nat :=
  match (s.eng n).rx with
  | w :: r =>
    if (s.queueOfProd n).isSome then (s.put (GG_STAT_RX_EMPTY_RD n) 1, 0)
    else (s.modEng n fun e => { e with rx := r }, w.toNat)
  | [] => (s.put (GG_STAT_RX_EMPTY_RD n) 1, 0)

/-! ### Injection (R338 to R341) -/

/-- An injection is accepted; a STOPPED or HALTED engine goes to STEP. -/
def State.injTake (s : State) (n : Nat) (w : Word) : State :=
  let st := s.get (GG_STAT_STATE n)
  let s1 := (s.modEng n fun e => { e with pend := some w }).put (GG_STAT_INJ_PEND n) 1
  if st = 0 ∨ st = 2 then (s1.modEng n fun e => { e with former := st }).put (GG_STAT_STATE n) 3 else s1

/-- A write of GG_INJ. -/
def State.ggInj (s : State) (n : Nat) (w : Word) : State :=
  if s.on (GG_STAT_INJ_PEND n) then s.put (GG_STAT_INJ_REJ n) 1 else s.injTake n w

/-- Abandons a stalled instruction: no effect at all but the PC's (R341). -/
def State.abandon (s : State) (n : Nat) (w : Word) (inj : Bool) : State :=
  let s1 := (s.put (GG_STAT_PC n) (s.nextPc n w.toNat inj)).put (GG_STAT_CAUSE n) 0
  ((s1.modEng n fun e => { e with fetched := none, inj := false, kept := none, ran := true }).put (GG_STAT_ABANDONED n) 1).bump
    (GG_CNT n 4)

/-- A write of GG_INJ_FORCE. -/
def State.ggForce (s : State) (n : Nat) (w : Word) : State :=
  if s.on (GG_STAT_INJ_PEND n) then s.put (GG_STAT_INJ_REJ n) 1
  else
    let e := s.eng n
    let st := s.get (GG_STAT_STATE n)
    let s1 :=
      if st = 1 ∨ st = 3 then
        match e.fetched with
        | some v => if s.on (GG_STAT_CAUSE n) then s.abandon n v e.inj else s
        | none => s
      else if st = 0 then
        match e.kept with
        | some v => s.abandon n v.1 v.2
        | none => s
      else s
    s1.injTake n w

/-! ### The end of a cycle -/

/-- One engine at the end of a cycle: the clock (R292), then the fetch for the next one (R295, R337, R338). -/
def State.engTick (s : State) (n : Nat) : State :=
  let e := s.eng n
  let inc := if s.get (GG_CLK_INC n) = 0 then 2 ^ 32 else s.get (GG_CLK_INC n)
  let a := e.acc + inc
  let e1 := { e with acc := a % 2 ^ 32, tick := decide (2 ^ 32 ≤ a), ran := false }
  let st := s.get (GG_STAT_STATE n)
  let step := e.pend.isSome && (st == 0 || st == 2)
  let e2 := if step then { e1 with former := st } else e1
  let s1 := if step then s.put (GG_STAT_STATE n) 3 else s
  let live := st == 1 || st == 3 || step
  if live && e.fetched.isNone then
    match e.pend with
    | some w => (s1.setEng n { e2 with fetched := some w, inj := true, pend := none }).put (GG_STAT_INJ_PEND n) 0
    | none =>
      if st = 1 then s1.setEng n { e2 with fetched := some (s.rd (GG_IMEM n (s.get (GG_STAT_PC n)))), inj := false }
      else s1.setEng n e2
  else s1.setEng n e2

/-- The engine block at the end of a cycle: the flags take their new values for the next one (R322).
DESIGN CHOICE, log entry 22. -/
def State.ggTick (s : State) : State :=
  if s.inReset 0x10 then s
  else
    let s1 : State := { s with gg := { s.gg with
      efBase := s.get GG_EF_EF, efSet := 0, efClr := 0, efTgl := 0, mcgTick := 0, grpHit := 0, actHit := 0 } }
    s1.each (List.range 16) fun s n => s.engTick n

/-! ### WATCH, applies, UNIT reset -/

/-- Entry to WATCH stops every running engine (R74). -/
def State.ggSleep (s : State) : State :=
  let m := ((List.range 16).filter fun n => s.get (GG_STAT_STATE n) == 1).foldl (fun a n => a + 2 ^ n) 0
  ({ s with gg := { s.gg with watch := m } }).each (List.range 16) fun s n => if m.testBit n then s.ggStop n else s

/-- The engines resume after WATCH: a group with WAKE together, its clocks restarted (R75, R336). -/
def State.ggWake (s : State) : State :=
  let m := s.gg.watch
  let grp (s : State) (n : Nat) : Bool :=
    (List.range 4).any fun g => s.on (GG_GMEM_WAKE g) && s.getBit (GG_GMEM_MEM g) n
  ({ s with gg := { s.gg with watch := 0 } }).each (List.range 16) fun s n =>
    if m.testBit n then
      let s1 := s.modEng n fun e => { e with stopReq := false }
      let s2 := if s1.get (GG_STAT_STATE n) = 0 then s1.runAgain n else s1
      if grp s n then s2.clkRestart n else s2
    else s

/-- Whether an engine is a member of a group with an armed command (R332). -/
def State.awaitsGroup (s : State) (n : Nat) : Bool :=
  (List.range 4).any fun g => (s.armed g).isSome && s.getBit (GG_GMEM_MEM g) n

/-- What an apply does to the engine block (R291, R328, R332, R358). `old` is the hub before it; `first` says that the
record is applied at boot. Engines in reset take nothing until the next apply. DEDUCED, log entry 23. -/
def State.ggApply (s old : State) (first : Bool) : State :=
  if s.inReset 0x10 then s else
  let all := first || old.gg.padsR99
  let s1 := s.each (List.range 16) fun s n => s.each (List.range 8) fun s k =>
    let moved := s.get (GG_SLOT_VALID n k) != old.get (GG_SLOT_VALID n k) || s.get (GG_SLOT_PIO n k) != old.get (GG_SLOT_PIO n k)
      || s.get (GG_SLOT_MODE n k) != old.get (GG_SLOT_MODE n k)
    if all || moved then
      s.modEng n fun e => { e with
        lvl := setBitTo e.lvl k (s.on (GG_SLOT_INIT_LVL n k)), oe := setBitTo e.oe k (s.on (GG_SLOT_INIT_OE n k)) }
    else s
  let cut (n : Nat) : Bool := s.get (GG_FIFO_SPLIT n) != old.get (GG_FIFO_SPLIT n) || s.get (GG_FIFO_POOL n) != old.get (GG_FIFO_POOL n)
  let s2 := s1.each (List.range 16) fun s n =>
    if cut n || ((s.pooled (n / 2 * 2) || old.pooled (n / 2 * 2)) && (cut (n / 2 * 2) || cut (n / 2 * 2 + 1))) then
      (s.fifoClr n).put (GG_STAT_FIFO_RESET n) 1
    else s
  let s3 : State := { s2 with gg := { s2.gg with padsR99 := false } }
  s3.each (List.range 16) fun s n =>
    let now := s.getBit GG_AUTO_RUN n
    let was := old.getBit GG_AUTO_RUN n
    if now && (all || !was) then (if s.awaitsGroup n then s else s.freshStart n)
    else if !now && was then s.ggStop n
    else s

/-- A UNIT reset of GG (R358): engines stopped, FIFOs, flags, injections and armed commands empty; program, active registers,
shadows and counters kept; the claimed pins in the states of R99 until the next apply. -/
def State.ggReset (s : State) : State :=
  let s1 := s.each (List.range 16) fun s n =>
    let s1 := ((((s.clr (GG_STAT n)).clr (GG_SR n)).clr (GG_SCF n)).clr (GG_CMP n)).clr (GG_TSTEP n)
    let s2 := (s1.each (List.range 4) fun s k => s.clr (GG_X n k)).clr64 (GG_TB n)
    (s2.clr64 (GG_TCAP n)).pilotHalt n
  let s2 := ((s1.clr GG_GSTAT).clr GG_EF).clr GG_FLAG_SRC
  (({ s2 with gg := ⟨[], 0, 0, 0, 0, 0, [], 0, 0, 0, [], true⟩ }).each (List.range 4) fun s g => s.clr64 (GG_GTIME g))

/-! ### The commands -/

/-- GG_START (R331). -/
def execGgStart (n : Fin 16) (s : State) : Out := .next (s.cmd (GG_CTL n.val) fun s => s.ggCtl n.val fun s => s.ggStart n.val)
/-- GG_STOP (R303). -/
def execGgStop (n : Fin 16) (s : State) : Out := .next (s.cmd (GG_CTL n.val) fun s => s.ggCtl n.val fun s => s.ggStop n.val)
/-- GG_RESUME (R330). -/
def execGgResume (n : Fin 16) (s : State) : Out := .next (s.cmd (GG_CTL n.val) fun s => s.ggCtl n.val fun s => s.ggResume n.val)
/-- GG_CLKR (R331). -/
def execGgClkr (n : Fin 16) (s : State) : Out := .next (s.cmd (GG_CTL n.val) fun s => s.ggCtl n.val fun s => s.clkRestart n.val)
/-- FIFO_CLR (R330). -/
def execFifoClr (n : Fin 16) (s : State) : Out := .next (s.cmd (GG_CTL n.val) fun s => s.ggCtl n.val fun s => s.fifoClr n.val)
/-- GROUP_DISARM (R334). -/
def execGroupDisarm (g : Fin 4) (s : State) : Out := .next (s.cmd GG_GCMD fun s => s.groupWrite g.val 0 false)
/-- GROUP_START (R333, R334). -/
def execGroupStart (g : Fin 4) (atTime : Bool) (s : State) : Out := .next (s.cmd GG_GCMD fun s => s.groupWrite g.val 1 atTime)
/-- GROUP_STOP (R333, R334). -/
def execGroupStop (g : Fin 4) (atTime : Bool) (s : State) : Out := .next (s.cmd GG_GCMD fun s => s.groupWrite g.val 2 atTime)
/-- GROUP_RESUME (R333, R334). -/
def execGroupResume (g : Fin 4) (atTime : Bool) (s : State) : Out := .next (s.cmd GG_GCMD fun s => s.groupWrite g.val 3 atTime)
/-- GROUP_CLKR (R333, R334). -/
def execGroupClkr (g : Fin 4) (atTime : Bool) (s : State) : Out := .next (s.cmd GG_GCMD fun s => s.groupWrite g.val 4 atTime)
/-- GROUP_TIMED_FIRE (R334). -/
def execGroupTimedFire (g : Fin 4) (s : State) : Out :=
  if s.inReset 0x10 then .next s else
  .next (s.groupFire g.val)
/-- GG_TXF_WRITE (R325). -/
def execGgTxfWrite (n : Fin 16) (word : Word) (s : State) : Out := .next (s.cmd (GG_TXF n.val) fun s => s.txfWrite n.val word)
/-- GG_RXF_READ (R325). -/
def execGgRxfRead (n : Fin 16) (who : Who) (s : State) : Out :=
  .next (s.readCmd (GG_RXF n.val) (whoKey who) fun s => s.rxfRead n.val)
/-- GG_INJ (R338, R339). -/
def execGgInj (n : Fin 16) (word : Word) (s : State) : Out := .next (s.cmd (GG_INJ n.val) fun s => s.ggInj n.val word)
/-- GG_INJ_FORCE (R341). -/
def execGgInjForce (n : Fin 16) (word : Word) (s : State) : Out := .next (s.cmd (GG_INJ_FORCE n.val) fun s => s.ggForce n.val word)
/-- GG_IMEM_WRITE (R337): in place; the fetched instruction is not changed. -/
def execGgImemWrite (n : Fin 16) (w : Fin 64) (word : Word) (s : State) : Out := .next (s.cmd (GG_IMEM n.val w.val) fun s => s.wr (GG_IMEM n.val w.val) word)
/-- EF_SET (R322). -/
def execEfSet (mask : BitVec 16) (s : State) : Out := .next (s.cmd GG_EF_SET fun s => s.efSet mask.toNat)
/-- EF_CLR (R322). -/
def execEfClr (mask : BitVec 16) (s : State) : Out := .next (s.cmd GG_EF_CLR fun s => s.efClr mask.toNat)

end Sys2Proof.Machine
end

