-- ==== Sys2Proof/Machine/Stream.lean ====
section
/-! DEFINITION. The stream queues (R329, R342 to R354, R360). -/
namespace Sys2Proof.Machine

/-! ### Geometry (R342) -/

/-- A queue's record. DEDUCED, log entry 23. -/
def State.sqOf (s : State) (q : Nat) : Sq := Tab.get (fun _ => Sq.init) s.sq q

/-- ITEM_W in words; 0 acts as 256 units of 2 words. -/
def State.itemW (s : State) (q : Nat) : Nat :=
  let w := s.get (SQ_CFG_ITEM_W q)
  2 * (if w = 0 then 256 else w)

/-- ITEMS; 0 and 1 act as 2, above 1,024 as 1,024. -/
def State.itemsMax (s : State) (q : Nat) : Nat := min 1024 (max 2 (s.get (SQ_GEOM_ITEMS q)))

/-- The store offset of a slot's descriptor. -/
def State.slotOff (s : State) (q k : Nat) : Nat :=
  s.partBase 2 + s.get (SQ_GEOM_BASE q) * 256 + k * (8 + 4 * s.itemW q)

/-! ### Counts and levels (R349, R350) -/

/-- Replaces a queue's record; COUNT and BUSY follow it, and an upward crossing of LEVEL is signalled once. -/
def State.setSq (s : State) (q : Nat) (r : Sq) : State :=
  let c := r.items.length
  let lv := s.get (SQ_LVL_LEVEL q)
  let cross := lv != 0 && decide (lv ≤ c) && !r.lvlUp
  let r1 := { r with lvlUp := if c < lv then false else r.lvlUp || cross }
  let s1 : State := { s with sq := Tab.set (fun _ => Sq.init) s.sq q r1 }
  let s2 := (s1.put (SQ_CNT_COUNT q) c).put (SQ_CNT_BUSY q) (b2n r.begun.isSome)
  if cross then (if q < 32 then s2.setBit SQ_LVLPEND_LO_Q q else s2.setBit SQ_LVLPEND_HI_Q (q - 32)) else s2

/-! ### The producer's end (R344, R346) -/

/-- The slots that hold an item. -/
def Sq.used (r : Sq) : List Nat := (r.begun.toList ++ r.items).map (·.slot)

/-- The slot the producer writes: the next free one, or that of the oldest item not begun while every slot holds one.
DEDUCED, log entry 24. -/
def State.tailSlot (s : State) (q : Nat) : Nat :=
  let r := s.sqOf q
  let n := s.itemsMax q
  match (List.range n).find? fun i => !r.used.contains ((r.next + i) % n) with
  | some i => (r.next + i) % n
  | none => (r.items.head?.map (·.slot)).getD r.next

/-- Closes an item in the tail slot: the descriptor, and the loss of the oldest item where every slot held one. -/
def State.sqClose (s : State) (q nw stamp : Nat) (ack : Option (Nat × Nat × Nat)) : State :=
  let r := s.sqOf q
  let n := s.itemsMax q
  let k := s.tailSlot q
  let full := decide (n ≤ r.used.length)
  let s1 := s.hubWrite 4 (s.slotOff q k) 8 (nw % 1024 + stamp % 2 ^ 32 * 2 ^ 32)
  let s2 := if full then (s1.satAdd (SQ_CNT_LOST q) 1).put SQ_EVT_LOST 1 else s1
  s2.setSq q { r with
    items := (if full then r.items.drop 1 else r.items) ++ [⟨k, ack⟩], next := (k + 1) % n, part := [] }

/-- Writes an item's words and closes it. -/
def State.sqStore (s : State) (q : Nat) (x : SqClose) : State :=
  (s.hubWrites 4 (s.slotOff q (s.tailSlot q) + 8) x.ws).sqClose q x.nw x.stamp x.ack

/-- Whether the closing of an item waits for the banks of its slot (R37, R50). -/
def State.sqWaits (s : State) (q : Nat) (x : SqClose) : Bool :=
  s.moverWaits 4 (s.slotOff q (s.tailSlot q)) (8 + 4 * max x.nw x.ws.length)

/-- Closes an item, or leaves it to wait behind earlier ones or for its banks. -/
def State.sqPut (s : State) (q : Nat) (x : SqClose) : State :=
  let r := s.sqOf q
  if !r.closes.isEmpty || s.sqWaits q x then
    (s.setSq q { r with closes := r.closes ++ [x], part := [] }).ask 4 (s.slotOff q (s.tailSlot q))
  else s.sqStore q x

/-- Closes the items of a queue that waited, as long as their banks are open. -/
def State.sqPump (s : State) (q : Nat) : State :=
  s.each (s.sqOf q).closes fun s _ =>
    match (s.sqOf q).closes with
    | [] => s
    | x :: l => if s.sqWaits q x then s else (s.setSq q { s.sqOf q with closes := l }).sqStore q x

/-- Closes the items that waited, in every queue. -/
def State.sqPumpAll (s : State) : State := if s.inReset 0x11 then s else s.each s.sq fun s e => s.sqPump e.1

/-- Closes what an engine has put into an item, if anything (R344). -/
def State.sqPart (s : State) (q : Nat) : State :=
  let r := s.sqOf q
  if r.part.isEmpty then s else s.sqPut q ⟨r.part, r.part.length, r.partT, none⟩

/-- CYC_CLOSE at a cycle boundary (R344). -/
def State.sqCycle (s : State) : State :=
  if s.inReset 0x11 then s
  else s.each (List.range 64) fun s q =>
    if s.on (SQ_CFG_EN q) && s.on (SQ_CFG_CYC_CLOSE q) && decide (s.get (SQ_CFG_PROD q) < 16) then s.sqPart q else s

/-! ### Frames for a queue (R344, R353) -/

/-- The two 32-bit words of each payload word, in order (R345). -/
def payloadWords (f : Frame) : List Word :=
  f.payload.flatMap fun (w : DWord) => [BitVec.ofNat 32 w.toNat, BitVec.ofNat 32 (w.toNat / 2 ^ 32)]

/-- A credit comes back (R352). -/
def State.creditBack (s : State) (q : Nat) : State :=
  let r := s.sqOf q
  s.setSq q { r with unack := r.unack - 1 }

/-- A STREAM or MAILBOX frame reaches its queue: an acknowledgement, an item, or a drop. DEDUCED, log entry 24. -/
def State.sqDeliver (s : State) (f : Frame) : State :=
  let q := frQueue f
  if s.inReset 0x11 then s
  else if frVc f = 1 ∧ frClass f = 5 then
    (if s.on (SQ_CFG_EN q) && s.on (SQ_CFG_CRED q) then s.creditBack q else s)
  else if !s.on (SQ_CFG_EN q) || s.get (SQ_CFG_PROD q) != 0x10 then
    ((((s.put SQ_NOQ_LOG_QUEUE q).put SQ_NOQ_LOG_SRC_NODE (frSrc f)).put SQ_NOQ_LOG_SRC_CHIP (frSrcChip f)).put
      SQ_EVT_NOQUEUE 1).fault 0x11 0x3C q
  else if s.itemW q < 2 * f.payload.length then (s.satAdd (SQ_CNT_LOST q) 1).put SQ_EVT_OVERSIZE 1
  else if f.payload.isEmpty then s
  else s.sqPut q ⟨payloadWords f, 2 * f.payload.length, frStamp f,
    (Config.credQueue f.hw0.toNat f.hw1.toNat).map fun k => (frSrc f, frSrcChip f, k.val)⟩

/-! ### The consumer's end (R347, R348, R351, R352) -/

/-- The acknowledgement of an item whose consumer begins it. -/
def State.sqAck (s : State) (i : SqItem) : State :=
  match i.ack with
  | some (n, c, k) => s.originate { FrameSpec.plain 5 1 0 n c 0 [] with queue := k } 8
  | none => s

/-- The consumer begins the head item, unless a flush waits; `nw` is how many words a mover is to move.
DEDUCED, log entry 24. -/
def State.sqBegin (s : State) (q nw : Nat) : State :=
  let r := s.sqOf q
  match r.items with
  | [] => s
  | i :: rest =>
    if r.begun.isSome || s.on (SQ_CNT_FLUSH_PEND q) then s
    else (s.setSq q { r with items := rest, begun := some i, nw := nw, moved := 0 }).sqAck i

/-- A mover begins the head item: NW comes from its descriptor, for which it may have to wait. An item whose descriptor cannot
be read has no words for it. DEDUCED, log entry 24. DESIGN CHOICE, log entry 10. -/
def State.sqFetch (s : State) (q : Nat) : State :=
  let r := s.sqOf q
  match r.items with
  | [] => s
  | i :: _ =>
    if r.begun.isSome || s.on (SQ_CNT_FLUSH_PEND q) then s
    else if s.moverWaits 4 (s.slotOff q i.slot) 8 then s.ask 4 (s.slotOff q i.slot)
    else
      let a := s.hubRead 4 (s.slotOff q i.slot) 4
      a.1.sqBegin q (min (a.2.getD 0 % 1024) (s.itemW q))

/-- A flush takes effect (R348): every committed item not begun is discarded. -/
def State.flushNow (s : State) (q : Nat) : State :=
  ((s.setSq q { s.sqOf q with items := [] }).put (SQ_CNT_FLUSH_PEND q) 0).put SQ_EVT_FLUSH_DONE 1

/-- The begun item ends and frees its slot; a flush that waits for this takes effect (R348). -/
def State.sqEnd (s : State) (q : Nat) : State :=
  let r := s.sqOf q
  let s1 := s.setSq q { r with begun := none, nw := 0, moved := 0 }
  if s.on (SQ_CNT_FLUSH_PEND q) then s1.flushNow q else s1

/-- Whether a consumer or producer code is software's (R343). -/
def softCode (c : Nat) : Bool := decide (0x11 ≤ c ∧ c ≤ 0x13)

/-- The core address of a slot's descriptor. -/
def State.slotAddr (s : State) (q k : Nat) : Nat := storeBase + s.slotOff q k

/-- A read of SQ_HEADq: the state after it and the address read (R347). DEDUCED, log entry 24. -/
def State.headRead (s : State) (q : Nat) : State × Nat :=
  let s1 := if softCode (s.get (SQ_CFG_CONS q)) && s.on (SQ_CFG_EN q) then s.sqBegin q 0 else s
  let r := s1.sqOf q
  (s1, match r.begun, r.items with
    | some i, _ => s.slotAddr q i.slot
    | none, i :: _ => s.slotAddr q i.slot
    | none, [] => 0)

/-- SQ_CMDq.FLUSH (R348): at once if no item is begun, otherwise at the end of the begun item. DEDUCED, log entry 24. -/
def State.flush (s : State) (q : Nat) : State :=
  if (s.sqOf q).begun.isNone then s.flushNow q else s.put (SQ_CNT_FLUSH_PEND q) 1

/-- SQ_CMDq.ADV (R347). -/
def State.adv (s : State) (q : Nat) : State :=
  if softCode (s.get (SQ_CFG_CONS q)) && (s.sqOf q).begun.isSome then s.sqEnd q else s

/-- SQ_CMDq.COMMIT (R344). -/
def State.commitItem (s : State) (q nw : Nat) : State :=
  if s.on (SQ_CFG_EN q) && softCode (s.get (SQ_CFG_PROD q)) && decide (1 ≤ nw ∧ nw ≤ s.itemW q) then
    s.sqPut q ⟨[], nw, Config.softStamp q s.now, none⟩
  else s

/-- The words of an item as payload words: two to a word, an odd last one padded with 0 (R345). -/
def wordsPayload : List Word → List DWord
  | [] => []
  | [a] => [BitVec.ofNat 64 a.toNat]
  | a :: b :: r => BitVec.ofNat 64 (a.toNat + b.toNat * 2 ^ 32) :: wordsPayload r

/-- The frame a LOC consumer builds (R345). -/
def State.sqFrame (s : State) (q : Nat) (ws : List Word) : FrameSpec :=
  let cls := s.get (SQ_DEST0_CLASS q)
  let mc := s.get (SQ_DEST1_MCAST q)
  { cls := cls, vc := 0, kind := if s.on (SQ_CFG_MBOX q) then 5 else 0
    dst := if mc = 1 then 0xFF else s.get (SQ_DEST0_DST_NODE q)
    dstChip := s.get (SQ_DEST0_DST_CHIP q), mcast := mc, group := s.get (SQ_DEST1_GROUP q)
    sched := if cls = 6 then s.get (SQ_DEST0_SCHED q) else 0, slot := s.get (SQ_DEST0_SLOT q)
    queue := s.get (SQ_DEST0_DST_Q q), tag := s.get (SQ_DEST1_FLOW q), payload := wordsPayload ws }

/-- WIN; 0 acts as 1. -/
def State.sqWin (s : State) (q : Nat) : Nat := max 1 (s.get (SQ_CFG_WIN q))

/-- Whether a LOC consumer may take its next item (R351, R352). -/
def State.locMayTake (s : State) (q : Nat) : Bool :=
  let r := s.sqOf q
  s.on (SQ_CFG_EN q) && s.get (SQ_CFG_CONS q) == 0x10 && !s.inReset 0x11
    && (r.begun.isSome || (!s.idling 0x11 && !r.items.isEmpty && !s.on (SQ_CNT_FLUSH_PEND q)))
    && !(s.fwd.locWait.any fun w => w.prod == 16 + q)
    && (!s.on (SQ_CFG_CRED q) || decide (r.unack < s.sqWin q))

/-- A UNIT reset of SQ (R360). -/
def State.sqReset (s : State) : State :=
  let s1 := s.each (List.range 64) fun s q => s.clr (SQ_CNT q)
  { (((((s1.clr SQ_EVT).clr SQ_EVT_EN).clr SQ_LVLPEND_LO).clr SQ_LVLPEND_HI).clr SQ_NOQ_LOG) with sq := [] }

/-! ### The commands -/

/-- MOVER_TX_WORD (R329): the next word of the queue's item into the TX FIFO of the engine it feeds. A word that cannot be read
ends the item (R44). DESIGN CHOICE, log entry 10. -/
def execMoverTxWord (q : Fin 64) (s : State) : Out :=
  .next (
    let n := s.get (SQ_CFG_CONS q.val)
    if n < 16 ∧ s.queueOfCons n = some q.val ∧ !s.inReset 0x11 ∧ (s.eng n).tx.length < (s.fifoCaps n).1 then
      let s1 := if s.idling 0x11 then s else s.sqFetch q.val
      let r := s1.sqOf q.val
      match r.begun with
      | none => s1
      | some i =>
        let off := s.slotOff q.val i.slot + 8 + 4 * r.moved
        if r.nw ≤ r.moved then s1.sqEnd q.val
        else if s1.moverWaits 4 off 4 then s1.ask 4 off
        else
          let a := s1.hubRead 4 off 4
          match a.2 with
          | none => a.1.sqEnd q.val
          | some v =>
            let s2 := a.1.modEng n fun e => { e with tx := e.tx ++ [BitVec.ofNat 32 v] }
            if r.moved + 1 = r.nw then s2.sqEnd q.val else s2.setSq q.val { r with moved := r.moved + 1 }
    else s)

/-- MOVER_RX_WORD (R329): the oldest word of the RX FIFO into the item that the engine fills. -/
def execMoverRxWord (q : Fin 64) (s : State) : Out :=
  .next (
    let n := s.get (SQ_CFG_PROD q.val)
    if n < 16 ∧ s.queueOfProd n = some q.val ∧ !s.inReset 0x11 then
      match (s.eng n).rx with
      | [] => s
      | w :: rest =>
        let s1 := s.modEng n fun e => { e with rx := rest }
        let r := s1.sqOf q.val
        let r1 := { r with part := r.part ++ [w], partT := if r.part.isEmpty then s.now else r.partT }
        let s2 : State := s1.setSq q.val r1
        if s.itemW q.val ≤ r1.part.length then s2.sqPart q.val else s2
    else s)

/-- FLUSH (R348). -/
def execFlush (q : Fin 64) (s : State) : Out := .next (s.cmd (SQ_CMD q.val) fun s => s.flush q.val)

/-- FLUSH_TAKE_EFFECT (R348): at a packet boundary every committed item not begun is discarded. -/
def execFlushTakeEffect (q : Fin 64) (s : State) : Out :=
  if s.inReset 0x11 then .next s else
  .next (if s.on (SQ_CNT_FLUSH_PEND q.val) && (s.sqOf q.val).begun.isNone then s.flushNow q.val else s)

/-- LOST_CLR (R349). -/
def execLostClr (q : Fin 64) (s : State) : Out := .next (s.cmd (SQ_CMD q.val) fun s => s.put (SQ_CNT_LOST q.val) 0)

/-- ADV (R347). -/
def execAdv (q : Fin 64) (s : State) : Out := .next (s.cmd (SQ_CMD q.val) fun s => s.adv q.val)

/-- COMMIT (R344). -/
def execSqCommit (q : Fin 64) (nw : BitVec 10) (s : State) : Out :=
  .next (s.cmd (SQ_CMD q.val) fun s => s.commitItem q.val nw.toNat)

/-- SQ_HEAD_READ (R347). -/
def execSqHeadRead (q : Fin 64) (who : Who) (s : State) : Out :=
  .next (s.readCmd (SQ_HEAD q.val) (whoKey who) fun s => s.headRead q.val)

/-- A LOC consumer copies the begun item into cells, frees its slot and offers the frame to FWD. An item that cannot be read
is dropped (R44). DESIGN CHOICE, log entry 10. -/
def State.locCopyItem (s : State) (q : Nat) (i : SqItem) : State :=
  let a := s.hubReads 4 (s.slotOff q i.slot + 8) (s.sqOf q).nw
  let s2 := a.1.sqEnd q
  match a.2 with
  | some (w :: ws) =>
    let r := s2.sqOf q
    let s3 := if s.on (SQ_CFG_CRED q) then s2.setSq q { r with unack := r.unack + 1 } else s2
    s3.originate (s.sqFrame q (w :: ws)) (16 + q)
  | _ => s2

/-- LOC_CONSUMER_TAKE (R351): the head item into cells, its slot free, the frame offered to FWD. -/
def execLocConsumerTake (q : Fin 64) (s : State) : Out :=
  if s.inReset 0x11 then .next s else
  .next (if s.locMayTake q.val then
    let s1 := s.sqFetch q.val
    match (s1.sqOf q.val).begun with
    | none => s1
    | some i =>
      let off := s.slotOff q.val i.slot + 8
      if s1.moverWaits 4 off (4 * (s1.sqOf q.val).nw) then s1.ask 4 off else s1.locCopyItem q.val i
  else s)

/-- CREDIT_ACK_RX (R352, R353). -/
def execCreditAckRx (q : Fin 64) (s : State) : Out :=
  .next (if s.on (SQ_CFG_EN q.val) && s.on (SQ_CFG_CRED q.val) && !s.inReset 0x11 then s.creditBack q.val else s)

/-- CRED_TO (R352): an item's acknowledgement has not come in time. -/
def execCredTo (q : Fin 64) (s : State) : Out :=
  if s.inReset 0x11 then .next s else
  .next (if 0 < (s.sqOf q.val).unack then (s.creditBack q.val).put SQ_EVT_CRED_TO 1 else s)

end Sys2Proof.Machine
end

