-- ==== Sys2Proof/Machine/RingTime.lean ====
section
/-! DEFINITION. Ring time: PTP messages, the servo's states, steps, the PLL reference, the PPS balls, fine-edge calibration
and the media clocks (R263 to R282, R287). Times of PTP are whole numbers of 2^-16 ns, the unit of the correctionField. -/
namespace Sys2Proof.Machine

/-! ### Units and roundings -/

/-- A quotient rounded down or up, as the free value says (log entry 3). -/
def roundDivI (a : Int) (b : Nat) : Int :=
  a / (b : Int) + (if a % (b : Int) != 0 && Config.roundUp a b then 1 else 0)

/-- The transmit path delay at a rate code, in ps (R268). -/
def txPath (code : Nat) : Nat :=
  match code with
  | 0 => 112400 | 1 => 60200 | 2 => 34100 | 3 => 21300 | _ => 12600

/-- The receive path's RX_BASE at a rate code, in ps (R268). -/
def rxBase (code : Nat) : Nat :=
  match code with
  | 0 => 148900 | 1 => 79600 | 2 => 44800 | 3 => 27900 | _ => 16200

/-- One unit interval at a rate code, in fs (R268). -/
def uiFs (code : Nat) : Nat :=
  match code with
  | 0 => 775758 | 1 => 387879 | 2 => 193939 | 3 => 96970 | _ => 38788

/-- The receive path delay of a lane, in fs (R268). -/
def State.rxPathFs (s : State) (p : Nat) : Nat :=
  rxBase (s.get (LANE_STAT_RATE p)) * 1000 + (66 - s.get (LANE_ALIGN_POS p) % 66) % 66 * uiFs (s.get (LANE_STAT_RATE p))

/-- A number of fs in units of 2^-16 ns. -/
def fsUnits (x : Int) : Int := roundDivI (x * 65536) 1000000

/-- The time at the lane balls of an SOF that reached the lane `age` units of 1/1,024 ns ago. -/
def State.rxStamp (s : State) (p age : Nat) : Int :=
  (s.now * 262144 : Int) - age * 64 - fsUnits (s.rxPathFs p)

/-- The time at the lane balls of an SOF that leaves a lane `frac` units of 1/1,024 ns into the present cycle. -/
def State.txStamp (s : State) (p frac : Nat) : Int :=
  (s.now * 262144 : Int) + frac * 64 + fsUnits (txPath (s.get (LANE_STAT_RATE p)) * 1000)

/-- The ingress delay of a port: its mean link delay and half its asymmetry (R270). -/
def State.ingressDelay (s : State) (p : Nat) : Int :=
  s.get (TIME_PORT_DLY_DLY p) * 64 + fsUnits (sext 16 (s.get (TIME_PORT_CTL_ASYM p)) * 500)

/-! ### Messages (R266, R267), in the byte layout of the standard's clause 13 -/

/-- Byte `i` of a frame's payload. -/
def payByte (f : Frame) (i : Nat) : Nat := frWord f (i / 8) / 256 ^ (i % 8) % 256

/-- A big-endian field of `n` bytes at byte `i`. -/
def payBE (f : Frame) (i n : Nat) : Nat := (List.range n).foldl (fun a k => a * 256 + payByte f (i + k)) 0

/-- The big-endian bytes of a number. -/
def beBytes (n x : Nat) : List Nat := (List.range n).map fun k => x / 256 ^ (n - 1 - k) % 256

/-- The payload words of a list of bytes, padded with zeros to whole words. -/
def byteWords (l : List Nat) : List DWord :=
  (List.range ((l.length + 7) / 8)).map fun w =>
    BitVec.ofNat 64 ((List.range 8).foldl (fun a k => a + l.getD (8 * w + k) 0 * 256 ^ k) 0)

/-- The bytes of a frame's payload. -/
def payBytes (f : Frame) : List Nat := (List.range (8 * f.payload.length)).map (payByte f)

/-- Replaces a big-endian field of a frame's payload. -/
def payPut (f : Frame) (i n v : Nat) : Frame :=
  { f with payload := byteWords ((payBytes f).take i ++ beBytes n v ++ (payBytes f).drop (i + n)) }

/-- messageType of a PTP message. PRESUMED, log entry 30. -/
def ptpType (f : Frame) : Nat := payByte f 0 % 16
/-- domainNumber. PRESUMED, log entry 30. -/
def ptpDomain (f : Frame) : Nat := payByte f 4
/-- correctionField, signed. PRESUMED, log entry 30. -/
def ptpCorr (f : Frame) : Int := sext 64 (payBE f 8 8)
/-- Writes the correctionField. -/
def ptpPutCorr (f : Frame) (v : Int) : Frame := payPut f 8 8 (wrapInt 64 v)
/-- clockIdentity and portNumber of the sender. PRESUMED, log entry 30. -/
def ptpSrc (f : Frame) : Nat × Nat := (payBE f 20 8, payBE f 28 2)
/-- sequenceId. PRESUMED, log entry 30. -/
def ptpSeqId (f : Frame) : Nat := payBE f 30 2
/-- The timestamp at byte 34 in units of 2^-16 ns. PRESUMED, log entry 30. -/
def ptpTime (f : Frame) : Int := ((payBE f 34 6 * 1000000000 + payBE f 40 4) * 65536 : Nat)
/-- Writes a time into the timestamp at byte 34 and what is left of it below 1 ns into the correctionField. -/
def ptpPutTime (f : Frame) (t : Int) : Frame :=
  let ns := (t / 65536).toNat
  ptpPutCorr (payPut (payPut f 34 6 (ns / 1000000000)) 40 4 (ns % 1000000000)) (t % 65536)

/-- The hub's clock identity: bits [63:0] of the unit ID. -/
def State.clockId (s : State) : Nat := (s.rd (UPD_UID 0)).toNat + 2 ^ 32 * (s.rd (UPD_UID 1)).toNat

/-- TIME_CTL.DOMAIN; above 127 acts as 127. -/
def State.domain (s : State) : Nat := min 127 (s.get TIME_CTL_DOMAIN)

/-- Whether PTP runs on a port: enabled, the lane UP with link version 2 and not in host mode (R267). -/
def State.ptpRuns (s : State) (p : Nat) : Bool :=
  s.on (TIME_PORT_CTL_PTP_EN p) && s.laneUp p && s.get (LANE_STAT_VER p) == 2 && !s.on (LANE_STAT_HOSTMODE p)

/-- The bytes of a message of the hub's own: header, timestamp 0 and what follows it. PRESUMED, log entry 30. -/
def State.ptpMessage (s : State) (type port seq logi : Nat) (corr : Int) (tail : List Nat) : List Nat :=
  [type, 0x12] ++ beBytes 2 (44 + tail.length) ++ [s.domain, 0, 0, 0] ++ beBytes 8 (wrapInt 64 corr) ++ beBytes 4 0
    ++ beBytes 8 s.clockId ++ beBytes 2 port ++ beBytes 2 seq ++ [if type = 0 then 0 else 5, logi] ++ beBytes 10 0 ++ tail

/-- A PTP frame of the hub's own for one lane (R267). -/
def ptpSpec (lane : Nat) (msg : List Nat) : FrameSpec := { FrameSpec.plain 4 0 4 0xFF 0 0 (byteWords msg) with via := some lane }

/-- The next sequenceId of a kind of message on a port, and the state after it is taken. -/
def State.takeSeq (s : State) (key : Nat) : State × Nat :=
  let n := Tab.get (fun _ => 0) s.time.ptpSeq key
  ({ s with time := { s.time with ptpSeq := Tab.set (fun _ => 0) s.time.ptpSeq key ((n + 1) % 65536) } }, n)

/-- Sends a PTP message on along the ring and the stack as a transparent clock: from a ring lane to the other one and S0,
from S1 to S0 (R272). -/
def State.ptpForward (s : State) (p : Nat) (f : Frame) (t : Int) : State × Bool :=
  let out := (if p = 0 then [1, 2] else if p = 1 then [0, 2] else if p = 3 then [2] else []).filter s.ptpRuns
  let l := out.map fun d => if d < 2 then s.ringCopy f d else s.stackCopy f d
  (s.place p false (roundDivI t 64) l, !out.isEmpty)

/-! ### States and servo (R273 to R275) -/

/-- Writes the state of TIME. -/
def State.setTime (s : State) (v : Nat) : State := s.put TIME_STAT_STATE v

/-- The servo moves the trim to a value the chapter leaves open. DESIGN CHOICE, log entry 3. -/
def State.drawTrim (s : State) : State :=
  let s1 : State := { s with time := { s.time with draws := s.time.draws + 1 } }
  s1.wr TIME_RATE (Config.trim s.time.draws)

/-- LOSS_N; below 2 acts as 2. -/
def State.lossN (s : State) : Nat := max 2 (s.get TIME_SERVO_LOSS_N)
/-- STEP_TH in ticks; 0 acts as 1. -/
def State.stepTh (s : State) : Nat := max 1 (s.get TIME_SERVO_STEP_TH)

/-- The HOPS of the last counting Syncs of a ring lane. -/
def State.hopsOf (s : State) (p : Nat) : List Nat := Tab.get (fun _ => []) s.time.hops p

/-- The lane of lower HOPS over the last Syncs of each; E on equal HOPS (R273). -/
def State.nearLane (s : State) : Nat :=
  let e := s.hopsOf 0
  let w := s.hopsOf 1
  if w.foldl (· + ·) 0 * e.length < e.foldl (· + ·) 0 * w.length then 1 else 0

/-- The slave port (R273): S1 on a stacked hub; otherwise the selected ring lane while it delivers counting Syncs, and the
other one while only that does. -/
def State.slaveNow (s : State) : Nat :=
  if !s.master then 3
  else
    let e := s.time.fresh.testBit 0
    let w := s.time.fresh.testBit 1
    if e && w then
      (match s.get TIME_CTL_SLAVE_SEL with | 1 => 0 | 2 => 1 | _ => s.nearLane)
    else if e then 0
    else if w then 1
    else s.get TIME_STAT_SLAVE

/-- Shows the slave port. -/
def State.pickSlave (s : State) : State := s.put TIME_STAT_SLAVE s.slaveNow

/-- A counting Sync has come by a port. -/
def State.syncSeen (s : State) (p hops : Nat) : State :=
  let l := ((s.hopsOf p) ++ [hops])
  let s1 : State := { s with time := { s.time with
    fresh := setBitTo s.time.fresh p true
    hops := Tab.set (fun _ => []) s.time.hops p (l.drop (l.length - 4)) } }
  (s1.bump (TIME_CNT 0)).pickSlave

/-- Counts of Syncs near the time and away from it. -/
def State.setRuns (s : State) (near far : Nat) : State := { s with time := { s.time with near := near, far := far } }

/-- A step falls due in ACQUIRE (R274, R277). -/
def State.stepDue (s : State) (ofs : Int) : State :=
  { s with time := { s.time with due := some (roundDivI (-ofs) 262144) } }

/-- The servo takes an offset in ACQUIRE (R274). -/
def State.acquire (s : State) (ofs : Int) : State :=
  if s.stepTh * 262144 < ofs.natAbs then (s.setRuns 0 0).stepDue ofs
  else
    let s1 := s.drawTrim
    let n := if ofs.natAbs ≤ 6553600 then s.time.near + 1 else 0
    if 16 ≤ n then ((s1.setRuns 0 0).setTime 2).put TIME_EVT_LOCK 1 else s1.setRuns n 0

/-- The servo takes the offset of a Sync on the slave port (R274); the first Sync of FREERUN and HOLDOVER is judged in
ACQUIRE (R265). DEDUCED, log entry 31. -/
def State.servo (s : State) (ofs : Int) : State :=
  let s0 := s.wr TIME_OFFSET (BitVec.ofInt 32 (satInt 32 (roundDivI ofs 4096)))
  match s.get TIME_STAT_STATE with
  | 1 => s0.acquire ofs
  | 2 =>
    if s.stepTh * 262144 < ofs.natAbs then
      if 3 ≤ s.time.far + 1 then ((s0.setRuns 0 0).setTime 1).stepDue ofs else s0.setRuns 0 (s.time.far + 1)
    else s0.drawTrim.setRuns 0 0
  | _ => ((s0.setTime 1).setRuns 0 0).acquire ofs

/-- Entering HOLDOVER (R275): the trim is frozen, and the entry logged, counted and reported. -/
def State.holdover (s : State) : State :=
  let s1 := ((s.setTime 3).drawTrim).wr64 TIME_HOLD_T s.now
  (((s1.put TIME_EVT_HOLDOVER 1).bump (TIME_CNT 6)).fault 0x0F 0x45 0).setRuns 0 0

/-- Whether a Sync counts: from the grandmaster followed, or from any (R273). -/
def State.syncCounts (s : State) (f : Frame) : Bool :=
  s.on TIME_CTL_ANY_GM || ptpSrc f == (s.rd64 TIME_GM_ID, s.get TIME_GM_PORT_PORT)

/-- A Sync arrives on a port (R272 to R274): dropped where the path delay is not known; forwarded; and, in this hub's domain,
taken by the servo if it counts and the port is the slave port; any counting Sync ends FREERUN and HOLDOVER.
DEDUCED, log entry 31. -/
def State.syncRx (s : State) (p : Nat) (f : Frame) (age : Nat) : State :=
  if !s.getBit TIME_STAT_PD_VALID p then s.bump (TIME_CNT 2)
  else
    let t := s.rxStamp p age
    let g := ptpPutCorr f (ptpCorr f + s.ingressDelay p)
    let r := s.ptpForward p g t
    let s1 := r.1.when r.2 fun s => s.bump (TIME_CNT 1)
    if ptpDomain f ≠ s.domain then s1
    else if !s.syncCounts f then s1.put TIME_EVT_GM_OTHER 1
    else
      let s2 := s1.syncSeen p (frHops f)
      if s2.get TIME_STAT_STATE = 4 then s2
      else if s2.get TIME_STAT_SLAVE ≠ p then
        if s2.get TIME_STAT_STATE = 0 ∨ s2.get TIME_STAT_STATE = 3 then (s2.setTime 1).setRuns 0 0 else s2
      else s2.servo (t - (ptpTime f + ptpCorr g))

/-! ### Peer delay (R269) -/

/-- Shows the PD_VALID of a port in both registers. -/
def State.setPd (s : State) (p : Nat) (v : Bool) : State :=
  (s.put TIME_STAT_PD_VALID (setBitTo (s.get TIME_STAT_PD_VALID) p v)).put (TIME_PORT_STAT_PD_VALID p) (b2n v)

/-- Consecutive valid exchanges of a port. -/
def State.setPdOk (s : State) (p n : Nat) : State :=
  { s with time := { s.time with pdOk := Tab.set (fun _ => 0) s.time.pdOk p n } }

/-- The exchange under way on a port. -/
def State.setPdOpen (s : State) (p : Nat) (x : Option (Nat × Nat)) : State :=
  { s with time := { s.time with pdOpen := Tab.set (fun _ => none) s.time.pdOpen p x } }

/-- PD_VALID of a port falls when its lane leaves UP or its rate changes in a planned step. -/
def State.pdDown (s : State) (p : Nat) : State := ((s.setPd p false).setPdOk p 0).setPdOpen p none

/-- An exchange ends as not valid. -/
def State.pdFail (s : State) (p : Nat) : State :=
  let s1 := (((s.setPdOpen p none).setPdOk p 0).bump (TIME_CNT 4)).satAdd (TIME_PORT_STAT_FAILS p) 1
  if s1.get (TIME_PORT_STAT_FAILS p) = 3 then
    (((s1.setPd p false).put TIME_EVT_PD_FAIL 1)).fault 0x0F 0x44 p
  else s1

/-- An exchange ends as valid with a mean link delay in units of 2^-16 ns. -/
def State.pdGood (s : State) (p : Nat) (d : Nat) : State :=
  let l0 := Tab.get (fun _ => []) s.time.delays p ++ [d]
  let l := l0.drop (l0.length - 8)
  let s1 : State := { s with time := { s.time with delays := Tab.set (fun _ => []) s.time.delays p l } }
  let mean := roundDivI (l.foldl (· + ·) 0 : Nat) (64 * l.length)
  let n := Tab.get (fun _ => 0) s.time.pdOk p + 1
  let s2 := (((s1.setPdOpen p none).setPdOk p (min n 3)).put (TIME_PORT_DLY_DLY p) mean.toNat).put (TIME_PORT_STAT_FAILS p) 0
  (s2.bump (TIME_CNT 3)).when (decide (3 ≤ n)) fun s => s.setPd p true

/-- A Pdelay_Req on a port is answered with t3 - t2; t3 is added as the answer leaves. -/
def State.pdelayReqRx (s : State) (p : Nat) (f : Frame) (age : Nat) : State :=
  if !s.ptpRuns p then s
  else
    let q := ptpSrc f
    s.originate (ptpSpec p (s.ptpMessage 3 (p + 1) (ptpSeqId f) 0x7F (-s.rxStamp p age)
      (beBytes 8 q.1 ++ beBytes 2 q.2))) 7

/-- A Pdelay_Resp on a port: the exchange is judged by the three conditions of R269. -/
def State.pdelayRespRx (s : State) (p : Nat) (f : Frame) (age : Nat) : State :=
  match Tab.get (fun _ => none) s.time.pdOpen p with
  | none => s
  | some (seq, t1) =>
    if ptpSeqId f ≠ seq ∨ payBE f 44 8 ≠ s.clockId ∨ payBE f 52 2 ≠ p + 1 then s
    else
      let trip := s.rxStamp p age - t1
      let turn := ptpCorr f
      let d := roundDivI (trip - turn) 2
      if trip ≤ 10000000 * 65536 ∧ turn ≤ 1000000 * 65536 ∧ 0 ≤ d ∧ d ≤ 10000 * 65536 then s.pdGood p d.toNat
      else s.pdFail p

/-! ### Other messages (R266) -/

/-- The queue of M0's mailbox that takes PTP messages: the lowest one that is fed by LOC.
DEDUCED, log entry 31. -/
def State.ptpBox (s : State) : Option Nat :=
  (List.range 64).find? fun q =>
    s.on (SQ_CFG_EN q) && s.on (SQ_CFG_MBOX q) && s.get (SQ_CFG_CONS q) == 0x11 && s.get (SQ_CFG_PROD q) == 0x10

/-- Announce, Signaling and Management messages go on as through a transparent clock, and to M0's mailbox; every other
message that is not handled in hardware is dropped and counted, one of a type that R266 does not name too.
DESIGN CHOICE, log entry 31. -/
def State.ptpOther (s : State) (p : Nat) (f : Frame) (age : Nat) : State :=
  if 0xB ≤ ptpType f ∧ ptpType f ≤ 0xD then
    let s1 := (s.ptpForward p f (s.rxStamp p age)).1
    if ptpDomain f ≠ s.domain then s1
    else match s1.ptpBox with
      | some q => s1.sqDeliver (frSet1 f 42 6 q)
      | none => s1
  else s.bump (TIME_CNT 7)

/-- A class 4 frame of KIND PTP arrives on a lane. On a link of version 1, and on a port with PTP_EN 0, it is dropped
(R267). Peer-delay messages of another domain are forwarded and not used, as every message of one is.
DEDUCED, log entry 31. -/
def State.ptpRx (s : State) (p : Nat) (f : Frame) (age : Nat) : State :=
  if s.inReset 0x0F then s
  else if s.get (LANE_STAT_VER p) ≠ 2 ∨ s.on (LANE_STAT_HOSTMODE p) ∨ !s.on (TIME_PORT_CTL_PTP_EN p) then s.bump (TIME_CNT 7)
  else if ptpType f = 0 then s.syncRx p f age
  else if (ptpType f = 2 ∨ ptpType f = 3) ∧ ptpDomain f ≠ s.domain then (s.ptpForward p f (s.rxStamp p age)).1
  else if ptpType f = 2 then s.pdelayReqRx p f age
  else if ptpType f = 3 then s.pdelayRespRx p f age
  else s.ptpOther p f age

/-- What TIME writes into a PTP frame as it leaves a lane `frac` units of 1/1,024 ns into the cycle; `none` for a Sync that
has stayed more than 1 ms, which is dropped. -/
def State.ptpDepart (s : State) (lane : Nat) (x : QFrame) (frac : Nat) : State × Option Frame :=
  let t := s.txStamp lane frac
  if frKind x.f ≠ 4 then (s, some x.f)
  else if ptpType x.f = 0 then
    if x.own then (s, some (ptpPutTime x.f t))
    else if 1000000 * 65536 < t - x.rxT * 64 then (s.bump (TIME_CNT 2), none)
    else (s, some (ptpPutCorr x.f (ptpCorr x.f + (t - x.rxT * 64))))
  else if x.own && ptpType x.f == 3 then (s, some (ptpPutCorr x.f (ptpCorr x.f + t)))
  else if x.own && ptpType x.f == 2 then
    (match Tab.get (fun _ => none) s.time.pdOpen lane with
      | some (seq, _) => if seq = ptpSeqId x.f then s.setPdOpen lane (some (seq, t.toNat)) else s
      | none => s, some x.f)
  else (s, some x.f)

/-! ### Steps (R277) -/

/-- Brings the spindle to the cycle boundary that is reached: it stays where it is on a whole multiple of 31,250 ticks that
no step has just given (log entry 1). -/
def State.toBoundary (s : State) : State :=
  if s.now % 31250 = 0 ∧ s.time.stepAt ≠ some s.now then s
  else
    let s1 : State := { s with time := { s.time with stepAt := none } }
    (s1.elapse (31250 - s.now % 31250)).wr64 TIME_SPINDLE ((s.now / 31250 + 1) * 31250)

/-- Brings the spindle to the first cycle boundary after now. -/
def State.toLaterBoundary (s : State) : State :=
  (({ s with time := { s.time with stepAt := none } } : State).elapse (31250 - s.now % 31250)).wr64 TIME_SPINDLE
    ((s.now / 31250 + 1) * 31250)

/-- Whether a step is pending. -/
def State.stepPending (s : State) : Bool := s.time.setTo.isSome || s.time.addBy.isSome || s.time.due.isSome

/-- A write of TIME_SET: it replaces any pending step. DEDUCED, log entry 31. -/
def State.timeSet (s : State) (v : Nat) : State :=
  { s with time := { s.time with setTo := some (v % 2 ^ 64), addBy := none } }

/-- A write of TIME_ADJ: it adds to the pending written step. -/
def State.timeAdj (s : State) (w : Word) : State :=
  match s.time.setTo with
  | some v => { s with time := { s.time with setTo := some (wrapInt 64 (v + w.toInt)) } }
  | none => { s with time := { s.time with addBy := some (s.time.addBy.getD 0 + w.toInt) } }

/-- The value a pending step leads to; a written step takes the place of one that fell due. -/
def State.stepTarget (s : State) : Nat :=
  match s.time.setTo, s.time.addBy with
  | some v, _ => v
  | none, some a => wrapInt 64 (s.now + a)
  | none, none => wrapInt 64 (s.now + s.time.due.getD 0)

/-- Makes the pending step at the present boundary. DEDUCED, log entry 31. -/
def State.timeStep (s : State) : State :=
  let v := s.stepTarget
  let d : Int := (v : Int) - s.now
  let s1 : State := { s with time := { s.time with
    setTo := none, addBy := none, due := none, noWin := true, stepAt := some v
    skipLo := if s.now < v then s.now else 0, skipHi := if s.now < v then v else 0 } }
  let s2 := ((s1.wr64 TIME_SPINDLE v).bump (TIME_CNT 5)).put TIME_EVT_STEP 1
  s2.fault 0x0F 0x46 (wrapInt 48 (satInt 48 d))

/-! ### Media clocks (R282) -/

/-- MCGn_DEN; 0 acts as 1. -/
def State.mcgDen (s : State) (n : Nat) : Nat := max 1 (s.get (TIME_MCG_DEN_DEN n))

/-- The start time of a generator's edges: the last whole second while ALIGN is 1, its own start while ALIGN is 0. -/
def State.mcgStart (s : State) (n : Nat) : Nat :=
  if s.on (TIME_MCG_CTL_ALIGN n) then s.now / 250000000 * 250000000 else Tab.get (fun _ => 0) s.time.mcgT n

/-- The instant of an edge of a generator after its start, in units of 1/(4 DEN) ticks: of rising edge `j`, or of the falling edge
halfway through the period after it, which the next whole second cuts short while ALIGN is 1 (R282). -/
def State.mcgAt (s : State) (n j : Nat) (fall : Bool) : Nat :=
  let num := max 1 (s.get (TIME_MCG_NUM_NUM n))
  let end_ := 2 * (j + 1) * num
  if !fall then 4 * j * num
  else 2 * j * num + (if s.on (TIME_MCG_CTL_ALIGN n) then min end_ (2 * s.mcgDen n * 250000000) else end_)

/-- The step of 62.5 ps within its cycle of the generator's edge that the present ring time has reached, the first one that does not
lie before it. -/
def State.mcgFine (s : State) (n : Nat) (fall : Bool) : Nat :=
  let num := max 1 (s.get (TIME_MCG_NUM_NUM n))
  let d := (s.now - s.mcgStart n) * s.mcgDen n
  let j := if fall then d / num else (d + num - 1) / num
  let x := if s.mcgAt n j fall < 4 * d then s.mcgAt n (j + 1) fall else s.mcgAt n j fall
  (64 * x + 2 * s.mcgDen n) / (4 * s.mcgDen n) % 64

/-- An edge of a generator: a tick event for the engines, and its pin's level while PIN_EN is 1. -/
def State.mcgEdge (s : State) (n : Nat) (fall : Bool) : State :=
  if !s.on (TIME_MCG_CTL_EN n) then s
  else
    let s1 : State := if fall then s else { s with gg := { s.gg with mcgTick := setBitTo s.gg.mcgTick n true } }
    let s2 : State := { s1 with time := { s1.time with mcgLvl := setBitTo s1.time.mcgLvl n (!fall) } }
    if s.on (TIME_MCG_CTL_PIN_EN n) then
      { s2 with gg := { s2.gg with fine := Tab.set (fun _ => 0) s2.gg.fine (60 + s.get (TIME_MCG_CTL_PIN n)) (s.mcgFine n fall) } }
    else s2

/-! ### Configuration and reset -/

/-- What an apply does to TIME beyond its registers: GRANDMASTER and FREERUN under R274, the slave port under R273, the start of
the media clocks under R282, and the PPS_IN edges followed anew. -/
def State.timeApply (s old : State) : State :=
  let s1 := if s.on TIME_CTL_GM && !old.on TIME_CTL_GM then
      let x := s.setTime 4
      ({ x with time := { x.time with ppsSeen := false, due := none } } : State)
    else if !s.on TIME_CTL_GM && old.on TIME_CTL_GM && s.get TIME_STAT_STATE == 4 then s.setTime 0
    else s
  let s2 : State := if s.on TIME_CTL_PPS_DISC && !old.on TIME_CTL_PPS_DISC then
      { s1 with time := { s1.time with ppsSeen := false } } else s1
  (if s2.inReset 0x0F then s2 else s2.pickSlave).each (List.range 4) fun s n =>
    let moved := s.rd (TIME_MCG_NUM n) != old.rd (TIME_MCG_NUM n) || s.rd (TIME_MCG_DEN n) != old.rd (TIME_MCG_DEN n)
      || s.on (TIME_MCG_CTL_ALIGN n) != old.on (TIME_MCG_CTL_ALIGN n) || !old.on (TIME_MCG_CTL_EN n)
    if s.on (TIME_MCG_CTL_EN n) && moved then
      { s with time := { s.time with mcgT := Tab.set (fun _ => 0) s.time.mcgT n s.now } }
    else s

/-- A UNIT reset of TIME (R287): the spindle, the trim, the registers of the configuration and the deadline log stay; the
state is HOLDOVER; every PD_VALID and the counters are cleared. DEDUCED, log entry 31. -/
def State.timeReset (s : State) : State :=
  let s1 := s.each [TIME_STAT, TIME_SET, TIME_SET + 4, TIME_ADJ, TIME_OFFSET, TIME_HOLD_T, TIME_HOLD_T + 4, TIME_PPS_CAP,
    TIME_PPS_CAP + 4, TIME_PPS_CAPF, TIME_FE_STAT, TIME_GM_PORT, TIME_EVT, TIME_EVT_EN] fun s o => s.clr o
  let s2 := s1.each (List.range 4) fun s p => (s.clr (TIME_PORT_STAT p)).clr (TIME_PORT_DLY p)
  let s3 : State := { s2 with time := { s2.time with
    setTo := none, addBy := none, due := none, latch := [], dlQ := [], near := 0, far := 0, hops := [], fresh := 0
    delays := [], pdOk := [], pdOpen := [], ppsSeen := false, ppsOut := false } }
  (s3.cntReset 8).setTime 3

/-! ### The commands -/

/-- SYNC_TX (R272): a grandmaster's Sync on E, W or S0. -/
def execSyncTx (port : Fin 3) (s : State) : Out :=
  .next (if s.inReset 0x0F || s.get TIME_STAT_STATE != 4 || !s.ptpRuns port.val then s
  else
    let r := s.takeSeq port.val
    r.1.originate (ptpSpec port.val (r.1.ptpMessage 0 1 r.2 (wrapInt 8 (-(s.get TIME_CTL_SYNC_LOG))) 0 [])) 7)

/-- SYNC_RX (R272 to R274). -/
def execSyncRx (port : Fin 4) (frame : Frame) (age : BitVec 32) (s : State) : Out :=
  if s.inReset 0x0F then .next s else
  .next (if ptpType frame = 0 then s.ptpRx port.val frame age.toNat else s)

/-- SYNC_LOSS (R273, R274): a port has delivered no counting Sync for LOSS_N intervals; the other ring lane replaces it, or,
with none on any port, TIME enters HOLDOVER. -/
def execSyncLoss (port : Fin 4) (s : State) : Out :=
  let s1 : State := { s with time := { s.time with
    fresh := setBitTo s.time.fresh port.val false, hops := Tab.set (fun _ => []) s.time.hops port.val [] } }
  .next (if s.inReset 0x0F then s
  else if s1.time.fresh = 0 ∧ (s.get TIME_STAT_STATE = 1 ∨ s.get TIME_STAT_STATE = 2) then s1.pickSlave.holdover
  else s1.pickSlave)

/-- PDELAY_REQ_TX (R269). -/
def execPdelayReqTx (port : Fin 4) (s : State) : Out :=
  .next (if s.inReset 0x0F || !s.ptpRuns port.val then s
  else
    let r := s.takeSeq (16 + port.val)
    (r.1.setPdOpen port.val (some (r.2, (s.now * 262144)))).originate
      (ptpSpec port.val (r.1.ptpMessage 2 (port.val + 1) r.2 0x7F 0 (beBytes 10 0))) 7)

/-- PDELAY_REQ_RX (R269). -/
def execPdelayReqRx (port : Fin 4) (frame : Frame) (age : BitVec 32) (s : State) : Out :=
  if s.inReset 0x0F then .next s else
  .next (if ptpType frame = 2 then s.ptpRx port.val frame age.toNat else s)

/-- PDELAY_RESP_RX (R269). -/
def execPdelayRespRx (port : Fin 4) (frame : Frame) (age : BitVec 32) (s : State) : Out :=
  if s.inReset 0x0F then .next s else
  .next (if ptpType frame = 3 then s.ptpRx port.val frame age.toNat else s)

/-- PDELAY_TIMEOUT (R269): no response within 10 ms. -/
def execPdelayTimeout (port : Fin 4) (s : State) : Out :=
  .next (if (Tab.get (fun _ => none) s.time.pdOpen port.val).isSome && !s.inReset 0x0F then s.pdFail port.val else s)

/-- PTP_MESSAGE_RX (R266). -/
def execPtpMessageRx (port : Fin 4) (frame : Frame) (age : BitVec 32) (s : State) : Out :=
  if s.inReset 0x0F then .next s else
  .next (if ptpType frame = 0 ∨ ptpType frame = 2 ∨ ptpType frame = 3 then s else s.ptpRx port.val frame age.toNat)

/-- TIME_SET (R277). -/
def execTimeSet (value : DWord) (s : State) : Out := .next (s.cmd TIME_SET fun s => (s.wr64 TIME_SET value.toNat).timeSet value.toNat)

/-- TIME_ADJ (R277). -/
def execTimeAdj (ticks : Word) (s : State) : Out := .next (s.cmd TIME_ADJ fun s => s.timeAdj ticks)

/-- The value a read of the spindle returns to a requester, with the latch of R264. -/
def State.spindleRead (s : State) (key : Nat) (part : Nat) : State × Nat :=
  let hi : Word := BitVec.ofNat 32 (s.now / 2 ^ 32)
  let put (x : Option Word) : State := { s with time := { s.time with latch := Tab.set (fun _ => none) s.time.latch key x } }
  match part with
  | 0 => (s, s.now)
  | 1 => (put (some hi), s.now % 2 ^ 32)
  | _ =>
    match Tab.get (fun _ => none) s.time.latch key with
    | some w => (put none, w.toNat)
    | none => (s, hi.toNat)

/-- SPINDLE_READ (R264). -/
def execSpindleRead (who : Who) (part : Fin 3) (s : State) : Out :=
  .next (s.readCmd TIME_SPINDLE (whoKey who) fun s => s.spindleRead (whoKey who) part.val)

/-- The code of a slave port in TIME_STAT.REF. -/
def refCode (p : Nat) : Nat := if p = 0 then 1 else if p = 1 then 2 else 3

/-- Whether a lane may be the PLL reference (R278). -/
def State.refGood (s : State) (p : Nat) : Bool :=
  s.get TIME_STAT_SLAVE == p && s.laneUp p && !s.on (LANE_STAT_PLANNED p)

/-- REF_SWITCH (R18, R278): the reference moves to the slave port's lane. -/
def execRefSwitch (s : State) : Out :=
  if s.inReset 0x0F then .next s else
  let p := s.get TIME_STAT_SLAVE
  .next (if s.on TIME_CTL_SYNTON && s.get TIME_STAT_STATE == 2 && s.refGood p && s.get TIME_STAT_REF != refCode p then
    (s.rcUse.put TIME_STAT_REF (refCode p)).put TIME_EVT_REF_SWITCH 1
  else s)

/-- REF_REVERT (R18, R278): the reference's lane has left UP, begun a planned step or ceased to be the slave port. -/
def execRefRevert (s : State) : Out :=
  if s.inReset 0x0F then .next s else
  let r := s.get TIME_STAT_REF
  .next (if r ≠ 0 ∧ !s.refGood (if r = 3 then 3 else r - 1) then (s.rcUse.put TIME_STAT_REF 0).put TIME_EVT_REF_SWITCH 1 else s)

/-- Whether PPS_OUT is driven (R99, R100, R279). -/
def State.ppsDriven (s : State) : Bool :=
  s.on TIME_PPS_CTL_OUT_EN && s.sys.recordOn && !s.inReset 0x0F &&
    (s.on TIME_PPS_CTL_ALWAYS || s.get TIME_STAT_STATE == 2 || s.get TIME_STAT_STATE == 4)

/-- The level of PPS_OUT: low in every case but the pulse. -/
def State.ppsOutBall (s : State) : Bool := s.ppsDriven && s.time.ppsOut

/-- PPS_OUT_RISE (R279). -/
def execPpsOutRise (s : State) : Out :=
  if s.inReset 0x0F then .next s else
  .next (if s.ppsDriven then { s with time := { s.time with ppsOut := true } } else s)

/-- PPS_OUT_FALL (R279). -/
def execPpsOutFall (s : State) : Out :=
  if s.inReset 0x0F then .next s else
  .next { s with time := { s.time with ppsOut := false } }

/-- The signed distance in ticks of the present time past the nearest whole second plus PPS_OFS (R280). -/
def State.ppsErr (s : State) : Int :=
  let e := ((s.now : Int) - sext 32 (s.get TIME_PPS_OFS_TICKS)) % 250000000
  if 2 * e < 250000000 ∨ (2 * e = 250000000 ∧ !Config.roundUp e 250000000) then e else e - 250000000

/-- PPS_IN_EDGE (R280): captured; in GRANDMASTER with PPS_DISC the first edge steps the spindle, and later ones within 1 ms
steer the trim. -/
def State.ppsEdge (s : State) (frac : Nat) : State :=
  let s1 := (((s.wr64 TIME_PPS_CAP s.now).put TIME_PPS_CAPF_FRAC frac).put TIME_EVT_PPS_IN 1).put TIME_STAT_PPS_LOST 0
  if s.get TIME_STAT_STATE ≠ 4 ∨ !s.on TIME_CTL_PPS_DISC then s1
  else if !s.time.ppsSeen then
    { s1 with time := { s1.time with ppsSeen := true, due := some (-s.ppsErr) } }
  else if 250000 < s.ppsErr.natAbs then s1
  else s1.drawTrim

/-- PPS_IN_EDGE (R280). -/
def execPpsInEdge (frac : BitVec 6) (s : State) : Out := .next (if s.inReset 0x0F then s else s.ppsEdge frac.toNat)

/-- PPS_LOST (R280): no edge for 2 s; the trim is frozen. -/
def execPpsLost (s : State) : Out :=
  if s.inReset 0x0F then .next s else
  .next (if s.get TIME_STAT_STATE = 4 ∧ s.on TIME_CTL_PPS_DISC then
    (((s.put TIME_STAT_PPS_LOST 1).put TIME_EVT_PPS_LOST 1)).drawTrim
  else s)

/-- FE_CALIBRATE (R281): a pin that fails keeps its last good calibration. -/
def execFeCalibrate (pin : Fin 4) (good : Bool) (s : State) : Out :=
  .next (if s.inReset 0x0F then s
  else if good then s.setBit TIME_FE_STAT_CAL_OK pin.val
  else (s.clrBit TIME_FE_STAT_CAL_OK pin.val).put TIME_EVT_FE_CAL 1)

/-- Where the last edge of PIO(60 + m) stands after the ECLK edge of its spindle value, in steps of 62.5 ps: its step and the pin's
trim (R281). -/
def State.fineAt (s : State) (m : Nat) : Int :=
  Tab.get (fun _ => 0) s.gg.fine (60 + m) + sext 7 (s.get (TIME_FE_TRIM_TRIM m))

/-- MCG_EDGE (R282): a rising edge of a generator, or the falling edge of its pin. -/
def execMcgEdge (n : Fin 4) (fall : Bool) (s : State) : Out :=
  if s.inReset 0x0F then .next s else
  .next (s.mcgEdge n.val fall)

end Sys2Proof.Machine
end

