-- ==== Sys2Proof/Machine/Supervision.lean ====
section
/-! DEFINITION. Contact inputs, local actions and the supervision of the loudspeaker lines (R361 to R387). -/
namespace Sys2Proof.Machine

/-! ### Local actions (R369 to R372) -/

/-- Posts a message number (R372). -/
def State.playPost (s : State) (num : Nat) (island : Bool) : State :=
  if 8 ≤ s.lsv.playQ.length then s.put LSV_STAT_PLAY_OVF 1
  else
    let s1 : State := { s with lsv := { s.lsv with playQ := s.lsv.playQ ++ [(num, island)] } }
    s1.put LSV_STAT_PLAY_PEND 1

/-- A group command of an action: it acts whatever is written to the group in the same cycle (R369). -/
def State.actGroup (s : State) (g op : Nat) : State :=
  if s.inReset 0x10 then s
  else
    let s1 := s.groupCmd g op false
    { s1 with gg := { s1.gg with actHit := s1.gg.actHit ||| 2 ^ g } }

/-- Carries out an operation with its argument (R369). `island` marks a posting at ISLAND entry. -/
def State.doAction (s : State) (op arg : Nat) (island : Bool) : State :=
  match op with
  | 0 => if arg = 0 then s else s.put LSV_STAT_BAD_ACT 1
  | 1 => if arg < 16 then s.when (!s.inReset 0x10) fun s => s.efSet (2 ^ arg) else s.put LSV_STAT_BAD_ACT 1
  | 2 => if arg < 16 then s.when (!s.inReset 0x10) fun s => s.efClr (2 ^ arg) else s.put LSV_STAT_BAD_ACT 1
  | 3 => if arg < 4 then s.actGroup arg 1 else s.put LSV_STAT_BAD_ACT 1
  | 4 => if arg < 4 then s.actGroup arg 2 else s.put LSV_STAT_BAD_ACT 1
  | 5 => s.playPost arg island
  | _ => s.put LSV_STAT_BAD_ACT 1

/-- An action fires: carried out, or held in WATCH (R370). -/
def State.fireAction (s : State) (op arg : Nat) (island : Bool) : State :=
  if s.get MPC_MODE_CUR ≠ 1 then s.doAction op arg island
  else if 16 ≤ s.lsv.actQ.length then s.put LSV_STAT_ACT_OVF 1
  else { s with lsv := { s.lsv with actQ := s.lsv.actQ ++ [(op, arg)] } }

/-- Whether the present mode is one that entry `k` is armed for (R369). -/
def State.actArmed (s : State) (k : Nat) : Bool :=
  let m := s.get MPC_MODE_CUR
  if m = 4 then s.on (LSV_ACT_ARM_I k) else m != 0 && s.on (LSV_ACT_ARM_N k)

/-- Input `n` has entered a state: the armed entries that name it fire in entry order. -/
def State.contactActions (s : State) (n st : Nat) : State :=
  s.each (List.range 16) fun s k =>
    if s.actArmed k && s.get (LSV_ACT_SCI k) == n && s.getBit (LSV_ACT_ON k) st then
      s.fireAction (s.get (LSV_ACT_OP k)) (s.get (LSV_ACT_ARG k)) false
    else s

/-- ISLAND entry (R371): the entry actions of the record, then every armed entry whose input is in a state it names. -/
def State.islandActions (s : State) : State :=
  if s.inReset 0x12 then s
  else
    (s.each s.lsv.entry fun s e => s.doAction e.1 e.2 true).each (List.range 16) fun s k =>
      let n := s.get (LSV_ACT_SCI k)
      if s.on (LSV_ACT_ARM_I k) && !s.on (LSV_SCI_STAT_INIT n) && s.getBit (LSV_ACT_ON k) (s.get (LSV_SCI_STAT_STATE n)) then
        s.doAction (s.get (LSV_ACT_OP k)) (s.get (LSV_ACT_ARG k)) true
      else s

/-- The counts of an ISLAND section: entry actions, contact actions and messages, each with what the section has room for
(R373). -/
def islandCounts (ws : List DWord) : List (Nat × Nat) :=
  let h := (ws.getD 0 0#64).toNat
  let room := ws.length - 1
  let ne := min (bits h 0 8) 32
  let na := min (bits h 8 8) 16
  let nm := min (bits h 16 16) 1024
  let ne2 := min ne room
  let na2 := min na (room - ne2)
  [(ne, ne2), (na, na2), (nm, min nm ((room - ne2 - na2) / 2))]

/-- The contact actions of an ISLAND section fill their shadows (R373). -/
def State.islandActs (s : State) (ws : List DWord) : State :=
  let c := islandCounts ws
  let ne := (c.getD 0 (0, 0)).2
  let na := (c.getD 1 (0, 0)).2
  s.each (List.range 16) fun s k =>
    if k < na then s.wr (LSV_ACT_SH k) (BitVec.ofNat 32 (ws.getD (1 + ne + k) 0#64).toNat) else s.clr (LSV_ACT_SH k)

/-- The entry actions of an ISLAND section, and whether a count was cut; the message list is firmware's (R371, R373). -/
def State.islandSection (s : State) (ws : List DWord) : State :=
  let c := islandCounts ws
  let s1 : State := { s with lsv := { s.lsv with
    entry := (List.range (c.getD 0 (0, 0)).2).map fun i => (hwGet (ws.getD (1 + i) 0#64) 0 4, hwGet (ws.getD (1 + i) 0#64) 8 8) } }
  s1.when (c.any fun x => x.1 != x.2) fun s => s.put LSV_STAT_BAD_ACT 1

/-! ### Contact inputs (R363 to R367) -/

/-- The thresholds T1 to T4 of an input. -/
def State.sciTh (s : State) (n : Nat) : Nat × Nat × Nat × Nat :=
  (s.get (LSV_SCI_TH_LO_T1 n), s.get (LSV_SCI_TH_LO_T2 n), s.get (LSV_SCI_TH_HI_T3 n), s.get (LSV_SCI_TH_HI_T4 n))

/-- Whether an enabled input's thresholds cannot be used (R367). DEDUCED, log entry 26. -/
def State.sciErr (s : State) (n : Nat) : Bool :=
  let (t1, t2, t3, t4) := s.sciTh n
  s.on (LSV_SCI_CFG_EN n) && !decide (t1 < t2 ∧ t2 < t3 ∧ t3 < t4 ∧ t4 ≤ 20000)

/-- The loop resistance and EXTV of a sample's code (R361, R363): R = 10,000 U / (2.5 V - U) - OFFSET with
U = code x 6.0 V / 65,536. -/
def sciOhms (code : Int) (offset : Nat) : Nat × Bool :=
  let extv := decide (17039360 < 600 * code ∨ 600 * code < -655360)
  let r : Int := roundDivI (60000 * code) (163840 - 6 * code).toNat - offset
  if 163840 ≤ 6 * code then (0xFFFF, extv)
  else if r < 0 then (0, extv)
  else if 20000 < r then (0xFFFF, extv)
  else (r.toNat, extv)

/-- The band of a resistance (R364). -/
def sciBand (t1 t2 t3 t4 r : Nat) : Nat :=
  if r < t1 then 0 else if r < t2 then 1 else if r < t3 then 4 else if r < t4 then 2 else 3

/-- Whether a resistance lies no further than HYST percent of the bordering threshold outside a band (R365). -/
def sciNear (t1 t2 t3 t4 hyst band r : Nat) : Bool :=
  let lo := match band with | 0 => 0 | 1 => t1 | 4 => t2 | 2 => t3 | _ => t4
  let hi := match band with | 0 => some t1 | 1 => some t2 | 4 => some t3 | 2 => some t4 | _ => none
  decide (lo * (100 - hyst) ≤ 100 * r) && (match hi with | none => true | some h => decide (100 * r ≤ h * (100 + hyst)))

/-- The band a sample falls into, given the input's present state (R364, R365). -/
def State.sciFalls (s : State) (n r : Nat) (extv : Bool) : Nat :=
  let (t1, t2, t3, t4) := s.sciTh n
  let st := s.get (LSV_SCI_STAT_STATE n)
  let h := s.get (LSV_SCI_CFG_HYST n)
  if extv then 4
  else if h ≠ 0 ∧ !s.on (LSV_SCI_STAT_INIT n) ∧ sciNear t1 t2 t3 t4 h st r then st
  else sciBand t1 t2 t3 t4 r

/-- An input enters a state (R366); in WATCH the change is a wake source (R75, R370). -/
def State.sciEnter (s : State) (n b : Nat) : State :=
  let s1 := ((s.put (LSV_SCI_STAT_STATE n) b).put (LSV_SCI_STAT_INIT n) 0).setBit LSV_EVT_SCI n
  let s2 := s1.when (b == 4 && s1.on (LSV_SCI_CFG_FLT n)) fun s => s.fault 0x12 0x53 n
  (s2.contactActions n b).wakeBy (8 + n)

/-- The debounce of a sample that falls into a band (R365). -/
def State.sciCount (s : State) (n b : Nat) : State :=
  let st := s.get (LSV_SCI_STAT_STATE n)
  if b = st ∧ !s.on (LSV_SCI_STAT_INIT n) then (s.put (LSV_SCI_STAT_CAND n) b).put (LSV_SCI_STAT_DCNT n) 0
  else
    let k := if s.get (LSV_SCI_STAT_CAND n) = b then s.get (LSV_SCI_STAT_DCNT n) + 1 else 1
    let s1 := s.put (LSV_SCI_STAT_CAND n) b
    if max 1 (s.get (LSV_SCI_CFG_DEB n)) ≤ k then (s1.put (LSV_SCI_STAT_DCNT n) 0).sciEnter n b
    else s1.put (LSV_SCI_STAT_DCNT n) k

/-- SCI_SAMPLE (R361 to R366): a converted sample of a contact input. DESIGN CHOICE, log entry 26. -/
def execSciSample (n : Fin 8) (code : BitVec 16) (s : State) : Out :=
  let r := sciOhms code.toInt (s.get (LSV_SCI_CFG_OFFSET n.val))
  .next (if s.inReset 0x12 || s.d2dLost || !s.on (LSV_SCI_CFG_EN n.val) || s.sciErr n.val then s
  else
    ((s.put (LSV_SCI_R_OHMS n.val) r.1).put (LSV_SCI_R_EXTV n.val) (b2n r.2)).sciCount n.val (s.sciFalls n.val r.1 r.2))

/-- ACTION_QUEUE_DRAIN (R370): the engines have resumed, and the held actions are carried out in firing order. -/
def execActionQueueDrain (s : State) : Out :=
  if s.inReset 0x12 then .next s else
  .next (if s.get MPC_MODE_CUR = 1 then s
  else
    let s1 : State := { s with lsv := { s.lsv with actQ := [] } }
    s1.each s.lsv.actQ fun s e => s.doAction e.1 e.2 false)

/-- A read of LSV_PLAYQ (R372). -/
def State.playRead (s : State) : State × Nat :=
  match s.lsv.playQ with
  | [] => (s, 0)
  | (n, isl) :: r =>
    let s1 : State := { s with lsv := { s.lsv with playQ := r } }
    (s1.put LSV_STAT_PLAY_PEND (b2n !r.isEmpty), n % 256 + 256 + 512 * b2n isl)

/-- PLAYQ_READ (R372). -/
def execPlayqRead (who : Who) (s : State) : Out := .next (s.readCmd LSV_PLAYQ (whoKey who) State.playRead)

/-! ### Loudspeaker lines (R376 to R383) -/

/-- The phasors of a window, in units of 1/4,096 code. -/
structure Phasors where
  vre : Int
  vim : Int
  ire : Int
  iim : Int
deriving DecidableEq, Repr

/-- The squared amplitude of V or I. -/
def Phasors.v2 (p : Phasors) : Nat := (p.vre * p.vre + p.vim * p.vim).toNat
def Phasors.i2 (p : Phasors) : Nat := (p.ire * p.ire + p.iim * p.iim).toNat

/-- Whether a squared amplitude reaches MIN, 26 codes (R379). -/
def reachesMin (a2 : Nat) : Bool := decide ((26 * 4096) ^ 2 ≤ a2)

/-- The nearest whole number of a square root of a quotient. -/
def sqrtQuot (a b : Nat) : Nat := (isqrt (4 * a / b) + 1) / 2

/-- |V| or |I| in codes, to the nearest. -/
def ampCodes (a2 : Nat) : Nat := min 65535 (sqrtQuot a2 (4096 ^ 2))

/-- The direction of Z: V times the conjugate of I, turned by PHCOR tenths of a degree, in fixed point (R377). -/
def zVector (p : Phasors) (phcor : Int) : Int × Int :=
  let re := p.vre * p.ire + p.vim * p.iim
  let im := p.vim * p.ire - p.vre * p.iim
  let t := (phcor % 3600).toNat
  let c := fxCosTurn t 3600
  let d := fxSinTurn t 3600
  (re * c - im * d, re * d + im * c)

/-- A signed impedance in its register. -/
def zWord (z : Int) : Word := if satInt 32 z = z then BitVec.ofInt 32 z else Config.zOver z

/-- Z of a window in mΩ (R377): SCALE has 16 fraction bits. -/
def State.zOf (s : State) (n : Nat) (p : Phasors) : Int × Int :=
  let v := zVector p (sext 8 (s.get (LSV_LS_WIN_PHCOR n)))
  let k : Int := s.get (LSV_LS_SCALE_SCALE n) * 1000
  let d : Int := 65536 * p.i2 * fxOne
  (roundDiv (k * v.1) d, roundDiv (k * v.2) d)

/-- The squared |Z| in mΩ as a fraction. -/
def State.z2 (s : State) (n : Nat) (p : Phasors) : Nat × Nat :=
  ((s.get (LSV_LS_SCALE_SCALE n) * 1000) ^ 2 * p.v2, 65536 ^ 2 * p.i2)

/-- The baseline of a channel in mΩ. -/
def State.lsBase (s : State) (n : Nat) : Int × Int :=
  (sext 32 (s.get (LSV_LS_BASE_RE_BASE n)), sext 32 (s.get (LSV_LS_BASE_IM_BASE n)))

/-- The outcome of a computed Z against the baseline: 1 LOW, 2 HIGH, 3 PHASE, 0 OK (R380). -/
def State.lsCompare (s : State) (n : Nat) (p : Phasors) : Nat :=
  let (a, b) := s.z2 n p
  let (br, bi) := s.lsBase n
  let zb2 := (br * br + bi * bi).toNat
  let low := s.get (LSV_LS_WIN_LOW n)
  let high := s.get (LSV_LS_WIN_HIGH n)
  let ph := min 180 (s.get (LSV_LS_WIN_PHWIN n))
  let v := zVector p (sext 8 (s.get (LSV_LS_WIN_PHCOR n)))
  let re := v.1 * br + v.2 * bi
  let im := v.2 * br - v.1 * bi
  if a * 10000 < b * zb2 * (100 - low) ^ 2 then 1
  else if b * zb2 * (100 + high) ^ 2 < a * 10000 then 2
  else if ph ≠ 0 ∧ ph < 180 ∧ (0 : Int) < (im.natAbs : Int) * fxCosTurn ph 360 - re * fxSinTurn ph 360 then 3
  else 0

/-- Whether an engine runs. -/
def State.engRuns (s : State) (eng : Nat) : Bool := s.get (GG_STAT_STATE eng) == 1

/-- The status of a window, in the order of R379. DESIGN CHOICE, log entry 26. -/
def State.lsStatus (s : State) (n : Nat) (p : Phasors) : Nat :=
  let c := s.lsCh n
  if s.on (LSV_LS_CTL_EN n) && s.lsCfgErr n then 13
  else if s.d2dLost || c.stale then 8
  else if !s.on (LSV_LS_CTL_EN n) || !s.on (LSV_LS_CTL_PILOT_EN n) || c.idle || !s.engRuns (s.get (LSV_LS_CTL_ENGINE n)) then 7
  else if c.sweep.isSome then 12
  else if c.step then 11
  else if c.ramp then 6
  else if s.lsFs n < 100 * ((10 * c.taken : Int) - s.lsFs n).natAbs then 5
  else if s.on (LSV_LS_CTL_ANCH n) && (c.noHold || s.get RED_TWIN_STAT_STATE != 2) then 9
  else if s.lsBase n = (0, 0) then 10
  else if reachesMin p.v2 then (if reachesMin p.i2 then s.lsCompare n p else 2)
  else if reachesMin p.i2 then 1
  else 4

/-- Writes the impedance registers of a window's result (R377, R379). -/
def State.lsWrite (s : State) (n st : Nat) (p : Phasors) : State :=
  let both := reachesMin p.v2 && reachesMin p.i2
  let blank := st = 13 ∨ st = 8 ∨ st = 7 ∨ st = 12
  let s1 := (s.put (LSV_LS_AMP_V_AMP n) (ampCodes p.v2)).put (LSV_LS_AMP_I_AMP n) (ampCodes p.i2)
  let s2 := s1.wr64 (LSV_LS_RES_T n) (s.now / 25000000 * 25000000 - 25000000)
  if both && !blank then
    let z := s.zOf n p
    let q := s.z2 n p
    let v := zVector p (sext 8 (s.get (LSV_LS_WIN_PHCOR n)))
    ((((s2.wr (LSV_LS_Z_RE n) (zWord z.1)).wr (LSV_LS_Z_IM n) (zWord z.2)).wr (LSV_LS_ZMAG n)
      (BitVec.ofNat 32 (min (sqrtQuot q.1 q.2) (2 ^ 32 - 1)))).put (LSV_LS_ZPH_PH n)
      (wrapInt 16 ((fxAngle 36000 v.1 v.2 + 1) / 2))).put (LSV_LS_RES_RANGE n)
      (b2n (decide (q.1 < 2000 ^ 2 * q.2) || decide (1000000 ^ 2 * q.2 < q.1)))
  else
    let open1 := !blank && reachesMin p.v2 && st == 2
    ((((s2.wr (LSV_LS_Z_RE n) 0#32).wr (LSV_LS_Z_IM n) 0#32).wr (LSV_LS_ZMAG n)
      (if open1 then 0xFFFFFFFF#32 else 0#32)).put (LSV_LS_ZPH_PH n) 0).put (LSV_LS_RES_RANGE n) 0

/-- The alarm of a channel after a window's status (R380). DESIGN CHOICE, log entry 26. -/
def State.lsAlarm (s : State) (n st : Nat) : State :=
  let up := s.on (LSV_LS_RES_ALARM n)
  let bad := st == 1 || st == 2 || st == 3 || st == 4 || st == 5
  let lim := max 1 (s.get (LSV_LS_CTL_ALARM_N n))
  let tell (s : State) (set : Bool) : State :=
    (s.setBit LSV_EVT_LS n).when (s.on (LSV_LS_CTL_FLT n)) fun s =>
      s.fault 0x12 0x55 (n + 2 ^ 8 * s.get (LSV_LS_RES_CAUSE n) + 2 ^ 12 * b2n set)
  if !bad && st != 0 then s
  else if bad == up then s.put (LSV_LS_RES_ACNT n) 0
  else
    let k := s.get (LSV_LS_RES_ACNT n) + 1
    if k < lim then s.put (LSV_LS_RES_ACNT n) k
    else
      let s1 := (s.put (LSV_LS_RES_ACNT n) 0).put (LSV_LS_RES_ALARM n) (b2n !up)
      tell (s1.when (!up) fun s => s.put (LSV_LS_RES_CAUSE n) st) (!up)

/-- A running capture takes a window (R382). -/
def State.lsCapture (s : State) (n st : Nat) (p : Phasors) : State :=
  match (s.lsCh n).capt with
  | none => s
  | some (k, a, b) =>
    if st = 0 ∨ st = 1 ∨ st = 2 ∨ st = 3 ∨ st = 10 then
      let z := if reachesMin p.v2 && reachesMin p.i2 then s.zOf n p else (0, 0)
      if k ≤ 1 then
        let s1 := s.setCh n { s.lsCh n with capt := none }
        (((s1.wr (LSV_LS_BASE_RE n) (zWord (roundDivI (a + z.1) 8))).wr (LSV_LS_BASE_IM n)
          (zWord (roundDivI (b + z.2) 8))).put (LSV_LS_CMD_CAPT_BUSY n) 0).put (LSV_LS_CMD_CAPT_DONE n) 1
      else s.setCh n { s.lsCh n with capt := some (k - 1, a + z.1, b + z.2) }
    else s

/-- The first sweep point from `p` on that lies at or below 0.47 x FS; 16 after the last (R383). -/
def State.sweepNext (s : State) (n p : Nat) : Nat :=
  ((List.range (s.get LSV_SWP_NPTS + 1)).find? fun q => p ≤ q && !tooHigh (s.sweepFreq q) (s.lsFs n)).getD 16

/-- Ends a sweep. -/
def State.sweepEnd (s : State) (n : Nat) : State :=
  ((s.setCh n { s.lsCh n with sweep := none }).put (LSV_LS_CMD_SWP_BUSY n) 0).put LSV_EVT_SWEEP_DONE 1

/-- A running sweep at the end of a window: stage 0 waits for the boundary, stage 1 discards a window, stage 2 measures
one; point 16 is the return to FREQ (R383). -/
def State.lsSweep (s : State) (n st : Nat) (p : Phasors) : State :=
  match (s.lsCh n).sweep with
  | none => s
  | some (q, k) =>
    if st = 7 ∨ st = 13 ∨ st = 8 then s.sweepEnd n
    else if k = 0 then s.setCh n { s.lsCh n with sweep := some (s.sweepNext n 0, 1) }
    else if 16 ≤ q then s.sweepEnd n
    else if k = 1 then s.setCh n { s.lsCh n with sweep := some (q, 2) }
    else
      let both := reachesMin p.v2 && reachesMin p.i2
      let z := if both then s.zOf n p else (0, 0)
      let s1 := (s.wr (LSV_SWP_Z_RE n q) (zWord z.1)).wr (LSV_SWP_Z_IM n q) (zWord z.2)
      let s2 := s1.when both fun s => s.setBit (LSV_SWP_STAT_VALID n) q
      s2.setCh n { s2.lsCh n with sweep := some (s2.sweepNext n (q + 1), 1) }

/-- A new window begins on a channel. -/
def State.lsOpen (s : State) (n : Nat) : State :=
  let c := s.lsCh n
  s.setCh n { c with
    taken := 0, step := false, stale := s.d2dLost
    ramp := c.pilot.on && decide (c.pilot.n < s.lsRamp n)
    idle := !s.engRuns (s.get (LSV_LS_CTL_ENGINE n)) || !s.on (LSV_LS_CTL_EN n) || !s.on (LSV_LS_CTL_PILOT_EN n)
    noHold := s.get RED_TWIN_STAT_STATE != 2 }

/-- The end of a window on a channel (R376 to R383). -/
def State.lsWindow (s : State) (n : Nat) (p : Phasors) : State :=
  let st := s.lsStatus n p
  ((((((s.put (LSV_LS_RES_STATUS n) st).lsWrite n st p).lsAlarm n st).lsCapture n st p).lsSweep n st p).lsOpen n)

/-- LS_WINDOW_END (R377): the phasors of the window are in units of 1/4,096 code. While the link is lost LSV does not advance
(R362). DESIGN CHOICE, log entry 26. -/
def execLsWindowEnd (n : Fin 8) (vre vim ire iim : Word) (s : State) : Out :=
  .next (if s.inReset 0x12 || s.d2dLost then s
  else s.lsWindow n.val ⟨vre.toInt, vim.toInt, ire.toInt, iim.toInt⟩)

/-- Whether a capture or a sweep runs on a channel. -/
def State.lsBusy (s : State) (n : Nat) : Bool := (s.lsCh n).capt.isSome || (s.lsCh n).sweep.isSome

/-- A write of CMD.CAPTURE (R382, R383). -/
def State.lsCaptStart (s : State) (n : Nat) : State :=
  if s.idling 0x12 then s
  else if s.lsBusy n then s.put LSV_STAT_CMD_REJ 1
  else (s.setCh n { s.lsCh n with capt := some (8, 0, 0) }).put (LSV_LS_CMD_CAPT_BUSY n) 1

/-- A write of CMD.SWEEP (R383). -/
def State.lsSweepStart (s : State) (n : Nat) : State :=
  if s.idling 0x12 then s
  else if s.lsBusy n then s.put LSV_STAT_CMD_REJ 1
  else if s.get (LSV_LS_RES_STATUS n) = 13 ∨ s.get (LSV_LS_RES_STATUS n) = 7 then s
  else
    ((s.setCh n { s.lsCh n with sweep := some (0, 0) }).put (LSV_LS_CMD_SWP_BUSY n) 1).put (LSV_SWP_STAT_VALID n) 0

/-- CAPTURE (R382). -/
def execCapture (n : Fin 8) (s : State) : Out := .next (s.cmd (LSV_LS_CMD n.val) fun s => s.lsCaptStart n.val)

/-- SWEEP (R383). -/
def execSweep (n : Fin 8) (s : State) : Out := .next (s.cmd (LSV_LS_CMD n.val) fun s => s.lsSweepStart n.val)

/-! ### Hooks: the link, the spindle, applies, resets -/

/-- The marks of a lost link on what the supervision has read (R12, R386). -/
def State.staleMark (s : State) : State :=
  (s.each (List.range 8) fun s n => (s.put (LSV_SCI_STAT_STALE n) 1).put (LSV_LS_RES_STATUS n) 8).put LSV_STAT_LINK_OK 0

/-- The die-to-die link is lost (R362): every contact input and every line result is STALE. -/
def State.lsvStale (s : State) : State := if s.inReset 0x12 then s else s.staleMark.put LSV_EVT_STALE 1

/-- The link is restored (R362): debounces restart, and the windows under way are discarded. -/
def State.lsvFresh (s : State) : State :=
  (s.each (List.range 8) fun s n =>
    ((s.put (LSV_SCI_STAT_STALE n) 0).put (LSV_SCI_STAT_DCNT n) 0).setCh n { s.lsCh n with stale := true }).put
    LSV_STAT_LINK_OK 1

/-- The spindle has stepped within the windows (R379). -/
def State.lsvStep (s : State) : State := s.each (List.range 8) fun s n => s.setCh n { s.lsCh n with step := true }

/-- What a channel's configuration asks of its generator: on, with which engine and amplitude. -/
def State.lsWants (s : State) (n : Nat) : Bool :=
  s.on (LSV_LS_CTL_EN n) && s.on (LSV_LS_CTL_PILOT_EN n) && !s.lsCfgErr n

/-- What an apply does to a channel's generator (R375, R376). -/
def State.pilotApply (s old : State) (n : Nat) : State :=
  let eng := s.get (LSV_LS_CTL_ENGINE n)
  let same := old.get (LSV_LS_CTL_ENGINE n) == eng
  let p := (s.lsCh n).pilot
  if s.lsWants n then
    if old.lsWants n && same then
      if p.on && s.lsAmp n != old.lsAmp n then s.setCh n { s.lsCh n with pilot := rampTo p (s.lsRamp n) (s.lsAmp n) } else s
    else if p.on && same then s.setCh n { s.lsCh n with pilot := rampTo p (s.lsRamp n) (s.lsAmp n) }
    else if s.engRuns eng then (s.pilotStop n).pilotStart n
    else s.pilotStop n
  else if p.on && same && s.on (LSV_LS_CTL_EN n) && !s.lsCfgErr n then
    s.setCh n { s.lsCh n with pilot := rampTo p (s.lsRamp n) 0 }
  else s.pilotStop n

/-- Shows configuration errors and reports the new ones (R367, R376). -/
def State.lsvErrs (s : State) : State :=
  s.each (List.range 8) fun s n =>
    let a := s.sciErr n
    let b := s.on (LSV_LS_CTL_EN n) && s.lsCfgErr n
    let s1 := if a != s.getBit LSV_STAT_SCI_CFGERR n then
        let x := (s.clr (LSV_SCI_STAT n)).put LSV_STAT_SCI_CFGERR (setBitTo (s.get LSV_STAT_SCI_CFGERR) n a)
        x.when a fun x => (x.put LSV_EVT_CFG 1).fault 0x12 0x54 (0x100 + n)
      else s
    if b != s1.getBit LSV_STAT_LS_CFGERR n then
      let x := s1.put LSV_STAT_LS_CFGERR (setBitTo (s1.get LSV_STAT_LS_CFGERR) n b)
      x.when b fun x => (x.put LSV_EVT_CFG 1).fault 0x12 0x54 n
    else s1

/-- What an apply does to LSV (R366, R367, R375, R376). -/
def State.lsvApply (s old : State) : State :=
  if s.inReset 0x12 then s
  else
    let s1 := s.each (List.range 8) fun s n =>
      if s.on (LSV_SCI_CFG_EN n) && !old.on (LSV_SCI_CFG_EN n) then s.clr (LSV_SCI_STAT n) else s
    s1.lsvErrs.each (List.range 8) fun s n =>
      let s1 := s.pilotApply old n
      if s1.on (LSV_LS_CTL_EN n) && s1.on (LSV_LS_CTL_PILOT_EN n) then s1 else s1.setCh n { s1.lsCh n with idle := true }

/-- A UNIT reset of LSV (R386): everything but the registers of the configuration and the baselines. -/
def State.lsvReset (s : State) : State :=
  let s1 : State := { s with lsv := { s.lsv with ch := [], actQ := [], playQ := [] } }
  let s2 := s1.each (List.range 8) fun s n =>
    (s.each [LSV_SCI_R n, LSV_SCI_STAT n, LSV_LS_CMD n, LSV_LS_RES n, LSV_LS_Z_RE n, LSV_LS_Z_IM n, LSV_LS_ZMAG n, LSV_LS_ZPH n,
      LSV_LS_AMP n, LSV_LS_RES_T n, LSV_LS_RES_T n + 4, LSV_SWP_STAT n] fun s o => s.clr o).each (List.range 16) fun s p =>
      (s.clr (LSV_SWP_Z_RE n p)).clr (LSV_SWP_Z_IM n p)
  let s3 := (s2.each [LSV_STAT, LSV_EVT, LSV_EVT_EN] fun s o => s.clr o).put LSV_STAT_LINK_OK (b2n !s.d2dLost)
  if s.d2dLost then s3.staleMark else s3

/-- LSV leaves reset: measurement resumes, and the pilots of running engines ramp up (R386). -/
def State.lsvRelease (s : State) : State :=
  let s1 := s.put LSV_STAT_LINK_OK (b2n !s.d2dLost)
  (if s.d2dLost then s1.staleMark else s1).lsvErrs.each (List.range 8) fun s n =>
    if s.engRuns (s.get (LSV_LS_CTL_ENGINE n)) && s.chanOf (s.get (LSV_LS_CTL_ENGINE n)) == some n then s.pilotStart n else s

end Sys2Proof.Machine
end

