-- ==== Sys2Proof/Machine/Power.lean ====
section
/-! DEFINITION. Line power on the P-die: windows, ports, detection, current limits, PGOOD, measurement, the rail sequencer,
and the die-to-die link (R11 to R13, R453 to R480). -/
namespace Sys2Proof.Machine

/-! ### Ports and settings -/

/-- A port's record. -/
def State.lp (s : State) (p : Nat) : LpPort := Tab.get (fun _ => LpPort.init) s.lpw.port p

/-- Writes a port's record. -/
def State.setLp (s : State) (p : Nat) (x : LpPort) : State :=
  { s with lpw := { s.lpw with port := Tab.set (fun _ => LpPort.init) s.lpw.port p x } }

/-- A setting brought to the nearer end of its range. -/
def clampTo (lo hi v : Nat) : Nat := min hi (max lo v)

/-- The registers marked S, whose active side lies on the P-die (R455, R479). DEDUCED, log entry 40. -/
def lpwShared : List Nat :=
  [LPW_BUS, LPW_SEQ, LPW_P_CFG 0, LPW_P_WIN 0, LPW_P_LIM 0, LPW_P_TIM 0, LPW_P_CFG 1, LPW_P_WIN 1, LPW_P_LIM 1, LPW_P_TIM 1]

/-- A message of the P-die goes to the collector; any LPW fault kind but LP_DETECT is a cause that ends PROOF (R76, R456). -/
def State.lpSend (s : State) (m : FaultMsg) : State :=
  (s.faultMsg { m with cyc := s.sys.t }).when (m.kind != 0x63) fun s => s.proofCause 2

/-- A fault the P-die detects: while the link is lost it queues up to 16 (R456). -/
def State.lpFault (s : State) (kind addr : Nat) : State :=
  let m : FaultMsg := ⟨0x15, kind, kindSev kind, addr % 2 ^ 48, false, s.sys.t⟩
  if !s.d2dLost then s.lpSend m
  else if s.lpw.q.length < 16 then { s with lpw := { s.lpw with q := s.lpw.q ++ [m] } }
  else s.put LPW_STAT_EVT_LOST 1

/-- Sets event bit `k` of a port: 0 ON, 1 WINDOW, 2 TRIP, 3 TIMER, 4 DETECT, 5 RETRY_END, 6 GATE. -/
def State.lpEvt (s : State) (p k : Nat) : State := s.setBit (if p = 0 then LPW_EVT_P0 else LPW_EVT_P1) k

/-- The level of the PGOOD ball (R457, R469). -/
def State.pgood (s : State) : State := s.put LPW_STAT_PGOOD (b2n (s.on (LPW_P_STAT_PG 0) || s.on (LPW_P_STAT_PG 1)))

/-- Sets a port's PG. -/
def State.setPg (s : State) (p : Nat) (v : Bool) : State := (s.put (LPW_P_STAT_PG p) (b2n v)).pgood

/-- Whether the port presents its signature (R460, R461). -/
def State.sigShow (s : State) (p : Nat) : State :=
  s.put (LPW_P_STAT_SIG p) (b2n (!s.on LPW_VBUS_IN && (s.lp p).low && s.get (LPW_P_STAT_STATE p) != 3))

/-- Enters a state: outside RAMP and ON the gate is off, so LIMIT ends, and PG falls outside ON (R459, R464, R469). -/
def State.lpGo (s : State) (p st : Nat) : State :=
  let s1 := s.put (LPW_P_STAT_STATE p) st
  let s2 := if st = 5 then s1 else s1.setPg p false
  (if st = 4 ∨ st = 5 then s2 else s2.put (LPW_P_STAT_LIMIT p) 0).sigShow p

/-- Shows the off time left, in units of 100 ms (R465). -/
def State.offShow (s : State) (p us : Nat) : State :=
  let n := us / 100000 + b2n (us % 100000 != 0 && Config.roundUp us 100000)
  (s.setLp p { s.lp p with off := us }).put (LPW_P_STAT_OFF_LEFT p) (min 255 n)

/-- What a port in WAIT does with its side: DELAY when it is IN, DETECT when it is DEAD and a detection is due (R459). -/
def State.waitCheck (s : State) (p : Nat) : State :=
  let x := s.lp p
  if s.get (LPW_P_STAT_STATE p) != 1 then s
  else if x.cls = 0 then s.lpGo p 2
  else if x.cls = 1 && s.on LPW_VBUS_IN && s.on (LPW_P_CFG_SOURCE p) && x.due then
    (s.setLp p { x with due := false }).lpGo p 3
  else s

/-- Enters WAIT, or DISABLED while the port is held there (R457, R459). DEDUCED, log entry 40. -/
def State.lpWait (s : State) (p : Nat) : State :=
  if s.on LPW_STAT_STACKED || !s.on (LPW_P_CFG_EN p) || s.on (LPW_P_STAT_FORCED p) then s.lpGo p 0
  else ((s.offShow p 0).lpGo p 1).waitCheck p

/-- Enters DISABLED with a cause; FAILS clears (R459). -/
def State.lpDisable (s : State) (p cause : Nat) : State :=
  (((s.offShow p 0).put (LPW_P_STAT_CAUSE p) cause).put (LPW_P_STAT_FAILS p) 0).lpGo p 0

/-- A failed attempt (R465, R466): FAILS, the off time, RETRY, or LATCHED when FAILS reaches RETRY_MAX. `ta` is T_A in us.
DEDUCED, log entry 40. -/
def State.lpFail (s : State) (p cause ta : Nat) : State :=
  let s1 := (s.satAdd (LPW_P_STAT_FAILS p) 1).put (LPW_P_STAT_CAUSE p) cause
  let m := s.get (LPW_P_CFG_RETRY_MAX p)
  if m ≠ 0 ∧ s1.get (LPW_P_STAT_FAILS p) = m then ((s1.lpGo p 7).lpEvt p 5).lpFault 0x64 p
  else (s1.lpGo p 6).offShow p (max 1000000 (100 * ta))

/-- The side or VBUS leaves IN under a port (R459, R467); a detection falls due on entry to WAIT from RETRY (R462). -/
def State.lpLeave (s : State) (p : Nat) (side : Bool) : State :=
  let st := s.get (LPW_P_STAT_STATE p)
  if st = 5 then (((s.put (LPW_P_STAT_CAUSE p) 1).lpEvt p 1).lpFault 0x62 p).lpWait p
  else if !side then s
  else if st = 2 then s.lpWait p
  else if (st = 6 ∨ st = 7) ∧ s.get (LPW_P_STAT_ROLE p) = 0 then
    let s1 := s.put (LPW_P_STAT_FAILS p) 0
    (if st = 6 then s1.setLp p { s1.lp p with due := true } else s1).lpWait p
  else s

/-- The class of a port's side (R458), with all that follows. -/
def State.sideClass (s : State) (p cls : Nat) (low : Bool) : State :=
  let s1 := (s.setLp p { s.lp p with cls := cls, low := low }).sigShow p
  (if cls = 0 then s1 else s1.lpLeave p true).waitCheck p

/-- VBUS enters or leaves IN (R458). -/
def State.busClass (s : State) (isIn : Bool) : State :=
  if s.on LPW_VBUS_IN = isIn then s
  else
    let s1 := (s.put LPW_VBUS_IN (b2n isIn)).put LPW_EVT_BUS 1
    s1.each [0, 1] fun s p => ((if isIn then s else s.lpLeave p false).sigShow p).waitCheck p

/-- LINE_WINDOW_CHANGE (R458, R467): the class of a side, 0 IN, 1 DEAD, 2 BETWEEN, or whether VBUS is IN; one that repeats a class out
of IN says that the side has stayed out of it. DEDUCED, log entry 40. -/
def execLineWindowChange (which : Fin 3) (cls : Fin 3) (low : Bool) (s : State) : Out :=
  if !s.lpw.aon then .next s else
  .next (if which.val = 2 then s.busClass (cls.val == 0) else s.sideClass which.val cls.val low)

/-- INS_DLY_EXPIRY (R459). -/
def execInsDlyExpiry (p : Fin 2) (s : State) : Out :=
  if !s.lpw.aon then .next s else
  .next (if s.get (LPW_P_STAT_STATE p.val) = 2 then (s.put (LPW_P_STAT_ROLE p.val) 0).lpGo p.val 4 else s)

/-- A detection falls due (R462). -/
def State.detDue (s : State) (p : Nat) : State := (s.setLp p { s.lp p with due := true }).waitCheck p

/-- DETECTION_DUE (R462). -/
def execDetectionDue (p : Fin 2) (s : State) : Out := if !s.lpw.aon then .next s else .next (s.detDue p.val)

/-- R_far as a fraction of ohms, from V1 and V2 in mV and R_SIG 24.9 kOhm (R462, R478). -/
def rFar (v1 v2 : Nat) : Int × Int := (((v2 : Int) - v1) * 24900, (9000 - (v2 : Int)) - (4000 - (v1 : Int)))

/-- The result of a detection (R462): 1 VALID, 2 LOW, 3 HIGH, 4 BIAS. -/
def detResult (v1 v2 : Nat) (bias : Bool) : Nat :=
  let r := rFar v1 v2
  if bias then 4
  else if r.2 ≤ 0 then 3
  else if r.1 < 20000 * r.2 then 2
  else if r.1 > 30000 * r.2 then 3
  else 1

/-- What LPW_Pp_DET shows of R_far, saturating. -/
def detOhms (v1 v2 : Nat) : Nat :=
  let r := rFar v1 v2
  if r.2 ≤ 0 then 2 ^ 20 - 1
  else if r.1 ≤ 0 then 0
  else min (2 ^ 20 - 1) ((r.1 / r.2).toNat + b2n (r.1 % r.2 != 0 && Config.roundUp r.1 r.2.toNat))

/-- DETECTION_DONE (R462): V1 and V2 in mV, and whether the side was 2.0 V or above at the start. -/
def execDetectionDone (p : Fin 2) (v1 v2 : BitVec 17) (bias : Bool) (s : State) : Out :=
  if !s.lpw.aon then .next s else
  .next (if s.get (LPW_P_STAT_STATE p.val) = 3 then
    let r := detResult v1.toNat v2.toNat bias
    let s1 := (s.put (LPW_P_DET_OHMS p.val) (detOhms v1.toNat v2.toNat)).put (LPW_P_STAT_DRES p.val) r
    if r = 1 then (s1.put (LPW_P_STAT_ROLE p.val) 1).lpGo p.val 4
    else
      (if r = s.get (LPW_P_STAT_DRES p.val) then s1 else (s1.lpEvt p.val 4).lpFault 0x63 p.val).lpWait p.val
  else s)

/-- RAMP_DONE (R459): the gate-source voltage reaches 10 V. -/
def execRampDone (p : Fin 2) (s : State) : Out :=
  if !s.lpw.aon then .next s else
  .next (if s.get (LPW_P_STAT_STATE p.val) = 4 then (s.lpGo p.val 5).lpEvt p.val 0 else s)

/-- RAMP_TIMEOUT (R468): T_A is SS_TO. -/
def execRampTimeout (p : Fin 2) (s : State) : Out :=
  if !s.lpw.aon then .next s else
  .next (if s.get (LPW_P_STAT_STATE p.val) = 4 then
    ((s.lpEvt p.val 6).lpFault 0x65 p.val).lpFail p.val 4 (1000 * clampTo 5 200 (s.get (LPW_P_LIM_SS_TO p.val)))
  else s)

/-- CURRENT_LIMIT (R464): regulation begins or ends. -/
def execCurrentLimit (p : Fin 2) (regulating : Bool) (s : State) : Out :=
  if !s.lpw.aon then .next s else
  let st := s.get (LPW_P_STAT_STATE p.val)
  .next (if st = 4 ∨ st = 5 then s.put (LPW_P_STAT_LIMIT p.val) (b2n regulating) else s)

/-- The longest attempt time of a port in us (R465): SS_TO in RAMP, TFLT in ON. -/
def State.taMax (s : State) (p : Nat) : Nat :=
  1000 * (if s.get (LPW_P_STAT_STATE p) = 4 then clampTo 5 200 (s.get (LPW_P_LIM_SS_TO p))
    else clampTo 1 50 (s.get (LPW_P_TIM_TFLT p)))

/-- FAST_TRIP (R464, R465): `ta` is the ramp's time, or in ON how long the fault timer had run, in us. -/
def execFastTrip (p : Fin 2) (ta : BitVec 18) (s : State) : Out :=
  if !s.lpw.aon then .next s else
  let st := s.get (LPW_P_STAT_STATE p.val)
  .next (if st = 4 ∨ st = 5 then ((s.lpEvt p.val 2).lpFault 0x60 p.val).lpFail p.val 2 (min ta.toNat (s.taMax p.val)) else s)

/-- FAULT_TIMER_EXPIRY (R464, R465): in RAMP `ta` is the ramp's time in us, in ON T_A is TFLT. -/
def execFaultTimerExpiry (p : Fin 2) (ta : BitVec 18) (s : State) : Out :=
  if !s.lpw.aon then .next s else
  let st := s.get (LPW_P_STAT_STATE p.val)
  .next (if (st = 4 ∨ st = 5) ∧ s.on (LPW_P_STAT_LIMIT p.val) then
    ((s.lpEvt p.val 3).lpFault 0x61 p.val).lpFail p.val 3
      (if st = 4 then min ta.toNat (s.taMax p.val) else s.taMax p.val)
  else s)

/-- OFF_TIME_END (R465, R467): WAIT, and a detection falls due. -/
def execOffTimeEnd (p : Fin 2) (s : State) : Out :=
  if !s.lpw.aon then .next s else
  .next (if s.get (LPW_P_STAT_STATE p.val) = 6 then (s.setLp p.val { s.lp p.val with due := true }).lpWait p.val else s)

/-- FET_SHORT (R468): current through a gate that is off. -/
def execFetShort (p : Fin 2) (s : State) : Out :=
  if !s.lpw.aon then .next s else
  let st := s.get (LPW_P_STAT_STATE p.val)
  .next (if st = 4 ∨ st = 5 ∨ st = 7 then s
    else (((s.offShow p.val 0).lpEvt p.val 6).lpFault 0x65 p.val).lpGo p.val 7)

/-- PG_BLANK_END (R469). -/
def execPgBlankEnd (p : Fin 2) (s : State) : Out :=
  if !s.lpw.aon then .next s else
  .next (if s.get (LPW_P_STAT_STATE p.val) = 5 && !s.on (LPW_P_STAT_LIMIT p.val) then s.setPg p.val true else s)

/-- GATE_VOLTAGE_LOW (R469, R470): not looked at while the fault timer runs. -/
def execGateVoltageLow (p : Fin 2) (s : State) : Out :=
  if !s.lpw.aon then .next s else
  .next (if s.get (LPW_P_STAT_STATE p.val) = 5 && !s.on (LPW_P_STAT_LIMIT p.val) then s.setPg p.val false else s)

/-- FAILS_CLEAR (R465): PG has held for 1 s. -/
def execFailsClear (p : Fin 2) (s : State) : Out :=
  if !s.lpw.aon then .next s else
  .next (if s.on (LPW_P_STAT_PG p.val) then s.put (LPW_P_STAT_FAILS p.val) 0 else s)

/-! ### Commands -/

/-- A write of an LPW register: without effect while the link is lost (R12). -/
def State.lpCmd (s : State) (off : Nat) (f : State → State) : State := if s.d2dLost then s else s.cmd off f

/-- OFF (R459). -/
def State.lpOff (s : State) (p : Nat) : State := (s.put (LPW_P_STAT_FORCED p) 1).lpDisable p 5

/-- ON (R459). -/
def State.lpOn (s : State) (p : Nat) : State :=
  let s1 := s.put (LPW_P_STAT_FORCED p) 0
  if s.get (LPW_P_STAT_STATE p) = 0 then s1.lpWait p else s1

/-- CLEAR (R466). -/
def State.lpClear (s : State) (p : Nat) : State :=
  let s1 := s.put (LPW_P_STAT_FAILS p) 0
  if s.get (LPW_P_STAT_STATE p) = 7 then s1.lpWait p else s1

/-- OFF (R459). -/
def execLpwOff (p : Fin 2) (s : State) : Out := .next (s.lpCmd (LPW_P_CMD p.val) fun s => s.lpOff p.val)

/-- ON (R459). -/
def execLpwOn (p : Fin 2) (s : State) : Out := .next (s.lpCmd (LPW_P_CMD p.val) fun s => s.lpOn p.val)

/-- CLEAR (R466). -/
def execLpwClear (p : Fin 2) (s : State) : Out := .next (s.lpCmd (LPW_P_CMD p.val) fun s => s.lpClear p.val)

/-- DETECT (R462). -/
def execLpwDetect (p : Fin 2) (s : State) : Out := .next (s.lpCmd (LPW_P_CMD p.val) fun s => s.detDue p.val)

/-! ### Measurement (R472, R473) -/

/-- Adds energy in uJ to a counter of 1 mJ units. -/
def State.energy (s : State) (k uj : Nat) : State :=
  let a := Tab.get (fun _ => 0) s.lpw.acc k + uj
  ({ s with lpw := { s.lpw with acc := Tab.set (fun _ => 0) s.lpw.acc k (a % 1000) } } : State).count (LPW_CNT k) (a / 1000)

/-- LPW_MEASURE (R472, R473): the means of a millisecond in mV, mA and mW, and each port's energy in and out of the samples
in uJ. A millisecond of each off time has passed (R465). -/
def execLpwMeasure (vE vW vBus : BitVec 17) (iE iW : BitVec 16) (pE pW : Word) (inE outE inW outW : Word) (s : State) :
    Out :=
  if !s.lpw.aon then .next s else
  let s1 := (((s.put (LPW_P_V_MV 0) vE.toNat).put (LPW_P_V_MV 1) vW.toNat).put LPW_VBUS_MV vBus.toNat).put (LPW_P_I_MA 0)
    iE.toNat
  let s2 := (((s1.put (LPW_P_I_MA 1) iW.toNat).put (LPW_P_P_MW 0) pE.toNat).put (LPW_P_P_MW 1) pW.toNat)
  let s3 := (((s2.energy 0 inE.toNat).energy 1 outE.toNat).energy 2 inW.toNat).energy 3 outW.toNat
  .next (s3.each [0, 1] fun s p =>
    if s.get (LPW_P_STAT_STATE p) = 6 then s.offShow p ((s.lp p).off - 1000) else s)

/-! ### Applies (R455) -/

/-- An apply sends the shadows to the P-die. DEDUCED, log entry 40. -/
def State.lpwApply (s : State) : State :=
  { s with lpw := { s.lpw with sent := lpwShared.map fun o => s.rd (o + 0x800), take := true } }

/-- Whether a window is refused: OV, brought into its range, is less than UV + 5 V. -/
def winBad (w : Word) : Bool := decide (clampTo 300 780 (wordField w 16 10) < clampTo 200 600 (wordField w 0 10) + 50)

/-- Takes one register of an apply. -/
def State.takeReg (s : State) (o : Nat) (w : Word) : State :=
  if (o = LPW_BUS ∨ o = LPW_P_WIN 0 ∨ o = LPW_P_WIN 1) ∧ winBad w then (s.put LPW_STAT_CFG_REJ 1).put LPW_EVT_CFG_REJ 1
  else s.wr o w

/-- LPW_APPLY_TAKE (R455, R458, R459): the P-die takes the values of an apply in one LPW cycle. `e`, `w` and `bus` are the
classes of the sides and whether VBUS is IN under the new windows, and a port that they put out of IN leaves its window. DEDUCED, log entry 40. -/
def execLpwApplyTake (e w : Fin 3) (lowE lowW bus : Bool) (s : State) : Out :=
  if !s.lpw.aon then .next s else
  .next (if s.lpw.take && !s.d2dLost then
    let s1 := (lpwShared.zip s.lpw.sent).foldl (fun s x => s.takeReg x.1 x.2) s
    let s2 : State := { s1 with lpw := { s1.lpw with take := false } }
    let s3 := ((s2.setLp 0 { s2.lp 0 with cls := e.val, low := lowE }).setLp 1 { s2.lp 1 with cls := w.val, low := lowW }).when
      (s2.on LPW_VBUS_IN != bus) fun s => (s.put LPW_VBUS_IN (b2n bus)).put LPW_EVT_BUS 1
    s3.each [0, 1] fun s p =>
      if !s.on (LPW_P_CFG_EN p) then (if s.get (LPW_P_STAT_STATE p) = 0 then s.sigShow p else s.lpDisable p 6)
      else if s.get (LPW_P_STAT_STATE p) = 0 then s.lpWait p
      else
        let s1 := if (s.lp p).cls = 0 && s.on LPW_VBUS_IN then s else s.lpLeave p ((s.lp p).cls != 0)
        (s1.sigShow p).waitCheck p
  else s)

/-! ### The rail sequencer (R474 to R476) -/

/-- The lowest PEN output that is low. -/
def State.nextPen (s : State) : Option Nat := (List.range 4).find? fun n => !s.getBit LPW_SEQ_STAT_PEN n

/-- Whether every monitored group is in its windows. -/
def State.groupsIn (s : State) : Bool := (List.range 4).all fun n => !s.getBit LPW_SEQ_MON n || s.getBit LPW_SEQ_STAT_INWIN n

/-- SEQ_START (R474): VBUS has been IN for 1 ms. -/
def execSeqStart (s : State) : Out :=
  if !s.lpw.aon then .next s else
  .next (if s.get LPW_SEQ_STAT_STATE = 0 && s.on LPW_VBUS_IN then
    (s.put LPW_SEQ_STAT_STATE 1).setBit LPW_SEQ_STAT_PEN 0 else s)

/-- SEQ_STEP (R474): the next PEN output rises once the group before it is in its windows or is not monitored. -/
def execSeqStep (inwin : BitVec 4) (s : State) : Out :=
  if !s.lpw.aon then .next s else
  .next (if s.get LPW_SEQ_STAT_STATE = 1 then
    let s1 := s.put LPW_SEQ_STAT_INWIN (inwin.toNat &&& s.get LPW_SEQ_STAT_PEN)
    match s.nextPen with
    | some n =>
      if n = 0 || !s.getBit LPW_SEQ_MON (n - 1) || inwin.toNat.testBit (n - 1) then s1.setBit LPW_SEQ_STAT_PEN n else s1
    | none => s1
  else s)

/-- The report of LP_RAIL (R475). -/
def State.railFault (s : State) (n : Nat) : State :=
  ((s.put LPW_EVT_RAIL 1).satAdd LPW_SEQ_STAT_RAIL_FAILS 1).lpFault 0x66 n

/-- RAIL_TIMEOUT (R475): a monitored group is not in its windows; the raised outputs are lowered. -/
def execRailTimeout (n : Fin 4) (s : State) : Out :=
  if !s.lpw.aon then .next s else
  .next (if s.get LPW_SEQ_STAT_STATE = 1 && s.getBit LPW_SEQ_STAT_PEN n.val && s.getBit LPW_SEQ_MON n.val
      && !s.getBit LPW_SEQ_STAT_INWIN n.val then
    (((s.railFault n.val).put LPW_SEQ_STAT_PEN 0).put LPW_SEQ_STAT_INWIN 0).put LPW_SEQ_STAT_STATE 4
  else s)

/-- SEQ_RETRY (R475). -/
def execSeqRetry (s : State) : Out :=
  if !s.lpw.aon then .next s else
  .next (if s.get LPW_SEQ_STAT_STATE = 4 then (s.put LPW_SEQ_STAT_STATE 1).setBit LPW_SEQ_STAT_PEN 0 else s)

/-- LP_RAIL (R475): a monitored rail has left its window for 100 us after RAILS_OK; every PEN output stays. -/
def execLpRail (n : Fin 4) (s : State) : Out :=
  if !s.lpw.aon then .next s else
  .next (if s.on LPW_STAT_RAILS_OK && s.getBit LPW_SEQ_MON n.val then (s.clrBit LPW_SEQ_STAT_INWIN n.val).railFault n.val
    else s)

/-- The P-die's power-on reset (R457, R477): every LPW register at its reset value, and the ports at their first state. -/
def State.lpwPor (s : State) (stacked : Bool) : State :=
  let s1 : State := { s with
    regs := s.regs.filter fun e => blkOf e.1 != 0x15
    live := s.live.filter fun e => blkOf e.1 != 0x15
    lpw := ⟨[], [], [], [], false, true⟩
    lpwRawHeld := false }
  let s2 := s1.put LPW_STAT_STACKED (b2n stacked)
  if stacked then s2.each [0, 1] fun s p => s.lpGo p 0 else s2

/-- AON_SUPPLY_LOSS (R477): the P-die stops, and with its rails the D-die, until the power-on reset; the gates are off, and the
unpowered switches of the P-die present the signature (R460). -/
def execAonSupplyLoss (s : State) : Out :=
  let s1 := s.each [0, 1] fun s p => (s.lpGo p 0).put (LPW_P_STAT_SIG p) 1
  let s2 := (((s1.put LPW_SEQ_STAT_PEN 0).put LPW_SEQ_STAT_INWIN 0).put LPW_SEQ_STAT_STATE 0).put LPW_STAT_RAILS_OK 0
  .next { s2 with lpw := { s2.lpw with aon := false }, sys := { s2.sys with die := some 1 } }

/-! ### The die-to-die link (R12, R13) -/

/-- KEEP_ALIVE_TX (R12): the die sends its keep-alive, which changes nothing on the sending side. -/
def execKeepAliveTx (s : State) : Out := .next s

/-- D2D_LOSS (R12, R76, R427, R456). -/
def execD2dLoss (s : State) : Out :=
  .next (if s.d2dLost || !s.lpw.aon then s
    else (({ s with d2dLost := true, lpwRawHeld := s.lpwRaw } : State).lpSend ⟨0x15, 0x16, kindSev 0x16, 0, false, 0⟩).lsvStale)

/-- D2D_RESTORED (R13, R455, R456): the queued faults go out in order, the last apply's values are sent again, and the
measurements are fresh. Without a loss before it the link has come up after a reset, which LSV_STAT.LINK_OK shows. -/
def execD2dRestored (s : State) : Out :=
  .next (if s.d2dLost && s.lpw.aon then
    let s1 := ({ s with d2dLost := false } : State).each s.lpw.q State.lpSend
    ({ s1 with lpw := { s1.lpw with q := [], take := !s1.lpw.sent.isEmpty } } : State).lsvFresh
  else s.when (s.lpw.aon && !s.dark && !s.inReset 0x12) fun s => s.put LSV_STAT_LINK_OK 1)

end Sys2Proof.Machine
end

