-- ==== Sys2Proof/Machine/Blocks.lean ====
section
/-! DEFINITION. Block coding on the ring and stack lanes: 66-bit blocks, the scrambler, the control blocks, what a lane sends, and
the pattern generators and checkers (R140 to R142, R149, R160, R161). -/
namespace Sys2Proof.Machine

/-! ### The scrambler (R140) -/

/-- Scrambles 64 payload bits, bit 0 first, by 1 + x^39 + x^58. `h` holds the last 58 bits sent, the oldest in bit 0. Answers
the bits on the lane and the history after them. -/
def scramble (h d : Nat) : Nat × Nat :=
  let lo := (d ^^^ h / 2 ^ 19 ^^^ h) % 2 ^ 39
  let z := h + lo * 2 ^ 58
  let hi := (d / 2 ^ 39 ^^^ z / 2 ^ 58 ^^^ z / 2 ^ 39) % 2 ^ 25
  let o := lo + hi * 2 ^ 39
  (o, (h + o * 2 ^ 58) / 2 ^ 64)

/-- Recovers 64 payload bits; `h` holds the last 58 bits received. -/
def descramble (h w : Nat) : Nat × Nat :=
  let z := h + w * 2 ^ 58
  ((w ^^^ z / 2 ^ 19 ^^^ z) % 2 ^ 64, z / 2 ^ 64)

/-! ### Control blocks (R141) -/

/-- A block before scrambling: whether it is a control block, and its payload. -/
abbrev Plain := Bool × Nat

/-- IDLE. -/
def blkIdle : Plain := (true, 0x1E)
/-- SOF of a class. -/
def blkSof (cls : Nat) : Plain := (true, 0x33 + cls % 8 * 2 ^ 8)
/-- EOF, normal or abort. -/
def blkEof (abort : Bool) : Plain := (true, 0xE1 + (if abort then 0xA5 else 0) * 2 ^ 8)
/-- Part `i` of a training message: six of its bytes. -/
def blkTrain (i six : Nat) : Plain := (true, 0x4B + i % 4 * 2 ^ 8 + six % 2 ^ 48 * 2 ^ 16)
/-- RF with a down cause. -/
def blkRf (cause : Nat) : Plain := (true, 0x55 + cause % 256 * 2 ^ 8)
/-- PAT with 56 pattern bits. -/
def blkPat (bits : Nat) : Plain := (true, 0x66 + bits % 2 ^ 56 * 2 ^ 8)

/-- A frame as it is sent (R142): SOF, its bytes, EOF, and the IDLE that follows. -/
def frameBlocks (f : Frame) (abort : Bool) : List Plain :=
  blkSof (frClass f) :: (f.hw0.toNat :: f.hw1.toNat :: f.hw2.toNat :: (f.payload.map (·.toNat) ++ [frTrailer f])).map (fun w => (false, w))
    ++ [blkEof abort, blkIdle]

/-- A training message of 24 bytes as four blocks (R152). -/
def trainBlocks (msg : List Byte) : List Plain :=
  (List.range 4).map fun i => blkTrain i (ofLeBytes ((msg.drop (6 * i)).take 6))

/-- A lane sends blocks: the sync header of each, and its payload scrambled on from where the lane stands (R140). They stand as the
last blocks the lane has sent. -/
def State.sendBlocks (s : State) (l : Nat) (bs : List Plain) : State :=
  s.modLn l fun x =>
    let r := bs.foldl (fun (a : Nat × List Block) b =>
      let e := scramble a.1 b.2
      (e.2, a.2 ++ [⟨if b.1 then 2#2 else 1#2, BitVec.ofNat 64 e.1⟩])) (x.scr, [])
    { x with scr := r.1, txb := r.2 }

/-! ### The pattern generator (R160) -/

/-- Degree and second tap of a pattern's polynomial; 6 and 7 act as 4. -/
def polyTaps (p : Nat) : Nat × Nat :=
  match p with
  | 0 => (7, 6) | 1 => (9, 5) | 2 => (15, 14) | 3 => (23, 18) | _ => (31, 28)

/-- The bits that a period reaches back: the degree of the polynomial, 64 for USER. -/
def patDegree (p : Nat) : Nat := if p = 5 then 64 else (polyTaps p).1

/-- The next bit after the last ones, the newest in bit 0: by the polynomial, or the bit 64 before for USER. -/
def patNext (p h : Nat) : Bool :=
  if p = 5 then h.testBit 63 else h.testBit ((polyTaps p).1 - 1) ^^ h.testBit ((polyTaps p).2 - 1)

/-- The history with one bit more. -/
def patPush (p h : Nat) (b : Bool) : Nat := (2 * h + b2n b) % 2 ^ patDegree p

/-- The history with which a generator begins: where in its period a polynomial's pattern begins is a free value; USER begins with
its bit 0. DESIGN CHOICE, log entry 32. -/
def State.patStart (s : State) (l : Nat) : Nat :=
  let p := s.get (LANE_PAT_CTL_POLY l)
  let u := s.rd64 (LANE_PAT_USER l)
  if p = 5 then (List.range 64).foldl (fun a i => 2 * a + b2n (u.testBit i)) 0
  else 1 + Config.patSeed l % (2 ^ patDegree p - 1)

/-- The next `n` bits of a lane's generator, bit 0 first. -/
def State.genBits (s : State) (l n : Nat) : State × Nat :=
  let p := s.get (LANE_PAT_CTL_POLY l)
  let r := (List.range n).foldl (fun (a : Nat × Nat) i =>
    let b := patNext p a.1
    (patPush p a.1 b, a.2 + b2n b * 2 ^ i)) ((s.ln l).gen.getD (s.patStart l), 0)
  (s.modLn l fun x => { x with gen := some r.1 }, r.2)

/-! ### What a lane sends where it sends nothing else (R141, R149, R161) -/

/-- The CAP byte of this hub (R152). -/
def State.ownCap (s : State) : Nat := if s.gh320 then 0 else 0x1F

/-- Whether a capability counts for a link: 0 DUP, 1 G25, 2 CAT, 3 PAT, 4 RF (R153). -/
def State.linkCap (s : State) (l i : Nat) : Bool := s.ownCap.testBit i && (s.get (LANE_PEER0_CAP l)).testBit i

/-- Whether a lane is looped: its serialiser feeds its own deserialiser, and its transmitter is idle (R505). -/
def State.looped (s : State) (l : Nat) : Bool := s.getBit TST_FTCTL_LOOP l && !s.inReset 0x17

/-- Whether the generator of a lane may send: E and W of a stacked hub stay powered down (R20). -/
def State.patMay (s : State) (l : Nat) : Bool := s.chip == 0 || decide (2 ≤ l)

/-- Whether a link carries PAT blocks: version 2, UP, and both ends can (R153, R161). -/
def State.patLink (s : State) (l : Nat) : Bool :=
  s.on (LANE_STAT_UP l) && s.get (LANE_STAT_VER l) == 2 && s.linkCap l 3 && !s.on (LANE_STAT_HOSTMODE l)

/-- Whether the generator sends (R161). -/
def State.genActive (s : State) (l : Nat) : Bool :=
  s.patMay l && s.on (LANE_PAT_CTL_GEN_EN l) && (s.on (LANE_PAT_CTL_LEVEL l) || s.patLink l)

/-- The block that stands in place of an IDLE block: RF from a down until UP again, PAT while the generator sends at block
level. -/
def State.fillBlock (s : State) (l : Nat) : State × Plain :=
  match (s.ln l).rfTx with
  | some c => (s, blkRf c)
  | none =>
    if s.genActive l && !s.on (LANE_PAT_CTL_LEVEL l) then
      let r := s.genBits l 56
      (r.1, blkPat r.2)
    else (s, blkIdle)

/-- A lane sends blocks and then one that fills. -/
def State.sendFilled (s : State) (l : Nat) (bs : List Plain) : State :=
  let r := s.fillBlock l
  r.1.sendBlocks l (bs ++ [r.2])

/-! ### The checker (R160) -/

/-- The checker seeds itself anew. -/
def State.chkSeed (s : State) (l : Nat) : State :=
  (s.put (LANE_PAT_STAT_CHK_LOCK l) 0).modLn l fun x => { x with chk := ⟨0, 0, 0, 0⟩ }

/-- More than 256 errored bits in 1,024 checked ones: CHK_LOCK is lost, and the checker seeds itself again. -/
def State.chkLost (s : State) (l : Nat) : State :=
  ((s.chkSeed l).put (LANE_EVT_PAT_LOCK_LOST l) 1).satAdd (LANE_PAT_STAT_LOCK_LOSS l) 1

/-- The run of error-free bits after which a checker locks. -/
def chkRun (p : Nat) : Nat := 2 * patDegree p

/-- One received bit. Before lock the received bits seed the checker; a run of zeros is no polynomial's pattern, and a USER pattern
is LANE_PAT_USER from some bit on. While locked the checker runs by itself, and counts. DEDUCED, log entry 32. -/
def State.chkBit (s : State) (l : Nat) (b : Bool) : State :=
  let p := s.get (LANE_PAT_CTL_POLY l)
  let c := (s.ln l).chk
  let e := patNext p c.sh
  if s.on (LANE_PAT_STAT_CHK_LOCK l) then
    let bad := b != e
    let s1 := (s.bump (LANE_PAT_BITS l)).when bad fun s => s.bump (LANE_PAT_ERRS l)
    let k := (2 * c.errs + b2n bad) % 2 ^ 1024
    if bad ∧ 256 < popCount 1024 k then s1.chkLost l
    else s1.modLn l fun x => { x with chk := ⟨patPush p c.sh e, 0, 0, k⟩ }
  else
    let h := patPush p c.sh b
    let u := s.patStart l
    let ours := if p = 5 then (List.range 64).any fun i => (u * 2 ^ i + u / 2 ^ (64 - i)) % 2 ^ 64 == h else h != 0
    let run := if patDegree p ≤ c.bits ∧ b = e then c.run + 1 else 0
    let s1 := s.modLn l fun x => { x with chk := ⟨h, run, min (c.bits + 1) (patDegree p), 0⟩ }
    if chkRun p ≤ run ∧ ours then
      (s1.put (LANE_PAT_STAT_CHK_LOCK l) 1).modLn l fun x => { x with chk := ⟨h, 0, 0, 0⟩ }
    else s1

/-- The 56 bits of a received PAT block, bit 0 of byte 1 first; they count at block level only. -/
def State.chkBlock (s : State) (l payload : Nat) : State :=
  if s.on (LANE_PAT_CTL_CHK_EN l) && !s.on (LANE_PAT_CTL_LEVEL l) && s.patLink l then
    s.each (List.range 56) fun s i => s.chkBit l (payload.testBit (8 + i))
  else s

end Sys2Proof.Machine
end

