-- ==== Sys2Proof/Machine/Census.lean ====
section
/-! DEFINITION. The census: CALL, ASSIGN, BEACON and NOTE, the node number and the ring floor (R181, R184 to R194). -/
namespace Sys2Proof.Machine

/-! ### Entries and frames (R184, R185) -/

/-- Bits [47:0] of the unit ID. -/
def State.uid48 (s : State) : Nat := s.clockId % 2 ^ 48

/-- The UID a lane's peer announced. -/
def State.peerUid (s : State) (l : Nat) : Nat := s.get (LANE_PEER2_UID_LO l) + 2 ^ 32 * s.get (LANE_PEER3_UID_HI l)

/-- RPE_CEN_CTL.WANT; 0xFF acts as 0xFE. -/
def State.want (s : State) : Nat := min 0xFE (s.get RPE_CEN_CTL_WANT)

/-- The hub's own entry of a CALL or NOTE; `v1` is its V1IN. -/
def State.cenEntry (s : State) (v1 : Bool) : DWord :=
  BitVec.ofNat 64 (s.uid48 + s.want * 2 ^ 48 + (if s.gh320 then 1 else 2) * 2 ^ 56 + s.get ID_STRAP_HEAD * 2 ^ 58
    + s.get RED_TWIN_CTL_TWIN * 2 ^ 59 + s.get ID_STRAP_TWIN_PREF * 2 ^ 60 + b2n v1 * 2 ^ 61
    + s.get RPE_CEN_CTL_STACK * 2 ^ 62)

/-- Whether a lane's link has version 1. -/
def State.linkV1 (s : State) (l : Nat) : Bool := s.get (LANE_STAT_VER l) == 1

/-- Word 0 of a census frame. -/
def cenWord (op round floor profile rate count dir : Nat) : DWord :=
  BitVec.ofNat 64 (op + round % 65536 * 2 ^ 8 + floor % 16 * 2 ^ 24 + profile % 2 * 2 ^ 28 + rate % 8 * 2 ^ 29
    + count % 256 * 2 ^ 32 + dir % 2 * 2 ^ 40)

/-- ROUND of a census frame. -/
def cenRound (f : Frame) : Nat := bits (frWord f 0) 8 16
/-- COUNT of a census frame. -/
def cenCount (f : Frame) : Nat := bits (frWord f 0) 32 8
/-- DIR of a census frame. -/
def cenDir (f : Frame) : Nat := bits (frWord f 0) 40 1
/-- The UID of an entry. -/
def entUid (w : Nat) : Nat := w % 2 ^ 48

/-- Sends a census frame out of a ring lane. -/
def State.cenSend (s : State) (dst lane : Nat) (ws : List DWord) : State :=
  s.originate { FrameSpec.plain 5 0 3 dst 0 0 ws with via := some lane } 5

/-! ### The head-end (R192) -/

/-- Whether a UID is that of this hub's twin partner: LEAD's lane W meets SECOND's lane E. -/
def State.partnerUid (s : State) (u : Nat) : Bool :=
  s.on RED_TWIN_CTL_TWIN && u == s.peerUid (if s.on ID_STRAP_TWIN_PREF then 1 else 0)

/-- Whether the hub acts as head-end: HEAD 1, not stacked, not yielded, and no partner holds the anchor (R20, R192).
DEDUCED, log entry 33. -/
def State.headAct (s : State) : Bool :=
  s.on ID_STRAP_HEAD && s.master && !s.on RPE_STAT_HEAD_YIELD && !(s.on RED_TWIN_CTL_TWIN && s.on RED_TWIN_STAT_ANCHOR_IN)

/-- A CALL or BEACON whose first entry is another head-end's: both report, and the one with the higher UID yields. -/
def State.headMeet (s : State) (f : Frame) : State :=
  let e := frWord f 1
  if s.headAct && decide (2 ≤ f.payload.length) && e.testBit 58 && entUid e != s.uid48 && !s.partnerUid (entUid e) then
    let s1 := (s.put RPE_EVT_HEAD_DUP 1).fault 0x0C 0x36 (entUid e)
    if entUid e < s.uid48 then s1.put RPE_STAT_HEAD_YIELD 1 else s1
  else s

/-! ### Node number and floor (R187, R194) -/

/-- Sets the BLOCK bits of the ring lanes and tells RED of those that rise or fall (R194, R238). -/
def State.setBlock (s : State) (d : Nat) (v : Bool) : State :=
  if s.blocked d = v then s
  else
    let s1 := s.put RPE_STAT_BLOCK (setBitTo (s.get RPE_STAT_BLOCK) d v)
    if v then s1.dirDown d 0x81 false else s1.dirRight d

/-- The floor takes effect (R187). DEDUCED, log entry 33. -/
def State.floorTake (s : State) : State := { s with rpe := { s.rpe with floor := s.get RPE_RING_FLOOR } }

/-- What an ASSIGN or the master writes in RPE_NODE; a change sets NODE_CHG (R187). -/
def State.setNode (s : State) (node status round : Nat) : State :=
  let chg := s.node != node || s.get RPE_NODE_STATUS != status || s.get RPE_NODE_ROUND != round
  let s1 := ((s.put RPE_NODE_NODE node).put RPE_NODE_STATUS status).put RPE_NODE_ROUND round
  (s1.when chg fun s => s.put RPE_EVT_NODE_CHG 1).pairCheck

/-- Whether an ASSIGN is newer than the last one taken. -/
def State.assignNewer (s : State) (round : Nat) : Bool :=
  let d := (round + 65536 - s.get RPE_NODE_ROUND) % 65536
  !s.rpe.assigned || (decide (1 ≤ d) && decide (d ≤ 32767))

/-- The hub takes an ASSIGN (R187, R194). DEDUCED, log entry 33. -/
def State.assignTake (s : State) (f : Frame) : State :=
  if !s.assignNewer (cenRound f) then s
  else
    let es := ((List.range (cenCount f)).map fun i => frWord f (1 + i))
    let s1 : State := { s with rpe := { s.rpe with assigned := true } }
    let s2 := match es.find? fun e => entUid e == s.uid48 with
      | some e => (s1.setNode (bits e 48 8) (bits e 56 4) (cenRound f)).put RPE_STAT_LISTED (b2n (bits e 56 4 == 0))
      | none => (s1.setNode 0xFE 0xF (cenRound f)).put RPE_STAT_LISTED 0
    let floor := bits (frWord f 0) 24 4
    let s3 := s2.when (floor != s2.get RPE_RING_FLOOR) fun s => s.put RPE_EVT_FLOOR_CHG 1
    let long := (frWord f 0).testBit 28
    let s4 := (((s3.put RPE_RING_FLOOR floor).put RPE_RING_PROFILE (b2n long)).put RPE_RING_RATE (bits (frWord f 0) 29 3)).put
      RPE_RING_NLISTED (es.filter fun e => bits e 56 4 == 0).length
    let refused (l : Nat) : Bool := long && es.any fun e => bits e 56 4 == 4 && entUid e == s.peerUid l
    (s4.setBlock 0 (refused 0)).setBlock 1 (refused 1)

/-! ### NOTE (R191) -/

/-- Sends a NOTE on each ring lane that is UP. -/
def State.sendNote (s : State) : State :=
  if s.inReset 0x0C || !s.master then s
  else s.each [0, 1] fun s l =>
    if s.laneUp l then
      s.cenSend 0 l [cenWord 4 (s.get RPE_NODE_ROUND) (s.get RPE_RING_FLOOR) (s.get RPE_RING_PROFILE) (s.get RPE_RING_RATE) 1 l,
        s.cenEntry (s.linkV1 l)]
    else s

/-- The BEACON period in ticks; 0 acts as 1 ms. -/
def State.beaconTicks (s : State) : Nat := max 1 (s.get RPE_CEN_CTL_BEACON) * 250000

/-- A BEACON's cause for a NOTE: at most one in each period (R191). -/
def State.noteOnBeacon (s : State) : State :=
  let due := match s.rpe.noteT with | none => true | some t => decide (s.beaconTicks ≤ s.now - t)
  if due then ({ s with rpe := { s.rpe with noteT := some s.now } }).sendNote else s

/-! ### CALL (R186) -/

/-- Rewrites the payload of a frame that a hub passes on, with its PLEN. -/
def frPutPayload (f : Frame) (ws : List DWord) : Frame := frSet0 { f with payload := ws } 36 9 ws.length

/-- Appends an entry to a CALL, or marks it as overflowed at 255 entries. -/
def callAppend (f : Frame) (e : DWord) : Frame :=
  let w := f.payload.getD 0 0#64
  if 255 ≤ cenCount f then frPutPayload f (hwSet w 41 1 1 :: f.payload.drop 1)
  else frPutPayload f (hwSet w 32 8 (cenCount f + 1) :: f.payload.drop 1 ++ [e])

/-- Passes a CALL on through a ring lane. DEDUCED, log entry 33. -/
def State.callPass (s : State) (inLane lane : Nat) (f : Frame) : State :=
  s.place inLane false (s.now * 4096) [s.ringCopy (frPutDir f lane) lane]

/-- The head-end stores a CALL that has come back, by its DIR. DEDUCED, log entry 33. -/
def State.callStore (s : State) (f : Frame) : State :=
  let d := cenDir f
  let w := frWord f 0
  let s1 := s.each (List.range f.payload.length) fun s i =>
    (s.wr (RPE_CEN_LIST d (2 * i)) (BitVec.ofNat 32 (frWord f i))).wr (RPE_CEN_LIST d (2 * i + 1))
      (BitVec.ofNat 32 (frWord f i / 2 ^ 32))
  let s2 := if d = 0 then (s1.put RPE_CEN_STAT_CW_DONE 1).put RPE_CEN_STAT_CW_COUNT (cenCount f)
    else (s1.put RPE_CEN_STAT_CCW_DONE 1).put RPE_CEN_STAT_CCW_COUNT (cenCount f)
  let s3 := s2.when (w.testBit 42) fun s => s.put (if d = 0 then RPE_CEN_STAT_CW_RET else RPE_CEN_STAT_CCW_RET) 1
  let s4 := s3.when (w.testBit 41) fun s => s.put RPE_CEN_STAT_OVERFLOW 1
  let s5 : State := { s4 with rpe := { s4.rpe with cenGot := setBitTo s4.rpe.cenGot d true } }
  if s5.rpe.cenOpen && s5.rpe.cenGot % 4 == 3 then
    ({ s5 with rpe := { s5.rpe with cenOpen := false } }).put RPE_EVT_CEN_DONE 1
  else s5

/-- A CALL arrives on a ring lane (R186, R192). DEDUCED, log entry 17. -/
def State.callRx (s : State) (lane : Nat) (f : Frame) : State :=
  if s.inReset 0x0C || !s.master then s
  else
    let s0 := s.headMeet f
    let e := s0.cenEntry (s0.linkV1 lane)
    if entUid (frWord f 1) = s.uid48 ∧ 2 ≤ f.payload.length then s0.callStore (callAppend f e)
    else if (frWord f 0).testBit 42 then s0.callPass lane (1 - lane) f
    else
      let g := callAppend f e
      if s0.laneUp (1 - lane) && !s0.blocked (1 - lane) then s0.callPass lane (1 - lane) g
      else s0.callPass lane lane (frPutPayload g (hwSet (g.payload.getD 0 0#64) 42 1 1 :: g.payload.drop 1))

/-- RPE_CEN_CMD.CALL at the acting head-end: a new round (R186). DEDUCED, log entry 33. -/
def State.callStart (s : State) : State :=
  if !s.headAct || s.idling 0x0C then s
  else
    let n := (s.rpe.round + 1) % 65536
    let s1 := ({ s with rpe := { s.rpe with round := n, cenOpen := true, cenGot := 0 } }).setNode 0 (s.get RPE_NODE_STATUS)
      (s.get RPE_NODE_ROUND)
    let w (d : Nat) : List DWord :=
      [cenWord 1 n (s.get RPE_RING_FLOOR) (s.get RPE_RING_PROFILE) (s.get RPE_RING_RATE) 1 d, s.cenEntry false]
    (s1.cenSend 0xFF 0 (w 0)).cenSend 0xFF 1 (w 1)

/-- CLAIM_CONFIRM (R192, R249): ANCHOR_IN has been low for the confirm time; a twin that takes the anchor and acts as head-end from
then on begins a census round. -/
def execClaimConfirm (s : State) : Out :=
  if s.inReset 0x0E then .next s else
  .next (if s.get RED_TWIN_STAT_STATE = 1 ∧ !s.on RED_TWIN_STAT_ANCHOR_IN then
    let s1 : State := { s with tst := { s.tst with holdT := s.sys.t } }
    let s2 := (((s1.put RED_TWIN_STAT_STATE 2).put RED_EVT_TAKE 1).bump (RED_CNT 10)).listenCheck
    if s2.on RED_TWIN_CTL_TWIN && !s2.inReset 0x0C then s2.callStart else s2
  else s)

/-- RPE_CEN_CMD.ASSIGN at the acting head-end: RPE_CEN_ASGN goes out of E and W, and the head-end takes it too (R187). FLOOR, PROFILE
and RATE of what it sends come from the first word of RPE_CEN_ASGN, where its entry n stands at word n + 1.
DESIGN CHOICE, log entry 33. -/
def State.assignSend (s : State) (count : Nat) : State :=
  if !s.headAct || s.idling 0x0C then s
  else
    let dw (i : Nat) : DWord := BitVec.ofNat 64 ((s.rd (RPE_CEN_ASGN (2 * i))).toNat + 2 ^ 32 * (s.rd (RPE_CEN_ASGN (2 * i + 1))).toNat)
    let n := min count 254
    let w0 := (dw 0).toNat
    let ws (d : Nat) : List DWord :=
      cenWord 2 s.rpe.round (bits w0 24 4) (bits w0 28 1) (bits w0 29 3) n d :: (List.range n).map fun i => dw (1 + i)
    ((s.cenSend 0xFF 0 (ws 0)).cenSend 0xFF 1 (ws 1)).assignTake ⟨0#64, 0#64, 0#64, ws 0⟩

/-- A BEACON arrives on a ring lane (R190 to R192). -/
def State.beaconRx (s : State) (lane : Nat) (f : Frame) : State :=
  if s.inReset 0x0C then s
  else
    let s0 := (s.headMeet f).put RPE_RING_ROUND (cenRound f)
    let s1 : State := { s0 with rpe := { s0.rpe with bcnT := Tab.set (fun _ => none) s0.rpe.bcnT lane (some s0.now) } }
    let differ := s1.get RPE_NODE_ROUND != cenRound f
    let s2 := s1.when differ fun s => s.put RPE_EVT_NODE_CHG 1
    if differ || !s2.on RPE_STAT_LISTED then s2.noteOnBeacon else s2

/-- A NOTE reaches the head-end (R191). -/
def State.noteRx (s : State) : State := if s.headAct && !s.inReset 0x0C then s.put RPE_EVT_NOTE_RX 1 else s

/-- A census frame at LOC, by its OP. -/
def State.cenRx (s : State) (lane : Nat) (f : Frame) : State :=
  if s.inReset 0x0C then s
  else match cenOp f with
  | 1 => s.callRx lane f
  | 2 => s.assignTake f
  | 3 => s.beaconRx lane f
  | 4 => s.noteRx
  | _ => s

/-- A stacked hub takes its node number from the master (R181). -/
def State.stackNode (s : State) (node : Nat) : State :=
  if s.master then s
  else (s.setNode node (s.get RPE_NODE_STATUS) (s.get RPE_NODE_ROUND)).put RPE_STAT_LISTED (b2n (node != 0xFE))

/-! ### The commands -/

/-- CALL (R186). -/
def execCensusCall (s : State) : Out := .next (s.cmd RPE_CEN_CMD State.callStart)

/-- ASSIGN (R188). -/
def execAssign (count : BitVec 8) (s : State) : Out := .next (s.cmd RPE_CEN_CMD fun s => s.assignSend count.toNat)

/-- CALL_RX (R186). -/
def execCallRx (lane : Fin 2) (frame : Frame) (s : State) : Out :=
  if s.inReset 0x0C then .next s else
  .next (s.callRx lane.val frame)

/-- ASSIGN_RX (R187). -/
def execAssignRx (frame : Frame) (s : State) : Out := .next (if s.inReset 0x0C then s else s.assignTake frame)

/-- FLOOR_CHANGE (R187). -/
def execFloorChange (s : State) : Out :=
  if s.inReset 0x0C then .next s else
  .next s.floorTake

/-- CENSUS_TIMEOUT (R186). -/
def execCensusTimeout (s : State) : Out :=
  if s.inReset 0x0C then .next s else
  .next (if s.rpe.cenOpen then ({ s with rpe := { s.rpe with cenOpen := false } }).put RPE_EVT_CEN_DONE 1 else s)

/-- BEACON_TX (R190): the head-end's entry goes with it, which R192 looks at. -/
def execBeaconTx (s : State) : Out :=
  .next (if s.headAct && !s.inReset 0x0C then
    let w (d : Nat) : List DWord := [cenWord 3 s.rpe.round (s.get RPE_RING_FLOOR) (s.get RPE_RING_PROFILE) (s.get RPE_RING_RATE)
      (s.get RPE_RING_NLISTED) d, s.cenEntry false]
    (s.cenSend 0xFF 0 (w 0)).cenSend 0xFF 1 (w 1)
  else s)

/-- BEACON_RX (R190). -/
def execBeaconRx (lane : Fin 2) (frame : Frame) (s : State) : Out :=
  if s.inReset 0x0C then .next s else
  .next (s.beaconRx lane.val frame)

/-- BEACON_LOST (R190). -/
def execBeaconLost (s : State) : Out := .next (if s.inReset 0x0C then s else s.put RPE_EVT_BEACON_LOST 1)

/-- NOTE_RX (R191). -/
def execNoteRx (s : State) : Out :=
  if s.inReset 0x0C then .next s else
  .next s.noteRx

/-- STACK_NODE_RX (R181). -/
def execStackNodeRx (node : BitVec 8) (s : State) : Out :=
  if s.inReset 0x0C then .next s else
  .next (s.stackNode node.toNat)

end Sys2Proof.Machine
end

