-- ==== Sys2Proof/Machine/Lane.lean ====
section
/-! DEFINITION. The lanes: training, the training message, rate steps, block alignment, loss of a link, the host lane, the eye
monitor and the pattern checkers (R138 to R161, R528). -/
namespace Sys2Proof.Machine

/-- The block of a lane. -/
def laneBlk (l : Nat) : Nat := 0x08 + l

/-- LANE_CTL.ENABLE; held 0 on the ring lanes of a stacked hub (R138). -/
def State.laneEn (s : State) (l : Nat) : Bool := s.on (LANE_CTL_ENABLE l) && (s.master || decide (2 ≤ l))

/-- LANE_CTL.HOST; held 0 but on S1 of a hub with STACK_ID 0 (R138). -/
def State.laneHost (s : State) (l : Nat) : Bool := l == 3 && s.master && s.on (LANE_CTL_HOST l)

/-- Training state. -/
def State.trainSt (s : State) (l : Nat) : Nat := s.get (LANE_TRAIN_STATE l)

/-- Enters a training state. -/
def State.setTrain (s : State) (l st : Nat) : State :=
  (s.put (LANE_TRAIN_STATE l) st).put (LANE_ALIGN_REQ l) (b2n (st == 3))

/-- RATE_MAX; 5 to 7 act as 4. -/
def State.rateMax (s : State) (l : Nat) : Nat := min 4 (s.get (LANE_CTL_RATE_MAX l))

/-- The rates this hub allows on a lane (R152, R154, R189). -/
def State.ownRates (s : State) (l : Nat) : Nat :=
  if s.gh320 then 4
  else
    ((List.range (s.rateMax l + 1)).filter fun c =>
      !s.getBit (LANE_TRAIN_FAILED l) c && !(c == 4 && decide (l < 2) && s.rpe.floor == 1)).foldl (fun a c => a + 2 ^ c) 0

/-- Whether both ends allow a rate; code 4 needs the capability of both (R152, R153). -/
def State.rateBoth (s : State) (l c : Nat) : Bool :=
  (s.ownRates l &&& s.get (LANE_PEER0_RATES l)).testBit c && (c != 4 || s.linkCap l 1)

/-- The highest rate that both ends allow. -/
def State.bestRate (s : State) (l : Nat) : Nat := ((List.range 5).filter (s.rateBoth l)).getLastD 0

/-- Whether the present rate is still set in both ends' RATES. -/
def State.rateKept (s : State) (l : Nat) : Bool := s.rateBoth l (s.get (LANE_STAT_RATE l))

/-- Whether the ring runs under LONG (R154). -/
def State.longRing (s : State) (l : Nat) : Bool := decide (l < 2) && s.on RPE_RING_PROFILE

/-! ### The training message (R152) -/

/-- The ROLE byte of this hub on a lane; a stacked hub ignores its HEAD strap (R20). -/
def State.roleByte (s : State) (l : Nat) : Nat :=
  l + b2n (s.laneHost l) * 4 + s.chip * 8 + (if s.master then s.get ID_STRAP_HEAD else 0) * 32 + s.get ID_STRAP_TWIN_PREF * 64
    + s.get RED_TWIN_CTL_TWIN * 128

/-- The MODE byte of this hub on a lane. -/
def State.modeByte (s : State) (l : Nat) : Nat :=
  s.get MPC_MODE_CUR + s.get MPC_MODE_BOOTING * 8 + b2n (s.ln l).seen * 128

/-- Whether a lane has stopped transmitting: from the time of a DORMANT commit on, E, W and S0, and S1 of a stacked hub (R66, R68). -/
def State.txQuiet (s : State) (l : Nat) : Bool := s.sys.dormT && (decide (l < 3) || !s.master)

/-- The 24 bytes of a training message. DEDUCED, log entry 32. -/
def State.trainMsg (s : State) (l msg target : Nat) : List Byte :=
  let a := msg + (if s.gh320 then 1 else 2) * 2 ^ 8 + s.ownCap * 2 ^ 16 + s.ownRates l * 2 ^ 24
    + s.roleByte l * 2 ^ 32 + s.modeByte l * 2 ^ 40 + target * 2 ^ 48 + s.node * 2 ^ 56
  let b := (s.ln l).seq + s.uid48 * 2 ^ 16
  leBytes 8 a ++ leBytes 8 b ++ leBytes 8 (crc32c [a, b])

/-- Sends a training message as four TRAIN blocks (R152). DEDUCED, log entry 32. -/
def State.trainTx (s : State) (l msg target : Nat) : State :=
  if s.txQuiet l then s
  else
    let m := s.trainMsg l msg target
    (s.modLn l fun x => { x with seq := (x.seq + 1) % 65536, sent := m }).sendFilled l (trainBlocks m)

/-! ### Going down and coming up -/

/-- Enters DETECT at code 0; in GH-320 behaviour a lane trains at code 2 only (R151, R158). -/
def State.detect (s : State) (l : Nat) : State :=
  let s1 := (s.setTrain l 1).satAdd (LANE_TRAIN_ATTEMPTS l) 1
  let s2 := ((s1.put (LANE_STAT_RATE l) (if s.gh320 then 2 else 0)).put (LANE_STAT_CDR_LOCK l) 0).put (LANE_STAT_BLK_LOCK l) 0
  (s2.put (LANE_ALIGN_LOCK l) 0).modLn l fun x => { x with stepped := false, ackTx := false, ackRx := false, seen := false, condT := none }

/-- A lane that goes down sends RF with the cause on a link of version 2 whose ends both can, drops the frame in progress, and no
longer holds a frozen equaliser (R142, R144, R149, R153). -/
def State.rfStart (s : State) (l cause : Nat) : State :=
  let rf := s.get (LANE_STAT_VER l) == 2 && s.linkCap l 4
  s.modLn l fun x => { x with
    rfTx := if rf then some cause else x.rfTx.map fun _ => cause, rxf := none, parts := [], hold := 0 }

/-- A lane goes down with a cause (R149): the registers, the report, RED, NOTE and TIME. DEDUCED, log entry 32. -/
def State.laneDown (s : State) (l cause : Nat) : State :=
  let wasPlanned := s.on (LANE_STAT_PLANNED l)
  let s0 := s.rfStart l cause
  let s1 := (((s0.put (LANE_STAT_DOWN_CAUSE l) cause).put (LANE_STAT_UP l) 0).put (LANE_STAT_VER l) 0).put (LANE_STAT_PLANNED l) 0
  let s2 := ((s1.put (LANE_EVT_DOWN l) 1).bump (LANE_DOWNS l)).when (!s.quietDown) fun s => s.fault (laneBlk l) 0x30 cause
  let s3 := (s2.when (cause == 1) fun s => s.put (LANE_TRAIN_FAILED l) 0).detect l
  if l < 2 then
    let s4 := if wasPlanned then s3.planEnd l cause else s3.dirDown l cause s.quietDown
    ((s4.pdDown l).sendNote).conflictCheck
  else s3.pdDown l

/-- A lane goes down to FAULT with a cause. -/
def State.laneFault (s : State) (l cause : Nat) : State := (s.laneDown l cause).setTrain l 8

/-- A rate has failed after a step (R154, R156): under LONG the lane goes to FAULT, otherwise back to DETECT. -/
def State.rateFail (s : State) (l : Nat) : State :=
  let s1 := (s.setBit (LANE_TRAIN_FAILED l) (s.get (LANE_STAT_RATE l))).put (LANE_EVT_RATE_FAIL l) 1
  if s.longRing l then s1.laneFault l 9 else s1.laneDown l 9

/-- Under LONG a lane whose target falls below RATE_MAX fails (R154). What counts as the target is the best rate that both ends
allow, whether or not the step condition of R155 lets the lane take it now. DESIGN CHOICE, log entry 32. -/
def State.longShort (s : State) (l : Nat) : Bool := s.longRing l && decide (s.bestRate l < s.rateMax l)

/-- That failure. -/
def State.longFail (s : State) (l : Nat) : State := (s.put (LANE_EVT_RATE_FAIL l) 1).laneFault l 9

/-- Enters STEP with a target; from UP the lane leaves it as planned (R155, R156). DEDUCED, log entry 32. -/
def State.stepTo (s : State) (l target : Nat) : State :=
  let up := s.trainSt l == 7
  let s1 := (((s.setTrain l 5).put (LANE_TRAIN_TARGET l) target).put (LANE_STAT_PLANNED l) 1).modLn l fun x =>
    { x with ackTx := false, ackRx := false, condT := none }
  if up then
    let s2 := ((((s1.put (LANE_STAT_UP l) 0).put (LANE_STAT_VER l) 0).modLn l fun x => { x with hold := 0, rxf := none }).pdDown l)
    if l < 2 then s2.dirDown l 0 true else s2
  else s1

/-- The equaliser values that the freeze bits hold from now on (R144). -/
def State.freezes (s : State) (l : Nat) : Nat := s.get (LANE_RXEQ_FRZ_CTLE l) + 2 * s.get (LANE_RXEQ_FRZ_DFE l)

/-- The lane reaches UP (R151, R153, R191, R238). Freeze bits that are set hold the equaliser again. DEDUCED, log entry 32. -/
def State.laneToUp (s : State) (l : Nat) : State :=
  let v := min (if s.gh320 then 1 else 2) (s.get (LANE_PEER0_VER l))
  let s1 := (((s.setTrain l 7).put (LANE_STAT_UP l) 1).put (LANE_STAT_VER l) v).put (LANE_STAT_PLANNED l) 0
  let s2 := (s1.put (LANE_EVT_UP l) 1).modLn l fun x => { x with stepped := false, condT := none, rfTx := none, hold := s.freezes l }
  if l < 2 then (s2.dirRight l).sendNote else s2

/-! ### Steps (R155) -/

/-- Whether a MODE byte lets a lane step: RUN, PROOF, ISLAND, or MAINTAIN with BOOTING 0. -/
def modeSteps (m : Nat) : Bool :=
  m % 8 == 2 || m % 8 == 3 || m % 8 == 4 || (m % 8 == 5 && !m.testBit 3)

/-- Whether another ring lane is under way in a step. -/
def State.otherSteps (s : State) (l : Nat) : Bool :=
  [0, 1].any fun k => k != l &&
    (s.trainSt k == 5 || ((s.ln k).stepped && (s.trainSt k == 2 || s.trainSt k == 3 || s.trainSt k == 6)))

/-- The part of the step condition that does not count time. -/
def State.mayStep (s : State) (l : Nat) : Bool :=
  modeSteps (s.modeByte l) && modeSteps (s.get (LANE_PEER1_MODE l)) && !s.otherSteps l

/-- Whether STEP_HOLD has passed since the condition first held. -/
def State.heldLong (s : State) (l : Nat) : Bool :=
  s.get (LANE_CTL_STEP_HOLD l) == 0 ||
    match (s.ln l).condT with | some t => decide (s.get (LANE_CTL_STEP_HOLD l) * 250000 ≤ s.now - t) | none => false

/-- Notes when the condition first holds. -/
def State.noteCond (s : State) (l : Nat) : State :=
  if s.mayStep l then
    (match (s.ln l).condT with | some _ => s | none => s.modLn l fun x => { x with condT := some s.now })
  else s.modLn l fun x => { x with condT := none }

/-! ### HELLO (R151, R153, R154, R157) -/

/-- Whether a peer's ROLE is valid on a lane. -/
def State.rolesOk (s : State) (l role : Nat) : Bool :=
  !role.testBit 2 &&
    (if l < 2 then role % 4 == 1 - l
    else decide (2 ≤ role % 4) && (if l = 2 then bits role 3 2 == s.chip + 1 else bits role 3 2 + 1 == s.chip))

/-- Keeps the fields of a good HELLO, and lets RED look at them (R23, R251, R255). -/
def State.peerStore (s : State) (l ver cap rates role mode node seq uid : Nat) : State :=
  let s1 := (((s.wr (LANE_PEER0 l) (BitVec.ofNat 32 (ver + cap * 2 ^ 8 + rates * 2 ^ 16 + role * 2 ^ 24))).wr (LANE_PEER1 l)
    (BitVec.ofNat 32 (mode + node * 2 ^ 8 + seq * 2 ^ 16))).wr (LANE_PEER2 l) (BitVec.ofNat 32 uid)).put (LANE_PEER3_UID_HI l)
    (uid / 2 ^ 32)
  let s2 := s1.modLn l fun x => { x with seen := true }
  if l < 2 then s2.conflictCheck.pairCheck else s2

/-- The roles are wrong: FAULT with cause ROLE. -/
def State.roleFault (s : State) (l role : Nat) : State :=
  let s1 := (s.laneFault l 0x0A).put (LANE_EVT_ROLE_FAULT l) 1
  if l < 2 then s1.fault (laneBlk l) 0x31 role else s1.fault (laneBlk l) 0x32 (bits role 3 2)

/-- The lane in HELLO settles its target. -/
def State.helloGo (s : State) (l : Nat) : State :=
  let s0 := s.noteCond l
  if s0.longShort l then s0.longFail l
  else
    let t := if s0.mayStep l && s0.heldLong l then s0.bestRate l else s0.get (LANE_STAT_RATE l)
    let s1 := s0.put (LANE_TRAIN_TARGET l) t
    if t = s0.get (LANE_STAT_RATE l) then s1.setTrain l 6 else s1.stepTo l t

/-- A rate in UP that no longer stands is left: by a step to the best one that does (R155), under LONG to FAULT (R154). -/
def State.rateLost (s : State) (l : Nat) : State := if s.longShort l then s.longFail l else s.stepTo l (s.bestRate l)

/-- Whether a lane receives blocks: its blocks are aligned, in ALIGN once LOCK is 1. -/
def State.blocksRx (s : State) (l : Nat) : Bool :=
  let st := s.trainSt l
  s.sys.refclk && !s.inReset (laneBlk l) && !s.laneHost l && (decide (4 ≤ st ∧ st ≤ 7) || (st == 3 && s.on (LANE_ALIGN_LOCK l)))

/-- A good HELLO from the peer, in any state in which the lane receives it; the roles are judged until the lane is UP (R21, R151).
DEDUCED, log entry 32. -/
def State.helloRx (s : State) (l ver cap rates role mode node seq uid : Nat) : State :=
  let st := s.trainSt l
  if !s.blocksRx l then s
  else
    let changed := st == 7 && (s.peerUid l != uid || s.get (LANE_PEER0_ROLE l) % 128 != role % 128)
    let s1 := s.peerStore l ver cap rates role mode node seq uid
    if changed then (s1.put (LANE_EVT_PEER_CHANGED l) 1).laneDown l 6
    else if decide (4 ≤ st ∧ st ≤ 6) && !s1.rolesOk l role then s1.roleFault l role
    else if st = 4 ∧ mode.testBit 7 then s1.helloGo l
    else if st = 7 ∧ !s1.rateKept l then s1.rateLost l
    else if st = 7 then s1.noteCond l
    else s1

/-! ### Applies, resets -/

/-- What an apply does to a lane (R138, R149, R151, R154); `first` is the apply that takes the lanes out of OFF. -/
def State.laneApply (s old : State) (l : Nat) (first : Bool) : State :=
  let chg := s.rd (LANE_CTL l) != old.rd (LANE_CTL l)
  let s0 := s.put (LANE_STAT_HOSTMODE l) (b2n (s.laneHost l && s.laneEn l))
  let st := s0.trainSt l
  if s0.inReset (laneBlk l) then s0
  else
    let s1 := if chg then s0.put (LANE_TRAIN_FAILED l) 0 else s0
    let s2 := if chg && s1.laneUp l then s1.laneDown l 8 else s1
    if !s2.laneEn l || s2.laneHost l then (s2.setTrain l 0).put (LANE_TRAIN_FAILED l) 0
    else if (s2.ln l).raw then s2
    else if st = 0 ∧ (first || chg) ∧ !s2.sys.wakePat.testBit l then (s2.put (LANE_TRAIN_ATTEMPTS l) 0).detect l
    else if st = 8 ∧ chg then s2.detect l
    else s2

/-- The idle request of a UNIT reset: a lane in UP goes down with cause DISABLED (R528). -/
def State.laneIdle (s : State) (l : Nat) : State := if s.laneUp l then s.laneDown l 8 else s

/-- A UNIT reset of a lane block (R528). -/
def State.laneReset (s : State) (l : Nat) : State :=
  let c := s.get (LANE_STAT_DOWN_CAUSE l)
  let s1 := s.each [LANE_STAT l, LANE_RXEQ l, LANE_DFE l, LANE_ALIGN l, LANE_TRAIN l, LANE_PEER0 l, LANE_PEER1 l, LANE_PEER2 l,
    LANE_PEER3 l, LANE_EVT l, LANE_EVT_EN l, LANE_EYE_CTL l, LANE_EYE_STAT l, LANE_PAT_CTL l, LANE_PAT_STAT l, LANE_PAT_USER l,
    LANE_PAT_USER l + 4] fun s o => s.clr o
  let s2 := (s1.put (LANE_STAT_DOWN_CAUSE l) c).modLn l fun _ => LaneSt.init
  if l < 2 then s2.conflictCheck else s2

/-- REFCLK has gone: no lane stays up or trains on (R17). A lane in UP loses its clock recovery, any other begins anew, and a raw
pattern goes on. DESIGN CHOICE, log entry 32. -/
def State.refclkGone (s : State) : State :=
  s.each (List.range 4) fun s l =>
    if s.on (LANE_STAT_HOSTMODE l) then
      (if s.laneUp l then (s.put (LANE_STAT_UP l) 0).put (LANE_EVT_DOWN l) 1 else s).put (LANE_STAT_BLK_LOCK l) 0 |>.put (LANE_STAT_CDR_LOCK l) 0
    else if s.trainSt l = 7 then s.laneDown l 3
    else if 2 ≤ s.trainSt l ∧ s.trainSt l ≤ 6 then
      (let p := s.on (LANE_STAT_PLANNED l)
       let s1 := (s.put (LANE_STAT_PLANNED l) 0).detect l
       if l < 2 ∧ p then s1.planEnd l 3 else s1)
    else s

/-- A lane block is released (R528). -/
def State.laneRelease (s : State) (l : Nat) : State :=
  let s1 := s.put (LANE_STAT_HOSTMODE l) (b2n (s.laneHost l && s.laneEn l))
  if s.laneEn l && !s.laneHost l && s.sys.recordOn then s1.detect l else s1

/-! ### The commands -/

/-- SIGNAL_DETECT (R151): signal detect appears, or disappears. -/
def execSignalDetect (lane : Fin 4) (present : Bool) (s : State) : Out :=
  let l := lane.val
  let s1 := s.put (LANE_STAT_SIGDET l) (b2n present)
  .next (if s.inReset (laneBlk l) then s
  else if present && s.trainSt l == 1 && !(s.ln l).raw && s.sys.refclk then s1.setTrain l 2 else s1)

/-- CDR_LOCK (R144, R151): the CDR has locked and the CTLE converged; the equaliser's values show unless they are held. -/
def execCdrLock (lane : Fin 4) (ctle : BitVec 4) (dfe : BitVec 30) (s : State) : Out :=
  let l := lane.val
  .next (if s.trainSt l = 2 ∧ s.sys.refclk then
    let s1 := s.when (!(s.ln l).hold.testBit 0) fun s => s.put (LANE_RXEQ_CTLE l) ctle.toNat
    let s2 := s1.when (!(s.ln l).hold.testBit 1) fun s => s.wr (LANE_DFE l) (BitVec.ofNat 32 dfe.toNat)
    let s3 := ((s2.clr (LANE_ALIGN l)).put (LANE_STAT_CDR_LOCK l) 1).put (LANE_EVT_ALIGN_REQ l) 1
    (s3.put (LANE_STAT_BLK_LOCK l) 0 |>.setTrain l 3).modLn l fun x => { x with good := 0 }
  else s)

/-- The equaliser goes on adapting while the CDR holds lock, but for the values that are held: the present ones, free values, show
(R144). DESIGN CHOICE, log entry 32. -/
def State.adapt (s : State) (l : Nat) : State :=
  if s.on (LANE_STAT_CDR_LOCK l) then
    (s.when (!(s.ln l).hold.testBit 0) fun s => s.put (LANE_RXEQ_CTLE l) (Config.ctleNow l s.sys.t).toNat).when
      (!(s.ln l).hold.testBit 1) fun s => s.wr (LANE_DFE l) (BitVec.ofNat 32 (Config.dfeNow l s.sys.t).toNat)
  else s

/-- A write of LANE_RXEQ (R144): a freeze bit holds the value of this moment, and its clearing lets it go. -/
def State.rxeqWrite (s : State) (l : Nat) (w : Word) : State :=
  let s1 := s.adapt l
  let s2 := (s1.put (LANE_RXEQ_FRZ_CTLE l) (b2n (w.getLsbD 8))).put (LANE_RXEQ_FRZ_DFE l) (b2n (w.getLsbD 9))
  s2.modLn l fun x => { x with hold := if s.on (LANE_STAT_CDR_LOCK l) then s2.freezes l else 0 }

/-- A write of LANE_ALIGN.SLIP (R146). -/
def State.alignSlip (s : State) (l : Nat) : State :=
  if s.trainSt l = 3 then
    ((((s.put (LANE_ALIGN_POS l) ((s.get (LANE_ALIGN_POS l) + 1) % 66)).put (LANE_ALIGN_WIN_VALID l) 0).put (LANE_ALIGN_LOCK l)
      0).put (LANE_STAT_BLK_LOCK l) 0).modLn l fun x => { x with good := 0 }
  else s

/-- A write of LANE_ALIGN.DONE (R146). -/
def State.alignDone (s : State) (l : Nat) : State :=
  if s.trainSt l = 3 ∧ s.on (LANE_ALIGN_LOCK l) ∧ s.sys.refclk then s.setTrain l (if (s.ln l).stepped then 6 else 4) else s

/-- ALIGN_SLIP (R146). -/
def execAlignSlip (lane : Fin 4) (s : State) : Out := .next (s.cmd (LANE_ALIGN lane.val) fun s => s.alignSlip lane.val)

/-- Sync headers in order of arrival: the run of valid ones at the end, and whether a run of 64 has ended or passed in them. -/
def hdrRun (good : Nat) (hdrs : List Bool) : Nat × Bool :=
  hdrs.foldl (fun (a : Nat × Bool) h =>
    let g := if h then a.1 + 1 else 0
    (g, a.2 || decide (64 ≤ g))) (good, false)

/-- ALIGN_WINDOW (R146): a window of 32 headers. -/
def execAlignWindow (lane : Fin 4) (hdrs : BitVec 32) (s : State) : Out :=
  let l := lane.val
  .next (if s.trainSt l = 3 then
    let hs := (List.range 32).map hdrs.getLsbD
    let r := hdrRun (s.ln l).good hs
    let s1 := ((s.put (LANE_ALIGN_HDR_CNT l) (hs.filter id).length).put (LANE_ALIGN_WIN_VALID l) 1).modLn l fun x =>
      { x with good := min 64 r.1 }
    s1.when r.2 fun s => (s.put (LANE_ALIGN_LOCK l) 1).put (LANE_STAT_BLK_LOCK l) 1
  else s)

/-- ALIGN_DONE (R146). -/
def execAlignDone (lane : Fin 4) (s : State) : Out := .next (s.cmd (LANE_ALIGN lane.val) fun s => s.alignDone lane.val)

/-- ALIGN_TIMEOUT (R147): after a step the rate has failed (R154). -/
def execAlignTimeout (lane : Fin 4) (s : State) : Out :=
  let l := lane.val
  .next (if s.trainSt l = 3 then (if (s.ln l).stepped then s.rateFail l else s.laneDown l 4) else s)

/-- HELLO_TX (R151, R157). -/
def execHelloTx (lane : Fin 4) (s : State) : Out :=
  let l := lane.val
  .next (if s.trainSt l = 0 ∨ s.trainSt l = 8 ∨ s.inReset (laneBlk l) then s else s.trainTx l 1 0)

/-- HELLO (R152). -/
def execHello (lane : Fin 4) (ver cap rates role mode node : BitVec 8) (seq : BitVec 16) (uid : BitVec 48) (s : State) : Out :=
  .next (s.helloRx lane.val ver.toNat cap.toNat rates.toNat role.toNat mode.toNat node.toNat seq.toNat uid.toNat)

/-- RATE_REQ_TX (R155). -/
def execRateReqTx (lane : Fin 4) (s : State) : Out :=
  .next (if s.trainSt lane.val = 5 then s.trainTx lane.val 2 (s.get (LANE_TRAIN_TARGET lane.val)) else s)

/-- A RATE_REQ is answered with RATE_ACK, or with RATE_NAK and a return to HELLO; a hub that has stopped transmitting answers nothing
(R66). -/
def State.rateReqRx (s : State) (l target : Nat) : State :=
  if s.trainSt l = 5 ∧ !s.txQuiet l then
    (if target = s.get (LANE_TRAIN_TARGET l) then (s.trainTx l 3 target).modLn l fun x => { x with ackTx := true }
    else (s.trainTx l 4 target).setTrain l 4)
  else s

/-- A RATE_ACK arrives. -/
def State.rateAckRx (s : State) (l target : Nat) : State :=
  if s.trainSt l = 5 ∧ target = s.get (LANE_TRAIN_TARGET l) then s.modLn l fun x => { x with ackRx := true } else s

/-- A RATE_NAK arrives. -/
def State.rateNakRx (s : State) (l : Nat) : State := if s.trainSt l = 5 then s.setTrain l 4 else s

/-- RATE_REQ (R155). -/
def execRateReq (lane : Fin 4) (target : BitVec 8) (s : State) : Out := .next (s.rateReqRx lane.val target.toNat)

/-- RATE_ACK (R155). -/
def execRateAck (lane : Fin 4) (target : BitVec 8) (s : State) : Out := .next (s.rateAckRx lane.val target.toNat)

/-- RATE_NAK (R155). -/
def execRateNak (lane : Fin 4) (s : State) : Out := .next (s.rateNakRx lane.val)

/-- PLL_RELOCK (R151): with RATE_ACK sent and received, the PLL has locked at the target rate. -/
def execPllRelock (lane : Fin 4) (s : State) : Out :=
  let l := lane.val
  .next (if s.trainSt l = 5 ∧ (s.ln l).ackTx ∧ (s.ln l).ackRx ∧ s.sys.refclk then
    let s1 := (((s.put (LANE_STAT_RATE l) (s.get (LANE_TRAIN_TARGET l))).put (LANE_STAT_CDR_LOCK l) 0).put (LANE_STAT_BLK_LOCK l) 0).put
      (LANE_ALIGN_LOCK l) 0
    (s1.setTrain l 2).modLn l fun x => { x with stepped := true, ackTx := false, ackRx := false }
  else s)

/-- QUALIFY_DONE (R151). -/
def execQualifyDone (lane : Fin 4) (s : State) : Out :=
  .next (if s.trainSt lane.val = 6 ∧ s.sys.refclk then s.laneToUp lane.val else s)

/-- TRAIN_TIMEOUT (R151, R154): the bound of CDR, HELLO or STEP passes; in CDR after a step the rate has failed. -/
def execTrainTimeout (lane : Fin 4) (s : State) : Out :=
  let l := lane.val
  .next (if s.trainSt l = 2 ∨ s.trainSt l = 4 ∨ s.trainSt l = 5 then
    (if s.trainSt l = 2 ∧ (s.ln l).stepped then s.rateFail l else s.laneDown l 5)
  else s)

/-- STEP_CONDITION (R155): a rate that no longer stands is left at once; a higher one is taken when the condition holds. -/
def execStepCondition (lane : Fin 4) (s : State) : Out :=
  let l := lane.val
  let s0 := s.noteCond l
  .next (if s.trainSt l = 7 then
    (if !s0.rateKept l then s0.rateLost l
    else if s0.mayStep l && s0.heldLong l && decide (s0.get (LANE_STAT_RATE l) < s0.bestRate l) then s0.stepTo l (s0.bestRate l)
    else s0)
  else s)

/-- RATE_FAIL_HOLDOFF (R151). -/
def execRateFailHoldoff (lane : Fin 4) (s : State) : Out :=
  .next (if s.trainSt lane.val = 8 ∧ s.get (LANE_STAT_DOWN_CAUSE lane.val) = 9 then s.detect lane.val else s)

/-- LANE_DOWN (R149): LOS, HDR or CDR takes a lane in UP down; the other causes come from their own commands. -/
def execLaneDown (lane : Fin 4) (cause : Fin 3) (s : State) : Out :=
  let l := lane.val
  .next (if s.trainSt l = 7 then
    (s.when (cause.val == 0) fun s => s.put (LANE_STAT_SIGDET l) 0).laneDown l (1 + cause.val)
  else s)

/-- Whether a lane takes RF blocks: it receives blocks, and the link is not known to be one without them (R153). -/
def State.rfMay (s : State) (l : Nat) : Bool :=
  s.blocksRx l && !s.gh320 &&
    (if s.trainSt l = 7 then s.get (LANE_STAT_VER l) == 2 && s.linkCap l 4
    else !(s.ln l).seen || (decide (2 ≤ s.get (LANE_PEER0_VER l)) && s.linkCap l 4))

/-- An RF block arrives (R150): RF_RX and the event when it is the first; the cause it carries stands for PROOF (R500). -/
def State.rfRx (s : State) (l cause : Nat) : State :=
  if s.rfMay l then
    let s1 := s.modLn l fun x => { x with rfCause := cause, rfGap := 0 }
    if s.on (LANE_STAT_RF_RX l) then s1
    else
      let s2 := (s1.put (LANE_STAT_RF_RX l) 1).put (LANE_EVT_RF l) 1
      if l < 2 then s2.dirDown l 0x80 false else s2
  else s

/-- 64 blocks have come without RF (R150). -/
def State.rfEnd (s : State) (l : Nat) : State :=
  if s.on (LANE_STAT_RF_RX l) then
    let s1 := s.put (LANE_STAT_RF_RX l) 0
    if l < 2 then s1.dirRight l else s1
  else s

/-- RF_RX (R150). -/
def execRfRx (lane : Fin 4) (cause : BitVec 8) (s : State) : Out := .next (s.rfRx lane.val cause.toNat)

/-- RF_CLEAR (R150). -/
def execRfClear (lane : Fin 4) (s : State) : Out := .next (s.rfEnd lane.val)

/-- V1_PROBE_SWITCH (R158). -/
def execV1ProbeSwitch (lane : Fin 4) (s : State) : Out :=
  let l := lane.val
  .next (if (s.trainSt l = 1 ∨ s.trainSt l = 2) ∧ s.on (LANE_CTL_V1_PROBE l) ∧ 2 ≤ s.rateMax l ∧ !s.gh320 ∧ !(s.ln l).stepped then
    s.put (LANE_STAT_RATE l) (if s.get (LANE_STAT_RATE l) = 0 then 2 else 0)
  else s)

/-- HOST_LINK_STATE (R159): the link is up when block lock holds and no fault is received; nothing locks without REFCLK (R17). -/
def execHostLinkState (cdr blk fault : Bool) (s : State) : Out :=
  let c := cdr && s.sys.refclk
  let b := blk && c
  let isUp := b && !fault
  .next (if s.on (LANE_STAT_HOSTMODE 3) && !s.inReset (laneBlk 3) then
    let s1 := ((s.put (LANE_STAT_CDR_LOCK 3) (b2n c)).put (LANE_STAT_BLK_LOCK 3) (b2n b)).put (LANE_STAT_UP 3) (b2n isUp)
    if s.laneUp 3 == isUp then s1 else s1.put (if isUp then LANE_EVT_UP 3 else LANE_EVT_DOWN 3) 1
  else s)

/-- A write of LANE_EYE_CTL (R145): no effect while BUSY. -/
def State.eyeWrite (s : State) (l : Nat) (w : Word) : State :=
  if s.on (LANE_EYE_STAT_BUSY l) then s
  else
    let s1 := s.wr (LANE_EYE_CTL l) (w &&& 0x0007FF7F#32)
    if w.toNat.testBit 31 then (s1.put (LANE_EYE_STAT_BUSY l) 1).put (LANE_EYE_STAT_DONE l) 0 else s1

/-- EYE_START (R145). -/
def execEyeStart (lane : Fin 4) (ctl : Word) (s : State) : Out :=
  .next (s.cmd (LANE_EYE_CTL lane.val) fun s => s.eyeWrite lane.val (ctl ||| 0x80000000#32))

/-- EYE_DONE (R145). -/
def execEyeDone (lane : Fin 4) (errs : Word) (s : State) : Out :=
  let l := lane.val
  .next (if s.on (LANE_EYE_STAT_BUSY l) then
    (((s.put (LANE_EYE_STAT_ERRS l) (min errs.toNat (2 ^ 24 - 1))).put (LANE_EYE_STAT_BUSY l) 0).put (LANE_EYE_STAT_DONE l) 1).put
      (LANE_EVT_EYE_DONE l) 1
  else s)

/-- A write of LANE_PAT_CTL (R161). -/
def State.patWrite (s : State) (l : Nat) (w : Word) : State :=
  let old := s.rd (LANE_PAT_CTL l)
  let s1 := s.wr (LANE_PAT_CTL l) (w &&& 0x77#32)
  let reseed := !s1.on (LANE_PAT_CTL_CHK_EN l) || (old &&& 0x74#32) != (w &&& 0x74#32)
  let s2 := (s1.when reseed fun s => s.chkSeed l).when ((old &&& 0x71#32) != (w &&& 0x71#32)) fun s =>
    s.modLn l fun x => { x with gen := none }
  let gen := s2.on (LANE_PAT_CTL_GEN_EN l) && s2.patMay l
  if s2.on (LANE_PAT_CTL_LEVEL l) && gen && !(s2.ln l).raw then
    let rate := if s2.trainSt l = 0 && !s2.laneHost l then s2.rateMax l else s2.get (LANE_STAT_RATE l)
    let s3 := if s2.laneUp l && !s2.laneHost l then s2.laneDown l 7 else s2
    ((s3.setTrain l 0).put (LANE_STAT_RATE l) rate).modLn l fun x => { x with raw := true }
  else if (s2.ln l).raw && !gen && !s2.on (LANE_PAT_CTL_CHK_EN l) then
    let s3 := s2.modLn l fun x => { x with raw := false }
    if s3.laneEn l && !s3.laneHost l && s3.sys.recordOn then s3.detect l else s3
  else s2

/-- A requester's write of LANE_PAT_CTL, which takes the lane out of a running proof step (R497). -/
def State.patReq (s : State) (l : Nat) (w : Word) : State :=
  ({ s with tst := { s.tst with lanes := setBitTo s.tst.lanes l false } } : State).patWrite l w

/-- PAT_CTL_WRITE (R161): `checked` and `errored` are the bits counted up to the write. -/
def execPatCtlWrite (lane : Fin 4) (ctl : Word) (checked errored : BitVec 48) (s : State) : Out :=
  .next (s.cmd (LANE_PAT_CTL lane.val) fun s => (s.patCount lane.val checked.toNat errored.toNat).patReq lane.val ctl)

/-- Whether the checker reads a stream: the deserialised bits at raw level, PAT blocks of a link that carries them at block level
(R153, R161). -/
def State.chkActive (s : State) (l : Nat) : Bool :=
  s.on (LANE_PAT_CTL_CHK_EN l) && s.patMay l && (s.on (LANE_PAT_CTL_LEVEL l) || s.patLink l)

/-- CHK_LOCK (R160). -/
def execChkLock (lane : Fin 4) (s : State) : Out :=
  .next (if s.chkActive lane.val then s.put (LANE_PAT_STAT_CHK_LOCK lane.val) 1 else s)

/-- PAT_LOCK_LOST (R160). -/
def execPatLockLost (lane : Fin 4) (checked errored : BitVec 48) (s : State) : Out :=
  let l := lane.val
  .next (if s.on (LANE_PAT_STAT_CHK_LOCK l) then
    (s.patCount l checked.toNat errored.toNat).chkLost l
  else s)

/-- An invalid sync header arrives (R151, R162); one inside a frame ends the frame, which the lane discards and counts (R142). -/
def State.badHeader (s : State) (l : Nat) : State :=
  let s1 := s.when (s.on (LANE_STAT_CDR_LOCK l)) fun s => s.bump (LANE_HDR_ERRS l)
  let s2 := if (s1.ln l).rxf.isSome then (s1.modLn l fun x => { x with rxf := none }).bump (LANE_BLK_ERRS l) else s1
  if s.trainSt l = 6 then s2.setTrain l 2 else s2

/-- INVALID_SYNC_HEADER (R151, R162). -/
def execInvalidSyncHeader (lane : Fin 4) (s : State) : Out :=
  .next (if s.inReset (laneBlk lane.val) then s else s.badHeader lane.val)

end Sys2Proof.Machine
end

