-- ==== Sys2Proof/Machine/Proof.lean ====
section
/-! DEFINITION. The proof run, boundary scan and the store test (R496 to R506). -/
namespace Sys2Proof.Machine

/-! ### The proof sequence -/

/-- Records the result of a step: 1 PASS, 2 FAIL, 3 SKIPPED. -/
def State.proofRecord (s : State) (k r : Nat) : State :=
  let s1 := s.put (TST_PRES_RES (k - 1)) r
  if r = 2 then s1.fault 0x17 0x78 k else s1

/-- The end of the sequence. -/
def State.proofDone (s : State) : State :=
  let s1 := (s.put TST_PSTAT_STATE 2).put TST_EVT_DONE 1
  if (List.range 6).any fun k => s.get (TST_PRES_RES k) == 2 then s1.put TST_EVT_FAIL 1 else s1

/-- Enters a phase of the running step. -/
def State.proofPhase (s : State) (p : Nat) : State := { s with tst := { s.tst with phase := p } }

/-- The lanes step 1 tests: UP with version 2 and not in host mode. -/
def State.proofLanes (s : State) : List Nat :=
  (List.range 4).filter fun l => s.laneUp l && s.get (LANE_STAT_VER l) == 2 && !s.laneHost l

/-- Starts step 1. -/
def State.lanesStart (s : State) : State :=
  let ls := s.proofLanes
  let s1 := s.each ls fun s l => s.patWrite l (BitVec.ofNat 32 (3 + s.get TST_PCTL_POLY * 16))
  { s1 with tst := { s1.tst with
      lanes := ls.foldl (fun a l => a + 2 ^ l) 0
      errs0 := ls.foldl (fun t l => Tab.set (fun _ => 0) t l (s.cnt (LANE_PAT_ERRS l))) []
      loss0 := ls.foldl (fun t l => Tab.set (fun _ => 0) t l (s.get (LANE_PAT_STAT_LOCK_LOSS l))) [] } }

/-- The result of a lane (R497): 1 PASS, 2 FAIL, 3 NOPAT. -/
def State.laneResult (s : State) (l : Nat) : Nat :=
  let errs := s.cnt (LANE_PAT_ERRS l) - Tab.get (fun _ => 0) s.tst.errs0 l
  if s.get (LANE_PAT_STAT_LOCK_LOSS l) ≠ Tab.get (fun _ => 0) s.tst.loss0 l ∨ errs > s.get TST_PCTL2_ERR_MAX then 2
  else if s.on (LANE_PAT_STAT_CHK_LOCK l) then 1 else 3

/-- Stops the generators and checkers that TST started. -/
def State.lanesStop (s : State) : State :=
  let s1 := s.each (bitList 4 s.tst.lanes) fun s l => s.patWrite l (s.rd (LANE_PAT_CTL l) &&& ~~~ 3#32)
  { s1 with tst := { s1.tst with lanes := 0 } }

/-- Whether a forced wrap may start (R498). -/
def State.mayForce (s : State) : Bool :=
  s.dirState 0 == 0 && s.dirState 1 == 0 && s.reach 0 == 255 && s.reach 1 == 255 && s.rpe.floor == 2

/-- Starts a forced wrap: RF with cause TEST on the lane, and RED declares the direction lost with cause 0x07. -/
def State.forceWrap (s : State) (d : Nat) : State :=
  ({ s with tst := { s.tst with phase := 1, force := some d, lost := 0 } } : State).declareLost d 0x07

/-- Starts the forced wrap of a step that waits for its conditions. -/
def State.forceCheck (s : State) : State :=
  let k := s.get TST_PSTAT_STEP
  if s.get TST_PSTAT_STATE = 1 ∧ (k = 2 ∨ k = 3) ∧ s.tst.phase = 0 ∧ s.mayForce then s.forceWrap (k - 2) else s

/-- Ends the RF of a forced wrap. -/
def State.forceEnd (s : State) : State :=
  match s.tst.force with
  | some d => ({ s with tst := { s.tst with force := none } } : State).dirRight d
  | none => s

/-- The result of a forced-wrap step (R499); a wrap that has not come leaves a difference that wraps round. -/
def State.wrapResult (s : State) (d : Nat) : State × Nat :=
  let dt := (s.rd64 RED_WRAP_T + 2 ^ 64 - s.rd64 RED_LOSS_T) % 2 ^ 64
  let good := decide (dt ≤ 5000) && !s.tst.lost.testBit (1 - d) && s.dirState (1 - d) == 0 && s.dirState d == 0
  (s.put (if d = 0 then TST_PWRAP_CW else TST_PWRAP_CCW) (min 65535 dt), if good then 1 else 2)

/-- The yield of step 4 (R501). -/
def State.handYield (s : State) : State :=
  let s1 : State := { s with
    red := { s.red with revertReq := false }
    tst := { s.tst with phase := 2, yieldT := s.sys.t } }
  s1.yieldAnchor false

/-- Starts step 4 on LEAD: SECOND is asked for the anchor if it holds it. -/
def State.handStart (s : State) : State :=
  let s1 := if s.on RED_TWIN_CTL_DEFER_PROOF then s.put RED_TWIN_LEFT_DUE 0 else s
  if s1.get RED_TWIN_STAT_STATE = 2 then s1.handYield
  else { s1 with red := { s1.red with revertReq := true }, tst := { s1.tst with phase := 1 } }

/-- The channels step 5 admits (R502). -/
def State.sweepAdmits (s : State) (n : Nat) : Bool :=
  let st := s.get (LSV_LS_RES_STATUS n)
  s.on (LSV_LS_CTL_EN n) && st != 13 && st != 7 && !(s.on (LSV_LS_CTL_ANCH n) && s.get RED_TWIN_STAT_STATE != 2)

/-- Starts step 5. -/
def State.sweepsStart (s : State) : State :=
  let ns := (List.range 8).filter s.sweepAdmits
  let s1 := s.each ns State.lsSweepStart
  { s1 with tst := { s1.tst with swept := ns.foldl (fun a n => a + 2 ^ n) 0 } }

/-- Whether a swept channel misses a point at or below 0.47 x FS (R502). -/
def State.sweepBad (s : State) (n : Nat) : Bool :=
  (List.range (s.get LSV_SWP_NPTS + 1)).any fun p =>
    !tooHigh (s.sweepFreq p) (s.lsFs n) && !s.getBit (LSV_SWP_STAT_VALID n) p

/-- Whether an input fails step 6 (R502). -/
def State.contactBad (s : State) (n : Nat) : Bool :=
  let (t1, t2, t3, t4) := s.sciTh n
  let r := s.get (LSV_SCI_R_OHMS n)
  let st := s.get (LSV_SCI_STAT_STATE n)
  let bounds := match st with | 0 => [t1] | 1 => [t1, t2] | 2 => [t3, t4] | 3 => [t4] | _ => []
  let near (t : Nat) : Bool := decide (100 * (r - t) ≤ s.get TST_PCTL_MARGIN * t ∧ 100 * (t - r) ≤ s.get TST_PCTL_MARGIN * t)
  st == 4 || s.on (LSV_SCI_STAT_INIT n) || s.on (LSV_SCI_STAT_STALE n) || bounds.any near

/-- Starts a step; `some r` where it ends at once with a result. -/
def State.proofBegin (s : State) (k : Nat) : State × Option Nat :=
  let s0 := ((s.put TST_PSTAT_STEP k).proofPhase 0)
  match k with
  | 1 => (s0.lanesStart, none)
  | 2 | 3 => (s0.forceCheck, none)
  | 4 =>
    if s.on RED_TWIN_CTL_TWIN && s.on ID_STRAP_TWIN_PREF && s.on RED_TWIN_STAT_PARTNER_BEAT then (s0.handStart, none)
    else (s0, some 3)
  | 5 => (s0.sweepsStart, none)
  | _ => (s0, none)

/-- Runs the steps whose bits are set, from step `k` on, until one takes time. -/
def State.proofFrom (s : State) (k : Nat) : Nat → State
  | 0 => s.proofDone
  | n + 1 =>
    if s.getBit TST_PCTL_STEPS (k - 1) then
      let r := s.proofBegin k
      match r.2 with
      | none => r.1
      | some v => (r.1.proofRecord k v).proofFrom (k + 1) n
    else s.proofFrom (k + 1) n

/-- No cause of R76 stands. -/
def State.proofClear (s : State) : State := { s with tst := { s.tst with abort := 0 } }

/-- The entry to PROOF (R496). -/
def State.proofStart (s : State) : State :=
  let s1 := s.wr64 TST_PT0 s.now
  let s2 := (s1.each [TST_PRES, TST_PLANE, TST_PWRAP, TST_PTWIN, TST_PFAIL] State.clr).proofClear
  (s2.put TST_PSTAT_STATE 1).proofFrom 1 6

/-- Ends a step with a result and goes on. -/
def State.proofNext (s : State) (k r : Nat) : State := (s.proofRecord k r).proofFrom (k + 1) (6 - k)

/-- The end of step 1 (R497). -/
def State.lanesEnd (s : State) : State :=
  let ls := bitList 4 s.tst.lanes
  let s1 := s.each ls fun t l => t.put (TST_PLANE_RES l) (s.laneResult l)
  s1.lanesStop.proofNext 1 (if ls.any fun l => s.laneResult l == 2 then 2 else 1)

/-- The end of the present phase of step 4 (R501): a phase that waits for the anchor goes on with it. -/
def State.handEnd (s : State) : State :=
  let st := s.get RED_TWIN_STAT_STATE
  match s.tst.phase with
  | 1 => if st = 2 then s.handYield else s
  | 2 =>
    if s.on RED_TWIN_STAT_ANCHOR_IN then (s.put TST_PTWIN_OUT (min 65535 (s.tst.riseT - s.tst.yieldT))).proofPhase 3
    else s.proofNext 4 2
  | 3 => { s with
      red := { s.red with revertReq := true }
      tst := { s.tst with phase := 4, pulseT := none } }
  | _ =>
    if st = 2 then
      (s.put TST_PTWIN_BACK (min 65535 (s.tst.holdT - s.tst.pulseT.getD s.tst.holdT))).proofNext 4 1
    else ({ s with red := { s.red with revertReq := false } } : State).proofNext 4 2

/-- PROOF_STEP_END (R496): the time of the running step's present phase has passed, or what it waited for has come. `counts`
gives, for each lane, the bits its checker has counted since they were last read. -/
def execProofStepEnd (counts : List (BitVec 48 × BitVec 48)) (s : State) : Out :=
  if s.inReset 0x17 then .next s else
  let k := s.get TST_PSTAT_STEP
  .next (if s.get TST_PSTAT_STATE ≠ 1 then s
    else match k with
    | 1 =>
      (s.each (bitList 4 s.tst.lanes) fun s l =>
        s.patCount l (counts.getD l (0, 0)).1.toNat (counts.getD l (0, 0)).2.toNat).lanesEnd
    | 2 | 3 =>
      match s.tst.phase with
      | 0 => if s.mayForce then s.forceWrap (k - 2) else s.proofNext k 3
      | 1 => s.forceEnd.proofPhase 2
      | _ => let r := s.wrapResult (k - 2); r.1.proofNext k r.2
    | 4 => s.handEnd
    | 5 =>
      let ns := bitList 8 s.tst.swept
      if ns.any fun n => (s.lsCh n).sweep.isSome then s
      else
        let bad := ns.filter s.sweepBad
        (s.put TST_PFAIL_LINE (bad.foldl (fun a n => a + 2 ^ n) 0)).proofNext 5 (if bad.isEmpty then 1 else 2)
    | _ =>
      let bad := (List.range 8).filter fun n => s.on (LSV_SCI_CFG_EN n) && s.contactBad n
      (s.put TST_PFAIL_SCI (bad.foldl (fun a n => a + 2 ^ n) 0)).proofNext 6 (if bad.isEmpty then 1 else 2))

/-- The requests of a handover end with the run; what has been yielded is claimed under the anchor's own rules (R503). -/
def State.handStop (s : State) : State :=
  if s.get TST_PSTAT_STEP = 4 then { s with red := { s.red with revertReq := false } } else s

/-- The abort of a proof run (R503). -/
def State.proofAbort (s : State) : State :=
  if s.get TST_PSTAT_STATE = 1 then
    ((s.lanesStop.forceEnd.handStop.proofClear).put TST_PSTAT_STATE 3).put TST_EVT_ABORT 1
  else s

/-- A UNIT reset of TST (R506): PCTL and PCTL2 stay, and a run that it aborts shows ABORTED, the step reached and EVT.ABORT. -/
def State.tstReset (s : State) : State :=
  let run := s.get TST_PSTAT_STATE == 1
  let s1 := s.proofAbort
  let s2 : State := { s1 with regs := s1.regs.filter fun e => blkOf e.1 != 0x17 || e.1 == TST_PCTL || e.1 == TST_PCTL2 }
  if run then ((s2.put TST_PSTAT_STATE 3).put TST_PSTAT_STEP (s.get TST_PSTAT_STEP)).put TST_EVT_ABORT 1 else s2

/-! ### The store test (R505) -/

/-- A write of TST_FTCTL.MBIST in FACTORY TEST. -/
def State.mbistStart (s : State) : State :=
  if s.idling 0x17 then s else
  let s1 := ((s.put TST_FTCTL_MBIST_DONE 0).put TST_FTCTL_MBIST_FAIL 0).put MSA_STAT_INIT_DONE 0
  { s1 with tst := { s1.tst with mbist := true } }

/-- MBIST (R505): refused with ACCESS outside FACTORY TEST. -/
def execMbist (who : Who) (s : State) : Out :=
  .next (s.ackCmd TST_FTCTL (whoKey who) fun s => if s.on MPC_MODE_FTEST then (s.mbistStart, 0) else (s, 0x05))

/-- MBIST_DONE (R505): the store is zeroed with valid check bits (R42). -/
def execMbistDone (faulty : Bool) (s : State) : Out :=
  if s.dark then .next s else
  .next (if s.tst.mbist then
    let s1 := ((s.zeroBanks 0xFFFF).put MSA_STAT_INIT_DONE 1).put TST_FTCTL_MBIST_DONE 1
    let s2 := if faulty then s1.put TST_FTCTL_MBIST_FAIL 1 else s1
    ({ s2 with tst := { s2.tst with mbist := false } } : State).serve
  else s)

/-! ### JTAG (R504) -/

/-- Loads a JTAG instruction. PRESUMED, log entry 50. -/
def State.jtag (s : State) (ir : Nat) : State := { s with tst := { s.tst with ir := ir } }

/-- Writes boundary cells: each a number, a level and an output enable. PRESUMED, log entry 50. -/
def State.cellsPut (s : State) (l : List (Fin 96 × Bool × Bool)) : State :=
  { s with tst := { s.tst with cells := l.foldl (fun t c => Tab.set (fun _ => (false, false)) t c.1.val c.2) s.tst.cells } }

/-- Whether EXTEST or CLAMP drives the balls. -/
def State.scanDrives (s : State) : Bool := s.tst.ir == 3 || s.tst.ir == 5

/-- The level on PIO ball `pin`, its boundary cell having the pin's number: from the cell under EXTEST and CLAMP, where an
anchored pin is not enabled outside FACTORY TEST; none under HIGHZ; otherwise the pad's own.
PRESUMED, log entry 50. -/
def State.pioBall (s : State) (pin : Nat) : Option Bool :=
  if s.tst.ir = 4 then none
  else if s.scanDrives then
    let c := Tab.get (fun _ => (false, false)) s.tst.cells pin
    if c.2 && (s.on MPC_MODE_FTEST || !s.anchored pin) then some c.1 else none
  else s.pad pin

/-- The level the hub drives on ANCHOR_OUT; its boundary cell is number 64. PRESUMED, log entry 50. -/
def State.anchorBall (s : State) : Option Bool :=
  if s.tst.ir = 4 then none
  else if s.scanDrives then
    if !s.on MPC_MODE_FTEST then some false
    else
      let c := Tab.get (fun _ => (false, false)) s.tst.cells 64
      if c.2 then some c.1 else none
  else some (s.on RED_TWIN_STAT_ANCHOR_OUT)

/-- BYPASS (R504). -/
def execBypass (s : State) : Out := .next (s.jtag 0)

/-- IDCODE (R504): TDO gives TST_IDCODE. -/
def execIdcode (s : State) : Out := .next { s.jtag 1 with tst := { (s.jtag 1).tst with tdo := s.rd TST_IDCODE } }

/-- SAMPLE/PRELOAD (R504): the cells take what is shifted in. -/
def execSamplePreload (cells : List (Fin 96 × Bool × Bool)) (s : State) : Out := .next ((s.jtag 2).cellsPut cells)

/-- EXTEST (R504): the cells drive the balls. -/
def execExtest (cells : List (Fin 96 × Bool × Bool)) (s : State) : Out := .next ((s.jtag 3).cellsPut cells)

/-- HIGHZ (R504). -/
def execHighz (s : State) : Out := .next (s.jtag 4)

/-- CLAMP (R504): the cells as they stand drive the balls. -/
def execClamp (s : State) : Out := .next (s.jtag 5)

/-- JTAG_PRIVATE (R504): outside FACTORY TEST it loads BYPASS. -/
def execJtagPrivate (code : BitVec 8) (s : State) : Out :=
  .next (if s.on MPC_MODE_FTEST then
    { s.jtag 6 with tst := { (s.jtag 6).tst with priv := code.toNat } } else s.jtag 0)

end Sys2Proof.Machine
end

