-- ==== Sys2Proof/Machine/Update.lean ====
section
/-! DEFINITION. Firmware update: the flash and its directory, the image check, the commands of UPD and the OTP store (R481 to
R495). -/
namespace Sys2Proof.Machine

/-! ### Flash and directory (R481, R482) -/

/-- What an unlisted flash byte reads as. DESIGN CHOICE, log entry 4. -/
def flashDefault (_ : Nat) : Byte := 0xFF#8

/-- Bytes of the flash. -/
def State.flashBytes (s : State) (a n : Nat) : List Byte := Tab.getList flashDefault s.upd.flash a n

/-- A little-endian number of the flash. -/
def State.flashNum (s : State) (a n : Nat) : Nat := ofLeBytes (s.flashBytes a n)

/-- Writes flash bytes as they are to read. -/
def State.flashPut (s : State) (a : Nat) (bs : List Byte) : State :=
  { s with upd := { s.upd with flash := Tab.setList flashDefault s.upd.flash a bs } }

/-- Leaves the bytes of a cut or failed write at free values. DESIGN CHOICE, log entry 3. -/
def State.flashTear (s : State) (as : List Nat) : State :=
  let s1 := s.each as fun s a => s.flashPut a [Config.flashTorn a s.upd.draws]
  { s1 with upd := { s1.upd with draws := s1.upd.draws + 1 } }

/-- The base of a slot. -/
def slotBase (slot : Nat) : Nat := if slot = 0 then 0x100000 else 0x700000

/-- CRC-32C of bytes. PRESUMED, log entry 13. -/
def crcOfBytes (bs : List Byte) : Nat := (bs.foldl (fun c b => crcByte c b.toNat) 0xFFFFFFFF) ^^^ 0xFFFFFFFF

/-- A directory copy: SEQ, ACTIVE, STATE, CAND. -/
structure Dir where
  seq    : Nat
  active : Nat
  state  : Nat
  cand   : Nat
deriving DecidableEq, Repr

/-- The 64 bytes of a directory copy. -/
def Dir.bytes (d : Dir) : List Byte :=
  let body := leBytes 4 0x44495247 ++ leBytes 4 d.seq ++ leBytes 1 d.active ++ leBytes 1 d.state ++ leBytes 1 d.cand
    ++ List.replicate 49 0#8
  body ++ leBytes 4 (crcOfBytes body)

/-- A copy, if it is valid. -/
def State.dirCopy (s : State) (k : Nat) : Option Dir :=
  let a := 0x1000 * k
  let d : Dir := ⟨s.flashNum (a + 4) 4, s.flashNum (a + 8) 1, s.flashNum (a + 9) 1, s.flashNum (a + 10) 1⟩
  if s.flashNum a 4 = 0x44495247 ∧ s.flashNum (a + 0x3C) 4 = crcOfBytes (s.flashBytes a 0x3C)
      ∧ d.active ≤ 1 ∧ d.state ≤ 1 ∧ d.cand ≤ 1 then some d
  else none

/-- The chosen copy with its number. -/
def State.dirChosen (s : State) : Option (Nat × Dir) :=
  match s.dirCopy 0, s.dirCopy 1 with
  | some a, some b =>
    let n := (b.seq + 2 ^ 32 - a.seq) % 2 ^ 32
    if 1 ≤ n ∧ n < 2 ^ 31 then some (1, b) else some (0, a)
  | some a, none => some (0, a)
  | none, some b => some (1, b)
  | none, none => none

/-- Whether the directory is ARMED for a slot. -/
def State.armedFor (s : State) (slot : Nat) : Bool :=
  match s.dirChosen with | some (_, d) => d.state == 1 && d.cand == slot | none => false

/-- The directory that a write starts from: the chosen copy, or with none valid the slot running and a SEQ before 0. -/
def State.dirBase (s : State) : Nat × Dir :=
  match s.dirChosen with | some x => x | none => (1, ⟨2 ^ 32 - 1, s.get UPD_STAT_ACTIVE, 0, 0⟩)

/-- The bytes a directory write touches: its sector. -/
def dirArea (k : Nat) : List Nat := (List.range 64).map (0x1000 * k + ·)

/-- Writes the directory to the copy that was not chosen, with the next SEQ; the rest of its sector is erased. -/
def State.dirWrite (s : State) (f : Dir → Dir) : State :=
  let b := s.dirBase
  let k := 1 - b.1
  let s1 : State := { s with upd := { s.upd with
      flash := s.upd.flash.filter fun e => !decide (0x1000 * k ≤ e.1 ∧ e.1 < 0x1000 * (k + 1)) } }
  s1.flashPut (0x1000 * k) ({ f b.2 with seq := (b.2.seq + 1) % 2 ^ 32 } : Dir).bytes

/-! ### The image check (R483, R484) -/

/-- A field of a slot's image header. -/
def State.hdr (s : State) (slot off n : Nat) : Nat := s.flashNum (slotBase slot + off) n

/-- The digest the image is signed by. -/
def State.imageDigest (s : State) (slot : Nat) : BitVec 256 :=
  let b := slotBase slot
  Config.sha256 (s.flashBytes b 0xA0 ++ s.flashBytes (b + 0x10000) (s.hdr slot 0x18 4)
    ++ s.flashBytes (b + 0x190000) (s.hdr slot 0x1C 4))

/-- The hash in an OTP key slot. -/
def State.keyHash (s : State) (k : Nat) : Nat :=
  (List.range 8).foldl (fun a i => a + (s.rd (UPD_KHASH k i)).toNat * 2 ^ (32 * i)) 0

/-- The unit ID of OTP. -/
def State.otpUid (s : State) : Nat := (List.range 4).foldl (fun a i => a + (s.rd (UPD_UID i)).toNat * 2 ^ (32 * i)) 0

/-- Whether the island area of a slot has its hash. -/
def State.islandGood (s : State) (slot : Nat) : Bool :=
  (Config.sha256 (s.flashBytes (slotBase slot + 0x290000) (min 0x200000 (s.hdr slot 0x20 4)))).toNat == s.hdr slot 0x40 32

/-- The refusal code of the image check of a slot, 0 when it passes; `isl` adds the ISL_HASH test.
DEDUCED, log entry 41. -/
def State.imageCheck (s : State) (slot : Nat) (isl : Bool) : Nat :=
  let h := s.hdr slot
  let k := h 0x0C 1
  let st := if k ≤ 3 then s.get (UPD_OTP_STAT_KEY k) else 0
  if h 0 4 ≠ 0x4748494D then 0x01
  else if h 4 2 ≠ 0x0640 then 0x02
  else if h 6 2 ≠ 1 ∨ h 8 4 ≥ 2 ∨ h 0x0D 3 ≠ 0 ∨ h 0x24 12 ≠ 0 then 0x03
  else if h 0x18 4 < 8 ∨ h 0x18 4 > 1572864 ∨ h 0x18 4 % 8 ≠ 0 ∨ h 0x1C 4 < 72 ∨ h 0x1C 4 > 1048576
      ∨ h 0x20 4 > 2097152 then 0x04
  else if st = 0 then 0x05
  else if st = 2 then 0x06
  else if (Config.sha256 (s.flashBytes (slotBase slot + 0x60) 64)).toNat ≠ s.keyHash k then 0x07
  else if h 8 4 % 2 = 1 ∧ h 0x30 16 ≠ s.otpUid then 0x08
  else if !Config.ecdsaOk (s.imageDigest slot) (s.flashBytes (slotBase slot + 0x60) 64) (s.flashBytes (slotBase slot + 0xA0) 64)
    then 0x09
  else if isl && !s.islandGood slot then 0x0A
  else 0

/-! ### Commands (R486 to R489) -/

/-- Whether a slot is inactive; in recovery both are. -/
def State.slotIdle (s : State) (slot : Nat) : Bool := s.on UPD_STAT_RECOVERY || slot != s.get UPD_STAT_ACTIVE

/-- The slot and the offset in it of a flash address. -/
def flashSlot (a : Nat) : Option (Nat × Nat) :=
  if 0x100000 ≤ a ∧ a < 0x700000 then some (0, a - 0x100000)
  else if 0x700000 ≤ a ∧ a < 0xD00000 then some (1, a - 0x700000)
  else none

/-- The refusal of an ERASE (op 1), PROGRAM (2) or READ (3) at an address, 0 when it is permitted (R489). -/
def State.flashRefusal (s : State) (op a : Nat) : Nat :=
  if a % (if op = 1 then 0x10000 else 256) ≠ 0 then 0x11
  else match flashSlot a with
    | none => if op = 3 ∧ a < 0x2000 then 0 else 0x11
    | some (slot, off) =>
      if op = 3 then 0
      else if s.slotIdle slot then (if s.armedFor slot then 0x13 else 0)
      else if op = 2 ∧ 0x490000 ≤ off ∧ off < 0x590000 then 0 else 0x11

/-- A slot's VERIFIED, and what STAT shows of the inactive slot. -/
def State.setVer (s : State) (slot : Nat) (v : Bool) : State :=
  let m := setBitTo s.upd.ver slot v
  let show_ := if s.on UPD_STAT_RECOVERY then m != 0 else m.testBit (1 - s.get UPD_STAT_ACTIVE)
  ({ s with upd := { s.upd with ver := m } } : State).put UPD_STAT_VERIFIED (b2n show_)

/-- A command begins: one while BUSY has no effect but REJ (R487); the unlock word holds for the next write only (R486).
DEDUCED, log entry 41. -/
def State.updStart (s : State) (f : State → State) : State :=
  let s1 : State := { s with upd := { s.upd with key := false } }
  if s.idling 0x16 then s1 else if s.on UPD_STAT_BUSY then s1.put UPD_STAT_REJ 1 else f s1

/-- A command is under way. -/
def State.updBusy (s : State) (op code addr : Nat) (area : List Nat) : State :=
  ({ s with upd := { s.upd with run := some ⟨op, code, addr, area, s.sys.t⟩ } } : State).put UPD_STAT_BUSY 1

/-- A command writes flash: done as its rule says, or with the outcome FLASH and free bytes (R489). -/
def State.updWrite (s : State) (op addr : Nat) (area : List Nat) (good : Bool) (f : State → State) : State :=
  if good then (f s).updBusy op 0 addr area else (s.flashTear area).updBusy op 0x14 addr area

/-- The sixty-four words of UPD_BUF as bytes. -/
def State.updBuf (s : State) : List Byte := (List.range 64).flatMap fun j => leBytes 4 (s.rd (UPD_BUF j)).toNat

/-- The address UPD_FADDR holds. -/
def State.faddr (s : State) : Nat := s.get UPD_FADDR_ADDR

/-- Erases the sector at FADDR; the slot loses VERIFIED. -/
def State.updErase (s : State) (good : Bool) : State :=
  let a := s.faddr
  let c := s.flashRefusal 1 a
  if c ≠ 0 then s.updBusy 1 c a []
  else
    let s1 := match flashSlot a with | some (slot, _) => s.setVer slot false | none => s
    s1.updWrite 1 a ((List.range 0x10000).map (a + ·)) good fun s =>
      { s with upd := { s.upd with flash := s.upd.flash.filter fun e => !decide (a ≤ e.1 ∧ e.1 < a + 0x10000) } }

/-- Writes UPD_BUF at FADDR: a NOR flash clears bits, so a page that was not erased reads back differently. -/
def State.updProgram (s : State) (good : Bool) : State :=
  let a := s.faddr
  let c := s.flashRefusal 2 a
  if c ≠ 0 then s.updBusy 2 c a []
  else
    let s1 := match flashSlot a with | some (slot, _) => s.setVer slot false | none => s
    let now := List.zipWith (fun (x y : Byte) => x &&& y) (s1.flashBytes a 256) s1.updBuf
    if good && now != s1.updBuf then (s1.flashPut a now).updBusy 2 0x14 a ((List.range 256).map (a + ·))
    else s1.updWrite 2 a ((List.range 256).map (a + ·)) good fun s => s.flashPut a now

/-- Reads 256 B at FADDR into UPD_BUF. -/
def State.updRead (s : State) : State :=
  let a := s.faddr
  let c := s.flashRefusal 3 a
  if c ≠ 0 then s.updBusy 3 c a []
  else (s.each (List.range 64) fun s j => s.wr (UPD_BUF j) (BitVec.ofNat 32 (s.flashNum (a + 4 * j) 4))).updBusy 3 0 a []

/-- Runs the image check of a slot. -/
def State.updVerify (s : State) (slot : Nat) : State :=
  let c := s.imageCheck slot true
  (if c = 0 then s.setVer slot true else s).updBusy 4 c 0 []

/-- Writes the directory as part of a command. -/
def State.updDir (s : State) (op : Nat) (good : Bool) (f : Dir → Dir) : State :=
  let k := 1 - s.dirBase.1
  s.updWrite op (0x1000 * k) (dirArea k) good fun s => s.dirWrite f

/-- Arms a slot. -/
def State.updArm (s : State) (slot : Nat) (good : Bool) : State :=
  if !s.upd.ver.testBit slot then s.updBusy 5 0x12 0 []
  else s.updDir 5 good fun d => { d with state := 1, cand := slot }

/-- Disarms. -/
def State.updDisarm (s : State) (good : Bool) : State := s.updDir 6 good fun d => { d with state := 0 }

/-- The activation of R491: UPD_BOOT is GO for the slot, and MPC gets its cause. DEDUCED, log entry 41. -/
def State.activate (s : State) (slot : Nat) : State :=
  let s1 := (s.put UPD_BOOT_STATE 1).put UPD_BOOT_SLOT slot
  { s1 with upd := { s1.upd with act := true } }

/-- Arms if needed (R491); the activation follows at the end of the command. -/
def State.updActivate (s : State) (slot : Nat) (good : Bool) : State :=
  if !s.upd.ver.testBit slot then s.updBusy 7 0x12 0 []
  else if s.armedFor slot then s.updBusy 7 0 0 []
  else s.updDir 7 good (fun d => { d with state := 1, cand := slot })

/-- Makes the trial slot active in the directory (R492); the timer stands while the command runs. -/
def State.updConfirm (s : State) (good : Bool) : State :=
  if !s.on UPD_STAT_TRIAL then s.updBusy 8 0x15 0 []
  else
    let cand := match s.dirChosen with | some (_, d) => d.cand | none => s.get UPD_BOOT_SLOT
    s.updDir 8 good fun d => { d with active := cand, state := 0 }

/-- Computes the device tag over the main store (R135). -/
def State.updMac (s : State) : State :=
  let n := s.get UPD_MLEN_BYTES
  let a := s.get UPD_MSRC_ADDR
  if n < 8 ∨ n > 1048576 ∨ a % 8 ≠ 0 ∨ a < storeBase ∨ a + n > storeBase + storeSize then s.updBusy 9 0x11 0 []
  else
    let tag := (Config.deviceTag (Tab.getList memDefault s.mem (a - storeBase) n)).toNat
    (s.each (List.range 8) fun s i => s.wr (UPD_TAG i) (BitVec.ofNat 32 (tag / 2 ^ (32 * i)))).updBusy 9 0 0 []

/-- Programs a key slot (R486). -/
def State.updOtpProg (s : State) (k : Nat) (unlocked : Bool) : State :=
  if s.get MPC_MODE_CUR ≠ 5 ∨ !unlocked then s.updBusy 10 0x10 0 []
  else if s.get (UPD_OTP_STAT_KEY k) ≠ 0 then s.updBusy 10 0x11 0 []
  else ((s.each (List.range 8) fun s i => s.copy (UPD_HASH i) (UPD_KHASH k i)).put (UPD_OTP_STAT_KEY k) 1).updBusy 10 0 0 []

/-- Revokes a key slot (R486). -/
def State.updOtpRevoke (s : State) (k : Nat) (unlocked : Bool) : State :=
  if s.get MPC_MODE_CUR ≠ 5 ∨ !unlocked then s.updBusy 11 0x10 0 []
  else if !s.on UPD_STAT_RECOVERY && s.hdr (s.get UPD_STAT_ACTIVE) 0x0C 1 == k then s.updBusy 11 0x18 0 []
  else (s.put (UPD_OTP_STAT_KEY k) 2).updBusy 11 0 0 []

/-- Checks the island area of the running slot (R485). -/
def State.updCheckIsl (s : State) : State :=
  let good := s.islandGood (s.get UPD_STAT_ACTIVE)
  (s.put UPD_STAT_ISL_OK (b2n good)).updBusy 12 (if good then 0 else 0x0A) 0 []

/-- Writes both directory copies in recovery. -/
def State.updDirInit (s : State) (slot : Nat) (good : Bool) : State :=
  if !s.on UPD_STAT_RECOVERY then s.updBusy 13 0x17 0 []
  else
    let seq := match s.dirChosen with | some (_, d) => (d.seq + 1) % 2 ^ 32 | none => Config.dirSeq.toNat
    let d : Dir := ⟨seq, slot, 0, Config.dirCand.val⟩
    s.updWrite 13 0 (dirArea 0 ++ dirArea 1) good fun s =>
      (({ s with upd := { s.upd with flash := s.upd.flash.filter fun e => !decide (e.1 < 0x2000) } } : State).flashPut 0
        d.bytes).flashPut 0x1000 d.bytes

/-- A write of UPD_CMD (R487); `good` says whether the flash finishes in time and reads back right. -/
def State.updCmd (s : State) (op slot kslot : Nat) (good : Bool) : State :=
  let unlocked := s.upd.key
  s.updStart fun s =>
    match op with
    | 1 => s.updErase good
    | 2 => s.updProgram good
    | 3 => s.updRead
    | 4 => s.updVerify slot
    | 5 => s.updArm slot good
    | 6 => s.updDisarm good
    | 7 => s.updActivate slot good
    | 8 => s.updConfirm good
    | 9 => s.updMac
    | 10 => s.updOtpProg kslot unlocked
    | 11 => s.updOtpRevoke kslot unlocked
    | 12 => s.updCheckIsl
    | 13 => s.updDirInit slot good
    | _ => s

/-- ERASE (R487, R489). -/
def execErase (good : Bool) (s : State) : Out := .next (s.cmd UPD_CMD fun s => s.updStart fun s => s.updErase good)

/-- PROGRAM (R487, R489). -/
def execProgram (good : Bool) (s : State) : Out := .next (s.cmd UPD_CMD fun s => s.updStart fun s => s.updProgram good)

/-- READ (R487, R489). -/
def execUpdRead (s : State) : Out := .next (s.cmd UPD_CMD fun s => s.updStart State.updRead)

/-- VERIFY (R484). -/
def execVerify (slot : Fin 2) (s : State) : Out := .next (s.cmd UPD_CMD fun s => s.updStart fun s => s.updVerify slot.val)

/-- ARM (R487). -/
def execUpdArm (slot : Fin 2) (good : Bool) (s : State) : Out :=
  .next (s.cmd UPD_CMD fun s => s.updStart fun s => s.updArm slot.val good)

/-- DISARM (R487). -/
def execUpdDisarm (good : Bool) (s : State) : Out := .next (s.cmd UPD_CMD fun s => s.updStart fun s => s.updDisarm good)

/-- ACTIVATE (R491). -/
def execActivate (slot : Fin 2) (good : Bool) (s : State) : Out :=
  .next (s.cmd UPD_CMD fun s => s.updStart fun s => s.updActivate slot.val good)

/-- CONFIRM (R492). -/
def execConfirm (good : Bool) (s : State) : Out := .next (s.cmd UPD_CMD fun s => s.updStart fun s => s.updConfirm good)

/-- MAC (R135, R487). -/
def execUpdMac (s : State) : Out := .next (s.cmd UPD_CMD fun s => s.updStart State.updMac)

/-- OTP_PROG (R486). -/
def execOtpProg (k : Fin 4) (s : State) : Out :=
  .next (s.cmd UPD_CMD fun s => let unlocked := s.upd.key; s.updStart fun s => s.updOtpProg k.val unlocked)

/-- OTP_REVOKE (R486). -/
def execOtpRevoke (k : Fin 4) (s : State) : Out :=
  .next (s.cmd UPD_CMD fun s => let unlocked := s.upd.key; s.updStart fun s => s.updOtpRevoke k.val unlocked)

/-- CHECK_ISL (R485). -/
def execCheckIsl (s : State) : Out := .next (s.cmd UPD_CMD fun s => s.updStart State.updCheckIsl)

/-- DIR_INIT (R487). -/
def execDirInit (slot : Fin 2) (good : Bool) (s : State) : Out :=
  .next (s.cmd UPD_CMD fun s => s.updStart fun s => s.updDirInit slot.val good)

/-- The unlock word (R486). -/
def State.otpKey (s : State) (v : Word) : State := { s with upd := { s.upd with key := v == 0x7E1A#32 } }

/-- OTP_KEY_WRITE (R486). -/
def execOtpKeyWrite (value : Word) (s : State) : Out := .next (s.cmd UPD_OTP_KEY fun s => s.otpKey value)

/-- What follows the directory write of an ACTIVATE (R491) or of a CONFIRM (R492): a CONFIRM that fails lets the trial timer run on
from where it stopped. DEDUCED, log entry 41. -/
def State.updAfter (s : State) (r : UpdRun) (code : Nat) : State :=
  if r.op = 7 ∧ code = 0 then (match s.dirChosen with | some (_, d) => s.activate d.cand | none => s)
  else if r.op ≠ 8 then s
  else if code = 0 then
    let s1 := ((s.put UPD_BOOT_STATE 0).put UPD_STAT_TRIAL 0).put UPD_EVT_CONFIRMED 1
    { s1 with upd := { s1.upd with trial := none } }
  else { s with upd := { s.upd with trial := s.upd.trial.map fun t => t + (s.sys.t - r.at_) } }

/-- The end of a command with a code (R487 to R489). DEDUCED, log entry 41. -/
def State.updEnd (s : State) (r : UpdRun) (code : Nat) : State :=
  let s1 := ({ s with upd := { s.upd with run := none } } : State).updAfter r code
  let s2 := (((s1.put UPD_STAT_BUSY 0).put UPD_RES_CODE code).put UPD_RES_OP r.op).put UPD_EVT_DONE 1
  let s3 := if code = 0x14 then s2.fault 0x16 0x72 r.addr else s2
  if code = 0 then s3 else (s3.put UPD_EVT_REFUSED 1).fault 0x16 0x70 code

/-- UPD_COMMAND_END (R487). -/
def execUpdCommandEnd (s : State) : Out :=
  if s.inReset 0x16 then .next s else
  .next (match s.upd.run with | some r => s.updEnd r r.code | none => s)

/-- A running command is cut short (R495): it ends with FLASH, and the bytes it was writing are as far as they had come. -/
def State.updCut (s : State) : State :=
  match s.upd.run with
  | some r => (if r.code = 0 then s.flashTear r.area else s).updEnd r 0x14
  | none => s

/-- A UNIT reset of UPD (R495): UPD_BOOT, the trial with its timer, the active and shadow registers, OTP and what STAT shows of the
running slot stay; the other registers take their reset values, and then show how a running command ended. DEDUCED, log entry 41. -/
def State.updReset (s : State) : State :=
  let s1 := s.each ([UPD_RES, UPD_EVT, UPD_EVT_EN, UPD_FADDR, UPD_MLEN, UPD_MSRC] ++ (List.range 8).map UPD_HASH ++
    (List.range 8).map UPD_TAG ++ (List.range 64).map UPD_BUF) State.clr
  let s2 := s1.each [UPD_STAT_BUSY, UPD_STAT_FELL_BACK, UPD_STAT_ISL_OK, UPD_STAT_VERIFIED, UPD_STAT_REJ] fun s f => s.put f 0
  ({ s2 with upd := { s2.upd with ver := 0, key := false } } : State).updCut

end Sys2Proof.Machine
end

