-- ==== Sys2Proof/Machine/Reset.lean ====
section
/-! DEFINITION. Resets: the log, WARM and POWER-ON resets, the sequence of a UNIT reset, watchdogs, the remote reset and the
straps (R84 to R109). -/
namespace Sys2Proof.Machine

/-! ### The log (R107) -/

/-- The AON time in units of 1/1,024 s. -/
def State.aonTime (s : State) : Nat := s.sys.t * 1024 / 250000000

/-- The UNIT reset under way for a unit. -/
def State.unitOf (s : State) (u : Nat) : Option UnitSt := Tab.get (fun _ => none) s.sys.units u

/-- Replaces the record of a UNIT reset. -/
def State.setUnit (s : State) (u : Nat) (x : Option UnitSt) : State :=
  { s with sys := { s.sys with units := Tab.set (fun _ => none) s.sys.units u x } }

/-- No unit's entry of the log is open at an index any more; 16 stands for none. -/
def State.closeEntry (s : State) (i : Nat) : State :=
  let us := s.sys.units.map fun e => (e.1, e.2.map fun x => if x.entry = i then { x with entry := 16 } else x)
  { s with sys := { s.sys with units := us } }

/-- Writes the next entry of the reset-cause log. DEDUCED, log entry 42. -/
def State.logReset (s : State) (code unit scope : Nat) (multi : Bool) (count : Nat) : State :=
  let i := s.get RSTC_LOG_HEAD_NEXT
  let w := code + unit * 2 ^ 8 + scope * 2 ^ 16 + b2n multi * 2 ^ 18 + min 255 count * 2 ^ 24
  ((((s.closeEntry i).wr (RSTC_LOG_W0 i) (BitVec.ofNat 32 w)).wr (RSTC_LOG_W1 i) (BitVec.ofNat 32 s.aonTime)).put
    RSTC_LOG_HEAD_NEXT (i + 1))

/-- The order of the causes that compete (R86): the lower number acts. -/
def causeRank (cause : Nat) : Nat :=
  match cause with
  | 0x01 => 0 | 0x02 => 1 | 0x08 => 2 | 0x03 => 3 | 0x04 => 4 | 0x07 => 5 | 0x05 => 6 | 0x06 => 7 | _ => 8

/-- Sets MULTI in an entry of the log that is not empty, and gives it the cause that acts (R86). -/
def State.logMulti (s : State) (i cause : Nat) : State :=
  let w := s.rd (RSTC_LOG_W0 i)
  if 16 ≤ i ∨ wordField w 0 8 = 0 then s else s.wr (RSTC_LOG_W0 i) (wordSet (wordSet w 18 1 1) 0 8 cause)

/-- The entry of the log that a unit's reset of this slow-clock cycle's causes has open at an index (R86). -/
def State.entryUnit (s : State) (i cyc : Nat) : Option (Nat × UnitSt) :=
  s.sys.units.findSome? fun e => match e.2 with
    | some x => if x.entry = i && x.cyc = cyc then some (e.1, x) else none
    | none => none

/-- Exchanges the entries of the log at an index and the one before it, of which `u` owns the later and `v` the earlier. -/
def State.logSwap (s : State) (i u v : Nat) (x y : UnitSt) : State :=
  let j := (i + 15) % 16
  let s1 := ((((s.copy (RSTC_LOG_W0 j) (RSTC_LOG_W0 i)).copy (RSTC_LOG_W1 j) (RSTC_LOG_W1 i)).wr (RSTC_LOG_W0 j)
    (s.rd (RSTC_LOG_W0 i))).wr (RSTC_LOG_W1 j) (s.rd (RSTC_LOG_W1 i)))
  (s1.setUnit v (some { y with entry := i })).setUnit u (some { x with entry := j })

/-- The entries of causes of one slow-clock cycle stand in ascending order of unit code: the newest, at `i`, goes before those
of higher units that follow one another (R86). `fuel` bounds the exchanges. DEDUCED, log entry 42. -/
def State.logOrder (s : State) (i u : Nat) (x : UnitSt) (fuel : Nat) : State :=
  match fuel with
  | 0 => s
  | fuel + 1 =>
    match s.entryUnit ((i + 15) % 16) x.cyc with
    | some (v, y) => if u < v then (s.logSwap i u v { x with entry := i } y).logOrder ((i + 15) % 16) u x fuel else s
    | none => s

/-- LOG_CLEAR (R107). -/
def State.logClear (s : State) : State :=
  let s1 := s.each (List.range 16) fun s i => ((s.closeEntry i).clr (RSTC_LOG_W0 i)).clr (RSTC_LOG_W1 i)
  s1.put RSTC_LOG_HEAD_NEXT 0

/-! ### WARM and POWER-ON resets (R84, R99 to R101) -/

/-- The registers a WARM reset keeps: the straps, line power, the reset-cause log, MPC's registers of the AON domain (R72),
CFG_CTL (R137), UPD_BOOT and the OTP store (R495), and BIV but for the shadows of the hold set (R109).
DEDUCED, log entry 42. -/
def keepWarm (o : Nat) : Bool :=
  match blkOf o with
  | 0x00 | 0x15 => true
  | 0x01 => [MPC_WAKE_EN, MPC_WAKE_CAUSE, MPC_WAKE_TIMER, MPC_DORM, MPC_WAKE_RELOAD].contains o
  | 0x02 => decide (RSTC_LOG_HEAD ≤ o)
  | 0x04 => o == CFG_CTL
  | 0x16 => o == UPD_BOOT || o == UPD_OTP_STAT || decide (UPD_UID 0 ≤ o ∧ o < UPD_BUF 0)
  | 0x18 => o != BIV_HOLD_A_SH && o != BIV_HOLD_B_SH
  | _ => false

/-- The pad-hold latches capture the output enable and the level of the hold pins (R101): the level of a pin that is driven is
the one driven, that of an input what stands on the ball. DEDUCED, log entry 42. -/
def State.padCapture (s : State) : State :=
  let held (p : Nat) : Bool := if p < 32 then s.getBit BIV_HOLD_A_PIN p else s.getBit BIV_HOLD_B_PIN (p - 32)
  let level (p : Nat) : Bool := (s.padDrive p).getD (Config.padLevel p s.sys.t)
  let oe := (List.range 64).foldl (fun a p => if held p && (s.padDrive p).isSome then a + 2 ^ p else a) 0
  let lvl := (List.range 64).foldl (fun a p => if held p && level p then a + 2 ^ p else a) 0
  let s1 := (s.put BIV_HOLD_LVL_A_LVL lvl).put BIV_HOLD_LVL_B_LVL (lvl / 2 ^ 32)
  { s1 with sys := { s1.sys with holdOe := oe } }

/-- Whether the hub runs in GH-320 behaviour from now on: CFG_CTL.LEGACY or the COMPAT strap (R96); the queue levels then
reset to 1 (R350). DEDUCED, log entry 24. -/
def State.setGh320 (s : State) : State :=
  let v := s.on CFG_CTL_LEGACY || s.on ID_STRAP_COMPAT
  (s.put ID_STRAP_GH320 (b2n v)).when v fun s =>
    s.each (List.range 64) fun s q => if s.on (SQ_LVL_LEVEL q) then s else s.put (SQ_LVL_LEVEL q) 1

/-- Every part of the D-die as reset leaves it, with the registers that `keep` names; line power, bivouac memory, the main
store's bytes and the flash stand. -/
def State.dieReset (s : State) (keep : Nat → Bool) : State :=
  let r := State.reset
  { s with
    regs := s.regs.filter fun e => keep e.1
    live := s.live.filter fun e => blkOf e.1 == 0x15
    store := { r.store with marks := s.store.marks, scrubT := s.sys.t }
    fwd := r.fwd, lane := r.lane, rpe := r.rpe, red := r.red, gg := r.gg, sq := r.sq, time := r.time
    lsv := r.lsv, mb := r.mb, fab := r.fab, hbr := r.hbr, dma := r.dma, tst := r.tst, cfg := r.cfg
    upd := { r.upd with flash := s.upd.flash, draws := s.upd.draws }
    biv := { s.biv with wait := [] }
    resp := none, fltQ := r.fltQ, recLatch := [], grpT0 := r.grpT0, seenP := r.seenP
    sys := { r.sys with
      t := s.sys.t, holdOe := s.sys.holdOe, refclk := s.sys.refclk, rc100 := true, timerT := s.sys.timerT
      dbg := s.sys.dbg, die := some 2, strapDue := s.sys.strapDue } }

/-- The reset of the whole D-die that a cause of this slow-clock cycle has begun: its cause, its entry of the log, and whether
it ended DORMANT (R86). -/
def State.sameCycle (s : State) : Option (Nat × Nat × Bool) :=
  match s.sys.lastRst with
  | some (c, x) => if c = s.slowCycle then some x else none
  | none => none

/-- A cause of a UNIT reset has come in this slow-clock cycle (R86). -/
def State.unitNow (s : State) : Bool :=
  s.sys.units.any fun e => match e.2 with | some x => x.cyc == s.slowCycle | none => false

/-- RESET_N has the straps sampled again (R96) and ends FACTORY TEST (R81). -/
def State.resetPin (s : State) : State :=
  let s1 := s.put MPC_MODE_FTEST 0
  { s1 with sys := { s1.sys with strapDue := true } }

/-- A cause that a reset of the same slow-clock cycle absorbs: MULTI is set, and a cause that comes first in the order of R86 is
the one that acts. -/
def State.absorb (s : State) (cause : Nat) (x : Nat × Nat × Bool) : State :=
  if causeRank cause < causeRank x.1 then
    let s1 := (s.logMulti x.2.1 cause).put RSTC_CAUSE_CODE cause
    let s2 : State := { s1 with sys := { s1.sys with lastRst := some (s1.slowCycle, cause, x.2) } }
    if cause = 2 then s2.resetPin else s2
  else s.logMulti x.2.1 x.1

/-- The body of a WARM reset (R84): the pins held, a flash command cut short, the D-die held in reset, the cause and the log
written; every UNIT reset is abandoned (R86). A reset that ends DORMANT finds the store without its contents (R86) and the rails off; a die that
has lost the link to the other keeps its marks (R12). DEDUCED, log entry 42. -/
def State.warmBody (s : State) (cause : Nat) (multi : Bool) : State :=
  let dorm := s.mode == 0
  let init := s.on MSA_STAT_INIT_DONE && !dorm
  let e := s.get RSTC_LOG_HEAD_NEXT
  let s1 := (s.padCapture.updCut).dieReset keepWarm
  let s2 := ((s1.put MSA_STAT_INIT_DONE (b2n init)).put MPC_MODE_FTEST (s.get MPC_MODE_FTEST)).setGh320
  let s3 := (s2.put RSTC_CAUSE_CODE cause).logReset cause 0xFE 1 multi 0
  let s4 : State := { s3 with sys := { s3.sys with lastRst := some (s3.slowCycle, cause, e, dorm) } }
  let s5 := if s4.d2dLost then s4.staleMark else s4
  let s6 := if cause = 2 then s5.resetPin else s5
  if dorm then
    let s7 := (s6.put LPW_SEQ_STAT_STATE 1).setBit LPW_SEQ_STAT_PEN 0
    { s7 with mem := [], store := { s7.store with marks := [] } }
  else s6

/-- A cause of a WARM reset (R86): absorbed by a reset of the same slow-clock cycle, else it acts; none does without the AON
supply (R477). DEDUCED, log entry 42. -/
def State.warmReset (s : State) (cause : Nat) : State :=
  if !s.lpw.aon then s else
  match s.sameCycle with
  | some x => s.absorb cause x
  | none => s.warmBody cause s.unitNow

/-- The registers of the OTP store and of the ID block, which no reset changes. DESIGN CHOICE, log entry 4. -/
def keepPor (o : Nat) : Bool := o == ID_PART || o == UPD_OTP_STAT || decide (UPD_UID 0 ≤ o ∧ o < UPD_BUF 0)

/-- The POWER-ON reset (R84): every domain, the log with its one entry; the straps are due to be sampled (R96). `stacked` is
what the P-die reads of the straps STACK_ID (R457). It absorbs every other cause of its slow-clock cycle (R86). -/
def State.porReset (s : State) (stacked : Bool) : State :=
  let multi := s.sameCycle.isSome || s.unitNow
  let s1 := ((s.updCut).dieReset keepPor).lpwPor stacked
  let s2 : State := { s1 with
    mem := [], store := { s1.store with marks := [] }
    biv := ⟨[], [], []⟩
    d2dLost := false
    sys := { SysSt.init with
      refclk := s.sys.refclk, rc100 := true, dbg := s.sys.dbg, die := some 2, strapDue := true
      lastRst := some (0, 1, 0, false) } }
  (s2.put RSTC_LOG_HEAD_NEXT 0).logReset 1 0xFE 0 multi 0

/-! ### UNIT resets (R85 to R90) -/

/-- Whether RSTC takes a UNIT reset of a unit code. -/
def unitOk (u : Nat) : Bool :=
  (decide (u ≤ 0x17) && !([0x01, 0x02, 0x03, 0x07, 0x15].contains u)) || u == 0x40 || u == 0x41

/-- Shows a unit in RSTC_INRST. -/
def State.setInrst (s : State) (u : Nat) (v : Bool) : State :=
  if u = 0x40 then s.put RSTC_INRST_M0 (b2n v)
  else if u = 0x41 then s.put RSTC_INRST_M1 (b2n v)
  else if v then s.setBit RSTC_INRST_BLK u else s.clrBit RSTC_INRST_BLK u

/-- The switch core's part (R232): its frames dropped, the fabric requests among them ended with IN_RESET, each once, and the ring
directions PLANNED (R238). -/
def State.fwdReset (s : State) : State :=
  let owned := ((s.allFrames.filter fun x => x.own && isFabReq x.f).map fun x =>
    (x.cells, frTag x.f, frWord x.f 0, frWord x.f 1)).eraseDups.map (·.2)
  let waiting := (s.fwd.locWait.filter fun w => w.spec.cls == 5 && w.spec.vc == 0 && w.spec.kind == 1).map fun w =>
    (w.spec.tag, (w.spec.payload.getD 0 0#64).toNat, (w.spec.payload.getD 1 0#64).toNat)
  let s1 := s.each [FWD_STAT, FWD_FENCE, FWD_DRAIN, FWD_DRAIN_CNT, FWD_EVT, FWD_UNREACH_LOG] State.clr
  let s2 : State := { s1 with fwd := { s.fwd with queues := [], held := [], drains := [], locWait := [], fenceGen := 0 } }
  let s3 := (s2.cntReset 6).each [0, 1] fun s d => if s.dirState d = 0 then s.dirPlanned d else s
  s3.each (owned ++ waiting) fun s x =>
    if x.2.1 % 256 = 2 then s.pwFail x.1 0x08 (x.2.2 % 2 ^ 48)
    else match s.fab.out.find? fun o => o.tag == x.1 with
      | some o => ({ s with fab := { s.fab with out := s.fab.out.filter fun o => o.tag != x.1 } } : State).finish o.q 0x08 []
      | none => s

/-- The redundancy block's part (R262). -/
def State.redReset (s : State) : State :=
  let s1 := s.each [RED_STAT, RED_TWIN_LEFT, RED_EVT, RED_EVT_EN, RED_LOSS_LOG, RED_LOSS_T, RED_LOSS_T + 4, RED_WRAP_T,
    RED_WRAP_T + 4] State.clr
  let s2 : State := { s1 with red := { State.reset.red with twinOn := s.red.twinOn } }
  ((((s2.cntReset 7).put RED_STAT_DUP_LIMIT (dupLimit (s.get RED_DUP_CTL_AGE))).setReach 0 0).setReach 1 0).anchorOff

/-- CFG's part (R527): the session and an armed commit end; the shadows and the named registers stay. -/
def State.cfgReset (s : State) : State :=
  let s1 := s.each [CFG_STAT, CFG_CHECK_RES, CFG_APPLY_T, CFG_APPLY_T + 4, CFG_GUARD, CFG_GUARD + 4, CFG_COMMIT] State.clr
  { s1 with cfg := { CfgSt.init with loading := false } }

/-- The ring protocol engine's part: all of it takes its reset values (R84), but for HEAD_YIELD (R192). -/
def State.rpeReset (s : State) : State :=
  let y := s.get RPE_STAT_HEAD_YIELD
  ({ s with
    regs := s.regs.filter fun e => blkOf e.1 != 0x0C
    live := s.live.filter fun e => blkOf e.1 != 0x0C
    rpe := State.reset.rpe } : State).put RPE_STAT_HEAD_YIELD y

/-- A core's part (R41, R92): its reservation is gone and it does not run. -/
def State.coreReset (s : State) (c : Nat) : State :=
  (s.setLr c none).put (if c = 0 then MPC_MODE_AWAKE_M0 else MPC_MODE_AWAKE_M1) 0

/-- The fault collector's part (R442): the rules, the records, FLT_FN, FN_ORPHAN, the safe state and the counters stay. -/
def State.fltReset (s : State) : State :=
  let s1 := s.each [FLT_STAT_REC_OVF, FLT_STAT_MSG_LOST, FLT_STAT_SAT] fun s f => s.put f 0
  let s2 := s1.each [FLT_INJ_W0, FLT_INJ_ADDR_LO, FLT_INJ_ADDR_HI] State.clr
  { s2 with fltQ := [], recLatch := [] }

/-- What the assertion of its reset does to a unit. DEDUCED, log entry 42. -/
def State.unitReset (s : State) (u : Nat) : State :=
  match u with
  | 0x04 => s.cfgReset
  | 0x05 => s.fltReset
  | 0x06 => s.intcUnitReset
  | 0x08 => s.laneReset 0
  | 0x09 => s.laneReset 1
  | 0x0A => s.laneReset 2
  | 0x0B => s.laneReset 3
  | 0x0C => s.rpeReset
  | 0x0D => s.fwdReset
  | 0x0E => s.redReset
  | 0x0F => s.timeReset
  | 0x10 => s.ggReset
  | 0x11 => s.sqReset
  | 0x12 => s.lsvReset
  | 0x13 => s.mbReset
  | 0x14 => s.hbrReset
  | 0x16 => s.updReset
  | 0x17 => s.tstReset
  | 0x40 => s.coreReset 0
  | 0x41 => s.coreReset 1
  | _ => s

/-- The assertion of a UNIT reset (R87, R107). DEDUCED, log entry 42. -/
def State.unitAssert (s : State) (u : Nat) (x : UnitSt) : State :=
  let i := s.get RSTC_LOG_HEAD_NEXT
  let y : UnitSt := { x with phase := 2, entry := i }
  let s1 := ((s.logReset x.cause u 2 x.multi x.count).setUnit u (some y)).logOrder i u y 16
  (s1.unitReset u).setInrst u true

/-- A cause that names a unit whose UNIT reset runs (R86): in the slow-clock cycle of its cause it competes with that one and
sets MULTI; later it counts as a repeat. -/
def State.unitAbsorb (s : State) (cause u : Nat) (x : UnitSt) : State :=
  if x.cyc = s.slowCycle then
    let k := if causeRank cause < causeRank x.cause then cause else x.cause
    (s.setUnit u (some { x with cause := k, multi := true })).logMulti x.entry k
  else if x.phase = 1 then s.setUnit u (some { x with count := x.count + 1 })
  else if x.entry < 16 then
    s.wr (RSTC_LOG_W0 x.entry) (wordSet (s.rd (RSTC_LOG_W0 x.entry)) 24 8
      (min 255 (wordField (s.rd (RSTC_LOG_W0 x.entry)) 24 8 + 1)))
  else s

/-- A request to reset a unit (R85, R86): refused, turned into a WARM reset, absorbed by a reset of the whole die or by one of
the unit that runs, or begun with an idle request, at which a lane that is UP goes down (R528). A unit whose clock never came
is asserted again (R89). Every reset starts RC100 (R18). DEDUCED, log entry 42. -/
def State.unitRequest (s : State) (cause u : Nat) : State :=
  if u = 0xFE then s.warmReset cause
  else if !unitOk u then s.fault 0x02 0x10 u
  else match s.sameCycle with
    | some y => s.logMulti y.2.1 y.1
    | none => match s.unitOf u with
      | some x => if x.phase = 4 then s.rcUse.unitAssert u ⟨2, cause, false, 0, 16, s.slowCycle⟩ else s.unitAbsorb cause u x
      | none =>
        let s1 := s.rcUse.setUnit u (some ⟨1, cause, false, 0, 16, s.slowCycle⟩)
        if 0x08 ≤ u ∧ u ≤ 0x0B then s1.laneIdle (u - 0x08) else s1

/-- Reloads a watchdog and takes its warning back (R91). -/
def State.wdReload (s : State) (n : Nat) : State :=
  let s1 := s.put (RSTC_WDOG_CNT_LEFT n) (max 1 (s.get (RSTC_WDOG_CTL_TIMEOUT n)))
  { s1 with sys := { s1.sys with wdRun := Tab.set (fun _ => 0) s1.sys.wdRun n 0 } }

/-- A kick. -/
def State.wdKick (s : State) (n : Nat) : State := (s.wdReload n).put (RSTC_WDOG_CNT_WARNED n) 0

/-- What the release of its reset does to a unit. -/
def State.unitRelease (s : State) (u : Nat) : State :=
  match u with
  | 0x04 => if s.sys.recordOn then s else { s with cfg := CfgSt.init }
  | 0x06 => s.intcSample
  | 0x08 => s.laneRelease 0
  | 0x09 => s.laneRelease 1
  | 0x0A => s.laneRelease 2
  | 0x0B => s.laneRelease 3
  | 0x0D => ((s.dirRight 0).dirRight 1).creditPump
  | 0x0E => ((s.dirRight 0).dirRight 1).eligCheck
  | 0x12 => s.lsvRelease
  | 0x13 => s.mbRelease
  | 0x40 => (if s.on (RSTC_WDOG_CTL_EN 0) then s.wdKick 0 else s).put MPC_MODE_AWAKE_M0 (b2n s.sys.cores)
  | 0x41 => (if s.on (RSTC_WDOG_CTL_EN 1) then s.wdKick 1 else s).put MPC_MODE_AWAKE_M1 (b2n s.sys.cores)
  | _ => s

/-- UNIT_IDLE_ACK (R87, R88). -/
def execUnitIdleAck (unit : BitVec 8) (s : State) : Out :=
  .next (match s.unitOf unit.toNat with
    | some x => if x.phase = 1 then s.unitAssert unit.toNat x else s
    | none => s)

/-- IDLE_TIMEOUT (R88, R107): logged and reported, and the unit is reset anyway. -/
def execIdleTimeout (unit : BitVec 8) (s : State) : Out :=
  .next (match s.unitOf unit.toNat with
    | some x =>
      if x.phase = 1 then ((s.logReset 0x09 unit.toNat 2 false 0).fault 0x02 0x11 unit.toNat).unitAssert unit.toNat x else s
    | none => s)

/-- The reset of the whole D-die stands in a step (R87, R97). -/
def State.setDie (s : State) (x : Option Nat) : State := { s with sys := { s.sys with die := x } }

/-- Whether the PLLs have a reference: REFCLK, or the recovered clock of a lane (chapter 1, Clocks). -/
def State.clocked (s : State) : Bool := s.sys.refclk || s.on TIME_STAT_REF

/-- Whether a unit's clock comes from RC100 (R87): during the assertion of its reset, and after it while its own source does not
run. -/
def State.onRc100 (s : State) (u : Nat) : Bool :=
  let slow (p : Nat) : Bool := p == 2 || (decide (2 < p) && !s.clocked)
  (onDie u && (s.sys.die.map slow).getD false) || ((s.unitOf u).map fun x => slow x.phase).getD false

/-- RESET_ASSERT_END (R87): 16 cycles of RC100 have passed; the clock is switched back. `unit` 0xFE is the whole D-die. -/
def execResetAssertEnd (unit : BitVec 8) (s : State) : Out :=
  .next (if unit = 0xFE#8 then (if s.sys.die = some 2 then s.setDie (some 3) else s)
  else match s.unitOf unit.toNat with
    | some x => if x.phase = 2 then s.setUnit unit.toNat (some { x with phase := 3 }) else s
    | none => s)

/-- Whether the D-die may leave the reset of all of it: its rails stand, its clocks run and the straps have been sampled, in the
order of R97; nothing does while the P-die has shut it down in DORMANT. -/
def State.dieReady (s : State) : Bool :=
  s.sys.die == some 3 && s.sys.refclk && s.on LPW_STAT_RAILS_OK && !s.sys.strapDue

/-- UNIT_RELEASE (R89, R97): the unit's functional clock has run for 64 cycles. `unit` 0xFE is the whole D-die, but for a unit
that CLOCK_NOT_READY has left behind. DEDUCED, log entry 42. -/
def execUnitRelease (unit : BitVec 8) (s : State) : Out :=
  .next (if unit = 0xFE#8 then (if s.dieReady then s.setDie none else s)
  else match s.unitOf unit.toNat with
    | some x =>
      if x.phase = 3 ∧ s.clocked then ((s.setUnit unit.toNat none).setInrst unit.toNat false).unitRelease unit.toNat else s
    | none => s)

/-- A unit is left in reset without its clock: shown in RSTC_CLKFAIL, logged and reported (R89). -/
def State.clockFail (s : State) (u : Nat) (x : UnitSt) : State :=
  let s1 := s.setUnit u (some { x with phase := 4 })
  let s2 := if u = 0x40 then s1.put RSTC_CLKFAIL_M0 1
    else if u = 0x41 then s1.put RSTC_CLKFAIL_M1 1 else s1.setBit RSTC_CLKFAIL_BLK u
  (s2.logReset 0x0A u 2 false 0).fault 0x02 0x12 u

/-- CLOCK_NOT_READY (R89): the unit stays in reset. After a reset of the whole D-die, one unit of it whose clock has not come
stays in reset by itself. DEDUCED, log entry 42. -/
def execClockNotReady (unit : BitVec 8) (s : State) : Out :=
  .next (match s.unitOf unit.toNat with
    | some x => if x.phase = 3 then s.clockFail unit.toNat x else s
    | none =>
      if s.sys.die = some 3 && unitOk unit.toNat then
        (s.setInrst unit.toNat true).clockFail unit.toNat ⟨3, s.get RSTC_CAUSE_CODE, false, 0, 16, s.slowCycle⟩
      else s)

/-- SOFTWARE_RESET (R85, R108): a write of RSTC_SWRST with its key. -/
def execSoftwareReset (unit : BitVec 8) (key : BitVec 16) (s : State) : Out :=
  .next (s.cmd RSTC_SWRST fun s => if key = 0xC0DE#16 then s.rcUse.unitRequest 0x06 unit.toNat else s.rcUse)

/-- POWER_ON_RESET (R84). -/
def execPowerOnReset (stacked : Bool) (s : State) : Out := .next (s.porReset stacked)

/-- RESET_N (R84): low for 1 us. -/
def execResetN (s : State) : Out := .next (s.warmReset 0x02)

/-- TRIAL_EXPIRY (R492): the trial timer reaches 0; it stands while a CONFIRM runs. -/
def execTrialExpiry (s : State) : Out :=
  .next (if s.upd.trial.isSome && !(s.upd.run.any fun r => r.op == 8) then s.warmReset 0x0C else s)

/-- LOG_CLEAR (R107). -/
def execLogClear (s : State) : Out := .next (s.cmd RSTC_LOG_HEAD fun s => s.rcUse.logClear)

/-! ### Watchdogs (R91, R92) -/

/-- A write of RSTC_WDOGn_CTL. One that writes 1 to EN again does not start the count anew. DESIGN CHOICE, log entry 42. -/
def State.wdWrite (s : State) (n : Nat) (w : Word) : State :=
  let was := s.on (RSTC_WDOG_CTL_EN n)
  let s1 := ((s.put (RSTC_WDOG_CTL_SCOPE n) (wordField w 1 1)).put (RSTC_WDOG_CTL_TIMEOUT n) (wordField w 16 16)).put
    (RSTC_WDOG_CTL_EN n) (b2n (was || w.getLsbD 0))
  if !was && w.getLsbD 0 then s1.wdKick n else s1

/-- WDOG_START (R91). -/
def execWdogStart (n : Fin 2) (ctl : Word) (s : State) : Out :=
  .next (s.cmd (RSTC_WDOG_CTL n.val) fun s => s.rcUse.wdWrite n.val ctl)

/-- An expiry: the first one warns and reloads, the second one resets. -/
def State.wdExpire (s : State) (n : Nat) : State :=
  if !s.on (RSTC_WDOG_CNT_WARNED n) then
    (((s.edgeIrq 0x02 (10 + n)).fault 0x02 0x13 n).wdReload n).put (RSTC_WDOG_CNT_WARNED n) 1
  else if s.on (RSTC_WDOG_CTL_SCOPE n) then
    (s.put (RSTC_WDOG_CNT_LEFT n) 0).unitRequest (3 + n) (0x40 + n)
  else s.warmReset (3 + n)

/-- A write of RSTC_WDOGn_KICK. -/
def State.wdKickWrite (s : State) (n : Nat) (w : Word) : State :=
  if !s.on (RSTC_WDOG_CTL_EN n) then s
  else if w = 0x6B1D#32 then s.wdKick n
  else s.wdExpire n

/-- WDOG_KICK (R91). -/
def execWdogKick (n : Fin 2) (value : Word) (s : State) : Out :=
  .next (s.cmd (RSTC_WDOG_KICK n.val) fun s => s.rcUse.wdKickWrite n.val value)

/-- WDOG_EXPIRY (R91, R92): the count has reached 0. -/
def execWdogExpiry (n : Fin 2) (s : State) : Out :=
  .next (if s.wdCounts n.val then s.wdExpire n.val else s)

/-- RSTC_WDOGn_CNT.LEFT as it reads now, in ms of the slow clock. -/
def State.wdLeft (s : State) (n : Nat) : Nat := s.get (RSTC_WDOG_CNT_LEFT n) - Tab.get (fun _ => 0) s.sys.wdRun n / 250000

/-! ### The remote reset (R93 to R95) -/

/-- A remote command fails. -/
def State.remoteFail (s : State) (node : Nat) : State :=
  let f := min 4 (s.get RSTC_REMOTE_STAT_FAILS + 1)
  let s1 := s.put RSTC_REMOTE_STAT_FAILS f
  (if f = 4 then s1.put RSTC_REMOTE_STAT_LOCKED 1 else s1).fault 0x02 0x14 node

/-- A write of RSTC_REMOTE_AUTH. -/
def State.remoteAuth (s : State) (word : Word) (node : Nat) (bcast : Bool) : State :=
  if s.rd RSTC_AUTH = 0#32 then s
  else if s.on RSTC_REMOTE_STAT_LOCKED then s.fault 0x02 0x14 node
  else if bcast then s.remoteFail node
  else
    let rest := s.sys.auth.filter fun a => a.2 != node && decide (s.sys.t ≤ a.1 + 250000)
    { s with sys := { s.sys with auth := if word = s.rd RSTC_AUTH then rest ++ [(s.sys.t, node)] else rest } }

/-- A write of RSTC_REMOTE_CMD: within 1 ms of a good AUTH write of the same node. A command does not use the AUTH write up,
and one that fails has no effect beyond its count and its report. DESIGN CHOICE, log entry 42. -/
def State.remoteCmd (s : State) (unit node : Nat) (bcast : Bool) : State :=
  if s.rd RSTC_AUTH = 0#32 then s
  else if s.on RSTC_REMOTE_STAT_LOCKED then s.fault 0x02 0x14 node
  else if !bcast && s.sys.auth.any (fun a => a.2 == node && decide (s.sys.t ≤ a.1 + 250000)) then s.unitRequest 0x07 unit
  else s.remoteFail node

/-- REMOTE_AUTH (R93, R94). -/
def execRemoteAuth (word : Word) (node : BitVec 8) (bcast : Bool) (s : State) : Out :=
  .next (s.cmd RSTC_REMOTE_AUTH fun s => s.rcUse.remoteAuth word node.toNat bcast)

/-- REMOTE_CMD (R94). -/
def execRemoteCmd (unit node : BitVec 8) (bcast : Bool) (s : State) : Out :=
  .next (s.cmd RSTC_REMOTE_CMD fun s => s.rcUse.remoteCmd unit.toNat node.toNat bcast)

/-! ### Straps, rails and clocks (R17, R18, R96 to R98, R105) -/

/-- STRAP_SAMPLE (R96): on a stacked hub the HEAD strap is ignored (R20) where it acts. DEDUCED, log entry 42.
DESIGN CHOICE, log entry 48. -/
def execStrapSample (testmode compat : Bool) (stackId : Fin 4) (twinPref head : Bool) (s : State) : Out :=
  let s0 : State := { s with sys := { s.sys with strapDue := false } }
  .next (((((s0.put ID_STRAP_TESTMODE (b2n testmode)).put ID_STRAP_COMPAT (b2n compat)).put ID_STRAP_STACK_ID stackId.val).put
    ID_STRAP_TWIN_PREF (b2n twinPref)).put ID_STRAP_HEAD (b2n head)).setGh320

/-- RAILS_OK (R97, R474): 1 ms after the last group is in its windows. -/
def execRailsOk (s : State) : Out :=
  .next (if s.lpw.aon && s.get LPW_SEQ_STAT_STATE = 1 && s.nextPen.isNone && s.groupsIn then
    (s.put LPW_SEQ_STAT_STATE 2).put LPW_STAT_RAILS_OK 1 else s)

/-- REFCLK_ABSENT (R17): reported, and no lane trains or stays up. -/
def execRefclkAbsent (s : State) : Out :=
  .next ((({ s with sys := { s.sys with refclk := false } } : State).refclkGone).fault 0x03 0x15 0)

/-- REFCLK_ABSENT_REPORT (R98): every 10 ms while it is absent. -/
def execRefclkAbsentReport (s : State) : Out := .next (if s.sys.refclk then s else s.fault 0x03 0x15 0)

/-- REFCLK_ARRIVAL (R98). -/
def execRefclkArrival (s : State) : Out := .next { s with sys := { s.sys with refclk := true } }

/-- RC100_STOP (R18): 64 cycles after the last use; a reset uses it until it ends, for a unit whose clock never came stays on
it (R87). -/
def execRc100Stop (s : State) : Out :=
  .next (if s.sys.die.isSome || s.sys.units.any fun e => e.2.isSome then s
    else { s with sys := { s.sys with rc100 := false } })

end Sys2Proof.Machine
end

