-- ==== Sys2Proof/Machine/Mode.lean ====
section
/-! DEFINITION. Modes: the transitions, mode requests, WATCH and DORMANT with their wakes, PROOF's abort, ISLAND, MAINTAIN with
FACTORY TEST, and the mode of a stacked hub (R58 to R83). -/
namespace Sys2Proof.Machine

/-! ### Helpers -/

/-- Whether a link towards the ring is there: a ring direction of R238 that is UP, or S1 on a stacked hub (R67). -/
def State.linkIn (s : State) : Bool := if s.master then s.dirState 0 == 0 || s.dirState 1 == 0 else s.laneUp 3

/-- Shows the state and the code of a mode request; done or refused raises MPC_REQ_DONE (R62, R426). -/
def State.reqStat (s : State) (st code : Nat) : State :=
  let s1 := (s.put MPC_REQ_STAT_STATE st).put MPC_REQ_STAT_CODE code
  if 2 ≤ st then s1.edgeIrq 0x01 8 else s1

/-- MPC_WAKE_TIMER as it reads now (R83). -/
def State.wakeCount (s : State) : Nat := (s.rd MPC_WAKE_TIMER).toNat - (s.sys.t - s.sys.timerT) * 1024 / 250000000

/-- A write or a reload of MPC_WAKE_TIMER. -/
def State.setWakeTimer (s : State) (v : Word) : State :=
  let s1 := s.wr MPC_WAKE_TIMER v
  { s1 with sys := { s1.sys with timerT := s1.sys.t } }

/-- Any write of an MPC register but the second key restarts the unlock of R81. -/
def State.mpcWrite (s : State) : State := { s with sys := { s.sys with ftKey := none } }

/-- Writes MPC_WAKE_LAT for the wake that ends now. -/
def State.wakeLat (s : State) : State :=
  match s.sys.wakeT with
  | some t =>
    let s1 := s.put MPC_WAKE_LAT_LAT (min (2 ^ 20 - 1) ((s.sys.t - t) / 250))
    { s1 with sys := { s1.sys with wakeT := none } }
  | none => s

/-- The cores run, or are in retention. -/
def State.coresRun (s : State) (v : Bool) : State :=
  let on (c : Nat) : Nat := b2n (v && s.sys.cores && !s.inReset (0x40 + c))
  (s.put MPC_MODE_AWAKE_M0 (on 0)).put MPC_MODE_AWAKE_M1 (on 1)

/-- S0 carries a mode change down the stack (R67). -/
def State.stackSend (s : State) (m : Nat) : State :=
  if s.laneUp 2 then { s with sys := { s.sys with stackTx := some m } } else s

/-! ### Transitions (R61, R63) -/

/-- What an entry to WATCH does (R74). -/
def State.watchEntry (s : State) : State := s.ggSleep.coresRun false

/-- What an entry to RUN does: the boot is over, and a wake (R71, R75). -/
def State.runEntry (s : State) : State :=
  let s1 := ((s.coresRun true).put MPC_MODE_BOOTING 0).wakeLat
  { s1 with sys := { s1.sys with woke := none } }

/-- What an entry to ISLAND does (R78): the spindle in holdover, unless it follows no ring time or its own (R274), the actions
of ISLAND armed and the fallback program started. -/
def State.islandEntry (s : State) : State :=
  (if [1, 2].contains (s.get TIME_STAT_STATE) then s.holdover else s).islandActions

/-- A request to RUN that waited is done in RUN (R79), and a request that a transition was to complete is refused where ISLAND comes
first. -/
def State.reqEnds (s : State) (m : Nat) : State :=
  if m = 2 ∧ s.sys.waitRun then ({ s with sys := { s.sys with waitRun := false } } : State).reqStat 2 0
  else if m = 4 ∧ s.get MPC_REQ_STAT_STATE = 1 ∧ s.sys.req.isNone then
    ({ s with sys := { s.sys with waitRun := false } } : State).reqStat 3 0x01
  else s

/-- The change of the mode itself, with what leaving and entering it do; the master carries it onward (R67). Engines that WATCH
stopped resume wherever the hub leaves WATCH, before the entry's own actions. DESIGN CHOICE, log entry 43. -/
def State.setMode (s : State) (m : Nat) : State :=
  let old := s.mode
  let s0 := if old = 3 then s.proofAbort else s
  let s1 := (((s0.put MPC_MODE_CUR m).put MPC_MODE_PREV old).put MPC_MODE_TRANS 0)
  let s2 : State := { s1 with sys := { s1.sys with hand := false, ownIsl := false } }
  let s3 := s2.when s2.master fun s => s.stackSend m
  let s4 := if old = 1 ∧ m ≠ 1 then (s3.coresRun true).ggWake else s3
  let s5 := match m with
    | 1 => s4.watchEntry
    | 2 => s4.runEntry
    | 3 => s4.proofStart
    | 4 => s4.islandEntry
    | _ => s4
  (s5.reqEnds m).eligCheck

/-- The transitions of R61 between modes that run, by whatever cause. -/
def modeArc (cur target : Nat) : Bool :=
  match cur, target with
  | 2, 1 | 2, 0 | 2, 3 | 2, 4 | 2, 5 => true
  | 1, 2 | 1, 0 | 1, 4 | 1, 5 => true
  | 3, 2 | 3, 4 | 3, 5 => true
  | 4, 2 => true
  | 5, 2 | 5, 4 => true
  | _, _ => false

/-- The links retrain to code 0 for WATCH: every ring and stack lane that is UP at a higher rate, or on its way to one, steps down,
and the window of R65 opens (R65, R155). -/
def State.watchLanes (s : State) : State :=
  let s1 : State := { s with sys := { s.sys with retrain := true } }
  s1.each (List.range 4) fun s l =>
    let st := s.trainSt l
    let up := st == 7 && s.get (LANE_STAT_RATE l) != 0
    let stepping := st == 5 && s.get (LANE_TRAIN_TARGET l) != 0
    if s.laneHost l || !(up || stepping) then s else s.stepTo l 0

/-- The hub is to enter DORMANT: S0 carries the change, then the transmitters stop (R66, R68). -/
def State.dormantGo (s : State) : State :=
  let s1 := (s.stackSend 0).put MPC_MODE_TRANS 1
  { s1 with sys := { s1.sys with dormT := true } }

/-- The mode that the master has changed to, where R61 has that transition; RUN waits for the conditions of the boot (R61, R67).
DEDUCED, log entry 43. -/
def State.takeMode (s : State) (m : Nat) : State :=
  if s.on MPC_MODE_FTEST || !s.sys.recordOn || !modeArc s.mode m || (m == 2 && s.mode == 5 && !(s.linkIn && s.listed)) then s
  else match m with
    | 0 => s.dormantGo
    | 1 => (s.setMode 1).watchLanes
    | 2 => if s.mode = 1 then s.startWake else s.setMode 2
    | m => s.setMode m

/-- The causes that a transition has held act at its end (R63). -/
def State.actHeld (s : State) : State :=
  if s.on MPC_MODE_TRANS then s
  else
    let s1 : State := { s with sys := { s.sys with heldIsl := none, heldWake := 0, heldMode := none } }
    if s.sys.heldIsl.isSome && modeArc s.mode 4 && !s.on MPC_MODE_FTEST then s1.setMode 4
    else match s.sys.heldMode with
      | some m => s1.takeMode m
      | none => if s.sys.heldWake ≠ 0 ∧ s.mode = 1 ∧ s.master then s1.startWake else s1

/-- A held ISLAND entry has waited for 1 ms (R63). -/
def State.islandDue (s : State) : Bool :=
  s.on MPC_MODE_TRANS && match s.sys.heldIsl with | some t => decide (t + 250000 ≤ s.sys.t) | none => false

/-- It takes effect now, whatever transition is in progress: a wake, a handover or the way to DORMANT ends there.
DEDUCED, log entry 43. -/
def State.islandNow (s : State) : State :=
  let s1 := s.put MPC_MODE_TRANS 0
  ({ s1 with sys := { s1.sys with
    heldIsl := none, heldWake := 0, heldMode := none, wakeT := none, hand := false, dormT := false } } : State).setMode 4

/-- A request to MAINTAIN takes effect: a twin that holds the anchor hands it over first, if its partner beats (R80). -/
def State.toMaintain (s : State) : State :=
  if s.get RED_TWIN_STAT_STATE = 2 && s.on RED_TWIN_CTL_TWIN && s.on RED_TWIN_STAT_PARTNER_BEAT then
    let s1 := (s.yieldAnchor true).put MPC_MODE_TRANS 1
    { s1 with sys := { s1.sys with hand := true } }
  else s.setMode 5

/-- A cause that takes the hub to ISLAND (R61, R63, R81). -/
def State.islandGo (s : State) : State :=
  if s.on MPC_MODE_FTEST then s
  else if s.on MPC_MODE_TRANS then { s with sys := { s.sys with heldIsl := some (s.sys.heldIsl.getD s.sys.t) } }
  else if modeArc s.mode 4 then s.setMode 4 else s

/-- The fault reaction "mode change to ISLAND" (R61); a stacked hub takes its mode from the master (R67).
DEDUCED, log entry 43. -/
def State.islandCause (s : State) : State := s.when s.master State.islandGo

/-! ### Requests (R62, R64) -/

/-- Whether R61 gives a transition on request: `commit` adds those of a ring-wide commit (R64). -/
def mayChange (cur target : Nat) (commit : Bool) : Bool :=
  match cur, target with
  | 2, 3 => true
  | 1, 2 | 3, 2 | 5, 2 => true
  | 1, 5 | 2, 5 | 3, 5 => true
  | 2, 1 | 2, 0 | 1, 0 => commit
  | _, _ => false

/-- The refusal code that the hub's state gives a request, 0 when it allows it: a stacked hub takes none (R67), PROOF needs a core
(R60), and a hub that boots a link (R61). DEDUCED, log entry 43. -/
def State.permit (s : State) (target : Nat) (commit : Bool) : Nat :=
  if s.on MPC_MODE_FTEST then 0x07
  else if !s.master || !mayChange s.mode target commit then 0x01
  else if target = 3 && !s.coreRuns 0 && !s.coreRuns 1 then 0x01
  else if target = 2 && !s.sys.recordOn then 0x04
  else if target = 2 && !s.listed then 0x05
  else if target = 2 && s.mode == 5 && s.on MPC_MODE_BOOTING && !s.linkIn then 0x01
  else 0

/-- The refusal code of a request, 0 when it is accepted. `own` is a local request, `head` one of node 0x00, and both count for
MAINTAIN, the first for PROOF (R61). DEDUCED, log entry 43. -/
def State.judge (s : State) (target : Nat) (atTime commit own head : Bool) : Nat :=
  if s.on MPC_MODE_FTEST then 0x07
  else if 6 ≤ target then 0x06
  else if s.on MPC_MODE_TRANS then 0x02
  else if atTime && s.rpe.floor == 1 then 0x03
  else if s.mode = 4 ∧ target = 2 then (if head && s.master then 0 else 0x01)
  else if (target = 3 && !commit && !own) || (target = 5 && !commit && !own && !head) then 0x01
  else s.permit target commit

/-- Ends PROOF ahead of its end (R76, R503). -/
def State.proofStop (s : State) : State :=
  if s.mode = 3 ∧ s.get TST_PSTAT_STATE = 1 then (s.fault 0x01 0x17 (s.get TST_PSTAT_STEP)).proofAbort else s

/-- What waits for a request: the boundary of a target, or RUN by a transition of its own. -/
def State.reqWait (s : State) (q : Option (Nat × Nat)) (r : Bool) : State :=
  { s with sys := { s.sys with req := q, waitRun := r } }

/-- A request that has been accepted waits for its boundary, and takes the place of one that waits (R62). In ISLAND it waits for R79
alone, whatever its AT_TIME. DESIGN CHOICE, log entry 43. -/
def State.reqAccept (s : State) (target : Nat) (atTime : Bool) : State :=
  let t := s.rd64 MPC_REQ_T
  let s1 := s.reqStat 1 0
  let late := atTime && decide (t < s.now)
  let s2 := if late then (s1.put MPC_REQ_STAT_LATE 1).miss 0x07 0x01 target t else s1
  if s.mode = 4 then (s2.put MPC_ISLAND_PLAY 0).reqWait none true
  else if s.mode = 1 ∧ target = 2 ∧ (!atTime || late) then s2.startWake.reqWait none true
  else if s.mode = 3 ∧ target = 2 then s2.proofStop.reqWait (some (2, 0)) false
  else s2.reqWait (some (target, if atTime then t else 0)) false

/-- A write of MPC_REQ. A request of node 0x00 counts as the head-end's, that hub's own core and host among them; a local one is the
hub's own. In WATCH it is a wake source as well, but for an accepted request to MAINTAIN, which wins over the wake (R63), and a
timed one. DESIGN CHOICE, log entry 43. -/
def State.modeRequest (s : State) (w : Word) (node chip : Nat) : State :=
  let target := wordField w 0 3
  let atTime := w.getLsbD 4
  let s0 := s.mpcWrite
  let code := s0.judge target atTime false (node == s.node && chip == s.chip) (node == 0)
  let s1 := if code = 0 then s0.reqAccept target atTime else s0.reqStat 3 code
  if s.mode = 1 then
    let s2 := s1.put MPC_WAKE_CAUSE_REQ 1
    if s2.on MPC_MODE_TRANS || !s.master || (code = 0 && (target = 5 || atTime)) then s2 else s2.startWake
  else s1

/-- MODE_REQUEST (R62, R79). -/
def execModeRequest (word : Word) (who : Who) (s : State) : Out :=
  .next (s.cmd MPC_REQ fun s => s.modeRequest word who.node.toNat who.chip.val)

/-- A request whose boundary has come takes effect, or is refused if the hub no longer allows it. -/
def State.reqTake (s : State) (target : Nat) : State :=
  let s1 : State := { s with sys := { s.sys with req := none } }
  let code := s1.permit target false
  if code ≠ 0 then s1.reqStat 3 code
  else if target = 2 ∧ s1.mode = 1 then ({ s1 with sys := { s1.sys with waitRun := true } } : State).startWake
  else if target = 5 then
    let s2 := s1.toMaintain
    if s2.mode = 5 then s2.reqStat 2 0 else s2
  else (s1.setMode target).reqStat 2 0

/-- MODE_REQUEST_TIMED (R62): the boundary at or after MPC_REQ_T. -/
def execModeRequestTimed (s : State) : Out :=
  .next (match s.sys.req with
    | some (target, t) =>
      let s1 := s.toBoundary
      if 0 < t ∧ t ≤ s1.now ∧ !s1.on MPC_MODE_TRANS then (s1.reqTake target).actHeld else s
    | none => s)

/-- The mode change that an apply carries (R64 to R66): a request at the apply instant, for which a ring-wide commit allows WATCH and
DORMANT; it takes the place of one that waits. -/
def State.commitMode (s : State) (sh : Word) (ring : Bool) : State :=
  let target := wordField sh 0 3
  if !sh.getLsbD 7 then s
  else if !s.on MPC_MODE_FTEST && target == s.mode then s.reqStat 2 0
  else
    let code := s.judge target false ring true false
    let s0 := s.reqWait none false
    if code ≠ 0 then s.reqStat 3 code
    else match target with
      | 0 => (s0.reqStat 1 0).dormantGo
      | 1 => ((s0.setMode 1).reqStat 2 0).watchLanes
      | 2 =>
        if s.mode = 1 then ((s0.reqStat 1 0).reqWait none true).startWake
        else (s0.proofStop.setMode 2).reqStat 2 0
      | 5 =>
        let s1 := (s0.reqStat 1 0).toMaintain
        if s1.mode = 5 then s1.reqStat 2 0 else s1
      | m => (s0.setMode m).reqStat 2 0

/-! ### Boundaries -/

/-- Whether a hub that boots may leave MAINTAIN (R61, R81). -/
def State.bootDone (s : State) : Bool :=
  s.mode == 5 && s.on MPC_MODE_BOOTING && s.sys.recordOn && s.linkIn && s.listed && !s.on MPC_MODE_FTEST

/-- The end of the boot: RUN, or WATCH after a DORMANT wake that goes no further (R71). -/
def State.bootExit (s : State) : State :=
  match s.sys.woke with
  | some false =>
    let s1 := ((s.put MPC_MODE_BOOTING 0).setMode 1).wakeLat
    { s1 with sys := { s1.sys with woke := none } }
  | _ => s.setMode 2

/-- The end of a handover of R80: MAINTAIN, whoever holds the anchor now. -/
def State.handDone (s : State) : Bool :=
  s.sys.hand && !([1, 3, 4].contains (s.get RED_TWIN_STAT_STATE))

/-- A transition without a request; PROOF ends on the master only (R67). -/
def State.ownTransition (s : State) : Option State :=
  if s.mode = 3 ∧ s.get TST_PSTAT_STATE ≠ 1 ∧ s.master then some (s.setMode 2)
  else if s.bootDone then some s.bootExit
  else none

/-- The transition that is due at the boundary the hub stands at, in the order of R63. DEDUCED, log entry 43. -/
def State.transition (s : State) : Option State :=
  if s.handDone then
    let s1 := s.setMode 5
    some (if s1.get MPC_REQ_STAT_STATE = 1 && s1.sys.req.isNone then s1.reqStat 2 0 else s1)
  else if s.mode = 1 ∧ s.on MPC_MODE_TRANS ∧ s.sys.wakeT.isSome then some (s.setMode 2)
  else if s.on MPC_MODE_TRANS then none
  else if s.upd.act && s.master && [1, 2, 3].contains s.mode then some s.toMaintain
  else if s.upd.act && s.mode == 5 then some (s.warmReset 0x06)
  else match s.sys.req with
    | some (target, t) => if t ≤ s.now then some (s.reqTake target) else s.ownTransition
    | none => s.ownTransition

/-- MODE_TRANSITION (R61, R63): the transition that is due at the next boundary. -/
def execModeTransition (s : State) : Out :=
  let s0 := s.toBoundary
  .next (if s0.islandDue then s0.islandNow
  else match s0.transition with | some s1 => s1.actHeld | none => s)

/-! ### WATCH and DORMANT (R65 to R75) -/

/-- WATCH_WAKE (R75): `src` is the bit of MPC_WAKE_CAUSE. -/
def execWatchWake (src : Fin 20) (s : State) : Out :=
  .next (if src.val = 0 then s else s.wakeBy src.val)

/-- The rail outputs after a DORMANT entry (R69, R476). -/
def State.railsDown (s : State) : State :=
  let pen := s.get LPW_SEQ_STAT_PEN &&& s.get MPC_DORM_PEN_KEEP
  (((s.put LPW_SEQ_STAT_PEN pen).put LPW_SEQ_STAT_INWIN (s.get LPW_SEQ_STAT_INWIN &&& pen)).put LPW_SEQ_STAT_STATE 0).put
    LPW_STAT_RAILS_OK 0

/-- The entry to DORMANT (R66, R69): the anchor released, the ports off, the hold pins latched, the wake timer reloaded, the
rails not kept switched off; without VDDIO the hold pins lose their drive. DEDUCED, log entry 43. -/
def State.dormantEntry (s : State) : State :=
  let s0 := if s.get MPC_REQ_STAT_STATE = 1 ∧ s.sys.req.isNone then s.reqStat 2 0 else s
  let s1 := s0.padCapture.anchorDormant.mbDormant.coresRun false
  let s2 := ((((s1.put MPC_MODE_PREV s.mode).put MPC_MODE_CUR 0).put MPC_MODE_TRANS 0).railsDown).put MSA_STAT_INIT_DONE 0
  let s3 := if s2.rd MPC_WAKE_RELOAD = 0#32 then s2 else s2.setWakeTimer (s2.rd MPC_WAKE_RELOAD)
  let s4 := s3.each (List.range 4) fun s l => (s.setTrain l 0).put (LANE_STAT_UP l) 0
  { s4 with
    lsv := { s4.lsv with actQ := [] }
    sys := { s4.sys with
      dormT := false, retrain := false, recordOn := false, laneArm := 0, heldIsl := none, heldWake := 0, heldMode := none
      req := none, waitRun := false
      holdOe := if s4.getBit MPC_DORM_PEN_KEEP 3 then s4.sys.holdOe else 0 } }

/-- Whether a DORMANT wake goes on to RUN (R71): WAKE_N or a contact input among its sources, or MPC_DORM.WAKE_RUN. Of several
sources latched together, one such is enough. DESIGN CHOICE, log entry 43. -/
def State.wakeRuns (s : State) (srcs : Nat) : Bool :=
  s.on MPC_DORM_WAKE_RUN || srcs.testBit 3 || srcs / 2 ^ 8 % 2 ^ 8 != 0

/-- What a DORMANT wake leaves for the boot that follows it (R71, R73). -/
def State.wakeNote (s : State) (go : Bool) (pat : Nat) : State :=
  { s with sys := { s.sys with woke := some go, wakeT := some s.sys.t, wakePat := pat } }

/-- A wake in DORMANT (R70, R71): the sources, the reset-cause log, the rails, and the boot path as a warm reset. One that comes with
another reset which ends DORMANT competes with it (R86). -/
def State.dormantWake (s : State) (srcs : Nat) : State :=
  let s1 := s.wr MPC_WAKE_CAUSE (s.rd MPC_WAKE_CAUSE ||| BitVec.ofNat 32 srcs)
  let go := s1.wakeRuns srcs
  let pat := if s1.on MPC_DORM_WAKE_PAT then (if s1.master then 7 else 4) else 0
  if s1.mode = 0 then (s1.warmBody 0x08 s1.unitNow).wakeNote go pat
  else match s1.sameCycle with
    | some x => if causeRank 0x08 < causeRank x.1 then (s1.absorb 0x08 x).wakeNote go pat else s1.absorb 0x08 x
    | none => s1

/-- Whether a contact input has a wake comparator: it was measured and not in FAULT at the entry to DORMANT (R368). -/
def State.sciWakes (s : State) (n : Nat) : Bool := s.on (LSV_SCI_CFG_EN n) && s.get (LSV_SCI_STAT_STATE n) != 4

/-- The sources of a wake that act in DORMANT: enabled, the lane's wake armed, the timer running, a contact with a comparator, CAN
with the IO rail kept (R69, R70, R368). -/
def State.dormantSrcs (s : State) (srcs lane : Nat) : Nat :=
  (List.range 20).foldl (fun a i =>
    let ok := match i with
      | 0 => s.sys.laneArm.testBit lane
      | 1 | 4 => false
      | 2 => s.rd MPC_WAKE_TIMER != 0#32
      | 3 => true
      | _ => if i < 16 then s.mode != 0 || s.sciWakes (i - 8) else s.getBit MPC_DORM_PEN_KEEP 3
    if ok && srcs.testBit i && (s.rd MPC_WAKE_EN).getLsbD i then a + 2 ^ i else a) 0

/-- DORMANT_ENTRY (R66): the hub's own transmitters have stopped. Wakes that came meanwhile act (R63). -/
def execDormantEntry (s : State) : Out :=
  .next (if s.sys.dormT then
    let w := (List.range 20).foldl (fun a i => if s.sys.heldWake.testBit i && i != 1 && i != 4 then a + 2 ^ i else a) 0
    let s1 := s.dormantEntry
    if w = 0 then s1 else s1.dormantWake w
  else s)

/-- LANE_WAKE_ARM (R68): a lane that carries energy when its wake is armed wakes the hub. -/
def execLaneWakeArm (lane : Fin 4) (energy : Bool) (s : State) : Out :=
  .next (if s.mode = 0 then
    let s1 : State := { s with sys := { s.sys with laneArm := s.sys.laneArm ||| 2 ^ lane.val } }
    if energy && s1.on MPC_WAKE_EN_LANE then s1.dormantWake 1 else s1
  else s)

/-- DORMANT_WAKE (R70): `srcs` are the bits of MPC_WAKE_CAUSE whose conditions hold, `lane` the lane of an energy wake. One in the
slow-clock cycle of a reset that has ended DORMANT competes with it (R86). -/
def execDormantWake (srcs : BitVec 20) (lane : Fin 4) (s : State) : Out :=
  let m := s.dormantSrcs srcs.toNat lane.val
  let here := s.lpw.aon && (s.mode == 0 || (s.sameCycle.map fun x => x.2.2).getD false)
  .next (if here && m != 0 then (if m.testBit 2 then s.setWakeTimer 0#32 else s).dormantWake m else s)

/-- WAKE_PATTERN_END (R73): the lane goes on to DETECT. -/
def execWakePatternEnd (lane : Fin 4) (s : State) : Out :=
  .next (if s.sys.wakePat.testBit lane.val then
    let s1 : State := { s with sys := { s.sys with wakePat := setBitTo s.sys.wakePat lane.val false } }
    if s1.sys.recordOn && s1.laneEn lane.val && !s1.laneHost lane.val && !s1.inReset (laneBlk lane.val)
        && s1.trainSt lane.val == 0 then s1.detect lane.val
    else s1
  else s)

/-- WAKE_TIMER_EXPIRY (R70, R75): the timer stops at 0 and is a wake source. -/
def execWakeTimerExpiry (s : State) : Out :=
  .next (if s.rd MPC_WAKE_TIMER = 0#32 ∨ !s.lpw.aon then s
  else
    let s1 := s.setWakeTimer 0#32
    if s1.mode = 0 then (if s1.on MPC_WAKE_EN_TIMER then s1.dormantWake 4 else s1) else s1.wakeBy 2)

/-- RETRAIN_WINDOW_END (R65, R238): a ring lane that is still down counts as lost. -/
def execRetrainWindowEnd (s : State) : Out :=
  .next (if s.sys.retrain then
    let s1 : State := { s with sys := { s.sys with retrain := false } }
    s1.each [0, 1] fun s d => if s.laneUp d then s else s.planEnd d 0x82
  else s)

/-! ### PROOF, ISLAND and MAINTAIN (R76 to R81) -/

/-- PROOF_ABORT (R76): a ring loss that the sequence did not force, the loss of the partner's beat, or a line-power fault has
come. -/
def execProofAbort (s : State) : Out := .next (if s.tst.abort = 0 then s else s.proofStop)

/-- Whether a direction counts as lost for the island delay: `quiet` names those without a BEACON for the delay (R77). -/
def State.cutOff (s : State) (d : Nat) (quiet : BitVec 2) : Bool :=
  s.dirLost d || (s.on MPC_ISLAND_FRAG && quiet.getLsbD d)

/-- ISLAND_ENTRY (R67, R77): the island delay has passed with both directions lost, or, on a stacked hub, with S1 down.
DEDUCED, log entry 43. -/
def execIslandEntry (quiet : BitVec 2) (s : State) : Out :=
  .next (if !s.sys.recordOn || s.sys.retrain || s.sys.dormT then s
  else if s.master then (if s.cutOff 0 quiet && s.cutOff 1 quiet then s.islandGo else s)
  else if s.laneUp 3 then s
  else
    let s1 := s.islandGo
    if s1.mode = 4 ∧ s.mode ≠ 4 then { s1 with sys := { s1.sys with ownIsl := true } } else s1)

/-- ISLAND_EXIT (R79): at the next cycle boundary; a stacked hub leaves by itself an ISLAND that it has entered on its own (R67).
DEDUCED, log entry 43. -/
def execIslandExit (s : State) : Out :=
  let s1 := s.toBoundary
  .next (if s1.mode = 4 && !s1.on MPC_MODE_TRANS && (s1.master || s1.sys.ownIsl) && s1.linkIn && s1.listed && !s1.on MPC_ISLAND_PLAY then
    (s1.setMode 2).actHeld else s)

/-- FACTORY TEST begins: a request that waits is refused, and nothing held acts (R81). -/
def State.ftestBegin (s : State) : State :=
  let s1 := s.put MPC_MODE_FTEST 1
  let s2 := if s1.sys.req.isSome || s1.sys.waitRun then s1.reqStat 3 0x07 else s1
  { s2 with sys := { s2.sys with ftKey := none, req := none, waitRun := false, heldIsl := none, heldMode := none } }

/-- FTEST_KEY (R81). -/
def State.ftestKey (s : State) (v : Word) : State :=
  let arm (k : Option Nat) : State := { s with sys := { s.sys with ftKey := k } }
  if s.mode ≠ 5 ∨ !s.on ID_STRAP_TESTMODE then arm none
  else if v = 0x5A3C#32 then arm (some s.sys.t)
  else match s.sys.ftKey with
    | some t => if v = 0xC3A5#32 ∧ s.sys.t ≤ t + 250000 then s.ftestBegin else arm none
    | none => arm none

/-- FTEST_KEY (R81): a write of MPC_FTEST. -/
def execFtestKey (value : Word) (s : State) : Out := .next (s.cmd MPC_FTEST fun s => s.ftestKey value)

/-- STACK_MODE_RX (R67, R68): a stacked hub repeats onward the mode that S1 brings, whatever it does itself, and takes it at the end
of a transition in progress (R63). -/
def execStackModeRx (mode : Fin 6) (s : State) : Out :=
  .next (if s.master || !s.laneUp 3 then s
  else
    let s1 := s.stackSend mode.val
    if s.on MPC_MODE_TRANS then { s1 with sys := { s1.sys with heldMode := some mode.val } }
    else (s1.takeMode mode.val).actHeld)

end Sys2Proof.Machine
end

