-- ==== Sys2Proof/Machine/FaultCol.lean ====
section
/-! DEFINITION. The fault collector: its rules, actions, records, FAULT_N and injection (R441 to R452). -/
namespace Sys2Proof.Machine

/-! ### Rules and records (R443, R446) -/

/-- Whether rule `k` matches a message. -/
def State.ruleHits (s : State) (m : FaultMsg) (k : Nat) : Bool :=
  s.on (FLT_RULE_M_VALID k) && (s.get (FLT_RULE_M_SRC k) == 0xFF || s.get (FLT_RULE_M_SRC k) == m.src)
    && (s.get (FLT_RULE_M_KIND k) == 0 || s.get (FLT_RULE_M_KIND k) == m.kind)
    && decide (s.get (FLT_RULE_M_SEV_MIN k) ≤ m.sev)

/-- The rule that acts: the matching one with the lowest number. -/
def State.ruleOf (s : State) (m : FaultMsg) : Option Nat := (List.range 64).find? (s.ruleHits m)

/-- The open record of a source. -/
def State.recOf (s : State) (src : Nat) : Option Nat :=
  (List.range 16).find? fun n => s.getBit FLT_OPEN_REC n && s.get (FLT_REC_W0_SRC n) == src

/-- Merges a message into an open record. -/
def State.recMerge (s : State) (n : Nat) (m : FaultMsg) (fn : Bool) : State :=
  let s1 := (s.satAdd (FLT_REC_MCOUNT_MCOUNT n) 1).put (FLT_REC_W0_LKIND n) m.kind
  let s2 := ((s1.put (FLT_REC_W0_SEV n) (max (s.get (FLT_REC_W0_SEV n)) m.sev)).wr64 (FLT_REC_T1 n) s.now).bump (FLT_CNT 2)
  if fn then (s2.put (FLT_REC_W0_FN n) 1).setBit FLT_FN_REC n else s2

/-- Opens a record for a message. -/
def State.recOpen (s : State) (n : Nat) (m : FaultMsg) (rule : Option Nat) (fn : Bool) : State :=
  let w0 := m.src % 256 + m.kind % 256 * 2 ^ 8 + m.kind % 256 * 2 ^ 16 + m.sev % 4 * 2 ^ 24 + b2n fn * 2 ^ 26 + b2n m.inj * 2 ^ 27
  let hi := m.addr / 2 ^ 32 % 2 ^ 16 + rule.getD 0 * 2 ^ 16 + b2n rule.isSome * 2 ^ 22
  let s1 := ((s.wr (FLT_REC_W0 n) (BitVec.ofNat 32 w0)).wr (FLT_REC_ADDR_LO n) (BitVec.ofNat 32 m.addr)).wr
    (FLT_REC_ADDR_HI n) (BitVec.ofNat 32 hi)
  let s2 := (((s1.put (FLT_REC_MCOUNT_MCOUNT n) 0).wr64 (FLT_REC_T0 n) s.now).wr64 (FLT_REC_T1 n) s.now).bump (FLT_CNT 1)
  let s3 := s2.setBit FLT_OPEN_REC n
  if fn then s3.setBit FLT_FN_REC n else s3.clrBit FLT_FN_REC n

/-- Records a message whose rule logs; whether it stays without merging into a record (R446, R447). -/
def State.recLog (s : State) (m : FaultMsg) (rule : Option Nat) (fn : Bool) : State × Bool :=
  match s.recOf m.src with
  | some n => (s.recMerge n m fn, false)
  | none =>
    match (List.range 16).find? fun n => !s.getBit FLT_OPEN_REC n with
    | some n => (s.recOpen n m rule fn, true)
    | none =>
      let s1 := (s.put FLT_STAT_REC_OVF 1).bump (FLT_CNT 4)
      (if fn then s1.put FLT_STAT_FN_ORPHAN 1 else s1, true)

/-- The actions of a rule beside the record (R444); the block reset comes last. DEDUCED, log entry 44. -/
def State.ruleAct (s : State) (k : Nat) (fresh : Bool) : State :=
  let s1 := if s.on (FLT_RULE_A_IRQ k) && fresh then s.edgeIrq 0x05 (14 + s.get (FLT_RULE_A_LINE k)) else s
  let s2 := if s.on (FLT_RULE_A_SAFE k) then s1.put FLT_STAT_SAFE 1 else s1
  let s3 := if s.on (FLT_RULE_A_YIELD k) then s2.twinYield else s2
  let s4 := if s.on (FLT_RULE_A_ISLAND k) then s3.islandCause else s3
  if s.on (FLT_RULE_A_RESET k) then s4.unitRequest 0x05 (s.get (FLT_RULE_A_UNIT k)) else s4

/-- Processes one message. DEDUCED, log entry 44. -/
def State.faultTake (s : State) (m : FaultMsg) : State :=
  let s0 := (s.bump (FLT_CNT 0)).when m.inj fun s => s.bump (FLT_CNT 6)
  match s0.ruleOf m with
  | none => (s0.recLog m none false).1
  | some k =>
    let fn := s0.on (FLT_RULE_A_FAULTN k)
    if s0.on (FLT_RULE_A_LOG k) then
      let r := s0.recLog m (some k) fn
      r.1.ruleAct k r.2
    else ((s0.bump (FLT_CNT 3)).when fn fun s => s.put FLT_STAT_FN_ORPHAN 1).ruleAct k true

/-- FAULT_PROCESS (R441): the message at the head of the intake queue. -/
def execFaultProcess (s : State) : Out :=
  .next (s.when (s.open_ 0x05) fun s => match s.fltQ with
    | [] => s
    | m :: r => ({ s with fltQ := r } : State).faultTake m)

/-- Closes records (R448). DEDUCED, log entry 44. -/
def State.recClose (s : State) (mask : Nat) : State :=
  s.each (bitList 16 mask) fun s n => (s.clrBit FLT_OPEN_REC n).clrBit FLT_FN_REC n

/-- FAULT_RECORD_CLOSE (R448): a write of FLT_OPEN. -/
def execFaultRecordClose (mask : BitVec 16) (s : State) : Out := .next (s.cmd FLT_OPEN fun s => s.recClose mask.toNat)

/-- The words of a record beside W0. -/
def State.recWords (s : State) (n : Nat) : List Word := (List.range 7).map fun i => s.rd (FLT_REC_W0 n + 4 * (i + 1))

/-- A read of word `w` of record `n` by a requester: W0 latches the other words for it (R448).
DEDUCED, log entry 44. -/
def State.recRead (s : State) (key n w : Nat) : State × Nat :=
  if w = 0 then
    ({ s with recLatch := Tab.set (fun _ => none) s.recLatch (16 * key + n) (some (s.recWords n)) }, (s.rd (FLT_REC_W0 n)).toNat)
  else
    match Tab.get (fun _ => none) s.recLatch (16 * key + n) with
    | some l => (s, (l.getD (w - 1) 0#32).toNat)
    | none => (s, (s.rd (FLT_REC_W0 n + 4 * w)).toNat)

/-- FAULT_RECORD_READ (R448). -/
def execFaultRecordRead (n : Fin 16) (word : Fin 8) (who : Who) (s : State) : Out :=
  .next (s.readCmd (FLT_REC_W0 n.val) (whoKey who) fun s => s.recRead (whoKey who) n.val word.val)

/-- SAFE_CLR (R445). -/
def execSafeClr (s : State) : Out := .next (s.cmd FLT_CMD fun s => s.put FLT_STAT_SAFE 0)

/-! ### FAULT_N (R99, R449) -/

/-- Whether FAULT_N is driven low: until the record is applied, and while an open record or FN_ORPHAN asserts it. In DORMANT
it keeps its level. -/
def State.faultN (s : State) : Bool :=
  (!s.sys.recordOn && s.mode != 0) || s.get FLT_FN_REC != 0 || s.on FLT_STAT_FN_ORPHAN

/-! ### Injection (R450) -/

/-- A write of FLT_INJ_W0 in FACTORY TEST. -/
def State.injWrite (s : State) (w : Word) : State :=
  let s1 := s.wr FLT_INJ_W0 (w &&& 0x3FFFF#32)
  if w.getLsbD 31 then
    s1.faultMsg ⟨wordField w 0 8, wordField w 8 8, wordField w 16 2,
      s1.get FLT_INJ_ADDR_LO_ADDR + 2 ^ 32 * s1.get FLT_INJ_ADDR_HI_ADDR, true, s1.sys.t⟩
  else s1

/-- FAULT_INJECT (R450): refused with ACCESS outside FACTORY TEST. -/
def execFaultInject (word : Word) (who : Who) (s : State) : Out :=
  .next (s.ackCmd FLT_INJ_W0 (whoKey who) fun s => if s.on MPC_MODE_FTEST then (s.injWrite word, 0) else (s, 0x05))

end Sys2Proof.Machine
end

