-- ==== Sys2Proof/Machine/ShadowMap.lean ====
section
/-! DEFINITION. Which register is the shadow of which (R119): the registers named X_SH of the chapters, and the shadow banks
of the tables. -/
namespace Sys2Proof.Machine

/-- A pair of registers: offsets of the active and the shadow register, two index ranges (count and step) that both share,
bytes, and whether they are the banks of a table. -/
structure ShRow where
  act : Nat
  sh : Nat
  n1 : Nat
  s1 : Nat
  n2 : Nat
  s2 : Nat
  bytes : Nat
  table : Bool
deriving DecidableEq, Repr

/-- The place of an offset in a row whose first register lies at `base`. -/
def ShRow.place (r : ShRow) (base o : Nat) : Option Nat :=
  if o < base then none else
  let d := o - base
  let i := if r.n1 ≤ 1 then 0 else d / r.s1
  let e := d - i * r.s1
  let j := if r.n2 ≤ 1 then 0 else e / r.s2
  if i < r.n1 ∧ j < r.n2 ∧ e - j * r.s2 < r.bytes then some d else none

def shRows0 : List ShRow := [
  ⟨0x50400, 0x50800, 64, 8, 1, 0, 4, false⟩, -- FLT_RULE_M
  ⟨0x50404, 0x50804, 64, 8, 1, 0, 4, false⟩, -- FLT_RULE_A
  ⟨0x70004, 0x70008, 1, 0, 1, 0, 4, false⟩, -- MSA_PART
  ⟨0x70040, 0x70080, 1, 0, 1, 0, 4, false⟩, -- MSA_WPROT
  ⟨0x70044, 0x70084, 1, 0, 1, 0, 4, false⟩, -- MSA_WPROT
  ⟨0x70048, 0x70088, 1, 0, 1, 0, 4, false⟩, -- MSA_WPROT
  ⟨0x7004C, 0x7008C, 1, 0, 1, 0, 4, false⟩, -- MSA_WPROT
  ⟨0x70050, 0x70090, 1, 0, 1, 0, 4, false⟩, -- MSA_WPROT
  ⟨0x80004, 0x80008, 2, 0x10000, 1, 0, 4, false⟩, -- LANE_CTL
  ⟨0x8000C, 0x80010, 4, 0x10000, 1, 0, 4, false⟩, -- LANE_TXEQ
  ⟨0xA0004, 0xA0008, 2, 0x10000, 1, 0, 4, false⟩, -- LANE_CTL
  ⟨0xC0004, 0xC0008, 1, 0, 1, 0, 4, false⟩, -- RPE_CTL
  ⟨0xC000C, 0xC0010, 1, 0, 1, 0, 4, false⟩, -- RPE_CEN_CTL
  ⟨0xC0014, 0xC0018, 1, 0, 1, 0, 4, false⟩, -- RPE_SCHED_CTL
  ⟨0xC4000, 0xC6000, 2, 0x1000, 1024, 4, 4, true⟩, -- RPE_SCHED
  ⟨0xD0004, 0xD0008, 1, 0, 1, 0, 4, false⟩, -- FWD_PIN_CTL
  ⟨0xD0100, 0xD0200, 5, 0x20, 1, 0, 4, false⟩, -- FWD_LIM_0
  ⟨0xD0104, 0xD0204, 5, 0x20, 1, 0, 4, false⟩, -- FWD_LIM_1
  ⟨0xD0108, 0xD0208, 5, 0x20, 1, 0, 4, false⟩, -- FWD_LIM_2
  ⟨0xD010C, 0xD020C, 5, 0x20, 1, 0, 4, false⟩, -- FWD_LIM_3
  ⟨0xD0110, 0xD0210, 5, 0x20, 1, 0, 4, false⟩, -- FWD_LIM_4
  ⟨0xD1000, 0xD2000, 1024, 4, 1, 0, 4, true⟩, -- FWD_NODET
  ⟨0xD3000, 0xD3200, 128, 4, 1, 0, 4, true⟩, -- FWD_PINT
  ⟨0xD4000, 0xD8000, 4096, 4, 1, 0, 4, true⟩, -- FWD_MCT
  ⟨0xE0004, 0xE0008, 1, 0, 1, 0, 4, false⟩, -- RED_CTL
  ⟨0xE000C, 0xE0010, 1, 0, 1, 0, 4, false⟩, -- RED_DUP_CTL
  ⟨0xE0014, 0xE0018, 1, 0, 1, 0, 4, false⟩, -- RED_GAP_POL
  ⟨0xE001C, 0xE0020, 1, 0, 1, 0, 4, false⟩, -- RED_TWIN_CTL
  ⟨0xE0050, 0xE0090, 1, 0, 1, 0, 4, false⟩, -- RED_ANCH_A
  ⟨0xE0054, 0xE0094, 1, 0, 1, 0, 4, false⟩] -- RED_ANCH_B

def shRows1 : List ShRow := [
  ⟨0xE0058, 0xE0098, 4, 4, 1, 0, 4, false⟩, -- RED_SAFE
  ⟨0xE0068, 0xE00A8, 1, 0, 1, 0, 4, false⟩, -- RED_MHOLD_A
  ⟨0xE006C, 0xE00AC, 1, 0, 1, 0, 4, false⟩, -- RED_MHOLD_B
  ⟨0xE0070, 0xE00B0, 1, 0, 1, 0, 4, false⟩, -- RED_TWIN_Q_LO
  ⟨0xE0074, 0xE00B4, 1, 0, 1, 0, 4, false⟩, -- RED_TWIN_Q_HI
  ⟨0xF0004, 0xF0804, 1, 0, 1, 0, 4, false⟩, -- TIME_CTL
  ⟨0xF0008, 0xF0808, 1, 0, 1, 0, 4, false⟩, -- TIME_SERVO
  ⟨0xF0048, 0xF0848, 1, 0, 1, 0, 4, false⟩, -- TIME_PPS_CTL
  ⟨0xF004C, 0xF084C, 1, 0, 1, 0, 4, false⟩, -- TIME_PPS_OFS
  ⟨0xF005C, 0xF085C, 1, 0, 1, 0, 4, false⟩, -- TIME_FE_TRIM
  ⟨0xF0080, 0xF0880, 4, 0x10, 1, 0, 4, false⟩, -- TIME_PORT_CTL
  ⟨0xF00C0, 0xF08C0, 4, 0x10, 1, 0, 4, false⟩, -- TIME_MCG_NUM
  ⟨0xF00C4, 0xF08C4, 4, 0x10, 1, 0, 4, false⟩, -- TIME_MCG_DEN
  ⟨0xF00C8, 0xF08C8, 4, 0x10, 1, 0, 4, false⟩, -- TIME_MCG_CTL
  ⟨0x100000, 0x100040, 16, 0x1000, 1, 0, 4, false⟩, -- GG_CLK
  ⟨0x100004, 0x100044, 16, 0x1000, 1, 0, 4, false⟩, -- GG_MAP
  ⟨0x100008, 0x100048, 16, 0x1000, 1, 0, 4, false⟩, -- GG_EXEC
  ⟨0x100010, 0x100050, 16, 0x1000, 8, 4, 4, false⟩, -- GG_SLOT
  ⟨0x100030, 0x100070, 16, 0x1000, 1, 0, 4, false⟩, -- GG_FIFO
  ⟨0x100104, 0x100144, 16, 0x1000, 7, 4, 4, false⟩, -- GG_MARK
  ⟨0x10081C, 0x10085C, 1, 0, 1, 0, 4, false⟩, -- GG_AUTO
  ⟨0x100820, 0x100860, 4, 4, 1, 0, 4, false⟩, -- GG_GMEM
  ⟨0x111000, 0x111030, 64, 0x40, 1, 0, 4, false⟩, -- SQ_CFG
  ⟨0x111004, 0x111034, 64, 0x40, 1, 0, 4, false⟩, -- SQ_GEOM
  ⟨0x111008, 0x111038, 64, 0x40, 1, 0, 4, false⟩, -- SQ_DEST0
  ⟨0x11100C, 0x11103C, 64, 0x40, 1, 0, 4, false⟩, -- SQ_DEST1
  ⟨0x120010, 0x124010, 1, 0, 1, 0, 4, false⟩, -- LSV_SWP
  ⟨0x120100, 0x124100, 8, 0x20, 1, 0, 4, false⟩, -- LSV_SCI_CFG
  ⟨0x120104, 0x124104, 8, 0x20, 1, 0, 4, false⟩, -- LSV_SCI_TH_LO
  ⟨0x120108, 0x124108, 8, 0x20, 1, 0, 4, false⟩] -- LSV_SCI_TH_HI

def shRows2 : List ShRow := [
  ⟨0x120400, 0x124400, 8, 0x40, 1, 0, 4, false⟩, -- LSV_LS_CTL
  ⟨0x120404, 0x124404, 8, 0x40, 1, 0, 4, false⟩, -- LSV_LS_PILOT
  ⟨0x120408, 0x124408, 8, 0x40, 1, 0, 4, false⟩, -- LSV_LS_SCALE
  ⟨0x12040C, 0x12440C, 8, 0x40, 1, 0, 4, false⟩, -- LSV_LS_WIN
  ⟨0x120800, 0x124800, 16, 4, 1, 0, 4, false⟩, -- LSV_ACT
  ⟨0x130000, 0x130040, 4, 0x4000, 1, 0, 4, false⟩, -- MB_CTL
  ⟨0x130004, 0x130044, 4, 0x4000, 1, 0, 4, false⟩, -- MB_NBT
  ⟨0x130008, 0x130048, 4, 0x4000, 1, 0, 4, false⟩, -- MB_DBT
  ⟨0x13000C, 0x13004C, 4, 0x4000, 1, 0, 4, false⟩, -- MB_TDC
  ⟨0x130010, 0x130050, 1, 0, 1, 0, 4, false⟩, -- MB_OBJ
  ⟨0x131000, 0x132800, 4, 0x4000, 1536, 4, 4, true⟩, -- MB_DIR
  ⟨0x134010, 0x134050, 1, 0, 1, 0, 4, false⟩, -- MB_OBJ
  ⟨0x138010, 0x138050, 1, 0, 1, 0, 4, false⟩, -- MB_OBJ
  ⟨0x13C010, 0x13C050, 1, 0, 1, 0, 4, false⟩, -- MB_OBJ
  ⟨0x140004, 0x140044, 1, 0, 1, 0, 4, false⟩, -- HBR_CTL
  ⟨0x140008, 0x140048, 1, 0, 1, 0, 4, false⟩, -- HBR_MAC_LO
  ⟨0x14000C, 0x14004C, 1, 0, 1, 0, 4, false⟩, -- HBR_MAC_HI
  ⟨0x140028, 0x140068, 1, 0, 1, 0, 4, false⟩, -- HBR_SEM_CTL
  ⟨0x150010, 0x150810, 1, 0, 1, 0, 4, false⟩, -- LPW_BUS
  ⟨0x150014, 0x150814, 1, 0, 1, 0, 4, false⟩, -- LPW_SEQ
  ⟨0x150100, 0x150900, 2, 0x40, 1, 0, 4, false⟩, -- LPW_P_CFG
  ⟨0x150104, 0x150904, 2, 0x40, 1, 0, 4, false⟩, -- LPW_P_WIN
  ⟨0x150108, 0x150908, 2, 0x40, 1, 0, 4, false⟩, -- LPW_P_LIM
  ⟨0x15010C, 0x15090C, 2, 0x40, 1, 0, 4, false⟩, -- LPW_P_TIM
  ⟨0x160018, 0x160034, 1, 0, 1, 0, 4, false⟩, -- UPD_ACT
  ⟨0x180090, 0x1800A0, 1, 0, 1, 0, 4, false⟩, -- BIV_HOLD_A
  ⟨0x180094, 0x1800A4, 1, 0, 1, 0, 4, false⟩] -- BIV_HOLD_B

/-- Every pair. -/
def shRows : List ShRow := shRows0 ++ shRows1 ++ shRows2

/-- The row and the active offset of a shadow offset. -/
def shActive (o : Nat) : Option (ShRow × Nat) :=
  shRows.findSome? fun r => (r.place r.sh o).map fun d => (r, r.act + d)

/-- The row and the shadow offset of an active offset that has a shadow. -/
def shShadow (o : Nat) : Option (ShRow × Nat) :=
  shRows.findSome? fun r => (r.place r.act o).map fun d => (r, r.sh + d)

end Sys2Proof.Machine
end

