-- ==== Sys2Proof/Machine/Commit.lean ====
section
/-! DEFINITION. Staging, the consistency check, the apply and the ring-wide commit (R119 to R131, R526, R527). -/
namespace Sys2Proof.Machine

/-! ### Shadows (R119, R124) -/

/-- The registers after every shadow has become active and every table has swapped its banks. Line power's active registers
are on the P-die and take their values later (R455). -/
def applyRegs (regs : Tab Word) : Tab Word :=
  let here (e : Nat × Word) : Bool := blkOf e.1 != 0x15
  let rest := regs.filter fun e => !here e || ((shShadow e.1).isNone && match shActive e.1 with
    | some (r, _) => !r.table
    | none => true)
  let up := (regs.filter here).filterMap fun e => (shActive e.1).map fun x => (x.2, e.2)
  let down := (regs.filter here).filterMap fun e => (shShadow e.1).bind fun x => if x.1.table then some (x.2, e.2) else none
  (up ++ down).foldl (fun t e => Tab.set regReset t e.1 e.2) rest

/-- The registers after every active register and bank has been copied into its shadow. -/
def syncRegs (regs : Tab Word) : Tab Word :=
  (regs.filterMap fun e => (shShadow e.1).map fun x => (x.2, e.2)).foldl (fun t e => Tab.set regReset t e.1 e.2)
    (regs.filter fun e => (shActive e.1).isNone)

/-- The copy of R119, which clears MPC_REQ_SH too. -/
def State.syncShadows (s : State) : State := ({ s with regs := syncRegs s.regs } : State).clr MPC_REQ_SH

/-- Every shadow at its reset value (R117). -/
def State.dropShadows (s : State) : State :=
  ({ s with regs := s.regs.filter fun e => (shActive e.1).isNone } : State).clr MPC_REQ_SH

/-- The hub as the shadows would have it, for the check; line power's windows play no part in it. -/
def State.staged (s : State) : State := { s with regs := applyRegs s.regs }

/-! ### The consistency check (R122) -/

/-- A failing rule: its code, its block and the entry, port or pin concerned. -/
structure Flaw where
  code : Nat
  blk  : Nat
  idx  : Nat
deriving DecidableEq, Repr

/-- One entry for each index that fails. -/
def flaws (code blk : Nat) (l : List Nat) : List Flaw := l.map fun i => ⟨code, blk, i⟩

/-- The smallest bank counts of the partitions. -/
def partMin : List Nat := [4, 1, 1, 2, 0]

/-- Partitions (R35, R36). `t` is the staged hub. -/
def State.partFlaws (s t : State) : List Flaw :=
  flaws 0x10 0x07 (if t.partCounts.foldl (· + ·) 0 ≠ 16 then [0] else [])
  ++ flaws 0x11 0x07 ((List.range 5).filter fun p => decide (t.partCounts.getD p 0 < partMin.getD p 0))
  ++ flaws 0x12 0x07 (if t.rd MSA_PART ≠ s.rd MSA_PART ∧ s.mode ≠ 5 then [0] else [])
  ++ flaws 0x13 0x13 (if t.get MSA_PART_MOBJ = 0 then (List.range 4).filter fun n => t.on (MB_CTL_EN n) else [])

/-- The cells that every limit and reservation of a port takes. -/
def State.limCells (t : State) (p : Nat) : Nat :=
  t.get (FWD_LIM_0_C0 p) + t.get (FWD_LIM_0_C1 p) + t.get (FWD_LIM_1_C2 p) + t.get (FWD_LIM_1_C3 p) + t.get (FWD_LIM_2_C4 p)
    + t.get (FWD_LIM_2_C5REQ p) + t.get (FWD_LIM_3_C5RSP p) + t.get (FWD_LIM_3_C6 p) + t.get (FWD_LIM_4_RES7 p)

/-- The cells of the limits of all ports and of staging (R206, R224). -/
def State.cellsTaken (t : State) : Nat := 170 + ((List.range 5).map t.limCells).foldl (· + ·) 0

/-- Frame buffer limits (R224). -/
def bufFlaws (t : State) : List Flaw :=
  flaws 0x20 0x0D (if t.get MSA_PART_FB * 4096 < t.cellsTaken then [0] else [])
  ++ flaws 0x21 0x0D ((List.range 5).filter fun p => decide (t.get (FWD_LIM_4_RES7 p) < 17))

/-- Slot tables (R197). DEDUCED, log entry 45. -/
def schedFlaws (t : State) (d : Nat) : List Flaw :=
  let es := ((List.range 512).map fun i => (i, t.schedEntry d i)).filter fun e => e.2.testBit 10 || e.2.testBit 11
  let slot (e : Nat × Nat) : Nat := bits e.2 0 10
  let wins := es.filter fun e => e.2.testBit 10
  let start (e : Nat × Nat) : Nat := bits e.2 16 15
  let stop (e : Nat × Nat) : Nat := start e + bits e.2 32 15
  let clash (e f : Nat × Nat) : Bool := f.1 < e.1 &&
    ((e.2.testBit 10 && f.2.testBit 10 && (slot e == slot f || (decide (start e < stop f) && decide (start f < stop e))))
      || (e.2.testBit 11 && f.2.testBit 11 && slot e == slot f))
  flaws 0x30 0x0C ((es.filter fun e => decide (512 ≤ slot e) || (e.2.testBit 10 && decide (31250 < stop e))).map (·.1))
  ++ flaws 0x31 0x0C (((if wins.isEmpty && es.length < 2 then [] else es).filter fun e => es.any (clash e)).map (·.1))

/-- The pins claimed by slots and by media clock generators, each claim once (R286, R289). -/
def State.claims (t : State) : List Nat :=
  ((List.range 128).filterMap fun i =>
    if t.on (GG_SLOT_VALID (i / 8) (i % 8)) then some (t.get (GG_SLOT_PIO (i / 8) (i % 8))) else none)
  ++ (List.range 4).filterMap fun g => if t.on (TIME_MCG_CTL_PIN_EN g) then some (60 + t.get (TIME_MCG_CTL_PIN g)) else none

/-- Pins (R260, R289). DEDUCED, log entry 45. -/
def pinFlaws (t : State) : List Flaw :=
  flaws 0x40 0x10 ((List.range 64).filter fun p => decide (2 ≤ (t.claims.filter (· == p)).length))
  ++ flaws 0x41 0x0E ((List.range 64).filter fun p => t.anchored p && t.get (RED_SAFE_SAFE (p / 16) (p % 16)) == 3)

/-- Whether two ranges of numbers share a number; an empty range shares none. -/
def overlap (a b : Nat × Nat) : Bool := decide (max a.1 b.1 < min a.2 b.2)

/-- The bytes of the MOBJ partition that a port's objects take (R393). -/
def State.mbSpan (t : State) (n : Nat) : Nat × Nat :=
  (t.get (MB_OBJ_BASE n) * 256, t.get (MB_OBJ_BASE n) * 256 + t.get (MB_OBJ_COUNT n) * 80)

/-- The transmit objects of a port: index, and identifier with IDE. -/
def State.txIds (t : State) (n : Nat) : List (Nat × Nat) :=
  ((List.range (t.get (MB_OBJ_COUNT n))).filter fun i => t.on (MB_DIR_VALID n i) && t.on (MB_DIR_TX n i)).map fun i =>
    (i, (t.rd (MB_DIR n i)).toNat % 2 ^ 30)

/-- Whether two ports are wired to one bus; a port shares with itself. -/
def State.oneBus (t : State) (n m : Nat) : Bool :=
  n == m || (t.get (MB_CTL_BUSID n) != 0 && t.get (MB_CTL_BUSID n) == t.get (MB_CTL_BUSID m))

/-- Message objects (R393, R404). DEDUCED, log entry 45. -/
def mobjFlaws (t : State) : List Flaw :=
  let on (n : Nat) : Bool := t.on (MB_CTL_EN n)
  let ids := (List.range 4).flatMap fun n => (t.txIds n).map fun x => (n, x.1, x.2)
  flaws 0x50 0x13 ((List.range 4).filter fun n =>
    decide (1536 < t.get (MB_OBJ_COUNT n)) || (t.get (MB_OBJ_COUNT n) != 0 && decide (t.partSize 4 < (t.mbSpan n).2))
      || (List.range n).any fun m => on n && on m && overlap (t.mbSpan n) (t.mbSpan m))
  ++ flaws 0x51 0x13 ((ids.filter fun x => ids.any fun y =>
      x.2.2 == y.2.2 && t.oneBus x.1 y.1 && (decide (y.1 < x.1) || (y.1 == x.1 && decide (y.2.1 < x.2.1)))).map (·.2.1))

/-- The bytes of the SQ partition that a queue takes (R342, R359). -/
def State.sqSpan (t : State) (q : Nat) : Nat × Nat :=
  let w := t.get (SQ_CFG_ITEM_W q)
  let b := t.get (SQ_GEOM_BASE q) * 256
  (b, b + min 1024 (max 2 (t.get (SQ_GEOM_ITEMS q))) * (8 + 8 * (if w = 0 then 256 else w)))

/-- Stream queues (R342). DEDUCED, log entry 45. -/
def sqFlaws (t : State) : List Flaw :=
  let on := (List.range 64).filter fun q => t.on (SQ_CFG_EN q)
  flaws 0x60 0x11 (on.filter fun q =>
    decide (t.partSize 2 < (t.sqSpan q).2) || on.any fun r => decide (r < q) && overlap (t.sqSpan q) (t.sqSpan r))

/-- Twinning, profile LONG and write protection (R24, R39, R193). -/
def miscFlaws (t : State) : List Flaw :=
  flaws 0x70 0x0E (if t.on RED_TWIN_CTL_TWIN && t.chip != 0 then [0] else [])
  ++ (if t.on RPE_RING_PROFILE then
      flaws 0x72 0x0C (([0, 1].filter fun l => min 4 (t.get (LANE_CTL_RATE_MAX l)) != min 4 (t.get RPE_RING_RATE))
        ++ (if !t.on RPE_CTL_DUP6 || !t.on RPE_CTL_DUP7 || decide (40 < t.get RPE_CTL_BULK_CAP) then [0] else []))
    else [])
  ++ flaws 0x73 0x07 ((List.range 5).filter fun p =>
      !t.getBit (MSA_WPROT_WR p) 7 || (p == 0 && !t.getBit (MSA_WPROT_WR p) 0))

/-- Every failing rule; `timed` for an apply at a ring time (R2). DEDUCED, log entry 45. -/
def State.checkFlaws (s : State) (timed : Bool) : List Flaw :=
  let t := s.staged
  s.partFlaws t ++ bufFlaws t ++ schedFlaws t 0 ++ schedFlaws t 1 ++ pinFlaws t ++ mobjFlaws t ++ sqFlaws t ++ miscFlaws t
  ++ flaws 0x71 0x04 (if timed && s.rpe.floor == 1 then [0] else [])

/-- The flaw that CFG_CHECK_RES shows: the lowest code, and of that code the first. -/
def worst (l : List Flaw) : Option Flaw :=
  l.foldl (fun a f => match a with | some g => if f.code < g.code then some f else some g | none => some f) none

/-- Runs the check: the code, 0 when it passes. DEDUCED, log entry 45. -/
def State.runCheck (s : State) (timed : Bool) : State × Nat :=
  let l := s.checkFlaws timed
  match worst l with
  | none => (s, 0)
  | some f =>
    let n := ((List.range 256).filter fun c => l.any fun g => g.code == c).length
    ((((s.put CFG_CHECK_RES_CODE f.code).put CFG_CHECK_RES_BLK f.blk).put CFG_CHECK_RES_INDEX f.idx).put CFG_CHECK_RES_NFAIL
      (min 15 n), f.code)

/-! ### The apply (R124) -/

/-- A bank of the store whose partition changes is zeroed (R37). -/
def State.partApply (s old : State) : State :=
  let m := ((List.range 16).filter fun b => partOfBank s.partCounts b != partOfBank old.partCounts b).foldl
    (fun a b => a + 2 ^ b) 0
  if m = 0 then s
  else ({ s with store := { s.store with zeroing := s.store.zeroing ||| m } } : State).put MSA_STAT_ZEROING 1

/-- The pins that hold through a WARM reset: the shadows without the anchored pins (R102). Every latch lets go; a pin that the new
record marks hold and gives no driver is left undriven, which R101 does not say. DESIGN CHOICE, log entry 49. -/
def State.holdApply (s : State) : State :=
  let s1 := (s.wr BIV_HOLD_A (s.rd BIV_HOLD_A_SH &&& ~~~ s.rd RED_ANCH_A)).wr BIV_HOLD_B (s.rd BIV_HOLD_B_SH &&& ~~~ s.rd RED_ANCH_B)
  { s1 with sys := { s1.sys with holdOe := 0 } }

/-- Frames that wait for a ring lane come under R199 with the new tables: one without a window that can hold it is dropped as NOSLOT
(R199, R200). -/
def State.slotsAnew (s : State) : State :=
  let s1 := s.each [0, 1] fun s d =>
    let bad := (s.queue d 1).filter fun x => s.noSlot d x.f
    (s.setQueue d 1 ((s.queue d 1).filter fun x => !s.noSlot d x.f)).each bad fun s x => s.dropCopy x.inPort ⟨d, x.f, .noslot, false⟩
  let gone (h : Held) : Bool := decide (h.port < 2) && h.qi == 1 && s1.noSlot h.port h.qf.f
  let out := s1.fwd.held.filter gone
  ({ s1 with fwd := { s1.fwd with held := s1.fwd.held.filter fun h => !gone h } } : State).each out fun s h =>
    s.dropCopy h.qf.inPort ⟨h.port, h.qf.f, .noslot, false⟩

/-- The new tables and limits of the switch core (R199, R216, R222, R224). -/
def State.fwdApply (s old : State) : State :=
  let s1 := (s.wrapAdd FWD_STAT_GEN 1).put FWD_BUF_STAT_SPARE (s.get MSA_PART_FB * 4096 - s.cellsTaken)
  (s1.slotsAnew.drainsAfter old).locPump

/-- A ring-wide activation that the apply carries (R493). -/
def State.goApply (s : State) : State :=
  if !s.on UPD_ACT_GO then s
  else
    let s1 := s.put UPD_ACT_GO 0
    match s1.dirChosen with
    | some (_, d) =>
      if d.state = 1 then s1.activate d.cand
      else (((s1.put UPD_RES_CODE 0x16).put UPD_RES_OP 0).put UPD_EVT_REFUSED 1).fault 0x16 0x70 0x16
    | none => (((s1.put UPD_RES_CODE 0x16).put UPD_RES_OP 0).put UPD_EVT_REFUSED 1).fault 0x16 0x70 0x16

/-- The cores leave reset after the record's apply (R97). -/
def State.coresOut (s : State) : State :=
  let s1 := ({ s with sys := { s.sys with recordOn := true, cores := true } } : State).coresRun true
  if s1.on UPD_STAT_TRIAL then { s1 with upd := { s1.upd with trial := some s1.sys.t } } else s1

/-- The apply configures the host bridge's balls (R99, R100). -/
def State.hbrConfigured (s : State) : State := { s with hbr := { s.hbr with r99 := false } }

/-- The apply. `own` puts the loader's own writes between the copy and its effects; `ring` says that a ring-wide commit applies.
DEDUCED, log entry 23. -/
def State.applyAll (s : State) (own : State → State) (ring : Bool) : State :=
  let first := !s.sys.recordOn
  let s1 := own ({ s with regs := applyRegs s.regs } : State)
  let s2 := ((s1.holdApply).partApply s).fwdApply s
  let s3 := ((s2.put RED_STAT_DUP_LIMIT (dupLimit (s2.get RED_DUP_CTL_AGE))).timeApply s).ggApply s first
  let s4 := (if first then s3.coresOut else s3).each (List.range 4) fun s' l => s'.laneApply s l first
  let s5 := (((s4.mbApply s).lsvApply s).lpwApply).conflictCheck.pairCheck.listenCheck
  let s6 := (((s5.hbrConfigured).put CFG_STAT_APPLIED 1).wr64 CFG_LAST_T s5.now).put CFG_STAT_STATE 4
  (s6.commitMode (s.rd MPC_REQ_SH) ring).goApply

/-! ### States and messages (R120, R126) -/

/-- CFG's state. -/
def State.cfgState (s : State) : Nat := s.get CFG_STAT_STATE

/-- Changes the record of the commit machine. -/
def State.modCfg (s : State) (f : CfgSt → CfgSt) : State := { s with cfg := f s.cfg }

/-- Back to OPEN, with the shadows kept. -/
def State.toOpen (s : State) : State := ((s.modCfg fun c => { c with way := 0 }).put CFG_STAT_STATE 1).put CFG_STAT_RING 0

/-- A command that the present state does not list. -/
def State.cfgRefuse (s : State) : State := s.put CFG_STAT_REFUSED 1

/-- Sends an answer of a ring-wide commit. DEDUCED, log entry 46. -/
def State.cfgSend (s : State) (dst : Nat × Nat) (op code cid time : Nat) : State :=
  s.originate (FrameSpec.plain 5 1 2 dst.1 dst.2 0
    [BitVec.ofNat 64 (op + code % 256 * 2 ^ 8 + cid % 65536 * 2 ^ 16), BitVec.ofNat 64 time]) 5

/-- Begins the check. -/
def State.startCheck (s : State) (asked : Nat) : State := (s.modCfg fun c => { c with asked := asked }).put CFG_STAT_STATE 2

/-- The next cycle boundary after now. -/
def State.nextBoundary (s : State) : Nat := (s.now / 31250 + 1) * 31250

/-- Sets the apply instant of a hub that is ARMED (R123): for APPLY_NOW, and for an APPLY_AT whose time `t` has passed, the
next boundary. -/
def State.setInstant (s : State) (way t : Nat) : State :=
  if way = 2 then
    if t < s.now then ((s.modCfg fun c => { c with way := 2, at_ := s.nextBoundary }).put CFG_STAT_LATE 1).miss 0x05 0x04 0 t
    else s.modCfg fun c => { c with way := 2, at_ := t }
  else s.modCfg fun c => { c with way := 1, at_ := s.nextBoundary }

/-! ### CFG_CMD (R120, R123) -/

/-- OPEN. -/
def State.cfgOpen (s : State) : State := if s.cfgState = 0 then s.put CFG_STAT_STATE 1 else s.cfgRefuse

/-- CHECK. -/
def State.cfgCheck (s : State) : State := if s.cfgState = 1 then s.startCheck 0 else s.cfgRefuse

/-- APPLY_NOW (way 1) and APPLY_AT (way 2). DEDUCED, log entry 45. -/
def State.cfgApplyCmd (s : State) (way : Nat) : State :=
  let listed := s.cfgState == 1 || (s.cfgState == 3 && !s.on CFG_STAT_RING)
  if !listed then s.cfgRefuse
  else if way = 2 ∧ s.rpe.floor = 1 then s.cfgRefuse.put CFG_CHECK_RES_CODE 0x71
  else if s.mode = 4 then s.cfgRefuse
  else if s.cfgState = 1 then (s.modCfg fun c => { c with inst := s.rd64 CFG_APPLY_T }).startCheck way
  else s.setInstant way (s.rd64 CFG_APPLY_T)

/-- ABORT. -/
def State.cfgAbort (s : State) : State := if s.cfgState = 3 then s.toOpen else s.cfgRefuse

/-- DISCARD. -/
def State.cfgDiscard (s : State) : State := if s.cfgState = 1 then s.put CFG_STAT_STATE 5 else s.cfgRefuse

/-- A write of CFG_CMD: its command bits in order of their number (R526). -/
def State.cfgCmd (s : State) (w : Word) : State :=
  if s.idling 0x04 then s else
  s.each ((List.range 6).filter fun i => w.getLsbD i) fun s i =>
    match i with
    | 0 => s.cfgOpen
    | 1 => s.cfgCheck
    | 2 => s.cfgApplyCmd 1
    | 3 => s.cfgApplyCmd 2
    | 4 => s.cfgAbort
    | _ => s.cfgDiscard

/-- CFG_OPEN (R120). -/
def execCfgOpen (s : State) : Out := .next (s.cmd CFG_CMD State.cfgOpen)

/-- CFG_CHECK (R120). -/
def execCfgCheck (s : State) : Out := .next (s.cmd CFG_CMD State.cfgCheck)

/-- CFG_APPLY_NOW (R123). -/
def execCfgApplyNow (s : State) : Out := .next (s.cmd CFG_CMD fun s => s.cfgApplyCmd 1)

/-- CFG_APPLY_AT (R123). -/
def execCfgApplyAt (s : State) : Out := .next (s.cmd CFG_CMD fun s => s.cfgApplyCmd 2)

/-- CFG_ABORT (R120, R131). -/
def execCfgAbort (s : State) : Out := .next (s.cmd CFG_CMD State.cfgAbort)

/-- CFG_DISCARD (R120). -/
def execCfgDiscard (s : State) : Out := .next (s.cmd CFG_CMD State.cfgDiscard)

/-- A write of a shadow register or bank under R121: `f` writes it in OPEN; else it has no effect but the error and the
fault. Answers whether it was accepted. -/
def State.shadowWrite (s : State) (off : Nat) (f : State → State) : State × Bool :=
  if s.cfgState = 1 then (f s, true) else (s.fault 0x04 0x0A (s.selfAddr off), false)

/-- Whether an offset is that of a shadow register or of a word of a shadow bank. -/
def isShadow (o : Nat) : Bool := o % 4 == 0 && (o == MPC_REQ_SH || (shActive o).isSome)

/-- The bits of the word at an offset that software may write. -/
def rwMask (o : Nat) : Word :=
  match regFind o with
  | some (r, b) => BitVec.ofNat 32 (r.rw / 2 ^ (8 * (o - b)))
  | none => 0#32

/-- Writes the bits of a word that software may write. -/
def State.wrMasked (s : State) (o : Nat) (v : Word) : State :=
  s.wr o ((s.rd o &&& ~~~ rwMask o) ||| (v &&& rwMask o))

/-- A write to a register ends a key sequence of its block that it does not continue (R81, R486). -/
def State.keysDrop (s : State) (o : Nat) : State :=
  if blkOf o = 0x01 then s.mpcWrite
  else if blkOf o = 0x16 then { s with upd := { s.upd with key := false } }
  else s

/-! ### Events -/

/-- CONSISTENCY_CHECK_DONE (R120, R122, R127). -/
def execConsistencyCheckDone (s : State) : Out :=
  if s.inReset 0x04 then .next s else
  .next (if s.cfgState = 2 then
    let ring := s.cfg.asked == 3
    let r := s.runCheck (ring || s.cfg.asked == 2)
    let s1 := r.1
    let cid := s1.get CFG_COMMIT_CID
    if r.2 ≠ 0 then
      let s2 := s1.toOpen
      if ring then s2.cfgSend s2.cfg.head 3 r.2 cid s2.now else s2
    else
      let s2 := (s1.put CFG_STAT_STATE 3).put CFG_STAT_RING (b2n ring)
      let s3 := s2.modCfg fun c => { c with way := 0 }
      if ring then (s3.modCfg fun c => { c with endT := s3.now }).cfgSend s3.cfg.head 2 0 cid s3.now
      else if s3.cfg.asked = 0 then s3
      else s3.setInstant s3.cfg.asked s3.cfg.inst
  else s)

/-- The evaluation of R125: the code that refuses the apply now, 0 for none. -/
def State.applyRefusal (s : State) : Nat :=
  if (s.partFlaws s.staged).any fun f => f.code == 0x12 then 0x12
  else if 2 ≤ s.cfg.way ∧ s.rpe.floor = 1 then 0x71
  else 0

/-- The apply instant has come (R124, R125, R128). DEDUCED, log entry 45. -/
def State.applyNow (s : State) : State :=
  if s.mode = 4 then s.toOpen
  else if s.on MPC_MODE_TRANS then s.put CFG_STAT_DEFERRED 1
  else
    let c := s.applyRefusal
    if c ≠ 0 then s.toOpen.fault 0x04 0x22 c
    else
      let ring := s.cfg.way == 3
      let s1 := (s.modCfg fun c => { c with way := 0 }).put CFG_STAT_RING 0
      let s2 := s1.applyAll id ring
      if ring then
        let s3 := (s2.put CFG_COMMIT_APPLIED 1).modCfg fun c => { c with doneT := s2.rd64 CFG_LAST_T }
        s3.cfgSend s3.cfg.head 6 0 (s3.get CFG_COMMIT_CID) s3.cfg.doneT
      else s2

/-- APPLY (R124): at the first boundary at or after the apply instant. -/
def execApply (s : State) : Out :=
  if s.inReset 0x04 then .next s else
  .next (if s.cfgState = 3 ∧ s.cfg.way ≠ 0 then
    let s1 := if s.cfg.at_ ≤ s.now then s.toBoundary else s.toLaterBoundary
    if s1.cfg.at_ ≤ s1.now then s1.applyNow else s
  else s)

/-- The apply cycle is done: SYNC (R120). -/
def State.applyCycleEnd (s : State) : State := if s.cfgState = 4 then s.put CFG_STAT_STATE 5 else s

/-- APPLY_SYNC_DONE (R119, R120). -/
def execApplySyncDone (s : State) : Out :=
  .next (if 4 ≤ s.cfgState && s.sys.recordOn && !s.inReset 0x04 then s.syncShadows.put CFG_STAT_STATE 0 else s)

/-- ARM_TIMEOUT (R131). -/
def execArmTimeout (s : State) : Out :=
  if s.inReset 0x04 then .next s else
  .next (if s.cfgState = 3 ∧ s.cfg.way = 0 then
    let cid := if s.on CFG_STAT_RING then s.get CFG_COMMIT_CID else 0
    s.toOpen.fault 0x04 0x24 cid
  else s)

/-! ### The ring-wide commit (R126 to R131) -/

/-- A PREPARE from a node and chip. The TIME of a NOT_READY that no check preceded is the present ring time, which the rule does
not give. DESIGN CHOICE, log entry 46. -/
def State.prepare (s : State) (cid guard : Nat) (src : Nat × Nat) : State :=
  if !s.open_ 0x04 then s
  else if s.rpe.floor = 1 then s.cfgSend src 3 0x03 cid s.now
  else if s.mode = 4 then s.cfgSend src 3 0x02 cid s.now
  else if s.cfgState = 3 && s.on CFG_STAT_RING && s.get CFG_COMMIT_CID == cid then s.cfgSend src 2 0 cid s.cfg.endT
  else if s.cfgState ≤ 1 then
    let s1 := ((s.put CFG_COMMIT_CID cid).put CFG_COMMIT_APPLIED 0).wr64 CFG_GUARD guard
    (s1.modCfg fun c => { c with missed := false, head := src }).startCheck 3
  else s.cfgSend src 3 0x01 cid s.now

/-- PREPARE (R127). -/
def execPrepare (cid : BitVec 16) (guard : DWord) (node : BitVec 8) (chip : Fin 4) (s : State) : Out :=
  if s.inReset 0x04 then .next s else
  .next (s.prepare cid.toNat guard.toNat (node.toNat, chip.val))

/-- A GO from a node and chip. DEDUCED, log entry 46. -/
def State.cfgGo (s : State) (cid t : Nat) (src : Nat × Nat) : State :=
  if !s.open_ 0x04 || s.get CFG_COMMIT_CID != cid then s
  else if s.on CFG_COMMIT_APPLIED then s.cfgSend src 6 0 cid s.cfg.doneT
  else if s.cfgState ≠ 3 || !s.on CFG_STAT_RING || s.mode == 4 then s
  else if (t + 31249) / 31250 * 31250 ≤ s.now then
    let n := s.get CFG_MISSED_LATE_GO
    (s.put CFG_MISSED_LATE_GO (min 65535 (n + 1))).miss 0x06 0x04 0 t
  else s.modCfg fun c => { c with way := 3, at_ := t }

/-- GO (R128, R129). -/
def execGo (cid : BitVec 16) (time : DWord) (node : BitVec 8) (chip : Fin 4) (s : State) : Out :=
  if s.inReset 0x04 then .next s else
  .next (s.cfgGo cid.toNat time.toNat (node.toNat, chip.val))

/-- An ABORT message (R131). DEDUCED, log entry 46. -/
def State.cfgAbortRx (s : State) (cid : Nat) : State :=
  if !s.inReset 0x04 && s.cfgState == 3 && s.get CFG_COMMIT_CID == cid then s.toOpen else s

/-- ABORT (R131). -/
def execCfgAbortMsg (cid : BitVec 16) (s : State) : Out :=
  if s.inReset 0x04 then .next s else
  .next (s.cfgAbortRx cid.toNat)

/-- A commit message that LOC delivers (R126). -/
def State.cfgRx (s : State) (f : Frame) : State :=
  let w := frWord f 0
  let t := frWord f 1
  let src := (frSrc f, frSrcChip f)
  match bits w 0 8 with
  | 1 => s.prepare (bits w 16 16) t src
  | 4 => s.cfgGo (bits w 16 16) t src
  | 5 => s.cfgAbortRx (bits w 16 16)
  | _ => s

/-- GUARD_EXPIRY (R130): the first boundary at or after GUARD, once for each PREPARE. DEDUCED, log entry 46. -/
def execGuardExpiry (s : State) : Out :=
  if s.inReset 0x04 then .next s else
  .next (if s.cfgState = 3 && s.on CFG_STAT_RING && !s.cfg.missed then
    let s1 := s.toBoundary
    let g := s1.rd64 CFG_GUARD
    if g ≤ s1.now then
      let s2 := (((s1.modCfg fun c => { c with missed := true }).put CFG_STAT_MISSED 1).satAdd CFG_MISSED_COUNT 1).fault 0x04 0x23
        (s1.get CFG_COMMIT_CID)
      s2.cfgSend s2.cfg.head 7 0 (s2.get CFG_COMMIT_CID) g
    else s
  else s)

end Sys2Proof.Machine
end

