-- ==== Sys2Proof/Machine/Loader.lean ====
section
/-! DEFINITION. The configuration record and its loader (R110 to R118, R135, R136, R490). -/
namespace Sys2Proof.Machine

/-! ### Bytes of the record -/

/-- A little-endian number of a list of bytes. -/
def numAt (bs : List Byte) (off n : Nat) : Nat := ofLeBytes ((bs.drop off).take n)

/-- The 8-byte words of a list of bytes; a rest of less than 8 bytes is dropped. -/
def words8 (bs : List Byte) : List DWord := (List.range (bs.length / 8)).map fun i => BitVec.ofNat 64 (numAt bs (8 * i) 8)

/-- The 4-byte words of a list of bytes. -/
def words4 (bs : List Byte) : List Word := (List.range (bs.length / 4)).map fun i => BitVec.ofNat 32 (numAt bs (4 * i) 4)

/-- A section: TYPE, MAND, where it begins, its payload. -/
structure Sect where
  typ  : Nat
  mand : Bool
  at_  : Nat
  body : List Byte
deriving DecidableEq, Repr

/-- The sections of a record from byte `pos` to the trailer, and the code that ends the parse (R111, R116): a section past
the trailer or with a LEN that is no multiple of 8, or one more than NSECT. -/
def sections (bs : List Byte) (stop : Nat) : Nat → Nat → Nat → List Sect × Nat
  | 0, pos, _ => ([], if pos < stop then 0x07 else 0)
  | fuel + 1, pos, left =>
    if stop ≤ pos then ([], 0)
    else if left = 0 then ([], 0x07)
    else
      let h := numAt bs pos 8
      let len := h / 2 ^ 32
      if len % 8 ≠ 0 ∨ stop < pos + 8 + len then ([], 0x05)
      else
        let r := sections bs stop fuel (pos + 8 + len) (left - 1)
        (⟨bits h 0 15, h.testBit 15, pos, (bs.drop (pos + 8)).take len⟩ :: r.1, r.2)

/-- The sections of a record. -/
def recSections (bs : List Byte) : List Sect × Nat :=
  let n := numAt bs 0x0C 2
  sections bs (numAt bs 0x08 4 - 8) (n + 1) 64 n

/-- The code the header gives (R110, R118). -/
def headCode (bs : List Byte) : Nat :=
  let len := numAt bs 0x08 4
  if numAt bs 0 4 ≠ 0x47464354 ∨ numAt bs 0x0E 2 ≠ 0x0640 then 0x03
  else if numAt bs 5 1 ≠ 2 ∧ numAt bs 5 1 ≠ 3 then 0x04
  else if len < 72 ∨ 1048576 < len ∨ len % 8 ≠ 0 then 0x05
  else 0

/-- Whether the trailer's CRC is right (R112). PRESUMED, log entry 13. -/
def crcOk (bs : List Byte) : Bool :=
  let n := numAt bs 0x08 4 - 8
  numAt bs n 4 == crcOfBytes (bs.take n)

/-- Whether the MAC section holds the tag of every byte before it (R135). -/
def macOk (bs : List Byte) : Bool :=
  match (recSections bs).1.find? fun x => x.typ == 0x00F0 with
  | some x => decide (32 ≤ x.body.length) && numAt x.body 0 32 == (Config.deviceTag (bs.take x.at_)).toNat
  | none => false

/-- Bytes of the record whose header stands at a flash address, as many as its LENGTH says, within 1 MiB. -/
def State.recordAt (s : State) (a : Nat) : List Byte := s.flashBytes a (min 1048576 (max 72 (s.flashNum (a + 8) 4)))

/-- The record of a slot that the loader reads, and whether it is the migrated one (R136). -/
def State.recordOf (s : State) (slot : Nat) : List Byte × Bool :=
  let own := slotBase slot + 0x190000
  let m := s.recordAt (slotBase slot + 0x490000)
  let origin := (Config.sha256 (s.flashBytes own (s.hdr slot 0x1C 4))).toNat
  if numAt m 0 4 = 0x47464354 && crcOk m && macOk m && numAt m 0x20 32 == origin then (m, true) else (s.recordAt own, false)

/-! ### Sections into shadows (R111, R113, R114) -/

/-- What a parse carries: the hub, with its shadows and store as written so far; the registers that the record names itself
and their values, oldest first; whether a TWIN section was read; the DORMANT section; the ISLAND sections; the code that ended
it. -/
structure Parse where
  hub  : State
  own  : List (Nat × Word)
  twin : Bool
  dorm : Option (List Byte)
  isl  : List (List DWord)
  code : Nat

/-- The bits of a register that the record itself sets (R114): those whose reset value its map gives as "record". -/
def recordMask (o : Nat) : Nat :=
  if o = RSTC_AUTH ∨ o = TIME_GM_ID ∨ o = TIME_GM_ID + 4 ∨ o = HBR_MAC_LO then 0xFFFFFFFF
  else if o = HBR_MAC_HI then 0xFFFF
  else if o = UPD_TRIAL then 0xFFF
  else if INTC_ROUTE 0 ≤ o ∧ o < INTC_ROUTE 256 then 0x1F7
  else if (List.range 3).any fun t => decide (INTC_EN t 0 ≤ o ∧ o < INTC_EN t 8) then 0xFFFFFFFF
  else if (List.range 16).any fun g => o == INTC_GRP_CTL g then 0x3FFFFF03
  else if (List.range 16).any fun n => decide (GG_IMEM n 0 ≤ o ∧ o < GG_IMEM n 64) then 0xFFFFFFFF
  else if (List.range 8).any fun n => o == LSV_LS_BASE_RE n || o == LSV_LS_BASE_IM n then 0xFFFFFFFF
  else 0

/-- Whether an offset is a shadow register that a REGS entry may name; the banks of tables have their own sections. -/
def regsTarget (o : Nat) : Bool :=
  o % 4 == 0 && (o == MPC_REQ_SH || match shActive o with | some (r, _) => !r.table | none => false)

/-- One entry of a REGS section. -/
def Parse.entry (p : Parse) (w : DWord) : Parse :=
  let o := oneWindow (w.toNat % 2 ^ 32)
  let v := BitVec.ofNat 32 (w.toNat / 2 ^ 32)
  if p.code ≠ 0 then p
  else if regsTarget o then { p with hub := p.hub.wrMasked o v }
  else if o % 4 = 0 ∧ recordMask o ≠ 0 then { p with own := p.own ++ [(o, v)] }
  else { p with code := 0x08 }

/-- The tables by their IDs: the offset of the shadow bank, its indices, the 32-bit words of an index (R197, R219, R394). -/
def tableOf (id : Nat) : Option (Nat × Nat × Nat) :=
  match id with
  | 0x0010 => some (RPE_SCHED_SH 0 0, 512, 2)
  | 0x0011 => some (RPE_SCHED_SH 1 0, 512, 2)
  | 0x0020 => some (FWD_NODET_SH 0, 1024, 1)
  | 0x0021 => some (FWD_MCT_SH 0, 4096, 1)
  | 0x0022 => some (FWD_PINT_SH 0, 128, 1)
  | 0x0030 => some (MB_DIR_SH 0 0, 1536, 1)
  | 0x0031 => some (MB_DIR_SH 1 0, 1536, 1)
  | 0x0032 => some (MB_DIR_SH 2 0, 1536, 1)
  | 0x0033 => some (MB_DIR_SH 3 0, 1536, 1)
  | _ => none

/-- A TABLE section. -/
def Parse.table (p : Parse) (body : List Byte) : Parse :=
  let h := numAt body 0 8
  match tableOf (bits h 0 16) with
  | none => { p with code := 0x08 }
  | some (base, n, per) =>
    if h.testBit 48 ∧ per = 2 then { p with code := 0x08 }
    else
      let ws := words4 (body.drop 8)
      let ws := if h.testBit 48 then ws.dropLast else ws
      let start := bits h 16 32
      if n < start + ws.length / per then { p with code := 0x08 }
      else { p with hub := p.hub.each ((List.range ws.length).zip ws) fun s x => s.wrMasked (base + 4 * (per * start + x.1)) x.2 }

/-- Writes bytes into the main store as the loader streams them; whole words lose their error marks (R44, R115). -/
def State.loadStore (s : State) (off : Nat) (bs : List Byte) : State :=
  ({ s with mem := Tab.setList memDefault s.mem off bs } : State).eccWritten ((off + 7) / 8) ((off + bs.length) / 8 - (off + 7) / 8)

/-- A STORE section. -/
def Parse.store (p : Parse) (body : List Byte) : Parse :=
  let off := numAt body 0 4
  let bs := body.drop 8
  if storeSize < off + bs.length then { p with code := 0x08 } else { p with hub := p.hub.loadStore off bs }

/-- The registers a TWIN section sets, in its order (R260). -/
def twinRegs : List Nat :=
  [RED_TWIN_CTL_SH, RED_ANCH_A_SH, RED_ANCH_B_SH, RED_SAFE_SH 0, RED_SAFE_SH 1, RED_SAFE_SH 2, RED_SAFE_SH 3, RED_MHOLD_A_SH,
    RED_MHOLD_B_SH, RED_TWIN_Q_LO_SH, RED_TWIN_Q_HI_SH]

/-- One section, in record order. -/
def Parse.section_ (p : Parse) (x : Sect) : Parse :=
  if p.code ≠ 0 then p
  else match x.typ with
    | 0x0001 => (words8 x.body).foldl Parse.entry p
    | 0x0002 => if x.body.length < 8 then p else p.table x.body
    | 0x0003 => if x.body.length < 8 then p else p.store x.body
    | 0x0010 =>
      let ws := words4 x.body
      { p with twin := true, hub := p.hub.each (twinRegs.zip (List.range 11)) fun s r =>
          if r.2 < ws.length then s.wrMasked r.1 (ws.getD r.2 0#32) else s.clr r.1 }
    | 0x0011 => { p with dorm := some x.body }
    | 0x0012 => { p with isl := p.isl ++ [words8 x.body], hub := p.hub.islandActs (words8 x.body) }
    | 0x00F0 => p
    | _ => if x.mand then { p with code := 0x07 } else p

/-- Parses a record, up to the trailer and the MAC of a migrated one (R112, R116). DEDUCED, log entry 47. -/
def State.parse (s : State) (bs : List Byte) : Parse :=
  let p0 : Parse := ⟨s, [], false, none, [], headCode bs⟩
  if p0.code ≠ 0 then p0
  else if bs.getD 6 0#8 &&& 1#8 = 1#8 ∧ !macOk bs then { p0 with code := 0x04 }
  else
    let r := recSections bs
    let p := r.1.foldl Parse.section_ p0
    if p.code ≠ 0 then p
    else if r.2 ≠ 0 then { p with code := r.2 }
    else if !crcOk bs then { p with code := 0x06 }
    else p

/-! ### The attempt and the loader (R115 to R117) -/

/-- Writes the registers that the record itself names and those of the DORMANT section, which take their reset values where the
record has none (R72, R113, R114), and takes the entry actions of the ISLAND section (R371). -/
def Parse.own_ (p : Parse) (s : State) : State :=
  let s1 := s.each p.own fun s x =>
    let m := BitVec.ofNat 32 (recordMask x.1)
    s.wr x.1 ((s.rd x.1 &&& ~~~ m) ||| (x.2 &&& m))
  let s2 := if s1.get UPD_TRIAL_WINDOW = 0 then s1.put UPD_TRIAL_WINDOW 120 else s1
  let s3 := match p.dorm with
    | some body =>
      let d := numAt body 0 8
      let s3 := if 8 ≤ body.length then
          (s2.wrMasked MPC_DORM (BitVec.ofNat 32 (bits d 0 6))).wrMasked MPC_WAKE_EN (BitVec.ofNat 32 (bits d 8 20))
        else (s2.clr MPC_DORM).clr MPC_WAKE_EN
      if 16 ≤ body.length then s3.wr MPC_WAKE_RELOAD (BitVec.ofNat 32 (numAt body 8 4)) else s3.clr MPC_WAKE_RELOAD
    | none => ((s2.clr MPC_DORM).clr MPC_WAKE_EN).clr MPC_WAKE_RELOAD
  ({ s3 with red := { s3.red with twinOn := p.twin }, lsv := { s3.lsv with entry := [] } } : State).each p.isl State.islandSection

/-- How an attempt ends once its record is parsed: the code of the parse, of the image check, or of the consistency check. -/
def Parse.outcome (p : Parse) (img : Nat) (r : List Byte × Bool) : State × Parse × Nat × Nat × List Byte × Bool :=
  if p.code ≠ 0 then (p.hub.dropShadows, p, p.code, 0, r)
  else if img = 9 then (p.hub.dropShadows, p, 0x02, 9, r)
  else
    let k := p.hub.runCheck false
    if k.2 ≠ 0 then (k.1.dropShadows, p, 0x09, 0, r) else (k.1, p, 0, 0, r)

/-- Tries a slot: the hub afterwards, with its shadows filled or dropped, the parse, the code, and the refusal code of the
image check. `quiet` says that the flash gives no answer for 10 ms. DEDUCED, log entry 47. -/
def State.tryLoad (s : State) (slot : Nat) (quiet : Bool) : State × Parse × Nat × Nat × List Byte × Bool :=
  let none_ : Parse := ⟨s, [], false, none, [], 0⟩
  let img := s.imageCheck slot false
  if quiet then (s.dropShadows, none_, 0x0A, 0, [], false)
  else if img ≠ 0 ∧ img ≠ 9 then (s.dropShadows, none_, 0x02, img, [], false)
  else
    let s1 := s.loadStore (s.partBase 1) (s.flashBytes (slotBase slot + 0x10000) (s.hdr slot 0x18 4))
    let r := s1.recordOf slot
    (s1.parse r.1).outcome img r

/-- The loader ends well: the apply, and what CFG and UPD show and report (R116, R117, R484, R490). `first` is the code of
the slot that was tried before this one. DEDUCED, log entry 47. -/
def State.loadOk (s : State) (p : Parse) (slot row cand : Nat) (bs : List Byte) (mig : Bool) (first : Option (Nat × Nat)) : State :=
  let trial := row == 1 && first.isNone
  let s1 := ((s.put UPD_STAT_ACTIVE slot).put UPD_STAT_TRIAL (b2n trial)).put UPD_STAT_RECOVERY 0
  let s2 := if trial then (s1.put UPD_BOOT_STATE 2).put UPD_BOOT_SLOT cand else (s1.put UPD_BOOT_STATE 0).put UPD_BOOT_SLOT 0
  let s4 := ((((s2.put CFG_LOAD_CODE 0).put CFG_LOAD_SLOT slot).put CFG_LOAD_MIGRATED (b2n mig)).put CFG_LOAD_OTHER
    (b2n first.isSome)).put CFG_LOAD_FORMAT (numAt bs 4 2)
  let s5 := ((s4.wr64 CFG_SERIAL (numAt bs 0x10 8)).modCfg fun c => { c with loading := false }).applyAll p.own_ false
  let s6 := match first with
    | some (c, img) =>
      let x := s5.fault 0x04 0x20 c
      if img = 0 then x else x.fault 0x16 0x70 img
    | none => s5
  if row = 2 then (s6.put UPD_EVT_FELL_BACK 1).fault 0x16 0x71 cand else s6

/-- The loader ends with nothing applied (R117, R494). CFG_LOAD.SLOT shows the last slot it tried, A where it tried none.
DESIGN CHOICE, log entry 47. -/
def State.loadBad (s : State) (code slot : Nat) : State :=
  let s1 := ((((s.put CFG_LOAD_CODE code).put CFG_LOAD_SLOT slot).put CFG_LOAD_OTHER 0).put UPD_STAT_RECOVERY 1).put
    UPD_BOOT_STATE 0
  ((s1.put UPD_BOOT_SLOT 0).modCfg fun c => { c with loading := false }).fault 0x04 0x21 code

/-- Whether the loader can run: its step of R97 has come. -/
def State.loaderDue (s : State) : Bool :=
  s.cfg.loading && !s.inReset 0x04 && s.upTo && s.on MSA_STAT_INIT_DONE && s.on BIV_STAT_INIT_DONE && s.mode == 5

/-- The loader (R115 to R117). `q1` and `q2` say that the flash gives no answer in the first and in the second attempt.
DEDUCED, log entry 47. -/
def State.loader (s : State) (q1 q2 : Bool) : State :=
  match s.dirChosen with
  | none => s.loadBad 0x01 0
  | some (_, d) =>
    let bt := s.get UPD_BOOT_STATE
    let row := if d.state = 1 ∧ bt = 1 then 1 else if bt = 2 then 2 else 3
    let slot := if row = 1 then d.cand else d.active
    let failed := s.get UPD_BOOT_SLOT
    let s0 := if row = 2 then s.put UPD_STAT_FELL_BACK 1 else s
    let (a, p, c, img, bs, mig) := s0.tryLoad slot q1
    if c = 0 then a.loadOk p slot row (if row = 1 then d.cand else failed) bs mig none
    else
      let (b, p2, c2, _, bs2, mig2) := a.tryLoad (1 - slot) q2
      if c2 = 0 then b.loadOk p2 (1 - slot) row failed bs2 mig2 (some (c, img))
      else b.loadBad c2 (1 - slot)

/-- LOADER_RUN (R115). -/
def execLoaderRun (s : State) : Out := .next (if s.loaderDue then s.loader false false else s)

/-- FLASH_TIMEOUT (R116): the flash gives no answer for 10 ms in the loader's first attempt, in its second, or in both.
DEDUCED, log entry 47. -/
def execFlashTimeout (first second : Bool) (s : State) : Out :=
  .next (if s.loaderDue && (first || second) then s.loader first second else s)

end Sys2Proof.Machine
end

