-- ==== Sys2Proof/Machine/Access.lean ====
section
/-! DEFINITION. Register accesses as a whole: the legacy aliases, what a read shows and does, what a write stores and
starts, widths, unmapped offsets, units in reset, shadows, active tables and bivouac memory (R4 to R9, R12, R18, R29, R30,
R90, R104 to R106, R121, R200, R221). -/
namespace Sys2Proof.Machine

/-! ### Where an offset leads -/

/-- The register an alias leads to (R29); `a` counts from 0xF0_0000. DEDUCED, log entry 36. -/
def aliasOf (a : Nat) : Option Nat :=
  let b := a / 4 * 4
  let t : Option Nat :=
    if b < 0x1C then [ID_PART, ID_STRAP, MPC_MODE, MPC_REQ, RSTC_CAUSE, RSTC_WDOG_CTL 0, RSTC_WDOG_KICK 0][b / 4]?
    else if b = 0x20 then some CFG_STAT
    else if b = 0x24 then some CFG_CMD
    else if b = 0x30 ∨ b = 0x34 then some (INTC_PEND 0 ((b - 0x30) / 4))
    else if b = 0x38 ∨ b = 0x3C then some (INTC_EN 0 ((b - 0x38) / 4))
    else if 0x100 ≤ b ∧ b < 0x500 then
      let q := (b - 0x100) / 16
      [SQ_CNT q, SQ_LVL q, SQ_CMD q, SQ_HEAD q][b % 16 / 4]?
    else if b = 0x500 then some SQ_LVLPEND_LO
    else if b = 0x504 then some SQ_LVLPEND_HI
    else if 0x1000 ≤ b ∧ b < 0x9000 ∧ b % 0x1000 < 0x800 then some (0x100000 + (b - 0x1000))
    else if 0x9000 ≤ b ∧ b < 0x9080 then some (0x80000 + (b - 0x9000))
    else if 0x9100 ≤ b ∧ b < 0x9180 then some (0x90000 + (b - 0x9100))
    else if b = 0xA000 then some RED_STAT
    else if b = 0xA004 then some RED_LOSS_LOG
    else none
  t.map fun t => t + a % 4

/-- The offset in a block window that a chip-local offset leads to; none is unmapped outside every window (R29, R30). -/
def State.leadsTo (s : State) (off : Nat) : Option Nat :=
  if off < 0x190000 then some (oneWindow off)
  else if s.gh320 && decide (0xF00000 ≤ off ∧ off < 0x1000000) then (aliasOf (off - 0xF00000)).map oneWindow
  else none

/-- The index `i < n` with `o = base + i * step`. -/
def indexIn (base step n o : Nat) : Option Nat :=
  if base ≤ o ∧ (o - base) % step = 0 ∧ (o - base) / step < n then some ((o - base) / step) else none

/-- The index of an offset in an indexed register. -/
def indexOf (reg : Nat → Nat) (n o : Nat) : Option Nat := indexIn (reg 0) (max 1 (reg 1 - reg 0)) n o

/-- The two indices of an offset in a doubly indexed register. -/
def indexOf2 (reg : Nat → Nat → Nat) (n m o : Nat) : Option (Nat × Nat) :=
  (List.range n).findSome? fun i => (indexOf (reg i) m o).map fun j => (i, j)

/-! ### What a read shows -/

/-- The trial window left, in s (R492): 10 to 3,600, and 120 where the record sets none; the timer stands while a CONFIRM runs. -/
def State.trialLeft (s : State) : Nat :=
  let w := s.get UPD_TRIAL_WINDOW
  let now := match s.upd.run with | some r => if r.op = 8 then r.at_ else s.sys.t | none => s.sys.t
  match s.upd.trial with
  | some t => (if w = 0 then 120 else min 3600 (max 10 w)) - (now - t) / 250000000
  | none => 0

/-- The post buffer in use, in units of 8 B (R420): the data of the host's posted writes that wait. -/
def State.postUnits (s : State) : Nat :=
  let sent := (s.fwd.locWait.filter fun w =>
    w.prod == 4 && w.spec.cls == 5 && w.spec.vc == 0 && (w.spec.payload.getD 0 0#64).toNat % 256 == 2).foldl
    (fun a w => a + (w.spec.payload.length - 2)) 0
  (s.hereAll.filter fun q => q.req == 4 && q.op == 2).foldl (fun a q => a + q.data.length) sent

/-- Whether HOST_INT_N is asserted (R423). -/
def State.hostInt (s : State) : Bool := s.intcSample.intcReq 2 || s.evtRaised HBR_EVT HBR_EVT_EN

/-- Brings the fields of the word at an offset that show something held elsewhere up to now. -/
def State.freshen (s : State) (o : Nat) : State :=
  match blkOf o with
  | 0x00 => if o = ID_LIVE then s.put ID_LIVE_LEVEL (Config.liveStraps s.sys.t).toNat else s
  | 0x01 => if o = MPC_WAKE_TIMER then s.wr MPC_WAKE_TIMER (BitVec.ofNat 32 s.wakeCount) else s
  | 0x02 => match indexOf RSTC_WDOG_CNT 2 o with
    | some n => s.put (RSTC_WDOG_CNT_LEFT n) (s.wdLeft n)
    | none => s
  | 0x05 => if o = FLT_STAT then (s.put FLT_STAT_QFILL s.fltQ.length).put FLT_STAT_NOPEN (popCount 16 (s.get FLT_OPEN_REC)) else s
  | 0x06 =>
    let s := s.intcSample
    match indexOf2 INTC_PEND 3 8 o with
    | some (t, w) => s.wr o (BitVec.ofNat 32 (s.intcPend t w))
    | none => match indexOf INTC_SUM 3 o with
      | some t => s.wr o (BitVec.ofNat 32 (s.intcSum t))
      | none => match indexOf INTC_RAW 8 o with
        | some w => s.wr o (BitVec.ofNat 32 (s.intcRaw w))
        | none => match indexOf INTC_GRP_STAT 16 o with
          | some g => s.put (INTC_GRP_STAT_ELAPSED g) (s.grpElapsed g)
          | none => s
  | 0x0C =>
    if o = RPE_STAT then s.put RPE_STAT_HEAD_ACT (b2n s.headAct)
    else if o = RPE_CYCLE ∨ o = RPE_CYCLE + 4 then s.wr64 RPE_CYCLE (s.now / 31250)
    else s
  | 0x0D =>
    if o = FWD_DRAIN then
      s.put FWD_DRAIN_HELD (min 65535 (s.fwd.held.filter fun h => match h.why with | .drain _ _ => true | _ => false).length)
    else if o = FWD_BUF_STAT then s.put FWD_BUF_STAT_SPARE_USED s.spareUsed
    else match indexOf2 FWD_OCC 5 5 o with
      | some (p, j) =>
        if j = 4 then s.put (FWD_OCC_LOW p 4) (s.occ p 0)
        else (s.put (FWD_OCC_LOW p j) (s.occ p (8 - 2 * j))).put (FWD_OCC_HIGH p j) (s.occ p (7 - 2 * j))
      | none => s
  | 0x0E => if o = RED_TWIN_STAT then s.put RED_TWIN_STAT_LEAD (s.get ID_STRAP_TWIN_PREF) else s
  | 0x10 => match indexOf GG_FSTAT 16 o with
    | some n => (s.put (GG_FSTAT_TX_CNT n) (s.eng n).tx.length).put (GG_FSTAT_RX_CNT n) (s.eng n).rx.length
    | none => s
  | 0x11 => match indexOf SQ_TAIL 64 o with
    | some q => s.wr o (BitVec.ofNat 32 (s.slotAddr q (s.tailSlot q)))
    | none => s
  | 0x13 =>
    if o = MB_TXLIST_CNT then s.put MB_TXLIST_CNT_CNT s.txList.length
    else if o = MB_TXLIST_LO ∨ o = MB_TXLIST_HI then s.wr64 MB_TXLIST_LO (s.txList.getD (s.get MB_TXLIST_IDX_E) 0)
    else match indexOf MB_NEWSUM_LO 4 o with
      | some n => s.put (MB_NEWSUM_LO_WORDS n) (s.newSum n)
      | none => match indexOf MB_NEWSUM_HI 4 o with
        | some n => s.put (MB_NEWSUM_HI_WORDS n) (s.newSum n / 2 ^ 32)
        | none => s
  | 0x14 =>
    if o = HBR_HST then (s.put HBR_HST_WFREE (128 - s.postUnits)).put HBR_HST_INT (b2n s.hostInt)
    else if o = HBR_STAT then s.put HBR_STAT_LANE_UP (b2n (s.laneUp 3 && s.laneHost 3))
    else s
  | 0x16 =>
    if o = UPD_STAT then s.put UPD_STAT_ARMED (b2n (match s.dirChosen with | some (_, d) => d.state == 1 | none => false))
    else if o = UPD_TRIAL then s.put UPD_TRIAL_LEFT s.trialLeft
    else s
  | b =>
    if 0x08 ≤ b ∧ b ≤ 0x0B then
      let l := b - 0x08
      if o = LANE_CTL l then (s.put (LANE_CTL_ENABLE l) (b2n (s.laneEn l))).put (LANE_CTL_HOST l) (b2n (s.laneHost l))
      else if o = LANE_RXEQ l ∨ o = LANE_DFE l then s.adapt l
      else if o = LANE_PAT_STAT l then s.put (LANE_PAT_STAT_GEN_ACTIVE l) (b2n (s.genActive l))
      else s
    else s

/-- The bits of the word at an offset that a read returns. -/
def readMask (o : Nat) : Word :=
  match regFind o with
  | some (r, b) => BitVec.ofNat 32 (r.rd / 2 ^ (8 * (o - b)))
  | none => 0#32

/-- The word a read of a register without side effects returns (R6). -/
def State.view (s : State) (o : Nat) : Word := (s.freshen o).rd o &&& readMask o

/-- A read of the register word at an offset by a requester: what it leaves and what it returns (R6, R9). -/
def State.readWord (s : State) (who : Who) (o : Nat) : State × Nat :=
  let plain := (s, (s.view o).toNat)
  match blkOf o with
  | 0x05 =>
    if FLT_REC_W0 0 ≤ o ∧ o < FLT_REC_W0 16 then
      s.recRead (whoKey who) ((o - FLT_REC_W0 0) / 0x20) ((o - FLT_REC_W0 0) % 0x20 / 4)
    else plain
  | 0x0F =>
    if o = TIME_SPINDLE then s.spindleRead (whoKey who) 1
    else if o = TIME_SPINDLE + 4 then s.spindleRead (whoKey who) 2
    else plain
  | 0x10 => match indexOf GG_RXF 16 o with
    | some n => s.rxfRead n
    | none => plain
  | 0x11 => match indexOf SQ_HEAD 64 o with
    | some q => s.headRead q
    | none => plain
  | 0x12 => if o = LSV_PLAYQ then s.playRead else plain
  | 0x14 =>
    if o = HBR_HST then ((s.put HBR_HST_WR_DROP 0).put HBR_HST_PWF 0, (s.view o).toNat)
    else match indexOf HBR_SEM 32 o with
      | some k => s.semRead k (whoId who)
      | none => plain
  | _ => plain

/-! ### What a write does -/

/-- The bits of the word at an offset that a write of 1 clears. -/
def w1cMask (o : Nat) : Word :=
  match regFind o with
  | some (r, b) => BitVec.ofNat 32 (r.w1c / 2 ^ (8 * (o - b)))
  | none => 0#32

/-- A write that only stores: RW bits take the value, W1C bits are cleared by a 1, every other bit ignores it (R6, R7). -/
def State.storeWord (s : State) (o : Nat) (v : Word) : State :=
  s.wr o ((s.rd o &&& ~~~ rwMask o &&& ~~~ (w1cMask o &&& v)) ||| (v &&& rwMask o))

/-- Acts on the command bits of a word, the lowest first (R526). -/
def State.bitsDo (s : State) (v : Word) (l : List (Nat × (State → State))) : State :=
  s.each l fun s x => if v.getLsbD x.1 then x.2 s else s

/-- A write of a group's SNAP register (R56). -/
def State.snapWrite (s : State) (g : Nat) (v : Word) : State :=
  if v.getLsbD 0 then s.snap g (v.getLsbD 1) else s

/-- A start of a DMA channel (R54, R55). -/
def State.dmaStart (s : State) (ch : Nat) : State :=
  if s.on (MSA_DMA_STAT_BUSY ch) then s
  else ({ s with dma := Tab.set (fun _ => DmaSt.init) s.dma ch DmaSt.init } : State).put (MSA_DMA_STAT_BUSY ch) 1

/-- An abort of a DMA channel (R55). -/
def State.dmaAbort (s : State) (ch : Nat) : State :=
  if s.on (MSA_DMA_STAT_BUSY ch) then
    { s with dma := Tab.set (fun _ => DmaSt.init) s.dma ch { Tab.get (fun _ => DmaSt.init) s.dma ch with abort := true } }
  else s

/-- A write of SQ_LVL: the queue counts as having crossed where its count stands at the level already (R350).
DEDUCED, log entry 24. -/
def State.sqLevelWrite (s : State) (q : Nat) (v : Word) : State :=
  let s1 := s.storeWord (SQ_LVL q) v
  let r := s1.sqOf q
  let r1 := { r with lvlUp := s1.on (SQ_LVL_LEVEL q) && decide (s1.get (SQ_LVL_LEVEL q) ≤ r.items.length) }
  { s1 with sq := Tab.set (fun _ => Sq.init) s1.sq q r1 }

/-- A write in block 0x01 to 0x06. DESIGN CHOICE, log entry 12. -/
def State.writeLow (s : State) (who : Who) (bcast : Bool) (o : Nat) (v : Word) : State × Nat :=
  let node := who.node.toNat
  if o = MPC_REQ then (s.modeRequest v node who.chip.val, 0)
  else if o = MPC_FTEST then (s.ftestKey v, 0)
  else if o = MPC_WAKE_TIMER then (s.setWakeTimer v, 0)
  else if o = RSTC_SWRST then (if wordField v 16 16 = 0xC0DE then s.unitRequest 0x06 (wordField v 0 8) else s, 0)
  else if o = RSTC_REMOTE_AUTH then (s.remoteAuth v node bcast, 0)
  else if o = RSTC_REMOTE_CMD then (s.remoteCmd (wordField v 0 8) node bcast, 0)
  else if o = RSTC_AUTH then (s.wr RSTC_AUTH v, 0)
  else if o = RSTC_LOG_HEAD then (if v.getLsbD 8 then s.logClear else s, 0)
  else if o = CFG_CMD then (s.cfgCmd v, 0)
  else if o = FLT_OPEN then (s.recClose (v.toNat % 65536), 0)
  else if o = FLT_CMD then (if v.getLsbD 0 then s.put FLT_STAT_SAFE 0 else s, 0)
  else if o = FLT_SNAP then (s.snapWrite 12 v, 0)
  else if o = FLT_INJ_W0 then (if s.on MPC_MODE_FTEST then (s.injWrite v, 0) else (s, 0x05))
  else if o = FLT_INJ_ADDR_LO ∨ o = FLT_INJ_ADDR_HI then
    (if s.on MPC_MODE_FTEST then (s.storeWord o v, 0) else (s, 0x05))
  else if o = INTC_SWI then (s.swi (v.toNat % 256), 0)
  else match indexOf RSTC_WDOG_CTL 2 o with
  | some n => (s.wdWrite n v, 0)
  | none => match indexOf RSTC_WDOG_KICK 2 o with
  | some n => (s.wdKickWrite n v, 0)
  | none => match indexOf2 INTC_CLAIM 3 8 o with
  | some (t, w) => (s.claim t w v, 0)
  | none => match indexOf2 INTC_DONE 3 8 o with
  | some (t, w) => (s.complete t w v, 0)
  | none => match indexOf INTC_ROUTE 256 o with
  | some n => (if (intcKind n).isSome then s.storeWord o v else s, 0)
  | none => (s.storeWord o v, 0)

/-- A write in block 0x07 to 0x0F. -/
def State.writeMid (s : State) (o : Nat) (v : Word) : State :=
  if o = MSA_SNAP then s.snapWrite 0 v
  else if o = MSA_SCRUB then
    (if !s.on MSA_SCRUB_EN && (s.storeWord o v).on MSA_SCRUB_EN then (s.storeWord o v).scrubStart else s.storeWord o v)
  else if o = MSA_HOLD_FLAG then (s.storeWord o v).serve
  else if o = RPE_SNAP then s.snapWrite 5 v
  else if o = RPE_CEN_CMD then s.bitsDo v [(0, State.callStart), (1, fun s => s.assignSend (wordField v 8 8))]
  else if o = FWD_SNAP then s.snapWrite 6 v
  else if o = FWD_FENCE then (s.storeWord o v).bitsDo v [(0, State.fwdFenceStart)]
  else if o = RED_SNAP then s.snapWrite 7 v
  else if o = RED_TWIN_CMD then
    s.bitsDo v [(0, State.take), (1, fun s => s.yieldAnchor false), (2, State.revert), (3, State.unlock)]
  else if o = TIME_SNAP then s.snapWrite 8 v
  else if o = TIME_SET then (s.wr o v).timeSet (v.toNat + 2 ^ 32 * (s.rd (TIME_SET + 4)).toNat)
  else if o = TIME_SET + 4 then (s.wr o v).timeSet ((s.rd TIME_SET).toNat + 2 ^ 32 * v.toNat)
  else if o = TIME_ADJ then s.timeAdj v
  else if o = TIME_DL_HEAD then s.bitsDo v [(8, State.dlClear)]
  else if blkOf o = 0x07 then
    match indexOf MSA_DMA_CTRL 2 o with
    | some c => (s.storeWord o v).bitsDo v [(0, fun s => s.dmaStart c), (1, fun s => s.dmaAbort c)]
    | none => s.storeWord o v
  else if blkOf o ≤ 0x0B then
    let l := blkOf o - 0x08
    if o = LANE_ALIGN l then s.bitsDo v [(0, fun s => s.alignSlip l), (1, fun s => s.alignDone l)]
    else if o = LANE_EYE_CTL l then s.eyeWrite l v
    else if o = LANE_PAT_CTL l then s.patReq l v
    else if o = LANE_RXEQ l then s.rxeqWrite l v
    else if o = LANE_SNAP l then s.snapWrite (l + 1) v
    else s.storeWord o v
  else s.storeWord o v

/-- A write in block 0x10 or 0x11. -/
def State.writeGg (s : State) (o : Nat) (v : Word) : State :=
  if o = GG_GCMD then s.groupWrite (wordField v 4 2) (wordField v 0 3) (v.getLsbD 8)
  else if o = GG_EF_SET then s.efSet (v.toNat % 65536)
  else if o = GG_EF_CLR then s.efClr (v.toNat % 65536)
  else if o = GG_GSNAP then s.snapWrite 9 v
  else match indexOf GG_CTL 16 o with
  | some n => s.ggCtl n fun s => s.bitsDo v
      [(0, fun s => s.ggStart n), (1, fun s => s.ggStop n), (2, fun s => s.ggResume n), (3, fun s => s.clkRestart n),
        (4, fun s => s.fifoClr n)]
  | none => match indexOf GG_TXF 16 o with
  | some n => s.txfWrite n v
  | none => match indexOf GG_INJ 16 o with
  | some n => s.ggInj n v
  | none => match indexOf GG_INJ_FORCE 16 o with
  | some n => s.ggForce n v
  | none => match indexOf SQ_CMD 64 o with
  | some q => s.bitsDo v [(0, fun s => s.flush q), (1, fun s => s.put (SQ_CNT_LOST q) 0), (2, fun s => s.adv q),
      (3, fun s => s.commitItem q (wordField v 16 10))]
  | none => match indexOf SQ_LVL 64 o with
  | some q => s.sqLevelWrite q v
  | none => s.storeWord o v

/-- A write in block 0x12 to 0x18. -/
def State.writeHigh (s : State) (who : Who) (o : Nat) (v : Word) : State × Nat :=
  if o = MB_SNAP then (s.snapWrite 10 v, 0)
  else if o = HBR_SNAP then (s.snapWrite 11 v, 0)
  else if o = LPW_SNAP then (s.snapWrite 13 v, 0)
  else if o = UPD_CMD then (s.updCmd (wordField v 0 4) (wordField v 4 1) (wordField v 8 2) true, 0)
  else if o = UPD_OTP_KEY then (s.otpKey v, 0)
  else if o = TST_FTCTL then
    (if s.on MPC_MODE_FTEST then ((s.storeWord o v).bitsDo v [(8, State.mbistStart)], 0) else (s, 0x05))
  else match indexOf LSV_LS_CMD 8 o with
  | some n => ((s.storeWord o v).bitsDo v [(0, fun s => s.lsCaptStart n), (1, fun s => s.lsSweepStart n)], 0)
  | none => match indexOf MB_CMD 4 o with
  | some n => (s.bitsDo v [(0, fun s => s.mbRestart n)], 0)
  | none => match indexOf MB_TXCMD 4 o with
  | some n =>
    (if v.getLsbD 13 then s.txAbort n (wordField v 0 11)
      else if v.getLsbD 12 then s.txRequest n (wordField v 0 11) else s, 0)
  | none => match indexOf HBR_FENCE_CTL 5 o with
  | some r => (if v.getLsbD 0 ∧ r ≠ 2 ∧ r ≠ 3 then s.fenceStart r else s, 0)
  | none => match indexOf HBR_SEM 32 o with
  | some k => s.semWrite k (whoId who)
  | none => match indexOf LPW_P_CMD 2 o with
  | some p => (s.bitsDo v [(0, fun s => s.lpOff p), (1, fun s => s.lpOn p), (2, fun s => s.lpClear p), (3, fun s => s.detDue p)], 0)
  | none => (s.storeWord o v, 0)

/-- Whether an offset lies in an active table bank, which software cannot write (R200, R221, R395). -/
def activeBank (o : Nat) : Bool :=
  decide (0x0C4000 ≤ o ∧ o < 0x0C6000) || decide (0x0D1000 ≤ o ∧ o < 0x0D2000) || decide (0x0D3000 ≤ o ∧ o < 0x0D3200) ||
    decide (0x0D4000 ≤ o ∧ o < 0x0D8000) || (indexOf2 MB_DIR 4 1536 o).isSome

/-- Whether a write comes over the ring or through the host bridge (R106). -/
def State.outside (s : State) (who : Who) : Bool :=
  who.req.val == 4 || who.node.toNat != s.node || who.chip.val != s.chip

/-- A write of the register word at an offset: what it leaves and the response's status. DEDUCED, log entry 36. -/
def State.writeWord (s : State) (who : Who) (bcast : Bool) (o : Nat) (v : Word) : State × Nat :=
  if activeBank o then (s.fault (blkOf o) 0x0B (s.selfAddr o), 0x0A)
  else if isShadow o then
    let r := (s.keysDrop o).shadowWrite o fun s => s.wrMasked o v
    (r.1, if r.2 then 0 else 0x09)
  else
    let s1 := if o = MPC_FTEST ∨ o = UPD_OTP_KEY ∨ o = UPD_CMD then s else s.keysDrop o
    let b := blkOf o
    if b ≤ 0x06 then s1.writeLow who bcast o v
    else if b ≤ 0x0F then (s1.writeMid o v, 0)
    else if b ≤ 0x11 then (s1.writeGg o v, 0)
    else s1.writeHigh who o v

/-! ### Bivouac memory (R104, R105) -/

/-- A byte of bivouac memory that nothing has written. DESIGN CHOICE, log entry 4. -/
def bivDefault (_ : Nat) : Byte := 0#8

/-- The error mark of a bivouac word. -/
def State.bivMark (s : State) (w : Nat) : Option Mark := Tab.get (fun _ => none) s.biv.marks w

/-- Sets or clears it. -/
def State.setBivMark (s : State) (w : Nat) (m : Option Mark) : State :=
  { s with biv := { s.biv with marks := Tab.set (fun _ => none) s.biv.marks w m } }

/-- Bit flips that have reached bivouac memory; a second error in a marked word leaves it uncorrectable. -/
def State.bivUpset (s : State) (us : List Upset) : State :=
  s.each us fun s u =>
    if u.word < 0x4000 then s.setBivMark u.word (some ⟨u.uncorr || (s.bivMark u.word).isSome, u.pattern, false⟩) else s

/-- The byte address in bivouac memory of a window offset. -/
def State.bivAddr (s : State) (o : Nat) : Nat := o - 0x188000 + 0x8000 * s.get BIV_PAGE_HALF

/-- An access of one word of bivouac memory: a read delivers corrected data and reports, as in R43 and R44; the corrected
word goes back at once. A write covers the whole word. DEDUCED, log entry 36. -/
def State.bivDo (s : State) (write : Bool) (o : Nat) (v : Word) : State × Nat × Nat :=
  let a := s.bivAddr o
  if write then
    let s1 : State := { s with biv := { s.biv with mem := Tab.setList bivDefault s.biv.mem a (leBytes 4 v.toNat) } }
    (s1.setBivMark (a / 4) none, 0, 0)
  else
    let x := ofLeBytes (Tab.getList bivDefault s.biv.mem a 4)
    match s.bivMark (a / 4) with
    | none => (s, 0, x)
    | some m =>
      if m.uncorr then ((s.put BIV_STAT_UE 1).fault 0x18 0x07 (s.selfAddr o), 0x07, 0)
      else (((s.setBivMark (a / 4) none).put BIV_STAT_CE 1).fault 0x18 0x06 (s.selfAddr o), 0, x)

/-! ### An access as a whole -/

/-- An access of the register space: what it leaves, the response's status and the data of a read. `off` is a chip-local
offset outside the main store, `size` the bytes. An access of bivouac memory that waits answers nothing yet: `none`.
DEDUCED, log entry 36. -/
def State.regAccess (s : State) (who : Who) (write bcast : Bool) (size off data : Nat) : State × Option (Nat × Nat) :=
  match s.leadsTo off with
  | none => (s.fault 0x07 0x02 (s.selfAddr off), some (0x04, 0))
  | some o =>
    let b := blkOf o
    let s0 : State := if b = 0x02 ∨ b = 0x03 then s.rcUse else s
    if b = 0x15 ∧ s0.d2dLost then (s0, some (0, 0))
    else if s0.inReset b then (s0.fault 0x02 0x05 (s0.selfAddr off), some (0x08, 0))
    else if 0x188000 ≤ o ∧ o < 0x190000 then
      if size ≠ 4 ∨ o % 4 ≠ 0 then (s0.fault 0x18 0x01 (s0.selfAddr off), some (0x05, 0))
      else if write ∧ s0.outside who ∧ !s0.on BIV_CTL_EXT_WR then (s0.fault 0x18 0x04 (s0.selfAddr off), some (0x06, 0))
      else if !s0.on BIV_STAT_INIT_DONE then
        ({ s0 with biv := { s0.biv with wait := s0.biv.wait ++ [⟨who, write, size, off, data⟩] } }, none)
      else
        let r := s0.bivDo write o (BitVec.ofNat 32 data)
        (r.1, some r.2)
    else match regFind o with
    | none => (s0.fault b 0x01 (s0.selfAddr off), some (0x04, 0))
    | some (r, base) =>
      let wide := size = 8 ∧ r.bytes = 8 ∧ o = base
      if !(wide || (size == 4 && o % 4 == 0)) then (s0.fault b 0x01 (s0.selfAddr off), some (0x05, 0))
      else if write ∧ b = 0x18 ∧ s0.outside who ∧ !s0.on BIV_CTL_EXT_WR then
        (s0.fault 0x18 0x04 (s0.selfAddr off), some (0x06, 0))
      else if write then
        if wide then
          if o = TIME_SET then ((s0.wr64 TIME_SET data).timeSet data, some (0, 0))
          else
            let x := s0.writeWord who bcast o (BitVec.ofNat 32 data)
            let y := x.1.writeWord who bcast (o + 4) (BitVec.ofNat 32 (data / 2 ^ 32))
            (y.1, some (y.2, 0))
        else
          let x := s0.writeWord who bcast o (BitVec.ofNat 32 data)
          (x.1, some (x.2, 0))
      else if wide then
        if o = TIME_SPINDLE then (s0, some (0, s0.now))
        else
          let x := s0.readWord who o
          let y := x.1.readWord who (o + 4)
          (y.1, some (0, x.2 + 2 ^ 32 * y.2))
      else
        let x := s0.readWord who o
        (x.1, some (0, x.2))

/-- An access with its response; no requester runs while the D-die does not. -/
def State.regDone (s : State) (who : Who) (write bcast : Bool) (size off data : Nat) : State :=
  if s.dark then s
  else
    let r := s.regAccess who write bcast size off data
    match r.2 with
    | some (st, d) => r.1.answer (whoKey who) st d
    | none => r.1

/-- SHADOW_WRITE (R121): a write of a whole shadow register or of a word of a shadow bank, which is judged as every register
access is; an offset that is no shadow is no such write. -/
def execShadowWrite (who : Who) (off : BitVec 24) (value : Word) (s : State) : Out :=
  .next (match s.leadsTo off.toNat with
    | some o => if isShadow o then s.regDone who true false 4 off.toNat value.toNat else s
    | none => s)

/-- REGISTER_WRITE (R6). The main store is no register space: such an offset is no register write. -/
def execRegisterWrite (who : Who) (bcast : Bool) (size : Fin 4) (off : BitVec 38) (data : DWord) (upset : List Upset)
    (s : State) : Out :=
  .next (if storeBase ≤ off.toNat ∧ off.toNat < storeBase + storeSize then s
    else (s.bivUpset upset).regDone who true bcast (2 ^ size.val) off.toNat data.toNat)

/-- REGISTER_READ (R6). -/
def execRegisterRead (who : Who) (size : Fin 4) (off : BitVec 38) (upset : List Upset) (s : State) : Out :=
  .next (if storeBase ≤ off.toNat ∧ off.toNat < storeBase + storeSize then s
    else (s.bivUpset upset).regDone who false false (2 ^ size.val) off.toNat 0)

/-- BIVOUAC_ZEROING_DONE (R105): the memory is zero with valid check bits, and the accesses that waited proceed; in step 2
of R97. -/
def execBivouacZeroingDone (s : State) : Out :=
  .next (if s.on BIV_STAT_INIT_DONE || !s.upTo || s.sys.die == some 2 then s
    else
      let s1 : State := { s with biv := ⟨[], [], []⟩ }
      (s1.put BIV_STAT_INIT_DONE 1).each s.biv.wait fun s x => s.regDone x.who x.write false x.size x.off x.data)

/-- DMA_START (R54, R55). -/
def execDmaStart (ch : Fin 2) (s : State) : Out := .next (s.cmd (MSA_DMA_CTRL ch.val) fun s => s.dmaStart ch.val)

/-- DMA_ABORT (R55). -/
def execDmaAbort (ch : Fin 2) (s : State) : Out := .next (s.cmd (MSA_DMA_CTRL ch.val) fun s => s.dmaAbort ch.val)

end Sys2Proof.Machine
end

