-- ==== Sys2Proof/Machine/Target.lean ====
section
/-! DEFINITION. Fabric transactions as a whole: what a target performs, how a requester of this hub issues, the responses,
time-outs and DMA channels; and the accesses of the cores and the other requesters to the main store (R28 to R31, R38, R41,
R54, R55, R181 to R183, R410 to R416). -/
namespace Sys2Proof.Machine

/-! ### Performing a request (R410, R412) -/

/-- The data words of a response: the low `8 * n` bytes of a number. -/
def numWords (n x : Nat) : List DWord := (List.range n).map fun i => BitVec.ofNat 64 (x / 2 ^ (64 * i))

/-- Whether a chip-local offset lies in the main store. -/
def inStore (off : Nat) : Bool := decide (storeBase ≤ off ∧ off < storeBase + storeSize)

/-- Whether a request outside the main store must wait at its target: bivouac memory is not ready (R105). -/
def State.targetShut (s : State) (op off : Nat) : Bool :=
  if op = 6 then false
  else match s.leadsTo off with
    | some o => decide (0x188000 ≤ o ∧ o < 0x190000) && !s.on BIV_STAT_INIT_DONE
    | none => false

/-- The access form of a request to the main store; none where its SIZE or OP has none. -/
def storeForm (op size beats : Nat) (data : List DWord) : Option AccForm :=
  let w := data.getD 0 0#64
  if 4 < size then none
  else if size = 4 then
    match op with
    | 1 => some (.burstRead beats)
    | 2 => if data.length = 4 * beats then some (.burstWrite beats data) else none
    | _ => none
  else
    let z : Fin 4 := Fin.ofNat 4 size
    match op with
    | 1 => some (.read z)
    | 2 => some (.write z w)
    | 3 => some (.amo .swap z w 0#64)
    | 4 => some (.amo .add z w 0#64)
    | 5 => some (.amo .cas z w (data.getD 1 0#64))
    | _ => none

/-- An access of the main store that a fabric request asks for: its status and data, or none where it waits for its bank or
behind earlier accesses of its requester (R37, R40, R50). -/
def State.storeNow (s : State) (req o : Nat) (f : Option AccForm) (src : AccSrc) : State × Option (Nat × Nat) :=
  match f with
  | none => (s.fault 0x07 0x01 (s.selfAddr (storeBase + o)), some (0x05, 0))
  | some f =>
    if !accLegal f o then (s.fault 0x07 0x01 (s.selfAddr (storeBase + o)), some (0x05, 0))
    else if s.accWaits req o then (s.enwait ⟨req, o, f, src⟩, none)
    else
      let t := s.perform ⟨req, o, f, src⟩
      match t.resp with
      | some r => ({ t with resp := s.resp }, some (r.status, r.data))
      | none => (t, some (0, 0))

/-- The store requester that serves a fabric request (R37): a requester of this hub by its own number, the switch core for
one from elsewhere. -/
def State.storeReq (s : State) (who : Who) : Nat :=
  if who.node.toNat != s.node || who.chip.val != s.chip then 0
  else match who.req.val with
    | 0 => 1
    | 1 => 2
    | 2 => 3
    | 3 => 3
    | 4 => 5
    | _ => 7

/-- Performs a request at this hub: the state, and the status and the data unless it waits at the store (R410, R412). A FENCE
is answered, since every earlier request has been performed. SWAP, ADD and CAS work on the main store only.
DESIGN CHOICE, log entry 37. -/
def State.serve1 (s : State) (who : Who) (bcast : Bool) (op size beats off : Nat) (data : List DWord) (src : AccSrc) :
    State × Option (Nat × Nat) :=
  if op = 6 then (s, some (0, 0))
  else if inStore off then s.storeNow (s.storeReq who) (off - storeBase) (storeForm op size beats data) src
  else if op = 1 ∨ op = 2 ∨ (s.leadsTo off).isNone then
    let r := s.regAccess who (op != 1) bcast (accBytes size beats) off (data.getD 0 0#64).toNat
    match r.2 with
    | some (st, d) => (r.1, some (st, d))
    | none => (r.1, some (0, 0))
  else (s, some (0x05, 0))

/-- How many data words a response carries (R410). -/
def rspWords (op size beats status : Nat) : Nat :=
  if status ≠ 0 ∨ op = 2 ∨ op = 6 then 0 else if size = 4 then 4 * beats else 1

/-- The fields of a request frame: OP, SIZE, BEATS, the offset, the data. -/
def reqOp (f : Frame) : Nat := frWord f 0 % 256
def reqSize (f : Frame) : Nat := bits (frWord f 0) 16 3
def reqBeats (f : Frame) : Nat := bits (frWord f 0) 19 3 + 1
def reqAddr (f : Frame) : Nat := frWord f 1 % 2 ^ 48

/-- Whether a frame is for this hub's LOC (R179). -/
def State.forLoc (s : State) (f : Frame) : Bool := frDst f == 0xFF || (frDst f == s.node && frDstChip f == s.chip)

/-- Whether two request frames come from one requester: SRC_NODE, SRC_CHIP and REQ (R412). -/
def sameReq (f g : Frame) : Bool := frSrc f == frSrc g && frSrcChip f == frSrcChip g && frTag f / 2 ^ 13 == frTag g / 2 ^ 13

/-- Whether an access of the store comes from a request frame of the requester of another. -/
def AccSrc.netOf (x : AccSrc) (f : Frame) : Bool := match x with | .net g => sameReq f g | _ => false

/-- Whether LOC can serve a request now: one to the store may go and wait at its bank; any other follows the earlier requests
of its requester (R412). -/
def State.canServe (s : State) (f : Frame) : Bool :=
  (reqOp f != 6 && inStore (fabOff (reqAddr f))) ||
    (!s.targetShut (reqOp f) (fabOff (reqAddr f)) && !(s.store.wait.any fun x => x.src.netOf f) &&
      !(s.store.served.any fun x => x.1.netOf f))

/-- A request has been performed: it is answered unless it is a WRITE that succeeds (R412) or a broadcast (R413).
DESIGN CHOICE, log entry 37. -/
def State.netDone (s : State) (f : Frame) (status data : Nat) : State :=
  if frDst f = 0xFF ∨ (reqOp f = 2 ∧ status = 0) then s
  else s.originate (fabRsp f status (numWords (rspWords (reqOp f) (reqSize f) (reqBeats f) status) data)) 8

/-- LOC serves a request: it is performed and answered, or goes to wait at its bank. DESIGN CHOICE, log entry 37. -/
def State.serveFrame (s : State) (f : Frame) : State :=
  let who : Who := ⟨Fin.ofNat 8 (frTag f / 2 ^ 13), BitVec.ofNat 8 (frSrc f), Fin.ofNat 4 (frSrcChip f)⟩
  let r := s.serve1 who (frDst f == 0xFF) (reqOp f) (reqSize f) (reqBeats f) (fabOff (reqAddr f)) (f.payload.drop 2) (.net f)
  match r.2 with
  | some (st, d) => r.1.netDone f st d
  | none => r.1

/-- A request frame with a given OP that has reached LOC; one that cannot be served waits there.
DESIGN CHOICE, log entry 37. -/
def State.serveOp (s : State) (op : Nat) (f : Frame) : State :=
  if !s.dark && isFabReq f && reqOp f == op && s.forLoc f && s.canServe f then s.serveFrame f else s

/-- READ (R410). -/
def execFabRead (frame : Frame) (s : State) : Out := .next (s.serveOp 1 frame)
/-- WRITE (R412). -/
def execFabWrite (frame : Frame) (s : State) : Out := .next (s.serveOp 2 frame)
/-- SWAP (R410). -/
def execFabSwap (frame : Frame) (s : State) : Out := .next (s.serveOp 3 frame)
/-- ADD (R410): wraps modulo 2^32 or 2^64. -/
def execFabAdd (frame : Frame) (s : State) : Out := .next (s.serveOp 4 frame)
/-- CAS (R410). -/
def execFabCas (frame : Frame) (s : State) : Out := .next (s.serveOp 5 frame)
/-- FENCE (R415). -/
def execFabFence (frame : Frame) (s : State) : Out := .next (s.serveOp 6 frame)

/-! ### Issuing (R28, R181, R410, R413) -/

/-- The number of a new request of a requester. -/
def State.newTag (s : State) (r : Nat) : State × Nat :=
  let n := s.pickNum r
  ({ s with fab := { s.fab with num := Tab.set (fun _ => 0) s.fab.num r ((n + 1) % 4096) } }, s.mkTag r n)

/-- A posted write to this hub itself has been performed: a failure reports back as a response would (R412), and a DMA
channel notes its kind (R54). -/
def State.putDone (s : State) (tag : Nat) (q : FReq) (status : Nat) : State :=
  let s1 := match q.use with
    | .dma ch _ => if status = 0x06 then s.dmaErr ch 3 else if status = 0x04 then s.dmaErr ch 4 else s
    | _ => s
  if status = 0 ∨ s.inReset 0x14 then s1 else s1.pwFail tag status q.addr

/-- Performs a posted write to this hub itself. -/
def State.putGo (s : State) (tag : Nat) (q : FReq) : State :=
  let r := s.serve1 (s.ownWho q.req) false 2 q.size q.beats (fabOff q.addr) q.data (.own tag q)
  match r.2 with
  | some (st, _) => r.1.putDone tag q st
  | none => r.1

/-- Whether a request to this hub itself waits before it is performed: behind an earlier one of its requester (R412), unless
both go to the store, which keeps their order itself (R40), or for bivouac memory. DESIGN CHOICE, log entry 37. -/
def State.hereWaits (s : State) (q : FReq) : Bool :=
  (s.fab.here.any fun x => x.2.req == q.req) ||
    (!(q.op != 6 && inStore (fabOff q.addr)) &&
      (s.targetShut q.op (fabOff q.addr) || (s.store.wait.any fun x => x.src.isOwn fun p => p.req == q.req) ||
        s.store.served.any fun x => x.1.isOwn fun p => p.req == q.req))

/-- Leaves a request to this hub itself waiting. -/
def State.hereQueue (s : State) (tag : Nat) (q : FReq) : State :=
  { s with fab := { s.fab with here := s.fab.here ++ [(tag, q)] } }

/-- A requester posts a write (R413). -/
def State.post (s : State) (q : FReq) : State :=
  let t := s.newTag q.req
  if s.isLocal q.addr then
    let s1 := t.1.accepted q.req q.addr
    if s1.hereWaits q then s1.hereQueue t.2 q else s1.putGo t.2 q
  else t.1.postWrite q.req t.2 q.size q.beats q.addr q.data

/-- Splits a transfer of `n` bytes from an address into the largest naturally aligned accesses permitted: to the main store
of 4 B and 8 B and bursts of 32 B beats inside 256 B (R38), to registers of 4 B, and of 8 B where the map has a 64-bit
register (R4). Each is (SIZE, BEATS, bytes). -/
def State.splitAcc (s : State) : Nat → Nat → Nat → List (Nat × Nat × Nat)
  | 0, _, _ => []
  | k + 1, a, n =>
    if n < 4 then []
    else
      let o := fabOff a
      let wide : Bool :=
        if inStore o then true
        else match s.leadsTo o with
          | some g => match regFind g with | some (r, b) => r.bytes == 8 && b == g | none => false
          | none => false
      let x : Nat × Nat × Nat :=
        if inStore o && o % 32 == 0 && decide (32 ≤ n) then
          let b := min (n / 32) ((256 - o % 256) / 32)
          (4, b, 32 * b)
        else if wide && o % 8 == 0 && decide (8 ≤ n) then (3, 1, 8)
        else (2, 1, 4)
      x :: s.splitAcc k (a + x.2.2) (n - x.2.2)

/-- The data words of one access whose bytes stand in a list. -/
def accData (size beats : Nat) (bs : List Byte) : List DWord :=
  if size = 4 then numWords (4 * beats) (ofLeBytes bs) else [BitVec.ofNat 64 (ofLeBytes bs)]

/-- Posts the bytes of a list from an address on, as a requester's writes. -/
def State.postBytes (s : State) (use : Use) (r a : Nat) (bs : List Byte) : State :=
  let parts := s.splitAcc bs.length a bs.length
  (parts.foldl (fun (x : State × Nat) p =>
    let part := (bs.drop x.2).take p.2.2
    (x.1.post ⟨use, r, 2, p.1, p.2.1, a + x.2, accData p.1 p.2.1 part⟩, x.2 + p.2.2)) (s, 0)).1

/-- A response ends a request; the data of a DMA read goes on to its destination (R54). -/
def State.ended (s : State) (q : FReq) (status : Nat) (data : List DWord) : State :=
  match q.use with
  | .dma ch dst =>
    if status = 0 then s.postBytes (.dma ch 0) (2 + ch) dst (leBytes (accBytes q.size q.beats) (dataNum data))
    else s.finish q status data
  | _ => s.finish q status data

/-- Performs a non-posted request to this hub itself. -/
def State.getGo (s : State) (q : FReq) : State :=
  let r := s.serve1 (s.ownWho q.req) false q.op q.size q.beats (fabOff q.addr) q.data (.own 0 q)
  match r.2 with
  | some (st, d) => r.1.ended q st (numWords (rspWords q.op q.size q.beats st) d)
  | none => r.1

/-- An access that the store has served after a wait reaches its source. -/
def State.servedDone (s : State) (x : AccSrc) (status data : Nat) : State :=
  match x with
  | .own tag q =>
    if q.op = 2 then s.putDone tag q status
    else s.ended q status (numWords (rspWords q.op q.size q.beats status) data)
  | .net f => s.netDone f status data
  | _ => s

/-- The accesses that the store has served after a wait reach their sources; then the requests to this hub itself that no
longer wait are performed, each requester's in order. -/
def State.herePump (s : State) : State :=
  let s1 := ({ s with store := { s.store with served := [] } } : State).each s.store.served fun s x => s.servedDone x.1 x.2.1 x.2.2
  let l := s1.fab.here
  ({ s1 with fab := { s1.fab with here := [] } } : State).each l fun s x =>
    if s.hereWaits x.2 then s.hereQueue x.1 x.2
    else if x.2.op = 2 then s.putGo x.1 x.2 else s.getGo x.2

/-- A requester issues a request (R28, R181, R410): posted writes are accepted at once; a read or an atomic operation at
NODE 0xFF is refused; a request to this hub itself is performed without a frame. -/
def State.issueReq (s : State) (q : FReq) : State :=
  if q.op = 2 then
    let s1 := s.post q
    match q.use with
    | .direct => s1.answer (whoKey (s.ownWho q.req)) 0 0
    | _ => s1
  else if fabNode q.addr = 0xFF then (s.fault 0x07 0x03 q.addr).ended q 0x0B []
  else if s.isLocal q.addr then
    if s.hereWaits q then s.hereQueue 0 q else s.getGo q
  else if s.notMember q.addr then s.ended q 0x03 []
  else s.request q

/-! ### DMA channels (R54, R55) -/

/-- A channel. -/
def State.dmaCh (s : State) (ch : Nat) : DmaSt := Tab.get (fun _ => DmaSt.init) s.dma ch

/-- Changes a channel. -/
def State.modDma (s : State) (ch : Nat) (f : DmaSt → DmaSt) : State :=
  { s with dma := Tab.set (fun _ => DmaSt.init) s.dma ch (f (s.dmaCh ch)) }

/-- A parameter of a channel: where it is not the multiple of 8 that R54 asks for, a free multiple of 8 stands for it.
DESIGN CHOICE, log entry 19. -/
def dmaEff (v : Nat) : Nat := if v % 8 = 0 then v else 8 * Config.dmaOdd v

/-- SRC, DST and LEN of a channel. -/
def State.dmaSrc (s : State) (ch : Nat) : Nat :=
  dmaEff (s.get (MSA_DMA_SRC_LO_ADDR ch) + 2 ^ 32 * s.get (MSA_DMA_SRC_HI_ADDR ch)) % 2 ^ 48
def State.dmaDst (s : State) (ch : Nat) : Nat :=
  dmaEff (s.get (MSA_DMA_DST_LO_ADDR ch) + 2 ^ 32 * s.get (MSA_DMA_DST_HI_ADDR ch)) % 2 ^ 48
def State.dmaLen (s : State) (ch : Nat) : Nat :=
  let n := s.get (MSA_DMA_LEN_BYTES ch)
  (if n = 0 then 8 * Config.dmaOdd 0 else dmaEff n) % 2 ^ 24

/-- Whether a use is a DMA channel's. -/
def Use.ofDma (u : Use) (ch : Nat) : Bool := match u with | .dma c _ => c == ch | _ => false

/-- Whether a channel's requests to this hub itself wait. -/
def State.dmaHere (s : State) (ch : Nat) : Bool := s.hereAll.any fun q => q.use.ofDma ch

/-- Whether a channel still has reads or writes on their way. -/
def State.dmaBusy (s : State) (ch : Nat) : Bool :=
  (s.fab.out.any fun o => o.q.use.ofDma ch) || (s.fab.wait.any fun q => q.use.ofDma ch) || s.dmaHere ch

/-- After the last write the channel issues its fence (R54); after an abort at the next burst boundary (R55).
DESIGN CHOICE, log entry 19. -/
def State.dmaCheck (s : State) (ch : Nat) : State :=
  let d := s.dmaCh ch
  if s.on (MSA_DMA_STAT_BUSY ch) && !d.fence && (d.abort || decide (s.dmaLen ch ≤ d.pos)) && !s.dmaBusy ch && !s.inReset 0x14 then
    (s.modDma ch fun d => { d with fence := true }).fenceStart (2 + ch)
  else s

/-- Both channels. -/
def State.dmaPoll (s : State) : State := (s.dmaCheck 0).dmaCheck 1

/-- Whether a channel may issue its next burst. -/
def State.dmaMay (s : State) (ch : Nat) : Bool :=
  let a := s.dmaSrc ch + (s.dmaCh ch).pos
  s.on (MSA_DMA_STAT_BUSY ch) && !(s.dmaCh ch).fence && !(s.dmaCh ch).abort && decide ((s.dmaCh ch).pos < s.dmaLen ch) &&
    (if s.isLocal a then !s.dmaHere ch else s.hasCredit 2)

/-- The next burst: up to 256 B, inside 256 B at either end. DESIGN CHOICE, log entry 19. -/
def State.dmaBurst (s : State) (ch : Nat) : State :=
  if !s.dmaMay ch then s.dmaCheck ch
  else
    let p := (s.dmaCh ch).pos
    let a := s.dmaSrc ch + p
    let b := s.dmaDst ch + p
    let n := min (s.dmaLen ch - p) (min (256 - a % 256) (256 - b % 256))
    let parts := s.splitAcc n a n
    let s1 := s.modDma ch fun d => { d with pos := p + n }
    ((parts.foldl (fun (x : State × Nat) q =>
      (x.1.issueReq ⟨.dma ch (b + x.2), 2 + ch, 1, q.1, q.2.1, a + x.2, []⟩, x.2 + q.2.2)) (s1, 0)).1).dmaCheck ch

/-- DMA_BURST (R54). -/
def execDmaBurst (ch : Fin 2) (s : State) : Out :=
  if s.dark then .next s else
  .next (s.dmaBurst ch.val)

/-- The end of a channel's copy (R54, R55): ERR_KIND is 5 after an abort, else that of the first access that failed, else 2
where this copy's fence reported a failed write. A copy that ends without error writes ERR_KIND 0, for which the spec has no
code; ERR of an earlier copy stays set beside it. DESIGN CHOICE, log entry 19. -/
def State.dmaEnd (s : State) (ch : Nat) : State :=
  let s1 := if s.on (HBR_FENCE_STAT_BUSY (2 + ch)) then s.fenceEnd (2 + ch) else s
  let d := s.dmaCh ch
  let kind := if d.abort then 5 else if d.err ≠ 0 then d.err else if s.get (HBR_FENCE_STAT_NFAIL (2 + ch)) ≠ 0 then 2 else 0
  ((((s1.modDma ch fun _ => DmaSt.init).put (MSA_DMA_STAT_BUSY ch) 0).put (MSA_DMA_STAT_DONE ch) 1).when (kind != 0) fun s =>
    s.put (MSA_DMA_STAT_ERR ch) 1).put (MSA_DMA_STAT_ERR_KIND ch) kind

/-- DMA_DONE (R54): the fence has returned. -/
def execDmaDone (ch : Fin 2) (s : State) : Out :=
  if s.dark then .next s else
  .next (if s.on (MSA_DMA_STAT_BUSY ch.val) && (s.dmaCh ch.val).fence &&
      (!s.on (HBR_FENCE_STAT_BUSY (2 + ch.val)) || s.fenceReady (2 + ch.val)) then s.dmaEnd ch.val
    else s)

/-! ### Responses (R183, R412, R414) -/

/-- A response reaches LOC: it ends its request and returns the credit; one to a posted write is its failure; any other is an
orphan. -/
def State.respRx (s : State) (f : Frame) : State :=
  let status := bits (frWord f 0) 8 8
  if reqOp f = 2 then (if s.inReset 0x14 then s else s.pwFail (frTag f) status (reqAddr f))
  else match s.fab.out.find? fun o => o.tag == frTag f with
    | some o =>
      let s1 : State := { s with fab := { s.fab with out := s.fab.out.filter fun o => o.tag != frTag f } }
      ((s1.ended o.q status (f.payload.drop 2)).creditPump).dmaPoll
    | none => s.bump (RPE_CNT 7)

/-- Whether a frame is a fabric response. -/
def isFabRsp (f : Frame) : Bool := frClass f == 5 && frVc f == 1 && frKind f == 1

/-- FABRIC_RESPONSE_RX (R183, R412). -/
def execFabricResponseRx (frame : Frame) (s : State) : Out :=
  if s.dark then .next s else
  .next (if isFabRsp frame && s.forLoc frame then s.respRx frame else s)

/-- The response time-out, in ticks of the spindle. -/
def State.rspTo (s : State) : Nat := max 1 (s.get RPE_CTL_RSP_TO) * 25000

/-- RSP_TIMEOUT (R183): TIMEOUT to the requester, the credit back, counted and reported; the TAG rests. -/
def execRspTimeout (tag : BitVec 16) (s : State) : Out :=
  if s.dark then .next s else
  .next (match s.fab.out.find? fun o => o.tag == tag.toNat with
    | some o =>
      let s1 : State := { s with fab := { s.fab with
        out := s.fab.out.filter fun o => o.tag != tag.toNat
        rest := (s.fab.rest.filter fun x => x.1 != tag.toNat) ++ [(tag.toNat, s.now + 4 * s.rspTo)] } }
      ((((((s1.ended o.q 0x02 []).bump (RPE_CNT 6)).put RPE_EVT_RSP_TIMEOUT 1).fault 0x0C 0x35 tag.toNat).creditPump).dmaPoll)
    | none => s)

/-! ### The main store from its requesters (R30, R38, R41) -/

/-- An access outside every register window and the main store (R30). -/
def State.unmapped (s : State) (req addr : Nat) : State := (s.fault 0x07 0x02 (s.selfAddr addr)).refuse req 0x04

/-- The fabric address that a core's access to its fabric window goes to (R31): NODE, CHIP and OFFS_HI of its MSA_FWIN as they
stand at the access (R32), and the low 31 bits of the core address. DESIGN CHOICE, log entry 37. -/
def State.windowAddr (s : State) (core a : Nat) : Nat :=
  let w := (s.rd (MSA_FWIN core)).toNat
  fabAddr (bits w 0 8) (bits w 8 2) (bits w 16 7 * 2 ^ 31 + a % 2 ^ 31)

/-- Whether a core address lies in the fabric window. -/
def inWindow (a : Nat) : Bool := decide (0x80000000 ≤ a ∧ a < 0x100000000)

/-- A core's access through its fabric window (R31): a fabric request of the core. A burst's beats go out whole; an indivisible
operation has no effect there (R41). -/
def State.windowAccess (s : State) (core a : Nat) (f : AccForm) : State :=
  let go (op size beats : Nat) (data : List DWord) : State :=
    s.issueReq ⟨.direct, core, op, size, beats, s.windowAddr core a, data⟩
  match f with
  | .read z => go 1 z.val 1 []
  | .write z d => go 2 z.val 1 [BitVec.ofNat 64 (d.toNat % 2 ^ (8 * 2 ^ z.val))]
  | .burstRead n => if 1 ≤ n ∧ n ≤ 8 then go 1 4 n [] else s.refuse (core + 1) 0x05
  | .burstWrite n ws => if 1 ≤ n ∧ n ≤ 8 ∧ ws.length = 4 * n then go 2 4 n ws else s.refuse (core + 1) 0x05
  | .resume _ => s
  | .amo _ _ _ _ => s.refuse (core + 1) 0x05

/-- MAIN_STORE_ACCESS (R30, R31, R38): an access of the store, or of a core through its fabric window; an offset in the register
space is no access of the store. -/
def execMainStoreAccess (req : Fin 8) (addr : BitVec 38) (form : AccForm) (upset : List Upset) (s : State) : Out :=
  if s.dark then .next s else
  let a := addr.toNat
  .next (if inStore a then (s.upset upset).access req.val (a - storeBase) form
    else if (s.leadsTo a).isSome then s
    else if inWindow a && (req.val == 1 || req.val == 2) then s.windowAccess (req.val - 1) a form
    else s.unmapped req.val a)

/-- ATOMIC_OPERATION (R41): an RV32 A operation of a core at a core address; in register space and the fabric window it has
no effect and the core takes a store access-fault exception. CAS is none of the A extension.
PRESUMED, log entry 8. -/
def execAtomicOperation (core : Fin 2) (addr : BitVec 32) (op : AmoOp) (data : Word) (upset : List Upset) (s : State) : Out :=
  if s.dark then .next s else
  let a := addr.toNat
  let r := core.val + 1
  .next (if op = .cas then s
    else if inStore a then (s.upset upset).access r (a - storeBase) (.amo op 2 (data.zeroExtend 64) 0#64)
    else if a < 0x1000000 ∨ 0x80000000 ≤ a then s.refuse r 0x05
    else s.unmapped r a)

/-! ### Origination at LOC (R208) -/

/-- What a frame says, without what the hub fills in. -/
def specOf (f : Frame) : FrameSpec :=
  ⟨frClass f, frVc f, frKind f, frDst f, frDstChip f, frMcast f, frGroup f, frSched f, frSlot f, frQueue f, frTag f,
    f.payload, none⟩

/-- FRAME_ORIGINATE (R181, R208): a fabric request of a requester is issued under R410 with the hub's own TAG; any other frame
goes to LOC's origination. A payload longer than R168 allows is no frame. -/
def execFrameOriginate (frame : Frame) (prod : BitVec 8) (s : State) : Out :=
  if s.dark then .next s else
  .next (if 256 < frame.payload.length then s
    else if isFabReq frame && decide (prod.toNat ≤ 5) then
      s.issueReq ⟨.direct, prod.toNat, reqOp frame, reqSize frame, if reqSize frame = 4 then reqBeats frame else 1, reqAddr frame,
        frame.payload.drop 2⟩
    else s.originate (specOf frame) prod.toNat)

end Sys2Proof.Machine
end

