-- ==== Sys2Proof/Machine/Host.lean ====
section
/-! DEFINITION. The host's side of the bridge: the QSPI commands, the host lane and HOST_INT_N (R159, R420 to R423). -/
namespace Sys2Proof.Machine

/-! ### QSPI (R420) -/

/-- Leaves the bytes a QSPI command returns. -/
def State.qspiOut (s : State) (bs : List Byte) : State := { s with hbr := { s.hbr with qspi := bs } }

/-- HBR_CTL.PORT: 0 none, 1 QSPI, 2 the host lane; 3 acts as 0. -/
def State.port (s : State) : Nat := if s.get HBR_CTL_PORT = 3 then 0 else s.get HBR_CTL_PORT

/-- A QSPI command without effect, counted. -/
def State.qspiDrop (s : State) : State := (s.bump (HBR_CNT 8)).put HBR_EVT_DROP 1

/-- Whether the bridge's balls are configured: the record has been applied, and the bridge has not been reset since the last
apply (R99, R100). -/
def State.hbrOpen (s : State) : Bool := s.sys.recordOn && !s.hbr.r99

/-- Whether the QSPI target answers commands on a port (R99, R100, R422), as it does in recovery too (R494); a bridge that is asked
to become idle takes none (R88). -/
def State.qspiOn (s : State) : Bool := (s.hbrOpen || s.on UPD_STAT_RECOVERY) && s.open_ 0x14

/-- A command that only PORT 1 answers (R422); a bridge in reset or another port leaves it without effect.
PRESUMED, log entry 38. -/
def State.qspi (s : State) (f : State → State) : State :=
  let s1 := s.qspiOut []
  if !s.qspiOn ∨ s.port ≠ 1 then s1 else f s1

/-- A command that PORT 1 and PORT 2 answer. -/
def State.qspiAny (s : State) (f : State → State) : State :=
  let s1 := s.qspiOut []
  if !s.qspiOn ∨ s.port = 0 then s1 else f s1

/-- STATUS: HBR_HST, read as the register is. DEDUCED, log entry 36. -/
def execQspiStatus (s : State) : Out :=
  .next (s.qspiAny fun s =>
    let r := s.readWord (s.ownWho 4) HBR_HST
    r.1.qspiOut (leBytes 4 r.2))

/-- IDENT: the part, the stepping and the low word of the unit ID. -/
def execQspiIdent (s : State) : Out :=
  .next (s.qspiAny fun s =>
    s.qspiOut (leBytes 2 (s.get ID_PART_HWTYPE) ++ leBytes 2 (s.get ID_PART_STEP) ++ leBytes 4 (s.rd (UPD_UID 0)).toNat))

/-- The post-buffer units of 8 B that the accesses of a transfer take. -/
def partUnits (l : List (Nat × Nat × Nat)) : Nat := l.foldl (fun a p => a + (if p.1 = 4 then 4 * p.2.1 else 1)) 0

/-- WRITE: the whole command goes into the post buffer of 1 KiB, or is discarded and counted. -/
def State.qspiWrite (s : State) (addr : Nat) (bs : List Byte) : State :=
  if 128 < s.postUnits + partUnits (s.splitAcc bs.length addr bs.length) then (s.put HBR_HST_WR_DROP 1).qspiDrop
  else (s.bump (HBR_CNT 1)).postBytes .direct 4 addr bs

/-- WRITE (R413, R420); fewer or more bytes than N says are a command cut short. -/
def execQspiWrite (addr : BitVec 48) (n : Fin 64) (data : List Byte) (s : State) : Out :=
  .next (s.qspi fun s => if data.length = 4 * (n.val + 1) then s.qspiWrite addr.toNat data else s.qspiDrop)

/-- Whether a host tag is in use. -/
def State.tagBusy (s : State) (t : Nat) : Bool := s.getBit HBR_HST_BUSY t

/-- Takes a tag for a result in so many parts. -/
def State.tagTake (s : State) (t n due : Nat) (data : Tab (Option Byte)) : State :=
  (s.setBit HBR_HST_BUSY t).setHTag t (some ⟨n, due, 0, data⟩)

/-- READ_REQ: the accesses of the transfer are issued under the tag. -/
def State.readReq (s : State) (t addr n : Nat) : State :=
  if s.tagBusy t then s.qspiDrop
  else
    let bytes := 4 * (n + 1)
    let parts := s.splitAcc bytes addr bytes
    let s1 := (s.bump (HBR_CNT 0)).tagTake t n parts.length []
    (parts.foldl (fun (x : State × Nat) p =>
      (x.1.issueReq ⟨.tag t x.2, 4, 1, p.1, p.2.1, addr + x.2, []⟩, x.2 + p.2.2)) (s1, 0)).1

/-- READ_REQ (R420). -/
def execReadReq (tag : Fin 8) (addr : BitVec 48) (n : Fin 64) (s : State) : Out :=
  .next (s.qspi fun s => s.readReq tag.val addr.toNat n.val)

/-- READ_GET: the status, N and the data of a ready tag, which it frees; 0xFF while the result is pending. Bytes whose access
failed are free values, and so is the answer for a tag that is not in use. PRESUMED, log entry 38. -/
def State.readGet (s : State) (t : Nat) : State :=
  match s.hTag t with
  | none => s.qspiOut [Config.noData t 256]
  | some h =>
    if s.getBit HBR_HST_READY t then
      let bs := (List.range (4 * (h.n + 1))).map fun i => (Tab.get (fun _ => none) h.data i).getD (Config.noData t i)
      (((s.clrBit HBR_HST_READY t).clrBit HBR_HST_BUSY t).setHTag t none).qspiOut
        (BitVec.ofNat 8 h.status :: BitVec.ofNat 8 h.n :: bs)
    else s.qspiOut [0xFF#8]

/-- READ_GET (R420). -/
def execReadGet (tag : Fin 8) (s : State) : Out := .next (s.qspi fun s => s.readGet tag.val)

/-- AMO: SWAP, ADD or CAS under a tag; its result is one word of 8 B. -/
def State.hostAmo (s : State) (t op size addr : Nat) (data : List DWord) : State :=
  if s.tagBusy t then s.qspiDrop
  else
    let high : Tab (Option Byte) := if size = 2 then (List.range 4).map fun i => (4 + i, some 0#8) else []
    ((s.bump (HBR_CNT 2)).tagTake t 1 1 high).issueReq ⟨.tag t 0, 4, op, size, 1, addr, data⟩

/-- AMO (R420): OP 3, 4 or 5, SIZE 2 or 3; one operand word, two for CAS, else the command is cut short. -/
def execAmo (tag : Fin 8) (op : Fin 3) (size : Fin 2) (addr : BitVec 48) (data : List DWord) (s : State) : Out :=
  .next (s.qspi fun s =>
    if data.length = (if op.val = 2 then 2 else 1) then s.hostAmo tag.val (3 + op.val) (2 + size.val) addr.toNat data
    else s.qspiDrop)

/-- FENCE (R415, R420). -/
def execQspiFence (s : State) : Out := .next (s.qspi fun s => s.fenceStart 4)

/-- FENCE_GET (R420): the fence's status, and FIRST_ADDR in 8 B; FENCE_DONE is cleared. DEDUCED, log entry 38. -/
def execFenceGet (s : State) : Out :=
  .next (s.qspi fun s =>
    (s.put HBR_HST_FENCE_DONE 0).qspiOut (leBytes 4 (s.rd (HBR_FENCE_STAT 4)).toNat ++
      leBytes 4 (s.rd (HBR_FENCE_ADDR_LO 4)).toNat ++ leBytes 4 (s.rd (HBR_FENCE_ADDR_HI 4)).toNat))

/-- QSPI_CUT_SHORT (R420). -/
def execQspiCutShort (s : State) : Out := .next (s.qspiAny State.qspiDrop)

/-! ### The host lane (R421, R422) -/

/-- Data words of a record. -/
def recData (op size beats : Nat) : Nat :=
  match op with
  | 2 => if size = 4 then 4 * beats else 1
  | 3 => 1
  | 4 => 1
  | 5 => 2
  | _ => 0

/-- The records of a frame, as many as it says and holds: words 0 and 1 and the data. -/
def laneRecords : Nat → List DWord → List (Nat × Nat × List DWord)
  | 0, _ => []
  | k + 1, w0 :: w1 :: r =>
    let n := recData (w0.toNat % 256) (bits w0.toNat 16 3) (bits w0.toNat 19 3 + 1)
    if r.length < n then [] else (w0.toNat, w1.toNat, r.take n) :: laneRecords k (r.drop n)
  | _ + 1, _ => []

/-- Bytes of a record of `n` data words. -/
def recBytes (n : Nat) : Nat := 16 + 8 * n

/-- The request buffer in use: records whose request has not been issued or accepted yet. -/
def State.laneUsed (s : State) : Nat :=
  let isLane (q : FReq) : Bool := match q.use with | .lane _ => true | _ => false
  let a := (s.fab.wait.filter isLane).foldl (fun a q => a + recBytes q.data.length) 0
  let b := (s.hereAll.filter isLane).foldl (fun a q => a + recBytes q.data.length) a
  (s.fwd.locWait.filter fun w => w.prod == 4 && w.spec.kind == 1).foldl (fun a w => a + 8 * w.spec.payload.length) b

/-- Free bytes of the request buffer of 4 KiB. -/
def State.laneFree (s : State) : Nat := 4096 - s.laneUsed

/-- A host-lane frame dropped by HBR. -/
def State.laneDrop (s : State) : State := (s.bump (HBR_CNT 7)).put HBR_EVT_DROP 1

/-- One record: FENCE asks for the host's fence, the others are issued (R422). PRESUMED, log entry 38. -/
def State.laneRec (s : State) (x : Nat × Nat × List DWord) : State :=
  let op := x.1 % 256
  let size := bits x.1 16 3
  let beats := if size = 4 then bits x.1 19 3 + 1 else 1
  let htag := x.2.1 / 2 ^ 48
  if op = 6 then
    ({ s with hbr := { s.hbr with fences := s.hbr.fences ++ [htag] } } : State).fenceStart 4
  else
    (s.bump (HBR_CNT (if op = 1 then 0 else if op = 2 then 1 else 2))).issueReq
      ⟨.lane htag, 4, op, size, beats, x.2.1 % 2 ^ 48, x.2.2⟩

/-- Whether the host lane works: S1 in host mode and up. -/
def State.hostLane (s : State) : Bool := s.laneHost 3 && s.laneUp 3

/-- The address of this bridge. -/
def State.hbrMac (s : State) : Nat := s.get HBR_MAC_LO_MAC + 2 ^ 32 * s.get HBR_MAC_HI_MAC

/-- A frame that the lane's MAC has passed. PRESUMED, log entry 38. -/
def State.hostFrame (s : State) (dst src : Nat) (payload : List DWord) : State :=
  let h := (payload.getD 0 0#64).toNat
  let recs := laneRecords (bits h 8 8) (payload.drop 1)
  let bytes := recs.foldl (fun a x => a + recBytes x.2.2.length) 0
  if s.port ≠ 2 then s.laneDrop
  else if dst ≠ s.hbrMac ∧ dst ≠ 2 ^ 48 - 1 then s.laneDrop
  else if bits h 0 8 ≠ 1 ∨ bits h 48 8 ≠ 0 ∨ s.laneFree < bytes then s.laneDrop
  else
    ((((s.bump (HBR_CNT 5)).put HBR_HOSTMAC_LO_MAC src).put HBR_HOSTMAC_HI_MAC (src / 2 ^ 32)).put
      HBR_STAT_HOSTMAC_VALID 1).each recs State.laneRec

/-- HOST_FRAME_RX (R159, R421, R422): a frame of `len` bytes with its FCS; a wrong EtherType, a bad FCS, a runt and a frame
over length are dropped by the MAC and counted in LANE_BLK_ERRS; a PAUSE frame is discarded and no more. -/
def execHostFrameRx (dst src : BitVec 48) (etherType len : BitVec 16) (vlan good : Bool) (payload : List DWord)
    (s : State) : Out :=
  let fits := 64 ≤ len.toNat ∧ len.toNat ≤ (if vlan then 1522 else 1518)
  .next (if !s.hostLane ∨ s.inReset 0x0B then s
    else if etherType = 0x8808#16 ∧ good ∧ fits then s
    else if etherType ≠ 0x88B5#16 ∨ !good ∨ ¬ fits then
      s.bump (LANE_BLK_ERRS 3)
    else if !s.open_ 0x14 then s
    else s.hostFrame dst.toNat src.toNat payload)

/-- The records that fit in one frame of at most 1,500 B, `room` bytes being left, and the rest. -/
def packRecs : Nat → List (List DWord) → List DWord × List (List DWord)
  | _, [] => ([], [])
  | room, r :: l =>
    if room < 8 * r.length then ([], r :: l)
    else
      let p := packRecs (room - 8 * r.length) l
      (r ++ p.1, p.2)

/-- Sends a frame to the host's address from HBR_MAC (R421): the bridge header and the records. PRESUMED, log entry 38. -/
def State.laneSend (s : State) (type count : Nat) (body : List DWord) : State :=
  let h : DWord := BitVec.ofNat 64 (1 + count % 256 * 2 ^ 8 + s.hbr.seq % 65536 * 2 ^ 16 + s.laneFree / 64 % 65536 * 2 ^ 32
    + type * 2 ^ 48)
  let mac := s.get HBR_HOSTMAC_LO_MAC + 2 ^ 32 * s.get HBR_HOSTMAC_HI_MAC
  let s1 : State := { s with hbr := { s.hbr with sent := some ⟨mac, s.hbrMac, h :: body⟩, seq := (s.hbr.seq + 1) % 65536 } }
  s1.bump (HBR_CNT 6)

/-- HOST_RESPONSE_TX (R422). -/
def execHostResponseTx (s : State) : Out :=
  .next (if s.hostLane && s.port == 2 && !s.inReset 0x14 && !s.inReset 0x0B && !s.hbr.rsp.isEmpty then
      let p := packRecs (1500 - 8) s.hbr.rsp
      let s1 := s.laneSend 0 (s.hbr.rsp.length - p.2.length) p.1
      { s1 with hbr := { s1.hbr with rsp := p.2 } }
    else s)

/-! ### HOST_INT_N (R423) -/

/-- The condition of HOST_INT_N sampled; with PORT 2 and INT_FRAME each change to true sends a notification frame. -/
def State.hostIntSample (s : State) : State :=
  let now := s.hostInt
  let s1 : State := { s with hbr := { s.hbr with intWas := now } }
  if now && !s.hbr.intWas && s.port == 2 && s.on HBR_CTL_INT_FRAME && s.hostLane && !s.inReset 0x14 && !s.inReset 0x0B &&
      s.on HBR_STAT_HOSTMAC_VALID then
    s1.laneSend 1 0 []
  else s1

end Sys2Proof.Machine
end

