-- ==== Sys2Proof/Machine/Ring.lean ====
section
/-! DEFINITION. Frames on the lanes and at LOC: arrival with its checks, the order in which a lane sends, schedule windows,
stale frames and delivery at LOC (R142, R167 to R181, R198 to R201, R205, R209, R229, R233, R256, R267). -/
namespace Sys2Proof.Machine

/-! ### The header check (R172) -/

/-- Whether a KIND allows a class (R169). -/
def kindAllows (kind cls : Nat) : Bool :=
  match kind with
  | 0 => cls != 4
  | 1 => cls == 5
  | 2 => cls == 5 || cls == 7
  | 3 => cls == 5
  | 4 => cls == 4
  | 5 => cls == 5 || cls == 7
  | 6 => true
  | 7 => cls == 7
  | _ => false

/-- The first reason of R172 for which a frame is dropped, 0 for none, on a link of version `ver`.
DEDUCED, log entry 17. DEDUCED, log entry 18. -/
def headerReason (f : Frame) (sofClass ver : Nat) : Nat :=
  if frHver f = 0 ∨ ver < frHver f then 1
  else if frClass f ≠ sofClass then 2
  else if f.payload.length ≠ frPlen f then 3
  else if !kindAllows (frKind f) (frClass f) then 4
  else if frDst f = 0xFE ∨ (frMcast f = 1 ∧ frDst f ≠ 0xFF) then 5
  else if frSched f = 1 ∧ frClass f ≠ 6 then 6
  else if frDup f = 1 ∧ (frClass f ≤ 4 ∨ ver = 1) then 7
  else if frVc f = 1 ∧ frClass f ≠ 5 then 8
  else 0

/-- A header drop (R172). DEDUCED, log entry 18. -/
def State.headerDrop (s : State) (lane reason : Nat) (f : Frame) : State :=
  (((((s.bump (RPE_CNT 0)).put RPE_HDR_LOG_REASON reason).put RPE_HDR_LOG_LANE lane).put RPE_HDR_LOG_SRC_NODE (frSrc f)).put
    RPE_EVT_HDR 1).fault 0x0C 0x33 lane

/-! ### The deadline check (R201) -/

/-- The direction a frame travelled that came by a ring lane: what arrives on W goes CW. -/
def travelled (lane : Nat) : Nat := 1 - lane

/-- The deadline of a scheduled frame that came by a ring lane, if its DELIVER entry gives one. -/
def State.dueOf (s : State) (lane : Nat) (f : Frame) : Option Nat :=
  if frSched f = 1 ∧ lane < 2 then
    match s.deliver (travelled lane) (frSlot f) with
    | some d => if d = 0 then none else some (frStamp f + 64 * d)
    | none => none
  else none

/-- A late frame's report. -/
def State.mediaLate (s : State) (lane due : Nat) (f : Frame) : State :=
  ((((((((s.bump (RPE_CNT 1)).put RPE_LATE_LOG0_SRC_NODE (frSrc f)).put RPE_LATE_LOG0_SRC_CHIP (frSrcChip f)).put
    RPE_LATE_LOG0_SLOT (frSlot f)).put RPE_LATE_LOG0_DIR (travelled lane)).put RPE_LATE_LOG1_LATENESS
    (min (2 ^ 32 - 1) (s.now - due))).put RPE_EVT_LATE 1).fault 0x0C 0x39 (frSlot f)).miss 1 0x0C (frSlot f) due

/-! ### Arrival (R205) -/

/-- Whether a copy delivers in this node: LOC, or S0 of the master for its own node (R201, R233). -/
def State.delivers (s : State) (f : Frame) (c : Copy) : Bool :=
  c.fate != .unreachQuiet && (c.port == 4 || (c.port == 2 && (frDst f == 0xFF || frDst f == s.node)))

/-- The egress copies of an accepted frame after the discard of second copies and the deadline check. -/
def State.decided (s : State) (lane : Nat) (f : Frame) : State × List Copy :=
  let l := s.egress lane f
  let rest := l.filter fun c => !s.delivers f c
  if !(l.any fun c => s.delivers f c) then (s, l)
  else
    let r := if frDup f = 1 ∧ s.master then s.discard f else (s, true)
    if !r.2 then (r.1, rest)
    else match s.dueOf lane f with
      | some due => if due < s.now then (r.1.mediaLate lane due f, rest) else (r.1, l)
      | none => (r.1, l)

/-- Whether a frame on a ring lane carries this hub's own source. -/
def State.ownFrame (s : State) (lane : Nat) (f : Frame) : Bool :=
  decide (lane < 2) && s.node != 0xFE && frSrc f == s.node && frSrcChip f == s.chip

/-- Whether a frame on a ring lane belongs to this twin's pair (R256). -/
def State.pairFrame (s : State) (lane : Nat) (f : Frame) : Bool :=
  decide (lane < 2) && s.on RED_TWIN_CTL_TWIN && s.get RED_TWIN_STAT_PAIR_NODE != 0xFE &&
    frSrc f == s.get RED_TWIN_STAT_PAIR_NODE && frSrcChip f == 1

/-- The ring lane that faces the partner: W of the lead, E of the second (R254). -/
def State.pairLane (s : State) : Nat := if s.on ID_STRAP_TWIN_PREF then 1 else 0

/-- A frame that has passed the CRC and the header check. -/
def State.frameGood (s : State) (lane : Nat) (f : Frame) (age : Nat) : State :=
  let t := roundDivI (s.rxStamp lane age) 64
  let go (s : State) (l : List Copy) : State := (s.place lane false t l).each (owed f l) fun s q => (s.orig1 q 8).1
  if frKind f = 3 ∧ cenOp f = 1 then go s [locCopy f]
  else if s.ownFrame lane f && frKind f == 6 then s.markRx (frWord f 0)
  else if s.ownFrame lane f && frKind f == 4 then s.bump (RPE_CNT 4)
  else if frKind f = 4 then s.ptpRx lane f age
  else if s.pairFrame lane f then
    (if frHops f = 1 ∧ lane = s.pairLane then go s [s.ringCopy f (1 - lane)] else s.bump (RPE_CNT 4))
  else if s.ownFrame lane f && frWrap f == 0 then s.bump (RPE_CNT 4)
  else
    let r := s.decided lane f
    go r.1 r.2

/-- Whether frames that come on a lane reach the switch core: it is UP, and no unit on the way is in reset or asked to become idle
(R88, R232). -/
def State.takesFrames (s : State) (lane : Nat) : Bool :=
  s.laneUp lane && !s.inReset (laneBlk lane) && !s.on (LANE_STAT_HOSTMODE lane) && s.open_ 0x0D

/-- Counts a frame that has come, by its bytes. -/
def State.rxCount (s : State) (lane bytes : Nat) : State := (s.bump (FWD_CNT lane 0)).count (FWD_CNT lane 1) bytes

/-- A frame with a bad CRC is dropped, counted and reported (R205). -/
def State.crcDrop (s : State) (lane bytes : Nat) : State :=
  (((s.rxCount lane bytes).bump (FWD_CNT lane 4)).put FWD_EVT_CRC 1).fault 0x0D 0x34 lane

/-- A frame's EOF arrives on a lane: a switch core in reset discards it uncounted (R232); more than 260 data blocks are
discarded by the lane (R142); a bad CRC drops it before its header is read (R205). -/
def State.frameRx (s : State) (lane sofClass : Nat) (f : Frame) (trailer age : Nat) : State :=
  if !s.takesFrames lane then s
  else if 256 < f.payload.length then s.bump (LANE_BLK_ERRS lane)
  else
    if frTrailer f ≠ trailer % 2 ^ 32 then (s.writeCells f).1.crcDrop lane (frBytes f)
    else
      let s1 := s.rxCount lane (frBytes f)
      let r := headerReason f sofClass (s.get (LANE_STAT_VER lane))
      if r ≠ 0 then (s1.writeCells f).1.headerDrop lane r f else s1.frameGood lane f age

/-- FRAME_RX (R205). DEDUCED, log entry 34. -/
def execFrameRx (lane : Fin 4) (sofClass : Fin 8) (frame : Frame) (trailer : DWord) (age : BitVec 32) (s : State) : Out :=
  .next (s.frameRx lane.val sofClass.val frame trailer.toNat age.toNat)

/-! ### Windows (R198) -/

/-- The open window of a ring lane. -/
def State.window (s : State) (l : Nat) : Option Win :=
  match Tab.get (fun _ => none) s.fwd.win l with
  | some w => if w.start ≤ s.now ∧ s.now < w.start + w.len then some w else none
  | none => none

/-- SCHED_WINDOW (R198): a window of a slot in a ring lane's active table opens at its START; the spindle goes there. No window
opens before the next boundary after a step (R277). DEDUCED, log entry 34. -/
def execSchedWindow (lane : Fin 2) (slot : Fin 512) (s : State) : Out :=
  .next (match (s.wins lane.val).find? fun w => w.1 == slot.val with
    | some (_, start, len) =>
      let p := s.now % 31250
      if s.time.noWin ∨ start < p ∨ s.inReset 0x0D then s
      else
        let s1 := (s.elapse (start - p)).wr64 TIME_SPINDLE (s.now + (start - p))
        { s1 with fwd := { s1.fwd with win := Tab.set (fun _ => none) s1.fwd.win lane.val (some ⟨slot.val, s1.now, len⟩) } }
    | none => s)

/-- Ticks until the next window of a ring lane's table starts; none without windows. -/
def State.toWindow (s : State) (l : Nat) : Option Nat :=
  let p := s.now % 31250
  ((s.wins l).map fun w => if p < w.2.1 then w.2.1 - p else w.2.1 + 31250 - p).min?

/-! ### What a lane sends (R175 to R177) -/

/-- The share of BULK bytes in a cycle, in units of 1/400 B (R177). -/
def State.bulkShare (s : State) (l : Nat) : Nat :=
  let mult := match s.get (LANE_STAT_RATE l) with | 0 => 1 | 1 => 2 | 2 => 4 | 3 => 8 | _ => 20
  min 100 (max 1 (s.get RPE_CTL_BULK_CAP)) * 78125 * mult

/-- The BULK bytes counted in this cycle, in the same unit. -/
def State.bulkUsed (s : State) (l : Nat) : Nat := Tab.get (fun _ => 0) s.fwd.bulk l

/-- The first frame of a queue that satisfies a condition, with its place. -/
def State.headOf (s : State) (l qi : Nat) (p : Frame → Bool) : List (Nat × Nat × QFrame) :=
  let q := s.queue l qi
  match q.findIdx? fun x => p x.f with
  | some i => match q[i]? with
    | some x => [(qi, i, x)]
    | none => []
  | none => []

/-- The frames a lane may send next, first choice first (R175). Class 6 queues one line for each slot and one for the frames
without, so the head of each line is considered. -/
def State.candidates (s : State) (l : Nat) : List (Nat × Nat × QFrame) :=
  let any (qi : Nat) := s.headOf l qi fun _ => true
  let ring := decide (l < 2)
  match (if ring then s.window l else none) with
  | some w => (s.headOf l 1 fun f => frSched f == 1 && frSlot f == w.slot) ++ any 0
  | none =>
    let bulk := if s.bulkUsed l < s.bulkShare l then any 5 ++ any 6 ++ any 7 ++ any 8 else []
    any 0 ++ any 4 ++ any 2 ++ any 3 ++ (if ring then s.headOf l 1 fun f => frSched f == 0 else any 1) ++ bulk

/-- Ticks in which a frame begun now must end, if anything bounds them (R176). -/
def State.room (s : State) (l : Nat) : Option Nat :=
  if 2 ≤ l then none
  else match s.window l with
    | some w => some (w.start + w.len - s.now)
    | none => s.toWindow l

/-- Whether a lane may carry a frame: a blocked ring lane carries only CALL, NOTE and BEACON frames (R194). -/
def State.laneCarries (s : State) (l : Nat) (f : Frame) : Bool :=
  !(decide (l < 2) && s.blocked l) || (frKind f == 3 && (cenOp f == 1 || cenOp f == 3 || cenOp f == 4))

/-- The frame a lane sends next. -/
def State.pickTx (s : State) (l : Nat) : Option (Nat × Nat × QFrame) :=
  (s.candidates l).find? fun c =>
    s.laneCarries l c.2.2.f &&
      match s.room l with
      | some t => !tooLong c.2.2.f (s.get (LANE_STAT_RATE l)) t
      | none => true

/-- The frame as it leaves a lane, before time stamps (R170, R172, R180): HOPS on a ring lane, TSTAMP of a scheduled frame
launched here, and on a link of version 1 HVER 1, DUP 0 and DIR 0. -/
def State.txHeader (s : State) (l : Nat) (x : QFrame) : Frame :=
  let f1 := if l < 2 then frPutHops x.f (frHops x.f + 1) else x.f
  let f2 := match s.window l with
    | some w => if frSched f1 = 1 ∧ (x.own ∨ x.inPort = 2) ∧ l < 2 then frPutStamp f1 w.start else f1
    | none => f1
  if s.linkV1 l then frPutDir (frPutDup (frPutHver f2 1) 0) 0 else frPutHver f2 2

/-- Counts a frame sent by a lane. -/
def State.txCount (s : State) (l qi : Nat) (f : Frame) : State :=
  let s1 := (s.bump (FWD_CNT l 2)).count (FWD_CNT l 3) (frBytes f)
  if 5 ≤ qi then
    { s1 with fwd := { s1.fwd with bulk := Tab.set (fun _ => 0) s1.fwd.bulk l (s1.bulkUsed l + 400 * frBytes f) } }
  else s1

/-- Leaves what a lane sent: the frame, and the blocks it was sent in (R142). DEDUCED, log entry 34. -/
def State.txSent (s : State) (l : Nat) (f : Frame) : State :=
  ({ s with fwd := { s.fwd with sent := Tab.set (fun _ => none) s.fwd.sent l (some (f, frTrailer f)) } } : State).sendBlocks l
    (frameBlocks f false)

/-- The words of a frame before the first that cannot be read, in the cells the frame stands in. -/
def State.goodWords (s : State) (x : QFrame) : Nat :=
  ((List.range ((frBytes x.f + 7) / 8)).takeWhile fun i =>
    match s.mark (16 * x.cells.getD (i / 16) 0 + i % 16) with
    | some m => !m.uncorr
    | none => true).length

/-- A frame whose SOF has left ends with an abort EOF after the words read before the error (R142, R209). -/
def State.txAbortEof (s : State) (l : Nat) (x : QFrame) (f : Frame) : State :=
  let n := s.goodWords x
  let b := frameBlocks f true
  s.sendBlocks l (b.take (1 + n) ++ b.drop (b.length - 2))

/-- A cell of a frame cannot be read for egress: counted at the port (R209). -/
def State.eccDrop (s : State) (p : Nat) : State := (s.bump (FWD_CNT p 7)).put FWD_EVT_ECC 1

/-- A frame begins on a free lane. `sof` says whether an unreadable cell shows after the SOF has left (R209). -/
def State.frameTx (s : State) (l frac : Nat) (sof : Bool) (u : Option Upset) : State :=
  if !s.laneUp l ∨ s.inReset (laneBlk l) ∨ s.on (LANE_STAT_HOSTMODE l) ∨ !s.open_ 0x0D ∨ s.txQuiet l ∨
      s.tst.force = some l then s
  else match s.pickTx l with
    | none => s
    | some (qi, i, x) =>
      let s1 := s.setQueue l qi ((s.queue l qi).eraseIdx i)
      let f := s.txHeader l x
      (if l < 2 ∧ frHops x.f = 511 then s1.bump (RPE_CNT 5)
        else
          let r := (s1.upset u.toList).readCells x
          if !r.2 then
            let s2 := r.1.eccDrop l
            if sof then (s2.txCount l qi f).txAbortEof l x f else s2
          else
            let d := r.1.ptpDepart l { x with f := f } frac
            match d.2 with
            | none => d.1
            | some g => (d.1.txCount l qi g).txSent l g).locPump

/-- FRAME_TX (R175): `frac` is where in the ECLK cycle the SOF leaves, in units of 1/1,024 ns.
DEDUCED, log entry 34. -/
def execFrameTx (lane : Fin 4) (frac : BitVec 12) (sof : Bool) (upset : Option Upset) (s : State) : Out :=
  .next (s.frameTx lane.val frac.toNat sof upset)

/-- The ring time after which a scheduled frame is stale (R199). -/
def State.staleAt (s : State) (f : Frame) : Nat := frStamp f + max 1 (s.get RPE_SCHED_CTL_MAXAGE) * 31250

/-- The report of a stale frame (R199, R284). -/
def State.staleDrop (s : State) (f : Frame) : State :=
  ((((s.bump (RPE_CNT 2)).put RPE_EVT_STALE 1).fault 0x0C 0x38 (frSlot f)).miss 2 0x0C (frSlot f) (s.staleAt f)).locPump

/-- SCHED_STALE (R199): the first frame that waits too long at a port. DEDUCED, log entry 34. -/
def execSchedStale (port : Fin 5) (s : State) : Out :=
  if s.inReset 0x0D then .next s else
  let old (f : Frame) : Bool := frSched f == 1 && decide (s.staleAt f < s.now)
  .next (match s.headOf port.val 1 old with
    | (qi, i, x) :: _ => (s.setQueue port.val qi ((s.queue port.val qi).eraseIdx i)).staleDrop x.f
    | [] =>
      match s.fwd.held.find? fun h => h.port == port.val && h.qi == 1 && old h.qf.f with
      | some h => ({ s with fwd := { s.fwd with held := s.fwd.held.erase h } } : State).staleDrop h.qf.f
      | none => s)

/-! ### Delivery at LOC (R179) -/

/-- A RED frame (R243): BREAK or RESTORE of a direction, from its source. -/
def State.redRx (s : State) (f : Frame) : State :=
  let w := frWord f 0
  let src := 4 * frSrc f + frSrcChip f
  if s.inReset 0x0E then s
  else match bits w 0 8 with
    | 1 => s.breakRx (bits w 8 1) src (frHops f)
    | 2 => s.restoreRx (bits w 8 1) src
    | _ => s

/-- What a frame does that leaves LOC. DEDUCED, log entry 34. -/
def State.locTake (s : State) (x : QFrame) : State :=
  let f := x.f
  match frKind f with
  | 0 => s.sqDeliver f
  | 1 => if frVc f = 1 then s.respRx f else s.serveFrame f
  | 2 => s.cfgRx f
  | 3 => s.cenRx x.inPort f
  | 5 => s.sqDeliver f
  | 7 => s.redRx f
  | _ => s

/-- LOC_DELIVER (R179): the frame at the head of a queue of LOC, unless a cell of it cannot be read (R209); a request that cannot be
served yet waits. -/
def execLocDeliver (qi : Fin 9) (upset : Option Upset) (s : State) : Out :=
  .next (if !s.open_ 0x0D then s
    else match s.queue 4 qi.val with
      | x :: r =>
        if isFabReq x.f && !s.canServe x.f then s
        else
          let a := ((s.setQueue 4 qi.val r).upset upset.toList).readCells x
          if !a.2 then (a.1.eccDrop 4).locPump
          else (((a.1.bump (FWD_CNT 4 2)).count (FWD_CNT 4 3) (frBytes x.f)).locTake x).locPump
      | [] => s)

end Sys2Proof.Machine
end

