-- ==== Sys2Proof/Machine/BlockRx.lean ====
section
/-! DEFINITION. What a lane does with the blocks it receives: the descrambler, the control blocks, frames, training messages, remote
faults and patterns (R140 to R142, R150, R152, R160). -/
namespace Sys2Proof.Machine

/-- The frame in progress is discarded and counted (R142). -/
def State.rxDrop (s : State) (l : Nat) : State :=
  if (s.ln l).rxf.isSome then (s.modLn l fun x => { x with rxf := none }).bump (LANE_BLK_ERRS l) else s

/-- A data block: a word of the frame in progress; one outside a frame, or beyond 260, is discarded and counted (R142). -/
def State.dataRx (s : State) (l w : Nat) : State :=
  match (s.ln l).rxf with
  | none => s.bump (LANE_BLK_ERRS l)
  | some (c, ws) =>
    if ws.length = 260 then s.rxDrop l else s.modLn l fun x => { x with rxf := some (c, ws ++ [BitVec.ofNat 64 w]) }

/-- The end of a frame: three header words, the payload and the trailer; one too short to hold them cannot have a good CRC
(R142, R205). DEDUCED, log entry 32. -/
def State.eofRx (s : State) (l : Nat) (abort : Bool) : State :=
  match (s.ln l).rxf with
  | none => s
  | some (c, ws) =>
    if abort then s.rxDrop l
    else
      let s1 := s.modLn l fun x => { x with rxf := none }
      match ws with
      | h0 :: h1 :: h2 :: x :: r =>
        s1.frameRx l c ⟨h0, h1, h2, (x :: r).dropLast⟩ ((x :: r).getLastD 0#64).toNat 0
      | _ => if s1.takesFrames l then s1.crcDrop l (8 * ws.length) else s1

/-- A training message whose four parts have come in order; one with a bad CRC is ignored (R152). -/
def State.msgRx (s : State) (l : Nat) (m : List Byte) : State :=
  let a := ofLeBytes (m.take 8)
  let b := ofLeBytes ((m.drop 8).take 8)
  if ofLeBytes ((m.drop 16).take 4) ≠ crc32c [a, b] % 2 ^ 32 then s
  else match bits a 0 8 with
    | 1 => s.helloRx l (bits a 8 8) (bits a 16 8) (bits a 24 8) (bits a 32 8) (bits a 40 8) (bits a 56 8) (bits b 0 16) (bits b 16 48)
    | 2 => s.rateReqRx l (bits a 48 8)
    | 3 => s.rateAckRx l (bits a 48 8)
    | 4 => s.rateNakRx l
    | _ => s

/-- A part of a training message. -/
def State.trainRx (s : State) (l i six : Nat) : State :=
  let p := (s.ln l).parts
  let q := if i = 0 then [six] else if p.length = i then p ++ [six] else []
  if q.length = 4 then (s.modLn l fun x => { x with parts := [] }).msgRx l (q.flatMap fun v => leBytes 6 v)
  else s.modLn l fun x => { x with parts := q }

/-- A control block other than EOF ends a frame in progress; an unknown type counts and acts as IDLE (R141, R142). A link of version
1 knows no RF and no PAT. DEDUCED, log entry 32. -/
def State.ctrlRx (s : State) (l p : Nat) : State :=
  let t := p % 256
  if t = 0xE1 then s.eofRx l (bits p 8 8 == 0xA5)
  else
    let s1 := s.rxDrop l
    let v2 := !(s.laneUp l && s.get (LANE_STAT_VER l) == 1)
    if t = 0x1E then s1
    else if t = 0x33 then s1.modLn l fun x => { x with rxf := some (bits p 8 3, []) }
    else if t = 0x4B then s1.trainRx l (bits p 8 2) (bits p 16 48)
    else if t = 0x55 ∧ v2 then s1.rfRx l (bits p 8 8)
    else if t = 0x66 ∧ v2 then s1.chkBlock l p
    else s1.bump (LANE_BLK_ERRS l)

/-- Counts the blocks without RF while a remote fault is shown; the 64th ends it (R150). -/
def State.rfCount (s : State) (l : Nat) (isRf : Bool) : State :=
  if isRf || !s.on (LANE_STAT_RF_RX l) then s
  else if 63 ≤ (s.ln l).rfGap then (s.modLn l fun x => { x with rfGap := 0 }).rfEnd l
  else s.modLn l fun x => { x with rfGap := x.rfGap + 1 }

/-- One block: its payload descrambled, and what its header and type say (R140). -/
def State.blockRx (s : State) (l : Nat) (b : Block) : State :=
  if !s.blocksRx l then s
  else
    let d := descramble (s.ln l).descr b.body.toNat
    let s1 := s.modLn l fun x => { x with descr := d.2 }
    let s2 := s1.rfCount l (b.hdr == 2#2 && d.1 % 256 == 0x55)
    if b.hdr = 1#2 then s2.dataRx l d.1
    else if b.hdr = 2#2 then s2.ctrlRx l d.1
    else s2.badHeader l

/-- FRAME_DISCARD (R142): blocks arrive on a lane, in the order of the list. What R142 discards among them is discarded and counted;
everything else is taken. A lane that is looped receives the blocks that it has sent itself, whatever stands on its balls (R505). -/
def execFrameDiscard (lane : Fin 4) (blocks : List Block) (s : State) : Out :=
  .next (s.each (if s.looped lane.val then (s.ln lane.val).txb else blocks) fun s b => s.blockRx lane.val b)

end Sys2Proof.Machine
end

