-- ==== Sys2Proof/Machine/Balls.lean ====
section
/-! DEFINITION. What the hub presents on its balls (R22, R99 to R102, R289, R508, R510, R522). -/
namespace Sys2Proof.Machine

/-- A ball, or a group of balls that present the same. -/
inductive Ball where
  | pio (n : Fin 64)
  | mbTxd (n : Fin 4)
  | mbRxd (n : Fin 4)
  | anchorOut
  | anchorIn
  | twinBeat
  | faultN
  | hostIntN
  | hostSel
  | hostData
  | flashSel
  | flashClk
  | flashData
  | flashDqs
  | ppsOut
  | ppsIn
  | stackSync
  | laneTx (l : Fin 4)
  | laneRx (l : Fin 4)
  | jtagIn
  | tdo
  | resetWake
  | strap
  | pgood
  | pen (n : Fin 4)
  | gate (p : Fin 2)
  | det (p : Fin 2)
  | sci (n : Fin 8)
  | lineIn (n : Fin 8)
deriving DecidableEq, Repr

/-- What stands on a ball: a driven level, an open drain that pulls low or is released, an input or an undriven ball with its
internal pull, electrical idle, or the signal of the interface that works on it. -/
inductive Drive where
  | low
  | high
  | openLow
  | released
  | hiZ
  | pullUp
  | pullDown
  | idle
  | signal
deriving DecidableEq, Repr

/-- A driven level. -/
def driveLevel (b : Bool) : Drive := if b then .high else .low

/-- An open-drain ball. -/
def driveOpen (b : Bool) : Drive := if b then .openLow else .released

/-- What stands on a ball of an I/O bank: nothing is driven while its supply is outside its range (R19). -/
def State.ioBank (s : State) (d : Drive) : Drive := if s.ioOn then d else .hiZ

/-- The pull of a PIO ball that nothing drives: the claiming slot's, otherwise the pull-down of R99 (R289). -/
def State.pioPull (s : State) (pin : Nat) : Drive :=
  if !s.sys.recordOn || s.gg.padsR99 then .pullDown
  else match s.claimOf pin with
    | some (n, k) =>
      match s.get (GG_SLOT_PULL n k) with
      | 1 => .pullUp
      | 2 => .hiZ
      | _ => .pullDown
    | none => .pullDown

/-- A PIO ball (R99 to R102, R289, R504). -/
def State.pioDrive (s : State) (pin : Nat) : Drive :=
  match s.pioBall pin with
  | some b => driveLevel b
  | none => s.pioPull pin

/-- TXD of a message bus port: the port's signal in ACTIVE, driven recessive in its other states, and undriven before the record's
apply and in reset (R99, R100, R391). -/
def State.mbDrive (s : State) (p : Nat) : Drive :=
  if !s.sys.recordOn || s.inReset 0x13 then .pullUp
  else if s.get (MB_STAT_STATE p) = 2 then .signal
  else .high

/-- Ticks of the STACK_SYNC pulse: 64 ns (R522). -/
def syncTicks : Nat := 16

/-- Whether the master's STACK_SYNC pulse stands: the ticks after a boundary whose actions have been taken (R22).
DEDUCED, log entry 31. -/
def State.syncPulse (s : State) : Bool :=
  match s.time.cycAt with
  | some t => decide (t ≤ s.now ∧ s.now < t + syncTicks)
  | none => false

/-- STACK_SYNC: driven by the master once its record is applied, an input elsewhere (R22, R99, R508). -/
def State.syncDrive (s : State) : Drive :=
  if s.master && s.sys.recordOn && !s.dark && !s.inReset 0x0F then driveLevel s.syncPulse else .pullDown

/-- The transmitter of a lane: electrical idle before the record's apply, in DORMANT, in reset, where the lane is off or has
stopped, unless it tests or sends the wake pattern (R66, R73, R99, R161), and where it is looped (R505). -/
def State.laneDrive (s : State) (l : Nat) : Drive :=
  if s.sys.wakePat.testBit l then .signal
  else if !s.sys.recordOn || s.dark || s.looped l || s.txQuiet l || s.inReset (laneBlk l) then .idle
  else if s.get (LANE_TRAIN_STATE l) != 0 || s.genActive l || s.on (LANE_STAT_HOSTMODE l) then .signal
  else .idle

/-- GATE of a line-power port: held off outside RAMP and ON (R459, R463). -/
def State.gateDrive (s : State) (p : Nat) : Drive :=
  if s.get (LPW_P_STAT_STATE p) = 4 ∨ s.get (LPW_P_STAT_STATE p) = 5 then .signal else .low

/-- DET of a line-power port: driven in a detection, low while the port presents its signature (R460, R462). -/
def State.detDrive (s : State) (p : Nat) : Drive :=
  if s.get (LPW_P_STAT_STATE p) = 3 then .signal else if s.on (LPW_P_STAT_SIG p) then .low else .hiZ

/-- A contact input's ball: its source where the input is enabled, else 1 MOhm to AGND (R363, R508). -/
def State.sciDrive (s : State) (n : Nat) : Drive :=
  if s.on (LSV_SCI_CFG_EN n) && !s.inReset 0x12 then .signal else .pullDown

/-- The flash balls: the loader and UPD drive them from the end of the zeroing (R97, R99). -/
def State.flashBusy (s : State) : Bool := !s.dark && s.on MSA_STAT_INIT_DONE

/-- What stands on a ball while the always-on supply is valid (R99, R100, R508). -/
def State.ballOn (s : State) : Ball → Drive
  | .pio n => s.ioBank (s.pioDrive n.val)
  | .mbTxd n => s.ioBank (s.mbDrive n.val)
  | .mbRxd _ => s.ioBank .hiZ
  | .anchorOut => match s.anchorBall with
    | some b => driveLevel b
    | none => .hiZ
  | .anchorIn => .hiZ
  | .twinBeat => if s.sys.recordOn && !s.dark && !s.inReset 0x0E then .signal else .released
  | .faultN => driveOpen s.faultN
  | .hostIntN => s.ioBank (driveOpen (s.hbrOpen && s.hostInt && !s.inReset 0x14))
  | .hostSel => s.ioBank .pullUp
  | .hostData => s.ioBank (if s.qspiOn && s.port != 0 then .signal else .hiZ)
  | .flashSel => s.ioBank (if s.flashBusy then .signal else .high)
  | .flashClk => s.ioBank (if s.flashBusy then .signal else .low)
  | .flashData => s.ioBank (if s.flashBusy then .signal else .hiZ)
  | .flashDqs => s.ioBank .pullDown
  | .ppsOut => s.ioBank (driveLevel s.ppsOutBall)
  | .ppsIn => s.ioBank .pullDown
  | .stackSync => s.ioBank s.syncDrive
  | .laneTx l => s.laneDrive l.val
  | .laneRx _ => .hiZ
  | .jtagIn => s.ioBank .pullUp
  | .tdo => s.ioBank .hiZ
  | .resetWake => .pullUp
  | .strap => .pullDown
  | .pgood => driveOpen (!s.on LPW_STAT_PGOOD)
  | .pen n => driveLevel (s.getBit LPW_SEQ_STAT_PEN n.val)
  | .gate p => s.gateDrive p.val
  | .det p => s.detDrive p.val
  | .sci n => s.sciDrive n.val
  | .lineIn _ => .pullDown

/-- Whether a ball belongs to the P-die (R508). -/
def Ball.onP : Ball → Bool
  | .pgood => true
  | .pen _ => true
  | .gate _ => true
  | .det _ => true
  | .lineIn _ => true
  | _ => false

/-- What stands on a ball: every D-die ball is high impedance while the always-on supply is not valid (R510). -/
def State.ball (s : State) (b : Ball) : Drive := if s.lpw.aon || b.onP then s.ballOn b else .hiZ

end Sys2Proof.Machine
end

