-- ==== Sys2Proof/Machine/Tick.lean ====
section
/-! DEFINITION. What a cycle boundary does (R196, R277) and what one ECLK cycle does while no command waits (log entry 1). -/
namespace Sys2Proof.Machine

/-- The step that waits is made at the boundary the hub stands at; a window of the line supervision that it falls into does not
count (R277, R381). -/
def State.makeStep (s : State) : State := s.timeStep.lsvStep

/-- A lane's BULK bytes beyond its share count against the next cycle (R177). DEDUCED, log entry 34. -/
def State.bulkCarry (s : State) (l : Nat) : State :=
  { s with fwd := { s.fwd with bulk := Tab.set (fun _ => 0) s.fwd.bulk l (s.bulkUsed l - s.bulkShare l) } }

/-- Limits of origination start anew: DUP 1 frames per class (R236), the twin counters (R255). -/
def State.cycleLimits (s : State) : State :=
  { s with red := { s.red with
      dupCnt := [], twinN := []
      twinSeq := (List.range 8).foldl (fun t c => Tab.set (fun _ => 0) t c (s.now / 31250 % 8192 * 8)) [] } }

/-- Windows may open again after a step (R277), and the boundary's actions count as taken. -/
def State.cycleOpen (s : State) : State := { s with time := { s.time with noWin := false, cycAt := some s.now } }

/-- What the boundary the hub stands at does: RPE_CYCLE and the ring floor (R187, R196), the BULK shares (R177), the limits of
LOC (R236, R255), CYC_CLOSE (R344) and the frames that waited for the next cycle. -/
def State.cycleActs (s : State) : State :=
  let s1 := ((s.wr64 RPE_CYCLE (s.now / 31250)).floorTake).cycleOpen
  ((s1.each (List.range 4) fun s l => s.bulkCarry l).cycleLimits).sqCycle.locPump

/-- A boundary at which a step waits makes it, and nothing keyed to a boundary happens there (R277).
DESIGN CHOICE, log entry 1. -/
def State.cycleHere (s : State) : State := if s.stepPending then s.makeStep else s.cycleActs

/-- The boundary whose actions come next: the one the hub stands at unless they have been taken, else the following one.
DESIGN CHOICE, log entry 1. -/
def State.toNextCycle (s : State) : State :=
  if s.time.cycAt = some s.now then s.toLaterBoundary else s.toBoundary

/-- CYCLE_BOUNDARY (R196). -/
def execCycleBoundary (s : State) : Out := .next (s.live_ fun s => s.toNextCycle.cycleHere)

/-- TIME_STEP (R277): the pending step is made at the next cycle boundary. -/
def execTimeStep (s : State) : Out := .next (if s.stepPending && !s.dark then s.toBoundary.makeStep else s)

/-- In WATCH a core leaves retention to serve an enabled interrupt, and executes WFI again once none asks for it any more (R59).
DESIGN CHOICE, log entry 43. -/
def State.wakeCores (s : State) : State :=
  if s.get MPC_MODE_CUR = 1 ∧ s.sys.cores then
    let w (s : State) (c : Nat) (f : Fld) : State := s.put f (b2n (s.intcReq c && !s.inReset (0x40 + c)))
    w (w s 0 MPC_MODE_AWAKE_M0) 1 MPC_MODE_AWAKE_M1
  else s

/-- The spindle counts, and the cycle is over for the engines (R263, R322). -/
def State.eclk (s : State) : State :=
  let s1 := (s.elapse 1).wr64 TIME_SPINDLE (s.now + 1)
  ({ s1 with time := { s1.time with stepAt := none } } : State).ggTick

/-- The hub stands at a boundary that a command reached and whose actions have yet to be taken. A spindle that has not counted
yet has none behind it. DESIGN CHOICE, log entry 1. -/
def State.owesCycle (s : State) : Bool :=
  s.now != 0 && s.now % 31250 == 0 && s.time.cycAt != some s.now && s.time.stepAt != some s.now

/-- What the blocks do whenever they can: requests that waited for a bank, copies and fences, and the levels that are watched. -/
def State.watchAll (s : State) : State :=
  let s1 := s.herePump.dmaPoll.sqPumpAll.objPumpAll
  s1.forceCheck.holdoffSample.intcSample.wakeCores.hostIntSample

/-- One ECLK cycle: the spindle, the engines, a cycle boundary that is reached, and what the blocks watch all the time; a held ISLAND
entry that has waited long enough acts (R63). While the D-die does not run only the slow clock counts.
DESIGN CHOICE, log entry 1. -/
def State.tick (s : State) : State :=
  if s.dark then s.elapse 1
  else
    let s0 := if s.owesCycle then s.cycleHere else s
    let s1 := s0.applyCycleEnd.eclk
    let s2 := if s1.now % 31250 = 0 then s1.cycleHere else s1
    let s3 := if s2.islandDue then s2.islandNow else s2
    s3.watchAll

end Sys2Proof.Machine
end

