-- ==== Sys2Proof/Machine/Dispatch.lean ====
section
/-! DEFINITION. One arm per command: each calls the meaning of its row. -/
namespace Sys2Proof.Machine

def exec (i : Instr) (s : State) : Host.Outcome State Fault Refusal :=
  match i with
  | .registerWrite who bcast size off data upset => Sys2Proof.Machine.execRegisterWrite who bcast size off data upset s
  | .mainStoreAccess req addr form upset => Sys2Proof.Machine.execMainStoreAccess req addr form upset s
  | .atomicOperation core addr op data upset => Sys2Proof.Machine.execAtomicOperation core addr op data upset s
  | .eccWriteback word => Sys2Proof.Machine.execEccWriteback word s
  | .agePromotion bank req => Sys2Proof.Machine.execAgePromotion bank req s
  | .arbHoldCutoff bank => Sys2Proof.Machine.execArbHoldCutoff bank s
  | .scrubRead upset => Sys2Proof.Machine.execScrubRead upset s
  | .scrubLate => Sys2Proof.Machine.execScrubLate s
  | .storeZeroingDone => Sys2Proof.Machine.execStoreZeroingDone s
  | .partitionZeroingDone => Sys2Proof.Machine.execPartitionZeroingDone s
  | .dmaStart ch => Sys2Proof.Machine.execDmaStart ch s
  | .dmaAbort ch => Sys2Proof.Machine.execDmaAbort ch s
  | .dmaBurst ch => Sys2Proof.Machine.execDmaBurst ch s
  | .dmaDone ch => Sys2Proof.Machine.execDmaDone ch s
  | .counterSnap group clear checked errored => Sys2Proof.Machine.execCounterSnap group clear checked errored s
  | .keepAliveTx => Sys2Proof.Machine.execKeepAliveTx s
  | .d2dLoss => Sys2Proof.Machine.execD2dLoss s
  | .d2dRestored => Sys2Proof.Machine.execD2dRestored s
  | .refclkAbsent => Sys2Proof.Machine.execRefclkAbsent s
  | .refclkAbsentReport => Sys2Proof.Machine.execRefclkAbsentReport s
  | .rc100Stop => Sys2Proof.Machine.execRc100Stop s
  | .modeRequest word who => Sys2Proof.Machine.execModeRequest word who s
  | .modeRequestTimed => Sys2Proof.Machine.execModeRequestTimed s
  | .modeTransition => Sys2Proof.Machine.execModeTransition s
  | .stackModeRx mode => Sys2Proof.Machine.execStackModeRx mode s
  | .watchWake src => Sys2Proof.Machine.execWatchWake src s
  | .dormantEntry => Sys2Proof.Machine.execDormantEntry s
  | .laneWakeArm lane energy => Sys2Proof.Machine.execLaneWakeArm lane energy s
  | .dormantWake srcs lane => Sys2Proof.Machine.execDormantWake srcs lane s
  | .wakePatternEnd lane => Sys2Proof.Machine.execWakePatternEnd lane s
  | .wakeTimerExpiry => Sys2Proof.Machine.execWakeTimerExpiry s
  | .retrainWindowEnd => Sys2Proof.Machine.execRetrainWindowEnd s
  | .islandEntry quiet => Sys2Proof.Machine.execIslandEntry quiet s
  | .islandExit => Sys2Proof.Machine.execIslandExit s
  | .proofAbort => Sys2Proof.Machine.execProofAbort s
  | .ftestKey value => Sys2Proof.Machine.execFtestKey value s
  | .powerOnReset stacked => Sys2Proof.Machine.execPowerOnReset stacked s
  | .resetN => Sys2Proof.Machine.execResetN s
  | .strapSample testmode compat stackId twinPref head => Sys2Proof.Machine.execStrapSample testmode compat stackId twinPref head s
  | .railsOk => Sys2Proof.Machine.execRailsOk s
  | .wdogStart n ctl => Sys2Proof.Machine.execWdogStart n ctl s
  | .wdogKick n value => Sys2Proof.Machine.execWdogKick n value s
  | .wdogExpiry n => Sys2Proof.Machine.execWdogExpiry n s
  | .softwareReset unit key => Sys2Proof.Machine.execSoftwareReset unit key s
  | .remoteAuth word node bcast => Sys2Proof.Machine.execRemoteAuth word node bcast s
  | .remoteCmd unit node bcast => Sys2Proof.Machine.execRemoteCmd unit node bcast s
  | .unitIdleAck unit => Sys2Proof.Machine.execUnitIdleAck unit s
  | .idleTimeout unit => Sys2Proof.Machine.execIdleTimeout unit s
  | .resetAssertEnd unit => Sys2Proof.Machine.execResetAssertEnd unit s
  | .unitRelease unit => Sys2Proof.Machine.execUnitRelease unit s
  | .clockNotReady unit => Sys2Proof.Machine.execClockNotReady unit s
  | .logClear => Sys2Proof.Machine.execLogClear s
  | .loaderRun => Sys2Proof.Machine.execLoaderRun s
  | .flashTimeout first second => Sys2Proof.Machine.execFlashTimeout first second s
  | .cfgOpen => Sys2Proof.Machine.execCfgOpen s
  | .cfgCheck => Sys2Proof.Machine.execCfgCheck s
  | .cfgApplyNow => Sys2Proof.Machine.execCfgApplyNow s
  | .cfgApplyAt => Sys2Proof.Machine.execCfgApplyAt s
  | .cfgAbort => Sys2Proof.Machine.execCfgAbort s
  | .cfgDiscard => Sys2Proof.Machine.execCfgDiscard s
  | .shadowWrite who off value => Sys2Proof.Machine.execShadowWrite who off value s
  | .consistencyCheckDone => Sys2Proof.Machine.execConsistencyCheckDone s
  | .apply => Sys2Proof.Machine.execApply s
  | .applySyncDone => Sys2Proof.Machine.execApplySyncDone s
  | .armTimeout => Sys2Proof.Machine.execArmTimeout s
  | .prepare cid guard node chip => Sys2Proof.Machine.execPrepare cid guard node chip s
  | .go cid time node chip => Sys2Proof.Machine.execGo cid time node chip s
  | .cfgAbortMsg cid => Sys2Proof.Machine.execCfgAbortMsg cid s
  | .guardExpiry => Sys2Proof.Machine.execGuardExpiry s
  | .signalDetect lane present => Sys2Proof.Machine.execSignalDetect lane present s
  | .cdrLock lane ctle dfe => Sys2Proof.Machine.execCdrLock lane ctle dfe s
  | .alignSlip lane => Sys2Proof.Machine.execAlignSlip lane s
  | .alignWindow lane hdrs => Sys2Proof.Machine.execAlignWindow lane hdrs s
  | .alignDone lane => Sys2Proof.Machine.execAlignDone lane s
  | .alignTimeout lane => Sys2Proof.Machine.execAlignTimeout lane s
  | .helloTx lane => Sys2Proof.Machine.execHelloTx lane s
  | .hello lane ver cap rates role mode node seq uid => Sys2Proof.Machine.execHello lane ver cap rates role mode node seq uid s
  | .rateReqTx lane => Sys2Proof.Machine.execRateReqTx lane s
  | .rateReq lane target => Sys2Proof.Machine.execRateReq lane target s
  | .rateAck lane target => Sys2Proof.Machine.execRateAck lane target s
  | .rateNak lane => Sys2Proof.Machine.execRateNak lane s
  | .pllRelock lane => Sys2Proof.Machine.execPllRelock lane s
  | .qualifyDone lane => Sys2Proof.Machine.execQualifyDone lane s
  | .trainTimeout lane => Sys2Proof.Machine.execTrainTimeout lane s
  | .stepCondition lane => Sys2Proof.Machine.execStepCondition lane s
  | .rateFailHoldoff lane => Sys2Proof.Machine.execRateFailHoldoff lane s
  | .laneDown lane cause => Sys2Proof.Machine.execLaneDown lane cause s
  | .rfRx lane cause => Sys2Proof.Machine.execRfRx lane cause s
  | .rfClear lane => Sys2Proof.Machine.execRfClear lane s
  | .v1ProbeSwitch lane => Sys2Proof.Machine.execV1ProbeSwitch lane s
  | .hostLinkState cdr blk fault => Sys2Proof.Machine.execHostLinkState cdr blk fault s
  | .eyeStart lane ctl => Sys2Proof.Machine.execEyeStart lane ctl s
  | .eyeDone lane errs => Sys2Proof.Machine.execEyeDone lane errs s
  | .patCtlWrite lane ctl checked errored => Sys2Proof.Machine.execPatCtlWrite lane ctl checked errored s
  | .chkLock lane => Sys2Proof.Machine.execChkLock lane s
  | .patLockLost lane checked errored => Sys2Proof.Machine.execPatLockLost lane checked errored s
  | .frameRx lane sofClass frame trailer age => Sys2Proof.Machine.execFrameRx lane sofClass frame trailer age s
  | .frameOriginate frame prod => Sys2Proof.Machine.execFrameOriginate frame prod s
  | .frameTx lane frac sof upset => Sys2Proof.Machine.execFrameTx lane frac sof upset s
  | .schedWindow lane slot => Sys2Proof.Machine.execSchedWindow lane slot s
  | .schedStale port => Sys2Proof.Machine.execSchedStale port s
  | .cycleBoundary => Sys2Proof.Machine.execCycleBoundary s
  | .locDeliver qi upset => Sys2Proof.Machine.execLocDeliver qi upset s
  | .censusCall => Sys2Proof.Machine.execCensusCall s
  | .assign count => Sys2Proof.Machine.execAssign count s
  | .callRx lane frame => Sys2Proof.Machine.execCallRx lane frame s
  | .assignRx frame => Sys2Proof.Machine.execAssignRx frame s
  | .floorChange => Sys2Proof.Machine.execFloorChange s
  | .censusTimeout => Sys2Proof.Machine.execCensusTimeout s
  | .beaconTx => Sys2Proof.Machine.execBeaconTx s
  | .beaconRx lane frame => Sys2Proof.Machine.execBeaconRx lane frame s
  | .beaconLost => Sys2Proof.Machine.execBeaconLost s
  | .noteRx => Sys2Proof.Machine.execNoteRx s
  | .rspTimeout tag => Sys2Proof.Machine.execRspTimeout tag s
  | .fabRead frame => Sys2Proof.Machine.execFabRead frame s
  | .fabWrite frame => Sys2Proof.Machine.execFabWrite frame s
  | .fabSwap frame => Sys2Proof.Machine.execFabSwap frame s
  | .fabAdd frame => Sys2Proof.Machine.execFabAdd frame s
  | .fabCas frame => Sys2Proof.Machine.execFabCas frame s
  | .fabFence frame => Sys2Proof.Machine.execFabFence frame s
  | .fabricResponseRx frame => Sys2Proof.Machine.execFabricResponseRx frame s
  | .markRx word => Sys2Proof.Machine.execMarkRx word s
  | .drainTimeout q frm => Sys2Proof.Machine.execDrainTimeout q frm s
  | .fwdFenceStart => Sys2Proof.Machine.execFwdFenceStart s
  | .fwdFenceDone => Sys2Proof.Machine.execFwdFenceDone s
  | .fwdFenceTimeout => Sys2Proof.Machine.execFwdFenceTimeout s
  | .ringLoss dir => Sys2Proof.Machine.execRingLoss dir s
  | .wrapDone dir => Sys2Proof.Machine.execWrapDone dir s
  | .breakRepeat dir => Sys2Proof.Machine.execBreakRepeat dir s
  | .breakRx lost node chip hops => Sys2Proof.Machine.execBreakRx lost node chip hops s
  | .restoreRx lost node chip => Sys2Proof.Machine.execRestoreRx lost node chip s
  | .breakRecordExpiry lost => Sys2Proof.Machine.execBreakRecordExpiry lost s
  | .gapWindowClose w => Sys2Proof.Machine.execGapWindowClose w s
  | .returnHoldExpiry dir => Sys2Proof.Machine.execReturnHoldExpiry dir s
  | .unwrapHoldEnd dir => Sys2Proof.Machine.execUnwrapHoldEnd dir s
  | .anchorInChange level => Sys2Proof.Machine.execAnchorInChange level s
  | .claimConfirm => Sys2Proof.Machine.execClaimConfirm s
  | .yieldSettle => Sys2Proof.Machine.execYieldSettle s
  | .yieldedTimeout => Sys2Proof.Machine.execYieldedTimeout s
  | .secondClaimDelay => Sys2Proof.Machine.execSecondClaimDelay s
  | .twinTake => Sys2Proof.Machine.execTwinTake s
  | .twinYield => Sys2Proof.Machine.execTwinYield s
  | .twinRevert => Sys2Proof.Machine.execTwinRevert s
  | .twinUnlock => Sys2Proof.Machine.execTwinUnlock s
  | .beatTx => Sys2Proof.Machine.execBeatTx s
  | .beatRx request => Sys2Proof.Machine.execBeatRx request s
  | .beatLost => Sys2Proof.Machine.execBeatLost s
  | .twinStuck => Sys2Proof.Machine.execTwinStuck s
  | .revertHoldoffExpiry => Sys2Proof.Machine.execRevertHoldoffExpiry s
  | .revertRequestEnd => Sys2Proof.Machine.execRevertRequestEnd s
  | .overlapEnd => Sys2Proof.Machine.execOverlapEnd s
  | .syncTx port => Sys2Proof.Machine.execSyncTx port s
  | .syncRx port frame age => Sys2Proof.Machine.execSyncRx port frame age s
  | .syncLoss port => Sys2Proof.Machine.execSyncLoss port s
  | .pdelayReqTx port => Sys2Proof.Machine.execPdelayReqTx port s
  | .pdelayReqRx port frame age => Sys2Proof.Machine.execPdelayReqRx port frame age s
  | .pdelayRespRx port frame age => Sys2Proof.Machine.execPdelayRespRx port frame age s
  | .pdelayTimeout port => Sys2Proof.Machine.execPdelayTimeout port s
  | .ptpMessageRx port frame age => Sys2Proof.Machine.execPtpMessageRx port frame age s
  | .timeSet value => Sys2Proof.Machine.execTimeSet value s
  | .timeAdj ticks => Sys2Proof.Machine.execTimeAdj ticks s
  | .timeStep => Sys2Proof.Machine.execTimeStep s
  | .spindleRead who part => Sys2Proof.Machine.execSpindleRead who part s
  | .refSwitch => Sys2Proof.Machine.execRefSwitch s
  | .refRevert => Sys2Proof.Machine.execRefRevert s
  | .ppsOutRise => Sys2Proof.Machine.execPpsOutRise s
  | .ppsOutFall => Sys2Proof.Machine.execPpsOutFall s
  | .ppsInEdge frac => Sys2Proof.Machine.execPpsInEdge frac s
  | .ppsLost => Sys2Proof.Machine.execPpsLost s
  | .feCalibrate pin good => Sys2Proof.Machine.execFeCalibrate pin good s
  | .mcgEdge n fall => Sys2Proof.Machine.execMcgEdge n fall s
  | .deadlineLog => Sys2Proof.Machine.execDeadlineLog s
  | .dlClear => Sys2Proof.Machine.execDlClear s
  | .nop n => Sys2Proof.Machine.execNop n s
  | .jmp n seen => Sys2Proof.Machine.execJmp n seen s
  | .wait n seen => Sys2Proof.Machine.execWait n seen s
  | .shift n seen => Sys2Proof.Machine.execShift n seen s
  | .pull n => Sys2Proof.Machine.execPull n s
  | .push n => Sys2Proof.Machine.execPush n s
  | .movReg n seen => Sys2Proof.Machine.execMovReg n seen s
  | .setReg n => Sys2Proof.Machine.execSetReg n s
  | .edge n => Sys2Proof.Machine.execEdge n s
  | .ldi n => Sys2Proof.Machine.execLdi n s
  | .alu n seen => Sys2Proof.Machine.execAlu n seen s
  | .testFlag n seen => Sys2Proof.Machine.execTestFlag n seen s
  | .flag n => Sys2Proof.Machine.execFlag n s
  | .clkr n => Sys2Proof.Machine.execClkr n s
  | .halt n => Sys2Proof.Machine.execHalt n s
  | .jmpx n => Sys2Proof.Machine.execJmpx n s
  | .ggIllegal n => Sys2Proof.Machine.execGgIllegal n s
  | .instructionSkip n => Sys2Proof.Machine.execInstructionSkip n s
  | .ggStart n => Sys2Proof.Machine.execGgStart n s
  | .ggStop n => Sys2Proof.Machine.execGgStop n s
  | .ggResume n => Sys2Proof.Machine.execGgResume n s
  | .ggClkr n => Sys2Proof.Machine.execGgClkr n s
  | .fifoClr n => Sys2Proof.Machine.execFifoClr n s
  | .groupDisarm g => Sys2Proof.Machine.execGroupDisarm g s
  | .groupStart g atTime => Sys2Proof.Machine.execGroupStart g atTime s
  | .groupStop g atTime => Sys2Proof.Machine.execGroupStop g atTime s
  | .groupResume g atTime => Sys2Proof.Machine.execGroupResume g atTime s
  | .groupClkr g atTime => Sys2Proof.Machine.execGroupClkr g atTime s
  | .groupTimedFire g => Sys2Proof.Machine.execGroupTimedFire g s
  | .ggTxfWrite n word => Sys2Proof.Machine.execGgTxfWrite n word s
  | .ggRxfRead n who => Sys2Proof.Machine.execGgRxfRead n who s
  | .ggInj n word => Sys2Proof.Machine.execGgInj n word s
  | .ggInjForce n word => Sys2Proof.Machine.execGgInjForce n word s
  | .ggImemWrite n w word => Sys2Proof.Machine.execGgImemWrite n w word s
  | .efSet mask => Sys2Proof.Machine.execEfSet mask s
  | .efClr mask => Sys2Proof.Machine.execEfClr mask s
  | .moverTxWord q => Sys2Proof.Machine.execMoverTxWord q s
  | .moverRxWord q => Sys2Proof.Machine.execMoverRxWord q s
  | .flush q => Sys2Proof.Machine.execFlush q s
  | .flushTakeEffect q => Sys2Proof.Machine.execFlushTakeEffect q s
  | .lostClr q => Sys2Proof.Machine.execLostClr q s
  | .adv q => Sys2Proof.Machine.execAdv q s
  | .sqCommit q nw => Sys2Proof.Machine.execSqCommit q nw s
  | .sqHeadRead q who => Sys2Proof.Machine.execSqHeadRead q who s
  | .locConsumerTake q => Sys2Proof.Machine.execLocConsumerTake q s
  | .creditAckRx q => Sys2Proof.Machine.execCreditAckRx q s
  | .credTo q => Sys2Proof.Machine.execCredTo q s
  | .sciSample n code => Sys2Proof.Machine.execSciSample n code s
  | .actionQueueDrain => Sys2Proof.Machine.execActionQueueDrain s
  | .playqRead who => Sys2Proof.Machine.execPlayqRead who s
  | .lsWindowEnd n vre vim ire iim => Sys2Proof.Machine.execLsWindowEnd n vre vim ire iim s
  | .capture n => Sys2Proof.Machine.execCapture n s
  | .sweep n => Sys2Proof.Machine.execSweep n s
  | .canIntegrated port => Sys2Proof.Machine.execCanIntegrated port s
  | .canFrameRx port id ide fdf brs esi rtr dlc data sof => Sys2Proof.Machine.execCanFrameRx port id ide fdf brs esi rtr dlc data sof s
  | .txReq port index => Sys2Proof.Machine.execTxReq port index s
  | .txAbort port index => Sys2Proof.Machine.execTxAbort port index s
  | .canArbitration port won sof => Sys2Proof.Machine.execCanArbitration port won sof s
  | .canTxEnd port good delay => Sys2Proof.Machine.execCanTxEnd port good delay s
  | .canError port kind field dphase tx exempt => Sys2Proof.Machine.execCanError port kind field dphase tx exempt s
  | .restart port => Sys2Proof.Machine.execRestart port s
  | .canRecovered port => Sys2Proof.Machine.execCanRecovered port s
  | .qspiStatus => Sys2Proof.Machine.execQspiStatus s
  | .qspiIdent => Sys2Proof.Machine.execQspiIdent s
  | .qspiWrite addr n data => Sys2Proof.Machine.execQspiWrite addr n data s
  | .readReq tag addr n => Sys2Proof.Machine.execReadReq tag addr n s
  | .readGet tag => Sys2Proof.Machine.execReadGet tag s
  | .amo tag op size addr data => Sys2Proof.Machine.execAmo tag op size addr data s
  | .qspiFence => Sys2Proof.Machine.execQspiFence s
  | .fenceGet => Sys2Proof.Machine.execFenceGet s
  | .hostFrameRx dst src etherType len vlan good payload => Sys2Proof.Machine.execHostFrameRx dst src etherType len vlan good payload s
  | .hostResponseTx => Sys2Proof.Machine.execHostResponseTx s
  | .fenceStart r => Sys2Proof.Machine.execFenceStart r s
  | .fenceComplete r => Sys2Proof.Machine.execFenceComplete r s
  | .postedWrFail tag status addr => Sys2Proof.Machine.execPostedWrFail tag status addr s
  | .semRead k who => Sys2Proof.Machine.execSemRead k who s
  | .semWrite k who => Sys2Proof.Machine.execSemWrite k who s
  | .semExpired k => Sys2Proof.Machine.execSemExpired k s
  | .intcClaim t w mask => Sys2Proof.Machine.execIntcClaim t w mask s
  | .intcDone t w mask => Sys2Proof.Machine.execIntcDone t w mask s
  | .swi mask => Sys2Proof.Machine.execSwi mask s
  | .coalesceTimeout g => Sys2Proof.Machine.execCoalesceTimeout g s
  | .faultProcess => Sys2Proof.Machine.execFaultProcess s
  | .faultRecordClose mask => Sys2Proof.Machine.execFaultRecordClose mask s
  | .faultRecordRead n word who => Sys2Proof.Machine.execFaultRecordRead n word who s
  | .safeClr => Sys2Proof.Machine.execSafeClr s
  | .faultInject word who => Sys2Proof.Machine.execFaultInject word who s
  | .lineWindowChange which cls low => Sys2Proof.Machine.execLineWindowChange which cls low s
  | .insDlyExpiry p => Sys2Proof.Machine.execInsDlyExpiry p s
  | .detectionDue p => Sys2Proof.Machine.execDetectionDue p s
  | .detectionDone p v1 v2 bias => Sys2Proof.Machine.execDetectionDone p v1 v2 bias s
  | .rampDone p => Sys2Proof.Machine.execRampDone p s
  | .rampTimeout p => Sys2Proof.Machine.execRampTimeout p s
  | .fastTrip p ta => Sys2Proof.Machine.execFastTrip p ta s
  | .faultTimerExpiry p ta => Sys2Proof.Machine.execFaultTimerExpiry p ta s
  | .offTimeEnd p => Sys2Proof.Machine.execOffTimeEnd p s
  | .fetShort p => Sys2Proof.Machine.execFetShort p s
  | .pgBlankEnd p => Sys2Proof.Machine.execPgBlankEnd p s
  | .failsClear p => Sys2Proof.Machine.execFailsClear p s
  | .lpwOff p => Sys2Proof.Machine.execLpwOff p s
  | .lpwOn p => Sys2Proof.Machine.execLpwOn p s
  | .lpwClear p => Sys2Proof.Machine.execLpwClear p s
  | .lpwDetect p => Sys2Proof.Machine.execLpwDetect p s
  | .lpwMeasure vE vW vBus iE iW pE pW inE outE inW outW => Sys2Proof.Machine.execLpwMeasure vE vW vBus iE iW pE pW inE outE inW outW s
  | .lpwApplyTake e w lowE lowW bus => Sys2Proof.Machine.execLpwApplyTake e w lowE lowW bus s
  | .seqStart => Sys2Proof.Machine.execSeqStart s
  | .seqStep inwin => Sys2Proof.Machine.execSeqStep inwin s
  | .railTimeout n => Sys2Proof.Machine.execRailTimeout n s
  | .seqRetry => Sys2Proof.Machine.execSeqRetry s
  | .lpRail n => Sys2Proof.Machine.execLpRail n s
  | .aonSupplyLoss => Sys2Proof.Machine.execAonSupplyLoss s
  | .erase good => Sys2Proof.Machine.execErase good s
  | .program good => Sys2Proof.Machine.execProgram good s
  | .updRead => Sys2Proof.Machine.execUpdRead s
  | .verify slot => Sys2Proof.Machine.execVerify slot s
  | .updArm slot good => Sys2Proof.Machine.execUpdArm slot good s
  | .updDisarm good => Sys2Proof.Machine.execUpdDisarm good s
  | .activate slot good => Sys2Proof.Machine.execActivate slot good s
  | .confirm good => Sys2Proof.Machine.execConfirm good s
  | .updMac => Sys2Proof.Machine.execUpdMac s
  | .otpProg k => Sys2Proof.Machine.execOtpProg k s
  | .otpRevoke k => Sys2Proof.Machine.execOtpRevoke k s
  | .checkIsl => Sys2Proof.Machine.execCheckIsl s
  | .dirInit slot good => Sys2Proof.Machine.execDirInit slot good s
  | .updCommandEnd => Sys2Proof.Machine.execUpdCommandEnd s
  | .otpKeyWrite value => Sys2Proof.Machine.execOtpKeyWrite value s
  | .trialExpiry => Sys2Proof.Machine.execTrialExpiry s
  | .proofStepEnd counts => Sys2Proof.Machine.execProofStepEnd counts s
  | .mbist who => Sys2Proof.Machine.execMbist who s
  | .mbistDone faulty => Sys2Proof.Machine.execMbistDone faulty s
  | .bypass => Sys2Proof.Machine.execBypass s
  | .idcode => Sys2Proof.Machine.execIdcode s
  | .samplePreload cells => Sys2Proof.Machine.execSamplePreload cells s
  | .extest cells => Sys2Proof.Machine.execExtest cells s
  | .highz => Sys2Proof.Machine.execHighz s
  | .clamp => Sys2Proof.Machine.execClamp s
  | .jtagPrivate code => Sys2Proof.Machine.execJtagPrivate code s
  | .registerRead who size off upset => Sys2Proof.Machine.execRegisterRead who size off upset s
  | .bivouacZeroingDone => Sys2Proof.Machine.execBivouacZeroingDone s
  | .refclkArrival => Sys2Proof.Machine.execRefclkArrival s
  | .invalidSyncHeader lane => Sys2Proof.Machine.execInvalidSyncHeader lane s
  | .frameDiscard lane blocks => Sys2Proof.Machine.execFrameDiscard lane blocks s
  | .qspiCutShort => Sys2Proof.Machine.execQspiCutShort s
  | .currentLimit p regulating => Sys2Proof.Machine.execCurrentLimit p regulating s
  | .gateVoltageLow p => Sys2Proof.Machine.execGateVoltageLow p s
  | .recoveryOccurrence port => Sys2Proof.Machine.execRecoveryOccurrence port s
  | .stackNodeRx node => Sys2Proof.Machine.execStackNodeRx node s

end Sys2Proof.Machine
end

