-- ==== Sys2Proof/Safety.lean ====
section
/-! DEFINITION. What a safe run is for this block: every register file, counter file and memory keeps its one canonical form,
so equal machines are equal data, and the queues the spec bounds stay within their bounds. -/
namespace Sys2Proof.Machine

/-- The invariant of every step: the canonical forms of the registers, the live counters, the main store (R33, R42), bivouac
memory (R104) and the flash (R481), at most 32 messages at the fault collector (R441), and at most 16 deadline misses that
wait (R285). -/
structure State.Inv (s : State) : Prop where
  regs  : Tab.wf regReset s.regs = true
  live  : Tab.wf (fun _ => 0) s.live = true
  mem   : Memory.wf s.mem = true
  biv   : Tab.wf bivDefault s.biv.mem = true
  flash : Tab.wf flashDefault s.upd.flash = true
  fltQ  : s.fltQ.length ≤ 32
  dlQ   : s.time.dlQ.length ≤ 16

end Sys2Proof.Machine
end

