-- ==== Sys2Proof/Claims.lean ====
section
/-! DEFINITION. The words the claims use: the parts of the state, what a command leaves alone, a fault message sent, a counter
advanced. -/
namespace Sys2Proof

/-- Whether a form is the words that continue a burst write. -/
def AccForm.resumes : AccForm → Bool
  | .resume _ => true
  | _ => false

end Sys2Proof

namespace Sys2Proof.Machine

/-- The parts of the state. -/
inductive Part where
  | regs | live | mem | store | fwd | lane | rpe | red | gg | sq | time | lsv | mb | fab | hbr | dma | lpw | upd | tst | cfg
  | biv | sys | resp | fltQ | recLatch | grpT0 | seenP | lpwRawHeld | d2dLost | pending
deriving DecidableEq, Repr

/-- One part is the same in two states. -/
def Part.same : Part → State → State → Prop
  | .regs, s, t => t.regs = s.regs
  | .live, s, t => t.live = s.live
  | .mem, s, t => t.mem = s.mem
  | .store, s, t => t.store = s.store
  | .fwd, s, t => t.fwd = s.fwd
  | .lane, s, t => t.lane = s.lane
  | .rpe, s, t => t.rpe = s.rpe
  | .red, s, t => t.red = s.red
  | .gg, s, t => t.gg = s.gg
  | .sq, s, t => t.sq = s.sq
  | .time, s, t => t.time = s.time
  | .lsv, s, t => t.lsv = s.lsv
  | .mb, s, t => t.mb = s.mb
  | .fab, s, t => t.fab = s.fab
  | .hbr, s, t => t.hbr = s.hbr
  | .dma, s, t => t.dma = s.dma
  | .lpw, s, t => t.lpw = s.lpw
  | .upd, s, t => t.upd = s.upd
  | .tst, s, t => t.tst = s.tst
  | .cfg, s, t => t.cfg = s.cfg
  | .biv, s, t => t.biv = s.biv
  | .sys, s, t => t.sys = s.sys
  | .resp, s, t => t.resp = s.resp
  | .fltQ, s, t => t.fltQ = s.fltQ
  | .recLatch, s, t => t.recLatch = s.recLatch
  | .grpT0, s, t => t.grpT0 = s.grpT0
  | .seenP, s, t => t.seenP = s.seenP
  | .lpwRawHeld, s, t => t.lpwRawHeld = s.lpwRawHeld
  | .d2dLost, s, t => t.d2dLost = s.d2dLost
  | .pending, s, t => t.pending = s.pending

/-- From `s` to `t` nothing has changed but the parts named. -/
def State.parts (s : State) (ps : List Part) (t : State) : Prop := ∀ p, p ∉ ps → p.same s t

/-- From `s` to `t` nothing has changed but the registers at the offsets named and the other parts named. -/
def State.only (s : State) (offs : List Nat) (ps : List Part) (t : State) : Prop :=
  (∀ o, o ∉ offs → t.rd o = s.rd o) ∧ s.parts (.regs :: ps) t

/-- One more fault message of a kind waits at the collector, in its place among those of its cycle, and the earlier ones stand
(R438, R441). -/
abbrev State.sent (s t : State) (src kind addr : Nat) : Prop :=
  t.fltQ = fltInsert ⟨src, kind, kindSev kind, addr % 2 ^ 48, false, s.sys.t⟩ s.fltQ

/-- The fault collector is not held in reset and has room for a message (R441, R442). -/
abbrev State.roomy (s : State) : Prop := s.mode ≠ 0 ∧ s.getBit RSTC_INRST_BLK 0x05 = false ∧ s.fltQ.length < 32

/-- A state as an armed apply finds it (R124): at the boundary it stands at or reaches, or at a later one where its instant has
not come. -/
abbrev State.atApply (s : State) : State := if s.cfg.at_ ≤ s.now then s.toBoundary else s.toLaterBoundary

/-- A missed deadline has been put into TIME's record, in its place (R283 to R285). -/
abbrev State.missed (s t : State) (kind src index deadline : Nat) : Prop :=
  t.time.dlQ = missInsert ⟨kind, src, index % 256, s.now - deadline, s.now,
    decide (s.time.skipLo ≤ deadline ∧ deadline < s.time.skipHi)⟩ s.time.dlQ

/-- A live counter has advanced by `n` or stands at its top (R56). -/
abbrev State.advanced (s t : State) (o n : Nat) : Prop := t.cnt o = min (s.cnt o + n) (2 ^ 48 - 1)

/-- No live counter has changed but those at the offsets named and the beats of the banks of the frame buffer (R34, R56). -/
def State.countsBut (s : State) (offs : List Nat) (t : State) : Prop :=
  ∀ o, o ∉ offs → (∀ b, b < 16 → o ≠ MSA_BEATS b) → t.cnt o = s.cnt o

/-- A state as a snapshot of counter group `g` finds it: the checker of a lane, one of the groups 1 to 4, has counted up to it
(R162). -/
def State.atSnap (s : State) (g checked errored : Nat) : State :=
  if 1 ≤ g ∧ g ≤ 4 then s.patCount (g - 1) checked errored else s

/-- A requester that is this hub itself. -/
abbrev State.isSelf (s : State) (who : Who) : Prop := who.node.toNat = s.node ∧ who.chip.val = s.chip

/-- A request to PROOF or to MAINTAIN that R60, R61 and R67 admit by its requester, the cores and the hub's place in its stack. -/
abbrev State.admits (s : State) (who : Who) (target : Nat) : Prop :=
  s.master = true ∧ (target = 3 ∧ s.isSelf who ∧ (s.coreRuns 0 = true ∨ s.coreRuns 1 = true) ∨
    target = 5 ∧ (s.isSelf who ∨ who.node = 0x00#8))

/-- The store offset of a chip-local offset. -/
def storeOff (addr : BitVec 38) : Nat := addr.toNat - storeBase

/-- An access of a form R38 allows whose bank takes it at once (R37, R40, R50) and whose requester is not locked out (R53), while
the D-die runs (R59, R87). -/
abbrev State.serves (s : State) (r o : Nat) (f : AccForm) : Prop :=
  accLegal f o = true ∧ s.accWaits r o = false ∧ s.lockedOut (bankOf o) r = false ∧ s.dark = false

/-- A mover may use `n` bytes from a store offset at once: no bank of them is shut, nothing of its requester waits (R37, R40,
R50), it is not locked out (R53), and no bit of them is flipped (R43). -/
abbrev State.moverFree (s : State) (r off n : Nat) : Prop :=
  s.moverWaits r off n = false ∧
    ∀ k, k < (n + 7) / 8 → s.lockedOut (bankOf (off + 8 * k)) r = false ∧ s.mark (off / 8 + k) = none

/-- A fabric request that this hub serves now, from a later chip of its stack (R179, R211), and whose answer of `n` data words
can leave at once by S0 (R208), while the D-die and the switch run (R59, R88). -/
abbrev State.answerable (s : State) (f : Frame) (n : Nat) : Prop :=
  isFabReq f = true ∧ s.forLoc f = true ∧ frDst f ≠ 0xFF ∧ s.canServe f = true ∧ s.open_ 0x0D = true ∧ s.dark = false ∧
    (s.fwd.locWait.any fun w => w.spec.cls == 5 && w.spec.vc == 1) = false ∧ frSrc f = s.node ∧ s.node ≠ 0xFF ∧
    s.chip < frSrcChip f ∧ s.laneUp 2 = true ∧ s.occ 2 2 + (8 * n + 175) / 128 ≤ s.limit 2 2

/-- The answer to such a request, as a frame (R169, R410, R412). -/
def State.rspFrame (s : State) (f : Frame) (status : Nat) (data : List DWord) : Frame :=
  (fabRsp f status data).build s.node s.chip (s.seqOf 5) s.now

/-- The answer to such a request stands behind the responses at S0 (R204), in cells of the frame buffer (R34). -/
abbrev State.answered (s t : State) (f : Frame) (status : Nat) (data : List DWord) : Prop :=
  t.queue 2 2 = s.queue 2 2 ++ [⟨s.rspFrame f status data, s.get FWD_STAT_GEN, 4, false, true, s.now * 4096,
    (s.writeCells (s.rspFrame f status data)).2⟩]

/-- Engine `n` is RUNNING, with the word `w` of opcode `op` fetched, not injected and legal, and no stop requested (R295, R297). -/
abbrev State.fetches (s : State) (n : Nat) (w : Word) (op : Nat) : Prop :=
  s.get (GG_STAT_STATE n) = 1 ∧ (s.eng n).ran = false ∧ s.inReset 0x10 = false ∧ (s.eng n).fetched = some w ∧
    (s.eng n).inj = false ∧ (s.eng n).stopReq = false ∧ bits w.toNat 28 4 = op ∧ s.illegal n w.toNat = false

/-- An instruction word without gate, marker pattern and loop (R294). -/
abbrev plainWord (w : Word) : Prop := bits w.toNat 22 6 = 0

/-- Engine `n` has executed its instruction and stands RUNNING with PC `pc`; every other engine is untouched. -/
abbrev State.executed (s t : State) (n pc : Nat) : Prop :=
  t.get (GG_STAT_PC n) = pc ∧ t.get (GG_STAT_CAUSE n) = 0 ∧ t.get (GG_STAT_STATE n) = 1 ∧ (t.eng n).fetched = none ∧
    (t.eng n).ran = true ∧ ∀ m, m < 16 → m ≠ n → t.eng m = s.eng m

/-- The next program word (R296). -/
abbrev State.pcNext (s : State) (n : Nat) : Nat := (s.get (GG_STAT_PC n) + 1) % 64

/-- Engine `n` is stalled with cause `c`, and nothing else has changed (R302). -/
abbrev State.stalled (s t : State) (n c : Nat) : Prop :=
  t.get (GG_STAT_CAUSE n) = c ∧ t.get (GG_STAT_PC n) = s.get (GG_STAT_PC n) ∧ s.only [GG_STAT n] [] t

end Sys2Proof.Machine
end

