-- ==== Sys2Proof/Certificates/Slice0/Obligations.lean ====
section
/-! DEFINITION. The statements for the provers: the machine as a whole first, then the spec's chapters in order. A clause says
that a command completes, what it leaves in the state, and, by `State.only` and `State.parts`, that nothing else changes. -/
open Sys2Proof Sys2Proof.Machine

/-- For every command and state, a step with the command in front is exec of it with the queue's rest. -/
def Obligations.StepRunsFront : Prop :=
  ∀ (c : Instr) (rest : List Instr) (s : State),
    step { s with pending := c :: rest } = exec c { s with pending := rest }

/-- The invariant of `State.Inv` (R33, R104, R285, R441, R481), for every step; the queue is the model's own (log entry 1). -/
def Obligations.EveryStepCompletes : Prop :=
  (∀ s : State, s.Inv → ∃ t, step s = .next t ∧ t.Inv ∧ t.pending = s.pending.tail) ∧
  (∀ (c : Instr) (s : State), ∃ t, exec c s = .next t ∧ t.pending = s.pending ∧ (s.Inv → t.Inv))

/-- R83, R84, R191, R229, R236, R238, R261. -/
def Obligations.ResetState : Prop :=
  State.reset.Inv ∧ State.reset.pending = [] ∧ State.reset.fltQ = [] ∧ State.reset.resp = none ∧
  State.reset.get MPC_MODE_CUR = 5 ∧ State.reset.get MPC_MODE_BOOTING = 1 ∧ State.reset.node = 0xFE ∧
  State.reset.dirState 0 = 1 ∧ State.reset.dirState 1 = 1 ∧ State.reset.reach 0 = 255 ∧ State.reset.reach 1 = 255 ∧
  State.reset.get RED_STAT_DUP_LIMIT = 64 ∧ State.reset.get RED_TWIN_STAT_STATE = 5 ∧ State.reset.now = 0 ∧
  (∀ o, o ≠ 0x20080 → State.reset.rd o = regReset o) ∧ (∀ o, State.reset.cnt o = 0) ∧ (∀ a, State.reset.byte a = 0#8) ∧
  (∀ u, u < 64 → State.reset.inReset u = false)

/-- R70, R196, R263, R292, R295, R338, while no request to this hub itself waits at LOC. -/
def Obligations.IdleCycles : Prop :=
  (∀ (s : State), s.pending = [] → s.fab.here = [] → s.dark = false → s.owesCycle = false → s.islandDue = false → s.now + 1 < 2 ^ 64 → (s.now + 1) % 31250 ≠ 0 →
    ∃ t, step s = .next t ∧ t.now = s.now + 1 ∧ t.sys.t = s.sys.t + 1 ∧ t.pending = []) ∧
  (∀ (s : State), s.pending = [] → s.fab.here = [] → s.dark = false → s.owesCycle = false → s.islandDue = false → s.now + 1 < 2 ^ 64 → (s.now + 1) % 31250 = 0 → s.stepPending = false →
    ∃ t, step s = .next t ∧ t.now = s.now + 1 ∧ t.rd64 RPE_CYCLE = (s.now + 1) / 31250 ∧ t.rpe.floor = s.get RPE_RING_FLOOR ∧ t.pending = []) ∧
  (∀ (s : State), s.pending = [] → s.get MPC_MODE_CUR = 0 →
    ∃ t, step s = .next t ∧ t.now = s.now ∧ t.sys.t = s.sys.t + 1 ∧ s.only [] [.sys] t) ∧
  (∀ (n : Fin 16) (s : State), s.pending = [] → s.fab.here = [] → s.dark = false → s.owesCycle = false → s.islandDue = false → (s.now + 1) % 31250 ≠ 0 → s.inReset 0x10 = false →
    s.get (GG_STAT_STATE n.val) = 1 → (s.eng n.val).fetched = none → (s.eng n.val).pend = none → s.get (GG_CLK_INC n.val) ≠ 0 →
    ∃ t, step s = .next t ∧ (t.eng n.val).fetched = some (s.rd (GG_IMEM n.val (s.get (GG_STAT_PC n.val)))) ∧ (t.eng n.val).inj = false ∧
      (t.eng n.val).ran = false ∧ (t.eng n.val).acc = ((s.eng n.val).acc + s.get (GG_CLK_INC n.val)) % 2 ^ 32 ∧
      (t.eng n.val).tick = decide (2 ^ 32 ≤ (s.eng n.val).acc + s.get (GG_CLK_INC n.val)) ∧
      t.get (GG_STAT_PC n.val) = s.get (GG_STAT_PC n.val) ∧ t.get (GG_STAT_STATE n.val) = 1) ∧
  (∀ (n : Fin 16) (w : Word) (s : State), s.pending = [] → s.fab.here = [] → s.dark = false → s.owesCycle = false → s.islandDue = false → (s.now + 1) % 31250 ≠ 0 → s.inReset 0x10 = false →
    s.get (GG_STAT_STATE n.val) = 1 ∨ s.get (GG_STAT_STATE n.val) = 3 → (s.eng n.val).fetched = none → (s.eng n.val).pend = some w →
    ∃ t, step s = .next t ∧ (t.eng n.val).fetched = some w ∧ (t.eng n.val).inj = true ∧ (t.eng n.val).pend = none ∧
      t.get (GG_STAT_INJ_PEND n.val) = 0 ∧ t.get (GG_STAT_PC n.val) = s.get (GG_STAT_PC n.val))

/-- R38, R39, R43, R44, R46, R48, R56: a read that its bank takes at once. -/
def Obligations.StoreReads : Prop :=
  (∀ (r : Fin 8) (addr : BitVec 38) (z : Fin 4) (us : List Upset) (s : State),
    inStore addr.toNat = true → (s.upset us).serves r.val (storeOff addr) (.read z) →
    (s.upset us).mark (storeOff addr / 8) = none →
    ∃ t, exec (.mainStoreAccess r addr (.read z) us) s = .next t ∧
      t.resp = some ⟨r.val, 0, s.load (storeOff addr) (2 ^ z.val)⟩ ∧
      s.advanced t (MSA_BEATS (bankOf (storeOff addr))) 1 ∧ (t.bank (bankOf (storeOff addr))).owner = r.val ∧
      (∀ a, t.byte a = s.byte a) ∧ s.only [MSA_ECC_STAT] [.live, .store, .resp] t) ∧
  (∀ (r : Fin 8) (addr : BitVec 38) (n : Nat) (us : List Upset) (s : State),
    inStore addr.toNat = true → (s.upset us).serves r.val (storeOff addr) (.burstRead n) →
    (∀ i, i < 4 * n → (s.upset us).mark (storeOff addr / 8 + i) = none) →
    ∃ t, exec (.mainStoreAccess r addr (.burstRead n) us) s = .next t ∧
      t.resp = some ⟨r.val, 0, s.load (storeOff addr) (32 * n)⟩ ∧
      s.advanced t (MSA_BEATS (bankOf (storeOff addr))) n ∧ (t.bank (bankOf (storeOff addr))).owner = r.val ∧
      (∀ a, t.byte a = s.byte a) ∧ s.only [MSA_ECC_STAT] [.live, .store, .resp] t) ∧
  (∀ (r : Fin 8) (addr : BitVec 38) (z : Fin 4) (us : List Upset) (m : Mark) (s : State),
    inStore addr.toNat = true → (s.upset us).serves r.val (storeOff addr) (.read z) → s.roomy →
    (s.upset us).mark (storeOff addr / 8) = some m → m.uncorr = false →
    ∃ t, exec (.mainStoreAccess r addr (.read z) us) s = .next t ∧
      t.resp = some ⟨r.val, 0, s.load (storeOff addr) (2 ^ z.val)⟩ ∧
      s.advanced t MSA_ECC_CE 1 ∧ t.get MSA_ECC_STAT_CE = 1 ∧ t.get MSA_ECC_STAT_LOG_VALID = 1 ∧
      t.mark (storeOff addr / 8) = some { m with wb := true } ∧
      s.sent t 0x07 0x06 (s.selfAddr (storeBase + 8 * (storeOff addr / 8))) ∧
      (∀ a, t.byte a = s.byte a) ∧
      s.only [MSA_ECC_STAT, MSA_ECC_LOG0, MSA_ECC_LOG1] [.live, .store, .resp, .fltQ] t) ∧
  (∀ (r : Fin 8) (addr : BitVec 38) (z : Fin 4) (us : List Upset) (m : Mark) (s : State),
    inStore addr.toNat = true → (s.upset us).serves r.val (storeOff addr) (.read z) → s.roomy →
    (s.upset us).mark (storeOff addr / 8) = some m → m.uncorr = true →
    ∃ t, exec (.mainStoreAccess r addr (.read z) us) s = .next t ∧
      t.resp = some ⟨r.val, 0x07, 0⟩ ∧
      s.advanced t MSA_ECC_UE 1 ∧ t.get MSA_ECC_STAT_UE = 1 ∧ t.get MSA_ECC_STAT_LOG_VALID = 1 ∧
      t.get MSA_ECC_LOG0_WORD = storeOff addr / 8 ∧ t.get MSA_ECC_LOG1_UNCORR = 1 ∧ t.get MSA_ECC_LOG1_REQ = r.val ∧
      t.mark (storeOff addr / 8) = some m ∧
      s.sent t 0x07 0x07 (s.selfAddr (storeBase + 8 * (storeOff addr / 8))) ∧
      (∀ a, t.byte a = s.byte a) ∧
      s.only [MSA_ECC_STAT, MSA_ECC_LOG0, MSA_ECC_LOG1] [.live, .store, .resp, .fltQ] t)

/-- R38, R39, R41, R44, R45, R50: a write that its bank takes at once, by a requester that may write there. -/
def Obligations.StoreWrites : Prop :=
  (∀ (r : Fin 8) (addr : BitVec 38) (d : DWord) (us : List Upset) (s : State),
    inStore addr.toNat = true → (s.upset us).serves r.val (storeOff addr) (.write 3 d) →
    s.mayWrite r.val (bankOf (storeOff addr)) = true →
    ∃ t, exec (.mainStoreAccess r addr (.write 3 d) us) s = .next t ∧ t.resp = some ⟨r.val, 0, 0⟩ ∧
      t.load (storeOff addr) 8 = d.toNat ∧ (∀ a, a < storeOff addr ∨ storeOff addr + 8 ≤ a → t.byte a = s.byte a) ∧
      t.mark (storeOff addr / 8) = none ∧ s.advanced t (MSA_BEATS (bankOf (storeOff addr))) 1 ∧
      (∀ c, c < 2 → c + 1 ≠ r.val → t.lrOf c = if s.lrOf c = some (storeOff addr / 64) then none else s.lrOf c) ∧
      s.only [MSA_ECC_STAT] [.live, .mem, .store, .resp] t) ∧
  (∀ (r : Fin 8) (addr : BitVec 38) (z : Fin 4) (d : DWord) (us : List Upset) (s : State),
    z.val < 3 → inStore addr.toNat = true → (s.upset us).serves r.val (storeOff addr) (.write z d) →
    s.mayWrite r.val (bankOf (storeOff addr)) = true → (s.upset us).mark (storeOff addr / 8) = none →
    ∃ t, exec (.mainStoreAccess r addr (.write z d) us) s = .next t ∧ t.resp = some ⟨r.val, 0, 0⟩ ∧
      t.load (storeOff addr) (2 ^ z.val) = d.toNat % 2 ^ (8 * 2 ^ z.val) ∧
      (∀ a, a < storeOff addr ∨ storeOff addr + 2 ^ z.val ≤ a → t.byte a = s.byte a) ∧
      s.advanced t (MSA_BEATS (bankOf (storeOff addr))) 2 ∧
      (∀ c, c < 2 → c + 1 ≠ r.val → t.lrOf c = if s.lrOf c = some (storeOff addr / 64) then none else s.lrOf c) ∧
      s.only [MSA_ECC_STAT] [.live, .mem, .store, .resp] t) ∧
  (∀ (r : Fin 8) (addr : BitVec 38) (z : Fin 4) (d : DWord) (us : List Upset) (m : Mark) (s : State),
    z.val < 3 → inStore addr.toNat = true → (s.upset us).serves r.val (storeOff addr) (.write z d) → s.roomy →
    s.mayWrite r.val (bankOf (storeOff addr)) = true → (s.upset us).mark (storeOff addr / 8) = some m → m.uncorr = true →
    ∃ t, exec (.mainStoreAccess r addr (.write z d) us) s = .next t ∧ t.resp = some ⟨r.val, 0x07, 0⟩ ∧
      (∀ a, t.byte a = s.byte a) ∧ t.mark (storeOff addr / 8) = some m ∧
      s.sent t 0x07 0x07 (s.selfAddr (storeBase + 8 * (storeOff addr / 8)))) ∧
  (∀ (r : Fin 8) (addr : BitVec 38) (n : Nat) (ws : List DWord) (us : List Upset) (s : State),
    inStore addr.toNat = true → (s.upset us).serves r.val (storeOff addr) (.burstWrite n ws) →
    s.mayWrite r.val (bankOf (storeOff addr)) = true → ws.length = 4 * n →
    ∃ t, exec (.mainStoreAccess r addr (.burstWrite n ws) us) s = .next t ∧ t.resp = some ⟨r.val, 0, 0⟩ ∧
      (∀ i, i < 4 * n → t.load (storeOff addr + 8 * i) 8 = (ws.getD i 0#64).toNat) ∧
      (∀ a, a < storeOff addr ∨ storeOff addr + 32 * n ≤ a → t.byte a = s.byte a) ∧
      (t.bank (bankOf (storeOff addr))).burst = none ∧
      s.only [MSA_ECC_STAT] [.live, .mem, .store, .resp] t) ∧
  (∀ (r : Fin 8) (addr : BitVec 38) (n : Nat) (ws : List DWord) (us : List Upset) (s : State),
    inStore addr.toNat = true → (s.upset us).serves r.val (storeOff addr) (.burstWrite n ws) →
    s.mayWrite r.val (bankOf (storeOff addr)) = true → ws.length < 4 * n →
    ∃ t, exec (.mainStoreAccess r addr (.burstWrite n ws) us) s = .next t ∧ t.resp = s.resp ∧
      (∀ a, a < storeOff addr ∨ storeOff addr + 32 * (ws.length / 4) ≤ a → t.byte a = s.byte a) ∧
      (t.bank (bankOf (storeOff addr))).burst =
        some ⟨r.val, storeOff addr, storeOff addr + 32 * (ws.length / 4), n - ws.length / 4⟩) ∧
  (∀ (r : Fin 8) (addr : BitVec 38) (ws : List DWord) (us : List Upset) (u : Burst) (s : State),
    inStore addr.toNat = true → ((s.upset us).bank (bankOf (storeOff addr))).burst = some u → u.req = r.val →
    bankOf u.next = bankOf (storeOff addr) → s.store.wait = [] → s.mayWrite r.val (bankOf (storeOff addr)) = true →
    (s.upset us).bankZeroing (bankOf (storeOff addr)) = false → s.dark = false →
    s.lockedOut (bankOf (storeOff addr)) r.val = false → ws.length = 4 * u.left →
    ∃ t, exec (.mainStoreAccess r addr (.resume ws) us) s = .next t ∧ t.resp = some ⟨r.val, 0, 0⟩ ∧
      (∀ i, i < 4 * u.left → t.load (u.next + 8 * i) 8 = (ws.getD i 0#64).toNat) ∧
      (∀ a, a < u.next ∨ u.next + 32 * u.left ≤ a → t.byte a = s.byte a) ∧
      (t.bank (bankOf (storeOff addr))).burst = none)

/-- R30, R37, R38, R39, R40, R50, R53. -/
def Obligations.StoreRefusals : Prop :=
  (∀ (r : Fin 8) (addr : BitVec 38) (f : AccForm) (us : List Upset) (s : State),
    inStore addr.toNat = true → accLegal f (storeOff addr) = false → s.dark = false → s.roomy →
    ∃ t, exec (.mainStoreAccess r addr f us) s = .next t ∧ t.resp = some ⟨r.val, 0x05, 0⟩ ∧
      s.sent t 0x07 0x01 (s.selfAddr (storeBase + storeOff addr)) ∧
      (∀ a, t.byte a = s.byte a) ∧ s.only [] [.store, .resp, .fltQ] t ∧ t.store = (s.upset us).store) ∧
  (∀ (r : Fin 8) (addr : BitVec 38) (f : AccForm) (us : List Upset) (s : State),
    inStore addr.toNat = false → s.leadsTo addr.toNat = none → inWindow addr.toNat = false ∨ (r ≠ 1 ∧ r ≠ 2) →
    s.dark = false → s.roomy →
    ∃ t, exec (.mainStoreAccess r addr f us) s = .next t ∧ t.resp = some ⟨r.val, 0x04, 0⟩ ∧
      s.sent t 0x07 0x02 (s.selfAddr addr.toNat) ∧ s.only [] [.resp, .fltQ] t) ∧
  (∀ (r : Fin 8) (addr : BitVec 38) (f : AccForm) (us : List Upset) (s : State),
    inStore addr.toNat = true → (s.upset us).serves r.val (storeOff addr) f → accWrites f = true → s.roomy →
    s.mayWrite r.val (bankOf (storeOff addr)) = false → f.resumes = false →
    ∃ t, exec (.mainStoreAccess r addr f us) s = .next t ∧ t.resp = some ⟨r.val, 0x06, 0⟩ ∧
      s.sent t 0x07 0x04 (s.selfAddr (storeBase + storeOff addr)) ∧
      (∀ a, t.byte a = s.byte a) ∧ s.only [] [.store, .resp, .fltQ] t ∧ t.store = (s.upset us).store) ∧
  (∀ (r : Fin 8) (addr : BitVec 38) (f : AccForm) (us : List Upset) (s : State),
    inStore addr.toNat = true → accLegal f (storeOff addr) = true → f.resumes = false →
    (s.upset us).accWaits r.val (storeOff addr) = false → (s.upset us).lockedOut (bankOf (storeOff addr)) r.val = true →
    s.dark = false →
    ∃ t, exec (.mainStoreAccess r addr f us) s = .next t ∧ t.resp = some ⟨r.val, 0x0C, 0⟩ ∧
      (∀ a, t.byte a = s.byte a) ∧ s.only [] [.store, .resp] t ∧ t.store = (s.upset us).store) ∧
  (∀ (r : Fin 8) (addr : BitVec 38) (f : AccForm) (us : List Upset) (s : State),
    inStore addr.toNat = true → accLegal f (storeOff addr) = true → f.resumes = false →
    (s.upset us).accWaits r.val (storeOff addr) = true → s.dark = false →
    ∃ t, exec (.mainStoreAccess r addr f us) s = .next t ∧ t.store.wait = s.store.wait ++ [⟨r.val, storeOff addr, f, .cmd⟩] ∧
      (∀ w, t.mark w = (s.upset us).mark w) ∧ s.only [] [.store] t)

/-- R41: a core's operations on a good word that it may write. -/
def Obligations.StoreAtomics : Prop :=
  (∀ (core : Fin 2) (addr : BitVec 32) (d : Word) (us : List Upset) (s : State),
    inStore addr.toNat = true →
    (s.upset us).serves (core.val + 1) (addr.toNat - storeBase) (.amo .lr 2 (d.zeroExtend 64) 0#64) →
    (s.upset us).mark ((addr.toNat - storeBase) / 8) = none →
    ∃ t, exec (.atomicOperation core addr .lr d us) s = .next t ∧
      t.resp = some ⟨core.val + 1, 0, s.load (addr.toNat - storeBase) 4⟩ ∧
      t.lrOf core.val = some ((addr.toNat - storeBase) / 64) ∧ (∀ a, t.byte a = s.byte a) ∧
      s.only [MSA_ECC_STAT] [.live, .store, .resp] t) ∧
  (∀ (core : Fin 2) (addr : BitVec 32) (d : Word) (us : List Upset) (m : Mark) (s : State),
    inStore addr.toNat = true →
    (s.upset us).serves (core.val + 1) (addr.toNat - storeBase) (.amo .lr 2 (d.zeroExtend 64) 0#64) →
    (s.upset us).mark ((addr.toNat - storeBase) / 8) = some m → m.uncorr = true →
    ∃ t, exec (.atomicOperation core addr .lr d us) s = .next t ∧ t.resp = some ⟨core.val + 1, 0x07, 0⟩ ∧
      t.lrOf core.val = none ∧ (∀ a, t.byte a = s.byte a) ∧ s.advanced t MSA_ECC_UE 1) ∧
  (∀ (core : Fin 2) (addr : BitVec 32) (d : Word) (us : List Upset) (s : State),
    inStore addr.toNat = true →
    (s.upset us).serves (core.val + 1) (addr.toNat - storeBase) (.amo .sc 2 (d.zeroExtend 64) 0#64) →
    s.mayWrite (core.val + 1) (bankOf (addr.toNat - storeBase)) = true →
    (s.upset us).mark ((addr.toNat - storeBase) / 8) = none →
    ∃ t, exec (.atomicOperation core addr .sc d us) s = .next t ∧ t.lrOf core.val = none ∧
      (if s.lrOf core.val = some ((addr.toNat - storeBase) / 64) then
        t.resp = some ⟨core.val + 1, 0, 0⟩ ∧ t.load (addr.toNat - storeBase) 4 = d.toNat
      else t.resp = some ⟨core.val + 1, 0, 1⟩ ∧ t.mem = s.mem) ∧
      (∀ a, a < addr.toNat - storeBase ∨ addr.toNat - storeBase + 4 ≤ a → t.byte a = s.byte a) ∧
      s.only [MSA_ECC_STAT] [.live, .mem, .store, .resp] t) ∧
  (∀ (core : Fin 2) (addr : BitVec 32) (op : AmoOp) (d : Word) (us : List Upset) (s : State),
    op ≠ .lr → op ≠ .sc → op ≠ .cas → inStore addr.toNat = true →
    (s.upset us).serves (core.val + 1) (addr.toNat - storeBase) (.amo op 2 (d.zeroExtend 64) 0#64) →
    s.mayWrite (core.val + 1) (bankOf (addr.toNat - storeBase)) = true →
    (s.upset us).mark ((addr.toNat - storeBase) / 8) = none →
    ∃ t, exec (.atomicOperation core addr op d us) s = .next t ∧
      t.resp = some ⟨core.val + 1, 0, s.load (addr.toNat - storeBase) 4⟩ ∧
      t.load (addr.toNat - storeBase) 4 = amoResult op 32 (s.load (addr.toNat - storeBase) 4) d.toNat 0 ∧
      (∀ a, a < addr.toNat - storeBase ∨ addr.toNat - storeBase + 4 ≤ a → t.byte a = s.byte a) ∧
      s.advanced t (MSA_BEATS (bankOf (addr.toNat - storeBase))) 2 ∧
      (∀ c, c < 2 → c ≠ core.val →
        t.lrOf c = if s.lrOf c = some ((addr.toNat - storeBase) / 64) then none else s.lrOf c) ∧
      s.only [MSA_ECC_STAT] [.live, .mem, .store, .resp] t) ∧
  (∀ (core : Fin 2) (addr : BitVec 32) (op : AmoOp) (d : Word) (us : List Upset) (s : State),
    op ≠ .cas → inStore addr.toNat = false → addr.toNat < 0x1000000 ∨ 0x80000000 ≤ addr.toNat → s.dark = false →
    ∃ t, exec (.atomicOperation core addr op d us) s = .next t ∧ t.resp = some ⟨core.val + 1, 0x05, 0⟩ ∧
      s.only [] [.resp] t)

/-- R37, R42, R43, R47, for a store without waiting accesses where the zeroing ends; R12, R56, R162, for the groups of
`cntGroup`, while their unit is out of reset. -/
def Obligations.StoreUpkeep : Prop :=
  (∀ (word : BitVec 20) (m : Mark) (s : State), s.mark word.toNat = some m → m.wb = true → m.uncorr = false →
    s.bankShut (bankOf (8 * word.toNat)) = false → s.dark = false →
    ∃ t, exec (.eccWriteback word) s = .next t ∧ t.mark word.toNat = none ∧
      (∀ w, w ≠ word.toNat → t.mark w = s.mark w) ∧ s.only [] [.store] t) ∧
  (∀ (us : List Upset) (s : State), (s.upset us).on MSA_SCRUB_EN = true →
    (s.upset us).bankShut (bankOf (256 * s.store.scrub)) = false → s.dark = false →
    (∀ i, i < 32 → (s.upset us).mark (32 * s.store.scrub + i) = none) →
    ∃ t, exec (.scrubRead us) s = .next t ∧ t.store.scrub = (s.store.scrub + 1) % 32768 ∧
      s.advanced t (MSA_BEATS (bankOf (256 * s.store.scrub))) 8 ∧
      (t.get MSA_SCRUB_PASS_PASSES = if s.store.scrub = 32767 then (s.get MSA_SCRUB_PASS_PASSES + 1) % 2 ^ 32
        else s.get MSA_SCRUB_PASS_PASSES) ∧
      s.only [MSA_SCRUB_PASS, MSA_ECC_STAT] [.live, .store] t) ∧
  (∀ (us : List Upset) (m : Mark) (s : State), (s.upset us).on MSA_SCRUB_EN = true → s.roomy →
    (s.upset us).bankShut (bankOf (256 * s.store.scrub)) = false → s.dark = false →
    (s.upset us).mark (32 * s.store.scrub) = some m → m.uncorr = true →
    (∀ i, i < 31 → (s.upset us).mark (32 * s.store.scrub + (i + 1)) = none) →
    ∃ t, exec (.scrubRead us) s = .next t ∧ t.mark (32 * s.store.scrub) = some m ∧ s.advanced t MSA_ECC_UE 1 ∧
      s.sent t 0x07 0x07 (s.selfAddr (storeBase + 8 * (32 * s.store.scrub))) ∧ t.get MSA_ECC_STAT_UE = 1) ∧
  (∀ s : State, s.on MSA_SCRUB_EN = true → s.dark = false → s.store.late = false → s.scrubLimit < s.sys.t - s.store.scrubT →
    s.roomy → ∃ t, exec .scrubLate s = .next t ∧ t.get MSA_ECC_STAT_SCRUB_LATE = 1 ∧ s.sent t 0x07 0x08 0 ∧
    (∀ f ∈ [MSA_ECC_STAT_CE, MSA_ECC_STAT_UE, MSA_ECC_STAT_SAT, MSA_ECC_STAT_LOG_VALID], t.get f = s.get f) ∧
    t.store = { s.store with late := true } ∧ s.only [MSA_ECC_STAT] [.store, .fltQ] t) ∧
  (∀ s : State, s.on MSA_STAT_INIT_DONE = false → s.store.wait = [] → s.dark = false → s.upTo = true →
    s.tst.mbist = false →
    ∃ t, exec .storeZeroingDone s = .next t ∧ t.get MSA_STAT_INIT_DONE = 1 ∧ (∀ a, a < storeSize → t.byte a = 0#8) ∧
      s.only [MSA_STAT] [.mem, .store] t) ∧
  (∀ s : State, s.on MSA_STAT_ZEROING = true → s.store.wait = [] → s.dark = false →
    ∃ t, exec .partitionZeroingDone s = .next t ∧ t.get MSA_STAT_ZEROING = 0 ∧ t.store.zeroing = 0 ∧
      (∀ a, t.byte a = if s.store.zeroing.testBit (bankOf a) then 0#8 else s.byte a) ∧
      s.only [MSA_STAT] [.mem, .store] t) ∧
  (∀ (g : Fin 14) (clear : Bool) (c e : BitVec 48) (s : State), s.inReset (blkOf (snapReg g.val)) = false → s.dark = false →
    (g.val = 13 → s.d2dLost = false) →
    ∃ t, exec (.counterSnap g clear c e) s = .next t ∧
      (∀ o ∈ cntGroup g.val, t.rd64 o = (s.atSnap g.val c.toNat e.toNat).cnt o % 2 ^ 64 ∧
        t.cnt o = if clear then 0 else (s.atSnap g.val c.toNat e.toNat).cnt o) ∧
      (∀ o, o ∉ cntGroup g.val → t.cnt o = s.cnt o) ∧
      s.only ((cntGroup g.val).flatMap fun o => [o, o + 4]) [.live] t) ∧
  (∀ (l : Fin 4) (c e : BitVec 48) (o : Nat) (s : State), (s.atSnap (l.val + 1) c.toNat e.toNat).cnt o =
    if s.on (LANE_PAT_STAT_CHK_LOCK l.val) = true ∧ o = LANE_PAT_BITS l.val then min (s.cnt o + c.toNat) (2 ^ 48 - 1)
    else if s.on (LANE_PAT_STAT_CHK_LOCK l.val) = true ∧ o = LANE_PAT_ERRS l.val then min (s.cnt o + e.toNat) (2 ^ 48 - 1)
    else s.cnt o) ∧
  ∀ (clear : Bool) (c e : BitVec 48) (s : State), s.d2dLost = true →
    ∃ t, exec (.counterSnap 13 clear c e) s = .next t ∧ s.only [] [] t

/-- R49, R51: first for a cut-off after which the waiting access still finds its bank being zeroed, then for one that serves
it. -/
def Obligations.StoreArbitration : Prop :=
  (∀ (bank : Fin 16) (req : Fin 8) (s : State), s.highPrio req.val = false →
    (s.store.wait.any fun x => bankOf x.off == bank.val && x.req == req.val) = true →
    s.store.promo.contains (bank.val, req.val) = false → s.dark = false →
    ∃ t, exec (.agePromotion bank req) s = .next t ∧ t.store.promo = s.store.promo ++ [(bank.val, req.val)] ∧
      t.store.wait = s.store.wait ∧ s.only [] [.store] t) ∧
  (∀ (bank : Fin 16) (u : Burst) (x : Acc) (s : State), (s.bank bank.val).burst = some u → u.req < 8 → s.roomy →
    s.store.wait = [x] → bankOf x.off = bank.val → x.req ≠ u.req → s.bankZeroing bank.val = true → s.dark = false →
    ∃ t, exec (.arbHoldCutoff bank) s = .next t ∧ (t.bank bank.val).burst = none ∧
      t.getBit MSA_HOLD_FLAG_CUT u.req = true ∧ t.get MSA_HOLD_LOG_BANK = bank.val ∧ t.get MSA_HOLD_LOG_REQ = u.req ∧
      t.get MSA_HOLD_LOG_COUNT = min (s.get MSA_HOLD_LOG_COUNT + 1) 0xFFFF ∧
      s.sent t 0x07 0x09 (s.selfAddr (storeBase + u.start)) ∧ t.resp = some ⟨u.req, 0x0C, 0⟩ ∧
      t.store.wait = [x] ∧ (∀ a, t.byte a = s.byte a) ∧
      s.only [MSA_HOLD_FLAG, MSA_HOLD_LOG] [.store, .resp, .fltQ] t) ∧
  (∀ (bank : Fin 16) (u : Burst) (x : Acc) (z : Fin 4) (s : State), (s.bank bank.val).burst = some u → u.req < 8 → s.roomy →
    s.store.wait = [x] → x.form = .read z → x.src = .cmd → bankOf x.off = bank.val → x.req ≠ u.req → x.req < 8 →
    s.bankZeroing bank.val = false → s.midBurst x.req = false → s.dark = false →
    (∀ b < 16, b ≠ bank.val → (s.bank b).burst = none) →
    s.bankCtl bank.val MSA_ARBCTL_LOCKOUT = 0 → s.mark (x.off / 8) = none →
    ∃ t, exec (.arbHoldCutoff bank) s = .next t ∧ t.store.wait = [] ∧ (t.bank bank.val).owner = x.req ∧
      (t.bank bank.val).burst = none ∧ t.resp = some ⟨x.req, 0, s.load x.off (2 ^ z.val)⟩ ∧
      t.getBit MSA_HOLD_FLAG_CUT u.req = true ∧ (∀ a, t.byte a = s.byte a))

/-- R62, R63, R75, R79, R81. -/
def Obligations.ModeRequests : Prop :=
  (∀ (w : Word) (who : Who) (code : Nat) (s : State), s.dark = false → s.inReset 0x01 = false → s.mode ≠ 1 →
    (s.on MPC_MODE_FTEST = true ∧ code = 0x07 ∨
      s.on MPC_MODE_FTEST = false ∧ 6 ≤ wordField w 0 3 ∧ code = 0x06 ∨
      s.on MPC_MODE_FTEST = false ∧ wordField w 0 3 < 6 ∧ s.on MPC_MODE_TRANS = true ∧ code = 0x02 ∨
      s.on MPC_MODE_FTEST = false ∧ wordField w 0 3 < 6 ∧ s.on MPC_MODE_TRANS = false ∧ w.getLsbD 4 = true ∧ s.rpe.floor = 1 ∧
        code = 0x03) →
    ∃ t, exec (.modeRequest w who) s = .next t ∧ t.get MPC_REQ_STAT_STATE = 3 ∧ t.get MPC_REQ_STAT_CODE = code ∧
      s.only [MPC_REQ_STAT, INTC_PEND 0 0, INTC_PEND 1 0, INTC_PEND 2 0] [.sys] t ∧ t.sys.req = s.sys.req) ∧
  (∀ (w : Word) (who : Who) (code : Nat) (s : State), s.dark = false → s.inReset 0x01 = false → s.mode ≠ 1 →
    s.on MPC_MODE_FTEST = false → wordField w 0 3 < 6 → s.on MPC_MODE_TRANS = false → w.getLsbD 4 = false ∨ s.rpe.floor ≠ 1 →
    (wordField w 0 3 ∈ [0, 1, 4] ∧ code = 0x01 ∨
      s.mode = 4 ∧ wordField w 0 3 = 2 ∧ (who.node.toNat ≠ 0 ∨ s.master = false) ∧ code = 0x01 ∨
      s.mode = 4 ∧ wordField w 0 3 ≠ 2 ∧ code = 0x01 ∨
      wordField w 0 3 ∈ [3, 5] ∧ ¬s.admits who (wordField w 0 3) ∧ code = 0x01 ∨
      s.master = false ∧ code = 0x01 ∨
      s.master = true ∧ s.mode ∈ [3, 5] ∧ wordField w 0 3 = 2 ∧ s.sys.recordOn = false ∧ code = 0x04 ∨
      s.master = true ∧ s.mode ∈ [3, 5] ∧ wordField w 0 3 = 2 ∧ s.sys.recordOn = true ∧ s.listed = false ∧ code = 0x05 ∨
      s.mode = 5 ∧ s.on MPC_MODE_BOOTING = true ∧ s.linkIn = false ∧ wordField w 0 3 = 2 ∧ s.sys.recordOn = true ∧ s.listed = true ∧
        code = 0x01) →
    ∃ t, exec (.modeRequest w who) s = .next t ∧ t.get MPC_REQ_STAT_STATE = 3 ∧ t.get MPC_REQ_STAT_CODE = code ∧
      s.only [MPC_REQ_STAT, INTC_PEND 0 0, INTC_PEND 1 0, INTC_PEND 2 0] [.sys] t ∧ t.sys.req = s.sys.req) ∧
  (∀ (w : Word) (who : Who) (s : State), s.dark = false → s.inReset 0x01 = false → s.on MPC_MODE_FTEST = false →
    s.on MPC_MODE_TRANS = false →
    (s.mode = 2 ∧ s.admits who (wordField w 0 3) ∨ s.mode = 3 ∧ wordField w 0 3 = 5 ∧ s.admits who 5 ∨
      s.mode = 5 ∧ wordField w 0 3 = 2 ∧ s.master = true ∧ s.sys.recordOn = true ∧ s.listed = true ∧
        (s.on MPC_MODE_BOOTING = false ∨ s.linkIn = true)) → w.getLsbD 4 = false →
    ∃ t, exec (.modeRequest w who) s = .next t ∧ t.get MPC_REQ_STAT_STATE = 1 ∧ t.get MPC_REQ_STAT_CODE = 0 ∧
      t.sys.req = some (wordField w 0 3, 0) ∧ t.mode = s.mode ∧ s.only [MPC_REQ_STAT] [.sys] t) ∧
  (∀ (w : Word) (who : Who) (s : State), s.dark = false → s.inReset 0x01 = false → s.on MPC_MODE_FTEST = false →
    s.on MPC_MODE_TRANS = false →
    s.mode = 2 → s.admits who (wordField w 0 3) → w.getLsbD 4 = true → s.rpe.floor ≠ 1 → s.now ≤ s.rd64 MPC_REQ_T →
    ∃ t, exec (.modeRequest w who) s = .next t ∧ t.get MPC_REQ_STAT_STATE = 1 ∧
      t.sys.req = some (wordField w 0 3, s.rd64 MPC_REQ_T) ∧ s.only [MPC_REQ_STAT] [.sys] t) ∧
  (∀ (w : Word) (who : Who) (s : State), s.dark = false → s.inReset 0x01 = false → s.on MPC_MODE_FTEST = false →
    s.on MPC_MODE_TRANS = false →
    s.mode = 2 → s.admits who (wordField w 0 3) → w.getLsbD 4 = true → s.rpe.floor ≠ 1 → s.rd64 MPC_REQ_T < s.now →
    ∃ t, exec (.modeRequest w who) s = .next t ∧ t.get MPC_REQ_STAT_STATE = 1 ∧ t.get MPC_REQ_STAT_LATE = 1 ∧
      t.sys.req = some (wordField w 0 3, s.rd64 MPC_REQ_T) ∧ t.mem = s.mem) ∧
  (∀ (w : Word) (who : Who) (s : State), s.dark = false → s.inReset 0x01 = false → s.on MPC_MODE_FTEST = false →
    s.on MPC_MODE_TRANS = false →
    s.mode = 4 → wordField w 0 3 = 2 → who.node = 0x00#8 → s.master = true →
    w.getLsbD 4 = false ∨ s.rpe.floor ≠ 1 ∧ s.now ≤ s.rd64 MPC_REQ_T →
    ∃ t, exec (.modeRequest w who) s = .next t ∧ t.get MPC_REQ_STAT_STATE = 1 ∧ t.get MPC_ISLAND_PLAY = 0 ∧
      t.sys.waitRun = true ∧ t.mode = 4 ∧ s.only [MPC_REQ_STAT, MPC_ISLAND] [.sys] t) ∧
  (∀ (w : Word) (who : Who) (s : State), s.dark = false → s.inReset 0x01 = false → s.on MPC_MODE_FTEST = false →
    s.on MPC_MODE_TRANS = false →
    s.mode = 1 → wordField w 0 3 = 2 → w.getLsbD 4 = false → s.sys.recordOn = true → s.listed = true → s.master = true →
    ∃ t, exec (.modeRequest w who) s = .next t ∧ t.get MPC_REQ_STAT_STATE = 1 ∧ t.get MPC_MODE_TRANS = 1 ∧
      t.get MPC_WAKE_CAUSE_REQ = 1 ∧ t.sys.waitRun = true ∧ t.mode = 1 ∧
      s.only [MPC_REQ_STAT, MPC_MODE, MPC_WAKE_CAUSE] [.sys] t)

/-- R61, R62, R65, R67, R70, R75, R76, R77, R79, R81. -/
def Obligations.ModeTransitions : Prop :=
  (∀ (t0 : Nat) (s : State), s.toBoundary.mode = 2 → s.toBoundary.on MPC_MODE_TRANS = false → s.upd.act = false →
    s.sys.hand = false → s.master = true → s.on MPC_MODE_FTEST = false → s.sys.req = some (5, t0) → t0 ≤ s.toBoundary.now → s.get RED_TWIN_STAT_STATE ≠ 2 →
    s.sys.waitRun = false → s.sys.heldIsl = none → s.sys.heldMode = none →
    ∃ t, exec .modeTransition s = .next t ∧ t.mode = 5 ∧ t.get MPC_MODE_PREV = 2 ∧ t.get MPC_REQ_STAT_STATE = 2 ∧
      t.sys.req = none ∧ t.mem = s.mem) ∧
  (∀ s : State, s.toBoundary.bootDone = true → s.toBoundary.on MPC_MODE_TRANS = false → s.upd.act = false →
    s.sys.hand = false → s.sys.req = none → s.sys.woke = none → s.sys.heldIsl = none → s.sys.heldMode = none →
    ∃ t, exec .modeTransition s = .next t ∧ t.mode = 2 ∧ t.get MPC_MODE_PREV = 5 ∧ t.get MPC_MODE_BOOTING = 0 ∧ t.mem = s.mem) ∧
  (∀ (t0 : Nat) (s : State), s.toBoundary.mode = 2 → s.toBoundary.on MPC_MODE_TRANS = false → s.sys.req = some (5, t0) →
    s.master = true → s.on MPC_MODE_FTEST = false → 0 < t0 → t0 ≤ s.toBoundary.now → s.get RED_TWIN_STAT_STATE ≠ 2 → s.sys.waitRun = false → s.sys.heldIsl = none → s.sys.heldMode = none →
    ∃ t, exec .modeRequestTimed s = .next t ∧ t.mode = 5 ∧ t.get MPC_MODE_PREV = 2 ∧ t.get MPC_REQ_STAT_STATE = 2 ∧
      t.sys.req = none ∧ t.mem = s.mem) ∧
  (∀ (src : Fin 20) (s : State), src.val ≠ 0 → s.mode = 1 → s.master = true → s.on MPC_MODE_TRANS = false →
    (s.rd MPC_WAKE_EN).getLsbD src.val = true →
    ∃ t, exec (.watchWake src) s = .next t ∧ t.get MPC_MODE_TRANS = 1 ∧ t.mode = 1 ∧
      (t.rd MPC_WAKE_CAUSE).getLsbD src.val = true ∧ s.only [MPC_MODE, MPC_WAKE_CAUSE] [.sys] t) ∧
  (∀ (quiet : BitVec 2) (s : State), s.sys.recordOn = true → s.sys.retrain = false → s.sys.dormT = false → s.master = true →
    s.dirLost 0 = true → s.dirLost 1 = true → s.on MPC_MODE_FTEST = false → s.on MPC_MODE_TRANS = false → s.mode ∈ [1, 2, 3, 5] →
    ∃ t, exec (.islandEntry quiet) s = .next t ∧ t.mode = 4 ∧ t.get MPC_MODE_PREV = s.mode ∧ t.mem = s.mem) ∧
  (∀ (quiet : BitVec 2) (s : State), s.sys.recordOn = true → s.sys.retrain = false → s.sys.dormT = false → s.master = true →
    s.dirLost 0 = true → s.dirLost 1 = true → s.on MPC_MODE_FTEST = true →
    ∃ t, exec (.islandEntry quiet) s = .next t ∧ s.only [] [] t) ∧
  (∀ s : State, s.toBoundary.mode = 4 → s.toBoundary.on MPC_MODE_TRANS = false → s.toBoundary.linkIn = true → s.master = true → s.listed = true →
    s.on MPC_ISLAND_PLAY = false → s.sys.heldIsl = none → s.sys.heldMode = none → s.sys.heldWake = 0 → s.sys.waitRun = true →
    ∃ t, exec .islandExit s = .next t ∧ t.mode = 2 ∧ t.get MPC_MODE_PREV = 4 ∧ t.get MPC_REQ_STAT_STATE = 2 ∧
      t.sys.waitRun = false ∧ t.mem = s.mem) ∧
  (∀ s : State, s.tst.abort ≠ 0 → s.mode = 3 → s.get TST_PSTAT_STATE = 1 → s.roomy → s.tst.lanes = 0 → s.tst.force = none →
    ∃ t, exec .proofAbort s = .next t ∧ t.get TST_PSTAT_STATE = 3 ∧ t.get TST_EVT_ABORT = 1 ∧
      s.sent t 0x01 0x17 (s.get TST_PSTAT_STEP) ∧ t.mem = s.mem) ∧
  (∀ s : State, s.dark = false → s.inReset 0x01 = false → s.mode = 5 → s.on ID_STRAP_TESTMODE = true →
    ∃ t, exec (.ftestKey 0x5A3C#32) s = .next t ∧ t.sys.ftKey = some s.sys.t ∧ s.only [] [.sys] t) ∧
  (∀ (t0 : Nat) (s : State), s.dark = false → s.inReset 0x01 = false → s.mode = 5 → s.on ID_STRAP_TESTMODE = true → s.sys.ftKey = some t0 →
    s.sys.t ≤ t0 + 250000 →
    ∃ t, exec (.ftestKey 0xC3A5#32) s = .next t ∧ t.get MPC_MODE_FTEST = 1 ∧ t.sys.req = none ∧ t.sys.waitRun = false ∧
      (if s.sys.req.isSome = true ∨ s.sys.waitRun = true then t.get MPC_REQ_STAT_STATE = 3 ∧ t.get MPC_REQ_STAT_CODE = 0x07
        else t.rd MPC_REQ_STAT = s.rd MPC_REQ_STAT) ∧
      s.only [MPC_MODE, MPC_REQ_STAT, INTC_PEND 0 0, INTC_PEND 1 0, INTC_PEND 2 0] [.sys] t) ∧
  (∀ (v : Word) (s : State), s.dark = false → s.inReset 0x01 = false → v ≠ 0x5A3C#32 → s.sys.ftKey = none ∨ v ≠ 0xC3A5#32 ∨ s.mode ≠ 5 →
    ∃ t, exec (.ftestKey v) s = .next t ∧ t.sys.ftKey = none ∧ s.only [] [.sys] t) ∧
  (∀ (mode : Fin 6) (s : State), s.master = false → s.laneUp 3 = true → s.on MPC_MODE_TRANS = false → s.on MPC_MODE_FTEST = false → s.mode ∈ [1, 2, 5] → mode.val ∈ [4, 5] →
    s.mode ≠ mode.val → s.sys.recordOn = true → s.sys.heldIsl = none → s.sys.heldMode = none →
    ∃ t, exec (.stackModeRx mode) s = .next t ∧ t.mode = mode.val ∧ t.get MPC_MODE_PREV = s.mode ∧
      t.sys.stackTx = (if s.laneUp 2 then some mode.val else s.sys.stackTx) ∧ t.mem = s.mem) ∧
  (∀ s : State, s.sys.retrain = true → s.laneUp 0 = true → s.laneUp 1 = true →
    ∃ t, exec .retrainWindowEnd s = .next t ∧ t.sys = { s.sys with retrain := false } ∧ s.only [] [.sys] t) ∧
  (∀ s : State, s.sys.retrain = true → s.laneUp 0 = false → s.laneUp 1 = true → s.dirState 0 = 3 → s.sys.dormT = false →
    ∃ t, exec .retrainWindowEnd s = .next t ∧ Tab.get (fun _ => none) t.red.due 0 = some 0x82) ∧
  (∀ s : State, s.rd MPC_WAKE_TIMER ≠ 0#32 → s.lpw.aon = true → s.master = true → s.on MPC_WAKE_EN_TIMER = true → s.mode = 1 → s.on MPC_MODE_TRANS = false →
    ∃ t, exec .wakeTimerExpiry s = .next t ∧ t.rd MPC_WAKE_TIMER = 0#32 ∧ t.get MPC_WAKE_CAUSE_TIMER = 1 ∧
      t.get MPC_MODE_TRANS = 1 ∧ s.only [MPC_WAKE_TIMER, MPC_WAKE_CAUSE, MPC_MODE] [.sys] t)

/-- R66, R68, R69, R70, R71, R73, R476. -/
def Obligations.DormantMode : Prop :=
  (∀ s : State, s.sys.dormT = true → s.sys.heldWake = 0 →
    ∃ t, exec .dormantEntry s = .next t ∧ t.mode = 0 ∧ t.get MPC_MODE_PREV = s.mode ∧ t.get MPC_MODE_TRANS = 0 ∧
      t.get LPW_SEQ_STAT_PEN = (s.get LPW_SEQ_STAT_PEN &&& s.get MPC_DORM_PEN_KEEP) ∧ t.get MSA_STAT_INIT_DONE = 0 ∧
      t.get MPC_MODE_AWAKE_M0 = 0 ∧ t.get MPC_MODE_AWAKE_M1 = 0 ∧ (∀ l, l < 4 → t.get (LANE_STAT_UP l) = 0) ∧
      t.sys.recordOn = false ∧ t.sys.dormT = false ∧ t.biv = s.biv) ∧
  (∀ (lane : Fin 4) (s : State), s.mode = 0 →
    ∃ t, exec (.laneWakeArm lane false) s = .next t ∧ t.sys.laneArm = s.sys.laneArm ||| 2 ^ lane.val ∧ s.only [] [.sys] t) ∧
  (∀ (lane : Fin 4) (s : State), s.mode = 0 → s.on MPC_WAKE_EN_LANE = true →
    ∃ t, exec (.laneWakeArm lane true) s = .next t ∧ t.get MPC_WAKE_CAUSE_LANE = 1 ∧ t.get RSTC_CAUSE_CODE = 0x08 ∧
      t.mem = [] ∧ t.get LPW_SEQ_STAT_STATE = 1) ∧
  (∀ (src : Fin 20) (lane : Fin 4) (s : State), s.mode = 0 → s.lpw.aon = true → (s.rd MPC_WAKE_EN).getLsbD src.val = true →
    (src.val = 0 ∧ s.sys.laneArm.testBit lane.val = true ∨ src.val = 2 ∧ s.rd MPC_WAKE_TIMER ≠ 0#32 ∨ src.val = 3 ∨
      8 ≤ src.val ∧ src.val < 16 ∧ s.sciWakes (src.val - 8) = true ∨ 16 ≤ src.val ∧ s.getBit MPC_DORM_PEN_KEEP 3 = true) →
    ∃ t, exec (.dormantWake (BitVec.ofNat 20 (2 ^ src.val)) lane) s = .next t ∧ (t.rd MPC_WAKE_CAUSE).getLsbD src.val = true ∧
      t.get RSTC_CAUSE_CODE = 0x08 ∧ t.get (RSTC_LOG_W0_CODE (s.get RSTC_LOG_HEAD_NEXT)) = 0x08 ∧ t.mem = [] ∧
      t.get MSA_STAT_INIT_DONE = 0 ∧ t.biv.mem = s.biv.mem ∧ t.get LPW_SEQ_STAT_STATE = 1 ∧
      t.getBit LPW_SEQ_STAT_PEN 0 = true ∧ t.sys.woke = some (s.on MPC_DORM_WAKE_RUN || decide (src.val = 3 ∨ 8 ≤ src.val ∧ src.val < 16)) ∧
      t.get MPC_MODE_BOOTING = 1) ∧
  (∀ (lane : Fin 4) (s : State), s.sys.wakePat.testBit lane.val = true → s.sys.recordOn = true → s.laneEn lane.val = true →
    s.laneHost lane.val = false → s.inReset (laneBlk lane.val) = false → s.trainSt lane.val = 0 →
    ∃ t, exec (.wakePatternEnd lane) s = .next t ∧ t.trainSt lane.val = 1 ∧ t.sys.wakePat.testBit lane.val = false ∧
      s.only [LANE_TRAIN lane.val, LANE_ALIGN lane.val, LANE_STAT lane.val] [.sys, .lane] t)

/-- R85 to R89, R97, R107. The block shown with its whole effect is the fault collector, and the cores. -/
def Obligations.UnitResetSteps : Prop :=
  (∀ (unit : BitVec 8) (s : State), s.dark = false → s.inReset 0x02 = false → unitOk unit.toNat = true →
    unit.toNat < 0x08 ∨ 0x0B < unit.toNat → s.sameCycle = none → s.unitOf unit.toNat = none →
    ∃ t, exec (.softwareReset unit 0xC0DE#16) s = .next t ∧ t.unitOf unit.toNat = some ⟨1, 6, false, 0, 16, s.slowCycle⟩ ∧
      t.sys.rc100 = true ∧ s.only [] [.sys] t) ∧
  (∀ (unit : BitVec 8) (x : UnitSt) (s : State), s.dark = false → s.inReset 0x02 = false → unitOk unit.toNat = true →
    s.sameCycle = none → s.unitOf unit.toNat = some x → x.cyc ≠ s.slowCycle → x.phase = 1 →
    ∃ t, exec (.softwareReset unit 0xC0DE#16) s = .next t ∧
      t.unitOf unit.toNat = some { x with count := x.count + 1 } ∧ s.only [] [.sys] t) ∧
  (∀ (unit : BitVec 8) (s : State), s.dark = false → s.inReset 0x02 = false → unitOk unit.toNat = false → unit.toNat ≠ 0xFE → s.roomy →
    ∃ t, exec (.softwareReset unit 0xC0DE#16) s = .next t ∧ s.sent t 0x02 0x10 unit.toNat ∧
      t.sys.units = s.sys.units ∧ s.only [] [.sys, .fltQ] t) ∧
  (∀ (unit : BitVec 8) (key : BitVec 16) (s : State), s.dark = false → s.inReset 0x02 = false → key ≠ 0xC0DE#16 →
    ∃ t, exec (.softwareReset unit key) s = .next t ∧ t.sys.units = s.sys.units ∧ s.only [] [.sys] t) ∧
  (∀ (unit : BitVec 8) (x : UnitSt) (s : State), unitOk unit.toNat = true → s.unitOf unit.toNat = some x → x.phase = 1 →
    ∃ t, exec (.unitIdleAck unit) s = .next t ∧ t.inReset unit.toNat = true) ∧
  (∀ (x : UnitSt) (s : State), s.unitOf 0x05 = some x → x.phase = 1 →
    s.entryUnit ((s.get RSTC_LOG_HEAD_NEXT + 15) % 16) x.cyc = none →
    ∃ t, exec (.unitIdleAck 0x05#8) s = .next t ∧ t.inReset 0x05 = true ∧ t.fltQ = [] ∧
      t.unitOf 0x05 = some { x with phase := 2, entry := s.get RSTC_LOG_HEAD_NEXT } ∧
      t.get (RSTC_LOG_W0_CODE (s.get RSTC_LOG_HEAD_NEXT)) = x.cause % 256 ∧
      t.get (RSTC_LOG_W0_UNIT (s.get RSTC_LOG_HEAD_NEXT)) = 0x05 ∧
      t.get (RSTC_LOG_W0_SCOPE (s.get RSTC_LOG_HEAD_NEXT)) = 2 ∧
      t.get (RSTC_LOG_W0_COUNT (s.get RSTC_LOG_HEAD_NEXT)) = min 255 x.count ∧
      t.get RSTC_LOG_HEAD_NEXT = (s.get RSTC_LOG_HEAD_NEXT + 1) % 16 ∧
      s.only [RSTC_LOG_W0 (s.get RSTC_LOG_HEAD_NEXT), RSTC_LOG_W1 (s.get RSTC_LOG_HEAD_NEXT), RSTC_LOG_HEAD, RSTC_INRST,
          FLT_STAT, FLT_INJ_W0, FLT_INJ_ADDR_LO, FLT_INJ_ADDR_HI] [.sys, .fltQ, .recLatch] t) ∧
  (∀ (x : UnitSt) (s : State), s.unitOf 0x40 = some x → x.phase = 1 → s.roomy →
    s.entryUnit ((s.get RSTC_LOG_HEAD_NEXT + 16) % 16) x.cyc = none →
    ∃ t, exec (.idleTimeout 0x40#8) s = .next t ∧ t.inReset 0x40 = true ∧ s.sent t 0x02 0x11 0x40 ∧ t.lrOf 0 = none ∧
      t.get MPC_MODE_AWAKE_M0 = 0 ∧ t.get (RSTC_LOG_W0_CODE (s.get RSTC_LOG_HEAD_NEXT)) = 0x09 ∧
      t.get RSTC_LOG_HEAD_NEXT = (s.get RSTC_LOG_HEAD_NEXT + 2) % 16) ∧
  (∀ (unit : BitVec 8) (x : UnitSt) (s : State), unit ≠ 0xFE#8 → s.unitOf unit.toNat = some x → x.phase = 2 →
    ∃ t, exec (.resetAssertEnd unit) s = .next t ∧ t.unitOf unit.toNat = some { x with phase := 3 } ∧ s.only [] [.sys] t) ∧
  (∀ s : State, s.sys.die = some 2 →
    ∃ t, exec (.resetAssertEnd 0xFE#8) s = .next t ∧ t.sys = { s.sys with die := some 3 } ∧ s.only [] [.sys] t) ∧
  (∀ s : State, s.sys.die = some 3 → s.sys.refclk = true → s.on LPW_STAT_RAILS_OK = true → s.sys.strapDue = false →
    ∃ t, exec (.unitRelease 0xFE#8) s = .next t ∧ t.sys = { s.sys with die := none } ∧ s.only [] [.sys] t) ∧
  (∀ (x : UnitSt) (s : State), s.unitOf 0x05 = some x → x.phase = 3 → s.sys.refclk = true ∨ s.on TIME_STAT_REF = true →
    ∃ t, exec (.unitRelease 0x05#8) s = .next t ∧ t.getBit RSTC_INRST_BLK 0x05 = false ∧ t.unitOf 0x05 = none ∧
      s.only [RSTC_INRST] [.sys] t) ∧
  (∀ (unit : BitVec 8) (x : UnitSt) (s : State), unit.toNat < 25 → s.unitOf unit.toNat = some x → x.phase = 3 → s.roomy →
    ∃ t, exec (.clockNotReady unit) s = .next t ∧ (t.unitOf unit.toNat).map (·.phase) = some 4 ∧
      t.getBit RSTC_CLKFAIL_BLK unit.toNat = true ∧ t.inReset unit.toNat = s.inReset unit.toNat ∧
      s.sent t 0x02 0x12 unit.toNat ∧
      t.get (RSTC_LOG_W0_CODE (s.get RSTC_LOG_HEAD_NEXT)) = 0x0A ∧
      t.get (RSTC_LOG_W0_UNIT (s.get RSTC_LOG_HEAD_NEXT)) = unit.toNat ∧
      t.get RSTC_LOG_HEAD_NEXT = (s.get RSTC_LOG_HEAD_NEXT + 1) % 16 ∧
      s.only [RSTC_CLKFAIL, RSTC_LOG_W0 (s.get RSTC_LOG_HEAD_NEXT), RSTC_LOG_W1 (s.get RSTC_LOG_HEAD_NEXT), RSTC_LOG_HEAD]
        [.sys, .fltQ] t)

/-- R42, R84, R85, R86, R91, R97, R107, for a cause that no other one of its slow-clock cycle has come before. -/
def Obligations.WarmAndPowerOnReset : Prop :=
  (∀ s : State, s.get MPC_MODE_CUR ≠ 0 → s.lpw.aon = true → s.sameCycle = none →
    ∃ t, exec .resetN s = .next t ∧ t.get RSTC_CAUSE_CODE = 0x02 ∧ t.mem = s.mem ∧ t.store.marks = s.store.marks ∧
      t.biv.mem = s.biv.mem ∧ t.lpw = s.lpw ∧ (s.upd.run = none → t.upd.flash = s.upd.flash) ∧
      t.get MSA_STAT_INIT_DONE = s.get MSA_STAT_INIT_DONE ∧ (∀ o, blkOf o = 0x15 → t.rd o = s.rd o) ∧
      (∀ o, keepWarm o = false → o ∉ [RSTC_CAUSE, MSA_STAT, MPC_MODE, BIV_HOLD_LVL_A, BIV_HOLD_LVL_B] → blkOf o ≠ 0x11 →
        blkOf o ≠ 0x12 ∨ s.d2dLost = false → t.rd o = regReset o) ∧
      t.sys.die = some 2 ∧ t.sys.strapDue = true ∧
      t.get (RSTC_LOG_W0_CODE (s.get RSTC_LOG_HEAD_NEXT)) = 0x02 ∧
      t.get (RSTC_LOG_W0_UNIT (s.get RSTC_LOG_HEAD_NEXT)) = 0xFE ∧
      t.get (RSTC_LOG_W0_SCOPE (s.get RSTC_LOG_HEAD_NEXT)) = 1 ∧
      t.get (RSTC_LOG_W0_MULTI (s.get RSTC_LOG_HEAD_NEXT)) = b2n s.unitNow ∧
      t.get RSTC_LOG_HEAD_NEXT = (s.get RSTC_LOG_HEAD_NEXT + 1) % 16 ∧
      t.get MPC_MODE_FTEST = 0 ∧ t.fltQ = [] ∧ t.pending = s.pending) ∧
  (∀ s : State, s.get MPC_MODE_CUR = 0 → s.lpw.aon = true → s.sameCycle = none →
    ∃ t, exec .resetN s = .next t ∧ t.mem = [] ∧ t.store.marks = [] ∧ t.get MSA_STAT_INIT_DONE = 0 ∧
      t.biv.mem = s.biv.mem) ∧
  (∀ (stacked : Bool) (s : State),
    ∃ t, exec (.powerOnReset stacked) s = .next t ∧ t.mem = [] ∧ t.biv.mem = [] ∧ t.store.marks = [] ∧
      (s.upd.run = none → t.upd.flash = s.upd.flash) ∧ t.sys.die = some 2 ∧ t.sys.strapDue = true ∧
      (∀ o, keepPor o = false → blkOf o ≠ 0x15 → o ∉ [RSTC_LOG_HEAD, RSTC_LOG_W0 0, RSTC_LOG_W1 0] → t.rd o = regReset o) ∧
      t.get RSTC_LOG_HEAD_NEXT = 1 ∧ t.get (RSTC_LOG_W0_CODE 0) = 1 ∧ t.get (RSTC_LOG_W0_UNIT 0) = 0xFE ∧
      t.get (RSTC_LOG_W0_SCOPE 0) = 0 ∧ t.rd (RSTC_LOG_W1 0) = 0#32 ∧ t.fltQ = [] ∧ t.pending = s.pending) ∧
  (∀ (t0 : Nat) (s : State), s.upd.trial = some t0 → s.get MPC_MODE_CUR ≠ 0 → (∀ r, s.upd.run = some r → r.op ≠ 8) →
    s.lpw.aon = true → s.sameCycle = none →
    ∃ t, exec .trialExpiry s = .next t ∧ t.get RSTC_CAUSE_CODE = 0x0C ∧ t.mem = s.mem ∧ t.upd.trial = none) ∧
  (∀ s : State, s.dark = false → s.inReset 0x02 = false → s.lpw.aon = true → s.sameCycle = none →
    ∃ t, exec (.softwareReset 0xFE#8 0xC0DE#16) s = .next t ∧ t.get RSTC_CAUSE_CODE = 0x06 ∧ t.mem = s.mem) ∧
  (∀ (n : Fin 2) (s : State), s.lpw.aon = true → s.sameCycle = none → s.wdCounts n.val = true →
    s.on (RSTC_WDOG_CNT_WARNED n.val) = true → s.on (RSTC_WDOG_CTL_SCOPE n.val) = false →
    ∃ t, exec (.wdogExpiry n) s = .next t ∧ t.get RSTC_CAUSE_CODE = 3 + n.val ∧ t.mem = s.mem ∧
      t.get (RSTC_WDOG_CTL_EN n.val) = 0)

/-- R91, R92. -/
def Obligations.Watchdogs : Prop :=
  (∀ (n : Fin 2) (ctl : Word) (s : State), s.dark = false → s.inReset 0x02 = false →
    s.on (RSTC_WDOG_CTL_EN n.val) = false → ctl.getLsbD 0 = true →
    ∃ t, exec (.wdogStart n ctl) s = .next t ∧ t.get (RSTC_WDOG_CTL_EN n.val) = 1 ∧
      t.get (RSTC_WDOG_CTL_SCOPE n.val) = wordField ctl 1 1 ∧ t.get (RSTC_WDOG_CTL_TIMEOUT n.val) = wordField ctl 16 16 ∧
      t.get (RSTC_WDOG_CNT_LEFT n.val) = max 1 (wordField ctl 16 16) ∧ t.get (RSTC_WDOG_CNT_WARNED n.val) = 0 ∧
      s.only [RSTC_WDOG_CTL n.val, RSTC_WDOG_CNT n.val] [.sys] t) ∧
  (∀ (n : Fin 2) (ctl : Word) (s : State), s.dark = false → s.inReset 0x02 = false →
    s.on (RSTC_WDOG_CTL_EN n.val) = true →
    ∃ t, exec (.wdogStart n ctl) s = .next t ∧ t.get (RSTC_WDOG_CTL_EN n.val) = 1 ∧
      t.get (RSTC_WDOG_CNT_LEFT n.val) = s.get (RSTC_WDOG_CNT_LEFT n.val) ∧ s.only [RSTC_WDOG_CTL n.val] [.sys] t) ∧
  (∀ (n : Fin 2) (s : State), s.dark = false → s.inReset 0x02 = false → s.on (RSTC_WDOG_CTL_EN n.val) = true →
    ∃ t, exec (.wdogKick n 0x6B1D#32) s = .next t ∧
      t.get (RSTC_WDOG_CNT_LEFT n.val) = max 1 (s.get (RSTC_WDOG_CTL_TIMEOUT n.val)) ∧
      t.get (RSTC_WDOG_CNT_WARNED n.val) = 0 ∧ s.only [RSTC_WDOG_CNT n.val] [.sys] t) ∧
  (∀ (n : Fin 2) (v : Word) (s : State), s.dark = false → s.inReset 0x02 = false → s.on (RSTC_WDOG_CTL_EN n.val) = false →
    ∃ t, exec (.wdogKick n v) s = .next t ∧ s.only [] [.sys] t) ∧
  (∀ (n : Fin 2) (v : Word) (s : State), s.dark = false → s.inReset 0x02 = false → s.on (RSTC_WDOG_CTL_EN n.val) = true → v ≠ 0x6B1D#32 →
    s.on (RSTC_WDOG_CNT_WARNED n.val) = false → s.roomy →
    ∃ t, exec (.wdogKick n v) s = .next t ∧ t.get (RSTC_WDOG_CNT_WARNED n.val) = 1 ∧ s.sent t 0x02 0x13 n.val ∧
      t.get (RSTC_WDOG_CNT_LEFT n.val) = max 1 (s.get (RSTC_WDOG_CTL_TIMEOUT n.val))) ∧
  (∀ (n : Fin 2) (s : State), s.wdCounts n.val = true → s.on (RSTC_WDOG_CNT_WARNED n.val) = false → s.roomy →
    s.inReset 0x06 = false → s.inReset 0x02 = false →
    ∃ t, exec (.wdogExpiry n) s = .next t ∧ t.get (RSTC_WDOG_CNT_WARNED n.val) = 1 ∧ s.sent t 0x02 0x13 n.val ∧
      t.get (RSTC_WDOG_CNT_LEFT n.val) = max 1 (s.get (RSTC_WDOG_CTL_TIMEOUT n.val)) ∧
      (∀ j, j < 3 → s.getBit (INTC_ROUTE_TGT (10 + n.val)) j = true → t.getBit (INTC_PEND_P j 0) (10 + n.val) = true) ∧
      s.only [RSTC_WDOG_CNT n.val, INTC_PEND 0 0, INTC_PEND 1 0, INTC_PEND 2 0] [.sys, .fltQ] t) ∧
  (∀ (n : Fin 2) (s : State), s.wdCounts n.val = true → s.on (RSTC_WDOG_CNT_WARNED n.val) = true →
    s.on (RSTC_WDOG_CTL_SCOPE n.val) = true → s.sameCycle = none → s.unitOf (0x40 + n.val) = none →
    ∃ t, exec (.wdogExpiry n) s = .next t ∧ t.unitOf (0x40 + n.val) = some ⟨1, 3 + n.val, false, 0, 16, s.slowCycle⟩ ∧
      t.get (RSTC_WDOG_CNT_LEFT n.val) = 0 ∧ s.only [RSTC_WDOG_CNT n.val] [.sys] t)

/-- R93, R94; the unit of the command that succeeds is a core. -/
def Obligations.RemoteReset : Prop :=
  (∀ (node : BitVec 8) (s : State), s.dark = false → s.inReset 0x02 = false → s.rd RSTC_AUTH ≠ 0#32 →
    s.on RSTC_REMOTE_STAT_LOCKED = false →
    ∃ t, exec (.remoteAuth (s.rd RSTC_AUTH) node false) s = .next t ∧ (s.sys.t, node.toNat) ∈ t.sys.auth ∧
      (∀ a ∈ s.sys.auth, a.2 ≠ node.toNat → s.sys.t ≤ a.1 + 250000 → a ∈ t.sys.auth) ∧ s.only [] [.sys] t) ∧
  (∀ (w : Word) (node : BitVec 8) (s : State), s.dark = false → s.inReset 0x02 = false → s.rd RSTC_AUTH ≠ 0#32 →
    s.on RSTC_REMOTE_STAT_LOCKED = false → w ≠ s.rd RSTC_AUTH →
    ∃ t, exec (.remoteAuth w node false) s = .next t ∧ (∀ a ∈ t.sys.auth, a.2 ≠ node.toNat) ∧
      (∀ a ∈ s.sys.auth, a.2 ≠ node.toNat → s.sys.t ≤ a.1 + 250000 → a ∈ t.sys.auth) ∧ s.only [] [.sys] t) ∧
  (∀ (core : Fin 2) (node : BitVec 8) (t0 : Nat) (s : State), s.dark = false → s.inReset 0x02 = false →
    s.rd RSTC_AUTH ≠ 0#32 →
    s.on RSTC_REMOTE_STAT_LOCKED = false → (t0, node.toNat) ∈ s.sys.auth → s.sys.t ≤ t0 + 250000 →
    s.sameCycle = none → s.unitOf (0x40 + core.val) = none →
    ∃ t, exec (.remoteCmd (BitVec.ofNat 8 (0x40 + core.val)) node false) s = .next t ∧
      t.unitOf (0x40 + core.val) = some ⟨1, 7, false, 0, 16, s.slowCycle⟩ ∧ t.sys.auth = s.sys.auth ∧ s.only [] [.sys] t) ∧
  (∀ (unit node : BitVec 8) (s : State), s.dark = false → s.inReset 0x02 = false → s.rd RSTC_AUTH ≠ 0#32 → s.on RSTC_REMOTE_STAT_LOCKED = false →
    s.roomy → (∀ a ∈ s.sys.auth, a.2 ≠ node.toNat ∨ a.1 + 250000 < s.sys.t) → s.get RSTC_REMOTE_STAT_FAILS ≤ 4 →
    ∃ t, exec (.remoteCmd unit node false) s = .next t ∧ s.sent t 0x02 0x14 node.toNat ∧
      t.get RSTC_REMOTE_STAT_FAILS = min 4 (s.get RSTC_REMOTE_STAT_FAILS + 1) ∧
      (t.on RSTC_REMOTE_STAT_LOCKED = decide (3 ≤ s.get RSTC_REMOTE_STAT_FAILS)) ∧ t.sys.units = s.sys.units ∧
      t.sys.auth = s.sys.auth ∧ s.only [RSTC_REMOTE_STAT] [.sys, .fltQ] t) ∧
  (∀ (unit node : BitVec 8) (w : Word) (b : Bool) (s : State), s.dark = false → s.inReset 0x02 = false → s.rd RSTC_AUTH ≠ 0#32 →
    s.on RSTC_REMOTE_STAT_LOCKED = true → s.roomy →
    ∃ t u, exec (.remoteAuth w node b) s = .next t ∧ exec (.remoteCmd unit node b) s = .next u ∧
      s.sent t 0x02 0x14 node.toNat ∧ s.sent u 0x02 0x14 node.toNat ∧ t.sys.auth = s.sys.auth ∧ u.sys.units = s.sys.units ∧
      s.only [] [.sys, .fltQ] t ∧ s.only [] [.sys, .fltQ] u) ∧
  (∀ (unit node : BitVec 8) (w : Word) (b : Bool) (s : State), s.dark = false → s.inReset 0x02 = false → s.rd RSTC_AUTH = 0#32 →
    ∃ t u, exec (.remoteAuth w node b) s = .next t ∧ exec (.remoteCmd unit node b) s = .next u ∧
      t.sys.auth = s.sys.auth ∧ u.sys.units = s.sys.units ∧ s.only [] [.sys] t ∧ s.only [] [.sys] u)

/-- R95, where R94 does not disable or lock the remote reset. -/
def Obligations.RemoteBroadcast : Prop :=
  ∀ (unit node : BitVec 8) (w : Word) (s : State), s.dark = false → s.inReset 0x02 = false → s.rd RSTC_AUTH ≠ 0#32 →
    s.on RSTC_REMOTE_STAT_LOCKED = false → s.roomy → s.get RSTC_REMOTE_STAT_FAILS ≤ 4 →
    ∃ t u, exec (.remoteAuth w node true) s = .next t ∧ exec (.remoteCmd unit node true) s = .next u ∧
      t.get RSTC_REMOTE_STAT_FAILS = min 4 (s.get RSTC_REMOTE_STAT_FAILS + 1) ∧
      u.get RSTC_REMOTE_STAT_FAILS = min 4 (s.get RSTC_REMOTE_STAT_FAILS + 1) ∧
      t.sys.auth = s.sys.auth ∧ t.sys.units = s.sys.units ∧ u.sys.units = s.sys.units ∧
      s.sent t 0x02 0x14 node.toNat ∧ s.sent u 0x02 0x14 node.toNat ∧
      s.only [RSTC_REMOTE_STAT] [.sys, .fltQ] t ∧ s.only [RSTC_REMOTE_STAT] [.sys, .fltQ] u

/-- R17, R18, R96, R97, R98, R107. -/
def Obligations.StrapsAndClocks : Prop :=
  (∀ (tm cp tw hd : Bool) (sid : Fin 4) (s : State),
    ∃ t, exec (.strapSample tm cp sid tw hd) s = .next t ∧ t.get ID_STRAP_TESTMODE = b2n tm ∧ t.get ID_STRAP_COMPAT = b2n cp ∧
      t.get ID_STRAP_STACK_ID = sid.val ∧ t.get ID_STRAP_TWIN_PREF = b2n tw ∧ t.get ID_STRAP_HEAD = b2n hd ∧
      t.gh320 = (s.on CFG_CTL_LEGACY || cp) ∧
      (∀ o, o ≠ ID_STRAP → (∀ q, q < 64 → o ≠ SQ_LVL q) → t.rd o = s.rd o) ∧
      t.sys = { s.sys with strapDue := false } ∧ s.parts [.regs, .sys] t) ∧
  (∀ s : State, s.get LPW_SEQ_STAT_STATE = 1 → s.nextPen = none → s.groupsIn = true → s.lpw.aon = true →
    ∃ t, exec .railsOk s = .next t ∧ t.get LPW_SEQ_STAT_STATE = 2 ∧ t.get LPW_STAT_RAILS_OK = 1 ∧
      s.only [LPW_SEQ_STAT, LPW_STAT] [] t) ∧
  (∀ s : State, s.roomy → (∀ l, l < 4 → s.on (LANE_STAT_HOSTMODE l) = false ∧ s.trainSt l < 2) →
    ∃ t, exec .refclkAbsent s = .next t ∧ t.sys.refclk = false ∧ s.sent t 0x03 0x15 0 ∧ s.only [] [.sys, .fltQ] t) ∧
  (∀ s : State, (∀ l, l < 4 → s.laneUp l = true → s.trainSt l = 7 ∨ s.on (LANE_STAT_HOSTMODE l) = true) →
    ∃ t, exec .refclkAbsent s = .next t ∧ t.sys.refclk = false ∧ ∀ l, l < 4 → t.laneUp l = false) ∧
  (∀ s : State, s.roomy → s.sys.refclk = false →
    ∃ t, exec .refclkAbsentReport s = .next t ∧ s.sent t 0x03 0x15 0 ∧ s.only [] [.fltQ] t) ∧
  (∀ s : State, ∃ t, exec .refclkArrival s = .next t ∧ t.sys = { s.sys with refclk := true } ∧ s.only [] [.sys] t) ∧
  (∀ s : State, s.sys.die = none → (∀ e ∈ s.sys.units, e.2 = none) →
    ∃ t, exec .rc100Stop s = .next t ∧ t.sys = { s.sys with rc100 := false } ∧ s.only [] [.sys] t) ∧
  (∀ s : State, s.dark = false → s.inReset 0x02 = false → ∃ t, exec .logClear s = .next t ∧ t.get RSTC_LOG_HEAD_NEXT = 0 ∧
    (∀ i, i < 16 → t.get (RSTC_LOG_W0_CODE i) = 0) ∧ (∀ o, o < RSTC_LOG_HEAD ∨ RSTC_LOG_W1 15 < o → t.rd o = s.rd o) ∧
    s.parts [.regs, .sys] t)

/-- R106, R119 to R123, R131, R356. The states are 0 IDLE, 1 OPEN, 2 CHECKING, 3 ARMED, 4 APPLYING, 5 SYNC. -/
def Obligations.CommitCommands : Prop :=
  (∀ s : State, s.inReset 0x04 = false → s.get CFG_STAT_STATE = 0 →
    ∃ t, exec .cfgOpen s = .next t ∧ t.get CFG_STAT_STATE = 1 ∧ s.only [CFG_STAT] [] t) ∧
  (∀ s : State, s.inReset 0x04 = false → s.get CFG_STAT_STATE = 1 →
    ∃ t, exec .cfgCheck s = .next t ∧ t.get CFG_STAT_STATE = 2 ∧ t.cfg.asked = 0 ∧ s.only [CFG_STAT] [.cfg] t) ∧
  (∀ s : State, s.inReset 0x04 = false → s.get CFG_STAT_STATE = 1 → s.mode ≠ 4 →
    ∃ t, exec .cfgApplyNow s = .next t ∧ t.get CFG_STAT_STATE = 2 ∧
      t.cfg = { s.cfg with asked := 1, inst := s.rd64 CFG_APPLY_T } ∧ s.only [CFG_STAT] [.cfg] t) ∧
  (∀ s : State, s.inReset 0x04 = false → s.get CFG_STAT_STATE = 3 → s.on CFG_STAT_RING = false → s.mode ≠ 4 →
    ∃ t, exec .cfgApplyNow s = .next t ∧ t.cfg = { s.cfg with way := 1, at_ := (s.now / 31250 + 1) * 31250 } ∧ s.only [] [.cfg] t) ∧
  (∀ s : State, s.inReset 0x04 = false → s.get CFG_STAT_STATE = 3 → s.on CFG_STAT_RING = false → s.mode ≠ 4 → s.rpe.floor ≠ 1 →
    s.now ≤ s.rd64 CFG_APPLY_T →
    ∃ t, exec .cfgApplyAt s = .next t ∧ t.cfg = { s.cfg with way := 2, at_ := s.rd64 CFG_APPLY_T } ∧ s.only [] [.cfg] t) ∧
  (∀ s : State, s.inReset 0x04 = false → s.get CFG_STAT_STATE = 3 → s.on CFG_STAT_RING = false → s.mode ≠ 4 → s.rpe.floor ≠ 1 →
    s.rd64 CFG_APPLY_T < s.now → s.inReset 0x0F = false → s.time.dlQ.length < 16 →
    ∃ t, exec .cfgApplyAt s = .next t ∧ t.cfg = { s.cfg with way := 2, at_ := (s.now / 31250 + 1) * 31250 } ∧
      t.get CFG_STAT_LATE = 1 ∧ s.missed t 5 4 0 (s.rd64 CFG_APPLY_T) ∧ s.only [CFG_STAT] [.cfg, .time] t) ∧
  (∀ s : State, s.inReset 0x04 = false → s.get CFG_STAT_STATE = 1 → s.mode ≠ 4 → s.rpe.floor ≠ 1 →
    ∃ t, exec .cfgApplyAt s = .next t ∧ t.get CFG_STAT_STATE = 2 ∧
      t.cfg = { s.cfg with asked := 2, inst := s.rd64 CFG_APPLY_T } ∧ s.only [CFG_STAT] [.cfg] t) ∧
  (∀ s : State, s.inReset 0x04 = false → s.get CFG_STAT_STATE ∈ [1, 3] → s.on CFG_STAT_RING = false → s.rpe.floor = 1 →
    ∃ t, exec .cfgApplyAt s = .next t ∧ t.get CFG_STAT_REFUSED = 1 ∧ t.get CFG_CHECK_RES_CODE = 0x71 ∧
      s.only [CFG_STAT, CFG_CHECK_RES] [] t) ∧
  (∀ s : State, s.inReset 0x04 = false → s.get CFG_STAT_STATE = 3 →
    ∃ t, exec .cfgAbort s = .next t ∧ t.get CFG_STAT_STATE = 1 ∧ t.get CFG_STAT_RING = 0 ∧ t.cfg = { s.cfg with way := 0 } ∧
      s.only [CFG_STAT] [.cfg] t) ∧
  (∀ s : State, s.inReset 0x04 = false → s.get CFG_STAT_STATE = 1 →
    ∃ t, exec .cfgDiscard s = .next t ∧ t.get CFG_STAT_STATE = 5 ∧ s.only [CFG_STAT] [] t) ∧
  (∀ (c : Instr) (s : State), s.inReset 0x04 = false →
    (c = .cfgOpen ∧ s.get CFG_STAT_STATE ≠ 0 ∨ c = .cfgCheck ∧ s.get CFG_STAT_STATE ≠ 1 ∨
      c = .cfgApplyNow ∧ (s.get CFG_STAT_STATE ∉ [1, 3] ∨ s.mode = 4) ∨ c = .cfgAbort ∧ s.get CFG_STAT_STATE ≠ 3 ∨
      c = .cfgDiscard ∧ s.get CFG_STAT_STATE ≠ 1) →
    ∃ t, exec c s = .next t ∧ t.get CFG_STAT_REFUSED = 1 ∧ t.get CFG_STAT_STATE = s.get CFG_STAT_STATE ∧ s.only [CFG_STAT] [] t) ∧
  (∀ (who : Who) (off : BitVec 24) (o : Nat) (v : Word) (s : State), s.leadsTo off.toNat = some o → isShadow o = true →
    s.dark = false → s.inReset (blkOf o) = false → (blkOf o = 0x15 → s.d2dLost = false) →
    (blkOf o = 0x18 → s.outside who = false ∨ s.on BIV_CTL_EXT_WR = true) → s.get CFG_STAT_STATE = 1 →
    ∃ t, exec (.shadowWrite who off v) s = .next t ∧ t.resp = some ⟨whoKey who, 0, 0⟩ ∧
      t.rd o = (s.rd o &&& ~~~ rwMask o) ||| (v &&& rwMask o) ∧ s.only [o] [.resp, .sys, .upd] t) ∧
  (∀ (who : Who) (off : BitVec 24) (o : Nat) (v : Word) (s : State), s.leadsTo off.toNat = some o → isShadow o = true →
    s.dark = false → s.inReset (blkOf o) = false → (blkOf o = 0x15 → s.d2dLost = false) →
    (blkOf o = 0x18 → s.outside who = false ∨ s.on BIV_CTL_EXT_WR = true) → s.get CFG_STAT_STATE ≠ 1 → s.roomy →
    ∃ t, exec (.shadowWrite who off v) s = .next t ∧ t.resp = some ⟨whoKey who, 0x09, 0⟩ ∧
      s.sent t 0x04 0x0A (s.selfAddr o) ∧ s.only [] [.resp, .fltQ, .sys, .upd] t)

/-- R119, R120, R122 to R125, R131. -/
def Obligations.CommitChecksAndApplies : Prop :=
  (∀ s : State, s.inReset 0x04 = false → s.get CFG_STAT_STATE = 2 → s.cfg.asked = 0 → s.checkFlaws false = [] →
    ∃ t, exec .consistencyCheckDone s = .next t ∧ t.get CFG_STAT_STATE = 3 ∧ t.get CFG_STAT_RING = 0 ∧ t.cfg = { s.cfg with way := 0 } ∧
      s.only [CFG_STAT] [.cfg] t) ∧
  (∀ s : State, s.inReset 0x04 = false → s.get CFG_STAT_STATE = 2 → s.cfg.asked = 1 → s.checkFlaws false = [] →
    ∃ t, exec .consistencyCheckDone s = .next t ∧ t.get CFG_STAT_STATE = 3 ∧ t.cfg = { s.cfg with way := 1, at_ := (s.now / 31250 + 1) * 31250 } ∧
      s.only [CFG_STAT] [.cfg] t) ∧
  (∀ (f : Flaw) (s : State), s.inReset 0x04 = false → s.get CFG_STAT_STATE = 2 → s.cfg.asked = 0 → worst (s.checkFlaws false) = some f → f.code ≠ 0 →
    ∃ t, exec .consistencyCheckDone s = .next t ∧ t.get CFG_STAT_STATE = 1 ∧ t.get CFG_STAT_RING = 0 ∧
      t.get CFG_CHECK_RES_CODE = f.code % 256 ∧ t.cfg = { s.cfg with way := 0 } ∧ s.only [CFG_STAT, CFG_CHECK_RES] [.cfg] t) ∧
  (∀ s : State, s.inReset 0x04 = false → s.get CFG_STAT_STATE = 3 → s.cfg.way ≠ 0 → s.atApply.mode = 4 → s.cfg.at_ ≤ s.atApply.now →
    ∃ t, exec .apply s = .next t ∧ t.get CFG_STAT_STATE = 1 ∧ t.cfg = { s.cfg with way := 0 } ∧
      s.atApply.only [CFG_STAT] [.cfg] t) ∧
  (∀ s : State, s.inReset 0x04 = false → s.get CFG_STAT_STATE = 3 → s.cfg.way ≠ 0 → s.atApply.mode ≠ 4 → s.atApply.on MPC_MODE_TRANS = true →
    s.cfg.at_ ≤ s.atApply.now →
    ∃ t, exec .apply s = .next t ∧ t.get CFG_STAT_DEFERRED = 1 ∧ t.get CFG_STAT_STATE = 3 ∧ s.atApply.only [CFG_STAT] [] t) ∧
  (∀ s : State, s.inReset 0x04 = false → s.get CFG_STAT_STATE = 3 → s.cfg.way ≠ 0 → s.atApply.mode ≠ 4 → s.atApply.on MPC_MODE_TRANS = false →
    s.cfg.at_ ≤ s.atApply.now → s.atApply.applyRefusal ≠ 0 → s.roomy →
    ∃ t, exec .apply s = .next t ∧ t.get CFG_STAT_STATE = 1 ∧ s.atApply.sent t 0x04 0x22 s.atApply.applyRefusal ∧
      s.atApply.only [CFG_STAT] [.cfg, .fltQ] t) ∧
  (∀ s : State, s.inReset 0x04 = false → s.get CFG_STAT_STATE = 3 → s.cfg.way = 1 → s.atApply.mode ≠ 4 → s.atApply.on MPC_MODE_TRANS = false →
    s.cfg.at_ ≤ s.atApply.now → s.atApply.applyRefusal = 0 → s.sys.recordOn = true → (s.rd MPC_REQ_SH).getLsbD 7 = false →
    s.get UPD_ACT_GO = 0 →
    ∃ t, exec .apply s = .next t ∧ t.get CFG_STAT_STATE = 4 ∧ t.get CFG_STAT_APPLIED = 1 ∧ t.rd64 CFG_LAST_T = s.atApply.now ∧
      t.get FWD_STAT_GEN = (s.get FWD_STAT_GEN + 1) % 2 ^ (FWD_STAT_GEN).w ∧ t.rd FWD_PIN_CTL = s.rd FWD_PIN_CTL_SH ∧
      t.rd MSA_PART = s.rd MSA_PART_SH ∧ t.rd (MSA_WPROT 2) = s.rd (MSA_WPROT_SH 2) ∧ t.mem = s.mem) ∧
  (∀ s : State, s.inReset 0x04 = false → s.get CFG_STAT_STATE = 3 → s.cfg.way ≠ 0 → s.atApply.now < s.cfg.at_ →
    ∃ t, exec .apply s = .next t ∧ s.only [] [] t) ∧
  (∀ s : State, 4 ≤ s.get CFG_STAT_STATE → s.sys.recordOn = true → s.inReset 0x04 = false →
    ∃ t, exec .applySyncDone s = .next t ∧ t.get CFG_STAT_STATE = 0 ∧ t.rd MPC_REQ_SH = 0#32 ∧ t.rd MSA_PART_SH = s.rd MSA_PART ∧
      t.rd FWD_PIN_CTL_SH = s.rd FWD_PIN_CTL ∧ t.rd FWD_PIN_CTL = s.rd FWD_PIN_CTL ∧ s.parts [.regs] t) ∧
  (∀ s : State, s.inReset 0x04 = false → s.get CFG_STAT_STATE = 3 → s.cfg.way = 0 → s.roomy →
    ∃ t, exec .armTimeout s = .next t ∧ t.get CFG_STAT_STATE = 1 ∧ t.get CFG_STAT_RING = 0 ∧
      s.sent t 0x04 0x24 (if s.on CFG_STAT_RING = true then s.get CFG_COMMIT_CID else 0) ∧ s.only [CFG_STAT] [.cfg, .fltQ] t) ∧
  (∀ s : State, s.get CFG_STAT_STATE ≠ 3 ∨ s.cfg.way ≠ 0 →
    ∃ t, exec .armTimeout s = .next t ∧ s.only [] [] t)

/-- R126 to R131. -/
def Obligations.RingWideCommit : Prop :=
  (∀ (cid : BitVec 16) (guard : DWord) (node : BitVec 8) (chip : Fin 4) (s : State), s.open_ 0x04 = true → s.rpe.floor ≠ 1 →
    s.mode ≠ 4 → s.get CFG_STAT_STATE ≤ 1 →
    ∃ t, exec (.prepare cid guard node chip) s = .next t ∧ t.get CFG_STAT_STATE = 2 ∧ t.get CFG_COMMIT_CID = cid.toNat ∧
      t.get CFG_COMMIT_APPLIED = 0 ∧ t.rd64 CFG_GUARD = guard.toNat ∧
      t.cfg = { s.cfg with missed := false, head := (node.toNat, chip.val), asked := 3 } ∧
      s.only [CFG_STAT, CFG_COMMIT, CFG_GUARD, CFG_GUARD + 4] [.cfg] t) ∧
  (∀ s : State, s.inReset 0x04 = false → s.get CFG_STAT_STATE = 2 → s.cfg.asked = 3 → s.checkFlaws true = [] →
    ∃ t, exec .consistencyCheckDone s = .next t ∧ t.get CFG_STAT_STATE = 3 ∧ t.get CFG_STAT_RING = 1 ∧ t.cfg = { s.cfg with way := 0, endT := s.now } ∧
      t.mem = s.mem) ∧
  (∀ (cid : BitVec 16) (time : DWord) (node : BitVec 8) (chip : Fin 4) (s : State), s.open_ 0x04 = true →
    s.get CFG_COMMIT_CID = cid.toNat → s.on CFG_COMMIT_APPLIED = false → s.get CFG_STAT_STATE = 3 → s.on CFG_STAT_RING = true →
    s.mode ≠ 4 → s.now < (time.toNat + 31249) / 31250 * 31250 →
    ∃ t, exec (.go cid time node chip) s = .next t ∧ t.cfg = { s.cfg with way := 3, at_ := time.toNat } ∧ s.only [] [.cfg] t) ∧
  (∀ (cid : BitVec 16) (time : DWord) (node : BitVec 8) (chip : Fin 4) (s : State), s.open_ 0x04 = true →
    s.get CFG_COMMIT_CID = cid.toNat → s.on CFG_COMMIT_APPLIED = false → s.get CFG_STAT_STATE = 3 → s.on CFG_STAT_RING = true →
    s.mode ≠ 4 → (time.toNat + 31249) / 31250 * 31250 ≤ s.now → s.inReset 0x0F = false → s.time.dlQ.length < 16 →
    ∃ t, exec (.go cid time node chip) s = .next t ∧ t.get CFG_MISSED_LATE_GO = min 65535 (s.get CFG_MISSED_LATE_GO + 1) ∧
      s.missed t 6 4 0 time.toNat ∧ s.only [CFG_MISSED] [.time] t) ∧
  (∀ (cid : BitVec 16) (time : DWord) (node : BitVec 8) (chip : Fin 4) (s : State), s.get CFG_COMMIT_CID ≠ cid.toNat →
    ∃ t, exec (.go cid time node chip) s = .next t ∧ s.only [] [] t) ∧
  (∀ (cid : BitVec 16) (s : State), s.inReset 0x04 = false → s.get CFG_STAT_STATE = 3 → s.get CFG_COMMIT_CID = cid.toNat →
    ∃ t, exec (.cfgAbortMsg cid) s = .next t ∧ t.get CFG_STAT_STATE = 1 ∧ t.get CFG_STAT_RING = 0 ∧ t.cfg = { s.cfg with way := 0 } ∧
      s.only [CFG_STAT] [.cfg] t) ∧
  (∀ (cid : BitVec 16) (s : State), s.get CFG_STAT_STATE ≠ 3 ∨ s.get CFG_COMMIT_CID ≠ cid.toNat →
    ∃ t, exec (.cfgAbortMsg cid) s = .next t ∧ s.only [] [] t) ∧
  (∀ s : State, s.inReset 0x04 = false → s.get CFG_STAT_STATE = 3 → s.on CFG_STAT_RING = true → s.cfg.missed = false → s.toBoundary.rd64 CFG_GUARD ≤ s.toBoundary.now →
    s.roomy → s.inReset 0x0D = true →
    ∃ t, exec .guardExpiry s = .next t ∧ t.get CFG_STAT_MISSED = 1 ∧ t.cfg = { s.cfg with missed := true } ∧
      t.get CFG_MISSED_COUNT = min 65535 (s.get CFG_MISSED_COUNT + 1) ∧ s.toBoundary.sent t 0x04 0x23 (s.get CFG_COMMIT_CID) ∧
      s.toBoundary.only [CFG_STAT, CFG_MISSED] [.cfg, .fltQ] t) ∧
  (∀ s : State, s.inReset 0x04 = false → s.get CFG_STAT_STATE = 3 → s.on CFG_STAT_RING = true → s.cfg.missed = false →
    s.toBoundary.rd64 CFG_GUARD ≤ s.toBoundary.now →
    ∃ t, exec .guardExpiry s = .next t ∧ t.get CFG_STAT_MISSED = 1 ∧ t.cfg = { s.cfg with missed := true } ∧
      t.get CFG_MISSED_COUNT = min 65535 (s.get CFG_MISSED_COUNT + 1) ∧ t.get CFG_STAT_STATE = 3 ∧ t.mem = s.mem) ∧
  (∀ s : State, s.cfg.missed = true →
    ∃ t, exec .guardExpiry s = .next t ∧ s.only [] [] t)

/-- R97, R115 to R117, R490, R494. -/
def Obligations.RecordLoader : Prop :=
  (∀ s : State, s.loaderDue = true → s.roomy →
    ∃ t, exec .loaderRun s = .next t ∧ t.cfg.loading = false ∧
      (t.get CFG_LOAD_CODE = 0 → t.sys.recordOn = true ∧ t.get CFG_STAT_APPLIED = 1 ∧ t.get UPD_STAT_ACTIVE = t.get CFG_LOAD_SLOT) ∧
      (t.get CFG_LOAD_CODE ≠ 0 → t.sys.recordOn = s.sys.recordOn ∧ t.get UPD_STAT_RECOVERY = 1 ∧ t.get UPD_BOOT_STATE = 0 ∧
        s.sent t 0x04 0x21 (t.get CFG_LOAD_CODE))) ∧
  (∀ s : State, s.loaderDue = true → s.dirChosen = none → s.roomy →
    ∃ t, exec .loaderRun s = .next t ∧ t.get CFG_LOAD_CODE = 1 ∧ t.get CFG_LOAD_OTHER = 0 ∧ t.get UPD_STAT_RECOVERY = 1 ∧
      t.get UPD_BOOT_STATE = 0 ∧ t.cfg = { s.cfg with loading := false } ∧ s.sent t 0x04 0x21 1 ∧
      s.only [CFG_LOAD, UPD_STAT, UPD_BOOT] [.cfg, .fltQ] t) ∧
  (∀ (k : Nat) (d : Dir) (s : State), s.loaderDue = true → s.dirChosen = some (k, d) → s.get UPD_BOOT_STATE = 0 → d.active ≤ 1 → s.roomy →
    ∃ t, exec (.flashTimeout true true) s = .next t ∧ t.get CFG_LOAD_CODE = 0x0A ∧ t.get CFG_LOAD_SLOT = 1 - d.active ∧
      t.get CFG_LOAD_OTHER = 0 ∧ t.get UPD_STAT_RECOVERY = 1 ∧ t.cfg = { s.cfg with loading := false } ∧
      s.sent t 0x04 0x21 0x0A ∧ t.mem = s.mem ∧ s.parts [.regs, .cfg, .lsv, .fltQ] t) ∧
  (∀ s : State, s.loaderDue = false →
    ∃ t, exec .loaderRun s = .next t ∧ s.only [] [] t)

/-- R144, R146, R147, R149, R151, R158, R159, R162. The states are 1 DETECT, 2 CDR, 3 ALIGN, 4 HELLO, 5 STEP, 6 QUALIFY, 7 UP, 8 FAULT. -/
def Obligations.LaneTraining : Prop :=
  (∀ (l : Fin 4) (s : State), s.inReset (laneBlk l.val) = false → s.trainSt l.val = 1 → (s.ln l.val).raw = false →
    s.sys.refclk = true →
    ∃ t, exec (.signalDetect l true) s = .next t ∧ t.trainSt l.val = 2 ∧ t.get (LANE_STAT_SIGDET l.val) = 1 ∧
      s.only [LANE_STAT l.val, LANE_TRAIN l.val, LANE_ALIGN l.val] [] t) ∧
  (∀ (l : Fin 4) (s : State), s.inReset (laneBlk l.val) = false →
    ∃ t, exec (.signalDetect l false) s = .next t ∧ t.get (LANE_STAT_SIGDET l.val) = 0 ∧ s.only [LANE_STAT l.val] [] t) ∧
  (∀ (l : Fin 4) (ctle : BitVec 4) (dfe : BitVec 30) (s : State), s.trainSt l.val = 2 → s.sys.refclk = true →
    ∃ t, exec (.cdrLock l ctle dfe) s = .next t ∧ t.trainSt l.val = 3 ∧ t.get (LANE_STAT_CDR_LOCK l.val) = 1 ∧
      t.get (LANE_STAT_BLK_LOCK l.val) = 0 ∧ t.get (LANE_EVT_ALIGN_REQ l.val) = 1 ∧ t.get (LANE_ALIGN_REQ l.val) = 1 ∧
      t.get (LANE_RXEQ_CTLE l.val) = (if (s.ln l.val).hold.testBit 0 = true then s.get (LANE_RXEQ_CTLE l.val) else ctle.toNat) ∧
      t.rd (LANE_DFE l.val) = (if (s.ln l.val).hold.testBit 1 = true then s.rd (LANE_DFE l.val) else BitVec.ofNat 32 dfe.toNat) ∧
      (t.ln l.val).good = 0 ∧
      s.only [LANE_RXEQ l.val, LANE_DFE l.val, LANE_ALIGN l.val, LANE_STAT l.val, LANE_EVT l.val, LANE_TRAIN l.val] [.lane] t) ∧
  (∀ (l : Fin 4) (s : State), s.inReset (laneBlk l.val) = false → s.trainSt l.val = 3 →
    ∃ t, exec (.alignSlip l) s = .next t ∧ t.get (LANE_ALIGN_POS l.val) = (s.get (LANE_ALIGN_POS l.val) + 1) % 66 ∧
      t.get (LANE_ALIGN_LOCK l.val) = 0 ∧ t.get (LANE_ALIGN_WIN_VALID l.val) = 0 ∧ t.get (LANE_STAT_BLK_LOCK l.val) = 0 ∧
      (t.ln l.val).good = 0 ∧ s.only [LANE_ALIGN l.val, LANE_STAT l.val] [.lane] t) ∧
  (∀ (l : Fin 4) (s : State), s.trainSt l.val = 3 → 32 ≤ (s.ln l.val).good →
    ∃ t, exec (.alignWindow l 0xFFFFFFFF#32) s = .next t ∧ t.get (LANE_ALIGN_LOCK l.val) = 1 ∧ t.get (LANE_STAT_BLK_LOCK l.val) = 1 ∧
      t.get (LANE_ALIGN_HDR_CNT l.val) = 32 ∧ t.get (LANE_ALIGN_WIN_VALID l.val) = 1 ∧
      s.only [LANE_ALIGN l.val, LANE_STAT l.val] [.lane] t) ∧
  (∀ (l : Fin 4) (hdrs : BitVec 32) (s : State), s.trainSt l.val = 3 → (hdrRun (s.ln l.val).good ((List.range 32).map hdrs.getLsbD)).2 = false →
    ∃ t, exec (.alignWindow l hdrs) s = .next t ∧ t.get (LANE_ALIGN_HDR_CNT l.val) = (List.range 32).countP (fun i => hdrs.getLsbD i) ∧
      (t.ln l.val).good = min 64 (hdrRun (s.ln l.val).good ((List.range 32).map hdrs.getLsbD)).1 ∧
      t.get (LANE_ALIGN_WIN_VALID l.val) = 1 ∧ t.get (LANE_ALIGN_LOCK l.val) = s.get (LANE_ALIGN_LOCK l.val) ∧
      s.only [LANE_ALIGN l.val] [.lane] t) ∧
  (∀ (l : Fin 4) (hdrs : BitVec 32) (s : State), s.trainSt l.val = 3 → (hdrRun (s.ln l.val).good ((List.range 32).map hdrs.getLsbD)).2 = true →
    ∃ t, exec (.alignWindow l hdrs) s = .next t ∧ t.get (LANE_ALIGN_HDR_CNT l.val) = (List.range 32).countP (fun i => hdrs.getLsbD i) ∧
      t.get (LANE_ALIGN_LOCK l.val) = 1 ∧ t.get (LANE_STAT_BLK_LOCK l.val) = 1 ∧ s.only [LANE_ALIGN l.val, LANE_STAT l.val] [.lane] t) ∧
  (∀ (l : Fin 4) (s : State), s.inReset (laneBlk l.val) = false → s.trainSt l.val = 3 → s.on (LANE_ALIGN_LOCK l.val) = true →
    s.sys.refclk = true →
    ∃ t, exec (.alignDone l) s = .next t ∧ t.trainSt l.val = (if (s.ln l.val).stepped = true then 6 else 4) ∧
      s.only [LANE_TRAIN l.val, LANE_ALIGN l.val] [] t) ∧
  (∀ (l : Fin 4) (s : State), s.trainSt l.val = 6 → s.sys.refclk = true →
    ∃ t, exec (.qualifyDone l) s = .next t ∧ t.trainSt l.val = 7 ∧ t.get (LANE_STAT_UP l.val) = 1 ∧
      t.get (LANE_STAT_VER l.val) = min (if s.gh320 = true then 1 else 2) (s.get (LANE_PEER0_VER l.val)) % 4 ∧
      t.get (LANE_STAT_PLANNED l.val) = 0 ∧ t.get (LANE_EVT_UP l.val) = 1 ∧ (t.ln l.val).stepped = false ∧ t.mem = s.mem) ∧
  (∀ (l : Fin 4) (s : State), 2 ≤ l.val → s.trainSt l.val = 6 → s.sys.refclk = true →
    ∃ t, exec (.qualifyDone l) s = .next t ∧ s.only [LANE_TRAIN l.val, LANE_ALIGN l.val, LANE_STAT l.val, LANE_EVT l.val] [.lane] t) ∧
  (∀ (l : Fin 4) (s : State), s.trainSt l.val = 3 → (s.ln l.val).stepped = false →
    ∃ t, exec (.alignTimeout l) s = .next t ∧ t.trainSt l.val = 1 ∧ t.get (LANE_STAT_DOWN_CAUSE l.val) = 4 ∧
      t.get (LANE_STAT_UP l.val) = 0 ∧ t.get (LANE_EVT_DOWN l.val) = 1 ∧ s.advanced t (LANE_DOWNS l.val) 1 ∧ t.mem = s.mem) ∧
  (∀ (l : Fin 4) (s : State), s.trainSt l.val ∈ [2, 4, 5] → (s.ln l.val).stepped = false →
    ∃ t, exec (.trainTimeout l) s = .next t ∧ t.trainSt l.val = 1 ∧ t.get (LANE_STAT_DOWN_CAUSE l.val) = 5 ∧
      t.get (LANE_STAT_UP l.val) = 0 ∧ s.advanced t (LANE_DOWNS l.val) 1 ∧ t.mem = s.mem) ∧
  (∀ (l : Fin 4) (s : State), s.inReset (laneBlk l.val) = false → s.trainSt l.val = 6 → s.on (LANE_STAT_CDR_LOCK l.val) = true →
    ∃ t, exec (.invalidSyncHeader l) s = .next t ∧ t.trainSt l.val = 2 ∧ s.advanced t (LANE_HDR_ERRS l.val) 1 ∧
      ((s.ln l.val).rxf.isSome = true → s.advanced t (LANE_BLK_ERRS l.val) 1) ∧ t.ln l.val = { s.ln l.val with rxf := none } ∧
      s.only [LANE_TRAIN l.val, LANE_ALIGN l.val] [.live, .lane] t) ∧
  (∀ (l : Fin 4) (s : State), s.trainSt l.val ∈ [1, 2] → s.on (LANE_CTL_V1_PROBE l.val) = true → 2 ≤ s.rateMax l.val → s.gh320 = false →
    (s.ln l.val).stepped = false →
    ∃ t, exec (.v1ProbeSwitch l) s = .next t ∧ t.get (LANE_STAT_RATE l.val) = (if s.get (LANE_STAT_RATE l.val) = 0 then 2 else 0) ∧
      s.only [LANE_STAT l.val] [] t) ∧
  (∀ (cdr blk fault isUp : Bool) (s : State), s.on (LANE_STAT_HOSTMODE 3) = true → s.inReset 0x0B = false →
    isUp = (cdr && s.sys.refclk && blk && !fault) → s.laneUp 3 ≠ isUp →
    ∃ t, exec (.hostLinkState cdr blk fault) s = .next t ∧ t.laneUp 3 = isUp ∧ t.get (LANE_STAT_CDR_LOCK 3) = b2n (cdr && s.sys.refclk) ∧
      t.get (LANE_STAT_BLK_LOCK 3) = b2n (cdr && s.sys.refclk && blk) ∧
      t.get (if isUp = true then LANE_EVT_UP 3 else LANE_EVT_DOWN 3) = 1 ∧ s.only [LANE_STAT 3, LANE_EVT 3] [] t)

/-- R151 to R157. -/
def Obligations.LaneSteps : Prop :=
  (∀ (l : Fin 4) (s : State), s.trainSt l.val ≠ 0 → s.trainSt l.val ≠ 8 → s.inReset (laneBlk l.val) = false →
    s.txQuiet l.val = false →
    ∃ t, exec (.helloTx l) s = .next t ∧ (t.ln l.val).sent.length = 24 ∧ (t.ln l.val).sent.getD 0 0#8 = 1#8 ∧
      (t.ln l.val).seq = ((s.ln l.val).seq + 1) % 65536 ∧ s.only [] [.lane] t) ∧
  (∀ (l : Fin 4) (s : State), s.trainSt l.val = 5 → s.txQuiet l.val = false →
    ∃ t, exec (.rateReqTx l) s = .next t ∧ (t.ln l.val).sent.length = 24 ∧ (t.ln l.val).sent.getD 0 0#8 = 2#8 ∧
      (t.ln l.val).seq = ((s.ln l.val).seq + 1) % 65536 ∧ s.only [] [.lane] t) ∧
  (∀ (l : Fin 4) (target : BitVec 8) (s : State), s.trainSt l.val = 5 → target.toNat = s.get (LANE_TRAIN_TARGET l.val) →
    s.txQuiet l.val = false →
    ∃ t, exec (.rateReq l target) s = .next t ∧ (t.ln l.val).ackTx = true ∧ (t.ln l.val).sent.getD 0 0#8 = 3#8 ∧ s.only [] [.lane] t) ∧
  (∀ (l : Fin 4) (target : BitVec 8) (s : State), s.trainSt l.val = 5 → target.toNat ≠ s.get (LANE_TRAIN_TARGET l.val) →
    s.txQuiet l.val = false →
    ∃ t, exec (.rateReq l target) s = .next t ∧ t.trainSt l.val = 4 ∧ (t.ln l.val).sent.getD 0 0#8 = 4#8 ∧
      s.only [LANE_TRAIN l.val, LANE_ALIGN l.val] [.lane] t) ∧
  (∀ (l : Fin 4) (target : BitVec 8) (s : State), s.trainSt l.val = 5 → target.toNat = s.get (LANE_TRAIN_TARGET l.val) →
    ∃ t, exec (.rateAck l target) s = .next t ∧ t.ln l.val = { s.ln l.val with ackRx := true } ∧ s.only [] [.lane] t) ∧
  (∀ (l : Fin 4) (s : State), s.trainSt l.val = 5 →
    ∃ t, exec (.rateNak l) s = .next t ∧ t.trainSt l.val = 4 ∧ s.only [LANE_TRAIN l.val, LANE_ALIGN l.val] [] t) ∧
  (∀ (l : Fin 4) (s : State), s.trainSt l.val = 5 → (s.ln l.val).ackTx = true → (s.ln l.val).ackRx = true →
    s.sys.refclk = true →
    ∃ t, exec (.pllRelock l) s = .next t ∧ t.trainSt l.val = 2 ∧ t.get (LANE_STAT_RATE l.val) = s.get (LANE_TRAIN_TARGET l.val) ∧
      t.get (LANE_STAT_CDR_LOCK l.val) = 0 ∧ t.get (LANE_ALIGN_LOCK l.val) = 0 ∧ (t.ln l.val).stepped = true ∧
      s.only [LANE_STAT l.val, LANE_TRAIN l.val, LANE_ALIGN l.val] [.lane] t) ∧
  (∀ (l : Fin 4) (ver cap rates role mode node : BitVec 8) (seq : BitVec 16) (uid : BitVec 48) (s : State), s.blocksRx l.val = true →
    s.trainSt l.val = 4 → mode.getLsbD 7 = false → s.rolesOk l.val role.toNat = true →
    ∃ t, exec (.hello l ver cap rates role mode node seq uid) s = .next t ∧ t.get (LANE_PEER0_VER l.val) = ver.toNat ∧
      t.get (LANE_PEER0_RATES l.val) = rates.toNat ∧ t.get (LANE_PEER0_ROLE l.val) = role.toNat ∧ t.get (LANE_PEER1_NODE l.val) = node.toNat ∧
      t.peerUid l.val = uid.toNat ∧ t.ln l.val = { s.ln l.val with seen := true } ∧ t.trainSt l.val = 4 ∧ t.mem = s.mem ∧
      (2 ≤ l.val → s.only [LANE_PEER0 l.val, LANE_PEER1 l.val, LANE_PEER2 l.val, LANE_PEER3 l.val] [.lane] t)) ∧
  (∀ (l : Fin 4) (ver cap rates role mode node : BitVec 8) (seq : BitVec 16) (uid : BitVec 48) (s : State), s.blocksRx l.val = true →
    s.trainSt l.val ∈ [4, 5, 6] → s.rolesOk l.val role.toNat = false → s.roomy → s.fltQ.length < 31 →
    ∃ t, exec (.hello l ver cap rates role mode node seq uid) s = .next t ∧ t.trainSt l.val = 8 ∧
      t.get (LANE_STAT_DOWN_CAUSE l.val) = 0x0A ∧ t.get (LANE_EVT_ROLE_FAULT l.val) = 1 ∧ t.get (LANE_EVT_DOWN l.val) = 1 ∧
      s.advanced t (LANE_DOWNS l.val) 1 ∧ t.mem = s.mem ∧
      (2 ≤ l.val → ⟨laneBlk l.val, 0x32, kindSev 0x32, bits role.toNat 3 2, false, s.sys.t⟩ ∈ t.fltQ)) ∧
  (∀ (l : Fin 4) (ver cap rates role mode node : BitVec 8) (seq : BitVec 16) (uid : BitVec 48) (s : State), s.blocksRx l.val = true →
    s.trainSt l.val = 7 → s.peerUid l.val ≠ uid.toNat →
    ∃ t, exec (.hello l ver cap rates role mode node seq uid) s = .next t ∧ t.trainSt l.val = 1 ∧
      t.get (LANE_STAT_DOWN_CAUSE l.val) = 6 ∧ t.get (LANE_EVT_PEER_CHANGED l.val) = 1 ∧ t.peerUid l.val = uid.toNat ∧ t.mem = s.mem) ∧
  (∀ (l : Fin 4) (s : State), s.trainSt l.val = 7 → s.rateKept l.val = false → s.longShort l.val = false →
    ∃ t, exec (.stepCondition l) s = .next t ∧ t.trainSt l.val = 5 ∧ t.get (LANE_TRAIN_TARGET l.val) = s.bestRate l.val ∧
      t.get (LANE_STAT_PLANNED l.val) = 1 ∧ t.get (LANE_STAT_UP l.val) = 0 ∧ (t.ln l.val).ackTx = false ∧ (t.ln l.val).ackRx = false ∧
      t.mem = s.mem) ∧
  (∀ (l : Fin 4) (s : State), s.trainSt l.val = 7 → s.rateKept l.val = false → s.longShort l.val = true →
    ∃ t, exec (.stepCondition l) s = .next t ∧ t.trainSt l.val = 8 ∧ t.get (LANE_STAT_DOWN_CAUSE l.val) = 9 ∧
      t.get (LANE_EVT_RATE_FAIL l.val) = 1 ∧ t.get (LANE_STAT_UP l.val) = 0 ∧ t.mem = s.mem) ∧
  (∀ (l : Fin 4) (s : State), s.trainSt l.val = 7 → s.rateKept l.val = true → s.mayStep l.val = true → s.heldLong l.val = true →
    (s.ln l.val).condT ≠ none → s.get (LANE_STAT_RATE l.val) < s.bestRate l.val →
    ∃ t, exec (.stepCondition l) s = .next t ∧ t.trainSt l.val = 5 ∧ t.get (LANE_TRAIN_TARGET l.val) = s.bestRate l.val ∧
      t.get (LANE_STAT_PLANNED l.val) = 1 ∧ t.get (LANE_STAT_UP l.val) = 0 ∧ t.mem = s.mem) ∧
  (∀ (l : Fin 4) (s : State), s.trainSt l.val = 7 → s.rateKept l.val = true → s.mayStep l.val = false →
    ∃ t, exec (.stepCondition l) s = .next t ∧ t.ln l.val = { s.ln l.val with condT := none } ∧ s.only [] [.lane] t) ∧
  (∀ (l : Fin 4) (s : State), s.trainSt l.val = 3 → (s.ln l.val).stepped = true →
    ∃ t, exec (.alignTimeout l) s = .next t ∧ t.trainSt l.val = (if s.longRing l.val = true then 8 else 1) ∧
      t.get (LANE_STAT_DOWN_CAUSE l.val) = 9 ∧ t.get (LANE_EVT_RATE_FAIL l.val) = 1 ∧ t.mem = s.mem ∧
      (s.get (LANE_STAT_RATE l.val) < 5 → t.getBit (LANE_TRAIN_FAILED l.val) (s.get (LANE_STAT_RATE l.val)) = true)) ∧
  (∀ (l : Fin 4) (s : State), s.trainSt l.val = 8 → s.get (LANE_STAT_DOWN_CAUSE l.val) = 9 →
    ∃ t, exec (.rateFailHoldoff l) s = .next t ∧ t.trainSt l.val = 1 ∧ t.get (LANE_STAT_RATE l.val) = (if s.gh320 = true then 2 else 0) ∧
      s.only [LANE_STAT l.val, LANE_TRAIN l.val, LANE_ALIGN l.val] [.lane] t)

/-- R141, R142, R145, R149, R150, R160, R161. -/
def Obligations.LaneLossAndTests : Prop :=
  (∀ (l : Fin 4) (cause : Fin 3) (s : State), s.trainSt l.val = 7 →
    ∃ t, exec (.laneDown l cause) s = .next t ∧ t.trainSt l.val = 1 ∧ t.get (LANE_STAT_DOWN_CAUSE l.val) = 1 + cause.val ∧
      t.get (LANE_STAT_UP l.val) = 0 ∧ t.get (LANE_STAT_VER l.val) = 0 ∧ t.get (LANE_EVT_DOWN l.val) = 1 ∧
      (cause.val = 0 → t.get (LANE_TRAIN_FAILED l.val) = 0 ∧ t.get (LANE_STAT_SIGDET l.val) = 0) ∧
      s.advanced t (LANE_DOWNS l.val) 1 ∧ t.mem = s.mem) ∧
  (∀ (l : Fin 4) (cause : Fin 3) (s : State), 2 ≤ l.val → s.trainSt l.val = 7 → s.sys.retrain = false → s.sys.dormT = false → s.roomy →
    ∃ t, exec (.laneDown l cause) s = .next t ∧ s.sent t (laneBlk l.val) 0x30 (1 + cause.val) ∧
      s.parts [.regs, .live, .lane, .time, .fltQ] t) ∧
  (∀ (l : Fin 4) (cause : BitVec 8) (s : State), s.rfMay l.val = true → s.on (LANE_STAT_RF_RX l.val) = false →
    ∃ t, exec (.rfRx l cause) s = .next t ∧ t.get (LANE_STAT_RF_RX l.val) = 1 ∧ t.get (LANE_EVT_RF l.val) = 1 ∧
      (t.ln l.val).rfCause = cause.toNat ∧ t.mem = s.mem ∧ (2 ≤ l.val → s.only [LANE_STAT l.val, LANE_EVT l.val] [.lane] t)) ∧
  (∀ (l : Fin 4) (s : State), s.on (LANE_STAT_RF_RX l.val) = true →
    ∃ t, exec (.rfClear l) s = .next t ∧ t.get (LANE_STAT_RF_RX l.val) = 0 ∧ t.mem = s.mem) ∧
  (∀ (l : Fin 4) (ctl : Word) (s : State), s.inReset (laneBlk l.val) = false → s.on (LANE_EYE_STAT_BUSY l.val) = false →
    ∃ t, exec (.eyeStart l ctl) s = .next t ∧ t.get (LANE_EYE_STAT_BUSY l.val) = 1 ∧ t.get (LANE_EYE_STAT_DONE l.val) = 0 ∧
      t.rd (LANE_EYE_CTL l.val) = (ctl &&& 0x0007FF7F#32) ∧ s.only [LANE_EYE_CTL l.val, LANE_EYE_STAT l.val] [] t) ∧
  (∀ (l : Fin 4) (ctl : Word) (s : State), s.inReset (laneBlk l.val) = false → s.on (LANE_EYE_STAT_BUSY l.val) = true →
    ∃ t, exec (.eyeStart l ctl) s = .next t ∧ s.only [] [] t) ∧
  (∀ (l : Fin 4) (errs : Word) (s : State), s.on (LANE_EYE_STAT_BUSY l.val) = true →
    ∃ t, exec (.eyeDone l errs) s = .next t ∧ t.get (LANE_EYE_STAT_ERRS l.val) = min errs.toNat (2 ^ 24 - 1) ∧
      t.get (LANE_EYE_STAT_BUSY l.val) = 0 ∧ t.get (LANE_EYE_STAT_DONE l.val) = 1 ∧ t.get (LANE_EVT_EYE_DONE l.val) = 1 ∧
      s.only [LANE_EYE_STAT l.val, LANE_EVT l.val] [] t) ∧
  (∀ (l : Fin 4) (ctl : Word) (ck er : BitVec 48) (s : State), s.inReset (laneBlk l.val) = false →
    s.on (LANE_PAT_STAT_CHK_LOCK l.val) = true → (s.ln l.val).raw = false → ctl.getLsbD 0 = false → ctl.getLsbD 1 = true →
    ∃ t, exec (.patCtlWrite l ctl ck er) s = .next t ∧ t.rd (LANE_PAT_CTL l.val) = (ctl &&& 0x77#32) ∧
      t.get (LANE_PAT_STAT_CHK_LOCK l.val) = (if (s.rd (LANE_PAT_CTL l.val) &&& 0x74#32) = (ctl &&& 0x74#32) then 1 else 0) ∧
      s.advanced t (LANE_PAT_BITS l.val) ck.toNat ∧ s.advanced t (LANE_PAT_ERRS l.val) er.toNat ∧
      s.only [LANE_PAT_CTL l.val, LANE_PAT_STAT l.val] [.live, .tst, .lane] t) ∧
  (∀ (l : Fin 4) (s : State), s.chkActive l.val = true →
    ∃ t, exec (.chkLock l) s = .next t ∧ t.get (LANE_PAT_STAT_CHK_LOCK l.val) = 1 ∧ s.only [LANE_PAT_STAT l.val] [] t) ∧
  (∀ (l : Fin 4) (ck er : BitVec 48) (s : State), s.on (LANE_PAT_STAT_CHK_LOCK l.val) = true →
    ∃ t, exec (.patLockLost l ck er) s = .next t ∧ t.get (LANE_PAT_STAT_CHK_LOCK l.val) = 0 ∧ t.get (LANE_EVT_PAT_LOCK_LOST l.val) = 1 ∧
      t.get (LANE_PAT_STAT_LOCK_LOSS l.val) = min (2 ^ (LANE_PAT_STAT_LOCK_LOSS l.val).w - 1) (s.get (LANE_PAT_STAT_LOCK_LOSS l.val) + 1) ∧
      (t.ln l.val).chk = ⟨0, 0, 0, 0⟩ ∧ s.advanced t (LANE_PAT_BITS l.val) ck.toNat ∧ s.advanced t (LANE_PAT_ERRS l.val) er.toNat ∧
      s.only [LANE_PAT_STAT l.val, LANE_EVT l.val] [.live, .lane] t) ∧
  (∀ (l : Fin 4) (body : DWord) (s : State), s.blocksRx l.val = true → s.looped l.val = false → (s.ln l.val).rxf = none →
    s.on (LANE_STAT_RF_RX l.val) = false →
    ∃ t, exec (.frameDiscard l [⟨1#2, body⟩]) s = .next t ∧ s.advanced t (LANE_BLK_ERRS l.val) 1 ∧ s.only [] [.live, .lane] t) ∧
  (∀ (l : Fin 4) (body : DWord) (cls : Nat) (ws : List DWord) (s : State), s.blocksRx l.val = true → s.looped l.val = false →
    (s.ln l.val).rxf = some (cls, ws) → s.on (LANE_STAT_RF_RX l.val) = false →
    ∃ t, exec (.frameDiscard l [⟨1#2, body⟩]) s = .next t ∧
      (if ws.length = 260 then (t.ln l.val).rxf = none ∧ s.advanced t (LANE_BLK_ERRS l.val) 1
        else (t.ln l.val).rxf = some (cls, ws ++ [BitVec.ofNat 64 (descramble (s.ln l.val).descr body.toNat).1]) ∧ t.live = s.live) ∧
      s.only [] [.live, .lane] t)

/-- R181, R184 to R192. Both ring directions are right and the queues have room where frames are spoken of. -/
def Obligations.CensusRounds : Prop :=
  (∀ s : State, s.open_ 0x0C = true → s.open_ 0x0D = true → s.headAct = true → s.on RED_TWIN_CTL_TWIN = false →
    s.dirState 0 = 0 → s.dirState 1 = 0 → s.fwd.locWait = [] → s.occ 0 3 + 1 ≤ s.limit 0 3 → s.occ 1 3 + 1 ≤ s.limit 1 3 →
    ∃ t, exec .censusCall s = .next t ∧ t.rpe = { s.rpe with round := (s.rpe.round + 1) % 65536, cenOpen := true, cenGot := 0 } ∧
      t.node = 0 ∧
      (t.queue 0 3).map (·.f.payload) = (s.queue 0 3).map (·.f.payload) ++
        [[cenWord 1 ((s.rpe.round + 1) % 65536) (s.get RPE_RING_FLOOR) (s.get RPE_RING_PROFILE) (s.get RPE_RING_RATE) 1 0, s.cenEntry false]] ∧
      (t.queue 1 3).map (·.f.payload) = (s.queue 1 3).map (·.f.payload) ++
        [[cenWord 1 ((s.rpe.round + 1) % 65536) (s.get RPE_RING_FLOOR) (s.get RPE_RING_PROFILE) (s.get RPE_RING_RATE) 1 1, s.cenEntry false]]) ∧
  (∀ (w0 w1 w2 w3 : Word) (s : State), s.open_ 0x0C = true → s.headAct = true → s.on RED_TWIN_CTL_TWIN = false →
    s.assignNewer s.rpe.round = true → s.rd (RPE_CEN_ASGN 0) = w0 → s.rd (RPE_CEN_ASGN 1) = w1 → s.rd (RPE_CEN_ASGN 2) = w2 →
    s.rd (RPE_CEN_ASGN 3) = w3 → w0.getLsbD 28 = false → s.blocked 0 = false → s.blocked 1 = false →
    (w2.toNat + 2 ^ 32 * w3.toNat) % 2 ^ 48 = s.uid48 → s.rpe.round < 65536 →
    ∃ t, exec (.assign 1) s = .next t ∧ t.node = bits w3.toNat 16 8 ∧ t.get RPE_NODE_STATUS = bits w3.toNat 24 4 ∧
      t.get RPE_NODE_ROUND = s.rpe.round ∧ t.get RPE_RING_FLOOR = bits w0.toNat 24 4 ∧ t.rpe = { s.rpe with assigned := true } ∧
      t.mem = s.mem) ∧
  (∀ (l : Fin 2) (f : Frame) (s : State), s.inReset 0x0C = false → s.master = true → s.headAct = false → 2 ≤ f.payload.length →
    entUid (frWord f 1) ≠ s.uid48 → (frWord f 0).testBit 42 = false → cenCount f < 255 → frClass f = 5 → frVc f = 0 → frDst f = 0xFF →
    frDup f = 0 → frKind f = 3 → frSched f = 0 → s.laneUp (1 - l.val) = true → s.blocked (1 - l.val) = false → s.dirState (1 - l.val) = 0 →
    s.occ (1 - l.val) 3 + (167 + 8 * f.payload.length) / 128 ≤ s.limit (1 - l.val) 3 →
    ∃ t, exec (.callRx l f) s = .next t ∧
      (t.queue (1 - l.val) 3).map (·.f.payload) = (s.queue (1 - l.val) 3).map (·.f.payload) ++
        [hwSet (f.payload.getD 0 0#64) 32 8 (cenCount f + 1) :: f.payload.drop 1 ++ [s.cenEntry (s.linkV1 l.val)]] ∧
      s.countsBut [] t ∧ s.only [] [.live, .fwd, .store] t) ∧
  (∀ (l : Fin 2) (f : Frame) (s : State), s.inReset 0x0C = false → s.master = true → s.headAct = true → 2 ≤ f.payload.length →
    entUid (frWord f 1) = s.uid48 → cenCount f < 255 → cenDir f = 0 → s.rpe.cenOpen = true → s.rpe.cenGot = 2 →
    ∃ t, exec (.callRx l f) s = .next t ∧ t.get RPE_CEN_STAT_CW_DONE = 1 ∧ t.get RPE_CEN_STAT_CW_COUNT = cenCount f + 1 ∧
      t.rpe.cenOpen = false ∧ t.get RPE_EVT_CEN_DONE = 1 ∧
      t.rd (RPE_CEN_LIST 0 2) = BitVec.ofNat 32 (frWord f 1) ∧ t.rd (RPE_CEN_LIST 0 3) = BitVec.ofNat 32 (frWord f 1 / 2 ^ 32) ∧
      s.parts [.regs, .rpe] t) ∧
  (∀ (f : Frame) (e : Nat) (s : State), s.inReset 0x0C = false → s.assignNewer (cenRound f) = true → s.on RED_TWIN_CTL_TWIN = false →
    (((List.range (cenCount f)).map fun i => frWord f (1 + i)).find? fun e => entUid e == s.uid48) = some e →
    (frWord f 0).testBit 28 = false → s.blocked 0 = false → s.blocked 1 = false →
    ∃ t, exec (.assignRx f) s = .next t ∧ t.node = bits e 48 8 ∧ t.get RPE_NODE_STATUS = bits e 56 4 ∧
      t.get RPE_STAT_LISTED = b2n (bits e 56 4 == 0) ∧ t.get RPE_NODE_ROUND = cenRound f ∧ t.get RPE_RING_FLOOR = bits (frWord f 0) 24 4 ∧
      t.get RPE_RING_PROFILE = 0 ∧ t.get RPE_RING_RATE = bits (frWord f 0) 29 3 ∧ t.rpe = { s.rpe with assigned := true } ∧
      s.parts [.regs, .rpe] t) ∧
  (∀ (f : Frame) (s : State), s.inReset 0x0C = false → s.assignNewer (cenRound f) = true → s.on RED_TWIN_CTL_TWIN = false →
    (((List.range (cenCount f)).map fun i => frWord f (1 + i)).find? fun e => entUid e == s.uid48) = none →
    (frWord f 0).testBit 28 = false → s.blocked 0 = false → s.blocked 1 = false →
    ∃ t, exec (.assignRx f) s = .next t ∧ t.node = 0xFE ∧ t.get RPE_NODE_STATUS = 0xF ∧ t.get RPE_STAT_LISTED = 0 ∧ s.parts [.regs, .rpe] t) ∧
  (∀ (f : Frame) (s : State), s.inReset 0x0C = false → s.assignNewer (cenRound f) = false →
    ∃ t, exec (.assignRx f) s = .next t ∧ s.only [] [] t) ∧
  (∀ s : State, s.inReset 0x0C = false → ∃ t, exec .floorChange s = .next t ∧ t.rpe = { s.rpe with floor := s.get RPE_RING_FLOOR } ∧ s.only [] [.rpe] t) ∧
  (∀ s : State, s.inReset 0x0C = false → s.rpe.cenOpen = true →
    ∃ t, exec .censusTimeout s = .next t ∧ t.rpe = { s.rpe with cenOpen := false } ∧ t.get RPE_EVT_CEN_DONE = 1 ∧ s.only [RPE_EVT] [.rpe] t) ∧
  (∀ s : State, s.inReset 0x0C = false → s.open_ 0x0D = true → s.headAct = true →
    s.dirState 0 = 0 → s.dirState 1 = 0 → s.fwd.locWait = [] → s.occ 0 3 + 1 ≤ s.limit 0 3 → s.occ 1 3 + 1 ≤ s.limit 1 3 →
    ∃ t, exec .beaconTx s = .next t ∧
      (t.queue 0 3).map (·.f.payload) = (s.queue 0 3).map (·.f.payload) ++
        [[cenWord 3 s.rpe.round (s.get RPE_RING_FLOOR) (s.get RPE_RING_PROFILE) (s.get RPE_RING_RATE) (s.get RPE_RING_NLISTED) 0, s.cenEntry false]] ∧
      (t.queue 1 3).map (·.f.payload) = (s.queue 1 3).map (·.f.payload) ++
        [[cenWord 3 s.rpe.round (s.get RPE_RING_FLOOR) (s.get RPE_RING_PROFILE) (s.get RPE_RING_RATE) (s.get RPE_RING_NLISTED) 1, s.cenEntry false]] ∧
      s.only [] [.live, .fwd, .store] t) ∧
  (∀ (l : Fin 2) (f : Frame) (s : State), s.inReset 0x0C = false → s.headAct = false → s.get RPE_NODE_ROUND = cenRound f →
    s.on RPE_STAT_LISTED = true →
    ∃ t, exec (.beaconRx l f) s = .next t ∧ t.get RPE_RING_ROUND = cenRound f ∧ Tab.get (fun _ => none) t.rpe.bcnT l.val = some s.now ∧
      s.only [RPE_RING] [.rpe] t) ∧
  (∀ (l : Fin 2) (f : Frame) (s : State), s.inReset 0x0C = false → s.headAct = false → s.get RPE_NODE_ROUND ≠ cenRound f →
    ∃ t, exec (.beaconRx l f) s = .next t ∧ t.get RPE_RING_ROUND = cenRound f ∧ t.get RPE_EVT_NODE_CHG = 1 ∧ t.mem = s.mem) ∧
  (∀ s : State, s.inReset 0x0C = false →
    ∃ t, exec .beaconLost s = .next t ∧ t.get RPE_EVT_BEACON_LOST = 1 ∧ s.only [RPE_EVT] [] t) ∧
  (∀ s : State, s.inReset 0x0C = false → s.headAct = true →
    ∃ t, exec .noteRx s = .next t ∧ t.get RPE_EVT_NOTE_RX = 1 ∧ s.only [RPE_EVT] [] t) ∧
  (∀ (node : BitVec 8) (s : State), s.inReset 0x0C = false → s.master = false → s.on RED_TWIN_CTL_TWIN = false →
    ∃ t, exec (.stackNodeRx node) s = .next t ∧ t.node = node.toNat ∧ t.get RPE_STAT_LISTED = b2n (node != 0xFE#8) ∧
      (s.node ≠ node.toNat → t.get RPE_EVT_NODE_CHG = 1) ∧ s.parts [.regs] t)

/-- R126, R131, R142, R170 to R172, R175, R179, R198, R199, R205, R284. -/
def Obligations.FramesOnLanes : Prop :=
  (∀ (l : Fin 4) (c : Fin 8) (f : Frame) (tr : DWord) (age : BitVec 32) (s : State), s.takesFrames l.val = true →
    f.payload.length ≤ 256 → frTrailer f ≠ tr.toNat % 2 ^ 32 → s.roomy →
    ∃ t, exec (.frameRx l c f tr age) s = .next t ∧ s.advanced t (FWD_CNT l.val 0) 1 ∧ s.advanced t (FWD_CNT l.val 1) (32 + 8 * f.payload.length) ∧
      s.advanced t (FWD_CNT l.val 4) 1 ∧ t.get FWD_EVT_CRC = 1 ∧ s.sent t 0x0D 0x34 l.val ∧
      s.countsBut [FWD_CNT l.val 0, FWD_CNT l.val 1, FWD_CNT l.val 4] t ∧ s.only [FWD_EVT] [.live, .fltQ, .fwd, .store] t) ∧
  (∀ (l : Fin 4) (c : Fin 8) (f : Frame) (tr : DWord) (age : BitVec 32) (s : State), s.takesFrames l.val = true →
    f.payload.length ≤ 256 → frTrailer f = tr.toNat % 2 ^ 32 → s.roomy →
    headerReason f c.val (s.get (LANE_STAT_VER l.val)) ≠ 0 →
    ∃ t, exec (.frameRx l c f tr age) s = .next t ∧ t.get RPE_HDR_LOG_REASON = headerReason f c.val (s.get (LANE_STAT_VER l.val)) ∧
      t.get RPE_HDR_LOG_LANE = l.val ∧ t.get RPE_HDR_LOG_SRC_NODE = frSrc f ∧ t.get RPE_EVT_HDR = 1 ∧ s.advanced t (RPE_CNT 0) 1 ∧
      s.sent t 0x0C 0x33 l.val ∧ s.only [RPE_HDR_LOG, RPE_EVT] [.live, .fltQ, .fwd, .store] t) ∧
  (∀ (l : Fin 4) (c : Fin 8) (f : Frame) (tr : DWord) (age : BitVec 32) (s : State), s.takesFrames l.val = true →
    f.payload.length ≤ 256 → frTrailer f = tr.toNat % 2 ^ 32 →
    headerReason f c.val (s.get (LANE_STAT_VER l.val)) = 0 → frKind f = 0 → frClass f = 3 → frDst f = s.node → s.node ≠ 0xFF →
    frDstChip f = s.chip → frSrc f ≠ s.node → s.on RED_TWIN_CTL_TWIN = false →
    s.occ 4 5 + (159 + 8 * f.payload.length) / 128 ≤ s.limit 4 5 →
    ∃ t, exec (.frameRx l c f tr age) s = .next t ∧ (t.queue 4 5).map (·.f) = (s.queue 4 5).map (·.f) ++ [f] ∧
      s.advanced t (FWD_CNT l.val 0) 1 ∧ s.only [] [.live, .fwd, .store] t) ∧
  (∀ (l : Fin 4) (c : Fin 8) (f : Frame) (tr : DWord) (age : BitVec 32) (s : State), s.takesFrames l.val = false →
    ∃ t, exec (.frameRx l c f tr age) s = .next t ∧ s.only [] [] t) ∧
  (∀ (l : Fin 4) (frac : BitVec 12) (sof : Bool) (qi i : Nat) (x : QFrame) (s : State), s.laneUp l.val = true → s.inReset (laneBlk l.val) = false →
    s.on (LANE_STAT_HOSTMODE l.val) = false → s.open_ 0x0D = true → s.txQuiet l.val = false → s.tst.force ≠ some l.val →
    s.pickTx l.val = some (qi, i, x) → (x.cells.all fun c => (List.range 16).all fun k => (s.mark (16 * c + k)).isNone) = true →
    frClass x.f ≠ 4 → frKind x.f ≠ 4 → 2 ≤ l.val ∨ frHops x.f < 511 → s.fwd.locWait = [] →
    ∃ t, exec (.frameTx l frac sof none) s = .next t ∧ t.queue l.val qi = (s.queue l.val qi).eraseIdx i ∧
      Tab.get (fun _ => none) t.fwd.sent l.val = some (s.txHeader l.val x, frTrailer (s.txHeader l.val x)) ∧
      s.advanced t (FWD_CNT l.val 2) 1 ∧ s.only [] [.live, .fwd, .lane, .store] t) ∧
  (∀ (l : Fin 4) (frac : BitVec 12) (sof : Bool) (qi i : Nat) (x : QFrame) (s : State), s.laneUp l.val = true → s.inReset (laneBlk l.val) = false →
    s.on (LANE_STAT_HOSTMODE l.val) = false → s.open_ 0x0D = true → s.txQuiet l.val = false → s.tst.force ≠ some l.val →
    s.pickTx l.val = some (qi, i, x) → (x.cells.all fun c => (List.range 16).all fun k => (s.mark (16 * c + k)).isNone) = true →
    l.val < 2 → frHops x.f = 511 → s.fwd.locWait = [] →
    ∃ t, exec (.frameTx l frac sof none) s = .next t ∧ t.queue l.val qi = (s.queue l.val qi).eraseIdx i ∧
      t.fwd.sent = s.fwd.sent ∧ s.advanced t (RPE_CNT 5) 1 ∧ s.only [] [.live, .fwd] t) ∧
  (∀ (l : Fin 2) (slot : Fin 512) (start len : Nat) (s : State), ((s.wins l.val).find? fun w => w.1 == slot.val) = some (slot.val, start, len) →
    s.time.noWin = false → s.now % 31250 ≤ start → s.inReset 0x0D = false → s.now < 2 ^ 63 →
    ∃ t, exec (.schedWindow l slot) s = .next t ∧ t.now = s.now / 31250 * 31250 + start ∧
      Tab.get (fun _ => none) t.fwd.win l.val = some ⟨slot.val, s.now / 31250 * 31250 + start, len⟩ ∧
      s.only [TIME_SPINDLE, TIME_SPINDLE + 4] [.fwd, .sys] t) ∧
  (∀ (p : Fin 5) (x : QFrame) (r : List QFrame) (s : State), s.queue p.val 1 = x :: r → frSched x.f = 1 → s.staleAt x.f < s.now →
    s.fwd.locWait = [] → s.roomy → s.inReset 0x0D = false → s.inReset 0x0F = false → s.time.dlQ.length < 16 →
    ∃ t, exec (.schedStale p) s = .next t ∧ t.queue p.val 1 = r ∧ s.advanced t (RPE_CNT 2) 1 ∧ t.get RPE_EVT_STALE = 1 ∧
      s.sent t 0x0C 0x38 (frSlot x.f) ∧ s.missed t 2 0x0C (frSlot x.f) (s.staleAt x.f) ∧
      s.only [RPE_EVT] [.live, .fwd, .time, .fltQ] t) ∧
  (∀ (qi : Fin 9) (x : QFrame) (r : List QFrame) (s : State), s.open_ 0x0D = true → s.queue 4 qi.val = x :: r → frKind x.f = 2 →
    (x.cells.all fun c => (List.range 16).all fun k => (s.mark (16 * c + k)).isNone) = true →
    frClass x.f = 5 → bits (frWord x.f 0) 0 8 = 5 → bits (frWord x.f 0) 16 16 = s.get CFG_COMMIT_CID → s.get CFG_STAT_STATE = 3 →
    s.inReset 0x04 = false → s.fwd.locWait = [] →
    ∃ t, exec (.locDeliver qi none) s = .next t ∧ t.queue 4 qi.val = r ∧ t.get CFG_STAT_STATE = 1 ∧ s.advanced t (FWD_CNT 4 2) 1 ∧
      s.only [CFG_STAT] [.live, .fwd, .cfg, .store] t) ∧
  (∀ (qi : Fin 9) (u : Option Upset) (s : State), s.queue 4 qi.val = [] →
    ∃ t, exec (.locDeliver qi u) s = .next t ∧ s.only [] [] t)

/-- R216, R217, R222, R223. -/
def Obligations.DrainsAndFences : Prop :=
  (∀ (q frm id pins : Nat) (es : List (Nat × Nat × Nat)) (w : DWord) (s : State), s.inReset 0x0D = false →
    s.fwd.drains = [⟨q, frm, id, es, pins⟩] → q < 4 → frm < 2 → id < 65536 →
    bits w.toNat 0 8 = 1 → bits w.toNat 8 3 = q → bits w.toNat 12 1 = frm → bits w.toNat 16 16 = id →
    Tab.get (fun _ => 0) s.fwd.lastMark (2 * q + frm) = id → s.fwd.held = [] → s.fwd.locWait = [] →
    ∃ t, exec (.markRx w) s = .next t ∧ t.fwd.drains = [] ∧
      t.getBit (if frm = 0 then FWD_DRAIN_FROM_CW else FWD_DRAIN_FROM_CCW) q = false ∧
      t.get FWD_DRAIN_CNT_CLOSED = min (2 ^ FWD_DRAIN_CNT_CLOSED.w - 1) (s.get FWD_DRAIN_CNT_CLOSED + 1) ∧
      s.only [FWD_DRAIN, FWD_DRAIN_CNT] [.fwd] t) ∧
  (∀ (w : DWord) (s : State), (∀ k, k < 16 → Tab.get (fun _ => 0) s.fwd.lastMark k ≠ bits w.toNat 16 16) →
    ∃ t, exec (.markRx w) s = .next t ∧ s.only [] [] t) ∧
  (∀ (q : Fin 6) (frm : Fin 2) (id pins : Nat) (es : List (Nat × Nat × Nat)) (s : State), s.inReset 0x0D = false →
    s.fwd.drains = [⟨q.val, frm.val, id, es, pins⟩] →
    s.fwd.held = [] → s.fwd.locWait = [] → s.roomy →
    ∃ t, exec (.drainTimeout q frm) s = .next t ∧ t.fwd.drains = [] ∧ t.get FWD_EVT_DRAIN_TO = 1 ∧
      t.getBit (if frm.val = 0 then FWD_DRAIN_FROM_CW else FWD_DRAIN_FROM_CCW) q.val = false ∧
      t.get FWD_DRAIN_CNT_TIMEOUTS = min (2 ^ FWD_DRAIN_CNT_TIMEOUTS.w - 1) (s.get FWD_DRAIN_CNT_TIMEOUTS + 1) ∧
      s.sent t 0x0D 0x3B (q.val + 2 ^ 8 * frm.val) ∧ s.only [FWD_DRAIN, FWD_DRAIN_CNT, FWD_EVT] [.fwd, .fltQ] t) ∧
  (∀ s : State, s.inReset 0x0D = false → s.on FWD_FENCE_BUSY = false →
    ∃ t, exec .fwdFenceStart s = .next t ∧ t.get FWD_FENCE_BUSY = 1 ∧ t.fwd = { s.fwd with fenceGen := s.get FWD_STAT_GEN } ∧
      s.only [FWD_FENCE] [.fwd] t) ∧
  (∀ s : State, s.inReset 0x0D = false → s.on FWD_FENCE_BUSY = true →
    ∃ t, exec .fwdFenceStart s = .next t ∧ s.only [] [] t) ∧
  (∀ s : State, s.inReset 0x0D = false → s.on FWD_FENCE_BUSY = true → s.olderFrames = 0 →
    ∃ t, exec .fwdFenceDone s = .next t ∧ t.get FWD_FENCE_BUSY = 0 ∧ t.get FWD_FENCE_DONE = 1 ∧ t.get FWD_EVT_FENCE_DONE = 1 ∧
      s.only [FWD_FENCE, FWD_EVT] [] t) ∧
  (∀ s : State, s.olderFrames ≠ 0 → ∃ t, exec .fwdFenceDone s = .next t ∧ s.only [] [] t) ∧
  (∀ s : State, s.inReset 0x0D = false → s.on FWD_FENCE_BUSY = true →
    ∃ t, exec .fwdFenceTimeout s = .next t ∧ t.get FWD_FENCE_BUSY = 0 ∧ t.get FWD_FENCE_DONE = 1 ∧ t.get FWD_FENCE_TIMEOUT = 1 ∧
      t.get FWD_FENCE_LEFT = min s.olderFrames 65535 ∧ s.only [FWD_FENCE] [] t)

/-- R238, R239, R240, R243 to R246, with no frame queued on the lane that is lost. -/
def Obligations.RingDirections : Prop :=
  (∀ (dir : Fin 2) (c : Nat) (s : State), s.inReset 0x0E = false → s.listed = true → s.lossDue dir.val = some c → c < 256 →
    s.now < 2 ^ 64 → s.roomy → s.mode ≠ 3 →
    s.open_ 0x0D = true → s.laneUp dir.val = false → s.dirState (1 - dir.val) = 0 → s.blocked (1 - dir.val) = false →
    (∀ qi, qi < 9 → s.queue dir.val qi = []) → s.fwd.held = [] → s.fwd.locWait = [] → s.fwd.drains = [] →
    s.occ (1 - dir.val) 0 + 1 ≤ s.limit (1 - dir.val) 0 →
    ∃ t, exec (.ringLoss dir) s = .next t ∧ t.dirState dir.val = 1 ∧ t.get RED_LOSS_LOG_DIR = dir.val ∧ t.get RED_LOSS_LOG_CAUSE = c ∧
      t.rd64 RED_LOSS_T = s.now ∧ t.get RED_EVT_LOSS = 1 ∧ s.advanced t (RED_CNT 9) 1 ∧ s.sent t 0x0E 0x40 (c + 2 ^ 8 * dir.val) ∧
      t.reach dir.val = 0 ∧ t.get RED_STAT_GAP = 1 ∧ t.red.gaps.testBit dir.val = true ∧ t.red.wrapping.testBit dir.val = true ∧
      t.red.epoch = (s.red.epoch + 1) % 65536 ∧
      (t.queue (1 - dir.val) 0).map (·.f.payload) = (s.queue (1 - dir.val) 0).map (·.f.payload) ++
        [[BitVec.ofNat 64 (1 + dir.val * 2 ^ 8 + (s.red.epoch + 1) % 65536 * 2 ^ 16)]] ∧ t.mem = s.mem) ∧
  (∀ (dir : Fin 2) (s : State), s.inReset 0x0E = false → s.lossDue dir.val = none → ∃ t, exec (.ringLoss dir) s = .next t ∧
    s.only [] [] t) ∧
  (∀ (dir : Fin 2) (s : State), s.inReset 0x0E = false → s.dirState dir.val = 1 → s.red.wrapping.testBit dir.val = true → s.now < 2 ^ 64 →
    ∃ t, exec (.wrapDone dir) s = .next t ∧ t.get (wrapFld dir.val) = 1 ∧ t.rd64 RED_WRAP_T = s.now ∧ t.get RED_EVT_WRAP_DONE = 1 ∧
      t.red.wrapping.testBit dir.val = false ∧ s.only [RED_STAT, RED_WRAP_T, RED_WRAP_T + 4, RED_EVT] [.red] t) ∧
  (∀ (dir : Fin 2) (s : State), s.inReset 0x0E = false → s.listed = true → s.dirLost dir.val = true → s.open_ 0x0D = true →
    s.dirState (1 - dir.val) = 0 →
    s.blocked (1 - dir.val) = false → s.fwd.locWait = [] → s.occ (1 - dir.val) 0 + 1 ≤ s.limit (1 - dir.val) 0 →
    ∃ t, exec (.breakRepeat dir) s = .next t ∧
      (t.queue (1 - dir.val) 0).map (·.f.payload) = (s.queue (1 - dir.val) 0).map (·.f.payload) ++
        [[BitVec.ofNat 64 (1 + dir.val * 2 ^ 8 + s.red.epoch % 65536 * 2 ^ 16)]] ∧ s.only [] [.live, .fwd, .store] t) ∧
  (∀ (lost : Fin 2) (node : BitVec 8) (chip : Fin 4) (hops : BitVec 10) (s : State), s.inReset 0x0E = false → s.brkOf lost.val = none →
    s.dirState lost.val = 0 →
    s.reach lost.val = 255 → hops.toNat < 255 → s.fwd.drains = [] → s.fwd.held = [] → s.fwd.locWait = [] →
    ∃ t, exec (.breakRx lost node chip hops) s = .next t ∧ t.reach lost.val = hops.toNat ∧
      t.brkOf lost.val = some (4 * node.toNat + chip.val, hops.toNat) ∧ t.get RED_EVT_BREAK_RX = 1 ∧ t.get RED_STAT_GAP = 1 ∧
      t.red.gaps.testBit 2 = true ∧ t.mem = s.mem ∧ t.dirState lost.val = 0) ∧
  (∀ (lost : Fin 2) (node : BitVec 8) (chip : Fin 4) (hops : BitVec 10) (s : State), s.inReset 0x0E = false →
    s.dirLost lost.val = true → s.brkOf lost.val = none →
    ∃ t, exec (.breakRx lost node chip hops) s = .next t ∧ t.reach lost.val = s.reach lost.val ∧
      t.brkOf lost.val = some (4 * node.toNat + chip.val, hops.toNat) ∧ t.get RED_EVT_BREAK_RX = 1 ∧ s.only [RED_EVT] [.red] t) ∧
  (∀ (lost : Fin 2) (node : BitVec 8) (chip : Fin 4) (hops : BitVec 10) (n h : Nat) (s : State), s.inReset 0x0E = false →
    s.brkOf lost.val = some (n, h) →
    n ≠ 4 * node.toNat + chip.val → h ≤ hops.toNat →
    ∃ t, exec (.breakRx lost node chip hops) s = .next t ∧ t.get RED_EVT_BREAK_RX = 1 ∧ s.only [RED_EVT] [] t) ∧
  (∀ (lost : Fin 2) (node : BitVec 8) (chip : Fin 4) (h : Nat) (s : State), s.inReset 0x0E = false →
    s.brkOf lost.val = some (4 * node.toNat + chip.val, h) →
    s.dirLost lost.val = false → s.fwd.drains = [] → s.fwd.held = [] → s.fwd.locWait = [] →
    ∃ t, exec (.restoreRx lost node chip) s = .next t ∧ t.brkOf lost.val = none ∧ t.reach lost.val = 255 ∧ t.get RED_EVT_RESTORE_RX = 1 ∧
      t.mem = s.mem) ∧
  (∀ (lost : Fin 2) (node : BitVec 8) (chip : Fin 4) (n h : Nat) (s : State), s.inReset 0x0E = false → s.brkOf lost.val = some (n, h) →
    n ≠ 4 * node.toNat + chip.val →
    ∃ t, exec (.restoreRx lost node chip) s = .next t ∧ t.get RED_EVT_RESTORE_RX = 1 ∧ s.only [RED_EVT] [] t) ∧
  (∀ (lost : Fin 2) (b : Nat × Nat) (s : State), s.inReset 0x0E = false → s.brkOf lost.val = some b → s.dirLost lost.val = false →
    s.fwd.drains = [] → s.fwd.held = [] → s.fwd.locWait = [] →
    ∃ t, exec (.breakRecordExpiry lost) s = .next t ∧ t.brkOf lost.val = none ∧ t.reach lost.val = 255 ∧ t.mem = s.mem) ∧
  (∀ (lost : Fin 2) (b : Nat × Nat) (s : State), s.inReset 0x0E = false → s.brkOf lost.val = some b → s.dirLost lost.val = true →
    ∃ t, exec (.breakRecordExpiry lost) s = .next t ∧ t.brkOf lost.val = none ∧ s.only [] [.red] t) ∧
  (∀ (w : Fin 3) (s : State), s.inReset 0x0E = false → s.red.gaps = 2 ^ w.val → s.red.wrapping.testBit w.val = false →
    ∃ t, exec (.gapWindowClose w) s = .next t ∧ t.red.gaps = 0 ∧ t.get RED_STAT_GAP = 0 ∧ s.only [RED_STAT] [.red] t) ∧
  (∀ (w : Fin 3) (s : State), s.inReset 0x0E = false → s.red.wrapping.testBit w.val = true →
    ∃ t, exec (.gapWindowClose w) s = .next t ∧ s.only [] [] t) ∧
  (∀ (dir : Fin 2) (s : State), s.inReset 0x0E = false → s.listed = true → s.dirState dir.val = 2 → s.dirState (1 - dir.val) = 0 →
    s.brkOf dir.val = none → s.open_ 0x0D = true →
    s.blocked 0 = false → s.blocked 1 = false → s.fwd.drains = [] → s.fwd.held = [] → s.fwd.locWait = [] →
    s.occ 0 0 + 1 ≤ s.limit 0 0 → s.occ 1 0 + 1 ≤ s.limit 1 0 →
    ∃ t, exec (.returnHoldExpiry dir) s = .next t ∧ t.dirState dir.val = 0 ∧ t.reach dir.val = 255 ∧ t.get RED_EVT_RETURN = 1 ∧
      t.get (wrapFld dir.val) = 0 ∧ t.red.unwrap.testBit dir.val = (s.get RED_CTL_UNWRAP_HOLD != 0) ∧
      t.get RED_STAT_UNWRAP = b2n (t.red.unwrap != 0) ∧
      (t.queue 0 0).map (·.f.payload) = (s.queue 0 0).map (·.f.payload) ++
        [[BitVec.ofNat 64 (2 + dir.val * 2 ^ 8 + s.red.epoch % 65536 * 2 ^ 16)]] ∧
      (t.queue 1 0).map (·.f.payload) = (s.queue 1 0).map (·.f.payload) ++
        [[BitVec.ofNat 64 (2 + dir.val * 2 ^ 8 + s.red.epoch % 65536 * 2 ^ 16)]] ∧ t.mem = s.mem) ∧
  (∀ (dir : Fin 2) (s : State), s.inReset 0x0E = false → s.red.unwrap = 2 ^ dir.val → s.fwd.held = [] → s.fwd.locWait = [] →
    ∃ t, exec (.unwrapHoldEnd dir) s = .next t ∧ t.red.unwrap = 0 ∧ t.get RED_STAT_UNWRAP = 0 ∧ s.only [RED_STAT] [.red] t)

/-- R248 to R253, R255, R257. The anchor states are 0 STANDBY, 1 CLAIM, 2 HOLD, 3 YIELDING, 4 YIELDED, 5 OFF. -/
def Obligations.TwinAnchor : Prop :=
  (∀ (s : State), s.inReset 0x0E = false → s.get RED_TWIN_STAT_STATE = 0 → s.on RED_TWIN_CTL_AUTO_REVERT = false →
    s.on RED_TWIN_LEFT_RUNNING = false →
    ∃ t, exec (.anchorInChange true) s = .next t ∧ t.get RED_TWIN_STAT_ANCHOR_IN = 1 ∧ t.get RED_TWIN_STAT_SEEN_HIGH = 1 ∧
      t.get RED_TWIN_STAT_STATE = 0 ∧ s.only [RED_TWIN_STAT] [.tst] t) ∧
  (∀ (s : State), s.inReset 0x0E = false → s.get RED_TWIN_STAT_STATE = 1 → s.on RED_TWIN_CTL_TWIN = true → s.on ID_STRAP_TWIN_PREF = false →
    s.on RED_TWIN_LEFT_RUNNING = false →
    ∃ t, exec (.anchorInChange true) s = .next t ∧ t.get RED_TWIN_STAT_ANCHOR_IN = 1 ∧ t.get RED_TWIN_STAT_STATE = 0 ∧
      t.get RED_TWIN_STAT_ANCHOR_OUT = 0 ∧ s.only [RED_TWIN_STAT] [.tst] t) ∧
  (∀ (s : State), s.inReset 0x0E = false → s.get RED_TWIN_STAT_STATE = 1 → s.on ID_STRAP_TWIN_PREF = true →
    s.on RED_TWIN_LEFT_RUNNING = false →
    ∃ t, exec (.anchorInChange true) s = .next t ∧ t.get RED_TWIN_STAT_ANCHOR_IN = 1 ∧ t.get RED_TWIN_STAT_STATE = 1 ∧
      t.get RED_TWIN_STAT_ANCHOR_OUT = s.get RED_TWIN_STAT_ANCHOR_OUT ∧ s.only [RED_TWIN_STAT] [.tst] t) ∧
  (∀ (s : State), s.inReset 0x0E = false → s.get RED_TWIN_STAT_STATE = 4 → s.on RED_TWIN_CTL_AUTO_REVERT = false →
    s.on RED_TWIN_LEFT_RUNNING = false →
    ∃ t, exec (.anchorInChange true) s = .next t ∧ t.get RED_TWIN_STAT_STATE = 0 ∧ t.get RED_TWIN_STAT_ANCHOR_IN = 1 ∧
      t.get RED_TWIN_STAT_ANCHOR_OUT = 0 ∧ t.get RED_TWIN_STAT_SEEN_HIGH = 1 ∧ s.only [RED_TWIN_STAT] [.tst] t) ∧
  (∀ (s : State), s.inReset 0x0E = false → s.get RED_TWIN_STAT_STATE = 0 → s.on RED_TWIN_CTL_AUTO_TAKE = true →
    s.leads = true ∨ s.on RED_TWIN_STAT_SEEN_HIGH = true →
    s.on RED_TWIN_LEFT_RUNNING = false →
    ∃ t, exec (.anchorInChange false) s = .next t ∧ t.get RED_TWIN_STAT_STATE = 1 ∧ t.get RED_TWIN_STAT_ANCHOR_OUT = 1 ∧
      t.get RED_TWIN_STAT_ANCHOR_IN = 0 ∧ t.red.revertReq = false ∧ s.only [RED_TWIN_STAT] [.red] t) ∧
  (∀ (s : State), s.inReset 0x0E = false → s.get RED_TWIN_STAT_STATE = 1 → s.on RED_TWIN_STAT_ANCHOR_IN = false →
    ∃ t, exec .claimConfirm s = .next t ∧ t.get RED_TWIN_STAT_STATE = 2 ∧ t.get RED_EVT_TAKE = 1 ∧ s.advanced t (RED_CNT 10) 1 ∧
      t.mem = s.mem ∧ (s.on RED_TWIN_CTL_TWIN = false ∨ s.headAct = false → s.parts [.regs, .live, .tst] t) ∧
      (s.on RED_TWIN_CTL_TWIN = true → s.headAct = true → s.open_ 0x0C = true → t.rpe.round = (s.rpe.round + 1) % 65536)) ∧
  (∀ (s : State), s.inReset 0x0E = false → s.on RED_TWIN_STAT_ANCHOR_IN = true → ∃ t, exec .claimConfirm s = .next t ∧ s.only [] [] t) ∧
  (∀ (s : State), s.inReset 0x0E = false → s.get RED_TWIN_STAT_STATE = 3 → s.eligible = true → s.on RED_TWIN_STAT_ANCHOR_IN = false →
    ∃ t, exec .yieldSettle s = .next t ∧ t.get RED_TWIN_STAT_STATE = 4 ∧ t.get RED_TWIN_STAT_ANCHOR_OUT = 0 ∧ s.only [RED_TWIN_STAT] [] t) ∧
  (∀ (s : State), s.inReset 0x0E = false → s.get RED_TWIN_STAT_STATE = 3 → s.eligible = false →
    ∃ t, exec .yieldSettle s = .next t ∧ t.get RED_TWIN_STAT_STATE = 5 ∧ t.get RED_TWIN_STAT_ANCHOR_OUT = 0 ∧
      s.parts [.regs, .lsv] t) ∧
  (∀ (s : State), s.inReset 0x0E = false → s.get RED_TWIN_STAT_STATE = 4 → s.on RED_TWIN_STAT_ANCHOR_IN = false →
    ∃ t, exec .yieldedTimeout s = .next t ∧
      t.get RED_TWIN_STAT_STATE = (if s.on RED_TWIN_CTL_AUTO_TAKE || s.red.r80 then 1 else 0) ∧
      t.get RED_TWIN_STAT_ANCHOR_OUT = (if s.on RED_TWIN_CTL_AUTO_TAKE || s.red.r80 then 1 else 0) ∧ s.only [RED_TWIN_STAT] [] t) ∧
  (∀ (s : State), s.inReset 0x0E = false → s.get RED_TWIN_STAT_STATE = 0 → s.on RED_TWIN_STAT_ANCHOR_IN = false → s.leads = false →
    s.on RED_TWIN_CTL_AUTO_TAKE = true →
    ∃ t, exec .secondClaimDelay s = .next t ∧ t.get RED_TWIN_STAT_STATE = 1 ∧ t.get RED_TWIN_STAT_ANCHOR_OUT = 1 ∧
    s.only [RED_TWIN_STAT] [] t) ∧
  (∀ (s : State), s.inReset 0x0E = false → s.get RED_TWIN_STAT_STATE = 0 → s.on RED_TWIN_STAT_ANCHOR_IN = false →
    ∃ t, exec .twinTake s = .next t ∧ t.get RED_TWIN_STAT_STATE = 1 ∧ t.get RED_TWIN_STAT_ANCHOR_OUT = 1 ∧ s.only [RED_TWIN_STAT] [] t) ∧
  (∀ (s : State), s.inReset 0x0E = false → s.get RED_TWIN_STAT_STATE ≠ 0 → ∃ t, exec .twinTake s = .next t ∧ s.only [] [] t) ∧
  (∀ (s : State), s.inReset 0x0E = false → s.get RED_TWIN_STAT_STATE = 2 →
    ∃ t, exec .twinYield s = .next t ∧ t.get RED_TWIN_STAT_STATE = 3 ∧ t.get RED_EVT_YIELD = 1 ∧
      t.get RED_TWIN_STAT_ANCHOR_OUT = s.get RED_TWIN_STAT_ANCHOR_OUT ∧
      t.red = { s.red with r80 := false, overlap := s.get RED_TWIN_CTL_OVERLAP != 0 } ∧ s.parts [.regs, .red, .lsv] t) ∧
  (∀ (s : State), s.inReset 0x0E = false → s.get RED_TWIN_STAT_STATE ≠ 2 → ∃ t, exec .twinYield s = .next t ∧ s.only [] [] t) ∧
  (∀ (s : State), s.inReset 0x0E = false → s.on RED_TWIN_CTL_TWIN = true → s.get RED_TWIN_STAT_STATE ≠ 2 →
    ∃ t, exec .twinRevert s = .next t ∧ t.red = { s.red with revertReq := s.on ID_STRAP_TWIN_PREF || s.red.revertReq } ∧
    s.only [] [.red] t) ∧
  (∀ (s : State), s.inReset 0x0E = false → s.get RED_TWIN_STAT_STATE = 2 →
    ∃ t, exec .twinUnlock s = .next t ∧ t.get RED_TWIN_STAT_YLOCK = 0 ∧ t.get RED_TWIN_STAT_STATE = 2 ∧ s.only [RED_TWIN_STAT] [] t) ∧
  (∀ (s : State), s.inReset 0x0E = false → s.get RED_TWIN_STAT_STATE = 5 → s.red.twinOn = true → s.on MPC_MODE_BOOTING = false →
    s.get MPC_MODE_CUR = 2 → s.on RED_TWIN_STAT_CONFLICT = false → s.on RED_TWIN_STAT_ANCHOR_IN = true →
    ∃ t, exec .twinUnlock s = .next t ∧ t.get RED_TWIN_STAT_YLOCK = 0 ∧ t.get RED_TWIN_STAT_STATE = 0 ∧
      t.get RED_TWIN_STAT_ANCHOR_OUT = 0 ∧ s.only [RED_TWIN_STAT] [] t) ∧
  (∀ (s : State), s.inReset 0x0E = false → s.on RED_TWIN_CTL_TWIN = true → s.healthy = true →
    ∃ t, exec .beatTx s = .next t ∧ t.red = { s.red with beat := if s.red.revertReq then 4 else 1 } ∧ s.only [] [.red, .tst] t) ∧
  (∀ (s : State), s.inReset 0x0E = false → s.on RED_TWIN_CTL_TWIN = false ∨ s.healthy = false →
    ∃ t, exec .beatTx s = .next t ∧ t.red = { s.red with beat := 0 } ∧ s.only [] [.red] t) ∧
  (∀ (s : State), s.inReset 0x0E = false → s.on RED_TWIN_CTL_TWIN = true → s.on RED_TWIN_CTL_AUTO_REVERT = false →
    s.on RED_TWIN_LEFT_RUNNING = false →
    ∃ t, exec (.beatRx false) s = .next t ∧ t.get RED_TWIN_STAT_PARTNER_BEAT = 1 ∧ t.get RED_TWIN_STAT_PARTNER_REQ = 0 ∧
      t.get RED_TWIN_STAT_STATE = s.get RED_TWIN_STAT_STATE ∧ s.only [RED_TWIN_STAT] [] t) ∧
  (∀ (s : State), s.inReset 0x0E = false → s.on RED_TWIN_CTL_TWIN = true → s.on RED_TWIN_CTL_HONOR_REQ = true →
    s.get RED_TWIN_STAT_STATE = 2 →
    ∃ t, exec (.beatRx true) s = .next t ∧ t.get RED_TWIN_STAT_PARTNER_BEAT = 1 ∧ t.get RED_TWIN_STAT_PARTNER_REQ = 1 ∧
      t.get RED_TWIN_STAT_STATE = 3 ∧ t.get RED_EVT_YIELD = 1 ∧ t.mem = s.mem) ∧
  (∀ (s : State), s.inReset 0x0E = false → s.on RED_TWIN_STAT_PARTNER_BEAT = true → s.on RED_TWIN_LEFT_RUNNING = false → s.roomy →
    s.mode ≠ 3 →
    ∃ t, exec .beatLost s = .next t ∧ t.get RED_TWIN_STAT_PARTNER_BEAT = 0 ∧ t.get RED_EVT_BEAT_LOST = 1 ∧ s.sent t 0x0E 0x42 0 ∧
      s.only [RED_TWIN_STAT, RED_EVT] [.fltQ] t) ∧
  (∀ (s : State), s.inReset 0x0E = false → s.get RED_TWIN_STAT_STATE = 0 → s.on RED_TWIN_STAT_ANCHOR_IN = true →
    s.on RED_TWIN_STAT_PARTNER_BEAT = false → s.roomy →
    ∃ t, exec .twinStuck s = .next t ∧ t.get RED_EVT_TWIN_STUCK = 1 ∧ s.sent t 0x0E 0x43 0 ∧ s.only [RED_EVT] [.fltQ] t) ∧
  (∀ (s : State), s.inReset 0x0E = false → s.on RED_TWIN_LEFT_RUNNING = true → s.holdoffOn = true →
    ∃ t, exec .revertHoldoffExpiry s = .next t ∧ t.get RED_TWIN_LEFT_RUNNING = 0 ∧ t.get RED_TWIN_LEFT_SECONDS = 0 ∧
      t.get RED_TWIN_LEFT_DUE = (if s.on RED_TWIN_CTL_DEFER_PROOF then 1 else s.get RED_TWIN_LEFT_DUE) ∧
      t.red = { s.red with revertReq := !s.on RED_TWIN_CTL_DEFER_PROOF || s.red.revertReq } ∧ s.only [RED_TWIN_LEFT] [.red] t) ∧
  (∀ (s : State), s.inReset 0x0E = false → ∃ t, exec .revertRequestEnd s = .next t ∧ t.red = { s.red with revertReq := false } ∧
    s.only [] [.red] t) ∧
  (∀ (s : State), s.inReset 0x0E = false → ∃ t, exec .overlapEnd s = .next t ∧ t.red = { s.red with overlap := false } ∧ s.only [] [.red] t)

/-- R264, while TIME is not held in reset (R90). -/
def Obligations.SpindleReads : Prop :=
  (∀ (who : Who) (s : State), s.inReset 0x0F = false →
    ∃ t, exec (.spindleRead who 0) s = .next t ∧ t.resp = some ⟨whoKey who, 0, s.now⟩ ∧ s.only [] [.resp] t) ∧
  (∀ (who : Who) (s : State), s.inReset 0x0F = false →
    ∃ t, exec (.spindleRead who 1) s = .next t ∧ t.resp = some ⟨whoKey who, 0, s.now % 2 ^ 32⟩ ∧
      (∀ k, Tab.get (fun _ => none) t.time.latch k =
        if k = whoKey who then some (BitVec.ofNat 32 (s.now / 2 ^ 32)) else Tab.get (fun _ => none) s.time.latch k) ∧
      t.time = { s.time with latch := t.time.latch } ∧ s.only [] [.resp, .time] t) ∧
  (∀ (who : Who) (w : Word) (s : State), s.inReset 0x0F = false → Tab.get (fun _ => none) s.time.latch (whoKey who) = some w →
    ∃ t, exec (.spindleRead who 2) s = .next t ∧ t.resp = some ⟨whoKey who, 0, w.toNat⟩ ∧
      (∀ k, Tab.get (fun _ => none) t.time.latch k = if k = whoKey who then none else Tab.get (fun _ => none) s.time.latch k) ∧
      t.time = { s.time with latch := t.time.latch } ∧ s.only [] [.resp, .time] t) ∧
  (∀ (who : Who) (s : State), s.inReset 0x0F = false → Tab.get (fun _ => none) s.time.latch (whoKey who) = none → s.now < 2 ^ 64 →
    ∃ t, exec (.spindleRead who 2) s = .next t ∧ t.resp = some ⟨whoKey who, 0, s.now / 2 ^ 32⟩ ∧ s.only [] [.resp] t)

/-- R266, R267, R269, R272 to R275. -/
def Obligations.PtpMessages : Prop :=
  (∀ (port : Fin 3) (s : State), s.inReset 0x0F = false → s.get TIME_STAT_STATE = 4 → s.ptpRuns port.val = true → s.listed = true → s.open_ 0x0D = true →
    s.fwd.locWait = [] → s.dirState port.val = 0 ∨ port.val = 2 → s.blocked port.val = false → s.chip < 3 → s.gh320 = false →
    s.occ port.val 4 + 5 ≤ s.limit port.val 4 →
    ∃ t, exec (.syncTx port) s = .next t ∧
      (t.queue port.val 4).map (·.f.payload) = (s.queue port.val 4).map (·.f.payload) ++
        [byteWords (s.ptpMessage 0 1 (s.takeSeq port.val).2 (wrapInt 8 (-(s.get TIME_CTL_SYNC_LOG))) 0 [])] ∧
      t.time = (s.takeSeq port.val).1.time ∧ s.only [] [.live, .fwd, .time, .store] t) ∧
  (∀ (port : Fin 3) (s : State), s.get TIME_STAT_STATE ≠ 4 → ∃ t, exec (.syncTx port) s = .next t ∧ s.only [] [] t) ∧
  (∀ (port : Fin 4) (f : Frame) (age : BitVec 32) (s : State), s.inReset 0x0F = false → s.on (TIME_PORT_CTL_PTP_EN port.val) = true → s.get (LANE_STAT_VER port.val) = 2 →
    s.on (LANE_STAT_HOSTMODE port.val) = false → ptpType f = 0 → s.getBit TIME_STAT_PD_VALID port.val = false →
    ∃ t, exec (.syncRx port f age) s = .next t ∧ s.advanced t (TIME_CNT 2) 1 ∧ s.only [] [.live] t) ∧
  (∀ (f : Frame) (age : BitVec 32) (s : State), s.inReset 0x0F = false → s.on (TIME_PORT_CTL_PTP_EN 3) = true → s.get (LANE_STAT_VER 3) = 2 →
    s.on (LANE_STAT_HOSTMODE 3) = false → ptpType f = 0 → s.getBit TIME_STAT_PD_VALID 3 = true → s.ptpRuns 2 = false →
    ptpDomain f = s.domain → s.syncCounts f = false →
    ∃ t, exec (.syncRx 3 f age) s = .next t ∧ t.get TIME_EVT_GM_OTHER = 1 ∧ s.only [TIME_EVT] [] t) ∧
  (∀ (f : Frame) (age : BitVec 32) (s : State), s.inReset 0x0F = false → s.on (TIME_PORT_CTL_PTP_EN 0) = true → s.get (LANE_STAT_VER 0) = 2 →
    s.on (LANE_STAT_HOSTMODE 0) = false → ptpType f = 0 → s.getBit TIME_STAT_PD_VALID 0 = true → s.ptpRuns 1 = true → s.ptpRuns 2 = false →
    ptpDomain f ≠ s.domain → frClass f = 4 → frVc f = 0 → frKind f = 4 → frDst f = 0xFF → frDup f = 0 → s.dirState 1 = 0 → s.blocked 1 = false →
    s.occ 1 4 + frCells f ≤ s.limit 1 4 →
    ∃ t, exec (.syncRx 0 f age) s = .next t ∧
      (t.queue 1 4).map (·.f.payload) = (s.queue 1 4).map (·.f.payload) ++ [(ptpPutCorr f (ptpCorr f + s.ingressDelay 0)).payload] ∧
      s.advanced t (TIME_CNT 1) 1 ∧ s.only [] [.live, .fwd, .store] t) ∧
  (∀ (f : Frame) (age : BitVec 32) (ofs : Int) (s : State), s.inReset 0x0F = false → s.master = false → s.on (TIME_PORT_CTL_PTP_EN 3) = true → s.get (LANE_STAT_VER 3) = 2 →
    s.on (LANE_STAT_HOSTMODE 3) = false → ptpType f = 0 → s.getBit TIME_STAT_PD_VALID 3 = true → s.ptpRuns 2 = false →
    ptpDomain f = s.domain → s.syncCounts f = true →
    ofs = s.rxStamp 3 age.toNat - (ptpTime f + ptpCorr (ptpPutCorr f (ptpCorr f + s.ingressDelay 3))) →
    s.stepTh * 262144 < ofs.natAbs → s.get TIME_STAT_STATE = 0 →
    ∃ t, exec (.syncRx 3 f age) s = .next t ∧ t.get TIME_STAT_STATE = 1 ∧ t.get TIME_STAT_SLAVE = 3 ∧
      t.rd TIME_OFFSET = BitVec.ofInt 32 (satInt 32 (roundDivI ofs 4096)) ∧ t.time.due = some (roundDivI (-ofs) 262144) ∧
      s.advanced t (TIME_CNT 0) 1 ∧ s.only [TIME_STAT, TIME_OFFSET] [.live, .time] t) ∧
  (∀ (f : Frame) (age : BitVec 32) (ofs : Int) (s : State), s.inReset 0x0F = false → s.master = false → s.on (TIME_PORT_CTL_PTP_EN 3) = true → s.get (LANE_STAT_VER 3) = 2 →
    s.on (LANE_STAT_HOSTMODE 3) = false → ptpType f = 0 → s.getBit TIME_STAT_PD_VALID 3 = true → s.ptpRuns 2 = false →
    ptpDomain f = s.domain → s.syncCounts f = true →
    ofs = s.rxStamp 3 age.toNat - (ptpTime f + ptpCorr (ptpPutCorr f (ptpCorr f + s.ingressDelay 3))) →
    ofs.natAbs ≤ s.stepTh * 262144 → ofs.natAbs ≤ 6553600 → s.get TIME_STAT_STATE = 1 → s.time.near = 15 →
    ∃ t, exec (.syncRx 3 f age) s = .next t ∧ t.get TIME_STAT_STATE = 2 ∧ t.get TIME_EVT_LOCK = 1 ∧
      t.rd TIME_RATE = Config.trim s.time.draws ∧ s.only [TIME_STAT, TIME_OFFSET, TIME_RATE, TIME_EVT] [.live, .time] t) ∧
  (∀ (port : Fin 4) (s : State), s.inReset 0x0F = false → s.ptpRuns port.val = true → s.listed = true → s.open_ 0x0D = true →
    s.fwd.locWait = [] → s.dirState port.val = 0 ∨ 2 ≤ port.val → s.blocked port.val = false → s.gh320 = false →
    s.occ port.val 4 + 6 ≤ s.limit port.val 4 →
    ∃ t, exec (.pdelayReqTx port) s = .next t ∧
      (t.queue port.val 4).map (·.f.payload) = (s.queue port.val 4).map (·.f.payload) ++
        [byteWords (s.ptpMessage 2 (port.val + 1) (s.takeSeq (16 + port.val)).2 0x7F 0 (beBytes 10 0))] ∧
      Tab.get (fun _ => none) t.time.pdOpen port.val = some ((s.takeSeq (16 + port.val)).2, s.now * 262144) ∧
      s.only [] [.live, .fwd, .time, .store] t) ∧
  (∀ (port : Fin 4) (f : Frame) (age : BitVec 32) (s : State), s.inReset 0x0F = false → ptpType f = 2 → ptpDomain f = s.domain →
    s.ptpRuns port.val = true → s.listed = true → s.open_ 0x0D = true →
    s.fwd.locWait = [] → s.dirState port.val = 0 ∨ 2 ≤ port.val → s.blocked port.val = false → s.gh320 = false →
    s.occ port.val 4 + 6 ≤ s.limit port.val 4 →
    ∃ t, exec (.pdelayReqRx port f age) s = .next t ∧
      (t.queue port.val 4).map (·.f.payload) = (s.queue port.val 4).map (·.f.payload) ++
        [byteWords (s.ptpMessage 3 (port.val + 1) (ptpSeqId f) 0x7F (-s.rxStamp port.val age.toNat)
          (beBytes 8 (ptpSrc f).1 ++ beBytes 2 (ptpSrc f).2))] ∧ s.only [] [.live, .fwd, .store] t) ∧
  (∀ (port : Fin 4) (f : Frame) (age : BitVec 32) (t1 : Nat) (trip d : Int) (s : State), s.inReset 0x0F = false → ptpType f = 3 →
    ptpDomain f = s.domain → s.on (TIME_PORT_CTL_PTP_EN port.val) = true → s.get (LANE_STAT_VER port.val) = 2 → s.on (LANE_STAT_HOSTMODE port.val) = false →
    Tab.get (fun _ => none) s.time.pdOpen port.val = some (ptpSeqId f, t1) → payBE f 44 8 = s.clockId → payBE f 52 2 = port.val + 1 →
    trip = s.rxStamp port.val age.toNat - t1 → trip ≤ 10000000 * 65536 → ptpCorr f ≤ 1000000 * 65536 →
    d = roundDivI (trip - ptpCorr f) 2 → 0 ≤ d → d ≤ 10000 * 65536 → Tab.get (fun _ => []) s.time.delays port.val = [] →
    Tab.get (fun _ => 0) s.time.pdOk port.val = 2 →
    ∃ t, exec (.pdelayRespRx port f age) s = .next t ∧ t.get (TIME_PORT_DLY_DLY port.val) = (roundDivI d 64).toNat ∧
      t.getBit TIME_STAT_PD_VALID port.val = true ∧ t.get (TIME_PORT_STAT_PD_VALID port.val) = 1 ∧
      t.get (TIME_PORT_STAT_FAILS port.val) = 0 ∧ s.advanced t (TIME_CNT 3) 1 ∧
      Tab.get (fun _ => none) t.time.pdOpen port.val = none ∧
      s.only [TIME_STAT, TIME_PORT_STAT port.val, TIME_PORT_DLY port.val] [.live, .time] t) ∧
  (∀ (port : Fin 4) (s : State), s.inReset 0x0F = false → (Tab.get (fun _ => none) s.time.pdOpen port.val).isSome = true →
    s.get (TIME_PORT_STAT_FAILS port.val) = 2 → s.roomy →
    ∃ t, exec (.pdelayTimeout port) s = .next t ∧ Tab.get (fun _ => none) t.time.pdOpen port.val = none ∧
      t.get (TIME_PORT_STAT_FAILS port.val) = 3 ∧ t.getBit TIME_STAT_PD_VALID port.val = false ∧ t.get TIME_EVT_PD_FAIL = 1 ∧
      s.advanced t (TIME_CNT 4) 1 ∧ s.sent t 0x0F 0x44 port.val ∧
      s.only [TIME_STAT, TIME_PORT_STAT port.val, TIME_EVT] [.live, .time, .fltQ] t) ∧
  (∀ (port : Fin 4) (s : State), s.inReset 0x0F = false → (Tab.get (fun _ => none) s.time.pdOpen port.val).isSome = true →
    s.get (TIME_PORT_STAT_FAILS port.val) ≠ 2 →
    ∃ t, exec (.pdelayTimeout port) s = .next t ∧ Tab.get (fun _ => none) t.time.pdOpen port.val = none ∧
      Tab.get (fun _ => 0) t.time.pdOk port.val = 0 ∧ s.advanced t (TIME_CNT 4) 1 ∧
      t.get TIME_STAT_PD_VALID = s.get TIME_STAT_PD_VALID ∧ s.parts [.regs, .live, .time, .fltQ] t) ∧
  (∀ (port : Fin 4) (f : Frame) (age : BitVec 32) (s : State), s.inReset 0x0F = false → s.on (TIME_PORT_CTL_PTP_EN port.val) = true → s.get (LANE_STAT_VER port.val) = 2 →
    s.on (LANE_STAT_HOSTMODE port.val) = false → ptpType f ∉ [0, 2, 3, 0xB, 0xC, 0xD] →
    ∃ t, exec (.ptpMessageRx port f age) s = .next t ∧ s.advanced t (TIME_CNT 7) 1 ∧ s.only [] [.live] t) ∧
  (∀ (f : Frame) (age : BitVec 32) (s : State), s.inReset 0x0F = false → s.on (TIME_PORT_CTL_PTP_EN 0) = true → s.get (LANE_STAT_VER 0) = 2 →
    s.on (LANE_STAT_HOSTMODE 0) = false → ptpType f ∈ [0xB, 0xC, 0xD] → s.ptpRuns 1 = true → s.ptpRuns 2 = false →
    ptpDomain f ≠ s.domain → frClass f = 4 → frVc f = 0 → frKind f = 4 → frDst f = 0xFF → frDup f = 0 → s.dirState 1 = 0 → s.blocked 1 = false →
    s.occ 1 4 + frCells f ≤ s.limit 1 4 →
    ∃ t, exec (.ptpMessageRx 0 f age) s = .next t ∧
      (t.queue 1 4).map (·.f.payload) = (s.queue 1 4).map (·.f.payload) ++ [f.payload] ∧ s.only [] [.live, .fwd, .store] t)

/-- R196, R263, R273 to R275, R277 to R282. -/
def Obligations.RingTimeServices : Prop :=
  (∀ (port : Fin 4) (s : State), s.inReset 0x0F = false → s.time.fresh = 2 ^ port.val → s.get TIME_STAT_STATE = 1 ∨ s.get TIME_STAT_STATE = 2 →
    s.now < 2 ^ 64 → s.roomy →
    ∃ t, exec (.syncLoss port) s = .next t ∧ t.get TIME_STAT_STATE = 3 ∧ t.time.fresh = 0 ∧ t.rd64 TIME_HOLD_T = s.now ∧
      t.get TIME_EVT_HOLDOVER = 1 ∧ s.advanced t (TIME_CNT 6) 1 ∧ s.sent t 0x0F 0x45 0 ∧
      s.only [TIME_STAT, TIME_HOLD_T, TIME_HOLD_T + 4, TIME_RATE, TIME_EVT] [.live, .time, .fltQ] t) ∧
  (∀ (s : State), s.inReset 0x0F = false → s.master = true → s.time.fresh = 3 →
    ∃ t, exec (.syncLoss 0) s = .next t ∧ t.get TIME_STAT_SLAVE = 1 ∧ t.time.fresh = 2 ∧
      t.get TIME_STAT_STATE = s.get TIME_STAT_STATE ∧ s.only [TIME_STAT] [.time] t) ∧
  (∀ (v : DWord) (s : State), s.inReset 0x0F = false →
    ∃ t, exec (.timeSet v) s = .next t ∧ t.time = { s.time with setTo := some v.toNat, addBy := none } ∧ t.rd64 TIME_SET = v.toNat ∧
      s.only [TIME_SET, TIME_SET + 4] [.time] t) ∧
  (∀ (w : Word) (s : State), s.inReset 0x0F = false → s.time.setTo = none →
    ∃ t, exec (.timeAdj w) s = .next t ∧ t.time = { s.time with addBy := some (s.time.addBy.getD 0 + w.toInt) } ∧ s.only [] [.time] t) ∧
  (∀ (w : Word) (v : Nat) (s : State), s.inReset 0x0F = false → s.time.setTo = some v →
    ∃ t, exec (.timeAdj w) s = .next t ∧ t.time = { s.time with setTo := some (wrapInt 64 (v + w.toInt)) } ∧ s.only [] [.time] t) ∧
  (∀ (v : Nat) (s : State), s.dark = false → s.time.setTo = some v → v < 2 ^ 64 → s.now % 31250 = 0 → s.time.stepAt = none → s.roomy →
    ∃ t, exec .timeStep s = .next t ∧ t.now = v ∧ t.stepPending = false ∧ t.time.noWin = true ∧ t.get TIME_EVT_STEP = 1 ∧
      s.advanced t (TIME_CNT 5) 1 ∧ s.sent t 0x0F 0x46 (wrapInt 48 (satInt 48 ((v : Int) - s.now))) ∧
      s.only [TIME_SPINDLE, TIME_SPINDLE + 4, TIME_EVT] [.live, .time, .lsv, .fltQ] t) ∧
  (∀ (a : Int) (s : State), s.dark = false → s.time.setTo = none → s.time.addBy = some a → s.now % 31250 = 0 → s.time.stepAt = none → s.roomy →
    0 ≤ s.now + a → s.now + a < 2 ^ 64 →
    ∃ t, exec .timeStep s = .next t ∧ (t.now : Int) = s.now + a ∧ t.stepPending = false ∧ t.get TIME_EVT_STEP = 1 ∧
      s.sent t 0x0F 0x46 (wrapInt 48 (satInt 48 a)) ∧
      s.only [TIME_SPINDLE, TIME_SPINDLE + 4, TIME_EVT] [.live, .time, .lsv, .fltQ] t) ∧
  (∀ (s : State), s.stepPending = false → ∃ t, exec .timeStep s = .next t ∧ s.only [] [] t) ∧
  (∀ (s : State), s.dark = false → s.stepPending = false → s.time.cycAt = none → s.now % 31250 ≠ 0 → s.now < 2 ^ 63 → s.fwd.locWait = [] →
    (∀ q, q < 64 → s.on (SQ_CFG_EN q) = false) →
    ∃ t, exec .cycleBoundary s = .next t ∧ t.now = (s.now / 31250 + 1) * 31250 ∧ t.rd64 RPE_CYCLE = s.now / 31250 + 1 ∧
      t.rpe = { s.rpe with floor := s.get RPE_RING_FLOOR } ∧ t.sys.t = s.sys.t + (31250 - s.now % 31250) ∧
      (∀ c, c < 8 → Tab.get (fun _ => 0) t.red.twinSeq c = (s.now / 31250 + 1) % 8192 * 8) ∧
      s.only [TIME_SPINDLE, TIME_SPINDLE + 4, RPE_CYCLE, RPE_CYCLE + 4] [.fwd, .rpe, .red, .time, .sys] t) ∧
  (∀ (s : State), s.inReset 0x0F = false → s.on TIME_CTL_SYNTON = true → s.get TIME_STAT_STATE = 2 → s.refGood (s.get TIME_STAT_SLAVE) = true →
    s.get TIME_STAT_REF ≠ refCode (s.get TIME_STAT_SLAVE) →
    ∃ t, exec .refSwitch s = .next t ∧ t.get TIME_STAT_REF = refCode (s.get TIME_STAT_SLAVE) ∧ t.get TIME_EVT_REF_SWITCH = 1 ∧
      t.sys = { s.sys with rc100 := true } ∧ s.only [TIME_STAT, TIME_EVT] [.sys] t) ∧
  (∀ (r : Nat) (s : State), s.inReset 0x0F = false → s.get TIME_STAT_REF = r → r ≠ 0 → s.get TIME_STAT_SLAVE ≠ (if r = 3 then 3 else r - 1) →
    ∃ t, exec .refRevert s = .next t ∧ t.get TIME_STAT_REF = 0 ∧ t.get TIME_EVT_REF_SWITCH = 1 ∧
      t.sys = { s.sys with rc100 := true } ∧ s.only [TIME_STAT, TIME_EVT] [.sys] t) ∧
  (∀ (s : State), s.ppsDriven = true →
    ∃ t, exec .ppsOutRise s = .next t ∧ t.time = { s.time with ppsOut := true } ∧ t.ppsOutBall = true ∧ s.only [] [.time] t) ∧
  (∀ (s : State), s.on TIME_PPS_CTL_OUT_EN = false →
    ∃ t, exec .ppsOutRise s = .next t ∧ t.ppsOutBall = false ∧ s.only [] [] t) ∧
  (∀ (s : State), s.inReset 0x0F = false →
    ∃ t, exec .ppsOutFall s = .next t ∧ t.time = { s.time with ppsOut := false } ∧ t.ppsOutBall = false ∧ s.only [] [.time] t) ∧
  (∀ (frac : BitVec 6) (s : State), s.inReset 0x0F = false → s.get TIME_STAT_STATE ≠ 4 ∨ s.on TIME_CTL_PPS_DISC = false → s.now < 2 ^ 64 →
    ∃ t, exec (.ppsInEdge frac) s = .next t ∧ t.rd64 TIME_PPS_CAP = s.now ∧ t.get TIME_PPS_CAPF_FRAC = frac.toNat ∧ t.get TIME_EVT_PPS_IN = 1 ∧
      t.get TIME_STAT_PPS_LOST = 0 ∧ s.only [TIME_PPS_CAP, TIME_PPS_CAP + 4, TIME_PPS_CAPF, TIME_EVT, TIME_STAT] [] t) ∧
  (∀ (frac : BitVec 6) (s : State), s.inReset 0x0F = false → s.get TIME_STAT_STATE = 4 → s.on TIME_CTL_PPS_DISC = true → s.time.ppsSeen = false →
    ∃ t, exec (.ppsInEdge frac) s = .next t ∧ t.time = { s.time with ppsSeen := true, due := some (-s.ppsErr) } ∧ t.get TIME_EVT_PPS_IN = 1 ∧
      s.only [TIME_PPS_CAP, TIME_PPS_CAP + 4, TIME_PPS_CAPF, TIME_EVT, TIME_STAT] [.time] t) ∧
  (∀ (s : State), s.inReset 0x0F = false → s.get TIME_STAT_STATE = 4 → s.on TIME_CTL_PPS_DISC = true →
    ∃ t, exec .ppsLost s = .next t ∧ t.get TIME_STAT_PPS_LOST = 1 ∧ t.get TIME_EVT_PPS_LOST = 1 ∧ s.only [TIME_STAT, TIME_EVT, TIME_RATE] [.time] t) ∧
  (∀ (pin : Fin 4) (s : State), s.inReset 0x0F = false →
    ∃ t, exec (.feCalibrate pin true) s = .next t ∧ t.getBit TIME_FE_STAT_CAL_OK pin.val = true ∧ s.only [TIME_FE_STAT] [] t) ∧
  (∀ (pin : Fin 4) (s : State), s.inReset 0x0F = false →
    ∃ t, exec (.feCalibrate pin false) s = .next t ∧ t.getBit TIME_FE_STAT_CAL_OK pin.val = false ∧ t.get TIME_EVT_FE_CAL = 1 ∧
      s.only [TIME_FE_STAT, TIME_EVT] [] t) ∧
  (∀ (n : Fin 4) (s : State), s.inReset 0x0F = false → s.on (TIME_MCG_CTL_EN n.val) = true →
    ∃ t, exec (.mcgEdge n false) s = .next t ∧ t.gg.mcgTick.testBit n.val = true ∧ t.time.mcgLvl.testBit n.val = true ∧ s.only [] [.gg, .time] t) ∧
  (∀ (n : Fin 4) (s : State), s.inReset 0x0F = false → s.on (TIME_MCG_CTL_EN n.val) = true →
    ∃ t, exec (.mcgEdge n true) s = .next t ∧ t.gg.mcgTick = s.gg.mcgTick ∧ t.time.mcgLvl.testBit n.val = false ∧ s.only [] [.gg, .time] t) ∧
  (∀ (n : Fin 4) (fall : Bool) (s : State), s.on (TIME_MCG_CTL_EN n.val) = false → ∃ t, exec (.mcgEdge n fall) s = .next t ∧ s.only [] [] t)

/-- R308, for a word without a gate. TARGET is bits [5:0], IDX bits [16:13], COND bits [20:17]. -/
def Obligations.JumpConditions : Prop :=
  (∀ (n : Fin 16) (seen : DWord) (w : Word) (s : State), s.fetches n.val w 1 → bits w.toNat 26 2 = 0 →
    ∃ t, exec (.jmp n seen) s = .next t ∧
      s.executed t n.val (if (match bits w.toNat 17 4 with
          | 0 => true
          | 1 => s.get (GG_X_VALUE n.val 0) == 0
          | 2 => decide (2 ≤ s.get (GG_X_VALUE n.val 0))
          | 3 => s.get (GG_X_VALUE n.val 1) == 0
          | 4 => decide (2 ≤ s.get (GG_X_VALUE n.val 1))
          | 5 => s.slotRead n.val (bits w.toNat 13 4) seen
          | 6 => !s.slotRead n.val (bits w.toNat 13 4) seen
          | 7 => s.get (GG_SCF_EQ n.val) == 1
          | 8 => s.get (GG_SCF_EQ n.val) == 0
          | 9 => s.get (GG_SCF_LT n.val) == 1
          | 10 => s.get (GG_SCF_Z n.val) == 1
          | 11 => decide ((s.eng n.val).tx.length = 0)
          | 12 => decide (0 < (s.eng n.val).tx.length)
          | 13 => decide ((s.fifoCaps n.val).2 ≤ (s.eng n.val).rx.length)
          | 14 => decide (s.scLim n.val ≤ s.get (GG_SCF_SC n.val))
          | _ => s.gg.efBase.testBit (bits w.toNat 13 4)) then bits w.toNat 0 6
        else if bit w.toNat 22 then s.get (GG_EXEC_LOOP_PC n.val) else s.pcNext n.val) ∧
      t.get (GG_X_VALUE n.val 0) = (if bits w.toNat 17 4 = 2 then s.get (GG_X_VALUE n.val 0) - 1 else s.get (GG_X_VALUE n.val 0)) ∧
      t.get (GG_X_VALUE n.val 1) = (if bits w.toNat 17 4 = 4 then s.get (GG_X_VALUE n.val 1) - 1 else s.get (GG_X_VALUE n.val 1)) ∧
      s.only [GG_STAT n.val, GG_X n.val 0, GG_X n.val 1] [.gg] t) ∧
  (∀ (n : Fin 16) (seen : DWord) (w : Word) (s : State), s.engLive n.val = true → (s.eng n.val).fetched = some w → bits w.toNat 28 4 = 1 →
    bits w.toNat 17 4 ∉ [5, 6, 15] ∧ bits w.toNat 13 4 ≠ 0 ∨ bits w.toNat 17 4 ∈ [5, 6] ∧ 7 < bits w.toNat 13 4 →
    ∃ t, exec (.jmp n seen) s = .next t ∧ t.get (GG_STAT_STATE n.val) = 2 ∧ t.get (GG_STAT_CAUSE n.val) = 6 ∧
      t.get (GG_STAT_PC n.val) = s.get (GG_STAT_PC n.val) ∧ t.mem = s.mem)

/-- R302, R305 to R307, R309 to R323, for words without gate, marker pattern and loop. -/
def Obligations.EngineInstructions : Prop :=
  (∀ (n : Fin 16) (w : Word) (s : State), s.fetches n.val w 0 → plainWord w →
    ∃ t, exec (.nop n) s = .next t ∧ s.executed t n.val (s.pcNext n.val) ∧ s.only [GG_STAT n.val] [.gg] t) ∧
  (∀ (n : Fin 16) (seen : DWord) (w : Word) (s : State), s.fetches n.val w 2 → plainWord w → bit w.toNat 9 = false →
    (match bits w.toNat 16 4 with
      | 0 => s.slotRead n.val (bits w.toNat 10 6) seen == bit w.toNat 20
      | 1 => seen.toNat.testBit (bits w.toNat 10 6) == bit w.toNat 20
      | 2 => s.gg.mcgTick.testBit (bits w.toNat 10 6)
      | 3 => s.gg.efBase.testBit (bits w.toNat 10 6) == bit w.toNat 20
      | 4 => (s.pinsIn n.val 8 seen == s.get (GG_CMP_VALUE n.val) % 2 ^ min 8 (s.get (GG_MAP_IN_N n.val))) == bit w.toNat 20
      | 5 => decide (bits w.toNat 10 6 < (s.eng n.val).tx.length)
      | 6 => decide (bits w.toNat 10 6 + (s.eng n.val).rx.length < (s.fifoCaps n.val).2)
      | _ => (s.eng n.val).tick) = true → 2 ≤ s.now → s.now < 2 ^ 64 →
    ∃ t, exec (.wait n seen) s = .next t ∧ s.executed t n.val (s.pcNext n.val) ∧
      t.rd64 (GG_TCAP n.val) = (if bits w.toNat 16 4 ∈ [0, 1, 4] then s.now - 2 else s.now) ∧
      s.only [GG_STAT n.val, GG_TCAP n.val, GG_TCAP n.val + 4] [.gg] t) ∧
  (∀ (n : Fin 16) (seen : DWord) (w : Word) (s : State), s.fetches n.val w 2 → plainWord w →
    (match bits w.toNat 16 4 with
      | 0 => s.slotRead n.val (bits w.toNat 10 6) seen == bit w.toNat 20
      | 1 => seen.toNat.testBit (bits w.toNat 10 6) == bit w.toNat 20
      | 2 => s.gg.mcgTick.testBit (bits w.toNat 10 6)
      | 3 => s.gg.efBase.testBit (bits w.toNat 10 6) == bit w.toNat 20
      | 4 => (s.pinsIn n.val 8 seen == s.get (GG_CMP_VALUE n.val) % 2 ^ min 8 (s.get (GG_MAP_IN_N n.val))) == bit w.toNat 20
      | 5 => decide (bits w.toNat 10 6 < (s.eng n.val).tx.length)
      | 6 => decide (bits w.toNat 10 6 + (s.eng n.val).rx.length < (s.fifoCaps n.val).2)
      | _ => (s.eng n.val).tick) = false →
    ∃ t, exec (.wait n seen) s = .next t ∧
      s.stalled t n.val (if bits w.toNat 16 4 = 5 then 3 else if bits w.toNat 16 4 = 6 then 4 else 5)) ∧
  (∀ (n : Fin 16) (seen : DWord) (w : Word) (i : Nat) (s : State), s.fetches n.val w 2 → plainWord w → bits w.toNat 16 4 = 3 → bit w.toNat 9 = true →
    bits w.toNat 10 6 = i → s.gg.efBase.testBit i = true → s.now < 2 ^ 64 → s.gg.efSet.testBit i = false →
    ∃ t, exec (.wait n seen) s = .next t ∧ s.executed t n.val (s.pcNext n.val) ∧ t.rd64 (GG_TCAP n.val) = s.now ∧
      t.getBit GG_EF_EF i = false ∧ s.only [GG_STAT n.val, GG_TCAP n.val, GG_TCAP n.val + 4, GG_EF] [.gg] t) ∧
  (∀ (n : Fin 16) (seen : DWord) (w : Word) (k sr base out into m : Nat) (s : State), s.fetches n.val w 3 → plainWord w →
    bits w.toNat 14 5 + 1 = k → bits w.toNat 19 2 = m → s.get (GG_SR_VALUE n.val) = sr →
    out = (if s.on (GG_MAP_DIR n.val) then sr % 2 ^ k else sr / 2 ^ (32 - k)) →
    base = (if s.on (GG_MAP_DIR n.val) then sr / 2 ^ k else sr * 2 ^ k % 2 ^ 32) →
    into = (if s.on (GG_MAP_DIR n.val) then s.pinsIn n.val k seen * 2 ^ (32 - k) % 2 ^ 32 else s.pinsIn n.val k seen) →
    ∃ t, exec (.shift n seen) s = .next t ∧ s.executed t n.val (s.pcNext n.val) ∧
      t.get (GG_SR_VALUE n.val) = (if m = 0 then base else base ||| into) ∧
      t.get (GG_SCF_SC n.val) = min 32 (s.get (GG_SCF_SC n.val) + k) ∧
      (m = 1 → (t.eng n.val).lvl = (s.eng n.val).lvl) ∧
      (∀ i, i < 8 → m ≠ 1 → i < k → i < s.get (GG_MAP_OUT_N n.val) →
        (t.eng n.val).lvl.testBit ((s.get (GG_MAP_OUT_BASE n.val) + i) % 8) = out.testBit i) ∧
      s.only [GG_STAT n.val, GG_SR n.val, GG_SCF n.val] [.gg] t) ∧
  (∀ (n : Fin 16) (w : Word) (v : Word) (r : List Word) (d x : Nat) (s : State), s.fetches n.val w 4 → plainWord w → bits w.toNat 18 3 = d → d ≠ 7 →
    (s.eng n.val).tx = v :: r → bit w.toNat 16 = false ∨ s.chanOf n.val = none → v.toNat = x →
    ∃ t, exec (.pull n) s = .next t ∧ s.executed t n.val (s.pcNext n.val) ∧ (t.eng n.val).tx = r ∧
      (d = 0 → t.get (GG_SR_VALUE n.val) = x ∧ t.get (GG_SCF_SC n.val) = 0) ∧
      (∀ i, i < 4 → d = 1 + i → t.get (GG_X_VALUE n.val i) = x) ∧
      (d = 5 → t.get (GG_CMP_VALUE n.val) = x) ∧ (d = 6 → t.get (GG_TSTEP_VALUE n.val) = x) ∧
      s.only [GG_STAT n.val, GG_SR n.val, GG_SCF n.val, GG_X n.val 0, GG_X n.val 1, GG_X n.val 2, GG_X n.val 3, GG_CMP n.val, GG_TSTEP n.val] [.gg] t) ∧
  (∀ (n : Fin 16) (w a b : Word) (r : List Word) (s : State), s.fetches n.val w 4 → plainWord w → bits w.toNat 18 3 = 7 → (s.eng n.val).tx = a :: b :: r →
    ∃ t, exec (.pull n) s = .next t ∧ s.executed t n.val (s.pcNext n.val) ∧ (t.eng n.val).tx = r ∧ t.rd (GG_TB n.val) = a ∧ t.rd (GG_TB n.val + 4) = b ∧
      s.only [GG_STAT n.val, GG_TB n.val, GG_TB n.val + 4] [.gg] t) ∧
  (∀ (n : Fin 16) (w v : Word) (r : List Word) (c : Fin 8) (a z : Int) (s : State), s.fetches n.val w 4 → plainWord w → bits w.toNat 18 3 = 0 →
    bit w.toNat 16 = true → (s.eng n.val).tx = v :: r → s.chanOf n.val = some c.val →
    a = (s.pilotTake n.val).1 → z = min (2 ^ 31 - 1) (max (-2 ^ 31) (sext 32 v.toNat + 256 * a)) →
    ∃ t, exec (.pull n) s = .next t ∧ s.executed t n.val (s.pcNext n.val) ∧ (t.eng n.val).tx = r ∧ t.get (GG_SR_VALUE n.val) = (z % 2 ^ 32).toNat ∧
      t.get (GG_SCF_SC n.val) = 0 ∧ (t.lsCh c.val).taken = (s.lsCh c.val).taken + 1 ∧ ((s.lsCh c.val).pilot.on = false → a = 0) ∧
      s.only [GG_STAT n.val, GG_SR n.val, GG_SCF n.val] [.gg, .lsv] t) ∧
  (∀ (n : Fin 16) (w : Word) (s : State), s.fetches n.val w 4 → plainWord w → bit w.toNat 17 = false →
    (s.eng n.val).tx.length < (if bits w.toNat 18 3 = 7 then 2 else 1) →
    ∃ t, exec (.pull n) s = .next t ∧ s.stalled t n.val 3) ∧
  (∀ (n : Fin 16) (w : Word) (d : Nat) (s : State), s.fetches n.val w 4 → plainWord w → bits w.toNat 18 3 = d → d ≠ 7 → bit w.toNat 17 = true →
    bit w.toNat 16 = false ∨ s.chanOf n.val = none → (s.eng n.val).tx = [] →
    ∃ t, exec (.pull n) s = .next t ∧ s.executed t n.val (s.pcNext n.val) ∧ (t.eng n.val).tx = [] ∧
      (d = 0 → t.get (GG_SR_VALUE n.val) = 0 ∧ t.get (GG_SCF_SC n.val) = 0) ∧
      (∀ i, i < 4 → d = 1 + i → t.get (GG_X_VALUE n.val i) = 0) ∧
      (d = 5 → t.get (GG_CMP_VALUE n.val) = 0) ∧ (d = 6 → t.get (GG_TSTEP_VALUE n.val) = 0) ∧
      t.get (GG_STAT_UNDERRUN n.val) = 1 ∧ s.advanced t (GG_CNT n.val 2) 1 ∧
      s.only [GG_STAT n.val, GG_SR n.val, GG_SCF n.val, GG_X n.val 0, GG_X n.val 1, GG_X n.val 2, GG_X n.val 3, GG_CMP n.val, GG_TSTEP n.val] [.gg, .live] t) ∧
  (∀ (n : Fin 16) (w : Word) (s : State), s.fetches n.val w 4 → plainWord w → bits w.toNat 18 3 = 7 → bit w.toNat 17 = true → (s.eng n.val).tx.length < 2 →
    ∃ t, exec (.pull n) s = .next t ∧ s.executed t n.val (s.pcNext n.val) ∧ (t.eng n.val).tx = (s.eng n.val).tx ∧
      t.get (GG_STAT_UNDERRUN n.val) = 1 ∧ s.advanced t (GG_CNT n.val 2) 1 ∧ s.only [GG_STAT n.val] [.gg, .live] t) ∧
  (∀ (n : Fin 16) (w : Word) (s : State), s.fetches n.val w 5 → plainWord w → (s.eng n.val).rx.length < (s.fifoCaps n.val).2 →
    ∃ t, exec (.push n) s = .next t ∧ s.executed t n.val (s.pcNext n.val) ∧
      (t.eng n.val).rx = (s.eng n.val).rx ++ [BitVec.ofNat 32 (match bits w.toNat 18 3 with
        | 0 => if bit w.toNat 16 && s.on (GG_MAP_DIR n.val) then s.get (GG_SR_VALUE n.val) / 2 ^ (32 - min 32 (s.get (GG_SCF_SC n.val)))
            else s.get (GG_SR_VALUE n.val)
        | 1 => s.get (GG_X_VALUE n.val 0)
        | 2 => s.get (GG_X_VALUE n.val 1)
        | 3 => s.get (GG_X_VALUE n.val 2)
        | 4 => s.get (GG_X_VALUE n.val 3)
        | 5 => s.get (GG_CMP_VALUE n.val)
        | 6 => (s.rd (GG_TCAP n.val)).toNat
        | _ => (s.rd (GG_TCAP n.val + 4)).toNat)] ∧
      t.get (GG_SCF_SC n.val) = (if bits w.toNat 18 3 = 0 then 0 else s.get (GG_SCF_SC n.val)) ∧ s.only [GG_STAT n.val, GG_SCF n.val] [.gg] t) ∧
  (∀ (n : Fin 16) (w : Word) (s : State), s.fetches n.val w 5 → plainWord w → bit w.toNat 17 = false →
    (s.fifoCaps n.val).2 ≤ (s.eng n.val).rx.length →
    ∃ t, exec (.push n) s = .next t ∧ s.stalled t n.val 4) ∧
  (∀ (n : Fin 16) (w : Word) (s : State), s.fetches n.val w 5 → plainWord w → bit w.toNat 17 = true →
    (s.fifoCaps n.val).2 ≤ (s.eng n.val).rx.length →
    ∃ t, exec (.push n) s = .next t ∧ s.executed t n.val (s.pcNext n.val) ∧ (t.eng n.val).rx = (s.eng n.val).rx ∧
      t.get (GG_SCF_SC n.val) = (if bits w.toNat 18 3 = 0 then 0 else s.get (GG_SCF_SC n.val)) ∧
      t.get (GG_STAT_OVERFLOW n.val) = 1 ∧ s.advanced t (GG_CNT n.val 3) 1 ∧ s.only [GG_STAT n.val, GG_SCF n.val] [.gg, .live] t) ∧
  (∀ (n : Fin 16) (seen : DWord) (w : Word) (d v r : Nat) (s : State), s.fetches n.val w 6 → plainWord w → bits w.toNat 17 4 = d → s.now < 2 ^ 63 →
    v = (match bits w.toNat 13 4 with
      | 0 => s.get (GG_SR_VALUE n.val)
      | 1 => s.get (GG_X_VALUE n.val 0)
      | 2 => s.get (GG_X_VALUE n.val 1)
      | 3 => s.get (GG_X_VALUE n.val 2)
      | 4 => s.get (GG_X_VALUE n.val 3)
      | 5 => s.get (GG_CMP_VALUE n.val)
      | 6 => s.get (GG_SCF_SC n.val)
      | 7 => s.pinsIn n.val 8 seen
      | 8 => s.get (GG_TSTEP_VALUE n.val)
      | 9 => (s.rd (GG_TB n.val)).toNat
      | 10 => (s.rd (GG_TB n.val + 4)).toNat
      | 11 => s.now % 2 ^ 32
      | 12 => s.now / 2 ^ 32
      | 15 => (s.rd (GG_TCAP n.val)).toNat
      | _ => 0) →
    r = (match bits w.toNat 11 2 with
      | 0 => v
      | 1 => 2 ^ 32 - 1 - v
      | 2 => revBits v
      | _ => revBytes v) →
    ∃ t, exec (.movReg n seen) s = .next t ∧ s.executed t n.val (s.pcNext n.val) ∧
      (d = 0 → t.get (GG_SR_VALUE n.val) = r ∧ t.get (GG_SCF_SC n.val) = 0) ∧
      (∀ i, i < 4 → d = 1 + i → t.get (GG_X_VALUE n.val i) = r) ∧
      (d = 5 → t.get (GG_CMP_VALUE n.val) = r) ∧ (d = 6 → t.get (GG_SCF_SC n.val) = min 32 r) ∧
      (∀ i, i < 8 → d = 7 → i < s.get (GG_MAP_OUT_N n.val) →
        (t.eng n.val).lvl.testBit ((s.get (GG_MAP_OUT_BASE n.val) + i) % 8) = r.testBit i) ∧
      (d = 8 → t.get (GG_TSTEP_VALUE n.val) = r) ∧ (d = 9 → (t.rd (GG_TB n.val)).toNat = r) ∧ (d = 10 → (t.rd (GG_TB n.val + 4)).toNat = r) ∧
      (d = 14 → t.rd64 (GG_TB n.val) = s.now + r) ∧ (d ≠ 7 → (t.eng n.val).lvl = (s.eng n.val).lvl) ∧
      s.only [GG_STAT n.val, GG_SR n.val, GG_SCF n.val, GG_X n.val 0, GG_X n.val 1, GG_X n.val 2, GG_X n.val 3, GG_CMP n.val, GG_TSTEP n.val,
        GG_TB n.val, GG_TB n.val + 4] [.gg] t) ∧
  (∀ (n : Fin 16) (w : Word) (s : State), s.fetches n.val w 7 → plainWord w → bit w.toNat 20 = false →
    ∃ t, exec (.setReg n) s = .next t ∧ s.executed t n.val (s.pcNext n.val) ∧
      (∀ k, k < 8 → (t.eng n.val).lvl.testBit k =
        if bit w.toNat (8 + k) && s.on (GG_SLOT_VALID n.val k) then bit w.toNat k else (s.eng n.val).lvl.testBit k) ∧
      (t.eng n.val).oe = (s.eng n.val).oe ∧ s.only [GG_STAT n.val] [.gg] t) ∧
  (∀ (n : Fin 16) (w : Word) (s : State), s.fetches n.val w 7 → plainWord w → bit w.toNat 20 = true →
    ∃ t, exec (.setReg n) s = .next t ∧ s.executed t n.val (s.pcNext n.val) ∧
      (∀ k, k < 8 → (t.eng n.val).oe.testBit k =
        if bit w.toNat (8 + k) && s.on (GG_SLOT_VALID n.val k) then bit w.toNat k else (s.eng n.val).oe.testBit k) ∧
      (t.eng n.val).lvl = (s.eng n.val).lvl ∧ s.only [GG_STAT n.val] [.gg] t) ∧
  (∀ (n : Fin 16) (w : Word) (s : State), s.fetches n.val w 8 → plainWord w →
    ∃ t, exec (.edge n) s = .next t ∧ s.executed t n.val (s.pcNext n.val) ∧
      (∀ k, k < 8 → (t.eng n.val).lvl.testBit k = if k = bits w.toNat 18 3 then bit w.toNat 17 else (s.eng n.val).lvl.testBit k) ∧
      s.only [GG_STAT n.val] [.gg] t) ∧
  (∀ (n : Fin 16) (w : Word) (k : Fin 8) (pin : Nat) (s : State), s.fetches n.val w 8 → plainWord w → bits w.toNat 18 3 = k.val →
    s.get (GG_SLOT_PIO n.val k.val) = pin → (s.eng n.val).lvl.testBit k.val = !bit w.toNat 17 →
    (∀ j, j < 8 → j ≠ k.val → s.get (GG_SLOT_PIO n.val j) ≠ pin) →
    ∃ t, exec (.edge n) s = .next t ∧ s.executed t n.val (s.pcNext n.val) ∧
      Tab.get (fun _ => 0) t.gg.fine pin = bits w.toNat 0 6 ∧ s.only [GG_STAT n.val] [.gg] t) ∧
  (∀ (n : Fin 16) (w : Word) (d imm old r : Nat) (s : State), s.fetches n.val w 9 → plainWord w → bits w.toNat 18 3 = d → bits w.toNat 0 16 = imm →
    old = (match d with
      | 0 => s.get (GG_X_VALUE n.val 0)
      | 1 => s.get (GG_X_VALUE n.val 1)
      | 2 => s.get (GG_X_VALUE n.val 2)
      | 3 => s.get (GG_X_VALUE n.val 3)
      | 4 => s.get (GG_CMP_VALUE n.val)
      | _ => s.get (GG_TSTEP_VALUE n.val)) →
    r = (if bits w.toNat 16 2 = 0 then imm else if bits w.toNat 16 2 = 1 then imm * 2 ^ 16 + old % 2 ^ 16
      else if imm < 2 ^ 15 then imm else imm + (2 ^ 32 - 2 ^ 16)) →
    ∃ t, exec (.ldi n) s = .next t ∧ s.executed t n.val (s.pcNext n.val) ∧
      (∀ i, i < 4 → d = i → t.get (GG_X_VALUE n.val i) = r ∧ s.only [GG_STAT n.val, GG_X n.val i] [.gg] t) ∧
      (d = 4 → t.get (GG_CMP_VALUE n.val) = r ∧ s.only [GG_STAT n.val, GG_CMP n.val] [.gg] t) ∧
      (d = 5 → t.get (GG_TSTEP_VALUE n.val) = r ∧ s.only [GG_STAT n.val, GG_TSTEP n.val] [.gg] t)) ∧
  (∀ (n : Fin 16) (seen : DWord) (w : Word) (i : Fin 4) (a b r : Nat) (s : State), s.fetches n.val w 10 → plainWord w → bits w.toNat 16 2 = i.val →
    s.get (GG_X_VALUE n.val i.val) = a →
    b = (if bit w.toNat 15 then bits w.toNat 0 12 else match bits w.toNat 12 3 with
      | 0 => s.get (GG_X_VALUE n.val 0)
      | 1 => s.get (GG_X_VALUE n.val 1)
      | 2 => s.get (GG_X_VALUE n.val 2)
      | 3 => s.get (GG_X_VALUE n.val 3)
      | 4 => s.get (GG_SR_VALUE n.val)
      | 5 => s.get (GG_CMP_VALUE n.val)
      | 6 => s.get (GG_SCF_SC n.val)
      | _ => s.pinsIn n.val 8 seen) →
    r = (match bits w.toNat 18 3 with
      | 0 => (a + b) % 2 ^ 32
      | 1 => (a + (2 ^ 32 - b)) % 2 ^ 32
      | 2 => a &&& b
      | 3 => a ||| b
      | 4 => a ^^^ b
      | 5 => a * 2 ^ (b % 32) % 2 ^ 32
      | 6 => a / 2 ^ (b % 32)
      | _ => wrapInt 32 (sext 32 a / 2 ^ (b % 32))) →
    ∃ t, exec (.alu n seen) s = .next t ∧ s.executed t n.val (s.pcNext n.val) ∧ t.get (GG_X_VALUE n.val i.val) = r ∧
      t.get (GG_SCF_Z n.val) = b2n (r == 0) ∧ s.only [GG_STAT n.val, GG_X n.val i.val, GG_SCF n.val] [.gg] t) ∧
  (∀ (n : Fin 16) (seen : DWord) (w : Word) (v : Nat) (s : State), s.fetches n.val w 11 → plainWord w →
    v = (match bits w.toNat 18 3 with
      | 0 => s.get (GG_SR_VALUE n.val)
      | 1 => s.get (GG_X_VALUE n.val 0)
      | 2 => s.get (GG_X_VALUE n.val 1)
      | 3 => s.get (GG_X_VALUE n.val 2)
      | 4 => s.get (GG_X_VALUE n.val 3)
      | 5 => s.pinsIn n.val 8 seen
      | 6 => s.get (GG_SCF_SC n.val)
      | _ => s.now % 2 ^ 32) →
    ∃ t, exec (.testFlag n seen) s = .next t ∧ s.executed t n.val (s.pcNext n.val) ∧
      t.get (GG_SCF_EQ n.val) = b2n (v == s.get (GG_CMP_VALUE n.val)) ∧
      t.get (GG_SCF_LT n.val) = b2n (decide (v < s.get (GG_CMP_VALUE n.val))) ∧
      t.get (GG_SCF_Z n.val) = s.get (GG_SCF_Z n.val) ∧ s.only [GG_STAT n.val, GG_SCF n.val] [.gg] t) ∧
  (∀ (n : Fin 16) (w : Word) (i : Nat) (s : State), s.fetches n.val w 12 → plainWord w → bits w.toNat 15 4 = i →
    bits w.toNat 19 2 = 0 ∨ s.gg.efSet.testBit i = false → bits w.toNat 19 2 < 2 →
    ∃ t, exec (.flag n) s = .next t ∧ s.executed t n.val (s.pcNext n.val) ∧ t.getBit GG_EF_EF i = (bits w.toNat 19 2 == 0) ∧
      (bit w.toNat 14 = true → t.getBit GG_FLAG_SRC_ENG n.val = true) ∧ t.gg.efBase = s.gg.efBase ∧
      s.only [GG_STAT n.val, GG_EF, GG_FLAG_SRC] [.gg] t) ∧
  (∀ (n : Fin 16) (w : Word) (i : Nat) (s : State), s.fetches n.val w 12 → plainWord w → bits w.toNat 15 4 = i → bits w.toNat 19 2 = 2 →
    s.gg.efSet.testBit i = false → s.gg.efClr.testBit i = false → s.gg.efTgl = 0 →
    ∃ t, exec (.flag n) s = .next t ∧ s.executed t n.val (s.pcNext n.val) ∧ t.getBit GG_EF_EF i = !s.gg.efBase.testBit i ∧
      s.only [GG_STAT n.val, GG_EF, GG_FLAG_SRC] [.gg] t) ∧
  (∀ (n : Fin 16) (w : Word) (s : State), s.fetches n.val w 13 → plainWord w → bits w.toNat 18 3 = 0 →
    ∃ t, exec (.clkr n) s = .next t ∧ s.executed t n.val (s.pcNext n.val) ∧
      (t.eng n.val).acc = (2 ^ 32 - s.get (GG_CLK_INC n.val)) % 2 ^ 32 ∧ s.only [GG_STAT n.val] [.gg] t) ∧
  (∀ (n : Fin 16) (w : Word) (s : State), s.fetches n.val w 13 → plainWord w → bits w.toNat 18 3 = 1 →
    ∃ t, exec (.halt n) s = .next t ∧ t.get (GG_STAT_STATE n.val) = 2 ∧ t.get (GG_STAT_CAUSE n.val) = 0 ∧
      t.get (GG_STAT_PC n.val) = s.pcNext n.val ∧ (t.eng n.val).fetched = none ∧ s.parts [.regs, .gg, .lsv] t) ∧
  (∀ (n : Fin 16) (w : Word) (s : State), s.fetches n.val w 13 → plainWord w → bits w.toNat 18 3 = 2 →
    ∃ t, exec (.jmpx n) s = .next t ∧ s.executed t n.val (s.get (GG_X_VALUE n.val (bits w.toNat 16 2)) % 64) ∧ s.only [GG_STAT n.val] [.gg] t)

/-- R296 to R304, R330. -/
def Obligations.EngineGates : Prop :=
  (∀ (n : Fin 16) (w : Word) (s : State), s.fetches n.val w 0 → 2 ≤ bits w.toNat 26 2 → s.now < s.rd64 (GG_TB n.val) →
    ∃ t, exec (.nop n) s = .next t ∧ s.stalled t n.val 1) ∧
  (∀ (n : Fin 16) (w : Word) (s : State), s.fetches n.val w 0 → bits w.toNat 26 2 = 1 → (s.eng n.val).tick = false →
    ∃ t, exec (.nop n) s = .next t ∧ s.stalled t n.val 2) ∧
  (∀ (n : Fin 16) (w : Word) (s : State), s.fetches n.val w 0 → bits w.toNat 22 6 = 16 → (s.eng n.val).tick = true →
    ∃ t, exec (.nop n) s = .next t ∧ s.executed t n.val (s.pcNext n.val) ∧ s.only [GG_STAT n.val] [.gg] t) ∧
  (∀ (n : Fin 16) (w : Word) (T : Nat) (s : State), s.fetches n.val w 0 → bits w.toNat 22 6 = 48 → s.rd64 (GG_TB n.val) = T → s.now = T →
    ∃ t, exec (.nop n) s = .next t ∧ s.executed t n.val (s.pcNext n.val) ∧
      t.rd64 (GG_TB n.val) = (T + s.get (GG_TSTEP_VALUE n.val)) % 2 ^ 64 ∧ s.only [GG_STAT n.val, GG_TB n.val, GG_TB n.val + 4] [.gg] t) ∧
  (∀ (n : Fin 16) (w : Word) (T : Nat) (s : State), s.fetches n.val w 0 → bits w.toNat 22 6 = 32 → s.rd64 (GG_TB n.val) = T → T < s.now →
    s.on (GG_EXEC_LATE n.val) = false → s.roomy → s.inReset 0x0F = false → s.time.dlQ.length < 16 → s.now - T < 2 ^ 32 →
    ∃ t, exec (.nop n) s = .next t ∧ s.executed t n.val (s.pcNext n.val) ∧ t.get (GG_STAT_LATE n.val) = 1 ∧
      s.advanced t (GG_CNT n.val 0) 1 ∧ s.sent t 0x10 0x51 (n.val * 2 ^ 40 + (s.now - T)) ∧
      t.time.dlQ.length = s.time.dlQ.length + 1 ∧ s.only [GG_STAT n.val] [.gg, .live, .fltQ, .time] t) ∧
  (∀ (n : Fin 16) (w : Word) (T : Nat) (s : State), s.engLive n.val = true → s.get (GG_STAT_STATE n.val) = 1 → (s.eng n.val).fetched = some w →
    (s.eng n.val).inj = false → (s.eng n.val).stopReq = false → s.illegal n.val w.toNat = false → bits w.toNat 26 2 = 3 → bit w.toNat 22 = false →
    s.rd64 (GG_TB n.val) = T → T < s.now → s.on (GG_EXEC_LATE n.val) = true → s.roomy → s.inReset 0x0F = false → s.time.dlQ.length < 16 →
    s.now - T < 2 ^ 32 →
    ∃ t, exec (.instructionSkip n) s = .next t ∧ s.executed t n.val (s.pcNext n.val) ∧ t.get (GG_STAT_SKIP n.val) = 1 ∧
      s.advanced t (GG_CNT n.val 1) 1 ∧ s.sent t 0x10 0x52 (n.val * 2 ^ 40 + (s.now - T)) ∧
      t.rd64 (GG_TB n.val) = (T + s.get (GG_TSTEP_VALUE n.val)) % 2 ^ 64 ∧
      (t.eng n.val).lvl = (s.eng n.val).lvl ∧ (t.eng n.val).tx = (s.eng n.val).tx ∧ (t.eng n.val).rx = (s.eng n.val).rx ∧
      s.only [GG_STAT n.val, GG_TB n.val, GG_TB n.val + 4] [.gg, .live, .fltQ, .time] t) ∧
  (∀ (n : Fin 16) (w : Word) (m : Nat) (k : Fin 8) (s : State), s.fetches n.val w 0 → bits w.toNat 26 2 = 0 → bit w.toNat 22 = false →
    bits w.toNat 23 3 = m → m ≠ 0 → s.on (GG_SLOT_VALID n.val k.val) = true →
    ∃ t, exec (.nop n) s = .next t ∧ s.executed t n.val (s.pcNext n.val) ∧
      (t.eng n.val).lvl.testBit k.val = (if s.getBit (GG_MARK_MASK n.val m) k.val then s.getBit (GG_MARK_VAL n.val m) k.val
        else if s.getBit (GG_MARK_TGL n.val m) k.val then !(s.eng n.val).lvl.testBit k.val else (s.eng n.val).lvl.testBit k.val) ∧
      (t.eng n.val).oe = (s.eng n.val).oe ∧ s.only [GG_STAT n.val] [.gg] t) ∧
  (∀ (n : Fin 16) (w : Word) (s : State), s.fetches n.val w 0 → bits w.toNat 22 6 = 1 →
    ∃ t, exec (.nop n) s = .next t ∧ s.executed t n.val (s.get (GG_EXEC_LOOP_PC n.val)) ∧ s.only [GG_STAT n.val] [.gg] t) ∧
  (∀ (n : Fin 16) (w : Word) (s : State), s.engLive n.val = true → (s.eng n.val).fetched = some w → 14 ≤ bits w.toNat 28 4 ∨ bit w.toNat 21 = true →
    s.roomy →
    ∃ t, exec (.ggIllegal n) s = .next t ∧ t.get (GG_STAT_STATE n.val) = 2 ∧ t.get (GG_STAT_CAUSE n.val) = 6 ∧
      t.get (GG_STAT_PC n.val) = s.get (GG_STAT_PC n.val) ∧ s.sent t 0x10 0x50 (n.val * 2 ^ 40 + s.get (GG_STAT_PC n.val) * 2 ^ 32 + w.toNat) ∧
      s.parts [.regs, .gg, .lsv, .fltQ] t) ∧
  (∀ (n : Fin 16) (w : Word) (s : State), s.engLive n.val = true → s.get (GG_STAT_STATE n.val) = 1 → (s.eng n.val).fetched = some w →
    (s.eng n.val).inj = false → (s.eng n.val).stopReq = true → s.illegal n.val w.toNat = false → bits w.toNat 28 4 = 0 → plainWord w →
    ∃ t, exec (.nop n) s = .next t ∧ t.get (GG_STAT_STATE n.val) = 0 ∧ t.get (GG_STAT_PC n.val) = s.pcNext n.val ∧
      (t.eng n.val).fetched = none ∧ s.parts [.regs, .gg, .lsv] t) ∧
  (∀ (n : Fin 16) (w : Word) (s : State), s.engLive n.val = true → (s.eng n.val).fetched = some w → (s.eng n.val).inj = false →
    (s.eng n.val).stopReq = true → s.illegal n.val w.toNat = false → bits w.toNat 28 4 = 4 → plainWord w → bit w.toNat 17 = false → (s.eng n.val).tx = [] →
    ∃ t, exec (.pull n) s = .next t ∧ t.get (GG_STAT_STATE n.val) = 0 ∧ t.get (GG_STAT_PC n.val) = s.get (GG_STAT_PC n.val) ∧
      (t.eng n.val).kept = some (w, false) ∧ s.parts [.regs, .gg, .lsv] t) ∧
  (∀ (n : Fin 16) (c : Instr) (s : State), (s.eng n.val).fetched = none →
    c ∈ [Instr.nop n, .pull n, .push n, .setReg n, .edge n, .ldi n, .flag n, .clkr n, .halt n, .jmpx n, .ggIllegal n, .instructionSkip n] →
    ∃ t, exec c s = .next t ∧ s.only [] [] t)

/-- R303, R322, R325, R330, R331, R335, R337 to R341. The states are 0 STOPPED, 1 RUNNING, 2 HALTED, 3 STEP. -/
def Obligations.EngineControl : Prop :=
  (∀ (n : Fin 16) (s : State), s.open_ 0x10 = true → s.gg.grpHit.testBit n.val = false →
    s.get (GG_STAT_STATE n.val) = 0 ∨ s.get (GG_STAT_STATE n.val) = 2 →
    ∃ t, exec (.ggStart n) s = .next t ∧ t.get (GG_STAT_STATE n.val) = 1 ∧ t.get (GG_STAT_PC n.val) = s.get (GG_EXEC_START_PC n.val) ∧
      t.get (GG_SCF_Z n.val) = 0 ∧ t.get (GG_SCF_EQ n.val) = 0 ∧ t.get (GG_SCF_LT n.val) = 0 ∧ (t.eng n.val).fetched = none ∧
      (t.eng n.val).acc = (2 ^ 32 - s.get (GG_CLK_INC n.val)) % 2 ^ 32 ∧ (t.eng n.val).tx = (s.eng n.val).tx ∧
      s.parts [.regs, .gg, .lsv] t) ∧
  (∀ (n : Fin 16) (s : State), s.inReset 0x10 = false → s.get (GG_STAT_STATE n.val) = 1 ∨ s.get (GG_STAT_STATE n.val) = 3 →
    ∃ t, exec (.ggStart n) s = .next t ∧ s.only [] [] t) ∧
  (∀ (n : Fin 16) (w : Word) (s : State), s.inReset 0x10 = false → s.gg.grpHit.testBit n.val = false → s.get (GG_STAT_STATE n.val) = 1 →
    (s.eng n.val).fetched = some w → s.on (GG_STAT_CAUSE n.val) = false →
    ∃ t, exec (.ggStop n) s = .next t ∧ t.eng n.val = { s.eng n.val with stopReq := true } ∧ s.only [] [.gg] t) ∧
  (∀ (n : Fin 16) (w : Word) (s : State), s.inReset 0x10 = false → s.gg.grpHit.testBit n.val = false → s.get (GG_STAT_STATE n.val) = 1 →
    (s.eng n.val).fetched = some w → s.on (GG_STAT_CAUSE n.val) = true →
    ∃ t, exec (.ggStop n) s = .next t ∧ t.get (GG_STAT_STATE n.val) = 0 ∧ t.get (GG_STAT_CAUSE n.val) = 0 ∧ (t.eng n.val).fetched = none ∧
      (t.eng n.val).kept = some (w, (s.eng n.val).inj) ∧ s.parts [.regs, .gg, .lsv] t) ∧
  (∀ (n : Fin 16) (s : State), s.inReset 0x10 = false → s.gg.grpHit.testBit n.val = false → s.get (GG_STAT_STATE n.val) = 3 →
    (s.eng n.val).former = 0 ∨ (s.eng n.val).former = 2 →
    ∃ t, exec (.ggStop n) s = .next t ∧ t.get (GG_STAT_INJ_PEND n.val) = 0 ∧ (t.eng n.val).pend = none ∧ (t.eng n.val).fetched = none ∧
      t.get (GG_STAT_STATE n.val) = (s.eng n.val).former ∧ s.only [GG_STAT n.val] [.gg] t) ∧
  (∀ (n : Fin 16) (w : Word) (inj : Bool) (s : State), s.open_ 0x10 = true → s.gg.grpHit.testBit n.val = false →
    s.get (GG_STAT_STATE n.val) = 0 → (s.eng n.val).kept = some (w, inj) →
    ∃ t, exec (.ggResume n) s = .next t ∧ t.get (GG_STAT_STATE n.val) = 1 ∧ (t.eng n.val).fetched = some w ∧ (t.eng n.val).inj = inj ∧
      (t.eng n.val).kept = none ∧ t.get (GG_STAT_PC n.val) = s.get (GG_STAT_PC n.val) ∧ s.parts [.regs, .gg, .lsv] t) ∧
  (∀ (n : Fin 16) (s : State), s.inReset 0x10 = false → s.get (GG_STAT_STATE n.val) = 2 → (s.eng n.val).ill = true →
    ∃ t, exec (.ggResume n) s = .next t ∧ s.only [] [] t) ∧
  (∀ (n : Fin 16) (s : State), s.inReset 0x10 = false → s.gg.grpHit.testBit n.val = false →
    ∃ t, exec (.ggClkr n) s = .next t ∧ t.eng n.val = { s.eng n.val with acc := (2 ^ 32 - s.get (GG_CLK_INC n.val)) % 2 ^ 32 } ∧
      s.only [] [.gg] t) ∧
  (∀ (n : Fin 16) (s : State), s.inReset 0x10 = false → s.gg.grpHit.testBit n.val = false →
    ∃ t, exec (.fifoClr n) s = .next t ∧ t.eng n.val = { s.eng n.val with tx := [], rx := [] } ∧ s.only [] [.gg] t) ∧
  (∀ (n : Fin 16) (c : Instr) (s : State), s.inReset 0x10 = false → s.gg.grpHit.testBit n.val = true →
    c ∈ [Instr.ggStart n, .ggStop n, .ggResume n, .ggClkr n, .fifoClr n] → ∃ t, exec c s = .next t ∧ s.only [] [] t) ∧
  (∀ (n : Fin 16) (c : Instr) (s : State), s.dark = false → s.inReset 0x10 = true → s.roomy →
    c ∈ [Instr.ggStart n, .ggStop n, .ggResume n, .ggClkr n, .fifoClr n] →
    ∃ t, exec c s = .next t ∧ s.sent t 0x02 0x05 (s.selfAddr (GG_CTL n.val)) ∧ s.only [] [.fltQ] t) ∧
  (∀ (n : Fin 16) (w : Word) (s : State), s.inReset 0x10 = false → (s.eng n.val).tx.length < (s.fifoCaps n.val).1 → s.queueOfCons n.val = none →
    ∃ t, exec (.ggTxfWrite n w) s = .next t ∧ t.eng n.val = { s.eng n.val with tx := (s.eng n.val).tx ++ [w] } ∧ s.only [] [.gg] t) ∧
  (∀ (n : Fin 16) (w : Word) (s : State), s.inReset 0x10 = false →
    (s.fifoCaps n.val).1 ≤ (s.eng n.val).tx.length ∨ (s.queueOfCons n.val).isSome = true →
    ∃ t, exec (.ggTxfWrite n w) s = .next t ∧ t.get (GG_STAT_TX_REJ n.val) = 1 ∧ s.only [GG_STAT n.val] [] t) ∧
  (∀ (n : Fin 16) (who : Who) (w : Word) (r : List Word) (s : State), s.inReset 0x10 = false → (s.eng n.val).rx = w :: r → s.queueOfProd n.val = none →
    ∃ t, exec (.ggRxfRead n who) s = .next t ∧ t.resp = some ⟨whoKey who, 0, w.toNat⟩ ∧ t.eng n.val = { s.eng n.val with rx := r } ∧
      s.only [] [.gg, .resp] t) ∧
  (∀ (n : Fin 16) (who : Who) (s : State), s.inReset 0x10 = false → (s.eng n.val).rx = [] →
    ∃ t, exec (.ggRxfRead n who) s = .next t ∧ t.resp = some ⟨whoKey who, 0, 0⟩ ∧ t.get (GG_STAT_RX_EMPTY_RD n.val) = 1 ∧
      s.only [GG_STAT n.val] [.resp] t) ∧
  (∀ (n : Fin 16) (w : Word) (s : State), s.inReset 0x10 = false → s.on (GG_STAT_INJ_PEND n.val) = false →
    s.get (GG_STAT_STATE n.val) = 0 ∨ s.get (GG_STAT_STATE n.val) = 2 →
    ∃ t, exec (.ggInj n w) s = .next t ∧ t.get (GG_STAT_INJ_PEND n.val) = 1 ∧ t.get (GG_STAT_STATE n.val) = 3 ∧
      t.eng n.val = { s.eng n.val with pend := some w, former := s.get (GG_STAT_STATE n.val) } ∧ s.only [GG_STAT n.val] [.gg] t) ∧
  (∀ (n : Fin 16) (w : Word) (s : State), s.inReset 0x10 = false → s.on (GG_STAT_INJ_PEND n.val) = false → s.get (GG_STAT_STATE n.val) = 1 →
    ∃ t, exec (.ggInj n w) s = .next t ∧ t.get (GG_STAT_INJ_PEND n.val) = 1 ∧ t.get (GG_STAT_STATE n.val) = 1 ∧
      t.eng n.val = { s.eng n.val with pend := some w } ∧ s.only [GG_STAT n.val] [.gg] t) ∧
  (∀ (n : Fin 16) (w : Word) (c : Instr) (s : State), s.inReset 0x10 = false → s.on (GG_STAT_INJ_PEND n.val) = true →
    c ∈ [Instr.ggInj n w, .ggInjForce n w] →
    ∃ t, exec c s = .next t ∧ t.get (GG_STAT_INJ_REJ n.val) = 1 ∧ s.only [GG_STAT n.val] [] t) ∧
  (∀ (n : Fin 16) (w v : Word) (s : State), s.inReset 0x10 = false → s.on (GG_STAT_INJ_PEND n.val) = false → s.get (GG_STAT_STATE n.val) = 1 →
    (s.eng n.val).fetched = some v → s.on (GG_STAT_CAUSE n.val) = true → (s.eng n.val).inj = false → bit v.toNat 22 = false →
    ∃ t, exec (.ggInjForce n w) s = .next t ∧ t.get (GG_STAT_ABANDONED n.val) = 1 ∧ s.advanced t (GG_CNT n.val 4) 1 ∧
      t.get (GG_STAT_PC n.val) = s.pcNext n.val ∧ t.get (GG_STAT_INJ_PEND n.val) = 1 ∧ (t.eng n.val).pend = some w ∧
      (t.eng n.val).fetched = none ∧ (t.eng n.val).tx = (s.eng n.val).tx ∧ (t.eng n.val).lvl = (s.eng n.val).lvl ∧
      s.only [GG_STAT n.val] [.gg, .live] t) ∧
  (∀ (n : Fin 16) (k : Fin 64) (w : Word) (s : State), s.inReset 0x10 = false →
    ∃ t, exec (.ggImemWrite n k w) s = .next t ∧ t.rd (GG_IMEM n.val k.val) = w ∧ s.only [GG_IMEM n.val k.val] [] t) ∧
  (∀ (m : BitVec 16) (s : State), s.inReset 0x10 = false → s.gg.efSet = 0 → s.gg.efClr = 0 → s.gg.efTgl = 0 →
    s.get GG_EF_EF = s.gg.efBase →
    ∃ t, exec (.efSet m) s = .next t ∧ t.get GG_EF_EF = s.get GG_EF_EF ||| m.toNat ∧ s.only [GG_EF] [.gg] t) ∧
  (∀ (m : BitVec 16) (i : Nat) (s : State), s.inReset 0x10 = false → s.gg.efSet = 0 → s.gg.efTgl = 0 → s.gg.efClr = 0 →
    s.get GG_EF_EF = s.gg.efBase → i < 16 →
    ∃ t, exec (.efClr m) s = .next t ∧ t.getBit GG_EF_EF i = (s.getBit GG_EF_EF i && !m.getLsbD i) ∧ s.only [GG_EF] [.gg] t)

/-- R333 to R335. A group operation is 1 START, 2 STOP, 3 RESUME, 4 CLKR. -/
def Obligations.EngineGroups : Prop :=
  (∀ (g : Fin 4) (n : Fin 16) (s : State), s.open_ 0x10 = true → s.gg.actHit.testBit g.val = false → s.gg.grpHit = 0 →
    s.getBit (GG_GMEM_MEM g.val) n.val = true → s.get (GG_STAT_STATE n.val) = 0 →
    ∃ t, exec (.groupStart g false) s = .next t ∧ t.armed g.val = none ∧ t.get (GG_STAT_STATE n.val) = 1 ∧
      t.get (GG_STAT_PC n.val) = s.get (GG_EXEC_START_PC n.val) ∧ t.gg.grpHit.testBit n.val = true ∧
      (∀ m, m < 16 → s.getBit (GG_GMEM_MEM g.val) m = false → t.eng m = s.eng m ∧ t.rd (GG_STAT m) = s.rd (GG_STAT m)) ∧
      s.parts [.regs, .gg, .lsv] t) ∧
  (∀ (g : Fin 4) (n : Fin 16) (w : Word) (s : State), s.open_ 0x10 = true → s.gg.actHit.testBit g.val = false → s.gg.grpHit = 0 →
    s.getBit (GG_GMEM_MEM g.val) n.val = true → s.get (GG_STAT_STATE n.val) = 1 → (s.eng n.val).fetched = some w →
    s.on (GG_STAT_CAUSE n.val) = false →
    ∃ t, exec (.groupStop g false) s = .next t ∧ t.armed g.val = none ∧ (t.eng n.val).stopReq = true ∧ t.gg.grpHit.testBit n.val = true ∧
      (∀ m, m < 16 → s.getBit (GG_GMEM_MEM g.val) m = false → t.eng m = s.eng m) ∧ s.parts [.regs, .gg, .lsv] t) ∧
  (∀ (g : Fin 4) (n : Fin 16) (w : Word) (inj : Bool) (s : State), s.open_ 0x10 = true → s.gg.actHit.testBit g.val = false → s.gg.grpHit = 0 →
    s.getBit (GG_GMEM_MEM g.val) n.val = true → s.get (GG_STAT_STATE n.val) = 0 → (s.eng n.val).kept = some (w, inj) →
    ∃ t, exec (.groupResume g false) s = .next t ∧ t.armed g.val = none ∧ t.get (GG_STAT_STATE n.val) = 1 ∧ (t.eng n.val).fetched = some w ∧
      (∀ m, m < 16 → s.getBit (GG_GMEM_MEM g.val) m = false → t.eng m = s.eng m) ∧ s.parts [.regs, .gg, .lsv] t) ∧
  (∀ (g : Fin 4) (n : Fin 16) (s : State), s.open_ 0x10 = true → s.gg.actHit.testBit g.val = false → s.gg.grpHit = 0 →
    s.getBit (GG_GMEM_MEM g.val) n.val = true →
    ∃ t, exec (.groupClkr g false) s = .next t ∧ t.armed g.val = none ∧ t.eng n.val = { s.eng n.val with acc := (2 ^ 32 - s.get (GG_CLK_INC n.val)) % 2 ^ 32 } ∧
      (∀ m, m < 16 → s.getBit (GG_GMEM_MEM g.val) m = false → t.eng m = s.eng m) ∧ s.only [GG_GSTAT] [.gg] t) ∧
  (∀ (g : Fin 4) (c : Instr) (op : Nat) (s : State), s.open_ 0x10 = true → s.gg.actHit.testBit g.val = false →
    c = .groupStart g true ∧ op = 1 ∨ c = .groupStop g true ∧ op = 2 ∨ c = .groupResume g true ∧ op = 3 ∨ c = .groupClkr g true ∧ op = 4 →
    ∃ t, exec c s = .next t ∧ t.armed g.val = some op ∧ t.getBit GG_GSTAT_ARMED g.val = true ∧ (∀ m, m < 16 → t.eng m = s.eng m) ∧
      s.only [GG_GSTAT] [.gg] t) ∧
  (∀ (g : Fin 4) (s : State), s.open_ 0x10 = true → s.gg.actHit.testBit g.val = false →
    ∃ t, exec (.groupDisarm g) s = .next t ∧ t.armed g.val = none ∧ t.getBit GG_GSTAT_ARMED g.val = false ∧ (∀ m, m < 16 → t.eng m = s.eng m) ∧
      s.only [GG_GSTAT] [.gg] t) ∧
  (∀ (g : Fin 4) (n : Fin 16) (s : State), s.open_ 0x10 = true → s.armed g.val = some 4 → s.now = s.rd64 (GG_GTIME g.val) → s.gg.grpHit = 0 →
    s.getBit (GG_GMEM_MEM g.val) n.val = true →
    ∃ t, exec (.groupTimedFire g) s = .next t ∧ t.armed g.val = none ∧ t.getBit GG_GSTAT_ARMED g.val = false ∧
      t.eng n.val = { s.eng n.val with acc := (2 ^ 32 - s.get (GG_CLK_INC n.val)) % 2 ^ 32 } ∧
      t.get GG_GSTAT_LATE = s.get GG_GSTAT_LATE ∧ s.only [GG_GSTAT] [.gg] t) ∧
  (∀ (g : Fin 4) (n : Fin 16) (s : State), s.open_ 0x10 = true → s.armed g.val = some 1 → s.rd64 (GG_GTIME g.val) < s.now → s.gg.grpHit = 0 →
    s.get (GG_GMEM_MEM g.val) = 2 ^ n.val → s.get (GG_STAT_STATE n.val) = 2 → s.now - s.rd64 (GG_GTIME g.val) < 2 ^ 32 → s.roomy →
    ∃ t, exec (.groupTimedFire g) s = .next t ∧ t.armed g.val = none ∧ t.get (GG_STAT_STATE n.val) = 1 ∧ t.get (GG_STAT_LATE n.val) = 1 ∧
      t.getBit GG_GSTAT_LATE g.val = true ∧ s.advanced t (GG_CNT n.val 0) 1 ∧
      s.sent t 0x10 0x51 (n.val * 2 ^ 40 + (s.now - s.rd64 (GG_GTIME g.val))) ∧ s.parts [.regs, .gg, .lsv, .live, .fltQ, .time] t) ∧
  (∀ (g : Fin 4) (s : State), s.armed g.val = none ∨ s.now < s.rd64 (GG_GTIME g.val) → ∃ t, exec (.groupTimedFire g) s = .next t ∧ s.only [] [] t)

/-- R329, R344 to R352. -/
def Obligations.StreamQueues : Prop :=
  (∀ (q : Fin 64) (n off : Nat) (i : SqItem) (s : State), s.get (SQ_CFG_CONS q.val) = n → n < 16 → s.queueOfCons n = some q.val →
    s.inReset 0x11 = false → (s.eng n).tx.length < (s.fifoCaps n).1 → (s.sqOf q.val).begun = some i →
    (s.sqOf q.val).moved + 1 < (s.sqOf q.val).nw → off = s.slotOff q.val i.slot + 8 + 4 * (s.sqOf q.val).moved → s.moverFree 4 off 4 →
    ∃ t, exec (.moverTxWord q) s = .next t ∧
      (t.eng n).tx = (s.eng n).tx ++ [BitVec.ofNat 32 (s.load off 4)] ∧
      (t.sqOf q.val).moved = (s.sqOf q.val).moved + 1 ∧ (t.sqOf q.val).begun = some i ∧ (t.sqOf q.val).items = (s.sqOf q.val).items ∧
      t.mem = s.mem) ∧
  (∀ (q : Fin 64) (n off : Nat) (i : SqItem) (s : State), s.get (SQ_CFG_CONS q.val) = n → n < 16 → s.queueOfCons n = some q.val →
    s.inReset 0x11 = false → (s.eng n).tx.length < (s.fifoCaps n).1 → (s.sqOf q.val).begun = some i →
    (s.sqOf q.val).moved + 1 = (s.sqOf q.val).nw → off = s.slotOff q.val i.slot + 8 + 4 * (s.sqOf q.val).moved → s.moverFree 4 off 4 →
    ∃ t, exec (.moverTxWord q) s = .next t ∧ (t.eng n).tx = (s.eng n).tx ++ [BitVec.ofNat 32 (s.load off 4)] ∧ (t.sqOf q.val).begun = none ∧
      (t.sqOf q.val).moved = 0 ∧ t.get (SQ_CNT_BUSY q.val) = 0 ∧ t.mem = s.mem) ∧
  (∀ (q : Fin 64) (n : Nat) (w : Word) (r : List Word) (s : State), s.get (SQ_CFG_PROD q.val) = n → n < 16 → s.queueOfProd n = some q.val →
    s.inReset 0x11 = false → (s.eng n).rx = w :: r → (s.sqOf q.val).part = [] → (s.sqOf q.val).items.length < 1000 →
    s.get (SQ_LVL_LEVEL q.val) = 0 →
    ∃ t, exec (.moverRxWord q) s = .next t ∧ (t.eng n).rx = r ∧ (t.sqOf q.val).part = [w] ∧ (t.sqOf q.val).partT = s.now ∧
      (t.sqOf q.val).items = (s.sqOf q.val).items ∧ s.only [SQ_CNT q.val] [.gg, .sq] t) ∧
  (∀ (q : Fin 64) (n : Nat) (w : Word) (r : List Word) (s : State), s.get (SQ_CFG_PROD q.val) = n → n < 16 → s.queueOfProd n = some q.val →
    s.inReset 0x11 = false → (s.eng n).rx = w :: r → (s.sqOf q.val).part.length + 1 = s.itemW q.val → (s.sqOf q.val).part ≠ [] →
    (s.sqOf q.val).closes = [] → s.moverWaits 4 (s.slotOff q.val (s.tailSlot q.val)) (8 + 4 * s.itemW q.val) = false →
    s.lockedOut (bankOf (s.slotOff q.val (s.tailSlot q.val))) 4 = false →
    (s.sqOf q.val).used.length < s.itemsMax q.val → s.mayWrite 4 (bankOf (s.slotOff q.val (s.tailSlot q.val))) = true →
    ∃ t, exec (.moverRxWord q) s = .next t ∧ (t.eng n).rx = r ∧ (t.sqOf q.val).part = [] ∧
      (t.sqOf q.val).items = (s.sqOf q.val).items ++ [⟨s.tailSlot q.val, none⟩] ∧
      t.load (s.slotOff q.val (s.tailSlot q.val)) 8 = s.itemW q.val % 1024 + (s.sqOf q.val).partT % 2 ^ 32 * 2 ^ 32 ∧
      t.get (SQ_CNT_LOST q.val) = s.get (SQ_CNT_LOST q.val)) ∧
  (∀ (q : Fin 64) (s : State), s.inReset 0x11 = false → (s.sqOf q.val).begun ≠ none →
    ∃ t, exec (.flush q) s = .next t ∧ t.get (SQ_CNT_FLUSH_PEND q.val) = 1 ∧ t.sq = s.sq ∧ s.only [SQ_CNT q.val] [] t) ∧
  (∀ (q : Fin 64) (s : State), s.inReset 0x11 = false → (s.sqOf q.val).begun = none →
    ∃ t, exec (.flush q) s = .next t ∧ (t.sqOf q.val).items = [] ∧ (t.sqOf q.val).part = (s.sqOf q.val).part ∧
      t.get (SQ_CNT_COUNT q.val) = 0 ∧ t.get (SQ_CNT_FLUSH_PEND q.val) = 0 ∧ t.get SQ_EVT_FLUSH_DONE = 1 ∧
      t.get (SQ_CNT_LOST q.val) = s.get (SQ_CNT_LOST q.val) ∧ s.only [SQ_CNT q.val, SQ_EVT] [.sq] t) ∧
  (∀ (q : Fin 64) (s : State), s.inReset 0x11 = false → s.on (SQ_CNT_FLUSH_PEND q.val) = true → (s.sqOf q.val).begun = none →
    ∃ t, exec (.flushTakeEffect q) s = .next t ∧ (t.sqOf q.val).items = [] ∧ (t.sqOf q.val).part = (s.sqOf q.val).part ∧
      t.get (SQ_CNT_COUNT q.val) = 0 ∧ t.get (SQ_CNT_FLUSH_PEND q.val) = 0 ∧ t.get SQ_EVT_FLUSH_DONE = 1 ∧
      t.get (SQ_CNT_LOST q.val) = s.get (SQ_CNT_LOST q.val) ∧ s.only [SQ_CNT q.val, SQ_EVT] [.sq] t) ∧
  (∀ (q : Fin 64) (i : SqItem) (s : State), (s.sqOf q.val).begun = some i → ∃ t, exec (.flushTakeEffect q) s = .next t ∧ s.only [] [] t) ∧
  (∀ (q : Fin 64) (s : State), s.inReset 0x11 = false →
    ∃ t, exec (.lostClr q) s = .next t ∧ t.get (SQ_CNT_LOST q.val) = 0 ∧ t.get (SQ_CNT_COUNT q.val) = s.get (SQ_CNT_COUNT q.val) ∧
      s.only [SQ_CNT q.val] [] t) ∧
  (∀ (q : Fin 64) (i : SqItem) (s : State), s.inReset 0x11 = false → softCode (s.get (SQ_CFG_CONS q.val)) = true → (s.sqOf q.val).begun = some i →
    s.get (SQ_LVL_LEVEL q.val) = 0 → s.on (SQ_CNT_FLUSH_PEND q.val) = false →
    ∃ t, exec (.adv q) s = .next t ∧ (t.sqOf q.val).begun = none ∧ (t.sqOf q.val).items = (s.sqOf q.val).items ∧
      t.get (SQ_CNT_BUSY q.val) = 0 ∧ s.only [SQ_CNT q.val] [.sq] t) ∧
  (∀ (q : Fin 64) (i : SqItem) (s : State), s.inReset 0x11 = false → softCode (s.get (SQ_CFG_CONS q.val)) = true →
    (s.sqOf q.val).begun = some i → s.on (SQ_CNT_FLUSH_PEND q.val) = true →
    ∃ t, exec (.adv q) s = .next t ∧ (t.sqOf q.val).begun = none ∧ (t.sqOf q.val).items = [] ∧ t.get (SQ_CNT_FLUSH_PEND q.val) = 0 ∧
      t.get SQ_EVT_FLUSH_DONE = 1 ∧ t.mem = s.mem) ∧
  (∀ (q : Fin 64) (s : State), s.inReset 0x11 = false → (s.sqOf q.val).begun = none → ∃ t, exec (.adv q) s = .next t ∧ s.only [] [] t) ∧
  (∀ (q : Fin 64) (nw : BitVec 10) (s : State), s.inReset 0x11 = false → s.on (SQ_CFG_EN q.val) = true → softCode (s.get (SQ_CFG_PROD q.val)) = true →
    1 ≤ nw.toNat → nw.toNat ≤ s.itemW q.val → (s.sqOf q.val).used.length < s.itemsMax q.val →
    (s.sqOf q.val).closes = [] → s.moverWaits 4 (s.slotOff q.val (s.tailSlot q.val)) (8 + 4 * nw.toNat) = false →
    s.lockedOut (bankOf (s.slotOff q.val (s.tailSlot q.val))) 4 = false →
    s.mayWrite 4 (bankOf (s.slotOff q.val (s.tailSlot q.val))) = true → s.get (SQ_LVL_LEVEL q.val) = 0 →
    ∃ t, exec (.sqCommit q nw) s = .next t ∧ (t.sqOf q.val).items = (s.sqOf q.val).items ++ [⟨s.tailSlot q.val, none⟩] ∧
      t.get (SQ_CNT_COUNT q.val) = (s.sqOf q.val).items.length + 1 ∧
      t.load (s.slotOff q.val (s.tailSlot q.val)) 8 = nw.toNat + Config.softStamp q.val s.now % 2 ^ 32 * 2 ^ 32 ∧
      (∀ a, a < s.slotOff q.val (s.tailSlot q.val) ∨ s.slotOff q.val (s.tailSlot q.val) + 8 ≤ a → t.byte a = s.byte a) ∧
      s.only [SQ_CNT q.val] [.sq, .mem, .store, .live] t) ∧
  (∀ (q : Fin 32) (nw : BitVec 10) (s : State), s.inReset 0x11 = false → s.on (SQ_CFG_EN q.val) = true → softCode (s.get (SQ_CFG_PROD q.val)) = true →
    1 ≤ nw.toNat → nw.toNat ≤ s.itemW q.val → (s.sqOf q.val).used.length < s.itemsMax q.val →
    (s.sqOf q.val).closes = [] → s.moverWaits 4 (s.slotOff q.val (s.tailSlot q.val)) (8 + 4 * nw.toNat) = false →
    s.get (SQ_LVL_LEVEL q.val) = (s.sqOf q.val).items.length + 1 → (s.sqOf q.val).lvlUp = false →
    ∃ t, exec (.sqCommit ⟨q.val, by omega⟩ nw) s = .next t ∧ t.getBit SQ_LVLPEND_LO_Q q.val = true ∧ (t.sqOf q.val).lvlUp = true) ∧
  (∀ (q : Fin 64) (nw : BitVec 10) (i : SqItem) (r : List SqItem) (s : State), s.inReset 0x11 = false → s.on (SQ_CFG_EN q.val) = true →
    softCode (s.get (SQ_CFG_PROD q.val)) = true → 1 ≤ nw.toNat → nw.toNat ≤ s.itemW q.val → (s.sqOf q.val).begun = none →
    (s.sqOf q.val).items = i :: r → r.length + 1 = s.itemsMax q.val → ((s.sqOf q.val).items.map (·.slot)) = List.range (s.itemsMax q.val) →
    s.get (SQ_CNT_LOST q.val) < 65535 → (s.sqOf q.val).closes = [] →
    s.moverWaits 4 (s.slotOff q.val (s.tailSlot q.val)) (8 + 4 * nw.toNat) = false →
    ∃ t, exec (.sqCommit q nw) s = .next t ∧ (t.sqOf q.val).items = r ++ [⟨i.slot, none⟩] ∧
      t.get (SQ_CNT_LOST q.val) = s.get (SQ_CNT_LOST q.val) + 1 ∧ t.get SQ_EVT_LOST = 1) ∧
  (∀ (q : Fin 64) (nw : BitVec 10) (s : State), s.inReset 0x11 = false → nw.toNat = 0 ∨ s.itemW q.val < nw.toNat →
    ∃ t, exec (.sqCommit q nw) s = .next t ∧ s.only [] [] t) ∧
  (∀ (q : Fin 64) (who : Who) (i : SqItem) (r : List SqItem) (s : State), s.inReset 0x11 = false → s.on (SQ_CFG_EN q.val) = true →
    softCode (s.get (SQ_CFG_CONS q.val)) = true → (s.sqOf q.val).begun = none → (s.sqOf q.val).items = i :: r → i.ack = none →
    r.length < 1024 → s.on (SQ_CNT_FLUSH_PEND q.val) = false → s.slotAddr q.val i.slot < 2 ^ 64 →
    ∃ t, exec (.sqHeadRead q who) s = .next t ∧ t.resp = some ⟨whoKey who, 0, s.slotAddr q.val i.slot⟩ ∧ (t.sqOf q.val).begun = some i ∧
      (t.sqOf q.val).items = r ∧ t.get (SQ_CNT_COUNT q.val) = r.length ∧ t.get (SQ_CNT_BUSY q.val) = 1 ∧ t.mem = s.mem) ∧
  (∀ (q : Fin 64) (who : Who) (s : State), s.inReset 0x11 = false → (s.sqOf q.val).begun = none → (s.sqOf q.val).items = [] →
    ∃ t, exec (.sqHeadRead q who) s = .next t ∧ t.resp = some ⟨whoKey who, 0, 0⟩ ∧ s.only [] [.resp] t) ∧
  (∀ (q : Fin 64) (i : SqItem) (r : List SqItem) (s : State), s.inReset 0x11 = false → s.locMayTake q.val = true →
    (s.sqOf q.val).begun = none → (s.sqOf q.val).items = i :: r → i.ack = none → s.on (SQ_CFG_CRED q.val) = true →
    1 ≤ s.load (s.slotOff q.val i.slot) 4 % 1024 → s.load (s.slotOff q.val i.slot) 4 % 1024 ≤ s.itemW q.val →
    s.moverFree 4 (s.slotOff q.val i.slot) (8 + 4 * s.itemW q.val) →
    ∃ t, exec (.locConsumerTake q) s = .next t ∧ (t.sqOf q.val).items = r ∧ (t.sqOf q.val).begun = none ∧
      (t.sqOf q.val).unack = (s.sqOf q.val).unack + 1 ∧ t.get (SQ_CNT_BUSY q.val) = 0 ∧ t.mem = s.mem) ∧
  (∀ (q : Fin 64) (i : SqItem) (s : State), (s.sqOf q.val).items = [i] → i.ack = none → s.on (SQ_CFG_EN q.val) = true →
    s.get (SQ_CFG_CONS q.val) = 0x10 → s.inReset 0x11 = false → (s.sqOf q.val).begun = none → s.on (SQ_CNT_FLUSH_PEND q.val) = false →
    s.open_ 0x11 = true → s.on (SQ_CFG_CRED q.val) = false → s.fwd.locWait = [] → s.open_ 0x0D = true → s.get (SQ_DEST0_CLASS q.val) = 3 → s.get (SQ_DEST1_MCAST q.val) = 0 →
    s.get (SQ_DEST0_DST_NODE q.val) = s.node → s.node ≠ 0xFF → s.get (SQ_DEST0_DST_CHIP q.val) = s.chip → s.on RED_TWIN_CTL_TWIN = false →
    s.load (s.slotOff q.val i.slot) 4 % 1024 = 2 → s.moverFree 4 (s.slotOff q.val i.slot) 16 → 2 ≤ s.itemW q.val → s.occ 4 5 + 2 ≤ s.limit 4 5 →
    ∃ t, exec (.locConsumerTake q) s = .next t ∧ (t.sqOf q.val).items = [] ∧
      (t.queue 4 5).map (fun x => (frQueue x.f, x.f.payload.length)) =
        (s.queue 4 5).map (fun x => (frQueue x.f, x.f.payload.length)) ++ [(s.get (SQ_DEST0_DST_Q q.val), 1)] ∧ t.mem = s.mem) ∧
  (∀ (q : Fin 64) (s : State), s.on (SQ_CFG_EN q.val) = true → s.on (SQ_CFG_CRED q.val) = true → s.inReset 0x11 = false → s.get (SQ_LVL_LEVEL q.val) = 0 →
    ∃ t, exec (.creditAckRx q) s = .next t ∧ (t.sqOf q.val).unack = (s.sqOf q.val).unack - 1 ∧ (t.sqOf q.val).items = (s.sqOf q.val).items ∧
      s.only [SQ_CNT q.val] [.sq] t) ∧
  (∀ (q : Fin 64) (s : State), s.on (SQ_CFG_CRED q.val) = false → ∃ t, exec (.creditAckRx q) s = .next t ∧ s.only [] [] t) ∧
  (∀ (q : Fin 64) (s : State), s.inReset 0x11 = false → 0 < (s.sqOf q.val).unack → s.get (SQ_LVL_LEVEL q.val) = 0 →
    ∃ t, exec (.credTo q) s = .next t ∧ (t.sqOf q.val).unack = (s.sqOf q.val).unack - 1 ∧ t.get SQ_EVT_CRED_TO = 1 ∧
      s.only [SQ_CNT q.val, SQ_EVT] [.sq] t)

/-- R361 to R366, R369, R370, R372, R377 to R380, R382, R383. -/
def Obligations.ContactsAndLines : Prop :=
  (∀ (n : Fin 8) (code : BitVec 16) (r : Nat) (s : State), s.inReset 0x12 = false → s.d2dLost = false → s.on (LSV_SCI_CFG_EN n.val) = true →
    s.sciErr n.val = false → s.on (LSV_SCI_STAT_INIT n.val) = false → sciOhms code.toInt (s.get (LSV_SCI_CFG_OFFSET n.val)) = (r, false) →
    s.sciFalls n.val r false = s.get (LSV_SCI_STAT_STATE n.val) →
    ∃ t, exec (.sciSample n code) s = .next t ∧ t.get (LSV_SCI_R_OHMS n.val) = r ∧ t.get (LSV_SCI_R_EXTV n.val) = 0 ∧
      t.get (LSV_SCI_STAT_DCNT n.val) = 0 ∧ t.get (LSV_SCI_STAT_STATE n.val) = s.get (LSV_SCI_STAT_STATE n.val) ∧
      s.only [LSV_SCI_R n.val, LSV_SCI_STAT n.val] [] t) ∧
  (∀ (n : Fin 8) (code : BitVec 16) (r : Nat) (s : State), s.inReset 0x12 = false → s.d2dLost = false → s.on (LSV_SCI_CFG_EN n.val) = true →
    s.sciErr n.val = false → sciOhms code.toInt (s.get (LSV_SCI_CFG_OFFSET n.val)) = (r, false) →
    s.sciFalls n.val r false ≠ s.get (LSV_SCI_STAT_STATE n.val) → s.get (LSV_SCI_STAT_CAND n.val) = s.sciFalls n.val r false →
    s.get (LSV_SCI_STAT_DCNT n.val) + 1 < s.get (LSV_SCI_CFG_DEB n.val) →
    ∃ t, exec (.sciSample n code) s = .next t ∧ t.get (LSV_SCI_STAT_DCNT n.val) = s.get (LSV_SCI_STAT_DCNT n.val) + 1 ∧
      t.get (LSV_SCI_STAT_STATE n.val) = s.get (LSV_SCI_STAT_STATE n.val) ∧ s.only [LSV_SCI_R n.val, LSV_SCI_STAT n.val] [] t) ∧
  (∀ (n : Fin 8) (code : BitVec 16) (r : Nat) (s : State), s.inReset 0x12 = false → s.d2dLost = false → s.on (LSV_SCI_CFG_EN n.val) = true →
    s.sciErr n.val = false → sciOhms code.toInt (s.get (LSV_SCI_CFG_OFFSET n.val)) = (r, false) → s.sciFalls n.val r false = 4 →
    s.get (LSV_SCI_STAT_STATE n.val) ≠ 4 → s.get (LSV_SCI_STAT_CAND n.val) = 4 →
    s.get (LSV_SCI_STAT_DCNT n.val) + 1 = s.get (LSV_SCI_CFG_DEB n.val) → s.on (LSV_SCI_CFG_FLT n.val) = true → s.roomy →
    (∀ k, k < 16 → s.actArmed k = false) →
    ∃ t, exec (.sciSample n code) s = .next t ∧ t.get (LSV_SCI_STAT_STATE n.val) = 4 ∧ t.get (LSV_SCI_STAT_INIT n.val) = 0 ∧
      t.get (LSV_SCI_STAT_DCNT n.val) = 0 ∧ t.getBit LSV_EVT_SCI n.val = true ∧ s.sent t 0x12 0x53 n.val ∧
      s.only [LSV_SCI_R n.val, LSV_SCI_STAT n.val, LSV_EVT] [.fltQ] t) ∧
  (∀ (n : Fin 8) (code : BitVec 16) (s : State), s.inReset 0x12 = true ∨ s.on (LSV_SCI_CFG_EN n.val) = false →
    ∃ t, exec (.sciSample n code) s = .next t ∧ s.only [] [] t) ∧
  (∀ (a : Nat) (s : State), s.inReset 0x12 = false → s.get MPC_MODE_CUR ≠ 1 → s.lsv.actQ = [(5, a)] → s.lsv.playQ.length < 8 →
    ∃ t, exec .actionQueueDrain s = .next t ∧ t.lsv.actQ = [] ∧ t.lsv.playQ = s.lsv.playQ ++ [(a, false)] ∧ t.get LSV_STAT_PLAY_PEND = 1 ∧
      s.only [LSV_STAT] [.lsv] t) ∧
  (∀ (a b : Fin 16) (s : State), s.inReset 0x12 = false → s.get MPC_MODE_CUR ≠ 1 → s.lsv.actQ = [(1, a.val), (2, b.val)] → s.inReset 0x10 = false → a ≠ b →
    s.gg.efSet = 0 →
    ∃ t, exec .actionQueueDrain s = .next t ∧ t.lsv = { s.lsv with actQ := [] } ∧ t.getBit GG_EF_EF a.val = true ∧ t.getBit GG_EF_EF b.val = false ∧
      s.only [GG_EF] [.lsv, .gg] t) ∧
  (∀ (s : State), s.get MPC_MODE_CUR = 1 → ∃ t, exec .actionQueueDrain s = .next t ∧ s.only [] [] t) ∧
  (∀ (who : Who) (m : Nat) (isl : Bool) (r : List (Nat × Bool)) (s : State), s.inReset 0x12 = false → s.lsv.playQ = (m, isl) :: r → m < 256 →
    ∃ t, exec (.playqRead who) s = .next t ∧ t.resp = some ⟨whoKey who, 0, m + 2 ^ 8 + 2 ^ 9 * b2n isl⟩ ∧ t.lsv = { s.lsv with playQ := r } ∧
      t.get LSV_STAT_PLAY_PEND = b2n (r != []) ∧ s.only [LSV_STAT] [.resp, .lsv] t) ∧
  (∀ (who : Who) (s : State), s.inReset 0x12 = false → s.lsv.playQ = [] →
    ∃ t, exec (.playqRead who) s = .next t ∧ t.resp = some ⟨whoKey who, 0, 0⟩ ∧ s.only [] [.resp] t) ∧
  (∀ (n : Fin 8) (vre vim ire iim : Word) (p : Phasors) (s : State), s.inReset 0x12 = false → p = ⟨vre.toInt, vim.toInt, ire.toInt, iim.toInt⟩ →
    s.lsStatus n.val p = 0 → (s.lsCh n.val).capt = none → (s.lsCh n.val).sweep = none → s.d2dLost = false →
    s.on (LSV_LS_RES_ALARM n.val) = false → 50000000 ≤ s.now → s.now < 2 ^ 63 →
    ∃ t, exec (.lsWindowEnd n vre vim ire iim) s = .next t ∧ t.get (LSV_LS_RES_STATUS n.val) = 0 ∧
      t.rd (LSV_LS_Z_RE n.val) = zWord (s.zOf n.val p).1 ∧ t.rd (LSV_LS_Z_IM n.val) = zWord (s.zOf n.val p).2 ∧
      t.get (LSV_LS_AMP_V_AMP n.val) = ampCodes p.v2 ∧ t.get (LSV_LS_AMP_I_AMP n.val) = ampCodes p.i2 ∧
      t.rd64 (LSV_LS_RES_T n.val) = s.now / 25000000 * 25000000 - 25000000 ∧ t.get (LSV_LS_RES_ALARM n.val) = 0 ∧
      t.get (LSV_LS_RES_ACNT n.val) = 0 ∧
      s.only [LSV_LS_RES n.val, LSV_LS_RES_T n.val, LSV_LS_RES_T n.val + 4, LSV_LS_Z_RE n.val, LSV_LS_Z_IM n.val, LSV_LS_ZMAG n.val,
        LSV_LS_ZPH n.val, LSV_LS_AMP n.val] [.lsv] t) ∧
  (∀ (n : Fin 8) (vre vim ire iim : Word) (p : Phasors) (st : Nat) (s : State), s.inReset 0x12 = false → s.d2dLost = false →
    p = ⟨vre.toInt, vim.toInt, ire.toInt, iim.toInt⟩ → s.lsStatus n.val p = st → 1 ≤ st → st ≤ 4 →
    (s.lsCh n.val).capt = none → (s.lsCh n.val).sweep = none → s.on (LSV_LS_RES_ALARM n.val) = false →
    s.get (LSV_LS_RES_ACNT n.val) + 1 = s.get (LSV_LS_CTL_ALARM_N n.val) → s.on (LSV_LS_CTL_FLT n.val) = true → s.roomy →
    ∃ t, exec (.lsWindowEnd n vre vim ire iim) s = .next t ∧ t.get (LSV_LS_RES_STATUS n.val) = st ∧ t.get (LSV_LS_RES_ALARM n.val) = 1 ∧
      t.get (LSV_LS_RES_CAUSE n.val) = st ∧ t.get (LSV_LS_RES_ACNT n.val) = 0 ∧ t.getBit LSV_EVT_LS n.val = true ∧
      s.sent t 0x12 0x55 (n.val + 2 ^ 8 * st + 2 ^ 12) ∧ s.parts [.regs, .lsv, .fltQ] t) ∧
  (∀ (n : Fin 8) (vre vim ire iim : Word) (s : State), s.d2dLost = true ∨ s.inReset 0x12 = true →
    ∃ t, exec (.lsWindowEnd n vre vim ire iim) s = .next t ∧ s.only [] [] t) ∧
  (∀ (n : Fin 8) (s : State), s.inReset 0x12 = false → s.lsBusy n.val = false →
    ∃ t, exec (.capture n) s = .next t ∧ t.get (LSV_LS_CMD_CAPT_BUSY n.val) = 1 ∧ (t.lsCh n.val).capt = some (8, 0, 0) ∧
      s.only [LSV_LS_CMD n.val] [.lsv] t) ∧
  (∀ (n : Fin 8) (s : State), s.inReset 0x12 = false → s.lsBusy n.val = false → s.get (LSV_LS_RES_STATUS n.val) = 0 →
    s.lsCfgErr n.val = false → s.on (LSV_LS_CTL_EN n.val) = true → s.on (LSV_LS_CTL_PILOT_EN n.val) = true →
    ∃ t, exec (.sweep n) s = .next t ∧ t.get (LSV_LS_CMD_SWP_BUSY n.val) = 1 ∧ (t.lsCh n.val).sweep.isSome = true ∧ s.parts [.regs, .lsv] t) ∧
  (∀ (n : Fin 8) (c : Instr) (s : State), s.inReset 0x12 = false → s.lsBusy n.val = true → c ∈ [Instr.capture n, .sweep n] →
    ∃ t, exec c s = .next t ∧ t.get LSV_STAT_CMD_REJ = 1 ∧ s.only [LSV_STAT] [] t)

/-- R391, R392, R394, R395, R398 to R403. Port states: 0 OFF, 1 INTEGRATING, 2 ACTIVE, 3 LISTEN, 4 BUS_OFF, 5 CFG_ERR. -/
def Obligations.MessageBusPorts : Prop :=
  (∀ (n : Fin 4) (s : State), s.inReset 0x13 = false → s.get (MB_STAT_STATE n.val) = 1 →
    ∃ t, exec (.canIntegrated n) s = .next t ∧ t.get (MB_STAT_STATE n.val) = (if s.mbListen n.val then 3 else 2) ∧
    s.only [MB_STAT n.val] [] t) ∧
  (∀ (n : Fin 4) (s : State), s.inReset 0x13 = false → s.get (MB_STAT_STATE n.val) ≠ 1 → ∃ t, exec (.canIntegrated n) s = .next t ∧
    s.only [] [] t) ∧
  (∀ (n : Fin 4) (id : BitVec 29) (ide fdf brs esi : Bool) (dlc : BitVec 4) (data : List Byte) (sof : DWord) (i : Nat) (s : State),
    s.open_ 0x13 = true → s.get (MB_STAT_STATE n.val) = 2 → s.mbListen n.val = false → (s.mbOf n.val).sending = none →
    (s.mbOf n.val).leave = false →
    (s.mbOf n.val).rxErr = 0 → fdf = false ∨ s.on (MB_CTL_FD n.val) = true →
    s.rxObject n.val (if ide then id.toNat else id.toNat % 2 ^ 11) ide = some i → i < 1536 → s.objBit (MB_NEW_OBJ n.val) i = true →
    (s.mbOf n.val).todo = [] → s.moverWaits 6 (s.objOff n.val i) 80 = false →
    ∃ t, exec (.canFrameRx n id ide fdf brs esi false dlc data sof) s = .next t ∧ t.objBit (MB_NEW_OBJ n.val) i = true ∧
      t.objBit (MB_LOST_OBJ n.val) i = true ∧ t.get (MB_EVT_LOST n.val) = 1 ∧ t.get (MB_EVT_RX n.val) = 1 ∧
      s.advanced t (MB_CNT n.val 3) 1 ∧ s.advanced t (MB_CNT n.val 0) 1 ∧ t.get (MB_STAT_STATE n.val) = 2) ∧
  (∀ (n : Fin 4) (id : BitVec 29) (fdf brs esi : Bool) (dlc : BitVec 4) (data : List Byte) (sof : DWord) (i : Nat) (s : State),
    s.open_ 0x13 = true → s.get (MB_STAT_STATE n.val) = 3 → s.mbListen n.val = true → (s.mbOf n.val).sending = none →
    (s.mbOf n.val).leave = false →
    fdf = false ∨ s.on (MB_CTL_FD n.val) = true → s.rxObject n.val id.toNat true = some i → i < 1536 →
    s.mayWrite 6 (bankOf (s.objOff n.val i)) = true → s.mayWrite 6 (bankOf (s.objOff n.val i + 8)) = true →
    (s.mbOf n.val).todo = [] → s.moverFree 6 (s.objOff n.val i) 80 → s.objOff n.val i + 80 ≤ storeSize →
    ∃ t, exec (.canFrameRx n id true fdf brs esi false dlc data sof) s = .next t ∧
      t.load (s.objOff n.val i) 8 % 2 ^ 48 = id.toNat + 2 ^ 29 + b2n fdf * 2 ^ 30 + b2n brs * 2 ^ 31 + dlc.toNat * 2 ^ 32 + b2n esi * 2 ^ 36 ∧
      t.load (s.objOff n.val i) 8 / 2 ^ 48 % 2 = 0 ∧ t.load (s.objOff n.val i + 8) 8 = sof.toNat) ∧
  (∀ (n : Fin 4) (id : BitVec 29) (ide brs esi : Bool) (dlc : BitVec 4) (data : List Byte) (sof : DWord) (s : State),
    s.open_ 0x13 = true → s.get (MB_STAT_STATE n.val) = 2 → s.mbListen n.val = false → (s.mbOf n.val).sending = none →
    (s.mbOf n.val).leave = false →
    (s.mbOf n.val).rxErr = 0 → s.rxObject n.val (if ide then id.toNat else id.toNat % 2 ^ 11) ide = none →
    ∃ t, exec (.canFrameRx n id ide false brs esi false dlc data sof) s = .next t ∧ t.get (MB_EVT_NOMATCH n.val) = 1 ∧
      s.advanced t (MB_CNT n.val 2) 1 ∧ t.mem = s.mem ∧ s.only [MB_EVT n.val, MB_STAT n.val] [.live, .mb] t) ∧
  (∀ (n : Fin 4) (i : Fin 1536) (s : State), s.inReset 0x13 = false → s.objIs n.val i.val true = true →
    s.objBit (MB_TXPEND_OBJ n.val) i.val = false →
    s.get (MB_STAT_STATE n.val) = 2 →
    ∃ t, exec (.txReq n (BitVec.ofNat 11 i.val)) s = .next t ∧ t.objBit (MB_TXPEND_OBJ n.val) i.val = true ∧
      t.objBit (MB_TXDONE_OBJ n.val) i.val = false ∧ t.objBit (MB_TXFAIL_OBJ n.val) i.val = false ∧ s.parts [.regs] t) ∧
  (∀ (n : Fin 4) (i : BitVec 11) (s : State), s.inReset 0x13 = false →
    s.objIs n.val i.toNat true = false ∨ s.objBit (MB_TXPEND_OBJ n.val) i.toNat = true →
    ∃ t, exec (.txReq n i) s = .next t ∧ t.get (MB_EVT_CMD_REJ n.val) = 1 ∧ s.only [MB_EVT n.val] [] t) ∧
  (∀ (n : Fin 4) (i : Fin 1536) (s : State), s.inReset 0x13 = false → s.objIs n.val i.val true = true →
    s.objBit (MB_TXPEND_OBJ n.val) i.val = false →
    s.get (MB_STAT_STATE n.val) = 3 → s.on (MB_CTL_STBY_TX n.val) = false →
    ∃ t, exec (.txReq n (BitVec.ofNat 11 i.val)) s = .next t ∧ t.objBit (MB_TXPEND_OBJ n.val) i.val = false ∧
      t.objBit (MB_TXFAIL_OBJ n.val) i.val = true ∧ t.get (MB_TXLOG_INDEX n.val) = i.val ∧ t.get (MB_TXLOG_CAUSE n.val) = 4 ∧
      t.get (MB_EVT_TXFAIL n.val) = 1 ∧ s.parts [.regs] t) ∧
  (∀ (n : Fin 4) (i : Fin 1536) (s : State), s.inReset 0x13 = false → s.objIs n.val i.val true = true →
    s.objBit (MB_TXPEND_OBJ n.val) i.val = true →
    (s.mbOf n.val).sending = none →
    ∃ t, exec (.txAbort n (BitVec.ofNat 11 i.val)) s = .next t ∧ t.objBit (MB_TXPEND_OBJ n.val) i.val = false ∧
      t.objBit (MB_TXFAIL_OBJ n.val) i.val = true ∧ t.get (MB_TXLOG_INDEX n.val) = i.val ∧ t.get (MB_TXLOG_CAUSE n.val) = 5 ∧
      t.get (MB_EVT_TXFAIL n.val) = 1 ∧ s.parts [.regs] t) ∧
  (∀ (n : Fin 4) (i : Fin 1536) (x : MbTx) (s : State), s.inReset 0x13 = false → s.objIs n.val i.val true = true →
    s.objBit (MB_TXPEND_OBJ n.val) i.val = true → (s.mbOf n.val).sending = some x → x.obj = i.val → x.dropped = false →
    ∃ t, exec (.txAbort n (BitVec.ofNat 11 i.val)) s = .next t ∧
    t.mbOf n.val = { s.mbOf n.val with sending := some { x with aborted := true } } ∧
      s.only [] [.mb] t) ∧
  (∀ (n : Fin 4) (i : BitVec 11) (s : State), s.inReset 0x13 = false → s.objBit (MB_TXPEND_OBJ n.val) i.toNat = false →
    ∃ t, exec (.txAbort n i) s = .next t ∧ s.only [] [] t) ∧
  (∀ (n : Fin 4) (sof : DWord) (i : Nat) (s : State), s.open_ 0x13 = true → s.get (MB_STAT_STATE n.val) = 2 → s.mbBusy n.val = false →
    s.txChoice n.val = some i →
    (s.mbOf n.val).todo = [] → s.moverFree 6 (s.objOff n.val i) 80 →
    ∃ t, exec (.canArbitration n true sof) s = .next t ∧ t.get (MB_STAT_TXING n.val) = 1 ∧
      (t.mbOf n.val).sending = some ⟨i, sof.toNat, (List.range 10).map fun k => BitVec.ofNat 64 (s.load (s.objOff n.val i + 8 * k) 8),
        s.get (MB_ERR_ECS n.val) == 1, false, false⟩ ∧
      t.mem = s.mem) ∧
  (∀ (n : Fin 4) (sof : DWord) (i : Nat) (s : State), s.open_ 0x13 = true → s.get (MB_STAT_STATE n.val) = 2 → s.mbBusy n.val = false →
    s.txChoice n.val = some i →
    s.on (MB_CTL_ONESHOT n.val) = false →
    (s.mbOf n.val).todo = [] → s.moverFree 6 (s.objOff n.val i) 80 →
    ∃ t, exec (.canArbitration n false sof) s = .next t ∧ t.get (MB_STAT_RXING n.val) = 1 ∧ (t.mbOf n.val).sending = none ∧
      s.advanced t (MB_CNT n.val 4) 1 ∧ t.objBit (MB_TXPEND_OBJ n.val) i = s.objBit (MB_TXPEND_OBJ n.val) i ∧ t.mem = s.mem) ∧
  (∀ (n : Fin 4) (sof : DWord) (i : Nat) (s : State), s.open_ 0x13 = true → s.get (MB_STAT_STATE n.val) = 2 → s.mbBusy n.val = false →
    s.txChoice n.val = some i →
    s.on (MB_CTL_ONESHOT n.val) = true → i < 1536 →
    (s.mbOf n.val).todo = [] → s.moverFree 6 (s.objOff n.val i) 80 →
    ∃ t, exec (.canArbitration n false sof) s = .next t ∧ t.get (MB_STAT_RXING n.val) = 1 ∧ t.objBit (MB_TXPEND_OBJ n.val) i = false ∧
      t.objBit (MB_TXFAIL_OBJ n.val) i = true ∧ t.get (MB_TXLOG_CAUSE n.val) = 1 ∧ t.get (MB_TXLOG_INDEX n.val) = i) ∧
  (∀ (n : Fin 4) (delay : BitVec 16) (x : MbTx) (s : State), s.inReset 0x13 = false → (s.mbOf n.val).sending = some x →
    x.dropped = false → x.obj < 1536 →
    s.get (MB_ERR_TEC n.val) = 0 → (s.mbOf n.val).rxErr = 0 → (s.mbOf n.val).leave = false → s.get (MB_STAT_STATE n.val) = 2 →
    s.mbListen n.val = false →
    (s.mbOf n.val).todo = [] → s.moverWaits 6 (s.objOff n.val x.obj) 80 = false →
    ∃ t, exec (.canTxEnd n true delay) s = .next t ∧ (t.mbOf n.val).sending = none ∧ t.objBit (MB_TXPEND_OBJ n.val) x.obj = false ∧
      t.objBit (MB_TXDONE_OBJ n.val) x.obj = true ∧ t.get (MB_EVT_TXDONE n.val) = 1 ∧ s.advanced t (MB_CNT n.val 1) 1 ∧
      t.get (MB_STAT_TXING n.val) = 0) ∧
  (∀ (n : Fin 4) (delay : BitVec 16) (x : MbTx) (s : State), s.inReset 0x13 = false → (s.mbOf n.val).sending = some x →
    x.dropped = false → x.aborted = false →
    (s.mbOf n.val).leave = false → s.get (MB_STAT_STATE n.val) = 2 → s.mbListen n.val = false → s.on (MB_CTL_ONESHOT n.val) = false →
    ∃ t, exec (.canTxEnd n false delay) s = .next t ∧ (t.mbOf n.val).sending = none ∧ t.get (MB_STAT_TXING n.val) = 0 ∧
      (∀ i, t.objBit (MB_TXPEND_OBJ n.val) i = s.objBit (MB_TXPEND_OBJ n.val) i) ∧ t.mem = s.mem) ∧
  (∀ (n : Fin 4) (delay : BitVec 16) (x : MbTx) (s : State), s.inReset 0x13 = false → (s.mbOf n.val).sending = some x →
    x.dropped = false → x.aborted = true → x.obj < 1536 →
    (s.mbOf n.val).leave = false → s.get (MB_STAT_STATE n.val) = 2 → s.mbListen n.val = false →
    ∃ t, exec (.canTxEnd n false delay) s = .next t ∧ (t.mbOf n.val).sending = none ∧ t.objBit (MB_TXPEND_OBJ n.val) x.obj = false ∧
      t.objBit (MB_TXFAIL_OBJ n.val) x.obj = true ∧ t.get (MB_TXLOG_CAUSE n.val) = 5 ∧ t.mem = s.mem) ∧
  (∀ (n : Fin 4) (kind : Fin 5) (field : Fin 7) (dphase : Bool) (s : State), s.inReset 0x13 = false → s.get (MB_STAT_STATE n.val) = 2 →
    field.val ≠ 6 →
    (s.mbOf n.val).rxErr < 95 → s.get (MB_ERR_TEC n.val) < 96 → (s.mbOf n.val).sending = none → (s.mbOf n.val).leave = false →
    s.mbListen n.val = false →
    ∃ t, exec (.canError n kind field dphase false false) s = .next t ∧ t.get (MB_ERRLOG_TYPE n.val) = kind.val + 1 ∧
      t.get (MB_ERRLOG_FIELD n.val) = field.val ∧ t.get (MB_ERRLOG_TX n.val) = 0 ∧ t.get (MB_ERRLOG_DPHASE n.val) = b2n dphase ∧
      (t.mbOf n.val).rxErr = (s.mbOf n.val).rxErr + 1 ∧ t.get (MB_ERR_REC n.val) = (s.mbOf n.val).rxErr + 1 ∧
      s.advanced t (MB_CNT n.val (5 + kind.val)) 1 ∧ s.only [MB_ERRLOG n.val, MB_ERR n.val, MB_STAT n.val] [.live, .mb] t) ∧
  (∀ (n : Fin 4) (kind : Fin 5) (field : Fin 7) (dphase : Bool) (x : MbTx) (s : State), s.inReset 0x13 = false →
    s.get (MB_STAT_STATE n.val) = 2 →
    (s.mbOf n.val).sending = some x → 248 ≤ s.get (MB_ERR_TEC n.val) → x.aborted = false →
    s.on (MB_CTL_ONESHOT n.val) = false → (s.mbOf n.val).leave = false → s.get (MB_ERR_ECS n.val) = 1 → s.roomy →
    ∃ t, exec (.canError n kind field dphase true false) s = .next t ∧ t.get (MB_STAT_STATE n.val) = 4 ∧ t.get (MB_EVT_BUSOFF n.val) = 1 ∧
      t.get (MB_ERR_ECS n.val) = 2 ∧ s.sent t 0x13 0x58 n.val ∧ (t.mbOf n.val).sending = none ∧
      (t.mbOf n.val).recover = s.on (MB_CTL_AUTO_REC n.val) ∧ t.get (MB_STAT_RCNT n.val) = 0 ∧ s.advanced t (MB_CNT n.val 10) 1 ∧
    t.mem = s.mem) ∧
  (∀ (n : Fin 4) (s : State), s.inReset 0x13 = false → s.get (MB_STAT_STATE n.val) = 4 → (s.mbOf n.val).recover = false →
    ∃ t, exec (.restart n) s = .next t ∧ t.mbOf n.val = { s.mbOf n.val with recover := true } ∧ t.get (MB_STAT_RCNT n.val) = 0 ∧
      s.only [MB_STAT n.val] [.mb] t) ∧
  (∀ (n : Fin 4) (s : State), s.inReset 0x13 = false → s.get (MB_STAT_STATE n.val) ≠ 4 → ∃ t, exec (.restart n) s = .next t ∧
    s.only [] [] t) ∧
  (∀ (n : Fin 4) (s : State), s.inReset 0x13 = false → s.get (MB_STAT_STATE n.val) = 4 → (s.mbOf n.val).recover = true →
    s.get (MB_STAT_RCNT n.val) < 127 →
    ∃ t, exec (.recoveryOccurrence n) s = .next t ∧ t.get (MB_STAT_RCNT n.val) = s.get (MB_STAT_RCNT n.val) + 1 ∧
    s.only [MB_STAT n.val] [] t) ∧
  (∀ (n : Fin 4) (s : State), s.inReset 0x13 = false → s.get (MB_STAT_STATE n.val) = 4 → (s.mbOf n.val).recover = true →
    s.get (MB_STAT_RCNT n.val) = 127 →
    ∃ t, exec (.recoveryOccurrence n) s = .next t ∧ t.get (MB_ERR_TEC n.val) = 0 ∧ t.get (MB_ERR_REC n.val) = 0 ∧
    t.get (MB_ERR_ECS n.val) = 0 ∧
      t.get (MB_EVT_RECOVERED n.val) = 1 ∧ t.get (MB_STAT_STATE n.val) = (if s.mbListen n.val then 3 else 2) ∧
      s.only [MB_STAT n.val, MB_ERR n.val, MB_EVT n.val] [.mb] t) ∧
  (∀ (n : Fin 4) (s : State), s.inReset 0x13 = false → s.get (MB_STAT_STATE n.val) = 4 → (s.mbOf n.val).recover = true →
    s.get (MB_STAT_RCNT n.val) = 127 →
    ∃ t, exec (.canRecovered n) s = .next t ∧ t.get (MB_ERR_TEC n.val) = 0 ∧ t.get (MB_ERR_REC n.val) = 0 ∧ t.get (MB_ERR_ECS n.val) = 0 ∧
      t.get (MB_EVT_RECOVERED n.val) = 1 ∧ t.get (MB_STAT_STATE n.val) = (if s.mbListen n.val then 3 else 2) ∧
      s.only [MB_STAT n.val, MB_ERR n.val, MB_EVT n.val] [.mb] t) ∧
  (∀ (n : Fin 4) (id : BitVec 29) (ide fdf brs esi : Bool) (dlc : BitVec 4) (data : List Byte) (sof : DWord) (s : State),
    s.open_ 0x13 = true → s.get (MB_STAT_STATE n.val) = 2 → s.mbListen n.val = false → (s.mbOf n.val).sending = none →
    (s.mbOf n.val).leave = false →
    (s.mbOf n.val).rxErr = 0 → fdf = false ∨ s.on (MB_CTL_FD n.val) = true →
    ∃ t, exec (.canFrameRx n id ide fdf brs esi true dlc data sof) s = .next t ∧ s.advanced t (MB_CNT n.val 11) 1 ∧
      t.mem = s.mem ∧ s.only [MB_STAT n.val] [.live, .mb] t) ∧
  (∀ (n : Fin 4) (id : BitVec 29) (ide brs esi rtr : Bool) (dlc : BitVec 4) (data : List Byte) (sof : DWord) (s : State),
    s.open_ 0x13 = true → s.get (MB_STAT_STATE n.val) = 2 → s.on (MB_CTL_FD n.val) = false →
    (s.mbOf n.val).rxErr < 95 → s.get (MB_ERR_TEC n.val) < 96 → (s.mbOf n.val).sending = none → (s.mbOf n.val).leave = false →
    s.mbListen n.val = false →
    ∃ t, exec (.canFrameRx n id ide true brs esi rtr dlc data sof) s = .next t ∧ t.get (MB_ERRLOG_TYPE n.val) = 3 ∧
      t.get (MB_ERRLOG_TX n.val) = 0 ∧ t.get (MB_ERR_REC n.val) = (s.mbOf n.val).rxErr + 1 ∧
      s.advanced t (MB_CNT n.val 7) 1 ∧ t.mem = s.mem ∧ s.only [MB_ERRLOG n.val, MB_ERR n.val, MB_STAT n.val] [.live, .mb] t) ∧
  (∀ (n : Fin 4) (kind : Fin 5) (field : Fin 7) (dphase exempt : Bool) (s : State),
    s.inReset 0x13 = false → s.get (MB_STAT_STATE n.val) = 2 ∧ s.mbListen n.val = false ∧
    exempt = true ∨ s.get (MB_STAT_STATE n.val) = 3 ∧ s.mbListen n.val = true →
    (s.mbOf n.val).sending = none → (s.mbOf n.val).leave = false →
    ∃ t, exec (.canError n kind field dphase false exempt) s = .next t ∧ t.get (MB_ERRLOG_TYPE n.val) = kind.val + 1 ∧
      t.get (MB_ERRLOG_FIELD n.val) = field.val ∧ t.get (MB_ERRLOG_TX n.val) = 0 ∧ t.get (MB_ERRLOG_DPHASE n.val) = b2n dphase ∧
      (t.mbOf n.val).rxErr = (s.mbOf n.val).rxErr ∧ t.rd (MB_ERR n.val) = s.rd (MB_ERR n.val) ∧
      s.advanced t (MB_CNT n.val (5 + kind.val)) 1 ∧ s.only [MB_ERRLOG n.val, MB_STAT n.val] [.live, .mb] t) ∧
  (∀ (n : Fin 4) (kind : Fin 5) (dphase : Bool) (s : State), s.inReset 0x13 = false → s.get (MB_STAT_STATE n.val) = 2 →
    (s.mbOf n.val).rxErr < 88 → s.get (MB_ERR_TEC n.val) < 96 → (s.mbOf n.val).sending = none → (s.mbOf n.val).leave = false →
    s.mbListen n.val = false →
    ∃ t, exec (.canError n kind 6 dphase false false) s = .next t ∧ t.get (MB_ERRLOG_FIELD n.val) = 6 ∧
      t.get (MB_ERR_REC n.val) = (s.mbOf n.val).rxErr + 8 ∧ s.advanced t (MB_CNT n.val (5 + kind.val)) 1 ∧
      s.only [MB_ERRLOG n.val, MB_ERR n.val, MB_STAT n.val] [.live, .mb] t) ∧
  (∀ (n : Fin 4) (kind : Fin 5) (field : Fin 7) (dphase : Bool) (x : MbTx) (s : State), s.inReset 0x13 = false →
    s.get (MB_STAT_STATE n.val) = 2 →
    (s.mbOf n.val).sending = some x → s.get (MB_ERR_TEC n.val) < 88 → (s.mbOf n.val).rxErr < 96 →
    ∃ t, exec (.canError n kind field dphase true false) s = .next t ∧ t.get (MB_ERRLOG_TX n.val) = 1 ∧
      t.get (MB_ERR_TEC n.val) = s.get (MB_ERR_TEC n.val) + 8 ∧ (t.mbOf n.val).sending = some x ∧ t.get (MB_STAT_STATE n.val) = 2 ∧
      s.advanced t (MB_CNT n.val (5 + kind.val)) 1 ∧ s.only [MB_ERRLOG n.val, MB_ERR n.val] [.live, .mb] t) ∧
  (∀ (n : Fin 4) (delay : BitVec 16) (x : MbTx) (s : State), s.inReset 0x13 = false → (s.mbOf n.val).sending = some x →
    x.dropped = false → x.aborted = false → x.obj < 1536 →
    (s.mbOf n.val).leave = false → s.get (MB_STAT_STATE n.val) = 2 → s.mbListen n.val = false → s.on (MB_CTL_ONESHOT n.val) = true →
    ∃ t, exec (.canTxEnd n false delay) s = .next t ∧ (t.mbOf n.val).sending = none ∧ t.objBit (MB_TXPEND_OBJ n.val) x.obj = false ∧
      t.objBit (MB_TXFAIL_OBJ n.val) x.obj = true ∧ t.get (MB_TXLOG_CAUSE n.val) = 2 ∧ t.get (MB_TXLOG_INDEX n.val) = x.obj ∧
    t.mem = s.mem) ∧
  (∀ (n : Fin 4) (won : Bool) (sof : DWord) (s : State), s.open_ 0x13 = true →
    s.get (MB_STAT_STATE n.val) = 3 ∨ s.get (MB_STAT_STATE n.val) = 2 ∧ s.txChoice n.val = none →
    s.mbBusy n.val = false →
    ∃ t, exec (.canArbitration n won sof) s = .next t ∧ t.get (MB_STAT_RXING n.val) = b2n (!won) ∧ s.only [MB_STAT n.val] [] t)

/-- R159, R413, R415, R420 to R423. -/
def Obligations.HostAccess : Prop :=
  (∀ s : State, s.qspiOn = true → s.port ≠ 0 →
    ∃ t, exec .qspiStatus s = .next t ∧ t.get HBR_HST_WR_DROP = 0 ∧ t.get HBR_HST_PWF = 0 ∧ t.hbr.qspi.length = 4 ∧
      s.only [HBR_HST] [.hbr] t) ∧
  (∀ s : State, s.qspiOn = true → s.port ≠ 0 →
    ∃ t, exec .qspiIdent s = .next t ∧
      t.hbr.qspi = leBytes 2 (s.get ID_PART_HWTYPE) ++ leBytes 2 (s.get ID_PART_STEP) ++ leBytes 4 (s.rd (UPD_UID 0)).toNat ∧
      s.only [] [.hbr] t) ∧
  (∀ (addr : BitVec 48) (o : Nat) (data : List Byte) (s : State), s.qspiOn = true → s.port = 1 → data.length = 4 →
    fabNode addr.toNat = 0xFE → fabChip addr.toNat = s.chip → fabOff addr.toNat = storeBase + o → o % 4 = 0 → o + 4 ≤ storeSize →
    s.postUnits < 128 → s.fab.here = [] → s.accWaits 5 o = false → s.lockedOut (bankOf o) 5 = false →
    s.mayWrite 5 (bankOf o) = true → s.mark (o / 8) = none →
    ∃ t, exec (.qspiWrite addr 0 data) s = .next t ∧ t.load o 4 = ofLeBytes data ∧
      (∀ x, x < o ∨ o + 4 ≤ x → t.byte x = s.byte x) ∧ s.advanced t (HBR_CNT 1) 1 ∧ t.fwd = s.fwd ∧
      s.only [MSA_ECC_STAT] [.live, .mem, .store, .fab, .hbr, .resp] t) ∧
  (∀ (addr : BitVec 48) (n : Fin 64) (data : List Byte) (s : State), s.qspiOn = true → s.port = 1 →
    data.length ≠ 4 * (n.val + 1) →
    ∃ t, exec (.qspiWrite addr n data) s = .next t ∧ s.advanced t (HBR_CNT 8) 1 ∧ t.get HBR_EVT_DROP = 1 ∧
      s.only [HBR_EVT] [.live, .hbr] t) ∧
  (∀ (tag : Fin 8) (addr : BitVec 48) (o : Nat) (s : State), s.qspiOn = true → s.port = 1 → s.getBit HBR_HST_BUSY tag.val = false →
    fabNode addr.toNat = 0xFE → fabChip addr.toNat = s.chip → fabOff addr.toNat = storeBase + o → o % 4 = 0 → o + 4 ≤ storeSize →
    s.fab.here = [] → s.accWaits 5 o = false → s.lockedOut (bankOf o) 5 = false → s.mark (o / 8) = none → s.node ≠ 0xFF →
    ∃ t, exec (.readReq tag addr 0) s = .next t ∧ t.getBit HBR_HST_BUSY tag.val = true ∧ t.getBit HBR_HST_READY tag.val = true ∧
      (∀ i, i < 4 → (t.hTag tag.val).map (fun h => Tab.get (fun _ => none) h.data i) = some (some (s.byte (o + i)))) ∧
      s.advanced t (HBR_CNT 0) 1 ∧ t.mem = s.mem ∧ t.fwd = s.fwd) ∧
  (∀ (tag : Fin 8) (addr : BitVec 48) (n : Fin 64) (s : State), s.qspiOn = true → s.port = 1 → s.getBit HBR_HST_BUSY tag.val = true →
    ∃ t, exec (.readReq tag addr n) s = .next t ∧ s.advanced t (HBR_CNT 8) 1 ∧ t.get HBR_EVT_DROP = 1 ∧
      s.only [HBR_EVT] [.live, .hbr] t) ∧
  (∀ (tag : Fin 8) (h : HTag) (s : State), s.qspiOn = true → s.port = 1 → s.hTag tag.val = some h →
    s.getBit HBR_HST_READY tag.val = true →
    ∃ t, exec (.readGet tag) s = .next t ∧ t.hbr.qspi.length = 2 + 4 * (h.n + 1) ∧ t.hbr.qspi.getD 0 0#8 = BitVec.ofNat 8 h.status ∧
      t.hbr.qspi.getD 1 0#8 = BitVec.ofNat 8 h.n ∧
      (∀ i, i < 4 * (h.n + 1) → ∀ b ∈ Tab.get (fun _ => none) h.data i, t.hbr.qspi.getD (2 + i) 0#8 = b) ∧
      t.getBit HBR_HST_READY tag.val = false ∧ t.getBit HBR_HST_BUSY tag.val = false ∧ t.hTag tag.val = none ∧
      s.only [HBR_HST] [.hbr] t) ∧
  (∀ (tag : Fin 8) (h : HTag) (s : State), s.qspiOn = true → s.port = 1 → s.hTag tag.val = some h →
    s.getBit HBR_HST_READY tag.val = false →
    ∃ t, exec (.readGet tag) s = .next t ∧ t.hbr.qspi = [0xFF#8] ∧ s.only [] [.hbr] t) ∧
  (∀ (tag : Fin 8) (addr : BitVec 48) (o : Nat) (d : DWord) (s : State), s.qspiOn = true → s.port = 1 →
    s.getBit HBR_HST_BUSY tag.val = false → fabNode addr.toNat = 0xFE → fabChip addr.toNat = s.chip →
    fabOff addr.toNat = storeBase + o → o % 8 = 0 → o + 8 ≤ storeSize → s.fab.here = [] → s.accWaits 5 o = false →
    s.lockedOut (bankOf o) 5 = false → s.mark (o / 8) = none → s.mayWrite 5 (bankOf o) = true → s.node ≠ 0xFF →
    ∃ t, exec (.amo tag 1 1 addr [d]) s = .next t ∧ t.getBit HBR_HST_READY tag.val = true ∧
      (∀ i, i < 8 → (t.hTag tag.val).map (fun h => Tab.get (fun _ => none) h.data i) = some (some (s.byte (o + i)))) ∧
      t.load o 8 = (s.load o 8 + d.toNat) % 2 ^ 64 ∧ (∀ x, x < o ∨ o + 8 ≤ x → t.byte x = s.byte x) ∧
      s.advanced t (HBR_CNT 2) 1) ∧
  (∀ s : State, s.qspiOn = true → s.port = 1 → s.on (HBR_FENCE_STAT_BUSY 4) = false → s.destSet 4 = [] →
    ∃ t, exec .qspiFence s = .next t ∧ t.get (HBR_FENCE_STAT_BUSY 4) = 1 ∧ t.get HBR_HST_FENCE_BUSY = 1 ∧
      t.get (HBR_FENCE_STAT_EPOCH 4) = 1 - s.get (HBR_FENCE_STAT_EPOCH 4) ∧
      s.only [HBR_FENCE_STAT 4, HBR_FENCE_ADDR_LO 4, HBR_FENCE_ADDR_HI 4, HBR_HST] [.fab, .hbr] t) ∧
  (∀ s : State, s.qspiOn = true → s.port = 1 →
    ∃ t, exec .fenceGet s = .next t ∧ t.get HBR_HST_FENCE_DONE = 0 ∧ t.hbr.qspi = leBytes 4 (s.rd (HBR_FENCE_STAT 4)).toNat ++
        leBytes 4 (s.rd (HBR_FENCE_ADDR_LO 4)).toNat ++ leBytes 4 (s.rd (HBR_FENCE_ADDR_HI 4)).toNat ∧
      s.only [HBR_HST] [.hbr] t) ∧
  (∀ s : State, s.qspiOn = true → s.port ≠ 0 →
    ∃ t, exec .qspiCutShort s = .next t ∧ s.advanced t (HBR_CNT 8) 1 ∧ t.get HBR_EVT_DROP = 1 ∧ s.only [HBR_EVT] [.live, .hbr] t) ∧
  (∀ (tag : Fin 8) (addr : BitVec 48) (n : Fin 64) (c : Instr) (s : State),
    c ∈ [Instr.readReq tag addr n, .readGet tag, .qspiFence, .fenceGet] → s.port ≠ 1 →
    ∃ t, exec c s = .next t ∧ t.hbr = { s.hbr with qspi := [] } ∧ s.only [] [.hbr] t) ∧
  (∀ (dst src : BitVec 48) (len : BitVec 16) (vlan : Bool) (h a d : DWord) (o : Nat) (s : State), s.hostLane = true →
    s.inReset 0x0B = false → s.open_ 0x14 = true → 64 ≤ len.toNat → len.toNat ≤ 1518 → s.port = 2 → dst.toNat = s.hbrMac →
    bits h.toNat 0 8 = 1 → bits h.toNat 48 8 = 0 → bits h.toNat 8 8 = 1 → 24 ≤ s.laneFree → fabNode (a.toNat % 2 ^ 48) = 0xFE →
    fabChip (a.toNat % 2 ^ 48) = s.chip → fabOff (a.toNat % 2 ^ 48) = storeBase + o → o % 8 = 0 → o + 8 ≤ storeSize → s.fab.here = [] →
    s.accWaits 5 o = false → s.lockedOut (bankOf o) 5 = false → s.mayWrite 5 (bankOf o) = true →
    ∃ t, exec (.hostFrameRx dst src 0x88B5#16 len vlan true [h, fabWord0 2 0 3 1, a, d]) s = .next t ∧
      s.advanced t (HBR_CNT 5) 1 ∧ s.advanced t (HBR_CNT 1) 1 ∧ t.get HBR_STAT_HOSTMAC_VALID = 1 ∧
      t.get HBR_HOSTMAC_LO_MAC + 2 ^ 32 * t.get HBR_HOSTMAC_HI_MAC = src.toNat ∧ t.load o 8 = d.toNat ∧
      (∀ x, x < o ∨ o + 8 ≤ x → t.byte x = s.byte x) ∧
      s.only [HBR_HOSTMAC_LO, HBR_HOSTMAC_HI, HBR_STAT, MSA_ECC_STAT] [.live, .mem, .store, .fab, .resp] t) ∧
  (∀ (dst src : BitVec 48) (ety len : BitVec 16) (vlan good : Bool) (p : List DWord) (s : State), s.hostLane = true →
    s.inReset 0x0B = false → ety ≠ 0x88B5#16 ∧ ety ≠ 0x8808#16 ∨ good = false ∨ len.toNat < 64 ∨ 1522 < len.toNat →
    ∃ t, exec (.hostFrameRx dst src ety len vlan good p) s = .next t ∧ s.advanced t (LANE_BLK_ERRS 3) 1 ∧ s.only [] [.live] t) ∧
  (∀ (dst src : BitVec 48) (len : BitVec 16) (vlan : Bool) (p : List DWord) (s : State), s.hostLane = true → s.inReset 0x0B = false →
    64 ≤ len.toNat → len.toNat ≤ 1518 →
    ∃ t, exec (.hostFrameRx dst src 0x8808#16 len vlan true p) s = .next t ∧ s.only [] [] t) ∧
  (∀ (dst src : BitVec 48) (len : BitVec 16) (vlan : Bool) (p : List DWord) (s : State), s.hostLane = true →
    s.inReset 0x0B = false → s.open_ 0x14 = true → 64 ≤ len.toNat → len.toNat ≤ 1518 →
    s.port ≠ 2 ∨ (dst.toNat ≠ s.hbrMac ∧ dst.toNat ≠ 2 ^ 48 - 1) ∨ bits (p.getD 0 0#64).toNat 0 8 ≠ 1 →
    ∃ t, exec (.hostFrameRx dst src 0x88B5#16 len vlan true p) s = .next t ∧ s.advanced t (HBR_CNT 7) 1 ∧ t.get HBR_EVT_DROP = 1 ∧
      s.only [HBR_EVT] [.live] t) ∧
  (∀ (r : List DWord) (s : State), s.hostLane = true → s.port = 2 → s.inReset 0x14 = false → s.inReset 0x0B = false → s.hbr.rsp = [r] →
    r.length ≤ 186 →
    ∃ t, exec .hostResponseTx s = .next t ∧ t.hbr.rsp = [] ∧ t.hbr.seq = (s.hbr.seq + 1) % 65536 ∧
      t.hbr.sent.map (fun l => l.payload.drop 1) = some r ∧ t.hbr.sent.map (·.src) = some s.hbrMac ∧
      t.hbr.sent.map (·.dst) = some (s.get HBR_HOSTMAC_LO_MAC + 2 ^ 32 * s.get HBR_HOSTMAC_HI_MAC) ∧ s.advanced t (HBR_CNT 6) 1 ∧ s.only [] [.live, .hbr] t)

/-- R426, R428, R429, R435, while the controller is out of reset. -/
def Obligations.InterruptClaims : Prop :=
  (∀ (tg : Fin 3) (w : Fin 8) (mask : Word) (s : State), s.inReset 0x06 = false →
    ∃ t, exec (.intcClaim tg w mask) s = .next t ∧
      (∀ i, i < 32 → t.intcA tg.val (32 * w.val + i) =
        (s.intcA tg.val (32 * w.val + i) || (mask.getLsbD i && s.intcP tg.val (32 * w.val + i)))) ∧
      (∀ i, i < 32 → intcKind (32 * w.val + i) = some true →
        t.intcP tg.val (32 * w.val + i) = (s.intcP tg.val (32 * w.val + i) && !mask.getLsbD i)) ∧
      s.only ([INTC_PEND tg.val w.val, INTC_CLAIM tg.val w.val] ++ (List.range 16).map INTC_GRP_STAT) [.grpT0, .seenP] t) ∧
  (∀ (tg : Fin 3) (w : Fin 8) (mask : Word) (s : State), s.inReset 0x06 = false →
    ∃ t, exec (.intcDone tg w mask) s = .next t ∧
      (∀ i, i < 32 → t.intcA tg.val (32 * w.val + i) = (s.intcA tg.val (32 * w.val + i) && !mask.getLsbD i)) ∧
      s.only (INTC_CLAIM tg.val w.val :: (List.range 16).map INTC_GRP_STAT) [.grpT0, .seenP] t) ∧
  (∀ (mask : BitVec 8) (s : State), s.inReset 0x06 = false →
    ∃ t, exec (.swi mask) s = .next t ∧
      (∀ n, n < 8 → ∀ j, j < 3 → t.intcP j n = (s.intcP j n || (mask.getLsbD n && s.routed j n))) ∧
      s.only ([INTC_PEND 0 0, INTC_PEND 1 0, INTC_PEND 2 0] ++ (List.range 16).map INTC_GRP_STAT) [.grpT0, .seenP] t) ∧
  (∀ (g : Fin 16) (s : State), s.inReset 0x06 = false → s.intcSample.get (INTC_GRP_STAT_STATE g.val) = 1 →
    ∃ t, exec (.coalesceTimeout g) s = .next t ∧ t.get (INTC_GRP_STAT_STATE g.val) = 2 ∧
      t.get (INTC_GRP_STAT_HELD g.val) = s.intcSample.get (INTC_GRP_STAT_HELD g.val) ∧ s.intcSample.only [INTC_GRP_STAT g.val] [] t ∧
      s.only ((List.range 16).map INTC_GRP_STAT) [.grpT0, .seenP] t)

/-- R441, R443 to R448, R450, while the collector is out of reset. -/
def Obligations.FaultRecords : Prop :=
  (∀ (m : FaultMsg) (r : List FaultMsg) (n : Nat) (s : State), s.open_ 0x05 = true → s.fltQ = m :: r → m.inj = false →
    (∀ k, k < 64 → s.ruleHits m k = false) → n < 16 → s.getBit FLT_OPEN_REC n = false →
    (∀ i, i < n → s.getBit FLT_OPEN_REC i = true) →
    (∀ i, i < 16 → s.getBit FLT_OPEN_REC i = true → s.get (FLT_REC_W0_SRC i) ≠ m.src) →
    ∃ t, exec .faultProcess s = .next t ∧ t.fltQ = r ∧ t.getBit FLT_OPEN_REC n = true ∧ t.getBit FLT_FN_REC n = false ∧
      t.get (FLT_REC_W0_SRC n) = m.src % 256 ∧ t.get (FLT_REC_W0_KIND n) = m.kind % 256 ∧
      t.get (FLT_REC_W0_LKIND n) = m.kind % 256 ∧ t.get (FLT_REC_W0_SEV n) = m.sev % 4 ∧ t.get (FLT_REC_W0_INJ n) = 0 ∧
      t.get (FLT_REC_ADDR_LO_ADDR n) + 2 ^ 32 * t.get (FLT_REC_ADDR_HI_ADDR n) = m.addr % 2 ^ 48 ∧
      t.get (FLT_REC_ADDR_HI_MATCH n) = 0 ∧ t.get (FLT_REC_MCOUNT_MCOUNT n) = 0 ∧ t.rd64 (FLT_REC_T0 n) = s.now ∧
      t.rd64 (FLT_REC_T1 n) = s.now ∧ s.advanced t (FLT_CNT 0) 1 ∧ s.advanced t (FLT_CNT 1) 1 ∧
      s.only [FLT_REC_W0 n, FLT_REC_ADDR_LO n, FLT_REC_ADDR_HI n, FLT_REC_MCOUNT n, FLT_REC_T0 n, FLT_REC_T0 n + 4,
        FLT_REC_T1 n, FLT_REC_T1 n + 4, FLT_OPEN, FLT_FN, FLT_STAT] [.live, .fltQ] t) ∧
  (∀ (m : FaultMsg) (r : List FaultMsg) (n : Nat) (s : State), s.open_ 0x05 = true → s.fltQ = m :: r → m.inj = false →
    (∀ k, k < 64 → s.ruleHits m k = false) → n < 16 → s.getBit FLT_OPEN_REC n = true → s.get (FLT_REC_W0_SRC n) = m.src →
    (∀ i, i < n → s.getBit FLT_OPEN_REC i = true → s.get (FLT_REC_W0_SRC i) ≠ m.src) → m.sev < 4 →
    ∃ t, exec .faultProcess s = .next t ∧ t.fltQ = r ∧ t.rd FLT_OPEN = s.rd FLT_OPEN ∧
      t.get (FLT_REC_MCOUNT_MCOUNT n) = min (s.get (FLT_REC_MCOUNT_MCOUNT n) + 1) 0xFFFF ∧
      t.get (FLT_REC_W0_KIND n) = s.get (FLT_REC_W0_KIND n) ∧ t.get (FLT_REC_W0_LKIND n) = m.kind % 256 ∧
      t.get (FLT_REC_W0_SEV n) = max (s.get (FLT_REC_W0_SEV n)) m.sev ∧ t.rd64 (FLT_REC_T1 n) = s.now ∧
      t.rd64 (FLT_REC_T0 n) = s.rd64 (FLT_REC_T0 n) ∧ s.advanced t (FLT_CNT 0) 1 ∧ s.advanced t (FLT_CNT 2) 1 ∧
      s.only [FLT_REC_W0 n, FLT_REC_MCOUNT n, FLT_REC_T1 n, FLT_REC_T1 n + 4, FLT_STAT] [.live, .fltQ] t) ∧
  (∀ (m : FaultMsg) (r : List FaultMsg) (k line : Nat) (s : State), s.open_ 0x05 = true → s.fltQ = m :: r → m.inj = true →
    k < 64 → s.ruleHits m k = true → (∀ j, j < k → s.ruleHits m j = false) → line < 8 →
    s.rd (FLT_RULE_A k) = BitVec.ofNat 32 (0x20023 + 4 * line) → s.get FLT_OPEN_REC = 0 → s.inReset 0x06 = false →
    ∃ t, exec .faultProcess s = .next t ∧ t.fltQ = r ∧ t.getBit FLT_OPEN_REC 0 = true ∧ t.getBit FLT_FN_REC 0 = true ∧
      t.get (FLT_REC_W0_FN 0) = 1 ∧ t.get (FLT_REC_W0_INJ 0) = 1 ∧ t.get (FLT_REC_ADDR_HI_RULE 0) = k ∧
      t.get (FLT_REC_ADDR_HI_MATCH 0) = 1 ∧ t.get FLT_STAT_SAFE = 1 ∧ t.faultN = true ∧
      (∀ j, j < 3 → s.routed j (14 + line) = true → t.intcP j (14 + line) = true) ∧
      s.advanced t (FLT_CNT 0) 1 ∧ s.advanced t (FLT_CNT 1) 1 ∧ s.advanced t (FLT_CNT 6) 1 ∧
      s.parts [.regs, .live, .fltQ] t) ∧
  (∀ (m : FaultMsg) (r : List FaultMsg) (s : State), s.open_ 0x05 = true → s.fltQ = m :: r → m.inj = false →
    (∀ k, k < 64 → s.ruleHits m k = false) → s.get FLT_OPEN_REC = 0xFFFF →
    (∀ i, i < 16 → s.get (FLT_REC_W0_SRC i) ≠ m.src) →
    ∃ t, exec .faultProcess s = .next t ∧ t.fltQ = r ∧ t.get FLT_STAT_REC_OVF = 1 ∧ s.advanced t (FLT_CNT 4) 1 ∧
      s.only [FLT_STAT] [.live, .fltQ] t) ∧
  (∀ (m : FaultMsg) (r : List FaultMsg) (k : Nat) (s : State), s.open_ 0x05 = true → s.fltQ = m :: r → m.inj = false → k < 64 →
    s.ruleHits m k = true → (∀ j, j < k → s.ruleHits m j = false) → s.rd (FLT_RULE_A k) = 0x20#32 →
    ∃ t, exec .faultProcess s = .next t ∧ t.fltQ = r ∧ t.get FLT_STAT_FN_ORPHAN = 1 ∧ t.faultN = true ∧
      s.advanced t (FLT_CNT 0) 1 ∧ s.advanced t (FLT_CNT 3) 1 ∧ s.only [FLT_STAT] [.live, .fltQ] t) ∧
  (∀ (m : FaultMsg) (r : List FaultMsg) (k : Nat) (s : State), s.open_ 0x05 = true → s.fltQ = m :: r → m.inj = false → k < 64 →
    s.ruleHits m k = true → (∀ j, j < k → s.ruleHits m j = false) → s.rd (FLT_RULE_A k) = 0x4140#32 →
    s.unitOf 0x41 = none → s.sameCycle = none →
    ∃ t, exec .faultProcess s = .next t ∧ t.unitOf 0x41 = some ⟨1, 5, false, 0, 16, s.slowCycle⟩ ∧ t.sys.rc100 = true ∧
      s.only [FLT_STAT] [.live, .fltQ, .sys] t) ∧
  (∀ (mask : BitVec 16) (s : State), s.inReset 0x05 = false →
    ∃ t, exec (.faultRecordClose mask) s = .next t ∧
      (∀ n, n < 16 → t.getBit FLT_OPEN_REC n = (s.getBit FLT_OPEN_REC n && !mask.getLsbD n) ∧
        t.getBit FLT_FN_REC n = (s.getBit FLT_FN_REC n && !mask.getLsbD n)) ∧ s.only [FLT_OPEN, FLT_FN] [] t) ∧
  (∀ (n : Fin 16) (who : Who) (s : State), s.inReset 0x05 = false →
    ∃ t, exec (.faultRecordRead n 0 who) s = .next t ∧
      t.resp = some ⟨whoKey who, 0, (s.rd (FLT_REC_W0 n.val)).toNat⟩ ∧
      Tab.get (fun _ => none) t.recLatch (16 * whoKey who + n.val) = some (s.recWords n.val) ∧
      s.only [] [.resp, .recLatch] t) ∧
  (∀ (n : Fin 16) (w : Fin 8) (who : Who) (l : List Word) (s : State), s.inReset 0x05 = false → w.val ≠ 0 →
    Tab.get (fun _ => none) s.recLatch (16 * whoKey who + n.val) = some l →
    ∃ t, exec (.faultRecordRead n w who) s = .next t ∧
      t.resp = some ⟨whoKey who, 0, (l.getD (w.val - 1) 0#32).toNat⟩ ∧ s.only [] [.resp] t) ∧
  (∀ s : State, s.inReset 0x05 = false → ∃ t, exec .safeClr s = .next t ∧ t.get FLT_STAT_SAFE = 0 ∧
    (∀ f ∈ [FLT_STAT_REC_OVF, FLT_STAT_MSG_LOST, FLT_STAT_FN_ORPHAN, FLT_STAT_SAT], t.get f = s.get f) ∧
    s.only [FLT_STAT] [] t) ∧
  (∀ (w : Word) (who : Who) (s : State), s.inReset 0x05 = false → s.on MPC_MODE_FTEST = false →
    ∃ t, exec (.faultInject w who) s = .next t ∧ t.resp = some ⟨whoKey who, 0x05, 0⟩ ∧ s.only [] [.resp] t) ∧
  (∀ (w : Word) (who : Who) (s : State), s.inReset 0x05 = false → s.on MPC_MODE_FTEST = true → w.getLsbD 31 = true →
    s.roomy →
    ∃ t, exec (.faultInject w who) s = .next t ∧ t.resp = some ⟨whoKey who, 0, 0⟩ ∧
      t.fltQ = fltInsert ⟨wordField w 0 8, wordField w 8 8, wordField w 16 2,
        s.get FLT_INJ_ADDR_LO_ADDR + 2 ^ 32 * s.get FLT_INJ_ADDR_HI_ADDR, true, s.sys.t⟩ s.fltQ ∧
      s.only [FLT_INJ_W0] [.resp, .fltQ] t)

/-- R442. The registers of FLT that R442 does not keep are FLT_STAT's other bits and the injection registers. -/
def Obligations.FaultCollectorReset : Prop :=
  (∀ (m : FaultMsg) (s : State), s.getBit RSTC_INRST_BLK 0x05 = true → s.faultMsg m = s) ∧
  (∀ (x : UnitSt) (s : State), s.unitOf 0x05 = some x → x.phase = 1 →
    ∃ t, exec (.unitIdleAck 0x05#8) s = .next t ∧ t.inReset 0x05 = true ∧ t.fltQ = [] ∧
      (∀ o, blkOf o = 0x05 → o ∉ [FLT_STAT, FLT_INJ_W0, FLT_INJ_ADDR_LO, FLT_INJ_ADDR_HI] → t.rd o = s.rd o) ∧
      t.get FLT_STAT_FN_ORPHAN = s.get FLT_STAT_FN_ORPHAN ∧ t.get FLT_STAT_SAFE = s.get FLT_STAT_SAFE ∧ t.live = s.live)

/-- R283 to R285. -/
def Obligations.DeadlineLog : Prop :=
  (∀ (m : Miss) (r : List Miss) (s : State), s.inReset 0x0F = false → s.time.dlQ = m :: r →
    ∃ t, exec .deadlineLog s = .next t ∧ t.time = { s.time with dlQ := r } ∧
      t.get (TIME_DL_W0_KIND (s.get TIME_DL_HEAD_NEXT)) = m.kind % 256 ∧
      t.get (TIME_DL_W0_SRC (s.get TIME_DL_HEAD_NEXT)) = m.src % 256 ∧
      t.get (TIME_DL_W0_INDEX (s.get TIME_DL_HEAD_NEXT)) = m.index % 256 ∧
      t.get (TIME_DL_W0_STEP (s.get TIME_DL_HEAD_NEXT)) = b2n m.step ∧
      t.get (TIME_DL_W1_LATENESS (s.get TIME_DL_HEAD_NEXT)) = min m.late (2 ^ 32 - 1) ∧
      t.rd64 (TIME_DL_T (s.get TIME_DL_HEAD_NEXT)) = m.t % 2 ^ 64 ∧
      t.get TIME_DL_HEAD_NEXT = (s.get TIME_DL_HEAD_NEXT + 1) % 16 ∧ t.get TIME_EVT_DEADLINE = 1 ∧
      s.advanced t (TIME_CNT 8) 1 ∧
      s.only [TIME_DL_W0 (s.get TIME_DL_HEAD_NEXT), TIME_DL_W1 (s.get TIME_DL_HEAD_NEXT),
        TIME_DL_T (s.get TIME_DL_HEAD_NEXT), TIME_DL_T (s.get TIME_DL_HEAD_NEXT) + 4, TIME_DL_HEAD, TIME_EVT] [.time, .live] t) ∧
  (∀ s : State, s.inReset 0x0F = false →
    ∃ t, exec .dlClear s = .next t ∧ t.get TIME_DL_HEAD_NEXT = 0 ∧
      (∀ e, e < 16 → t.rd (TIME_DL_W0 e) = 0#32 ∧ t.rd (TIME_DL_W1 e) = 0#32 ∧ t.rd64 (TIME_DL_T e) = 0) ∧
      (∀ o, o < TIME_DL_HEAD ∨ TIME_DL_T 15 + 4 < o → t.rd o = s.rd o) ∧ s.parts [.regs] t)

/-- R135, R482 to R492. -/
def Obligations.UpdateCommands : Prop :=
  (∀ (c : Instr) (good : Bool) (slot : Fin 2) (k : Fin 4) (s : State), s.open_ 0x16 = true → s.on UPD_STAT_BUSY = true →
    c ∈ [Instr.erase good, .program good, .updRead, .verify slot, .updArm slot good, .updDisarm good, .activate slot good, .confirm good, .updMac,
      .otpProg k, .otpRevoke k, .checkIsl, .dirInit slot good] →
    ∃ t, exec c s = .next t ∧ t.get UPD_STAT_REJ = 1 ∧ t.upd = { s.upd with key := false } ∧ s.only [UPD_STAT] [.upd] t) ∧
  (∀ (op : Nat) (c : Instr) (good : Bool) (s : State), s.open_ 0x16 = true → s.on UPD_STAT_BUSY = false →
    c = .erase good ∧ op = 1 ∨ c = .program good ∧ op = 2 ∨ c = .updRead ∧ op = 3 → s.flashRefusal op s.faddr ≠ 0 →
    ∃ t, exec c s = .next t ∧ t.get UPD_STAT_BUSY = 1 ∧
      t.upd = { s.upd with key := false, run := some ⟨op, s.flashRefusal op s.faddr, s.faddr, [], s.sys.t⟩ } ∧ s.only [UPD_STAT] [.upd] t) ∧
  (∀ (slot : Fin 2) (off : Nat) (s : State), s.open_ 0x16 = true → s.on UPD_STAT_BUSY = false → s.flashRefusal 1 s.faddr = 0 →
    flashSlot s.faddr = some (slot.val, off) →
    ∃ t, exec (.erase true) s = .next t ∧ t.get UPD_STAT_BUSY = 1 ∧ t.upd.ver.testBit slot.val = false ∧
      (t.upd.run.map fun r => (r.op, r.code)) = some (1, 0) ∧
      (∀ a, t.flashNum a 1 = if s.faddr ≤ a ∧ a < s.faddr + 0x10000 then 0xFF else s.flashNum a 1) ∧ s.only [UPD_STAT] [.upd] t) ∧
  (∀ (slot : Fin 2) (off : Nat) (s : State), s.open_ 0x16 = true → s.on UPD_STAT_BUSY = false → s.flashRefusal 2 s.faddr = 0 →
    flashSlot s.faddr = some (slot.val, off) → (∀ i, i < 256 → s.flashNum (s.faddr + i) 1 = 0xFF) →
    ∃ t, exec (.program true) s = .next t ∧ t.get UPD_STAT_BUSY = 1 ∧ t.upd.ver.testBit slot.val = false ∧
      (t.upd.run.map fun r => (r.op, r.code)) = some (2, 0) ∧
      (∀ j, j < 64 → t.flashNum (s.faddr + 4 * j) 4 = (s.rd (UPD_BUF j)).toNat) ∧
      (∀ a, a < s.faddr ∨ s.faddr + 256 ≤ a → t.flashNum a 1 = s.flashNum a 1) ∧ s.only [UPD_STAT] [.upd] t) ∧
  (∀ (s : State), s.open_ 0x16 = true → s.on UPD_STAT_BUSY = false → s.flashRefusal 3 s.faddr = 0 →
    ∃ t, exec .updRead s = .next t ∧ t.get UPD_STAT_BUSY = 1 ∧ t.upd = { s.upd with key := false, run := some ⟨3, 0, s.faddr, [], s.sys.t⟩ } ∧
      (∀ j, j < 64 → (t.rd (UPD_BUF j)).toNat = s.flashNum (s.faddr + 4 * j) 4) ∧ s.only (UPD_STAT :: (List.range 64).map UPD_BUF) [.upd] t) ∧
  (∀ (slot : Fin 2) (s : State), s.open_ 0x16 = true → s.on UPD_STAT_BUSY = false →
    ∃ t, exec (.verify slot) s = .next t ∧ t.get UPD_STAT_BUSY = 1 ∧ t.upd.run = some ⟨4, s.imageCheck slot.val true, 0, [], s.sys.t⟩ ∧
      (s.imageCheck slot.val true ≠ 0 → t.upd.ver = s.upd.ver) ∧ (s.imageCheck slot.val true = 0 → t.upd.ver.testBit slot.val = true) ∧
      t.upd.flash = s.upd.flash ∧ s.only [UPD_STAT] [.upd] t) ∧
  (∀ (slot : Fin 2) (s : State), s.open_ 0x16 = true → s.on UPD_STAT_BUSY = false → s.flashNum (slotBase slot.val) 4 ≠ 0x4748494D →
    ∃ t, exec (.verify slot) s = .next t ∧ t.upd.run = some ⟨4, 0x01, 0, [], s.sys.t⟩ ∧ t.upd.ver = s.upd.ver ∧ s.only [UPD_STAT] [.upd] t) ∧
  (∀ (slot : Fin 2) (c : Instr) (op : Nat) (good : Bool) (s : State), s.open_ 0x16 = true → s.on UPD_STAT_BUSY = false → s.upd.ver.testBit slot.val = false →
    c = .updArm slot good ∧ op = 5 ∨ c = .activate slot good ∧ op = 7 →
    ∃ t, exec c s = .next t ∧ t.get UPD_STAT_BUSY = 1 ∧ t.upd = { s.upd with key := false, run := some ⟨op, 0x12, 0, [], s.sys.t⟩ } ∧ s.only [UPD_STAT] [.upd] t) ∧
  (∀ (slot : Fin 2) (s : State), s.open_ 0x16 = true → s.on UPD_STAT_BUSY = false → s.upd.ver.testBit slot.val = true →
    ∃ t, exec (.updArm slot true) s = .next t ∧ t.get UPD_STAT_BUSY = 1 ∧ (t.upd.run.map fun r => (r.op, r.code)) = some (5, 0) ∧
      t.dirCopy (1 - s.dirBase.1) = some { s.dirBase.2 with seq := (s.dirBase.2.seq + 1) % 2 ^ 32, state := 1, cand := slot.val } ∧
      (∀ a, a < 0x1000 * (1 - s.dirBase.1) ∨ 0x1000 * (1 - s.dirBase.1) + 0x1000 ≤ a → t.flashNum a 1 = s.flashNum a 1) ∧ s.only [UPD_STAT] [.upd] t) ∧
  (∀ (s : State), s.open_ 0x16 = true → s.on UPD_STAT_BUSY = false →
    ∃ t, exec (.updDisarm true) s = .next t ∧ t.get UPD_STAT_BUSY = 1 ∧ (t.upd.run.map fun r => (r.op, r.code)) = some (6, 0) ∧
      t.dirCopy (1 - s.dirBase.1) = some { s.dirBase.2 with seq := (s.dirBase.2.seq + 1) % 2 ^ 32, state := 0 } ∧ s.only [UPD_STAT] [.upd] t) ∧
  (∀ (s : State), s.open_ 0x16 = true → s.on UPD_STAT_BUSY = false →
    ∃ t, exec (.updDisarm false) s = .next t ∧ t.get UPD_STAT_BUSY = 1 ∧ (t.upd.run.map fun r => (r.op, r.code)) = some (6, 0x14) ∧
      t.dirCopy s.dirBase.1 = s.dirCopy s.dirBase.1 ∧ s.only [UPD_STAT] [.upd] t) ∧
  (∀ (slot : Fin 2) (good : Bool) (s : State), s.open_ 0x16 = true → s.on UPD_STAT_BUSY = false → s.upd.ver.testBit slot.val = true → s.armedFor slot.val = true →
    ∃ t, exec (.activate slot good) s = .next t ∧ t.get UPD_STAT_BUSY = 1 ∧
      t.upd = { s.upd with key := false, run := some ⟨7, 0, 0, [], s.sys.t⟩ } ∧ s.only [UPD_STAT] [.upd] t) ∧
  (∀ (good : Bool) (s : State), s.open_ 0x16 = true → s.on UPD_STAT_BUSY = false → s.on UPD_STAT_TRIAL = false →
    ∃ t, exec (.confirm good) s = .next t ∧ t.get UPD_STAT_BUSY = 1 ∧ t.upd = { s.upd with key := false, run := some ⟨8, 0x15, 0, [], s.sys.t⟩ } ∧ s.only [UPD_STAT] [.upd] t) ∧
  (∀ (k : Nat) (d : Dir) (s : State), s.open_ 0x16 = true → s.on UPD_STAT_BUSY = false → s.on UPD_STAT_TRIAL = true → s.dirChosen = some (k, d) →
    ∃ t, exec (.confirm true) s = .next t ∧ t.get UPD_STAT_BUSY = 1 ∧ (t.upd.run.map fun r => (r.op, r.code, r.at_)) = some (8, 0, s.sys.t) ∧
      t.upd.trial = s.upd.trial ∧ t.dirCopy (1 - k) = some { d with seq := (d.seq + 1) % 2 ^ 32, active := d.cand, state := 0 } ∧
      s.only [UPD_STAT] [.upd] t) ∧
  (∀ (n a : Nat) (s : State), s.open_ 0x16 = true → s.on UPD_STAT_BUSY = false → s.get UPD_MLEN_BYTES = n → s.get UPD_MSRC_ADDR = a →
    8 ≤ n → n ≤ 1048576 → a % 8 = 0 → storeBase ≤ a → a + n ≤ storeBase + storeSize →
    ∃ t, exec .updMac s = .next t ∧ t.get UPD_STAT_BUSY = 1 ∧ t.upd = { s.upd with key := false, run := some ⟨9, 0, 0, [], s.sys.t⟩ } ∧
      (∀ i, i < 8 → t.rd (UPD_TAG i) =
        BitVec.ofNat 32 ((Config.deviceTag ((List.range n).map fun k => s.byte (a - storeBase + k))).toNat / 2 ^ (32 * i))) ∧
      s.only (UPD_STAT :: (List.range 8).map UPD_TAG) [.upd] t) ∧
  (∀ (s : State), s.open_ 0x16 = true → s.on UPD_STAT_BUSY = false → s.get UPD_MLEN_BYTES < 8 →
    ∃ t, exec .updMac s = .next t ∧ t.get UPD_STAT_BUSY = 1 ∧ t.upd = { s.upd with key := false, run := some ⟨9, 0x11, 0, [], s.sys.t⟩ } ∧ s.only [UPD_STAT] [.upd] t) ∧
  (∀ (k : Fin 4) (c : Instr) (op : Nat) (s : State), s.open_ 0x16 = true → s.on UPD_STAT_BUSY = false → s.get MPC_MODE_CUR ≠ 5 ∨ s.upd.key = false →
    c = .otpProg k ∧ op = 10 ∨ c = .otpRevoke k ∧ op = 11 →
    ∃ t, exec c s = .next t ∧ t.get UPD_STAT_BUSY = 1 ∧ t.upd = { s.upd with key := false, run := some ⟨op, 0x10, 0, [], s.sys.t⟩ } ∧ s.only [UPD_STAT] [.upd] t) ∧
  (∀ (k : Fin 4) (s : State), s.open_ 0x16 = true → s.on UPD_STAT_BUSY = false → s.get MPC_MODE_CUR = 5 → s.upd.key = true → s.get (UPD_OTP_STAT_KEY k.val) = 0 →
    ∃ t, exec (.otpProg k) s = .next t ∧ t.get (UPD_OTP_STAT_KEY k.val) = 1 ∧ (∀ i, i < 8 → t.rd (UPD_KHASH k.val i) = s.rd (UPD_HASH i)) ∧
      t.get UPD_STAT_BUSY = 1 ∧ t.upd = { s.upd with key := false, run := some ⟨10, 0, 0, [], s.sys.t⟩ } ∧
      s.only (UPD_STAT :: UPD_OTP_STAT :: (List.range 8).map (UPD_KHASH k.val)) [.upd] t) ∧
  (∀ (k : Fin 4) (s : State), s.open_ 0x16 = true → s.on UPD_STAT_BUSY = false → s.get MPC_MODE_CUR = 5 → s.upd.key = true →
    s.on UPD_STAT_RECOVERY = true ∨ s.hdr (s.get UPD_STAT_ACTIVE) 0x0C 1 ≠ k.val →
    ∃ t, exec (.otpRevoke k) s = .next t ∧ t.get (UPD_OTP_STAT_KEY k.val) = 2 ∧ t.get UPD_STAT_BUSY = 1 ∧
      t.upd = { s.upd with key := false, run := some ⟨11, 0, 0, [], s.sys.t⟩ } ∧ s.only [UPD_STAT, UPD_OTP_STAT] [.upd] t) ∧
  (∀ (s : State), s.open_ 0x16 = true → s.on UPD_STAT_BUSY = false →
    ∃ t, exec .checkIsl s = .next t ∧ t.get UPD_STAT_BUSY = 1 ∧ t.get UPD_STAT_ISL_OK = b2n (s.islandGood (s.get UPD_STAT_ACTIVE)) ∧
      t.upd.run = some ⟨12, if s.islandGood (s.get UPD_STAT_ACTIVE) then 0 else 0x0A, 0, [], s.sys.t⟩ ∧ s.only [UPD_STAT] [.upd] t) ∧
  (∀ (slot : Fin 2) (good : Bool) (s : State), s.open_ 0x16 = true → s.on UPD_STAT_BUSY = false → s.on UPD_STAT_RECOVERY = false →
    ∃ t, exec (.dirInit slot good) s = .next t ∧ t.get UPD_STAT_BUSY = 1 ∧ t.upd = { s.upd with key := false, run := some ⟨13, 0x17, 0, [], s.sys.t⟩ } ∧
      s.only [UPD_STAT] [.upd] t) ∧
  (∀ (slot : Fin 2) (k : Nat) (d : Dir) (s : State), s.open_ 0x16 = true → s.on UPD_STAT_BUSY = false → s.on UPD_STAT_RECOVERY = true →
    s.dirChosen = some (k, d) →
    ∃ t, exec (.dirInit slot true) s = .next t ∧ t.get UPD_STAT_BUSY = 1 ∧
      t.dirCopy 0 = some ⟨(d.seq + 1) % 2 ^ 32, slot.val, 0, Config.dirCand.val⟩ ∧ t.dirCopy 1 = t.dirCopy 0 ∧
      (∀ a, 0x2000 ≤ a → t.flashNum a 1 = s.flashNum a 1) ∧ s.only [UPD_STAT] [.upd] t) ∧
  (∀ (v : Word) (s : State), s.inReset 0x16 = false →
    ∃ t, exec (.otpKeyWrite v) s = .next t ∧ t.upd = { s.upd with key := v == 0x7E1A#32 } ∧ s.only [] [.upd] t) ∧
  (∀ (r : UpdRun) (s : State), s.inReset 0x16 = false → s.upd.run = some r → r.code = 0 → r.op < 16 → r.op ≠ 7 → r.op ≠ 8 →
    ∃ t, exec .updCommandEnd s = .next t ∧ t.get UPD_STAT_BUSY = 0 ∧ t.get UPD_RES_CODE = 0 ∧ t.get UPD_RES_OP = r.op ∧ t.get UPD_EVT_DONE = 1 ∧
      t.upd = { s.upd with run := none } ∧ s.only [UPD_STAT, UPD_RES, UPD_EVT] [.upd] t) ∧
  (∀ (r : UpdRun) (k : Nat) (d : Dir) (s : State), s.inReset 0x16 = false → s.upd.run = some r → r.code = 0 → r.op = 7 →
    s.dirChosen = some (k, d) →
    ∃ t, exec .updCommandEnd s = .next t ∧ t.get UPD_STAT_BUSY = 0 ∧ t.get UPD_RES_CODE = 0 ∧ t.get UPD_RES_OP = 7 ∧ t.get UPD_EVT_DONE = 1 ∧
      t.get UPD_BOOT_STATE = 1 ∧ t.get UPD_BOOT_SLOT = d.cand ∧ t.upd = { s.upd with run := none, act := true } ∧
      s.only [UPD_STAT, UPD_RES, UPD_EVT, UPD_BOOT] [.upd] t) ∧
  (∀ (r : UpdRun) (s : State), s.inReset 0x16 = false → s.upd.run = some r → r.code = 0 → r.op = 8 →
    ∃ t, exec .updCommandEnd s = .next t ∧ t.get UPD_STAT_BUSY = 0 ∧ t.get UPD_RES_CODE = 0 ∧ t.get UPD_RES_OP = 8 ∧ t.get UPD_EVT_DONE = 1 ∧
      t.get UPD_STAT_TRIAL = 0 ∧ t.get UPD_BOOT_STATE = 0 ∧ t.get UPD_EVT_CONFIRMED = 1 ∧ t.upd = { s.upd with run := none, trial := none } ∧
      s.only [UPD_STAT, UPD_RES, UPD_EVT, UPD_BOOT] [.upd] t) ∧
  (∀ (r : UpdRun) (s : State), s.inReset 0x16 = false → s.upd.run = some r → r.code ≠ 0 → r.code ≠ 0x14 → r.code < 32 → s.roomy →
    ∃ t, exec .updCommandEnd s = .next t ∧ t.get UPD_STAT_BUSY = 0 ∧ t.get UPD_RES_CODE = r.code ∧ t.get UPD_EVT_DONE = 1 ∧ t.get UPD_EVT_REFUSED = 1 ∧
      s.sent t 0x16 0x70 r.code ∧
      t.upd = { s.upd with run := none, trial := if r.op = 8 then s.upd.trial.map fun u => u + (s.sys.t - r.at_) else s.upd.trial } ∧
      s.only [UPD_STAT, UPD_RES, UPD_EVT] [.upd, .fltQ] t) ∧
  (∀ (s : State), s.inReset 0x16 = false → s.upd.run = none → ∃ t, exec .updCommandEnd s = .next t ∧ s.only [] [] t)

/-- R496 to R502, R504, R505. Results are 1 PASS, 2 FAIL, 3 SKIPPED. -/
def Obligations.ProofRunAndScan : Prop :=
  (∀ (cs : List (BitVec 48 × BitVec 48)) (s : State), s.inReset 0x17 = false → s.get TST_PSTAT_STATE ≠ 1 → ∃ t, exec (.proofStepEnd cs) s = .next t ∧ s.only [] [] t) ∧
  (∀ (cs : List (BitVec 48 × BitVec 48)) (s : State), s.inReset 0x17 = false → s.get TST_PSTAT_STATE = 1 → s.get TST_PSTAT_STEP = 6 →
    (∀ n, n < 8 → s.on (LSV_SCI_CFG_EN n) = true → s.contactBad n = false) → (∀ k, k < 5 → s.get (TST_PRES_RES k) ≠ 2) →
    ∃ t, exec (.proofStepEnd cs) s = .next t ∧ t.get (TST_PRES_RES 5) = 1 ∧ t.get TST_PFAIL_SCI = 0 ∧ t.get TST_PSTAT_STATE = 2 ∧
      t.get TST_EVT_DONE = 1 ∧ t.get TST_EVT_FAIL = s.get TST_EVT_FAIL ∧ s.only [TST_PRES, TST_PFAIL, TST_PSTAT, TST_EVT] [] t) ∧
  (∀ (cs : List (BitVec 48 × BitVec 48)) (n : Fin 8) (s : State), s.inReset 0x17 = false → s.get TST_PSTAT_STATE = 1 → s.get TST_PSTAT_STEP = 6 → s.roomy →
    s.on (LSV_SCI_CFG_EN n.val) = true → s.get (LSV_SCI_STAT_STATE n.val) = 4 →
    ∃ t, exec (.proofStepEnd cs) s = .next t ∧ t.get (TST_PRES_RES 5) = 2 ∧ t.getBit TST_PFAIL_SCI n.val = true ∧ t.get TST_PSTAT_STATE = 2 ∧
      t.get TST_EVT_DONE = 1 ∧ t.get TST_EVT_FAIL = 1 ∧ s.sent t 0x17 0x78 6 ∧ s.only [TST_PRES, TST_PFAIL, TST_PSTAT, TST_EVT] [.fltQ] t) ∧
  (∀ (cs : List (BitVec 48 × BitVec 48)) (s : State), s.inReset 0x17 = false → s.get TST_PSTAT_STATE = 1 → s.get TST_PSTAT_STEP = 5 → s.tst.swept = 0 →
    s.getBit TST_PCTL_STEPS 5 = true →
    ∃ t, exec (.proofStepEnd cs) s = .next t ∧ t.get (TST_PRES_RES 4) = 1 ∧ t.get TST_PFAIL_LINE = 0 ∧ t.get TST_PSTAT_STEP = 6 ∧
      t.get TST_PSTAT_STATE = 1 ∧ s.only [TST_PRES, TST_PFAIL, TST_PSTAT] [.tst] t) ∧
  (∀ (cs : List (BitVec 48 × BitVec 48)) (s : State), s.inReset 0x17 = false → s.get TST_PSTAT_STATE = 1 → s.get TST_PSTAT_STEP = 5 → (s.lsCh 3).sweep ≠ none →
    s.tst.swept = 8 →
    ∃ t, exec (.proofStepEnd cs) s = .next t ∧ s.only [] [] t) ∧
  (∀ (cs : List (BitVec 48 × BitVec 48)) (d : Fin 2) (s : State), s.inReset 0x17 = false → s.get TST_PSTAT_STATE = 1 → s.get TST_PSTAT_STEP = 2 + d.val → s.tst.phase = 0 →
    s.mayForce = false → s.getBit TST_PCTL_STEPS (2 + d.val) = false → s.getBit TST_PCTL_STEPS 3 = false → s.getBit TST_PCTL_STEPS 4 = false →
    s.getBit TST_PCTL_STEPS 5 = true →
    ∃ t, exec (.proofStepEnd cs) s = .next t ∧ t.get (TST_PRES_RES (1 + d.val)) = 3 ∧ t.get TST_PSTAT_STEP = 6 ∧ t.get TST_PSTAT_STATE = 1 ∧
      s.only [TST_PRES, TST_PSTAT] [.tst] t) ∧
  (∀ (cs : List (BitVec 48 × BitVec 48)) (d : Fin 2) (s : State), s.inReset 0x17 = false → s.get TST_PSTAT_STATE = 1 → s.get TST_PSTAT_STEP = 2 + d.val → s.tst.phase = 0 →
    s.mayForce = true → s.roomy → s.inReset 0x0D = false → (∀ qi, qi < 9 → s.queue d.val qi = []) → s.fwd.held = [] → s.fwd.locWait = [] →
    s.fwd.drains = [] → s.occ (1 - d.val) 0 + 1 ≤ s.limit (1 - d.val) 0 →
    ∃ t, exec (.proofStepEnd cs) s = .next t ∧ t.tst.force = some d.val ∧ t.tst.phase = 1 ∧ t.dirState d.val = 1 ∧
      t.get RED_LOSS_LOG_CAUSE = 0x07 ∧ t.get RED_LOSS_LOG_DIR = d.val ∧ s.sent t 0x0E 0x40 (7 + 2 ^ 8 * d.val) ∧
      t.get TST_PSTAT_STEP = 2 + d.val ∧ t.mem = s.mem) ∧
  (∀ (cs : List (BitVec 48 × BitVec 48)) (d : Fin 2) (s : State), s.inReset 0x17 = false → s.get TST_PSTAT_STATE = 1 → s.get TST_PSTAT_STEP = 2 + d.val → s.tst.phase = 1 →
    s.tst.force = some d.val → s.dirState d.val = 1 → s.laneUp d.val = true → s.on (LANE_STAT_RF_RX d.val) = false → s.blocked d.val = false →
    Tab.get (fun _ => none) s.red.due d.val = none → s.red.everUp.testBit d.val = true →
    ∃ t, exec (.proofStepEnd cs) s = .next t ∧ t.tst.force = none ∧ t.tst.phase = 2 ∧ t.dirState d.val = 2 ∧ s.only [RED_STAT] [.tst] t) ∧
  (∀ (cs : List (BitVec 48 × BitVec 48)) (dt : Nat) (s : State), s.inReset 0x17 = false → s.get TST_PSTAT_STATE = 1 → s.get TST_PSTAT_STEP = 2 → s.tst.phase = 2 →
    s.rd64 RED_WRAP_T = s.rd64 RED_LOSS_T + dt → dt ≤ 5000 → s.tst.lost.testBit 1 = false → s.dirState 0 = 0 → s.dirState 1 = 0 →
    s.get TST_PCTL_STEPS = 0x22 →
    ∃ t, exec (.proofStepEnd cs) s = .next t ∧ t.get (TST_PRES_RES 1) = 1 ∧ t.get TST_PWRAP_CW = dt ∧ t.get TST_PSTAT_STEP = 6 ∧
      s.only [TST_PRES, TST_PWRAP, TST_PSTAT] [.tst] t) ∧
  (∀ (cs : List (BitVec 48 × BitVec 48)) (dt : Nat) (s : State), s.inReset 0x17 = false → s.get TST_PSTAT_STATE = 1 → s.get TST_PSTAT_STEP = 2 → s.tst.phase = 2 →
    s.rd64 RED_WRAP_T = s.rd64 RED_LOSS_T + dt → 5000 < dt → dt < 65536 → s.get TST_PCTL_STEPS = 0x22 → s.roomy →
    ∃ t, exec (.proofStepEnd cs) s = .next t ∧ t.get (TST_PRES_RES 1) = 2 ∧ t.get TST_PWRAP_CW = dt ∧ s.sent t 0x17 0x78 2 ∧
      t.get TST_PSTAT_STEP = 6 ∧ s.only [TST_PRES, TST_PWRAP, TST_PSTAT] [.tst, .fltQ] t) ∧
  (∀ (cs : List (BitVec 48 × BitVec 48)) (s : State), s.inReset 0x17 = false → s.get TST_PSTAT_STATE = 1 → s.get TST_PSTAT_STEP = 4 → s.tst.phase = 2 →
    s.on RED_TWIN_STAT_ANCHOR_IN = true → s.tst.yieldT ≤ s.tst.riseT → s.tst.riseT - s.tst.yieldT < 65536 →
    ∃ t, exec (.proofStepEnd cs) s = .next t ∧ t.get TST_PTWIN_OUT = s.tst.riseT - s.tst.yieldT ∧ t.tst = { s.tst with phase := 3 } ∧
      s.only [TST_PTWIN] [.tst] t) ∧
  (∀ (cs : List (BitVec 48 × BitVec 48)) (s : State), s.inReset 0x17 = false → s.get TST_PSTAT_STATE = 1 → s.get TST_PSTAT_STEP = 4 → s.tst.phase = 2 →
    s.on RED_TWIN_STAT_ANCHOR_IN = false → s.getBit TST_PCTL_STEPS 4 = false → s.getBit TST_PCTL_STEPS 5 = true → s.roomy →
    ∃ t, exec (.proofStepEnd cs) s = .next t ∧ t.get (TST_PRES_RES 3) = 2 ∧ s.sent t 0x17 0x78 4 ∧ t.get TST_PSTAT_STEP = 6 ∧
      s.only [TST_PRES, TST_PSTAT] [.tst, .fltQ] t) ∧
  (∀ (cs : List (BitVec 48 × BitVec 48)) (s : State), s.inReset 0x17 = false → s.get TST_PSTAT_STATE = 1 → s.get TST_PSTAT_STEP = 4 → s.tst.phase = 4 →
    s.get RED_TWIN_STAT_STATE = 2 → s.tst.pulseT = some s.tst.holdT → s.getBit TST_PCTL_STEPS 4 = false → s.getBit TST_PCTL_STEPS 5 = true →
    ∃ t, exec (.proofStepEnd cs) s = .next t ∧ t.get (TST_PRES_RES 3) = 1 ∧ t.get TST_PTWIN_BACK = 0 ∧ t.get TST_PSTAT_STEP = 6 ∧
      s.only [TST_PRES, TST_PTWIN, TST_PSTAT] [.tst] t) ∧
  (∀ (cs : List (BitVec 48 × BitVec 48)) (s : State), s.inReset 0x17 = false → s.get TST_PSTAT_STATE = 1 → s.get TST_PSTAT_STEP = 1 → s.tst.lanes = 0 →
    s.get TST_PCTL_STEPS = 0x21 →
    ∃ t, exec (.proofStepEnd cs) s = .next t ∧ t.get (TST_PRES_RES 0) = 1 ∧ t.get TST_PSTAT_STEP = 6 ∧ s.only [TST_PRES, TST_PSTAT] [.tst] t) ∧
  (∀ (who : Who) (s : State), s.open_ 0x17 = true → s.on MPC_MODE_FTEST = true →
    ∃ t, exec (.mbist who) s = .next t ∧ t.resp = some ⟨whoKey who, 0, 0⟩ ∧ t.tst = { s.tst with mbist := true } ∧
      t.get TST_FTCTL_MBIST_DONE = 0 ∧ t.get TST_FTCTL_MBIST_FAIL = 0 ∧ t.get MSA_STAT_INIT_DONE = 0 ∧
      s.only [TST_FTCTL, MSA_STAT] [.tst, .resp] t) ∧
  (∀ (who : Who) (s : State), s.inReset 0x17 = false → s.on MPC_MODE_FTEST = false →
    ∃ t, exec (.mbist who) s = .next t ∧ t.resp = some ⟨whoKey who, 0x05, 0⟩ ∧ s.only [] [.resp] t) ∧
  (∀ (faulty : Bool) (s : State), s.dark = false → s.tst.mbist = true → s.store.wait = [] →
    ∃ t, exec (.mbistDone faulty) s = .next t ∧ t.get TST_FTCTL_MBIST_DONE = 1 ∧ (faulty = true → t.get TST_FTCTL_MBIST_FAIL = 1) ∧
      t.get MSA_STAT_INIT_DONE = 1 ∧ t.tst = { s.tst with mbist := false } ∧ (∀ a, a < storeSize → t.byte a = 0#8) ∧
      s.only [TST_FTCTL, MSA_STAT] [.tst, .mem, .store] t) ∧
  (∀ (faulty : Bool) (s : State), s.dark = false → s.tst.mbist = false → ∃ t, exec (.mbistDone faulty) s = .next t ∧ s.only [] [] t) ∧
  (∀ s : State, ∃ t, exec .bypass s = .next t ∧ t.tst = { s.tst with ir := 0 } ∧ (∀ p, t.pioBall p = t.pad p) ∧ s.only [] [.tst] t) ∧
  (∀ s : State, ∃ t, exec .idcode s = .next t ∧ t.tst = { s.tst with ir := 1, tdo := s.rd TST_IDCODE } ∧ (∀ p, t.pioBall p = t.pad p) ∧ s.only [] [.tst] t) ∧
  (∀ (cell : Fin 96) (v : Bool × Bool) (s : State),
    ∃ t, exec (.samplePreload [(cell, v)]) s = .next t ∧ t.tst.ir = 2 ∧
      (∀ k, Tab.get (fun _ => (false, false)) t.tst.cells k = if k = cell.val then v else Tab.get (fun _ => (false, false)) s.tst.cells k) ∧
      (∀ p, t.pioBall p = t.pad p) ∧ s.only [] [.tst] t) ∧
  (∀ (cell : Fin 96) (lvl : Bool) (s : State), cell.val < 64 → s.anchored cell.val = false →
    ∃ t, exec (.extest [(cell, lvl, true)]) s = .next t ∧ t.tst.ir = 3 ∧ t.pioBall cell.val = some lvl ∧ s.only [] [.tst] t) ∧
  (∀ (cell : Fin 96) (lvl : Bool) (s : State), cell.val < 64 → s.anchored cell.val = true → s.on MPC_MODE_FTEST = false →
    ∃ t, exec (.extest [(cell, lvl, true)]) s = .next t ∧ t.pioBall cell.val = none ∧ t.anchorBall = some false ∧ s.only [] [.tst] t) ∧
  (∀ s : State, ∃ t, exec .highz s = .next t ∧ t.tst = { s.tst with ir := 4 } ∧ (∀ p, t.pioBall p = none) ∧ t.anchorBall = none ∧ s.only [] [.tst] t) ∧
  (∀ (pin : Fin 64) (lvl : Bool) (s : State), Tab.get (fun _ => (false, false)) s.tst.cells pin.val = (lvl, true) → s.anchored pin.val = false →
    ∃ t, exec .clamp s = .next t ∧ t.tst = { s.tst with ir := 5 } ∧ t.pioBall pin.val = some lvl ∧ s.only [] [.tst] t) ∧
  (∀ (code : BitVec 8) (s : State), s.on MPC_MODE_FTEST = true →
    ∃ t, exec (.jtagPrivate code) s = .next t ∧ t.tst = { s.tst with ir := 6, priv := code.toNat } ∧ s.only [] [.tst] t) ∧
  (∀ (code : BitVec 8) (s : State), s.on MPC_MODE_FTEST = false →
    ∃ t, exec (.jtagPrivate code) s = .next t ∧ t.tst = { s.tst with ir := 0 } ∧ s.only [] [.tst] t)

/-- R457 to R465, R467, R469, R470. The states are 0 DISABLED, 1 WAIT, 2 DELAY, 3 DETECT, 4 RAMP, 5 ON, 6 RETRY, 7 LATCHED. -/
def Obligations.LinePortStates : Prop :=
  (∀ (p : Fin 2) (low : Bool) (s : State), s.lpw.aon = true → s.get (LPW_P_STAT_STATE p.val) = 1 →
    ∃ t, exec (.lineWindowChange p.castSucc 0 low) s = .next t ∧ t.get (LPW_P_STAT_STATE p.val) = 2 ∧
      t.lp p.val = { s.lp p.val with cls := 0, low := low } ∧ t.get (LPW_P_STAT_SIG p.val) = b2n (!s.on LPW_VBUS_IN && low) ∧
      s.only [LPW_P_STAT p.val, LPW_STAT] [.lpw] t) ∧
  (∀ (p : Fin 2) (low : Bool) (s : State), s.lpw.aon = true → s.get (LPW_P_STAT_STATE p.val) = 5 → s.on LPW_STAT_STACKED = false →
    s.on (LPW_P_CFG_EN p.val) = true → s.on (LPW_P_STAT_FORCED p.val) = false → s.d2dLost = false → s.roomy →
    ∃ t, exec (.lineWindowChange p.castSucc 2 low) s = .next t ∧ t.get (LPW_P_STAT_STATE p.val) = 1 ∧
      t.get (LPW_P_STAT_CAUSE p.val) = 1 ∧ t.get (LPW_P_STAT_PG p.val) = 0 ∧ t.get (LPW_P_STAT_LIMIT p.val) = 0 ∧
      t.getBit (if p.val = 0 then LPW_EVT_P0 else LPW_EVT_P1) 1 = true ∧ s.sent t 0x15 0x62 p.val ∧
      t.tst = (s.proofCause 2).tst ∧ s.only [LPW_P_STAT p.val, LPW_STAT, LPW_EVT] [.lpw, .fltQ, .tst] t) ∧
  (∀ (cls : Fin 3) (low : Bool) (s : State), s.lpw.aon = true → cls.val ≠ 0 → s.on LPW_VBUS_IN = true →
    (∀ p, p < 2 → s.get (LPW_P_STAT_STATE p) ≠ 1 ∧ s.get (LPW_P_STAT_STATE p) ≠ 5) →
    ∃ t, exec (.lineWindowChange 2 cls low) s = .next t ∧ t.get LPW_VBUS_IN = 0 ∧ t.get LPW_EVT_BUS = 1 ∧
      (∀ p, p < 2 → t.get (LPW_P_STAT_STATE p) = s.get (LPW_P_STAT_STATE p) ∧
        t.get (LPW_P_STAT_SIG p) = b2n ((s.lp p).low && s.get (LPW_P_STAT_STATE p) != 3)) ∧
      s.only [LPW_VBUS, LPW_EVT, LPW_P_STAT 0, LPW_P_STAT 1] [] t) ∧
  (∀ (low : Bool) (s : State), s.lpw.aon = true → s.on LPW_VBUS_IN = false →
    (∀ p, p < 2 → s.get (LPW_P_STAT_STATE p) = 1 ∧ (s.lp p).cls = 1 ∧ s.on (LPW_P_CFG_SOURCE p) = true ∧ (s.lp p).due = true) →
    ∃ t, exec (.lineWindowChange 2 0 low) s = .next t ∧ t.get LPW_VBUS_IN = 1 ∧
      (∀ p, p < 2 → t.get (LPW_P_STAT_STATE p) = 3 ∧ t.get (LPW_P_STAT_SIG p) = 0 ∧ (t.lp p).due = false) ∧
      s.only [LPW_VBUS, LPW_EVT, LPW_P_STAT 0, LPW_P_STAT 1, LPW_STAT] [.lpw] t) ∧
  (∀ (p : Fin 2) (s : State), s.lpw.aon = true → s.get (LPW_P_STAT_STATE p.val) = 2 →
    ∃ t, exec (.insDlyExpiry p) s = .next t ∧ t.get (LPW_P_STAT_STATE p.val) = 4 ∧ t.get (LPW_P_STAT_ROLE p.val) = 0 ∧
      s.only [LPW_P_STAT p.val, LPW_STAT] [] t) ∧
  (∀ (p : Fin 2) (s : State), s.lpw.aon = true → s.get (LPW_P_STAT_STATE p.val) = 1 → (s.lp p.val).cls = 1 → s.on LPW_VBUS_IN = true →
    s.on (LPW_P_CFG_SOURCE p.val) = true →
    ∃ t, exec (.detectionDue p) s = .next t ∧ t.get (LPW_P_STAT_STATE p.val) = 3 ∧ (t.lp p.val).due = false ∧
      s.only [LPW_P_STAT p.val, LPW_STAT] [.lpw] t) ∧
  (∀ (p : Fin 2) (v1 v2 : BitVec 17) (bias : Bool) (s : State), s.lpw.aon = true → s.get (LPW_P_STAT_STATE p.val) = 3 →
    detResult v1.toNat v2.toNat bias = 1 →
    ∃ t, exec (.detectionDone p v1 v2 bias) s = .next t ∧ t.get (LPW_P_STAT_STATE p.val) = 4 ∧
      t.get (LPW_P_STAT_ROLE p.val) = 1 ∧ t.get (LPW_P_STAT_DRES p.val) = 1 ∧
      t.get (LPW_P_DET_OHMS p.val) = detOhms v1.toNat v2.toNat ∧ s.only [LPW_P_STAT p.val, LPW_P_DET p.val, LPW_STAT] [] t) ∧
  (∀ (p : Fin 2) (v1 v2 : BitVec 17) (bias : Bool) (s : State), s.lpw.aon = true → s.get (LPW_P_STAT_STATE p.val) = 3 →
    detResult v1.toNat v2.toNat bias ≠ 1 → detResult v1.toNat v2.toNat bias ≠ s.get (LPW_P_STAT_DRES p.val) →
    s.on LPW_STAT_STACKED = false → s.on (LPW_P_CFG_EN p.val) = true → s.on (LPW_P_STAT_FORCED p.val) = false →
    (s.lp p.val).cls = 1 → (s.lp p.val).due = false → s.d2dLost = false → s.roomy →
    ∃ t, exec (.detectionDone p v1 v2 bias) s = .next t ∧ t.get (LPW_P_STAT_STATE p.val) = 1 ∧
      t.get (LPW_P_STAT_DRES p.val) = detResult v1.toNat v2.toNat bias ∧
      t.getBit (if p.val = 0 then LPW_EVT_P0 else LPW_EVT_P1) 4 = true ∧ s.sent t 0x15 0x63 p.val ∧
      s.only [LPW_P_STAT p.val, LPW_P_DET p.val, LPW_STAT, LPW_EVT] [.lpw, .fltQ] t) ∧
  (∀ (p : Fin 2) (s : State), s.lpw.aon = true → s.get (LPW_P_STAT_STATE p.val) = 4 →
    ∃ t, exec (.rampDone p) s = .next t ∧ t.get (LPW_P_STAT_STATE p.val) = 5 ∧
      t.getBit (if p.val = 0 then LPW_EVT_P0 else LPW_EVT_P1) 0 = true ∧
      t.get (LPW_P_STAT_PG p.val) = s.get (LPW_P_STAT_PG p.val) ∧ s.only [LPW_P_STAT p.val, LPW_EVT] [] t) ∧
  (∀ (p : Fin 2) (s : State), s.lpw.aon = true → s.get (LPW_P_STAT_STATE p.val) = 5 → s.on (LPW_P_STAT_LIMIT p.val) = false →
    ∃ t, exec (.pgBlankEnd p) s = .next t ∧ t.get (LPW_P_STAT_PG p.val) = 1 ∧ t.get LPW_STAT_PGOOD = 1 ∧
      s.only [LPW_P_STAT p.val, LPW_STAT] [] t) ∧
  (∀ (p : Fin 2) (s : State), s.lpw.aon = true → s.get (LPW_P_STAT_STATE p.val) = 5 → s.on (LPW_P_STAT_LIMIT p.val) = false →
    ∃ t, exec (.gateVoltageLow p) s = .next t ∧ t.get (LPW_P_STAT_PG p.val) = 0 ∧
      t.get LPW_STAT_PGOOD = s.get (LPW_P_STAT_PG (1 - p.val)) ∧ s.only [LPW_P_STAT p.val, LPW_STAT] [] t) ∧
  (∀ (p : Fin 2) (s : State), s.lpw.aon = true → s.on (LPW_P_STAT_PG p.val) = true →
    ∃ t, exec (.failsClear p) s = .next t ∧ t.get (LPW_P_STAT_FAILS p.val) = 0 ∧ s.only [LPW_P_STAT p.val] [] t) ∧
  (∀ (p : Fin 2) (reg : Bool) (s : State), s.lpw.aon = true → s.get (LPW_P_STAT_STATE p.val) ∈ [4, 5] →
    ∃ t, exec (.currentLimit p reg) s = .next t ∧ t.get (LPW_P_STAT_LIMIT p.val) = b2n reg ∧ s.only [LPW_P_STAT p.val] [] t)

/-- R459, R464 to R468. -/
def Obligations.LinePortFailures : Prop :=
  (∀ (p : Fin 2) (ta : BitVec 18) (s : State), s.lpw.aon = true → s.get (LPW_P_STAT_STATE p.val) ∈ [4, 5] → s.get (LPW_P_CFG_RETRY_MAX p.val) = 0 →
    s.d2dLost = false → s.roomy →
    ∃ t, exec (.fastTrip p ta) s = .next t ∧ t.get (LPW_P_STAT_STATE p.val) = 6 ∧ t.get (LPW_P_STAT_CAUSE p.val) = 2 ∧
      t.get (LPW_P_STAT_FAILS p.val) = min 255 (s.get (LPW_P_STAT_FAILS p.val) + 1) ∧
      (t.lp p.val).off = max 1000000 (100 * min ta.toNat (s.taMax p.val)) ∧ t.get (LPW_P_STAT_PG p.val) = 0 ∧ t.get (LPW_P_STAT_LIMIT p.val) = 0 ∧
      t.getBit (if p.val = 0 then LPW_EVT_P0 else LPW_EVT_P1) 2 = true ∧ s.sent t 0x15 0x60 p.val ∧
      t.tst = (s.proofCause 2).tst ∧ s.only [LPW_P_STAT p.val, LPW_EVT, LPW_STAT] [.lpw, .fltQ, .tst] t) ∧
  (∀ (p : Fin 2) (ta : BitVec 18) (s : State), s.lpw.aon = true → s.get (LPW_P_STAT_STATE p.val) ∈ [4, 5] → s.on (LPW_P_STAT_LIMIT p.val) = true →
    s.get (LPW_P_CFG_RETRY_MAX p.val) = 0 → s.d2dLost = false → s.roomy →
    ∃ t, exec (.faultTimerExpiry p ta) s = .next t ∧ t.get (LPW_P_STAT_STATE p.val) = 6 ∧ t.get (LPW_P_STAT_CAUSE p.val) = 3 ∧
      (s.get (LPW_P_STAT_STATE p.val) = 4 → (t.lp p.val).off = max 1000000 (100 * min ta.toNat (s.taMax p.val))) ∧
      (s.get (LPW_P_STAT_STATE p.val) = 5 →
        (t.lp p.val).off = max 1000000 (100000 * min 50 (max 1 (s.get (LPW_P_TIM_TFLT p.val))))) ∧
      t.getBit (if p.val = 0 then LPW_EVT_P0 else LPW_EVT_P1) 3 = true ∧ s.sent t 0x15 0x61 p.val ∧
      t.tst = (s.proofCause 2).tst ∧ s.only [LPW_P_STAT p.val, LPW_EVT, LPW_STAT] [.lpw, .fltQ, .tst] t) ∧
  (∀ (p : Fin 2) (s : State), s.lpw.aon = true → s.get (LPW_P_STAT_STATE p.val) = 4 → s.d2dLost = false → s.inReset 0x05 = false →
    s.fltQ.length < 31 → s.get (LPW_P_CFG_RETRY_MAX p.val) = s.get (LPW_P_STAT_FAILS p.val) + 1 →
    ∃ t, exec (.rampTimeout p) s = .next t ∧ t.get (LPW_P_STAT_STATE p.val) = 7 ∧ t.get (LPW_P_STAT_CAUSE p.val) = 4 ∧
      t.get (LPW_P_STAT_FAILS p.val) = s.get (LPW_P_CFG_RETRY_MAX p.val) ∧
      t.getBit (if p.val = 0 then LPW_EVT_P0 else LPW_EVT_P1) 6 = true ∧
      t.getBit (if p.val = 0 then LPW_EVT_P0 else LPW_EVT_P1) 5 = true ∧
      t.fltQ = fltInsert ⟨0x15, 0x64, kindSev 0x64, p.val, false, s.sys.t⟩ (fltInsert ⟨0x15, 0x65, kindSev 0x65, p.val, false, s.sys.t⟩ s.fltQ) ∧
      t.tst = (s.proofCause 2).tst ∧ s.only [LPW_P_STAT p.val, LPW_EVT, LPW_STAT] [.fltQ, .tst] t) ∧
  (∀ (p : Fin 2) (ta : BitVec 18) (s : State), s.lpw.aon = true → s.get (LPW_P_STAT_STATE p.val) = 5 → s.get (LPW_P_CFG_RETRY_MAX p.val) = 0 →
    s.d2dLost = true → s.lpw.q.length < 16 →
    ∃ t, exec (.fastTrip p ta) s = .next t ∧ t.get (LPW_P_STAT_STATE p.val) = 6 ∧ t.fltQ = s.fltQ ∧
      t.lpw.q = s.lpw.q ++ [⟨0x15, 0x60, kindSev 0x60, p.val, false, s.sys.t⟩]) ∧
  (∀ (p : Fin 2) (s : State), s.lpw.aon = true → s.get (LPW_P_STAT_STATE p.val) = 6 → s.on LPW_STAT_STACKED = false →
    s.on (LPW_P_CFG_EN p.val) = true → s.on (LPW_P_STAT_FORCED p.val) = false → (s.lp p.val).cls = 2 →
    ∃ t, exec (.offTimeEnd p) s = .next t ∧ t.get (LPW_P_STAT_STATE p.val) = 1 ∧ (t.lp p.val).due = true ∧
      (t.lp p.val).off = 0 ∧ t.get (LPW_P_STAT_OFF_LEFT p.val) = 0 ∧
      t.get (LPW_P_STAT_FAILS p.val) = s.get (LPW_P_STAT_FAILS p.val) ∧ s.only [LPW_P_STAT p.val, LPW_STAT] [.lpw] t) ∧
  (∀ (p : Fin 2) (s : State), s.lpw.aon = true → s.get (LPW_P_STAT_STATE p.val) ∉ [4, 5, 7] → s.d2dLost = false → s.roomy →
    ∃ t, exec (.fetShort p) s = .next t ∧ t.get (LPW_P_STAT_STATE p.val) = 7 ∧
      t.getBit (if p.val = 0 then LPW_EVT_P0 else LPW_EVT_P1) 6 = true ∧ s.sent t 0x15 0x65 p.val ∧
      t.tst = (s.proofCause 2).tst ∧ s.only [LPW_P_STAT p.val, LPW_EVT, LPW_STAT] [.lpw, .fltQ, .tst] t) ∧
  (∀ (p : Fin 2) (s : State), s.lpw.aon = true → s.get (LPW_P_STAT_STATE p.val) ∈ [4, 5, 7] →
    ∃ t, exec (.fetShort p) s = .next t ∧ s.only [] [] t)

/-- R12, R455, R457 to R459, R462, R466. -/
def Obligations.LinePowerCommands : Prop :=
  (∀ (p : Fin 2) (s : State), s.dark = false → s.d2dLost = false → s.inReset 0x15 = false →
    ∃ t, exec (.lpwOff p) s = .next t ∧ t.get (LPW_P_STAT_STATE p.val) = 0 ∧ t.get (LPW_P_STAT_FORCED p.val) = 1 ∧
      t.get (LPW_P_STAT_CAUSE p.val) = 5 ∧ t.get (LPW_P_STAT_FAILS p.val) = 0 ∧ t.get (LPW_P_STAT_PG p.val) = 0 ∧
      t.get (LPW_P_STAT_LIMIT p.val) = 0 ∧ s.only [LPW_P_STAT p.val, LPW_STAT] [.lpw] t) ∧
  (∀ (p : Fin 2) (s : State), s.dark = false → s.d2dLost = false → s.inReset 0x15 = false → s.get (LPW_P_STAT_STATE p.val) = 0 →
    s.on LPW_STAT_STACKED = false → s.on (LPW_P_CFG_EN p.val) = true → (s.lp p.val).cls = 2 →
    ∃ t, exec (.lpwOn p) s = .next t ∧ t.get (LPW_P_STAT_STATE p.val) = 1 ∧ t.get (LPW_P_STAT_FORCED p.val) = 0 ∧
      s.only [LPW_P_STAT p.val, LPW_STAT] [.lpw] t) ∧
  (∀ (p : Fin 2) (s : State), s.dark = false → s.d2dLost = false → s.inReset 0x15 = false → s.get (LPW_P_STAT_STATE p.val) = 7 →
    s.on LPW_STAT_STACKED = false → s.on (LPW_P_CFG_EN p.val) = true → s.on (LPW_P_STAT_FORCED p.val) = false →
    (s.lp p.val).cls = 0 →
    ∃ t, exec (.lpwClear p) s = .next t ∧ t.get (LPW_P_STAT_STATE p.val) = 2 ∧ t.get (LPW_P_STAT_FAILS p.val) = 0 ∧
      s.only [LPW_P_STAT p.val, LPW_STAT] [.lpw] t) ∧
  (∀ (p : Fin 2) (s : State), s.dark = false → s.d2dLost = false → s.inReset 0x15 = false → s.get (LPW_P_STAT_STATE p.val) ≠ 1 →
    ∃ t, exec (.lpwDetect p) s = .next t ∧ (t.lp p.val).due = true ∧ s.only [] [.lpw] t) ∧
  (∀ (p : Fin 2) (c : Instr) (s : State), c ∈ [Instr.lpwOff p, .lpwOn p, .lpwClear p, .lpwDetect p] → s.d2dLost = true →
    ∃ t, exec c s = .next t ∧ s.only [] [] t) ∧
  (∀ (b q c0 w0 l0 t0 c1 w1 l1 t1 : Word) (e w : Fin 3) (lowE lowW : Bool) (s : State), s.lpw.aon = true → s.lpw.take = true → s.d2dLost = false →
    s.lpw.sent = [b, q, c0, w0, l0, t0, c1, w1, l1, t1] → winBad b = true → winBad w0 = false → winBad w1 = false →
    s.get (LPW_P_STAT_STATE 0) = 0 → s.get (LPW_P_STAT_STATE 1) = 0 → c0.getLsbD 0 = false → c1.getLsbD 0 = false →
    ∃ t, exec (.lpwApplyTake e w lowE lowW (s.on LPW_VBUS_IN)) s = .next t ∧ t.rd LPW_BUS = s.rd LPW_BUS ∧ t.rd LPW_SEQ = q ∧
      t.rd (LPW_P_CFG 0) = c0 ∧ t.rd (LPW_P_WIN 0) = w0 ∧ t.rd (LPW_P_LIM 0) = l0 ∧ t.rd (LPW_P_TIM 0) = t0 ∧
      t.rd (LPW_P_CFG 1) = c1 ∧ t.rd (LPW_P_WIN 1) = w1 ∧ t.rd (LPW_P_LIM 1) = l1 ∧ t.rd (LPW_P_TIM 1) = t1 ∧
      t.get LPW_STAT_CFG_REJ = 1 ∧ t.get LPW_EVT_CFG_REJ = 1 ∧ t.lpw.take = false ∧
      (t.lp 0).cls = e.val ∧ (t.lp 1).cls = w.val ∧ (t.lp 0).low = lowE ∧ (t.lp 1).low = lowW ∧
      s.only (lpwShared ++ [LPW_STAT, LPW_EVT, LPW_P_STAT 0, LPW_P_STAT 1]) [.lpw] t)

/-- R12, R13, R455, R456, R472 to R477. -/
def Obligations.LineMeasureAndRails : Prop :=
  (∀ (vE vW vBus : BitVec 17) (iE iW : BitVec 16) (pE pW inE outE inW outW : Word) (s : State), s.lpw.aon = true →
    s.get (LPW_P_STAT_STATE 0) ≠ 6 → s.get (LPW_P_STAT_STATE 1) = 6 →
    ∃ t, exec (.lpwMeasure vE vW vBus iE iW pE pW inE outE inW outW) s = .next t ∧ t.get (LPW_P_V_MV 0) = vE.toNat ∧
      t.get (LPW_P_V_MV 1) = vW.toNat ∧ t.get LPW_VBUS_MV = vBus.toNat ∧ t.get (LPW_P_I_MA 0) = iE.toNat ∧
      t.get (LPW_P_I_MA 1) = iW.toNat ∧ t.get (LPW_P_P_MW 0) = pE.toNat ∧ t.get (LPW_P_P_MW 1) = pW.toNat ∧
      s.advanced t (LPW_CNT 2) ((Tab.get (fun _ => 0) s.lpw.acc 2 + inW.toNat) / 1000) ∧
      s.advanced t (LPW_CNT 1) ((Tab.get (fun _ => 0) s.lpw.acc 1 + outE.toNat) / 1000) ∧
      Tab.get (fun _ => 0) t.lpw.acc 3 = (Tab.get (fun _ => 0) s.lpw.acc 3 + outW.toNat) % 1000 ∧
      (t.lp 0) = s.lp 0 ∧ (t.lp 1).off = (s.lp 1).off - 1000 ∧
      s.only [LPW_P_V 0, LPW_P_V 1, LPW_VBUS, LPW_P_I 0, LPW_P_I 1, LPW_P_P 0, LPW_P_P 1, LPW_P_STAT 1] [.live, .lpw] t) ∧
  (∀ s : State, s.lpw.aon = true → s.get LPW_SEQ_STAT_STATE = 0 → s.on LPW_VBUS_IN = true →
    ∃ t, exec .seqStart s = .next t ∧ t.get LPW_SEQ_STAT_STATE = 1 ∧ t.getBit LPW_SEQ_STAT_PEN 0 = true ∧
      s.only [LPW_SEQ_STAT] [] t) ∧
  (∀ (inwin : BitVec 4) (n : Nat) (s : State), s.lpw.aon = true → n < 4 → 0 < n → s.get LPW_SEQ_STAT_STATE = 1 → s.getBit LPW_SEQ_STAT_PEN n = false →
    (∀ k, k < n → s.getBit LPW_SEQ_STAT_PEN k = true) → s.getBit LPW_SEQ_MON (n - 1) = false ∨ inwin.toNat.testBit (n - 1) = true →
    ∃ t, exec (.seqStep inwin) s = .next t ∧ t.getBit LPW_SEQ_STAT_PEN n = true ∧
      (∀ k, k < 4 → k ≠ n → t.getBit LPW_SEQ_STAT_PEN k = s.getBit LPW_SEQ_STAT_PEN k) ∧
      t.get LPW_SEQ_STAT_INWIN = inwin.toNat &&& s.get LPW_SEQ_STAT_PEN ∧ s.only [LPW_SEQ_STAT] [] t) ∧
  (∀ (inwin : BitVec 4) (n : Nat) (s : State), s.lpw.aon = true → n < 4 → 0 < n → s.get LPW_SEQ_STAT_STATE = 1 → s.getBit LPW_SEQ_STAT_PEN n = false →
    (∀ k, k < n → s.getBit LPW_SEQ_STAT_PEN k = true) → s.getBit LPW_SEQ_MON (n - 1) = true → inwin.toNat.testBit (n - 1) = false →
    ∃ t, exec (.seqStep inwin) s = .next t ∧ t.get LPW_SEQ_STAT_PEN = s.get LPW_SEQ_STAT_PEN ∧ s.only [LPW_SEQ_STAT] [] t) ∧
  (∀ (n : Fin 4) (s : State), s.lpw.aon = true → s.get LPW_SEQ_STAT_STATE = 1 → s.getBit LPW_SEQ_STAT_PEN n.val = true →
    s.getBit LPW_SEQ_MON n.val = true → s.getBit LPW_SEQ_STAT_INWIN n.val = false → s.d2dLost = false → s.roomy →
    ∃ t, exec (.railTimeout n) s = .next t ∧ t.get LPW_SEQ_STAT_STATE = 4 ∧ t.get LPW_SEQ_STAT_PEN = 0 ∧
      t.get LPW_SEQ_STAT_INWIN = 0 ∧ t.get LPW_SEQ_STAT_RAIL_FAILS = min 255 (s.get LPW_SEQ_STAT_RAIL_FAILS + 1) ∧
      t.get LPW_EVT_RAIL = 1 ∧ s.sent t 0x15 0x66 n.val ∧ t.tst = (s.proofCause 2).tst ∧ s.only [LPW_SEQ_STAT, LPW_EVT] [.fltQ, .tst] t) ∧
  (∀ s : State, s.lpw.aon = true → s.get LPW_SEQ_STAT_STATE = 4 →
    ∃ t, exec .seqRetry s = .next t ∧ t.get LPW_SEQ_STAT_STATE = 1 ∧ t.getBit LPW_SEQ_STAT_PEN 0 = true ∧
      s.only [LPW_SEQ_STAT] [] t) ∧
  (∀ (n : Fin 4) (s : State), s.lpw.aon = true → s.on LPW_STAT_RAILS_OK = true → s.getBit LPW_SEQ_MON n.val = true → s.d2dLost = false → s.roomy →
    ∃ t, exec (.lpRail n) s = .next t ∧ t.getBit LPW_SEQ_STAT_INWIN n.val = false ∧
      t.get LPW_SEQ_STAT_PEN = s.get LPW_SEQ_STAT_PEN ∧ t.get LPW_EVT_RAIL = 1 ∧ s.sent t 0x15 0x66 n.val ∧
      t.tst = (s.proofCause 2).tst ∧ s.only [LPW_SEQ_STAT, LPW_EVT] [.fltQ, .tst] t) ∧
  (∀ s : State, ∃ t, exec .aonSupplyLoss s = .next t ∧
    (∀ p, p < 2 → t.get (LPW_P_STAT_STATE p) = 0 ∧ t.get (LPW_P_STAT_PG p) = 0 ∧ t.get (LPW_P_STAT_SIG p) = 1) ∧
    t.get LPW_SEQ_STAT_PEN = 0 ∧ t.get LPW_SEQ_STAT_STATE = 0 ∧ t.get LPW_STAT_RAILS_OK = 0 ∧ t.get LPW_STAT_PGOOD = 0 ∧
    t.lpw.aon = false ∧ t.sys = { s.sys with die := some 1 } ∧
    s.only [LPW_P_STAT 0, LPW_P_STAT 1, LPW_STAT, LPW_SEQ_STAT] [.lpw, .sys] t) ∧
  (∀ s : State, ∃ t, exec .keepAliveTx s = .next t ∧ s.only [] [] t) ∧
  (∀ s : State, s.lpw.aon = true → s.d2dLost = false → s.inReset 0x12 = false → s.roomy →
    ∃ t, exec .d2dLoss s = .next t ∧ t.d2dLost = true ∧ t.lpwRawHeld = s.lpwRaw ∧ s.sent t 0x15 0x16 0 ∧
      t.get LSV_STAT_LINK_OK = 0 ∧ t.get LSV_EVT_STALE = 1 ∧
      (∀ n, n < 8 → t.get (LSV_SCI_STAT_STALE n) = 1 ∧ t.get (LSV_LS_RES_STATUS n) = 8) ∧
      t.tst = (s.proofCause 2).tst ∧ s.parts [.regs, .d2dLost, .lpwRawHeld, .fltQ, .tst] t) ∧
  (∀ s : State, s.lpw.aon = true → s.d2dLost = true → s.inReset 0x05 = false → s.fltQ.length + s.lpw.q.length ≤ 32 →
    ∃ t, exec .d2dRestored s = .next t ∧ t.d2dLost = false ∧ t.fltQ = s.lpw.q.foldl (fun q m => fltInsert { m with cyc := s.sys.t } q) s.fltQ ∧ t.lpw.q = [] ∧
      t.lpw.take = !s.lpw.sent.isEmpty ∧ t.get LSV_STAT_LINK_OK = 1 ∧
      (∀ n, n < 8 → t.get (LSV_SCI_STAT_STALE n) = 0 ∧ t.get (LSV_SCI_STAT_DCNT n) = 0 ∧ (t.lsCh n).stale = true)) ∧
  (∀ s : State, s.lpw.aon = true → s.d2dLost = false → s.dark = false → s.inReset 0x12 = false →
    ∃ t, exec .d2dRestored s = .next t ∧ t.get LSV_STAT_LINK_OK = 1 ∧ s.only [LSV_STAT] [] t)

/-- R39, R41, R410 to R412, R415. The requester lies in another hub, so the switch core serves it (R37). -/
def Obligations.FabricTargets : Prop :=
  (∀ (f : Frame) (o : Nat) (s : State), s.answerable f 1 → reqOp f = 1 → reqSize f = 3 → inStore (fabOff (reqAddr f)) = true →
    fabOff (reqAddr f) = storeBase + o → o % 8 = 0 → s.mark (o / 8) = none → s.accWaits 0 o = false → s.lockedOut (bankOf o) 0 = false →
    ∃ t, exec (.fabRead f) s = .next t ∧ s.answered t f 0 [BitVec.ofNat 64 (s.load o 8)] ∧ t.mem = s.mem ∧
      (max 1 (s.get MSA_PART_FB) ≤ bankOf o → s.advanced t (MSA_BEATS (bankOf o)) 1) ∧ s.parts [.regs, .live, .store, .fwd] t) ∧
  (∀ (f : Frame) (o : Nat) (s : State), s.answerable f 0 → reqOp f = 1 → o < 0x188000 → fabOff (reqAddr f) = o →
    blkOf o ∈ [0x01, 0x07, 0x12] → s.inReset (blkOf o) = false → regFind o = none → s.roomy →
    ∃ t, exec (.fabRead f) s = .next t ∧ s.answered t f 0x04 [] ∧ s.sent t (blkOf o) 0x01 (s.selfAddr o) ∧ t.mem = s.mem ∧
      s.parts [.regs, .live, .fwd, .fltQ, .store] t) ∧
  (∀ (f : Frame) (o : Nat) (w0 a d : DWord) (s : State), isFabReq f = true → s.forLoc f = true → s.canServe f = true → frSrc f ≠ s.node → s.dark = false →
    reqOp f = 2 → reqSize f = 3 → inStore (fabOff (reqAddr f)) = true → fabOff (reqAddr f) = storeBase + o → o % 8 = 0 →
    f.payload = [w0, a, d] → s.accWaits 0 o = false → s.lockedOut (bankOf o) 0 = false → s.mayWrite 0 (bankOf o) = true →
    ∃ t, exec (.fabWrite f) s = .next t ∧ t.load o 8 = d.toNat ∧ (∀ x, x < o ∨ o + 8 ≤ x → t.byte x = s.byte x) ∧
      t.fwd = s.fwd ∧ t.resp = s.resp ∧ s.only [MSA_ECC_STAT] [.live, .mem, .store] t) ∧
  (∀ (f : Frame) (o : Nat) (w0 a d : DWord) (s : State), s.answerable f 0 →
    reqOp f = 2 → reqSize f = 3 → inStore (fabOff (reqAddr f)) = true → fabOff (reqAddr f) = storeBase + o → o % 8 = 0 →
    f.payload = [w0, a, d] → s.accWaits 0 o = false → s.lockedOut (bankOf o) 0 = false → s.mayWrite 0 (bankOf o) = false → s.roomy →
    ∃ t, exec (.fabWrite f) s = .next t ∧ s.answered t f 0x06 [] ∧ t.mem = s.mem ∧
      s.sent t 0x07 0x04 (s.selfAddr (storeBase + o)) ∧ s.parts [.regs, .live, .fwd, .fltQ, .store] t) ∧
  (∀ (f : Frame) (o : Nat) (w0 a d : DWord) (s : State), s.answerable f 1 →
    reqOp f = 3 → reqSize f = 3 → inStore (fabOff (reqAddr f)) = true → fabOff (reqAddr f) = storeBase + o → o % 8 = 0 →
    f.payload = [w0, a, d] → s.accWaits 0 o = false → s.lockedOut (bankOf o) 0 = false → s.mayWrite 0 (bankOf o) = true → s.mark (o / 8) = none →
    ∃ t, exec (.fabSwap f) s = .next t ∧ s.answered t f 0 [BitVec.ofNat 64 (s.load o 8)] ∧ t.load o 8 = d.toNat ∧
      (∀ x, x < o ∨ o + 8 ≤ x → t.byte x = s.byte x) ∧ s.parts [.regs, .live, .mem, .store, .fwd] t) ∧
  (∀ (f : Frame) (o : Nat) (w0 a d : DWord) (s : State), s.answerable f 1 →
    reqOp f = 4 → reqSize f = 2 → inStore (fabOff (reqAddr f)) = true → fabOff (reqAddr f) = storeBase + o → o % 4 = 0 →
    f.payload = [w0, a, d] → s.accWaits 0 o = false → s.lockedOut (bankOf o) 0 = false → s.mayWrite 0 (bankOf o) = true → s.mark (o / 8) = none →
    ∃ t, exec (.fabAdd f) s = .next t ∧ s.answered t f 0 [BitVec.ofNat 64 (s.load o 4)] ∧
      t.load o 4 = (s.load o 4 + d.toNat) % 2 ^ 32 ∧
      (∀ x, x < o ∨ o + 4 ≤ x → t.byte x = s.byte x) ∧ s.parts [.regs, .live, .mem, .store, .fwd] t) ∧
  (∀ (f : Frame) (o : Nat) (w0 a c d : DWord) (s : State), s.answerable f 1 →
    reqOp f = 5 → reqSize f = 3 → inStore (fabOff (reqAddr f)) = true → fabOff (reqAddr f) = storeBase + o → o % 8 = 0 →
    f.payload = [w0, a, c, d] → s.accWaits 0 o = false → s.lockedOut (bankOf o) 0 = false → s.mayWrite 0 (bankOf o) = true → s.mark (o / 8) = none →
    ∃ t, exec (.fabCas f) s = .next t ∧ s.answered t f 0 [BitVec.ofNat 64 (s.load o 8)] ∧
      t.load o 8 = (if s.load o 8 = c.toNat then d.toNat else s.load o 8) ∧
      (∀ x, x < o ∨ o + 8 ≤ x → t.byte x = s.byte x) ∧ s.parts [.regs, .live, .mem, .store, .fwd] t) ∧
  (∀ (f : Frame) (op : Nat) (c : Instr) (s : State), s.answerable f 0 → (op = 3 ∧ c = .fabSwap f ∨ op = 4 ∧ c = .fabAdd f ∨ op = 5 ∧ c = .fabCas f) →
    reqOp f = op → fabOff (reqAddr f) < 0x190000 →
    ∃ t, exec c s = .next t ∧ s.answered t f 0x05 [] ∧ t.mem = s.mem ∧ s.parts [.regs, .live, .fwd, .store] t) ∧
  (∀ (f : Frame) (s : State), s.answerable f 0 → reqOp f = 6 →
    ∃ t, exec (.fabFence f) s = .next t ∧ s.answered t f 0 [] ∧ t.mem = s.mem ∧ s.parts [.regs, .live, .fwd, .store] t) ∧
  (∀ (f : Frame) (c : Instr) (s : State), c ∈ [Instr.fabRead f, .fabWrite f, .fabSwap f, .fabAdd f, .fabCas f] → s.canServe f = false →
    ∃ t, exec c s = .next t ∧ s.only [] [] t) ∧
  (∀ (f : Frame) (o : Nat) (s : State), isFabReq f = true → s.forLoc f = true → s.dark = false → frSrc f ≠ s.node → reqOp f = 1 →
    reqSize f = 3 → inStore (fabOff (reqAddr f)) = true → fabOff (reqAddr f) = storeBase + o → o % 8 = 0 → s.accWaits 0 o = true →
    ∃ t, exec (.fabRead f) s = .next t ∧ t.store.wait = s.store.wait ++ [⟨0, o, .read 3, .net f⟩] ∧ s.only [] [.store] t)

/-- R27, R28, R31, R32, R181 to R183, R208, R410 to R414. -/
def Obligations.FabricRequesters : Prop :=
  (∀ (f : Frame) (prod : BitVec 8) (o : Nat) (w0 a d : DWord) (s : State), isFabReq f = true → s.dark = false → prod.toNat ∈ [0, 1, 4] → reqOp f = 2 →
    reqSize f = 3 → f.payload = [w0, a, d] → fabNode (reqAddr f) = 0xFE → fabChip (reqAddr f) = s.chip →
    inStore (fabOff (reqAddr f)) = true → fabOff (reqAddr f) = storeBase + o → o % 8 = 0 → s.fab.here = [] →
    (∀ r, r < 8 → s.accWaits r o = false ∧ s.lockedOut (bankOf o) r = false ∧ s.mayWrite r (bankOf o) = true) →
    ∃ t, exec (.frameOriginate f prod) s = .next t ∧ t.load o 8 = d.toNat ∧ (∀ x, x < o ∨ o + 8 ≤ x → t.byte x = s.byte x) ∧
      t.resp = some ⟨whoKey (s.ownWho prod.toNat), 0, 0⟩ ∧ 4 * s.node + s.chip ∈ t.destSet prod.toNat ∧
      t.fwd = s.fwd ∧ s.only [MSA_ECC_STAT] [.live, .mem, .store, .fab, .resp] t) ∧
  (∀ (f : Frame) (prod : BitVec 8) (s : State), isFabReq f = true → s.dark = false → prod.toNat ≤ 4 → reqOp f = 1 → reqSize f = 3 →
    f.payload.length = 2 → fabNode (reqAddr f) = s.node → s.node < 0xFE → s.chip < fabChip (reqAddr f) → s.open_ 0x0D = true →
    s.fab.wait = [] → s.hasCredit prod.toNat = true →
    (s.fwd.locWait.any fun w => w.spec.cls == 5 && w.spec.vc == 0) = false → s.laneUp 2 = true → s.occ 2 3 + 1 ≤ s.limit 2 3 →
    ∃ t, exec (.frameOriginate f prod) s = .next t ∧
      t.fab.out = s.fab.out ++ [⟨s.mkTag prod.toNat (s.pickNum prod.toNat), ⟨.direct, prod.toNat, 1, 3, 1, reqAddr f, []⟩, s.now⟩] ∧
      (let g := (s.reqSpec (s.mkTag prod.toNat (s.pickNum prod.toNat)) 1 3 1 (reqAddr f) []).build s.node s.chip (s.seqOf 5) s.now
       t.queue 2 3 = s.queue 2 3 ++ [⟨g, s.get FWD_STAT_GEN, 4, false, true, s.now * 4096, (s.writeCells g).2⟩]) ∧
      t.resp = s.resp ∧ s.parts [.regs, .live, .fab, .fwd, .store] t) ∧
  (∀ (f : Frame) (prod : BitVec 8) (s : State), isFabReq f = true → s.dark = false → prod.toNat ≤ 5 → reqOp f ≠ 2 → f.payload.length ≤ 256 →
    fabNode (reqAddr f) = 0xFF → s.roomy →
    ∃ t, exec (.frameOriginate f prod) s = .next t ∧ t.resp = some ⟨whoKey (s.ownWho prod.toNat), 0x0B, 0⟩ ∧
      s.sent t 0x07 0x03 (reqAddr f) ∧ s.only [] [.resp, .fltQ] t) ∧
  (∀ (f : Frame) (prod : BitVec 8) (s : State), f.payload.length ≤ 12 → s.dark = false → isFabReq f = false → prod.toNat < 16 → frClass f ≤ 4 → frVc f = 0 →
    frDst f = s.node → s.node ≠ 0xFF → frDstChip f = s.chip → s.open_ 0x0D = true →
    (s.fwd.locWait.any fun w => w.spec.cls == frClass f && w.spec.vc == frVc f) = false →
    s.occ 4 (8 - frClass f) + 1 ≤ s.limit 4 (8 - frClass f) →
    ∃ t, exec (.frameOriginate f prod) s = .next t ∧
      (let g := (specOf f).build s.node s.chip (s.seqOf (frClass f)) s.now
       t.queue 4 (8 - frClass f) = s.queue 4 (8 - frClass f) ++
        [⟨g, s.get FWD_STAT_GEN, 4, false, true, s.now * 4096, (s.writeCells g).2⟩]) ∧
      t.seqOf (frClass f) = (s.seqOf (frClass f) + 1) % 65536 ∧ s.advanced t (FWD_CNT 4 0) 1 ∧
      s.countsBut [FWD_CNT 4 0, FWD_CNT 4 1] t ∧ s.only [] [.live, .fwd, .store] t) ∧
  (∀ (f : Frame) (o : Outst) (r : List Outst) (s : State), isFabRsp f = true → s.dark = false → s.forLoc f = true → reqOp f ≠ 2 → s.fab.out = o :: r →
    o.tag = frTag f → (r.any fun x => x.tag == frTag f) = false → o.q.use = .direct → s.fab.wait = [] →
    s.on (MSA_DMA_STAT_BUSY 0) = false → s.on (MSA_DMA_STAT_BUSY 1) = false →
    ∃ t, exec (.fabricResponseRx f) s = .next t ∧ t.resp = some ⟨whoKey (s.ownWho o.q.req), bits (frWord f 0) 8 8,
        if bits (frWord f 0) 8 8 = 0 then dataNum (f.payload.drop 2) else 0⟩ ∧
      t.fab = { s.fab with out := r } ∧ s.only [] [.resp, .fab] t) ∧
  (∀ (f : Frame) (s : State), isFabRsp f = true → s.dark = false → s.forLoc f = true → reqOp f ≠ 2 → (s.fab.out.any fun x => x.tag == frTag f) = false →
    ∃ t, exec (.fabricResponseRx f) s = .next t ∧ s.advanced t (RPE_CNT 7) 1 ∧ s.only [] [.live] t) ∧
  (∀ (tag : BitVec 16) (o : Outst) (r : List Outst) (s : State), s.fab.out = o :: r → s.dark = false → o.tag = tag.toNat →
    (r.any fun x => x.tag == tag.toNat) = false → o.q.use = .direct → s.fab.wait = [] → s.on (MSA_DMA_STAT_BUSY 0) = false →
    s.on (MSA_DMA_STAT_BUSY 1) = false → s.roomy →
    ∃ t, exec (.rspTimeout tag) s = .next t ∧ t.resp = some ⟨whoKey (s.ownWho o.q.req), 0x02, 0⟩ ∧ t.fab.out = r ∧
      t.tagFree tag.toNat = false ∧ s.advanced t (RPE_CNT 6) 1 ∧ t.get RPE_EVT_RSP_TIMEOUT = 1 ∧ s.sent t 0x0C 0x35 tag.toNat ∧
      s.only [RPE_EVT] [.live, .resp, .fab, .fltQ] t) ∧
  (∀ (tag : BitVec 16) (status : BitVec 8) (addr : BitVec 48) (s : State), s.inReset 0x14 = false → s.roomy → tag.toNat / 2 ^ 13 ≤ 4 →
    s.on (HBR_FENCE_STAT_BUSY (tag.toNat / 2 ^ 13)) = false →
    ∃ t, exec (.postedWrFail tag status addr) s = .next t ∧ t.get HBR_PWLOG0_STATUS = status.toNat ∧
      t.get HBR_PWLOG0_REQ = tag.toNat / 2 ^ 13 ∧ t.get HBR_PWLOG0_TAG = tag.toNat ∧
      t.get HBR_PWLOG1_ADDR + 2 ^ 32 * t.get HBR_PWLOG2_ADDR = addr.toNat ∧ t.get HBR_EVT_PWF = 1 ∧
      (t.nextFail (tag.toNat / 2 ^ 13)).1 = min 65535 ((s.nextFail (tag.toNat / 2 ^ 13)).1 + 1) ∧
      s.advanced t (HBR_CNT 3) 1 ∧ s.sent t 0x14 0x0C addr.toNat ∧
      s.only [HBR_PWLOG0, HBR_PWLOG1, HBR_PWLOG2, HBR_EVT, HBR_HST, INTC_PEND 0 1, INTC_PEND 1 1, INTC_PEND 2 1] [.live, .fab, .fltQ] t) ∧
  (∀ (core : Fin 2) (off o : Nat) (d : DWord) (s : State), s.dark = false → off < 2 ^ 31 →
    s.get (MSA_FWIN_OFFS_HI core.val) * 2 ^ 31 + off = storeBase + o → o % 8 = 0 → inStore (storeBase + o) = true →
    s.get (MSA_FWIN_NODE core.val) = 0xFE → s.get (MSA_FWIN_CHIP core.val) = s.chip → s.fab.here = [] →
    s.accWaits (core.val + 1) o = false → s.lockedOut (bankOf o) (core.val + 1) = false → s.mayWrite (core.val + 1) (bankOf o) = true →
    ∃ t, exec (.mainStoreAccess ⟨core.val + 1, by omega⟩ (BitVec.ofNat 38 (2 ^ 31 + off)) (.write 3 d) []) s = .next t ∧ t.load o 8 = d.toNat ∧
      (∀ x, x < o ∨ o + 8 ≤ x → t.byte x = s.byte x) ∧ t.resp = some ⟨whoKey (s.ownWho core.val), 0, 0⟩ ∧
      4 * s.node + s.chip ∈ t.destSet core.val ∧ s.only [MSA_ECC_STAT] [.live, .mem, .store, .fab, .resp] t) ∧
  (∀ (core : Fin 2) (off : Nat) (z : Fin 4) (s : State), s.dark = false → off < 2 ^ 31 → s.get (MSA_FWIN_NODE core.val) = 0xFF → s.roomy →
    ∃ t, exec (.mainStoreAccess ⟨core.val + 1, by omega⟩ (BitVec.ofNat 38 (2 ^ 31 + off)) (.read z) []) s = .next t ∧
      t.resp = some ⟨whoKey (s.ownWho core.val), 0x0B, 0⟩ ∧
      s.sent t 0x07 0x03 (fabAddr 0xFF (s.get (MSA_FWIN_CHIP core.val)) (s.get (MSA_FWIN_OFFS_HI core.val) * 2 ^ 31 + off)) ∧
      s.only [] [.resp, .fltQ] t) ∧
  (∀ (core : Fin 2) (off : Nat) (z : Fin 4) (s : State), s.dark = false → off < 2 ^ 31 → s.get (MSA_FWIN_NODE core.val) ≠ 0xFF →
    s.get (MSA_FWIN_NODE core.val) ≠ 0xFE → s.get (MSA_FWIN_NODE core.val) ≠ s.node → s.listed = true → s.hasCredit core.val = false →
    s.fab.wait = [] →
    ∃ t, exec (.mainStoreAccess ⟨core.val + 1, by omega⟩ (BitVec.ofNat 38 (2 ^ 31 + off)) (.read z) []) s = .next t ∧
      t.fab.wait = [⟨.direct, core.val, 1, z.val, 1, fabAddr (s.get (MSA_FWIN_NODE core.val)) (s.get (MSA_FWIN_CHIP core.val))
        (s.get (MSA_FWIN_OFFS_HI core.val) * 2 ^ 31 + off), []⟩] ∧ s.only [] [.fab] t)

/-- R415 to R418. -/
def Obligations.FencesAndSemaphores : Prop :=
  (∀ (r : Fin 5) (s : State), s.open_ 0x14 = true → r.val ≠ 2 → r.val ≠ 3 → s.on (HBR_FENCE_STAT_BUSY r.val) = false →
    (∀ b, b ∈ s.destSet r.val → b / 4 = s.node ∧ b % 4 = s.chip) →
    ∃ t, exec (.fenceStart r) s = .next t ∧ t.get (HBR_FENCE_STAT_BUSY r.val) = 1 ∧
      t.get (HBR_FENCE_STAT_EPOCH r.val) = 1 - s.get (HBR_FENCE_STAT_EPOCH r.val) ∧
      t.get (HBR_FENCE_STAT_NFAIL r.val) = (s.nextFail r.val).1 % 2 ^ 16 ∧ t.nextFail r.val = (0, 0, 0) ∧ t.destSet r.val = [] ∧
      t.fab.out = s.fab.out ∧
      s.only [HBR_FENCE_STAT r.val, HBR_FENCE_ADDR_LO r.val, HBR_FENCE_ADDR_HI r.val, HBR_HST] [.fab] t) ∧
  (∀ (r : Fin 5) (s : State), s.open_ 0x14 = true → r.val = 2 ∨ r.val = 3 ∨ s.on (HBR_FENCE_STAT_BUSY r.val) = true →
    ∃ t, exec (.fenceStart r) s = .next t ∧ s.only [] [] t) ∧
  (∀ (r : Fin 5) (s : State), s.inReset 0x14 = false → s.fenceReady r.val = true → r.val ≠ 4 →
    ∃ t, exec (.fenceComplete r) s = .next t ∧ t.get (HBR_FENCE_STAT_BUSY r.val) = 0 ∧ t.get (HBR_FENCE_STAT_DONE r.val) = 1 ∧
      (s.get (HBR_FENCE_STAT_NFAIL r.val) ≠ 0 → t.get (HBR_FENCE_STAT_FAIL r.val) = 1) ∧
      (s.get (HBR_FENCE_STAT_NFAIL r.val) = 0 → t.get (HBR_FENCE_STAT_FAIL r.val) = s.get (HBR_FENCE_STAT_FAIL r.val)) ∧
      s.advanced t (HBR_CNT 4) 1 ∧ s.only [HBR_FENCE_STAT r.val] [.live] t) ∧
  (∀ (s : State), s.inReset 0x14 = false → s.fenceReady 4 = true →
    ∃ t, exec (.fenceComplete 4) s = .next t ∧ t.get (HBR_FENCE_STAT_BUSY 4) = 0 ∧ t.get (HBR_FENCE_STAT_DONE 4) = 1 ∧
      t.get HBR_HST_FENCE_BUSY = 0 ∧ t.get HBR_HST_FENCE_DONE = 1 ∧
      t.get HBR_HST_FENCE_FAIL = b2n (s.get (HBR_FENCE_STAT_NFAIL 4) != 0) ∧ t.get HBR_EVT_FENCE_DONE = 1 ∧ t.hbr.fences = [] ∧
      t.hbr.rsp.length = s.hbr.rsp.length + s.hbr.fences.length ∧
      s.only [HBR_FENCE_STAT 4, HBR_HST, HBR_EVT] [.live, .hbr] t) ∧
  (∀ (k : Fin 32) (who : Who) (s : State), s.inReset 0x14 = false → s.on (HBR_SEM_HELD k.val) = false →
    ∃ t, exec (.semRead k who) s = .next t ∧ t.resp = some ⟨whoKey who, 0, 0⟩ ∧ t.get (HBR_SEM_HELD k.val) = 1 ∧
      t.get (HBR_SEM_OWNER k.val) = whoId who ∧ s.only [HBR_SEM k.val] [.resp] t) ∧
  (∀ (k : Fin 32) (who : Who) (s : State), s.inReset 0x14 = false → s.on (HBR_SEM_HELD k.val) = true →
    ∃ t, exec (.semRead k who) s = .next t ∧ t.resp = some ⟨whoKey who, 0, 2 ^ 31 + s.get (HBR_SEM_OWNER k.val)⟩ ∧
      s.only [] [.resp] t) ∧
  (∀ (k : Fin 32) (who : Who) (s : State), s.inReset 0x14 = false → s.on (HBR_SEM_HELD k.val) = true →
    s.get (HBR_SEM_OWNER k.val) = whoId who →
    ∃ t, exec (.semWrite k who) s = .next t ∧ t.resp = some ⟨whoKey who, 0, 0⟩ ∧ t.rd (HBR_SEM k.val) = 0#32 ∧
      s.only [HBR_SEM k.val] [.resp] t) ∧
  (∀ (k : Fin 32) (who : Who) (s : State), s.inReset 0x14 = false →
    s.on (HBR_SEM_HELD k.val) = false ∨ s.get (HBR_SEM_OWNER k.val) ≠ whoId who →
    ∃ t, exec (.semWrite k who) s = .next t ∧ t.resp = some ⟨whoKey who, 0x0D, 0⟩ ∧ s.only [] [.resp] t) ∧
  (∀ (k : Fin 32) (s : State), s.inReset 0x14 = false → s.on (HBR_SEM_HELD k.val) = true → s.on HBR_SEM_CTL_HOLD_MS = true → s.roomy →
    ∃ t, exec (.semExpired k) s = .next t ∧ t.rd (HBR_SEM k.val) = 0#32 ∧ s.advanced t (HBR_CNT 9) 1 ∧
      t.get HBR_EVT_SEM_EXP = 1 ∧ s.sent t 0x14 0x59 k.val ∧ s.only [HBR_SEM k.val, HBR_EVT] [.live, .fltQ] t)

/-- R54, R55. -/
def Obligations.DmaCopies : Prop :=
  (∀ (ch : Fin 2) (s : State), s.open_ 0x07 = true → s.on (MSA_DMA_STAT_BUSY ch.val) = false →
    ∃ t, exec (.dmaStart ch) s = .next t ∧ t.get (MSA_DMA_STAT_BUSY ch.val) = 1 ∧ t.dmaCh ch.val = DmaSt.init ∧
      s.only [MSA_DMA_STAT ch.val] [.dma] t) ∧
  (∀ (ch : Fin 2) (s : State), s.open_ 0x07 = true → s.on (MSA_DMA_STAT_BUSY ch.val) = true →
    ∃ t, exec (.dmaStart ch) s = .next t ∧ s.only [] [] t) ∧
  (∀ (ch : Fin 2) (s : State), s.inReset 0x07 = false → s.on (MSA_DMA_STAT_BUSY ch.val) = true →
    ∃ t, exec (.dmaAbort ch) s = .next t ∧ t.dmaCh ch.val = { s.dmaCh ch.val with abort := true } ∧ s.only [] [.dma] t) ∧
  (∀ (ch : Fin 2) (a b : Nat) (s : State), s.dark = false → s.on (MSA_DMA_STAT_BUSY ch.val) = true → (s.dmaCh ch.val).fence = false →
    (s.dmaCh ch.val).abort = false → (s.dmaCh ch.val).err = 0 → s.dmaSrc ch.val + (s.dmaCh ch.val).pos = fabAddr 0xFE s.chip (storeBase + a) →
    s.dmaDst ch.val + (s.dmaCh ch.val).pos = fabAddr 0xFE s.chip (storeBase + b) → (s.dmaCh ch.val).pos + 8 < s.dmaLen ch.val →
    a % 256 = 248 → b % 8 = 0 → a + 8 ≤ storeSize → b + 8 ≤ storeSize → s.hereAll = [] →
    s.accWaits 3 a = false → s.accWaits 3 b = false → s.mark (a / 8) = none → s.lockedOut (bankOf a) 3 = false →
    s.lockedOut (bankOf b) 3 = false → s.mayWrite 3 (bankOf b) = true →
    ∃ t, exec (.dmaBurst ch) s = .next t ∧ t.load b 8 = s.load a 8 ∧ (∀ x, x < b ∨ b + 8 ≤ x → t.byte x = s.byte x) ∧
      t.dmaCh ch.val = { s.dmaCh ch.val with pos := (s.dmaCh ch.val).pos + 8 } ∧ t.fwd = s.fwd ∧
      s.only [MSA_ECC_STAT] [.live, .mem, .store, .fab, .dma] t) ∧
  (∀ (ch : Fin 2) (s : State), s.dark = false → s.on (MSA_DMA_STAT_BUSY ch.val) = true → (s.dmaCh ch.val).fence = true →
    s.on (HBR_FENCE_STAT_BUSY (2 + ch.val)) = false →
    ∃ t, exec (.dmaDone ch) s = .next t ∧ t.get (MSA_DMA_STAT_BUSY ch.val) = 0 ∧ t.get (MSA_DMA_STAT_DONE ch.val) = 1 ∧
      ((s.dmaCh ch.val).abort = true → t.get (MSA_DMA_STAT_ERR_KIND ch.val) = 5 ∧ t.get (MSA_DMA_STAT_ERR ch.val) = 1) ∧
      ((s.dmaCh ch.val).abort = false → (s.dmaCh ch.val).err ≠ 0 → (s.dmaCh ch.val).err < 8 →
        t.get (MSA_DMA_STAT_ERR_KIND ch.val) = (s.dmaCh ch.val).err ∧ t.get (MSA_DMA_STAT_ERR ch.val) = 1) ∧
      ((s.dmaCh ch.val).abort = false → (s.dmaCh ch.val).err = 0 → s.get (HBR_FENCE_STAT_NFAIL (2 + ch.val)) ≠ 0 →
        t.get (MSA_DMA_STAT_ERR_KIND ch.val) = 2 ∧ t.get (MSA_DMA_STAT_ERR ch.val) = 1) ∧
      ((s.dmaCh ch.val).abort = false → (s.dmaCh ch.val).err = 0 → s.get (HBR_FENCE_STAT_NFAIL (2 + ch.val)) = 0 →
        t.get (MSA_DMA_STAT_ERR_KIND ch.val) = 0 ∧ t.get (MSA_DMA_STAT_ERR ch.val) = s.get (MSA_DMA_STAT_ERR ch.val)) ∧
      t.dmaCh ch.val = DmaSt.init ∧ s.only [MSA_DMA_STAT ch.val] [.dma] t)

/-- R4 to R6, R9, R12, R30, R90, R121, R200, R221, R395. -/
def Obligations.RegisterWrites : Prop :=
  (∀ (who : Who) (bcast : Bool) (size : Fin 4) (off : BitVec 38) (data : DWord) (s : State), inStore off.toNat = false → s.dark = false →
    s.leadsTo off.toNat = none → s.roomy →
    ∃ t, exec (.registerWrite who bcast size off data []) s = .next t ∧ t.resp = some ⟨whoKey who, 0x04, 0⟩ ∧
      s.sent t 0x07 0x02 (s.selfAddr off.toNat) ∧ s.only [] [.resp, .fltQ] t) ∧
  (∀ (who : Who) (bcast : Bool) (size : Fin 4) (off : BitVec 38) (data : DWord) (s : State), off.toNat < 0x190000 → s.dark = false →
    ¬ (blkOf off.toNat = 0x15 ∧ s.d2dLost = true) → s.inReset (blkOf off.toNat) = true → s.roomy →
    ∃ t, exec (.registerWrite who bcast size off data []) s = .next t ∧ t.resp = some ⟨whoKey who, 0x08, 0⟩ ∧
      s.sent t 0x02 0x05 (s.selfAddr off.toNat) ∧ s.only [] [.resp, .fltQ, .sys] t) ∧
  (∀ (who : Who) (bcast : Bool) (size : Fin 4) (off : BitVec 38) (data : DWord) (s : State), off.toNat < 0x188000 → s.dark = false →
    ¬ (blkOf off.toNat = 0x15 ∧ s.d2dLost = true) → s.inReset (blkOf off.toNat) = false → s.roomy →
    (regFind off.toNat = none ∨ size.val < 2 ∨ off.toNat % 4 ≠ 0) →
    ∃ t, exec (.registerWrite who bcast size off data []) s = .next t ∧
      t.resp = some ⟨whoKey who, if regFind off.toNat = none then 0x04 else 0x05, 0⟩ ∧
      s.sent t (blkOf off.toNat) 0x01 (s.selfAddr off.toNat) ∧ s.only [] [.resp, .fltQ, .sys] t) ∧
  (∀ (who : Who) (bcast : Bool) (off : BitVec 38) (data : DWord) (s : State),
    off.toNat ∈ [MPC_WAKE_EN, RSTC_IDLE_TO, CFG_ARM_TO, INTC_EN 1 0, MSA_ECC_STAT, MSA_ARBCTL, LANE_EVT 1, RED_EVT, FWD_EVT_EN,
      SQ_LVLPEND_LO, LSV_EVT, MB_EVT 3, HBR_EVT_EN, TST_EVT] → s.dark = false →
    s.inReset (blkOf off.toNat) = false →
    ∃ t, exec (.registerWrite who bcast 2 off data []) s = .next t ∧ t.resp = some ⟨whoKey who, 0, 0⟩ ∧
      t.rd off.toNat = (s.rd off.toNat &&& ~~~ rwMask off.toNat &&& ~~~ (w1cMask off.toNat &&& data.setWidth 32)) |||
        (data.setWidth 32 &&& rwMask off.toNat) ∧
      s.only [off.toNat] [.resp, .sys] t) ∧
  (∀ (who : Who) (bcast : Bool) (off : BitVec 38) (data : DWord) (s : State), off.toNat ∈ [LPW_BUS_SH, MPC_REQ_SH, FWD_PIN_CTL_SH] → s.dark = false →
    s.d2dLost = false → s.inReset (blkOf off.toNat) = false → s.cfgState ≠ 1 → s.roomy →
    ∃ t, exec (.registerWrite who bcast 2 off data []) s = .next t ∧ t.resp = some ⟨whoKey who, 0x09, 0⟩ ∧
      s.sent t 0x04 0x0A (s.selfAddr off.toNat) ∧ s.only [] [.resp, .fltQ, .sys, .upd] t) ∧
  (∀ (who : Who) (bcast : Bool) (off : BitVec 38) (data : DWord) (s : State), off.toNat ∈ [LPW_BUS_SH, FWD_PIN_CTL_SH] → s.dark = false →
    s.d2dLost = false → s.inReset (blkOf off.toNat) = false → s.cfgState = 1 →
    ∃ t, exec (.registerWrite who bcast 2 off data []) s = .next t ∧ t.resp = some ⟨whoKey who, 0, 0⟩ ∧
      t.rd off.toNat = (s.rd off.toNat &&& ~~~ rwMask off.toNat) ||| (data.setWidth 32 &&& rwMask off.toNat) ∧
      s.only [off.toNat] [.resp, .sys] t) ∧
  (∀ (who : Who) (bcast : Bool) (off : BitVec 38) (data : DWord) (s : State), off.toNat ∈ [0x0C4000, 0x0D1000, 0x0D3100, 0x0D7FF8] → s.dark = false →
    s.inReset (blkOf off.toNat) = false → s.roomy →
    ∃ t, exec (.registerWrite who bcast 2 off data []) s = .next t ∧ t.resp = some ⟨whoKey who, 0x0A, 0⟩ ∧
      s.sent t (blkOf off.toNat) 0x0B (s.selfAddr off.toNat) ∧ s.only [] [.resp, .fltQ, .sys] t) ∧
  (∀ (who : Who) (bcast : Bool) (size : Fin 4) (off : BitVec 38) (data : DWord) (s : State), off.toNat / 0x10000 = 0x15 → s.dark = false →
    s.d2dLost = true →
    ∃ t, exec (.registerWrite who bcast size off data []) s = .next t ∧ t.resp = some ⟨whoKey who, 0, 0⟩ ∧ s.only [] [.resp] t)

/-- R4 to R6, R9, R12, R29, R30, R90, R264. -/
def Obligations.RegisterReads : Prop :=
  (∀ (who : Who) (off : BitVec 38) (s : State),
    off.toNat ∈ [ID_PART, MPC_MODE, RSTC_CAUSE, CFG_STAT, FLT_OPEN, INTC_EN 2 0, MSA_STAT, LANE_STAT 1, FWD_STAT, RED_STAT, TIME_STAT,
      LSV_STAT, MB_STAT 3, HBR_EVT, TST_PSTAT] → s.dark = false → s.inReset (blkOf off.toNat) = false →
    ∃ t, exec (.registerRead who 2 off []) s = .next t ∧
      t.resp = some ⟨whoKey who, 0, (s.rd off.toNat &&& readMask off.toNat).toNat⟩ ∧ s.only [] [.resp, .sys] t) ∧
  (∀ (who : Who) (s : State), s.inReset 0x0F = false → s.dark = false →
    ∃ t, exec (.registerRead who 3 (BitVec.ofNat 38 TIME_SPINDLE) []) s = .next t ∧ t.resp = some ⟨whoKey who, 0, s.now⟩ ∧
      s.only [] [.resp] t) ∧
  (∀ (who : Who) (s : State), s.inReset 0x14 = false → s.dark = false →
    ∃ t, exec (.registerRead who 2 (BitVec.ofNat 38 HBR_HST) []) s = .next t ∧ t.get HBR_HST_WR_DROP = 0 ∧ t.get HBR_HST_PWF = 0 ∧
      s.only [HBR_HST] [.resp] t) ∧
  (∀ (who : Who) (size : Fin 4) (off : BitVec 38) (s : State), inStore off.toNat = false → s.dark = false → s.leadsTo off.toNat = none → s.roomy →
    ∃ t, exec (.registerRead who size off []) s = .next t ∧ t.resp = some ⟨whoKey who, 0x04, 0⟩ ∧
      s.sent t 0x07 0x02 (s.selfAddr off.toNat) ∧ s.only [] [.resp, .fltQ] t) ∧
  (∀ (who : Who) (size : Fin 4) (off : BitVec 38) (s : State), off.toNat < 0x190000 → s.dark = false →
    ¬ (blkOf off.toNat = 0x15 ∧ s.d2dLost = true) → s.inReset (blkOf off.toNat) = true → s.roomy →
    ∃ t, exec (.registerRead who size off []) s = .next t ∧ t.resp = some ⟨whoKey who, 0x08, 0⟩ ∧
      s.sent t 0x02 0x05 (s.selfAddr off.toNat) ∧ s.only [] [.resp, .fltQ, .sys] t) ∧
  (∀ (who : Who) (size : Fin 4) (off : BitVec 38) (s : State), off.toNat < 0x188000 → s.dark = false →
    ¬ (blkOf off.toNat = 0x15 ∧ s.d2dLost = true) → s.inReset (blkOf off.toNat) = false → s.roomy →
    (regFind off.toNat = none ∨ size.val < 2 ∨ off.toNat % 4 ≠ 0) →
    ∃ t, exec (.registerRead who size off []) s = .next t ∧
      t.resp = some ⟨whoKey who, if regFind off.toNat = none then 0x04 else 0x05, 0⟩ ∧
      s.sent t (blkOf off.toNat) 0x01 (s.selfAddr off.toNat) ∧ s.only [] [.resp, .fltQ, .sys] t) ∧
  (∀ (who : Who) (s : State), s.on ID_STRAP_GH320 = true → s.dark = false → s.inReset 0x01 = false →
    ∃ t, exec (.registerRead who 2 0xF00008#38 []) s = .next t ∧
      t.resp = some ⟨whoKey who, 0, (s.rd MPC_MODE &&& readMask MPC_MODE).toNat⟩ ∧ s.only [] [.resp] t) ∧
  (∀ (who : Who) (size : Fin 4) (off : BitVec 38) (s : State), off.toNat / 0x10000 = 0x15 → s.dark = false → s.d2dLost = true →
    ∃ t, exec (.registerRead who size off []) s = .next t ∧ t.resp = some ⟨whoKey who, 0, 0⟩ ∧ s.only [] [.resp] t)

/-- R104 to R106. -/
def Obligations.BivouacMemory : Prop :=
  (∀ (who : Who) (bcast : Bool) (off : BitVec 38) (data : DWord) (s : State), 0x188000 ≤ off.toNat → s.dark = false → off.toNat < 0x190000 →
    off.toNat % 4 = 0 → s.inReset 0x18 = false → s.on BIV_STAT_INIT_DONE = true → s.outside who = false ∨ s.on BIV_CTL_EXT_WR = true →
    ∃ t, exec (.registerWrite who bcast 2 off data []) s = .next t ∧ t.resp = some ⟨whoKey who, 0, 0⟩ ∧
      ofLeBytes (Tab.getList bivDefault t.biv.mem (s.bivAddr off.toNat) 4) = data.toNat % 2 ^ 32 ∧
      (∀ a, a < s.bivAddr off.toNat ∨ s.bivAddr off.toNat + 4 ≤ a → Tab.get bivDefault t.biv.mem a = Tab.get bivDefault s.biv.mem a) ∧
      t.bivMark (s.bivAddr off.toNat / 4) = none ∧ s.only [] [.biv, .resp] t) ∧
  (∀ (who : Who) (off : BitVec 38) (s : State), 0x188000 ≤ off.toNat → s.dark = false → off.toNat < 0x190000 →
    off.toNat % 4 = 0 → s.inReset 0x18 = false → s.on BIV_STAT_INIT_DONE = true → s.bivMark (s.bivAddr off.toNat / 4) = none →
    ∃ t, exec (.registerRead who 2 off []) s = .next t ∧
      t.resp = some ⟨whoKey who, 0, ofLeBytes (Tab.getList bivDefault s.biv.mem (s.bivAddr off.toNat) 4)⟩ ∧ s.only [] [.resp] t) ∧
  (∀ (who : Who) (off : BitVec 38) (m : Mark) (s : State), 0x188000 ≤ off.toNat → s.dark = false → off.toNat < 0x190000 →
    off.toNat % 4 = 0 → s.inReset 0x18 = false → s.on BIV_STAT_INIT_DONE = true → s.roomy →
    s.bivMark (s.bivAddr off.toNat / 4) = some m → m.uncorr = true →
    ∃ t, exec (.registerRead who 2 off []) s = .next t ∧ t.resp = some ⟨whoKey who, 0x07, 0⟩ ∧ t.get BIV_STAT_UE = 1 ∧
      s.sent t 0x18 0x07 (s.selfAddr off.toNat) ∧ s.only [BIV_STAT] [.resp, .fltQ] t) ∧
  (∀ (who : Who) (off : BitVec 38) (m : Mark) (s : State), 0x188000 ≤ off.toNat → s.dark = false → off.toNat < 0x190000 →
    off.toNat % 4 = 0 → s.inReset 0x18 = false → s.on BIV_STAT_INIT_DONE = true → s.roomy →
    s.bivMark (s.bivAddr off.toNat / 4) = some m → m.uncorr = false →
    ∃ t, exec (.registerRead who 2 off []) s = .next t ∧
      t.resp = some ⟨whoKey who, 0, ofLeBytes (Tab.getList bivDefault s.biv.mem (s.bivAddr off.toNat) 4)⟩ ∧
      t.get BIV_STAT_CE = 1 ∧ t.bivMark (s.bivAddr off.toNat / 4) = none ∧ t.biv.mem = s.biv.mem ∧
      s.sent t 0x18 0x06 (s.selfAddr off.toNat) ∧ s.only [BIV_STAT] [.biv, .resp, .fltQ] t) ∧
  (∀ (who : Who) (bcast : Bool) (off : BitVec 38) (data : DWord) (s : State), 0x188000 ≤ off.toNat → s.dark = false → off.toNat < 0x190000 →
    off.toNat % 4 = 0 → s.inReset 0x18 = false → s.outside who = true → s.on BIV_CTL_EXT_WR = false → s.roomy →
    ∃ t, exec (.registerWrite who bcast 2 off data []) s = .next t ∧ t.resp = some ⟨whoKey who, 0x06, 0⟩ ∧
      s.sent t 0x18 0x04 (s.selfAddr off.toNat) ∧ s.only [] [.resp, .fltQ] t) ∧
  (∀ (who : Who) (off : BitVec 38) (s : State), 0x188000 ≤ off.toNat → s.dark = false → off.toNat < 0x190000 →
    off.toNat % 4 = 0 → s.inReset 0x18 = false → s.on BIV_STAT_INIT_DONE = false →
    ∃ t, exec (.registerRead who 2 off []) s = .next t ∧
      t.biv = { s.biv with wait := s.biv.wait ++ [⟨who, false, 4, off.toNat, 0⟩] } ∧ s.only [] [.biv] t) ∧
  (∀ s : State, s.on BIV_STAT_INIT_DONE = false → s.upTo = true → s.sys.die ≠ some 2 → s.biv.wait = [] →
    ∃ t, exec .bivouacZeroingDone s = .next t ∧ t.get BIV_STAT_INIT_DONE = 1 ∧ t.biv = ⟨[], [], []⟩ ∧ s.only [BIV_STAT] [.biv] t)
end

