-- ==== Sys2Proof/Laws/Bits.lean ====
section
/-! SUPPORT. The laws of bit fields: a field reads back what was written, and leaves every other field. -/
namespace Sys2Proof.Machine

/-- The mask of a field, bit by bit. -/
theorem maskAt_bit (lo w j : Nat) (hj : j < 32) : (maskAt lo w).getLsbD j = (decide (lo ≤ j) && decide (j < lo + w)) := by
  simp only [maskAt, BitVec.getLsbD_ofNat, hj, decide_true, Bool.true_and, Nat.testBit_mul_two_pow, Nat.testBit_two_pow_sub_one]
  by_cases h : lo ≤ j
  · simp [h]; omega
  · simp [h]

/-- A word with one field replaced, bit by bit. -/
theorem wordSet_bit (x : Word) (lo w v j : Nat) (hj : j < 32) :
    (wordSet x lo w v).getLsbD j = if lo ≤ j ∧ j < lo + w then v.testBit (j - lo) else x.getLsbD j := by
  simp only [wordSet, BitVec.getLsbD_or, BitVec.getLsbD_and, BitVec.getLsbD_not, hj, decide_true, Bool.true_and,
    maskAt_bit lo w j hj, BitVec.getLsbD_shiftLeft, BitVec.getLsbD_ofNat, Nat.testBit_mod_two_pow]
  by_cases h1 : lo ≤ j
  · by_cases h2 : j < lo + w
    · have h3 : j - lo < w := by omega
      have h4 : j - lo < 32 := by omega
      have h5 : ¬ j < lo := by omega
      simp [h1, h2, h3, h4, h5]
    · have h3 : ¬ j - lo < w := by omega
      simp [h1, h2, h3]
  · have h5 : j < lo := by omega
    simp [h1, h5]

/-- A field, bit by bit. -/
theorem wordField_bit (x : Word) (lo w i : Nat) : (wordField x lo w).testBit i = (decide (i < w) && x.getLsbD (lo + i)) := by
  simp [wordField, Nat.testBit_mod_two_pow, BitVec.getLsbD]

/-- The field written reads back. -/
theorem wordField_wordSet_same (x : Word) (lo w v : Nat) (h : lo + w ≤ 32) : wordField (wordSet x lo w v) lo w = v % 2 ^ w := by
  apply Nat.eq_of_testBit_eq
  intro i
  rw [wordField_bit, Nat.testBit_mod_two_pow]
  by_cases hi : i < w
  · rw [wordSet_bit _ _ _ _ _ (by omega), if_pos (by omega)]
    simp [hi]
  · simp [hi]

/-- A field that shares no bit with the one written reads as before. -/
theorem wordField_wordSet_disj (x : Word) (lo w v lo' w' : Nat) (h' : lo' + w' ≤ 32) (h : lo' + w' ≤ lo ∨ lo + w ≤ lo') :
    wordField (wordSet x lo w v) lo' w' = wordField x lo' w' := by
  apply Nat.eq_of_testBit_eq
  intro i
  rw [wordField_bit, wordField_bit]
  by_cases hi : i < w'
  · rw [wordSet_bit _ _ _ _ _ (by omega), if_neg (by omega)]
  · simp [hi]

/-- A field is below its power of two. -/
theorem wordField_lt (x : Word) (lo w : Nat) : wordField x lo w < 2 ^ w := Nat.mod_lt _ (Nat.two_pow_pos w)

end Sys2Proof.Machine
end

