-- ==== Sys2Proof/Laws/Tab.lean ====
section
/-! SUPPORT. The laws of sparse tables: a read after a write, and that every operation keeps the canonical form. -/
namespace Sys2Proof.Machine

variable {α : Type}

/-! ### Reads after writes -/

theorem Tab.get_cons (d : Nat → α) (a : Nat) (v : α) (r : Tab α) (j : Nat) :
    Tab.get d ((a, v) :: r) j = if a = j then v else Tab.get d r j := rfl

theorem Tab.get_erase (d : Nat → α) (t : Tab α) (k j : Nat) :
    Tab.get d (Tab.erase t k) j = if j = k then d k else Tab.get d t j := by
  induction t with
  | nil => by_cases h : j = k <;> simp [Tab.erase, Tab.get, h]
  | cons e r ih =>
    obtain ⟨a, v⟩ := e
    simp only [Tab.erase] at ih ⊢
    by_cases ha : a = k
    · subst ha
      by_cases hj : j = a
      · simpa [hj, Tab.get] using ih
      · simpa [hj, Ne.symm hj, Tab.get] using ih
    · by_cases hj : a = j
      · subst hj; simp [ha, Tab.get]
      · simpa [ha, hj, Tab.get] using ih

theorem Tab.get_ins (d : Nat → α) (t : Tab α) {k : Nat} (v : α) (j : Nat) (hk : ∀ e ∈ t, e.1 ≠ k) :
    Tab.get d (Tab.ins k v t) j = if j = k then v else Tab.get d t j := by
  induction t with
  | nil => by_cases h : k = j <;> simp [Tab.ins, Tab.get, h, eq_comm]
  | cons e r ih =>
    obtain ⟨a, w⟩ := e
    have ha : a ≠ k := hk (a, w) (List.mem_cons_self ..)
    have ih' := ih fun e he => hk e (List.mem_cons_of_mem _ he)
    by_cases hlt : k < a
    · simp only [Tab.ins, hlt, if_true, Tab.get_cons, eq_comm]
    · by_cases h : a = j
      · subst h; simp [Tab.ins, hlt, Tab.get, ha]
      · simp [Tab.ins, hlt, Tab.get, h, ih']

theorem Tab.mem_erase {t : Tab α} {k : Nat} {e : Nat × α} (h : e ∈ Tab.erase t k) : e ∈ t ∧ e.1 ≠ k := by
  simpa [Tab.erase, List.mem_filter] using h

/-- The one law of a write: the key written holds the value, and every other key what it held. -/
theorem Tab.get_set [DecidableEq α] (d : Nat → α) (t : Tab α) (k : Nat) (v : α) (j : Nat) :
    Tab.get d (Tab.set d t k v) j = if j = k then v else Tab.get d t j := by
  unfold Tab.set
  by_cases hv : v = d k
  · simp only [hv, if_true, Tab.get_erase]
  · simp only [hv, if_false]
    rw [Tab.get_ins _ _ _ _ fun e he => (Tab.mem_erase he).2, Tab.get_erase]
    by_cases h : j = k <;> simp [h]

theorem Tab.get_set_same [DecidableEq α] (d : Nat → α) (t : Tab α) (k : Nat) (v : α) :
    Tab.get d (Tab.set d t k v) k = v := by simp [Tab.get_set]

theorem Tab.get_set_ne [DecidableEq α] (d : Nat → α) (t : Tab α) {k j : Nat} (v : α) (h : j ≠ k) :
    Tab.get d (Tab.set d t k v) j = Tab.get d t j := by simp [Tab.get_set, h]

/-- Bytes written at consecutive keys: a key outside them holds what it held. -/
theorem Tab.get_setList_out [DecidableEq α] (d : Nat → α) (vs : List α) :
    ∀ (t : Tab α) (k j : Nat), j < k ∨ k + vs.length ≤ j → Tab.get d (Tab.setList d t k vs) j = Tab.get d t j := by
  induction vs with
  | nil => intros; rfl
  | cons v vs ih =>
    intro t k j h
    simp only [List.length_cons] at h
    rw [Tab.setList, ih _ _ _ (by omega), Tab.get_set_ne _ _ _ (by omega)]

/-- Bytes written at consecutive keys read back. -/
theorem Tab.get_setList_in [DecidableEq α] (d : Nat → α) (vs : List α) :
    ∀ (t : Tab α) (k i : Nat), (h : i < vs.length) → Tab.get d (Tab.setList d t k vs) (k + i) = vs[i] := by
  induction vs with
  | nil => intro _ _ i h; simp at h
  | cons v vs ih =>
    intro t k i h
    cases i with
    | zero => rw [Tab.setList, Tab.get_setList_out _ _ _ _ _ (by omega)]; simp [Tab.get_set]
    | succ i =>
      have := ih (Tab.set d t k v) (k + 1) i (by simpa using h)
      rw [Tab.setList, show k + (i + 1) = k + 1 + i by omega, this]; simp

/-! ### The canonical form -/

theorem Tab.rising_iff (t : Tab α) : Tab.rising t = true ↔ t.Pairwise fun a b => a.1 < b.1 := by
  induction t with
  | nil => simp [Tab.rising]
  | cons e r ih =>
    cases r with
    | nil => simp [Tab.rising]
    | cons f q =>
      obtain ⟨a, v⟩ := e
      obtain ⟨b, w⟩ := f
      simp only [Tab.rising, Bool.and_eq_true, decide_eq_true_eq, ih]
      constructor
      · rintro ⟨h1, h2⟩
        refine List.pairwise_cons.2 ⟨?_, h2⟩
        intro x hx
        rcases List.mem_cons.1 hx with rfl | hx
        · exact h1
        · exact Nat.lt_trans h1 ((List.pairwise_cons.1 h2).1 x hx)
      · intro h
        exact ⟨(List.pairwise_cons.1 h).1 _ (List.mem_cons_self ..), (List.pairwise_cons.1 h).2⟩

theorem Tab.wf_iff [DecidableEq α] (d : Nat → α) (t : Tab α) :
    Tab.wf d t = true ↔ (t.Pairwise fun a b => a.1 < b.1) ∧ ∀ e ∈ t, e.2 ≠ d e.1 := by
  simp [Tab.wf, Tab.rising_iff]

theorem Tab.wf_nil [DecidableEq α] (d : Nat → α) : Tab.wf d ([] : Tab α) = true := rfl

theorem Tab.wf_filter [DecidableEq α] {d : Nat → α} {t : Tab α} (p : Nat × α → Bool) (h : Tab.wf d t = true) :
    Tab.wf d (t.filter p) = true := by
  rw [Tab.wf_iff] at h ⊢
  exact ⟨h.1.filter _, fun e he => h.2 e (List.mem_filter.1 he).1⟩

theorem Tab.mem_ins {k : Nat} {v : α} {t : Tab α} {e : Nat × α} (h : e ∈ Tab.ins k v t) : e = (k, v) ∨ e ∈ t := by
  induction t with
  | nil => simpa [Tab.ins] using h
  | cons f r ih =>
    obtain ⟨a, w⟩ := f
    by_cases hlt : k < a
    · simpa [Tab.ins, hlt] using h
    · simp only [Tab.ins, hlt, if_false, List.mem_cons] at h
      rcases h with rfl | h
      · exact .inr (List.mem_cons_self ..)
      · exact (ih h).imp_right (List.mem_cons_of_mem _)

theorem Tab.pairwise_ins {k : Nat} {v : α} {t : Tab α} (h : t.Pairwise fun a b => a.1 < b.1) (hk : ∀ e ∈ t, e.1 ≠ k) :
    (Tab.ins k v t).Pairwise fun a b => a.1 < b.1 := by
  induction t with
  | nil => simp [Tab.ins]
  | cons f r ih =>
    obtain ⟨a, w⟩ := f
    obtain ⟨h1, h2⟩ := List.pairwise_cons.1 h
    by_cases hlt : k < a
    · simp only [Tab.ins, hlt, if_true]
      refine List.pairwise_cons.2 ⟨fun x hx => ?_, h⟩
      rcases List.mem_cons.1 hx with rfl | hx
      · exact hlt
      · exact Nat.lt_trans hlt (h1 x hx)
    · simp only [Tab.ins, hlt, if_false]
      refine List.pairwise_cons.2 ⟨fun x hx => ?_, ih h2 fun e he => hk e (List.mem_cons_of_mem _ he)⟩
      rcases Tab.mem_ins hx with rfl | hx
      · have : a ≠ k := hk (a, w) (List.mem_cons_self ..)
        simp only; omega
      · exact h1 x hx

theorem Tab.wf_set [DecidableEq α] {d : Nat → α} {t : Tab α} (k : Nat) (v : α) (h : Tab.wf d t = true) :
    Tab.wf d (Tab.set d t k v) = true := by
  unfold Tab.set
  split
  · exact Tab.wf_filter _ h
  · rename_i hv
    have he := (Tab.wf_iff d _).1 (Tab.wf_filter (fun e => e.1 != k) h)
    refine (Tab.wf_iff d _).2 ⟨Tab.pairwise_ins he.1 fun e h => (Tab.mem_erase h).2, fun e hm => ?_⟩
    rcases Tab.mem_ins hm with rfl | hm
    · exact hv
    · exact he.2 e hm

theorem Tab.wf_setList [DecidableEq α] {d : Nat → α} (vs : List α) :
    ∀ {t : Tab α} (k : Nat), Tab.wf d t = true → Tab.wf d (Tab.setList d t k vs) = true := by
  induction vs with
  | nil => intro _ _ h; exact h
  | cons v vs ih => intro _ k h; exact ih _ (Tab.wf_set k v h)

end Sys2Proof.Machine
end

