-- ==== Sys2Proof/Laws/State.lean ====
section
/-! SUPPORT. The laws of the state's updates: what a write of a register, of a field, of a counter or of one part leaves of
every other part, and what reads back. -/
namespace Sys2Proof.Machine

/-! ### Registers and fields -/

theorem State.rd_wr (s : State) (o j : Nat) (v : Word) : (s.wr o v).rd j = if j = o then v else s.rd j := Tab.get_set ..

@[simp] theorem State.rd_wr_same (s : State) (o : Nat) (v : Word) : (s.wr o v).rd o = v := by simp [State.rd_wr]

theorem State.rd_wr_ne (s : State) {o j : Nat} (v : Word) (h : j ≠ o) : (s.wr o v).rd j = s.rd j := by simp [State.rd_wr, h]

theorem State.rd_put (s : State) (f : Fld) (v j : Nat) :
    (s.put f v).rd j = if j = f.off then wordSet (s.rd f.off) f.lo f.w v else s.rd j := State.rd_wr ..

theorem State.rd_put_ne (s : State) (f : Fld) (v : Nat) {j : Nat} (h : j ≠ f.off) : (s.put f v).rd j = s.rd j := by
  simp [State.rd_put, h]

theorem State.get_wr_same (s : State) (f : Fld) (v : Word) : (s.wr f.off v).get f = wordField v f.lo f.w := by
  simp [State.get]

theorem State.get_wr_ne (s : State) (f : Fld) {o : Nat} (v : Word) (h : f.off ≠ o) : (s.wr o v).get f = s.get f := by
  simp [State.get, State.rd_wr_ne, h]

/-- A field of a register reads back what was written, as many bits as it has. -/
theorem State.get_put_same (s : State) (f : Fld) (v : Nat) (h : f.lo + f.w ≤ 32) : (s.put f v).get f = v % 2 ^ f.w := by
  simp only [State.get, State.rd_put, if_true]
  exact wordField_wordSet_same _ _ _ _ h

/-- A field of another register. -/
theorem State.get_put_ne (s : State) (f g : Fld) (v : Nat) (h : g.off ≠ f.off) : (s.put f v).get g = s.get g :=
  State.get_wr_ne _ _ _ h

/-- Another field of the same register. -/
theorem State.get_put_disj (s : State) (f g : Fld) (v : Nat) (hg : g.lo + g.w ≤ 32)
    (h : g.lo + g.w ≤ f.lo ∨ f.lo + f.w ≤ g.lo) : (s.put f v).get g = s.get g := by
  by_cases ho : g.off = f.off
  · simp only [State.get, State.rd_put, ho, if_true]
    exact wordField_wordSet_disj _ _ _ _ _ _ hg h
  · exact State.get_put_ne _ _ _ _ ho

theorem State.get_lt (s : State) (f : Fld) : s.get f < 2 ^ f.w := wordField_lt ..

theorem State.rd_wr64 (s : State) (o v j : Nat) :
    (s.wr64 o v).rd j = if j = o + 4 then BitVec.ofNat 32 (v / 2 ^ 32) else if j = o then BitVec.ofNat 32 v else s.rd j := by
  simp only [State.wr64, State.rd_wr]

theorem State.rd_wr64_ne (s : State) {o j : Nat} (v : Nat) (h : j ≠ o) (h' : j ≠ o + 4) : (s.wr64 o v).rd j = s.rd j := by
  simp [State.rd_wr64, h, h']

/-- A 64-bit register reads back what was written. -/
theorem State.rd64_wr64_same (s : State) (o v : Nat) : (s.wr64 o v).rd64 o = v % 2 ^ 64 := by
  simp only [State.rd64, State.rd_wr64, if_true, show o ≠ o + 4 by omega, if_false, BitVec.toNat_ofNat]
  omega

theorem State.rd64_wr_ne (s : State) {o j : Nat} (v : Word) (h : j ≠ o) (h' : j + 4 ≠ o) : (s.wr o v).rd64 j = s.rd64 j := by
  simp [State.rd64, State.rd_wr_ne, h, h']

theorem State.rd64_put_ne (s : State) (f : Fld) (v : Nat) {j : Nat} (h : j ≠ f.off) (h' : j + 4 ≠ f.off) :
    (s.put f v).rd64 j = s.rd64 j := State.rd64_wr_ne _ _ h h'

theorem State.get_wr64_ne (s : State) (f : Fld) {o : Nat} (v : Nat) (h : f.off ≠ o) (h' : f.off ≠ o + 4) :
    (s.wr64 o v).get f = s.get f := by
  simp [State.get, State.rd_wr64_ne, h, h']

theorem State.cnt_setCnt (s : State) (o v j : Nat) : (s.setCnt o v).cnt j = if j = o then v else s.cnt j := Tab.get_set ..

@[simp] theorem State.cnt_setCnt_same (s : State) (o v : Nat) : (s.setCnt o v).cnt o = v := by simp [State.cnt_setCnt]

/-! ### One update, one part -/

@[simp] theorem State.setCnt_regs (s : State) (o v : Nat) : (s.setCnt o v).regs = s.regs := rfl
@[simp] theorem State.answer_regs (s : State) (r st d : Nat) : (s.answer r st d).regs = s.regs := rfl
@[simp] theorem State.cnt_with_regs (s : State) (x) (o : Nat) : ({ s with regs := x } : State).cnt o = s.cnt o := rfl
@[simp] theorem State.wr_live (s : State) (o : Nat) (v : Word) : (s.wr o v).live = s.live := rfl
@[simp] theorem State.put_live (s : State) (f : Fld) (v : Nat) : (s.put f v).live = s.live := rfl
@[simp] theorem State.wr64_live (s : State) (o v : Nat) : (s.wr64 o v).live = s.live := rfl
@[simp] theorem State.clr_live (s : State) (o : Nat) : (s.clr o).live = s.live := rfl
@[simp] theorem State.clr64_live (s : State) (o : Nat) : (s.clr64 o).live = s.live := rfl
@[simp] theorem State.answer_live (s : State) (r st d : Nat) : (s.answer r st d).live = s.live := rfl
@[simp] theorem State.rd_with_live (s : State) (x) (o : Nat) : ({ s with live := x } : State).rd o = s.rd o := rfl
@[simp] theorem State.get_with_live (s : State) (x) (f : Fld) : ({ s with live := x } : State).get f = s.get f := rfl
@[simp] theorem State.wr_mem (s : State) (o : Nat) (v : Word) : (s.wr o v).mem = s.mem := rfl
@[simp] theorem State.put_mem (s : State) (f : Fld) (v : Nat) : (s.put f v).mem = s.mem := rfl
@[simp] theorem State.wr64_mem (s : State) (o v : Nat) : (s.wr64 o v).mem = s.mem := rfl
@[simp] theorem State.clr_mem (s : State) (o : Nat) : (s.clr o).mem = s.mem := rfl
@[simp] theorem State.clr64_mem (s : State) (o : Nat) : (s.clr64 o).mem = s.mem := rfl
@[simp] theorem State.setCnt_mem (s : State) (o v : Nat) : (s.setCnt o v).mem = s.mem := rfl
@[simp] theorem State.answer_mem (s : State) (r st d : Nat) : (s.answer r st d).mem = s.mem := rfl
@[simp] theorem State.rd_with_mem (s : State) (x) (o : Nat) : ({ s with mem := x } : State).rd o = s.rd o := rfl
@[simp] theorem State.get_with_mem (s : State) (x) (f : Fld) : ({ s with mem := x } : State).get f = s.get f := rfl
@[simp] theorem State.cnt_with_mem (s : State) (x) (o : Nat) : ({ s with mem := x } : State).cnt o = s.cnt o := rfl
@[simp] theorem State.wr_store (s : State) (o : Nat) (v : Word) : (s.wr o v).store = s.store := rfl
@[simp] theorem State.put_store (s : State) (f : Fld) (v : Nat) : (s.put f v).store = s.store := rfl
@[simp] theorem State.wr64_store (s : State) (o v : Nat) : (s.wr64 o v).store = s.store := rfl
@[simp] theorem State.clr_store (s : State) (o : Nat) : (s.clr o).store = s.store := rfl
@[simp] theorem State.clr64_store (s : State) (o : Nat) : (s.clr64 o).store = s.store := rfl
@[simp] theorem State.setCnt_store (s : State) (o v : Nat) : (s.setCnt o v).store = s.store := rfl
@[simp] theorem State.answer_store (s : State) (r st d : Nat) : (s.answer r st d).store = s.store := rfl
@[simp] theorem State.rd_with_store (s : State) (x) (o : Nat) : ({ s with store := x } : State).rd o = s.rd o := rfl
@[simp] theorem State.get_with_store (s : State) (x) (f : Fld) : ({ s with store := x } : State).get f = s.get f := rfl
@[simp] theorem State.cnt_with_store (s : State) (x) (o : Nat) : ({ s with store := x } : State).cnt o = s.cnt o := rfl
@[simp] theorem State.wr_fwd (s : State) (o : Nat) (v : Word) : (s.wr o v).fwd = s.fwd := rfl
@[simp] theorem State.put_fwd (s : State) (f : Fld) (v : Nat) : (s.put f v).fwd = s.fwd := rfl
@[simp] theorem State.wr64_fwd (s : State) (o v : Nat) : (s.wr64 o v).fwd = s.fwd := rfl
@[simp] theorem State.clr_fwd (s : State) (o : Nat) : (s.clr o).fwd = s.fwd := rfl
@[simp] theorem State.clr64_fwd (s : State) (o : Nat) : (s.clr64 o).fwd = s.fwd := rfl
@[simp] theorem State.setCnt_fwd (s : State) (o v : Nat) : (s.setCnt o v).fwd = s.fwd := rfl
@[simp] theorem State.answer_fwd (s : State) (r st d : Nat) : (s.answer r st d).fwd = s.fwd := rfl
@[simp] theorem State.rd_with_fwd (s : State) (x) (o : Nat) : ({ s with fwd := x } : State).rd o = s.rd o := rfl
@[simp] theorem State.get_with_fwd (s : State) (x) (f : Fld) : ({ s with fwd := x } : State).get f = s.get f := rfl
@[simp] theorem State.cnt_with_fwd (s : State) (x) (o : Nat) : ({ s with fwd := x } : State).cnt o = s.cnt o := rfl
@[simp] theorem State.wr_lane (s : State) (o : Nat) (v : Word) : (s.wr o v).lane = s.lane := rfl
@[simp] theorem State.put_lane (s : State) (f : Fld) (v : Nat) : (s.put f v).lane = s.lane := rfl
@[simp] theorem State.wr64_lane (s : State) (o v : Nat) : (s.wr64 o v).lane = s.lane := rfl
@[simp] theorem State.clr_lane (s : State) (o : Nat) : (s.clr o).lane = s.lane := rfl
@[simp] theorem State.clr64_lane (s : State) (o : Nat) : (s.clr64 o).lane = s.lane := rfl
@[simp] theorem State.setCnt_lane (s : State) (o v : Nat) : (s.setCnt o v).lane = s.lane := rfl
@[simp] theorem State.answer_lane (s : State) (r st d : Nat) : (s.answer r st d).lane = s.lane := rfl
@[simp] theorem State.rd_with_lane (s : State) (x) (o : Nat) : ({ s with lane := x } : State).rd o = s.rd o := rfl
@[simp] theorem State.get_with_lane (s : State) (x) (f : Fld) : ({ s with lane := x } : State).get f = s.get f := rfl
@[simp] theorem State.cnt_with_lane (s : State) (x) (o : Nat) : ({ s with lane := x } : State).cnt o = s.cnt o := rfl
@[simp] theorem State.wr_rpe (s : State) (o : Nat) (v : Word) : (s.wr o v).rpe = s.rpe := rfl
@[simp] theorem State.put_rpe (s : State) (f : Fld) (v : Nat) : (s.put f v).rpe = s.rpe := rfl
@[simp] theorem State.wr64_rpe (s : State) (o v : Nat) : (s.wr64 o v).rpe = s.rpe := rfl
@[simp] theorem State.clr_rpe (s : State) (o : Nat) : (s.clr o).rpe = s.rpe := rfl
@[simp] theorem State.clr64_rpe (s : State) (o : Nat) : (s.clr64 o).rpe = s.rpe := rfl
@[simp] theorem State.setCnt_rpe (s : State) (o v : Nat) : (s.setCnt o v).rpe = s.rpe := rfl
@[simp] theorem State.answer_rpe (s : State) (r st d : Nat) : (s.answer r st d).rpe = s.rpe := rfl
@[simp] theorem State.rd_with_rpe (s : State) (x) (o : Nat) : ({ s with rpe := x } : State).rd o = s.rd o := rfl
@[simp] theorem State.get_with_rpe (s : State) (x) (f : Fld) : ({ s with rpe := x } : State).get f = s.get f := rfl
@[simp] theorem State.cnt_with_rpe (s : State) (x) (o : Nat) : ({ s with rpe := x } : State).cnt o = s.cnt o := rfl
@[simp] theorem State.wr_red (s : State) (o : Nat) (v : Word) : (s.wr o v).red = s.red := rfl
@[simp] theorem State.put_red (s : State) (f : Fld) (v : Nat) : (s.put f v).red = s.red := rfl
@[simp] theorem State.wr64_red (s : State) (o v : Nat) : (s.wr64 o v).red = s.red := rfl
@[simp] theorem State.clr_red (s : State) (o : Nat) : (s.clr o).red = s.red := rfl
@[simp] theorem State.clr64_red (s : State) (o : Nat) : (s.clr64 o).red = s.red := rfl
@[simp] theorem State.setCnt_red (s : State) (o v : Nat) : (s.setCnt o v).red = s.red := rfl
@[simp] theorem State.answer_red (s : State) (r st d : Nat) : (s.answer r st d).red = s.red := rfl
@[simp] theorem State.rd_with_red (s : State) (x) (o : Nat) : ({ s with red := x } : State).rd o = s.rd o := rfl
@[simp] theorem State.get_with_red (s : State) (x) (f : Fld) : ({ s with red := x } : State).get f = s.get f := rfl
@[simp] theorem State.cnt_with_red (s : State) (x) (o : Nat) : ({ s with red := x } : State).cnt o = s.cnt o := rfl
@[simp] theorem State.wr_gg (s : State) (o : Nat) (v : Word) : (s.wr o v).gg = s.gg := rfl
@[simp] theorem State.put_gg (s : State) (f : Fld) (v : Nat) : (s.put f v).gg = s.gg := rfl
@[simp] theorem State.wr64_gg (s : State) (o v : Nat) : (s.wr64 o v).gg = s.gg := rfl
@[simp] theorem State.clr_gg (s : State) (o : Nat) : (s.clr o).gg = s.gg := rfl
@[simp] theorem State.clr64_gg (s : State) (o : Nat) : (s.clr64 o).gg = s.gg := rfl
@[simp] theorem State.setCnt_gg (s : State) (o v : Nat) : (s.setCnt o v).gg = s.gg := rfl
@[simp] theorem State.answer_gg (s : State) (r st d : Nat) : (s.answer r st d).gg = s.gg := rfl
@[simp] theorem State.rd_with_gg (s : State) (x) (o : Nat) : ({ s with gg := x } : State).rd o = s.rd o := rfl
@[simp] theorem State.get_with_gg (s : State) (x) (f : Fld) : ({ s with gg := x } : State).get f = s.get f := rfl
@[simp] theorem State.cnt_with_gg (s : State) (x) (o : Nat) : ({ s with gg := x } : State).cnt o = s.cnt o := rfl
@[simp] theorem State.wr_sq (s : State) (o : Nat) (v : Word) : (s.wr o v).sq = s.sq := rfl
@[simp] theorem State.put_sq (s : State) (f : Fld) (v : Nat) : (s.put f v).sq = s.sq := rfl
@[simp] theorem State.wr64_sq (s : State) (o v : Nat) : (s.wr64 o v).sq = s.sq := rfl
@[simp] theorem State.clr_sq (s : State) (o : Nat) : (s.clr o).sq = s.sq := rfl
@[simp] theorem State.clr64_sq (s : State) (o : Nat) : (s.clr64 o).sq = s.sq := rfl
@[simp] theorem State.setCnt_sq (s : State) (o v : Nat) : (s.setCnt o v).sq = s.sq := rfl
@[simp] theorem State.answer_sq (s : State) (r st d : Nat) : (s.answer r st d).sq = s.sq := rfl
@[simp] theorem State.rd_with_sq (s : State) (x) (o : Nat) : ({ s with sq := x } : State).rd o = s.rd o := rfl
@[simp] theorem State.get_with_sq (s : State) (x) (f : Fld) : ({ s with sq := x } : State).get f = s.get f := rfl
@[simp] theorem State.cnt_with_sq (s : State) (x) (o : Nat) : ({ s with sq := x } : State).cnt o = s.cnt o := rfl
@[simp] theorem State.wr_time (s : State) (o : Nat) (v : Word) : (s.wr o v).time = s.time := rfl
@[simp] theorem State.put_time (s : State) (f : Fld) (v : Nat) : (s.put f v).time = s.time := rfl
@[simp] theorem State.wr64_time (s : State) (o v : Nat) : (s.wr64 o v).time = s.time := rfl
@[simp] theorem State.clr_time (s : State) (o : Nat) : (s.clr o).time = s.time := rfl
@[simp] theorem State.clr64_time (s : State) (o : Nat) : (s.clr64 o).time = s.time := rfl
@[simp] theorem State.setCnt_time (s : State) (o v : Nat) : (s.setCnt o v).time = s.time := rfl
@[simp] theorem State.answer_time (s : State) (r st d : Nat) : (s.answer r st d).time = s.time := rfl
@[simp] theorem State.rd_with_time (s : State) (x) (o : Nat) : ({ s with time := x } : State).rd o = s.rd o := rfl
@[simp] theorem State.get_with_time (s : State) (x) (f : Fld) : ({ s with time := x } : State).get f = s.get f := rfl
@[simp] theorem State.cnt_with_time (s : State) (x) (o : Nat) : ({ s with time := x } : State).cnt o = s.cnt o := rfl
@[simp] theorem State.wr_lsv (s : State) (o : Nat) (v : Word) : (s.wr o v).lsv = s.lsv := rfl
@[simp] theorem State.put_lsv (s : State) (f : Fld) (v : Nat) : (s.put f v).lsv = s.lsv := rfl
@[simp] theorem State.wr64_lsv (s : State) (o v : Nat) : (s.wr64 o v).lsv = s.lsv := rfl
@[simp] theorem State.clr_lsv (s : State) (o : Nat) : (s.clr o).lsv = s.lsv := rfl
@[simp] theorem State.clr64_lsv (s : State) (o : Nat) : (s.clr64 o).lsv = s.lsv := rfl
@[simp] theorem State.setCnt_lsv (s : State) (o v : Nat) : (s.setCnt o v).lsv = s.lsv := rfl
@[simp] theorem State.answer_lsv (s : State) (r st d : Nat) : (s.answer r st d).lsv = s.lsv := rfl
@[simp] theorem State.rd_with_lsv (s : State) (x) (o : Nat) : ({ s with lsv := x } : State).rd o = s.rd o := rfl
@[simp] theorem State.get_with_lsv (s : State) (x) (f : Fld) : ({ s with lsv := x } : State).get f = s.get f := rfl
@[simp] theorem State.cnt_with_lsv (s : State) (x) (o : Nat) : ({ s with lsv := x } : State).cnt o = s.cnt o := rfl
@[simp] theorem State.wr_mb (s : State) (o : Nat) (v : Word) : (s.wr o v).mb = s.mb := rfl
@[simp] theorem State.put_mb (s : State) (f : Fld) (v : Nat) : (s.put f v).mb = s.mb := rfl
@[simp] theorem State.wr64_mb (s : State) (o v : Nat) : (s.wr64 o v).mb = s.mb := rfl
@[simp] theorem State.clr_mb (s : State) (o : Nat) : (s.clr o).mb = s.mb := rfl
@[simp] theorem State.clr64_mb (s : State) (o : Nat) : (s.clr64 o).mb = s.mb := rfl
@[simp] theorem State.setCnt_mb (s : State) (o v : Nat) : (s.setCnt o v).mb = s.mb := rfl
@[simp] theorem State.answer_mb (s : State) (r st d : Nat) : (s.answer r st d).mb = s.mb := rfl
@[simp] theorem State.rd_with_mb (s : State) (x) (o : Nat) : ({ s with mb := x } : State).rd o = s.rd o := rfl
@[simp] theorem State.get_with_mb (s : State) (x) (f : Fld) : ({ s with mb := x } : State).get f = s.get f := rfl
@[simp] theorem State.cnt_with_mb (s : State) (x) (o : Nat) : ({ s with mb := x } : State).cnt o = s.cnt o := rfl
@[simp] theorem State.wr_fab (s : State) (o : Nat) (v : Word) : (s.wr o v).fab = s.fab := rfl
@[simp] theorem State.put_fab (s : State) (f : Fld) (v : Nat) : (s.put f v).fab = s.fab := rfl
@[simp] theorem State.wr64_fab (s : State) (o v : Nat) : (s.wr64 o v).fab = s.fab := rfl
@[simp] theorem State.clr_fab (s : State) (o : Nat) : (s.clr o).fab = s.fab := rfl
@[simp] theorem State.clr64_fab (s : State) (o : Nat) : (s.clr64 o).fab = s.fab := rfl
@[simp] theorem State.setCnt_fab (s : State) (o v : Nat) : (s.setCnt o v).fab = s.fab := rfl
@[simp] theorem State.answer_fab (s : State) (r st d : Nat) : (s.answer r st d).fab = s.fab := rfl
@[simp] theorem State.rd_with_fab (s : State) (x) (o : Nat) : ({ s with fab := x } : State).rd o = s.rd o := rfl
@[simp] theorem State.get_with_fab (s : State) (x) (f : Fld) : ({ s with fab := x } : State).get f = s.get f := rfl
@[simp] theorem State.cnt_with_fab (s : State) (x) (o : Nat) : ({ s with fab := x } : State).cnt o = s.cnt o := rfl
@[simp] theorem State.wr_hbr (s : State) (o : Nat) (v : Word) : (s.wr o v).hbr = s.hbr := rfl
@[simp] theorem State.put_hbr (s : State) (f : Fld) (v : Nat) : (s.put f v).hbr = s.hbr := rfl
@[simp] theorem State.wr64_hbr (s : State) (o v : Nat) : (s.wr64 o v).hbr = s.hbr := rfl
@[simp] theorem State.clr_hbr (s : State) (o : Nat) : (s.clr o).hbr = s.hbr := rfl
@[simp] theorem State.clr64_hbr (s : State) (o : Nat) : (s.clr64 o).hbr = s.hbr := rfl
@[simp] theorem State.setCnt_hbr (s : State) (o v : Nat) : (s.setCnt o v).hbr = s.hbr := rfl
@[simp] theorem State.answer_hbr (s : State) (r st d : Nat) : (s.answer r st d).hbr = s.hbr := rfl
@[simp] theorem State.rd_with_hbr (s : State) (x) (o : Nat) : ({ s with hbr := x } : State).rd o = s.rd o := rfl
@[simp] theorem State.get_with_hbr (s : State) (x) (f : Fld) : ({ s with hbr := x } : State).get f = s.get f := rfl
@[simp] theorem State.cnt_with_hbr (s : State) (x) (o : Nat) : ({ s with hbr := x } : State).cnt o = s.cnt o := rfl
@[simp] theorem State.wr_dma (s : State) (o : Nat) (v : Word) : (s.wr o v).dma = s.dma := rfl
@[simp] theorem State.put_dma (s : State) (f : Fld) (v : Nat) : (s.put f v).dma = s.dma := rfl
@[simp] theorem State.wr64_dma (s : State) (o v : Nat) : (s.wr64 o v).dma = s.dma := rfl
@[simp] theorem State.clr_dma (s : State) (o : Nat) : (s.clr o).dma = s.dma := rfl
@[simp] theorem State.clr64_dma (s : State) (o : Nat) : (s.clr64 o).dma = s.dma := rfl
@[simp] theorem State.setCnt_dma (s : State) (o v : Nat) : (s.setCnt o v).dma = s.dma := rfl
@[simp] theorem State.answer_dma (s : State) (r st d : Nat) : (s.answer r st d).dma = s.dma := rfl
@[simp] theorem State.rd_with_dma (s : State) (x) (o : Nat) : ({ s with dma := x } : State).rd o = s.rd o := rfl
@[simp] theorem State.get_with_dma (s : State) (x) (f : Fld) : ({ s with dma := x } : State).get f = s.get f := rfl
@[simp] theorem State.cnt_with_dma (s : State) (x) (o : Nat) : ({ s with dma := x } : State).cnt o = s.cnt o := rfl
@[simp] theorem State.wr_lpw (s : State) (o : Nat) (v : Word) : (s.wr o v).lpw = s.lpw := rfl
@[simp] theorem State.put_lpw (s : State) (f : Fld) (v : Nat) : (s.put f v).lpw = s.lpw := rfl
@[simp] theorem State.wr64_lpw (s : State) (o v : Nat) : (s.wr64 o v).lpw = s.lpw := rfl
@[simp] theorem State.clr_lpw (s : State) (o : Nat) : (s.clr o).lpw = s.lpw := rfl
@[simp] theorem State.clr64_lpw (s : State) (o : Nat) : (s.clr64 o).lpw = s.lpw := rfl
@[simp] theorem State.setCnt_lpw (s : State) (o v : Nat) : (s.setCnt o v).lpw = s.lpw := rfl
@[simp] theorem State.answer_lpw (s : State) (r st d : Nat) : (s.answer r st d).lpw = s.lpw := rfl
@[simp] theorem State.rd_with_lpw (s : State) (x) (o : Nat) : ({ s with lpw := x } : State).rd o = s.rd o := rfl
@[simp] theorem State.get_with_lpw (s : State) (x) (f : Fld) : ({ s with lpw := x } : State).get f = s.get f := rfl
@[simp] theorem State.cnt_with_lpw (s : State) (x) (o : Nat) : ({ s with lpw := x } : State).cnt o = s.cnt o := rfl
@[simp] theorem State.wr_upd (s : State) (o : Nat) (v : Word) : (s.wr o v).upd = s.upd := rfl
@[simp] theorem State.put_upd (s : State) (f : Fld) (v : Nat) : (s.put f v).upd = s.upd := rfl
@[simp] theorem State.wr64_upd (s : State) (o v : Nat) : (s.wr64 o v).upd = s.upd := rfl
@[simp] theorem State.clr_upd (s : State) (o : Nat) : (s.clr o).upd = s.upd := rfl
@[simp] theorem State.clr64_upd (s : State) (o : Nat) : (s.clr64 o).upd = s.upd := rfl
@[simp] theorem State.setCnt_upd (s : State) (o v : Nat) : (s.setCnt o v).upd = s.upd := rfl
@[simp] theorem State.answer_upd (s : State) (r st d : Nat) : (s.answer r st d).upd = s.upd := rfl
@[simp] theorem State.rd_with_upd (s : State) (x) (o : Nat) : ({ s with upd := x } : State).rd o = s.rd o := rfl
@[simp] theorem State.get_with_upd (s : State) (x) (f : Fld) : ({ s with upd := x } : State).get f = s.get f := rfl
@[simp] theorem State.cnt_with_upd (s : State) (x) (o : Nat) : ({ s with upd := x } : State).cnt o = s.cnt o := rfl
@[simp] theorem State.wr_tst (s : State) (o : Nat) (v : Word) : (s.wr o v).tst = s.tst := rfl
@[simp] theorem State.put_tst (s : State) (f : Fld) (v : Nat) : (s.put f v).tst = s.tst := rfl
@[simp] theorem State.wr64_tst (s : State) (o v : Nat) : (s.wr64 o v).tst = s.tst := rfl
@[simp] theorem State.clr_tst (s : State) (o : Nat) : (s.clr o).tst = s.tst := rfl
@[simp] theorem State.clr64_tst (s : State) (o : Nat) : (s.clr64 o).tst = s.tst := rfl
@[simp] theorem State.setCnt_tst (s : State) (o v : Nat) : (s.setCnt o v).tst = s.tst := rfl
@[simp] theorem State.answer_tst (s : State) (r st d : Nat) : (s.answer r st d).tst = s.tst := rfl
@[simp] theorem State.rd_with_tst (s : State) (x) (o : Nat) : ({ s with tst := x } : State).rd o = s.rd o := rfl
@[simp] theorem State.get_with_tst (s : State) (x) (f : Fld) : ({ s with tst := x } : State).get f = s.get f := rfl
@[simp] theorem State.cnt_with_tst (s : State) (x) (o : Nat) : ({ s with tst := x } : State).cnt o = s.cnt o := rfl
@[simp] theorem State.wr_cfg (s : State) (o : Nat) (v : Word) : (s.wr o v).cfg = s.cfg := rfl
@[simp] theorem State.put_cfg (s : State) (f : Fld) (v : Nat) : (s.put f v).cfg = s.cfg := rfl
@[simp] theorem State.wr64_cfg (s : State) (o v : Nat) : (s.wr64 o v).cfg = s.cfg := rfl
@[simp] theorem State.clr_cfg (s : State) (o : Nat) : (s.clr o).cfg = s.cfg := rfl
@[simp] theorem State.clr64_cfg (s : State) (o : Nat) : (s.clr64 o).cfg = s.cfg := rfl
@[simp] theorem State.setCnt_cfg (s : State) (o v : Nat) : (s.setCnt o v).cfg = s.cfg := rfl
@[simp] theorem State.answer_cfg (s : State) (r st d : Nat) : (s.answer r st d).cfg = s.cfg := rfl
@[simp] theorem State.rd_with_cfg (s : State) (x) (o : Nat) : ({ s with cfg := x } : State).rd o = s.rd o := rfl
@[simp] theorem State.get_with_cfg (s : State) (x) (f : Fld) : ({ s with cfg := x } : State).get f = s.get f := rfl
@[simp] theorem State.cnt_with_cfg (s : State) (x) (o : Nat) : ({ s with cfg := x } : State).cnt o = s.cnt o := rfl
@[simp] theorem State.wr_biv (s : State) (o : Nat) (v : Word) : (s.wr o v).biv = s.biv := rfl
@[simp] theorem State.put_biv (s : State) (f : Fld) (v : Nat) : (s.put f v).biv = s.biv := rfl
@[simp] theorem State.wr64_biv (s : State) (o v : Nat) : (s.wr64 o v).biv = s.biv := rfl
@[simp] theorem State.clr_biv (s : State) (o : Nat) : (s.clr o).biv = s.biv := rfl
@[simp] theorem State.clr64_biv (s : State) (o : Nat) : (s.clr64 o).biv = s.biv := rfl
@[simp] theorem State.setCnt_biv (s : State) (o v : Nat) : (s.setCnt o v).biv = s.biv := rfl
@[simp] theorem State.answer_biv (s : State) (r st d : Nat) : (s.answer r st d).biv = s.biv := rfl
@[simp] theorem State.rd_with_biv (s : State) (x) (o : Nat) : ({ s with biv := x } : State).rd o = s.rd o := rfl
@[simp] theorem State.get_with_biv (s : State) (x) (f : Fld) : ({ s with biv := x } : State).get f = s.get f := rfl
@[simp] theorem State.cnt_with_biv (s : State) (x) (o : Nat) : ({ s with biv := x } : State).cnt o = s.cnt o := rfl
@[simp] theorem State.wr_sys (s : State) (o : Nat) (v : Word) : (s.wr o v).sys = s.sys := rfl
@[simp] theorem State.put_sys (s : State) (f : Fld) (v : Nat) : (s.put f v).sys = s.sys := rfl
@[simp] theorem State.wr64_sys (s : State) (o v : Nat) : (s.wr64 o v).sys = s.sys := rfl
@[simp] theorem State.clr_sys (s : State) (o : Nat) : (s.clr o).sys = s.sys := rfl
@[simp] theorem State.clr64_sys (s : State) (o : Nat) : (s.clr64 o).sys = s.sys := rfl
@[simp] theorem State.setCnt_sys (s : State) (o v : Nat) : (s.setCnt o v).sys = s.sys := rfl
@[simp] theorem State.answer_sys (s : State) (r st d : Nat) : (s.answer r st d).sys = s.sys := rfl
@[simp] theorem State.rd_with_sys (s : State) (x) (o : Nat) : ({ s with sys := x } : State).rd o = s.rd o := rfl
@[simp] theorem State.get_with_sys (s : State) (x) (f : Fld) : ({ s with sys := x } : State).get f = s.get f := rfl
@[simp] theorem State.cnt_with_sys (s : State) (x) (o : Nat) : ({ s with sys := x } : State).cnt o = s.cnt o := rfl
@[simp] theorem State.wr_resp (s : State) (o : Nat) (v : Word) : (s.wr o v).resp = s.resp := rfl
@[simp] theorem State.put_resp (s : State) (f : Fld) (v : Nat) : (s.put f v).resp = s.resp := rfl
@[simp] theorem State.wr64_resp (s : State) (o v : Nat) : (s.wr64 o v).resp = s.resp := rfl
@[simp] theorem State.clr_resp (s : State) (o : Nat) : (s.clr o).resp = s.resp := rfl
@[simp] theorem State.clr64_resp (s : State) (o : Nat) : (s.clr64 o).resp = s.resp := rfl
@[simp] theorem State.setCnt_resp (s : State) (o v : Nat) : (s.setCnt o v).resp = s.resp := rfl
@[simp] theorem State.rd_with_resp (s : State) (x) (o : Nat) : ({ s with resp := x } : State).rd o = s.rd o := rfl
@[simp] theorem State.get_with_resp (s : State) (x) (f : Fld) : ({ s with resp := x } : State).get f = s.get f := rfl
@[simp] theorem State.cnt_with_resp (s : State) (x) (o : Nat) : ({ s with resp := x } : State).cnt o = s.cnt o := rfl
@[simp] theorem State.wr_fltQ (s : State) (o : Nat) (v : Word) : (s.wr o v).fltQ = s.fltQ := rfl
@[simp] theorem State.put_fltQ (s : State) (f : Fld) (v : Nat) : (s.put f v).fltQ = s.fltQ := rfl
@[simp] theorem State.wr64_fltQ (s : State) (o v : Nat) : (s.wr64 o v).fltQ = s.fltQ := rfl
@[simp] theorem State.clr_fltQ (s : State) (o : Nat) : (s.clr o).fltQ = s.fltQ := rfl
@[simp] theorem State.clr64_fltQ (s : State) (o : Nat) : (s.clr64 o).fltQ = s.fltQ := rfl
@[simp] theorem State.setCnt_fltQ (s : State) (o v : Nat) : (s.setCnt o v).fltQ = s.fltQ := rfl
@[simp] theorem State.answer_fltQ (s : State) (r st d : Nat) : (s.answer r st d).fltQ = s.fltQ := rfl
@[simp] theorem State.rd_with_fltQ (s : State) (x) (o : Nat) : ({ s with fltQ := x } : State).rd o = s.rd o := rfl
@[simp] theorem State.get_with_fltQ (s : State) (x) (f : Fld) : ({ s with fltQ := x } : State).get f = s.get f := rfl
@[simp] theorem State.cnt_with_fltQ (s : State) (x) (o : Nat) : ({ s with fltQ := x } : State).cnt o = s.cnt o := rfl
@[simp] theorem State.wr_recLatch (s : State) (o : Nat) (v : Word) : (s.wr o v).recLatch = s.recLatch := rfl
@[simp] theorem State.put_recLatch (s : State) (f : Fld) (v : Nat) : (s.put f v).recLatch = s.recLatch := rfl
@[simp] theorem State.wr64_recLatch (s : State) (o v : Nat) : (s.wr64 o v).recLatch = s.recLatch := rfl
@[simp] theorem State.clr_recLatch (s : State) (o : Nat) : (s.clr o).recLatch = s.recLatch := rfl
@[simp] theorem State.clr64_recLatch (s : State) (o : Nat) : (s.clr64 o).recLatch = s.recLatch := rfl
@[simp] theorem State.setCnt_recLatch (s : State) (o v : Nat) : (s.setCnt o v).recLatch = s.recLatch := rfl
@[simp] theorem State.answer_recLatch (s : State) (r st d : Nat) : (s.answer r st d).recLatch = s.recLatch := rfl
@[simp] theorem State.rd_with_recLatch (s : State) (x) (o : Nat) : ({ s with recLatch := x } : State).rd o = s.rd o := rfl
@[simp] theorem State.get_with_recLatch (s : State) (x) (f : Fld) : ({ s with recLatch := x } : State).get f = s.get f := rfl
@[simp] theorem State.cnt_with_recLatch (s : State) (x) (o : Nat) : ({ s with recLatch := x } : State).cnt o = s.cnt o := rfl
@[simp] theorem State.wr_grpT0 (s : State) (o : Nat) (v : Word) : (s.wr o v).grpT0 = s.grpT0 := rfl
@[simp] theorem State.put_grpT0 (s : State) (f : Fld) (v : Nat) : (s.put f v).grpT0 = s.grpT0 := rfl
@[simp] theorem State.wr64_grpT0 (s : State) (o v : Nat) : (s.wr64 o v).grpT0 = s.grpT0 := rfl
@[simp] theorem State.clr_grpT0 (s : State) (o : Nat) : (s.clr o).grpT0 = s.grpT0 := rfl
@[simp] theorem State.clr64_grpT0 (s : State) (o : Nat) : (s.clr64 o).grpT0 = s.grpT0 := rfl
@[simp] theorem State.setCnt_grpT0 (s : State) (o v : Nat) : (s.setCnt o v).grpT0 = s.grpT0 := rfl
@[simp] theorem State.answer_grpT0 (s : State) (r st d : Nat) : (s.answer r st d).grpT0 = s.grpT0 := rfl
@[simp] theorem State.rd_with_grpT0 (s : State) (x) (o : Nat) : ({ s with grpT0 := x } : State).rd o = s.rd o := rfl
@[simp] theorem State.get_with_grpT0 (s : State) (x) (f : Fld) : ({ s with grpT0 := x } : State).get f = s.get f := rfl
@[simp] theorem State.cnt_with_grpT0 (s : State) (x) (o : Nat) : ({ s with grpT0 := x } : State).cnt o = s.cnt o := rfl
@[simp] theorem State.wr_seenP (s : State) (o : Nat) (v : Word) : (s.wr o v).seenP = s.seenP := rfl
@[simp] theorem State.put_seenP (s : State) (f : Fld) (v : Nat) : (s.put f v).seenP = s.seenP := rfl
@[simp] theorem State.wr64_seenP (s : State) (o v : Nat) : (s.wr64 o v).seenP = s.seenP := rfl
@[simp] theorem State.clr_seenP (s : State) (o : Nat) : (s.clr o).seenP = s.seenP := rfl
@[simp] theorem State.clr64_seenP (s : State) (o : Nat) : (s.clr64 o).seenP = s.seenP := rfl
@[simp] theorem State.setCnt_seenP (s : State) (o v : Nat) : (s.setCnt o v).seenP = s.seenP := rfl
@[simp] theorem State.answer_seenP (s : State) (r st d : Nat) : (s.answer r st d).seenP = s.seenP := rfl
@[simp] theorem State.rd_with_seenP (s : State) (x) (o : Nat) : ({ s with seenP := x } : State).rd o = s.rd o := rfl
@[simp] theorem State.get_with_seenP (s : State) (x) (f : Fld) : ({ s with seenP := x } : State).get f = s.get f := rfl
@[simp] theorem State.cnt_with_seenP (s : State) (x) (o : Nat) : ({ s with seenP := x } : State).cnt o = s.cnt o := rfl
@[simp] theorem State.wr_lpwRawHeld (s : State) (o : Nat) (v : Word) : (s.wr o v).lpwRawHeld = s.lpwRawHeld := rfl
@[simp] theorem State.put_lpwRawHeld (s : State) (f : Fld) (v : Nat) : (s.put f v).lpwRawHeld = s.lpwRawHeld := rfl
@[simp] theorem State.wr64_lpwRawHeld (s : State) (o v : Nat) : (s.wr64 o v).lpwRawHeld = s.lpwRawHeld := rfl
@[simp] theorem State.clr_lpwRawHeld (s : State) (o : Nat) : (s.clr o).lpwRawHeld = s.lpwRawHeld := rfl
@[simp] theorem State.clr64_lpwRawHeld (s : State) (o : Nat) : (s.clr64 o).lpwRawHeld = s.lpwRawHeld := rfl
@[simp] theorem State.setCnt_lpwRawHeld (s : State) (o v : Nat) : (s.setCnt o v).lpwRawHeld = s.lpwRawHeld := rfl
@[simp] theorem State.answer_lpwRawHeld (s : State) (r st d : Nat) : (s.answer r st d).lpwRawHeld = s.lpwRawHeld := rfl
@[simp] theorem State.rd_with_lpwRawHeld (s : State) (x) (o : Nat) : ({ s with lpwRawHeld := x } : State).rd o = s.rd o := rfl
@[simp] theorem State.get_with_lpwRawHeld (s : State) (x) (f : Fld) : ({ s with lpwRawHeld := x } : State).get f = s.get f := rfl
@[simp] theorem State.cnt_with_lpwRawHeld (s : State) (x) (o : Nat) : ({ s with lpwRawHeld := x } : State).cnt o = s.cnt o := rfl
@[simp] theorem State.wr_d2dLost (s : State) (o : Nat) (v : Word) : (s.wr o v).d2dLost = s.d2dLost := rfl
@[simp] theorem State.put_d2dLost (s : State) (f : Fld) (v : Nat) : (s.put f v).d2dLost = s.d2dLost := rfl
@[simp] theorem State.wr64_d2dLost (s : State) (o v : Nat) : (s.wr64 o v).d2dLost = s.d2dLost := rfl
@[simp] theorem State.clr_d2dLost (s : State) (o : Nat) : (s.clr o).d2dLost = s.d2dLost := rfl
@[simp] theorem State.clr64_d2dLost (s : State) (o : Nat) : (s.clr64 o).d2dLost = s.d2dLost := rfl
@[simp] theorem State.setCnt_d2dLost (s : State) (o v : Nat) : (s.setCnt o v).d2dLost = s.d2dLost := rfl
@[simp] theorem State.answer_d2dLost (s : State) (r st d : Nat) : (s.answer r st d).d2dLost = s.d2dLost := rfl
@[simp] theorem State.rd_with_d2dLost (s : State) (x) (o : Nat) : ({ s with d2dLost := x } : State).rd o = s.rd o := rfl
@[simp] theorem State.get_with_d2dLost (s : State) (x) (f : Fld) : ({ s with d2dLost := x } : State).get f = s.get f := rfl
@[simp] theorem State.cnt_with_d2dLost (s : State) (x) (o : Nat) : ({ s with d2dLost := x } : State).cnt o = s.cnt o := rfl
@[simp] theorem State.wr_pending (s : State) (o : Nat) (v : Word) : (s.wr o v).pending = s.pending := rfl
@[simp] theorem State.put_pending (s : State) (f : Fld) (v : Nat) : (s.put f v).pending = s.pending := rfl
@[simp] theorem State.wr64_pending (s : State) (o v : Nat) : (s.wr64 o v).pending = s.pending := rfl
@[simp] theorem State.clr_pending (s : State) (o : Nat) : (s.clr o).pending = s.pending := rfl
@[simp] theorem State.clr64_pending (s : State) (o : Nat) : (s.clr64 o).pending = s.pending := rfl
@[simp] theorem State.setCnt_pending (s : State) (o v : Nat) : (s.setCnt o v).pending = s.pending := rfl
@[simp] theorem State.answer_pending (s : State) (r st d : Nat) : (s.answer r st d).pending = s.pending := rfl
@[simp] theorem State.rd_with_pending (s : State) (x) (o : Nat) : ({ s with pending := x } : State).rd o = s.rd o := rfl
@[simp] theorem State.get_with_pending (s : State) (x) (f : Fld) : ({ s with pending := x } : State).get f = s.get f := rfl
@[simp] theorem State.cnt_with_pending (s : State) (x) (o : Nat) : ({ s with pending := x } : State).cnt o = s.cnt o := rfl
@[simp] theorem State.rd_setCnt (s : State) (o v j : Nat) : (s.setCnt o v).rd j = s.rd j := rfl
@[simp] theorem State.get_setCnt (s : State) (o v : Nat) (f : Fld) : (s.setCnt o v).get f = s.get f := rfl
@[simp] theorem State.rd_answer (s : State) (r st d j : Nat) : (s.answer r st d).rd j = s.rd j := rfl
@[simp] theorem State.get_answer (s : State) (r st d : Nat) (f : Fld) : (s.answer r st d).get f = s.get f := rfl
@[simp] theorem State.cnt_wr (s : State) (o j : Nat) (v : Word) : (s.wr o v).cnt j = s.cnt j := rfl
@[simp] theorem State.cnt_put (s : State) (f : Fld) (v j : Nat) : (s.put f v).cnt j = s.cnt j := rfl
@[simp] theorem State.resp_answer (s : State) (r st d : Nat) : (s.answer r st d).resp = some ⟨r, st, d⟩ := rfl

/-! ### Faults and register commands -/

/-- A message that finds room waits at the collector, in its place. -/
theorem State.fault_room (s : State) (src kind addr : Nat) (hm : s.mode ≠ 0) (h5 : s.getBit RSTC_INRST_BLK 0x05 = false)
    (hq : s.fltQ.length < 32) : s.fault src kind addr =
      { s with fltQ := fltInsert ⟨src, kind, kindSev kind, addr % 2 ^ 48, false, s.sys.t⟩ s.fltQ } := by
  simp [State.fault, State.faultMsg, hm, h5, hq]

/-- A message adds one to the queue. -/
@[simp] theorem fltInsert_length (m : FaultMsg) (q : List FaultMsg) : (fltInsert m q).length = q.length + 1 := by
  induction q with
  | nil => rfl
  | cons x r ih => unfold fltInsert; split <;> simp [ih]

/-- A command whose unit runs has its effect. -/
theorem State.cmd_run (s : State) (off : Nat) (f : State → State) (hd : s.dark = false) (h : s.inReset (blkOf off) = false) :
    s.cmd off f = f s := by
  simp [State.cmd, hd, h]

/-- A read command whose unit runs answers what it reads. -/
theorem State.readCmd_run (s : State) (off req : Nat) (f : State → State × Nat) (hd : s.dark = false)
    (h : s.inReset (blkOf off) = false) : s.readCmd off req f = (f s).1.answer req 0 (f s).2 := by
  simp [State.readCmd, hd, h]

end Sys2Proof.Machine
end

