-- ==== Sys2Proof/Laws/Foot.lean ====
section
/-! SUPPORT. Footprints: what an operation may change of the state, said once for each operation. `Foot m s t` says that `t`
comes from `s` by changes of the parts in the mask `m` alone, with the queue of commands as it was and the invariant kept. -/
namespace Sys2Proof.Machine

/-- The parts of the state have the bits of a mask in the order of the fields below. -/
structure Foot (m : Nat) (s t : State) : Prop where
  pending : t.pending = s.pending
  inv : s.Inv → t.Inv
  regs : m.testBit 0 = false → t.regs = s.regs
  live : m.testBit 1 = false → t.live = s.live
  mem : m.testBit 2 = false → t.mem = s.mem
  store : m.testBit 3 = false → t.store = s.store
  fwd : m.testBit 4 = false → t.fwd = s.fwd
  lane : m.testBit 5 = false → t.lane = s.lane
  rpe : m.testBit 6 = false → t.rpe = s.rpe
  red : m.testBit 7 = false → t.red = s.red
  gg : m.testBit 8 = false → t.gg = s.gg
  sq : m.testBit 9 = false → t.sq = s.sq
  time : m.testBit 10 = false → t.time = s.time
  lsv : m.testBit 11 = false → t.lsv = s.lsv
  mb : m.testBit 12 = false → t.mb = s.mb
  fab : m.testBit 13 = false → t.fab = s.fab
  hbr : m.testBit 14 = false → t.hbr = s.hbr
  dma : m.testBit 15 = false → t.dma = s.dma
  lpw : m.testBit 16 = false → t.lpw = s.lpw
  upd : m.testBit 17 = false → t.upd = s.upd
  tst : m.testBit 18 = false → t.tst = s.tst
  cfg : m.testBit 19 = false → t.cfg = s.cfg
  biv : m.testBit 20 = false → t.biv = s.biv
  sys : m.testBit 21 = false → t.sys = s.sys
  resp : m.testBit 22 = false → t.resp = s.resp
  fltQ : m.testBit 23 = false → t.fltQ = s.fltQ
  recLatch : m.testBit 24 = false → t.recLatch = s.recLatch
  grpT0 : m.testBit 25 = false → t.grpT0 = s.grpT0
  seenP : m.testBit 26 = false → t.seenP = s.seenP
  lpwRawHeld : m.testBit 27 = false → t.lpwRawHeld = s.lpwRawHeld
  d2dLost : m.testBit 28 = false → t.d2dLost = s.d2dLost

namespace Foot

variable {m m' : Nat} {s t u : State}

theorem refl : Foot m s s := by
  constructor <;> intros <;> first | assumption | rfl

theorem sub_bit {i : Nat} (hs : m' ||| m = m) (h : m.testBit i = false) : m'.testBit i = false := by
  rw [← hs, Nat.testBit_or, Bool.or_eq_false_iff] at h
  exact h.1

/-- The step of every proof: after `h`, an operation of footprint `m'` within `m`. -/
theorem step (g : Foot m' t u) (hs : m' ||| m = m) (h : Foot m s t) : Foot m s u where
  pending := g.pending.trans h.pending
  inv := fun i => g.inv (h.inv i)
  regs := fun b => (g.regs (sub_bit hs b)).trans (h.regs b)
  live := fun b => (g.live (sub_bit hs b)).trans (h.live b)
  mem := fun b => (g.mem (sub_bit hs b)).trans (h.mem b)
  store := fun b => (g.store (sub_bit hs b)).trans (h.store b)
  fwd := fun b => (g.fwd (sub_bit hs b)).trans (h.fwd b)
  lane := fun b => (g.lane (sub_bit hs b)).trans (h.lane b)
  rpe := fun b => (g.rpe (sub_bit hs b)).trans (h.rpe b)
  red := fun b => (g.red (sub_bit hs b)).trans (h.red b)
  gg := fun b => (g.gg (sub_bit hs b)).trans (h.gg b)
  sq := fun b => (g.sq (sub_bit hs b)).trans (h.sq b)
  time := fun b => (g.time (sub_bit hs b)).trans (h.time b)
  lsv := fun b => (g.lsv (sub_bit hs b)).trans (h.lsv b)
  mb := fun b => (g.mb (sub_bit hs b)).trans (h.mb b)
  fab := fun b => (g.fab (sub_bit hs b)).trans (h.fab b)
  hbr := fun b => (g.hbr (sub_bit hs b)).trans (h.hbr b)
  dma := fun b => (g.dma (sub_bit hs b)).trans (h.dma b)
  lpw := fun b => (g.lpw (sub_bit hs b)).trans (h.lpw b)
  upd := fun b => (g.upd (sub_bit hs b)).trans (h.upd b)
  tst := fun b => (g.tst (sub_bit hs b)).trans (h.tst b)
  cfg := fun b => (g.cfg (sub_bit hs b)).trans (h.cfg b)
  biv := fun b => (g.biv (sub_bit hs b)).trans (h.biv b)
  sys := fun b => (g.sys (sub_bit hs b)).trans (h.sys b)
  resp := fun b => (g.resp (sub_bit hs b)).trans (h.resp b)
  fltQ := fun b => (g.fltQ (sub_bit hs b)).trans (h.fltQ b)
  recLatch := fun b => (g.recLatch (sub_bit hs b)).trans (h.recLatch b)
  grpT0 := fun b => (g.grpT0 (sub_bit hs b)).trans (h.grpT0 b)
  seenP := fun b => (g.seenP (sub_bit hs b)).trans (h.seenP b)
  lpwRawHeld := fun b => (g.lpwRawHeld (sub_bit hs b)).trans (h.lpwRawHeld b)
  d2dLost := fun b => (g.d2dLost (sub_bit hs b)).trans (h.d2dLost b)

theorem ite {c : Prop} [Decidable c] (h : Foot m s t) (k : Foot m s u) : Foot m s (if c then t else u) := by
  split <;> assumption

theorem bite {c : Bool} (h : Foot m s t) (k : Foot m s u) : Foot m s (cond c t u) := by
  cases c <;> assumption

theorem ite1 {α : Type} {c : Prop} [Decidable c] {p q : State × α} (h : Foot m s p.1) (k : Foot m s q.1) :
    Foot m s (if c then p else q).1 := by
  split <;> assumption

theorem mk1 {α : Type} {a : α} (h : Foot m s t) : Foot m s (t, a).1 := h

theorem foldl {α : Type} {f : State → α → State} (hf : ∀ x a, Foot m x (f x a)) (l : List α) : ∀ {t}, Foot m s t → Foot m s (l.foldl f t) := by
  induction l with
  | nil => intro _ h; exact h
  | cons a l ih => intro _ h; exact ih ((hf _ a).step (Nat.or_self m) h)

theorem foldl1 {α β : Type} {f : State × β → α → State × β} (hf : ∀ x a, Foot m x.1 (f x a).1) (l : List α) :
    ∀ {p : State × β}, Foot m s p.1 → Foot m s (l.foldl f p).1 := by
  induction l with
  | nil => intro _ h; exact h
  | cons a l ih => intro _ h; exact ih ((hf _ a).step (Nat.or_self m) h)

theorem each {α : Type} {l : List α} {f : State → α → State} (hf : ∀ x a, Foot m x (f x a)) (h : Foot m s t) :
    Foot m s (t.each l f) := foldl hf l h

theorem when {c : Bool} {f : State → State} (hf : ∀ x, Foot m x (f x)) (h : Foot m s t) : Foot m s (t.when c f) := by
  cases c
  · exact h
  · exact (hf t).step (Nat.or_self m) h

theorem set_regs {v} (e : t.Inv → Tab.wf regReset v = true) (hm : m.testBit 0 = true) (h : Foot m s t) : Foot m s { t with regs := v } where
  pending := h.pending
  inv := fun i => let x := h.inv i; ⟨e x, x.live, x.mem, x.biv, x.flash, x.fltQ, x.dlQ⟩
  regs := fun b => by rw [hm] at b; cases b
  live := h.live
  mem := h.mem
  store := h.store
  fwd := h.fwd
  lane := h.lane
  rpe := h.rpe
  red := h.red
  gg := h.gg
  sq := h.sq
  time := h.time
  lsv := h.lsv
  mb := h.mb
  fab := h.fab
  hbr := h.hbr
  dma := h.dma
  lpw := h.lpw
  upd := h.upd
  tst := h.tst
  cfg := h.cfg
  biv := h.biv
  sys := h.sys
  resp := h.resp
  fltQ := h.fltQ
  recLatch := h.recLatch
  grpT0 := h.grpT0
  seenP := h.seenP
  lpwRawHeld := h.lpwRawHeld
  d2dLost := h.d2dLost
theorem set_live {v} (e : t.Inv → Tab.wf (fun _ => 0) v = true) (hm : m.testBit 1 = true) (h : Foot m s t) : Foot m s { t with live := v } where
  pending := h.pending
  inv := fun i => let x := h.inv i; ⟨x.regs, e x, x.mem, x.biv, x.flash, x.fltQ, x.dlQ⟩
  regs := h.regs
  live := fun b => by rw [hm] at b; cases b
  mem := h.mem
  store := h.store
  fwd := h.fwd
  lane := h.lane
  rpe := h.rpe
  red := h.red
  gg := h.gg
  sq := h.sq
  time := h.time
  lsv := h.lsv
  mb := h.mb
  fab := h.fab
  hbr := h.hbr
  dma := h.dma
  lpw := h.lpw
  upd := h.upd
  tst := h.tst
  cfg := h.cfg
  biv := h.biv
  sys := h.sys
  resp := h.resp
  fltQ := h.fltQ
  recLatch := h.recLatch
  grpT0 := h.grpT0
  seenP := h.seenP
  lpwRawHeld := h.lpwRawHeld
  d2dLost := h.d2dLost
theorem set_mem {v} (e : t.Inv → Memory.wf v = true) (hm : m.testBit 2 = true) (h : Foot m s t) : Foot m s { t with mem := v } where
  pending := h.pending
  inv := fun i => let x := h.inv i; ⟨x.regs, x.live, e x, x.biv, x.flash, x.fltQ, x.dlQ⟩
  regs := h.regs
  live := h.live
  mem := fun b => by rw [hm] at b; cases b
  store := h.store
  fwd := h.fwd
  lane := h.lane
  rpe := h.rpe
  red := h.red
  gg := h.gg
  sq := h.sq
  time := h.time
  lsv := h.lsv
  mb := h.mb
  fab := h.fab
  hbr := h.hbr
  dma := h.dma
  lpw := h.lpw
  upd := h.upd
  tst := h.tst
  cfg := h.cfg
  biv := h.biv
  sys := h.sys
  resp := h.resp
  fltQ := h.fltQ
  recLatch := h.recLatch
  grpT0 := h.grpT0
  seenP := h.seenP
  lpwRawHeld := h.lpwRawHeld
  d2dLost := h.d2dLost
theorem set_store {v} (hm : m.testBit 3 = true) (h : Foot m s t) : Foot m s { t with store := v } where
  pending := h.pending
  inv := fun i => let x := h.inv i; ⟨x.regs, x.live, x.mem, x.biv, x.flash, x.fltQ, x.dlQ⟩
  regs := h.regs
  live := h.live
  mem := h.mem
  store := fun b => by rw [hm] at b; cases b
  fwd := h.fwd
  lane := h.lane
  rpe := h.rpe
  red := h.red
  gg := h.gg
  sq := h.sq
  time := h.time
  lsv := h.lsv
  mb := h.mb
  fab := h.fab
  hbr := h.hbr
  dma := h.dma
  lpw := h.lpw
  upd := h.upd
  tst := h.tst
  cfg := h.cfg
  biv := h.biv
  sys := h.sys
  resp := h.resp
  fltQ := h.fltQ
  recLatch := h.recLatch
  grpT0 := h.grpT0
  seenP := h.seenP
  lpwRawHeld := h.lpwRawHeld
  d2dLost := h.d2dLost
theorem set_fwd {v} (hm : m.testBit 4 = true) (h : Foot m s t) : Foot m s { t with fwd := v } where
  pending := h.pending
  inv := fun i => let x := h.inv i; ⟨x.regs, x.live, x.mem, x.biv, x.flash, x.fltQ, x.dlQ⟩
  regs := h.regs
  live := h.live
  mem := h.mem
  store := h.store
  fwd := fun b => by rw [hm] at b; cases b
  lane := h.lane
  rpe := h.rpe
  red := h.red
  gg := h.gg
  sq := h.sq
  time := h.time
  lsv := h.lsv
  mb := h.mb
  fab := h.fab
  hbr := h.hbr
  dma := h.dma
  lpw := h.lpw
  upd := h.upd
  tst := h.tst
  cfg := h.cfg
  biv := h.biv
  sys := h.sys
  resp := h.resp
  fltQ := h.fltQ
  recLatch := h.recLatch
  grpT0 := h.grpT0
  seenP := h.seenP
  lpwRawHeld := h.lpwRawHeld
  d2dLost := h.d2dLost
theorem set_lane {v} (hm : m.testBit 5 = true) (h : Foot m s t) : Foot m s { t with lane := v } where
  pending := h.pending
  inv := fun i => let x := h.inv i; ⟨x.regs, x.live, x.mem, x.biv, x.flash, x.fltQ, x.dlQ⟩
  regs := h.regs
  live := h.live
  mem := h.mem
  store := h.store
  fwd := h.fwd
  lane := fun b => by rw [hm] at b; cases b
  rpe := h.rpe
  red := h.red
  gg := h.gg
  sq := h.sq
  time := h.time
  lsv := h.lsv
  mb := h.mb
  fab := h.fab
  hbr := h.hbr
  dma := h.dma
  lpw := h.lpw
  upd := h.upd
  tst := h.tst
  cfg := h.cfg
  biv := h.biv
  sys := h.sys
  resp := h.resp
  fltQ := h.fltQ
  recLatch := h.recLatch
  grpT0 := h.grpT0
  seenP := h.seenP
  lpwRawHeld := h.lpwRawHeld
  d2dLost := h.d2dLost
theorem set_rpe {v} (hm : m.testBit 6 = true) (h : Foot m s t) : Foot m s { t with rpe := v } where
  pending := h.pending
  inv := fun i => let x := h.inv i; ⟨x.regs, x.live, x.mem, x.biv, x.flash, x.fltQ, x.dlQ⟩
  regs := h.regs
  live := h.live
  mem := h.mem
  store := h.store
  fwd := h.fwd
  lane := h.lane
  rpe := fun b => by rw [hm] at b; cases b
  red := h.red
  gg := h.gg
  sq := h.sq
  time := h.time
  lsv := h.lsv
  mb := h.mb
  fab := h.fab
  hbr := h.hbr
  dma := h.dma
  lpw := h.lpw
  upd := h.upd
  tst := h.tst
  cfg := h.cfg
  biv := h.biv
  sys := h.sys
  resp := h.resp
  fltQ := h.fltQ
  recLatch := h.recLatch
  grpT0 := h.grpT0
  seenP := h.seenP
  lpwRawHeld := h.lpwRawHeld
  d2dLost := h.d2dLost
theorem set_red {v} (hm : m.testBit 7 = true) (h : Foot m s t) : Foot m s { t with red := v } where
  pending := h.pending
  inv := fun i => let x := h.inv i; ⟨x.regs, x.live, x.mem, x.biv, x.flash, x.fltQ, x.dlQ⟩
  regs := h.regs
  live := h.live
  mem := h.mem
  store := h.store
  fwd := h.fwd
  lane := h.lane
  rpe := h.rpe
  red := fun b => by rw [hm] at b; cases b
  gg := h.gg
  sq := h.sq
  time := h.time
  lsv := h.lsv
  mb := h.mb
  fab := h.fab
  hbr := h.hbr
  dma := h.dma
  lpw := h.lpw
  upd := h.upd
  tst := h.tst
  cfg := h.cfg
  biv := h.biv
  sys := h.sys
  resp := h.resp
  fltQ := h.fltQ
  recLatch := h.recLatch
  grpT0 := h.grpT0
  seenP := h.seenP
  lpwRawHeld := h.lpwRawHeld
  d2dLost := h.d2dLost
theorem set_gg {v} (hm : m.testBit 8 = true) (h : Foot m s t) : Foot m s { t with gg := v } where
  pending := h.pending
  inv := fun i => let x := h.inv i; ⟨x.regs, x.live, x.mem, x.biv, x.flash, x.fltQ, x.dlQ⟩
  regs := h.regs
  live := h.live
  mem := h.mem
  store := h.store
  fwd := h.fwd
  lane := h.lane
  rpe := h.rpe
  red := h.red
  gg := fun b => by rw [hm] at b; cases b
  sq := h.sq
  time := h.time
  lsv := h.lsv
  mb := h.mb
  fab := h.fab
  hbr := h.hbr
  dma := h.dma
  lpw := h.lpw
  upd := h.upd
  tst := h.tst
  cfg := h.cfg
  biv := h.biv
  sys := h.sys
  resp := h.resp
  fltQ := h.fltQ
  recLatch := h.recLatch
  grpT0 := h.grpT0
  seenP := h.seenP
  lpwRawHeld := h.lpwRawHeld
  d2dLost := h.d2dLost
theorem set_sq {v} (hm : m.testBit 9 = true) (h : Foot m s t) : Foot m s { t with sq := v } where
  pending := h.pending
  inv := fun i => let x := h.inv i; ⟨x.regs, x.live, x.mem, x.biv, x.flash, x.fltQ, x.dlQ⟩
  regs := h.regs
  live := h.live
  mem := h.mem
  store := h.store
  fwd := h.fwd
  lane := h.lane
  rpe := h.rpe
  red := h.red
  gg := h.gg
  sq := fun b => by rw [hm] at b; cases b
  time := h.time
  lsv := h.lsv
  mb := h.mb
  fab := h.fab
  hbr := h.hbr
  dma := h.dma
  lpw := h.lpw
  upd := h.upd
  tst := h.tst
  cfg := h.cfg
  biv := h.biv
  sys := h.sys
  resp := h.resp
  fltQ := h.fltQ
  recLatch := h.recLatch
  grpT0 := h.grpT0
  seenP := h.seenP
  lpwRawHeld := h.lpwRawHeld
  d2dLost := h.d2dLost
theorem set_time {v} (e : t.Inv → v.dlQ.length ≤ 16) (hm : m.testBit 10 = true) (h : Foot m s t) : Foot m s { t with time := v } where
  pending := h.pending
  inv := fun i => let x := h.inv i; ⟨x.regs, x.live, x.mem, x.biv, x.flash, x.fltQ, e x⟩
  regs := h.regs
  live := h.live
  mem := h.mem
  store := h.store
  fwd := h.fwd
  lane := h.lane
  rpe := h.rpe
  red := h.red
  gg := h.gg
  sq := h.sq
  time := fun b => by rw [hm] at b; cases b
  lsv := h.lsv
  mb := h.mb
  fab := h.fab
  hbr := h.hbr
  dma := h.dma
  lpw := h.lpw
  upd := h.upd
  tst := h.tst
  cfg := h.cfg
  biv := h.biv
  sys := h.sys
  resp := h.resp
  fltQ := h.fltQ
  recLatch := h.recLatch
  grpT0 := h.grpT0
  seenP := h.seenP
  lpwRawHeld := h.lpwRawHeld
  d2dLost := h.d2dLost
theorem set_lsv {v} (hm : m.testBit 11 = true) (h : Foot m s t) : Foot m s { t with lsv := v } where
  pending := h.pending
  inv := fun i => let x := h.inv i; ⟨x.regs, x.live, x.mem, x.biv, x.flash, x.fltQ, x.dlQ⟩
  regs := h.regs
  live := h.live
  mem := h.mem
  store := h.store
  fwd := h.fwd
  lane := h.lane
  rpe := h.rpe
  red := h.red
  gg := h.gg
  sq := h.sq
  time := h.time
  lsv := fun b => by rw [hm] at b; cases b
  mb := h.mb
  fab := h.fab
  hbr := h.hbr
  dma := h.dma
  lpw := h.lpw
  upd := h.upd
  tst := h.tst
  cfg := h.cfg
  biv := h.biv
  sys := h.sys
  resp := h.resp
  fltQ := h.fltQ
  recLatch := h.recLatch
  grpT0 := h.grpT0
  seenP := h.seenP
  lpwRawHeld := h.lpwRawHeld
  d2dLost := h.d2dLost
theorem set_mb {v} (hm : m.testBit 12 = true) (h : Foot m s t) : Foot m s { t with mb := v } where
  pending := h.pending
  inv := fun i => let x := h.inv i; ⟨x.regs, x.live, x.mem, x.biv, x.flash, x.fltQ, x.dlQ⟩
  regs := h.regs
  live := h.live
  mem := h.mem
  store := h.store
  fwd := h.fwd
  lane := h.lane
  rpe := h.rpe
  red := h.red
  gg := h.gg
  sq := h.sq
  time := h.time
  lsv := h.lsv
  mb := fun b => by rw [hm] at b; cases b
  fab := h.fab
  hbr := h.hbr
  dma := h.dma
  lpw := h.lpw
  upd := h.upd
  tst := h.tst
  cfg := h.cfg
  biv := h.biv
  sys := h.sys
  resp := h.resp
  fltQ := h.fltQ
  recLatch := h.recLatch
  grpT0 := h.grpT0
  seenP := h.seenP
  lpwRawHeld := h.lpwRawHeld
  d2dLost := h.d2dLost
theorem set_fab {v} (hm : m.testBit 13 = true) (h : Foot m s t) : Foot m s { t with fab := v } where
  pending := h.pending
  inv := fun i => let x := h.inv i; ⟨x.regs, x.live, x.mem, x.biv, x.flash, x.fltQ, x.dlQ⟩
  regs := h.regs
  live := h.live
  mem := h.mem
  store := h.store
  fwd := h.fwd
  lane := h.lane
  rpe := h.rpe
  red := h.red
  gg := h.gg
  sq := h.sq
  time := h.time
  lsv := h.lsv
  mb := h.mb
  fab := fun b => by rw [hm] at b; cases b
  hbr := h.hbr
  dma := h.dma
  lpw := h.lpw
  upd := h.upd
  tst := h.tst
  cfg := h.cfg
  biv := h.biv
  sys := h.sys
  resp := h.resp
  fltQ := h.fltQ
  recLatch := h.recLatch
  grpT0 := h.grpT0
  seenP := h.seenP
  lpwRawHeld := h.lpwRawHeld
  d2dLost := h.d2dLost
theorem set_hbr {v} (hm : m.testBit 14 = true) (h : Foot m s t) : Foot m s { t with hbr := v } where
  pending := h.pending
  inv := fun i => let x := h.inv i; ⟨x.regs, x.live, x.mem, x.biv, x.flash, x.fltQ, x.dlQ⟩
  regs := h.regs
  live := h.live
  mem := h.mem
  store := h.store
  fwd := h.fwd
  lane := h.lane
  rpe := h.rpe
  red := h.red
  gg := h.gg
  sq := h.sq
  time := h.time
  lsv := h.lsv
  mb := h.mb
  fab := h.fab
  hbr := fun b => by rw [hm] at b; cases b
  dma := h.dma
  lpw := h.lpw
  upd := h.upd
  tst := h.tst
  cfg := h.cfg
  biv := h.biv
  sys := h.sys
  resp := h.resp
  fltQ := h.fltQ
  recLatch := h.recLatch
  grpT0 := h.grpT0
  seenP := h.seenP
  lpwRawHeld := h.lpwRawHeld
  d2dLost := h.d2dLost
theorem set_dma {v} (hm : m.testBit 15 = true) (h : Foot m s t) : Foot m s { t with dma := v } where
  pending := h.pending
  inv := fun i => let x := h.inv i; ⟨x.regs, x.live, x.mem, x.biv, x.flash, x.fltQ, x.dlQ⟩
  regs := h.regs
  live := h.live
  mem := h.mem
  store := h.store
  fwd := h.fwd
  lane := h.lane
  rpe := h.rpe
  red := h.red
  gg := h.gg
  sq := h.sq
  time := h.time
  lsv := h.lsv
  mb := h.mb
  fab := h.fab
  hbr := h.hbr
  dma := fun b => by rw [hm] at b; cases b
  lpw := h.lpw
  upd := h.upd
  tst := h.tst
  cfg := h.cfg
  biv := h.biv
  sys := h.sys
  resp := h.resp
  fltQ := h.fltQ
  recLatch := h.recLatch
  grpT0 := h.grpT0
  seenP := h.seenP
  lpwRawHeld := h.lpwRawHeld
  d2dLost := h.d2dLost
theorem set_lpw {v} (hm : m.testBit 16 = true) (h : Foot m s t) : Foot m s { t with lpw := v } where
  pending := h.pending
  inv := fun i => let x := h.inv i; ⟨x.regs, x.live, x.mem, x.biv, x.flash, x.fltQ, x.dlQ⟩
  regs := h.regs
  live := h.live
  mem := h.mem
  store := h.store
  fwd := h.fwd
  lane := h.lane
  rpe := h.rpe
  red := h.red
  gg := h.gg
  sq := h.sq
  time := h.time
  lsv := h.lsv
  mb := h.mb
  fab := h.fab
  hbr := h.hbr
  dma := h.dma
  lpw := fun b => by rw [hm] at b; cases b
  upd := h.upd
  tst := h.tst
  cfg := h.cfg
  biv := h.biv
  sys := h.sys
  resp := h.resp
  fltQ := h.fltQ
  recLatch := h.recLatch
  grpT0 := h.grpT0
  seenP := h.seenP
  lpwRawHeld := h.lpwRawHeld
  d2dLost := h.d2dLost
theorem set_upd {v} (e : t.Inv → Tab.wf flashDefault v.flash = true) (hm : m.testBit 17 = true) (h : Foot m s t) : Foot m s { t with upd := v } where
  pending := h.pending
  inv := fun i => let x := h.inv i; ⟨x.regs, x.live, x.mem, x.biv, e x, x.fltQ, x.dlQ⟩
  regs := h.regs
  live := h.live
  mem := h.mem
  store := h.store
  fwd := h.fwd
  lane := h.lane
  rpe := h.rpe
  red := h.red
  gg := h.gg
  sq := h.sq
  time := h.time
  lsv := h.lsv
  mb := h.mb
  fab := h.fab
  hbr := h.hbr
  dma := h.dma
  lpw := h.lpw
  upd := fun b => by rw [hm] at b; cases b
  tst := h.tst
  cfg := h.cfg
  biv := h.biv
  sys := h.sys
  resp := h.resp
  fltQ := h.fltQ
  recLatch := h.recLatch
  grpT0 := h.grpT0
  seenP := h.seenP
  lpwRawHeld := h.lpwRawHeld
  d2dLost := h.d2dLost
theorem set_tst {v} (hm : m.testBit 18 = true) (h : Foot m s t) : Foot m s { t with tst := v } where
  pending := h.pending
  inv := fun i => let x := h.inv i; ⟨x.regs, x.live, x.mem, x.biv, x.flash, x.fltQ, x.dlQ⟩
  regs := h.regs
  live := h.live
  mem := h.mem
  store := h.store
  fwd := h.fwd
  lane := h.lane
  rpe := h.rpe
  red := h.red
  gg := h.gg
  sq := h.sq
  time := h.time
  lsv := h.lsv
  mb := h.mb
  fab := h.fab
  hbr := h.hbr
  dma := h.dma
  lpw := h.lpw
  upd := h.upd
  tst := fun b => by rw [hm] at b; cases b
  cfg := h.cfg
  biv := h.biv
  sys := h.sys
  resp := h.resp
  fltQ := h.fltQ
  recLatch := h.recLatch
  grpT0 := h.grpT0
  seenP := h.seenP
  lpwRawHeld := h.lpwRawHeld
  d2dLost := h.d2dLost
theorem set_cfg {v} (hm : m.testBit 19 = true) (h : Foot m s t) : Foot m s { t with cfg := v } where
  pending := h.pending
  inv := fun i => let x := h.inv i; ⟨x.regs, x.live, x.mem, x.biv, x.flash, x.fltQ, x.dlQ⟩
  regs := h.regs
  live := h.live
  mem := h.mem
  store := h.store
  fwd := h.fwd
  lane := h.lane
  rpe := h.rpe
  red := h.red
  gg := h.gg
  sq := h.sq
  time := h.time
  lsv := h.lsv
  mb := h.mb
  fab := h.fab
  hbr := h.hbr
  dma := h.dma
  lpw := h.lpw
  upd := h.upd
  tst := h.tst
  cfg := fun b => by rw [hm] at b; cases b
  biv := h.biv
  sys := h.sys
  resp := h.resp
  fltQ := h.fltQ
  recLatch := h.recLatch
  grpT0 := h.grpT0
  seenP := h.seenP
  lpwRawHeld := h.lpwRawHeld
  d2dLost := h.d2dLost
theorem set_biv {v} (e : t.Inv → Tab.wf bivDefault v.mem = true) (hm : m.testBit 20 = true) (h : Foot m s t) : Foot m s { t with biv := v } where
  pending := h.pending
  inv := fun i => let x := h.inv i; ⟨x.regs, x.live, x.mem, e x, x.flash, x.fltQ, x.dlQ⟩
  regs := h.regs
  live := h.live
  mem := h.mem
  store := h.store
  fwd := h.fwd
  lane := h.lane
  rpe := h.rpe
  red := h.red
  gg := h.gg
  sq := h.sq
  time := h.time
  lsv := h.lsv
  mb := h.mb
  fab := h.fab
  hbr := h.hbr
  dma := h.dma
  lpw := h.lpw
  upd := h.upd
  tst := h.tst
  cfg := h.cfg
  biv := fun b => by rw [hm] at b; cases b
  sys := h.sys
  resp := h.resp
  fltQ := h.fltQ
  recLatch := h.recLatch
  grpT0 := h.grpT0
  seenP := h.seenP
  lpwRawHeld := h.lpwRawHeld
  d2dLost := h.d2dLost
theorem set_sys {v} (hm : m.testBit 21 = true) (h : Foot m s t) : Foot m s { t with sys := v } where
  pending := h.pending
  inv := fun i => let x := h.inv i; ⟨x.regs, x.live, x.mem, x.biv, x.flash, x.fltQ, x.dlQ⟩
  regs := h.regs
  live := h.live
  mem := h.mem
  store := h.store
  fwd := h.fwd
  lane := h.lane
  rpe := h.rpe
  red := h.red
  gg := h.gg
  sq := h.sq
  time := h.time
  lsv := h.lsv
  mb := h.mb
  fab := h.fab
  hbr := h.hbr
  dma := h.dma
  lpw := h.lpw
  upd := h.upd
  tst := h.tst
  cfg := h.cfg
  biv := h.biv
  sys := fun b => by rw [hm] at b; cases b
  resp := h.resp
  fltQ := h.fltQ
  recLatch := h.recLatch
  grpT0 := h.grpT0
  seenP := h.seenP
  lpwRawHeld := h.lpwRawHeld
  d2dLost := h.d2dLost
theorem set_resp {v} (hm : m.testBit 22 = true) (h : Foot m s t) : Foot m s { t with resp := v } where
  pending := h.pending
  inv := fun i => let x := h.inv i; ⟨x.regs, x.live, x.mem, x.biv, x.flash, x.fltQ, x.dlQ⟩
  regs := h.regs
  live := h.live
  mem := h.mem
  store := h.store
  fwd := h.fwd
  lane := h.lane
  rpe := h.rpe
  red := h.red
  gg := h.gg
  sq := h.sq
  time := h.time
  lsv := h.lsv
  mb := h.mb
  fab := h.fab
  hbr := h.hbr
  dma := h.dma
  lpw := h.lpw
  upd := h.upd
  tst := h.tst
  cfg := h.cfg
  biv := h.biv
  sys := h.sys
  resp := fun b => by rw [hm] at b; cases b
  fltQ := h.fltQ
  recLatch := h.recLatch
  grpT0 := h.grpT0
  seenP := h.seenP
  lpwRawHeld := h.lpwRawHeld
  d2dLost := h.d2dLost
theorem set_fltQ {v} (e : t.Inv → v.length ≤ 32) (hm : m.testBit 23 = true) (h : Foot m s t) : Foot m s { t with fltQ := v } where
  pending := h.pending
  inv := fun i => let x := h.inv i; ⟨x.regs, x.live, x.mem, x.biv, x.flash, e x, x.dlQ⟩
  regs := h.regs
  live := h.live
  mem := h.mem
  store := h.store
  fwd := h.fwd
  lane := h.lane
  rpe := h.rpe
  red := h.red
  gg := h.gg
  sq := h.sq
  time := h.time
  lsv := h.lsv
  mb := h.mb
  fab := h.fab
  hbr := h.hbr
  dma := h.dma
  lpw := h.lpw
  upd := h.upd
  tst := h.tst
  cfg := h.cfg
  biv := h.biv
  sys := h.sys
  resp := h.resp
  fltQ := fun b => by rw [hm] at b; cases b
  recLatch := h.recLatch
  grpT0 := h.grpT0
  seenP := h.seenP
  lpwRawHeld := h.lpwRawHeld
  d2dLost := h.d2dLost
theorem set_recLatch {v} (hm : m.testBit 24 = true) (h : Foot m s t) : Foot m s { t with recLatch := v } where
  pending := h.pending
  inv := fun i => let x := h.inv i; ⟨x.regs, x.live, x.mem, x.biv, x.flash, x.fltQ, x.dlQ⟩
  regs := h.regs
  live := h.live
  mem := h.mem
  store := h.store
  fwd := h.fwd
  lane := h.lane
  rpe := h.rpe
  red := h.red
  gg := h.gg
  sq := h.sq
  time := h.time
  lsv := h.lsv
  mb := h.mb
  fab := h.fab
  hbr := h.hbr
  dma := h.dma
  lpw := h.lpw
  upd := h.upd
  tst := h.tst
  cfg := h.cfg
  biv := h.biv
  sys := h.sys
  resp := h.resp
  fltQ := h.fltQ
  recLatch := fun b => by rw [hm] at b; cases b
  grpT0 := h.grpT0
  seenP := h.seenP
  lpwRawHeld := h.lpwRawHeld
  d2dLost := h.d2dLost
theorem set_grpT0 {v} (hm : m.testBit 25 = true) (h : Foot m s t) : Foot m s { t with grpT0 := v } where
  pending := h.pending
  inv := fun i => let x := h.inv i; ⟨x.regs, x.live, x.mem, x.biv, x.flash, x.fltQ, x.dlQ⟩
  regs := h.regs
  live := h.live
  mem := h.mem
  store := h.store
  fwd := h.fwd
  lane := h.lane
  rpe := h.rpe
  red := h.red
  gg := h.gg
  sq := h.sq
  time := h.time
  lsv := h.lsv
  mb := h.mb
  fab := h.fab
  hbr := h.hbr
  dma := h.dma
  lpw := h.lpw
  upd := h.upd
  tst := h.tst
  cfg := h.cfg
  biv := h.biv
  sys := h.sys
  resp := h.resp
  fltQ := h.fltQ
  recLatch := h.recLatch
  grpT0 := fun b => by rw [hm] at b; cases b
  seenP := h.seenP
  lpwRawHeld := h.lpwRawHeld
  d2dLost := h.d2dLost
theorem set_seenP {v} (hm : m.testBit 26 = true) (h : Foot m s t) : Foot m s { t with seenP := v } where
  pending := h.pending
  inv := fun i => let x := h.inv i; ⟨x.regs, x.live, x.mem, x.biv, x.flash, x.fltQ, x.dlQ⟩
  regs := h.regs
  live := h.live
  mem := h.mem
  store := h.store
  fwd := h.fwd
  lane := h.lane
  rpe := h.rpe
  red := h.red
  gg := h.gg
  sq := h.sq
  time := h.time
  lsv := h.lsv
  mb := h.mb
  fab := h.fab
  hbr := h.hbr
  dma := h.dma
  lpw := h.lpw
  upd := h.upd
  tst := h.tst
  cfg := h.cfg
  biv := h.biv
  sys := h.sys
  resp := h.resp
  fltQ := h.fltQ
  recLatch := h.recLatch
  grpT0 := h.grpT0
  seenP := fun b => by rw [hm] at b; cases b
  lpwRawHeld := h.lpwRawHeld
  d2dLost := h.d2dLost
theorem set_lpwRawHeld {v} (hm : m.testBit 27 = true) (h : Foot m s t) : Foot m s { t with lpwRawHeld := v } where
  pending := h.pending
  inv := fun i => let x := h.inv i; ⟨x.regs, x.live, x.mem, x.biv, x.flash, x.fltQ, x.dlQ⟩
  regs := h.regs
  live := h.live
  mem := h.mem
  store := h.store
  fwd := h.fwd
  lane := h.lane
  rpe := h.rpe
  red := h.red
  gg := h.gg
  sq := h.sq
  time := h.time
  lsv := h.lsv
  mb := h.mb
  fab := h.fab
  hbr := h.hbr
  dma := h.dma
  lpw := h.lpw
  upd := h.upd
  tst := h.tst
  cfg := h.cfg
  biv := h.biv
  sys := h.sys
  resp := h.resp
  fltQ := h.fltQ
  recLatch := h.recLatch
  grpT0 := h.grpT0
  seenP := h.seenP
  lpwRawHeld := fun b => by rw [hm] at b; cases b
  d2dLost := h.d2dLost
theorem set_d2dLost {v} (hm : m.testBit 28 = true) (h : Foot m s t) : Foot m s { t with d2dLost := v } where
  pending := h.pending
  inv := fun i => let x := h.inv i; ⟨x.regs, x.live, x.mem, x.biv, x.flash, x.fltQ, x.dlQ⟩
  regs := h.regs
  live := h.live
  mem := h.mem
  store := h.store
  fwd := h.fwd
  lane := h.lane
  rpe := h.rpe
  red := h.red
  gg := h.gg
  sq := h.sq
  time := h.time
  lsv := h.lsv
  mb := h.mb
  fab := h.fab
  hbr := h.hbr
  dma := h.dma
  lpw := h.lpw
  upd := h.upd
  tst := h.tst
  cfg := h.cfg
  biv := h.biv
  sys := h.sys
  resp := h.resp
  fltQ := h.fltQ
  recLatch := h.recLatch
  grpT0 := h.grpT0
  seenP := h.seenP
  lpwRawHeld := h.lpwRawHeld
  d2dLost := fun b => by rw [hm] at b; cases b

end Foot

/-- The footprint of a meaning: that of the state it answers. -/
def FootO (m : Nat) (s : State) (o : Out) : Prop := ∀ t, o = .next t → Foot m s t

theorem FootO.ite {m : Nat} {s : State} {c : Prop} [Decidable c] {a b : Out} (h : FootO m s a) (k : FootO m s b) :
    FootO m s (if c then a else b) := by
  split <;> assumption

theorem FootO.next {m : Nat} {s t : State} (h : Foot m s t) : FootO m s (.next t) := by
  intro u e
  cases e
  exact h

end Sys2Proof.Machine
end

