-- ==== Sys2Proof/Laws/FootOps.lean ====
section
/-! SUPPORT. The footprints of the operations and meanings of Sys2Proof.Machine.Ops. -/
namespace Sys2Proof.Machine

theorem State.wr_foot (s : State) (o : Nat) (v : Word) : Foot 1 s (State.wr s o v) := by
  unfold State.wr
  refine Foot.set_regs (fun i => Tab.wf_set _ _ i.regs) rfl ?_
  exact Foot.refl

theorem State.put_foot (s : State) (f : Fld) (v : Nat) : Foot 1 s (State.put s f v) := by
  unfold State.put
  refine Foot.step (State.wr_foot ..) rfl ?_
  exact Foot.refl

theorem State.setBit_foot (s : State) (f : Fld) (i : Nat) : Foot 1 s (State.setBit s f i) := by
  unfold State.setBit
  refine Foot.step (State.put_foot ..) rfl ?_
  exact Foot.refl

theorem State.clrBit_foot (s : State) (f : Fld) (i : Nat) : Foot 1 s (State.clrBit s f i) := by
  unfold State.clrBit
  refine Foot.step (State.put_foot ..) rfl ?_
  exact Foot.refl

theorem State.satAdd_foot (s : State) (f : Fld) (n : Nat) : Foot 1 s (State.satAdd s f n) := by
  unfold State.satAdd
  refine Foot.step (State.put_foot ..) rfl ?_
  exact Foot.refl

theorem State.wrapAdd_foot (s : State) (f : Fld) (n : Nat) : Foot 1 s (State.wrapAdd s f n) := by
  unfold State.wrapAdd
  refine Foot.step (State.put_foot ..) rfl ?_
  exact Foot.refl

theorem State.wr64_foot (s : State) (o : Nat) (v : Nat) : Foot 1 s (State.wr64 s o v) := by
  unfold State.wr64
  refine Foot.step (State.wr_foot ..) rfl ?_
  refine Foot.step (State.wr_foot ..) rfl ?_
  exact Foot.refl

theorem State.clr_foot (s : State) (o : Nat) : Foot 1 s (State.clr s o) := by
  unfold State.clr
  refine Foot.step (State.wr_foot ..) rfl ?_
  exact Foot.refl

theorem State.clr64_foot (s : State) (o : Nat) : Foot 1 s (State.clr64 s o) := by
  unfold State.clr64
  refine Foot.step (State.clr_foot ..) rfl ?_
  refine Foot.step (State.clr_foot ..) rfl ?_
  exact Foot.refl

theorem State.copy_foot (s : State) (src dst : Nat) : Foot 1 s (State.copy s src dst) := by
  unfold State.copy
  refine Foot.step (State.wr_foot ..) rfl ?_
  exact Foot.refl

theorem State.setCnt_foot (s : State) (o v : Nat) : Foot 2 s (State.setCnt s o v) := by
  unfold State.setCnt
  refine Foot.set_live (fun i => Tab.wf_set _ _ i.live) rfl ?_
  exact Foot.refl

theorem State.count_foot (s : State) (o n : Nat) : Foot 3 s (State.count s o n) := by
  unfold State.count
  extract_lets y0_0 y0_1 y0_2 y0_3
  clear_value y0_0
  clear_value y0_1
  clear_value y0_2
  have h_y0_3 : Foot 3 s y0_3 := by
    unfold y0_3
    refine Foot.step (State.setCnt_foot ..) rfl ?_
    exact Foot.refl
  clear_value y0_3
  refine Foot.ite ?_ ?_
  · split
    · extract_lets y2_0
      have h_y2_0 : Foot 3 s y2_0 := by
        unfold y2_0
        refine Foot.step (State.put_foot ..) rfl ?_
        exact h_y0_3
      clear_value y2_0
      refine Foot.ite ?_ ?_
      · refine Foot.step (State.put_foot ..) rfl ?_
        exact h_y2_0
      · exact h_y2_0
    · exact h_y0_3
  · exact h_y0_3

theorem State.bump_foot (s : State) (o : Nat) : Foot 3 s (State.bump s o) := by
  unfold State.bump
  refine Foot.step (State.count_foot ..) rfl ?_
  exact Foot.refl

theorem State.snap_foot (s : State) (g : Nat) (clear : Bool) : Foot 3 s (State.snap s g clear) := by
  unfold State.snap
  refine Foot.each ?_ ?_
  · intro a0_0 a0_1
    extract_lets y1_0
    have h_y1_0 : Foot 3 a0_0 y1_0 := by
      unfold y1_0
      refine Foot.step (State.wr64_foot ..) rfl ?_
      exact Foot.refl
    clear_value y1_0
    refine Foot.ite ?_ ?_
    · refine Foot.step (State.setCnt_foot ..) rfl ?_
      exact h_y1_0
    · exact h_y1_0
  · exact Foot.refl

theorem State.cntReset_foot (s : State) (g : Nat) : Foot 3 s (State.cntReset s g) := by
  unfold State.cntReset
  refine Foot.each ?_ ?_
  · intro a0_0 a0_1
    refine Foot.step (State.setCnt_foot ..) rfl ?_
    refine Foot.step (State.clr64_foot ..) rfl ?_
    exact Foot.refl
  · exact Foot.refl

theorem State.rcUse_foot (s : State) : Foot 2097152 s (State.rcUse s) := by
  unfold State.rcUse
  refine Foot.set_sys rfl ?_
  exact Foot.refl

theorem State.faultMsg_foot (s : State) (m : FaultMsg) : Foot 8388611 s (State.faultMsg s m) := by
  unfold State.faultMsg
  refine Foot.ite Foot.refl ?_
  by_cases hl : s.fltQ.length < 32
  · rw [if_pos hl]
    exact Foot.set_fltQ (fun _ => by rw [fltInsert_length]; omega) rfl Foot.refl
  · rw [if_neg hl]
    refine Foot.step (State.bump_foot ..) rfl ?_
    refine Foot.step (State.put_foot ..) rfl ?_
    exact Foot.set_fltQ (fun _ => by rw [List.length_take]; omega) rfl Foot.refl

theorem State.fault_foot (s : State) (src kind addr : Nat) : Foot 8388611 s (State.fault s src kind addr) := by
  unfold State.fault
  refine Foot.step (State.faultMsg_foot ..) rfl ?_
  exact Foot.refl

theorem State.answer_foot (s : State) (req status data : Nat) : Foot 4194304 s (State.answer s req status data) := by
  unfold State.answer
  refine Foot.set_resp rfl ?_
  exact Foot.refl

theorem State.cmd_foot {m : Nat} {s0 s : State} {off : Nat} {f : State → State} (hm : 8388611 ||| m = m) (hf : ∀ x, Foot m x (f x))
    (h : Foot m s0 s) : Foot m s0 (State.cmd s off f) := by
  unfold State.cmd
  exact Foot.ite h (Foot.ite (Foot.step (State.fault_foot ..) hm h) (Foot.step (hf s) (Nat.or_self m) h))

theorem State.readCmd_foot {m : Nat} {s0 s : State} {off req : Nat} {f : State → State × Nat} (hm : 12582915 ||| m = m)
    (hf : ∀ x, Foot m x (f x).1) (h : Foot m s0 s) : Foot m s0 (State.readCmd s off req f) := by
  have h4 : 4194304 ||| m = m := by rw [← hm, ← Nat.or_assoc]; rfl
  have h8 : 8388611 ||| m = m := by rw [← hm, ← Nat.or_assoc]; rfl
  unfold State.readCmd
  refine Foot.ite h (Foot.ite (Foot.step (State.answer_foot ..) h4 (Foot.step (State.fault_foot ..) h8 h)) ?_)
  exact Foot.step (State.answer_foot ..) h4 (Foot.step (hf s) (Nat.or_self m) h)

theorem State.ackCmd_foot {m : Nat} {s0 s : State} {off req : Nat} {f : State → State × Nat} (hm : 12582915 ||| m = m)
    (hf : ∀ x, Foot m x (f x).1) (h : Foot m s0 s) : Foot m s0 (State.ackCmd s off req f) := by
  have h4 : 4194304 ||| m = m := by rw [← hm, ← Nat.or_assoc]; rfl
  have h8 : 8388611 ||| m = m := by rw [← hm, ← Nat.or_assoc]; rfl
  unfold State.ackCmd
  refine Foot.ite h (Foot.ite (Foot.step (State.answer_foot ..) h4 (Foot.step (State.fault_foot ..) h8 h)) ?_)
  exact Foot.step (State.answer_foot ..) h4 (Foot.step (hf s) (Nat.or_self m) h)

theorem State.live__foot {m : Nat} {s0 s : State} {f : State → State} (_hm : 0 ||| m = m) (hf : ∀ x, Foot m x (f x))
    (h : Foot m s0 s) : Foot m s0 (State.live_ s f) := by
  unfold State.live_
  exact Foot.ite h (Foot.step (hf s) (Nat.or_self m) h)

theorem State.inUnit_foot {m : Nat} {s0 s : State} {u : Nat} {f : State → State} (_hm : 0 ||| m = m) (hf : ∀ x, Foot m x (f x))
    (h : Foot m s0 s) : Foot m s0 (State.inUnit s u f) := by
  unfold State.inUnit
  exact Foot.ite h (Foot.step (hf s) (Nat.or_self m) h)

theorem State.elapse_foot (s : State) (n : Nat) : Foot 2097152 s (State.elapse s n) := by
  unfold State.elapse
  extract_lets y0_0 y0_1
  clear_value y0_0
  clear_value y0_1
  refine Foot.set_sys rfl ?_
  exact Foot.refl

theorem State.modLn_foot (s : State) (l : Nat) (f : LaneSt → LaneSt) : Foot 32 s (State.modLn s l f) := by
  unfold State.modLn
  refine Foot.set_lane rfl ?_
  exact Foot.refl

theorem State.startWake_foot (s : State) : Foot 2097153 s (State.startWake s) := by
  unfold State.startWake
  extract_lets y0_0 y0_1
  have h_y0_0 : Foot 2097153 s y0_0 := by
    unfold y0_0
    refine Foot.step (State.put_foot ..) rfl ?_
    refine Foot.step (State.rcUse_foot ..) rfl ?_
    exact Foot.refl
  clear_value y0_0
  clear_value y0_1
  refine Foot.set_sys rfl ?_
  exact h_y0_0

theorem State.watchWake_foot (s : State) (src : Nat) : Foot 2097153 s (State.watchWake s src) := by
  unfold State.watchWake
  refine Foot.ite ?_ ?_
  · exact Foot.refl
  · extract_lets y0_0 y0_1
    have h_y0_0 : Foot 2097153 s y0_0 := by
      unfold y0_0
      refine Foot.step (State.wr_foot ..) rfl ?_
      exact Foot.refl
    clear_value y0_0
    clear_value y0_1
    refine Foot.ite ?_ ?_
    · refine Foot.set_sys rfl ?_
      exact h_y0_0
    · refine Foot.ite ?_ ?_
      · refine Foot.ite ?_ ?_
        · refine Foot.step (State.startWake_foot ..) rfl ?_
          exact h_y0_0
        · exact h_y0_0
      · exact Foot.refl

theorem State.wakeBy_foot (s : State) (src : Nat) : Foot 2097153 s (State.wakeBy s src) := by
  unfold State.wakeBy
  refine Foot.ite ?_ ?_
  · refine Foot.step (State.watchWake_foot ..) rfl ?_
    exact Foot.refl
  · exact Foot.refl

theorem State.edgeIrq_foot (s : State) (blk n : Nat) : Foot 1 s (State.edgeIrq s blk n) := by
  unfold State.edgeIrq
  refine Foot.ite ?_ ?_
  · exact Foot.refl
  · refine Foot.each ?_ ?_
    · intro a0_0 a0_1
      refine Foot.step (State.setBit_foot ..) rfl ?_
      exact Foot.refl
    · exact Foot.refl

end Sys2Proof.Machine
end

