-- ==== Sys2Proof/Laws/FootDeadline.lean ====
section
/-! SUPPORT. The footprints of the operations and meanings of Sys2Proof.Machine.Deadline. -/
namespace Sys2Proof.Machine

theorem missInsert_length (m : Miss) (q : List Miss) : (missInsert m q).length = q.length + 1 := by
  induction q with
  | nil => rfl
  | cons x r ih =>
    unfold missInsert
    split
    · rfl
    · rw [List.length_cons, List.length_cons, ih]
theorem State.miss_foot (s : State) (kind src index deadline : Nat) : Foot 1027 s (State.miss s kind src index deadline) := by
  unfold State.miss
  refine Foot.ite Foot.refl ?_
  by_cases hl : 16 ≤ s.time.dlQ.length
  · rw [if_pos hl]
    exact Foot.step (State.put_foot ..) rfl (Foot.step (State.bump_foot ..) rfl Foot.refl)
  · rw [if_neg hl]
    exact Foot.set_time (fun _ => by simp only [missInsert_length]; omega) rfl Foot.refl

theorem State.logMiss_foot (s : State) (m : Miss) : Foot 3 s (State.logMiss s m) := by
  unfold State.logMiss
  extract_lets y0_0 y0_1
  clear_value y0_0
  have h_y0_1 : Foot 3 s y0_1 := by
    unfold y0_1
    refine Foot.step (State.wr_foot ..) rfl ?_
    refine Foot.step (State.wr_foot ..) rfl ?_
    exact Foot.refl
  clear_value y0_1
  refine Foot.step (State.put_foot ..) rfl ?_
  refine Foot.step (State.bump_foot ..) rfl ?_
  refine Foot.step (State.wrapAdd_foot ..) rfl ?_
  refine Foot.step (State.wr64_foot ..) rfl ?_
  exact h_y0_1

theorem execDeadlineLog_foot (s : State) : FootO 1027 s (execDeadlineLog s) := by
  unfold execDeadlineLog
  refine FootO.ite (FootO.next Foot.refl) (FootO.next ?_)
  cases h : s.time.dlQ with
  | nil => exact Foot.refl
  | cons m r =>
    refine Foot.step (State.logMiss_foot ..) rfl (Foot.set_time (fun i => ?_) rfl Foot.refl)
    have := i.dlQ
    rw [h] at this
    exact Nat.le_trans (Nat.le_succ _) this

theorem State.dlClear_foot (s : State) : Foot 1 s (State.dlClear s) := by
  unfold State.dlClear
  refine Foot.step (State.put_foot ..) rfl ?_
  refine Foot.each ?_ ?_
  · intro a0_0 a0_1
    refine Foot.step (State.clr64_foot ..) rfl ?_
    refine Foot.step (State.clr_foot ..) rfl ?_
    refine Foot.step (State.clr_foot ..) rfl ?_
    exact Foot.refl
  · exact Foot.refl

theorem execDlClear_foot (s : State) : FootO 8388611 s (execDlClear s) := by
  unfold execDlClear
  refine FootO.next ?_
  refine State.cmd_foot rfl ?_ ?_
  · intro a0_0
    refine Foot.step (State.dlClear_foot ..) rfl ?_
    exact Foot.refl
  · exact Foot.refl

end Sys2Proof.Machine
end

