-- ==== Sys2Proof/Laws/FootStore.lean ====
section
/-! SUPPORT. The footprints of the operations and meanings of Sys2Proof.Machine.Store. -/
namespace Sys2Proof.Machine

theorem State.poke_foot (s : State) (off n v : Nat) : Foot 4 s (State.poke s off n v) := by
  unfold State.poke
  refine Foot.set_mem (fun i => Tab.wf_setList _ _ i.mem) rfl ?_
  exact Foot.refl

theorem State.zeroBanks_foot (s : State) (mask : Nat) : Foot 12 s (State.zeroBanks s mask) := by
  unfold State.zeroBanks
  refine Foot.step (t := s) (m' := 12) ⟨rfl, fun i => ⟨i.regs, i.live, Tab.wf_filter _ i.mem, i.biv, i.flash, i.fltQ, i.dlQ⟩, fun _ => rfl, fun _ => rfl, nofun, nofun, fun _ => rfl, fun _ => rfl, fun _ => rfl, fun _ => rfl, fun _ => rfl, fun _ => rfl, fun _ => rfl, fun _ => rfl, fun _ => rfl, fun _ => rfl, fun _ => rfl, fun _ => rfl, fun _ => rfl, fun _ => rfl, fun _ => rfl, fun _ => rfl, fun _ => rfl, fun _ => rfl, fun _ => rfl, fun _ => rfl, fun _ => rfl, fun _ => rfl, fun _ => rfl, fun _ => rfl, fun _ => rfl⟩ rfl ?_
  exact Foot.refl

theorem State.setMark_foot (s : State) (w : Nat) (m : Option Mark) : Foot 8 s (State.setMark s w m) := by
  unfold State.setMark
  refine Foot.set_store rfl ?_
  exact Foot.refl

theorem State.upset_foot (s : State) (us : List Upset) : Foot 8 s (State.upset s us) := by
  unfold State.upset
  refine Foot.each ?_ ?_
  · intro a0_0 a0_1
    refine Foot.ite ?_ ?_
    · refine Foot.step (State.setMark_foot ..) rfl ?_
      exact Foot.refl
    · exact Foot.refl
  · exact Foot.refl

theorem State.eccLog_foot (s : State) (w : Nat) (m : Mark) (req : Nat) : Foot 1 s (State.eccLog s w m req) := by
  unfold State.eccLog
  refine Foot.ite ?_ ?_
  · refine Foot.step (State.put_foot ..) rfl ?_
    refine Foot.step (State.put_foot ..) rfl ?_
    refine Foot.step (State.put_foot ..) rfl ?_
    refine Foot.step (State.put_foot ..) rfl ?_
    refine Foot.step (State.put_foot ..) rfl ?_
    exact Foot.refl
  · exact Foot.refl

theorem State.eccCe_foot (s : State) (w : Nat) (m : Mark) (req : Nat) : Foot 8388619 s (State.eccCe s w m req) := by
  unfold State.eccCe
  refine Foot.step (State.fault_foot ..) rfl ?_
  refine Foot.step (State.eccLog_foot ..) rfl ?_
  refine Foot.step (State.put_foot ..) rfl ?_
  refine Foot.step (State.bump_foot ..) rfl ?_
  refine Foot.step (State.setMark_foot ..) rfl ?_
  exact Foot.refl

theorem State.eccUe_foot (s : State) (w : Nat) (m : Mark) (req : Nat) : Foot 8388611 s (State.eccUe s w m req) := by
  unfold State.eccUe
  refine Foot.step (State.fault_foot ..) rfl ?_
  refine Foot.step (State.eccLog_foot ..) rfl ?_
  refine Foot.step (State.put_foot ..) rfl ?_
  refine Foot.step (State.bump_foot ..) rfl ?_
  exact Foot.refl

theorem State.eccRead_foot (s : State) (w n req : Nat) : Foot 8388619 s (State.eccRead s w n req).1 := by
  unfold State.eccRead
  refine Foot.foldl1 ?_ _ ?_
  · intro a0_0 a0_1
    split
    · exact Foot.refl
    · refine Foot.ite1 ?_ ?_
      · refine Foot.mk1 ?_
        refine Foot.step (State.eccUe_foot ..) rfl ?_
        exact Foot.refl
      · refine Foot.mk1 ?_
        refine Foot.step (State.eccCe_foot ..) rfl ?_
        exact Foot.refl
  · refine Foot.mk1 ?_
    exact Foot.refl

theorem State.eccWritten_foot (s : State) (w n : Nat) : Foot 8 s (State.eccWritten s w n) := by
  unfold State.eccWritten
  refine Foot.each ?_ ?_
  · intro a0_0 a0_1
    refine Foot.ite ?_ ?_
    · refine Foot.step (State.setMark_foot ..) rfl ?_
      exact Foot.refl
    · exact Foot.refl
  · exact Foot.refl

theorem State.setLr_foot (s : State) (c : Nat) (g : Option Nat) : Foot 8 s (State.setLr s c g) := by
  unfold State.setLr
  refine Foot.set_store rfl ?_
  exact Foot.refl

theorem State.lrWritten_foot (s : State) (req off n : Nat) : Foot 8 s (State.lrWritten s req off n) := by
  unfold State.lrWritten
  refine Foot.each ?_ ?_
  · intro a0_0 a0_1
    split
    · refine Foot.ite ?_ ?_
      · refine Foot.step (State.setLr_foot ..) rfl ?_
        exact Foot.refl
      · exact Foot.refl
    · exact Foot.refl
  · exact Foot.refl

theorem State.setBank_foot (s : State) (b : Nat) (k : BankSt) : Foot 8 s (State.setBank s b k) := by
  unfold State.setBank
  refine Foot.set_store rfl ?_
  exact Foot.refl

theorem State.grant_foot (s : State) (b r : Nat) : Foot 8 s (State.grant s b r) := by
  unfold State.grant
  extract_lets y0_0
  clear_value y0_0
  refine Foot.step (State.setBank_foot ..) rfl ?_
  exact Foot.refl

theorem State.refuse_foot (s : State) (req status : Nat) : Foot 4194304 s (State.refuse s req status) := by
  unfold State.refuse
  refine Foot.step (State.answer_foot ..) rfl ?_
  exact Foot.refl

theorem State.writeWords_foot (s : State) (req off : Nat) (ws : List DWord) : Foot 12 s (State.writeWords s req off ws) := by
  unfold State.writeWords
  extract_lets y0_0
  have h_y0_0 : Foot 12 s y0_0 := by
    unfold y0_0
    refine Foot.set_mem (fun i => Tab.wf_setList _ _ i.mem) rfl ?_
    exact Foot.refl
  clear_value y0_0
  refine Foot.step (State.lrWritten_foot ..) rfl ?_
  refine Foot.step (State.eccWritten_foot ..) rfl ?_
  exact h_y0_0

theorem State.burstBeats_foot (s : State) (req start off left : Nat) (ws : List DWord) : Foot 4194319 s (State.burstBeats s req start off left ws) := by
  unfold State.burstBeats
  extract_lets y0_0 y0_1 y0_2
  clear_value y0_0
  have h_y0_1 : Foot 4194319 s y0_1 := by
    unfold y0_1
    refine Foot.step (State.count_foot ..) rfl ?_
    refine Foot.step (State.writeWords_foot ..) rfl ?_
    exact Foot.refl
  clear_value y0_1
  clear_value y0_2
  refine Foot.ite ?_ ?_
  · refine Foot.step (State.answer_foot ..) rfl ?_
    refine Foot.step (State.setBank_foot ..) rfl ?_
    exact h_y0_1
  · refine Foot.step (State.setBank_foot ..) rfl ?_
    exact h_y0_1

theorem State.amoDo_foot (s : State) (req off : Nat) (op : AmoOp) (size : Fin 4) (a b : DWord) : Foot 12582927 s (State.amoDo s req off op size a b) := by
  unfold State.amoDo
  extract_lets y0_0 y0_1 y0_2 y0_3 y0_4 y0_5 y0_6 y0_7
  clear_value y0_0
  have h_y0_1 : Foot 12582927 s y0_1.1 := by
    unfold y0_1
    refine Foot.step (State.eccRead_foot ..) rfl ?_
    exact Foot.refl
  clear_value y0_1
  have h_y0_2 : Foot 12582927 s y0_2 := by
    unfold y0_2
    refine Foot.step (State.count_foot ..) rfl ?_
    exact h_y0_1
  clear_value y0_2
  clear_value y0_3
  clear_value y0_4
  clear_value y0_5
  have h_y0_6 : Foot 12582927 s y0_6 := by
    unfold y0_6
    refine Foot.step (State.setLr_foot ..) rfl ?_
    exact h_y0_2
  clear_value y0_6
  clear_value y0_7
  refine Foot.ite ?_ ?_
  · refine Foot.step (State.refuse_foot ..) rfl ?_
    refine Foot.ite ?_ ?_
    · refine Foot.step (State.setLr_foot ..) rfl ?_
      exact h_y0_2
    · exact h_y0_2
  · split
    · refine Foot.step (State.answer_foot ..) rfl ?_
      refine Foot.step (State.setLr_foot ..) rfl ?_
      exact h_y0_2
    · refine Foot.ite ?_ ?_
      · refine Foot.step (State.answer_foot ..) rfl ?_
        refine Foot.step (State.lrWritten_foot ..) rfl ?_
        refine Foot.step (State.eccWritten_foot ..) rfl ?_
        refine Foot.step (State.poke_foot ..) rfl ?_
        exact h_y0_6
      · refine Foot.step (State.answer_foot ..) rfl ?_
        exact h_y0_6
    · refine Foot.step (State.answer_foot ..) rfl ?_
      refine Foot.step (State.lrWritten_foot ..) rfl ?_
      refine Foot.step (State.eccWritten_foot ..) rfl ?_
      refine Foot.step (State.poke_foot ..) rfl ?_
      exact h_y0_2

theorem State.perform_foot (s : State) (x : Acc) : Foot 12582927 s (State.perform s x) := by
  unfold State.perform
  extract_lets y0_0 y0_1 y0_2 y0_3 y0_4
  clear_value y0_0
  have h_y0_1 : Foot 12582927 s y0_1 := by
    unfold y0_1
    refine Foot.step (State.grant_foot ..) rfl ?_
    exact Foot.refl
  clear_value y0_1
  have h_y0_2 : Foot 12582927 s y0_2.1 := by
    unfold y0_2
    refine Foot.step (State.eccRead_foot ..) rfl ?_
    exact h_y0_1
  clear_value y0_2
  have h_y0_3 : Foot 12582927 s y0_3 := by
    unfold y0_3
    refine Foot.step (State.count_foot ..) rfl ?_
    exact h_y0_2
  clear_value y0_3
  have h_y0_4 : Foot 12582927 s y0_4 := by
    unfold y0_4
    refine Foot.step (State.count_foot ..) rfl ?_
    exact h_y0_2
  clear_value y0_4
  refine Foot.ite ?_ ?_
  · refine Foot.step (State.refuse_foot ..) rfl ?_
    exact Foot.refl
  · refine Foot.ite ?_ ?_
    · refine Foot.step (State.refuse_foot ..) rfl ?_
      refine Foot.step (State.fault_foot ..) rfl ?_
      exact Foot.refl
    · split
      · refine Foot.ite ?_ ?_
        · refine Foot.step (State.answer_foot ..) rfl ?_
          exact h_y0_3
        · refine Foot.step (State.refuse_foot ..) rfl ?_
          exact h_y0_3
      · extract_lets y2_0 y2_1
        have h_y2_0 : Foot 12582927 s y2_0.1 := by
          unfold y2_0
          refine Foot.step (State.eccRead_foot ..) rfl ?_
          exact h_y0_1
        clear_value y2_0
        have h_y2_1 : Foot 12582927 s y2_1 := by
          unfold y2_1
          refine Foot.step (State.count_foot ..) rfl ?_
          exact h_y2_0
        clear_value y2_1
        refine Foot.ite ?_ ?_
        · refine Foot.step (State.answer_foot ..) rfl ?_
          exact h_y2_1
        · refine Foot.step (State.refuse_foot ..) rfl ?_
          exact h_y2_1
      · refine Foot.ite ?_ ?_
        · refine Foot.step (State.answer_foot ..) rfl ?_
          refine Foot.step (State.count_foot ..) rfl ?_
          refine Foot.step (State.writeWords_foot ..) rfl ?_
          exact h_y0_1
        · refine Foot.ite ?_ ?_
          · refine Foot.step (State.refuse_foot ..) rfl ?_
            exact h_y0_4
          · refine Foot.step (State.answer_foot ..) rfl ?_
            refine Foot.step (State.lrWritten_foot ..) rfl ?_
            refine Foot.step (State.eccWritten_foot ..) rfl ?_
            refine Foot.step (State.poke_foot ..) rfl ?_
            exact h_y0_4
      · refine Foot.step (State.burstBeats_foot ..) rfl ?_
        exact h_y0_1
      · split
        · refine Foot.ite ?_ ?_
          · refine Foot.step (State.burstBeats_foot ..) rfl ?_
            exact h_y0_1
          · exact h_y0_1
        · exact h_y0_1
      · refine Foot.step (State.amoDo_foot ..) rfl ?_
        exact h_y0_1

theorem State.setWait_foot (s : State) (b : Nat) (l : List Acc) : Foot 8 s (State.setWait s b l) := by
  unfold State.setWait
  extract_lets y0_0 y0_1 y0_2 y0_3
  clear_value y0_0
  clear_value y0_1
  have h_y0_2 : Foot 8 s y0_2 := by
    unfold y0_2
    refine Foot.step (State.setBank_foot ..) rfl ?_
    exact Foot.refl
  clear_value y0_2
  clear_value y0_3
  refine Foot.set_store rfl ?_
  exact h_y0_2

theorem State.enwait_foot (s : State) (x : Acc) : Foot 8 s (State.enwait s x) := by
  unfold State.enwait
  refine Foot.step (State.setWait_foot ..) rfl ?_
  exact Foot.refl

theorem State.unwait_foot (s : State) (b r : Nat) (l : List Acc) : Foot 8 s (State.unwait s b r l) := by
  unfold State.unwait
  extract_lets y0_0 y0_1
  have h_y0_0 : Foot 8 s y0_0 := by
    unfold y0_0
    refine Foot.step (State.setWait_foot ..) rfl ?_
    exact Foot.refl
  clear_value y0_0
  clear_value y0_1
  refine Foot.set_store rfl ?_
  exact h_y0_0

theorem State.ask_foot (s : State) (req off : Nat) : Foot 8 s (State.ask s req off) := by
  unfold State.ask
  extract_lets y0_0
  clear_value y0_0
  refine Foot.ite ?_ ?_
  · exact Foot.refl
  · refine Foot.step (State.enwait_foot ..) rfl ?_
    exact Foot.refl

theorem State.moverGrant_foot (s : State) (req b : Nat) : Foot 8 s (State.moverGrant s req b) := by
  unfold State.moverGrant
  refine Foot.step (State.grant_foot ..) rfl ?_
  refine Foot.step (State.unwait_foot ..) rfl ?_
  exact Foot.refl

theorem State.hubRead_foot (s : State) (req off n : Nat) : Foot 8388619 s (State.hubRead s req off n).1 := by
  unfold State.hubRead
  refine Foot.ite1 ?_ ?_
  · refine Foot.mk1 ?_
    exact Foot.refl
  · extract_lets y0_0 y0_1
    have h_y0_0 : Foot 8388619 s y0_0.1 := by
      unfold y0_0
      refine Foot.step (State.eccRead_foot ..) rfl ?_
      refine Foot.step (State.moverGrant_foot ..) rfl ?_
      exact Foot.refl
    clear_value y0_0
    have h_y0_1 : Foot 8388619 s y0_1 := by
      unfold y0_1
      refine Foot.step (State.count_foot ..) rfl ?_
      exact h_y0_0
    clear_value y0_1
    refine Foot.mk1 ?_
    exact h_y0_1

theorem State.hubWrite_foot (s : State) (req off n v : Nat) : Foot 8388623 s (State.hubWrite s req off n v) := by
  unfold State.hubWrite
  refine Foot.ite ?_ ?_
  · exact Foot.refl
  · refine Foot.ite ?_ ?_
    · refine Foot.step (State.fault_foot ..) rfl ?_
      exact Foot.refl
    · extract_lets y0_0 y0_1 y0_2
      have h_y0_0 : Foot 8388623 s y0_0 := by
        unfold y0_0
        refine Foot.step (State.moverGrant_foot ..) rfl ?_
        exact Foot.refl
      clear_value y0_0
      have h_y0_1 : Foot 8388623 s y0_1.1 := by
        unfold y0_1
        refine Foot.step (State.eccRead_foot ..) rfl ?_
        exact h_y0_0
      clear_value y0_1
      have h_y0_2 : Foot 8388623 s y0_2 := by
        unfold y0_2
        refine Foot.step (State.count_foot ..) rfl ?_
        exact h_y0_1
      clear_value y0_2
      refine Foot.ite ?_ ?_
      · refine Foot.step (State.count_foot ..) rfl ?_
        refine Foot.step (State.writeWords_foot ..) rfl ?_
        exact h_y0_0
      · refine Foot.ite ?_ ?_
        · refine Foot.step (State.lrWritten_foot ..) rfl ?_
          refine Foot.step (State.eccWritten_foot ..) rfl ?_
          refine Foot.step (State.poke_foot ..) rfl ?_
          exact h_y0_2
        · exact h_y0_2

theorem State.hubReads_foot (n : Nat) : ∀ (s : State) (req off : Nat), Foot 8388619 s (State.hubReads s req off n).1 := by
  induction n with
  | zero => intro s _ _; exact Foot.refl
  | succ n ih => intro s req off; exact (ih _ _ _).step rfl (State.hubRead_foot ..)

theorem State.hubWrites_foot (l : List Word) : ∀ (s : State) (req off : Nat), Foot 8388623 s (State.hubWrites s req off l) := by
  induction l with
  | nil => intro s _ _; exact Foot.refl
  | cons w l ih => intro s req off; exact (ih _ _ _).step rfl (State.hubWrite_foot ..)

theorem State.serveAcc_foot (s : State) (x : Acc) : Foot 12582927 s (State.serveAcc s x) := by
  unfold State.serveAcc
  extract_lets y0_0 y0_1 y0_2 y0_3
  have h_y0_0 : Foot 12582927 s y0_0 := by
    unfold y0_0
    refine Foot.step (State.unwait_foot ..) rfl ?_
    exact Foot.refl
  clear_value y0_0
  have h_y0_1 : Foot 12582927 s y0_1 := by
    unfold y0_1
    refine Foot.step (State.perform_foot ..) rfl ?_
    exact h_y0_0
  clear_value y0_1
  clear_value y0_2
  clear_value y0_3
  split
  · refine Foot.step (State.perform_foot ..) rfl ?_
    exact h_y0_0
  · refine Foot.step (State.grant_foot ..) rfl ?_
    exact h_y0_0
  · refine Foot.step (t := y0_1) (m' := 4194312) ⟨rfl, fun i => ⟨i.regs, i.live, i.mem, i.biv, i.flash, i.fltQ, i.dlQ⟩, fun _ => rfl, fun _ => rfl, fun _ => rfl, nofun, fun _ => rfl, fun _ => rfl, fun _ => rfl, fun _ => rfl, fun _ => rfl, fun _ => rfl, fun _ => rfl, fun _ => rfl, fun _ => rfl, fun _ => rfl, fun _ => rfl, fun _ => rfl, fun _ => rfl, fun _ => rfl, fun _ => rfl, fun _ => rfl, fun _ => rfl, fun _ => rfl, nofun, fun _ => rfl, fun _ => rfl, fun _ => rfl, fun _ => rfl, fun _ => rfl, fun _ => rfl⟩ rfl ?_
    exact h_y0_1

theorem State.serve_foot (s : State) : Foot 12582927 s (State.serve s) := by
  unfold State.serve
  refine Foot.foldl ?_ _ ?_
  · intro a0_0 a0_1
    split
    · refine Foot.step (State.serveAcc_foot ..) rfl ?_
      exact Foot.refl
    · exact Foot.refl
  · exact Foot.refl

theorem State.access_foot (s : State) (req off : Nat) (f : AccForm) : Foot 12582927 s (State.access s req off f) := by
  unfold State.access
  refine Foot.ite ?_ ?_
  · refine Foot.step (State.refuse_foot ..) rfl ?_
    refine Foot.step (State.fault_foot ..) rfl ?_
    exact Foot.refl
  · extract_lets y0_0
    clear_value y0_0
    split
    · refine Foot.ite ?_ ?_
      · refine Foot.step (State.enwait_foot ..) rfl ?_
        exact Foot.refl
      · refine Foot.step (State.serve_foot ..) rfl ?_
        refine Foot.step (State.perform_foot ..) rfl ?_
        exact Foot.refl
    · refine Foot.ite ?_ ?_
      · refine Foot.step (State.enwait_foot ..) rfl ?_
        exact Foot.refl
      · refine Foot.step (State.perform_foot ..) rfl ?_
        exact Foot.refl

theorem execEccWriteback_foot (word : BitVec 20) (s : State) : FootO 8 s (execEccWriteback word s) := by
  unfold execEccWriteback
  refine FootO.ite ?_ ?_
  · refine FootO.next ?_
    exact Foot.refl
  · refine FootO.next ?_
    split
    · refine Foot.ite ?_ ?_
      · refine Foot.step (State.setMark_foot ..) rfl ?_
        exact Foot.refl
      · exact Foot.refl
    · exact Foot.refl

theorem execAgePromotion_foot (bank : Fin 16) (req : Fin 8) (s : State) : FootO 8 s (execAgePromotion bank req s) := by
  unfold execAgePromotion
  refine FootO.ite ?_ ?_
  · refine FootO.next ?_
    exact Foot.refl
  · refine FootO.next ?_
    refine Foot.ite ?_ ?_
    · refine Foot.set_store rfl ?_
      exact Foot.refl
    · exact Foot.refl

theorem execArbHoldCutoff_foot (bank : Fin 16) (s : State) : FootO 12582927 s (execArbHoldCutoff bank s) := by
  unfold execArbHoldCutoff
  refine FootO.ite ?_ ?_
  · refine FootO.next ?_
    exact Foot.refl
  · refine FootO.next ?_
    split
    · refine Foot.ite ?_ ?_
      · extract_lets y1_0 y1_1 y1_2 y1_3
        clear_value y1_0
        have h_y1_1 : Foot 12582927 s y1_1 := by
          unfold y1_1
          refine Foot.step (State.setBank_foot ..) rfl ?_
          exact Foot.refl
        clear_value y1_1
        have h_y1_2 : Foot 12582927 s y1_2 := by
          unfold y1_2
          refine Foot.step (State.put_foot ..) rfl ?_
          refine Foot.step (State.setBit_foot ..) rfl ?_
          exact h_y1_1
        clear_value y1_2
        have h_y1_3 : Foot 12582927 s y1_3 := by
          unfold y1_3
          refine Foot.step (State.satAdd_foot ..) rfl ?_
          refine Foot.step (State.put_foot ..) rfl ?_
          exact h_y1_2
        clear_value y1_3
        refine Foot.step (State.serve_foot ..) rfl ?_
        refine Foot.step (State.refuse_foot ..) rfl ?_
        refine Foot.step (State.fault_foot ..) rfl ?_
        exact h_y1_3
      · exact Foot.refl
    · exact Foot.refl

theorem State.scrubStart_foot (s : State) : Foot 8 s (State.scrubStart s) := by
  unfold State.scrubStart
  refine Foot.set_store rfl ?_
  exact Foot.refl

theorem execScrubRead_foot (upset : List Upset) (s : State) : FootO 8388619 s (execScrubRead upset s) := by
  unfold execScrubRead
  extract_lets y0_0 y0_1 y0_2 y0_3 y0_4 y0_5
  have h_y0_0 : Foot 8388619 s y0_0 := by
    unfold y0_0
    refine Foot.step (State.upset_foot ..) rfl ?_
    exact Foot.refl
  clear_value y0_0
  clear_value y0_1
  clear_value y0_2
  have h_y0_3 : Foot 8388619 s y0_3 := by
    unfold y0_3
    refine Foot.step (State.count_foot ..) rfl ?_
    refine Foot.step (State.eccRead_foot ..) rfl ?_
    exact h_y0_0
  clear_value y0_3
  clear_value y0_4
  have h_y0_5 : Foot 8388619 s y0_5 := by
    unfold y0_5
    refine Foot.set_store rfl ?_
    exact h_y0_3
  clear_value y0_5
  refine FootO.next ?_
  refine Foot.ite ?_ ?_
  · refine Foot.ite ?_ ?_
    · refine Foot.step (State.scrubStart_foot ..) rfl ?_
      refine Foot.step (State.wrapAdd_foot ..) rfl ?_
      exact h_y0_5
    · exact h_y0_5
  · exact h_y0_0

theorem execScrubLate_foot (s : State) : FootO 8388619 s (execScrubLate s) := by
  unfold execScrubLate
  refine FootO.next ?_
  refine Foot.ite ?_ ?_
  · refine Foot.step (State.fault_foot ..) rfl ?_
    refine Foot.step (State.put_foot ..) rfl ?_
    refine Foot.set_store rfl ?_
    exact Foot.refl
  · exact Foot.refl

theorem execStoreZeroingDone_foot (s : State) : FootO 12582927 s (execStoreZeroingDone s) := by
  unfold execStoreZeroingDone
  refine FootO.next ?_
  refine Foot.ite ?_ ?_
  · exact Foot.refl
  · refine Foot.step (State.serve_foot ..) rfl ?_
    refine Foot.step (State.put_foot ..) rfl ?_
    refine Foot.step (State.zeroBanks_foot ..) rfl ?_
    exact Foot.refl

theorem execPartitionZeroingDone_foot (s : State) : FootO 12582927 s (execPartitionZeroingDone s) := by
  unfold execPartitionZeroingDone
  refine FootO.ite ?_ ?_
  · refine FootO.next ?_
    exact Foot.refl
  · refine FootO.next ?_
    refine Foot.ite ?_ ?_
    · extract_lets y0_0 y0_1
      have h_y0_0 : Foot 12582927 s y0_0 := by
        unfold y0_0
        refine Foot.step (State.zeroBanks_foot ..) rfl ?_
        exact Foot.refl
      clear_value y0_0
      clear_value y0_1
      refine Foot.step (State.serve_foot ..) rfl ?_
      refine Foot.step (State.put_foot ..) rfl ?_
      refine Foot.set_store rfl ?_
      exact h_y0_0
    · exact Foot.refl

theorem State.patCount_foot (s : State) (l checked errored : Nat) : Foot 3 s (State.patCount s l checked errored) := by
  unfold State.patCount
  refine Foot.ite ?_ ?_
  · refine Foot.step (State.count_foot ..) rfl ?_
    refine Foot.step (State.count_foot ..) rfl ?_
    exact Foot.refl
  · exact Foot.refl

theorem execCounterSnap_foot (group : Fin 14) (clear : Bool) (checked errored : BitVec 48) (s : State) : FootO 8388611 s (execCounterSnap group clear checked errored s) := by
  unfold execCounterSnap
  extract_lets y0_0
  clear_value y0_0
  refine FootO.next ?_
  refine Foot.ite ?_ ?_
  · exact Foot.refl
  · refine State.cmd_foot rfl ?_ ?_
    · intro a1_0
      refine Foot.step (State.snap_foot ..) rfl ?_
      refine Foot.ite ?_ ?_
      · refine Foot.step (State.patCount_foot ..) rfl ?_
        exact Foot.refl
      · exact Foot.refl
    · exact Foot.refl

end Sys2Proof.Machine
end

