-- ==== Sys2Proof/Laws/FootSwitch.lean ====
section
/-! SUPPORT. The footprints of the operations and meanings of Sys2Proof.Machine.Switch. -/
namespace Sys2Proof.Machine

theorem State.setDir_foot (s : State) (d v : Nat) : Foot 1 s (State.setDir s d v) := by
  unfold State.setDir
  refine Foot.ite ?_ ?_
  · refine Foot.step (State.put_foot ..) rfl ?_
    exact Foot.refl
  · refine Foot.step (State.put_foot ..) rfl ?_
    exact Foot.refl

theorem State.setQueue_foot (s : State) (port qi : Nat) (l : List QFrame) : Foot 16 s (State.setQueue s port qi l) := by
  unfold State.setQueue
  refine Foot.set_fwd rfl ?_
  exact Foot.refl

theorem State.enqueue_foot (s : State) (p qi : Nat) (x : QFrame) (spare : Bool) : Foot 2097169 s (State.enqueue s p qi x spare) := by
  unfold State.enqueue
  extract_lets y0_0 y0_1
  have h_y0_0 : Foot 2097169 s y0_0 := by
    unfold y0_0
    refine Foot.step (State.setQueue_foot ..) rfl ?_
    exact Foot.refl
  clear_value y0_0
  have h_y0_1 : Foot 2097169 s y0_1 := by
    unfold y0_1
    refine Foot.ite ?_ ?_
    · refine Foot.step (State.put_foot ..) rfl ?_
      exact h_y0_0
    · exact h_y0_0
  clear_value y0_1
  refine Foot.ite ?_ ?_
  · refine Foot.step (State.wakeBy_foot ..) rfl ?_
    exact h_y0_1
  · exact h_y0_1

theorem State.cellBeats_foot (s : State) (c words : Nat) : Foot 11 s (State.cellBeats s c words) := by
  unfold State.cellBeats
  refine Foot.step (State.count_foot ..) rfl ?_
  refine Foot.step (State.grant_foot ..) rfl ?_
  exact Foot.refl

theorem State.writeCells_foot (s : State) (f : Frame) : Foot 27 s (State.writeCells s f).1 := by
  unfold State.writeCells
  extract_lets y0_0 y0_1 y0_2 y0_3 y0_4
  clear_value y0_0
  clear_value y0_1
  have h_y0_2 : Foot 27 s y0_2.1 := by
    unfold y0_2
    refine Foot.foldl1 ?_ _ ?_
    · intro a1_0 a1_1
      extract_lets y2_0
      clear_value y2_0
      split
      · refine Foot.mk1 ?_
        refine Foot.step (State.eccWritten_foot ..) rfl ?_
        refine Foot.step (State.cellBeats_foot ..) rfl ?_
        exact Foot.refl
      · exact Foot.refl
    · refine Foot.mk1 ?_
      exact Foot.refl
  clear_value y0_2
  have h_y0_3 : Foot 27 s y0_3 := by
    unfold y0_3
    exact h_y0_2
  clear_value y0_3
  clear_value y0_4
  refine Foot.mk1 ?_
  refine Foot.set_fwd rfl ?_
  exact h_y0_3

theorem State.readCells_foot (s : State) (x : QFrame) : Foot 8388619 s (State.readCells s x).1 := by
  unfold State.readCells
  refine Foot.foldl1 ?_ _ ?_
  · intro a0_0 a0_1
    extract_lets y1_0 y1_1
    clear_value y1_0
    have h_y1_1 : Foot 8388619 (a0_0.1) y1_1.1 := by
      unfold y1_1
      refine Foot.step (State.eccRead_foot ..) rfl ?_
      refine Foot.step (State.cellBeats_foot ..) rfl ?_
      exact Foot.refl
    clear_value y1_1
    refine Foot.mk1 ?_
    exact h_y1_1
  · refine Foot.mk1 ?_
    exact Foot.refl

theorem State.dropFull_foot (s : State) (p cls : Nat) : Foot 3 s (State.dropFull s p cls) := by
  unfold State.dropFull
  refine Foot.step (State.put_foot ..) rfl ?_
  refine Foot.step (State.bump_foot ..) rfl ?_
  exact Foot.refl

theorem State.unreachLog_foot (s : State) (inPort : Nat) (f : Frame) : Foot 3 s (State.unreachLog s inPort f) := by
  unfold State.unreachLog
  extract_lets y0_0 y0_1
  have h_y0_0 : Foot 3 s y0_0 := by
    unfold y0_0
    refine Foot.step (State.put_foot ..) rfl ?_
    refine Foot.step (State.bump_foot ..) rfl ?_
    exact Foot.refl
  clear_value y0_0
  have h_y0_1 : Foot 3 s y0_1 := by
    unfold y0_1
    refine Foot.step (State.put_foot ..) rfl ?_
    refine Foot.step (State.put_foot ..) rfl ?_
    exact h_y0_0
  clear_value y0_1
  refine Foot.step (State.put_foot ..) rfl ?_
  refine Foot.step (State.put_foot ..) rfl ?_
  exact h_y0_1

theorem State.dropUnreach_foot (s : State) (inPort : Nat) (f : Frame) : Foot 8388611 s (State.dropUnreach s inPort f) := by
  unfold State.dropUnreach
  refine Foot.step (State.fault_foot ..) rfl ?_
  refine Foot.step (State.put_foot ..) rfl ?_
  refine Foot.step (State.unreachLog_foot ..) rfl ?_
  exact Foot.refl

theorem State.dropCopy_foot (s : State) (inPort : Nat) (c : Copy) : Foot 8388611 s (State.dropCopy s inPort c) := by
  unfold State.dropCopy
  split
  · refine Foot.step (State.bump_foot ..) rfl ?_
    exact Foot.refl
  · refine Foot.step (State.bump_foot ..) rfl ?_
    exact Foot.refl
  · refine Foot.step (State.fault_foot ..) rfl ?_
    refine Foot.step (State.put_foot ..) rfl ?_
    refine Foot.step (State.bump_foot ..) rfl ?_
    exact Foot.refl
  · refine Foot.step (State.dropUnreach_foot ..) rfl ?_
    exact Foot.refl
  · refine Foot.step (State.unreachLog_foot ..) rfl ?_
    exact Foot.refl
  · exact Foot.refl

theorem State.putCopy_foot (s : State) (c : Copy) (qi : Nat) (x : QFrame) (spare : Bool) : Foot 2097171 s (State.putCopy s c qi x spare) := by
  unfold State.putCopy
  extract_lets y0_0 y0_1
  have h_y0_0 : Foot 2097171 s y0_0 := by
    unfold y0_0
    refine Foot.when ?_ ?_
    · intro a1_0
      refine Foot.step (State.bump_foot ..) rfl ?_
      exact Foot.refl
    · exact Foot.refl
  clear_value y0_0
  clear_value y0_1
  split
  · refine Foot.set_fwd rfl ?_
    exact h_y0_0
  · refine Foot.step (State.enqueue_foot ..) rfl ?_
    exact h_y0_0

theorem State.placeCopy_foot (s : State) (inPort : Nat) (own multi : Bool) (t : Int) (cells : List Nat) (c : Copy) : Foot 10485779 s (State.placeCopy s inPort own multi t cells c) := by
  unfold State.placeCopy
  extract_lets y0_0 y0_1
  clear_value y0_0
  clear_value y0_1
  refine Foot.ite ?_ ?_
  · split
    · refine Foot.ite ?_ ?_
      · refine Foot.step (State.put_foot ..) rfl ?_
        refine Foot.step (State.bump_foot ..) rfl ?_
        exact Foot.refl
      · refine Foot.step (State.dropFull_foot ..) rfl ?_
        exact Foot.refl
    · refine Foot.step (State.putCopy_foot ..) rfl ?_
      exact Foot.refl
  · refine Foot.step (State.dropCopy_foot ..) rfl ?_
    exact Foot.refl

theorem State.retreat_foot (s : State) (d qi : Nat) (x : QFrame) : Foot 10485779 s (State.retreat s d qi x) := by
  unfold State.retreat
  extract_lets y0_0
  clear_value y0_0
  refine Foot.ite ?_ ?_
  · refine Foot.step (State.dropCopy_foot ..) rfl ?_
    exact Foot.refl
  · refine Foot.ite ?_ ?_
    · refine Foot.step (State.putCopy_foot ..) rfl ?_
      exact Foot.refl
    · split
      · refine Foot.step (State.dropFull_foot ..) rfl ?_
        exact Foot.refl
      · refine Foot.step (State.putCopy_foot ..) rfl ?_
        exact Foot.refl

theorem State.place_foot (s : State) (inPort : Nat) (own : Bool) (t : Int) (l : List Copy) : Foot 10485787 s (State.place s inPort own t l) := by
  unfold State.place
  split
  · exact Foot.refl
  · extract_lets y1_0 y1_1
    clear_value y1_0
    have h_y1_1 : Foot 10485787 s y1_1.1 := by
      unfold y1_1
      refine Foot.step (State.writeCells_foot ..) rfl ?_
      exact Foot.refl
    clear_value y1_1
    refine Foot.each ?_ ?_
    · intro a2_0 a2_1
      refine Foot.step (State.placeCopy_foot ..) rfl ?_
      exact Foot.refl
    · exact h_y1_1

theorem State.nextSeq_foot (s : State) (cls : Nat) : Foot 16 s (State.nextSeq s cls) := by
  unfold State.nextSeq
  refine Foot.set_fwd rfl ?_
  exact Foot.refl

theorem State.tryOrig_foot (s : State) (p : FrameSpec) (prod : Nat) (r : State × List FrameSpec)
    (h : State.tryOrig s p prod = some r) : Foot 10485915 s r.1 := by
  unfold State.tryOrig at h
  split at h
  · cases h; exact Foot.step (State.bump_foot ..) rfl Foot.refl
  · cases h; exact Foot.refl
  · cases h
  · extract_lets y0 y1 y2 y3 src y4 src' y5 at h
    split at h
    · cases h
    · split at h
      · cases h
      · have h2 : Foot 10485915 s y2 := Foot.step (State.count_foot ..) rfl (Foot.step (State.bump_foot ..) rfl Foot.refl)
        clear_value y2
        split at h
        · cases h; exact Foot.step (State.unreachLog_foot ..) rfl h2
        · have h3 : Foot 10485915 s y3 := Foot.step (State.place_foot ..) rfl h2
          clear_value y3
          have h4 : Foot 10485915 s y4 := by
            unfold y4
            exact Foot.ite (Foot.set_red rfl h3) h3
          clear_value y4
          have h5 : Foot 10485915 s y5 := by
            unfold y5
            split
            · exact Foot.set_red rfl h4
            · exact Foot.step (State.nextSeq_foot ..) rfl h4
          clear_value y5
          cases h
          exact h5

theorem State.locWait_foot (s : State) (w : LocWait) : Foot 19 s (State.locWait s w) := by
  unfold State.locWait
  extract_lets y0_0 y0_1 y0_2
  clear_value y0_0
  have h_y0_1 : Foot 19 s y0_1 := by
    unfold y0_1
    refine Foot.ite ?_ ?_
    · refine Foot.step (State.bump_foot ..) rfl ?_
      exact Foot.refl
    · exact Foot.refl
  clear_value y0_1
  clear_value y0_2
  refine Foot.set_fwd rfl ?_
  exact h_y0_1

theorem State.orig1_foot (s : State) (p : FrameSpec) (prod : Nat) : Foot 10485915 s (State.orig1 s p prod).1 := by
  unfold State.orig1
  refine Foot.ite1 Foot.refl (Foot.ite1 (Foot.step (State.locWait_foot ..) rfl Foot.refl) ?_)
  cases h : s.tryOrig p prod with
  | none => exact Foot.step (State.locWait_foot ..) rfl Foot.refl
  | some r => exact State.tryOrig_foot _ _ _ _ h

theorem State.originate_foot (s : State) (p : FrameSpec) (prod : Nat) : Foot 10485915 s (State.originate s p prod) := by
  unfold State.originate
  extract_lets y0_0
  have h_y0_0 : Foot 10485915 s y0_0.1 := by
    unfold y0_0
    refine Foot.step (State.orig1_foot ..) rfl ?_
    exact Foot.refl
  clear_value y0_0
  refine Foot.each ?_ ?_
  · intro a1_0 a1_1
    refine Foot.step (State.orig1_foot ..) rfl ?_
    exact Foot.refl
  · exact h_y0_0

theorem State.locPump_foot (s : State) : Foot 10485915 s (State.locPump s) := by
  unfold State.locPump
  refine Foot.ite Foot.refl ?_
  refine Foot.each (fun x a => State.orig1_foot ..) ?_
  refine Foot.foldl1 (fun x a => ?_) _ (Foot.set_fwd rfl Foot.refl)
  refine Foot.ite1 (Foot.step (State.locWait_foot ..) rfl Foot.refl) ?_
  cases h : x.1.tryOrig a.spec a.prod with
  | none => exact Foot.step (State.locWait_foot ..) rfl Foot.refl
  | some r => exact State.tryOrig_foot x.1 a.spec a.prod r h

theorem State.setDrainBit_foot (s : State) (q frm : Nat) (v : Bool) : Foot 1 s (State.setDrainBit s q frm v) := by
  unfold State.setDrainBit
  extract_lets y0_0
  clear_value y0_0
  refine Foot.ite ?_ ?_
  · refine Foot.step (State.setBit_foot ..) rfl ?_
    exact Foot.refl
  · refine Foot.step (State.clrBit_foot ..) rfl ?_
    exact Foot.refl

theorem State.openDrain_foot (s : State) (q frm : Nat) (es : List (Nat × Nat × Nat)) (pins : Nat) : Foot 10485787 s (State.openDrain s q frm es pins) := by
  unfold State.openDrain
  extract_lets y0_0 y0_1 y0_2 y0_3 y0_4 y0_5 y0_6 y0_7 y0_8 y0_9 y0_10
  clear_value y0_0
  clear_value y0_1
  have h_y0_2 : Foot 10485787 s y0_2 := by
    unfold y0_2
    refine Foot.set_fwd rfl ?_
    exact Foot.refl
  clear_value y0_2
  have h_y0_3 : Foot 10485787 s y0_3 := by
    unfold y0_3
    refine Foot.step (State.setDrainBit_foot ..) rfl ?_
    exact h_y0_2
  clear_value y0_3
  clear_value y0_4
  clear_value y0_5
  have h_y0_6 : Foot 10485787 s y0_6.1 := by
    unfold y0_6
    refine Foot.step (State.writeCells_foot ..) rfl ?_
    exact h_y0_3
  clear_value y0_6
  have h_y0_7 : Foot 10485787 s y0_7 := by
    unfold y0_7
    exact h_y0_6
  clear_value y0_7
  clear_value y0_8
  clear_value y0_9
  clear_value y0_10
  refine Foot.ite ?_ ?_
  · refine Foot.step (State.unreachLog_foot ..) rfl ?_
    exact h_y0_3
  · split
    · refine Foot.step (State.nextSeq_foot ..) rfl ?_
      refine Foot.step (State.enqueue_foot ..) rfl ?_
      exact h_y0_7
    · extract_lets y2_0
      have h_y2_0 : Foot 10485787 s y2_0 := by
        unfold y2_0
        refine Foot.set_fwd rfl ?_
        exact h_y0_7
      clear_value y2_0
      refine Foot.step (State.nextSeq_foot ..) rfl ?_
      exact h_y2_0
    · refine Foot.step (State.nextSeq_foot ..) rfl ?_
      refine Foot.step (State.dropCopy_foot ..) rfl ?_
      exact h_y0_7

theorem State.releaseHeld_foot (s : State) (why : HoldWhy) (d : Nat) : Foot 10485779 s (State.releaseHeld s why d) := by
  unfold State.releaseHeld
  extract_lets y0_0 y0_1 y0_2
  clear_value y0_0
  clear_value y0_1
  have h_y0_2 : Foot 10485779 s y0_2 := by
    unfold y0_2
    refine Foot.set_fwd rfl ?_
    exact Foot.refl
  clear_value y0_2
  refine Foot.each ?_ ?_
  · intro a1_0 a1_1
    refine Foot.step (State.retreat_foot ..) rfl ?_
    exact Foot.refl
  · exact h_y0_2

theorem State.closeDrain_foot (s : State) (x : Drain) (d : Nat) : Foot 10485915 s (State.closeDrain s x d) := by
  unfold State.closeDrain
  extract_lets y0_0 y0_1
  clear_value y0_0
  have h_y0_1 : Foot 10485915 s y0_1 := by
    unfold y0_1
    refine Foot.set_fwd rfl ?_
    exact Foot.refl
  clear_value y0_1
  refine Foot.step (State.locPump_foot ..) rfl ?_
  refine Foot.step (State.releaseHeld_foot ..) rfl ?_
  refine Foot.step (State.setDrainBit_foot ..) rfl ?_
  exact h_y0_1

theorem State.drainsAfter_foot (s old : State) : Foot 10485915 s (State.drainsAfter s old) := by
  unfold State.drainsAfter
  extract_lets y0_0
  have h_y0_0 : Foot 10485915 s y0_0 := by
    unfold y0_0
    refine Foot.each ?_ ?_
    · intro a1_0 a1_1
      refine Foot.ite ?_ ?_
      · refine Foot.step (State.closeDrain_foot ..) rfl ?_
        exact Foot.refl
      · exact Foot.refl
    · exact Foot.refl
  clear_value y0_0
  refine Foot.each ?_ ?_
  · intro a1_0 a1_1
    extract_lets y2_0
    clear_value y2_0
    refine Foot.ite ?_ ?_
    · exact Foot.refl
    · refine Foot.each ?_ ?_
      · intro a3_0 a3_1
        extract_lets y4_0
        clear_value y4_0
        refine Foot.ite ?_ ?_
        · refine Foot.step (State.openDrain_foot ..) rfl ?_
          exact Foot.refl
        · exact Foot.refl
      · exact Foot.refl
  · exact h_y0_0

theorem State.setReach_foot (s : State) (d v : Nat) : Foot 10485915 s (State.setReach s d v) := by
  unfold State.setReach
  refine Foot.ite ?_ ?_
  · exact Foot.refl
  · refine Foot.step (State.drainsAfter_foot ..) rfl ?_
    refine Foot.step (State.put_foot ..) rfl ?_
    exact Foot.refl

theorem State.markRx_foot (s : State) (word : Nat) : Foot 10485915 s (State.markRx s word) := by
  unfold State.markRx
  extract_lets y0_0 y0_1 y0_2
  clear_value y0_0
  clear_value y0_1
  clear_value y0_2
  refine Foot.ite ?_ ?_
  · split
    · refine Foot.step (State.closeDrain_foot ..) rfl ?_
      refine Foot.step (State.satAdd_foot ..) rfl ?_
      exact Foot.refl
    · exact Foot.refl
  · exact Foot.refl

theorem State.fwdFenceStart_foot (s : State) : Foot 17 s (State.fwdFenceStart s) := by
  unfold State.fwdFenceStart
  refine Foot.ite ?_ ?_
  · exact Foot.refl
  · extract_lets y0_0 y0_1
    clear_value y0_0
    have h_y0_1 : Foot 17 s y0_1 := by
      unfold y0_1
      refine Foot.set_fwd rfl ?_
      exact Foot.refl
    clear_value y0_1
    refine Foot.step (State.put_foot ..) rfl ?_
    exact h_y0_1

theorem execMarkRx_foot (word : DWord) (s : State) : FootO 10485915 s (execMarkRx word s) := by
  unfold execMarkRx
  refine FootO.ite ?_ ?_
  · refine FootO.next ?_
    exact Foot.refl
  · refine FootO.next ?_
    refine Foot.step (State.markRx_foot ..) rfl ?_
    exact Foot.refl

theorem execDrainTimeout_foot (q : Fin 6) (frm : Fin 2) (s : State) : FootO 10485915 s (execDrainTimeout q frm s) := by
  unfold execDrainTimeout
  refine FootO.ite ?_ ?_
  · refine FootO.next ?_
    exact Foot.refl
  · refine FootO.next ?_
    split
    · refine Foot.step (State.closeDrain_foot ..) rfl ?_
      refine Foot.step (State.fault_foot ..) rfl ?_
      refine Foot.step (State.put_foot ..) rfl ?_
      refine Foot.step (State.satAdd_foot ..) rfl ?_
      exact Foot.refl
    · exact Foot.refl

theorem execFwdFenceStart_foot (s : State) : FootO 8388627 s (execFwdFenceStart s) := by
  unfold execFwdFenceStart
  refine FootO.next ?_
  refine State.cmd_foot rfl ?_ ?_
  · intro a0_0
    refine Foot.step (State.fwdFenceStart_foot ..) rfl ?_
    exact Foot.refl
  · exact Foot.refl

theorem execFwdFenceDone_foot (s : State) : FootO 1 s (execFwdFenceDone s) := by
  unfold execFwdFenceDone
  refine FootO.ite ?_ ?_
  · refine FootO.next ?_
    exact Foot.refl
  · refine FootO.next ?_
    refine Foot.ite ?_ ?_
    · refine Foot.step (State.put_foot ..) rfl ?_
      refine Foot.step (State.put_foot ..) rfl ?_
      refine Foot.step (State.put_foot ..) rfl ?_
      exact Foot.refl
    · exact Foot.refl

theorem execFwdFenceTimeout_foot (s : State) : FootO 1 s (execFwdFenceTimeout s) := by
  unfold execFwdFenceTimeout
  refine FootO.ite ?_ ?_
  · refine FootO.next ?_
    exact Foot.refl
  · refine FootO.next ?_
    refine Foot.ite ?_ ?_
    · refine Foot.step (State.put_foot ..) rfl ?_
      refine Foot.step (State.put_foot ..) rfl ?_
      refine Foot.step (State.put_foot ..) rfl ?_
      refine Foot.step (State.put_foot ..) rfl ?_
      exact Foot.refl
    · exact Foot.refl

end Sys2Proof.Machine
end

