-- ==== Sys2Proof/Laws/FootFabric.lean ====
section
/-! SUPPORT. The footprints of the operations and meanings of Sys2Proof.Machine.Fabric. -/
namespace Sys2Proof.Machine

theorem State.setDest_foot (s : State) (r : Nat) (l : List Nat) : Foot 8192 s (State.setDest s r l) := by
  unfold State.setDest
  refine Foot.set_fab rfl ?_
  exact Foot.refl

theorem State.accepted_foot (s : State) (r addr : Nat) : Foot 8192 s (State.accepted s r addr) := by
  unfold State.accepted
  refine Foot.ite ?_ ?_
  · exact Foot.refl
  · refine Foot.step (State.setDest_foot ..) rfl ?_
    exact Foot.refl

theorem State.fenceFail_foot (s : State) (r status addr : Nat) : Foot 1 s (State.fenceFail s r status addr) := by
  unfold State.fenceFail
  extract_lets y0_0
  have h_y0_0 : Foot 1 s y0_0 := by
    unfold y0_0
    refine Foot.step (State.satAdd_foot ..) rfl ?_
    exact Foot.refl
  clear_value y0_0
  refine Foot.ite ?_ ?_
  · refine Foot.step (State.put_foot ..) rfl ?_
    refine Foot.step (State.put_foot ..) rfl ?_
    refine Foot.step (State.put_foot ..) rfl ?_
    exact h_y0_0
  · exact h_y0_0

theorem State.pwFail_foot (s : State) (tag status addr : Nat) : Foot 8396803 s (State.pwFail s tag status addr) := by
  unfold State.pwFail
  extract_lets y0_0 y0_1 y0_2 y0_3 y0_4 y0_5 y0_6
  clear_value y0_0
  have h_y0_1 : Foot 8396803 s y0_1 := by
    unfold y0_1
    refine Foot.step (State.put_foot ..) rfl ?_
    refine Foot.step (State.put_foot ..) rfl ?_
    refine Foot.step (State.put_foot ..) rfl ?_
    refine Foot.step (State.put_foot ..) rfl ?_
    exact Foot.refl
  clear_value y0_1
  have h_y0_2 : Foot 8396803 s y0_2 := by
    unfold y0_2
    refine Foot.step (State.fault_foot ..) rfl ?_
    refine Foot.step (State.satAdd_foot ..) rfl ?_
    refine Foot.step (State.put_foot ..) rfl ?_
    exact h_y0_1
  clear_value y0_2
  have h_y0_3 : Foot 8396803 s y0_3 := by
    unfold y0_3
    refine Foot.when ?_ ?_
    · intro a1_0
      refine Foot.step (State.edgeIrq_foot ..) rfl ?_
      exact Foot.refl
    · refine Foot.step (State.put_foot ..) rfl ?_
      refine Foot.step (State.bump_foot ..) rfl ?_
      exact h_y0_2
  clear_value y0_3
  have h_y0_4 : Foot 8396803 s y0_4 := by
    unfold y0_4
    refine Foot.ite ?_ ?_
    · refine Foot.step (State.put_foot ..) rfl ?_
      exact h_y0_3
    · exact h_y0_3
  clear_value y0_4
  clear_value y0_5
  clear_value y0_6
  refine Foot.ite ?_ ?_
  · exact h_y0_4
  · refine Foot.ite ?_ ?_
    · refine Foot.step (State.fenceFail_foot ..) rfl ?_
      exact h_y0_4
    · refine Foot.set_fab rfl ?_
      exact h_y0_4

theorem State.postWrite_foot (s : State) (r tag size beats addr : Nat) (data : List DWord) : Foot 10494107 s (State.postWrite s r tag size beats addr data) := by
  unfold State.postWrite
  refine Foot.ite ?_ ?_
  · refine Foot.step (State.pwFail_foot ..) rfl ?_
    exact Foot.refl
  · refine Foot.ite ?_ ?_
    · refine Foot.step (State.pwFail_foot ..) rfl ?_
      refine Foot.step (State.accepted_foot ..) rfl ?_
      exact Foot.refl
    · refine Foot.step (State.originate_foot ..) rfl ?_
      refine Foot.step (State.accepted_foot ..) rfl ?_
      exact Foot.refl

theorem State.setHTag_foot (s : State) (t : Nat) (h : Option HTag) : Foot 16384 s (State.setHTag s t h) := by
  unfold State.setHTag
  refine Foot.set_hbr rfl ?_
  exact Foot.refl

theorem State.tagPart_foot (s : State) (t at_ status : Nat) (bs : List Byte) : Foot 16385 s (State.tagPart s t at_ status bs) := by
  unfold State.tagPart
  split
  · exact Foot.refl
  · extract_lets y1_0 y1_1 y1_2
    clear_value y1_0
    clear_value y1_1
    have h_y1_2 : Foot 16385 s y1_2 := by
      unfold y1_2
      refine Foot.step (State.setHTag_foot ..) rfl ?_
      exact Foot.refl
    clear_value y1_2
    refine Foot.ite ?_ ?_
    · refine Foot.step (State.put_foot ..) rfl ?_
      refine Foot.step (State.setBit_foot ..) rfl ?_
      exact h_y1_2
    · exact h_y1_2

theorem State.dmaErr_foot (s : State) (ch kind : Nat) : Foot 32768 s (State.dmaErr s ch kind) := by
  unfold State.dmaErr
  extract_lets y0_0
  clear_value y0_0
  refine Foot.ite ?_ ?_
  · exact Foot.refl
  · refine Foot.set_dma rfl ?_
    exact Foot.refl

theorem State.finish_foot (s : State) (q : FReq) (status : Nat) (data : List DWord) : Foot 4243457 s (State.finish s q status data) := by
  unfold State.finish
  extract_lets y0_0 y0_1
  clear_value y0_0
  clear_value y0_1
  split
  · refine Foot.step (State.answer_foot ..) rfl ?_
    exact Foot.refl
  · refine Foot.ite ?_ ?_
    · exact Foot.refl
    · refine Foot.step (State.fenceFail_foot ..) rfl ?_
      exact Foot.refl
  · refine Foot.step (State.tagPart_foot ..) rfl ?_
    exact Foot.refl
  · refine Foot.set_hbr rfl ?_
    exact Foot.refl
  · refine Foot.ite ?_ ?_
    · exact Foot.refl
    · refine Foot.step (State.dmaErr_foot ..) rfl ?_
      exact Foot.refl

theorem State.issue_foot (s : State) (q : FReq) : Foot 14737563 s (State.issue s q) := by
  unfold State.issue
  refine Foot.ite ?_ ?_
  · refine Foot.step (State.finish_foot ..) rfl ?_
    exact Foot.refl
  · extract_lets y0_0 y0_1 y0_2 y0_3
    clear_value y0_0
    clear_value y0_1
    clear_value y0_2
    have h_y0_3 : Foot 14737563 s y0_3 := by
      unfold y0_3
      refine Foot.set_fab rfl ?_
      exact Foot.refl
    clear_value y0_3
    refine Foot.step (State.originate_foot ..) rfl ?_
    exact h_y0_3

theorem State.creditPump_foot (s : State) : Foot 14737563 s (State.creditPump s) := by
  unfold State.creditPump
  extract_lets y0_0 y0_1
  clear_value y0_0
  clear_value y0_1
  refine Foot.each ?_ ?_
  · intro a1_0 a1_1
    refine Foot.ite ?_ ?_
    · refine Foot.step (State.issue_foot ..) rfl ?_
      exact Foot.refl
    · refine Foot.set_fab rfl ?_
      exact Foot.refl
  · refine Foot.set_fab rfl ?_
    exact Foot.refl

theorem State.request_foot (s : State) (q : FReq) : Foot 14737563 s (State.request s q) := by
  unfold State.request
  refine Foot.step (State.creditPump_foot ..) rfl ?_
  refine Foot.set_fab rfl ?_
  exact Foot.refl

theorem State.fenceIssue_foot (s : State) (r b : Nat) : Foot 14737563 s (State.fenceIssue s r b) := by
  unfold State.fenceIssue
  extract_lets y0_0 y0_1
  clear_value y0_0
  clear_value y0_1
  refine Foot.ite ?_ ?_
  · refine Foot.ite ?_ ?_
    · refine Foot.set_fab rfl ?_
      exact Foot.refl
    · exact Foot.refl
  · refine Foot.ite ?_ ?_
    · refine Foot.step (State.fenceFail_foot ..) rfl ?_
      exact Foot.refl
    · refine Foot.step (State.request_foot ..) rfl ?_
      exact Foot.refl

theorem State.fenceStart_foot (s : State) (r : Nat) : Foot 14737563 s (State.fenceStart s r) := by
  unfold State.fenceStart
  refine Foot.ite ?_ ?_
  · exact Foot.refl
  · extract_lets y0_0 y0_1 y0_2 y0_3 y0_4 y0_5
    clear_value y0_0
    have h_y0_1 : Foot 14737563 s y0_1 := by
      unfold y0_1
      refine Foot.step (State.put_foot ..) rfl ?_
      refine Foot.step (State.put_foot ..) rfl ?_
      refine Foot.step (State.put_foot ..) rfl ?_
      exact Foot.refl
    clear_value y0_1
    have h_y0_2 : Foot 14737563 s y0_2 := by
      unfold y0_2
      refine Foot.step (State.put_foot ..) rfl ?_
      refine Foot.step (State.put_foot ..) rfl ?_
      refine Foot.step (State.put_foot ..) rfl ?_
      exact h_y0_1
    clear_value y0_2
    clear_value y0_3
    have h_y0_4 : Foot 14737563 s y0_4 := by
      unfold y0_4
      refine Foot.set_fab rfl ?_
      exact h_y0_2
    clear_value y0_4
    have h_y0_5 : Foot 14737563 s y0_5 := by
      unfold y0_5
      refine Foot.step (State.setDest_foot ..) rfl ?_
      refine Foot.ite ?_ ?_
      · refine Foot.step (State.put_foot ..) rfl ?_
        exact h_y0_4
      · exact h_y0_4
    clear_value y0_5
    refine Foot.each ?_ ?_
    · intro a1_0 a1_1
      refine Foot.step (State.fenceIssue_foot ..) rfl ?_
      exact Foot.refl
    · exact h_y0_5

theorem State.fenceEnd_foot (s : State) (r : Nat) : Foot 16387 s (State.fenceEnd s r) := by
  unfold State.fenceEnd
  extract_lets y0_0 y0_1 y0_2 y0_3 y0_4 y0_5
  clear_value y0_0
  have h_y0_1 : Foot 16387 s y0_1 := by
    unfold y0_1
    refine Foot.step (State.bump_foot ..) rfl ?_
    refine Foot.when ?_ ?_
    · intro a1_0
      refine Foot.step (State.put_foot ..) rfl ?_
      exact Foot.refl
    · refine Foot.step (State.put_foot ..) rfl ?_
      refine Foot.step (State.put_foot ..) rfl ?_
      exact Foot.refl
  clear_value y0_1
  have h_y0_2 : Foot 16387 s y0_2 := by
    unfold y0_2
    refine Foot.step (State.put_foot ..) rfl ?_
    refine Foot.step (State.put_foot ..) rfl ?_
    refine Foot.step (State.put_foot ..) rfl ?_
    refine Foot.step (State.put_foot ..) rfl ?_
    exact h_y0_1
  clear_value y0_2
  clear_value y0_3
  clear_value y0_4
  clear_value y0_5
  refine Foot.ite ?_ ?_
  · refine Foot.set_hbr rfl ?_
    exact h_y0_2
  · exact h_y0_1

theorem execFenceStart_foot (r : Fin 5) (s : State) : FootO 14737563 s (execFenceStart r s) := by
  unfold execFenceStart
  refine FootO.next ?_
  refine State.cmd_foot rfl ?_ ?_
  · intro a0_0
    refine Foot.ite ?_ ?_
    · exact Foot.refl
    · refine Foot.step (State.fenceStart_foot ..) rfl ?_
      exact Foot.refl
  · exact Foot.refl

theorem execFenceComplete_foot (r : Fin 5) (s : State) : FootO 16387 s (execFenceComplete r s) := by
  unfold execFenceComplete
  refine FootO.ite ?_ ?_
  · refine FootO.next ?_
    exact Foot.refl
  · refine FootO.next ?_
    refine Foot.ite ?_ ?_
    · refine Foot.step (State.fenceEnd_foot ..) rfl ?_
      exact Foot.refl
    · exact Foot.refl

theorem execPostedWrFail_foot (tag : BitVec 16) (status : BitVec 8) (addr : BitVec 48) (s : State) : FootO 8396803 s (execPostedWrFail tag status addr s) := by
  unfold execPostedWrFail
  refine FootO.next ?_
  refine Foot.ite ?_ ?_
  · exact Foot.refl
  · refine Foot.step (State.pwFail_foot ..) rfl ?_
    exact Foot.refl

theorem State.semRead_foot (s : State) (k id : Nat) : Foot 1 s (State.semRead s k id).1 := by
  unfold State.semRead
  refine Foot.ite1 ?_ ?_
  · refine Foot.mk1 ?_
    exact Foot.refl
  · refine Foot.mk1 ?_
    refine Foot.step (State.put_foot ..) rfl ?_
    refine Foot.step (State.put_foot ..) rfl ?_
    exact Foot.refl

theorem State.semWrite_foot (s : State) (k id : Nat) : Foot 1 s (State.semWrite s k id).1 := by
  unfold State.semWrite
  refine Foot.ite1 ?_ ?_
  · refine Foot.mk1 ?_
    refine Foot.step (State.clr_foot ..) rfl ?_
    exact Foot.refl
  · refine Foot.mk1 ?_
    exact Foot.refl

theorem execSemRead_foot (k : Fin 32) (who : Who) (s : State) : FootO 12582915 s (execSemRead k who s) := by
  unfold execSemRead
  refine FootO.next ?_
  refine State.readCmd_foot rfl ?_ ?_
  · intro a0_0
    refine Foot.step (State.semRead_foot ..) rfl ?_
    exact Foot.refl
  · exact Foot.refl

theorem execSemWrite_foot (k : Fin 32) (who : Who) (s : State) : FootO 12582915 s (execSemWrite k who s) := by
  unfold execSemWrite
  refine FootO.next ?_
  refine State.ackCmd_foot rfl ?_ ?_
  · intro a0_0
    refine Foot.step (State.semWrite_foot ..) rfl ?_
    exact Foot.refl
  · exact Foot.refl

theorem execSemExpired_foot (k : Fin 32) (s : State) : FootO 8388611 s (execSemExpired k s) := by
  unfold execSemExpired
  refine FootO.ite ?_ ?_
  · refine FootO.next ?_
    exact Foot.refl
  · refine FootO.next ?_
    refine Foot.ite ?_ ?_
    · refine Foot.step (State.fault_foot ..) rfl ?_
      refine Foot.step (State.put_foot ..) rfl ?_
      refine Foot.step (State.bump_foot ..) rfl ?_
      refine Foot.step (State.clr_foot ..) rfl ?_
      exact Foot.refl
    · exact Foot.refl

theorem State.fenceReset_foot (s : State) (r : Nat) : Foot 1 s (State.fenceReset s r) := by
  unfold State.fenceReset
  extract_lets y0_0
  have h_y0_0 : Foot 1 s y0_0 := by
    unfold y0_0
    refine Foot.step (State.put_foot ..) rfl ?_
    refine Foot.each ?_ ?_
    · intro a1_0 a1_1
      refine Foot.step (State.clr_foot ..) rfl ?_
      exact Foot.refl
    · exact Foot.refl
  clear_value y0_0
  refine Foot.ite ?_ ?_
  · refine Foot.step (State.put_foot ..) rfl ?_
    refine Foot.step (State.put_foot ..) rfl ?_
    refine Foot.step (State.put_foot ..) rfl ?_
    refine Foot.step (State.put_foot ..) rfl ?_
    exact h_y0_0
  · exact h_y0_0

theorem State.hbrReset_foot (s : State) : Foot 14737563 s (State.hbrReset s) := by
  unfold State.hbrReset
  extract_lets y0_0 y0_1 y0_2 y0_3 y0_4 y0_5 y0_6
  have h_y0_0 : Foot 14737563 s y0_0 := by
    unfold y0_0
    refine Foot.each ?_ ?_
    · intro a1_0 a1_1
      refine Foot.step (State.clr_foot ..) rfl ?_
      exact Foot.refl
    · refine Foot.each ?_ ?_
      · intro a1_0 a1_1
        refine Foot.step (State.fenceReset_foot ..) rfl ?_
        exact Foot.refl
      · exact Foot.refl
  clear_value y0_0
  clear_value y0_1
  have h_y0_2 : Foot 14737563 s y0_2 := by
    unfold y0_2
    refine Foot.when ?_ ?_
    · intro a1_0
      refine Foot.step (State.put_foot ..) rfl ?_
      refine Foot.step (State.put_foot ..) rfl ?_
      refine Foot.step (State.put_foot ..) rfl ?_
      exact Foot.refl
    · exact h_y0_0
  clear_value y0_2
  clear_value y0_3
  clear_value y0_4
  clear_value y0_5
  clear_value y0_6
  refine Foot.step (State.creditPump_foot ..) rfl ?_
  refine Foot.step (t := y0_2) (m' := 24600) ⟨rfl, fun i => ⟨i.regs, i.live, i.mem, i.biv, i.flash, i.fltQ, i.dlQ⟩, fun _ => rfl, fun _ => rfl, fun _ => rfl, nofun, nofun, fun _ => rfl, fun _ => rfl, fun _ => rfl, fun _ => rfl, fun _ => rfl, fun _ => rfl, fun _ => rfl, fun _ => rfl, nofun, nofun, fun _ => rfl, fun _ => rfl, fun _ => rfl, fun _ => rfl, fun _ => rfl, fun _ => rfl, fun _ => rfl, fun _ => rfl, fun _ => rfl, fun _ => rfl, fun _ => rfl, fun _ => rfl, fun _ => rfl, fun _ => rfl⟩ rfl ?_
  exact h_y0_2

end Sys2Proof.Machine
end

