-- ==== Sys2Proof/Laws/FootListen.lean ====
section
/-! SUPPORT. The footprints of the operations and meanings of Sys2Proof.Machine.Listen. -/
namespace Sys2Proof.Machine

theorem State.setMb_foot (s : State) (n : Nat) (m : MbSt) : Foot 4096 s (State.setMb s n m) := by
  unfold State.setMb
  refine Foot.set_mb rfl ?_
  exact Foot.refl

theorem State.listenPort_foot (s : State) (n : Nat) : Foot 1 s (State.listenPort s n) := by
  unfold State.listenPort
  extract_lets y0_0
  clear_value y0_0
  refine Foot.ite ?_ ?_
  · refine Foot.step (State.put_foot ..) rfl ?_
    exact Foot.refl
  · refine Foot.ite ?_ ?_
    · refine Foot.step (State.put_foot ..) rfl ?_
      exact Foot.refl
    · exact Foot.refl

theorem State.listenCheck_foot (s : State) : Foot 1 s (State.listenCheck s) := by
  unfold State.listenCheck
  refine Foot.each ?_ ?_
  · intro a0_0 a0_1
    refine Foot.step (State.listenPort_foot ..) rfl ?_
    exact Foot.refl
  · exact Foot.refl

end Sys2Proof.Machine
end

