-- ==== Sys2Proof/Laws/FootMsgBus.lean ====
section
/-! SUPPORT. The footprints of the operations and meanings of Sys2Proof.Machine.MsgBus. -/
namespace Sys2Proof.Machine

theorem State.setObj_foot (s : State) (map : Nat → Fld) (i : Nat) : Foot 1 s (State.setObj s map i) := by
  unfold State.setObj
  refine Foot.step (State.setBit_foot ..) rfl ?_
  exact Foot.refl

theorem State.clrObj_foot (s : State) (map : Nat → Fld) (i : Nat) : Foot 1 s (State.clrObj s map i) := by
  unfold State.clrObj
  refine Foot.step (State.clrBit_foot ..) rfl ?_
  exact Foot.refl

theorem State.mbReads_foot (n : Nat) : ∀ (s : State) (off : Nat), Foot 8388619 s (State.mbReads s off n).1 := by
  induction n with
  | zero => intro s _; exact Foot.refl
  | succ n ih => intro s off; exact (ih _ _).step rfl (State.hubRead_foot ..)

theorem State.mbWrites_foot (l : List Nat) : ∀ (s : State) (off : Nat), Foot 8388623 s (State.mbWrites s off l) := by
  induction l with
  | nil => intro s _; exact Foot.refl
  | cons w l ih => intro s off; exact (ih _ _).step rfl (State.hubWrite_foot ..)

theorem State.objWrite_foot (s : State) (off : Nat) (hdr : Nat → Nat) (ws : List Nat) : Foot 8388623 s (State.objWrite s off hdr ws) := by
  unfold State.objWrite
  extract_lets y0_0 y0_1 y0_2 y0_3
  have h_y0_0 : Foot 8388623 s y0_0.1 := by
    unfold y0_0
    refine Foot.step (State.hubRead_foot ..) rfl ?_
    exact Foot.refl
  clear_value y0_0
  clear_value y0_1
  clear_value y0_2
  clear_value y0_3
  refine Foot.step (State.hubWrite_foot ..) rfl ?_
  refine Foot.step (State.mbWrites_foot ..) rfl ?_
  refine Foot.step (State.hubWrite_foot ..) rfl ?_
  exact h_y0_0

theorem State.mbFail_foot (s : State) (n cause i : Nat) : Foot 1 s (State.mbFail s n cause i) := by
  unfold State.mbFail
  refine Foot.step (State.put_foot ..) rfl ?_
  refine Foot.step (State.put_foot ..) rfl ?_
  refine Foot.step (State.put_foot ..) rfl ?_
  refine Foot.step (State.setObj_foot ..) rfl ?_
  refine Foot.step (State.clrObj_foot ..) rfl ?_
  exact Foot.refl

theorem State.mbFailAll_foot (s : State) (n cause : Nat) : Foot 1 s (State.mbFailAll s n cause) := by
  unfold State.mbFailAll
  refine Foot.each ?_ ?_
  · intro a0_0 a0_1
    refine Foot.step (State.mbFail_foot ..) rfl ?_
    exact Foot.refl
  · exact Foot.refl

theorem State.mbEnter_foot (s : State) (n : Nat) : Foot 8388611 s (State.mbEnter s n) := by
  unfold State.mbEnter
  refine Foot.ite ?_ ?_
  · refine Foot.step (State.put_foot ..) rfl ?_
    exact Foot.refl
  · refine Foot.ite ?_ ?_
    · refine Foot.step (State.fault_foot ..) rfl ?_
      refine Foot.step (State.put_foot ..) rfl ?_
      refine Foot.step (State.put_foot ..) rfl ?_
      exact Foot.refl
    · refine Foot.step (State.put_foot ..) rfl ?_
      exact Foot.refl

theorem State.mbShow_foot (s : State) (n tec rxe : Nat) : Foot 4097 s (State.mbShow s n tec rxe) := by
  unfold State.mbShow
  extract_lets y0_0 y0_1 y0_2
  clear_value y0_0
  clear_value y0_1
  have h_y0_2 : Foot 4097 s y0_2 := by
    unfold y0_2
    refine Foot.step (State.setMb_foot ..) rfl ?_
    exact Foot.refl
  clear_value y0_2
  refine Foot.step (State.put_foot ..) rfl ?_
  refine Foot.step (State.put_foot ..) rfl ?_
  refine Foot.step (State.put_foot ..) rfl ?_
  refine Foot.step (State.put_foot ..) rfl ?_
  refine Foot.step (State.put_foot ..) rfl ?_
  exact h_y0_2

theorem State.mbThroughOff_foot (s : State) (n : Nat) : Foot 8392707 s (State.mbThroughOff s n) := by
  unfold State.mbThroughOff
  extract_lets y0_0 y0_1 y0_2
  clear_value y0_0
  have h_y0_1 : Foot 8392707 s y0_1 := by
    unfold y0_1
    refine Foot.step (State.mbShow_foot ..) rfl ?_
    refine Foot.step (State.setMb_foot ..) rfl ?_
    exact Foot.refl
  clear_value y0_1
  have h_y0_2 : Foot 8392707 s y0_2 := by
    unfold y0_2
    refine Foot.ite ?_ ?_
    · exact h_y0_1
    · refine Foot.step (State.mbFailAll_foot ..) rfl ?_
      exact h_y0_1
  clear_value y0_2
  refine Foot.step (State.mbEnter_foot ..) rfl ?_
  exact h_y0_2

theorem State.mbFrameEnd_foot (s : State) (n : Nat) : Foot 8392707 s (State.mbFrameEnd s n) := by
  unfold State.mbFrameEnd
  extract_lets y0_0 y0_1
  clear_value y0_0
  have h_y0_1 : Foot 8392707 s y0_1 := by
    unfold y0_1
    refine Foot.step (State.put_foot ..) rfl ?_
    refine Foot.step (State.put_foot ..) rfl ?_
    refine Foot.step (State.setMb_foot ..) rfl ?_
    exact Foot.refl
  clear_value y0_1
  refine Foot.ite ?_ ?_
  · refine Foot.step (State.mbThroughOff_foot ..) rfl ?_
    exact h_y0_1
  · refine Foot.step (State.listenPort_foot ..) rfl ?_
    exact h_y0_1

theorem State.mbResetEnd_foot (s : State) (n : Nat) : Foot 8392707 s (State.mbResetEnd s n) := by
  unfold State.mbResetEnd
  refine Foot.ite ?_ ?_
  · refine Foot.step (State.mbFrameEnd_foot ..) rfl ?_
    exact Foot.refl
  · exact Foot.refl

theorem State.mbBusOff_foot (s : State) (n : Nat) : Foot 8392707 s (State.mbBusOff s n) := by
  unfold State.mbBusOff
  extract_lets y0_0 y0_1 y0_2 y0_3 y0_4 y0_5 y0_6
  clear_value y0_0
  have h_y0_1 : Foot 8392707 s y0_1 := by
    unfold y0_1
    refine Foot.step (State.bump_foot ..) rfl ?_
    refine Foot.step (State.put_foot ..) rfl ?_
    refine Foot.step (State.put_foot ..) rfl ?_
    exact Foot.refl
  clear_value y0_1
  have h_y0_2 : Foot 8392707 s y0_2 := by
    unfold y0_2
    refine Foot.step (State.fault_foot ..) rfl ?_
    exact h_y0_1
  clear_value y0_2
  have h_y0_3 : Foot 8392707 s y0_3 := by
    unfold y0_3
    split
    · refine Foot.ite ?_ ?_
      · refine Foot.step (State.mbFail_foot ..) rfl ?_
        exact h_y0_2
      · exact h_y0_2
    · exact h_y0_2
  clear_value y0_3
  have h_y0_4 : Foot 8392707 s y0_4 := by
    unfold y0_4
    refine Foot.ite ?_ ?_
    · refine Foot.step (State.mbFailAll_foot ..) rfl ?_
      exact h_y0_3
    · exact h_y0_3
  clear_value y0_4
  clear_value y0_5
  have h_y0_6 : Foot 8392707 s y0_6 := by
    unfold y0_6
    refine Foot.step (State.put_foot ..) rfl ?_
    refine Foot.step (State.setMb_foot ..) rfl ?_
    exact h_y0_4
  clear_value y0_6
  refine Foot.step (State.mbFrameEnd_foot ..) rfl ?_
  exact h_y0_6

theorem State.mbErrCount_foot (s : State) (n tec rxe : Nat) : Foot 8392707 s (State.mbErrCount s n tec rxe) := by
  unfold State.mbErrCount
  extract_lets y0_0 y0_1 y0_2 y0_3 y0_4
  clear_value y0_0
  clear_value y0_1
  have h_y0_2 : Foot 8392707 s y0_2 := by
    unfold y0_2
    refine Foot.step (State.mbShow_foot ..) rfl ?_
    exact Foot.refl
  clear_value y0_2
  have h_y0_3 : Foot 8392707 s y0_3 := by
    unfold y0_3
    refine Foot.when ?_ ?_
    · intro a1_0
      refine Foot.step (State.put_foot ..) rfl ?_
      exact Foot.refl
    · exact h_y0_2
  clear_value y0_3
  have h_y0_4 : Foot 8392707 s y0_4 := by
    unfold y0_4
    refine Foot.when ?_ ?_
    · intro a1_0
      refine Foot.step (State.fault_foot ..) rfl ?_
      refine Foot.step (State.put_foot ..) rfl ?_
      exact Foot.refl
    · exact h_y0_3
  clear_value y0_4
  refine Foot.ite ?_ ?_
  · refine Foot.step (State.mbBusOff_foot ..) rfl ?_
    exact h_y0_4
  · exact h_y0_4

theorem State.mbError_foot (s : State) (n type field : Nat) (dphase tx exempt : Bool) : Foot 8392707 s (State.mbError s n type field dphase tx exempt) := by
  unfold State.mbError
  extract_lets y0_0 y0_1 y0_2 y0_3
  have h_y0_0 : Foot 8392707 s y0_0 := by
    unfold y0_0
    refine Foot.step (State.bump_foot ..) rfl ?_
    refine Foot.step (State.put_foot ..) rfl ?_
    refine Foot.step (State.put_foot ..) rfl ?_
    refine Foot.step (State.put_foot ..) rfl ?_
    refine Foot.step (State.put_foot ..) rfl ?_
    exact Foot.refl
  clear_value y0_0
  clear_value y0_1
  clear_value y0_2
  have h_y0_3 : Foot 8392707 s y0_3 := by
    unfold y0_3
    refine Foot.ite ?_ ?_
    · exact h_y0_0
    · refine Foot.ite ?_ ?_
      · refine Foot.step (State.mbErrCount_foot ..) rfl ?_
        exact h_y0_0
      · refine Foot.step (State.mbErrCount_foot ..) rfl ?_
        exact h_y0_0
  clear_value y0_3
  refine Foot.ite ?_ ?_
  · exact h_y0_3
  · refine Foot.step (State.mbFrameEnd_foot ..) rfl ?_
    exact h_y0_3

theorem State.mbRxGood_foot (s : State) (n : Nat) : Foot 8392707 s (State.mbRxGood s n) := by
  unfold State.mbRxGood
  extract_lets y0_0
  clear_value y0_0
  refine Foot.ite ?_ ?_
  · exact Foot.refl
  · refine Foot.ite ?_ ?_
    · refine Foot.step (State.mbErrCount_foot ..) rfl ?_
      exact Foot.refl
    · refine Foot.step (State.mbErrCount_foot ..) rfl ?_
      refine Foot.step (State.setMb_foot ..) rfl ?_
      exact Foot.refl

theorem execCanIntegrated_foot (port : Fin 4) (s : State) : FootO 1 s (execCanIntegrated port s) := by
  unfold execCanIntegrated
  refine FootO.ite ?_ ?_
  · refine FootO.next ?_
    exact Foot.refl
  · refine FootO.next ?_
    refine Foot.ite ?_ ?_
    · refine Foot.step (State.put_foot ..) rfl ?_
      exact Foot.refl
    · exact Foot.refl

theorem State.objDo_foot (s : State) (n : Nat) (j : MbJob) : Foot 8388623 s (State.objDo s n j) := by
  unfold State.objDo
  split
  · extract_lets y1_0 y1_1
    have h_y1_0 : Foot 8388623 s y1_0 := by
      unfold y1_0
      refine Foot.when ?_ ?_
      · intro a2_0
        refine Foot.step (State.bump_foot ..) rfl ?_
        refine Foot.step (State.put_foot ..) rfl ?_
        refine Foot.step (State.setObj_foot ..) rfl ?_
        exact Foot.refl
      · exact Foot.refl
    clear_value y1_0
    have h_y1_1 : Foot 8388623 s y1_1 := by
      unfold y1_1
      refine Foot.step (State.objWrite_foot ..) rfl ?_
      exact h_y1_0
    clear_value y1_1
    refine Foot.step (State.bump_foot ..) rfl ?_
    refine Foot.step (State.put_foot ..) rfl ?_
    refine Foot.step (State.setObj_foot ..) rfl ?_
    exact h_y1_1
  · extract_lets y1_0
    have h_y1_0 : Foot 8388623 s y1_0 := by
      unfold y1_0
      refine Foot.step (State.objWrite_foot ..) rfl ?_
      exact Foot.refl
    clear_value y1_0
    refine Foot.step (State.bump_foot ..) rfl ?_
    refine Foot.step (State.put_foot ..) rfl ?_
    refine Foot.step (State.setObj_foot ..) rfl ?_
    refine Foot.step (State.clrObj_foot ..) rfl ?_
    exact h_y1_0

theorem State.objPut_foot (s : State) (n : Nat) (j : MbJob) : Foot 8392719 s (State.objPut s n j) := by
  unfold State.objPut
  extract_lets y0_0
  clear_value y0_0
  refine Foot.ite ?_ ?_
  · refine Foot.step (State.ask_foot ..) rfl ?_
    refine Foot.step (State.setMb_foot ..) rfl ?_
    exact Foot.refl
  · refine Foot.step (State.objDo_foot ..) rfl ?_
    exact Foot.refl

theorem State.objPump_foot (s : State) (n : Nat) : Foot 8392719 s (State.objPump s n) := by
  unfold State.objPump
  refine Foot.each ?_ ?_
  · intro a0_0 a0_1
    split
    · exact Foot.refl
    · refine Foot.ite ?_ ?_
      · exact Foot.refl
      · refine Foot.step (State.objDo_foot ..) rfl ?_
        refine Foot.step (State.setMb_foot ..) rfl ?_
        exact Foot.refl
  · exact Foot.refl

theorem State.objPumpAll_foot (s : State) : Foot 8392719 s (State.objPumpAll s) := by
  unfold State.objPumpAll
  refine Foot.ite ?_ ?_
  · exact Foot.refl
  · refine Foot.each ?_ ?_
    · intro a0_0 a0_1
      refine Foot.step (State.objPump_foot ..) rfl ?_
      exact Foot.refl
    · exact Foot.refl

theorem State.objStore_foot (s : State) (n i hdr sof : Nat) (data : List Byte) : Foot 8392719 s (State.objStore s n i hdr sof data) := by
  unfold State.objStore
  refine Foot.step (State.objPut_foot ..) rfl ?_
  exact Foot.refl

theorem execCanFrameRx_foot (port : Fin 4) (id : BitVec 29) (ide fdf brs esi rtr : Bool) (dlc : BitVec 4) (data : List Byte) (sof : DWord) (s : State) : FootO 8392719 s (execCanFrameRx port id ide fdf brs esi rtr dlc data sof s) := by
  unfold execCanFrameRx
  refine FootO.ite ?_ ?_
  · refine FootO.next ?_
    refine Foot.step (State.mbResetEnd_foot ..) rfl ?_
    exact Foot.refl
  · extract_lets y0_0 y0_1 y0_2 y0_3 y0_4 y0_5
    clear_value y0_0
    clear_value y0_1
    have h_y0_2 : Foot 8392719 s y0_2 := by
      unfold y0_2
      refine Foot.step (State.mbRxGood_foot ..) rfl ?_
      exact Foot.refl
    clear_value y0_2
    clear_value y0_3
    clear_value y0_4
    have h_y0_5 : Foot 8392719 s y0_5 := by
      unfold y0_5
      refine Foot.ite ?_ ?_
      · refine Foot.step (State.bump_foot ..) rfl ?_
        exact h_y0_2
      · split
        · refine Foot.step (State.put_foot ..) rfl ?_
          refine Foot.step (State.bump_foot ..) rfl ?_
          exact h_y0_2
        · refine Foot.step (State.objStore_foot ..) rfl ?_
          exact h_y0_2
    clear_value y0_5
    refine FootO.next ?_
    refine Foot.ite ?_ ?_
    · exact Foot.refl
    · refine Foot.ite ?_ ?_
      · refine Foot.step (State.mbError_foot ..) rfl ?_
        exact Foot.refl
      · refine Foot.step (State.mbFrameEnd_foot ..) rfl ?_
        exact h_y0_5

theorem State.txRequest_foot (s : State) (n i : Nat) : Foot 1 s (State.txRequest s n i) := by
  unfold State.txRequest
  refine Foot.ite ?_ ?_
  · refine Foot.step (State.put_foot ..) rfl ?_
    exact Foot.refl
  · extract_lets y0_0 y0_1
    have h_y0_0 : Foot 1 s y0_0 := by
      unfold y0_0
      refine Foot.step (State.clrObj_foot ..) rfl ?_
      refine Foot.step (State.clrObj_foot ..) rfl ?_
      refine Foot.step (State.setObj_foot ..) rfl ?_
      exact Foot.refl
    clear_value y0_0
    clear_value y0_1
    refine Foot.ite ?_ ?_
    · refine Foot.step (State.mbFail_foot ..) rfl ?_
      exact h_y0_0
    · refine Foot.ite ?_ ?_
      · refine Foot.step (State.mbFail_foot ..) rfl ?_
        exact h_y0_0
      · exact h_y0_0

theorem execTxReq_foot (port : Fin 4) (index : BitVec 11) (s : State) : FootO 8388611 s (execTxReq port index s) := by
  unfold execTxReq
  refine FootO.next ?_
  refine State.cmd_foot rfl ?_ ?_
  · intro a0_0
    refine Foot.step (State.txRequest_foot ..) rfl ?_
    exact Foot.refl
  · exact Foot.refl

theorem State.txAbort_foot (s : State) (n i : Nat) : Foot 4097 s (State.txAbort s n i) := by
  unfold State.txAbort
  refine Foot.ite ?_ ?_
  · exact Foot.refl
  · split
    · refine Foot.ite ?_ ?_
      · refine Foot.step (State.setMb_foot ..) rfl ?_
        exact Foot.refl
      · refine Foot.step (State.mbFail_foot ..) rfl ?_
        exact Foot.refl
    · refine Foot.step (State.mbFail_foot ..) rfl ?_
      exact Foot.refl

theorem execTxAbort_foot (port : Fin 4) (index : BitVec 11) (s : State) : FootO 8392707 s (execTxAbort port index s) := by
  unfold execTxAbort
  refine FootO.next ?_
  refine State.cmd_foot rfl ?_ ?_
  · intro a0_0
    refine Foot.step (State.txAbort_foot ..) rfl ?_
    exact Foot.refl
  · exact Foot.refl

theorem State.txOffer_foot (s : State) (n : Nat) : Foot 8388619 s (State.txOffer s n).1 := by
  unfold State.txOffer
  split
  · refine Foot.mk1 ?_
    exact Foot.refl
  · refine Foot.ite1 ?_ ?_
    · refine Foot.mk1 ?_
      refine Foot.step (State.ask_foot ..) rfl ?_
      exact Foot.refl
    · extract_lets y1_0
      have h_y1_0 : Foot 8388619 s y1_0.1 := by
        unfold y1_0
        refine Foot.step (State.mbReads_foot ..) rfl ?_
        exact Foot.refl
      clear_value y1_0
      refine Foot.mk1 ?_
      exact h_y1_0

theorem execCanArbitration_foot (port : Fin 4) (won : Bool) (sof : DWord) (s : State) : FootO 8392715 s (execCanArbitration port won sof s) := by
  unfold execCanArbitration
  refine FootO.ite ?_ ?_
  · refine FootO.next ?_
    exact Foot.refl
  · extract_lets y0_0 y0_1 y0_2 y0_3 y0_4
    clear_value y0_0
    clear_value y0_1
    have h_y0_2 : Foot 8392715 s y0_2.1 := by
      unfold y0_2
      refine Foot.ite1 ?_ ?_
      · refine Foot.step (State.txOffer_foot ..) rfl ?_
        exact Foot.refl
      · refine Foot.mk1 ?_
        exact Foot.refl
    clear_value y0_2
    clear_value y0_3
    have h_y0_4 : Foot 8392715 s y0_4 := by
      unfold y0_4
      refine Foot.step (State.put_foot ..) rfl ?_
      refine Foot.step (State.bump_foot ..) rfl ?_
      exact h_y0_2
    clear_value y0_4
    refine FootO.next ?_
    refine Foot.ite ?_ ?_
    · exact Foot.refl
    · split
      · refine Foot.ite ?_ ?_
        · exact h_y0_2
        · refine Foot.step (State.put_foot ..) rfl ?_
          exact h_y0_2
      · refine Foot.ite ?_ ?_
        · refine Foot.step (State.put_foot ..) rfl ?_
          refine Foot.step (State.setMb_foot ..) rfl ?_
          exact h_y0_2
        · refine Foot.ite ?_ ?_
          · refine Foot.step (State.mbFail_foot ..) rfl ?_
            exact h_y0_4
          · exact h_y0_4

theorem State.tdcMeasure_foot (s : State) (n delay : Nat) (body : List DWord) : Foot 1 s (State.tdcMeasure s n delay body) := by
  unfold State.tdcMeasure
  refine Foot.ite ?_ ?_
  · refine Foot.when ?_ ?_
    · intro a0_0
      refine Foot.step (State.put_foot ..) rfl ?_
      exact Foot.refl
    · refine Foot.step (State.put_foot ..) rfl ?_
      exact Foot.refl
  · exact Foot.refl

theorem execCanTxEnd_foot (port : Fin 4) (good : Bool) (delay : BitVec 16) (s : State) : FootO 8392719 s (execCanTxEnd port good delay s) := by
  unfold execCanTxEnd
  refine FootO.ite ?_ ?_
  · refine FootO.next ?_
    refine Foot.step (State.mbResetEnd_foot ..) rfl ?_
    exact Foot.refl
  · extract_lets y0_0
    clear_value y0_0
    refine FootO.next ?_
    split
    · exact Foot.refl
    · extract_lets y2_0 y2_1 y2_2
      have h_y2_0 : Foot 8392719 s y2_0 := by
        unfold y2_0
        refine Foot.step (State.tdcMeasure_foot ..) rfl ?_
        exact Foot.refl
      clear_value y2_0
      have h_y2_1 : Foot 8392719 s y2_1 := by
        unfold y2_1
        refine Foot.step (State.mbErrCount_foot ..) rfl ?_
        exact h_y2_0
      clear_value y2_1
      have h_y2_2 : Foot 8392719 s y2_2 := by
        unfold y2_2
        refine Foot.ite ?_ ?_
        · refine Foot.ite ?_ ?_
          · exact h_y2_1
          · refine Foot.step (State.objPut_foot ..) rfl ?_
            exact h_y2_1
        · refine Foot.ite ?_ ?_
          · exact h_y2_0
          · refine Foot.ite ?_ ?_
            · refine Foot.step (State.mbFail_foot ..) rfl ?_
              exact h_y2_0
            · refine Foot.ite ?_ ?_
              · refine Foot.step (State.mbFail_foot ..) rfl ?_
                exact h_y2_0
              · exact h_y2_0
      clear_value y2_2
      refine Foot.step (State.mbFrameEnd_foot ..) rfl ?_
      exact h_y2_2

theorem execCanError_foot (port : Fin 4) (kind : Fin 5) (field : Fin 7) (dphase tx exempt : Bool) (s : State) : FootO 8392707 s (execCanError port kind field dphase tx exempt s) := by
  unfold execCanError
  refine FootO.ite ?_ ?_
  · refine FootO.next ?_
    exact Foot.refl
  · extract_lets y0_0 y0_1
    clear_value y0_0
    clear_value y0_1
    refine FootO.next ?_
    refine Foot.ite ?_ ?_
    · refine Foot.step (State.mbError_foot ..) rfl ?_
      exact Foot.refl
    · exact Foot.refl

theorem State.mbRecovered_foot (s : State) (n : Nat) : Foot 4097 s (State.mbRecovered s n) := by
  unfold State.mbRecovered
  extract_lets y0_0 y0_1
  clear_value y0_0
  have h_y0_1 : Foot 4097 s y0_1 := by
    unfold y0_1
    refine Foot.step (State.setMb_foot ..) rfl ?_
    refine Foot.step (State.put_foot ..) rfl ?_
    exact Foot.refl
  clear_value y0_1
  refine Foot.step (State.put_foot ..) rfl ?_
  refine Foot.step (State.put_foot ..) rfl ?_
  refine Foot.step (State.mbShow_foot ..) rfl ?_
  exact h_y0_1

theorem State.mbRestart_foot (s : State) (n : Nat) : Foot 4097 s (State.mbRestart s n) := by
  unfold State.mbRestart
  refine Foot.ite ?_ ?_
  · refine Foot.step (State.put_foot ..) rfl ?_
    refine Foot.step (State.setMb_foot ..) rfl ?_
    exact Foot.refl
  · exact Foot.refl

theorem execRestart_foot (port : Fin 4) (s : State) : FootO 8392707 s (execRestart port s) := by
  unfold execRestart
  refine FootO.next ?_
  refine State.cmd_foot rfl ?_ ?_
  · intro a0_0
    refine Foot.step (State.mbRestart_foot ..) rfl ?_
    exact Foot.refl
  · exact Foot.refl

theorem execRecoveryOccurrence_foot (port : Fin 4) (s : State) : FootO 4097 s (execRecoveryOccurrence port s) := by
  unfold execRecoveryOccurrence
  refine FootO.ite ?_ ?_
  · refine FootO.next ?_
    exact Foot.refl
  · extract_lets y0_0
    clear_value y0_0
    refine FootO.next ?_
    refine Foot.ite ?_ ?_
    · refine Foot.ite ?_ ?_
      · refine Foot.step (State.mbRecovered_foot ..) rfl ?_
        exact Foot.refl
      · refine Foot.step (State.wrapAdd_foot ..) rfl ?_
        exact Foot.refl
    · exact Foot.refl

theorem execCanRecovered_foot (port : Fin 4) (s : State) : FootO 4097 s (execCanRecovered port s) := by
  unfold execCanRecovered
  refine FootO.ite ?_ ?_
  · refine FootO.next ?_
    exact Foot.refl
  · extract_lets y0_0
    clear_value y0_0
    refine FootO.next ?_
    refine Foot.ite ?_ ?_
    · refine Foot.step (State.mbRecovered_foot ..) rfl ?_
      exact Foot.refl
    · exact Foot.refl

theorem State.mbObjDrop_foot (s : State) (n i : Nat) : Foot 4097 s (State.mbObjDrop s n i) := by
  unfold State.mbObjDrop
  extract_lets y0_0 y0_1
  have h_y0_0 : Foot 4097 s y0_0 := by
    unfold y0_0
    refine Foot.each ?_ ?_
    · intro a1_0 a1_1
      refine Foot.step (State.clrObj_foot ..) rfl ?_
      exact Foot.refl
    · exact Foot.refl
  clear_value y0_0
  clear_value y0_1
  refine Foot.step (State.setMb_foot ..) rfl ?_
  exact h_y0_0

theorem State.mbApplyPort_foot (s old : State) (n : Nat) : Foot 8392707 s (State.mbApplyPort s old n) := by
  unfold State.mbApplyPort
  extract_lets y0_0 y0_1 y0_2 y0_3
  have h_y0_0 : Foot 8392707 s y0_0 := by
    unfold y0_0
    refine Foot.each ?_ ?_
    · intro a1_0 a1_1
      refine Foot.step (State.mbObjDrop_foot ..) rfl ?_
      exact Foot.refl
    · exact Foot.refl
  clear_value y0_0
  clear_value y0_1
  clear_value y0_2
  clear_value y0_3
  refine Foot.ite ?_ ?_
  · refine Foot.ite ?_ ?_
    · refine Foot.step (State.setMb_foot ..) rfl ?_
      exact h_y0_0
    · refine Foot.step (State.mbThroughOff_foot ..) rfl ?_
      exact h_y0_0
  · refine Foot.ite ?_ ?_
    · refine Foot.step (State.mbEnter_foot ..) rfl ?_
      exact h_y0_0
    · refine Foot.step (State.listenPort_foot ..) rfl ?_
      exact h_y0_0

theorem State.mbApply_foot (s old : State) : Foot 8392707 s (State.mbApply s old) := by
  unfold State.mbApply
  refine Foot.each ?_ ?_
  · intro a0_0 a0_1
    refine Foot.step (State.mbApplyPort_foot ..) rfl ?_
    exact Foot.refl
  · exact Foot.refl

theorem State.mbClear_foot (s : State) (n : Nat) : Foot 4097 s (State.mbClear s n) := by
  unfold State.mbClear
  extract_lets y0_0 y0_1
  have h_y0_0 : Foot 4097 s y0_0 := by
    unfold y0_0
    refine Foot.each ?_ ?_
    · intro a1_0 a1_1
      refine Foot.each ?_ ?_
      · intro a2_0 a2_1
        refine Foot.step (State.clr_foot ..) rfl ?_
        exact Foot.refl
      · exact Foot.refl
    · exact Foot.refl
  clear_value y0_0
  clear_value y0_1
  refine Foot.step (State.mbShow_foot ..) rfl ?_
  refine Foot.step (State.setMb_foot ..) rfl ?_
  exact h_y0_0

theorem State.mbReset_foot (s : State) : Foot 4097 s (State.mbReset s) := by
  unfold State.mbReset
  refine Foot.each ?_ ?_
  · intro a0_0 a0_1
    extract_lets y1_0 y1_1 y1_2
    have h_y1_0 : Foot 4097 a0_0 y1_0 := by
      unfold y1_0
      refine Foot.each ?_ ?_
      · intro a2_0 a2_1
        refine Foot.step (State.clr_foot ..) rfl ?_
        exact Foot.refl
      · exact Foot.refl
    clear_value y1_0
    have h_y1_1 : Foot 4097 a0_0 y1_1 := by
      unfold y1_1
      refine Foot.step (State.mbClear_foot ..) rfl ?_
      refine Foot.step (State.put_foot ..) rfl ?_
      refine Foot.step (State.put_foot ..) rfl ?_
      exact h_y1_0
    clear_value y1_1
    clear_value y1_2
    refine Foot.ite ?_ ?_
    · refine Foot.step (State.setMb_foot ..) rfl ?_
      exact h_y1_1
    · refine Foot.step (State.put_foot ..) rfl ?_
      refine Foot.step (State.setMb_foot ..) rfl ?_
      exact h_y1_1
  · refine Foot.step (State.clr_foot ..) rfl ?_
    exact Foot.refl

theorem State.mbRelease_foot (s : State) : Foot 8388611 s (State.mbRelease s) := by
  unfold State.mbRelease
  refine Foot.each ?_ ?_
  · intro a0_0 a0_1
    refine Foot.ite ?_ ?_
    · refine Foot.step (State.mbEnter_foot ..) rfl ?_
      exact Foot.refl
    · exact Foot.refl
  · exact Foot.refl

theorem State.mbDormant_foot (s : State) : Foot 4097 s (State.mbDormant s) := by
  unfold State.mbDormant
  refine Foot.each ?_ ?_
  · intro a0_0 a0_1
    refine Foot.step (State.put_foot ..) rfl ?_
    refine Foot.step (State.put_foot ..) rfl ?_
    refine Foot.step (State.put_foot ..) rfl ?_
    refine Foot.step (State.setMb_foot ..) rfl ?_
    exact Foot.refl
  · exact Foot.refl

end Sys2Proof.Machine
end

