-- ==== Sys2Proof/Laws/FootInterrupt.lean ====
section
/-! SUPPORT. The footprints of the operations and meanings of Sys2Proof.Machine.Interrupt. -/
namespace Sys2Proof.Machine

theorem State.grpRelease_foot (s : State) (g : Nat) : Foot 1 s (State.grpRelease s g) := by
  unfold State.grpRelease
  refine Foot.ite ?_ ?_
  · refine Foot.step (State.put_foot ..) rfl ?_
    exact Foot.refl
  · exact Foot.refl

theorem State.grpStep_foot (s : State) (g n : Nat) : Foot 33554433 s (State.grpStep s g n) := by
  unfold State.grpStep
  extract_lets y0_0 y0_1 y0_2 y0_3 y0_4 y0_5 y0_6
  clear_value y0_0
  clear_value y0_1
  clear_value y0_2
  clear_value y0_3
  clear_value y0_4
  have h_y0_5 : Foot 33554433 s y0_5 := by
    unfold y0_5
    refine Foot.step (State.put_foot ..) rfl ?_
    refine Foot.step (State.put_foot ..) rfl ?_
    exact Foot.refl
  clear_value y0_5
  have h_y0_6 : Foot 33554433 s y0_6 := by
    unfold y0_6
    refine Foot.step (State.grpRelease_foot ..) rfl ?_
    refine Foot.step (State.satAdd_foot ..) rfl ?_
    exact Foot.refl
  clear_value y0_6
  refine Foot.ite ?_ ?_
  · refine Foot.ite ?_ ?_
    · exact Foot.refl
    · refine Foot.step (State.grpRelease_foot ..) rfl ?_
      refine Foot.set_grpT0 rfl ?_
      exact h_y0_5
  · refine Foot.ite ?_ ?_
    · refine Foot.ite ?_ ?_
      · refine Foot.step (State.put_foot ..) rfl ?_
        refine Foot.step (State.put_foot ..) rfl ?_
        exact h_y0_6
      · exact h_y0_6
    · refine Foot.ite ?_ ?_
      · exact Foot.refl
      · refine Foot.step (State.put_foot ..) rfl ?_
        refine Foot.step (State.put_foot ..) rfl ?_
        exact Foot.refl

theorem State.intcSample_foot (s : State) : Foot 100663297 s (State.intcSample s) := by
  unfold State.intcSample
  refine Foot.ite ?_ ?_
  · exact Foot.refl
  · extract_lets y0_0 y0_1 y0_2
    clear_value y0_0
    clear_value y0_1
    have h_y0_2 : Foot 100663297 s y0_2 := by
      unfold y0_2
      refine Foot.each ?_ ?_
      · intro a1_0 a1_1
        refine Foot.step (State.grpStep_foot ..) rfl ?_
        exact Foot.refl
      · exact Foot.refl
    clear_value y0_2
    refine Foot.each ?_ ?_
    · intro a1_0 a1_1
      refine Foot.set_seenP rfl ?_
      exact Foot.refl
    · exact h_y0_2

theorem State.claimOne_foot (s : State) (t n : Nat) : Foot 1 s (State.claimOne s t n) := by
  unfold State.claimOne
  refine Foot.ite ?_ ?_
  · refine Foot.step (State.setBit_foot ..) rfl ?_
    refine Foot.step (State.clrBit_foot ..) rfl ?_
    exact Foot.refl
  · exact Foot.refl

theorem State.doneOne_foot (s : State) (t n : Nat) : Foot 1 s (State.doneOne s t n) := by
  unfold State.doneOne
  refine Foot.ite ?_ ?_
  · refine Foot.step (State.clrBit_foot ..) rfl ?_
    exact Foot.refl
  · exact Foot.refl

theorem State.claim_foot (s : State) (t w : Nat) (m : Word) : Foot 100663297 s (State.claim s t w m) := by
  unfold State.claim
  refine Foot.step (State.intcSample_foot ..) rfl ?_
  refine Foot.each ?_ ?_
  · intro a0_0 a0_1
    refine Foot.step (State.claimOne_foot ..) rfl ?_
    exact Foot.refl
  · refine Foot.step (State.intcSample_foot ..) rfl ?_
    exact Foot.refl

theorem State.complete_foot (s : State) (t w : Nat) (m : Word) : Foot 100663297 s (State.complete s t w m) := by
  unfold State.complete
  refine Foot.step (State.intcSample_foot ..) rfl ?_
  refine Foot.each ?_ ?_
  · intro a0_0 a0_1
    refine Foot.step (State.doneOne_foot ..) rfl ?_
    exact Foot.refl
  · refine Foot.step (State.intcSample_foot ..) rfl ?_
    exact Foot.refl

theorem State.swi_foot (s : State) (m : Nat) : Foot 100663297 s (State.swi s m) := by
  unfold State.swi
  refine Foot.step (State.intcSample_foot ..) rfl ?_
  refine Foot.each ?_ ?_
  · intro a0_0 a0_1
    refine Foot.step (State.edgeIrq_foot ..) rfl ?_
    exact Foot.refl
  · refine Foot.step (State.intcSample_foot ..) rfl ?_
    exact Foot.refl

theorem State.intcUnitReset_foot (s : State) : Foot 100663297 s (State.intcUnitReset s) := by
  unfold State.intcUnitReset
  extract_lets y0 y1
  have h0 : Foot 100663297 s y0 := Foot.each (fun _ _ => Foot.each (fun _ _ =>
    Foot.step (State.clr_foot ..) rfl (Foot.step (State.clr_foot ..) rfl Foot.refl)) Foot.refl) Foot.refl
  clear_value y0
  have h1 : Foot 100663297 s y1 := Foot.each (fun _ _ => Foot.step (State.clr_foot ..) rfl Foot.refl) h0
  clear_value y1
  exact Foot.set_seenP (t := { y1 with grpT0 := [] }) rfl (Foot.set_grpT0 rfl h1)

theorem execIntcClaim_foot (t : Fin 3) (w : Fin 8) (mask : Word) (s : State) : FootO 109051907 s (execIntcClaim t w mask s) := by
  unfold execIntcClaim
  refine FootO.next ?_
  refine State.cmd_foot rfl ?_ ?_
  · intro a0_0
    refine Foot.step (State.claim_foot ..) rfl ?_
    exact Foot.refl
  · exact Foot.refl

theorem execIntcDone_foot (t : Fin 3) (w : Fin 8) (mask : Word) (s : State) : FootO 109051907 s (execIntcDone t w mask s) := by
  unfold execIntcDone
  refine FootO.next ?_
  refine State.cmd_foot rfl ?_ ?_
  · intro a0_0
    refine Foot.step (State.complete_foot ..) rfl ?_
    exact Foot.refl
  · exact Foot.refl

theorem execSwi_foot (mask : BitVec 8) (s : State) : FootO 109051907 s (execSwi mask s) := by
  unfold execSwi
  refine FootO.next ?_
  refine State.cmd_foot rfl ?_ ?_
  · intro a0_0
    refine Foot.step (State.swi_foot ..) rfl ?_
    exact Foot.refl
  · exact Foot.refl

theorem execCoalesceTimeout_foot (g : Fin 16) (s : State) : FootO 100663297 s (execCoalesceTimeout g s) := by
  unfold execCoalesceTimeout
  refine FootO.ite ?_ ?_
  · refine FootO.next ?_
    exact Foot.refl
  · extract_lets y0_0
    have h_y0_0 : Foot 100663297 s y0_0 := by
      unfold y0_0
      refine Foot.step (State.intcSample_foot ..) rfl ?_
      exact Foot.refl
    clear_value y0_0
    refine FootO.next ?_
    refine Foot.ite ?_ ?_
    · refine Foot.step (State.put_foot ..) rfl ?_
      exact h_y0_0
    · exact h_y0_0

end Sys2Proof.Machine
end

