-- ==== Sys2Proof/Laws/FootPads.lean ====
section
/-! SUPPORT. The footprints of the operations and meanings of Sys2Proof.Machine.Pads. -/
namespace Sys2Proof.Machine

theorem State.setEng_foot (s : State) (n : Nat) (e : Eng) : Foot 256 s (State.setEng s n e) := by
  unfold State.setEng
  refine Foot.set_gg rfl ?_
  exact Foot.refl

end Sys2Proof.Machine
end

