-- ==== Sys2Proof/Laws/FootPilot.lean ====
section
/-! SUPPORT. The footprints of the operations and meanings of Sys2Proof.Machine.Pilot. -/
namespace Sys2Proof.Machine

theorem State.setCh_foot (s : State) (n : Nat) (c : LsCh) : Foot 2048 s (State.setCh s n c) := by
  unfold State.setCh
  refine Foot.set_lsv rfl ?_
  exact Foot.refl

theorem State.lsvAnchor_foot (s : State) : Foot 2048 s (State.lsvAnchor s) := by
  unfold State.lsvAnchor
  refine Foot.each ?_ ?_
  · intro a0_0 a0_1
    refine Foot.step (State.setCh_foot ..) rfl ?_
    exact Foot.refl
  · exact Foot.refl

theorem State.pilotStart_foot (s : State) (n : Nat) : Foot 2048 s (State.pilotStart s n) := by
  unfold State.pilotStart
  refine Foot.ite ?_ ?_
  · refine Foot.step (State.setCh_foot ..) rfl ?_
    exact Foot.refl
  · exact Foot.refl

theorem State.pilotStop_foot (s : State) (n : Nat) : Foot 2048 s (State.pilotStop s n) := by
  unfold State.pilotStop
  refine Foot.step (State.setCh_foot ..) rfl ?_
  exact Foot.refl

theorem State.pilotRun_foot (s : State) (eng : Nat) : Foot 2048 s (State.pilotRun s eng) := by
  unfold State.pilotRun
  split
  · refine Foot.step (State.pilotStart_foot ..) rfl ?_
    exact Foot.refl
  · exact Foot.refl

theorem State.pilotHalt_foot (s : State) (eng : Nat) : Foot 2048 s (State.pilotHalt s eng) := by
  unfold State.pilotHalt
  split
  · refine Foot.step (State.setCh_foot ..) rfl ?_
    refine Foot.step (State.pilotStop_foot ..) rfl ?_
    exact Foot.refl
  · exact Foot.refl

theorem State.pilotTake_foot (s : State) (eng : Nat) : Foot 2048 s (State.pilotTake s eng).2 := by
  unfold State.pilotTake
  split
  · exact Foot.refl
  · extract_lets
    split <;> exact Foot.step (State.setCh_foot ..) rfl Foot.refl

end Sys2Proof.Machine
end

