-- ==== Sys2Proof/Laws/FootRed.lean ====
section
/-! SUPPORT. The footprints of the operations and meanings of Sys2Proof.Machine.Red. -/
namespace Sys2Proof.Machine

theorem State.setDisc_foot (s : State) (k : Nat) (d : Disc) : Foot 128 s (State.setDisc s k d) := by
  unfold State.setDisc
  refine Foot.set_red rfl ?_
  exact Foot.refl

theorem State.dupOld_foot (s : State) : Foot 3 s (State.dupOld s) := by
  unfold State.dupOld
  refine Foot.step (State.put_foot ..) rfl ?_
  refine Foot.step (State.bump_foot ..) rfl ?_
  exact Foot.refl

theorem State.discard_foot (s : State) (f : Frame) : Foot 131 s (State.discard s f).1 := by
  unfold State.discard
  extract_lets y0_0 y0_1 y0_2 y0_3 y0_4
  clear_value y0_0
  have h_y0_1 : ∀ b0, Foot 131 b0 (y0_1 b0) := by
    intro b0
    unfold y0_1
    refine Foot.step (State.bump_foot ..) rfl ?_
    exact Foot.refl
  clear_value y0_2
  clear_value y0_3
  have h_y0_4 : Foot 131 s y0_4.1 := by
    unfold y0_4
    refine Foot.mk1 ?_
    refine Foot.step (h_y0_1 ..) rfl ?_
    refine Foot.step (State.bump_foot ..) rfl ?_
    refine Foot.step (State.setDisc_foot ..) rfl ?_
    exact Foot.refl
  clear_value y0_4
  refine Foot.ite1 ?_ ?_
  · refine Foot.mk1 ?_
    refine Foot.step (State.dupOld_foot ..) rfl ?_
    exact Foot.refl
  · split
    · exact h_y0_4
    · refine Foot.ite1 ?_ ?_
      · exact h_y0_4
      · extract_lets y2_0 y2_1
        clear_value y2_0
        clear_value y2_1
        refine Foot.ite1 ?_ ?_
        · refine Foot.mk1 ?_
          refine Foot.step (h_y0_1 ..) rfl ?_
          refine Foot.step (State.setDisc_foot ..) rfl ?_
          exact Foot.refl
        · refine Foot.ite1 ?_ ?_
          · refine Foot.ite1 ?_ ?_
            · refine Foot.mk1 ?_
              refine Foot.step (State.bump_foot ..) rfl ?_
              exact Foot.refl
            · refine Foot.mk1 ?_
              refine Foot.step (h_y0_1 ..) rfl ?_
              refine Foot.step (State.setDisc_foot ..) rfl ?_
              exact Foot.refl
          · refine Foot.mk1 ?_
            refine Foot.step (State.dupOld_foot ..) rfl ?_
            exact Foot.refl

theorem State.setBrk_foot (s : State) (d : Nat) (b : Option (Nat × Nat)) : Foot 128 s (State.setBrk s d b) := by
  unfold State.setBrk
  refine Foot.set_red rfl ?_
  exact Foot.refl

theorem State.sendRed_foot (s : State) (op d lane : Nat) : Foot 10485915 s (State.sendRed s op d lane) := by
  unfold State.sendRed
  refine Foot.step (State.originate_foot ..) rfl ?_
  exact Foot.refl

theorem State.openGap_foot (s : State) (w : Nat) : Foot 129 s (State.openGap s w) := by
  unfold State.openGap
  extract_lets y0_0 y0_1 y0_2 y0_3
  clear_value y0_0
  clear_value y0_1
  have h_y0_2 : Foot 129 s y0_2 := by
    unfold y0_2
    refine Foot.ite ?_ ?_
    · refine Foot.set_red rfl ?_
      exact Foot.refl
    · exact Foot.refl
  clear_value y0_2
  clear_value y0_3
  refine Foot.step (State.put_foot ..) rfl ?_
  refine Foot.set_red rfl ?_
  exact h_y0_2

theorem State.closeGap_foot (s : State) (w : Nat) : Foot 129 s (State.closeGap s w) := by
  unfold State.closeGap
  extract_lets y0_0 y0_1 y0_2 y0_3
  clear_value y0_0
  clear_value y0_1
  have h_y0_2 : Foot 129 s y0_2 := by
    unfold y0_2
    refine Foot.set_red rfl ?_
    exact Foot.refl
  clear_value y0_2
  clear_value y0_3
  refine Foot.ite ?_ ?_
  · refine Foot.step (State.put_foot ..) rfl ?_
    refine Foot.set_red rfl ?_
    exact h_y0_2
  · exact h_y0_2

theorem State.dirUp_foot (s : State) (d : Nat) : Foot 10485915 s (State.dirUp s d) := by
  unfold State.dirUp
  extract_lets y0_0 y0_1
  clear_value y0_0
  have h_y0_1 : Foot 10485915 s y0_1 := by
    unfold y0_1
    refine Foot.set_red rfl ?_
    exact Foot.refl
  clear_value y0_1
  refine Foot.step (State.setReach_foot ..) rfl ?_
  refine Foot.step (State.put_foot ..) rfl ?_
  refine Foot.step (State.setDir_foot ..) rfl ?_
  exact h_y0_1

theorem State.setDue_foot (s : State) (d : Nat) (c : Option Nat) : Foot 128 s (State.setDue s d c) := by
  unfold State.setDue
  refine Foot.set_red rfl ?_
  exact Foot.refl

theorem State.dirLevels_foot (s : State) (d : Nat) : Foot 128 s (State.dirLevels s d) := by
  unfold State.dirLevels
  refine Foot.ite ?_ ?_
  · refine Foot.step (State.setDue_foot ..) rfl ?_
    exact Foot.refl
  · refine Foot.ite ?_ ?_
    · refine Foot.step (State.setDue_foot ..) rfl ?_
      exact Foot.refl
    · exact Foot.refl

theorem State.dirRight_foot (s : State) (d : Nat) : Foot 10485915 s (State.dirRight s d) := by
  unfold State.dirRight
  split
  · refine Foot.ite ?_ ?_
    · refine Foot.step (State.dirLevels_foot ..) rfl ?_
      refine Foot.step (State.setDir_foot ..) rfl ?_
      exact Foot.refl
    · exact Foot.refl
  · refine Foot.ite ?_ ?_
    · exact Foot.refl
    · refine Foot.ite ?_ ?_
      · refine Foot.step (State.setDir_foot ..) rfl ?_
        exact Foot.refl
      · refine Foot.step (State.locPump_foot ..) rfl ?_
        refine Foot.step (State.dirUp_foot ..) rfl ?_
        exact Foot.refl
  · exact Foot.refl

theorem State.dirPlanned_foot (s : State) (d : Nat) : Foot 262145 s (State.dirPlanned s d) := by
  unfold State.dirPlanned
  refine Foot.step (State.setDir_foot ..) rfl ?_
  refine Foot.set_tst rfl ?_
  exact Foot.refl

theorem State.dirDown_foot (s : State) (d cause : Nat) (planned : Bool) : Foot 262273 s (State.dirDown s d cause planned) := by
  unfold State.dirDown
  split
  · refine Foot.ite ?_ ?_
    · refine Foot.step (State.dirPlanned_foot ..) rfl ?_
      exact Foot.refl
    · refine Foot.step (State.setDue_foot ..) rfl ?_
      exact Foot.refl
  · refine Foot.step (State.setDue_foot ..) rfl ?_
    exact Foot.refl
  · exact Foot.refl

theorem State.planEnd_foot (s : State) (d cause : Nat) : Foot 128 s (State.planEnd s d cause) := by
  unfold State.planEnd
  refine Foot.ite ?_ ?_
  · refine Foot.step (State.setDue_foot ..) rfl ?_
    exact Foot.refl
  · exact Foot.refl

theorem State.proofCause_foot (s : State) (k : Nat) : Foot 262144 s (State.proofCause s k) := by
  unfold State.proofCause
  refine Foot.ite ?_ ?_
  · refine Foot.set_tst rfl ?_
    exact Foot.refl
  · exact Foot.refl

theorem State.rewrap_foot (s : State) (d : Nat) : Foot 10485915 s (State.rewrap s d) := by
  unfold State.rewrap
  extract_lets y0_0
  have h_y0_0 : Foot 10485915 s y0_0 := by
    unfold y0_0
    refine Foot.each ?_ ?_
    · intro a1_0 a1_1
      extract_lets y2_0
      clear_value y2_0
      refine Foot.each ?_ ?_
      · intro a3_0 a3_1
        refine Foot.step (State.retreat_foot ..) rfl ?_
        exact Foot.refl
      · refine Foot.step (State.setQueue_foot ..) rfl ?_
        exact Foot.refl
    · exact Foot.refl
  clear_value y0_0
  refine Foot.step (State.locPump_foot ..) rfl ?_
  refine Foot.step (State.releaseHeld_foot ..) rfl ?_
  exact h_y0_0

theorem State.declareLost_foot (s : State) (d cause : Nat) : Foot 10748059 s (State.declareLost s d cause) := by
  unfold State.declareLost
  extract_lets y0_0 y0_1 y0_2 y0_3 y0_4 y0_5 y0_6
  have h_y0_0 : Foot 10748059 s y0_0 := by
    unfold y0_0
    refine Foot.step (State.wr64_foot ..) rfl ?_
    refine Foot.step (State.put_foot ..) rfl ?_
    refine Foot.step (State.put_foot ..) rfl ?_
    exact Foot.refl
  clear_value y0_0
  have h_y0_1 : Foot 10748059 s y0_1 := by
    unfold y0_1
    refine Foot.step (State.fault_foot ..) rfl ?_
    refine Foot.step (State.bump_foot ..) rfl ?_
    refine Foot.step (State.put_foot ..) rfl ?_
    exact h_y0_0
  clear_value y0_1
  clear_value y0_2
  clear_value y0_3
  have h_y0_4 : Foot 10748059 s y0_4 := by
    unfold y0_4
    refine Foot.step (t := y0_1) (m' := 262272) ⟨rfl, fun i => ⟨i.regs, i.live, i.mem, i.biv, i.flash, i.fltQ, i.dlQ⟩, fun _ => rfl, fun _ => rfl, fun _ => rfl, fun _ => rfl, fun _ => rfl, fun _ => rfl, fun _ => rfl, nofun, fun _ => rfl, fun _ => rfl, fun _ => rfl, fun _ => rfl, fun _ => rfl, fun _ => rfl, fun _ => rfl, fun _ => rfl, fun _ => rfl, fun _ => rfl, nofun, fun _ => rfl, fun _ => rfl, fun _ => rfl, fun _ => rfl, fun _ => rfl, fun _ => rfl, fun _ => rfl, fun _ => rfl, fun _ => rfl, fun _ => rfl⟩ rfl ?_
    exact h_y0_1
  clear_value y0_4
  have h_y0_5 : Foot 10748059 s y0_5 := by
    unfold y0_5
    refine Foot.step (State.put_foot ..) rfl ?_
    refine Foot.step (State.openGap_foot ..) rfl ?_
    exact h_y0_4
  clear_value y0_5
  have h_y0_6 : Foot 10748059 s y0_6 := by
    unfold y0_6
    refine Foot.step (State.setReach_foot ..) rfl ?_
    refine Foot.step (State.rewrap_foot ..) rfl ?_
    refine Foot.step (State.setDir_foot ..) rfl ?_
    exact h_y0_5
  clear_value y0_6
  refine Foot.step (State.dirRight_foot ..) rfl ?_
  refine Foot.when ?_ ?_
  · intro a1_0
    refine Foot.step (State.proofCause_foot ..) rfl ?_
    exact Foot.refl
  · refine Foot.step (State.sendRed_foot ..) rfl ?_
    exact h_y0_6

theorem State.claimAnchor_foot (s : State) : Foot 1 s (State.claimAnchor s) := by
  unfold State.claimAnchor
  refine Foot.step (State.put_foot ..) rfl ?_
  refine Foot.step (State.put_foot ..) rfl ?_
  exact Foot.refl

theorem State.claimCheck_foot (s : State) : Foot 1 s (State.claimCheck s) := by
  unfold State.claimCheck
  refine Foot.ite ?_ ?_
  · refine Foot.step (State.claimAnchor_foot ..) rfl ?_
    exact Foot.refl
  · exact Foot.refl

theorem State.standby_foot (s : State) : Foot 1 s (State.standby s) := by
  unfold State.standby
  refine Foot.step (State.put_foot ..) rfl ?_
  refine Foot.step (State.put_foot ..) rfl ?_
  refine Foot.step (State.put_foot ..) rfl ?_
  exact Foot.refl

theorem State.anchorOff_foot (s : State) : Foot 2049 s (State.anchorOff s) := by
  unfold State.anchorOff
  refine Foot.step (State.lsvAnchor_foot ..) rfl ?_
  refine Foot.step (State.put_foot ..) rfl ?_
  refine Foot.step (State.put_foot ..) rfl ?_
  exact Foot.refl

theorem State.eligCheck_foot (s : State) : Foot 2049 s (State.eligCheck s) := by
  unfold State.eligCheck
  extract_lets y0_0
  clear_value y0_0
  refine Foot.ite ?_ ?_
  · refine Foot.ite ?_ ?_
    · refine Foot.step (State.claimCheck_foot ..) rfl ?_
      refine Foot.step (State.standby_foot ..) rfl ?_
      exact Foot.refl
    · exact Foot.refl
  · refine Foot.ite ?_ ?_
    · refine Foot.step (State.anchorOff_foot ..) rfl ?_
      exact Foot.refl
    · exact Foot.refl

theorem State.holdoffSample_foot (s : State) : Foot 129 s (State.holdoffSample s) := by
  unfold State.holdoffSample
  refine Foot.ite ?_ ?_
  · refine Foot.ite ?_ ?_
    · exact Foot.refl
    · refine Foot.step (State.put_foot ..) rfl ?_
      refine Foot.step (State.put_foot ..) rfl ?_
      refine Foot.set_red rfl ?_
      exact Foot.refl
  · refine Foot.ite ?_ ?_
    · refine Foot.step (State.put_foot ..) rfl ?_
      refine Foot.step (State.put_foot ..) rfl ?_
      exact Foot.refl
    · exact Foot.refl

theorem State.yieldAnchor_foot (s : State) (r80 : Bool) : Foot 2177 s (State.yieldAnchor s r80) := by
  unfold State.yieldAnchor
  refine Foot.ite ?_ ?_
  · extract_lets y0_0 y0_1
    have h_y0_0 : Foot 2177 s y0_0 := by
      unfold y0_0
      refine Foot.step (State.lsvAnchor_foot ..) rfl ?_
      refine Foot.step (State.listenCheck_foot ..) rfl ?_
      refine Foot.step (State.put_foot ..) rfl ?_
      refine Foot.step (State.put_foot ..) rfl ?_
      exact Foot.refl
    clear_value y0_0
    clear_value y0_1
    refine Foot.set_red rfl ?_
    exact h_y0_0
  · exact Foot.refl

theorem State.twinYield_foot (s : State) : Foot 2177 s (State.twinYield s) := by
  unfold State.twinYield
  refine Foot.step (State.eligCheck_foot ..) rfl ?_
  refine Foot.step (State.yieldAnchor_foot ..) rfl ?_
  refine Foot.step (State.put_foot ..) rfl ?_
  exact Foot.refl

theorem State.anchorDormant_foot (s : State) : Foot 2049 s (State.anchorDormant s) := by
  unfold State.anchorDormant
  extract_lets y0_0
  clear_value y0_0
  refine Foot.ite ?_ ?_
  · refine Foot.step (State.listenCheck_foot ..) rfl ?_
    refine Foot.step (State.put_foot ..) rfl ?_
    refine Foot.step (State.anchorOff_foot ..) rfl ?_
    exact Foot.refl
  · refine Foot.ite ?_ ?_
    · exact Foot.refl
    · refine Foot.step (State.anchorOff_foot ..) rfl ?_
      exact Foot.refl

theorem State.conflictCheck_foot (s : State) : Foot 8390659 s (State.conflictCheck s) := by
  unfold State.conflictCheck
  extract_lets y0_0 y0_1
  clear_value y0_0
  have h_y0_1 : Foot 8390659 s y0_1 := by
    unfold y0_1
    refine Foot.ite ?_ ?_
    · refine Foot.step (State.fault_foot ..) rfl ?_
      refine Foot.step (State.put_foot ..) rfl ?_
      exact Foot.refl
    · exact Foot.refl
  clear_value y0_1
  refine Foot.step (State.eligCheck_foot ..) rfl ?_
  refine Foot.step (State.put_foot ..) rfl ?_
  exact h_y0_1

theorem State.pairCheck_foot (s : State) : Foot 1 s (State.pairCheck s) := by
  unfold State.pairCheck
  refine Foot.ite ?_ ?_
  · exact Foot.refl
  · refine Foot.ite ?_ ?_
    · refine Foot.step (State.put_foot ..) rfl ?_
      exact Foot.refl
    · refine Foot.ite ?_ ?_
      · exact Foot.refl
      · refine Foot.step (State.put_foot ..) rfl ?_
        exact Foot.refl

theorem execRingLoss_foot (dir : Fin 2) (s : State) : FootO 10748059 s (execRingLoss dir s) := by
  unfold execRingLoss
  refine FootO.ite ?_ ?_
  · refine FootO.next ?_
    exact Foot.refl
  · refine FootO.next ?_
    split
    · refine Foot.step (State.declareLost_foot ..) rfl ?_
      exact Foot.refl
    · exact Foot.refl

theorem execWrapDone_foot (dir : Fin 2) (s : State) : FootO 129 s (execWrapDone dir s) := by
  unfold execWrapDone
  refine FootO.ite ?_ ?_
  · refine FootO.next ?_
    exact Foot.refl
  · refine FootO.next ?_
    refine Foot.ite ?_ ?_
    · extract_lets y0_0 y0_1
      clear_value y0_0
      have h_y0_1 : Foot 129 s y0_1 := by
        unfold y0_1
        refine Foot.set_red rfl ?_
        exact Foot.refl
      clear_value y0_1
      refine Foot.step (State.put_foot ..) rfl ?_
      refine Foot.step (State.wr64_foot ..) rfl ?_
      refine Foot.step (State.put_foot ..) rfl ?_
      exact h_y0_1
    · exact Foot.refl

theorem execBreakRepeat_foot (dir : Fin 2) (s : State) : FootO 10485915 s (execBreakRepeat dir s) := by
  unfold execBreakRepeat
  refine FootO.ite ?_ ?_
  · refine FootO.next ?_
    exact Foot.refl
  · refine FootO.next ?_
    refine Foot.ite ?_ ?_
    · refine Foot.step (State.sendRed_foot ..) rfl ?_
      exact Foot.refl
    · exact Foot.refl

theorem State.breakRx_foot (s : State) (lost : Nat) (sender hops : Nat) : Foot 10485915 s (State.breakRx s lost sender hops) := by
  unfold State.breakRx
  extract_lets y0_0 y0_1 y0_2
  have h_y0_0 : Foot 10485915 s y0_0 := by
    unfold y0_0
    refine Foot.step (State.put_foot ..) rfl ?_
    exact Foot.refl
  clear_value y0_0
  clear_value y0_1
  have h_y0_2 : Foot 10485915 s y0_2 := by
    unfold y0_2
    refine Foot.step (State.setBrk_foot ..) rfl ?_
    exact h_y0_0
  clear_value y0_2
  refine Foot.ite ?_ ?_
  · exact h_y0_0
  · refine Foot.ite ?_ ?_
    · exact h_y0_2
    · refine Foot.step (State.openGap_foot ..) rfl ?_
      refine Foot.step (State.setReach_foot ..) rfl ?_
      exact h_y0_2

theorem State.breakEnd_foot (s : State) (lost : Nat) : Foot 10485915 s (State.breakEnd s lost) := by
  unfold State.breakEnd
  extract_lets y0_0
  have h_y0_0 : Foot 10485915 s y0_0 := by
    unfold y0_0
    refine Foot.step (State.setBrk_foot ..) rfl ?_
    exact Foot.refl
  clear_value y0_0
  refine Foot.ite ?_ ?_
  · exact h_y0_0
  · refine Foot.step (State.setReach_foot ..) rfl ?_
    exact h_y0_0

theorem State.restoreRx_foot (s : State) (lost sender : Nat) : Foot 10485915 s (State.restoreRx s lost sender) := by
  unfold State.restoreRx
  extract_lets y0_0
  have h_y0_0 : Foot 10485915 s y0_0 := by
    unfold y0_0
    refine Foot.step (State.put_foot ..) rfl ?_
    exact Foot.refl
  clear_value y0_0
  split
  · refine Foot.ite ?_ ?_
    · refine Foot.step (State.breakEnd_foot ..) rfl ?_
      exact h_y0_0
    · exact h_y0_0
  · exact h_y0_0

theorem execBreakRx_foot (lost : Fin 2) (node : BitVec 8) (chip : Fin 4) (hops : BitVec 10) (s : State) : FootO 10485915 s (execBreakRx lost node chip hops s) := by
  unfold execBreakRx
  refine FootO.ite ?_ ?_
  · refine FootO.next ?_
    exact Foot.refl
  · refine FootO.next ?_
    refine Foot.step (State.breakRx_foot ..) rfl ?_
    exact Foot.refl

theorem execRestoreRx_foot (lost : Fin 2) (node : BitVec 8) (chip : Fin 4) (s : State) : FootO 10485915 s (execRestoreRx lost node chip s) := by
  unfold execRestoreRx
  refine FootO.ite ?_ ?_
  · refine FootO.next ?_
    exact Foot.refl
  · refine FootO.next ?_
    refine Foot.step (State.restoreRx_foot ..) rfl ?_
    exact Foot.refl

theorem execBreakRecordExpiry_foot (lost : Fin 2) (s : State) : FootO 10485915 s (execBreakRecordExpiry lost s) := by
  unfold execBreakRecordExpiry
  refine FootO.ite ?_ ?_
  · refine FootO.next ?_
    exact Foot.refl
  · refine FootO.next ?_
    split
    · refine Foot.step (State.breakEnd_foot ..) rfl ?_
      exact Foot.refl
    · exact Foot.refl

theorem execGapWindowClose_foot (w : Fin 3) (s : State) : FootO 129 s (execGapWindowClose w s) := by
  unfold execGapWindowClose
  refine FootO.ite ?_ ?_
  · refine FootO.next ?_
    exact Foot.refl
  · refine FootO.next ?_
    refine Foot.ite ?_ ?_
    · refine Foot.step (State.closeGap_foot ..) rfl ?_
      exact Foot.refl
    · exact Foot.refl

theorem execReturnHoldExpiry_foot (dir : Fin 2) (s : State) : FootO 10485915 s (execReturnHoldExpiry dir s) := by
  unfold execReturnHoldExpiry
  refine FootO.ite ?_ ?_
  · refine FootO.next ?_
    exact Foot.refl
  · refine FootO.next ?_
    refine Foot.ite ?_ ?_
    · extract_lets y0_0 y0_1 y0_2 y0_3
      clear_value y0_0
      clear_value y0_1
      have h_y0_2 : Foot 10485915 s y0_2 := by
        unfold y0_2
        refine Foot.set_red rfl ?_
        exact Foot.refl
      clear_value y0_2
      have h_y0_3 : Foot 10485915 s y0_3 := by
        unfold y0_3
        refine Foot.step (State.dirUp_foot ..) rfl ?_
        refine Foot.step (State.put_foot ..) rfl ?_
        refine Foot.step (State.put_foot ..) rfl ?_
        exact h_y0_2
      clear_value y0_3
      refine Foot.step (State.locPump_foot ..) rfl ?_
      refine Foot.step (State.sendRed_foot ..) rfl ?_
      refine Foot.step (State.sendRed_foot ..) rfl ?_
      exact h_y0_3
    · exact Foot.refl

theorem execUnwrapHoldEnd_foot (dir : Fin 2) (s : State) : FootO 10485915 s (execUnwrapHoldEnd dir s) := by
  unfold execUnwrapHoldEnd
  refine FootO.ite ?_ ?_
  · refine FootO.next ?_
    exact Foot.refl
  · refine FootO.next ?_
    refine Foot.ite ?_ ?_
    · extract_lets y0_0 y0_1
      clear_value y0_0
      have h_y0_1 : Foot 10485915 s y0_1 := by
        unfold y0_1
        refine Foot.set_red rfl ?_
        exact Foot.refl
      clear_value y0_1
      refine Foot.step (State.locPump_foot ..) rfl ?_
      refine Foot.step (State.releaseHeld_foot ..) rfl ?_
      refine Foot.step (State.put_foot ..) rfl ?_
      exact h_y0_1
    · exact Foot.refl

theorem execAnchorInChange_foot (level : Bool) (s : State) : FootO 262273 s (execAnchorInChange level s) := by
  unfold execAnchorInChange
  refine FootO.ite (FootO.next Foot.refl) (FootO.next ?_)
  extract_lets y0 s0 s1 y1 st s2 s3
  have h0 : Foot 262273 s s0 := by unfold s0; exact Foot.ite (Foot.set_tst rfl Foot.refl) Foot.refl
  clear_value s0
  have h1 : Foot 262273 s s1 := Foot.step (State.put_foot ..) rfl h0
  clear_value s1
  have h2 : Foot 262273 s s2 := by unfold s2; exact Foot.ite h1 (Foot.set_red rfl h1)
  clear_value s2 y1
  have h3 : Foot 262273 s s3 := by
    unfold s3
    refine Foot.ite ?_ (Foot.step (State.claimCheck_foot ..) rfl h2)
    split
    · exact Foot.step (State.put_foot ..) rfl h2
    · exact Foot.ite h2 (Foot.step (State.standby_foot ..) rfl h2)
    · exact Foot.step (State.standby_foot ..) rfl h2
    · exact h2
  exact Foot.step (State.holdoffSample_foot ..) rfl h3

theorem execYieldSettle_foot (s : State) : FootO 2049 s (execYieldSettle s) := by
  unfold execYieldSettle
  refine FootO.ite ?_ ?_
  · refine FootO.next ?_
    exact Foot.refl
  · refine FootO.next ?_
    refine Foot.ite ?_ ?_
    · extract_lets y0_0
      have h_y0_0 : Foot 2049 s y0_0 := by
        unfold y0_0
        refine Foot.step (State.put_foot ..) rfl ?_
        refine Foot.step (State.put_foot ..) rfl ?_
        exact Foot.refl
      clear_value y0_0
      refine Foot.ite ?_ ?_
      · refine Foot.step (State.anchorOff_foot ..) rfl ?_
        exact h_y0_0
      · refine Foot.ite ?_ ?_
        · refine Foot.step (State.standby_foot ..) rfl ?_
          exact h_y0_0
        · exact h_y0_0
    · exact Foot.refl

theorem execYieldedTimeout_foot (s : State) : FootO 1 s (execYieldedTimeout s) := by
  unfold execYieldedTimeout
  refine FootO.ite ?_ ?_
  · refine FootO.next ?_
    exact Foot.refl
  · refine FootO.next ?_
    refine Foot.ite ?_ ?_
    · extract_lets y0_0
      have h_y0_0 : Foot 1 s y0_0 := by
        unfold y0_0
        refine Foot.step (State.standby_foot ..) rfl ?_
        exact Foot.refl
      clear_value y0_0
      refine Foot.ite ?_ ?_
      · refine Foot.step (State.claimAnchor_foot ..) rfl ?_
        exact h_y0_0
      · exact h_y0_0
    · exact Foot.refl

theorem execSecondClaimDelay_foot (s : State) : FootO 1 s (execSecondClaimDelay s) := by
  unfold execSecondClaimDelay
  refine FootO.ite ?_ ?_
  · refine FootO.next ?_
    exact Foot.refl
  · refine FootO.next ?_
    refine Foot.ite ?_ ?_
    · refine Foot.step (State.claimAnchor_foot ..) rfl ?_
      exact Foot.refl
    · exact Foot.refl

theorem State.take_foot (s : State) : Foot 1 s (State.take s) := by
  unfold State.take
  refine Foot.ite ?_ ?_
  · refine Foot.step (State.claimAnchor_foot ..) rfl ?_
    exact Foot.refl
  · exact Foot.refl

theorem State.revert_foot (s : State) : Foot 128 s (State.revert s) := by
  unfold State.revert
  refine Foot.ite ?_ ?_
  · refine Foot.set_red rfl ?_
    exact Foot.refl
  · exact Foot.refl

theorem State.unlock_foot (s : State) : Foot 2049 s (State.unlock s) := by
  unfold State.unlock
  refine Foot.step (State.eligCheck_foot ..) rfl ?_
  refine Foot.step (State.put_foot ..) rfl ?_
  exact Foot.refl

theorem execTwinTake_foot (s : State) : FootO 8388611 s (execTwinTake s) := by
  unfold execTwinTake
  refine FootO.next ?_
  refine State.cmd_foot rfl ?_ ?_
  · intro a0_0
    refine Foot.step (State.take_foot ..) rfl ?_
    exact Foot.refl
  · exact Foot.refl

theorem execTwinYield_foot (s : State) : FootO 8390787 s (execTwinYield s) := by
  unfold execTwinYield
  refine FootO.next ?_
  refine State.cmd_foot rfl ?_ ?_
  · intro a0_0
    refine Foot.step (State.yieldAnchor_foot ..) rfl ?_
    exact Foot.refl
  · exact Foot.refl

theorem execTwinRevert_foot (s : State) : FootO 8388739 s (execTwinRevert s) := by
  unfold execTwinRevert
  refine FootO.next ?_
  refine State.cmd_foot rfl ?_ ?_
  · intro a0_0
    refine Foot.step (State.revert_foot ..) rfl ?_
    exact Foot.refl
  · exact Foot.refl

theorem execTwinUnlock_foot (s : State) : FootO 8390659 s (execTwinUnlock s) := by
  unfold execTwinUnlock
  refine FootO.next ?_
  refine State.cmd_foot rfl ?_ ?_
  · intro a0_0
    refine Foot.step (State.unlock_foot ..) rfl ?_
    exact Foot.refl
  · exact Foot.refl

theorem execBeatTx_foot (s : State) : FootO 262272 s (execBeatTx s) := by
  unfold execBeatTx
  refine FootO.ite ?_ ?_
  · refine FootO.next ?_
    exact Foot.refl
  · extract_lets y0_0 y0_1 y0_2
    clear_value y0_0
    clear_value y0_1
    clear_value y0_2
    refine FootO.next ?_
    refine Foot.step (t := s) (m' := 262272) ⟨rfl, fun i => ⟨i.regs, i.live, i.mem, i.biv, i.flash, i.fltQ, i.dlQ⟩, fun _ => rfl, fun _ => rfl, fun _ => rfl, fun _ => rfl, fun _ => rfl, fun _ => rfl, fun _ => rfl, nofun, fun _ => rfl, fun _ => rfl, fun _ => rfl, fun _ => rfl, fun _ => rfl, fun _ => rfl, fun _ => rfl, fun _ => rfl, fun _ => rfl, fun _ => rfl, nofun, fun _ => rfl, fun _ => rfl, fun _ => rfl, fun _ => rfl, fun _ => rfl, fun _ => rfl, fun _ => rfl, fun _ => rfl, fun _ => rfl, fun _ => rfl⟩ rfl ?_
    exact Foot.refl

theorem execBeatRx_foot (request : Bool) (s : State) : FootO 2177 s (execBeatRx request s) := by
  unfold execBeatRx
  refine FootO.ite ?_ ?_
  · refine FootO.next ?_
    exact Foot.refl
  · refine FootO.next ?_
    refine Foot.ite ?_ ?_
    · extract_lets y0_0
      have h_y0_0 : Foot 2177 s y0_0 := by
        unfold y0_0
        refine Foot.step (State.put_foot ..) rfl ?_
        refine Foot.step (State.put_foot ..) rfl ?_
        exact Foot.refl
      clear_value y0_0
      refine Foot.step (State.holdoffSample_foot ..) rfl ?_
      refine Foot.ite ?_ ?_
      · refine Foot.step (State.yieldAnchor_foot ..) rfl ?_
        exact h_y0_0
      · exact h_y0_0
    · exact Foot.refl

theorem execBeatLost_foot (s : State) : FootO 8650883 s (execBeatLost s) := by
  unfold execBeatLost
  refine FootO.ite ?_ ?_
  · refine FootO.next ?_
    exact Foot.refl
  · refine FootO.next ?_
    refine Foot.ite ?_ ?_
    · refine Foot.step (State.holdoffSample_foot ..) rfl ?_
      refine Foot.step (State.proofCause_foot ..) rfl ?_
      refine Foot.step (State.fault_foot ..) rfl ?_
      refine Foot.step (State.put_foot ..) rfl ?_
      refine Foot.step (State.put_foot ..) rfl ?_
      refine Foot.step (State.put_foot ..) rfl ?_
      exact Foot.refl
    · exact Foot.refl

theorem execTwinStuck_foot (s : State) : FootO 8388611 s (execTwinStuck s) := by
  unfold execTwinStuck
  refine FootO.ite ?_ ?_
  · refine FootO.next ?_
    exact Foot.refl
  · refine FootO.next ?_
    refine Foot.ite ?_ ?_
    · refine Foot.step (State.fault_foot ..) rfl ?_
      refine Foot.step (State.put_foot ..) rfl ?_
      exact Foot.refl
    · exact Foot.refl

theorem execRevertHoldoffExpiry_foot (s : State) : FootO 129 s (execRevertHoldoffExpiry s) := by
  unfold execRevertHoldoffExpiry
  refine FootO.ite ?_ ?_
  · refine FootO.next ?_
    exact Foot.refl
  · refine FootO.next ?_
    refine Foot.ite ?_ ?_
    · extract_lets y0_0 y0_1
      have h_y0_0 : Foot 129 s y0_0 := by
        unfold y0_0
        refine Foot.step (State.put_foot ..) rfl ?_
        refine Foot.step (State.put_foot ..) rfl ?_
        exact Foot.refl
      clear_value y0_0
      clear_value y0_1
      refine Foot.ite ?_ ?_
      · refine Foot.step (State.put_foot ..) rfl ?_
        exact h_y0_0
      · refine Foot.set_red rfl ?_
        exact h_y0_0
    · exact Foot.refl

theorem execRevertRequestEnd_foot (s : State) : FootO 128 s (execRevertRequestEnd s) := by
  unfold execRevertRequestEnd
  refine FootO.ite ?_ ?_
  · refine FootO.next ?_
    exact Foot.refl
  · refine FootO.next ?_
    refine Foot.set_red rfl ?_
    exact Foot.refl

theorem execOverlapEnd_foot (s : State) : FootO 128 s (execOverlapEnd s) := by
  unfold execOverlapEnd
  refine FootO.ite ?_ ?_
  · refine FootO.next ?_
    exact Foot.refl
  · refine FootO.next ?_
    refine Foot.set_red rfl ?_
    exact Foot.refl

end Sys2Proof.Machine
end

