-- ==== Sys2Proof/Laws/FootEngine.lean ====
section
/-! SUPPORT. The footprints of the operations and meanings of Sys2Proof.Machine.Engine. -/
namespace Sys2Proof.Machine

theorem State.modEng_foot (s : State) (n : Nat) (f : Eng → Eng) : Foot 256 s (State.modEng s n f) := by
  unfold State.modEng
  refine Foot.step (State.setEng_foot ..) rfl ?_
  exact Foot.refl

theorem State.setLvl_foot (s : State) (n k : Nat) (v : Bool) : Foot 256 s (State.setLvl s n k v) := by
  unfold State.setLvl
  refine Foot.step (State.modEng_foot ..) rfl ?_
  exact Foot.refl

theorem State.pinsOut_foot (s : State) (n m v : Nat) : Foot 256 s (State.pinsOut s n m v) := by
  unfold State.pinsOut
  refine Foot.each ?_ ?_
  · intro a0_0 a0_1
    refine Foot.step (State.setLvl_foot ..) rfl ?_
    exact Foot.refl
  · exact Foot.refl

theorem State.applyMark_foot (s : State) (n k : Nat) : Foot 256 s (State.applyMark s n k) := by
  unfold State.applyMark
  refine Foot.ite ?_ ?_
  · exact Foot.refl
  · refine Foot.each ?_ ?_
    · intro a0_0 a0_1
      refine Foot.ite ?_ ?_
      · exact Foot.refl
      · refine Foot.ite ?_ ?_
        · refine Foot.step (State.setLvl_foot ..) rfl ?_
          exact Foot.refl
        · refine Foot.ite ?_ ?_
          · refine Foot.step (State.setLvl_foot ..) rfl ?_
            exact Foot.refl
          · exact Foot.refl
    · exact Foot.refl

theorem State.efFold_foot (s : State) : Foot 1 s (State.efFold s) := by
  unfold State.efFold
  extract_lets y0_0 y0_1
  clear_value y0_0
  clear_value y0_1
  refine Foot.step (State.put_foot ..) rfl ?_
  exact Foot.refl

theorem State.efSet_foot (s : State) (m : Nat) : Foot 257 s (State.efSet s m) := by
  unfold State.efSet
  refine Foot.step (State.efFold_foot ..) rfl ?_
  refine Foot.set_gg rfl ?_
  exact Foot.refl

theorem State.efClr_foot (s : State) (m : Nat) : Foot 257 s (State.efClr s m) := by
  unfold State.efClr
  refine Foot.step (State.efFold_foot ..) rfl ?_
  refine Foot.set_gg rfl ?_
  exact Foot.refl

theorem State.efTgl_foot (s : State) (i : Nat) : Foot 257 s (State.efTgl s i) := by
  unfold State.efTgl
  refine Foot.step (State.efFold_foot ..) rfl ?_
  refine Foot.set_gg rfl ?_
  exact Foot.refl

theorem State.dstPut_foot (s : State) (n code v : Nat) : Foot 257 s (State.dstPut s n code v) := by
  unfold State.dstPut
  split
  · refine Foot.step (State.put_foot ..) rfl ?_
    refine Foot.step (State.put_foot ..) rfl ?_
    exact Foot.refl
  · refine Foot.step (State.put_foot ..) rfl ?_
    exact Foot.refl
  · refine Foot.step (State.put_foot ..) rfl ?_
    exact Foot.refl
  · refine Foot.step (State.put_foot ..) rfl ?_
    exact Foot.refl
  · refine Foot.step (State.put_foot ..) rfl ?_
    exact Foot.refl
  · refine Foot.step (State.put_foot ..) rfl ?_
    exact Foot.refl
  · refine Foot.step (State.put_foot ..) rfl ?_
    exact Foot.refl
  · refine Foot.step (State.pinsOut_foot ..) rfl ?_
    exact Foot.refl
  · refine Foot.step (State.put_foot ..) rfl ?_
    exact Foot.refl
  · refine Foot.step (State.wr_foot ..) rfl ?_
    exact Foot.refl
  · refine Foot.step (State.wr_foot ..) rfl ?_
    exact Foot.refl
  · refine Foot.step (State.wr64_foot ..) rfl ?_
    exact Foot.refl
  · exact Foot.refl

theorem State.doJmp_foot (s : State) (n w : Nat) (seen : DWord) : Foot 1 s (State.doJmp s n w seen).1 := by
  unfold State.doJmp
  extract_lets y0_0 y0_1 y0_2 y0_3 y0_4 y0_5
  clear_value y0_0
  clear_value y0_1
  clear_value y0_2
  clear_value y0_3
  clear_value y0_4
  have h_y0_5 : Foot 1 s y0_5 := by
    unfold y0_5
    split
    · refine Foot.step (State.put_foot ..) rfl ?_
      exact Foot.refl
    · refine Foot.step (State.put_foot ..) rfl ?_
      exact Foot.refl
    · exact Foot.refl
  clear_value y0_5
  refine Foot.mk1 ?_
  exact h_y0_5

theorem State.doWait_foot (s : State) (n w : Nat) : Foot 257 s (State.doWait s n w).1 := by
  unfold State.doWait
  extract_lets y0_0 y0_1 y0_2
  clear_value y0_0
  clear_value y0_1
  have h_y0_2 : Foot 257 s y0_2 := by
    unfold y0_2
    refine Foot.step (State.wr64_foot ..) rfl ?_
    exact Foot.refl
  clear_value y0_2
  refine Foot.mk1 ?_
  refine Foot.ite ?_ ?_
  · refine Foot.step (State.efClr_foot ..) rfl ?_
    exact h_y0_2
  · exact h_y0_2

theorem State.doShift_foot (s : State) (n w : Nat) (seen : DWord) : Foot 257 s (State.doShift s n w seen).1 := by
  unfold State.doShift
  extract_lets y0_0 y0_1 y0_2 y0_3 y0_4 y0_5 y0_6 y0_7 y0_8
  clear_value y0_0
  clear_value y0_1
  clear_value y0_2
  clear_value y0_3
  clear_value y0_4
  clear_value y0_5
  clear_value y0_6
  clear_value y0_7
  have h_y0_8 : Foot 257 s y0_8 := by
    unfold y0_8
    refine Foot.ite ?_ ?_
    · exact Foot.refl
    · refine Foot.step (State.pinsOut_foot ..) rfl ?_
      exact Foot.refl
  clear_value y0_8
  refine Foot.mk1 ?_
  refine Foot.step (State.put_foot ..) rfl ?_
  refine Foot.step (State.put_foot ..) rfl ?_
  exact h_y0_8

theorem State.doPull_foot (s : State) (n w : Nat) : Foot 2307 s (State.doPull s n w).1 := by
  unfold State.doPull
  extract_lets d tx need short s1 v r v2 s2
  have h1 : Foot 2307 s s1 := by
    unfold s1
    refine Foot.ite ?_ (Foot.step (State.modEng_foot ..) rfl Foot.refl)
    exact Foot.step (State.bump_foot ..) rfl (Foot.step (State.put_foot ..) rfl Foot.refl)
  clear_value s1 d tx need short
  refine Foot.ite1 (Foot.mk1 (Foot.ite h1 ?_)) ?_
  · exact Foot.step (State.wr_foot ..) rfl (Foot.step (State.wr_foot ..) rfl h1)
  · have hr : Foot 2307 s r.2 := by
      unfold r
      split
      · exact Foot.step (State.pilotTake_foot ..) rfl h1
      · exact h1
    clear_value r v2
    refine Foot.mk1 ?_
    split
    · exact Foot.step (State.put_foot ..) rfl (Foot.step (State.put_foot ..) rfl hr)
    all_goals exact Foot.step (State.put_foot ..) rfl hr

theorem State.doPush_foot (s : State) (n w : Nat) : Foot 259 s (State.doPush s n w).1 := by
  unfold State.doPush
  extract_lets y0_0 y0_1 y0_2 y0_3 y0_4
  clear_value y0_0
  clear_value y0_1
  clear_value y0_2
  clear_value y0_3
  have h_y0_4 : Foot 259 s y0_4 := by
    unfold y0_4
    refine Foot.ite ?_ ?_
    · refine Foot.step (State.bump_foot ..) rfl ?_
      refine Foot.step (State.put_foot ..) rfl ?_
      exact Foot.refl
    · refine Foot.step (State.modEng_foot ..) rfl ?_
      exact Foot.refl
  clear_value y0_4
  refine Foot.mk1 ?_
  refine Foot.ite ?_ ?_
  · refine Foot.step (State.put_foot ..) rfl ?_
    exact h_y0_4
  · exact h_y0_4

theorem State.doMov_foot (s : State) (n w : Nat) (seen : DWord) : Foot 257 s (State.doMov s n w seen).1 := by
  unfold State.doMov
  extract_lets y0_0 y0_1
  clear_value y0_0
  clear_value y0_1
  refine Foot.mk1 ?_
  refine Foot.step (State.dstPut_foot ..) rfl ?_
  exact Foot.refl

theorem State.doSet_foot (s : State) (n w : Nat) : Foot 256 s (State.doSet s n w).1 := by
  unfold State.doSet
  refine Foot.mk1 ?_
  refine Foot.each ?_ ?_
  · intro a0_0 a0_1
    refine Foot.ite ?_ ?_
    · refine Foot.ite ?_ ?_
      · refine Foot.step (State.modEng_foot ..) rfl ?_
        exact Foot.refl
      · refine Foot.step (State.setLvl_foot ..) rfl ?_
        exact Foot.refl
    · exact Foot.refl
  · exact Foot.refl

theorem State.doEdge_foot (s : State) (n w : Nat) : Foot 256 s (State.doEdge s n w).1 := by
  unfold State.doEdge
  refine Foot.mk1 ?_
  refine Foot.step (State.setLvl_foot ..) rfl ?_
  exact Foot.refl

theorem State.doLdi_foot (s : State) (n w : Nat) : Foot 1 s (State.doLdi s n w).1 := by
  unfold State.doLdi
  extract_lets y0_0 y0_1 y0_2
  clear_value y0_0
  clear_value y0_1
  clear_value y0_2
  refine Foot.mk1 ?_
  refine Foot.step (State.put_foot ..) rfl ?_
  exact Foot.refl

theorem State.doAlu_foot (s : State) (n w : Nat) (seen : DWord) : Foot 1 s (State.doAlu s n w seen).1 := by
  unfold State.doAlu
  extract_lets y0_0 y0_1 y0_2 y0_3
  clear_value y0_0
  clear_value y0_1
  clear_value y0_2
  clear_value y0_3
  refine Foot.mk1 ?_
  refine Foot.step (State.put_foot ..) rfl ?_
  refine Foot.step (State.put_foot ..) rfl ?_
  exact Foot.refl

theorem State.doTest_foot (s : State) (n w : Nat) (seen : DWord) : Foot 1 s (State.doTest s n w seen).1 := by
  unfold State.doTest
  extract_lets y0_0 y0_1
  clear_value y0_0
  clear_value y0_1
  refine Foot.mk1 ?_
  refine Foot.step (State.put_foot ..) rfl ?_
  refine Foot.step (State.put_foot ..) rfl ?_
  exact Foot.refl

theorem State.doFlag_foot (s : State) (n w : Nat) : Foot 257 s (State.doFlag s n w).1 := by
  unfold State.doFlag
  extract_lets y0_0 y0_1
  clear_value y0_0
  have h_y0_1 : Foot 257 s y0_1 := by
    unfold y0_1
    split
    · refine Foot.step (State.efSet_foot ..) rfl ?_
      exact Foot.refl
    · refine Foot.step (State.efClr_foot ..) rfl ?_
      exact Foot.refl
    · refine Foot.step (State.efTgl_foot ..) rfl ?_
      exact Foot.refl
  clear_value y0_1
  refine Foot.mk1 ?_
  refine Foot.ite ?_ ?_
  · refine Foot.step (State.setBit_foot ..) rfl ?_
    exact h_y0_1
  · exact h_y0_1

theorem State.clkRestart_foot (s : State) (n : Nat) : Foot 256 s (State.clkRestart s n) := by
  unfold State.clkRestart
  refine Foot.step (State.modEng_foot ..) rfl ?_
  exact Foot.refl

theorem State.doCtl_foot (s : State) (n w : Nat) : Foot 256 s (State.doCtl s n w).1 := by
  unfold State.doCtl
  split
  · refine Foot.mk1 ?_
    refine Foot.step (State.clkRestart_foot ..) rfl ?_
    exact Foot.refl
  · refine Foot.mk1 ?_
    exact Foot.refl
  · refine Foot.mk1 ?_
    exact Foot.refl

theorem State.opEffect_foot (s : State) (n w : Nat) (seen : DWord) : Foot 2307 s (State.opEffect s n w seen).1 := by
  unfold State.opEffect
  split
  · refine Foot.step (State.doJmp_foot ..) rfl ?_
    exact Foot.refl
  · refine Foot.step (State.doWait_foot ..) rfl ?_
    exact Foot.refl
  · refine Foot.step (State.doShift_foot ..) rfl ?_
    exact Foot.refl
  · refine Foot.step (State.doPull_foot ..) rfl ?_
    exact Foot.refl
  · refine Foot.step (State.doPush_foot ..) rfl ?_
    exact Foot.refl
  · refine Foot.step (State.doMov_foot ..) rfl ?_
    exact Foot.refl
  · refine Foot.step (State.doSet_foot ..) rfl ?_
    exact Foot.refl
  · refine Foot.step (State.doEdge_foot ..) rfl ?_
    exact Foot.refl
  · refine Foot.step (State.doLdi_foot ..) rfl ?_
    exact Foot.refl
  · refine Foot.step (State.doAlu_foot ..) rfl ?_
    exact Foot.refl
  · refine Foot.step (State.doTest_foot ..) rfl ?_
    exact Foot.refl
  · refine Foot.step (State.doFlag_foot ..) rfl ?_
    exact Foot.refl
  · refine Foot.step (State.doCtl_foot ..) rfl ?_
    exact Foot.refl
  · refine Foot.mk1 ?_
    exact Foot.refl

theorem State.fineEdges_foot (s : State) (n w before : Nat) : Foot 256 s (State.fineEdges s n w before) := by
  unfold State.fineEdges
  refine Foot.each ?_ ?_
  · intro a0_0 a0_1
    extract_lets y1_0 y1_1 y1_2 y1_3 y1_4
    clear_value y1_0
    clear_value y1_1
    clear_value y1_2
    clear_value y1_3
    clear_value y1_4
    refine Foot.ite ?_ ?_
    · refine Foot.set_gg rfl ?_
      exact Foot.refl
    · exact Foot.refl
  · exact Foot.refl

theorem State.engStop_foot (s : State) (n st : Nat) : Foot 2049 s (State.engStop s n st) := by
  unfold State.engStop
  refine Foot.step (State.pilotHalt_foot ..) rfl ?_
  refine Foot.step (State.put_foot ..) rfl ?_
  refine Foot.step (State.put_foot ..) rfl ?_
  exact Foot.refl

theorem State.boundary_foot (s : State) (n w : Nat) (jump : Option Nat) (halt : Bool) : Foot 2305 s (State.boundary s n w jump halt) := by
  unfold State.boundary
  extract_lets y0_0 y0_1 y0_2 y0_3 y0_4
  clear_value y0_0
  clear_value y0_1
  clear_value y0_2
  clear_value y0_3
  have h_y0_4 : Foot 2305 s y0_4 := by
    unfold y0_4
    refine Foot.step (State.setEng_foot ..) rfl ?_
    refine Foot.step (State.put_foot ..) rfl ?_
    refine Foot.step (State.put_foot ..) rfl ?_
    exact Foot.refl
  clear_value y0_4
  refine Foot.ite ?_ ?_
  · refine Foot.step (State.put_foot ..) rfl ?_
    exact h_y0_4
  · refine Foot.ite ?_ ?_
    · refine Foot.step (State.engStop_foot ..) rfl ?_
      refine Foot.step (State.modEng_foot ..) rfl ?_
      exact h_y0_4
    · refine Foot.ite ?_ ?_
      · refine Foot.step (State.engStop_foot ..) rfl ?_
        exact h_y0_4
      · exact h_y0_4

theorem State.lateReport_foot (s : State) (n k deadline : Nat) : Foot 8389635 s (State.lateReport s n k deadline) := by
  unfold State.lateReport
  extract_lets y0_0 y0_1
  clear_value y0_0
  have h_y0_1 : Foot 8389635 s y0_1 := by
    unfold y0_1
    refine Foot.step (State.bump_foot ..) rfl ?_
    refine Foot.step (State.put_foot ..) rfl ?_
    exact Foot.refl
  clear_value y0_1
  refine Foot.step (State.miss_foot ..) rfl ?_
  refine Foot.step (State.fault_foot ..) rfl ?_
  exact h_y0_1

theorem State.advanceTb_foot (s : State) (n w : Nat) : Foot 1 s (State.advanceTb s n w) := by
  unfold State.advanceTb
  refine Foot.ite ?_ ?_
  · refine Foot.step (State.wr64_foot ..) rfl ?_
    exact Foot.refl
  · exact Foot.refl

theorem State.engSkip_foot (s : State) (n w : Nat) : Foot 8391939 s (State.engSkip s n w) := by
  unfold State.engSkip
  extract_lets y0_0
  clear_value y0_0
  refine Foot.step (State.boundary_foot ..) rfl ?_
  refine Foot.step (State.lateReport_foot ..) rfl ?_
  refine Foot.step (State.advanceTb_foot ..) rfl ?_
  exact Foot.refl

theorem State.engRun_foot (s : State) (n w : Nat) (seen : DWord) : Foot 8391939 s (State.engRun s n w seen) := by
  unfold State.engRun
  extract_lets y0_0 y0_1 y0_2 y0_3 y0_4
  clear_value y0_0
  clear_value y0_1
  have h_y0_2 : Foot 8391939 s y0_2.1 := by
    unfold y0_2
    refine Foot.step (State.opEffect_foot ..) rfl ?_
    refine Foot.step (State.advanceTb_foot ..) rfl ?_
    exact Foot.refl
  clear_value y0_2
  have h_y0_3 : Foot 8391939 s y0_3 := by
    unfold y0_3
    refine Foot.step (State.fineEdges_foot ..) rfl ?_
    refine Foot.step (State.applyMark_foot ..) rfl ?_
    exact h_y0_2
  clear_value y0_3
  have h_y0_4 : Foot 8391939 s y0_4 := by
    unfold y0_4
    refine Foot.ite ?_ ?_
    · refine Foot.step (State.lateReport_foot ..) rfl ?_
      exact h_y0_3
    · exact h_y0_3
  clear_value y0_4
  refine Foot.step (State.boundary_foot ..) rfl ?_
  exact h_y0_4

theorem State.engIllegal_foot (s : State) (n w : Nat) : Foot 8390915 s (State.engIllegal s n w) := by
  unfold State.engIllegal
  extract_lets y0_0
  have h_y0_0 : Foot 8390915 s y0_0 := by
    unfold y0_0
    refine Foot.step (State.modEng_foot ..) rfl ?_
    exact Foot.refl
  clear_value y0_0
  refine Foot.step (State.fault_foot ..) rfl ?_
  refine Foot.step (State.put_foot ..) rfl ?_
  refine Foot.step (State.engStop_foot ..) rfl ?_
  exact h_y0_0

theorem State.engStall_foot (s : State) (n c : Nat) : Foot 2305 s (State.engStall s n c) := by
  unfold State.engStall
  extract_lets y0_0 y0_1
  clear_value y0_0
  have h_y0_1 : Foot 2305 s y0_1 := by
    unfold y0_1
    refine Foot.step (State.put_foot ..) rfl ?_
    exact Foot.refl
  clear_value y0_1
  refine Foot.ite ?_ ?_
  · refine Foot.step (State.engStop_foot ..) rfl ?_
    refine Foot.step (State.setEng_foot ..) rfl ?_
    exact h_y0_1
  · exact h_y0_1

theorem State.engCycle_foot (s : State) (n op : Nat) (seen : DWord) : Foot 8391939 s (State.engCycle s n op seen) := by
  unfold State.engCycle
  split
  · exact Foot.refl
  · extract_lets y1_0
    clear_value y1_0
    refine Foot.ite ?_ ?_
    · exact Foot.refl
    · refine Foot.ite ?_ ?_
      · refine Foot.step (State.engIllegal_foot ..) rfl ?_
        exact Foot.refl
      · split
        · refine Foot.step (State.engRun_foot ..) rfl ?_
          exact Foot.refl
        · refine Foot.step (State.engSkip_foot ..) rfl ?_
          exact Foot.refl
        · refine Foot.step (State.engStall_foot ..) rfl ?_
          exact Foot.refl

theorem execNop_foot (n : Fin 16) (s : State) : FootO 8391939 s (execNop n s) := by
  unfold execNop
  refine FootO.next ?_
  refine Foot.step (State.engCycle_foot ..) rfl ?_
  exact Foot.refl

theorem execJmp_foot (n : Fin 16) (seen : DWord) (s : State) : FootO 8391939 s (execJmp n seen s) := by
  unfold execJmp
  refine FootO.next ?_
  refine Foot.step (State.engCycle_foot ..) rfl ?_
  exact Foot.refl

theorem execWait_foot (n : Fin 16) (seen : DWord) (s : State) : FootO 8391939 s (execWait n seen s) := by
  unfold execWait
  refine FootO.next ?_
  refine Foot.step (State.engCycle_foot ..) rfl ?_
  exact Foot.refl

theorem execShift_foot (n : Fin 16) (seen : DWord) (s : State) : FootO 8391939 s (execShift n seen s) := by
  unfold execShift
  refine FootO.next ?_
  refine Foot.step (State.engCycle_foot ..) rfl ?_
  exact Foot.refl

theorem execPull_foot (n : Fin 16) (s : State) : FootO 8391939 s (execPull n s) := by
  unfold execPull
  refine FootO.next ?_
  refine Foot.step (State.engCycle_foot ..) rfl ?_
  exact Foot.refl

theorem execPush_foot (n : Fin 16) (s : State) : FootO 8391939 s (execPush n s) := by
  unfold execPush
  refine FootO.next ?_
  refine Foot.step (State.engCycle_foot ..) rfl ?_
  exact Foot.refl

theorem execMovReg_foot (n : Fin 16) (seen : DWord) (s : State) : FootO 8391939 s (execMovReg n seen s) := by
  unfold execMovReg
  refine FootO.next ?_
  refine Foot.step (State.engCycle_foot ..) rfl ?_
  exact Foot.refl

theorem execSetReg_foot (n : Fin 16) (s : State) : FootO 8391939 s (execSetReg n s) := by
  unfold execSetReg
  refine FootO.next ?_
  refine Foot.step (State.engCycle_foot ..) rfl ?_
  exact Foot.refl

theorem execEdge_foot (n : Fin 16) (s : State) : FootO 8391939 s (execEdge n s) := by
  unfold execEdge
  refine FootO.next ?_
  refine Foot.step (State.engCycle_foot ..) rfl ?_
  exact Foot.refl

theorem execLdi_foot (n : Fin 16) (s : State) : FootO 8391939 s (execLdi n s) := by
  unfold execLdi
  refine FootO.next ?_
  refine Foot.step (State.engCycle_foot ..) rfl ?_
  exact Foot.refl

theorem execAlu_foot (n : Fin 16) (seen : DWord) (s : State) : FootO 8391939 s (execAlu n seen s) := by
  unfold execAlu
  refine FootO.next ?_
  refine Foot.step (State.engCycle_foot ..) rfl ?_
  exact Foot.refl

theorem execTestFlag_foot (n : Fin 16) (seen : DWord) (s : State) : FootO 8391939 s (execTestFlag n seen s) := by
  unfold execTestFlag
  refine FootO.next ?_
  refine Foot.step (State.engCycle_foot ..) rfl ?_
  exact Foot.refl

theorem execFlag_foot (n : Fin 16) (s : State) : FootO 8391939 s (execFlag n s) := by
  unfold execFlag
  refine FootO.next ?_
  refine Foot.step (State.engCycle_foot ..) rfl ?_
  exact Foot.refl

theorem State.ctlCycle_foot (s : State) (n opc : Nat) : Foot 8391939 s (State.ctlCycle s n opc) := by
  unfold State.ctlCycle
  split
  · exact Foot.refl
  · refine Foot.ite ?_ ?_
    · refine Foot.step (State.engCycle_foot ..) rfl ?_
      exact Foot.refl
    · exact Foot.refl

theorem execClkr_foot (n : Fin 16) (s : State) : FootO 8391939 s (execClkr n s) := by
  unfold execClkr
  refine FootO.next ?_
  refine Foot.step (State.ctlCycle_foot ..) rfl ?_
  exact Foot.refl

theorem execHalt_foot (n : Fin 16) (s : State) : FootO 8391939 s (execHalt n s) := by
  unfold execHalt
  refine FootO.next ?_
  refine Foot.step (State.ctlCycle_foot ..) rfl ?_
  exact Foot.refl

theorem execJmpx_foot (n : Fin 16) (s : State) : FootO 8391939 s (execJmpx n s) := by
  unfold execJmpx
  refine FootO.next ?_
  refine Foot.step (State.ctlCycle_foot ..) rfl ?_
  exact Foot.refl

theorem execGgIllegal_foot (n : Fin 16) (s : State) : FootO 8390915 s (execGgIllegal n s) := by
  unfold execGgIllegal
  refine FootO.next ?_
  split
  · refine Foot.ite ?_ ?_
    · refine Foot.step (State.engIllegal_foot ..) rfl ?_
      exact Foot.refl
    · exact Foot.refl
  · exact Foot.refl

theorem execInstructionSkip_foot (n : Fin 16) (s : State) : FootO 8391939 s (execInstructionSkip n s) := by
  unfold execInstructionSkip
  refine FootO.next ?_
  split
  · refine Foot.ite ?_ ?_
    · refine Foot.step (State.engSkip_foot ..) rfl ?_
      exact Foot.refl
    · exact Foot.refl
  · exact Foot.refl

end Sys2Proof.Machine
end

