-- ==== Sys2Proof/Laws/FootEngineCtl.lean ====
section
/-! SUPPORT. The footprints of the operations and meanings of Sys2Proof.Machine.EngineCtl. -/
namespace Sys2Proof.Machine

theorem State.freshStart_foot (s : State) (n : Nat) : Foot 2305 s (State.freshStart s n) := by
  unfold State.freshStart
  extract_lets y0_0 y0_1
  have h_y0_0 : Foot 2305 s y0_0 := by
    unfold y0_0
    refine Foot.step (State.put_foot ..) rfl ?_
    refine Foot.step (State.put_foot ..) rfl ?_
    refine Foot.step (State.put_foot ..) rfl ?_
    exact Foot.refl
  clear_value y0_0
  have h_y0_1 : Foot 2305 s y0_1 := by
    unfold y0_1
    refine Foot.step (State.put_foot ..) rfl ?_
    refine Foot.step (State.put_foot ..) rfl ?_
    refine Foot.step (State.put_foot ..) rfl ?_
    exact h_y0_0
  clear_value y0_1
  refine Foot.step (State.pilotRun_foot ..) rfl ?_
  refine Foot.step (State.clkRestart_foot ..) rfl ?_
  refine Foot.step (State.modEng_foot ..) rfl ?_
  exact h_y0_1

theorem State.ggStart_foot (s : State) (n : Nat) : Foot 2305 s (State.ggStart s n) := by
  unfold State.ggStart
  extract_lets y0_0
  clear_value y0_0
  refine Foot.ite ?_ ?_
  · refine Foot.step (State.freshStart_foot ..) rfl ?_
    exact Foot.refl
  · exact Foot.refl

theorem State.ggStop_foot (s : State) (n : Nat) : Foot 2305 s (State.ggStop s n) := by
  unfold State.ggStop
  extract_lets y0_0
  clear_value y0_0
  split
  · split
    · refine Foot.step (State.engStop_foot ..) rfl ?_
      exact Foot.refl
    · refine Foot.ite ?_ ?_
      · refine Foot.step (State.engStop_foot ..) rfl ?_
        refine Foot.step (State.setEng_foot ..) rfl ?_
        exact Foot.refl
      · refine Foot.step (State.setEng_foot ..) rfl ?_
        exact Foot.refl
  · refine Foot.step (State.put_foot ..) rfl ?_
    refine Foot.step (State.put_foot ..) rfl ?_
    refine Foot.step (State.setEng_foot ..) rfl ?_
    exact Foot.refl
  · exact Foot.refl

theorem State.runAgain_foot (s : State) (n : Nat) : Foot 2305 s (State.runAgain s n) := by
  unfold State.runAgain
  extract_lets y0_0
  clear_value y0_0
  refine Foot.step (State.pilotRun_foot ..) rfl ?_
  refine Foot.step (State.put_foot ..) rfl ?_
  refine Foot.step (State.setEng_foot ..) rfl ?_
  exact Foot.refl

theorem State.ggResume_foot (s : State) (n : Nat) : Foot 2305 s (State.ggResume s n) := by
  unfold State.ggResume
  extract_lets y0_0
  clear_value y0_0
  refine Foot.ite ?_ ?_
  · refine Foot.step (State.runAgain_foot ..) rfl ?_
    exact Foot.refl
  · exact Foot.refl

theorem State.ggCtl_foot {m : Nat} {s0 s : State} {n : Nat} {f : State → State} (_hm : 0 ||| m = m) (hf : ∀ x, Foot m x (f x))
    (h : Foot m s0 s) : Foot m s0 (State.ggCtl s n f) := by
  unfold State.ggCtl
  exact Foot.ite h (Foot.step (hf s) (Nat.or_self m) h)

theorem State.fifoClr_foot (s : State) (n : Nat) : Foot 256 s (State.fifoClr s n) := by
  unfold State.fifoClr
  refine Foot.step (State.modEng_foot ..) rfl ?_
  exact Foot.refl

theorem State.groupOp_foot (s : State) (op n : Nat) : Foot 2305 s (State.groupOp s op n) := by
  unfold State.groupOp
  split
  · refine Foot.step (State.ggStart_foot ..) rfl ?_
    exact Foot.refl
  · refine Foot.step (State.ggStop_foot ..) rfl ?_
    exact Foot.refl
  · refine Foot.step (State.ggResume_foot ..) rfl ?_
    exact Foot.refl
  · refine Foot.step (State.clkRestart_foot ..) rfl ?_
    exact Foot.refl
  · exact Foot.refl

theorem State.groupAct_foot (s : State) (g op : Nat) : Foot 2305 s (State.groupAct s g op) := by
  unfold State.groupAct
  refine Foot.each ?_ ?_
  · intro a0_0 a0_1
    refine Foot.ite ?_ ?_
    · exact Foot.refl
    · extract_lets y1_0 y1_1
      have h_y1_0 : Foot 2305 a0_0 y1_0 := by
        unfold y1_0
        refine Foot.step (State.groupOp_foot ..) rfl ?_
        exact Foot.refl
      clear_value y1_0
      clear_value y1_1
      refine Foot.set_gg rfl ?_
      exact h_y1_0
  · exact Foot.refl

theorem State.setArm_foot (s : State) (g : Nat) (op : Option Nat) : Foot 257 s (State.setArm s g op) := by
  unfold State.setArm
  extract_lets y0_0 y0_1
  clear_value y0_0
  have h_y0_1 : Foot 257 s y0_1 := by
    unfold y0_1
    refine Foot.set_gg rfl ?_
    exact Foot.refl
  clear_value y0_1
  refine Foot.ite ?_ ?_
  · refine Foot.step (State.setBit_foot ..) rfl ?_
    exact h_y0_1
  · refine Foot.step (State.clrBit_foot ..) rfl ?_
    exact h_y0_1

theorem State.groupCmd_foot (s : State) (g op : Nat) (atTime : Bool) : Foot 2305 s (State.groupCmd s g op atTime) := by
  unfold State.groupCmd
  refine Foot.ite ?_ ?_
  · exact Foot.refl
  · refine Foot.ite ?_ ?_
    · refine Foot.step (State.setArm_foot ..) rfl ?_
      exact Foot.refl
    · refine Foot.ite ?_ ?_
      · refine Foot.step (State.setArm_foot ..) rfl ?_
        exact Foot.refl
      · refine Foot.step (State.groupAct_foot ..) rfl ?_
        refine Foot.step (State.setArm_foot ..) rfl ?_
        exact Foot.refl

theorem State.groupWrite_foot (s : State) (g op : Nat) (atTime : Bool) : Foot 2305 s (State.groupWrite s g op atTime) := by
  unfold State.groupWrite
  refine Foot.ite ?_ ?_
  · exact Foot.refl
  · refine Foot.step (State.groupCmd_foot ..) rfl ?_
    exact Foot.refl

theorem State.groupFire_foot (s : State) (g : Nat) : Foot 8391939 s (State.groupFire s g) := by
  unfold State.groupFire
  split
  · exact Foot.refl
  · extract_lets y1_0 y1_1
    clear_value y1_0
    have h_y1_1 : Foot 8391939 s y1_1 := by
      unfold y1_1
      refine Foot.step (State.groupAct_foot ..) rfl ?_
      refine Foot.step (State.setArm_foot ..) rfl ?_
      exact Foot.refl
    clear_value y1_1
    refine Foot.ite ?_ ?_
    · exact Foot.refl
    · refine Foot.ite ?_ ?_
      · refine Foot.each ?_ ?_
        · intro a2_0 a2_1
          refine Foot.step (State.lateReport_foot ..) rfl ?_
          exact Foot.refl
        · refine Foot.step (State.setBit_foot ..) rfl ?_
          exact h_y1_1
      · exact h_y1_1

theorem State.txfWrite_foot (s : State) (n : Nat) (w : Word) : Foot 257 s (State.txfWrite s n w) := by
  unfold State.txfWrite
  refine Foot.ite ?_ ?_
  · refine Foot.step (State.put_foot ..) rfl ?_
    exact Foot.refl
  · refine Foot.step (State.modEng_foot ..) rfl ?_
    exact Foot.refl

theorem State.rxfRead_foot (s : State) (n : Nat) : Foot 257 s (State.rxfRead s n).1 := by
  unfold State.rxfRead
  split
  · refine Foot.ite1 ?_ ?_
    · refine Foot.mk1 ?_
      refine Foot.step (State.put_foot ..) rfl ?_
      exact Foot.refl
    · refine Foot.mk1 ?_
      refine Foot.step (State.modEng_foot ..) rfl ?_
      exact Foot.refl
  · refine Foot.mk1 ?_
    refine Foot.step (State.put_foot ..) rfl ?_
    exact Foot.refl

theorem State.injTake_foot (s : State) (n : Nat) (w : Word) : Foot 257 s (State.injTake s n w) := by
  unfold State.injTake
  extract_lets y0_0 y0_1
  clear_value y0_0
  have h_y0_1 : Foot 257 s y0_1 := by
    unfold y0_1
    refine Foot.step (State.put_foot ..) rfl ?_
    refine Foot.step (State.modEng_foot ..) rfl ?_
    exact Foot.refl
  clear_value y0_1
  refine Foot.ite ?_ ?_
  · refine Foot.step (State.put_foot ..) rfl ?_
    refine Foot.step (State.modEng_foot ..) rfl ?_
    exact h_y0_1
  · exact h_y0_1

theorem State.ggInj_foot (s : State) (n : Nat) (w : Word) : Foot 257 s (State.ggInj s n w) := by
  unfold State.ggInj
  refine Foot.ite ?_ ?_
  · refine Foot.step (State.put_foot ..) rfl ?_
    exact Foot.refl
  · refine Foot.step (State.injTake_foot ..) rfl ?_
    exact Foot.refl

theorem State.abandon_foot (s : State) (n : Nat) (w : Word) (inj : Bool) : Foot 259 s (State.abandon s n w inj) := by
  unfold State.abandon
  extract_lets y0_0
  have h_y0_0 : Foot 259 s y0_0 := by
    unfold y0_0
    refine Foot.step (State.put_foot ..) rfl ?_
    refine Foot.step (State.put_foot ..) rfl ?_
    exact Foot.refl
  clear_value y0_0
  refine Foot.step (State.bump_foot ..) rfl ?_
  refine Foot.step (State.put_foot ..) rfl ?_
  refine Foot.step (State.modEng_foot ..) rfl ?_
  exact h_y0_0

theorem State.ggForce_foot (s : State) (n : Nat) (w : Word) : Foot 259 s (State.ggForce s n w) := by
  unfold State.ggForce
  refine Foot.ite ?_ ?_
  · refine Foot.step (State.put_foot ..) rfl ?_
    exact Foot.refl
  · extract_lets y0_0 y0_1 y0_2
    clear_value y0_0
    clear_value y0_1
    have h_y0_2 : Foot 259 s y0_2 := by
      unfold y0_2
      refine Foot.ite ?_ ?_
      · split
        · refine Foot.ite ?_ ?_
          · refine Foot.step (State.abandon_foot ..) rfl ?_
            exact Foot.refl
          · exact Foot.refl
        · exact Foot.refl
      · refine Foot.ite ?_ ?_
        · split
          · refine Foot.step (State.abandon_foot ..) rfl ?_
            exact Foot.refl
          · exact Foot.refl
        · exact Foot.refl
    clear_value y0_2
    refine Foot.step (State.injTake_foot ..) rfl ?_
    exact h_y0_2

theorem State.engTick_foot (s : State) (n : Nat) : Foot 257 s (State.engTick s n) := by
  unfold State.engTick
  extract_lets y0_0 y0_1 y0_2 y0_3 y0_4 y0_5 y0_6 y0_7 y0_8
  clear_value y0_0
  clear_value y0_1
  clear_value y0_2
  clear_value y0_3
  clear_value y0_4
  clear_value y0_5
  clear_value y0_6
  have h_y0_7 : Foot 257 s y0_7 := by
    unfold y0_7
    refine Foot.ite ?_ ?_
    · refine Foot.step (State.put_foot ..) rfl ?_
      exact Foot.refl
    · exact Foot.refl
  clear_value y0_7
  clear_value y0_8
  refine Foot.ite ?_ ?_
  · split
    · refine Foot.step (State.put_foot ..) rfl ?_
      refine Foot.step (State.setEng_foot ..) rfl ?_
      exact h_y0_7
    · refine Foot.ite ?_ ?_
      · refine Foot.step (State.setEng_foot ..) rfl ?_
        exact h_y0_7
      · refine Foot.step (State.setEng_foot ..) rfl ?_
        exact h_y0_7
  · refine Foot.step (State.setEng_foot ..) rfl ?_
    exact h_y0_7

theorem State.ggTick_foot (s : State) : Foot 257 s (State.ggTick s) := by
  unfold State.ggTick
  refine Foot.ite ?_ ?_
  · exact Foot.refl
  · extract_lets y0_0 y0_1
    clear_value y0_0
    have h_y0_1 : Foot 257 s y0_1 := by
      unfold y0_1
      refine Foot.set_gg rfl ?_
      exact Foot.refl
    clear_value y0_1
    refine Foot.each ?_ ?_
    · intro a1_0 a1_1
      refine Foot.step (State.engTick_foot ..) rfl ?_
      exact Foot.refl
    · exact h_y0_1

theorem State.ggSleep_foot (s : State) : Foot 2305 s (State.ggSleep s) := by
  unfold State.ggSleep
  extract_lets y0_0 y0_1
  clear_value y0_0
  clear_value y0_1
  refine Foot.each ?_ ?_
  · intro a1_0 a1_1
    refine Foot.ite ?_ ?_
    · refine Foot.step (State.ggStop_foot ..) rfl ?_
      exact Foot.refl
    · exact Foot.refl
  · refine Foot.set_gg rfl ?_
    exact Foot.refl

theorem State.ggWake_foot (s : State) : Foot 2305 s (State.ggWake s) := by
  unfold State.ggWake
  extract_lets y0_0 y0_1 y0_2
  clear_value y0_0
  clear_value y0_1
  clear_value y0_2
  refine Foot.each ?_ ?_
  · intro a1_0 a1_1
    refine Foot.ite ?_ ?_
    · extract_lets y2_0 y2_1
      have h_y2_0 : Foot 2305 a1_0 y2_0 := by
        unfold y2_0
        refine Foot.step (State.modEng_foot ..) rfl ?_
        exact Foot.refl
      clear_value y2_0
      have h_y2_1 : Foot 2305 a1_0 y2_1 := by
        unfold y2_1
        refine Foot.ite ?_ ?_
        · refine Foot.step (State.runAgain_foot ..) rfl ?_
          exact h_y2_0
        · exact h_y2_0
      clear_value y2_1
      refine Foot.ite ?_ ?_
      · refine Foot.step (State.clkRestart_foot ..) rfl ?_
        exact h_y2_1
      · exact h_y2_1
    · exact Foot.refl
  · refine Foot.set_gg rfl ?_
    exact Foot.refl

theorem State.ggApply_foot (s old : State) (first : Bool) : Foot 2305 s (State.ggApply s old first) := by
  unfold State.ggApply
  refine Foot.ite ?_ ?_
  · exact Foot.refl
  · extract_lets y0_0 y0_1 y0_2 y0_3 y0_4 y0_5
    clear_value y0_0
    have h_y0_1 : Foot 2305 s y0_1 := by
      unfold y0_1
      refine Foot.each ?_ ?_
      · intro a1_0 a1_1
        refine Foot.each ?_ ?_
        · intro a2_0 a2_1
          extract_lets y3_0
          clear_value y3_0
          refine Foot.ite ?_ ?_
          · refine Foot.step (State.modEng_foot ..) rfl ?_
            exact Foot.refl
          · exact Foot.refl
        · exact Foot.refl
      · exact Foot.refl
    clear_value y0_1
    clear_value y0_2
    have h_y0_3 : Foot 2305 s y0_3 := by
      unfold y0_3
      refine Foot.each ?_ ?_
      · intro a1_0 a1_1
        refine Foot.ite ?_ ?_
        · refine Foot.step (State.put_foot ..) rfl ?_
          refine Foot.step (State.fifoClr_foot ..) rfl ?_
          exact Foot.refl
        · exact Foot.refl
      · exact h_y0_1
    clear_value y0_3
    clear_value y0_4
    have h_y0_5 : Foot 2305 s y0_5 := by
      unfold y0_5
      refine Foot.set_gg rfl ?_
      exact h_y0_3
    clear_value y0_5
    refine Foot.each ?_ ?_
    · intro a1_0 a1_1
      extract_lets y2_0 y2_1
      clear_value y2_0
      clear_value y2_1
      refine Foot.ite ?_ ?_
      · refine Foot.ite ?_ ?_
        · exact Foot.refl
        · refine Foot.step (State.freshStart_foot ..) rfl ?_
          exact Foot.refl
      · refine Foot.ite ?_ ?_
        · refine Foot.step (State.ggStop_foot ..) rfl ?_
          exact Foot.refl
        · exact Foot.refl
    · exact h_y0_5

theorem State.ggReset_foot (s : State) : Foot 2305 s (State.ggReset s) := by
  unfold State.ggReset
  extract_lets y0_0 y0_1
  have h_y0_0 : Foot 2305 s y0_0 := by
    unfold y0_0
    refine Foot.each ?_ ?_
    · intro a1_0 a1_1
      extract_lets y2_0 y2_1
      have h_y2_0 : Foot 2305 a1_0 y2_0 := by
        unfold y2_0
        refine Foot.step (State.clr_foot ..) rfl ?_
        refine Foot.step (State.clr_foot ..) rfl ?_
        refine Foot.step (State.clr_foot ..) rfl ?_
        refine Foot.step (State.clr_foot ..) rfl ?_
        refine Foot.step (State.clr_foot ..) rfl ?_
        exact Foot.refl
      clear_value y2_0
      have h_y2_1 : Foot 2305 a1_0 y2_1 := by
        unfold y2_1
        refine Foot.step (State.clr64_foot ..) rfl ?_
        refine Foot.each ?_ ?_
        · intro a3_0 a3_1
          refine Foot.step (State.clr_foot ..) rfl ?_
          exact Foot.refl
        · exact h_y2_0
      clear_value y2_1
      refine Foot.step (State.pilotHalt_foot ..) rfl ?_
      refine Foot.step (State.clr64_foot ..) rfl ?_
      exact h_y2_1
    · exact Foot.refl
  clear_value y0_0
  have h_y0_1 : Foot 2305 s y0_1 := by
    unfold y0_1
    refine Foot.step (State.clr_foot ..) rfl ?_
    refine Foot.step (State.clr_foot ..) rfl ?_
    refine Foot.step (State.clr_foot ..) rfl ?_
    exact h_y0_0
  clear_value y0_1
  refine Foot.each ?_ ?_
  · intro a1_0 a1_1
    refine Foot.step (State.clr64_foot ..) rfl ?_
    exact Foot.refl
  · refine Foot.set_gg rfl ?_
    exact h_y0_1

theorem execGgStart_foot (n : Fin 16) (s : State) : FootO 8390915 s (execGgStart n s) := by
  unfold execGgStart
  refine FootO.next ?_
  refine State.cmd_foot rfl ?_ ?_
  · intro a0_0
    refine State.ggCtl_foot rfl ?_ ?_
    · intro a1_0
      refine Foot.step (State.ggStart_foot ..) rfl ?_
      exact Foot.refl
    · exact Foot.refl
  · exact Foot.refl

theorem execGgStop_foot (n : Fin 16) (s : State) : FootO 8390915 s (execGgStop n s) := by
  unfold execGgStop
  refine FootO.next ?_
  refine State.cmd_foot rfl ?_ ?_
  · intro a0_0
    refine State.ggCtl_foot rfl ?_ ?_
    · intro a1_0
      refine Foot.step (State.ggStop_foot ..) rfl ?_
      exact Foot.refl
    · exact Foot.refl
  · exact Foot.refl

theorem execGgResume_foot (n : Fin 16) (s : State) : FootO 8390915 s (execGgResume n s) := by
  unfold execGgResume
  refine FootO.next ?_
  refine State.cmd_foot rfl ?_ ?_
  · intro a0_0
    refine State.ggCtl_foot rfl ?_ ?_
    · intro a1_0
      refine Foot.step (State.ggResume_foot ..) rfl ?_
      exact Foot.refl
    · exact Foot.refl
  · exact Foot.refl

theorem execGgClkr_foot (n : Fin 16) (s : State) : FootO 8388867 s (execGgClkr n s) := by
  unfold execGgClkr
  refine FootO.next ?_
  refine State.cmd_foot rfl ?_ ?_
  · intro a0_0
    refine State.ggCtl_foot rfl ?_ ?_
    · intro a1_0
      refine Foot.step (State.clkRestart_foot ..) rfl ?_
      exact Foot.refl
    · exact Foot.refl
  · exact Foot.refl

theorem execFifoClr_foot (n : Fin 16) (s : State) : FootO 8388867 s (execFifoClr n s) := by
  unfold execFifoClr
  refine FootO.next ?_
  refine State.cmd_foot rfl ?_ ?_
  · intro a0_0
    refine State.ggCtl_foot rfl ?_ ?_
    · intro a1_0
      refine Foot.step (State.fifoClr_foot ..) rfl ?_
      exact Foot.refl
    · exact Foot.refl
  · exact Foot.refl

theorem execGroupDisarm_foot (g : Fin 4) (s : State) : FootO 8390915 s (execGroupDisarm g s) := by
  unfold execGroupDisarm
  refine FootO.next ?_
  refine State.cmd_foot rfl ?_ ?_
  · intro a0_0
    refine Foot.step (State.groupWrite_foot ..) rfl ?_
    exact Foot.refl
  · exact Foot.refl

theorem execGroupStart_foot (g : Fin 4) (atTime : Bool) (s : State) : FootO 8390915 s (execGroupStart g atTime s) := by
  unfold execGroupStart
  refine FootO.next ?_
  refine State.cmd_foot rfl ?_ ?_
  · intro a0_0
    refine Foot.step (State.groupWrite_foot ..) rfl ?_
    exact Foot.refl
  · exact Foot.refl

theorem execGroupStop_foot (g : Fin 4) (atTime : Bool) (s : State) : FootO 8390915 s (execGroupStop g atTime s) := by
  unfold execGroupStop
  refine FootO.next ?_
  refine State.cmd_foot rfl ?_ ?_
  · intro a0_0
    refine Foot.step (State.groupWrite_foot ..) rfl ?_
    exact Foot.refl
  · exact Foot.refl

theorem execGroupResume_foot (g : Fin 4) (atTime : Bool) (s : State) : FootO 8390915 s (execGroupResume g atTime s) := by
  unfold execGroupResume
  refine FootO.next ?_
  refine State.cmd_foot rfl ?_ ?_
  · intro a0_0
    refine Foot.step (State.groupWrite_foot ..) rfl ?_
    exact Foot.refl
  · exact Foot.refl

theorem execGroupClkr_foot (g : Fin 4) (atTime : Bool) (s : State) : FootO 8390915 s (execGroupClkr g atTime s) := by
  unfold execGroupClkr
  refine FootO.next ?_
  refine State.cmd_foot rfl ?_ ?_
  · intro a0_0
    refine Foot.step (State.groupWrite_foot ..) rfl ?_
    exact Foot.refl
  · exact Foot.refl

theorem execGroupTimedFire_foot (g : Fin 4) (s : State) : FootO 8391939 s (execGroupTimedFire g s) := by
  unfold execGroupTimedFire
  refine FootO.ite ?_ ?_
  · refine FootO.next ?_
    exact Foot.refl
  · refine FootO.next ?_
    refine Foot.step (State.groupFire_foot ..) rfl ?_
    exact Foot.refl

theorem execGgTxfWrite_foot (n : Fin 16) (word : Word) (s : State) : FootO 8388867 s (execGgTxfWrite n word s) := by
  unfold execGgTxfWrite
  refine FootO.next ?_
  refine State.cmd_foot rfl ?_ ?_
  · intro a0_0
    refine Foot.step (State.txfWrite_foot ..) rfl ?_
    exact Foot.refl
  · exact Foot.refl

theorem execGgRxfRead_foot (n : Fin 16) (who : Who) (s : State) : FootO 12583171 s (execGgRxfRead n who s) := by
  unfold execGgRxfRead
  refine FootO.next ?_
  refine State.readCmd_foot rfl ?_ ?_
  · intro a0_0
    refine Foot.step (State.rxfRead_foot ..) rfl ?_
    exact Foot.refl
  · exact Foot.refl

theorem execGgInj_foot (n : Fin 16) (word : Word) (s : State) : FootO 8388867 s (execGgInj n word s) := by
  unfold execGgInj
  refine FootO.next ?_
  refine State.cmd_foot rfl ?_ ?_
  · intro a0_0
    refine Foot.step (State.ggInj_foot ..) rfl ?_
    exact Foot.refl
  · exact Foot.refl

theorem execGgInjForce_foot (n : Fin 16) (word : Word) (s : State) : FootO 8388867 s (execGgInjForce n word s) := by
  unfold execGgInjForce
  refine FootO.next ?_
  refine State.cmd_foot rfl ?_ ?_
  · intro a0_0
    refine Foot.step (State.ggForce_foot ..) rfl ?_
    exact Foot.refl
  · exact Foot.refl

theorem execGgImemWrite_foot (n : Fin 16) (w : Fin 64) (word : Word) (s : State) : FootO 8388611 s (execGgImemWrite n w word s) := by
  unfold execGgImemWrite
  refine FootO.next ?_
  refine State.cmd_foot rfl ?_ ?_
  · intro a0_0
    refine Foot.step (State.wr_foot ..) rfl ?_
    exact Foot.refl
  · exact Foot.refl

theorem execEfSet_foot (mask : BitVec 16) (s : State) : FootO 8388867 s (execEfSet mask s) := by
  unfold execEfSet
  refine FootO.next ?_
  refine State.cmd_foot rfl ?_ ?_
  · intro a0_0
    refine Foot.step (State.efSet_foot ..) rfl ?_
    exact Foot.refl
  · exact Foot.refl

theorem execEfClr_foot (mask : BitVec 16) (s : State) : FootO 8388867 s (execEfClr mask s) := by
  unfold execEfClr
  refine FootO.next ?_
  refine State.cmd_foot rfl ?_ ?_
  · intro a0_0
    refine Foot.step (State.efClr_foot ..) rfl ?_
    exact Foot.refl
  · exact Foot.refl

end Sys2Proof.Machine
end

