-- ==== Sys2Proof/Laws/FootStream.lean ====
section
/-! SUPPORT. The footprints of the operations and meanings of Sys2Proof.Machine.Stream. -/
namespace Sys2Proof.Machine

theorem State.setSq_foot (s : State) (q : Nat) (r : Sq) : Foot 513 s (State.setSq s q r) := by
  unfold State.setSq
  extract_lets y0_0 y0_1 y0_2 y0_3 y0_4 y0_5
  clear_value y0_0
  clear_value y0_1
  clear_value y0_2
  clear_value y0_3
  have h_y0_4 : Foot 513 s y0_4 := by
    unfold y0_4
    refine Foot.set_sq rfl ?_
    exact Foot.refl
  clear_value y0_4
  have h_y0_5 : Foot 513 s y0_5 := by
    unfold y0_5
    refine Foot.step (State.put_foot ..) rfl ?_
    refine Foot.step (State.put_foot ..) rfl ?_
    exact h_y0_4
  clear_value y0_5
  refine Foot.ite ?_ ?_
  · refine Foot.ite ?_ ?_
    · refine Foot.step (State.setBit_foot ..) rfl ?_
      exact h_y0_5
    · refine Foot.step (State.setBit_foot ..) rfl ?_
      exact h_y0_5
  · exact h_y0_5

theorem State.sqClose_foot (s : State) (q nw stamp : Nat) (ack : Option (Nat × Nat × Nat)) : Foot 8389135 s (State.sqClose s q nw stamp ack) := by
  unfold State.sqClose
  extract_lets y0_0 y0_1 y0_2 y0_3 y0_4 y0_5
  clear_value y0_0
  clear_value y0_1
  clear_value y0_2
  clear_value y0_3
  have h_y0_4 : Foot 8389135 s y0_4 := by
    unfold y0_4
    refine Foot.step (State.hubWrite_foot ..) rfl ?_
    exact Foot.refl
  clear_value y0_4
  have h_y0_5 : Foot 8389135 s y0_5 := by
    unfold y0_5
    refine Foot.ite ?_ ?_
    · refine Foot.step (State.put_foot ..) rfl ?_
      refine Foot.step (State.satAdd_foot ..) rfl ?_
      exact h_y0_4
    · exact h_y0_4
  clear_value y0_5
  refine Foot.step (State.setSq_foot ..) rfl ?_
  exact h_y0_5

theorem State.sqStore_foot (s : State) (q : Nat) (x : SqClose) : Foot 8389135 s (State.sqStore s q x) := by
  unfold State.sqStore
  refine Foot.step (State.sqClose_foot ..) rfl ?_
  refine Foot.step (State.hubWrites_foot ..) rfl ?_
  exact Foot.refl

theorem State.sqPut_foot (s : State) (q : Nat) (x : SqClose) : Foot 8389135 s (State.sqPut s q x) := by
  unfold State.sqPut
  extract_lets y0_0
  clear_value y0_0
  refine Foot.ite ?_ ?_
  · refine Foot.step (State.ask_foot ..) rfl ?_
    refine Foot.step (State.setSq_foot ..) rfl ?_
    exact Foot.refl
  · refine Foot.step (State.sqStore_foot ..) rfl ?_
    exact Foot.refl

theorem State.sqPump_foot (s : State) (q : Nat) : Foot 8389135 s (State.sqPump s q) := by
  unfold State.sqPump
  refine Foot.each ?_ ?_
  · intro a0_0 a0_1
    split
    · exact Foot.refl
    · refine Foot.ite ?_ ?_
      · exact Foot.refl
      · refine Foot.step (State.sqStore_foot ..) rfl ?_
        refine Foot.step (State.setSq_foot ..) rfl ?_
        exact Foot.refl
  · exact Foot.refl

theorem State.sqPumpAll_foot (s : State) : Foot 8389135 s (State.sqPumpAll s) := by
  unfold State.sqPumpAll
  refine Foot.ite ?_ ?_
  · exact Foot.refl
  · refine Foot.each ?_ ?_
    · intro a0_0 a0_1
      refine Foot.step (State.sqPump_foot ..) rfl ?_
      exact Foot.refl
    · exact Foot.refl

theorem State.sqPart_foot (s : State) (q : Nat) : Foot 8389135 s (State.sqPart s q) := by
  unfold State.sqPart
  extract_lets y0_0
  clear_value y0_0
  refine Foot.ite ?_ ?_
  · exact Foot.refl
  · refine Foot.step (State.sqPut_foot ..) rfl ?_
    exact Foot.refl

theorem State.sqCycle_foot (s : State) : Foot 8389135 s (State.sqCycle s) := by
  unfold State.sqCycle
  refine Foot.ite ?_ ?_
  · exact Foot.refl
  · refine Foot.each ?_ ?_
    · intro a0_0 a0_1
      refine Foot.ite ?_ ?_
      · refine Foot.step (State.sqPart_foot ..) rfl ?_
        exact Foot.refl
      · exact Foot.refl
    · exact Foot.refl

theorem State.creditBack_foot (s : State) (q : Nat) : Foot 513 s (State.creditBack s q) := by
  unfold State.creditBack
  extract_lets y0_0
  clear_value y0_0
  refine Foot.step (State.setSq_foot ..) rfl ?_
  exact Foot.refl

theorem State.sqDeliver_foot (s : State) (f : Frame) : Foot 8389135 s (State.sqDeliver s f) := by
  unfold State.sqDeliver
  extract_lets y0_0
  clear_value y0_0
  refine Foot.ite ?_ ?_
  · exact Foot.refl
  · refine Foot.ite ?_ ?_
    · refine Foot.ite ?_ ?_
      · refine Foot.step (State.creditBack_foot ..) rfl ?_
        exact Foot.refl
      · exact Foot.refl
    · refine Foot.ite ?_ ?_
      · refine Foot.step (State.fault_foot ..) rfl ?_
        refine Foot.step (State.put_foot ..) rfl ?_
        refine Foot.step (State.put_foot ..) rfl ?_
        refine Foot.step (State.put_foot ..) rfl ?_
        refine Foot.step (State.put_foot ..) rfl ?_
        exact Foot.refl
      · refine Foot.ite ?_ ?_
        · refine Foot.step (State.put_foot ..) rfl ?_
          refine Foot.step (State.satAdd_foot ..) rfl ?_
          exact Foot.refl
        · refine Foot.ite ?_ ?_
          · exact Foot.refl
          · refine Foot.step (State.sqPut_foot ..) rfl ?_
            exact Foot.refl

theorem State.sqAck_foot (s : State) (i : SqItem) : Foot 10485915 s (State.sqAck s i) := by
  unfold State.sqAck
  split
  · refine Foot.step (State.originate_foot ..) rfl ?_
    exact Foot.refl
  · exact Foot.refl

theorem State.sqBegin_foot (s : State) (q nw : Nat) : Foot 10486427 s (State.sqBegin s q nw) := by
  unfold State.sqBegin
  extract_lets y0_0
  clear_value y0_0
  split
  · exact Foot.refl
  · refine Foot.ite ?_ ?_
    · exact Foot.refl
    · refine Foot.step (State.sqAck_foot ..) rfl ?_
      refine Foot.step (State.setSq_foot ..) rfl ?_
      exact Foot.refl

theorem State.sqFetch_foot (s : State) (q : Nat) : Foot 10486427 s (State.sqFetch s q) := by
  unfold State.sqFetch
  extract_lets y0_0
  clear_value y0_0
  split
  · exact Foot.refl
  · refine Foot.ite ?_ ?_
    · exact Foot.refl
    · refine Foot.ite ?_ ?_
      · refine Foot.step (State.ask_foot ..) rfl ?_
        exact Foot.refl
      · extract_lets y2_0
        have h_y2_0 : Foot 10486427 s y2_0.1 := by
          unfold y2_0
          refine Foot.step (State.hubRead_foot ..) rfl ?_
          exact Foot.refl
        clear_value y2_0
        refine Foot.step (State.sqBegin_foot ..) rfl ?_
        exact h_y2_0

theorem State.flushNow_foot (s : State) (q : Nat) : Foot 513 s (State.flushNow s q) := by
  unfold State.flushNow
  refine Foot.step (State.put_foot ..) rfl ?_
  refine Foot.step (State.put_foot ..) rfl ?_
  refine Foot.step (State.setSq_foot ..) rfl ?_
  exact Foot.refl

theorem State.sqEnd_foot (s : State) (q : Nat) : Foot 513 s (State.sqEnd s q) := by
  unfold State.sqEnd
  extract_lets y0_0 y0_1
  clear_value y0_0
  have h_y0_1 : Foot 513 s y0_1 := by
    unfold y0_1
    refine Foot.step (State.setSq_foot ..) rfl ?_
    exact Foot.refl
  clear_value y0_1
  refine Foot.ite ?_ ?_
  · refine Foot.step (State.flushNow_foot ..) rfl ?_
    exact h_y0_1
  · exact h_y0_1

theorem State.headRead_foot (s : State) (q : Nat) : Foot 10486427 s (State.headRead s q).1 := by
  unfold State.headRead
  extract_lets y0_0 y0_1
  have h_y0_0 : Foot 10486427 s y0_0 := by
    unfold y0_0
    refine Foot.ite ?_ ?_
    · refine Foot.step (State.sqBegin_foot ..) rfl ?_
      exact Foot.refl
    · exact Foot.refl
  clear_value y0_0
  clear_value y0_1
  refine Foot.mk1 ?_
  exact h_y0_0

theorem State.flush_foot (s : State) (q : Nat) : Foot 513 s (State.flush s q) := by
  unfold State.flush
  refine Foot.ite ?_ ?_
  · refine Foot.step (State.flushNow_foot ..) rfl ?_
    exact Foot.refl
  · refine Foot.step (State.put_foot ..) rfl ?_
    exact Foot.refl

theorem State.adv_foot (s : State) (q : Nat) : Foot 513 s (State.adv s q) := by
  unfold State.adv
  refine Foot.ite ?_ ?_
  · refine Foot.step (State.sqEnd_foot ..) rfl ?_
    exact Foot.refl
  · exact Foot.refl

theorem State.commitItem_foot (s : State) (q nw : Nat) : Foot 8389135 s (State.commitItem s q nw) := by
  unfold State.commitItem
  refine Foot.ite ?_ ?_
  · refine Foot.step (State.sqPut_foot ..) rfl ?_
    exact Foot.refl
  · exact Foot.refl

theorem State.sqReset_foot (s : State) : Foot 513 s (State.sqReset s) := by
  unfold State.sqReset
  extract_lets y0_0 y0_1
  have h_y0_0 : Foot 513 s y0_0 := by
    unfold y0_0
    refine Foot.each ?_ ?_
    · intro a1_0 a1_1
      refine Foot.step (State.clr_foot ..) rfl ?_
      exact Foot.refl
    · exact Foot.refl
  clear_value y0_0
  have h_y0_1 : Foot 513 s y0_1 := by
    unfold y0_1
    refine Foot.step (State.clr_foot ..) rfl ?_
    refine Foot.step (State.clr_foot ..) rfl ?_
    refine Foot.step (State.clr_foot ..) rfl ?_
    refine Foot.step (State.clr_foot ..) rfl ?_
    refine Foot.step (State.clr_foot ..) rfl ?_
    exact h_y0_0
  clear_value y0_1
  refine Foot.set_sq rfl ?_
  exact h_y0_1

theorem execMoverTxWord_foot (q : Fin 64) (s : State) : FootO 10486683 s (execMoverTxWord q s) := by
  unfold execMoverTxWord
  refine FootO.next ?_
  extract_lets y0_0 y0_1 y0_2
  clear_value y0_0
  have h_y0_1 : Foot 10486683 s y0_1 := by
    unfold y0_1
    refine Foot.ite ?_ ?_
    · exact Foot.refl
    · refine Foot.step (State.sqFetch_foot ..) rfl ?_
      exact Foot.refl
  clear_value y0_1
  clear_value y0_2
  refine Foot.ite ?_ ?_
  · split
    · exact h_y0_1
    · extract_lets y2_0 y2_1
      clear_value y2_0
      have h_y2_1 : Foot 10486683 s y2_1.1 := by
        unfold y2_1
        refine Foot.step (State.hubRead_foot ..) rfl ?_
        exact h_y0_1
      clear_value y2_1
      refine Foot.ite ?_ ?_
      · refine Foot.step (State.sqEnd_foot ..) rfl ?_
        exact h_y0_1
      · refine Foot.ite ?_ ?_
        · refine Foot.step (State.ask_foot ..) rfl ?_
          exact h_y0_1
        · split
          · refine Foot.step (State.sqEnd_foot ..) rfl ?_
            exact h_y2_1
          · extract_lets y4_0
            have h_y4_0 : Foot 10486683 s y4_0 := by
              unfold y4_0
              refine Foot.step (State.modEng_foot ..) rfl ?_
              exact h_y2_1
            clear_value y4_0
            refine Foot.ite ?_ ?_
            · refine Foot.step (State.sqEnd_foot ..) rfl ?_
              exact h_y4_0
            · refine Foot.step (State.setSq_foot ..) rfl ?_
              exact h_y4_0
  · exact Foot.refl

theorem execMoverRxWord_foot (q : Fin 64) (s : State) : FootO 8389391 s (execMoverRxWord q s) := by
  unfold execMoverRxWord
  refine FootO.next ?_
  extract_lets y0_0
  clear_value y0_0
  refine Foot.ite ?_ ?_
  · split
    · exact Foot.refl
    · extract_lets y2_0 y2_1 y2_2 y2_3
      have h_y2_0 : Foot 8389391 s y2_0 := by
        unfold y2_0
        refine Foot.step (State.modEng_foot ..) rfl ?_
        exact Foot.refl
      clear_value y2_0
      clear_value y2_1
      clear_value y2_2
      have h_y2_3 : Foot 8389391 s y2_3 := by
        unfold y2_3
        refine Foot.step (State.setSq_foot ..) rfl ?_
        exact h_y2_0
      clear_value y2_3
      refine Foot.ite ?_ ?_
      · refine Foot.step (State.sqPart_foot ..) rfl ?_
        exact h_y2_3
      · exact h_y2_3
  · exact Foot.refl

theorem execFlush_foot (q : Fin 64) (s : State) : FootO 8389123 s (execFlush q s) := by
  unfold execFlush
  refine FootO.next ?_
  refine State.cmd_foot rfl ?_ ?_
  · intro a0_0
    refine Foot.step (State.flush_foot ..) rfl ?_
    exact Foot.refl
  · exact Foot.refl

theorem execFlushTakeEffect_foot (q : Fin 64) (s : State) : FootO 513 s (execFlushTakeEffect q s) := by
  unfold execFlushTakeEffect
  refine FootO.ite ?_ ?_
  · refine FootO.next ?_
    exact Foot.refl
  · refine FootO.next ?_
    refine Foot.ite ?_ ?_
    · refine Foot.step (State.flushNow_foot ..) rfl ?_
      exact Foot.refl
    · exact Foot.refl

theorem execLostClr_foot (q : Fin 64) (s : State) : FootO 8388611 s (execLostClr q s) := by
  unfold execLostClr
  refine FootO.next ?_
  refine State.cmd_foot rfl ?_ ?_
  · intro a0_0
    refine Foot.step (State.put_foot ..) rfl ?_
    exact Foot.refl
  · exact Foot.refl

theorem execAdv_foot (q : Fin 64) (s : State) : FootO 8389123 s (execAdv q s) := by
  unfold execAdv
  refine FootO.next ?_
  refine State.cmd_foot rfl ?_ ?_
  · intro a0_0
    refine Foot.step (State.adv_foot ..) rfl ?_
    exact Foot.refl
  · exact Foot.refl

theorem execSqCommit_foot (q : Fin 64) (nw : BitVec 10) (s : State) : FootO 8389135 s (execSqCommit q nw s) := by
  unfold execSqCommit
  refine FootO.next ?_
  refine State.cmd_foot rfl ?_ ?_
  · intro a0_0
    refine Foot.step (State.commitItem_foot ..) rfl ?_
    exact Foot.refl
  · exact Foot.refl

theorem execSqHeadRead_foot (q : Fin 64) (who : Who) (s : State) : FootO 14680731 s (execSqHeadRead q who s) := by
  unfold execSqHeadRead
  refine FootO.next ?_
  refine State.readCmd_foot rfl ?_ ?_
  · intro a0_0
    refine Foot.step (State.headRead_foot ..) rfl ?_
    exact Foot.refl
  · exact Foot.refl

theorem State.locCopyItem_foot (s : State) (q : Nat) (i : SqItem) : Foot 10486427 s (State.locCopyItem s q i) := by
  unfold State.locCopyItem
  extract_lets y0_0 y0_1 y0_2 y0_3
  have h_y0_0 : Foot 10486427 s y0_0.1 := by
    unfold y0_0
    refine Foot.step (State.hubReads_foot ..) rfl ?_
    exact Foot.refl
  clear_value y0_0
  have h_y0_1 : Foot 10486427 s y0_1 := by
    unfold y0_1
    refine Foot.step (State.sqEnd_foot ..) rfl ?_
    exact h_y0_0
  clear_value y0_1
  clear_value y0_2
  have h_y0_3 : Foot 10486427 s y0_3 := by
    unfold y0_3
    refine Foot.ite ?_ ?_
    · refine Foot.step (State.setSq_foot ..) rfl ?_
      exact h_y0_1
    · exact h_y0_1
  clear_value y0_3
  split
  · refine Foot.step (State.originate_foot ..) rfl ?_
    exact h_y0_3
  · exact h_y0_1

theorem execLocConsumerTake_foot (q : Fin 64) (s : State) : FootO 10486427 s (execLocConsumerTake q s) := by
  unfold execLocConsumerTake
  refine FootO.ite ?_ ?_
  · refine FootO.next ?_
    exact Foot.refl
  · refine FootO.next ?_
    refine Foot.ite ?_ ?_
    · extract_lets y0_0
      have h_y0_0 : Foot 10486427 s y0_0 := by
        unfold y0_0
        refine Foot.step (State.sqFetch_foot ..) rfl ?_
        exact Foot.refl
      clear_value y0_0
      split
      · exact h_y0_0
      · extract_lets y2_0
        clear_value y2_0
        refine Foot.ite ?_ ?_
        · refine Foot.step (State.ask_foot ..) rfl ?_
          exact h_y0_0
        · refine Foot.step (State.locCopyItem_foot ..) rfl ?_
          exact h_y0_0
    · exact Foot.refl

theorem execCreditAckRx_foot (q : Fin 64) (s : State) : FootO 513 s (execCreditAckRx q s) := by
  unfold execCreditAckRx
  refine FootO.next ?_
  refine Foot.ite ?_ ?_
  · refine Foot.step (State.creditBack_foot ..) rfl ?_
    exact Foot.refl
  · exact Foot.refl

theorem execCredTo_foot (q : Fin 64) (s : State) : FootO 513 s (execCredTo q s) := by
  unfold execCredTo
  refine FootO.ite ?_ ?_
  · refine FootO.next ?_
    exact Foot.refl
  · refine FootO.next ?_
    refine Foot.ite ?_ ?_
    · refine Foot.step (State.put_foot ..) rfl ?_
      refine Foot.step (State.creditBack_foot ..) rfl ?_
      exact Foot.refl
    · exact Foot.refl

end Sys2Proof.Machine
end

