-- ==== Sys2Proof/Laws/FootRingTime.lean ====
section
/-! SUPPORT. The footprints of the operations and meanings of Sys2Proof.Machine.RingTime. -/
namespace Sys2Proof.Machine

theorem State.takeSeq_foot (s : State) (key : Nat) : Foot 1024 s (State.takeSeq s key).1 := by
  unfold State.takeSeq
  extract_lets y0_0 y0_1
  clear_value y0_0
  refine Foot.mk1 ?_
  refine Foot.set_time (fun i => i.dlQ) rfl ?_
  exact Foot.refl

theorem State.ptpForward_foot (s : State) (p : Nat) (f : Frame) (t : Int) : Foot 10485787 s (State.ptpForward s p f t).1 := by
  unfold State.ptpForward
  extract_lets y0_0 y0_1
  clear_value y0_0
  clear_value y0_1
  refine Foot.mk1 ?_
  refine Foot.step (State.place_foot ..) rfl ?_
  exact Foot.refl

theorem State.setTime_foot (s : State) (v : Nat) : Foot 1 s (State.setTime s v) := by
  unfold State.setTime
  refine Foot.step (State.put_foot ..) rfl ?_
  exact Foot.refl

theorem State.drawTrim_foot (s : State) : Foot 1025 s (State.drawTrim s) := by
  unfold State.drawTrim
  extract_lets y0_0 y0_1
  have h_y0_1 : Foot 1025 s y0_1 := by
    unfold y0_1
    refine Foot.set_time (fun i => i.dlQ) rfl ?_
    exact Foot.refl
  clear_value y0_1
  refine Foot.step (State.wr_foot ..) rfl ?_
  exact h_y0_1

theorem State.pickSlave_foot (s : State) : Foot 1 s (State.pickSlave s) := by
  unfold State.pickSlave
  refine Foot.step (State.put_foot ..) rfl ?_
  exact Foot.refl

theorem State.syncSeen_foot (s : State) (p hops : Nat) : Foot 1027 s (State.syncSeen s p hops) := by
  unfold State.syncSeen
  extract_lets y0_0 y0_1 y0_2
  clear_value y0_0
  have h_y0_2 : Foot 1027 s y0_2 := by
    unfold y0_2
    refine Foot.set_time (fun i => i.dlQ) rfl ?_
    exact Foot.refl
  clear_value y0_2
  refine Foot.step (State.pickSlave_foot ..) rfl ?_
  refine Foot.step (State.bump_foot ..) rfl ?_
  exact h_y0_2

theorem State.setRuns_foot (s : State) (near far : Nat) : Foot 1024 s (State.setRuns s near far) := by
  unfold State.setRuns
  refine Foot.set_time (fun i => i.dlQ) rfl ?_
  exact Foot.refl

theorem State.stepDue_foot (s : State) (ofs : Int) : Foot 1024 s (State.stepDue s ofs) := by
  unfold State.stepDue
  refine Foot.set_time (fun i => i.dlQ) rfl ?_
  exact Foot.refl

theorem State.acquire_foot (s : State) (ofs : Int) : Foot 1025 s (State.acquire s ofs) := by
  unfold State.acquire
  refine Foot.ite ?_ ?_
  · refine Foot.step (State.stepDue_foot ..) rfl ?_
    refine Foot.step (State.setRuns_foot ..) rfl ?_
    exact Foot.refl
  · extract_lets y0_0 y0_1
    have h_y0_0 : Foot 1025 s y0_0 := by
      unfold y0_0
      refine Foot.step (State.drawTrim_foot ..) rfl ?_
      exact Foot.refl
    clear_value y0_0
    clear_value y0_1
    refine Foot.ite ?_ ?_
    · refine Foot.step (State.put_foot ..) rfl ?_
      refine Foot.step (State.setTime_foot ..) rfl ?_
      refine Foot.step (State.setRuns_foot ..) rfl ?_
      exact h_y0_0
    · refine Foot.step (State.setRuns_foot ..) rfl ?_
      exact h_y0_0

theorem State.servo_foot (s : State) (ofs : Int) : Foot 1025 s (State.servo s ofs) := by
  unfold State.servo
  extract_lets y0_0
  have h_y0_0 : Foot 1025 s y0_0 := by
    unfold y0_0
    refine Foot.step (State.wr_foot ..) rfl ?_
    exact Foot.refl
  clear_value y0_0
  split
  · refine Foot.step (State.acquire_foot ..) rfl ?_
    exact h_y0_0
  · refine Foot.ite ?_ ?_
    · refine Foot.ite ?_ ?_
      · refine Foot.step (State.stepDue_foot ..) rfl ?_
        refine Foot.step (State.setTime_foot ..) rfl ?_
        refine Foot.step (State.setRuns_foot ..) rfl ?_
        exact h_y0_0
      · refine Foot.step (State.setRuns_foot ..) rfl ?_
        exact h_y0_0
    · refine Foot.step (State.setRuns_foot ..) rfl ?_
      refine Foot.step (State.drawTrim_foot ..) rfl ?_
      exact h_y0_0
  · refine Foot.step (State.acquire_foot ..) rfl ?_
    refine Foot.step (State.setRuns_foot ..) rfl ?_
    refine Foot.step (State.setTime_foot ..) rfl ?_
    exact h_y0_0

theorem State.holdover_foot (s : State) : Foot 8389635 s (State.holdover s) := by
  unfold State.holdover
  extract_lets y0_0
  have h_y0_0 : Foot 8389635 s y0_0 := by
    unfold y0_0
    refine Foot.step (State.wr64_foot ..) rfl ?_
    refine Foot.step (State.drawTrim_foot ..) rfl ?_
    refine Foot.step (State.setTime_foot ..) rfl ?_
    exact Foot.refl
  clear_value y0_0
  refine Foot.step (State.setRuns_foot ..) rfl ?_
  refine Foot.step (State.fault_foot ..) rfl ?_
  refine Foot.step (State.bump_foot ..) rfl ?_
  refine Foot.step (State.put_foot ..) rfl ?_
  exact h_y0_0

theorem State.syncRx_foot (s : State) (p : Nat) (f : Frame) (age : Nat) : Foot 10486811 s (State.syncRx s p f age) := by
  unfold State.syncRx
  refine Foot.ite ?_ ?_
  · refine Foot.step (State.bump_foot ..) rfl ?_
    exact Foot.refl
  · extract_lets y0_0 y0_1 y0_2 y0_3 y0_4
    clear_value y0_0
    clear_value y0_1
    have h_y0_2 : Foot 10486811 s y0_2.1 := by
      unfold y0_2
      refine Foot.step (State.ptpForward_foot ..) rfl ?_
      exact Foot.refl
    clear_value y0_2
    have h_y0_3 : Foot 10486811 s y0_3 := by
      unfold y0_3
      refine Foot.when ?_ ?_
      · intro a1_0
        refine Foot.step (State.bump_foot ..) rfl ?_
        exact Foot.refl
      · exact h_y0_2
    clear_value y0_3
    have h_y0_4 : Foot 10486811 s y0_4 := by
      unfold y0_4
      refine Foot.step (State.syncSeen_foot ..) rfl ?_
      exact h_y0_3
    clear_value y0_4
    refine Foot.ite ?_ ?_
    · exact h_y0_3
    · refine Foot.ite ?_ ?_
      · refine Foot.step (State.put_foot ..) rfl ?_
        exact h_y0_3
      · refine Foot.ite ?_ ?_
        · exact h_y0_4
        · refine Foot.ite ?_ ?_
          · refine Foot.ite ?_ ?_
            · refine Foot.step (State.setRuns_foot ..) rfl ?_
              refine Foot.step (State.setTime_foot ..) rfl ?_
              exact h_y0_4
            · exact h_y0_4
          · refine Foot.step (State.servo_foot ..) rfl ?_
            exact h_y0_4

theorem State.setPd_foot (s : State) (p : Nat) (v : Bool) : Foot 1 s (State.setPd s p v) := by
  unfold State.setPd
  refine Foot.step (State.put_foot ..) rfl ?_
  refine Foot.step (State.put_foot ..) rfl ?_
  exact Foot.refl

theorem State.setPdOk_foot (s : State) (p n : Nat) : Foot 1024 s (State.setPdOk s p n) := by
  unfold State.setPdOk
  refine Foot.set_time (fun i => i.dlQ) rfl ?_
  exact Foot.refl

theorem State.setPdOpen_foot (s : State) (p : Nat) (x : Option (Nat × Nat)) : Foot 1024 s (State.setPdOpen s p x) := by
  unfold State.setPdOpen
  refine Foot.set_time (fun i => i.dlQ) rfl ?_
  exact Foot.refl

theorem State.pdDown_foot (s : State) (p : Nat) : Foot 1025 s (State.pdDown s p) := by
  unfold State.pdDown
  refine Foot.step (State.setPdOpen_foot ..) rfl ?_
  refine Foot.step (State.setPdOk_foot ..) rfl ?_
  refine Foot.step (State.setPd_foot ..) rfl ?_
  exact Foot.refl

theorem State.pdFail_foot (s : State) (p : Nat) : Foot 8389635 s (State.pdFail s p) := by
  unfold State.pdFail
  extract_lets y0_0
  have h_y0_0 : Foot 8389635 s y0_0 := by
    unfold y0_0
    refine Foot.step (State.satAdd_foot ..) rfl ?_
    refine Foot.step (State.bump_foot ..) rfl ?_
    refine Foot.step (State.setPdOk_foot ..) rfl ?_
    refine Foot.step (State.setPdOpen_foot ..) rfl ?_
    exact Foot.refl
  clear_value y0_0
  refine Foot.ite ?_ ?_
  · refine Foot.step (State.fault_foot ..) rfl ?_
    refine Foot.step (State.put_foot ..) rfl ?_
    refine Foot.step (State.setPd_foot ..) rfl ?_
    exact h_y0_0
  · exact h_y0_0

theorem State.pdGood_foot (s : State) (p : Nat) (d : Nat) : Foot 1027 s (State.pdGood s p d) := by
  unfold State.pdGood
  extract_lets y0_0 y0_1 y0_2 y0_3 y0_4 y0_5 y0_6
  clear_value y0_0
  clear_value y0_1
  have h_y0_3 : Foot 1027 s y0_3 := by
    unfold y0_3
    refine Foot.set_time (fun i => i.dlQ) rfl ?_
    exact Foot.refl
  clear_value y0_3
  clear_value y0_4
  clear_value y0_5
  have h_y0_6 : Foot 1027 s y0_6 := by
    unfold y0_6
    refine Foot.step (State.put_foot ..) rfl ?_
    refine Foot.step (State.put_foot ..) rfl ?_
    refine Foot.step (State.setPdOk_foot ..) rfl ?_
    refine Foot.step (State.setPdOpen_foot ..) rfl ?_
    exact h_y0_3
  clear_value y0_6
  refine Foot.when ?_ ?_
  · intro a1_0
    refine Foot.step (State.setPd_foot ..) rfl ?_
    exact Foot.refl
  · refine Foot.step (State.bump_foot ..) rfl ?_
    exact h_y0_6

theorem State.pdelayReqRx_foot (s : State) (p : Nat) (f : Frame) (age : Nat) : Foot 10485915 s (State.pdelayReqRx s p f age) := by
  unfold State.pdelayReqRx
  refine Foot.ite ?_ ?_
  · exact Foot.refl
  · extract_lets y0_0
    clear_value y0_0
    refine Foot.step (State.originate_foot ..) rfl ?_
    exact Foot.refl

theorem State.pdelayRespRx_foot (s : State) (p : Nat) (f : Frame) (age : Nat) : Foot 8389635 s (State.pdelayRespRx s p f age) := by
  unfold State.pdelayRespRx
  split
  · exact Foot.refl
  · refine Foot.ite ?_ ?_
    · exact Foot.refl
    · extract_lets y1_0 y1_1 y1_2
      clear_value y1_0
      clear_value y1_1
      clear_value y1_2
      refine Foot.ite ?_ ?_
      · refine Foot.step (State.pdGood_foot ..) rfl ?_
        exact Foot.refl
      · refine Foot.step (State.pdFail_foot ..) rfl ?_
        exact Foot.refl

theorem State.ptpOther_foot (s : State) (p : Nat) (f : Frame) (age : Nat) : Foot 10486303 s (State.ptpOther s p f age) := by
  unfold State.ptpOther
  refine Foot.ite ?_ ?_
  · extract_lets y0_0
    have h_y0_0 : Foot 10486303 s y0_0 := by
      unfold y0_0
      refine Foot.step (State.ptpForward_foot ..) rfl ?_
      exact Foot.refl
    clear_value y0_0
    refine Foot.ite ?_ ?_
    · exact h_y0_0
    · split
      · refine Foot.step (State.sqDeliver_foot ..) rfl ?_
        exact h_y0_0
      · exact h_y0_0
  · refine Foot.step (State.bump_foot ..) rfl ?_
    exact Foot.refl

theorem State.ptpRx_foot (s : State) (p : Nat) (f : Frame) (age : Nat) : Foot 10487455 s (State.ptpRx s p f age) := by
  unfold State.ptpRx
  refine Foot.ite ?_ ?_
  · exact Foot.refl
  · refine Foot.ite ?_ ?_
    · refine Foot.step (State.bump_foot ..) rfl ?_
      exact Foot.refl
    · refine Foot.ite ?_ ?_
      · refine Foot.step (State.syncRx_foot ..) rfl ?_
        exact Foot.refl
      · refine Foot.ite ?_ ?_
        · refine Foot.step (State.ptpForward_foot ..) rfl ?_
          exact Foot.refl
        · refine Foot.ite ?_ ?_
          · refine Foot.step (State.pdelayReqRx_foot ..) rfl ?_
            exact Foot.refl
          · refine Foot.ite ?_ ?_
            · refine Foot.step (State.pdelayRespRx_foot ..) rfl ?_
              exact Foot.refl
            · refine Foot.step (State.ptpOther_foot ..) rfl ?_
              exact Foot.refl

theorem State.ptpDepart_foot (s : State) (lane : Nat) (x : QFrame) (frac : Nat) : Foot 1027 s (State.ptpDepart s lane x frac).1 := by
  unfold State.ptpDepart
  extract_lets y0_0
  clear_value y0_0
  refine Foot.ite1 ?_ ?_
  · refine Foot.mk1 ?_
    exact Foot.refl
  · refine Foot.ite1 ?_ ?_
    · refine Foot.ite1 ?_ ?_
      · refine Foot.mk1 ?_
        exact Foot.refl
      · refine Foot.ite1 ?_ ?_
        · refine Foot.mk1 ?_
          refine Foot.step (State.bump_foot ..) rfl ?_
          exact Foot.refl
        · refine Foot.mk1 ?_
          exact Foot.refl
    · refine Foot.ite1 ?_ ?_
      · refine Foot.mk1 ?_
        exact Foot.refl
      · refine Foot.ite1 ?_ ?_
        · refine Foot.mk1 ?_
          split
          · refine Foot.ite ?_ ?_
            · refine Foot.step (State.setPdOpen_foot ..) rfl ?_
              exact Foot.refl
            · exact Foot.refl
          · exact Foot.refl
        · refine Foot.mk1 ?_
          exact Foot.refl

theorem State.toBoundary_foot (s : State) : Foot 2098177 s (State.toBoundary s) := by
  unfold State.toBoundary
  refine Foot.ite ?_ ?_
  · exact Foot.refl
  · extract_lets y0_0 y0_1
    have h_y0_1 : Foot 2098177 s y0_1 := by
      unfold y0_1
      refine Foot.set_time (fun i => i.dlQ) rfl ?_
      exact Foot.refl
    clear_value y0_1
    refine Foot.step (State.wr64_foot ..) rfl ?_
    refine Foot.step (State.elapse_foot ..) rfl ?_
    exact h_y0_1

theorem State.toLaterBoundary_foot (s : State) : Foot 2098177 s (State.toLaterBoundary s) := by
  unfold State.toLaterBoundary
  refine Foot.step (State.wr64_foot ..) rfl ?_
  refine Foot.step (State.elapse_foot ..) rfl ?_
  refine Foot.set_time (fun i => i.dlQ) rfl ?_
  exact Foot.refl

theorem State.timeSet_foot (s : State) (v : Nat) : Foot 1024 s (State.timeSet s v) := by
  unfold State.timeSet
  refine Foot.set_time (fun i => i.dlQ) rfl ?_
  exact Foot.refl

theorem State.timeAdj_foot (s : State) (w : Word) : Foot 1024 s (State.timeAdj s w) := by
  unfold State.timeAdj
  split
  · refine Foot.set_time (fun i => i.dlQ) rfl ?_
    exact Foot.refl
  · refine Foot.set_time (fun i => i.dlQ) rfl ?_
    exact Foot.refl

theorem State.timeStep_foot (s : State) : Foot 8389635 s (State.timeStep s) := by
  unfold State.timeStep
  extract_lets y0_0 y0_1 y0_2 y0_3 y0_4
  clear_value y0_0
  clear_value y0_1
  have h_y0_3 : Foot 8389635 s y0_3 := by
    unfold y0_3
    refine Foot.set_time (fun i => i.dlQ) rfl ?_
    exact Foot.refl
  clear_value y0_3
  have h_y0_4 : Foot 8389635 s y0_4 := by
    unfold y0_4
    refine Foot.step (State.put_foot ..) rfl ?_
    refine Foot.step (State.bump_foot ..) rfl ?_
    refine Foot.step (State.wr64_foot ..) rfl ?_
    exact h_y0_3
  clear_value y0_4
  refine Foot.step (State.fault_foot ..) rfl ?_
  exact h_y0_4

theorem State.mcgEdge_foot (s : State) (n : Nat) (fall : Bool) : Foot 1280 s (State.mcgEdge s n fall) := by
  unfold State.mcgEdge
  refine Foot.ite ?_ ?_
  · exact Foot.refl
  · extract_lets y0_0 y0_1 y0_2 y0_3 y0_4
    clear_value y0_0
    have h_y0_1 : Foot 1280 s y0_1 := by
      unfold y0_1
      refine Foot.ite ?_ ?_
      · exact Foot.refl
      · refine Foot.set_gg rfl ?_
        exact Foot.refl
    clear_value y0_1
    have h_y0_3 : Foot 1280 s y0_3 := by
      unfold y0_3
      refine Foot.set_time (fun i => i.dlQ) rfl ?_
      exact h_y0_1
    clear_value y0_3
    clear_value y0_4
    refine Foot.ite ?_ ?_
    · refine Foot.set_gg rfl ?_
      exact h_y0_3
    · exact h_y0_3

theorem State.timeApply_foot (s old : State) : Foot 1025 s (State.timeApply s old) := by
  unfold State.timeApply
  extract_lets y0_0 y0_1 y0_2 y0_3 y0_4
  have h_y0_0 : Foot 1025 s y0_0 := by
    unfold y0_0
    refine Foot.step (State.setTime_foot ..) rfl ?_
    exact Foot.refl
  clear_value y0_0
  have h_y0_2 : Foot 1025 s y0_2 := by
    unfold y0_2
    refine Foot.ite ?_ ?_
    · refine Foot.set_time (fun i => i.dlQ) rfl ?_
      exact h_y0_0
    · refine Foot.ite ?_ ?_
      · refine Foot.step (State.setTime_foot ..) rfl ?_
        exact Foot.refl
      · exact Foot.refl
  clear_value y0_2
  have h_y0_4 : Foot 1025 s y0_4 := by
    unfold y0_4
    refine Foot.ite ?_ ?_
    · refine Foot.set_time (fun i => i.dlQ) rfl ?_
      exact h_y0_2
    · exact h_y0_2
  clear_value y0_4
  refine Foot.each ?_ ?_
  · intro a1_0 a1_1
    extract_lets y2_0 y2_1
    clear_value y2_0
    refine Foot.ite ?_ ?_
    · refine Foot.set_time (fun i => i.dlQ) rfl ?_
      exact Foot.refl
    · exact Foot.refl
  · refine Foot.ite ?_ ?_
    · exact h_y0_4
    · refine Foot.step (State.pickSlave_foot ..) rfl ?_
      exact h_y0_4

theorem State.timeReset_foot (s : State) : Foot 1027 s (State.timeReset s) := by
  unfold State.timeReset
  extract_lets y0_0 y0_1 y0_2 y0_3
  have h_y0_0 : Foot 1027 s y0_0 := by
    unfold y0_0
    refine Foot.each ?_ ?_
    · intro a1_0 a1_1
      refine Foot.step (State.clr_foot ..) rfl ?_
      exact Foot.refl
    · exact Foot.refl
  clear_value y0_0
  have h_y0_1 : Foot 1027 s y0_1 := by
    unfold y0_1
    refine Foot.each ?_ ?_
    · intro a1_0 a1_1
      refine Foot.step (State.clr_foot ..) rfl ?_
      refine Foot.step (State.clr_foot ..) rfl ?_
      exact Foot.refl
    · exact h_y0_0
  clear_value y0_1
  have h_y0_3 : Foot 1027 s y0_3 := by
    unfold y0_3
    refine Foot.set_time (fun i => Nat.zero_le _) rfl ?_
    exact h_y0_1
  clear_value y0_3
  refine Foot.step (State.setTime_foot ..) rfl ?_
  refine Foot.step (State.cntReset_foot ..) rfl ?_
  exact h_y0_3

theorem execSyncTx_foot (port : Fin 3) (s : State) : FootO 10486939 s (execSyncTx port s) := by
  unfold execSyncTx
  refine FootO.next ?_
  refine Foot.ite ?_ ?_
  · exact Foot.refl
  · extract_lets y0_0
    have h_y0_0 : Foot 10486939 s y0_0.1 := by
      unfold y0_0
      refine Foot.step (State.takeSeq_foot ..) rfl ?_
      exact Foot.refl
    clear_value y0_0
    refine Foot.step (State.originate_foot ..) rfl ?_
    exact h_y0_0

theorem execSyncRx_foot (port : Fin 4) (frame : Frame) (age : BitVec 32) (s : State) : FootO 10487455 s (execSyncRx port frame age s) := by
  unfold execSyncRx
  refine FootO.ite ?_ ?_
  · refine FootO.next ?_
    exact Foot.refl
  · refine FootO.next ?_
    refine Foot.ite ?_ ?_
    · refine Foot.step (State.ptpRx_foot ..) rfl ?_
      exact Foot.refl
    · exact Foot.refl

theorem execSyncLoss_foot (port : Fin 4) (s : State) : FootO 8389635 s (execSyncLoss port s) := by
  unfold execSyncLoss
  extract_lets y0_0 y0_1
  have h_y0_1 : Foot 8389635 s y0_1 := by
    unfold y0_1
    refine Foot.set_time (fun i => i.dlQ) rfl ?_
    exact Foot.refl
  clear_value y0_1
  refine FootO.next ?_
  refine Foot.ite ?_ ?_
  · exact Foot.refl
  · refine Foot.ite ?_ ?_
    · refine Foot.step (State.holdover_foot ..) rfl ?_
      refine Foot.step (State.pickSlave_foot ..) rfl ?_
      exact h_y0_1
    · refine Foot.step (State.pickSlave_foot ..) rfl ?_
      exact h_y0_1

theorem execPdelayReqTx_foot (port : Fin 4) (s : State) : FootO 10486939 s (execPdelayReqTx port s) := by
  unfold execPdelayReqTx
  refine FootO.next ?_
  refine Foot.ite ?_ ?_
  · exact Foot.refl
  · extract_lets y0_0
    have h_y0_0 : Foot 10486939 s y0_0.1 := by
      unfold y0_0
      refine Foot.step (State.takeSeq_foot ..) rfl ?_
      exact Foot.refl
    clear_value y0_0
    refine Foot.step (State.originate_foot ..) rfl ?_
    refine Foot.step (State.setPdOpen_foot ..) rfl ?_
    exact h_y0_0

theorem execPdelayReqRx_foot (port : Fin 4) (frame : Frame) (age : BitVec 32) (s : State) : FootO 10487455 s (execPdelayReqRx port frame age s) := by
  unfold execPdelayReqRx
  refine FootO.ite ?_ ?_
  · refine FootO.next ?_
    exact Foot.refl
  · refine FootO.next ?_
    refine Foot.ite ?_ ?_
    · refine Foot.step (State.ptpRx_foot ..) rfl ?_
      exact Foot.refl
    · exact Foot.refl

theorem execPdelayRespRx_foot (port : Fin 4) (frame : Frame) (age : BitVec 32) (s : State) : FootO 10487455 s (execPdelayRespRx port frame age s) := by
  unfold execPdelayRespRx
  refine FootO.ite ?_ ?_
  · refine FootO.next ?_
    exact Foot.refl
  · refine FootO.next ?_
    refine Foot.ite ?_ ?_
    · refine Foot.step (State.ptpRx_foot ..) rfl ?_
      exact Foot.refl
    · exact Foot.refl

theorem execPdelayTimeout_foot (port : Fin 4) (s : State) : FootO 8389635 s (execPdelayTimeout port s) := by
  unfold execPdelayTimeout
  refine FootO.next ?_
  refine Foot.ite ?_ ?_
  · refine Foot.step (State.pdFail_foot ..) rfl ?_
    exact Foot.refl
  · exact Foot.refl

theorem execPtpMessageRx_foot (port : Fin 4) (frame : Frame) (age : BitVec 32) (s : State) : FootO 10487455 s (execPtpMessageRx port frame age s) := by
  unfold execPtpMessageRx
  refine FootO.ite ?_ ?_
  · refine FootO.next ?_
    exact Foot.refl
  · refine FootO.next ?_
    refine Foot.ite ?_ ?_
    · exact Foot.refl
    · refine Foot.step (State.ptpRx_foot ..) rfl ?_
      exact Foot.refl

theorem execTimeSet_foot (value : DWord) (s : State) : FootO 8389635 s (execTimeSet value s) := by
  unfold execTimeSet
  refine FootO.next ?_
  refine State.cmd_foot rfl ?_ ?_
  · intro a0_0
    refine Foot.step (State.timeSet_foot ..) rfl ?_
    refine Foot.step (State.wr64_foot ..) rfl ?_
    exact Foot.refl
  · exact Foot.refl

theorem execTimeAdj_foot (ticks : Word) (s : State) : FootO 8389635 s (execTimeAdj ticks s) := by
  unfold execTimeAdj
  refine FootO.next ?_
  refine State.cmd_foot rfl ?_ ?_
  · intro a0_0
    refine Foot.step (State.timeAdj_foot ..) rfl ?_
    exact Foot.refl
  · exact Foot.refl

theorem State.spindleRead_foot (s : State) (key : Nat) (part : Nat) : Foot 1024 s (State.spindleRead s key part).1 := by
  unfold State.spindleRead
  extract_lets y0_0 y0_1 y0_2
  clear_value y0_0
  have h_y0_2 : ∀ b0, Foot 1024 s (y0_2 b0) := by
    intro b0
    unfold y0_2
    refine Foot.set_time (fun i => i.dlQ) rfl ?_
    exact Foot.refl
  split
  · refine Foot.mk1 ?_
    exact Foot.refl
  · refine Foot.mk1 ?_
    refine Foot.step (h_y0_2 ..) rfl ?_
    exact Foot.refl
  · split
    · refine Foot.mk1 ?_
      refine Foot.step (h_y0_2 ..) rfl ?_
      exact Foot.refl
    · refine Foot.mk1 ?_
      exact Foot.refl

theorem execSpindleRead_foot (who : Who) (part : Fin 3) (s : State) : FootO 12583939 s (execSpindleRead who part s) := by
  unfold execSpindleRead
  refine FootO.next ?_
  refine State.readCmd_foot rfl ?_ ?_
  · intro a0_0
    refine Foot.step (State.spindleRead_foot ..) rfl ?_
    exact Foot.refl
  · exact Foot.refl

theorem execRefSwitch_foot (s : State) : FootO 2097153 s (execRefSwitch s) := by
  unfold execRefSwitch
  refine FootO.ite ?_ ?_
  · refine FootO.next ?_
    exact Foot.refl
  · extract_lets y0_0
    clear_value y0_0
    refine FootO.next ?_
    refine Foot.ite ?_ ?_
    · refine Foot.step (State.put_foot ..) rfl ?_
      refine Foot.step (State.put_foot ..) rfl ?_
      refine Foot.step (State.rcUse_foot ..) rfl ?_
      exact Foot.refl
    · exact Foot.refl

theorem execRefRevert_foot (s : State) : FootO 2097153 s (execRefRevert s) := by
  unfold execRefRevert
  refine FootO.ite ?_ ?_
  · refine FootO.next ?_
    exact Foot.refl
  · extract_lets y0_0
    clear_value y0_0
    refine FootO.next ?_
    refine Foot.ite ?_ ?_
    · refine Foot.step (State.put_foot ..) rfl ?_
      refine Foot.step (State.put_foot ..) rfl ?_
      refine Foot.step (State.rcUse_foot ..) rfl ?_
      exact Foot.refl
    · exact Foot.refl

theorem execPpsOutRise_foot (s : State) : FootO 1024 s (execPpsOutRise s) := by
  unfold execPpsOutRise
  refine FootO.ite ?_ ?_
  · refine FootO.next ?_
    exact Foot.refl
  · refine FootO.next ?_
    refine Foot.ite ?_ ?_
    · refine Foot.set_time (fun i => i.dlQ) rfl ?_
      exact Foot.refl
    · exact Foot.refl

theorem execPpsOutFall_foot (s : State) : FootO 1024 s (execPpsOutFall s) := by
  unfold execPpsOutFall
  refine FootO.ite ?_ ?_
  · refine FootO.next ?_
    exact Foot.refl
  · refine FootO.next ?_
    refine Foot.set_time (fun i => i.dlQ) rfl ?_
    exact Foot.refl

theorem State.ppsEdge_foot (s : State) (frac : Nat) : Foot 1025 s (State.ppsEdge s frac) := by
  unfold State.ppsEdge
  extract_lets y0_0 y0_1
  have h_y0_0 : Foot 1025 s y0_0 := by
    unfold y0_0
    refine Foot.step (State.put_foot ..) rfl ?_
    refine Foot.step (State.put_foot ..) rfl ?_
    refine Foot.step (State.put_foot ..) rfl ?_
    refine Foot.step (State.wr64_foot ..) rfl ?_
    exact Foot.refl
  clear_value y0_0
  refine Foot.ite ?_ ?_
  · exact h_y0_0
  · refine Foot.ite ?_ ?_
    · refine Foot.set_time (fun i => i.dlQ) rfl ?_
      exact h_y0_0
    · refine Foot.ite ?_ ?_
      · exact h_y0_0
      · refine Foot.step (State.drawTrim_foot ..) rfl ?_
        exact h_y0_0

theorem execPpsInEdge_foot (frac : BitVec 6) (s : State) : FootO 1025 s (execPpsInEdge frac s) := by
  unfold execPpsInEdge
  refine FootO.next ?_
  refine Foot.ite ?_ ?_
  · exact Foot.refl
  · refine Foot.step (State.ppsEdge_foot ..) rfl ?_
    exact Foot.refl

theorem execPpsLost_foot (s : State) : FootO 1025 s (execPpsLost s) := by
  unfold execPpsLost
  refine FootO.ite ?_ ?_
  · refine FootO.next ?_
    exact Foot.refl
  · refine FootO.next ?_
    refine Foot.ite ?_ ?_
    · refine Foot.step (State.drawTrim_foot ..) rfl ?_
      refine Foot.step (State.put_foot ..) rfl ?_
      refine Foot.step (State.put_foot ..) rfl ?_
      exact Foot.refl
    · exact Foot.refl

theorem execFeCalibrate_foot (pin : Fin 4) (good : Bool) (s : State) : FootO 1 s (execFeCalibrate pin good s) := by
  unfold execFeCalibrate
  refine FootO.next ?_
  refine Foot.ite ?_ ?_
  · exact Foot.refl
  · refine Foot.ite ?_ ?_
    · refine Foot.step (State.setBit_foot ..) rfl ?_
      exact Foot.refl
    · refine Foot.step (State.put_foot ..) rfl ?_
      refine Foot.step (State.clrBit_foot ..) rfl ?_
      exact Foot.refl

theorem execMcgEdge_foot (n : Fin 4) (fall : Bool) (s : State) : FootO 1280 s (execMcgEdge n fall s) := by
  unfold execMcgEdge
  refine FootO.ite ?_ ?_
  · refine FootO.next ?_
    exact Foot.refl
  · refine FootO.next ?_
    refine Foot.step (State.mcgEdge_foot ..) rfl ?_
    exact Foot.refl

end Sys2Proof.Machine
end

