-- ==== Sys2Proof/Laws/FootSupervision.lean ====
section
/-! SUPPORT. The footprints of the operations and meanings of Sys2Proof.Machine.Supervision. -/
namespace Sys2Proof.Machine

theorem State.playPost_foot (s : State) (num : Nat) (island : Bool) : Foot 2049 s (State.playPost s num island) := by
  unfold State.playPost
  refine Foot.ite ?_ ?_
  · refine Foot.step (State.put_foot ..) rfl ?_
    exact Foot.refl
  · extract_lets y0_0 y0_1
    clear_value y0_0
    have h_y0_1 : Foot 2049 s y0_1 := by
      unfold y0_1
      refine Foot.set_lsv rfl ?_
      exact Foot.refl
    clear_value y0_1
    refine Foot.step (State.put_foot ..) rfl ?_
    exact h_y0_1

theorem State.actGroup_foot (s : State) (g op : Nat) : Foot 2305 s (State.actGroup s g op) := by
  unfold State.actGroup
  refine Foot.ite ?_ ?_
  · exact Foot.refl
  · extract_lets y0_0 y0_1
    have h_y0_0 : Foot 2305 s y0_0 := by
      unfold y0_0
      refine Foot.step (State.groupCmd_foot ..) rfl ?_
      exact Foot.refl
    clear_value y0_0
    clear_value y0_1
    refine Foot.set_gg rfl ?_
    exact h_y0_0

theorem State.doAction_foot (s : State) (op arg : Nat) (island : Bool) : Foot 2305 s (State.doAction s op arg island) := by
  unfold State.doAction
  split
  · refine Foot.ite ?_ ?_
    · exact Foot.refl
    · refine Foot.step (State.put_foot ..) rfl ?_
      exact Foot.refl
  · refine Foot.ite ?_ ?_
    · refine Foot.when ?_ ?_
      · intro a1_0
        refine Foot.step (State.efSet_foot ..) rfl ?_
        exact Foot.refl
      · exact Foot.refl
    · refine Foot.step (State.put_foot ..) rfl ?_
      exact Foot.refl
  · refine Foot.ite ?_ ?_
    · refine Foot.when ?_ ?_
      · intro a1_0
        refine Foot.step (State.efClr_foot ..) rfl ?_
        exact Foot.refl
      · exact Foot.refl
    · refine Foot.step (State.put_foot ..) rfl ?_
      exact Foot.refl
  · refine Foot.ite ?_ ?_
    · refine Foot.step (State.actGroup_foot ..) rfl ?_
      exact Foot.refl
    · refine Foot.step (State.put_foot ..) rfl ?_
      exact Foot.refl
  · refine Foot.ite ?_ ?_
    · refine Foot.step (State.actGroup_foot ..) rfl ?_
      exact Foot.refl
    · refine Foot.step (State.put_foot ..) rfl ?_
      exact Foot.refl
  · refine Foot.step (State.playPost_foot ..) rfl ?_
    exact Foot.refl
  · refine Foot.step (State.put_foot ..) rfl ?_
    exact Foot.refl

theorem State.fireAction_foot (s : State) (op arg : Nat) (island : Bool) : Foot 2305 s (State.fireAction s op arg island) := by
  unfold State.fireAction
  refine Foot.ite ?_ ?_
  · refine Foot.step (State.doAction_foot ..) rfl ?_
    exact Foot.refl
  · refine Foot.ite ?_ ?_
    · refine Foot.step (State.put_foot ..) rfl ?_
      exact Foot.refl
    · refine Foot.set_lsv rfl ?_
      exact Foot.refl

theorem State.contactActions_foot (s : State) (n st : Nat) : Foot 2305 s (State.contactActions s n st) := by
  unfold State.contactActions
  refine Foot.each ?_ ?_
  · intro a0_0 a0_1
    refine Foot.ite ?_ ?_
    · refine Foot.step (State.fireAction_foot ..) rfl ?_
      exact Foot.refl
    · exact Foot.refl
  · exact Foot.refl

theorem State.islandActions_foot (s : State) : Foot 2305 s (State.islandActions s) := by
  unfold State.islandActions
  refine Foot.ite ?_ ?_
  · exact Foot.refl
  · refine Foot.each ?_ ?_
    · intro a0_0 a0_1
      extract_lets y1_0
      clear_value y1_0
      refine Foot.ite ?_ ?_
      · refine Foot.step (State.doAction_foot ..) rfl ?_
        exact Foot.refl
      · exact Foot.refl
    · refine Foot.each ?_ ?_
      · intro a0_0 a0_1
        refine Foot.step (State.doAction_foot ..) rfl ?_
        exact Foot.refl
      · exact Foot.refl

theorem State.islandActs_foot (s : State) (ws : List DWord) : Foot 1 s (State.islandActs s ws) := by
  unfold State.islandActs
  extract_lets y0_0 y0_1 y0_2
  clear_value y0_0
  clear_value y0_1
  clear_value y0_2
  refine Foot.each ?_ ?_
  · intro a1_0 a1_1
    refine Foot.ite ?_ ?_
    · refine Foot.step (State.wr_foot ..) rfl ?_
      exact Foot.refl
    · refine Foot.step (State.clr_foot ..) rfl ?_
      exact Foot.refl
  · exact Foot.refl

theorem State.islandSection_foot (s : State) (ws : List DWord) : Foot 2049 s (State.islandSection s ws) := by
  unfold State.islandSection
  extract_lets y0_0 y0_1 y0_2
  clear_value y0_0
  clear_value y0_1
  have h_y0_2 : Foot 2049 s y0_2 := by
    unfold y0_2
    refine Foot.set_lsv rfl ?_
    exact Foot.refl
  clear_value y0_2
  refine Foot.when ?_ ?_
  · intro a1_0
    refine Foot.step (State.put_foot ..) rfl ?_
    exact Foot.refl
  · exact h_y0_2

theorem State.sciEnter_foot (s : State) (n b : Nat) : Foot 10488067 s (State.sciEnter s n b) := by
  unfold State.sciEnter
  extract_lets y0_0 y0_1
  have h_y0_0 : Foot 10488067 s y0_0 := by
    unfold y0_0
    refine Foot.step (State.setBit_foot ..) rfl ?_
    refine Foot.step (State.put_foot ..) rfl ?_
    refine Foot.step (State.put_foot ..) rfl ?_
    exact Foot.refl
  clear_value y0_0
  have h_y0_1 : Foot 10488067 s y0_1 := by
    unfold y0_1
    refine Foot.when ?_ ?_
    · intro a1_0
      refine Foot.step (State.fault_foot ..) rfl ?_
      exact Foot.refl
    · exact h_y0_0
  clear_value y0_1
  refine Foot.step (State.wakeBy_foot ..) rfl ?_
  refine Foot.step (State.contactActions_foot ..) rfl ?_
  exact h_y0_1

theorem State.sciCount_foot (s : State) (n b : Nat) : Foot 10488067 s (State.sciCount s n b) := by
  unfold State.sciCount
  extract_lets y0_0 y0_1 y0_2
  clear_value y0_0
  clear_value y0_1
  have h_y0_2 : Foot 10488067 s y0_2 := by
    unfold y0_2
    refine Foot.step (State.put_foot ..) rfl ?_
    exact Foot.refl
  clear_value y0_2
  refine Foot.ite ?_ ?_
  · refine Foot.step (State.put_foot ..) rfl ?_
    refine Foot.step (State.put_foot ..) rfl ?_
    exact Foot.refl
  · refine Foot.ite ?_ ?_
    · refine Foot.step (State.sciEnter_foot ..) rfl ?_
      refine Foot.step (State.put_foot ..) rfl ?_
      exact h_y0_2
    · refine Foot.step (State.put_foot ..) rfl ?_
      exact h_y0_2

theorem execSciSample_foot (n : Fin 8) (code : BitVec 16) (s : State) : FootO 10488067 s (execSciSample n code s) := by
  unfold execSciSample
  extract_lets y0_0
  clear_value y0_0
  refine FootO.next ?_
  refine Foot.ite ?_ ?_
  · exact Foot.refl
  · refine Foot.step (State.sciCount_foot ..) rfl ?_
    refine Foot.step (State.put_foot ..) rfl ?_
    refine Foot.step (State.put_foot ..) rfl ?_
    exact Foot.refl

theorem execActionQueueDrain_foot (s : State) : FootO 2305 s (execActionQueueDrain s) := by
  unfold execActionQueueDrain
  refine FootO.ite ?_ ?_
  · refine FootO.next ?_
    exact Foot.refl
  · refine FootO.next ?_
    refine Foot.ite ?_ ?_
    · exact Foot.refl
    · extract_lets y0_0 y0_1
      clear_value y0_0
      have h_y0_1 : Foot 2305 s y0_1 := by
        unfold y0_1
        refine Foot.set_lsv rfl ?_
        exact Foot.refl
      clear_value y0_1
      refine Foot.each ?_ ?_
      · intro a1_0 a1_1
        refine Foot.step (State.doAction_foot ..) rfl ?_
        exact Foot.refl
      · exact h_y0_1

theorem State.playRead_foot (s : State) : Foot 2049 s (State.playRead s).1 := by
  unfold State.playRead
  split
  · refine Foot.mk1 ?_
    exact Foot.refl
  · extract_lets y1_0 y1_1
    clear_value y1_0
    have h_y1_1 : Foot 2049 s y1_1 := by
      unfold y1_1
      refine Foot.set_lsv rfl ?_
      exact Foot.refl
    clear_value y1_1
    refine Foot.mk1 ?_
    refine Foot.step (State.put_foot ..) rfl ?_
    exact h_y1_1

theorem execPlayqRead_foot (who : Who) (s : State) : FootO 12584963 s (execPlayqRead who s) := by
  unfold execPlayqRead
  refine FootO.next ?_
  refine State.readCmd_foot rfl ?_ ?_
  · intro a0_0
    refine Foot.step (State.playRead_foot ..) rfl ?_
    exact Foot.refl
  · exact Foot.refl

theorem State.lsWrite_foot (s : State) (n st : Nat) (p : Phasors) : Foot 1 s (State.lsWrite s n st p) := by
  unfold State.lsWrite
  extract_lets y0_0 y0_1 y0_2 y0_3 y0_4 y0_5 y0_6 y0_7
  clear_value y0_0
  have h_y0_2 : Foot 1 s y0_2 := by
    unfold y0_2
    refine Foot.step (State.put_foot ..) rfl ?_
    refine Foot.step (State.put_foot ..) rfl ?_
    exact Foot.refl
  clear_value y0_2
  have h_y0_3 : Foot 1 s y0_3 := by
    unfold y0_3
    refine Foot.step (State.wr64_foot ..) rfl ?_
    exact h_y0_2
  clear_value y0_3
  clear_value y0_4
  clear_value y0_5
  clear_value y0_6
  clear_value y0_7
  refine Foot.ite ?_ ?_
  · refine Foot.step (State.put_foot ..) rfl ?_
    refine Foot.step (State.put_foot ..) rfl ?_
    refine Foot.step (State.wr_foot ..) rfl ?_
    refine Foot.step (State.wr_foot ..) rfl ?_
    refine Foot.step (State.wr_foot ..) rfl ?_
    exact h_y0_3
  · refine Foot.step (State.put_foot ..) rfl ?_
    refine Foot.step (State.put_foot ..) rfl ?_
    refine Foot.step (State.wr_foot ..) rfl ?_
    refine Foot.step (State.wr_foot ..) rfl ?_
    refine Foot.step (State.wr_foot ..) rfl ?_
    exact h_y0_3

theorem State.lsAlarm_foot (s : State) (n st : Nat) : Foot 8388611 s (State.lsAlarm s n st) := by
  unfold State.lsAlarm
  extract_lets y0_0 y0_1 y0_2 y0_3 y0_4 y0_5
  clear_value y0_0
  clear_value y0_1
  clear_value y0_2
  have h_y0_3 : ∀ b0 b1, Foot 8388611 b0 (y0_3 b0 b1) := by
    intro b0 b1
    unfold y0_3
    refine Foot.when ?_ ?_
    · intro a1_0
      refine Foot.step (State.fault_foot ..) rfl ?_
      exact Foot.refl
    · refine Foot.step (State.setBit_foot ..) rfl ?_
      exact Foot.refl
  clear_value y0_4
  have h_y0_5 : Foot 8388611 s y0_5 := by
    unfold y0_5
    refine Foot.step (State.put_foot ..) rfl ?_
    refine Foot.step (State.put_foot ..) rfl ?_
    exact Foot.refl
  clear_value y0_5
  refine Foot.ite ?_ ?_
  · exact Foot.refl
  · refine Foot.ite ?_ ?_
    · refine Foot.step (State.put_foot ..) rfl ?_
      exact Foot.refl
    · refine Foot.ite ?_ ?_
      · refine Foot.step (State.put_foot ..) rfl ?_
        exact Foot.refl
      · refine Foot.step (h_y0_3 ..) rfl ?_
        refine Foot.when ?_ ?_
        · intro a1_0
          refine Foot.step (State.put_foot ..) rfl ?_
          exact Foot.refl
        · exact h_y0_5

theorem State.lsCapture_foot (s : State) (n st : Nat) (p : Phasors) : Foot 2049 s (State.lsCapture s n st p) := by
  unfold State.lsCapture
  split
  · exact Foot.refl
  · refine Foot.ite ?_ ?_
    · extract_lets y1_0 y1_1 y1_2
      clear_value y1_0
      clear_value y1_1
      have h_y1_2 : Foot 2049 s y1_2 := by
        unfold y1_2
        refine Foot.step (State.setCh_foot ..) rfl ?_
        exact Foot.refl
      clear_value y1_2
      refine Foot.ite ?_ ?_
      · refine Foot.step (State.put_foot ..) rfl ?_
        refine Foot.step (State.put_foot ..) rfl ?_
        refine Foot.step (State.wr_foot ..) rfl ?_
        refine Foot.step (State.wr_foot ..) rfl ?_
        exact h_y1_2
      · refine Foot.step (State.setCh_foot ..) rfl ?_
        exact Foot.refl
    · exact Foot.refl

theorem State.sweepEnd_foot (s : State) (n : Nat) : Foot 2049 s (State.sweepEnd s n) := by
  unfold State.sweepEnd
  refine Foot.step (State.put_foot ..) rfl ?_
  refine Foot.step (State.put_foot ..) rfl ?_
  refine Foot.step (State.setCh_foot ..) rfl ?_
  exact Foot.refl

theorem State.lsSweep_foot (s : State) (n st : Nat) (p : Phasors) : Foot 2049 s (State.lsSweep s n st p) := by
  unfold State.lsSweep
  split
  · exact Foot.refl
  · refine Foot.ite ?_ ?_
    · refine Foot.step (State.sweepEnd_foot ..) rfl ?_
      exact Foot.refl
    · refine Foot.ite ?_ ?_
      · refine Foot.step (State.setCh_foot ..) rfl ?_
        exact Foot.refl
      · refine Foot.ite ?_ ?_
        · refine Foot.step (State.sweepEnd_foot ..) rfl ?_
          exact Foot.refl
        · refine Foot.ite ?_ ?_
          · refine Foot.step (State.setCh_foot ..) rfl ?_
            exact Foot.refl
          · extract_lets y1_0 y1_1 y1_2 y1_3 y1_4
            clear_value y1_0
            clear_value y1_1
            have h_y1_2 : Foot 2049 s y1_2 := by
              unfold y1_2
              refine Foot.step (State.wr_foot ..) rfl ?_
              refine Foot.step (State.wr_foot ..) rfl ?_
              exact Foot.refl
            clear_value y1_2
            have h_y1_3 : Foot 2049 s y1_3 := by
              unfold y1_3
              refine Foot.when ?_ ?_
              · intro a2_0
                refine Foot.step (State.setBit_foot ..) rfl ?_
                exact Foot.refl
              · exact h_y1_2
            clear_value y1_3
            clear_value y1_4
            refine Foot.step (State.setCh_foot ..) rfl ?_
            exact h_y1_3

theorem State.lsOpen_foot (s : State) (n : Nat) : Foot 2048 s (State.lsOpen s n) := by
  unfold State.lsOpen
  extract_lets y0_0
  clear_value y0_0
  refine Foot.step (State.setCh_foot ..) rfl ?_
  exact Foot.refl

theorem State.lsWindow_foot (s : State) (n : Nat) (p : Phasors) : Foot 8390659 s (State.lsWindow s n p) := by
  unfold State.lsWindow
  extract_lets y0_0
  clear_value y0_0
  refine Foot.step (State.lsOpen_foot ..) rfl ?_
  refine Foot.step (State.lsSweep_foot ..) rfl ?_
  refine Foot.step (State.lsCapture_foot ..) rfl ?_
  refine Foot.step (State.lsAlarm_foot ..) rfl ?_
  refine Foot.step (State.lsWrite_foot ..) rfl ?_
  refine Foot.step (State.put_foot ..) rfl ?_
  exact Foot.refl

theorem execLsWindowEnd_foot (n : Fin 8) (vre vim ire iim : Word) (s : State) : FootO 8390659 s (execLsWindowEnd n vre vim ire iim s) := by
  unfold execLsWindowEnd
  refine FootO.next ?_
  refine Foot.ite ?_ ?_
  · exact Foot.refl
  · refine Foot.step (State.lsWindow_foot ..) rfl ?_
    exact Foot.refl

theorem State.lsCaptStart_foot (s : State) (n : Nat) : Foot 2049 s (State.lsCaptStart s n) := by
  unfold State.lsCaptStart
  refine Foot.ite ?_ ?_
  · exact Foot.refl
  · refine Foot.ite ?_ ?_
    · refine Foot.step (State.put_foot ..) rfl ?_
      exact Foot.refl
    · refine Foot.step (State.put_foot ..) rfl ?_
      refine Foot.step (State.setCh_foot ..) rfl ?_
      exact Foot.refl

theorem State.lsSweepStart_foot (s : State) (n : Nat) : Foot 2049 s (State.lsSweepStart s n) := by
  unfold State.lsSweepStart
  refine Foot.ite ?_ ?_
  · exact Foot.refl
  · refine Foot.ite ?_ ?_
    · refine Foot.step (State.put_foot ..) rfl ?_
      exact Foot.refl
    · refine Foot.ite ?_ ?_
      · exact Foot.refl
      · refine Foot.step (State.put_foot ..) rfl ?_
        refine Foot.step (State.put_foot ..) rfl ?_
        refine Foot.step (State.setCh_foot ..) rfl ?_
        exact Foot.refl

theorem execCapture_foot (n : Fin 8) (s : State) : FootO 8390659 s (execCapture n s) := by
  unfold execCapture
  refine FootO.next ?_
  refine State.cmd_foot rfl ?_ ?_
  · intro a0_0
    refine Foot.step (State.lsCaptStart_foot ..) rfl ?_
    exact Foot.refl
  · exact Foot.refl

theorem execSweep_foot (n : Fin 8) (s : State) : FootO 8390659 s (execSweep n s) := by
  unfold execSweep
  refine FootO.next ?_
  refine State.cmd_foot rfl ?_ ?_
  · intro a0_0
    refine Foot.step (State.lsSweepStart_foot ..) rfl ?_
    exact Foot.refl
  · exact Foot.refl

theorem State.staleMark_foot (s : State) : Foot 1 s (State.staleMark s) := by
  unfold State.staleMark
  refine Foot.step (State.put_foot ..) rfl ?_
  refine Foot.each ?_ ?_
  · intro a0_0 a0_1
    refine Foot.step (State.put_foot ..) rfl ?_
    refine Foot.step (State.put_foot ..) rfl ?_
    exact Foot.refl
  · exact Foot.refl

theorem State.lsvStale_foot (s : State) : Foot 1 s (State.lsvStale s) := by
  unfold State.lsvStale
  refine Foot.ite ?_ ?_
  · exact Foot.refl
  · refine Foot.step (State.put_foot ..) rfl ?_
    refine Foot.step (State.staleMark_foot ..) rfl ?_
    exact Foot.refl

theorem State.lsvFresh_foot (s : State) : Foot 2049 s (State.lsvFresh s) := by
  unfold State.lsvFresh
  refine Foot.step (State.put_foot ..) rfl ?_
  refine Foot.each ?_ ?_
  · intro a0_0 a0_1
    refine Foot.step (State.setCh_foot ..) rfl ?_
    refine Foot.step (State.put_foot ..) rfl ?_
    refine Foot.step (State.put_foot ..) rfl ?_
    exact Foot.refl
  · exact Foot.refl

theorem State.lsvStep_foot (s : State) : Foot 2048 s (State.lsvStep s) := by
  unfold State.lsvStep
  refine Foot.each ?_ ?_
  · intro a0_0 a0_1
    refine Foot.step (State.setCh_foot ..) rfl ?_
    exact Foot.refl
  · exact Foot.refl

theorem State.pilotApply_foot (s old : State) (n : Nat) : Foot 2048 s (State.pilotApply s old n) := by
  unfold State.pilotApply
  extract_lets y0_0 y0_1 y0_2 y0_3
  clear_value y0_0
  clear_value y0_1
  clear_value y0_2
  clear_value y0_3
  refine Foot.ite ?_ ?_
  · refine Foot.ite ?_ ?_
    · refine Foot.ite ?_ ?_
      · refine Foot.step (State.setCh_foot ..) rfl ?_
        exact Foot.refl
      · exact Foot.refl
    · refine Foot.ite ?_ ?_
      · refine Foot.step (State.setCh_foot ..) rfl ?_
        exact Foot.refl
      · refine Foot.ite ?_ ?_
        · refine Foot.step (State.pilotStart_foot ..) rfl ?_
          refine Foot.step (State.pilotStop_foot ..) rfl ?_
          exact Foot.refl
        · refine Foot.step (State.pilotStop_foot ..) rfl ?_
          exact Foot.refl
  · refine Foot.ite ?_ ?_
    · refine Foot.step (State.setCh_foot ..) rfl ?_
      exact Foot.refl
    · refine Foot.step (State.pilotStop_foot ..) rfl ?_
      exact Foot.refl

theorem State.lsvErrs_foot (s : State) : Foot 8388611 s (State.lsvErrs s) := by
  unfold State.lsvErrs
  refine Foot.each ?_ ?_
  · intro a0_0 a0_1
    extract_lets y1_0 y1_1 y1_2 y1_3 y1_4
    clear_value y1_0
    clear_value y1_1
    have h_y1_2 : Foot 8388611 a0_0 y1_2 := by
      unfold y1_2
      refine Foot.step (State.put_foot ..) rfl ?_
      refine Foot.step (State.clr_foot ..) rfl ?_
      exact Foot.refl
    clear_value y1_2
    have h_y1_3 : Foot 8388611 a0_0 y1_3 := by
      unfold y1_3
      refine Foot.ite ?_ ?_
      · refine Foot.when ?_ ?_
        · intro a2_0
          refine Foot.step (State.fault_foot ..) rfl ?_
          refine Foot.step (State.put_foot ..) rfl ?_
          exact Foot.refl
        · exact h_y1_2
      · exact Foot.refl
    clear_value y1_3
    have h_y1_4 : Foot 8388611 a0_0 y1_4 := by
      unfold y1_4
      refine Foot.step (State.put_foot ..) rfl ?_
      exact h_y1_3
    clear_value y1_4
    refine Foot.ite ?_ ?_
    · refine Foot.when ?_ ?_
      · intro a2_0
        refine Foot.step (State.fault_foot ..) rfl ?_
        refine Foot.step (State.put_foot ..) rfl ?_
        exact Foot.refl
      · exact h_y1_4
    · exact h_y1_3
  · exact Foot.refl

theorem State.lsvApply_foot (s old : State) : Foot 8390659 s (State.lsvApply s old) := by
  unfold State.lsvApply
  refine Foot.ite ?_ ?_
  · exact Foot.refl
  · extract_lets y0_0
    have h_y0_0 : Foot 8390659 s y0_0 := by
      unfold y0_0
      refine Foot.each ?_ ?_
      · intro a1_0 a1_1
        refine Foot.ite ?_ ?_
        · refine Foot.step (State.clr_foot ..) rfl ?_
          exact Foot.refl
        · exact Foot.refl
      · exact Foot.refl
    clear_value y0_0
    refine Foot.each ?_ ?_
    · intro a1_0 a1_1
      extract_lets y2_0 y2_1
      have h_y2_0 : Foot 8390659 a1_0 y2_0 := by
        unfold y2_0
        refine Foot.step (State.pilotApply_foot ..) rfl ?_
        exact Foot.refl
      clear_value y2_0
      clear_value y2_1
      refine Foot.ite ?_ ?_
      · exact h_y2_0
      · refine Foot.step (State.setCh_foot ..) rfl ?_
        exact h_y2_0
    · refine Foot.step (State.lsvErrs_foot ..) rfl ?_
      exact h_y0_0

theorem State.lsvReset_foot (s : State) : Foot 2049 s (State.lsvReset s) := by
  unfold State.lsvReset
  extract_lets y0_0 y0_1 y0_2 y0_3
  clear_value y0_0
  have h_y0_1 : Foot 2049 s y0_1 := by
    unfold y0_1
    refine Foot.set_lsv rfl ?_
    exact Foot.refl
  clear_value y0_1
  have h_y0_2 : Foot 2049 s y0_2 := by
    unfold y0_2
    refine Foot.each ?_ ?_
    · intro a1_0 a1_1
      refine Foot.each ?_ ?_
      · intro a2_0 a2_1
        refine Foot.step (State.clr_foot ..) rfl ?_
        refine Foot.step (State.clr_foot ..) rfl ?_
        exact Foot.refl
      · refine Foot.each ?_ ?_
        · intro a2_0 a2_1
          refine Foot.step (State.clr_foot ..) rfl ?_
          exact Foot.refl
        · exact Foot.refl
    · exact h_y0_1
  clear_value y0_2
  have h_y0_3 : Foot 2049 s y0_3 := by
    unfold y0_3
    refine Foot.step (State.put_foot ..) rfl ?_
    refine Foot.each ?_ ?_
    · intro a1_0 a1_1
      refine Foot.step (State.clr_foot ..) rfl ?_
      exact Foot.refl
    · exact h_y0_2
  clear_value y0_3
  refine Foot.ite ?_ ?_
  · refine Foot.step (State.staleMark_foot ..) rfl ?_
    exact h_y0_3
  · exact h_y0_3

theorem State.lsvRelease_foot (s : State) : Foot 8390659 s (State.lsvRelease s) := by
  unfold State.lsvRelease
  extract_lets y0_0
  have h_y0_0 : Foot 8390659 s y0_0 := by
    unfold y0_0
    refine Foot.step (State.put_foot ..) rfl ?_
    exact Foot.refl
  clear_value y0_0
  refine Foot.each ?_ ?_
  · intro a1_0 a1_1
    refine Foot.ite ?_ ?_
    · refine Foot.step (State.pilotStart_foot ..) rfl ?_
      exact Foot.refl
    · exact Foot.refl
  · refine Foot.step (State.lsvErrs_foot ..) rfl ?_
    refine Foot.ite ?_ ?_
    · refine Foot.step (State.staleMark_foot ..) rfl ?_
      exact h_y0_0
    · exact h_y0_0

end Sys2Proof.Machine
end

