-- ==== Sys2Proof/Laws/FootPower.lean ====
section
/-! SUPPORT. The footprints of the operations and meanings of Sys2Proof.Machine.Power. -/
namespace Sys2Proof.Machine

theorem State.setLp_foot (s : State) (p : Nat) (x : LpPort) : Foot 65536 s (State.setLp s p x) := by
  unfold State.setLp
  refine Foot.set_lpw rfl ?_
  exact Foot.refl

theorem State.lpSend_foot (s : State) (m : FaultMsg) : Foot 8650755 s (State.lpSend s m) := by
  unfold State.lpSend
  refine Foot.when ?_ ?_
  · intro a0_0
    refine Foot.step (State.proofCause_foot ..) rfl ?_
    exact Foot.refl
  · refine Foot.step (State.faultMsg_foot ..) rfl ?_
    exact Foot.refl

theorem State.lpFault_foot (s : State) (kind addr : Nat) : Foot 8716291 s (State.lpFault s kind addr) := by
  unfold State.lpFault
  extract_lets y0_0 y0_1
  clear_value y0_0
  clear_value y0_1
  refine Foot.ite ?_ ?_
  · refine Foot.step (State.lpSend_foot ..) rfl ?_
    exact Foot.refl
  · refine Foot.ite ?_ ?_
    · refine Foot.set_lpw rfl ?_
      exact Foot.refl
    · refine Foot.step (State.put_foot ..) rfl ?_
      exact Foot.refl

theorem State.lpEvt_foot (s : State) (p k : Nat) : Foot 1 s (State.lpEvt s p k) := by
  unfold State.lpEvt
  refine Foot.step (State.setBit_foot ..) rfl ?_
  exact Foot.refl

theorem State.pgood_foot (s : State) : Foot 1 s (State.pgood s) := by
  unfold State.pgood
  refine Foot.step (State.put_foot ..) rfl ?_
  exact Foot.refl

theorem State.setPg_foot (s : State) (p : Nat) (v : Bool) : Foot 1 s (State.setPg s p v) := by
  unfold State.setPg
  refine Foot.step (State.pgood_foot ..) rfl ?_
  refine Foot.step (State.put_foot ..) rfl ?_
  exact Foot.refl

theorem State.sigShow_foot (s : State) (p : Nat) : Foot 1 s (State.sigShow s p) := by
  unfold State.sigShow
  refine Foot.step (State.put_foot ..) rfl ?_
  exact Foot.refl

theorem State.lpGo_foot (s : State) (p st : Nat) : Foot 1 s (State.lpGo s p st) := by
  unfold State.lpGo
  extract_lets y0_0 y0_1
  have h_y0_0 : Foot 1 s y0_0 := by
    unfold y0_0
    refine Foot.step (State.put_foot ..) rfl ?_
    exact Foot.refl
  clear_value y0_0
  have h_y0_1 : Foot 1 s y0_1 := by
    unfold y0_1
    refine Foot.ite ?_ ?_
    · exact h_y0_0
    · refine Foot.step (State.setPg_foot ..) rfl ?_
      exact h_y0_0
  clear_value y0_1
  refine Foot.step (State.sigShow_foot ..) rfl ?_
  refine Foot.ite ?_ ?_
  · exact h_y0_1
  · refine Foot.step (State.put_foot ..) rfl ?_
    exact h_y0_1

theorem State.offShow_foot (s : State) (p us : Nat) : Foot 65537 s (State.offShow s p us) := by
  unfold State.offShow
  extract_lets y0_0 y0_1
  clear_value y0_0
  clear_value y0_1
  refine Foot.step (State.put_foot ..) rfl ?_
  refine Foot.step (State.setLp_foot ..) rfl ?_
  exact Foot.refl

theorem State.waitCheck_foot (s : State) (p : Nat) : Foot 65537 s (State.waitCheck s p) := by
  unfold State.waitCheck
  extract_lets y0_0
  clear_value y0_0
  refine Foot.ite ?_ ?_
  · exact Foot.refl
  · refine Foot.ite ?_ ?_
    · refine Foot.step (State.lpGo_foot ..) rfl ?_
      exact Foot.refl
    · refine Foot.ite ?_ ?_
      · refine Foot.step (State.lpGo_foot ..) rfl ?_
        refine Foot.step (State.setLp_foot ..) rfl ?_
        exact Foot.refl
      · exact Foot.refl

theorem State.lpWait_foot (s : State) (p : Nat) : Foot 65537 s (State.lpWait s p) := by
  unfold State.lpWait
  refine Foot.ite ?_ ?_
  · refine Foot.step (State.lpGo_foot ..) rfl ?_
    exact Foot.refl
  · refine Foot.step (State.waitCheck_foot ..) rfl ?_
    refine Foot.step (State.lpGo_foot ..) rfl ?_
    refine Foot.step (State.offShow_foot ..) rfl ?_
    exact Foot.refl

theorem State.lpDisable_foot (s : State) (p cause : Nat) : Foot 65537 s (State.lpDisable s p cause) := by
  unfold State.lpDisable
  refine Foot.step (State.lpGo_foot ..) rfl ?_
  refine Foot.step (State.put_foot ..) rfl ?_
  refine Foot.step (State.put_foot ..) rfl ?_
  refine Foot.step (State.offShow_foot ..) rfl ?_
  exact Foot.refl

theorem State.lpFail_foot (s : State) (p cause ta : Nat) : Foot 8716291 s (State.lpFail s p cause ta) := by
  unfold State.lpFail
  extract_lets y0_0 y0_1
  have h_y0_0 : Foot 8716291 s y0_0 := by
    unfold y0_0
    refine Foot.step (State.put_foot ..) rfl ?_
    refine Foot.step (State.satAdd_foot ..) rfl ?_
    exact Foot.refl
  clear_value y0_0
  clear_value y0_1
  refine Foot.ite ?_ ?_
  · refine Foot.step (State.lpFault_foot ..) rfl ?_
    refine Foot.step (State.lpEvt_foot ..) rfl ?_
    refine Foot.step (State.lpGo_foot ..) rfl ?_
    exact h_y0_0
  · refine Foot.step (State.offShow_foot ..) rfl ?_
    refine Foot.step (State.lpGo_foot ..) rfl ?_
    exact h_y0_0

theorem State.lpLeave_foot (s : State) (p : Nat) (side : Bool) : Foot 8716291 s (State.lpLeave s p side) := by
  unfold State.lpLeave
  extract_lets y0_0 y0_1 y0_2
  clear_value y0_0
  have h_y0_1 : Foot 8716291 s y0_1 := by
    unfold y0_1
    refine Foot.step (State.put_foot ..) rfl ?_
    exact Foot.refl
  clear_value y0_1
  clear_value y0_2
  refine Foot.ite ?_ ?_
  · refine Foot.step (State.lpWait_foot ..) rfl ?_
    refine Foot.step (State.lpFault_foot ..) rfl ?_
    refine Foot.step (State.lpEvt_foot ..) rfl ?_
    refine Foot.step (State.put_foot ..) rfl ?_
    exact Foot.refl
  · refine Foot.ite ?_ ?_
    · exact Foot.refl
    · refine Foot.ite ?_ ?_
      · refine Foot.step (State.lpWait_foot ..) rfl ?_
        exact Foot.refl
      · refine Foot.ite ?_ ?_
        · refine Foot.step (State.lpWait_foot ..) rfl ?_
          refine Foot.ite ?_ ?_
          · refine Foot.step (State.setLp_foot ..) rfl ?_
            exact h_y0_1
          · exact h_y0_1
        · exact Foot.refl

theorem State.sideClass_foot (s : State) (p cls : Nat) (low : Bool) : Foot 8716291 s (State.sideClass s p cls low) := by
  unfold State.sideClass
  extract_lets y0_0 y0_1
  clear_value y0_0
  have h_y0_1 : Foot 8716291 s y0_1 := by
    unfold y0_1
    refine Foot.step (State.sigShow_foot ..) rfl ?_
    refine Foot.step (State.setLp_foot ..) rfl ?_
    exact Foot.refl
  clear_value y0_1
  refine Foot.step (State.waitCheck_foot ..) rfl ?_
  refine Foot.ite ?_ ?_
  · exact h_y0_1
  · refine Foot.step (State.lpLeave_foot ..) rfl ?_
    exact h_y0_1

theorem State.busClass_foot (s : State) (isIn : Bool) : Foot 8716291 s (State.busClass s isIn) := by
  unfold State.busClass
  refine Foot.ite ?_ ?_
  · exact Foot.refl
  · extract_lets y0_0
    have h_y0_0 : Foot 8716291 s y0_0 := by
      unfold y0_0
      refine Foot.step (State.put_foot ..) rfl ?_
      refine Foot.step (State.put_foot ..) rfl ?_
      exact Foot.refl
    clear_value y0_0
    refine Foot.each ?_ ?_
    · intro a1_0 a1_1
      refine Foot.step (State.waitCheck_foot ..) rfl ?_
      refine Foot.step (State.sigShow_foot ..) rfl ?_
      refine Foot.ite ?_ ?_
      · exact Foot.refl
      · refine Foot.step (State.lpLeave_foot ..) rfl ?_
        exact Foot.refl
    · exact h_y0_0

theorem execLineWindowChange_foot (which : Fin 3) (cls : Fin 3) (low : Bool) (s : State) : FootO 8716291 s (execLineWindowChange which cls low s) := by
  unfold execLineWindowChange
  refine FootO.ite ?_ ?_
  · refine FootO.next ?_
    exact Foot.refl
  · refine FootO.next ?_
    refine Foot.ite ?_ ?_
    · refine Foot.step (State.busClass_foot ..) rfl ?_
      exact Foot.refl
    · refine Foot.step (State.sideClass_foot ..) rfl ?_
      exact Foot.refl

theorem execInsDlyExpiry_foot (p : Fin 2) (s : State) : FootO 1 s (execInsDlyExpiry p s) := by
  unfold execInsDlyExpiry
  refine FootO.ite ?_ ?_
  · refine FootO.next ?_
    exact Foot.refl
  · refine FootO.next ?_
    refine Foot.ite ?_ ?_
    · refine Foot.step (State.lpGo_foot ..) rfl ?_
      refine Foot.step (State.put_foot ..) rfl ?_
      exact Foot.refl
    · exact Foot.refl

theorem State.detDue_foot (s : State) (p : Nat) : Foot 65537 s (State.detDue s p) := by
  unfold State.detDue
  refine Foot.step (State.waitCheck_foot ..) rfl ?_
  refine Foot.step (State.setLp_foot ..) rfl ?_
  exact Foot.refl

theorem execDetectionDue_foot (p : Fin 2) (s : State) : FootO 65537 s (execDetectionDue p s) := by
  unfold execDetectionDue
  refine FootO.ite ?_ ?_
  · refine FootO.next ?_
    exact Foot.refl
  · refine FootO.next ?_
    refine Foot.step (State.detDue_foot ..) rfl ?_
    exact Foot.refl

theorem execDetectionDone_foot (p : Fin 2) (v1 v2 : BitVec 17) (bias : Bool) (s : State) : FootO 8716291 s (execDetectionDone p v1 v2 bias s) := by
  unfold execDetectionDone
  refine FootO.ite ?_ ?_
  · refine FootO.next ?_
    exact Foot.refl
  · refine FootO.next ?_
    refine Foot.ite ?_ ?_
    · extract_lets y0_0 y0_1
      clear_value y0_0
      have h_y0_1 : Foot 8716291 s y0_1 := by
        unfold y0_1
        refine Foot.step (State.put_foot ..) rfl ?_
        refine Foot.step (State.put_foot ..) rfl ?_
        exact Foot.refl
      clear_value y0_1
      refine Foot.ite ?_ ?_
      · refine Foot.step (State.lpGo_foot ..) rfl ?_
        refine Foot.step (State.put_foot ..) rfl ?_
        exact h_y0_1
      · refine Foot.step (State.lpWait_foot ..) rfl ?_
        refine Foot.ite ?_ ?_
        · exact h_y0_1
        · refine Foot.step (State.lpFault_foot ..) rfl ?_
          refine Foot.step (State.lpEvt_foot ..) rfl ?_
          exact h_y0_1
    · exact Foot.refl

theorem execRampDone_foot (p : Fin 2) (s : State) : FootO 1 s (execRampDone p s) := by
  unfold execRampDone
  refine FootO.ite ?_ ?_
  · refine FootO.next ?_
    exact Foot.refl
  · refine FootO.next ?_
    refine Foot.ite ?_ ?_
    · refine Foot.step (State.lpEvt_foot ..) rfl ?_
      refine Foot.step (State.lpGo_foot ..) rfl ?_
      exact Foot.refl
    · exact Foot.refl

theorem execRampTimeout_foot (p : Fin 2) (s : State) : FootO 8716291 s (execRampTimeout p s) := by
  unfold execRampTimeout
  refine FootO.ite ?_ ?_
  · refine FootO.next ?_
    exact Foot.refl
  · refine FootO.next ?_
    refine Foot.ite ?_ ?_
    · refine Foot.step (State.lpFail_foot ..) rfl ?_
      refine Foot.step (State.lpFault_foot ..) rfl ?_
      refine Foot.step (State.lpEvt_foot ..) rfl ?_
      exact Foot.refl
    · exact Foot.refl

theorem execCurrentLimit_foot (p : Fin 2) (regulating : Bool) (s : State) : FootO 1 s (execCurrentLimit p regulating s) := by
  unfold execCurrentLimit
  refine FootO.ite ?_ ?_
  · refine FootO.next ?_
    exact Foot.refl
  · extract_lets y0_0
    clear_value y0_0
    refine FootO.next ?_
    refine Foot.ite ?_ ?_
    · refine Foot.step (State.put_foot ..) rfl ?_
      exact Foot.refl
    · exact Foot.refl

theorem execFastTrip_foot (p : Fin 2) (ta : BitVec 18) (s : State) : FootO 8716291 s (execFastTrip p ta s) := by
  unfold execFastTrip
  refine FootO.ite ?_ ?_
  · refine FootO.next ?_
    exact Foot.refl
  · extract_lets y0_0
    clear_value y0_0
    refine FootO.next ?_
    refine Foot.ite ?_ ?_
    · refine Foot.step (State.lpFail_foot ..) rfl ?_
      refine Foot.step (State.lpFault_foot ..) rfl ?_
      refine Foot.step (State.lpEvt_foot ..) rfl ?_
      exact Foot.refl
    · exact Foot.refl

theorem execFaultTimerExpiry_foot (p : Fin 2) (ta : BitVec 18) (s : State) : FootO 8716291 s (execFaultTimerExpiry p ta s) := by
  unfold execFaultTimerExpiry
  refine FootO.ite ?_ ?_
  · refine FootO.next ?_
    exact Foot.refl
  · extract_lets y0_0
    clear_value y0_0
    refine FootO.next ?_
    refine Foot.ite ?_ ?_
    · refine Foot.step (State.lpFail_foot ..) rfl ?_
      refine Foot.step (State.lpFault_foot ..) rfl ?_
      refine Foot.step (State.lpEvt_foot ..) rfl ?_
      exact Foot.refl
    · exact Foot.refl

theorem execOffTimeEnd_foot (p : Fin 2) (s : State) : FootO 65537 s (execOffTimeEnd p s) := by
  unfold execOffTimeEnd
  refine FootO.ite ?_ ?_
  · refine FootO.next ?_
    exact Foot.refl
  · refine FootO.next ?_
    refine Foot.ite ?_ ?_
    · refine Foot.step (State.lpWait_foot ..) rfl ?_
      refine Foot.step (State.setLp_foot ..) rfl ?_
      exact Foot.refl
    · exact Foot.refl

theorem execFetShort_foot (p : Fin 2) (s : State) : FootO 8716291 s (execFetShort p s) := by
  unfold execFetShort
  refine FootO.ite ?_ ?_
  · refine FootO.next ?_
    exact Foot.refl
  · extract_lets y0_0
    clear_value y0_0
    refine FootO.next ?_
    refine Foot.ite ?_ ?_
    · exact Foot.refl
    · refine Foot.step (State.lpGo_foot ..) rfl ?_
      refine Foot.step (State.lpFault_foot ..) rfl ?_
      refine Foot.step (State.lpEvt_foot ..) rfl ?_
      refine Foot.step (State.offShow_foot ..) rfl ?_
      exact Foot.refl

theorem execPgBlankEnd_foot (p : Fin 2) (s : State) : FootO 1 s (execPgBlankEnd p s) := by
  unfold execPgBlankEnd
  refine FootO.ite ?_ ?_
  · refine FootO.next ?_
    exact Foot.refl
  · refine FootO.next ?_
    refine Foot.ite ?_ ?_
    · refine Foot.step (State.setPg_foot ..) rfl ?_
      exact Foot.refl
    · exact Foot.refl

theorem execGateVoltageLow_foot (p : Fin 2) (s : State) : FootO 1 s (execGateVoltageLow p s) := by
  unfold execGateVoltageLow
  refine FootO.ite ?_ ?_
  · refine FootO.next ?_
    exact Foot.refl
  · refine FootO.next ?_
    refine Foot.ite ?_ ?_
    · refine Foot.step (State.setPg_foot ..) rfl ?_
      exact Foot.refl
    · exact Foot.refl

theorem execFailsClear_foot (p : Fin 2) (s : State) : FootO 1 s (execFailsClear p s) := by
  unfold execFailsClear
  refine FootO.ite ?_ ?_
  · refine FootO.next ?_
    exact Foot.refl
  · refine FootO.next ?_
    refine Foot.ite ?_ ?_
    · refine Foot.step (State.put_foot ..) rfl ?_
      exact Foot.refl
    · exact Foot.refl

theorem State.lpCmd_foot {m : Nat} {s0 s : State} {off : Nat} {f : State → State} (hm : 8388611 ||| m = m)
    (hf : ∀ x, Foot m x (f x)) (h : Foot m s0 s) : Foot m s0 (State.lpCmd s off f) := by
  unfold State.lpCmd
  exact Foot.ite h (State.cmd_foot hm hf h)

theorem State.lpOff_foot (s : State) (p : Nat) : Foot 65537 s (State.lpOff s p) := by
  unfold State.lpOff
  refine Foot.step (State.lpDisable_foot ..) rfl ?_
  refine Foot.step (State.put_foot ..) rfl ?_
  exact Foot.refl

theorem State.lpOn_foot (s : State) (p : Nat) : Foot 65537 s (State.lpOn s p) := by
  unfold State.lpOn
  extract_lets y0_0
  have h_y0_0 : Foot 65537 s y0_0 := by
    unfold y0_0
    refine Foot.step (State.put_foot ..) rfl ?_
    exact Foot.refl
  clear_value y0_0
  refine Foot.ite ?_ ?_
  · refine Foot.step (State.lpWait_foot ..) rfl ?_
    exact h_y0_0
  · exact h_y0_0

theorem State.lpClear_foot (s : State) (p : Nat) : Foot 65537 s (State.lpClear s p) := by
  unfold State.lpClear
  extract_lets y0_0
  have h_y0_0 : Foot 65537 s y0_0 := by
    unfold y0_0
    refine Foot.step (State.put_foot ..) rfl ?_
    exact Foot.refl
  clear_value y0_0
  refine Foot.ite ?_ ?_
  · refine Foot.step (State.lpWait_foot ..) rfl ?_
    exact h_y0_0
  · exact h_y0_0

theorem execLpwOff_foot (p : Fin 2) (s : State) : FootO 8454147 s (execLpwOff p s) := by
  unfold execLpwOff
  refine FootO.next ?_
  refine State.lpCmd_foot rfl ?_ ?_
  · intro a0_0
    refine Foot.step (State.lpOff_foot ..) rfl ?_
    exact Foot.refl
  · exact Foot.refl

theorem execLpwOn_foot (p : Fin 2) (s : State) : FootO 8454147 s (execLpwOn p s) := by
  unfold execLpwOn
  refine FootO.next ?_
  refine State.lpCmd_foot rfl ?_ ?_
  · intro a0_0
    refine Foot.step (State.lpOn_foot ..) rfl ?_
    exact Foot.refl
  · exact Foot.refl

theorem execLpwClear_foot (p : Fin 2) (s : State) : FootO 8454147 s (execLpwClear p s) := by
  unfold execLpwClear
  refine FootO.next ?_
  refine State.lpCmd_foot rfl ?_ ?_
  · intro a0_0
    refine Foot.step (State.lpClear_foot ..) rfl ?_
    exact Foot.refl
  · exact Foot.refl

theorem execLpwDetect_foot (p : Fin 2) (s : State) : FootO 8454147 s (execLpwDetect p s) := by
  unfold execLpwDetect
  refine FootO.next ?_
  refine State.lpCmd_foot rfl ?_ ?_
  · intro a0_0
    refine Foot.step (State.detDue_foot ..) rfl ?_
    exact Foot.refl
  · exact Foot.refl

theorem State.energy_foot (s : State) (k uj : Nat) : Foot 65539 s (State.energy s k uj) := by
  unfold State.energy
  extract_lets y0_0 y0_1
  clear_value y0_0
  clear_value y0_1
  refine Foot.step (State.count_foot ..) rfl ?_
  refine Foot.set_lpw rfl ?_
  exact Foot.refl

theorem execLpwMeasure_foot (vE vW vBus : BitVec 17) (iE iW : BitVec 16) (pE pW : Word) (inE outE inW outW : Word) (s : State) : FootO 65539 s (execLpwMeasure vE vW vBus iE iW pE pW inE outE inW outW s) := by
  unfold execLpwMeasure
  refine FootO.ite ?_ ?_
  · refine FootO.next ?_
    exact Foot.refl
  · extract_lets y0_0 y0_1 y0_2
    have h_y0_0 : Foot 65539 s y0_0 := by
      unfold y0_0
      refine Foot.step (State.put_foot ..) rfl ?_
      refine Foot.step (State.put_foot ..) rfl ?_
      refine Foot.step (State.put_foot ..) rfl ?_
      refine Foot.step (State.put_foot ..) rfl ?_
      exact Foot.refl
    clear_value y0_0
    have h_y0_1 : Foot 65539 s y0_1 := by
      unfold y0_1
      refine Foot.step (State.put_foot ..) rfl ?_
      refine Foot.step (State.put_foot ..) rfl ?_
      refine Foot.step (State.put_foot ..) rfl ?_
      exact h_y0_0
    clear_value y0_1
    have h_y0_2 : Foot 65539 s y0_2 := by
      unfold y0_2
      refine Foot.step (State.energy_foot ..) rfl ?_
      refine Foot.step (State.energy_foot ..) rfl ?_
      refine Foot.step (State.energy_foot ..) rfl ?_
      refine Foot.step (State.energy_foot ..) rfl ?_
      exact h_y0_1
    clear_value y0_2
    refine FootO.next ?_
    refine Foot.each ?_ ?_
    · intro a1_0 a1_1
      refine Foot.ite ?_ ?_
      · refine Foot.step (State.offShow_foot ..) rfl ?_
        exact Foot.refl
      · exact Foot.refl
    · exact h_y0_2

theorem State.lpwApply_foot (s : State) : Foot 65536 s (State.lpwApply s) := by
  unfold State.lpwApply
  refine Foot.set_lpw rfl ?_
  exact Foot.refl

theorem State.takeReg_foot (s : State) (o : Nat) (w : Word) : Foot 1 s (State.takeReg s o w) := by
  unfold State.takeReg
  refine Foot.ite ?_ ?_
  · refine Foot.step (State.put_foot ..) rfl ?_
    refine Foot.step (State.put_foot ..) rfl ?_
    exact Foot.refl
  · refine Foot.step (State.wr_foot ..) rfl ?_
    exact Foot.refl

theorem execLpwApplyTake_foot (e w : Fin 3) (lowE lowW bus : Bool) (s : State) : FootO 8716291 s (execLpwApplyTake e w lowE lowW bus s) := by
  unfold execLpwApplyTake
  refine FootO.ite ?_ ?_
  · refine FootO.next ?_
    exact Foot.refl
  · refine FootO.next ?_
    refine Foot.ite ?_ ?_
    · extract_lets y0_0 y0_1 y0_2 y0_3 y0_4 y0_5
      have h_y0_0 : Foot 8716291 s y0_0 := by
        unfold y0_0
        refine Foot.foldl ?_ _ ?_
        · intro a1_0 a1_1
          refine Foot.step (State.takeReg_foot ..) rfl ?_
          exact Foot.refl
        · exact Foot.refl
      clear_value y0_0
      clear_value y0_1
      have h_y0_2 : Foot 8716291 s y0_2 := by
        unfold y0_2
        refine Foot.set_lpw rfl ?_
        exact h_y0_0
      clear_value y0_2
      clear_value y0_3
      clear_value y0_4
      have h_y0_5 : Foot 8716291 s y0_5 := by
        unfold y0_5
        refine Foot.when ?_ ?_
        · intro a1_0
          refine Foot.step (State.put_foot ..) rfl ?_
          refine Foot.step (State.put_foot ..) rfl ?_
          exact Foot.refl
        · refine Foot.step (State.setLp_foot ..) rfl ?_
          refine Foot.step (State.setLp_foot ..) rfl ?_
          exact h_y0_2
      clear_value y0_5
      refine Foot.each ?_ ?_
      · intro a1_0 a1_1
        refine Foot.ite ?_ ?_
        · refine Foot.ite ?_ ?_
          · refine Foot.step (State.sigShow_foot ..) rfl ?_
            exact Foot.refl
          · refine Foot.step (State.lpDisable_foot ..) rfl ?_
            exact Foot.refl
        · refine Foot.ite ?_ ?_
          · refine Foot.step (State.lpWait_foot ..) rfl ?_
            exact Foot.refl
          · extract_lets y2_0
            have h_y2_0 : Foot 8716291 a1_0 y2_0 := by
              unfold y2_0
              refine Foot.ite ?_ ?_
              · exact Foot.refl
              · refine Foot.step (State.lpLeave_foot ..) rfl ?_
                exact Foot.refl
            clear_value y2_0
            refine Foot.step (State.waitCheck_foot ..) rfl ?_
            refine Foot.step (State.sigShow_foot ..) rfl ?_
            exact h_y2_0
      · exact h_y0_5
    · exact Foot.refl

theorem execSeqStart_foot (s : State) : FootO 1 s (execSeqStart s) := by
  unfold execSeqStart
  refine FootO.ite ?_ ?_
  · refine FootO.next ?_
    exact Foot.refl
  · refine FootO.next ?_
    refine Foot.ite ?_ ?_
    · refine Foot.step (State.setBit_foot ..) rfl ?_
      refine Foot.step (State.put_foot ..) rfl ?_
      exact Foot.refl
    · exact Foot.refl

theorem execSeqStep_foot (inwin : BitVec 4) (s : State) : FootO 1 s (execSeqStep inwin s) := by
  unfold execSeqStep
  refine FootO.ite ?_ ?_
  · refine FootO.next ?_
    exact Foot.refl
  · refine FootO.next ?_
    refine Foot.ite ?_ ?_
    · extract_lets y0_0
      have h_y0_0 : Foot 1 s y0_0 := by
        unfold y0_0
        refine Foot.step (State.put_foot ..) rfl ?_
        exact Foot.refl
      clear_value y0_0
      split
      · refine Foot.ite ?_ ?_
        · refine Foot.step (State.setBit_foot ..) rfl ?_
          exact h_y0_0
        · exact h_y0_0
      · exact h_y0_0
    · exact Foot.refl

theorem State.railFault_foot (s : State) (n : Nat) : Foot 8716291 s (State.railFault s n) := by
  unfold State.railFault
  refine Foot.step (State.lpFault_foot ..) rfl ?_
  refine Foot.step (State.satAdd_foot ..) rfl ?_
  refine Foot.step (State.put_foot ..) rfl ?_
  exact Foot.refl

theorem execRailTimeout_foot (n : Fin 4) (s : State) : FootO 8716291 s (execRailTimeout n s) := by
  unfold execRailTimeout
  refine FootO.ite ?_ ?_
  · refine FootO.next ?_
    exact Foot.refl
  · refine FootO.next ?_
    refine Foot.ite ?_ ?_
    · refine Foot.step (State.put_foot ..) rfl ?_
      refine Foot.step (State.put_foot ..) rfl ?_
      refine Foot.step (State.put_foot ..) rfl ?_
      refine Foot.step (State.railFault_foot ..) rfl ?_
      exact Foot.refl
    · exact Foot.refl

theorem execSeqRetry_foot (s : State) : FootO 1 s (execSeqRetry s) := by
  unfold execSeqRetry
  refine FootO.ite ?_ ?_
  · refine FootO.next ?_
    exact Foot.refl
  · refine FootO.next ?_
    refine Foot.ite ?_ ?_
    · refine Foot.step (State.setBit_foot ..) rfl ?_
      refine Foot.step (State.put_foot ..) rfl ?_
      exact Foot.refl
    · exact Foot.refl

theorem execLpRail_foot (n : Fin 4) (s : State) : FootO 8716291 s (execLpRail n s) := by
  unfold execLpRail
  refine FootO.ite ?_ ?_
  · refine FootO.next ?_
    exact Foot.refl
  · refine FootO.next ?_
    refine Foot.ite ?_ ?_
    · refine Foot.step (State.railFault_foot ..) rfl ?_
      refine Foot.step (State.clrBit_foot ..) rfl ?_
      exact Foot.refl
    · exact Foot.refl

theorem State.lpwPor_foot (s : State) (stacked : Bool) : Foot 134283267 s (State.lpwPor s stacked) := by
  unfold State.lpwPor
  extract_lets y0_0 y0_1
  have h_y0_0 : Foot 134283267 s y0_0 := by
    unfold y0_0
    refine Foot.step (t := s) (m' := 134283267) ⟨rfl, fun i => ⟨Tab.wf_filter _ i.regs, Tab.wf_filter _ i.live, i.mem, i.biv, i.flash, i.fltQ, i.dlQ⟩, nofun, nofun, fun _ => rfl, fun _ => rfl, fun _ => rfl, fun _ => rfl, fun _ => rfl, fun _ => rfl, fun _ => rfl, fun _ => rfl, fun _ => rfl, fun _ => rfl, fun _ => rfl, fun _ => rfl, fun _ => rfl, fun _ => rfl, nofun, fun _ => rfl, fun _ => rfl, fun _ => rfl, fun _ => rfl, fun _ => rfl, fun _ => rfl, fun _ => rfl, fun _ => rfl, fun _ => rfl, fun _ => rfl, nofun, fun _ => rfl⟩ rfl ?_
    exact Foot.refl
  clear_value y0_0
  have h_y0_1 : Foot 134283267 s y0_1 := by
    unfold y0_1
    refine Foot.step (State.put_foot ..) rfl ?_
    exact h_y0_0
  clear_value y0_1
  refine Foot.ite ?_ ?_
  · refine Foot.each ?_ ?_
    · intro a1_0 a1_1
      refine Foot.step (State.lpGo_foot ..) rfl ?_
      exact Foot.refl
    · exact h_y0_1
  · exact h_y0_1

theorem execAonSupplyLoss_foot (s : State) : FootO 2162689 s (execAonSupplyLoss s) := by
  unfold execAonSupplyLoss
  extract_lets y0_0 y0_1 y0_2 y0_3
  have h_y0_0 : Foot 2162689 s y0_0 := by
    unfold y0_0
    refine Foot.each ?_ ?_
    · intro a1_0 a1_1
      refine Foot.step (State.put_foot ..) rfl ?_
      refine Foot.step (State.lpGo_foot ..) rfl ?_
      exact Foot.refl
    · exact Foot.refl
  clear_value y0_0
  have h_y0_1 : Foot 2162689 s y0_1 := by
    unfold y0_1
    refine Foot.step (State.put_foot ..) rfl ?_
    refine Foot.step (State.put_foot ..) rfl ?_
    refine Foot.step (State.put_foot ..) rfl ?_
    refine Foot.step (State.put_foot ..) rfl ?_
    exact h_y0_0
  clear_value y0_1
  clear_value y0_2
  clear_value y0_3
  refine FootO.next ?_
  refine Foot.step (t := y0_1) (m' := 2162688) ⟨rfl, fun i => ⟨i.regs, i.live, i.mem, i.biv, i.flash, i.fltQ, i.dlQ⟩, fun _ => rfl, fun _ => rfl, fun _ => rfl, fun _ => rfl, fun _ => rfl, fun _ => rfl, fun _ => rfl, fun _ => rfl, fun _ => rfl, fun _ => rfl, fun _ => rfl, fun _ => rfl, fun _ => rfl, fun _ => rfl, fun _ => rfl, fun _ => rfl, nofun, fun _ => rfl, fun _ => rfl, fun _ => rfl, fun _ => rfl, nofun, fun _ => rfl, fun _ => rfl, fun _ => rfl, fun _ => rfl, fun _ => rfl, fun _ => rfl, fun _ => rfl⟩ rfl ?_
  exact h_y0_1

theorem execKeepAliveTx_foot (s : State) : FootO 0 s (execKeepAliveTx s) := by
  unfold execKeepAliveTx
  refine FootO.next ?_
  exact Foot.refl

theorem execD2dLoss_foot (s : State) : FootO 411303939 s (execD2dLoss s) := by
  unfold execD2dLoss
  refine FootO.next ?_
  refine Foot.ite ?_ ?_
  · exact Foot.refl
  · refine Foot.step (State.lsvStale_foot ..) rfl ?_
    refine Foot.step (State.lpSend_foot ..) rfl ?_
    refine Foot.step (t := s) (m' := 402653184) ⟨rfl, fun i => ⟨i.regs, i.live, i.mem, i.biv, i.flash, i.fltQ, i.dlQ⟩, fun _ => rfl, fun _ => rfl, fun _ => rfl, fun _ => rfl, fun _ => rfl, fun _ => rfl, fun _ => rfl, fun _ => rfl, fun _ => rfl, fun _ => rfl, fun _ => rfl, fun _ => rfl, fun _ => rfl, fun _ => rfl, fun _ => rfl, fun _ => rfl, fun _ => rfl, fun _ => rfl, fun _ => rfl, fun _ => rfl, fun _ => rfl, fun _ => rfl, fun _ => rfl, fun _ => rfl, fun _ => rfl, fun _ => rfl, fun _ => rfl, nofun, nofun⟩ rfl ?_
    exact Foot.refl

theorem execD2dRestored_foot (s : State) : FootO 277153795 s (execD2dRestored s) := by
  unfold execD2dRestored
  refine FootO.next ?_
  refine Foot.ite ?_ ?_
  · extract_lets y0_0 y0_1
    have h_y0_0 : Foot 277153795 s y0_0 := by
      unfold y0_0
      refine Foot.each ?_ ?_
      · intro a1_0 a1_1
        refine Foot.step (State.lpSend_foot ..) rfl ?_
        exact Foot.refl
      · refine Foot.set_d2dLost rfl ?_
        exact Foot.refl
    clear_value y0_0
    clear_value y0_1
    refine Foot.step (State.lsvFresh_foot ..) rfl ?_
    refine Foot.set_lpw rfl ?_
    exact h_y0_0
  · refine Foot.when ?_ ?_
    · intro a1_0
      refine Foot.step (State.put_foot ..) rfl ?_
      exact Foot.refl
    · exact Foot.refl

end Sys2Proof.Machine
end

