-- ==== Sys2Proof/Laws/FootBlocks.lean ====
section
/-! SUPPORT. The footprints of the operations and meanings of Sys2Proof.Machine.Blocks. -/
namespace Sys2Proof.Machine

theorem State.sendBlocks_foot (s : State) (l : Nat) (bs : List Plain) : Foot 32 s (State.sendBlocks s l bs) := by
  unfold State.sendBlocks
  refine Foot.step (State.modLn_foot ..) rfl ?_
  exact Foot.refl

theorem State.genBits_foot (s : State) (l n : Nat) : Foot 32 s (State.genBits s l n).1 := by
  unfold State.genBits
  extract_lets y0_0 y0_1
  clear_value y0_0
  clear_value y0_1
  refine Foot.mk1 ?_
  refine Foot.step (State.modLn_foot ..) rfl ?_
  exact Foot.refl

theorem State.fillBlock_foot (s : State) (l : Nat) : Foot 32 s (State.fillBlock s l).1 := by
  unfold State.fillBlock
  split
  · refine Foot.mk1 ?_
    exact Foot.refl
  · refine Foot.ite1 ?_ ?_
    · extract_lets y1_0
      have h_y1_0 : Foot 32 s y1_0.1 := by
        unfold y1_0
        refine Foot.step (State.genBits_foot ..) rfl ?_
        exact Foot.refl
      clear_value y1_0
      refine Foot.mk1 ?_
      exact h_y1_0
    · refine Foot.mk1 ?_
      exact Foot.refl

theorem State.sendFilled_foot (s : State) (l : Nat) (bs : List Plain) : Foot 32 s (State.sendFilled s l bs) := by
  unfold State.sendFilled
  extract_lets y0_0
  have h_y0_0 : Foot 32 s y0_0.1 := by
    unfold y0_0
    refine Foot.step (State.fillBlock_foot ..) rfl ?_
    exact Foot.refl
  clear_value y0_0
  refine Foot.step (State.sendBlocks_foot ..) rfl ?_
  exact h_y0_0

theorem State.chkSeed_foot (s : State) (l : Nat) : Foot 33 s (State.chkSeed s l) := by
  unfold State.chkSeed
  refine Foot.step (State.modLn_foot ..) rfl ?_
  refine Foot.step (State.put_foot ..) rfl ?_
  exact Foot.refl

theorem State.chkLost_foot (s : State) (l : Nat) : Foot 33 s (State.chkLost s l) := by
  unfold State.chkLost
  refine Foot.step (State.satAdd_foot ..) rfl ?_
  refine Foot.step (State.put_foot ..) rfl ?_
  refine Foot.step (State.chkSeed_foot ..) rfl ?_
  exact Foot.refl

theorem State.chkBit_foot (s : State) (l : Nat) (b : Bool) : Foot 35 s (State.chkBit s l b) := by
  unfold State.chkBit
  extract_lets y0_0 y0_1 y0_2 y0_3 y0_4 y0_5 y0_6 y0_7 y0_8 y0_9 y0_10
  clear_value y0_0
  clear_value y0_1
  clear_value y0_2
  clear_value y0_3
  have h_y0_4 : Foot 35 s y0_4 := by
    unfold y0_4
    refine Foot.when ?_ ?_
    · intro a1_0
      refine Foot.step (State.bump_foot ..) rfl ?_
      exact Foot.refl
    · refine Foot.step (State.bump_foot ..) rfl ?_
      exact Foot.refl
  clear_value y0_4
  clear_value y0_5
  clear_value y0_6
  clear_value y0_7
  clear_value y0_8
  clear_value y0_9
  have h_y0_10 : Foot 35 s y0_10 := by
    unfold y0_10
    refine Foot.step (State.modLn_foot ..) rfl ?_
    exact Foot.refl
  clear_value y0_10
  refine Foot.ite ?_ ?_
  · refine Foot.ite ?_ ?_
    · refine Foot.step (State.chkLost_foot ..) rfl ?_
      exact h_y0_4
    · refine Foot.step (State.modLn_foot ..) rfl ?_
      exact h_y0_4
  · refine Foot.ite ?_ ?_
    · refine Foot.step (State.modLn_foot ..) rfl ?_
      refine Foot.step (State.put_foot ..) rfl ?_
      exact h_y0_10
    · exact h_y0_10

theorem State.chkBlock_foot (s : State) (l payload : Nat) : Foot 35 s (State.chkBlock s l payload) := by
  unfold State.chkBlock
  refine Foot.ite ?_ ?_
  · refine Foot.each ?_ ?_
    · intro a0_0 a0_1
      refine Foot.step (State.chkBit_foot ..) rfl ?_
      exact Foot.refl
    · exact Foot.refl
  · exact Foot.refl

end Sys2Proof.Machine
end

