-- ==== Sys2Proof/Laws/FootCensus.lean ====
section
/-! SUPPORT. The footprints of the operations and meanings of Sys2Proof.Machine.Census. -/
namespace Sys2Proof.Machine

theorem State.cenSend_foot (s : State) (dst lane : Nat) (ws : List DWord) : Foot 10485915 s (State.cenSend s dst lane ws) := by
  unfold State.cenSend
  refine Foot.step (State.originate_foot ..) rfl ?_
  exact Foot.refl

theorem State.headMeet_foot (s : State) (f : Frame) : Foot 8388611 s (State.headMeet s f) := by
  unfold State.headMeet
  extract_lets y0_0 y0_1
  clear_value y0_0
  have h_y0_1 : Foot 8388611 s y0_1 := by
    unfold y0_1
    refine Foot.step (State.fault_foot ..) rfl ?_
    refine Foot.step (State.put_foot ..) rfl ?_
    exact Foot.refl
  clear_value y0_1
  refine Foot.ite ?_ ?_
  · refine Foot.ite ?_ ?_
    · refine Foot.step (State.put_foot ..) rfl ?_
      exact h_y0_1
    · exact h_y0_1
  · exact Foot.refl

theorem State.setBlock_foot (s : State) (d : Nat) (v : Bool) : Foot 10748059 s (State.setBlock s d v) := by
  unfold State.setBlock
  refine Foot.ite ?_ ?_
  · exact Foot.refl
  · extract_lets y0_0
    have h_y0_0 : Foot 10748059 s y0_0 := by
      unfold y0_0
      refine Foot.step (State.put_foot ..) rfl ?_
      exact Foot.refl
    clear_value y0_0
    refine Foot.ite ?_ ?_
    · refine Foot.step (State.dirDown_foot ..) rfl ?_
      exact h_y0_0
    · refine Foot.step (State.dirRight_foot ..) rfl ?_
      exact h_y0_0

theorem State.floorTake_foot (s : State) : Foot 64 s (State.floorTake s) := by
  unfold State.floorTake
  refine Foot.set_rpe rfl ?_
  exact Foot.refl

theorem State.setNode_foot (s : State) (node status round : Nat) : Foot 1 s (State.setNode s node status round) := by
  unfold State.setNode
  extract_lets y0_0 y0_1
  clear_value y0_0
  have h_y0_1 : Foot 1 s y0_1 := by
    unfold y0_1
    refine Foot.step (State.put_foot ..) rfl ?_
    refine Foot.step (State.put_foot ..) rfl ?_
    refine Foot.step (State.put_foot ..) rfl ?_
    exact Foot.refl
  clear_value y0_1
  refine Foot.step (State.pairCheck_foot ..) rfl ?_
  refine Foot.when ?_ ?_
  · intro a1_0
    refine Foot.step (State.put_foot ..) rfl ?_
    exact Foot.refl
  · exact h_y0_1

theorem State.assignTake_foot (s : State) (f : Frame) : Foot 10748123 s (State.assignTake s f) := by
  unfold State.assignTake
  refine Foot.ite ?_ ?_
  · exact Foot.refl
  · extract_lets y0_0 y0_1 y0_2 y0_3 y0_4 y0_5 y0_6 y0_7 y0_8
    clear_value y0_0
    clear_value y0_1
    have h_y0_2 : Foot 10748123 s y0_2 := by
      unfold y0_2
      refine Foot.set_rpe rfl ?_
      exact Foot.refl
    clear_value y0_2
    have h_y0_3 : Foot 10748123 s y0_3 := by
      unfold y0_3
      split
      · refine Foot.step (State.put_foot ..) rfl ?_
        refine Foot.step (State.setNode_foot ..) rfl ?_
        exact h_y0_2
      · refine Foot.step (State.put_foot ..) rfl ?_
        refine Foot.step (State.setNode_foot ..) rfl ?_
        exact h_y0_2
    clear_value y0_3
    clear_value y0_4
    have h_y0_5 : Foot 10748123 s y0_5 := by
      unfold y0_5
      refine Foot.when ?_ ?_
      · intro a1_0
        refine Foot.step (State.put_foot ..) rfl ?_
        exact Foot.refl
      · exact h_y0_3
    clear_value y0_5
    clear_value y0_6
    have h_y0_7 : Foot 10748123 s y0_7 := by
      unfold y0_7
      refine Foot.step (State.put_foot ..) rfl ?_
      refine Foot.step (State.put_foot ..) rfl ?_
      refine Foot.step (State.put_foot ..) rfl ?_
      refine Foot.step (State.put_foot ..) rfl ?_
      exact h_y0_5
    clear_value y0_7
    clear_value y0_8
    refine Foot.step (State.setBlock_foot ..) rfl ?_
    refine Foot.step (State.setBlock_foot ..) rfl ?_
    exact h_y0_7

theorem State.sendNote_foot (s : State) : Foot 10485915 s (State.sendNote s) := by
  unfold State.sendNote
  refine Foot.ite ?_ ?_
  · exact Foot.refl
  · refine Foot.each ?_ ?_
    · intro a0_0 a0_1
      refine Foot.ite ?_ ?_
      · refine Foot.step (State.cenSend_foot ..) rfl ?_
        exact Foot.refl
      · exact Foot.refl
    · exact Foot.refl

theorem State.noteOnBeacon_foot (s : State) : Foot 10485979 s (State.noteOnBeacon s) := by
  unfold State.noteOnBeacon
  extract_lets y0_0 y0_1
  clear_value y0_0
  clear_value y0_1
  refine Foot.ite ?_ ?_
  · refine Foot.step (State.sendNote_foot ..) rfl ?_
    refine Foot.set_rpe rfl ?_
    exact Foot.refl
  · exact Foot.refl

theorem State.callPass_foot (s : State) (inLane lane : Nat) (f : Frame) : Foot 10485787 s (State.callPass s inLane lane f) := by
  unfold State.callPass
  refine Foot.step (State.place_foot ..) rfl ?_
  exact Foot.refl

theorem State.callStore_foot (s : State) (f : Frame) : Foot 65 s (State.callStore s f) := by
  unfold State.callStore
  extract_lets y0_0 y0_1 y0_2 y0_3 y0_4 y0_5 y0_6 y0_7 y0_8
  clear_value y0_0
  clear_value y0_1
  have h_y0_2 : Foot 65 s y0_2 := by
    unfold y0_2
    refine Foot.each ?_ ?_
    · intro a1_0 a1_1
      refine Foot.step (State.wr_foot ..) rfl ?_
      refine Foot.step (State.wr_foot ..) rfl ?_
      exact Foot.refl
    · exact Foot.refl
  clear_value y0_2
  have h_y0_3 : Foot 65 s y0_3 := by
    unfold y0_3
    refine Foot.ite ?_ ?_
    · refine Foot.step (State.put_foot ..) rfl ?_
      refine Foot.step (State.put_foot ..) rfl ?_
      exact h_y0_2
    · refine Foot.step (State.put_foot ..) rfl ?_
      refine Foot.step (State.put_foot ..) rfl ?_
      exact h_y0_2
  clear_value y0_3
  have h_y0_4 : Foot 65 s y0_4 := by
    unfold y0_4
    refine Foot.when ?_ ?_
    · intro a1_0
      refine Foot.step (State.put_foot ..) rfl ?_
      exact Foot.refl
    · exact h_y0_3
  clear_value y0_4
  have h_y0_5 : Foot 65 s y0_5 := by
    unfold y0_5
    refine Foot.when ?_ ?_
    · intro a1_0
      refine Foot.step (State.put_foot ..) rfl ?_
      exact Foot.refl
    · exact h_y0_4
  clear_value y0_5
  clear_value y0_6
  have h_y0_7 : Foot 65 s y0_7 := by
    unfold y0_7
    refine Foot.set_rpe rfl ?_
    exact h_y0_5
  clear_value y0_7
  clear_value y0_8
  refine Foot.ite ?_ ?_
  · refine Foot.step (State.put_foot ..) rfl ?_
    refine Foot.set_rpe rfl ?_
    exact h_y0_7
  · exact h_y0_7

theorem State.callRx_foot (s : State) (lane : Nat) (f : Frame) : Foot 10485851 s (State.callRx s lane f) := by
  unfold State.callRx
  refine Foot.ite ?_ ?_
  · exact Foot.refl
  · extract_lets y0_0 y0_1 y0_2
    have h_y0_0 : Foot 10485851 s y0_0 := by
      unfold y0_0
      refine Foot.step (State.headMeet_foot ..) rfl ?_
      exact Foot.refl
    clear_value y0_0
    clear_value y0_1
    clear_value y0_2
    refine Foot.ite ?_ ?_
    · refine Foot.step (State.callStore_foot ..) rfl ?_
      exact h_y0_0
    · refine Foot.ite ?_ ?_
      · refine Foot.step (State.callPass_foot ..) rfl ?_
        exact h_y0_0
      · refine Foot.ite ?_ ?_
        · refine Foot.step (State.callPass_foot ..) rfl ?_
          exact h_y0_0
        · refine Foot.step (State.callPass_foot ..) rfl ?_
          exact h_y0_0

theorem State.callStart_foot (s : State) : Foot 10485979 s (State.callStart s) := by
  unfold State.callStart
  refine Foot.ite ?_ ?_
  · exact Foot.refl
  · extract_lets y0_0 y0_1 y0_2 y0_3
    clear_value y0_0
    clear_value y0_1
    have h_y0_2 : Foot 10485979 s y0_2 := by
      unfold y0_2
      refine Foot.step (State.setNode_foot ..) rfl ?_
      refine Foot.set_rpe rfl ?_
      exact Foot.refl
    clear_value y0_2
    clear_value y0_3
    refine Foot.step (State.cenSend_foot ..) rfl ?_
    refine Foot.step (State.cenSend_foot ..) rfl ?_
    exact h_y0_2

theorem execClaimConfirm_foot (s : State) : FootO 10748123 s (execClaimConfirm s) := by
  unfold execClaimConfirm
  refine FootO.ite ?_ ?_
  · refine FootO.next ?_
    exact Foot.refl
  · refine FootO.next ?_
    refine Foot.ite ?_ ?_
    · extract_lets y0_0 y0_1 y0_2
      clear_value y0_0
      have h_y0_1 : Foot 10748123 s y0_1 := by
        unfold y0_1
        refine Foot.set_tst rfl ?_
        exact Foot.refl
      clear_value y0_1
      have h_y0_2 : Foot 10748123 s y0_2 := by
        unfold y0_2
        refine Foot.step (State.listenCheck_foot ..) rfl ?_
        refine Foot.step (State.bump_foot ..) rfl ?_
        refine Foot.step (State.put_foot ..) rfl ?_
        refine Foot.step (State.put_foot ..) rfl ?_
        exact h_y0_1
      clear_value y0_2
      refine Foot.ite ?_ ?_
      · refine Foot.step (State.callStart_foot ..) rfl ?_
        exact h_y0_2
      · exact h_y0_2
    · exact Foot.refl

theorem State.assignSend_foot (s : State) (count : Nat) : Foot 10748123 s (State.assignSend s count) := by
  unfold State.assignSend
  refine Foot.ite ?_ ?_
  · exact Foot.refl
  · extract_lets y0_0 y0_1 y0_2 y0_3
    clear_value y0_0
    clear_value y0_1
    clear_value y0_2
    clear_value y0_3
    refine Foot.step (State.assignTake_foot ..) rfl ?_
    refine Foot.step (State.cenSend_foot ..) rfl ?_
    refine Foot.step (State.cenSend_foot ..) rfl ?_
    exact Foot.refl

theorem State.beaconRx_foot (s : State) (lane : Nat) (f : Frame) : Foot 10485979 s (State.beaconRx s lane f) := by
  unfold State.beaconRx
  refine Foot.ite ?_ ?_
  · exact Foot.refl
  · extract_lets y0_0 y0_1 y0_2 y0_3 y0_4
    have h_y0_0 : Foot 10485979 s y0_0 := by
      unfold y0_0
      refine Foot.step (State.put_foot ..) rfl ?_
      refine Foot.step (State.headMeet_foot ..) rfl ?_
      exact Foot.refl
    clear_value y0_0
    clear_value y0_1
    have h_y0_2 : Foot 10485979 s y0_2 := by
      unfold y0_2
      refine Foot.set_rpe rfl ?_
      exact h_y0_0
    clear_value y0_2
    clear_value y0_3
    have h_y0_4 : Foot 10485979 s y0_4 := by
      unfold y0_4
      refine Foot.when ?_ ?_
      · intro a1_0
        refine Foot.step (State.put_foot ..) rfl ?_
        exact Foot.refl
      · exact h_y0_2
    clear_value y0_4
    refine Foot.ite ?_ ?_
    · refine Foot.step (State.noteOnBeacon_foot ..) rfl ?_
      exact h_y0_4
    · exact h_y0_4

theorem State.noteRx_foot (s : State) : Foot 1 s (State.noteRx s) := by
  unfold State.noteRx
  refine Foot.ite ?_ ?_
  · refine Foot.step (State.put_foot ..) rfl ?_
    exact Foot.refl
  · exact Foot.refl

theorem State.cenRx_foot (s : State) (lane : Nat) (f : Frame) : Foot 10748123 s (State.cenRx s lane f) := by
  unfold State.cenRx
  refine Foot.ite ?_ ?_
  · exact Foot.refl
  · split
    · refine Foot.step (State.callRx_foot ..) rfl ?_
      exact Foot.refl
    · refine Foot.step (State.assignTake_foot ..) rfl ?_
      exact Foot.refl
    · refine Foot.step (State.beaconRx_foot ..) rfl ?_
      exact Foot.refl
    · refine Foot.step (State.noteRx_foot ..) rfl ?_
      exact Foot.refl
    · exact Foot.refl

theorem State.stackNode_foot (s : State) (node : Nat) : Foot 1 s (State.stackNode s node) := by
  unfold State.stackNode
  refine Foot.ite ?_ ?_
  · exact Foot.refl
  · refine Foot.step (State.put_foot ..) rfl ?_
    refine Foot.step (State.setNode_foot ..) rfl ?_
    exact Foot.refl

theorem execCensusCall_foot (s : State) : FootO 10485979 s (execCensusCall s) := by
  unfold execCensusCall
  refine FootO.next ?_
  refine State.cmd_foot rfl ?_ ?_
  · intro a0_0
    refine Foot.step (State.callStart_foot ..) rfl ?_
    exact Foot.refl
  · exact Foot.refl

theorem execAssign_foot (count : BitVec 8) (s : State) : FootO 10748123 s (execAssign count s) := by
  unfold execAssign
  refine FootO.next ?_
  refine State.cmd_foot rfl ?_ ?_
  · intro a0_0
    refine Foot.step (State.assignSend_foot ..) rfl ?_
    exact Foot.refl
  · exact Foot.refl

theorem execCallRx_foot (lane : Fin 2) (frame : Frame) (s : State) : FootO 10485851 s (execCallRx lane frame s) := by
  unfold execCallRx
  refine FootO.ite ?_ ?_
  · refine FootO.next ?_
    exact Foot.refl
  · refine FootO.next ?_
    refine Foot.step (State.callRx_foot ..) rfl ?_
    exact Foot.refl

theorem execAssignRx_foot (frame : Frame) (s : State) : FootO 10748123 s (execAssignRx frame s) := by
  unfold execAssignRx
  refine FootO.next ?_
  refine Foot.ite ?_ ?_
  · exact Foot.refl
  · refine Foot.step (State.assignTake_foot ..) rfl ?_
    exact Foot.refl

theorem execFloorChange_foot (s : State) : FootO 64 s (execFloorChange s) := by
  unfold execFloorChange
  refine FootO.ite ?_ ?_
  · refine FootO.next ?_
    exact Foot.refl
  · refine FootO.next ?_
    refine Foot.step (State.floorTake_foot ..) rfl ?_
    exact Foot.refl

theorem execCensusTimeout_foot (s : State) : FootO 65 s (execCensusTimeout s) := by
  unfold execCensusTimeout
  refine FootO.ite ?_ ?_
  · refine FootO.next ?_
    exact Foot.refl
  · refine FootO.next ?_
    refine Foot.ite ?_ ?_
    · refine Foot.step (State.put_foot ..) rfl ?_
      refine Foot.set_rpe rfl ?_
      exact Foot.refl
    · exact Foot.refl

theorem execBeaconTx_foot (s : State) : FootO 10485915 s (execBeaconTx s) := by
  unfold execBeaconTx
  refine FootO.next ?_
  refine Foot.ite ?_ ?_
  · extract_lets y0_0
    clear_value y0_0
    refine Foot.step (State.cenSend_foot ..) rfl ?_
    refine Foot.step (State.cenSend_foot ..) rfl ?_
    exact Foot.refl
  · exact Foot.refl

theorem execBeaconRx_foot (lane : Fin 2) (frame : Frame) (s : State) : FootO 10485979 s (execBeaconRx lane frame s) := by
  unfold execBeaconRx
  refine FootO.ite ?_ ?_
  · refine FootO.next ?_
    exact Foot.refl
  · refine FootO.next ?_
    refine Foot.step (State.beaconRx_foot ..) rfl ?_
    exact Foot.refl

theorem execBeaconLost_foot (s : State) : FootO 1 s (execBeaconLost s) := by
  unfold execBeaconLost
  refine FootO.next ?_
  refine Foot.ite ?_ ?_
  · exact Foot.refl
  · refine Foot.step (State.put_foot ..) rfl ?_
    exact Foot.refl

theorem execNoteRx_foot (s : State) : FootO 1 s (execNoteRx s) := by
  unfold execNoteRx
  refine FootO.ite ?_ ?_
  · refine FootO.next ?_
    exact Foot.refl
  · refine FootO.next ?_
    refine Foot.step (State.noteRx_foot ..) rfl ?_
    exact Foot.refl

theorem execStackNodeRx_foot (node : BitVec 8) (s : State) : FootO 1 s (execStackNodeRx node s) := by
  unfold execStackNodeRx
  refine FootO.ite ?_ ?_
  · refine FootO.next ?_
    exact Foot.refl
  · refine FootO.next ?_
    refine Foot.step (State.stackNode_foot ..) rfl ?_
    exact Foot.refl

end Sys2Proof.Machine
end

