-- ==== Sys2Proof/Laws/FootLane.lean ====
section
/-! SUPPORT. The footprints of the operations and meanings of Sys2Proof.Machine.Lane. -/
namespace Sys2Proof.Machine

theorem State.setTrain_foot (s : State) (l st : Nat) : Foot 1 s (State.setTrain s l st) := by
  unfold State.setTrain
  refine Foot.step (State.put_foot ..) rfl ?_
  refine Foot.step (State.put_foot ..) rfl ?_
  exact Foot.refl

theorem State.trainTx_foot (s : State) (l msg target : Nat) : Foot 32 s (State.trainTx s l msg target) := by
  unfold State.trainTx
  refine Foot.ite ?_ ?_
  · exact Foot.refl
  · extract_lets y0_0
    clear_value y0_0
    refine Foot.step (State.sendFilled_foot ..) rfl ?_
    refine Foot.step (State.modLn_foot ..) rfl ?_
    exact Foot.refl

theorem State.detect_foot (s : State) (l : Nat) : Foot 33 s (State.detect s l) := by
  unfold State.detect
  extract_lets y0_0 y0_1
  have h_y0_0 : Foot 33 s y0_0 := by
    unfold y0_0
    refine Foot.step (State.satAdd_foot ..) rfl ?_
    refine Foot.step (State.setTrain_foot ..) rfl ?_
    exact Foot.refl
  clear_value y0_0
  have h_y0_1 : Foot 33 s y0_1 := by
    unfold y0_1
    refine Foot.step (State.put_foot ..) rfl ?_
    refine Foot.step (State.put_foot ..) rfl ?_
    refine Foot.step (State.put_foot ..) rfl ?_
    exact h_y0_0
  clear_value y0_1
  refine Foot.step (State.modLn_foot ..) rfl ?_
  refine Foot.step (State.put_foot ..) rfl ?_
  exact h_y0_1

theorem State.rfStart_foot (s : State) (l cause : Nat) : Foot 32 s (State.rfStart s l cause) := by
  unfold State.rfStart
  extract_lets y0_0
  clear_value y0_0
  refine Foot.step (State.modLn_foot ..) rfl ?_
  exact Foot.refl

theorem State.laneDown_foot (s : State) (l cause : Nat) : Foot 10751163 s (State.laneDown s l cause) := by
  unfold State.laneDown
  extract_lets y0_0 y0_1 y0_2 y0_3 y0_4 y0_5
  clear_value y0_0
  have h_y0_1 : Foot 10751163 s y0_1 := by
    unfold y0_1
    refine Foot.step (State.rfStart_foot ..) rfl ?_
    exact Foot.refl
  clear_value y0_1
  have h_y0_2 : Foot 10751163 s y0_2 := by
    unfold y0_2
    refine Foot.step (State.put_foot ..) rfl ?_
    refine Foot.step (State.put_foot ..) rfl ?_
    refine Foot.step (State.put_foot ..) rfl ?_
    refine Foot.step (State.put_foot ..) rfl ?_
    exact h_y0_1
  clear_value y0_2
  have h_y0_3 : Foot 10751163 s y0_3 := by
    unfold y0_3
    refine Foot.when ?_ ?_
    · intro a1_0
      refine Foot.step (State.fault_foot ..) rfl ?_
      exact Foot.refl
    · refine Foot.step (State.bump_foot ..) rfl ?_
      refine Foot.step (State.put_foot ..) rfl ?_
      exact h_y0_2
  clear_value y0_3
  have h_y0_4 : Foot 10751163 s y0_4 := by
    unfold y0_4
    refine Foot.step (State.detect_foot ..) rfl ?_
    refine Foot.when ?_ ?_
    · intro a1_0
      refine Foot.step (State.put_foot ..) rfl ?_
      exact Foot.refl
    · exact h_y0_3
  clear_value y0_4
  have h_y0_5 : Foot 10751163 s y0_5 := by
    unfold y0_5
    refine Foot.ite ?_ ?_
    · refine Foot.step (State.planEnd_foot ..) rfl ?_
      exact h_y0_4
    · refine Foot.step (State.dirDown_foot ..) rfl ?_
      exact h_y0_4
  clear_value y0_5
  refine Foot.ite ?_ ?_
  · refine Foot.step (State.conflictCheck_foot ..) rfl ?_
    refine Foot.step (State.sendNote_foot ..) rfl ?_
    refine Foot.step (State.pdDown_foot ..) rfl ?_
    exact h_y0_5
  · refine Foot.step (State.pdDown_foot ..) rfl ?_
    exact h_y0_4

theorem State.laneFault_foot (s : State) (l cause : Nat) : Foot 10751163 s (State.laneFault s l cause) := by
  unfold State.laneFault
  refine Foot.step (State.setTrain_foot ..) rfl ?_
  refine Foot.step (State.laneDown_foot ..) rfl ?_
  exact Foot.refl

theorem State.rateFail_foot (s : State) (l : Nat) : Foot 10751163 s (State.rateFail s l) := by
  unfold State.rateFail
  extract_lets y0_0
  have h_y0_0 : Foot 10751163 s y0_0 := by
    unfold y0_0
    refine Foot.step (State.put_foot ..) rfl ?_
    refine Foot.step (State.setBit_foot ..) rfl ?_
    exact Foot.refl
  clear_value y0_0
  refine Foot.ite ?_ ?_
  · refine Foot.step (State.laneFault_foot ..) rfl ?_
    exact h_y0_0
  · refine Foot.step (State.laneDown_foot ..) rfl ?_
    exact h_y0_0

theorem State.longFail_foot (s : State) (l : Nat) : Foot 10751163 s (State.longFail s l) := by
  unfold State.longFail
  refine Foot.step (State.laneFault_foot ..) rfl ?_
  refine Foot.step (State.put_foot ..) rfl ?_
  exact Foot.refl

theorem State.stepTo_foot (s : State) (l target : Nat) : Foot 263329 s (State.stepTo s l target) := by
  unfold State.stepTo
  extract_lets y0_0 y0_1 y0_2
  clear_value y0_0
  have h_y0_1 : Foot 263329 s y0_1 := by
    unfold y0_1
    refine Foot.step (State.modLn_foot ..) rfl ?_
    refine Foot.step (State.put_foot ..) rfl ?_
    refine Foot.step (State.put_foot ..) rfl ?_
    refine Foot.step (State.setTrain_foot ..) rfl ?_
    exact Foot.refl
  clear_value y0_1
  have h_y0_2 : Foot 263329 s y0_2 := by
    unfold y0_2
    refine Foot.step (State.pdDown_foot ..) rfl ?_
    refine Foot.step (State.modLn_foot ..) rfl ?_
    refine Foot.step (State.put_foot ..) rfl ?_
    refine Foot.step (State.put_foot ..) rfl ?_
    exact h_y0_1
  clear_value y0_2
  refine Foot.ite ?_ ?_
  · refine Foot.ite ?_ ?_
    · refine Foot.step (State.dirDown_foot ..) rfl ?_
      exact h_y0_2
    · exact h_y0_2
  · exact h_y0_1

theorem State.laneToUp_foot (s : State) (l : Nat) : Foot 10485947 s (State.laneToUp s l) := by
  unfold State.laneToUp
  extract_lets y0_0 y0_1 y0_2
  clear_value y0_0
  have h_y0_1 : Foot 10485947 s y0_1 := by
    unfold y0_1
    refine Foot.step (State.put_foot ..) rfl ?_
    refine Foot.step (State.put_foot ..) rfl ?_
    refine Foot.step (State.put_foot ..) rfl ?_
    refine Foot.step (State.setTrain_foot ..) rfl ?_
    exact Foot.refl
  clear_value y0_1
  have h_y0_2 : Foot 10485947 s y0_2 := by
    unfold y0_2
    refine Foot.step (State.modLn_foot ..) rfl ?_
    refine Foot.step (State.put_foot ..) rfl ?_
    exact h_y0_1
  clear_value y0_2
  refine Foot.ite ?_ ?_
  · refine Foot.step (State.sendNote_foot ..) rfl ?_
    refine Foot.step (State.dirRight_foot ..) rfl ?_
    exact h_y0_2
  · exact h_y0_2

theorem State.noteCond_foot (s : State) (l : Nat) : Foot 32 s (State.noteCond s l) := by
  unfold State.noteCond
  refine Foot.ite ?_ ?_
  · split
    · exact Foot.refl
    · refine Foot.step (State.modLn_foot ..) rfl ?_
      exact Foot.refl
  · refine Foot.step (State.modLn_foot ..) rfl ?_
    exact Foot.refl

theorem State.peerStore_foot (s : State) (l ver cap rates role mode node seq uid : Nat) : Foot 8390691 s (State.peerStore s l ver cap rates role mode node seq uid) := by
  unfold State.peerStore
  extract_lets y0_0 y0_1
  have h_y0_0 : Foot 8390691 s y0_0 := by
    unfold y0_0
    refine Foot.step (State.put_foot ..) rfl ?_
    refine Foot.step (State.wr_foot ..) rfl ?_
    refine Foot.step (State.wr_foot ..) rfl ?_
    refine Foot.step (State.wr_foot ..) rfl ?_
    exact Foot.refl
  clear_value y0_0
  have h_y0_1 : Foot 8390691 s y0_1 := by
    unfold y0_1
    refine Foot.step (State.modLn_foot ..) rfl ?_
    exact h_y0_0
  clear_value y0_1
  refine Foot.ite ?_ ?_
  · refine Foot.step (State.pairCheck_foot ..) rfl ?_
    refine Foot.step (State.conflictCheck_foot ..) rfl ?_
    exact h_y0_1
  · exact h_y0_1

theorem State.roleFault_foot (s : State) (l role : Nat) : Foot 10751163 s (State.roleFault s l role) := by
  unfold State.roleFault
  extract_lets y0_0
  have h_y0_0 : Foot 10751163 s y0_0 := by
    unfold y0_0
    refine Foot.step (State.put_foot ..) rfl ?_
    refine Foot.step (State.laneFault_foot ..) rfl ?_
    exact Foot.refl
  clear_value y0_0
  refine Foot.ite ?_ ?_
  · refine Foot.step (State.fault_foot ..) rfl ?_
    exact h_y0_0
  · refine Foot.step (State.fault_foot ..) rfl ?_
    exact h_y0_0

theorem State.helloGo_foot (s : State) (l : Nat) : Foot 10751163 s (State.helloGo s l) := by
  unfold State.helloGo
  extract_lets y0_0 y0_1 y0_2
  have h_y0_0 : Foot 10751163 s y0_0 := by
    unfold y0_0
    refine Foot.step (State.noteCond_foot ..) rfl ?_
    exact Foot.refl
  clear_value y0_0
  clear_value y0_1
  have h_y0_2 : Foot 10751163 s y0_2 := by
    unfold y0_2
    refine Foot.step (State.put_foot ..) rfl ?_
    exact h_y0_0
  clear_value y0_2
  refine Foot.ite ?_ ?_
  · refine Foot.step (State.longFail_foot ..) rfl ?_
    exact h_y0_0
  · refine Foot.ite ?_ ?_
    · refine Foot.step (State.setTrain_foot ..) rfl ?_
      exact h_y0_2
    · refine Foot.step (State.stepTo_foot ..) rfl ?_
      exact h_y0_2

theorem State.rateLost_foot (s : State) (l : Nat) : Foot 10751163 s (State.rateLost s l) := by
  unfold State.rateLost
  refine Foot.ite ?_ ?_
  · refine Foot.step (State.longFail_foot ..) rfl ?_
    exact Foot.refl
  · refine Foot.step (State.stepTo_foot ..) rfl ?_
    exact Foot.refl

theorem State.helloRx_foot (s : State) (l ver cap rates role mode node seq uid : Nat) : Foot 10751163 s (State.helloRx s l ver cap rates role mode node seq uid) := by
  unfold State.helloRx
  extract_lets y0_0 y0_1 y0_2
  clear_value y0_0
  clear_value y0_1
  have h_y0_2 : Foot 10751163 s y0_2 := by
    unfold y0_2
    refine Foot.step (State.peerStore_foot ..) rfl ?_
    exact Foot.refl
  clear_value y0_2
  refine Foot.ite ?_ ?_
  · exact Foot.refl
  · refine Foot.ite ?_ ?_
    · refine Foot.step (State.laneDown_foot ..) rfl ?_
      refine Foot.step (State.put_foot ..) rfl ?_
      exact h_y0_2
    · refine Foot.ite ?_ ?_
      · refine Foot.step (State.roleFault_foot ..) rfl ?_
        exact h_y0_2
      · refine Foot.ite ?_ ?_
        · refine Foot.step (State.helloGo_foot ..) rfl ?_
          exact h_y0_2
        · refine Foot.ite ?_ ?_
          · refine Foot.step (State.rateLost_foot ..) rfl ?_
            exact h_y0_2
          · refine Foot.ite ?_ ?_
            · refine Foot.step (State.noteCond_foot ..) rfl ?_
              exact h_y0_2
            · exact h_y0_2

theorem State.laneApply_foot (s old : State) (l : Nat) (first : Bool) : Foot 10751163 s (State.laneApply s old l first) := by
  unfold State.laneApply
  extract_lets y0_0 y0_1 y0_2 y0_3 y0_4
  clear_value y0_0
  have h_y0_1 : Foot 10751163 s y0_1 := by
    unfold y0_1
    refine Foot.step (State.put_foot ..) rfl ?_
    exact Foot.refl
  clear_value y0_1
  clear_value y0_2
  have h_y0_3 : Foot 10751163 s y0_3 := by
    unfold y0_3
    refine Foot.ite ?_ ?_
    · refine Foot.step (State.put_foot ..) rfl ?_
      exact h_y0_1
    · exact h_y0_1
  clear_value y0_3
  have h_y0_4 : Foot 10751163 s y0_4 := by
    unfold y0_4
    refine Foot.ite ?_ ?_
    · refine Foot.step (State.laneDown_foot ..) rfl ?_
      exact h_y0_3
    · exact h_y0_3
  clear_value y0_4
  refine Foot.ite ?_ ?_
  · exact h_y0_1
  · refine Foot.ite ?_ ?_
    · refine Foot.step (State.put_foot ..) rfl ?_
      refine Foot.step (State.setTrain_foot ..) rfl ?_
      exact h_y0_4
    · refine Foot.ite ?_ ?_
      · exact h_y0_4
      · refine Foot.ite ?_ ?_
        · refine Foot.step (State.detect_foot ..) rfl ?_
          refine Foot.step (State.put_foot ..) rfl ?_
          exact h_y0_4
        · refine Foot.ite ?_ ?_
          · refine Foot.step (State.detect_foot ..) rfl ?_
            exact h_y0_4
          · exact h_y0_4

theorem State.laneIdle_foot (s : State) (l : Nat) : Foot 10751163 s (State.laneIdle s l) := by
  unfold State.laneIdle
  refine Foot.ite ?_ ?_
  · refine Foot.step (State.laneDown_foot ..) rfl ?_
    exact Foot.refl
  · exact Foot.refl

theorem State.laneReset_foot (s : State) (l : Nat) : Foot 8390691 s (State.laneReset s l) := by
  unfold State.laneReset
  extract_lets y0_0 y0_1 y0_2
  clear_value y0_0
  have h_y0_1 : Foot 8390691 s y0_1 := by
    unfold y0_1
    refine Foot.each ?_ ?_
    · intro a1_0 a1_1
      refine Foot.step (State.clr_foot ..) rfl ?_
      exact Foot.refl
    · exact Foot.refl
  clear_value y0_1
  have h_y0_2 : Foot 8390691 s y0_2 := by
    unfold y0_2
    refine Foot.step (State.modLn_foot ..) rfl ?_
    refine Foot.step (State.put_foot ..) rfl ?_
    exact h_y0_1
  clear_value y0_2
  refine Foot.ite ?_ ?_
  · refine Foot.step (State.conflictCheck_foot ..) rfl ?_
    exact h_y0_2
  · exact h_y0_2

theorem State.refclkGone_foot (s : State) : Foot 10751163 s (State.refclkGone s) := by
  unfold State.refclkGone
  refine Foot.each ?_ ?_
  · intro a0_0 a0_1
    refine Foot.ite ?_ ?_
    · refine Foot.step (State.put_foot ..) rfl ?_
      refine Foot.step (State.put_foot ..) rfl ?_
      refine Foot.ite ?_ ?_
      · refine Foot.step (State.put_foot ..) rfl ?_
        refine Foot.step (State.put_foot ..) rfl ?_
        exact Foot.refl
      · exact Foot.refl
    · refine Foot.ite ?_ ?_
      · refine Foot.step (State.laneDown_foot ..) rfl ?_
        exact Foot.refl
      · refine Foot.ite ?_ ?_
        · extract_lets y1_0 y1_1
          clear_value y1_0
          have h_y1_1 : Foot 10751163 a0_0 y1_1 := by
            unfold y1_1
            refine Foot.step (State.detect_foot ..) rfl ?_
            refine Foot.step (State.put_foot ..) rfl ?_
            exact Foot.refl
          clear_value y1_1
          refine Foot.ite ?_ ?_
          · refine Foot.step (State.planEnd_foot ..) rfl ?_
            exact h_y1_1
          · exact h_y1_1
        · exact Foot.refl
  · exact Foot.refl

theorem State.laneRelease_foot (s : State) (l : Nat) : Foot 33 s (State.laneRelease s l) := by
  unfold State.laneRelease
  extract_lets y0_0
  have h_y0_0 : Foot 33 s y0_0 := by
    unfold y0_0
    refine Foot.step (State.put_foot ..) rfl ?_
    exact Foot.refl
  clear_value y0_0
  refine Foot.ite ?_ ?_
  · refine Foot.step (State.detect_foot ..) rfl ?_
    exact h_y0_0
  · exact h_y0_0

theorem execSignalDetect_foot (lane : Fin 4) (present : Bool) (s : State) : FootO 1 s (execSignalDetect lane present s) := by
  unfold execSignalDetect
  extract_lets y0_0 y0_1
  clear_value y0_0
  have h_y0_1 : Foot 1 s y0_1 := by
    unfold y0_1
    refine Foot.step (State.put_foot ..) rfl ?_
    exact Foot.refl
  clear_value y0_1
  refine FootO.next ?_
  refine Foot.ite ?_ ?_
  · exact Foot.refl
  · refine Foot.ite ?_ ?_
    · refine Foot.step (State.setTrain_foot ..) rfl ?_
      exact h_y0_1
    · exact h_y0_1

theorem execCdrLock_foot (lane : Fin 4) (ctle : BitVec 4) (dfe : BitVec 30) (s : State) : FootO 33 s (execCdrLock lane ctle dfe s) := by
  unfold execCdrLock
  extract_lets y0_0 y0_1 y0_2 y0_3
  clear_value y0_0
  have h_y0_1 : Foot 33 s y0_1 := by
    unfold y0_1
    refine Foot.when ?_ ?_
    · intro a1_0
      refine Foot.step (State.put_foot ..) rfl ?_
      exact Foot.refl
    · exact Foot.refl
  clear_value y0_1
  have h_y0_2 : Foot 33 s y0_2 := by
    unfold y0_2
    refine Foot.when ?_ ?_
    · intro a1_0
      refine Foot.step (State.wr_foot ..) rfl ?_
      exact Foot.refl
    · exact h_y0_1
  clear_value y0_2
  have h_y0_3 : Foot 33 s y0_3 := by
    unfold y0_3
    refine Foot.step (State.put_foot ..) rfl ?_
    refine Foot.step (State.put_foot ..) rfl ?_
    refine Foot.step (State.clr_foot ..) rfl ?_
    exact h_y0_2
  clear_value y0_3
  refine FootO.next ?_
  refine Foot.ite ?_ ?_
  · refine Foot.step (State.modLn_foot ..) rfl ?_
    refine Foot.step (State.setTrain_foot ..) rfl ?_
    refine Foot.step (State.put_foot ..) rfl ?_
    exact h_y0_3
  · exact Foot.refl

theorem State.adapt_foot (s : State) (l : Nat) : Foot 1 s (State.adapt s l) := by
  unfold State.adapt
  refine Foot.ite ?_ ?_
  · refine Foot.when ?_ ?_
    · intro a0_0
      refine Foot.step (State.wr_foot ..) rfl ?_
      exact Foot.refl
    · refine Foot.when ?_ ?_
      · intro a0_0
        refine Foot.step (State.put_foot ..) rfl ?_
        exact Foot.refl
      · exact Foot.refl
  · exact Foot.refl

theorem State.rxeqWrite_foot (s : State) (l : Nat) (w : Word) : Foot 33 s (State.rxeqWrite s l w) := by
  unfold State.rxeqWrite
  extract_lets y0_0 y0_1
  have h_y0_0 : Foot 33 s y0_0 := by
    unfold y0_0
    refine Foot.step (State.adapt_foot ..) rfl ?_
    exact Foot.refl
  clear_value y0_0
  have h_y0_1 : Foot 33 s y0_1 := by
    unfold y0_1
    refine Foot.step (State.put_foot ..) rfl ?_
    refine Foot.step (State.put_foot ..) rfl ?_
    exact h_y0_0
  clear_value y0_1
  refine Foot.step (State.modLn_foot ..) rfl ?_
  exact h_y0_1

theorem State.alignSlip_foot (s : State) (l : Nat) : Foot 33 s (State.alignSlip s l) := by
  unfold State.alignSlip
  refine Foot.ite ?_ ?_
  · refine Foot.step (State.modLn_foot ..) rfl ?_
    refine Foot.step (State.put_foot ..) rfl ?_
    refine Foot.step (State.put_foot ..) rfl ?_
    refine Foot.step (State.put_foot ..) rfl ?_
    refine Foot.step (State.put_foot ..) rfl ?_
    exact Foot.refl
  · exact Foot.refl

theorem State.alignDone_foot (s : State) (l : Nat) : Foot 1 s (State.alignDone s l) := by
  unfold State.alignDone
  refine Foot.ite ?_ ?_
  · refine Foot.step (State.setTrain_foot ..) rfl ?_
    exact Foot.refl
  · exact Foot.refl

theorem execAlignSlip_foot (lane : Fin 4) (s : State) : FootO 8388643 s (execAlignSlip lane s) := by
  unfold execAlignSlip
  refine FootO.next ?_
  refine State.cmd_foot rfl ?_ ?_
  · intro a0_0
    refine Foot.step (State.alignSlip_foot ..) rfl ?_
    exact Foot.refl
  · exact Foot.refl

theorem execAlignWindow_foot (lane : Fin 4) (hdrs : BitVec 32) (s : State) : FootO 33 s (execAlignWindow lane hdrs s) := by
  unfold execAlignWindow
  extract_lets y0_0 y0_1 y0_2 y0_3
  clear_value y0_0
  clear_value y0_1
  clear_value y0_2
  have h_y0_3 : Foot 33 s y0_3 := by
    unfold y0_3
    refine Foot.step (State.modLn_foot ..) rfl ?_
    refine Foot.step (State.put_foot ..) rfl ?_
    refine Foot.step (State.put_foot ..) rfl ?_
    exact Foot.refl
  clear_value y0_3
  refine FootO.next ?_
  refine Foot.ite ?_ ?_
  · refine Foot.when ?_ ?_
    · intro a1_0
      refine Foot.step (State.put_foot ..) rfl ?_
      refine Foot.step (State.put_foot ..) rfl ?_
      exact Foot.refl
    · exact h_y0_3
  · exact Foot.refl

theorem execAlignDone_foot (lane : Fin 4) (s : State) : FootO 8388611 s (execAlignDone lane s) := by
  unfold execAlignDone
  refine FootO.next ?_
  refine State.cmd_foot rfl ?_ ?_
  · intro a0_0
    refine Foot.step (State.alignDone_foot ..) rfl ?_
    exact Foot.refl
  · exact Foot.refl

theorem execAlignTimeout_foot (lane : Fin 4) (s : State) : FootO 10751163 s (execAlignTimeout lane s) := by
  unfold execAlignTimeout
  extract_lets y0_0
  clear_value y0_0
  refine FootO.next ?_
  refine Foot.ite ?_ ?_
  · refine Foot.ite ?_ ?_
    · refine Foot.step (State.rateFail_foot ..) rfl ?_
      exact Foot.refl
    · refine Foot.step (State.laneDown_foot ..) rfl ?_
      exact Foot.refl
  · exact Foot.refl

theorem execHelloTx_foot (lane : Fin 4) (s : State) : FootO 32 s (execHelloTx lane s) := by
  unfold execHelloTx
  extract_lets y0_0
  clear_value y0_0
  refine FootO.next ?_
  refine Foot.ite ?_ ?_
  · exact Foot.refl
  · refine Foot.step (State.trainTx_foot ..) rfl ?_
    exact Foot.refl

theorem execHello_foot (lane : Fin 4) (ver cap rates role mode node : BitVec 8) (seq : BitVec 16) (uid : BitVec 48) (s : State) : FootO 10751163 s (execHello lane ver cap rates role mode node seq uid s) := by
  unfold execHello
  refine FootO.next ?_
  refine Foot.step (State.helloRx_foot ..) rfl ?_
  exact Foot.refl

theorem execRateReqTx_foot (lane : Fin 4) (s : State) : FootO 32 s (execRateReqTx lane s) := by
  unfold execRateReqTx
  refine FootO.next ?_
  refine Foot.ite ?_ ?_
  · refine Foot.step (State.trainTx_foot ..) rfl ?_
    exact Foot.refl
  · exact Foot.refl

theorem State.rateReqRx_foot (s : State) (l target : Nat) : Foot 33 s (State.rateReqRx s l target) := by
  unfold State.rateReqRx
  refine Foot.ite ?_ ?_
  · refine Foot.ite ?_ ?_
    · refine Foot.step (State.modLn_foot ..) rfl ?_
      refine Foot.step (State.trainTx_foot ..) rfl ?_
      exact Foot.refl
    · refine Foot.step (State.setTrain_foot ..) rfl ?_
      refine Foot.step (State.trainTx_foot ..) rfl ?_
      exact Foot.refl
  · exact Foot.refl

theorem State.rateAckRx_foot (s : State) (l target : Nat) : Foot 32 s (State.rateAckRx s l target) := by
  unfold State.rateAckRx
  refine Foot.ite ?_ ?_
  · refine Foot.step (State.modLn_foot ..) rfl ?_
    exact Foot.refl
  · exact Foot.refl

theorem State.rateNakRx_foot (s : State) (l : Nat) : Foot 1 s (State.rateNakRx s l) := by
  unfold State.rateNakRx
  refine Foot.ite ?_ ?_
  · refine Foot.step (State.setTrain_foot ..) rfl ?_
    exact Foot.refl
  · exact Foot.refl

theorem execRateReq_foot (lane : Fin 4) (target : BitVec 8) (s : State) : FootO 33 s (execRateReq lane target s) := by
  unfold execRateReq
  refine FootO.next ?_
  refine Foot.step (State.rateReqRx_foot ..) rfl ?_
  exact Foot.refl

theorem execRateAck_foot (lane : Fin 4) (target : BitVec 8) (s : State) : FootO 32 s (execRateAck lane target s) := by
  unfold execRateAck
  refine FootO.next ?_
  refine Foot.step (State.rateAckRx_foot ..) rfl ?_
  exact Foot.refl

theorem execRateNak_foot (lane : Fin 4) (s : State) : FootO 1 s (execRateNak lane s) := by
  unfold execRateNak
  refine FootO.next ?_
  refine Foot.step (State.rateNakRx_foot ..) rfl ?_
  exact Foot.refl

theorem execPllRelock_foot (lane : Fin 4) (s : State) : FootO 33 s (execPllRelock lane s) := by
  unfold execPllRelock
  extract_lets y0_0 y0_1
  clear_value y0_0
  have h_y0_1 : Foot 33 s y0_1 := by
    unfold y0_1
    refine Foot.step (State.put_foot ..) rfl ?_
    refine Foot.step (State.put_foot ..) rfl ?_
    refine Foot.step (State.put_foot ..) rfl ?_
    refine Foot.step (State.put_foot ..) rfl ?_
    exact Foot.refl
  clear_value y0_1
  refine FootO.next ?_
  refine Foot.ite ?_ ?_
  · refine Foot.step (State.modLn_foot ..) rfl ?_
    refine Foot.step (State.setTrain_foot ..) rfl ?_
    exact h_y0_1
  · exact Foot.refl

theorem execQualifyDone_foot (lane : Fin 4) (s : State) : FootO 10485947 s (execQualifyDone lane s) := by
  unfold execQualifyDone
  refine FootO.next ?_
  refine Foot.ite ?_ ?_
  · refine Foot.step (State.laneToUp_foot ..) rfl ?_
    exact Foot.refl
  · exact Foot.refl

theorem execTrainTimeout_foot (lane : Fin 4) (s : State) : FootO 10751163 s (execTrainTimeout lane s) := by
  unfold execTrainTimeout
  extract_lets y0_0
  clear_value y0_0
  refine FootO.next ?_
  refine Foot.ite ?_ ?_
  · refine Foot.ite ?_ ?_
    · refine Foot.step (State.rateFail_foot ..) rfl ?_
      exact Foot.refl
    · refine Foot.step (State.laneDown_foot ..) rfl ?_
      exact Foot.refl
  · exact Foot.refl

theorem execStepCondition_foot (lane : Fin 4) (s : State) : FootO 10751163 s (execStepCondition lane s) := by
  unfold execStepCondition
  extract_lets y0_0 y0_1
  clear_value y0_0
  have h_y0_1 : Foot 10751163 s y0_1 := by
    unfold y0_1
    refine Foot.step (State.noteCond_foot ..) rfl ?_
    exact Foot.refl
  clear_value y0_1
  refine FootO.next ?_
  refine Foot.ite ?_ ?_
  · refine Foot.ite ?_ ?_
    · refine Foot.step (State.rateLost_foot ..) rfl ?_
      exact h_y0_1
    · refine Foot.ite ?_ ?_
      · refine Foot.step (State.stepTo_foot ..) rfl ?_
        exact h_y0_1
      · exact h_y0_1
  · exact Foot.refl

theorem execRateFailHoldoff_foot (lane : Fin 4) (s : State) : FootO 33 s (execRateFailHoldoff lane s) := by
  unfold execRateFailHoldoff
  refine FootO.next ?_
  refine Foot.ite ?_ ?_
  · refine Foot.step (State.detect_foot ..) rfl ?_
    exact Foot.refl
  · exact Foot.refl

theorem execLaneDown_foot (lane : Fin 4) (cause : Fin 3) (s : State) : FootO 10751163 s (execLaneDown lane cause s) := by
  unfold execLaneDown
  extract_lets y0_0
  clear_value y0_0
  refine FootO.next ?_
  refine Foot.ite ?_ ?_
  · refine Foot.step (State.laneDown_foot ..) rfl ?_
    refine Foot.when ?_ ?_
    · intro a1_0
      refine Foot.step (State.put_foot ..) rfl ?_
      exact Foot.refl
    · exact Foot.refl
  · exact Foot.refl

theorem State.rfRx_foot (s : State) (l cause : Nat) : Foot 262305 s (State.rfRx s l cause) := by
  unfold State.rfRx
  refine Foot.ite ?_ ?_
  · extract_lets y0_0 y0_1
    have h_y0_0 : Foot 262305 s y0_0 := by
      unfold y0_0
      refine Foot.step (State.modLn_foot ..) rfl ?_
      exact Foot.refl
    clear_value y0_0
    have h_y0_1 : Foot 262305 s y0_1 := by
      unfold y0_1
      refine Foot.step (State.put_foot ..) rfl ?_
      refine Foot.step (State.put_foot ..) rfl ?_
      exact h_y0_0
    clear_value y0_1
    refine Foot.ite ?_ ?_
    · exact h_y0_0
    · refine Foot.ite ?_ ?_
      · refine Foot.step (State.dirDown_foot ..) rfl ?_
        exact h_y0_1
      · exact h_y0_1
  · exact Foot.refl

theorem State.rfEnd_foot (s : State) (l : Nat) : Foot 10485915 s (State.rfEnd s l) := by
  unfold State.rfEnd
  refine Foot.ite ?_ ?_
  · extract_lets y0_0
    have h_y0_0 : Foot 10485915 s y0_0 := by
      unfold y0_0
      refine Foot.step (State.put_foot ..) rfl ?_
      exact Foot.refl
    clear_value y0_0
    refine Foot.ite ?_ ?_
    · refine Foot.step (State.dirRight_foot ..) rfl ?_
      exact h_y0_0
    · exact h_y0_0
  · exact Foot.refl

theorem execRfRx_foot (lane : Fin 4) (cause : BitVec 8) (s : State) : FootO 262305 s (execRfRx lane cause s) := by
  unfold execRfRx
  refine FootO.next ?_
  refine Foot.step (State.rfRx_foot ..) rfl ?_
  exact Foot.refl

theorem execRfClear_foot (lane : Fin 4) (s : State) : FootO 10485915 s (execRfClear lane s) := by
  unfold execRfClear
  refine FootO.next ?_
  refine Foot.step (State.rfEnd_foot ..) rfl ?_
  exact Foot.refl

theorem execV1ProbeSwitch_foot (lane : Fin 4) (s : State) : FootO 1 s (execV1ProbeSwitch lane s) := by
  unfold execV1ProbeSwitch
  extract_lets y0_0
  clear_value y0_0
  refine FootO.next ?_
  refine Foot.ite ?_ ?_
  · refine Foot.step (State.put_foot ..) rfl ?_
    exact Foot.refl
  · exact Foot.refl

theorem execHostLinkState_foot (cdr blk fault : Bool) (s : State) : FootO 1 s (execHostLinkState cdr blk fault s) := by
  unfold execHostLinkState
  extract_lets y0_0 y0_1 y0_2 y0_3
  clear_value y0_0
  clear_value y0_1
  clear_value y0_2
  have h_y0_3 : Foot 1 s y0_3 := by
    unfold y0_3
    refine Foot.step (State.put_foot ..) rfl ?_
    refine Foot.step (State.put_foot ..) rfl ?_
    refine Foot.step (State.put_foot ..) rfl ?_
    exact Foot.refl
  clear_value y0_3
  refine FootO.next ?_
  refine Foot.ite ?_ ?_
  · refine Foot.ite ?_ ?_
    · exact h_y0_3
    · refine Foot.step (State.put_foot ..) rfl ?_
      exact h_y0_3
  · exact Foot.refl

theorem State.eyeWrite_foot (s : State) (l : Nat) (w : Word) : Foot 1 s (State.eyeWrite s l w) := by
  unfold State.eyeWrite
  refine Foot.ite ?_ ?_
  · exact Foot.refl
  · extract_lets y0_0
    have h_y0_0 : Foot 1 s y0_0 := by
      unfold y0_0
      refine Foot.step (State.wr_foot ..) rfl ?_
      exact Foot.refl
    clear_value y0_0
    refine Foot.ite ?_ ?_
    · refine Foot.step (State.put_foot ..) rfl ?_
      refine Foot.step (State.put_foot ..) rfl ?_
      exact h_y0_0
    · exact h_y0_0

theorem execEyeStart_foot (lane : Fin 4) (ctl : Word) (s : State) : FootO 8388611 s (execEyeStart lane ctl s) := by
  unfold execEyeStart
  refine FootO.next ?_
  refine State.cmd_foot rfl ?_ ?_
  · intro a0_0
    refine Foot.step (State.eyeWrite_foot ..) rfl ?_
    exact Foot.refl
  · exact Foot.refl

theorem execEyeDone_foot (lane : Fin 4) (errs : Word) (s : State) : FootO 1 s (execEyeDone lane errs s) := by
  unfold execEyeDone
  extract_lets y0_0
  clear_value y0_0
  refine FootO.next ?_
  refine Foot.ite ?_ ?_
  · refine Foot.step (State.put_foot ..) rfl ?_
    refine Foot.step (State.put_foot ..) rfl ?_
    refine Foot.step (State.put_foot ..) rfl ?_
    refine Foot.step (State.put_foot ..) rfl ?_
    exact Foot.refl
  · exact Foot.refl

theorem State.patWrite_foot (s : State) (l : Nat) (w : Word) : Foot 10751163 s (State.patWrite s l w) := by
  unfold State.patWrite
  extract_lets y0_0 y0_1 y0_2 y0_3 y0_4 y0_5 y0_6 y0_7
  clear_value y0_0
  have h_y0_1 : Foot 10751163 s y0_1 := by
    unfold y0_1
    refine Foot.step (State.wr_foot ..) rfl ?_
    exact Foot.refl
  clear_value y0_1
  clear_value y0_2
  have h_y0_3 : Foot 10751163 s y0_3 := by
    unfold y0_3
    refine Foot.when ?_ ?_
    · intro a1_0
      refine Foot.step (State.modLn_foot ..) rfl ?_
      exact Foot.refl
    · refine Foot.when ?_ ?_
      · intro a1_0
        refine Foot.step (State.chkSeed_foot ..) rfl ?_
        exact Foot.refl
      · exact h_y0_1
  clear_value y0_3
  clear_value y0_4
  clear_value y0_5
  have h_y0_6 : Foot 10751163 s y0_6 := by
    unfold y0_6
    refine Foot.ite ?_ ?_
    · refine Foot.step (State.laneDown_foot ..) rfl ?_
      exact h_y0_3
    · exact h_y0_3
  clear_value y0_6
  have h_y0_7 : Foot 10751163 s y0_7 := by
    unfold y0_7
    refine Foot.step (State.modLn_foot ..) rfl ?_
    exact h_y0_3
  clear_value y0_7
  refine Foot.ite ?_ ?_
  · refine Foot.step (State.modLn_foot ..) rfl ?_
    refine Foot.step (State.put_foot ..) rfl ?_
    refine Foot.step (State.setTrain_foot ..) rfl ?_
    exact h_y0_6
  · refine Foot.ite ?_ ?_
    · refine Foot.ite ?_ ?_
      · refine Foot.step (State.detect_foot ..) rfl ?_
        exact h_y0_7
      · exact h_y0_7
    · exact h_y0_3

theorem State.patReq_foot (s : State) (l : Nat) (w : Word) : Foot 10751163 s (State.patReq s l w) := by
  unfold State.patReq
  refine Foot.step (State.patWrite_foot ..) rfl ?_
  refine Foot.set_tst rfl ?_
  exact Foot.refl

theorem execPatCtlWrite_foot (lane : Fin 4) (ctl : Word) (checked errored : BitVec 48) (s : State) : FootO 10751163 s (execPatCtlWrite lane ctl checked errored s) := by
  unfold execPatCtlWrite
  refine FootO.next ?_
  refine State.cmd_foot rfl ?_ ?_
  · intro a0_0
    refine Foot.step (State.patReq_foot ..) rfl ?_
    refine Foot.step (State.patCount_foot ..) rfl ?_
    exact Foot.refl
  · exact Foot.refl

theorem execChkLock_foot (lane : Fin 4) (s : State) : FootO 1 s (execChkLock lane s) := by
  unfold execChkLock
  refine FootO.next ?_
  refine Foot.ite ?_ ?_
  · refine Foot.step (State.put_foot ..) rfl ?_
    exact Foot.refl
  · exact Foot.refl

theorem execPatLockLost_foot (lane : Fin 4) (checked errored : BitVec 48) (s : State) : FootO 35 s (execPatLockLost lane checked errored s) := by
  unfold execPatLockLost
  extract_lets y0_0
  clear_value y0_0
  refine FootO.next ?_
  refine Foot.ite ?_ ?_
  · refine Foot.step (State.chkLost_foot ..) rfl ?_
    refine Foot.step (State.patCount_foot ..) rfl ?_
    exact Foot.refl
  · exact Foot.refl

theorem State.badHeader_foot (s : State) (l : Nat) : Foot 35 s (State.badHeader s l) := by
  unfold State.badHeader
  extract_lets y0_0 y0_1
  have h_y0_0 : Foot 35 s y0_0 := by
    unfold y0_0
    refine Foot.when ?_ ?_
    · intro a1_0
      refine Foot.step (State.bump_foot ..) rfl ?_
      exact Foot.refl
    · exact Foot.refl
  clear_value y0_0
  have h_y0_1 : Foot 35 s y0_1 := by
    unfold y0_1
    refine Foot.ite ?_ ?_
    · refine Foot.step (State.bump_foot ..) rfl ?_
      refine Foot.step (State.modLn_foot ..) rfl ?_
      exact h_y0_0
    · exact h_y0_0
  clear_value y0_1
  refine Foot.ite ?_ ?_
  · refine Foot.step (State.setTrain_foot ..) rfl ?_
    exact h_y0_1
  · exact h_y0_1

theorem execInvalidSyncHeader_foot (lane : Fin 4) (s : State) : FootO 35 s (execInvalidSyncHeader lane s) := by
  unfold execInvalidSyncHeader
  refine FootO.next ?_
  refine Foot.ite ?_ ?_
  · exact Foot.refl
  · refine Foot.step (State.badHeader_foot ..) rfl ?_
    exact Foot.refl

end Sys2Proof.Machine
end

