-- ==== Sys2Proof/Laws/FootProof.lean ====
section
/-! SUPPORT. The footprints of the operations and meanings of Sys2Proof.Machine.Proof. -/
namespace Sys2Proof.Machine

theorem State.proofRecord_foot (s : State) (k r : Nat) : Foot 8388611 s (State.proofRecord s k r) := by
  unfold State.proofRecord
  extract_lets y0_0
  have h_y0_0 : Foot 8388611 s y0_0 := by
    unfold y0_0
    refine Foot.step (State.put_foot ..) rfl ?_
    exact Foot.refl
  clear_value y0_0
  refine Foot.ite ?_ ?_
  · refine Foot.step (State.fault_foot ..) rfl ?_
    exact h_y0_0
  · exact h_y0_0

theorem State.proofDone_foot (s : State) : Foot 1 s (State.proofDone s) := by
  unfold State.proofDone
  extract_lets y0_0
  have h_y0_0 : Foot 1 s y0_0 := by
    unfold y0_0
    refine Foot.step (State.put_foot ..) rfl ?_
    refine Foot.step (State.put_foot ..) rfl ?_
    exact Foot.refl
  clear_value y0_0
  refine Foot.ite ?_ ?_
  · refine Foot.step (State.put_foot ..) rfl ?_
    exact h_y0_0
  · exact h_y0_0

theorem State.proofPhase_foot (s : State) (p : Nat) : Foot 262144 s (State.proofPhase s p) := by
  unfold State.proofPhase
  refine Foot.set_tst rfl ?_
  exact Foot.refl

theorem State.lanesStart_foot (s : State) : Foot 10751163 s (State.lanesStart s) := by
  unfold State.lanesStart
  extract_lets y0_0 y0_1 y0_2
  clear_value y0_0
  have h_y0_1 : Foot 10751163 s y0_1 := by
    unfold y0_1
    refine Foot.each ?_ ?_
    · intro a1_0 a1_1
      refine Foot.step (State.patWrite_foot ..) rfl ?_
      exact Foot.refl
    · exact Foot.refl
  clear_value y0_1
  clear_value y0_2
  refine Foot.set_tst rfl ?_
  exact h_y0_1

theorem State.lanesStop_foot (s : State) : Foot 10751163 s (State.lanesStop s) := by
  unfold State.lanesStop
  extract_lets y0_0 y0_1
  have h_y0_0 : Foot 10751163 s y0_0 := by
    unfold y0_0
    refine Foot.each ?_ ?_
    · intro a1_0 a1_1
      refine Foot.step (State.patWrite_foot ..) rfl ?_
      exact Foot.refl
    · exact Foot.refl
  clear_value y0_0
  clear_value y0_1
  refine Foot.set_tst rfl ?_
  exact h_y0_0

theorem State.forceWrap_foot (s : State) (d : Nat) : Foot 10748059 s (State.forceWrap s d) := by
  unfold State.forceWrap
  refine Foot.step (State.declareLost_foot ..) rfl ?_
  refine Foot.set_tst rfl ?_
  exact Foot.refl

theorem State.forceCheck_foot (s : State) : Foot 10748059 s (State.forceCheck s) := by
  unfold State.forceCheck
  extract_lets y0_0
  clear_value y0_0
  refine Foot.ite ?_ ?_
  · refine Foot.step (State.forceWrap_foot ..) rfl ?_
    exact Foot.refl
  · exact Foot.refl

theorem State.forceEnd_foot (s : State) : Foot 10748059 s (State.forceEnd s) := by
  unfold State.forceEnd
  split
  · refine Foot.step (State.dirRight_foot ..) rfl ?_
    refine Foot.set_tst rfl ?_
    exact Foot.refl
  · exact Foot.refl

theorem State.wrapResult_foot (s : State) (d : Nat) : Foot 1 s (State.wrapResult s d).1 := by
  unfold State.wrapResult
  extract_lets y0_0 y0_1
  clear_value y0_1
  refine Foot.mk1 ?_
  refine Foot.step (State.put_foot ..) rfl ?_
  exact Foot.refl

theorem State.handYield_foot (s : State) : Foot 264321 s (State.handYield s) := by
  unfold State.handYield
  extract_lets y0_0 y0_1 y0_2
  clear_value y0_0
  clear_value y0_1
  have h_y0_2 : Foot 264321 s y0_2 := by
    unfold y0_2
    refine Foot.step (t := s) (m' := 262272) ⟨rfl, fun i => ⟨i.regs, i.live, i.mem, i.biv, i.flash, i.fltQ, i.dlQ⟩, fun _ => rfl, fun _ => rfl, fun _ => rfl, fun _ => rfl, fun _ => rfl, fun _ => rfl, fun _ => rfl, nofun, fun _ => rfl, fun _ => rfl, fun _ => rfl, fun _ => rfl, fun _ => rfl, fun _ => rfl, fun _ => rfl, fun _ => rfl, fun _ => rfl, fun _ => rfl, nofun, fun _ => rfl, fun _ => rfl, fun _ => rfl, fun _ => rfl, fun _ => rfl, fun _ => rfl, fun _ => rfl, fun _ => rfl, fun _ => rfl, fun _ => rfl⟩ rfl ?_
    exact Foot.refl
  clear_value y0_2
  refine Foot.step (State.yieldAnchor_foot ..) rfl ?_
  exact h_y0_2

theorem State.handStart_foot (s : State) : Foot 264321 s (State.handStart s) := by
  unfold State.handStart
  extract_lets y0_0 y0_1 y0_2
  have h_y0_0 : Foot 264321 s y0_0 := by
    unfold y0_0
    refine Foot.ite ?_ ?_
    · refine Foot.step (State.put_foot ..) rfl ?_
      exact Foot.refl
    · exact Foot.refl
  clear_value y0_0
  clear_value y0_1
  clear_value y0_2
  refine Foot.ite ?_ ?_
  · refine Foot.step (State.handYield_foot ..) rfl ?_
    exact h_y0_0
  · refine Foot.step (t := y0_0) (m' := 262272) ⟨rfl, fun i => ⟨i.regs, i.live, i.mem, i.biv, i.flash, i.fltQ, i.dlQ⟩, fun _ => rfl, fun _ => rfl, fun _ => rfl, fun _ => rfl, fun _ => rfl, fun _ => rfl, fun _ => rfl, nofun, fun _ => rfl, fun _ => rfl, fun _ => rfl, fun _ => rfl, fun _ => rfl, fun _ => rfl, fun _ => rfl, fun _ => rfl, fun _ => rfl, fun _ => rfl, nofun, fun _ => rfl, fun _ => rfl, fun _ => rfl, fun _ => rfl, fun _ => rfl, fun _ => rfl, fun _ => rfl, fun _ => rfl, fun _ => rfl, fun _ => rfl⟩ rfl ?_
    exact h_y0_0

theorem State.sweepsStart_foot (s : State) : Foot 264193 s (State.sweepsStart s) := by
  unfold State.sweepsStart
  extract_lets y0_0 y0_1 y0_2
  clear_value y0_0
  have h_y0_1 : Foot 264193 s y0_1 := by
    unfold y0_1
    refine Foot.each ?_ ?_
    · intro a1_0 a1_1
      refine Foot.step (State.lsSweepStart_foot ..) rfl ?_
      exact Foot.refl
    · exact Foot.refl
  clear_value y0_1
  clear_value y0_2
  refine Foot.set_tst rfl ?_
  exact h_y0_1

theorem State.proofBegin_foot (s : State) (k : Nat) : Foot 10751163 s (State.proofBegin s k).1 := by
  unfold State.proofBegin
  extract_lets y0_0
  have h_y0_0 : Foot 10751163 s y0_0 := by
    unfold y0_0
    refine Foot.step (State.proofPhase_foot ..) rfl ?_
    refine Foot.step (State.put_foot ..) rfl ?_
    exact Foot.refl
  clear_value y0_0
  split
  · refine Foot.mk1 ?_
    refine Foot.step (State.lanesStart_foot ..) rfl ?_
    exact h_y0_0
  · refine Foot.mk1 ?_
    refine Foot.step (State.forceCheck_foot ..) rfl ?_
    exact h_y0_0
  · refine Foot.mk1 ?_
    refine Foot.step (State.forceCheck_foot ..) rfl ?_
    exact h_y0_0
  · refine Foot.ite1 ?_ ?_
    · refine Foot.mk1 ?_
      refine Foot.step (State.handStart_foot ..) rfl ?_
      exact h_y0_0
    · refine Foot.mk1 ?_
      exact h_y0_0
  · refine Foot.mk1 ?_
    refine Foot.step (State.sweepsStart_foot ..) rfl ?_
    exact h_y0_0
  · refine Foot.mk1 ?_
    exact h_y0_0

theorem State.proofFrom_foot (n : Nat) : ∀ (s : State) (k : Nat), Foot 10751163 s (State.proofFrom s k n) := by
  induction n with
  | zero => intro s k; exact Foot.step (State.proofDone_foot ..) rfl Foot.refl
  | succ n ih =>
    intro s k
    unfold State.proofFrom
    refine Foot.ite ?_ (ih _ _)
    dsimp only
    split
    · exact Foot.step (State.proofBegin_foot ..) rfl Foot.refl
    · exact (ih _ _).step rfl (Foot.step (State.proofRecord_foot ..) rfl (Foot.step (State.proofBegin_foot ..) rfl Foot.refl))

theorem State.proofClear_foot (s : State) : Foot 262144 s (State.proofClear s) := by
  unfold State.proofClear
  refine Foot.set_tst rfl ?_
  exact Foot.refl

theorem State.proofStart_foot (s : State) : Foot 10751163 s (State.proofStart s) := by
  unfold State.proofStart
  extract_lets y0_0 y0_1
  have h_y0_0 : Foot 10751163 s y0_0 := by
    unfold y0_0
    refine Foot.step (State.wr64_foot ..) rfl ?_
    exact Foot.refl
  clear_value y0_0
  have h_y0_1 : Foot 10751163 s y0_1 := by
    unfold y0_1
    refine Foot.step (State.proofClear_foot ..) rfl ?_
    refine Foot.each ?_ ?_
    · intro a1_0 a1_1
      refine Foot.step (State.clr_foot ..) rfl ?_
      exact Foot.refl
    · exact h_y0_0
  clear_value y0_1
  refine Foot.step (State.proofFrom_foot ..) rfl ?_
  refine Foot.step (State.put_foot ..) rfl ?_
  exact h_y0_1

theorem State.proofNext_foot (s : State) (k r : Nat) : Foot 10751163 s (State.proofNext s k r) := by
  unfold State.proofNext
  refine Foot.step (State.proofFrom_foot ..) rfl ?_
  refine Foot.step (State.proofRecord_foot ..) rfl ?_
  exact Foot.refl

theorem State.lanesEnd_foot (s : State) : Foot 10751163 s (State.lanesEnd s) := by
  unfold State.lanesEnd
  extract_lets y0_0 y0_1
  clear_value y0_0
  have h_y0_1 : Foot 10751163 s y0_1 := by
    unfold y0_1
    refine Foot.each ?_ ?_
    · intro a1_0 a1_1
      refine Foot.step (State.put_foot ..) rfl ?_
      exact Foot.refl
    · exact Foot.refl
  clear_value y0_1
  refine Foot.step (State.proofNext_foot ..) rfl ?_
  refine Foot.step (State.lanesStop_foot ..) rfl ?_
  exact h_y0_1

theorem State.handEnd_foot (s : State) : Foot 10751163 s (State.handEnd s) := by
  unfold State.handEnd
  extract_lets y0_0 y0_1 y0_2
  clear_value y0_0
  clear_value y0_1
  clear_value y0_2
  split
  · refine Foot.ite ?_ ?_
    · refine Foot.step (State.handYield_foot ..) rfl ?_
      exact Foot.refl
    · exact Foot.refl
  · refine Foot.ite ?_ ?_
    · refine Foot.step (State.proofPhase_foot ..) rfl ?_
      refine Foot.step (State.put_foot ..) rfl ?_
      exact Foot.refl
    · refine Foot.step (State.proofNext_foot ..) rfl ?_
      exact Foot.refl
  · refine Foot.step (t := s) (m' := 262272) ⟨rfl, fun i => ⟨i.regs, i.live, i.mem, i.biv, i.flash, i.fltQ, i.dlQ⟩, fun _ => rfl, fun _ => rfl, fun _ => rfl, fun _ => rfl, fun _ => rfl, fun _ => rfl, fun _ => rfl, nofun, fun _ => rfl, fun _ => rfl, fun _ => rfl, fun _ => rfl, fun _ => rfl, fun _ => rfl, fun _ => rfl, fun _ => rfl, fun _ => rfl, fun _ => rfl, nofun, fun _ => rfl, fun _ => rfl, fun _ => rfl, fun _ => rfl, fun _ => rfl, fun _ => rfl, fun _ => rfl, fun _ => rfl, fun _ => rfl, fun _ => rfl⟩ rfl ?_
    exact Foot.refl
  · refine Foot.ite ?_ ?_
    · refine Foot.step (State.proofNext_foot ..) rfl ?_
      refine Foot.step (State.put_foot ..) rfl ?_
      exact Foot.refl
    · refine Foot.step (State.proofNext_foot ..) rfl ?_
      refine Foot.set_red rfl ?_
      exact Foot.refl

theorem execProofStepEnd_foot (counts : List (BitVec 48 × BitVec 48)) (s : State) : FootO 10751163 s (execProofStepEnd counts s) := by
  unfold execProofStepEnd
  refine FootO.ite (FootO.next Foot.refl) ?_
  extract_lets k r ns bad bad'
  have hr : Foot 10751163 s r.1 := Foot.step (State.wrapResult_foot ..) rfl Foot.refl
  clear_value k r ns bad bad'
  have h2 : Foot 10751163 s (if s.mayForce = true then s.forceWrap (k - 2) else s.proofNext k 3) :=
    Foot.ite (Foot.step (State.forceWrap_foot ..) rfl Foot.refl) (Foot.step (State.proofNext_foot ..) rfl Foot.refl)
  refine FootO.next (Foot.ite Foot.refl ?_)
  split
  · refine Foot.step (State.lanesEnd_foot ..) rfl ?_
    exact Foot.each (fun _ _ => Foot.step (State.patCount_foot ..) rfl Foot.refl) Foot.refl
  · split
    · exact h2
    · exact Foot.step (State.proofPhase_foot ..) rfl (Foot.step (State.forceEnd_foot ..) rfl Foot.refl)
    · exact Foot.step (State.proofNext_foot ..) rfl hr
  · split
    · exact h2
    · exact Foot.step (State.proofPhase_foot ..) rfl (Foot.step (State.forceEnd_foot ..) rfl Foot.refl)
    · exact Foot.step (State.proofNext_foot ..) rfl hr
  · exact Foot.step (State.handEnd_foot ..) rfl Foot.refl
  · refine Foot.ite Foot.refl ?_
    exact Foot.step (State.proofNext_foot ..) rfl (Foot.step (State.put_foot ..) rfl Foot.refl)
  · exact Foot.step (State.proofNext_foot ..) rfl (Foot.step (State.put_foot ..) rfl Foot.refl)

theorem State.handStop_foot (s : State) : Foot 128 s (State.handStop s) := by
  unfold State.handStop
  refine Foot.ite ?_ ?_
  · refine Foot.set_red rfl ?_
    exact Foot.refl
  · exact Foot.refl

theorem State.proofAbort_foot (s : State) : Foot 10751163 s (State.proofAbort s) := by
  unfold State.proofAbort
  refine Foot.ite ?_ ?_
  · refine Foot.step (State.put_foot ..) rfl ?_
    refine Foot.step (State.put_foot ..) rfl ?_
    refine Foot.step (State.proofClear_foot ..) rfl ?_
    refine Foot.step (State.handStop_foot ..) rfl ?_
    refine Foot.step (State.forceEnd_foot ..) rfl ?_
    refine Foot.step (State.lanesStop_foot ..) rfl ?_
    exact Foot.refl
  · exact Foot.refl

theorem State.tstReset_foot (s : State) : Foot 10751163 s (State.tstReset s) := by
  unfold State.tstReset
  extract_lets y0_0 y0_1 y0_2
  clear_value y0_0
  have h_y0_1 : Foot 10751163 s y0_1 := by
    unfold y0_1
    refine Foot.step (State.proofAbort_foot ..) rfl ?_
    exact Foot.refl
  clear_value y0_1
  have h_y0_2 : Foot 10751163 s y0_2 := by
    unfold y0_2
    refine Foot.set_regs (fun i => Tab.wf_filter _ i.regs) rfl ?_
    exact h_y0_1
  clear_value y0_2
  refine Foot.ite ?_ ?_
  · refine Foot.step (State.put_foot ..) rfl ?_
    refine Foot.step (State.put_foot ..) rfl ?_
    refine Foot.step (State.put_foot ..) rfl ?_
    exact h_y0_2
  · exact h_y0_2

theorem State.mbistStart_foot (s : State) : Foot 262145 s (State.mbistStart s) := by
  unfold State.mbistStart
  refine Foot.ite ?_ ?_
  · exact Foot.refl
  · extract_lets y0_0 y0_1
    have h_y0_0 : Foot 262145 s y0_0 := by
      unfold y0_0
      refine Foot.step (State.put_foot ..) rfl ?_
      refine Foot.step (State.put_foot ..) rfl ?_
      refine Foot.step (State.put_foot ..) rfl ?_
      exact Foot.refl
    clear_value y0_0
    clear_value y0_1
    refine Foot.set_tst rfl ?_
    exact h_y0_0

theorem execMbist_foot (who : Who) (s : State) : FootO 12845059 s (execMbist who s) := by
  unfold execMbist
  refine FootO.next ?_
  refine State.ackCmd_foot rfl ?_ ?_
  · intro a0_0
    refine Foot.ite1 ?_ ?_
    · refine Foot.mk1 ?_
      refine Foot.step (State.mbistStart_foot ..) rfl ?_
      exact Foot.refl
    · refine Foot.mk1 ?_
      exact Foot.refl
  · exact Foot.refl

theorem execMbistDone_foot (faulty : Bool) (s : State) : FootO 12845071 s (execMbistDone faulty s) := by
  unfold execMbistDone
  refine FootO.ite ?_ ?_
  · refine FootO.next ?_
    exact Foot.refl
  · refine FootO.next ?_
    refine Foot.ite ?_ ?_
    · extract_lets y0_0 y0_1 y0_2
      have h_y0_0 : Foot 12845071 s y0_0 := by
        unfold y0_0
        refine Foot.step (State.put_foot ..) rfl ?_
        refine Foot.step (State.put_foot ..) rfl ?_
        refine Foot.step (State.zeroBanks_foot ..) rfl ?_
        exact Foot.refl
      clear_value y0_0
      have h_y0_1 : Foot 12845071 s y0_1 := by
        unfold y0_1
        refine Foot.ite ?_ ?_
        · refine Foot.step (State.put_foot ..) rfl ?_
          exact h_y0_0
        · exact h_y0_0
      clear_value y0_1
      clear_value y0_2
      refine Foot.step (State.serve_foot ..) rfl ?_
      refine Foot.set_tst rfl ?_
      exact h_y0_1
    · exact Foot.refl

theorem State.jtag_foot (s : State) (ir : Nat) : Foot 262144 s (State.jtag s ir) := by
  unfold State.jtag
  refine Foot.set_tst rfl ?_
  exact Foot.refl

theorem State.cellsPut_foot (s : State) (l : List (Fin 96 × Bool × Bool)) : Foot 262144 s (State.cellsPut s l) := by
  unfold State.cellsPut
  refine Foot.set_tst rfl ?_
  exact Foot.refl

theorem execBypass_foot (s : State) : FootO 262144 s (execBypass s) := by
  unfold execBypass
  refine FootO.next ?_
  refine Foot.step (State.jtag_foot ..) rfl ?_
  exact Foot.refl

theorem execIdcode_foot (s : State) : FootO 262144 s (execIdcode s) := by
  unfold execIdcode
  refine FootO.next ?_
  extract_lets y0_0 y0_1
  have h_y0_0 : Foot 262144 s y0_0 := by
    unfold y0_0
    refine Foot.step (State.jtag_foot ..) rfl ?_
    exact Foot.refl
  clear_value y0_0
  clear_value y0_1
  refine Foot.set_tst rfl ?_
  exact h_y0_0

theorem execSamplePreload_foot (cells : List (Fin 96 × Bool × Bool)) (s : State) : FootO 262144 s (execSamplePreload cells s) := by
  unfold execSamplePreload
  refine FootO.next ?_
  refine Foot.step (State.cellsPut_foot ..) rfl ?_
  refine Foot.step (State.jtag_foot ..) rfl ?_
  exact Foot.refl

theorem execExtest_foot (cells : List (Fin 96 × Bool × Bool)) (s : State) : FootO 262144 s (execExtest cells s) := by
  unfold execExtest
  refine FootO.next ?_
  refine Foot.step (State.cellsPut_foot ..) rfl ?_
  refine Foot.step (State.jtag_foot ..) rfl ?_
  exact Foot.refl

theorem execHighz_foot (s : State) : FootO 262144 s (execHighz s) := by
  unfold execHighz
  refine FootO.next ?_
  refine Foot.step (State.jtag_foot ..) rfl ?_
  exact Foot.refl

theorem execClamp_foot (s : State) : FootO 262144 s (execClamp s) := by
  unfold execClamp
  refine FootO.next ?_
  refine Foot.step (State.jtag_foot ..) rfl ?_
  exact Foot.refl

theorem execJtagPrivate_foot (code : BitVec 8) (s : State) : FootO 262144 s (execJtagPrivate code s) := by
  unfold execJtagPrivate
  refine FootO.next ?_
  refine Foot.ite ?_ ?_
  · extract_lets y0_0 y0_1
    have h_y0_0 : Foot 262144 s y0_0 := by
      unfold y0_0
      refine Foot.step (State.jtag_foot ..) rfl ?_
      exact Foot.refl
    clear_value y0_0
    clear_value y0_1
    refine Foot.set_tst rfl ?_
    exact h_y0_0
  · refine Foot.step (State.jtag_foot ..) rfl ?_
    exact Foot.refl

end Sys2Proof.Machine
end

