-- ==== Sys2Proof/Laws/FootUpdate.lean ====
section
/-! SUPPORT. The footprints of the operations and meanings of Sys2Proof.Machine.Update. -/
namespace Sys2Proof.Machine

theorem State.flashPut_foot (s : State) (a : Nat) (bs : List Byte) : Foot 131072 s (State.flashPut s a bs) := by
  unfold State.flashPut
  refine Foot.set_upd (fun i => Tab.wf_setList _ _ i.flash) rfl ?_
  exact Foot.refl

theorem State.flashTear_foot (s : State) (as : List Nat) : Foot 131072 s (State.flashTear s as) := by
  unfold State.flashTear
  extract_lets y0_0 y0_1
  have h_y0_0 : Foot 131072 s y0_0 := by
    unfold y0_0
    refine Foot.each ?_ ?_
    · intro a1_0 a1_1
      refine Foot.step (State.flashPut_foot ..) rfl ?_
      exact Foot.refl
    · exact Foot.refl
  clear_value y0_0
  refine Foot.set_upd (fun i => i.flash) rfl ?_
  exact h_y0_0

theorem State.dirWrite_foot (s : State) (f : Dir → Dir) : Foot 131072 s (State.dirWrite s f) := by
  unfold State.dirWrite
  extract_lets y0_0 y0_1 y0_2 y0_3 y0_4
  clear_value y0_0
  clear_value y0_1
  have h_y0_3 : Foot 131072 s y0_3 := by
    unfold y0_3
    refine Foot.set_upd (fun i => Tab.wf_filter _ i.flash) rfl ?_
    exact Foot.refl
  clear_value y0_3
  clear_value y0_4
  refine Foot.step (State.flashPut_foot ..) rfl ?_
  exact h_y0_3

theorem State.setVer_foot (s : State) (slot : Nat) (v : Bool) : Foot 131073 s (State.setVer s slot v) := by
  unfold State.setVer
  extract_lets y0_0 y0_1 y0_2
  clear_value y0_0
  clear_value y0_1
  refine Foot.step (State.put_foot ..) rfl ?_
  refine Foot.set_upd (fun i => i.flash) rfl ?_
  exact Foot.refl

theorem State.updStart_foot {m : Nat} {s0 s : State} {f : State → State} (hm : 131073 ||| m = m) (hf : ∀ x, Foot m x (f x))
    (h : Foot m s0 s) : Foot m s0 (State.updStart s f) := by
  have h1 : 1 ||| m = m := by rw [← hm, ← Nat.or_assoc]; rfl
  have g : Foot m s0 { s with upd := { s.upd with key := false } } :=
    Foot.step (m' := 131072) (Foot.set_upd (fun i => i.flash) rfl Foot.refl) (by rw [← hm, ← Nat.or_assoc]; rfl) h
  unfold State.updStart
  exact Foot.ite g (Foot.ite (Foot.step (State.put_foot ..) h1 g) (Foot.step (hf _) (Nat.or_self m) g))

theorem State.updBusy_foot (s : State) (op code addr : Nat) (area : List Nat) : Foot 131073 s (State.updBusy s op code addr area) := by
  unfold State.updBusy
  refine Foot.step (State.put_foot ..) rfl ?_
  refine Foot.set_upd (fun i => i.flash) rfl ?_
  exact Foot.refl

theorem State.updWrite_foot {m : Nat} {s0 s : State} {op addr : Nat} {area : List Nat} {good : Bool} {f : State → State}
    (hm : 131073 ||| m = m) (hf : ∀ x, Foot m x (f x)) (h : Foot m s0 s) :
    Foot m s0 (State.updWrite s op addr area good f) := by
  unfold State.updWrite
  refine Foot.ite ?_ ?_
  · exact Foot.step (State.updBusy_foot ..) hm (Foot.step (hf s) (Nat.or_self m) h)
  · refine Foot.step (State.updBusy_foot ..) hm (Foot.step (State.flashTear_foot ..) ?_ h)
    rw [← hm, ← Nat.or_assoc]; rfl

theorem State.updErase_foot (s : State) (good : Bool) : Foot 131073 s (State.updErase s good) := by
  unfold State.updErase
  extract_lets y0_0 y0_1 y0_2
  clear_value y0_0
  clear_value y0_1
  have h_y0_2 : Foot 131073 s y0_2 := by
    unfold y0_2
    split
    · refine Foot.step (State.setVer_foot ..) rfl ?_
      exact Foot.refl
    · exact Foot.refl
  clear_value y0_2
  refine Foot.ite ?_ ?_
  · refine Foot.step (State.updBusy_foot ..) rfl ?_
    exact Foot.refl
  · refine State.updWrite_foot rfl ?_ ?_
    · intro a1_0
      refine Foot.set_upd (fun i => Tab.wf_filter _ i.flash) rfl ?_
      exact Foot.refl
    · exact h_y0_2

theorem State.updProgram_foot (s : State) (good : Bool) : Foot 131073 s (State.updProgram s good) := by
  unfold State.updProgram
  extract_lets y0_0 y0_1 y0_2 y0_3
  clear_value y0_0
  clear_value y0_1
  have h_y0_2 : Foot 131073 s y0_2 := by
    unfold y0_2
    split
    · refine Foot.step (State.setVer_foot ..) rfl ?_
      exact Foot.refl
    · exact Foot.refl
  clear_value y0_2
  clear_value y0_3
  refine Foot.ite ?_ ?_
  · refine Foot.step (State.updBusy_foot ..) rfl ?_
    exact Foot.refl
  · refine Foot.ite ?_ ?_
    · refine Foot.step (State.updBusy_foot ..) rfl ?_
      refine Foot.step (State.flashPut_foot ..) rfl ?_
      exact h_y0_2
    · refine State.updWrite_foot rfl ?_ ?_
      · intro a1_0
        refine Foot.step (State.flashPut_foot ..) rfl ?_
        exact Foot.refl
      · exact h_y0_2

theorem State.updRead_foot (s : State) : Foot 131073 s (State.updRead s) := by
  unfold State.updRead
  extract_lets y0_0 y0_1
  clear_value y0_0
  clear_value y0_1
  refine Foot.ite ?_ ?_
  · refine Foot.step (State.updBusy_foot ..) rfl ?_
    exact Foot.refl
  · refine Foot.step (State.updBusy_foot ..) rfl ?_
    refine Foot.each ?_ ?_
    · intro a1_0 a1_1
      refine Foot.step (State.wr_foot ..) rfl ?_
      exact Foot.refl
    · exact Foot.refl

theorem State.updVerify_foot (s : State) (slot : Nat) : Foot 131073 s (State.updVerify s slot) := by
  unfold State.updVerify
  extract_lets y0_0
  clear_value y0_0
  refine Foot.step (State.updBusy_foot ..) rfl ?_
  refine Foot.ite ?_ ?_
  · refine Foot.step (State.setVer_foot ..) rfl ?_
    exact Foot.refl
  · exact Foot.refl

theorem State.updDir_foot (s : State) (op : Nat) (good : Bool) (f : Dir → Dir) : Foot 131073 s (State.updDir s op good f) := by
  unfold State.updDir
  exact State.updWrite_foot rfl (fun x => Foot.step (State.dirWrite_foot ..) rfl Foot.refl) Foot.refl

theorem State.updArm_foot (s : State) (slot : Nat) (good : Bool) : Foot 131073 s (State.updArm s slot good) := by
  unfold State.updArm
  refine Foot.ite ?_ ?_
  · refine Foot.step (State.updBusy_foot ..) rfl ?_
    exact Foot.refl
  · refine Foot.step (State.updDir_foot ..) rfl ?_
    exact Foot.refl

theorem State.updDisarm_foot (s : State) (good : Bool) : Foot 131073 s (State.updDisarm s good) := by
  unfold State.updDisarm
  refine Foot.step (State.updDir_foot ..) rfl ?_
  exact Foot.refl

theorem State.activate_foot (s : State) (slot : Nat) : Foot 131073 s (State.activate s slot) := by
  unfold State.activate
  extract_lets y0_0 y0_1
  have h_y0_0 : Foot 131073 s y0_0 := by
    unfold y0_0
    refine Foot.step (State.put_foot ..) rfl ?_
    refine Foot.step (State.put_foot ..) rfl ?_
    exact Foot.refl
  clear_value y0_0
  refine Foot.set_upd (fun i => i.flash) rfl ?_
  exact h_y0_0

theorem State.updActivate_foot (s : State) (slot : Nat) (good : Bool) : Foot 131073 s (State.updActivate s slot good) := by
  unfold State.updActivate
  refine Foot.ite ?_ ?_
  · refine Foot.step (State.updBusy_foot ..) rfl ?_
    exact Foot.refl
  · refine Foot.ite ?_ ?_
    · refine Foot.step (State.updBusy_foot ..) rfl ?_
      exact Foot.refl
    · refine Foot.step (State.updDir_foot ..) rfl ?_
      exact Foot.refl

theorem State.updConfirm_foot (s : State) (good : Bool) : Foot 131073 s (State.updConfirm s good) := by
  unfold State.updConfirm
  refine Foot.ite ?_ ?_
  · refine Foot.step (State.updBusy_foot ..) rfl ?_
    exact Foot.refl
  · extract_lets y0_0
    clear_value y0_0
    refine Foot.step (State.updDir_foot ..) rfl ?_
    exact Foot.refl

theorem State.updMac_foot (s : State) : Foot 131073 s (State.updMac s) := by
  unfold State.updMac
  extract_lets y0_0 y0_1 y0_2
  clear_value y0_0
  clear_value y0_1
  clear_value y0_2
  refine Foot.ite ?_ ?_
  · refine Foot.step (State.updBusy_foot ..) rfl ?_
    exact Foot.refl
  · refine Foot.step (State.updBusy_foot ..) rfl ?_
    refine Foot.each ?_ ?_
    · intro a1_0 a1_1
      refine Foot.step (State.wr_foot ..) rfl ?_
      exact Foot.refl
    · exact Foot.refl

theorem State.updOtpProg_foot (s : State) (k : Nat) (unlocked : Bool) : Foot 131073 s (State.updOtpProg s k unlocked) := by
  unfold State.updOtpProg
  refine Foot.ite ?_ ?_
  · refine Foot.step (State.updBusy_foot ..) rfl ?_
    exact Foot.refl
  · refine Foot.ite ?_ ?_
    · refine Foot.step (State.updBusy_foot ..) rfl ?_
      exact Foot.refl
    · refine Foot.step (State.updBusy_foot ..) rfl ?_
      refine Foot.step (State.put_foot ..) rfl ?_
      refine Foot.each ?_ ?_
      · intro a0_0 a0_1
        refine Foot.step (State.copy_foot ..) rfl ?_
        exact Foot.refl
      · exact Foot.refl

theorem State.updOtpRevoke_foot (s : State) (k : Nat) (unlocked : Bool) : Foot 131073 s (State.updOtpRevoke s k unlocked) := by
  unfold State.updOtpRevoke
  refine Foot.ite ?_ ?_
  · refine Foot.step (State.updBusy_foot ..) rfl ?_
    exact Foot.refl
  · refine Foot.ite ?_ ?_
    · refine Foot.step (State.updBusy_foot ..) rfl ?_
      exact Foot.refl
    · refine Foot.step (State.updBusy_foot ..) rfl ?_
      refine Foot.step (State.put_foot ..) rfl ?_
      exact Foot.refl

theorem State.updCheckIsl_foot (s : State) : Foot 131073 s (State.updCheckIsl s) := by
  unfold State.updCheckIsl
  extract_lets y0_0
  clear_value y0_0
  refine Foot.step (State.updBusy_foot ..) rfl ?_
  refine Foot.step (State.put_foot ..) rfl ?_
  exact Foot.refl

theorem State.updDirInit_foot (s : State) (slot : Nat) (good : Bool) : Foot 131073 s (State.updDirInit s slot good) := by
  unfold State.updDirInit
  refine Foot.ite ?_ ?_
  · refine Foot.step (State.updBusy_foot ..) rfl ?_
    exact Foot.refl
  · extract_lets y0_0 y0_1
    clear_value y0_0
    clear_value y0_1
    refine State.updWrite_foot rfl ?_ ?_
    · intro a1_0
      refine Foot.step (State.flashPut_foot ..) rfl ?_
      refine Foot.step (State.flashPut_foot ..) rfl ?_
      refine Foot.set_upd (fun i => Tab.wf_filter _ i.flash) rfl ?_
      exact Foot.refl
    · exact Foot.refl

theorem State.updCmd_foot (s : State) (op slot kslot : Nat) (good : Bool) : Foot 131073 s (State.updCmd s op slot kslot good) := by
  unfold State.updCmd
  extract_lets y0_0
  clear_value y0_0
  refine State.updStart_foot rfl ?_ ?_
  · intro a1_0
    split
    · refine Foot.step (State.updErase_foot ..) rfl ?_
      exact Foot.refl
    · refine Foot.step (State.updProgram_foot ..) rfl ?_
      exact Foot.refl
    · refine Foot.step (State.updRead_foot ..) rfl ?_
      exact Foot.refl
    · refine Foot.step (State.updVerify_foot ..) rfl ?_
      exact Foot.refl
    · refine Foot.step (State.updArm_foot ..) rfl ?_
      exact Foot.refl
    · refine Foot.step (State.updDisarm_foot ..) rfl ?_
      exact Foot.refl
    · refine Foot.step (State.updActivate_foot ..) rfl ?_
      exact Foot.refl
    · refine Foot.step (State.updConfirm_foot ..) rfl ?_
      exact Foot.refl
    · refine Foot.step (State.updMac_foot ..) rfl ?_
      exact Foot.refl
    · refine Foot.step (State.updOtpProg_foot ..) rfl ?_
      exact Foot.refl
    · refine Foot.step (State.updOtpRevoke_foot ..) rfl ?_
      exact Foot.refl
    · refine Foot.step (State.updCheckIsl_foot ..) rfl ?_
      exact Foot.refl
    · refine Foot.step (State.updDirInit_foot ..) rfl ?_
      exact Foot.refl
    · exact Foot.refl
  · exact Foot.refl

theorem execErase_foot (good : Bool) (s : State) : FootO 8519683 s (execErase good s) := by
  unfold execErase
  refine FootO.next ?_
  refine State.cmd_foot rfl ?_ ?_
  · intro a0_0
    refine State.updStart_foot rfl ?_ ?_
    · intro a1_0
      refine Foot.step (State.updErase_foot ..) rfl ?_
      exact Foot.refl
    · exact Foot.refl
  · exact Foot.refl

theorem execProgram_foot (good : Bool) (s : State) : FootO 8519683 s (execProgram good s) := by
  unfold execProgram
  refine FootO.next ?_
  refine State.cmd_foot rfl ?_ ?_
  · intro a0_0
    refine State.updStart_foot rfl ?_ ?_
    · intro a1_0
      refine Foot.step (State.updProgram_foot ..) rfl ?_
      exact Foot.refl
    · exact Foot.refl
  · exact Foot.refl

theorem execUpdRead_foot (s : State) : FootO 8519683 s (execUpdRead s) := by
  unfold execUpdRead
  refine FootO.next ?_
  refine State.cmd_foot rfl ?_ ?_
  · intro a0_0
    refine State.updStart_foot rfl ?_ ?_
    · intro a1_0
      refine Foot.step (State.updRead_foot ..) rfl ?_
      exact Foot.refl
    · exact Foot.refl
  · exact Foot.refl

theorem execVerify_foot (slot : Fin 2) (s : State) : FootO 8519683 s (execVerify slot s) := by
  unfold execVerify
  refine FootO.next ?_
  refine State.cmd_foot rfl ?_ ?_
  · intro a0_0
    refine State.updStart_foot rfl ?_ ?_
    · intro a1_0
      refine Foot.step (State.updVerify_foot ..) rfl ?_
      exact Foot.refl
    · exact Foot.refl
  · exact Foot.refl

theorem execUpdArm_foot (slot : Fin 2) (good : Bool) (s : State) : FootO 8519683 s (execUpdArm slot good s) := by
  unfold execUpdArm
  refine FootO.next ?_
  refine State.cmd_foot rfl ?_ ?_
  · intro a0_0
    refine State.updStart_foot rfl ?_ ?_
    · intro a1_0
      refine Foot.step (State.updArm_foot ..) rfl ?_
      exact Foot.refl
    · exact Foot.refl
  · exact Foot.refl

theorem execUpdDisarm_foot (good : Bool) (s : State) : FootO 8519683 s (execUpdDisarm good s) := by
  unfold execUpdDisarm
  refine FootO.next ?_
  refine State.cmd_foot rfl ?_ ?_
  · intro a0_0
    refine State.updStart_foot rfl ?_ ?_
    · intro a1_0
      refine Foot.step (State.updDisarm_foot ..) rfl ?_
      exact Foot.refl
    · exact Foot.refl
  · exact Foot.refl

theorem execActivate_foot (slot : Fin 2) (good : Bool) (s : State) : FootO 8519683 s (execActivate slot good s) := by
  unfold execActivate
  refine FootO.next ?_
  refine State.cmd_foot rfl ?_ ?_
  · intro a0_0
    refine State.updStart_foot rfl ?_ ?_
    · intro a1_0
      refine Foot.step (State.updActivate_foot ..) rfl ?_
      exact Foot.refl
    · exact Foot.refl
  · exact Foot.refl

theorem execConfirm_foot (good : Bool) (s : State) : FootO 8519683 s (execConfirm good s) := by
  unfold execConfirm
  refine FootO.next ?_
  refine State.cmd_foot rfl ?_ ?_
  · intro a0_0
    refine State.updStart_foot rfl ?_ ?_
    · intro a1_0
      refine Foot.step (State.updConfirm_foot ..) rfl ?_
      exact Foot.refl
    · exact Foot.refl
  · exact Foot.refl

theorem execUpdMac_foot (s : State) : FootO 8519683 s (execUpdMac s) := by
  unfold execUpdMac
  refine FootO.next ?_
  refine State.cmd_foot rfl ?_ ?_
  · intro a0_0
    refine State.updStart_foot rfl ?_ ?_
    · intro a1_0
      refine Foot.step (State.updMac_foot ..) rfl ?_
      exact Foot.refl
    · exact Foot.refl
  · exact Foot.refl

theorem execOtpProg_foot (k : Fin 4) (s : State) : FootO 8519683 s (execOtpProg k s) := by
  unfold execOtpProg
  refine FootO.next ?_
  refine State.cmd_foot rfl ?_ ?_
  · intro a0_0
    extract_lets y1_0
    clear_value y1_0
    refine State.updStart_foot rfl ?_ ?_
    · intro a2_0
      refine Foot.step (State.updOtpProg_foot ..) rfl ?_
      exact Foot.refl
    · exact Foot.refl
  · exact Foot.refl

theorem execOtpRevoke_foot (k : Fin 4) (s : State) : FootO 8519683 s (execOtpRevoke k s) := by
  unfold execOtpRevoke
  refine FootO.next ?_
  refine State.cmd_foot rfl ?_ ?_
  · intro a0_0
    extract_lets y1_0
    clear_value y1_0
    refine State.updStart_foot rfl ?_ ?_
    · intro a2_0
      refine Foot.step (State.updOtpRevoke_foot ..) rfl ?_
      exact Foot.refl
    · exact Foot.refl
  · exact Foot.refl

theorem execCheckIsl_foot (s : State) : FootO 8519683 s (execCheckIsl s) := by
  unfold execCheckIsl
  refine FootO.next ?_
  refine State.cmd_foot rfl ?_ ?_
  · intro a0_0
    refine State.updStart_foot rfl ?_ ?_
    · intro a1_0
      refine Foot.step (State.updCheckIsl_foot ..) rfl ?_
      exact Foot.refl
    · exact Foot.refl
  · exact Foot.refl

theorem execDirInit_foot (slot : Fin 2) (good : Bool) (s : State) : FootO 8519683 s (execDirInit slot good s) := by
  unfold execDirInit
  refine FootO.next ?_
  refine State.cmd_foot rfl ?_ ?_
  · intro a0_0
    refine State.updStart_foot rfl ?_ ?_
    · intro a1_0
      refine Foot.step (State.updDirInit_foot ..) rfl ?_
      exact Foot.refl
    · exact Foot.refl
  · exact Foot.refl

theorem State.otpKey_foot (s : State) (v : Word) : Foot 131072 s (State.otpKey s v) := by
  unfold State.otpKey
  refine Foot.set_upd (fun i => i.flash) rfl ?_
  exact Foot.refl

theorem execOtpKeyWrite_foot (value : Word) (s : State) : FootO 8519683 s (execOtpKeyWrite value s) := by
  unfold execOtpKeyWrite
  refine FootO.next ?_
  refine State.cmd_foot rfl ?_ ?_
  · intro a0_0
    refine Foot.step (State.otpKey_foot ..) rfl ?_
    exact Foot.refl
  · exact Foot.refl

theorem State.updAfter_foot (s : State) (r : UpdRun) (code : Nat) : Foot 131073 s (State.updAfter s r code) := by
  unfold State.updAfter
  refine Foot.ite ?_ ?_
  · split
    · refine Foot.step (State.activate_foot ..) rfl ?_
      exact Foot.refl
    · exact Foot.refl
  · refine Foot.ite ?_ ?_
    · exact Foot.refl
    · refine Foot.ite ?_ ?_
      · extract_lets y0_0 y0_1
        have h_y0_0 : Foot 131073 s y0_0 := by
          unfold y0_0
          refine Foot.step (State.put_foot ..) rfl ?_
          refine Foot.step (State.put_foot ..) rfl ?_
          refine Foot.step (State.put_foot ..) rfl ?_
          exact Foot.refl
        clear_value y0_0
        refine Foot.set_upd (fun i => i.flash) rfl ?_
        exact h_y0_0
      · refine Foot.set_upd (fun i => i.flash) rfl ?_
        exact Foot.refl

theorem State.updEnd_foot (s : State) (r : UpdRun) (code : Nat) : Foot 8519683 s (State.updEnd s r code) := by
  unfold State.updEnd
  extract_lets y0_0 y0_1 y0_2 y0_3
  have h_y0_1 : Foot 8519683 s y0_1 := by
    unfold y0_1
    refine Foot.step (State.updAfter_foot ..) rfl ?_
    refine Foot.set_upd (fun i => i.flash) rfl ?_
    exact Foot.refl
  clear_value y0_1
  have h_y0_2 : Foot 8519683 s y0_2 := by
    unfold y0_2
    refine Foot.step (State.put_foot ..) rfl ?_
    refine Foot.step (State.put_foot ..) rfl ?_
    refine Foot.step (State.put_foot ..) rfl ?_
    refine Foot.step (State.put_foot ..) rfl ?_
    exact h_y0_1
  clear_value y0_2
  have h_y0_3 : Foot 8519683 s y0_3 := by
    unfold y0_3
    refine Foot.ite ?_ ?_
    · refine Foot.step (State.fault_foot ..) rfl ?_
      exact h_y0_2
    · exact h_y0_2
  clear_value y0_3
  refine Foot.ite ?_ ?_
  · exact h_y0_3
  · refine Foot.step (State.fault_foot ..) rfl ?_
    refine Foot.step (State.put_foot ..) rfl ?_
    exact h_y0_3

theorem execUpdCommandEnd_foot (s : State) : FootO 8519683 s (execUpdCommandEnd s) := by
  unfold execUpdCommandEnd
  refine FootO.ite ?_ ?_
  · refine FootO.next ?_
    exact Foot.refl
  · refine FootO.next ?_
    split
    · refine Foot.step (State.updEnd_foot ..) rfl ?_
      exact Foot.refl
    · exact Foot.refl

theorem State.updCut_foot (s : State) : Foot 8519683 s (State.updCut s) := by
  unfold State.updCut
  split
  · refine Foot.step (State.updEnd_foot ..) rfl ?_
    refine Foot.ite ?_ ?_
    · refine Foot.step (State.flashTear_foot ..) rfl ?_
      exact Foot.refl
    · exact Foot.refl
  · exact Foot.refl

theorem State.updReset_foot (s : State) : Foot 8519683 s (State.updReset s) := by
  unfold State.updReset
  extract_lets y0_0 y0_1 y0_2
  have h_y0_0 : Foot 8519683 s y0_0 := by
    unfold y0_0
    refine Foot.each ?_ ?_
    · intro a1_0 a1_1
      refine Foot.step (State.clr_foot ..) rfl ?_
      exact Foot.refl
    · exact Foot.refl
  clear_value y0_0
  have h_y0_1 : Foot 8519683 s y0_1 := by
    unfold y0_1
    refine Foot.each ?_ ?_
    · intro a1_0 a1_1
      refine Foot.step (State.put_foot ..) rfl ?_
      exact Foot.refl
    · exact h_y0_0
  clear_value y0_1
  refine Foot.step (State.updCut_foot ..) rfl ?_
  refine Foot.set_upd (fun i => i.flash) rfl ?_
  exact h_y0_1

end Sys2Proof.Machine
end

