-- ==== Sys2Proof/Laws/FootReset.lean ====
section
/-! SUPPORT. The footprints of the operations and meanings of Sys2Proof.Machine.Reset. -/
namespace Sys2Proof.Machine

theorem State.setUnit_foot (s : State) (u : Nat) (x : Option UnitSt) : Foot 2097152 s (State.setUnit s u x) := by
  unfold State.setUnit
  refine Foot.set_sys rfl ?_
  exact Foot.refl

theorem State.closeEntry_foot (s : State) (i : Nat) : Foot 2097152 s (State.closeEntry s i) := by
  unfold State.closeEntry
  extract_lets y0_0 y0_1
  clear_value y0_0
  clear_value y0_1
  refine Foot.set_sys rfl ?_
  exact Foot.refl

theorem State.logReset_foot (s : State) (code unit scope : Nat) (multi : Bool) (count : Nat) : Foot 2097153 s (State.logReset s code unit scope multi count) := by
  unfold State.logReset
  extract_lets y0_0 y0_1
  clear_value y0_0
  clear_value y0_1
  refine Foot.step (State.put_foot ..) rfl ?_
  refine Foot.step (State.wr_foot ..) rfl ?_
  refine Foot.step (State.wr_foot ..) rfl ?_
  refine Foot.step (State.closeEntry_foot ..) rfl ?_
  exact Foot.refl

theorem State.logMulti_foot (s : State) (i cause : Nat) : Foot 1 s (State.logMulti s i cause) := by
  unfold State.logMulti
  extract_lets y0_0
  clear_value y0_0
  refine Foot.ite ?_ ?_
  · exact Foot.refl
  · refine Foot.step (State.wr_foot ..) rfl ?_
    exact Foot.refl

theorem State.logSwap_foot (s : State) (i u v : Nat) (x y : UnitSt) : Foot 2097153 s (State.logSwap s i u v x y) := by
  unfold State.logSwap
  extract_lets y0_0 y0_1
  clear_value y0_0
  have h_y0_1 : Foot 2097153 s y0_1 := by
    unfold y0_1
    refine Foot.step (State.wr_foot ..) rfl ?_
    refine Foot.step (State.wr_foot ..) rfl ?_
    refine Foot.step (State.copy_foot ..) rfl ?_
    refine Foot.step (State.copy_foot ..) rfl ?_
    exact Foot.refl
  clear_value y0_1
  refine Foot.step (State.setUnit_foot ..) rfl ?_
  refine Foot.step (State.setUnit_foot ..) rfl ?_
  exact h_y0_1

theorem State.logOrder_foot (s : State) (i u : Nat) (x : UnitSt) (fuel : Nat) : Foot 2097153 s (State.logOrder s i u x fuel) := by
  induction fuel generalizing s i x with
  | zero => exact Foot.refl
  | succ n ih =>
    unfold State.logOrder
    split
    · exact Foot.ite ((ih _ _ _).step rfl (Foot.step (State.logSwap_foot ..) rfl Foot.refl)) Foot.refl
    · exact Foot.refl

theorem State.logClear_foot (s : State) : Foot 2097153 s (State.logClear s) := by
  unfold State.logClear
  extract_lets y0_0
  have h_y0_0 : Foot 2097153 s y0_0 := by
    unfold y0_0
    refine Foot.each ?_ ?_
    · intro a1_0 a1_1
      refine Foot.step (State.clr_foot ..) rfl ?_
      refine Foot.step (State.clr_foot ..) rfl ?_
      refine Foot.step (State.closeEntry_foot ..) rfl ?_
      exact Foot.refl
    · exact Foot.refl
  clear_value y0_0
  refine Foot.step (State.put_foot ..) rfl ?_
  exact h_y0_0

theorem State.padCapture_foot (s : State) : Foot 2097153 s (State.padCapture s) := by
  unfold State.padCapture
  extract_lets y0_0 y0_1 y0_2 y0_3 y0_4 y0_5
  clear_value y0_0
  clear_value y0_1
  clear_value y0_2
  clear_value y0_3
  have h_y0_4 : Foot 2097153 s y0_4 := by
    unfold y0_4
    refine Foot.step (State.put_foot ..) rfl ?_
    refine Foot.step (State.put_foot ..) rfl ?_
    exact Foot.refl
  clear_value y0_4
  clear_value y0_5
  refine Foot.set_sys rfl ?_
  exact h_y0_4

theorem State.setGh320_foot (s : State) : Foot 1 s (State.setGh320 s) := by
  unfold State.setGh320
  extract_lets y0_0
  clear_value y0_0
  refine Foot.when ?_ ?_
  · intro a1_0
    refine Foot.each ?_ ?_
    · intro a2_0 a2_1
      refine Foot.ite ?_ ?_
      · exact Foot.refl
      · refine Foot.step (State.put_foot ..) rfl ?_
        exact Foot.refl
    · exact Foot.refl
  · refine Foot.step (State.put_foot ..) rfl ?_
    exact Foot.refl

theorem State.dieReset_foot (s : State) (keep : Nat → Bool) : Foot 134152187 s (State.dieReset s keep) := by
  unfold State.dieReset
  extract_lets y0_0 y0_1 y0_2 y0_3 y0_4
  clear_value y0_1
  clear_value y0_4
  refine Foot.step (t := s) (m' := 134152187) ⟨rfl, fun i => ⟨Tab.wf_filter _ i.regs, Tab.wf_filter _ i.live, i.mem, i.biv, i.flash, Nat.zero_le _, Nat.zero_le _⟩, nofun, nofun, fun _ => rfl, nofun, nofun, nofun, nofun, nofun, nofun, nofun, nofun, nofun, nofun, nofun, nofun, nofun, fun _ => rfl, nofun, nofun, nofun, nofun, nofun, nofun, nofun, nofun, nofun, nofun, fun _ => rfl, fun _ => rfl⟩ rfl ?_
  exact Foot.refl

theorem State.resetPin_foot (s : State) : Foot 2097153 s (State.resetPin s) := by
  unfold State.resetPin
  extract_lets y0_0 y0_1
  have h_y0_0 : Foot 2097153 s y0_0 := by
    unfold y0_0
    refine Foot.step (State.put_foot ..) rfl ?_
    exact Foot.refl
  clear_value y0_0
  clear_value y0_1
  refine Foot.set_sys rfl ?_
  exact h_y0_0

theorem State.absorb_foot (s : State) (cause : Nat) (x : Nat × Nat × Bool) : Foot 2097153 s (State.absorb s cause x) := by
  unfold State.absorb
  refine Foot.ite ?_ ?_
  · extract_lets y0_0 y0_1 y0_2
    have h_y0_0 : Foot 2097153 s y0_0 := by
      unfold y0_0
      refine Foot.step (State.put_foot ..) rfl ?_
      refine Foot.step (State.logMulti_foot ..) rfl ?_
      exact Foot.refl
    clear_value y0_0
    clear_value y0_1
    have h_y0_2 : Foot 2097153 s y0_2 := by
      unfold y0_2
      refine Foot.set_sys rfl ?_
      exact h_y0_0
    clear_value y0_2
    refine Foot.ite ?_ ?_
    · refine Foot.step (State.resetPin_foot ..) rfl ?_
      exact h_y0_2
    · exact h_y0_2
  · refine Foot.step (State.logMulti_foot ..) rfl ?_
    exact Foot.refl

theorem State.warmBody_foot (s : State) (cause : Nat) (multi : Bool) : Foot 134152191 s (State.warmBody s cause multi) := by
  unfold State.warmBody
  extract_lets y0_0 y0_1 y0_2 y0_3 y0_4 y0_5 y0_6 y0_7 y0_8 y0_9 y0_10 y0_11
  clear_value y0_0
  clear_value y0_1
  clear_value y0_2
  have h_y0_3 : Foot 134152191 s y0_3 := by
    unfold y0_3
    refine Foot.step (State.dieReset_foot ..) rfl ?_
    refine Foot.step (State.updCut_foot ..) rfl ?_
    refine Foot.step (State.padCapture_foot ..) rfl ?_
    exact Foot.refl
  clear_value y0_3
  have h_y0_4 : Foot 134152191 s y0_4 := by
    unfold y0_4
    refine Foot.step (State.setGh320_foot ..) rfl ?_
    refine Foot.step (State.put_foot ..) rfl ?_
    refine Foot.step (State.put_foot ..) rfl ?_
    exact h_y0_3
  clear_value y0_4
  have h_y0_5 : Foot 134152191 s y0_5 := by
    unfold y0_5
    refine Foot.step (State.logReset_foot ..) rfl ?_
    refine Foot.step (State.put_foot ..) rfl ?_
    exact h_y0_4
  clear_value y0_5
  clear_value y0_6
  have h_y0_7 : Foot 134152191 s y0_7 := by
    unfold y0_7
    refine Foot.set_sys rfl ?_
    exact h_y0_5
  clear_value y0_7
  have h_y0_8 : Foot 134152191 s y0_8 := by
    unfold y0_8
    refine Foot.ite ?_ ?_
    · refine Foot.step (State.staleMark_foot ..) rfl ?_
      exact h_y0_7
    · exact h_y0_7
  clear_value y0_8
  have h_y0_9 : Foot 134152191 s y0_9 := by
    unfold y0_9
    refine Foot.ite ?_ ?_
    · refine Foot.step (State.resetPin_foot ..) rfl ?_
      exact h_y0_8
    · exact h_y0_8
  clear_value y0_9
  have h_y0_10 : Foot 134152191 s y0_10 := by
    unfold y0_10
    refine Foot.step (State.setBit_foot ..) rfl ?_
    refine Foot.step (State.put_foot ..) rfl ?_
    exact h_y0_9
  clear_value y0_10
  clear_value y0_11
  refine Foot.ite ?_ ?_
  · refine Foot.step (t := y0_10) (m' := 12) ⟨rfl, fun i => ⟨i.regs, i.live, Tab.wf_nil _, i.biv, i.flash, i.fltQ, i.dlQ⟩, fun _ => rfl, fun _ => rfl, nofun, nofun, fun _ => rfl, fun _ => rfl, fun _ => rfl, fun _ => rfl, fun _ => rfl, fun _ => rfl, fun _ => rfl, fun _ => rfl, fun _ => rfl, fun _ => rfl, fun _ => rfl, fun _ => rfl, fun _ => rfl, fun _ => rfl, fun _ => rfl, fun _ => rfl, fun _ => rfl, fun _ => rfl, fun _ => rfl, fun _ => rfl, fun _ => rfl, fun _ => rfl, fun _ => rfl, fun _ => rfl, fun _ => rfl⟩ rfl ?_
    exact h_y0_10
  · exact h_y0_9

theorem State.warmReset_foot (s : State) (cause : Nat) : Foot 134152191 s (State.warmReset s cause) := by
  unfold State.warmReset
  refine Foot.ite ?_ ?_
  · exact Foot.refl
  · split
    · refine Foot.step (State.absorb_foot ..) rfl ?_
      exact Foot.refl
    · refine Foot.step (State.warmBody_foot ..) rfl ?_
      exact Foot.refl

theorem State.porReset_foot (s : State) (stacked : Bool) : Foot 536870911 s (State.porReset s stacked) := by
  unfold State.porReset
  extract_lets y0_0 y0_1 y0_2 y0_3 y0_4
  clear_value y0_0
  have h_y0_1 : Foot 536870911 s y0_1 := by
    unfold y0_1
    refine Foot.step (State.lpwPor_foot ..) rfl ?_
    refine Foot.step (State.dieReset_foot ..) rfl ?_
    refine Foot.step (State.updCut_foot ..) rfl ?_
    exact Foot.refl
  clear_value y0_1
  clear_value y0_2
  clear_value y0_3
  have h_y0_4 : Foot 536870911 s y0_4 := by
    unfold y0_4
    refine Foot.step (t := y0_1) (m' := 271581196) ⟨rfl, fun i => ⟨i.regs, i.live, Tab.wf_nil _, Tab.wf_nil _, i.flash, i.fltQ, i.dlQ⟩, fun _ => rfl, fun _ => rfl, nofun, nofun, fun _ => rfl, fun _ => rfl, fun _ => rfl, fun _ => rfl, fun _ => rfl, fun _ => rfl, fun _ => rfl, fun _ => rfl, fun _ => rfl, fun _ => rfl, fun _ => rfl, fun _ => rfl, fun _ => rfl, fun _ => rfl, fun _ => rfl, fun _ => rfl, nofun, nofun, fun _ => rfl, fun _ => rfl, fun _ => rfl, fun _ => rfl, fun _ => rfl, fun _ => rfl, nofun⟩ rfl ?_
    exact h_y0_1
  clear_value y0_4
  refine Foot.step (State.logReset_foot ..) rfl ?_
  refine Foot.step (State.put_foot ..) rfl ?_
  exact h_y0_4

theorem State.setInrst_foot (s : State) (u : Nat) (v : Bool) : Foot 1 s (State.setInrst s u v) := by
  unfold State.setInrst
  refine Foot.ite ?_ ?_
  · refine Foot.step (State.put_foot ..) rfl ?_
    exact Foot.refl
  · refine Foot.ite ?_ ?_
    · refine Foot.step (State.put_foot ..) rfl ?_
      exact Foot.refl
    · refine Foot.ite ?_ ?_
      · refine Foot.step (State.setBit_foot ..) rfl ?_
        exact Foot.refl
      · refine Foot.step (State.clrBit_foot ..) rfl ?_
        exact Foot.refl

theorem State.fwdReset_foot (s : State) : Foot 12902419 s (State.fwdReset s) := by
  unfold State.fwdReset
  extract_lets y0_0 y0_1 y0_2 y0_3 y0_4 y0_5
  clear_value y0_0
  clear_value y0_1
  have h_y0_2 : Foot 12902419 s y0_2 := by
    unfold y0_2
    refine Foot.each ?_ ?_
    · intro a1_0 a1_1
      refine Foot.step (State.clr_foot ..) rfl ?_
      exact Foot.refl
    · exact Foot.refl
  clear_value y0_2
  clear_value y0_3
  have h_y0_4 : Foot 12902419 s y0_4 := by
    unfold y0_4
    refine Foot.set_fwd rfl ?_
    exact h_y0_2
  clear_value y0_4
  have h_y0_5 : Foot 12902419 s y0_5 := by
    unfold y0_5
    refine Foot.each ?_ ?_
    · intro a1_0 a1_1
      refine Foot.ite ?_ ?_
      · refine Foot.step (State.dirPlanned_foot ..) rfl ?_
        exact Foot.refl
      · exact Foot.refl
    · refine Foot.step (State.cntReset_foot ..) rfl ?_
      exact h_y0_4
  clear_value y0_5
  refine Foot.each ?_ ?_
  · intro a1_0 a1_1
    refine Foot.ite ?_ ?_
    · refine Foot.step (State.pwFail_foot ..) rfl ?_
      exact Foot.refl
    · split
      · refine Foot.step (State.finish_foot ..) rfl ?_
        refine Foot.set_fab rfl ?_
        exact Foot.refl
      · exact Foot.refl
  · exact h_y0_5

theorem State.redReset_foot (s : State) : Foot 10487963 s (State.redReset s) := by
  unfold State.redReset
  extract_lets y0_0 y0_1 y0_2
  have h_y0_0 : Foot 10487963 s y0_0 := by
    unfold y0_0
    refine Foot.each ?_ ?_
    · intro a1_0 a1_1
      refine Foot.step (State.clr_foot ..) rfl ?_
      exact Foot.refl
    · exact Foot.refl
  clear_value y0_0
  clear_value y0_1
  have h_y0_2 : Foot 10487963 s y0_2 := by
    unfold y0_2
    refine Foot.set_red rfl ?_
    exact h_y0_0
  clear_value y0_2
  refine Foot.step (State.anchorOff_foot ..) rfl ?_
  refine Foot.step (State.setReach_foot ..) rfl ?_
  refine Foot.step (State.setReach_foot ..) rfl ?_
  refine Foot.step (State.put_foot ..) rfl ?_
  refine Foot.step (State.cntReset_foot ..) rfl ?_
  exact h_y0_2

theorem State.cfgReset_foot (s : State) : Foot 524289 s (State.cfgReset s) := by
  unfold State.cfgReset
  extract_lets y0_0 y0_1
  have h_y0_0 : Foot 524289 s y0_0 := by
    unfold y0_0
    refine Foot.each ?_ ?_
    · intro a1_0 a1_1
      refine Foot.step (State.clr_foot ..) rfl ?_
      exact Foot.refl
    · exact Foot.refl
  clear_value y0_0
  clear_value y0_1
  refine Foot.set_cfg rfl ?_
  exact h_y0_0

theorem State.rpeReset_foot (s : State) : Foot 67 s (State.rpeReset s) := by
  unfold State.rpeReset
  extract_lets y0_0
  clear_value y0_0
  refine Foot.step (State.put_foot ..) rfl ?_
  refine Foot.step (t := s) (m' := 67) ⟨rfl, fun i => ⟨Tab.wf_filter _ i.regs, Tab.wf_filter _ i.live, i.mem, i.biv, i.flash, i.fltQ, i.dlQ⟩, nofun, nofun, fun _ => rfl, fun _ => rfl, fun _ => rfl, fun _ => rfl, nofun, fun _ => rfl, fun _ => rfl, fun _ => rfl, fun _ => rfl, fun _ => rfl, fun _ => rfl, fun _ => rfl, fun _ => rfl, fun _ => rfl, fun _ => rfl, fun _ => rfl, fun _ => rfl, fun _ => rfl, fun _ => rfl, fun _ => rfl, fun _ => rfl, fun _ => rfl, fun _ => rfl, fun _ => rfl, fun _ => rfl, fun _ => rfl, fun _ => rfl⟩ rfl ?_
  exact Foot.refl

theorem State.coreReset_foot (s : State) (c : Nat) : Foot 9 s (State.coreReset s c) := by
  unfold State.coreReset
  refine Foot.step (State.put_foot ..) rfl ?_
  refine Foot.step (State.setLr_foot ..) rfl ?_
  exact Foot.refl

theorem State.fltReset_foot (s : State) : Foot 25165825 s (State.fltReset s) := by
  unfold State.fltReset
  extract_lets y0_0 y0_1
  have h_y0_0 : Foot 25165825 s y0_0 := by
    unfold y0_0
    refine Foot.each ?_ ?_
    · intro a1_0 a1_1
      refine Foot.step (State.put_foot ..) rfl ?_
      exact Foot.refl
    · exact Foot.refl
  clear_value y0_0
  have h_y0_1 : Foot 25165825 s y0_1 := by
    unfold y0_1
    refine Foot.each ?_ ?_
    · intro a1_0 a1_1
      refine Foot.step (State.clr_foot ..) rfl ?_
      exact Foot.refl
    · exact h_y0_0
  clear_value y0_1
  refine Foot.step (t := y0_1) (m' := 25165824) ⟨rfl, fun i => ⟨i.regs, i.live, i.mem, i.biv, i.flash, Nat.zero_le _, i.dlQ⟩, fun _ => rfl, fun _ => rfl, fun _ => rfl, fun _ => rfl, fun _ => rfl, fun _ => rfl, fun _ => rfl, fun _ => rfl, fun _ => rfl, fun _ => rfl, fun _ => rfl, fun _ => rfl, fun _ => rfl, fun _ => rfl, fun _ => rfl, fun _ => rfl, fun _ => rfl, fun _ => rfl, fun _ => rfl, fun _ => rfl, fun _ => rfl, fun _ => rfl, fun _ => rfl, nofun, nofun, fun _ => rfl, fun _ => rfl, fun _ => rfl, fun _ => rfl⟩ rfl ?_
  exact h_y0_1

theorem State.unitReset_foot (s : State) (u : Nat) : Foot 133103611 s (State.unitReset s u) := by
  unfold State.unitReset
  split
  · refine Foot.step (State.cfgReset_foot ..) rfl ?_
    exact Foot.refl
  · refine Foot.step (State.fltReset_foot ..) rfl ?_
    exact Foot.refl
  · refine Foot.step (State.intcUnitReset_foot ..) rfl ?_
    exact Foot.refl
  · refine Foot.step (State.laneReset_foot ..) rfl ?_
    exact Foot.refl
  · refine Foot.step (State.laneReset_foot ..) rfl ?_
    exact Foot.refl
  · refine Foot.step (State.laneReset_foot ..) rfl ?_
    exact Foot.refl
  · refine Foot.step (State.laneReset_foot ..) rfl ?_
    exact Foot.refl
  · refine Foot.step (State.rpeReset_foot ..) rfl ?_
    exact Foot.refl
  · refine Foot.step (State.fwdReset_foot ..) rfl ?_
    exact Foot.refl
  · refine Foot.step (State.redReset_foot ..) rfl ?_
    exact Foot.refl
  · refine Foot.step (State.timeReset_foot ..) rfl ?_
    exact Foot.refl
  · refine Foot.step (State.ggReset_foot ..) rfl ?_
    exact Foot.refl
  · refine Foot.step (State.sqReset_foot ..) rfl ?_
    exact Foot.refl
  · refine Foot.step (State.lsvReset_foot ..) rfl ?_
    exact Foot.refl
  · refine Foot.step (State.mbReset_foot ..) rfl ?_
    exact Foot.refl
  · refine Foot.step (State.hbrReset_foot ..) rfl ?_
    exact Foot.refl
  · refine Foot.step (State.updReset_foot ..) rfl ?_
    exact Foot.refl
  · refine Foot.step (State.tstReset_foot ..) rfl ?_
    exact Foot.refl
  · refine Foot.step (State.coreReset_foot ..) rfl ?_
    exact Foot.refl
  · refine Foot.step (State.coreReset_foot ..) rfl ?_
    exact Foot.refl
  · exact Foot.refl

theorem State.unitAssert_foot (s : State) (u : Nat) (x : UnitSt) : Foot 133103611 s (State.unitAssert s u x) := by
  unfold State.unitAssert
  extract_lets y0_0 y0_1 y0_2
  clear_value y0_0
  clear_value y0_1
  have h_y0_2 : Foot 133103611 s y0_2 := by
    unfold y0_2
    refine Foot.step (State.logOrder_foot ..) rfl ?_
    refine Foot.step (State.setUnit_foot ..) rfl ?_
    refine Foot.step (State.logReset_foot ..) rfl ?_
    exact Foot.refl
  clear_value y0_2
  refine Foot.step (State.setInrst_foot ..) rfl ?_
  refine Foot.step (State.unitReset_foot ..) rfl ?_
  exact h_y0_2

theorem State.unitAbsorb_foot (s : State) (cause u : Nat) (x : UnitSt) : Foot 2097153 s (State.unitAbsorb s cause u x) := by
  unfold State.unitAbsorb
  refine Foot.ite ?_ ?_
  · extract_lets y0_0
    clear_value y0_0
    refine Foot.step (State.logMulti_foot ..) rfl ?_
    refine Foot.step (State.setUnit_foot ..) rfl ?_
    exact Foot.refl
  · refine Foot.ite ?_ ?_
    · refine Foot.step (State.setUnit_foot ..) rfl ?_
      exact Foot.refl
    · refine Foot.ite ?_ ?_
      · refine Foot.step (State.wr_foot ..) rfl ?_
        exact Foot.refl
      · exact Foot.refl

theorem State.unitRequest_foot (s : State) (cause u : Nat) : Foot 134152191 s (State.unitRequest s cause u) := by
  unfold State.unitRequest
  refine Foot.ite ?_ ?_
  · refine Foot.step (State.warmReset_foot ..) rfl ?_
    exact Foot.refl
  · refine Foot.ite ?_ ?_
    · refine Foot.step (State.fault_foot ..) rfl ?_
      exact Foot.refl
    · split
      · refine Foot.step (State.logMulti_foot ..) rfl ?_
        exact Foot.refl
      · split
        · refine Foot.ite ?_ ?_
          · refine Foot.step (State.unitAssert_foot ..) rfl ?_
            refine Foot.step (State.rcUse_foot ..) rfl ?_
            exact Foot.refl
          · refine Foot.step (State.unitAbsorb_foot ..) rfl ?_
            exact Foot.refl
        · extract_lets y2_0
          have h_y2_0 : Foot 134152191 s y2_0 := by
            unfold y2_0
            refine Foot.step (State.setUnit_foot ..) rfl ?_
            refine Foot.step (State.rcUse_foot ..) rfl ?_
            exact Foot.refl
          clear_value y2_0
          refine Foot.ite ?_ ?_
          · refine Foot.step (State.laneIdle_foot ..) rfl ?_
            exact h_y2_0
          · exact h_y2_0

theorem State.wdReload_foot (s : State) (n : Nat) : Foot 2097153 s (State.wdReload s n) := by
  unfold State.wdReload
  extract_lets y0_0 y0_1
  have h_y0_0 : Foot 2097153 s y0_0 := by
    unfold y0_0
    refine Foot.step (State.put_foot ..) rfl ?_
    exact Foot.refl
  clear_value y0_0
  clear_value y0_1
  refine Foot.set_sys rfl ?_
  exact h_y0_0

theorem State.wdKick_foot (s : State) (n : Nat) : Foot 2097153 s (State.wdKick s n) := by
  unfold State.wdKick
  refine Foot.step (State.put_foot ..) rfl ?_
  refine Foot.step (State.wdReload_foot ..) rfl ?_
  exact Foot.refl

theorem State.unitRelease_foot (s : State) (u : Nat) : Foot 115927227 s (State.unitRelease s u) := by
  unfold State.unitRelease
  split
  · refine Foot.ite ?_ ?_
    · exact Foot.refl
    · refine Foot.set_cfg rfl ?_
      exact Foot.refl
  · refine Foot.step (State.intcSample_foot ..) rfl ?_
    exact Foot.refl
  · refine Foot.step (State.laneRelease_foot ..) rfl ?_
    exact Foot.refl
  · refine Foot.step (State.laneRelease_foot ..) rfl ?_
    exact Foot.refl
  · refine Foot.step (State.laneRelease_foot ..) rfl ?_
    exact Foot.refl
  · refine Foot.step (State.laneRelease_foot ..) rfl ?_
    exact Foot.refl
  · refine Foot.step (State.creditPump_foot ..) rfl ?_
    refine Foot.step (State.dirRight_foot ..) rfl ?_
    refine Foot.step (State.dirRight_foot ..) rfl ?_
    exact Foot.refl
  · refine Foot.step (State.eligCheck_foot ..) rfl ?_
    refine Foot.step (State.dirRight_foot ..) rfl ?_
    refine Foot.step (State.dirRight_foot ..) rfl ?_
    exact Foot.refl
  · refine Foot.step (State.lsvRelease_foot ..) rfl ?_
    exact Foot.refl
  · refine Foot.step (State.mbRelease_foot ..) rfl ?_
    exact Foot.refl
  · refine Foot.step (State.put_foot ..) rfl ?_
    refine Foot.ite ?_ ?_
    · refine Foot.step (State.wdKick_foot ..) rfl ?_
      exact Foot.refl
    · exact Foot.refl
  · refine Foot.step (State.put_foot ..) rfl ?_
    refine Foot.ite ?_ ?_
    · refine Foot.step (State.wdKick_foot ..) rfl ?_
      exact Foot.refl
    · exact Foot.refl
  · exact Foot.refl

theorem execUnitIdleAck_foot (unit : BitVec 8) (s : State) : FootO 133103611 s (execUnitIdleAck unit s) := by
  unfold execUnitIdleAck
  refine FootO.next ?_
  split
  · refine Foot.ite ?_ ?_
    · refine Foot.step (State.unitAssert_foot ..) rfl ?_
      exact Foot.refl
    · exact Foot.refl
  · exact Foot.refl

theorem execIdleTimeout_foot (unit : BitVec 8) (s : State) : FootO 133103611 s (execIdleTimeout unit s) := by
  unfold execIdleTimeout
  refine FootO.next ?_
  split
  · refine Foot.ite ?_ ?_
    · refine Foot.step (State.unitAssert_foot ..) rfl ?_
      refine Foot.step (State.fault_foot ..) rfl ?_
      refine Foot.step (State.logReset_foot ..) rfl ?_
      exact Foot.refl
    · exact Foot.refl
  · exact Foot.refl

theorem State.setDie_foot (s : State) (x : Option Nat) : Foot 2097152 s (State.setDie s x) := by
  unfold State.setDie
  refine Foot.set_sys rfl ?_
  exact Foot.refl

theorem execResetAssertEnd_foot (unit : BitVec 8) (s : State) : FootO 2097152 s (execResetAssertEnd unit s) := by
  unfold execResetAssertEnd
  refine FootO.next ?_
  refine Foot.ite ?_ ?_
  · refine Foot.ite ?_ ?_
    · refine Foot.step (State.setDie_foot ..) rfl ?_
      exact Foot.refl
    · exact Foot.refl
  · split
    · refine Foot.ite ?_ ?_
      · refine Foot.step (State.setUnit_foot ..) rfl ?_
        exact Foot.refl
      · exact Foot.refl
    · exact Foot.refl

theorem execUnitRelease_foot (unit : BitVec 8) (s : State) : FootO 115927227 s (execUnitRelease unit s) := by
  unfold execUnitRelease
  refine FootO.next ?_
  refine Foot.ite ?_ ?_
  · refine Foot.ite ?_ ?_
    · refine Foot.step (State.setDie_foot ..) rfl ?_
      exact Foot.refl
    · exact Foot.refl
  · split
    · refine Foot.ite ?_ ?_
      · refine Foot.step (State.unitRelease_foot ..) rfl ?_
        refine Foot.step (State.setInrst_foot ..) rfl ?_
        refine Foot.step (State.setUnit_foot ..) rfl ?_
        exact Foot.refl
      · exact Foot.refl
    · exact Foot.refl

theorem State.clockFail_foot (s : State) (u : Nat) (x : UnitSt) : Foot 10485763 s (State.clockFail s u x) := by
  unfold State.clockFail
  extract_lets y0_0 y0_1
  have h_y0_0 : Foot 10485763 s y0_0 := by
    unfold y0_0
    refine Foot.step (State.setUnit_foot ..) rfl ?_
    exact Foot.refl
  clear_value y0_0
  have h_y0_1 : Foot 10485763 s y0_1 := by
    unfold y0_1
    refine Foot.ite ?_ ?_
    · refine Foot.step (State.put_foot ..) rfl ?_
      exact h_y0_0
    · refine Foot.ite ?_ ?_
      · refine Foot.step (State.put_foot ..) rfl ?_
        exact h_y0_0
      · refine Foot.step (State.setBit_foot ..) rfl ?_
        exact h_y0_0
  clear_value y0_1
  refine Foot.step (State.fault_foot ..) rfl ?_
  refine Foot.step (State.logReset_foot ..) rfl ?_
  exact h_y0_1

theorem execClockNotReady_foot (unit : BitVec 8) (s : State) : FootO 10485763 s (execClockNotReady unit s) := by
  unfold execClockNotReady
  refine FootO.next ?_
  split
  · refine Foot.ite ?_ ?_
    · refine Foot.step (State.clockFail_foot ..) rfl ?_
      exact Foot.refl
    · exact Foot.refl
  · refine Foot.ite ?_ ?_
    · refine Foot.step (State.clockFail_foot ..) rfl ?_
      refine Foot.step (State.setInrst_foot ..) rfl ?_
      exact Foot.refl
    · exact Foot.refl

theorem execSoftwareReset_foot (unit : BitVec 8) (key : BitVec 16) (s : State) : FootO 134152191 s (execSoftwareReset unit key s) := by
  unfold execSoftwareReset
  refine FootO.next ?_
  refine State.cmd_foot rfl ?_ ?_
  · intro a0_0
    refine Foot.ite ?_ ?_
    · refine Foot.step (State.unitRequest_foot ..) rfl ?_
      refine Foot.step (State.rcUse_foot ..) rfl ?_
      exact Foot.refl
    · refine Foot.step (State.rcUse_foot ..) rfl ?_
      exact Foot.refl
  · exact Foot.refl

theorem execPowerOnReset_foot (stacked : Bool) (s : State) : FootO 536870911 s (execPowerOnReset stacked s) := by
  unfold execPowerOnReset
  refine FootO.next ?_
  refine Foot.step (State.porReset_foot ..) rfl ?_
  exact Foot.refl

theorem execResetN_foot (s : State) : FootO 134152191 s (execResetN s) := by
  unfold execResetN
  refine FootO.next ?_
  refine Foot.step (State.warmReset_foot ..) rfl ?_
  exact Foot.refl

theorem execTrialExpiry_foot (s : State) : FootO 134152191 s (execTrialExpiry s) := by
  unfold execTrialExpiry
  refine FootO.next ?_
  refine Foot.ite ?_ ?_
  · refine Foot.step (State.warmReset_foot ..) rfl ?_
    exact Foot.refl
  · exact Foot.refl

theorem execLogClear_foot (s : State) : FootO 10485763 s (execLogClear s) := by
  unfold execLogClear
  refine FootO.next ?_
  refine State.cmd_foot rfl ?_ ?_
  · intro a0_0
    refine Foot.step (State.logClear_foot ..) rfl ?_
    refine Foot.step (State.rcUse_foot ..) rfl ?_
    exact Foot.refl
  · exact Foot.refl

theorem State.wdWrite_foot (s : State) (n : Nat) (w : Word) : Foot 2097153 s (State.wdWrite s n w) := by
  unfold State.wdWrite
  extract_lets y0_0 y0_1
  clear_value y0_0
  have h_y0_1 : Foot 2097153 s y0_1 := by
    unfold y0_1
    refine Foot.step (State.put_foot ..) rfl ?_
    refine Foot.step (State.put_foot ..) rfl ?_
    refine Foot.step (State.put_foot ..) rfl ?_
    exact Foot.refl
  clear_value y0_1
  refine Foot.ite ?_ ?_
  · refine Foot.step (State.wdKick_foot ..) rfl ?_
    exact h_y0_1
  · exact h_y0_1

theorem execWdogStart_foot (n : Fin 2) (ctl : Word) (s : State) : FootO 10485763 s (execWdogStart n ctl s) := by
  unfold execWdogStart
  refine FootO.next ?_
  refine State.cmd_foot rfl ?_ ?_
  · intro a0_0
    refine Foot.step (State.wdWrite_foot ..) rfl ?_
    refine Foot.step (State.rcUse_foot ..) rfl ?_
    exact Foot.refl
  · exact Foot.refl

theorem State.wdExpire_foot (s : State) (n : Nat) : Foot 134152191 s (State.wdExpire s n) := by
  unfold State.wdExpire
  refine Foot.ite ?_ ?_
  · refine Foot.step (State.put_foot ..) rfl ?_
    refine Foot.step (State.wdReload_foot ..) rfl ?_
    refine Foot.step (State.fault_foot ..) rfl ?_
    refine Foot.step (State.edgeIrq_foot ..) rfl ?_
    exact Foot.refl
  · refine Foot.ite ?_ ?_
    · refine Foot.step (State.unitRequest_foot ..) rfl ?_
      refine Foot.step (State.put_foot ..) rfl ?_
      exact Foot.refl
    · refine Foot.step (State.warmReset_foot ..) rfl ?_
      exact Foot.refl

theorem State.wdKickWrite_foot (s : State) (n : Nat) (w : Word) : Foot 134152191 s (State.wdKickWrite s n w) := by
  unfold State.wdKickWrite
  refine Foot.ite ?_ ?_
  · exact Foot.refl
  · refine Foot.ite ?_ ?_
    · refine Foot.step (State.wdKick_foot ..) rfl ?_
      exact Foot.refl
    · refine Foot.step (State.wdExpire_foot ..) rfl ?_
      exact Foot.refl

theorem execWdogKick_foot (n : Fin 2) (value : Word) (s : State) : FootO 134152191 s (execWdogKick n value s) := by
  unfold execWdogKick
  refine FootO.next ?_
  refine State.cmd_foot rfl ?_ ?_
  · intro a0_0
    refine Foot.step (State.wdKickWrite_foot ..) rfl ?_
    refine Foot.step (State.rcUse_foot ..) rfl ?_
    exact Foot.refl
  · exact Foot.refl

theorem execWdogExpiry_foot (n : Fin 2) (s : State) : FootO 134152191 s (execWdogExpiry n s) := by
  unfold execWdogExpiry
  refine FootO.next ?_
  refine Foot.ite ?_ ?_
  · refine Foot.step (State.wdExpire_foot ..) rfl ?_
    exact Foot.refl
  · exact Foot.refl

theorem State.remoteFail_foot (s : State) (node : Nat) : Foot 8388611 s (State.remoteFail s node) := by
  unfold State.remoteFail
  extract_lets y0_0 y0_1
  clear_value y0_0
  have h_y0_1 : Foot 8388611 s y0_1 := by
    unfold y0_1
    refine Foot.step (State.put_foot ..) rfl ?_
    exact Foot.refl
  clear_value y0_1
  refine Foot.step (State.fault_foot ..) rfl ?_
  refine Foot.ite ?_ ?_
  · refine Foot.step (State.put_foot ..) rfl ?_
    exact h_y0_1
  · exact h_y0_1

theorem State.remoteAuth_foot (s : State) (word : Word) (node : Nat) (bcast : Bool) : Foot 10485763 s (State.remoteAuth s word node bcast) := by
  unfold State.remoteAuth
  refine Foot.ite ?_ ?_
  · exact Foot.refl
  · refine Foot.ite ?_ ?_
    · refine Foot.step (State.fault_foot ..) rfl ?_
      exact Foot.refl
    · refine Foot.ite ?_ ?_
      · refine Foot.step (State.remoteFail_foot ..) rfl ?_
        exact Foot.refl
      · extract_lets y0_0 y0_1
        clear_value y0_0
        clear_value y0_1
        refine Foot.set_sys rfl ?_
        exact Foot.refl

theorem State.remoteCmd_foot (s : State) (unit node : Nat) (bcast : Bool) : Foot 134152191 s (State.remoteCmd s unit node bcast) := by
  unfold State.remoteCmd
  refine Foot.ite ?_ ?_
  · exact Foot.refl
  · refine Foot.ite ?_ ?_
    · refine Foot.step (State.fault_foot ..) rfl ?_
      exact Foot.refl
    · refine Foot.ite ?_ ?_
      · refine Foot.step (State.unitRequest_foot ..) rfl ?_
        exact Foot.refl
      · refine Foot.step (State.remoteFail_foot ..) rfl ?_
        exact Foot.refl

theorem execRemoteAuth_foot (word : Word) (node : BitVec 8) (bcast : Bool) (s : State) : FootO 10485763 s (execRemoteAuth word node bcast s) := by
  unfold execRemoteAuth
  refine FootO.next ?_
  refine State.cmd_foot rfl ?_ ?_
  · intro a0_0
    refine Foot.step (State.remoteAuth_foot ..) rfl ?_
    refine Foot.step (State.rcUse_foot ..) rfl ?_
    exact Foot.refl
  · exact Foot.refl

theorem execRemoteCmd_foot (unit node : BitVec 8) (bcast : Bool) (s : State) : FootO 134152191 s (execRemoteCmd unit node bcast s) := by
  unfold execRemoteCmd
  refine FootO.next ?_
  refine State.cmd_foot rfl ?_ ?_
  · intro a0_0
    refine Foot.step (State.remoteCmd_foot ..) rfl ?_
    refine Foot.step (State.rcUse_foot ..) rfl ?_
    exact Foot.refl
  · exact Foot.refl

theorem execStrapSample_foot (testmode compat : Bool) (stackId : Fin 4) (twinPref head : Bool) (s : State) : FootO 2097153 s (execStrapSample testmode compat stackId twinPref head s) := by
  unfold execStrapSample
  extract_lets y0_0 y0_1
  clear_value y0_0
  have h_y0_1 : Foot 2097153 s y0_1 := by
    unfold y0_1
    refine Foot.set_sys rfl ?_
    exact Foot.refl
  clear_value y0_1
  refine FootO.next ?_
  refine Foot.step (State.setGh320_foot ..) rfl ?_
  refine Foot.step (State.put_foot ..) rfl ?_
  refine Foot.step (State.put_foot ..) rfl ?_
  refine Foot.step (State.put_foot ..) rfl ?_
  refine Foot.step (State.put_foot ..) rfl ?_
  refine Foot.step (State.put_foot ..) rfl ?_
  exact h_y0_1

theorem execRailsOk_foot (s : State) : FootO 1 s (execRailsOk s) := by
  unfold execRailsOk
  refine FootO.next ?_
  refine Foot.ite ?_ ?_
  · refine Foot.step (State.put_foot ..) rfl ?_
    refine Foot.step (State.put_foot ..) rfl ?_
    exact Foot.refl
  · exact Foot.refl

theorem execRefclkAbsent_foot (s : State) : FootO 10751163 s (execRefclkAbsent s) := by
  unfold execRefclkAbsent
  refine FootO.next ?_
  refine Foot.step (State.fault_foot ..) rfl ?_
  refine Foot.step (State.refclkGone_foot ..) rfl ?_
  refine Foot.set_sys rfl ?_
  exact Foot.refl

theorem execRefclkAbsentReport_foot (s : State) : FootO 8388611 s (execRefclkAbsentReport s) := by
  unfold execRefclkAbsentReport
  refine FootO.next ?_
  refine Foot.ite ?_ ?_
  · exact Foot.refl
  · refine Foot.step (State.fault_foot ..) rfl ?_
    exact Foot.refl

theorem execRefclkArrival_foot (s : State) : FootO 2097152 s (execRefclkArrival s) := by
  unfold execRefclkArrival
  refine FootO.next ?_
  refine Foot.set_sys rfl ?_
  exact Foot.refl

theorem execRc100Stop_foot (s : State) : FootO 2097152 s (execRc100Stop s) := by
  unfold execRc100Stop
  refine FootO.next ?_
  refine Foot.ite ?_ ?_
  · exact Foot.refl
  · refine Foot.set_sys rfl ?_
    exact Foot.refl

end Sys2Proof.Machine
end

