-- ==== Sys2Proof/Laws/FootMode.lean ====
section
/-! SUPPORT. The footprints of the operations and meanings of Sys2Proof.Machine.Mode. -/
namespace Sys2Proof.Machine

theorem State.reqStat_foot (s : State) (st code : Nat) : Foot 1 s (State.reqStat s st code) := by
  unfold State.reqStat
  extract_lets y0_0
  have h_y0_0 : Foot 1 s y0_0 := by
    unfold y0_0
    refine Foot.step (State.put_foot ..) rfl ?_
    refine Foot.step (State.put_foot ..) rfl ?_
    exact Foot.refl
  clear_value y0_0
  refine Foot.ite ?_ ?_
  · refine Foot.step (State.edgeIrq_foot ..) rfl ?_
    exact h_y0_0
  · exact h_y0_0

theorem State.setWakeTimer_foot (s : State) (v : Word) : Foot 2097153 s (State.setWakeTimer s v) := by
  unfold State.setWakeTimer
  extract_lets y0_0 y0_1
  have h_y0_0 : Foot 2097153 s y0_0 := by
    unfold y0_0
    refine Foot.step (State.wr_foot ..) rfl ?_
    exact Foot.refl
  clear_value y0_0
  clear_value y0_1
  refine Foot.set_sys rfl ?_
  exact h_y0_0

theorem State.mpcWrite_foot (s : State) : Foot 2097152 s (State.mpcWrite s) := by
  unfold State.mpcWrite
  refine Foot.set_sys rfl ?_
  exact Foot.refl

theorem State.wakeLat_foot (s : State) : Foot 2097153 s (State.wakeLat s) := by
  unfold State.wakeLat
  split
  · extract_lets y1_0 y1_1
    have h_y1_0 : Foot 2097153 s y1_0 := by
      unfold y1_0
      refine Foot.step (State.put_foot ..) rfl ?_
      exact Foot.refl
    clear_value y1_0
    clear_value y1_1
    refine Foot.set_sys rfl ?_
    exact h_y1_0
  · exact Foot.refl

theorem State.coresRun_foot (s : State) (v : Bool) : Foot 1 s (State.coresRun s v) := by
  unfold State.coresRun
  extract_lets y0_0
  clear_value y0_0
  refine Foot.step (State.put_foot ..) rfl ?_
  refine Foot.step (State.put_foot ..) rfl ?_
  exact Foot.refl

theorem State.stackSend_foot (s : State) (m : Nat) : Foot 2097152 s (State.stackSend s m) := by
  unfold State.stackSend
  refine Foot.ite ?_ ?_
  · refine Foot.set_sys rfl ?_
    exact Foot.refl
  · exact Foot.refl

theorem State.watchEntry_foot (s : State) : Foot 2305 s (State.watchEntry s) := by
  unfold State.watchEntry
  refine Foot.step (State.coresRun_foot ..) rfl ?_
  refine Foot.step (State.ggSleep_foot ..) rfl ?_
  exact Foot.refl

theorem State.runEntry_foot (s : State) : Foot 2097153 s (State.runEntry s) := by
  unfold State.runEntry
  extract_lets y0_0 y0_1
  have h_y0_0 : Foot 2097153 s y0_0 := by
    unfold y0_0
    refine Foot.step (State.wakeLat_foot ..) rfl ?_
    refine Foot.step (State.put_foot ..) rfl ?_
    refine Foot.step (State.coresRun_foot ..) rfl ?_
    exact Foot.refl
  clear_value y0_0
  clear_value y0_1
  refine Foot.set_sys rfl ?_
  exact h_y0_0

theorem State.islandEntry_foot (s : State) : Foot 8391939 s (State.islandEntry s) := by
  unfold State.islandEntry
  refine Foot.step (State.islandActions_foot ..) rfl ?_
  refine Foot.ite ?_ ?_
  · refine Foot.step (State.holdover_foot ..) rfl ?_
    exact Foot.refl
  · exact Foot.refl

theorem State.reqEnds_foot (s : State) (m : Nat) : Foot 2097153 s (State.reqEnds s m) := by
  unfold State.reqEnds
  refine Foot.ite ?_ ?_
  · refine Foot.step (State.reqStat_foot ..) rfl ?_
    refine Foot.set_sys rfl ?_
    exact Foot.refl
  · refine Foot.ite ?_ ?_
    · refine Foot.step (State.reqStat_foot ..) rfl ?_
      refine Foot.set_sys rfl ?_
      exact Foot.refl
    · exact Foot.refl

theorem State.setMode_foot (s : State) (m : Nat) : Foot 10751419 s (State.setMode s m) := by
  unfold State.setMode
  extract_lets old s0 s1 y s2 s3 s4 s5
  have h0 : Foot 10751419 s s0 := by
    unfold s0
    exact Foot.ite (Foot.step (State.proofAbort_foot ..) rfl Foot.refl) Foot.refl
  clear_value s0
  have h1 : Foot 10751419 s s1 :=
    Foot.step (State.put_foot ..) rfl (Foot.step (State.put_foot ..) rfl (Foot.step (State.put_foot ..) rfl h0))
  clear_value s1
  have h2 : Foot 10751419 s s2 := Foot.set_sys rfl h1
  clear_value s2
  have h3 : Foot 10751419 s s3 := Foot.when (fun _ => Foot.step (State.stackSend_foot ..) rfl Foot.refl) h2
  clear_value s3
  have h4 : Foot 10751419 s s4 := by
    unfold s4
    exact Foot.ite (Foot.step (State.ggWake_foot ..) rfl (Foot.step (State.coresRun_foot ..) rfl h3)) h3
  clear_value s4
  have h5 : Foot 10751419 s s5 := by
    unfold s5
    split
    · exact Foot.step (State.watchEntry_foot ..) rfl h4
    · exact Foot.step (State.runEntry_foot ..) rfl h4
    · exact Foot.step (State.proofStart_foot ..) rfl h4
    · exact Foot.step (State.islandEntry_foot ..) rfl h4
    · exact h4
  exact Foot.step (State.eligCheck_foot ..) rfl (Foot.step (State.reqEnds_foot ..) rfl h5)

theorem State.watchLanes_foot (s : State) : Foot 2360481 s (State.watchLanes s) := by
  unfold State.watchLanes
  extract_lets y0_0 y0_1
  clear_value y0_0
  have h_y0_1 : Foot 2360481 s y0_1 := by
    unfold y0_1
    refine Foot.set_sys rfl ?_
    exact Foot.refl
  clear_value y0_1
  refine Foot.each ?_ ?_
  · intro a1_0 a1_1
    extract_lets y2_0 y2_1 y2_2
    clear_value y2_0
    clear_value y2_1
    clear_value y2_2
    refine Foot.ite ?_ ?_
    · exact Foot.refl
    · refine Foot.step (State.stepTo_foot ..) rfl ?_
      exact Foot.refl
  · exact h_y0_1

theorem State.dormantGo_foot (s : State) : Foot 2097153 s (State.dormantGo s) := by
  unfold State.dormantGo
  extract_lets y0_0 y0_1
  have h_y0_0 : Foot 2097153 s y0_0 := by
    unfold y0_0
    refine Foot.step (State.put_foot ..) rfl ?_
    refine Foot.step (State.stackSend_foot ..) rfl ?_
    exact Foot.refl
  clear_value y0_0
  clear_value y0_1
  refine Foot.set_sys rfl ?_
  exact h_y0_0

theorem State.takeMode_foot (s : State) (m : Nat) : Foot 10751419 s (State.takeMode s m) := by
  unfold State.takeMode
  refine Foot.ite ?_ ?_
  · exact Foot.refl
  · split
    · refine Foot.step (State.dormantGo_foot ..) rfl ?_
      exact Foot.refl
    · refine Foot.step (State.watchLanes_foot ..) rfl ?_
      refine Foot.step (State.setMode_foot ..) rfl ?_
      exact Foot.refl
    · refine Foot.ite ?_ ?_
      · refine Foot.step (State.startWake_foot ..) rfl ?_
        exact Foot.refl
      · refine Foot.step (State.setMode_foot ..) rfl ?_
        exact Foot.refl
    · refine Foot.step (State.setMode_foot ..) rfl ?_
      exact Foot.refl

theorem State.actHeld_foot (s : State) : Foot 10751419 s (State.actHeld s) := by
  unfold State.actHeld
  refine Foot.ite ?_ ?_
  · exact Foot.refl
  · extract_lets y0_0 y0_1
    clear_value y0_0
    have h_y0_1 : Foot 10751419 s y0_1 := by
      unfold y0_1
      refine Foot.set_sys rfl ?_
      exact Foot.refl
    clear_value y0_1
    refine Foot.ite ?_ ?_
    · refine Foot.step (State.setMode_foot ..) rfl ?_
      exact h_y0_1
    · split
      · refine Foot.step (State.takeMode_foot ..) rfl ?_
        exact h_y0_1
      · refine Foot.ite ?_ ?_
        · refine Foot.step (State.startWake_foot ..) rfl ?_
          exact h_y0_1
        · exact h_y0_1

theorem State.islandNow_foot (s : State) : Foot 10751419 s (State.islandNow s) := by
  unfold State.islandNow
  extract_lets y0_0 y0_1
  have h_y0_0 : Foot 10751419 s y0_0 := by
    unfold y0_0
    refine Foot.step (State.put_foot ..) rfl ?_
    exact Foot.refl
  clear_value y0_0
  clear_value y0_1
  refine Foot.step (State.setMode_foot ..) rfl ?_
  refine Foot.set_sys rfl ?_
  exact h_y0_0

theorem State.toMaintain_foot (s : State) : Foot 10751419 s (State.toMaintain s) := by
  unfold State.toMaintain
  refine Foot.ite ?_ ?_
  · extract_lets y0_0 y0_1
    have h_y0_0 : Foot 10751419 s y0_0 := by
      unfold y0_0
      refine Foot.step (State.put_foot ..) rfl ?_
      refine Foot.step (State.yieldAnchor_foot ..) rfl ?_
      exact Foot.refl
    clear_value y0_0
    clear_value y0_1
    refine Foot.set_sys rfl ?_
    exact h_y0_0
  · refine Foot.step (State.setMode_foot ..) rfl ?_
    exact Foot.refl

theorem State.islandGo_foot (s : State) : Foot 10751419 s (State.islandGo s) := by
  unfold State.islandGo
  refine Foot.ite ?_ ?_
  · exact Foot.refl
  · refine Foot.ite ?_ ?_
    · refine Foot.set_sys rfl ?_
      exact Foot.refl
    · refine Foot.ite ?_ ?_
      · refine Foot.step (State.setMode_foot ..) rfl ?_
        exact Foot.refl
      · exact Foot.refl

theorem State.islandCause_foot (s : State) : Foot 10751419 s (State.islandCause s) := by
  unfold State.islandCause
  refine Foot.when ?_ ?_
  · intro a0_0
    refine Foot.step (State.islandGo_foot ..) rfl ?_
    exact Foot.refl
  · exact Foot.refl

theorem State.proofStop_foot (s : State) : Foot 10751163 s (State.proofStop s) := by
  unfold State.proofStop
  refine Foot.ite ?_ ?_
  · refine Foot.step (State.proofAbort_foot ..) rfl ?_
    refine Foot.step (State.fault_foot ..) rfl ?_
    exact Foot.refl
  · exact Foot.refl

theorem State.reqWait_foot (s : State) (q : Option (Nat × Nat)) (r : Bool) : Foot 2097152 s (State.reqWait s q r) := by
  unfold State.reqWait
  refine Foot.set_sys rfl ?_
  exact Foot.refl

theorem State.reqAccept_foot (s : State) (target : Nat) (atTime : Bool) : Foot 10751163 s (State.reqAccept s target atTime) := by
  unfold State.reqAccept
  extract_lets y0_0 y0_1 y0_2 y0_3
  clear_value y0_0
  have h_y0_1 : Foot 10751163 s y0_1 := by
    unfold y0_1
    refine Foot.step (State.reqStat_foot ..) rfl ?_
    exact Foot.refl
  clear_value y0_1
  clear_value y0_2
  have h_y0_3 : Foot 10751163 s y0_3 := by
    unfold y0_3
    refine Foot.ite ?_ ?_
    · refine Foot.step (State.miss_foot ..) rfl ?_
      refine Foot.step (State.put_foot ..) rfl ?_
      exact h_y0_1
    · exact h_y0_1
  clear_value y0_3
  refine Foot.ite ?_ ?_
  · refine Foot.step (State.reqWait_foot ..) rfl ?_
    refine Foot.step (State.put_foot ..) rfl ?_
    exact h_y0_3
  · refine Foot.ite ?_ ?_
    · refine Foot.step (State.reqWait_foot ..) rfl ?_
      refine Foot.step (State.startWake_foot ..) rfl ?_
      exact h_y0_3
    · refine Foot.ite ?_ ?_
      · refine Foot.step (State.reqWait_foot ..) rfl ?_
        refine Foot.step (State.proofStop_foot ..) rfl ?_
        exact h_y0_3
      · refine Foot.step (State.reqWait_foot ..) rfl ?_
        exact h_y0_3

theorem State.modeRequest_foot (s : State) (w : Word) (node chip : Nat) : Foot 10751163 s (State.modeRequest s w node chip) := by
  unfold State.modeRequest
  extract_lets y0_0 y0_1 y0_2 y0_3 y0_4 y0_5
  clear_value y0_0
  clear_value y0_1
  have h_y0_2 : Foot 10751163 s y0_2 := by
    unfold y0_2
    refine Foot.step (State.mpcWrite_foot ..) rfl ?_
    exact Foot.refl
  clear_value y0_2
  clear_value y0_3
  have h_y0_4 : Foot 10751163 s y0_4 := by
    unfold y0_4
    refine Foot.ite ?_ ?_
    · refine Foot.step (State.reqAccept_foot ..) rfl ?_
      exact h_y0_2
    · refine Foot.step (State.reqStat_foot ..) rfl ?_
      exact h_y0_2
  clear_value y0_4
  have h_y0_5 : Foot 10751163 s y0_5 := by
    unfold y0_5
    refine Foot.step (State.put_foot ..) rfl ?_
    exact h_y0_4
  clear_value y0_5
  refine Foot.ite ?_ ?_
  · refine Foot.ite ?_ ?_
    · exact h_y0_5
    · refine Foot.step (State.startWake_foot ..) rfl ?_
      exact h_y0_5
  · exact h_y0_4

theorem execModeRequest_foot (word : Word) (who : Who) (s : State) : FootO 10751163 s (execModeRequest word who s) := by
  unfold execModeRequest
  refine FootO.next ?_
  refine State.cmd_foot rfl ?_ ?_
  · intro a0_0
    refine Foot.step (State.modeRequest_foot ..) rfl ?_
    exact Foot.refl
  · exact Foot.refl

theorem State.reqTake_foot (s : State) (target : Nat) : Foot 10751419 s (State.reqTake s target) := by
  unfold State.reqTake
  extract_lets y0_0 y0_1 y0_2 y0_3 y0_4
  clear_value y0_0
  have h_y0_1 : Foot 10751419 s y0_1 := by
    unfold y0_1
    refine Foot.set_sys rfl ?_
    exact Foot.refl
  clear_value y0_1
  clear_value y0_2
  clear_value y0_3
  have h_y0_4 : Foot 10751419 s y0_4 := by
    unfold y0_4
    refine Foot.step (State.toMaintain_foot ..) rfl ?_
    exact h_y0_1
  clear_value y0_4
  refine Foot.ite ?_ ?_
  · refine Foot.step (State.reqStat_foot ..) rfl ?_
    exact h_y0_1
  · refine Foot.ite ?_ ?_
    · refine Foot.step (State.startWake_foot ..) rfl ?_
      refine Foot.set_sys rfl ?_
      exact h_y0_1
    · refine Foot.ite ?_ ?_
      · refine Foot.ite ?_ ?_
        · refine Foot.step (State.reqStat_foot ..) rfl ?_
          exact h_y0_4
        · exact h_y0_4
      · refine Foot.step (State.reqStat_foot ..) rfl ?_
        refine Foot.step (State.setMode_foot ..) rfl ?_
        exact h_y0_1

theorem execModeRequestTimed_foot (s : State) : FootO 10751419 s (execModeRequestTimed s) := by
  unfold execModeRequestTimed
  refine FootO.next ?_
  split
  · extract_lets y1_0
    have h_y1_0 : Foot 10751419 s y1_0 := by
      unfold y1_0
      refine Foot.step (State.toBoundary_foot ..) rfl ?_
      exact Foot.refl
    clear_value y1_0
    refine Foot.ite ?_ ?_
    · refine Foot.step (State.actHeld_foot ..) rfl ?_
      refine Foot.step (State.reqTake_foot ..) rfl ?_
      exact h_y1_0
    · exact Foot.refl
  · exact Foot.refl

theorem State.commitMode_foot (s : State) (sh : Word) (ring : Bool) : Foot 10751419 s (State.commitMode s sh ring) := by
  have hr : ∀ a b, Foot 10751419 s (s.reqStat a b) := fun _ _ => Foot.step (State.reqStat_foot ..) rfl Foot.refl
  unfold State.commitMode
  extract_lets target code s0 s1
  have h0 : Foot 10751419 s s0 := Foot.step (State.reqWait_foot ..) rfl Foot.refl
  clear_value target code s0
  have h1 : Foot 10751419 s s1 := Foot.step (State.toMaintain_foot ..) rfl (Foot.step (State.reqStat_foot ..) rfl h0)
  clear_value s1
  refine Foot.ite Foot.refl (Foot.ite (hr _ _) (Foot.ite (hr _ _) ?_))
  split
  · exact Foot.step (State.dormantGo_foot ..) rfl (Foot.step (State.reqStat_foot ..) rfl h0)
  · exact Foot.step (State.watchLanes_foot ..) rfl (Foot.step (State.reqStat_foot ..) rfl
      (Foot.step (State.setMode_foot ..) rfl h0))
  · refine Foot.ite ?_ (Foot.step (State.reqStat_foot ..) rfl (Foot.step (State.setMode_foot ..) rfl
      (Foot.step (State.proofStop_foot ..) rfl h0)))
    exact Foot.step (State.startWake_foot ..) rfl (Foot.step (State.reqWait_foot ..) rfl
      (Foot.step (State.reqStat_foot ..) rfl h0))
  · exact Foot.ite (Foot.step (State.reqStat_foot ..) rfl h1) h1
  · exact Foot.step (State.reqStat_foot ..) rfl (Foot.step (State.setMode_foot ..) rfl h0)

theorem State.bootExit_foot (s : State) : Foot 10751419 s (State.bootExit s) := by
  unfold State.bootExit
  split
  · extract_lets y1_0 y1_1
    have h_y1_0 : Foot 10751419 s y1_0 := by
      unfold y1_0
      refine Foot.step (State.wakeLat_foot ..) rfl ?_
      refine Foot.step (State.setMode_foot ..) rfl ?_
      refine Foot.step (State.put_foot ..) rfl ?_
      exact Foot.refl
    clear_value y1_0
    clear_value y1_1
    refine Foot.set_sys rfl ?_
    exact h_y1_0
  · refine Foot.step (State.setMode_foot ..) rfl ?_
    exact Foot.refl

theorem State.ownTransition_foot (s t : State) (h : s.ownTransition = some t) : Foot 10751419 s t := by
  unfold State.ownTransition at h
  split at h
  · cases h; exact Foot.step (State.setMode_foot ..) rfl Foot.refl
  · split at h
    · cases h; exact Foot.step (State.bootExit_foot ..) rfl Foot.refl
    · cases h

theorem State.transition_foot (s t : State) (h : s.transition = some t) : Foot 134152191 s t := by
  unfold State.transition at h
  have hown : ∀ t, s.ownTransition = some t → Foot 134152191 s t :=
    fun t h => Foot.step (State.ownTransition_foot _ _ h) rfl Foot.refl
  split at h
  · cases h
    have g : Foot 134152191 s (s.setMode 5) := Foot.step (State.setMode_foot ..) rfl Foot.refl
    exact Foot.ite (Foot.step (State.reqStat_foot ..) rfl g) g
  split at h
  · cases h; exact Foot.step (State.setMode_foot ..) rfl Foot.refl
  split at h
  · cases h
  split at h
  · cases h; exact Foot.step (State.toMaintain_foot ..) rfl Foot.refl
  split at h
  · cases h; exact Foot.step (State.warmReset_foot ..) rfl Foot.refl
  split at h
  · split at h
    · cases h; exact Foot.step (State.reqTake_foot ..) rfl Foot.refl
    · exact hown _ h
  · exact hown _ h

theorem execModeTransition_foot (s : State) : FootO 134152191 s (execModeTransition s) := by
  unfold execModeTransition
  extract_lets s0
  have h0 : Foot 134152191 s s0 := Foot.step (State.toBoundary_foot ..) rfl Foot.refl
  clear_value s0
  refine FootO.next (Foot.ite (Foot.step (State.islandNow_foot ..) rfl h0) ?_)
  cases h : s0.transition with
  | none => exact Foot.refl
  | some t => exact Foot.step (State.actHeld_foot ..) rfl (Foot.step (State.transition_foot _ _ h) rfl h0)

theorem execWatchWake_foot (src : Fin 20) (s : State) : FootO 2097153 s (execWatchWake src s) := by
  unfold execWatchWake
  refine FootO.next ?_
  refine Foot.ite ?_ ?_
  · exact Foot.refl
  · refine Foot.step (State.wakeBy_foot ..) rfl ?_
    exact Foot.refl

theorem State.railsDown_foot (s : State) : Foot 1 s (State.railsDown s) := by
  unfold State.railsDown
  extract_lets y0_0
  clear_value y0_0
  refine Foot.step (State.put_foot ..) rfl ?_
  refine Foot.step (State.put_foot ..) rfl ?_
  refine Foot.step (State.put_foot ..) rfl ?_
  refine Foot.step (State.put_foot ..) rfl ?_
  exact Foot.refl

theorem State.dormantEntry_foot (s : State) : Foot 2103297 s (State.dormantEntry s) := by
  unfold State.dormantEntry
  extract_lets y0_0 y0_1 y0_2 y0_3 y0_4 y0_5 y0_6
  have h_y0_0 : Foot 2103297 s y0_0 := by
    unfold y0_0
    refine Foot.ite ?_ ?_
    · refine Foot.step (State.reqStat_foot ..) rfl ?_
      exact Foot.refl
    · exact Foot.refl
  clear_value y0_0
  have h_y0_1 : Foot 2103297 s y0_1 := by
    unfold y0_1
    refine Foot.step (State.coresRun_foot ..) rfl ?_
    refine Foot.step (State.mbDormant_foot ..) rfl ?_
    refine Foot.step (State.anchorDormant_foot ..) rfl ?_
    refine Foot.step (State.padCapture_foot ..) rfl ?_
    exact h_y0_0
  clear_value y0_1
  have h_y0_2 : Foot 2103297 s y0_2 := by
    unfold y0_2
    refine Foot.step (State.put_foot ..) rfl ?_
    refine Foot.step (State.railsDown_foot ..) rfl ?_
    refine Foot.step (State.put_foot ..) rfl ?_
    refine Foot.step (State.put_foot ..) rfl ?_
    refine Foot.step (State.put_foot ..) rfl ?_
    exact h_y0_1
  clear_value y0_2
  have h_y0_3 : Foot 2103297 s y0_3 := by
    unfold y0_3
    refine Foot.ite ?_ ?_
    · exact h_y0_2
    · refine Foot.step (State.setWakeTimer_foot ..) rfl ?_
      exact h_y0_2
  clear_value y0_3
  have h_y0_4 : Foot 2103297 s y0_4 := by
    unfold y0_4
    refine Foot.each ?_ ?_
    · intro a1_0 a1_1
      refine Foot.step (State.put_foot ..) rfl ?_
      refine Foot.step (State.setTrain_foot ..) rfl ?_
      exact Foot.refl
    · exact h_y0_3
  clear_value y0_4
  clear_value y0_5
  clear_value y0_6
  refine Foot.step (t := y0_4) (m' := 2099200) ⟨rfl, fun i => ⟨i.regs, i.live, i.mem, i.biv, i.flash, i.fltQ, i.dlQ⟩, fun _ => rfl, fun _ => rfl, fun _ => rfl, fun _ => rfl, fun _ => rfl, fun _ => rfl, fun _ => rfl, fun _ => rfl, fun _ => rfl, fun _ => rfl, fun _ => rfl, nofun, fun _ => rfl, fun _ => rfl, fun _ => rfl, fun _ => rfl, fun _ => rfl, fun _ => rfl, fun _ => rfl, fun _ => rfl, fun _ => rfl, nofun, fun _ => rfl, fun _ => rfl, fun _ => rfl, fun _ => rfl, fun _ => rfl, fun _ => rfl, fun _ => rfl⟩ rfl ?_
  exact h_y0_4

theorem State.wakeNote_foot (s : State) (go : Bool) (pat : Nat) : Foot 2097152 s (State.wakeNote s go pat) := by
  unfold State.wakeNote
  refine Foot.set_sys rfl ?_
  exact Foot.refl

theorem State.dormantWake_foot (s : State) (srcs : Nat) : Foot 134152191 s (State.dormantWake s srcs) := by
  unfold State.dormantWake
  extract_lets y0_0 y0_1 y0_2
  have h_y0_0 : Foot 134152191 s y0_0 := by
    unfold y0_0
    refine Foot.step (State.wr_foot ..) rfl ?_
    exact Foot.refl
  clear_value y0_0
  clear_value y0_1
  clear_value y0_2
  refine Foot.ite ?_ ?_
  · refine Foot.step (State.wakeNote_foot ..) rfl ?_
    refine Foot.step (State.warmBody_foot ..) rfl ?_
    exact h_y0_0
  · split
    · refine Foot.ite ?_ ?_
      · refine Foot.step (State.wakeNote_foot ..) rfl ?_
        refine Foot.step (State.absorb_foot ..) rfl ?_
        exact h_y0_0
      · refine Foot.step (State.absorb_foot ..) rfl ?_
        exact h_y0_0
    · exact h_y0_0

theorem execDormantEntry_foot (s : State) : FootO 134152191 s (execDormantEntry s) := by
  unfold execDormantEntry
  refine FootO.next ?_
  refine Foot.ite ?_ ?_
  · extract_lets y0_0 y0_1
    clear_value y0_0
    have h_y0_1 : Foot 134152191 s y0_1 := by
      unfold y0_1
      refine Foot.step (State.dormantEntry_foot ..) rfl ?_
      exact Foot.refl
    clear_value y0_1
    refine Foot.ite ?_ ?_
    · exact h_y0_1
    · refine Foot.step (State.dormantWake_foot ..) rfl ?_
      exact h_y0_1
  · exact Foot.refl

theorem execLaneWakeArm_foot (lane : Fin 4) (energy : Bool) (s : State) : FootO 134152191 s (execLaneWakeArm lane energy s) := by
  unfold execLaneWakeArm
  refine FootO.next ?_
  refine Foot.ite ?_ ?_
  · extract_lets y0_0 y0_1
    clear_value y0_0
    have h_y0_1 : Foot 134152191 s y0_1 := by
      unfold y0_1
      refine Foot.set_sys rfl ?_
      exact Foot.refl
    clear_value y0_1
    refine Foot.ite ?_ ?_
    · refine Foot.step (State.dormantWake_foot ..) rfl ?_
      exact h_y0_1
    · exact h_y0_1
  · exact Foot.refl

theorem execDormantWake_foot (srcs : BitVec 20) (lane : Fin 4) (s : State) : FootO 134152191 s (execDormantWake srcs lane s) := by
  unfold execDormantWake
  extract_lets y0_0 y0_1
  clear_value y0_0
  clear_value y0_1
  refine FootO.next ?_
  refine Foot.ite ?_ ?_
  · refine Foot.step (State.dormantWake_foot ..) rfl ?_
    refine Foot.ite ?_ ?_
    · refine Foot.step (State.setWakeTimer_foot ..) rfl ?_
      exact Foot.refl
    · exact Foot.refl
  · exact Foot.refl

theorem execWakePatternEnd_foot (lane : Fin 4) (s : State) : FootO 2097185 s (execWakePatternEnd lane s) := by
  unfold execWakePatternEnd
  refine FootO.next ?_
  refine Foot.ite ?_ ?_
  · extract_lets y0_0 y0_1
    clear_value y0_0
    have h_y0_1 : Foot 2097185 s y0_1 := by
      unfold y0_1
      refine Foot.set_sys rfl ?_
      exact Foot.refl
    clear_value y0_1
    refine Foot.ite ?_ ?_
    · refine Foot.step (State.detect_foot ..) rfl ?_
      exact h_y0_1
    · exact h_y0_1
  · exact Foot.refl

theorem execWakeTimerExpiry_foot (s : State) : FootO 134152191 s (execWakeTimerExpiry s) := by
  unfold execWakeTimerExpiry
  refine FootO.next ?_
  refine Foot.ite ?_ ?_
  · exact Foot.refl
  · extract_lets y0_0
    have h_y0_0 : Foot 134152191 s y0_0 := by
      unfold y0_0
      refine Foot.step (State.setWakeTimer_foot ..) rfl ?_
      exact Foot.refl
    clear_value y0_0
    refine Foot.ite ?_ ?_
    · refine Foot.ite ?_ ?_
      · refine Foot.step (State.dormantWake_foot ..) rfl ?_
        exact h_y0_0
      · exact h_y0_0
    · refine Foot.step (State.wakeBy_foot ..) rfl ?_
      exact h_y0_0

theorem execRetrainWindowEnd_foot (s : State) : FootO 2097280 s (execRetrainWindowEnd s) := by
  unfold execRetrainWindowEnd
  refine FootO.next ?_
  refine Foot.ite ?_ ?_
  · extract_lets y0_0 y0_1
    clear_value y0_0
    have h_y0_1 : Foot 2097280 s y0_1 := by
      unfold y0_1
      refine Foot.set_sys rfl ?_
      exact Foot.refl
    clear_value y0_1
    refine Foot.each ?_ ?_
    · intro a1_0 a1_1
      refine Foot.ite ?_ ?_
      · exact Foot.refl
      · refine Foot.step (State.planEnd_foot ..) rfl ?_
        exact Foot.refl
    · exact h_y0_1
  · exact Foot.refl

theorem execProofAbort_foot (s : State) : FootO 10751163 s (execProofAbort s) := by
  unfold execProofAbort
  refine FootO.next ?_
  refine Foot.ite ?_ ?_
  · exact Foot.refl
  · refine Foot.step (State.proofStop_foot ..) rfl ?_
    exact Foot.refl

theorem execIslandEntry_foot (quiet : BitVec 2) (s : State) : FootO 10751419 s (execIslandEntry quiet s) := by
  unfold execIslandEntry
  refine FootO.next ?_
  refine Foot.ite ?_ ?_
  · exact Foot.refl
  · refine Foot.ite ?_ ?_
    · refine Foot.ite ?_ ?_
      · refine Foot.step (State.islandGo_foot ..) rfl ?_
        exact Foot.refl
      · exact Foot.refl
    · refine Foot.ite ?_ ?_
      · exact Foot.refl
      · extract_lets y0_0 y0_1
        have h_y0_0 : Foot 10751419 s y0_0 := by
          unfold y0_0
          refine Foot.step (State.islandGo_foot ..) rfl ?_
          exact Foot.refl
        clear_value y0_0
        clear_value y0_1
        refine Foot.ite ?_ ?_
        · refine Foot.set_sys rfl ?_
          exact h_y0_0
        · exact h_y0_0

theorem execIslandExit_foot (s : State) : FootO 10751419 s (execIslandExit s) := by
  unfold execIslandExit
  extract_lets y0_0
  have h_y0_0 : Foot 10751419 s y0_0 := by
    unfold y0_0
    refine Foot.step (State.toBoundary_foot ..) rfl ?_
    exact Foot.refl
  clear_value y0_0
  refine FootO.next ?_
  refine Foot.ite ?_ ?_
  · refine Foot.step (State.actHeld_foot ..) rfl ?_
    refine Foot.step (State.setMode_foot ..) rfl ?_
    exact h_y0_0
  · exact Foot.refl

theorem State.ftestBegin_foot (s : State) : Foot 2097153 s (State.ftestBegin s) := by
  unfold State.ftestBegin
  extract_lets y0_0 y0_1 y0_2
  have h_y0_0 : Foot 2097153 s y0_0 := by
    unfold y0_0
    refine Foot.step (State.put_foot ..) rfl ?_
    exact Foot.refl
  clear_value y0_0
  have h_y0_1 : Foot 2097153 s y0_1 := by
    unfold y0_1
    refine Foot.ite ?_ ?_
    · refine Foot.step (State.reqStat_foot ..) rfl ?_
      exact h_y0_0
    · exact h_y0_0
  clear_value y0_1
  clear_value y0_2
  refine Foot.set_sys rfl ?_
  exact h_y0_1

theorem State.ftestKey_foot (s : State) (v : Word) : Foot 2097153 s (State.ftestKey s v) := by
  unfold State.ftestKey
  extract_lets y0_0 y0_1
  clear_value y0_0
  have h_y0_1 : ∀ b0, Foot 2097153 s (y0_1 b0) := by
    intro b0
    unfold y0_1
    refine Foot.set_sys rfl ?_
    exact Foot.refl
  refine Foot.ite ?_ ?_
  · refine Foot.step (h_y0_1 ..) rfl ?_
    exact Foot.refl
  · refine Foot.ite ?_ ?_
    · refine Foot.step (h_y0_1 ..) rfl ?_
      exact Foot.refl
    · split
      · refine Foot.ite ?_ ?_
        · refine Foot.step (State.ftestBegin_foot ..) rfl ?_
          exact Foot.refl
        · refine Foot.step (h_y0_1 ..) rfl ?_
          exact Foot.refl
      · refine Foot.step (h_y0_1 ..) rfl ?_
        exact Foot.refl

theorem execFtestKey_foot (value : Word) (s : State) : FootO 10485763 s (execFtestKey value s) := by
  unfold execFtestKey
  refine FootO.next ?_
  refine State.cmd_foot rfl ?_ ?_
  · intro a0_0
    refine Foot.step (State.ftestKey_foot ..) rfl ?_
    exact Foot.refl
  · exact Foot.refl

theorem execStackModeRx_foot (mode : Fin 6) (s : State) : FootO 10751419 s (execStackModeRx mode s) := by
  unfold execStackModeRx
  refine FootO.next ?_
  refine Foot.ite ?_ ?_
  · exact Foot.refl
  · extract_lets y0_0 y0_1
    have h_y0_0 : Foot 10751419 s y0_0 := by
      unfold y0_0
      refine Foot.step (State.stackSend_foot ..) rfl ?_
      exact Foot.refl
    clear_value y0_0
    clear_value y0_1
    refine Foot.ite ?_ ?_
    · refine Foot.set_sys rfl ?_
      exact h_y0_0
    · refine Foot.step (State.actHeld_foot ..) rfl ?_
      refine Foot.step (State.takeMode_foot ..) rfl ?_
      exact h_y0_0

end Sys2Proof.Machine
end

