-- ==== Sys2Proof/Laws/FootFaultCol.lean ====
section
/-! SUPPORT. The footprints of the operations and meanings of Sys2Proof.Machine.FaultCol. -/
namespace Sys2Proof.Machine

theorem State.recMerge_foot (s : State) (n : Nat) (m : FaultMsg) (fn : Bool) : Foot 3 s (State.recMerge s n m fn) := by
  unfold State.recMerge
  extract_lets y0_0 y0_1
  have h_y0_0 : Foot 3 s y0_0 := by
    unfold y0_0
    refine Foot.step (State.put_foot ..) rfl ?_
    refine Foot.step (State.satAdd_foot ..) rfl ?_
    exact Foot.refl
  clear_value y0_0
  have h_y0_1 : Foot 3 s y0_1 := by
    unfold y0_1
    refine Foot.step (State.bump_foot ..) rfl ?_
    refine Foot.step (State.wr64_foot ..) rfl ?_
    refine Foot.step (State.put_foot ..) rfl ?_
    exact h_y0_0
  clear_value y0_1
  refine Foot.ite ?_ ?_
  · refine Foot.step (State.setBit_foot ..) rfl ?_
    refine Foot.step (State.put_foot ..) rfl ?_
    exact h_y0_1
  · exact h_y0_1

theorem State.recOpen_foot (s : State) (n : Nat) (m : FaultMsg) (rule : Option Nat) (fn : Bool) : Foot 3 s (State.recOpen s n m rule fn) := by
  unfold State.recOpen
  extract_lets y0_0 y0_1 y0_2 y0_3 y0_4
  clear_value y0_0
  clear_value y0_1
  have h_y0_2 : Foot 3 s y0_2 := by
    unfold y0_2
    refine Foot.step (State.wr_foot ..) rfl ?_
    refine Foot.step (State.wr_foot ..) rfl ?_
    refine Foot.step (State.wr_foot ..) rfl ?_
    exact Foot.refl
  clear_value y0_2
  have h_y0_3 : Foot 3 s y0_3 := by
    unfold y0_3
    refine Foot.step (State.bump_foot ..) rfl ?_
    refine Foot.step (State.wr64_foot ..) rfl ?_
    refine Foot.step (State.wr64_foot ..) rfl ?_
    refine Foot.step (State.put_foot ..) rfl ?_
    exact h_y0_2
  clear_value y0_3
  have h_y0_4 : Foot 3 s y0_4 := by
    unfold y0_4
    refine Foot.step (State.setBit_foot ..) rfl ?_
    exact h_y0_3
  clear_value y0_4
  refine Foot.ite ?_ ?_
  · refine Foot.step (State.setBit_foot ..) rfl ?_
    exact h_y0_4
  · refine Foot.step (State.clrBit_foot ..) rfl ?_
    exact h_y0_4

theorem State.recLog_foot (s : State) (m : FaultMsg) (rule : Option Nat) (fn : Bool) : Foot 3 s (State.recLog s m rule fn).1 := by
  unfold State.recLog
  split
  · refine Foot.mk1 ?_
    refine Foot.step (State.recMerge_foot ..) rfl ?_
    exact Foot.refl
  · split
    · refine Foot.mk1 ?_
      refine Foot.step (State.recOpen_foot ..) rfl ?_
      exact Foot.refl
    · extract_lets y2_0
      have h_y2_0 : Foot 3 s y2_0 := by
        unfold y2_0
        refine Foot.step (State.bump_foot ..) rfl ?_
        refine Foot.step (State.put_foot ..) rfl ?_
        exact Foot.refl
      clear_value y2_0
      refine Foot.mk1 ?_
      refine Foot.ite ?_ ?_
      · refine Foot.step (State.put_foot ..) rfl ?_
        exact h_y2_0
      · exact h_y2_0

theorem State.ruleAct_foot (s : State) (k : Nat) (fresh : Bool) : Foot 134152191 s (State.ruleAct s k fresh) := by
  unfold State.ruleAct
  extract_lets y0_0 y0_1 y0_2 y0_3
  have h_y0_0 : Foot 134152191 s y0_0 := by
    unfold y0_0
    refine Foot.ite ?_ ?_
    · refine Foot.step (State.edgeIrq_foot ..) rfl ?_
      exact Foot.refl
    · exact Foot.refl
  clear_value y0_0
  have h_y0_1 : Foot 134152191 s y0_1 := by
    unfold y0_1
    refine Foot.ite ?_ ?_
    · refine Foot.step (State.put_foot ..) rfl ?_
      exact h_y0_0
    · exact h_y0_0
  clear_value y0_1
  have h_y0_2 : Foot 134152191 s y0_2 := by
    unfold y0_2
    refine Foot.ite ?_ ?_
    · refine Foot.step (State.twinYield_foot ..) rfl ?_
      exact h_y0_1
    · exact h_y0_1
  clear_value y0_2
  have h_y0_3 : Foot 134152191 s y0_3 := by
    unfold y0_3
    refine Foot.ite ?_ ?_
    · refine Foot.step (State.islandCause_foot ..) rfl ?_
      exact h_y0_2
    · exact h_y0_2
  clear_value y0_3
  refine Foot.ite ?_ ?_
  · refine Foot.step (State.unitRequest_foot ..) rfl ?_
    exact h_y0_3
  · exact h_y0_3

theorem State.faultTake_foot (s : State) (m : FaultMsg) : Foot 134152191 s (State.faultTake s m) := by
  unfold State.faultTake
  extract_lets y0_0
  have h_y0_0 : Foot 134152191 s y0_0 := by
    unfold y0_0
    refine Foot.when ?_ ?_
    · intro a1_0
      refine Foot.step (State.bump_foot ..) rfl ?_
      exact Foot.refl
    · refine Foot.step (State.bump_foot ..) rfl ?_
      exact Foot.refl
  clear_value y0_0
  split
  · refine Foot.step (State.recLog_foot ..) rfl ?_
    exact h_y0_0
  · extract_lets y2_0 y2_1
    clear_value y2_0
    refine Foot.ite ?_ ?_
    · refine Foot.step (State.ruleAct_foot ..) rfl ?_
      unfold y2_1
      refine Foot.step (State.recLog_foot ..) rfl ?_
      exact h_y0_0
    · refine Foot.step (State.ruleAct_foot ..) rfl ?_
      refine Foot.when ?_ ?_
      · intro a3_0
        refine Foot.step (State.put_foot ..) rfl ?_
        exact Foot.refl
      · refine Foot.step (State.bump_foot ..) rfl ?_
        exact h_y0_0

theorem execFaultProcess_foot (s : State) : FootO 134152191 s (execFaultProcess s) := by
  unfold execFaultProcess
  refine FootO.next (Foot.when (fun s => ?_) Foot.refl)
  cases h : s.fltQ with
  | nil => exact Foot.refl
  | cons m r =>
    refine Foot.step (State.faultTake_foot ..) rfl (Foot.set_fltQ (fun i => ?_) rfl Foot.refl)
    have := i.fltQ
    rw [h] at this
    exact Nat.le_trans (Nat.le_succ _) this

theorem State.recClose_foot (s : State) (mask : Nat) : Foot 1 s (State.recClose s mask) := by
  unfold State.recClose
  refine Foot.each ?_ ?_
  · intro a0_0 a0_1
    refine Foot.step (State.clrBit_foot ..) rfl ?_
    refine Foot.step (State.clrBit_foot ..) rfl ?_
    exact Foot.refl
  · exact Foot.refl

theorem execFaultRecordClose_foot (mask : BitVec 16) (s : State) : FootO 8388611 s (execFaultRecordClose mask s) := by
  unfold execFaultRecordClose
  refine FootO.next ?_
  refine State.cmd_foot rfl ?_ ?_
  · intro a0_0
    refine Foot.step (State.recClose_foot ..) rfl ?_
    exact Foot.refl
  · exact Foot.refl

theorem State.recRead_foot (s : State) (key n w : Nat) : Foot 16777216 s (State.recRead s key n w).1 := by
  unfold State.recRead
  refine Foot.ite1 ?_ ?_
  · refine Foot.mk1 ?_
    refine Foot.set_recLatch rfl ?_
    exact Foot.refl
  · split
    · refine Foot.mk1 ?_
      exact Foot.refl
    · refine Foot.mk1 ?_
      exact Foot.refl

theorem execFaultRecordRead_foot (n : Fin 16) (word : Fin 8) (who : Who) (s : State) : FootO 29360131 s (execFaultRecordRead n word who s) := by
  unfold execFaultRecordRead
  refine FootO.next ?_
  refine State.readCmd_foot rfl ?_ ?_
  · intro a0_0
    refine Foot.step (State.recRead_foot ..) rfl ?_
    exact Foot.refl
  · exact Foot.refl

theorem execSafeClr_foot (s : State) : FootO 8388611 s (execSafeClr s) := by
  unfold execSafeClr
  refine FootO.next ?_
  refine State.cmd_foot rfl ?_ ?_
  · intro a0_0
    refine Foot.step (State.put_foot ..) rfl ?_
    exact Foot.refl
  · exact Foot.refl

theorem State.injWrite_foot (s : State) (w : Word) : Foot 8388611 s (State.injWrite s w) := by
  unfold State.injWrite
  extract_lets y0_0
  have h_y0_0 : Foot 8388611 s y0_0 := by
    unfold y0_0
    refine Foot.step (State.wr_foot ..) rfl ?_
    exact Foot.refl
  clear_value y0_0
  refine Foot.ite ?_ ?_
  · refine Foot.step (State.faultMsg_foot ..) rfl ?_
    exact h_y0_0
  · exact h_y0_0

theorem execFaultInject_foot (word : Word) (who : Who) (s : State) : FootO 12582915 s (execFaultInject word who s) := by
  unfold execFaultInject
  refine FootO.next ?_
  refine State.ackCmd_foot rfl ?_ ?_
  · intro a0_0
    refine Foot.ite1 ?_ ?_
    · refine Foot.mk1 ?_
      refine Foot.step (State.injWrite_foot ..) rfl ?_
      exact Foot.refl
    · refine Foot.mk1 ?_
      exact Foot.refl
  · exact Foot.refl

end Sys2Proof.Machine
end

