-- ==== Sys2Proof/Laws/FootCommit.lean ====
section
/-! SUPPORT. The footprints of the operations and meanings of Sys2Proof.Machine.Commit. -/
namespace Sys2Proof.Machine

theorem foldl_set_wf {l : List (Nat × Word)} : ∀ {t : Tab Word}, Tab.wf regReset t = true →
    Tab.wf regReset (l.foldl (fun t e => Tab.set regReset t e.1 e.2) t) = true := by
  induction l with
  | nil => intro _ h; exact h
  | cons e l ih => intro _ h; exact ih (Tab.wf_set _ _ h)
theorem syncRegs_wf {t : Tab Word} (h : Tab.wf regReset t = true) : Tab.wf regReset (syncRegs t) = true :=
  foldl_set_wf (Tab.wf_filter _ h)
theorem applyRegs_wf {t : Tab Word} (h : Tab.wf regReset t = true) : Tab.wf regReset (applyRegs t) = true :=
  foldl_set_wf (Tab.wf_filter _ h)
theorem State.syncShadows_foot (s : State) : Foot 1 s (State.syncShadows s) := by
  unfold State.syncShadows
  exact Foot.step (State.clr_foot ..) rfl (Foot.set_regs (fun i => syncRegs_wf i.regs) rfl Foot.refl)

theorem State.dropShadows_foot (s : State) : Foot 1 s (State.dropShadows s) := by
  unfold State.dropShadows
  refine Foot.step (State.clr_foot ..) rfl ?_
  refine Foot.set_regs (fun i => Tab.wf_filter _ i.regs) rfl ?_
  exact Foot.refl

theorem State.staged_foot (s : State) : Foot 1 s (State.staged s) := by
  unfold State.staged
  exact Foot.set_regs (fun i => applyRegs_wf i.regs) rfl Foot.refl

theorem State.runCheck_foot (s : State) (timed : Bool) : Foot 1 s (State.runCheck s timed).1 := by
  unfold State.runCheck
  extract_lets y0_0 y0_1
  clear_value y0_0
  clear_value y0_1
  split
  · refine Foot.mk1 ?_
    exact Foot.refl
  · refine Foot.mk1 ?_
    refine Foot.step (State.put_foot ..) rfl ?_
    refine Foot.step (State.put_foot ..) rfl ?_
    refine Foot.step (State.put_foot ..) rfl ?_
    refine Foot.step (State.put_foot ..) rfl ?_
    exact Foot.refl

theorem State.partApply_foot (s old : State) : Foot 9 s (State.partApply s old) := by
  unfold State.partApply
  extract_lets y0_0 y0_1
  clear_value y0_0
  clear_value y0_1
  refine Foot.ite ?_ ?_
  · exact Foot.refl
  · refine Foot.step (State.put_foot ..) rfl ?_
    refine Foot.set_store rfl ?_
    exact Foot.refl

theorem State.holdApply_foot (s : State) : Foot 2097153 s (State.holdApply s) := by
  unfold State.holdApply
  extract_lets y0_0 y0_1
  have h_y0_0 : Foot 2097153 s y0_0 := by
    unfold y0_0
    refine Foot.step (State.wr_foot ..) rfl ?_
    refine Foot.step (State.wr_foot ..) rfl ?_
    exact Foot.refl
  clear_value y0_0
  clear_value y0_1
  refine Foot.set_sys rfl ?_
  exact h_y0_0

theorem State.slotsAnew_foot (s : State) : Foot 8388627 s (State.slotsAnew s) := by
  unfold State.slotsAnew
  extract_lets y0_0 y0_1 y0_2 y0_3
  have h_y0_0 : Foot 8388627 s y0_0 := by
    unfold y0_0
    refine Foot.each ?_ ?_
    · intro a1_0 a1_1
      extract_lets y2_0
      clear_value y2_0
      refine Foot.each ?_ ?_
      · intro a3_0 a3_1
        refine Foot.step (State.dropCopy_foot ..) rfl ?_
        exact Foot.refl
      · refine Foot.step (State.setQueue_foot ..) rfl ?_
        exact Foot.refl
    · exact Foot.refl
  clear_value y0_0
  clear_value y0_1
  clear_value y0_2
  clear_value y0_3
  refine Foot.each ?_ ?_
  · intro a1_0 a1_1
    refine Foot.step (State.dropCopy_foot ..) rfl ?_
    exact Foot.refl
  · refine Foot.set_fwd rfl ?_
    exact h_y0_0

theorem State.fwdApply_foot (s old : State) : Foot 10485915 s (State.fwdApply s old) := by
  unfold State.fwdApply
  extract_lets y0_0
  have h_y0_0 : Foot 10485915 s y0_0 := by
    unfold y0_0
    refine Foot.step (State.put_foot ..) rfl ?_
    refine Foot.step (State.wrapAdd_foot ..) rfl ?_
    exact Foot.refl
  clear_value y0_0
  refine Foot.step (State.locPump_foot ..) rfl ?_
  refine Foot.step (State.drainsAfter_foot ..) rfl ?_
  refine Foot.step (State.slotsAnew_foot ..) rfl ?_
  exact h_y0_0

theorem State.goApply_foot (s : State) : Foot 8519683 s (State.goApply s) := by
  unfold State.goApply
  refine Foot.ite ?_ ?_
  · exact Foot.refl
  · extract_lets y0_0
    have h_y0_0 : Foot 8519683 s y0_0 := by
      unfold y0_0
      refine Foot.step (State.put_foot ..) rfl ?_
      exact Foot.refl
    clear_value y0_0
    split
    · refine Foot.ite ?_ ?_
      · refine Foot.step (State.activate_foot ..) rfl ?_
        exact h_y0_0
      · refine Foot.step (State.fault_foot ..) rfl ?_
        refine Foot.step (State.put_foot ..) rfl ?_
        refine Foot.step (State.put_foot ..) rfl ?_
        refine Foot.step (State.put_foot ..) rfl ?_
        exact h_y0_0
    · refine Foot.step (State.fault_foot ..) rfl ?_
      refine Foot.step (State.put_foot ..) rfl ?_
      refine Foot.step (State.put_foot ..) rfl ?_
      refine Foot.step (State.put_foot ..) rfl ?_
      exact h_y0_0

theorem State.coresOut_foot (s : State) : Foot 2228225 s (State.coresOut s) := by
  unfold State.coresOut
  extract_lets y0_0 y0_1 y0_2
  clear_value y0_0
  have h_y0_1 : Foot 2228225 s y0_1 := by
    unfold y0_1
    refine Foot.step (State.coresRun_foot ..) rfl ?_
    refine Foot.set_sys rfl ?_
    exact Foot.refl
  clear_value y0_1
  refine Foot.ite ?_ ?_
  · refine Foot.set_upd (fun i => i.flash) rfl ?_
    exact h_y0_1
  · exact h_y0_1

theorem State.hbrConfigured_foot (s : State) : Foot 16384 s (State.hbrConfigured s) := by
  unfold State.hbrConfigured
  refine Foot.set_hbr rfl ?_
  exact Foot.refl

theorem State.applyAll_foot {m : Nat} {s0 s : State} {own : State → State} {ring : Bool} (hm : 10968507 ||| m = m)
    (hf : ∀ x, Foot m x (own x)) (h : Foot m s0 s) : Foot m s0 (State.applyAll s own ring) := by
  have h1 : Foot m s0 { s with regs := applyRegs s.regs } :=
    Foot.step (m' := 1) (Foot.set_regs (fun i => applyRegs_wf i.regs) rfl Foot.refl) (by rw [← hm, ← Nat.or_assoc]; rfl) h
  refine Foot.step (m' := 10968507) (t := own { s with regs := applyRegs s.regs }) ?_ hm (Foot.step (hf _) (Nat.or_self m) h1)
  unfold State.applyAll
  extract_lets first s1 s2 s3 s4 s5 s6
  change Foot 10968507 s1 _
  clear_value s1
  have h2 : Foot 10968507 s1 s2 := Foot.step (State.fwdApply_foot ..) rfl (Foot.step (State.partApply_foot ..) rfl
    (Foot.step (State.holdApply_foot ..) rfl Foot.refl))
  clear_value s2
  have h3 : Foot 10968507 s1 s3 := Foot.step (State.ggApply_foot ..) rfl (Foot.step (State.timeApply_foot ..) rfl
    (Foot.step (State.put_foot ..) rfl h2))
  clear_value s3
  have h4 : Foot 10968507 s1 s4 := Foot.each (fun _ _ => Foot.step (State.laneApply_foot ..) rfl Foot.refl)
    (Foot.ite (Foot.step (State.coresOut_foot ..) rfl h3) h3)
  clear_value s4
  have h5 : Foot 10968507 s1 s5 := Foot.step (State.listenCheck_foot ..) rfl (Foot.step (State.pairCheck_foot ..) rfl
    (Foot.step (State.conflictCheck_foot ..) rfl (Foot.step (State.lpwApply_foot ..) rfl (Foot.step (State.lsvApply_foot ..) rfl
      (Foot.step (State.mbApply_foot ..) rfl h4)))))
  clear_value s5
  have h6 : Foot 10968507 s1 s6 := Foot.step (State.put_foot ..) rfl (Foot.step (State.wr64_foot ..) rfl
    (Foot.step (State.put_foot ..) rfl (Foot.step (State.hbrConfigured_foot ..) rfl h5)))
  clear_value s6
  exact Foot.step (State.goApply_foot ..) rfl (Foot.step (State.commitMode_foot ..) rfl h6)

theorem State.modCfg_foot (s : State) (f : CfgSt → CfgSt) : Foot 524288 s (State.modCfg s f) := by
  unfold State.modCfg
  refine Foot.set_cfg rfl ?_
  exact Foot.refl

theorem State.toOpen_foot (s : State) : Foot 524289 s (State.toOpen s) := by
  unfold State.toOpen
  refine Foot.step (State.put_foot ..) rfl ?_
  refine Foot.step (State.put_foot ..) rfl ?_
  refine Foot.step (State.modCfg_foot ..) rfl ?_
  exact Foot.refl

theorem State.cfgRefuse_foot (s : State) : Foot 1 s (State.cfgRefuse s) := by
  unfold State.cfgRefuse
  refine Foot.step (State.put_foot ..) rfl ?_
  exact Foot.refl

theorem State.cfgSend_foot (s : State) (dst : Nat × Nat) (op code cid time : Nat) : Foot 10485915 s (State.cfgSend s dst op code cid time) := by
  unfold State.cfgSend
  refine Foot.step (State.originate_foot ..) rfl ?_
  exact Foot.refl

theorem State.startCheck_foot (s : State) (asked : Nat) : Foot 524289 s (State.startCheck s asked) := by
  unfold State.startCheck
  refine Foot.step (State.put_foot ..) rfl ?_
  refine Foot.step (State.modCfg_foot ..) rfl ?_
  exact Foot.refl

theorem State.setInstant_foot (s : State) (way t : Nat) : Foot 525315 s (State.setInstant s way t) := by
  unfold State.setInstant
  refine Foot.ite ?_ ?_
  · refine Foot.ite ?_ ?_
    · refine Foot.step (State.miss_foot ..) rfl ?_
      refine Foot.step (State.put_foot ..) rfl ?_
      refine Foot.step (State.modCfg_foot ..) rfl ?_
      exact Foot.refl
    · refine Foot.step (State.modCfg_foot ..) rfl ?_
      exact Foot.refl
  · refine Foot.step (State.modCfg_foot ..) rfl ?_
    exact Foot.refl

theorem State.cfgOpen_foot (s : State) : Foot 1 s (State.cfgOpen s) := by
  unfold State.cfgOpen
  refine Foot.ite ?_ ?_
  · refine Foot.step (State.put_foot ..) rfl ?_
    exact Foot.refl
  · refine Foot.step (State.cfgRefuse_foot ..) rfl ?_
    exact Foot.refl

theorem State.cfgCheck_foot (s : State) : Foot 524289 s (State.cfgCheck s) := by
  unfold State.cfgCheck
  refine Foot.ite ?_ ?_
  · refine Foot.step (State.startCheck_foot ..) rfl ?_
    exact Foot.refl
  · refine Foot.step (State.cfgRefuse_foot ..) rfl ?_
    exact Foot.refl

theorem State.cfgApplyCmd_foot (s : State) (way : Nat) : Foot 525315 s (State.cfgApplyCmd s way) := by
  unfold State.cfgApplyCmd
  extract_lets y0_0
  clear_value y0_0
  refine Foot.ite ?_ ?_
  · refine Foot.step (State.cfgRefuse_foot ..) rfl ?_
    exact Foot.refl
  · refine Foot.ite ?_ ?_
    · refine Foot.step (State.put_foot ..) rfl ?_
      refine Foot.step (State.cfgRefuse_foot ..) rfl ?_
      exact Foot.refl
    · refine Foot.ite ?_ ?_
      · refine Foot.step (State.cfgRefuse_foot ..) rfl ?_
        exact Foot.refl
      · refine Foot.ite ?_ ?_
        · refine Foot.step (State.startCheck_foot ..) rfl ?_
          refine Foot.step (State.modCfg_foot ..) rfl ?_
          exact Foot.refl
        · refine Foot.step (State.setInstant_foot ..) rfl ?_
          exact Foot.refl

theorem State.cfgAbort_foot (s : State) : Foot 524289 s (State.cfgAbort s) := by
  unfold State.cfgAbort
  refine Foot.ite ?_ ?_
  · refine Foot.step (State.toOpen_foot ..) rfl ?_
    exact Foot.refl
  · refine Foot.step (State.cfgRefuse_foot ..) rfl ?_
    exact Foot.refl

theorem State.cfgDiscard_foot (s : State) : Foot 1 s (State.cfgDiscard s) := by
  unfold State.cfgDiscard
  refine Foot.ite ?_ ?_
  · refine Foot.step (State.put_foot ..) rfl ?_
    exact Foot.refl
  · refine Foot.step (State.cfgRefuse_foot ..) rfl ?_
    exact Foot.refl

theorem State.cfgCmd_foot (s : State) (w : Word) : Foot 525315 s (State.cfgCmd s w) := by
  unfold State.cfgCmd
  refine Foot.ite ?_ ?_
  · exact Foot.refl
  · refine Foot.each ?_ ?_
    · intro a0_0 a0_1
      split
      · refine Foot.step (State.cfgOpen_foot ..) rfl ?_
        exact Foot.refl
      · refine Foot.step (State.cfgCheck_foot ..) rfl ?_
        exact Foot.refl
      · refine Foot.step (State.cfgApplyCmd_foot ..) rfl ?_
        exact Foot.refl
      · refine Foot.step (State.cfgApplyCmd_foot ..) rfl ?_
        exact Foot.refl
      · refine Foot.step (State.cfgAbort_foot ..) rfl ?_
        exact Foot.refl
      · refine Foot.step (State.cfgDiscard_foot ..) rfl ?_
        exact Foot.refl
    · exact Foot.refl

theorem execCfgOpen_foot (s : State) : FootO 8388611 s (execCfgOpen s) := by
  unfold execCfgOpen
  refine FootO.next ?_
  refine State.cmd_foot rfl ?_ ?_
  · intro a0_0
    refine Foot.step (State.cfgOpen_foot ..) rfl ?_
    exact Foot.refl
  · exact Foot.refl

theorem execCfgCheck_foot (s : State) : FootO 8912899 s (execCfgCheck s) := by
  unfold execCfgCheck
  refine FootO.next ?_
  refine State.cmd_foot rfl ?_ ?_
  · intro a0_0
    refine Foot.step (State.cfgCheck_foot ..) rfl ?_
    exact Foot.refl
  · exact Foot.refl

theorem execCfgApplyNow_foot (s : State) : FootO 8913923 s (execCfgApplyNow s) := by
  unfold execCfgApplyNow
  refine FootO.next ?_
  refine State.cmd_foot rfl ?_ ?_
  · intro a0_0
    refine Foot.step (State.cfgApplyCmd_foot ..) rfl ?_
    exact Foot.refl
  · exact Foot.refl

theorem execCfgApplyAt_foot (s : State) : FootO 8913923 s (execCfgApplyAt s) := by
  unfold execCfgApplyAt
  refine FootO.next ?_
  refine State.cmd_foot rfl ?_ ?_
  · intro a0_0
    refine Foot.step (State.cfgApplyCmd_foot ..) rfl ?_
    exact Foot.refl
  · exact Foot.refl

theorem execCfgAbort_foot (s : State) : FootO 8912899 s (execCfgAbort s) := by
  unfold execCfgAbort
  refine FootO.next ?_
  refine State.cmd_foot rfl ?_ ?_
  · intro a0_0
    refine Foot.step (State.cfgAbort_foot ..) rfl ?_
    exact Foot.refl
  · exact Foot.refl

theorem execCfgDiscard_foot (s : State) : FootO 8388611 s (execCfgDiscard s) := by
  unfold execCfgDiscard
  refine FootO.next ?_
  refine State.cmd_foot rfl ?_ ?_
  · intro a0_0
    refine Foot.step (State.cfgDiscard_foot ..) rfl ?_
    exact Foot.refl
  · exact Foot.refl

theorem State.shadowWrite_foot {m : Nat} {s0 s : State} {off : Nat} {f : State → State} (hm : 8388611 ||| m = m)
    (hf : ∀ x, Foot m x (f x)) (h : Foot m s0 s) : Foot m s0 (State.shadowWrite s off f).1 := by
  unfold State.shadowWrite
  exact Foot.ite1 (Foot.step (hf s) (Nat.or_self m) h) (Foot.step (State.fault_foot ..) hm h)

theorem State.wrMasked_foot (s : State) (o : Nat) (v : Word) : Foot 1 s (State.wrMasked s o v) := by
  unfold State.wrMasked
  refine Foot.step (State.wr_foot ..) rfl ?_
  exact Foot.refl

theorem State.keysDrop_foot (s : State) (o : Nat) : Foot 2228224 s (State.keysDrop s o) := by
  unfold State.keysDrop
  refine Foot.ite ?_ ?_
  · refine Foot.step (State.mpcWrite_foot ..) rfl ?_
    exact Foot.refl
  · refine Foot.ite ?_ ?_
    · refine Foot.set_upd (fun i => i.flash) rfl ?_
      exact Foot.refl
    · exact Foot.refl

theorem execConsistencyCheckDone_foot (s : State) : FootO 11011227 s (execConsistencyCheckDone s) := by
  unfold execConsistencyCheckDone
  refine FootO.ite ?_ ?_
  · refine FootO.next ?_
    exact Foot.refl
  · refine FootO.next ?_
    refine Foot.ite ?_ ?_
    · extract_lets y0_0 y0_1 y0_2 y0_3 y0_4 y0_5 y0_6
      clear_value y0_0
      have h_y0_1 : Foot 11011227 s y0_1.1 := by
        unfold y0_1
        refine Foot.step (State.runCheck_foot ..) rfl ?_
        exact Foot.refl
      clear_value y0_1
      have h_y0_2 : Foot 11011227 s y0_2 := by
        unfold y0_2
        exact h_y0_1
      clear_value y0_2
      clear_value y0_3
      have h_y0_4 : Foot 11011227 s y0_4 := by
        unfold y0_4
        refine Foot.step (State.toOpen_foot ..) rfl ?_
        exact h_y0_2
      clear_value y0_4
      have h_y0_5 : Foot 11011227 s y0_5 := by
        unfold y0_5
        refine Foot.step (State.put_foot ..) rfl ?_
        refine Foot.step (State.put_foot ..) rfl ?_
        exact h_y0_2
      clear_value y0_5
      have h_y0_6 : Foot 11011227 s y0_6 := by
        unfold y0_6
        refine Foot.step (State.modCfg_foot ..) rfl ?_
        exact h_y0_5
      clear_value y0_6
      refine Foot.ite ?_ ?_
      · refine Foot.ite ?_ ?_
        · refine Foot.step (State.cfgSend_foot ..) rfl ?_
          exact h_y0_4
        · exact h_y0_4
      · refine Foot.ite ?_ ?_
        · refine Foot.step (State.cfgSend_foot ..) rfl ?_
          refine Foot.step (State.modCfg_foot ..) rfl ?_
          exact h_y0_6
        · refine Foot.ite ?_ ?_
          · exact h_y0_6
          · refine Foot.step (State.setInstant_foot ..) rfl ?_
            exact h_y0_6
    · exact Foot.refl

theorem State.applyNow_foot (s : State) : Foot 11492795 s (State.applyNow s) := by
  unfold State.applyNow
  refine Foot.ite ?_ ?_
  · refine Foot.step (State.toOpen_foot ..) rfl ?_
    exact Foot.refl
  · refine Foot.ite ?_ ?_
    · refine Foot.step (State.put_foot ..) rfl ?_
      exact Foot.refl
    · extract_lets y0_0 y0_1 y0_2 y0_3 y0_4
      clear_value y0_0
      clear_value y0_1
      have h_y0_2 : Foot 11492795 s y0_2 := by
        unfold y0_2
        refine Foot.step (State.put_foot ..) rfl ?_
        refine Foot.step (State.modCfg_foot ..) rfl ?_
        exact Foot.refl
      clear_value y0_2
      have h_y0_3 : Foot 11492795 s y0_3 := by
        unfold y0_3
        refine State.applyAll_foot rfl ?_ ?_
        · intro a1_0
          unfold id
          exact Foot.refl
        · exact h_y0_2
      clear_value y0_3
      have h_y0_4 : Foot 11492795 s y0_4 := by
        unfold y0_4
        refine Foot.step (State.modCfg_foot ..) rfl ?_
        refine Foot.step (State.put_foot ..) rfl ?_
        exact h_y0_3
      clear_value y0_4
      refine Foot.ite ?_ ?_
      · refine Foot.step (State.fault_foot ..) rfl ?_
        refine Foot.step (State.toOpen_foot ..) rfl ?_
        exact Foot.refl
      · refine Foot.ite ?_ ?_
        · refine Foot.step (State.cfgSend_foot ..) rfl ?_
          exact h_y0_4
        · exact h_y0_3

theorem execApply_foot (s : State) : FootO 11492795 s (execApply s) := by
  unfold execApply
  refine FootO.ite ?_ ?_
  · refine FootO.next ?_
    exact Foot.refl
  · refine FootO.next ?_
    refine Foot.ite ?_ ?_
    · extract_lets y0_0
      have h_y0_0 : Foot 11492795 s y0_0 := by
        unfold y0_0
        refine Foot.ite ?_ ?_
        · refine Foot.step (State.toBoundary_foot ..) rfl ?_
          exact Foot.refl
        · refine Foot.step (State.toLaterBoundary_foot ..) rfl ?_
          exact Foot.refl
      clear_value y0_0
      refine Foot.ite ?_ ?_
      · refine Foot.step (State.applyNow_foot ..) rfl ?_
        exact h_y0_0
      · exact Foot.refl
    · exact Foot.refl

theorem State.applyCycleEnd_foot (s : State) : Foot 1 s (State.applyCycleEnd s) := by
  unfold State.applyCycleEnd
  refine Foot.ite ?_ ?_
  · refine Foot.step (State.put_foot ..) rfl ?_
    exact Foot.refl
  · exact Foot.refl

theorem execApplySyncDone_foot (s : State) : FootO 1 s (execApplySyncDone s) := by
  unfold execApplySyncDone
  refine FootO.next ?_
  refine Foot.ite ?_ ?_
  · refine Foot.step (State.put_foot ..) rfl ?_
    refine Foot.step (State.syncShadows_foot ..) rfl ?_
    exact Foot.refl
  · exact Foot.refl

theorem execArmTimeout_foot (s : State) : FootO 8912899 s (execArmTimeout s) := by
  unfold execArmTimeout
  refine FootO.ite ?_ ?_
  · refine FootO.next ?_
    exact Foot.refl
  · refine FootO.next ?_
    refine Foot.ite ?_ ?_
    · extract_lets y0_0
      clear_value y0_0
      refine Foot.step (State.fault_foot ..) rfl ?_
      refine Foot.step (State.toOpen_foot ..) rfl ?_
      exact Foot.refl
    · exact Foot.refl

theorem State.prepare_foot (s : State) (cid guard : Nat) (src : Nat × Nat) : Foot 11010203 s (State.prepare s cid guard src) := by
  unfold State.prepare
  refine Foot.ite ?_ ?_
  · exact Foot.refl
  · refine Foot.ite ?_ ?_
    · refine Foot.step (State.cfgSend_foot ..) rfl ?_
      exact Foot.refl
    · refine Foot.ite ?_ ?_
      · refine Foot.step (State.cfgSend_foot ..) rfl ?_
        exact Foot.refl
      · refine Foot.ite ?_ ?_
        · refine Foot.step (State.cfgSend_foot ..) rfl ?_
          exact Foot.refl
        · refine Foot.ite ?_ ?_
          · extract_lets y0_0
            have h_y0_0 : Foot 11010203 s y0_0 := by
              unfold y0_0
              refine Foot.step (State.wr64_foot ..) rfl ?_
              refine Foot.step (State.put_foot ..) rfl ?_
              refine Foot.step (State.put_foot ..) rfl ?_
              exact Foot.refl
            clear_value y0_0
            refine Foot.step (State.startCheck_foot ..) rfl ?_
            refine Foot.step (State.modCfg_foot ..) rfl ?_
            exact h_y0_0
          · refine Foot.step (State.cfgSend_foot ..) rfl ?_
            exact Foot.refl

theorem execPrepare_foot (cid : BitVec 16) (guard : DWord) (node : BitVec 8) (chip : Fin 4) (s : State) : FootO 11010203 s (execPrepare cid guard node chip s) := by
  unfold execPrepare
  refine FootO.ite ?_ ?_
  · refine FootO.next ?_
    exact Foot.refl
  · refine FootO.next ?_
    refine Foot.step (State.prepare_foot ..) rfl ?_
    exact Foot.refl

theorem State.cfgGo_foot (s : State) (cid t : Nat) (src : Nat × Nat) : Foot 11011227 s (State.cfgGo s cid t src) := by
  unfold State.cfgGo
  refine Foot.ite ?_ ?_
  · exact Foot.refl
  · refine Foot.ite ?_ ?_
    · refine Foot.step (State.cfgSend_foot ..) rfl ?_
      exact Foot.refl
    · refine Foot.ite ?_ ?_
      · exact Foot.refl
      · refine Foot.ite ?_ ?_
        · extract_lets y0_0
          clear_value y0_0
          refine Foot.step (State.miss_foot ..) rfl ?_
          refine Foot.step (State.put_foot ..) rfl ?_
          exact Foot.refl
        · refine Foot.step (State.modCfg_foot ..) rfl ?_
          exact Foot.refl

theorem execGo_foot (cid : BitVec 16) (time : DWord) (node : BitVec 8) (chip : Fin 4) (s : State) : FootO 11011227 s (execGo cid time node chip s) := by
  unfold execGo
  refine FootO.ite ?_ ?_
  · refine FootO.next ?_
    exact Foot.refl
  · refine FootO.next ?_
    refine Foot.step (State.cfgGo_foot ..) rfl ?_
    exact Foot.refl

theorem State.cfgAbortRx_foot (s : State) (cid : Nat) : Foot 524289 s (State.cfgAbortRx s cid) := by
  unfold State.cfgAbortRx
  refine Foot.ite ?_ ?_
  · refine Foot.step (State.toOpen_foot ..) rfl ?_
    exact Foot.refl
  · exact Foot.refl

theorem execCfgAbortMsg_foot (cid : BitVec 16) (s : State) : FootO 524289 s (execCfgAbortMsg cid s) := by
  unfold execCfgAbortMsg
  refine FootO.ite ?_ ?_
  · refine FootO.next ?_
    exact Foot.refl
  · refine FootO.next ?_
    refine Foot.step (State.cfgAbortRx_foot ..) rfl ?_
    exact Foot.refl

theorem State.cfgRx_foot (s : State) (f : Frame) : Foot 11011227 s (State.cfgRx s f) := by
  unfold State.cfgRx
  extract_lets y0_0 y0_1 y0_2
  clear_value y0_0
  clear_value y0_1
  clear_value y0_2
  split
  · refine Foot.step (State.prepare_foot ..) rfl ?_
    exact Foot.refl
  · refine Foot.step (State.cfgGo_foot ..) rfl ?_
    exact Foot.refl
  · refine Foot.step (State.cfgAbortRx_foot ..) rfl ?_
    exact Foot.refl
  · exact Foot.refl

theorem execGuardExpiry_foot (s : State) : FootO 11011227 s (execGuardExpiry s) := by
  unfold execGuardExpiry
  refine FootO.ite ?_ ?_
  · refine FootO.next ?_
    exact Foot.refl
  · refine FootO.next ?_
    refine Foot.ite ?_ ?_
    · extract_lets y0_0 y0_1 y0_2
      have h_y0_0 : Foot 11011227 s y0_0 := by
        unfold y0_0
        refine Foot.step (State.toBoundary_foot ..) rfl ?_
        exact Foot.refl
      clear_value y0_0
      clear_value y0_1
      have h_y0_2 : Foot 11011227 s y0_2 := by
        unfold y0_2
        refine Foot.step (State.fault_foot ..) rfl ?_
        refine Foot.step (State.satAdd_foot ..) rfl ?_
        refine Foot.step (State.put_foot ..) rfl ?_
        refine Foot.step (State.modCfg_foot ..) rfl ?_
        exact h_y0_0
      clear_value y0_2
      refine Foot.ite ?_ ?_
      · refine Foot.step (State.cfgSend_foot ..) rfl ?_
        exact h_y0_2
      · exact Foot.refl
    · exact Foot.refl

end Sys2Proof.Machine
end

