-- ==== Sys2Proof/Laws/FootLoader.lean ====
section
/-! SUPPORT. The footprints of the operations and meanings of Sys2Proof.Machine.Loader. -/
namespace Sys2Proof.Machine

theorem State.loadStore_foot (s : State) (off : Nat) (bs : List Byte) : Foot 12 s (State.loadStore s off bs) := by
  unfold State.loadStore
  refine Foot.step (State.eccWritten_foot ..) rfl ?_
  refine Foot.set_mem (fun i => Tab.wf_setList _ _ i.mem) rfl ?_
  exact Foot.refl

theorem Parse.own__foot (p : Parse) (s : State) : Foot 2177 s (Parse.own_ p s) := by
  unfold Parse.own_
  extract_lets y0_0 y0_1 y0_2 y0_3 y0_4
  have h_y0_0 : Foot 2177 s y0_0 := by
    unfold y0_0
    refine Foot.each ?_ ?_
    · intro a1_0 a1_1
      extract_lets y2_0
      clear_value y2_0
      refine Foot.step (State.wr_foot ..) rfl ?_
      exact Foot.refl
    · exact Foot.refl
  clear_value y0_0
  have h_y0_1 : Foot 2177 s y0_1 := by
    unfold y0_1
    refine Foot.ite ?_ ?_
    · refine Foot.step (State.put_foot ..) rfl ?_
      exact h_y0_0
    · exact h_y0_0
  clear_value y0_1
  have h_y0_2 : Foot 2177 s y0_2 := by
    unfold y0_2
    split
    · extract_lets y2_0 y2_1
      clear_value y2_0
      have h_y2_1 : Foot 2177 s y2_1 := by
        unfold y2_1
        refine Foot.ite ?_ ?_
        · refine Foot.step (State.wrMasked_foot ..) rfl ?_
          refine Foot.step (State.wrMasked_foot ..) rfl ?_
          exact h_y0_1
        · refine Foot.step (State.clr_foot ..) rfl ?_
          refine Foot.step (State.clr_foot ..) rfl ?_
          exact h_y0_1
      clear_value y2_1
      refine Foot.ite ?_ ?_
      · refine Foot.step (State.wr_foot ..) rfl ?_
        exact h_y2_1
      · refine Foot.step (State.clr_foot ..) rfl ?_
        exact h_y2_1
    · refine Foot.step (State.clr_foot ..) rfl ?_
      refine Foot.step (State.clr_foot ..) rfl ?_
      refine Foot.step (State.clr_foot ..) rfl ?_
      exact h_y0_1
  clear_value y0_2
  clear_value y0_3
  clear_value y0_4
  refine Foot.each ?_ ?_
  · intro a1_0 a1_1
    refine Foot.step (State.islandSection_foot ..) rfl ?_
    exact Foot.refl
  · refine Foot.step (t := y0_2) (m' := 2176) ⟨rfl, fun i => ⟨i.regs, i.live, i.mem, i.biv, i.flash, i.fltQ, i.dlQ⟩, fun _ => rfl, fun _ => rfl, fun _ => rfl, fun _ => rfl, fun _ => rfl, fun _ => rfl, fun _ => rfl, nofun, fun _ => rfl, fun _ => rfl, fun _ => rfl, nofun, fun _ => rfl, fun _ => rfl, fun _ => rfl, fun _ => rfl, fun _ => rfl, fun _ => rfl, fun _ => rfl, fun _ => rfl, fun _ => rfl, fun _ => rfl, fun _ => rfl, fun _ => rfl, fun _ => rfl, fun _ => rfl, fun _ => rfl, fun _ => rfl, fun _ => rfl⟩ rfl ?_
    exact h_y0_2

theorem Parse.entry_foot (p : Parse) (w : DWord) : Foot 2061 p.hub (p.entry w).hub := by
  unfold Parse.entry
  extract_lets o v
  split
  · exact Foot.refl
  · split
    · exact Foot.step (State.wrMasked_foot ..) rfl Foot.refl
    · split <;> exact Foot.refl
theorem Parse.table_foot (p : Parse) (body : List Byte) : Foot 2061 p.hub (p.table body).hub := by
  unfold Parse.table
  extract_lets h
  split
  · exact Foot.refl
  · split
    · exact Foot.refl
    · split
      · exact Foot.refl
      · exact Foot.each (fun _ _ => Foot.step (State.wrMasked_foot ..) rfl Foot.refl) Foot.refl
theorem Parse.store_foot (p : Parse) (body : List Byte) : Foot 2061 p.hub (p.store body).hub := by
  unfold Parse.store
  extract_lets off bs
  split
  · exact Foot.refl
  · exact Foot.step (State.loadStore_foot ..) rfl Foot.refl
theorem Parse.foldl_foot {α : Type} {f : Parse → α → Parse} (hf : ∀ p a, Foot 2061 p.hub (f p a).hub) (l : List α) :
    ∀ p, Foot 2061 p.hub (l.foldl f p).hub := by
  induction l with
  | nil => intro _; exact Foot.refl
  | cons a l ih => intro p; exact (ih _).step rfl (hf p a)
theorem Parse.section__foot (p : Parse) (x : Sect) : Foot 2061 p.hub (p.section_ x).hub := by
  unfold Parse.section_
  split
  · exact Foot.refl
  · split
    · exact Parse.foldl_foot Parse.entry_foot _ _
    · split
      · exact Foot.refl
      · exact Parse.table_foot ..
    · split
      · exact Foot.refl
      · exact Parse.store_foot ..
    · exact Foot.each (fun _ _ => Foot.ite (Foot.step (State.wrMasked_foot ..) rfl Foot.refl)
        (Foot.step (State.clr_foot ..) rfl Foot.refl)) Foot.refl
    · exact Foot.refl
    · exact Foot.step (State.islandActs_foot ..) rfl Foot.refl
    · exact Foot.refl
    · split <;> exact Foot.refl
theorem State.parse_foot (s : State) (bs : List Byte) : Foot 2061 s (s.parse bs).hub := by
  unfold State.parse
  extract_lets p0 r p
  have h : Foot 2061 s p.hub := Parse.foldl_foot Parse.section__foot _ p0
  clear_value p
  split
  · exact Foot.refl
  · split
    · exact Foot.refl
    · split
      · exact h
      · split
        · exact h
        · split <;> exact h
theorem Parse.outcome_foot (p : Parse) (img : Nat) (r : List Byte × Bool) : Foot 2061 p.hub (p.outcome img r).1 := by
  unfold Parse.outcome
  refine Foot.ite1 (Foot.mk1 (Foot.step (State.dropShadows_foot ..) rfl Foot.refl)) ?_
  refine Foot.ite1 (Foot.mk1 (Foot.step (State.dropShadows_foot ..) rfl Foot.refl)) ?_
  extract_lets k
  have hk : Foot 2061 p.hub k.1 := Foot.step (State.runCheck_foot ..) rfl Foot.refl
  exact Foot.ite1 (Foot.mk1 (Foot.step (State.dropShadows_foot ..) rfl hk)) (Foot.mk1 hk)
theorem State.tryLoad_foot (s : State) (slot : Nat) (quiet : Bool) : Foot 2061 s (State.tryLoad s slot quiet).1 := by
  unfold State.tryLoad
  extract_lets none_ img s1 r
  have h1 : Foot 2061 s s1 := Foot.step (State.loadStore_foot ..) rfl Foot.refl
  clear_value s1 r img
  refine Foot.ite1 (Foot.mk1 (Foot.step (State.dropShadows_foot ..) rfl Foot.refl)) ?_
  refine Foot.ite1 (Foot.mk1 (Foot.step (State.dropShadows_foot ..) rfl Foot.refl)) ?_
  exact Foot.step (Parse.outcome_foot ..) rfl (Foot.step (State.parse_foot ..) rfl h1)

theorem State.loadOk_foot (s : State) (p : Parse) (slot row cand : Nat) (bs : List Byte) (mig : Bool) (first : Option (Nat × Nat)) : Foot 11492795 s (State.loadOk s p slot row cand bs mig first) := by
  unfold State.loadOk
  extract_lets y0_0 y0_1 y0_2 y0_3 y0_4 y0_5
  clear_value y0_0
  have h_y0_1 : Foot 11492795 s y0_1 := by
    unfold y0_1
    refine Foot.step (State.put_foot ..) rfl ?_
    refine Foot.step (State.put_foot ..) rfl ?_
    refine Foot.step (State.put_foot ..) rfl ?_
    exact Foot.refl
  clear_value y0_1
  have h_y0_2 : Foot 11492795 s y0_2 := by
    unfold y0_2
    refine Foot.ite ?_ ?_
    · refine Foot.step (State.put_foot ..) rfl ?_
      refine Foot.step (State.put_foot ..) rfl ?_
      exact h_y0_1
    · refine Foot.step (State.put_foot ..) rfl ?_
      refine Foot.step (State.put_foot ..) rfl ?_
      exact h_y0_1
  clear_value y0_2
  have h_y0_3 : Foot 11492795 s y0_3 := by
    unfold y0_3
    refine Foot.step (State.put_foot ..) rfl ?_
    refine Foot.step (State.put_foot ..) rfl ?_
    refine Foot.step (State.put_foot ..) rfl ?_
    refine Foot.step (State.put_foot ..) rfl ?_
    refine Foot.step (State.put_foot ..) rfl ?_
    exact h_y0_2
  clear_value y0_3
  have h_y0_4 : Foot 11492795 s y0_4 := by
    unfold y0_4
    refine State.applyAll_foot rfl ?_ ?_
    · intro a1_0
      refine Foot.step (Parse.own__foot ..) rfl ?_
      exact Foot.refl
    · refine Foot.step (State.modCfg_foot ..) rfl ?_
      refine Foot.step (State.wr64_foot ..) rfl ?_
      exact h_y0_3
  clear_value y0_4
  have h_y0_5 : Foot 11492795 s y0_5 := by
    unfold y0_5
    split
    · extract_lets y2_0
      have h_y2_0 : Foot 11492795 s y2_0 := by
        unfold y2_0
        refine Foot.step (State.fault_foot ..) rfl ?_
        exact h_y0_4
      clear_value y2_0
      refine Foot.ite ?_ ?_
      · exact h_y2_0
      · refine Foot.step (State.fault_foot ..) rfl ?_
        exact h_y2_0
    · exact h_y0_4
  clear_value y0_5
  refine Foot.ite ?_ ?_
  · refine Foot.step (State.fault_foot ..) rfl ?_
    refine Foot.step (State.put_foot ..) rfl ?_
    exact h_y0_5
  · exact h_y0_5

theorem State.loadBad_foot (s : State) (code slot : Nat) : Foot 8912899 s (State.loadBad s code slot) := by
  unfold State.loadBad
  extract_lets y0_0
  have h_y0_0 : Foot 8912899 s y0_0 := by
    unfold y0_0
    refine Foot.step (State.put_foot ..) rfl ?_
    refine Foot.step (State.put_foot ..) rfl ?_
    refine Foot.step (State.put_foot ..) rfl ?_
    refine Foot.step (State.put_foot ..) rfl ?_
    refine Foot.step (State.put_foot ..) rfl ?_
    exact Foot.refl
  clear_value y0_0
  refine Foot.step (State.fault_foot ..) rfl ?_
  refine Foot.step (State.modCfg_foot ..) rfl ?_
  refine Foot.step (State.put_foot ..) rfl ?_
  exact h_y0_0

theorem State.loader_foot (s : State) (q1 q2 : Bool) : Foot 11492799 s (State.loader s q1 q2) := by
  unfold State.loader
  split
  · exact Foot.step (State.loadBad_foot ..) rfl Foot.refl
  · extract_lets bt row slot failed s0
    have h0 : Foot 11492799 s s0 := Foot.ite (Foot.step (State.put_foot ..) rfl Foot.refl) Foot.refl
    clear_value row slot failed bt s0
    have h : Foot 11492799 s (s0.tryLoad slot q1).1 := Foot.step (State.tryLoad_foot ..) rfl h0
    generalize s0.tryLoad slot q1 = x at h ⊢
    obtain ⟨a, p, c, img, bs, mig⟩ := x
    dsimp only at h ⊢
    refine Foot.ite (Foot.step (State.loadOk_foot ..) rfl h) ?_
    have h3 : Foot 11492799 s (a.tryLoad (1 - slot) q2).1 := Foot.step (State.tryLoad_foot ..) rfl h
    generalize a.tryLoad (1 - slot) q2 = y at h3 ⊢
    obtain ⟨b, p2, c2, _, bs2, mig2⟩ := y
    dsimp only at h3 ⊢
    refine Foot.ite (Foot.step (State.loadOk_foot ..) rfl h3) ?_
    exact Foot.step (State.loadBad_foot ..) rfl h3

theorem execLoaderRun_foot (s : State) : FootO 11492799 s (execLoaderRun s) := by
  unfold execLoaderRun
  refine FootO.next ?_
  refine Foot.ite ?_ ?_
  · refine Foot.step (State.loader_foot ..) rfl ?_
    exact Foot.refl
  · exact Foot.refl

theorem execFlashTimeout_foot (first second : Bool) (s : State) : FootO 11492799 s (execFlashTimeout first second s) := by
  unfold execFlashTimeout
  refine FootO.next ?_
  refine Foot.ite ?_ ?_
  · refine Foot.step (State.loader_foot ..) rfl ?_
    exact Foot.refl
  · exact Foot.refl

end Sys2Proof.Machine
end

