-- ==== Sys2Proof/Laws/FootAccess.lean ====
section
/-! SUPPORT. The footprints of the operations and meanings of Sys2Proof.Machine.Access. -/
namespace Sys2Proof.Machine

theorem State.freshen_foot (s : State) (o : Nat) : Foot 100663297 s (State.freshen s o) := by
  unfold State.freshen
  split
  · refine Foot.ite ?_ ?_
    · refine Foot.step (State.put_foot ..) rfl ?_
      exact Foot.refl
    · exact Foot.refl
  · refine Foot.ite ?_ ?_
    · refine Foot.step (State.wr_foot ..) rfl ?_
      exact Foot.refl
    · exact Foot.refl
  · split
    · refine Foot.step (State.put_foot ..) rfl ?_
      exact Foot.refl
    · exact Foot.refl
  · refine Foot.ite ?_ ?_
    · refine Foot.step (State.put_foot ..) rfl ?_
      refine Foot.step (State.put_foot ..) rfl ?_
      exact Foot.refl
    · exact Foot.refl
  · extract_lets y1_0
    have h_y1_0 : Foot 100663297 s y1_0 := by
      unfold y1_0
      refine Foot.step (State.intcSample_foot ..) rfl ?_
      exact Foot.refl
    clear_value y1_0
    split
    · refine Foot.step (State.wr_foot ..) rfl ?_
      exact h_y1_0
    · split
      · refine Foot.step (State.wr_foot ..) rfl ?_
        exact h_y1_0
      · split
        · refine Foot.step (State.wr_foot ..) rfl ?_
          exact h_y1_0
        · split
          · refine Foot.step (State.put_foot ..) rfl ?_
            exact h_y1_0
          · exact h_y1_0
  · refine Foot.ite ?_ ?_
    · refine Foot.step (State.put_foot ..) rfl ?_
      exact Foot.refl
    · refine Foot.ite ?_ ?_
      · refine Foot.step (State.wr64_foot ..) rfl ?_
        exact Foot.refl
      · exact Foot.refl
  · refine Foot.ite ?_ ?_
    · refine Foot.step (State.put_foot ..) rfl ?_
      exact Foot.refl
    · refine Foot.ite ?_ ?_
      · refine Foot.step (State.put_foot ..) rfl ?_
        exact Foot.refl
      · split
        · refine Foot.ite ?_ ?_
          · refine Foot.step (State.put_foot ..) rfl ?_
            exact Foot.refl
          · refine Foot.step (State.put_foot ..) rfl ?_
            refine Foot.step (State.put_foot ..) rfl ?_
            exact Foot.refl
        · exact Foot.refl
  · refine Foot.ite ?_ ?_
    · refine Foot.step (State.put_foot ..) rfl ?_
      exact Foot.refl
    · exact Foot.refl
  · split
    · refine Foot.step (State.put_foot ..) rfl ?_
      refine Foot.step (State.put_foot ..) rfl ?_
      exact Foot.refl
    · exact Foot.refl
  · split
    · refine Foot.step (State.wr_foot ..) rfl ?_
      exact Foot.refl
    · exact Foot.refl
  · refine Foot.ite ?_ ?_
    · refine Foot.step (State.put_foot ..) rfl ?_
      exact Foot.refl
    · refine Foot.ite ?_ ?_
      · refine Foot.step (State.wr64_foot ..) rfl ?_
        exact Foot.refl
      · split
        · refine Foot.step (State.put_foot ..) rfl ?_
          exact Foot.refl
        · split
          · refine Foot.step (State.put_foot ..) rfl ?_
            exact Foot.refl
          · exact Foot.refl
  · refine Foot.ite ?_ ?_
    · refine Foot.step (State.put_foot ..) rfl ?_
      refine Foot.step (State.put_foot ..) rfl ?_
      exact Foot.refl
    · refine Foot.ite ?_ ?_
      · refine Foot.step (State.put_foot ..) rfl ?_
        exact Foot.refl
      · exact Foot.refl
  · refine Foot.ite ?_ ?_
    · refine Foot.step (State.put_foot ..) rfl ?_
      exact Foot.refl
    · refine Foot.ite ?_ ?_
      · refine Foot.step (State.put_foot ..) rfl ?_
        exact Foot.refl
      · exact Foot.refl
  · refine Foot.ite ?_ ?_
    · extract_lets y1_0
      clear_value y1_0
      refine Foot.ite ?_ ?_
      · refine Foot.step (State.put_foot ..) rfl ?_
        refine Foot.step (State.put_foot ..) rfl ?_
        exact Foot.refl
      · refine Foot.ite ?_ ?_
        · refine Foot.step (State.adapt_foot ..) rfl ?_
          exact Foot.refl
        · refine Foot.ite ?_ ?_
          · refine Foot.step (State.put_foot ..) rfl ?_
            exact Foot.refl
          · exact Foot.refl
    · exact Foot.refl

theorem State.readWord_foot (s : State) (who : Who) (o : Nat) : Foot 27266971 s (State.readWord s who o).1 := by
  unfold State.readWord
  extract_lets y0_0
  have h_y0_0 : Foot 27266971 s y0_0.1 := by
    unfold y0_0
    refine Foot.mk1 ?_
    exact Foot.refl
  clear_value y0_0
  split
  · refine Foot.ite1 ?_ ?_
    · refine Foot.step (State.recRead_foot ..) rfl ?_
      exact Foot.refl
    · exact h_y0_0
  · refine Foot.ite1 ?_ ?_
    · refine Foot.step (State.spindleRead_foot ..) rfl ?_
      exact Foot.refl
    · refine Foot.ite1 ?_ ?_
      · refine Foot.step (State.spindleRead_foot ..) rfl ?_
        exact Foot.refl
      · exact h_y0_0
  · split
    · refine Foot.step (State.rxfRead_foot ..) rfl ?_
      exact Foot.refl
    · exact h_y0_0
  · split
    · refine Foot.step (State.headRead_foot ..) rfl ?_
      exact Foot.refl
    · exact h_y0_0
  · refine Foot.ite1 ?_ ?_
    · refine Foot.step (State.playRead_foot ..) rfl ?_
      exact Foot.refl
    · exact h_y0_0
  · refine Foot.ite1 ?_ ?_
    · refine Foot.mk1 ?_
      refine Foot.step (State.put_foot ..) rfl ?_
      refine Foot.step (State.put_foot ..) rfl ?_
      exact Foot.refl
    · split
      · refine Foot.step (State.semRead_foot ..) rfl ?_
        exact Foot.refl
      · exact h_y0_0
  · exact h_y0_0

theorem State.storeWord_foot (s : State) (o : Nat) (v : Word) : Foot 1 s (State.storeWord s o v) := by
  unfold State.storeWord
  refine Foot.step (State.wr_foot ..) rfl ?_
  exact Foot.refl

theorem State.bitsDo_foot {m : Nat} {s0 s : State} {v : Word} {l : List (Nat × (State → State))}
    (hl : ∀ e ∈ l, ∀ x, Foot m x (e.2 x)) (h : Foot m s0 s) : Foot m s0 (State.bitsDo s v l) := by
  unfold State.bitsDo State.each
  induction l generalizing s with
  | nil => exact h
  | cons e l ih =>
    refine ih (fun e' he => hl e' (List.mem_cons_of_mem _ he)) ?_
    exact Foot.ite (Foot.step (hl e (List.mem_cons_self ..) s) (Nat.or_self m) h) h

theorem State.snapWrite_foot (s : State) (g : Nat) (v : Word) : Foot 3 s (State.snapWrite s g v) := by
  unfold State.snapWrite
  refine Foot.ite ?_ ?_
  · refine Foot.step (State.snap_foot ..) rfl ?_
    exact Foot.refl
  · exact Foot.refl

theorem State.dmaStart_foot (s : State) (ch : Nat) : Foot 32769 s (State.dmaStart s ch) := by
  unfold State.dmaStart
  refine Foot.ite ?_ ?_
  · exact Foot.refl
  · refine Foot.step (State.put_foot ..) rfl ?_
    refine Foot.set_dma rfl ?_
    exact Foot.refl

theorem State.dmaAbort_foot (s : State) (ch : Nat) : Foot 32768 s (State.dmaAbort s ch) := by
  unfold State.dmaAbort
  refine Foot.ite ?_ ?_
  · refine Foot.set_dma rfl ?_
    exact Foot.refl
  · exact Foot.refl

theorem State.sqLevelWrite_foot (s : State) (q : Nat) (v : Word) : Foot 513 s (State.sqLevelWrite s q v) := by
  unfold State.sqLevelWrite
  extract_lets y0_0 y0_1 y0_2
  have h_y0_0 : Foot 513 s y0_0 := by
    unfold y0_0
    refine Foot.step (State.storeWord_foot ..) rfl ?_
    exact Foot.refl
  clear_value y0_0
  clear_value y0_1
  clear_value y0_2
  refine Foot.set_sq rfl ?_
  exact h_y0_0

theorem State.writeLow_foot (s : State) (who : Who) (bcast : Bool) (o : Nat) (v : Word) : Foot 134152191 s (State.writeLow s who bcast o v).1 := by
  unfold State.writeLow
  extract_lets y0_0
  clear_value y0_0
  refine Foot.ite1 ?_ ?_
  · refine Foot.mk1 ?_
    refine Foot.step (State.modeRequest_foot ..) rfl ?_
    exact Foot.refl
  · refine Foot.ite1 ?_ ?_
    · refine Foot.mk1 ?_
      refine Foot.step (State.ftestKey_foot ..) rfl ?_
      exact Foot.refl
    · refine Foot.ite1 ?_ ?_
      · refine Foot.mk1 ?_
        refine Foot.step (State.setWakeTimer_foot ..) rfl ?_
        exact Foot.refl
      · refine Foot.ite1 ?_ ?_
        · refine Foot.mk1 ?_
          refine Foot.ite ?_ ?_
          · refine Foot.step (State.unitRequest_foot ..) rfl ?_
            exact Foot.refl
          · exact Foot.refl
        · refine Foot.ite1 ?_ ?_
          · refine Foot.mk1 ?_
            refine Foot.step (State.remoteAuth_foot ..) rfl ?_
            exact Foot.refl
          · refine Foot.ite1 ?_ ?_
            · refine Foot.mk1 ?_
              refine Foot.step (State.remoteCmd_foot ..) rfl ?_
              exact Foot.refl
            · refine Foot.ite1 ?_ ?_
              · refine Foot.mk1 ?_
                refine Foot.step (State.wr_foot ..) rfl ?_
                exact Foot.refl
              · refine Foot.ite1 ?_ ?_
                · refine Foot.mk1 ?_
                  refine Foot.ite ?_ ?_
                  · refine Foot.step (State.logClear_foot ..) rfl ?_
                    exact Foot.refl
                  · exact Foot.refl
                · refine Foot.ite1 ?_ ?_
                  · refine Foot.mk1 ?_
                    refine Foot.step (State.cfgCmd_foot ..) rfl ?_
                    exact Foot.refl
                  · refine Foot.ite1 ?_ ?_
                    · refine Foot.mk1 ?_
                      refine Foot.step (State.recClose_foot ..) rfl ?_
                      exact Foot.refl
                    · refine Foot.ite1 ?_ ?_
                      · refine Foot.mk1 ?_
                        refine Foot.ite ?_ ?_
                        · refine Foot.step (State.put_foot ..) rfl ?_
                          exact Foot.refl
                        · exact Foot.refl
                      · refine Foot.ite1 ?_ ?_
                        · refine Foot.mk1 ?_
                          refine Foot.step (State.snapWrite_foot ..) rfl ?_
                          exact Foot.refl
                        · refine Foot.ite1 ?_ ?_
                          · refine Foot.ite1 ?_ ?_
                            · refine Foot.mk1 ?_
                              refine Foot.step (State.injWrite_foot ..) rfl ?_
                              exact Foot.refl
                            · refine Foot.mk1 ?_
                              exact Foot.refl
                          · refine Foot.ite1 ?_ ?_
                            · refine Foot.ite1 ?_ ?_
                              · refine Foot.mk1 ?_
                                refine Foot.step (State.storeWord_foot ..) rfl ?_
                                exact Foot.refl
                              · refine Foot.mk1 ?_
                                exact Foot.refl
                            · refine Foot.ite1 ?_ ?_
                              · refine Foot.mk1 ?_
                                refine Foot.step (State.swi_foot ..) rfl ?_
                                exact Foot.refl
                              · split
                                · refine Foot.mk1 ?_
                                  refine Foot.step (State.wdWrite_foot ..) rfl ?_
                                  exact Foot.refl
                                · split
                                  · refine Foot.mk1 ?_
                                    refine Foot.step (State.wdKickWrite_foot ..) rfl ?_
                                    exact Foot.refl
                                  · split
                                    · refine Foot.mk1 ?_
                                      refine Foot.step (State.claim_foot ..) rfl ?_
                                      exact Foot.refl
                                    · split
                                      · refine Foot.mk1 ?_
                                        refine Foot.step (State.complete_foot ..) rfl ?_
                                        exact Foot.refl
                                      · split
                                        · refine Foot.mk1 ?_
                                          refine Foot.ite ?_ ?_
                                          · refine Foot.step (State.storeWord_foot ..) rfl ?_
                                            exact Foot.refl
                                          · exact Foot.refl
                                        · refine Foot.mk1 ?_
                                          refine Foot.step (State.storeWord_foot ..) rfl ?_
                                          exact Foot.refl

theorem State.writeMid_foot (s : State) (o : Nat) (v : Word) : Foot 14978303 s (State.writeMid s o v) := by
  unfold State.writeMid
  refine Foot.ite ?_ ?_
  · refine Foot.step (State.snapWrite_foot ..) rfl ?_
    exact Foot.refl
  · refine Foot.ite ?_ ?_
    · refine Foot.ite ?_ ?_
      · refine Foot.step (State.scrubStart_foot ..) rfl ?_
        refine Foot.step (State.storeWord_foot ..) rfl ?_
        exact Foot.refl
      · refine Foot.step (State.storeWord_foot ..) rfl ?_
        exact Foot.refl
    · refine Foot.ite ?_ ?_
      · refine Foot.step (State.serve_foot ..) rfl ?_
        refine Foot.step (State.storeWord_foot ..) rfl ?_
        exact Foot.refl
      · refine Foot.ite ?_ ?_
        · refine Foot.step (State.snapWrite_foot ..) rfl ?_
          exact Foot.refl
        · refine Foot.ite ?_ ?_
          · refine State.bitsDo_foot ?_ ?_
            · simp only [List.forall_mem_cons, List.not_mem_nil, IsEmpty.forall_iff, implies_true, and_true]
              repeat' apply And.intro
              · intro a0_0
                refine Foot.step (State.callStart_foot ..) rfl ?_
                exact Foot.refl
              · intro a0_0
                refine Foot.step (State.assignSend_foot ..) rfl ?_
                exact Foot.refl
            · exact Foot.refl
          · refine Foot.ite ?_ ?_
            · refine Foot.step (State.snapWrite_foot ..) rfl ?_
              exact Foot.refl
            · refine Foot.ite ?_ ?_
              · refine State.bitsDo_foot ?_ ?_
                · simp only [List.forall_mem_cons, List.not_mem_nil, IsEmpty.forall_iff, implies_true, and_true]
                  intro a0_0
                  refine Foot.step (State.fwdFenceStart_foot ..) rfl ?_
                  exact Foot.refl
                · refine Foot.step (State.storeWord_foot ..) rfl ?_
                  exact Foot.refl
              · refine Foot.ite ?_ ?_
                · refine Foot.step (State.snapWrite_foot ..) rfl ?_
                  exact Foot.refl
                · refine Foot.ite ?_ ?_
                  · refine State.bitsDo_foot ?_ ?_
                    · simp only [List.forall_mem_cons, List.not_mem_nil, IsEmpty.forall_iff, implies_true, and_true]
                      repeat' apply And.intro
                      · intro a0_0
                        refine Foot.step (State.take_foot ..) rfl ?_
                        exact Foot.refl
                      · intro a0_0
                        refine Foot.step (State.yieldAnchor_foot ..) rfl ?_
                        exact Foot.refl
                      · intro a0_0
                        refine Foot.step (State.revert_foot ..) rfl ?_
                        exact Foot.refl
                      · intro a0_0
                        refine Foot.step (State.unlock_foot ..) rfl ?_
                        exact Foot.refl
                    · exact Foot.refl
                  · refine Foot.ite ?_ ?_
                    · refine Foot.step (State.snapWrite_foot ..) rfl ?_
                      exact Foot.refl
                    · refine Foot.ite ?_ ?_
                      · refine Foot.step (State.timeSet_foot ..) rfl ?_
                        refine Foot.step (State.wr_foot ..) rfl ?_
                        exact Foot.refl
                      · refine Foot.ite ?_ ?_
                        · refine Foot.step (State.timeSet_foot ..) rfl ?_
                          refine Foot.step (State.wr_foot ..) rfl ?_
                          exact Foot.refl
                        · refine Foot.ite ?_ ?_
                          · refine Foot.step (State.timeAdj_foot ..) rfl ?_
                            exact Foot.refl
                          · refine Foot.ite ?_ ?_
                            · refine State.bitsDo_foot ?_ ?_
                              · simp only [List.forall_mem_cons, List.not_mem_nil, IsEmpty.forall_iff, implies_true, and_true]
                                intro a0_0
                                refine Foot.step (State.dlClear_foot ..) rfl ?_
                                exact Foot.refl
                              · exact Foot.refl
                            · refine Foot.ite ?_ ?_
                              · split
                                · refine State.bitsDo_foot ?_ ?_
                                  · simp only [List.forall_mem_cons, List.not_mem_nil, IsEmpty.forall_iff, implies_true, and_true]
                                    repeat' apply And.intro
                                    · intro a1_0
                                      refine Foot.step (State.dmaStart_foot ..) rfl ?_
                                      exact Foot.refl
                                    · intro a1_0
                                      refine Foot.step (State.dmaAbort_foot ..) rfl ?_
                                      exact Foot.refl
                                  · refine Foot.step (State.storeWord_foot ..) rfl ?_
                                    exact Foot.refl
                                · refine Foot.step (State.storeWord_foot ..) rfl ?_
                                  exact Foot.refl
                              · refine Foot.ite ?_ ?_
                                · extract_lets y0_0
                                  clear_value y0_0
                                  refine Foot.ite ?_ ?_
                                  · refine State.bitsDo_foot ?_ ?_
                                    · simp only [List.forall_mem_cons, List.not_mem_nil, IsEmpty.forall_iff, implies_true, and_true]
                                      repeat' apply And.intro
                                      · intro a1_0
                                        refine Foot.step (State.alignSlip_foot ..) rfl ?_
                                        exact Foot.refl
                                      · intro a1_0
                                        refine Foot.step (State.alignDone_foot ..) rfl ?_
                                        exact Foot.refl
                                    · exact Foot.refl
                                  · refine Foot.ite ?_ ?_
                                    · refine Foot.step (State.eyeWrite_foot ..) rfl ?_
                                      exact Foot.refl
                                    · refine Foot.ite ?_ ?_
                                      · refine Foot.step (State.patReq_foot ..) rfl ?_
                                        exact Foot.refl
                                      · refine Foot.ite ?_ ?_
                                        · refine Foot.step (State.rxeqWrite_foot ..) rfl ?_
                                          exact Foot.refl
                                        · refine Foot.ite ?_ ?_
                                          · refine Foot.step (State.snapWrite_foot ..) rfl ?_
                                            exact Foot.refl
                                          · refine Foot.step (State.storeWord_foot ..) rfl ?_
                                            exact Foot.refl
                                · refine Foot.step (State.storeWord_foot ..) rfl ?_
                                  exact Foot.refl

theorem State.writeGg_foot (s : State) (o : Nat) (v : Word) : Foot 8391439 s (State.writeGg s o v) := by
  unfold State.writeGg
  refine Foot.ite ?_ ?_
  · refine Foot.step (State.groupWrite_foot ..) rfl ?_
    exact Foot.refl
  · refine Foot.ite ?_ ?_
    · refine Foot.step (State.efSet_foot ..) rfl ?_
      exact Foot.refl
    · refine Foot.ite ?_ ?_
      · refine Foot.step (State.efClr_foot ..) rfl ?_
        exact Foot.refl
      · refine Foot.ite ?_ ?_
        · refine Foot.step (State.snapWrite_foot ..) rfl ?_
          exact Foot.refl
        · split
          · refine State.ggCtl_foot rfl ?_ ?_
            · intro a1_0
              refine State.bitsDo_foot ?_ ?_
              · simp only [List.forall_mem_cons, List.not_mem_nil, IsEmpty.forall_iff, implies_true, and_true]
                repeat' apply And.intro
                · intro a2_0
                  refine Foot.step (State.ggStart_foot ..) rfl ?_
                  exact Foot.refl
                · intro a2_0
                  refine Foot.step (State.ggStop_foot ..) rfl ?_
                  exact Foot.refl
                · intro a2_0
                  refine Foot.step (State.ggResume_foot ..) rfl ?_
                  exact Foot.refl
                · intro a2_0
                  refine Foot.step (State.clkRestart_foot ..) rfl ?_
                  exact Foot.refl
                · intro a2_0
                  refine Foot.step (State.fifoClr_foot ..) rfl ?_
                  exact Foot.refl
              · exact Foot.refl
            · exact Foot.refl
          · split
            · refine Foot.step (State.txfWrite_foot ..) rfl ?_
              exact Foot.refl
            · split
              · refine Foot.step (State.ggInj_foot ..) rfl ?_
                exact Foot.refl
              · split
                · refine Foot.step (State.ggForce_foot ..) rfl ?_
                  exact Foot.refl
                · split
                  · refine State.bitsDo_foot ?_ ?_
                    · simp only [List.forall_mem_cons, List.not_mem_nil, IsEmpty.forall_iff, implies_true, and_true]
                      repeat' apply And.intro
                      · intro a5_0
                        refine Foot.step (State.flush_foot ..) rfl ?_
                        exact Foot.refl
                      · intro a5_0
                        refine Foot.step (State.put_foot ..) rfl ?_
                        exact Foot.refl
                      · intro a5_0
                        refine Foot.step (State.adv_foot ..) rfl ?_
                        exact Foot.refl
                      · intro a5_0
                        refine Foot.step (State.commitItem_foot ..) rfl ?_
                        exact Foot.refl
                    · exact Foot.refl
                  · split
                    · refine Foot.step (State.sqLevelWrite_foot ..) rfl ?_
                      exact Foot.refl
                    · refine Foot.step (State.storeWord_foot ..) rfl ?_
                      exact Foot.refl

theorem State.writeHigh_foot (s : State) (who : Who) (o : Nat) (v : Word) : Foot 15202459 s (State.writeHigh s who o v).1 := by
  unfold State.writeHigh
  refine Foot.ite1 ?_ ?_
  · refine Foot.mk1 ?_
    refine Foot.step (State.snapWrite_foot ..) rfl ?_
    exact Foot.refl
  · refine Foot.ite1 ?_ ?_
    · refine Foot.mk1 ?_
      refine Foot.step (State.snapWrite_foot ..) rfl ?_
      exact Foot.refl
    · refine Foot.ite1 ?_ ?_
      · refine Foot.mk1 ?_
        refine Foot.step (State.snapWrite_foot ..) rfl ?_
        exact Foot.refl
      · refine Foot.ite1 ?_ ?_
        · refine Foot.mk1 ?_
          refine Foot.step (State.updCmd_foot ..) rfl ?_
          exact Foot.refl
        · refine Foot.ite1 ?_ ?_
          · refine Foot.mk1 ?_
            refine Foot.step (State.otpKey_foot ..) rfl ?_
            exact Foot.refl
          · refine Foot.ite1 ?_ ?_
            · refine Foot.ite1 ?_ ?_
              · refine Foot.mk1 ?_
                refine State.bitsDo_foot ?_ ?_
                · simp only [List.forall_mem_cons, List.not_mem_nil, IsEmpty.forall_iff, implies_true, and_true]
                  intro a0_0
                  refine Foot.step (State.mbistStart_foot ..) rfl ?_
                  exact Foot.refl
                · refine Foot.step (State.storeWord_foot ..) rfl ?_
                  exact Foot.refl
              · refine Foot.mk1 ?_
                exact Foot.refl
            · split
              · refine Foot.mk1 ?_
                refine State.bitsDo_foot ?_ ?_
                · simp only [List.forall_mem_cons, List.not_mem_nil, IsEmpty.forall_iff, implies_true, and_true]
                  repeat' apply And.intro
                  · intro a1_0
                    refine Foot.step (State.lsCaptStart_foot ..) rfl ?_
                    exact Foot.refl
                  · intro a1_0
                    refine Foot.step (State.lsSweepStart_foot ..) rfl ?_
                    exact Foot.refl
                · refine Foot.step (State.storeWord_foot ..) rfl ?_
                  exact Foot.refl
              · split
                · refine Foot.mk1 ?_
                  refine State.bitsDo_foot ?_ ?_
                  · simp only [List.forall_mem_cons, List.not_mem_nil, IsEmpty.forall_iff, implies_true, and_true]
                    intro a2_0
                    refine Foot.step (State.mbRestart_foot ..) rfl ?_
                    exact Foot.refl
                  · exact Foot.refl
                · split
                  · refine Foot.mk1 ?_
                    refine Foot.ite ?_ ?_
                    · refine Foot.step (State.txAbort_foot ..) rfl ?_
                      exact Foot.refl
                    · refine Foot.ite ?_ ?_
                      · refine Foot.step (State.txRequest_foot ..) rfl ?_
                        exact Foot.refl
                      · exact Foot.refl
                  · split
                    · refine Foot.mk1 ?_
                      refine Foot.ite ?_ ?_
                      · refine Foot.step (State.fenceStart_foot ..) rfl ?_
                        exact Foot.refl
                      · exact Foot.refl
                    · split
                      · refine Foot.step (State.semWrite_foot ..) rfl ?_
                        exact Foot.refl
                      · split
                        · refine Foot.mk1 ?_
                          refine State.bitsDo_foot ?_ ?_
                          · simp only [List.forall_mem_cons, List.not_mem_nil, IsEmpty.forall_iff, implies_true, and_true]
                            repeat' apply And.intro
                            · intro a6_0
                              refine Foot.step (State.lpOff_foot ..) rfl ?_
                              exact Foot.refl
                            · intro a6_0
                              refine Foot.step (State.lpOn_foot ..) rfl ?_
                              exact Foot.refl
                            · intro a6_0
                              refine Foot.step (State.lpClear_foot ..) rfl ?_
                              exact Foot.refl
                            · intro a6_0
                              refine Foot.step (State.detDue_foot ..) rfl ?_
                              exact Foot.refl
                          · exact Foot.refl
                        · refine Foot.mk1 ?_
                          refine Foot.step (State.storeWord_foot ..) rfl ?_
                          exact Foot.refl

theorem State.writeWord_foot (s : State) (who : Who) (bcast : Bool) (o : Nat) (v : Word) : Foot 134217727 s (State.writeWord s who bcast o v).1 := by
  unfold State.writeWord
  refine Foot.ite1 ?_ ?_
  · refine Foot.mk1 ?_
    refine Foot.step (State.fault_foot ..) rfl ?_
    exact Foot.refl
  · refine Foot.ite1 ?_ ?_
    · extract_lets y0_0
      have h_y0_0 : Foot 134217727 s y0_0.1 := by
        unfold y0_0
        refine State.shadowWrite_foot rfl ?_ ?_
        · intro a1_0
          refine Foot.step (State.wrMasked_foot ..) rfl ?_
          exact Foot.refl
        · refine Foot.step (State.keysDrop_foot ..) rfl ?_
          exact Foot.refl
      clear_value y0_0
      refine Foot.mk1 ?_
      exact h_y0_0
    · extract_lets y0_0 y0_1
      have h_y0_0 : Foot 134217727 s y0_0 := by
        unfold y0_0
        refine Foot.ite ?_ ?_
        · exact Foot.refl
        · refine Foot.step (State.keysDrop_foot ..) rfl ?_
          exact Foot.refl
      clear_value y0_0
      clear_value y0_1
      refine Foot.ite1 ?_ ?_
      · refine Foot.step (State.writeLow_foot ..) rfl ?_
        exact h_y0_0
      · refine Foot.ite1 ?_ ?_
        · refine Foot.mk1 ?_
          refine Foot.step (State.writeMid_foot ..) rfl ?_
          exact h_y0_0
        · refine Foot.ite1 ?_ ?_
          · refine Foot.mk1 ?_
            refine Foot.step (State.writeGg_foot ..) rfl ?_
            exact h_y0_0
          · refine Foot.step (State.writeHigh_foot ..) rfl ?_
            exact h_y0_0

theorem State.setBivMark_foot (s : State) (w : Nat) (m : Option Mark) : Foot 1048576 s (State.setBivMark s w m) := by
  unfold State.setBivMark
  refine Foot.set_biv (fun i => i.biv) rfl ?_
  exact Foot.refl

theorem State.bivUpset_foot (s : State) (us : List Upset) : Foot 1048576 s (State.bivUpset s us) := by
  unfold State.bivUpset
  refine Foot.each ?_ ?_
  · intro a0_0 a0_1
    refine Foot.ite ?_ ?_
    · refine Foot.step (State.setBivMark_foot ..) rfl ?_
      exact Foot.refl
    · exact Foot.refl
  · exact Foot.refl

theorem State.bivDo_foot (s : State) (write : Bool) (o : Nat) (v : Word) : Foot 9437187 s (State.bivDo s write o v).1 := by
  unfold State.bivDo
  extract_lets y0_0 y0_1 y0_2 y0_3
  clear_value y0_0
  have h_y0_2 : Foot 9437187 s y0_2 := by
    unfold y0_2
    refine Foot.set_biv (fun i => Tab.wf_setList _ _ i.biv) rfl ?_
    exact Foot.refl
  clear_value y0_2
  clear_value y0_3
  refine Foot.ite1 ?_ ?_
  · refine Foot.mk1 ?_
    refine Foot.step (State.setBivMark_foot ..) rfl ?_
    exact h_y0_2
  · split
    · refine Foot.mk1 ?_
      exact Foot.refl
    · refine Foot.ite1 ?_ ?_
      · refine Foot.mk1 ?_
        refine Foot.step (State.fault_foot ..) rfl ?_
        refine Foot.step (State.put_foot ..) rfl ?_
        exact Foot.refl
      · refine Foot.mk1 ?_
        refine Foot.step (State.fault_foot ..) rfl ?_
        refine Foot.step (State.put_foot ..) rfl ?_
        refine Foot.step (State.setBivMark_foot ..) rfl ?_
        exact Foot.refl

theorem State.regAccess_foot (s : State) (who : Who) (write bcast : Bool) (size off data : Nat) : Foot 134217727 s (State.regAccess s who write bcast size off data).1 := by
  unfold State.regAccess
  split
  · refine Foot.mk1 ?_
    refine Foot.step (State.fault_foot ..) rfl ?_
    exact Foot.refl
  · extract_lets y1_0 y1_1 y1_2 y1_3 y1_4 y1_5 y1_6 y1_7
    clear_value y1_0
    have h_y1_1 : Foot 134217727 s y1_1 := by
      unfold y1_1
      refine Foot.ite ?_ ?_
      · refine Foot.step (State.rcUse_foot ..) rfl ?_
        exact Foot.refl
      · exact Foot.refl
    clear_value y1_1
    have h_y1_3 : Foot 134217727 s y1_3.1 := by
      unfold y1_3
      refine Foot.step (State.bivDo_foot ..) rfl ?_
      exact h_y1_1
    clear_value y1_3
    have h_y1_4 : Foot 134217727 s y1_4.1 := by
      unfold y1_4
      refine Foot.step (State.writeWord_foot ..) rfl ?_
      exact h_y1_1
    clear_value y1_4
    have h_y1_5 : Foot 134217727 s y1_5.1 := by
      unfold y1_5
      refine Foot.step (State.writeWord_foot ..) rfl ?_
      exact h_y1_4
    clear_value y1_5
    have h_y1_6 : Foot 134217727 s y1_6.1 := by
      unfold y1_6
      refine Foot.step (State.readWord_foot ..) rfl ?_
      exact h_y1_1
    clear_value y1_6
    have h_y1_7 : Foot 134217727 s y1_7.1 := by
      unfold y1_7
      refine Foot.step (State.readWord_foot ..) rfl ?_
      exact h_y1_6
    clear_value y1_7
    refine Foot.ite1 ?_ ?_
    · refine Foot.mk1 ?_
      exact h_y1_1
    · refine Foot.ite1 ?_ ?_
      · refine Foot.mk1 ?_
        refine Foot.step (State.fault_foot ..) rfl ?_
        exact h_y1_1
      · refine Foot.ite1 ?_ ?_
        · refine Foot.ite1 ?_ ?_
          · refine Foot.mk1 ?_
            refine Foot.step (State.fault_foot ..) rfl ?_
            exact h_y1_1
          · refine Foot.ite1 ?_ ?_
            · refine Foot.mk1 ?_
              refine Foot.step (State.fault_foot ..) rfl ?_
              exact h_y1_1
            · refine Foot.ite1 ?_ ?_
              · refine Foot.mk1 ?_
                refine Foot.set_biv (fun i => i.biv) rfl ?_
                exact h_y1_1
              · refine Foot.mk1 ?_
                exact h_y1_3
        · split
          · refine Foot.mk1 ?_
            refine Foot.step (State.fault_foot ..) rfl ?_
            exact h_y1_1
          · extract_lets y3_0
            refine Foot.ite1 ?_ ?_
            · refine Foot.mk1 ?_
              refine Foot.step (State.fault_foot ..) rfl ?_
              exact h_y1_1
            · refine Foot.ite1 ?_ ?_
              · refine Foot.mk1 ?_
                refine Foot.step (State.fault_foot ..) rfl ?_
                exact h_y1_1
              · refine Foot.ite1 ?_ ?_
                · refine Foot.ite1 ?_ ?_
                  · refine Foot.ite1 ?_ ?_
                    · refine Foot.mk1 ?_
                      refine Foot.step (State.timeSet_foot ..) rfl ?_
                      refine Foot.step (State.wr64_foot ..) rfl ?_
                      exact h_y1_1
                    · refine Foot.mk1 ?_
                      exact h_y1_5
                  · refine Foot.mk1 ?_
                    exact h_y1_4
                · refine Foot.ite1 ?_ ?_
                  · refine Foot.ite1 ?_ ?_
                    · refine Foot.mk1 ?_
                      exact h_y1_1
                    · refine Foot.mk1 ?_
                      exact h_y1_7
                  · refine Foot.mk1 ?_
                    exact h_y1_6

theorem State.regDone_foot (s : State) (who : Who) (write bcast : Bool) (size off data : Nat) : Foot 134217727 s (State.regDone s who write bcast size off data) := by
  unfold State.regDone
  refine Foot.ite ?_ ?_
  · exact Foot.refl
  · extract_lets y0_0
    have h_y0_0 : Foot 134217727 s y0_0.1 := by
      unfold y0_0
      refine Foot.step (State.regAccess_foot ..) rfl ?_
      exact Foot.refl
    clear_value y0_0
    split
    · refine Foot.step (State.answer_foot ..) rfl ?_
      exact h_y0_0
    · exact h_y0_0

theorem execShadowWrite_foot (who : Who) (off : BitVec 24) (value : Word) (s : State) : FootO 134217727 s (execShadowWrite who off value s) := by
  unfold execShadowWrite
  refine FootO.next ?_
  split
  · refine Foot.ite ?_ ?_
    · refine Foot.step (State.regDone_foot ..) rfl ?_
      exact Foot.refl
    · exact Foot.refl
  · exact Foot.refl

theorem execRegisterWrite_foot (who : Who) (bcast : Bool) (size : Fin 4) (off : BitVec 38) (data : DWord) (upset : List Upset) (s : State) : FootO 134217727 s (execRegisterWrite who bcast size off data upset s) := by
  unfold execRegisterWrite
  refine FootO.next ?_
  refine Foot.ite ?_ ?_
  · exact Foot.refl
  · refine Foot.step (State.regDone_foot ..) rfl ?_
    refine Foot.step (State.bivUpset_foot ..) rfl ?_
    exact Foot.refl

theorem execRegisterRead_foot (who : Who) (size : Fin 4) (off : BitVec 38) (upset : List Upset) (s : State) : FootO 134217727 s (execRegisterRead who size off upset s) := by
  unfold execRegisterRead
  refine FootO.next ?_
  refine Foot.ite ?_ ?_
  · exact Foot.refl
  · refine Foot.step (State.regDone_foot ..) rfl ?_
    refine Foot.step (State.bivUpset_foot ..) rfl ?_
    exact Foot.refl

theorem execBivouacZeroingDone_foot (s : State) : FootO 134217727 s (execBivouacZeroingDone s) := by
  unfold execBivouacZeroingDone
  refine FootO.next ?_
  refine Foot.ite ?_ ?_
  · exact Foot.refl
  · extract_lets y0_0
    have h_y0_0 : Foot 134217727 s y0_0 := by
      unfold y0_0
      refine Foot.set_biv (fun i => Tab.wf_nil _) rfl ?_
      exact Foot.refl
    clear_value y0_0
    refine Foot.each ?_ ?_
    · intro a1_0 a1_1
      refine Foot.step (State.regDone_foot ..) rfl ?_
      exact Foot.refl
    · refine Foot.step (State.put_foot ..) rfl ?_
      exact h_y0_0

theorem execDmaStart_foot (ch : Fin 2) (s : State) : FootO 8421379 s (execDmaStart ch s) := by
  unfold execDmaStart
  refine FootO.next ?_
  refine State.cmd_foot rfl ?_ ?_
  · intro a0_0
    refine Foot.step (State.dmaStart_foot ..) rfl ?_
    exact Foot.refl
  · exact Foot.refl

theorem execDmaAbort_foot (ch : Fin 2) (s : State) : FootO 8421379 s (execDmaAbort ch s) := by
  unfold execDmaAbort
  refine FootO.next ?_
  refine State.cmd_foot rfl ?_ ?_
  · intro a0_0
    refine Foot.step (State.dmaAbort_foot ..) rfl ?_
    exact Foot.refl
  · exact Foot.refl

end Sys2Proof.Machine
end

