-- ==== Sys2Proof/Laws/FootTarget.lean ====
section
/-! SUPPORT. The footprints of the operations and meanings of Sys2Proof.Machine.Target. -/
namespace Sys2Proof.Machine

theorem State.storeNow_foot (s : State) (req o : Nat) (f : Option AccForm) (src : AccSrc) : Foot 12582927 s (State.storeNow s req o f src).1 := by
  unfold State.storeNow
  split
  · refine Foot.mk1 ?_
    refine Foot.step (State.fault_foot ..) rfl ?_
    exact Foot.refl
  · refine Foot.ite1 ?_ ?_
    · refine Foot.mk1 ?_
      refine Foot.step (State.fault_foot ..) rfl ?_
      exact Foot.refl
    · refine Foot.ite1 ?_ ?_
      · refine Foot.mk1 ?_
        refine Foot.step (State.enwait_foot ..) rfl ?_
        exact Foot.refl
      · extract_lets y1_0
        have h_y1_0 : Foot 12582927 s y1_0 := by
          unfold y1_0
          refine Foot.step (State.perform_foot ..) rfl ?_
          exact Foot.refl
        clear_value y1_0
        split
        · refine Foot.mk1 ?_
          refine Foot.set_resp rfl ?_
          exact h_y1_0
        · refine Foot.mk1 ?_
          exact h_y1_0

theorem State.serve1_foot (s : State) (who : Who) (bcast : Bool) (op size beats off : Nat) (data : List DWord) (src : AccSrc) : Foot 134217727 s (State.serve1 s who bcast op size beats off data src).1 := by
  unfold State.serve1
  refine Foot.ite1 ?_ ?_
  · refine Foot.mk1 ?_
    exact Foot.refl
  · refine Foot.ite1 ?_ ?_
    · refine Foot.step (State.storeNow_foot ..) rfl ?_
      exact Foot.refl
    · refine Foot.ite1 ?_ ?_
      · extract_lets y0_0
        have h_y0_0 : Foot 134217727 s y0_0.1 := by
          unfold y0_0
          refine Foot.step (State.regAccess_foot ..) rfl ?_
          exact Foot.refl
        clear_value y0_0
        split
        · refine Foot.mk1 ?_
          exact h_y0_0
        · refine Foot.mk1 ?_
          exact h_y0_0
      · refine Foot.mk1 ?_
        exact Foot.refl

theorem State.netDone_foot (s : State) (f : Frame) (status data : Nat) : Foot 10485915 s (State.netDone s f status data) := by
  unfold State.netDone
  refine Foot.ite ?_ ?_
  · exact Foot.refl
  · refine Foot.step (State.originate_foot ..) rfl ?_
    exact Foot.refl

theorem State.serveFrame_foot (s : State) (f : Frame) : Foot 134217727 s (State.serveFrame s f) := by
  unfold State.serveFrame
  extract_lets y0_0 y0_1
  clear_value y0_0
  have h_y0_1 : Foot 134217727 s y0_1.1 := by
    unfold y0_1
    refine Foot.step (State.serve1_foot ..) rfl ?_
    exact Foot.refl
  clear_value y0_1
  split
  · refine Foot.step (State.netDone_foot ..) rfl ?_
    exact h_y0_1
  · exact h_y0_1

theorem State.serveOp_foot (s : State) (op : Nat) (f : Frame) : Foot 134217727 s (State.serveOp s op f) := by
  unfold State.serveOp
  refine Foot.ite ?_ ?_
  · refine Foot.step (State.serveFrame_foot ..) rfl ?_
    exact Foot.refl
  · exact Foot.refl

theorem execFabRead_foot (frame : Frame) (s : State) : FootO 134217727 s (execFabRead frame s) := by
  unfold execFabRead
  refine FootO.next ?_
  refine Foot.step (State.serveOp_foot ..) rfl ?_
  exact Foot.refl

theorem execFabWrite_foot (frame : Frame) (s : State) : FootO 134217727 s (execFabWrite frame s) := by
  unfold execFabWrite
  refine FootO.next ?_
  refine Foot.step (State.serveOp_foot ..) rfl ?_
  exact Foot.refl

theorem execFabSwap_foot (frame : Frame) (s : State) : FootO 134217727 s (execFabSwap frame s) := by
  unfold execFabSwap
  refine FootO.next ?_
  refine Foot.step (State.serveOp_foot ..) rfl ?_
  exact Foot.refl

theorem execFabAdd_foot (frame : Frame) (s : State) : FootO 134217727 s (execFabAdd frame s) := by
  unfold execFabAdd
  refine FootO.next ?_
  refine Foot.step (State.serveOp_foot ..) rfl ?_
  exact Foot.refl

theorem execFabCas_foot (frame : Frame) (s : State) : FootO 134217727 s (execFabCas frame s) := by
  unfold execFabCas
  refine FootO.next ?_
  refine Foot.step (State.serveOp_foot ..) rfl ?_
  exact Foot.refl

theorem execFabFence_foot (frame : Frame) (s : State) : FootO 134217727 s (execFabFence frame s) := by
  unfold execFabFence
  refine FootO.next ?_
  refine Foot.step (State.serveOp_foot ..) rfl ?_
  exact Foot.refl

theorem State.newTag_foot (s : State) (r : Nat) : Foot 8192 s (State.newTag s r).1 := by
  unfold State.newTag
  extract_lets y0_0 y0_1
  clear_value y0_0
  clear_value y0_1
  refine Foot.mk1 ?_
  refine Foot.set_fab rfl ?_
  exact Foot.refl

theorem State.putDone_foot (s : State) (tag : Nat) (q : FReq) (status : Nat) : Foot 8429571 s (State.putDone s tag q status) := by
  unfold State.putDone
  extract_lets y0_0
  have h_y0_0 : Foot 8429571 s y0_0 := by
    unfold y0_0
    split
    · refine Foot.ite ?_ ?_
      · refine Foot.step (State.dmaErr_foot ..) rfl ?_
        exact Foot.refl
      · refine Foot.ite ?_ ?_
        · refine Foot.step (State.dmaErr_foot ..) rfl ?_
          exact Foot.refl
        · exact Foot.refl
    · exact Foot.refl
  clear_value y0_0
  refine Foot.ite ?_ ?_
  · exact h_y0_0
  · refine Foot.step (State.pwFail_foot ..) rfl ?_
    exact h_y0_0

theorem State.putGo_foot (s : State) (tag : Nat) (q : FReq) : Foot 134217727 s (State.putGo s tag q) := by
  unfold State.putGo
  extract_lets y0_0
  have h_y0_0 : Foot 134217727 s y0_0.1 := by
    unfold y0_0
    refine Foot.step (State.serve1_foot ..) rfl ?_
    exact Foot.refl
  clear_value y0_0
  split
  · refine Foot.step (State.putDone_foot ..) rfl ?_
    exact h_y0_0
  · exact h_y0_0

theorem State.hereQueue_foot (s : State) (tag : Nat) (q : FReq) : Foot 8192 s (State.hereQueue s tag q) := by
  unfold State.hereQueue
  refine Foot.set_fab rfl ?_
  exact Foot.refl

theorem State.post_foot (s : State) (q : FReq) : Foot 134217727 s (State.post s q) := by
  unfold State.post
  extract_lets y0_0 y0_1
  have h_y0_0 : Foot 134217727 s y0_0.1 := by
    unfold y0_0
    refine Foot.step (State.newTag_foot ..) rfl ?_
    exact Foot.refl
  clear_value y0_0
  have h_y0_1 : Foot 134217727 s y0_1 := by
    unfold y0_1
    refine Foot.step (State.accepted_foot ..) rfl ?_
    exact h_y0_0
  clear_value y0_1
  refine Foot.ite ?_ ?_
  · refine Foot.ite ?_ ?_
    · refine Foot.step (State.hereQueue_foot ..) rfl ?_
      exact h_y0_1
    · refine Foot.step (State.putGo_foot ..) rfl ?_
      exact h_y0_1
  · refine Foot.step (State.postWrite_foot ..) rfl ?_
    exact h_y0_0

theorem State.postBytes_foot (s : State) (use : Use) (r a : Nat) (bs : List Byte) : Foot 134217727 s (State.postBytes s use r a bs) := by
  unfold State.postBytes
  exact Foot.foldl1 (fun x _ => Foot.step (State.post_foot ..) rfl Foot.refl) _ Foot.refl

theorem State.ended_foot (s : State) (q : FReq) (status : Nat) (data : List DWord) : Foot 134217727 s (State.ended s q status data) := by
  unfold State.ended
  split
  · refine Foot.ite ?_ ?_
    · refine Foot.step (State.postBytes_foot ..) rfl ?_
      exact Foot.refl
    · refine Foot.step (State.finish_foot ..) rfl ?_
      exact Foot.refl
  · refine Foot.step (State.finish_foot ..) rfl ?_
    exact Foot.refl

theorem State.getGo_foot (s : State) (q : FReq) : Foot 134217727 s (State.getGo s q) := by
  unfold State.getGo
  extract_lets y0_0
  have h_y0_0 : Foot 134217727 s y0_0.1 := by
    unfold y0_0
    refine Foot.step (State.serve1_foot ..) rfl ?_
    exact Foot.refl
  clear_value y0_0
  split
  · refine Foot.step (State.ended_foot ..) rfl ?_
    exact h_y0_0
  · exact h_y0_0

theorem State.servedDone_foot (s : State) (x : AccSrc) (status data : Nat) : Foot 134217727 s (State.servedDone s x status data) := by
  unfold State.servedDone
  split
  · refine Foot.ite ?_ ?_
    · refine Foot.step (State.putDone_foot ..) rfl ?_
      exact Foot.refl
    · refine Foot.step (State.ended_foot ..) rfl ?_
      exact Foot.refl
  · refine Foot.step (State.netDone_foot ..) rfl ?_
    exact Foot.refl
  · exact Foot.refl

theorem State.herePump_foot (s : State) : Foot 134217727 s (State.herePump s) := by
  unfold State.herePump
  extract_lets y0_0 y0_1 y0_2 y0_3
  clear_value y0_0
  have h_y0_1 : Foot 134217727 s y0_1 := by
    unfold y0_1
    refine Foot.each ?_ ?_
    · intro a1_0 a1_1
      refine Foot.step (State.servedDone_foot ..) rfl ?_
      exact Foot.refl
    · refine Foot.set_store rfl ?_
      exact Foot.refl
  clear_value y0_1
  clear_value y0_2
  clear_value y0_3
  refine Foot.each ?_ ?_
  · intro a1_0 a1_1
    refine Foot.ite ?_ ?_
    · refine Foot.step (State.hereQueue_foot ..) rfl ?_
      exact Foot.refl
    · refine Foot.ite ?_ ?_
      · refine Foot.step (State.putGo_foot ..) rfl ?_
        exact Foot.refl
      · refine Foot.step (State.getGo_foot ..) rfl ?_
        exact Foot.refl
  · refine Foot.set_fab rfl ?_
    exact h_y0_1

theorem State.issueReq_foot (s : State) (q : FReq) : Foot 134217727 s (State.issueReq s q) := by
  unfold State.issueReq
  refine Foot.ite ?_ ?_
  · extract_lets y0_0
    have h_y0_0 : Foot 134217727 s y0_0 := by
      unfold y0_0
      refine Foot.step (State.post_foot ..) rfl ?_
      exact Foot.refl
    clear_value y0_0
    split
    · refine Foot.step (State.answer_foot ..) rfl ?_
      exact h_y0_0
    · exact h_y0_0
  · refine Foot.ite ?_ ?_
    · refine Foot.step (State.ended_foot ..) rfl ?_
      refine Foot.step (State.fault_foot ..) rfl ?_
      exact Foot.refl
    · refine Foot.ite ?_ ?_
      · refine Foot.ite ?_ ?_
        · refine Foot.step (State.hereQueue_foot ..) rfl ?_
          exact Foot.refl
        · refine Foot.step (State.getGo_foot ..) rfl ?_
          exact Foot.refl
      · refine Foot.ite ?_ ?_
        · refine Foot.step (State.ended_foot ..) rfl ?_
          exact Foot.refl
        · refine Foot.step (State.request_foot ..) rfl ?_
          exact Foot.refl

theorem State.modDma_foot (s : State) (ch : Nat) (f : DmaSt → DmaSt) : Foot 32768 s (State.modDma s ch f) := by
  unfold State.modDma
  refine Foot.set_dma rfl ?_
  exact Foot.refl

theorem State.dmaCheck_foot (s : State) (ch : Nat) : Foot 14737563 s (State.dmaCheck s ch) := by
  unfold State.dmaCheck
  extract_lets y0_0
  clear_value y0_0
  refine Foot.ite ?_ ?_
  · refine Foot.step (State.fenceStart_foot ..) rfl ?_
    refine Foot.step (State.modDma_foot ..) rfl ?_
    exact Foot.refl
  · exact Foot.refl

theorem State.dmaPoll_foot (s : State) : Foot 14737563 s (State.dmaPoll s) := by
  unfold State.dmaPoll
  refine Foot.step (State.dmaCheck_foot ..) rfl ?_
  refine Foot.step (State.dmaCheck_foot ..) rfl ?_
  exact Foot.refl

theorem State.dmaBurst_foot (s : State) (ch : Nat) : Foot 134217727 s (State.dmaBurst s ch) := by
  unfold State.dmaBurst
  refine Foot.ite ?_ ?_
  · refine Foot.step (State.dmaCheck_foot ..) rfl ?_
    exact Foot.refl
  · extract_lets y0_0 y0_1 y0_2 y0_3 y0_4 y0_5
    clear_value y0_0
    clear_value y0_1
    clear_value y0_2
    clear_value y0_3
    clear_value y0_4
    have h_y0_5 : Foot 134217727 s y0_5 := by
      unfold y0_5
      refine Foot.step (State.modDma_foot ..) rfl ?_
      exact Foot.refl
    clear_value y0_5
    refine Foot.step (State.dmaCheck_foot ..) rfl ?_
    refine Foot.foldl1 ?_ _ ?_
    · intro a1_0 a1_1
      refine Foot.mk1 ?_
      refine Foot.step (State.issueReq_foot ..) rfl ?_
      exact Foot.refl
    · refine Foot.mk1 ?_
      exact h_y0_5

theorem execDmaBurst_foot (ch : Fin 2) (s : State) : FootO 134217727 s (execDmaBurst ch s) := by
  unfold execDmaBurst
  refine FootO.ite ?_ ?_
  · refine FootO.next ?_
    exact Foot.refl
  · refine FootO.next ?_
    refine Foot.step (State.dmaBurst_foot ..) rfl ?_
    exact Foot.refl

theorem State.dmaEnd_foot (s : State) (ch : Nat) : Foot 49155 s (State.dmaEnd s ch) := by
  unfold State.dmaEnd
  extract_lets y0_0 y0_1 y0_2
  have h_y0_0 : Foot 49155 s y0_0 := by
    unfold y0_0
    refine Foot.ite ?_ ?_
    · refine Foot.step (State.fenceEnd_foot ..) rfl ?_
      exact Foot.refl
    · exact Foot.refl
  clear_value y0_0
  clear_value y0_1
  clear_value y0_2
  refine Foot.step (State.put_foot ..) rfl ?_
  refine Foot.when ?_ ?_
  · intro a1_0
    refine Foot.step (State.put_foot ..) rfl ?_
    exact Foot.refl
  · refine Foot.step (State.put_foot ..) rfl ?_
    refine Foot.step (State.put_foot ..) rfl ?_
    refine Foot.step (State.modDma_foot ..) rfl ?_
    exact h_y0_0

theorem execDmaDone_foot (ch : Fin 2) (s : State) : FootO 49155 s (execDmaDone ch s) := by
  unfold execDmaDone
  refine FootO.ite ?_ ?_
  · refine FootO.next ?_
    exact Foot.refl
  · refine FootO.next ?_
    refine Foot.ite ?_ ?_
    · refine Foot.step (State.dmaEnd_foot ..) rfl ?_
      exact Foot.refl
    · exact Foot.refl

theorem State.respRx_foot (s : State) (f : Frame) : Foot 134217727 s (State.respRx s f) := by
  unfold State.respRx
  extract_lets y0_0 y0_1 y0_2
  clear_value y0_0
  clear_value y0_1
  have h_y0_2 : Foot 134217727 s y0_2 := by
    unfold y0_2
    refine Foot.set_fab rfl ?_
    exact Foot.refl
  clear_value y0_2
  refine Foot.ite ?_ ?_
  · refine Foot.ite ?_ ?_
    · exact Foot.refl
    · refine Foot.step (State.pwFail_foot ..) rfl ?_
      exact Foot.refl
  · split
    · refine Foot.step (State.dmaPoll_foot ..) rfl ?_
      refine Foot.step (State.creditPump_foot ..) rfl ?_
      refine Foot.step (State.ended_foot ..) rfl ?_
      exact h_y0_2
    · refine Foot.step (State.bump_foot ..) rfl ?_
      exact Foot.refl

theorem execFabricResponseRx_foot (frame : Frame) (s : State) : FootO 134217727 s (execFabricResponseRx frame s) := by
  unfold execFabricResponseRx
  refine FootO.ite ?_ ?_
  · refine FootO.next ?_
    exact Foot.refl
  · refine FootO.next ?_
    refine Foot.ite ?_ ?_
    · refine Foot.step (State.respRx_foot ..) rfl ?_
      exact Foot.refl
    · exact Foot.refl

theorem execRspTimeout_foot (tag : BitVec 16) (s : State) : FootO 134217727 s (execRspTimeout tag s) := by
  unfold execRspTimeout
  refine FootO.ite ?_ ?_
  · refine FootO.next ?_
    exact Foot.refl
  · refine FootO.next ?_
    split
    · extract_lets y1_0 y1_1
      clear_value y1_0
      have h_y1_1 : Foot 134217727 s y1_1 := by
        unfold y1_1
        refine Foot.set_fab rfl ?_
        exact Foot.refl
      clear_value y1_1
      refine Foot.step (State.dmaPoll_foot ..) rfl ?_
      refine Foot.step (State.creditPump_foot ..) rfl ?_
      refine Foot.step (State.fault_foot ..) rfl ?_
      refine Foot.step (State.put_foot ..) rfl ?_
      refine Foot.step (State.bump_foot ..) rfl ?_
      refine Foot.step (State.ended_foot ..) rfl ?_
      exact h_y1_1
    · exact Foot.refl

theorem State.unmapped_foot (s : State) (req addr : Nat) : Foot 12582915 s (State.unmapped s req addr) := by
  unfold State.unmapped
  refine Foot.step (State.refuse_foot ..) rfl ?_
  refine Foot.step (State.fault_foot ..) rfl ?_
  exact Foot.refl

theorem State.windowAccess_foot (s : State) (core a : Nat) (f : AccForm) : Foot 134217727 s (State.windowAccess s core a f) := by
  unfold State.windowAccess
  extract_lets y0_0
  have h_y0_0 : ∀ b0 b1 b2 b3, Foot 134217727 s (y0_0 b0 b1 b2 b3) := by
    intro b0 b1 b2 b3
    unfold y0_0
    refine Foot.step (State.issueReq_foot ..) rfl ?_
    exact Foot.refl
  split
  · refine Foot.step (h_y0_0 ..) rfl ?_
    exact Foot.refl
  · refine Foot.step (h_y0_0 ..) rfl ?_
    exact Foot.refl
  · refine Foot.ite ?_ ?_
    · refine Foot.step (h_y0_0 ..) rfl ?_
      exact Foot.refl
    · refine Foot.step (State.refuse_foot ..) rfl ?_
      exact Foot.refl
  · refine Foot.ite ?_ ?_
    · refine Foot.step (h_y0_0 ..) rfl ?_
      exact Foot.refl
    · refine Foot.step (State.refuse_foot ..) rfl ?_
      exact Foot.refl
  · exact Foot.refl
  · refine Foot.step (State.refuse_foot ..) rfl ?_
    exact Foot.refl

theorem execMainStoreAccess_foot (req : Fin 8) (addr : BitVec 38) (form : AccForm) (upset : List Upset) (s : State) : FootO 134217727 s (execMainStoreAccess req addr form upset s) := by
  unfold execMainStoreAccess
  refine FootO.ite ?_ ?_
  · refine FootO.next ?_
    exact Foot.refl
  · extract_lets y0_0
    clear_value y0_0
    refine FootO.next ?_
    refine Foot.ite ?_ ?_
    · refine Foot.step (State.access_foot ..) rfl ?_
      refine Foot.step (State.upset_foot ..) rfl ?_
      exact Foot.refl
    · refine Foot.ite ?_ ?_
      · exact Foot.refl
      · refine Foot.ite ?_ ?_
        · refine Foot.step (State.windowAccess_foot ..) rfl ?_
          exact Foot.refl
        · refine Foot.step (State.unmapped_foot ..) rfl ?_
          exact Foot.refl

theorem execAtomicOperation_foot (core : Fin 2) (addr : BitVec 32) (op : AmoOp) (data : Word) (upset : List Upset) (s : State) : FootO 12582927 s (execAtomicOperation core addr op data upset s) := by
  unfold execAtomicOperation
  refine FootO.ite ?_ ?_
  · refine FootO.next ?_
    exact Foot.refl
  · extract_lets y0_0 y0_1
    clear_value y0_0
    clear_value y0_1
    refine FootO.next ?_
    refine Foot.ite ?_ ?_
    · exact Foot.refl
    · refine Foot.ite ?_ ?_
      · refine Foot.step (State.access_foot ..) rfl ?_
        refine Foot.step (State.upset_foot ..) rfl ?_
        exact Foot.refl
      · refine Foot.ite ?_ ?_
        · refine Foot.step (State.refuse_foot ..) rfl ?_
          exact Foot.refl
        · refine Foot.step (State.unmapped_foot ..) rfl ?_
          exact Foot.refl

theorem execFrameOriginate_foot (frame : Frame) (prod : BitVec 8) (s : State) : FootO 134217727 s (execFrameOriginate frame prod s) := by
  unfold execFrameOriginate
  refine FootO.ite ?_ ?_
  · refine FootO.next ?_
    exact Foot.refl
  · refine FootO.next ?_
    refine Foot.ite ?_ ?_
    · exact Foot.refl
    · refine Foot.ite ?_ ?_
      · refine Foot.step (State.issueReq_foot ..) rfl ?_
        exact Foot.refl
      · refine Foot.step (State.originate_foot ..) rfl ?_
        exact Foot.refl

end Sys2Proof.Machine
end

