-- ==== Sys2Proof/Laws/FootHost.lean ====
section
/-! SUPPORT. The footprints of the operations and meanings of Sys2Proof.Machine.Host. -/
namespace Sys2Proof.Machine

theorem State.qspiOut_foot (s : State) (bs : List Byte) : Foot 16384 s (State.qspiOut s bs) := by
  unfold State.qspiOut
  refine Foot.set_hbr rfl ?_
  exact Foot.refl

theorem State.qspiDrop_foot (s : State) : Foot 3 s (State.qspiDrop s) := by
  unfold State.qspiDrop
  refine Foot.step (State.put_foot ..) rfl ?_
  refine Foot.step (State.bump_foot ..) rfl ?_
  exact Foot.refl

theorem State.qspi_foot {m : Nat} {s0 s : State} {f : State → State} (hm : 16384 ||| m = m) (hf : ∀ x, Foot m x (f x))
    (h : Foot m s0 s) : Foot m s0 (State.qspi s f) := by
  have g : Foot m s0 (s.qspiOut []) := Foot.step (State.qspiOut_foot ..) hm h
  unfold State.qspi
  exact Foot.ite g (Foot.step (hf _) (Nat.or_self m) g)

theorem State.qspiAny_foot {m : Nat} {s0 s : State} {f : State → State} (hm : 16384 ||| m = m) (hf : ∀ x, Foot m x (f x))
    (h : Foot m s0 s) : Foot m s0 (State.qspiAny s f) := by
  have g : Foot m s0 (s.qspiOut []) := Foot.step (State.qspiOut_foot ..) hm h
  unfold State.qspiAny
  exact Foot.ite g (Foot.step (hf _) (Nat.or_self m) g)

theorem execQspiStatus_foot (s : State) : FootO 27283355 s (execQspiStatus s) := by
  unfold execQspiStatus
  refine FootO.next ?_
  refine State.qspiAny_foot rfl ?_ ?_
  · intro a0_0
    extract_lets y1_0
    have h_y1_0 : Foot 27283355 a0_0 y1_0.1 := by
      unfold y1_0
      refine Foot.step (State.readWord_foot ..) rfl ?_
      exact Foot.refl
    clear_value y1_0
    refine Foot.step (State.qspiOut_foot ..) rfl ?_
    exact h_y1_0
  · exact Foot.refl

theorem execQspiIdent_foot (s : State) : FootO 16384 s (execQspiIdent s) := by
  unfold execQspiIdent
  refine FootO.next ?_
  refine State.qspiAny_foot rfl ?_ ?_
  · intro a0_0
    refine Foot.step (State.qspiOut_foot ..) rfl ?_
    exact Foot.refl
  · exact Foot.refl

theorem State.qspiWrite_foot (s : State) (addr : Nat) (bs : List Byte) : Foot 134217727 s (State.qspiWrite s addr bs) := by
  unfold State.qspiWrite
  refine Foot.ite ?_ ?_
  · refine Foot.step (State.qspiDrop_foot ..) rfl ?_
    refine Foot.step (State.put_foot ..) rfl ?_
    exact Foot.refl
  · refine Foot.step (State.postBytes_foot ..) rfl ?_
    refine Foot.step (State.bump_foot ..) rfl ?_
    exact Foot.refl

theorem execQspiWrite_foot (addr : BitVec 48) (n : Fin 64) (data : List Byte) (s : State) : FootO 134217727 s (execQspiWrite addr n data s) := by
  unfold execQspiWrite
  refine FootO.next ?_
  refine State.qspi_foot rfl ?_ ?_
  · intro a0_0
    refine Foot.ite ?_ ?_
    · refine Foot.step (State.qspiWrite_foot ..) rfl ?_
      exact Foot.refl
    · refine Foot.step (State.qspiDrop_foot ..) rfl ?_
      exact Foot.refl
  · exact Foot.refl

theorem State.tagTake_foot (s : State) (t n due : Nat) (data : Tab (Option Byte)) : Foot 16385 s (State.tagTake s t n due data) := by
  unfold State.tagTake
  refine Foot.step (State.setHTag_foot ..) rfl ?_
  refine Foot.step (State.setBit_foot ..) rfl ?_
  exact Foot.refl

theorem State.readReq_foot (s : State) (t addr n : Nat) : Foot 134217727 s (State.readReq s t addr n) := by
  unfold State.readReq
  refine Foot.ite ?_ ?_
  · refine Foot.step (State.qspiDrop_foot ..) rfl ?_
    exact Foot.refl
  · extract_lets y0_0 y0_1 y0_2
    clear_value y0_0
    clear_value y0_1
    have h_y0_2 : Foot 134217727 s y0_2 := by
      unfold y0_2
      refine Foot.step (State.tagTake_foot ..) rfl ?_
      refine Foot.step (State.bump_foot ..) rfl ?_
      exact Foot.refl
    clear_value y0_2
    refine Foot.foldl1 ?_ _ ?_
    · intro a1_0 a1_1
      refine Foot.mk1 ?_
      refine Foot.step (State.issueReq_foot ..) rfl ?_
      exact Foot.refl
    · refine Foot.mk1 ?_
      exact h_y0_2

theorem execReadReq_foot (tag : Fin 8) (addr : BitVec 48) (n : Fin 64) (s : State) : FootO 134217727 s (execReadReq tag addr n s) := by
  unfold execReadReq
  refine FootO.next ?_
  refine State.qspi_foot rfl ?_ ?_
  · intro a0_0
    refine Foot.step (State.readReq_foot ..) rfl ?_
    exact Foot.refl
  · exact Foot.refl

theorem State.readGet_foot (s : State) (t : Nat) : Foot 16385 s (State.readGet s t) := by
  unfold State.readGet
  split
  · refine Foot.step (State.qspiOut_foot ..) rfl ?_
    exact Foot.refl
  · refine Foot.ite ?_ ?_
    · extract_lets y1_0
      clear_value y1_0
      refine Foot.step (State.qspiOut_foot ..) rfl ?_
      refine Foot.step (State.setHTag_foot ..) rfl ?_
      refine Foot.step (State.clrBit_foot ..) rfl ?_
      refine Foot.step (State.clrBit_foot ..) rfl ?_
      exact Foot.refl
    · refine Foot.step (State.qspiOut_foot ..) rfl ?_
      exact Foot.refl

theorem execReadGet_foot (tag : Fin 8) (s : State) : FootO 16385 s (execReadGet tag s) := by
  unfold execReadGet
  refine FootO.next ?_
  refine State.qspi_foot rfl ?_ ?_
  · intro a0_0
    refine Foot.step (State.readGet_foot ..) rfl ?_
    exact Foot.refl
  · exact Foot.refl

theorem State.hostAmo_foot (s : State) (t op size addr : Nat) (data : List DWord) : Foot 134217727 s (State.hostAmo s t op size addr data) := by
  unfold State.hostAmo
  refine Foot.ite ?_ ?_
  · refine Foot.step (State.qspiDrop_foot ..) rfl ?_
    exact Foot.refl
  · extract_lets y0_0
    clear_value y0_0
    refine Foot.step (State.issueReq_foot ..) rfl ?_
    refine Foot.step (State.tagTake_foot ..) rfl ?_
    refine Foot.step (State.bump_foot ..) rfl ?_
    exact Foot.refl

theorem execAmo_foot (tag : Fin 8) (op : Fin 3) (size : Fin 2) (addr : BitVec 48) (data : List DWord) (s : State) : FootO 134217727 s (execAmo tag op size addr data s) := by
  unfold execAmo
  refine FootO.next ?_
  refine State.qspi_foot rfl ?_ ?_
  · intro a0_0
    refine Foot.ite ?_ ?_
    · refine Foot.step (State.hostAmo_foot ..) rfl ?_
      exact Foot.refl
    · refine Foot.step (State.qspiDrop_foot ..) rfl ?_
      exact Foot.refl
  · exact Foot.refl

theorem execQspiFence_foot (s : State) : FootO 14737563 s (execQspiFence s) := by
  unfold execQspiFence
  refine FootO.next ?_
  refine State.qspi_foot rfl ?_ ?_
  · intro a0_0
    refine Foot.step (State.fenceStart_foot ..) rfl ?_
    exact Foot.refl
  · exact Foot.refl

theorem execFenceGet_foot (s : State) : FootO 16385 s (execFenceGet s) := by
  unfold execFenceGet
  refine FootO.next ?_
  refine State.qspi_foot rfl ?_ ?_
  · intro a0_0
    refine Foot.step (State.qspiOut_foot ..) rfl ?_
    refine Foot.step (State.put_foot ..) rfl ?_
    exact Foot.refl
  · exact Foot.refl

theorem execQspiCutShort_foot (s : State) : FootO 16387 s (execQspiCutShort s) := by
  unfold execQspiCutShort
  refine FootO.next ?_
  refine State.qspiAny_foot rfl ?_ ?_
  · intro a0_0
    refine Foot.step (State.qspiDrop_foot ..) rfl ?_
    exact Foot.refl
  · exact Foot.refl

theorem State.laneDrop_foot (s : State) : Foot 3 s (State.laneDrop s) := by
  unfold State.laneDrop
  refine Foot.step (State.put_foot ..) rfl ?_
  refine Foot.step (State.bump_foot ..) rfl ?_
  exact Foot.refl

theorem State.laneRec_foot (s : State) (x : Nat × Nat × List DWord) : Foot 134217727 s (State.laneRec s x) := by
  unfold State.laneRec
  extract_lets y0_0 y0_1 y0_2 y0_3 y0_4
  clear_value y0_0
  clear_value y0_1
  clear_value y0_2
  clear_value y0_3
  clear_value y0_4
  refine Foot.ite ?_ ?_
  · refine Foot.step (State.fenceStart_foot ..) rfl ?_
    refine Foot.set_hbr rfl ?_
    exact Foot.refl
  · refine Foot.step (State.issueReq_foot ..) rfl ?_
    refine Foot.step (State.bump_foot ..) rfl ?_
    exact Foot.refl

theorem State.hostFrame_foot (s : State) (dst src : Nat) (payload : List DWord) : Foot 134217727 s (State.hostFrame s dst src payload) := by
  unfold State.hostFrame
  extract_lets y0_0 y0_1 y0_2
  clear_value y0_0
  clear_value y0_1
  clear_value y0_2
  refine Foot.ite ?_ ?_
  · refine Foot.step (State.laneDrop_foot ..) rfl ?_
    exact Foot.refl
  · refine Foot.ite ?_ ?_
    · refine Foot.step (State.laneDrop_foot ..) rfl ?_
      exact Foot.refl
    · refine Foot.ite ?_ ?_
      · refine Foot.step (State.laneDrop_foot ..) rfl ?_
        exact Foot.refl
      · refine Foot.each ?_ ?_
        · intro a1_0 a1_1
          refine Foot.step (State.laneRec_foot ..) rfl ?_
          exact Foot.refl
        · refine Foot.step (State.put_foot ..) rfl ?_
          refine Foot.step (State.put_foot ..) rfl ?_
          refine Foot.step (State.put_foot ..) rfl ?_
          refine Foot.step (State.bump_foot ..) rfl ?_
          exact Foot.refl

theorem execHostFrameRx_foot (dst src : BitVec 48) (etherType len : BitVec 16) (vlan good : Bool) (payload : List DWord) (s : State) : FootO 134217727 s (execHostFrameRx dst src etherType len vlan good payload s) := by
  unfold execHostFrameRx
  extract_lets y0_0
  refine FootO.next ?_
  refine Foot.ite ?_ ?_
  · exact Foot.refl
  · refine Foot.ite ?_ ?_
    · exact Foot.refl
    · refine Foot.ite ?_ ?_
      · refine Foot.step (State.bump_foot ..) rfl ?_
        exact Foot.refl
      · refine Foot.ite ?_ ?_
        · exact Foot.refl
        · refine Foot.step (State.hostFrame_foot ..) rfl ?_
          exact Foot.refl

theorem State.laneSend_foot (s : State) (type count : Nat) (body : List DWord) : Foot 16387 s (State.laneSend s type count body) := by
  unfold State.laneSend
  extract_lets y0_0 y0_1 y0_2 y0_3
  clear_value y0_0
  clear_value y0_1
  clear_value y0_2
  have h_y0_3 : Foot 16387 s y0_3 := by
    unfold y0_3
    refine Foot.set_hbr rfl ?_
    exact Foot.refl
  clear_value y0_3
  refine Foot.step (State.bump_foot ..) rfl ?_
  exact h_y0_3

theorem execHostResponseTx_foot (s : State) : FootO 16387 s (execHostResponseTx s) := by
  unfold execHostResponseTx
  refine FootO.next ?_
  refine Foot.ite ?_ ?_
  · extract_lets y0_0 y0_1 y0_2
    clear_value y0_0
    have h_y0_1 : Foot 16387 s y0_1 := by
      unfold y0_1
      refine Foot.step (State.laneSend_foot ..) rfl ?_
      exact Foot.refl
    clear_value y0_1
    clear_value y0_2
    refine Foot.set_hbr rfl ?_
    exact h_y0_1
  · exact Foot.refl

theorem State.hostIntSample_foot (s : State) : Foot 16387 s (State.hostIntSample s) := by
  unfold State.hostIntSample
  extract_lets y0_0 y0_1 y0_2
  clear_value y0_0
  clear_value y0_1
  have h_y0_2 : Foot 16387 s y0_2 := by
    unfold y0_2
    refine Foot.set_hbr rfl ?_
    exact Foot.refl
  clear_value y0_2
  refine Foot.ite ?_ ?_
  · refine Foot.step (State.laneSend_foot ..) rfl ?_
    exact h_y0_2
  · exact h_y0_2

end Sys2Proof.Machine
end

