-- ==== Sys2Proof/Laws/FootRing.lean ====
section
/-! SUPPORT. The footprints of the operations and meanings of Sys2Proof.Machine.Ring. -/
namespace Sys2Proof.Machine

theorem State.headerDrop_foot (s : State) (lane reason : Nat) (f : Frame) : Foot 8388611 s (State.headerDrop s lane reason f) := by
  unfold State.headerDrop
  refine Foot.step (State.fault_foot ..) rfl ?_
  refine Foot.step (State.put_foot ..) rfl ?_
  refine Foot.step (State.put_foot ..) rfl ?_
  refine Foot.step (State.put_foot ..) rfl ?_
  refine Foot.step (State.put_foot ..) rfl ?_
  refine Foot.step (State.bump_foot ..) rfl ?_
  exact Foot.refl

theorem State.mediaLate_foot (s : State) (lane due : Nat) (f : Frame) : Foot 8389635 s (State.mediaLate s lane due f) := by
  unfold State.mediaLate
  refine Foot.step (State.miss_foot ..) rfl ?_
  refine Foot.step (State.fault_foot ..) rfl ?_
  refine Foot.step (State.put_foot ..) rfl ?_
  refine Foot.step (State.put_foot ..) rfl ?_
  refine Foot.step (State.put_foot ..) rfl ?_
  refine Foot.step (State.put_foot ..) rfl ?_
  refine Foot.step (State.put_foot ..) rfl ?_
  refine Foot.step (State.put_foot ..) rfl ?_
  refine Foot.step (State.bump_foot ..) rfl ?_
  exact Foot.refl

theorem State.decided_foot (s : State) (lane : Nat) (f : Frame) : Foot 8389763 s (State.decided s lane f).1 := by
  unfold State.decided
  extract_lets y0_0 y0_1 y0_2
  clear_value y0_0
  clear_value y0_1
  have h_y0_2 : Foot 8389763 s y0_2.1 := by
    unfold y0_2
    refine Foot.ite1 ?_ ?_
    · refine Foot.step (State.discard_foot ..) rfl ?_
      exact Foot.refl
    · refine Foot.mk1 ?_
      exact Foot.refl
  clear_value y0_2
  refine Foot.ite1 ?_ ?_
  · refine Foot.mk1 ?_
    exact Foot.refl
  · refine Foot.ite1 ?_ ?_
    · refine Foot.mk1 ?_
      exact h_y0_2
    · split
      · refine Foot.ite1 ?_ ?_
        · refine Foot.mk1 ?_
          refine Foot.step (State.mediaLate_foot ..) rfl ?_
          exact h_y0_2
        · refine Foot.mk1 ?_
          exact h_y0_2
      · refine Foot.mk1 ?_
        exact h_y0_2

theorem State.frameGood_foot (s : State) (lane : Nat) (f : Frame) (age : Nat) : Foot 10487455 s (State.frameGood s lane f age) := by
  unfold State.frameGood
  extract_lets y0_0 y0_1 y0_2
  clear_value y0_0
  have h_y0_1 : ∀ b0 b1, Foot 10487455 b0 (y0_1 b0 b1) := by
    intro b0 b1
    unfold y0_1
    refine Foot.each ?_ ?_
    · intro a1_0 a1_1
      refine Foot.step (State.orig1_foot ..) rfl ?_
      exact Foot.refl
    · refine Foot.step (State.place_foot ..) rfl ?_
      exact Foot.refl
  have h_y0_2 : Foot 10487455 s y0_2.1 := by
    unfold y0_2
    refine Foot.step (State.decided_foot ..) rfl ?_
    exact Foot.refl
  clear_value y0_2
  refine Foot.ite ?_ ?_
  · refine Foot.step (h_y0_1 ..) rfl ?_
    exact Foot.refl
  · refine Foot.ite ?_ ?_
    · refine Foot.step (State.markRx_foot ..) rfl ?_
      exact Foot.refl
    · refine Foot.ite ?_ ?_
      · refine Foot.step (State.bump_foot ..) rfl ?_
        exact Foot.refl
      · refine Foot.ite ?_ ?_
        · refine Foot.step (State.ptpRx_foot ..) rfl ?_
          exact Foot.refl
        · refine Foot.ite ?_ ?_
          · refine Foot.ite ?_ ?_
            · refine Foot.step (h_y0_1 ..) rfl ?_
              exact Foot.refl
            · refine Foot.step (State.bump_foot ..) rfl ?_
              exact Foot.refl
          · refine Foot.ite ?_ ?_
            · refine Foot.step (State.bump_foot ..) rfl ?_
              exact Foot.refl
            · refine Foot.step (h_y0_1 ..) rfl ?_
              exact h_y0_2

theorem State.rxCount_foot (s : State) (lane bytes : Nat) : Foot 3 s (State.rxCount s lane bytes) := by
  unfold State.rxCount
  refine Foot.step (State.count_foot ..) rfl ?_
  refine Foot.step (State.bump_foot ..) rfl ?_
  exact Foot.refl

theorem State.crcDrop_foot (s : State) (lane bytes : Nat) : Foot 8388611 s (State.crcDrop s lane bytes) := by
  unfold State.crcDrop
  refine Foot.step (State.fault_foot ..) rfl ?_
  refine Foot.step (State.put_foot ..) rfl ?_
  refine Foot.step (State.bump_foot ..) rfl ?_
  refine Foot.step (State.rxCount_foot ..) rfl ?_
  exact Foot.refl

theorem State.frameRx_foot (s : State) (lane sofClass : Nat) (f : Frame) (trailer age : Nat) : Foot 10487455 s (State.frameRx s lane sofClass f trailer age) := by
  unfold State.frameRx
  refine Foot.ite ?_ ?_
  · exact Foot.refl
  · refine Foot.ite ?_ ?_
    · refine Foot.step (State.bump_foot ..) rfl ?_
      exact Foot.refl
    · refine Foot.ite ?_ ?_
      · refine Foot.step (State.crcDrop_foot ..) rfl ?_
        refine Foot.step (State.writeCells_foot ..) rfl ?_
        exact Foot.refl
      · extract_lets y0_0 y0_1
        have h_y0_0 : Foot 10487455 s y0_0 := by
          unfold y0_0
          refine Foot.step (State.rxCount_foot ..) rfl ?_
          exact Foot.refl
        clear_value y0_0
        clear_value y0_1
        refine Foot.ite ?_ ?_
        · refine Foot.step (State.headerDrop_foot ..) rfl ?_
          refine Foot.step (State.writeCells_foot ..) rfl ?_
          exact h_y0_0
        · refine Foot.step (State.frameGood_foot ..) rfl ?_
          exact h_y0_0

theorem execFrameRx_foot (lane : Fin 4) (sofClass : Fin 8) (frame : Frame) (trailer : DWord) (age : BitVec 32) (s : State) : FootO 10487455 s (execFrameRx lane sofClass frame trailer age s) := by
  unfold execFrameRx
  refine FootO.next ?_
  refine Foot.step (State.frameRx_foot ..) rfl ?_
  exact Foot.refl

theorem execSchedWindow_foot (lane : Fin 2) (slot : Fin 512) (s : State) : FootO 2097169 s (execSchedWindow lane slot s) := by
  unfold execSchedWindow
  refine FootO.next ?_
  split
  · extract_lets y1_0 y1_1 y1_2
    clear_value y1_0
    have h_y1_1 : Foot 2097169 s y1_1 := by
      unfold y1_1
      refine Foot.step (State.wr64_foot ..) rfl ?_
      refine Foot.step (State.elapse_foot ..) rfl ?_
      exact Foot.refl
    clear_value y1_1
    clear_value y1_2
    refine Foot.ite ?_ ?_
    · exact Foot.refl
    · refine Foot.set_fwd rfl ?_
      exact h_y1_1
  · exact Foot.refl

theorem State.txCount_foot (s : State) (l qi : Nat) (f : Frame) : Foot 19 s (State.txCount s l qi f) := by
  unfold State.txCount
  extract_lets y0_0 y0_1
  have h_y0_0 : Foot 19 s y0_0 := by
    unfold y0_0
    refine Foot.step (State.count_foot ..) rfl ?_
    refine Foot.step (State.bump_foot ..) rfl ?_
    exact Foot.refl
  clear_value y0_0
  clear_value y0_1
  refine Foot.ite ?_ ?_
  · refine Foot.set_fwd rfl ?_
    exact h_y0_0
  · exact h_y0_0

theorem State.txSent_foot (s : State) (l : Nat) (f : Frame) : Foot 48 s (State.txSent s l f) := by
  unfold State.txSent
  refine Foot.step (State.sendBlocks_foot ..) rfl ?_
  refine Foot.set_fwd rfl ?_
  exact Foot.refl

theorem State.txAbortEof_foot (s : State) (l : Nat) (x : QFrame) (f : Frame) : Foot 32 s (State.txAbortEof s l x f) := by
  unfold State.txAbortEof
  extract_lets y0_0 y0_1
  clear_value y0_0
  clear_value y0_1
  refine Foot.step (State.sendBlocks_foot ..) rfl ?_
  exact Foot.refl

theorem State.eccDrop_foot (s : State) (p : Nat) : Foot 3 s (State.eccDrop s p) := by
  unfold State.eccDrop
  refine Foot.step (State.put_foot ..) rfl ?_
  refine Foot.step (State.bump_foot ..) rfl ?_
  exact Foot.refl

theorem State.frameTx_foot (s : State) (l frac : Nat) (sof : Bool) (u : Option Upset) : Foot 10486971 s (State.frameTx s l frac sof u) := by
  unfold State.frameTx
  refine Foot.ite ?_ ?_
  · exact Foot.refl
  · split
    · exact Foot.refl
    · extract_lets y1_0 y1_1 y1_2 y1_3 y1_4
      have h_y1_0 : Foot 10486971 s y1_0 := by
        unfold y1_0
        refine Foot.step (State.setQueue_foot ..) rfl ?_
        exact Foot.refl
      clear_value y1_0
      clear_value y1_1
      have h_y1_2 : Foot 10486971 s y1_2.1 := by
        unfold y1_2
        refine Foot.step (State.readCells_foot ..) rfl ?_
        refine Foot.step (State.upset_foot ..) rfl ?_
        exact h_y1_0
      clear_value y1_2
      have h_y1_3 : Foot 10486971 s y1_3 := by
        unfold y1_3
        refine Foot.step (State.eccDrop_foot ..) rfl ?_
        exact h_y1_2
      clear_value y1_3
      have h_y1_4 : Foot 10486971 s y1_4.1 := by
        unfold y1_4
        refine Foot.step (State.ptpDepart_foot ..) rfl ?_
        exact h_y1_2
      clear_value y1_4
      refine Foot.step (State.locPump_foot ..) rfl ?_
      refine Foot.ite ?_ ?_
      · refine Foot.step (State.bump_foot ..) rfl ?_
        exact h_y1_0
      · refine Foot.ite ?_ ?_
        · refine Foot.ite ?_ ?_
          · refine Foot.step (State.txAbortEof_foot ..) rfl ?_
            refine Foot.step (State.txCount_foot ..) rfl ?_
            exact h_y1_3
          · exact h_y1_3
        · split
          · exact h_y1_4
          · refine Foot.step (State.txSent_foot ..) rfl ?_
            refine Foot.step (State.txCount_foot ..) rfl ?_
            exact h_y1_4

theorem execFrameTx_foot (lane : Fin 4) (frac : BitVec 12) (sof : Bool) (upset : Option Upset) (s : State) : FootO 10486971 s (execFrameTx lane frac sof upset s) := by
  unfold execFrameTx
  refine FootO.next ?_
  refine Foot.step (State.frameTx_foot ..) rfl ?_
  exact Foot.refl

theorem State.staleDrop_foot (s : State) (f : Frame) : Foot 10486939 s (State.staleDrop s f) := by
  unfold State.staleDrop
  refine Foot.step (State.locPump_foot ..) rfl ?_
  refine Foot.step (State.miss_foot ..) rfl ?_
  refine Foot.step (State.fault_foot ..) rfl ?_
  refine Foot.step (State.put_foot ..) rfl ?_
  refine Foot.step (State.bump_foot ..) rfl ?_
  exact Foot.refl

theorem execSchedStale_foot (port : Fin 5) (s : State) : FootO 10486939 s (execSchedStale port s) := by
  unfold execSchedStale
  refine FootO.ite ?_ ?_
  · refine FootO.next ?_
    exact Foot.refl
  · extract_lets y0_0 y0_1
    clear_value y0_0
    clear_value y0_1
    refine FootO.next ?_
    split
    · refine Foot.step (State.staleDrop_foot ..) rfl ?_
      refine Foot.step (State.setQueue_foot ..) rfl ?_
      exact Foot.refl
    · split
      · refine Foot.step (State.staleDrop_foot ..) rfl ?_
        refine Foot.set_fwd rfl ?_
        exact Foot.refl
      · exact Foot.refl

theorem State.redRx_foot (s : State) (f : Frame) : Foot 10485915 s (State.redRx s f) := by
  unfold State.redRx
  extract_lets y0_0 y0_1
  clear_value y0_0
  clear_value y0_1
  refine Foot.ite ?_ ?_
  · exact Foot.refl
  · split
    · refine Foot.step (State.breakRx_foot ..) rfl ?_
      exact Foot.refl
    · refine Foot.step (State.restoreRx_foot ..) rfl ?_
      exact Foot.refl
    · exact Foot.refl

theorem State.locTake_foot (s : State) (x : QFrame) : Foot 134217727 s (State.locTake s x) := by
  unfold State.locTake
  extract_lets y0_0
  clear_value y0_0
  split
  · refine Foot.step (State.sqDeliver_foot ..) rfl ?_
    exact Foot.refl
  · refine Foot.ite ?_ ?_
    · refine Foot.step (State.respRx_foot ..) rfl ?_
      exact Foot.refl
    · refine Foot.step (State.serveFrame_foot ..) rfl ?_
      exact Foot.refl
  · refine Foot.step (State.cfgRx_foot ..) rfl ?_
    exact Foot.refl
  · refine Foot.step (State.cenRx_foot ..) rfl ?_
    exact Foot.refl
  · refine Foot.step (State.sqDeliver_foot ..) rfl ?_
    exact Foot.refl
  · refine Foot.step (State.redRx_foot ..) rfl ?_
    exact Foot.refl
  · exact Foot.refl

theorem execLocDeliver_foot (qi : Fin 9) (upset : Option Upset) (s : State) : FootO 134217727 s (execLocDeliver qi upset s) := by
  unfold execLocDeliver
  refine FootO.next ?_
  refine Foot.ite ?_ ?_
  · exact Foot.refl
  · split
    · refine Foot.ite ?_ ?_
      · exact Foot.refl
      · extract_lets y1_0
        have h_y1_0 : Foot 134217727 s y1_0.1 := by
          unfold y1_0
          refine Foot.step (State.readCells_foot ..) rfl ?_
          refine Foot.step (State.upset_foot ..) rfl ?_
          refine Foot.step (State.setQueue_foot ..) rfl ?_
          exact Foot.refl
        clear_value y1_0
        refine Foot.ite ?_ ?_
        · refine Foot.step (State.locPump_foot ..) rfl ?_
          refine Foot.step (State.eccDrop_foot ..) rfl ?_
          exact h_y1_0
        · refine Foot.step (State.locPump_foot ..) rfl ?_
          refine Foot.step (State.locTake_foot ..) rfl ?_
          refine Foot.step (State.count_foot ..) rfl ?_
          refine Foot.step (State.bump_foot ..) rfl ?_
          exact h_y1_0
    · exact Foot.refl

end Sys2Proof.Machine
end

