-- ==== Sys2Proof/Laws/FootBlockRx.lean ====
section
/-! SUPPORT. The footprints of the operations and meanings of Sys2Proof.Machine.BlockRx. -/
namespace Sys2Proof.Machine

theorem State.rxDrop_foot (s : State) (l : Nat) : Foot 35 s (State.rxDrop s l) := by
  unfold State.rxDrop
  refine Foot.ite ?_ ?_
  · refine Foot.step (State.bump_foot ..) rfl ?_
    refine Foot.step (State.modLn_foot ..) rfl ?_
    exact Foot.refl
  · exact Foot.refl

theorem State.dataRx_foot (s : State) (l w : Nat) : Foot 35 s (State.dataRx s l w) := by
  unfold State.dataRx
  split
  · refine Foot.step (State.bump_foot ..) rfl ?_
    exact Foot.refl
  · refine Foot.ite ?_ ?_
    · refine Foot.step (State.rxDrop_foot ..) rfl ?_
      exact Foot.refl
    · refine Foot.step (State.modLn_foot ..) rfl ?_
      exact Foot.refl

theorem State.eofRx_foot (s : State) (l : Nat) (abort : Bool) : Foot 10487487 s (State.eofRx s l abort) := by
  unfold State.eofRx
  split
  · exact Foot.refl
  · refine Foot.ite ?_ ?_
    · refine Foot.step (State.rxDrop_foot ..) rfl ?_
      exact Foot.refl
    · extract_lets y1_0
      have h_y1_0 : Foot 10487487 s y1_0 := by
        unfold y1_0
        refine Foot.step (State.modLn_foot ..) rfl ?_
        exact Foot.refl
      clear_value y1_0
      split
      · refine Foot.step (State.frameRx_foot ..) rfl ?_
        exact h_y1_0
      · refine Foot.ite ?_ ?_
        · refine Foot.step (State.crcDrop_foot ..) rfl ?_
          exact h_y1_0
        · exact h_y1_0

theorem State.msgRx_foot (s : State) (l : Nat) (m : List Byte) : Foot 10751163 s (State.msgRx s l m) := by
  unfold State.msgRx
  extract_lets y0_0 y0_1
  clear_value y0_0
  clear_value y0_1
  refine Foot.ite ?_ ?_
  · exact Foot.refl
  · split
    · refine Foot.step (State.helloRx_foot ..) rfl ?_
      exact Foot.refl
    · refine Foot.step (State.rateReqRx_foot ..) rfl ?_
      exact Foot.refl
    · refine Foot.step (State.rateAckRx_foot ..) rfl ?_
      exact Foot.refl
    · refine Foot.step (State.rateNakRx_foot ..) rfl ?_
      exact Foot.refl
    · exact Foot.refl

theorem State.trainRx_foot (s : State) (l i six : Nat) : Foot 10751163 s (State.trainRx s l i six) := by
  unfold State.trainRx
  extract_lets y0_0 y0_1
  clear_value y0_0
  clear_value y0_1
  refine Foot.ite ?_ ?_
  · refine Foot.step (State.msgRx_foot ..) rfl ?_
    refine Foot.step (State.modLn_foot ..) rfl ?_
    exact Foot.refl
  · refine Foot.step (State.modLn_foot ..) rfl ?_
    exact Foot.refl

theorem State.ctrlRx_foot (s : State) (l p : Nat) : Foot 10751679 s (State.ctrlRx s l p) := by
  unfold State.ctrlRx
  extract_lets y0_0 y0_1 y0_2
  clear_value y0_0
  have h_y0_1 : Foot 10751679 s y0_1 := by
    unfold y0_1
    refine Foot.step (State.rxDrop_foot ..) rfl ?_
    exact Foot.refl
  clear_value y0_1
  clear_value y0_2
  refine Foot.ite ?_ ?_
  · refine Foot.step (State.eofRx_foot ..) rfl ?_
    exact Foot.refl
  · refine Foot.ite ?_ ?_
    · exact h_y0_1
    · refine Foot.ite ?_ ?_
      · refine Foot.step (State.modLn_foot ..) rfl ?_
        exact h_y0_1
      · refine Foot.ite ?_ ?_
        · refine Foot.step (State.trainRx_foot ..) rfl ?_
          exact h_y0_1
        · refine Foot.ite ?_ ?_
          · refine Foot.step (State.rfRx_foot ..) rfl ?_
            exact h_y0_1
          · refine Foot.ite ?_ ?_
            · refine Foot.step (State.chkBlock_foot ..) rfl ?_
              exact h_y0_1
            · refine Foot.step (State.bump_foot ..) rfl ?_
              exact h_y0_1

theorem State.rfCount_foot (s : State) (l : Nat) (isRf : Bool) : Foot 10485947 s (State.rfCount s l isRf) := by
  unfold State.rfCount
  refine Foot.ite ?_ ?_
  · exact Foot.refl
  · refine Foot.ite ?_ ?_
    · refine Foot.step (State.rfEnd_foot ..) rfl ?_
      refine Foot.step (State.modLn_foot ..) rfl ?_
      exact Foot.refl
    · refine Foot.step (State.modLn_foot ..) rfl ?_
      exact Foot.refl

theorem State.blockRx_foot (s : State) (l : Nat) (b : Block) : Foot 10751679 s (State.blockRx s l b) := by
  unfold State.blockRx
  refine Foot.ite ?_ ?_
  · exact Foot.refl
  · extract_lets y0_0 y0_1 y0_2
    clear_value y0_0
    have h_y0_1 : Foot 10751679 s y0_1 := by
      unfold y0_1
      refine Foot.step (State.modLn_foot ..) rfl ?_
      exact Foot.refl
    clear_value y0_1
    have h_y0_2 : Foot 10751679 s y0_2 := by
      unfold y0_2
      refine Foot.step (State.rfCount_foot ..) rfl ?_
      exact h_y0_1
    clear_value y0_2
    refine Foot.ite ?_ ?_
    · refine Foot.step (State.dataRx_foot ..) rfl ?_
      exact h_y0_2
    · refine Foot.ite ?_ ?_
      · refine Foot.step (State.ctrlRx_foot ..) rfl ?_
        exact h_y0_2
      · refine Foot.step (State.badHeader_foot ..) rfl ?_
        exact h_y0_2

theorem execFrameDiscard_foot (lane : Fin 4) (blocks : List Block) (s : State) : FootO 10751679 s (execFrameDiscard lane blocks s) := by
  unfold execFrameDiscard
  refine FootO.next ?_
  refine Foot.each ?_ ?_
  · intro a0_0 a0_1
    refine Foot.step (State.blockRx_foot ..) rfl ?_
    exact Foot.refl
  · exact Foot.refl

end Sys2Proof.Machine
end

