-- ==== Sys2Proof/Laws/FootTick.lean ====
section
/-! SUPPORT. The footprints of the operations and meanings of Sys2Proof.Machine.Tick. -/
namespace Sys2Proof.Machine

theorem State.makeStep_foot (s : State) : Foot 8391683 s (State.makeStep s) := by
  unfold State.makeStep
  refine Foot.step (State.lsvStep_foot ..) rfl ?_
  refine Foot.step (State.timeStep_foot ..) rfl ?_
  exact Foot.refl

theorem State.bulkCarry_foot (s : State) (l : Nat) : Foot 16 s (State.bulkCarry s l) := by
  unfold State.bulkCarry
  refine Foot.set_fwd rfl ?_
  exact Foot.refl

theorem State.cycleLimits_foot (s : State) : Foot 128 s (State.cycleLimits s) := by
  unfold State.cycleLimits
  refine Foot.set_red rfl ?_
  exact Foot.refl

theorem State.cycleOpen_foot (s : State) : Foot 1024 s (State.cycleOpen s) := by
  unfold State.cycleOpen
  refine Foot.set_time (fun i => i.dlQ) rfl ?_
  exact Foot.refl

theorem State.cycleActs_foot (s : State) : Foot 10487519 s (State.cycleActs s) := by
  unfold State.cycleActs
  extract_lets y0_0
  have h_y0_0 : Foot 10487519 s y0_0 := by
    unfold y0_0
    refine Foot.step (State.cycleOpen_foot ..) rfl ?_
    refine Foot.step (State.floorTake_foot ..) rfl ?_
    refine Foot.step (State.wr64_foot ..) rfl ?_
    exact Foot.refl
  clear_value y0_0
  refine Foot.step (State.locPump_foot ..) rfl ?_
  refine Foot.step (State.sqCycle_foot ..) rfl ?_
  refine Foot.step (State.cycleLimits_foot ..) rfl ?_
  refine Foot.each ?_ ?_
  · intro a1_0 a1_1
    refine Foot.step (State.bulkCarry_foot ..) rfl ?_
    exact Foot.refl
  · exact h_y0_0

theorem State.cycleHere_foot (s : State) : Foot 10489567 s (State.cycleHere s) := by
  unfold State.cycleHere
  refine Foot.ite ?_ ?_
  · refine Foot.step (State.makeStep_foot ..) rfl ?_
    exact Foot.refl
  · refine Foot.step (State.cycleActs_foot ..) rfl ?_
    exact Foot.refl

theorem State.toNextCycle_foot (s : State) : Foot 2098177 s (State.toNextCycle s) := by
  unfold State.toNextCycle
  refine Foot.ite ?_ ?_
  · refine Foot.step (State.toLaterBoundary_foot ..) rfl ?_
    exact Foot.refl
  · refine Foot.step (State.toBoundary_foot ..) rfl ?_
    exact Foot.refl

theorem execCycleBoundary_foot (s : State) : FootO 10489567 s (execCycleBoundary s) := by
  unfold execCycleBoundary
  refine FootO.next ?_
  refine State.live__foot rfl ?_ ?_
  · intro a0_0
    refine Foot.step (State.cycleHere_foot ..) rfl ?_
    refine Foot.step (State.toNextCycle_foot ..) rfl ?_
    exact Foot.refl
  · exact Foot.refl

theorem execTimeStep_foot (s : State) : FootO 10488835 s (execTimeStep s) := by
  unfold execTimeStep
  refine FootO.next ?_
  refine Foot.ite ?_ ?_
  · refine Foot.step (State.makeStep_foot ..) rfl ?_
    refine Foot.step (State.toBoundary_foot ..) rfl ?_
    exact Foot.refl
  · exact Foot.refl

theorem State.wakeCores_foot (s : State) : Foot 1 s (State.wakeCores s) := by
  unfold State.wakeCores
  refine Foot.ite ?_ ?_
  · extract_lets y0_0
    have h_y0_0 : ∀ b0 b1 b2, Foot 1 b0 (y0_0 b0 b1 b2) := by
      intro b0 b1 b2
      unfold y0_0
      refine Foot.step (State.put_foot ..) rfl ?_
      exact Foot.refl
    refine Foot.step (h_y0_0 ..) rfl ?_
    refine Foot.step (h_y0_0 ..) rfl ?_
    exact Foot.refl
  · exact Foot.refl

theorem State.eclk_foot (s : State) : Foot 2098433 s (State.eclk s) := by
  unfold State.eclk
  extract_lets y0_0 y0_1
  have h_y0_0 : Foot 2098433 s y0_0 := by
    unfold y0_0
    refine Foot.step (State.wr64_foot ..) rfl ?_
    refine Foot.step (State.elapse_foot ..) rfl ?_
    exact Foot.refl
  clear_value y0_0
  refine Foot.step (State.ggTick_foot ..) rfl ?_
  refine Foot.set_time (fun i => i.dlQ) rfl ?_
  exact h_y0_0

theorem State.watchAll_foot (s : State) : Foot 134217727 s (State.watchAll s) := by
  unfold State.watchAll
  extract_lets y0_0
  have h_y0_0 : Foot 134217727 s y0_0 := by
    unfold y0_0
    refine Foot.step (State.objPumpAll_foot ..) rfl ?_
    refine Foot.step (State.sqPumpAll_foot ..) rfl ?_
    refine Foot.step (State.dmaPoll_foot ..) rfl ?_
    refine Foot.step (State.herePump_foot ..) rfl ?_
    exact Foot.refl
  clear_value y0_0
  refine Foot.step (State.hostIntSample_foot ..) rfl ?_
  refine Foot.step (State.wakeCores_foot ..) rfl ?_
  refine Foot.step (State.intcSample_foot ..) rfl ?_
  refine Foot.step (State.holdoffSample_foot ..) rfl ?_
  refine Foot.step (State.forceCheck_foot ..) rfl ?_
  exact h_y0_0

theorem State.tick_foot (s : State) : Foot 134217727 s (State.tick s) := by
  unfold State.tick
  refine Foot.ite ?_ ?_
  · refine Foot.step (State.elapse_foot ..) rfl ?_
    exact Foot.refl
  · extract_lets y0_0 y0_1 y0_2 y0_3
    have h_y0_0 : Foot 134217727 s y0_0 := by
      unfold y0_0
      refine Foot.ite ?_ ?_
      · refine Foot.step (State.cycleHere_foot ..) rfl ?_
        exact Foot.refl
      · exact Foot.refl
    clear_value y0_0
    have h_y0_1 : Foot 134217727 s y0_1 := by
      unfold y0_1
      refine Foot.step (State.eclk_foot ..) rfl ?_
      refine Foot.step (State.applyCycleEnd_foot ..) rfl ?_
      exact h_y0_0
    clear_value y0_1
    have h_y0_2 : Foot 134217727 s y0_2 := by
      unfold y0_2
      refine Foot.ite ?_ ?_
      · refine Foot.step (State.cycleHere_foot ..) rfl ?_
        exact h_y0_1
      · exact h_y0_1
    clear_value y0_2
    have h_y0_3 : Foot 134217727 s y0_3 := by
      unfold y0_3
      refine Foot.ite ?_ ?_
      · refine Foot.step (State.islandNow_foot ..) rfl ?_
        exact h_y0_2
      · exact h_y0_2
    clear_value y0_3
    refine Foot.step (State.watchAll_foot ..) rfl ?_
    exact h_y0_3

end Sys2Proof.Machine
end

