-- ==== Sys2Proof/Laws/FootDispatch.lean ====
section
/-! SUPPORT. The footprint of every command: what `exec` may change of the state. -/
namespace Sys2Proof.Machine

/-- The parts of the state a command may change, as the mask of `Foot`. -/
def footOf : Instr → Nat
  | .registerWrite _ _ _ _ _ _ => 134217727
  | .mainStoreAccess _ _ _ _ => 134217727
  | .atomicOperation _ _ _ _ _ => 12582927
  | .eccWriteback _ => 8
  | .agePromotion _ _ => 8
  | .arbHoldCutoff _ => 12582927
  | .scrubRead _ => 8388619
  | .scrubLate => 8388619
  | .storeZeroingDone => 12582927
  | .partitionZeroingDone => 12582927
  | .dmaStart _ => 8421379
  | .dmaAbort _ => 8421379
  | .dmaBurst _ => 134217727
  | .dmaDone _ => 49155
  | .counterSnap _ _ _ _ => 8388611
  | .keepAliveTx => 0
  | .d2dLoss => 411303939
  | .d2dRestored => 277153795
  | .refclkAbsent => 10751163
  | .refclkAbsentReport => 8388611
  | .rc100Stop => 2097152
  | .modeRequest _ _ => 10751163
  | .modeRequestTimed => 10751419
  | .modeTransition => 134152191
  | .stackModeRx _ => 10751419
  | .watchWake _ => 2097153
  | .dormantEntry => 134152191
  | .laneWakeArm _ _ => 134152191
  | .dormantWake _ _ => 134152191
  | .wakePatternEnd _ => 2097185
  | .wakeTimerExpiry => 134152191
  | .retrainWindowEnd => 2097280
  | .islandEntry _ => 10751419
  | .islandExit => 10751419
  | .proofAbort => 10751163
  | .ftestKey _ => 10485763
  | .powerOnReset _ => 536870911
  | .resetN => 134152191
  | .strapSample _ _ _ _ _ => 2097153
  | .railsOk => 1
  | .wdogStart _ _ => 10485763
  | .wdogKick _ _ => 134152191
  | .wdogExpiry _ => 134152191
  | .softwareReset _ _ => 134152191
  | .remoteAuth _ _ _ => 10485763
  | .remoteCmd _ _ _ => 134152191
  | .unitIdleAck _ => 133103611
  | .idleTimeout _ => 133103611
  | .resetAssertEnd _ => 2097152
  | .unitRelease _ => 115927227
  | .clockNotReady _ => 10485763
  | .logClear => 10485763
  | .loaderRun => 11492799
  | .flashTimeout _ _ => 11492799
  | .cfgOpen => 8388611
  | .cfgCheck => 8912899
  | .cfgApplyNow => 8913923
  | .cfgApplyAt => 8913923
  | .cfgAbort => 8912899
  | .cfgDiscard => 8388611
  | .shadowWrite _ _ _ => 134217727
  | .consistencyCheckDone => 11011227
  | .apply => 11492795
  | .applySyncDone => 1
  | .armTimeout => 8912899
  | .prepare _ _ _ _ => 11010203
  | .go _ _ _ _ => 11011227
  | .cfgAbortMsg _ => 524289
  | .guardExpiry => 11011227
  | .signalDetect _ _ => 1
  | .cdrLock _ _ _ => 33
  | .alignSlip _ => 8388643
  | .alignWindow _ _ => 33
  | .alignDone _ => 8388611
  | .alignTimeout _ => 10751163
  | .helloTx _ => 32
  | .hello _ _ _ _ _ _ _ _ _ => 10751163
  | .rateReqTx _ => 32
  | .rateReq _ _ => 33
  | .rateAck _ _ => 32
  | .rateNak _ => 1
  | .pllRelock _ => 33
  | .qualifyDone _ => 10485947
  | .trainTimeout _ => 10751163
  | .stepCondition _ => 10751163
  | .rateFailHoldoff _ => 33
  | .laneDown _ _ => 10751163
  | .rfRx _ _ => 262305
  | .rfClear _ => 10485915
  | .v1ProbeSwitch _ => 1
  | .hostLinkState _ _ _ => 1
  | .eyeStart _ _ => 8388611
  | .eyeDone _ _ => 1
  | .patCtlWrite _ _ _ _ => 10751163
  | .chkLock _ => 1
  | .patLockLost _ _ _ => 35
  | .frameRx _ _ _ _ _ => 10487455
  | .frameOriginate _ _ => 134217727
  | .frameTx _ _ _ _ => 10486971
  | .schedWindow _ _ => 2097169
  | .schedStale _ => 10486939
  | .cycleBoundary => 10489567
  | .locDeliver _ _ => 134217727
  | .censusCall => 10485979
  | .assign _ => 10748123
  | .callRx _ _ => 10485851
  | .assignRx _ => 10748123
  | .floorChange => 64
  | .censusTimeout => 65
  | .beaconTx => 10485915
  | .beaconRx _ _ => 10485979
  | .beaconLost => 1
  | .noteRx => 1
  | .rspTimeout _ => 134217727
  | .fabRead _ => 134217727
  | .fabWrite _ => 134217727
  | .fabSwap _ => 134217727
  | .fabAdd _ => 134217727
  | .fabCas _ => 134217727
  | .fabFence _ => 134217727
  | .fabricResponseRx _ => 134217727
  | .markRx _ => 10485915
  | .drainTimeout _ _ => 10485915
  | .fwdFenceStart => 8388627
  | .fwdFenceDone => 1
  | .fwdFenceTimeout => 1
  | .ringLoss _ => 10748059
  | .wrapDone _ => 129
  | .breakRepeat _ => 10485915
  | .breakRx _ _ _ _ => 10485915
  | .restoreRx _ _ _ => 10485915
  | .breakRecordExpiry _ => 10485915
  | .gapWindowClose _ => 129
  | .returnHoldExpiry _ => 10485915
  | .unwrapHoldEnd _ => 10485915
  | .anchorInChange _ => 262273
  | .claimConfirm => 10748123
  | .yieldSettle => 2049
  | .yieldedTimeout => 1
  | .secondClaimDelay => 1
  | .twinTake => 8388611
  | .twinYield => 8390787
  | .twinRevert => 8388739
  | .twinUnlock => 8390659
  | .beatTx => 262272
  | .beatRx _ => 2177
  | .beatLost => 8650883
  | .twinStuck => 8388611
  | .revertHoldoffExpiry => 129
  | .revertRequestEnd => 128
  | .overlapEnd => 128
  | .syncTx _ => 10486939
  | .syncRx _ _ _ => 10487455
  | .syncLoss _ => 8389635
  | .pdelayReqTx _ => 10486939
  | .pdelayReqRx _ _ _ => 10487455
  | .pdelayRespRx _ _ _ => 10487455
  | .pdelayTimeout _ => 8389635
  | .ptpMessageRx _ _ _ => 10487455
  | .timeSet _ => 8389635
  | .timeAdj _ => 8389635
  | .timeStep => 10488835
  | .spindleRead _ _ => 12583939
  | .refSwitch => 2097153
  | .refRevert => 2097153
  | .ppsOutRise => 1024
  | .ppsOutFall => 1024
  | .ppsInEdge _ => 1025
  | .ppsLost => 1025
  | .feCalibrate _ _ => 1
  | .mcgEdge _ _ => 1280
  | .deadlineLog => 1027
  | .dlClear => 8388611
  | .nop _ => 8391939
  | .jmp _ _ => 8391939
  | .wait _ _ => 8391939
  | .shift _ _ => 8391939
  | .pull _ => 8391939
  | .push _ => 8391939
  | .movReg _ _ => 8391939
  | .setReg _ => 8391939
  | .edge _ => 8391939
  | .ldi _ => 8391939
  | .alu _ _ => 8391939
  | .testFlag _ _ => 8391939
  | .flag _ => 8391939
  | .clkr _ => 8391939
  | .halt _ => 8391939
  | .jmpx _ => 8391939
  | .ggIllegal _ => 8390915
  | .instructionSkip _ => 8391939
  | .ggStart _ => 8390915
  | .ggStop _ => 8390915
  | .ggResume _ => 8390915
  | .ggClkr _ => 8388867
  | .fifoClr _ => 8388867
  | .groupDisarm _ => 8390915
  | .groupStart _ _ => 8390915
  | .groupStop _ _ => 8390915
  | .groupResume _ _ => 8390915
  | .groupClkr _ _ => 8390915
  | .groupTimedFire _ => 8391939
  | .ggTxfWrite _ _ => 8388867
  | .ggRxfRead _ _ => 12583171
  | .ggInj _ _ => 8388867
  | .ggInjForce _ _ => 8388867
  | .ggImemWrite _ _ _ => 8388611
  | .efSet _ => 8388867
  | .efClr _ => 8388867
  | .moverTxWord _ => 10486683
  | .moverRxWord _ => 8389391
  | .flush _ => 8389123
  | .flushTakeEffect _ => 513
  | .lostClr _ => 8388611
  | .adv _ => 8389123
  | .sqCommit _ _ => 8389135
  | .sqHeadRead _ _ => 14680731
  | .locConsumerTake _ => 10486427
  | .creditAckRx _ => 513
  | .credTo _ => 513
  | .sciSample _ _ => 10488067
  | .actionQueueDrain => 2305
  | .playqRead _ => 12584963
  | .lsWindowEnd _ _ _ _ _ => 8390659
  | .capture _ => 8390659
  | .sweep _ => 8390659
  | .canIntegrated _ => 1
  | .canFrameRx _ _ _ _ _ _ _ _ _ _ => 8392719
  | .txReq _ _ => 8388611
  | .txAbort _ _ => 8392707
  | .canArbitration _ _ _ => 8392715
  | .canTxEnd _ _ _ => 8392719
  | .canError _ _ _ _ _ _ => 8392707
  | .restart _ => 8392707
  | .canRecovered _ => 4097
  | .qspiStatus => 27283355
  | .qspiIdent => 16384
  | .qspiWrite _ _ _ => 134217727
  | .readReq _ _ _ => 134217727
  | .readGet _ => 16385
  | .amo _ _ _ _ _ => 134217727
  | .qspiFence => 14737563
  | .fenceGet => 16385
  | .hostFrameRx _ _ _ _ _ _ _ => 134217727
  | .hostResponseTx => 16387
  | .fenceStart _ => 14737563
  | .fenceComplete _ => 16387
  | .postedWrFail _ _ _ => 8396803
  | .semRead _ _ => 12582915
  | .semWrite _ _ => 12582915
  | .semExpired _ => 8388611
  | .intcClaim _ _ _ => 109051907
  | .intcDone _ _ _ => 109051907
  | .swi _ => 109051907
  | .coalesceTimeout _ => 100663297
  | .faultProcess => 134152191
  | .faultRecordClose _ => 8388611
  | .faultRecordRead _ _ _ => 29360131
  | .safeClr => 8388611
  | .faultInject _ _ => 12582915
  | .lineWindowChange _ _ _ => 8716291
  | .insDlyExpiry _ => 1
  | .detectionDue _ => 65537
  | .detectionDone _ _ _ _ => 8716291
  | .rampDone _ => 1
  | .rampTimeout _ => 8716291
  | .fastTrip _ _ => 8716291
  | .faultTimerExpiry _ _ => 8716291
  | .offTimeEnd _ => 65537
  | .fetShort _ => 8716291
  | .pgBlankEnd _ => 1
  | .failsClear _ => 1
  | .lpwOff _ => 8454147
  | .lpwOn _ => 8454147
  | .lpwClear _ => 8454147
  | .lpwDetect _ => 8454147
  | .lpwMeasure _ _ _ _ _ _ _ _ _ _ _ => 65539
  | .lpwApplyTake _ _ _ _ _ => 8716291
  | .seqStart => 1
  | .seqStep _ => 1
  | .railTimeout _ => 8716291
  | .seqRetry => 1
  | .lpRail _ => 8716291
  | .aonSupplyLoss => 2162689
  | .erase _ => 8519683
  | .program _ => 8519683
  | .updRead => 8519683
  | .verify _ => 8519683
  | .updArm _ _ => 8519683
  | .updDisarm _ => 8519683
  | .activate _ _ => 8519683
  | .confirm _ => 8519683
  | .updMac => 8519683
  | .otpProg _ => 8519683
  | .otpRevoke _ => 8519683
  | .checkIsl => 8519683
  | .dirInit _ _ => 8519683
  | .updCommandEnd => 8519683
  | .otpKeyWrite _ => 8519683
  | .trialExpiry => 134152191
  | .proofStepEnd _ => 10751163
  | .mbist _ => 12845059
  | .mbistDone _ => 12845071
  | .bypass => 262144
  | .idcode => 262144
  | .samplePreload _ => 262144
  | .extest _ => 262144
  | .highz => 262144
  | .clamp => 262144
  | .jtagPrivate _ => 262144
  | .registerRead _ _ _ _ => 134217727
  | .bivouacZeroingDone => 134217727
  | .refclkArrival => 2097152
  | .invalidSyncHeader _ => 35
  | .frameDiscard _ _ => 10751679
  | .qspiCutShort => 16387
  | .currentLimit _ _ => 1
  | .gateVoltageLow _ => 1
  | .recoveryOccurrence _ => 4097
  | .stackNodeRx _ => 1

/-- What every command does: it answers a next state, changes only the parts of its mask, keeps the queue and the
invariant. -/
theorem exec_foot (i : Instr) (s : State) : FootO (footOf i) s (exec i s) := by
  cases i with
  | registerWrite _ _ _ _ _ _ => exact execRegisterWrite_foot _ _ _ _ _ _ s
  | mainStoreAccess _ _ _ _ => exact execMainStoreAccess_foot _ _ _ _ s
  | atomicOperation _ _ _ _ _ => exact execAtomicOperation_foot _ _ _ _ _ s
  | eccWriteback _ => exact execEccWriteback_foot _ s
  | agePromotion _ _ => exact execAgePromotion_foot _ _ s
  | arbHoldCutoff _ => exact execArbHoldCutoff_foot _ s
  | scrubRead _ => exact execScrubRead_foot _ s
  | scrubLate => exact execScrubLate_foot s
  | storeZeroingDone => exact execStoreZeroingDone_foot s
  | partitionZeroingDone => exact execPartitionZeroingDone_foot s
  | dmaStart _ => exact execDmaStart_foot _ s
  | dmaAbort _ => exact execDmaAbort_foot _ s
  | dmaBurst _ => exact execDmaBurst_foot _ s
  | dmaDone _ => exact execDmaDone_foot _ s
  | counterSnap _ _ _ _ => exact execCounterSnap_foot _ _ _ _ s
  | keepAliveTx => exact execKeepAliveTx_foot s
  | d2dLoss => exact execD2dLoss_foot s
  | d2dRestored => exact execD2dRestored_foot s
  | refclkAbsent => exact execRefclkAbsent_foot s
  | refclkAbsentReport => exact execRefclkAbsentReport_foot s
  | rc100Stop => exact execRc100Stop_foot s
  | modeRequest _ _ => exact execModeRequest_foot _ _ s
  | modeRequestTimed => exact execModeRequestTimed_foot s
  | modeTransition => exact execModeTransition_foot s
  | stackModeRx _ => exact execStackModeRx_foot _ s
  | watchWake _ => exact execWatchWake_foot _ s
  | dormantEntry => exact execDormantEntry_foot s
  | laneWakeArm _ _ => exact execLaneWakeArm_foot _ _ s
  | dormantWake _ _ => exact execDormantWake_foot _ _ s
  | wakePatternEnd _ => exact execWakePatternEnd_foot _ s
  | wakeTimerExpiry => exact execWakeTimerExpiry_foot s
  | retrainWindowEnd => exact execRetrainWindowEnd_foot s
  | islandEntry _ => exact execIslandEntry_foot _ s
  | islandExit => exact execIslandExit_foot s
  | proofAbort => exact execProofAbort_foot s
  | ftestKey _ => exact execFtestKey_foot _ s
  | powerOnReset _ => exact execPowerOnReset_foot _ s
  | resetN => exact execResetN_foot s
  | strapSample _ _ _ _ _ => exact execStrapSample_foot _ _ _ _ _ s
  | railsOk => exact execRailsOk_foot s
  | wdogStart _ _ => exact execWdogStart_foot _ _ s
  | wdogKick _ _ => exact execWdogKick_foot _ _ s
  | wdogExpiry _ => exact execWdogExpiry_foot _ s
  | softwareReset _ _ => exact execSoftwareReset_foot _ _ s
  | remoteAuth _ _ _ => exact execRemoteAuth_foot _ _ _ s
  | remoteCmd _ _ _ => exact execRemoteCmd_foot _ _ _ s
  | unitIdleAck _ => exact execUnitIdleAck_foot _ s
  | idleTimeout _ => exact execIdleTimeout_foot _ s
  | resetAssertEnd _ => exact execResetAssertEnd_foot _ s
  | unitRelease _ => exact execUnitRelease_foot _ s
  | clockNotReady _ => exact execClockNotReady_foot _ s
  | logClear => exact execLogClear_foot s
  | loaderRun => exact execLoaderRun_foot s
  | flashTimeout _ _ => exact execFlashTimeout_foot _ _ s
  | cfgOpen => exact execCfgOpen_foot s
  | cfgCheck => exact execCfgCheck_foot s
  | cfgApplyNow => exact execCfgApplyNow_foot s
  | cfgApplyAt => exact execCfgApplyAt_foot s
  | cfgAbort => exact execCfgAbort_foot s
  | cfgDiscard => exact execCfgDiscard_foot s
  | shadowWrite _ _ _ => exact execShadowWrite_foot _ _ _ s
  | consistencyCheckDone => exact execConsistencyCheckDone_foot s
  | apply => exact execApply_foot s
  | applySyncDone => exact execApplySyncDone_foot s
  | armTimeout => exact execArmTimeout_foot s
  | prepare _ _ _ _ => exact execPrepare_foot _ _ _ _ s
  | go _ _ _ _ => exact execGo_foot _ _ _ _ s
  | cfgAbortMsg _ => exact execCfgAbortMsg_foot _ s
  | guardExpiry => exact execGuardExpiry_foot s
  | signalDetect _ _ => exact execSignalDetect_foot _ _ s
  | cdrLock _ _ _ => exact execCdrLock_foot _ _ _ s
  | alignSlip _ => exact execAlignSlip_foot _ s
  | alignWindow _ _ => exact execAlignWindow_foot _ _ s
  | alignDone _ => exact execAlignDone_foot _ s
  | alignTimeout _ => exact execAlignTimeout_foot _ s
  | helloTx _ => exact execHelloTx_foot _ s
  | hello _ _ _ _ _ _ _ _ _ => exact execHello_foot _ _ _ _ _ _ _ _ _ s
  | rateReqTx _ => exact execRateReqTx_foot _ s
  | rateReq _ _ => exact execRateReq_foot _ _ s
  | rateAck _ _ => exact execRateAck_foot _ _ s
  | rateNak _ => exact execRateNak_foot _ s
  | pllRelock _ => exact execPllRelock_foot _ s
  | qualifyDone _ => exact execQualifyDone_foot _ s
  | trainTimeout _ => exact execTrainTimeout_foot _ s
  | stepCondition _ => exact execStepCondition_foot _ s
  | rateFailHoldoff _ => exact execRateFailHoldoff_foot _ s
  | laneDown _ _ => exact execLaneDown_foot _ _ s
  | rfRx _ _ => exact execRfRx_foot _ _ s
  | rfClear _ => exact execRfClear_foot _ s
  | v1ProbeSwitch _ => exact execV1ProbeSwitch_foot _ s
  | hostLinkState _ _ _ => exact execHostLinkState_foot _ _ _ s
  | eyeStart _ _ => exact execEyeStart_foot _ _ s
  | eyeDone _ _ => exact execEyeDone_foot _ _ s
  | patCtlWrite _ _ _ _ => exact execPatCtlWrite_foot _ _ _ _ s
  | chkLock _ => exact execChkLock_foot _ s
  | patLockLost _ _ _ => exact execPatLockLost_foot _ _ _ s
  | frameRx _ _ _ _ _ => exact execFrameRx_foot _ _ _ _ _ s
  | frameOriginate _ _ => exact execFrameOriginate_foot _ _ s
  | frameTx _ _ _ _ => exact execFrameTx_foot _ _ _ _ s
  | schedWindow _ _ => exact execSchedWindow_foot _ _ s
  | schedStale _ => exact execSchedStale_foot _ s
  | cycleBoundary => exact execCycleBoundary_foot s
  | locDeliver _ _ => exact execLocDeliver_foot _ _ s
  | censusCall => exact execCensusCall_foot s
  | assign _ => exact execAssign_foot _ s
  | callRx _ _ => exact execCallRx_foot _ _ s
  | assignRx _ => exact execAssignRx_foot _ s
  | floorChange => exact execFloorChange_foot s
  | censusTimeout => exact execCensusTimeout_foot s
  | beaconTx => exact execBeaconTx_foot s
  | beaconRx _ _ => exact execBeaconRx_foot _ _ s
  | beaconLost => exact execBeaconLost_foot s
  | noteRx => exact execNoteRx_foot s
  | rspTimeout _ => exact execRspTimeout_foot _ s
  | fabRead _ => exact execFabRead_foot _ s
  | fabWrite _ => exact execFabWrite_foot _ s
  | fabSwap _ => exact execFabSwap_foot _ s
  | fabAdd _ => exact execFabAdd_foot _ s
  | fabCas _ => exact execFabCas_foot _ s
  | fabFence _ => exact execFabFence_foot _ s
  | fabricResponseRx _ => exact execFabricResponseRx_foot _ s
  | markRx _ => exact execMarkRx_foot _ s
  | drainTimeout _ _ => exact execDrainTimeout_foot _ _ s
  | fwdFenceStart => exact execFwdFenceStart_foot s
  | fwdFenceDone => exact execFwdFenceDone_foot s
  | fwdFenceTimeout => exact execFwdFenceTimeout_foot s
  | ringLoss _ => exact execRingLoss_foot _ s
  | wrapDone _ => exact execWrapDone_foot _ s
  | breakRepeat _ => exact execBreakRepeat_foot _ s
  | breakRx _ _ _ _ => exact execBreakRx_foot _ _ _ _ s
  | restoreRx _ _ _ => exact execRestoreRx_foot _ _ _ s
  | breakRecordExpiry _ => exact execBreakRecordExpiry_foot _ s
  | gapWindowClose _ => exact execGapWindowClose_foot _ s
  | returnHoldExpiry _ => exact execReturnHoldExpiry_foot _ s
  | unwrapHoldEnd _ => exact execUnwrapHoldEnd_foot _ s
  | anchorInChange _ => exact execAnchorInChange_foot _ s
  | claimConfirm => exact execClaimConfirm_foot s
  | yieldSettle => exact execYieldSettle_foot s
  | yieldedTimeout => exact execYieldedTimeout_foot s
  | secondClaimDelay => exact execSecondClaimDelay_foot s
  | twinTake => exact execTwinTake_foot s
  | twinYield => exact execTwinYield_foot s
  | twinRevert => exact execTwinRevert_foot s
  | twinUnlock => exact execTwinUnlock_foot s
  | beatTx => exact execBeatTx_foot s
  | beatRx _ => exact execBeatRx_foot _ s
  | beatLost => exact execBeatLost_foot s
  | twinStuck => exact execTwinStuck_foot s
  | revertHoldoffExpiry => exact execRevertHoldoffExpiry_foot s
  | revertRequestEnd => exact execRevertRequestEnd_foot s
  | overlapEnd => exact execOverlapEnd_foot s
  | syncTx _ => exact execSyncTx_foot _ s
  | syncRx _ _ _ => exact execSyncRx_foot _ _ _ s
  | syncLoss _ => exact execSyncLoss_foot _ s
  | pdelayReqTx _ => exact execPdelayReqTx_foot _ s
  | pdelayReqRx _ _ _ => exact execPdelayReqRx_foot _ _ _ s
  | pdelayRespRx _ _ _ => exact execPdelayRespRx_foot _ _ _ s
  | pdelayTimeout _ => exact execPdelayTimeout_foot _ s
  | ptpMessageRx _ _ _ => exact execPtpMessageRx_foot _ _ _ s
  | timeSet _ => exact execTimeSet_foot _ s
  | timeAdj _ => exact execTimeAdj_foot _ s
  | timeStep => exact execTimeStep_foot s
  | spindleRead _ _ => exact execSpindleRead_foot _ _ s
  | refSwitch => exact execRefSwitch_foot s
  | refRevert => exact execRefRevert_foot s
  | ppsOutRise => exact execPpsOutRise_foot s
  | ppsOutFall => exact execPpsOutFall_foot s
  | ppsInEdge _ => exact execPpsInEdge_foot _ s
  | ppsLost => exact execPpsLost_foot s
  | feCalibrate _ _ => exact execFeCalibrate_foot _ _ s
  | mcgEdge _ _ => exact execMcgEdge_foot _ _ s
  | deadlineLog => exact execDeadlineLog_foot s
  | dlClear => exact execDlClear_foot s
  | nop _ => exact execNop_foot _ s
  | jmp _ _ => exact execJmp_foot _ _ s
  | wait _ _ => exact execWait_foot _ _ s
  | shift _ _ => exact execShift_foot _ _ s
  | pull _ => exact execPull_foot _ s
  | push _ => exact execPush_foot _ s
  | movReg _ _ => exact execMovReg_foot _ _ s
  | setReg _ => exact execSetReg_foot _ s
  | edge _ => exact execEdge_foot _ s
  | ldi _ => exact execLdi_foot _ s
  | alu _ _ => exact execAlu_foot _ _ s
  | testFlag _ _ => exact execTestFlag_foot _ _ s
  | flag _ => exact execFlag_foot _ s
  | clkr _ => exact execClkr_foot _ s
  | halt _ => exact execHalt_foot _ s
  | jmpx _ => exact execJmpx_foot _ s
  | ggIllegal _ => exact execGgIllegal_foot _ s
  | instructionSkip _ => exact execInstructionSkip_foot _ s
  | ggStart _ => exact execGgStart_foot _ s
  | ggStop _ => exact execGgStop_foot _ s
  | ggResume _ => exact execGgResume_foot _ s
  | ggClkr _ => exact execGgClkr_foot _ s
  | fifoClr _ => exact execFifoClr_foot _ s
  | groupDisarm _ => exact execGroupDisarm_foot _ s
  | groupStart _ _ => exact execGroupStart_foot _ _ s
  | groupStop _ _ => exact execGroupStop_foot _ _ s
  | groupResume _ _ => exact execGroupResume_foot _ _ s
  | groupClkr _ _ => exact execGroupClkr_foot _ _ s
  | groupTimedFire _ => exact execGroupTimedFire_foot _ s
  | ggTxfWrite _ _ => exact execGgTxfWrite_foot _ _ s
  | ggRxfRead _ _ => exact execGgRxfRead_foot _ _ s
  | ggInj _ _ => exact execGgInj_foot _ _ s
  | ggInjForce _ _ => exact execGgInjForce_foot _ _ s
  | ggImemWrite _ _ _ => exact execGgImemWrite_foot _ _ _ s
  | efSet _ => exact execEfSet_foot _ s
  | efClr _ => exact execEfClr_foot _ s
  | moverTxWord _ => exact execMoverTxWord_foot _ s
  | moverRxWord _ => exact execMoverRxWord_foot _ s
  | flush _ => exact execFlush_foot _ s
  | flushTakeEffect _ => exact execFlushTakeEffect_foot _ s
  | lostClr _ => exact execLostClr_foot _ s
  | adv _ => exact execAdv_foot _ s
  | sqCommit _ _ => exact execSqCommit_foot _ _ s
  | sqHeadRead _ _ => exact execSqHeadRead_foot _ _ s
  | locConsumerTake _ => exact execLocConsumerTake_foot _ s
  | creditAckRx _ => exact execCreditAckRx_foot _ s
  | credTo _ => exact execCredTo_foot _ s
  | sciSample _ _ => exact execSciSample_foot _ _ s
  | actionQueueDrain => exact execActionQueueDrain_foot s
  | playqRead _ => exact execPlayqRead_foot _ s
  | lsWindowEnd _ _ _ _ _ => exact execLsWindowEnd_foot _ _ _ _ _ s
  | capture _ => exact execCapture_foot _ s
  | sweep _ => exact execSweep_foot _ s
  | canIntegrated _ => exact execCanIntegrated_foot _ s
  | canFrameRx _ _ _ _ _ _ _ _ _ _ => exact execCanFrameRx_foot _ _ _ _ _ _ _ _ _ _ s
  | txReq _ _ => exact execTxReq_foot _ _ s
  | txAbort _ _ => exact execTxAbort_foot _ _ s
  | canArbitration _ _ _ => exact execCanArbitration_foot _ _ _ s
  | canTxEnd _ _ _ => exact execCanTxEnd_foot _ _ _ s
  | canError _ _ _ _ _ _ => exact execCanError_foot _ _ _ _ _ _ s
  | restart _ => exact execRestart_foot _ s
  | canRecovered _ => exact execCanRecovered_foot _ s
  | qspiStatus => exact execQspiStatus_foot s
  | qspiIdent => exact execQspiIdent_foot s
  | qspiWrite _ _ _ => exact execQspiWrite_foot _ _ _ s
  | readReq _ _ _ => exact execReadReq_foot _ _ _ s
  | readGet _ => exact execReadGet_foot _ s
  | amo _ _ _ _ _ => exact execAmo_foot _ _ _ _ _ s
  | qspiFence => exact execQspiFence_foot s
  | fenceGet => exact execFenceGet_foot s
  | hostFrameRx _ _ _ _ _ _ _ => exact execHostFrameRx_foot _ _ _ _ _ _ _ s
  | hostResponseTx => exact execHostResponseTx_foot s
  | fenceStart _ => exact execFenceStart_foot _ s
  | fenceComplete _ => exact execFenceComplete_foot _ s
  | postedWrFail _ _ _ => exact execPostedWrFail_foot _ _ _ s
  | semRead _ _ => exact execSemRead_foot _ _ s
  | semWrite _ _ => exact execSemWrite_foot _ _ s
  | semExpired _ => exact execSemExpired_foot _ s
  | intcClaim _ _ _ => exact execIntcClaim_foot _ _ _ s
  | intcDone _ _ _ => exact execIntcDone_foot _ _ _ s
  | swi _ => exact execSwi_foot _ s
  | coalesceTimeout _ => exact execCoalesceTimeout_foot _ s
  | faultProcess => exact execFaultProcess_foot s
  | faultRecordClose _ => exact execFaultRecordClose_foot _ s
  | faultRecordRead _ _ _ => exact execFaultRecordRead_foot _ _ _ s
  | safeClr => exact execSafeClr_foot s
  | faultInject _ _ => exact execFaultInject_foot _ _ s
  | lineWindowChange _ _ _ => exact execLineWindowChange_foot _ _ _ s
  | insDlyExpiry _ => exact execInsDlyExpiry_foot _ s
  | detectionDue _ => exact execDetectionDue_foot _ s
  | detectionDone _ _ _ _ => exact execDetectionDone_foot _ _ _ _ s
  | rampDone _ => exact execRampDone_foot _ s
  | rampTimeout _ => exact execRampTimeout_foot _ s
  | fastTrip _ _ => exact execFastTrip_foot _ _ s
  | faultTimerExpiry _ _ => exact execFaultTimerExpiry_foot _ _ s
  | offTimeEnd _ => exact execOffTimeEnd_foot _ s
  | fetShort _ => exact execFetShort_foot _ s
  | pgBlankEnd _ => exact execPgBlankEnd_foot _ s
  | failsClear _ => exact execFailsClear_foot _ s
  | lpwOff _ => exact execLpwOff_foot _ s
  | lpwOn _ => exact execLpwOn_foot _ s
  | lpwClear _ => exact execLpwClear_foot _ s
  | lpwDetect _ => exact execLpwDetect_foot _ s
  | lpwMeasure _ _ _ _ _ _ _ _ _ _ _ => exact execLpwMeasure_foot _ _ _ _ _ _ _ _ _ _ _ s
  | lpwApplyTake _ _ _ _ _ => exact execLpwApplyTake_foot _ _ _ _ _ s
  | seqStart => exact execSeqStart_foot s
  | seqStep _ => exact execSeqStep_foot _ s
  | railTimeout _ => exact execRailTimeout_foot _ s
  | seqRetry => exact execSeqRetry_foot s
  | lpRail _ => exact execLpRail_foot _ s
  | aonSupplyLoss => exact execAonSupplyLoss_foot s
  | erase _ => exact execErase_foot _ s
  | program _ => exact execProgram_foot _ s
  | updRead => exact execUpdRead_foot s
  | verify _ => exact execVerify_foot _ s
  | updArm _ _ => exact execUpdArm_foot _ _ s
  | updDisarm _ => exact execUpdDisarm_foot _ s
  | activate _ _ => exact execActivate_foot _ _ s
  | confirm _ => exact execConfirm_foot _ s
  | updMac => exact execUpdMac_foot s
  | otpProg _ => exact execOtpProg_foot _ s
  | otpRevoke _ => exact execOtpRevoke_foot _ s
  | checkIsl => exact execCheckIsl_foot s
  | dirInit _ _ => exact execDirInit_foot _ _ s
  | updCommandEnd => exact execUpdCommandEnd_foot s
  | otpKeyWrite _ => exact execOtpKeyWrite_foot _ s
  | trialExpiry => exact execTrialExpiry_foot s
  | proofStepEnd _ => exact execProofStepEnd_foot _ s
  | mbist _ => exact execMbist_foot _ s
  | mbistDone _ => exact execMbistDone_foot _ s
  | bypass => exact execBypass_foot s
  | idcode => exact execIdcode_foot s
  | samplePreload _ => exact execSamplePreload_foot _ s
  | extest _ => exact execExtest_foot _ s
  | highz => exact execHighz_foot s
  | clamp => exact execClamp_foot s
  | jtagPrivate _ => exact execJtagPrivate_foot _ s
  | registerRead _ _ _ _ => exact execRegisterRead_foot _ _ _ _ s
  | bivouacZeroingDone => exact execBivouacZeroingDone_foot s
  | refclkArrival => exact execRefclkArrival_foot s
  | invalidSyncHeader _ => exact execInvalidSyncHeader_foot _ s
  | frameDiscard _ _ => exact execFrameDiscard_foot _ _ s
  | qspiCutShort => exact execQspiCutShort_foot s
  | currentLimit _ _ => exact execCurrentLimit_foot _ _ s
  | gateVoltageLow _ => exact execGateVoltageLow_foot _ s
  | recoveryOccurrence _ => exact execRecoveryOccurrence_foot _ s
  | stackNodeRx _ => exact execStackNodeRx_foot _ s

/-- An idle cycle keeps the queue and the invariant. -/
theorem idle_foot (s : State) : Foot 134217727 s s.tick := (State.tick_foot s).step rfl Foot.refl

end Sys2Proof.Machine
end

