-- ==== Sys2Proof/Laws/Store.lean ====
section
/-! SUPPORT. The laws of the main store's operations: what a byte, a word's error mark, a reservation and a bank's arbiter read
after each of them. -/
namespace Sys2Proof.Machine

/-! ### Counters -/

/-- A counter after a count. -/
theorem State.cnt_count (s : State) (o n j : Nat) :
    (s.count o n).cnt j = if j = o then min (s.cnt o + n) (2 ^ 48 - 1) else s.cnt j := by
  unfold State.count
  have key : ∀ v : Nat, (s.setCnt o v).cnt j = if j = o then v else s.cnt j := fun v => State.cnt_setCnt ..
  simp only []
  split
  · split
    · split <;> simpa using key _
    · exact key _
  · exact key _

/-- A register that is not the SAT register of the counter's group keeps its value. -/
theorem State.rd_count_sat (s : State) (o n j : Nat) (f : Fld) (hf : satField o = some f) (hl : f ≠ LPW_STAT_SAT)
    (h : j ≠ f.off) : (s.count o n).rd j = s.rd j := by
  unfold State.count
  simp only [hf, hl, if_false]
  split
  · rw [State.rd_put_ne _ _ _ h]; rfl
  · rfl

/-- A field that is not the SAT bit of the counter's group keeps its value. -/
theorem State.get_count_sat (s : State) (o n : Nat) (f g : Fld) (hf : satField o = some f) (hl : f ≠ LPW_STAT_SAT)
    (h : g.off ≠ f.off ∨ (g.lo + g.w ≤ 32 ∧ (g.lo + g.w ≤ f.lo ∨ f.lo + f.w ≤ g.lo))) :
    (s.count o n).get g = s.get g := by
  rcases h with h | ⟨h1, h2⟩
  · simp only [State.get, State.rd_count_sat s o n _ f hf hl h]
  · unfold State.count
    simp only [hf, hl, if_false]
    split
    · rw [State.get_put_disj _ _ _ _ h1 h2]; rfl
    · rfl

/-- A counter whose group has no SAT bit writes no register. -/
theorem State.rd_count_nosat (s : State) (o n j : Nat) (hf : satField o = none) : (s.count o n).rd j = s.rd j := by
  unfold State.count
  simp only [hf]
  split <;> rfl

/-! ### Bytes -/

theorem ofLeBytes_leBytes (n : Nat) : ∀ x, ofLeBytes (leBytes n x) = x % 2 ^ (8 * n) := by
  induction n with
  | zero => intro x; simp [leBytes, ofLeBytes, Nat.mod_one]
  | succ n ih =>
    intro x
    simp only [leBytes, ofLeBytes, ih, BitVec.toNat_ofNat]
    have h : (2 : Nat) ^ (8 * (n + 1)) = 256 * 2 ^ (8 * n) := by rw [Nat.mul_succ, Nat.pow_add]; omega
    have h1 : x % (256 * 2 ^ (8 * n)) = x % 256 + 256 * (x / 256 % 2 ^ (8 * n)) := Nat.mod_mul
    rw [h, h1]

theorem length_leBytes (n : Nat) : ∀ x, (leBytes n x).length = n := by
  induction n with
  | zero => intro x; rfl
  | succ n ih => intro x; simp [leBytes, ih]

theorem Tab.getList_congr {α : Type} (d : Nat → α) (t u : Tab α) (n : Nat) :
    ∀ k, (∀ j, k ≤ j → j < k + n → Tab.get d t j = Tab.get d u j) → Tab.getList d t k n = Tab.getList d u k n := by
  induction n with
  | zero => intros; rfl
  | succ n ih =>
    intro k h
    simp only [Tab.getList]
    rw [h k (by omega) (by omega), ih (k + 1) (fun j h1 h2 => h j (by omega) (by omega))]

theorem Tab.getList_setList {α : Type} [DecidableEq α] (d : Nat → α) (vs : List α) :
    ∀ (t : Tab α) (k : Nat), Tab.getList d (Tab.setList d t k vs) k vs.length = vs := by
  induction vs with
  | nil => intros; rfl
  | cons v vs ih =>
    intro t k
    simp only [List.length_cons, Tab.getList, Tab.setList]
    rw [ih, Tab.get_setList_out _ _ _ _ _ (by omega), Tab.get_set_same]

/-- Bytes outside a write keep their value. -/
theorem State.byte_poke_out (s : State) (off n v a : Nat) (h : a < off ∨ off + n ≤ a) :
    (s.poke off n v).byte a = s.byte a :=
  Tab.get_setList_out _ _ _ _ _ (by rw [length_leBytes]; exact h)

/-- The number written reads back, as many bytes as were written. -/
theorem State.load_poke (s : State) (off n v : Nat) : (s.poke off n v).load off n = v % 2 ^ (8 * n) := by
  have h := Tab.getList_setList memDefault (leBytes n v) s.mem off
  rw [length_leBytes] at h
  simp only [State.load, State.poke, h, ofLeBytes_leBytes]

/-- A key-wise filter of a table. -/
theorem Tab.get_filter {α : Type} (d : Nat → α) (t : Tab α) (q : Nat → Bool) (j : Nat) :
    Tab.get d (t.filter fun e => q e.1) j = if q j then Tab.get d t j else d j := by
  induction t with
  | nil => simp [Tab.get]
  | cons e r ih =>
    obtain ⟨k, v⟩ := e
    by_cases hq : q k
    · simp only [List.filter_cons, hq, if_true, Tab.get]
      by_cases hk : k = j
      · subst hk; simp [hq]
      · simp [hk, ih]
    · simp only [List.filter_cons, hq, Tab.get]
      by_cases hk : k = j
      · subst hk; simp [ih, hq]
      · simp [hk, ih]

/-- Zeroed banks read 0; every other byte keeps its value. -/
theorem State.byte_zeroBanks (s : State) (mask a : Nat) :
    (s.zeroBanks mask).byte a = if mask.testBit (bankOf a) then 0#8 else s.byte a := by
  have h := Tab.get_filter memDefault s.mem (fun k => !mask.testBit (bankOf k)) a
  simp only [State.byte, State.zeroBanks]
  rw [h]
  cases mask.testBit (bankOf a) <;> simp [memDefault]

/-! ### Words, reservations, arbiters -/

theorem State.mark_setMark (s : State) (w : Nat) (m : Option Mark) (v : Nat) :
    (s.setMark w m).mark v = if v = w then m else s.mark v := Tab.get_set ..

theorem State.lrOf_setLr (s : State) (c : Nat) (g : Option Nat) (d : Nat) :
    (s.setLr c g).lrOf d = if d = c then g else s.lrOf d := Tab.get_set ..

theorem State.bank_setBank (s : State) (b : Nat) (k : BankSt) (c : Nat) :
    (s.setBank b k).bank c = if c = b then k else s.bank c := Tab.get_set ..

@[simp] theorem State.lrOf_setMark (s : State) (w : Nat) (m : Option Mark) (c : Nat) : (s.setMark w m).lrOf c = s.lrOf c := rfl
@[simp] theorem State.bank_setMark (s : State) (w : Nat) (m : Option Mark) (c : Nat) : (s.setMark w m).bank c = s.bank c := rfl
@[simp] theorem State.mark_setLr (s : State) (c : Nat) (g : Option Nat) (w : Nat) : (s.setLr c g).mark w = s.mark w := rfl
@[simp] theorem State.bank_setLr (s : State) (c : Nat) (g : Option Nat) (b : Nat) : (s.setLr c g).bank b = s.bank b := rfl
@[simp] theorem State.mark_setBank (s : State) (b : Nat) (k : BankSt) (w : Nat) : (s.setBank b k).mark w = s.mark w := rfl
@[simp] theorem State.lrOf_setBank (s : State) (b : Nat) (k : BankSt) (c : Nat) : (s.setBank b k).lrOf c = s.lrOf c := rfl

/-- The grant is parked on the requester it passed to; bursts, marks and reservations stay. -/
theorem State.grant_owner (s : State) (b r : Nat) : ((s.grant b r).bank b).owner = r := by
  simp only [State.grant, State.bank_setBank, if_true]
  split <;> rfl

theorem State.grant_burst (s : State) (b r c : Nat) : ((s.grant b r).bank c).burst = (s.bank c).burst := by
  simp only [State.grant, State.bank_setBank]
  by_cases h : c = b
  · subst h; simp only [if_true]; split <;> rfl
  · simp [h]

@[simp] theorem State.mark_grant (s : State) (b r w : Nat) : (s.grant b r).mark w = s.mark w := rfl
@[simp] theorem State.lrOf_grant (s : State) (b r c : Nat) : (s.grant b r).lrOf c = s.lrOf c := rfl

/-- Upsets reach the error marks alone. -/
theorem State.upset_wait (s : State) (us : List Upset) : (s.upset us).store.wait = s.store.wait ∧
    (s.upset us).store.scrub = s.store.scrub ∧ (s.upset us).store.zeroing = s.store.zeroing ∧
    (s.upset us).store.lr = s.store.lr ∧ (s.upset us).store.banks = s.store.banks := by
  unfold State.upset State.each
  have key : ∀ (l : List Upset) (t : State), t.store.wait = s.store.wait ∧ t.store.scrub = s.store.scrub ∧
      t.store.zeroing = s.store.zeroing ∧ t.store.lr = s.store.lr ∧ t.store.banks = s.store.banks →
      let u := l.foldl (fun s u => if u.word < storeSize / 8 then
        s.setMark u.word (some ⟨u.uncorr || (s.mark u.word).isSome, u.pattern, false⟩) else s) t
      u.store.wait = s.store.wait ∧ u.store.scrub = s.store.scrub ∧ u.store.zeroing = s.store.zeroing ∧
        u.store.lr = s.store.lr ∧ u.store.banks = s.store.banks := by
    intro l
    induction l with
    | nil => intro t h; exact h
    | cons x l ih => intro t h; exact ih _ (by dsimp only; split <;> exact h)
  exact key us s ⟨rfl, rfl, rfl, rfl, rfl⟩

/-- Good words read good and change nothing. -/
theorem State.eccRead_good (s : State) (w n req : Nat) (h : ∀ i, i < n → s.mark (w + i) = none) :
    s.eccRead w n req = (s, true) := by
  unfold State.eccRead
  have key : ∀ l : List Nat, (∀ i ∈ l, i < n) → l.foldl (fun (a : State × Bool) i =>
      match a.1.mark (w + i) with
      | none => a
      | some m => if m.uncorr then (a.1.eccUe (w + i) m req, false) else (a.1.eccCe (w + i) m req, a.2)) (s, true) =
      (s, true) := by
    intro l
    induction l with
    | nil => intro _; rfl
    | cons x l ih =>
      intro hl
      simp only [List.foldl_cons, h x (hl x (by simp))]
      exact ih fun i hi => hl i (by simp [hi])
  exact key _ fun i hi => List.mem_range.1 hi

/-- A single-bit error in the one word read. -/
theorem State.eccRead_ce (s : State) (w req : Nat) (m : Mark) (h : s.mark w = some m) (hu : m.uncorr = false) :
    s.eccRead w 1 req = (s.eccCe w m req, true) := by
  simp [State.eccRead, List.range_succ, h, hu]

/-- An uncorrectable error in the one word read. -/
theorem State.eccRead_ue (s : State) (w req : Nat) (m : Mark) (h : s.mark w = some m) (hu : m.uncorr = true) :
    s.eccRead w 1 req = (s.eccUe w m req, false) := by
  simp [State.eccRead, List.range_succ, h, hu]

/-- Words written whole carry no error. -/
theorem State.mark_eccWritten (s : State) (w n v : Nat) :
    (s.eccWritten w n).mark v = if w ≤ v ∧ v < w + n then none else s.mark v := by
  unfold State.eccWritten State.each
  induction n with
  | zero => rw [if_neg (by omega)]; rfl
  | succ n ih =>
    rw [List.range_succ, List.foldl_append]
    simp only [List.foldl_cons, List.foldl_nil]
    generalize hT : (List.range n).foldl _ s = T at ih ⊢
    split
    · rw [State.mark_setMark, ih]
      by_cases h : v = w + n
      · subst h; simp
      · simp [h]; by_cases h1 : w ≤ v ∧ v < w + n
        · simp [h1]; omega
        · have : ¬ (w ≤ v ∧ v < w + (n + 1)) := by omega
          simp [h1, this]
    · rename_i hN
      by_cases h : v = w + n
      · subst h
        have hn : T.mark (w + n) = none := by simpa using hN
        rw [hn]; simp
      · rw [ih]
        by_cases h1 : w ≤ v ∧ v < w + n
        · simp [h1]; omega
        · have : ¬ (w ≤ v ∧ v < w + (n + 1)) := by omega
          simp [h1, this]

/-- Writing words leaves the rest of the store's bookkeeping. -/
theorem State.eccWritten_rest (s : State) (w n : Nat) : (∀ c, (s.eccWritten w n).lrOf c = s.lrOf c) ∧
    (∀ b, (s.eccWritten w n).bank b = s.bank b) ∧ (s.eccWritten w n).store.wait = s.store.wait := by
  unfold State.eccWritten State.each
  have key : ∀ (l : List Nat) (t : State),
      ((∀ c, t.lrOf c = s.lrOf c) ∧ (∀ b, t.bank b = s.bank b) ∧ t.store.wait = s.store.wait) →
      let u := l.foldl (fun s i => if (s.mark (w + i)).isSome then s.setMark (w + i) none else s) t
      (∀ c, u.lrOf c = s.lrOf c) ∧ (∀ b, u.bank b = s.bank b) ∧ u.store.wait = s.store.wait := by
    intro l
    induction l with
    | nil => intro t h; exact h
    | cons x l ih => intro t h; exact ih _ (by dsimp only; split <;> exact h)
  exact key _ s ⟨fun _ => rfl, fun _ => rfl, rfl⟩

/-- A write takes the reservation of its granules from every other core. -/
theorem State.lrOf_lrWritten (s : State) (req off n c : Nat) (hc : c < 2) :
    (s.lrWritten req off n).lrOf c = match s.lrOf c with
      | some g => if req ≠ c + 1 ∧ off / 64 ≤ g ∧ g ≤ (off + n - 1) / 64 then none else some g
      | none => none := by
  unfold State.lrWritten State.each
  simp only [List.foldl_cons, List.foldl_nil]
  have hc : c = 0 ∨ c = 1 := by omega
  have h0 : ∀ (t : State) (d : Nat), d ≠ c → (match t.lrOf d with
      | some g => if req ≠ d + 1 ∧ off / 64 ≤ g ∧ g ≤ (off + n - 1) / 64 then t.setLr d none else t
      | none => t).lrOf c = t.lrOf c := by
    intro t d hd
    split
    · split
      · rw [State.lrOf_setLr, if_neg (Ne.symm hd)]
      · rfl
    · rfl
  have h1 : ∀ t : State, (match t.lrOf c with
      | some g => if req ≠ c + 1 ∧ off / 64 ≤ g ∧ g ≤ (off + n - 1) / 64 then t.setLr c none else t
      | none => t).lrOf c = match t.lrOf c with
        | some g => if req ≠ c + 1 ∧ off / 64 ≤ g ∧ g ≤ (off + n - 1) / 64 then none else some g
        | none => none := by
    intro t
    cases h : t.lrOf c with
    | none => simp [h]
    | some g =>
      simp only []
      split
      · rw [State.lrOf_setLr, if_pos rfl]
      · exact h
  rcases hc with rfl | rfl
  · exact (h0 _ 1 (by decide)).trans (h1 s)
  · refine (h1 _).trans ?_
    have e := h0 s 0 (by decide)
    exact congrArg (fun x : Option Nat => match x with
      | some g => if req ≠ 1 + 1 ∧ off / 64 ≤ g ∧ g ≤ (off + n - 1) / 64 then none else some g
      | none => none) e

theorem State.lrWritten_rest (s : State) (req off n : Nat) : (∀ w, (s.lrWritten req off n).mark w = s.mark w) ∧
    (∀ b, (s.lrWritten req off n).bank b = s.bank b) ∧ (s.lrWritten req off n).store.wait = s.store.wait := by
  unfold State.lrWritten State.each
  simp only [List.foldl_cons, List.foldl_nil]
  have key : ∀ (t : State) (d : Nat), let u := (match t.lrOf d with
      | some g => if req ≠ d + 1 ∧ off / 64 ≤ g ∧ g ≤ (off + n - 1) / 64 then t.setLr d none else t
      | none => t)
      (∀ w, u.mark w = t.mark w) ∧ (∀ b, u.bank b = t.bank b) ∧ u.store.wait = t.store.wait := by
    intro t d
    simp only []
    split
    · split <;> exact ⟨fun _ => rfl, fun _ => rfl, rfl⟩
    · exact ⟨fun _ => rfl, fun _ => rfl, rfl⟩
  have a := key s 0
  have b := key (match s.lrOf 0 with
      | some g => if req ≠ 0 + 1 ∧ off / 64 ≤ g ∧ g ≤ (off + n - 1) / 64 then s.setLr 0 none else s
      | none => s) 1
  exact ⟨fun w => (b.1 w).trans (a.1 w), fun c => (b.2.1 c).trans (a.2.1 c), b.2.2.trans a.2.2⟩

/-- With no access waiting there is nothing to serve. -/
theorem State.serve_nil (s : State) (h : s.store.wait = []) : s.serve = s := by
  simp [State.serve, h]

/-- The counters of a bank's beats belong to MSA's group. -/
theorem satField_beats {b : Nat} (hb : b < 16) : satField (MSA_BEATS b) = some MSA_ECC_STAT_SAT := by
  have h : ∀ i : Fin 16, satField (MSA_BEATS i.val) = some MSA_ECC_STAT_SAT := by decide
  exact h ⟨b, hb⟩

end Sys2Proof.Machine
end

