-- ==== Sys2Proof/WellFormed.lean ====
section
/-! DEFINITION. The form a command's operands must have where their type admits more than the spec's text does. -/
namespace Sys2Proof

/-- A main-store burst has 1 to 8 beats of 32 B (R38), and a burst write carries no more words than its beats hold. -/
def AccForm.wf : AccForm → Bool
  | .burstRead n => decide (1 ≤ n ∧ n ≤ 8)
  | .burstWrite n d => decide (1 ≤ n ∧ n ≤ 8 ∧ d.length ≤ 4 * n)
  | .resume d => decide (d.length ≤ 32)
  | _ => true

/-- Whether a command is well formed. -/
def Instr.wf : Instr → Bool
  | .mainStoreAccess _ _ form _ => form.wf
  | _ => true

end Sys2Proof
end

