-- ==== Sys2Proof/Tests/Slice0.lean ====
section
/-! SUPPORT. Small tests of the model: ill-formed commands, the spec's worked examples, and for every statement a state and
operands that meet the hypotheses of each of its clauses. -/
namespace Sys2Proof.Tests
open Sys2Proof.Machine
set_option maxRecDepth 4000
set_option Elab.async false

/-! ### Ill-formed commands -/

theorem test_wf_burst_read : AccForm.wf (.burstRead 0) = false ∧ AccForm.wf (.burstRead 9) = false ∧ AccForm.wf (.burstRead 8) = true := by
  decide
theorem test_wf_burst_write : Instr.wf (.mainStoreAccess 1 0 (.burstWrite 9 []) []) = false ∧
    Instr.wf (.mainStoreAccess 1 0 (.burstWrite 1 [0, 0, 0, 0, 0]) []) = false := by decide
theorem test_wf_resume : Instr.wf (.mainStoreAccess 1 0 (.resume (List.replicate 33 0)) []) = false := by decide +kernel

/-- A hub that has started: its rails stand, the store is zeroed, and the census has listed it as node 5. -/
def hub : State :=
  (((State.reset.put LPW_STAT_RAILS_OK 1).put MSA_STAT_INIT_DONE 1).put RPE_NODE_NODE 5).put RPE_STAT_LISTED 1

namespace C01

/-- The hypotheses of StoreReads, clause 1 to 4, hold together. -/
theorem test_hyp_StoreReads :
  ((fun (r : Fin 8) (addr : BitVec 38) (z : Fin 4) (us : List Upset) (s : State) =>
    inStore addr.toNat = true ∧ (s.upset us).serves r.val (storeOff addr) (.read z) ∧
    (s.upset us).mark (storeOff addr / 8) = none) 3 0x10000048 2 [] hub) ∧
  ((fun (r : Fin 8) (addr : BitVec 38) (n : Nat) (us : List Upset) (s : State) =>
    inStore addr.toNat = true ∧ (s.upset us).serves r.val (storeOff addr) (.burstRead n) ∧
    (∀ i, i < 4 * n → (s.upset us).mark (storeOff addr / 8 + i) = none)) 3 0x10000100 2 [] hub) ∧
  ((fun (r : Fin 8) (addr : BitVec 38) (z : Fin 4) (us : List Upset) (m : Mark) (s : State) =>
    inStore addr.toNat = true ∧ (s.upset us).serves r.val (storeOff addr) (.read z) ∧ s.roomy ∧
    (s.upset us).mark (storeOff addr / 8) = some m ∧ m.uncorr = false) 3 0x10000048 2 [⟨9, false, 5⟩] ⟨false, 5, false⟩ hub) ∧
  ((fun (r : Fin 8) (addr : BitVec 38) (z : Fin 4) (us : List Upset) (m : Mark) (s : State) =>
    inStore addr.toNat = true ∧ (s.upset us).serves r.val (storeOff addr) (.read z) ∧ s.roomy ∧
    (s.upset us).mark (storeOff addr / 8) = some m ∧ m.uncorr = true) 3 0x10000048 2 [⟨9, true, 5⟩] ⟨true, 5, false⟩ hub) := by
  refine ⟨?_, ?_, ?_, ?_⟩ <;> decide +kernel

/-- The hypotheses of StoreWrites, clause 1 to 6, hold together. -/
theorem test_hyp_StoreWrites :
  ((fun (r : Fin 8) (addr : BitVec 38) (d : DWord) (us : List Upset) (s : State) =>
    inStore addr.toNat = true ∧ (s.upset us).serves r.val (storeOff addr) (.write 3 d) ∧
    s.mayWrite r.val (bankOf (storeOff addr)) = true) 1 0x10300048 0x1122334455667788 [⟨0x60009, true, 5⟩] (hub.setLr 1 (some 0xC001))) ∧
  ((fun (r : Fin 8) (addr : BitVec 38) (z : Fin 4) (d : DWord) (us : List Upset) (s : State) =>
    z.val < 3 ∧ inStore addr.toNat = true ∧ (s.upset us).serves r.val (storeOff addr) (.write z d) ∧
    s.mayWrite r.val (bankOf (storeOff addr)) = true ∧ (s.upset us).mark (storeOff addr / 8) = none) 1 0x1030004A 1 0x1122334455667788 [] (hub.setLr 1 (some 0xC001))) ∧
  ((fun (r : Fin 8) (addr : BitVec 38) (z : Fin 4) (d : DWord) (us : List Upset) (m : Mark) (s : State) =>
    z.val < 3 ∧ inStore addr.toNat = true ∧ (s.upset us).serves r.val (storeOff addr) (.write z d) ∧ s.roomy ∧
    s.mayWrite r.val (bankOf (storeOff addr)) = true ∧ (s.upset us).mark (storeOff addr / 8) = some m ∧
    m.uncorr = true) 1 0x1030004A 1 0x1122334455667788 [⟨0x60009, true, 5⟩] ⟨true, 5, false⟩ hub) ∧
  ((fun (r : Fin 8) (addr : BitVec 38) (n : Nat) (ws : List DWord) (us : List Upset) (s : State) =>
    inStore addr.toNat = true ∧ (s.upset us).serves r.val (storeOff addr) (.burstWrite n ws) ∧
    s.mayWrite r.val (bankOf (storeOff addr)) = true ∧ ws.length = 4 * n) 1 0x10300040 2 [1, 2, 3, 4, 5, 6, 7, 8] [] hub) ∧
  ((fun (r : Fin 8) (addr : BitVec 38) (n : Nat) (ws : List DWord) (us : List Upset) (s : State) =>
    inStore addr.toNat = true ∧ (s.upset us).serves r.val (storeOff addr) (.burstWrite n ws) ∧
    s.mayWrite r.val (bankOf (storeOff addr)) = true ∧ ws.length < 4 * n) 1 0x10300040 2 [1, 2, 3, 4, 5] [] hub) ∧
  ((fun (r : Fin 8) (addr : BitVec 38) (ws : List DWord) (us : List Upset) (u : Burst) (s : State) =>
    inStore addr.toNat = true ∧ ((s.upset us).bank (bankOf (storeOff addr))).burst = some u ∧ u.req = r.val ∧
    bankOf u.next = bankOf (storeOff addr) ∧ s.store.wait = [] ∧ s.mayWrite r.val (bankOf (storeOff addr)) = true ∧
    (s.upset us).bankZeroing (bankOf (storeOff addr)) = false ∧ s.dark = false ∧
    s.lockedOut (bankOf (storeOff addr)) r.val = false ∧ ws.length = 4 * u.left) 1 0x10300040 [5, 6, 7, 8] [] ⟨1, 0x300040, 0x300060, 1⟩ (hub.setBank 6 ⟨1, 0, 1, some ⟨1, 0x300040, 0x300060, 1⟩, none⟩)) := by
  refine ⟨?_, ?_, ?_, ?_, ?_, ?_⟩ <;> decide +kernel

/-- The hypotheses of StoreRefusals, clause 1 to 5, hold together. -/
theorem test_hyp_StoreRefusals :
  ((fun (_r : Fin 8) (addr : BitVec 38) (f : AccForm) (_us : List Upset) (s : State) =>
    inStore addr.toNat = true ∧ accLegal f (storeOff addr) = false ∧ s.dark = false ∧ s.roomy) 1 0x10300041 (.read 1) [] hub) ∧
  ((fun (r : Fin 8) (addr : BitVec 38) (_f : AccForm) (_us : List Upset) (s : State) =>
    inStore addr.toNat = false ∧ s.leadsTo addr.toNat = none ∧ (inWindow addr.toNat = false ∨ (r ≠ 1 ∧ r ≠ 2)) ∧
    s.dark = false ∧ s.roomy) 1 0x0F300041 (.read 1) [] hub) ∧
  ((fun (r : Fin 8) (addr : BitVec 38) (f : AccForm) (us : List Upset) (s : State) =>
    inStore addr.toNat = true ∧ (s.upset us).serves r.val (storeOff addr) f ∧ accWrites f = true ∧ s.roomy ∧
    s.mayWrite r.val (bankOf (storeOff addr)) = false ∧ f.resumes = false) 1 0x10000040 (.write 1 7) [] (hub.put (MSA_WPROT_WR 0) 0)) ∧
  ((fun (r : Fin 8) (addr : BitVec 38) (f : AccForm) (us : List Upset) (s : State) =>
    inStore addr.toNat = true ∧ accLegal f (storeOff addr) = true ∧ f.resumes = false ∧
    (s.upset us).accWaits r.val (storeOff addr) = false ∧
    (s.upset us).lockedOut (bankOf (storeOff addr)) r.val = true ∧ s.dark = false) 1 0x10000040 (.write 1 7) [] ((hub.put MSA_ARBCTL_LOCKOUT 1).put MSA_HOLD_FLAG_CUT 2)) ∧
  ((fun (r : Fin 8) (addr : BitVec 38) (f : AccForm) (us : List Upset) (s : State) =>
    inStore addr.toNat = true ∧ accLegal f (storeOff addr) = true ∧ f.resumes = false ∧
    (s.upset us).accWaits r.val (storeOff addr) = true ∧ s.dark = false) 1 0x10000040 (.write 1 7) [] State.reset) ∧
  ((fun (r : Fin 8) (addr : BitVec 38) (f : AccForm) (us : List Upset) (s : State) =>
    inStore addr.toNat = true ∧ accLegal f (storeOff addr) = true ∧ f.resumes = false ∧
    (s.upset us).accWaits r.val (storeOff addr) = true ∧ s.dark = false) 1 0x10300040 (.write 1 7) [] ({ hub with store := { hub.store with wait := [⟨1, 0x300040, .read 2, .cmd⟩] } })) := by
  refine ⟨?_, ?_, ?_, ?_, ?_, ?_⟩ <;> decide +kernel

/-- The hypotheses of StoreAtomics, clause 1 to 5, hold together. -/
theorem test_hyp_StoreAtomics :
  ((fun (core : Fin 2) (addr : BitVec 32) (d : Word) (us : List Upset) (s : State) =>
    inStore addr.toNat = true ∧
    (s.upset us).serves (core.val + 1) (addr.toNat - storeBase) (.amo .lr 2 (d.zeroExtend 64) 0#64) ∧
    (s.upset us).mark ((addr.toNat - storeBase) / 8) = none) 1 0x10300044 9 [] hub) ∧
  ((fun (core : Fin 2) (addr : BitVec 32) (d : Word) (us : List Upset) (m : Mark) (s : State) =>
    inStore addr.toNat = true ∧
    (s.upset us).serves (core.val + 1) (addr.toNat - storeBase) (.amo .lr 2 (d.zeroExtend 64) 0#64) ∧
    (s.upset us).mark ((addr.toNat - storeBase) / 8) = some m ∧ m.uncorr = true) 1 0x10300044 9 [⟨0x60008, true, 5⟩] ⟨true, 5, false⟩ (hub.setLr 1 (some 0xC001))) ∧
  ((fun (core : Fin 2) (addr : BitVec 32) (d : Word) (us : List Upset) (s : State) =>
    inStore addr.toNat = true ∧
    (s.upset us).serves (core.val + 1) (addr.toNat - storeBase) (.amo .sc 2 (d.zeroExtend 64) 0#64) ∧
    s.mayWrite (core.val + 1) (bankOf (addr.toNat - storeBase)) = true ∧
    (s.upset us).mark ((addr.toNat - storeBase) / 8) = none) 1 0x10300044 9 [] (hub.setLr 1 (some 0xC001))) ∧
  ((fun (core : Fin 2) (addr : BitVec 32) (d : Word) (us : List Upset) (s : State) =>
    inStore addr.toNat = true ∧
    (s.upset us).serves (core.val + 1) (addr.toNat - storeBase) (.amo .sc 2 (d.zeroExtend 64) 0#64) ∧
    s.mayWrite (core.val + 1) (bankOf (addr.toNat - storeBase)) = true ∧
    (s.upset us).mark ((addr.toNat - storeBase) / 8) = none) 1 0x10300044 9 [] (hub.setLr 1 (some 0xC002))) ∧
  ((fun (core : Fin 2) (addr : BitVec 32) (op : AmoOp) (d : Word) (us : List Upset) (s : State) =>
    op ≠ .lr ∧ op ≠ .sc ∧ op ≠ .cas ∧ inStore addr.toNat = true ∧
    (s.upset us).serves (core.val + 1) (addr.toNat - storeBase) (.amo op 2 (d.zeroExtend 64) 0#64) ∧
    s.mayWrite (core.val + 1) (bankOf (addr.toNat - storeBase)) = true ∧
    (s.upset us).mark ((addr.toNat - storeBase) / 8) = none) 1 0x10300044 .min 9 [] ((hub.setLr 0 (some 0xC001)).poke 0x300044 4 77)) ∧
  ((fun (core : Fin 2) (addr : BitVec 32) (op : AmoOp) (d : Word) (us : List Upset) (s : State) =>
    op ≠ .lr ∧ op ≠ .sc ∧ op ≠ .cas ∧ inStore addr.toNat = true ∧
    (s.upset us).serves (core.val + 1) (addr.toNat - storeBase) (.amo op 2 (d.zeroExtend 64) 0#64) ∧
    s.mayWrite (core.val + 1) (bankOf (addr.toNat - storeBase)) = true ∧
    (s.upset us).mark ((addr.toNat - storeBase) / 8) = none) 0 0x10300044 .add 0xFFFFFFFF [] ((hub.setLr 1 (some 0xC001)).poke 0x300044 4 77)) ∧
  ((fun (_core : Fin 2) (addr : BitVec 32) (op : AmoOp) (_d : Word) (_us : List Upset) (s : State) =>
    op ≠ .cas ∧ inStore addr.toNat = false ∧ (addr.toNat < 0x1000000 ∨ 0x80000000 ≤ addr.toNat) ∧ s.dark = false) 1 0x00000044 .add 9 [] hub) := by
  refine ⟨?_, ?_, ?_, ?_, ?_, ?_, ?_⟩ <;> decide +kernel

/-- The hypotheses of StoreUpkeep, clause 1 to 9, hold together. -/
theorem test_hyp_StoreUpkeep :
  ((fun (word : BitVec 20) (m : Mark) (s : State) =>
    s.mark word.toNat = some m ∧ m.wb = true ∧ m.uncorr = false ∧ s.bankShut (bankOf (8 * word.toNat)) = false ∧
    s.dark = false) 9 ⟨false, 5, true⟩ (hub.setMark 9 (some ⟨false, 5, true⟩))) ∧
  ((fun (us : List Upset) (s : State) =>
    (s.upset us).on MSA_SCRUB_EN = true ∧ (s.upset us).bankShut (bankOf (256 * s.store.scrub)) = false ∧
    s.dark = false ∧ (∀ i, i < 32 → (s.upset us).mark (32 * s.store.scrub + i) = none)) [] (hub.put MSA_SCRUB_EN 1)) ∧
  ((fun (us : List Upset) (s : State) =>
    (s.upset us).on MSA_SCRUB_EN = true ∧ (s.upset us).bankShut (bankOf (256 * s.store.scrub)) = false ∧
    s.dark = false ∧ (∀ i, i < 32 → (s.upset us).mark (32 * s.store.scrub + i) = none)) [] ({ hub.put MSA_SCRUB_EN 1 with store := { hub.store with scrub := 32767 } })) ∧
  ((fun (us : List Upset) (m : Mark) (s : State) =>
    (s.upset us).on MSA_SCRUB_EN = true ∧ s.roomy ∧ (s.upset us).bankShut (bankOf (256 * s.store.scrub)) = false ∧
    s.dark = false ∧ (s.upset us).mark (32 * s.store.scrub) = some m ∧ m.uncorr = true ∧
    (∀ i, i < 31 → (s.upset us).mark (32 * s.store.scrub + (i + 1)) = none)) [⟨0, true, 3⟩] ⟨true, 3, false⟩ (hub.put MSA_SCRUB_EN 1)) ∧
  ((fun (s : State) =>
    s.on MSA_SCRUB_EN = true ∧ s.dark = false ∧ s.store.late = false ∧ s.scrubLimit < s.sys.t - s.store.scrubT ∧
    s.roomy) ({ (hub.put MSA_SCRUB_EN 1).put MSA_SCRUB_INTERVAL 1 with sys := { hub.sys with t := 20000000 } })) ∧
  ((fun (s : State) =>
    s.on MSA_STAT_INIT_DONE = false ∧ s.store.wait = [] ∧ s.dark = false ∧ s.upTo = true ∧ s.tst.mbist = false) ((State.reset.put LPW_STAT_RAILS_OK 1).poke 0x40 4 77)) ∧
  ((fun (s : State) =>
    s.on MSA_STAT_ZEROING = true ∧ s.store.wait = [] ∧ s.dark = false) ({ ((hub.put MSA_STAT_ZEROING 1).poke 0x40 4 77).poke 0x80040 4 78 with store := { hub.store with zeroing := 2 } })) ∧
  ((fun (g : Fin 14) (_clear : Bool) (_c _e : BitVec 48) (s : State) =>
    s.inReset (blkOf (snapReg g.val)) = false ∧ s.dark = false ∧ (g.val = 13 → s.d2dLost = false)) 0 true 5 1 ((hub.setCnt MSA_ECC_CE 7).setCnt MSA_ECC_UE 9)) ∧
  ((fun (g : Fin 14) (_clear : Bool) (_c _e : BitVec 48) (s : State) =>
    s.inReset (blkOf (snapReg g.val)) = false ∧ s.dark = false ∧ (g.val = 13 → s.d2dLost = false)) 3 false 5 1 ((hub.setCnt (LANE_DOWNS 2) 7).setCnt MSA_ECC_UE 9)) ∧
  ((fun (g : Fin 14) (_clear : Bool) (_c _e : BitVec 48) (s : State) =>
    s.inReset (blkOf (snapReg g.val)) = false ∧ s.dark = false ∧ (g.val = 13 → s.d2dLost = false)) 3 true 5 1 ((hub.setCnt (LANE_PAT_BITS 2) 7).put (LANE_PAT_STAT_CHK_LOCK 2) 1)) ∧
  ((fun (_clear : Bool) (_c _e : BitVec 48) (s : State) =>
    s.d2dLost = true) true 5 1 ({ hub with d2dLost := true })) := by
  refine ⟨?_, ?_, ?_, ?_, ?_, ?_, ?_, ?_, ?_, ?_, ?_⟩ <;> decide +kernel

/-- The hypotheses of StoreArbitration, clause 1 to 3, hold together. -/
theorem test_hyp_StoreArbitration :
  ((fun (bank : Fin 16) (req : Fin 8) (s : State) =>
    s.highPrio req.val = false ∧ (s.store.wait.any fun x => bankOf x.off == bank.val && x.req == req.val) = true ∧
    s.store.promo.contains (bank.val, req.val) = false ∧ s.dark = false) 6 2 ({ hub with store := { hub.store with wait := [⟨2, 0x300040, .read 2, .cmd⟩] } }.put MSA_PRIO_HIGH 0)) ∧
  ((fun (bank : Fin 16) (u : Burst) (x : Acc) (s : State) =>
    (s.bank bank.val).burst = some u ∧ u.req < 8 ∧ s.roomy ∧ s.store.wait = [x] ∧ bankOf x.off = bank.val ∧
    x.req ≠ u.req ∧ s.bankZeroing bank.val = true ∧ s.dark = false) 6 ⟨5, 0x300040, 0x300060, 1⟩ ⟨2, 0x300040, .read 2, .cmd⟩ ({ hub.setBank 6 ⟨5, 0, 5, some ⟨5, 0x300040, 0x300060, 1⟩, none⟩ with store := { (hub.setBank 6 ⟨5, 0, 5, some ⟨5, 0x300040, 0x300060, 1⟩, none⟩).store with wait := [⟨2, 0x300040, .read 2, .cmd⟩], zeroing := 64 } })) ∧
  ((fun (bank : Fin 16) (u : Burst) (x : Acc) (z : Fin 4) (s : State) =>
    (s.bank bank.val).burst = some u ∧ u.req < 8 ∧ s.roomy ∧ s.store.wait = [x] ∧ x.form = .read z ∧ x.src = .cmd ∧
    bankOf x.off = bank.val ∧ x.req ≠ u.req ∧ x.req < 8 ∧ s.bankZeroing bank.val = false ∧ s.midBurst x.req = false ∧
    s.dark = false ∧ (∀ b < 16, b ≠ bank.val → (s.bank b).burst = none) ∧ s.bankCtl bank.val MSA_ARBCTL_LOCKOUT = 0 ∧
    s.mark (x.off / 8) = none) 6 ⟨5, 0x300040, 0x300060, 1⟩ ⟨2, 0x300040, .read 2, .cmd⟩ 2 ({ hub.setBank 6 ⟨5, 0, 5, some ⟨5, 0x300040, 0x300060, 1⟩, none⟩ with store := { (hub.setBank 6 ⟨5, 0, 5, some ⟨5, 0x300040, 0x300060, 1⟩, none⟩).store with wait := [⟨2, 0x300040, .read 2, .cmd⟩] } })) := by
  refine ⟨?_, ?_, ?_⟩ <;> decide +kernel

end C01

namespace C03

def run : State := ((((hub.put MPC_MODE_CUR 2).put MPC_MODE_BOOTING 0).put (INTC_ROUTE_TGT 8) 2))
def isl : State := (run.put RED_STAT_CW 1).put RED_STAT_CCW 1
def rec (s : State) : State := { s with sys := { s.sys with recordOn := true } }

/-- The hypotheses of ModeRequests, clause 1 to 7, hold together. -/
theorem test_hyp_ModeRequests :
  ((fun (w : Word) (_who : Who) (code : Nat) (s : State) =>
    s.dark = false ∧ s.inReset 0x01 = false ∧ s.mode ≠ 1 ∧
    (s.on MPC_MODE_FTEST = true ∧ code = 0x07 ∨
      s.on MPC_MODE_FTEST = false ∧ 6 ≤ wordField w 0 3 ∧ code = 0x06 ∨
      s.on MPC_MODE_FTEST = false ∧ wordField w 0 3 < 6 ∧ s.on MPC_MODE_TRANS = true ∧ code = 0x02 ∨
      s.on MPC_MODE_FTEST = false ∧ wordField w 0 3 < 6 ∧ s.on MPC_MODE_TRANS = false ∧ w.getLsbD 4 = true ∧ s.rpe.floor = 1 ∧
        code = 0x03)) 2 ⟨0, 5, 0⟩ 7 (hub.put MPC_MODE_FTEST 1)) ∧
  ((fun (w : Word) (_who : Who) (code : Nat) (s : State) =>
    s.dark = false ∧ s.inReset 0x01 = false ∧ s.mode ≠ 1 ∧
    (s.on MPC_MODE_FTEST = true ∧ code = 0x07 ∨
      s.on MPC_MODE_FTEST = false ∧ 6 ≤ wordField w 0 3 ∧ code = 0x06 ∨
      s.on MPC_MODE_FTEST = false ∧ wordField w 0 3 < 6 ∧ s.on MPC_MODE_TRANS = true ∧ code = 0x02 ∨
      s.on MPC_MODE_FTEST = false ∧ wordField w 0 3 < 6 ∧ s.on MPC_MODE_TRANS = false ∧ w.getLsbD 4 = true ∧ s.rpe.floor = 1 ∧
        code = 0x03)) 2 ⟨0, 5, 0⟩ 2 (hub.put MPC_MODE_TRANS 1)) ∧
  ((fun (w : Word) (_who : Who) (code : Nat) (s : State) =>
    s.dark = false ∧ s.inReset 0x01 = false ∧ s.mode ≠ 1 ∧
    (s.on MPC_MODE_FTEST = true ∧ code = 0x07 ∨
      s.on MPC_MODE_FTEST = false ∧ 6 ≤ wordField w 0 3 ∧ code = 0x06 ∨
      s.on MPC_MODE_FTEST = false ∧ wordField w 0 3 < 6 ∧ s.on MPC_MODE_TRANS = true ∧ code = 0x02 ∨
      s.on MPC_MODE_FTEST = false ∧ wordField w 0 3 < 6 ∧ s.on MPC_MODE_TRANS = false ∧ w.getLsbD 4 = true ∧ s.rpe.floor = 1 ∧
        code = 0x03)) 0x15 ⟨0, 5, 0⟩ 3 run) ∧
  ((fun (w : Word) (who : Who) (code : Nat) (s : State) =>
    s.dark = false ∧ s.inReset 0x01 = false ∧ s.mode ≠ 1 ∧ s.on MPC_MODE_FTEST = false ∧ wordField w 0 3 < 6 ∧
    s.on MPC_MODE_TRANS = false ∧ (w.getLsbD 4 = false ∨ s.rpe.floor ≠ 1) ∧
    (wordField w 0 3 ∈ [0, 1, 4] ∧ code = 0x01 ∨
      s.mode = 4 ∧ wordField w 0 3 = 2 ∧ (who.node.toNat ≠ 0 ∨ s.master = false) ∧ code = 0x01 ∨
      s.mode = 4 ∧ wordField w 0 3 ≠ 2 ∧ code = 0x01 ∨
      wordField w 0 3 ∈ [3, 5] ∧ ¬s.admits who (wordField w 0 3) ∧ code = 0x01 ∨
      s.master = false ∧ code = 0x01 ∨
      s.master = true ∧ s.mode ∈ [3, 5] ∧ wordField w 0 3 = 2 ∧ s.sys.recordOn = false ∧ code = 0x04 ∨
      s.master = true ∧ s.mode ∈ [3, 5] ∧ wordField w 0 3 = 2 ∧ s.sys.recordOn = true ∧ s.listed = false ∧ code = 0x05 ∨
      s.mode = 5 ∧ s.on MPC_MODE_BOOTING = true ∧ s.linkIn = false ∧ wordField w 0 3 = 2 ∧ s.sys.recordOn = true ∧ s.listed = true ∧
        code = 0x01)) 1 ⟨0, 5, 0⟩ 1 run) ∧
  ((fun (w : Word) (who : Who) (code : Nat) (s : State) =>
    s.dark = false ∧ s.inReset 0x01 = false ∧ s.mode ≠ 1 ∧ s.on MPC_MODE_FTEST = false ∧ wordField w 0 3 < 6 ∧
    s.on MPC_MODE_TRANS = false ∧ (w.getLsbD 4 = false ∨ s.rpe.floor ≠ 1) ∧
    (wordField w 0 3 ∈ [0, 1, 4] ∧ code = 0x01 ∨
      s.mode = 4 ∧ wordField w 0 3 = 2 ∧ (who.node.toNat ≠ 0 ∨ s.master = false) ∧ code = 0x01 ∨
      s.mode = 4 ∧ wordField w 0 3 ≠ 2 ∧ code = 0x01 ∨
      wordField w 0 3 ∈ [3, 5] ∧ ¬s.admits who (wordField w 0 3) ∧ code = 0x01 ∨
      s.master = false ∧ code = 0x01 ∨
      s.master = true ∧ s.mode ∈ [3, 5] ∧ wordField w 0 3 = 2 ∧ s.sys.recordOn = false ∧ code = 0x04 ∨
      s.master = true ∧ s.mode ∈ [3, 5] ∧ wordField w 0 3 = 2 ∧ s.sys.recordOn = true ∧ s.listed = false ∧ code = 0x05 ∨
      s.mode = 5 ∧ s.on MPC_MODE_BOOTING = true ∧ s.linkIn = false ∧ wordField w 0 3 = 2 ∧ s.sys.recordOn = true ∧ s.listed = true ∧
        code = 0x01)) 2 ⟨0, 5, 0⟩ 4 hub) ∧
  ((fun (w : Word) (who : Who) (code : Nat) (s : State) =>
    s.dark = false ∧ s.inReset 0x01 = false ∧ s.mode ≠ 1 ∧ s.on MPC_MODE_FTEST = false ∧ wordField w 0 3 < 6 ∧
    s.on MPC_MODE_TRANS = false ∧ (w.getLsbD 4 = false ∨ s.rpe.floor ≠ 1) ∧
    (wordField w 0 3 ∈ [0, 1, 4] ∧ code = 0x01 ∨
      s.mode = 4 ∧ wordField w 0 3 = 2 ∧ (who.node.toNat ≠ 0 ∨ s.master = false) ∧ code = 0x01 ∨
      s.mode = 4 ∧ wordField w 0 3 ≠ 2 ∧ code = 0x01 ∨
      wordField w 0 3 ∈ [3, 5] ∧ ¬s.admits who (wordField w 0 3) ∧ code = 0x01 ∨
      s.master = false ∧ code = 0x01 ∨
      s.master = true ∧ s.mode ∈ [3, 5] ∧ wordField w 0 3 = 2 ∧ s.sys.recordOn = false ∧ code = 0x04 ∨
      s.master = true ∧ s.mode ∈ [3, 5] ∧ wordField w 0 3 = 2 ∧ s.sys.recordOn = true ∧ s.listed = false ∧ code = 0x05 ∨
      s.mode = 5 ∧ s.on MPC_MODE_BOOTING = true ∧ s.linkIn = false ∧ wordField w 0 3 = 2 ∧ s.sys.recordOn = true ∧ s.listed = true ∧
        code = 0x01)) 5 ⟨0, 5, 0⟩ 1 (run.put ID_STRAP_STACK_ID 1)) ∧
  ((fun (w : Word) (who : Who) (s : State) =>
    s.dark = false ∧ s.inReset 0x01 = false ∧ s.on MPC_MODE_FTEST = false ∧ s.on MPC_MODE_TRANS = false ∧
    (s.mode = 2 ∧ s.admits who (wordField w 0 3) ∨ s.mode = 3 ∧ wordField w 0 3 = 5 ∧ s.admits who 5 ∨
      s.mode = 5 ∧ wordField w 0 3 = 2 ∧ s.master = true ∧ s.sys.recordOn = true ∧ s.listed = true ∧
        (s.on MPC_MODE_BOOTING = false ∨ s.linkIn = true)) ∧
    w.getLsbD 4 = false) 5 ⟨0, 5, 0⟩ run) ∧
  ((fun (w : Word) (who : Who) (s : State) =>
    s.dark = false ∧ s.inReset 0x01 = false ∧ s.on MPC_MODE_FTEST = false ∧ s.on MPC_MODE_TRANS = false ∧
    (s.mode = 2 ∧ s.admits who (wordField w 0 3) ∨ s.mode = 3 ∧ wordField w 0 3 = 5 ∧ s.admits who 5 ∨
      s.mode = 5 ∧ wordField w 0 3 = 2 ∧ s.master = true ∧ s.sys.recordOn = true ∧ s.listed = true ∧
        (s.on MPC_MODE_BOOTING = false ∨ s.linkIn = true)) ∧
    w.getLsbD 4 = false) 3 ⟨0, 5, 0⟩ ({ run with sys := { run.sys with cores := true } })) ∧
  ((fun (w : Word) (who : Who) (s : State) =>
    s.dark = false ∧ s.inReset 0x01 = false ∧ s.on MPC_MODE_FTEST = false ∧ s.on MPC_MODE_TRANS = false ∧
    s.mode = 2 ∧ s.admits who (wordField w 0 3) ∧ w.getLsbD 4 = true ∧ s.rpe.floor ≠ 1 ∧ s.now ≤ s.rd64 MPC_REQ_T) 0x15 ⟨0, 5, 0⟩ ({ run.wr64 MPC_REQ_T 77 with rpe := { run.rpe with floor := 2 } })) ∧
  ((fun (w : Word) (who : Who) (s : State) =>
    s.dark = false ∧ s.inReset 0x01 = false ∧ s.on MPC_MODE_FTEST = false ∧ s.on MPC_MODE_TRANS = false ∧
    s.mode = 2 ∧ s.admits who (wordField w 0 3) ∧ w.getLsbD 4 = true ∧ s.rpe.floor ≠ 1 ∧ s.rd64 MPC_REQ_T < s.now) 0x15 ⟨0, 5, 0⟩ ({ (run.wr64 TIME_SPINDLE 77).wr64 MPC_REQ_T 5 with rpe := { run.rpe with floor := 2 } })) ∧
  ((fun (w : Word) (who : Who) (s : State) =>
    s.dark = false ∧ s.inReset 0x01 = false ∧ s.on MPC_MODE_FTEST = false ∧ s.on MPC_MODE_TRANS = false ∧
    s.mode = 4 ∧ wordField w 0 3 = 2 ∧ who.node = 0x00#8 ∧ s.master = true ∧
    (w.getLsbD 4 = false ∨ s.rpe.floor ≠ 1 ∧ s.now ≤ s.rd64 MPC_REQ_T)) 2 ⟨0, 0, 0⟩ ((run.put MPC_MODE_CUR 4).put MPC_ISLAND_PLAY 1)) ∧
  ((fun (w : Word) (_who : Who) (s : State) =>
    s.dark = false ∧ s.inReset 0x01 = false ∧ s.on MPC_MODE_FTEST = false ∧ s.on MPC_MODE_TRANS = false ∧
    s.mode = 1 ∧ wordField w 0 3 = 2 ∧ w.getLsbD 4 = false ∧ s.sys.recordOn = true ∧ s.listed = true ∧ s.master = true) 2 ⟨0, 0, 0⟩ (rec (run.put MPC_MODE_CUR 1))) := by
  refine ⟨?_, ?_, ?_, ?_, ?_, ?_, ?_, ?_, ?_, ?_, ?_, ?_⟩ <;> decide +kernel

/-- The hypotheses of ModeTransitions, clause 1 to 12, hold together. -/
theorem test_hyp_ModeTransitions_1 :
  ((fun (t0 : Nat) (s : State) =>
    s.toBoundary.mode = 2 ∧ s.toBoundary.on MPC_MODE_TRANS = false ∧ s.upd.act = false ∧ s.sys.hand = false ∧
    s.master = true ∧ s.on MPC_MODE_FTEST = false ∧ s.sys.req = some (5, t0) ∧ t0 ≤ s.toBoundary.now ∧
    s.get RED_TWIN_STAT_STATE ≠ 2 ∧ s.sys.waitRun = false ∧ s.sys.heldIsl = none ∧ s.sys.heldMode = none) 0 ({ run.wr64 TIME_SPINDLE 77 with sys := { run.sys with req := some (5, 0) } })) ∧
  ((fun (s : State) =>
    s.toBoundary.bootDone = true ∧ s.toBoundary.on MPC_MODE_TRANS = false ∧ s.upd.act = false ∧ s.sys.hand = false ∧
    s.sys.req = none ∧ s.sys.woke = none ∧ s.sys.heldIsl = none ∧ s.sys.heldMode = none) (rec ((hub.put MPC_MODE_BOOTING 1).put RED_STAT_CW 0))) ∧
  ((fun (t0 : Nat) (s : State) =>
    s.toBoundary.mode = 2 ∧ s.toBoundary.on MPC_MODE_TRANS = false ∧ s.sys.req = some (5, t0) ∧ s.master = true ∧
    s.on MPC_MODE_FTEST = false ∧ 0 < t0 ∧ t0 ≤ s.toBoundary.now ∧ s.get RED_TWIN_STAT_STATE ≠ 2 ∧
    s.sys.waitRun = false ∧ s.sys.heldIsl = none ∧ s.sys.heldMode = none) 31250 ({ run.wr64 TIME_SPINDLE 77 with sys := { run.sys with req := some (5, 31250) } })) ∧
  ((fun (src : Fin 20) (s : State) =>
    src.val ≠ 0 ∧ s.mode = 1 ∧ s.master = true ∧ s.on MPC_MODE_TRANS = false ∧
    (s.rd MPC_WAKE_EN).getLsbD src.val = true) 9 (run.put MPC_MODE_CUR 1)) ∧
  ((fun (_quiet : BitVec 2) (s : State) =>
    s.sys.recordOn = true ∧ s.sys.retrain = false ∧ s.sys.dormT = false ∧ s.master = true ∧ s.dirLost 0 = true ∧
    s.dirLost 1 = true ∧ s.on MPC_MODE_FTEST = false ∧ s.on MPC_MODE_TRANS = false ∧ s.mode ∈ [1, 2, 3, 5]) 0 (rec isl)) ∧
  ((fun (_quiet : BitVec 2) (s : State) =>
    s.sys.recordOn = true ∧ s.sys.retrain = false ∧ s.sys.dormT = false ∧ s.master = true ∧ s.dirLost 0 = true ∧
    s.dirLost 1 = true ∧ s.on MPC_MODE_FTEST = true) 0 (rec (isl.put MPC_MODE_FTEST 1))) ∧
  ((fun (s : State) =>
    s.toBoundary.mode = 4 ∧ s.toBoundary.on MPC_MODE_TRANS = false ∧ s.toBoundary.linkIn = true ∧ s.master = true ∧
    s.listed = true ∧ s.on MPC_ISLAND_PLAY = false ∧ s.sys.heldIsl = none ∧ s.sys.heldMode = none ∧
    s.sys.heldWake = 0 ∧ s.sys.waitRun = true) ({ (run.put MPC_MODE_CUR 4).put RED_STAT_CW 0 with sys := { run.sys with waitRun := true } })) ∧
  ((fun (s : State) =>
    s.tst.abort ≠ 0 ∧ s.mode = 3 ∧ s.get TST_PSTAT_STATE = 1 ∧ s.roomy ∧ s.tst.lanes = 0 ∧ s.tst.force = none) ({ (run.put MPC_MODE_CUR 3).put TST_PSTAT_STATE 1 with tst := { run.tst with abort := 1 } })) ∧
  ((fun (s : State) =>
    s.dark = false ∧ s.inReset 0x01 = false ∧ s.mode = 5 ∧ s.on ID_STRAP_TESTMODE = true) (hub.put ID_STRAP_TESTMODE 1)) ∧
  ((fun (t0 : Nat) (s : State) =>
    s.dark = false ∧ s.inReset 0x01 = false ∧ s.mode = 5 ∧ s.on ID_STRAP_TESTMODE = true ∧ s.sys.ftKey = some t0 ∧
    s.sys.t ≤ t0 + 250000) 7 ({ hub.put ID_STRAP_TESTMODE 1 with sys := { hub.sys with ftKey := some 7, t := 9 } })) ∧
  ((fun (v : Word) (s : State) =>
    s.dark = false ∧ s.inReset 0x01 = false ∧ v ≠ 0x5A3C#32 ∧ (s.sys.ftKey = none ∨ v ≠ 0xC3A5#32 ∨ s.mode ≠ 5)) 7 (hub.put ID_STRAP_TESTMODE 1)) ∧
  ((fun (mode : Fin 6) (s : State) =>
    s.master = false ∧ s.laneUp 3 = true ∧ s.on MPC_MODE_TRANS = false ∧ s.on MPC_MODE_FTEST = false ∧
    s.mode ∈ [1, 2, 5] ∧ mode.val ∈ [4, 5] ∧ s.mode ≠ mode.val ∧ s.sys.recordOn = true ∧ s.sys.heldIsl = none ∧
    s.sys.heldMode = none) 4 (rec ((run.put ID_STRAP_STACK_ID 1).put (LANE_STAT_UP 3) 1))) := by
  refine ⟨?_, ?_, ?_, ?_, ?_, ?_, ?_, ?_, ?_, ?_, ?_, ?_⟩ <;> decide +kernel

/-- The hypotheses of ModeTransitions, clause 13 to 15, hold together. -/
theorem test_hyp_ModeTransitions_2 :
  ((fun (s : State) =>
    s.sys.retrain = true ∧ s.laneUp 0 = true ∧ s.laneUp 1 = true) ({ (run.put (LANE_STAT_UP 0) 1).put (LANE_STAT_UP 1) 1 with sys := { run.sys with retrain := true } })) ∧
  ((fun (s : State) =>
    s.sys.retrain = true ∧ s.laneUp 0 = false ∧ s.laneUp 1 = true ∧ s.dirState 0 = 3 ∧ s.sys.dormT = false) ({ ((run.put (LANE_STAT_UP 1) 1).put RED_STAT_CW 3).put (LANE_STAT_DOWN_CAUSE 0) 2 with sys := { run.sys with retrain := true } })) ∧
  ((fun (s : State) =>
    s.rd MPC_WAKE_TIMER ≠ 0#32 ∧ s.lpw.aon = true ∧ s.master = true ∧ s.on MPC_WAKE_EN_TIMER = true ∧ s.mode = 1 ∧
    s.on MPC_MODE_TRANS = false) (((run.put MPC_MODE_CUR 1).put MPC_WAKE_EN_TIMER 1).wr MPC_WAKE_TIMER 5)) := by
  refine ⟨?_, ?_, ?_⟩ <;> decide +kernel

/-- The hypotheses of DormantMode, clause 1 to 5, hold together. -/
theorem test_hyp_DormantMode :
  ((fun (s : State) =>
    s.sys.dormT = true ∧ s.sys.heldWake = 0) ({ (run.put LPW_SEQ_STAT_PEN 15).put (LANE_STAT_UP 1) 1 with sys := { run.sys with dormT := true } })) ∧
  ((fun (_lane : Fin 4) (s : State) =>
    s.mode = 0) 2 (run.put MPC_MODE_CUR 0)) ∧
  ((fun (_lane : Fin 4) (s : State) =>
    s.mode = 0 ∧ s.on MPC_WAKE_EN_LANE = true) 2 (run.put MPC_MODE_CUR 0)) ∧
  ((fun (src : Fin 20) (lane : Fin 4) (s : State) =>
    s.mode = 0 ∧ s.lpw.aon = true ∧ (s.rd MPC_WAKE_EN).getLsbD src.val = true ∧
    (src.val = 0 ∧ s.sys.laneArm.testBit lane.val = true ∨ src.val = 2 ∧ s.rd MPC_WAKE_TIMER ≠ 0#32 ∨ src.val = 3 ∨
      8 ≤ src.val ∧ src.val < 16 ∧ s.sciWakes (src.val - 8) = true ∨ 16 ≤ src.val ∧ s.getBit MPC_DORM_PEN_KEEP 3 = true)) 9 2 ((((run.put MPC_MODE_CUR 0).put (LSV_SCI_CFG_EN 1) 1).put (LSV_SCI_STAT_STATE 1) 2).wr MPC_WAKE_EN 0xFFFFF)) ∧
  ((fun (src : Fin 20) (lane : Fin 4) (s : State) =>
    s.mode = 0 ∧ s.lpw.aon = true ∧ (s.rd MPC_WAKE_EN).getLsbD src.val = true ∧
    (src.val = 0 ∧ s.sys.laneArm.testBit lane.val = true ∨ src.val = 2 ∧ s.rd MPC_WAKE_TIMER ≠ 0#32 ∨ src.val = 3 ∨
      8 ≤ src.val ∧ src.val < 16 ∧ s.sciWakes (src.val - 8) = true ∨ 16 ≤ src.val ∧ s.getBit MPC_DORM_PEN_KEEP 3 = true)) 16 2 (((run.put MPC_MODE_CUR 0).put MPC_DORM_PEN_KEEP 9).wr MPC_WAKE_EN 0xFFFFF)) ∧
  ((fun (src : Fin 20) (lane : Fin 4) (s : State) =>
    s.mode = 0 ∧ s.lpw.aon = true ∧ (s.rd MPC_WAKE_EN).getLsbD src.val = true ∧
    (src.val = 0 ∧ s.sys.laneArm.testBit lane.val = true ∨ src.val = 2 ∧ s.rd MPC_WAKE_TIMER ≠ 0#32 ∨ src.val = 3 ∨
      8 ≤ src.val ∧ src.val < 16 ∧ s.sciWakes (src.val - 8) = true ∨ 16 ≤ src.val ∧ s.getBit MPC_DORM_PEN_KEEP 3 = true)) 2 2 (((run.put MPC_MODE_CUR 0).put MPC_WAKE_EN_TIMER 1).wr MPC_WAKE_TIMER 7)) ∧
  ((fun (lane : Fin 4) (s : State) =>
    s.sys.wakePat.testBit lane.val = true ∧ s.sys.recordOn = true ∧ s.laneEn lane.val = true ∧
    s.laneHost lane.val = false ∧ s.inReset (laneBlk lane.val) = false ∧ s.trainSt lane.val = 0) 1 (rec ({ run.put (LANE_CTL_ENABLE 1) 1 with sys := { run.sys with wakePat := 7 } }))) := by
  refine ⟨?_, ?_, ?_, ?_, ?_, ?_, ?_⟩ <;> decide +kernel

end C03

namespace C04

/-- The hypotheses of UnitResetSteps, clause 1 to 11, hold together. -/
theorem test_hyp_UnitResetSteps_1 :
  ((fun (unit : BitVec 8) (s : State) =>
    s.dark = false ∧ s.inReset 0x02 = false ∧ unitOk unit.toNat = true ∧ (unit.toNat < 0x08 ∨ 0x0B < unit.toNat) ∧
    s.sameCycle = none ∧ s.unitOf unit.toNat = none) 0x10 hub) ∧
  ((fun (unit : BitVec 8) (x : UnitSt) (s : State) =>
    s.dark = false ∧ s.inReset 0x02 = false ∧ unitOk unit.toNat = true ∧ s.sameCycle = none ∧
    s.unitOf unit.toNat = some x ∧ x.cyc ≠ s.slowCycle ∧ x.phase = 1) 0x10 ⟨1, 6, false, 3, 16, 7⟩ (hub.setUnit 0x10 (some ⟨1, 6, false, 3, 16, 7⟩))) ∧
  ((fun (unit : BitVec 8) (s : State) =>
    s.dark = false ∧ s.inReset 0x02 = false ∧ unitOk unit.toNat = false ∧ unit.toNat ≠ 0xFE ∧ s.roomy) 0x01 hub) ∧
  ((fun (_unit : BitVec 8) (key : BitVec 16) (s : State) =>
    s.dark = false ∧ s.inReset 0x02 = false ∧ key ≠ 0xC0DE#16) 0x10 0 hub) ∧
  ((fun (unit : BitVec 8) (x : UnitSt) (s : State) =>
    unitOk unit.toNat = true ∧ s.unitOf unit.toNat = some x ∧ x.phase = 1) 0x10 ⟨1, 6, false, 3, 16, 7⟩ (hub.setUnit 0x10 (some ⟨1, 6, false, 3, 16, 7⟩))) ∧
  ((fun (unit : BitVec 8) (x : UnitSt) (s : State) =>
    unitOk unit.toNat = true ∧ s.unitOf unit.toNat = some x ∧ x.phase = 1) 0x41 ⟨1, 6, false, 3, 16, 7⟩ (hub.setUnit 0x41 (some ⟨1, 6, false, 3, 16, 7⟩))) ∧
  ((fun (x : UnitSt) (s : State) =>
    s.unitOf 0x05 = some x ∧ x.phase = 1 ∧ s.entryUnit ((s.get RSTC_LOG_HEAD_NEXT + 15) % 16) x.cyc = none) ⟨1, 6, false, 3, 16, 7⟩ ((hub.setUnit 0x05 (some ⟨1, 6, false, 3, 16, 7⟩)).put RSTC_LOG_HEAD_NEXT 15)) ∧
  ((fun (x : UnitSt) (s : State) =>
    s.unitOf 0x40 = some x ∧ x.phase = 1 ∧ s.roomy ∧ s.entryUnit ((s.get RSTC_LOG_HEAD_NEXT + 16) % 16) x.cyc = none) ⟨1, 6, false, 3, 16, 7⟩ ((hub.setUnit 0x40 (some ⟨1, 6, false, 3, 16, 7⟩)).put RSTC_LOG_HEAD_NEXT 15)) ∧
  ((fun (unit : BitVec 8) (x : UnitSt) (s : State) =>
    unit ≠ 0xFE#8 ∧ s.unitOf unit.toNat = some x ∧ x.phase = 2) 0x41 ⟨2, 6, false, 3, 16, 7⟩ (hub.setUnit 0x41 (some ⟨2, 6, false, 3, 16, 7⟩))) ∧
  ((fun (s : State) =>
    s.sys.die = some 2) ({ hub with sys := { hub.sys with die := some 2 } })) ∧
  ((fun (s : State) =>
    s.sys.die = some 3 ∧ s.sys.refclk = true ∧ s.on LPW_STAT_RAILS_OK = true ∧ s.sys.strapDue = false) ({ hub with sys := { hub.sys with die := some 3 } })) ∧
  ((fun (x : UnitSt) (s : State) =>
    s.unitOf 0x05 = some x ∧ x.phase = 3 ∧ (s.sys.refclk = true ∨ s.on TIME_STAT_REF = true)) ⟨3, 6, false, 3, 16, 7⟩ ((hub.setUnit 0x05 (some ⟨3, 6, false, 3, 16, 7⟩)).setInrst 5 true)) := by
  refine ⟨?_, ?_, ?_, ?_, ?_, ?_, ?_, ?_, ?_, ?_, ?_, ?_⟩ <;> decide +kernel

/-- The hypotheses of UnitResetSteps, clause 12, hold together. -/
theorem test_hyp_UnitResetSteps_2 :
  ((fun (unit : BitVec 8) (x : UnitSt) (s : State) =>
    unit.toNat < 25 ∧ s.unitOf unit.toNat = some x ∧ x.phase = 3 ∧ s.roomy) 0x0C ⟨3, 6, false, 3, 15, 7⟩ (((hub.setUnit 0x0C (some ⟨3, 6, false, 3, 15, 7⟩)).setInrst 0x0C true).put RSTC_LOG_HEAD_NEXT 15)) := by
  decide +kernel

/-- The hypotheses of WarmAndPowerOnReset, clause 1 to 6, hold together. -/
theorem test_hyp_WarmAndPowerOnReset :
  ((fun (s : State) =>
    s.get MPC_MODE_CUR ≠ 0 ∧ s.lpw.aon = true ∧ s.sameCycle = none) ((((hub.poke 0x40 4 77).put MPC_MODE_CUR 2).put LPW_VBUS_IN 1).put MSA_PRIO_HIGH 3)) ∧
  ((fun (s : State) =>
    s.get MPC_MODE_CUR = 0 ∧ s.lpw.aon = true ∧ s.sameCycle = none) (((hub.poke 0x40 4 77).put MPC_MODE_CUR 0).put MSA_PRIO_HIGH 3)) ∧
  ((fun (t0 : Nat) (s : State) =>
    s.upd.trial = some t0 ∧ s.get MPC_MODE_CUR ≠ 0 ∧ (∀ r, s.upd.run = some r → r.op ≠ 8) ∧ s.lpw.aon = true ∧
    s.sameCycle = none) 7 ({ hub.put MPC_MODE_CUR 2 with upd := { hub.upd with trial := some 7 } })) ∧
  ((fun (s : State) =>
    s.dark = false ∧ s.inReset 0x02 = false ∧ s.lpw.aon = true ∧ s.sameCycle = none) (hub.put MPC_MODE_CUR 2)) ∧
  ((fun (n : Fin 2) (s : State) =>
    s.lpw.aon = true ∧ s.sameCycle = none ∧ s.wdCounts n.val = true ∧ s.on (RSTC_WDOG_CNT_WARNED n.val) = true ∧
    s.on (RSTC_WDOG_CTL_SCOPE n.val) = false) 1 (((hub.put MPC_MODE_CUR 2).put (RSTC_WDOG_CTL_EN 1) 1).put (RSTC_WDOG_CNT_WARNED 1) 1)) := by
  refine ⟨?_, ?_, ?_, ?_, ?_⟩ <;> decide +kernel

/-- The hypotheses of Watchdogs, clause 1 to 7, hold together. -/
theorem test_hyp_Watchdogs :
  ((fun (n : Fin 2) (ctl : Word) (s : State) =>
    s.dark = false ∧ s.inReset 0x02 = false ∧ s.on (RSTC_WDOG_CTL_EN n.val) = false ∧ ctl.getLsbD 0 = true) 1 0x00070003 hub) ∧
  ((fun (n : Fin 2) (_ctl : Word) (s : State) =>
    s.dark = false ∧ s.inReset 0x02 = false ∧ s.on (RSTC_WDOG_CTL_EN n.val) = true) 1 0x00070002 (hub.put (RSTC_WDOG_CTL_EN 1) 1)) ∧
  ((fun (n : Fin 2) (s : State) =>
    s.dark = false ∧ s.inReset 0x02 = false ∧ s.on (RSTC_WDOG_CTL_EN n.val) = true) 1 (hub.put (RSTC_WDOG_CTL_EN 1) 1)) ∧
  ((fun (n : Fin 2) (_v : Word) (s : State) =>
    s.dark = false ∧ s.inReset 0x02 = false ∧ s.on (RSTC_WDOG_CTL_EN n.val) = false) 1 3 hub) ∧
  ((fun (n : Fin 2) (v : Word) (s : State) =>
    s.dark = false ∧ s.inReset 0x02 = false ∧ s.on (RSTC_WDOG_CTL_EN n.val) = true ∧ v ≠ 0x6B1D#32 ∧
    s.on (RSTC_WDOG_CNT_WARNED n.val) = false ∧ s.roomy) 1 3 (hub.put (RSTC_WDOG_CTL_EN 1) 1)) ∧
  ((fun (n : Fin 2) (s : State) =>
    s.wdCounts n.val = true ∧ s.on (RSTC_WDOG_CNT_WARNED n.val) = false ∧ s.roomy ∧ s.inReset 0x06 = false ∧
    s.inReset 0x02 = false) 1 (((hub.put MPC_MODE_CUR 2).put (RSTC_WDOG_CTL_EN 1) 1).put (INTC_ROUTE_TGT 11) 3)) ∧
  ((fun (n : Fin 2) (s : State) =>
    s.wdCounts n.val = true ∧ s.on (RSTC_WDOG_CNT_WARNED n.val) = true ∧ s.on (RSTC_WDOG_CTL_SCOPE n.val) = true ∧
    s.sameCycle = none ∧ s.unitOf (0x40 + n.val) = none) 1 ((((hub.put MPC_MODE_CUR 2).put (RSTC_WDOG_CTL_EN 1) 1).put (RSTC_WDOG_CNT_WARNED 1) 1).put (RSTC_WDOG_CTL_SCOPE 1) 1)) := by
  refine ⟨?_, ?_, ?_, ?_, ?_, ?_, ?_⟩ <;> decide +kernel

/-- The hypotheses of RemoteReset, clause 1 to 6, hold together. -/
theorem test_hyp_RemoteReset :
  ((fun (_node : BitVec 8) (s : State) =>
    s.dark = false ∧ s.inReset 0x02 = false ∧ s.rd RSTC_AUTH ≠ 0#32 ∧ s.on RSTC_REMOTE_STAT_LOCKED = false) 7 (hub.wr RSTC_AUTH 5)) ∧
  ((fun (w : Word) (_node : BitVec 8) (s : State) =>
    s.dark = false ∧ s.inReset 0x02 = false ∧ s.rd RSTC_AUTH ≠ 0#32 ∧ s.on RSTC_REMOTE_STAT_LOCKED = false ∧
    w ≠ s.rd RSTC_AUTH) 6 7 (hub.wr RSTC_AUTH 5)) ∧
  ((fun (core : Fin 2) (node : BitVec 8) (t0 : Nat) (s : State) =>
    s.dark = false ∧ s.inReset 0x02 = false ∧ s.rd RSTC_AUTH ≠ 0#32 ∧ s.on RSTC_REMOTE_STAT_LOCKED = false ∧
    (t0, node.toNat) ∈ s.sys.auth ∧ s.sys.t ≤ t0 + 250000 ∧ s.sameCycle = none ∧ s.unitOf (0x40 + core.val) = none) 1 7 0 ({ hub.wr RSTC_AUTH 5 with sys := { hub.sys with auth := [(0, 7)], t := 250000 } })) ∧
  ((fun (_unit node : BitVec 8) (s : State) =>
    s.dark = false ∧ s.inReset 0x02 = false ∧ s.rd RSTC_AUTH ≠ 0#32 ∧ s.on RSTC_REMOTE_STAT_LOCKED = false ∧
    s.roomy ∧ (∀ a ∈ s.sys.auth, a.2 ≠ node.toNat ∨ a.1 + 250000 < s.sys.t) ∧ s.get RSTC_REMOTE_STAT_FAILS ≤ 4) 0x40 7 (({ hub.wr RSTC_AUTH 5 with sys := { hub.sys with auth := [(0, 7)], t := 250001 } } : State).put RSTC_REMOTE_STAT_FAILS 3)) ∧
  ((fun (_unit node : BitVec 8) (s : State) =>
    s.dark = false ∧ s.inReset 0x02 = false ∧ s.rd RSTC_AUTH ≠ 0#32 ∧ s.on RSTC_REMOTE_STAT_LOCKED = false ∧
    s.roomy ∧ (∀ a ∈ s.sys.auth, a.2 ≠ node.toNat ∨ a.1 + 250000 < s.sys.t) ∧ s.get RSTC_REMOTE_STAT_FAILS ≤ 4) 0x40 7 ({ hub.wr RSTC_AUTH 5 with sys := { hub.sys with auth := [(0, 8)], t := 2501 } })) ∧
  ((fun (_unit _node : BitVec 8) (_w : Word) (_b : Bool) (s : State) =>
    s.dark = false ∧ s.inReset 0x02 = false ∧ s.rd RSTC_AUTH ≠ 0#32 ∧ s.on RSTC_REMOTE_STAT_LOCKED = true ∧ s.roomy) 0x40 7 5 true ((hub.wr RSTC_AUTH 5).put RSTC_REMOTE_STAT_LOCKED 1)) ∧
  ((fun (_unit _node : BitVec 8) (_w : Word) (_b : Bool) (s : State) =>
    s.dark = false ∧ s.inReset 0x02 = false ∧ s.rd RSTC_AUTH = 0#32) 0x40 7 5 true hub) := by
  refine ⟨?_, ?_, ?_, ?_, ?_, ?_, ?_⟩ <;> decide +kernel

/-- The hypotheses of RemoteBroadcast, clause 1, hold together. -/
theorem test_hyp_RemoteBroadcast :
  ((fun (_unit _node : BitVec 8) (_w : Word) (s : State) =>
    s.dark = false ∧ s.inReset 0x02 = false ∧ s.rd RSTC_AUTH ≠ 0#32 ∧ s.on RSTC_REMOTE_STAT_LOCKED = false ∧
    s.roomy ∧ s.get RSTC_REMOTE_STAT_FAILS ≤ 4) 0x40 7 5 (hub.wr RSTC_AUTH 5)) := by
  decide +kernel

/-- The hypotheses of StrapsAndClocks, clause 2 to 8, hold together. -/
theorem test_hyp_StrapsAndClocks :
  ((fun (s : State) =>
    s.get LPW_SEQ_STAT_STATE = 1 ∧ s.nextPen = none ∧ s.groupsIn = true ∧ s.lpw.aon = true) (((hub.put LPW_SEQ_STAT_STATE 1).put LPW_SEQ_STAT_PEN 15).put LPW_SEQ_STAT_INWIN 15)) ∧
  ((fun (s : State) =>
    s.roomy ∧ (∀ l, l < 4 → s.on (LANE_STAT_HOSTMODE l) = false ∧ s.trainSt l < 2)) hub) ∧
  ((fun (s : State) =>
    (∀ l, l < 4 → s.laneUp l = true → s.trainSt l = 7 ∨ s.on (LANE_STAT_HOSTMODE l) = true)) (((hub.put (LANE_STAT_UP 1) 1).put (LANE_TRAIN_STATE 1) 7).put MPC_MODE_CUR 2)) ∧
  ((fun (s : State) =>
    s.roomy ∧ s.sys.refclk = false) ({ hub with sys := { hub.sys with refclk := false } })) ∧
  ((fun (s : State) =>
    s.sys.die = none ∧ (∀ e ∈ s.sys.units, e.2 = none)) hub) ∧
  ((fun (s : State) =>
    s.dark = false ∧ s.inReset 0x02 = false) (hub.put (RSTC_LOG_W0_CODE 3) 5)) := by
  refine ⟨?_, ?_, ?_, ?_, ?_, ?_⟩ <;> decide +kernel

end C04

namespace C05

def cs (n : Nat) : State := hub.put CFG_STAT_STATE n
def cw (n way at_ : Nat) : State := { cs n with cfg := { hub.cfg with way := way, at_ := at_ } }

/-- The check passes on the reset shadows. -/
theorem cs2_flaws : (cs 2).checkFlaws false = [] := by decide +kernel

/-- The check reads nothing of the commit unit's own record. -/
theorem checkFlaws_cfg (s : State) (c : CfgSt) : ({ s with cfg := c } : State).checkFlaws false = s.checkFlaws false := rfl

/-- Nor, but for a timed apply, of the record of the ring port. -/
theorem checkFlaws_cfg_rpe (s : State) (c : CfgSt) (r : RpeSt) :
    ({ s with cfg := c, rpe := r } : State).checkFlaws false = s.checkFlaws false := rfl

/-- A timed apply adds one check, of the floor. -/
theorem checkFlaws_timed (s : State) (h : s.rpe.floor ≠ 1) : s.checkFlaws true = s.checkFlaws false := by
  simp [State.checkFlaws, beq_eq_false_iff_ne.2 h]


/-- The hypotheses of CommitCommands, clause 1 to 12, hold together. -/
theorem test_hyp_CommitCommands_1 :
  ((fun (s : State) =>
    s.inReset 0x04 = false ∧ s.get CFG_STAT_STATE = 0) (cs 0)) ∧
  ((fun (s : State) =>
    s.inReset 0x04 = false ∧ s.get CFG_STAT_STATE = 1) (cs 1)) ∧
  ((fun (s : State) =>
    s.inReset 0x04 = false ∧ s.get CFG_STAT_STATE = 1 ∧ s.mode ≠ 4) (cs 1)) ∧
  ((fun (s : State) =>
    s.inReset 0x04 = false ∧ s.get CFG_STAT_STATE = 3 ∧ s.on CFG_STAT_RING = false ∧ s.mode ≠ 4) (cs 3)) ∧
  ((fun (s : State) =>
    s.inReset 0x04 = false ∧ s.get CFG_STAT_STATE = 3 ∧ s.on CFG_STAT_RING = false ∧ s.mode ≠ 4 ∧ s.rpe.floor ≠ 1 ∧
    s.now ≤ s.rd64 CFG_APPLY_T) ({ (cs 3).wr64 CFG_APPLY_T 99 with rpe := { hub.rpe with floor := 2 } })) ∧
  ((fun (s : State) =>
    s.inReset 0x04 = false ∧ s.get CFG_STAT_STATE = 3 ∧ s.on CFG_STAT_RING = false ∧ s.mode ≠ 4 ∧ s.rpe.floor ≠ 1 ∧
    s.rd64 CFG_APPLY_T < s.now ∧ s.inReset 0x0F = false ∧ s.time.dlQ.length < 16) ({ ((cs 3).wr64 CFG_APPLY_T 99).wr64 TIME_SPINDLE 100 with rpe := { hub.rpe with floor := 2 } })) ∧
  ((fun (s : State) =>
    s.inReset 0x04 = false ∧ s.get CFG_STAT_STATE = 1 ∧ s.mode ≠ 4 ∧ s.rpe.floor ≠ 1) ({ cs 1 with rpe := { hub.rpe with floor := 2 } })) ∧
  ((fun (s : State) =>
    s.inReset 0x04 = false ∧ s.get CFG_STAT_STATE ∈ [1, 3] ∧ s.on CFG_STAT_RING = false ∧ s.rpe.floor = 1) (cs 1)) ∧
  ((fun (s : State) =>
    s.inReset 0x04 = false ∧ s.get CFG_STAT_STATE = 3) ((cw 3 1 7).put CFG_STAT_RING 1)) ∧
  ((fun (s : State) =>
    s.inReset 0x04 = false ∧ s.get CFG_STAT_STATE = 1) (cs 1)) ∧
  ((fun (c : Instr) (s : State) =>
    s.inReset 0x04 = false ∧
    (c = .cfgOpen ∧ s.get CFG_STAT_STATE ≠ 0 ∨ c = .cfgCheck ∧ s.get CFG_STAT_STATE ≠ 1 ∨
      c = .cfgApplyNow ∧ (s.get CFG_STAT_STATE ∉ [1, 3] ∨ s.mode = 4) ∨ c = .cfgAbort ∧ s.get CFG_STAT_STATE ≠ 3 ∨
      c = .cfgDiscard ∧ s.get CFG_STAT_STATE ≠ 1)) .cfgOpen (cs 1)) ∧
  ((fun (who : Who) (off : BitVec 24) (o : Nat) (_v : Word) (s : State) =>
    s.leadsTo off.toNat = some o ∧ isShadow o = true ∧ s.dark = false ∧ s.inReset (blkOf o) = false ∧
    (blkOf o = 0x15 → s.d2dLost = false) ∧ (blkOf o = 0x18 → s.outside who = false ∨ s.on BIV_CTL_EXT_WR = true) ∧
    s.get CFG_STAT_STATE = 1) ⟨1, 5, 0⟩ 0x0D0008 0x0D0008 0xFFFFFFFF (cs 1)) := by
  refine ⟨?_, ?_, ?_, ?_, ?_, ?_, ?_, ?_, ?_, ?_, ?_, ?_⟩ <;> decide +kernel

/-- The hypotheses of CommitCommands, clause 12 to 13, hold together. -/
theorem test_hyp_CommitCommands_2 :
  ((fun (who : Who) (off : BitVec 24) (o : Nat) (_v : Word) (s : State) =>
    s.leadsTo off.toNat = some o ∧ isShadow o = true ∧ s.dark = false ∧ s.inReset (blkOf o) = false ∧
    (blkOf o = 0x15 → s.d2dLost = false) ∧ (blkOf o = 0x18 → s.outside who = false ∨ s.on BIV_CTL_EXT_WR = true) ∧
    s.get CFG_STAT_STATE = 1) ⟨1, 5, 0⟩ 0x10385C 0x10085C 0xFFFFFFFF (cs 1)) ∧
  ((fun (who : Who) (off : BitVec 24) (o : Nat) (_v : Word) (s : State) =>
    s.leadsTo off.toNat = some o ∧ isShadow o = true ∧ s.dark = false ∧ s.inReset (blkOf o) = false ∧
    (blkOf o = 0x15 → s.d2dLost = false) ∧ (blkOf o = 0x18 → s.outside who = false ∨ s.on BIV_CTL_EXT_WR = true) ∧
    s.get CFG_STAT_STATE ≠ 1 ∧ s.roomy) ⟨1, 5, 0⟩ 0x0D0008 0x0D0008 0xFFFFFFFF (cs 2)) := by
  refine ⟨?_, ?_⟩ <;> decide +kernel

/-- The hypotheses of CommitChecksAndApplies, clause 1 to 11, hold together. -/
theorem test_hyp_CommitChecksAndApplies :
  ((fun (s : State) =>
    s.inReset 0x04 = false ∧ s.get CFG_STAT_STATE = 2 ∧ s.cfg.asked = 0 ∧ s.checkFlaws false = []) (cs 2)) ∧
  ((fun (s : State) =>
    s.inReset 0x04 = false ∧ s.get CFG_STAT_STATE = 2 ∧ s.cfg.asked = 1 ∧ s.checkFlaws false = []) ({ cs 2 with cfg := { hub.cfg with asked := 1 } })) ∧
  ((fun (f : Flaw) (s : State) =>
    s.inReset 0x04 = false ∧ s.get CFG_STAT_STATE = 2 ∧ s.cfg.asked = 0 ∧ worst (s.checkFlaws false) = some f ∧
    f.code ≠ 0) ⟨0x10, 7, 0⟩ ((cs 2).put MSA_PART_SH_FB 12)) ∧
  ((fun (s : State) =>
    s.inReset 0x04 = false ∧ s.get CFG_STAT_STATE = 3 ∧ s.cfg.way ≠ 0 ∧ s.atApply.mode = 4 ∧ s.cfg.at_ ≤ s.atApply.now) ((cw 3 1 0).put MPC_MODE_CUR 4)) ∧
  ((fun (s : State) =>
    s.inReset 0x04 = false ∧ s.get CFG_STAT_STATE = 3 ∧ s.cfg.way ≠ 0 ∧ s.atApply.mode ≠ 4 ∧
    s.atApply.on MPC_MODE_TRANS = true ∧ s.cfg.at_ ≤ s.atApply.now) ((cw 3 1 0).put MPC_MODE_TRANS 1)) ∧
  ((fun (s : State) =>
    s.inReset 0x04 = false ∧ s.get CFG_STAT_STATE = 3 ∧ s.cfg.way ≠ 0 ∧ s.atApply.mode ≠ 4 ∧
    s.atApply.on MPC_MODE_TRANS = false ∧ s.cfg.at_ ≤ s.atApply.now ∧ s.atApply.applyRefusal ≠ 0 ∧ s.roomy) (((cw 3 1 0).put MPC_MODE_CUR 2).put MSA_PART_SH_FB 3)) ∧
  ((fun (s : State) =>
    s.inReset 0x04 = false ∧ s.get CFG_STAT_STATE = 3 ∧ s.cfg.way = 1 ∧ s.atApply.mode ≠ 4 ∧
    s.atApply.on MPC_MODE_TRANS = false ∧ s.cfg.at_ ≤ s.atApply.now ∧ s.atApply.applyRefusal = 0 ∧
    s.sys.recordOn = true ∧ (s.rd MPC_REQ_SH).getLsbD 7 = false ∧ s.get UPD_ACT_GO = 0) ({ ((cw 3 1 0).put MPC_MODE_CUR 5).put MSA_PART_SH_FB 3 with sys := { hub.sys with recordOn := true } })) ∧
  ((fun (s : State) =>
    s.inReset 0x04 = false ∧ s.get CFG_STAT_STATE = 3 ∧ s.cfg.way ≠ 0 ∧ s.atApply.now < s.cfg.at_) (cw 3 2 1000000)) ∧
  ((fun (s : State) =>
    4 ≤ s.get CFG_STAT_STATE ∧ s.sys.recordOn = true ∧ s.inReset 0x04 = false) ({ (cs 5).put MSA_PART_FB 3 with sys := { hub.sys with recordOn := true } })) ∧
  ((fun (s : State) =>
    s.inReset 0x04 = false ∧ s.get CFG_STAT_STATE = 3 ∧ s.cfg.way = 0 ∧ s.roomy) ((cs 3).put CFG_COMMIT_CID 7)) ∧
  ((fun (s : State) =>
    (s.get CFG_STAT_STATE ≠ 3 ∨ s.cfg.way ≠ 0)) hub) := ⟨⟨by decide +kernel, by decide +kernel, by decide +kernel, cs2_flaws⟩,
   ⟨by decide +kernel, by decide +kernel, by decide +kernel, (checkFlaws_cfg _ _).trans cs2_flaws⟩,
   by decide +kernel,
   by decide +kernel,
   by decide +kernel,
   by decide +kernel,
   by decide +kernel,
   by decide +kernel,
   by decide +kernel,
   by decide +kernel,
   by decide +kernel⟩

/-- The hypotheses of RingWideCommit, clause 1 to 10, hold together. -/
theorem test_hyp_RingWideCommit :
  ((fun (_cid : BitVec 16) (_guard : DWord) (_node : BitVec 8) (_chip : Fin 4) (s : State) =>
    s.open_ 0x04 = true ∧ s.rpe.floor ≠ 1 ∧ s.mode ≠ 4 ∧ s.get CFG_STAT_STATE ≤ 1) 7 1000 0 1 ({ cs 1 with rpe := { hub.rpe with floor := 2 } })) ∧
  ((fun (s : State) =>
    s.inReset 0x04 = false ∧ s.get CFG_STAT_STATE = 2 ∧ s.cfg.asked = 3 ∧ s.checkFlaws true = []) ({ cs 2 with cfg := { hub.cfg with asked := 3 }, rpe := { hub.rpe with floor := 2 } })) ∧
  ((fun (cid : BitVec 16) (time : DWord) (_node : BitVec 8) (_chip : Fin 4) (s : State) =>
    s.open_ 0x04 = true ∧ s.get CFG_COMMIT_CID = cid.toNat ∧ s.on CFG_COMMIT_APPLIED = false ∧
    s.get CFG_STAT_STATE = 3 ∧ s.on CFG_STAT_RING = true ∧ s.mode ≠ 4 ∧ s.now < (time.toNat + 31249) / 31250 * 31250) 7 1000 0 1 ((((cs 3).put CFG_COMMIT_CID 7).put CFG_STAT_RING 1))) ∧
  ((fun (cid : BitVec 16) (time : DWord) (_node : BitVec 8) (_chip : Fin 4) (s : State) =>
    s.open_ 0x04 = true ∧ s.get CFG_COMMIT_CID = cid.toNat ∧ s.on CFG_COMMIT_APPLIED = false ∧
    s.get CFG_STAT_STATE = 3 ∧ s.on CFG_STAT_RING = true ∧ s.mode ≠ 4 ∧
    (time.toNat + 31249) / 31250 * 31250 ≤ s.now ∧ s.inReset 0x0F = false ∧ s.time.dlQ.length < 16) 7 1000 0 1 ((((cs 3).put CFG_COMMIT_CID 7).put CFG_STAT_RING 1).wr64 TIME_SPINDLE 40000)) ∧
  ((fun (cid : BitVec 16) (_time : DWord) (_node : BitVec 8) (_chip : Fin 4) (s : State) =>
    s.get CFG_COMMIT_CID ≠ cid.toNat) 8 1000 0 1 ((((cs 3).put CFG_COMMIT_CID 7).put CFG_STAT_RING 1).wr64 TIME_SPINDLE 40000)) ∧
  ((fun (cid : BitVec 16) (s : State) =>
    s.inReset 0x04 = false ∧ s.get CFG_STAT_STATE = 3 ∧ s.get CFG_COMMIT_CID = cid.toNat) 7 ((cs 3).put CFG_COMMIT_CID 7)) ∧
  ((fun (cid : BitVec 16) (s : State) =>
    (s.get CFG_STAT_STATE ≠ 3 ∨ s.get CFG_COMMIT_CID ≠ cid.toNat)) 7 ((cs 2).put CFG_COMMIT_CID 7)) ∧
  ((fun (s : State) =>
    s.inReset 0x04 = false ∧ s.get CFG_STAT_STATE = 3 ∧ s.on CFG_STAT_RING = true ∧ s.cfg.missed = false ∧
    s.toBoundary.rd64 CFG_GUARD ≤ s.toBoundary.now ∧ s.roomy ∧ s.inReset 0x0D = true) (((((cs 3).put CFG_COMMIT_CID 7).put CFG_STAT_RING 1)).setInrst 0x0D true)) ∧
  ((fun (s : State) =>
    s.inReset 0x04 = false ∧ s.get CFG_STAT_STATE = 3 ∧ s.on CFG_STAT_RING = true ∧ s.cfg.missed = false ∧
    s.toBoundary.rd64 CFG_GUARD ≤ s.toBoundary.now) (((cs 3).put CFG_COMMIT_CID 7).put CFG_STAT_RING 1)) ∧
  ((fun (s : State) =>
    s.cfg.missed = true) ({ cs 3 with cfg := { hub.cfg with missed := true } })) := ⟨by decide +kernel,
   (by
  refine ⟨by decide +kernel, by decide +kernel, by decide +kernel, ?_⟩
  exact (checkFlaws_timed _ (by decide +kernel)).trans ((checkFlaws_cfg_rpe (cs 2) _ _).trans cs2_flaws)),
   by decide +kernel,
   by decide +kernel,
   by decide +kernel,
   by decide +kernel,
   by decide +kernel,
   by decide +kernel,
   by decide +kernel,
   by decide +kernel⟩

/-- The hypotheses of RecordLoader, clause 1 to 4, hold together. -/
theorem test_hyp_RecordLoader :
  ((fun (s : State) =>
    s.loaderDue = true ∧ s.roomy) (((State.reset.put LPW_STAT_RAILS_OK 1).put MSA_STAT_INIT_DONE 1).put BIV_STAT_INIT_DONE 1)) ∧
  ((fun (s : State) =>
    s.loaderDue = true ∧ s.dirChosen = none ∧ s.roomy) (((State.reset.put LPW_STAT_RAILS_OK 1).put MSA_STAT_INIT_DONE 1).put BIV_STAT_INIT_DONE 1)) ∧
  ((fun (k : Nat) (d : Dir) (s : State) =>
    s.loaderDue = true ∧ s.dirChosen = some (k, d) ∧ s.get UPD_BOOT_STATE = 0 ∧ d.active ≤ 1 ∧ s.roomy) 0 ⟨1, 1, 0, 0⟩ ((((State.reset.put LPW_STAT_RAILS_OK 1).put MSA_STAT_INIT_DONE 1).put BIV_STAT_INIT_DONE 1).flashPut 0 (⟨1, 1, 0, 0⟩ : Dir).bytes)) ∧
  ((fun (s : State) =>
    s.loaderDue = false) hub) := by
  refine ⟨?_, ?_, ?_, ?_⟩ <;> decide +kernel

end C05

namespace C06

def tr (l st : Nat) : State := (hub.put (LANE_TRAIN_STATE l) st).put (LANE_STAT_RATE l) 1
def trl (l st : Nat) (f : LaneSt → LaneSt) : State := (tr l st).modLn l f

/-- The hypotheses of LaneTraining, clause 1 to 10, hold together. -/
theorem test_hyp_LaneTraining_1 :
  ((fun (l : Fin 4) (s : State) =>
    s.inReset (laneBlk l.val) = false ∧ s.trainSt l.val = 1 ∧ (s.ln l.val).raw = false ∧ s.sys.refclk = true) 1 (tr 1 1)) ∧
  ((fun (l : Fin 4) (s : State) =>
    s.inReset (laneBlk l.val) = false) 1 ((tr 1 1).put (LANE_STAT_SIGDET 1) 1)) ∧
  ((fun (l : Fin 4) (_ctle : BitVec 4) (_dfe : BitVec 30) (s : State) =>
    s.trainSt l.val = 2 ∧ s.sys.refclk = true) 1 5 9 (tr 1 2)) ∧
  ((fun (l : Fin 4) (s : State) =>
    s.inReset (laneBlk l.val) = false ∧ s.trainSt l.val = 3) 1 ((tr 1 3).put (LANE_ALIGN_POS 1) 65)) ∧
  ((fun (l : Fin 4) (s : State) =>
    s.trainSt l.val = 3 ∧ 32 ≤ (s.ln l.val).good) 1 (trl 1 3 fun x => { x with good := 32 })) ∧
  ((fun (l : Fin 4) (hdrs : BitVec 32) (s : State) =>
    s.trainSt l.val = 3 ∧ (hdrRun (s.ln l.val).good ((List.range 32).map hdrs.getLsbD)).2 = false) 1 0x7FFFFFFF (trl 1 3 fun x => { x with good := 32 })) ∧
  ((fun (l : Fin 4) (hdrs : BitVec 32) (s : State) =>
    s.trainSt l.val = 3 ∧ (hdrRun (s.ln l.val).good ((List.range 32).map hdrs.getLsbD)).2 = true) 1 0x3FFFFFFF (trl 1 3 fun x => { x with good := 34 })) ∧
  ((fun (l : Fin 4) (s : State) =>
    s.inReset (laneBlk l.val) = false ∧ s.trainSt l.val = 3 ∧ s.on (LANE_ALIGN_LOCK l.val) = true ∧
    s.sys.refclk = true) 1 ((tr 1 3).put (LANE_ALIGN_LOCK 1) 1)) ∧
  ((fun (l : Fin 4) (s : State) =>
    s.inReset (laneBlk l.val) = false ∧ s.trainSt l.val = 3 ∧ s.on (LANE_ALIGN_LOCK l.val) = true ∧
    s.sys.refclk = true) 1 ((trl 1 3 fun x => { x with stepped := true }).put (LANE_ALIGN_LOCK 1) 1)) ∧
  ((fun (l : Fin 4) (s : State) =>
    s.trainSt l.val = 6 ∧ s.sys.refclk = true) 1 ((tr 1 6).put (LANE_PEER0_VER 1) 3)) ∧
  ((fun (l : Fin 4) (s : State) =>
    s.trainSt l.val = 6 ∧ s.sys.refclk = true) 3 ((tr 3 6).put (LANE_PEER0_VER 1) 3)) ∧
  ((fun (l : Fin 4) (s : State) =>
    2 ≤ l.val ∧ s.trainSt l.val = 6 ∧ s.sys.refclk = true) 3 ((tr 3 6).put (LANE_PEER0_VER 1) 3)) := by
  refine ⟨?_, ?_, ?_, ?_, ?_, ?_, ?_, ?_, ?_, ?_, ?_, ?_⟩ <;> decide +kernel

/-- The hypotheses of LaneTraining, clause 11 to 15, hold together. -/
theorem test_hyp_LaneTraining_2 :
  ((fun (l : Fin 4) (s : State) =>
    s.trainSt l.val = 3 ∧ (s.ln l.val).stepped = false) 1 (tr 1 3)) ∧
  ((fun (l : Fin 4) (s : State) =>
    s.trainSt l.val = 3 ∧ (s.ln l.val).stepped = false) 3 (tr 3 3)) ∧
  ((fun (l : Fin 4) (s : State) =>
    s.trainSt l.val ∈ [2, 4, 5] ∧ (s.ln l.val).stepped = false) 1 (tr 1 4)) ∧
  ((fun (l : Fin 4) (s : State) =>
    s.trainSt l.val ∈ [2, 4, 5] ∧ (s.ln l.val).stepped = false) 3 (tr 3 5)) ∧
  ((fun (l : Fin 4) (s : State) =>
    s.inReset (laneBlk l.val) = false ∧ s.trainSt l.val = 6 ∧ s.on (LANE_STAT_CDR_LOCK l.val) = true) 1 ((trl 1 6 fun x => { x with rxf := some (3, [5]) }).put (LANE_STAT_CDR_LOCK 1) 1)) ∧
  ((fun (l : Fin 4) (s : State) =>
    s.trainSt l.val ∈ [1, 2] ∧ s.on (LANE_CTL_V1_PROBE l.val) = true ∧ 2 ≤ s.rateMax l.val ∧ s.gh320 = false ∧
    (s.ln l.val).stepped = false) 1 (((tr 1 2).put (LANE_CTL_V1_PROBE 1) 1).put (LANE_CTL_RATE_MAX 1) 3)) ∧
  ((fun (cdr blk fault isUp : Bool) (s : State) =>
    s.on (LANE_STAT_HOSTMODE 3) = true ∧ s.inReset 0x0B = false ∧ isUp = (cdr && s.sys.refclk && blk && !fault) ∧
    s.laneUp 3 ≠ isUp) true true false true (hub.put (LANE_STAT_HOSTMODE 3) 1)) ∧
  ((fun (cdr blk fault isUp : Bool) (s : State) =>
    s.on (LANE_STAT_HOSTMODE 3) = true ∧ s.inReset 0x0B = false ∧ isUp = (cdr && s.sys.refclk && blk && !fault) ∧
    s.laneUp 3 ≠ isUp) true true true false ((hub.put (LANE_STAT_HOSTMODE 3) 1).put (LANE_STAT_UP 3) 1)) := by
  refine ⟨?_, ?_, ?_, ?_, ?_, ?_, ?_, ?_⟩ <;> decide +kernel

/-- The hypotheses of LaneSteps, clause 1 to 10, hold together. -/
theorem test_hyp_LaneSteps_1 :
  ((fun (l : Fin 4) (s : State) =>
    s.trainSt l.val ≠ 0 ∧ s.trainSt l.val ≠ 8 ∧ s.inReset (laneBlk l.val) = false ∧ s.txQuiet l.val = false) 1 (tr 1 4)) ∧
  ((fun (l : Fin 4) (s : State) =>
    s.trainSt l.val = 5 ∧ s.txQuiet l.val = false) 1 (tr 1 5)) ∧
  ((fun (l : Fin 4) (target : BitVec 8) (s : State) =>
    s.trainSt l.val = 5 ∧ target.toNat = s.get (LANE_TRAIN_TARGET l.val) ∧ s.txQuiet l.val = false) 1 3 ((tr 1 5).put (LANE_TRAIN_TARGET 1) 3)) ∧
  ((fun (l : Fin 4) (target : BitVec 8) (s : State) =>
    s.trainSt l.val = 5 ∧ target.toNat ≠ s.get (LANE_TRAIN_TARGET l.val) ∧ s.txQuiet l.val = false) 1 2 ((tr 1 5).put (LANE_TRAIN_TARGET 1) 3)) ∧
  ((fun (l : Fin 4) (target : BitVec 8) (s : State) =>
    s.trainSt l.val = 5 ∧ target.toNat = s.get (LANE_TRAIN_TARGET l.val)) 1 3 ((tr 1 5).put (LANE_TRAIN_TARGET 1) 3)) ∧
  ((fun (l : Fin 4) (s : State) =>
    s.trainSt l.val = 5) 1 ((tr 1 5).put (LANE_TRAIN_TARGET 1) 3)) ∧
  ((fun (l : Fin 4) (s : State) =>
    s.trainSt l.val = 5 ∧ (s.ln l.val).ackTx = true ∧ (s.ln l.val).ackRx = true ∧ s.sys.refclk = true) 1 ((trl 1 5 fun x => { x with ackTx := true, ackRx := true }).put (LANE_TRAIN_TARGET 1) 3)) ∧
  ((fun (l : Fin 4) (_ver _cap _rates role mode _node : BitVec 8) (_seq : BitVec 16) (_uid : BitVec 48) (s : State) =>
    s.blocksRx l.val = true ∧ s.trainSt l.val = 4 ∧ mode.getLsbD 7 = false ∧ s.rolesOk l.val role.toNat = true) 2 2 5 0x1F 11 2 9 77 0x123456789ABC (tr 2 4)) ∧
  ((fun (l : Fin 4) (_ver _cap _rates role mode _node : BitVec 8) (_seq : BitVec 16) (_uid : BitVec 48) (s : State) =>
    s.blocksRx l.val = true ∧ s.trainSt l.val = 4 ∧ mode.getLsbD 7 = false ∧ s.rolesOk l.val role.toNat = true) 1 2 5 0x1F 0 2 9 77 0x123456789ABC (tr 1 4)) ∧
  ((fun (l : Fin 4) (_ver _cap _rates role _mode _node : BitVec 8) (_seq : BitVec 16) (_uid : BitVec 48) (s : State) =>
    s.blocksRx l.val = true ∧ s.trainSt l.val ∈ [4, 5, 6] ∧ s.rolesOk l.val role.toNat = false ∧ s.roomy ∧
    s.fltQ.length < 31) 2 2 5 0x1F 7 0x82 9 77 0x123456789ABC (tr 2 4)) ∧
  ((fun (l : Fin 4) (_ver _cap _rates role _mode _node : BitVec 8) (_seq : BitVec 16) (_uid : BitVec 48) (s : State) =>
    s.blocksRx l.val = true ∧ s.trainSt l.val ∈ [4, 5, 6] ∧ s.rolesOk l.val role.toNat = false ∧ s.roomy ∧
    s.fltQ.length < 31) 1 2 5 0x1F 7 0x02 9 77 0x123456789ABC (tr 1 6)) ∧
  ((fun (l : Fin 4) (_ver _cap _rates _role _mode _node : BitVec 8) (_seq : BitVec 16) (uid : BitVec 48) (s : State) =>
    s.blocksRx l.val = true ∧ s.trainSt l.val = 7 ∧ s.peerUid l.val ≠ uid.toNat) 2 2 5 0x1F 7 0x82 9 77 0x123456789ABC (tr 2 7)) := by
  refine ⟨?_, ?_, ?_, ?_, ?_, ?_, ?_, ?_, ?_, ?_, ?_, ?_⟩ <;> decide +kernel

/-- The hypotheses of LaneSteps, clause 10 to 16, hold together. -/
theorem test_hyp_LaneSteps_2 :
  ((fun (l : Fin 4) (_ver _cap _rates _role _mode _node : BitVec 8) (_seq : BitVec 16) (uid : BitVec 48) (s : State) =>
    s.blocksRx l.val = true ∧ s.trainSt l.val = 7 ∧ s.peerUid l.val ≠ uid.toNat) 1 2 5 0x1F 7 0x82 9 77 0x123456789ABC (tr 1 7)) ∧
  ((fun (l : Fin 4) (s : State) =>
    s.trainSt l.val = 7 ∧ s.rateKept l.val = false ∧ s.longShort l.val = false) 2 (tr 2 7)) ∧
  ((fun (l : Fin 4) (s : State) =>
    s.trainSt l.val = 7 ∧ s.rateKept l.val = false ∧ s.longShort l.val = false) 1 (tr 1 7)) ∧
  ((fun (l : Fin 4) (s : State) =>
    s.trainSt l.val = 7 ∧ s.rateKept l.val = false ∧ s.longShort l.val = true) 1 ((tr 1 7).put RPE_RING_PROFILE 1)) ∧
  ((fun (l : Fin 4) (s : State) =>
    s.trainSt l.val = 7 ∧ s.rateKept l.val = true ∧ s.mayStep l.val = true ∧ s.heldLong l.val = true ∧
    (s.ln l.val).condT ≠ none ∧ s.get (LANE_STAT_RATE l.val) < s.bestRate l.val) 2 (((trl 2 7 fun x => { x with condT := some 0 }).put (LANE_CTL_RATE_MAX 2) 3).put (LANE_PEER0_RATES 2) 0xF |>.put (LANE_PEER1_MODE 2) 2 |>.put MPC_MODE_CUR 2)) ∧
  ((fun (l : Fin 4) (s : State) =>
    s.trainSt l.val = 7 ∧ s.rateKept l.val = true ∧ s.mayStep l.val = false) 2 (((tr 2 7).put (LANE_CTL_RATE_MAX 2) 3).put (LANE_PEER0_RATES 2) 7)) ∧
  ((fun (l : Fin 4) (s : State) =>
    s.trainSt l.val = 3 ∧ (s.ln l.val).stepped = true) 2 (trl 2 3 fun x => { x with stepped := true })) ∧
  ((fun (l : Fin 4) (s : State) =>
    s.trainSt l.val = 3 ∧ (s.ln l.val).stepped = true) 1 ((trl 1 3 fun x => { x with stepped := true }).put RPE_RING_PROFILE 1)) ∧
  ((fun (l : Fin 4) (s : State) =>
    s.trainSt l.val = 8 ∧ s.get (LANE_STAT_DOWN_CAUSE l.val) = 9) 2 ((tr 2 8).put (LANE_STAT_DOWN_CAUSE 2) 9)) := by
  refine ⟨?_, ?_, ?_, ?_, ?_, ?_, ?_, ?_, ?_⟩ <;> decide +kernel

/-- The hypotheses of LaneLossAndTests, clause 1 to 9, hold together. -/
theorem test_hyp_LaneLossAndTests_1 :
  ((fun (l : Fin 4) (_cause : Fin 3) (s : State) =>
    s.trainSt l.val = 7) 1 0 (tr 1 7)) ∧
  ((fun (l : Fin 4) (_cause : Fin 3) (s : State) =>
    s.trainSt l.val = 7) 0 2 (tr 0 7)) ∧
  ((fun (l : Fin 4) (_cause : Fin 3) (s : State) =>
    2 ≤ l.val ∧ s.trainSt l.val = 7 ∧ s.sys.retrain = false ∧ s.sys.dormT = false ∧ s.roomy) 2 1 (tr 2 7)) ∧
  ((fun (l : Fin 4) (_cause : BitVec 8) (s : State) =>
    s.rfMay l.val = true ∧ s.on (LANE_STAT_RF_RX l.val) = false) 2 0x85 ((tr 2 7).put (LANE_STAT_VER 2) 2 |>.put (LANE_PEER0_CAP 2) 31)) ∧
  ((fun (l : Fin 4) (_cause : BitVec 8) (s : State) =>
    s.rfMay l.val = true ∧ s.on (LANE_STAT_RF_RX l.val) = false) 1 0x85 (tr 1 6)) ∧
  ((fun (l : Fin 4) (s : State) =>
    s.on (LANE_STAT_RF_RX l.val) = true) 1 ((tr 1 7).put (LANE_STAT_RF_RX 1) 1)) ∧
  ((fun (l : Fin 4) (_ctl : Word) (s : State) =>
    s.inReset (laneBlk l.val) = false ∧ s.on (LANE_EYE_STAT_BUSY l.val) = false) 1 0x12345 hub) ∧
  ((fun (l : Fin 4) (_ctl : Word) (s : State) =>
    s.inReset (laneBlk l.val) = false ∧ s.on (LANE_EYE_STAT_BUSY l.val) = true) 1 0x12345 (hub.put (LANE_EYE_STAT_BUSY 1) 1)) ∧
  ((fun (l : Fin 4) (_errs : Word) (s : State) =>
    s.on (LANE_EYE_STAT_BUSY l.val) = true) 1 0x12345678 (hub.put (LANE_EYE_STAT_BUSY 1) 1)) ∧
  ((fun (l : Fin 4) (ctl : Word) (_ck _er : BitVec 48) (s : State) =>
    s.inReset (laneBlk l.val) = false ∧ s.on (LANE_PAT_STAT_CHK_LOCK l.val) = true ∧ (s.ln l.val).raw = false ∧
    ctl.getLsbD 0 = false ∧ ctl.getLsbD 1 = true) 1 0x12 1000 7 (hub.put (LANE_PAT_STAT_CHK_LOCK 1) 1)) ∧
  ((fun (l : Fin 4) (ctl : Word) (_ck _er : BitVec 48) (s : State) =>
    s.inReset (laneBlk l.val) = false ∧ s.on (LANE_PAT_STAT_CHK_LOCK l.val) = true ∧ (s.ln l.val).raw = false ∧
    ctl.getLsbD 0 = false ∧ ctl.getLsbD 1 = true) 1 0x02 1000 7 ((hub.put (LANE_PAT_STAT_CHK_LOCK 1) 1).put (LANE_PAT_CTL_CHK_EN 1) 1)) ∧
  ((fun (l : Fin 4) (s : State) =>
    s.chkActive l.val = true) 1 ((hub.put (LANE_PAT_CTL_CHK_EN 1) 1).put (LANE_PAT_CTL_LEVEL 1) 1)) := by
  refine ⟨?_, ?_, ?_, ?_, ?_, ?_, ?_, ?_, ?_, ?_, ?_, ?_⟩ <;> decide +kernel

/-- The hypotheses of LaneLossAndTests, clause 10 to 12, hold together. -/
theorem test_hyp_LaneLossAndTests_2 :
  ((fun (l : Fin 4) (_ck _er : BitVec 48) (s : State) =>
    s.on (LANE_PAT_STAT_CHK_LOCK l.val) = true) 1 1000 7 (hub.put (LANE_PAT_STAT_CHK_LOCK 1) 1)) ∧
  ((fun (l : Fin 4) (_body : DWord) (s : State) =>
    s.blocksRx l.val = true ∧ s.looped l.val = false ∧ (s.ln l.val).rxf = none ∧ s.on (LANE_STAT_RF_RX l.val) = false) 1 5 (tr 1 7)) ∧
  ((fun (l : Fin 4) (_body : DWord) (cls : Nat) (ws : List DWord) (s : State) =>
    s.blocksRx l.val = true ∧ s.looped l.val = false ∧ (s.ln l.val).rxf = some (cls, ws) ∧
    s.on (LANE_STAT_RF_RX l.val) = false) 1 5 2 [7] (trl 1 7 fun x => { x with rxf := some (2, [7]) })) ∧
  ((fun (l : Fin 4) (_body : DWord) (cls : Nat) (ws : List DWord) (s : State) =>
    s.blocksRx l.val = true ∧ s.looped l.val = false ∧ (s.ln l.val).rxf = some (cls, ws) ∧
    s.on (LANE_STAT_RF_RX l.val) = false) 1 5 2 (List.replicate 260 7) (trl 1 7 fun x => { x with rxf := some (2, List.replicate 260 7) })) := by
  refine ⟨?_, ?_, ?_, ?_⟩ <;> decide +kernel

end C06

namespace C07

def rm (s : State) : State := (List.range 5).foldl (fun s p => ((s.put (FWD_LIM_2_C5REQ p) 8).put (FWD_LIM_1_C3 p) 8)) s
def rg (s : State) : State := (s.put RED_STAT_CW 0).put RED_STAT_CCW 0
def hd : State := rg ((rm (hub.put RPE_NODE_NODE 0)).put ID_STRAP_HEAD 1)
def cf (dst : Nat) (ws : List DWord) : Frame := (FrameSpec.plain 5 0 3 dst 0 0 ws).build 9 0 1 5
def up (l : Nat) : State := ((rm hub).put (LANE_STAT_UP l) 1).put (LANE_STAT_VER l) 2
def df : Frame := (FrameSpec.plain 3 0 0 5 0 7 [5, 6]).build 9 0 1 5
def qf (f : Frame) : QFrame := ⟨f, 0, 4, false, true, 0, [0]⟩
def sf : QFrame := qf ({ FrameSpec.plain 6 0 0 9 0 7 [5, 6] with sched := 1, slot := 3 }.build 5 0 1 5)
def cfF : QFrame := qf ((FrameSpec.plain 5 0 2 5 0 0 [BitVec.ofNat 64 (5 + 7 * 65536), 0]).build 9 0 1 5)
def dr (q frm : Nat) : State := { hub.setDrainBit q frm true with fwd := { hub.fwd with drains := [⟨q, frm, 7, [], 5⟩], markId := 7, lastMark := [(2 * q + frm, 7)] } }

/-- The hypotheses of CensusRounds, clause 1 to 12, hold together. -/
theorem test_hyp_CensusRounds_1 :
  ((fun (s : State) =>
    s.open_ 0x0C = true ∧ s.open_ 0x0D = true ∧ s.headAct = true ∧ s.on RED_TWIN_CTL_TWIN = false ∧
    s.dirState 0 = 0 ∧ s.dirState 1 = 0 ∧ s.fwd.locWait = [] ∧ s.occ 0 3 + 1 ≤ s.limit 0 3 ∧
    s.occ 1 3 + 1 ≤ s.limit 1 3) hd) ∧
  ((fun (w0 w1 w2 w3 : Word) (s : State) =>
    s.open_ 0x0C = true ∧ s.headAct = true ∧ s.on RED_TWIN_CTL_TWIN = false ∧ s.assignNewer s.rpe.round = true ∧
    s.rd (RPE_CEN_ASGN 0) = w0 ∧ s.rd (RPE_CEN_ASGN 1) = w1 ∧ s.rd (RPE_CEN_ASGN 2) = w2 ∧
    s.rd (RPE_CEN_ASGN 3) = w3 ∧ w0.getLsbD 28 = false ∧ s.blocked 0 = false ∧ s.blocked 1 = false ∧
    (w2.toNat + 2 ^ 32 * w3.toNat) % 2 ^ 48 = s.uid48 ∧ s.rpe.round < 65536) 0x02000002 0 0 0x00070000 ((((hd.wr (RPE_CEN_ASGN 0) 0x02000002).wr (RPE_CEN_ASGN 3) 0x00070000)))) ∧
  ((fun (l : Fin 2) (f : Frame) (s : State) =>
    s.inReset 0x0C = false ∧ s.master = true ∧ s.headAct = false ∧ 2 ≤ f.payload.length ∧
    entUid (frWord f 1) ≠ s.uid48 ∧ (frWord f 0).testBit 42 = false ∧ cenCount f < 255 ∧ frClass f = 5 ∧ frVc f = 0 ∧
    frDst f = 0xFF ∧ frDup f = 0 ∧ frKind f = 3 ∧ frSched f = 0 ∧ s.laneUp (1 - l.val) = true ∧
    s.blocked (1 - l.val) = false ∧ s.dirState (1 - l.val) = 0 ∧
    s.occ (1 - l.val) 3 + (167 + 8 * f.payload.length) / 128 ≤ s.limit (1 - l.val) 3) 1 (cf 255 [cenWord 1 7 2 0 0 1 0, 77]) ((rg (rm hub)).put (LANE_STAT_UP 0) 1)) ∧
  ((fun (_l : Fin 2) (f : Frame) (s : State) =>
    s.inReset 0x0C = false ∧ s.master = true ∧ s.headAct = true ∧ 2 ≤ f.payload.length ∧
    entUid (frWord f 1) = s.uid48 ∧ cenCount f < 255 ∧ cenDir f = 0 ∧ s.rpe.cenOpen = true ∧ s.rpe.cenGot = 2) 1 (cf 255 [cenWord 1 7 2 0 0 1 0, 0]) ({ hd with rpe := { hd.rpe with cenOpen := true, cenGot := 2 } })) ∧
  ((fun (f : Frame) (e : Nat) (s : State) =>
    s.inReset 0x0C = false ∧ s.assignNewer (cenRound f) = true ∧ s.on RED_TWIN_CTL_TWIN = false ∧
    (((List.range (cenCount f)).map fun i => frWord f (1 + i)).find? fun e => entUid e == s.uid48) = some e ∧
    (frWord f 0).testBit 28 = false ∧ s.blocked 0 = false ∧ s.blocked 1 = false) (cf 255 [cenWord 2 7 2 0 3 1 0, 0x0009000000000000]) 0x0009000000000000 hub) ∧
  ((fun (f : Frame) (s : State) =>
    s.inReset 0x0C = false ∧ s.assignNewer (cenRound f) = true ∧ s.on RED_TWIN_CTL_TWIN = false ∧
    (((List.range (cenCount f)).map fun i => frWord f (1 + i)).find? fun e => entUid e == s.uid48) = none ∧
    (frWord f 0).testBit 28 = false ∧ s.blocked 0 = false ∧ s.blocked 1 = false) (cf 255 [cenWord 2 7 2 0 3 1 0, 0x0009000000000055]) hub) ∧
  ((fun (f : Frame) (s : State) =>
    s.inReset 0x0C = false ∧ s.assignNewer (cenRound f) = false) (cf 255 [cenWord 2 7 2 0 3 1 0, 0x0009000000000055]) ({ hub.put RPE_NODE_ROUND 7 with rpe := { hub.rpe with assigned := true } })) ∧
  ((fun (s : State) =>
    s.inReset 0x0C = false) (hub.put RPE_RING_FLOOR 2)) ∧
  ((fun (s : State) =>
    s.inReset 0x0C = false ∧ s.rpe.cenOpen = true) ({ hd with rpe := { hd.rpe with cenOpen := true, cenGot := 2 } })) ∧
  ((fun (s : State) =>
    s.inReset 0x0C = false ∧ s.open_ 0x0D = true ∧ s.headAct = true ∧ s.dirState 0 = 0 ∧ s.dirState 1 = 0 ∧
    s.fwd.locWait = [] ∧ s.occ 0 3 + 1 ≤ s.limit 0 3 ∧ s.occ 1 3 + 1 ≤ s.limit 1 3) hd) ∧
  ((fun (_l : Fin 2) (f : Frame) (s : State) =>
    s.inReset 0x0C = false ∧ s.headAct = false ∧ s.get RPE_NODE_ROUND = cenRound f ∧ s.on RPE_STAT_LISTED = true) 1 (cf 255 [cenWord 3 7 2 0 3 1 0]) ((hub.put RPE_STAT_LISTED 1).put RPE_NODE_ROUND 7)) ∧
  ((fun (_l : Fin 2) (f : Frame) (s : State) =>
    s.inReset 0x0C = false ∧ s.headAct = false ∧ s.get RPE_NODE_ROUND ≠ cenRound f) 1 (cf 255 [cenWord 3 7 2 0 3 1 0]) ((hub.put RPE_STAT_LISTED 1).put RPE_NODE_ROUND 8)) := by
  refine ⟨?_, ?_, ?_, ?_, ?_, ?_, ?_, ?_, ?_, ?_, ?_, ?_⟩ <;> decide +kernel

/-- The hypotheses of CensusRounds, clause 13 to 15, hold together. -/
theorem test_hyp_CensusRounds_2 :
  ((fun (s : State) =>
    s.inReset 0x0C = false) hub) ∧
  ((fun (s : State) =>
    s.inReset 0x0C = false ∧ s.headAct = true) hd) ∧
  ((fun (_node : BitVec 8) (s : State) =>
    s.inReset 0x0C = false ∧ s.master = false ∧ s.on RED_TWIN_CTL_TWIN = false) 7 (hub.put ID_STRAP_STACK_ID 1)) := by
  refine ⟨?_, ?_, ?_⟩ <;> decide +kernel

/-- The hypotheses of FramesOnLanes, clause 1 to 10, hold together. -/
theorem test_hyp_FramesOnLanes :
  ((fun (l : Fin 4) (_c : Fin 8) (f : Frame) (tr : DWord) (_age : BitVec 32) (s : State) =>
    s.takesFrames l.val = true ∧ f.payload.length ≤ 256 ∧ frTrailer f ≠ tr.toNat % 2 ^ 32 ∧ s.roomy) 1 3 df 7 0 (up 1)) ∧
  ((fun (l : Fin 4) (c : Fin 8) (f : Frame) (tr : DWord) (_age : BitVec 32) (s : State) =>
    s.takesFrames l.val = true ∧ f.payload.length ≤ 256 ∧ frTrailer f = tr.toNat % 2 ^ 32 ∧ s.roomy ∧
    headerReason f c.val (s.get (LANE_STAT_VER l.val)) ≠ 0) 1 4 df (BitVec.ofNat 64 (frTrailer df)) 0 (up 1)) ∧
  ((fun (l : Fin 4) (c : Fin 8) (f : Frame) (tr : DWord) (_age : BitVec 32) (s : State) =>
    s.takesFrames l.val = true ∧ f.payload.length ≤ 256 ∧ frTrailer f = tr.toNat % 2 ^ 32 ∧
    headerReason f c.val (s.get (LANE_STAT_VER l.val)) = 0 ∧ frKind f = 0 ∧ frClass f = 3 ∧ frDst f = s.node ∧
    s.node ≠ 0xFF ∧ frDstChip f = s.chip ∧ frSrc f ≠ s.node ∧ s.on RED_TWIN_CTL_TWIN = false ∧
    s.occ 4 5 + (159 + 8 * f.payload.length) / 128 ≤ s.limit 4 5) 1 3 df (BitVec.ofNat 64 (frTrailer df)) 0 (up 1)) ∧
  ((fun (l : Fin 4) (_c : Fin 8) (_f : Frame) (_tr : DWord) (_age : BitVec 32) (s : State) =>
    s.takesFrames l.val = false) 1 3 df (BitVec.ofNat 64 (frTrailer df)) 0 hub) ∧
  ((fun (l : Fin 4) (_frac : BitVec 12) (_sof : Bool) (qi i : Nat) (x : QFrame) (s : State) =>
    s.laneUp l.val = true ∧ s.inReset (laneBlk l.val) = false ∧ s.on (LANE_STAT_HOSTMODE l.val) = false ∧
    s.open_ 0x0D = true ∧ s.txQuiet l.val = false ∧ s.tst.force ≠ some l.val ∧ s.pickTx l.val = some (qi, i, x) ∧
    (x.cells.all fun c => (List.range 16).all fun k => (s.mark (16 * c + k)).isNone) = true ∧ frClass x.f ≠ 4 ∧
    frKind x.f ≠ 4 ∧ (2 ≤ l.val ∨ frHops x.f < 511) ∧ s.fwd.locWait = []) 1 7 true 2 0 (qf ((FrameSpec.plain 5 1 0 9 0 7 [5, 6]).build 5 0 1 5)) ((up 1).setQueue 1 2 [qf ((FrameSpec.plain 5 1 0 9 0 7 [5, 6]).build 5 0 1 5)])) ∧
  ((fun (l : Fin 4) (_frac : BitVec 12) (_sof : Bool) (qi i : Nat) (x : QFrame) (s : State) =>
    s.laneUp l.val = true ∧ s.inReset (laneBlk l.val) = false ∧ s.on (LANE_STAT_HOSTMODE l.val) = false ∧
    s.open_ 0x0D = true ∧ s.txQuiet l.val = false ∧ s.tst.force ≠ some l.val ∧ s.pickTx l.val = some (qi, i, x) ∧
    (x.cells.all fun c => (List.range 16).all fun k => (s.mark (16 * c + k)).isNone) = true ∧ l.val < 2 ∧
    frHops x.f = 511 ∧ s.fwd.locWait = []) 1 7 true 2 0 (qf (frPutHops ((FrameSpec.plain 5 1 0 9 0 7 [5, 6]).build 5 0 1 5) 511)) ((up 1).setQueue 1 2 [qf (frPutHops ((FrameSpec.plain 5 1 0 9 0 7 [5, 6]).build 5 0 1 5) 511)])) ∧
  ((fun (l : Fin 2) (slot : Fin 512) (start len : Nat) (s : State) =>
    ((s.wins l.val).find? fun w => w.1 == slot.val) = some (slot.val, start, len) ∧ s.time.noWin = false ∧
    s.now % 31250 ≤ start ∧ s.inReset 0x0D = false ∧ s.now < 2 ^ 63) 1 3 100 200 ((hub.wr (RPE_SCHED 1 0) (BitVec.ofNat 32 (3 + 1024 + 100 * 65536))).wr (RPE_SCHED 1 1) 200)) ∧
  ((fun (p : Fin 5) (x : QFrame) (r : List QFrame) (s : State) =>
    s.queue p.val 1 = x :: r ∧ frSched x.f = 1 ∧ s.staleAt x.f < s.now ∧ s.fwd.locWait = [] ∧ s.roomy ∧
    s.inReset 0x0D = false ∧ s.inReset 0x0F = false ∧ s.time.dlQ.length < 16) 1 sf [sf] ((hub.setQueue 1 1 [sf, sf]).wr64 TIME_SPINDLE 1000000)) ∧
  ((fun (qi : Fin 9) (x : QFrame) (r : List QFrame) (s : State) =>
    s.open_ 0x0D = true ∧ s.queue 4 qi.val = x :: r ∧ frKind x.f = 2 ∧
    (x.cells.all fun c => (List.range 16).all fun k => (s.mark (16 * c + k)).isNone) = true ∧ frClass x.f = 5 ∧
    bits (frWord x.f 0) 0 8 = 5 ∧ bits (frWord x.f 0) 16 16 = s.get CFG_COMMIT_CID ∧ s.get CFG_STAT_STATE = 3 ∧
    s.inReset 0x04 = false ∧ s.fwd.locWait = []) 3 cfF [] (((hub.setQueue 4 3 [cfF]).put CFG_STAT_STATE 3).put CFG_COMMIT_CID 7)) ∧
  ((fun (qi : Fin 9) (_u : Option Upset) (s : State) =>
    s.queue 4 qi.val = []) 3 none hub) := by
  refine ⟨?_, ?_, ?_, ?_, ?_, ?_, ?_, ?_, ?_, ?_⟩ <;> decide +kernel

/-- The hypotheses of DrainsAndFences, clause 1 to 8, hold together. -/
theorem test_hyp_DrainsAndFences :
  ((fun (q frm id pins : Nat) (es : List (Nat × Nat × Nat)) (w : DWord) (s : State) =>
    s.inReset 0x0D = false ∧ s.fwd.drains = [⟨q, frm, id, es, pins⟩] ∧ q < 4 ∧ frm < 2 ∧ id < 65536 ∧
    bits w.toNat 0 8 = 1 ∧ bits w.toNat 8 3 = q ∧ bits w.toNat 12 1 = frm ∧ bits w.toNat 16 16 = id ∧
    Tab.get (fun _ => 0) s.fwd.lastMark (2 * q + frm) = id ∧ s.fwd.held = [] ∧ s.fwd.locWait = []) 2 1 7 5 [] (BitVec.ofNat 64 (1 + 2 * 256 + 4096 + 7 * 65536)) (dr 2 1)) ∧
  ((fun (w : DWord) (s : State) =>
    (∀ k, k < 16 → Tab.get (fun _ => 0) s.fwd.lastMark k ≠ bits w.toNat 16 16)) (BitVec.ofNat 64 (1 + 2 * 256 + 4096 + 8 * 65536)) (dr 2 1)) ∧
  ((fun (q : Fin 6) (frm : Fin 2) (id pins : Nat) (es : List (Nat × Nat × Nat)) (s : State) =>
    s.inReset 0x0D = false ∧ s.fwd.drains = [⟨q.val, frm.val, id, es, pins⟩] ∧ s.fwd.held = [] ∧ s.fwd.locWait = [] ∧
    s.roomy) 2 1 7 5 [] (dr 2 1)) ∧
  ((fun (s : State) =>
    s.inReset 0x0D = false ∧ s.on FWD_FENCE_BUSY = false) (hub.put FWD_STAT_GEN 3)) ∧
  ((fun (s : State) =>
    s.inReset 0x0D = false ∧ s.on FWD_FENCE_BUSY = true) (hub.put FWD_FENCE_BUSY 1)) ∧
  ((fun (s : State) =>
    s.inReset 0x0D = false ∧ s.on FWD_FENCE_BUSY = true ∧ s.olderFrames = 0) (hub.put FWD_FENCE_BUSY 1)) ∧
  ((fun (s : State) =>
    s.olderFrames ≠ 0) ((hub.setQueue 1 1 [sf, sf]).put FWD_STAT_GEN 1)) ∧
  ((fun (s : State) =>
    s.inReset 0x0D = false ∧ s.on FWD_FENCE_BUSY = true) (((hub.setQueue 1 1 [sf, sf]).put FWD_STAT_GEN 1).put FWD_FENCE_BUSY 1)) := by
  refine ⟨?_, ?_, ?_, ?_, ?_, ?_, ?_, ?_⟩ <;> decide +kernel

end C07

namespace C09

def rg (s : State) : State := (s.put RED_STAT_CW 0).put RED_STAT_CCW 0
def rdx (s : State) (f : RedSt → RedSt) : State := { s with red := f s.red }
def brk (l n h : Nat) (s : State) : State := rdx s fun r => { r with brk := [(l, some (n, h))] }
def tw (st : Nat) : State := rdx (((hub.put RED_TWIN_CTL_TWIN 1).put RED_TWIN_STAT_STATE st).put MPC_MODE_CUR 2 |>.put MPC_MODE_BOOTING 0) fun r => { r with twinOn := true }
def nr (s : State) : State := s.put RED_TWIN_CTL_AUTO_REVERT 0
def hi (s : State) : State := s.put RED_TWIN_STAT_ANCHOR_IN 1
def hl (s : State) : State := { s with sys := { s.sys with recordOn := true } }

/-- The hypotheses of RingDirections, clause 1 to 12, hold together. -/
theorem test_hyp_RingDirections_1 :
  ((fun (dir : Fin 2) (c : Nat) (s : State) =>
    s.inReset 0x0E = false ∧ s.listed = true ∧ s.lossDue dir.val = some c ∧ c < 256 ∧ s.now < 2 ^ 64 ∧ s.roomy ∧
    s.mode ≠ 3 ∧ s.open_ 0x0D = true ∧ s.laneUp dir.val = false ∧ s.dirState (1 - dir.val) = 0 ∧
    s.blocked (1 - dir.val) = false ∧ (∀ qi, qi < 9 → s.queue dir.val qi = []) ∧ s.fwd.held = [] ∧
    s.fwd.locWait = [] ∧ s.fwd.drains = [] ∧ s.occ (1 - dir.val) 0 + 1 ≤ s.limit (1 - dir.val) 0) 0 5 (rdx (rg hub) fun r => { r with due := [(0, some 5)] })) ∧
  ((fun (dir : Fin 2) (s : State) =>
    s.inReset 0x0E = false ∧ s.lossDue dir.val = none) 0 hub) ∧
  ((fun (dir : Fin 2) (s : State) =>
    s.inReset 0x0E = false ∧ s.dirState dir.val = 1 ∧ s.red.wrapping.testBit dir.val = true ∧ s.now < 2 ^ 64) 0 (rdx hub fun r => { r with wrapping := 1 })) ∧
  ((fun (dir : Fin 2) (s : State) =>
    s.inReset 0x0E = false ∧ s.listed = true ∧ s.dirLost dir.val = true ∧ s.open_ 0x0D = true ∧
    s.dirState (1 - dir.val) = 0 ∧ s.blocked (1 - dir.val) = false ∧ s.fwd.locWait = [] ∧
    s.occ (1 - dir.val) 0 + 1 ≤ s.limit (1 - dir.val) 0) 0 (hub.put RED_STAT_CCW 0)) ∧
  ((fun (lost : Fin 2) (_node : BitVec 8) (_chip : Fin 4) (hops : BitVec 10) (s : State) =>
    s.inReset 0x0E = false ∧ s.brkOf lost.val = none ∧ s.dirState lost.val = 0 ∧ s.reach lost.val = 255 ∧
    hops.toNat < 255 ∧ s.fwd.drains = [] ∧ s.fwd.held = [] ∧ s.fwd.locWait = []) 1 9 2 7 (rg hub)) ∧
  ((fun (lost : Fin 2) (_node : BitVec 8) (_chip : Fin 4) (_hops : BitVec 10) (s : State) =>
    s.inReset 0x0E = false ∧ s.dirLost lost.val = true ∧ s.brkOf lost.val = none) 1 9 2 7 hub) ∧
  ((fun (lost : Fin 2) (node : BitVec 8) (chip : Fin 4) (hops : BitVec 10) (n h : Nat) (s : State) =>
    s.inReset 0x0E = false ∧ s.brkOf lost.val = some (n, h) ∧ n ≠ 4 * node.toNat + chip.val ∧ h ≤ hops.toNat) 1 9 1 7 38 6 (brk 1 38 6 hub) ) ∧
  ((fun (lost : Fin 2) (node : BitVec 8) (chip : Fin 4) (h : Nat) (s : State) =>
    s.inReset 0x0E = false ∧ s.brkOf lost.val = some (4 * node.toNat + chip.val, h) ∧ s.dirLost lost.val = false ∧
    s.fwd.drains = [] ∧ s.fwd.held = [] ∧ s.fwd.locWait = []) 1 9 2 6 (brk 1 38 6 (rg hub))) ∧
  ((fun (lost : Fin 2) (node : BitVec 8) (chip : Fin 4) (n h : Nat) (s : State) =>
    s.inReset 0x0E = false ∧ s.brkOf lost.val = some (n, h) ∧ n ≠ 4 * node.toNat + chip.val) 1 9 1 38 6 (brk 1 38 6 (rg hub))) ∧
  ((fun (lost : Fin 2) (b : Nat × Nat) (s : State) =>
    s.inReset 0x0E = false ∧ s.brkOf lost.val = some b ∧ s.dirLost lost.val = false ∧ s.fwd.drains = [] ∧
    s.fwd.held = [] ∧ s.fwd.locWait = []) 1 (38, 6) (brk 1 38 6 (rg hub))) ∧
  ((fun (lost : Fin 2) (b : Nat × Nat) (s : State) =>
    s.inReset 0x0E = false ∧ s.brkOf lost.val = some b ∧ s.dirLost lost.val = true) 1 (38, 6) (brk 1 38 6 hub)) ∧
  ((fun (w : Fin 3) (s : State) =>
    s.inReset 0x0E = false ∧ s.red.gaps = 2 ^ w.val ∧ s.red.wrapping.testBit w.val = false) 2 (rdx hub fun r => { r with gaps := 4 })) := by
  refine ⟨?_, ?_, ?_, ?_, ?_, ?_, ?_, ?_, ?_, ?_, ?_, ?_⟩ <;> decide +kernel

/-- The hypotheses of RingDirections, clause 13 to 15, hold together. -/
theorem test_hyp_RingDirections_2 :
  ((fun (w : Fin 3) (s : State) =>
    s.inReset 0x0E = false ∧ s.red.wrapping.testBit w.val = true) 1 (rdx hub fun r => { r with gaps := 2, wrapping := 2 })) ∧
  ((fun (dir : Fin 2) (s : State) =>
    s.inReset 0x0E = false ∧ s.listed = true ∧ s.dirState dir.val = 2 ∧ s.dirState (1 - dir.val) = 0 ∧
    s.brkOf dir.val = none ∧ s.open_ 0x0D = true ∧ s.blocked 0 = false ∧ s.blocked 1 = false ∧ s.fwd.drains = [] ∧
    s.fwd.held = [] ∧ s.fwd.locWait = [] ∧ s.occ 0 0 + 1 ≤ s.limit 0 0 ∧ s.occ 1 0 + 1 ≤ s.limit 1 0) 1 ((rg hub).put RED_STAT_CCW 2)) ∧
  ((fun (dir : Fin 2) (s : State) =>
    s.inReset 0x0E = false ∧ s.red.unwrap = 2 ^ dir.val ∧ s.fwd.held = [] ∧ s.fwd.locWait = []) 1 (rdx hub fun r => { r with unwrap := 2 })) := by
  refine ⟨?_, ?_, ?_⟩ <;> decide +kernel

/-- The hypotheses of TwinAnchor, clause 1 to 11, hold together. -/
theorem test_hyp_TwinAnchor_1 :
  ((fun (s : State) =>
    s.inReset 0x0E = false ∧ s.get RED_TWIN_STAT_STATE = 0 ∧ s.on RED_TWIN_CTL_AUTO_REVERT = false ∧
    s.on RED_TWIN_LEFT_RUNNING = false) (nr (tw 0))) ∧
  ((fun (s : State) =>
    s.inReset 0x0E = false ∧ s.get RED_TWIN_STAT_STATE = 1 ∧ s.on RED_TWIN_CTL_TWIN = true ∧
    s.on ID_STRAP_TWIN_PREF = false ∧ s.on RED_TWIN_LEFT_RUNNING = false) (tw 1)) ∧
  ((fun (s : State) =>
    s.inReset 0x0E = false ∧ s.get RED_TWIN_STAT_STATE = 1 ∧ s.on ID_STRAP_TWIN_PREF = true ∧
    s.on RED_TWIN_LEFT_RUNNING = false) ((tw 1).put ID_STRAP_TWIN_PREF 1)) ∧
  ((fun (s : State) =>
    s.inReset 0x0E = false ∧ s.get RED_TWIN_STAT_STATE = 4 ∧ s.on RED_TWIN_CTL_AUTO_REVERT = false ∧
    s.on RED_TWIN_LEFT_RUNNING = false) (nr (tw 4))) ∧
  ((fun (s : State) =>
    s.inReset 0x0E = false ∧ s.get RED_TWIN_STAT_STATE = 0 ∧ s.on RED_TWIN_CTL_AUTO_TAKE = true ∧
    (s.leads = true ∨ s.on RED_TWIN_STAT_SEEN_HIGH = true) ∧ s.on RED_TWIN_LEFT_RUNNING = false) ((tw 0).put RED_TWIN_STAT_SEEN_HIGH 1)) ∧
  ((fun (s : State) =>
    s.inReset 0x0E = false ∧ s.get RED_TWIN_STAT_STATE = 1 ∧ s.on RED_TWIN_STAT_ANCHOR_IN = false) (tw 1)) ∧
  ((fun (s : State) =>
    s.inReset 0x0E = false ∧ s.get RED_TWIN_STAT_STATE = 1 ∧ s.on RED_TWIN_STAT_ANCHOR_IN = false) ((tw 1).put ID_STRAP_HEAD 1)) ∧
  ((fun (s : State) =>
    s.inReset 0x0E = false ∧ s.on RED_TWIN_STAT_ANCHOR_IN = true) (hi (tw 1))) ∧
  ((fun (s : State) =>
    s.inReset 0x0E = false ∧ s.get RED_TWIN_STAT_STATE = 3 ∧ s.eligible = true ∧ s.on RED_TWIN_STAT_ANCHOR_IN = false) (tw 3)) ∧
  ((fun (s : State) =>
    s.inReset 0x0E = false ∧ s.get RED_TWIN_STAT_STATE = 3 ∧ s.eligible = false) ((tw 3).put RED_TWIN_STAT_YLOCK 1)) ∧
  ((fun (s : State) =>
    s.inReset 0x0E = false ∧ s.get RED_TWIN_STAT_STATE = 4 ∧ s.on RED_TWIN_STAT_ANCHOR_IN = false) (tw 4)) ∧
  ((fun (s : State) =>
    s.inReset 0x0E = false ∧ s.get RED_TWIN_STAT_STATE = 0 ∧ s.on RED_TWIN_STAT_ANCHOR_IN = false ∧ s.leads = false ∧
    s.on RED_TWIN_CTL_AUTO_TAKE = true) (tw 0)) := by
  refine ⟨?_, ?_, ?_, ?_, ?_, ?_, ?_, ?_, ?_, ?_, ?_, ?_⟩ <;> decide +kernel

/-- The hypotheses of TwinAnchor, clause 12 to 23, hold together. -/
theorem test_hyp_TwinAnchor_2 :
  ((fun (s : State) =>
    s.inReset 0x0E = false ∧ s.get RED_TWIN_STAT_STATE = 0 ∧ s.on RED_TWIN_STAT_ANCHOR_IN = false) (tw 0)) ∧
  ((fun (s : State) =>
    s.inReset 0x0E = false ∧ s.get RED_TWIN_STAT_STATE ≠ 0) (tw 2)) ∧
  ((fun (s : State) =>
    s.inReset 0x0E = false ∧ s.get RED_TWIN_STAT_STATE = 2) (tw 2)) ∧
  ((fun (s : State) =>
    s.inReset 0x0E = false ∧ s.get RED_TWIN_STAT_STATE ≠ 2) (tw 1)) ∧
  ((fun (s : State) =>
    s.inReset 0x0E = false ∧ s.on RED_TWIN_CTL_TWIN = true ∧ s.get RED_TWIN_STAT_STATE ≠ 2) ((tw 0).put ID_STRAP_TWIN_PREF 1)) ∧
  ((fun (s : State) =>
    s.inReset 0x0E = false ∧ s.get RED_TWIN_STAT_STATE = 2) (tw 2)) ∧
  ((fun (s : State) =>
    s.inReset 0x0E = false ∧ s.get RED_TWIN_STAT_STATE = 5 ∧ s.red.twinOn = true ∧ s.on MPC_MODE_BOOTING = false ∧
    s.get MPC_MODE_CUR = 2 ∧ s.on RED_TWIN_STAT_CONFLICT = false ∧ s.on RED_TWIN_STAT_ANCHOR_IN = true) (hi ((tw 5).put RED_TWIN_STAT_YLOCK 1))) ∧
  ((fun (s : State) =>
    s.inReset 0x0E = false ∧ s.on RED_TWIN_CTL_TWIN = true ∧ s.healthy = true) (hl (tw 2))) ∧
  ((fun (s : State) =>
    s.inReset 0x0E = false ∧ (s.on RED_TWIN_CTL_TWIN = false ∨ s.healthy = false)) (tw 2)) ∧
  ((fun (s : State) =>
    s.inReset 0x0E = false ∧ s.on RED_TWIN_CTL_TWIN = true ∧ s.on RED_TWIN_CTL_AUTO_REVERT = false ∧
    s.on RED_TWIN_LEFT_RUNNING = false) (nr (tw 2))) ∧
  ((fun (s : State) =>
    s.inReset 0x0E = false ∧ s.on RED_TWIN_CTL_TWIN = true ∧ s.on RED_TWIN_CTL_HONOR_REQ = true ∧
    s.get RED_TWIN_STAT_STATE = 2) (tw 2)) ∧
  ((fun (s : State) =>
    s.inReset 0x0E = false ∧ s.on RED_TWIN_STAT_PARTNER_BEAT = true ∧ s.on RED_TWIN_LEFT_RUNNING = false ∧ s.roomy ∧
    s.mode ≠ 3) ((tw 2).put RED_TWIN_STAT_PARTNER_BEAT 1)) := by
  refine ⟨?_, ?_, ?_, ?_, ?_, ?_, ?_, ?_, ?_, ?_, ?_, ?_⟩ <;> decide +kernel

/-- The hypotheses of TwinAnchor, clause 24 to 27, hold together. -/
theorem test_hyp_TwinAnchor_3 :
  ((fun (s : State) =>
    s.inReset 0x0E = false ∧ s.get RED_TWIN_STAT_STATE = 0 ∧ s.on RED_TWIN_STAT_ANCHOR_IN = true ∧
    s.on RED_TWIN_STAT_PARTNER_BEAT = false ∧ s.roomy) (hi (tw 0))) ∧
  ((fun (s : State) =>
    s.inReset 0x0E = false ∧ s.on RED_TWIN_LEFT_RUNNING = true ∧ s.holdoffOn = true) ((rg (hi (hl (tw 0)))).put ID_STRAP_TWIN_PREF 1 |>.put RED_TWIN_STAT_PARTNER_BEAT 1 |>.put RED_TWIN_LEFT_RUNNING 1)) ∧
  ((fun (s : State) =>
    s.inReset 0x0E = false) (tw 0)) ∧
  ((fun (s : State) =>
    s.inReset 0x0E = false) (tw 0)) := by
  refine ⟨?_, ?_, ?_, ?_⟩ <;> decide +kernel

end C09

namespace C10

def tx (s : State) (f : TimeSt → TimeSt) : State := { s with time := f s.time }
def rm (s : State) : State := (List.range 5).foldl (fun s p => ((s.put (FWD_LIM_2_C5REQ p) 8).put (FWD_LIM_2_C4 p) 30)) s
def rg (s : State) : State := (s.put RED_STAT_CW 0).put RED_STAT_CCW 0
def up (p : Nat) (s : State) : State := ((s.put (TIME_PORT_CTL_PTP_EN p) 1).put (LANE_STAT_UP p) 1).put (LANE_STAT_VER p) 2
def gm : State := rg (rm (hub.put TIME_STAT_STATE 4))
def msg (ty dom : Nat) (tail : List Nat) : Frame := (FrameSpec.plain 4 0 4 0xFF 0 0 (byteWords ([ty, 0x12, 0, 44, dom, 0, 0, 0] ++ beBytes 8 0 ++ beBytes 4 0 ++ beBytes 8 77 ++ beBytes 2 1 ++ beBytes 2 9 ++ [0, 0] ++ beBytes 10 0 ++ tail))).build 9 0 1 5
def pv (p : Nat) (s : State) : State := s.put TIME_STAT_PD_VALID (2 ^ p)
def sl : State := (up 3 (pv 3 (hub.wr64 TIME_SPINDLE 100000000))).put TIME_CTL_ANY_GM 1 |>.put ID_STRAP_STACK_ID 1
def sm : State := (tx (sl.put TIME_STAT_STATE 1) fun x => { x with near := 15 }).wr64 TIME_SPINDLE 40
def fr3 : Frame := msg 3 0 (beBytes 8 0 ++ beBytes 2 2)
def so : State := tx (up 1 (hub.wr64 TIME_SPINDLE 1000)) fun x => { x with pdOpen := [(1, some (9, 131072000))], pdOk := [(1, 2)] }
def lk : State := tx (hub.put TIME_STAT_STATE 2) fun x => { x with fresh := 2 }

/-- A time in fs, whichever way it is rounded. -/
theorem fsUnits_or (x : Int) : fsUnits x = x * 65536 / 1000000 ∨ fsUnits x = x * 65536 / 1000000 + 1 := by
  unfold fsUnits roundDivI; split <;> simp

/-- A half, whichever way it is rounded. -/
theorem half_or (x : Int) : roundDivI x 2 = x / 2 ∨ roundDivI x 2 = x / 2 + 1 := by
  unfold roundDivI; split <;> simp


/-- The hypotheses of SpindleReads, clause 1 to 4, hold together. -/
theorem test_hyp_SpindleReads :
  ((fun (_who : Who) (s : State) =>
    s.inReset 0x0F = false) ⟨0, 5, 0⟩ (hub.wr64 TIME_SPINDLE 0x500000007)) ∧
  ((fun (_who : Who) (s : State) =>
    s.inReset 0x0F = false) ⟨0, 5, 0⟩ (hub.wr64 TIME_SPINDLE 0x500000007)) ∧
  ((fun (who : Who) (w : Word) (s : State) =>
    s.inReset 0x0F = false ∧ Tab.get (fun _ => none) s.time.latch (whoKey who) = some w) ⟨0, 5, 0⟩ 4 (tx (hub.wr64 TIME_SPINDLE 0x500000007) fun x => { x with latch := [(whoKey ⟨0, 5, 0⟩, some 4)] })) ∧
  ((fun (who : Who) (s : State) =>
    s.inReset 0x0F = false ∧ Tab.get (fun _ => none) s.time.latch (whoKey who) = none ∧ s.now < 2 ^ 64) ⟨0, 5, 0⟩ (hub.wr64 TIME_SPINDLE 0x500000007)) := by
  refine ⟨?_, ?_, ?_, ?_⟩ <;> decide +kernel

/-- The hypotheses of PtpMessages, clause 1 to 10, hold together. -/
theorem test_hyp_PtpMessages_1 :
  ((fun (port : Fin 3) (s : State) =>
    s.inReset 0x0F = false ∧ s.get TIME_STAT_STATE = 4 ∧ s.ptpRuns port.val = true ∧ s.listed = true ∧
    s.open_ 0x0D = true ∧ s.fwd.locWait = [] ∧ (s.dirState port.val = 0 ∨ port.val = 2) ∧
    s.blocked port.val = false ∧ s.chip < 3 ∧ s.gh320 = false ∧ s.occ port.val 4 + 5 ≤ s.limit port.val 4) 1 (up 1 gm)) ∧
  ((fun (port : Fin 3) (s : State) =>
    s.inReset 0x0F = false ∧ s.get TIME_STAT_STATE = 4 ∧ s.ptpRuns port.val = true ∧ s.listed = true ∧
    s.open_ 0x0D = true ∧ s.fwd.locWait = [] ∧ (s.dirState port.val = 0 ∨ port.val = 2) ∧
    s.blocked port.val = false ∧ s.chip < 3 ∧ s.gh320 = false ∧ s.occ port.val 4 + 5 ≤ s.limit port.val 4) 2 (up 2 gm)) ∧
  ((fun (_port : Fin 3) (s : State) =>
    s.get TIME_STAT_STATE ≠ 4) 1 (up 1 hub)) ∧
  ((fun (port : Fin 4) (f : Frame) (_age : BitVec 32) (s : State) =>
    s.inReset 0x0F = false ∧ s.on (TIME_PORT_CTL_PTP_EN port.val) = true ∧ s.get (LANE_STAT_VER port.val) = 2 ∧
    s.on (LANE_STAT_HOSTMODE port.val) = false ∧ ptpType f = 0 ∧ s.getBit TIME_STAT_PD_VALID port.val = false) 1 (msg 0 0 []) 5 (up 1 hub)) ∧
  ((fun (f : Frame) (_age : BitVec 32) (s : State) =>
    s.inReset 0x0F = false ∧ s.on (TIME_PORT_CTL_PTP_EN 3) = true ∧ s.get (LANE_STAT_VER 3) = 2 ∧
    s.on (LANE_STAT_HOSTMODE 3) = false ∧ ptpType f = 0 ∧ s.getBit TIME_STAT_PD_VALID 3 = true ∧
    s.ptpRuns 2 = false ∧ ptpDomain f = s.domain ∧ s.syncCounts f = false) (msg 0 0 []) 5 (up 3 (pv 3 hub))) ∧
  ((fun (f : Frame) (_age : BitVec 32) (s : State) =>
    s.inReset 0x0F = false ∧ s.on (TIME_PORT_CTL_PTP_EN 0) = true ∧ s.get (LANE_STAT_VER 0) = 2 ∧
    s.on (LANE_STAT_HOSTMODE 0) = false ∧ ptpType f = 0 ∧ s.getBit TIME_STAT_PD_VALID 0 = true ∧ s.ptpRuns 1 = true ∧
    s.ptpRuns 2 = false ∧ ptpDomain f ≠ s.domain ∧ frClass f = 4 ∧ frVc f = 0 ∧ frKind f = 4 ∧ frDst f = 0xFF ∧
    frDup f = 0 ∧ s.dirState 1 = 0 ∧ s.blocked 1 = false ∧ s.occ 1 4 + frCells f ≤ s.limit 1 4) (msg 0 9 []) 5 (rg (rm (up 1 (up 0 (pv 0 hub)))))) ∧
  ((fun (f : Frame) (age : BitVec 32) (ofs : Int) (s : State) =>
    s.inReset 0x0F = false ∧ s.master = false ∧ s.on (TIME_PORT_CTL_PTP_EN 3) = true ∧ s.get (LANE_STAT_VER 3) = 2 ∧
    s.on (LANE_STAT_HOSTMODE 3) = false ∧ ptpType f = 0 ∧ s.getBit TIME_STAT_PD_VALID 3 = true ∧
    s.ptpRuns 2 = false ∧ ptpDomain f = s.domain ∧ s.syncCounts f = true ∧
    ofs = s.rxStamp 3 age.toNat - (ptpTime f + ptpCorr (ptpPutCorr f (ptpCorr f + s.ingressDelay 3))) ∧
    s.stepTh * 262144 < ofs.natAbs ∧ s.get TIME_STAT_STATE = 0) (msg 0 0 []) 5 (sl.rxStamp 3 5 - (ptpTime (msg 0 0 []) + ptpCorr (ptpPutCorr (msg 0 0 []) (ptpCorr (msg 0 0 []) + sl.ingressDelay 3)))) sl) ∧
  ((fun (f : Frame) (age : BitVec 32) (ofs : Int) (s : State) =>
    s.inReset 0x0F = false ∧ s.master = false ∧ s.on (TIME_PORT_CTL_PTP_EN 3) = true ∧ s.get (LANE_STAT_VER 3) = 2 ∧
    s.on (LANE_STAT_HOSTMODE 3) = false ∧ ptpType f = 0 ∧ s.getBit TIME_STAT_PD_VALID 3 = true ∧
    s.ptpRuns 2 = false ∧ ptpDomain f = s.domain ∧ s.syncCounts f = true ∧
    ofs = s.rxStamp 3 age.toNat - (ptpTime f + ptpCorr (ptpPutCorr f (ptpCorr f + s.ingressDelay 3))) ∧
    ofs.natAbs ≤ s.stepTh * 262144 ∧ ofs.natAbs ≤ 6553600 ∧ s.get TIME_STAT_STATE = 1 ∧ s.time.near = 15) (msg 0 0 []) 5 (sm.rxStamp 3 5 - (ptpTime (msg 0 0 []) + ptpCorr (ptpPutCorr (msg 0 0 []) (ptpCorr (msg 0 0 []) + sm.ingressDelay 3)))) sm) ∧
  ((fun (port : Fin 4) (s : State) =>
    s.inReset 0x0F = false ∧ s.ptpRuns port.val = true ∧ s.listed = true ∧ s.open_ 0x0D = true ∧ s.fwd.locWait = [] ∧
    (s.dirState port.val = 0 ∨ 2 ≤ port.val) ∧ s.blocked port.val = false ∧ s.gh320 = false ∧
    s.occ port.val 4 + 6 ≤ s.limit port.val 4) 1 (up 1 gm)) ∧
  ((fun (port : Fin 4) (s : State) =>
    s.inReset 0x0F = false ∧ s.ptpRuns port.val = true ∧ s.listed = true ∧ s.open_ 0x0D = true ∧ s.fwd.locWait = [] ∧
    (s.dirState port.val = 0 ∨ 2 ≤ port.val) ∧ s.blocked port.val = false ∧ s.gh320 = false ∧
    s.occ port.val 4 + 6 ≤ s.limit port.val 4) 3 (up 3 gm)) ∧
  ((fun (port : Fin 4) (f : Frame) (_age : BitVec 32) (s : State) =>
    s.inReset 0x0F = false ∧ ptpType f = 2 ∧ ptpDomain f = s.domain ∧ s.ptpRuns port.val = true ∧ s.listed = true ∧
    s.open_ 0x0D = true ∧ s.fwd.locWait = [] ∧ (s.dirState port.val = 0 ∨ 2 ≤ port.val) ∧
    s.blocked port.val = false ∧ s.gh320 = false ∧ s.occ port.val 4 + 6 ≤ s.limit port.val 4) 1 (msg 2 0 (beBytes 10 0)) 5 (up 1 gm)) ∧
  ((fun (port : Fin 4) (f : Frame) (age : BitVec 32) (t1 : Nat) (trip d : Int) (s : State) =>
    s.inReset 0x0F = false ∧ ptpType f = 3 ∧ ptpDomain f = s.domain ∧ s.on (TIME_PORT_CTL_PTP_EN port.val) = true ∧
    s.get (LANE_STAT_VER port.val) = 2 ∧ s.on (LANE_STAT_HOSTMODE port.val) = false ∧
    Tab.get (fun _ => none) s.time.pdOpen port.val = some (ptpSeqId f, t1) ∧ payBE f 44 8 = s.clockId ∧
    payBE f 52 2 = port.val + 1 ∧ trip = s.rxStamp port.val age.toNat - t1 ∧ trip ≤ 10000000 * 65536 ∧
    ptpCorr f ≤ 1000000 * 65536 ∧ d = roundDivI (trip - ptpCorr f) 2 ∧ 0 ≤ d ∧ d ≤ 10000 * 65536 ∧
    Tab.get (fun _ => []) s.time.delays port.val = [] ∧ Tab.get (fun _ => 0) s.time.pdOk port.val = 2) 1 fr3 5 (131072000) (so.rxStamp 1 5 - (131072000)) (roundDivI (so.rxStamp 1 5 - (131072000) - ptpCorr fr3) 2) so) := ⟨by decide +kernel,
   by decide +kernel,
   by decide +kernel,
   by decide +kernel,
   by decide +kernel,
   by decide +kernel,
   (by
  have e : sl.rxStamp 3 5 = (100000000 * 262144 : Int) - 5 * 64 - fsUnits 148900000 := by
    unfold State.rxStamp
    rw [show sl.rxPathFs 3 = 148900000 by decide +kernel, show sl.now = 100000000 by decide +kernel]; rfl
  have z : ptpTime (msg 0 0 []) + ptpCorr (ptpPutCorr (msg 0 0 []) (ptpCorr (msg 0 0 []) + sl.ingressDelay 3)) = 0 := by
    decide +kernel
  have th : sl.stepTh = 250 := by decide +kernel
  refine ⟨by decide +kernel, by decide +kernel, by decide +kernel, by decide +kernel, by decide +kernel, by decide +kernel, by decide +kernel, by decide +kernel, by decide +kernel, by decide +kernel, rfl, ?_, by decide +kernel⟩
  show sl.stepTh * 262144 < (sl.rxStamp 3 5 - _ : Int).natAbs
  rw [e, z, th]
  rcases fsUnits_or 148900000 with h | h <;> rw [h] <;> decide),
   (by
  have e : sm.rxStamp 3 5 = (40 * 262144 : Int) - 5 * 64 - fsUnits 148900000 := by
    unfold State.rxStamp
    rw [show sm.rxPathFs 3 = 148900000 by decide +kernel, show sm.now = 40 by decide +kernel]; rfl
  have z : ptpTime (msg 0 0 []) + ptpCorr (ptpPutCorr (msg 0 0 []) (ptpCorr (msg 0 0 []) + sm.ingressDelay 3)) = 0 := by
    decide +kernel
  have th : sm.stepTh = 250 := by decide +kernel
  refine ⟨by decide +kernel, by decide +kernel, by decide +kernel, by decide +kernel, by decide +kernel, by decide +kernel, by decide +kernel, by decide +kernel, by decide +kernel, by decide +kernel, rfl, ?_, ?_, by decide +kernel, by decide +kernel⟩
  · show (sm.rxStamp 3 5 - _ : Int).natAbs ≤ sm.stepTh * 262144
    rw [e, z, th]
    rcases fsUnits_or 148900000 with h | h <;> rw [h] <;> decide
  · show (sm.rxStamp 3 5 - _ : Int).natAbs ≤ 6553600
    rw [e, z]
    rcases fsUnits_or 148900000 with h | h <;> rw [h] <;> decide),
   by decide +kernel,
   by decide +kernel,
   by decide +kernel,
   (by
  have e : so.rxStamp 1 5 = (1000 * 262144 : Int) - 5 * 64 - fsUnits 148900000 := by
    unfold State.rxStamp
    rw [show so.rxPathFs 1 = 148900000 by decide +kernel, show so.now = 1000 by decide +kernel]; rfl
  have z : ptpCorr fr3 = 0 := by decide +kernel
  refine ⟨by decide +kernel, by decide +kernel, by decide +kernel, by decide +kernel, by decide +kernel, by decide +kernel, by decide +kernel, by decide +kernel, by decide +kernel, rfl, ?_, by decide +kernel, rfl, ?_, ?_, by decide +kernel, by decide +kernel⟩
  · show so.rxStamp 1 5 - 131072000 ≤ 10000000 * 65536
    rw [e]
    rcases fsUnits_or 148900000 with h | h <;> rw [h] <;> decide
  · show 0 ≤ roundDivI (so.rxStamp 1 5 - 131072000 - ptpCorr fr3) 2
    rw [e, z]
    rcases fsUnits_or 148900000 with h | h <;> rw [h] <;>
      rcases half_or _ with g | g <;> rw [g] <;> decide
  · show roundDivI (so.rxStamp 1 5 - 131072000 - ptpCorr fr3) 2 ≤ 10000 * 65536
    rw [e, z]
    rcases fsUnits_or 148900000 with h | h <;> rw [h] <;>
      rcases half_or _ with g | g <;> rw [g] <;> decide)⟩

/-- The hypotheses of PtpMessages, clause 11 to 14, hold together. -/
theorem test_hyp_PtpMessages_2 :
  ((fun (port : Fin 4) (s : State) =>
    s.inReset 0x0F = false ∧ (Tab.get (fun _ => none) s.time.pdOpen port.val).isSome = true ∧
    s.get (TIME_PORT_STAT_FAILS port.val) = 2 ∧ s.roomy) 1 (so.put (TIME_PORT_STAT_FAILS 1) 2 |>.put TIME_STAT_PD_VALID 3)) ∧
  ((fun (port : Fin 4) (s : State) =>
    s.inReset 0x0F = false ∧ (Tab.get (fun _ => none) s.time.pdOpen port.val).isSome = true ∧
    s.get (TIME_PORT_STAT_FAILS port.val) ≠ 2) 1 (so.put (TIME_PORT_STAT_FAILS 1) 1 |>.put TIME_STAT_PD_VALID 3)) ∧
  ((fun (port : Fin 4) (f : Frame) (_age : BitVec 32) (s : State) =>
    s.inReset 0x0F = false ∧ s.on (TIME_PORT_CTL_PTP_EN port.val) = true ∧ s.get (LANE_STAT_VER port.val) = 2 ∧
    s.on (LANE_STAT_HOSTMODE port.val) = false ∧ ptpType f ∉ [0, 2, 3, 0xB, 0xC, 0xD]) 1 (msg 8 0 []) 5 (up 1 hub)) ∧
  ((fun (f : Frame) (_age : BitVec 32) (s : State) =>
    s.inReset 0x0F = false ∧ s.on (TIME_PORT_CTL_PTP_EN 0) = true ∧ s.get (LANE_STAT_VER 0) = 2 ∧
    s.on (LANE_STAT_HOSTMODE 0) = false ∧ ptpType f ∈ [0xB, 0xC, 0xD] ∧ s.ptpRuns 1 = true ∧ s.ptpRuns 2 = false ∧
    ptpDomain f ≠ s.domain ∧ frClass f = 4 ∧ frVc f = 0 ∧ frKind f = 4 ∧ frDst f = 0xFF ∧ frDup f = 0 ∧
    s.dirState 1 = 0 ∧ s.blocked 1 = false ∧ s.occ 1 4 + frCells f ≤ s.limit 1 4) (msg 0xB 9 []) 5 (rg (rm (up 1 (up 0 (pv 0 hub)))))) := by
  refine ⟨?_, ?_, ?_, ?_⟩ <;> decide +kernel

/-- The hypotheses of RingTimeServices, clause 1 to 12, hold together. -/
theorem test_hyp_RingTimeServices_1 :
  ((fun (port : Fin 4) (s : State) =>
    s.inReset 0x0F = false ∧ s.time.fresh = 2 ^ port.val ∧ (s.get TIME_STAT_STATE = 1 ∨ s.get TIME_STAT_STATE = 2) ∧
    s.now < 2 ^ 64 ∧ s.roomy) 1 lk) ∧
  ((fun (s : State) =>
    s.inReset 0x0F = false ∧ s.master = true ∧ s.time.fresh = 3) (tx lk fun x => { x with fresh := 3 })) ∧
  ((fun (_v : DWord) (s : State) =>
    s.inReset 0x0F = false) 0x123456789a hub) ∧
  ((fun (_w : Word) (s : State) =>
    s.inReset 0x0F = false ∧ s.time.setTo = none) 0xFFFFFFFF (tx hub fun x => { x with addBy := some 5 })) ∧
  ((fun (_w : Word) (v : Nat) (s : State) =>
    s.inReset 0x0F = false ∧ s.time.setTo = some v) 0xFFFFFFFF 77 (tx hub fun x => { x with setTo := some 77 })) ∧
  ((fun (v : Nat) (s : State) =>
    s.dark = false ∧ s.time.setTo = some v ∧ v < 2 ^ 64 ∧ s.now % 31250 = 0 ∧ s.time.stepAt = none ∧ s.roomy) 77 ((tx hub fun x => { x with setTo := some 77 }).wr64 TIME_SPINDLE 62500)) ∧
  ((fun (a : Int) (s : State) =>
    s.dark = false ∧ s.time.setTo = none ∧ s.time.addBy = some a ∧ s.now % 31250 = 0 ∧ s.time.stepAt = none ∧
    s.roomy ∧ 0 ≤ s.now + a ∧ s.now + a < 2 ^ 64) (-77) ((tx hub fun x => { x with addBy := some (-77) }).wr64 TIME_SPINDLE 62500)) ∧
  ((fun (s : State) =>
    s.stepPending = false) hub) ∧
  ((fun (s : State) =>
    s.dark = false ∧ s.stepPending = false ∧ s.time.cycAt = none ∧ s.now % 31250 ≠ 0 ∧ s.now < 2 ^ 63 ∧
    s.fwd.locWait = [] ∧ (∀ q, q < 64 → s.on (SQ_CFG_EN q) = false)) (hub.wr64 TIME_SPINDLE 62501)) ∧
  ((fun (s : State) =>
    s.inReset 0x0F = false ∧ s.on TIME_CTL_SYNTON = true ∧ s.get TIME_STAT_STATE = 2 ∧
    s.refGood (s.get TIME_STAT_SLAVE) = true ∧ s.get TIME_STAT_REF ≠ refCode (s.get TIME_STAT_SLAVE)) ((lk.put TIME_CTL_SYNTON 1).put TIME_STAT_SLAVE 1 |>.put (LANE_STAT_UP 1) 1)) ∧
  ((fun (r : Nat) (s : State) =>
    s.inReset 0x0F = false ∧ s.get TIME_STAT_REF = r ∧ r ≠ 0 ∧ s.get TIME_STAT_SLAVE ≠ (if r = 3 then 3 else r - 1)) 2 ((lk.put TIME_STAT_REF 2).put TIME_STAT_SLAVE 0)) ∧
  ((fun (s : State) =>
    s.ppsDriven = true) (let s := lk.put TIME_PPS_CTL_OUT_EN 1; { s with sys := { s.sys with recordOn := true } })) := by
  refine ⟨?_, ?_, ?_, ?_, ?_, ?_, ?_, ?_, ?_, ?_, ?_, ?_⟩ <;> decide +kernel

/-- The hypotheses of RingTimeServices, clause 13 to 22, hold together. -/
theorem test_hyp_RingTimeServices_2 :
  ((fun (s : State) =>
    s.on TIME_PPS_CTL_OUT_EN = false) hub) ∧
  ((fun (s : State) =>
    s.inReset 0x0F = false) (tx (lk.put TIME_PPS_CTL_OUT_EN 1) fun x => { x with ppsOut := true })) ∧
  ((fun (_frac : BitVec 6) (s : State) =>
    s.inReset 0x0F = false ∧ (s.get TIME_STAT_STATE ≠ 4 ∨ s.on TIME_CTL_PPS_DISC = false) ∧ s.now < 2 ^ 64) 9 (hub.wr64 TIME_SPINDLE 62501)) ∧
  ((fun (_frac : BitVec 6) (s : State) =>
    s.inReset 0x0F = false ∧ s.get TIME_STAT_STATE = 4 ∧ s.on TIME_CTL_PPS_DISC = true ∧ s.time.ppsSeen = false) 9 (gm.put TIME_CTL_PPS_DISC 1)) ∧
  ((fun (s : State) =>
    s.inReset 0x0F = false ∧ s.get TIME_STAT_STATE = 4 ∧ s.on TIME_CTL_PPS_DISC = true) (gm.put TIME_CTL_PPS_DISC 1)) ∧
  ((fun (_pin : Fin 4) (s : State) =>
    s.inReset 0x0F = false) 1 hub) ∧
  ((fun (_pin : Fin 4) (s : State) =>
    s.inReset 0x0F = false) 1 (hub.put TIME_FE_STAT_CAL_OK 3)) ∧
  ((fun (n : Fin 4) (s : State) =>
    s.inReset 0x0F = false ∧ s.on (TIME_MCG_CTL_EN n.val) = true) 1 (hub.put (TIME_MCG_CTL_EN 1) 1)) ∧
  ((fun (n : Fin 4) (s : State) =>
    s.inReset 0x0F = false ∧ s.on (TIME_MCG_CTL_EN n.val) = true) 1 (tx (hub.put (TIME_MCG_CTL_EN 1) 1) fun x => { x with mcgLvl := 3 })) ∧
  ((fun (n : Fin 4) (_fall : Bool) (s : State) =>
    s.on (TIME_MCG_CTL_EN n.val) = false) 1 true hub) := by
  refine ⟨?_, ?_, ?_, ?_, ?_, ?_, ?_, ?_, ?_, ?_⟩ <;> decide +kernel

end C10

namespace C11

def eng (w : Word) (s : State) : State := (s.put (GG_STAT_STATE 2) 1 |>.put (GG_STAT_PC 2) 5).setEng 2 { s.eng 2 with fetched := some w }
def sl (k pin : Nat) (s : State) : State := (s.put (GG_SLOT_VALID 2 k) 1).put (GG_SLOT_PIO 2 k) pin
def ex (s : State) (f : Eng → Eng) : State := s.setEng 2 (f (s.eng 2))
def W (op lo : Nat) : Word := BitVec.ofNat 32 (op * 2 ^ 28 + lo)
def sp (s : State) : State := s.wr64 TIME_SPINDLE 1000
def ef (m : Nat) (s : State) : State := { s.put GG_EF_EF m with gg := { s.gg with efBase := m } }
def full (s : State) : State := ex s fun e => { e with rx := List.replicate 16 7 }
def tb (T : Nat) (s : State) : State := (s.wr64 (GG_TB 2) T).put (GG_TSTEP_VALUE 2) 500

/-- The hypotheses of JumpConditions, clause 1 to 2, hold together. -/
theorem test_hyp_JumpConditions :
  ((fun (n : Fin 16) (_seen : DWord) (w : Word) (s : State) =>
    s.fetches n.val w 1 ∧ bits w.toNat 26 2 = 0) 2 0 (W 1 (9 + 0 * 2 ^ 17)) (eng (W 1 (9 + 0 * 2 ^ 17)) hub)) ∧
  ((fun (n : Fin 16) (_seen : DWord) (w : Word) (s : State) =>
    s.fetches n.val w 1 ∧ bits w.toNat 26 2 = 0) 2 8 (W 1 (9 + 11 * 2 ^ 17)) (eng (W 1 (9 + 11 * 2 ^ 17)) hub)) ∧
  ((fun (n : Fin 16) (_seen : DWord) (w : Word) (s : State) =>
    s.fetches n.val w 1 ∧ bits w.toNat 26 2 = 0) 2 8 (W 1 (9 + 15 * 2 ^ 17 + 3 * 2 ^ 13)) ({ eng (W 1 (9 + 15 * 2 ^ 17 + 3 * 2 ^ 13)) hub with gg := { (eng (W 1 (9 + 15 * 2 ^ 17 + 3 * 2 ^ 13)) hub).gg with efBase := 8 } })) ∧
  ((fun (n : Fin 16) (_seen : DWord) (w : Word) (s : State) =>
    s.engLive n.val = true ∧ (s.eng n.val).fetched = some w ∧ bits w.toNat 28 4 = 1 ∧
    (bits w.toNat 17 4 ∉ [5, 6, 15] ∧ bits w.toNat 13 4 ≠ 0 ∨ bits w.toNat 17 4 ∈ [5, 6] ∧ 7 < bits w.toNat 13 4)) 2 8 (W 1 (9 + 5 * 2 ^ 17 + 8 * 2 ^ 13)) (eng (W 1 (9 + 5 * 2 ^ 17 + 8 * 2 ^ 13)) hub)) ∧
  ((fun (n : Fin 16) (_seen : DWord) (w : Word) (s : State) =>
    s.engLive n.val = true ∧ (s.eng n.val).fetched = some w ∧ bits w.toNat 28 4 = 1 ∧
    (bits w.toNat 17 4 ∉ [5, 6, 15] ∧ bits w.toNat 13 4 ≠ 0 ∨ bits w.toNat 17 4 ∈ [5, 6] ∧ 7 < bits w.toNat 13 4)) 2 8 (W 1 (9 + 2 ^ 13)) (eng (W 1 (9 + 2 ^ 13)) hub)) := by
  refine ⟨?_, ?_, ?_, ?_, ?_⟩ <;> decide +kernel

/-- The hypotheses of EngineInstructions, clause 1 to 6, hold together. -/
theorem test_hyp_EngineInstructions_1 :
  ((fun (n : Fin 16) (w : Word) (s : State) =>
    s.fetches n.val w 0 ∧ plainWord w) 2 (W 0 0) ((eng (W 0 0) hub))) ∧
  ((fun (n : Fin 16) (seen : DWord) (w : Word) (s : State) =>
    s.fetches n.val w 2 ∧ plainWord w ∧ bit w.toNat 9 = false ∧
    (match bits w.toNat 16 4 with
      | 0 => s.slotRead n.val (bits w.toNat 10 6) seen == bit w.toNat 20
      | 1 => seen.toNat.testBit (bits w.toNat 10 6) == bit w.toNat 20
      | 2 => s.gg.mcgTick.testBit (bits w.toNat 10 6)
      | 3 => s.gg.efBase.testBit (bits w.toNat 10 6) == bit w.toNat 20
      | 4 => (s.pinsIn n.val 8 seen == s.get (GG_CMP_VALUE n.val) % 2 ^ min 8 (s.get (GG_MAP_IN_N n.val))) == bit w.toNat 20
      | 5 => decide (bits w.toNat 10 6 < (s.eng n.val).tx.length)
      | 6 => decide (bits w.toNat 10 6 + (s.eng n.val).rx.length < (s.fifoCaps n.val).2)
      | _ => (s.eng n.val).tick) = true ∧
    2 ≤ s.now ∧ s.now < 2 ^ 64) 2 8 (W 2 (0 * 2 ^ 16 + 2 * 2 ^ 10 + 1 * 2 ^ 20 + 0 * 2 ^ 9)) (sp (sl 2 3 (eng (W 2 (0 * 2 ^ 16 + 2 * 2 ^ 10 + 1 * 2 ^ 20 + 0 * 2 ^ 9)) hub)))) ∧
  ((fun (n : Fin 16) (seen : DWord) (w : Word) (s : State) =>
    s.fetches n.val w 2 ∧ plainWord w ∧ bit w.toNat 9 = false ∧
    (match bits w.toNat 16 4 with
      | 0 => s.slotRead n.val (bits w.toNat 10 6) seen == bit w.toNat 20
      | 1 => seen.toNat.testBit (bits w.toNat 10 6) == bit w.toNat 20
      | 2 => s.gg.mcgTick.testBit (bits w.toNat 10 6)
      | 3 => s.gg.efBase.testBit (bits w.toNat 10 6) == bit w.toNat 20
      | 4 => (s.pinsIn n.val 8 seen == s.get (GG_CMP_VALUE n.val) % 2 ^ min 8 (s.get (GG_MAP_IN_N n.val))) == bit w.toNat 20
      | 5 => decide (bits w.toNat 10 6 < (s.eng n.val).tx.length)
      | 6 => decide (bits w.toNat 10 6 + (s.eng n.val).rx.length < (s.fifoCaps n.val).2)
      | _ => (s.eng n.val).tick) = true ∧
    2 ≤ s.now ∧ s.now < 2 ^ 64) 2 8 (W 2 (3 * 2 ^ 16 + 15 * 2 ^ 10 + 0 * 2 ^ 20 + 0 * 2 ^ 9)) (sp (eng (W 2 (3 * 2 ^ 16 + 15 * 2 ^ 10 + 0 * 2 ^ 20 + 0 * 2 ^ 9)) hub))) ∧
  ((fun (n : Fin 16) (seen : DWord) (w : Word) (s : State) =>
    s.fetches n.val w 2 ∧ plainWord w ∧ bit w.toNat 9 = false ∧
    (match bits w.toNat 16 4 with
      | 0 => s.slotRead n.val (bits w.toNat 10 6) seen == bit w.toNat 20
      | 1 => seen.toNat.testBit (bits w.toNat 10 6) == bit w.toNat 20
      | 2 => s.gg.mcgTick.testBit (bits w.toNat 10 6)
      | 3 => s.gg.efBase.testBit (bits w.toNat 10 6) == bit w.toNat 20
      | 4 => (s.pinsIn n.val 8 seen == s.get (GG_CMP_VALUE n.val) % 2 ^ min 8 (s.get (GG_MAP_IN_N n.val))) == bit w.toNat 20
      | 5 => decide (bits w.toNat 10 6 < (s.eng n.val).tx.length)
      | 6 => decide (bits w.toNat 10 6 + (s.eng n.val).rx.length < (s.fifoCaps n.val).2)
      | _ => (s.eng n.val).tick) = true ∧
    2 ≤ s.now ∧ s.now < 2 ^ 64) 2 8 (W 2 (7 * 2 ^ 16 + 0 * 2 ^ 10 + 1 * 2 ^ 20 + 0 * 2 ^ 9)) (sp (ex (eng (W 2 (7 * 2 ^ 16 + 0 * 2 ^ 10 + 1 * 2 ^ 20 + 0 * 2 ^ 9)) hub) fun e => { e with tick := true }))) ∧
  ((fun (n : Fin 16) (seen : DWord) (w : Word) (s : State) =>
    s.fetches n.val w 2 ∧ plainWord w ∧
    (match bits w.toNat 16 4 with
      | 0 => s.slotRead n.val (bits w.toNat 10 6) seen == bit w.toNat 20
      | 1 => seen.toNat.testBit (bits w.toNat 10 6) == bit w.toNat 20
      | 2 => s.gg.mcgTick.testBit (bits w.toNat 10 6)
      | 3 => s.gg.efBase.testBit (bits w.toNat 10 6) == bit w.toNat 20
      | 4 => (s.pinsIn n.val 8 seen == s.get (GG_CMP_VALUE n.val) % 2 ^ min 8 (s.get (GG_MAP_IN_N n.val))) == bit w.toNat 20
      | 5 => decide (bits w.toNat 10 6 < (s.eng n.val).tx.length)
      | 6 => decide (bits w.toNat 10 6 + (s.eng n.val).rx.length < (s.fifoCaps n.val).2)
      | _ => (s.eng n.val).tick) = false) 2 0 (W 2 (0 * 2 ^ 16 + 2 * 2 ^ 10 + 1 * 2 ^ 20 + 0 * 2 ^ 9)) (sp (sl 2 3 (eng (W 2 (0 * 2 ^ 16 + 2 * 2 ^ 10 + 1 * 2 ^ 20 + 0 * 2 ^ 9)) hub)))) ∧
  ((fun (n : Fin 16) (seen : DWord) (w : Word) (s : State) =>
    s.fetches n.val w 2 ∧ plainWord w ∧
    (match bits w.toNat 16 4 with
      | 0 => s.slotRead n.val (bits w.toNat 10 6) seen == bit w.toNat 20
      | 1 => seen.toNat.testBit (bits w.toNat 10 6) == bit w.toNat 20
      | 2 => s.gg.mcgTick.testBit (bits w.toNat 10 6)
      | 3 => s.gg.efBase.testBit (bits w.toNat 10 6) == bit w.toNat 20
      | 4 => (s.pinsIn n.val 8 seen == s.get (GG_CMP_VALUE n.val) % 2 ^ min 8 (s.get (GG_MAP_IN_N n.val))) == bit w.toNat 20
      | 5 => decide (bits w.toNat 10 6 < (s.eng n.val).tx.length)
      | 6 => decide (bits w.toNat 10 6 + (s.eng n.val).rx.length < (s.fifoCaps n.val).2)
      | _ => (s.eng n.val).tick) = false) 2 0 (W 2 (6 * 2 ^ 16 + 31 * 2 ^ 10 + 1 * 2 ^ 20 + 0 * 2 ^ 9)) (sp (eng (W 2 (6 * 2 ^ 16 + 31 * 2 ^ 10 + 1 * 2 ^ 20 + 0 * 2 ^ 9)) hub))) ∧
  ((fun (n : Fin 16) (seen : DWord) (w : Word) (s : State) =>
    s.fetches n.val w 2 ∧ plainWord w ∧
    (match bits w.toNat 16 4 with
      | 0 => s.slotRead n.val (bits w.toNat 10 6) seen == bit w.toNat 20
      | 1 => seen.toNat.testBit (bits w.toNat 10 6) == bit w.toNat 20
      | 2 => s.gg.mcgTick.testBit (bits w.toNat 10 6)
      | 3 => s.gg.efBase.testBit (bits w.toNat 10 6) == bit w.toNat 20
      | 4 => (s.pinsIn n.val 8 seen == s.get (GG_CMP_VALUE n.val) % 2 ^ min 8 (s.get (GG_MAP_IN_N n.val))) == bit w.toNat 20
      | 5 => decide (bits w.toNat 10 6 < (s.eng n.val).tx.length)
      | 6 => decide (bits w.toNat 10 6 + (s.eng n.val).rx.length < (s.fifoCaps n.val).2)
      | _ => (s.eng n.val).tick) = false) 2 0 (W 2 (3 * 2 ^ 16 + 2 * 2 ^ 10 + 1 * 2 ^ 20 + 1 * 2 ^ 9)) (sp (eng (W 2 (3 * 2 ^ 16 + 2 * 2 ^ 10 + 1 * 2 ^ 20 + 1 * 2 ^ 9)) hub))) ∧
  ((fun (n : Fin 16) (_seen : DWord) (w : Word) (i : Nat) (s : State) =>
    s.fetches n.val w 2 ∧ plainWord w ∧ bits w.toNat 16 4 = 3 ∧ bit w.toNat 9 = true ∧ bits w.toNat 10 6 = i ∧
    s.gg.efBase.testBit i = true ∧ s.now < 2 ^ 64 ∧ s.gg.efSet.testBit i = false) 2 8 (W 2 (3 * 2 ^ 16 + 2 * 2 ^ 10 + 1 * 2 ^ 20 + 1 * 2 ^ 9)) 2 (ef 4 (sp (eng (W 2 (3 * 2 ^ 16 + 2 * 2 ^ 10 + 1 * 2 ^ 20 + 1 * 2 ^ 9)) hub)))) ∧
  ((fun (n : Fin 16) (seen : DWord) (w : Word) (k sr base out into m : Nat) (s : State) =>
    s.fetches n.val w 3 ∧ plainWord w ∧ bits w.toNat 14 5 + 1 = k ∧ bits w.toNat 19 2 = m ∧
    s.get (GG_SR_VALUE n.val) = sr ∧ out = (if s.on (GG_MAP_DIR n.val) then sr % 2 ^ k else sr / 2 ^ (32 - k)) ∧
    base = (if s.on (GG_MAP_DIR n.val) then sr / 2 ^ k else sr * 2 ^ k % 2 ^ 32) ∧
    into = (if s.on (GG_MAP_DIR n.val) then s.pinsIn n.val k seen * 2 ^ (32 - k) % 2 ^ 32 else s.pinsIn n.val k seen)) 2 8 (W 3 (1 * 2 ^ 19 + 3 * 2 ^ 14)) 4 2435007847 305419888 9 1 1 (((sl 0 3 (eng (W 3 (1 * 2 ^ 19 + 3 * 2 ^ 14)) hub)).put (GG_MAP_IN_N 2) 3 |>.put (GG_MAP_OUT_N 2) 3 |>.put (GG_SR_VALUE 2) 2435007847 |>.put (GG_MAP_DIR 2) 0))) ∧
  ((fun (n : Fin 16) (seen : DWord) (w : Word) (k sr base out into m : Nat) (s : State) =>
    s.fetches n.val w 3 ∧ plainWord w ∧ bits w.toNat 14 5 + 1 = k ∧ bits w.toNat 19 2 = m ∧
    s.get (GG_SR_VALUE n.val) = sr ∧ out = (if s.on (GG_MAP_DIR n.val) then sr % 2 ^ k else sr / 2 ^ (32 - k)) ∧
    base = (if s.on (GG_MAP_DIR n.val) then sr / 2 ^ k else sr * 2 ^ k % 2 ^ 32) ∧
    into = (if s.on (GG_MAP_DIR n.val) then s.pinsIn n.val k seen * 2 ^ (32 - k) % 2 ^ 32 else s.pinsIn n.val k seen)) 2 8 (W 3 (2 * 2 ^ 19 + 31 * 2 ^ 14)) 32 2435007847 0 2435007847 1 2 (((sl 0 3 (eng (W 3 (2 * 2 ^ 19 + 31 * 2 ^ 14)) hub)).put (GG_MAP_IN_N 2) 3 |>.put (GG_MAP_OUT_N 2) 3 |>.put (GG_SR_VALUE 2) 2435007847 |>.put (GG_MAP_DIR 2) 1))) ∧
  ((fun (n : Fin 16) (seen : DWord) (w : Word) (k sr base out into m : Nat) (s : State) =>
    s.fetches n.val w 3 ∧ plainWord w ∧ bits w.toNat 14 5 + 1 = k ∧ bits w.toNat 19 2 = m ∧
    s.get (GG_SR_VALUE n.val) = sr ∧ out = (if s.on (GG_MAP_DIR n.val) then sr % 2 ^ k else sr / 2 ^ (32 - k)) ∧
    base = (if s.on (GG_MAP_DIR n.val) then sr / 2 ^ k else sr * 2 ^ k % 2 ^ 32) ∧
    into = (if s.on (GG_MAP_DIR n.val) then s.pinsIn n.val k seen * 2 ^ (32 - k) % 2 ^ 32 else s.pinsIn n.val k seen)) 2 8 (W 3 (1 * 2 ^ 19 + 2 * 2 ^ 14)) 3 2435007847 304375980 7 536870912 1 (((sl 0 3 (eng (W 3 (1 * 2 ^ 19 + 2 * 2 ^ 14)) hub)).put (GG_MAP_IN_N 2) 3 |>.put (GG_MAP_OUT_N 2) 3 |>.put (GG_SR_VALUE 2) 2435007847 |>.put (GG_MAP_DIR 2) 1))) ∧
  ((fun (n : Fin 16) (w : Word) (v : Word) (r : List Word) (d x : Nat) (s : State) =>
    s.fetches n.val w 4 ∧ plainWord w ∧ bits w.toNat 18 3 = d ∧ d ≠ 7 ∧ (s.eng n.val).tx = v :: r ∧
    (bit w.toNat 16 = false ∨ s.chanOf n.val = none) ∧ v.toNat = x) 2 (W 4 (0 * 2 ^ 18)) 77 [5] 0 77 (ex (eng (W 4 (0 * 2 ^ 18)) hub) fun e => { e with tx := [77, 5] })) := by
  refine ⟨?_, ?_, ?_, ?_, ?_, ?_, ?_, ?_, ?_, ?_, ?_, ?_⟩ <;> decide +kernel

/-- The hypotheses of EngineInstructions, clause 6 to 12, hold together. -/
theorem test_hyp_EngineInstructions_2 :
  ((fun (n : Fin 16) (w : Word) (v : Word) (r : List Word) (d x : Nat) (s : State) =>
    s.fetches n.val w 4 ∧ plainWord w ∧ bits w.toNat 18 3 = d ∧ d ≠ 7 ∧ (s.eng n.val).tx = v :: r ∧
    (bit w.toNat 16 = false ∨ s.chanOf n.val = none) ∧ v.toNat = x) 2 (W 4 (5 * 2 ^ 18)) 77 [5] 5 77 (ex (eng (W 4 (5 * 2 ^ 18)) hub) fun e => { e with tx := [77, 5] })) ∧
  ((fun (n : Fin 16) (w : Word) (v : Word) (r : List Word) (d x : Nat) (s : State) =>
    s.fetches n.val w 4 ∧ plainWord w ∧ bits w.toNat 18 3 = d ∧ d ≠ 7 ∧ (s.eng n.val).tx = v :: r ∧
    (bit w.toNat 16 = false ∨ s.chanOf n.val = none) ∧ v.toNat = x) 2 (W 4 (1 * 2 ^ 16)) 77 [] 0 77 (ex (eng (W 4 (1 * 2 ^ 16)) hub) fun e => { e with tx := [77] })) ∧
  ((fun (n : Fin 16) (w a b : Word) (r : List Word) (s : State) =>
    s.fetches n.val w 4 ∧ plainWord w ∧ bits w.toNat 18 3 = 7 ∧ (s.eng n.val).tx = a :: b :: r) 2 (W 4 (7 * 2 ^ 18)) 77 5 [] (ex (eng (W 4 (7 * 2 ^ 18)) hub) fun e => { e with tx := [77, 5] })) ∧
  ((fun (n : Fin 16) (w v : Word) (r : List Word) (c : Fin 8) (a z : Int) (s : State) =>
    s.fetches n.val w 4 ∧ plainWord w ∧ bits w.toNat 18 3 = 0 ∧ bit w.toNat 16 = true ∧ (s.eng n.val).tx = v :: r ∧
    s.chanOf n.val = some c.val ∧ a = (s.pilotTake n.val).1 ∧
    z = min (2 ^ 31 - 1) (max (-2 ^ 31) (sext 32 v.toNat + 256 * a))) 2 (W 4 (1 * 2 ^ 16)) 0x7FFFFFFF [] 3 0 (2^31-1) (((ex (eng (W 4 (1 * 2 ^ 16)) hub) fun e => { e with tx := [0x7FFFFFFF] }).put (LSV_LS_CTL_EN 3) 1 |>.put (LSV_LS_CTL_ENGINE 3) 2 |>.put (LSV_LS_CTL_PILOT_EN 3) 1 |>.put (LSV_LS_SCALE_SCALE 3) 100))) ∧
  ((fun (n : Fin 16) (w v : Word) (r : List Word) (c : Fin 8) (a z : Int) (s : State) =>
    s.fetches n.val w 4 ∧ plainWord w ∧ bits w.toNat 18 3 = 0 ∧ bit w.toNat 16 = true ∧ (s.eng n.val).tx = v :: r ∧
    s.chanOf n.val = some c.val ∧ a = (s.pilotTake n.val).1 ∧
    z = min (2 ^ 31 - 1) (max (-2 ^ 31) (sext 32 v.toNat + 256 * a))) 2 (W 4 (1 * 2 ^ 16)) 0x7FFFFFFF [] 3 833333 (2^31-1) (((fun s : State => s.setCh 3 { s.lsCh 3 with pilot := ⟨true, 14112000 / 4, 0, 1, 1000000, 2000⟩ }) ((ex (eng (W 4 (1 * 2 ^ 16)) hub) fun e => { e with tx := [0x7FFFFFFF] }).put (LSV_LS_CTL_EN 3) 1 |>.put (LSV_LS_CTL_ENGINE 3) 2 |>.put (LSV_LS_CTL_PILOT_EN 3) 1 |>.put (LSV_LS_SCALE_SCALE 3) 100)))) ∧
  ((fun (n : Fin 16) (w : Word) (s : State) =>
    s.fetches n.val w 4 ∧ plainWord w ∧ bit w.toNat 17 = false ∧
    (s.eng n.val).tx.length < (if bits w.toNat 18 3 = 7 then 2 else 1)) 2 (W 4 (0)) ((eng (W 4 (0)) hub))) ∧
  ((fun (n : Fin 16) (w : Word) (s : State) =>
    s.fetches n.val w 4 ∧ plainWord w ∧ bit w.toNat 17 = false ∧
    (s.eng n.val).tx.length < (if bits w.toNat 18 3 = 7 then 2 else 1)) 2 (W 4 (7 * 2 ^ 18)) (ex (eng (W 4 (7 * 2 ^ 18)) hub) fun e => { e with tx := [77] })) ∧
  ((fun (n : Fin 16) (w : Word) (d : Nat) (s : State) =>
    s.fetches n.val w 4 ∧ plainWord w ∧ bits w.toNat 18 3 = d ∧ d ≠ 7 ∧ bit w.toNat 17 = true ∧
    (bit w.toNat 16 = false ∨ s.chanOf n.val = none) ∧ (s.eng n.val).tx = []) 2 (W 4 (0 * 2 ^ 18 + 1 * 2 ^ 17)) 0 ((eng (W 4 (0 * 2 ^ 18 + 1 * 2 ^ 17)) hub))) ∧
  ((fun (n : Fin 16) (w : Word) (d : Nat) (s : State) =>
    s.fetches n.val w 4 ∧ plainWord w ∧ bits w.toNat 18 3 = d ∧ d ≠ 7 ∧ bit w.toNat 17 = true ∧
    (bit w.toNat 16 = false ∨ s.chanOf n.val = none) ∧ (s.eng n.val).tx = []) 2 (W 4 (4 * 2 ^ 18 + 1 * 2 ^ 17)) 4 ((eng (W 4 (4 * 2 ^ 18 + 1 * 2 ^ 17)) hub))) ∧
  ((fun (n : Fin 16) (w : Word) (d : Nat) (s : State) =>
    s.fetches n.val w 4 ∧ plainWord w ∧ bits w.toNat 18 3 = d ∧ d ≠ 7 ∧ bit w.toNat 17 = true ∧
    (bit w.toNat 16 = false ∨ s.chanOf n.val = none) ∧ (s.eng n.val).tx = []) 2 (W 4 (1 * 2 ^ 16 + 1 * 2 ^ 17)) 0 ((eng (W 4 (1 * 2 ^ 16 + 1 * 2 ^ 17)) hub))) ∧
  ((fun (n : Fin 16) (w : Word) (s : State) =>
    s.fetches n.val w 4 ∧ plainWord w ∧ bits w.toNat 18 3 = 7 ∧ bit w.toNat 17 = true ∧ (s.eng n.val).tx.length < 2) 2 (W 4 (7 * 2 ^ 18 + 1 * 2 ^ 17)) (ex (eng (W 4 (7 * 2 ^ 18 + 1 * 2 ^ 17)) hub) fun e => { e with tx := [77] })) ∧
  ((fun (n : Fin 16) (w : Word) (s : State) =>
    s.fetches n.val w 5 ∧ plainWord w ∧ (s.eng n.val).rx.length < (s.fifoCaps n.val).2) 2 (W 5 (0 * 2 ^ 18)) (((eng (W 5 (0 * 2 ^ 18)) hub).put (GG_SR_VALUE 2) 0x91234567 |>.put (GG_FIFO_SPLIT 2) 2))) := by
  refine ⟨?_, ?_, ?_, ?_, ?_, ?_, ?_, ?_, ?_, ?_, ?_, ?_⟩ <;> decide +kernel

/-- The hypotheses of EngineInstructions, clause 12 to 18, hold together. -/
theorem test_hyp_EngineInstructions_3 :
  ((fun (n : Fin 16) (w : Word) (s : State) =>
    s.fetches n.val w 5 ∧ plainWord w ∧ (s.eng n.val).rx.length < (s.fifoCaps n.val).2) 2 (W 5 (4 * 2 ^ 18)) (((eng (W 5 (4 * 2 ^ 18)) hub).put (GG_SR_VALUE 2) 0x91234567 |>.put (GG_FIFO_SPLIT 2) 2))) ∧
  ((fun (n : Fin 16) (w : Word) (s : State) =>
    s.fetches n.val w 5 ∧ plainWord w ∧ (s.eng n.val).rx.length < (s.fifoCaps n.val).2) 2 (W 5 (1 * 2 ^ 16)) (((eng (W 5 (1 * 2 ^ 16)) hub).put (GG_SR_VALUE 2) 0x91234567 |>.put (GG_MAP_DIR 2) 1 |>.put (GG_SCF_SC 2) 5))) ∧
  ((fun (n : Fin 16) (w : Word) (s : State) =>
    s.fetches n.val w 5 ∧ plainWord w ∧ bit w.toNat 17 = false ∧ (s.fifoCaps n.val).2 ≤ (s.eng n.val).rx.length) 2 (W 5 (0)) (full (eng (W 5 (0)) hub))) ∧
  ((fun (n : Fin 16) (w : Word) (s : State) =>
    s.fetches n.val w 5 ∧ plainWord w ∧ bit w.toNat 17 = true ∧ (s.fifoCaps n.val).2 ≤ (s.eng n.val).rx.length) 2 (W 5 (1 * 2 ^ 17)) (full ((eng (W 5 (1 * 2 ^ 17)) hub).put (GG_SCF_SC 2) 5))) ∧
  ((fun (n : Fin 16) (w : Word) (s : State) =>
    s.fetches n.val w 5 ∧ plainWord w ∧ bit w.toNat 17 = true ∧ (s.fifoCaps n.val).2 ≤ (s.eng n.val).rx.length) 2 (W 5 (1 * 2 ^ 17 + 7 * 2 ^ 18)) (full ((eng (W 5 (1 * 2 ^ 17 + 7 * 2 ^ 18)) hub).put (GG_SCF_SC 2) 5))) ∧
  ((fun (n : Fin 16) (seen : DWord) (w : Word) (d v r : Nat) (s : State) =>
    s.fetches n.val w 6 ∧ plainWord w ∧ bits w.toNat 17 4 = d ∧ s.now < 2 ^ 63 ∧
    v = (match bits w.toNat 13 4 with
      | 0 => s.get (GG_SR_VALUE n.val)
      | 1 => s.get (GG_X_VALUE n.val 0)
      | 2 => s.get (GG_X_VALUE n.val 1)
      | 3 => s.get (GG_X_VALUE n.val 2)
      | 4 => s.get (GG_X_VALUE n.val 3)
      | 5 => s.get (GG_CMP_VALUE n.val)
      | 6 => s.get (GG_SCF_SC n.val)
      | 7 => s.pinsIn n.val 8 seen
      | 8 => s.get (GG_TSTEP_VALUE n.val)
      | 9 => (s.rd (GG_TB n.val)).toNat
      | 10 => (s.rd (GG_TB n.val + 4)).toNat
      | 11 => s.now % 2 ^ 32
      | 12 => s.now / 2 ^ 32
      | 15 => (s.rd (GG_TCAP n.val)).toNat
      | _ => 0) ∧
    r = (match bits w.toNat 11 2 with
      | 0 => v
      | 1 => 2 ^ 32 - 1 - v
      | 2 => revBits v
      | _ => revBytes v)) 2 8 (W 6 (0 * 2 ^ 17 + 2 * 2 ^ 13 + 0 * 2 ^ 11)) 0 77 77 (sp ((eng (W 6 (0 * 2 ^ 17 + 2 * 2 ^ 13 + 0 * 2 ^ 11)) hub).put (GG_X_VALUE 2 1) 77 |>.put (GG_MAP_OUT_N 2) 8))) ∧
  ((fun (n : Fin 16) (seen : DWord) (w : Word) (d v r : Nat) (s : State) =>
    s.fetches n.val w 6 ∧ plainWord w ∧ bits w.toNat 17 4 = d ∧ s.now < 2 ^ 63 ∧
    v = (match bits w.toNat 13 4 with
      | 0 => s.get (GG_SR_VALUE n.val)
      | 1 => s.get (GG_X_VALUE n.val 0)
      | 2 => s.get (GG_X_VALUE n.val 1)
      | 3 => s.get (GG_X_VALUE n.val 2)
      | 4 => s.get (GG_X_VALUE n.val 3)
      | 5 => s.get (GG_CMP_VALUE n.val)
      | 6 => s.get (GG_SCF_SC n.val)
      | 7 => s.pinsIn n.val 8 seen
      | 8 => s.get (GG_TSTEP_VALUE n.val)
      | 9 => (s.rd (GG_TB n.val)).toNat
      | 10 => (s.rd (GG_TB n.val + 4)).toNat
      | 11 => s.now % 2 ^ 32
      | 12 => s.now / 2 ^ 32
      | 15 => (s.rd (GG_TCAP n.val)).toNat
      | _ => 0) ∧
    r = (match bits w.toNat 11 2 with
      | 0 => v
      | 1 => 2 ^ 32 - 1 - v
      | 2 => revBits v
      | _ => revBytes v)) 2 8 (W 6 (8 * 2 ^ 17 + 2 * 2 ^ 13 + 0 * 2 ^ 11)) 8 77 77 (sp ((eng (W 6 (8 * 2 ^ 17 + 2 * 2 ^ 13 + 0 * 2 ^ 11)) hub).put (GG_X_VALUE 2 1) 77 |>.put (GG_MAP_OUT_N 2) 8))) ∧
  ((fun (n : Fin 16) (seen : DWord) (w : Word) (d v r : Nat) (s : State) =>
    s.fetches n.val w 6 ∧ plainWord w ∧ bits w.toNat 17 4 = d ∧ s.now < 2 ^ 63 ∧
    v = (match bits w.toNat 13 4 with
      | 0 => s.get (GG_SR_VALUE n.val)
      | 1 => s.get (GG_X_VALUE n.val 0)
      | 2 => s.get (GG_X_VALUE n.val 1)
      | 3 => s.get (GG_X_VALUE n.val 2)
      | 4 => s.get (GG_X_VALUE n.val 3)
      | 5 => s.get (GG_CMP_VALUE n.val)
      | 6 => s.get (GG_SCF_SC n.val)
      | 7 => s.pinsIn n.val 8 seen
      | 8 => s.get (GG_TSTEP_VALUE n.val)
      | 9 => (s.rd (GG_TB n.val)).toNat
      | 10 => (s.rd (GG_TB n.val + 4)).toNat
      | 11 => s.now % 2 ^ 32
      | 12 => s.now / 2 ^ 32
      | 15 => (s.rd (GG_TCAP n.val)).toNat
      | _ => 0) ∧
    r = (match bits w.toNat 11 2 with
      | 0 => v
      | 1 => 2 ^ 32 - 1 - v
      | 2 => revBits v
      | _ => revBytes v)) 2 8 (W 6 (6 * 2 ^ 17 + 2 * 2 ^ 13)) 6 77 77 (sp ((eng (W 6 (6 * 2 ^ 17 + 2 * 2 ^ 13)) hub).put (GG_X_VALUE 2 1) 77))) ∧
  ((fun (n : Fin 16) (w : Word) (s : State) =>
    s.fetches n.val w 7 ∧ plainWord w ∧ bit w.toNat 20 = false) 2 (W 7 (1 * 2 ^ 11 + 1 * 2 ^ 3)) (sl 3 4 (eng (W 7 (1 * 2 ^ 11 + 1 * 2 ^ 3)) hub))) ∧
  ((fun (n : Fin 16) (w : Word) (s : State) =>
    s.fetches n.val w 7 ∧ plainWord w ∧ bit w.toNat 20 = false) 2 (W 7 (255 * 2 ^ 8 + 255 * 2 ^ 0)) (sl 7 4 (eng (W 7 (255 * 2 ^ 8 + 255 * 2 ^ 0)) hub))) ∧
  ((fun (n : Fin 16) (w : Word) (s : State) =>
    s.fetches n.val w 7 ∧ plainWord w ∧ bit w.toNat 20 = true) 2 (W 7 (1 * 2 ^ 20 + 1 * 2 ^ 11 + 1 * 2 ^ 3)) (sl 3 4 (eng (W 7 (1 * 2 ^ 20 + 1 * 2 ^ 11 + 1 * 2 ^ 3)) hub))) ∧
  ((fun (n : Fin 16) (w : Word) (s : State) =>
    s.fetches n.val w 8 ∧ plainWord w) 2 (W 8 (3 * 2 ^ 18 + 1 * 2 ^ 17 + 33 * 2 ^ 0)) (sl 3 61 (eng (W 8 (3 * 2 ^ 18 + 1 * 2 ^ 17 + 33 * 2 ^ 0)) hub))) := by
  refine ⟨?_, ?_, ?_, ?_, ?_, ?_, ?_, ?_, ?_, ?_, ?_, ?_⟩ <;> decide +kernel

/-- The hypotheses of EngineInstructions, clause 18 to 22, hold together. -/
theorem test_hyp_EngineInstructions_4 :
  ((fun (n : Fin 16) (w : Word) (s : State) =>
    s.fetches n.val w 8 ∧ plainWord w) 2 (W 8 (7 * 2 ^ 18 + 0 * 2 ^ 17 + 63 * 2 ^ 0)) (sl 7 61 (eng (W 8 (7 * 2 ^ 18 + 0 * 2 ^ 17 + 63 * 2 ^ 0)) hub))) ∧
  ((fun (n : Fin 16) (w : Word) (k : Fin 8) (pin : Nat) (s : State) =>
    s.fetches n.val w 8 ∧ plainWord w ∧ bits w.toNat 18 3 = k.val ∧ s.get (GG_SLOT_PIO n.val k.val) = pin ∧
    (s.eng n.val).lvl.testBit k.val = !bit w.toNat 17 ∧ (∀ j, j < 8 → j ≠ k.val → s.get (GG_SLOT_PIO n.val j) ≠ pin)) 2 (W 8 (3 * 2 ^ 18 + 1 * 2 ^ 17 + 33 * 2 ^ 0)) 3 61 (sl 3 61 (eng (W 8 (3 * 2 ^ 18 + 1 * 2 ^ 17 + 33 * 2 ^ 0)) hub))) ∧
  ((fun (n : Fin 16) (w : Word) (k : Fin 8) (pin : Nat) (s : State) =>
    s.fetches n.val w 8 ∧ plainWord w ∧ bits w.toNat 18 3 = k.val ∧ s.get (GG_SLOT_PIO n.val k.val) = pin ∧
    (s.eng n.val).lvl.testBit k.val = !bit w.toNat 17 ∧ (∀ j, j < 8 → j ≠ k.val → s.get (GG_SLOT_PIO n.val j) ≠ pin)) 2 (W 8 (0 * 2 ^ 18 + 0 * 2 ^ 17 + 0 * 2 ^ 0)) 0 60 (ex (sl 0 60 (eng (W 8 (0 * 2 ^ 18 + 0 * 2 ^ 17 + 0 * 2 ^ 0)) hub)) fun e => { e with lvl := 1 })) ∧
  ((fun (n : Fin 16) (w : Word) (d imm old r : Nat) (s : State) =>
    s.fetches n.val w 9 ∧ plainWord w ∧ bits w.toNat 18 3 = d ∧ bits w.toNat 0 16 = imm ∧
    old = (match d with
      | 0 => s.get (GG_X_VALUE n.val 0)
      | 1 => s.get (GG_X_VALUE n.val 1)
      | 2 => s.get (GG_X_VALUE n.val 2)
      | 3 => s.get (GG_X_VALUE n.val 3)
      | 4 => s.get (GG_CMP_VALUE n.val)
      | _ => s.get (GG_TSTEP_VALUE n.val)) ∧
    r = (if bits w.toNat 16 2 = 0 then imm else if bits w.toNat 16 2 = 1 then imm * 2 ^ 16 + old % 2 ^ 16
      else if imm < 2 ^ 15 then imm else imm + (2 ^ 32 - 2 ^ 16))) 2 (W 9 (0 * 2 ^ 18 + 0 * 2 ^ 16 + 32801 * 2 ^ 0)) 0 32801 305419896 32801 (((eng (W 9 (0 * 2 ^ 18 + 0 * 2 ^ 16 + 32801 * 2 ^ 0)) hub).put (GG_X_VALUE 2 0) 305419896 |>.put (GG_X_VALUE 2 1) 305419896 |>.put (GG_X_VALUE 2 2) 305419896 |>.put (GG_X_VALUE 2 3) 305419896 |>.put (GG_CMP_VALUE 2) 305419896 |>.put (GG_TSTEP_VALUE 2) 305419896))) ∧
  ((fun (n : Fin 16) (w : Word) (d imm old r : Nat) (s : State) =>
    s.fetches n.val w 9 ∧ plainWord w ∧ bits w.toNat 18 3 = d ∧ bits w.toNat 0 16 = imm ∧
    old = (match d with
      | 0 => s.get (GG_X_VALUE n.val 0)
      | 1 => s.get (GG_X_VALUE n.val 1)
      | 2 => s.get (GG_X_VALUE n.val 2)
      | 3 => s.get (GG_X_VALUE n.val 3)
      | 4 => s.get (GG_CMP_VALUE n.val)
      | _ => s.get (GG_TSTEP_VALUE n.val)) ∧
    r = (if bits w.toNat 16 2 = 0 then imm else if bits w.toNat 16 2 = 1 then imm * 2 ^ 16 + old % 2 ^ 16
      else if imm < 2 ^ 15 then imm else imm + (2 ^ 32 - 2 ^ 16))) 2 (W 9 (3 * 2 ^ 18 + 0 * 2 ^ 16 + 32801 * 2 ^ 0)) 3 32801 305419896 32801 (((eng (W 9 (3 * 2 ^ 18 + 0 * 2 ^ 16 + 32801 * 2 ^ 0)) hub).put (GG_X_VALUE 2 0) 305419896 |>.put (GG_X_VALUE 2 1) 305419896 |>.put (GG_X_VALUE 2 2) 305419896 |>.put (GG_X_VALUE 2 3) 305419896 |>.put (GG_CMP_VALUE 2) 305419896 |>.put (GG_TSTEP_VALUE 2) 305419896))) ∧
  ((fun (n : Fin 16) (w : Word) (d imm old r : Nat) (s : State) =>
    s.fetches n.val w 9 ∧ plainWord w ∧ bits w.toNat 18 3 = d ∧ bits w.toNat 0 16 = imm ∧
    old = (match d with
      | 0 => s.get (GG_X_VALUE n.val 0)
      | 1 => s.get (GG_X_VALUE n.val 1)
      | 2 => s.get (GG_X_VALUE n.val 2)
      | 3 => s.get (GG_X_VALUE n.val 3)
      | 4 => s.get (GG_CMP_VALUE n.val)
      | _ => s.get (GG_TSTEP_VALUE n.val)) ∧
    r = (if bits w.toNat 16 2 = 0 then imm else if bits w.toNat 16 2 = 1 then imm * 2 ^ 16 + old % 2 ^ 16
      else if imm < 2 ^ 15 then imm else imm + (2 ^ 32 - 2 ^ 16))) 2 (W 9 (5 * 2 ^ 18 + 2 * 2 ^ 16 + 32801 * 2 ^ 0)) 5 32801 305419896 4294934561 (((eng (W 9 (5 * 2 ^ 18 + 2 * 2 ^ 16 + 32801 * 2 ^ 0)) hub).put (GG_X_VALUE 2 0) 305419896 |>.put (GG_X_VALUE 2 1) 305419896 |>.put (GG_X_VALUE 2 2) 305419896 |>.put (GG_X_VALUE 2 3) 305419896 |>.put (GG_CMP_VALUE 2) 305419896 |>.put (GG_TSTEP_VALUE 2) 305419896))) ∧
  ((fun (n : Fin 16) (seen : DWord) (w : Word) (i : Fin 4) (a b r : Nat) (s : State) =>
    s.fetches n.val w 10 ∧ plainWord w ∧ bits w.toNat 16 2 = i.val ∧ s.get (GG_X_VALUE n.val i.val) = a ∧
    b = (if bit w.toNat 15 then bits w.toNat 0 12 else match bits w.toNat 12 3 with
      | 0 => s.get (GG_X_VALUE n.val 0)
      | 1 => s.get (GG_X_VALUE n.val 1)
      | 2 => s.get (GG_X_VALUE n.val 2)
      | 3 => s.get (GG_X_VALUE n.val 3)
      | 4 => s.get (GG_SR_VALUE n.val)
      | 5 => s.get (GG_CMP_VALUE n.val)
      | 6 => s.get (GG_SCF_SC n.val)
      | _ => s.pinsIn n.val 8 seen) ∧
    r = (match bits w.toNat 18 3 with
      | 0 => (a + b) % 2 ^ 32
      | 1 => (a + (2 ^ 32 - b)) % 2 ^ 32
      | 2 => a &&& b
      | 3 => a ||| b
      | 4 => a ^^^ b
      | 5 => a * 2 ^ (b % 32) % 2 ^ 32
      | 6 => a / 2 ^ (b % 32)
      | _ => wrapInt 32 (sext 32 a / 2 ^ (b % 32)))) 2 8 (W 10 (0 * 2 ^ 18 + 1 * 2 ^ 16 + 3 * 2 ^ 12)) 1 2271560481 36 2271560517 (((sl 0 3 (eng (W 10 (0 * 2 ^ 18 + 1 * 2 ^ 16 + 3 * 2 ^ 12)) hub)).put (GG_MAP_IN_N 2) 1 |>.put (GG_X_VALUE 2 0) 7 |>.put (GG_X_VALUE 2 1) 0x87654321 |>.put (GG_X_VALUE 2 3) 36 |>.put (GG_SR_VALUE 2) 0x91234567 |>.put (GG_CMP_VALUE 2) 9))) ∧
  ((fun (n : Fin 16) (seen : DWord) (w : Word) (i : Fin 4) (a b r : Nat) (s : State) =>
    s.fetches n.val w 10 ∧ plainWord w ∧ bits w.toNat 16 2 = i.val ∧ s.get (GG_X_VALUE n.val i.val) = a ∧
    b = (if bit w.toNat 15 then bits w.toNat 0 12 else match bits w.toNat 12 3 with
      | 0 => s.get (GG_X_VALUE n.val 0)
      | 1 => s.get (GG_X_VALUE n.val 1)
      | 2 => s.get (GG_X_VALUE n.val 2)
      | 3 => s.get (GG_X_VALUE n.val 3)
      | 4 => s.get (GG_SR_VALUE n.val)
      | 5 => s.get (GG_CMP_VALUE n.val)
      | 6 => s.get (GG_SCF_SC n.val)
      | _ => s.pinsIn n.val 8 seen) ∧
    r = (match bits w.toNat 18 3 with
      | 0 => (a + b) % 2 ^ 32
      | 1 => (a + (2 ^ 32 - b)) % 2 ^ 32
      | 2 => a &&& b
      | 3 => a ||| b
      | 4 => a ^^^ b
      | 5 => a * 2 ^ (b % 32) % 2 ^ 32
      | 6 => a / 2 ^ (b % 32)
      | _ => wrapInt 32 (sext 32 a / 2 ^ (b % 32)))) 2 8 (W 10 (7 * 2 ^ 18 + 1 * 2 ^ 16 + 3 * 2 ^ 12)) 1 2271560481 36 4168504370 (((sl 0 3 (eng (W 10 (7 * 2 ^ 18 + 1 * 2 ^ 16 + 3 * 2 ^ 12)) hub)).put (GG_MAP_IN_N 2) 1 |>.put (GG_X_VALUE 2 0) 7 |>.put (GG_X_VALUE 2 1) 0x87654321 |>.put (GG_X_VALUE 2 3) 36 |>.put (GG_SR_VALUE 2) 0x91234567 |>.put (GG_CMP_VALUE 2) 9))) ∧
  ((fun (n : Fin 16) (seen : DWord) (w : Word) (i : Fin 4) (a b r : Nat) (s : State) =>
    s.fetches n.val w 10 ∧ plainWord w ∧ bits w.toNat 16 2 = i.val ∧ s.get (GG_X_VALUE n.val i.val) = a ∧
    b = (if bit w.toNat 15 then bits w.toNat 0 12 else match bits w.toNat 12 3 with
      | 0 => s.get (GG_X_VALUE n.val 0)
      | 1 => s.get (GG_X_VALUE n.val 1)
      | 2 => s.get (GG_X_VALUE n.val 2)
      | 3 => s.get (GG_X_VALUE n.val 3)
      | 4 => s.get (GG_SR_VALUE n.val)
      | 5 => s.get (GG_CMP_VALUE n.val)
      | 6 => s.get (GG_SCF_SC n.val)
      | _ => s.pinsIn n.val 8 seen) ∧
    r = (match bits w.toNat 18 3 with
      | 0 => (a + b) % 2 ^ 32
      | 1 => (a + (2 ^ 32 - b)) % 2 ^ 32
      | 2 => a &&& b
      | 3 => a ||| b
      | 4 => a ^^^ b
      | 5 => a * 2 ^ (b % 32) % 2 ^ 32
      | 6 => a / 2 ^ (b % 32)
      | _ => wrapInt 32 (sext 32 a / 2 ^ (b % 32)))) 2 8 (W 10 (1 * 2 ^ 18 + 0 * 2 ^ 16 + 0 * 2 ^ 12)) 0 7 7 0 (((sl 0 3 (eng (W 10 (1 * 2 ^ 18 + 0 * 2 ^ 16 + 0 * 2 ^ 12)) hub)).put (GG_MAP_IN_N 2) 1 |>.put (GG_X_VALUE 2 0) 7 |>.put (GG_X_VALUE 2 1) 0x87654321 |>.put (GG_X_VALUE 2 3) 36 |>.put (GG_SR_VALUE 2) 0x91234567 |>.put (GG_CMP_VALUE 2) 9))) ∧
  ((fun (n : Fin 16) (seen : DWord) (w : Word) (v : Nat) (s : State) =>
    s.fetches n.val w 11 ∧ plainWord w ∧
    v = (match bits w.toNat 18 3 with
      | 0 => s.get (GG_SR_VALUE n.val)
      | 1 => s.get (GG_X_VALUE n.val 0)
      | 2 => s.get (GG_X_VALUE n.val 1)
      | 3 => s.get (GG_X_VALUE n.val 2)
      | 4 => s.get (GG_X_VALUE n.val 3)
      | 5 => s.pinsIn n.val 8 seen
      | 6 => s.get (GG_SCF_SC n.val)
      | _ => s.now % 2 ^ 32)) 2 8 (W 11 (0 * 2 ^ 18)) 2435007847 (sp ((sl 0 3 (eng (W 11 (0 * 2 ^ 18)) hub)).put (GG_MAP_IN_N 2) 1 |>.put (GG_SR_VALUE 2) 0x91234567 |>.put (GG_X_VALUE 2 0) 7 |>.put (GG_X_VALUE 2 1) 5 |>.put (GG_X_VALUE 2 2) 7 |>.put (GG_X_VALUE 2 3) 7 |>.put (GG_SCF_SC 2) 2 |>.put (GG_CMP_VALUE 2) 7))) ∧
  ((fun (n : Fin 16) (seen : DWord) (w : Word) (v : Nat) (s : State) =>
    s.fetches n.val w 11 ∧ plainWord w ∧
    v = (match bits w.toNat 18 3 with
      | 0 => s.get (GG_SR_VALUE n.val)
      | 1 => s.get (GG_X_VALUE n.val 0)
      | 2 => s.get (GG_X_VALUE n.val 1)
      | 3 => s.get (GG_X_VALUE n.val 2)
      | 4 => s.get (GG_X_VALUE n.val 3)
      | 5 => s.pinsIn n.val 8 seen
      | 6 => s.get (GG_SCF_SC n.val)
      | _ => s.now % 2 ^ 32)) 2 8 (W 11 (4 * 2 ^ 18)) 7 (sp ((sl 0 3 (eng (W 11 (4 * 2 ^ 18)) hub)).put (GG_MAP_IN_N 2) 1 |>.put (GG_SR_VALUE 2) 0x91234567 |>.put (GG_X_VALUE 2 0) 7 |>.put (GG_X_VALUE 2 1) 5 |>.put (GG_X_VALUE 2 2) 7 |>.put (GG_X_VALUE 2 3) 7 |>.put (GG_SCF_SC 2) 2 |>.put (GG_CMP_VALUE 2) 7))) ∧
  ((fun (n : Fin 16) (seen : DWord) (w : Word) (v : Nat) (s : State) =>
    s.fetches n.val w 11 ∧ plainWord w ∧
    v = (match bits w.toNat 18 3 with
      | 0 => s.get (GG_SR_VALUE n.val)
      | 1 => s.get (GG_X_VALUE n.val 0)
      | 2 => s.get (GG_X_VALUE n.val 1)
      | 3 => s.get (GG_X_VALUE n.val 2)
      | 4 => s.get (GG_X_VALUE n.val 3)
      | 5 => s.pinsIn n.val 8 seen
      | 6 => s.get (GG_SCF_SC n.val)
      | _ => s.now % 2 ^ 32)) 2 8 (W 11 (7 * 2 ^ 18)) 1000 (sp ((sl 0 3 (eng (W 11 (7 * 2 ^ 18)) hub)).put (GG_MAP_IN_N 2) 1 |>.put (GG_SR_VALUE 2) 0x91234567 |>.put (GG_X_VALUE 2 0) 7 |>.put (GG_X_VALUE 2 1) 5 |>.put (GG_X_VALUE 2 2) 7 |>.put (GG_X_VALUE 2 3) 7 |>.put (GG_SCF_SC 2) 2 |>.put (GG_CMP_VALUE 2) 7))) := by
  refine ⟨?_, ?_, ?_, ?_, ?_, ?_, ?_, ?_, ?_, ?_, ?_, ?_⟩ <;> decide +kernel

/-- The hypotheses of EngineInstructions, clause 23 to 27, hold together. -/
theorem test_hyp_EngineInstructions_5 :
  ((fun (n : Fin 16) (w : Word) (i : Nat) (s : State) =>
    s.fetches n.val w 12 ∧ plainWord w ∧ bits w.toNat 15 4 = i ∧
    (bits w.toNat 19 2 = 0 ∨ s.gg.efSet.testBit i = false) ∧ bits w.toNat 19 2 < 2) 2 (W 12 (3 * 2 ^ 15 + 1 * 2 ^ 14)) 3 ((eng (W 12 (3 * 2 ^ 15 + 1 * 2 ^ 14)) hub))) ∧
  ((fun (n : Fin 16) (w : Word) (i : Nat) (s : State) =>
    s.fetches n.val w 12 ∧ plainWord w ∧ bits w.toNat 15 4 = i ∧
    (bits w.toNat 19 2 = 0 ∨ s.gg.efSet.testBit i = false) ∧ bits w.toNat 19 2 < 2) 2 (W 12 (1 * 2 ^ 19 + 15 * 2 ^ 15)) 15 (ef 32768 (eng (W 12 (1 * 2 ^ 19 + 15 * 2 ^ 15)) hub))) ∧
  ((fun (n : Fin 16) (w : Word) (i : Nat) (s : State) =>
    s.fetches n.val w 12 ∧ plainWord w ∧ bits w.toNat 15 4 = i ∧ bits w.toNat 19 2 = 2 ∧
    s.gg.efSet.testBit i = false ∧ s.gg.efClr.testBit i = false ∧ s.gg.efTgl = 0) 2 (W 12 (2 * 2 ^ 19 + 3 * 2 ^ 15)) 3 ((eng (W 12 (2 * 2 ^ 19 + 3 * 2 ^ 15)) hub))) ∧
  ((fun (n : Fin 16) (w : Word) (i : Nat) (s : State) =>
    s.fetches n.val w 12 ∧ plainWord w ∧ bits w.toNat 15 4 = i ∧ bits w.toNat 19 2 = 2 ∧
    s.gg.efSet.testBit i = false ∧ s.gg.efClr.testBit i = false ∧ s.gg.efTgl = 0) 2 (W 12 (2 * 2 ^ 19 + 15 * 2 ^ 15)) 15 (ef 32768 (eng (W 12 (2 * 2 ^ 19 + 15 * 2 ^ 15)) hub))) ∧
  ((fun (n : Fin 16) (w : Word) (s : State) =>
    s.fetches n.val w 13 ∧ plainWord w ∧ bits w.toNat 18 3 = 0) 2 (W 13 (0)) (((eng (W 13 (0)) hub).put (GG_CLK_INC 2) 7))) ∧
  ((fun (n : Fin 16) (w : Word) (s : State) =>
    s.fetches n.val w 13 ∧ plainWord w ∧ bits w.toNat 18 3 = 1) 2 (W 13 (1 * 2 ^ 18)) ((eng (W 13 (1 * 2 ^ 18)) hub))) ∧
  ((fun (n : Fin 16) (w : Word) (s : State) =>
    s.fetches n.val w 13 ∧ plainWord w ∧ bits w.toNat 18 3 = 2) 2 (W 13 (2 * 2 ^ 18 + 3 * 2 ^ 16)) (((eng (W 13 (2 * 2 ^ 18 + 3 * 2 ^ 16)) hub).put (GG_X_VALUE 2 3) 0x12345678))) := by
  refine ⟨?_, ?_, ?_, ?_, ?_, ?_, ?_⟩ <;> decide +kernel

/-- The hypotheses of EngineGates, clause 1 to 12, hold together. -/
theorem test_hyp_EngineGates :
  ((fun (n : Fin 16) (w : Word) (s : State) =>
    s.fetches n.val w 0 ∧ 2 ≤ bits w.toNat 26 2 ∧ s.now < s.rd64 (GG_TB n.val)) 2 (W 0 (2 * 2 ^ 26)) (tb 2000 (sp (eng (W 0 (2 * 2 ^ 26)) hub)))) ∧
  ((fun (n : Fin 16) (w : Word) (s : State) =>
    s.fetches n.val w 0 ∧ bits w.toNat 26 2 = 1 ∧ (s.eng n.val).tick = false) 2 (W 0 (2 ^ 26)) (eng (W 0 (2 ^ 26)) hub)) ∧
  ((fun (n : Fin 16) (w : Word) (s : State) =>
    s.fetches n.val w 0 ∧ bits w.toNat 22 6 = 16 ∧ (s.eng n.val).tick = true) 2 (W 0 (2 ^ 26)) (ex (eng (W 0 (2 ^ 26)) hub) fun e => { e with tick := true })) ∧
  ((fun (n : Fin 16) (w : Word) (T : Nat) (s : State) =>
    s.fetches n.val w 0 ∧ bits w.toNat 22 6 = 48 ∧ s.rd64 (GG_TB n.val) = T ∧ s.now = T) 2 (W 0 (3 * 2 ^ 26)) 1000 (tb 1000 (sp (eng (W 0 (3 * 2 ^ 26)) hub)))) ∧
  ((fun (n : Fin 16) (w : Word) (T : Nat) (s : State) =>
    s.fetches n.val w 0 ∧ bits w.toNat 22 6 = 32 ∧ s.rd64 (GG_TB n.val) = T ∧ T < s.now ∧
    s.on (GG_EXEC_LATE n.val) = false ∧ s.roomy ∧ s.inReset 0x0F = false ∧ s.time.dlQ.length < 16 ∧ s.now - T < 2 ^ 32) 2 (W 0 (2 * 2 ^ 26)) 900 (tb 900 (sp (eng (W 0 (2 * 2 ^ 26)) hub)))) ∧
  ((fun (n : Fin 16) (w : Word) (T : Nat) (s : State) =>
    s.engLive n.val = true ∧ s.get (GG_STAT_STATE n.val) = 1 ∧ (s.eng n.val).fetched = some w ∧
    (s.eng n.val).inj = false ∧ (s.eng n.val).stopReq = false ∧ s.illegal n.val w.toNat = false ∧
    bits w.toNat 26 2 = 3 ∧ bit w.toNat 22 = false ∧ s.rd64 (GG_TB n.val) = T ∧ T < s.now ∧
    s.on (GG_EXEC_LATE n.val) = true ∧ s.roomy ∧ s.inReset 0x0F = false ∧ s.time.dlQ.length < 16 ∧ s.now - T < 2 ^ 32) 2 (W 13 (3 * 2 ^ 26)) 900 ((tb 900 (sp (eng (W 13 (3 * 2 ^ 26)) hub))).put (GG_EXEC_LATE 2) 1)) ∧
  ((fun (n : Fin 16) (w : Word) (m : Nat) (k : Fin 8) (s : State) =>
    s.fetches n.val w 0 ∧ bits w.toNat 26 2 = 0 ∧ bit w.toNat 22 = false ∧ bits w.toNat 23 3 = m ∧ m ≠ 0 ∧
    s.on (GG_SLOT_VALID n.val k.val) = true) 2 (W 0 (3 * 2 ^ 23)) 3 2 (sl 2 5 ((eng (W 0 (3 * 2 ^ 23)) hub).put (GG_MARK_TGL 2 3) 4))) ∧
  ((fun (n : Fin 16) (w : Word) (s : State) =>
    s.fetches n.val w 0 ∧ bits w.toNat 22 6 = 1) 2 (W 0 (2 ^ 22)) ((eng (W 0 (2 ^ 22)) hub).put (GG_EXEC_LOOP_PC 2) 33)) ∧
  ((fun (n : Fin 16) (w : Word) (s : State) =>
    s.engLive n.val = true ∧ (s.eng n.val).fetched = some w ∧ (14 ≤ bits w.toNat 28 4 ∨ bit w.toNat 21 = true) ∧
    s.roomy) 2 (W 15 7) (eng (W 15 7) hub)) ∧
  ((fun (n : Fin 16) (w : Word) (s : State) =>
    s.engLive n.val = true ∧ s.get (GG_STAT_STATE n.val) = 1 ∧ (s.eng n.val).fetched = some w ∧
    (s.eng n.val).inj = false ∧ (s.eng n.val).stopReq = true ∧ s.illegal n.val w.toNat = false ∧
    bits w.toNat 28 4 = 0 ∧ plainWord w) 2 0 (ex (eng 0 hub) fun e => { e with stopReq := true })) ∧
  ((fun (n : Fin 16) (w : Word) (s : State) =>
    s.engLive n.val = true ∧ (s.eng n.val).fetched = some w ∧ (s.eng n.val).inj = false ∧
    (s.eng n.val).stopReq = true ∧ s.illegal n.val w.toNat = false ∧ bits w.toNat 28 4 = 4 ∧ plainWord w ∧
    bit w.toNat 17 = false ∧ (s.eng n.val).tx = []) 2 (W 4 0) (ex (eng (W 4 0) hub) fun e => { e with stopReq := true })) ∧
  ((fun (n : Fin 16) (c : Instr) (s : State) =>
    (s.eng n.val).fetched = none ∧
    c ∈ [Instr.nop n, .pull n, .push n, .setReg n, .edge n, .ldi n, .flag n, .clkr n, .halt n, .jmpx n, .ggIllegal n, .instructionSkip n]) 2 (.pull 2) hub) := by
  refine ⟨?_, ?_, ?_, ?_, ?_, ?_, ?_, ?_, ?_, ?_, ?_, ?_⟩ <;> decide +kernel

end C11

namespace C12

def st (v : Nat) (s : State) : State := s.put (GG_STAT_STATE 2) v |>.put (GG_STAT_PC 2) 5
def ex (s : State) (f : Eng → Eng) : State := s.setEng 2 (f (s.eng 2))
def run : State := ex (st 1 hub) fun e => { e with fetched := some 7 }
def stl : State := run.put (GG_STAT_CAUSE 2) 3
def kp : State := ex (st 0 hub) fun e => { e with kept := some (9, true) }
def rst : State := hub.setBit RSTC_INRST_BLK 0x10
def gr (s : State) : State := s.put (GG_GMEM_MEM 1) 0x24

/-- The hypotheses of EngineControl, clause 1 to 12, hold together. -/
theorem test_hyp_EngineControl_1 :
  ((fun (n : Fin 16) (s : State) =>
    s.open_ 0x10 = true ∧ s.gg.grpHit.testBit n.val = false ∧
    (s.get (GG_STAT_STATE n.val) = 0 ∨ s.get (GG_STAT_STATE n.val) = 2)) 2 (((st 2 hub).put (GG_EXEC_START_PC 2) 9).put (GG_SCF_Z 2) 1)) ∧
  ((fun (n : Fin 16) (s : State) =>
    s.inReset 0x10 = false ∧ (s.get (GG_STAT_STATE n.val) = 1 ∨ s.get (GG_STAT_STATE n.val) = 3)) 2 run) ∧
  ((fun (n : Fin 16) (w : Word) (s : State) =>
    s.inReset 0x10 = false ∧ s.gg.grpHit.testBit n.val = false ∧ s.get (GG_STAT_STATE n.val) = 1 ∧
    (s.eng n.val).fetched = some w ∧ s.on (GG_STAT_CAUSE n.val) = false) 2 7 run) ∧
  ((fun (n : Fin 16) (w : Word) (s : State) =>
    s.inReset 0x10 = false ∧ s.gg.grpHit.testBit n.val = false ∧ s.get (GG_STAT_STATE n.val) = 1 ∧
    (s.eng n.val).fetched = some w ∧ s.on (GG_STAT_CAUSE n.val) = true) 2 7 stl) ∧
  ((fun (n : Fin 16) (s : State) =>
    s.inReset 0x10 = false ∧ s.gg.grpHit.testBit n.val = false ∧ s.get (GG_STAT_STATE n.val) = 3 ∧
    ((s.eng n.val).former = 0 ∨ (s.eng n.val).former = 2)) 2 (ex (st 3 hub) fun e => { e with former := 2, pend := some 7 })) ∧
  ((fun (n : Fin 16) (w : Word) (inj : Bool) (s : State) =>
    s.open_ 0x10 = true ∧ s.gg.grpHit.testBit n.val = false ∧ s.get (GG_STAT_STATE n.val) = 0 ∧
    (s.eng n.val).kept = some (w, inj)) 2 9 true kp) ∧
  ((fun (n : Fin 16) (s : State) =>
    s.inReset 0x10 = false ∧ s.get (GG_STAT_STATE n.val) = 2 ∧ (s.eng n.val).ill = true) 2 (ex (st 2 hub) fun e => { e with ill := true })) ∧
  ((fun (n : Fin 16) (s : State) =>
    s.inReset 0x10 = false ∧ s.gg.grpHit.testBit n.val = false) 2 (hub.put (GG_CLK_INC 2) 7)) ∧
  ((fun (n : Fin 16) (s : State) =>
    s.inReset 0x10 = false ∧ s.gg.grpHit.testBit n.val = false) 2 (ex hub fun e => { e with tx := [7], rx := [8] })) ∧
  ((fun (n : Fin 16) (c : Instr) (s : State) =>
    s.inReset 0x10 = false ∧ s.gg.grpHit.testBit n.val = true ∧
    c ∈ [Instr.ggStart n, .ggStop n, .ggResume n, .ggClkr n, .fifoClr n]) 2 (.ggStart 2) ({ hub with gg := { hub.gg with grpHit := 4 } })) ∧
  ((fun (n : Fin 16) (c : Instr) (s : State) =>
    s.dark = false ∧ s.inReset 0x10 = true ∧ s.roomy ∧
    c ∈ [Instr.ggStart n, .ggStop n, .ggResume n, .ggClkr n, .fifoClr n]) 2 (.ggStart 2) rst) ∧
  ((fun (n : Fin 16) (_w : Word) (s : State) =>
    s.inReset 0x10 = false ∧ (s.eng n.val).tx.length < (s.fifoCaps n.val).1 ∧ s.queueOfCons n.val = none) 2 55 hub) := by
  refine ⟨?_, ?_, ?_, ?_, ?_, ?_, ?_, ?_, ?_, ?_, ?_, ?_⟩ <;> decide +kernel

/-- The hypotheses of EngineControl, clause 13 to 22, hold together. -/
theorem test_hyp_EngineControl_2 :
  ((fun (n : Fin 16) (_w : Word) (s : State) =>
    s.inReset 0x10 = false ∧ ((s.fifoCaps n.val).1 ≤ (s.eng n.val).tx.length ∨ (s.queueOfCons n.val).isSome = true)) 2 55 (ex hub fun e => { e with tx := List.replicate 16 7 })) ∧
  ((fun (n : Fin 16) (_who : Who) (w : Word) (r : List Word) (s : State) =>
    s.inReset 0x10 = false ∧ (s.eng n.val).rx = w :: r ∧ s.queueOfProd n.val = none) 2 ⟨0, 5, 0⟩ 8 [9] (ex hub fun e => { e with rx := [8, 9] })) ∧
  ((fun (n : Fin 16) (_who : Who) (s : State) =>
    s.inReset 0x10 = false ∧ (s.eng n.val).rx = []) 2 ⟨0, 5, 0⟩ hub) ∧
  ((fun (n : Fin 16) (_w : Word) (s : State) =>
    s.inReset 0x10 = false ∧ s.on (GG_STAT_INJ_PEND n.val) = false ∧
    (s.get (GG_STAT_STATE n.val) = 0 ∨ s.get (GG_STAT_STATE n.val) = 2)) 2 8 (st 2 hub)) ∧
  ((fun (n : Fin 16) (_w : Word) (s : State) =>
    s.inReset 0x10 = false ∧ s.on (GG_STAT_INJ_PEND n.val) = false ∧ s.get (GG_STAT_STATE n.val) = 1) 2 8 run) ∧
  ((fun (n : Fin 16) (w : Word) (c : Instr) (s : State) =>
    s.inReset 0x10 = false ∧ s.on (GG_STAT_INJ_PEND n.val) = true ∧ c ∈ [Instr.ggInj n w, .ggInjForce n w]) 2 8 (.ggInjForce 2 8) (run.put (GG_STAT_INJ_PEND 2) 1)) ∧
  ((fun (n : Fin 16) (_w v : Word) (s : State) =>
    s.inReset 0x10 = false ∧ s.on (GG_STAT_INJ_PEND n.val) = false ∧ s.get (GG_STAT_STATE n.val) = 1 ∧
    (s.eng n.val).fetched = some v ∧ s.on (GG_STAT_CAUSE n.val) = true ∧ (s.eng n.val).inj = false ∧
    bit v.toNat 22 = false) 2 8 7 stl) ∧
  ((fun (_n : Fin 16) (_k : Fin 64) (_w : Word) (s : State) =>
    s.inReset 0x10 = false) 2 63 8 hub) ∧
  ((fun (_m : BitVec 16) (s : State) =>
    s.inReset 0x10 = false ∧ s.gg.efSet = 0 ∧ s.gg.efClr = 0 ∧ s.gg.efTgl = 0 ∧ s.get GG_EF_EF = s.gg.efBase) 0x8001 hub) ∧
  ((fun (_m : BitVec 16) (i : Nat) (s : State) =>
    s.inReset 0x10 = false ∧ s.gg.efSet = 0 ∧ s.gg.efTgl = 0 ∧ s.gg.efClr = 0 ∧ s.get GG_EF_EF = s.gg.efBase ∧ i < 16) 0x8001 15 ({ hub.put GG_EF_EF 0xFFFF with gg := { hub.gg with efBase := 0xFFFF } })) := by
  refine ⟨?_, ?_, ?_, ?_, ?_, ?_, ?_, ?_, ?_, ?_⟩ <;> decide +kernel

/-- The hypotheses of EngineGroups, clause 1 to 9, hold together. -/
theorem test_hyp_EngineGroups :
  ((fun (g : Fin 4) (n : Fin 16) (s : State) =>
    s.open_ 0x10 = true ∧ s.gg.actHit.testBit g.val = false ∧ s.gg.grpHit = 0 ∧
    s.getBit (GG_GMEM_MEM g.val) n.val = true ∧ s.get (GG_STAT_STATE n.val) = 0) 1 2 (gr ((st 0 hub).put (GG_EXEC_START_PC 2) 9))) ∧
  ((fun (g : Fin 4) (n : Fin 16) (w : Word) (s : State) =>
    s.open_ 0x10 = true ∧ s.gg.actHit.testBit g.val = false ∧ s.gg.grpHit = 0 ∧
    s.getBit (GG_GMEM_MEM g.val) n.val = true ∧ s.get (GG_STAT_STATE n.val) = 1 ∧ (s.eng n.val).fetched = some w ∧
    s.on (GG_STAT_CAUSE n.val) = false) 1 2 7 (gr run)) ∧
  ((fun (g : Fin 4) (n : Fin 16) (w : Word) (inj : Bool) (s : State) =>
    s.open_ 0x10 = true ∧ s.gg.actHit.testBit g.val = false ∧ s.gg.grpHit = 0 ∧
    s.getBit (GG_GMEM_MEM g.val) n.val = true ∧ s.get (GG_STAT_STATE n.val) = 0 ∧ (s.eng n.val).kept = some (w, inj)) 1 2 9 true (gr kp)) ∧
  ((fun (g : Fin 4) (n : Fin 16) (s : State) =>
    s.open_ 0x10 = true ∧ s.gg.actHit.testBit g.val = false ∧ s.gg.grpHit = 0 ∧
    s.getBit (GG_GMEM_MEM g.val) n.val = true) 1 2 (gr (hub.put (GG_CLK_INC 2) 7))) ∧
  ((fun (g : Fin 4) (c : Instr) (op : Nat) (s : State) =>
    s.open_ 0x10 = true ∧ s.gg.actHit.testBit g.val = false ∧
    (c = .groupStart g true ∧ op = 1 ∨ c = .groupStop g true ∧ op = 2 ∨ c = .groupResume g true ∧ op = 3 ∨ c = .groupClkr g true ∧ op = 4)) 1 (.groupStop 1 true) 2 (gr hub)) ∧
  ((fun (g : Fin 4) (s : State) =>
    s.open_ 0x10 = true ∧ s.gg.actHit.testBit g.val = false) 1 ((gr hub).setArm 1 (some 2))) ∧
  ((fun (g : Fin 4) (n : Fin 16) (s : State) =>
    s.open_ 0x10 = true ∧ s.armed g.val = some 4 ∧ s.now = s.rd64 (GG_GTIME g.val) ∧ s.gg.grpHit = 0 ∧
    s.getBit (GG_GMEM_MEM g.val) n.val = true) 1 2 (((gr (hub.put (GG_CLK_INC 2) 7)).setArm 1 (some 4)).wr64 (GG_GTIME 1) 50 |>.wr64 TIME_SPINDLE 50)) ∧
  ((fun (g : Fin 4) (n : Fin 16) (s : State) =>
    s.open_ 0x10 = true ∧ s.armed g.val = some 1 ∧ s.rd64 (GG_GTIME g.val) < s.now ∧ s.gg.grpHit = 0 ∧
    s.get (GG_GMEM_MEM g.val) = 2 ^ n.val ∧ s.get (GG_STAT_STATE n.val) = 2 ∧
    s.now - s.rd64 (GG_GTIME g.val) < 2 ^ 32 ∧ s.roomy) 1 2 (((st 2 hub).setArm 1 (some 1)).wr64 (GG_GTIME 1) 50 |>.wr64 TIME_SPINDLE 70 |>.put (GG_GMEM_MEM 1) 4)) ∧
  ((fun (g : Fin 4) (s : State) =>
    (s.armed g.val = none ∨ s.now < s.rd64 (GG_GTIME g.val))) 1 hub) := by
  refine ⟨?_, ?_, ?_, ?_, ?_, ?_, ?_, ?_, ?_⟩ <;> decide +kernel

end C12

namespace C13

def qx (s : State) (f : Sq → Sq) : State := { s with sq := Tab.set (fun _ => Sq.init) s.sq 9 (f (s.sqOf 9)) }
def q9 (c p : Nat) : State := ((((hub.put (SQ_CFG_EN 9) 1).put (SQ_CFG_CONS 9) c).put (SQ_CFG_PROD 9) p).put (SQ_CFG_ITEM_W 9) 2).put (SQ_GEOM_ITEMS 9) 4
def it (k : Nat) : SqItem := ⟨k, none⟩
def ex (s : State) (f : Eng → Eng) : State := s.setEng 2 (f (s.eng 2))
def cr : State := (qx (q9 0x10 0x11) fun q => { q with items := [it 2, it 3] }).put (SQ_CFG_CRED 9) 1
def lt : State := (qx (q9 0x10 0x11) fun q => { q with items := [it 2] }).put (SQ_DEST0_CLASS 9) 3 |>.put (SQ_DEST0_DST_NODE 9) 5 |>.put (SQ_DEST0_DST_Q 9) 33 |>.put (FWD_LIM_1_C3 4) 9
def sc : State := ((((((hub.put (LSV_SCI_CFG_EN 3) 1).put (LSV_SCI_TH_LO_T1 3) 100).put (LSV_SCI_TH_LO_T2 3) 1000).put (LSV_SCI_TH_HI_T3 3) 7000).put (LSV_SCI_TH_HI_T4 3) 12000).put (LSV_SCI_STAT_INIT 3) 0).put (LSV_SCI_CFG_DEB 3) 3
def aq (l : List (Nat × Nat)) (m : Nat) : State := { hub.put MPC_MODE_CUR m with lsv := { hub.lsv with actQ := l } }
def pq (l : List (Nat × Bool)) : State := { hub with lsv := { hub.lsv with playQ := l } }
def ln : State :=
  let s := ((((((hub.put (LSV_LS_CTL_EN 2) 1).put (LSV_LS_CTL_PILOT_EN 2) 1).put (LSV_LS_CTL_ENGINE 2) 4).put (GG_STAT_STATE 4) 1).put (LSV_LS_SCALE_SCALE 2) 0x640000).put (LSV_LS_WIN_LOW 2) 10).put (LSV_LS_WIN_HIGH 2) 10
  let s := (((s.put (LSV_LS_WIN_PHWIN 2) 10).put (LSV_LS_CTL_ALARM_N 2) 3).wr (LSV_LS_BASE_RE 2) 50000).wr (LSV_LS_BASE_IM 2) 20000
  let s := (s.put (LSV_LS_PILOT_FREQ 2) 22000).put (LSV_LS_CTL_FLT 2) 1 |>.wr64 TIME_SPINDLE 75000000
  s.setCh 2 { s.lsCh 2 with taken := 4800 }

/-- The worked example of a line measured: 900.0 + j538.0 over 1,985.35 + j252.24 codes at 100 ohms is 48.000 + j21.000 ohms. -/
theorem test_line_example :
    (match exec (.lsWindowEnd 2 3686400 2203648 8131994 1033175) ln with
      | .next t => [(t.rd (LSV_LS_Z_RE 2)).toNat, (t.rd (LSV_LS_Z_IM 2)).toNat, (t.rd (LSV_LS_ZMAG 2)).toNat, t.get (LSV_LS_ZPH_PH 2),
          t.get (LSV_LS_RES_STATUS 2)]
      | _ => []) = [48000, 21000, 52393, 2363, 0] := by
  decide +kernel


/-- The hypotheses of StreamQueues, clause 1 to 12, hold together. -/
theorem test_hyp_StreamQueues_1 :
  ((fun (q : Fin 64) (n off : Nat) (i : SqItem) (s : State) =>
    s.get (SQ_CFG_CONS q.val) = n ∧ n < 16 ∧ s.queueOfCons n = some q.val ∧ s.inReset 0x11 = false ∧
    (s.eng n).tx.length < (s.fifoCaps n).1 ∧ (s.sqOf q.val).begun = some i ∧
    (s.sqOf q.val).moved + 1 < (s.sqOf q.val).nw ∧ off = s.slotOff q.val i.slot + 8 + 4 * (s.sqOf q.val).moved ∧
    s.moverFree 4 off 4) 9 2 ((q9 2 0x10).slotOff 9 1 + 12) (it 1) (qx (q9 2 0x10) fun q => { q with begun := some (it 1), nw := 4, moved := 1 })) ∧
  ((fun (q : Fin 64) (n off : Nat) (i : SqItem) (s : State) =>
    s.get (SQ_CFG_CONS q.val) = n ∧ n < 16 ∧ s.queueOfCons n = some q.val ∧ s.inReset 0x11 = false ∧
    (s.eng n).tx.length < (s.fifoCaps n).1 ∧ (s.sqOf q.val).begun = some i ∧
    (s.sqOf q.val).moved + 1 = (s.sqOf q.val).nw ∧ off = s.slotOff q.val i.slot + 8 + 4 * (s.sqOf q.val).moved ∧
    s.moverFree 4 off 4) 9 2 ((q9 2 0x10).slotOff 9 1 + 20) (it 1) (qx (q9 2 0x10) fun q => { q with begun := some (it 1), nw := 4, moved := 3 })) ∧
  ((fun (q : Fin 64) (n : Nat) (w : Word) (r : List Word) (s : State) =>
    s.get (SQ_CFG_PROD q.val) = n ∧ n < 16 ∧ s.queueOfProd n = some q.val ∧ s.inReset 0x11 = false ∧
    (s.eng n).rx = w :: r ∧ (s.sqOf q.val).part = [] ∧ (s.sqOf q.val).items.length < 1000 ∧
    s.get (SQ_LVL_LEVEL q.val) = 0) 9 2 7 [8] (ex (q9 0x10 2) fun e => { e with rx := [7, 8] })) ∧
  ((fun (q : Fin 64) (n : Nat) (w : Word) (r : List Word) (s : State) =>
    s.get (SQ_CFG_PROD q.val) = n ∧ n < 16 ∧ s.queueOfProd n = some q.val ∧ s.inReset 0x11 = false ∧
    (s.eng n).rx = w :: r ∧ (s.sqOf q.val).part.length + 1 = s.itemW q.val ∧ (s.sqOf q.val).part ≠ [] ∧
    (s.sqOf q.val).closes = [] ∧
    s.moverWaits 4 (s.slotOff q.val (s.tailSlot q.val)) (8 + 4 * s.itemW q.val) = false ∧
    s.lockedOut (bankOf (s.slotOff q.val (s.tailSlot q.val))) 4 = false ∧
    (s.sqOf q.val).used.length < s.itemsMax q.val ∧ s.mayWrite 4 (bankOf (s.slotOff q.val (s.tailSlot q.val))) = true) 9 2 7 [8] (qx (ex (q9 0x10 2) fun e => { e with rx := [7, 8] }) fun q => { q with part := [1, 2, 3], partT := 77 })) ∧
  ((fun (q : Fin 64) (s : State) =>
    s.inReset 0x11 = false ∧ (s.sqOf q.val).begun ≠ none) 9 (qx (q9 0x11 0x10) fun q => { q with begun := some (it 1) })) ∧
  ((fun (q : Fin 64) (s : State) =>
    s.inReset 0x11 = false ∧ (s.sqOf q.val).begun = none) 9 ((qx (q9 0x11 0x10) fun q => { q with items := [it 0, it 1], part := [5] }))) ∧
  ((fun (q : Fin 64) (s : State) =>
    s.inReset 0x11 = false ∧ s.on (SQ_CNT_FLUSH_PEND q.val) = true ∧ (s.sqOf q.val).begun = none) 9 ((qx (q9 0x11 0x10) fun q => { q with items := [it 0, it 1], part := [5] }).put (SQ_CNT_FLUSH_PEND 9) 1)) ∧
  ((fun (q : Fin 64) (i : SqItem) (s : State) =>
    (s.sqOf q.val).begun = some i) 9 (it 1) ((qx (q9 0x11 0x10) fun q => { q with begun := some (it 1) }).put (SQ_CNT_FLUSH_PEND 9) 1)) ∧
  ((fun (_q : Fin 64) (s : State) =>
    s.inReset 0x11 = false) 9 ((q9 0x11 0x10).put (SQ_CNT_LOST 9) 77)) ∧
  ((fun (q : Fin 64) (i : SqItem) (s : State) =>
    s.inReset 0x11 = false ∧ softCode (s.get (SQ_CFG_CONS q.val)) = true ∧ (s.sqOf q.val).begun = some i ∧
    s.get (SQ_LVL_LEVEL q.val) = 0 ∧ s.on (SQ_CNT_FLUSH_PEND q.val) = false) 9 (it 1) (qx (q9 0x11 0x10) fun q => { q with begun := some (it 1), items := [it 2] })) ∧
  ((fun (q : Fin 64) (i : SqItem) (s : State) =>
    s.inReset 0x11 = false ∧ softCode (s.get (SQ_CFG_CONS q.val)) = true ∧ (s.sqOf q.val).begun = some i ∧
    s.on (SQ_CNT_FLUSH_PEND q.val) = true) 9 (it 1) ((qx (q9 0x11 0x10) fun q => { q with begun := some (it 1), items := [it 2] }).put (SQ_CNT_FLUSH_PEND 9) 1)) ∧
  ((fun (q : Fin 64) (s : State) =>
    s.inReset 0x11 = false ∧ (s.sqOf q.val).begun = none) 9 hub) := by
  refine ⟨?_, ?_, ?_, ?_, ?_, ?_, ?_, ?_, ?_, ?_, ?_, ?_⟩ <;> decide +kernel

/-- The hypotheses of StreamQueues, clause 13 to 23, hold together. -/
theorem test_hyp_StreamQueues_2 :
  ((fun (q : Fin 64) (nw : BitVec 10) (s : State) =>
    s.inReset 0x11 = false ∧ s.on (SQ_CFG_EN q.val) = true ∧ softCode (s.get (SQ_CFG_PROD q.val)) = true ∧
    1 ≤ nw.toNat ∧ nw.toNat ≤ s.itemW q.val ∧ (s.sqOf q.val).used.length < s.itemsMax q.val ∧
    (s.sqOf q.val).closes = [] ∧ s.moverWaits 4 (s.slotOff q.val (s.tailSlot q.val)) (8 + 4 * nw.toNat) = false ∧
    s.lockedOut (bankOf (s.slotOff q.val (s.tailSlot q.val))) 4 = false ∧
    s.mayWrite 4 (bankOf (s.slotOff q.val (s.tailSlot q.val))) = true ∧ s.get (SQ_LVL_LEVEL q.val) = 0) 9 3 (q9 0x10 0x11)) ∧
  ((fun (q : Fin 32) (nw : BitVec 10) (s : State) =>
    s.inReset 0x11 = false ∧ s.on (SQ_CFG_EN q.val) = true ∧ softCode (s.get (SQ_CFG_PROD q.val)) = true ∧
    1 ≤ nw.toNat ∧ nw.toNat ≤ s.itemW q.val ∧ (s.sqOf q.val).used.length < s.itemsMax q.val ∧
    (s.sqOf q.val).closes = [] ∧ s.moverWaits 4 (s.slotOff q.val (s.tailSlot q.val)) (8 + 4 * nw.toNat) = false ∧
    s.get (SQ_LVL_LEVEL q.val) = (s.sqOf q.val).items.length + 1 ∧ (s.sqOf q.val).lvlUp = false) 9 3 ((q9 0x10 0x11).put (SQ_LVL_LEVEL 9) 1)) ∧
  ((fun (q : Fin 64) (nw : BitVec 10) (i : SqItem) (r : List SqItem) (s : State) =>
    s.inReset 0x11 = false ∧ s.on (SQ_CFG_EN q.val) = true ∧ softCode (s.get (SQ_CFG_PROD q.val)) = true ∧
    1 ≤ nw.toNat ∧ nw.toNat ≤ s.itemW q.val ∧ (s.sqOf q.val).begun = none ∧ (s.sqOf q.val).items = i :: r ∧
    r.length + 1 = s.itemsMax q.val ∧ ((s.sqOf q.val).items.map (·.slot)) = List.range (s.itemsMax q.val) ∧
    s.get (SQ_CNT_LOST q.val) < 65535 ∧ (s.sqOf q.val).closes = [] ∧
    s.moverWaits 4 (s.slotOff q.val (s.tailSlot q.val)) (8 + 4 * nw.toNat) = false) 9 3 (it 0) [it 1, it 2, it 3] (qx (q9 0x10 0x11) fun q => { q with items := [it 0, it 1, it 2, it 3] })) ∧
  ((fun (q : Fin 64) (nw : BitVec 10) (s : State) =>
    s.inReset 0x11 = false ∧ (nw.toNat = 0 ∨ s.itemW q.val < nw.toNat)) 9 5 (q9 0x10 0x11)) ∧
  ((fun (q : Fin 64) (_who : Who) (i : SqItem) (r : List SqItem) (s : State) =>
    s.inReset 0x11 = false ∧ s.on (SQ_CFG_EN q.val) = true ∧ softCode (s.get (SQ_CFG_CONS q.val)) = true ∧
    (s.sqOf q.val).begun = none ∧ (s.sqOf q.val).items = i :: r ∧ i.ack = none ∧ r.length < 1024 ∧
    s.on (SQ_CNT_FLUSH_PEND q.val) = false ∧ s.slotAddr q.val i.slot < 2 ^ 64) 9 ⟨0, 5, 0⟩ (it 2) [it 3] (qx (q9 0x11 0x10) fun q => { q with items := [it 2, it 3] })) ∧
  ((fun (q : Fin 64) (_who : Who) (s : State) =>
    s.inReset 0x11 = false ∧ (s.sqOf q.val).begun = none ∧ (s.sqOf q.val).items = []) 9 ⟨0, 5, 0⟩ (q9 0x11 0x10)) ∧
  ((fun (q : Fin 64) (i : SqItem) (r : List SqItem) (s : State) =>
    s.inReset 0x11 = false ∧ s.locMayTake q.val = true ∧ (s.sqOf q.val).begun = none ∧
    (s.sqOf q.val).items = i :: r ∧ i.ack = none ∧ s.on (SQ_CFG_CRED q.val) = true ∧
    1 ≤ s.load (s.slotOff q.val i.slot) 4 % 1024 ∧ s.load (s.slotOff q.val i.slot) 4 % 1024 ≤ s.itemW q.val ∧
    s.moverFree 4 (s.slotOff q.val i.slot) (8 + 4 * s.itemW q.val)) 9 (it 2) [it 3] (cr.poke (cr.slotOff 9 2) 4 2)) ∧
  ((fun (q : Fin 64) (i : SqItem) (s : State) =>
    (s.sqOf q.val).items = [i] ∧ i.ack = none ∧ s.on (SQ_CFG_EN q.val) = true ∧ s.get (SQ_CFG_CONS q.val) = 0x10 ∧
    s.inReset 0x11 = false ∧ (s.sqOf q.val).begun = none ∧ s.on (SQ_CNT_FLUSH_PEND q.val) = false ∧
    s.open_ 0x11 = true ∧ s.on (SQ_CFG_CRED q.val) = false ∧ s.fwd.locWait = [] ∧ s.open_ 0x0D = true ∧
    s.get (SQ_DEST0_CLASS q.val) = 3 ∧ s.get (SQ_DEST1_MCAST q.val) = 0 ∧ s.get (SQ_DEST0_DST_NODE q.val) = s.node ∧
    s.node ≠ 0xFF ∧ s.get (SQ_DEST0_DST_CHIP q.val) = s.chip ∧ s.on RED_TWIN_CTL_TWIN = false ∧
    s.load (s.slotOff q.val i.slot) 4 % 1024 = 2 ∧ s.moverFree 4 (s.slotOff q.val i.slot) 16 ∧ 2 ≤ s.itemW q.val ∧
    s.occ 4 5 + 2 ≤ s.limit 4 5) 9 (it 2) (lt.poke (lt.slotOff 9 2) 4 2)) ∧
  ((fun (q : Fin 64) (s : State) =>
    s.on (SQ_CFG_EN q.val) = true ∧ s.on (SQ_CFG_CRED q.val) = true ∧ s.inReset 0x11 = false ∧
    s.get (SQ_LVL_LEVEL q.val) = 0) 9 ((qx (q9 0x10 0x11) fun q => { q with unack := 2 }).put (SQ_CFG_CRED 9) 1)) ∧
  ((fun (q : Fin 64) (s : State) =>
    s.on (SQ_CFG_CRED q.val) = false) 9 (q9 0x10 0x11)) ∧
  ((fun (q : Fin 64) (s : State) =>
    s.inReset 0x11 = false ∧ 0 < (s.sqOf q.val).unack ∧ s.get (SQ_LVL_LEVEL q.val) = 0) 9 ((qx (q9 0x10 0x11) fun q => { q with unack := 2 }).put (SQ_CFG_CRED 9) 1)) := by
  refine ⟨?_, ?_, ?_, ?_, ?_, ?_, ?_, ?_, ?_, ?_, ?_⟩ <;> decide +kernel

/-- The hypotheses of ContactsAndLines, clause 1 to 12, hold together. -/
theorem test_hyp_ContactsAndLines_1 :
  ((fun (n : Fin 8) (code : BitVec 16) (r : Nat) (s : State) =>
    s.inReset 0x12 = false ∧ s.d2dLost = false ∧ s.on (LSV_SCI_CFG_EN n.val) = true ∧ s.sciErr n.val = false ∧
    s.on (LSV_SCI_STAT_INIT n.val) = false ∧ sciOhms code.toInt (s.get (LSV_SCI_CFG_OFFSET n.val)) = (r, false) ∧
    s.sciFalls n.val r false = s.get (LSV_SCI_STAT_STATE n.val)) 3 640 (sciOhms 640 (sc.get (LSV_SCI_CFG_OFFSET 3))).1 (sc.put (LSV_SCI_STAT_STATE 3) 1)) ∧
  ((fun (n : Fin 8) (code : BitVec 16) (r : Nat) (s : State) =>
    s.inReset 0x12 = false ∧ s.d2dLost = false ∧ s.on (LSV_SCI_CFG_EN n.val) = true ∧ s.sciErr n.val = false ∧
    sciOhms code.toInt (s.get (LSV_SCI_CFG_OFFSET n.val)) = (r, false) ∧
    s.sciFalls n.val r false ≠ s.get (LSV_SCI_STAT_STATE n.val) ∧
    s.get (LSV_SCI_STAT_CAND n.val) = s.sciFalls n.val r false ∧
    s.get (LSV_SCI_STAT_DCNT n.val) + 1 < s.get (LSV_SCI_CFG_DEB n.val)) 3 640 (sciOhms 640 (sc.get (LSV_SCI_CFG_OFFSET 3))).1 ((sc.put (LSV_SCI_STAT_STATE 3) 2).put (LSV_SCI_STAT_CAND 3) 1 |>.put (LSV_SCI_CFG_HYST 3) 0 |>.put (LSV_SCI_STAT_DCNT 3) 1)) ∧
  ((fun (n : Fin 8) (code : BitVec 16) (r : Nat) (s : State) =>
    s.inReset 0x12 = false ∧ s.d2dLost = false ∧ s.on (LSV_SCI_CFG_EN n.val) = true ∧ s.sciErr n.val = false ∧
    sciOhms code.toInt (s.get (LSV_SCI_CFG_OFFSET n.val)) = (r, false) ∧ s.sciFalls n.val r false = 4 ∧
    s.get (LSV_SCI_STAT_STATE n.val) ≠ 4 ∧ s.get (LSV_SCI_STAT_CAND n.val) = 4 ∧
    s.get (LSV_SCI_STAT_DCNT n.val) + 1 = s.get (LSV_SCI_CFG_DEB n.val) ∧ s.on (LSV_SCI_CFG_FLT n.val) = true ∧
    s.roomy ∧ (∀ k, k < 16 → s.actArmed k = false)) 3 10240 (sciOhms 10240 (sc.get (LSV_SCI_CFG_OFFSET 3))).1 ((sc.put (LSV_SCI_STAT_STATE 3) 1).put (LSV_SCI_STAT_CAND 3) 4 |>.put (LSV_SCI_CFG_HYST 3) 0 |>.put (LSV_SCI_STAT_DCNT 3) 2 |>.put (LSV_SCI_CFG_FLT 3) 1)) ∧
  ((fun (n : Fin 8) (_code : BitVec 16) (s : State) =>
    (s.inReset 0x12 = true ∨ s.on (LSV_SCI_CFG_EN n.val) = false)) 3 2000 hub) ∧
  ((fun (a : Nat) (s : State) =>
    s.inReset 0x12 = false ∧ s.get MPC_MODE_CUR ≠ 1 ∧ s.lsv.actQ = [(5, a)] ∧ s.lsv.playQ.length < 8) 77 (aq [(5, 77)] 2)) ∧
  ((fun (a b : Fin 16) (s : State) =>
    s.inReset 0x12 = false ∧ s.get MPC_MODE_CUR ≠ 1 ∧ s.lsv.actQ = [(1, a.val), (2, b.val)] ∧
    s.inReset 0x10 = false ∧ a ≠ b ∧ s.gg.efSet = 0) 3 5 (aq [(1, 3), (2, 5)] 2)) ∧
  ((fun (s : State) =>
    s.get MPC_MODE_CUR = 1) (aq [(1, 3), (2, 5)] 1)) ∧
  ((fun (_who : Who) (m : Nat) (isl : Bool) (r : List (Nat × Bool)) (s : State) =>
    s.inReset 0x12 = false ∧ s.lsv.playQ = (m, isl) :: r ∧ m < 256) ⟨0, 5, 0⟩ 77 true [(3, false)] (pq [(77, true), (3, false)])) ∧
  ((fun (_who : Who) (s : State) =>
    s.inReset 0x12 = false ∧ s.lsv.playQ = []) ⟨0, 5, 0⟩ (pq [])) ∧
  ((fun (n : Fin 8) (vre vim ire iim : Word) (p : Phasors) (s : State) =>
    s.inReset 0x12 = false ∧ p = ⟨vre.toInt, vim.toInt, ire.toInt, iim.toInt⟩ ∧ s.lsStatus n.val p = 0 ∧
    (s.lsCh n.val).capt = none ∧ (s.lsCh n.val).sweep = none ∧ s.d2dLost = false ∧
    s.on (LSV_LS_RES_ALARM n.val) = false ∧ 50000000 ≤ s.now ∧ s.now < 2 ^ 63) 2 3686400 2203648 8131994 1033175 ⟨3686400, 2203648, 8131994, 1033175⟩ ln) ∧
  ((fun (n : Fin 8) (vre vim ire iim : Word) (p : Phasors) (st : Nat) (s : State) =>
    s.inReset 0x12 = false ∧ s.d2dLost = false ∧ p = ⟨vre.toInt, vim.toInt, ire.toInt, iim.toInt⟩ ∧
    s.lsStatus n.val p = st ∧ 1 ≤ st ∧ st ≤ 4 ∧ (s.lsCh n.val).capt = none ∧ (s.lsCh n.val).sweep = none ∧
    s.on (LSV_LS_RES_ALARM n.val) = false ∧ s.get (LSV_LS_RES_ACNT n.val) + 1 = s.get (LSV_LS_CTL_ALARM_N n.val) ∧
    s.on (LSV_LS_CTL_FLT n.val) = true ∧ s.roomy) 2 0 0 8131994 1033175 ⟨0, 0, 8131994, 1033175⟩ 1 (ln.put (LSV_LS_RES_ACNT 2) 2)) ∧
  ((fun (_n : Fin 8) (_vre _vim _ire _iim : Word) (s : State) =>
    (s.d2dLost = true ∨ s.inReset 0x12 = true)) 2 0 0 8131994 1033175 ({ ln with d2dLost := true })) := by
  refine ⟨?_, ?_, ?_, ?_, ?_, ?_, ?_, ?_, ?_, ?_, ?_, ?_⟩ <;> decide +kernel

/-- The hypotheses of ContactsAndLines, clause 13 to 15, hold together. -/
theorem test_hyp_ContactsAndLines_2 :
  ((fun (n : Fin 8) (s : State) =>
    s.inReset 0x12 = false ∧ s.lsBusy n.val = false) 2 ln) ∧
  ((fun (n : Fin 8) (s : State) =>
    s.inReset 0x12 = false ∧ s.lsBusy n.val = false ∧ s.get (LSV_LS_RES_STATUS n.val) = 0 ∧
    s.lsCfgErr n.val = false ∧ s.on (LSV_LS_CTL_EN n.val) = true ∧ s.on (LSV_LS_CTL_PILOT_EN n.val) = true) 2 (ln.put (LSV_LS_RES_STATUS 2) 0)) ∧
  ((fun (n : Fin 8) (c : Instr) (s : State) =>
    s.inReset 0x12 = false ∧ s.lsBusy n.val = true ∧ c ∈ [Instr.capture n, .sweep n]) 2 (.sweep 2) (ln.setCh 2 { ln.lsCh 2 with capt := some (8, 0, 0) })) := by
  refine ⟨?_, ?_, ?_⟩ <;> decide +kernel

end C13

namespace C14

def mb (st : Nat) : State := (hub.put (MB_STAT_STATE 1) st).put (MB_OBJ_COUNT 1) 40
def mx (s : State) (f : MbSt → MbSt) : State := s.setMb 1 (f (s.mbOf 1))
def ob (i id : Nat) (ide tx : Bool) (s : State) : State := (((s.put (MB_DIR_VALID 1 i) 1).put (MB_DIR_ID 1 i) id).put (MB_DIR_IDE 1 i) (b2n ide)).put (MB_DIR_TX 1 i) (b2n tx)
def sx (i : Nat) : MbTx := ⟨i, 99, [], false, false, false⟩
def pd (st : Nat) : State := (ob 37 0x123 false true (mb st)).setObj (MB_TXPEND_OBJ 1) 37

/-- The hypotheses of MessageBusPorts, clause 1 to 12, hold together. -/
theorem test_hyp_MessageBusPorts_1 :
  ((fun (n : Fin 4) (s : State) =>
    s.inReset 0x13 = false ∧ s.get (MB_STAT_STATE n.val) = 1) 1 (mb 1)) ∧
  ((fun (n : Fin 4) (s : State) =>
    s.inReset 0x13 = false ∧ s.get (MB_STAT_STATE n.val) ≠ 1) 1 (mb 2)) ∧
  ((fun (n : Fin 4) (id : BitVec 29) (ide fdf _brs _esi : Bool) (_dlc : BitVec 4) (_data : List Byte) (_sof : DWord) (i : Nat) (s : State) =>
    s.open_ 0x13 = true ∧ s.get (MB_STAT_STATE n.val) = 2 ∧ s.mbListen n.val = false ∧
    (s.mbOf n.val).sending = none ∧ (s.mbOf n.val).leave = false ∧ (s.mbOf n.val).rxErr = 0 ∧
    (fdf = false ∨ s.on (MB_CTL_FD n.val) = true) ∧
    s.rxObject n.val (if ide then id.toNat else id.toNat % 2 ^ 11) ide = some i ∧ i < 1536 ∧
    s.objBit (MB_NEW_OBJ n.val) i = true ∧ (s.mbOf n.val).todo = [] ∧ s.moverWaits 6 (s.objOff n.val i) 80 = false) 1 0x123 false false false false 8 [1, 2] 77 37 ((ob 37 0x123 false false (mb 2)).setObj (MB_NEW_OBJ 1) 37)) ∧
  ((fun (n : Fin 4) (id : BitVec 29) (fdf _brs _esi : Bool) (_dlc : BitVec 4) (_data : List Byte) (_sof : DWord) (i : Nat) (s : State) =>
    s.open_ 0x13 = true ∧ s.get (MB_STAT_STATE n.val) = 3 ∧ s.mbListen n.val = true ∧ (s.mbOf n.val).sending = none ∧
    (s.mbOf n.val).leave = false ∧ (fdf = false ∨ s.on (MB_CTL_FD n.val) = true) ∧
    s.rxObject n.val id.toNat true = some i ∧ i < 1536 ∧ s.mayWrite 6 (bankOf (s.objOff n.val i)) = true ∧
    s.mayWrite 6 (bankOf (s.objOff n.val i + 8)) = true ∧ (s.mbOf n.val).todo = [] ∧
    s.moverFree 6 (s.objOff n.val i) 80 ∧ s.objOff n.val i + 80 ≤ storeSize) 1 0x12345 true true false 9 [1, 2] 77 37 ((ob 37 0x12345 true false (mb 3)).put (MB_CTL_LOM 1) 1 |>.put (MB_CTL_FD 1) 1)) ∧
  ((fun (n : Fin 4) (id : BitVec 29) (ide _brs _esi : Bool) (_dlc : BitVec 4) (_data : List Byte) (_sof : DWord) (s : State) =>
    s.open_ 0x13 = true ∧ s.get (MB_STAT_STATE n.val) = 2 ∧ s.mbListen n.val = false ∧
    (s.mbOf n.val).sending = none ∧ (s.mbOf n.val).leave = false ∧ (s.mbOf n.val).rxErr = 0 ∧
    s.rxObject n.val (if ide then id.toNat else id.toNat % 2 ^ 11) ide = none) 1 0x123 false false false 8 [1, 2] 77 (mb 2)) ∧
  ((fun (n : Fin 4) (i : Fin 1536) (s : State) =>
    s.inReset 0x13 = false ∧ s.objIs n.val i.val true = true ∧ s.objBit (MB_TXPEND_OBJ n.val) i.val = false ∧
    s.get (MB_STAT_STATE n.val) = 2) 1 37 (ob 37 0x123 false true (mb 2))) ∧
  ((fun (n : Fin 4) (i : BitVec 11) (s : State) =>
    s.inReset 0x13 = false ∧ (s.objIs n.val i.toNat true = false ∨ s.objBit (MB_TXPEND_OBJ n.val) i.toNat = true)) 1 37 (mb 2)) ∧
  ((fun (n : Fin 4) (i : Fin 1536) (s : State) =>
    s.inReset 0x13 = false ∧ s.objIs n.val i.val true = true ∧ s.objBit (MB_TXPEND_OBJ n.val) i.val = false ∧
    s.get (MB_STAT_STATE n.val) = 3 ∧ s.on (MB_CTL_STBY_TX n.val) = false) 1 37 (ob 37 0x123 false true (mb 3) |>.put (MB_CTL_STBY_TX 1) 0)) ∧
  ((fun (n : Fin 4) (i : Fin 1536) (s : State) =>
    s.inReset 0x13 = false ∧ s.objIs n.val i.val true = true ∧ s.objBit (MB_TXPEND_OBJ n.val) i.val = true ∧
    (s.mbOf n.val).sending = none) 1 37 (pd 2)) ∧
  ((fun (n : Fin 4) (i : Fin 1536) (x : MbTx) (s : State) =>
    s.inReset 0x13 = false ∧ s.objIs n.val i.val true = true ∧ s.objBit (MB_TXPEND_OBJ n.val) i.val = true ∧
    (s.mbOf n.val).sending = some x ∧ x.obj = i.val ∧ x.dropped = false) 1 37 (sx 37) (mx (pd 2) fun m => { m with sending := some (sx 37) })) ∧
  ((fun (n : Fin 4) (i : BitVec 11) (s : State) =>
    s.inReset 0x13 = false ∧ s.objBit (MB_TXPEND_OBJ n.val) i.toNat = false) 1 37 (mb 2)) ∧
  ((fun (n : Fin 4) (_sof : DWord) (i : Nat) (s : State) =>
    s.open_ 0x13 = true ∧ s.get (MB_STAT_STATE n.val) = 2 ∧ s.mbBusy n.val = false ∧ s.txChoice n.val = some i ∧
    (s.mbOf n.val).todo = [] ∧ s.moverFree 6 (s.objOff n.val i) 80) 1 77 37 (pd 2)) := by
  refine ⟨?_, ?_, ?_, ?_, ?_, ?_, ?_, ?_, ?_, ?_, ?_, ?_⟩ <;> decide +kernel

/-- The hypotheses of MessageBusPorts, clause 13 to 24, hold together. -/
theorem test_hyp_MessageBusPorts_2 :
  ((fun (n : Fin 4) (_sof : DWord) (i : Nat) (s : State) =>
    s.open_ 0x13 = true ∧ s.get (MB_STAT_STATE n.val) = 2 ∧ s.mbBusy n.val = false ∧ s.txChoice n.val = some i ∧
    s.on (MB_CTL_ONESHOT n.val) = false ∧ (s.mbOf n.val).todo = [] ∧ s.moverFree 6 (s.objOff n.val i) 80) 1 77 37 (pd 2)) ∧
  ((fun (n : Fin 4) (_sof : DWord) (i : Nat) (s : State) =>
    s.open_ 0x13 = true ∧ s.get (MB_STAT_STATE n.val) = 2 ∧ s.mbBusy n.val = false ∧ s.txChoice n.val = some i ∧
    s.on (MB_CTL_ONESHOT n.val) = true ∧ i < 1536 ∧ (s.mbOf n.val).todo = [] ∧ s.moverFree 6 (s.objOff n.val i) 80) 1 77 37 ((pd 2).put (MB_CTL_ONESHOT 1) 1)) ∧
  ((fun (n : Fin 4) (_delay : BitVec 16) (x : MbTx) (s : State) =>
    s.inReset 0x13 = false ∧ (s.mbOf n.val).sending = some x ∧ x.dropped = false ∧ x.obj < 1536 ∧
    s.get (MB_ERR_TEC n.val) = 0 ∧ (s.mbOf n.val).rxErr = 0 ∧ (s.mbOf n.val).leave = false ∧
    s.get (MB_STAT_STATE n.val) = 2 ∧ s.mbListen n.val = false ∧ (s.mbOf n.val).todo = [] ∧
    s.moverWaits 6 (s.objOff n.val x.obj) 80 = false) 1 5 (sx 37) (mx (pd 2) fun m => { m with sending := some (sx 37) })) ∧
  ((fun (n : Fin 4) (_delay : BitVec 16) (x : MbTx) (s : State) =>
    s.inReset 0x13 = false ∧ (s.mbOf n.val).sending = some x ∧ x.dropped = false ∧ x.aborted = false ∧
    (s.mbOf n.val).leave = false ∧ s.get (MB_STAT_STATE n.val) = 2 ∧ s.mbListen n.val = false ∧
    s.on (MB_CTL_ONESHOT n.val) = false) 1 5 (sx 37) (mx (pd 2) fun m => { m with sending := some (sx 37) })) ∧
  ((fun (n : Fin 4) (_delay : BitVec 16) (x : MbTx) (s : State) =>
    s.inReset 0x13 = false ∧ (s.mbOf n.val).sending = some x ∧ x.dropped = false ∧ x.aborted = true ∧ x.obj < 1536 ∧
    (s.mbOf n.val).leave = false ∧ s.get (MB_STAT_STATE n.val) = 2 ∧ s.mbListen n.val = false) 1 5 { sx 37 with aborted := true } (mx (pd 2) fun m => { m with sending := some { sx 37 with aborted := true } })) ∧
  ((fun (n : Fin 4) (_kind : Fin 5) (field : Fin 7) (_dphase : Bool) (s : State) =>
    s.inReset 0x13 = false ∧ s.get (MB_STAT_STATE n.val) = 2 ∧ field.val ≠ 6 ∧ (s.mbOf n.val).rxErr < 95 ∧
    s.get (MB_ERR_TEC n.val) < 96 ∧ (s.mbOf n.val).sending = none ∧ (s.mbOf n.val).leave = false ∧
    s.mbListen n.val = false) 1 3 2 true (mb 2)) ∧
  ((fun (n : Fin 4) (_kind : Fin 5) (_field : Fin 7) (_dphase : Bool) (x : MbTx) (s : State) =>
    s.inReset 0x13 = false ∧ s.get (MB_STAT_STATE n.val) = 2 ∧ (s.mbOf n.val).sending = some x ∧
    248 ≤ s.get (MB_ERR_TEC n.val) ∧ x.aborted = false ∧ s.on (MB_CTL_ONESHOT n.val) = false ∧
    (s.mbOf n.val).leave = false ∧ s.get (MB_ERR_ECS n.val) = 1 ∧ s.roomy) 1 3 2 true (sx 37) ((mx (pd 2) fun m => { m with sending := some (sx 37) }).mbShow 1 250 0)) ∧
  ((fun (n : Fin 4) (s : State) =>
    s.inReset 0x13 = false ∧ s.get (MB_STAT_STATE n.val) = 4 ∧ (s.mbOf n.val).recover = false) 1 (mb 4)) ∧
  ((fun (n : Fin 4) (s : State) =>
    s.inReset 0x13 = false ∧ s.get (MB_STAT_STATE n.val) ≠ 4) 1 (mb 2)) ∧
  ((fun (n : Fin 4) (s : State) =>
    s.inReset 0x13 = false ∧ s.get (MB_STAT_STATE n.val) = 4 ∧ (s.mbOf n.val).recover = true ∧
    s.get (MB_STAT_RCNT n.val) < 127) 1 ((mx (mb 4) fun m => { m with recover := true }).put (MB_STAT_RCNT 1) 126)) ∧
  ((fun (n : Fin 4) (s : State) =>
    s.inReset 0x13 = false ∧ s.get (MB_STAT_STATE n.val) = 4 ∧ (s.mbOf n.val).recover = true ∧
    s.get (MB_STAT_RCNT n.val) = 127) 1 ((mx (mb 4) fun m => { m with recover := true }).put (MB_STAT_RCNT 1) 127)) ∧
  ((fun (n : Fin 4) (s : State) =>
    s.inReset 0x13 = false ∧ s.get (MB_STAT_STATE n.val) = 4 ∧ (s.mbOf n.val).recover = true ∧
    s.get (MB_STAT_RCNT n.val) = 127) 1 ((mx (mb 4) fun m => { m with recover := true }).put (MB_STAT_RCNT 1) 127)) := by
  refine ⟨?_, ?_, ?_, ?_, ?_, ?_, ?_, ?_, ?_, ?_, ?_, ?_⟩ <;> decide +kernel

/-- The hypotheses of MessageBusPorts, clause 25 to 31, hold together. -/
theorem test_hyp_MessageBusPorts_3 :
  ((fun (n : Fin 4) (_id : BitVec 29) (_ide fdf _brs _esi : Bool) (_dlc : BitVec 4) (_data : List Byte) (_sof : DWord) (s : State) =>
    s.open_ 0x13 = true ∧ s.get (MB_STAT_STATE n.val) = 2 ∧ s.mbListen n.val = false ∧
    (s.mbOf n.val).sending = none ∧ (s.mbOf n.val).leave = false ∧ (s.mbOf n.val).rxErr = 0 ∧
    (fdf = false ∨ s.on (MB_CTL_FD n.val) = true)) 1 0x123 false false false false 8 [] 77 (mb 2)) ∧
  ((fun (n : Fin 4) (_id : BitVec 29) (_ide fdf _brs _esi : Bool) (_dlc : BitVec 4) (_data : List Byte) (_sof : DWord) (s : State) =>
    s.open_ 0x13 = true ∧ s.get (MB_STAT_STATE n.val) = 2 ∧ s.mbListen n.val = false ∧
    (s.mbOf n.val).sending = none ∧ (s.mbOf n.val).leave = false ∧ (s.mbOf n.val).rxErr = 0 ∧
    (fdf = false ∨ s.on (MB_CTL_FD n.val) = true)) 1 0x123 true true false false 8 [] 77 ((mb 2).put (MB_CTL_FD 1) 1)) ∧
  ((fun (n : Fin 4) (_id : BitVec 29) (_ide _brs _esi _rtr : Bool) (_dlc : BitVec 4) (_data : List Byte) (_sof : DWord) (s : State) =>
    s.open_ 0x13 = true ∧ s.get (MB_STAT_STATE n.val) = 2 ∧ s.on (MB_CTL_FD n.val) = false ∧
    (s.mbOf n.val).rxErr < 95 ∧ s.get (MB_ERR_TEC n.val) < 96 ∧ (s.mbOf n.val).sending = none ∧
    (s.mbOf n.val).leave = false ∧ s.mbListen n.val = false) 1 0x123 false false false false 8 [] 77 ((mb 2).put (MB_CTL_FD 1) 0)) ∧
  ((fun (n : Fin 4) (_kind : Fin 5) (_field : Fin 7) (_dphase exempt : Bool) (s : State) =>
    s.inReset 0x13 = false ∧
    (s.get (MB_STAT_STATE n.val) = 2 ∧ s.mbListen n.val = false ∧
    exempt = true ∨ s.get (MB_STAT_STATE n.val) = 3 ∧ s.mbListen n.val = true) ∧
    (s.mbOf n.val).sending = none ∧ (s.mbOf n.val).leave = false) 1 3 2 true true (mb 2)) ∧
  ((fun (n : Fin 4) (_kind : Fin 5) (_field : Fin 7) (_dphase exempt : Bool) (s : State) =>
    s.inReset 0x13 = false ∧
    (s.get (MB_STAT_STATE n.val) = 2 ∧ s.mbListen n.val = false ∧
    exempt = true ∨ s.get (MB_STAT_STATE n.val) = 3 ∧ s.mbListen n.val = true) ∧
    (s.mbOf n.val).sending = none ∧ (s.mbOf n.val).leave = false) 1 4 6 true false ((mb 3).put (MB_CTL_LOM 1) 1)) ∧
  ((fun (n : Fin 4) (_kind : Fin 5) (_dphase : Bool) (s : State) =>
    s.inReset 0x13 = false ∧ s.get (MB_STAT_STATE n.val) = 2 ∧ (s.mbOf n.val).rxErr < 88 ∧
    s.get (MB_ERR_TEC n.val) < 96 ∧ (s.mbOf n.val).sending = none ∧ (s.mbOf n.val).leave = false ∧
    s.mbListen n.val = false) 1 4 true (mb 2)) ∧
  ((fun (n : Fin 4) (_kind : Fin 5) (_field : Fin 7) (_dphase : Bool) (x : MbTx) (s : State) =>
    s.inReset 0x13 = false ∧ s.get (MB_STAT_STATE n.val) = 2 ∧ (s.mbOf n.val).sending = some x ∧
    s.get (MB_ERR_TEC n.val) < 88 ∧ (s.mbOf n.val).rxErr < 96) 1 4 6 true (sx 37) (mx (pd 2) fun m => { m with sending := some (sx 37) })) ∧
  ((fun (n : Fin 4) (_delay : BitVec 16) (x : MbTx) (s : State) =>
    s.inReset 0x13 = false ∧ (s.mbOf n.val).sending = some x ∧ x.dropped = false ∧ x.aborted = false ∧ x.obj < 1536 ∧
    (s.mbOf n.val).leave = false ∧ s.get (MB_STAT_STATE n.val) = 2 ∧ s.mbListen n.val = false ∧
    s.on (MB_CTL_ONESHOT n.val) = true) 1 5 (sx 37) ((mx (pd 2) fun m => { m with sending := some (sx 37) }).put (MB_CTL_ONESHOT 1) 1)) ∧
  ((fun (n : Fin 4) (_won : Bool) (_sof : DWord) (s : State) =>
    s.open_ 0x13 = true ∧
    (s.get (MB_STAT_STATE n.val) = 3 ∨ s.get (MB_STAT_STATE n.val) = 2 ∧ s.txChoice n.val = none) ∧
    s.mbBusy n.val = false) 1 false 5 (mb 2)) ∧
  ((fun (n : Fin 4) (_won : Bool) (_sof : DWord) (s : State) =>
    s.open_ 0x13 = true ∧
    (s.get (MB_STAT_STATE n.val) = 3 ∨ s.get (MB_STAT_STATE n.val) = 2 ∧ s.txChoice n.val = none) ∧
    s.mbBusy n.val = false) 1 true 5 (mb 3)) := by
  refine ⟨?_, ?_, ?_, ?_, ?_, ?_, ?_, ?_, ?_, ?_⟩ <;> decide +kernel

end C14

namespace C15

def wide : State := (List.range 9).foldl (fun s r => s.put (MSA_WPROT_WR r) 0xFFFF) hub
def qs : State := { wide.put HBR_CTL_PORT 1 with sys := { wide.sys with recordOn := true }, hbr := { wide.hbr with r99 := false } }
def hl : State := (((wide.put HBR_CTL_PORT 2).put (LANE_CTL_HOST 3) 1).put (LANE_STAT_UP 3) 1)

/-- The hypotheses of HostAccess, clause 1 to 12, hold together. -/
theorem test_hyp_HostAccess_1 :
  ((fun (s : State) =>
    s.qspiOn = true ∧ s.port ≠ 0) ((qs.put HBR_HST_WR_DROP 1).put HBR_HST_PWF 1)) ∧
  ((fun (s : State) =>
    s.qspiOn = true ∧ s.port ≠ 0) qs) ∧
  ((fun (addr : BitVec 48) (o : Nat) (data : List Byte) (s : State) =>
    s.qspiOn = true ∧ s.port = 1 ∧ data.length = 4 ∧ fabNode addr.toNat = 0xFE ∧ fabChip addr.toNat = s.chip ∧
    fabOff addr.toNat = storeBase + o ∧ o % 4 = 0 ∧ o + 4 ≤ storeSize ∧ s.postUnits < 128 ∧ s.fab.here = [] ∧
    s.accWaits 5 o = false ∧ s.lockedOut (bankOf o) 5 = false ∧ s.mayWrite 5 (bankOf o) = true ∧ s.mark (o / 8) = none) (BitVec.ofNat 48 (fabAddr 0xFE 0 0x10000044)) 0x44 [1, 2, 3, 4] qs) ∧
  ((fun (_addr : BitVec 48) (n : Fin 64) (data : List Byte) (s : State) =>
    s.qspiOn = true ∧ s.port = 1 ∧ data.length ≠ 4 * (n.val + 1)) 0 2 [1, 2, 3, 4] qs) ∧
  ((fun (tag : Fin 8) (addr : BitVec 48) (o : Nat) (s : State) =>
    s.qspiOn = true ∧ s.port = 1 ∧ s.getBit HBR_HST_BUSY tag.val = false ∧ fabNode addr.toNat = 0xFE ∧
    fabChip addr.toNat = s.chip ∧ fabOff addr.toNat = storeBase + o ∧ o % 4 = 0 ∧ o + 4 ≤ storeSize ∧
    s.fab.here = [] ∧ s.accWaits 5 o = false ∧ s.lockedOut (bankOf o) 5 = false ∧ s.mark (o / 8) = none ∧
    s.node ≠ 0xFF) 3 (BitVec.ofNat 48 (fabAddr 0xFE 0 0x10000044)) 0x44 (qs.poke 0x40 8 0x1122334455667788)) ∧
  ((fun (tag : Fin 8) (_addr : BitVec 48) (_n : Fin 64) (s : State) =>
    s.qspiOn = true ∧ s.port = 1 ∧ s.getBit HBR_HST_BUSY tag.val = true) 3 0 0 (qs.put HBR_HST_BUSY 8)) ∧
  ((fun (tag : Fin 8) (h : HTag) (s : State) =>
    s.qspiOn = true ∧ s.port = 1 ∧ s.hTag tag.val = some h ∧ s.getBit HBR_HST_READY tag.val = true) 3 ⟨0, 0, 0, [(0, some 5), (1, some 6), (3, some 7)]⟩ ((qs.put HBR_HST_READY 8).setHTag 3 (some ⟨0, 0, 0, [(0, some 5), (1, some 6), (3, some 7)]⟩))) ∧
  ((fun (tag : Fin 8) (h : HTag) (s : State) =>
    s.qspiOn = true ∧ s.port = 1 ∧ s.hTag tag.val = some h ∧ s.getBit HBR_HST_READY tag.val = false) 3 ⟨0, 0, 0, []⟩ (qs.setHTag 3 (some ⟨0, 0, 0, []⟩))) ∧
  ((fun (tag : Fin 8) (addr : BitVec 48) (o : Nat) (_d : DWord) (s : State) =>
    s.qspiOn = true ∧ s.port = 1 ∧ s.getBit HBR_HST_BUSY tag.val = false ∧ fabNode addr.toNat = 0xFE ∧
    fabChip addr.toNat = s.chip ∧ fabOff addr.toNat = storeBase + o ∧ o % 8 = 0 ∧ o + 8 ≤ storeSize ∧
    s.fab.here = [] ∧ s.accWaits 5 o = false ∧ s.lockedOut (bankOf o) 5 = false ∧ s.mark (o / 8) = none ∧
    s.mayWrite 5 (bankOf o) = true ∧ s.node ≠ 0xFF) 3 (BitVec.ofNat 48 (fabAddr 0xFE 0 0x10000040)) 0x40 0xFFFFFFFFFFFFFFFF (qs.poke 0x40 8 0x1122334455667788)) ∧
  ((fun (s : State) =>
    s.qspiOn = true ∧ s.port = 1 ∧ s.on (HBR_FENCE_STAT_BUSY 4) = false ∧ s.destSet 4 = []) qs) ∧
  ((fun (s : State) =>
    s.qspiOn = true ∧ s.port = 1) (qs.put HBR_HST_FENCE_DONE 1)) ∧
  ((fun (s : State) =>
    s.qspiOn = true ∧ s.port ≠ 0) (qs.put HBR_CTL_PORT 2)) := by
  refine ⟨?_, ?_, ?_, ?_, ?_, ?_, ?_, ?_, ?_, ?_, ?_, ?_⟩ <;> decide +kernel

/-- The hypotheses of HostAccess, clause 13 to 18, hold together. -/
theorem test_hyp_HostAccess_2 :
  ((fun (tag : Fin 8) (addr : BitVec 48) (n : Fin 64) (c : Instr) (s : State) =>
    c ∈ [Instr.readReq tag addr n, .readGet tag, .qspiFence, .fenceGet] ∧ s.port ≠ 1) 1 2 3 .fenceGet (qs.put HBR_CTL_PORT 2)) ∧
  ((fun (dst _src : BitVec 48) (len : BitVec 16) (_vlan : Bool) (h a _d : DWord) (o : Nat) (s : State) =>
    s.hostLane = true ∧ s.inReset 0x0B = false ∧ s.open_ 0x14 = true ∧ 64 ≤ len.toNat ∧ len.toNat ≤ 1518 ∧
    s.port = 2 ∧ dst.toNat = s.hbrMac ∧ bits h.toNat 0 8 = 1 ∧ bits h.toNat 48 8 = 0 ∧ bits h.toNat 8 8 = 1 ∧
    24 ≤ s.laneFree ∧ fabNode (a.toNat % 2 ^ 48) = 0xFE ∧ fabChip (a.toNat % 2 ^ 48) = s.chip ∧
    fabOff (a.toNat % 2 ^ 48) = storeBase + o ∧ o % 8 = 0 ∧ o + 8 ≤ storeSize ∧ s.fab.here = [] ∧
    s.accWaits 5 o = false ∧ s.lockedOut (bankOf o) 5 = false ∧ s.mayWrite 5 (bankOf o) = true) 0 0x123456789ABC 1000 false 0x0000000000000101 (BitVec.ofNat 64 (fabAddr 0xFE 0 0x10000048)) 77 0x48 hl) ∧
  ((fun (_dst _src : BitVec 48) (ety len : BitVec 16) (_vlan good : Bool) (_p : List DWord) (s : State) =>
    s.hostLane = true ∧ s.inReset 0x0B = false ∧
    (ety ≠ 0x88B5#16 ∧ ety ≠ 0x8808#16 ∨ good = false ∨ len.toNat < 64 ∨ 1522 < len.toNat)) 0 0 0x88B5 60 false true [] hl) ∧
  ((fun (_dst _src : BitVec 48) (len : BitVec 16) (_vlan : Bool) (_p : List DWord) (s : State) =>
    s.hostLane = true ∧ s.inReset 0x0B = false ∧ 64 ≤ len.toNat ∧ len.toNat ≤ 1518) 0 0 64 true [] hl) ∧
  ((fun (dst _src : BitVec 48) (len : BitVec 16) (_vlan : Bool) (p : List DWord) (s : State) =>
    s.hostLane = true ∧ s.inReset 0x0B = false ∧ s.open_ 0x14 = true ∧ 64 ≤ len.toNat ∧ len.toNat ≤ 1518 ∧
    (s.port ≠ 2 ∨ (dst.toNat ≠ s.hbrMac ∧ dst.toNat ≠ 2 ^ 48 - 1) ∨ bits (p.getD 0 0#64).toNat 0 8 ≠ 1)) 5 0 100 false [] hl) ∧
  ((fun (r : List DWord) (s : State) =>
    s.hostLane = true ∧ s.port = 2 ∧ s.inReset 0x14 = false ∧ s.inReset 0x0B = false ∧ s.hbr.rsp = [r] ∧
    r.length ≤ 186) [1, 2, 3] ({ hl with hbr := { hl.hbr with rsp := [[1, 2, 3]], seq := 65535 } })) := by
  refine ⟨?_, ?_, ?_, ?_, ?_, ?_⟩ <;> decide +kernel

end C15

namespace C16

def flt (m : FaultMsg) : State := { hub with fltQ := [m] }
def m1 : FaultMsg := ⟨7, 9, 2, 0x0512345678, false, 9⟩
def rule (s : State) (k a : Nat) : State := ((s.put (FLT_RULE_M_VALID k) 1).put (FLT_RULE_M_SRC k) 7).wr (FLT_RULE_A k) (BitVec.ofNat 32 a)

/-- The hypotheses of InterruptClaims, clause 1 to 4, hold together. -/
theorem test_hyp_InterruptClaims :
  ((fun (_tg : Fin 3) (_w : Fin 8) (_mask : Word) (s : State) =>
    s.inReset 0x06 = false) 1 0 0x7 (((hub.put (INTC_PEND_P 1 0) 5).put (INTC_EN_EN 1 0) 0xFFFFFFFF).put (INTC_ROUTE_TGT 1) 7)) ∧
  ((fun (_tg : Fin 3) (_w : Fin 8) (_mask : Word) (s : State) =>
    s.inReset 0x06 = false) 1 0 0xFFFFFFFF (((hub.put (INTC_ROUTE_TGT 9) 7).put MPC_WAKE_CAUSE_LANE 1))) ∧
  ((fun (_tg : Fin 3) (_w : Fin 8) (_mask : Word) (s : State) =>
    s.inReset 0x06 = false) 1 1 0xFFFFFFFF (((hub.put (INTC_ROUTE_TGT 9) 7).put MPC_WAKE_CAUSE_LANE 1))) ∧
  ((fun (_tg : Fin 3) (_w : Fin 8) (_mask : Word) (s : State) =>
    s.inReset 0x06 = false) 1 0 0x7 (hub.put (INTC_CLAIM_A 1 0) 0xF5)) ∧
  ((fun (_mask : BitVec 8) (s : State) =>
    s.inReset 0x06 = false) 0x3 ((hub.put (INTC_ROUTE_TGT 1) 7).put (INTC_PEND_P 1 0) 4)) ∧
  ((fun (g : Fin 16) (s : State) =>
    s.inReset 0x06 = false ∧ s.intcSample.get (INTC_GRP_STAT_STATE g.val) = 1) 3 ((((((((hub.put (INTC_PEND_P 1 0) 4).put (INTC_EN_EN 1 0) 0xFFFFFFFF).put (INTC_ROUTE_TGT 2) 7).put (INTC_ROUTE_CO 2) 1).put (INTC_ROUTE_GRP 2) 3).put (INTC_GRP_CTL_TGT 3) 1).put (INTC_GRP_CTL_COUNT 3) 5).put (INTC_GRP_STAT_STATE 3) 1)) := by
  refine ⟨?_, ?_, ?_, ?_, ?_, ?_⟩ <;> decide +kernel

/-- The hypotheses of FaultRecords, clause 1 to 12, hold together. -/
theorem test_hyp_FaultRecords :
  ((fun (m : FaultMsg) (r : List FaultMsg) (n : Nat) (s : State) =>
    s.open_ 0x05 = true ∧ s.fltQ = m :: r ∧ m.inj = false ∧ (∀ k, k < 64 → s.ruleHits m k = false) ∧ n < 16 ∧
    s.getBit FLT_OPEN_REC n = false ∧ (∀ i, i < n → s.getBit FLT_OPEN_REC i = true) ∧
    (∀ i, i < 16 → s.getBit FLT_OPEN_REC i = true → s.get (FLT_REC_W0_SRC i) ≠ m.src)) m1 [] 2 (((flt m1).put FLT_OPEN_REC 3).put (FLT_REC_W0_SRC 0) 3)) ∧
  ((fun (m : FaultMsg) (r : List FaultMsg) (n : Nat) (s : State) =>
    s.open_ 0x05 = true ∧ s.fltQ = m :: r ∧ m.inj = false ∧ (∀ k, k < 64 → s.ruleHits m k = false) ∧ n < 16 ∧
    s.getBit FLT_OPEN_REC n = true ∧ s.get (FLT_REC_W0_SRC n) = m.src ∧
    (∀ i, i < n → s.getBit FLT_OPEN_REC i = true → s.get (FLT_REC_W0_SRC i) ≠ m.src) ∧ m.sev < 4) ⟨7, 9, 2, 0x0512345678, false, 9⟩ [] 1 (((flt m1).put FLT_OPEN_REC 3).put (FLT_REC_W0_SRC 1) 7)) ∧
  ((fun (m : FaultMsg) (r : List FaultMsg) (k line : Nat) (s : State) =>
    s.open_ 0x05 = true ∧ s.fltQ = m :: r ∧ m.inj = true ∧ k < 64 ∧ s.ruleHits m k = true ∧
    (∀ j, j < k → s.ruleHits m j = false) ∧ line < 8 ∧ s.rd (FLT_RULE_A k) = BitVec.ofNat 32 (0x20023 + 4 * line) ∧
    s.get FLT_OPEN_REC = 0 ∧ s.inReset 0x06 = false) ⟨7, 9, 2, 5, true, 9⟩ [] 5 6 ((rule (flt ⟨7, 9, 2, 5, true, 9⟩) 5 (0x20023 + 24)).put (INTC_ROUTE_TGT 20) 5)) ∧
  ((fun (m : FaultMsg) (r : List FaultMsg) (s : State) =>
    s.open_ 0x05 = true ∧ s.fltQ = m :: r ∧ m.inj = false ∧ (∀ k, k < 64 → s.ruleHits m k = false) ∧
    s.get FLT_OPEN_REC = 0xFFFF ∧ (∀ i, i < 16 → s.get (FLT_REC_W0_SRC i) ≠ m.src)) m1 [] ((flt m1).put FLT_OPEN_REC 0xFFFF)) ∧
  ((fun (m : FaultMsg) (r : List FaultMsg) (k : Nat) (s : State) =>
    s.open_ 0x05 = true ∧ s.fltQ = m :: r ∧ m.inj = false ∧ k < 64 ∧ s.ruleHits m k = true ∧
    (∀ j, j < k → s.ruleHits m j = false) ∧ s.rd (FLT_RULE_A k) = 0x20#32) m1 [] 9 (rule (flt m1) 9 0x20)) ∧
  ((fun (m : FaultMsg) (r : List FaultMsg) (k : Nat) (s : State) =>
    s.open_ 0x05 = true ∧ s.fltQ = m :: r ∧ m.inj = false ∧ k < 64 ∧ s.ruleHits m k = true ∧
    (∀ j, j < k → s.ruleHits m j = false) ∧ s.rd (FLT_RULE_A k) = 0x4140#32 ∧ s.unitOf 0x41 = none ∧
    s.sameCycle = none) m1 [] 9 (rule (flt m1) 9 0x4140)) ∧
  ((fun (_mask : BitVec 16) (s : State) =>
    s.inReset 0x05 = false) 5 ((hub.put FLT_OPEN_REC 0xFF).put FLT_FN_REC 0x3C)) ∧
  ((fun (_n : Fin 16) (_who : Who) (s : State) =>
    s.inReset 0x05 = false) 3 ⟨1, 5, 0⟩ hub) ∧
  ((fun (n : Fin 16) (w : Fin 8) (who : Who) (l : List Word) (s : State) =>
    s.inReset 0x05 = false ∧ w.val ≠ 0 ∧ Tab.get (fun _ => none) s.recLatch (16 * whoKey who + n.val) = some l) 3 2 ⟨1, 5, 0⟩ [1, 2, 3, 4, 5, 6, 7] ({ hub with recLatch := [(16 * whoKey ⟨1, 5, 0⟩ + 3, some [1, 2, 3, 4, 5, 6, 7])] })) ∧
  ((fun (s : State) =>
    s.inReset 0x05 = false) (hub.put FLT_STAT_SAFE 1)) ∧
  ((fun (_w : Word) (_who : Who) (s : State) =>
    s.inReset 0x05 = false ∧ s.on MPC_MODE_FTEST = false) 0x80000000 ⟨1, 5, 0⟩ hub) ∧
  ((fun (w : Word) (_who : Who) (s : State) =>
    s.inReset 0x05 = false ∧ s.on MPC_MODE_FTEST = true ∧ w.getLsbD 31 = true ∧ s.roomy) 0x80025507 ⟨1, 5, 0⟩ (hub.put MPC_MODE_FTEST 1)) := by
  refine ⟨?_, ?_, ?_, ?_, ?_, ?_, ?_, ?_, ?_, ?_, ?_, ?_⟩ <;> decide +kernel

/-- The hypotheses of FaultCollectorReset, clause 1 to 2, hold together. -/
theorem test_hyp_FaultCollectorReset :
  ((fun (_m : FaultMsg) (s : State) =>
    s.getBit RSTC_INRST_BLK 0x05 = true) m1 (hub.setInrst 5 true)) ∧
  ((fun (x : UnitSt) (s : State) =>
    s.unitOf 0x05 = some x ∧ x.phase = 1) ⟨1, 6, false, 3, 16, 7⟩ (({ (hub.setUnit 0x05 (some ⟨1, 6, false, 3, 16, 7⟩)) with fltQ := [m1] } : State).put FLT_OPEN_REC 3)) := by
  refine ⟨?_, ?_⟩ <;> decide +kernel

/-- The hypotheses of DeadlineLog, clause 1 to 2, hold together. -/
theorem test_hyp_DeadlineLog :
  ((fun (m : Miss) (r : List Miss) (s : State) =>
    s.inReset 0x0F = false ∧ s.time.dlQ = m :: r) ⟨3, 0x10, 5, 77, 99, true⟩ [] ({ hub.put TIME_DL_HEAD_NEXT 15 with time := { hub.time with dlQ := [⟨3, 0x10, 5, 77, 99, true⟩] } })) ∧
  ((fun (s : State) =>
    s.inReset 0x0F = false) (hub.put (TIME_DL_W1_LATENESS 3) 5)) := by
  refine ⟨?_, ?_⟩ <;> decide +kernel

end C16

namespace C19

def ux (s : State) (f : UpdSt → UpdSt) : State := { s with upd := f s.upd }
def bz : State := ux (hub.put UPD_STAT_BUSY 1) fun u => { u with key := true }
def vf : State := ux hub fun u => { u with ver := 2 }
def dirS : State := (ux hub fun u => { u with ver := 3 }).flashPut 0 (⟨7, 0, 1, 1⟩ : Dir).bytes
def mnt : State := ux (hub.put MPC_MODE_CUR 5) fun u => { u with key := true }

/-- The hypotheses of UpdateCommands, clause 1 to 11, hold together. -/
theorem test_hyp_UpdateCommands_1 :
  ((fun (c : Instr) (good : Bool) (slot : Fin 2) (k : Fin 4) (s : State) =>
    s.open_ 0x16 = true ∧ s.on UPD_STAT_BUSY = true ∧
    c ∈ [Instr.erase good, .program good, .updRead, .verify slot, .updArm slot good, .updDisarm good, .activate slot good, .confirm good, .updMac,
      .otpProg k, .otpRevoke k, .checkIsl, .dirInit slot good]) (.verify 1) true 1 2 bz) ∧
  ((fun (op : Nat) (c : Instr) (good : Bool) (s : State) =>
    s.open_ 0x16 = true ∧ s.on UPD_STAT_BUSY = false ∧
    (c = .erase good ∧ op = 1 ∨ c = .program good ∧ op = 2 ∨ c = .updRead ∧ op = 3) ∧ s.flashRefusal op s.faddr ≠ 0) 2 (.program true) true (hub.put UPD_FADDR_ADDR 0x100000)) ∧
  ((fun (slot : Fin 2) (off : Nat) (s : State) =>
    s.open_ 0x16 = true ∧ s.on UPD_STAT_BUSY = false ∧ s.flashRefusal 1 s.faddr = 0 ∧
    flashSlot s.faddr = some (slot.val, off)) 1 0 (ux (hub.put UPD_FADDR_ADDR 0x700000) fun u => { u with ver := 2, flash := [(0x700003, 5#8), (0x710000, 6#8)] })) ∧
  ((fun (slot : Fin 2) (off : Nat) (s : State) =>
    s.open_ 0x16 = true ∧ s.on UPD_STAT_BUSY = false ∧ s.flashRefusal 2 s.faddr = 0 ∧
    flashSlot s.faddr = some (slot.val, off) ∧ (∀ i, i < 256 → s.flashNum (s.faddr + i) 1 = 0xFF)) 1 0x100 ((ux (hub.put UPD_FADDR_ADDR 0x700100) fun u => { u with ver := 2, flash := [(0x700003, 5#8), (0x710000, 6#8)] }).wr (UPD_BUF 7) 0x12345678)) ∧
  ((fun (s : State) =>
    s.open_ 0x16 = true ∧ s.on UPD_STAT_BUSY = false ∧ s.flashRefusal 3 s.faddr = 0) (ux (hub.put UPD_FADDR_ADDR 0x700000) fun u => { u with ver := 2, flash := [(0x700003, 5#8), (0x710000, 6#8)] })) ∧
  ((fun (_slot : Fin 2) (s : State) =>
    s.open_ 0x16 = true ∧ s.on UPD_STAT_BUSY = false) 1 hub) ∧
  ((fun (slot : Fin 2) (s : State) =>
    s.open_ 0x16 = true ∧ s.on UPD_STAT_BUSY = false ∧ s.flashNum (slotBase slot.val) 4 ≠ 0x4748494D) 1 hub) ∧
  ((fun (slot : Fin 2) (c : Instr) (op : Nat) (good : Bool) (s : State) =>
    s.open_ 0x16 = true ∧ s.on UPD_STAT_BUSY = false ∧ s.upd.ver.testBit slot.val = false ∧
    (c = .updArm slot good ∧ op = 5 ∨ c = .activate slot good ∧ op = 7)) 1 (.activate 1 true) 7 true hub) ∧
  ((fun (slot : Fin 2) (s : State) =>
    s.open_ 0x16 = true ∧ s.on UPD_STAT_BUSY = false ∧ s.upd.ver.testBit slot.val = true) 1 vf) ∧
  ((fun (slot : Fin 2) (s : State) =>
    s.open_ 0x16 = true ∧ s.on UPD_STAT_BUSY = false ∧ s.upd.ver.testBit slot.val = true) 0 dirS) ∧
  ((fun (s : State) =>
    s.open_ 0x16 = true ∧ s.on UPD_STAT_BUSY = false) dirS) ∧
  ((fun (s : State) =>
    s.open_ 0x16 = true ∧ s.on UPD_STAT_BUSY = false) dirS) := by
  refine ⟨?_, ?_, ?_, ?_, ?_, ?_, ?_, ?_, ?_, ?_, ?_, ?_⟩ <;> decide +kernel

/-- The hypotheses of UpdateCommands, clause 12 to 23, hold together. -/
theorem test_hyp_UpdateCommands_2 :
  ((fun (slot : Fin 2) (_good : Bool) (s : State) =>
    s.open_ 0x16 = true ∧ s.on UPD_STAT_BUSY = false ∧ s.upd.ver.testBit slot.val = true ∧ s.armedFor slot.val = true) 1 true dirS) ∧
  ((fun (_good : Bool) (s : State) =>
    s.open_ 0x16 = true ∧ s.on UPD_STAT_BUSY = false ∧ s.on UPD_STAT_TRIAL = false) true hub) ∧
  ((fun (k : Nat) (d : Dir) (s : State) =>
    s.open_ 0x16 = true ∧ s.on UPD_STAT_BUSY = false ∧ s.on UPD_STAT_TRIAL = true ∧ s.dirChosen = some (k, d)) 0 ⟨7, 0, 1, 1⟩ (dirS.put UPD_STAT_TRIAL 1)) ∧
  ((fun (n a : Nat) (s : State) =>
    s.open_ 0x16 = true ∧ s.on UPD_STAT_BUSY = false ∧ s.get UPD_MLEN_BYTES = n ∧ s.get UPD_MSRC_ADDR = a ∧ 8 ≤ n ∧
    n ≤ 1048576 ∧ a % 8 = 0 ∧ storeBase ≤ a ∧ a + n ≤ storeBase + storeSize) 16 (storeBase + 8) ((hub.put UPD_MLEN_BYTES 16).put UPD_MSRC_ADDR (storeBase + 8))) ∧
  ((fun (s : State) =>
    s.open_ 0x16 = true ∧ s.on UPD_STAT_BUSY = false ∧ s.get UPD_MLEN_BYTES < 8) hub) ∧
  ((fun (k : Fin 4) (c : Instr) (op : Nat) (s : State) =>
    s.open_ 0x16 = true ∧ s.on UPD_STAT_BUSY = false ∧ (s.get MPC_MODE_CUR ≠ 5 ∨ s.upd.key = false) ∧
    (c = .otpProg k ∧ op = 10 ∨ c = .otpRevoke k ∧ op = 11)) 2 (.otpProg 2) 10 hub) ∧
  ((fun (k : Fin 4) (s : State) =>
    s.open_ 0x16 = true ∧ s.on UPD_STAT_BUSY = false ∧ s.get MPC_MODE_CUR = 5 ∧ s.upd.key = true ∧
    s.get (UPD_OTP_STAT_KEY k.val) = 0) 2 (mnt.wr (UPD_HASH 3) 77)) ∧
  ((fun (k : Fin 4) (s : State) =>
    s.open_ 0x16 = true ∧ s.on UPD_STAT_BUSY = false ∧ s.get MPC_MODE_CUR = 5 ∧ s.upd.key = true ∧
    (s.on UPD_STAT_RECOVERY = true ∨ s.hdr (s.get UPD_STAT_ACTIVE) 0x0C 1 ≠ k.val)) 2 mnt) ∧
  ((fun (s : State) =>
    s.open_ 0x16 = true ∧ s.on UPD_STAT_BUSY = false) hub) ∧
  ((fun (_slot : Fin 2) (_good : Bool) (s : State) =>
    s.open_ 0x16 = true ∧ s.on UPD_STAT_BUSY = false ∧ s.on UPD_STAT_RECOVERY = false) 1 true hub) ∧
  ((fun (_slot : Fin 2) (k : Nat) (d : Dir) (s : State) =>
    s.open_ 0x16 = true ∧ s.on UPD_STAT_BUSY = false ∧ s.on UPD_STAT_RECOVERY = true ∧ s.dirChosen = some (k, d)) 1 0 ⟨7, 0, 1, 1⟩ (dirS.put UPD_STAT_RECOVERY 1)) ∧
  ((fun (_v : Word) (s : State) =>
    s.inReset 0x16 = false) 0x7E1A hub) := by
  refine ⟨?_, ?_, ?_, ?_, ?_, ?_, ?_, ?_, ?_, ?_, ?_, ?_⟩ <;> decide +kernel

/-- The hypotheses of UpdateCommands, clause 24 to 28, hold together. -/
theorem test_hyp_UpdateCommands_3 :
  ((fun (r : UpdRun) (s : State) =>
    s.inReset 0x16 = false ∧ s.upd.run = some r ∧ r.code = 0 ∧ r.op < 16 ∧ r.op ≠ 7 ∧ r.op ≠ 8) ⟨4, 0, 0, [], 3⟩ (ux hub fun u => { u with run := some ⟨4, 0, 0, [], 3⟩ })) ∧
  ((fun (r : UpdRun) (k : Nat) (d : Dir) (s : State) =>
    s.inReset 0x16 = false ∧ s.upd.run = some r ∧ r.code = 0 ∧ r.op = 7 ∧ s.dirChosen = some (k, d)) ⟨7, 0, 0, [], 3⟩ 0 ⟨7, 0, 1, 1⟩ (ux dirS fun u => { u with run := some ⟨7, 0, 0, [], 3⟩ })) ∧
  ((fun (r : UpdRun) (s : State) =>
    s.inReset 0x16 = false ∧ s.upd.run = some r ∧ r.code = 0 ∧ r.op = 8) ⟨8, 0, 0, [], 3⟩ (ux (hub.put UPD_STAT_TRIAL 1) fun u => { u with run := some ⟨8, 0, 0, [], 3⟩ })) ∧
  ((fun (r : UpdRun) (s : State) =>
    s.inReset 0x16 = false ∧ s.upd.run = some r ∧ r.code ≠ 0 ∧ r.code ≠ 0x14 ∧ r.code < 32 ∧ s.roomy) ⟨8, 9, 0, [], 3⟩ (ux hub fun u => { u with run := some ⟨8, 9, 0, [], 3⟩, trial := some 2 })) ∧
  ((fun (s : State) =>
    s.inReset 0x16 = false ∧ s.upd.run = none) hub) := by
  refine ⟨?_, ?_, ?_, ?_, ?_⟩ <;> decide +kernel

end C19

namespace C20

def pr (k ph : Nat) : State := { (((hub.put TST_PSTAT_STATE 1).put TST_PSTAT_STEP k).put TST_PCTL_STEPS (2 ^ (k - 1) ||| 32)) with tst := { hub.tst with phase := ph } }
def tx (s : State) (f : TstSt → TstSt) : State := { s with tst := f s.tst }
def rg (s : State) : State := (s.put RED_STAT_CW 0).put RED_STAT_CCW 0
def fo (k : Nat) : State := { (rg (pr k 0)).put FWD_REACH_CW 255 |>.put FWD_REACH_CCW 255 with rpe := { hub.rpe with floor := 2 } }

/-- The hypotheses of ProofRunAndScan, clause 1 to 12, hold together. -/
theorem test_hyp_ProofRunAndScan_1 :
  ((fun (_cs : List (BitVec 48 × BitVec 48)) (s : State) =>
    s.inReset 0x17 = false ∧ s.get TST_PSTAT_STATE ≠ 1) [] hub) ∧
  ((fun (_cs : List (BitVec 48 × BitVec 48)) (s : State) =>
    s.inReset 0x17 = false ∧ s.get TST_PSTAT_STATE = 1 ∧ s.get TST_PSTAT_STEP = 6 ∧
    (∀ n, n < 8 → s.on (LSV_SCI_CFG_EN n) = true → s.contactBad n = false) ∧ (∀ k, k < 5 → s.get (TST_PRES_RES k) ≠ 2)) [] (pr 6 0)) ∧
  ((fun (_cs : List (BitVec 48 × BitVec 48)) (n : Fin 8) (s : State) =>
    s.inReset 0x17 = false ∧ s.get TST_PSTAT_STATE = 1 ∧ s.get TST_PSTAT_STEP = 6 ∧ s.roomy ∧
    s.on (LSV_SCI_CFG_EN n.val) = true ∧ s.get (LSV_SCI_STAT_STATE n.val) = 4) [] 3 (((pr 6 0).put (LSV_SCI_CFG_EN 3) 1).put (LSV_SCI_STAT_STATE 3) 4)) ∧
  ((fun (_cs : List (BitVec 48 × BitVec 48)) (s : State) =>
    s.inReset 0x17 = false ∧ s.get TST_PSTAT_STATE = 1 ∧ s.get TST_PSTAT_STEP = 5 ∧ s.tst.swept = 0 ∧
    s.getBit TST_PCTL_STEPS 5 = true) [] (pr 5 0)) ∧
  ((fun (_cs : List (BitVec 48 × BitVec 48)) (s : State) =>
    s.inReset 0x17 = false ∧ s.get TST_PSTAT_STATE = 1 ∧ s.get TST_PSTAT_STEP = 5 ∧ (s.lsCh 3).sweep ≠ none ∧
    s.tst.swept = 8) [] ((tx (pr 5 0) fun x => { x with swept := 8 }).setCh 3 { hub.lsCh 3 with sweep := some (0, 0) })) ∧
  ((fun (_cs : List (BitVec 48 × BitVec 48)) (d : Fin 2) (s : State) =>
    s.inReset 0x17 = false ∧ s.get TST_PSTAT_STATE = 1 ∧ s.get TST_PSTAT_STEP = 2 + d.val ∧ s.tst.phase = 0 ∧
    s.mayForce = false ∧ s.getBit TST_PCTL_STEPS (2 + d.val) = false ∧ s.getBit TST_PCTL_STEPS 3 = false ∧
    s.getBit TST_PCTL_STEPS 4 = false ∧ s.getBit TST_PCTL_STEPS 5 = true) [] 1 (pr 3 0)) ∧
  ((fun (_cs : List (BitVec 48 × BitVec 48)) (d : Fin 2) (s : State) =>
    s.inReset 0x17 = false ∧ s.get TST_PSTAT_STATE = 1 ∧ s.get TST_PSTAT_STEP = 2 + d.val ∧ s.tst.phase = 0 ∧
    s.mayForce = true ∧ s.roomy ∧ s.inReset 0x0D = false ∧ (∀ qi, qi < 9 → s.queue d.val qi = []) ∧ s.fwd.held = [] ∧
    s.fwd.locWait = [] ∧ s.fwd.drains = [] ∧ s.occ (1 - d.val) 0 + 1 ≤ s.limit (1 - d.val) 0) [] 1 (fo 3)) ∧
  ((fun (_cs : List (BitVec 48 × BitVec 48)) (d : Fin 2) (s : State) =>
    s.inReset 0x17 = false ∧ s.get TST_PSTAT_STATE = 1 ∧ s.get TST_PSTAT_STEP = 2 + d.val ∧ s.tst.phase = 1 ∧
    s.tst.force = some d.val ∧ s.dirState d.val = 1 ∧ s.laneUp d.val = true ∧ s.on (LANE_STAT_RF_RX d.val) = false ∧
    s.blocked d.val = false ∧ Tab.get (fun _ => none) s.red.due d.val = none ∧ s.red.everUp.testBit d.val = true) [] 1 ({ (rg (pr 3 1)).put RED_STAT_CCW 1 |>.put (LANE_STAT_UP 1) 1 with tst := { (pr 3 1).tst with force := some 1 }, red := { hub.red with everUp := 3 } })) ∧
  ((fun (_cs : List (BitVec 48 × BitVec 48)) (dt : Nat) (s : State) =>
    s.inReset 0x17 = false ∧ s.get TST_PSTAT_STATE = 1 ∧ s.get TST_PSTAT_STEP = 2 ∧ s.tst.phase = 2 ∧
    s.rd64 RED_WRAP_T = s.rd64 RED_LOSS_T + dt ∧ dt ≤ 5000 ∧ s.tst.lost.testBit 1 = false ∧ s.dirState 0 = 0 ∧
    s.dirState 1 = 0 ∧ s.get TST_PCTL_STEPS = 0x22) [] 77 ((rg (pr 2 2)).wr64 RED_WRAP_T 100 |>.wr64 RED_LOSS_T 23)) ∧
  ((fun (_cs : List (BitVec 48 × BitVec 48)) (dt : Nat) (s : State) =>
    s.inReset 0x17 = false ∧ s.get TST_PSTAT_STATE = 1 ∧ s.get TST_PSTAT_STEP = 2 ∧ s.tst.phase = 2 ∧
    s.rd64 RED_WRAP_T = s.rd64 RED_LOSS_T + dt ∧ 5000 < dt ∧ dt < 65536 ∧ s.get TST_PCTL_STEPS = 0x22 ∧ s.roomy) [] 7000 ((rg (pr 2 2)).wr64 RED_WRAP_T 7100 |>.wr64 RED_LOSS_T 100)) ∧
  ((fun (_cs : List (BitVec 48 × BitVec 48)) (s : State) =>
    s.inReset 0x17 = false ∧ s.get TST_PSTAT_STATE = 1 ∧ s.get TST_PSTAT_STEP = 4 ∧ s.tst.phase = 2 ∧
    s.on RED_TWIN_STAT_ANCHOR_IN = true ∧ s.tst.yieldT ≤ s.tst.riseT ∧ s.tst.riseT - s.tst.yieldT < 65536) [] ((tx (pr 4 2) fun x => { x with yieldT := 5, riseT := 77 }).put RED_TWIN_STAT_ANCHOR_IN 1)) ∧
  ((fun (_cs : List (BitVec 48 × BitVec 48)) (s : State) =>
    s.inReset 0x17 = false ∧ s.get TST_PSTAT_STATE = 1 ∧ s.get TST_PSTAT_STEP = 4 ∧ s.tst.phase = 2 ∧
    s.on RED_TWIN_STAT_ANCHOR_IN = false ∧ s.getBit TST_PCTL_STEPS 4 = false ∧ s.getBit TST_PCTL_STEPS 5 = true ∧
    s.roomy) [] (pr 4 2)) := by
  refine ⟨?_, ?_, ?_, ?_, ?_, ?_, ?_, ?_, ?_, ?_, ?_, ?_⟩ <;> decide +kernel

/-- The hypotheses of ProofRunAndScan, clause 13 to 27, hold together. -/
theorem test_hyp_ProofRunAndScan_2 :
  ((fun (_cs : List (BitVec 48 × BitVec 48)) (s : State) =>
    s.inReset 0x17 = false ∧ s.get TST_PSTAT_STATE = 1 ∧ s.get TST_PSTAT_STEP = 4 ∧ s.tst.phase = 4 ∧
    s.get RED_TWIN_STAT_STATE = 2 ∧ s.tst.pulseT = some s.tst.holdT ∧ s.getBit TST_PCTL_STEPS 4 = false ∧
    s.getBit TST_PCTL_STEPS 5 = true) [] ((tx (pr 4 4) fun x => { x with holdT := 77, pulseT := some 77 }).put RED_TWIN_STAT_STATE 2)) ∧
  ((fun (_cs : List (BitVec 48 × BitVec 48)) (s : State) =>
    s.inReset 0x17 = false ∧ s.get TST_PSTAT_STATE = 1 ∧ s.get TST_PSTAT_STEP = 1 ∧ s.tst.lanes = 0 ∧
    s.get TST_PCTL_STEPS = 0x21) [] (pr 1 0)) ∧
  ((fun (_who : Who) (s : State) =>
    s.open_ 0x17 = true ∧ s.on MPC_MODE_FTEST = true) ⟨0, 5, 0⟩ (hub.put MPC_MODE_FTEST 1)) ∧
  ((fun (_who : Who) (s : State) =>
    s.inReset 0x17 = false ∧ s.on MPC_MODE_FTEST = false) ⟨0, 5, 0⟩ hub) ∧
  ((fun (_faulty : Bool) (s : State) =>
    s.dark = false ∧ s.tst.mbist = true ∧ s.store.wait = []) true (tx (hub.poke 64 4 77) fun x => { x with mbist := true })) ∧
  ((fun (_faulty : Bool) (s : State) =>
    s.dark = false ∧ s.tst.mbist = false) true hub) ∧
  ((fun (cell : Fin 96) (_lvl : Bool) (s : State) =>
    cell.val < 64 ∧ s.anchored cell.val = false) 7 true hub) ∧
  ((fun (cell : Fin 96) (_lvl : Bool) (s : State) =>
    cell.val < 64 ∧ s.anchored cell.val = true ∧ s.on MPC_MODE_FTEST = false) 7 true (hub.setBit ⟨RED_ANCH_A, 0, 32⟩ 7)) ∧
  ((fun (pin : Fin 64) (lvl : Bool) (s : State) =>
    Tab.get (fun _ => (false, false)) s.tst.cells pin.val = (lvl, true) ∧ s.anchored pin.val = false) 7 true (tx hub fun x => { x with cells := [(7, (true, true))] })) ∧
  ((fun (_code : BitVec 8) (s : State) =>
    s.on MPC_MODE_FTEST = true) 9 (hub.put MPC_MODE_FTEST 1)) ∧
  ((fun (_code : BitVec 8) (s : State) =>
    s.on MPC_MODE_FTEST = false) 9 hub) := by
  refine ⟨?_, ?_, ?_, ?_, ?_, ?_, ?_, ?_, ?_, ?_, ?_⟩ <;> decide +kernel

end C20

namespace C21

def lw (p st : Nat) : State := (((hub.put (LPW_P_STAT_STATE p) st).put (LPW_P_CFG_EN p) 1).put (LPW_P_CFG_SOURCE p) 1)
def prt (s : State) (p cls : Nat) (due : Bool) : State := s.setLp p ⟨cls, true, due, 5⟩

/-- The hypotheses of LinePortStates, clause 1 to 10, hold together. -/
theorem test_hyp_LinePortStates_1 :
  ((fun (p : Fin 2) (_low : Bool) (s : State) =>
    s.lpw.aon = true ∧ s.get (LPW_P_STAT_STATE p.val) = 1) 1 true (lw 1 1)) ∧
  ((fun (p : Fin 2) (_low : Bool) (s : State) =>
    s.lpw.aon = true ∧ s.get (LPW_P_STAT_STATE p.val) = 5 ∧ s.on LPW_STAT_STACKED = false ∧
    s.on (LPW_P_CFG_EN p.val) = true ∧ s.on (LPW_P_STAT_FORCED p.val) = false ∧ s.d2dLost = false ∧ s.roomy) 0 false (lw 0 5)) ∧
  ((fun (p : Fin 2) (_low : Bool) (s : State) =>
    s.lpw.aon = true ∧ s.get (LPW_P_STAT_STATE p.val) = 5 ∧ s.on LPW_STAT_STACKED = false ∧
    s.on (LPW_P_CFG_EN p.val) = true ∧ s.on (LPW_P_STAT_FORCED p.val) = false ∧ s.d2dLost = false ∧ s.roomy) 1 false ((lw 1 5).put (LPW_P_STAT_PG 1) 1)) ∧
  ((fun (cls : Fin 3) (_low : Bool) (s : State) =>
    s.lpw.aon = true ∧ cls.val ≠ 0 ∧ s.on LPW_VBUS_IN = true ∧
    (∀ p, p < 2 → s.get (LPW_P_STAT_STATE p) ≠ 1 ∧ s.get (LPW_P_STAT_STATE p) ≠ 5)) 1 false (((lw 1 6).put (LPW_P_STAT_STATE 0) 4).put LPW_VBUS_IN 1)) ∧
  ((fun (_low : Bool) (s : State) =>
    s.lpw.aon = true ∧ s.on LPW_VBUS_IN = false ∧
    (∀ p, p < 2 → s.get (LPW_P_STAT_STATE p) = 1 ∧ (s.lp p).cls = 1 ∧ s.on (LPW_P_CFG_SOURCE p) = true ∧ (s.lp p).due = true)) false (prt (prt (((lw 1 1).put (LPW_P_STAT_STATE 0) 1).put (LPW_P_CFG_SOURCE 0) 1) 0 1 true) 1 1 true)) ∧
  ((fun (p : Fin 2) (s : State) =>
    s.lpw.aon = true ∧ s.get (LPW_P_STAT_STATE p.val) = 2) 1 (lw 1 2)) ∧
  ((fun (p : Fin 2) (s : State) =>
    s.lpw.aon = true ∧ s.get (LPW_P_STAT_STATE p.val) = 1 ∧ (s.lp p.val).cls = 1 ∧ s.on LPW_VBUS_IN = true ∧
    s.on (LPW_P_CFG_SOURCE p.val) = true) 1 (prt ((lw 1 1).put LPW_VBUS_IN 1) 1 1 false)) ∧
  ((fun (p : Fin 2) (v1 v2 : BitVec 17) (bias : Bool) (s : State) =>
    s.lpw.aon = true ∧ s.get (LPW_P_STAT_STATE p.val) = 3 ∧ detResult v1.toNat v2.toNat bias = 1) 1 2000 4500 false (lw 1 3)) ∧
  ((fun (p : Fin 2) (v1 v2 : BitVec 17) (bias : Bool) (s : State) =>
    s.lpw.aon = true ∧ s.get (LPW_P_STAT_STATE p.val) = 3 ∧ detResult v1.toNat v2.toNat bias ≠ 1 ∧
    detResult v1.toNat v2.toNat bias ≠ s.get (LPW_P_STAT_DRES p.val) ∧ s.on LPW_STAT_STACKED = false ∧
    s.on (LPW_P_CFG_EN p.val) = true ∧ s.on (LPW_P_STAT_FORCED p.val) = false ∧ (s.lp p.val).cls = 1 ∧
    (s.lp p.val).due = false ∧ s.d2dLost = false ∧ s.roomy) 1 2000 3000 false (prt (lw 1 3) 1 1 false)) ∧
  ((fun (p : Fin 2) (v1 v2 : BitVec 17) (bias : Bool) (s : State) =>
    s.lpw.aon = true ∧ s.get (LPW_P_STAT_STATE p.val) = 3 ∧ detResult v1.toNat v2.toNat bias ≠ 1 ∧
    detResult v1.toNat v2.toNat bias ≠ s.get (LPW_P_STAT_DRES p.val) ∧ s.on LPW_STAT_STACKED = false ∧
    s.on (LPW_P_CFG_EN p.val) = true ∧ s.on (LPW_P_STAT_FORCED p.val) = false ∧ (s.lp p.val).cls = 1 ∧
    (s.lp p.val).due = false ∧ s.d2dLost = false ∧ s.roomy) 1 2000 4500 true (prt (lw 1 3) 1 1 false)) ∧
  ((fun (p : Fin 2) (s : State) =>
    s.lpw.aon = true ∧ s.get (LPW_P_STAT_STATE p.val) = 4) 1 (lw 1 4)) ∧
  ((fun (p : Fin 2) (s : State) =>
    s.lpw.aon = true ∧ s.get (LPW_P_STAT_STATE p.val) = 5 ∧ s.on (LPW_P_STAT_LIMIT p.val) = false) 1 (lw 1 5)) := by
  refine ⟨?_, ?_, ?_, ?_, ?_, ?_, ?_, ?_, ?_, ?_, ?_, ?_⟩ <;> decide +kernel

/-- The hypotheses of LinePortStates, clause 11 to 13, hold together. -/
theorem test_hyp_LinePortStates_2 :
  ((fun (p : Fin 2) (s : State) =>
    s.lpw.aon = true ∧ s.get (LPW_P_STAT_STATE p.val) = 5 ∧ s.on (LPW_P_STAT_LIMIT p.val) = false) 1 (((lw 1 5).put (LPW_P_STAT_PG 1) 1).put (LPW_P_STAT_PG 0) 1)) ∧
  ((fun (p : Fin 2) (s : State) =>
    s.lpw.aon = true ∧ s.on (LPW_P_STAT_PG p.val) = true) 1 ((lw 1 5).put (LPW_P_STAT_PG 1) 1)) ∧
  ((fun (p : Fin 2) (_reg : Bool) (s : State) =>
    s.lpw.aon = true ∧ s.get (LPW_P_STAT_STATE p.val) ∈ [4, 5]) 1 true (lw 1 5)) := by
  refine ⟨?_, ?_, ?_⟩ <;> decide +kernel

/-- The hypotheses of LinePortFailures, clause 1 to 7, hold together. -/
theorem test_hyp_LinePortFailures :
  ((fun (p : Fin 2) (_ta : BitVec 18) (s : State) =>
    s.lpw.aon = true ∧ s.get (LPW_P_STAT_STATE p.val) ∈ [4, 5] ∧ s.get (LPW_P_CFG_RETRY_MAX p.val) = 0 ∧
    s.d2dLost = false ∧ s.roomy) 1 50000 (lw 1 5)) ∧
  ((fun (p : Fin 2) (_ta : BitVec 18) (s : State) =>
    s.lpw.aon = true ∧ s.get (LPW_P_STAT_STATE p.val) ∈ [4, 5] ∧ s.on (LPW_P_STAT_LIMIT p.val) = true ∧
    s.get (LPW_P_CFG_RETRY_MAX p.val) = 0 ∧ s.d2dLost = false ∧ s.roomy) 1 50000 ((lw 1 5).put (LPW_P_STAT_LIMIT 1) 1)) ∧
  ((fun (p : Fin 2) (_ta : BitVec 18) (s : State) =>
    s.lpw.aon = true ∧ s.get (LPW_P_STAT_STATE p.val) ∈ [4, 5] ∧ s.on (LPW_P_STAT_LIMIT p.val) = true ∧
    s.get (LPW_P_CFG_RETRY_MAX p.val) = 0 ∧ s.d2dLost = false ∧ s.roomy) 0 50000 ((lw 0 4).put (LPW_P_STAT_LIMIT 0) 1)) ∧
  ((fun (p : Fin 2) (s : State) =>
    s.lpw.aon = true ∧ s.get (LPW_P_STAT_STATE p.val) = 4 ∧ s.d2dLost = false ∧ s.inReset 0x05 = false ∧
    s.fltQ.length < 31 ∧ s.get (LPW_P_CFG_RETRY_MAX p.val) = s.get (LPW_P_STAT_FAILS p.val) + 1) 1 (((lw 1 4).put (LPW_P_CFG_RETRY_MAX 1) 3).put (LPW_P_STAT_FAILS 1) 2)) ∧
  ((fun (p : Fin 2) (_ta : BitVec 18) (s : State) =>
    s.lpw.aon = true ∧ s.get (LPW_P_STAT_STATE p.val) = 5 ∧ s.get (LPW_P_CFG_RETRY_MAX p.val) = 0 ∧
    s.d2dLost = true ∧ s.lpw.q.length < 16) 1 60 ({ lw 1 5 with d2dLost := true })) ∧
  ((fun (p : Fin 2) (s : State) =>
    s.lpw.aon = true ∧ s.get (LPW_P_STAT_STATE p.val) = 6 ∧ s.on LPW_STAT_STACKED = false ∧
    s.on (LPW_P_CFG_EN p.val) = true ∧ s.on (LPW_P_STAT_FORCED p.val) = false ∧ (s.lp p.val).cls = 2) 1 (prt (lw 1 6) 1 2 false)) ∧
  ((fun (p : Fin 2) (s : State) =>
    s.lpw.aon = true ∧ s.get (LPW_P_STAT_STATE p.val) ∉ [4, 5, 7] ∧ s.d2dLost = false ∧ s.roomy) 1 (lw 1 6)) ∧
  ((fun (p : Fin 2) (s : State) =>
    s.lpw.aon = true ∧ s.get (LPW_P_STAT_STATE p.val) ∈ [4, 5, 7]) 1 (lw 1 4)) := by
  refine ⟨?_, ?_, ?_, ?_, ?_, ?_, ?_, ?_⟩ <;> decide +kernel

/-- The hypotheses of LinePowerCommands, clause 1 to 6, hold together. -/
theorem test_hyp_LinePowerCommands :
  ((fun (_p : Fin 2) (s : State) =>
    s.dark = false ∧ s.d2dLost = false ∧ s.inReset 0x15 = false) 1 (lw 1 4)) ∧
  ((fun (p : Fin 2) (s : State) =>
    s.dark = false ∧ s.d2dLost = false ∧ s.inReset 0x15 = false ∧ s.get (LPW_P_STAT_STATE p.val) = 0 ∧
    s.on LPW_STAT_STACKED = false ∧ s.on (LPW_P_CFG_EN p.val) = true ∧ (s.lp p.val).cls = 2) 1 (prt ((lw 1 0).put (LPW_P_STAT_FORCED 1) 1) 1 2 false)) ∧
  ((fun (p : Fin 2) (s : State) =>
    s.dark = false ∧ s.d2dLost = false ∧ s.inReset 0x15 = false ∧ s.get (LPW_P_STAT_STATE p.val) = 7 ∧
    s.on LPW_STAT_STACKED = false ∧ s.on (LPW_P_CFG_EN p.val) = true ∧ s.on (LPW_P_STAT_FORCED p.val) = false ∧
    (s.lp p.val).cls = 0) 1 (prt (lw 1 7) 1 0 false)) ∧
  ((fun (p : Fin 2) (s : State) =>
    s.dark = false ∧ s.d2dLost = false ∧ s.inReset 0x15 = false ∧ s.get (LPW_P_STAT_STATE p.val) ≠ 1) 1 (lw 1 5)) ∧
  ((fun (p : Fin 2) (c : Instr) (s : State) =>
    c ∈ [Instr.lpwOff p, .lpwOn p, .lpwClear p, .lpwDetect p] ∧ s.d2dLost = true) 1 (.lpwOn 1) ({ lw 1 5 with d2dLost := true })) ∧
  ((fun (b q c0 w0 l0 t0 c1 w1 l1 t1 : Word) (_e _w : Fin 3) (_lowE _lowW : Bool) (s : State) =>
    s.lpw.aon = true ∧ s.lpw.take = true ∧ s.d2dLost = false ∧ s.lpw.sent = [b, q, c0, w0, l0, t0, c1, w1, l1, t1] ∧
    winBad b = true ∧ winBad w0 = false ∧ winBad w1 = false ∧ s.get (LPW_P_STAT_STATE 0) = 0 ∧
    s.get (LPW_P_STAT_STATE 1) = 0 ∧ c0.getLsbD 0 = false ∧ c1.getLsbD 0 = false) 0x00100100 5 0 0x03000000 7 8 0 0x03000000 10 11 1 2 true false ({ (hub.put (LPW_P_STAT_STATE 0) 0).put (LPW_P_STAT_STATE 1) 0 with lpw := { hub.lpw with take := true, sent := [0x00100100, 5, 0, 0x03000000, 7, 8, 0, 0x03000000, 10, 11] } })) := by
  refine ⟨?_, ?_, ?_, ?_, ?_, ?_⟩ <;> decide +kernel

/-- The hypotheses of LineMeasureAndRails, clause 1 to 12, hold together. -/
theorem test_hyp_LineMeasureAndRails :
  ((fun (_vE _vW _vBus : BitVec 17) (_iE _iW : BitVec 16) (_pE _pW _inE _outE _inW _outW : Word) (s : State) =>
    s.lpw.aon = true ∧ s.get (LPW_P_STAT_STATE 0) ≠ 6 ∧ s.get (LPW_P_STAT_STATE 1) = 6) 1 2 3 4 5 6 7 8 1900 10 11111 (prt (lw 1 6) 1 2 false)) ∧
  ((fun (s : State) =>
    s.lpw.aon = true ∧ s.get LPW_SEQ_STAT_STATE = 0 ∧ s.on LPW_VBUS_IN = true) (hub.put LPW_VBUS_IN 1)) ∧
  ((fun (inwin : BitVec 4) (n : Nat) (s : State) =>
    s.lpw.aon = true ∧ n < 4 ∧ 0 < n ∧ s.get LPW_SEQ_STAT_STATE = 1 ∧ s.getBit LPW_SEQ_STAT_PEN n = false ∧
    (∀ k, k < n → s.getBit LPW_SEQ_STAT_PEN k = true) ∧
    (s.getBit LPW_SEQ_MON (n - 1) = false ∨ inwin.toNat.testBit (n - 1) = true)) 2 2 ((hub.put LPW_SEQ_STAT_STATE 1).put LPW_SEQ_STAT_PEN 3)) ∧
  ((fun (inwin : BitVec 4) (n : Nat) (s : State) =>
    s.lpw.aon = true ∧ n < 4 ∧ 0 < n ∧ s.get LPW_SEQ_STAT_STATE = 1 ∧ s.getBit LPW_SEQ_STAT_PEN n = false ∧
    (∀ k, k < n → s.getBit LPW_SEQ_STAT_PEN k = true) ∧ s.getBit LPW_SEQ_MON (n - 1) = true ∧
    inwin.toNat.testBit (n - 1) = false) 1 2 (((hub.put LPW_SEQ_STAT_STATE 1).put LPW_SEQ_STAT_PEN 3).put LPW_SEQ_MON 15)) ∧
  ((fun (n : Fin 4) (s : State) =>
    s.lpw.aon = true ∧ s.get LPW_SEQ_STAT_STATE = 1 ∧ s.getBit LPW_SEQ_STAT_PEN n.val = true ∧
    s.getBit LPW_SEQ_MON n.val = true ∧ s.getBit LPW_SEQ_STAT_INWIN n.val = false ∧ s.d2dLost = false ∧ s.roomy) 1 (((hub.put LPW_SEQ_STAT_STATE 1).put LPW_SEQ_STAT_PEN 3).put LPW_SEQ_MON 15)) ∧
  ((fun (s : State) =>
    s.lpw.aon = true ∧ s.get LPW_SEQ_STAT_STATE = 4) (hub.put LPW_SEQ_STAT_STATE 4)) ∧
  ((fun (n : Fin 4) (s : State) =>
    s.lpw.aon = true ∧ s.on LPW_STAT_RAILS_OK = true ∧ s.getBit LPW_SEQ_MON n.val = true ∧ s.d2dLost = false ∧ s.roomy) 2 ((hub.put LPW_STAT_RAILS_OK 1).put LPW_SEQ_MON 15)) ∧
  ((fun (s : State) =>
    s.lpw.aon = true ∧ s.d2dLost = false ∧ s.inReset 0x12 = false ∧ s.roomy) hub) ∧
  ((fun (s : State) =>
    s.lpw.aon = true ∧ s.d2dLost = true ∧ s.inReset 0x05 = false ∧ s.fltQ.length + s.lpw.q.length ≤ 32) ({ hub with d2dLost := true, lpw := { hub.lpw with q := [⟨0x15, 0x60, 2, 1, false, 3⟩], sent := [5] } })) ∧
  ((fun (s : State) =>
    s.lpw.aon = true ∧ s.d2dLost = false ∧ s.dark = false ∧ s.inReset 0x12 = false) hub) := by
  refine ⟨?_, ?_, ?_, ?_, ?_, ?_, ?_, ?_, ?_, ?_⟩ <;> decide +kernel

end C21

namespace C22

def rq (op size off : Nat) (data : List DWord) : Frame :=
  (FrameSpec.plain 5 0 1 5 0 0x77 (BitVec.ofNat 64 (op + size * 2 ^ 16) :: BitVec.ofNat 64 (5 * 2 ^ 40 + off) :: data)).build 5 1 9 100
def far (op size off : Nat) (data : List DWord) : Frame :=
  (FrameSpec.plain 5 0 1 5 0 0x77 (BitVec.ofNat 64 (op + size * 2 ^ 16) :: BitVec.ofNat 64 (5 * 2 ^ 40 + off) :: data)).build 9 0 9 100
def wide : State := (List.range 9).foldl (fun s r => s.put (MSA_WPROT_WR r) 0xFFFF) hub
def hst : State := ((wide.put (LANE_STAT_UP 2) 1).put (FWD_LIM_3_C5RSP 2) 8).put (FWD_LIM_2_C5REQ 2) 8
def ost (tag req : Nat) : Outst := ⟨tag, ⟨.direct, req, 1, 3, 1, 5, []⟩, 7⟩
def mine (op size node chip off : Nat) (data : List DWord) : Frame :=
  (FrameSpec.plain 5 0 1 5 0 0x77 (BitVec.ofNat 64 (op + size * 2 ^ 16) :: BitVec.ofNat 64 (fabAddr node chip off) :: data)).build 5 0 9 100
def rsp (op st tag : Nat) (data : List DWord) : Frame :=
  (FrameSpec.plain 5 1 1 5 0 tag (BitVec.ofNat 64 (op + st * 256 + 3 * 2 ^ 16) :: BitVec.ofNat 64 (5 * 2 ^ 40) :: data)).build 9 0 9 100
def fwn (s : State) (c node chip hi : Nat) : State := ((s.put (MSA_FWIN_NODE c) node).put (MSA_FWIN_CHIP c) chip).put (MSA_FWIN_OFFS_HI c) hi
def dm (src dst len : Nat) : State := (((((wide.wr (MSA_DMA_SRC_LO 1) (BitVec.ofNat 32 src)).put (MSA_DMA_SRC_HI_ADDR 1) (src / 2 ^ 32)).wr (MSA_DMA_DST_LO 1) (BitVec.ofNat 32 dst)).put (MSA_DMA_DST_HI_ADDR 1) (dst / 2 ^ 32)).put (MSA_DMA_LEN_BYTES 1) len).put (MSA_DMA_STAT_BUSY 1) 1

/-- The hypotheses of FabricTargets, clause 1 to 11, hold together. -/
theorem test_hyp_FabricTargets :
  ((fun (f : Frame) (o : Nat) (s : State) =>
    s.answerable f 1 ∧ reqOp f = 1 ∧ reqSize f = 3 ∧ inStore (fabOff (reqAddr f)) = true ∧
    fabOff (reqAddr f) = storeBase + o ∧ o % 8 = 0 ∧ s.mark (o / 8) = none ∧ s.accWaits 0 o = false ∧
    s.lockedOut (bankOf o) 0 = false) (rq 1 3 0x10000048 []) 0x48 (hst.poke 0x48 8 0x1122334455667788)) ∧
  ((fun (f : Frame) (o : Nat) (s : State) =>
    s.answerable f 0 ∧ reqOp f = 1 ∧ o < 0x188000 ∧ fabOff (reqAddr f) = o ∧ blkOf o ∈ [0x01, 0x07, 0x12] ∧
    s.inReset (blkOf o) = false ∧ regFind o = none ∧ s.roomy) (rq 1 3 0x0007FF00 []) 0x7FF00 hst) ∧
  ((fun (f : Frame) (o : Nat) (w0 a d : DWord) (s : State) =>
    isFabReq f = true ∧ s.forLoc f = true ∧ s.canServe f = true ∧ frSrc f ≠ s.node ∧ s.dark = false ∧ reqOp f = 2 ∧
    reqSize f = 3 ∧ inStore (fabOff (reqAddr f)) = true ∧ fabOff (reqAddr f) = storeBase + o ∧ o % 8 = 0 ∧
    f.payload = [w0, a, d] ∧ s.accWaits 0 o = false ∧ s.lockedOut (bankOf o) 0 = false ∧
    s.mayWrite 0 (bankOf o) = true) (far 2 3 0x10000048 [9]) 0x48 (BitVec.ofNat 64 (2 + 3 * 2 ^ 16)) (BitVec.ofNat 64 (5 * 2 ^ 40 + 0x10000048)) 9 hst) ∧
  ((fun (f : Frame) (o : Nat) (w0 a d : DWord) (s : State) =>
    s.answerable f 0 ∧ reqOp f = 2 ∧ reqSize f = 3 ∧ inStore (fabOff (reqAddr f)) = true ∧
    fabOff (reqAddr f) = storeBase + o ∧ o % 8 = 0 ∧ f.payload = [w0, a, d] ∧ s.accWaits 0 o = false ∧
    s.lockedOut (bankOf o) 0 = false ∧ s.mayWrite 0 (bankOf o) = false ∧ s.roomy) (rq 2 3 0x10000048 [9]) 0x48 (BitVec.ofNat 64 (2 + 3 * 2 ^ 16)) (BitVec.ofNat 64 (5 * 2 ^ 40 + 0x10000048)) 9 (hst.put (MSA_WPROT_WR 0) 0)) ∧
  ((fun (f : Frame) (o : Nat) (w0 a d : DWord) (s : State) =>
    s.answerable f 1 ∧ reqOp f = 3 ∧ reqSize f = 3 ∧ inStore (fabOff (reqAddr f)) = true ∧
    fabOff (reqAddr f) = storeBase + o ∧ o % 8 = 0 ∧ f.payload = [w0, a, d] ∧ s.accWaits 0 o = false ∧
    s.lockedOut (bankOf o) 0 = false ∧ s.mayWrite 0 (bankOf o) = true ∧ s.mark (o / 8) = none) (rq 3 3 0x10000048 [9]) 0x48 (BitVec.ofNat 64 (3 + 3 * 2 ^ 16)) (BitVec.ofNat 64 (5 * 2 ^ 40 + 0x10000048)) 9 (hst.poke 0x48 8 0x1122334455667788)) ∧
  ((fun (f : Frame) (o : Nat) (w0 a d : DWord) (s : State) =>
    s.answerable f 1 ∧ reqOp f = 4 ∧ reqSize f = 2 ∧ inStore (fabOff (reqAddr f)) = true ∧
    fabOff (reqAddr f) = storeBase + o ∧ o % 4 = 0 ∧ f.payload = [w0, a, d] ∧ s.accWaits 0 o = false ∧
    s.lockedOut (bankOf o) 0 = false ∧ s.mayWrite 0 (bankOf o) = true ∧ s.mark (o / 8) = none) (rq 4 2 0x1000004C [0xFFFFFFFF]) 0x4C (BitVec.ofNat 64 (4 + 2 * 2 ^ 16)) (BitVec.ofNat 64 (5 * 2 ^ 40 + 0x1000004C)) 0xFFFFFFFF (hst.poke 0x48 8 0x1122334455667788)) ∧
  ((fun (f : Frame) (o : Nat) (w0 a c d : DWord) (s : State) =>
    s.answerable f 1 ∧ reqOp f = 5 ∧ reqSize f = 3 ∧ inStore (fabOff (reqAddr f)) = true ∧
    fabOff (reqAddr f) = storeBase + o ∧ o % 8 = 0 ∧ f.payload = [w0, a, c, d] ∧ s.accWaits 0 o = false ∧
    s.lockedOut (bankOf o) 0 = false ∧ s.mayWrite 0 (bankOf o) = true ∧ s.mark (o / 8) = none) (rq 5 3 0x10000048 [0x1122334455667788, 8]) 0x48 (BitVec.ofNat 64 (5 + 3 * 2 ^ 16)) (BitVec.ofNat 64 (5 * 2 ^ 40 + 0x10000048)) 0x1122334455667788 8 (hst.poke 0x48 8 0x1122334455667788)) ∧
  ((fun (f : Frame) (o : Nat) (w0 a c d : DWord) (s : State) =>
    s.answerable f 1 ∧ reqOp f = 5 ∧ reqSize f = 3 ∧ inStore (fabOff (reqAddr f)) = true ∧
    fabOff (reqAddr f) = storeBase + o ∧ o % 8 = 0 ∧ f.payload = [w0, a, c, d] ∧ s.accWaits 0 o = false ∧
    s.lockedOut (bankOf o) 0 = false ∧ s.mayWrite 0 (bankOf o) = true ∧ s.mark (o / 8) = none) (rq 5 3 0x10000048 [0x112233445566778, 8]) 0x48 (BitVec.ofNat 64 (5 + 3 * 2 ^ 16)) (BitVec.ofNat 64 (5 * 2 ^ 40 + 0x10000048)) 0x112233445566778 8 (hst.poke 0x48 8 0x1122334455667788)) ∧
  ((fun (f : Frame) (op : Nat) (c : Instr) (s : State) =>
    s.answerable f 0 ∧ (op = 3 ∧ c = .fabSwap f ∨ op = 4 ∧ c = .fabAdd f ∨ op = 5 ∧ c = .fabCas f) ∧ reqOp f = op ∧
    fabOff (reqAddr f) < 0x190000) (rq 4 2 0x70000 [3]) 4 (.fabAdd (rq 4 2 0x70000 [3])) hst) ∧
  ((fun (f : Frame) (s : State) =>
    s.answerable f 0 ∧ reqOp f = 6) (rq 6 0 0 []) hst) ∧
  ((fun (f : Frame) (c : Instr) (s : State) =>
    c ∈ [Instr.fabRead f, .fabWrite f, .fabSwap f, .fabAdd f, .fabCas f] ∧ s.canServe f = false) (rq 1 3 0x188000 []) (.fabRead (rq 1 3 0x188000 [])) (hst.put BIV_STAT_INIT_DONE 0)) ∧
  ((fun (f : Frame) (o : Nat) (s : State) =>
    isFabReq f = true ∧ s.forLoc f = true ∧ s.dark = false ∧ frSrc f ≠ s.node ∧ reqOp f = 1 ∧ reqSize f = 3 ∧
    inStore (fabOff (reqAddr f)) = true ∧ fabOff (reqAddr f) = storeBase + o ∧ o % 8 = 0 ∧ s.accWaits 0 o = true) (far 1 3 0x10000048 []) 0x48 (hst.setBank 0 { hst.bank 0 with burst := some ⟨1, 0, 0, 3⟩ })) := by
  refine ⟨?_, ?_, ?_, ?_, ?_, ?_, ?_, ?_, ?_, ?_, ?_, ?_⟩ <;> decide +kernel

/-- The hypotheses of FabricRequesters, clause 1 to 11, hold together. -/
theorem test_hyp_FabricRequesters :
  ((fun (f : Frame) (prod : BitVec 8) (o : Nat) (w0 a d : DWord) (s : State) =>
    isFabReq f = true ∧ s.dark = false ∧ prod.toNat ∈ [0, 1, 4] ∧ reqOp f = 2 ∧ reqSize f = 3 ∧
    f.payload = [w0, a, d] ∧ fabNode (reqAddr f) = 0xFE ∧ fabChip (reqAddr f) = s.chip ∧
    inStore (fabOff (reqAddr f)) = true ∧ fabOff (reqAddr f) = storeBase + o ∧ o % 8 = 0 ∧ s.fab.here = [] ∧
    (∀ r, r < 8 → s.accWaits r o = false ∧ s.lockedOut (bankOf o) r = false ∧ s.mayWrite r (bankOf o) = true)) (mine 2 3 0xFE 0 0x10000048 [9]) 1 0x48 (BitVec.ofNat 64 (2 + 3 * 2 ^ 16)) (BitVec.ofNat 64 (0xFE * 2 ^ 40 + 0x10000048)) 9 hst) ∧
  ((fun (f : Frame) (prod : BitVec 8) (s : State) =>
    isFabReq f = true ∧ s.dark = false ∧ prod.toNat ≤ 4 ∧ reqOp f = 1 ∧ reqSize f = 3 ∧ f.payload.length = 2 ∧
    fabNode (reqAddr f) = s.node ∧ s.node < 0xFE ∧ s.chip < fabChip (reqAddr f) ∧ s.open_ 0x0D = true ∧
    s.fab.wait = [] ∧ s.hasCredit prod.toNat = true ∧
    (s.fwd.locWait.any fun w => w.spec.cls == 5 && w.spec.vc == 0) = false ∧ s.laneUp 2 = true ∧
    s.occ 2 3 + 1 ≤ s.limit 2 3) (mine 1 3 5 1 0x10000048 []) 1 (hst.put RPE_CTL_CRED 4)) ∧
  ((fun (f : Frame) (prod : BitVec 8) (s : State) =>
    isFabReq f = true ∧ s.dark = false ∧ prod.toNat ≤ 5 ∧ reqOp f ≠ 2 ∧ f.payload.length ≤ 256 ∧
    fabNode (reqAddr f) = 0xFF ∧ s.roomy) (mine 1 3 255 1 0x10000048 []) 1 hst) ∧
  ((fun (f : Frame) (prod : BitVec 8) (s : State) =>
    f.payload.length ≤ 12 ∧ s.dark = false ∧ isFabReq f = false ∧ prod.toNat < 16 ∧ frClass f ≤ 4 ∧ frVc f = 0 ∧
    frDst f = s.node ∧ s.node ≠ 0xFF ∧ frDstChip f = s.chip ∧ s.open_ 0x0D = true ∧
    (s.fwd.locWait.any fun w => w.spec.cls == frClass f && w.spec.vc == frVc f) = false ∧
    s.occ 4 (8 - frClass f) + 1 ≤ s.limit 4 (8 - frClass f)) ((FrameSpec.plain 3 0 2 5 0 7 [5]).build 5 0 9 100) 7 (hst.put (FWD_LIM_1_C3 4) 8)) ∧
  ((fun (f : Frame) (o : Outst) (r : List Outst) (s : State) =>
    isFabRsp f = true ∧ s.dark = false ∧ s.forLoc f = true ∧ reqOp f ≠ 2 ∧ s.fab.out = o :: r ∧ o.tag = frTag f ∧
    (r.any fun x => x.tag == frTag f) = false ∧ o.q.use = .direct ∧ s.fab.wait = [] ∧
    s.on (MSA_DMA_STAT_BUSY 0) = false ∧ s.on (MSA_DMA_STAT_BUSY 1) = false) (rsp 1 0 0x77 [5]) (ost 0x77 1) [ost 0x78 1] ({ hst with fab := { hst.fab with out := [ost 0x77 1, ost 0x78 1] } })) ∧
  ((fun (f : Frame) (s : State) =>
    isFabRsp f = true ∧ s.dark = false ∧ s.forLoc f = true ∧ reqOp f ≠ 2 ∧
    (s.fab.out.any fun x => x.tag == frTag f) = false) (rsp 1 0 0x79 [5]) ({ hst with fab := { hst.fab with out := [ost 0x77 1, ost 0x78 1] } })) ∧
  ((fun (tag : BitVec 16) (o : Outst) (r : List Outst) (s : State) =>
    s.fab.out = o :: r ∧ s.dark = false ∧ o.tag = tag.toNat ∧ (r.any fun x => x.tag == tag.toNat) = false ∧
    o.q.use = .direct ∧ s.fab.wait = [] ∧ s.on (MSA_DMA_STAT_BUSY 0) = false ∧ s.on (MSA_DMA_STAT_BUSY 1) = false ∧
    s.roomy) 0x77 (ost 0x77 1) [ost 0x78 1] ({ hst with fab := { hst.fab with out := [ost 0x77 1, ost 0x78 1] } })) ∧
  ((fun (tag : BitVec 16) (_status : BitVec 8) (_addr : BitVec 48) (s : State) =>
    s.inReset 0x14 = false ∧ s.roomy ∧ tag.toNat / 2 ^ 13 ≤ 4 ∧
    s.on (HBR_FENCE_STAT_BUSY (tag.toNat / 2 ^ 13)) = false) 0x8123 6 0x123456789ABC hst) ∧
  ((fun (core : Fin 2) (off o : Nat) (_d : DWord) (s : State) =>
    s.dark = false ∧ off < 2 ^ 31 ∧ s.get (MSA_FWIN_OFFS_HI core.val) * 2 ^ 31 + off = storeBase + o ∧ o % 8 = 0 ∧
    inStore (storeBase + o) = true ∧ s.get (MSA_FWIN_NODE core.val) = 0xFE ∧
    s.get (MSA_FWIN_CHIP core.val) = s.chip ∧ s.fab.here = [] ∧ s.accWaits (core.val + 1) o = false ∧
    s.lockedOut (bankOf o) (core.val + 1) = false ∧ s.mayWrite (core.val + 1) (bankOf o) = true) 1 0x10000048 0x48 77 (fwn hst 1 0xFE 0 0)) ∧
  ((fun (core : Fin 2) (off : Nat) (_z : Fin 4) (s : State) =>
    s.dark = false ∧ off < 2 ^ 31 ∧ s.get (MSA_FWIN_NODE core.val) = 0xFF ∧ s.roomy) 1 0x10000048 2 (fwn hst 1 0xFF 2 9)) ∧
  ((fun (core : Fin 2) (off : Nat) (_z : Fin 4) (s : State) =>
    s.dark = false ∧ off < 2 ^ 31 ∧ s.get (MSA_FWIN_NODE core.val) ≠ 0xFF ∧ s.get (MSA_FWIN_NODE core.val) ≠ 0xFE ∧
    s.get (MSA_FWIN_NODE core.val) ≠ s.node ∧ s.listed = true ∧ s.hasCredit core.val = false ∧ s.fab.wait = []) 1 0x10000048 2 ({ (fwn hst 1 7 2 9).put RPE_CTL_CRED 1 with fab := { hst.fab with out := [ost 0x2077 1] } })) := by
  refine ⟨?_, ?_, ?_, ?_, ?_, ?_, ?_, ?_, ?_, ?_, ?_⟩ <;> decide +kernel

/-- The hypotheses of FencesAndSemaphores, clause 1 to 9, hold together. -/
theorem test_hyp_FencesAndSemaphores :
  ((fun (r : Fin 5) (s : State) =>
    s.open_ 0x14 = true ∧ r.val ≠ 2 ∧ r.val ≠ 3 ∧ s.on (HBR_FENCE_STAT_BUSY r.val) = false ∧
    (∀ b, b ∈ s.destSet r.val → b / 4 = s.node ∧ b % 4 = s.chip)) 4 (hub.setDest 4 [20])) ∧
  ((fun (r : Fin 5) (s : State) =>
    s.open_ 0x14 = true ∧ (r.val = 2 ∨ r.val = 3 ∨ s.on (HBR_FENCE_STAT_BUSY r.val) = true)) 2 (hub.setDest 4 [20])) ∧
  ((fun (r : Fin 5) (s : State) =>
    s.inReset 0x14 = false ∧ s.fenceReady r.val = true ∧ r.val ≠ 4) 1 ((hub.put (HBR_FENCE_STAT_BUSY 1) 1).put (HBR_FENCE_STAT_NFAIL 1) 3)) ∧
  ((fun (s : State) =>
    s.inReset 0x14 = false ∧ s.fenceReady 4 = true) (({ hub with hbr := { hub.hbr with fences := [5, 6] } } : State).put (HBR_FENCE_STAT_BUSY 4) 1)) ∧
  ((fun (k : Fin 32) (_who : Who) (s : State) =>
    s.inReset 0x14 = false ∧ s.on (HBR_SEM_HELD k.val) = false) 7 ⟨1, 5, 0⟩ hub) ∧
  ((fun (k : Fin 32) (_who : Who) (s : State) =>
    s.inReset 0x14 = false ∧ s.on (HBR_SEM_HELD k.val) = true) 7 ⟨1, 5, 0⟩ (hub.put (HBR_SEM_HELD 7) 1)) ∧
  ((fun (k : Fin 32) (who : Who) (s : State) =>
    s.inReset 0x14 = false ∧ s.on (HBR_SEM_HELD k.val) = true ∧ s.get (HBR_SEM_OWNER k.val) = whoId who) 7 ⟨1, 5, 0⟩ ((hub.put (HBR_SEM_HELD 7) 1).put (HBR_SEM_OWNER 7) 0x405)) ∧
  ((fun (k : Fin 32) (who : Who) (s : State) =>
    s.inReset 0x14 = false ∧ (s.on (HBR_SEM_HELD k.val) = false ∨ s.get (HBR_SEM_OWNER k.val) ≠ whoId who)) 7 ⟨2, 5, 0⟩ ((hub.put (HBR_SEM_HELD 7) 1).put (HBR_SEM_OWNER 7) 0x405)) ∧
  ((fun (k : Fin 32) (s : State) =>
    s.inReset 0x14 = false ∧ s.on (HBR_SEM_HELD k.val) = true ∧ s.on HBR_SEM_CTL_HOLD_MS = true ∧ s.roomy) 7 (((hub.put (HBR_SEM_HELD 7) 1).put (HBR_SEM_OWNER 7) 0x405).put HBR_SEM_CTL_HOLD_MS 5)) := by
  refine ⟨?_, ?_, ?_, ?_, ?_, ?_, ?_, ?_, ?_⟩ <;> decide +kernel

/-- The hypotheses of DmaCopies, clause 1 to 5, hold together. -/
theorem test_hyp_DmaCopies :
  ((fun (ch : Fin 2) (s : State) =>
    s.open_ 0x07 = true ∧ s.on (MSA_DMA_STAT_BUSY ch.val) = false) 1 hub) ∧
  ((fun (ch : Fin 2) (s : State) =>
    s.open_ 0x07 = true ∧ s.on (MSA_DMA_STAT_BUSY ch.val) = true) 1 (hub.put (MSA_DMA_STAT_BUSY 1) 1)) ∧
  ((fun (ch : Fin 2) (s : State) =>
    s.inReset 0x07 = false ∧ s.on (MSA_DMA_STAT_BUSY ch.val) = true) 1 (hub.put (MSA_DMA_STAT_BUSY 1) 1)) ∧
  ((fun (ch : Fin 2) (a b : Nat) (s : State) =>
    s.dark = false ∧ s.on (MSA_DMA_STAT_BUSY ch.val) = true ∧ (s.dmaCh ch.val).fence = false ∧
    (s.dmaCh ch.val).abort = false ∧ (s.dmaCh ch.val).err = 0 ∧
    s.dmaSrc ch.val + (s.dmaCh ch.val).pos = fabAddr 0xFE s.chip (storeBase + a) ∧
    s.dmaDst ch.val + (s.dmaCh ch.val).pos = fabAddr 0xFE s.chip (storeBase + b) ∧
    (s.dmaCh ch.val).pos + 8 < s.dmaLen ch.val ∧ a % 256 = 248 ∧ b % 8 = 0 ∧ a + 8 ≤ storeSize ∧ b + 8 ≤ storeSize ∧
    s.hereAll = [] ∧ s.accWaits 3 a = false ∧ s.accWaits 3 b = false ∧ s.mark (a / 8) = none ∧
    s.lockedOut (bankOf a) 3 = false ∧ s.lockedOut (bankOf b) 3 = false ∧ s.mayWrite 3 (bankOf b) = true) 1 0xF8 0x1010 ((dm (fabAddr 0xFE 0 0x100000F8) (fabAddr 0xFE 0 0x10001010) 64).poke 0xF8 8 0x1122334455667788)) ∧
  ((fun (ch : Fin 2) (s : State) =>
    s.dark = false ∧ s.on (MSA_DMA_STAT_BUSY ch.val) = true ∧ (s.dmaCh ch.val).fence = true ∧
    s.on (HBR_FENCE_STAT_BUSY (2 + ch.val)) = false) 1 ((hub.put (MSA_DMA_STAT_BUSY 1) 1).modDma 1 fun d => { d with fence := true })) ∧
  ((fun (ch : Fin 2) (s : State) =>
    s.dark = false ∧ s.on (MSA_DMA_STAT_BUSY ch.val) = true ∧ (s.dmaCh ch.val).fence = true ∧
    s.on (HBR_FENCE_STAT_BUSY (2 + ch.val)) = false) 1 ((hub.put (MSA_DMA_STAT_BUSY 1) 1).modDma 1 fun d => { d with fence := true, abort := true })) := by
  refine ⟨?_, ?_, ?_, ?_, ?_, ?_⟩ <;> decide +kernel

end C22

namespace C24

def w5 : Who := ⟨1, 5, 0⟩
def bv (s : State) : State := s.put BIV_STAT_INIT_DONE 1

/-- The hypotheses of RegisterWrites, clause 1 to 6, hold together. -/
theorem test_hyp_RegisterWrites_1 :
  ((fun (_who : Who) (_bcast : Bool) (_size : Fin 4) (off : BitVec 38) (_data : DWord) (s : State) =>
    inStore off.toNat = false ∧ s.dark = false ∧ s.leadsTo off.toNat = none ∧ s.roomy) w5 false 2 0x200000 7 hub) ∧
  ((fun (_who : Who) (_bcast : Bool) (_size : Fin 4) (off : BitVec 38) (_data : DWord) (s : State) =>
    inStore off.toNat = false ∧ s.dark = false ∧ s.leadsTo off.toNat = none ∧ s.roomy) w5 false 2 0xF00008 7 hub) ∧
  ((fun (_who : Who) (_bcast : Bool) (_size : Fin 4) (off : BitVec 38) (_data : DWord) (s : State) =>
    off.toNat < 0x190000 ∧ s.dark = false ∧ ¬ (blkOf off.toNat = 0x15 ∧ s.d2dLost = true) ∧
    s.inReset (blkOf off.toNat) = true ∧ s.roomy) w5 false 2 0x60000 7 (hub.setInrst 6 true)) ∧
  ((fun (_who : Who) (_bcast : Bool) (size : Fin 4) (off : BitVec 38) (_data : DWord) (s : State) =>
    off.toNat < 0x188000 ∧ s.dark = false ∧ ¬ (blkOf off.toNat = 0x15 ∧ s.d2dLost = true) ∧
    s.inReset (blkOf off.toNat) = false ∧ s.roomy ∧ (regFind off.toNat = none ∨ size.val < 2 ∨ off.toNat % 4 ≠ 0)) w5 false 2 0x6FF00 7 hub) ∧
  ((fun (_who : Who) (_bcast : Bool) (size : Fin 4) (off : BitVec 38) (_data : DWord) (s : State) =>
    off.toNat < 0x188000 ∧ s.dark = false ∧ ¬ (blkOf off.toNat = 0x15 ∧ s.d2dLost = true) ∧
    s.inReset (blkOf off.toNat) = false ∧ s.roomy ∧ (regFind off.toNat = none ∨ size.val < 2 ∨ off.toNat % 4 ≠ 0)) w5 false 1 0x10000 7 hub) ∧
  ((fun (_who : Who) (_bcast : Bool) (off : BitVec 38) (_data : DWord) (s : State) =>
    off.toNat ∈ [MPC_WAKE_EN, RSTC_IDLE_TO, CFG_ARM_TO, INTC_EN 1 0, MSA_ECC_STAT, MSA_ARBCTL, LANE_EVT 1, RED_EVT, FWD_EVT_EN,
      SQ_LVLPEND_LO, LSV_EVT, MB_EVT 3, HBR_EVT_EN, TST_EVT] ∧
    s.dark = false ∧ s.inReset (blkOf off.toNat) = false) w5 false (BitVec.ofNat 38 MPC_WAKE_EN) 0x7FFFF hub) ∧
  ((fun (_who : Who) (_bcast : Bool) (off : BitVec 38) (_data : DWord) (s : State) =>
    off.toNat ∈ [MPC_WAKE_EN, RSTC_IDLE_TO, CFG_ARM_TO, INTC_EN 1 0, MSA_ECC_STAT, MSA_ARBCTL, LANE_EVT 1, RED_EVT, FWD_EVT_EN,
      SQ_LVLPEND_LO, LSV_EVT, MB_EVT 3, HBR_EVT_EN, TST_EVT] ∧
    s.dark = false ∧ s.inReset (blkOf off.toNat) = false) w5 false (BitVec.ofNat 38 RED_EVT) 0x5 ((hub.wr RED_EVT 0xFF))) ∧
  ((fun (_who : Who) (_bcast : Bool) (off : BitVec 38) (_data : DWord) (s : State) =>
    off.toNat ∈ [MPC_WAKE_EN, RSTC_IDLE_TO, CFG_ARM_TO, INTC_EN 1 0, MSA_ECC_STAT, MSA_ARBCTL, LANE_EVT 1, RED_EVT, FWD_EVT_EN,
      SQ_LVLPEND_LO, LSV_EVT, MB_EVT 3, HBR_EVT_EN, TST_EVT] ∧
    s.dark = false ∧ s.inReset (blkOf off.toNat) = false) w5 false (BitVec.ofNat 38 TST_EVT) 0x5 ((hub.wr TST_EVT 0xFF))) ∧
  ((fun (_who : Who) (_bcast : Bool) (off : BitVec 38) (_data : DWord) (s : State) =>
    off.toNat ∈ [LPW_BUS_SH, MPC_REQ_SH, FWD_PIN_CTL_SH] ∧ s.dark = false ∧ s.d2dLost = false ∧
    s.inReset (blkOf off.toNat) = false ∧ s.cfgState ≠ 1 ∧ s.roomy) w5 false (BitVec.ofNat 38 LPW_BUS_SH) 0x5 hub) ∧
  ((fun (_who : Who) (_bcast : Bool) (off : BitVec 38) (_data : DWord) (s : State) =>
    off.toNat ∈ [LPW_BUS_SH, MPC_REQ_SH, FWD_PIN_CTL_SH] ∧ s.dark = false ∧ s.d2dLost = false ∧
    s.inReset (blkOf off.toNat) = false ∧ s.cfgState ≠ 1 ∧ s.roomy) w5 false (BitVec.ofNat 38 MPC_REQ_SH) 0x5 hub) ∧
  ((fun (_who : Who) (_bcast : Bool) (off : BitVec 38) (_data : DWord) (s : State) =>
    off.toNat ∈ [LPW_BUS_SH, MPC_REQ_SH, FWD_PIN_CTL_SH] ∧ s.dark = false ∧ s.d2dLost = false ∧
    s.inReset (blkOf off.toNat) = false ∧ s.cfgState ≠ 1 ∧ s.roomy) w5 false (BitVec.ofNat 38 FWD_PIN_CTL_SH) 0x5 hub) ∧
  ((fun (_who : Who) (_bcast : Bool) (off : BitVec 38) (_data : DWord) (s : State) =>
    off.toNat ∈ [LPW_BUS_SH, FWD_PIN_CTL_SH] ∧ s.dark = false ∧ s.d2dLost = false ∧
    s.inReset (blkOf off.toNat) = false ∧ s.cfgState = 1) w5 false (BitVec.ofNat 38 LPW_BUS_SH) 0x5 (hub.put CFG_STAT_STATE 1)) := by
  refine ⟨?_, ?_, ?_, ?_, ?_, ?_, ?_, ?_, ?_, ?_, ?_, ?_⟩ <;> decide +kernel

/-- The hypotheses of RegisterWrites, clause 6 to 8, hold together. -/
theorem test_hyp_RegisterWrites_2 :
  ((fun (_who : Who) (_bcast : Bool) (off : BitVec 38) (_data : DWord) (s : State) =>
    off.toNat ∈ [LPW_BUS_SH, FWD_PIN_CTL_SH] ∧ s.dark = false ∧ s.d2dLost = false ∧
    s.inReset (blkOf off.toNat) = false ∧ s.cfgState = 1) w5 false (BitVec.ofNat 38 FWD_PIN_CTL_SH) 0x5 (hub.put CFG_STAT_STATE 1)) ∧
  ((fun (_who : Who) (_bcast : Bool) (off : BitVec 38) (_data : DWord) (s : State) =>
    off.toNat ∈ [0x0C4000, 0x0D1000, 0x0D3100, 0x0D7FF8] ∧ s.dark = false ∧ s.inReset (blkOf off.toNat) = false ∧
    s.roomy) w5 false 0x0C4000 0x5 hub) ∧
  ((fun (_who : Who) (_bcast : Bool) (off : BitVec 38) (_data : DWord) (s : State) =>
    off.toNat ∈ [0x0C4000, 0x0D1000, 0x0D3100, 0x0D7FF8] ∧ s.dark = false ∧ s.inReset (blkOf off.toNat) = false ∧
    s.roomy) w5 false 0x0D3100 0x5 hub) ∧
  ((fun (_who : Who) (_bcast : Bool) (off : BitVec 38) (_data : DWord) (s : State) =>
    off.toNat ∈ [0x0C4000, 0x0D1000, 0x0D3100, 0x0D7FF8] ∧ s.dark = false ∧ s.inReset (blkOf off.toNat) = false ∧
    s.roomy) w5 false 0x0D7FF8 0x5 hub) ∧
  ((fun (_who : Who) (_bcast : Bool) (_size : Fin 4) (off : BitVec 38) (_data : DWord) (s : State) =>
    off.toNat / 0x10000 = 0x15 ∧ s.dark = false ∧ s.d2dLost = true) w5 false 2 (BitVec.ofNat 38 LPW_BUS_SH) 0x5 ({ hub with d2dLost := true })) := by
  refine ⟨?_, ?_, ?_, ?_, ?_⟩ <;> decide +kernel

/-- The hypotheses of RegisterReads, clause 1 to 8, hold together. -/
theorem test_hyp_RegisterReads :
  ((fun (_who : Who) (off : BitVec 38) (s : State) =>
    off.toNat ∈ [ID_PART, MPC_MODE, RSTC_CAUSE, CFG_STAT, FLT_OPEN, INTC_EN 2 0, MSA_STAT, LANE_STAT 1, FWD_STAT, RED_STAT, TIME_STAT,
      LSV_STAT, MB_STAT 3, HBR_EVT, TST_PSTAT] ∧
    s.dark = false ∧ s.inReset (blkOf off.toNat) = false) w5 (BitVec.ofNat 38 ID_PART) hub) ∧
  ((fun (_who : Who) (off : BitVec 38) (s : State) =>
    off.toNat ∈ [ID_PART, MPC_MODE, RSTC_CAUSE, CFG_STAT, FLT_OPEN, INTC_EN 2 0, MSA_STAT, LANE_STAT 1, FWD_STAT, RED_STAT, TIME_STAT,
      LSV_STAT, MB_STAT 3, HBR_EVT, TST_PSTAT] ∧
    s.dark = false ∧ s.inReset (blkOf off.toNat) = false) w5 (BitVec.ofNat 38 (LANE_STAT 1)) hub) ∧
  ((fun (_who : Who) (off : BitVec 38) (s : State) =>
    off.toNat ∈ [ID_PART, MPC_MODE, RSTC_CAUSE, CFG_STAT, FLT_OPEN, INTC_EN 2 0, MSA_STAT, LANE_STAT 1, FWD_STAT, RED_STAT, TIME_STAT,
      LSV_STAT, MB_STAT 3, HBR_EVT, TST_PSTAT] ∧
    s.dark = false ∧ s.inReset (blkOf off.toNat) = false) w5 (BitVec.ofNat 38 TST_PSTAT) hub) ∧
  ((fun (_who : Who) (s : State) =>
    s.inReset 0x0F = false ∧ s.dark = false) w5 (hub.wr64 TIME_SPINDLE 0x1234567890)) ∧
  ((fun (_who : Who) (s : State) =>
    s.inReset 0x14 = false ∧ s.dark = false) w5 ((hub.put HBR_HST_WR_DROP 1).put HBR_HST_PWF 1)) ∧
  ((fun (_who : Who) (_size : Fin 4) (off : BitVec 38) (s : State) =>
    inStore off.toNat = false ∧ s.dark = false ∧ s.leadsTo off.toNat = none ∧ s.roomy) w5 2 0x200000 hub) ∧
  ((fun (_who : Who) (_size : Fin 4) (off : BitVec 38) (s : State) =>
    off.toNat < 0x190000 ∧ s.dark = false ∧ ¬ (blkOf off.toNat = 0x15 ∧ s.d2dLost = true) ∧
    s.inReset (blkOf off.toNat) = true ∧ s.roomy) w5 2 0x60000 (hub.setInrst 6 true)) ∧
  ((fun (_who : Who) (size : Fin 4) (off : BitVec 38) (s : State) =>
    off.toNat < 0x188000 ∧ s.dark = false ∧ ¬ (blkOf off.toNat = 0x15 ∧ s.d2dLost = true) ∧
    s.inReset (blkOf off.toNat) = false ∧ s.roomy ∧ (regFind off.toNat = none ∨ size.val < 2 ∨ off.toNat % 4 ≠ 0)) w5 3 0x6FF00 hub) ∧
  ((fun (_who : Who) (s : State) =>
    s.on ID_STRAP_GH320 = true ∧ s.dark = false ∧ s.inReset 0x01 = false) w5 (hub.put ID_STRAP_GH320 1)) ∧
  ((fun (_who : Who) (_size : Fin 4) (off : BitVec 38) (s : State) =>
    off.toNat / 0x10000 = 0x15 ∧ s.dark = false ∧ s.d2dLost = true) w5 2 (BitVec.ofNat 38 LPW_BUS_SH) ({ hub with d2dLost := true })) := by
  refine ⟨?_, ?_, ?_, ?_, ?_, ?_, ?_, ?_, ?_, ?_⟩ <;> decide +kernel

/-- The hypotheses of BivouacMemory, clause 1 to 7, hold together. -/
theorem test_hyp_BivouacMemory :
  ((fun (who : Who) (_bcast : Bool) (off : BitVec 38) (_data : DWord) (s : State) =>
    0x188000 ≤ off.toNat ∧ s.dark = false ∧ off.toNat < 0x190000 ∧ off.toNat % 4 = 0 ∧ s.inReset 0x18 = false ∧
    s.on BIV_STAT_INIT_DONE = true ∧ (s.outside who = false ∨ s.on BIV_CTL_EXT_WR = true)) w5 false 0x188000 0x12345678 ((bv hub).put BIV_PAGE_HALF 1)) ∧
  ((fun (_who : Who) (off : BitVec 38) (s : State) =>
    0x188000 ≤ off.toNat ∧ s.dark = false ∧ off.toNat < 0x190000 ∧ off.toNat % 4 = 0 ∧ s.inReset 0x18 = false ∧
    s.on BIV_STAT_INIT_DONE = true ∧ s.bivMark (s.bivAddr off.toNat / 4) = none) w5 0x18FFFC (bv hub)) ∧
  ((fun (_who : Who) (off : BitVec 38) (m : Mark) (s : State) =>
    0x188000 ≤ off.toNat ∧ s.dark = false ∧ off.toNat < 0x190000 ∧ off.toNat % 4 = 0 ∧ s.inReset 0x18 = false ∧
    s.on BIV_STAT_INIT_DONE = true ∧ s.roomy ∧ s.bivMark (s.bivAddr off.toNat / 4) = some m ∧ m.uncorr = true) w5 0x188004 ⟨true, 3, false⟩ ((bv hub).setBivMark 1 (some ⟨true, 3, false⟩))) ∧
  ((fun (_who : Who) (off : BitVec 38) (m : Mark) (s : State) =>
    0x188000 ≤ off.toNat ∧ s.dark = false ∧ off.toNat < 0x190000 ∧ off.toNat % 4 = 0 ∧ s.inReset 0x18 = false ∧
    s.on BIV_STAT_INIT_DONE = true ∧ s.roomy ∧ s.bivMark (s.bivAddr off.toNat / 4) = some m ∧ m.uncorr = false) w5 0x188004 ⟨false, 3, false⟩ ((bv hub).setBivMark 1 (some ⟨false, 3, false⟩))) ∧
  ((fun (who : Who) (_bcast : Bool) (off : BitVec 38) (_data : DWord) (s : State) =>
    0x188000 ≤ off.toNat ∧ s.dark = false ∧ off.toNat < 0x190000 ∧ off.toNat % 4 = 0 ∧ s.inReset 0x18 = false ∧
    s.outside who = true ∧ s.on BIV_CTL_EXT_WR = false ∧ s.roomy) ⟨4, 5, 0⟩ false 0x188004 7 (bv hub)) ∧
  ((fun (_who : Who) (off : BitVec 38) (s : State) =>
    0x188000 ≤ off.toNat ∧ s.dark = false ∧ off.toNat < 0x190000 ∧ off.toNat % 4 = 0 ∧ s.inReset 0x18 = false ∧
    s.on BIV_STAT_INIT_DONE = false) w5 0x188004 hub) ∧
  ((fun (s : State) =>
    s.on BIV_STAT_INIT_DONE = false ∧ s.upTo = true ∧ s.sys.die ≠ some 2 ∧ s.biv.wait = []) hub) := by
  refine ⟨?_, ?_, ?_, ?_, ?_, ?_, ?_⟩ <;> decide +kernel

end C24

namespace C30

def ex (s : State) (f : Eng → Eng) : State := s.setEng 2 (f (s.eng 2))
def rn : State := ((ex hub fun e => { e with ran := true, acc := 2 ^ 32 - 5 }).put (GG_STAT_STATE 2) 1).put (GG_STAT_PC 2) 5 |>.wr (GG_IMEM 2 5) 77 |>.put (GG_CLK_INC 2) 7

/-- The hypotheses of EveryStepCompletes, clause 1, hold together. -/
theorem test_hyp_EveryStepCompletes :
  (hub.Inv) := ⟨by decide +kernel, by decide +kernel, by decide +kernel, by decide +kernel, by decide +kernel, by decide +kernel, by decide +kernel⟩

/-- The hypotheses of IdleCycles, clause 1 to 5, hold together. -/
theorem test_hyp_IdleCycles :
  ((fun (s : State) =>
    s.pending = [] ∧ s.fab.here = [] ∧ s.dark = false ∧ s.owesCycle = false ∧ s.islandDue = false ∧
    s.now + 1 < 2 ^ 64 ∧ (s.now + 1) % 31250 ≠ 0) (hub.wr64 TIME_SPINDLE 77)) ∧
  ((fun (s : State) =>
    s.pending = [] ∧ s.fab.here = [] ∧ s.dark = false ∧ s.owesCycle = false ∧ s.islandDue = false ∧
    s.now + 1 < 2 ^ 64 ∧ (s.now + 1) % 31250 = 0 ∧ s.stepPending = false) (hub.wr64 TIME_SPINDLE 62499)) ∧
  ((fun (s : State) =>
    s.pending = [] ∧ s.get MPC_MODE_CUR = 0) (hub.put MPC_MODE_CUR 0)) ∧
  ((fun (n : Fin 16) (s : State) =>
    s.pending = [] ∧ s.fab.here = [] ∧ s.dark = false ∧ s.owesCycle = false ∧ s.islandDue = false ∧
    (s.now + 1) % 31250 ≠ 0 ∧ s.inReset 0x10 = false ∧ s.get (GG_STAT_STATE n.val) = 1 ∧
    (s.eng n.val).fetched = none ∧ (s.eng n.val).pend = none ∧ s.get (GG_CLK_INC n.val) ≠ 0) 2 rn) ∧
  ((fun (n : Fin 16) (w : Word) (s : State) =>
    s.pending = [] ∧ s.fab.here = [] ∧ s.dark = false ∧ s.owesCycle = false ∧ s.islandDue = false ∧
    (s.now + 1) % 31250 ≠ 0 ∧ s.inReset 0x10 = false ∧
    (s.get (GG_STAT_STATE n.val) = 1 ∨ s.get (GG_STAT_STATE n.val) = 3) ∧ (s.eng n.val).fetched = none ∧
    (s.eng n.val).pend = some w) 2 9 (ex rn fun e => { e with pend := some 9 })) := by
  refine ⟨?_, ?_, ?_, ?_, ?_⟩ <;> decide +kernel

end C30

end Sys2Proof.Tests
end

/-! The frame rules `State.only` composes by, a failed remote command (R94), and the settled claims about the remote reset. -/
namespace Sys2Proof.Machine

/-! ### What composes of `State.only` -/

theorem Part.same_trans {p : Part} {s t u : State} (h : p.same s t) (k : p.same t u) : p.same s u := by
  cases p <;> exact Eq.trans k h

theorem State.only.trans {s t u : State} {os : List Nat} {ps : List Part} (h : s.only os ps t) (k : t.only os ps u) :
    s.only os ps u :=
  ⟨fun o ho => (k.1 o ho).trans (h.1 o ho), fun p hp => Part.same_trans (h.2 p hp) (k.2 p hp)⟩

theorem State.only.mono {s t : State} {os os' : List Nat} {ps ps' : List Part} (h : s.only os ps t) (ho : os ⊆ os')
    (hp : ps ⊆ ps') : s.only os' ps' t :=
  ⟨fun o hn => h.1 o fun hm => hn (ho hm), fun p hn => h.2 p fun hm => hn (List.cons_subset_cons _ hp hm)⟩

theorem State.only_put (s : State) (f : Fld) (v : Nat) : s.only [f.off] [] (s.put f v) := by
  refine ⟨fun o ho => s.rd_put_ne f v (by simpa using ho), fun p hp => ?_⟩
  cases p
  case regs => simp at hp
  all_goals rfl

theorem State.only_rcUse (s : State) : s.only [] [.sys] s.rcUse := by
  refine ⟨fun _ _ => rfl, fun p hp => ?_⟩
  cases p
  case sys => simp at hp
  all_goals rfl

/-! ### Fault messages of a collector with room -/

theorem State.roomy.put {s : State} (h : s.roomy) {f : Fld} (v : Nat) (hm : MPC_MODE ≠ f.off) (hr : RSTC_INRST ≠ f.off) :
    (s.put f v).roomy := by
  obtain ⟨hmode, hflt, hlen⟩ := h
  refine ⟨?_, ?_, hlen⟩
  · rwa [State.mode, State.get_put_ne _ _ _ _ hm]
  · rwa [State.getBit, State.get_put_ne _ _ _ _ hr]

theorem State.roomy.fault_eq {s : State} (h : s.roomy) (src kind addr : Nat) : s.fault src kind addr =
    { s with fltQ := fltInsert ⟨src, kind, kindSev kind, addr % 2 ^ 48, false, s.sys.t⟩ s.fltQ } :=
  s.fault_room src kind addr h.1 h.2.1 h.2.2

theorem State.roomy.only_fault {s : State} (h : s.roomy) (src kind addr : Nat) :
    s.only [] [.fltQ] (s.fault src kind addr) := by
  rw [h.fault_eq]
  refine ⟨fun _ _ => rfl, fun p hp => ?_⟩
  cases p
  case fltQ => simp at hp
  all_goals rfl

/-! ### A remote command that fails (R94) -/

/-- The count of `State.remoteFail`: FAILS up by one to at most 4, and LOCKED at 4. -/
def State.remoteCount (s : State) : State :=
  let f := min 4 (s.get RSTC_REMOTE_STAT_FAILS + 1)
  let s1 := s.put RSTC_REMOTE_STAT_FAILS f
  if f = 4 then s1.put RSTC_REMOTE_STAT_LOCKED 1 else s1

theorem State.remoteFail_eq (s : State) (node : Nat) : s.remoteFail node = s.remoteCount.fault 0x02 0x14 node := rfl

theorem State.remoteCount_cases (s : State) : ∃ f, f = min 4 (s.get RSTC_REMOTE_STAT_FAILS + 1) ∧
    (s.remoteCount = (s.put RSTC_REMOTE_STAT_FAILS f).put RSTC_REMOTE_STAT_LOCKED 1 ∨
      s.remoteCount = s.put RSTC_REMOTE_STAT_FAILS f) :=
  ⟨_, rfl, ite_eq_or_eq ..⟩

theorem State.get_fails_remoteCount (s : State) :
    s.remoteCount.get RSTC_REMOTE_STAT_FAILS = min 4 (s.get RSTC_REMOTE_STAT_FAILS + 1) := by
  obtain ⟨f, hf, h⟩ := s.remoteCount_cases
  have hput : (s.put RSTC_REMOTE_STAT_FAILS f).get RSTC_REMOTE_STAT_FAILS = f := by
    rw [State.get_put_same _ _ _ (by decide)]
    exact Nat.mod_eq_of_lt (show f < 8 by omega)
  rw [← hf]
  obtain h | h := h <;> rw [h]
  · rwa [State.get_put_disj _ _ _ _ (by decide) (by decide)]
  · exact hput

theorem State.only_remoteCount (s : State) : s.only [RSTC_REMOTE_STAT] [] s.remoteCount := by
  obtain ⟨f, -, h | h⟩ := s.remoteCount_cases <;> rw [h]
  · exact (s.only_put RSTC_REMOTE_STAT_FAILS f).trans (State.only_put _ RSTC_REMOTE_STAT_LOCKED 1)
  · exact s.only_put RSTC_REMOTE_STAT_FAILS f

theorem State.roomy.remoteCount {s : State} (h : s.roomy) : s.remoteCount.roomy := by
  have hput (f : Nat) : (s.put RSTC_REMOTE_STAT_FAILS f).roomy := h.put f (by decide) (by decide)
  obtain ⟨f, -, hc | hc⟩ := s.remoteCount_cases <;> rw [hc]
  · exact (hput f).put 1 (by decide) (by decide)
  · exact hput f

theorem State.get_fails_remoteFail {s : State} (h : s.roomy) (node : Nat) :
    (s.remoteFail node).get RSTC_REMOTE_STAT_FAILS = min 4 (s.get RSTC_REMOTE_STAT_FAILS + 1) := by
  rw [State.remoteFail_eq, h.remoteCount.fault_eq]
  exact s.get_fails_remoteCount

theorem State.only_remoteFail {s : State} (h : s.roomy) (node : Nat) :
    s.only [RSTC_REMOTE_STAT] [.fltQ] (s.remoteFail node) :=
  (s.only_remoteCount.mono (List.Subset.refl _) (by simp)).trans
    ((h.remoteCount.only_fault 0x02 0x14 node).mono (by simp) (List.Subset.refl _))

theorem State.sys_remoteFail {s : State} (h : s.roomy) (node : Nat) : (s.remoteFail node).sys = s.sys :=
  (State.only_remoteFail h node).2 .sys (by decide)

theorem State.sent_remoteFail {s : State} (h : s.roomy) (node : Nat) : s.sent (s.remoteFail node) 0x02 0x14 node := by
  have hsys : s.remoteCount.sys = s.sys := s.only_remoteCount.2 .sys (by decide)
  have hq : s.remoteCount.fltQ = s.fltQ := s.only_remoteCount.2 .fltQ (by decide)
  rw [State.sent, State.remoteFail_eq, h.remoteCount.fault_eq, hsys, hq]

/-- The register access starts RC100 (R18); a failure after it leaves all else as the failure alone does. -/
theorem State.only_rcUse_remoteFail {s : State} (h : s.roomy) (node : Nat) :
    s.only [RSTC_REMOTE_STAT] [.sys, .fltQ] (s.rcUse.remoteFail node) :=
  (s.only_rcUse.mono (by simp) (by simp)).trans
    ((State.only_remoteFail (s := s.rcUse) h node).mono (List.Subset.refl _) (by simp))

/-! ### Broadcast writes (R95) -/

theorem State.remoteAuth_bcast {s : State} (w : Word) (node : Nat) (hen : s.rd RSTC_AUTH ≠ 0#32)
    (hl : s.on RSTC_REMOTE_STAT_LOCKED = false) : s.remoteAuth w node true = s.remoteFail node := by
  simp [State.remoteAuth, hen, hl]

theorem State.remoteCmd_bcast {s : State} (unit node : Nat) (hen : s.rd RSTC_AUTH ≠ 0#32)
    (hl : s.on RSTC_REMOTE_STAT_LOCKED = false) : s.remoteCmd unit node true = s.remoteFail node := by
  simp [State.remoteCmd, hen, hl]

theorem exec_remoteAuth_bcast {s : State} (w : Word) (node : BitVec 8) (hd : s.dark = false) (hr : s.inReset 0x02 = false)
    (hen : s.rd RSTC_AUTH ≠ 0#32) (hl : s.on RSTC_REMOTE_STAT_LOCKED = false) :
    exec (.remoteAuth w node true) s = .next (s.rcUse.remoteFail node.toNat) :=
  congrArg _ ((s.cmd_run RSTC_REMOTE_AUTH _ hd hr).trans (State.remoteAuth_bcast (s := s.rcUse) w node.toNat hen hl))

theorem exec_remoteCmd_bcast {s : State} (unit node : BitVec 8) (hd : s.dark = false) (hr : s.inReset 0x02 = false)
    (hen : s.rd RSTC_AUTH ≠ 0#32) (hl : s.on RSTC_REMOTE_STAT_LOCKED = false) :
    exec (.remoteCmd unit node true) s = .next (s.rcUse.remoteFail node.toNat) :=
  congrArg _ ((s.cmd_run RSTC_REMOTE_CMD _ hd hr).trans
    (State.remoteCmd_bcast (s := s.rcUse) unit.toNat node.toNat hen hl))

/-- Settles O18: both broadcast writes come to the same failure of the access, `s.rcUse.remoteFail`, whose count, message and
frame are the lemmas above. -/
theorem remoteBroadcast : Obligations.RemoteBroadcast := by
  intro unit node w s hd hr hen hl hroom _
  have hfails := State.get_fails_remoteFail (s := s.rcUse) hroom node.toNat
  have hsent := State.sent_remoteFail (s := s.rcUse) hroom node.toNat
  have hsys := State.sys_remoteFail (s := s.rcUse) hroom node.toNat
  have hunits : (s.rcUse.remoteFail node.toNat).sys.units = s.sys.units := by rw [hsys]; rfl
  have hauth : (s.rcUse.remoteFail node.toNat).sys.auth = s.sys.auth := by rw [hsys]; rfl
  have honly := State.only_rcUse_remoteFail hroom node.toNat
  exact ⟨_, _, exec_remoteAuth_bcast w node hd hr hen hl, exec_remoteCmd_bcast unit node hd hr hen hl, hfails, hfails,
    hauth, hunits, hunits, hsent, hsent, honly, honly⟩

end Sys2Proof.Machine

/-! Reads of the spindle and the latches of its high word (R264), and the settled claim about them. -/
namespace Sys2Proof.Machine

/-! ### A read command of a unit that runs -/

/-- A unit of the D-die runs only while the die does. -/
theorem State.dark_eq_false_of_inReset {s : State} {u : Nat} (hu : onDie u = true) (h : s.inReset u = false) :
    s.dark = false := by
  rw [State.inReset, Bool.or_eq_false_iff, hu, Bool.true_and] at h
  exact h.1

theorem State.only_answer (s : State) (req status data : Nat) : s.only [] [.resp] (s.answer req status data) := by
  refine ⟨fun _ _ => rfl, fun p hp => ?_⟩
  cases p
  case resp => simp at hp
  all_goals rfl

/-! ### The latches of the high word -/

/-- The high word latched for a requester, if a latch is pending. -/
def State.latchOf (s : State) (key : Nat) : Option Word := Tab.get (fun _ => none) s.time.latch key

/-- Sets or ends a requester's latch. -/
def State.setLatch (s : State) (key : Nat) (x : Option Word) : State :=
  { s with time := { s.time with latch := Tab.set (fun _ => none) s.time.latch key x } }

theorem State.latchOf_setLatch (s : State) (key : Nat) (x : Option Word) (k : Nat) :
    (s.setLatch key x).latchOf k = if k = key then x else s.latchOf k := Tab.get_set ..

theorem State.only_setLatch (s : State) (key : Nat) (x : Option Word) : s.only [] [.time] (s.setLatch key x) := by
  refine ⟨fun _ _ => rfl, fun p hp => ?_⟩
  cases p
  case time => simp at hp
  all_goals rfl

theorem State.only_setLatch_answer (s : State) (key : Nat) (x : Option Word) (req status data : Nat) :
    s.only [] [.resp, .time] ((s.setLatch key x).answer req status data) :=
  ((s.only_setLatch key x).mono (List.Subset.refl _) (by simp)).trans
    ((State.only_answer _ req status data).mono (List.Subset.refl _) (by simp))

/-! ### What a read of the spindle does, part by part -/

theorem State.spindleRead_whole (s : State) (key : Nat) : s.spindleRead key 0 = (s, s.now) := rfl

theorem State.spindleRead_low (s : State) (key : Nat) :
    s.spindleRead key 1 = (s.setLatch key (some (BitVec.ofNat 32 (s.now / 2 ^ 32))), s.now % 2 ^ 32) := rfl

theorem State.spindleRead_high_of_latch {s : State} {key : Nat} {w : Word} (h : s.latchOf key = some w) :
    s.spindleRead key 2 = (s.setLatch key none, w.toNat) := by
  rw [State.latchOf] at h
  simp only [State.spindleRead, h]
  rfl

theorem State.spindleRead_high_of_no_latch {s : State} {key : Nat} (h : s.latchOf key = none) (hn : s.now < 2 ^ 64) :
    s.spindleRead key 2 = (s, s.now / 2 ^ 32) := by
  have hhi : (BitVec.ofNat 32 (s.now / 2 ^ 32)).toNat = s.now / 2 ^ 32 := by
    rw [BitVec.toNat_ofNat, Nat.mod_eq_of_lt (by omega)]
  rw [State.latchOf] at h
  simp only [State.spindleRead, h, hhi]

/-- While TIME runs, the command answers the requester with what the read returns (R90, R264). -/
theorem exec_spindleRead {s t : State} {who : Who} {part : Fin 3} {data : Nat} (hr : s.inReset 0x0F = false)
    (h : s.spindleRead (whoKey who) part.val = (t, data)) :
    exec (.spindleRead who part) s = .next (t.answer (whoKey who) 0 data) := by
  have hd : s.dark = false := State.dark_eq_false_of_inReset (by decide) hr
  have hrun := s.readCmd_run TIME_SPINDLE (whoKey who) (fun s => s.spindleRead (whoKey who) part.val) hd hr
  rw [h] at hrun
  exact congrArg _ hrun

/-- Settles O32: by the part read and, for the high word, by whether a latch is pending; each read is the answer on the state
that `State.spindleRead` leaves, with the latches of `State.latchOf_setLatch`. -/
theorem spindleReads : Obligations.SpindleReads := by
  refine ⟨?whole, ?low, ?latched, ?unlatched⟩
  case whole =>
    intro who s hr
    exact ⟨_, exec_spindleRead hr (s.spindleRead_whole _), rfl, s.only_answer ..⟩
  case low =>
    intro who s hr
    exact ⟨_, exec_spindleRead hr (s.spindleRead_low _), rfl, s.latchOf_setLatch _ _, rfl, s.only_setLatch_answer ..⟩
  case latched =>
    intro who w s hr hl
    exact ⟨_, exec_spindleRead hr (State.spindleRead_high_of_latch hl), rfl, s.latchOf_setLatch _ _, rfl,
      s.only_setLatch_answer ..⟩
  case unlatched =>
    intro who s hr hl hn
    exact ⟨_, exec_spindleRead hr (State.spindleRead_high_of_no_latch hl hn), rfl, s.only_answer ..⟩

end Sys2Proof.Machine

/-! The cycle of an engine that executes an instruction without a gate (R295, R296, R304) or halts at an illegal one (R297), the
conditions and the count of JMP (R308), and the settled claim about them. -/
namespace Sys2Proof.Machine

/-! ### Engine records -/

theorem State.only_with_gg (s : State) (g : GgSt) : s.only [] [.gg] { s with gg := g } := by
  refine ⟨fun _ _ => rfl, fun p hp => ?_⟩
  cases p
  case gg => simp at hp
  all_goals rfl

theorem State.only_refl (s : State) (os : List Nat) (ps : List Part) : s.only os ps s := by
  refine ⟨fun _ _ => rfl, fun p _ => ?_⟩
  cases p <;> rfl

/-- A field of a register that may not have changed. -/
theorem State.only.get_eq {s t : State} {os : List Nat} {ps : List Part} (h : s.only os ps t) {f : Fld} (hf : f.off ∉ os) :
    t.get f = s.get f := by
  rw [State.get, h.1 _ hf, State.get]

theorem State.eng_setEng (s : State) (n : Nat) (e : Eng) (m : Nat) : (s.setEng n e).eng m = if m = n then e else s.eng m :=
  Tab.get_set ..

@[simp] theorem State.get_setEng (s : State) (n : Nat) (e : Eng) (f : Fld) : (s.setEng n e).get f = s.get f := rfl

@[simp] theorem State.eng_put (s : State) (f : Fld) (v m : Nat) : (s.put f v).eng m = s.eng m := rfl

/-! ### The fields of an engine's status -/

@[simp] theorem State.get_pc_put_pc (s : State) (n v : Nat) : (s.put (GG_STAT_PC n) v).get (GG_STAT_PC n) = v % 64 :=
  s.get_put_same (GG_STAT_PC n) v (show 8 + 6 ≤ 32 by decide)

@[simp] theorem State.get_pc_put_cause (s : State) (n v : Nat) :
    (s.put (GG_STAT_CAUSE n) v).get (GG_STAT_PC n) = s.get (GG_STAT_PC n) :=
  s.get_put_disj (GG_STAT_CAUSE n) (GG_STAT_PC n) v (show 8 + 6 ≤ 32 by decide) (.inr (show 2 + 3 ≤ 8 by decide))

@[simp] theorem State.get_pc_put_state (s : State) (n v : Nat) :
    (s.put (GG_STAT_STATE n) v).get (GG_STAT_PC n) = s.get (GG_STAT_PC n) :=
  s.get_put_disj (GG_STAT_STATE n) (GG_STAT_PC n) v (show 8 + 6 ≤ 32 by decide) (.inr (show 0 + 2 ≤ 8 by decide))

@[simp] theorem State.get_cause_put_cause (s : State) (n v : Nat) :
    (s.put (GG_STAT_CAUSE n) v).get (GG_STAT_CAUSE n) = v % 8 :=
  s.get_put_same (GG_STAT_CAUSE n) v (show 2 + 3 ≤ 32 by decide)

@[simp] theorem State.get_state_put_state (s : State) (n v : Nat) :
    (s.put (GG_STAT_STATE n) v).get (GG_STAT_STATE n) = v % 4 :=
  s.get_put_same (GG_STAT_STATE n) v (show 0 + 2 ≤ 32 by decide)

@[simp] theorem State.get_state_put_cause (s : State) (n v : Nat) :
    (s.put (GG_STAT_CAUSE n) v).get (GG_STAT_STATE n) = s.get (GG_STAT_STATE n) :=
  s.get_put_disj (GG_STAT_CAUSE n) (GG_STAT_STATE n) v (show 0 + 2 ≤ 32 by decide) (.inl (show 0 + 2 ≤ 2 by decide))

@[simp] theorem State.get_state_put_pc (s : State) (n v : Nat) :
    (s.put (GG_STAT_PC n) v).get (GG_STAT_STATE n) = s.get (GG_STAT_STATE n) :=
  s.get_put_disj (GG_STAT_PC n) (GG_STAT_STATE n) v (show 0 + 2 ≤ 32 by decide) (.inl (show 0 + 2 ≤ 8 by decide))

/-! ### Marker patterns and fine edges move pins only (R304) -/

/-- From `s` to `t` nothing has changed but the levels of engine `n`'s slots and what the block keeps beside its engines. -/
structure State.movesPins (s : State) (n : Nat) (t : State) : Prop where
  only : s.only [] [.gg] t
  own : ∃ v, t.eng n = { s.eng n with lvl := v }
  others : ∀ m, m ≠ n → t.eng m = s.eng m

namespace State.movesPins

theorem refl (s : State) (n : Nat) : s.movesPins n s := ⟨s.only_refl _ _, ⟨_, rfl⟩, fun _ _ => rfl⟩

theorem trans {s t u : State} {n : Nat} (h : s.movesPins n t) (k : t.movesPins n u) : s.movesPins n u where
  only := h.only.trans k.only
  own := by
    obtain ⟨_, hv⟩ := h.own
    obtain ⟨v, hw⟩ := k.own
    exact ⟨v, by rw [hw, hv]⟩
  others m hm := (k.others m hm).trans (h.others m hm)

theorem setLvl (s : State) (n k : Nat) (v : Bool) : s.movesPins n (s.setLvl n k v) where
  only := s.only_with_gg _
  own := ⟨_, (s.eng_setEng n _ n).trans (if_pos rfl)⟩
  others m hm := (s.eng_setEng n _ m).trans (if_neg hm)

theorem each {n : Nat} {f : State → Nat → State} (hf : ∀ (t : State) i, t.movesPins n (f t i)) (l : List Nat) (s : State) :
    s.movesPins n (s.each l f) := by
  induction l generalizing s with
  | nil => exact refl s n
  | cons i l ih => exact (hf s i).trans (ih (f s i))

theorem applyMark (s : State) (n k : Nat) : s.movesPins n (s.applyMark n k) := by
  rw [State.applyMark]
  split
  · exact refl s n
  · refine each (fun t i => ?_) _ s
    split
    · exact refl t n
    · split
      · exact setLvl ..
      · split
        · exact setLvl ..
        · exact refl t n

theorem fineEdges (s : State) (n w before : Nat) : s.movesPins n (s.fineEdges n w before) := by
  refine each (fun t i => ?_) _ s
  dsimp only
  split
  · exact ⟨t.only_with_gg _, ⟨_, rfl⟩, fun _ _ => rfl⟩
  · exact refl t n

end State.movesPins

/-! ### The instruction boundary of a running engine (R296) -/

/-- The PC after an instruction: the jump it takes, or the program order. -/
def State.pcAfter (s : State) (n w : Nat) (jump : Option Nat) : Nat := jump.getD (s.nextPc n w (s.eng n).inj)

/-- An engine that runs, with no stop requested and no HALT at its boundary, goes on running. -/
theorem State.boundary_running {s : State} {n : Nat} (w : Nat) (jump : Option Nat) (hst : s.get (GG_STAT_STATE n) = 1)
    (hstop : (s.eng n).stopReq = false) :
    s.boundary n w jump false = ((s.put (GG_STAT_PC n) (s.pcAfter n w jump)).put (GG_STAT_CAUSE n) 0).setEng n
      { s.eng n with
        fetched := none, inj := false, ran := true, stopReq := false
        kept := if jump.isSome then none else (s.eng n).kept } := by
  cases jump <;> simp [State.boundary, State.pcAfter, hst, hstop]

theorem State.only_boundary_running {s : State} {n : Nat} (w : Nat) (jump : Option Nat) (hst : s.get (GG_STAT_STATE n) = 1)
    (hstop : (s.eng n).stopReq = false) : s.only [GG_STAT n] [.gg] (s.boundary n w jump false) := by
  rw [State.boundary_running w jump hst hstop]
  exact (((s.only_put (GG_STAT_PC n) _).trans (State.only_put _ (GG_STAT_CAUSE n) 0)).mono (List.Subset.refl _) (by simp)).trans
    ((State.only_with_gg _ _).mono (by simp) (List.Subset.refl _))

theorem State.executed_boundary_running {s : State} {n : Nat} (w : Nat) (jump : Option Nat)
    (hst : s.get (GG_STAT_STATE n) = 1) (hstop : (s.eng n).stopReq = false) (hpc : s.pcAfter n w jump < 64) :
    s.executed (s.boundary n w jump false) n (s.pcAfter n w jump) := by
  rw [State.boundary_running w jump hst hstop]
  refine ⟨?pc, ?cause, ?state, ?fetched, ?ran, ?others⟩
  case pc => rw [State.get_setEng, State.get_pc_put_cause, State.get_pc_put_pc, Nat.mod_eq_of_lt hpc]
  case cause => rw [State.get_setEng, State.get_cause_put_cause]
  case state => rw [State.get_setEng, State.get_state_put_cause, State.get_state_put_pc, hst]
  case fetched => rw [State.eng_setEng, if_pos rfl]
  case ran => rw [State.eng_setEng, if_pos rfl]
  case others =>
    intro m _ hm
    rw [State.eng_setEng, if_neg hm, State.eng_put, State.eng_put]

/-! ### A cycle that executes a word without a gate (R295) -/

theorem State.verdict_ungated {s : State} {n w : Nat} {seen : DWord} (hgate : bits w 26 2 = 0)
    (hstall : s.opStall n w seen = 0) : s.verdict n w seen = .run := by
  simp [State.verdict, hgate, hstall]

/-- The pins as an instruction's opcode and then its marker pattern leave them. -/
def State.marked (s : State) (n w : Nat) (seen : DWord) : State :=
  ((s.opEffect n w seen).1.applyMark n (bits w 23 3)).fineEdges n w (s.eng n).lvl

theorem State.movesPins.marked (s : State) (n w : Nat) (seen : DWord) :
    (s.opEffect n w seen).1.movesPins n (s.marked n w seen) :=
  (State.movesPins.applyMark ..).trans (State.movesPins.fineEdges ..)

theorem State.engRun_ungated (s : State) {n w : Nat} (seen : DWord) (hgate : bits w 26 2 = 0) :
    s.engRun n w seen = (s.marked n w seen).boundary n w (s.opEffect n w seen).2 (bits w 28 4 = 13 && bits w 18 3 = 1) := by
  simp [State.engRun, State.marked, State.advanceTb, hgate]

theorem State.fetches.engCycle_ungated {s : State} {n op : Nat} {w : Word} (h : s.fetches n w op) (seen : DWord)
    (hgate : bits w.toNat 26 2 = 0) (hstall : s.opStall n w.toNat seen = 0) (hop : op ≠ 13) :
    s.engCycle n op seen = (s.marked n w.toNat seen).boundary n w.toNat (s.opEffect n w.toNat seen).2 false := by
  obtain ⟨hst, hran, hrst, hf, _, _, hopc, hleg⟩ := h
  have hrun := s.engRun_ungated (n := n) seen hgate
  simp only [hopc, hop, decide_false, Bool.false_and] at hrun
  simp [State.engCycle, hf, State.engLive, hst, hran, hrst, hopc, hleg, State.verdict_ungated hgate hstall, hrun]

/-! ### An illegal instruction (R297) -/

theorem State.engCycle_illegal {s : State} {n op : Nat} {w : Word} (seen : DWord) (hlive : s.engLive n = true)
    (hf : (s.eng n).fetched = some w) (hop : bits w.toNat 28 4 = op) (hill : s.illegal n w.toNat = true) :
    s.engCycle n op seen = s.engIllegal n w.toNat := by
  simp [State.engCycle, hf, hlive, hop, hill]

/-- A fault message changes no register but FLT's status. -/
theorem State.rd_fault_ne (s : State) (src kind addr : Nat) {o : Nat} (h : o ≠ FLT_STAT) :
    (s.fault src kind addr).rd o = s.rd o := by
  have hbump : ∀ t : State, (t.bump (FLT_CNT 5)).rd o = t.rd o := by
    intro t
    have hsat : satField (FLT_CNT 5) = some FLT_STAT_SAT := by decide
    have hlpw : FLT_STAT_SAT ≠ LPW_STAT_SAT := by decide
    simp only [State.bump, State.count, hsat, hlpw, if_false]
    split
    · rw [State.rd_put_ne _ FLT_STAT_SAT 1 h, State.rd_setCnt]
    · rw [State.rd_setCnt]
  rw [State.fault, State.faultMsg]
  split
  · rfl
  · split
    · rfl
    · rw [hbump, State.rd_put_ne _ FLT_STAT_MSG_LOST 1 h]; rfl

theorem State.get_fault_ne (s : State) (src kind addr : Nat) {f : Fld} (h : f.off ≠ FLT_STAT) :
    (s.fault src kind addr).get f = s.get f := by
  rw [State.get, State.rd_fault_ne _ _ _ _ h, State.get]

theorem State.get_pilotHalt (s : State) (n : Nat) (f : Fld) : (s.pilotHalt n).get f = s.get f := by
  rw [State.get, State.rd, (State.pilotHalt_foot s n).regs rfl, State.get, State.rd]

theorem GG_STAT_ne_FLT_STAT (n : Nat) : GG_STAT n ≠ FLT_STAT := by
  unfold GG_STAT FLT_STAT
  omega

/-- The engine is HALTED with cause ILLEGAL, and PC stays at the instruction. -/
theorem State.get_engIllegal (s : State) (n w : Nat) :
    (s.engIllegal n w).get (GG_STAT_STATE n) = 2 ∧ (s.engIllegal n w).get (GG_STAT_CAUSE n) = 6 ∧
      (s.engIllegal n w).get (GG_STAT_PC n) = s.get (GG_STAT_PC n) := by
  refine ⟨?state, ?cause, ?pc⟩ <;> rw [State.engIllegal, State.get_fault_ne _ _ _ _ (GG_STAT_ne_FLT_STAT n)]
  case state => simp [State.engStop, State.get_pilotHalt]
  case cause => simp
  case pc =>
    rw [State.get_pc_put_cause, State.engStop, State.get_pilotHalt, State.get_pc_put_cause, State.get_pc_put_state]
    rfl

/-- A JMP with an index where its condition uses none, or with a slot above 7, is illegal (R308). -/
theorem State.illegal_jmp_of_index {s : State} {n w : Nat} (hop : bits w 28 4 = 1)
    (h : bits w 17 4 ∉ [5, 6, 15] ∧ bits w 13 4 ≠ 0 ∨ bits w 17 4 ∈ [5, 6] ∧ 7 < bits w 13 4) :
    s.illegal n w = true := by
  rcases h with ⟨hc, hi⟩ | ⟨hc, hi⟩
  · simp only [List.mem_cons, List.not_mem_nil, or_false, not_or] at hc
    simp [State.illegal, hop, hc, hi]
  · simp only [List.mem_cons, List.not_mem_nil, or_false] at hc
    simp [State.illegal, hop, hc, hi]

/-! ### JMP (R308) -/

theorem exec_jmp (n : Fin 16) (seen : DWord) (s : State) : exec (.jmp n seen) s = .next (s.engCycle n.val 1 seen) := rfl

/-- Condition `c` of a JMP with index `i`, by the table of R308. -/
def State.jmpHolds (s : State) (n c i : Nat) (seen : DWord) : Bool :=
  match c with
  | 0 => true
  | 1 => s.get (GG_X_VALUE n 0) == 0
  | 2 => decide (2 ≤ s.get (GG_X_VALUE n 0))
  | 3 => s.get (GG_X_VALUE n 1) == 0
  | 4 => decide (2 ≤ s.get (GG_X_VALUE n 1))
  | 5 => s.slotRead n i seen
  | 6 => !s.slotRead n i seen
  | 7 => s.get (GG_SCF_EQ n) == 1
  | 8 => s.get (GG_SCF_EQ n) == 0
  | 9 => s.get (GG_SCF_LT n) == 1
  | 10 => s.get (GG_SCF_Z n) == 1
  | 11 => decide ((s.eng n).tx.length = 0)
  | 12 => decide (0 < (s.eng n).tx.length)
  | 13 => decide ((s.fifoCaps n).2 ≤ (s.eng n).rx.length)
  | 14 => decide (s.scLim n ≤ s.get (GG_SCF_SC n))
  | _ => s.gg.efBase.testBit i

/-- What condition `c` counts: LOOP0 and LOOP1 take one from X0 and X1, down to 0. -/
def State.jmpCount (s : State) (n c : Nat) : State :=
  match c with
  | 2 => s.put (GG_X_VALUE n 0) (s.get (GG_X_VALUE n 0) - 1)
  | 4 => s.put (GG_X_VALUE n 1) (s.get (GG_X_VALUE n 1) - 1)
  | _ => s

theorem State.on_eq_beq_one (s : State) {f : Fld} (h : f.w = 1) : s.on f = (s.get f == 1) := by
  have hlt := s.get_lt f
  rw [h] at hlt
  rcases (by omega : s.get f = 0 ∨ s.get f = 1) with hv | hv <;> simp [State.on, hv]

theorem State.not_on_eq_beq_zero (s : State) (f : Fld) : (!s.on f) = (s.get f == 0) := by
  rw [State.on, bne, Bool.not_not]

theorem State.doJmp_eq (s : State) (n w : Nat) (seen : DWord) :
    s.doJmp n w seen = (s.jmpCount n (bits w 17 4),
      if s.jmpHolds n (bits w 17 4) (bits w 13 4) seen then some (bits w 0 6) else none) := by
  have hempty : (s.eng n).tx.isEmpty = decide ((s.eng n).tx.length = 0) := by cases (s.eng n).tx <;> simp
  have hsome : (!(s.eng n).tx.isEmpty) = decide (0 < (s.eng n).tx.length) := by cases (s.eng n).tx <;> simp
  simp only [State.doJmp, State.not_on_eq_beq_zero, hsome]
  simp only [hempty, State.on_eq_beq_one (f := GG_SCF_EQ n) s rfl, State.on_eq_beq_one (f := GG_SCF_LT n) s rfl,
    State.on_eq_beq_one (f := GG_SCF_Z n) s rfl]
  rfl

/-- The three things a JMP may count: nothing, X0 or X1. -/
theorem State.jmpCount_cases (s : State) (n c : Nat) :
    c = 2 ∧ s.jmpCount n c = s.put (GG_X_VALUE n 0) (s.get (GG_X_VALUE n 0) - 1) ∨
    c = 4 ∧ s.jmpCount n c = s.put (GG_X_VALUE n 1) (s.get (GG_X_VALUE n 1) - 1) ∨
    c ≠ 2 ∧ c ≠ 4 ∧ s.jmpCount n c = s := by
  unfold State.jmpCount
  split
  · exact .inl ⟨rfl, rfl⟩
  · exact .inr (.inl ⟨rfl, rfl⟩)
  · next h2 h4 => exact .inr (.inr ⟨h2, h4, rfl⟩)

theorem State.only_jmpCount (s : State) (n c : Nat) : s.only [GG_X n 0, GG_X n 1] [] (s.jmpCount n c) := by
  rcases s.jmpCount_cases n c with ⟨-, h⟩ | ⟨-, h⟩ | ⟨-, -, h⟩ <;> rw [h]
  · exact (s.only_put (GG_X_VALUE n 0) _).mono (by simp [GG_X_VALUE]) (List.Subset.refl _)
  · exact (s.only_put (GG_X_VALUE n 1) _).mono (by simp [GG_X_VALUE]) (List.Subset.refl _)
  · exact s.only_refl _ _

/-- A count reads back: the register held at least the number written. -/
theorem State.get_put_pred (s : State) (n k : Nat) :
    (s.put (GG_X_VALUE n k) (s.get (GG_X_VALUE n k) - 1)).get (GG_X_VALUE n k) = s.get (GG_X_VALUE n k) - 1 := by
  rw [State.get_put_same _ (GG_X_VALUE n k) _ (by simp [GG_X_VALUE])]
  exact Nat.mod_eq_of_lt (Nat.lt_of_le_of_lt (Nat.sub_le ..) (s.get_lt _))

theorem GG_X_ne (n : Nat) : GG_X n 0 ≠ GG_X n 1 := by
  unfold GG_X
  omega

theorem State.get_x0_jmpCount (s : State) (n c : Nat) : (s.jmpCount n c).get (GG_X_VALUE n 0) =
    if c = 2 then s.get (GG_X_VALUE n 0) - 1 else s.get (GG_X_VALUE n 0) := by
  rcases s.jmpCount_cases n c with ⟨rfl, h⟩ | ⟨rfl, h⟩ | ⟨h2, -, h⟩ <;> rw [h]
  · exact s.get_put_pred n 0
  · exact s.get_put_ne (GG_X_VALUE n 1) (GG_X_VALUE n 0) _ (GG_X_ne n)
  · exact (if_neg h2).symm

theorem State.get_x1_jmpCount (s : State) (n c : Nat) : (s.jmpCount n c).get (GG_X_VALUE n 1) =
    if c = 4 then s.get (GG_X_VALUE n 1) - 1 else s.get (GG_X_VALUE n 1) := by
  rcases s.jmpCount_cases n c with ⟨rfl, h⟩ | ⟨rfl, h⟩ | ⟨-, h4, h⟩ <;> rw [h]
  · exact s.get_put_ne (GG_X_VALUE n 0) (GG_X_VALUE n 1) _ (GG_X_ne n).symm
  · exact s.get_put_pred n 1
  · exact (if_neg h4).symm

theorem State.eng_jmpCount (s : State) (n c m : Nat) : (s.jmpCount n c).eng m = s.eng m := by
  rcases s.jmpCount_cases n c with ⟨-, h⟩ | ⟨-, h⟩ | ⟨-, -, h⟩ <;> rw [h]
  · rw [State.eng_put]
  · rw [State.eng_put]

theorem GG_STAT_notMem_X (n : Nat) : GG_STAT n ∉ [GG_X n 0, GG_X n 1] := by
  simp only [List.mem_cons, List.not_mem_nil, or_false, GG_STAT, GG_X]
  omega

theorem GG_EXEC_notMem_X (n : Nat) : GG_EXEC n ∉ [GG_X n 0, GG_X n 1] := by
  simp only [List.mem_cons, List.not_mem_nil, or_false, GG_EXEC, GG_X]
  omega

theorem GG_X_notMem_STAT (n k : Nat) : GG_X n k ∉ [GG_STAT n] := by
  simp only [List.mem_cons, List.not_mem_nil, or_false, GG_STAT, GG_X]
  omega

/-- The PC of a JMP: TARGET where its condition holds, else the program order of R296. -/
def State.jmpPc (s : State) (n w : Nat) (seen : DWord) : Nat :=
  if s.jmpHolds n (bits w 17 4) (bits w 13 4) seen then bits w 0 6
  else if bit w 22 then s.get (GG_EXEC_LOOP_PC n) else s.pcNext n

theorem State.jmpPc_lt (s : State) (n w : Nat) (seen : DWord) : s.jmpPc n w seen < 64 := by
  have htarget : bits w 0 6 < 64 := Nat.mod_lt _ (by decide)
  have hloop : s.get (GG_EXEC_LOOP_PC n) < 64 := s.get_lt _
  have hnext : s.pcNext n < 64 := Nat.mod_lt _ (by decide)
  unfold State.jmpPc
  split
  · exact htarget
  · split
    · exact hloop
    · exact hnext

/-- A JMP without a gate, part by part: what it counts, the pins its marker pattern moves, and the boundary with its PC. -/
theorem State.fetches.jmp {s : State} {n : Nat} {w : Word} (h : s.fetches n w 1) (seen : DWord)
    (hgate : bits w.toNat 26 2 = 0) : ∃ a jump, (s.jmpCount n (bits w.toNat 17 4)).movesPins n a ∧
      s.engCycle n 1 seen = a.boundary n w.toNat jump false ∧ a.pcAfter n w.toNat jump = s.jmpPc n w.toNat seen := by
  obtain ⟨_, _, _, _, hinj, _, hop, _⟩ := id h
  have hstall : s.opStall n w.toNat seen = 0 := by simp [State.opStall, hop]
  have heff : s.opEffect n w.toNat seen = s.doJmp n w.toNat seen := by simp [State.opEffect, hop]
  have hmoves := State.movesPins.marked s n w.toNat seen
  have hcycle := h.engCycle_ungated seen hgate hstall (by decide)
  rw [heff, s.doJmp_eq] at hmoves hcycle
  refine ⟨_, _, hmoves, hcycle, ?_⟩
  have honly := (s.only_jmpCount n (bits w.toNat 17 4)).mono (List.Subset.refl _) (List.nil_subset [.gg]) |>.trans
    (hmoves.only.mono (List.nil_subset _) (List.Subset.refl _))
  have hinj' : ((s.marked n w.toNat seen).eng n).inj = false := by
    obtain ⟨v, hv⟩ := hmoves.own
    rw [hv, s.eng_jmpCount, hinj]
  have hpc : (s.marked n w.toNat seen).get (GG_STAT_PC n) = s.get (GG_STAT_PC n) := honly.get_eq (GG_STAT_notMem_X n)
  have hloop : (s.marked n w.toNat seen).get (GG_EXEC_LOOP_PC n) = s.get (GG_EXEC_LOOP_PC n) :=
    honly.get_eq (GG_EXEC_notMem_X n)
  rw [State.pcAfter, State.nextPc, hinj', hpc, hloop, State.jmpPc]
  split <;> rfl

/-- A JMP without a gate executes in its cycle (R295, R308). -/
theorem State.fetches.jmp_result {s : State} {n : Nat} {w : Word} (h : s.fetches n w 1) (seen : DWord)
    (hgate : bits w.toNat 26 2 = 0) :
    s.executed (s.engCycle n 1 seen) n (s.jmpPc n w.toNat seen) ∧
      (s.jmpCount n (bits w.toNat 17 4)).only [GG_STAT n] [.gg] (s.engCycle n 1 seen) := by
  obtain ⟨a, jump, hmoves, hcycle, hpc⟩ := h.jmp seen hgate
  obtain ⟨hst, _, _, _, _, hstop, _, _⟩ := h
  have hst' : a.get (GG_STAT_STATE n) = 1 :=
    (hmoves.only.get_eq (List.not_mem_nil)).trans (((s.only_jmpCount n _).get_eq (GG_STAT_notMem_X n)).trans hst)
  have hstop' : (a.eng n).stopReq = false := by
    obtain ⟨v, hv⟩ := hmoves.own
    rw [hv, s.eng_jmpCount, hstop]
  have hexec := State.executed_boundary_running w.toNat jump hst' hstop' (hpc ▸ s.jmpPc_lt n _ seen)
  have honly := State.only_boundary_running w.toNat jump hst' hstop'
  rw [hcycle, ← hpc]
  obtain ⟨hpcs, hcause, hstate, hfetched, hran, hothers⟩ := hexec
  exact ⟨⟨hpcs, hcause, hstate, hfetched, hran, fun m hm hne => by rw [hothers m hm hne, hmoves.others m hne,
    s.eng_jmpCount]⟩, (hmoves.only.mono (List.nil_subset _) (List.Subset.refl _)).trans honly⟩

/-- Settles O35: a legal word by `State.fetches.jmp_result`, with the count of `State.jmpCount`; a word with an index it must not
have by `State.engCycle_illegal`. -/
theorem jumpConditions : Obligations.JumpConditions := by
  refine ⟨?legal, ?index⟩
  case legal =>
    intro n seen w s hfetch hgate
    obtain ⟨hexec, honly⟩ := hfetch.jmp_result seen hgate
    refine ⟨_, exec_jmp n seen s, hexec, ?x0, ?x1, ?frame⟩
    case x0 => exact (honly.get_eq (GG_X_notMem_STAT n.val 0)).trans (s.get_x0_jmpCount n.val _)
    case x1 => exact (honly.get_eq (GG_X_notMem_STAT n.val 1)).trans (s.get_x1_jmpCount n.val _)
    case frame =>
      exact ((s.only_jmpCount n.val _).mono (List.subset_cons_self ..) (List.nil_subset _)).trans
        (honly.mono (by simp) (List.Subset.refl _))
  case index =>
    intro n seen w s hlive hf hop hidx
    have hcycle := State.engCycle_illegal seen hlive hf hop (State.illegal_jmp_of_index hop hidx)
    obtain ⟨hstate, hcause, hpc⟩ := s.get_engIllegal n.val w.toNat
    exact ⟨_, by rw [exec_jmp, hcycle], hstate, hcause, hpc, (s.engIllegal_foot n.val w.toNat).mem rfl⟩

end Sys2Proof.Machine

/-! The assertion of a UNIT reset of the fault collector (R442) and the entry of the reset-cause log it writes (R86, R107), and
the settled claim about it. -/
namespace Sys2Proof.Machine

/-! ### Frames of the state's own updates -/

theorem State.only_wr (s : State) (o : Nat) (v : Word) : s.only [o] [] (s.wr o v) := by
  refine ⟨fun j hj => s.rd_wr_ne v (by simpa using hj), fun p hp => ?_⟩
  cases p
  case regs => simp at hp
  all_goals rfl

theorem State.only_with_sys (s : State) (y : SysSt) : s.only [] [.sys] { s with sys := y } := by
  refine ⟨fun _ _ => rfl, fun p hp => ?_⟩
  cases p
  case sys => simp at hp
  all_goals rfl

theorem State.only_with_intake (s : State) (q : List FaultMsg) (l : Tab (Option (List Word))) :
    s.only [] [.fltQ, .recLatch] { s with fltQ := q, recLatch := l } := by
  refine ⟨fun _ _ => rfl, fun p hp => ?_⟩
  cases p
  case fltQ | recLatch => simp at hp
  all_goals rfl

/-- The frame of a loop holds a frame that each of its passes keeps. -/
theorem State.only_each {α : Type} {os : List Nat} {ps : List Part} {f : State → α → State} {l : List α}
    (hf : ∀ (t : State), ∀ a ∈ l, t.only os ps (f t a)) (s : State) : s.only os ps (s.each l f) := by
  induction l generalizing s with
  | nil => exact s.only_refl _ _
  | cons a l ih => exact (hf s a (by simp)).trans (ih (fun t b hb => hf t b (by simp [hb])) _)

theorem State.get_each {α : Type} {g : Fld} {f : State → α → State} {l : List α}
    (hf : ∀ (t : State), ∀ a ∈ l, (f t a).get g = t.get g) (s : State) : (s.each l f).get g = s.get g := by
  induction l generalizing s with
  | nil => rfl
  | cons a l ih => exact (ih (fun t b hb => hf t b (by simp [hb])) _).trans (hf s a (by simp))

theorem State.getBit_setBit_same (s : State) {f : Fld} {i : Nat} (hf : f.lo + f.w ≤ 32) (hi : i < f.w) :
    (s.setBit f i).getBit f i = true := by
  rw [State.getBit, State.setBit, State.get_put_same _ _ _ hf]
  simp [hi]

/-! ### The reset-cause log (R86, R107) -/

/-- The registers of the reset-cause log. -/
def resetLog : List Nat := RSTC_LOG_HEAD :: (List.range 16).map RSTC_LOG_W0 ++ (List.range 16).map RSTC_LOG_W1

theorem RSTC_LOG_HEAD_mem : RSTC_LOG_HEAD ∈ resetLog := by decide

theorem RSTC_LOG_W0_mem {i : Nat} (h : i < 16) : RSTC_LOG_W0 i ∈ resetLog := by
  simp only [resetLog, List.cons_append, List.mem_cons, List.mem_append, List.mem_map, List.mem_range]
  exact .inr (.inl ⟨i, h, rfl⟩)

theorem RSTC_LOG_W1_mem {i : Nat} (h : i < 16) : RSTC_LOG_W1 i ∈ resetLog := by
  simp only [resetLog, List.cons_append, List.mem_cons, List.mem_append, List.mem_map, List.mem_range]
  exact .inr (.inr ⟨i, h, rfl⟩)

theorem blkOf_resetLog {o : Nat} (h : o ∈ resetLog) : blkOf o = 0x02 :=
  (show ∀ o ∈ resetLog, blkOf o = 0x02 by decide) o h

/-- From `s` to `t` nothing has changed but the reset-cause log and RSTC's own state. -/
abbrev State.onlyLog (s t : State) : Prop := s.only resetLog [.sys] t

namespace State.onlyLog

theorem refl (s : State) : s.onlyLog s := s.only_refl _ _

theorem wr {s t : State} (h : s.onlyLog t) {o : Nat} (ho : o ∈ resetLog) (v : Word) : s.onlyLog (t.wr o v) :=
  h.trans ((t.only_wr o v).mono (by simpa using ho) (List.nil_subset _))

theorem with_sys {s t : State} (h : s.onlyLog t) (y : SysSt) : s.onlyLog { t with sys := y } :=
  h.trans ((t.only_with_sys y).mono (List.nil_subset _) (List.Subset.refl _))

end State.onlyLog

theorem State.onlyLog_logReset (s : State) (code unit scope : Nat) (multi : Bool) (count : Nat) :
    s.onlyLog (s.logReset code unit scope multi count) := by
  have hi : s.get RSTC_LOG_HEAD_NEXT < 16 := s.get_lt RSTC_LOG_HEAD_NEXT
  have hclose : s.onlyLog (s.closeEntry (s.get RSTC_LOG_HEAD_NEXT)) := (State.onlyLog.refl s).with_sys _
  exact ((hclose.wr (RSTC_LOG_W0_mem hi) _).wr (RSTC_LOG_W1_mem hi) _).wr RSTC_LOG_HEAD_mem _

theorem State.onlyLog_logSwap (s : State) {i : Nat} (hi : i < 16) (u v : Nat) (x y : UnitSt) :
    s.onlyLog (s.logSwap i u v x y) := by
  have hj : (i + 15) % 16 < 16 := Nat.mod_lt _ (by decide)
  have hlater (a b : Word) : s.onlyLog ((s.wr (RSTC_LOG_W0 i) a).wr (RSTC_LOG_W1 i) b) :=
    ((State.onlyLog.refl s).wr (RSTC_LOG_W0_mem hi) a).wr (RSTC_LOG_W1_mem hi) b
  exact ((((hlater _ _).wr (RSTC_LOG_W0_mem hj) _).wr (RSTC_LOG_W1_mem hj) _).with_sys _).with_sys _

theorem State.onlyLog_logOrder (s : State) {i : Nat} (hi : i < 16) (u : Nat) (x : UnitSt) (fuel : Nat) :
    s.onlyLog (s.logOrder i u x fuel) := by
  induction fuel generalizing s i with
  | zero => exact .refl s
  | succ fuel ih =>
    rw [State.logOrder]
    split
    case h_1 v y _ =>
      split
      · exact (s.onlyLog_logSwap hi u v _ y).trans (ih _ (Nat.mod_lt _ (by decide)))
      · exact .refl s
    case h_2 => exact .refl s

/-- The state in which RSTC has logged the assertion of a UNIT reset and recorded its step (R86, R107). -/
def State.unitLogged (s : State) (u : Nat) (x : UnitSt) : State :=
  let i := s.get RSTC_LOG_HEAD_NEXT
  let y : UnitSt := { x with phase := 2, entry := i }
  ((s.logReset x.cause u 2 x.multi x.count).setUnit u (some y)).logOrder i u y 16

theorem State.onlyLog_unitLogged (s : State) (u : Nat) (x : UnitSt) : s.onlyLog (s.unitLogged u x) :=
  ((s.onlyLog_logReset ..).with_sys _).trans (State.onlyLog_logOrder _ (s.get_lt RSTC_LOG_HEAD_NEXT) ..)

theorem exec_unitIdleAck {s : State} {unit : BitVec 8} {x : UnitSt} (hx : s.unitOf unit.toNat = some x) (hp : x.phase = 1) :
    exec (.unitIdleAck unit) s = .next (s.unitAssert unit.toNat x) := by
  rw [show exec (.unitIdleAck unit) s = execUnitIdleAck unit s from rfl, execUnitIdleAck]
  simp only [hx, hp, if_true]

/-! ### The fault collector's part (R442) -/

/-- The registers that a UNIT reset of the fault collector writes. -/
abbrev fltResetRegs : List Nat := [FLT_STAT, FLT_INJ_W0, FLT_INJ_ADDR_LO, FLT_INJ_ADDR_HI]

/-- The fields of FLT_STAT that a UNIT reset of the fault collector clears. -/
abbrev fltResetFlags : List Fld := [FLT_STAT_REC_OVF, FLT_STAT_MSG_LOST, FLT_STAT_SAT]

theorem State.only_fltReset (s : State) : s.only fltResetRegs [.fltQ, .recLatch] s.fltReset := by
  have hflags : s.only fltResetRegs [] (s.each fltResetFlags fun s f => s.put f 0) :=
    State.only_each (fun t f hf => (t.only_put f 0).mono (by revert f; decide) (List.Subset.refl _)) s
  have hinj (t : State) : t.only fltResetRegs [] (t.each [FLT_INJ_W0, FLT_INJ_ADDR_LO, FLT_INJ_ADDR_HI] State.clr) :=
    State.only_each (fun t o ho => (t.only_wr o _).mono (by revert o; decide) (List.Subset.refl _)) t
  exact ((hflags.trans (hinj _)).mono (List.Subset.refl _) (List.nil_subset _)).trans
    ((State.only_with_intake _ [] []).mono (List.nil_subset _) (List.Subset.refl _))

/-- A field of FLT_STAT apart from the flags that are cleared stands. -/
theorem State.get_fltReset (s : State) {g : Fld} (hoff : g.off = FLT_STAT) (hw : g.lo + g.w ≤ 32)
    (hg : ∀ f ∈ fltResetFlags, g.lo + g.w ≤ f.lo ∨ f.lo + f.w ≤ g.lo) : s.fltReset.get g = s.get g := by
  have hflags : (s.each fltResetFlags fun s f => s.put f 0).get g = s.get g :=
    State.get_each (fun t f hf => t.get_put_disj f g 0 hw (hg f hf)) s
  have hinj (t : State) : (t.each [FLT_INJ_W0, FLT_INJ_ADDR_LO, FLT_INJ_ADDR_HI] State.clr).get g = t.get g :=
    State.get_each (fun t o ho => t.get_wr_ne g _ (by rw [hoff]; revert o; decide)) t
  exact (hinj _).trans hflags

theorem State.unitAssert_flt (s : State) (x : UnitSt) :
    s.unitAssert 0x05 x = (s.unitLogged 0x05 x).fltReset.setBit RSTC_INRST_BLK 0x05 := rfl

/-- All that the assertion of its UNIT reset changes of the fault collector, and what it changes of RSTC. -/
theorem State.only_unitAssert_flt (s : State) (x : UnitSt) :
    s.only (resetLog ++ RSTC_INRST :: fltResetRegs) [.sys, .fltQ, .recLatch] (s.unitAssert 0x05 x) := by
  rw [s.unitAssert_flt x]
  exact (((s.onlyLog_unitLogged 0x05 x).mono (List.subset_append_left ..) (by simp)).trans
    ((State.only_fltReset _).mono (by simp) (by simp))).trans
    ((State.only_put _ RSTC_INRST_BLK _).mono (by simp [RSTC_INRST_BLK]) (List.nil_subset _))

/-- A register of the fault collector's block that its reset does not write is not among those the assertion changes. -/
theorem notMem_unitAssert_flt {o : Nat} (hblk : blkOf o = 0x05) (ho : o ∉ fltResetRegs) :
    o ∉ resetLog ++ RSTC_INRST :: fltResetRegs := by
  rw [List.mem_append, List.mem_cons]
  rintro (hlog | rfl | hflt)
  · rw [blkOf_resetLog hlog] at hblk
    exact absurd hblk (by decide)
  · exact absurd hblk (by decide)
  · exact ho hflt

theorem State.inReset_of_inrst {s : State} {u : Nat} (h40 : u ≠ 0x40) (h41 : u ≠ 0x41)
    (h : s.getBit RSTC_INRST_BLK u = true) : s.inReset u = true := by
  rw [State.inReset, if_neg h40, if_neg h41, h, Bool.or_true]

theorem State.inReset_unitAssert_flt (s : State) (x : UnitSt) : (s.unitAssert 0x05 x).inReset 0x05 = true := by
  rw [s.unitAssert_flt x]
  exact State.inReset_of_inrst (by decide) (by decide) (State.getBit_setBit_same _ (by decide) (by decide))

theorem State.fltQ_unitAssert_flt (s : State) (x : UnitSt) : (s.unitAssert 0x05 x).fltQ = [] := rfl

/-- A field of FLT_STAT apart from the flags that are cleared stands through the assertion. -/
theorem State.get_unitAssert_flt (s : State) (x : UnitSt) {g : Fld} (hoff : g.off = FLT_STAT) (hw : g.lo + g.w ≤ 32)
    (hg : ∀ f ∈ fltResetFlags, g.lo + g.w ≤ f.lo ∨ f.lo + f.w ≤ g.lo) : (s.unitAssert 0x05 x).get g = s.get g :=
  calc (s.unitAssert 0x05 x).get g
    _ = ((s.unitLogged 0x05 x).fltReset.setBit RSTC_INRST_BLK 0x05).get g := by rw [s.unitAssert_flt x]
    _ = (s.unitLogged 0x05 x).fltReset.get g := State.get_put_ne _ RSTC_INRST_BLK g _ (by rw [hoff]; decide)
    _ = (s.unitLogged 0x05 x).get g := State.get_fltReset _ hoff hw hg
    _ = s.get g := (s.onlyLog_unitLogged 0x05 x).get_eq (by rw [hoff]; decide)

/-- A message to a fault collector in reset is lost and not counted (R442). -/
theorem State.faultMsg_of_inrst {s : State} (m : FaultMsg) (h : s.getBit RSTC_INRST_BLK 0x05 = true) : s.faultMsg m = s :=
  if_pos (.inr h)

/-- Settles O46: a message by `State.faultMsg_of_inrst`; the assertion by its frame, `State.only_unitAssert_flt`, and within
FLT_STAT by the fields that `State.fltReset` leaves. -/
theorem faultCollectorReset : Obligations.FaultCollectorReset := by
  refine ⟨fun m s h => State.faultMsg_of_inrst m h, fun x s hx hp => ?_⟩
  obtain ⟨hregs, hparts⟩ := s.only_unitAssert_flt x
  have hkept (o : Nat) (hblk : blkOf o = 0x05) (ho : o ∉ fltResetRegs) : (s.unitAssert 0x05 x).rd o = s.rd o :=
    hregs o (notMem_unitAssert_flt hblk ho)
  have horphan := s.get_unitAssert_flt x (g := FLT_STAT_FN_ORPHAN) rfl (by decide) (by decide)
  have hsafe := s.get_unitAssert_flt x (g := FLT_STAT_SAFE) rfl (by decide) (by decide)
  exact ⟨_, exec_unitIdleAck hx hp, s.inReset_unitAssert_flt x, s.fltQ_unitAssert_flt x, hkept, horphan, hsafe,
    hparts .live (by decide)⟩

end Sys2Proof.Machine

/-! Every command answers a next state, every step keeps the invariant, and the state after power-on (R83, R84). -/
namespace Sys2Proof.Machine

set_option Elab.async false

/-! ### Every step completes -/

/-- The meanings whose definitions branch answer a next state in every branch; the others are one. -/
theorem exec_next (i : Instr) (s : State) : ∃ t, exec i s = .next t := by
  cases i <;> simp only [exec,
    execMainStoreAccess, execAtomicOperation, execEccWriteback, execAgePromotion, execArbHoldCutoff,
    execPartitionZeroingDone, execDmaBurst, execDmaDone, execConsistencyCheckDone, execApply, execArmTimeout,
    execPrepare, execGo, execCfgAbortMsg, execGuardExpiry, execFrameOriginate, execSchedStale, execCallRx,
    execFloorChange, execCensusTimeout, execBeaconRx, execNoteRx, execRspTimeout, execFabricResponseRx, execMarkRx,
    execDrainTimeout, execFwdFenceDone, execFwdFenceTimeout, execRingLoss, execWrapDone, execBreakRepeat, execBreakRx,
    execRestoreRx, execBreakRecordExpiry, execGapWindowClose, execReturnHoldExpiry, execUnwrapHoldEnd,
    execAnchorInChange, execClaimConfirm, execYieldSettle, execYieldedTimeout, execSecondClaimDelay, execBeatTx,
    execBeatRx, execBeatLost, execTwinStuck, execRevertHoldoffExpiry, execRevertRequestEnd, execOverlapEnd, execSyncRx,
    execPdelayReqRx, execPdelayRespRx, execPtpMessageRx, execRefSwitch, execRefRevert, execPpsOutRise, execPpsOutFall,
    execPpsLost, execMcgEdge, execDeadlineLog, execGroupTimedFire, execFlushTakeEffect, execLocConsumerTake,
    execCredTo, execActionQueueDrain, execCanIntegrated, execCanFrameRx, execCanArbitration, execCanTxEnd,
    execCanError, execCanRecovered, execFenceComplete, execSemExpired, execCoalesceTimeout, execLineWindowChange,
    execInsDlyExpiry, execDetectionDue, execDetectionDone, execRampDone, execRampTimeout, execFastTrip,
    execFaultTimerExpiry, execOffTimeEnd, execFetShort, execPgBlankEnd, execFailsClear, execLpwMeasure,
    execLpwApplyTake, execSeqStart, execSeqStep, execRailTimeout, execSeqRetry, execLpRail, execUpdCommandEnd,
    execProofStepEnd, execMbistDone, execCurrentLimit, execGateVoltageLow, execRecoveryOccurrence, execStackNodeRx]
  all_goals repeat' split
  all_goals exact ⟨_, rfl⟩

theorem State.Inv.with_pending {s : State} (h : s.Inv) (p : List Instr) : State.Inv { s with pending := p } :=
  ⟨h.regs, h.live, h.mem, h.biv, h.flash, h.fltQ, h.dlQ⟩

/-- What every command keeps of the state, from its footprint. -/
theorem exec_keeps (c : Instr) (s : State) : ∃ t, exec c s = .next t ∧ t.pending = s.pending ∧ (s.Inv → t.Inv) := by
  obtain ⟨t, ht⟩ := exec_next c s
  have hfoot := exec_foot c s t ht
  exact ⟨t, ht, hfoot.pending, hfoot.inv⟩

/-- Settles O1: the front of the queue is the command that `step` runs. -/
theorem stepRunsFront : Obligations.StepRunsFront := fun _ _ _ => rfl

/-- Settles O2: by whether a command waits; a command by `exec_keeps`, an idle cycle by its footprint. -/
theorem everyStepCompletes : Obligations.EveryStepCompletes := by
  refine ⟨fun s hs => ?_, exec_keeps⟩
  cases hp : s.pending with
  | nil =>
    have hidle := idle_foot s
    exact ⟨s.tick, by simp only [step, hp], hidle.inv hs, by rw [hidle.pending, hp, List.tail_nil]⟩
  | cons c rest =>
    obtain ⟨t, ht, hpend, hinv⟩ := exec_keeps c { s with pending := rest }
    exact ⟨t, by simp only [step, hp, ht], hinv (hs.with_pending rest), hpend⟩

/-! ### The state after power-on -/

theorem State.rd_reset {o : Nat} (h : o ≠ 0x20080) : State.reset.rd o = regReset o := if_neg (Ne.symm h)

/-- Settles O3: each field by evaluation, each register by `State.rd_reset`. -/
theorem resetState : Obligations.ResetState := by
  refine ⟨⟨by decide, rfl, rfl, rfl, rfl, by decide, by decide⟩, rfl, rfl, rfl, by decide, by decide, by decide, by decide, by decide,
    by decide, by decide, by decide, by decide, by decide, fun o ho => State.rd_reset ho, fun _ => rfl, fun _ => rfl, by decide⟩

end Sys2Proof.Machine

/-! The calculus of frames: what an operation leaves of the registers and of the parts of the state, one update at a time. -/
namespace Sys2Proof.Machine

set_option Elab.async false

/-! ### Footprints as frames -/

/-- The bit of a part in the masks of `Foot`; the queue of commands has none. -/
def Part.bit : Part → Nat
  | .regs => 0 | .live => 1 | .mem => 2 | .store => 3 | .fwd => 4 | .lane => 5 | .rpe => 6 | .red => 7 | .gg => 8 | .sq => 9
  | .time => 10 | .lsv => 11 | .mb => 12 | .fab => 13 | .hbr => 14 | .dma => 15 | .lpw => 16 | .upd => 17 | .tst => 18
  | .cfg => 19 | .biv => 20 | .sys => 21 | .resp => 22 | .fltQ => 23 | .recLatch => 24 | .grpT0 => 25 | .seenP => 26
  | .lpwRawHeld => 27 | .d2dLost => 28 | .pending => 29

/-- The parts, in the order of their bits. -/
def allParts : List Part :=
  [.regs, .live, .mem, .store, .fwd, .lane, .rpe, .red, .gg, .sq, .time, .lsv, .mb, .fab, .hbr, .dma, .lpw, .upd, .tst, .cfg,
    .biv, .sys, .resp, .fltQ, .recLatch, .grpT0, .seenP, .lpwRawHeld, .d2dLost]

/-- Every part of a footprint's mask is in a list. -/
def covers (m : Nat) (ps : List Part) : Bool := allParts.all fun p => !m.testBit p.bit || ps.contains p

theorem testBit_of_covers {m : Nat} {ps : List Part} (h : covers m ps = true) {p : Part} (hp : p ∉ ps) (hq : p ∈ allParts) :
    m.testBit p.bit = false := by
  have hall := List.all_eq_true.1 h p hq
  simpa [hp] using hall

/-- A footprint leaves the parts outside its mask. -/
theorem Foot.parts {m : Nat} {s t : State} (h : Foot m s t) {ps : List Part} (hc : covers m ps = true) : s.parts ps t := by
  intro p hp
  have hbit (hq : p ∈ allParts) := testBit_of_covers hc hp hq
  cases p with
  | pending => exact h.pending
  | regs => exact h.regs (hbit (by decide))
  | live => exact h.live (hbit (by decide))
  | mem => exact h.mem (hbit (by decide))
  | store => exact h.store (hbit (by decide))
  | fwd => exact h.fwd (hbit (by decide))
  | lane => exact h.lane (hbit (by decide))
  | rpe => exact h.rpe (hbit (by decide))
  | red => exact h.red (hbit (by decide))
  | gg => exact h.gg (hbit (by decide))
  | sq => exact h.sq (hbit (by decide))
  | time => exact h.time (hbit (by decide))
  | lsv => exact h.lsv (hbit (by decide))
  | mb => exact h.mb (hbit (by decide))
  | fab => exact h.fab (hbit (by decide))
  | hbr => exact h.hbr (hbit (by decide))
  | dma => exact h.dma (hbit (by decide))
  | lpw => exact h.lpw (hbit (by decide))
  | upd => exact h.upd (hbit (by decide))
  | tst => exact h.tst (hbit (by decide))
  | cfg => exact h.cfg (hbit (by decide))
  | biv => exact h.biv (hbit (by decide))
  | sys => exact h.sys (hbit (by decide))
  | resp => exact h.resp (hbit (by decide))
  | fltQ => exact h.fltQ (hbit (by decide))
  | recLatch => exact h.recLatch (hbit (by decide))
  | grpT0 => exact h.grpT0 (hbit (by decide))
  | seenP => exact h.seenP (hbit (by decide))
  | lpwRawHeld => exact h.lpwRawHeld (hbit (by decide))
  | d2dLost => exact h.d2dLost (hbit (by decide))

theorem State.rd_congr {s t : State} (h : t.regs = s.regs) (o : Nat) : t.rd o = s.rd o := by rw [State.rd, h, State.rd]

/-- A footprint without registers is a frame. -/
theorem Foot.only {m : Nat} {s t : State} (h : Foot m s t) {ps : List Part} (hc : covers m ps = true) (hm : m.testBit 0 = false)
    (os : List Nat) : s.only os ps t :=
  ⟨fun o _ => State.rd_congr (h.regs hm) o, fun p hp => h.parts hc p fun hq => hp (List.mem_cons_of_mem _ hq)⟩

/-! ### One part replaced -/

theorem State.only_with_live (s : State) (y : Tab Nat) : s.only [] [.live] { s with live := y } := by
  refine ⟨fun _ _ => rfl, fun p hp => ?_⟩
  cases p
  case live => simp at hp
  all_goals rfl

theorem State.only_with_mem (s : State) (y : List Host.Cell) : s.only [] [.mem] { s with mem := y } := by
  refine ⟨fun _ _ => rfl, fun p hp => ?_⟩
  cases p
  case mem => simp at hp
  all_goals rfl

theorem State.only_with_store (s : State) (y : StoreSt) : s.only [] [.store] { s with store := y } := by
  refine ⟨fun _ _ => rfl, fun p hp => ?_⟩
  cases p
  case store => simp at hp
  all_goals rfl

theorem State.only_with_fwd (s : State) (y : FwdSt) : s.only [] [.fwd] { s with fwd := y } := by
  refine ⟨fun _ _ => rfl, fun p hp => ?_⟩
  cases p
  case fwd => simp at hp
  all_goals rfl

theorem State.only_with_lane (s : State) (y : Tab LaneSt) : s.only [] [.lane] { s with lane := y } := by
  refine ⟨fun _ _ => rfl, fun p hp => ?_⟩
  cases p
  case lane => simp at hp
  all_goals rfl

theorem State.only_with_rpe (s : State) (y : RpeSt) : s.only [] [.rpe] { s with rpe := y } := by
  refine ⟨fun _ _ => rfl, fun p hp => ?_⟩
  cases p
  case rpe => simp at hp
  all_goals rfl

theorem State.only_with_red (s : State) (y : RedSt) : s.only [] [.red] { s with red := y } := by
  refine ⟨fun _ _ => rfl, fun p hp => ?_⟩
  cases p
  case red => simp at hp
  all_goals rfl

theorem State.only_with_sq (s : State) (y : Tab Sq) : s.only [] [.sq] { s with sq := y } := by
  refine ⟨fun _ _ => rfl, fun p hp => ?_⟩
  cases p
  case sq => simp at hp
  all_goals rfl

theorem State.only_with_time (s : State) (y : TimeSt) : s.only [] [.time] { s with time := y } := by
  refine ⟨fun _ _ => rfl, fun p hp => ?_⟩
  cases p
  case time => simp at hp
  all_goals rfl

theorem State.only_with_lsv (s : State) (y : LsvSt) : s.only [] [.lsv] { s with lsv := y } := by
  refine ⟨fun _ _ => rfl, fun p hp => ?_⟩
  cases p
  case lsv => simp at hp
  all_goals rfl

theorem State.only_with_mb (s : State) (y : Tab MbSt) : s.only [] [.mb] { s with mb := y } := by
  refine ⟨fun _ _ => rfl, fun p hp => ?_⟩
  cases p
  case mb => simp at hp
  all_goals rfl

theorem State.only_with_fab (s : State) (y : FabSt) : s.only [] [.fab] { s with fab := y } := by
  refine ⟨fun _ _ => rfl, fun p hp => ?_⟩
  cases p
  case fab => simp at hp
  all_goals rfl

theorem State.only_with_hbr (s : State) (y : HbrSt) : s.only [] [.hbr] { s with hbr := y } := by
  refine ⟨fun _ _ => rfl, fun p hp => ?_⟩
  cases p
  case hbr => simp at hp
  all_goals rfl

theorem State.only_with_dma (s : State) (y : Tab DmaSt) : s.only [] [.dma] { s with dma := y } := by
  refine ⟨fun _ _ => rfl, fun p hp => ?_⟩
  cases p
  case dma => simp at hp
  all_goals rfl

theorem State.only_with_lpw (s : State) (y : LpwSt) : s.only [] [.lpw] { s with lpw := y } := by
  refine ⟨fun _ _ => rfl, fun p hp => ?_⟩
  cases p
  case lpw => simp at hp
  all_goals rfl

theorem State.only_with_upd (s : State) (y : UpdSt) : s.only [] [.upd] { s with upd := y } := by
  refine ⟨fun _ _ => rfl, fun p hp => ?_⟩
  cases p
  case upd => simp at hp
  all_goals rfl

theorem State.only_with_tst (s : State) (y : TstSt) : s.only [] [.tst] { s with tst := y } := by
  refine ⟨fun _ _ => rfl, fun p hp => ?_⟩
  cases p
  case tst => simp at hp
  all_goals rfl

theorem State.only_with_cfg (s : State) (y : CfgSt) : s.only [] [.cfg] { s with cfg := y } := by
  refine ⟨fun _ _ => rfl, fun p hp => ?_⟩
  cases p
  case cfg => simp at hp
  all_goals rfl

theorem State.only_with_biv (s : State) (y : BivSt) : s.only [] [.biv] { s with biv := y } := by
  refine ⟨fun _ _ => rfl, fun p hp => ?_⟩
  cases p
  case biv => simp at hp
  all_goals rfl

theorem State.only_with_fltQ (s : State) (y : List FaultMsg) : s.only [] [.fltQ] { s with fltQ := y } := by
  refine ⟨fun _ _ => rfl, fun p hp => ?_⟩
  cases p
  case fltQ => simp at hp
  all_goals rfl

theorem State.only_with_recLatch (s : State) (y : Tab (Option (List Word))) : s.only [] [.recLatch] { s with recLatch := y } := by
  refine ⟨fun _ _ => rfl, fun p hp => ?_⟩
  cases p
  case recLatch => simp at hp
  all_goals rfl

theorem State.only_with_grpT0 (s : State) (y : Tab Nat) : s.only [] [.grpT0] { s with grpT0 := y } := by
  refine ⟨fun _ _ => rfl, fun p hp => ?_⟩
  cases p
  case grpT0 => simp at hp
  all_goals rfl

theorem State.only_with_seenP (s : State) (y : Tab Nat) : s.only [] [.seenP] { s with seenP := y } := by
  refine ⟨fun _ _ => rfl, fun p hp => ?_⟩
  cases p
  case seenP => simp at hp
  all_goals rfl

/-! ### Frames grow by one update -/

namespace State.only

variable {s t u : State} {os : List Nat} {ps : List Part}

theorem with_live (h : s.only os ps t) (y : Tab Nat) (hp : .live ∈ ps) : s.only os ps { t with live := y } :=
  h.trans ((t.only_with_live y).mono (List.nil_subset _) (by simpa using hp))

theorem with_mem (h : s.only os ps t) (y : List Host.Cell) (hp : .mem ∈ ps) : s.only os ps { t with mem := y } :=
  h.trans ((t.only_with_mem y).mono (List.nil_subset _) (by simpa using hp))

theorem with_store (h : s.only os ps t) (y : StoreSt) (hp : .store ∈ ps) : s.only os ps { t with store := y } :=
  h.trans ((t.only_with_store y).mono (List.nil_subset _) (by simpa using hp))

theorem with_fwd (h : s.only os ps t) (y : FwdSt) (hp : .fwd ∈ ps) : s.only os ps { t with fwd := y } :=
  h.trans ((t.only_with_fwd y).mono (List.nil_subset _) (by simpa using hp))

theorem with_lane (h : s.only os ps t) (y : Tab LaneSt) (hp : .lane ∈ ps) : s.only os ps { t with lane := y } :=
  h.trans ((t.only_with_lane y).mono (List.nil_subset _) (by simpa using hp))

theorem with_rpe (h : s.only os ps t) (y : RpeSt) (hp : .rpe ∈ ps) : s.only os ps { t with rpe := y } :=
  h.trans ((t.only_with_rpe y).mono (List.nil_subset _) (by simpa using hp))

theorem with_red (h : s.only os ps t) (y : RedSt) (hp : .red ∈ ps) : s.only os ps { t with red := y } :=
  h.trans ((t.only_with_red y).mono (List.nil_subset _) (by simpa using hp))

theorem with_sq (h : s.only os ps t) (y : Tab Sq) (hp : .sq ∈ ps) : s.only os ps { t with sq := y } :=
  h.trans ((t.only_with_sq y).mono (List.nil_subset _) (by simpa using hp))

theorem with_time (h : s.only os ps t) (y : TimeSt) (hp : .time ∈ ps) : s.only os ps { t with time := y } :=
  h.trans ((t.only_with_time y).mono (List.nil_subset _) (by simpa using hp))

theorem with_lsv (h : s.only os ps t) (y : LsvSt) (hp : .lsv ∈ ps) : s.only os ps { t with lsv := y } :=
  h.trans ((t.only_with_lsv y).mono (List.nil_subset _) (by simpa using hp))

theorem with_mb (h : s.only os ps t) (y : Tab MbSt) (hp : .mb ∈ ps) : s.only os ps { t with mb := y } :=
  h.trans ((t.only_with_mb y).mono (List.nil_subset _) (by simpa using hp))

theorem with_fab (h : s.only os ps t) (y : FabSt) (hp : .fab ∈ ps) : s.only os ps { t with fab := y } :=
  h.trans ((t.only_with_fab y).mono (List.nil_subset _) (by simpa using hp))

theorem with_hbr (h : s.only os ps t) (y : HbrSt) (hp : .hbr ∈ ps) : s.only os ps { t with hbr := y } :=
  h.trans ((t.only_with_hbr y).mono (List.nil_subset _) (by simpa using hp))

theorem with_dma (h : s.only os ps t) (y : Tab DmaSt) (hp : .dma ∈ ps) : s.only os ps { t with dma := y } :=
  h.trans ((t.only_with_dma y).mono (List.nil_subset _) (by simpa using hp))

theorem with_lpw (h : s.only os ps t) (y : LpwSt) (hp : .lpw ∈ ps) : s.only os ps { t with lpw := y } :=
  h.trans ((t.only_with_lpw y).mono (List.nil_subset _) (by simpa using hp))

theorem with_upd (h : s.only os ps t) (y : UpdSt) (hp : .upd ∈ ps) : s.only os ps { t with upd := y } :=
  h.trans ((t.only_with_upd y).mono (List.nil_subset _) (by simpa using hp))

theorem with_tst (h : s.only os ps t) (y : TstSt) (hp : .tst ∈ ps) : s.only os ps { t with tst := y } :=
  h.trans ((t.only_with_tst y).mono (List.nil_subset _) (by simpa using hp))

theorem with_cfg (h : s.only os ps t) (y : CfgSt) (hp : .cfg ∈ ps) : s.only os ps { t with cfg := y } :=
  h.trans ((t.only_with_cfg y).mono (List.nil_subset _) (by simpa using hp))

theorem with_biv (h : s.only os ps t) (y : BivSt) (hp : .biv ∈ ps) : s.only os ps { t with biv := y } :=
  h.trans ((t.only_with_biv y).mono (List.nil_subset _) (by simpa using hp))

theorem with_fltQ (h : s.only os ps t) (y : List FaultMsg) (hp : .fltQ ∈ ps) : s.only os ps { t with fltQ := y } :=
  h.trans ((t.only_with_fltQ y).mono (List.nil_subset _) (by simpa using hp))

theorem with_recLatch (h : s.only os ps t) (y : Tab (Option (List Word))) (hp : .recLatch ∈ ps) : s.only os ps { t with recLatch := y } :=
  h.trans ((t.only_with_recLatch y).mono (List.nil_subset _) (by simpa using hp))

theorem with_grpT0 (h : s.only os ps t) (y : Tab Nat) (hp : .grpT0 ∈ ps) : s.only os ps { t with grpT0 := y } :=
  h.trans ((t.only_with_grpT0 y).mono (List.nil_subset _) (by simpa using hp))

theorem with_seenP (h : s.only os ps t) (y : Tab Nat) (hp : .seenP ∈ ps) : s.only os ps { t with seenP := y } :=
  h.trans ((t.only_with_seenP y).mono (List.nil_subset _) (by simpa using hp))

theorem with_sys (h : s.only os ps t) (y : SysSt) (hp : .sys ∈ ps) : s.only os ps { t with sys := y } :=
  h.trans ((t.only_with_sys y).mono (List.nil_subset _) (by simpa using hp))

theorem with_gg (h : s.only os ps t) (y : GgSt) (hp : .gg ∈ ps) : s.only os ps { t with gg := y } :=
  h.trans ((t.only_with_gg y).mono (List.nil_subset _) (by simpa using hp))

/-- After a frame, an operation whose footprint has no registers. -/
theorem foot0 {m : Nat} (h : s.only os ps t) (k : Foot m t u) (hc : covers m ps = true) (hm : m.testBit 0 = false) :
    s.only os ps u := h.trans (k.only hc hm os)

theorem wr (h : s.only os ps t) {o : Nat} (v : Word) (ho : o ∈ os) : s.only os ps (t.wr o v) :=
  h.trans ((t.only_wr o v).mono (by simpa using ho) (List.nil_subset _))

theorem put (h : s.only os ps t) {f : Fld} (v : Nat) (ho : f.off ∈ os) : s.only os ps (t.put f v) := h.wr _ ho

theorem setBit (h : s.only os ps t) {f : Fld} (i : Nat) (ho : f.off ∈ os) : s.only os ps (t.setBit f i) := h.wr _ ho

theorem clrBit (h : s.only os ps t) {f : Fld} (i : Nat) (ho : f.off ∈ os) : s.only os ps (t.clrBit f i) := h.wr _ ho

theorem satAdd (h : s.only os ps t) {f : Fld} (n : Nat) (ho : f.off ∈ os) : s.only os ps (t.satAdd f n) := h.wr _ ho

theorem wrapAdd (h : s.only os ps t) {f : Fld} (n : Nat) (ho : f.off ∈ os) : s.only os ps (t.wrapAdd f n) := h.wr _ ho

theorem wr64 (h : s.only os ps t) {o : Nat} (v : Nat) (ho : o ∈ os) (ho4 : o + 4 ∈ os) : s.only os ps (t.wr64 o v) :=
  (h.wr _ ho).wr _ ho4

theorem each {α : Type} {f : State → α → State} {l : List α} (h : s.only os ps t)
    (hf : ∀ (t : State), ∀ a ∈ l, t.only os ps (f t a)) : s.only os ps (t.each l f) := h.trans (State.only_each hf t)

theorem when {c : Bool} {f : State → State} (h : s.only os ps t) (hf : t.only os ps (f t)) : s.only os ps (t.when c f) := by
  cases c
  · exact h
  · exact h.trans hf

theorem answer (h : s.only os ps t) (r st d : Nat) (hp : .resp ∈ ps) : s.only os ps (t.answer r st d) :=
  h.trans ((t.only_answer r st d).mono (List.nil_subset _) (by simpa using hp))

/-- A fault message of a collector with room (R441). -/
theorem fault (h : s.only os ps t) (hr : t.roomy) (src kind addr : Nat) (hp : .fltQ ∈ ps) :
    s.only os ps (t.fault src kind addr) :=
  h.trans ((hr.only_fault src kind addr).mono (List.nil_subset _) (by simpa using hp))

/-- A register outside the frame. -/
theorem rd64_eq (h : s.only os ps t) {o : Nat} (ho : o ∉ os) (ho4 : o + 4 ∉ os) : t.rd64 o = s.rd64 o := by
  rw [State.rd64, h.1 _ ho, h.1 _ ho4, State.rd64]

theorem part (h : s.only os ps t) (p : Part) (hp : p ∉ .regs :: ps) : p.same s t := h.2 p hp

end State.only

/-! ### Counters (R56) -/

/-- A count of a group's counter changes at most the register that holds the group's SAT. -/
theorem State.only_count (s : State) (o n : Nat) {os : List Nat} {ps : List Part} (hl : .live ∈ ps)
    (ho : ∀ f, satField o = some f → f.off ∈ os ∧ (f = LPW_STAT_SAT → LPW_EVT ∈ os)) : s.only os ps (s.count o n) := by
  have hset (v : Nat) : s.only os ps (s.setCnt o v) :=
    (s.only_refl _ _).foot0 (s.setCnt_foot o v) (m := 2) (by
      simp only [covers, allParts, List.all_cons, List.all_nil, Part.bit]; simp [hl, Nat.testBit]) rfl
  rw [State.count]
  dsimp only
  split
  · cases hf : satField o with
    | none => exact hset _
    | some f =>
      obtain ⟨hoff, hlpw⟩ := ho f hf
      dsimp only
      split
      · next h => exact ((hset _).put 1 hoff).put 1 (hlpw h)
      · exact (hset _).put 1 hoff
  · exact hset _

end Sys2Proof.Machine

/-! The calculus of values: what a field, a bit or a counter reads after the operations every block shares. -/
namespace Sys2Proof.Machine

set_option Elab.async false

/-! ### Fields -/

/-- A field lies within its register. -/
def Fld.fits (f : Fld) : Bool := decide (f.lo + f.w ≤ 32)

/-- A field shares no bit with another. -/
def Fld.apart (g f : Fld) : Bool :=
  g.fits && (decide (g.lo + g.w ≤ f.lo) || (decide (f.lo + f.w ≤ g.lo) || decide (g.off ≠ f.off)))

theorem Fld.apart_of_off {g f : Fld} (hg : g.fits = true) (h : g.off ≠ f.off) : g.apart f = true := by
  simp [Fld.apart, hg, h]

theorem State.get_put_apart (s : State) {f g : Fld} (v : Nat) (h : g.apart f = true) : (s.put f v).get g = s.get g := by
  simp only [Fld.apart, Fld.fits, Bool.and_eq_true, Bool.or_eq_true, decide_eq_true_eq] at h
  obtain ⟨hg, h | h | h⟩ := h
  · exact s.get_put_disj f g v hg (.inl h)
  · exact s.get_put_disj f g v hg (.inr h)
  · exact s.get_put_ne f g v h

/-- A field reads back a value that it can hold. -/
theorem State.get_put_self (s : State) {f : Fld} {v : Nat} (hf : f.fits = true) (hv : v < 2 ^ f.w) : (s.put f v).get f = v := by
  rw [State.get_put_same _ _ _ (of_decide_eq_true hf), Nat.mod_eq_of_lt hv]

theorem State.get_wrapAdd_self (s : State) {f : Fld} (n : Nat) (hf : f.fits = true) :
    (s.wrapAdd f n).get f = (s.get f + n) % 2 ^ f.w := State.get_put_same _ _ _ (of_decide_eq_true hf)

theorem State.get_satAdd_self (s : State) {f : Fld} (n : Nat) (hf : f.fits = true) :
    (s.satAdd f n).get f = min (s.get f + n) (2 ^ f.w - 1) := by
  rw [State.satAdd, State.get_put_same _ _ _ (of_decide_eq_true hf), Nat.mod_eq_of_lt]
  have := Nat.two_pow_pos f.w
  omega

theorem State.get_congr {s t : State} {f : Fld} (h : t.rd f.off = s.rd f.off) : t.get f = s.get f := by
  rw [State.get, h, State.get]

theorem State.on_congr {s t : State} {f : Fld} (h : t.rd f.off = s.rd f.off) : t.on f = s.on f := by
  rw [State.on, State.get_congr h, State.on]

theorem State.getBit_setBit (s : State) {f : Fld} {i : Nat} (j : Nat) (hf : f.fits = true) (hi : i < f.w) :
    (s.setBit f i).getBit f j = (decide (j = i) || s.getBit f j) := by
  have hlt : s.get f < 2 ^ f.w := s.get_lt f
  have hor : s.get f ||| 2 ^ i < 2 ^ f.w := Nat.or_lt_two_pow hlt (Nat.pow_lt_pow_right (by decide) hi)
  rw [State.getBit, State.setBit, State.get_put_self _ hf hor, Nat.testBit_or, Nat.testBit_two_pow, State.getBit, Bool.or_comm]
  simp [eq_comm]

/-- Taking the power of a bit that is set away clears the bit. -/
theorem testBit_sub_two_pow {x i : Nat} (h : x.testBit i = true) : (x - 2 ^ i).testBit i = false := by
  obtain ⟨y, rfl⟩ : ∃ y, x = 2 ^ i + y := ⟨x - 2 ^ i, by have := Nat.ge_two_pow_of_testBit h; omega⟩
  rw [Nat.testBit_two_pow_add_eq] at h
  simpa using h

theorem State.getBit_clrBit (s : State) {f : Fld} (i : Nat) (hf : f.fits = true) : (s.clrBit f i).getBit f i = false := by
  have hlt : s.get f < 2 ^ f.w := s.get_lt f
  have hval : (if (s.get f).testBit i then s.get f - 2 ^ i else s.get f) < 2 ^ f.w :=
    lt_of_le_of_lt (by split; exacts [Nat.sub_le .., le_rfl]) hlt
  rw [State.getBit, State.clrBit, State.get_put_self _ hf hval]
  split
  · next h => exact testBit_sub_two_pow h
  · next h => simpa using h

/-- Taking the power of a bit that is set away leaves the other bits. -/
theorem testBit_sub_two_pow_ne {x i j : Nat} (h : x.testBit i = true) (hj : j ≠ i) : (x - 2 ^ i).testBit j = x.testBit j := by
  obtain ⟨y, rfl⟩ : ∃ y, x = 2 ^ i + y := ⟨x - 2 ^ i, by have := Nat.ge_two_pow_of_testBit h; omega⟩
  have hy : y.testBit i = false := by simpa [Nat.testBit_two_pow_add_eq] using h
  rw [Nat.add_sub_cancel_left]
  obtain hlt | hgt := Nat.lt_or_gt_of_ne hj
  · exact (Nat.testBit_two_pow_add_gt hlt y).symm
  · obtain ⟨k, rfl⟩ : ∃ k, j = k + (i + 1) := ⟨j - (i + 1), by omega⟩
    rw [Nat.testBit_eq_decide_div_mod_eq, decide_eq_false_iff_not] at hy
    have hdiv : (2 ^ i + y) / 2 ^ (i + 1) = y / 2 ^ (i + 1) := by
      rw [Nat.pow_succ, ← Nat.div_div_eq_div_mul, ← Nat.div_div_eq_div_mul, Nat.add_div_left _ (Nat.two_pow_pos i)]
      omega
    rw [← Nat.testBit_div_two_pow, ← Nat.testBit_div_two_pow, hdiv]

/-- A bit of a field after another one is cleared. -/
theorem State.getBit_clrBit_ne (s : State) {f : Fld} {i j : Nat} (hf : f.fits = true) (h : j ≠ i) :
    (s.clrBit f i).getBit f j = s.getBit f j := by
  have hlt : s.get f < 2 ^ f.w := s.get_lt f
  have hval : (if (s.get f).testBit i then s.get f - 2 ^ i else s.get f) < 2 ^ f.w :=
    lt_of_le_of_lt (by split; exacts [Nat.sub_le .., le_rfl]) hlt
  rw [State.getBit, State.clrBit, State.get_put_self _ hf hval, State.getBit]
  split
  · next hi => exact testBit_sub_two_pow_ne hi h
  · rfl

theorem State.getBit_congr {s t : State} {f : Fld} (h : t.rd f.off = s.rd f.off) (i : Nat) : t.getBit f i = s.getBit f i := by
  rw [State.getBit, State.get_congr h, State.getBit]

theorem State.getBit_setBit_off (s : State) {f g : Fld} (i j : Nat) (h : g.off ≠ f.off) : (s.setBit f i).getBit g j = s.getBit g j :=
  State.getBit_congr (State.rd_put_ne _ _ _ h) _

theorem State.getBit_clrBit_off (s : State) {f g : Fld} (i j : Nat) (h : g.off ≠ f.off) : (s.clrBit f i).getBit g j = s.getBit g j :=
  State.getBit_congr (State.rd_put_ne _ _ _ h) _

theorem State.on_eq_false {s : State} {f : Fld} : s.on f = false ↔ s.get f = 0 := by simp [State.on]

theorem State.on_eq_true {s : State} {f : Fld} : s.on f = true ↔ s.get f ≠ 0 := by simp [State.on]

/-- A field of one bit that is set reads 1. -/
theorem State.get_eq_one {s : State} {f : Fld} (h : s.on f = true) (hw : f.w = 1) : s.get f = 1 := by
  have hlt := s.get_lt f
  rw [hw] at hlt
  have := State.on_eq_true.1 h
  omega

/-! ### Counters (R56) -/

/-- What a count of a counter comes to: its new live value, and SAT of its group where it reaches its top. -/
theorem State.count_cases (s : State) {o : Nat} (n : Nat) {f : Fld} (hf : satField o = some f) (hl : f ≠ LPW_STAT_SAT) :
    s.count o n = s.setCnt o (min (s.cnt o + n) (2 ^ 48 - 1)) ∨
      s.count o n = (s.setCnt o (min (s.cnt o + n) (2 ^ 48 - 1))).put f 1 := by
  rw [State.count]
  simp only [hf, hl, if_false]
  split
  · exact .inr rfl
  · exact .inl rfl

theorem State.get_count (s : State) {o : Nat} (n : Nat) {f g : Fld} (hf : satField o = some f) (hl : f ≠ LPW_STAT_SAT)
    (hg : g.apart f = true) : (s.count o n).get g = s.get g := by
  obtain h | h := s.count_cases n hf hl <;> rw [h]
  · rfl
  · exact State.get_put_apart _ _ hg

theorem State.rd_count (s : State) {o : Nat} (n : Nat) {f : Fld} (hf : satField o = some f) (hl : f ≠ LPW_STAT_SAT)
    {j : Nat} (hj : j ≠ f.off) : (s.count o n).rd j = s.rd j := by
  obtain h | h := s.count_cases n hf hl <;> rw [h]
  · rfl
  · exact State.rd_put_ne _ _ _ hj

theorem State.cnt_count_self (s : State) (o n : Nat) : (s.count o n).cnt o = min (s.cnt o + n) (2 ^ 48 - 1) := by
  rw [State.cnt_count, if_pos rfl]

/-- A live counter that a footprint leaves. -/
theorem State.cnt_congr {s t : State} (h : t.live = s.live) (o : Nat) : t.cnt o = s.cnt o := by rw [State.cnt, h, State.cnt]

/-! ### The fault collector has room (R441) -/

theorem State.roomy.congr {s t : State} (h : s.roomy) (hm : t.rd MPC_MODE = s.rd MPC_MODE)
    (hr : t.rd RSTC_INRST = s.rd RSTC_INRST) (hq : t.fltQ = s.fltQ) : t.roomy := by
  obtain ⟨hmode, hflt, hlen⟩ := h
  refine ⟨?_, ?_, by rwa [hq]⟩
  · rwa [State.mode, State.get_congr (f := MPC_MODE_CUR) hm]
  · rwa [State.getBit, State.get_congr (f := RSTC_INRST_BLK) hr]

theorem State.only.roomy {s t : State} {os : List Nat} {ps : List Part} (h : s.only os ps t) (hs : s.roomy) (hm : MPC_MODE ∉ os)
    (hr : RSTC_INRST ∉ os) (hq : .fltQ ∉ ps) : t.roomy :=
  hs.congr (h.1 _ hm) (h.1 _ hr) (h.2 .fltQ (by simpa using hq))

theorem State.roomy.sent_fault {s : State} (h : s.roomy) (src kind addr : Nat) : s.sent (s.fault src kind addr) src kind addr := by
  rw [State.sent, h.fault_eq]

/-- A message sent after an operation that leaves the queue and the time. -/
theorem State.sent.of_eq {s t u : State} {src kind addr : Nat} (h : t.sent u src kind addr) (hq : t.fltQ = s.fltQ)
    (ht : t.sys.t = s.sys.t) : s.sent u src kind addr := by
  rw [State.sent] at h ⊢
  rw [h, hq, ht]

/-! ### Whether a unit runs -/

theorem State.dark_congr {s t : State} (hm : t.rd MPC_MODE = s.rd MPC_MODE) (hd : t.sys.die = s.sys.die) : t.dark = s.dark := by
  rw [State.dark, State.mode, State.get_congr (f := MPC_MODE_CUR) hm, hd, State.dark, State.mode]

theorem State.inReset_congr {s t : State} (hm : t.rd MPC_MODE = s.rd MPC_MODE) (hr : t.rd RSTC_INRST = s.rd RSTC_INRST)
    (hd : t.sys.die = s.sys.die) (u : Nat) : t.inReset u = s.inReset u := by
  rw [State.inReset, State.dark_congr hm hd, State.on_congr (f := RSTC_INRST_M0) hr, State.on_congr (f := RSTC_INRST_M1) hr,
    State.getBit, State.get_congr (f := RSTC_INRST_BLK) hr, State.inReset, State.getBit]

theorem State.only.inReset_eq {s t : State} {os : List Nat} {ps : List Part} (h : s.only os ps t) (hm : MPC_MODE ∉ os)
    (hr : RSTC_INRST ∉ os) (hs : .sys ∉ ps) (u : Nat) : t.inReset u = s.inReset u :=
  State.inReset_congr (h.1 _ hm) (h.1 _ hr) (by rw [show t.sys = s.sys from h.2 .sys (by simpa using hs)]) u

/-! ### Edge interrupts (R428, R429) -/

theorem mem_bitList {n x i : Nat} : i ∈ bitList n x ↔ i < n ∧ x.testBit i = true := by simp [bitList]

/-- An event of an edge source sets pending bits of its own word only. -/
theorem State.only_edgeIrq (s : State) (blk n : Nat) :
    s.only [INTC_PEND 0 (n / 32), INTC_PEND 1 (n / 32), INTC_PEND 2 (n / 32)] [] (s.edgeIrq blk n) := by
  rw [State.edgeIrq]
  split
  · exact s.only_refl _ _
  · refine State.only_each (fun t j hj => (t.only_refl _ _).setBit _ ?_) s
    have hj3 : j < 3 := (mem_bitList.1 hj).1
    have hcases : j = 0 ∨ j = 1 ∨ j = 2 := by omega
    obtain rfl | rfl | rfl := hcases <;> simp [INTC_PEND_P]

theorem INTC_PEND_inj {i j n m : Nat} (hi : n < 2) (hj : m < 2) (h : INTC_PEND i n = INTC_PEND j m) : i = j ∧ n = m := by
  simp only [INTC_PEND] at h
  omega

/-- Setting pending bits keeps those set before. -/
theorem State.getBit_pend_each (l : List Nat) (s : State) (w b j : Nat) (hw : w < 2) (hb : b < 32) :
    (s.each l fun s t => s.setBit (INTC_PEND_P t w) b).getBit (INTC_PEND_P j w) b =
      (decide (j ∈ l) || s.getBit (INTC_PEND_P j w) b) := by
  induction l generalizing s with
  | nil => simp [State.each]
  | cons i l ih =>
    rw [show s.each (i :: l) _ = (s.setBit (INTC_PEND_P i w) b).each l _ from rfl, ih]
    by_cases hij : j = i
    · subst hij
      rw [State.getBit_setBit _ _ rfl hb]
      simp
    · have hne : (INTC_PEND_P j w).off ≠ (INTC_PEND_P i w).off := fun h => hij (INTC_PEND_inj hw hw h).1
      have hget : (s.setBit (INTC_PEND_P i w) b).getBit (INTC_PEND_P j w) b = s.getBit (INTC_PEND_P j w) b := by
        rw [State.getBit, State.setBit, State.get_put_ne _ _ _ _ hne, State.getBit]
      rw [hget]
      simp [hij]

/-- The pending bit of a source is set for every target its ROUTE names. -/
theorem State.getBit_edgeIrq {s : State} {blk n j : Nat} (hb : s.inReset blk = false) (h6 : s.inReset 0x06 = false) (hn : n < 64)
    (hj : j < 3) (hr : s.getBit (INTC_ROUTE_TGT n) j = true) :
    (s.edgeIrq blk n).getBit (INTC_PEND_P j (n / 32)) (n % 32) = true := by
  rw [State.edgeIrq, if_neg (by simp [hb, h6]), State.getBit_pend_each _ _ _ _ _ (by omega) (by omega)]
  have hmem : j ∈ bitList 3 (s.get (INTC_ROUTE_TGT n)) := mem_bitList.2 ⟨hj, hr⟩
  simp [hmem]

end Sys2Proof.Machine

/-! The deadline log takes its misses in order (R285), and the settled claim about it. -/
namespace Sys2Proof.Machine

set_option Elab.async false

/-! ### A miss enters the log -/

/-- The first word of the entry of a miss. -/
def Miss.word (m : Miss) : Nat := m.kind % 256 + m.src % 256 * 2 ^ 8 + m.index % 256 * 2 ^ 16 + b2n m.step * 2 ^ 24

/-- The registers of an entry of the deadline log. -/
abbrev dlEntry (e : Nat) : List Nat := [TIME_DL_W0 e, TIME_DL_W1 e, TIME_DL_T e, TIME_DL_T e + 4]

theorem b2n_lt (b : Bool) : b2n b < 2 := by cases b <;> decide

theorem Miss.wordField_word (m : Miss) :
    wordField (BitVec.ofNat 32 m.word) 0 8 = m.kind % 256 ∧ wordField (BitVec.ofNat 32 m.word) 8 8 = m.src % 256 ∧
      wordField (BitVec.ofNat 32 m.word) 16 8 = m.index % 256 ∧ wordField (BitVec.ofNat 32 m.word) 24 1 = b2n m.step := by
  have hs := b2n_lt m.step
  simp only [wordField, BitVec.toNat_ushiftRight, BitVec.toNat_ofNat, Nat.shiftRight_eq_div_pow, Miss.word]
  omega

/-- A miss written at entry `e`, with NEXT moved on, before it is counted. -/
def State.putMiss (s : State) (e : Nat) (m : Miss) : State :=
  (((s.wr (TIME_DL_W0 e) (BitVec.ofNat 32 m.word)).wr (TIME_DL_W1 e) (BitVec.ofNat 32 (min m.late (2 ^ 32 - 1)))).wr64
    (TIME_DL_T e) m.t).wrapAdd TIME_DL_HEAD_NEXT 1

theorem State.putMiss_live (s : State) (e : Nat) (m : Miss) : (s.putMiss e m).live = s.live :=
  ((State.wrapAdd_foot _ _ _).live rfl).trans (((State.wr64_foot _ _ _).live rfl).trans (((State.wr_foot _ _ _).live rfl).trans ((State.wr_foot _ _ _).live rfl)))

theorem State.logMiss_eq (s : State) (m : Miss) :
    s.logMiss m = ((s.putMiss (s.get TIME_DL_HEAD_NEXT) m).bump (TIME_CNT 8)).put TIME_EVT_DEADLINE 1 := rfl

theorem State.only_putMiss (s : State) (e : Nat) (m : Miss) : s.only (dlEntry e ++ [TIME_DL_HEAD]) [] (s.putMiss e m) :=
  ((((s.only_refl _ _).wr _ (by simp)).wr _ (by simp)).wr64 _ (by simp) (by simp)).wrapAdd _ (by simp [TIME_DL_HEAD_NEXT])

/-- A register of an entry is no event register and no NEXT. -/
theorem dlEntry_ne {e o : Nat} (h : o ∈ dlEntry e) : o ≠ TIME_EVT ∧ o ≠ TIME_DL_HEAD := by
  simp only [dlEntry, TIME_DL_W0, TIME_DL_W1, TIME_DL_T, List.mem_cons, List.not_mem_nil, or_false] at h
  simp only [TIME_EVT, TIME_DL_HEAD]
  omega

theorem State.rd_logMiss (s : State) (m : Miss) {o : Nat} (h : o ≠ TIME_EVT) :
    (s.logMiss m).rd o = (s.putMiss (s.get TIME_DL_HEAD_NEXT) m).rd o := by
  rw [State.logMiss_eq, State.rd_put_ne _ _ _ h]
  exact State.rd_count _ 1 (f := TIME_EVT_SAT) rfl (by decide) h

theorem State.only_logMiss (s : State) (m : Miss) :
    s.only (dlEntry (s.get TIME_DL_HEAD_NEXT) ++ [TIME_DL_HEAD, TIME_EVT]) [.live] (s.logMiss m) := by
  have hput := s.only_putMiss (s.get TIME_DL_HEAD_NEXT) m
  have hcount := State.only_count (s.putMiss (s.get TIME_DL_HEAD_NEXT) m) (TIME_CNT 8) 1
    (os := dlEntry (s.get TIME_DL_HEAD_NEXT) ++ [TIME_DL_HEAD, TIME_EVT]) (ps := [.live]) (by simp) (by
      intro f hf
      obtain rfl : TIME_EVT_SAT = f := Option.some.inj hf
      exact ⟨by simp [TIME_EVT_SAT], fun h => absurd h (by decide)⟩)
  exact ((hput.mono (by simp) (by simp)).trans hcount).put _ (by simp [TIME_EVT_DEADLINE])

/-- What stands in the entry. -/
theorem State.rd_putMiss (s : State) (e : Nat) (m : Miss) :
    (s.putMiss e m).rd (TIME_DL_W0 e) = BitVec.ofNat 32 m.word ∧
      (s.putMiss e m).rd (TIME_DL_W1 e) = BitVec.ofNat 32 (min m.late (2 ^ 32 - 1)) ∧
      (s.putMiss e m).rd64 (TIME_DL_T e) = m.t % 2 ^ 64 := by
  have hoff : TIME_DL_W0 e ≠ TIME_DL_W1 e ∧ TIME_DL_W0 e ≠ TIME_DL_T e ∧ TIME_DL_W0 e ≠ TIME_DL_T e + 4 ∧
      TIME_DL_W1 e ≠ TIME_DL_T e ∧ TIME_DL_W1 e ≠ TIME_DL_T e + 4 := by
    simp only [TIME_DL_W0, TIME_DL_W1, TIME_DL_T]
    omega
  obtain ⟨h01, h0t, h0u, h1t, h1u⟩ := hoff
  have hhead (o : Nat) (ho : o ∈ dlEntry e) (t : State) : (t.wrapAdd TIME_DL_HEAD_NEXT 1).rd o = t.rd o :=
    State.rd_put_ne _ _ _ (dlEntry_ne ho).2
  refine ⟨?_, ?_, ?_⟩
  · rw [State.putMiss, hhead _ (by simp), State.rd_wr64_ne _ _ h0t h0u, State.rd_wr_ne _ _ h01, State.rd_wr_same]
  · rw [State.putMiss, hhead _ (by simp), State.rd_wr64_ne _ _ h1t h1u, State.rd_wr_same]
  · rw [State.putMiss, State.rd64, hhead _ (by simp), hhead _ (by simp)]
    exact State.rd64_wr64_same ..

theorem State.get_putMiss_next (s : State) (e : Nat) (m : Miss) :
    (s.putMiss e m).get TIME_DL_HEAD_NEXT = (s.get TIME_DL_HEAD_NEXT + 1) % 16 := by
  have hne (o : Nat) (ho : o ∈ dlEntry e) : TIME_DL_HEAD_NEXT.off ≠ o := (dlEntry_ne ho).2.symm
  rw [State.putMiss, State.get_wrapAdd_self _ _ rfl, State.get_wr64_ne _ _ _ (hne _ (by simp)) (hne _ (by simp)),
    State.get_wr_ne _ _ _ (hne _ (by simp)), State.get_wr_ne _ _ _ (hne _ (by simp))]
  rfl

theorem State.get_logMiss_next (s : State) (m : Miss) :
    (s.logMiss m).get TIME_DL_HEAD_NEXT = (s.get TIME_DL_HEAD_NEXT + 1) % 16 :=
  (State.get_congr (s.rd_logMiss m (by decide))).trans (s.get_putMiss_next _ m)

theorem State.advanced_logMiss (s : State) (m : Miss) : s.advanced (s.logMiss m) (TIME_CNT 8) 1 := by
  rw [State.advanced, State.logMiss_eq, State.cnt_put, State.bump, State.cnt_count_self,
    State.cnt_congr (s.putMiss_live _ m)]

theorem State.rd64_logMiss (s : State) (m : Miss) :
    (s.logMiss m).rd64 (TIME_DL_T (s.get TIME_DL_HEAD_NEXT)) = m.t % 2 ^ 64 := by
  have hrd {o : Nat} (ho : o ∈ dlEntry (s.get TIME_DL_HEAD_NEXT)) := s.rd_logMiss m (dlEntry_ne ho).1
  rw [State.rd64, hrd (by simp), hrd (by simp)]
  exact (s.rd_putMiss _ m).2.2

theorem toNat_ofNat_min (n : Nat) : wordField (BitVec.ofNat 32 (min n (2 ^ 32 - 1))) 0 32 = min n (2 ^ 32 - 1) := by
  simp only [wordField, BitVec.toNat_ushiftRight, BitVec.toNat_ofNat, Nat.shiftRight_eq_div_pow]
  omega

theorem exec_deadlineLog {s : State} {m : Miss} {r : List Miss} (h : s.inReset 0x0F = false) (hq : s.time.dlQ = m :: r) :
    exec .deadlineLog s = .next (State.logMiss { s with time := { s.time with dlQ := r } } m) := by
  rw [show exec .deadlineLog s = execDeadlineLog s from rfl, execDeadlineLog]
  simp [h, hq]

/-! ### The log is emptied -/

/-- An entry returned to its reset value. -/
def State.dlErase (s : State) (e : Nat) : State := ((s.clr (TIME_DL_W0 e)).clr (TIME_DL_W1 e)).clr64 (TIME_DL_T e)

theorem State.only_dlErase (s : State) (e : Nat) : s.only (dlEntry e) [] (s.dlErase e) :=
  ((((s.only_refl _ _).wr _ (by simp)).wr _ (by simp)).wr _ (by simp)).wr _ (by simp)

theorem State.rd_dlErase_mem (s : State) {e o : Nat} (h : o ∈ dlEntry e) : (s.dlErase e).rd o = regReset o := by
  simp only [State.dlErase, State.clr64, State.clr, State.rd_wr]
  simp only [List.mem_cons, List.not_mem_nil, or_false] at h
  split_ifs with h3 h2 h1 h0 <;> simp_all

/-- Erasing keeps what is at its reset value, entry or not. -/
theorem State.rd_dlErase_reset {s : State} {o : Nat} (e : Nat) (h : s.rd o = regReset o) : (s.dlErase e).rd o = regReset o := by
  by_cases ho : o ∈ dlEntry e
  · exact s.rd_dlErase_mem ho
  · rw [(s.only_dlErase e).1 o ho, h]

theorem State.rd_dlErase_each (l : List Nat) (s : State) {o e : Nat} (he : e ∈ l) (h : o ∈ dlEntry e) :
    (s.each l State.dlErase).rd o = regReset o := by
  have hkeep (l : List Nat) (s : State) (hs : s.rd o = regReset o) : (s.each l State.dlErase).rd o = regReset o := by
    induction l generalizing s with
    | nil => exact hs
    | cons a l ih => exact ih _ (State.rd_dlErase_reset a hs)
  induction l generalizing s with
  | nil => simp at he
  | cons a l ih =>
    obtain rfl | he := List.mem_cons.1 he
    · exact hkeep l _ (s.rd_dlErase_mem h)
    · exact ih _ he

theorem State.dlClear_eq (s : State) : s.dlClear = (s.each (List.range 16) State.dlErase).put TIME_DL_HEAD_NEXT 0 := rfl

/-- Every register of the log reads 0 after it. -/
theorem State.rd_dlClear (s : State) {o e : Nat} (he : e < 16) (h : o ∈ dlEntry e) : s.dlClear.rd o = 0#32 := by
  have hreset : ∀ e < 16, ∀ o ∈ dlEntry e, regReset o = 0#32 := by decide
  rw [State.dlClear_eq, State.rd_put_ne _ _ _ (dlEntry_ne h).2, State.rd_dlErase_each _ _ (List.mem_range.2 he) h,
    hreset e he o h]

theorem State.rd_dlClear_out (s : State) {o : Nat} (h : o < TIME_DL_HEAD ∨ TIME_DL_T 15 + 4 < o) : s.dlClear.rd o = s.rd o := by
  have hne (e : Nat) (he : e < 16) : o ∉ dlEntry e := by
    simp only [dlEntry, TIME_DL_HEAD, TIME_DL_W0, TIME_DL_W1, TIME_DL_T, List.mem_cons, List.not_mem_nil, or_false] at h ⊢
    omega
  have hhead : o ≠ TIME_DL_HEAD := by
    rintro rfl
    revert h
    decide
  have heach (l : List Nat) (hl : ∀ e ∈ l, e < 16) (s : State) : (s.each l State.dlErase).rd o = s.rd o := by
    induction l generalizing s with
    | nil => rfl
    | cons a l ih =>
      exact (ih (fun e he => hl e (by simp [he])) _).trans ((s.only_dlErase a).1 o (hne a (hl a (by simp))))
  rw [State.dlClear_eq, State.rd_put_ne _ _ _ hhead, heach _ (fun e he => List.mem_range.1 he)]

/-- What the entry of a miss holds, where the miss has just left those that wait. -/
theorem State.logMiss_spec {s s0 : State} {y : TimeSt} (hs : s0 = { s with time := y }) (m : Miss) :
    (s0.logMiss m).time = y ∧
      (s0.logMiss m).get (TIME_DL_W0_KIND (s.get TIME_DL_HEAD_NEXT)) = m.kind % 256 ∧
      (s0.logMiss m).get (TIME_DL_W0_SRC (s.get TIME_DL_HEAD_NEXT)) = m.src % 256 ∧
      (s0.logMiss m).get (TIME_DL_W0_INDEX (s.get TIME_DL_HEAD_NEXT)) = m.index % 256 ∧
      (s0.logMiss m).get (TIME_DL_W0_STEP (s.get TIME_DL_HEAD_NEXT)) = b2n m.step ∧
      (s0.logMiss m).get (TIME_DL_W1_LATENESS (s.get TIME_DL_HEAD_NEXT)) = min m.late (2 ^ 32 - 1) ∧
      (s0.logMiss m).rd64 (TIME_DL_T (s.get TIME_DL_HEAD_NEXT)) = m.t % 2 ^ 64 ∧
      (s0.logMiss m).get TIME_DL_HEAD_NEXT = (s.get TIME_DL_HEAD_NEXT + 1) % 16 ∧ (s0.logMiss m).get TIME_EVT_DEADLINE = 1 ∧
      s.advanced (s0.logMiss m) (TIME_CNT 8) 1 ∧
      s.only (dlEntry (s.get TIME_DL_HEAD_NEXT) ++ [TIME_DL_HEAD, TIME_EVT]) [.time, .live] (s0.logMiss m) := by
  have htime : (s0.logMiss m).time = s0.time := (s0.only_logMiss m).2 .time (by decide)
  have hnext : s0.get TIME_DL_HEAD_NEXT = s.get TIME_DL_HEAD_NEXT := by rw [hs]; rfl
  have hcnt : s0.cnt (TIME_CNT 8) = s.cnt (TIME_CNT 8) := by rw [hs]; rfl
  have honly0 (os : List Nat) : s.only os [.time, .live] s0 := by rw [hs]; exact (s.only_refl _ _).with_time y (by simp)
  obtain ⟨hw0, hw1, -⟩ := s0.rd_putMiss (s0.get TIME_DL_HEAD_NEXT) m
  rw [← s0.rd_logMiss m (dlEntry_ne (e := s0.get TIME_DL_HEAD_NEXT) (by simp)).1] at hw0 hw1
  obtain ⟨hkind, hsrc, hindex, hstep⟩ := m.wordField_word
  have honly := (honly0 _).trans ((s0.only_logMiss m).mono (List.Subset.refl _) (by simp))
  have hadv := s0.advanced_logMiss m
  rw [State.advanced, hcnt] at hadv
  rw [← hnext]
  exact ⟨by rw [htime, hs], (congrArg (wordField · 0 8) hw0).trans hkind,
    (congrArg (wordField · 8 8) hw0).trans hsrc, (congrArg (wordField · 16 8) hw0).trans hindex,
    (congrArg (wordField · 24 1) hw0).trans hstep, (congrArg (wordField · 0 32) hw1).trans (toNat_ofNat_min _),
    s0.rd64_logMiss m, s0.get_logMiss_next m, State.get_put_self _ rfl (by decide), hadv, honly⟩

/-- Settles O47: the oldest miss by the entry that `State.putMiss` writes and the frame of `State.logMiss`; the clear by the
reset values of the entries. -/
theorem deadlineLog : Obligations.DeadlineLog := by
  refine ⟨fun m r s h hq => ?log, fun s h => ?clear⟩
  case log => exact ⟨_, exec_deadlineLog h hq, State.logMiss_spec rfl m⟩
  case clear =>
    have hd : s.dark = false := State.dark_eq_false_of_inReset (by decide) h
    have hrun := s.cmd_run TIME_DL_HEAD State.dlClear hd h
    refine ⟨_, congrArg Host.Outcome.next hrun, State.get_put_self _ rfl (by decide), fun e he => ?_, fun o ho => s.rd_dlClear_out ho,
      s.dlClear_foot.parts (by decide)⟩
    refine ⟨s.rd_dlClear he (by simp), s.rd_dlClear he (by simp), ?_⟩
    rw [State.rd64, s.rd_dlClear he (by simp), s.rd_dlClear he (by simp)]
    rfl

end Sys2Proof.Machine

/-! Requests to reset a unit (R85, R86) and the watchdogs (R91, R92), and the settled claim about the watchdogs. -/
namespace Sys2Proof.Machine

set_option Elab.async false

/-! ### A request to reset a unit -/

/-- A unit with no reset under way, and no lane, is asked to become idle (R88). -/
theorem State.unitRequest_begin {s : State} {u : Nat} (cause : Nat) (hfe : u ≠ 0xFE) (hok : unitOk u = true)
    (hl : ¬(0x08 ≤ u ∧ u ≤ 0x0B)) (hc : s.sameCycle = none) (hu : s.unitOf u = none) :
    s.unitRequest cause u = s.rcUse.setUnit u (some ⟨1, cause, false, 0, 16, s.slowCycle⟩) := by
  simp [State.unitRequest, hfe, hok, hl, hc, hu]

theorem State.unitOf_setUnit (s : State) (u : Nat) (x : Option UnitSt) (v : Nat) :
    (s.setUnit u x).unitOf v = if v = u then x else s.unitOf v := Tab.get_set ..

theorem State.unitOf_setUnit_same (s : State) (u : Nat) (x : Option UnitSt) : (s.setUnit u x).unitOf u = x := by
  rw [State.unitOf_setUnit, if_pos rfl]

theorem State.only.setUnit {s t : State} {os : List Nat} {ps : List Part} (h : s.only os ps t) (u : Nat) (x : Option UnitSt)
    (hp : .sys ∈ ps) : s.only os ps (t.setUnit u x) := h.with_sys _ hp

theorem State.only.rcUse {s t : State} {os : List Nat} {ps : List Part} (h : s.only os ps t) (hp : .sys ∈ ps) :
    s.only os ps t.rcUse := h.with_sys _ hp

/-! ### Watchdogs -/

theorem RSTC_WDOG_CTL_ne_CNT (n m : Nat) : RSTC_WDOG_CTL n ≠ RSTC_WDOG_CNT m := by
  simp only [RSTC_WDOG_CTL, RSTC_WDOG_CNT]
  omega

theorem State.get_wdReload_left (s : State) (n : Nat) :
    (s.wdReload n).get (RSTC_WDOG_CNT_LEFT n) = max 1 (s.get (RSTC_WDOG_CTL_TIMEOUT n)) := by
  have hlt : s.get (RSTC_WDOG_CTL_TIMEOUT n) < 2 ^ 16 := s.get_lt _
  exact State.get_put_self _ rfl (show max 1 (s.get (RSTC_WDOG_CTL_TIMEOUT n)) < 2 ^ 16 by omega)

theorem State.only.wdReload {s t : State} {os : List Nat} {ps : List Part} (h : s.only os ps t) (n : Nat)
    (ho : RSTC_WDOG_CNT n ∈ os) (hp : .sys ∈ ps) : s.only os ps (t.wdReload n) := (h.put _ ho).with_sys _ hp

/-- A reload with the warning set or taken back: what the count register reads. -/
theorem State.get_wdReload_warned (s : State) (n : Nat) {v : Nat} (hv : v < 2) :
    ((s.wdReload n).put (RSTC_WDOG_CNT_WARNED n) v).get (RSTC_WDOG_CNT_LEFT n) = max 1 (s.get (RSTC_WDOG_CTL_TIMEOUT n)) ∧
      ((s.wdReload n).put (RSTC_WDOG_CNT_WARNED n) v).get (RSTC_WDOG_CNT_WARNED n) = v := by
  refine ⟨?_, State.get_put_self _ rfl hv⟩
  rw [State.get_put_apart _ _ rfl, s.get_wdReload_left]

/-- The control register as a write leaves it, before the count starts. -/
def State.wdCtl (s : State) (n : Nat) (w : Word) (en : Bool) : State :=
  ((s.put (RSTC_WDOG_CTL_SCOPE n) (wordField w 1 1)).put (RSTC_WDOG_CTL_TIMEOUT n) (wordField w 16 16)).put
    (RSTC_WDOG_CTL_EN n) (b2n en)

theorem State.get_wdCtl (s : State) (n : Nat) (w : Word) (en : Bool) :
    (s.wdCtl n w en).get (RSTC_WDOG_CTL_EN n) = b2n en ∧
      (s.wdCtl n w en).get (RSTC_WDOG_CTL_SCOPE n) = wordField w 1 1 ∧
      (s.wdCtl n w en).get (RSTC_WDOG_CTL_TIMEOUT n) = wordField w 16 16 := by
  refine ⟨State.get_put_self _ rfl (b2n_lt en), ?_, ?_⟩
  · rw [State.wdCtl, State.get_put_apart _ _ rfl, State.get_put_apart _ _ rfl]
    exact State.get_put_self _ rfl (wordField_lt ..)
  · rw [State.wdCtl, State.get_put_apart _ _ rfl]
    exact State.get_put_self _ rfl (wordField_lt ..)

theorem State.only.wdCtl {s t : State} {os : List Nat} {ps : List Part} (h : s.only os ps t) (n : Nat) (w : Word) (en : Bool)
    (ho : RSTC_WDOG_CTL n ∈ os) : s.only os ps (t.wdCtl n w en) := ((h.put _ ho).put _ ho).put _ ho

theorem State.wdWrite_start {s : State} {n : Nat} {w : Word} (hoff : s.on (RSTC_WDOG_CTL_EN n) = false)
    (hw : w.getLsbD 0 = true) : s.wdWrite n w = (s.wdCtl n w true).wdKick n := by
  simp only [State.wdWrite, hoff, hw, Bool.not_false, Bool.and_self, Bool.or_true, if_true, State.wdCtl]

theorem State.wdWrite_running {s : State} {n : Nat} {w : Word} (hon : s.on (RSTC_WDOG_CTL_EN n) = true) :
    s.wdWrite n w = s.wdCtl n w true := by
  simp only [State.wdWrite, hon, Bool.not_true, Bool.false_and, Bool.true_or, State.wdCtl]
  rfl

/-- A write of a watchdog's control, while RSTC runs. -/
theorem exec_wdogStart {s : State} (n : Fin 2) (ctl : Word) (hd : s.dark = false) (hr : s.inReset 0x02 = false) :
    exec (.wdogStart n ctl) s = .next (s.rcUse.wdWrite n.val ctl) := by
  have hblk : ∀ n : Fin 2, blkOf (RSTC_WDOG_CTL n.val) = 0x02 := by decide
  exact congrArg Host.Outcome.next (s.cmd_run _ _ hd (by rw [hblk n]; exact hr))

/-- A write of a watchdog's key, while RSTC runs. -/
theorem exec_wdogKick {s : State} (n : Fin 2) (v : Word) (hd : s.dark = false) (hr : s.inReset 0x02 = false) :
    exec (.wdogKick n v) s = .next (s.rcUse.wdKickWrite n.val v) := by
  have hblk : ∀ n : Fin 2, blkOf (RSTC_WDOG_KICK n.val) = 0x02 := by decide
  exact congrArg Host.Outcome.next (s.cmd_run _ _ hd (by rw [hblk n]; exact hr))

/-- The first expiry: the event, the report, the reload and the warning. -/
theorem State.wdExpire_first {s : State} {n : Nat} (h : s.on (RSTC_WDOG_CNT_WARNED n) = false) :
    s.wdExpire n = (((s.edgeIrq 0x02 (10 + n)).fault 0x02 0x13 n).wdReload n).put (RSTC_WDOG_CNT_WARNED n) 1 := by
  simp [State.wdExpire, h]

/-- The second expiry of a watchdog of scope 1: a reset of its core. -/
theorem State.wdExpire_second {s : State} {n : Nat} (h : s.on (RSTC_WDOG_CNT_WARNED n) = true)
    (hs : s.on (RSTC_WDOG_CTL_SCOPE n) = true) :
    s.wdExpire n = (s.put (RSTC_WDOG_CNT_LEFT n) 0).unitRequest (3 + n) (0x40 + n) := by
  simp [State.wdExpire, h, hs]

/-- The pending words of the three targets for the sources below 32. -/
abbrev pendLow : List Nat := [INTC_PEND 0 0, INTC_PEND 1 0, INTC_PEND 2 0]

theorem State.only.edgeIrq {s t : State} {os : List Nat} {ps : List Part} (h : s.only os ps t) (blk : Nat) {n : Nat}
    (hn : n < 32) (ho : pendLow ⊆ os) : s.only os ps (t.edgeIrq blk n) := by
  have hedge := t.only_edgeIrq blk n
  rw [show n / 32 = 0 by omega] at hedge
  exact h.trans (hedge.mono ho (List.nil_subset _))

/-- What the first expiry of a watchdog leaves, while the collector has room. -/
theorem State.wdExpire_first_spec {s : State} (n : Fin 2) (hw : s.on (RSTC_WDOG_CNT_WARNED n.val) = false) (hroom : s.roomy) :
    (s.wdExpire n.val).get (RSTC_WDOG_CNT_WARNED n.val) = 1 ∧ s.sent (s.wdExpire n.val) 0x02 0x13 n.val ∧
      (s.wdExpire n.val).get (RSTC_WDOG_CNT_LEFT n.val) = max 1 (s.get (RSTC_WDOG_CTL_TIMEOUT n.val)) ∧
      s.only (RSTC_WDOG_CNT n.val :: pendLow) [.sys, .fltQ] (s.wdExpire n.val) := by
  have hn : 10 + n.val < 32 := by omega
  have hirq : s.only pendLow [] (s.edgeIrq 0x02 (10 + n.val)) := (s.only_refl _ _).edgeIrq _ hn (List.Subset.refl _)
  have hroom' := hirq.roomy hroom (by decide) (by decide) (by simp)
  have hflt : s.only pendLow [.fltQ] ((s.edgeIrq 0x02 (10 + n.val)).fault 0x02 0x13 n.val) :=
    (hirq.mono (List.Subset.refl _) (List.nil_subset _)).fault hroom' _ _ _ (by simp)
  have htimeout : ((s.edgeIrq 0x02 (10 + n.val)).fault 0x02 0x13 n.val).get (RSTC_WDOG_CTL_TIMEOUT n.val) =
      s.get (RSTC_WDOG_CTL_TIMEOUT n.val) :=
    hflt.get_eq ((show ∀ n : Fin 2, RSTC_WDOG_CTL n.val ∉ pendLow by decide) n)
  have hsent : s.sent ((s.edgeIrq 0x02 (10 + n.val)).fault 0x02 0x13 n.val) 0x02 0x13 n.val :=
    (hroom'.sent_fault 0x02 0x13 n.val).of_eq (hirq.2 .fltQ (by simp)) (by rw [show _ = s.sys from hirq.2 .sys (by simp)])
  obtain ⟨hleft, hwarned⟩ := State.get_wdReload_warned ((s.edgeIrq 0x02 (10 + n.val)).fault 0x02 0x13 n.val) n.val
    (v := 1) (by decide)
  rw [htimeout] at hleft
  rw [State.wdExpire_first hw]
  exact ⟨hwarned, hsent, hleft,
    ((hflt.mono (List.subset_cons_self _ _) (by simp)).wdReload n.val (by simp) (by simp)).put 1 (by simp [RSTC_WDOG_CNT_WARNED])⟩

/-- The pending bits after the first expiry. -/
theorem State.getBit_wdExpire_first {s : State} (n : Fin 2) (hw : s.on (RSTC_WDOG_CNT_WARNED n.val) = false) (hroom : s.roomy)
    (h6 : s.inReset 0x06 = false) (h2 : s.inReset 0x02 = false) {j : Nat} (hj : j < 3)
    (hr : s.getBit (INTC_ROUTE_TGT (10 + n.val)) j = true) :
    (s.wdExpire n.val).getBit (INTC_PEND_P j 0) (10 + n.val) = true := by
  have hirq : s.only pendLow [] (s.edgeIrq 0x02 (10 + n.val)) := (s.only_refl _ _).edgeIrq _ (by omega) (List.Subset.refl _)
  have hroom' := hirq.roomy hroom (by decide) (by decide) (by simp)
  have hbit := State.getBit_edgeIrq h2 h6 (show 10 + n.val < 64 by omega) hj hr
  rw [show (10 + n.val) / 32 = 0 by omega, show (10 + n.val) % 32 = 10 + n.val by omega] at hbit
  have hrest : (s.edgeIrq 0x02 (10 + n.val)).only [RSTC_WDOG_CNT n.val] [.fltQ, .sys] (s.wdExpire n.val) := by
    rw [State.wdExpire_first hw]
    exact ((((State.only_refl _ _ _).fault hroom' _ _ _ (by simp)).wdReload n.val (by simp) (by simp))).put 1
      (by simp [RSTC_WDOG_CNT_WARNED])
  have hne : (INTC_PEND_P j 0).off ∉ [RSTC_WDOG_CNT n.val] := by
    simp only [INTC_PEND_P, INTC_PEND, RSTC_WDOG_CNT, List.mem_singleton]
    omega
  rw [State.getBit, hrest.get_eq hne]
  exact hbit

theorem unitOk_core (n : Fin 2) : unitOk (0x40 + n.val) = true := (show ∀ n : Fin 2, unitOk (0x40 + n.val) = true by decide) n

theorem State.sameCycle_congr {s t : State} (h : t.sys = s.sys) : t.sameCycle = s.sameCycle := by
  rw [State.sameCycle, State.slowCycle, h, State.sameCycle, State.slowCycle]

theorem State.unitOf_congr {s t : State} (h : t.sys = s.sys) (u : Nat) : t.unitOf u = s.unitOf u := by
  rw [State.unitOf, h, State.unitOf]

theorem exec_wdogExpiry {s : State} {n : Fin 2} (h : s.wdCounts n.val = true) :
    exec (.wdogExpiry n) s = .next (s.wdExpire n.val) := by
  rw [show exec (.wdogExpiry n) s = execWdogExpiry n s from rfl, execWdogExpiry, if_pos h]

/-- Settles O16: by the write of the control, of the key, and by the first and the second expiry. -/
theorem watchdogs : Obligations.Watchdogs := by
  refine ⟨?start, ?running, ?kick, ?stopped, ?wrong, ?first, ?second⟩
  case start =>
    intro n ctl s hd hr hoff hw
    have hexec := exec_wdogStart n ctl hd hr
    rw [State.wdWrite_start (s := s.rcUse) hoff hw] at hexec
    obtain ⟨hen, hscope, htimeout⟩ := s.rcUse.get_wdCtl n.val ctl true
    obtain ⟨hleft, hwarned⟩ := (s.rcUse.wdCtl n.val ctl true).get_wdReload_warned n.val (v := 0) (by decide)
    have hkick : (s.rcUse.wdCtl n.val ctl true).only [RSTC_WDOG_CNT n.val] [.sys] ((s.rcUse.wdCtl n.val ctl true).wdKick n.val) :=
      ((State.only_refl _ _ _).wdReload n.val (by simp) (by simp)).put 0 (by simp [RSTC_WDOG_CNT_WARNED])
    have hne : RSTC_WDOG_CTL n.val ∉ [RSTC_WDOG_CNT n.val] := by simpa using RSTC_WDOG_CTL_ne_CNT n.val n.val
    have hctl : s.only [RSTC_WDOG_CTL n.val, RSTC_WDOG_CNT n.val] [.sys] (s.rcUse.wdCtl n.val ctl true) :=
      ((s.only_refl _ _).rcUse (by simp)).wdCtl n.val ctl true (by simp)
    exact ⟨_, hexec, (hkick.get_eq hne).trans hen, (hkick.get_eq hne).trans hscope, (hkick.get_eq hne).trans htimeout,
      by rw [← htimeout]; exact hleft, hwarned, hctl.trans (hkick.mono (by simp) (by simp))⟩
  case running =>
    intro n ctl s hd hr hon
    have hexec := exec_wdogStart n ctl hd hr
    rw [State.wdWrite_running (s := s.rcUse) hon] at hexec
    have honly : s.only [RSTC_WDOG_CTL n.val] [.sys] (s.rcUse.wdCtl n.val ctl true) :=
      ((s.only_refl _ _).rcUse (by simp)).wdCtl n.val ctl true (by simp)
    exact ⟨_, hexec, (s.rcUse.get_wdCtl n.val ctl true).1,
      honly.get_eq (by simpa [RSTC_WDOG_CNT_LEFT] using (RSTC_WDOG_CTL_ne_CNT n.val n.val).symm), honly⟩
  case kick =>
    intro n s hd hr hon
    have hexec := exec_wdogKick n 0x6B1D#32 hd hr
    rw [show s.rcUse.wdKickWrite n.val 0x6B1D#32 = s.rcUse.wdKick n.val by
      rw [State.wdKickWrite, show s.rcUse.on (RSTC_WDOG_CTL_EN n.val) = true from hon]; rfl] at hexec
    obtain ⟨hleft, hwarned⟩ := s.rcUse.get_wdReload_warned n.val (v := 0) (by decide)
    exact ⟨_, hexec, hleft, hwarned, (((s.only_refl _ _).rcUse (by simp)).wdReload n.val (by simp) (by simp)).put 0
      (by simp [RSTC_WDOG_CNT_WARNED])⟩
  case stopped =>
    intro n v s hd hr hoff
    have hexec := exec_wdogKick n v hd hr
    rw [show s.rcUse.wdKickWrite n.val v = s.rcUse by
      rw [State.wdKickWrite, show s.rcUse.on (RSTC_WDOG_CTL_EN n.val) = false from hoff]; rfl] at hexec
    exact ⟨_, hexec, s.only_rcUse⟩
  case wrong =>
    intro n v s hd hr hon hv hw hroom
    have hexec := exec_wdogKick n v hd hr
    rw [show s.rcUse.wdKickWrite n.val v = s.rcUse.wdExpire n.val by
      rw [State.wdKickWrite, show s.rcUse.on (RSTC_WDOG_CTL_EN n.val) = true from hon, if_neg hv]; rfl] at hexec
    obtain ⟨hwarned, hsent, hleft, -⟩ := State.wdExpire_first_spec (s := s.rcUse) n hw hroom
    exact ⟨_, hexec, hwarned, hsent, hleft⟩
  case first =>
    intro n s hc hw hroom h6 h2
    obtain ⟨hwarned, hsent, hleft, honly⟩ := State.wdExpire_first_spec n hw hroom
    exact ⟨_, exec_wdogExpiry hc, hwarned, hsent, hleft, fun j hj hr => State.getBit_wdExpire_first n hw hroom h6 h2 hj hr, honly⟩
  case second =>
    intro n s hc hw hs hcyc hu
    have hbegin := State.unitRequest_begin (s := s.put (RSTC_WDOG_CNT_LEFT n.val) 0) (3 + n.val) (show 0x40 + n.val ≠ 0xFE by omega)
      (unitOk_core n) (by omega) ((State.sameCycle_congr rfl).trans hcyc) ((State.unitOf_congr rfl _).trans hu)
    have hexec := exec_wdogExpiry hc
    rw [State.wdExpire_second hw hs, hbegin] at hexec
    exact ⟨_, hexec, State.unitOf_setUnit_same .., State.get_put_self s rfl (Nat.two_pow_pos _),
      (((s.only_refl _ _).put 0 (by simp [RSTC_WDOG_CNT_LEFT])).rcUse (by simp)).setUnit _ _ (by simp)⟩

end Sys2Proof.Machine

/-! The authorised remote reset (R93, R94), and the settled claim about it. -/
namespace Sys2Proof.Machine

set_option Elab.async false

theorem exec_remoteAuth {s : State} (w : Word) (node : BitVec 8) (b : Bool) (hd : s.dark = false) (hr : s.inReset 0x02 = false) :
    exec (.remoteAuth w node b) s = .next (s.rcUse.remoteAuth w node.toNat b) :=
  congrArg Host.Outcome.next (s.cmd_run RSTC_REMOTE_AUTH _ hd hr)

theorem exec_remoteCmd {s : State} (unit node : BitVec 8) (b : Bool) (hd : s.dark = false) (hr : s.inReset 0x02 = false) :
    exec (.remoteCmd unit node b) s = .next (s.rcUse.remoteCmd unit.toNat node.toNat b) :=
  congrArg Host.Outcome.next (s.cmd_run RSTC_REMOTE_CMD _ hd hr)

/-- The good AUTH writes of other nodes that still stand (R93). -/
def State.authRest (s : State) (node : Nat) : List (Nat × Nat) :=
  s.sys.auth.filter fun a => a.2 != node && decide (s.sys.t ≤ a.1 + 250000)

theorem State.mem_authRest {s : State} {node : Nat} {a : Nat × Nat} :
    a ∈ s.authRest node ↔ a ∈ s.sys.auth ∧ a.2 ≠ node ∧ s.sys.t ≤ a.1 + 250000 := by simp [State.authRest]

/-- The AUTH writes that stand after one. -/
def State.setAuth (s : State) (l : List (Nat × Nat)) : State := { s with sys := { s.sys with auth := l } }

theorem State.only.setAuth {s t : State} {os : List Nat} {ps : List Part} (h : s.only os ps t) (l : List (Nat × Nat))
    (hp : .sys ∈ ps) : s.only os ps (t.setAuth l) := h.with_sys _ hp

theorem State.remoteAuth_good {s : State} (node : Nat) (hen : s.rd RSTC_AUTH ≠ 0#32)
    (hl : s.on RSTC_REMOTE_STAT_LOCKED = false) :
    s.remoteAuth (s.rd RSTC_AUTH) node false = s.setAuth (s.authRest node ++ [(s.sys.t, node)]) := by
  simp [State.remoteAuth, hen, hl, State.setAuth, State.authRest]

theorem State.remoteAuth_bad {s : State} {w : Word} (node : Nat) (hen : s.rd RSTC_AUTH ≠ 0#32)
    (hl : s.on RSTC_REMOTE_STAT_LOCKED = false) (hw : w ≠ s.rd RSTC_AUTH) :
    s.remoteAuth w node false = s.setAuth (s.authRest node) := by
  simp [State.remoteAuth, hen, hl, hw, State.setAuth, State.authRest]

/-- A command of a node whose AUTH write stands. -/
theorem State.remoteCmd_good {s : State} {node t0 : Nat} (unit : Nat) (hen : s.rd RSTC_AUTH ≠ 0#32)
    (hl : s.on RSTC_REMOTE_STAT_LOCKED = false) (ha : (t0, node) ∈ s.sys.auth) (ht : s.sys.t ≤ t0 + 250000) :
    s.remoteCmd unit node false = s.unitRequest 0x07 unit := by
  have hany : s.sys.auth.any (fun a => a.2 == node && decide (s.sys.t ≤ a.1 + 250000)) = true :=
    List.any_eq_true.2 ⟨_, ha, by simp [ht]⟩
  simp [State.remoteCmd, hen, hl, hany]

/-- A command of a node with no AUTH write that stands. -/
theorem State.remoteCmd_bad {s : State} {node : Nat} (unit : Nat) (hen : s.rd RSTC_AUTH ≠ 0#32)
    (hl : s.on RSTC_REMOTE_STAT_LOCKED = false) (ha : ∀ a ∈ s.sys.auth, a.2 ≠ node ∨ a.1 + 250000 < s.sys.t) :
    s.remoteCmd unit node false = s.remoteFail node := by
  have hany : s.sys.auth.any (fun a => a.2 == node && decide (s.sys.t ≤ a.1 + 250000)) = false := by
    simpa [List.any_eq_false, imp_iff_not_or] using ha
  simp [State.remoteCmd, hen, hl, hany]

theorem State.remote_locked {s : State} (w : Word) (unit node : Nat) (b : Bool) (hen : s.rd RSTC_AUTH ≠ 0#32)
    (hl : s.on RSTC_REMOTE_STAT_LOCKED = true) :
    s.remoteAuth w node b = s.fault 0x02 0x14 node ∧ s.remoteCmd unit node b = s.fault 0x02 0x14 node := by
  simp [State.remoteAuth, State.remoteCmd, hen, hl]

theorem State.remote_off {s : State} (w : Word) (unit node : Nat) (b : Bool) (hen : s.rd RSTC_AUTH = 0#32) :
    s.remoteAuth w node b = s ∧ s.remoteCmd unit node b = s := by
  simp [State.remoteAuth, State.remoteCmd, hen]

/-- The fourth failure sets LOCKED. -/
theorem State.on_locked_remoteFail {s : State} (h : s.roomy) (node : Nat) (hl : s.on RSTC_REMOTE_STAT_LOCKED = false) :
    (s.remoteFail node).on RSTC_REMOTE_STAT_LOCKED = decide (3 ≤ s.get RSTC_REMOTE_STAT_FAILS) := by
  have hflt : (s.remoteFail node).on RSTC_REMOTE_STAT_LOCKED = s.remoteCount.on RSTC_REMOTE_STAT_LOCKED := by
    rw [State.remoteFail_eq, h.remoteCount.fault_eq]
    rfl
  rw [hflt, State.remoteCount]
  by_cases h3 : 3 ≤ s.get RSTC_REMOTE_STAT_FAILS
  · rw [if_pos (by omega), State.on, State.get_put_self _ rfl (by decide)]
    simp [h3]
  · rw [if_neg (by omega), State.on, State.get_put_apart _ _ (by decide), ← State.on, hl]
    simp [h3]

/-- Settles O17: the AUTH writes that stand after each write, the request a good command makes, and the failure otherwise. -/
theorem remoteReset : Obligations.RemoteReset := by
  refine ⟨?good, ?bad, ?command, ?fails, ?locked, ?off⟩
  case good =>
    intro node s hd hr hen hl
    have hexec := exec_remoteAuth (s.rd RSTC_AUTH) node false hd hr
    rw [show s.rcUse.remoteAuth (s.rd RSTC_AUTH) node.toNat false = _ from
      State.remoteAuth_good (s := s.rcUse) node.toNat hen hl] at hexec
    exact ⟨_, hexec, List.mem_append_right _ (by simp [State.rcUse]),
      fun a ha hn ht => List.mem_append_left _ (State.mem_authRest.2 ⟨ha, hn, ht⟩),
      ((s.only_refl _ _).rcUse (by simp)).setAuth _ (by simp)⟩
  case bad =>
    intro w node s hd hr hen hl hw
    have hexec := exec_remoteAuth w node false hd hr
    rw [State.remoteAuth_bad (s := s.rcUse) node.toNat hen hl hw] at hexec
    exact ⟨_, hexec, fun a ha => (State.mem_authRest.1 ha).2.1, fun a ha hn ht => State.mem_authRest.2 ⟨ha, hn, ht⟩,
      ((s.only_refl _ _).rcUse (by simp)).setAuth _ (by simp)⟩
  case command =>
    intro core node t0 s hd hr hen hl ha ht hc hu
    have hcode : (BitVec.ofNat 8 (0x40 + core.val)).toNat = 0x40 + core.val := by
      rw [BitVec.toNat_ofNat, Nat.mod_eq_of_lt (by omega)]
    have hexec := exec_remoteCmd (BitVec.ofNat 8 (0x40 + core.val)) node false hd hr
    rw [State.remoteCmd_good (s := s.rcUse) _ hen hl ha ht, hcode, State.unitRequest_begin (s := s.rcUse) 0x07 (by omega)
      (unitOk_core core) (by omega) hc hu] at hexec
    exact ⟨_, hexec, State.unitOf_setUnit_same .., rfl,
      (((s.only_refl _ _).rcUse (by simp)).rcUse (by simp)).setUnit _ _ (by simp)⟩
  case fails =>
    intro unit node s hd hr hen hl hroom ha _
    have hexec := exec_remoteCmd unit node false hd hr
    rw [State.remoteCmd_bad (s := s.rcUse) _ hen hl ha] at hexec
    have hsys := State.sys_remoteFail (s := s.rcUse) hroom node.toNat
    exact ⟨_, hexec, State.sent_remoteFail (s := s.rcUse) hroom node.toNat, State.get_fails_remoteFail (s := s.rcUse) hroom node.toNat,
      State.on_locked_remoteFail (s := s.rcUse) hroom node.toNat hl, by rw [hsys]; rfl, by rw [hsys]; rfl,
      State.only_rcUse_remoteFail hroom node.toNat⟩
  case locked =>
    intro unit node w b s hd hr hen hl hroom
    have hauth := exec_remoteAuth w node b hd hr
    have hcmd := exec_remoteCmd unit node b hd hr
    obtain ⟨ha, hc⟩ := State.remote_locked (s := s.rcUse) w unit.toNat node.toNat b hen hl
    rw [ha] at hauth
    rw [hc] at hcmd
    have honly : s.only [] [.sys, .fltQ] (s.rcUse.fault 0x02 0x14 node.toNat) :=
      ((s.only_refl _ _).rcUse (by simp)).fault (t := s.rcUse) hroom _ _ _ (by simp)
    have hsys : (s.rcUse.fault 0x02 0x14 node.toNat).sys = s.rcUse.sys := by rw [State.roomy.fault_eq (s := s.rcUse) hroom]
    have hsent := State.roomy.sent_fault (s := s.rcUse) hroom 0x02 0x14 node.toNat
    exact ⟨_, _, hauth, hcmd, hsent, hsent, by rw [hsys]; rfl, by rw [hsys]; rfl, honly, honly⟩
  case off =>
    intro unit node w b s hd hr hen
    have hauth := exec_remoteAuth w node b hd hr
    have hcmd := exec_remoteCmd unit node b hd hr
    obtain ⟨ha, hc⟩ := State.remote_off (s := s.rcUse) w unit.toNat node.toNat b hen
    rw [ha] at hauth
    rw [hc] at hcmd
    exact ⟨_, _, hauth, hcmd, rfl, rfl, s.only_rcUse, s.only_rcUse⟩

end Sys2Proof.Machine

/-! The assertion of a UNIT reset whose record holds a cause of more than eight bits, and the claim about the steps of a UNIT reset
that it refutes. -/
namespace Sys2Proof.Machine

set_option Elab.async false

/-- The fault collector has been asked to become idle, under a cause code of nine bits. -/
def wideCause : UnitSt := ⟨1, 256, false, 0, 16, 0⟩

/-- The hub after power-on with that request alone. -/
def wideCauseState : State := State.reset.setUnit 0x05 (some wideCause)

theorem wideCauseState_unit :
    (wideCauseState.unitAssert 0x05 wideCause).get (RSTC_LOG_W0_UNIT (wideCauseState.get RSTC_LOG_HEAD_NEXT)) = 6 := by decide

/-- Refutes O14: for the record `wideCause` the acknowledgement of the fault collector's idle request writes an entry of the
reset-cause log whose cause runs over into UNIT, which reads 6 and not the unit's code 5 (the sixth clause). -/
theorem not_unitResetSteps : ¬ Obligations.UnitResetSteps := by
  rintro ⟨-, -, -, -, -, hentry, -⟩
  obtain ⟨t, ht, -, -, -, -, hunit, -⟩ := hentry wideCause wideCauseState (by decide) rfl (by decide)
  have hexec : exec (.unitIdleAck 0x05#8) wideCauseState = .next (wideCauseState.unitAssert 0x05 wideCause) :=
    exec_unitIdleAck (by decide) rfl
  rw [hexec] at ht
  obtain rfl := Host.Outcome.next.inj ht
  rw [wideCauseState_unit] at hunit
  exact absurd hunit (by decide)

end Sys2Proof.Machine

/-! The interrupt controller: a look at the groups changes no source, claims, completions and software events change single bits
(R426 to R436), and the settled claim about them. -/
namespace Sys2Proof.Machine

set_option Elab.async false

/-! ### What the state of a source rests on -/

/-- Two states agree outside the interrupt controller's registers and the parts it keeps. -/
structure State.sameSources (s t : State) : Prop where
  rd : ∀ o, blkOf o ≠ 0x06 → t.rd o = s.rd o
  sys : t.sys = s.sys
  lost : t.d2dLost = s.d2dLost
  held : t.lpwRawHeld = s.lpwRawHeld

namespace State.sameSources

variable {s t u : State}

theorem refl (s : State) : s.sameSources s := ⟨fun _ _ => rfl, rfl, rfl, rfl⟩

theorem trans (h : s.sameSources t) (k : t.sameSources u) : s.sameSources u :=
  ⟨fun o ho => (k.rd o ho).trans (h.rd o ho), k.sys.trans h.sys, k.lost.trans h.lost, k.held.trans h.held⟩

theorem of_only {os : List Nat} {ps : List Part} (h : s.only os ps t) (ho : ∀ o ∈ os, blkOf o = 0x06) (hs : .sys ∉ ps)
    (hd : .d2dLost ∉ ps) (hl : .lpwRawHeld ∉ ps) : s.sameSources t :=
  ⟨fun o hb => h.1 o fun hm => hb (ho o hm), h.2 .sys (by simpa using hs), h.2 .d2dLost (by simpa using hd),
    h.2 .lpwRawHeld (by simpa using hl)⟩

theorem on (h : s.sameSources t) {f : Fld} (hf : blkOf f.off ≠ 0x06) : t.on f = s.on f := State.on_congr (h.rd _ hf)

theorem get (h : s.sameSources t) {f : Fld} (hf : blkOf f.off ≠ 0x06) : t.get f = s.get f := State.get_congr (h.rd _ hf)

theorem evtRaised (h : s.sameSources t) {o e : Nat} (ho : blkOf o ≠ 0x06) (he : blkOf e ≠ 0x06) :
    t.evtRaised o e = s.evtRaised o e := by
  rw [State.evtRaised, h.rd o ho, h.rd e he, State.evtRaised]

theorem mboxRaised (h : s.sameSources t) (cons : Nat) : t.mboxRaised cons = s.mboxRaised cons := by
  have hq : ∀ q < 64, blkOf (SQ_CFG q) ≠ 0x06 ∧ blkOf (SQ_CNT q) ≠ 0x06 := by decide
  rw [State.mboxRaised, State.mboxRaised, Bool.eq_iff_iff, List.any_eq_true, List.any_eq_true]
  refine exists_congr fun q => and_congr_right fun hmem => ?_
  obtain ⟨hcfg, hcnt⟩ := hq q (List.mem_range.1 hmem)
  rw [h.on (f := SQ_CFG_EN q) hcfg, h.on (f := SQ_CFG_MBOX q) hcfg, h.get (f := SQ_CFG_CONS q) hcfg,
    h.get (f := SQ_CNT_COUNT q) hcnt]

theorem levelCond (h : s.sameSources t) (n : Nat) : t.levelCond n = s.levelCond n := by
  unfold State.levelCond
  split <;> simp (disch := decide) only [h.rd, h.on, h.evtRaised, h.mboxRaised, h.lost, h.held, State.lpwRaw]

theorem inReset (h : s.sameSources t) (u : Nat) : t.inReset u = s.inReset u :=
  State.inReset_congr (h.rd _ (by decide)) (h.rd _ (by decide)) (by rw [h.sys]) u

theorem raw (h : s.sameSources t) (n : Nat) : t.raw n = s.raw n := by
  rw [State.raw, h.levelCond, h.inReset, State.raw]

end State.sameSources

/-! ### Looking at the groups (R435) -/

/-- The status registers of the groups. -/
abbrev grpStats : List Nat := (List.range 16).map INTC_GRP_STAT

theorem grpStat_mem {g : Nat} (h : g < 16) : INTC_GRP_STAT g ∈ grpStats := List.mem_map.2 ⟨g, List.mem_range.2 h, rfl⟩

namespace State.only

variable {s t : State} {os : List Nat} {ps : List Part}

theorem grpRelease (h : s.only os ps t) {g : Nat} (hg : INTC_GRP_STAT g ∈ os) : s.only os ps (t.grpRelease g) := by
  rw [State.grpRelease]
  split
  · exact h.put 2 hg
  · exact h

end State.only

/-- A group's step changes its own status and the time of its start. -/
theorem State.only_grpStep (s : State) {g : Nat} (hg : g < 16) (n : Nat) : s.only grpStats [.grpT0] (s.grpStep g n) := by
  have hmem := grpStat_mem hg
  have hrefl := s.only_refl grpStats [.grpT0]
  have hidle {t : State} (h : s.only grpStats [.grpT0] t) :
      s.only grpStats [.grpT0] ((t.put (INTC_GRP_STAT_STATE g) 0).put (INTC_GRP_STAT_HELD g) 0) := (h.put 0 hmem).put 0 hmem
  rw [State.grpStep]
  dsimp only
  split
  · split
    · exact hrefl
    · exact (((hrefl.put 1 hmem).put _ hmem).with_grpT0 _ (by simp)).grpRelease hmem
  · have hrel : s.only grpStats [.grpT0] ((s.satAdd (INTC_GRP_STAT_HELD g) n).grpRelease g) := (hrefl.satAdd n hmem).grpRelease hmem
    split
    · split
      · exact hidle hrel
      · exact hrel
    · split
      · exact hrefl
      · exact hidle hrefl

theorem State.only_intcSample (s : State) : s.only grpStats [.grpT0, .seenP] s.intcSample := by
  rw [State.intcSample]
  split
  · exact s.only_refl _ _
  · exact ((s.only_refl _ _).each fun t g hg =>
      (t.only_grpStep (List.mem_range.1 hg) _).mono (List.Subset.refl _) (by simp)).each fun t _ _ =>
        (t.only_refl _ _).with_seenP _ (by simp)

/-! ### Bits of the controller -/

/-- The offsets of the pending and active words are not those of the groups. -/
theorem INTC_PEND_ne_grpStats {j w : Nat} (hj : j < 3) (hw : w < 8) : INTC_PEND j w ∉ grpStats ∧ INTC_CLAIM j w ∉ grpStats := by
  have hall : ∀ j < 3, ∀ w < 8, INTC_PEND j w ∉ grpStats ∧ INTC_CLAIM j w ∉ grpStats := by decide
  exact hall j hj w hw

theorem INTC_ROUTE_notMem {n : Nat} (hn : n < 256) : INTC_ROUTE n ∉ grpStats ∧ ∀ j w, INTC_ROUTE n ≠ INTC_PEND j w := by
  simp only [INTC_ROUTE, INTC_PEND, grpStats, INTC_GRP_STAT, List.mem_map, List.mem_range, not_exists, not_and]
  exact ⟨fun g _ => by omega, fun j w => by omega⟩

/-- A frame of the controller's own registers: what the sources' states rest on besides P and A. -/
theorem State.only.sources {s t : State} {os : List Nat} {ps : List Part} (h : s.only os ps t) (ho : ∀ o ∈ os, blkOf o = 0x06)
    (hp : ∀ p ∈ ps, p = .grpT0 ∨ p = .seenP) : s.sameSources t := by
  refine .of_only h ho ?_ ?_ ?_ <;> exact fun hm => by simpa using hp _ hm

/-- The pending bit of a source, where what it rests on stands. -/
theorem State.intcP_congr {s t : State} (h : s.sameSources t) {j n : Nat} (hr : t.rd (INTC_ROUTE n) = s.rd (INTC_ROUTE n))
    (hA : t.intcA j n = s.intcA j n) (hP : t.rd (INTC_PEND j (n / 32)) = s.rd (INTC_PEND j (n / 32))) :
    t.intcP j n = s.intcP j n := by
  have hroute : t.routed j n = s.routed j n := by rw [State.routed, State.getBit, State.get_congr hr, State.routed, State.getBit]
  have hpend : t.getBit (INTC_PEND_P j (n / 32)) (n % 32) = s.getBit (INTC_PEND_P j (n / 32)) (n % 32) := by
    rw [State.getBit, State.get_congr hP, State.getBit]
  rw [State.intcP, State.intcP, h.raw, hroute, hA, h.inReset, hpend]

/-- The pending and active bits of the sources are not changed by a look at the groups. -/
theorem State.bits_intcSample (s : State) {j n : Nat} (hj : j < 3) (hn : n < 256) :
    s.intcSample.intcA j n = s.intcA j n ∧ s.intcSample.intcP j n = s.intcP j n := by
  have honly := s.only_intcSample
  obtain ⟨hpend, hclaim⟩ := INTC_PEND_ne_grpStats hj (show n / 32 < 8 by omega)
  have hA : s.intcSample.intcA j n = s.intcA j n := by
    rw [State.intcA, State.getBit, honly.get_eq (f := INTC_CLAIM_A j (n / 32)) hclaim, State.intcA, State.getBit]
  refine ⟨hA, State.intcP_congr ?_ (honly.1 _ (INTC_ROUTE_notMem hn).1) hA (honly.1 _ hpend)⟩
  exact honly.sources (by decide) (by simp)

/-! ### Claims, completions and software events (R429) -/

theorem INTC_PEND_ne_CLAIM (j w k v : Nat) (hw : w < 8) (hv : v < 8) : INTC_PEND j w ≠ INTC_CLAIM k v := by
  simp only [INTC_PEND, INTC_CLAIM]
  omega

/-- A frame of the controller's words for one target. -/
theorem State.only_claimOne (s : State) (j n : Nat) : s.only [INTC_PEND j (n / 32), INTC_CLAIM j (n / 32)] [] (s.claimOne j n) := by
  rw [State.claimOne]
  split
  · exact ((s.only_refl _ _).clrBit _ (by simp [INTC_PEND_P])).setBit _ (by simp [INTC_CLAIM_A])
  · exact s.only_refl _ _

theorem State.only_doneOne (s : State) (j n : Nat) : s.only [INTC_CLAIM j (n / 32)] [] (s.doneOne j n) := by
  rw [State.doneOne]
  split
  · exact (s.only_refl _ _).clrBit _ (by simp [INTC_CLAIM_A])
  · exact s.only_refl _ _

theorem blkOf_claimWords {j w : Nat} (hj : j < 3) (hw : w < 8) : ∀ o ∈ [INTC_PEND j w, INTC_CLAIM j w], blkOf o = 0x06 := by
  have hall : ∀ j < 3, ∀ w < 8, ∀ o ∈ [INTC_PEND j w, INTC_CLAIM j w], blkOf o = 0x06 := by decide
  exact hall j hj w hw

/-- The claim of a source sets A of a pending source; other sources keep theirs. -/
theorem State.intcA_claimOne (s : State) (j : Nat) {n m : Nat} (hn : n < 256) (hm : m / 32 = n / 32) :
    (s.claimOne j n).intcA j m = (s.intcA j m || (decide (m = n) && s.intcP j n)) := by
  have hA (i : Nat) : (s.clrBit (INTC_PEND_P j (n / 32)) i).getBit (INTC_CLAIM_A j (n / 32)) (m % 32) = s.intcA j m := by
    rw [State.intcA, hm]
    exact State.getBit_clrBit_off _ _ _ (INTC_PEND_ne_CLAIM j (n / 32) j (n / 32) (by omega) (by omega)).symm
  rw [State.claimOne]
  cases s.intcP j n with
  | false => simp
  | true =>
    rw [if_pos rfl, State.intcA, hm, State.getBit_setBit _ _ rfl (show n % 32 < 32 by omega), hA, Bool.and_true, Bool.or_comm,
      show decide (m % 32 = n % 32) = decide (m = n) from decide_eq_decide.2 ⟨fun _ => by omega, fun h => by rw [h]⟩]

/-- The claim of a source ends its P; other sources keep theirs. -/
theorem State.intcP_claimOne (s : State) {j n m : Nat} (hj : j < 3) (hn : n < 256) (hm : m / 32 = n / 32) :
    (s.claimOne j n).intcP j m = (s.intcP j m && !decide (m = n)) := by
  have honly := s.only_claimOne j n
  have hsrc : s.sameSources (s.claimOne j n) := honly.sources (blkOf_claimWords hj (by omega)) (by simp)
  have hroute : (s.claimOne j n).routed j m = s.routed j m := by
    refine State.getBit_congr (honly.1 _ ?_) _
    simp only [INTC_ROUTE_TGT, INTC_ROUTE, INTC_PEND, INTC_CLAIM, List.mem_cons, List.not_mem_nil, or_false]
    omega
  have hA := s.intcA_claimOne j hn hm
  have hoff : (INTC_PEND_P j (n / 32)).off ≠ (INTC_CLAIM_A j (n / 32)).off := INTC_PEND_ne_CLAIM _ _ _ _ (by omega) (by omega)
  by_cases hmn : m = n
  · subst hmn
    cases hP : s.intcP j m with
    | false => rw [State.claimOne, hP, if_neg (by decide), hP, Bool.false_and]
    | true =>
      rw [decide_eq_true rfl, hP, Bool.true_and, Bool.or_true] at hA
      have hcleared : (s.claimOne j m).getBit (INTC_PEND_P j (m / 32)) (m % 32) = false := by
        rw [State.claimOne, hP, if_pos rfl, State.getBit_setBit_off _ _ _ hoff, State.getBit_clrBit _ _ rfl]
      rw [State.intcP, hA, hcleared]
      cases intcKind m with
      | none => simp
      | some b => cases b <;> simp
  · rw [decide_eq_false hmn, Bool.not_false, Bool.and_true]
    rw [decide_eq_false hmn, Bool.false_and, Bool.or_false] at hA
    have hbit : (s.claimOne j n).getBit (INTC_PEND_P j (n / 32)) (m % 32) = s.getBit (INTC_PEND_P j (n / 32)) (m % 32) := by
      rw [State.claimOne]
      split
      · rw [State.getBit_setBit_off _ _ _ hoff, State.getBit_clrBit_ne _ rfl (by omega)]
      · rfl
    rw [State.intcP, State.intcP, hsrc.raw, hroute, hA, hsrc.inReset, hm, hbit]

/-- Claims of the sources of a word, one after another. -/
theorem State.bits_claimEach {j w : Nat} (hj : j < 3) (hw : w < 8) (l : List Nat) (hl : ∀ i ∈ l, i < 32) (s : State) {k : Nat} (hk : k < 32) :
    (s.each l fun x i => x.claimOne j (32 * w + i)).intcA j (32 * w + k) =
        (s.intcA j (32 * w + k) || (decide (k ∈ l) && s.intcP j (32 * w + k))) ∧
      (s.each l fun x i => x.claimOne j (32 * w + i)).intcP j (32 * w + k) =
        (s.intcP j (32 * w + k) && !decide (k ∈ l)) := by
  induction l generalizing s with
  | nil => simp [State.each]
  | cons i l ih =>
    have hi : i < 32 := hl i (by simp)
    obtain ⟨hA, hP⟩ := ih (fun a ha => hl a (by simp [ha])) (s.claimOne j (32 * w + i))
    have hA1 := s.intcA_claimOne j (n := 32 * w + i) (m := 32 * w + k) (by omega) (by omega)
    have hP1 := s.intcP_claimOne hj (n := 32 * w + i) (m := 32 * w + k) (by omega) (by omega)
    rw [show s.each (i :: l) _ = (s.claimOne j (32 * w + i)).each l _ from rfl, hA, hP, hA1, hP1]
    by_cases hki : k = i
    · subst hki
      simp
    · simp [hki]

theorem State.intcA_doneOne (s : State) (j : Nat) {n m : Nat} (hm : m / 32 = n / 32) :
    (s.doneOne j n).intcA j m = (s.intcA j m && !decide (m = n)) := by
  rw [State.doneOne]
  by_cases hmn : m = n
  · subst hmn
    cases hA : s.intcA j m with
    | false => rw [if_neg (by decide), hA, Bool.false_and]
    | true => rw [if_pos rfl, State.intcA, State.getBit_clrBit _ _ rfl, decide_eq_true rfl, Bool.not_true, Bool.and_false]
  · rw [decide_eq_false hmn, Bool.not_false, Bool.and_true]
    split
    · rw [State.intcA, hm, State.getBit_clrBit_ne _ rfl (by omega), State.intcA, hm]
    · rfl

theorem State.intcA_doneEach {j w : Nat} (l : List Nat) (hl : ∀ i ∈ l, i < 32) (s : State) {k : Nat} (hk : k < 32) :
    (s.each l fun x i => x.doneOne j (32 * w + i)).intcA j (32 * w + k) = (s.intcA j (32 * w + k) && !decide (k ∈ l)) := by
  induction l generalizing s with
  | nil => simp [State.each]
  | cons i l ih =>
    have hi : i < 32 := hl i (by simp)
    rw [show s.each (i :: l) _ = (s.doneOne j (32 * w + i)).each l _ from rfl, ih (fun a ha => hl a (by simp [ha])),
      s.intcA_doneOne j (n := 32 * w + i) (m := 32 * w + k) (by omega)]
    by_cases hki : k = i
    · subst hki
      simp
    · simp [hki]

/-- A software event sets P of its source for the targets its ROUTE names (R426). -/
theorem State.getBit_swiOne {s : State} (h6 : s.inReset 0x06 = false) {n m j : Nat} (hn : n < 8) (hm : m < 8) (hj : j < 3) :
    (s.edgeIrq 0x06 n).getBit (INTC_PEND_P j 0) m = (s.getBit (INTC_PEND_P j 0) m || (decide (m = n) && s.routed j n)) := by
  rw [State.edgeIrq, if_neg (by simp [h6]), show n / 32 = 0 by omega, show n % 32 = n by omega]
  by_cases hmn : m = n
  · subst hmn
    rw [State.getBit_pend_each _ _ _ _ _ (by decide) (by omega), decide_eq_true rfl, Bool.true_and, Bool.or_comm]
    congr 1
    rw [Bool.eq_iff_iff, decide_eq_true_iff, mem_bitList]
    exact and_iff_right hj
  · rw [decide_eq_false hmn, Bool.false_and, Bool.or_false]
    have hkeep (l : List Nat) (t : State) : (t.each l fun s j => s.setBit (INTC_PEND_P j 0) n).getBit (INTC_PEND_P j 0) m =
        t.getBit (INTC_PEND_P j 0) m := by
      induction l generalizing t with
      | nil => rfl
      | cons i l ih =>
        refine (ih _).trans ?_
        by_cases hij : j = i
        · subst hij
          rw [State.getBit_setBit _ _ rfl (show n < 32 by omega), decide_eq_false hmn, Bool.false_or]
        · exact State.getBit_setBit_off _ _ _ fun h => hij (INTC_PEND_inj (by decide) (by decide) h).1
    exact hkeep _ s

theorem State.getBit_swiEach (l : List Nat) (hl : ∀ n ∈ l, n < 8) {s : State} (h6 : s.inReset 0x06 = false) {m j : Nat} (hm : m < 8)
    (hj : j < 3) : (s.each l fun x n => x.edgeIrq 0x06 n).getBit (INTC_PEND_P j 0) m =
      (s.getBit (INTC_PEND_P j 0) m || (decide (m ∈ l) && s.routed j m)) := by
  induction l generalizing s with
  | nil => simp [State.each]
  | cons n l ih =>
    have hn : n < 8 := hl n (by simp)
    have honly : s.only pendLow [] (s.edgeIrq 0x06 n) := (s.only_refl _ _).edgeIrq _ (by omega) (List.Subset.refl _)
    have hroute : (s.edgeIrq 0x06 n).routed j m = s.routed j m := by
      refine State.getBit_congr (honly.1 _ ?_) _
      have hne := (INTC_ROUTE_notMem (n := m) (by omega)).2
      simpa [INTC_ROUTE_TGT] using ⟨hne 0 0, hne 1 0, hne 2 0⟩
    rw [show s.each (n :: l) _ = (s.edgeIrq 0x06 n).each l _ from rfl, ih (fun a ha => hl a (by simp [ha]))
      ((honly.inReset_eq (by decide) (by decide) (by simp) _).trans h6), hroute, State.getBit_swiOne h6 hn hm hj]
    by_cases hmn : m = n
    · subst hmn
      cases s.getBit (INTC_PEND_P j 0) m <;> cases s.routed j m <;> simp
    · simp [hmn]

theorem State.intcP_of_edge {s : State} {j n : Nat} (h : intcKind n = some true) :
    s.intcP j n = s.getBit (INTC_PEND_P j (n / 32)) (n % 32) := by rw [State.intcP, h]

theorem mem_bitList_toNat {k : Nat} (hk : k < 32) (m : Word) : decide (k ∈ bitList 32 m.toNat) = m.getLsbD k := by
  rw [Bool.eq_iff_iff, decide_eq_true_iff, mem_bitList]
  exact and_iff_right hk

/-! ### The commands -/

theorem exec_intcCmd {s : State} {off : Nat} (f : State → State) (h6 : s.inReset 0x06 = false) (ho : blkOf off = 0x06) :
    s.cmd off f = f s := s.cmd_run off f (State.dark_eq_false_of_inReset (by decide) h6) (by rw [ho]; exact h6)

/-- What a claim of a word changes: its P and A, and the groups. -/
theorem State.only_claim (s : State) {j w : Nat} (m : Word) :
    s.only ([INTC_PEND j w, INTC_CLAIM j w] ++ grpStats) [.grpT0, .seenP] (s.claim j w m) := by
  have hlook (t : State) : t.only ([INTC_PEND j w, INTC_CLAIM j w] ++ grpStats) [.grpT0, .seenP] t.intcSample :=
    t.only_intcSample.mono (by simp) (List.Subset.refl _)
  refine ((hlook s).each fun t i hi => ?_).trans (hlook _)
  have hone := t.only_claimOne j (32 * w + i)
  rw [show (32 * w + i) / 32 = w by have := (mem_bitList.1 hi).1; omega] at hone
  exact hone.mono (by simp) (by simp)

theorem State.only_complete (s : State) {j w : Nat} (m : Word) :
    s.only (INTC_CLAIM j w :: grpStats) [.grpT0, .seenP] (s.complete j w m) := by
  have hlook (t : State) : t.only (INTC_CLAIM j w :: grpStats) [.grpT0, .seenP] t.intcSample :=
    t.only_intcSample.mono (by simp) (List.Subset.refl _)
  refine ((hlook s).each fun t i hi => ?_).trans (hlook _)
  have hone := t.only_doneOne j (32 * w + i)
  rw [show (32 * w + i) / 32 = w by have := (mem_bitList.1 hi).1; omega] at hone
  exact hone.mono (by simp) (by simp)

theorem State.only_swi (s : State) (m : Nat) : s.only (pendLow ++ grpStats) [.grpT0, .seenP] (s.swi m) := by
  have hlook (t : State) : t.only (pendLow ++ grpStats) [.grpT0, .seenP] t.intcSample :=
    t.only_intcSample.mono (List.subset_append_right _ _) (List.Subset.refl _)
  refine ((hlook s).each fun t i hi => ?_).trans (hlook _)
  have hi8 : i < 8 := (mem_bitList.1 hi).1
  exact (t.only_refl _ _).edgeIrq _ (by omega) (by simp)

/-- Settles O44: each command looks at the groups, changes single bits (`State.bits_claimEach`, `State.intcA_doneEach`,
`State.getBit_swiEach`) and looks again, and a look leaves P and A (`State.bits_intcSample`). -/
theorem interruptClaims : Obligations.InterruptClaims := by
  refine ⟨?claim, ?done, ?swi, ?timeout⟩
  case claim =>
    intro tg w mask s h6
    have hexec := exec_intcCmd (s := s) (fun s => s.claim tg.val w.val mask) h6
      ((show ∀ (t : Fin 3) (w : Fin 8), blkOf (INTC_CLAIM t.val w.val) = 0x06 by decide) tg w)
    have hbits (i : Nat) (hi : i < 32) : (s.claim tg.val w.val mask).intcA tg.val (32 * w.val + i) =
          (s.intcA tg.val (32 * w.val + i) || (mask.getLsbD i && s.intcP tg.val (32 * w.val + i))) ∧
        (s.claim tg.val w.val mask).intcP tg.val (32 * w.val + i) =
          (s.intcP tg.val (32 * w.val + i) && !mask.getLsbD i) := by
      obtain ⟨hA, hP⟩ := State.bits_claimEach tg.isLt w.isLt (bitList 32 mask.toNat) (fun a ha => (mem_bitList.1 ha).1) s.intcSample hi
      obtain ⟨hA0, hP0⟩ := s.bits_intcSample tg.isLt (n := 32 * w.val + i) (by omega)
      obtain ⟨hA1, hP1⟩ := State.bits_intcSample
        (s.intcSample.each (bitList 32 mask.toNat) fun x i => x.claimOne tg.val (32 * w.val + i)) tg.isLt
        (n := 32 * w.val + i) (by omega)
      rw [hA0, hP0, mem_bitList_toNat hi] at hA
      rw [hP0, mem_bitList_toNat hi] at hP
      exact ⟨hA1.trans hA, hP1.trans hP⟩
    exact ⟨_, congrArg Host.Outcome.next hexec, fun i hi => (hbits i hi).1, fun i hi _ => (hbits i hi).2, s.only_claim mask⟩
  case done =>
    intro tg w mask s h6
    have hexec := exec_intcCmd (s := s) (fun s => s.complete tg.val w.val mask) h6
      ((show ∀ (t : Fin 3) (w : Fin 8), blkOf (INTC_DONE t.val w.val) = 0x06 by decide) tg w)
    refine ⟨_, congrArg Host.Outcome.next hexec, fun i hi => ?_, s.only_complete mask⟩
    have hA := State.intcA_doneEach (j := tg.val) (w := w.val) (bitList 32 mask.toNat) (fun a ha => (mem_bitList.1 ha).1)
      s.intcSample hi
    rw [(s.bits_intcSample tg.isLt (n := 32 * w.val + i) (by omega)).1, mem_bitList_toNat hi] at hA
    exact (State.bits_intcSample _ tg.isLt (n := 32 * w.val + i) (by omega)).1.trans hA
  case swi =>
    intro mask s h6
    have hexec := exec_intcCmd (s := s) (fun s => s.swi mask.toNat) h6 (off := INTC_SWI) (by decide)
    refine ⟨_, congrArg Host.Outcome.next hexec, fun n hn j hj => ?_, s.only_swi _⟩
    have hkind : intcKind n = some true := if_pos (by omega)
    have hlook := s.only_intcSample
    have h6' : s.intcSample.inReset 0x06 = false :=
      ((hlook.sources (by decide) (by simp)).inReset 0x06).trans h6
    have hroute : s.intcSample.routed j n = s.routed j n :=
      State.getBit_congr (hlook.1 _ (INTC_ROUTE_notMem (n := n) (by omega)).1) _
    have hbit := State.getBit_swiEach (bitList 8 mask.toNat) (fun a ha => (mem_bitList.1 ha).1) h6' hn hj
    have hmem : decide (n ∈ bitList 8 mask.toNat) = mask.getLsbD n := by
      rw [Bool.eq_iff_iff, decide_eq_true_iff, mem_bitList]
      exact and_iff_right hn
    have hP0 := (s.bits_intcSample hj (n := n) (by omega)).2
    rw [State.intcP_of_edge hkind, show n / 32 = 0 by omega, show n % 32 = n by omega] at hP0
    rw [hP0, hmem, hroute] at hbit
    refine (State.bits_intcSample _ hj (n := n) (by omega)).2.trans ?_
    rw [State.intcP_of_edge hkind, show n / 32 = 0 by omega, show n % 32 = n by omega]
    exact hbit
  case timeout =>
    intro g s h6 hst
    have hexec : exec (.coalesceTimeout g) s = .next (s.intcSample.put (INTC_GRP_STAT_STATE g.val) 2) := by
      rw [show exec (.coalesceTimeout g) s = execCoalesceTimeout g s from rfl, execCoalesceTimeout]
      simp [h6, hst]
    have hput : s.intcSample.only [INTC_GRP_STAT g.val] [] (s.intcSample.put (INTC_GRP_STAT_STATE g.val) 2) :=
      State.only_put _ (INTC_GRP_STAT_STATE g.val) 2
    exact ⟨_, hexec, State.get_put_self _ rfl (show 2 < 2 ^ 2 by decide), State.get_put_apart _ _ rfl, hput,
      s.only_intcSample.trans (hput.mono (by simpa using ⟨g.val, g.isLt, rfl⟩) (by simp))⟩

end Sys2Proof.Machine

/-! Accesses of bivouac memory (R104, R105), and the settled claim about it. -/
namespace Sys2Proof.Machine

set_option Elab.async false

/-- An offset of the window onto bivouac memory, at a whole word. -/
structure bivWord (o : Nat) : Prop where
  lo : 0x188000 ≤ o
  hi : o < 0x190000
  word : o % 4 = 0

namespace bivWord

variable {o : Nat}

theorem blk (h : bivWord o) : blkOf o = 0x18 := by
  obtain ⟨lo, hi, -⟩ := h
  rw [blkOf]
  omega

theorem notStore (h : bivWord o) : ¬(storeBase ≤ o ∧ o < storeBase + storeSize) := by
  obtain ⟨-, hi, -⟩ := h
  simp only [storeBase, storeSize]
  omega

theorem leadsTo (h : bivWord o) (s : State) : s.leadsTo o = some o := by
  obtain ⟨lo, hi, -⟩ := h
  rw [State.leadsTo, if_pos hi, oneWindow, if_neg (by omega), if_neg (by omega)]

end bivWord

/-- An access of a word of the window, while bivouac memory is out of reset. -/
theorem State.regAccess_biv {s : State} {o : Nat} (h : bivWord o) (who : Who) (write bcast : Bool) (data : Nat)
    (hr : s.inReset 0x18 = false) : s.regAccess who write bcast 4 o data =
      if write ∧ s.outside who ∧ !s.on BIV_CTL_EXT_WR then (s.fault 0x18 0x04 (s.selfAddr o), some (0x06, 0))
      else if !s.on BIV_STAT_INIT_DONE then
        ({ s with biv := { s.biv with wait := s.biv.wait ++ [⟨who, write, 4, o, data⟩] } }, none)
      else ((s.bivDo write o (BitVec.ofNat 32 data)).1, some (s.bivDo write o (BitVec.ofNat 32 data)).2) := by
  simp [State.regAccess, h.leadsTo, h.blk, hr, h.lo, h.hi, h.word]

theorem State.regDone_live {s : State} (hd : s.dark = false) (who : Who) (write bcast : Bool) (size o data : Nat) :
    s.regDone who write bcast size o data =
      match (s.regAccess who write bcast size o data).2 with
      | some (st, d) => (s.regAccess who write bcast size o data).1.answer (whoKey who) st d
      | none => (s.regAccess who write bcast size o data).1 := by
  rw [State.regDone, hd]
  rfl

theorem exec_registerWrite_reg {off : BitVec 38} (h : ¬(storeBase ≤ off.toNat ∧ off.toNat < storeBase + storeSize)) (who : Who)
    (bcast : Bool) (size : Fin 4) (data : DWord) (s : State) : exec (.registerWrite who bcast size off data []) s =
      .next (s.regDone who true bcast (2 ^ size.val) off.toNat data.toNat) := by
  rw [show exec (.registerWrite who bcast size off data []) s = execRegisterWrite who bcast size off data [] s from rfl,
    execRegisterWrite, if_neg h]
  rfl

theorem exec_registerRead_reg {off : BitVec 38} (h : ¬(storeBase ≤ off.toNat ∧ off.toNat < storeBase + storeSize)) (who : Who)
    (size : Fin 4) (s : State) : exec (.registerRead who size off []) s =
      .next (s.regDone who false false (2 ^ size.val) off.toNat 0) := by
  rw [show exec (.registerRead who size off []) s = execRegisterRead who size off [] s from rfl, execRegisterRead, if_neg h]
  rfl

/-! ### One word -/

/-- The four bytes of a word as it reads. -/
def State.bivLoad (s : State) (o : Nat) : Nat := ofLeBytes (Tab.getList bivDefault s.biv.mem (s.bivAddr o) 4)

/-- A word stored, with its error mark gone. -/
def State.bivPoke (s : State) (o : Nat) (v : Word) : State :=
  State.setBivMark { s with biv := { s.biv with mem := Tab.setList bivDefault s.biv.mem (s.bivAddr o) (leBytes 4 v.toNat) } }
    (s.bivAddr o / 4) none

theorem State.bivDo_write (s : State) (o : Nat) (v : Word) : s.bivDo true o v = (s.bivPoke o v, 0, 0) := rfl

theorem State.bivDo_good {s : State} {o : Nat} (v : Word) (h : s.bivMark (s.bivAddr o / 4) = none) :
    s.bivDo false o v = (s, 0, s.bivLoad o) := by
  simp [State.bivDo, h, State.bivLoad]

theorem State.bivDo_ue {s : State} {o : Nat} {m : Mark} (v : Word) (h : s.bivMark (s.bivAddr o / 4) = some m) (hu : m.uncorr = true) :
    s.bivDo false o v = ((s.put BIV_STAT_UE 1).fault 0x18 0x07 (s.selfAddr o), 0x07, 0) := by
  simp [State.bivDo, h, hu]

theorem State.bivDo_ce {s : State} {o : Nat} {m : Mark} (v : Word) (h : s.bivMark (s.bivAddr o / 4) = some m)
    (hu : m.uncorr = false) : s.bivDo false o v =
      (((s.setBivMark (s.bivAddr o / 4) none).put BIV_STAT_CE 1).fault 0x18 0x06 (s.selfAddr o), 0, s.bivLoad o) := by
  simp [State.bivDo, h, hu, State.bivLoad]

theorem State.bivMark_setBivMark (s : State) (w : Nat) (m : Option Mark) (v : Nat) :
    (s.setBivMark w m).bivMark v = if v = w then m else s.bivMark v := Tab.get_set ..

theorem State.bivPoke_bytes (s : State) (o : Nat) (v : Word) :
    ofLeBytes (Tab.getList bivDefault (s.bivPoke o v).biv.mem (s.bivAddr o) 4) = v.toNat ∧
      ∀ a, a < s.bivAddr o ∨ s.bivAddr o + 4 ≤ a →
        Tab.get bivDefault (s.bivPoke o v).biv.mem a = Tab.get bivDefault s.biv.mem a := by
  refine ⟨?_, fun a ha => Tab.get_setList_out _ _ _ _ _ (by rwa [length_leBytes])⟩
  have hread := Tab.getList_setList bivDefault (leBytes 4 v.toNat) s.biv.mem (s.bivAddr o)
  rw [length_leBytes] at hread
  rw [show (s.bivPoke o v).biv.mem = Tab.setList bivDefault s.biv.mem (s.bivAddr o) (leBytes 4 v.toNat) from rfl, hread,
    ofLeBytes_leBytes, Nat.mod_eq_of_lt v.isLt]

theorem State.only.setBivMark {s t : State} {os : List Nat} {ps : List Part} (h : s.only os ps t) (w : Nat) (m : Option Mark)
    (hp : .biv ∈ ps) : s.only os ps (t.setBivMark w m) := h.with_biv _ hp

/-- Settles O60: an access is judged by `State.regAccess_biv` and done by `State.bivDo`, case by case of the word's error mark. -/
theorem bivouacMemory : Obligations.BivouacMemory := by
  refine ⟨?write, ?good, ?ue, ?ce, ?barred, ?wait, ?zeroed⟩
  case write =>
    intro who bcast off data s lo hd hi hw hr hinit hext
    have hb : bivWord off.toNat := ⟨lo, hi, hw⟩
    have hbar : ¬(s.outside who = true ∧ s.on BIV_CTL_EXT_WR = false) := by
      rintro ⟨ho, he⟩
      simp [ho, he] at hext
    have hexec := exec_registerWrite_reg hb.notStore who bcast 2 data s
    rw [State.regDone_live hd, show 2 ^ (2 : Fin 4).val = 4 from rfl, State.regAccess_biv hb _ _ _ _ hr] at hexec
    simp only [hinit, true_and, Bool.not_eq_true', hbar, if_false, Bool.not_true, Bool.false_eq_true, State.bivDo_write] at hexec
    obtain ⟨hread, hout⟩ := s.bivPoke_bytes off.toNat (BitVec.ofNat 32 data.toNat)
    rw [BitVec.toNat_ofNat] at hread
    exact ⟨_, hexec, rfl, hread, hout, (State.bivMark_setBivMark ..).trans (if_pos rfl),
      (((s.only_refl _ _).with_biv _ (by simp)).setBivMark _ _ (by simp)).answer _ _ _ (by simp)⟩
  case good =>
    intro who off s lo hd hi hw hr hinit hm
    have hb : bivWord off.toNat := ⟨lo, hi, hw⟩
    have hexec := exec_registerRead_reg hb.notStore who 2 s
    rw [State.regDone_live hd, show 2 ^ (2 : Fin 4).val = 4 from rfl, State.regAccess_biv hb _ _ _ _ hr] at hexec
    simp only [hinit, Bool.false_eq_true, false_and, if_false, Bool.not_true, State.bivDo_good _ hm] at hexec
    exact ⟨_, hexec, rfl, s.only_answer _ _ _⟩
  case ue =>
    intro who off m s lo hd hi hw hr hinit hroom hm hu
    have hb : bivWord off.toNat := ⟨lo, hi, hw⟩
    have hexec := exec_registerRead_reg hb.notStore who 2 s
    rw [State.regDone_live hd, show 2 ^ (2 : Fin 4).val = 4 from rfl, State.regAccess_biv hb _ _ _ _ hr] at hexec
    simp only [hinit, Bool.false_eq_true, false_and, if_false, Bool.not_true, State.bivDo_ue _ hm hu] at hexec
    have hroom' : (s.put BIV_STAT_UE 1).roomy := hroom.put 1 (by decide) (by decide)
    have honly : s.only [BIV_STAT] [.resp, .fltQ] ((s.put BIV_STAT_UE 1).fault 0x18 0x07 (s.selfAddr off.toNat)) :=
      ((s.only_refl _ _).put 1 (by simp [BIV_STAT_UE])).fault hroom' _ _ _ (by simp)
    refine ⟨_, hexec, rfl, ?_, hroom'.sent_fault 0x18 0x07 (s.selfAddr off.toNat), honly.answer _ _ _ (by simp)⟩
    rw [State.get_answer, hroom'.fault_eq]
    exact State.get_put_self _ rfl (by decide)
  case ce =>
    intro who off m s lo hd hi hw hr hinit hroom hm hu
    have hb : bivWord off.toNat := ⟨lo, hi, hw⟩
    have hexec := exec_registerRead_reg hb.notStore who 2 s
    rw [State.regDone_live hd, show 2 ^ (2 : Fin 4).val = 4 from rfl, State.regAccess_biv hb _ _ _ _ hr] at hexec
    simp only [hinit, Bool.false_eq_true, false_and, if_false, Bool.not_true, State.bivDo_ce _ hm hu] at hexec
    have hroom' : ((s.setBivMark (s.bivAddr off.toNat / 4) none).put BIV_STAT_CE 1).roomy :=
      State.roomy.put (s := s.setBivMark (s.bivAddr off.toNat / 4) none) hroom 1 (by decide) (by decide)
    have hput : s.only [BIV_STAT] [.biv, .resp, .fltQ] ((s.setBivMark (s.bivAddr off.toNat / 4) none).put BIV_STAT_CE 1) :=
      ((s.only_refl _ _).setBivMark _ _ (by simp)).put 1 (by simp [BIV_STAT_CE])
    refine ⟨_, hexec, rfl, ?_, ?_, ?_, hroom'.sent_fault 0x18 0x06 (s.selfAddr off.toNat),
      (hput.fault hroom' _ _ _ (by simp)).answer _ _ _ (by simp)⟩
    all_goals rw [hroom'.fault_eq]
    · exact State.get_put_self (s.setBivMark (s.bivAddr off.toNat / 4) none) rfl (by decide)
    · exact (State.bivMark_setBivMark ..).trans (if_pos rfl)
    · rfl
  case barred =>
    intro who bcast off data s lo hd hi hw hr hout hext hroom
    have hb : bivWord off.toNat := ⟨lo, hi, hw⟩
    have hexec := exec_registerWrite_reg hb.notStore who bcast 2 data s
    rw [State.regDone_live hd, show 2 ^ (2 : Fin 4).val = 4 from rfl, State.regAccess_biv hb _ _ _ _ hr] at hexec
    simp only [hout, hext, Bool.not_false, true_and, if_true] at hexec
    exact ⟨_, hexec, rfl, hroom.sent_fault 0x18 0x04 (s.selfAddr off.toNat),
      ((s.only_refl _ _).fault hroom _ _ _ (by simp)).answer _ _ _ (by simp)⟩
  case wait =>
    intro who off s lo hd hi hw hr hinit
    have hb : bivWord off.toNat := ⟨lo, hi, hw⟩
    have hexec := exec_registerRead_reg hb.notStore who 2 s
    rw [State.regDone_live hd, show 2 ^ (2 : Fin 4).val = 4 from rfl, State.regAccess_biv hb _ _ _ _ hr] at hexec
    simp only [hinit, Bool.false_eq_true, false_and, if_false, Bool.not_false, if_true] at hexec
    exact ⟨_, hexec, rfl, (s.only_refl _ _).with_biv _ (by simp)⟩
  case zeroed =>
    intro s hinit hup hdie hwait
    have hexec : exec .bivouacZeroingDone s = .next (({ s with biv := ⟨[], [], []⟩ } : State).put BIV_STAT_INIT_DONE 1) := by
      rw [show exec .bivouacZeroingDone s = execBivouacZeroingDone s from rfl, execBivouacZeroingDone]
      simp [hinit, hup, hdie, hwait, State.each]
    exact ⟨_, hexec, State.get_put_self _ rfl (by decide), rfl, ((s.only_refl _ _).with_biv _ (by simp)).put 1 (by simp [BIV_STAT_INIT_DONE])⟩

end Sys2Proof.Machine

/-! The end of a fence that brings its counter to the top, and the claim about fences and semaphores that it refutes. -/
namespace Sys2Proof.Machine

set_option Elab.async false

/-- The hub after power-on with the fence of requester 0 running and the counter of fences one below its top. -/
def lastFenceState : State := { State.reset.put (HBR_FENCE_STAT_BUSY 0) 1 with live := [(HBR_CNT 4, 2 ^ 48 - 2)] }

theorem exec_fenceComplete {s : State} {r : Fin 5} (h : s.inReset 0x14 = false) (hr : s.fenceReady r.val = true) :
    exec (.fenceComplete r) s = .next (s.fenceEnd r.val) := by
  rw [show exec (.fenceComplete r) s = execFenceComplete r s from rfl, execFenceComplete]
  simp [h, hr]

/-- The counter that reaches its top sets SAT of the host bridge's events (R56). -/
theorem lastFenceState_sat : (lastFenceState.fenceEnd 0).get HBR_EVT_SAT = 1 ∧ lastFenceState.get HBR_EVT_SAT = 0 := by decide

/-- Refutes O56: at the end of a fence that is counted last before the counter's top, HBR_EVT.SAT is set, while the third clause
has no register but HBR_FENCE_STAT change. -/
theorem not_fencesAndSemaphores : ¬ Obligations.FencesAndSemaphores := by
  rintro ⟨-, -, hend, -⟩
  obtain ⟨t, ht, -, -, -, -, -, honly⟩ := hend 0 lastFenceState (by decide) (by decide) (by decide)
  rw [exec_fenceComplete (by decide) (by decide)] at ht
  obtain rfl := Host.Outcome.next.inj ht
  have hsat := honly.get_eq (f := HBR_EVT_SAT) (by decide)
  rw [show (0 : Fin 5).val = 0 from rfl, lastFenceState_sat.1, lastFenceState_sat.2] at hsat
  exact absurd hsat (by decide)

end Sys2Proof.Machine

/-! Counters that reach their top. R56 has a counter that comes to all ones set SAT of its block; the claims of this file name the
registers a command changes and leave that one out, so the state in which the counter stands one below its top refutes each. -/
namespace Sys2Proof.Machine

set_option Elab.async false

/-- The state a command leads to. -/
def State.after (s : State) (c : Instr) : State :=
  match exec c s with
  | .next t => t
  | _ => s

theorem State.after_eq {s t : State} {c : Instr} (h : exec c s = .next t) : s.after c = t := by rw [State.after, h]

/-- A field that a command changes breaks every frame that leaves its register out. -/
theorem State.not_only_of_after {s t : State} {c : Instr} {os : List Nat} {ps : List Part} (h : exec c s = .next t) (f : Fld)
    (hf : f.off ∉ os) (hne : (s.after c).get f ≠ s.get f) : ¬ s.only os ps t := by
  intro honly
  rw [s.after_eq h] at hne
  exact hne (honly.get_eq hf)

/-- The state with one live counter one below its top. -/
def State.nearTop (s : State) (o : Nat) : State := { s with live := [(o, 2 ^ 48 - 2)] }

/-- A hub whose rails stand, whose store is zeroed, and which the census has listed as node 5, with both directions up. -/
def node5 : State :=
  (((((State.reset.put LPW_STAT_RAILS_OK 1).put MSA_STAT_INIT_DONE 1).put RPE_NODE_NODE 5).put RPE_STAT_LISTED 1).put
    RED_STAT_CW 0).put RED_STAT_CCW 0

/-! ### Lanes -/

/-- A lane in QUALIFY whose bit errors stand one below the top. -/
def lastHeaderError : State :=
  ((node5.put (LANE_TRAIN_STATE 1) 6).put (LANE_STAT_CDR_LOCK 1) 1).nearTop (LANE_HDR_ERRS 1)

/-- Refutes O24: an invalid sync header in QUALIFY is the last that LANE_HDR_ERRS counts, and LANE_EVT.SAT is set, which the clause
on it leaves out. -/
theorem not_laneTraining : ¬ Obligations.LaneTraining := by
  rintro ⟨-, -, -, -, -, -, -, -, -, -, -, -, hhdr, -⟩
  obtain ⟨t, ht, -, -, -, -, honly⟩ := hhdr 1 lastHeaderError (by decide +kernel) (by decide +kernel) (by decide +kernel)
  exact State.not_only_of_after ht (LANE_EVT_SAT 1) (by decide +kernel) (by decide +kernel) honly

/-- A lane in UP whose block errors stand one below the top. -/
def lastBlockError : State := (node5.put (LANE_TRAIN_STATE 1) 7).nearTop (LANE_BLK_ERRS 1)

/-- Refutes O26: a data block outside a frame is the last that LANE_BLK_ERRS counts, and LANE_EVT.SAT is set, where the clause on it has
no register change. -/
theorem not_laneLossAndTests : ¬ Obligations.LaneLossAndTests := by
  rintro ⟨-, -, -, -, -, -, -, -, -, -, hblk, -⟩
  obtain ⟨t, ht, -, honly⟩ := hblk 1 5 lastBlockError (by decide +kernel) (by decide +kernel) (by decide +kernel) (by decide +kernel)
  exact State.not_only_of_after ht (LANE_EVT_SAT 1) (by decide +kernel) (by decide +kernel) honly

/-- A lane whose checker is locked and has checked one bit less than it can count. -/
def lastPatternBit : State := (node5.put (LANE_PAT_STAT_CHK_LOCK 0) 1).nearTop (LANE_PAT_BITS 0)

/-- Refutes O9: the checker of lane 0 counts up to the snapshot and reaches the top of LANE_PAT_BITS, which sets LANE_EVT.SAT, while the
clause on the snapshot has nothing but the snapshot values change. -/
theorem not_storeUpkeep : ¬ Obligations.StoreUpkeep := by
  rintro ⟨-, -, -, -, -, -, hsnap, -⟩
  obtain ⟨t, ht, -, -, honly⟩ := hsnap 1 false 1 0 lastPatternBit (by decide +kernel) (by decide +kernel) (by decide +kernel)
  exact State.not_only_of_after ht (LANE_EVT_SAT 0) (by decide +kernel) (by decide +kernel) honly

/-! ### Frames -/

/-- Room for ring control, census and data frames at every port. -/
def State.wide (s : State) : State :=
  s.each (List.range 5) fun s p => ((s.put (FWD_LIM_4_RES7 p) 8).put (FWD_LIM_2_C5REQ p) 8).put (FWD_LIM_1_C3 p) 8

/-- A CALL of round 7 with the entry of one hub. -/
def callOfNode9 : Frame := (FrameSpec.plain 5 0 3 0xFF 0 0 [cenWord 1 7 2 0 0 1 0, 77]).build 9 0 1 5

/-- A hub that passes CALLs on, with one beat left in the frame buffer's first bank. -/
def lastBeat : State := (node5.wide.put (LANE_STAT_UP 0) 1).nearTop (MSA_BEATS 0)

/-- Refutes O27: the CALL passed on waits in cells of the frame buffer, their beats reach the top of MSA_BEATS, and MSA_ECC_STAT.SAT is
set, where the clause on a CALL has no register change. -/
theorem not_censusRounds : ¬ Obligations.CensusRounds := by
  rintro ⟨-, -, hcall, -⟩
  obtain ⟨t, ht, -, -, honly⟩ := hcall 1 callOfNode9 lastBeat (by decide +kernel) (by decide +kernel) (by decide +kernel)
    (by decide +kernel) (by decide +kernel) (by decide +kernel) (by decide +kernel) (by decide +kernel) (by decide +kernel)
    (by decide +kernel) (by decide +kernel) (by decide +kernel) (by decide +kernel) (by decide +kernel) (by decide +kernel)
    (by decide +kernel) (by decide +kernel)
  exact State.not_only_of_after ht MSA_ECC_STAT_SAT (by decide +kernel) (by decide +kernel) honly

/-- A listed hub whose CW direction is lost, with one beat left in the frame buffer's first bank. -/
def lastBreakBeat : State := (node5.wide.put RED_STAT_CCW 1).nearTop (MSA_BEATS 0)

/-- Refutes O30: the repeated BREAK waits in a cell of the frame buffer, its beats reach the top of MSA_BEATS, and MSA_ECC_STAT.SAT is
set, where the clause on the repetition has no register change. -/
theorem not_ringDirections : ¬ Obligations.RingDirections := by
  rintro ⟨-, -, -, hrepeat, -⟩
  obtain ⟨t, ht, -, honly⟩ := hrepeat 1 lastBreakBeat (by decide +kernel) (by decide +kernel) (by decide +kernel) (by decide +kernel)
    (by decide +kernel) (by decide +kernel) (by decide +kernel) (by decide +kernel)
  exact State.not_only_of_after ht MSA_ECC_STAT_SAT (by decide +kernel) (by decide +kernel) honly

/-- A data frame of class 3 for node 5. -/
def dataForNode5 : Frame := (FrameSpec.plain 3 0 0 5 0 7 [5, 6]).build 9 0 1 5

/-- A hub whose lane 1 is up, with one frame left for FWD_CNT to count. -/
def lastFrame : State := ((node5.wide.put (LANE_STAT_UP 1) 1).put (LANE_STAT_VER 1) 2).nearTop (FWD_CNT 1 0)

/-- Refutes O28: a frame whose header names another class is the last that FWD_CNT counts, and FWD_EVT.SAT is set, while the clause
on a bad header has only the header log and RPE_EVT change. -/
theorem not_framesOnLanes : ¬ Obligations.FramesOnLanes := by
  rintro ⟨-, hhdr, -⟩
  obtain ⟨t, ht, -, -, -, -, -, -, honly⟩ := hhdr 1 4 dataForNode5 (BitVec.ofNat 64 (frTrailer dataForNode5)) 0 lastFrame
    (by decide +kernel) (by decide +kernel) (by decide +kernel) (by decide +kernel) (by decide +kernel)
  exact State.not_only_of_after ht FWD_EVT_SAT (by decide +kernel) (by decide +kernel) honly

/-- A Sync. -/
def syncOfNode9 : Frame := (FrameSpec.plain 4 0 4 0xFF 0 0 (List.replicate 6 0#64)).build 9 0 1 5

/-- A hub whose port 1 takes PTP messages and has no path delay, with one drop left for TIME_CNT to count. -/
def lastDroppedSync : State :=
  ((node5.put (TIME_PORT_CTL_PTP_EN 1) 1).put (LANE_STAT_VER 1) 2).nearTop (TIME_CNT 2)

/-- Refutes O33: a Sync that comes while the path delay is not known is the last drop that TIME_CNT counts, and TIME_EVT.SAT is set,
where the clause on it has no register change. -/
theorem not_ptpMessages : ¬ Obligations.PtpMessages := by
  rintro ⟨-, -, hdrop, -⟩
  obtain ⟨t, ht, -, honly⟩ := hdrop 1 syncOfNode9 0 lastDroppedSync (by decide +kernel) (by decide +kernel) (by decide +kernel)
    (by decide +kernel) (by decide +kernel) (by decide +kernel)
  exact State.not_only_of_after ht TIME_EVT_SAT (by decide +kernel) (by decide +kernel) honly

/-- A response of the fabric under a TAG of this hub. -/
def strayResponse : Frame :=
  (FrameSpec.plain 5 1 1 5 0 0x79 [BitVec.ofNat 64 (1 + 3 * 2 ^ 16), BitVec.ofNat 64 (5 * 2 ^ 40), 5]).build 9 0 9 100

/-- A hub with no request open and one orphan left for RPE_CNT to count. -/
def lastOrphan : State := node5.nearTop (RPE_CNT 7)

/-- Refutes O55: a response that no open request waits for is the last orphan that RPE_CNT counts, and RPE_EVT.SAT is set, where the
clause on it has no register change. -/
theorem not_fabricRequesters : ¬ Obligations.FabricRequesters := by
  rintro ⟨-, -, -, -, -, horphan, -⟩
  obtain ⟨t, ht, -, honly⟩ := horphan strayResponse lastOrphan (by decide +kernel) (by decide +kernel) (by decide +kernel)
    (by decide +kernel) (by decide +kernel)
  exact State.not_only_of_after ht RPE_EVT_SAT (by decide +kernel) (by decide +kernel) honly

/-! ### Engines and streams -/

/-- Engine 2 RUNNING at 5 with a fetched word. -/
def State.runs2 (s : State) (w : Word) : State :=
  ((s.put (GG_STAT_STATE 2) 1).put (GG_STAT_PC 2) 5).setEng 2 { s.eng 2 with fetched := some w }

/-- The word of a NOP stamped with GATE 2. -/
def stampedNop : Word := BitVec.ofNat 32 (2 * 2 ^ 26)

/-- The engine's stamped NOP is late, with one late instruction left for GG_CNT to count. -/
def lastLate : State := (((node5.runs2 stampedNop).wr64 TIME_SPINDLE 1000).wr64 (GG_TB 2) 900).nearTop (GG_CNT 2 0)

/-- Refutes O37: a late stamped instruction is the last that GG_CNT counts, and GG_GSTAT.SAT is set, while the clause on it has only
GG_STAT change. -/
theorem not_engineGates : ¬ Obligations.EngineGates := by
  rintro ⟨-, -, -, -, hlate, -⟩
  obtain ⟨t, ht, -, -, -, -, -, honly⟩ := hlate 2 stampedNop 900 lastLate (by decide +kernel) (by decide +kernel) (by decide +kernel)
    (by decide +kernel) (by decide +kernel) (by decide +kernel) (by decide +kernel) (by decide +kernel) (by decide +kernel)
  exact State.not_only_of_after ht GG_GSTAT_SAT (by decide +kernel) (by decide +kernel) honly

/-- A stalled engine, with one abandoned instruction left for GG_CNT to count. -/
def lastAbandoned : State := ((node5.runs2 7).put (GG_STAT_CAUSE 2) 3).nearTop (GG_CNT 2 4)

/-- Refutes O38: an instruction abandoned by FORCE is the last that GG_CNT counts, and GG_GSTAT.SAT is set, while the clause on it has
only GG_STAT change. -/
theorem not_engineControl : ¬ Obligations.EngineControl := by
  rintro ⟨-, -, -, -, -, -, -, -, -, -, -, -, -, -, -, -, -, -, hforce, -⟩
  obtain ⟨t, ht, -, -, -, -, -, -, -, -, honly⟩ := hforce 2 8 7 lastAbandoned (by decide +kernel) (by decide +kernel) (by decide +kernel)
    (by decide +kernel) (by decide +kernel) (by decide +kernel) (by decide +kernel)
  exact State.not_only_of_after ht GG_GSTAT_SAT (by decide +kernel) (by decide +kernel) honly

/-- The word of a PULL into the shift register that does not wait. -/
def pullNoWait : Word := BitVec.ofNat 32 (4 * 2 ^ 28 + 2 ^ 17)

/-- The engine pulls from its empty FIFO, with one underrun left for GG_CNT to count. -/
def lastUnderrun : State := (node5.runs2 pullNoWait).nearTop (GG_CNT 2 2)

/-- Refutes O36: a PULL that does not wait for a word is the last underrun that GG_CNT counts, and GG_GSTAT.SAT is set, which the clause
on it leaves out. -/
theorem not_engineInstructions : ¬ Obligations.EngineInstructions := by
  rintro ⟨-, -, -, -, -, -, -, -, -, hunder, -⟩
  obtain ⟨t, ht, -, -, -, -, -, -, -, -, honly⟩ := hunder 2 pullNoWait 0 lastUnderrun (by decide +kernel) (by decide +kernel)
    (by decide +kernel) (by decide +kernel) (by decide +kernel) (by decide +kernel) (by decide +kernel)
  exact State.not_only_of_after ht GG_GSTAT_SAT (by decide +kernel) (by decide +kernel) honly

/-- Queue 9 with items of two words, filled by software, and one beat left in the bank of its slots. -/
def lastCommit : State :=
  (((((node5.put (SQ_CFG_EN 9) 1).put (SQ_CFG_CONS 9) 0x10).put (SQ_CFG_PROD 9) 0x11).put (SQ_CFG_ITEM_W 9) 2).put (SQ_GEOM_ITEMS 9)
    4).nearTop (MSA_BEATS 10)

/-- Refutes O40: the descriptor of a committed item is written by the last beats MSA_BEATS can count, and MSA_ECC_STAT.SAT is set, while
the clause on the commit has only SQ_CNT change. -/
theorem not_streamQueues : ¬ Obligations.StreamQueues := by
  rintro ⟨-, -, -, -, -, -, -, -, -, -, -, -, hcommit, -⟩
  obtain ⟨t, ht, -, -, -, -, honly⟩ := hcommit 9 2 lastCommit (by decide +kernel) (by decide +kernel) (by decide +kernel)
    (by decide +kernel) (by decide +kernel) (by decide +kernel) (by decide +kernel) (by decide +kernel) (by decide +kernel)
    (by decide +kernel) (by decide +kernel)
  exact State.not_only_of_after ht MSA_ECC_STAT_SAT (by decide +kernel) (by decide +kernel) honly

/-! ### The message bus, the host port and line power -/

/-- Port 1 is on the bus, and one bit error is left for MB_CNT to count. -/
def lastBitError : State := (node5.put (MB_STAT_STATE 1) 2).nearTop (MB_CNT 1 5)

/-- Refutes O42: an error of a receiver is the last of its kind that MB_CNT counts, and MB_EVT.SAT is set, which the clause on it leaves
out. -/
theorem not_messageBusPorts : ¬ Obligations.MessageBusPorts := by
  rintro ⟨-, -, -, -, -, -, -, -, -, -, -, -, -, -, -, -, -, herror, -⟩
  obtain ⟨t, ht, -, -, -, -, -, -, -, honly⟩ := herror 1 0 0 false lastBitError (by decide +kernel) (by decide +kernel)
    (by decide +kernel) (by decide +kernel) (by decide +kernel) (by decide +kernel) (by decide +kernel) (by decide +kernel)
  exact State.not_only_of_after ht (MB_EVT_SAT 1) (by decide +kernel) (by decide +kernel) honly

/-- The serial port stands open to the host, and one write is left for HBR_CNT to count. -/
def lastHostWrite : State :=
  let s := (node5.put (MSA_WPROT_WR 0) 0xFFFF).put HBR_CTL_PORT 1
  ({ s with sys := { s.sys with recordOn := true }, hbr := { s.hbr with r99 := false } } : State).nearTop (HBR_CNT 1)

/-- Refutes O43: a WRITE of the host is the last that HBR_CNT counts, and HBR_EVT.SAT is set, while the clause on it has only
MSA_ECC_STAT change. -/
theorem not_hostAccess : ¬ Obligations.HostAccess := by
  rintro ⟨-, -, hwrite, -⟩
  obtain ⟨t, ht, -, -, -, -, honly⟩ := hwrite (BitVec.ofNat 48 (fabAddr 0xFE 0 0x10000044)) 0x44 [1, 2, 3, 4] lastHostWrite
    (by decide +kernel) (by decide +kernel) (by decide +kernel) (by decide +kernel) (by decide +kernel) (by decide +kernel)
    (by decide +kernel) (by decide +kernel) (by decide +kernel) (by decide +kernel) (by decide +kernel) (by decide +kernel)
    (by decide +kernel) (by decide +kernel)
  exact State.not_only_of_after ht HBR_EVT_SAT (by decide +kernel) (by decide +kernel) honly

/-- The W port is in RETRY, and one unit of energy is left for LPW_CNT to count. -/
def lastEnergy : State := (node5.put (LPW_P_STAT_STATE 1) 6).nearTop (LPW_CNT 2)

/-- Refutes O53: the energy of a measurement is the last that LPW_CNT counts, and LPW_STAT.SAT is set, which the clause on the
measurement leaves out. -/
theorem not_lineMeasureAndRails : ¬ Obligations.LineMeasureAndRails := by
  rintro ⟨hmeasure, -⟩
  obtain ⟨t, ht, -, -, -, -, -, -, -, -, -, -, -, -, honly⟩ := hmeasure 1 2 3 4 5 6 7 8 1900 1900 11111 lastEnergy (by decide +kernel)
    (by decide +kernel) (by decide +kernel)
  exact State.not_only_of_after ht LPW_STAT_SAT (by decide +kernel) (by decide +kernel) honly

end Sys2Proof.Machine

/-! Offsets that lead to a register elsewhere: the command registers of the engine block stand once for all engines, and the window of
another engine shows them again (R356). The claims on refused accesses ask whether the offset itself is mapped. -/
namespace Sys2Proof.Machine

set_option Elab.async false

/-- An offset of engine 1's window that shows a register of the engine block. -/
def echoOff : BitVec 38 := 0x101800#38

theorem regFind_echoOff : regFind echoOff.toNat = none ∧ (regFind (oneWindow echoOff.toNat)).isSome = true := by decide +kernel

/-- Refutes O58: a write at `echoOff` is a write of the register it leads to and answers 0, while the third clause has it answer 0x04,
because no register stands at the offset itself. -/
theorem not_registerWrites : ¬ Obligations.RegisterWrites := by
  rintro ⟨-, -, hunmapped, -⟩
  obtain ⟨t, ht, hresp, -⟩ := hunmapped ⟨0, 5, 0⟩ false 2 echoOff 0 node5 (by decide +kernel) (by decide +kernel) (by decide +kernel)
    (by decide +kernel) (by decide +kernel) (.inl regFind_echoOff.1)
  rw [← node5.after_eq ht] at hresp
  exact absurd hresp (by decide +kernel)

/-- Refutes O59: a read at `echoOff` answers the register it leads to, while the sixth clause has it answer 0x04, because no register
stands at the offset itself. -/
theorem not_registerReads : ¬ Obligations.RegisterReads := by
  rintro ⟨-, -, -, -, -, hunmapped, -⟩
  obtain ⟨t, ht, hresp, -⟩ := hunmapped ⟨0, 5, 0⟩ 2 echoOff node5 (by decide +kernel) (by decide +kernel) (by decide +kernel)
    (by decide +kernel) (by decide +kernel) (.inl regFind_echoOff.1)
  rw [← node5.after_eq ht] at hresp
  exact absurd hresp (by decide +kernel)

end Sys2Proof.Machine

/-! The arbiter's settings after a contention episode. MSA_ARBCTL as an episode found it is gone once nothing waits at the bank
(R57), and the access that ended the episode is judged by the register as it then stands. -/
namespace Sys2Proof.Machine

set_option Elab.async false

/-- The access that waits at bank 6 behind requester 5's unfinished burst. -/
def waitingRead : Acc := ⟨2, 0x300040, .read 2, .cmd⟩

/-- The unfinished burst of requester 5. -/
def openBurst : Burst := ⟨5, 0x300040, 0x300060, 1⟩

/-- The episode at bank 6 began without lockout, lockout has been switched on since, and the waiting requester has been cut off before. -/
def lateLockout : State :=
  let s := ((node5.put MSA_ARBCTL_LOCKOUT 1).put MSA_HOLD_FLAG_CUT 4).setBank 6 ⟨5, 0, 5, some openBurst, some 0⟩
  { s with store := { s.store with wait := [waitingRead] } }

/-- Refutes O10: after the cut-off of the burst in `lateLockout` the access that waited is refused, because the episode's own
MSA_ARBCTL went with the last access that waited; the third clause has it served. -/
theorem not_storeArbitration : ¬ Obligations.StoreArbitration := by
  rintro ⟨-, -, hserved⟩
  obtain ⟨t, ht, -, -, -, hresp, -⟩ := hserved 6 openBurst waitingRead 2 lateLockout (by decide +kernel) (by decide +kernel)
    (by decide +kernel) (by decide +kernel) (by decide +kernel) (by decide +kernel) (by decide +kernel) (by decide +kernel)
    (by decide +kernel) (by decide +kernel) (by decide +kernel) (by decide +kernel) (by decide +kernel) (by decide +kernel)
    (by decide +kernel)
  rw [← lateLockout.after_eq ht] at hresp
  exact absurd hresp (by decide +kernel)

end Sys2Proof.Machine

/-! Claims that leave out a state of another block: a running proof's causes of abort, a unit that goes idle for its reset, a
register table that lists an offset twice, and a request served at its bank whose reply is due in the next cycle. -/
namespace Sys2Proof.Machine

set_option Elab.async false

/-- A part that a command changes breaks every frame that leaves the part out. -/
theorem State.not_only_of_part {s t : State} {c : Instr} {os : List Nat} {ps : List Part} (h : exec c s = .next t) (p : Part)
    (hp : p ∉ .regs :: ps) (hne : ¬ p.same s (s.after c)) : ¬ s.only os ps t := by
  intro honly
  rw [s.after_eq h] at hne
  exact hne (honly.2 p hp)

/-- A partner's beat is seen while TST_PSTAT shows a running proof. -/
def beatInProof : State := (node5.put TST_PSTAT_STATE 1).put RED_TWIN_STAT_PARTNER_BEAT 1

/-- Refutes O31: the partner's beat is lost while TST_PSTAT shows a running proof outside the mode PROOF, and the loss is noted as a
cause that ends the run, where the clause on it has nothing of TST change. -/
theorem not_twinAnchor : ¬ Obligations.TwinAnchor := by
  rintro ⟨-, -, -, -, -, -, -, -, -, -, -, -, -, -, -, -, -, -, -, -, -, -, hlost, -⟩
  obtain ⟨t, ht, -, -, -, honly⟩ := hlost beatInProof (by decide +kernel) (by decide +kernel) (by decide +kernel) (by decide +kernel)
    (by decide +kernel)
  refine State.not_only_of_part ht .tst (by decide) (fun h => ?_) honly
  exact absurd (congrArg (·.abort) h) (by decide +kernel)

/-- LSV has been asked to go idle for its reset. -/
def lsvIdling : State := { node5 with sys := { node5.sys with units := [(0x12, some ⟨1, 2, false, 0, 16, 0⟩)] } }

/-- Refutes O41: a capture that is asked for while LSV goes idle for its reset does not begin; the clause on it supposes only that the
block is not in reset. -/
theorem not_contactsAndLines : ¬ Obligations.ContactsAndLines := by
  rintro ⟨-, -, -, -, -, -, -, -, -, -, -, -, hcapture, -⟩
  obtain ⟨t, ht, hbusy, -⟩ := hcapture 0 lsvIdling (by decide +kernel) (by decide +kernel)
  rw [← lsvIdling.after_eq ht] at hbusy
  exact absurd hbusy (by decide +kernel)

/-- A hub whose copy after an apply is due and whose register table lists MSA_PART twice; the first entry is the one that is read. -/
def listedTwice : State :=
  let s := node5.put CFG_STAT_STATE 5
  { s with regs := (MSA_PART, 1#32) :: (MSA_PART, 2#32) :: s.regs, sys := { s.sys with recordOn := true } }

/-- Refutes O21: the copy after an apply writes the entries of the register table in order, and of an offset listed twice the second
stands at the end, while a read gives the first. The clause on the copy does not ask for a table in canonical form. -/
theorem not_commitChecksAndApplies : ¬ Obligations.CommitChecksAndApplies := by
  rintro ⟨-, -, -, -, -, -, -, -, hsync, -⟩
  obtain ⟨t, ht, -, -, hpart, -⟩ := hsync listedTwice (by decide +kernel) (by decide +kernel) (by decide +kernel)
  rw [← listedTwice.after_eq ht] at hpart
  exact absurd hpart (by decide +kernel)

/-- A DMA read of four bytes that copies to GG_INJ of engine 2. -/
def readForInj : FReq := ⟨.dma 0 (fabAddr 5 0 (GG_INJ 2)), 2, 1, 2, 1, fabAddr 5 0 0x10000040, []⟩

/-- Engine 2 runs with an injection that waits for its fetch, and the store has served `readForInj` after a wait. -/
def copyIntoInj : State :=
  let s := (node5.put (GG_STAT_STATE 2) 1).put (GG_STAT_INJ_PEND 2) 1
  { s.setEng 2 { s.eng 2 with pend := some 9 } with store := { s.store with served := [(.own 0 readForInj, 0, 7)] } }

/-- Refutes O4: the fetch of an idle cycle takes the injection that waits, and the copy whose read the store has served then injects
the next one, so that GG_STAT.INJ_PEND is 1 again; the last clause has it 0. -/
theorem not_idleCycles : ¬ Obligations.IdleCycles := by
  rintro ⟨-, -, -, -, hinj⟩
  obtain ⟨t, ht, -, -, -, hpend, -⟩ := hinj 2 9 copyIntoInj (by decide +kernel) (by decide +kernel) (by decide +kernel)
    (by decide +kernel) (by decide +kernel) (by decide +kernel) (by decide +kernel) (by decide +kernel) (by decide +kernel)
    (by decide +kernel)
  rw [show t = copyIntoInj.tick from (Host.Outcome.next.inj ht).symm] at hpend
  exact absurd hpend (by decide +kernel)

end Sys2Proof.Machine

/-! Line-power ports: what the state changes of a port leave and show (R455 to R470). -/
namespace Sys2Proof.Machine

set_option Elab.async false

/-- A field reads back a value of its width; stated for `simp` with a side condition that computes. -/
theorem State.get_put_val (s : State) (f : Fld) (v : Nat) (h : (f.fits && decide (v < 2 ^ f.w)) = true) : (s.put f v).get f = v := by
  rw [Bool.and_eq_true, decide_eq_true_eq] at h
  exact s.get_put_self h.1 h.2

/-! ### Registers of a port lie apart from the shared ones -/

theorem LPW_P_STAT_ne (p : Nat) : LPW_P_STAT p ≠ LPW_STAT ∧ LPW_P_STAT p ≠ LPW_EVT ∧ LPW_P_STAT p ≠ LPW_VBUS := by
  simp only [LPW_P_STAT, LPW_STAT, LPW_EVT, LPW_VBUS]
  omega

theorem LPW_P_CFG_ne (p q : Nat) : LPW_P_CFG p ≠ LPW_STAT ∧ LPW_P_CFG p ≠ LPW_EVT ∧ LPW_P_CFG p ≠ LPW_VBUS ∧
    LPW_P_CFG p ≠ LPW_P_STAT q := by
  simp only [LPW_P_CFG, LPW_P_STAT, LPW_STAT, LPW_EVT, LPW_VBUS]
  omega

theorem MPC_MODE_ne_port (p : Nat) : MPC_MODE ≠ LPW_P_STAT p ∧ RSTC_INRST ≠ LPW_P_STAT p := by
  simp only [MPC_MODE, RSTC_INRST, LPW_P_STAT]
  omega

/-- A field of a port's status that no change of state touches (R459): all but STATE, PG, LIMIT and SIG. -/
def Fld.keptByGo (f : Fld) (p : Nat) : Bool :=
  f.apart (LPW_P_STAT_STATE p) && (f.apart (LPW_P_STAT_PG p) && (f.apart (LPW_P_STAT_LIMIT p) && (f.apart (LPW_P_STAT_SIG p) &&
    f.apart LPW_STAT_PGOOD)))

section
variable (s : State) (p : Nat)

/-! ### Events, PGOOD and the signature -/

theorem State.lpEvt_eq (k : Nat) : s.lpEvt p k = s.setBit (if p = 0 then LPW_EVT_P0 else LPW_EVT_P1) k := rfl

theorem evtFld_off : (if p = 0 then LPW_EVT_P0 else LPW_EVT_P1).off = LPW_EVT := by split <;> rfl

theorem State.get_lpEvt {g : Fld} (k : Nat) (h : g.off ≠ LPW_EVT) : (s.lpEvt p k).get g = s.get g :=
  State.get_put_ne _ _ _ _ (by rwa [evtFld_off])

/-- The event bit stands in every later state that leaves the events. -/
theorem State.getBit_lpEvt {k : Nat} (hk : k < 7) : (s.lpEvt p k).getBit (if p = 0 then LPW_EVT_P0 else LPW_EVT_P1) k = true := by
  rw [State.lpEvt_eq, State.getBit_setBit]
  · simp
  · split <;> rfl
  · split <;> exact hk

theorem State.get_pgood {g : Fld} (h : g.apart LPW_STAT_PGOOD = true) : s.pgood.get g = s.get g := State.get_put_apart _ _ h

theorem State.get_setPg {g : Fld} (v : Bool) (h : g.apart LPW_STAT_PGOOD = true) (h' : g.apart (LPW_P_STAT_PG p) = true) :
    (s.setPg p v).get g = s.get g := by
  rw [State.setPg, State.get_pgood _ h, State.get_put_apart _ _ h']

theorem b2n_lt_two (b : Bool) : b2n b < 2 ^ 1 := by cases b <;> decide

theorem State.pg_setPg (v : Bool) : (s.setPg p v).get (LPW_P_STAT_PG p) = b2n v := by
  have hne : (LPW_P_STAT_PG p).off ≠ LPW_STAT_PGOOD.off := (LPW_P_STAT_ne p).1
  rw [State.setPg, State.get_pgood _ (Fld.apart_of_off rfl hne), State.get_put_self _ rfl (b2n_lt_two v)]

theorem State.get_sigShow {g : Fld} (h : g.apart (LPW_P_STAT_SIG p) = true) : (s.sigShow p).get g = s.get g :=
  State.get_put_apart _ _ h

theorem State.sig_sigShow :
    (s.sigShow p).get (LPW_P_STAT_SIG p) = b2n (!s.on LPW_VBUS_IN && (s.lp p).low && s.get (LPW_P_STAT_STATE p) != 3) :=
  State.get_put_self _ rfl (b2n_lt_two _)

/-! ### A change of state -/

/-- The gate's part of a change of state: PG and LIMIT. -/
def State.gateOff (s : State) (p st : Nat) : State :=
  let s2 := if st = 5 then s else s.setPg p false
  if st = 4 ∨ st = 5 then s2 else s2.put (LPW_P_STAT_LIMIT p) 0

theorem State.lpGo_eq (st : Nat) : s.lpGo p st = ((s.put (LPW_P_STAT_STATE p) st).gateOff p st).sigShow p := rfl

theorem State.get_gateOff {g : Fld} (st : Nat) (h1 : g.apart (LPW_P_STAT_PG p) = true)
    (h2 : g.apart (LPW_P_STAT_LIMIT p) = true) (h3 : g.apart LPW_STAT_PGOOD = true) : (s.gateOff p st).get g = s.get g := by
  have hpg : (if st = 5 then s else s.setPg p false).get g = s.get g := by
    split
    · rfl
    · exact s.get_setPg p false h3 h1
  rw [State.gateOff]
  split
  · exact hpg
  · rw [State.get_put_apart _ _ h2, hpg]

theorem State.get_lpGo {g : Fld} (st : Nat) (h : g.keptByGo p = true) : (s.lpGo p st).get g = s.get g := by
  simp only [Fld.keptByGo, Bool.and_eq_true] at h
  obtain ⟨hst, hpg, hlim, hsig, hpgood⟩ := h
  rw [State.lpGo_eq, State.get_sigShow _ _ hsig, State.get_gateOff _ _ _ hpg hlim hpgood, State.get_put_apart _ _ hst]

theorem portFld_apart_pgood {p : Nat} {g : Fld} (hg : g.fits = true) (h : g.off = LPW_P_STAT p) : g.apart LPW_STAT_PGOOD = true :=
  Fld.apart_of_off hg (by rw [h]; exact (LPW_P_STAT_ne p).1)

/-- The state a port enters shows. -/
theorem State.state_lpGo {st : Nat} (hst : st < 8) : (s.lpGo p st).get (LPW_P_STAT_STATE p) = st := by
  rw [State.lpGo_eq, State.get_sigShow _ _ rfl, State.get_gateOff _ _ _ rfl rfl (portFld_apart_pgood (p := p) rfl rfl),
    State.get_put_self _ rfl hst]

theorem State.pg_lpGo {st : Nat} (hst : st ≠ 5) : (s.lpGo p st).get (LPW_P_STAT_PG p) = 0 := by
  rw [State.lpGo_eq, State.get_sigShow _ _ rfl, State.gateOff, if_neg hst]
  split
  · exact State.pg_setPg ..
  · rw [State.get_put_apart _ _ rfl, State.pg_setPg]
    rfl

theorem State.pg_lpGo_on : (s.lpGo p 5).get (LPW_P_STAT_PG p) = s.get (LPW_P_STAT_PG p) := by
  rw [State.lpGo_eq, State.get_sigShow _ _ rfl, State.gateOff, if_pos (.inr rfl), if_pos rfl, State.get_put_apart _ _ rfl]

theorem State.limit_lpGo {st : Nat} (h4 : st ≠ 4) (h5 : st ≠ 5) : (s.lpGo p st).get (LPW_P_STAT_LIMIT p) = 0 := by
  rw [State.lpGo_eq, State.get_sigShow _ _ rfl, State.gateOff, if_neg (by simp [h4, h5]),
    State.get_put_self _ rfl (by decide : 0 < 2 ^ 1)]

/-- What a change of state leaves of the side's class and of everything but the port's status and PGOOD. -/
theorem State.lpGo_lpw (st : Nat) : (s.lpGo p st).lpw = s.lpw := by
  rw [State.lpGo_eq, State.gateOff]
  split <;> split <;> rfl

theorem State.lp_congr {s t : State} (h : t.lpw = s.lpw) (q : Nat) : t.lp q = s.lp q := by rw [State.lp, h, State.lp]

theorem State.sig_lpGo {st : Nat} (hst : st < 8) :
    (s.lpGo p st).get (LPW_P_STAT_SIG p) = b2n (!s.on LPW_VBUS_IN && (s.lp p).low && st != 3) := by
  have hlpw : ((s.put (LPW_P_STAT_STATE p) st).gateOff p st).lpw = s.lpw := s.lpGo_lpw p st
  have hstate : ((s.put (LPW_P_STAT_STATE p) st).gateOff p st).get (LPW_P_STAT_STATE p) = st := by
    rw [State.get_gateOff _ _ _ rfl rfl (portFld_apart_pgood (p := p) rfl rfl), State.get_put_self _ rfl hst]
  have hbus : ((s.put (LPW_P_STAT_STATE p) st).gateOff p st).on LPW_VBUS_IN = s.on LPW_VBUS_IN := by
    have hne (f : Fld) (h : f.off = LPW_P_STAT p) : LPW_VBUS_IN.apart f = true :=
      Fld.apart_of_off rfl (by rw [h]; exact (LPW_P_STAT_ne p).2.2.symm)
    rw [State.on, State.get_gateOff _ _ _ (hne _ rfl) (hne _ rfl) rfl, State.get_put_apart _ _ (hne _ rfl), State.on]
  rw [State.lpGo_eq, State.sig_sigShow, hbus, hstate, State.lp_congr hlpw]

end

/-! ### Frames -/

namespace State.only

variable {s t : State} {os : List Nat} {ps : List Part} {p : Nat}

theorem lpEvt (h : s.only os ps t) (k : Nat) (he : LPW_EVT ∈ os) : s.only os ps (t.lpEvt p k) :=
  h.setBit k (by rwa [evtFld_off])

theorem setPg (h : s.only os ps t) (v : Bool) (hp : LPW_P_STAT p ∈ os) (hs : LPW_STAT ∈ os) : s.only os ps (t.setPg p v) :=
  (h.put _ hp).put _ hs

theorem sigShow (h : s.only os ps t) (hp : LPW_P_STAT p ∈ os) : s.only os ps (t.sigShow p) := h.put _ hp

theorem lpGo (h : s.only os ps t) (st : Nat) (hp : LPW_P_STAT p ∈ os) (hs : LPW_STAT ∈ os) : s.only os ps (t.lpGo p st) := by
  rw [State.lpGo_eq, State.gateOff]
  refine State.only.sigShow ?_ hp
  split <;> split
  · exact h.put _ hp
  · exact (h.put _ hp).setPg false hp hs
  · exact (h.put _ hp).put _ hp
  · exact ((h.put _ hp).setPg false hp hs).put _ hp

/-- To ON nothing but the port's status changes. -/
theorem lpGo_on (h : s.only os ps t) (hp : LPW_P_STAT p ∈ os) : s.only os ps (t.lpGo p 5) := (h.put 5 hp).sigShow hp

theorem setLp (h : s.only os ps t) (x : LpPort) (hl : .lpw ∈ ps) : s.only os ps (t.setLp p x) := h.with_lpw _ hl

theorem offShow (h : s.only os ps t) (us : Nat) (hp : LPW_P_STAT p ∈ os) (hl : .lpw ∈ ps) : s.only os ps (t.offShow p us) :=
  (h.setLp _ hl).put _ hp

theorem waitCheck (h : s.only os ps t) (hp : LPW_P_STAT p ∈ os) (hs : LPW_STAT ∈ os) (hl : .lpw ∈ ps) :
    s.only os ps (t.waitCheck p) := by
  rw [State.waitCheck]
  split
  · exact h
  · split
    · exact h.lpGo 2 hp hs
    · split
      · exact (h.setLp _ hl).lpGo 3 hp hs
      · exact h

theorem lpWait (h : s.only os ps t) (hp : LPW_P_STAT p ∈ os) (hs : LPW_STAT ∈ os) (hl : .lpw ∈ ps) :
    s.only os ps (t.lpWait p) := by
  rw [State.lpWait]
  split
  · exact h.lpGo 0 hp hs
  · exact ((h.offShow 0 hp hl).lpGo 1 hp hs).waitCheck hp hs hl

theorem lpDisable (h : s.only os ps t) (cause : Nat) (hp : LPW_P_STAT p ∈ os) (hs : LPW_STAT ∈ os) (hl : .lpw ∈ ps) :
    s.only os ps (t.lpDisable p cause) := (((h.offShow 0 hp hl).put _ hp).put _ hp).lpGo 0 hp hs

end State.only

/-! ### The off time -/

section
variable (s : State) (p : Nat)

theorem State.get_offShow {g : Fld} (us : Nat) (h : g.apart (LPW_P_STAT_OFF_LEFT p) = true) : (s.offShow p us).get g = s.get g :=
  State.get_put_apart _ _ h

theorem State.lp_setLp (x : LpPort) (q : Nat) : (s.setLp p x).lp q = if q = p then x else s.lp q := by
  simp [State.lp, State.setLp, Tab.get_set]

theorem State.lp_offShow (us : Nat) : (s.offShow p us).lp p = { s.lp p with off := us } := by
  rw [State.lp_congr (t := s.offShow p us) (s := s.setLp p { s.lp p with off := us }) rfl, State.lp_setLp, if_pos rfl]

/-- An off time that is over shows 0. -/
theorem State.offLeft_offShow : (s.offShow p 0).get (LPW_P_STAT_OFF_LEFT p) = 0 :=
  State.get_put_self _ rfl (by decide : 0 < 2 ^ 8)

/-! ### WAIT -/

theorem State.waitCheck_in (hst : s.get (LPW_P_STAT_STATE p) = 1) (hc : (s.lp p).cls = 0) : s.waitCheck p = s.lpGo p 2 := by
  simp [State.waitCheck, hst, hc]

theorem State.waitCheck_detect (hst : s.get (LPW_P_STAT_STATE p) = 1) (hc : (s.lp p).cls = 1) (hb : s.on LPW_VBUS_IN = true)
    (hs : s.on (LPW_P_CFG_SOURCE p) = true) (hd : (s.lp p).due = true) :
    s.waitCheck p = (s.setLp p { s.lp p with due := false }).lpGo p 3 := by
  simp [State.waitCheck, hst, hc, hb, hs, hd]

/-- A port stays in WAIT while its side is between the windows, or DEAD without a detection due. -/
theorem State.waitCheck_stays (hc : (s.lp p).cls = 2 ∨ ((s.lp p).cls = 1 ∧ (s.lp p).due = false)) : s.waitCheck p = s := by
  obtain h | ⟨h, h'⟩ := hc
  · simp [State.waitCheck, h]
  · simp [State.waitCheck, h, h']

theorem State.waitCheck_elsewhere (hst : s.get (LPW_P_STAT_STATE p) ≠ 1) : s.waitCheck p = s := by simp [State.waitCheck, hst]

/-- A port that nothing holds in DISABLED enters WAIT. -/
theorem State.lpWait_free (h1 : s.on LPW_STAT_STACKED = false) (h2 : s.on (LPW_P_CFG_EN p) = true)
    (h3 : s.on (LPW_P_STAT_FORCED p) = false) : s.lpWait p = ((s.offShow p 0).lpGo p 1).waitCheck p := by
  simp [State.lpWait, h1, h2, h3]

/-- Just before the side is looked at, the port stands in WAIT with its off time over. -/
theorem State.lp_enterWait : ((s.offShow p 0).lpGo p 1).lp p = { s.lp p with off := 0 } := by
  rw [State.lp_congr (State.lpGo_lpw _ _ _), State.lp_offShow]

/-- A port whose side keeps it in WAIT. -/
theorem State.lpWait_stays (h1 : s.on LPW_STAT_STACKED = false) (h2 : s.on (LPW_P_CFG_EN p) = true)
    (h3 : s.on (LPW_P_STAT_FORCED p) = false) (hc : (s.lp p).cls = 2 ∨ ((s.lp p).cls = 1 ∧ (s.lp p).due = false)) :
    s.lpWait p = (s.offShow p 0).lpGo p 1 := by
  rw [State.lpWait_free _ _ h1 h2 h3, State.waitCheck_stays _ _ (by rw [State.lp_enterWait]; exact hc)]

/-- A port whose side is IN goes through WAIT to DELAY. -/
theorem State.lpWait_in (h1 : s.on LPW_STAT_STACKED = false) (h2 : s.on (LPW_P_CFG_EN p) = true)
    (h3 : s.on (LPW_P_STAT_FORCED p) = false) (hc : (s.lp p).cls = 0) :
    s.lpWait p = ((s.offShow p 0).lpGo p 1).lpGo p 2 := by
  rw [State.lpWait_free _ _ h1 h2 h3, State.waitCheck_in _ _ (State.state_lpGo _ _ (by decide)) (by rw [State.lp_enterWait]; exact hc)]

end

/-! ### Faults of the P-die (R456) -/

theorem State.roomy.faultMsg_eq {s : State} (hr : s.roomy) (m : FaultMsg) :
    s.faultMsg m = { s with fltQ := fltInsert m s.fltQ } := by
  obtain ⟨hmode, hflt, hlen⟩ := hr
  simp [State.faultMsg, hmode, hflt, hlen]

/-- While the link stands a fault of the P-die is sent (R456). -/
theorem State.lpFault_eq_send {s : State} (kind addr : Nat) (hd : s.d2dLost = false) :
    s.lpFault kind addr = s.lpSend ⟨0x15, kind, kindSev kind, addr % 2 ^ 48, false, s.sys.t⟩ := by
  rw [State.lpFault, if_pos (by simp [hd])]

theorem State.proofCause_with_fltQ (s : State) (q : List FaultMsg) (k : Nat) :
    ({ s with fltQ := q } : State).proofCause k = { s with fltQ := q, tst := (s.proofCause k).tst } := by
  have hget : ({ s with fltQ := q } : State).get TST_PSTAT_STATE = s.get TST_PSTAT_STATE := rfl
  simp only [State.proofCause, hget]
  split <;> rfl

/-- A fault while the link stands: the message goes to the collector and, but for LP_DETECT, ends a proof run. -/
theorem State.lpFault_linked {s : State} {kind : Nat} (addr : Nat) (hd : s.d2dLost = false) (hk : kind ≠ 0x63) (hr : s.roomy) :
    s.lpFault kind addr = { s with
      fltQ := fltInsert ⟨0x15, kind, kindSev kind, addr % 2 ^ 48, false, s.sys.t⟩ s.fltQ
      tst := (s.proofCause 2).tst } := by
  have hk' : (kind != 0x63) = true := by simpa using hk
  rw [State.lpFault_eq_send _ _ hd, State.lpSend, hr.faultMsg_eq, State.when, if_pos hk']
  exact State.proofCause_with_fltQ ..

theorem State.lpFault_detect {s : State} (addr : Nat) (hd : s.d2dLost = false) (hr : s.roomy) :
    s.lpFault 0x63 addr = { s with fltQ := fltInsert ⟨0x15, 0x63, kindSev 0x63, addr % 2 ^ 48, false, s.sys.t⟩ s.fltQ } := by
  rw [State.lpFault_eq_send _ _ hd, State.lpSend, hr.faultMsg_eq]
  rfl

end Sys2Proof.Machine

/-! The commands of line power and the taking of an apply (R455 to R466). -/
namespace Sys2Proof.Machine

set_option Elab.async false

theorem blkOf_LPW_P_CMD (p : Fin 2) : blkOf (LPW_P_CMD p.val) = 0x15 :=
  (show ∀ p : Fin 2, blkOf (LPW_P_CMD p.val) = 0x15 by decide) p

/-- A command of a port while the link stands and the unit runs. -/
theorem State.lpCmd_run {s : State} (p : Fin 2) (f : State → State) (hd : s.dark = false) (hl : s.d2dLost = false)
    (hr : s.inReset 0x15 = false) : s.lpCmd (LPW_P_CMD p.val) f = f s := by
  rw [State.lpCmd, if_neg (by simp [hl]), State.cmd_run _ _ _ hd (by rwa [blkOf_LPW_P_CMD])]

section
variable (s : State) (p : Nat)

/-- What a port held in DISABLED by software shows. -/
theorem State.lpOff_spec : (s.lpOff p).get (LPW_P_STAT_STATE p) = 0 ∧ (s.lpOff p).get (LPW_P_STAT_FORCED p) = 1 ∧
    (s.lpOff p).get (LPW_P_STAT_CAUSE p) = 5 ∧ (s.lpOff p).get (LPW_P_STAT_FAILS p) = 0 ∧ (s.lpOff p).get (LPW_P_STAT_PG p) = 0 ∧
    (s.lpOff p).get (LPW_P_STAT_LIMIT p) = 0 ∧ s.only [LPW_P_STAT p, LPW_STAT] [.lpw] (s.lpOff p) := by
  rw [State.lpOff, State.lpDisable]
  refine ⟨State.state_lpGo _ _ (by decide), ?_, ?_, ?_, State.pg_lpGo _ _ (by decide), State.limit_lpGo _ _ (by decide) (by decide),
    ((s.only_refl _ _).put (f := LPW_P_STAT_FORCED p) _ (by simp [LPW_P_STAT_FORCED])).lpDisable _ (by simp) (by simp) (by simp)⟩
  all_goals
    simp (disch := (refine id ?_; with_unfolding_all rfl)) only [State.get_lpGo, State.get_put_apart, State.get_offShow, State.get_put_val]

/-- What the port shows when nothing holds it and its side keeps it in WAIT. -/
theorem State.enterWait_spec : ((s.offShow p 0).lpGo p 1).get (LPW_P_STAT_STATE p) = 1 ∧
    ((s.offShow p 0).lpGo p 1).get (LPW_P_STAT_OFF_LEFT p) = 0 ∧
    ((s.offShow p 0).lpGo p 1).lp p = { s.lp p with off := 0 } := by
  refine ⟨State.state_lpGo _ _ (by decide), ?_, State.lp_enterWait _ _⟩
  rw [State.get_lpGo _ _ _ rfl, State.offLeft_offShow]

theorem State.on_cfg_put {s : State} {p q : Nat} (g f : Fld) (v : Nat) (hg : g.off = LPW_P_CFG p) (hf : f.off = LPW_P_STAT q) :
    (s.put f v).on g = s.on g :=
  State.on_congr (State.rd_put_ne _ _ _ (by rw [hg, hf]; exact (LPW_P_CFG_ne p q).2.2.2))

theorem State.on_stacked_put {s : State} {p : Nat} (f : Fld) (v : Nat) (hf : f.off = LPW_P_STAT p) :
    (s.put f v).on LPW_STAT_STACKED = s.on LPW_STAT_STACKED :=
  State.on_congr (State.rd_put_ne _ _ _ (by rw [hf]; exact (LPW_P_STAT_ne p).1.symm))

theorem State.lpOn_spec (hst : s.get (LPW_P_STAT_STATE p) = 0) (h1 : s.on LPW_STAT_STACKED = false)
    (h2 : s.on (LPW_P_CFG_EN p) = true) (hc : (s.lp p).cls = 2) :
    (s.lpOn p).get (LPW_P_STAT_STATE p) = 1 ∧ (s.lpOn p).get (LPW_P_STAT_FORCED p) = 0 ∧
      s.only [LPW_P_STAT p, LPW_STAT] [.lpw] (s.lpOn p) := by
  have hon : s.lpOn p = ((s.put (LPW_P_STAT_FORCED p) 0).offShow p 0).lpGo p 1 := by
    rw [State.lpOn, if_pos hst]
    refine State.lpWait_stays _ _ ?_ ?_ ?_ (.inl hc)
    · rwa [State.on_stacked_put _ _ rfl]
    · rwa [State.on_cfg_put _ _ _ rfl rfl]
    · rw [State.on_eq_false, State.get_put_val _ _ _ rfl]
  rw [hon]
  refine ⟨(State.enterWait_spec _ p).1, ?_, ((((s.only_refl _ _).put _ (by simp [LPW_P_STAT_FORCED])).offShow 0 (by simp)
    (by simp))).lpGo _ (by simp) (by simp)⟩
  simp (disch := (refine id ?_; with_unfolding_all rfl)) only [State.get_lpGo, State.get_offShow, State.get_put_val]

theorem State.lpClear_spec (hst : s.get (LPW_P_STAT_STATE p) = 7) (h1 : s.on LPW_STAT_STACKED = false)
    (h2 : s.on (LPW_P_CFG_EN p) = true) (h3 : s.on (LPW_P_STAT_FORCED p) = false) (hc : (s.lp p).cls = 0) :
    (s.lpClear p).get (LPW_P_STAT_STATE p) = 2 ∧ (s.lpClear p).get (LPW_P_STAT_FAILS p) = 0 ∧
      s.only [LPW_P_STAT p, LPW_STAT] [.lpw] (s.lpClear p) := by
  have hclear : s.lpClear p = (((s.put (LPW_P_STAT_FAILS p) 0).offShow p 0).lpGo p 1).lpGo p 2 := by
    rw [State.lpClear, if_pos hst]
    refine State.lpWait_in _ _ ?_ ?_ ?_ hc
    · rwa [State.on_stacked_put _ _ rfl]
    · rwa [State.on_cfg_put _ _ _ rfl rfl]
    · rw [State.on_eq_false, State.get_put_apart _ _ rfl, ← State.on_eq_false]
      exact h3
  rw [hclear]
  refine ⟨State.state_lpGo _ _ (by decide), ?_, (((((s.only_refl _ _).put _ (by simp [LPW_P_STAT_FAILS])).offShow 0 (by simp)
    (by simp))).lpGo _ (by simp) (by simp)).lpGo _ (by simp) (by simp)⟩
  simp (disch := (refine id ?_; with_unfolding_all rfl)) only [State.get_lpGo, State.get_offShow, State.get_put_val]

end

/-! ### The taking of an apply -/

/-- A field of one bit is on when the bit is set. -/
theorem State.on_eq_getLsbD (s : State) {f : Fld} (hw : f.w = 1) : s.on f = (s.rd f.off).getLsbD f.lo := by
  have hlt := s.get_lt f
  have hbit := wordField_bit (s.rd f.off) f.lo f.w 0
  rw [hw] at hlt
  rw [Nat.testBit_zero, hw, Nat.add_zero, decide_eq_true (by decide : 0 < 1), Bool.true_and] at hbit
  rw [← hbit, State.on, State.get, hw]
  rw [State.get, hw] at hlt
  obtain h | h : wordField (s.rd f.off) f.lo 1 = 0 ∨ wordField (s.rd f.off) f.lo 1 = 1 := by omega
  · simp [h]
  · simp [h]

/-- A register of an apply whose window is refused. -/
def winRefused (x : Nat × Word) : Prop := (x.1 = LPW_BUS ∨ x.1 = LPW_P_WIN 0 ∨ x.1 = LPW_P_WIN 1) ∧ winBad x.2 = true

/-- Writes registers in order. -/
def State.wrs (s : State) (l : List (Nat × Word)) : State := l.foldl (fun s x => s.wr x.1 x.2) s

theorem State.takeRegs_good {l : List (Nat × Word)} (h : ∀ x ∈ l, ¬ winRefused x) (s : State) :
    l.foldl (fun s x => s.takeReg x.1 x.2) s = s.wrs l := by
  induction l generalizing s with
  | nil => rfl
  | cons x r ih =>
    obtain ⟨hx, hr⟩ := List.forall_mem_cons.1 h
    have htake : s.takeReg x.1 x.2 = s.wr x.1 x.2 := if_neg hx
    rw [List.foldl_cons, htake, ih hr, State.wrs, State.wrs, List.foldl_cons]

theorem State.rd_wrs_out {l : List (Nat × Word)} {o : Nat} (h : o ∉ l.map Prod.fst) (s : State) : (s.wrs l).rd o = s.rd o := by
  induction l generalizing s with
  | nil => rfl
  | cons x r ih =>
    rw [List.map_cons, List.mem_cons, not_or] at h
    rw [show s.wrs (x :: r) = (s.wr x.1 x.2).wrs r from rfl, ih h.2, State.rd_wr_ne _ _ h.1]

theorem State.rd_wrs_in {l : List (Nat × Word)} {x : Nat × Word} (hl : (l.map Prod.fst).Nodup) (h : x ∈ l) (s : State) :
    (s.wrs l).rd x.1 = x.2 := by
  induction l generalizing s with
  | nil => simp at h
  | cons y r ih =>
    rw [List.map_cons, List.nodup_cons] at hl
    rw [show s.wrs (y :: r) = (s.wr y.1 y.2).wrs r from rfl]
    obtain rfl | hr := List.mem_cons.1 h
    · rw [State.rd_wrs_out hl.1, State.rd_wr_same]
    · exact ih hl.2 hr _

theorem State.only.wrs {s t : State} {os : List Nat} {ps : List Part} {l : List (Nat × Word)} (h : s.only os ps t)
    (hl : l.map Prod.fst ⊆ os) : s.only os ps (t.wrs l) := by
  induction l generalizing t with
  | nil => exact h
  | cons x r ih =>
    rw [List.map_cons, List.cons_subset] at hl
    exact ih (h.wr _ hl.1) hl.2

/-- The registers of an apply without LPW_BUS. -/
def restShared (q c0 w0 l0 t0 c1 w1 l1 t1 : Word) : List (Nat × Word) :=
  [(LPW_SEQ, q), (LPW_P_CFG 0, c0), (LPW_P_WIN 0, w0), (LPW_P_LIM 0, l0), (LPW_P_TIM 0, t0), (LPW_P_CFG 1, c1), (LPW_P_WIN 1, w1),
    (LPW_P_LIM 1, l1), (LPW_P_TIM 1, t1)]

section
variable (q c0 w0 l0 t0 c1 w1 l1 t1 : Word)

theorem restShared_good (h0 : winBad w0 = false) (h1 : winBad w1 = false) :
    ∀ x ∈ restShared q c0 w0 l0 t0 c1 w1 l1 t1, ¬ winRefused x := by
  simp [restShared, winRefused, h0, h1, LPW_SEQ, LPW_BUS, LPW_P_WIN, LPW_P_CFG, LPW_P_LIM, LPW_P_TIM]

theorem restShared_fst : (restShared q c0 w0 l0 t0 c1 w1 l1 t1).map Prod.fst = lpwShared.tail := rfl

/-- The state once the values of an apply whose LPW_BUS is refused are taken. -/
def State.busRefused (s : State) : State :=
  ((s.put LPW_STAT_CFG_REJ 1).put LPW_EVT_CFG_REJ 1).wrs (restShared q c0 w0 l0 t0 c1 w1 l1 t1)

theorem State.take_busRefused {b : Word} (s : State) (hb : winBad b = true) (h0 : winBad w0 = false) (h1 : winBad w1 = false) :
    (lpwShared.zip [b, q, c0, w0, l0, t0, c1, w1, l1, t1]).foldl (fun s x => s.takeReg x.1 x.2) s =
      s.busRefused q c0 w0 l0 t0 c1 w1 l1 t1 := by
  rw [show lpwShared.zip [b, q, c0, w0, l0, t0, c1, w1, l1, t1] = (LPW_BUS, b) :: restShared q c0 w0 l0 t0 c1 w1 l1 t1 from rfl,
    List.foldl_cons, State.takeReg, if_pos ⟨.inl rfl, hb⟩, State.takeRegs_good (restShared_good _ _ _ _ _ _ _ _ _ h0 h1),
    State.busRefused]

variable {q c0 w0 l0 t0 c1 w1 l1 t1}

theorem State.rd_busRefused_in (s : State) {x : Nat × Word} (h : x ∈ restShared q c0 w0 l0 t0 c1 w1 l1 t1) :
    (s.busRefused q c0 w0 l0 t0 c1 w1 l1 t1).rd x.1 = x.2 := State.rd_wrs_in (by rw [restShared_fst]; decide) h _

theorem State.rd_busRefused_out (s : State) {o : Nat} (h : o ∉ lpwShared.tail) (h1 : o ≠ LPW_STAT) (h2 : o ≠ LPW_EVT) :
    (s.busRefused q c0 w0 l0 t0 c1 w1 l1 t1).rd o = s.rd o := by
  rw [State.busRefused, State.rd_wrs_out (by rwa [restShared_fst]), State.rd_put_ne _ _ _ h2, State.rd_put_ne _ _ _ h1]

theorem State.only_busRefused (s : State) :
    s.only (lpwShared ++ [LPW_STAT, LPW_EVT]) [] (s.busRefused q c0 w0 l0 t0 c1 w1 l1 t1) :=
  (((s.only_refl _ _).put _ (by decide)).put _ (by decide)).wrs (by rw [restShared_fst]; decide)

/-- The classes an apply brings, and its end. -/
def State.classesTaken (s : State) (e w : Fin 3) (lowE lowW : Bool) : State :=
  let s2 : State := { s with lpw := { s.lpw with take := false } }
  (s2.setLp 0 { s2.lp 0 with cls := e.val, low := lowE }).setLp 1 { s2.lp 1 with cls := w.val, low := lowW }

theorem State.lp_classesTaken (s : State) (e w : Fin 3) (lowE lowW : Bool) :
    (s.classesTaken e w lowE lowW).lp 0 = { s.lp 0 with cls := e.val, low := lowE } ∧
      (s.classesTaken e w lowE lowW).lp 1 = { s.lp 1 with cls := w.val, low := lowW } := by
  rw [State.classesTaken, State.lp_setLp, State.lp_setLp, State.lp_setLp]
  exact ⟨rfl, rfl⟩

theorem State.only.classesTaken {s t : State} {os : List Nat} {ps : List Part} (h : s.only os ps t) (e w : Fin 3) (lowE lowW : Bool)
    (hl : .lpw ∈ ps) : s.only os ps (t.classesTaken e w lowE lowW) := ((h.with_lpw _ hl).setLp _ hl).setLp _ hl

/-- What an apply does to two ports that are and stay off, with VBUS as it was. -/
theorem exec_lpwApplyTake_off {s : State} {u : State} (e w : Fin 3) (lowE lowW : Bool) (ha : s.lpw.aon = true)
    (ht : s.lpw.take = true) (hd : s.d2dLost = false)
    (hu : (lpwShared.zip s.lpw.sent).foldl (fun s x => s.takeReg x.1 x.2) s = u) (hbus : u.on LPW_VBUS_IN = s.on LPW_VBUS_IN)
    (hst : ∀ p < 2, u.get (LPW_P_STAT_STATE p) = 0) (hen : ∀ p < 2, u.on (LPW_P_CFG_EN p) = false) :
    exec (.lpwApplyTake e w lowE lowW (s.on LPW_VBUS_IN)) s =
      .next (((u.classesTaken e w lowE lowW).sigShow 0).sigShow 1) := by
  have hsig : ((u.classesTaken e w lowE lowW).sigShow 0).get (LPW_P_STAT_STATE 1) = 0 := by
    rw [State.get_sigShow _ _ rfl]
    exact hst 1 (by decide)
  have hsigEn : ((u.classesTaken e w lowE lowW).sigShow 0).on (LPW_P_CFG_EN 1) = false := by
    rw [State.sigShow, State.on_cfg_put (p := 1) (q := 0) _ _ _ rfl rfl]
    exact hen 1 (by decide)
  have h0 : (u.classesTaken e w lowE lowW).on (LPW_P_CFG_EN 0) = false := hen 0 (by decide)
  have hst0 : (u.classesTaken e w lowE lowW).get (LPW_P_STAT_STATE 0) = 0 := hst 0 (by decide)
  have hwhen : ((u.classesTaken e w lowE lowW).when (u.on LPW_VBUS_IN != s.on LPW_VBUS_IN)
      fun t => (t.put LPW_VBUS_IN (b2n (s.on LPW_VBUS_IN))).put LPW_EVT_BUS 1) = u.classesTaken e w lowE lowW := by
    simp [State.when, hbus]
  rw [show exec (.lpwApplyTake e w lowE lowW (s.on LPW_VBUS_IN)) s = execLpwApplyTake e w lowE lowW (s.on LPW_VBUS_IN) s from rfl,
    execLpwApplyTake, if_neg (by simp [ha]), if_pos (by simp [ht, hd])]
  simp only [hu]
  refine congrArg Host.Outcome.next ((congrArg (fun t : State => t.each [0, 1] _) hwhen).trans ?_)
  simp only [State.each, List.foldl_cons, List.foldl_nil, h0, hst0, hsig, hsigEn, Bool.not_false, if_true]

end

/-- Settles O52: a held port, a released one and a cleared one show their state, a window without 5 V is refused. -/
theorem linePowerCommands : Obligations.LinePowerCommands := by
  unfold Obligations.LinePowerCommands
  refine ⟨?_, ?_, ?_, ?_, ?_, ?_⟩
  · intro p s hd hl hr
    exact ⟨_, congrArg Host.Outcome.next (State.lpCmd_run p (fun s => s.lpOff p.val) hd hl hr), s.lpOff_spec p.val⟩
  · intro p s hd hl hr hst h1 h2 hc
    exact ⟨_, congrArg Host.Outcome.next (State.lpCmd_run p (fun s => s.lpOn p.val) hd hl hr), s.lpOn_spec p.val hst h1 h2 hc⟩
  · intro p s hd hl hr hst h1 h2 h3 hc
    exact ⟨_, congrArg Host.Outcome.next (State.lpCmd_run p (fun s => s.lpClear p.val) hd hl hr),
      s.lpClear_spec p.val hst h1 h2 h3 hc⟩
  · intro p s hd hl hr hst
    have hdue : s.detDue p.val = s.setLp p.val { s.lp p.val with due := true } := State.waitCheck_elsewhere _ _ hst
    refine ⟨_, congrArg Host.Outcome.next (State.lpCmd_run p (fun s => s.detDue p.val) hd hl hr), ?_, ?_⟩
    · rw [hdue, State.lp_setLp, if_pos rfl]
    · rw [hdue]
      exact (s.only_refl _ _).setLp _ (by simp)
  · intro p c s hc hl
    have hnone (off : Nat) (f : State → State) : s.lpCmd off f = s := by rw [State.lpCmd, if_pos hl]
    simp only [List.mem_cons, List.not_mem_nil, or_false] at hc
    obtain rfl | rfl | rfl | rfl := hc <;>
      exact ⟨s, congrArg Host.Outcome.next (hnone _ _), s.only_refl _ _⟩
  · intro b q c0 w0 l0 t0 c1 w1 l1 t1 e w lowE lowW s ha ht hd hsent hb h0 h1 hs0 hs1 hc0 hc1
    have hfold : (lpwShared.zip s.lpw.sent).foldl (fun s x => s.takeReg x.1 x.2) s = s.busRefused q c0 w0 l0 t0 c1 w1 l1 t1 := by
      rw [hsent, State.take_busRefused _ _ _ _ _ _ _ _ _ _ hb h0 h1]
    have hstate (p : Nat) (hp : p < 2) : (s.busRefused q c0 w0 l0 t0 c1 w1 l1 t1).get (LPW_P_STAT_STATE p) = 0 := by
      rw [State.get_congr (s := s)]
      · interval_cases p
        · exact hs0
        · exact hs1
      · refine State.rd_busRefused_out _ ?_ (LPW_P_STAT_ne p).1 (LPW_P_STAT_ne p).2.1
        interval_cases p <;> decide
    have hen (p : Nat) (hp : p < 2) : (s.busRefused q c0 w0 l0 t0 c1 w1 l1 t1).on (LPW_P_CFG_EN p) = false := by
      have hall : ∀ x ∈ restShared q c0 w0 l0 t0 c1 w1 l1 t1, (s.busRefused q c0 w0 l0 t0 c1 w1 l1 t1).rd x.1 = x.2 :=
        fun x hx => s.rd_busRefused_in hx
      simp only [restShared, List.forall_mem_cons] at hall
      obtain ⟨-, hc, -, -, -, hc', -⟩ := hall
      interval_cases p
      · rw [State.on_eq_getLsbD _ rfl]
        exact (congrArg (·.getLsbD 0) hc).trans hc0
      · rw [State.on_eq_getLsbD _ rfl]
        exact (congrArg (·.getLsbD 0) hc').trans hc1
    refine ⟨_, exec_lpwApplyTake_off e w lowE lowW ha ht hd hfold ?_ hstate hen, ?_⟩
    · exact State.on_congr (State.rd_busRefused_out _ (by decide) (by decide) (by decide))
    have hrd (o : Nat) (h0 : o ≠ LPW_P_STAT 0) (h1 : o ≠ LPW_P_STAT 1) :
        ((((s.busRefused q c0 w0 l0 t0 c1 w1 l1 t1).classesTaken e w lowE lowW).sigShow 0).sigShow 1).rd o =
          (s.busRefused q c0 w0 l0 t0 c1 w1 l1 t1).rd o := by
      rw [State.sigShow, State.rd_put_ne _ _ _ h1, State.sigShow, State.rd_put_ne _ _ _ h0]
      rfl
    have hin : ∀ x ∈ restShared q c0 w0 l0 t0 c1 w1 l1 t1,
        ((((s.busRefused q c0 w0 l0 t0 c1 w1 l1 t1).classesTaken e w lowE lowW).sigShow 0).sigShow 1).rd x.1 = x.2 := by
      intro x hx
      have hport := (show ∀ o ∈ lpwShared.tail, o ≠ LPW_P_STAT 0 ∧ o ≠ LPW_P_STAT 1 by decide) x.1
        (by rw [← restShared_fst q c0 w0 l0 t0 c1 w1 l1 t1]; exact List.mem_map_of_mem hx)
      rw [hrd _ hport.1 hport.2, State.rd_busRefused_in _ hx]
    simp only [restShared, List.forall_mem_cons] at hin
    obtain ⟨hq, hc0', hw0, hl0, ht0, hc1', hw1, hl1, ht1, -⟩ := hin
    have hrej (f : Fld) (h : f = LPW_STAT_CFG_REJ ∨ f = LPW_EVT_CFG_REJ) :
        ((((s.busRefused q c0 w0 l0 t0 c1 w1 l1 t1).classesTaken e w lowE lowW).sigShow 0).sigShow 1).get f = 1 := by
      have hout : f.off ∉ (restShared q c0 w0 l0 t0 c1 w1 l1 t1).map Prod.fst := by
        rw [restShared_fst]
        obtain rfl | rfl := h <;> decide
      have hport (p : Nat) : f.off ≠ LPW_P_STAT p := by
        obtain rfl | rfl := h
        · exact (LPW_P_STAT_ne p).1.symm
        · exact (LPW_P_STAT_ne p).2.1.symm
      rw [State.get_congr (hrd _ (hport 0) (hport 1)), State.busRefused, State.get_congr (State.rd_wrs_out hout _)]
      obtain rfl | rfl := h
      · rw [State.get_put_apart _ _ rfl, State.get_put_val _ _ _ rfl]
      · rw [State.get_put_val _ _ _ rfl]
    have hlp := (s.busRefused q c0 w0 l0 t0 c1 w1 l1 t1).lp_classesTaken e w lowE lowW
    refine ⟨?_, hq, hc0', hw0, hl0, ht0, hc1', hw1, hl1, ht1, hrej _ (.inl rfl), hrej _ (.inr rfl), rfl,
      congrArg LpPort.cls hlp.1, congrArg LpPort.cls hlp.2, congrArg LpPort.low hlp.1, congrArg LpPort.low hlp.2, ?_⟩
    · rw [hrd _ (by decide) (by decide), State.rd_busRefused_out _ (by decide) (by decide) (by decide)]
    · exact (((s.only_busRefused.mono (by decide) (by decide)).classesTaken e w lowE lowW (by simp)).sigShow
        (by decide)).sigShow (by decide)

end Sys2Proof.Machine

/-! A failed attempt of a line-power port, its off time and its end (R464 to R468). -/
namespace Sys2Proof.Machine

set_option Elab.async false

/-! ### A fault with its event -/

theorem State.proofCause_tst_congr {s t : State} (h : t.rd TST_PSTAT = s.rd TST_PSTAT) (ht : t.tst = s.tst) (k : Nat) :
    (t.proofCause k).tst = (s.proofCause k).tst := by
  have hget : t.get TST_PSTAT_STATE = s.get TST_PSTAT_STATE := State.get_congr h
  rw [State.proofCause, State.proofCause, hget]
  split
  · rw [ht]
  · exact ht

theorem setBitTo_idem (x k : Nat) : setBitTo (setBitTo x k true) k true = setBitTo x k true := by
  have hbit : (setBitTo x k true).testBit k = true := by
    rw [setBitTo]
    split
    · next h => exact h
    · next h =>
      rw [if_pos rfl, Nat.add_comm, Nat.testBit_two_pow_add_eq]
      simpa using h
  rw [setBitTo, if_pos hbit]

theorem State.proofCause_tst_idem {s t : State} (h : t.rd TST_PSTAT = s.rd TST_PSTAT) {k : Nat} (ht : t.tst = (s.proofCause k).tst) :
    (t.proofCause k).tst = (s.proofCause k).tst := by
  have hget : t.get TST_PSTAT_STATE = s.get TST_PSTAT_STATE := State.get_congr h
  rw [State.proofCause, hget]
  split
  · next hst =>
    rw [State.proofCause, if_pos hst] at ht ⊢
    rw [ht]
    simp only [setBitTo_idem]
  · exact ht

theorem TST_PSTAT_ne_port (p : Nat) : TST_PSTAT ≠ LPW_P_STAT p := by
  simp only [TST_PSTAT, LPW_P_STAT]
  omega

/-- A running collector with a short queue takes a message. -/
theorem State.roomy_of_runs {s : State} (h : s.inReset 0x05 = false) (hlen : s.fltQ.length < 32) : s.roomy := by
  have hdie : onDie 0x05 = true := by decide
  simp only [State.inReset, State.dark, hdie, Bool.true_and, Bool.or_eq_false_iff, beq_eq_false_iff_ne, ne_eq] at h
  obtain ⟨⟨hmode, -⟩, hblk⟩ := h
  exact ⟨hmode, hblk, hlen⟩

/-- The state once a port has shown an event and its fault is sent. -/
def State.portFault (s : State) (p k kind : Nat) : State := (s.lpEvt p k).lpFault kind p

section
variable {s : State} {p k kind : Nat}

theorem State.roomy_lpEvt (hr : s.roomy) : (s.lpEvt p k).roomy :=
  ((s.only_refl [LPW_EVT] []).lpEvt k (by simp)).roomy hr (by decide) (by decide) (by simp)

theorem State.portFault_eq (hd : s.d2dLost = false) (hk : kind ≠ 0x63) (hr : s.roomy) :
    s.portFault p k kind = { s.lpEvt p k with
      fltQ := fltInsert ⟨0x15, kind, kindSev kind, p % 2 ^ 48, false, s.sys.t⟩ s.fltQ
      tst := ((s.lpEvt p k).proofCause 2).tst } := State.lpFault_linked p hd hk (State.roomy_lpEvt hr)

theorem State.only_portFault (hd : s.d2dLost = false) (hk : kind ≠ 0x63) (hr : s.roomy) :
    s.only [LPW_EVT] [.fltQ, .tst] (s.portFault p k kind) := by
  rw [State.portFault_eq hd hk hr]
  have hevt : s.only [LPW_EVT] [.fltQ, .tst] (s.lpEvt p k) := (s.only_refl _ _).lpEvt k (by simp)
  exact (hevt.with_fltQ (fltInsert ⟨0x15, kind, kindSev kind, p % 2 ^ 48, false, s.sys.t⟩ s.fltQ) (by simp)).with_tst
    ((s.lpEvt p k).proofCause 2).tst (by simp)

theorem State.getBit_portFault (hd : s.d2dLost = false) (hk : kind ≠ 0x63) (hr : s.roomy) (hk7 : k < 7) :
    (s.portFault p k kind).getBit (if p = 0 then LPW_EVT_P0 else LPW_EVT_P1) k = true := by
  rw [State.portFault_eq hd hk hr]
  exact s.getBit_lpEvt p hk7

/-- A report keeps the events that stand. -/
theorem State.getBit_portFault_of (hd : s.d2dLost = false) (hk : kind ≠ 0x63) (hr : s.roomy) (hk7 : k < 7) {j : Nat}
    (hj : s.getBit (if p = 0 then LPW_EVT_P0 else LPW_EVT_P1) j = true) :
    (s.portFault p k kind).getBit (if p = 0 then LPW_EVT_P0 else LPW_EVT_P1) j = true := by
  rw [State.portFault_eq hd hk hr]
  show (s.setBit (if p = 0 then LPW_EVT_P0 else LPW_EVT_P1) k).getBit _ j = true
  rw [State.getBit_setBit, hj, Bool.or_true]
  · split <;> rfl
  · split <;> exact hk7

theorem State.sent_portFault (hd : s.d2dLost = false) (hk : kind ≠ 0x63) (hr : s.roomy) :
    s.sent (s.portFault p k kind) 0x15 kind p := by rw [State.sent, State.portFault_eq hd hk hr]

theorem State.tst_portFault (hd : s.d2dLost = false) (hk : kind ≠ 0x63) (hr : s.roomy) :
    (s.portFault p k kind).tst = (s.proofCause 2).tst := by
  rw [State.portFault_eq hd hk hr]
  exact State.proofCause_tst_congr (State.rd_put_ne _ _ _ (by rw [evtFld_off]; decide)) rfl 2

theorem State.get_portFault (hd : s.d2dLost = false) (hk : kind ≠ 0x63) (hr : s.roomy) {f : Fld} (hf : f.off ≠ LPW_EVT) :
    (s.portFault p k kind).get f = s.get f := (State.only_portFault hd hk hr).get_eq (by simpa using hf)

end

/-! ### A failed attempt -/

section
variable (s : State) (p cause ta : Nat)

/-- The count and the cause of a failed attempt. -/
def State.failNoted (s : State) (p cause : Nat) : State := (s.satAdd (LPW_P_STAT_FAILS p) 1).put (LPW_P_STAT_CAUSE p) cause

theorem State.fails_failNoted : (s.failNoted p cause).get (LPW_P_STAT_FAILS p) = min (s.get (LPW_P_STAT_FAILS p) + 1) 255 := by
  rw [State.failNoted, State.get_put_apart _ _ rfl, State.get_satAdd_self _ _ rfl]
  rfl

theorem State.only_failNoted : s.only [LPW_P_STAT p] [] (s.failNoted p cause) :=
  ((s.only_refl _ _).satAdd _ (by simp [LPW_P_STAT_FAILS])).put _ (by simp [LPW_P_STAT_CAUSE])

/-- Without a limit of failures the port waits out its off time in RETRY. -/
theorem State.lpFail_retry (h : s.get (LPW_P_CFG_RETRY_MAX p) = 0) :
    s.lpFail p cause ta = ((s.failNoted p cause).lpGo p 6).offShow p (max 1000000 (100 * ta)) := by
  rw [State.lpFail, if_neg (by simp [h])]
  rfl

/-- The last failure allowed latches the port. -/
theorem State.lpFail_latch (h : s.get (LPW_P_CFG_RETRY_MAX p) = s.get (LPW_P_STAT_FAILS p) + 1) :
    s.lpFail p cause ta = ((s.failNoted p cause).lpGo p 7).portFault p 5 0x64 := by
  have hlt : s.get (LPW_P_CFG_RETRY_MAX p) < 2 ^ 8 := s.get_lt _
  have hfails := s.fails_failNoted p cause
  rw [State.failNoted] at hfails
  rw [State.lpFail, if_pos ⟨by omega, by rw [hfails]; omega⟩]
  rfl

theorem State.only_lpFail_retry (h : s.get (LPW_P_CFG_RETRY_MAX p) = 0) :
    s.only [LPW_P_STAT p, LPW_STAT] [.lpw] (s.lpFail p cause ta) := by
  rw [State.lpFail_retry _ _ _ _ h]
  exact (((s.only_failNoted p cause).mono (by simp) (by simp)).lpGo _ (by simp) (by simp)).offShow _ (by simp) (by simp)

/-- What a port shows that begins its off time. -/
theorem State.lpFail_retry_spec (h : s.get (LPW_P_CFG_RETRY_MAX p) = 0) (hc : cause < 16) :
    (s.lpFail p cause ta).get (LPW_P_STAT_STATE p) = 6 ∧ (s.lpFail p cause ta).get (LPW_P_STAT_CAUSE p) = cause ∧
      (s.lpFail p cause ta).get (LPW_P_STAT_FAILS p) = min 255 (s.get (LPW_P_STAT_FAILS p) + 1) ∧
      ((s.lpFail p cause ta).lp p).off = max 1000000 (100 * ta) ∧ (s.lpFail p cause ta).get (LPW_P_STAT_PG p) = 0 ∧
      (s.lpFail p cause ta).get (LPW_P_STAT_LIMIT p) = 0 := by
  rw [State.lpFail_retry _ _ _ _ h]
  refine ⟨?_, ?_, ?_, ?_, ?_, ?_⟩
  · rw [State.get_offShow _ _ _ rfl, State.state_lpGo _ _ (by decide)]
  · rw [State.get_offShow _ _ _ rfl, State.get_lpGo _ _ _ rfl, State.failNoted, State.get_put_self _ rfl hc]
  · rw [State.get_offShow _ _ _ rfl, State.get_lpGo _ _ _ rfl, State.fails_failNoted, min_comm]
  · rw [State.lp_offShow]
  · rw [State.get_offShow _ _ _ rfl, State.pg_lpGo _ _ (by decide)]
  · rw [State.get_offShow _ _ _ rfl, State.limit_lpGo _ _ (by decide) (by decide)]

end

/-! ### The events of a port that is out of its windows or its limits -/

section
variable {s : State} {p : Nat}

/-- A fault of a port in its ramp or ON without a limit of failures: the report, and the off time. -/
theorem State.failure_spec {k kind cause : Nat} (ta : Nat) (h : s.get (LPW_P_CFG_RETRY_MAX p) = 0) (hd : s.d2dLost = false)
    (hr : s.roomy) (hk : kind ≠ 0x63) (hk7 : k < 7) (hc : cause < 16) :
    ∃ t, t = (s.portFault p k kind).lpFail p cause ta ∧ t.get (LPW_P_STAT_STATE p) = 6 ∧ t.get (LPW_P_STAT_CAUSE p) = cause ∧
      t.get (LPW_P_STAT_FAILS p) = min 255 (s.get (LPW_P_STAT_FAILS p) + 1) ∧ (t.lp p).off = max 1000000 (100 * ta) ∧
      t.get (LPW_P_STAT_PG p) = 0 ∧ t.get (LPW_P_STAT_LIMIT p) = 0 ∧
      t.getBit (if p = 0 then LPW_EVT_P0 else LPW_EVT_P1) k = true ∧ s.sent t 0x15 kind p ∧ t.tst = (s.proofCause 2).tst ∧
      s.only [LPW_P_STAT p, LPW_EVT, LPW_STAT] [.lpw, .fltQ, .tst] t := by
  have hcfg : (s.portFault p k kind).get (LPW_P_CFG_RETRY_MAX p) = 0 := by
    rw [State.get_portFault hd hk hr (LPW_P_CFG_ne p p).2.1, h]
  obtain ⟨hst, hcause, hfails, hoff, hpg, hlim⟩ := (s.portFault p k kind).lpFail_retry_spec p cause ta hcfg hc
  have hfail := (s.portFault p k kind).only_lpFail_retry p cause ta hcfg
  refine ⟨_, rfl, hst, hcause, ?_, hoff, hpg, hlim, ?_, ?_, ?_, ?_⟩
  · rw [hfails, State.get_portFault hd hk hr (LPW_P_STAT_ne p).2.1]
  · rw [State.getBit_congr (hfail.1 _ ?_), State.getBit_portFault hd hk hr hk7]
    rw [evtFld_off]
    simpa using ⟨(LPW_P_STAT_ne p).2.1.symm, (by decide : LPW_EVT ≠ LPW_STAT)⟩
  · rw [State.sent, show ((s.portFault p k kind).lpFail p cause ta).fltQ = _ from hfail.2 .fltQ (by simp)]
    exact State.sent_portFault hd hk hr
  · rw [show ((s.portFault p k kind).lpFail p cause ta).tst = _ from hfail.2 .tst (by simp), State.tst_portFault hd hk hr]
  · exact ((State.only_portFault hd hk hr).mono (by simp) (by simp)).trans (hfail.mono (by simp) (by simp))

end

/-! ### Several ways to fail -/

theorem exec_fastTrip {s : State} {p : Fin 2} (ta : BitVec 18) (ha : s.lpw.aon = true)
    (hst : s.get (LPW_P_STAT_STATE p.val) = 4 ∨ s.get (LPW_P_STAT_STATE p.val) = 5) :
    exec (.fastTrip p ta) s = .next ((s.portFault p.val 2 0x60).lpFail p.val 2 (min ta.toNat (s.taMax p.val))) := by
  rw [show exec (.fastTrip p ta) s = execFastTrip p ta s from rfl, execFastTrip, if_neg (by simp [ha])]
  exact congrArg Host.Outcome.next (if_pos hst)

theorem exec_faultTimerExpiry {s : State} {p : Fin 2} (ta : BitVec 18) (ha : s.lpw.aon = true)
    (hst : s.get (LPW_P_STAT_STATE p.val) = 4 ∨ s.get (LPW_P_STAT_STATE p.val) = 5) (hl : s.on (LPW_P_STAT_LIMIT p.val) = true) :
    exec (.faultTimerExpiry p ta) s = .next ((s.portFault p.val 3 0x61).lpFail p.val 3
      (if s.get (LPW_P_STAT_STATE p.val) = 4 then min ta.toNat (s.taMax p.val) else s.taMax p.val)) := by
  rw [show exec (.faultTimerExpiry p ta) s = execFaultTimerExpiry p ta s from rfl, execFaultTimerExpiry, if_neg (by simp [ha])]
  exact congrArg Host.Outcome.next (if_pos ⟨hst, hl⟩)

theorem exec_rampTimeout {s : State} {p : Fin 2} (ha : s.lpw.aon = true) (hst : s.get (LPW_P_STAT_STATE p.val) = 4) :
    exec (.rampTimeout p) s = .next ((s.portFault p.val 6 0x65).lpFail p.val 4
      (1000 * clampTo 5 200 (s.get (LPW_P_LIM_SS_TO p.val)))) := by
  rw [show exec (.rampTimeout p) s = execRampTimeout p s from rfl, execRampTimeout, if_neg (by simp [ha])]
  exact congrArg Host.Outcome.next (if_pos hst)

theorem exec_offTimeEnd {s : State} {p : Fin 2} (ha : s.lpw.aon = true) (hst : s.get (LPW_P_STAT_STATE p.val) = 6) :
    exec (.offTimeEnd p) s = .next ((s.setLp p.val { s.lp p.val with due := true }).lpWait p.val) := by
  rw [show exec (.offTimeEnd p) s = execOffTimeEnd p s from rfl, execOffTimeEnd, if_neg (by simp [ha])]
  exact congrArg Host.Outcome.next (if_pos hst)

theorem exec_fetShort {s : State} {p : Fin 2} (ha : s.lpw.aon = true)
    (hst : ¬ (s.get (LPW_P_STAT_STATE p.val) = 4 ∨ s.get (LPW_P_STAT_STATE p.val) = 5 ∨ s.get (LPW_P_STAT_STATE p.val) = 7)) :
    exec (.fetShort p) s = .next (((s.offShow p.val 0).portFault p.val 6 0x65).lpGo p.val 7) := by
  rw [show exec (.fetShort p) s = execFetShort p s from rfl, execFetShort, if_neg (by simp [ha])]
  exact congrArg Host.Outcome.next (if_neg hst)

theorem exec_fetShort_gate {s : State} {p : Fin 2}
    (hst : s.get (LPW_P_STAT_STATE p.val) = 4 ∨ s.get (LPW_P_STAT_STATE p.val) = 5 ∨ s.get (LPW_P_STAT_STATE p.val) = 7) :
    exec (.fetShort p) s = .next s := by
  rw [show exec (.fetShort p) s = execFetShort p s from rfl, execFetShort]
  split
  · rfl
  · exact congrArg Host.Outcome.next (if_pos hst)

theorem length_fltInsert (m : FaultMsg) (l : List FaultMsg) : (fltInsert m l).length = l.length + 1 := by
  induction l with
  | nil => rfl
  | cons x r ih =>
    rw [fltInsert]
    split
    · rfl
    · simp [ih]

/-- A failure that latches the port sends two messages, and only the first can end a proof run. -/
theorem State.latch_spec {s : State} {p : Nat} (ta : Nat) (h : s.get (LPW_P_CFG_RETRY_MAX p) = s.get (LPW_P_STAT_FAILS p) + 1)
    (hd : s.d2dLost = false) (hr : s.roomy) (hlen : s.fltQ.length < 31) :
    ∃ t, t = (s.portFault p 6 0x65).lpFail p 4 ta ∧ t.get (LPW_P_STAT_STATE p) = 7 ∧ t.get (LPW_P_STAT_CAUSE p) = 4 ∧
      t.get (LPW_P_STAT_FAILS p) = s.get (LPW_P_CFG_RETRY_MAX p) ∧
      t.getBit (if p = 0 then LPW_EVT_P0 else LPW_EVT_P1) 6 = true ∧
      t.getBit (if p = 0 then LPW_EVT_P0 else LPW_EVT_P1) 5 = true ∧
      t.fltQ = fltInsert ⟨0x15, 0x64, kindSev 0x64, p % 2 ^ 48, false, s.sys.t⟩
        (fltInsert ⟨0x15, 0x65, kindSev 0x65, p % 2 ^ 48, false, s.sys.t⟩ s.fltQ) ∧
      t.tst = (s.proofCause 2).tst ∧ s.only [LPW_P_STAT p, LPW_EVT, LPW_STAT] [.fltQ, .tst] t := by
  have hne : (0x65 : Nat) ≠ 0x63 := by decide
  have hget {f : Fld} (hf : f.off ≠ LPW_EVT) : (s.portFault p 6 0x65).get f = s.get f := State.get_portFault hd hne hr hf
  have hcfg : (s.portFault p 6 0x65).get (LPW_P_CFG_RETRY_MAX p) = (s.portFault p 6 0x65).get (LPW_P_STAT_FAILS p) + 1 := by
    rw [hget (LPW_P_CFG_ne p p).2.1, hget (LPW_P_STAT_ne p).2.1, h]
  rw [State.lpFail_latch _ _ _ _ hcfg]
  have hfirst : s.only [LPW_P_STAT p, LPW_EVT, LPW_STAT] [.fltQ, .tst] (s.portFault p 6 0x65) :=
    (State.only_portFault hd hne hr).mono (by simp) (by simp)
  have hgo : (s.portFault p 6 0x65).only [LPW_P_STAT p, LPW_STAT] [] (((s.portFault p 6 0x65).failNoted p 4).lpGo p 7) :=
    (((s.portFault p 6 0x65).only_failNoted p 4).mono (by simp) (by simp)).lpGo _ (by simp) (by simp)
  generalize hv : ((s.portFault p 6 0x65).failNoted p 4).lpGo p 7 = v at hgo ⊢
  have hvd : v.d2dLost = false := by
    rw [show v.d2dLost = _ from hgo.2 .d2dLost (by simp), show (s.portFault p 6 0x65).d2dLost = _ from hfirst.2 .d2dLost (by simp), hd]
  have hvq : v.fltQ = fltInsert ⟨0x15, 0x65, kindSev 0x65, p % 2 ^ 48, false, s.sys.t⟩ s.fltQ := by
    rw [show v.fltQ = _ from hgo.2 .fltQ (by simp)]
    exact State.sent_portFault hd hne hr
  have hv' : s.only [LPW_P_STAT p, LPW_EVT, LPW_STAT] [.fltQ, .tst] v := hfirst.trans (hgo.mono (by simp) (by simp))
  have hmode : MPC_MODE ∉ [LPW_P_STAT p, LPW_EVT, LPW_STAT] := by
    simpa using ⟨(MPC_MODE_ne_port p).1, (by decide : ¬ MPC_MODE = LPW_EVT ∧ ¬ MPC_MODE = LPW_STAT)⟩
  have hinrst : RSTC_INRST ∉ [LPW_P_STAT p, LPW_EVT, LPW_STAT] := by
    simpa using ⟨(MPC_MODE_ne_port p).2, (by decide : ¬ RSTC_INRST = LPW_EVT ∧ ¬ RSTC_INRST = LPW_STAT)⟩
  have hvr : v.roomy := by
    obtain ⟨hm, hf, -⟩ := hr
    refine ⟨?_, ?_, ?_⟩
    · rwa [State.mode, State.get_congr (f := MPC_MODE_CUR) (hv'.1 _ hmode)]
    · rwa [State.getBit, State.get_congr (f := RSTC_INRST_BLK) (hv'.1 _ hinrst)]
    · rw [hvq, length_fltInsert]
      omega
  have hvt : v.sys.t = s.sys.t := by rw [show v.sys = _ from hv'.2 .sys (by simp)]
  have hne4 : (0x64 : Nat) ≠ 0x63 := by decide
  have hlast := State.only_portFault (p := p) (k := 5) hvd hne4 hvr
  have hvget {f : Fld} (hf : f.off ≠ LPW_EVT) : (v.portFault p 5 0x64).get f = v.get f := State.get_portFault hvd hne4 hvr hf
  refine ⟨_, rfl, ?_, ?_, ?_, ?_, State.getBit_portFault hvd hne4 hvr (by decide), ?_, ?_, ?_⟩
  · rw [hvget (LPW_P_STAT_ne p).2.1, ← hv, State.state_lpGo _ _ (by decide)]
  · rw [hvget (LPW_P_STAT_ne p).2.1, ← hv, State.get_lpGo _ _ _ rfl, State.failNoted, State.get_put_val _ _ _ rfl]
  · have hlt : s.get (LPW_P_CFG_RETRY_MAX p) < 2 ^ 8 := s.get_lt _
    rw [hvget (LPW_P_STAT_ne p).2.1, ← hv, State.get_lpGo _ _ _ rfl, State.fails_failNoted, hget (LPW_P_STAT_ne p).2.1]
    omega
  · refine State.getBit_portFault_of hvd hne4 hvr (by decide) ?_
    rw [State.getBit_congr (hgo.1 _ ?_), State.getBit_portFault hd hne hr (by decide)]
    rw [evtFld_off]
    simpa using ⟨(LPW_P_STAT_ne p).2.1.symm, (by decide : LPW_EVT ≠ LPW_STAT)⟩
  · rw [show (v.portFault p 5 0x64).fltQ = _ from State.sent_portFault hvd hne4 hvr, hvq, hvt]
  · rw [State.tst_portFault hvd hne4 hvr]
    refine State.proofCause_tst_idem (hv'.1 _ ?_) ?_
    · simpa using ⟨TST_PSTAT_ne_port p, (by decide : ¬ TST_PSTAT = LPW_EVT ∧ ¬ TST_PSTAT = LPW_STAT)⟩
    · rw [show v.tst = _ from hgo.2 .tst (by simp), State.tst_portFault hd hne hr]
  · exact hv'.trans (hlast.mono (by simp) (by simp))

/-- While the link is lost the report waits in the P-die, and the port goes on to its off time. -/
theorem State.failure_queued {s : State} {p k kind cause : Nat} (ta : Nat) (h : s.get (LPW_P_CFG_RETRY_MAX p) = 0)
    (hd : s.d2dLost = true) (hq : s.lpw.q.length < 16) :
    ((s.portFault p k kind).lpFail p cause ta).get (LPW_P_STAT_STATE p) = 6 ∧
      ((s.portFault p k kind).lpFail p cause ta).fltQ = s.fltQ ∧
      ((s.portFault p k kind).lpFail p cause ta).lpw.q = s.lpw.q ++ [⟨0x15, kind, kindSev kind, p % 2 ^ 48, false, s.sys.t⟩] := by
  have hfault : s.portFault p k kind = { s.lpEvt p k with lpw := { s.lpw with
      q := s.lpw.q ++ [⟨0x15, kind, kindSev kind, p % 2 ^ 48, false, s.sys.t⟩] } } := by
    rw [State.portFault, State.lpFault, if_neg (by simp [show (s.lpEvt p k).d2dLost = true from hd])]
    exact if_pos hq
  have hcfg : (s.portFault p k kind).get (LPW_P_CFG_RETRY_MAX p) = 0 := by
    rw [hfault]
    exact (State.get_lpEvt s p k (LPW_P_CFG_ne p p).2.1).trans h
  have hfail := (s.portFault p k kind).only_lpFail_retry p cause ta hcfg
  rw [State.lpFail_retry _ _ _ _ hcfg] at hfail ⊢
  refine ⟨?_, ?_, ?_⟩
  · rw [State.get_offShow _ _ _ rfl, State.state_lpGo _ _ (by decide)]
  · rw [show State.fltQ (State.offShow _ _ _) = _ from hfail.2 .fltQ (by simp), hfault]
    rfl
  · rw [show ∀ u : State, (u.offShow p (max 1000000 (100 * ta))).lpw.q = u.lpw.q from fun _ => rfl, State.lpGo_lpw, hfault]
    rfl

theorem p_mod (p : Fin 2) : p.val % 2 ^ 48 = p.val := Nat.mod_eq_of_lt (by omega)

/-- Settles O51: a failed attempt is reported and waits out its off time, or latches; the off time ends in WAIT. -/
theorem linePortFailures : Obligations.LinePortFailures := by
  unfold Obligations.LinePortFailures
  refine ⟨?_, ?_, ?_, ?_, ?_, ?_, ?_⟩
  · intro p ta s ha hst hmax hd hr
    obtain ⟨t, rfl, hs, hc, hf, ho, hpg, hlim, hbit, hsent, htst, honly⟩ :=
      State.failure_spec (k := 2) (kind := 0x60) (cause := 2) (min ta.toNat (s.taMax p.val)) hmax hd hr (by decide) (by decide) (by decide)
    exact ⟨_, exec_fastTrip ta ha (by simpa using hst), hs, hc, hf, ho, hpg, hlim, hbit, hsent, htst, honly⟩
  · intro p ta s ha hst hlim hmax hd hr
    obtain ⟨t, rfl, hs, hc, hf, ho, hpg, hlim', hbit, hsent, htst, honly⟩ :=
      State.failure_spec (k := 3) (kind := 0x61) (cause := 3)
        (if s.get (LPW_P_STAT_STATE p.val) = 4 then min ta.toNat (s.taMax p.val) else s.taMax p.val) hmax hd hr (by decide)
        (by decide) (by decide)
    refine ⟨_, exec_faultTimerExpiry ta ha (by simpa using hst) hlim, hs, hc, ?_, ?_, hbit, hsent, htst, honly⟩
    · intro h4
      rw [ho, if_pos h4]
    · intro h5
      have h4 : s.get (LPW_P_STAT_STATE p.val) ≠ 4 := by omega
      rw [ho, if_neg h4, State.taMax, if_neg h4, clampTo]
      congr 1
      omega
  · intro p s ha hst hd h5 hlen hmax
    have hroom : s.roomy := State.roomy_of_runs h5 (by omega)
    obtain ⟨t, rfl, hs, hc, hf, hb6, hb5, hq, htst, honly⟩ :=
      State.latch_spec (1000 * clampTo 5 200 (s.get (LPW_P_LIM_SS_TO p.val))) hmax hd hroom hlen
    rw [p_mod] at hq
    exact ⟨_, exec_rampTimeout ha hst, hs, hc, hf, hb6, hb5, hq, htst, honly⟩
  · intro p ta s ha hst hmax hd hq
    obtain ⟨hs, hf, hl⟩ := State.failure_queued (k := 2) (kind := 0x60) (cause := 2) (min ta.toNat (s.taMax p.val)) hmax hd hq
    rw [p_mod] at hl
    exact ⟨_, exec_fastTrip ta ha (.inr hst), hs, hf, hl⟩
  · intro p s ha hst h1 h2 h3 hc
    have hwait := (s.setLp p.val { s.lp p.val with due := true }).lpWait_stays p.val h1 h2 h3
      (.inl (by rw [State.lp_setLp, if_pos rfl]; exact hc))
    obtain ⟨hs, ho, hl⟩ := (s.setLp p.val { s.lp p.val with due := true }).enterWait_spec p.val
    rw [State.lp_setLp, if_pos rfl] at hl
    refine ⟨_, exec_offTimeEnd ha hst, ?_⟩
    rw [hwait]
    refine ⟨hs, congrArg LpPort.due hl, congrArg LpPort.off hl, ho, ?_, ?_⟩
    · rw [State.get_lpGo _ _ _ rfl, State.get_offShow _ _ _ rfl]
      rfl
    · exact (((s.only_refl _ _).setLp _ (by simp)).offShow _ (by simp) (by simp)).lpGo _ (by simp) (by simp)
  · intro p s ha hst hd hr
    have hne : (0x65 : Nat) ≠ 0x63 := by decide
    have hoff : s.only [LPW_P_STAT p.val] [.lpw] (s.offShow p.val 0) := (s.only_refl _ _).offShow _ (by simp) (by simp)
    have hd' : (s.offShow p.val 0).d2dLost = false := (hoff.2 .d2dLost (by simp)).trans hd
    have hr' : (s.offShow p.val 0).roomy :=
      hoff.roomy hr (by simpa using (MPC_MODE_ne_port p.val).1) (by simpa using (MPC_MODE_ne_port p.val).2) (by simp)
    have hfault := State.only_portFault (p := p.val) (k := 6) hd' hne hr'
    have hgo : ((s.offShow p.val 0).portFault p.val 6 0x65).only [LPW_P_STAT p.val, LPW_STAT] []
        (((s.offShow p.val 0).portFault p.val 6 0x65).lpGo p.val 7) := (State.only_refl _ _ _).lpGo _ (by simp) (by simp)
    refine ⟨_, exec_fetShort ha (by simpa using hst), State.state_lpGo _ _ (by decide), ?_, ?_, ?_, ?_⟩
    · rw [State.getBit_congr (hgo.1 _ ?_), State.getBit_portFault hd' hne hr' (by decide)]
      rw [evtFld_off]
      simpa using ⟨(LPW_P_STAT_ne p.val).2.1.symm, (by decide : LPW_EVT ≠ LPW_STAT)⟩
    · rw [State.sent, show State.fltQ (State.lpGo _ _ _) = _ from hgo.2 .fltQ (by simp)]
      exact State.sent_portFault hd' hne hr'
    · rw [show State.tst (State.lpGo _ _ _) = _ from hgo.2 .tst (by simp), State.tst_portFault hd' hne hr']
      exact State.proofCause_tst_congr (hoff.1 _ (by simpa using TST_PSTAT_ne_port p.val)) rfl 2
    · exact ((hoff.mono (by simp) (by simp)).trans (hfault.mono (by simp) (by simp))).trans (hgo.mono (by simp) (by simp))
  · intro p s ha hst
    exact ⟨s, exec_fetShort_gate (by simpa using hst), s.only_refl _ _⟩

end Sys2Proof.Machine

/-! The states of a line-power port and what leads from one to another (R458 to R469). -/
namespace Sys2Proof.Machine

set_option Elab.async false

theorem LPW_P_DET_ne (p : Nat) : LPW_P_DET p ≠ LPW_P_STAT p ∧ LPW_P_DET p ≠ LPW_STAT ∧ LPW_P_DET p ≠ MPC_MODE ∧
    LPW_P_DET p ≠ RSTC_INRST ∧ LPW_P_DET p ≠ LPW_P_CFG p ∧ LPW_P_DET p ≠ LPW_EVT := by
  simp only [LPW_P_DET, LPW_P_STAT, LPW_STAT, MPC_MODE, RSTC_INRST, LPW_P_CFG, LPW_EVT]
  omega

/-! ### A side enters or leaves its window -/

theorem exec_sideChange {s : State} (p : Fin 2) (cls : Fin 3) (low : Bool) (ha : s.lpw.aon = true) :
    exec (.lineWindowChange p.castSucc cls low) s = .next (s.sideClass p.val cls.val low) := by
  rw [show exec (.lineWindowChange p.castSucc cls low) s = execLineWindowChange p.castSucc cls low s from rfl,
    execLineWindowChange, if_neg (by simp [ha])]
  exact congrArg Host.Outcome.next (if_neg (show ¬ p.val = 2 by omega))

theorem exec_busChange {s : State} (cls : Fin 3) (low : Bool) (ha : s.lpw.aon = true) :
    exec (.lineWindowChange 2 cls low) s = .next (s.busClass (cls.val == 0)) := by
  rw [show exec (.lineWindowChange 2 cls low) s = execLineWindowChange 2 cls low s from rfl,
    execLineWindowChange, if_neg (by simp [ha])]
  rfl

section
variable {s : State} {p : Nat}

/-- The state once the class of a side is noted. -/
def State.classNoted (s : State) (p cls : Nat) (low : Bool) : State := (s.setLp p { s.lp p with cls := cls, low := low }).sigShow p

theorem State.lp_classNoted (cls : Nat) (low : Bool) : (s.classNoted p cls low).lp p = { s.lp p with cls := cls, low := low } := by
  rw [State.classNoted, State.lp_congr (t := State.sigShow _ _) (s := s.setLp p { s.lp p with cls := cls, low := low }) rfl,
    State.lp_setLp, if_pos rfl]

theorem State.get_classNoted (cls : Nat) (low : Bool) {f : Fld} (h : f.apart (LPW_P_STAT_SIG p) = true) :
    (s.classNoted p cls low).get f = s.get f := State.get_sigShow _ _ h

theorem State.only_classNoted (cls : Nat) (low : Bool) : s.only [LPW_P_STAT p] [.lpw] (s.classNoted p cls low) :=
  ((s.only_refl _ _).setLp _ (by simp)).sigShow (by simp)

/-- A waiting port whose side enters its window begins its insertion delay. -/
theorem State.sideClass_in (low : Bool) (hst : s.get (LPW_P_STAT_STATE p) = 1) :
    s.sideClass p 0 low = (s.classNoted p 0 low).lpGo p 2 := by
  have hst' : (s.classNoted p 0 low).get (LPW_P_STAT_STATE p) = 1 := by rw [State.get_classNoted _ _ rfl, hst]
  rw [State.sideClass, if_pos rfl]
  exact State.waitCheck_in (s.classNoted p 0 low) p hst' (by rw [State.lp_classNoted])

/-- A port in ON whose side leaves its window goes to WAIT with its fault. -/
theorem State.sideClass_out (low : Bool) (hst : s.get (LPW_P_STAT_STATE p) = 5) :
    s.sideClass p 2 low =
      (((((s.classNoted p 2 low).put (LPW_P_STAT_CAUSE p) 1).portFault p 1 0x62).lpWait p).waitCheck p) := by
  have hst' : (s.classNoted p 2 low).get (LPW_P_STAT_STATE p) = 5 := by rw [State.get_classNoted _ _ rfl, hst]
  rw [State.sideClass, if_neg (by decide), State.lpLeave]
  exact congrArg (State.waitCheck · p) (if_pos hst')

/-! ### VBUS enters or leaves its window -/

/-- The state once VBUS is noted. -/
def State.busNoted (s : State) (isIn : Bool) : State := (s.put LPW_VBUS_IN (b2n isIn)).put LPW_EVT_BUS 1

theorem State.busClass_change {isIn : Bool} (h : s.on LPW_VBUS_IN ≠ isIn) :
    s.busClass isIn = (s.busNoted isIn).each [0, 1] fun s p => ((if isIn then s else s.lpLeave p false).sigShow p).waitCheck p := by
  rw [State.busClass, if_neg h]
  rfl

theorem State.get_busNoted_port (isIn : Bool) {f : Fld} (h : f.off = LPW_P_STAT p ∨ f.off = LPW_P_CFG p) :
    (s.busNoted isIn).get f = s.get f := by
  have hne : f.off ≠ LPW_VBUS ∧ f.off ≠ LPW_EVT := by
    obtain h | h := h <;> rw [h]
    · exact ⟨(LPW_P_STAT_ne p).2.2, (LPW_P_STAT_ne p).2.1⟩
    · exact ⟨(LPW_P_CFG_ne p p).2.2.1, (LPW_P_CFG_ne p p).2.1⟩
  rw [State.busNoted, State.get_put_ne _ _ _ _ hne.2, State.get_put_ne _ _ _ _ hne.1]

theorem State.vbus_busNoted (isIn : Bool) : (s.busNoted isIn).get LPW_VBUS_IN = b2n isIn := by
  rw [State.busNoted, State.get_put_apart _ _ rfl, State.get_put_self _ rfl (b2n_lt_two isIn)]

theorem State.on_vbus_busNoted (isIn : Bool) : (s.busNoted isIn).on LPW_VBUS_IN = isIn := by
  rw [State.on, State.vbus_busNoted]
  cases isIn <;> rfl

theorem State.evt_busNoted (isIn : Bool) : (s.busNoted isIn).get LPW_EVT_BUS = 1 := by
  rw [State.busNoted, State.get_put_val _ _ _ rfl]

/-- A port that neither waits nor is ON only shows its signature when VBUS leaves its window. -/
theorem State.busStep_out (h1 : s.get (LPW_P_STAT_STATE p) ≠ 1) (h5 : s.get (LPW_P_STAT_STATE p) ≠ 5) :
    ((s.lpLeave p false).sigShow p).waitCheck p = s.sigShow p := by
  have hleave : s.lpLeave p false = s := by
    rw [State.lpLeave]
    exact (if_neg h5).trans (if_pos rfl)
  rw [hleave]
  exact State.waitCheck_elsewhere _ _ (by rwa [State.get_sigShow _ _ rfl])

/-- A port in WAIT with a detection due begins it when VBUS enters its window. -/
theorem State.busStep_in (hst : s.get (LPW_P_STAT_STATE p) = 1) (hb : s.on LPW_VBUS_IN = true) (hc : (s.lp p).cls = 1)
    (hs : s.on (LPW_P_CFG_SOURCE p) = true) (hd : (s.lp p).due = true) :
    (s.sigShow p).waitCheck p = ((s.sigShow p).setLp p { s.lp p with due := false }).lpGo p 3 := by
  refine State.waitCheck_detect _ _ ?_ hc ?_ ?_ hd
  · rwa [State.get_sigShow _ _ rfl]
  · rw [State.sigShow, State.on_congr (State.rd_put_ne _ _ _ (LPW_P_STAT_ne p).2.2.symm), hb]
  · rw [State.sigShow, State.on_cfg_put _ _ _ rfl rfl, hs]

end

section
variable {s : State} {p : Nat}

/-- The state once a port begins a detection. -/
def State.detectBegun (s : State) (p : Nat) : State := ((s.sigShow p).setLp p { s.lp p with due := false }).lpGo p 3

theorem State.get_detectBegun {f : Fld} (h : f.keptByGo p = true) : (s.detectBegun p).get f = s.get f := by
  have hsig : f.apart (LPW_P_STAT_SIG p) = true := by
    simp only [Fld.keptByGo, Bool.and_eq_true] at h
    exact h.2.2.2.1
  rw [State.detectBegun, State.get_lpGo _ _ _ h]
  exact State.get_sigShow _ _ hsig

theorem State.lp_detectBegun (q : Nat) :
    (s.detectBegun p).lp q = if q = p then { s.lp p with due := false } else s.lp q := by
  rw [State.detectBegun, State.lp_congr (State.lpGo_lpw _ _ _), State.lp_setLp]
  rfl

theorem State.state_detectBegun : (s.detectBegun p).get (LPW_P_STAT_STATE p) = 3 := State.state_lpGo _ _ (by decide)

theorem State.sig_detectBegun : (s.detectBegun p).get (LPW_P_STAT_SIG p) = 0 := by
  rw [State.detectBegun, State.sig_lpGo _ _ (by decide)]
  simp [b2n]

theorem State.only.detectBegun {s t : State} {os : List Nat} {ps : List Part} {p : Nat} (h : s.only os ps t)
    (hp : LPW_P_STAT p ∈ os) (hs : LPW_STAT ∈ os) (hl : .lpw ∈ ps) : s.only os ps (t.detectBegun p) :=
  ((h.sigShow hp).setLp _ hl).lpGo _ hp hs

end

/-! ### Detections -/

theorem detOhms_lt (v1 v2 : Nat) : detOhms v1 v2 < 2 ^ 20 := by
  rw [detOhms]
  split
  · decide
  · split
    · decide
    · omega

theorem detResult_lt (v1 v2 : Nat) (bias : Bool) : detResult v1 v2 bias < 16 := by
  rw [detResult]
  split
  · decide
  · split
    · decide
    · split
      · decide
      · split <;> decide

/-- The state once the result of a detection shows. -/
def State.detNoted (s : State) (p v1 v2 : Nat) (bias : Bool) : State :=
  (s.put (LPW_P_DET_OHMS p) (detOhms v1 v2)).put (LPW_P_STAT_DRES p) (detResult v1 v2 bias)

section
variable {s : State} {p : Fin 2}

theorem exec_detection_valid (v1 v2 : BitVec 17) (bias : Bool) (ha : s.lpw.aon = true) (hst : s.get (LPW_P_STAT_STATE p.val) = 3)
    (hr : detResult v1.toNat v2.toNat bias = 1) :
    exec (.detectionDone p v1 v2 bias) s =
      .next (((s.detNoted p.val v1.toNat v2.toNat bias).put (LPW_P_STAT_ROLE p.val) 1).lpGo p.val 4) := by
  rw [show exec (.detectionDone p v1 v2 bias) s = execDetectionDone p v1 v2 bias s from rfl, execDetectionDone, if_neg (by simp [ha])]
  exact congrArg Host.Outcome.next ((if_pos hst).trans (if_pos hr))

theorem exec_detection_invalid (v1 v2 : BitVec 17) (bias : Bool) (ha : s.lpw.aon = true) (hst : s.get (LPW_P_STAT_STATE p.val) = 3)
    (hr : detResult v1.toNat v2.toNat bias ≠ 1) (hnew : detResult v1.toNat v2.toNat bias ≠ s.get (LPW_P_STAT_DRES p.val)) :
    exec (.detectionDone p v1 v2 bias) s =
      .next ((((s.detNoted p.val v1.toNat v2.toNat bias).lpEvt p.val 4).lpFault 0x63 p.val).lpWait p.val) := by
  rw [show exec (.detectionDone p v1 v2 bias) s = execDetectionDone p v1 v2 bias s from rfl, execDetectionDone, if_neg (by simp [ha])]
  exact congrArg Host.Outcome.next ((if_pos hst).trans ((if_neg hr).trans (congrArg (State.lpWait · p.val) (if_neg hnew))))

end

/-! ### Clauses that need more than one step -/

/-- The report of a port that left its window, and WAIT. -/
theorem State.windowFault_spec {v : State} {p : Nat} (h1 : v.on LPW_STAT_STACKED = false) (h2 : v.on (LPW_P_CFG_EN p) = true)
    (h3 : v.on (LPW_P_STAT_FORCED p) = false) (hc : (v.lp p).cls = 2) (hd : v.d2dLost = false) (hr : v.roomy) :
    ∃ t, t = ((v.portFault p 1 0x62).lpWait p).waitCheck p ∧ t.get (LPW_P_STAT_STATE p) = 1 ∧
      t.get (LPW_P_STAT_CAUSE p) = v.get (LPW_P_STAT_CAUSE p) ∧ t.get (LPW_P_STAT_PG p) = 0 ∧ t.get (LPW_P_STAT_LIMIT p) = 0 ∧
      t.getBit (if p = 0 then LPW_EVT_P0 else LPW_EVT_P1) 1 = true ∧ v.sent t 0x15 0x62 p ∧ t.tst = (v.proofCause 2).tst ∧
      v.only [LPW_P_STAT p, LPW_STAT, LPW_EVT] [.lpw, .fltQ, .tst] t := by
  have hne : (0x62 : Nat) ≠ 0x63 := by decide
  have hfault := State.only_portFault (p := p) (k := 1) hd hne hr
  have hget {f : Fld} (hf : f.off ≠ LPW_EVT) : (v.portFault p 1 0x62).get f = v.get f := State.get_portFault hd hne hr hf
  have hlp : ((v.portFault p 1 0x62).lp p).cls = 2 := by rw [State.lp_congr (hfault.2 .lpw (by simp)), hc]
  have hwait : (v.portFault p 1 0x62).lpWait p = ((v.portFault p 1 0x62).offShow p 0).lpGo p 1 := by
    refine State.lpWait_stays _ _ ?_ ?_ ?_ (.inl hlp)
    · rw [State.on, hget (by decide), ← State.on, h1]
    · rw [State.on, hget (LPW_P_CFG_ne p p).2.1, ← State.on, h2]
    · rw [State.on, hget (LPW_P_STAT_ne p).2.1, ← State.on, h3]
  have hstay : (((v.portFault p 1 0x62).offShow p 0).lpGo p 1).waitCheck p = ((v.portFault p 1 0x62).offShow p 0).lpGo p 1 :=
    State.waitCheck_stays _ _ (.inl (by rw [State.lp_enterWait, hlp]))
  have hgo : (v.portFault p 1 0x62).only [LPW_P_STAT p, LPW_STAT] [.lpw] (((v.portFault p 1 0x62).offShow p 0).lpGo p 1) :=
    ((State.only_refl _ _ _).offShow _ (by simp) (by simp)).lpGo _ (by simp) (by simp)
  refine ⟨_, rfl, ?_⟩
  rw [hwait, hstay]
  refine ⟨State.state_lpGo _ _ (by decide), ?_, State.pg_lpGo _ _ (by decide), State.limit_lpGo _ _ (by decide) (by decide),
    ?_, ?_, ?_, ?_⟩
  · rw [State.get_lpGo _ _ _ rfl, State.get_offShow _ _ _ rfl, hget (LPW_P_STAT_ne p).2.1]
  · rw [State.getBit_congr (hgo.1 _ ?_), State.getBit_portFault hd hne hr (by decide)]
    rw [evtFld_off]
    simpa using ⟨(LPW_P_STAT_ne p).2.1.symm, (by decide : LPW_EVT ≠ LPW_STAT)⟩
  · rw [State.sent, show State.fltQ (State.lpGo _ _ _) = _ from hgo.2 .fltQ (by simp)]
    exact State.sent_portFault hd hne hr
  · rw [show State.tst (State.lpGo _ _ _) = _ from hgo.2 .tst (by simp), State.tst_portFault hd hne hr]
  · exact (hfault.mono (by simp) (by simp)).trans (hgo.mono (by simp) (by simp))

/-- VBUS leaves its window under two ports that neither wait nor are ON. -/
theorem State.busClass_out_spec {s : State} (hb : s.on LPW_VBUS_IN = true)
    (hst : ∀ p, p < 2 → s.get (LPW_P_STAT_STATE p) ≠ 1 ∧ s.get (LPW_P_STAT_STATE p) ≠ 5) :
    s.busClass false = ((s.busNoted false).sigShow 0).sigShow 1 ∧
      ∀ p, p < 2 → (((s.busNoted false).sigShow 0).sigShow 1).get (LPW_P_STAT_STATE p) = s.get (LPW_P_STAT_STATE p) ∧
        (((s.busNoted false).sigShow 0).sigShow 1).get (LPW_P_STAT_SIG p) =
          b2n ((s.lp p).low && s.get (LPW_P_STAT_STATE p) != 3) := by
  have hget (p : Nat) : (s.busNoted false).get (LPW_P_STAT_STATE p) = s.get (LPW_P_STAT_STATE p) :=
    State.get_busNoted_port (p := p) _ (.inl rfl)
  have hget' (p : Nat) (hp : p < 2) :
      ((s.busNoted false).sigShow 0).get (LPW_P_STAT_STATE p) = s.get (LPW_P_STAT_STATE p) := by
    interval_cases p <;> rw [State.get_sigShow _ _ rfl, hget]
  have h0 := State.busStep_out (s := s.busNoted false) (p := 0) (by rw [hget]; exact (hst 0 (by decide)).1)
    (by rw [hget]; exact (hst 0 (by decide)).2)
  have h1 := State.busStep_out (s := (s.busNoted false).sigShow 0) (p := 1)
    (by rw [hget' 1 (by decide)]; exact (hst 1 (by decide)).1) (by rw [hget' 1 (by decide)]; exact (hst 1 (by decide)).2)
  have hvbus : ((s.busNoted false).sigShow 0).on LPW_VBUS_IN = false := by
    rw [State.on, State.get_sigShow _ _ rfl, ← State.on, State.on_vbus_busNoted]
  refine ⟨?_, fun p hp => ?_⟩
  · rw [State.busClass_change (by simp [hb])]
    simp only [State.each, List.foldl_cons, List.foldl_nil, Bool.false_eq_true, if_false, h0, h1]
  · interval_cases p
    · refine ⟨by rw [State.get_sigShow _ _ rfl, hget' 0 (by decide)], ?_⟩
      rw [State.get_sigShow _ _ rfl, State.sig_sigShow, State.on_vbus_busNoted, hget]
      rfl
    · refine ⟨by rw [State.get_sigShow _ _ rfl, hget' 1 (by decide)], ?_⟩
      rw [State.sig_sigShow, hvbus, hget' 1 (by decide)]
      rfl

/-- VBUS enters its window with a detection due on both sides. -/
theorem State.busClass_in_eq {s : State} (hb : s.on LPW_VBUS_IN = false)
    (hst : ∀ p, p < 2 → s.get (LPW_P_STAT_STATE p) = 1 ∧ (s.lp p).cls = 1 ∧ s.on (LPW_P_CFG_SOURCE p) = true ∧ (s.lp p).due = true) :
    s.busClass true = ((s.busNoted true).detectBegun 0).detectBegun 1 := by
  have hlp : (s.busNoted true).lpw = s.lpw := rfl
  have hget (p : Nat) : (s.busNoted true).get (LPW_P_STAT_STATE p) = s.get (LPW_P_STAT_STATE p) :=
    State.get_busNoted_port (p := p) _ (.inl rfl)
  have hsrc (p : Nat) : (s.busNoted true).on (LPW_P_CFG_SOURCE p) = s.on (LPW_P_CFG_SOURCE p) := by
    rw [State.on, State.get_busNoted_port (p := p) _ (.inr rfl), ← State.on]
  obtain ⟨h0s, h0c, h0src, h0d⟩ := hst 0 (by decide)
  obtain ⟨h1s, h1c, h1src, h1d⟩ := hst 1 (by decide)
  have h0 : ((s.busNoted true).sigShow 0).waitCheck 0 = (s.busNoted true).detectBegun 0 := State.busStep_in
    (by rw [hget, h0s]) (State.on_vbus_busNoted true) (by rw [State.lp_congr hlp, h0c]) (by rw [hsrc, h0src])
    (by rw [State.lp_congr hlp, h0d])
  have hl1 : ((s.busNoted true).detectBegun 0).lp 1 = s.lp 1 := by
    rw [State.lp_detectBegun, if_neg (by decide), State.lp_congr hlp]
  have h1 : (((s.busNoted true).detectBegun 0).sigShow 1).waitCheck 1 = ((s.busNoted true).detectBegun 0).detectBegun 1 := by
    refine State.busStep_in ?_ ?_ (by rw [hl1, h1c]) ?_ (by rw [hl1, h1d])
    · rw [State.get_detectBegun rfl, hget, h1s]
    · rw [State.on, State.get_detectBegun rfl, ← State.on, State.on_vbus_busNoted]
    · rw [State.on, State.get_detectBegun rfl, ← State.on, hsrc, h1src]
  rw [State.busClass_change (by simp [hb])]
  simp only [State.each, List.foldl_cons, List.foldl_nil, if_true, h0, h1]

/-- The report of a detection that is not valid. -/
theorem State.detectReport {v : State} {p : Nat} (hd : v.d2dLost = false) (hr : v.roomy) :
    ((v.lpEvt p 4).lpFault 0x63 p).getBit (if p = 0 then LPW_EVT_P0 else LPW_EVT_P1) 4 = true ∧
      v.sent ((v.lpEvt p 4).lpFault 0x63 p) 0x15 0x63 p ∧ v.only [LPW_EVT] [.fltQ] ((v.lpEvt p 4).lpFault 0x63 p) := by
  have hevt : v.only [LPW_EVT] [.fltQ] (v.lpEvt p 4) := (v.only_refl _ _).lpEvt 4 (by simp)
  rw [State.sent, State.lpFault_detect (s := v.lpEvt p 4) p hd (State.roomy_lpEvt hr)]
  exact ⟨v.getBit_lpEvt p (by decide), rfl, hevt.with_fltQ _ (by simp)⟩

/-- A detection that is not valid: WAIT, with its event and fault. -/
theorem State.detectFault_spec {v : State} {p : Nat} (h1 : v.on LPW_STAT_STACKED = false) (h2 : v.on (LPW_P_CFG_EN p) = true)
    (h3 : v.on (LPW_P_STAT_FORCED p) = false) (hc : (v.lp p).cls = 1) (hdue : (v.lp p).due = false) (hd : v.d2dLost = false)
    (hr : v.roomy) :
    ∃ t, t = ((v.lpEvt p 4).lpFault 0x63 p).lpWait p ∧ t.get (LPW_P_STAT_STATE p) = 1 ∧
      t.get (LPW_P_STAT_DRES p) = v.get (LPW_P_STAT_DRES p) ∧
      t.getBit (if p = 0 then LPW_EVT_P0 else LPW_EVT_P1) 4 = true ∧ v.sent t 0x15 0x63 p ∧
      v.only [LPW_P_STAT p, LPW_STAT, LPW_EVT] [.lpw, .fltQ] t := by
  obtain ⟨hbit, hsent, hw⟩ := State.detectReport hd hr (p := p)
  generalize (v.lpEvt p 4).lpFault 0x63 p = w at hbit hsent hw ⊢
  have hon {f : Fld} (hf : f.off ≠ LPW_EVT) : w.on f = v.on f := State.on_congr (hw.1 _ (by rwa [List.mem_singleton]))
  have hlp : w.lp p = v.lp p := State.lp_congr (hw.2 .lpw (by simp)) p
  have hwait : w.lpWait p = (w.offShow p 0).lpGo p 1 := by
    refine State.lpWait_stays _ _ ?_ ?_ ?_ (.inr (by rw [hlp]; exact ⟨hc, hdue⟩))
    · rw [hon (by decide), h1]
    · rw [hon (LPW_P_CFG_ne p p).2.1, h2]
    · rw [hon (LPW_P_STAT_ne p).2.1, h3]
  have hgo : w.only [LPW_P_STAT p, LPW_STAT] [.lpw] ((w.offShow p 0).lpGo p 1) :=
    ((State.only_refl _ _ _).offShow _ (by simp) (by simp)).lpGo _ (by simp) (by simp)
  refine ⟨_, rfl, ?_⟩
  rw [hwait]
  refine ⟨State.state_lpGo _ _ (by decide), ?_, ?_, ?_, (hw.mono (by simp) (by simp)).trans (hgo.mono (by simp) (by simp))⟩
  · rw [State.get_lpGo _ _ _ rfl, State.get_offShow _ _ _ rfl]
    exact hw.get_eq (by rw [List.mem_singleton]; exact (LPW_P_STAT_ne p).2.1)
  · rw [State.getBit_congr (hgo.1 _ ?_), hbit]
    rw [evtFld_off]
    simpa using ⟨(LPW_P_STAT_ne p).2.1.symm, (by decide : LPW_EVT ≠ LPW_STAT)⟩
  · rwa [State.sent, show State.fltQ (State.lpGo _ _ _) = _ from hgo.2 .fltQ (by simp)]

theorem State.pgood_setPg (s : State) (p : Fin 2) (v : Bool) :
    (s.setPg p.val v).get LPW_STAT_PGOOD = b2n (v || s.on (LPW_P_STAT_PG (1 - p.val))) := by
  have hself (q : Nat) : (s.put (LPW_P_STAT_PG q) (b2n v)).on (LPW_P_STAT_PG q) = v := by
    rw [State.on, State.get_put_self _ rfl (b2n_lt_two v)]
    cases v <;> rfl
  rw [State.setPg, State.pgood, State.get_put_self _ rfl (b2n_lt_two _)]
  obtain rfl | rfl : p = 0 ∨ p = 1 := by omega
  · rw [show ((0 : Fin 2) : Nat) = 0 from rfl, hself, State.on, State.get_put_apart _ _ rfl, ← State.on]
  · rw [show ((1 : Fin 2) : Nat) = 1 from rfl, hself, State.on, State.get_put_apart _ _ rfl, ← State.on, Bool.or_comm]

/-- Settles O50: what leads a port from one of its states to the next, by the state it stands in. -/
theorem linePortStates : Obligations.LinePortStates := by
  unfold Obligations.LinePortStates
  refine ⟨?_, ?_, ?_, ?_, ?_, ?_, ?_, ?_, ?_, ?_, ?_, ?_, ?_⟩
  · intro p low s ha hst
    refine ⟨_, exec_sideChange p 0 low ha, ?_⟩
    rw [show ((0 : Fin 3) : Nat) = 0 from rfl, State.sideClass_in low hst]
    refine ⟨State.state_lpGo _ _ (by decide), ?_, ?_, ((State.only_classNoted 0 low).mono (by simp) (by simp)).lpGo _ (by simp)
      (by simp)⟩
    · rw [State.lp_congr (State.lpGo_lpw _ _ _), State.lp_classNoted]
    · rw [State.sig_lpGo _ _ (by decide), State.lp_classNoted, State.on_congr (f := LPW_VBUS_IN)
        ((State.only_classNoted 0 low).1 _ (by simpa [LPW_VBUS_IN] using (LPW_P_STAT_ne p.val).2.2.symm))]
      simp
  · intro p low s ha hst h1 h2 h3 hd hr
    have hnoted : s.only [LPW_P_STAT p.val] [.lpw] ((s.classNoted p.val 2 low).put (LPW_P_STAT_CAUSE p.val) 1) :=
      (State.only_classNoted 2 low).put _ (by simp [LPW_P_STAT_CAUSE])
    obtain ⟨t, rfl, hs, hcause, hpg, hlim, hbit, hsent, htst, honly⟩ := State.windowFault_spec
      (v := (s.classNoted p.val 2 low).put (LPW_P_STAT_CAUSE p.val) 1) (p := p.val)
      (by rw [State.on_congr (hnoted.1 _ (by rw [List.mem_singleton]; exact (LPW_P_STAT_ne p.val).1.symm)), h1])
      (by rw [State.on_congr (hnoted.1 _ (by rw [List.mem_singleton]; exact (LPW_P_CFG_ne p.val p.val).2.2.2)), h2])
      (by rw [State.on, State.get_put_apart _ _ rfl, State.get_classNoted _ _ rfl]; exact h3)
      (by rw [State.lp_congr (State.put_lpw _ _ _), State.lp_classNoted])
      ((hnoted.2 .d2dLost (by simp)).trans hd)
      (hnoted.roomy hr (by simpa using (MPC_MODE_ne_port p.val).1) (by simpa using (MPC_MODE_ne_port p.val).2) (by simp))
    refine ⟨_, (exec_sideChange p 2 low ha).trans (congrArg Host.Outcome.next (State.sideClass_out low hst)), hs, ?_, hpg, hlim,
      hbit, hsent.of_eq (hnoted.2 .fltQ (by simp)) ?_, ?_, (hnoted.mono (by simp) (by simp)).trans honly⟩
    · rw [hcause, State.get_put_val _ _ _ rfl]
    · rfl
    · rw [htst]
      exact State.proofCause_tst_congr (hnoted.1 _ (by simpa using TST_PSTAT_ne_port p.val)) (hnoted.2 .tst (by simp)) 2
  · intro cls low s ha hc hb hst
    have hout : (cls.val == 0) = false := by simpa using hc
    obtain ⟨heq, hsig⟩ := State.busClass_out_spec hb hst
    refine ⟨_, (exec_busChange cls low ha).trans (by rw [hout, heq]), ?_, ?_, hsig, ?_⟩
    · rw [State.get_sigShow _ _ rfl, State.get_sigShow _ _ rfl, State.vbus_busNoted]
      rfl
    · rw [State.get_sigShow _ _ rfl, State.get_sigShow _ _ rfl, State.evt_busNoted]
    · exact ((((s.only_refl _ _).put _ (by decide)).put _ (by decide)).sigShow (by simp)).sigShow (by simp)
  · intro low s ha hb hst
    have hsig0 : (((s.busNoted true).detectBegun 0).detectBegun 1).get (LPW_P_STAT_SIG 0) = 0 := by
      rw [State.get_detectBegun rfl, State.sig_detectBegun]
    have hst0 : (((s.busNoted true).detectBegun 0).detectBegun 1).get (LPW_P_STAT_STATE 0) = 3 := by
      rw [State.get_detectBegun rfl, State.state_detectBegun]
    have hdue0 : ((((s.busNoted true).detectBegun 0).detectBegun 1).lp 0).due = false := by
      rw [State.lp_detectBegun, if_neg (by decide), State.lp_detectBegun, if_pos rfl]
    have hdue1 : ((((s.busNoted true).detectBegun 0).detectBegun 1).lp 1).due = false := by
      rw [State.lp_detectBegun, if_pos rfl]
    refine ⟨_, (exec_busChange 0 low ha).trans (congrArg Host.Outcome.next (State.busClass_in_eq hb hst)), ?_, ?_, ?_⟩
    · rw [State.get_detectBegun rfl, State.get_detectBegun rfl, State.vbus_busNoted]
      rfl
    · intro p hp
      interval_cases p
      · exact ⟨hst0, hsig0, hdue0⟩
      · exact ⟨State.state_detectBegun, State.sig_detectBegun, hdue1⟩
    · exact ((((s.only_refl _ _).put _ (by decide)).put _ (by decide)).detectBegun (by simp) (by simp) (by simp)).detectBegun
        (by simp) (by simp) (by simp)
  · intro p s ha hst
    refine ⟨(s.put (LPW_P_STAT_ROLE p.val) 0).lpGo p.val 4, ?_, ?_⟩
    · rw [show exec (.insDlyExpiry p) s = execInsDlyExpiry p s from rfl, execInsDlyExpiry, if_neg (by simp [ha]), if_pos hst]
    · refine ⟨State.state_lpGo _ _ (by decide), ?_, ((s.only_refl _ _).put _ (by simp [LPW_P_STAT_ROLE])).lpGo _ (by simp) (by simp)⟩
      rw [State.get_lpGo _ _ _ rfl, State.get_put_val _ _ _ rfl]
  · intro p s ha hst hc hb hs
    have hdue := (s.setLp p.val { s.lp p.val with due := true }).waitCheck_detect p.val hst
      (by rw [State.lp_setLp, if_pos rfl]; exact hc) hb hs (by rw [State.lp_setLp, if_pos rfl])
    refine ⟨_, (show exec (.detectionDue p) s = .next (s.detDue p.val) from ?_), ?_⟩
    · rw [show exec (.detectionDue p) s = execDetectionDue p s from rfl, execDetectionDue, if_neg (by simp [ha])]
    · rw [State.detDue, hdue]
      refine ⟨State.state_lpGo _ _ (by decide), ?_, (((s.only_refl _ _).setLp _ (by simp)).setLp _ (by simp)).lpGo _ (by simp)
        (by simp)⟩
      rw [State.lp_congr (State.lpGo_lpw _ _ _), State.lp_setLp, if_pos rfl]
  · intro p v1 v2 bias s ha hst hr
    refine ⟨_, exec_detection_valid v1 v2 bias ha hst hr, State.state_lpGo _ _ (by decide), ?_, ?_, ?_, ?_⟩
    · rw [State.get_lpGo _ _ _ rfl, State.get_put_val _ _ _ rfl]
    · rw [State.get_lpGo _ _ _ rfl, State.get_put_apart _ _ rfl, State.detNoted, hr, State.get_put_val _ _ _ rfl]
    · have hlater : (s.put (LPW_P_DET_OHMS p.val) (detOhms v1.toNat v2.toNat)).only [LPW_P_STAT p.val, LPW_STAT] []
          (((s.detNoted p.val v1.toNat v2.toNat bias).put (LPW_P_STAT_ROLE p.val) 1).lpGo p.val 4) :=
        (((State.only_refl _ _ _).put _ (by simp [LPW_P_STAT_DRES])).put _ (by simp [LPW_P_STAT_ROLE])).lpGo _ (by simp) (by simp)
      rw [hlater.get_eq (by simpa [LPW_P_DET_OHMS] using ⟨(LPW_P_DET_ne p.val).1, (LPW_P_DET_ne p.val).2.1⟩),
        State.get_put_self _ rfl (detOhms_lt _ _)]
    · exact ((((s.only_refl _ _).put _ (by simp [LPW_P_DET_OHMS])).put _ (by simp [LPW_P_STAT_DRES])).put _
        (by simp [LPW_P_STAT_ROLE])).lpGo _ (by simp) (by simp)
  · intro p v1 v2 bias s ha hst hr hnew h1 h2 h3 hc hdue hd hroom
    have hnoted : s.only [LPW_P_STAT p.val, LPW_P_DET p.val] [] (s.detNoted p.val v1.toNat v2.toNat bias) :=
      ((s.only_refl _ _).put _ (by simp [LPW_P_DET_OHMS])).put _ (by simp [LPW_P_STAT_DRES])
    have hcfg : LPW_P_CFG p.val ≠ LPW_P_STAT p.val ∧ LPW_P_CFG p.val ≠ LPW_P_DET p.val :=
      ⟨(LPW_P_CFG_ne p.val p.val).2.2.2, (LPW_P_DET_ne p.val).2.2.2.2.1.symm⟩
    have hstat : (LPW_STAT ≠ LPW_P_STAT p.val ∧ LPW_STAT ≠ LPW_P_DET p.val) ∧
        (MPC_MODE ≠ LPW_P_STAT p.val ∧ MPC_MODE ≠ LPW_P_DET p.val) ∧
        (RSTC_INRST ≠ LPW_P_STAT p.val ∧ RSTC_INRST ≠ LPW_P_DET p.val) :=
      ⟨⟨(LPW_P_STAT_ne p.val).1.symm, (LPW_P_DET_ne p.val).2.1.symm⟩,
        ⟨(MPC_MODE_ne_port p.val).1, (LPW_P_DET_ne p.val).2.2.1.symm⟩,
        (MPC_MODE_ne_port p.val).2, (LPW_P_DET_ne p.val).2.2.2.1.symm⟩
    obtain ⟨t, rfl, hs, hres, hbit, hsent, honly⟩ := State.detectFault_spec (v := s.detNoted p.val v1.toNat v2.toNat bias) (p := p.val)
      (by rw [State.on_congr (hnoted.1 _ (by simpa [LPW_STAT_STACKED] using hstat.1)), h1])
      (by rw [State.on_congr (hnoted.1 _ (by simpa [LPW_P_CFG_EN] using hcfg)), h2])
      (by rw [State.detNoted, State.on, State.get_put_apart _ _ rfl,
        State.get_put_ne _ _ _ _ (show (LPW_P_STAT_FORCED p.val).off ≠ (LPW_P_DET_OHMS p.val).off from (LPW_P_DET_ne p.val).1.symm)]
          exact h3)
      hc hdue hd (hnoted.roomy hroom (by simpa using hstat.2.1) (by simpa using hstat.2.2) (by simp))
    refine ⟨_, exec_detection_invalid v1 v2 bias ha hst hr hnew, hs, ?_, hbit, hsent,
      (hnoted.mono (by simp) (by simp)).trans (honly.mono (by simp) (by simp))⟩
    rw [hres, State.detNoted, State.get_put_self _ rfl (detResult_lt _ _ _)]
  · intro p s ha hst
    refine ⟨(s.lpGo p.val 5).lpEvt p.val 0, ?_, ?_, State.getBit_lpEvt _ _ (by decide), ?_, ?_⟩
    · rw [show exec (.rampDone p) s = execRampDone p s from rfl, execRampDone, if_neg (by simp [ha]), if_pos hst]
    · rw [State.get_lpEvt _ _ _ (LPW_P_STAT_ne p.val).2.1, State.state_lpGo _ _ (by decide)]
    · rw [State.get_lpEvt _ _ _ (LPW_P_STAT_ne p.val).2.1, State.pg_lpGo_on]
    · exact ((s.only_refl _ _).lpGo_on (by simp)).lpEvt _ (by simp)
  · intro p s ha hst hl
    refine ⟨s.setPg p.val true, ?_, State.pg_setPg .., ?_, (s.only_refl _ _).setPg _ (by simp) (by simp)⟩
    · rw [show exec (.pgBlankEnd p) s = execPgBlankEnd p s from rfl, execPgBlankEnd, if_neg (by simp [ha]), if_pos (by simp [hst, hl])]
    · rw [State.pgood_setPg]
      rfl
  · intro p s ha hst hl
    refine ⟨s.setPg p.val false, ?_, State.pg_setPg .., ?_, (s.only_refl _ _).setPg _ (by simp) (by simp)⟩
    · rw [show exec (.gateVoltageLow p) s = execGateVoltageLow p s from rfl, execGateVoltageLow, if_neg (by simp [ha]),
        if_pos (by simp [hst, hl])]
    · have hlt : s.get (LPW_P_STAT_PG (1 - p.val)) < 2 := s.get_lt _
      rw [State.pgood_setPg, State.on]
      obtain h | h : s.get (LPW_P_STAT_PG (1 - p.val)) = 0 ∨ s.get (LPW_P_STAT_PG (1 - p.val)) = 1 := by omega
      · rw [h]
        rfl
      · rw [h]
        rfl
  · intro p s ha hpg
    refine ⟨s.put (LPW_P_STAT_FAILS p.val) 0, ?_, State.get_put_val _ _ _ rfl, s.only_put (LPW_P_STAT_FAILS p.val) _⟩
    rw [show exec (.failsClear p) s = execFailsClear p s from rfl, execFailsClear, if_neg (by simp [ha]), if_pos hpg]
  · intro p reg s ha hst
    refine ⟨s.put (LPW_P_STAT_LIMIT p.val) (b2n reg), ?_, State.get_put_self _ rfl (b2n_lt_two reg), s.only_put (LPW_P_STAT_LIMIT p.val) _⟩
    rw [show exec (.currentLimit p reg) s = execCurrentLimit p reg s from rfl, execCurrentLimit, if_neg (by simp [ha])]
    exact congrArg Host.Outcome.next (if_pos (by simpa using hst))

end Sys2Proof.Machine

/-! Drains and the forwarding fence (R216, R217, R223). -/
namespace Sys2Proof.Machine

set_option Elab.async false

section
variable {s : State}

/-- A unit of the D-die that is out of reset runs on a D-die that runs. -/
theorem State.dark_of_runs {u : Nat} (hu : onDie u = true) (h : s.inReset u = false) : s.dark = false := by
  rw [State.inReset, hu, Bool.true_and, Bool.or_eq_false_iff] at h
  exact h.1

/-- Nothing waits at LOC, so nothing leaves it. -/
theorem State.locPump_nil (h : s.fwd.locWait = []) : s.locPump = s := by
  have hself : ({ s with fwd := { s.fwd with locWait := [] } } : State) = s := by rw [← h]
  rw [State.locPump]
  split
  · rfl
  · simp only [h, List.foldl_nil, State.each]
    exact hself

/-- No frame is held, so none is released. -/
theorem State.releaseHeld_nil (h : s.fwd.held = []) (why : HoldWhy) (d : Nat) : s.releaseHeld why d = s := by
  have hself : ({ s with fwd := { s.fwd with held := [] } } : State) = s := by rw [← h]
  rw [State.releaseHeld, h]
  exact hself

/-- Closing the only drain, with no frame held and none waiting at LOC. -/
theorem State.closeDrain_only {x : Drain} (hd : s.fwd.drains = [x]) (hh : s.fwd.held = []) (hl : s.fwd.locWait = []) (d : Nat) :
    s.closeDrain x d = ({ s with fwd := { s.fwd with drains := [] } } : State).setDrainBit x.q x.frm false := by
  have hfilter : s.fwd.drains.filter (fun y => !(y.q == x.q && y.frm == x.frm)) = [] := by simp [hd]
  rw [State.closeDrain, hfilter, State.releaseHeld_nil, State.locPump_nil]
  · exact hl
  · exact hh

/-- The field of FWD_DRAIN that shows the drains of a direction. -/
theorem drainFld_off (frm : Nat) : (if frm = 0 then FWD_DRAIN_FROM_CW else FWD_DRAIN_FROM_CCW).off = FWD_DRAIN := by
  split <;> rfl

theorem State.setDrainBit_clear (q frm : Nat) :
    s.setDrainBit q frm false = s.clrBit (if frm = 0 then FWD_DRAIN_FROM_CW else FWD_DRAIN_FROM_CCW) q := rfl

theorem State.getBit_setDrainBit (q frm : Nat) :
    (s.setDrainBit q frm false).getBit (if frm = 0 then FWD_DRAIN_FROM_CW else FWD_DRAIN_FROM_CCW) q = false := by
  rw [State.setDrainBit_clear]
  exact State.getBit_clrBit _ _ (by split <;> rfl)

theorem State.get_setDrainBit {f : Fld} (q frm : Nat) (h : f.off ≠ FWD_DRAIN) : (s.setDrainBit q frm false).get f = s.get f :=
  State.get_put_ne _ _ _ _ (by rwa [drainFld_off])

theorem State.only.setDrainBit {t : State} {os : List Nat} {ps : List Part} (h : s.only os ps t) (q frm : Nat)
    (hd : FWD_DRAIN ∈ os) : s.only os ps (t.setDrainBit q frm false) := h.clrBit _ (by rwa [drainFld_off])

/-! ### The commands -/

/-- The marker that names the only open drain closes it. -/
theorem State.markRx_closes {q frm id pins w : Nat} {es : List (Nat × Nat × Nat)} (hd : s.fwd.drains = [⟨q, frm, id, es, pins⟩])
    (hq : q < 4) (hk : bits w 0 8 = 1) (hc : bits w 8 3 = q) (hf : bits w 12 1 = frm) (hi : bits w 16 16 = id)
    (hm : Tab.get (fun _ => 0) s.fwd.lastMark (2 * q + frm) = id) :
    s.markRx w = (s.satAdd FWD_DRAIN_CNT_CLOSED 1).closeDrain ⟨q, frm, id, es, pins⟩ (1 - frm) := by
  have hfind : s.fwd.drains.find? (fun x => x.q == q && x.frm == frm && x.id == id) = some ⟨q, frm, id, es, pins⟩ := by simp [hd]
  simp only [State.markRx, hc, hf, hi, hk, if_pos (show q ≤ 3 by omega), hm, and_self, if_true, hfind]

/-- A marker that names no drain's last marker has no effect. -/
theorem State.markRx_other {w : Nat} (h : ∀ k, k < 16 → Tab.get (fun _ => 0) s.fwd.lastMark k ≠ bits w 16 16) : s.markRx w = s := by
  have hc : bits w 8 3 < 8 := Nat.mod_lt _ (by decide)
  have hv : bits w 11 1 < 2 := Nat.mod_lt _ (by decide)
  have hf : bits w 12 1 < 2 := Nat.mod_lt _ (by decide)
  rw [State.markRx, if_neg]
  rintro ⟨-, hid⟩
  refine h _ ?_ hid
  split <;> omega

end

/-- Settles O29: the marker and the time-out close a drain, and the fence runs from its start to its end. -/
theorem drainsAndFences : Obligations.DrainsAndFences := by
  unfold Obligations.DrainsAndFences
  refine ⟨?_, ?_, ?_, ?_, ?_, ?_, ?_, ?_⟩
  · intro q frm id pins es w s hr hd hq hf hi hk hc hfw hiw hm hh hl
    refine ⟨(s.satAdd FWD_DRAIN_CNT_CLOSED 1).closeDrain ⟨q, frm, id, es, pins⟩ (1 - frm), ?_, ?_⟩
    · rw [show exec (.markRx w) s = execMarkRx w s from rfl, execMarkRx, if_neg (by simp [hr]),
        State.markRx_closes hd hq hk hc hfw hiw hm]
    · rw [State.closeDrain_only (s := s.satAdd FWD_DRAIN_CNT_CLOSED 1) hd hh hl]
      refine ⟨rfl, State.getBit_setDrainBit _ _, ?_, (((s.only_refl _ _).satAdd 1 (by simp [FWD_DRAIN_CNT_CLOSED])).with_fwd _
        (by simp)).setDrainBit _ _ (by simp)⟩
      rw [State.get_setDrainBit _ _ (by decide)]
      exact (State.get_satAdd_self _ _ rfl).trans (min_comm _ _)
  · intro w s h
    refine ⟨s, ?_, s.only_refl _ _⟩
    rw [show exec (.markRx w) s = execMarkRx w s from rfl, execMarkRx, State.markRx_other h, ite_self]
  · intro q frm id pins es s hr hd hh hl hroom
    have hnoted : s.only [FWD_DRAIN_CNT, FWD_EVT] [] ((s.satAdd FWD_DRAIN_CNT_TIMEOUTS 1).put FWD_EVT_DRAIN_TO 1) :=
      ((s.only_refl _ _).satAdd _ (by simp [FWD_DRAIN_CNT_TIMEOUTS])).put _ (by simp [FWD_EVT_DRAIN_TO])
    have hfind : s.fwd.drains.find? (fun x => x.q == q.val && x.frm == frm.val) = some ⟨q.val, frm.val, id, es, pins⟩ := by
      simp [hd]
    have hroom' := hnoted.roomy hroom (by decide) (by decide) (by simp)
    have hsent := hroom'.sent_fault 0x0D 0x3B (q.val + 2 ^ 8 * frm.val)
    have hfault := hroom'.only_fault 0x0D 0x3B (q.val + 2 ^ 8 * frm.val)
    have hcnt : ((s.satAdd FWD_DRAIN_CNT_TIMEOUTS 1).put FWD_EVT_DRAIN_TO 1).get FWD_DRAIN_CNT_TIMEOUTS =
        min (2 ^ FWD_DRAIN_CNT_TIMEOUTS.w - 1) (s.get FWD_DRAIN_CNT_TIMEOUTS + 1) := by
      rw [State.get_put_apart _ _ rfl, State.get_satAdd_self _ _ rfl, min_comm]
    have hevt : ((s.satAdd FWD_DRAIN_CNT_TIMEOUTS 1).put FWD_EVT_DRAIN_TO 1).get FWD_EVT_DRAIN_TO = 1 := State.get_put_val _ _ _ rfl
    have hexec : exec (.drainTimeout q frm) s = .next
        ((((s.satAdd FWD_DRAIN_CNT_TIMEOUTS 1).put FWD_EVT_DRAIN_TO 1).fault 0x0D 0x3B (q.val + 2 ^ 8 * frm.val)).closeDrain
          ⟨q.val, frm.val, id, es, pins⟩ (1 - frm.val)) := by
      rw [show exec (.drainTimeout q frm) s = execDrainTimeout q frm s from rfl, execDrainTimeout, if_neg (by simp [hr]), hfind]
    refine ⟨_, hexec, ?_⟩
    generalize ((s.satAdd FWD_DRAIN_CNT_TIMEOUTS 1).put FWD_EVT_DRAIN_TO 1) = v at hnoted hsent hfault hcnt hevt ⊢
    generalize v.fault 0x0D 0x3B (q.val + 2 ^ 8 * frm.val) = u at hsent hfault ⊢
    have hu : s.only [FWD_DRAIN_CNT, FWD_EVT] [.fltQ] u := (hnoted.mono (by simp) (by simp)).trans (hfault.mono (by simp) (by simp))
    have hfwd : u.fwd = s.fwd := hu.2 .fwd (by simp)
    rw [State.closeDrain_only (s := u) (by rw [hfwd, hd]) (by rw [hfwd, hh]) (by rw [hfwd, hl])]
    refine ⟨rfl, ?_, State.getBit_setDrainBit _ _, ?_, ?_, ((hu.mono (by simp) (by simp)).with_fwd _ (by simp)).setDrainBit _ _ (by simp)⟩
    · rw [State.get_setDrainBit _ _ (by decide)]
      exact (hfault.get_eq (by simp)).trans hevt
    · rw [State.get_setDrainBit _ _ (by decide)]
      exact (hfault.get_eq (by simp)).trans hcnt
    · exact hsent.of_eq (hnoted.2 .fltQ (by simp)) (by rw [show v.sys = s.sys from hnoted.2 .sys (by simp)])
  · intro s hr hb
    have hcmd := s.cmd_run FWD_FENCE State.fwdFenceStart (State.dark_of_runs (by decide) hr) hr
    have hstart : s.fwdFenceStart = ({ s with fwd := { s.fwd with fenceGen := s.get FWD_STAT_GEN } } : State).put FWD_FENCE_BUSY 1 := by
      rw [State.fwdFenceStart, if_neg (by simp [hb])]
    refine ⟨_, congrArg Host.Outcome.next hcmd, ?_⟩
    rw [hstart]
    exact ⟨State.get_put_val _ _ _ rfl, rfl, ((s.only_refl _ _).with_fwd _ (by simp)).put _ (by simp [FWD_FENCE_BUSY])⟩
  · intro s hr hb
    have hcmd := s.cmd_run FWD_FENCE State.fwdFenceStart (State.dark_of_runs (by decide) hr) hr
    refine ⟨s, congrArg Host.Outcome.next (hcmd.trans ?_), s.only_refl _ _⟩
    rw [State.fwdFenceStart, if_pos hb]
  · intro s hr hb ho
    refine ⟨((s.put FWD_FENCE_BUSY 0).put FWD_FENCE_DONE 1).put FWD_EVT_FENCE_DONE 1, ?_, ?_, ?_, State.get_put_val _ _ _ rfl,
      (((s.only_refl _ _).put _ (by decide)).put _ (by decide)).put _ (by decide)⟩
    · rw [show exec .fwdFenceDone s = execFwdFenceDone s from rfl, execFwdFenceDone, if_neg (by simp [hr]), if_pos (by simp [hb, ho])]
    · rw [State.get_put_apart _ _ rfl, State.get_put_apart _ _ rfl, State.get_put_val _ _ _ rfl]
    · rw [State.get_put_apart _ _ rfl, State.get_put_val _ _ _ rfl]
  · intro s ho
    refine ⟨s, ?_, s.only_refl _ _⟩
    rw [show exec .fwdFenceDone s = execFwdFenceDone s from rfl, execFwdFenceDone, if_neg (c := (_ && _) = true) (by simp [ho]), ite_self]
  · intro s hr hb
    have hleft : min s.olderFrames 65535 < 2 ^ 16 := by omega
    refine ⟨(((s.put FWD_FENCE_BUSY 0).put FWD_FENCE_DONE 1).put FWD_FENCE_TIMEOUT 1).put FWD_FENCE_LEFT (min s.olderFrames 65535),
      ?_, ?_, ?_, ?_, State.get_put_self _ rfl hleft,
      ((((s.only_refl _ _).put _ (by decide)).put _ (by decide)).put _ (by decide)).put _ (by decide)⟩
    · rw [show exec .fwdFenceTimeout s = execFwdFenceTimeout s from rfl, execFwdFenceTimeout, if_neg (by simp [hr]), if_pos hb]
    · rw [State.get_put_apart _ _ rfl, State.get_put_apart _ _ rfl, State.get_put_apart _ _ rfl, State.get_put_val _ _ _ rfl]
    · rw [State.get_put_apart _ _ rfl, State.get_put_apart _ _ rfl, State.get_put_val _ _ _ rfl]
    · rw [State.get_put_apart _ _ rfl, State.get_put_val _ _ _ rfl]

end Sys2Proof.Machine

/-! Ring time: the loss of Sync, steps, the reference, PPS, calibration, media clocks and the cycle boundary (R196, R273 to R282). -/
namespace Sys2Proof.Machine

set_option Elab.async false

/-! ### Shared facts -/

theorem State.rd64_lt (s : State) (o : Nat) : s.rd64 o < 2 ^ 64 := by
  have h0 := (s.rd o).isLt
  have h1 := (s.rd (o + 4)).isLt
  rw [State.rd64]
  omega

theorem State.rd64_congr {s t : State} {o : Nat} (h : t.rd o = s.rd o) (h4 : t.rd (o + 4) = s.rd (o + 4)) : t.rd64 o = s.rd64 o := by
  rw [State.rd64, h, h4, State.rd64]

theorem satField_time {n : Nat} (hn : n < 16) : satField (TIME_CNT n) = some TIME_EVT_SAT := by
  interval_cases n <;> rfl

/-- A count of TIME's counters. -/
theorem State.only.timeBump {s t : State} {os : List Nat} {ps : List Part} (h : s.only os ps t) {n : Nat} (hn : n < 16)
    (ho : TIME_EVT ∈ os) (hl : .live ∈ ps) : s.only os ps (t.bump (TIME_CNT n)) := by
  refine h.trans (t.only_count _ 1 hl fun f hf => ?_)
  rw [satField_time hn, Option.some.injEq] at hf
  subst hf
  exact ⟨ho, fun h => absurd h (by decide)⟩

theorem State.get_timeBump (s : State) {n : Nat} (hn : n < 16) {f : Fld} (h : f.apart TIME_EVT_SAT = true) :
    (s.bump (TIME_CNT n)).get f = s.get f := s.get_count 1 (satField_time hn) (by decide) h

theorem State.rd_timeBump (s : State) {n : Nat} (hn : n < 16) {o : Nat} (h : o ≠ TIME_EVT) : (s.bump (TIME_CNT n)).rd o = s.rd o :=
  s.rd_count 1 (satField_time hn) (by decide) h

/-! ### The loss of Sync -/

section
variable {s : State}

/-- The state once a port no longer delivers counting Syncs, with the slave port shown. -/
def State.syncLost (s : State) (port : Nat) : State :=
  ({ s with time := { s.time with
    fresh := setBitTo s.time.fresh port false, hops := Tab.set (fun _ => []) s.time.hops port [] } } : State).pickSlave

theorem exec_syncLoss (port : Fin 4) (h : s.inReset 0x0F = false) :
    exec (.syncLoss port) s = .next (if setBitTo s.time.fresh port.val false = 0 ∧
      (s.get TIME_STAT_STATE = 1 ∨ s.get TIME_STAT_STATE = 2) then (s.syncLost port.val).holdover else s.syncLost port.val) := by
  rw [show exec (.syncLoss port) s = execSyncLoss port s from rfl, execSyncLoss]
  exact congrArg Host.Outcome.next (if_neg (by simp [h]))

theorem State.only_syncLost (port : Nat) : s.only [TIME_STAT] [.time] (s.syncLost port) :=
  ((s.only_refl _ _).with_time _ (by simp)).put _ (by decide)

/-- Only lane W delivers counting Syncs, so it is the slave port. -/
theorem State.slaveNow_west {u : State} (hm : u.master = true) (hf : u.time.fresh = 2) : u.slaveNow = 1 := by
  rw [State.slaveNow, if_neg (by simp [hm]), hf]
  rfl

theorem State.fresh_syncLost (port : Nat) : (s.syncLost port).time.fresh = setBitTo s.time.fresh port false := rfl

theorem State.state_syncLost (port : Nat) : (s.syncLost port).get TIME_STAT_STATE = s.get TIME_STAT_STATE := by
  rw [State.syncLost, State.pickSlave, State.get_put_apart _ _ rfl]
  rfl

theorem setBitTo_pow_false (k : Nat) : setBitTo (2 ^ k) k false = 0 := by
  simp [setBitTo]

/-- The registers of a hub that enters HOLDOVER, before its report. -/
def State.heldOver (s : State) : State :=
  ((((s.setTime 3).drawTrim).wr64 TIME_HOLD_T s.now).put TIME_EVT_HOLDOVER 1).bump (TIME_CNT 6)

theorem State.holdover_eq : s.holdover = (s.heldOver.fault 0x0F 0x45 0).setRuns 0 0 := rfl

theorem State.only_heldOver : s.only [TIME_STAT, TIME_HOLD_T, TIME_HOLD_T + 4, TIME_RATE, TIME_EVT] [.live, .time] s.heldOver := by
  have htrim : s.only [TIME_STAT, TIME_HOLD_T, TIME_HOLD_T + 4, TIME_RATE, TIME_EVT] [.live, .time] (s.setTime 3).drawTrim :=
    (((s.only_refl _ _).put _ (by decide)).with_time _ (by simp)).wr _ (by decide)
  exact ((htrim.wr64 _ (by decide) (by decide)).put _ (by decide)).timeBump (by decide) (by decide) (by simp)

/-- What the entry into HOLDOVER shows. -/
theorem State.holdover_spec (hr : s.roomy) :
    s.holdover.get TIME_STAT_STATE = 3 ∧ s.holdover.time.fresh = s.time.fresh ∧ s.holdover.rd64 TIME_HOLD_T = s.now ∧
      s.holdover.get TIME_EVT_HOLDOVER = 1 ∧ s.advanced s.holdover (TIME_CNT 6) 1 ∧ s.sent s.holdover 0x0F 0x45 0 ∧
      s.only [TIME_STAT, TIME_HOLD_T, TIME_HOLD_T + 4, TIME_RATE, TIME_EVT] [.live, .time, .fltQ] s.holdover := by
  have hnoted := s.only_heldOver
  have hroom : s.heldOver.roomy := hnoted.roomy hr (by decide) (by decide) (by simp)
  have hfault := hroom.only_fault 0x0F 0x45 0
  have hlast : s.heldOver.only [] [.fltQ, .time] s.holdover :=
    (hfault.mono (by simp) (by simp)).with_time _ (by simp)
  have hfresh : s.holdover.time.fresh = s.heldOver.time.fresh := by
    rw [State.holdover_eq, show ∀ u : State, (u.setRuns 0 0).time.fresh = u.time.fresh from fun _ => rfl,
      show (s.heldOver.fault 0x0F 0x45 0).time = _ from hfault.2 .time (by simp)]
  have htime : s.heldOver.time = ((s.setTime 3).drawTrim).time :=
    ((State.only_refl _ [TIME_HOLD_T, TIME_HOLD_T + 4, TIME_EVT] [.live]).wr64 s.now (by decide) (by decide) |>.put
      (f := TIME_EVT_HOLDOVER) 1 (by decide) |>.timeBump (n := 6) (by decide) (by decide) (by simp)).2 .time (by simp)
  refine ⟨?_, ?_, ?_, ?_, ?_, ?_, (hnoted.mono (by simp) (by simp)).trans (hlast.mono (by simp) (by simp))⟩
  · rw [hlast.get_eq (by simp), State.heldOver, State.get_timeBump _ (by decide) rfl, State.get_put_apart _ _ rfl,
      State.get_wr64_ne _ _ _ (by decide) (by decide), State.drawTrim, State.get_wr_ne _ _ _ (by decide)]
    exact State.get_put_val s TIME_STAT_STATE 3 rfl
  · rw [hfresh, htime]
    rfl
  · rw [hlast.rd64_eq (by simp) (by simp), State.heldOver, State.rd64_congr (State.rd_timeBump _ (by decide) (by decide))
      (State.rd_timeBump _ (by decide) (by decide)), State.rd64_put_ne _ _ _ (by decide) (by decide), State.rd64_wr64_same]
    exact Nat.mod_eq_of_lt (s.rd64_lt _)
  · rw [hlast.get_eq (by simp), State.heldOver, State.get_timeBump _ (by decide) rfl, State.get_put_val _ _ _ rfl]
  · rw [State.advanced, State.cnt_congr (hlast.2 .live (by simp)), State.heldOver, State.bump, State.cnt_count_self]
    rfl
  · rw [State.sent, State.holdover_eq, show ∀ u : State, (u.setRuns 0 0).fltQ = u.fltQ from fun _ => rfl]
    exact (hroom.sent_fault 0x0F 0x45 0).of_eq (hnoted.2 .fltQ (by simp)) (by rw [show s.heldOver.sys = s.sys from hnoted.2 .sys (by simp)])

end

/-! ### Steps -/

section
variable {s : State}

/-- The state once a step is made, before its report. -/
def State.stepTaken (s : State) : State :=
  let v := s.stepTarget
  let s1 : State := { s with time := { s.time with
    setTo := none, addBy := none, due := none, noWin := true, stepAt := some v
    skipLo := if s.now < v then s.now else 0, skipHi := if s.now < v then v else 0 } }
  ((s1.wr64 TIME_SPINDLE v).bump (TIME_CNT 5)).put TIME_EVT_STEP 1

theorem State.only_stepTaken : s.only [TIME_SPINDLE, TIME_SPINDLE + 4, TIME_EVT] [.live, .time] s.stepTaken := by
  rw [State.stepTaken]
  exact ((((s.only_refl _ _).with_time _ (by simp)).wr64 _ (by decide) (by decide)).timeBump (by decide) (by decide) (by simp)).put _
    (by decide)

theorem State.now_stepTaken (h : s.stepTarget < 2 ^ 64) : s.stepTaken.now = s.stepTarget := by
  rw [State.now, State.stepTaken, State.rd64_put_ne _ _ _ (by decide) (by decide),
    State.rd64_congr (State.rd_timeBump _ (by decide) (by decide)) (State.rd_timeBump _ (by decide) (by decide)),
    State.rd64_wr64_same, Nat.mod_eq_of_lt h]

theorem State.time_stepTaken : s.stepTaken.stepPending = false ∧ s.stepTaken.time.noWin = true := by
  have hcount (u : State) : ((u.bump (TIME_CNT 5)).put TIME_EVT_STEP 1).time = u.time :=
    ((State.only_refl _ [TIME_EVT] [.live]).timeBump (by decide) (by simp) (by simp)).2 .time (by simp)
  rw [State.stepPending, State.stepTaken, hcount]
  exact ⟨rfl, rfl⟩

theorem State.only_lsvStep : s.only [] [.lsv] s.lsvStep :=
  State.only_each (fun t n _ => (t.only_refl _ _).with_lsv _ (by simp)) s

/-- What a step shows that is made at the boundary the hub stands at. -/
theorem State.makeStep_spec (hr : s.roomy) (hv : s.stepTarget < 2 ^ 64) :
    s.makeStep.now = s.stepTarget ∧ s.makeStep.stepPending = false ∧ s.makeStep.time.noWin = true ∧
      s.makeStep.get TIME_EVT_STEP = 1 ∧ s.advanced s.makeStep (TIME_CNT 5) 1 ∧
      s.sent s.makeStep 0x0F 0x46 (wrapInt 48 (satInt 48 ((s.stepTarget : Int) - s.now))) ∧
      s.only [TIME_SPINDLE, TIME_SPINDLE + 4, TIME_EVT] [.live, .time, .lsv, .fltQ] s.makeStep := by
  have htaken := s.only_stepTaken
  have hroom : s.stepTaken.roomy := htaken.roomy hr (by decide) (by decide) (by simp)
  have hfault := hroom.only_fault 0x0F 0x46 (wrapInt 48 (satInt 48 ((s.stepTarget : Int) - s.now)))
  have hlsv := (s.stepTaken.fault 0x0F 0x46 (wrapInt 48 (satInt 48 ((s.stepTarget : Int) - s.now)))).only_lsvStep
  have hlast : s.stepTaken.only [] [.fltQ, .lsv] s.makeStep := (hfault.mono (by simp) (by simp)).trans (hlsv.mono (by simp) (by simp))
  have htime : s.makeStep.time = s.stepTaken.time := hlast.2 .time (by simp)
  refine ⟨?_, ?_, ?_, ?_, ?_, ?_, (htaken.mono (by simp) (by simp)).trans (hlast.mono (by simp) (by simp))⟩
  · rw [State.now, hlast.rd64_eq (by simp) (by simp), ← State.now, State.now_stepTaken hv]
  · rw [State.stepPending, htime, ← State.stepPending, State.time_stepTaken.1]
  · rw [htime, State.time_stepTaken.2]
  · rw [hlast.get_eq (by simp), State.stepTaken, State.get_put_val _ _ _ rfl]
  · rw [State.advanced, State.cnt_congr (hlast.2 .live (by simp)), State.stepTaken, State.cnt_congr (State.put_live _ _ _),
      State.bump, State.cnt_count_self]
    rfl
  · rw [State.sent, show s.makeStep.fltQ = _ from hlsv.2 .fltQ (by simp)]
    exact (hroom.sent_fault ..).of_eq (htaken.2 .fltQ (by simp)) (by rw [show s.stepTaken.sys = s.sys from htaken.2 .sys (by simp)])

theorem State.toBoundary_stands (h : s.now % 31250 = 0) (h' : s.time.stepAt ≠ some s.now) : s.toBoundary = s := by
  rw [State.toBoundary, if_pos ⟨h, h'⟩]

theorem exec_timeStep (hd : s.dark = false) (hp : s.stepPending = true) (h : s.now % 31250 = 0) (h' : s.time.stepAt = none) :
    exec .timeStep s = .next s.makeStep := by
  rw [show exec .timeStep s = execTimeStep s from rfl, execTimeStep, if_pos (by simp [hd, hp]),
    State.toBoundary_stands h (by simp [h'])]

theorem exec_timeSet (v : DWord) (h : s.inReset 0x0F = false) :
    exec (.timeSet v) s = .next ((s.wr64 TIME_SET v.toNat).timeSet v.toNat) :=
  congrArg Host.Outcome.next (s.cmd_run TIME_SET _ (State.dark_of_runs (by decide) h) h)

theorem exec_timeAdj (w : Word) (h : s.inReset 0x0F = false) : exec (.timeAdj w) s = .next (s.timeAdj w) :=
  congrArg Host.Outcome.next (s.cmd_run TIME_ADJ (fun s => s.timeAdj w) (State.dark_of_runs (by decide) h) h)

end

/-! ### The cycle boundary -/

section
variable {s : State}

theorem State.sqCycle_off (h : ∀ q, q < 64 → s.on (SQ_CFG_EN q) = false) : s.sqCycle = s := by
  have hstep : ∀ (l : List Nat), (∀ q ∈ l, q < 64) → s.each l (fun s q =>
      if s.on (SQ_CFG_EN q) && s.on (SQ_CFG_CYC_CLOSE q) && decide (s.get (SQ_CFG_PROD q) < 16) then s.sqPart q else s) = s := by
    intro l hl
    induction l with
    | nil => rfl
    | cons q r ih =>
      obtain ⟨hq, hr⟩ := List.forall_mem_cons.1 hl
      rw [State.each, List.foldl_cons, if_neg (by simp [h q hq])]
      exact ih hr
  rw [State.sqCycle]
  split
  · rfl
  · exact hstep _ fun q hq => List.mem_range.1 hq

/-- The carry of the BULK shares touches the switch only, and not what waits at LOC. -/
theorem State.bulkCarry_each (l : List Nat) (s : State) : s.only [] [.fwd] (s.each l fun s l => s.bulkCarry l) ∧
    (s.each l fun s l => s.bulkCarry l).fwd.locWait = s.fwd.locWait := by
  induction l generalizing s with
  | nil => exact ⟨s.only_refl _ _, rfl⟩
  | cons a r ih =>
    obtain ⟨honly, hwait⟩ := ih (s.bulkCarry a)
    exact ⟨((s.only_refl _ _).with_fwd _ (by simp)).trans honly, hwait⟩

/-- The state at the next boundary, before its actions. -/
def State.atBoundary (s : State) : State :=
  (({ s with time := { s.time with stepAt := none } } : State).elapse (31250 - s.now % 31250)).wr64 TIME_SPINDLE
    ((s.now / 31250 + 1) * 31250)

theorem State.toNextCycle_moves (hc : s.time.cycAt = none) (h : s.now % 31250 ≠ 0) : s.toNextCycle = s.atBoundary := by
  rw [State.toNextCycle, if_neg (by simp [hc]), State.toBoundary, if_neg (by simp [h])]
  rfl

theorem State.only_atBoundary : s.only [TIME_SPINDLE, TIME_SPINDLE + 4] [.time, .sys] s.atBoundary :=
  (((s.only_refl _ _).with_time _ (by simp)).with_sys _ (by simp)).wr64 _ (by decide) (by decide)

theorem State.now_atBoundary (h : s.now < 2 ^ 63) : s.atBoundary.now = (s.now / 31250 + 1) * 31250 := by
  rw [State.now, State.atBoundary, State.rd64_wr64_same, Nat.mod_eq_of_lt (by omega)]

theorem State.stepPending_atBoundary : s.atBoundary.stepPending = s.stepPending := rfl

/-- The boundary with its number and the ring floor taken. -/
def State.cycleNoted (s : State) : State := ((s.wr64 RPE_CYCLE (s.now / 31250)).floorTake).cycleOpen

/-- The lanes' shares of BULK bytes carried over. -/
def State.bulkCarried (s : State) : State := s.each (List.range 4) fun s l => s.bulkCarry l

/-- The boundary's actions up to the stream queues. -/
def State.boundaryShown (s : State) : State := s.cycleNoted.bulkCarried.cycleLimits

theorem State.only_cycleNoted : s.only [RPE_CYCLE, RPE_CYCLE + 4] [.rpe, .time] s.cycleNoted :=
  (((s.only_refl _ _).wr64 _ (by decide) (by decide)).with_rpe _ (by simp)).with_time _ (by simp)

theorem State.only_bulkCarried : s.only [] [.fwd] s.bulkCarried := (State.bulkCarry_each _ s).1

theorem State.only_boundaryShown : s.only [RPE_CYCLE, RPE_CYCLE + 4] [.fwd, .rpe, .red, .time] s.boundaryShown :=
  ((s.only_cycleNoted.mono (by simp) (by simp)).trans (s.cycleNoted.only_bulkCarried.mono (by simp) (by simp))).with_red _ (by simp)

theorem State.rd64_cycleNoted : s.cycleNoted.rd64 RPE_CYCLE = s.now / 31250 := by
  have hlt : s.now / 31250 < 2 ^ 64 := lt_of_le_of_lt (Nat.div_le_self _ _) (s.rd64_lt _)
  exact (State.rd64_wr64_same s RPE_CYCLE (s.now / 31250)).trans (Nat.mod_eq_of_lt hlt)

theorem State.rpe_cycleNoted : s.cycleNoted.rpe = { s.rpe with floor := s.get RPE_RING_FLOOR } := by
  have hget : (s.wr64 RPE_CYCLE (s.now / 31250)).get RPE_RING_FLOOR = s.get RPE_RING_FLOOR :=
    State.get_wr64_ne _ _ _ (by decide) (by decide)
  rw [← hget]
  rfl

theorem State.cycleActs_eq (hl : s.fwd.locWait = []) (hq : ∀ q, q < 64 → s.on (SQ_CFG_EN q) = false) :
    s.cycleActs = s.boundaryShown := by
  have hoff (q : Nat) (h : q < 64) : s.boundaryShown.on (SQ_CFG_EN q) = false := by
    rw [State.on_congr (s.only_boundaryShown.1 _ ?_), hq q h]
    simp only [SQ_CFG_EN, SQ_CFG, RPE_CYCLE, List.mem_cons, List.not_mem_nil, or_false]
    omega
  rw [show s.cycleActs = s.boundaryShown.sqCycle.locPump from rfl, State.sqCycle_off hoff]
  exact State.locPump_nil ((State.bulkCarry_each (List.range 4) s.cycleNoted).2.trans hl)

/-- The twin counters begin the cycle anew. -/
theorem Tab.get_foldl_set (v c : Nat) (n : Nat) (t : Tab Nat) (h : c < n) :
    Tab.get (fun _ => 0) ((List.range n).foldl (fun t c => Tab.set (fun _ => 0) t c v) t) c = v := by
  induction n generalizing t with
  | zero => omega
  | succ n ih =>
    rw [List.range_succ, List.foldl_append]
    simp only [List.foldl_cons, List.foldl_nil, Tab.get_set]
    split
    · rfl
    · next hne => exact ih _ (by omega)

/-- What a boundary's actions show: the cycle number, the ring floor and the twin counters. -/
theorem State.boundaryShown_spec (s : State) : s.boundaryShown.rd64 RPE_CYCLE = s.now / 31250 ∧
    s.boundaryShown.rpe = { s.rpe with floor := s.get RPE_RING_FLOOR } ∧
    ∀ c, c < 8 → Tab.get (fun _ => 0) s.boundaryShown.red.twinSeq c = s.now / 31250 % 8192 * 8 := by
  have hcarry := s.cycleNoted.only_bulkCarried
  have hnow : s.cycleNoted.bulkCarried.now = s.now := by
    rw [State.now, hcarry.rd64_eq (by simp) (by simp), s.only_cycleNoted.rd64_eq (by decide) (by decide), ← State.now]
  have hlimits : s.boundaryShown = s.cycleNoted.bulkCarried.cycleLimits := rfl
  generalize s.cycleNoted.bulkCarried = u at hcarry hnow hlimits
  rw [hlimits]
  refine ⟨?_, ?_, fun c hc => ?_⟩
  · rw [show u.cycleLimits.rd64 RPE_CYCLE = u.rd64 RPE_CYCLE from rfl, hcarry.rd64_eq (by simp) (by simp), State.rd64_cycleNoted]
  · rw [show u.cycleLimits.rpe = u.rpe from rfl, hcarry.2 .rpe (by simp), State.rpe_cycleNoted]
  · rw [State.cycleLimits, hnow]
    exact Tab.get_foldl_set _ _ _ _ hc

end

theorem wrapInt_of_nonneg {w : Nat} {x : Int} (h0 : 0 ≤ x) (h : x < 2 ^ w) : (wrapInt w x : Int) = x := by
  rw [wrapInt, Int.emod_eq_of_lt h0 h, Int.toNat_of_nonneg h0]

theorem refCode_lt (p : Nat) : refCode p < 2 ^ 2 := by
  rw [refCode]
  split
  · decide
  · split <;> decide

/-- The edge's bit of a generator's word. -/
theorem testBit_setBitTo (x i : Nat) (v : Bool) : (setBitTo x i v).testBit i = v := by
  rw [setBitTo]
  split
  · next h => exact h
  · next h =>
    cases v
    · rw [if_neg (by decide), testBit_sub_two_pow (by simpa using h)]
    · rw [if_pos rfl, Nat.add_comm, Nat.testBit_two_pow_add_eq]
      simpa using h

theorem State.only_with_gg_time (s : State) (x : GgSt) (y : TimeSt) : s.only [] [.gg, .time] { s with gg := x, time := y } :=
  ((s.only_refl [] [.gg, .time]).with_gg x (by simp)).with_time y (by simp)

/-- An edge of a generator that runs: its level, and on a rising edge its tick. -/
theorem State.mcgEdge_spec {s : State} {n : Nat} (fall : Bool) (h : s.on (TIME_MCG_CTL_EN n) = true) :
    (s.mcgEdge n fall).gg.mcgTick = (if fall then s.gg.mcgTick else setBitTo s.gg.mcgTick n true) ∧
      (s.mcgEdge n fall).time.mcgLvl = setBitTo s.time.mcgLvl n (!fall) ∧ s.only [] [.gg, .time] (s.mcgEdge n fall) := by
  rw [State.mcgEdge, if_neg (by simp [h])]
  cases fall
  · simp only [Bool.false_eq_true, if_false]
    split <;> exact ⟨rfl, rfl, s.only_with_gg_time _ _⟩
  · simp only [if_true]
    split <;> exact ⟨rfl, rfl, s.only_with_gg_time _ _⟩

/-- The capture of a PPS_IN edge. -/
def State.ppsCaptured (s : State) (frac : Nat) : State :=
  (((s.wr64 TIME_PPS_CAP s.now).put TIME_PPS_CAPF_FRAC frac).put TIME_EVT_PPS_IN 1).put TIME_STAT_PPS_LOST 0

theorem State.only_ppsCaptured (s : State) (frac : Nat) :
    s.only [TIME_PPS_CAP, TIME_PPS_CAP + 4, TIME_PPS_CAPF, TIME_EVT, TIME_STAT] [] (s.ppsCaptured frac) :=
  ((((s.only_refl _ _).wr64 _ (by decide) (by decide)).put _ (by decide)).put _ (by decide)).put _ (by decide)

/-- Settles O34, clause by clause along the commands of ring time. -/
theorem ringTimeServices : Obligations.RingTimeServices := by
  unfold Obligations.RingTimeServices
  refine ⟨?_, ?_, ?_, ?_, ?_, ?_, ?_, ?_, ?_, ?_, ?_, ?_, ?_, ?_, ?_, ?_, ?_, ?_, ?_, ?_, ?_, ?_⟩
  · intro port s hr hf hst hnow hroom
    have hzero : setBitTo s.time.fresh port.val false = 0 := by rw [hf, setBitTo_pow_false]
    have hlost := s.only_syncLost port.val
    obtain ⟨hs, hfresh, hhold, hevt, hcnt, hsent, honly⟩ :=
      (s.syncLost port.val).holdover_spec (hlost.roomy hroom (by decide) (by decide) (by simp))
    refine ⟨_, (exec_syncLoss port hr).trans (congrArg Host.Outcome.next (if_pos ⟨hzero, hst⟩)), hs, ?_, ?_, hevt, ?_, ?_,
      (hlost.mono (by simp) (by simp)).trans honly⟩
    · rw [hfresh, State.fresh_syncLost, hzero]
    · rw [hhold, State.now, hlost.rd64_eq (by decide) (by decide), ← State.now]
    · rw [State.advanced, hcnt, State.cnt_congr (hlost.2 .live (by simp))]
    · exact hsent.of_eq (hlost.2 .fltQ (by simp)) rfl
  · intro s hr hm hf
    have hset : setBitTo s.time.fresh ((0 : Fin 4) : Nat) false = 2 := by rw [hf]; rfl
    refine ⟨_, (exec_syncLoss 0 hr).trans (congrArg Host.Outcome.next (if_neg (by rw [hset]; simp))), ?_, hset, ?_,
      s.only_syncLost _⟩
    · rw [State.syncLost, State.pickSlave, State.get_put_same _ _ _ (by decide), hset]
      refine congrArg (· % 2 ^ TIME_STAT_SLAVE.w) (State.slaveNow_west ?_ ?_)
      · exact hm
      · rfl
    · exact s.state_syncLost _
  · intro v s hr
    refine ⟨_, exec_timeSet v hr, ?_, ?_, ((s.only_refl _ _).wr64 _ (by decide) (by decide)).with_time _ (by simp)⟩
    · rw [State.timeSet, Nat.mod_eq_of_lt v.isLt]
      rfl
    · exact (State.rd64_wr64_same s TIME_SET v.toNat).trans (Nat.mod_eq_of_lt v.isLt)
  · intro w s hr hset
    have hadj : s.timeAdj w = { s with time := { s.time with addBy := some (s.time.addBy.getD 0 + w.toInt) } } := by
      rw [State.timeAdj, hset]
    refine ⟨_, exec_timeAdj w hr, ?_⟩
    rw [hadj]
    exact ⟨rfl, (s.only_refl _ _).with_time _ (by simp)⟩
  · intro w v s hr hset
    have hadj : s.timeAdj w = { s with time := { s.time with setTo := some (wrapInt 64 (v + w.toInt)) } } := by
      rw [State.timeAdj, hset]
    refine ⟨_, exec_timeAdj w hr, ?_⟩
    rw [hadj]
    exact ⟨rfl, (s.only_refl _ _).with_time _ (by simp)⟩
  · intro v s hd hset hv hb hat hroom
    have htarget : s.stepTarget = v := by rw [State.stepTarget, hset]
    obtain ⟨hnow, hpend, hwin, hevt, hcnt, hsent, honly⟩ := State.makeStep_spec hroom (by rwa [htarget])
    rw [htarget] at hnow hsent
    exact ⟨_, exec_timeStep hd (by simp [State.stepPending, hset]) hb hat, hnow, hpend, hwin, hevt, hcnt, hsent, honly⟩
  · intro a s hd hset hadd hb hat hroom h0 hlt
    have htarget : (s.stepTarget : Int) = s.now + a := by
      rw [State.stepTarget, hset, hadd]
      exact wrapInt_of_nonneg h0 hlt
    obtain ⟨hnow, hpend, -, hevt, -, hsent, honly⟩ := State.makeStep_spec hroom (by omega)
    rw [htarget, add_sub_cancel_left] at hsent
    exact ⟨_, exec_timeStep hd (by simp [State.stepPending, hadd]) hb hat, by rw [hnow, htarget], hpend, hevt, hsent, honly⟩
  · intro s hp
    refine ⟨s, ?_, s.only_refl _ _⟩
    rw [show exec .timeStep s = execTimeStep s from rfl, execTimeStep, if_neg (by simp [hp])]
  · intro s hd hp hc hb hnow hl hq
    have hat := s.only_atBoundary
    have hq' (q : Nat) (h : q < 64) : s.atBoundary.on (SQ_CFG_EN q) = false := by
      rw [State.on_congr (hat.1 _ ?_), hq q h]
      simp only [SQ_CFG_EN, SQ_CFG, TIME_SPINDLE, List.mem_cons, List.not_mem_nil, or_false]
      omega
    have hshown := s.atBoundary.only_boundaryShown
    have hnow' : s.atBoundary.now / 31250 = s.now / 31250 + 1 := by rw [State.now_atBoundary hnow, Nat.mul_div_cancel _ (by decide)]
    have hacts : exec .cycleBoundary s = .next s.atBoundary.boundaryShown := by
      rw [show exec .cycleBoundary s = execCycleBoundary s from rfl, execCycleBoundary, State.live_, if_neg (by simp [hd]),
        State.toNextCycle_moves hc hb, State.cycleHere, if_neg (by rw [State.stepPending_atBoundary, hp]; decide),
        State.cycleActs_eq (s := s.atBoundary) hl hq']
    obtain ⟨hcyc, hrpe, htwin⟩ := s.atBoundary.boundaryShown_spec
    refine ⟨_, hacts, ?_, ?_, ?_, ?_, ?_, (hat.mono (by simp) (by simp)).trans (hshown.mono (by simp) (by simp))⟩
    · rw [State.now, hshown.rd64_eq (by decide) (by decide), ← State.now, State.now_atBoundary hnow]
    · rw [hcyc, hnow']
    · rw [hrpe, show s.atBoundary.rpe = s.rpe from rfl, hat.get_eq (by decide)]
    · rw [show s.atBoundary.boundaryShown.sys = _ from hshown.2 .sys (by simp)]
      rfl
    · intro c h
      rw [htwin c h, hnow']
  · intro s hr hsy hst hg hne
    refine ⟨(s.rcUse.put TIME_STAT_REF (refCode (s.get TIME_STAT_SLAVE))).put TIME_EVT_REF_SWITCH 1, ?_, ?_,
      State.get_put_val _ _ _ rfl, rfl, (((s.only_refl _ _).rcUse (by simp)).put _ (by decide)).put _ (by decide)⟩
    · rw [show exec .refSwitch s = execRefSwitch s from rfl, execRefSwitch, if_neg (by simp [hr])]
      exact congrArg Host.Outcome.next (if_pos (by simp [hsy, hst, hg, hne]))
    · rw [State.get_put_apart _ _ rfl, State.get_put_self _ rfl (refCode_lt _)]
  · intro r s hr href hr0 hne
    refine ⟨(s.rcUse.put TIME_STAT_REF 0).put TIME_EVT_REF_SWITCH 1, ?_, ?_,
      State.get_put_val _ _ _ rfl, rfl, (((s.only_refl _ _).rcUse (by simp)).put _ (by decide)).put _ (by decide)⟩
    · subst href
      have hbad : s.refGood (if s.get TIME_STAT_REF = 3 then 3 else s.get TIME_STAT_REF - 1) = false := by
        rw [State.refGood, beq_eq_false_iff_ne.2 hne, Bool.false_and, Bool.false_and]
      rw [show exec .refRevert s = execRefRevert s from rfl, execRefRevert, if_neg (by simp [hr])]
      exact congrArg Host.Outcome.next (if_pos ⟨hr0, by rw [hbad]; rfl⟩)
    · rw [State.get_put_apart _ _ rfl, State.get_put_val _ _ _ rfl]
  · intro s hp
    have hr : s.inReset 0x0F = false := by
      simp only [State.ppsDriven, Bool.and_eq_true, Bool.not_eq_true'] at hp
      exact hp.1.2
    refine ⟨{ s with time := { s.time with ppsOut := true } }, ?_, rfl, ?_, (s.only_refl _ _).with_time _ (by simp)⟩
    · rw [show exec .ppsOutRise s = execPpsOutRise s from rfl, execPpsOutRise, if_neg (by simp [hr]), if_pos hp]
    · rw [State.ppsOutBall, Bool.and_true]
      exact hp
  · intro s hp
    have hdr : s.ppsDriven = false := by simp [State.ppsDriven, hp]
    refine ⟨s, ?_, by simp [State.ppsOutBall, hdr], s.only_refl _ _⟩
    rw [show exec .ppsOutRise s = execPpsOutRise s from rfl, execPpsOutRise, if_neg (c := s.ppsDriven = true) (by simp [hdr]), ite_self]
  · intro s hr
    refine ⟨{ s with time := { s.time with ppsOut := false } }, ?_, rfl, Bool.and_false _, (s.only_refl _ _).with_time _ (by simp)⟩
    rw [show exec .ppsOutFall s = execPpsOutFall s from rfl, execPpsOutFall, if_neg (by simp [hr])]
  · intro frac s hr hst hnow
    have hedge : s.ppsEdge frac.toNat = s.ppsCaptured frac.toNat := by
      rw [State.ppsEdge]
      exact if_pos (by simpa using hst)
    refine ⟨s.ppsCaptured frac.toNat, ?_, ?_, ?_, ?_, State.get_put_val _ _ _ rfl, s.only_ppsCaptured _⟩
    · rw [show exec (.ppsInEdge frac) s = execPpsInEdge frac s from rfl, execPpsInEdge, if_neg (by simp [hr]), hedge]
    · rw [State.ppsCaptured, State.rd64_put_ne _ _ _ (by decide) (by decide), State.rd64_put_ne _ _ _ (by decide) (by decide),
        State.rd64_put_ne _ _ _ (by decide) (by decide), State.rd64_wr64_same, Nat.mod_eq_of_lt hnow]
    · rw [State.ppsCaptured, State.get_put_apart _ _ rfl, State.get_put_apart _ _ rfl, State.get_put_self _ rfl frac.isLt]
    · rw [State.ppsCaptured, State.get_put_apart _ _ rfl, State.get_put_val _ _ _ rfl]
  · intro frac s hr hst hd hseen
    have hedge : s.ppsEdge frac.toNat =
        { s.ppsCaptured frac.toNat with time := { s.time with ppsSeen := true, due := some (-s.ppsErr) } } := by
      rw [State.ppsEdge]
      exact (if_neg (by simp [hst, hd])).trans (if_pos (by simp [hseen]))
    refine ⟨{ s.ppsCaptured frac.toNat with time := { s.time with ppsSeen := true, due := some (-s.ppsErr) } }, ?_, ?_⟩
    · rw [show exec (.ppsInEdge frac) s = execPpsInEdge frac s from rfl, execPpsInEdge, if_neg (by simp [hr]), hedge]
    · refine ⟨rfl, ?_, ((s.only_ppsCaptured _).mono (by simp) (by simp)).with_time _ (by simp)⟩
      show (s.ppsCaptured frac.toNat).get TIME_EVT_PPS_IN = 1
      rw [State.ppsCaptured, State.get_put_apart _ _ rfl, State.get_put_val _ _ _ rfl]
  · intro s hr hst hd
    refine ⟨((s.put TIME_STAT_PPS_LOST 1).put TIME_EVT_PPS_LOST 1).drawTrim, ?_, ?_, ?_,
      ((((s.only_refl _ _).put _ (by decide)).put _ (by decide)).with_time _ (by simp)).wr _ (by decide)⟩
    · rw [show exec .ppsLost s = execPpsLost s from rfl, execPpsLost, if_neg (by simp [hr]), if_pos ⟨hst, hd⟩]
    · rw [State.drawTrim, State.get_wr_ne _ _ _ (by decide)]
      exact (State.get_put_apart _ _ rfl).trans (State.get_put_val _ _ _ rfl)
    · rw [State.drawTrim, State.get_wr_ne _ _ _ (by decide)]
      exact State.get_put_val _ _ _ rfl
  · intro pin s hr
    refine ⟨s.setBit TIME_FE_STAT_CAL_OK pin.val, ?_, ?_, (s.only_refl _ _).setBit _ (by decide)⟩
    · rw [show exec (.feCalibrate pin true) s = execFeCalibrate pin true s from rfl, execFeCalibrate, if_neg (by simp [hr]), if_pos rfl]
    · rw [State.getBit_setBit _ _ rfl (by exact pin.isLt)]
      simp
  · intro pin s hr
    refine ⟨(s.clrBit TIME_FE_STAT_CAL_OK pin.val).put TIME_EVT_FE_CAL 1, ?_, ?_, State.get_put_val _ _ _ rfl,
      ((s.only_refl _ _).clrBit _ (by decide)).put _ (by decide)⟩
    · rw [show exec (.feCalibrate pin false) s = execFeCalibrate pin false s from rfl, execFeCalibrate, if_neg (by simp [hr])]
      rfl
    · rw [State.getBit_congr (State.rd_put_ne _ _ _ (by decide)), State.getBit_clrBit _ _ rfl]
  · intro n s hr hen
    obtain ⟨htick, hlvl, honly⟩ := State.mcgEdge_spec false hen
    refine ⟨s.mcgEdge n.val false, ?_, ?_, ?_, honly⟩
    · rw [show exec (.mcgEdge n false) s = execMcgEdge n false s from rfl, execMcgEdge, if_neg (by simp [hr])]
    · rw [htick, if_neg (by decide), testBit_setBitTo]
    · rw [hlvl, testBit_setBitTo]
      rfl
  · intro n s hr hen
    obtain ⟨htick, hlvl, honly⟩ := State.mcgEdge_spec true hen
    refine ⟨s.mcgEdge n.val true, ?_, htick, ?_, honly⟩
    · rw [show exec (.mcgEdge n true) s = execMcgEdge n true s from rfl, execMcgEdge, if_neg (by simp [hr])]
    · rw [hlvl, testBit_setBitTo]
      rfl
  · intro n fall s hen
    refine ⟨s, ?_, s.only_refl _ _⟩
    have hoff : s.mcgEdge n.val fall = s := by rw [State.mcgEdge, if_pos (by simp [hen])]
    rw [show exec (.mcgEdge n fall) s = execMcgEdge n fall s from rfl, execMcgEdge, hoff, ite_self]

end Sys2Proof.Machine

/-! What the main store refuses and what waits, and the frames of the store's operations (R37 to R53). -/
namespace Sys2Proof.Machine

set_option Elab.async false

/-! ### Frames of the store's operations -/

namespace State.only

variable {s t : State} {os : List Nat} {ps : List Part}

theorem setMark (h : s.only os ps t) (w : Nat) (m : Option Mark) (hs : .store ∈ ps) : s.only os ps (t.setMark w m) := h.with_store _ hs

theorem setLr (h : s.only os ps t) (c : Nat) (g : Option Nat) (hs : .store ∈ ps) : s.only os ps (t.setLr c g) := h.with_store _ hs

theorem setBank (h : s.only os ps t) (b : Nat) (k : BankSt) (hs : .store ∈ ps) : s.only os ps (t.setBank b k) := h.with_store _ hs

theorem grant (h : s.only os ps t) (b r : Nat) (hs : .store ∈ ps) : s.only os ps (t.grant b r) := h.with_store _ hs

theorem upset (h : s.only os ps t) (us : List Upset) (hs : .store ∈ ps) : s.only os ps (t.upset us) :=
  h.each fun t u _ => by
    split
    · exact (t.only_refl _ _).setMark _ _ hs
    · exact t.only_refl _ _

theorem poke (h : s.only os ps t) (off n v : Nat) (hm : .mem ∈ ps) : s.only os ps (t.poke off n v) := h.with_mem _ hm

theorem eccWritten (h : s.only os ps t) (w n : Nat) (hs : .store ∈ ps) : s.only os ps (t.eccWritten w n) :=
  h.each fun t i _ => by
    split
    · exact (t.only_refl _ _).setMark _ _ hs
    · exact t.only_refl _ _

theorem lrWritten (h : s.only os ps t) (req off n : Nat) (hs : .store ∈ ps) : s.only os ps (t.lrWritten req off n) :=
  h.each fun t c _ => by
    split
    · split
      · exact (t.only_refl _ _).setLr _ _ hs
      · exact t.only_refl _ _
    · exact t.only_refl _ _

theorem setWait (h : s.only os ps t) (b : Nat) (l : List Acc) (hs : .store ∈ ps) : s.only os ps (t.setWait b l) :=
  (h.setBank _ _ hs).with_store _ hs

theorem refuse (h : s.only os ps t) (req status : Nat) (hr : .resp ∈ ps) : s.only os ps (t.refuse req status) := h.answer _ _ _ hr

end State.only

theorem State.only_upset (s : State) (us : List Upset) : s.only [] [.store] (s.upset us) := (s.only_refl _ _).upset us (by simp)

/-! ### What the registers decide -/

section
variable {s t : State}

theorem State.byte_congr (h : t.mem = s.mem) (a : Nat) : t.byte a = s.byte a := by rw [State.byte, h, State.byte]

theorem State.load_congr (h : t.mem = s.mem) (a n : Nat) : t.load a n = s.load a n := by rw [State.load, h, State.load]

theorem State.only.selfAddr_eq {os : List Nat} {ps : List Part} (h : s.only os ps t) (hn : RPE_NODE ∉ os) (hc : ID_STRAP ∉ os)
    (o : Nat) : t.selfAddr o = s.selfAddr o := by
  rw [State.selfAddr, State.node, State.chip, h.get_eq (f := RPE_NODE_NODE) hn, h.get_eq (f := ID_STRAP_STACK_ID) hc, State.selfAddr,
    State.node, State.chip]

theorem State.only.dark_eq {os : List Nat} {ps : List Part} (h : s.only os ps t) (hm : MPC_MODE ∉ os) (hs : .sys ∉ ps) :
    t.dark = s.dark := State.dark_congr (h.1 _ hm) (by rw [show t.sys = s.sys from h.2 .sys (by simpa using hs)])

theorem State.mayWrite_congr (h : t.regs = s.regs) (r b : Nat) : t.mayWrite r b = s.mayWrite r b := by
  have hget (f : Fld) : t.get f = s.get f := State.get_congr (State.rd_congr h _)
  simp only [State.mayWrite, State.getBit, State.partCounts, hget]

theorem State.lockedOut_congr (h : t.regs = s.regs) {b : Nat} (hb : t.bank b = s.bank b) (r : Nat) : t.lockedOut b r = s.lockedOut b r := by
  simp only [State.lockedOut, State.bankCtl, State.getBit, hb, State.rd_congr h, State.get_congr (State.rd_congr h _)]

theorem State.upset_regs (us : List Upset) : (s.upset us).regs = s.regs := (s.upset_foot us).regs rfl

theorem State.bank_upset (us : List Upset) (b : Nat) : (s.upset us).bank b = s.bank b := by
  rw [State.bank, (s.upset_wait us).2.2.2.2, State.bank]

theorem State.upset_dark (us : List Upset) : (s.upset us).dark = s.dark := (s.only_upset us).dark_eq (by simp) (by simp)

theorem State.upset_roomy (us : List Upset) (h : s.roomy) : (s.upset us).roomy := (s.only_upset us).roomy h (by simp) (by simp) (by simp)

theorem State.upset_byte (us : List Upset) (a : Nat) : (s.upset us).byte a = s.byte a :=
  State.byte_congr ((s.only_upset us).2 .mem (by simp)) a

end

/-! ### An access that is judged -/

section
variable {s : State}

theorem exec_storeAccess {r : Fin 8} {addr : BitVec 38} (f : AccForm) (us : List Upset) (hin : inStore addr.toNat = true)
    (hd : s.dark = false) :
    exec (.mainStoreAccess r addr f us) s = .next ((s.upset us).access r.val (storeOff addr) f) := by
  rw [show exec (.mainStoreAccess r addr f us) s = execMainStoreAccess r addr f us s from rfl, execMainStoreAccess, if_neg (by simp [hd])]
  exact congrArg Host.Outcome.next (if_pos hin)

/-- A form that R38 does not allow. -/
theorem State.access_illegal {r o : Nat} {f : AccForm} (h : accLegal f o = false) :
    s.access r o f = (s.fault 0x07 0x01 (s.selfAddr (storeBase + o))).refuse r 0x05 := by
  rw [State.access, if_pos (by simp [h])]

/-- An access that must wait. -/
theorem State.access_waits {r o : Nat} {f : AccForm} (hl : accLegal f o = true) (hf : f.resumes = false)
    (hw : s.accWaits r o = true) : s.access r o f = s.enwait ⟨r, o, f, .cmd⟩ := by
  rw [State.access, if_neg (by simp [hl])]
  cases f
  case resume => simp [AccForm.resumes] at hf
  all_goals exact if_pos hw

/-- An access that has its bank. -/
theorem State.access_performs {r o : Nat} {f : AccForm} (hl : accLegal f o = true) (hf : f.resumes = false)
    (hw : s.accWaits r o = false) : s.access r o f = s.perform ⟨r, o, f, .cmd⟩ := by
  have hw' : ¬ s.accWaits r o = true := by simp [hw]
  rw [State.access, if_neg (by simp [hl])]
  cases f
  case resume => simp [AccForm.resumes] at hf
  all_goals exact if_neg hw'

/-- An access of a requester that has been cut off. -/
theorem State.perform_locked {x : Acc} (h : s.lockedOut (bankOf x.off) x.req = true) : s.perform x = s.refuse x.req 0x0C := by
  rw [State.perform]
  exact if_pos h

/-- A write that the protection forbids. -/
theorem State.perform_protected {x : Acc} (hl : s.lockedOut (bankOf x.off) x.req = false) (hw : accWrites x.form = true)
    (hp : s.mayWrite x.req (bankOf x.off) = false) :
    s.perform x = (s.fault 0x07 0x04 (s.selfAddr (storeBase + x.off))).refuse x.req 0x06 := by
  rw [State.perform]
  exact (if_neg (by simp [hl])).trans (if_pos (by simp [hw, hp]))

/-- A fault of MSA and a refusal: the message, the answer, and nothing else. -/
theorem State.faultRefuse_spec (hr : s.roomy) (kind addr r status : Nat) :
    ((s.fault 0x07 kind addr).refuse r status).resp = some ⟨r, status, 0⟩ ∧
      s.sent ((s.fault 0x07 kind addr).refuse r status) 0x07 kind addr ∧
      s.only [] [.resp, .fltQ] ((s.fault 0x07 kind addr).refuse r status) :=
  ⟨rfl, hr.sent_fault 0x07 kind addr, (((s.only_refl _ _).fault hr _ _ _ (by simp))).refuse _ _ (by simp)⟩

/-- What the refusal of an access in the store shows, the upsets that reached it before included. -/
theorem State.refused_spec {us : List Upset} (hr : s.roomy) (kind r status o : Nat) :
    ∃ t, t = (((s.upset us).fault 0x07 kind ((s.upset us).selfAddr o)).refuse r status) ∧ t.resp = some ⟨r, status, 0⟩ ∧
      s.sent t 0x07 kind (s.selfAddr o) ∧ (∀ a, t.byte a = s.byte a) ∧ s.only [] [.store, .resp, .fltQ] t ∧
      t.store = (s.upset us).store := by
  have hup := s.only_upset us
  obtain ⟨hresp, hsent, honly⟩ := State.faultRefuse_spec (s := s.upset us) (State.upset_roomy us hr) kind ((s.upset us).selfAddr o) r status
  refine ⟨_, rfl, hresp, ?_, ?_, (hup.mono (by simp) (by simp)).trans (honly.mono (by simp) (by simp)), honly.2 .store (by simp)⟩
  · have haddr : (s.upset us).selfAddr o = s.selfAddr o := hup.selfAddr_eq (by simp) (by simp) o
    rw [haddr] at hsent ⊢
    exact hsent.of_eq (hup.2 .fltQ (by simp)) (by rw [show (s.upset us).sys = s.sys from hup.2 .sys (by simp)])
  · intro a
    rw [State.byte_congr (honly.2 .mem (by simp)), State.upset_byte]

/-- An access begins to wait last of all. -/
theorem State.enwait_spec (x : Acc) : (s.enwait x).store.wait = s.store.wait ++ [x] ∧ (∀ w, (s.enwait x).mark w = s.mark w) ∧
    s.only [] [.store] (s.enwait x) := ⟨rfl, fun _ => rfl, (s.only_refl _ _).setWait _ _ (by simp)⟩

end

/-- Settles O7: the forms and addresses refused, the protection, the lockout, and what waits. -/
theorem storeRefusals : Obligations.StoreRefusals := by
  unfold Obligations.StoreRefusals
  refine ⟨?_, ?_, ?_, ?_, ?_⟩
  · intro r addr f us s hin hl hd hr
    obtain ⟨t, rfl, hspec⟩ := State.refused_spec (us := us) hr 0x01 r.val 0x05 (storeBase + storeOff addr)
    exact ⟨_, (exec_storeAccess f us hin hd).trans (congrArg Host.Outcome.next (State.access_illegal hl)), hspec⟩
  · intro r addr f us s hin hlead hwin hd hr
    have hexec : exec (.mainStoreAccess r addr f us) s = .next (s.unmapped r.val addr.toNat) := by
      have hout : (inWindow addr.toNat && (r.val == 1 || r.val == 2)) = false := by
        obtain h | ⟨h1, h2⟩ := hwin
        · rw [h, Bool.false_and]
        · have h1' : r.val ≠ 1 := fun h => h1 (Fin.ext h)
          have h2' : r.val ≠ 2 := fun h => h2 (Fin.ext h)
          simp [h1', h2']
      rw [show exec (.mainStoreAccess r addr f us) s = execMainStoreAccess r addr f us s from rfl, execMainStoreAccess, if_neg (by simp [hd])]
      simp only [hin, hlead, hout, Bool.false_eq_true, if_false, Option.isSome_none]
    exact ⟨_, hexec, State.faultRefuse_spec hr _ _ _ _⟩
  · intro r addr f us s hin ⟨hl, hw, hlock, hd⟩ hwr hr hp hres
    rw [State.upset_dark] at hd
    obtain ⟨t, rfl, hspec⟩ := State.refused_spec (us := us) hr 0x04 r.val 0x06 (storeBase + storeOff addr)
    refine ⟨_, (exec_storeAccess f us hin hd).trans (congrArg Host.Outcome.next ?_), hspec⟩
    rw [State.access_performs hl hres hw,
      State.perform_protected (x := ⟨r.val, storeOff addr, f, .cmd⟩) hlock hwr (by rw [State.mayWrite_congr (State.upset_regs us)]; exact hp)]
  · intro r addr f us s hin hl hres hw hlock hd
    refine ⟨(s.upset us).refuse r.val 0x0C, (exec_storeAccess f us hin hd).trans (congrArg Host.Outcome.next ?_), rfl,
      fun a => State.upset_byte us a, ((s.only_upset us).mono (by simp) (by simp)).refuse _ _ (by simp), rfl⟩
    rw [State.access_performs hl hres hw, State.perform_locked (x := ⟨r.val, storeOff addr, f, .cmd⟩) hlock]
  · intro r addr f us s hin hl hres hw hd
    obtain ⟨hwait, hmark, honly⟩ := (s.upset us).enwait_spec ⟨r.val, storeOff addr, f, .cmd⟩
    refine ⟨_, (exec_storeAccess f us hin hd).trans (congrArg Host.Outcome.next (State.access_waits hl hres hw)), ?_, hmark,
      (s.only_upset us).trans honly⟩
    rw [hwait, (s.upset_wait us).1]

end Sys2Proof.Machine

/-! A read of the main store: good words, corrected ones, and those that cannot be read (R43 to R46). -/
namespace Sys2Proof.Machine

set_option Elab.async false

theorem bankOf_lt {addr : BitVec 38} (h : inStore addr.toNat = true) : bankOf (storeOff addr) < 16 := by
  rw [inStore, decide_eq_true_eq] at h
  unfold bankOf storeOff
  unfold storeBase storeSize at *
  omega

theorem wordOf_lt {addr : BitVec 38} (h : inStore addr.toNat = true) : storeOff addr / 8 < 2 ^ 20 := by
  rw [inStore, decide_eq_true_eq] at h
  unfold storeOff
  unfold storeBase storeSize at *
  omega

/-! ### Counters of the store -/

/-- A count of one of the store's counters changes at most SAT of MSA_ECC_STAT. -/
theorem State.only.storeCount {s t : State} {os : List Nat} {ps : List Part} (h : s.only os ps t) {o : Nat} (n : Nat)
    (hs : satField o = some MSA_ECC_STAT_SAT) (ho : MSA_ECC_STAT ∈ os) (hl : .live ∈ ps) : s.only os ps (t.count o n) := by
  refine h.trans (t.only_count _ n hl fun f hf => ?_)
  rw [hs, Option.some.injEq] at hf
  subst hf
  exact ⟨ho, fun h => absurd h (by decide)⟩

theorem State.get_storeCount (s : State) {o : Nat} (n : Nat) (hs : satField o = some MSA_ECC_STAT_SAT) {f : Fld}
    (h : f.apart MSA_ECC_STAT_SAT = true) : (s.count o n).get f = s.get f := s.get_count n hs (by decide) h

/-! ### The error log (R46) -/

section
variable {s : State} {w req : Nat} {m : Mark}

theorem State.only_eccLog : s.only [MSA_ECC_STAT, MSA_ECC_LOG0, MSA_ECC_LOG1] [] (s.eccLog w m req) := by
  rw [State.eccLog]
  split
  · exact (((((s.only_refl _ _).put _ (by decide)).put _ (by decide)).put _ (by decide)).put _ (by decide)).put _ (by decide)
  · exact s.only_refl _ _

theorem State.get_eccLog_stat {f : Fld} (h : f.off = MSA_ECC_STAT) (hv : f.apart MSA_ECC_STAT_LOG_VALID = true) :
    (s.eccLog w m req).get f = s.get f := by
  rw [State.eccLog]
  split
  · rw [State.get_put_apart _ _ hv, State.get_put_ne _ _ _ _ (by rw [h]; decide), State.get_put_ne _ _ _ _ (by rw [h]; decide),
      State.get_put_ne _ _ _ _ (by rw [h]; decide), State.get_put_ne _ _ _ _ (by rw [h]; decide)]
  · rfl

/-- An error leaves the log valid. -/
theorem State.valid_eccLog : (s.eccLog w m req).get MSA_ECC_STAT_LOG_VALID = 1 := by
  rw [State.eccLog]
  split
  · exact State.get_put_val _ _ _ rfl
  · next h =>
    simp only [Bool.or_eq_true, not_or, Bool.not_eq_true, Bool.not_eq_false', Bool.and_eq_true] at h
    exact State.get_eq_one h.2.1 rfl

/-- An uncorrectable error enters the log. -/
theorem State.eccLog_uncorr (hm : m.uncorr = true) (hw : w < 2 ^ 20) (hreq : req < 2 ^ 4) :
    (s.eccLog w m req).get MSA_ECC_LOG0_WORD = w ∧ (s.eccLog w m req).get MSA_ECC_LOG1_UNCORR = 1 ∧
      (s.eccLog w m req).get MSA_ECC_LOG1_REQ = req := by
  rw [State.eccLog, if_pos (by simp [hm]), hm]
  refine ⟨?_, ?_, ?_⟩
  · rw [State.get_put_apart _ _ rfl, State.get_put_apart _ _ rfl, State.get_put_apart _ _ rfl, State.get_put_apart _ _ rfl,
      State.get_put_self _ rfl hw]
  · rw [State.get_put_apart _ _ rfl, State.get_put_apart _ _ rfl, State.get_put_self _ rfl (by decide)]
    rfl
  · rw [State.get_put_apart _ _ rfl, State.get_put_self _ rfl hreq]

/-! ### An error found by a read -/

/-- The registers of a corrected error, before its report. -/
def State.ceNoted (s : State) (w : Nat) (m : Mark) (req : Nat) : State :=
  ((((s.setMark w (some { m with wb := true })).bump MSA_ECC_CE).put MSA_ECC_STAT_CE 1).eccLog w m req)

/-- The registers of an uncorrectable error, before its report. -/
def State.ueNoted (s : State) (w : Nat) (m : Mark) (req : Nat) : State :=
  (((s.bump MSA_ECC_UE).put MSA_ECC_STAT_UE 1).eccLog w m req)

theorem State.eccCe_eq : s.eccCe w m req = (s.ceNoted w m req).fault 0x07 0x06 (s.selfAddr (storeBase + 8 * w)) := rfl

theorem State.eccUe_eq : s.eccUe w m req = (s.ueNoted w m req).fault 0x07 0x07 (s.selfAddr (storeBase + 8 * w)) := rfl

theorem State.only_ceNoted : s.only [MSA_ECC_STAT, MSA_ECC_LOG0, MSA_ECC_LOG1] [.live, .store] (s.ceNoted w m req) :=
  ((((s.only_refl _ _).setMark _ _ (by simp)).storeCount 1 rfl (by simp) (by simp)).put _ (by decide)).trans
    (State.only_eccLog.mono (by simp) (by simp))

theorem State.only_ueNoted : s.only [MSA_ECC_STAT, MSA_ECC_LOG0, MSA_ECC_LOG1] [.live] (s.ueNoted w m req) :=
  (((s.only_refl _ _).storeCount 1 rfl (by simp) (by simp)).put _ (by decide)).trans (State.only_eccLog.mono (by simp) (by simp))

theorem State.mark_congr {s t : State} (h : t.store = s.store) (v : Nat) : t.mark v = s.mark v := by rw [State.mark, h, State.mark]

/-- What a corrected error leaves (R43). -/
theorem State.eccCe_spec (hr : s.roomy) :
    s.advanced (s.eccCe w m req) MSA_ECC_CE 1 ∧ (s.eccCe w m req).get MSA_ECC_STAT_CE = 1 ∧
      (s.eccCe w m req).get MSA_ECC_STAT_LOG_VALID = 1 ∧ (s.eccCe w m req).mark w = some { m with wb := true } ∧
      s.sent (s.eccCe w m req) 0x07 0x06 (s.selfAddr (storeBase + 8 * w)) ∧
      s.only [MSA_ECC_STAT, MSA_ECC_LOG0, MSA_ECC_LOG1] [.live, .store, .fltQ] (s.eccCe w m req) := by
  have hnoted : s.only _ _ (s.ceNoted w m req) := State.only_ceNoted
  have hroom : (s.ceNoted w m req).roomy := hnoted.roomy hr (by decide) (by decide) (by simp)
  have hfault := hroom.only_fault 0x07 0x06 (s.selfAddr (storeBase + 8 * w))
  have hlog := State.only_eccLog (s := (((s.setMark w (some { m with wb := true })).bump MSA_ECC_CE).put MSA_ECC_STAT_CE 1)) (w := w) (m := m)
    (req := req)
  have hbump := (State.only_refl (s.setMark w (some { m with wb := true })) [MSA_ECC_STAT] [.live]).storeCount 1
    (show satField MSA_ECC_CE = some MSA_ECC_STAT_SAT from rfl) (by simp) (by simp)
  rw [State.eccCe_eq]
  refine ⟨?_, ?_, ?_, ?_, ?_, (hnoted.mono (by simp) (by simp)).trans (hfault.mono (by simp) (by simp))⟩
  · rw [State.advanced, State.cnt_congr (hfault.2 .live (by simp)), State.ceNoted, State.cnt_congr (hlog.2 .live (by simp)),
      State.cnt_congr (State.put_live _ _ _), State.bump, State.cnt_count_self]
    rfl
  · rw [hfault.get_eq (by simp), State.ceNoted, State.get_eccLog_stat rfl rfl, State.get_put_val _ _ _ rfl]
  · rw [hfault.get_eq (by simp), State.ceNoted, State.valid_eccLog]
  · rw [State.mark_congr (hfault.2 .store (by simp)), State.ceNoted, State.mark_congr (hlog.2 .store (by simp)),
      State.mark_congr (State.put_store _ _ _), State.bump, State.mark_congr (hbump.2 .store (by simp)), State.mark_setMark, if_pos rfl]
  · exact (hroom.sent_fault ..).of_eq (hnoted.2 .fltQ (by simp)) (by rw [show (s.ceNoted w m req).sys = s.sys from hnoted.2 .sys (by simp)])

/-- What an uncorrectable error leaves (R44). -/
theorem State.eccUe_spec (hr : s.roomy) (hm : m.uncorr = true) (hw : w < 2 ^ 20) (hreq : req < 2 ^ 4) :
    s.advanced (s.eccUe w m req) MSA_ECC_UE 1 ∧ (s.eccUe w m req).get MSA_ECC_STAT_UE = 1 ∧
      (s.eccUe w m req).get MSA_ECC_STAT_LOG_VALID = 1 ∧ (s.eccUe w m req).get MSA_ECC_LOG0_WORD = w ∧
      (s.eccUe w m req).get MSA_ECC_LOG1_UNCORR = 1 ∧ (s.eccUe w m req).get MSA_ECC_LOG1_REQ = req ∧
      s.sent (s.eccUe w m req) 0x07 0x07 (s.selfAddr (storeBase + 8 * w)) ∧
      s.only [MSA_ECC_STAT, MSA_ECC_LOG0, MSA_ECC_LOG1] [.live, .fltQ] (s.eccUe w m req) := by
  have hnoted : s.only _ _ (s.ueNoted w m req) := State.only_ueNoted
  have hroom : (s.ueNoted w m req).roomy := hnoted.roomy hr (by decide) (by decide) (by simp)
  have hfault := hroom.only_fault 0x07 0x07 (s.selfAddr (storeBase + 8 * w))
  have hlog := State.only_eccLog (s := ((s.bump MSA_ECC_UE).put MSA_ECC_STAT_UE 1)) (w := w) (m := m) (req := req)
  obtain ⟨hw0, hw1, hw2⟩ := State.eccLog_uncorr (s := ((s.bump MSA_ECC_UE).put MSA_ECC_STAT_UE 1)) hm hw hreq
  rw [State.eccUe_eq]
  refine ⟨?_, ?_, ?_, ?_, ?_, ?_, ?_, (hnoted.mono (by simp) (by simp)).trans (hfault.mono (by simp) (by simp))⟩
  · rw [State.advanced, State.cnt_congr (hfault.2 .live (by simp)), State.ueNoted, State.cnt_congr (hlog.2 .live (by simp)),
      State.cnt_congr (State.put_live _ _ _), State.bump, State.cnt_count_self]
  · rw [hfault.get_eq (by simp), State.ueNoted, State.get_eccLog_stat rfl rfl, State.get_put_val _ _ _ rfl]
  · rw [hfault.get_eq (by simp), State.ueNoted, State.valid_eccLog]
  · rw [hfault.get_eq (by simp), State.ueNoted, hw0]
  · rw [hfault.get_eq (by simp), State.ueNoted, hw1]
  · rw [hfault.get_eq (by simp), State.ueNoted, hw2]
  · exact (hroom.sent_fault ..).of_eq (hnoted.2 .fltQ (by simp)) (by rw [show (s.ueNoted w m req).sys = s.sys from hnoted.2 .sys (by simp)])

end

/-! ### Reads -/

section
variable {s : State}

/-- An access that neither the lockout nor the protection refuses takes its bank. -/
theorem State.perform_read {r o : Nat} {z : Fin 4} {src : AccSrc} (hl : s.lockedOut (bankOf o) r = false) :
    s.perform ⟨r, o, .read z, src⟩ =
      let q := (s.grant (bankOf o) r).eccRead (o / 8) 1 r
      let u := q.1.count (MSA_BEATS (bankOf o)) 1
      if q.2 then u.answer r 0 (u.load o (2 ^ z.val)) else u.refuse r 0x07 := by
  rw [State.perform]
  exact (if_neg (by simp [hl])).trans (if_neg (by simp [accWrites]))

theorem State.perform_burstRead {r o n : Nat} {src : AccSrc} (hl : s.lockedOut (bankOf o) r = false) :
    s.perform ⟨r, o, .burstRead n, src⟩ =
      let q := (s.grant (bankOf o) r).eccRead (o / 8) (4 * n) r
      let u := q.1.count (MSA_BEATS (bankOf o)) n
      if q.2 then u.answer r 0 (u.load o (32 * n)) else u.refuse r 0x07 := by
  rw [State.perform]
  exact (if_neg (by simp [hl])).trans (if_neg (by simp [accWrites]))

theorem State.bank_congr {t : State} (h : t.store = s.store) (b : Nat) : t.bank b = s.bank b := by rw [State.bank, h, State.bank]

/-- A read of good words counts its beats, answers the bytes, and leaves the grant on its requester. -/
theorem State.goodRead_spec {b r n o k : Nat} (us : List Upset) (hb : b < 16) :
    ∃ t, t = ((((s.upset us).grant b r).count (MSA_BEATS b) n).answer r 0
        ((((s.upset us).grant b r).count (MSA_BEATS b) n).load o k)) ∧
      t.resp = some ⟨r, 0, s.load o k⟩ ∧ s.advanced t (MSA_BEATS b) n ∧ (t.bank b).owner = r ∧ (∀ a, t.byte a = s.byte a) ∧
      s.only [MSA_ECC_STAT] [.live, .store, .resp] t := by
  have hup := s.only_upset us
  have hcount : s.only [MSA_ECC_STAT] [.live, .store] (((s.upset us).grant b r).count (MSA_BEATS b) n) :=
    ((hup.mono (by simp) (by simp)).grant _ _ (by simp)).storeCount n (satField_beats hb) (by simp) (by simp)
  have hbank := ((State.only_refl ((s.upset us).grant b r) [MSA_ECC_STAT] [.live]).storeCount n (satField_beats hb) (by simp) (by simp)).2
    .store (by simp)
  have hmem := hcount.2 .mem (by simp)
  refine ⟨_, rfl, ?_, ?_, ?_, fun a => State.byte_congr hmem a, (hcount.mono (by simp) (by simp)).answer _ _ _ (by simp)⟩
  · rw [State.load_congr hmem, State.answer]
  · refine (State.cnt_count_self ..).trans ?_
    rw [show ((s.upset us).grant b r).cnt (MSA_BEATS b) = (s.upset us).cnt (MSA_BEATS b) from rfl,
      State.cnt_congr (hup.2 .live (by simp))]
  · exact (congrArg BankSt.owner (State.bank_congr hbank b)).trans (State.grant_owner _ _ _)

/-- The bank's beat after an error of the word read. -/
theorem State.mark_grant_upset {us : List Upset} {w : Nat} {m : Option Mark} (b r : Nat) (h : (s.upset us).mark w = m) :
    ((s.upset us).grant b r).mark w = m := h

/-- A read of a word with a single-bit error answers its bytes, and leaves the error counted, logged and reported. -/
theorem State.ceRead_spec {b r w o k : Nat} {m : Mark} (us : List Upset) (hb : b < 16) (hr : s.roomy) :
    ∃ t, t = (((((s.upset us).grant b r).eccCe w m r).count (MSA_BEATS b) 1).answer r 0
        (((((s.upset us).grant b r).eccCe w m r).count (MSA_BEATS b) 1).load o k)) ∧
      t.resp = some ⟨r, 0, s.load o k⟩ ∧ s.advanced t MSA_ECC_CE 1 ∧ t.get MSA_ECC_STAT_CE = 1 ∧ t.get MSA_ECC_STAT_LOG_VALID = 1 ∧
      t.mark w = some { m with wb := true } ∧ s.sent t 0x07 0x06 (s.selfAddr (storeBase + 8 * w)) ∧ (∀ a, t.byte a = s.byte a) ∧
      s.only [MSA_ECC_STAT, MSA_ECC_LOG0, MSA_ECC_LOG1] [.live, .store, .resp, .fltQ] t := by
  have hgrant : s.only [] [.store] ((s.upset us).grant b r) := (s.only_upset us).grant _ _ (by simp)
  have hroom := hgrant.roomy hr (by simp) (by simp) (by simp)
  obtain ⟨hcnt, hce, hvalid, hmark, hsent, hecc⟩ := State.eccCe_spec (w := w) (m := m) (req := r) hroom
  rw [hgrant.selfAddr_eq (by simp) (by simp)] at hsent
  generalize ((s.upset us).grant b r).eccCe w m r = u at hcnt hce hvalid hmark hsent hecc ⊢
  have hcount := (u.only_refl [MSA_ECC_STAT] [.live]).storeCount 1 (satField_beats hb) (by simp) (by simp)
  have hall : s.only [MSA_ECC_STAT, MSA_ECC_LOG0, MSA_ECC_LOG1] [.live, .store, .fltQ] (u.count (MSA_BEATS b) 1) :=
    ((hgrant.mono (by simp) (by simp)).trans (hecc.mono (by simp) (by simp))).trans (hcount.mono (by simp) (by simp))
  have hmem := hall.2 .mem (by simp)
  have hne : MSA_ECC_CE ≠ MSA_BEATS b := by
    simp only [MSA_ECC_CE, MSA_BEATS]
    omega
  refine ⟨_, rfl, ?_, ?_, ?_, ?_, ?_, ?_, fun a => State.byte_congr hmem a, (hall.mono (by simp) (by simp)).answer _ _ _ (by simp)⟩
  · rw [State.load_congr hmem, State.answer]
  · refine (State.cnt_count u (MSA_BEATS b) 1 MSA_ECC_CE).trans ?_
    rw [if_neg hne, hcnt, State.cnt_congr (hgrant.2 .live (by simp))]
  · exact (u.get_storeCount 1 (satField_beats hb) rfl).trans hce
  · exact (u.get_storeCount 1 (satField_beats hb) rfl).trans hvalid
  · exact (State.mark_congr (hcount.2 .store (by simp)) w).trans hmark
  · rw [State.sent] at hsent ⊢
    rw [show State.fltQ (State.answer _ _ _ _) = u.fltQ from hcount.2 .fltQ (by simp), hsent, hgrant.2 .fltQ (by simp),
      show ((s.upset us).grant b r).sys = s.sys from hgrant.2 .sys (by simp)]

/-- A read of an uncorrectable word answers an error, and leaves it counted, logged, reported and in its place. -/
theorem State.ueRead_spec {b r w : Nat} (n : Nat) {m : Mark} (us : List Upset) (hb : b < 16) (hr : s.roomy) (hm : m.uncorr = true)
    (hw : w < 2 ^ 20) (hreq : r < 2 ^ 4) (hmark : (s.upset us).mark w = some m) :
    ∃ t, t = (((((s.upset us).grant b r).eccUe w m r).count (MSA_BEATS b) n).refuse r 0x07) ∧
      t.resp = some ⟨r, 0x07, 0⟩ ∧ s.advanced t MSA_ECC_UE 1 ∧ t.get MSA_ECC_STAT_UE = 1 ∧ t.get MSA_ECC_STAT_LOG_VALID = 1 ∧
      t.get MSA_ECC_LOG0_WORD = w ∧ t.get MSA_ECC_LOG1_UNCORR = 1 ∧ t.get MSA_ECC_LOG1_REQ = r ∧ t.mark w = some m ∧
      s.sent t 0x07 0x07 (s.selfAddr (storeBase + 8 * w)) ∧ (∀ a, t.byte a = s.byte a) ∧
      s.only [MSA_ECC_STAT, MSA_ECC_LOG0, MSA_ECC_LOG1] [.live, .store, .resp, .fltQ] t := by
  have hgrant : s.only [] [.store] ((s.upset us).grant b r) := (s.only_upset us).grant _ _ (by simp)
  have hroom := hgrant.roomy hr (by simp) (by simp) (by simp)
  obtain ⟨hcnt, hue, hvalid, hword, huncorr, hreq', hsent, hecc⟩ := State.eccUe_spec (w := w) (m := m) (req := r) hroom hm hw hreq
  have hmark' : (((s.upset us).grant b r).eccUe w m r).mark w = some m :=
    (State.mark_congr (hecc.2 .store (by simp)) w).trans (State.mark_grant_upset b r hmark)
  rw [hgrant.selfAddr_eq (by simp) (by simp)] at hsent
  generalize ((s.upset us).grant b r).eccUe w m r = u at hcnt hue hvalid hword huncorr hreq' hmark' hsent hecc ⊢
  have hcount := (u.only_refl [MSA_ECC_STAT] [.live]).storeCount n (satField_beats hb) (by simp) (by simp)
  have hall : s.only [MSA_ECC_STAT, MSA_ECC_LOG0, MSA_ECC_LOG1] [.live, .store, .fltQ] (u.count (MSA_BEATS b) n) :=
    ((hgrant.mono (by simp) (by simp)).trans (hecc.mono (by simp) (by simp))).trans (hcount.mono (by simp) (by simp))
  have hne : MSA_ECC_UE ≠ MSA_BEATS b := by
    simp only [MSA_ECC_UE, MSA_BEATS]
    omega
  refine ⟨_, rfl, rfl, ?_, ?_, ?_, ?_, ?_, ?_, ?_, ?_, fun a => State.byte_congr (hall.2 .mem (by simp)) a,
    (hall.mono (by simp) (by simp)).refuse _ _ (by simp)⟩
  · refine (State.cnt_count u (MSA_BEATS b) n MSA_ECC_UE).trans ?_
    rw [if_neg hne, hcnt, State.cnt_congr (hgrant.2 .live (by simp))]
  · exact (u.get_storeCount n (satField_beats hb) rfl).trans hue
  · exact (u.get_storeCount n (satField_beats hb) rfl).trans hvalid
  · exact (u.get_storeCount n (satField_beats hb) rfl).trans hword
  · exact (u.get_storeCount n (satField_beats hb) rfl).trans huncorr
  · exact (u.get_storeCount n (satField_beats hb) rfl).trans hreq'
  · exact (State.mark_congr (hcount.2 .store (by simp)) w).trans hmark'
  · rw [State.sent] at hsent ⊢
    rw [show State.fltQ (State.refuse _ _ _) = u.fltQ from hcount.2 .fltQ (by simp), hsent, hgrant.2 .fltQ (by simp),
      show ((s.upset us).grant b r).sys = s.sys from hgrant.2 .sys (by simp)]

end

/-- Settles O5: good words are delivered, a corrected one too with its report, an uncorrectable one never. -/
theorem storeReads : Obligations.StoreReads := by
  unfold Obligations.StoreReads
  refine ⟨?_, ?_, ?_, ?_⟩
  · intro r addr z us s hin ⟨hl, hw, hlock, hd⟩ hmark
    rw [State.upset_dark] at hd
    have hexec := (exec_storeAccess (.read z) us hin hd).trans (congrArg Host.Outcome.next
      ((State.access_performs hl rfl hw).trans (State.perform_read (src := .cmd) hlock)))
    have hgood := State.eccRead_good ((s.upset us).grant (bankOf (storeOff addr)) r.val) (storeOff addr / 8) 1 r.val fun i hi => by
      rw [show i = 0 by omega, Nat.add_zero]
      exact State.mark_grant_upset _ _ hmark
    simp only [hgood, if_true] at hexec
    obtain ⟨t, rfl, hspec⟩ := State.goodRead_spec (s := s) (r := r.val) (n := 1) (o := storeOff addr) (k := 2 ^ z.val) us (bankOf_lt hin)
    exact ⟨_, hexec, hspec⟩
  · intro r addr n us s hin ⟨hl, hw, hlock, hd⟩ hmark
    rw [State.upset_dark] at hd
    have hexec := (exec_storeAccess (.burstRead n) us hin hd).trans (congrArg Host.Outcome.next
      ((State.access_performs hl rfl hw).trans (State.perform_burstRead (src := .cmd) hlock)))
    have hgood := State.eccRead_good ((s.upset us).grant (bankOf (storeOff addr)) r.val) (storeOff addr / 8) (4 * n) r.val
      fun i hi => State.mark_grant_upset _ _ (hmark i hi)
    simp only [hgood, if_true] at hexec
    obtain ⟨t, rfl, hspec⟩ := State.goodRead_spec (s := s) (r := r.val) (n := n) (o := storeOff addr) (k := 32 * n) us (bankOf_lt hin)
    exact ⟨_, hexec, hspec⟩
  · intro r addr z us m s hin ⟨hl, hw, hlock, hd⟩ hr hmark hm
    rw [State.upset_dark] at hd
    have hexec := (exec_storeAccess (.read z) us hin hd).trans (congrArg Host.Outcome.next
      ((State.access_performs hl rfl hw).trans (State.perform_read (src := .cmd) hlock)))
    have hce := State.eccRead_ce ((s.upset us).grant (bankOf (storeOff addr)) r.val) (storeOff addr / 8) r.val m
      (State.mark_grant_upset _ _ hmark) hm
    simp only [hce, if_true] at hexec
    obtain ⟨t, rfl, hspec⟩ := State.ceRead_spec (s := s) (r := r.val) (w := storeOff addr / 8) (o := storeOff addr) (k := 2 ^ z.val) (m := m)
      us (bankOf_lt hin) hr
    exact ⟨_, hexec, hspec⟩
  · intro r addr z us m s hin ⟨hl, hw, hlock, hd⟩ hr hmark hm
    rw [State.upset_dark] at hd
    have hexec := (exec_storeAccess (.read z) us hin hd).trans (congrArg Host.Outcome.next
      ((State.access_performs hl rfl hw).trans (State.perform_read (src := .cmd) hlock)))
    have hue := State.eccRead_ue ((s.upset us).grant (bankOf (storeOff addr)) r.val) (storeOff addr / 8) r.val m
      (State.mark_grant_upset _ _ hmark) hm
    simp only [hue, Bool.false_eq_true, if_false] at hexec
    obtain ⟨t, rfl, hspec⟩ := State.ueRead_spec (s := s) (r := r.val) 1 us (bankOf_lt hin) hr hm (wordOf_lt hin) (by omega) hmark
    exact ⟨_, hexec, hspec⟩

end Sys2Proof.Machine

/-! A write of the main store: whole words, narrow ones and bursts (R38, R43 to R45, R50, R51). -/
namespace Sys2Proof.Machine

set_option Elab.async false

/-! ### Words in the store -/

theorem Tab.setList_append {α : Type} [DecidableEq α] (d : Nat → α) (xs ys : List α) (t : Tab α) (k : Nat) :
    Tab.setList d t k (xs ++ ys) = Tab.setList d (Tab.setList d t k xs) (k + xs.length) ys := by
  induction xs generalizing t k with
  | nil => rfl
  | cons x xs ih =>
    rw [List.cons_append, Tab.setList, ih, Tab.setList, List.length_cons, show k + 1 + xs.length = k + (xs.length + 1) by omega]

/-- The bytes of whole words. -/
def wordBytes (ws : List DWord) : List Byte := ws.flatMap fun (w : DWord) => leBytes 8 w.toNat

theorem length_wordBytes (ws : List DWord) : (wordBytes ws).length = 8 * ws.length := by
  induction ws with
  | nil => rfl
  | cons w ws ih =>
    rw [wordBytes, List.flatMap_cons, List.length_append, length_leBytes, ← wordBytes, ih, List.length_cons]
    omega

/-- Words written one after the other read back one by one. -/
theorem load_wordBytes (ws : List DWord) (m : Tab Byte) (off i : Nat) (hi : i < ws.length) :
    ofLeBytes (Tab.getList memDefault (Tab.setList memDefault m off (wordBytes ws)) (off + 8 * i) 8) = (ws.getD i 0#64).toNat := by
  induction ws generalizing m off i with
  | nil => simp at hi
  | cons w ws ih =>
    rw [wordBytes, List.flatMap_cons, Tab.setList_append, length_leBytes, ← wordBytes]
    cases i with
    | zero =>
      have hrest : Tab.getList memDefault (Tab.setList memDefault (Tab.setList memDefault m off (leBytes 8 w.toNat)) (off + 8) (wordBytes ws))
          (off + 8 * 0) 8 = Tab.getList memDefault (Tab.setList memDefault m off (leBytes 8 w.toNat)) off 8 :=
        Tab.getList_congr _ _ _ _ _ fun j _ h => Tab.get_setList_out _ _ _ _ _ (.inl (by omega))
      have hword := Tab.getList_setList memDefault (leBytes 8 w.toNat) m off
      rw [length_leBytes] at hword
      rw [hrest, hword, ofLeBytes_leBytes, Nat.mod_eq_of_lt w.isLt]
      rfl
    | succ i =>
      rw [show off + 8 * (i + 1) = off + 8 + 8 * i by omega, ih _ _ _ (by simpa using hi)]
      rfl

section
variable (s : State) (req off : Nat) (ws : List DWord)

theorem State.writeWords_eq : s.writeWords req off ws =
    (({ s with mem := Tab.setList memDefault s.mem off (wordBytes ws) } : State).eccWritten (off / 8) ws.length).lrWritten req off
      (8 * ws.length) := rfl

/-- The bookkeeping of a write after its bytes. -/
theorem State.only_written (w n r o k : Nat) : s.only [] [.store] ((s.eccWritten w n).lrWritten r o k) :=
  ((s.only_refl _ _).eccWritten _ _ (by simp)).lrWritten _ _ _ (by simp)

theorem State.mem_writeWords : (s.writeWords req off ws).mem = Tab.setList memDefault s.mem off (wordBytes ws) := by
  rw [State.writeWords_eq]
  exact (State.only_written _ _ _ _ _ _).2 .mem (by simp)

theorem State.only_writeWords : s.only [] [.mem, .store] (s.writeWords req off ws) := by
  rw [State.writeWords_eq]
  exact ((s.only_refl _ _).with_mem _ (by simp)).trans ((State.only_written _ _ _ _ _ _).mono (by simp) (by simp))

theorem State.byte_writeWords {a : Nat} (h : a < off ∨ off + 8 * ws.length ≤ a) : (s.writeWords req off ws).byte a = s.byte a := by
  rw [State.byte, State.mem_writeWords, Tab.get_setList_out _ _ _ _ _ (by rwa [length_wordBytes]), State.byte]

theorem State.load_writeWords {i : Nat} (hi : i < ws.length) :
    (s.writeWords req off ws).load (off + 8 * i) 8 = (ws.getD i 0#64).toNat := by
  rw [State.load, State.mem_writeWords, load_wordBytes _ _ _ _ hi]

theorem State.mark_writeWords (v : Nat) :
    (s.writeWords req off ws).mark v = if off / 8 ≤ v ∧ v < off / 8 + ws.length then none else s.mark v := by
  rw [State.writeWords_eq, (State.lrWritten_rest _ _ _ _).1, State.mark_eccWritten]
  rfl

theorem State.lrOf_congr {s t : State} (h : t.store = s.store) (c : Nat) : t.lrOf c = s.lrOf c := by rw [State.lrOf, h, State.lrOf]

/-- A write within one granule takes the reservation of it from the other core. -/
theorem State.lrOf_granule {t : State} {req off n c g : Nat} (hc : c < 2) (hreq : c + 1 ≠ req) (hg : off / 64 = g)
    (hg' : (off + n - 1) / 64 = g) : (t.lrWritten req off n).lrOf c = if t.lrOf c = some g then none else t.lrOf c := by
  rw [State.lrOf_lrWritten _ _ _ _ _ hc]
  cases t.lrOf c with
  | none => rfl
  | some k =>
    have hiff : (req ≠ c + 1 ∧ off / 64 ≤ k ∧ k ≤ (off + n - 1) / 64) ↔ k = g := by omega
    by_cases hk : k = g
    · subst hk
      simp [hiff]
    · simp [hiff, hk]

end

/-! ### Writes in their bank -/

section
variable {s : State}

theorem State.perform_writeWord {r o : Nat} {d : DWord} {src : AccSrc} (hl : s.lockedOut (bankOf o) r = false)
    (hp : s.mayWrite r (bankOf o) = true) :
    s.perform ⟨r, o, .write 3 d, src⟩ =
      (((s.grant (bankOf o) r).writeWords r o [d]).count (MSA_BEATS (bankOf o)) 1).answer r 0 0 := by
  rw [State.perform]
  exact (if_neg (by simp [hl])).trans ((if_neg (by simp [hp])).trans (if_pos rfl))

theorem State.perform_writeNarrow {r o : Nat} {z : Fin 4} {d : DWord} {src : AccSrc} (hz : z.val < 3)
    (hl : s.lockedOut (bankOf o) r = false) (hp : s.mayWrite r (bankOf o) = true) :
    s.perform ⟨r, o, .write z d, src⟩ =
      let q := (s.grant (bankOf o) r).eccRead (o / 8) 1 r
      let u := q.1.count (MSA_BEATS (bankOf o)) 2
      if !q.2 then u.refuse r 0x07
      else (((u.poke o (2 ^ z.val) d.toNat).eccWritten (o / 8) 1).lrWritten r o (2 ^ z.val)).answer r 0 0 := by
  rw [State.perform]
  exact (if_neg (by simp [hl])).trans ((if_neg (by simp [hp])).trans (if_neg (show ¬ z.val = 3 by omega)))

theorem State.perform_burstWrite {r o n : Nat} {ws : List DWord} {src : AccSrc} (hl : s.lockedOut (bankOf o) r = false)
    (hp : s.mayWrite r (bankOf o) = true) :
    s.perform ⟨r, o, .burstWrite n ws, src⟩ = (s.grant (bankOf o) r).burstBeats r o o n ws := by
  rw [State.perform]
  exact (if_neg (by simp [hl])).trans (if_neg (by simp [hp]))

theorem State.perform_resume {r o : Nat} {ws : List DWord} {src : AccSrc} {u : Burst} (hl : s.lockedOut (bankOf o) r = false)
    (hb : (s.bank (bankOf o)).burst = some u) (hu : u.req = r) :
    s.perform ⟨r, o, .resume ws, src⟩ = (s.grant (bankOf o) r).burstBeats u.req u.start u.next u.left ws := by
  have hb' : ((s.grant (bankOf o) r).bank (bankOf o)).burst = some u := by rw [State.grant_burst, hb]
  rw [State.perform]
  refine (if_neg (by simp [hl])).trans ((if_neg (by simp [accWrites])).trans ?_)
  simp only [hb', hu, if_true]

/-- The offset of a whole word, and of a part of one, lies in one granule. -/
theorem granule_of_aligned {o z : Nat} (hz : z ≤ 3) (h : o % 2 ^ z = 0) : (o + 2 ^ z - 1) / 64 = o / 64 := by
  interval_cases z <;> omega

theorem accLegal_write {z : Fin 4} {d : DWord} {o : Nat} (h : accLegal (.write z d) o = true) : o % 2 ^ z.val = 0 := by
  simpa [accLegal] using h

end

/-! ### What a write leaves -/

section
variable {s : State}

/-- A requester's own bank once the upsets are in and the grant is his: only the store's bookkeeping has changed. -/
def State.granted (s : State) (us : List Upset) (b r : Nat) : State := (s.upset us).grant b r

theorem State.only_granted (us : List Upset) (b r : Nat) : s.only [] [.store] (s.granted us b r) := (s.only_upset us).grant _ _ (by simp)

theorem State.lrOf_granted (us : List Upset) (b r c : Nat) : (s.granted us b r).lrOf c = s.lrOf c := by
  rw [State.granted, State.lrOf_grant, State.lrOf, (s.upset_wait us).2.2.2.1, State.lrOf]

theorem State.wait_granted (us : List Upset) (b r : Nat) : (s.granted us b r).store.wait = s.store.wait := (s.upset_wait us).1

theorem State.only_beats (n : Nat) {b : Nat} (hb : b < 16) : s.only [MSA_ECC_STAT] [.live] (s.count (MSA_BEATS b) n) :=
  (s.only_refl _ _).storeCount n (satField_beats hb) (by simp) (by simp)

/-- A whole word written. -/
theorem State.wordWrite_spec {o r : Nat} {d : DWord} (us : List Upset) (hb : bankOf o < 16) (ho : o % 2 ^ 3 = 0) :
    ∃ t, t = ((((s.upset us).grant (bankOf o) r).writeWords r o [d]).count (MSA_BEATS (bankOf o)) 1).answer r 0 0 ∧
      t.resp = some ⟨r, 0, 0⟩ ∧ t.load o 8 = d.toNat ∧ (∀ a, a < o ∨ o + 8 ≤ a → t.byte a = s.byte a) ∧ t.mark (o / 8) = none ∧
      s.advanced t (MSA_BEATS (bankOf o)) 1 ∧
      (∀ c, c < 2 → c + 1 ≠ r → t.lrOf c = if s.lrOf c = some (o / 64) then none else s.lrOf c) ∧
      s.only [MSA_ECC_STAT] [.live, .mem, .store, .resp] t := by
  have hgrant := s.only_granted us (bankOf o) r
  have hlr := s.lrOf_granted us (bankOf o) r
  rw [show (s.upset us).grant (bankOf o) r = s.granted us (bankOf o) r from rfl]
  generalize s.granted us (bankOf o) r = v at hgrant hlr ⊢
  have hwords := v.only_writeWords r o [d]
  have hload := v.load_writeWords r o [d] (i := 0) (by simp)
  have hbyte (a : Nat) (h : a < o ∨ o + 8 ≤ a) : (v.writeWords r o [d]).byte a = v.byte a := v.byte_writeWords r o [d] (by simpa using h)
  have hmark : (v.writeWords r o [d]).mark (o / 8) = none := by rw [State.mark_writeWords, if_pos (by simp)]
  have hlrw (c : Nat) (hc : c < 2) (hcr : c + 1 ≠ r) :
      (v.writeWords r o [d]).lrOf c = if v.lrOf c = some (o / 64) then none else v.lrOf c := by
    have hg := granule_of_aligned (le_refl 3) ho
    rw [State.writeWords_eq, State.lrOf_granule hc hcr rfl (by simpa using hg), (State.eccWritten_rest _ _ _).1]
    rfl
  generalize v.writeWords r o [d] = w at hwords hload hbyte hmark hlrw ⊢
  have hcount := w.only_beats 1 hb
  have hstore := hcount.2 .store (by simp)
  have hmem := hcount.2 .mem (by simp)
  have hall : s.only [MSA_ECC_STAT] [.live, .mem, .store] (w.count (MSA_BEATS (bankOf o)) 1) :=
    ((hgrant.mono (by simp) (by simp)).trans (hwords.mono (by simp) (by simp))).trans (hcount.mono (by simp) (by simp))
  refine ⟨_, rfl, rfl, ?_, fun a ha => ?_, ?_, ?_, fun c hc hcr => ?_, (hall.mono (by simp) (by simp)).answer _ _ _ (by simp)⟩
  · refine (State.load_congr hmem _ _).trans ?_
    rw [Nat.mul_zero, Nat.add_zero] at hload
    exact hload
  · exact (State.byte_congr hmem a).trans ((hbyte a ha).trans (State.byte_congr (hgrant.2 .mem (by simp)) a))
  · exact (State.mark_congr hstore _).trans hmark
  · refine (State.cnt_count_self ..).trans ?_
    rw [State.cnt_congr (hwords.2 .live (by simp)), State.cnt_congr (hgrant.2 .live (by simp))]
  · refine (State.lrOf_congr hstore c).trans ((hlrw c hc hcr).trans ?_)
    rw [hlr]

/-- A part of a good word written. -/
theorem State.narrowWrite_spec {o r z : Nat} {d : DWord} (us : List Upset) (hb : bankOf o < 16) (hz : z ≤ 3) (ho : o % 2 ^ z = 0) :
    ∃ t, t = (((((((s.upset us).grant (bankOf o) r).count (MSA_BEATS (bankOf o)) 2).poke o (2 ^ z) d.toNat).eccWritten (o / 8) 1).lrWritten
        r o (2 ^ z)).answer r 0 0) ∧
      t.resp = some ⟨r, 0, 0⟩ ∧ t.load o (2 ^ z) = d.toNat % 2 ^ (8 * 2 ^ z) ∧
      (∀ a, a < o ∨ o + 2 ^ z ≤ a → t.byte a = s.byte a) ∧ s.advanced t (MSA_BEATS (bankOf o)) 2 ∧
      (∀ c, c < 2 → c + 1 ≠ r → t.lrOf c = if s.lrOf c = some (o / 64) then none else s.lrOf c) ∧
      s.only [MSA_ECC_STAT] [.live, .mem, .store, .resp] t := by
  have hgrant := s.only_granted us (bankOf o) r
  have hlr := s.lrOf_granted us (bankOf o) r
  rw [show (s.upset us).grant (bankOf o) r = s.granted us (bankOf o) r from rfl]
  generalize s.granted us (bankOf o) r = v at hgrant hlr ⊢
  have hcount := v.only_beats 2 hb
  have hcnt := v.cnt_count_self (MSA_BEATS (bankOf o)) 2
  generalize v.count (MSA_BEATS (bankOf o)) 2 = w at hcount hcnt ⊢
  have hwritten := (w.poke o (2 ^ z) d.toNat).only_written (o / 8) 1 r o (2 ^ z)
  have hmem := hwritten.2 .mem (by simp)
  have hall : s.only [MSA_ECC_STAT] [.live, .mem, .store] (((w.poke o (2 ^ z) d.toNat).eccWritten (o / 8) 1).lrWritten r o (2 ^ z)) :=
    (((hgrant.mono (by simp) (by simp)).trans (hcount.mono (by simp) (by simp))).poke _ _ _ (by simp)).trans
      (hwritten.mono (by simp) (by simp))
  refine ⟨_, rfl, rfl, ?_, fun a ha => ?_, ?_, fun c hc hcr => ?_, (hall.mono (by simp) (by simp)).answer _ _ _ (by simp)⟩
  · exact (State.load_congr hmem _ _).trans (State.load_poke ..)
  · refine (State.byte_congr hmem a).trans ((State.byte_poke_out _ _ _ _ _ ha).trans ?_)
    rw [State.byte_congr (hcount.2 .mem (by simp)), State.byte_congr (hgrant.2 .mem (by simp))]
  · refine (State.cnt_congr (hwritten.2 .live (by simp)) _).trans (hcnt.trans ?_)
    rw [State.cnt_congr (hgrant.2 .live (by simp))]
  · have hw : (w.poke o (2 ^ z) d.toNat).lrOf c = s.lrOf c := by
      rw [State.lrOf_congr (t := w.poke _ _ _) (s := w) rfl, State.lrOf_congr (hcount.2 .store (by simp)), hlr]
    refine (State.lrOf_granule hc hcr rfl (granule_of_aligned hz ho)).trans ?_
    rw [(State.eccWritten_rest _ _ _).1, hw]

/-- The beats of a burst whose words are all there. -/
theorem State.burstBeats_full {v : State} {req start off left : Nat} {ws : List DWord} (hb : bankOf off < 16) (hw : ws.length = 4 * left) :
    ∃ t, t = v.burstBeats req start off left ws ∧ t.resp = some ⟨req, 0, 0⟩ ∧
      (∀ i, i < 4 * left → t.load (off + 8 * i) 8 = (ws.getD i 0#64).toNat) ∧
      (∀ a, a < off ∨ off + 32 * left ≤ a → t.byte a = v.byte a) ∧ (t.bank (bankOf off)).burst = none ∧
      t.store.wait = v.store.wait ∧ v.only [MSA_ECC_STAT] [.live, .mem, .store, .resp] t := by
  have hn : min left (ws.length / 4) = left := by omega
  have htake : ws.take (4 * left) = ws := List.take_of_length_le (by omega)
  have hwords := v.only_writeWords req off ws
  have hload (i : Nat) (hi : i < 4 * left) := v.load_writeWords req off ws (i := i) (by omega)
  have hbyte (a : Nat) (ha : a < off ∨ off + 32 * left ≤ a) := v.byte_writeWords req off ws (a := a) (by omega)
  have hwait : (v.writeWords req off ws).store.wait = v.store.wait := by
    rw [State.writeWords_eq, (State.lrWritten_rest _ _ _ _).2.2, (State.eccWritten_rest _ _ _).2.2]
  rw [State.burstBeats, hn, htake, if_pos rfl]
  generalize v.writeWords req off ws = w at hwords hload hbyte hwait ⊢
  have hcount := w.only_beats left hb
  generalize w.count (MSA_BEATS (bankOf off)) left = c at hcount ⊢
  have hmem := hcount.2 .mem (by simp)
  refine ⟨_, rfl, rfl, fun i hi => ?_, fun a ha => ?_, ?_, ?_, (((hwords.mono (by simp) (by simp)).trans (hcount.mono (by simp)
    (by simp))).setBank _ _ (by simp)).answer _ _ _ (by simp)⟩
  · exact (State.load_congr hmem _ _).trans (hload i hi)
  · exact (State.byte_congr hmem a).trans (hbyte a ha)
  · exact congrArg BankSt.burst ((State.bank_setBank _ _ _ _).trans (if_pos rfl))
  · exact (congrArg StoreSt.wait (hcount.2 .store (by simp))).trans hwait

/-- The beats of a burst whose source stops. -/
theorem State.burstBeats_part {v : State} {req start off left : Nat} {ws : List DWord} (hb : bankOf off < 16) (hw : ws.length < 4 * left) :
    ∃ t, t = v.burstBeats req start off left ws ∧ t.resp = v.resp ∧
      (∀ a, a < off ∨ off + 32 * (ws.length / 4) ≤ a → t.byte a = v.byte a) ∧
      (t.bank (bankOf off)).burst = some ⟨req, start, off + 32 * (ws.length / 4), left - ws.length / 4⟩ := by
  have hn : min left (ws.length / 4) = ws.length / 4 := by omega
  have hwords := v.only_writeWords req off (ws.take (4 * (ws.length / 4)))
  have hbyte (a : Nat) (ha : a < off ∨ off + 32 * (ws.length / 4) ≤ a) :=
    v.byte_writeWords req off (ws.take (4 * (ws.length / 4))) (a := a) (by rw [List.length_take]; omega)
  rw [State.burstBeats, hn, if_neg (by omega)]
  generalize v.writeWords req off (ws.take (4 * (ws.length / 4))) = w at hwords hbyte ⊢
  have hcount := w.only_beats (ws.length / 4) hb
  generalize w.count (MSA_BEATS (bankOf off)) (ws.length / 4) = c at hcount ⊢
  refine ⟨_, rfl, (hcount.2 .resp (by simp)).trans (hwords.2 .resp (by simp)), fun a ha => ?_, ?_⟩
  · exact (State.byte_congr (hcount.2 .mem (by simp)) a).trans (hbyte a ha)
  · exact congrArg BankSt.burst ((State.bank_setBank _ _ _ _).trans (if_pos rfl))

end

/-- Settles O6: a write stores its own bytes, a word that cannot be read keeps them, and a burst holds its bank till its end. -/
theorem storeWrites : Obligations.StoreWrites := by
  unfold Obligations.StoreWrites
  refine ⟨?_, ?_, ?_, ?_, ?_, ?_⟩
  · intro r addr d us s hin ⟨hl, hw, hlock, hd⟩ hp
    rw [State.upset_dark] at hd
    rw [← State.mayWrite_congr (State.upset_regs us)] at hp
    have ho : storeOff addr % 2 ^ 3 = 0 := by simpa [accLegal] using hl
    obtain ⟨t, rfl, hspec⟩ := State.wordWrite_spec (s := s) (r := r.val) (d := d) us (bankOf_lt hin) ho
    exact ⟨_, (exec_storeAccess (.write 3 d) us hin hd).trans (congrArg Host.Outcome.next
      ((State.access_performs hl rfl hw).trans (State.perform_writeWord (src := .cmd) hlock hp))), hspec⟩
  · intro r addr z d us s hz hin ⟨hl, hw, hlock, hd⟩ hp hmark
    rw [State.upset_dark] at hd
    rw [← State.mayWrite_congr (State.upset_regs us)] at hp
    have hexec := (exec_storeAccess (.write z d) us hin hd).trans (congrArg Host.Outcome.next
      ((State.access_performs hl rfl hw).trans (State.perform_writeNarrow (src := .cmd) hz hlock hp)))
    have hgood := State.eccRead_good ((s.upset us).grant (bankOf (storeOff addr)) r.val) (storeOff addr / 8) 1 r.val fun i hi => by
      rw [show i = 0 by omega, Nat.add_zero]
      exact State.mark_grant_upset _ _ hmark
    simp only [hgood, Bool.not_true, Bool.false_eq_true, if_false] at hexec
    obtain ⟨t, rfl, hspec⟩ := State.narrowWrite_spec (s := s) (r := r.val) (d := d) us (bankOf_lt hin) (by omega) (accLegal_write hl)
    exact ⟨_, hexec, hspec⟩
  · intro r addr z d us m s hz hin ⟨hl, hw, hlock, hd⟩ hr hp hmark hm
    rw [State.upset_dark] at hd
    rw [← State.mayWrite_congr (State.upset_regs us)] at hp
    have hexec := (exec_storeAccess (.write z d) us hin hd).trans (congrArg Host.Outcome.next
      ((State.access_performs hl rfl hw).trans (State.perform_writeNarrow (src := .cmd) hz hlock hp)))
    have hue := State.eccRead_ue ((s.upset us).grant (bankOf (storeOff addr)) r.val) (storeOff addr / 8) r.val m
      (State.mark_grant_upset _ _ hmark) hm
    simp only [hue, Bool.not_false, if_true] at hexec
    obtain ⟨t, rfl, hresp, -, -, -, -, -, -, hm', hsent, hbyte, -⟩ :=
      State.ueRead_spec (s := s) (r := r.val) 2 us (bankOf_lt hin) hr hm (wordOf_lt hin) (by omega) hmark
    exact ⟨_, hexec, hresp, hbyte, hm', hsent⟩
  · intro r addr n ws us s hin ⟨hl, hw, hlock, hd⟩ hp hlen
    rw [State.upset_dark] at hd
    rw [← State.mayWrite_congr (State.upset_regs us)] at hp
    have hgrant := s.only_granted us (bankOf (storeOff addr)) r.val
    obtain ⟨t, rfl, hresp, hload, hbyte, hburst, -, honly⟩ := State.burstBeats_full (v := s.granted us (bankOf (storeOff addr)) r.val)
      (req := r.val) (start := storeOff addr) (left := n) (bankOf_lt hin) hlen
    refine ⟨_, (exec_storeAccess (.burstWrite n ws) us hin hd).trans (congrArg Host.Outcome.next
      ((State.access_performs hl rfl hw).trans (State.perform_burstWrite (src := .cmd) hlock hp))), hresp, hload, fun a ha => ?_, hburst,
      (hgrant.mono (by simp) (by simp)).trans honly⟩
    exact (hbyte a ha).trans (State.byte_congr (hgrant.2 .mem (by simp)) a)
  · intro r addr n ws us s hin ⟨hl, hw, hlock, hd⟩ hp hlen
    rw [State.upset_dark] at hd
    rw [← State.mayWrite_congr (State.upset_regs us)] at hp
    have hgrant := s.only_granted us (bankOf (storeOff addr)) r.val
    obtain ⟨t, rfl, hresp, hbyte, hburst⟩ := State.burstBeats_part (v := s.granted us (bankOf (storeOff addr)) r.val)
      (req := r.val) (start := storeOff addr) (left := n) (bankOf_lt hin) hlen
    refine ⟨_, (exec_storeAccess (.burstWrite n ws) us hin hd).trans (congrArg Host.Outcome.next
      ((State.access_performs hl rfl hw).trans (State.perform_burstWrite (src := .cmd) hlock hp))),
      hresp.trans (hgrant.2 .resp (by simp)), fun a ha => ?_, hburst⟩
    exact (hbyte a ha).trans (State.byte_congr (hgrant.2 .mem (by simp)) a)
  · intro r addr ws us u s hin hburst hureq hnext hwait hp hz hd hlock hlen
    have hgrant := s.only_granted us (bankOf (storeOff addr)) r.val
    have hlock' : (s.upset us).lockedOut (bankOf (storeOff addr)) r.val = false := by
      rw [State.lockedOut_congr (State.upset_regs us) (State.bank_upset us _), hlock]
    have hb : bankOf u.next < 16 := by rw [hnext]; exact bankOf_lt hin
    obtain ⟨t, ht, hresp, hload, hbyte, hend, hw, honly⟩ := State.burstBeats_full
      (v := s.granted us (bankOf (storeOff addr)) r.val) (req := u.req) (start := u.start) hb hlen
    have hserve : t.serve = t := State.serve_nil t (by rw [hw, State.wait_granted, hwait])
    have haccess : (s.upset us).access r.val (storeOff addr) (.resume ws) = t := by
      have hperform : (s.upset us).perform ⟨r.val, storeOff addr, .resume ws, .cmd⟩ = t :=
        (State.perform_resume hlock' hburst hureq).trans ht.symm
      rw [State.access, if_neg (by simp [accLegal])]
      refine (if_neg (by simp [hz])).trans ?_
      rw [hperform, hserve]
    refine ⟨t, (exec_storeAccess (.resume ws) us hin hd).trans (congrArg Host.Outcome.next haccess), by rw [hresp, hureq], hload,
      fun a ha => ?_, by rw [← hnext]; exact hend⟩
    exact (hbyte a ha).trans (State.byte_congr (hgrant.2 .mem (by simp)) a)

end Sys2Proof.Machine

/-! The operations of the A extension in the main store (R41). -/
namespace Sys2Proof.Machine

set_option Elab.async false

/-! ### What an operation stores -/

/-- Every operation but CAS stores a number of its width. -/
theorem amoResult_lt {op : AmoOp} {w old a : Nat} (b : Nat) (hop : op ≠ .cas) (ho : old < 2 ^ w) (ha : a < 2 ^ w) :
    amoResult op w old a b < 2 ^ w := by
  cases op with
  | lr => exact ho
  | sc => exact ha
  | swap => exact ha
  | add => exact Nat.mod_lt _ (Nat.two_pow_pos _)
  | xor => exact Nat.xor_lt_two_pow ho ha
  | and => exact Nat.and_lt_two_pow _ ha
  | or => exact Nat.or_lt_two_pow ho ha
  | min => simp only [amoResult]; split <;> assumption
  | max => simp only [amoResult]; split <;> assumption
  | minu => simp only [amoResult]; split <;> assumption
  | maxu => simp only [amoResult]; split <;> assumption
  | cas => exact absurd rfl hop

/-- The operand of a 32-bit operation. -/
theorem toNat_operand (d : Word) : (d.zeroExtend 64).toNat % 2 ^ (8 * 2 ^ ((2 : Fin 4) : Nat)) = d.toNat := by
  have := d.isLt
  rw [BitVec.toNat_setWidth, show 8 * 2 ^ ((2 : Fin 4) : Nat) = 32 from rfl]
  omega

theorem State.load_lt (s : State) (o n : Nat) : s.load o n < 2 ^ (8 * n) := by
  have h := (State.load_poke s o n (s.load o n)).symm
  have hbytes : ∀ l : List Byte, ofLeBytes l < 2 ^ (8 * l.length) := by
    intro l
    induction l with
    | nil => simp [ofLeBytes]
    | cons b l ih =>
      have hb := b.isLt
      rw [ofLeBytes, List.length_cons, Nat.mul_add, Nat.pow_add]
      omega
  have hlen : (Tab.getList memDefault s.mem o n).length = n := by
    generalize s.mem = m
    clear h
    induction n generalizing o with
    | zero => rfl
    | succ n ih => rw [Tab.getList, List.length_cons, ih]
  have := hbytes (Tab.getList memDefault s.mem o n)
  rwa [hlen] at this

section
variable {s : State} {o r : Nat}

/-- A word stored in place: its bytes, its mark and the reservations of its granule. -/
def State.stored (s : State) (o n v r : Nat) : State := ((s.poke o n v).eccWritten (o / 8) 1).lrWritten r o n

theorem State.only_stored (n v : Nat) : s.only [] [.mem, .store] (s.stored o n v r) :=
  ((s.only_refl _ _).poke _ _ _ (by simp)).trans ((State.only_written _ _ _ _ _ _).mono (by simp) (by simp))

theorem State.load_stored (n v : Nat) : (s.stored o n v r).load o n = v % 2 ^ (8 * n) :=
  (State.load_congr ((State.only_written (s.poke o n v) _ _ _ _ _).2 .mem (by simp)) _ _).trans (State.load_poke ..)

theorem State.byte_stored {n v a : Nat} (h : a < o ∨ o + n ≤ a) : (s.stored o n v r).byte a = s.byte a :=
  (State.byte_congr ((State.only_written (s.poke o n v) _ _ _ _ _).2 .mem (by simp)) a).trans (State.byte_poke_out _ _ _ _ _ h)

theorem State.lrOf_stored {v c : Nat} (ho : o % 2 ^ 2 = 0) (hc : c < 2) (hcr : c + 1 ≠ r) :
    (s.stored o 4 v r).lrOf c = if s.lrOf c = some (o / 64) then none else s.lrOf c := by
  refine (State.lrOf_granule hc hcr rfl (by omega)).trans ?_
  rw [(State.eccWritten_rest _ _ _).1]
  rfl

/-- A reservation that is gone stays gone. -/
theorem State.lrOf_stored_none {n v c : Nat} (hc : c < 2) (h : s.lrOf c = none) : (s.stored o n v r).lrOf c = none := by
  rw [State.stored, State.lrOf_lrWritten _ _ _ _ _ hc, (State.eccWritten_rest _ _ _).1, State.lrOf_congr (t := s.poke o n v) (s := s) rfl, h]

/-! ### An operation in its bank -/

/-- The bank of an operation, granted, with its two beats counted (R41). -/
def State.beaten (s : State) (us : List Upset) (b r : Nat) : State := (s.granted us b r).count (MSA_BEATS b) 2

theorem State.only_beaten (us : List Upset) {b : Nat} (hb : b < 16) : s.only [MSA_ECC_STAT] [.live, .store] (s.beaten us b r) :=
  ((s.only_granted us b r).mono (by simp) (by simp)).trans ((State.only_beats 2 hb).mono (by simp) (by simp))

theorem State.lrOf_beaten (us : List Upset) {b : Nat} (hb : b < 16) (c : Nat) : (s.beaten us b r).lrOf c = s.lrOf c :=
  (State.lrOf_congr ((State.only_beats 2 hb).2 .store (by simp)) c).trans (s.lrOf_granted us b r c)

theorem State.cnt_beaten (us : List Upset) (b : Nat) : s.advanced (s.beaten us b r) (MSA_BEATS b) 2 := by
  refine (State.cnt_count_self ..).trans ?_
  rw [State.cnt_congr ((s.only_granted us b r).2 .live (by simp))]

theorem State.perform_amo {op : AmoOp} {z : Fin 4} {a b : DWord} {src : AccSrc} (hl : s.lockedOut (bankOf o) r = false)
    (hp : op = .lr ∨ s.mayWrite r (bankOf o) = true) :
    s.perform ⟨r, o, .amo op z a b, src⟩ = (s.grant (bankOf o) r).amoDo r o op z a b := by
  rw [State.perform]
  refine (if_neg (by simp [hl])).trans (if_neg ?_)
  obtain rfl | hp := hp
  · simp [accWrites]
  · simp [hp]

theorem State.eccRead_granted {us : List Upset} (b r : Nat) (h : (s.upset us).mark (o / 8) = none) :
    (s.granted us b r).eccRead (o / 8) 1 r = (s.granted us b r, true) :=
  State.eccRead_good _ _ _ _ fun i hi => by
    rw [show i = 0 by omega, Nat.add_zero]
    exact State.mark_grant_upset _ _ h

/-- LR of a good word. -/
theorem State.amoDo_lr {us : List Upset} {z : Fin 4} {a b : DWord} (h : (s.upset us).mark (o / 8) = none) :
    (s.granted us (bankOf o) r).amoDo r o .lr z a b =
      ((s.beaten us (bankOf o) r).setLr (r - 1) (some (o / 64))).answer r 0 ((s.beaten us (bankOf o) r).load o (2 ^ z.val)) := by
  rw [State.amoDo, State.eccRead_granted _ _ h]
  rfl

/-- A report of a fault moves no counter but that of the messages lost. -/
theorem State.cnt_faultMsg (m : FaultMsg) {c : Nat} (h : c ≠ FLT_CNT 5) : (s.faultMsg m).cnt c = s.cnt c := by
  rw [State.faultMsg]
  split
  · rfl
  · split
    · rfl
    · rw [State.bump, State.cnt_count, if_neg h]
      rfl

/-- What LR of a word that cannot be read leaves, whether or not its report has room. -/
theorem State.lrUe_spec (us : List Upset) {b w c : Nat} (m : Mark) (hb : b < 16) :
    ∃ t, t = (((((s.granted us b r).eccUe w m r).count (MSA_BEATS b) 2).setLr c none).refuse r 0x07) ∧
      t.resp = some ⟨r, 0x07, 0⟩ ∧ t.lrOf c = none ∧ (∀ a, t.byte a = s.byte a) ∧ s.advanced t MSA_ECC_UE 1 := by
  have hgrant := s.only_granted us b r
  generalize s.granted us b r = v at hgrant ⊢
  have hnoted : v.only _ _ (v.ueNoted w m r) := State.only_ueNoted
  have hcnt : v.advanced (v.ueNoted w m r) MSA_ECC_UE 1 := by
    have hlog := State.only_eccLog (s := ((v.bump MSA_ECC_UE).put MSA_ECC_STAT_UE 1)) (w := w) (m := m) (req := r)
    rw [State.advanced, State.ueNoted, State.cnt_congr (hlog.2 .live (by simp)), State.cnt_congr (State.put_live _ _ _), State.bump,
      State.cnt_count_self]
  have hmem : ((v.ueNoted w m r).fault 0x07 0x07 (v.selfAddr (storeBase + 8 * w))).mem = v.mem :=
    ((State.fault_foot _ _ _ _).parts (ps := [.regs, .live, .fltQ]) rfl .mem (by simp)).trans (hnoted.2 .mem (by simp))
  have hfault : ((v.ueNoted w m r).fault 0x07 0x07 (v.selfAddr (storeBase + 8 * w))).cnt MSA_ECC_UE = (v.ueNoted w m r).cnt MSA_ECC_UE :=
    State.cnt_faultMsg _ (by decide)
  rw [State.eccUe_eq]
  generalize (v.ueNoted w m r).fault 0x07 0x07 (v.selfAddr (storeBase + 8 * w)) = u at hmem hfault ⊢
  have hcount := u.only_beats 2 hb
  have hbeats : (u.count (MSA_BEATS b) 2).cnt MSA_ECC_UE = u.cnt MSA_ECC_UE := by
    rw [State.cnt_count, if_neg]
    simp only [MSA_ECC_UE, MSA_BEATS]
    omega
  refine ⟨_, rfl, rfl, (State.lrOf_setLr _ _ _ _).trans (if_pos rfl), fun a => ?_, ?_⟩
  · refine (State.byte_congr (hcount.2 .mem (by simp)) a).trans ((State.byte_congr hmem a).trans (State.byte_congr (hgrant.2 .mem (by simp)) a))
  · refine hbeats.trans (hfault.trans (hcnt.trans ?_))
    rw [State.cnt_congr (hgrant.2 .live (by simp))]

/-- SC of a good word. -/
theorem State.amoDo_sc {us : List Upset} {d : Word} {b : DWord} (h : (s.upset us).mark (o / 8) = none) :
    (s.granted us (bankOf o) r).amoDo r o .sc 2 (d.zeroExtend 64) b =
      if (s.beaten us (bankOf o) r).lrOf (r - 1) == some (o / 64) then
        (((s.beaten us (bankOf o) r).setLr (r - 1) none).stored o 4 d.toNat r).answer r 0 0
      else ((s.beaten us (bankOf o) r).setLr (r - 1) none).answer r 0 1 := by
  rw [State.amoDo, State.eccRead_granted _ _ h]
  simp only [toNat_operand]
  rfl

/-- Another operation of a good word. -/
theorem State.amoDo_op {us : List Upset} {op : AmoOp} {d : Word} (hlr : op ≠ .lr) (hsc : op ≠ .sc)
    (h : (s.upset us).mark (o / 8) = none) :
    (s.granted us (bankOf o) r).amoDo r o op 2 (d.zeroExtend 64) 0#64 =
      ((s.beaten us (bankOf o) r).stored o 4 (amoResult op 32 ((s.beaten us (bankOf o) r).load o 4) d.toNat 0) r).answer r 0
        ((s.beaten us (bankOf o) r).load o 4) := by
  rw [State.amoDo, State.eccRead_granted _ _ h]
  simp only [toNat_operand]
  cases op
  case lr => exact absurd rfl hlr
  case sc => exact absurd rfl hsc
  all_goals rfl

/-- LR of a word that cannot be read. -/
theorem State.amoDo_lr_ue {us : List Upset} {z : Fin 4} {a b : DWord} {m : Mark} (h : (s.upset us).mark (o / 8) = some m)
    (hm : m.uncorr = true) :
    (s.granted us (bankOf o) r).amoDo r o .lr z a b =
      ((((s.granted us (bankOf o) r).eccUe (o / 8) m r).count (MSA_BEATS (bankOf o)) 2).setLr (r - 1) none).refuse r 0x07 := by
  rw [State.amoDo, State.eccRead_ue (s.granted us (bankOf o) r) _ _ m (State.mark_grant_upset _ _ h) hm]
  rfl

end

/-! ### An operation of a core -/

section
variable {s : State} {core : Fin 2} {addr : BitVec 32}

theorem bankOf_lt_core (h : inStore addr.toNat = true) : bankOf (addr.toNat - storeBase) < 16 := by
  rw [inStore, decide_eq_true_eq] at h
  unfold bankOf
  unfold storeBase storeSize at *
  omega

/-- An operation that its bank serves at once. -/
theorem exec_atomic {op : AmoOp} {d : Word} {us : List Upset} (hop : op ≠ .cas) (hin : inStore addr.toNat = true)
    (hs : (s.upset us).serves (core.val + 1) (addr.toNat - storeBase) (.amo op 2 (d.zeroExtend 64) 0#64))
    (hp : op = .lr ∨ s.mayWrite (core.val + 1) (bankOf (addr.toNat - storeBase)) = true) :
    exec (.atomicOperation core addr op d us) s = .next ((s.granted us (bankOf (addr.toNat - storeBase)) (core.val + 1)).amoDo
      (core.val + 1) (addr.toNat - storeBase) op 2 (d.zeroExtend 64) 0#64) := by
  obtain ⟨hl, hw, hlock, hd⟩ := hs
  rw [State.upset_dark] at hd
  rw [← State.mayWrite_congr (State.upset_regs us)] at hp
  rw [show exec (.atomicOperation core addr op d us) s = execAtomicOperation core addr op d us s from rfl, execAtomicOperation,
    if_neg (by simp [hd])]
  refine congrArg Host.Outcome.next ((if_neg hop).trans ((if_pos hin).trans ?_))
  rw [State.access_performs hl rfl hw, State.perform_amo hlock hp, State.granted]

theorem aligned_of_serves {op : AmoOp} {a b : DWord} {r o : Nat} (h : s.serves r o (.amo op 2 a b)) : o % 2 ^ 2 = 0 := by
  have := h.1
  rw [accLegal, Bool.and_eq_true, beq_iff_eq] at this
  exact this.1

end

/-- Settles O8: LR, SC and the operations of a good word, LR of one that cannot be read, and operations outside the store. -/
theorem storeAtomics : Obligations.StoreAtomics := by
  unfold Obligations.StoreAtomics
  refine ⟨?_, ?_, ?_, ?_, ?_⟩
  · intro core addr d us s hin hs hmark
    have hbeat := s.only_beaten (r := core.val + 1) us (bankOf_lt_core hin)
    have hmem := hbeat.2 .mem (by simp)
    refine ⟨_, (exec_atomic (by simp) hin hs (.inl rfl)).trans (congrArg Host.Outcome.next (State.amoDo_lr hmark)), ?_, ?_,
      fun a => State.byte_congr hmem a, ((hbeat.mono (by simp) (by simp)).setLr _ _ (by simp)).answer _ _ _ (by simp)⟩
    · exact congrArg (fun v => some (⟨core.val + 1, 0, v⟩ : Resp)) (State.load_congr hmem _ _)
    · exact (State.lrOf_setLr _ _ _ _).trans (if_pos rfl)
  · intro core addr d us m s hin hs hmark hm
    obtain ⟨t, rfl, hspec⟩ := s.lrUe_spec (r := core.val + 1) (w := (addr.toNat - storeBase) / 8) (c := core.val) us m (bankOf_lt_core hin)
    exact ⟨_, (exec_atomic (by simp) hin hs (.inl rfl)).trans (congrArg Host.Outcome.next (State.amoDo_lr_ue hmark hm)), hspec⟩
  · intro core addr d us s hin hs hp hmark
    have hbeat := s.only_beaten (r := core.val + 1) us (bankOf_lt_core hin)
    have hlr := s.lrOf_beaten (r := core.val + 1) us (bankOf_lt_core hin) core.val
    have hexec := (exec_atomic (by simp) hin hs (.inr hp)).trans (congrArg Host.Outcome.next (State.amoDo_sc hmark))
    rw [show core.val + 1 - 1 = core.val by omega, hlr] at hexec
    generalize s.beaten us (bankOf (addr.toNat - storeBase)) (core.val + 1) = u at hbeat hexec
    have hset := hbeat.setLr core.val none (by simp)
    have hnone : (u.setLr core.val none).lrOf core.val = none := (State.lrOf_setLr ..).trans (if_pos rfl)
    generalize u.setLr core.val none = w at hset hnone hexec
    by_cases hres : s.lrOf core.val = some ((addr.toNat - storeBase) / 64)
    · rw [if_pos (by simp [hres])] at hexec
      have hstored := w.only_stored (r := core.val + 1) (o := addr.toNat - storeBase) 4 d.toNat
      have hload := w.load_stored (r := core.val + 1) (o := addr.toNat - storeBase) 4 d.toNat
      have hbyte (a : Nat) (ha : a < addr.toNat - storeBase ∨ addr.toNat - storeBase + 4 ≤ a) :=
        w.byte_stored (r := core.val + 1) (v := d.toNat) ha
      have hgone := State.lrOf_stored_none (o := addr.toNat - storeBase) (r := core.val + 1) (n := 4) (v := d.toNat) core.isLt hnone
      rw [Nat.mod_eq_of_lt d.isLt] at hload
      generalize w.stored (addr.toNat - storeBase) 4 d.toNat (core.val + 1) = x at hstored hload hbyte hgone hexec
      have hall : s.only [MSA_ECC_STAT] [.live, .mem, .store, .resp] x :=
        (hset.mono (by simp) (by simp)).trans (hstored.mono (by simp) (by simp))
      refine ⟨_, hexec, hgone, ?_, fun a ha => ?_, hall.answer _ _ _ (by simp)⟩
      · rw [if_pos hres]
        exact ⟨rfl, hload⟩
      · exact (hbyte a ha).trans (State.byte_congr (hset.2 .mem (by simp)) a)
    · rw [if_neg (by simp [hres])] at hexec
      refine ⟨_, hexec, hnone, ?_, fun a _ => State.byte_congr (hset.2 .mem (by simp)) a,
        (hset.mono (by simp) (by simp)).answer _ _ _ (by simp)⟩
      rw [if_neg hres]
      exact ⟨rfl, hset.2 .mem (by simp)⟩
  · intro core addr op d us s hlr hsc hcas hin hs hp hmark
    have halign := aligned_of_serves hs
    have hb := bankOf_lt_core hin
    have hexec := (exec_atomic hcas hin hs (.inr hp)).trans (congrArg Host.Outcome.next (State.amoDo_op hlr hsc hmark))
    generalize addr.toNat - storeBase = o at halign hb hexec ⊢
    have hbeat := s.only_beaten (r := core.val + 1) us hb
    have hlrOf := s.lrOf_beaten (r := core.val + 1) us hb
    have hcnt := s.cnt_beaten (r := core.val + 1) us (bankOf o)
    rw [State.load_congr (hbeat.2 .mem (by simp))] at hexec
    have hv := amoResult_lt 0 hcas (s.load_lt o 4) d.isLt
    generalize s.beaten us (bankOf o) (core.val + 1) = u at hbeat hlrOf hcnt hexec
    generalize amoResult op 32 (s.load o 4) d.toNat 0 = v at hv hexec ⊢
    have hstored := u.only_stored (r := core.val + 1) (o := o) 4 v
    have hload := u.load_stored (r := core.val + 1) (o := o) 4 v
    have hbyte (a : Nat) (ha : a < o ∨ o + 4 ≤ a) := u.byte_stored (r := core.val + 1) (v := v) ha
    have hlrw (c : Nat) (hc : c < 2) (hcc : c ≠ core.val) := u.lrOf_stored (r := core.val + 1) (v := v) halign hc (by omega)
    rw [Nat.mod_eq_of_lt hv] at hload
    generalize u.stored o 4 v (core.val + 1) = w at hstored hload hbyte hlrw hexec
    have hall : s.only [MSA_ECC_STAT] [.live, .mem, .store, .resp] w :=
      (hbeat.mono (by simp) (by simp)).trans (hstored.mono (by simp) (by simp))
    refine ⟨_, hexec, rfl, hload, fun a ha => ?_, ?_, fun c hc hcc => ?_, hall.answer _ _ _ (by simp)⟩
    · exact (hbyte a ha).trans (State.byte_congr (hbeat.2 .mem (by simp)) a)
    · exact (State.cnt_congr (hstored.2 .live (by simp)) _).trans hcnt
    · have hlr' := hlrw c hc hcc
      rw [hlrOf c] at hlr'
      exact (State.lrOf_congr (s := w) rfl c).trans hlr'
  · intro core addr op d us s hcas hin hout hd
    have hexec : exec (.atomicOperation core addr op d us) s = .next (s.refuse (core.val + 1) 0x05) := by
      rw [show exec (.atomicOperation core addr op d us) s = execAtomicOperation core addr op d us s from rfl, execAtomicOperation,
        if_neg (by simp [hd])]
      exact congrArg Host.Outcome.next ((if_neg hcas).trans ((if_neg (by simp [hin])).trans (if_pos hout)))
    exact ⟨_, hexec, rfl, (s.only_refl _ _).refuse _ _ (by simp)⟩

end Sys2Proof.Machine

/-! The DMA channels (R54, R55), and an access of this hub to its own store through the fabric. -/
namespace Sys2Proof.Machine

set_option Elab.async false

/-! ### Fabric addresses -/

theorem fabOff_fabAddr (n c : Nat) {o : Nat} (h : o < 2 ^ 38) : fabOff (fabAddr n c o) = o := by
  rw [fabOff, fabAddr]
  omega

theorem fabNode_fabAddr {n : Nat} (c o : Nat) (h : n < 256) : fabNode (fabAddr n c o) = n := by
  rw [fabNode, fabAddr]
  omega

theorem fabChip_fabAddr (n o : Nat) {c : Nat} (h : c < 4) : fabChip (fabAddr n c o) = c := by
  rw [fabChip, fabAddr]
  omega

theorem fabAddr_mod (n c : Nat) {o : Nat} (h : o < 2 ^ 38) : fabAddr n c o % 256 = o % 256 := by
  rw [fabAddr]
  omega

section
variable {s : State}

theorem State.chip_lt (s : State) : s.chip < 4 := s.get_lt ID_STRAP_STACK_ID

theorem State.node_lt (s : State) : s.node < 256 := s.get_lt RPE_NODE_NODE

/-- NODE 0xFE with the hub's own CHIP is this hub. -/
theorem State.isLocal_own (o : Nat) : s.isLocal (fabAddr 0xFE s.chip o) = true := by
  rw [State.isLocal, State.dstNode, fabNode_fabAddr _ _ (by omega), fabChip_fabAddr _ _ s.chip_lt, if_pos rfl]
  simp

/-! ### An access through the fabric that its bank serves at once -/

/-- A state with the answer of another one: what is left once the source has taken the answer of a served access. -/
def State.taken (t : State) (r : Option Resp) : State := { t with resp := r }

theorem State.mem_taken (r : Option Resp) : (s.taken r).mem = s.mem := rfl

/-- An answer taken back leaves the rest of what has changed. -/
theorem State.only.taken_back {t : State} {os : List Nat} {ps : List Part} (h : s.only os (.resp :: ps) t) :
    s.only os ps (t.taken s.resp) := by
  refine ⟨h.1, fun p hp => ?_⟩
  by_cases hr : p = .resp
  · subst hr
    rfl
  · have hsame : p.same s t := h.2 p fun hq => by
      simp only [List.mem_cons, hr, false_or] at hq
      exact hp (by simpa using hq)
    cases p
    case resp => exact absurd rfl hr
    all_goals exact hsame

/-- What a served access of the store hands to its source. -/
theorem State.storeNow_served {r o st d : Nat} {f : AccForm} {src : AccSrc} {t : State} (hl : accLegal f o = true)
    (hw : s.accWaits r o = false) (hp : s.perform ⟨r, o, f, src⟩ = t.answer r st d) :
    s.storeNow r o (some f) src = (t.taken s.resp, some (st, d)) := by
  rw [State.storeNow]
  simp only [hl, hw, hp, Bool.not_true, Bool.false_eq_true, if_false]
  rfl

/-- The bookkeeping of the store that decides whether an access waits is as it was. -/
def State.sameWaits (s t : State) : Prop :=
  t.store.wait = s.store.wait ∧ t.store.zeroing = s.store.zeroing ∧ t.get MSA_STAT_INIT_DONE = s.get MSA_STAT_INIT_DONE ∧
    ∀ b, (t.bank b).burst = (s.bank b).burst ∧ (t.bank b).ctl = (s.bank b).ctl

theorem State.sameWaits.accWaits_eq {t : State} (h : s.sameWaits t) (r o : Nat) : t.accWaits r o = s.accWaits r o := by
  obtain ⟨hwait, hzero, hinit, hbank⟩ := h
  simp only [State.accWaits, State.bankShut, State.bankZeroing, State.midBurst, State.on, hwait, hzero, hinit, (hbank _).1]

theorem State.sameWaits.lockedOut_eq {t : State} (h : s.sameWaits t) (hctl : t.rd MSA_ARBCTL = s.rd MSA_ARBCTL)
    (hcut : t.rd MSA_HOLD_FLAG = s.rd MSA_HOLD_FLAG) (b r : Nat) : t.lockedOut b r = s.lockedOut b r := by
  have hbit : t.getBit MSA_HOLD_FLAG_CUT r = s.getBit MSA_HOLD_FLAG_CUT r := State.getBit_congr hcut r
  simp only [State.lockedOut, State.bankCtl, (h.2.2.2 b).2, hctl, hbit]

theorem State.only.mayWrite_eq {t : State} {ps : List Part} (h : s.only [MSA_ECC_STAT] ps t) (r b : Nat) :
    t.mayWrite r b = s.mayWrite r b := by
  have hget (p : Nat) : t.get (MSA_WPROT_WR p) = s.get (MSA_WPROT_WR p) := h.get_eq (by
    simp only [MSA_WPROT_WR, MSA_WPROT, MSA_ECC_STAT, List.mem_singleton]
    omega)
  have hpart : t.partCounts = s.partCounts := by
    simp only [State.partCounts, h.get_eq (f := MSA_PART_FB) (by decide), h.get_eq (f := MSA_PART_CORE) (by decide),
      h.get_eq (f := MSA_PART_SQ) (by decide), h.get_eq (f := MSA_PART_TBL) (by decide), h.get_eq (f := MSA_PART_MOBJ) (by decide)]
  simp only [State.mayWrite, State.getBit, hpart, hget]

/-- What an access of a good word does before its answer: the grant, and the beats counted. -/
theorem State.sameWaits_granted (b r n : Nat) (hb : b < 16) : s.sameWaits ((s.grant b r).count (MSA_BEATS b) n) := by
  have hcount := ((s.grant b r).only_refl [MSA_ECC_STAT] [.live]).storeCount n (satField_beats hb) (by simp) (by simp)
  have hstore := hcount.2 .store (by simp)
  refine ⟨?_, ?_, ?_, fun c => ?_⟩
  · exact (congrArg StoreSt.wait hstore).trans rfl
  · exact (congrArg StoreSt.zeroing hstore).trans rfl
  · exact hcount.get_eq (by decide)
  · rw [State.bank_congr hstore]
    refine ⟨s.grant_burst b r c, ?_⟩
    rw [State.grant, State.bank_setBank]
    by_cases h : c = b
    · subst h
      rw [if_pos rfl]
      split <;> rfl
    · rw [if_neg h]

/-- The data of one 64-bit word, back and forth. -/
theorem ofLeBytes_word {v : Nat} (h : v < 2 ^ 64) : ofLeBytes (leBytes 8 v) = v := by
  rw [ofLeBytes_leBytes, Nat.mod_eq_of_lt h]

theorem numWords_one (v : Nat) : numWords 1 v = [BitVec.ofNat 64 v] := by
  simp [numWords]

theorem inStore_of_lt {o : Nat} (h : o + 8 ≤ storeSize) : inStore (storeBase + o) = true := by
  rw [inStore, decide_eq_true_eq]
  omega

theorem storeBase_add_lt {o : Nat} (h : o + 8 ≤ storeSize) : storeBase + o < 2 ^ 38 := by
  unfold storeBase storeSize at *
  omega

theorem bankOf_lt_store {o : Nat} (h : o + 8 ≤ storeSize) : bankOf o < 16 := by
  unfold bankOf
  unfold storeSize at h
  omega

/-- A request of this hub to its own store, behind no earlier one of its requester. -/
theorem State.hereWaits_store {q : FReq} (hop : q.op ≠ 6) (hin : inStore (fabOff q.addr) = true) (hhere : s.fab.here = []) :
    s.hereWaits q = false := by
  simp [State.hereWaits, hhere, hop, hin]

theorem here_of_hereAll (h : s.hereAll = []) : s.fab.here = [] := by
  rw [State.hereAll, List.append_eq_nil_iff, List.append_eq_nil_iff] at h
  simpa using h.1.1

/-- The DMA channels are the store's requester 3 (R37). -/
theorem State.storeReq_dma (ch : Fin 2) : s.storeReq (s.ownWho (2 + ch.val)) = 3 := by
  have hn : (BitVec.ofNat 8 s.node).toNat = s.node := by
    have := s.node_lt
    simp only [BitVec.toNat_ofNat]
    omega
  rw [State.storeReq, State.ownWho, if_neg (by simp [hn, s.chip_lt])]
  match ch with
  | 0 => rfl
  | 1 => rfl

/-! ### One word from this hub's store to this hub's store -/

/-- A word of the store that a channel reads. -/
def State.wordRead (s : State) (o : Nat) : State := (s.grant (bankOf o) 3).count (MSA_BEATS (bankOf o)) 1

/-- A word of the store that a channel writes. -/
def State.wordWritten (s : State) (o : Nat) (d : DWord) : State :=
  ((s.grant (bankOf o) 3).writeWords 3 o [d]).count (MSA_BEATS (bankOf o)) 1

theorem State.only_wordRead {o : Nat} (hb : bankOf o < 16) : s.only [MSA_ECC_STAT] [.live, .store] (s.wordRead o) :=
  ((s.only_refl _ _).grant _ _ (by simp)).storeCount 1 (satField_beats hb) (by simp) (by simp)

theorem State.only_wordWritten {o : Nat} (d : DWord) (hb : bankOf o < 16) :
    s.only [MSA_ECC_STAT] [.live, .mem, .store] (s.wordWritten o d) :=
  (((s.only_refl _ _).grant _ _ (by simp)).trans ((State.only_writeWords _ _ _ _).mono (by simp) (by simp))).storeCount 1
    (satField_beats hb) (by simp) (by simp)

theorem State.load_wordWritten {o : Nat} (d : DWord) (hb : bankOf o < 16) : (s.wordWritten o d).load o 8 = d.toNat := by
  have h := (s.grant (bankOf o) 3).load_writeWords 3 o [d] (i := 0) (by simp)
  rw [Nat.mul_zero, Nat.add_zero] at h
  exact (State.load_congr ((State.only_beats 1 hb).2 .mem (by simp)) _ _).trans h

theorem State.byte_wordWritten {o a : Nat} (d : DWord) (hb : bankOf o < 16) (h : a < o ∨ o + 8 ≤ a) :
    (s.wordWritten o d).byte a = s.byte a :=
  (State.byte_congr ((State.only_beats 1 hb).2 .mem (by simp)) a).trans (State.byte_writeWords _ _ _ _ (by simpa using h))

/-- A channel's read of a good word of this hub's store. -/
theorem State.getGo_dma {ch : Fin 2} {use : Use} {o A : Nat} (hin : inStore (fabOff A) = true) (hA : fabOff A = storeBase + o)
    (hal : o % 8 = 0) (hw : s.accWaits 3 o = false) (hl : s.lockedOut (bankOf o) 3 = false) (hm : s.mark (o / 8) = none) :
    s.getGo ⟨use, 2 + ch.val, 1, 3, 1, A, []⟩ =
      (((s.wordRead o).taken s.resp).ended ⟨use, 2 + ch.val, 1, 3, 1, A, []⟩ 0 [BitVec.ofNat 64 ((s.wordRead o).load o 8)]) := by
  have hgood := State.eccRead_good (s.grant (bankOf o) 3) (o / 8) 1 3 fun i hi => by
    rw [show i = 0 by omega, Nat.add_zero]
    exact hm
  have hperf := State.perform_read (z := 3) (src := .own 0 ⟨use, 2 + ch.val, 1, 3, 1, A, []⟩) hl
  simp only [hgood, if_true] at hperf
  have hserved := State.storeNow_served (f := .read 3) (by simp [accLegal, hal]) hw hperf
  have hserve : s.serve1 (s.ownWho (2 + ch.val)) false 1 3 1 (fabOff A) [] (.own 0 ⟨use, 2 + ch.val, 1, 3, 1, A, []⟩) =
      ((s.wordRead o).taken s.resp, some (0, (s.wordRead o).load o 8)) := by
    rw [State.serve1, if_neg (by decide), if_pos hin, State.storeReq_dma, hA, Nat.add_sub_cancel_left]
    exact hserved
  generalize s.wordRead o = w at hserve ⊢
  rw [State.getGo]
  simp only [hserve]
  rw [show rspWords 1 3 1 0 = 1 from rfl, numWords_one]

/-- A channel's write of a word of this hub's store. -/
theorem State.putGo_dma {ch : Fin 2} {c tag o A : Nat} {d : DWord} (hin : inStore (fabOff A) = true) (hA : fabOff A = storeBase + o)
    (hal : o % 8 = 0) (hw : s.accWaits 3 o = false) (hl : s.lockedOut (bankOf o) 3 = false) (hp : s.mayWrite 3 (bankOf o) = true) :
    s.putGo tag ⟨.dma c 0, 2 + ch.val, 2, 3, 1, A, [d]⟩ = (s.wordWritten o d).taken s.resp := by
  have hserved := State.storeNow_served (f := .write 3 d) (by simp [accLegal, hal]) hw
    (State.perform_writeWord (src := .own tag ⟨.dma c 0, 2 + ch.val, 2, 3, 1, A, [d]⟩) hl hp)
  have hserve : s.serve1 (s.ownWho (2 + ch.val)) false 2 3 1 (fabOff A) [d] (.own tag ⟨.dma c 0, 2 + ch.val, 2, 3, 1, A, [d]⟩) =
      ((s.wordWritten o d).taken s.resp, some (0, 0)) := by
    rw [State.serve1, if_neg (by decide), if_pos hin, State.storeReq_dma, hA, Nat.add_sub_cancel_left]
    exact hserved
  generalize s.wordWritten o d = w at hserve ⊢
  rw [State.putGo]
  simp only [hserve]
  rfl

/-- Eight bytes from a word of the store on, below the next beat, are one access of a word. -/
theorem State.splitAcc_word {A : Nat} (hin : inStore (fabOff A) = true) (hal : fabOff A % 8 = 0) : s.splitAcc 8 A 8 = [(3, 1, 8)] := by
  rw [State.splitAcc, if_neg (by decide)]
  simp [hin, hal, State.splitAcc]

theorem accData_word {v : Nat} (h : v < 2 ^ 64) : accData 3 1 (((leBytes 8 v).drop 0).take 8) = [BitVec.ofNat 64 v] := by
  rw [List.drop_zero, List.take_of_length_le (by rw [length_leBytes]), accData, if_neg (by decide), ofLeBytes_word h]

/-- The destinations and the number a posted write to this hub takes. -/
def State.postNoted (s : State) (r A : Nat) : State := (s.newTag r).1.accepted r A

theorem State.only_postNoted (r A : Nat) : s.only [] [.fab] (s.postNoted r A) := by
  rw [State.postNoted, State.accepted]
  split
  · exact s.only_with_fab _
  · exact (s.only_with_fab _).with_fab _ (by simp)

theorem State.here_postNoted (r A : Nat) : (s.postNoted r A).fab.here = s.fab.here := by
  have htag : (s.newTag r).1.fab.here = s.fab.here := by rw [State.newTag]
  rw [State.postNoted, State.accepted]
  split
  · exact htag
  · rw [State.setDest, htag]

/-- A write posted to this hub itself that nothing holds up. -/
theorem State.post_here {q : FReq} (hlocal : s.isLocal q.addr = true) (hw : (s.postNoted q.req q.addr).hereWaits q = false) :
    s.post q = (s.postNoted q.req q.addr).putGo (s.newTag q.req).2 q := by
  rw [State.post, if_pos hlocal]
  exact if_neg (by rw [State.postNoted] at hw; simp [hw])

/-- The bytes of a word are posted as one write. -/
theorem State.postBytes_one {use : Use} {r A v : Nat} (hv : v < 2 ^ 64) (hs : s.splitAcc 8 A 8 = [(3, 1, 8)]) :
    s.postBytes use r A (leBytes 8 v) = s.post ⟨use, r, 2, 3, 1, A, [BitVec.ofNat 64 v]⟩ := by
  rw [State.postBytes, length_leBytes, hs]
  simp only [List.foldl_cons, List.foldl_nil, accData_word hv, Nat.add_zero]

theorem State.only.same_waits {t : State} {ps : List Part} (h : s.only [] ps t) (hs : .store ∉ ps) : s.sameWaits t := by
  have hstore : t.store = s.store := h.2 .store (by simpa using hs)
  exact ⟨by rw [hstore], by rw [hstore], h.get_eq (by simp), fun b => by rw [State.bank_congr hstore]; exact ⟨rfl, rfl⟩⟩

/-- A word posted to this hub's own store by a channel. -/
theorem State.postBytes_word {ch : Fin 2} {o c v : Nat} (hv : v < 2 ^ 64) (ho : o + 8 ≤ storeSize) (hal : o % 8 = 0) (hhere : s.fab.here = [])
    (hw : s.accWaits 3 o = false) (hl : s.lockedOut (bankOf o) 3 = false) (hp : s.mayWrite 3 (bankOf o) = true) :
    s.postBytes (.dma c 0) (2 + ch.val) (fabAddr 0xFE s.chip (storeBase + o)) (leBytes 8 v) =
      ((s.postNoted (2 + ch.val) (fabAddr 0xFE s.chip (storeBase + o))).wordWritten o (BitVec.ofNat 64 v)).taken s.resp := by
  have hoff := fabOff_fabAddr 0xFE s.chip (storeBase_add_lt ho)
  have hin : inStore (fabOff (fabAddr 0xFE s.chip (storeBase + o))) = true := by rw [hoff]; exact inStore_of_lt ho
  have hal' : fabOff (fabAddr 0xFE s.chip (storeBase + o)) % 8 = 0 := by
    have hbase : storeBase % 8 = 0 := rfl
    omega
  have hlocal := s.isLocal_own (storeBase + o)
  generalize fabAddr 0xFE s.chip (storeBase + o) = A at hoff hin hal' hlocal ⊢
  have hnoted := s.only_postNoted (2 + ch.val) A
  have hsame : s.sameWaits (s.postNoted (2 + ch.val) A) := hnoted.same_waits (by simp)
  have hput := State.putGo_dma (s := s.postNoted (2 + ch.val) A) (ch := ch) (c := c) (tag := (s.newTag (2 + ch.val)).2)
    (d := BitVec.ofNat 64 v) hin hoff hal (by rw [hsame.accWaits_eq, hw])
    (by rw [hsame.lockedOut_eq (hnoted.1 _ (by simp)) (hnoted.1 _ (by simp)), hl])
    (by rw [(hnoted.mono (by simp) (by simp) : s.only [MSA_ECC_STAT] [.fab] _).mayWrite_eq, hp])
  have hnhere := (s.here_postNoted (2 + ch.val) A).trans hhere
  have hgo := State.hereWaits_store (s := s.postNoted (2 + ch.val) A) (q := ⟨.dma c 0, 2 + ch.val, 2, 3, 1, A, [BitVec.ofNat 64 v]⟩)
    (show 2 ≠ 6 by decide) hin hnhere
  rw [State.postBytes_one hv (State.splitAcc_word hin hal')]
  refine (State.post_here (q := ⟨.dma c 0, 2 + ch.val, 2, 3, 1, A, [BitVec.ofNat 64 v]⟩) hlocal hgo).trans (hput.trans ?_)
  rw [show (s.postNoted (2 + ch.val) A).resp = s.resp from hnoted.2 .resp (by simp)]

/-- A channel's read that has ended well writes what it read. -/
theorem State.ended_dma {c dst r A v : Nat} (hv : v < 2 ^ 64) :
    s.ended ⟨.dma c dst, r, 1, 3, 1, A, []⟩ 0 [BitVec.ofNat 64 v] = s.postBytes (.dma c 0) (2 + c) dst (leBytes 8 v) := by
  have hdata : dataNum [BitVec.ofNat 64 v] = v := by
    rw [dataNum, dataNum, BitVec.toNat_ofNat, Nat.mod_eq_of_lt hv, Nat.mul_zero, Nat.add_zero]
  rw [State.ended]
  simp only [if_true, hdata]
  rfl

/-- A channel's request for a word of this hub's own store is performed. -/
theorem State.issueReq_own {use : Use} {r A : Nat} (hnode : fabNode A ≠ 0xFF) (hlocal : s.isLocal A = true)
    (hw : s.hereWaits ⟨use, r, 1, 3, 1, A, []⟩ = false) : s.issueReq ⟨use, r, 1, 3, 1, A, []⟩ = s.getGo ⟨use, r, 1, 3, 1, A, []⟩ := by
  rw [State.issueReq]
  exact (if_neg (show ¬ 1 = 2 by decide)).trans ((if_neg hnode).trans ((if_pos hlocal).trans (if_neg (by simp [hw]))))

/-- A word copied by a channel from one place of this hub's store to another. -/
theorem State.copyWord_spec {ch : Fin 2} {a b : Nat} (ha : a + 8 ≤ storeSize) (hb : b + 8 ≤ storeSize) (hala : a % 8 = 0) (halb : b % 8 = 0)
    (hhere : s.fab.here = []) (hwa : s.accWaits 3 a = false) (hwb : s.accWaits 3 b = false) (hm : s.mark (a / 8) = none)
    (hla : s.lockedOut (bankOf a) 3 = false) (hlb : s.lockedOut (bankOf b) 3 = false) (hp : s.mayWrite 3 (bankOf b) = true) :
    ∃ t, t = s.issueReq ⟨.dma ch.val (fabAddr 0xFE s.chip (storeBase + b)), 2 + ch.val, 1, 3, 1, fabAddr 0xFE s.chip (storeBase + a), []⟩ ∧
      t.load b 8 = s.load a 8 ∧ (∀ x, x < b ∨ b + 8 ≤ x → t.byte x = s.byte x) ∧
      s.only [MSA_ECC_STAT] [.live, .mem, .store, .fab] t := by
  have hoff := fabOff_fabAddr 0xFE s.chip (storeBase_add_lt ha)
  have hin : inStore (fabOff (fabAddr 0xFE s.chip (storeBase + a))) = true := by rw [hoff]; exact inStore_of_lt ha
  have hlocal := s.isLocal_own (storeBase + a)
  have hnode : fabNode (fabAddr 0xFE s.chip (storeBase + a)) ≠ 0xFF := by
    rw [fabNode_fabAddr _ _ (by decide)]
    decide
  generalize fabAddr 0xFE s.chip (storeBase + a) = A at hoff hin hlocal hnode ⊢
  have hgo := State.hereWaits_store (s := s) (q := ⟨.dma ch.val (fabAddr 0xFE s.chip (storeBase + b)), 2 + ch.val, 1, 3, 1, A, []⟩)
    (show 1 ≠ 6 by decide) hin hhere
  have hv : (s.wordRead a).load a 8 < 2 ^ 64 := by simpa using (s.wordRead a).load_lt a 8
  rw [State.issueReq_own hnode hlocal hgo, State.getGo_dma hin hoff hala hwa hla hm, State.ended_dma hv]
  have hsame := s.sameWaits_granted (bankOf a) 3 1 (bankOf_lt_store ha)
  have hread := s.only_wordRead (bankOf_lt_store ha)
  rw [State.load_congr (hread.2 .mem (by simp))] at hv ⊢
  rw [show (s.grant (bankOf a) 3).count (MSA_BEATS (bankOf a)) 1 = s.wordRead a from rfl] at hsame
  have hchip : (s.wordRead a).chip = s.chip := hread.get_eq (by decide)
  generalize s.wordRead a = u at hsame hread hchip ⊢
  have hu : s.only [MSA_ECC_STAT] [.live, .store] (u.taken s.resp) := (hread.mono (by simp) (by simp)).taken_back
  have hsame' : s.sameWaits (u.taken s.resp) := hsame
  have hchip' : (u.taken s.resp).chip = s.chip := hchip
  generalize (u.taken s.resp) = w at hu hsame' hchip' ⊢
  have hpost := State.postBytes_word (s := w) (ch := ch) (c := ch.val) hv hb halb ((congrArg FabSt.here (hu.2 .fab (by simp))).trans hhere)
    (by rw [hsame'.accWaits_eq, hwb]) (by rw [hsame'.lockedOut_eq (hu.1 _ (by decide)) (hu.1 _ (by decide)), hlb]) (by rw [hu.mayWrite_eq, hp])
  rw [hchip'] at hpost
  rw [hpost]
  have hnoted := w.only_postNoted (2 + ch.val) (fabAddr 0xFE s.chip (storeBase + b))
  generalize w.postNoted (2 + ch.val) (fabAddr 0xFE s.chip (storeBase + b)) = v at hnoted ⊢
  have hv' : s.only [MSA_ECC_STAT] [.live, .store, .fab] v := (hu.mono (by simp) (by simp)).trans (hnoted.mono (by simp) (by simp))
  have hwritten := v.only_wordWritten (BitVec.ofNat 64 (s.load a 8)) (bankOf_lt_store hb)
  have hload := v.load_wordWritten (BitVec.ofNat 64 (s.load a 8)) (bankOf_lt_store hb)
  have hbyte (x : Nat) (hx : x < b ∨ b + 8 ≤ x) := v.byte_wordWritten (BitVec.ofNat 64 (s.load a 8)) (bankOf_lt_store hb) hx
  rw [BitVec.toNat_ofNat, Nat.mod_eq_of_lt hv] at hload
  rw [show w.resp = s.resp from hu.2 .resp (by simp)]
  generalize v.wordWritten b (BitVec.ofNat 64 (s.load a 8)) = x at hwritten hload hbyte ⊢
  have hall : s.only [MSA_ECC_STAT] [.live, .mem, .store, .fab] (x.taken s.resp) :=
    ((hv'.mono (by simp) (by simp)).trans (hwritten.mono (by simp) (by simp))).taken_back
  exact ⟨_, rfl, (State.load_congr (x.mem_taken _) _ _).trans hload, fun y hy => (State.byte_congr (x.mem_taken _) y).trans
    ((hbyte y hy).trans (State.byte_congr (hv'.2 .mem (by simp)) y)), hall⟩

/-! ### A channel -/

theorem State.dmaCh_modDma (ch : Nat) (f : DmaSt → DmaSt) : (s.modDma ch f).dmaCh ch = f (s.dmaCh ch) := Tab.get_set_same ..

theorem State.only_modDma (ch : Nat) (f : DmaSt → DmaSt) : s.only [] [.dma] (s.modDma ch f) := s.only_with_dma _

theorem State.dmaCh_congr {t : State} (h : t.dma = s.dma) (ch : Nat) : t.dmaCh ch = s.dmaCh ch := by rw [State.dmaCh, h, State.dmaCh]

/-- What a channel has still to copy keeps it from its fence. -/
theorem State.dmaCheck_going {ch : Nat} (ha : (s.dmaCh ch).abort = false) (hp : (s.dmaCh ch).pos < s.dmaLen ch) : s.dmaCheck ch = s := by
  rw [State.dmaCheck]
  exact if_neg (by simp [ha, hp])

/-- A channel whose next eight bytes end the first 256 of its source. -/
theorem State.dmaBurst_word {ch A B : Nat} (hmay : s.dmaMay ch = true) (hA : s.dmaSrc ch + (s.dmaCh ch).pos = A)
    (hB : s.dmaDst ch + (s.dmaCh ch).pos = B) (hlen : (s.dmaCh ch).pos + 8 < s.dmaLen ch) (hmA : A % 256 = 248) (hmB : B % 8 = 0)
    (hsplit : s.splitAcc 8 A 8 = [(3, 1, 8)]) :
    s.dmaBurst ch = ((s.modDma ch fun d => { d with pos := (s.dmaCh ch).pos + 8 }).issueReq ⟨.dma ch B, 2 + ch, 1, 3, 1, A, []⟩).dmaCheck ch := by
  have hn : min (s.dmaLen ch - (s.dmaCh ch).pos) (min (256 - A % 256) (256 - B % 256)) = 8 := by omega
  rw [State.dmaBurst, if_neg (by simp [hmay])]
  simp only [hA, hB, hn, hsplit, List.foldl_cons, List.foldl_nil, Nat.add_zero]

theorem State.dmaLen_congr {t : State} {ch : Nat} (h : t.get (MSA_DMA_LEN_BYTES ch) = s.get (MSA_DMA_LEN_BYTES ch)) :
    t.dmaLen ch = s.dmaLen ch := by
  rw [State.dmaLen, h, State.dmaLen]

theorem State.dmaMay_own {ch : Nat} {o : Nat} (hb : s.on (MSA_DMA_STAT_BUSY ch) = true) (hf : (s.dmaCh ch).fence = false)
    (ha : (s.dmaCh ch).abort = false) (hA : s.dmaSrc ch + (s.dmaCh ch).pos = fabAddr 0xFE s.chip o)
    (hp : (s.dmaCh ch).pos < s.dmaLen ch) (hh : s.hereAll = []) : s.dmaMay ch = true := by
  rw [State.dmaMay, hA]
  simp [hb, hf, ha, hp, s.isLocal_own o, State.dmaHere, hh]

/-- A burst of one word within this hub's store. -/
theorem State.dmaBurst_spec {ch : Fin 2} {a b : Nat} (hbusy : s.on (MSA_DMA_STAT_BUSY ch.val) = true) (hf : (s.dmaCh ch.val).fence = false)
    (hab : (s.dmaCh ch.val).abort = false) (hA : s.dmaSrc ch.val + (s.dmaCh ch.val).pos = fabAddr 0xFE s.chip (storeBase + a))
    (hB : s.dmaDst ch.val + (s.dmaCh ch.val).pos = fabAddr 0xFE s.chip (storeBase + b)) (hlen : (s.dmaCh ch.val).pos + 8 < s.dmaLen ch.val)
    (hma : a % 256 = 248) (hmb : b % 8 = 0) (ha : a + 8 ≤ storeSize) (hb : b + 8 ≤ storeSize) (hh : s.hereAll = [])
    (hwa : s.accWaits 3 a = false) (hwb : s.accWaits 3 b = false) (hm : s.mark (a / 8) = none) (hla : s.lockedOut (bankOf a) 3 = false)
    (hlb : s.lockedOut (bankOf b) 3 = false) (hp : s.mayWrite 3 (bankOf b) = true) :
    ∃ t, t = s.dmaBurst ch.val ∧ t.load b 8 = s.load a 8 ∧ (∀ x, x < b ∨ b + 8 ≤ x → t.byte x = s.byte x) ∧
      t.dmaCh ch.val = { s.dmaCh ch.val with pos := (s.dmaCh ch.val).pos + 8 } ∧
      s.only [MSA_ECC_STAT] [.live, .mem, .store, .fab, .dma] t := by
  have hbase : storeBase % 256 = 0 := rfl
  have hmod (x : Nat) (hx : x + 8 ≤ storeSize) : fabAddr 0xFE s.chip (storeBase + x) % 256 = x % 256 := by
    rw [fabAddr_mod _ _ (storeBase_add_lt hx)]
    omega
  have hoff := fabOff_fabAddr 0xFE s.chip (storeBase_add_lt ha)
  have hin : inStore (fabOff (fabAddr 0xFE s.chip (storeBase + a))) = true := by rw [hoff]; exact inStore_of_lt ha
  have hal : fabOff (fabAddr 0xFE s.chip (storeBase + a)) % 8 = 0 := by omega
  have hma' := hmod a ha
  have hmb' := hmod b hb
  rw [State.dmaBurst_word (s.dmaMay_own hbusy hf hab hA (by omega) hh) hA hB hlen (by omega) (by omega) (State.splitAcc_word hin hal)]
  have hpos := s.only_modDma ch.val fun d => { d with pos := (s.dmaCh ch.val).pos + 8 }
  have hch := s.dmaCh_modDma ch.val fun d => { d with pos := (s.dmaCh ch.val).pos + 8 }
  generalize s.modDma ch.val (fun d => { d with pos := (s.dmaCh ch.val).pos + 8 }) = u at hpos hch ⊢
  have hsame : s.sameWaits u := hpos.same_waits (by simp)
  obtain ⟨t, ht, hload, hbyte, honly⟩ := State.copyWord_spec (s := u) (ch := ch) ha hb (by omega) hmb
    ((congrArg FabSt.here (hpos.2 .fab (by simp))).trans (here_of_hereAll hh)) (by rw [hsame.accWaits_eq, hwa]) (by rw [hsame.accWaits_eq, hwb])
    (by rw [State.mark_congr (hpos.2 .store (by simp)), hm]) (by rw [hsame.lockedOut_eq (hpos.1 _ (by simp)) (hpos.1 _ (by simp)), hla])
    (by rw [hsame.lockedOut_eq (hpos.1 _ (by simp)) (hpos.1 _ (by simp)), hlb])
    (by rw [(hpos.mono (os' := [MSA_ECC_STAT]) (ps' := [.dma]) (by simp) (by simp)).mayWrite_eq, hp])
  rw [show u.chip = s.chip from hpos.get_eq (by simp)] at ht
  rw [← ht]
  have hall : s.only [MSA_ECC_STAT] [.live, .mem, .store, .fab, .dma] t :=
    (hpos.mono (by simp) (by simp)).trans (honly.mono (by simp) (by simp))
  have hch' : t.dmaCh ch.val = { s.dmaCh ch.val with pos := (s.dmaCh ch.val).pos + 8 } :=
    (State.dmaCh_congr (honly.2 .dma (by simp)) _).trans hch
  have hlen' : t.dmaLen ch.val = s.dmaLen ch.val := State.dmaLen_congr (hall.get_eq (by
    simp only [MSA_DMA_LEN_BYTES, MSA_DMA_LEN, MSA_ECC_STAT, List.mem_singleton]
    omega))
  rw [State.dmaCheck_going (by rw [hch']; exact hab) (by rw [hch', hlen']; exact hlen)]
  refine ⟨t, rfl, ?_, fun x hx => ?_, hch', hall⟩
  · rw [hload, State.load_congr (hpos.2 .mem (by simp))]
  · rw [hbyte x hx, State.byte_congr (hpos.2 .mem (by simp))]

end

/-! ### The end of a copy -/

section
variable {s : State}

/-- The kind of error a copy ends with (R54, R55). -/
def State.dmaKind (s : State) (ch : Nat) : Nat :=
  if (s.dmaCh ch).abort then 5 else if (s.dmaCh ch).err ≠ 0 then (s.dmaCh ch).err
  else if s.get (HBR_FENCE_STAT_NFAIL (2 + ch)) ≠ 0 then 2 else 0

theorem State.dmaEnd_eq {ch : Nat} (hb : s.on (HBR_FENCE_STAT_BUSY (2 + ch)) = false) :
    s.dmaEnd ch = ((((s.modDma ch fun _ => DmaSt.init).put (MSA_DMA_STAT_BUSY ch) 0).put (MSA_DMA_STAT_DONE ch) 1).when
      (s.dmaKind ch != 0) fun s => s.put (MSA_DMA_STAT_ERR ch) 1).put (MSA_DMA_STAT_ERR_KIND ch) (s.dmaKind ch) := by
  rw [State.dmaEnd, if_neg (by simp [hb])]
  rfl

/-- What the end of a copy leaves. -/
theorem State.dmaEnd_spec {ch : Nat} (hb : s.on (HBR_FENCE_STAT_BUSY (2 + ch)) = false) :
    (s.dmaEnd ch).get (MSA_DMA_STAT_BUSY ch) = 0 ∧ (s.dmaEnd ch).get (MSA_DMA_STAT_DONE ch) = 1 ∧
      (s.dmaKind ch < 8 → (s.dmaEnd ch).get (MSA_DMA_STAT_ERR_KIND ch) = s.dmaKind ch) ∧
      (s.dmaEnd ch).get (MSA_DMA_STAT_ERR ch) = (if s.dmaKind ch = 0 then s.get (MSA_DMA_STAT_ERR ch) else 1) ∧
      (s.dmaEnd ch).dmaCh ch = DmaSt.init ∧ s.only [MSA_DMA_STAT ch] [.dma] (s.dmaEnd ch) := by
  have hmod := s.only_modDma ch fun _ => DmaSt.init
  have hch : (s.modDma ch fun _ => DmaSt.init).dmaCh ch = DmaSt.init := State.dmaCh_modDma ..
  rw [State.dmaEnd_eq hb]
  generalize (s.modDma ch fun _ => DmaSt.init) = u at hmod hch ⊢
  have hset (t : State) : (t.when (s.dmaKind ch != 0) fun s => s.put (MSA_DMA_STAT_ERR ch) 1) =
      if s.dmaKind ch = 0 then t else t.put (MSA_DMA_STAT_ERR ch) 1 := by
    by_cases h : s.dmaKind ch = 0 <;> simp [State.when, h]
  rw [hset]
  refine ⟨?_, ?_, fun hk => ?_, ?_, ?_, ?_⟩
  · rw [State.get_put_apart _ _ rfl]
    split
    · rw [State.get_put_apart _ _ rfl, State.get_put_val _ _ _ rfl]
    · rw [State.get_put_apart _ _ rfl, State.get_put_apart _ _ rfl, State.get_put_val _ _ _ rfl]
  · rw [State.get_put_apart _ _ rfl]
    split
    · rw [State.get_put_val _ _ _ rfl]
    · rw [State.get_put_apart _ _ rfl, State.get_put_val _ _ _ rfl]
  · exact State.get_put_self _ rfl (by rw [show (MSA_DMA_STAT_ERR_KIND ch).w = 8 from rfl]; omega)
  · rw [State.get_put_apart _ _ rfl]
    split
    · rw [State.get_put_apart _ _ rfl, State.get_put_apart _ _ rfl, hmod.get_eq (by simp)]
    · rw [State.get_put_val _ _ _ rfl]
  · refine (State.dmaCh_congr ?_ ch).trans hch
    rw [State.put_dma]
    split
    · rw [State.put_dma, State.put_dma]
    · rw [State.put_dma, State.put_dma, State.put_dma]
  · have hall : s.only [MSA_DMA_STAT ch] [.dma] ((u.put (MSA_DMA_STAT_BUSY ch) 0).put (MSA_DMA_STAT_DONE ch) 1) :=
      ((hmod.mono (os' := [MSA_DMA_STAT ch]) (ps' := [.dma]) (by simp) (by simp)).put _ (List.mem_singleton.2 rfl)).put _
        (List.mem_singleton.2 rfl)
    split
    · exact hall.put _ (List.mem_singleton.2 rfl)
    · exact (hall.put _ (List.mem_singleton.2 rfl)).put _ (List.mem_singleton.2 rfl)

end

theorem blkOf_dmaCtrl (ch : Fin 2) : blkOf (MSA_DMA_CTRL ch.val) = 0x07 := by
  match ch with
  | 0 => rfl
  | 1 => rfl

theorem State.open_parts {s : State} {u : Nat} (h : s.open_ u = true) : s.inReset u = false ∧ s.idling u = false := by
  simpa [State.open_] using h

/-- Settles O57: a start, an abort, a word copied, and the end with its kind of error. -/
theorem dmaCopies : Obligations.DmaCopies := by
  unfold Obligations.DmaCopies
  refine ⟨?_, ?_, ?_, ?_, ?_⟩
  · intro ch s hopen hbusy
    obtain ⟨hr, -⟩ := State.open_parts hopen
    have hstart : s.dmaStart ch.val = (s.modDma ch.val fun _ => DmaSt.init).put (MSA_DMA_STAT_BUSY ch.val) 1 := by
      rw [State.dmaStart, if_neg (by simp [hbusy])]
      rfl
    refine ⟨(s.modDma ch.val fun _ => DmaSt.init).put (MSA_DMA_STAT_BUSY ch.val) 1,
      congrArg Host.Outcome.next ((s.cmd_run (MSA_DMA_CTRL ch.val) _ (State.dark_of_runs (by decide) hr) ?_).trans hstart),
      State.get_put_val _ _ _ rfl, (State.dmaCh_congr (State.put_dma _ _ _) _).trans (State.dmaCh_modDma _ _), ?_⟩
    · rw [blkOf_dmaCtrl, hr]
    · exact (((s.only_modDma ch.val fun _ => DmaSt.init).mono (os' := [MSA_DMA_STAT ch.val]) (ps' := [.dma]) (by simp) (by simp)).put _
        (List.mem_singleton.2 rfl))
  · intro ch s hopen hbusy
    obtain ⟨hr, -⟩ := State.open_parts hopen
    refine ⟨s, congrArg Host.Outcome.next ((s.cmd_run (MSA_DMA_CTRL ch.val) _ (State.dark_of_runs (by decide) hr) ?_).trans ?_),
      s.only_refl _ _⟩
    · rw [blkOf_dmaCtrl, hr]
    · rw [State.dmaStart, if_pos hbusy]
  · intro ch s hr hbusy
    refine ⟨s.modDma ch.val fun d => { d with abort := true },
      congrArg Host.Outcome.next ((s.cmd_run (MSA_DMA_CTRL ch.val) _ (State.dark_of_runs (by decide) hr) ?_).trans ?_),
      State.dmaCh_modDma _ _, s.only_modDma _ _⟩
    · rw [blkOf_dmaCtrl, hr]
    · rw [State.dmaAbort, if_pos hbusy]
      rfl
  · intro ch a b s hd hbusy hf hab herr hA hB hlen hma hmb ha hb hh hwa hwb hm hla hlb hp
    obtain ⟨t, rfl, hload, hbyte, hch, honly⟩ := State.dmaBurst_spec hbusy hf hab hA hB hlen hma hmb ha hb hh hwa hwb hm hla hlb hp
    refine ⟨_, ?_, hload, hbyte, hch, honly.2 .fwd (by simp), honly⟩
    rw [show exec (.dmaBurst ch) s = execDmaBurst ch s from rfl, execDmaBurst, if_neg (by simp [hd])]
  · intro ch s hd hbusy hf hfb
    have hexec : exec (.dmaDone ch) s = .next (s.dmaEnd ch.val) := by
      rw [show exec (.dmaDone ch) s = execDmaDone ch s from rfl, execDmaDone, if_neg (by simp [hd])]
      exact congrArg Host.Outcome.next (if_pos (by simp [hbusy, hf, hfb]))
    obtain ⟨h0, h1, hkind, herr, hch, honly⟩ := State.dmaEnd_spec (ch := ch.val) hfb
    refine ⟨_, hexec, h0, h1, fun h => ?_, fun ha he hlt => ?_, fun ha he hn => ?_, fun ha he hn => ?_, hch, honly⟩
    · have hk : s.dmaKind ch.val = 5 := by simp [State.dmaKind, h]
      exact ⟨by rw [hkind (by omega), hk], by rw [herr, hk, if_neg (by decide)]⟩
    · have hk : s.dmaKind ch.val = (s.dmaCh ch.val).err := by simp [State.dmaKind, ha, he]
      exact ⟨by rw [hkind (by omega), hk], by rw [herr, hk, if_neg he]⟩
    · have hk : s.dmaKind ch.val = 2 := by simp [State.dmaKind, ha, he, hn]
      exact ⟨by rw [hkind (by omega), hk], by rw [herr, hk, if_neg (by decide)]⟩
    · have hk : s.dmaKind ch.val = 0 := by simp [State.dmaKind, ha, he, hn]
      exact ⟨by rw [hkind (by omega), hk], by rw [herr, hk, if_pos rfl]⟩

end Sys2Proof.Machine

/-! The fault collector's messages, rules and records (R441 to R450). -/
namespace Sys2Proof.Machine

set_option Elab.async false

section
variable {s : State}

/-! ### The first of a range -/

theorem find_range_none {n : Nat} {p : Nat → Bool} (h : ∀ i, i < n → p i = false) : (List.range n).find? p = none := by
  rw [List.find?_eq_none]
  intro i hi
  simp [h i (List.mem_range.1 hi)]

theorem find_range_some {n k : Nat} {p : Nat → Bool} (hk : k < n) (hp : p k = true) (hlt : ∀ i, i < k → p i = false) :
    (List.range n).find? p = some k := by
  rw [List.find?_range_eq_some]
  exact ⟨hp, List.mem_range.2 hk, fun j hj => by simp [hlt j hj]⟩

/-! ### A message taken from the queue -/

/-- A message leaves the queue and is counted. -/
def State.msgCounted (s : State) (m : FaultMsg) (r : List FaultMsg) : State :=
  (({ s with fltQ := r } : State).bump (FLT_CNT 0)).when m.inj fun s => s.bump (FLT_CNT 6)

theorem State.only_fltCnt (s : State) {i : Nat} (hi : i < 8) : s.only [FLT_STAT] [.live] (s.bump (FLT_CNT i)) :=
  s.only_count _ 1 (by simp) fun f hf => by
    have hsat : satField (FLT_CNT i) = some FLT_STAT_SAT :=
      (show ∀ i : Fin 8, satField (FLT_CNT i.val) = some FLT_STAT_SAT by decide) ⟨i, hi⟩
    rw [hsat, Option.some.injEq] at hf
    subst hf
    exact ⟨by decide, fun h => absurd h (by decide)⟩

theorem satField_fltCnt {i : Nat} (hi : i < 8) : satField (FLT_CNT i) = some FLT_STAT_SAT :=
  (show ∀ i : Fin 8, satField (FLT_CNT i.val) = some FLT_STAT_SAT by decide) ⟨i, hi⟩

theorem State.get_fltCnt (s : State) {i : Nat} (hi : i < 8) {f : Fld} (h : f.apart FLT_STAT_SAT = true) :
    (s.bump (FLT_CNT i)).get f = s.get f := s.get_count 1 (satField_fltCnt hi) (by decide) h

theorem State.cnt_fltCnt_ne (s : State) {i j : Nat} (h : j ≠ i) : (s.bump (FLT_CNT i)).cnt (FLT_CNT j) = s.cnt (FLT_CNT j) := by
  rw [State.bump, State.cnt_count, if_neg]
  simp only [FLT_CNT]
  omega

variable (m : FaultMsg) (r : List FaultMsg)

theorem State.only_msgCounted : s.only [FLT_STAT] [.live, .fltQ] (s.msgCounted m r) := by
  have h0 : s.only [FLT_STAT] [.live, .fltQ] (({ s with fltQ := r } : State).bump (FLT_CNT 0)) :=
    ((s.only_with_fltQ r).mono (by simp) (by simp)).trans ((State.only_fltCnt _ (by decide)).mono (by simp) (by simp))
  exact h0.when ((State.only_fltCnt _ (by decide)).mono (by simp) (by simp))

theorem State.fltQ_msgCounted : (s.msgCounted m r).fltQ = r := by
  have h0 : (({ s with fltQ := r } : State).bump (FLT_CNT 0)).fltQ = r := (State.only_fltCnt _ (i := 0) (by decide)).2 .fltQ (by simp)
  rw [State.msgCounted, State.when]
  split
  · exact ((State.only_fltCnt _ (i := 6) (by decide)).2 .fltQ (by simp)).trans h0
  · exact h0

theorem State.cnt_msgCounted (j : Nat) : (s.msgCounted m r).cnt (FLT_CNT j) =
    if j = 0 ∨ (j = 6 ∧ m.inj = true) then min (s.cnt (FLT_CNT j) + 1) (2 ^ 48 - 1) else s.cnt (FLT_CNT j) := by
  have h0 (j : Nat) : (({ s with fltQ := r } : State).bump (FLT_CNT 0)).cnt (FLT_CNT j) =
      if j = 0 then min (s.cnt (FLT_CNT j) + 1) (2 ^ 48 - 1) else s.cnt (FLT_CNT j) := by
    by_cases hj : j = 0
    · rw [if_pos hj, hj]
      exact State.cnt_count_self ..
    · rw [if_neg hj]
      exact State.cnt_fltCnt_ne _ hj
  rw [State.msgCounted, State.when]
  cases m.inj with
  | false => rw [if_neg (by decide), h0]; simp
  | true =>
    rw [if_pos rfl]
    by_cases hj : j = 6
    · subst hj
      refine (State.cnt_count_self ..).trans ?_
      rw [h0]
      simp
    · rw [State.cnt_fltCnt_ne _ hj, h0]
      simp [hj]

/-! ### The rule that acts -/

theorem State.ruleHits_congr {t : State} (h : ∀ k, t.rd (FLT_RULE_M k) = s.rd (FLT_RULE_M k)) (k : Nat) :
    t.ruleHits m k = s.ruleHits m k := by
  have hget (f : Nat → Fld) (hf : (f k).off = FLT_RULE_M k) : t.get (f k) = s.get (f k) := State.get_congr (by rw [hf]; exact h k)
  simp only [State.ruleHits, State.on, hget FLT_RULE_M_VALID rfl, hget FLT_RULE_M_SRC rfl, hget FLT_RULE_M_KIND rfl,
    hget FLT_RULE_M_SEV_MIN rfl]

theorem FLT_RULE_ne_STAT (k : Nat) : FLT_RULE_M k ≠ FLT_STAT ∧ FLT_RULE_A k ≠ FLT_STAT := by
  simp only [FLT_RULE_M, FLT_RULE_A, FLT_STAT]
  omega

theorem State.ruleHits_msgCounted (m' : FaultMsg) (k : Nat) : (s.msgCounted m r).ruleHits m' k = s.ruleHits m' k :=
  State.ruleHits_congr _ (fun k => (s.only_msgCounted m r).1 _ (by simpa using (FLT_RULE_ne_STAT k).1)) k

/-- A message that no rule meets is recorded without an action. -/
theorem State.faultTake_none (h : ∀ k, k < 64 → s.ruleHits m k = false) :
    ({ s with fltQ := r } : State).faultTake m = ((s.msgCounted m r).recLog m none false).1 := by
  have hrule : (s.msgCounted m r).ruleOf m = none := find_range_none fun k hk => by rw [State.ruleHits_msgCounted, h k hk]
  rw [State.faultTake]
  simp only [show ((({ s with fltQ := r } : State).bump (FLT_CNT 0)).when m.inj fun s => s.bump (FLT_CNT 6)) = s.msgCounted m r from rfl, hrule]

/-- A message that a rule meets. -/
theorem State.faultTake_rule {k : Nat} (hk : k < 64) (hh : s.ruleHits m k = true) (hl : ∀ j, j < k → s.ruleHits m j = false) :
    ({ s with fltQ := r } : State).faultTake m =
      if (s.msgCounted m r).on (FLT_RULE_A_LOG k) then
        ((s.msgCounted m r).recLog m (some k) ((s.msgCounted m r).on (FLT_RULE_A_FAULTN k))).1.ruleAct k
          ((s.msgCounted m r).recLog m (some k) ((s.msgCounted m r).on (FLT_RULE_A_FAULTN k))).2
      else (((s.msgCounted m r).bump (FLT_CNT 3)).when ((s.msgCounted m r).on (FLT_RULE_A_FAULTN k)) fun s =>
        s.put FLT_STAT_FN_ORPHAN 1).ruleAct k true := by
  have hrule : (s.msgCounted m r).ruleOf m = some k := find_range_some hk (by rw [State.ruleHits_msgCounted, hh]) fun j hj => by
    rw [State.ruleHits_msgCounted, hl j hj]
  rw [State.faultTake]
  simp only [show ((({ s with fltQ := r } : State).bump (FLT_CNT 0)).when m.inj fun s => s.bump (FLT_CNT 6)) = s.msgCounted m r from rfl, hrule]

theorem exec_faultProcess (hopen : s.open_ 0x05 = true) (hq : s.fltQ = m :: r) :
    exec .faultProcess s = .next (({ s with fltQ := r } : State).faultTake m) := by
  rw [show exec .faultProcess s = execFaultProcess s from rfl, execFaultProcess, State.when, if_pos hopen]
  simp only [hq]

/-! ### A record is opened -/

/-- The registers of record `n`. -/
def recOffs (n : Nat) : List Nat :=
  [FLT_REC_W0 n, FLT_REC_ADDR_LO n, FLT_REC_ADDR_HI n, FLT_REC_MCOUNT n, FLT_REC_T0 n, FLT_REC_T0 n + 4, FLT_REC_T1 n, FLT_REC_T1 n + 4]

variable (n : Nat) (rule : Option Nat) (fn : Bool)

/-- Word 0 of a new record (R447). -/
def recW0 (m : FaultMsg) (fn : Bool) : Word :=
  BitVec.ofNat 32 (m.src % 256 + m.kind % 256 * 2 ^ 8 + m.kind % 256 * 2 ^ 16 + m.sev % 4 * 2 ^ 24 + b2n fn * 2 ^ 26 + b2n m.inj * 2 ^ 27)

/-- The upper address word of a new record, with the rule (R447). -/
def recHi (m : FaultMsg) (rule : Option Nat) : Word :=
  BitVec.ofNat 32 (m.addr / 2 ^ 32 % 2 ^ 16 + rule.getD 0 * 2 ^ 16 + b2n rule.isSome * 2 ^ 22)

/-- The words of a new record. -/
def State.recRegs (s : State) (m : FaultMsg) (n : Nat) (rule : Option Nat) (fn : Bool) : State :=
  (((((s.wr (FLT_REC_W0 n) (recW0 m fn)).wr (FLT_REC_ADDR_LO n) (BitVec.ofNat 32 m.addr)).wr (FLT_REC_ADDR_HI n) (recHi m rule)).put
    (FLT_REC_MCOUNT_MCOUNT n) 0).wr64 (FLT_REC_T0 n) s.now).wr64 (FLT_REC_T1 n) s.now

theorem State.only_recRegs : s.only (recOffs n) [] (s.recRegs m n rule fn) :=
  ((((((s.only_refl _ _).wr _ (by simp [recOffs])).wr _ (by simp [recOffs])).wr _ (by simp [recOffs])).put _
    (by simp [recOffs, FLT_REC_MCOUNT_MCOUNT])).wr64 _ (by simp [recOffs]) (by simp [recOffs])).wr64 _ (by simp [recOffs]) (by simp [recOffs])

/-- Where the words of a record stand (R446). -/
theorem recOffs_eq (n : Nat) : FLT_REC_ADDR_LO n = FLT_REC_W0 n + 4 ∧ FLT_REC_ADDR_HI n = FLT_REC_W0 n + 8 ∧
    FLT_REC_MCOUNT n = FLT_REC_W0 n + 12 ∧ FLT_REC_T0 n = FLT_REC_W0 n + 16 ∧ FLT_REC_T1 n = FLT_REC_W0 n + 24 := by
  simp only [FLT_REC_W0, FLT_REC_ADDR_LO, FLT_REC_ADDR_HI, FLT_REC_MCOUNT, FLT_REC_T0, FLT_REC_T1]
  omega

/-- What the words of a new record read. -/
theorem State.rd_recRegs : (s.recRegs m n rule fn).rd (FLT_REC_W0 n) = recW0 m fn ∧
    (s.recRegs m n rule fn).rd (FLT_REC_ADDR_LO n) = BitVec.ofNat 32 m.addr ∧
    (s.recRegs m n rule fn).rd (FLT_REC_ADDR_HI n) = recHi m rule ∧
    (s.recRegs m n rule fn).get (FLT_REC_MCOUNT_MCOUNT n) = 0 ∧
    (s.recRegs m n rule fn).rd64 (FLT_REC_T0 n) = s.now ∧ (s.recRegs m n rule fn).rd64 (FLT_REC_T1 n) = s.now := by
  obtain ⟨hlo, hhi, hmc, ht0, ht1⟩ := recOffs_eq n
  have hoff : (FLT_REC_MCOUNT_MCOUNT n).off = FLT_REC_W0 n + 12 := hmc
  have hnow : s.now % 2 ^ 64 = s.now := Nat.mod_eq_of_lt (s.rd64_lt _)
  rw [State.recRegs, hlo, hhi, ht0, ht1]
  refine ⟨?_, ?_, ?_, ?_, ?_, ?_⟩
  · rw [State.rd_wr64_ne _ _ (by omega) (by omega), State.rd_wr64_ne _ _ (by omega) (by omega), State.rd_put_ne _ _ _ (by omega),
      State.rd_wr_ne _ _ (by omega), State.rd_wr_ne _ _ (by omega), State.rd_wr_same]
  · simp [State.rd_wr64, State.rd_put, State.rd_wr, hoff]
  · simp [State.rd_wr64, State.rd_put, hoff]
  · rw [State.get_wr64_ne _ _ _ (by omega) (by omega), State.get_wr64_ne _ _ _ (by omega) (by omega), State.get_put_val _ _ _ rfl]
  · rw [State.rd64_congr (State.rd_wr64_ne _ _ (by omega) (by omega)) (State.rd_wr64_ne _ _ (by omega) (by omega)), State.rd64_wr64_same, hnow]
  · rw [State.rd64_wr64_same, hnow]

/-- The bits that mark a record open. -/
def State.recMarked (s : State) (n : Nat) (fn : Bool) : State :=
  if fn then (s.setBit FLT_OPEN_REC n).setBit FLT_FN_REC n else (s.setBit FLT_OPEN_REC n).clrBit FLT_FN_REC n

theorem State.recOpen_eq : s.recOpen n m rule fn = ((s.recRegs m n rule fn).bump (FLT_CNT 1)).recMarked n fn := rfl

theorem State.only_recMarked : s.only [FLT_OPEN, FLT_FN] [] (s.recMarked n fn) := by
  have h : s.only [FLT_OPEN, FLT_FN] [] (s.setBit FLT_OPEN_REC n) := (s.only_refl _ _).setBit _ (by decide)
  cases fn
  · exact h.clrBit _ (by decide)
  · exact h.setBit _ (by decide)

theorem State.getBit_recMarked (hn : n < 16) :
    (s.recMarked n fn).getBit FLT_OPEN_REC n = true ∧ (s.recMarked n fn).getBit FLT_FN_REC n = fn := by
  have h : (s.setBit FLT_OPEN_REC n).getBit FLT_OPEN_REC n = true := by rw [State.getBit_setBit _ _ rfl hn]; simp
  cases fn
  · exact ⟨(State.getBit_clrBit_off _ _ _ (by decide)).trans h, State.getBit_clrBit _ _ rfl⟩
  · exact ⟨(State.getBit_setBit_off _ _ _ (by decide)).trans h, (State.getBit_setBit _ _ rfl hn).trans (by simp)⟩

theorem recOffs_ne {o n : Nat} (ho : o ∈ recOffs n) (hn : n < 16) : o ≠ FLT_STAT ∧ o ≠ FLT_OPEN ∧ o ≠ FLT_FN := by
  obtain ⟨hlo, hhi, hmc, ht0, ht1⟩ := recOffs_eq n
  simp only [recOffs, hlo, hhi, hmc, ht0, ht1, List.mem_cons, List.not_mem_nil, or_false] at ho
  simp only [FLT_REC_W0, FLT_STAT, FLT_OPEN, FLT_FN] at ho ⊢
  omega

/-- What the opening of a record leaves. -/
theorem State.recOpen_spec (hn : n < 16) :
    (s.recOpen n m rule fn).getBit FLT_OPEN_REC n = true ∧ (s.recOpen n m rule fn).getBit FLT_FN_REC n = fn ∧
      (s.recOpen n m rule fn).rd (FLT_REC_W0 n) = recW0 m fn ∧
      (s.recOpen n m rule fn).rd (FLT_REC_ADDR_LO n) = BitVec.ofNat 32 m.addr ∧
      (s.recOpen n m rule fn).rd (FLT_REC_ADDR_HI n) = recHi m rule ∧
      (s.recOpen n m rule fn).get (FLT_REC_MCOUNT_MCOUNT n) = 0 ∧
      (s.recOpen n m rule fn).rd64 (FLT_REC_T0 n) = s.now ∧ (s.recOpen n m rule fn).rd64 (FLT_REC_T1 n) = s.now ∧
      (∀ j, (s.recOpen n m rule fn).cnt (FLT_CNT j) =
        if j = 1 then min (s.cnt (FLT_CNT j) + 1) (2 ^ 48 - 1) else s.cnt (FLT_CNT j)) ∧
      s.only (recOffs n ++ [FLT_OPEN, FLT_FN, FLT_STAT]) [.live] (s.recOpen n m rule fn) := by
  have hregs := s.only_recRegs m n rule fn
  obtain ⟨hw0, hlo, hhi, hmc, ht0, ht1⟩ := s.rd_recRegs m n rule fn
  rw [State.recOpen_eq]
  generalize s.recRegs m n rule fn = u at hregs hw0 hlo hhi hmc ht0 ht1 ⊢
  have hcount := u.only_fltCnt (i := 1) (by decide)
  have hcnt (j : Nat) : (u.bump (FLT_CNT 1)).cnt (FLT_CNT j) =
      if j = 1 then min (s.cnt (FLT_CNT j) + 1) (2 ^ 48 - 1) else s.cnt (FLT_CNT j) := by
    by_cases hj : j = 1
    · rw [if_pos hj, hj, ← State.cnt_congr (hregs.2 .live (by simp))]
      exact State.cnt_count_self ..
    · rw [if_neg hj, ← State.cnt_congr (hregs.2 .live (by simp))]
      exact State.cnt_fltCnt_ne _ hj
  generalize u.bump (FLT_CNT 1) = v at hcount hcnt ⊢
  have hmark := v.only_recMarked n fn
  obtain ⟨hopen, hfn⟩ := v.getBit_recMarked n fn hn
  generalize v.recMarked n fn = w at hmark hopen hfn ⊢
  have hrd (o : Nat) (ho : o ∈ recOffs n) : w.rd o = u.rd o := by
    obtain ⟨h1, h2, h3⟩ := recOffs_ne ho hn
    rw [hmark.1 _ (by simp [h2, h3]), hcount.1 _ (by simp [h1])]
  refine ⟨hopen, hfn, (hrd _ (by simp [recOffs])).trans hw0, (hrd _ (by simp [recOffs])).trans hlo, (hrd _ (by simp [recOffs])).trans hhi,
    (State.get_congr (hrd (FLT_REC_MCOUNT n) (by simp [recOffs]))).trans hmc,
    (State.rd64_congr (hrd _ (by simp [recOffs])) (hrd _ (by simp [recOffs]))).trans ht0,
    (State.rd64_congr (hrd _ (by simp [recOffs])) (hrd _ (by simp [recOffs]))).trans ht1,
    fun j => (State.cnt_congr (hmark.2 .live (by simp)) _).trans (hcnt j), ?_⟩
  exact ((hregs.mono (by simp) (by simp)).trans (hcount.mono (by simp) (by simp))).trans (hmark.mono (by simp) (by simp))

/-- A field of a word that is spelled digit by digit. -/
theorem wordField_digit {x lo w : Nat} (a d r : Nat) (hx : x = a + 2 ^ lo * (d + 2 ^ w * r)) (ha : a < 2 ^ lo) (hd : d < 2 ^ w)
    (hlt : x < 2 ^ 32) : wordField (BitVec.ofNat 32 x) lo w = d := by
  rw [wordField, BitVec.toNat_ushiftRight, BitVec.toNat_ofNat, Nat.mod_eq_of_lt hlt, Nat.shiftRight_eq_div_pow, hx,
    Nat.add_mul_div_left _ _ (Nat.two_pow_pos lo), Nat.div_eq_of_lt ha, Nat.zero_add, Nat.add_mul_mod_self_left, Nat.mod_eq_of_lt hd]

/-- The fields of a new record's first word. -/
theorem recW0_fields : wordField (recW0 m fn) 0 8 = m.src % 256 ∧ wordField (recW0 m fn) 8 8 = m.kind % 256 ∧
    wordField (recW0 m fn) 16 8 = m.kind % 256 ∧ wordField (recW0 m fn) 24 2 = m.sev % 4 ∧ wordField (recW0 m fn) 26 1 = b2n fn ∧
    wordField (recW0 m fn) 27 1 = b2n m.inj := by
  have hfn := b2n_lt fn
  have hinj := b2n_lt m.inj
  have hsrc : m.src % 256 < 256 := Nat.mod_lt _ (by decide)
  have hkind : m.kind % 256 < 256 := Nat.mod_lt _ (by decide)
  have hsev : m.sev % 4 < 4 := Nat.mod_lt _ (by decide)
  simp only [recW0]
  generalize m.src % 256 = a at *
  generalize m.kind % 256 = b at *
  generalize m.sev % 4 = c at *
  generalize b2n fn = d at *
  generalize b2n m.inj = e at *
  exact ⟨wordField_digit 0 a (b + 2 ^ 8 * b + 2 ^ 16 * c + 2 ^ 18 * d + 2 ^ 19 * e) (by omega) (by omega) hsrc (by omega),
    wordField_digit a b (b + 2 ^ 8 * c + 2 ^ 10 * d + 2 ^ 11 * e) (by omega) hsrc hkind (by omega),
    wordField_digit (a + 2 ^ 8 * b) b (c + 2 ^ 2 * d + 2 ^ 3 * e) (by omega) (by omega) hkind (by omega),
    wordField_digit (a + 2 ^ 8 * b + 2 ^ 16 * b) c (d + 2 * e) (by omega) (by omega) hsev (by omega),
    wordField_digit (a + 2 ^ 8 * b + 2 ^ 16 * b + 2 ^ 24 * c) d e (by omega) (by omega) hfn (by omega),
    wordField_digit (a + 2 ^ 8 * b + 2 ^ 16 * b + 2 ^ 24 * c + 2 ^ 26 * d) e 0 (by omega) (by omega) hinj (by omega)⟩

/-- The fields of a new record's upper address word. -/
theorem recHi_fields (hr : rule.getD 0 < 64) : wordField (recHi m rule) 0 16 = m.addr / 2 ^ 32 % 2 ^ 16 ∧
    wordField (recHi m rule) 16 6 = rule.getD 0 ∧ wordField (recHi m rule) 22 1 = b2n rule.isSome := by
  have hsome := b2n_lt rule.isSome
  have haddr : m.addr / 2 ^ 32 % 2 ^ 16 < 2 ^ 16 := Nat.mod_lt _ (by decide)
  simp only [recHi]
  generalize m.addr / 2 ^ 32 % 2 ^ 16 = a at *
  generalize rule.getD 0 = b at *
  generalize b2n rule.isSome = c at *
  exact ⟨wordField_digit 0 a (b + 2 ^ 6 * c) (by omega) (by omega) haddr (by omega),
    wordField_digit a b c (by omega) haddr hr (by omega), wordField_digit (a + 2 ^ 16 * b) c 0 (by omega) (by omega) hsome (by omega)⟩

/-! ### A message merges into a record -/

/-- The words of a record after a merge. -/
def State.mergeRegs (s : State) (n : Nat) (m : FaultMsg) : State :=
  (((s.satAdd (FLT_REC_MCOUNT_MCOUNT n) 1).put (FLT_REC_W0_LKIND n) m.kind).put (FLT_REC_W0_SEV n)
    (max (s.get (FLT_REC_W0_SEV n)) m.sev)).wr64 (FLT_REC_T1 n) s.now

/-- The registers a merge writes. -/
def mergeOffs (n : Nat) : List Nat := [FLT_REC_W0 n, FLT_REC_MCOUNT n, FLT_REC_T1 n, FLT_REC_T1 n + 4]

theorem State.recMerge_eq : s.recMerge n m false = (s.mergeRegs n m).bump (FLT_CNT 2) := rfl

theorem State.only_mergeRegs : s.only (mergeOffs n) [] (s.mergeRegs n m) :=
  ((((s.only_refl _ _).satAdd _ (by simp [mergeOffs, FLT_REC_MCOUNT_MCOUNT])).put _ (by simp [mergeOffs, FLT_REC_W0_LKIND])).put _
    (by simp [mergeOffs, FLT_REC_W0_SEV])).wr64 _ (by simp [mergeOffs]) (by simp [mergeOffs])

theorem State.get_mergeRegs (hsev : m.sev < 4) :
    (s.mergeRegs n m).get (FLT_REC_MCOUNT_MCOUNT n) = min (s.get (FLT_REC_MCOUNT_MCOUNT n) + 1) 0xFFFF ∧
      (s.mergeRegs n m).get (FLT_REC_W0_KIND n) = s.get (FLT_REC_W0_KIND n) ∧
      (s.mergeRegs n m).get (FLT_REC_W0_LKIND n) = m.kind % 256 ∧
      (s.mergeRegs n m).get (FLT_REC_W0_SEV n) = max (s.get (FLT_REC_W0_SEV n)) m.sev ∧
      (s.mergeRegs n m).rd64 (FLT_REC_T1 n) = s.now := by
  obtain ⟨-, -, hmc, -, ht1⟩ := recOffs_eq n
  have hoff : (FLT_REC_MCOUNT_MCOUNT n).off = FLT_REC_W0 n + 12 := hmc
  have hk : (FLT_REC_W0_KIND n).off = FLT_REC_W0 n := rfl
  have hl : (FLT_REC_W0_LKIND n).off = FLT_REC_W0 n := rfl
  have hs : (FLT_REC_W0_SEV n).off = FLT_REC_W0 n := rfl
  have hsev' : max (s.get (FLT_REC_W0_SEV n)) m.sev < 2 ^ (FLT_REC_W0_SEV n).w := by
    have : s.get (FLT_REC_W0_SEV n) < 2 ^ 2 := s.get_lt _
    rw [show (FLT_REC_W0_SEV n).w = 2 from rfl]
    omega
  refine ⟨?_, ?_, ?_, ?_, ?_⟩
  · rw [State.mergeRegs, State.get_wr64_ne _ _ _ (by omega) (by omega), State.get_put_ne _ _ _ _ (by omega),
      State.get_put_ne _ _ _ _ (by omega), State.get_satAdd_self _ _ rfl]
    rfl
  · rw [State.mergeRegs, State.get_wr64_ne _ _ _ (by omega) (by omega), State.get_put_apart _ _ rfl, State.get_put_apart _ _ rfl,
      State.satAdd, State.get_put_ne _ _ _ _ (by omega)]
  · rw [State.mergeRegs, State.get_wr64_ne _ _ _ (by omega) (by omega), State.get_put_apart _ _ rfl]
    exact State.get_put_same _ _ _ (show 16 + 8 ≤ 32 by decide)
  · rw [State.mergeRegs, State.get_wr64_ne _ _ _ (by omega) (by omega), State.get_put_self _ rfl hsev']
  · rw [State.mergeRegs, State.rd64_wr64_same]
    exact Nat.mod_eq_of_lt (s.rd64_lt _)

theorem mergeOffs_ne {o n : Nat} (ho : o ∈ mergeOffs n) : o ≠ FLT_STAT := by
  obtain ⟨-, -, hmc, -, ht1⟩ := recOffs_eq n
  simp only [mergeOffs, hmc, ht1, List.mem_cons, List.not_mem_nil, or_false] at ho
  simp only [FLT_REC_W0, FLT_STAT] at ho ⊢
  omega

/-- What a merge leaves where the rule does not drive FAULT_N. -/
theorem State.recMerge_spec (hsev : m.sev < 4) :
    (s.recMerge n m false).get (FLT_REC_MCOUNT_MCOUNT n) = min (s.get (FLT_REC_MCOUNT_MCOUNT n) + 1) 0xFFFF ∧
      (s.recMerge n m false).get (FLT_REC_W0_KIND n) = s.get (FLT_REC_W0_KIND n) ∧
      (s.recMerge n m false).get (FLT_REC_W0_LKIND n) = m.kind % 256 ∧
      (s.recMerge n m false).get (FLT_REC_W0_SEV n) = max (s.get (FLT_REC_W0_SEV n)) m.sev ∧
      (s.recMerge n m false).rd64 (FLT_REC_T1 n) = s.now ∧
      (∀ j, (s.recMerge n m false).cnt (FLT_CNT j) = if j = 2 then min (s.cnt (FLT_CNT j) + 1) (2 ^ 48 - 1) else s.cnt (FLT_CNT j)) ∧
      s.only (mergeOffs n ++ [FLT_STAT]) [.live] (s.recMerge n m false) := by
  have hregs := s.only_mergeRegs m n
  obtain ⟨hmc, hk, hl, hs, ht⟩ := s.get_mergeRegs m n hsev
  rw [State.recMerge_eq]
  generalize s.mergeRegs n m = u at hregs hmc hk hl hs ht ⊢
  have hcount := u.only_fltCnt (i := 2) (by decide)
  have hrd (o : Nat) (ho : o ∈ mergeOffs n) : (u.bump (FLT_CNT 2)).rd o = u.rd o := hcount.1 _ (by simpa using mergeOffs_ne ho)
  have hw0 := hrd (FLT_REC_W0 n) (by simp [mergeOffs])
  refine ⟨(State.get_congr (hrd (FLT_REC_MCOUNT n) (by simp [mergeOffs]))).trans hmc, (State.get_congr hw0).trans hk,
    (State.get_congr hw0).trans hl, (State.get_congr hw0).trans hs,
    (State.rd64_congr (hrd _ (by simp [mergeOffs])) (hrd _ (by simp [mergeOffs]))).trans ht, fun j => ?_,
    (hregs.mono (by simp) (by simp)).trans (hcount.mono (by simp) (by simp))⟩
  by_cases hj : j = 2
  · rw [if_pos hj, hj, ← State.cnt_congr (hregs.2 .live (by simp))]
    exact State.cnt_count_self ..
  · rw [if_neg hj, ← State.cnt_congr (hregs.2 .live (by simp))]
    exact State.cnt_fltCnt_ne _ hj

/-! ### Which record takes a message -/

theorem State.recOf_msgCounted (src : Nat) : (s.msgCounted m r).recOf src = s.recOf src := by
  have hopen : (s.msgCounted m r).rd FLT_OPEN = s.rd FLT_OPEN := (s.only_msgCounted m r).1 _ (by decide)
  have hbit (i : Nat) : (s.msgCounted m r).getBit FLT_OPEN_REC i = s.getBit FLT_OPEN_REC i := State.getBit_congr hopen i
  have hsrc (i : Nat) : (s.msgCounted m r).get (FLT_REC_W0_SRC i) = s.get (FLT_REC_W0_SRC i) :=
    (s.only_msgCounted m r).get_eq (by simp only [FLT_REC_W0_SRC, FLT_REC_W0, FLT_STAT, List.mem_singleton]; omega)
  simp only [State.recOf, hbit, hsrc]

theorem State.openBit_msgCounted (i : Nat) : (s.msgCounted m r).getBit FLT_OPEN_REC i = s.getBit FLT_OPEN_REC i :=
  State.getBit_congr (f := FLT_OPEN_REC) ((s.only_msgCounted m r).1 _ (by decide)) i

theorem State.recOf_none {src : Nat} (h : ∀ i, i < 16 → s.getBit FLT_OPEN_REC i = true → s.get (FLT_REC_W0_SRC i) ≠ src) :
    s.recOf src = none := by
  refine find_range_none fun i hi => ?_
  cases hb : s.getBit FLT_OPEN_REC i with
  | false => rfl
  | true => simpa using h i hi hb

theorem State.recOf_some {src n : Nat} (hn : n < 16) (hb : s.getBit FLT_OPEN_REC n = true) (hs : s.get (FLT_REC_W0_SRC n) = src)
    (h : ∀ i, i < n → s.getBit FLT_OPEN_REC i = true → s.get (FLT_REC_W0_SRC i) ≠ src) : s.recOf src = some n := by
  refine find_range_some hn (by simp [hb, hs]) fun i hi => ?_
  cases hb : s.getBit FLT_OPEN_REC i with
  | false => rfl
  | true => simpa using h i hi hb

/-- A message of a source without an open record opens the lowest free one. -/
theorem State.recLog_opens (hrec : s.recOf m.src = none) {n : Nat} (hn : n < 16) (hfree : s.getBit FLT_OPEN_REC n = false)
    (hlt : ∀ i, i < n → s.getBit FLT_OPEN_REC i = true) : s.recLog m rule fn = (s.recOpen n m rule fn, true) := by
  have hfind : ((List.range 16).find? fun n => !s.getBit FLT_OPEN_REC n) = some n :=
    find_range_some hn (by simp [hfree]) fun i hi => by simp [hlt i hi]
  rw [State.recLog]
  simp only [hrec, hfind]

theorem State.recLog_merges {n : Nat} (hrec : s.recOf m.src = some n) : s.recLog m rule fn = (s.recMerge n m fn, false) := by
  rw [State.recLog]
  simp only [hrec]

/-- A message for which no record is free. -/
theorem State.recLog_full (hrec : s.recOf m.src = none) (hfull : ∀ i, i < 16 → s.getBit FLT_OPEN_REC i = true) :
    s.recLog m rule false = ((s.put FLT_STAT_REC_OVF 1).bump (FLT_CNT 4), true) := by
  have hfind : ((List.range 16).find? fun n => !s.getBit FLT_OPEN_REC n) = none := find_range_none fun i hi => by simp [hfull i hi]
  rw [State.recLog]
  simp only [hrec, hfind, Bool.false_eq_true, if_false]

/-! ### The actions of a rule -/

theorem State.ruleA_field {k : Nat} {A : Word} (h : s.rd (FLT_RULE_A k) = A) {f : Nat → Fld} (hf : (f k).off = FLT_RULE_A k) :
    s.get (f k) = wordField A (f k).lo (f k).w := by rw [State.get, hf, h]

theorem State.ruleA_on {k : Nat} {A : Word} (h : s.rd (FLT_RULE_A k) = A) {f : Nat → Fld} (hf : (f k).off = FLT_RULE_A k) :
    s.on (f k) = (wordField A (f k).lo (f k).w != 0) := by rw [State.on, State.ruleA_field h hf]

/-- A rule that does nothing beside the record. -/
theorem State.ruleAct_none {k : Nat} {b : Bool} (h : s.rd (FLT_RULE_A k) = 0x20#32) : s.ruleAct k b = s := by
  have hirq : s.on (FLT_RULE_A_IRQ k) = false := (State.ruleA_on h (f := FLT_RULE_A_IRQ) rfl).trans (show (wordField 0x20#32 1 1 != 0) = false by decide)
  have hsafe : s.on (FLT_RULE_A_SAFE k) = false := (State.ruleA_on h (f := FLT_RULE_A_SAFE) rfl).trans (show (wordField 0x20#32 17 1 != 0) = false by decide)
  have hyield : s.on (FLT_RULE_A_YIELD k) = false := (State.ruleA_on h (f := FLT_RULE_A_YIELD) rfl).trans (show (wordField 0x20#32 18 1 != 0) = false by decide)
  have hisland : s.on (FLT_RULE_A_ISLAND k) = false := (State.ruleA_on h (f := FLT_RULE_A_ISLAND) rfl).trans (show (wordField 0x20#32 16 1 != 0) = false by decide)
  have hreset : s.on (FLT_RULE_A_RESET k) = false := (State.ruleA_on h (f := FLT_RULE_A_RESET) rfl).trans (show (wordField 0x20#32 6 1 != 0) = false by decide)
  simp [State.ruleAct, hirq, hsafe, hyield, hisland, hreset]

/-- The fields of a rule with LOG, IRQ, a line, FAULTN and SAFE. -/
theorem ruleA_irqSafe {line : Nat} (h : line < 8) : wordField (BitVec.ofNat 32 (0x20023 + 4 * line)) 0 1 = 1 ∧
    wordField (BitVec.ofNat 32 (0x20023 + 4 * line)) 1 1 = 1 ∧ wordField (BitVec.ofNat 32 (0x20023 + 4 * line)) 2 3 = line ∧
    wordField (BitVec.ofNat 32 (0x20023 + 4 * line)) 5 1 = 1 ∧ wordField (BitVec.ofNat 32 (0x20023 + 4 * line)) 6 1 = 0 ∧
    wordField (BitVec.ofNat 32 (0x20023 + 4 * line)) 16 1 = 0 ∧ wordField (BitVec.ofNat 32 (0x20023 + 4 * line)) 17 1 = 1 ∧
    wordField (BitVec.ofNat 32 (0x20023 + 4 * line)) 18 1 = 0 := by
  interval_cases line <;> decide

/-- A rule that raises SAFE and the interrupt of its line. -/
theorem State.ruleAct_irqSafe {k line : Nat} (hline : line < 8) (h : s.rd (FLT_RULE_A k) = BitVec.ofNat 32 (0x20023 + 4 * line)) :
    s.ruleAct k true = (s.edgeIrq 0x05 (14 + line)).put FLT_STAT_SAFE 1 := by
  obtain ⟨-, h1, h2, -, h6, h16, h17, h18⟩ := ruleA_irqSafe hline
  have hirq : s.on (FLT_RULE_A_IRQ k) = true := State.on_eq_true.2 (by rw [State.ruleA_field h (f := FLT_RULE_A_IRQ) rfl]; exact h1 ▸ by decide)
  have hsafe : s.on (FLT_RULE_A_SAFE k) = true :=
    State.on_eq_true.2 (by rw [State.ruleA_field h (f := FLT_RULE_A_SAFE) rfl]; exact h17 ▸ by decide)
  have hyield : s.on (FLT_RULE_A_YIELD k) = false := State.on_eq_false.2 ((State.ruleA_field h (f := FLT_RULE_A_YIELD) rfl).trans h18)
  have hisland : s.on (FLT_RULE_A_ISLAND k) = false := State.on_eq_false.2 ((State.ruleA_field h (f := FLT_RULE_A_ISLAND) rfl).trans h16)
  have hreset : s.on (FLT_RULE_A_RESET k) = false := State.on_eq_false.2 ((State.ruleA_field h (f := FLT_RULE_A_RESET) rfl).trans h6)
  have hl : s.get (FLT_RULE_A_LINE k) = line := (State.ruleA_field h (f := FLT_RULE_A_LINE) rfl).trans h2
  simp [State.ruleAct, hirq, hsafe, hyield, hisland, hreset, hl]

/-- A rule that resets core M1. -/
theorem State.ruleAct_reset {k : Nat} {b : Bool} (h : s.rd (FLT_RULE_A k) = 0x4140#32) : s.ruleAct k b = s.unitRequest 0x05 0x41 := by
  have hirq : s.on (FLT_RULE_A_IRQ k) = false := (State.ruleA_on h (f := FLT_RULE_A_IRQ) rfl).trans (show (wordField 0x4140#32 1 1 != 0) = false by decide)
  have hsafe : s.on (FLT_RULE_A_SAFE k) = false := (State.ruleA_on h (f := FLT_RULE_A_SAFE) rfl).trans (show (wordField 0x4140#32 17 1 != 0) = false by decide)
  have hyield : s.on (FLT_RULE_A_YIELD k) = false := (State.ruleA_on h (f := FLT_RULE_A_YIELD) rfl).trans (show (wordField 0x4140#32 18 1 != 0) = false by decide)
  have hisland : s.on (FLT_RULE_A_ISLAND k) = false := (State.ruleA_on h (f := FLT_RULE_A_ISLAND) rfl).trans (show (wordField 0x4140#32 16 1 != 0) = false by decide)
  have hreset : s.on (FLT_RULE_A_RESET k) = true := (State.ruleA_on h (f := FLT_RULE_A_RESET) rfl).trans (show (wordField 0x4140#32 6 1 != 0) = true by decide)
  have hunit : s.get (FLT_RULE_A_UNIT k) = 0x41 := (State.ruleA_field h (f := FLT_RULE_A_UNIT) rfl).trans (show wordField 0x4140#32 8 8 = 0x41 by decide)
  simp [State.ruleAct, hirq, hsafe, hyield, hisland, hreset, hunit]

theorem State.ruleA_msgCounted (k : Nat) : (s.msgCounted m r).rd (FLT_RULE_A k) = s.rd (FLT_RULE_A k) :=
  (s.only_msgCounted m r).1 _ (by simpa using (FLT_RULE_ne_STAT k).2)

/-- A message whose rule does not record it. -/
theorem State.faultTake_unlogged {k : Nat} {A : Word} (hk : k < 64) (hh : s.ruleHits m k = true)
    (hl : ∀ j, j < k → s.ruleHits m j = false) (hA : s.rd (FLT_RULE_A k) = A) (hlog : wordField A 0 1 = 0) :
    ({ s with fltQ := r } : State).faultTake m =
      (((s.msgCounted m r).bump (FLT_CNT 3)).when (wordField A 5 1 != 0) fun s => s.put FLT_STAT_FN_ORPHAN 1).ruleAct k true := by
  have hA' := (s.ruleA_msgCounted m r k).trans hA
  have hoff : (s.msgCounted m r).on (FLT_RULE_A_LOG k) = false :=
    State.on_eq_false.2 ((State.ruleA_field hA' (f := FLT_RULE_A_LOG) rfl).trans hlog)
  have hfn : (s.msgCounted m r).on (FLT_RULE_A_FAULTN k) = (wordField A 5 1 != 0) := by
    rw [State.on, State.ruleA_field hA' (f := FLT_RULE_A_FAULTN) rfl]
    rfl
  rw [State.faultTake_rule m r hk hh hl, hoff, hfn]
  exact if_neg (by decide)

/-! ### Closing records -/

/-- A record closed. -/
theorem State.getBit_close (f : Fld) (hf : f.off = FLT_OPEN ∧ f = FLT_OPEN_REC ∨ f.off = FLT_FN ∧ f = FLT_FN_REC) (i k : Nat) :
    ((s.clrBit FLT_OPEN_REC i).clrBit FLT_FN_REC i).getBit f k = (s.getBit f k && decide (k ≠ i)) := by
  obtain ⟨-, rfl⟩ | ⟨-, rfl⟩ := hf
  · rw [State.getBit_clrBit_off _ _ _ (by decide)]
    by_cases hk : k = i
    · subst hk
      rw [State.getBit_clrBit _ _ rfl]
      simp
    · rw [State.getBit_clrBit_ne _ rfl hk]
      simp [hk]
  · by_cases hk : k = i
    · subst hk
      rw [State.getBit_clrBit _ _ rfl]
      simp
    · rw [State.getBit_clrBit_ne _ rfl hk, State.getBit_clrBit_off _ _ _ (by decide)]
      simp [hk]

theorem State.getBit_closes (f : Fld) (hf : f.off = FLT_OPEN ∧ f = FLT_OPEN_REC ∨ f.off = FLT_FN ∧ f = FLT_FN_REC) (l : List Nat) (k : Nat) :
    (s.each l fun s i => (s.clrBit FLT_OPEN_REC i).clrBit FLT_FN_REC i).getBit f k = (s.getBit f k && decide (k ∉ l)) := by
  induction l generalizing s with
  | nil => simp [State.each]
  | cons i l ih =>
    rw [show s.each (i :: l) _ = ((s.clrBit FLT_OPEN_REC i).clrBit FLT_FN_REC i).each l _ from rfl, ih, State.getBit_close f hf]
    by_cases hk : k = i
    · simp [hk]
    · simp [hk]

theorem State.only_recClose (mask : Nat) : s.only [FLT_OPEN, FLT_FN] [] (s.recClose mask) :=
  State.only_each (fun t i _ => ((t.only_refl _ _).clrBit _ (by decide)).clrBit _ (by decide)) s

/-- Records the mask names are closed. -/
theorem State.getBit_recClose (f : Fld) (hf : f.off = FLT_OPEN ∧ f = FLT_OPEN_REC ∨ f.off = FLT_FN ∧ f = FLT_FN_REC) (mask : BitVec 16) {n : Nat}
    (hn : n < 16) : (s.recClose mask.toNat).getBit f n = (s.getBit f n && !mask.getLsbD n) := by
  rw [State.recClose, State.getBit_closes f hf]
  have hmem : n ∈ bitList 16 mask.toNat ↔ mask.getLsbD n = true := by
    rw [mem_bitList, BitVec.getLsbD]
    exact ⟨fun h => h.2, fun h => ⟨hn, h⟩⟩
  cases h : mask.getLsbD n <;> simp [hmem, h]

/-! ### The three ways of a recorded message -/

theorem faultN_of_orphan (h : s.get FLT_STAT_FN_ORPHAN = 1) : s.faultN = true := by
  simp [State.faultN, State.on, h]

theorem faultN_of_record {i : Nat} (h : s.getBit FLT_FN_REC i = true) : s.faultN = true := by
  have hne : s.get FLT_FN_REC ≠ 0 := fun h0 => by simp [State.getBit, h0] at h
  simp [State.faultN, hne]

/-- A message that opens a record without an action. -/
theorem State.opens_spec {m : FaultMsg} {r : List FaultMsg} {n : Nat} (hrule : ∀ k, k < 64 → s.ruleHits m k = false)
    (hn : n < 16) (hfree : s.getBit FLT_OPEN_REC n = false) (hlt : ∀ i, i < n → s.getBit FLT_OPEN_REC i = true)
    (hsrc : ∀ i, i < 16 → s.getBit FLT_OPEN_REC i = true → s.get (FLT_REC_W0_SRC i) ≠ m.src) :
    ∃ t, t = ({ s with fltQ := r } : State).faultTake m ∧ t.fltQ = r ∧ t.getBit FLT_OPEN_REC n = true ∧ t.getBit FLT_FN_REC n = false ∧
      t.rd (FLT_REC_W0 n) = recW0 m false ∧ t.rd (FLT_REC_ADDR_LO n) = BitVec.ofNat 32 m.addr ∧ t.rd (FLT_REC_ADDR_HI n) = recHi m none ∧
      t.get (FLT_REC_MCOUNT_MCOUNT n) = 0 ∧ t.rd64 (FLT_REC_T0 n) = s.now ∧ t.rd64 (FLT_REC_T1 n) = s.now ∧
      s.advanced t (FLT_CNT 0) 1 ∧ s.advanced t (FLT_CNT 1) 1 ∧
      s.only (recOffs n ++ [FLT_OPEN, FLT_FN, FLT_STAT]) [.live, .fltQ] t := by
  have hu := s.only_msgCounted m r
  have hq := s.fltQ_msgCounted m r
  have hcnt := s.cnt_msgCounted m r
  have hlog := State.recLog_opens m none false (s := s.msgCounted m r) (by rw [State.recOf_msgCounted, State.recOf_none hsrc]) hn
    (by rw [State.openBit_msgCounted, hfree]) fun i hi => by rw [State.openBit_msgCounted, hlt i hi]
  rw [State.faultTake_none m r hrule, hlog]
  generalize s.msgCounted m r = u at hu hq hcnt
  obtain ⟨hopen, hfn, hw0, hlo, hhi, hmc, ht0, ht1, hcnt1, honly⟩ := u.recOpen_spec m n none false hn
  have hnow : u.now = s.now := hu.rd64_eq (by decide) (by decide)
  refine ⟨_, rfl, (honly.2 .fltQ (by simp)).trans hq, hopen, hfn, hw0, hlo, hhi, hmc, ht0.trans hnow, ht1.trans hnow, ?_, ?_,
    (hu.mono (by simp) (by simp)).trans (honly.mono (by simp) (by simp))⟩
  · rw [State.advanced, hcnt1, hcnt]
    rfl
  · rw [State.advanced, hcnt1, hcnt, if_pos rfl, if_neg (by simp)]

/-- A message that merges into its source's record without an action. -/
theorem State.merges_spec {m : FaultMsg} {r : List FaultMsg} {n : Nat} (hrule : ∀ k, k < 64 → s.ruleHits m k = false)
    (hn : n < 16) (hopen : s.getBit FLT_OPEN_REC n = true) (hsrc : s.get (FLT_REC_W0_SRC n) = m.src)
    (hlt : ∀ i, i < n → s.getBit FLT_OPEN_REC i = true → s.get (FLT_REC_W0_SRC i) ≠ m.src) (hsev : m.sev < 4) :
    ∃ t, t = ({ s with fltQ := r } : State).faultTake m ∧ t.fltQ = r ∧
      t.get (FLT_REC_MCOUNT_MCOUNT n) = min (s.get (FLT_REC_MCOUNT_MCOUNT n) + 1) 0xFFFF ∧
      t.get (FLT_REC_W0_KIND n) = s.get (FLT_REC_W0_KIND n) ∧ t.get (FLT_REC_W0_LKIND n) = m.kind % 256 ∧
      t.get (FLT_REC_W0_SEV n) = max (s.get (FLT_REC_W0_SEV n)) m.sev ∧ t.rd64 (FLT_REC_T1 n) = s.now ∧
      s.advanced t (FLT_CNT 0) 1 ∧ s.advanced t (FLT_CNT 2) 1 ∧ s.only (mergeOffs n ++ [FLT_STAT]) [.live, .fltQ] t := by
  have hu := s.only_msgCounted m r
  have hq := s.fltQ_msgCounted m r
  have hcnt := s.cnt_msgCounted m r
  have hlog := State.recLog_merges m none false (s := s.msgCounted m r) (by rw [State.recOf_msgCounted, State.recOf_some hn hopen hsrc hlt])
  rw [State.faultTake_none m r hrule, hlog]
  generalize s.msgCounted m r = u at hu hq hcnt
  obtain ⟨hmc, hk, hl, hs, ht, hcnt2, honly⟩ := u.recMerge_spec m n hsev
  have hnow : u.now = s.now := hu.rd64_eq (by decide) (by decide)
  have hrd (o : Nat) (ho : o ∈ mergeOffs n) : u.rd o = s.rd o := hu.1 _ (by simpa using mergeOffs_ne ho)
  have hw0 := hrd (FLT_REC_W0 n) (by simp [mergeOffs])
  refine ⟨_, rfl, (honly.2 .fltQ (by simp)).trans hq, ?_, hk.trans (State.get_congr hw0), hl, ?_, ht.trans hnow, ?_, ?_,
    (hu.mono (by simp) (by simp)).trans (honly.mono (by simp) (by simp))⟩
  · rw [hmc, State.get_congr (f := FLT_REC_MCOUNT_MCOUNT n) (hrd (FLT_REC_MCOUNT n) (by simp [mergeOffs]))]
  · rw [hs, State.get_congr (f := FLT_REC_W0_SEV n) hw0]
  · rw [State.advanced, hcnt2, hcnt]
    rfl
  · rw [State.advanced, hcnt2, hcnt, if_pos rfl, if_neg (by simp)]

/-- A message for which no record is free, and no rule. -/
theorem State.overflow_spec {m : FaultMsg} {r : List FaultMsg} (hrule : ∀ k, k < 64 → s.ruleHits m k = false)
    (hfull : s.get FLT_OPEN_REC = 0xFFFF) (hsrc : ∀ i, i < 16 → s.get (FLT_REC_W0_SRC i) ≠ m.src) :
    ∃ t, t = ({ s with fltQ := r } : State).faultTake m ∧ t.fltQ = r ∧ t.get FLT_STAT_REC_OVF = 1 ∧ s.advanced t (FLT_CNT 4) 1 ∧
      s.only [FLT_STAT] [.live, .fltQ] t := by
  have hu := s.only_msgCounted m r
  have hq := s.fltQ_msgCounted m r
  have hcnt := s.cnt_msgCounted m r
  have hlog := State.recLog_full m none (s := s.msgCounted m r) (by rw [State.recOf_msgCounted, State.recOf_none fun i hi _ => hsrc i hi])
    fun i hi => by
      rw [State.openBit_msgCounted, State.getBit, hfull]
      interval_cases i <;> rfl
  rw [State.faultTake_none m r hrule, hlog]
  generalize s.msgCounted m r = u at hu hq hcnt
  have hput : s.only [FLT_STAT] [.live, .fltQ] (u.put FLT_STAT_REC_OVF 1) := hu.put _ (by decide)
  have hcount := (u.put FLT_STAT_REC_OVF 1).only_fltCnt (i := 4) (by decide)
  refine ⟨_, rfl, (hcount.2 .fltQ (by simp)).trans ((State.put_fltQ _ _ _).trans hq), ?_, ?_, hput.trans (hcount.mono (by simp) (by simp))⟩
  · rw [State.get_fltCnt _ (by decide) rfl, State.get_put_val _ _ _ rfl]
  · refine (State.cnt_count_self ..).trans ?_
    rw [State.cnt_congr (State.put_live _ _ _), hcnt, if_neg (by simp)]

/-- A message whose rule drives FAULT_N but keeps no record. -/
theorem State.orphan_spec {m : FaultMsg} {r : List FaultMsg} {k : Nat} (hk : k < 64) (hh : s.ruleHits m k = true)
    (hl : ∀ j, j < k → s.ruleHits m j = false) (hA : s.rd (FLT_RULE_A k) = 0x20#32) :
    ∃ t, t = ({ s with fltQ := r } : State).faultTake m ∧ t.fltQ = r ∧ t.get FLT_STAT_FN_ORPHAN = 1 ∧ s.advanced t (FLT_CNT 0) 1 ∧
      s.advanced t (FLT_CNT 3) 1 ∧ s.only [FLT_STAT] [.live, .fltQ] t := by
  have hu := s.only_msgCounted m r
  have hq := s.fltQ_msgCounted m r
  have hcnt := s.cnt_msgCounted m r
  have hA' := (s.ruleA_msgCounted m r k).trans hA
  have hoff := (FLT_RULE_ne_STAT k).2
  rw [State.faultTake_unlogged m r hk hh hl hA (by decide), State.when, if_pos (by decide)]
  generalize s.msgCounted m r = u at hu hq hcnt hA'
  have hcount := u.only_fltCnt (i := 3) (by decide)
  have hcnt3 (j : Nat) : (u.bump (FLT_CNT 3)).cnt (FLT_CNT j) = if j = 3 then min (u.cnt (FLT_CNT j) + 1) (2 ^ 48 - 1) else u.cnt (FLT_CNT j) := by
    by_cases hj : j = 3
    · rw [if_pos hj, hj]
      exact State.cnt_count_self ..
    · rw [if_neg hj]
      exact State.cnt_fltCnt_ne _ hj
  generalize u.bump (FLT_CNT 3) = v at hcount hcnt3
  rw [State.ruleAct_none (by rw [State.rd_put_ne _ _ _ hoff, hcount.1 _ (by simpa using hoff), hA'])]
  have hall : s.only [FLT_STAT] [.live, .fltQ] v := hu.trans (hcount.mono (by simp) (by simp))
  refine ⟨_, rfl, ?_, State.get_put_val _ _ _ rfl, ?_, ?_, hall.put _ (by decide)⟩
  · rw [State.put_fltQ, hcount.2 .fltQ (by simp), hq]
  · rw [State.advanced, State.cnt_congr (State.put_live _ _ _), hcnt3, if_neg (by decide), hcnt, if_pos (.inl rfl)]
  · rw [State.advanced, State.cnt_congr (State.put_live _ _ _), hcnt3, if_pos rfl, hcnt, if_neg (by simp)]

/-- A message whose rule resets core M1. -/
theorem State.ruleReset_spec {m : FaultMsg} {r : List FaultMsg} {k : Nat} (hk : k < 64) (hh : s.ruleHits m k = true)
    (hl : ∀ j, j < k → s.ruleHits m j = false) (hA : s.rd (FLT_RULE_A k) = 0x4140#32) (hunit : s.unitOf 0x41 = none)
    (hcyc : s.sameCycle = none) :
    ∃ t, t = ({ s with fltQ := r } : State).faultTake m ∧ t.unitOf 0x41 = some ⟨1, 5, false, 0, 16, s.slowCycle⟩ ∧ t.sys.rc100 = true ∧
      s.only [FLT_STAT] [.live, .fltQ, .sys] t := by
  have hu := s.only_msgCounted m r
  have hA' := (s.ruleA_msgCounted m r k).trans hA
  have hoff := (FLT_RULE_ne_STAT k).2
  rw [State.faultTake_unlogged m r hk hh hl hA (by decide), State.when, if_neg (by decide)]
  generalize s.msgCounted m r = u at hu hA'
  have hcount := u.only_fltCnt (i := 3) (by decide)
  generalize u.bump (FLT_CNT 3) = v at hcount
  have hall : s.only [FLT_STAT] [.live, .fltQ] v := hu.trans (hcount.mono (by simp) (by simp))
  have hsys : v.sys = s.sys := hall.2 .sys (by simp)
  rw [State.ruleAct_reset (by rw [hcount.1 _ (by simpa using hoff), hA']), State.unitRequest_begin _ (by decide) (by decide) (by decide)
    ((State.sameCycle_congr hsys).trans hcyc) ((State.unitOf_congr hsys _).trans hunit)]
  have hslow : v.slowCycle = s.slowCycle := by rw [State.slowCycle, hsys, State.slowCycle]
  rw [hslow]
  exact ⟨_, rfl, State.unitOf_setUnit_same _ _ _, rfl, ((hall.mono (by simp) (by simp)).rcUse (by simp)).setUnit _ _ (by simp)⟩

/-- A message whose rule records it, raises SAFE and FAULT_N, and signals its line. -/
theorem State.ruleSafe_spec {m : FaultMsg} {r : List FaultMsg} {k line : Nat} (hopen : s.open_ 0x05 = true) (hinj : m.inj = true)
    (hk : k < 64) (hh : s.ruleHits m k = true) (hl : ∀ j, j < k → s.ruleHits m j = false) (hline : line < 8)
    (hA : s.rd (FLT_RULE_A k) = BitVec.ofNat 32 (0x20023 + 4 * line)) (hnone : s.get FLT_OPEN_REC = 0) (h6 : s.inReset 0x06 = false) :
    ∃ t, t = ({ s with fltQ := r } : State).faultTake m ∧ t.fltQ = r ∧ t.getBit FLT_OPEN_REC 0 = true ∧ t.getBit FLT_FN_REC 0 = true ∧
      t.rd (FLT_REC_W0 0) = recW0 m true ∧ t.rd (FLT_REC_ADDR_HI 0) = recHi m (some k) ∧ t.get FLT_STAT_SAFE = 1 ∧
      (∀ j, j < 3 → s.routed j (14 + line) = true → t.getBit (INTC_PEND_P j 0) (14 + line) = true) ∧
      s.advanced t (FLT_CNT 0) 1 ∧ s.advanced t (FLT_CNT 1) 1 ∧ s.advanced t (FLT_CNT 6) 1 ∧ s.parts [.regs, .live, .fltQ] t := by
  have hu := s.only_msgCounted m r
  have hq := s.fltQ_msgCounted m r
  have hcnt := s.cnt_msgCounted m r
  have hA' := (s.ruleA_msgCounted m r k).trans hA
  obtain ⟨hlog, -, -, hfn, -⟩ := ruleA_irqSafe hline
  have honLog : (s.msgCounted m r).on (FLT_RULE_A_LOG k) = true :=
    State.on_eq_true.2 (by rw [State.ruleA_field hA' (f := FLT_RULE_A_LOG) rfl]; exact hlog ▸ by decide)
  have honFn : (s.msgCounted m r).on (FLT_RULE_A_FAULTN k) = true :=
    State.on_eq_true.2 (by rw [State.ruleA_field hA' (f := FLT_RULE_A_FAULTN) rfl]; exact hfn ▸ by decide)
  have hfree (i : Nat) : s.getBit FLT_OPEN_REC i = false := by rw [State.getBit, hnone, Nat.zero_testBit]
  have hrec := State.recLog_opens m (some k) true (s := s.msgCounted m r) (n := 0)
    (by rw [State.recOf_msgCounted, State.recOf_none fun i _ h => absurd h (by simp [hfree])]) (by decide)
    (by rw [State.openBit_msgCounted, hfree]) fun i hi => absurd hi (by omega)
  rw [State.faultTake_rule m r hk hh hl, if_pos honLog, honFn, hrec]
  generalize s.msgCounted m r = u at hu hq hcnt hA'
  obtain ⟨hopen0, hfn0, hw0, -, hhi, -, -, -, hcnt1, honly⟩ := u.recOpen_spec m 0 (some k) true (by decide)
  generalize u.recOpen 0 m (some k) true = v at hopen0 hfn0 hw0 hhi hcnt1 honly
  have hv : s.only (recOffs 0 ++ [FLT_OPEN, FLT_FN, FLT_STAT]) [.live, .fltQ] v :=
    (hu.mono (by simp) (by simp)).trans (honly.mono (by simp) (by simp))
  have hkeep (o : Nat) (ho : o < 0x050000 ∨ 0x050400 ≤ o) : o ∉ recOffs 0 ++ [FLT_OPEN, FLT_FN, FLT_STAT] := by
    have hle : ∀ o ∈ recOffs 0 ++ [FLT_OPEN, FLT_FN, FLT_STAT], 0x050000 ≤ o ∧ o < 0x050400 := by decide
    exact fun h => by have := hle o h; omega
  have hin (b : Nat) : v.inReset b = s.inReset b := hv.inReset_eq (hkeep _ (by decide)) (hkeep _ (by decide)) (by simp) b
  have hroute (j : Nat) : v.getBit (INTC_ROUTE_TGT (14 + line)) j = s.getBit (INTC_ROUTE_TGT (14 + line)) j :=
    State.getBit_congr (f := INTC_ROUTE_TGT (14 + line)) (hv.1 _ (hkeep _ (by simp only [INTC_ROUTE_TGT, INTC_ROUTE]; omega))) j
  rw [State.ruleAct_irqSafe hline (by rw [hv.1 _ (hkeep _ (by simp only [FLT_RULE_A]; omega)), hA])]
  have hedge : v.only pendLow [] (v.edgeIrq 0x05 (14 + line)) := (v.only_refl _ _).edgeIrq _ (by omega) (by simp)
  have hpend (j : Nat) (hj : j < 3) (hr : s.routed j (14 + line) = true) : (v.edgeIrq 0x05 (14 + line)).getBit (INTC_PEND_P j 0) (14 + line) = true := by
    have h := State.getBit_edgeIrq (s := v) (blk := 0x05) (n := 14 + line) (by rw [hin]; exact (State.open_parts hopen).1) (by rw [hin, h6])
      (by omega) hj (by rw [hroute]; exact hr)
    rwa [show (14 + line) / 32 = 0 by omega, show (14 + line) % 32 = 14 + line by omega] at h
  generalize v.edgeIrq 0x05 (14 + line) = w at hedge hpend
  have hput : w.only [FLT_STAT] [] (w.put FLT_STAT_SAFE 1) := (w.only_refl _ _).put _ (by decide)
  have hlast : v.only (pendLow ++ [FLT_STAT]) [] (w.put FLT_STAT_SAFE 1) := (hedge.mono (by simp) (by simp)).trans (hput.mono (by simp) (by simp))
  have hsafe : (w.put FLT_STAT_SAFE 1).get FLT_STAT_SAFE = 1 := State.get_put_val _ _ _ rfl
  have hcntv (j : Nat) : (w.put FLT_STAT_SAFE 1).cnt (FLT_CNT j) = v.cnt (FLT_CNT j) := State.cnt_congr (hlast.2 .live (by simp)) _
  refine ⟨_, rfl, ?_, ?_, ?_, ?_, ?_, hsafe, fun j hj hr => ?_, ?_, ?_, ?_,
    ((hv.mono (List.subset_append_left _ (pendLow ++ [FLT_STAT])) (List.Subset.refl _)).trans
      (hlast.mono (List.subset_append_right _ _) (by simp))).2⟩
  · rw [show State.fltQ _ = v.fltQ from hlast.2 .fltQ (by simp), honly.2 .fltQ (by simp), hq]
  · exact (State.getBit_congr (f := FLT_OPEN_REC) (hlast.1 _ (by decide)) 0).trans hopen0
  · exact (State.getBit_congr (f := FLT_FN_REC) (hlast.1 _ (by decide)) 0).trans hfn0
  · exact (hlast.1 _ (by decide)).trans hw0
  · exact (hlast.1 _ (by decide)).trans hhi
  · refine (State.getBit_congr (f := INTC_PEND_P j 0) (hput.1 _ ?_) _).trans (hpend j hj hr)
    simp only [INTC_PEND_P, INTC_PEND, FLT_STAT, List.mem_singleton]
    omega
  · rw [State.advanced, hcntv, hcnt1, if_neg (by decide), hcnt, if_pos (.inl rfl)]
  · rw [State.advanced, hcntv, hcnt1, if_pos rfl, hcnt, if_neg (by simp)]
  · rw [State.advanced, hcntv, hcnt1, if_neg (by decide), hcnt, if_pos (.inr ⟨rfl, hinj⟩)]

end

/-! ### The collector's commands -/

theorem intcKind_rule {line : Nat} (h : line < 8) : intcKind (14 + line) = some true :=
  (show ∀ l : Fin 8, intcKind (14 + l.val) = some true by decide) ⟨line, h⟩

theorem blkOf_rec (n : Fin 16) : blkOf (FLT_REC_W0 n.val) = 0x05 := (show ∀ n : Fin 16, blkOf (FLT_REC_W0 n.val) = 0x05 by decide) n

theorem State.ackCmd_run (s : State) (off req : Nat) (f : State → State × Nat) (hd : s.dark = false) (h : s.inReset (blkOf off) = false) :
    s.ackCmd off req f = (f s).1.answer req (f s).2 0 := by simp [State.ackCmd, hd, h]

/-- Settles O45: records opened and merged, the rules' actions, the overflow and the orphan, and the commands of the collector. -/
theorem faultRecords : Obligations.FaultRecords := by
  unfold Obligations.FaultRecords
  refine ⟨?_, ?_, ?_, ?_, ?_, ?_, ?_, ?_, ?_, ?_, ?_, ?_⟩
  · intro m r n s hopen hq hinj hrule hn hfree hlt hsrc
    obtain ⟨t, rfl, hq', ho, hfn, hw0, hlo, hhi, hmc, ht0, ht1, hc0, hc1, honly⟩ := State.opens_spec (r := r) hrule hn hfree hlt hsrc
    obtain ⟨h1, h2, h3, h4, -, h6⟩ := recW0_fields m false
    obtain ⟨hhi0, -, hhi2⟩ := recHi_fields m none (by decide)
    have hget {f : Fld} {w : Word} (h : State.rd (({ s with fltQ := r } : State).faultTake m) f.off = w) :
        State.get (({ s with fltQ := r } : State).faultTake m) f = wordField w f.lo f.w := by rw [State.get, h]
    refine ⟨_, exec_faultProcess m r hopen hq, hq', ho, hfn, (hget (f := FLT_REC_W0_SRC n) hw0).trans h1,
      (hget (f := FLT_REC_W0_KIND n) hw0).trans h2, (hget (f := FLT_REC_W0_LKIND n) hw0).trans h3,
      (hget (f := FLT_REC_W0_SEV n) hw0).trans h4, ?_, ?_, ?_, hmc, ht0, ht1, hc0, hc1, honly⟩
    · rw [hget (f := FLT_REC_W0_INJ n) hw0]
      exact h6.trans (by rw [hinj]; rfl)
    · rw [hget (f := FLT_REC_ADDR_LO_ADDR n) hlo, hget (f := FLT_REC_ADDR_HI_ADDR n) hhi]
      have hlow : wordField (BitVec.ofNat 32 m.addr) 0 32 = m.addr % 2 ^ 32 := by simp [wordField]
      rw [show wordField (BitVec.ofNat 32 m.addr) (FLT_REC_ADDR_LO_ADDR n).lo (FLT_REC_ADDR_LO_ADDR n).w = m.addr % 2 ^ 32 from hlow,
        show wordField (recHi m none) (FLT_REC_ADDR_HI_ADDR n).lo (FLT_REC_ADDR_HI_ADDR n).w = m.addr / 2 ^ 32 % 2 ^ 16 from hhi0]
      omega
    · rw [hget (f := FLT_REC_ADDR_HI_MATCH n) hhi]
      exact hhi2
  · intro m r n s hopen hq hinj hrule hn ho hsrc hlt hsev
    obtain ⟨t, rfl, hq', hmc, hk, hl, hs, ht1, hc0, hc2, honly⟩ := State.merges_spec (r := r) hrule hn ho hsrc hlt hsev
    have hout : FLT_OPEN ∉ mergeOffs n ++ [FLT_STAT] ∧ FLT_REC_T0 n ∉ mergeOffs n ++ [FLT_STAT] ∧ FLT_REC_T0 n + 4 ∉ mergeOffs n ++ [FLT_STAT] := by
      simp only [mergeOffs, FLT_OPEN, FLT_REC_W0, FLT_REC_MCOUNT, FLT_REC_T1, FLT_REC_T0, FLT_STAT, List.cons_append, List.nil_append,
        List.mem_cons, List.not_mem_nil, or_false]
      omega
    exact ⟨_, exec_faultProcess m r hopen hq, hq', honly.1 _ hout.1, hmc, hk, hl, hs, ht1, honly.rd64_eq hout.2.1 hout.2.2, hc0, hc2, honly⟩
  · intro m r k line s hopen hq hinj hk hh hl hline hA hnone h6
    obtain ⟨t, rfl, hq', ho, hfn, hw0, hhi, hsafe, hpend, hc0, hc1, hc6, hparts⟩ :=
      State.ruleSafe_spec (r := r) hopen hinj hk hh hl hline hA hnone h6
    obtain ⟨-, -, -, -, h5, h6'⟩ := recW0_fields m true
    obtain ⟨-, hrule, hmatch⟩ := recHi_fields m (some k) hk
    refine ⟨_, exec_faultProcess m r hopen hq, hq', ho, hfn, ?_, ?_, ?_, ?_, hsafe, faultN_of_record hfn, fun j hj hr => ?_, hc0, hc1, hc6, hparts⟩
    · rw [State.get, show (FLT_REC_W0_FN 0).off = FLT_REC_W0 0 from rfl, hw0]
      exact h5
    · rw [State.get, show (FLT_REC_W0_INJ 0).off = FLT_REC_W0 0 from rfl, hw0]
      exact h6'.trans (by rw [hinj]; rfl)
    · rw [State.get, show (FLT_REC_ADDR_HI_RULE 0).off = FLT_REC_ADDR_HI 0 from rfl, hhi]
      exact hrule
    · rw [State.get, show (FLT_REC_ADDR_HI_MATCH 0).off = FLT_REC_ADDR_HI 0 from rfl, hhi]
      exact hmatch
    · rw [State.intcP, intcKind_rule hline, show (14 + line) / 32 = 0 by omega, show (14 + line) % 32 = 14 + line by omega]
      exact hpend j hj hr
  · intro m r s hopen hq hinj hrule hfull hsrc
    obtain ⟨t, rfl, hq', hspec⟩ := State.overflow_spec (r := r) hrule hfull hsrc
    exact ⟨_, exec_faultProcess m r hopen hq, hq', hspec⟩
  · intro m r k s hopen hq hinj hk hh hl hA
    obtain ⟨t, rfl, hq', hfn, hspec⟩ := State.orphan_spec (r := r) hk hh hl hA
    exact ⟨_, exec_faultProcess m r hopen hq, hq', hfn, faultN_of_orphan hfn, hspec⟩
  · intro m r k s hopen hq hinj hk hh hl hA hunit hcyc
    obtain ⟨t, rfl, hspec⟩ := State.ruleReset_spec (r := r) hk hh hl hA hunit hcyc
    exact ⟨_, exec_faultProcess m r hopen hq, hspec⟩
  · intro mask s hr
    refine ⟨s.recClose mask.toNat, congrArg Host.Outcome.next (s.cmd_run FLT_OPEN _ (State.dark_of_runs (by decide) hr) hr),
      fun n hn => ⟨State.getBit_recClose _ (.inl ⟨rfl, rfl⟩) mask hn, State.getBit_recClose _ (.inr ⟨rfl, rfl⟩) mask hn⟩, s.only_recClose _⟩
  · intro n who s hr
    have hexec : exec (.faultRecordRead n 0 who) s = .next _ :=
      congrArg Host.Outcome.next (s.readCmd_run (FLT_REC_W0 n.val) (whoKey who) (fun s => s.recRead (whoKey who) n.val (0 : Fin 8).val)
      (State.dark_of_runs (by decide) hr) (by rw [blkOf_rec, hr]))
    have hread : s.recRead (whoKey who) n.val (0 : Fin 8).val =
        ({ s with recLatch := Tab.set (fun _ => none) s.recLatch (16 * whoKey who + n.val) (some (s.recWords n.val)) },
          (s.rd (FLT_REC_W0 n.val)).toNat) := by
      rw [State.recRead]
      exact if_pos rfl
    simp only [hread] at hexec
    refine ⟨_, hexec, rfl, Tab.get_set_same (fun _ => none) s.recLatch (16 * whoKey who + n.val) (some (s.recWords n.val)), ((s.only_refl _ _).with_recLatch _ (by simp)).answer _ _ _ (by simp)⟩
  · intro n w who l s hr hw hl
    have hexec : exec (.faultRecordRead n w who) s = .next _ :=
      congrArg Host.Outcome.next (s.readCmd_run (FLT_REC_W0 n.val) (whoKey who) (fun s => s.recRead (whoKey who) n.val w.val)
      (State.dark_of_runs (by decide) hr) (by rw [blkOf_rec, hr]))
    have hread : s.recRead (whoKey who) n.val w.val = (s, (l.getD (w.val - 1) 0#32).toNat) := by
      rw [State.recRead, if_neg hw]
      simp only [hl]
    simp only [hread] at hexec
    exact ⟨_, hexec, rfl, (s.only_refl _ _).answer _ _ _ (by simp)⟩
  · intro s hr
    refine ⟨s.put FLT_STAT_SAFE 0, congrArg Host.Outcome.next (s.cmd_run FLT_CMD _ (State.dark_of_runs (by decide) hr) hr),
      State.get_put_val _ _ _ rfl, fun f hf => ?_, (s.only_refl _ _).put _ (by decide)⟩
    have hap : ∀ f ∈ [FLT_STAT_REC_OVF, FLT_STAT_MSG_LOST, FLT_STAT_FN_ORPHAN, FLT_STAT_SAT], f.apart FLT_STAT_SAFE = true := by decide
    exact State.get_put_apart _ _ (hap f hf)
  · intro w who s hr hf
    have hexec : exec (.faultInject w who) s = .next _ := congrArg Host.Outcome.next (s.ackCmd_run FLT_INJ_W0 (whoKey who)
      (fun s => if s.on MPC_MODE_FTEST then (s.injWrite w, 0) else (s, 0x05)) (State.dark_of_runs (by decide) hr) hr)
    simp only [hf, Bool.false_eq_true, if_false] at hexec
    exact ⟨_, hexec, rfl, (s.only_refl _ _).answer _ _ _ (by simp)⟩
  · intro w who s hr hf hw hroom
    have hexec : exec (.faultInject w who) s = .next _ := congrArg Host.Outcome.next (s.ackCmd_run FLT_INJ_W0 (whoKey who)
      (fun s => if s.on MPC_MODE_FTEST then (s.injWrite w, 0) else (s, 0x05)) (State.dark_of_runs (by decide) hr) hr)
    simp only [hf, if_true] at hexec
    have hwr : s.only [FLT_INJ_W0] [] (s.wr FLT_INJ_W0 (w &&& 0x3FFFF#32)) := (s.only_refl _ _).wr _ (by decide)
    have hinj : s.injWrite w = { s.wr FLT_INJ_W0 (w &&& 0x3FFFF#32) with fltQ := fltInsert ⟨wordField w 0 8, wordField w 8 8, wordField w 16 2,
        s.get FLT_INJ_ADDR_LO_ADDR + 2 ^ 32 * s.get FLT_INJ_ADDR_HI_ADDR, true, s.sys.t⟩ s.fltQ } := by
      rw [State.injWrite]
      refine (if_pos hw).trans ?_
      rw [(hwr.roomy hroom (by decide) (by decide) (by simp)).faultMsg_eq, hwr.get_eq (f := FLT_INJ_ADDR_LO_ADDR) (by decide),
        hwr.get_eq (f := FLT_INJ_ADDR_HI_ADDR) (by decide)]
      rfl
    rw [hinj] at hexec
    exact ⟨_, hexec, rfl, rfl, ((hwr.mono (by simp) (by simp)).with_fltQ _ (by simp)).answer _ _ _ (by simp)⟩

end Sys2Proof.Machine

/-! Commands to engine groups (R333 to R335). -/
namespace Sys2Proof.Machine

set_option Elab.async false

section
variable {s : State}

/-! ### What an operation on one engine touches -/

/-- From `s` to `t` nothing has changed but engine `n`, its registers and the channel it drives. -/
structure State.owns (s : State) (n : Nat) (t : State) : Prop where
  only : s.only [GG_STAT n, GG_SCF n] [.gg, .lsv] t
  others : ∀ m, m ≠ n → t.eng m = s.eng m
  grpHit : t.gg.grpHit = s.gg.grpHit
  arm : t.gg.arm = s.gg.arm

namespace State.owns

variable {n : Nat} {t u : State}

theorem refl (s : State) (n : Nat) : s.owns n s := ⟨s.only_refl _ _, fun _ _ => rfl, rfl, rfl⟩

theorem trans (h : s.owns n t) (k : t.owns n u) : s.owns n u :=
  ⟨h.only.trans k.only, fun m hm => (k.others m hm).trans (h.others m hm), k.grpHit.trans h.grpHit, k.arm.trans h.arm⟩

theorem of_gg (honly : s.only [GG_STAT n, GG_SCF n] [.gg, .lsv] t) (hgg : t.gg = s.gg) : s.owns n t :=
  ⟨honly, fun m _ => by rw [State.eng, hgg, State.eng], by rw [hgg], by rw [hgg]⟩

theorem put (h : s.owns n t) {f : Fld} (v : Nat) (hf : f.off = GG_STAT n ∨ f.off = GG_SCF n) : s.owns n (t.put f v) :=
  h.trans (of_gg ((t.only_refl _ _).put _ (by obtain h | h := hf <;> simp [h])) (State.put_gg _ _ _))

theorem setEng (h : s.owns n t) (e : Eng) : s.owns n (t.setEng n e) :=
  h.trans ⟨(t.only_refl _ _).with_gg _ (by simp), fun m hm => (t.eng_setEng n e m).trans (if_neg hm), rfl, rfl⟩

theorem setCh (h : s.owns n t) (k : Nat) (c : LsCh) : s.owns n (t.setCh k c) :=
  h.trans (of_gg ((t.only_refl _ _).with_lsv _ (by simp)) rfl)

theorem pilotRun (h : s.owns n t) : s.owns n (t.pilotRun n) := by
  rw [State.pilotRun]
  split
  · rw [State.pilotStart]
    split
    · exact h.setCh _ _
    · exact h
  · exact h

theorem pilotHalt (h : s.owns n t) : s.owns n (t.pilotHalt n) := by
  rw [State.pilotHalt]
  split
  · exact (h.setCh _ _).setCh _ _
  · exact h

theorem engStop (h : s.owns n t) (st : Nat) : s.owns n (t.engStop n st) :=
  ((h.put _ (.inl rfl)).put _ (.inl rfl)).pilotHalt

end State.owns

/-- A channel does not show in the registers or the engines. -/
theorem State.only_pilotRun (n : Nat) : s.only [] [.lsv] (s.pilotRun n) := by
  rw [State.pilotRun]
  split
  · rw [State.pilotStart]
    split
    · exact (s.only_refl _ _).with_lsv _ (by simp)
    · exact s.only_refl _ _
  · exact s.only_refl _ _

theorem State.eng_congr {t : State} (h : t.gg = s.gg) (n : Nat) : t.eng n = s.eng n := by rw [State.eng, h, State.eng]

/-! ### One engine -/

theorem State.owns_freshStart (n : Nat) : s.owns n (s.freshStart n) :=
  (((((((((State.owns.refl s n).put _ (.inl rfl)).put _ (.inl rfl)).put _ (.inl rfl)).put _ (.inr rfl)).put _ (.inr rfl)).put _
    (.inr rfl)).setEng _).setEng _).pilotRun

theorem State.owns_ggStart (n : Nat) : s.owns n (s.ggStart n) := by
  rw [State.ggStart]
  split
  · exact State.owns_freshStart n
  · exact .refl s n

theorem State.owns_ggStop (n : Nat) : s.owns n (s.ggStop n) := by
  rw [State.ggStop]
  split
  · split
    · exact (State.owns.refl s n).engStop 0
    · split
      · exact ((State.owns.refl s n).setEng _).engStop 0
      · exact (State.owns.refl s n).setEng _
  · exact (((State.owns.refl s n).setEng _).put _ (.inl rfl)).put _ (.inl rfl)
  · exact .refl s n

theorem State.owns_ggResume (n : Nat) : s.owns n (s.ggResume n) := by
  rw [State.ggResume]
  split
  · exact (((State.owns.refl s n).setEng _).put _ (.inl rfl)).pilotRun
  · exact .refl s n

theorem State.owns_groupOp (op n : Nat) : s.owns n (s.groupOp op n) := by
  unfold State.groupOp
  split
  · exact State.owns_ggStart n
  · exact State.owns_ggStop n
  · exact State.owns_ggResume n
  · exact (State.owns.refl s n).setEng _
  · exact .refl s n

/-- The registers of a fresh start (R331). -/
def State.freshRegs (s : State) (n : Nat) : State :=
  (((((s.put (GG_STAT_STATE n) 1).put (GG_STAT_PC n) (s.get (GG_EXEC_START_PC n))).put (GG_STAT_CAUSE n) 0).put (GG_SCF_Z n) 0).put
    (GG_SCF_EQ n) 0).put (GG_SCF_LT n) 0

theorem State.freshStart_eq (n : Nat) : s.freshStart n = (((s.freshRegs n).modEng n fun e =>
    { e with fetched := none, inj := false, kept := none, ran := true, stopReq := false, ill := false }).clkRestart n).pilotRun n := by
  rw [State.freshStart, State.freshRegs]

theorem State.only_setEng (n : Nat) (e : Eng) : s.only [] [.gg] (s.setEng n e) := s.only_with_gg _

theorem State.rd_freshStart (n o : Nat) : (s.freshStart n).rd o = (s.freshRegs n).rd o := by
  rw [State.freshStart_eq]
  have hclk (u : State) : u.only [] [.gg] (u.clkRestart n) := u.only_setEng n _
  have hmod (u : State) (f : Eng → Eng) : u.only [] [.gg] (u.modEng n f) := u.only_setEng n _
  rw [(State.only_pilotRun n).1 _ (by simp), (hclk _).1 _ (by simp), (hmod _ _).1 _ (by simp)]

theorem State.get_freshRegs (n : Nat) :
    (s.freshRegs n).get (GG_STAT_STATE n) = 1 ∧ (s.freshRegs n).get (GG_STAT_PC n) = s.get (GG_EXEC_START_PC n) := by
  have hscf (f g : Fld) (hg : g.off = GG_STAT n) (hf : f.off = GG_SCF n) : g.off ≠ f.off := by
    rw [hf, hg]
    simp only [GG_STAT, GG_SCF]
    omega
  have hlt : s.get (GG_EXEC_START_PC n) < 2 ^ (GG_STAT_PC n).w := s.get_lt (GG_EXEC_START_PC n)
  constructor
  · rw [State.freshRegs, State.get_put_ne _ _ _ _ (hscf _ _ rfl rfl), State.get_put_ne _ _ _ _ (hscf _ _ rfl rfl),
      State.get_put_ne _ _ _ _ (hscf _ _ rfl rfl), State.get_put_apart _ _ rfl, State.get_put_apart _ _ rfl, State.get_put_val _ _ _ rfl]
  · rw [State.freshRegs, State.get_put_ne _ _ _ _ (hscf _ _ rfl rfl), State.get_put_ne _ _ _ _ (hscf _ _ rfl rfl),
      State.get_put_ne _ _ _ _ (hscf _ _ rfl rfl), State.get_put_apart _ _ rfl, State.get_put_self _ rfl hlt]

/-- A fresh start runs the engine from START_PC. -/
theorem State.get_freshStart (n : Nat) :
    (s.freshStart n).get (GG_STAT_STATE n) = 1 ∧ (s.freshStart n).get (GG_STAT_PC n) = s.get (GG_EXEC_START_PC n) := by
  obtain ⟨hst, hpc⟩ := s.get_freshRegs n
  exact ⟨(State.get_congr (State.rd_freshStart n _)).trans hst, (State.get_congr (State.rd_freshStart n _)).trans hpc⟩

/-- An engine that resumes runs with the instruction it kept. -/
theorem State.get_runAgain {n : Nat} {w : Word} {inj : Bool} (h : (s.eng n).kept = some (w, inj)) :
    (s.runAgain n).get (GG_STAT_STATE n) = 1 ∧ ((s.runAgain n).eng n).fetched = some w := by
  have honly := State.only_pilotRun (s := (s.setEng n { s.eng n with
      fetched := (s.eng n).kept.map (·.1), inj := ((s.eng n).kept.map (·.2)).getD false, kept := none, ran := true, ill := false }).put
    (GG_STAT_STATE n) 1) n
  refine ⟨(honly.get_eq (by simp)).trans (State.get_put_val _ _ _ rfl), ?_⟩
  have heng : (s.runAgain n).eng n = { s.eng n with
      fetched := (s.eng n).kept.map (·.1), inj := ((s.eng n).kept.map (·.2)).getD false, kept := none, ran := true, ill := false } :=
    (State.eng_congr (honly.2 .gg (by simp)) n).trans ((State.eng_congr (State.put_gg _ _ _) n).trans
      ((State.eng_setEng _ _ _ _).trans (if_pos rfl)))
  rw [heng, h]
  rfl

/-! ### A group -/

/-- One member's turn in a group operation (R333, R335). -/
def State.memberAct (s : State) (op n : Nat) : State :=
  if s.gg.grpHit.testBit n then s
  else { s.groupOp op n with gg := { (s.groupOp op n).gg with grpHit := setBitTo (s.groupOp op n).gg.grpHit n true } }

theorem State.groupAct_eq (g op : Nat) : s.groupAct g op = s.each (s.members g) fun s n => s.memberAct op n := rfl

/-- What a state and a later one share for engine `n` while only other engines have been commanded. -/
structure State.keepsFor (s : State) (n : Nat) (t : State) : Prop where
  rd : ∀ o, o ≠ GG_GSTAT → (∀ m, m ≠ n → o ≠ GG_STAT m ∧ o ≠ GG_SCF m) → t.rd o = s.rd o
  eng : t.eng n = s.eng n
  sys : t.sys = s.sys
  hit : t.gg.grpHit.testBit n = s.gg.grpHit.testBit n

theorem State.keepsFor.refl (s : State) (n : Nat) : s.keepsFor n s := ⟨fun _ _ _ => rfl, rfl, rfl, rfl⟩

theorem State.keepsFor.trans {n : Nat} {t u : State} (h : s.keepsFor n t) (k : t.keepsFor n u) : s.keepsFor n u :=
  ⟨fun o hg ho => (k.rd o hg ho).trans (h.rd o hg ho), k.eng.trans h.eng, k.sys.trans h.sys, k.hit.trans h.hit⟩

theorem testBit_setBitTo_ne {x i j : Nat} (h : j ≠ i) : (setBitTo x i true).testBit j = x.testBit j := by
  rw [setBitTo]
  split
  · rfl
  · next hx =>
    have hset : (x + 2 ^ i).testBit i = true := by
      rw [Nat.add_comm, Nat.testBit_two_pow_add_eq]
      simpa using hx
    have hsub := testBit_sub_two_pow_ne hset h
    rw [Nat.add_sub_cancel] at hsub
    rw [if_pos rfl, hsub]

/-- A member's turn leaves every other engine. -/
theorem State.keepsFor_memberAct {op m n : Nat} (h : n ≠ m) : s.keepsFor n (s.memberAct op m) := by
  rw [State.memberAct]
  split
  · exact .refl s n
  · have hop := State.owns_groupOp (s := s) op m
    generalize s.groupOp op m = u at hop ⊢
    refine ⟨fun o _ ho => ?_, hop.others n h, hop.only.2 .sys (by simp), ?_⟩
    · have := ho m (Ne.symm h)
      exact hop.only.1 o (by simpa using this)
    · exact (testBit_setBitTo_ne h).trans (by rw [hop.grpHit])

theorem State.keepsFor_each {op n : Nat} {l : List Nat} (h : n ∉ l) : s.keepsFor n (s.each l fun s m => s.memberAct op m) := by
  induction l generalizing s with
  | nil => exact .refl s n
  | cons m l ih =>
    rw [List.mem_cons, not_or] at h
    exact (State.keepsFor_memberAct h.1).trans (ih h.2)

theorem nodup_members (g : Nat) : (s.members g).Nodup := List.nodup_range.filter _

theorem mem_members {g n : Nat} : n ∈ s.members g ↔ n < 16 ∧ s.getBit (GG_GMEM_MEM g) n = true := mem_bitList

theorem GG_STAT_ne_GSTAT (n : Nat) : GG_STAT n ≠ GG_GSTAT := by
  simp only [GG_STAT, GG_GSTAT]
  omega

theorem GG_STAT_own {n m : Nat} (h : m ≠ n) : GG_STAT n ≠ GG_STAT m ∧ GG_STAT n ≠ GG_SCF m := by
  simp only [GG_STAT, GG_SCF]
  omega

/-- What a group operation comes to for one of its members. -/
theorem State.groupAct_member {g op n : Nat} (hn : n ∈ s.members g) (hit : s.gg.grpHit = 0) :
    ∃ u, s.keepsFor n u ∧ (u.groupOp op n).rd (GG_STAT n) = (s.groupAct g op).rd (GG_STAT n) ∧
      (s.groupAct g op).eng n = (u.groupOp op n).eng n ∧ (s.groupAct g op).gg.grpHit.testBit n = true := by
  obtain ⟨l, l', hl⟩ := List.append_of_mem hn
  have hnd := nodup_members (s := s) g
  rw [hl, List.nodup_append, List.nodup_cons] at hnd
  obtain ⟨-, ⟨hl', -⟩, hdis⟩ := hnd
  have hnl : n ∉ l := fun h => hdis n h n (by simp) rfl
  have hbefore := State.keepsFor_each (s := s) (op := op) hnl
  have heq : s.groupAct g op = ((s.each l fun s m => s.memberAct op m).memberAct op n).each l' fun s m => s.memberAct op m := by
    rw [State.groupAct_eq, hl, State.each, List.foldl_append, List.foldl_cons]
    rfl
  generalize (s.each l fun s m => s.memberAct op m) = u at hbefore heq
  have hact : u.memberAct op n = { u.groupOp op n with gg := { (u.groupOp op n).gg with grpHit := setBitTo (u.groupOp op n).gg.grpHit n true } } := by
    rw [State.memberAct, if_neg]
    rw [hbefore.hit, hit, Nat.zero_testBit]
    decide
  have hafter := State.keepsFor_each (s := u.memberAct op n) (op := op) hl'
  rw [← heq, hact] at hafter
  exact ⟨u, hbefore, (hafter.rd _ (GG_STAT_ne_GSTAT n) fun m hm => GG_STAT_own hm).symm, hafter.eng, hafter.hit.trans (testBit_setBitTo _ _ _)⟩

/-- A group operation changes its members' registers, engines and channels alone. -/
theorem State.groupAct_parts (g op : Nat) : s.parts [.regs, .gg, .lsv] (s.groupAct g op) ∧ (s.groupAct g op).gg.arm = s.gg.arm := by
  rw [State.groupAct_eq]
  generalize s.members g = l
  induction l generalizing s with
  | nil => exact ⟨fun p _ => by cases p <;> rfl, rfl⟩
  | cons m l ih =>
    have hturn : s.parts [.regs, .gg, .lsv] (s.memberAct op m) ∧ (s.memberAct op m).gg.arm = s.gg.arm := by
      have hop := State.owns_groupOp (s := s) op m
      rw [State.memberAct]
      split
      · exact ⟨fun p _ => by cases p <;> rfl, rfl⟩
      · generalize s.groupOp op m = u at hop ⊢
        have hall : s.only [GG_STAT m, GG_SCF m] [.gg, .lsv] { u with gg := { u.gg with grpHit := setBitTo u.gg.grpHit m true } } :=
          hop.only.with_gg _ (by simp)
        exact ⟨hall.2, hop.arm⟩
    obtain ⟨hp, ha⟩ := ih (s := s.memberAct op m)
    exact ⟨fun p hp' => Part.same_trans (hturn.1 p hp') (hp p hp'), ha.trans hturn.2⟩

theorem State.eng_groupAct_other {g op m : Nat} (h : m ∉ s.members g) :
    (s.groupAct g op).eng m = s.eng m ∧ (s.groupAct g op).rd (GG_STAT m) = s.rd (GG_STAT m) := by
  have hkeep := State.keepsFor_each (s := s) (op := op) h
  rw [← State.groupAct_eq] at hkeep
  exact ⟨hkeep.eng, hkeep.rd _ (GG_STAT_ne_GSTAT m) fun k hk => GG_STAT_own hk⟩

/-- The clock restart of a group writes no register. -/
theorem State.only_groupAct_clkr (g : Nat) : s.only [] [.gg] (s.groupAct g 4) := by
  rw [State.groupAct_eq]
  refine State.only_each (fun t m _ => ?_) s
  rw [State.memberAct]
  split
  · exact t.only_refl _ _
  · exact (t.only_setEng m _).with_gg _ (by simp)

/-! ### Arming -/

/-- A group that is armed or disarmed. -/
theorem State.setArm_spec {g : Nat} (hg : g < 4) (op : Option Nat) : (s.setArm g op).armed g = op ∧
    (s.setArm g op).getBit GG_GSTAT_ARMED g = op.isSome ∧ (s.setArm g op).gg.eng = s.gg.eng ∧ (s.setArm g op).gg.grpHit = s.gg.grpHit ∧
    (s.setArm g op).get GG_GSTAT_LATE = s.get GG_GSTAT_LATE ∧ s.only [GG_GSTAT] [.gg] (s.setArm g op) := by
  have hset : s.only [GG_GSTAT] [.gg] { s with gg := { s.gg with arm := Tab.set (fun _ => none) s.gg.arm g op } } :=
    (s.only_refl _ _).with_gg _ (by simp)
  have harm : Tab.get (fun _ => none) (Tab.set (fun _ => none) s.gg.arm g op) g = op := Tab.get_set_same (fun _ => none) s.gg.arm g op
  have hlate : State.get { s with gg := { s.gg with arm := Tab.set (fun _ => none) s.gg.arm g op } } GG_GSTAT_LATE = s.get GG_GSTAT_LATE := rfl
  cases op with
  | none =>
    exact ⟨harm, State.getBit_clrBit _ _ rfl, rfl, rfl, (State.get_put_apart _ _ rfl).trans hlate, hset.clrBit _ (by decide)⟩
  | some op =>
    exact ⟨harm, (State.getBit_setBit _ _ rfl hg).trans (by simp), rfl, rfl, (State.get_put_apart _ _ rfl).trans hlate,
      hset.setBit _ (by decide)⟩

theorem State.eng_of_eng {t : State} (h : t.gg.eng = s.gg.eng) (n : Nat) : t.eng n = s.eng n := by rw [State.eng, h, State.eng]

/-- A GG_GCMD command that its group takes. -/
theorem State.groupWrite_run {g op : Nat} {atTime : Bool} (hopen : s.open_ 0x10 = true) (ha : s.gg.actHit.testBit g = false) :
    s.cmd GG_GCMD (fun s => s.groupWrite g op atTime) = s.groupCmd g op atTime := by
  obtain ⟨hr, hi⟩ := State.open_parts hopen
  rw [s.cmd_run GG_GCMD _ (State.dark_of_runs (by decide) hr) hr, State.groupWrite, if_neg (by simp [ha, hi])]

theorem State.groupCmd_now {g op : Nat} (h : op ≤ 4) (h0 : op ≠ 0) : s.groupCmd g op false = (s.setArm g none).groupAct g op := by
  rw [State.groupCmd, if_neg (by omega), if_neg h0, if_neg (by decide)]

theorem State.groupCmd_arm {g op : Nat} (h : op ≤ 4) (h0 : op ≠ 0) : s.groupCmd g op true = s.setArm g (some op) := by
  rw [State.groupCmd, if_neg (by omega), if_neg h0, if_pos rfl]

/-- A group command that acts at once, seen from one member: the engine's state before its turn, and what the command leaves. -/
theorem State.groupNow_member {g op n : Nat} (hg : g < 4) (hn : n < 16) (hit : s.gg.grpHit = 0) (hm : s.getBit (GG_GMEM_MEM g) n = true) :
    ∃ u t, t = (s.setArm g none).groupAct g op ∧ s.keepsFor n u ∧ (u.groupOp op n).rd (GG_STAT n) = t.rd (GG_STAT n) ∧
      t.eng n = (u.groupOp op n).eng n ∧ t.gg.grpHit.testBit n = true ∧ t.armed g = none ∧
      (∀ m, m < 16 → s.getBit (GG_GMEM_MEM g) m = false → t.eng m = s.eng m ∧ t.rd (GG_STAT m) = s.rd (GG_STAT m)) ∧
      s.parts [.regs, .gg, .lsv] t := by
  obtain ⟨harm, -, heng, hhit, -, honly⟩ := s.setArm_spec hg none
  generalize s.setArm g none = v at harm heng hhit honly
  have hmem (k : Nat) : v.getBit (GG_GMEM_MEM g) k = s.getBit (GG_GMEM_MEM g) k :=
    State.getBit_congr (f := GG_GMEM_MEM g) (honly.1 _ (by simp only [GG_GMEM_MEM, GG_GMEM, GG_GSTAT, List.mem_singleton]; omega)) k
  have hstat (k : Nat) : v.rd (GG_STAT k) = s.rd (GG_STAT k) := honly.1 _ (by simpa using GG_STAT_ne_GSTAT k)
  have hkeep : s.keepsFor n v := ⟨fun o ho _ => honly.1 o (by simpa using ho), State.eng_of_eng heng n, honly.2 .sys (by simp), by rw [hhit]⟩
  obtain ⟨u, hu, hrd, he, hh⟩ := State.groupAct_member (s := v) (op := op) (mem_members.2 ⟨hn, (hmem n).trans hm⟩) (hhit.trans hit)
  obtain ⟨hparts, harm'⟩ := v.groupAct_parts g op
  refine ⟨u, _, rfl, hkeep.trans hu, hrd, he, hh, ?_, fun k hk hk' => ?_, fun p hp => ?_⟩
  · exact (congrArg (fun a => Tab.get (fun _ => none) a g) harm').trans harm
  · obtain ⟨h1, h2⟩ := State.eng_groupAct_other (s := v) (g := g) (op := op) (m := k) (fun h => by
      have := (mem_members.1 h).2
      rw [hmem, hk'] at this
      exact absurd this (by decide))
    exact ⟨h1.trans (State.eng_of_eng heng k), h2.trans (hstat k)⟩
  · exact Part.same_trans (honly.2 p (by simp only [List.mem_cons, List.not_mem_nil, or_false] at hp ⊢; exact fun h => hp (h.elim .inl fun h => .inr (.inl h)))) (hparts p hp)

theorem State.keepsFor.idling {u : State} {n : Nat} (h : s.keepsFor n u) : u.idling 0x10 = s.idling 0x10 := by
  rw [State.idling, h.sys, State.idling]

theorem State.keepsFor.stat {u : State} {n : Nat} (h : s.keepsFor n u) {f : Fld} (hf : f.off = GG_STAT n) : u.get f = s.get f := by
  refine State.get_congr ?_
  rw [hf]
  exact h.rd _ (GG_STAT_ne_GSTAT n) fun _ hm => GG_STAT_own hm

theorem GG_EXEC_ne (n m : Nat) : GG_EXEC n ≠ GG_GSTAT ∧ GG_EXEC n ≠ GG_STAT m ∧ GG_EXEC n ≠ GG_SCF m := by
  simp only [GG_EXEC, GG_GSTAT, GG_STAT, GG_SCF]
  omega

theorem GG_CLK_ne (n m : Nat) : GG_CLK n ≠ GG_GSTAT ∧ GG_CLK n ≠ GG_STAT m ∧ GG_CLK n ≠ GG_SCF m := by
  simp only [GG_CLK, GG_GSTAT, GG_STAT, GG_SCF]
  omega

theorem State.keepsFor.startPc {u : State} {n : Nat} (h : s.keepsFor n u) : u.get (GG_EXEC_START_PC n) = s.get (GG_EXEC_START_PC n) :=
  State.get_congr (h.rd (GG_EXEC n) (GG_EXEC_ne n n).1 fun m _ => (GG_EXEC_ne n m).2)

theorem State.keepsFor.clkInc {u : State} {n : Nat} (h : s.keepsFor n u) : u.get (GG_CLK_INC n) = s.get (GG_CLK_INC n) :=
  State.get_congr (h.rd (GG_CLK n) (GG_CLK_ne n n).1 fun m _ => (GG_CLK_ne n m).2)

/-! ### A group of one member -/

theorem bitList_two_pow {k n : Nat} (h : n < k) : bitList k (2 ^ n) = [n] := by
  rw [bitList, List.filter_congr (q := fun i => i == n) fun i _ => by simp [Nat.testBit_two_pow, beq_eq_decide, eq_comm], List.filter_beq, List.count_range]
  simp [h]

theorem State.groupAct_single {g op n : Nat} (h : s.members g = [n]) : s.groupAct g op = s.memberAct op n := by
  rw [State.groupAct_eq, h]
  rfl

theorem State.only_memberAct (op n : Nat) : s.only [GG_STAT n, GG_SCF n] [.gg, .lsv] (s.memberAct op n) := by
  rw [State.memberAct]
  split
  · exact s.only_refl _ _
  · exact (State.owns_groupOp op n).only.with_gg _ (by simp)

/-! ### Late commands -/

/-- A miss, in DL's queue or counted where the queue is full (R285). -/
theorem State.only_miss (kind src index deadline : Nat) : s.only [TIME_EVT] [.live, .time] (s.miss kind src index deadline) := by
  rw [State.miss]
  split
  · exact s.only_refl _ _
  · split
    · exact ((s.only_refl _ _).timeBump (by decide) (by simp) (by simp)).put _ (by simp [TIME_EVT_DL_OVF])
    · exact (s.only_refl _ _).with_time _ (by simp)

/-- A miss is TIME's own count. -/
theorem State.cnt_miss {o : Nat} (h : o ≠ TIME_CNT 9) (kind src index deadline : Nat) :
    (s.miss kind src index deadline).cnt o = s.cnt o := by
  rw [State.miss]
  split
  · rfl
  · split
    · rw [State.cnt_put, State.bump, State.cnt_count, if_neg h]
    · rfl

theorem satField_gg {n k : Nat} (hn : n < 16) (hk : k < 8) : satField (GG_CNT n k) = some GG_GSTAT_SAT := by
  rw [satField, show blkOf (GG_CNT n k) = 0x10 by simp only [blkOf, GG_CNT]; omega]
  rfl

/-- An instruction or a group command that acts late says so (R314, R335). -/
theorem State.lateReport_spec {n t : Nat} (hn : n < 16) (hr : s.roomy) (hlate : s.now - t < 2 ^ 32) :
    (s.lateReport n 0 t).get (GG_STAT_LATE n) = 1 ∧ (s.lateReport n 0 t).get (GG_STAT_STATE n) = s.get (GG_STAT_STATE n) ∧
      s.advanced (s.lateReport n 0 t) (GG_CNT n 0) 1 ∧ s.sent (s.lateReport n 0 t) 0x10 0x51 (n * 2 ^ 40 + (s.now - t)) ∧
      (∀ g, (s.lateReport n 0 t).getBit GG_GSTAT_LATE g = s.getBit GG_GSTAT_LATE g) ∧
      s.only [GG_STAT n, GG_GSTAT, TIME_EVT] [.live, .fltQ, .time] (s.lateReport n 0 t) := by
  have hsat := satField_gg hn (show 0 < 8 by decide)
  have hne : GG_STAT n ≠ GG_GSTAT := GG_STAT_ne_GSTAT n
  rw [State.lateReport, if_pos rfl]
  have h1 : s.only [GG_STAT n, GG_GSTAT] [.live] ((s.put (GG_STAT_LATE n) 1).bump (GG_CNT n 0)) :=
    ((s.only_refl _ _).put _ (by simp [GG_STAT_LATE])).trans (State.only_count _ _ _ (by simp) fun f hf => by
      rw [hsat, Option.some.injEq] at hf
      subst hf
      exact ⟨by simp [GG_GSTAT_SAT], fun h => absurd h (by decide)⟩)
  have hl : ((s.put (GG_STAT_LATE n) 1).bump (GG_CNT n 0)).get (GG_STAT_LATE n) = 1 :=
    (State.get_congr (State.rd_count _ _ hsat (by decide) hne)).trans (State.get_put_val _ _ _ rfl)
  have hst : ((s.put (GG_STAT_LATE n) 1).bump (GG_CNT n 0)).get (GG_STAT_STATE n) = s.get (GG_STAT_STATE n) :=
    (State.get_congr (State.rd_count _ _ hsat (by decide) hne)).trans (State.get_put_apart _ _ rfl)
  have hg : ((s.put (GG_STAT_LATE n) 1).bump (GG_CNT n 0)).get GG_GSTAT_LATE = s.get GG_GSTAT_LATE :=
    (State.get_count _ _ hsat (by decide) (by decide)).trans (State.get_put_ne _ _ _ _ hne.symm)
  have hc : s.advanced ((s.put (GG_STAT_LATE n) 1).bump (GG_CNT n 0)) (GG_CNT n 0) 1 := by
    rw [State.advanced, State.bump, State.cnt_count_self, State.cnt_put]
  generalize (s.put (GG_STAT_LATE n) 1).bump (GG_CNT n 0) = u at h1 hl hst hg hc ⊢
  have hru : u.roomy := h1.roomy hr (by simp [GG_STAT, GG_GSTAT, MPC_MODE]; omega) (by simp [GG_STAT, GG_GSTAT, RSTC_INRST]; omega) (by simp)
  have hs : s.sent (u.fault 0x10 0x51 (n * 2 ^ 40 + (s.now - t))) 0x10 0x51 (n * 2 ^ 40 + (s.now - t)) :=
    (hru.sent_fault _ _ _).of_eq (h1.2 .fltQ (by simp)) (by rw [h1.2 .sys (by simp)])
  have hf := hru.only_fault 0x10 0x51 (n * 2 ^ 40 + (s.now - t))
  rw [show min (s.now - t) (2 ^ 32 - 1) = s.now - t by omega]
  have hfc : (u.fault 0x10 0x51 (n * 2 ^ 40 + (s.now - t))).cnt (GG_CNT n 0) = u.cnt (GG_CNT n 0) := State.cnt_congr (hf.2 .live (by simp)) _
  generalize u.fault 0x10 0x51 (n * 2 ^ 40 + (s.now - t)) = v at hs hf hfc ⊢
  have hm := v.only_miss 3 0x10 n t
  have hmc : (v.miss 3 0x10 n t).cnt (GG_CNT n 0) = v.cnt (GG_CNT n 0) :=
    State.cnt_miss (by simp only [GG_CNT, TIME_CNT]; omega) _ _ _ _
  have hrd (o : Nat) (ho : o ≠ TIME_EVT) : (v.miss 3 0x10 n t).rd o = u.rd o := (hm.1 o (by simpa using ho)).trans (hf.1 o (by simp))
  have hstat : GG_STAT n ≠ TIME_EVT := by simp only [GG_STAT, TIME_EVT]; omega
  generalize v.miss 3 0x10 n t = w at hm hmc hrd ⊢
  exact ⟨(State.get_congr (hrd _ hstat)).trans hl, (State.get_congr (hrd _ hstat)).trans hst, (hmc.trans hfc).trans hc,
    (hm.2 .fltQ (by simp)).trans hs, fun g => (State.getBit_congr (f := GG_GSTAT_LATE) (hrd _ (by decide)) g).trans (by rw [State.getBit, hg, State.getBit]),
    ((h1.mono (os' := [GG_STAT n, GG_GSTAT, TIME_EVT]) (ps' := [.live, .fltQ, .time]) (by simp) (by simp)).trans
      (hf.mono (by simp) (by simp))).trans (hm.mono (by simp) (by simp))⟩

/-! ### Groups of the clock restart, and armed groups -/

/-- The clock restart of a group (R333). -/
theorem State.groupClkr_spec {g n : Nat} (hg : g < 4) (hn : n < 16) (hit : s.gg.grpHit = 0) (hm : s.getBit (GG_GMEM_MEM g) n = true) :
    ((s.setArm g none).groupAct g 4).armed g = none ∧
      ((s.setArm g none).groupAct g 4).eng n = { s.eng n with acc := (2 ^ 32 - s.get (GG_CLK_INC n)) % 2 ^ 32 } ∧
      ((s.setArm g none).groupAct g 4).getBit GG_GSTAT_ARMED g = false ∧
      (∀ m, m < 16 → s.getBit (GG_GMEM_MEM g) m = false → ((s.setArm g none).groupAct g 4).eng m = s.eng m) ∧
      s.only [GG_GSTAT] [.gg] ((s.setArm g none).groupAct g 4) ∧
      ((s.setArm g none).groupAct g 4).get GG_GSTAT_LATE = s.get GG_GSTAT_LATE := by
  obtain ⟨u, t, rfl, hu, -, he, -, harm, hoth, -⟩ := State.groupNow_member (op := 4) hg hn hit hm
  obtain ⟨-, hbit, -, -, hlate, harmed⟩ := s.setArm_spec hg none
  have hact := State.only_groupAct_clkr (s := s.setArm g none) g
  refine ⟨harm, he.trans ?_, (State.getBit_congr (f := GG_GSTAT_ARMED) (hact.1 _ (by simp)) g).trans hbit,
    fun m hm hm' => (hoth m hm hm').1, harmed.trans (hact.mono (by simp) (by simp)), (hact.get_eq (by simp)).trans hlate⟩
  rw [show u.groupOp 4 n = u.clkRestart n from rfl, State.clkRestart, State.modEng, State.eng_setEng, if_pos rfl, hu.eng, hu.clkInc]

/-- An armed group acts at its time. -/
theorem State.groupFire_at {g op : Nat} (hr : s.inReset 0x10 = false) (ha : s.armed g = some op) (hnow : s.now = s.rd64 (GG_GTIME g)) :
    s.groupFire g = (s.setArm g none).groupAct g op := by
  rw [State.groupFire, ha]
  dsimp only
  rw [if_neg (by simp [hr, hnow]), if_neg (by omega)]

/-- A group of one member that acts after its time. -/
theorem State.groupFire_late {g op n : Nat} (hr : s.inReset 0x10 = false) (ha : s.armed g = some op) (hlate : s.rd64 (GG_GTIME g) < s.now)
    (hm : s.members g = [n]) : s.groupFire g =
      (((s.setArm g none).groupAct g op).setBit GG_GSTAT_LATE g).lateReport n 0 (s.rd64 (GG_GTIME g)) := by
  rw [State.groupFire, ha]
  dsimp only
  rw [if_neg (by simp [hr]; omega), if_pos hlate, hm]
  rfl

theorem State.groupFire_none {g : Nat} (h : s.armed g = none ∨ s.now < s.rd64 (GG_GTIME g)) : s.groupFire g = s := by
  rw [State.groupFire]
  split
  · rfl
  · next ha =>
    obtain h | h := h
    · simp [h] at ha
    · exact if_pos (.inl h)

theorem exec_groupTimedFire (g : Fin 4) (hr : s.inReset 0x10 = false) : exec (.groupTimedFire g) s = .next (s.groupFire g.val) :=
  if_neg (by simp [hr])

/-- The stored state of the late command's engine starts. -/
theorem State.groupLate_start {g n : Nat} (hg : g < 4) (hn : n < 16) (hi : s.idling 0x10 = false) (hit : s.gg.grpHit = 0)
    (hmem : s.get (GG_GMEM_MEM g) = 2 ^ n) (hst : s.get (GG_STAT_STATE n) = 2) :
    ((s.setArm g none).groupAct g 1).armed g = none ∧ ((s.setArm g none).groupAct g 1).get (GG_STAT_STATE n) = 1 ∧
      s.only [GG_GSTAT, GG_STAT n, GG_SCF n] [.gg, .lsv] ((s.setArm g none).groupAct g 1) := by
  have hm : s.getBit (GG_GMEM_MEM g) n = true := by rw [State.getBit, hmem]; exact Nat.testBit_two_pow_self
  obtain ⟨u, t, rfl, hu, hrd, -, -, harm, -, -⟩ := State.groupNow_member (op := 1) hg hn hit hm
  have hop : u.groupOp 1 n = u.freshStart n := if_pos ⟨.inr ((hu.stat rfl).trans hst), by rw [hu.idling, hi]; rfl⟩
  rw [hop] at hrd
  obtain ⟨-, -, -, -, -, harmed⟩ := s.setArm_spec hg none
  have hone : (s.setArm g none).members g = [n] := by
    have hget : (s.setArm g none).get (GG_GMEM_MEM g) = 2 ^ n :=
      (State.get_congr (f := GG_GMEM_MEM g) (harmed.1 _ (by simp only [GG_GMEM_MEM, GG_GMEM, GG_GSTAT, List.mem_singleton]; omega))).trans hmem
    rw [State.members, hget, bitList_two_pow hn]
  refine ⟨harm, (State.get_congr hrd.symm).trans (u.get_freshStart n).1, ?_⟩
  rw [State.groupAct_single hone]
  exact (harmed.mono (by simp) (by simp)).trans ((State.only_memberAct 1 n).mono (by simp) (by simp))

end

/-- Settles O39: groups that act at once, that are armed and disarmed, and that act at their time or late. -/
theorem engineGroups : Obligations.EngineGroups := by
  unfold Obligations.EngineGroups
  refine ⟨?_, ?_, ?_, ?_, ?_, ?_, ?_, ?_, ?_⟩
  · intro g n s hopen ha hit hm hst
    obtain ⟨u, t, ht, hu, hrd, -, hh, harm, hoth, hparts⟩ := State.groupNow_member (op := 1) g.isLt n.isLt hit hm
    have hexec : exec (.groupStart g false) s = .next _ := congrArg Host.Outcome.next
      ((State.groupWrite_run (op := 1) (atTime := false) hopen ha).trans (State.groupCmd_now (by decide) (by decide)))
    have hop : u.groupOp 1 n.val = u.freshStart n.val := if_pos ⟨.inl ((hu.stat rfl).trans hst), by rw [hu.idling, (State.open_parts hopen).2]; rfl⟩
    rw [hop] at hrd
    obtain ⟨h1, hpc⟩ := u.get_freshStart n.val
    exact ⟨t, hexec.trans (congrArg _ ht.symm), harm, (State.get_congr hrd.symm).trans h1,
      (State.get_congr hrd.symm).trans (hpc.trans hu.startPc), hh, hoth, hparts⟩
  · intro g n w s hopen ha hit hm hst hf hc
    obtain ⟨u, t, ht, hu, -, he, hh, harm, hoth, hparts⟩ := State.groupNow_member (op := 2) g.isLt n.isLt hit hm
    have hexec : exec (.groupStop g false) s = .next _ := congrArg Host.Outcome.next
      ((State.groupWrite_run (op := 2) (atTime := false) hopen ha).trans (State.groupCmd_now (by decide) (by decide)))
    have hop : u.groupOp 2 n.val = u.setEng n.val { u.eng n.val with stopReq := true } := by
      show u.ggStop n.val = _
      have hcause : u.on (GG_STAT_CAUSE n.val) = false := by rw [State.on, hu.stat rfl]; exact hc
      simp only [State.ggStop, hu.stat (f := GG_STAT_STATE n.val) rfl, hst, hu.eng, hf, hcause]
      rfl
    rw [hop, State.eng_setEng, if_pos rfl] at he
    exact ⟨t, hexec.trans (congrArg _ ht.symm), harm, by rw [he], hh, fun m hm hm' => (hoth m hm hm').1, hparts⟩
  · intro g n w inj s hopen ha hit hm hst hk
    obtain ⟨u, t, ht, hu, hrd, he, -, harm, hoth, hparts⟩ := State.groupNow_member (op := 3) g.isLt n.isLt hit hm
    have hexec : exec (.groupResume g false) s = .next _ := congrArg Host.Outcome.next
      ((State.groupWrite_run (op := 3) (atTime := false) hopen ha).trans (State.groupCmd_now (by decide) (by decide)))
    have hop : u.groupOp 3 n.val = u.runAgain n.val := if_pos ⟨.inl ((hu.stat rfl).trans hst), by rw [hu.idling, (State.open_parts hopen).2]; rfl⟩
    obtain ⟨h1, hf⟩ := State.get_runAgain (s := u) (hu.eng.symm ▸ hk)
    rw [hop] at hrd he
    exact ⟨t, hexec.trans (congrArg _ ht.symm), harm, (State.get_congr hrd.symm).trans h1, by rw [he, hf],
      fun m hm hm' => (hoth m hm hm').1, hparts⟩
  · intro g n s hopen ha hit hm
    have hexec : exec (.groupClkr g false) s = .next _ := congrArg Host.Outcome.next
      ((State.groupWrite_run (op := 4) (atTime := false) hopen ha).trans (State.groupCmd_now (by decide) (by decide)))
    obtain ⟨harm, heng, -, hoth, honly, -⟩ := State.groupClkr_spec g.isLt n.isLt hit hm
    exact ⟨_, hexec, harm, heng, hoth, honly⟩
  · intro g c op s hopen ha hc
    have hop : op = 1 ∨ op = 2 ∨ op = 3 ∨ op = 4 := by omega
    have hexec : exec c s = .next (s.groupCmd g.val op true) := by
      obtain ⟨rfl, rfl⟩ | ⟨rfl, rfl⟩ | ⟨rfl, rfl⟩ | ⟨rfl, rfl⟩ := hc <;>
        exact congrArg Host.Outcome.next (State.groupWrite_run (atTime := true) hopen ha)
    rw [State.groupCmd_arm (by omega) (by omega)] at hexec
    obtain ⟨harm, hbit, heng, -, -, honly⟩ := s.setArm_spec g.isLt (some op)
    exact ⟨_, hexec, harm, hbit, fun m _ => State.eng_of_eng heng m, honly⟩
  · intro g s hopen ha
    have hexec : exec (.groupDisarm g) s = .next (s.setArm g.val none) :=
      congrArg Host.Outcome.next (State.groupWrite_run (op := 0) (atTime := false) hopen ha)
    obtain ⟨harm, hbit, heng, -, -, honly⟩ := s.setArm_spec g.isLt none
    exact ⟨_, hexec, harm, hbit, fun m _ => State.eng_of_eng heng m, honly⟩
  · intro g n s hopen ha hnow hit hm
    have hr := (State.open_parts hopen).1
    have hexec := (exec_groupTimedFire g hr).trans (congrArg Host.Outcome.next (State.groupFire_at hr ha hnow))
    obtain ⟨harm, heng, hbit, -, honly, hlate⟩ := State.groupClkr_spec g.isLt n.isLt hit hm
    exact ⟨_, hexec, harm, hbit, heng, hlate, honly⟩
  · intro g n s hopen ha hlate hit hmem hst hsmall hroomy
    obtain ⟨hr, hi⟩ := State.open_parts hopen
    have hexec := (exec_groupTimedFire g hr).trans (congrArg Host.Outcome.next (State.groupFire_late hr ha hlate
      (by rw [State.members, hmem, bitList_two_pow n.isLt])))
    obtain ⟨harm, h1, honly⟩ := State.groupLate_start g.isLt n.isLt hi hit hmem hst
    generalize (s.setArm g.val none).groupAct g.val 1 = v at hexec harm h1 honly
    have hlb := State.getBit_setBit v g.val (f := GG_GSTAT_LATE) rfl g.isLt
    have hv : s.only [GG_GSTAT, GG_STAT n.val, GG_SCF n.val] [.gg, .lsv] (v.setBit GG_GSTAT_LATE g.val) := honly.setBit _ (by simp [GG_GSTAT_LATE])
    have h1' : (v.setBit GG_GSTAT_LATE g.val).get (GG_STAT_STATE n.val) = 1 := (State.get_put_ne _ _ _ _ (GG_STAT_ne_GSTAT n.val)).trans h1
    have harm' : (v.setBit GG_GSTAT_LATE g.val).armed g.val = none := harm
    generalize v.setBit GG_GSTAT_LATE g.val = w at hexec hlb hv h1' harm'
    have hnow : w.now = s.now := State.rd64_congr (hv.1 _ (by simp [TIME_SPINDLE, GG_GSTAT, GG_STAT, GG_SCF]; omega))
      (hv.1 _ (by simp [TIME_SPINDLE, GG_GSTAT, GG_STAT, GG_SCF]; omega))
    have hrw : w.roomy := hv.roomy hroomy (by simp [GG_STAT, GG_GSTAT, GG_SCF, MPC_MODE]; omega)
      (by simp [GG_STAT, GG_GSTAT, GG_SCF, RSTC_INRST]; omega) (by simp)
    obtain ⟨hl, hs, hc, hsent, hbit, hrest⟩ := State.lateReport_spec (t := s.rd64 (GG_GTIME g.val)) n.isLt hrw (hnow ▸ hsmall)
    generalize w.lateReport n.val 0 (s.rd64 (GG_GTIME g.val)) = x at hexec hl hs hc hsent hbit hrest
    refine ⟨x, hexec, ?_, hs.trans h1', hl, (hbit _).trans (hlb.trans (by simp)), ?_, ?_, fun p hp => ?_⟩
    · rw [State.armed, show x.gg = w.gg from hrest.2 .gg (by simp)]
      exact harm'
    · rw [State.advanced, hc, State.cnt_congr (hv.2 .live (by simp))]
    · rw [hnow] at hsent
      exact hsent.of_eq (hv.2 .fltQ (by simp)) (by rw [hv.2 .sys (by simp)])
    · exact (hv.mono (os' := [GG_GSTAT, GG_STAT n.val, GG_SCF n.val, TIME_EVT]) (ps' := [.gg, .lsv, .live, .fltQ, .time]) (by simp) (by simp)).trans
        (hrest.mono (by simp) (by simp)) |>.2 p hp
  · intro g s h
    by_cases hr : s.inReset 0x10 = true
    · exact ⟨s, if_pos hr, s.only_refl _ _⟩
    · rw [Bool.not_eq_true] at hr
      exact ⟨s, (exec_groupTimedFire g hr).trans (congrArg _ (State.groupFire_none h)), s.only_refl _ _⟩

end Sys2Proof.Machine

/-! How a write of MPC_REQ is judged (R61 to R64). -/
namespace Sys2Proof.Machine

set_option Elab.async false

section
variable {s : State}

/-! ### The report of a request -/

/-- A request that is judged to wait shows in MPC_REQ_STAT alone. -/
theorem State.only_reqStat_wait {st : Nat} (h : st < 2) (code : Nat) : s.only [MPC_REQ_STAT] [] (s.reqStat st code) := by
  rw [State.reqStat, if_neg (by omega)]
  exact ((s.only_refl _ _).put _ (by simp [MPC_REQ_STAT_STATE])).put _ (by simp [MPC_REQ_STAT_CODE])

/-- The report of a request, with the event of one that is over (R62, R426). -/
theorem State.only_reqStat (st code : Nat) : s.only [MPC_REQ_STAT, INTC_PEND 0 0, INTC_PEND 1 0, INTC_PEND 2 0] [] (s.reqStat st code) := by
  have hput : s.only [MPC_REQ_STAT, INTC_PEND 0 0, INTC_PEND 1 0, INTC_PEND 2 0] [] ((s.put MPC_REQ_STAT_STATE st).put MPC_REQ_STAT_CODE code) :=
    ((s.only_refl _ _).put _ (by simp [MPC_REQ_STAT_STATE])).put _ (by simp [MPC_REQ_STAT_CODE])
  rw [State.reqStat]
  split
  · exact hput.trans ((State.only_edgeIrq _ 0x01 8).mono (by simp) (by simp))
  · exact hput

theorem State.rd_reqStat (st code : Nat) :
    (s.reqStat st code).rd MPC_REQ_STAT = ((s.put MPC_REQ_STAT_STATE st).put MPC_REQ_STAT_CODE code).rd MPC_REQ_STAT := by
  rw [State.reqStat]
  split
  · exact (State.only_edgeIrq _ 0x01 8).1 _ (by decide)
  · rfl

theorem State.get_reqStat {st code : Nat} (hst : st < 4) (hc : code < 256) :
    (s.reqStat st code).get MPC_REQ_STAT_STATE = st ∧ (s.reqStat st code).get MPC_REQ_STAT_CODE = code :=
  ⟨(State.get_congr (State.rd_reqStat st code)).trans ((State.get_put_apart _ _ rfl).trans (State.get_put_self _ rfl hst)),
    (State.get_congr (State.rd_reqStat st code)).trans (State.get_put_self _ rfl hc)⟩

/-! ### The judgement -/

theorem isSelf_iff (who : Who) : (who.node.toNat == s.node && who.chip.val == s.chip) = true ↔ s.isSelf who := by simp

theorem node_zero_iff (who : Who) : (who.node.toNat == 0) = true ↔ who.node = 0x00#8 := by
  rw [beq_iff_eq, ← BitVec.toNat_inj]
  rfl

/-- A code that stands before the hub's state is looked at (R63, R81). -/
theorem State.judge_form {target code : Nat} {atTime own head : Bool}
    (h : s.on MPC_MODE_FTEST = true ∧ code = 0x07 ∨
      s.on MPC_MODE_FTEST = false ∧ 6 ≤ target ∧ code = 0x06 ∨
      s.on MPC_MODE_FTEST = false ∧ target < 6 ∧ s.on MPC_MODE_TRANS = true ∧ code = 0x02 ∨
      s.on MPC_MODE_FTEST = false ∧ target < 6 ∧ s.on MPC_MODE_TRANS = false ∧ atTime = true ∧ s.rpe.floor = 1 ∧ code = 0x03) :
    s.judge target atTime false own head = code := by
  rw [State.judge]
  obtain ⟨hf, rfl⟩ | ⟨hf, ht, rfl⟩ | ⟨hf, ht, hm, rfl⟩ | ⟨hf, ht, hm, ha, hfl, rfl⟩ := h
  · simp [hf]
  · simp [hf, ht]
  · simp [hf, hm, Nat.not_le.2 ht]
  · simp [hf, hm, Nat.not_le.2 ht, ha, hfl]

/-- A request of a known target outside a transition, whose time, if it has one, ring time can give (R63). -/
theorem State.judge_known {target : Nat} {atTime own head : Bool} (hf : s.on MPC_MODE_FTEST = false) (ht : target < 6)
    (hm : s.on MPC_MODE_TRANS = false) (ha : atTime = false ∨ s.rpe.floor ≠ 1) : s.judge target atTime false own head =
      if s.mode = 4 ∧ target = 2 then (if head && s.master then 0 else 0x01)
      else if (target = 3 && !own) || (target = 5 && !own && !head) then 0x01 else s.permit target false := by
  have hfl : ¬(atTime && s.rpe.floor == 1) = true := by
    obtain ha | ha := ha <;> simp [ha]
  rw [State.judge, if_neg (by simp [hf]), if_neg (by omega), if_neg (by simp [hm]), if_neg hfl]
  simp

/-- What R61 refuses. -/
theorem State.permit_barred {target : Nat} (hf : s.on MPC_MODE_FTEST = false)
    (h : s.master = false ∨ mayChange s.mode target false = false) : s.permit target false = 0x01 := by
  rw [State.permit, if_neg (by simp [hf]), if_pos]
  obtain h | h := h <;> simp [h]

/-- PROOF and MAINTAIN on request (R60, R61). -/
theorem State.permit_proof (hf : s.on MPC_MODE_FTEST = false) (hma : s.master = true) :
    (mayChange s.mode 3 false = true → s.permit 3 false = if !s.coreRuns 0 && !s.coreRuns 1 then 0x01 else 0) ∧
      (mayChange s.mode 5 false = true → s.permit 5 false = 0) := by
  constructor <;> intro h <;> simp [State.permit, hf, hma, h]

/-- RUN on request from PROOF or MAINTAIN (R61). -/
theorem State.permit_run (hf : s.on MPC_MODE_FTEST = false) (hma : s.master = true) (hm : mayChange s.mode 2 false = true) :
    s.permit 2 false = if s.sys.recordOn = false then 0x04 else if s.listed = false then 0x05
      else if s.mode = 5 ∧ s.on MPC_MODE_BOOTING = true ∧ s.linkIn = false then 0x01 else 0 := by
  simp [State.permit, hf, hma, hm, and_assoc]

theorem mayChange_idle (m : Nat) : mayChange m 0 false = false ∧ mayChange m 1 false = false ∧ mayChange m 4 false = false := by
  refine ⟨?_, ?_, ?_⟩ <;> (rw [mayChange.eq_def]; split <;> simp_all)

theorem mayChange_island (t : Nat) : mayChange 4 t false = false := by
  rw [mayChange.eq_def]
  split <;> simp_all

/-- The requests that the hub's own state refuses (R60, R61, R67, R79). -/
theorem State.judge_refused {target code : Nat} {atTime : Bool} {who : Who} (hf : s.on MPC_MODE_FTEST = false) (ht : target < 6)
    (hm : s.on MPC_MODE_TRANS = false) (ha : atTime = false ∨ s.rpe.floor ≠ 1)
    (h : target ∈ [0, 1, 4] ∧ code = 0x01 ∨
      s.mode = 4 ∧ target = 2 ∧ (who.node.toNat ≠ 0 ∨ s.master = false) ∧ code = 0x01 ∨
      s.mode = 4 ∧ target ≠ 2 ∧ code = 0x01 ∨
      target ∈ [3, 5] ∧ ¬s.admits who target ∧ code = 0x01 ∨
      s.master = false ∧ code = 0x01 ∨
      s.master = true ∧ s.mode ∈ [3, 5] ∧ target = 2 ∧ s.sys.recordOn = false ∧ code = 0x04 ∨
      s.master = true ∧ s.mode ∈ [3, 5] ∧ target = 2 ∧ s.sys.recordOn = true ∧ s.listed = false ∧ code = 0x05 ∨
      s.mode = 5 ∧ s.on MPC_MODE_BOOTING = true ∧ s.linkIn = false ∧ target = 2 ∧ s.sys.recordOn = true ∧ s.listed = true ∧ code = 0x01) :
    s.judge target atTime false (who.node.toNat == s.node && who.chip.val == s.chip) (who.node.toNat == 0) = code := by
  rw [State.judge_known hf ht hm ha]
  have hbar (h : s.master = false ∨ mayChange s.mode target false = false) (own head : Bool) :
      (if s.mode = 4 ∧ target = 2 then (if head && s.master then 0 else 0x01)
        else if (target = 3 && !own) || (target = 5 && !own && !head) then 0x01 else s.permit target false) = 0x01 ∨
      s.mode = 4 ∧ target = 2 ∧ s.master = true := by
    by_cases h4 : s.mode = 4 ∧ target = 2
    · by_cases hma : s.master = true
      · exact .inr ⟨h4.1, h4.2, hma⟩
      · left
        rw [if_pos h4, if_neg (by simp [hma])]
    · left
      rw [if_neg h4, State.permit_barred hf h, ite_self]
  obtain ⟨hmem, rfl⟩ | ⟨h4, rfl, hn, rfl⟩ | ⟨h4, h2, rfl⟩ | ⟨hmem, hadm, rfl⟩ | ⟨hma, rfl⟩ | ⟨hma, hmode, rfl, hrec, rfl⟩ |
    ⟨hma, hmode, rfl, hrec, hl, rfl⟩ | ⟨hmode, hb, hlink, rfl, hrec, hl, rfl⟩ := h
  · obtain ⟨h0, h1, h4⟩ := mayChange_idle s.mode
    simp only [List.mem_cons, List.not_mem_nil, or_false] at hmem
    have hmay : mayChange s.mode target false = false := by obtain rfl | rfl | rfl := hmem <;> assumption
    exact (hbar (.inr hmay) _ _).resolve_right (by omega)
  · rw [if_pos ⟨h4, rfl⟩, if_neg]
    obtain hn | hn := hn <;> simp [hn]
  · exact (hbar (.inr (h4 ▸ mayChange_island target)) _ _).resolve_right fun h => h2 h.2.1
  · simp only [List.mem_cons, List.not_mem_nil, or_false] at hmem
    rw [if_neg (by omega)]
    split
    · rfl
    · next hreq =>
      by_cases hma : s.master = true
      · by_cases hmay : mayChange s.mode target false = true
        · obtain rfl | rfl := hmem
          · rw [(State.permit_proof hf hma).1 hmay]
            refine if_pos ?_
            have hown : s.isSelf who := by simpa using hreq
            simpa [State.admits, hma, hown] using hadm
          · have hreq' : s.isSelf who ∨ who.node = 0x00#8 := by
              rw [← isSelf_iff, ← node_zero_iff]
              by_contra hc
              rw [not_or] at hc
              exact hreq (by simp only [Bool.not_eq_true] at hc; simp [hc])
            exact absurd ⟨hma, .inr ⟨rfl, hreq'⟩⟩ hadm
        · exact State.permit_barred hf (.inr (by simpa using hmay))
      · exact State.permit_barred hf (.inl (by simpa using hma))
  · exact (hbar (.inl hma) _ _).resolve_right (by simp [hma])
  · simp only [List.mem_cons, List.not_mem_nil, or_false] at hmode
    rw [if_neg (by omega), if_neg (by simp), State.permit_run hf hma (by obtain h | h := hmode <;> rw [h] <;> rfl), if_pos hrec]
  · simp only [List.mem_cons, List.not_mem_nil, or_false] at hmode
    rw [if_neg (by omega), if_neg (by simp), State.permit_run hf hma (by obtain h | h := hmode <;> rw [h] <;> rfl), if_neg (by simp [hrec]),
      if_pos hl]
  · by_cases hma : s.master = true
    · rw [if_neg (by omega), if_neg (by simp), State.permit_run hf hma (by rw [hmode]; rfl), if_neg (by simp [hrec]), if_neg (by simp [hl]),
        if_pos ⟨hmode, hb, hlink⟩]
    · exact (hbar (.inl (by simpa using hma)) _ _).resolve_right (by simp [hma])

/-- The requests to PROOF and MAINTAIN that their requester may make (R60, R61). -/
theorem State.judge_admitted {target : Nat} {atTime : Bool} {who : Who} (hf : s.on MPC_MODE_FTEST = false)
    (hm : s.on MPC_MODE_TRANS = false) (ha : atTime = false ∨ s.rpe.floor ≠ 1) (hadm : s.admits who target)
    (hmode : s.mode = 2 ∨ s.mode = 3 ∧ target = 5) :
    s.judge target atTime false (who.node.toNat == s.node && who.chip.val == s.chip) (who.node.toNat == 0) = 0 := by
  obtain ⟨hma, ⟨rfl, hself, hcore⟩ | ⟨rfl, hreq⟩⟩ := hadm
  · rw [State.judge_known hf (by decide) hm ha, if_neg (by omega), if_neg (by simp [(isSelf_iff who).2 hself, -Bool.and_eq_true]),
      (State.permit_proof hf hma).1 (by rw [show s.mode = 2 by omega]; rfl), if_neg (by obtain h | h := hcore <;> simp [h])]
  · rw [State.judge_known hf (by decide) hm ha, if_neg (by omega), if_neg, (State.permit_proof hf hma).2
      (by obtain h | ⟨h, -⟩ := hmode <;> rw [h] <;> rfl)]
    rw [← isSelf_iff, ← node_zero_iff] at hreq
    obtain h | h := hreq <;> simp [h, -Bool.and_eq_true]

/-- A request to RUN from WATCH or MAINTAIN that the hub is ready for (R61). -/
theorem State.judge_run {atTime own head : Bool} (hf : s.on MPC_MODE_FTEST = false) (hm : s.on MPC_MODE_TRANS = false)
    (ha : atTime = false ∨ s.rpe.floor ≠ 1) (hma : s.master = true) (hrec : s.sys.recordOn = true) (hl : s.listed = true)
    (hmode : s.mode = 1 ∨ s.mode = 5 ∧ (s.on MPC_MODE_BOOTING = false ∨ s.linkIn = true)) : s.judge 2 atTime false own head = 0 := by
  rw [State.judge_known hf (by decide) hm ha, if_neg (by omega), if_neg (by simp),
    State.permit_run hf hma (by obtain h | ⟨h, -⟩ := hmode <;> rw [h] <;> rfl), if_neg (by simp [hrec]), if_neg (by simp [hl]), if_neg]
  obtain h | ⟨-, h | h⟩ := hmode <;> simp [h]

/-- A request to RUN of node 0x00 in ISLAND (R79). -/
theorem State.judge_island {atTime own : Bool} (hf : s.on MPC_MODE_FTEST = false) (hm : s.on MPC_MODE_TRANS = false)
    (ha : atTime = false ∨ s.rpe.floor ≠ 1) (hma : s.master = true) (hmode : s.mode = 4) : s.judge 2 atTime false own true = 0 := by
  rw [State.judge_known hf (by decide) hm ha, if_pos ⟨hmode, rfl⟩, if_pos (by simp [hma])]

/-! ### The request carried out -/

theorem State.only_mpcWrite : s.only [] [.sys] s.mpcWrite := (s.only_refl _ _).with_sys _ (by simp)

theorem State.judge_mpcWrite (target : Nat) (atTime own head : Bool) :
    s.mpcWrite.judge target atTime false own head = s.judge target atTime false own head := rfl

theorem exec_modeRequest {w : Word} {who : Who} (hd : s.dark = false) (hr : s.inReset 0x01 = false) :
    exec (.modeRequest w who) s = .next (s.modeRequest w who.node.toNat who.chip.val) :=
  congrArg Host.Outcome.next (s.cmd_run MPC_REQ _ hd hr)

/-- A request that is refused outside WATCH (R62). -/
theorem State.modeRequest_refused {w : Word} {who : Who} {code : Nat} (h1 : s.mode ≠ 1) (h0 : code ≠ 0)
    (hj : s.judge (wordField w 0 3) (w.getLsbD 4) false (who.node.toNat == s.node && who.chip.val == s.chip) (who.node.toNat == 0) = code) :
    s.modeRequest w who.node.toNat who.chip.val = s.mpcWrite.reqStat 3 code := by
  rw [State.modeRequest]
  dsimp only
  rw [State.judge_mpcWrite, if_neg h1, if_neg (hj ▸ h0), hj]

/-- A request that is accepted (R62, R72). -/
theorem State.modeRequest_accepted {w : Word} {who : Who}
    (hj : s.judge (wordField w 0 3) (w.getLsbD 4) false (who.node.toNat == s.node && who.chip.val == s.chip) (who.node.toNat == 0) = 0) :
    (s.mode ≠ 1 → s.modeRequest w who.node.toNat who.chip.val = s.mpcWrite.reqAccept (wordField w 0 3) (w.getLsbD 4)) ∧
    (s.mode = 1 → ((s.mpcWrite.reqAccept (wordField w 0 3) (w.getLsbD 4)).put MPC_WAKE_CAUSE_REQ 1).on MPC_MODE_TRANS = true →
      s.modeRequest w who.node.toNat who.chip.val = (s.mpcWrite.reqAccept (wordField w 0 3) (w.getLsbD 4)).put MPC_WAKE_CAUSE_REQ 1) := by
  have hj' := (State.judge_mpcWrite (s := s) _ _ _ _).trans hj
  constructor
  · intro h1
    simp only [State.modeRequest, hj', h1, if_true, if_false]
  · intro h1 ht
    simp only [State.modeRequest, hj', h1, if_true, ht, Bool.true_or]

/-- A request whose time has not passed waits for its boundary (R62). -/
theorem State.reqAccept_wait {target : Nat} {atTime : Bool} (h1 : s.mode ≠ 1) (h4 : s.mode ≠ 4) (h3 : ¬(s.mode = 3 ∧ target = 2))
    (hlate : atTime = true → s.now ≤ s.rd64 MPC_REQ_T) : s.reqAccept target atTime =
      (s.reqStat 1 0).reqWait (some (target, if atTime then s.rd64 MPC_REQ_T else 0)) false := by
  have hl : (atTime && decide (s.rd64 MPC_REQ_T < s.now)) = false := by
    cases atTime
    · rfl
    · simpa using hlate rfl
  simp only [State.reqAccept, hl, h1, h3, h4, false_and, if_false, Bool.false_eq_true]

/-- A request whose time has passed waits for the next boundary and shows LATE (R62). -/
theorem State.reqAccept_late {target : Nat} (h : s.mode = 2) (hlate : s.rd64 MPC_REQ_T < s.now) : s.reqAccept target true =
      (((s.reqStat 1 0).put MPC_REQ_STAT_LATE 1).miss 0x07 0x01 target (s.rd64 MPC_REQ_T)).reqWait (some (target, s.rd64 MPC_REQ_T)) false := by
  simp [State.reqAccept, h, hlate]

/-- A request in ISLAND waits for R79. -/
theorem State.reqAccept_island {target : Nat} {atTime : Bool} (h : s.mode = 4) (hlate : atTime = true → s.now ≤ s.rd64 MPC_REQ_T) :
    s.reqAccept target atTime = ((s.reqStat 1 0).put MPC_ISLAND_PLAY 0).reqWait none true := by
  have hl : (atTime && decide (s.rd64 MPC_REQ_T < s.now)) = false := by
    cases atTime
    · rfl
    · simpa using hlate rfl
  simp only [State.reqAccept, hl, h, if_false, if_true, Bool.false_eq_true]

/-- A request to RUN in WATCH wakes the hub (R72). -/
theorem State.reqAccept_watch (h : s.mode = 1) : s.reqAccept 2 false = (s.reqStat 1 0).startWake.reqWait none true := by
  simp [State.reqAccept, h]

theorem State.only_reqWait (q : Option (Nat × Nat)) (r : Bool) : s.only [] [.sys] (s.reqWait q r) := (s.only_refl _ _).with_sys _ (by simp)

/-- What a request that waits for its boundary shows. -/
theorem State.reqWaits_spec (q : Option (Nat × Nat)) : (((s.mpcWrite).reqStat 1 0).reqWait q false).get MPC_REQ_STAT_STATE = 1 ∧
    (((s.mpcWrite).reqStat 1 0).reqWait q false).get MPC_REQ_STAT_CODE = 0 ∧
      s.only [MPC_REQ_STAT] [.sys] (((s.mpcWrite).reqStat 1 0).reqWait q false) := by
  obtain ⟨hst, hcode⟩ := State.get_reqStat (s := s.mpcWrite) (show 1 < 4 by decide) (show 0 < 256 by decide)
  exact ⟨hst, hcode, (State.only_mpcWrite.mono (by simp) (by simp)).trans
    (((State.only_reqStat_wait (by decide) 0).mono (by simp) (by simp)).trans ((State.only_reqWait q false).mono (by simp) (by simp)))⟩

/-- What a refused request shows (R62). -/
theorem State.reqRefused_spec {code : Nat} (hc : code < 256) : (s.mpcWrite.reqStat 3 code).get MPC_REQ_STAT_STATE = 3 ∧
    (s.mpcWrite.reqStat 3 code).get MPC_REQ_STAT_CODE = code ∧
      s.only [MPC_REQ_STAT, INTC_PEND 0 0, INTC_PEND 1 0, INTC_PEND 2 0] [.sys] (s.mpcWrite.reqStat 3 code) ∧
      (s.mpcWrite.reqStat 3 code).sys.req = s.sys.req := by
  obtain ⟨hst, hcode⟩ := State.get_reqStat (s := s.mpcWrite) (show 3 < 4 by decide) hc
  have honly := State.only_reqStat (s := s.mpcWrite) 3 code
  exact ⟨hst, hcode, (State.only_mpcWrite.mono (by simp) (by simp)).trans (honly.mono (by simp) (by simp)),
    congrArg (·.req) (honly.2 .sys (by simp))⟩

end

/-- Settles O11: what MPC_REQ refuses, what waits for its boundary, and the request to RUN in ISLAND and in WATCH. -/
theorem modeRequests : Obligations.ModeRequests := by
  unfold Obligations.ModeRequests
  refine ⟨?_, ?_, ?_, ?_, ?_, ?_, ?_⟩
  · intro w who code s hd hr h1 h
    have hcode : code < 256 ∧ code ≠ 0 := by omega
    have hj := State.judge_form (own := who.node.toNat == s.node && who.chip.val == s.chip) (head := who.node.toNat == 0) h
    exact ⟨_, (exec_modeRequest hd hr).trans (congrArg _ (State.modeRequest_refused h1 hcode.2 hj)), State.reqRefused_spec hcode.1⟩
  · intro w who code s hd hr h1 hf ht hm ha h
    have hcode : code < 256 ∧ code ≠ 0 := by omega
    exact ⟨_, (exec_modeRequest hd hr).trans (congrArg _ (State.modeRequest_refused h1 hcode.2 (State.judge_refused hf ht hm ha h))),
      State.reqRefused_spec hcode.1⟩
  · intro w who s hd hr hf hm h ha
    have hmode : s.mode ≠ 1 ∧ s.mode ≠ 4 ∧ ¬(s.mode = 3 ∧ wordField w 0 3 = 2) := by omega
    have hj : s.judge (wordField w 0 3) (w.getLsbD 4) false (who.node.toNat == s.node && who.chip.val == s.chip) (who.node.toNat == 0) = 0 := by
      obtain ⟨h2, hadm⟩ | ⟨h3, h5, hadm⟩ | ⟨h5, h2, hma, hrec, hl, hb⟩ := h
      · exact State.judge_admitted hf hm (.inl ha) hadm (.inl h2)
      · rw [h5]
        exact State.judge_admitted hf hm (.inl ha) hadm (.inr ⟨h3, rfl⟩)
      · rw [h2]
        exact State.judge_run hf hm (.inl ha) hma hrec hl (.inr ⟨h5, hb⟩)
    have hexec := (exec_modeRequest hd hr).trans (congrArg _ (((State.modeRequest_accepted hj).1 hmode.1).trans
      (State.reqAccept_wait (s := s.mpcWrite) hmode.1 hmode.2.1 hmode.2.2 fun h => by rw [ha] at h; exact absurd h (by decide))))
    obtain ⟨hst, hcode, honly⟩ := s.reqWaits_spec (some (wordField w 0 3, if w.getLsbD 4 then s.rd64 MPC_REQ_T else 0))
    exact ⟨_, hexec, hst, hcode, by rw [ha]; rfl, honly.get_eq (f := MPC_MODE_CUR) (by decide), honly⟩
  · intro w who s hd hr hf hm h2 hadm ha hfl hnow
    have hj := State.judge_admitted hf hm (atTime := w.getLsbD 4) (.inr hfl) hadm (.inl h2)
    have hexec := (exec_modeRequest hd hr).trans (congrArg _ (((State.modeRequest_accepted hj).1 (by omega)).trans
      (State.reqAccept_wait (s := s.mpcWrite) (show s.mode ≠ 1 by omega) (show s.mode ≠ 4 by omega) (fun h => absurd (h2.symm.trans h.1) (by decide))
        fun _ => hnow)))
    obtain ⟨hst, -, honly⟩ := s.reqWaits_spec (some (wordField w 0 3, if w.getLsbD 4 then s.rd64 MPC_REQ_T else 0))
    exact ⟨_, hexec, hst, by rw [ha]; rfl, honly⟩
  · intro w who s hd hr hf hm h2 hadm ha hfl hlate
    have hj := State.judge_admitted hf hm (atTime := w.getLsbD 4) (.inr hfl) hadm (.inl h2)
    have hacc := (State.modeRequest_accepted hj).1 (by omega)
    rw [ha, State.reqAccept_late (s := s.mpcWrite) h2 hlate] at hacc
    have hexec := (exec_modeRequest hd hr).trans (congrArg _ hacc)
    obtain ⟨hst, -⟩ := State.get_reqStat (s := s.mpcWrite) (show 1 < 4 by decide) (show 0 < 256 by decide)
    have honly := State.only_reqStat_wait (s := s.mpcWrite) (show 1 < 2 by decide) 0
    generalize s.mpcWrite.reqStat 1 0 = u at hexec hst honly
    clear hacc
    have hmiss := (u.put MPC_REQ_STAT_LATE 1).only_miss 0x07 0x01 (wordField w 0 3) (s.mpcWrite.rd64 MPC_REQ_T)
    generalize hv : (u.put MPC_REQ_STAT_LATE 1).miss 0x07 0x01 (wordField w 0 3) (s.mpcWrite.rd64 MPC_REQ_T) = v at hexec hmiss
    exact ⟨_, hexec, (hmiss.get_eq (f := MPC_REQ_STAT_STATE) (by decide)).trans ((State.get_put_apart _ _ rfl).trans hst),
      (hmiss.get_eq (f := MPC_REQ_STAT_LATE) (by decide)).trans (State.get_put_val _ _ _ rfl), rfl,
      (hmiss.2 .mem (by simp)).trans (honly.2 .mem (by simp))⟩
  · intro w who s hd hr hf hm h4 h2 hn hma ha
    have ha' : (w.getLsbD 4 = false ∨ s.rpe.floor ≠ 1) ∧ (w.getLsbD 4 = true → s.now ≤ s.rd64 MPC_REQ_T) := by
      obtain ha | ⟨hfl, hnow⟩ := ha
      · exact ⟨.inl ha, fun h => by rw [ha] at h; exact absurd h (by decide)⟩
      · exact ⟨.inr hfl, fun _ => hnow⟩
    have hj : s.judge (wordField w 0 3) (w.getLsbD 4) false (who.node.toNat == s.node && who.chip.val == s.chip) (who.node.toNat == 0) = 0 := by
      rw [(node_zero_iff who).2 hn, h2]
      exact State.judge_island hf hm ha'.1 hma h4
    have hexec := (exec_modeRequest hd hr).trans (congrArg _ (((State.modeRequest_accepted hj).1 (by omega)).trans
      (State.reqAccept_island (s := s.mpcWrite) h4 ha'.2)))
    obtain ⟨hst, -⟩ := State.get_reqStat (s := s.mpcWrite) (show 1 < 4 by decide) (show 0 < 256 by decide)
    have honly : s.only [MPC_REQ_STAT, MPC_ISLAND] [.sys] (s.mpcWrite.reqStat 1 0) :=
      (State.only_mpcWrite.mono (by simp) (by simp)).trans ((State.only_reqStat_wait (by decide) 0).mono (by simp) (by simp))
    generalize s.mpcWrite.reqStat 1 0 = u at hexec hst honly
    have hall : s.only [MPC_REQ_STAT, MPC_ISLAND] [.sys] ((u.put MPC_ISLAND_PLAY 0).reqWait none true) :=
      (honly.put _ (by simp [MPC_ISLAND_PLAY])).trans ((State.only_reqWait none true).mono (by simp) (by simp))
    exact ⟨_, hexec, (State.get_put_ne u _ _ _ (by decide)).trans hst, State.get_put_val u _ _ rfl, rfl,
      (hall.get_eq (f := MPC_MODE_CUR) (by decide)).trans h4, hall⟩
  · intro w who s hd hr hf hm h1 h2 ha hrec hl hma
    have hj : s.judge (wordField w 0 3) (w.getLsbD 4) false (who.node.toNat == s.node && who.chip.val == s.chip) (who.node.toNat == 0) = 0 := by
      rw [h2]
      exact State.judge_run hf hm (.inl ha) hma hrec hl (.inl h1)
    have hexec := (State.modeRequest_accepted hj).2 h1
    rw [h2, ha, State.reqAccept_watch (s := s.mpcWrite) h1] at hexec
    obtain ⟨hst, -⟩ := State.get_reqStat (s := s.mpcWrite) (show 1 < 4 by decide) (show 0 < 256 by decide)
    have honly : s.only [MPC_REQ_STAT, MPC_MODE, MPC_WAKE_CAUSE] [.sys] (s.mpcWrite.reqStat 1 0) :=
      (State.only_mpcWrite.mono (by simp) (by simp)).trans ((State.only_reqStat_wait (by decide) 0).mono (by simp) (by simp))
    have hcur : (s.mpcWrite.reqStat 1 0).get MPC_MODE_CUR = s.get MPC_MODE_CUR :=
      (State.only_reqStat_wait (by decide) 0).get_eq (by decide)
    generalize s.mpcWrite.reqStat 1 0 = u at hexec hst honly hcur
    have hall : s.only [MPC_REQ_STAT, MPC_MODE, MPC_WAKE_CAUSE] [.sys] ((u.startWake.reqWait none true).put MPC_WAKE_CAUSE_REQ 1) :=
      ((((honly.rcUse (by simp)).put _ (by simp [MPC_MODE_TRANS])).with_sys _ (by simp)).with_sys _ (by simp)).put _ (by simp [MPC_WAKE_CAUSE_REQ])
    have htrans : ((u.startWake.reqWait none true).put MPC_WAKE_CAUSE_REQ 1).get MPC_MODE_TRANS = 1 :=
      (State.get_put_ne _ _ _ _ (by decide)).trans (State.get_put_val u.rcUse _ _ rfl)
    have hmode : ((u.startWake.reqWait none true).put MPC_WAKE_CAUSE_REQ 1).get MPC_MODE_CUR = u.get MPC_MODE_CUR :=
      (State.get_put_ne _ _ _ _ (by decide)).trans (State.get_put_apart u.rcUse _ rfl)
    have hstat : ((u.startWake.reqWait none true).put MPC_WAKE_CAUSE_REQ 1).get MPC_REQ_STAT_STATE = u.get MPC_REQ_STAT_STATE :=
      (State.get_put_ne _ _ _ _ (by decide)).trans (State.get_put_ne u.rcUse _ _ _ (by decide))
    exact ⟨_, (exec_modeRequest hd hr).trans (congrArg _ (hexec (by rw [State.on, htrans]; rfl))), hstat.trans hst, htrans,
      State.get_put_val _ _ _ rfl, rfl, hmode.trans (hcur.trans h1), hall⟩

end Sys2Proof.Machine

/-! The commands of the commit machine and the writes of shadows (R120, R121, R123). -/
namespace Sys2Proof.Machine

set_option Elab.async false

/-! ### Every shadow is a register of the map (R119, R121) -/

/-- The place of an offset in a row, as indices. -/
theorem ShRow.place_some {r : ShRow} {base o d : Nat} (h : r.place base o = some d) :
    ∃ i j k, o = base + i * r.s1 + j * r.s2 + k ∧ i < r.n1 ∧ j < r.n2 ∧ k < r.bytes := by
  rw [ShRow.place] at h
  split at h
  · exact absurd h (by simp)
  · next hb =>
    dsimp only at h
    have hi : (if r.n1 ≤ 1 then 0 else (o - base) / r.s1) * r.s1 ≤ o - base := by
      split
      · omega
      · exact Nat.div_mul_le_self _ _
    generalize (if r.n1 ≤ 1 then 0 else (o - base) / r.s1) = i at h hi
    have hj : (if r.n2 ≤ 1 then 0 else (o - base - i * r.s1) / r.s2) * r.s2 ≤ o - base - i * r.s1 := by
      split
      · omega
      · exact Nat.div_mul_le_self _ _
    generalize (if r.n2 ≤ 1 then 0 else (o - base - i * r.s1) / r.s2) = j at h hj
    split at h
    · next hc => exact ⟨i, j, o - base - i * r.s1 - j * r.s2, by omega, hc⟩
    · exact absurd h (by simp)

/-- A shadow is the first byte of a register of its row. -/
theorem isShadow_row {o : Nat} (h : isShadow o = true) : o = MPC_REQ_SH ∨ ∃ r ∈ shRows, ∃ i j, i < r.n1 ∧ j < r.n2 ∧ o = r.sh + i * r.s1 + j * r.s2 := by
  rw [isShadow, Bool.and_eq_true, Bool.or_eq_true, beq_iff_eq, beq_iff_eq] at h
  obtain ⟨h4, rfl | h⟩ := h
  · exact .inl rfl
  right
  rw [shActive, List.findSome?_isSome_iff] at h
  obtain ⟨r, hr, hplace⟩ := h
  rw [Option.isSome_map] at hplace
  obtain ⟨d, hd⟩ := Option.isSome_iff_exists.1 hplace
  obtain ⟨i, j, k, ho, hi, hj, hk⟩ := ShRow.place_some hd
  have hall : ∀ r ∈ shRows, r.bytes = 4 ∧ r.sh % 4 = 0 ∧ r.s1 % 4 = 0 ∧ r.s2 % 4 = 0 := by decide +kernel
  obtain ⟨hb, hs, h1, h2⟩ := hall r hr
  refine ⟨r, hr, i, j, hi, hj, ?_⟩
  have hi4 : i * r.s1 % 4 = 0 := by rw [Nat.mul_mod, h1, Nat.mul_zero]
  have hj4 : j * r.s2 % 4 = 0 := by rw [Nat.mul_mod, h2, Nat.mul_zero]
  omega

/-- An offset in a register of the map that is no active bank and no bivouac memory. -/
def writableAt (o : Nat) : Bool := (regFind o).isSome && !activeBank o && decide (o < 0x188000)

/-- The shadows of registers outside the tables. -/
theorem writableAt_rows : ((shRows.filter fun r => !r.table).all fun r => (List.range r.n1).all fun i => (List.range r.n2).all fun j =>
    writableAt (r.sh + i * r.s1 + j * r.s2)) = true := by
  decide +kernel

/-- An offset inside a row of the register map. -/
theorem regFind_isSome {q : RegRow} {o : Nat} (hq : q ∈ regRowsOf (o / 0x10000)) (h : (q.base? o).isSome = true) : (regFind o).isSome = true := by
  rw [regFind, List.findSome?_isSome_iff]
  exact ⟨q, hq, by rw [Option.isSome_map, h]⟩

/-- The tables: RPE_SCHED, FWD_NODET, FWD_PINT, FWD_MCT and MB_DIR. -/
theorem tableRows : shRows.filter (·.table) = [⟨0xC4000, 0xC6000, 2, 0x1000, 1024, 4, 4, true⟩, ⟨0xD1000, 0xD2000, 1024, 4, 1, 0, 4, true⟩,
    ⟨0xD3000, 0xD3200, 128, 4, 1, 0, 4, true⟩, ⟨0xD4000, 0xD8000, 4096, 4, 1, 0, 4, true⟩,
    ⟨0x131000, 0x132800, 4, 0x4000, 1536, 4, 4, true⟩] := by
  decide +kernel

/-- Where the active banks lie (R200, R221, R395). -/
theorem activeBank_range {o : Nat} (h : activeBank o = true) : 0xC4000 ≤ o ∧ o < 0xC6000 ∨ 0xD1000 ≤ o ∧ o < 0xD2000 ∨ 0xD3000 ≤ o ∧ o < 0xD3200 ∨
    0xD4000 ≤ o ∧ o < 0xD8000 ∨ 0x131000 ≤ o ∧ 0x1000 ≤ o % 0x4000 ∧ o % 0x4000 < 0x2800 := by
  simp only [activeBank, Bool.or_eq_true, decide_eq_true_eq] at h
  obtain (((h | h) | h) | h) | h := h
  · exact .inl h
  · exact .inr (.inl h)
  · exact .inr (.inr (.inl h))
  · exact .inr (.inr (.inr (.inl h)))
  · refine .inr (.inr (.inr (.inr ?_)))
    rw [indexOf2, List.findSome?_isSome_iff] at h
    obtain ⟨i, hi, h⟩ := h
    rw [Option.isSome_map, indexOf, indexIn, show max 1 (MB_DIR i 1 - MB_DIR i 0) = 4 by simp only [MB_DIR]; omega] at h
    split at h
    · next hc =>
      simp only [MB_DIR] at hc
      omega
    · exact absurd h (by simp)

/-- An offset at indices `i` and `j` of a row. -/
theorem RegRow.base?_isSome {q : RegRow} {o i j : Nat} (ho : q.off ≤ o) (hi : (if q.n1 ≤ 1 then 0 else (o - q.off) / q.s1) = i)
    (hj : (if q.n2 ≤ 1 then 0 else (o - q.off - i * q.s1) / q.s2) = j) (h : i < q.n1 ∧ j < q.n2 ∧ o - q.off - i * q.s1 - j * q.s2 < q.bytes) :
    (q.base? o).isSome = true := by
  subst hi hj
  rw [RegRow.base?, if_neg (by omega)]
  exact (congrArg Option.isSome (if_pos h)).trans rfl

/-- The words of the shadow banks are registers of the map. -/
theorem regFind_table {r : ShRow} (hr : r ∈ shRows.filter (·.table)) {i j : Nat} (hi : i < r.n1) (hj : j < r.n2) :
    (regFind (r.sh + i * r.s1 + j * r.s2)).isSome = true := by
  rw [tableRows] at hr
  simp only [List.mem_cons, List.not_mem_nil, or_false] at hr
  obtain rfl | rfl | rfl | rfl | rfl := hr <;> dsimp only at hi hj ⊢
  · have hblk : (0xC6000 + i * 0x1000 + j * 4) / 0x10000 = 0x0C := by omega
    obtain hpar | hpar : j % 2 = 0 ∨ j % 2 = 1 := by omega
    · refine regFind_isSome (q := ⟨0xC6000, 2, 0x1000, 512, 8, 4, 0, 0x7FFF0FFF, 0, 0x7FFF0FFF⟩) (by rw [hblk]; decide) (RegRow.base?_isSome (i := i) (j := j / 2) ?_ ?_ ?_ ?_)
      · dsimp only; omega
      · exact (if_neg (by decide)).trans (by dsimp only; omega)
      · exact (if_neg (by decide)).trans (by dsimp only; omega)
      · dsimp only; omega
    · refine regFind_isSome (q := ⟨0xC6004, 2, 0x1000, 512, 8, 4, 0, 0xFFFF7FFF, 0, 0xFFFF7FFF⟩) (by rw [hblk]; decide) (RegRow.base?_isSome (i := i) (j := j / 2) ?_ ?_ ?_ ?_)
      · dsimp only; omega
      · exact (if_neg (by decide)).trans (by dsimp only; omega)
      · exact (if_neg (by decide)).trans (by dsimp only; omega)
      · dsimp only; omega
  · have hblk : (0xD2000 + i * 4 + j * 0) / 0x10000 = 0x0D := by omega
    refine regFind_isSome (q := ⟨0xD2000, 1024, 4, 1, 0, 4, 0, 0xFFFF07, 0, 0xFFFF07⟩) (by rw [hblk]; decide) (RegRow.base?_isSome (i := i) (j := 0) ?_ ?_ ?_ ?_)
    · dsimp only; omega
    · exact (if_neg (by decide)).trans (by dsimp only; omega)
    · exact if_pos (by decide)
    · dsimp only; omega
  · have hblk : (0xD3200 + i * 4 + j * 0) / 0x10000 = 0x0D := by omega
    refine regFind_isSome (q := ⟨0xD3200, 128, 4, 1, 0, 4, 0xAAAAAAAA, 0xFFFFFFFF, 0, 0xFFFFFFFF⟩) (by rw [hblk]; decide) (RegRow.base?_isSome (i := i) (j := 0) ?_ ?_ ?_ ?_)
    · dsimp only; omega
    · exact (if_neg (by decide)).trans (by dsimp only; omega)
    · exact if_pos (by decide)
    · dsimp only; omega
  · have hblk : (0xD8000 + i * 4 + j * 0) / 0x10000 = 0x0D := by omega
    refine regFind_isSome (q := ⟨0xD8000, 4096, 4, 1, 0, 4, 0, 0x1F, 0, 0x1F⟩) (by rw [hblk]; decide) (RegRow.base?_isSome (i := i) (j := 0) ?_ ?_ ?_ ?_)
    · dsimp only; omega
    · exact (if_neg (by decide)).trans (by dsimp only; omega)
    · exact if_pos (by decide)
    · dsimp only; omega
  · have hblk : (0x132800 + i * 0x4000 + j * 4) / 0x10000 = 0x13 := by omega
    refine regFind_isSome (q := ⟨0x132800, 4, 0x4000, 1536, 4, 4, 0, 0xFFFFFFFF, 0, 0xFFFFFFFF⟩) (by rw [hblk]; decide) (RegRow.base?_isSome (i := i) (j := j) ?_ ?_ ?_ ?_)
    · dsimp only; omega
    · exact (if_neg (by decide)).trans (by dsimp only; omega)
    · exact (if_neg (by decide)).trans (by dsimp only; omega)
    · dsimp only; omega

/-- A shadow bank of a table is no active bank. -/
theorem writableAt_table {r : ShRow} (hr : r ∈ shRows.filter (·.table)) {i j : Nat} (hi : i < r.n1) (hj : j < r.n2) :
    writableAt (r.sh + i * r.s1 + j * r.s2) = true := by
  have hfind := regFind_table hr hi hj
  have hrange : r.sh + i * r.s1 + j * r.s2 < 0x188000 ∧ activeBank (r.sh + i * r.s1 + j * r.s2) = false := by
    rw [tableRows] at hr
    rw [Bool.eq_false_iff]
    simp only [List.mem_cons, List.not_mem_nil, or_false] at hr
    obtain rfl | rfl | rfl | rfl | rfl := hr <;> dsimp only at hi hj ⊢ <;>
      refine ⟨by omega, fun h => ?_⟩ <;> have := activeBank_range h <;> omega
  rw [writableAt, hfind, hrange.2, decide_eq_true hrange.1]
  rfl

/-- Every shadow is a register that a write may reach. -/
theorem writableAt_shadow {o : Nat} (h : isShadow o = true) : writableAt o = true := by
  obtain rfl | ⟨r, hr, i, j, hi, hj, rfl⟩ := isShadow_row h
  · decide +kernel
  cases ht : r.table with
  | true => exact writableAt_table (List.mem_filter.2 ⟨hr, ht⟩) hi hj
  | false =>
    have hall := writableAt_rows
    simp only [List.all_eq_true, List.mem_filter, List.mem_range] at hall
    exact hall r ⟨hr, by simp [ht]⟩ i hi j hj

section
variable {s : State}

/-! ### The writes of shadows -/

theorem State.only_keysDrop (o : Nat) : s.only [] [.sys, .upd] (s.keysDrop o) := by
  rw [State.keysDrop]
  split
  · exact (s.only_refl _ _).with_sys _ (by simp)
  · split
    · exact (s.only_refl _ _).with_upd _ (by simp)
    · exact s.only_refl _ _

/-- The use of RC100 that an access of block 0x02 or 0x03 is (R12). -/
def State.accUse (s : State) (b : Nat) : State := if b = 0x02 ∨ b = 0x03 then s.rcUse else s

theorem State.accUse_cases (b : Nat) : s.accUse b = s.rcUse ∨ s.accUse b = s := by
  rw [State.accUse]
  split
  · exact .inl rfl
  · exact .inr rfl

theorem State.only_accUse (b : Nat) : s.only [] [.sys, .upd] (s.accUse b) := by
  obtain h | h := State.accUse_cases (s := s) b <;> rw [h]
  · exact (s.only_refl _ _).rcUse (by simp)
  · exact s.only_refl _ _

theorem State.time_keysDrop (o : Nat) : (s.keysDrop o).sys.t = s.sys.t := by
  rw [State.keysDrop]
  split
  · rfl
  · split <;> rfl

theorem State.time_accUse (b : Nat) : (s.accUse b).sys.t = s.sys.t := by
  obtain h | h := State.accUse_cases (s := s) b <;> rw [h]
  rfl

theorem State.inReset_accUse (b u : Nat) : (s.accUse b).inReset u = s.inReset u := by
  obtain h | h := State.accUse_cases (s := s) b <;> rw [h]
  rfl

theorem State.d2dLost_accUse (b : Nat) : (s.accUse b).d2dLost = s.d2dLost := by
  obtain h | h := State.accUse_cases (s := s) b <;> rw [h]
  rfl

/-- A write of a word of the map that no rule refuses on the way. -/
theorem State.regAccess_writable {off o : Nat} {who : Who} {data : Nat} (hl : s.leadsTo off = some o) (hw : writableAt o = true) (h4 : o % 4 = 0)
    (hr : s.inReset (blkOf o) = false) (hd : blkOf o = 0x15 → s.d2dLost = false)
    (hb : blkOf o = 0x18 → s.outside who = false ∨ s.on BIV_CTL_EXT_WR = true) : s.regAccess who true false 4 off data =
      (((s.accUse (blkOf o)).writeWord who false o (BitVec.ofNat 32 data)).1,
        some (((s.accUse (blkOf o)).writeWord who false o (BitVec.ofNat 32 data)).2, 0)) := by
  simp only [writableAt, Bool.and_eq_true, Bool.not_eq_true', decide_eq_true_eq] at hw
  obtain ⟨⟨hfind, -⟩, hlt⟩ := hw
  obtain ⟨⟨q, base⟩, hq⟩ := Option.isSome_iff_exists.1 hfind
  have hd' : ¬(blkOf o = 0x15 ∧ (s.accUse (blkOf o)).d2dLost = true) := fun h => by
    rw [State.d2dLost_accUse, hd h.1] at h
    exact absurd h.2 (by decide)
  have hb' : ¬(True ∧ blkOf o = 0x18 ∧ (s.accUse (blkOf o)).outside who = true ∧ (!(s.accUse (blkOf o)).on BIV_CTL_EXT_WR) = true) := fun h => by
    obtain hc | hc := State.accUse_cases (s := s) (blkOf o) <;> rw [hc] at h <;> obtain h' | h' := hb h.2.1
    · exact absurd (h'.symm.trans h.2.2.1) (by decide)
    · exact absurd h.2.2.2 (by rw [show s.rcUse.on BIV_CTL_EXT_WR = s.on BIV_CTL_EXT_WR from rfl, h']; decide)
    · exact absurd (h'.symm.trans h.2.2.1) (by decide)
    · exact absurd h.2.2.2 (by rw [h']; decide)
  have hwide : ¬(4 = 8 ∧ q.bytes = 8 ∧ o = base) := by omega
  simp only [State.regAccess, hl]
  rw [show (if blkOf o = 0x02 ∨ blkOf o = 0x03 then s.rcUse else s) = s.accUse (blkOf o) from rfl, if_neg hd',
    if_neg (by rw [State.inReset_accUse, hr]; decide), if_neg (by omega), hq]
  simp only [hwide, hb', h4, decide_false, beq_self_eq_true, Bool.and_self, Bool.or_true, Bool.not_true, Bool.false_eq_true, if_false, if_true]

/-- The write of a shadow (R121). -/
theorem State.writeWord_shadow {o : Nat} {who : Who} {v : Word} (hs : isShadow o = true) (hw : writableAt o = true) :
    s.writeWord who false o v = if s.cfgState = 1 then ((s.keysDrop o).wrMasked o v, 0)
      else ((s.keysDrop o).fault 0x04 0x0A ((s.keysDrop o).selfAddr o), 0x09) := by
  simp only [writableAt, Bool.and_eq_true, Bool.not_eq_true', decide_eq_true_eq] at hw
  have hst : (s.keysDrop o).cfgState = s.cfgState := (State.only_keysDrop o).get_eq (f := CFG_STAT_STATE) (by simp)
  rw [State.writeWord, if_neg (by simp [hw.1.2]), if_pos hs]
  simp only [State.shadowWrite, hst]
  split <;> rfl

theorem exec_shadowWrite {who : Who} {off : BitVec 24} {o : Nat} {v : Word} (hl : s.leadsTo off.toNat = some o) (hs : isShadow o = true)
    (hd : s.dark = false) (hr : s.inReset (blkOf o) = false) (h15 : blkOf o = 0x15 → s.d2dLost = false)
    (h18 : blkOf o = 0x18 → s.outside who = false ∨ s.on BIV_CTL_EXT_WR = true) :
    exec (.shadowWrite who off v) s = .next (((s.accUse (blkOf o)).writeWord who false o v).1.answer (whoKey who)
      ((s.accUse (blkOf o)).writeWord who false o v).2 0) := by
  have h4 : o % 4 = 0 := by
    rw [isShadow, Bool.and_eq_true, beq_iff_eq] at hs
    exact hs.1
  have hacc := State.regAccess_writable (data := v.toNat) hl (writableAt_shadow hs) h4 hr h15 h18
  rw [BitVec.ofNat_toNat, BitVec.setWidth_eq] at hacc
  show execShadowWrite who off v s = _
  rw [execShadowWrite, hl]
  dsimp only
  rw [if_pos hs, State.regDone_live hd, hacc]

/-! ### The commands -/

theorem exec_cfgOpen (hr : s.inReset 0x04 = false) : exec .cfgOpen s = .next s.cfgOpen :=
  congrArg Host.Outcome.next (s.cmd_run CFG_CMD _ (State.dark_of_runs (by decide) hr) hr)

theorem exec_cfgCheck (hr : s.inReset 0x04 = false) : exec .cfgCheck s = .next s.cfgCheck :=
  congrArg Host.Outcome.next (s.cmd_run CFG_CMD _ (State.dark_of_runs (by decide) hr) hr)

theorem exec_cfgApplyNow (hr : s.inReset 0x04 = false) : exec .cfgApplyNow s = .next (s.cfgApplyCmd 1) :=
  congrArg Host.Outcome.next (s.cmd_run CFG_CMD _ (State.dark_of_runs (by decide) hr) hr)

theorem exec_cfgApplyAt (hr : s.inReset 0x04 = false) : exec .cfgApplyAt s = .next (s.cfgApplyCmd 2) :=
  congrArg Host.Outcome.next (s.cmd_run CFG_CMD _ (State.dark_of_runs (by decide) hr) hr)

theorem exec_cfgAbort (hr : s.inReset 0x04 = false) : exec .cfgAbort s = .next s.cfgAbort :=
  congrArg Host.Outcome.next (s.cmd_run CFG_CMD _ (State.dark_of_runs (by decide) hr) hr)

theorem exec_cfgDiscard (hr : s.inReset 0x04 = false) : exec .cfgDiscard s = .next s.cfgDiscard :=
  congrArg Host.Outcome.next (s.cmd_run CFG_CMD _ (State.dark_of_runs (by decide) hr) hr)

/-- APPLY_NOW and APPLY_AT in OPEN begin a check (R123). -/
theorem State.cfgApplyCmd_open {way : Nat} (h : s.get CFG_STAT_STATE = 1) (hm : s.mode ≠ 4) (hf : way = 2 → s.rpe.floor ≠ 1) :
    s.cfgApplyCmd way = (s.modCfg fun c => { c with inst := s.rd64 CFG_APPLY_T }).startCheck way := by
  have hst : s.cfgState = 1 := h
  rw [State.cfgApplyCmd]
  simp only [hst]
  rw [if_neg (by simp), if_neg (fun h => hf h.1 h.2), if_neg hm, if_pos trivial]

/-- In ARMED without a ring-wide commit they set the instant (R123). -/
theorem State.cfgApplyCmd_armed {way : Nat} (h : s.get CFG_STAT_STATE = 3) (hring : s.on CFG_STAT_RING = false) (hm : s.mode ≠ 4)
    (hf : way = 2 → s.rpe.floor ≠ 1) : s.cfgApplyCmd way = s.setInstant way (s.rd64 CFG_APPLY_T) := by
  have hst : s.cfgState = 3 := h
  rw [State.cfgApplyCmd]
  simp only [hst, hring]
  rw [if_neg (by decide), if_neg (fun h => hf h.1 h.2), if_neg hm, if_neg (by decide)]

/-- APPLY_AT where ring time is not known (R2). -/
theorem State.cfgApplyCmd_floor (h : s.get CFG_STAT_STATE ∈ [1, 3]) (hring : s.on CFG_STAT_RING = false) (hf : s.rpe.floor = 1) :
    s.cfgApplyCmd 2 = s.cfgRefuse.put CFG_CHECK_RES_CODE 0x71 := by
  have hst : s.cfgState = 1 ∨ s.cfgState = 3 := by simpa [State.cfgState] using h
  rw [State.cfgApplyCmd, if_neg (by obtain h | h := hst <;> simp [h, hring]), if_pos ⟨rfl, hf⟩]

theorem State.cfgApplyCmd_refused (h : s.get CFG_STAT_STATE ∉ [1, 3] ∨ s.mode = 4) : s.cfgApplyCmd 1 = s.cfgRefuse := by
  rw [State.cfgApplyCmd]
  split
  · rfl
  · next hl =>
    rw [if_neg (by simp)]
    obtain h | h := h
    · have hst : s.cfgState ≠ 1 ∧ s.cfgState ≠ 3 := by simpa [State.cfgState] using h
      exact absurd (by simp [hst]) hl
    · exact if_pos h

/-- What a check that begins leaves. -/
theorem State.startCheck_spec (asked : Nat) : (s.startCheck asked).get CFG_STAT_STATE = 2 ∧
    (s.startCheck asked).cfg = { s.cfg with asked := asked } ∧ s.only [CFG_STAT] [.cfg] (s.startCheck asked) :=
  ⟨State.get_put_val _ _ _ rfl, State.put_cfg _ _ _, ((s.only_refl _ _).with_cfg _ (by simp)).put _ (by simp [CFG_STAT_STATE])⟩

theorem State.only_miss_room {kind src index deadline : Nat} (hr : s.inReset 0x0F = false) (hq : s.time.dlQ.length < 16) :
    s.missed (s.miss kind src index deadline) kind src index deadline ∧ s.only [] [.time] (s.miss kind src index deadline) := by
  rw [State.missed, State.miss, if_neg (by simp [hr]), if_neg (by omega)]
  exact ⟨rfl, (s.only_refl _ _).with_time _ (by simp)⟩

end

/-- Settles O20: each command from the states that list it, what is refused, and the writes of shadows in OPEN and outside it. -/
theorem commitCommands : Obligations.CommitCommands := by
  unfold Obligations.CommitCommands
  refine ⟨?_, ?_, ?_, ?_, ?_, ?_, ?_, ?_, ?_, ?_, ?_, ?_, ?_⟩
  · intro s hr hst
    exact ⟨_, (exec_cfgOpen hr).trans (congrArg _ (if_pos hst)), State.get_put_val _ _ _ rfl, (s.only_refl _ _).put _ (by simp [CFG_STAT_STATE])⟩
  · intro s hr hst
    obtain ⟨h2, hcfg, honly⟩ := s.startCheck_spec 0
    exact ⟨_, (exec_cfgCheck hr).trans (congrArg _ (if_pos hst)), h2, by rw [hcfg], honly⟩
  · intro s hr hst hm
    obtain ⟨h2, hcfg, honly⟩ := (s.modCfg fun c => { c with inst := s.rd64 CFG_APPLY_T }).startCheck_spec 1
    exact ⟨_, (exec_cfgApplyNow hr).trans (congrArg _ (State.cfgApplyCmd_open hst hm (by omega))), h2, hcfg,
      ((s.only_refl _ _).with_cfg _ (by simp)).trans honly⟩
  · intro s hr hst hring hm
    exact ⟨_, (exec_cfgApplyNow hr).trans (congrArg _ (State.cfgApplyCmd_armed hst hring hm (by omega))), rfl,
      (s.only_refl _ _).with_cfg _ (by simp)⟩
  · intro s hr hst hring hm hf hnow
    have hset : s.setInstant 2 (s.rd64 CFG_APPLY_T) = s.modCfg fun c => { c with way := 2, at_ := s.rd64 CFG_APPLY_T } := by
      rw [State.setInstant, if_pos rfl, if_neg (by omega)]
    exact ⟨_, (exec_cfgApplyAt hr).trans (congrArg _ ((State.cfgApplyCmd_armed hst hring hm fun _ => hf).trans hset)), rfl,
      (s.only_refl _ _).with_cfg _ (by simp)⟩
  · intro s hr hst hring hm hf hnow h0f hq
    have hset : s.setInstant 2 (s.rd64 CFG_APPLY_T) =
        ((s.modCfg fun c => { c with way := 2, at_ := s.nextBoundary }).put CFG_STAT_LATE 1).miss 0x05 0x04 0 (s.rd64 CFG_APPLY_T) := by
      rw [State.setInstant, if_pos rfl, if_pos hnow]
    have hexec := (exec_cfgApplyAt hr).trans (congrArg _ ((State.cfgApplyCmd_armed hst hring hm fun _ => hf).trans hset))
    have hput : s.only [CFG_STAT] [.cfg, .time] ((s.modCfg fun c => { c with way := 2, at_ := s.nextBoundary }).put CFG_STAT_LATE 1) :=
      ((s.only_refl _ _).with_cfg _ (by simp)).put _ (by simp [CFG_STAT_LATE])
    have hlate : ((s.modCfg fun c => { c with way := 2, at_ := s.nextBoundary }).put CFG_STAT_LATE 1).get CFG_STAT_LATE = 1 :=
      State.get_put_val _ _ _ rfl
    have hcfg : ((s.modCfg fun c => { c with way := 2, at_ := s.nextBoundary }).put CFG_STAT_LATE 1).cfg = { s.cfg with way := 2, at_ := s.nextBoundary } :=
      State.put_cfg _ _ _
    have htime : ((s.modCfg fun c => { c with way := 2, at_ := s.nextBoundary }).put CFG_STAT_LATE 1).time = s.time := State.put_time _ _ _
    generalize (s.modCfg fun c => { c with way := 2, at_ := s.nextBoundary }).put CFG_STAT_LATE 1 = u at hexec hput hlate hcfg htime
    have hnow' : u.now = s.now := State.rd64_congr (hput.1 _ (by decide)) (hput.1 _ (by decide))
    obtain ⟨hmiss, honly⟩ := State.only_miss_room (s := u) (kind := 5) (src := 4) (index := 0) (deadline := s.rd64 CFG_APPLY_T)
      ((hput.inReset_eq (by decide) (by decide) (by simp) _).trans h0f) (by rw [htime]; exact hq)
    rw [State.missed, hnow', htime] at hmiss
    exact ⟨_, hexec, (honly.2 .cfg (by simp)).trans hcfg, (honly.get_eq (by simp)).trans hlate, hmiss, hput.trans (honly.mono (by simp) (by simp))⟩
  · intro s hr hst hm hf
    obtain ⟨h2, hcfg, honly⟩ := (s.modCfg fun c => { c with inst := s.rd64 CFG_APPLY_T }).startCheck_spec 2
    exact ⟨_, (exec_cfgApplyAt hr).trans (congrArg _ (State.cfgApplyCmd_open hst hm fun _ => hf)), h2, hcfg,
      ((s.only_refl _ _).with_cfg _ (by simp)).trans honly⟩
  · intro s hr hst hring hf
    exact ⟨_, (exec_cfgApplyAt hr).trans (congrArg _ (State.cfgApplyCmd_floor hst hring hf)),
      (State.get_put_ne _ _ _ _ (by decide)).trans (State.get_put_val _ _ _ rfl), State.get_put_val _ _ _ rfl,
      ((s.only_refl _ _).put _ (by simp [CFG_STAT_REFUSED])).put _ (by simp [CFG_CHECK_RES_CODE])⟩
  · intro s hr hst
    exact ⟨_, (exec_cfgAbort hr).trans (congrArg _ (if_pos hst)), (State.get_put_apart _ _ rfl).trans (State.get_put_val _ _ _ rfl),
      State.get_put_val _ _ _ rfl, (State.put_cfg _ _ _).trans (State.put_cfg _ _ _),
      (((s.only_refl _ _).with_cfg _ (by simp)).put _ (by simp [CFG_STAT_STATE])).put _ (by simp [CFG_STAT_RING])⟩
  · intro s hr hst
    exact ⟨_, (exec_cfgDiscard hr).trans (congrArg _ (if_pos hst)), State.get_put_val _ _ _ rfl, (s.only_refl _ _).put _ (by simp [CFG_STAT_STATE])⟩
  · intro c s hr h
    have hexec : exec c s = .next s.cfgRefuse := by
      obtain ⟨rfl, h⟩ | ⟨rfl, h⟩ | ⟨rfl, h⟩ | ⟨rfl, h⟩ | ⟨rfl, h⟩ := h
      · exact (exec_cfgOpen hr).trans (congrArg _ (if_neg h))
      · exact (exec_cfgCheck hr).trans (congrArg _ (if_neg h))
      · exact (exec_cfgApplyNow hr).trans (congrArg _ (State.cfgApplyCmd_refused h))
      · exact (exec_cfgAbort hr).trans (congrArg _ (if_neg h))
      · exact (exec_cfgDiscard hr).trans (congrArg _ (if_neg h))
    exact ⟨_, hexec, State.get_put_val _ _ _ rfl, State.get_put_apart _ _ rfl, (s.only_refl _ _).put _ (by simp [CFG_STAT_REFUSED])⟩
  · intro who off o v s hl hs hd hr h15 h18 hst
    have huse := State.only_accUse (s := s) (blkOf o)
    have hexec := exec_shadowWrite (v := v) hl hs hd hr h15 h18
    generalize s.accUse (blkOf o) = u at huse hexec
    rw [State.writeWord_shadow hs (writableAt_shadow hs), if_pos (show u.cfgState = 1 from (huse.get_eq (by simp)).trans hst)] at hexec
    have hkey := huse.trans (State.only_keysDrop (s := u) o)
    generalize u.keysDrop o = w at hkey hexec
    have hrd : w.rd o = s.rd o := hkey.1 _ (by simp)
    exact ⟨_, hexec, rfl, by rw [← hrd]; exact State.rd_wr_same _ _ _,
      ((hkey.mono (os' := [o]) (ps' := [.resp, .sys, .upd]) (by simp) (by simp)).wr _ (by simp)).answer _ _ _ (by simp)⟩
  · intro who off o v s hl hs hd hr h15 h18 hst hroomy
    have huse := State.only_accUse (s := s) (blkOf o)
    have hut := State.time_accUse (s := s) (blkOf o)
    have hexec := exec_shadowWrite (v := v) hl hs hd hr h15 h18
    generalize s.accUse (blkOf o) = u at huse hexec hut
    rw [State.writeWord_shadow hs (writableAt_shadow hs), if_neg (show u.cfgState ≠ 1 from fun h => hst ((huse.get_eq (by simp)).symm.trans h))] at hexec
    have hkey := huse.trans (State.only_keysDrop (s := u) o)
    have ht : (u.keysDrop o).sys.t = s.sys.t := (State.time_keysDrop o).trans hut
    generalize u.keysDrop o = w at hkey hexec ht
    have hroom := hkey.roomy hroomy (by simp) (by simp) (by simp)
    rw [hkey.selfAddr_eq (by simp) (by simp)] at hexec
    have hsent := (hroom.sent_fault 0x04 0x0A (s.selfAddr o)).of_eq (hkey.2 .fltQ (by simp)) ht
    exact ⟨_, hexec, rfl, hsent, ((hkey.mono (os' := []) (ps' := [.resp, .fltQ, .sys, .upd]) (by simp) (by simp)).trans
      ((hroom.only_fault _ _ _).mono (by simp) (by simp))).answer _ _ _ (by simp)⟩

end Sys2Proof.Machine

/-! WARM and POWER-ON resets (R84, R86, R99 to R101, R107). -/
namespace Sys2Proof.Machine

set_option Elab.async false

section
variable {s : State}

/-! ### An entry of the log (R107) -/

/-- The first word of an entry. -/
def logWord (code unit scope : Nat) (multi : Bool) (count : Nat) : Nat :=
  code + unit * 2 ^ 8 + scope * 2 ^ 16 + b2n multi * 2 ^ 18 + min 255 count * 2 ^ 24

/-- The registers of an entry. -/
abbrev logEntry (i : Nat) : List Nat := [RSTC_LOG_W0 i, RSTC_LOG_W1 i]

theorem State.only_logReset (code unit scope : Nat) (multi : Bool) (count : Nat) :
    s.only (RSTC_LOG_HEAD :: logEntry (s.get RSTC_LOG_HEAD_NEXT)) [.sys] (s.logReset code unit scope multi count) :=
  ((((s.only_refl _ _).with_sys _ (by simp)).wr _ (by simp)).wr _ (by simp)).put _ (by simp [RSTC_LOG_HEAD_NEXT])

theorem RSTC_LOG_ne (i : Nat) : RSTC_LOG_W0 i ≠ RSTC_LOG_HEAD ∧ RSTC_LOG_W1 i ≠ RSTC_LOG_HEAD ∧ RSTC_LOG_W0 i ≠ RSTC_LOG_W1 i := by
  simp only [RSTC_LOG_W0, RSTC_LOG_W1, RSTC_LOG_HEAD]
  omega

theorem State.sys_logReset (code unit scope : Nat) (multi : Bool) (count : Nat) :
    (s.logReset code unit scope multi count).sys = (s.closeEntry (s.get RSTC_LOG_HEAD_NEXT)).sys :=
  ((State.put_foot _ _ _).sys rfl).trans (((State.wr_foot _ _ _).sys rfl).trans ((State.wr_foot _ _ _).sys rfl))

/-- What an entry of the log holds, and what its writing leaves of the reset machine. -/
theorem State.logReset_spec (code unit scope : Nat) (multi : Bool) (count : Nat) :
    (s.logReset code unit scope multi count).get RSTC_LOG_HEAD_NEXT = (s.get RSTC_LOG_HEAD_NEXT + 1) % 16 ∧
      (s.logReset code unit scope multi count).rd (RSTC_LOG_W0 (s.get RSTC_LOG_HEAD_NEXT)) =
        BitVec.ofNat 32 (logWord code unit scope multi count) ∧
      (s.logReset code unit scope multi count).rd (RSTC_LOG_W1 (s.get RSTC_LOG_HEAD_NEXT)) = BitVec.ofNat 32 s.aonTime ∧
      (s.logReset code unit scope multi count).sys.die = s.sys.die ∧
      (s.logReset code unit scope multi count).sys.strapDue = s.sys.strapDue := by
  obtain ⟨h0, h1, h01⟩ := RSTC_LOG_ne (s.get RSTC_LOG_HEAD_NEXT)
  refine ⟨State.get_put_same _ RSTC_LOG_HEAD_NEXT _ (by decide), ?_, ?_, ?_⟩
  · rw [State.logReset, State.rd_put_ne _ _ _ h0, State.rd_wr_ne _ _ h01, State.rd_wr_same, logWord]
  · rw [State.logReset, State.rd_put_ne _ _ _ h1, State.rd_wr_same]
  · rw [State.sys_logReset]
    exact ⟨rfl, rfl⟩

theorem wordField_logWord {code unit scope : Nat} (multi : Bool) (count : Nat) (hc : code < 256) (hu : unit < 256) (hs : scope < 4) :
    wordField (BitVec.ofNat 32 (logWord code unit scope multi count)) 0 8 = code ∧
      wordField (BitVec.ofNat 32 (logWord code unit scope multi count)) 8 8 = unit ∧
      wordField (BitVec.ofNat 32 (logWord code unit scope multi count)) 16 2 = scope ∧
      wordField (BitVec.ofNat 32 (logWord code unit scope multi count)) 18 1 = b2n multi := by
  have hm := b2n_lt multi
  simp only [wordField, BitVec.toNat_ushiftRight, BitVec.toNat_ofNat, Nat.shiftRight_eq_div_pow, logWord]
  omega

/-! ### The parts of a reset -/

/-- A report changes FLT_STAT, its counter and the queue at most. -/
theorem State.only_fault (src kind addr : Nat) : s.only [FLT_STAT] [.live, .fltQ] (s.fault src kind addr) := by
  rw [State.fault, State.faultMsg]
  split
  · exact s.only_refl _ _
  · split
    · exact (s.only_refl _ _).with_fltQ _ (by simp)
    · exact (((s.only_refl _ _).with_fltQ _ (by simp)).put _ (by simp [FLT_STAT_MSG_LOST])).trans
        ((State.only_fltCnt _ (by decide)).mono (by simp) (by simp))

/-- A flash command cut short (R489): UPD's own registers, and two reports. -/
theorem State.only_updCut : s.only [UPD_STAT, UPD_RES, UPD_EVT, FLT_STAT] [.live, .upd, .fltQ] s.updCut := by
  rw [State.updCut]
  split
  · next r hr =>
    have htear : s.only [UPD_STAT, UPD_RES, UPD_EVT, FLT_STAT] [.live, .upd, .fltQ] (if r.code = 0 then s.flashTear r.area else s) := by
      split
      · refine State.only.with_upd (State.only_each (fun t a _ => ?_) s) _ (by simp)
        exact (t.only_refl _ _).with_upd _ (by simp)
      · exact s.only_refl _ _
    generalize (if r.code = 0 then s.flashTear r.area else s) = t at htear ⊢
    have hafter (u : State) : u.only [UPD_STAT, UPD_RES, UPD_EVT, FLT_STAT] [.live, .upd, .fltQ] (u.updAfter r 0x14) := by
      rw [State.updAfter, if_neg (by simp)]
      split
      · exact u.only_refl _ _
      · rw [if_neg (by decide)]
        exact (u.only_refl _ _).with_upd _ (by simp)
    have hf (u : State) (k a : Nat) : u.only [UPD_STAT, UPD_RES, UPD_EVT, FLT_STAT] [.live, .upd, .fltQ] (u.fault 0x16 k a) :=
      (State.only_fault _ _ _).mono (by simp) (by simp)
    rw [State.updEnd]
    dsimp only
    rw [if_pos rfl, if_neg (by decide)]
    exact ((((((((htear.with_upd _ (by simp)).trans (hafter _)).put _ (by simp [UPD_STAT_BUSY])).put _ (by simp [UPD_RES_CODE])).put _
      (by simp [UPD_RES_OP])).put _ (by simp [UPD_EVT_DONE])).trans (hf _ _ _)).put _ (by simp [UPD_EVT_REFUSED])).trans (hf _ _ _)
  · exact s.only_refl _ _

theorem State.only_padCapture : s.only [BIV_HOLD_LVL_A, BIV_HOLD_LVL_B] [.sys] s.padCapture :=
  (((s.only_refl _ _).put _ (by simp [BIV_HOLD_LVL_A_LVL])).put _ (by simp [BIV_HOLD_LVL_B_LVL])).with_sys _ (by simp)

/-- What a reset of the D-die leaves in a register (R84). -/
theorem State.rd_dieReset (keep : Nat → Bool) (o : Nat) : (s.dieReset keep).rd o = if keep o then s.rd o else regReset o :=
  Tab.get_filter _ _ _ _

/-- The registers that GH-320 behaviour shows in (R96, R350). -/
abbrev gh320Regs : List Nat := ID_STRAP :: (List.range 64).map SQ_LVL

theorem State.only_setGh320 : s.only gh320Regs [] s.setGh320 := by
  rw [State.setGh320]
  have hput : s.only gh320Regs [] (s.put ID_STRAP_GH320 (b2n (s.on CFG_CTL_LEGACY || s.on ID_STRAP_COMPAT))) :=
    (s.only_refl _ _).put _ (by simp [ID_STRAP_GH320])
  generalize s.put ID_STRAP_GH320 (b2n (s.on CFG_CTL_LEGACY || s.on ID_STRAP_COMPAT)) = t at hput ⊢
  rw [State.when]
  split
  · refine hput.trans (State.only_each (fun u q hq => ?_) t)
    split
    · exact u.only_refl _ _
    · exact (u.only_refl _ _).put _ (List.mem_cons_of_mem _ (List.mem_map.2 ⟨q, hq, rfl⟩))
  · exact hput

/-- The registers of line supervision that a reset marks as out of date (R12). -/
abbrev staleRegs : List Nat := LSV_STAT :: ((List.range 8).map LSV_SCI_STAT ++ (List.range 8).map LSV_LS_RES)

theorem State.only_staleMark : s.only staleRegs [] s.staleMark := by
  rw [State.staleMark]
  refine State.only.put (State.only_each (fun u n hn => ?_) s) _ (by simp [LSV_STAT_LINK_OK])
  refine ((u.only_refl _ _).put _ ?_).put _ ?_
  · exact List.mem_cons_of_mem _ (List.mem_append_left _ (List.mem_map.2 ⟨n, hn, rfl⟩))
  · exact List.mem_cons_of_mem _ (List.mem_append_right _ (List.mem_map.2 ⟨n, hn, rfl⟩))

/-! ### The WARM reset -/

/-- The D-die in its reset, before the cause is shown. -/
def State.warmDie (s : State) : State := (s.padCapture.updCut).dieReset keepWarm

/-- The parts that a WARM reset keeps, and those it clears (R84). -/
structure State.dieKept (s u : State) : Prop where
  cleared : ∀ o, keepWarm o = false → u.rd o = regReset o
  kept : ∀ o, keepWarm o = true → o ≠ BIV_HOLD_LVL_A → o ≠ BIV_HOLD_LVL_B → u.rd o = s.rd o
  mem : u.mem = s.mem
  marks : u.store.marks = s.store.marks
  biv : u.biv.mem = s.biv.mem
  lpw : u.lpw = s.lpw
  link : u.d2dLost = s.d2dLost
  pending : u.pending = s.pending
  flash : s.upd.run = none → u.upd.flash = s.upd.flash
  trial : u.upd.trial = none
  fltQ : u.fltQ = []
  die : u.sys.die = some 2

theorem State.dieKept_warmDie : s.dieKept s.warmDie := by
  have hpad := State.only_padCapture (s := s)
  have hcut := hpad.mono (os' := [BIV_HOLD_LVL_A, BIV_HOLD_LVL_B, UPD_STAT, UPD_RES, UPD_EVT, FLT_STAT]) (ps' := [.sys, .live, .upd, .fltQ])
    (by simp) (by simp) |>.trans ((State.only_updCut (s := s.padCapture)).mono (by simp) (by simp))
  have hflash (h : s.upd.run = none) : s.padCapture.updCut.upd = s.upd := by
    have hupd : s.padCapture.upd = s.upd := hpad.2 .upd (by simp)
    rw [State.updCut, hupd, h]
    exact hupd
  rw [State.warmDie]
  generalize s.padCapture.updCut = u at hcut hflash ⊢
  have hupd : ∀ o ∈ [UPD_STAT, UPD_RES, UPD_EVT, FLT_STAT], keepWarm o = false := by decide
  refine ⟨fun o ho => ?_, fun o ho ha hb => ?_, hcut.2 .mem (by simp), ?_, ?_, hcut.2 .lpw (by simp), hcut.2 .d2dLost (by simp),
    hcut.2 .pending (by simp), fun h => congrArg (·.flash) (hflash h), rfl, rfl, rfl⟩
  · rw [State.rd_dieReset, ho, if_neg (by decide)]
  · rw [State.rd_dieReset, ho, if_pos rfl]
    refine hcut.1 o ?_
    simp only [List.mem_cons, ha, hb, false_or]
    exact fun h => absurd (hupd o (by simpa using h)) (by simp [ho])
  · exact congrArg (·.marks) (hcut.2 .store (by simp))
  · exact congrArg (·.mem) (hcut.2 .biv (by simp))

/-- The marks of the reset on the D-die: the store's state, FACTORY TEST, GH-320 behaviour, the cause and the entry of the log. -/
def State.warmLogged (u : State) (cause init ftest : Nat) (multi : Bool) : State :=
  ((((u.put MSA_STAT_INIT_DONE init).put MPC_MODE_FTEST ftest).setGh320).put RSTC_CAUSE_CODE cause).logReset cause 0xFE 1 multi 0

/-- The registers that show a WARM reset. -/
abbrev warmRegs (e : Nat) : List Nat := [MSA_STAT, MPC_MODE, RSTC_CAUSE, RSTC_LOG_HEAD, RSTC_LOG_W0 e, RSTC_LOG_W1 e] ++ gh320Regs

theorem gh320Regs_blk {o : Nat} (h : o ∈ gh320Regs) : o = ID_STRAP ∨ blkOf o = 0x11 := by
  rw [List.mem_cons, List.mem_map] at h
  obtain h | ⟨q, hq, rfl⟩ := h
  · exact .inl h
  · right
    rw [List.mem_range] at hq
    simp only [blkOf, SQ_LVL]
    omega

theorem staleRegs_blk {o : Nat} (h : o ∈ staleRegs) : blkOf o = 0x12 := by
  have hall : ∀ o ∈ staleRegs, blkOf o = 0x12 := by decide
  exact hall o h

theorem State.warmLogged_spec {u : State} {cause init ftest : Nat} {multi : Bool} (hc : cause < 256) (hi : init < 2) :
    (u.warmLogged cause init ftest multi).get RSTC_CAUSE_CODE = cause ∧
      (u.warmLogged cause init ftest multi).get MSA_STAT_INIT_DONE = init ∧
      (u.warmLogged cause init ftest multi).get RSTC_LOG_HEAD_NEXT = (u.get RSTC_LOG_HEAD_NEXT + 1) % 16 ∧
      (u.warmLogged cause init ftest multi).rd (RSTC_LOG_W0 (u.get RSTC_LOG_HEAD_NEXT)) =
        BitVec.ofNat 32 (logWord cause 0xFE 1 multi 0) ∧
      (u.warmLogged cause init ftest multi).sys.die = u.sys.die ∧
      u.only (warmRegs (u.get RSTC_LOG_HEAD_NEXT)) [.sys] (u.warmLogged cause init ftest multi) := by
  have hne {f : Fld} (hf : f.off ≠ ID_STRAP) (hb : blkOf f.off ≠ 0x11) : f.off ∉ gh320Regs := fun h => (gh320Regs_blk h).elim hf hb
  have hgh := State.only_setGh320 (s := (u.put MSA_STAT_INIT_DONE init).put MPC_MODE_FTEST ftest)
  have hshown : u.only (warmRegs (u.get RSTC_LOG_HEAD_NEXT)) [.sys]
      ((((u.put MSA_STAT_INIT_DONE init).put MPC_MODE_FTEST ftest).setGh320).put RSTC_CAUSE_CODE cause) :=
    ((((u.only_refl _ _).put _ (by simp [MSA_STAT_INIT_DONE])).put _ (by simp [MPC_MODE_FTEST])).trans
      (hgh.mono (List.subset_append_right _ _) (by simp))).put _ (by simp [RSTC_CAUSE_CODE])
  have hinit : ((((u.put MSA_STAT_INIT_DONE init).put MPC_MODE_FTEST ftest).setGh320).put RSTC_CAUSE_CODE cause).get MSA_STAT_INIT_DONE = init :=
    (State.get_put_ne _ _ _ _ (by decide)).trans ((hgh.get_eq (hne (by decide) (by decide))).trans
      ((State.get_put_ne _ _ _ _ (by decide)).trans (State.get_put_self _ rfl hi)))
  have hcause : ((((u.put MSA_STAT_INIT_DONE init).put MPC_MODE_FTEST ftest).setGh320).put RSTC_CAUSE_CODE cause).get RSTC_CAUSE_CODE = cause :=
    State.get_put_self _ rfl hc
  have hnext : ((((u.put MSA_STAT_INIT_DONE init).put MPC_MODE_FTEST ftest).setGh320).put RSTC_CAUSE_CODE cause).get RSTC_LOG_HEAD_NEXT =
      u.get RSTC_LOG_HEAD_NEXT :=
    (State.get_put_ne _ _ _ _ (by decide)).trans ((hgh.get_eq (hne (by decide) (by decide))).trans
      ((State.get_put_ne _ _ _ _ (by decide)).trans (State.get_put_ne _ _ _ _ (by decide))))
  have hsys : ((((u.put MSA_STAT_INIT_DONE init).put MPC_MODE_FTEST ftest).setGh320).put RSTC_CAUSE_CODE cause).sys = u.sys :=
    (State.put_sys _ _ _).trans ((hgh.2 .sys (by simp)).trans ((State.put_sys _ _ _).trans (State.put_sys _ _ _)))
  rw [State.warmLogged]
  generalize (((u.put MSA_STAT_INIT_DONE init).put MPC_MODE_FTEST ftest).setGh320).put RSTC_CAUSE_CODE cause = v at hshown hinit hcause hnext hsys ⊢
  obtain ⟨hn, hw0, -, hdie, -⟩ := v.logReset_spec cause 0xFE 1 multi 0
  have hlog := v.only_logReset cause 0xFE 1 multi 0
  rw [hnext] at hn hw0 hlog
  have hout {f : Fld} (hf : f.off < RSTC_LOG_HEAD ∨ 0x30000 ≤ f.off) : f.off ∉ RSTC_LOG_HEAD :: logEntry (u.get RSTC_LOG_HEAD_NEXT) := by
    have hlt : u.get RSTC_LOG_HEAD_NEXT < 16 := u.get_lt RSTC_LOG_HEAD_NEXT
    simp only [logEntry, RSTC_LOG_W0, RSTC_LOG_W1, RSTC_LOG_HEAD, List.mem_cons, List.not_mem_nil, or_false] at hf ⊢
    omega
  exact ⟨(hlog.get_eq (hout (by decide))).trans hcause, (hlog.get_eq (hout (by decide))).trans hinit, hn, hw0, hdie.trans (by rw [hsys]),
    hshown.trans (hlog.mono (by simp) (by simp))⟩

/-- The end of a WARM reset: its cycle kept, the marks without the link to the P-die, and RESET_N's own effects. -/
def State.warmEnd (t : State) (cause e : Nat) (dorm : Bool) : State :=
  let s4 : State := { t with sys := { t.sys with lastRst := some (t.slowCycle, cause, e, dorm) } }
  let s5 := if s4.d2dLost then s4.staleMark else s4
  if cause = 2 then s5.resetPin else s5

theorem State.only_resetPin : s.only [MPC_MODE] [.sys] s.resetPin :=
  ((s.only_refl _ _).put _ (by simp [MPC_MODE_FTEST])).with_sys _ (by simp)

theorem State.warmEnd_spec {t : State} {cause e : Nat} {dorm : Bool} :
    (t.warmEnd cause e dorm).sys.die = t.sys.die ∧
      (cause = 2 → (t.warmEnd cause e dorm).sys.strapDue = true ∧ (t.warmEnd cause e dorm).get MPC_MODE_FTEST = 0) ∧
      t.only (MPC_MODE :: (if t.d2dLost then staleRegs else [])) [.sys] (t.warmEnd cause e dorm) := by
  have hkeep : t.only (MPC_MODE :: (if t.d2dLost then staleRegs else [])) [.sys]
      { t with sys := { t.sys with lastRst := some (t.slowCycle, cause, e, dorm) } } := (t.only_refl _ _).with_sys _ (by simp)
  have hdie : ({ t with sys := { t.sys with lastRst := some (t.slowCycle, cause, e, dorm) } } : State).sys.die = t.sys.die := rfl
  have hlost : ({ t with sys := { t.sys with lastRst := some (t.slowCycle, cause, e, dorm) } } : State).d2dLost = t.d2dLost := rfl
  rw [State.warmEnd]
  generalize ({ t with sys := { t.sys with lastRst := some (t.slowCycle, cause, e, dorm) } } : State) = u at hkeep hdie hlost ⊢
  have hmark : t.only (MPC_MODE :: (if t.d2dLost then staleRegs else [])) [.sys] (if u.d2dLost then u.staleMark else u) ∧
      (if u.d2dLost then u.staleMark else u).sys = u.sys := by
    rw [hlost]
    by_cases h : t.d2dLost = true
    · rw [if_pos h] at hkeep
      rw [if_pos h, if_pos h]
      exact ⟨hkeep.trans ((State.only_staleMark).mono (List.subset_cons_self _ _) (by simp)), State.only_staleMark.2 .sys (by simp)⟩
    · rw [if_neg h] at hkeep
      rw [if_neg h, if_neg h]
      exact ⟨hkeep, rfl⟩
  generalize (if u.d2dLost then u.staleMark else u) = v at hmark ⊢
  obtain ⟨honly, hsys⟩ := hmark
  split
  · exact ⟨by rw [← hdie, ← hsys]; rfl, fun _ => ⟨rfl, State.get_put_val _ _ _ rfl⟩, honly.trans ((State.only_resetPin).mono (by simp) (by simp))⟩
  · next h => exact ⟨by rw [hsys, hdie], fun h' => absurd h' h, honly⟩

/-- The rails off and the store empty, after a reset that ends DORMANT (R86). -/
def State.dormEnd (s : State) : State :=
  let s7 := (s.put LPW_SEQ_STAT_STATE 1).setBit LPW_SEQ_STAT_PEN 0
  { s7 with mem := [], store := { s7.store with marks := [] } }

/-- A WARM reset in steps (R84). -/
theorem State.warmBody_steps (cause : Nat) (multi : Bool) : s.warmBody cause multi =
    if s.mode == 0 then ((s.warmDie.warmLogged cause (b2n (s.on MSA_STAT_INIT_DONE && !(s.mode == 0))) (s.get MPC_MODE_FTEST) multi).warmEnd cause
      (s.get RSTC_LOG_HEAD_NEXT) (s.mode == 0)).dormEnd
    else (s.warmDie.warmLogged cause (b2n (s.on MSA_STAT_INIT_DONE && !(s.mode == 0))) (s.get MPC_MODE_FTEST) multi).warmEnd cause
      (s.get RSTC_LOG_HEAD_NEXT) (s.mode == 0) := rfl

theorem State.warmBody_eq (cause : Nat) (multi : Bool) : s.warmBody cause multi =
    if s.mode = 0 then ((s.warmDie.warmLogged cause 0 (s.get MPC_MODE_FTEST) multi).warmEnd cause (s.get RSTC_LOG_HEAD_NEXT) true).dormEnd
    else (s.warmDie.warmLogged cause (b2n (s.on MSA_STAT_INIT_DONE)) (s.get MPC_MODE_FTEST) multi).warmEnd cause
      (s.get RSTC_LOG_HEAD_NEXT) false := by
  rw [State.warmBody_steps]
  by_cases h : s.mode = 0
  · have hb : (s.mode == 0) = true := by simpa using h
    rw [if_pos h, hb, if_pos rfl, Bool.not_true, Bool.and_false]
    rfl
  · have hb : (s.mode == 0) = false := by simpa using h
    rw [if_neg h, hb, if_neg (by decide), Bool.not_false, Bool.and_true]

theorem State.warmReset_acts {cause : Nat} (ha : s.lpw.aon = true) (hc : s.sameCycle = none) : s.warmReset cause = s.warmBody cause s.unitNow := by
  rw [State.warmReset, ha, hc]
  rfl

theorem b2n_on {f : Fld} (hw : f.w = 1) : b2n (s.on f) = s.get f := by
  have hlt := s.get_lt f
  rw [hw] at hlt
  rw [State.on]
  obtain h | h : s.get f = 0 ∨ s.get f = 1 := by omega
  · rw [h]; rfl
  · rw [h]; rfl

/-- What a WARM reset outside DORMANT leaves (R84, R107). -/
theorem State.warmReset_spec {cause : Nat} (ha : s.lpw.aon = true) (hc : s.sameCycle = none) (hm : s.mode ≠ 0) (hcause : cause < 256) :
    ∃ u, s.dieKept u ∧ (s.warmReset cause).get RSTC_CAUSE_CODE = cause ∧ (s.warmReset cause).get MSA_STAT_INIT_DONE = s.get MSA_STAT_INIT_DONE ∧
      (s.warmReset cause).get RSTC_LOG_HEAD_NEXT = (s.get RSTC_LOG_HEAD_NEXT + 1) % 16 ∧
      (s.warmReset cause).rd (RSTC_LOG_W0 (s.get RSTC_LOG_HEAD_NEXT)) = BitVec.ofNat 32 (logWord cause 0xFE 1 s.unitNow 0) ∧
      (s.warmReset cause).sys.die = some 2 ∧
      (cause = 2 → (s.warmReset cause).sys.strapDue = true ∧ (s.warmReset cause).get MPC_MODE_FTEST = 0) ∧
      u.only (warmRegs (s.get RSTC_LOG_HEAD_NEXT) ++ if s.d2dLost then staleRegs else []) [.sys] (s.warmReset cause) := by
  have hdie := State.dieKept_warmDie (s := s)
  have hnext : s.warmDie.get RSTC_LOG_HEAD_NEXT = s.get RSTC_LOG_HEAD_NEXT := State.get_congr (hdie.kept _ (by decide) (by decide) (by decide))
  rw [State.warmReset_acts ha hc, State.warmBody_eq, if_neg hm, b2n_on rfl]
  obtain ⟨hcd, hi, hn, hw0, hd, honly⟩ := State.warmLogged_spec (u := s.warmDie) (ftest := s.get MPC_MODE_FTEST) (multi := s.unitNow) hcause
    (s.get_lt MSA_STAT_INIT_DONE)
  rw [hnext] at hn hw0 honly
  generalize s.warmDie.warmLogged cause (s.get MSA_STAT_INIT_DONE) (s.get MPC_MODE_FTEST) s.unitNow = v at hcd hi hn hw0 hd honly ⊢
  have hlost : v.d2dLost = s.d2dLost := (honly.2 .d2dLost (by simp)).trans hdie.link
  obtain ⟨hd', hpin, hend⟩ := State.warmEnd_spec (t := v) (cause := cause) (e := s.get RSTC_LOG_HEAD_NEXT) (dorm := false)
  rw [hlost] at hend
  have hout {o : Nat} (hm : o ≠ MPC_MODE) (hb : blkOf o ≠ 0x12) : o ∉ MPC_MODE :: (if s.d2dLost then staleRegs else []) := by
    rw [List.mem_cons, not_or]
    refine ⟨hm, fun h => ?_⟩
    split at h
    · exact hb (staleRegs_blk h)
    · exact absurd h (by simp)
  have hlog : RSTC_LOG_W0 (s.get RSTC_LOG_HEAD_NEXT) ≠ MPC_MODE ∧ blkOf (RSTC_LOG_W0 (s.get RSTC_LOG_HEAD_NEXT)) ≠ 0x12 := by
    have hlt : s.get RSTC_LOG_HEAD_NEXT < 16 := s.get_lt RSTC_LOG_HEAD_NEXT
    simp only [RSTC_LOG_W0, MPC_MODE, blkOf]
    omega
  refine ⟨_, hdie, (hend.get_eq (hout (by decide) (by decide))).trans hcd, (hend.get_eq (hout (by decide) (by decide))).trans hi,
    (hend.get_eq (hout (by decide) (by decide))).trans hn, (hend.1 _ (hout hlog.1 hlog.2)).trans hw0, hd'.trans (hd.trans hdie.die), hpin, ?_⟩
  refine (honly.mono (List.subset_append_left _ _) (by simp)).trans (hend.mono ?_ (by simp))
  exact List.cons_subset.2 ⟨List.mem_append_left _ (by simp), List.subset_append_right _ _⟩

/-- A WARM reset that ends DORMANT (R86). -/
theorem State.warmReset_dormant {cause : Nat} (ha : s.lpw.aon = true) (hc : s.sameCycle = none) (hm : s.mode = 0) (hcause : cause < 256) :
    (s.warmReset cause).mem = [] ∧ (s.warmReset cause).store.marks = [] ∧ (s.warmReset cause).get MSA_STAT_INIT_DONE = 0 ∧
      (s.warmReset cause).biv.mem = s.biv.mem := by
  have hdie := State.dieKept_warmDie (s := s)
  rw [State.warmReset_acts ha hc, State.warmBody_eq, if_pos hm]
  obtain ⟨-, hi, -, -, -, honly⟩ := State.warmLogged_spec (u := s.warmDie) (ftest := s.get MPC_MODE_FTEST) (multi := s.unitNow) hcause
    (show 0 < 2 by decide)
  generalize s.warmDie.warmLogged cause 0 (s.get MPC_MODE_FTEST) s.unitNow = v at hi honly ⊢
  obtain ⟨-, -, hend⟩ := State.warmEnd_spec (t := v) (cause := cause) (e := s.get RSTC_LOG_HEAD_NEXT) (dorm := true)
  have hinit : (v.warmEnd cause (s.get RSTC_LOG_HEAD_NEXT) true).get MSA_STAT_INIT_DONE = 0 := by
    refine (hend.get_eq (fun h => ?_)).trans hi
    split at h
    · exact absurd h (by decide)
    · exact absurd h (by decide)
  generalize v.warmEnd cause (s.get RSTC_LOG_HEAD_NEXT) true = w at hend hinit ⊢
  have hoff : (w.put LPW_SEQ_STAT_STATE 1 |>.setBit LPW_SEQ_STAT_PEN 0).get MSA_STAT_INIT_DONE = w.get MSA_STAT_INIT_DONE :=
    (State.get_put_ne _ _ _ _ (by decide)).trans (State.get_put_ne _ _ _ _ (by decide))
  exact ⟨rfl, rfl, hoff.trans hinit, (congrArg (·.mem) ((hend.2 .biv (by simp)).trans (honly.2 .biv (by simp)))).trans hdie.biv⟩

/-- The registers that a WARM reset writes after the clearing: three of its own, kept ones, the queue levels, and stale marks. -/
theorem warmRegs_cases {e o : Nat} {d : Bool} (he : e < 16) (h : o ∈ warmRegs e ++ if d then staleRegs else []) :
    o ∈ [RSTC_CAUSE, MSA_STAT, MPC_MODE] ∨ keepWarm o = true ∧ blkOf o ≠ 0x15 ∨ blkOf o = 0x11 ∨ blkOf o = 0x12 ∧ d = true := by
  have hlog : ∀ e < 16, (keepWarm (RSTC_LOG_W0 e) = true ∧ blkOf (RSTC_LOG_W0 e) ≠ 0x15) ∧
      keepWarm (RSTC_LOG_W1 e) = true ∧ blkOf (RSTC_LOG_W1 e) ≠ 0x15 := by decide
  rw [List.mem_append, List.mem_append] at h
  obtain (h | h) | h := h
  · simp only [List.mem_cons, List.not_mem_nil, or_false] at h
    obtain rfl | rfl | rfl | rfl | rfl | rfl := h
    · exact .inl (by simp)
    · exact .inl (by simp)
    · exact .inl (by simp)
    · exact .inr (.inl (by decide))
    · exact .inr (.inl (hlog e he).1)
    · exact .inr (.inl (hlog e he).2)
  · obtain rfl | h := gh320Regs_blk h
    · exact .inr (.inl (by decide))
    · exact .inr (.inr (.inl h))
  · split at h
    · next hd => exact .inr (.inr (.inr ⟨staleRegs_blk h, hd⟩))
    · exact absurd h (by simp)

/-! ### The POWER-ON reset -/

/-- The registers of line power that the P-die shows after power-on. -/
abbrev porLpwRegs : List Nat := [LPW_STAT, LPW_P_STAT 0, LPW_P_STAT 1]

/-- The P-die's own reset (R455, R457). -/
theorem State.lpwPor_spec (stacked : Bool) : (∀ o, blkOf o ≠ 0x15 → (s.lpwPor stacked).rd o = s.rd o) ∧ (s.lpwPor stacked).upd = s.upd ∧
    (s.lpwPor stacked).pending = s.pending ∧ (s.lpwPor stacked).fltQ = s.fltQ := by
  have hclear : (∀ o, blkOf o ≠ 0x15 → State.rd { s with
      regs := s.regs.filter fun e => blkOf e.1 != 0x15
      live := s.live.filter fun e => blkOf e.1 != 0x15
      lpw := ⟨[], [], [], [], false, true⟩
      lpwRawHeld := false } o = s.rd o) := fun o ho =>
    (Tab.get_filter regReset s.regs (fun o => blkOf o != 0x15) o).trans (if_pos (by simpa using ho))
  rw [State.lpwPor]
  generalize hu : ({ s with
      regs := s.regs.filter fun e => blkOf e.1 != 0x15
      live := s.live.filter fun e => blkOf e.1 != 0x15
      lpw := ⟨[], [], [], [], false, true⟩
      lpwRawHeld := false } : State) = u at hclear
  have hparts : u.upd = s.upd ∧ u.pending = s.pending ∧ u.fltQ = s.fltQ := by subst hu; exact ⟨rfl, rfl, rfl⟩
  have hput : u.only porLpwRegs [] (u.put LPW_STAT_STACKED (b2n stacked)) := (u.only_refl _ _).put _ (by simp [LPW_STAT_STACKED])
  generalize u.put LPW_STAT_STACKED (b2n stacked) = v at hput
  have hgo : u.only porLpwRegs [] (if stacked then v.each [0, 1] fun s p => s.lpGo p 0 else v) := by
    split
    · refine hput.trans (State.only_each (fun w p hp => ?_) v)
      simp only [List.mem_cons, List.not_mem_nil, or_false] at hp
      obtain rfl | rfl := hp <;> exact (w.only_refl _ _).lpGo _ (by simp) (by simp)
    · exact hput
  have hblk : ∀ o ∈ porLpwRegs, blkOf o = 0x15 := by decide
  exact ⟨fun o ho => (hgo.1 o fun h => ho (hblk o h)).trans (hclear o ho), (hgo.2 .upd (by simp)).trans hparts.1,
    (hgo.2 .pending (by simp)).trans hparts.2.1, (hgo.2 .fltQ (by simp)).trans hparts.2.2⟩

/-- The state that a POWER-ON reset leaves but for its entry of the log. -/
def State.porClear (s : State) (stacked : Bool) : State :=
  let s1 := ((s.updCut).dieReset keepPor).lpwPor stacked
  { s1 with
    mem := [], store := { s1.store with marks := [] }
    biv := ⟨[], [], []⟩
    d2dLost := false
    sys := { SysSt.init with
      refclk := s.sys.refclk, rc100 := true, dbg := s.sys.dbg, die := some 2, strapDue := true
      lastRst := some (0, 1, 0, false) } }

theorem State.porReset_eq (stacked : Bool) :
    s.porReset stacked = ((s.porClear stacked).put RSTC_LOG_HEAD_NEXT 0).logReset 1 0xFE 0 (s.sameCycle.isSome || s.unitNow) 0 := rfl

/-- What a POWER-ON reset clears (R84). -/
structure State.powerCleared (s u : State) : Prop where
  cleared : ∀ o, keepPor o = false → blkOf o ≠ 0x15 → u.rd o = regReset o
  mem : u.mem = []
  marks : u.store.marks = []
  biv : u.biv.mem = []
  pending : u.pending = s.pending
  flash : s.upd.run = none → u.upd.flash = s.upd.flash
  fltQ : u.fltQ = []
  die : u.sys.die = some 2
  straps : u.sys.strapDue = true
  time : u.sys.t = 0

theorem State.powerCleared_porClear (stacked : Bool) : s.powerCleared (s.porClear stacked) := by
  have hcut := State.only_updCut (s := s)
  have hflash (h : s.upd.run = none) : s.updCut.upd = s.upd := by rw [State.updCut, h]
  rw [State.porClear]
  generalize s.updCut = u at hcut hflash ⊢
  obtain ⟨hrd, hupd, hpend, hflt⟩ := State.lpwPor_spec (s := u.dieReset keepPor) stacked
  have hclear (o : Nat) (ho : keepPor o = false) : (u.dieReset keepPor).rd o = regReset o := by
    rw [State.rd_dieReset, ho, if_neg (by decide)]
  have hdie : (u.dieReset keepPor).upd.flash = u.upd.flash ∧ (u.dieReset keepPor).pending = u.pending ∧ (u.dieReset keepPor).fltQ = [] :=
    ⟨rfl, rfl, rfl⟩
  generalize (u.dieReset keepPor).lpwPor stacked = v at hrd hupd hpend hflt ⊢
  generalize u.dieReset keepPor = w at hrd hupd hpend hflt hclear hdie
  exact ⟨fun o ho hb => (hrd o hb).trans (hclear o ho), rfl, rfl, rfl, hpend.trans (hdie.2.1.trans (hcut.2 .pending (by simp))),
    fun h => (congrArg (·.flash) hupd).trans (hdie.1.trans (congrArg (·.flash) (hflash h))), hflt.trans hdie.2.2, rfl, rfl, rfl⟩

end

/-- Settles O15: the WARM reset by RESET_N, outside DORMANT and in it, the POWER-ON reset, and the other causes of a WARM reset. -/
theorem warmAndPowerOnReset : Obligations.WarmAndPowerOnReset := by
  unfold Obligations.WarmAndPowerOnReset
  refine ⟨?_, ?_, ?_, ?_, ?_, ?_⟩
  · intro s hm ha hc
    obtain ⟨u, hu, hcause, hinit, hnext, hw0, hdie, hpin, honly⟩ := State.warmReset_spec (cause := 2) ha hc hm (by decide)
    have hexec : exec .resetN s = .next (s.warmReset 2) := rfl
    generalize s.warmReset 2 = t at hexec hcause hinit hnext hw0 hdie hpin honly
    obtain ⟨hcode, hunit, hscope, hmulti⟩ := wordField_logWord (code := 2) (unit := 0xFE) (scope := 1) s.unitNow 0 (by decide) (by decide) (by decide)
    have hregs {o : Nat} := warmRegs_cases (o := o) (d := s.d2dLost) (s.get_lt RSTC_LOG_HEAD_NEXT)
    refine ⟨t, hexec, hcause, (honly.2 .mem (by simp)).trans hu.mem, (congrArg (·.marks) (honly.2 .store (by simp))).trans hu.marks,
      (congrArg (·.mem) (honly.2 .biv (by simp))).trans hu.biv, (honly.2 .lpw (by simp)).trans hu.lpw,
      fun h => (congrArg (·.flash) (honly.2 .upd (by simp))).trans (hu.flash h), hinit, fun o ho => ?_, fun o hk hne h11 h12 => ?_,
      hdie, (hpin rfl).1, ?_, ?_, ?_, ?_, hnext, (hpin rfl).2, (honly.2 .fltQ (by simp)).trans hu.fltQ, (honly.2 .pending (by simp)).trans hu.pending⟩
    · have hk : keepWarm o = true := by
        rw [keepWarm, ho]
        rfl
      refine (honly.1 o fun h => ?_).trans (hu.kept o hk (by rintro rfl; exact absurd ho (by decide)) (by rintro rfl; exact absurd ho (by decide)))
      obtain h | h | h | h := hregs h
      · simp only [List.mem_cons, List.not_mem_nil, or_false] at h
        obtain rfl | rfl | rfl := h <;> exact absurd ho (by decide)
      · exact h.2 ho
      · exact absurd (h.symm.trans ho) (by decide)
      · exact absurd (h.1.symm.trans ho) (by decide)
    · refine (honly.1 o fun h => ?_).trans (hu.cleared o hk)
      obtain h | h | h | h := hregs h
      · exact hne (by simp only [List.mem_cons, List.not_mem_nil, or_false] at h ⊢; omega)
      · exact absurd (hk.symm.trans h.1) (by decide)
      · exact h11 h
      · exact h12.elim (fun h' => h' h.1) fun h' => absurd (h'.symm.trans h.2) (by decide)
    · exact (congrArg (wordField · 0 8) hw0).trans hcode
    · exact (congrArg (wordField · 8 8) hw0).trans hunit
    · exact (congrArg (wordField · 16 2) hw0).trans hscope
    · exact (congrArg (wordField · 18 1) hw0).trans hmulti
  · intro s hm ha hc
    obtain ⟨hmem, hmarks, hinit, hbiv⟩ := State.warmReset_dormant (cause := 2) ha hc hm (by decide)
    exact ⟨_, rfl, hmem, hmarks, hinit, hbiv⟩
  · intro stacked s
    have hu := State.powerCleared_porClear (s := s) stacked
    have hexec : exec (.powerOnReset stacked) s = .next (s.porReset stacked) := rfl
    rw [State.porReset_eq] at hexec
    generalize s.porClear stacked = u at hu hexec
    obtain ⟨hnext, hw0, hw1, hdie, hstrap⟩ := (u.put RSTC_LOG_HEAD_NEXT 0).logReset_spec 1 0xFE 0 (s.sameCycle.isSome || s.unitNow) 0
    have honly := (u.put RSTC_LOG_HEAD_NEXT 0).only_logReset 1 0xFE 0 (s.sameCycle.isSome || s.unitNow) 0
    rw [show (u.put RSTC_LOG_HEAD_NEXT 0).get RSTC_LOG_HEAD_NEXT = 0 from State.get_put_val _ _ _ rfl] at hnext hw0 hw1 honly
    have hall : u.only [RSTC_LOG_HEAD, RSTC_LOG_W0 0, RSTC_LOG_W1 0] [.sys] _ := ((u.only_refl _ _).put _ (by simp [RSTC_LOG_HEAD_NEXT])).trans honly
    have htime : (u.put RSTC_LOG_HEAD_NEXT 0).aonTime = 0 := by rw [State.aonTime, State.put_sys, hu.time]
    obtain ⟨hcode, hunit, hscope, -⟩ := wordField_logWord (code := 1) (unit := 0xFE) (scope := 0) (s.sameCycle.isSome || s.unitNow) 0
      (by decide) (by decide) (by decide)
    generalize (u.put RSTC_LOG_HEAD_NEXT 0).logReset 1 0xFE 0 (s.sameCycle.isSome || s.unitNow) 0 = t at hexec hnext hw0 hw1 hdie hstrap hall
    exact ⟨t, hexec, (hall.2 .mem (by simp)).trans hu.mem, (congrArg (·.mem) (hall.2 .biv (by simp))).trans hu.biv,
      (congrArg (·.marks) (hall.2 .store (by simp))).trans hu.marks, fun h => (congrArg (·.flash) (hall.2 .upd (by simp))).trans (hu.flash h),
      hdie.trans ((congrArg (·.die) (State.put_sys _ _ _)).trans hu.die), hstrap.trans ((congrArg (·.strapDue) (State.put_sys _ _ _)).trans hu.straps),
      fun o hk hb ho => (hall.1 o ho).trans (hu.cleared o hk hb), hnext, (congrArg (wordField · 0 8) hw0).trans hcode,
      (congrArg (wordField · 8 8) hw0).trans hunit, (congrArg (wordField · 16 2) hw0).trans hscope, hw1.trans (by rw [htime]),
      (hall.2 .fltQ (by simp)).trans hu.fltQ, (hall.2 .pending (by simp)).trans hu.pending⟩
  · intro t0 s htrial hm hrun ha hc
    obtain ⟨u, hu, hcause, -, -, -, -, -, honly⟩ := State.warmReset_spec (cause := 0x0C) ha hc hm (by decide)
    have hany : (s.upd.run.any fun r => r.op == 8) = false := by
      cases h : s.upd.run with
      | none => rfl
      | some r => simpa using hrun r h
    have hexec : exec .trialExpiry s = .next (s.warmReset 0x0C) := congrArg Host.Outcome.next (if_pos (by rw [htrial, hany]; rfl))
    exact ⟨_, hexec, hcause, (honly.2 .mem (by simp)).trans hu.mem, (congrArg (·.trial) (honly.2 .upd (by simp))).trans hu.trial⟩
  · intro s hd hr ha hc
    have hm : s.rcUse.mode ≠ 0 := fun h => by
      have hm : s.mode = 0 := h
      rw [State.dark, hm] at hd
      exact absurd hd (by simp)
    obtain ⟨u, hu, hcause, -, -, -, -, -, honly⟩ := State.warmReset_spec (s := s.rcUse) (cause := 0x06) ha hc hm (by decide)
    have hexec : exec (.softwareReset 0xFE#8 0xC0DE#16) s = .next (s.rcUse.warmReset 0x06) :=
      congrArg Host.Outcome.next ((s.cmd_run RSTC_SWRST _ hd hr).trans (if_pos rfl))
    exact ⟨_, hexec, hcause, (honly.2 .mem (by simp)).trans hu.mem⟩
  · intro n s ha hc hw hwarn hscope
    have hm : s.mode ≠ 0 := by
      simp only [State.wdCounts, Bool.and_eq_true, bne_iff_ne] at hw
      exact hw.1.2
    obtain ⟨u, hu, hcause, -, -, -, -, -, honly⟩ := State.warmReset_spec (cause := 3 + n.val) ha hc hm (by omega)
    have hexp : s.wdExpire n.val = s.warmReset (3 + n.val) := by rw [State.wdExpire, if_neg (by simp [hwarn]), if_neg (by simp [hscope])]
    have hexec : exec (.wdogExpiry n) s = .next (s.warmReset (3 + n.val)) := congrArg Host.Outcome.next ((if_pos hw).trans hexp)
    have hctl : ∀ n : Fin 2, keepWarm (RSTC_WDOG_CTL n.val) = false ∧ RSTC_WDOG_CTL n.val ∉ [RSTC_CAUSE, MSA_STAT, MPC_MODE] ∧
        blkOf (RSTC_WDOG_CTL n.val) = 0x02 ∧ wordField (regReset (RSTC_WDOG_CTL n.val)) 0 1 = 0 := by decide
    obtain ⟨hk, hne, hb, hreset⟩ := hctl n
    have hrd := (honly.1 (RSTC_WDOG_CTL n.val) fun h => by
      obtain h | h | h | h := warmRegs_cases (s.get_lt RSTC_LOG_HEAD_NEXT) h
      · exact hne h
      · exact absurd (hk.symm.trans h.1) (by decide)
      · exact absurd (hb.symm.trans h) (by decide)
      · exact absurd (hb.symm.trans h.1) (by decide)).trans (hu.cleared _ hk)
    exact ⟨_, hexec, hcause, (honly.2 .mem (by simp)).trans hu.mem, (congrArg (wordField · 0 1) hrd).trans hreset⟩

end Sys2Proof.Machine

/-! What this hub does with a fabric request that reaches it, and its answer (R204, R208, R410, R412). -/
namespace Sys2Proof.Machine

set_option Elab.async false

/-! ### The fields of a frame that a producer's words become (R168, R169) -/

/-- A field of a 64-bit word that is spelled digit by digit. -/
theorem hwGet_digit {x lo w : Nat} (a d r : Nat) (hx : x = a + 2 ^ lo * (d + 2 ^ w * r)) (ha : a < 2 ^ lo) (hd : d < 2 ^ w)
    (hlt : x < 2 ^ 64) : hwGet (BitVec.ofNat 64 x) lo w = d := by
  rw [hwGet, BitVec.toNat_ofNat, Nat.mod_eq_of_lt hlt, hx, Nat.add_mul_div_left _ _ (Nat.two_pow_pos lo), Nat.div_eq_of_lt ha, Nat.zero_add,
    Nat.add_mul_mod_self_left, Nat.mod_eq_of_lt hd]

/-- The header words of a frame without group, slot and queue. -/
theorem build_words (cls vc kind dst dstChip tag : Nat) (payload : List DWord) (src chip seq stamp : Nat) (hc : cls < 8) (hv : vc < 2)
    (hk : kind < 16) (hd : dst < 256) (he : dstChip < 4) : ∃ R T, R < 2 ^ 40 ∧ T < 2 ^ 16 ∧
      ((FrameSpec.plain cls vc kind dst dstChip tag payload).build src chip seq stamp).hw0 =
        BitVec.ofNat 64 (2 + 2 ^ 4 * cls + 2 ^ 7 * vc + 2 ^ 8 * dst + 2 ^ 16 * dstChip + 2 ^ 24 * R) ∧
      ((FrameSpec.plain cls vc kind dst dstChip tag payload).build src chip seq stamp).hw1 = BitVec.ofNat 64 (2 ^ 28 * kind + 2 ^ 48 * T) := by
  refine ⟨src % 256 + 2 ^ 8 * (chip % 4) + 2 ^ 12 * (payload.length % 512) + 2 ^ 24 * (seq % 65536), tag % 65536, by omega,
    Nat.mod_lt _ (by decide), ?_, ?_⟩
  · refine congrArg (BitVec.ofNat 64) ?_
    simp only [FrameSpec.plain]
    omega
  · refine congrArg (BitVec.ofNat 64) ?_
    rw [if_neg (by simp [FrameSpec.plain]), if_neg (by simp [FrameSpec.plain])]
    simp only [FrameSpec.plain]
    omega

/-- The fields that the forwarding decision looks at. -/
theorem build_fields (cls vc kind dst dstChip tag : Nat) (payload : List DWord) (src chip seq stamp : Nat) (hc : cls < 8) (hv : vc < 2)
    (hk : kind < 16) (hd : dst < 256) (he : dstChip < 4) :
    let f := (FrameSpec.plain cls vc kind dst dstChip tag payload).build src chip seq stamp
    frClass f = cls ∧ frVc f = vc ∧ frKind f = kind ∧ frDst f = dst ∧ frDstChip f = dstChip ∧ frDup f = 0 := by
  obtain ⟨R, T, hR, hT, h0, h1⟩ := build_words cls vc kind dst dstChip tag payload src chip seq stamp hc hv hk hd he
  simp only [frClass, frVc, frKind, frDst, frDstChip, frDup, h0, h1]
  exact ⟨hwGet_digit 2 cls (vc + 2 * dst + 2 ^ 9 * dstChip + 2 ^ 17 * R) (by omega) (by omega) hc (by omega),
    hwGet_digit (2 + 2 ^ 4 * cls) vc (dst + 2 ^ 8 * dstChip + 2 ^ 16 * R) (by omega) (by omega) hv (by omega),
    hwGet_digit 0 kind (2 ^ 16 * T) (by omega) (by omega) hk (by omega),
    hwGet_digit (2 + 2 ^ 4 * cls + 2 ^ 7 * vc) dst (dstChip + 2 ^ 8 * R) (by omega) (by omega) hd (by omega),
    hwGet_digit (2 + 2 ^ 4 * cls + 2 ^ 7 * vc + 2 ^ 8 * dst) dstChip (2 ^ 6 * R) (by omega) (by omega) he (by omega),
    hwGet_digit (2 + 2 ^ 4 * cls + 2 ^ 7 * vc + 2 ^ 8 * dst + 2 ^ 16 * dstChip) 0 (2 ^ 5 * R) (by omega) (by omega) (by omega) (by omega)⟩

section
variable {s : State}

/-! ### The cells of a frame (R34, R207) -/

/-- The cell that the `k`-th part of a frame takes, where the cells of `used` and of `l` are taken. -/
@[irreducible] def pickCell (used : List Nat) (stripe fb k : Nat) (l : List Nat) : Option Nat :=
  ((List.range 4096).map (4096 * ((stripe + k) % fb) + ·)).find? fun c => !used.contains c && !l.contains c

/-- The cells that a frame takes, from those in use, the bank whose turn it is and the banks of the buffer. -/
def pickCells (used : List Nat) (stripe fb n : Nat) : List Nat :=
  (List.range n).foldl (fun l k => match pickCell used stripe fb k l with | some c => l ++ [c] | none => l) []

theorem bankOf_pickCell {used l : List Nat} {stripe fb k c : Nat} (h : pickCell used stripe fb k l = some c) :
    bankOf (128 * c) = (stripe + k) % fb := by
  unfold pickCell at h
  obtain ⟨i, hi, rfl⟩ := List.mem_map.1 (List.mem_of_find?_eq_some h)
  rw [List.mem_range] at hi
  rw [bankOf]
  omega

theorem satField_beats_any {b : Nat} (hb : b < 2 ^ 8) : satField (MSA_BEATS b) = some MSA_ECC_STAT_SAT := by
  rw [satField, show blkOf (MSA_BEATS b) = 0x07 by simp only [blkOf, MSA_BEATS]; omega]
  rfl

theorem State.cellBeats_spec {c : Nat} (w : Nat) (hb : bankOf (128 * c) < 2 ^ 8) :
    s.only [MSA_ECC_STAT] [.live, .store] (s.cellBeats c w) ∧
      ∀ b, b ≠ bankOf (128 * c) → (s.cellBeats c w).cnt (MSA_BEATS b) = s.cnt (MSA_BEATS b) := by
  refine ⟨((s.only_refl _ _).grant _ _ (by simp)).storeCount _ (satField_beats_any hb) (by simp) (by simp), fun b hne => ?_⟩
  rw [State.cellBeats, State.cnt_count, if_neg (by simp only [MSA_BEATS]; omega)]
  rfl

/-- What the writing of a frame's cells has changed: the bookkeeping of the store, and the beats of the buffer's banks. -/
structure State.cellsBy (s : State) (fb : Nat) (t : State) : Prop where
  only : s.only [MSA_ECC_STAT] [.live, .store] t
  beats : ∀ b, fb ≤ b → t.cnt (MSA_BEATS b) = s.cnt (MSA_BEATS b)

/-- One part of a frame goes into its cell. -/
def State.cellStep (used : List Nat) (stripe fb : Nat) (f : Frame) (a : State × List Nat) (k : Nat) : State × List Nat :=
  match pickCell used stripe fb k a.2 with
  | some c => ((a.1.cellBeats c (cellWords f k)).eccWritten (16 * c) (cellWords f k), a.2 ++ [c])
  | none => a

theorem State.writeCells_eq (f : Frame) : s.writeCells f =
    (let r := (List.range (frCells f)).foldl (State.cellStep (s.allFrames.flatMap (·.cells)) s.fwd.stripe (max 1 (s.get MSA_PART_FB)) f) (s, [])
    ({ r.1 with fwd := { r.1.fwd with stripe := (s.fwd.stripe + frCells f) % max 1 (s.get MSA_PART_FB) } }, r.2)) := by
  unfold State.writeCells State.cellStep pickCell
  generalize List.range 4096 = cells
  rfl

theorem State.cellStep_spec (used : List Nat) (stripe : Nat) {fb : Nat} (f : Frame) (hfb : 0 < fb) (hlt : fb ≤ 2 ^ 8) (l : List Nat) (a : State × List Nat) :
    (l.foldl (State.cellStep used stripe fb f) a).2 =
      l.foldl (fun l k => match pickCell used stripe fb k l with | some c => l ++ [c] | none => l) a.2 ∧
      a.1.cellsBy fb (l.foldl (State.cellStep used stripe fb f) a).1 := by
  induction l generalizing a with
  | nil => exact ⟨rfl, a.1.only_refl _ _, fun _ _ => rfl⟩
  | cons k l ih =>
    obtain ⟨hlist, hstate⟩ := ih (State.cellStep used stripe fb f a k)
    rw [List.foldl_cons, List.foldl_cons, hlist]
    have hstep : (State.cellStep used stripe fb f a k).2 = (match pickCell used stripe fb k a.2 with | some c => a.2 ++ [c] | none => a.2) ∧
        a.1.cellsBy fb (State.cellStep used stripe fb f a k).1 := by
      cases hpick : pickCell used stripe fb k a.2 with
      | some c =>
        have hb := bankOf_pickCell hpick
        have hmod := Nat.mod_lt (stripe + k) hfb
        obtain ⟨honly, hcnt⟩ := State.cellBeats_spec (s := a.1) (c := c) (cellWords f k) (by omega)
        have hs : State.cellStep used stripe fb f a k = ((a.1.cellBeats c (cellWords f k)).eccWritten (16 * c) (cellWords f k), a.2 ++ [c]) := by
          rw [State.cellStep, hpick]
        generalize a.1.cellBeats c (cellWords f k) = u at honly hcnt hs
        have hecc : u.only [] [.store] (u.eccWritten (16 * c) (cellWords f k)) := (u.only_refl _ _).eccWritten _ _ (by simp)
        generalize u.eccWritten (16 * c) (cellWords f k) = v at hecc hs
        rw [hs]
        exact ⟨rfl, honly.trans (hecc.mono (by simp) (by simp)), fun b hle => (State.cnt_congr (hecc.2 .live (by simp)) _).trans (hcnt b (by omega))⟩
      | none =>
        have hs : State.cellStep used stripe fb f a k = a := by rw [State.cellStep, hpick]
        rw [hs]
        exact ⟨rfl, a.1.only_refl _ _, fun _ _ => rfl⟩
    exact ⟨by rw [hstep.1], hstep.2.only.trans hstate.only, fun b hle => (hstate.beats b hle).trans (hstep.2.beats b hle)⟩

/-- A frame written into cells. -/
theorem State.writeCells_spec (f : Frame) : (s.writeCells f).2 =
      pickCells (s.allFrames.flatMap (·.cells)) s.fwd.stripe (max 1 (s.get MSA_PART_FB)) (frCells f) ∧
    (s.writeCells f).1.fwd = { s.fwd with stripe := (s.fwd.stripe + frCells f) % max 1 (s.get MSA_PART_FB) } ∧
    s.only [MSA_ECC_STAT] [.live, .store, .fwd] (s.writeCells f).1 ∧
    ∀ b, max 1 (s.get MSA_PART_FB) ≤ b → (s.writeCells f).1.cnt (MSA_BEATS b) = s.cnt (MSA_BEATS b) := by
  have hlt : s.get MSA_PART_FB < 2 ^ MSA_PART_FB.w := s.get_lt _
  obtain ⟨hlist, hstate⟩ := State.cellStep_spec (s.allFrames.flatMap (·.cells)) s.fwd.stripe (fb := max 1 (s.get MSA_PART_FB)) f (by omega)
    (by have : (2 : Nat) ^ MSA_PART_FB.w ≤ 2 ^ 8 := by decide
        omega) (List.range (frCells f)) (s, [])
  rw [State.writeCells_eq]
  generalize (List.range (frCells f)).foldl (State.cellStep _ _ _ f) (s, []) = r at hlist hstate ⊢
  refine ⟨hlist, ?_, (hstate.only.mono (by simp) (by simp)).with_fwd _ (by simp), hstate.beats⟩
  exact congrArg (fun w : FwdSt => { w with stripe := (s.fwd.stripe + frCells f) % max 1 (s.get MSA_PART_FB) }) (hstate.only.2 .fwd (by simp))

/-! ### The answer leaves by S0 (R204, R208) -/

/-- The answer of `n` data words to a request from a later chip of the stack can leave at once (R204, R208, R211). -/
structure State.replies (s : State) (f : Frame) (n : Nat) : Prop where
  single : frDst f ≠ 0xFF
  runs : s.open_ 0x0D = true
  clear : (s.fwd.locWait.any fun w => w.spec.cls == 5 && w.spec.vc == 1) = false
  src : frSrc f = s.node
  known : s.node ≠ 0xFF
  later : s.chip < frSrcChip f
  up : s.laneUp 2 = true
  room : s.occ 2 2 + (8 * n + 175) / 128 ≤ s.limit 2 2

theorem frSrc_lt (f : Frame) : frSrc f < 256 := Nat.mod_lt _ (by decide)

theorem frSrcChip_lt (f : Frame) : frSrcChip f < 4 := Nat.mod_lt _ (by decide)

theorem rspFrame_fields (f : Frame) (st : Nat) (data : List DWord) : frClass (s.rspFrame f st data) = 5 ∧ frVc (s.rspFrame f st data) = 1 ∧
    frKind (s.rspFrame f st data) = 1 ∧ frDst (s.rspFrame f st data) = frSrc f ∧ frDstChip (s.rspFrame f st data) = frSrcChip f ∧
    frDup (s.rspFrame f st data) = 0 :=
  build_fields 5 1 1 (frSrc f) (frSrcChip f) (frTag f) _ _ _ _ _ (by decide) (by decide) (by decide) (frSrc_lt f) (frSrcChip_lt f)

theorem frCells_rspFrame (f : Frame) (st : Nat) (data : List DWord) : frCells (s.rspFrame f st data) = (8 * data.length + 175) / 128 := by
  have hlen : (s.rspFrame f st data).payload.length = data.length + 2 := rfl
  rw [frCells, frBytes, hlen]
  omega

/-- The one copy of the answer. -/
def State.rspCopy (s : State) (f : Frame) (st : Nat) (data : List DWord) : Copy := ⟨2, s.rspFrame f st data, .queue, false⟩

/-- What serving a request changes before its answer leaves. -/
abbrev State.served (s u : State) : Prop := s.only [MSA_ECC_STAT] [.live, .mem, .store, .fltQ] u

namespace State.replies

variable {f : Frame} {st n : Nat} {data : List DWord}

theorem copies (h : s.replies f n) : s.specCopies (fabRsp f st data) (s.rspFrame f st data) = [s.rspCopy f st data] := by
  obtain ⟨-, -, -, hdst, hchip, -⟩ := rspFrame_fields (s := s) f st data
  have hlater := h.later
  show s.egress 4 (s.rspFrame f st data) = _
  rw [State.egress]
  dsimp only
  rw [if_neg (by rw [hdst, h.src]; exact h.known), if_pos (hdst.trans h.src), if_neg (by omega), if_pos (by omega), State.stackCopy, if_pos h.up,
    State.rspCopy]

theorem fits (h : s.replies f n) (hd : data.length = n) (taken : Nat) : s.fitsWith taken 2 2 (frCells (s.rspFrame f st data)) = some false := by
  rw [frCells_rspFrame, hd, State.fitsWith, if_neg (by decide), if_pos h.room]

/-- The state with the answer counted at LOC. -/
def counted (s : State) (g : Frame) : State := (s.bump (FWD_CNT 4 0)).count (FWD_CNT 4 1) (frBytes g)

theorem tryOrig (h : s.replies f n) (hd : data.length = n) : s.tryOrig (fabRsp f st data) 8 =
    some (((counted s (s.rspFrame f st data)).place 4 true (s.now * 4096) [s.rspCopy f st data]).nextSeq 5, []) := by
  obtain ⟨hcls, hvc, -, -, -, hdup⟩ := rspFrame_fields (s := s) f st data
  have hid : s.identOf (fabRsp f st data).cls 8 = .own := if_pos (.inl (by decide))
  have hbuild : s.buildFrame (fabRsp f st data) .own = s.rspFrame f st data := rfl
  have hlim : s.dupLimited (fabRsp f st data) [s.rspCopy f st data] = false := by
    rw [State.dupLimited]
    simp [State.rspCopy, hdup, fabRsp, FrameSpec.plain]
  have hover : s.overLimit (fabRsp f st data) [s.rspCopy f st data] = false := by rw [State.overLimit, hlim, Bool.false_and]
  have hroom : s.roomFor [s.rspCopy f st data] = true := by
    simp only [State.roomFor, List.foldl_cons, List.foldl_nil, State.rspCopy, Copy.wants, if_true, hcls, hvc,
      show queueOf 5 1 = 2 from rfl, h.fits (st := st) hd]
    rfl
  rw [State.tryOrig, hid]
  dsimp only
  rw [hbuild, h.copies, if_neg (by simp [hover]), if_neg (by simp [hroom]), if_neg (by simp [State.rspCopy]), hlim]
  have howed : owed (s.rspFrame f st data) [s.rspCopy f st data] = [] := by
    rw [owed, if_neg]
    simp [isFabReq, hvc]
  rw [howed]
  rfl

theorem not_blocked (h : s.replies f n) : s.locBlocked (fabRsp f st data) 8 = false := by
  have hclear := h.clear
  rw [List.any_eq_false] at hclear
  rw [State.locBlocked, List.any_eq_false]
  intro w hw
  have := hclear w hw
  simp only [show (fabRsp f st data).cls = 5 from rfl, show (fabRsp f st data).vc = 1 from rfl]
  simp_all

theorem originate (h : s.replies f n) (hd : data.length = n) : s.originate (fabRsp f st data) 8 =
    ((counted s (s.rspFrame f st data)).place 4 true (s.now * 4096) [s.rspCopy f st data]).nextSeq 5 := by
  obtain ⟨hr, hi⟩ := State.open_parts h.runs
  rw [State.originate, State.orig1, if_neg (by simp [hr]), if_neg (by simp [hi, h.not_blocked]), h.tryOrig hd]
  rfl

/-- The state with the answer in its queue. -/
def sentOff (s : State) (f : Frame) (st : Nat) (data : List DWord) : State :=
  ((counted s (s.rspFrame f st data)).place 4 true (s.now * 4096) [s.rspCopy f st data]).nextSeq 5

/-- What has been counted at LOC moves no buffer. -/
theorem only_counted (g : Frame) : s.only [FWD_EVT] [.live] (counted s g) ∧ ∀ b, b < 2 ^ 8 → (counted s g).cnt (MSA_BEATS b) = s.cnt (MSA_BEATS b) := by
  have hsat (k : Nat) (hk : k < 2) : satField (FWD_CNT 4 k) = some FWD_EVT_SAT := by
    obtain rfl | rfl : k = 0 ∨ k = 1 := by omega
    all_goals rfl
  have hcount {t : State} (h : s.only [FWD_EVT] [.live] t) (k n : Nat) (hk : k < 2) : s.only [FWD_EVT] [.live] (t.count (FWD_CNT 4 k) n) := by
    refine h.trans (t.only_count _ n (by simp) fun f hf => ?_)
    rw [hsat k hk, Option.some.injEq] at hf
    subst hf
    exact ⟨by decide, fun h => absurd h (by decide)⟩
  refine ⟨hcount (hcount (s.only_refl _ _) 0 1 (by decide)) 1 _ (by decide), fun b hb => ?_⟩
  · rw [counted, State.cnt_count, if_neg (by simp only [MSA_BEATS, FWD_CNT]; omega), State.bump, State.cnt_count,
      if_neg (by simp only [MSA_BEATS, FWD_CNT]; omega)]

/-- One copy for the stack's later port goes to the end of its queue. -/
theorem placeCopy_queue {u : State} {c : Copy} {own : Bool} {t : Int} {cells : List Nat} (hport : c.port = 2) (hw : c.fate = .queue)
    (hwrap : c.wrapped = false) (hq : queueOf (frClass c.frame) (frVc c.frame) = 2) (hfit : u.fits 2 2 (frCells c.frame) = some false) :
    u.placeCopy 4 own false t cells c =
      u.setQueue 2 2 (u.queue 2 2 ++ [⟨c.frame, u.get FWD_STAT_GEN, 4, false, own, t, cells⟩]) := by
  rw [State.placeCopy]
  simp only [Copy.wants, hw, if_true, hport, hq, hfit, State.putCopy, hwrap, State.when, Bool.false_eq_true, if_false]
  rw [State.enqueue]
  simp

theorem place_one {u : State} {own : Bool} {t : Int} {c : Copy} (hw : c.fate = .queue) :
    u.place 4 own t [c] = (u.writeCells c.frame).1.placeCopy 4 own false t (u.writeCells c.frame).2 c := by
  simp [State.place, State.each, Copy.wants, hw]

theorem queue_nextSeq {u : State} (p q cls : Nat) (l : List QFrame) : ((u.setQueue p q l).nextSeq cls).queue p q = l :=
  Tab.get_set_same ..

theorem only_nextSeq {u : State} (p q cls : Nat) (l : List QFrame) : u.only [] [.fwd] ((u.setQueue p q l).nextSeq cls) :=
  ((u.only_refl _ _).with_fwd _ (by simp)).with_fwd _ (by simp)

/-- The answer stands last in the queue of its port. -/
theorem sentOff_spec (h : s.replies f n) (hd : data.length = n) : s.answered (sentOff s f st data) f st data ∧
    s.only [FWD_EVT, MSA_ECC_STAT] [.live, .store, .fwd] (sentOff s f st data) ∧
    ∀ b, max 1 (s.get MSA_PART_FB) ≤ b → b < 2 ^ 8 → (sentOff s f st data).cnt (MSA_BEATS b) = s.cnt (MSA_BEATS b) := by
  obtain ⟨hcls, hvc, -, -, -, -⟩ := rspFrame_fields (s := s) f st data
  have hfit := h.fits (st := st) hd 0
  have hcells : (s.writeCells (s.rspFrame f st data)).2 = _ := (s.writeCells_spec (s.rspFrame f st data)).1
  unfold State.answered
  rw [hcells]
  have hrsp : s.rspCopy f st data = ⟨2, s.rspFrame f st data, .queue, false⟩ := rfl
  rw [sentOff, hrsp]
  generalize s.rspFrame f st data = g at hcls hvc hfit ⊢
  obtain ⟨hcnt, hbeats⟩ := only_counted (s := s) g
  generalize counted s g = c at hcnt hbeats ⊢
  obtain ⟨hlist, hfwd, hwrite, hkept⟩ := c.writeCells_spec g
  have hcfwd : c.fwd = s.fwd := hcnt.2 .fwd (by simp)
  have hall : c.allFrames = s.allFrames := by rw [State.allFrames, hcfwd, State.allFrames]
  rw [hall, hcfwd, hcnt.get_eq (by decide)] at hlist
  rw [hcnt.get_eq (by decide)] at hkept
  have hplace : c.place 4 true (s.now * 4096) [⟨2, g, .queue, false⟩] =
      (c.writeCells g).1.placeCopy 4 true false (s.now * 4096) (c.writeCells g).2 ⟨2, g, .queue, false⟩ := place_one rfl
  rw [hplace]
  generalize c.writeCells g = w at hlist hfwd hwrite hkept ⊢
  have hwq : w.1.fwd.queues = s.fwd.queues := by rw [hfwd, hcfwd]
  have hwh : w.1.fwd.held = s.fwd.held := by rw [hfwd, hcfwd]
  have hqueue (p q : Nat) : w.1.queue p q = s.queue p q := by rw [State.queue, hwq, State.queue]
  have hocc (p q : Nat) : w.1.occ p q = s.occ p q := by rw [State.occ, State.counted, hqueue, hwh, State.occ, State.counted]
  have hlim : w.1.limit 2 2 = s.limit 2 2 := (hwrite.get_eq (by decide)).trans (hcnt.get_eq (by decide))
  have hfit' : w.1.fits 2 2 (frCells g) = some false := by
    rw [State.fits, State.fitsWith, if_neg (by decide)] at *
    rw [hocc, hlim]
    exact hfit
  rw [placeCopy_queue (c := ⟨2, g, .queue, false⟩) rfl rfl rfl (by rw [hcls, hvc]; rfl) hfit']
  have hgen : w.1.get FWD_STAT_GEN = s.get FWD_STAT_GEN := (hwrite.get_eq (by decide)).trans (hcnt.get_eq (by decide))
  have honly : s.only [FWD_EVT, MSA_ECC_STAT] [.live, .store, .fwd] w.1 := (hcnt.mono (by simp) (by simp)).trans (hwrite.mono (by simp) (by simp))
  have hnext := only_nextSeq (u := w.1) 2 2 5 (w.1.queue 2 2 ++ [⟨g, w.1.get FWD_STAT_GEN, 4, false, true, s.now * 4096, w.2⟩])
  have hlast := queue_nextSeq (u := w.1) 2 2 5 (w.1.queue 2 2 ++ [⟨g, w.1.get FWD_STAT_GEN, 4, false, true, s.now * 4096, w.2⟩])
  generalize (w.1.setQueue 2 2 _).nextSeq 5 = v at hnext hlast ⊢
  refine ⟨?_, honly.trans (hnext.mono (by simp) (by simp)), fun b hle hb => ?_⟩
  · rw [hlast, hqueue, hgen, hlist]
  · exact (State.cnt_congr (hnext.2 .live (by simp)) _).trans ((hkept b hle).trans (hbeats b hb))

theorem of_answerable (h : s.answerable f n) : s.replies f n := by
  obtain ⟨-, -, hdst, -, hopen, -, hclear, hsrc, hnode, hchip, hup, hroom⟩ := h
  exact ⟨hdst, hopen, hclear, hsrc, hnode, hchip, hup, hroom⟩

theorem after {u : State} (h : s.replies f n) (hu : s.served u) : u.replies f n := by
  have hfwd : u.fwd = s.fwd := hu.2 .fwd (by simp)
  obtain ⟨hdst, hopen, hclear, hsrc, hnode, hchip, hup, hroom⟩ := h
  have hqueue : u.queue 2 2 = s.queue 2 2 := by rw [State.queue, hfwd, State.queue]
  have hid : u.idling 0x0D = s.idling 0x0D := by rw [State.idling, show u.sys = s.sys from hu.2 .sys (by simp), State.idling]
  refine ⟨hdst, ?_, by rw [hfwd]; exact hclear, ?_, ?_, ?_, ?_, ?_⟩
  · rw [State.open_, hu.inReset_eq (by decide) (by decide) (by decide), hid]
    exact hopen
  · exact hsrc.trans (hu.get_eq (by decide)).symm
  · rw [State.node, hu.get_eq (by decide)]
    exact hnode
  · rw [State.chip, hu.get_eq (by decide)]
    exact hchip
  · rw [State.laneUp, State.on_congr (hu.1 _ (by decide))]
    exact hup
  · rw [State.occ, State.counted, hqueue, hfwd, State.limit, hu.get_eq (by decide)]
    exact hroom

theorem rspFrame_after {u : State} (hu : s.served u) : u.rspFrame f st data = s.rspFrame f st data := by
  have hnow : u.now = s.now := State.rd64_congr (hu.1 _ (by decide)) (hu.1 _ (by decide))
  rw [State.rspFrame, State.node, hu.get_eq (by decide), State.chip, hu.get_eq (by decide), State.seqOf,
    show u.fwd = s.fwd from hu.2 .fwd (by simp), hnow]
  rfl

/-- The answer of a request served, seen from before. -/
theorem answer_spec {u : State} (h : s.replies f n) (hd : data.length = n) (hu : s.served u) :
    ∃ t, u.originate (fabRsp f st data) 8 = t ∧ s.answered t f st data ∧ t.mem = u.mem ∧
      u.only [FWD_EVT, MSA_ECC_STAT] [.live, .store, .fwd] t ∧
      ∀ b, max 1 (s.get MSA_PART_FB) ≤ b → b < 2 ^ 8 → t.cnt (MSA_BEATS b) = u.cnt (MSA_BEATS b) := by
  have hr := h.after hu
  obtain ⟨hans, honly, hkept⟩ := hr.sentOff_spec (st := st) hd
  have hwrites : (u.writeCells (s.rspFrame f st data)).2 = (s.writeCells (s.rspFrame f st data)).2 := by
    have hfwd : u.fwd = s.fwd := hu.2 .fwd (by simp)
    rw [(u.writeCells_spec _).1, (s.writeCells_spec _).1, hu.get_eq (by decide), State.allFrames, hfwd, State.allFrames]
  rw [State.answered, rspFrame_after hu, hu.get_eq (by decide), hwrites,
    show u.now = s.now from State.rd64_congr (hu.1 _ (by decide)) (hu.1 _ (by decide)), State.queue, State.queue,
    show u.fwd = s.fwd from hu.2 .fwd (by simp)] at hans
  rw [hu.get_eq (by decide)] at hkept
  have horig := hr.originate (st := st) hd
  exact ⟨sentOff u f st data, horig, hans, honly.2 .mem (by simp), honly, hkept⟩

end State.replies

/-! ### Serving a request (R410, R412) -/

/-- The requester that a frame names. -/
def whoOf (f : Frame) : Who := ⟨Fin.ofNat 8 (frTag f / 2 ^ 13), BitVec.ofNat 8 (frSrc f), Fin.ofNat 4 (frSrcChip f)⟩

/-- A request from elsewhere is the switch core's in the store (R37). -/
theorem State.storeReq_elsewhere {f : Frame} (h : frSrc f ≠ s.node ∨ frSrcChip f ≠ s.chip) : s.storeReq (whoOf f) = 0 := by
  have hn : (BitVec.ofNat 8 (frSrc f)).toNat = frSrc f := by rw [BitVec.toNat_ofNat, Nat.mod_eq_of_lt (frSrc_lt f)]
  have hc : (Fin.ofNat 4 (frSrcChip f)).val = frSrcChip f := Nat.mod_eq_of_lt (frSrcChip_lt f)
  rw [State.storeReq, if_pos]
  simpa only [whoOf, hn, hc, Bool.or_eq_true, bne_iff_ne] using h

/-- A request that LOC can serve is served. -/
theorem State.serveOp_serves {op : Nat} {f : Frame} (hd : s.dark = false) (hreq : isFabReq f = true) (hop : reqOp f = op)
    (hloc : s.forLoc f = true) (hcan : s.canServe f = true) : s.serveOp op f = s.serveFrame f := by
  rw [State.serveOp, if_pos]
  simp [hd, hreq, hop, hloc, hcan]

/-- A request that is served at once is answered from the state that it leaves. -/
theorem State.serveFrame_done {f : Frame} {u : State} {st d : Nat}
    (h : s.serve1 (whoOf f) (frDst f == 0xFF) (reqOp f) (reqSize f) (reqBeats f) (fabOff (reqAddr f)) (f.payload.drop 2) (.net f) = (u, some (st, d))) :
    s.serveFrame f = u.netDone f st d := by
  rw [State.serveFrame, ← whoOf, h]

theorem State.serve1_store {who : Who} {bc : Bool} {op size beats off o : Nat} {data : List DWord} {src : AccSrc} (hop : op ≠ 6) (hin : inStore off = true)
    (ho : off = storeBase + o) (hr : s.storeReq who = 0) :
    s.serve1 who bc op size beats off data src = s.storeNow 0 o (storeForm op size beats data) src := by
  rw [State.serve1, if_neg hop, if_pos hin, hr, ho, Nat.add_sub_cancel_left]

/-- A request that is served and answered. -/
theorem State.replies.serves {f : Frame} {n st d : Nat} {data : List DWord} {u : State} (h : s.replies f n)
    (hs : s.serve1 (whoOf f) (frDst f == 0xFF) (reqOp f) (reqSize f) (reqBeats f) (fabOff (reqAddr f)) (f.payload.drop 2) (.net f) = (u, some (st, d)))
    (hu : s.served u) (hop : ¬ (reqOp f = 2 ∧ st = 0)) (hdata : numWords (rspWords (reqOp f) (reqSize f) (reqBeats f) st) d = data)
    (hlen : data.length = n) :
    ∃ t, s.serveFrame f = t ∧ s.answered t f st data ∧ t.mem = u.mem ∧ u.only [FWD_EVT, MSA_ECC_STAT] [.live, .store, .fwd] t ∧
      ∀ b, max 1 (s.get MSA_PART_FB) ≤ b → b < 2 ^ 8 → t.cnt (MSA_BEATS b) = u.cnt (MSA_BEATS b) := by
  rw [State.serveFrame_done hs, State.netDone, if_neg (not_or.2 ⟨h.single, hop⟩), hdata]
  exact h.answer_spec hlen hu

theorem State.parts.mono {t : State} {ps qs : List Part} (h : s.parts ps t) (hq : ps ⊆ qs) : s.parts qs t := fun p hp => h p fun hi => hp (hq hi)

/-! ### The store's operations for the fabric -/

/-- A read-modify-write of a good word: its beats, and the word stored. -/
theorem State.amoDo_stores {o r : Nat} {op : AmoOp} {z : Fin 4} {a b : DWord} (hop : op = .swap ∨ op = .add ∨ op = .cas) (h : s.mark (o / 8) = none) :
    (s.grant (bankOf o) r).amoDo r o op z a b =
      ((s.beaten [] (bankOf o) r).stored o (2 ^ z.val) (amoResult op (8 * 2 ^ z.val) ((s.beaten [] (bankOf o) r).load o (2 ^ z.val))
        (a.toNat % 2 ^ (8 * 2 ^ z.val)) (b.toNat % 2 ^ (8 * 2 ^ z.val))) r).answer r 0 ((s.beaten [] (bankOf o) r).load o (2 ^ z.val)) := by
  have hgood := State.eccRead_granted (s := s) (us := []) (bankOf o) r h
  rw [show s.grant (bankOf o) r = s.granted [] (bankOf o) r from rfl, State.amoDo, hgood]
  obtain rfl | rfl | rfl := hop
  all_goals rfl

/-- A read-modify-write through the fabric: the answer is the old value, and the word holds the result. -/
theorem State.storeNow_amo {o : Nat} {op : AmoOp} {z : Fin 4} {a b : DWord} {src : AccSrc} (hop : op = .swap ∨ op = .add ∨ op = .cas)
    (hb : bankOf o < 16) (hl : accLegal (.amo op z a b) o = true) (hw : s.accWaits 0 o = false) (hlock : s.lockedOut (bankOf o) 0 = false)
    (hp : s.mayWrite 0 (bankOf o) = true) (hm : s.mark (o / 8) = none) :
    ∃ u, s.storeNow 0 o (some (.amo op z a b)) src = (u, some (0, s.load o (2 ^ z.val))) ∧ s.only [MSA_ECC_STAT] [.live, .mem, .store] u ∧
      u.load o (2 ^ z.val) = amoResult op (8 * 2 ^ z.val) (s.load o (2 ^ z.val)) (a.toNat % 2 ^ (8 * 2 ^ z.val)) (b.toNat % 2 ^ (8 * 2 ^ z.val)) %
        2 ^ (8 * 2 ^ z.val) ∧
      ∀ x, x < o ∨ o + 2 ^ z.val ≤ x → u.byte x = s.byte x := by
  have hperf := (State.perform_amo (src := src) hlock (.inr hp)).trans (State.amoDo_stores (a := a) (b := b) (z := z) hop hm)
  have hserved := State.storeNow_served hl hw hperf
  have hbeat := s.only_beaten (r := 0) [] hb
  have hmem : (s.beaten [] (bankOf o) 0).mem = s.mem := hbeat.2 .mem (by simp)
  rw [State.load_congr hmem] at hserved
  generalize s.beaten [] (bankOf o) 0 = v at hbeat hmem hserved
  have hstored := v.only_stored (o := o) (r := 0) (2 ^ z.val) (amoResult op (8 * 2 ^ z.val) (s.load o (2 ^ z.val)) (a.toNat % 2 ^ (8 * 2 ^ z.val))
    (b.toNat % 2 ^ (8 * 2 ^ z.val)))
  have hload := v.load_stored (o := o) (r := 0) (2 ^ z.val) (amoResult op (8 * 2 ^ z.val) (s.load o (2 ^ z.val)) (a.toNat % 2 ^ (8 * 2 ^ z.val))
    (b.toNat % 2 ^ (8 * 2 ^ z.val)))
  have hbyte (x : Nat) (hx : x < o ∨ o + 2 ^ z.val ≤ x) := v.byte_stored (o := o) (r := 0) (v := amoResult op (8 * 2 ^ z.val) (s.load o (2 ^ z.val))
    (a.toNat % 2 ^ (8 * 2 ^ z.val)) (b.toNat % 2 ^ (8 * 2 ^ z.val))) hx
  generalize v.stored o (2 ^ z.val) _ 0 = w at hserved hstored hload hbyte
  have hall : s.only [MSA_ECC_STAT] [.live, .mem, .store] w := (hbeat.mono (by simp) (by simp)).trans (hstored.mono (by simp) (by simp))
  have htaken : s.only [MSA_ECC_STAT] [.live, .mem, .store] (w.taken s.resp) := (hall.mono (by simp) (by simp)).taken_back
  exact ⟨_, hserved, htaken,
    (State.load_congr (w.mem_taken _) _ _).trans hload,
    fun x hx => (State.byte_congr (w.mem_taken _) x).trans ((hbyte x hx).trans (State.byte_congr hmem x))⟩

/-- A read of a good word through the fabric. -/
theorem State.storeNow_read {o : Nat} {src : AccSrc} (hb : bankOf o < 16) (hal : o % 8 = 0) (hw : s.accWaits 0 o = false)
    (hlock : s.lockedOut (bankOf o) 0 = false) (hm : s.mark (o / 8) = none) :
    ∃ u, s.storeNow 0 o (some (.read 3)) src = (u, some (0, s.load o 8)) ∧ s.only [MSA_ECC_STAT] [.live, .store] u ∧
      s.advanced u (MSA_BEATS (bankOf o)) 1 := by
  have hgood := State.eccRead_good (s.grant (bankOf o) 0) (o / 8) 1 0 fun i hi => by
    rw [show i = 0 by omega, Nat.add_zero]
    exact hm
  have hperf := State.perform_read (z := 3) (src := src) hlock
  simp only [hgood, if_true] at hperf
  have hserved := State.storeNow_served (f := .read 3) (by simp [accLegal, hal]) hw hperf
  have hcount := (s.only_granted [] (bankOf o) 0).mono (os' := [MSA_ECC_STAT]) (ps' := [.live, .store]) (by simp) (by simp) |>.trans
    (((s.granted [] (bankOf o) 0).only_beats 1 hb).mono (by simp) (by simp))
  have hadv : s.advanced ((s.grant (bankOf o) 0).count (MSA_BEATS (bankOf o)) 1) (MSA_BEATS (bankOf o)) 1 := State.cnt_count_self ..
  have hmem := hcount.2 .mem (by simp)
  rw [show s.granted [] (bankOf o) 0 = s.grant (bankOf o) 0 from rfl] at hcount hmem
  rw [State.load_congr hmem] at hserved
  generalize (s.grant (bankOf o) 0).count (MSA_BEATS (bankOf o)) 1 = v at hserved hcount hadv hmem
  have htaken : s.only [MSA_ECC_STAT] [.live, .store] (v.taken s.resp) := (hcount.mono (by simp) (by simp)).taken_back
  exact ⟨_, hserved, htaken, hadv⟩

/-- A write of a word through the fabric. -/
theorem State.storeNow_write {o : Nat} {d : DWord} {src : AccSrc} (hb : bankOf o < 16) (hal : o % 8 = 0) (hw : s.accWaits 0 o = false)
    (hlock : s.lockedOut (bankOf o) 0 = false) (hp : s.mayWrite 0 (bankOf o) = true) :
    ∃ u, s.storeNow 0 o (some (.write 3 d)) src = (u, some (0, 0)) ∧ u.load o 8 = d.toNat ∧ (∀ x, x < o ∨ o + 8 ≤ x → u.byte x = s.byte x) ∧
      u.resp = s.resp ∧ s.only [MSA_ECC_STAT] [.live, .mem, .store] u := by
  obtain ⟨w, hdef, -, hload, hbyte, -, -, -, honly⟩ := State.wordWrite_spec (s := s) (d := d) (r := 0) [] hb hal
  have hperf := State.perform_writeWord (d := d) (src := src) hlock hp
  have hserved := State.storeNow_served (f := .write 3 d) (by simp [accLegal, hal]) hw hperf
  rw [show (s.grant (bankOf o) 0) = (s.upset []).grant (bankOf o) 0 from rfl] at hserved
  generalize ((((s.upset []).grant (bankOf o) 0).writeWords 0 o [d]).count (MSA_BEATS (bankOf o)) 1) = v at hserved hdef
  subst hdef
  refine ⟨_, hserved, hload, hbyte, rfl, ?_⟩
  have htaken : s.only [MSA_ECC_STAT] [.live, .mem, .store] ((v.answer 0 0 0).taken s.resp) := (honly.mono (by simp) (by simp)).taken_back
  exact htaken

/-- A write that the protection forbids, through the fabric. -/
theorem State.storeNow_protected {o : Nat} {d : DWord} {src : AccSrc} (hal : o % 8 = 0) (hw : s.accWaits 0 o = false)
    (hlock : s.lockedOut (bankOf o) 0 = false) (hp : s.mayWrite 0 (bankOf o) = false) :
    s.storeNow 0 o (some (.write 3 d)) src = ((s.fault 0x07 0x04 (s.selfAddr (storeBase + o))).taken s.resp, some (0x06, 0)) :=
  State.storeNow_served (f := .write 3 d) (by simp [accLegal, hal]) hw
    (State.perform_protected (x := ⟨0, o, .write 3 d, src⟩) hlock rfl hp)

/-! ### A request that can be answered at once -/

section
variable {f : Frame} {n op : Nat}

theorem State.serves_answerable (h : s.answerable f n) (hop : reqOp f = op) : s.serveOp op f = s.serveFrame f := by
  obtain ⟨hreq, hloc, -, hcan, -, hdark, -⟩ := h
  exact State.serveOp_serves hdark hreq hop hloc hcan

theorem State.storeReq_answerable (h : s.answerable f n) : s.storeReq (whoOf f) = 0 := by
  obtain ⟨-, -, -, -, -, -, -, -, -, hchip, -⟩ := h
  exact State.storeReq_elsewhere (.inr (Nat.ne_of_gt hchip))

/-- The answer of a request of the store. -/
theorem State.store_answer {o st d : Nat} {form : AccForm} {data : List DWord} {u : State} (h : s.answerable f n) (hop : reqOp f = op) (h6 : op ≠ 6)
    (hin : inStore (fabOff (reqAddr f)) = true) (ho : fabOff (reqAddr f) = storeBase + o)
    (hform : storeForm (reqOp f) (reqSize f) (reqBeats f) (f.payload.drop 2) = some form)
    (hnow : s.storeNow 0 o (some form) (.net f) = (u, some (st, d))) (hu : s.served u) (hno : ¬ (reqOp f = 2 ∧ st = 0))
    (hdata : numWords (rspWords (reqOp f) (reqSize f) (reqBeats f) st) d = data) (hlen : data.length = n) :
    ∃ t, s.serveOp op f = t ∧ s.answered t f st data ∧ t.mem = u.mem ∧ u.only [FWD_EVT, MSA_ECC_STAT] [.live, .store, .fwd] t ∧
      ∀ b, max 1 (s.get MSA_PART_FB) ≤ b → b < 2 ^ 8 → t.cnt (MSA_BEATS b) = u.cnt (MSA_BEATS b) := by
  rw [State.serves_answerable h hop]
  refine (State.replies.of_answerable h).serves ?_ hu hno hdata hlen
  rw [State.serve1_store (hop ▸ h6) hin ho (State.storeReq_answerable h), hform]
  exact hnow

/-- The answer of a request that is settled without a change. -/
theorem State.plain_answer {st d : Nat} {data : List DWord} (h : s.answerable f n) (hop : reqOp f = op)
    (hs : s.serve1 (whoOf f) (frDst f == 0xFF) (reqOp f) (reqSize f) (reqBeats f) (fabOff (reqAddr f)) (f.payload.drop 2) (.net f) = (s, some (st, d)))
    (hno : ¬ (reqOp f = 2 ∧ st = 0)) (hdata : numWords (rspWords (reqOp f) (reqSize f) (reqBeats f) st) d = data) (hlen : data.length = n) :
    ∃ t, s.serveOp op f = t ∧ s.answered t f st data ∧ t.mem = s.mem ∧ s.parts [.regs, .live, .fwd, .store] t := by
  rw [State.serves_answerable h hop]
  obtain ⟨t, ht, hans, hmem, honly, -⟩ := (State.replies.of_answerable h).serves hs (s.only_refl _ _) hno hdata hlen
  exact ⟨t, ht, hans, hmem, honly.2.mono (by simp)⟩

end

theorem inStore_of_space {o : Nat} (h : o < 0x190000) : inStore o = false := by
  rw [inStore, decide_eq_false_iff_not]
  unfold storeBase
  omega

theorem bankOf_lt_of_store {o : Nat} (h : inStore (storeBase + o) = true) : bankOf o < 16 := by
  rw [inStore, decide_eq_true_eq] at h
  unfold storeBase storeSize at h
  unfold bankOf
  omega

/-- The answer of a read-modify-write. -/
theorem State.amo_answer {f : Frame} {k o m : Nat} {op : AmoOp} {z : Fin 4} {a b : DWord} (h : s.answerable f 1) (hop : reqOp f = k)
    (hamo : op = .swap ∨ op = .add ∨ op = .cas) (hin : inStore (fabOff (reqAddr f)) = true) (ho : fabOff (reqAddr f) = storeBase + o)
    (hform : storeForm (reqOp f) (reqSize f) (reqBeats f) (f.payload.drop 2) = some (.amo op z a b))
    (hl : accLegal (.amo op z a b) o = true) (hw : s.accWaits 0 o = false) (hlock : s.lockedOut (bankOf o) 0 = false)
    (hp : s.mayWrite 0 (bankOf o) = true) (hm : s.mark (o / 8) = none) (hk : 3 ≤ k ∧ k ≤ 5) (hz : 2 ^ z.val = m)
    (hwords : rspWords (reqOp f) (reqSize f) (reqBeats f) 0 = 1) :
    ∃ t, s.serveOp k f = t ∧ s.answered t f 0 [BitVec.ofNat 64 (s.load o (m))] ∧
      t.load o (m) = amoResult op (8 * m) (s.load o (m)) (a.toNat % 2 ^ (8 * m)) (b.toNat % 2 ^ (8 * m)) %
        2 ^ (8 * m) ∧
      (∀ x, x < o ∨ o + m ≤ x → t.byte x = s.byte x) ∧ s.parts [.regs, .live, .mem, .store, .fwd] t := by
  subst hz
  obtain ⟨u, hnow, hu, hload, hbyte⟩ := State.storeNow_amo (src := .net f) hamo (bankOf_lt_of_store (ho ▸ hin)) hl hw hlock hp hm
  obtain ⟨t, ht, hans, hmem, honly, -⟩ := State.store_answer (data := [BitVec.ofNat 64 (s.load o (2 ^ z.val))]) h hop (by omega) hin ho hform hnow (hu.mono (by simp) (by simp)) (by omega)
    (by rw [hwords]; exact numWords_one _) rfl
  exact ⟨t, ht, hans, (State.load_congr hmem _ _).trans hload, fun x hx => (State.byte_congr hmem x).trans (hbyte x hx),
    ((hu.mono (by simp) (by simp)).trans (honly.mono (by simp) (by simp)) : s.only [FWD_EVT, MSA_ECC_STAT] [.live, .mem, .store, .fwd] t).2⟩

/-- A fault, and the answer of the access taken back. -/
theorem State.served_fault (hr : s.roomy) (src kind addr : Nat) : s.served (s.fault src kind addr) :=
  (s.only_refl _ _).fault hr _ _ _ (by simp)

/-- An offset of the register space at which no register stands, outside the windows that show another's registers. -/
theorem State.regAccess_unmapped {o size data : Nat} {who : Who} {wr bc : Bool} (ho : o < 0x188000) (hb : blkOf o ∈ [0x01, 0x07, 0x12])
    (hres : s.inReset (blkOf o) = false) (hf : regFind o = none) :
    s.regAccess who wr bc size o data = (s.fault (blkOf o) 0x01 (s.selfAddr o), some (0x04, 0)) := by
  have hwin : oneWindow o = o := by
    rw [oneWindow, if_neg, if_neg]
    all_goals
      simp only [blkOf, List.mem_cons, List.not_mem_nil, or_false] at hb
      omega
  have hlead : s.leadsTo o = some o := by rw [State.leadsTo, if_pos (by omega), hwin]
  have h23 : ¬ (blkOf o = 0x02 ∨ blkOf o = 0x03) := by
    simp only [List.mem_cons, List.not_mem_nil, or_false] at hb
    omega
  have h15 : blkOf o ≠ 0x15 := by
    simp only [List.mem_cons, List.not_mem_nil, or_false] at hb
    omega
  rw [State.regAccess, hlead]
  simp only [h23, if_false, h15, false_and, hres, Bool.false_eq_true, hf]
  rw [if_neg (by omega)]

end

/-- Settles O54: each operation at its target, its answer, and what waits. -/
theorem fabricTargets : Obligations.FabricTargets := by
  unfold Obligations.FabricTargets
  refine ⟨?_, ?_, ?_, ?_, ?_, ?_, ?_, ?_, ?_, ?_, ?_⟩
  · intro f o s h hop hsz hin ho hal hm hw hlock
    have hb := bankOf_lt_of_store (ho ▸ hin)
    obtain ⟨u, hnow, hu, hadv⟩ := State.storeNow_read (src := .net f) hb hal hw hlock hm
    obtain ⟨t, ht, hans, hmem', honly, hkept⟩ := State.store_answer (data := [BitVec.ofNat 64 (s.load o 8)]) h hop (by decide) hin ho
      (by rw [hop, hsz]; rfl) hnow (hu.mono (by simp) (by simp)) (by omega) (by rw [hop, hsz]; exact numWords_one _) rfl
    exact ⟨t, congrArg Host.Outcome.next ht, hans, hmem'.trans (hu.2 .mem (by simp)), fun hfb => (hkept _ hfb (by omega)).trans hadv,
      ((hu.mono (by simp) (by simp)).trans (honly.mono (by simp) (by simp)) : s.only [FWD_EVT, MSA_ECC_STAT] [.live, .store, .fwd] t).2⟩
  · intro f o s h hop hlt ho hblk hres hfind hr
    have hserve : s.serve1 (whoOf f) (frDst f == 0xFF) (reqOp f) (reqSize f) (reqBeats f) (fabOff (reqAddr f)) (f.payload.drop 2) (.net f) =
        (s.fault (blkOf o) 0x01 (s.selfAddr o), some (0x04, 0)) := by
      rw [State.serve1, if_neg (by omega), if_neg (by rw [ho, inStore_of_space (by omega)]; simp), if_pos (.inl hop), ho,
        State.regAccess_unmapped hlt hblk hres hfind]
    have hu := State.served_fault (s := s) hr (blkOf o) 0x01 (s.selfAddr o)
    have hsent := hr.sent_fault (blkOf o) 0x01 (s.selfAddr o)
    have hfault : s.only [] [.fltQ] (s.fault (blkOf o) 0x01 (s.selfAddr o)) := (s.only_refl _ _).fault hr _ _ _ (by simp)
    generalize s.fault (blkOf o) 0x01 (s.selfAddr o) = u at hserve hu hsent hfault
    obtain ⟨t, ht, hans, hmem, honly, -⟩ := (State.replies.of_answerable h).serves (data := []) hserve hu (by omega) (by simp [rspWords, numWords]) rfl
    refine ⟨t, congrArg Host.Outcome.next ((State.serves_answerable h hop).trans ht), hans,
      (honly.2 .fltQ (by simp)).trans hsent, hmem.trans (hfault.2 .mem (by simp)), ?_⟩
    exact ((hfault.mono (by simp) (by simp)).trans (honly.mono (by simp) (by simp)) :
      s.only [FWD_EVT, MSA_ECC_STAT] [.live, .fwd, .fltQ, .store] t).2
  · intro f o w0 a d s hreq hloc hcan hsrc hdark hop hsz hin ho hal hpay hw hlock hp
    obtain ⟨u, hnow, hload, hbyte, hresp, honly⟩ := State.storeNow_write (d := d) (src := .net f) (bankOf_lt_of_store (ho ▸ hin)) hal hw hlock hp
    have hserve : s.serve1 (whoOf f) (frDst f == 0xFF) (reqOp f) (reqSize f) (reqBeats f) (fabOff (reqAddr f)) (f.payload.drop 2) (.net f) =
        (u, some (0, 0)) := by
      rw [State.serve1_store (by omega) hin ho (State.storeReq_elsewhere (.inl hsrc)), hop, hsz, hpay]
      exact hnow
    refine ⟨u, congrArg Host.Outcome.next ((State.serveOp_serves hdark hreq hop hloc hcan).trans ?_), hload, hbyte, honly.2 .fwd (by simp), hresp, honly⟩
    rw [State.serveFrame_done hserve, State.netDone, if_pos (.inr ⟨hop, rfl⟩)]
  · intro f o w0 a d s h hop hsz hin ho hal hpay hw hlock hp hr
    have hu := State.served_fault (s := s) hr 0x07 0x04 (s.selfAddr (storeBase + o))
    have hsent := hr.sent_fault 0x07 0x04 (s.selfAddr (storeBase + o))
    have hfault : s.only [] [.fltQ] (s.fault 0x07 0x04 (s.selfAddr (storeBase + o))) := (s.only_refl _ _).fault hr _ _ _ (by simp)
    have hnow := State.storeNow_protected (d := d) (src := .net f) hal hw hlock hp
    generalize s.fault 0x07 0x04 (s.selfAddr (storeBase + o)) = v at hu hsent hfault hnow
    have htaken : s.only [] [.fltQ] (v.taken s.resp) := (hfault.mono (by simp) (by simp)).taken_back
    have hsent' : s.sent (v.taken s.resp) 0x07 0x04 (s.selfAddr (storeBase + o)) := hsent
    generalize v.taken s.resp = u at htaken hnow hsent'
    obtain ⟨t, ht, hans, hmem, honly, -⟩ := State.store_answer (data := []) h hop (by decide) hin ho (by rw [hop, hsz, hpay]; rfl) hnow
      (htaken.mono (by simp) (by simp)) (by omega) (by simp [rspWords, numWords]) rfl
    refine ⟨t, congrArg Host.Outcome.next ht, hans, hmem.trans (htaken.2 .mem (by simp)),
      (honly.2 .fltQ (by simp)).trans hsent', ?_⟩
    exact ((htaken.mono (by simp) (by simp)).trans (honly.mono (by simp) (by simp)) :
      s.only [FWD_EVT, MSA_ECC_STAT] [.live, .fwd, .fltQ, .store] t).2
  · intro f o w0 a d s h hop hsz hin ho hal hpay hw hlock hp hm
    obtain ⟨t, ht, hans, hload, hbyte, hparts⟩ := State.amo_answer (m := 8) (z := 3) (a := d) (b := 0#64) h hop (.inl rfl) hin ho (by rw [hop, hsz, hpay]; rfl)
      (by simp [accLegal, hal]) hw hlock hp hm (by decide) rfl (by rw [hop, hsz]; rfl)
    refine ⟨t, congrArg Host.Outcome.next ht, hans, hload.trans ?_, hbyte, hparts⟩
    have hd := d.isLt
    simp only [amoResult]
    omega
  · intro f o w0 a d s h hop hsz hin ho hal hpay hw hlock hp hm
    obtain ⟨t, ht, hans, hload, hbyte, hparts⟩ := State.amo_answer (m := 4) (z := 2) (a := d) (b := 0#64) h hop (.inr (.inl rfl)) hin ho (by rw [hop, hsz, hpay]; rfl)
      (by simp [accLegal, hal]) hw hlock hp hm (by decide) rfl (by rw [hop, hsz]; rfl)
    refine ⟨t, congrArg Host.Outcome.next ht, hans, hload.trans ?_, hbyte, hparts⟩
    simp only [amoResult]
    omega
  · intro f o w0 a c d s h hop hsz hin ho hal hpay hw hlock hp hm
    obtain ⟨t, ht, hans, hload, hbyte, hparts⟩ := State.amo_answer (m := 8) (z := 3) (a := c) (b := d) h hop (.inr (.inr rfl)) hin ho (by rw [hop, hsz, hpay]; rfl)
      (by simp [accLegal, hal]) hw hlock hp hm (by decide) rfl (by rw [hop, hsz]; rfl)
    refine ⟨t, congrArg Host.Outcome.next ht, hans, hload.trans ?_, hbyte, hparts⟩
    have hc := c.isLt
    have hd := d.isLt
    have hs : s.load o 8 < 2 ^ 64 := by simpa using s.load_lt o 8
    simp only [amoResult, Nat.reduceMul]
    rw [Nat.mod_eq_of_lt hc, Nat.mod_eq_of_lt hd]
    split
    · exact Nat.mod_eq_of_lt hd
    · exact Nat.mod_eq_of_lt hs
  · intro f op c s h hc hop hoff
    have hserve : s.serve1 (whoOf f) (frDst f == 0xFF) (reqOp f) (reqSize f) (reqBeats f) (fabOff (reqAddr f)) (f.payload.drop 2) (.net f) =
        (s, some (0x05, 0)) := by
      have hlead : s.leadsTo (fabOff (reqAddr f)) = some (oneWindow (fabOff (reqAddr f))) := if_pos hoff
      rw [State.serve1, if_neg (by omega), if_neg (by rw [inStore_of_space hoff]; simp), if_neg]
      rw [hlead]
      simp only [Option.isNone_some, Bool.false_eq_true, or_false]
      omega
    obtain ⟨t, ht, hspec⟩ := State.plain_answer (data := []) h hop hserve (by simp) rfl rfl
    refine ⟨t, ?_, hspec⟩
    obtain ⟨rfl, rfl⟩ | ⟨rfl, rfl⟩ | ⟨rfl, rfl⟩ := hc
    all_goals exact congrArg Host.Outcome.next ht
  · intro f s h hop
    obtain ⟨t, ht, hspec⟩ := State.plain_answer (d := 0) (st := 0) (data := []) h hop (by rw [State.serve1, if_pos hop]) (by omega)
      (by rw [hop]; rfl) rfl
    exact ⟨t, congrArg Host.Outcome.next ht, hspec⟩
  · intro f c s hc hcan
    have hkeep (op : Nat) : s.serveOp op f = s := by
      rw [State.serveOp, if_neg (by simp [hcan])]
    simp only [List.mem_cons, List.not_mem_nil, or_false] at hc
    refine ⟨s, ?_, s.only_refl _ _⟩
    obtain rfl | rfl | rfl | rfl | rfl := hc
    all_goals exact congrArg Host.Outcome.next (hkeep _)
  · intro f o s hreq hloc hdark hsrc hop hsz hin ho hal hw
    have hcan : s.canServe f = true := by simp [State.canServe, hop, hin]
    have hserve : s.serve1 (whoOf f) (frDst f == 0xFF) (reqOp f) (reqSize f) (reqBeats f) (fabOff (reqAddr f)) (f.payload.drop 2) (.net f) =
        (s.enwait ⟨0, o, .read 3, .net f⟩, none) := by
      rw [State.serve1_store (by omega) hin ho (State.storeReq_elsewhere (.inl hsrc)), hop, hsz, show storeForm 1 3 (reqBeats f) (f.payload.drop 2) = some (.read 3) from rfl, State.storeNow]
      simp [accLegal, hal, hw]
    obtain ⟨hwait, -, honly⟩ := s.enwait_spec ⟨0, o, .read 3, .net f⟩
    refine ⟨_, congrArg Host.Outcome.next ((State.serveOp_serves hdark hreq hop hloc hcan).trans ?_), hwait, honly⟩
    rw [State.serveFrame, ← whoOf, hserve]

end Sys2Proof.Machine

/-! Firmware update: the flash and its directory, the commands of UPD and what follows them (R481 to R495). -/
namespace Sys2Proof.Machine

set_option Elab.async false

/-! ### Runs of bytes in a table -/

theorem Tab.getList_eq_map {α : Type} (d : Nat → α) (t : Tab α) (n k : Nat) :
    Tab.getList d t k n = (List.range n).map fun i => Tab.get d t (k + i) := by
  induction n generalizing k with
  | zero => rfl
  | succ n ih =>
    rw [Tab.getList, ih, List.range_succ_eq_map, List.map_cons, List.map_map]
    refine congrArg₂ List.cons rfl (List.map_congr_left fun i _ => ?_)
    rw [Function.comp_apply, Nat.succ_eq_add_one, show k + 1 + i = k + (i + 1) by omega]

/-- A run of bytes inside another. -/
theorem Tab.getList_inside {α : Type} (d : Nat → α) (t : Tab α) {k i n m : Nat} (h : i + n ≤ m) :
    Tab.getList d t (k + i) n = ((Tab.getList d t k m).drop i).take n := by
  rw [Tab.getList_eq_map, Tab.getList_eq_map]
  refine List.ext_getElem (by simp; omega) fun j h1 h2 => ?_
  simp only [List.length_map, List.length_range] at h1
  simp [Nat.add_assoc]

/-- The pieces of a list made of pieces of one length. -/
theorem flatMap_piece {α : Type} (f : Nat → List α) {m : Nat} (hf : ∀ i, (f i).length = m) {j n : Nat} (hj : j < n) :
    (((List.range n).flatMap f).drop (m * j)).take m = f j := by
  induction n with
  | zero => omega
  | succ n ih =>
    have hlen (k : Nat) : ((List.range k).flatMap f).length = m * k := by
      induction k with
      | zero => simp
      | succ k ihk => rw [List.range_succ, List.flatMap_append, List.length_append, ihk]; simp [hf, Nat.mul_succ]
    rw [List.range_succ, List.flatMap_append, List.flatMap_singleton]
    obtain h | rfl : j < n ∨ j = n := by omega
    · have hle : m * j + m ≤ m * n := by rw [← Nat.mul_succ]; exact Nat.mul_le_mul_left m h
      rw [List.drop_append_of_le_length (by rw [hlen]; omega), List.take_append_of_le_length (by rw [List.length_drop, hlen]; omega)]
      exact ih h
    · rw [List.drop_left' (hlen j), List.take_of_length_le (by rw [hf])]

/-! ### The check sum of a directory copy -/

theorem crcBit_lt {c : Nat} (h : c < 2 ^ 32) : crcBit c < 2 ^ 32 := by
  have hhalf : c / 2 < 2 ^ 32 := by omega
  rw [crcBit]
  split
  · exact Nat.xor_lt_two_pow hhalf (by decide)
  · exact hhalf

theorem crcByte_lt {c : Nat} (b : Nat) (h : c < 2 ^ 32) : crcByte c b < 2 ^ 32 := by
  have hx : c ^^^ (b % 256) < 2 ^ 32 := Nat.xor_lt_two_pow h (by omega)
  exact crcBit_lt (crcBit_lt (crcBit_lt (crcBit_lt (crcBit_lt (crcBit_lt (crcBit_lt (crcBit_lt hx)))))))

theorem crcOfBytes_lt (bs : List Byte) : crcOfBytes bs < 2 ^ 32 := by
  have hfold (c : Nat) (h : c < 2 ^ 32) : bs.foldl (fun c b => crcByte c b.toNat) c < 2 ^ 32 := by
    induction bs generalizing c with
    | nil => exact h
    | cons b bs ih => exact ih _ (crcByte_lt _ h)
  exact Nat.xor_lt_two_pow (hfold _ (by decide)) (by decide)

section
variable {s : State}

/-! ### The bytes of the flash -/

/-- A byte of the flash. -/
def State.flashByte (s : State) (a : Nat) : Byte := Tab.get flashDefault s.upd.flash a

theorem State.flashNum_one (a : Nat) : s.flashNum a 1 = (s.flashByte a).toNat := by
  simp [State.flashNum, State.flashBytes, Tab.getList, ofLeBytes, State.flashByte]

theorem State.flashBytes_eq (a n : Nat) : s.flashBytes a n = (List.range n).map fun i => s.flashByte (a + i) :=
  Tab.getList_eq_map ..

theorem State.flashBytes_inside {a i n m : Nat} (h : i + n ≤ m) : s.flashBytes (a + i) n = ((s.flashBytes a m).drop i).take n :=
  Tab.getList_inside _ _ h

theorem State.flashBytes_put (a : Nat) (bs : List Byte) : (s.flashPut a bs).flashBytes a bs.length = bs := Tab.getList_setList ..

theorem State.flashByte_put {a x : Nat} {bs : List Byte} (h : x < a ∨ a + bs.length ≤ x) : (s.flashPut a bs).flashByte x = s.flashByte x :=
  Tab.get_setList_out _ _ _ _ _ h

/-- A number written into the flash inside a run of bytes. -/
theorem State.flashNum_put {a i n : Nat} {bs : List Byte} (h : i + n ≤ bs.length) :
    (s.flashPut a bs).flashNum (a + i) n = ofLeBytes ((bs.drop i).take n) := by
  rw [State.flashNum, State.flashBytes_inside h, State.flashBytes_put]

/-- The flash with a part erased. -/
def State.flashErased (s : State) (p : Nat → Bool) : State := { s with upd := { s.upd with flash := s.upd.flash.filter fun e => !p e.1 } }

theorem State.flashByte_erased (p : Nat → Bool) (x : Nat) : (s.flashErased p).flashByte x = if p x then 0xFF#8 else s.flashByte x := by
  have h := Tab.get_filter flashDefault s.upd.flash (fun k => !p k) x
  rw [State.flashByte, State.flashErased]
  refine h.trans ?_
  cases p x <;> rfl

/-! ### The directory (R482) -/

/-- A directory whose fields a copy can hold. -/
structure Dir.Fits (d : Dir) : Prop where
  seq : d.seq < 2 ^ 32
  active : d.active ≤ 1
  state : d.state ≤ 1
  cand : d.cand ≤ 1

/-- A directory written reads back. -/
theorem State.dirCopy_of_bytes {k : Nat} {d : Dir} (hd : d.Fits) (h : s.flashBytes (0x1000 * k) 64 = d.bytes) : s.dirCopy k = some d := by
  have hnum (i n : Nat) (hi : i + n ≤ 64) : s.flashNum (0x1000 * k + i) n = ofLeBytes ((d.bytes.drop i).take n) := by
    rw [State.flashNum, State.flashBytes_inside hi, h]
  obtain ⟨hseq, hact, hst, hcand⟩ := hd
  have h0 : s.flashNum (0x1000 * k) 4 = 0x44495247 := (hnum 0 4 (by decide)).trans (ofLeBytes_leBytes 4 0x44495247)
  have h4 : s.flashNum (0x1000 * k + 4) 4 = d.seq :=
    (hnum 4 4 (by decide)).trans ((ofLeBytes_leBytes 4 d.seq).trans (Nat.mod_eq_of_lt hseq))
  have h8 : s.flashNum (0x1000 * k + 8) 1 = d.active :=
    (hnum 8 1 (by decide)).trans ((ofLeBytes_leBytes 1 d.active).trans (Nat.mod_eq_of_lt (by omega)))
  have h9 : s.flashNum (0x1000 * k + 9) 1 = d.state :=
    (hnum 9 1 (by decide)).trans ((ofLeBytes_leBytes 1 d.state).trans (Nat.mod_eq_of_lt (by omega)))
  have h10 : s.flashNum (0x1000 * k + 10) 1 = d.cand :=
    (hnum 10 1 (by decide)).trans ((ofLeBytes_leBytes 1 d.cand).trans (Nat.mod_eq_of_lt (by omega)))
  have hbody : s.flashBytes (0x1000 * k) 0x3C = d.bytes.take 0x3C := by
    have hin := s.flashBytes_inside (a := 0x1000 * k) (i := 0) (n := 0x3C) (m := 64) (by decide)
    rw [h] at hin
    exact hin
  have hcrc : s.flashNum (0x1000 * k + 0x3C) 4 = crcOfBytes (s.flashBytes (0x1000 * k) 0x3C) := by
    rw [hbody]
    exact (hnum 0x3C 4 (by decide)).trans ((ofLeBytes_leBytes 4 (crcOfBytes (d.bytes.take 0x3C))).trans (Nat.mod_eq_of_lt (crcOfBytes_lt _)))
  rw [State.dirCopy]
  simp only [h0, h4, h8, h9, h10, hcrc, hact, hst, hcand, and_self, if_true]

theorem State.dirCopy_congr {t : State} {k : Nat} (h : ∀ x, 0x1000 * k ≤ x → x < 0x1000 * k + 64 → t.flashByte x = s.flashByte x) :
    t.dirCopy k = s.dirCopy k := by
  have hbytes (i n : Nat) (hi : i + n ≤ 64) : t.flashBytes (0x1000 * k + i) n = s.flashBytes (0x1000 * k + i) n := by
    rw [State.flashBytes_eq, State.flashBytes_eq]
    exact List.map_congr_left fun j hj => h _ (by omega) (by have := List.mem_range.1 hj; omega)
  have hnum (i n : Nat) (hi : i + n ≤ 64) : t.flashNum (0x1000 * k + i) n = s.flashNum (0x1000 * k + i) n := by
    rw [State.flashNum, hbytes i n hi, State.flashNum]
  have h0 := hnum 0 4 (by decide)
  have hb := hbytes 0 0x3C (by decide)
  rw [Nat.add_zero] at h0 hb
  simp only [State.dirCopy, h0, hb, hnum 4 4 (by decide), hnum 8 1 (by decide), hnum 9 1 (by decide), hnum 10 1 (by decide), hnum 0x3C 4 (by decide)]

theorem State.flashNum_lt (a n : Nat) : s.flashNum a n < 2 ^ (8 * n) := by
  have hlist (l : List Byte) : ofLeBytes l < 2 ^ (8 * l.length) := by
    induction l with
    | nil => simp [ofLeBytes]
    | cons b bs ih =>
      have hb := b.isLt
      rw [ofLeBytes, List.length_cons, Nat.mul_succ, Nat.pow_add]
      omega
  have hlen : (s.flashBytes a n).length = n := by rw [State.flashBytes_eq, List.length_map, List.length_range]
  have := hlist (s.flashBytes a n)
  rwa [hlen] at this

theorem State.dirCopy_fits {k : Nat} {d : Dir} (h : s.dirCopy k = some d) : d.Fits := by
  rw [State.dirCopy] at h
  dsimp only at h
  split at h
  · rename_i hok
    obtain ⟨-, -, hact, hst, hcand⟩ := hok
    obtain rfl := Option.some.inj h
    exact ⟨s.flashNum_lt _ _, hact, hst, hcand⟩
  · exact absurd h (by simp)

/-- The chosen copy is one of the two, and valid. -/
theorem State.dirChosen_copy {k : Nat} {d : Dir} (h : s.dirChosen = some (k, d)) : k ≤ 1 ∧ s.dirCopy k = some d := by
  rw [State.dirChosen] at h
  split at h
  · rename_i a b ha hb
    dsimp only at h
    split at h
    all_goals
      obtain ⟨rfl, rfl⟩ := Prod.mk.inj (Option.some.inj h)
      simp_all
  · rename_i a ha hb
    obtain ⟨rfl, rfl⟩ := Prod.mk.inj (Option.some.inj h)
    exact ⟨by decide, ha⟩
  · rename_i b ha hb
    obtain ⟨rfl, rfl⟩ := Prod.mk.inj (Option.some.inj h)
    exact ⟨by decide, hb⟩
  · exact absurd h (by simp)

theorem State.dirBase_fits : s.dirBase.1 ≤ 1 ∧ s.dirBase.2.Fits := by
  rw [State.dirBase]
  cases h : s.dirChosen with
  | some x =>
    obtain ⟨hk, hcopy⟩ := State.dirChosen_copy (k := x.1) (d := x.2) h
    exact ⟨hk, State.dirCopy_fits hcopy⟩
  | none =>
    have hact : s.get UPD_STAT_ACTIVE < 2 ^ UPD_STAT_ACTIVE.w := s.get_lt _
    have hw : (2 : Nat) ^ UPD_STAT_ACTIVE.w = 2 := by decide
    exact ⟨le_refl 1, ⟨by show 2 ^ 32 - 1 < 2 ^ 32; decide, by show s.get UPD_STAT_ACTIVE ≤ 1; omega, Nat.zero_le _, Nat.zero_le _⟩⟩

theorem length_dirBytes (d : Dir) : d.bytes.length = 64 := by
  simp [Dir.bytes, length_leBytes]

/-- A directory write: the copy, and the rest of the flash. -/
theorem State.dirWrite_spec (f : Dir → Dir) (hf : ({ f s.dirBase.2 with seq := (s.dirBase.2.seq + 1) % 2 ^ 32 } : Dir).Fits) :
    (s.dirWrite f).dirCopy (1 - s.dirBase.1) = some { f s.dirBase.2 with seq := (s.dirBase.2.seq + 1) % 2 ^ 32 } ∧
      (∀ x, x < 0x1000 * (1 - s.dirBase.1) ∨ 0x1000 * (1 - s.dirBase.1) + 0x1000 ≤ x → (s.dirWrite f).flashByte x = s.flashByte x) ∧
      ∃ fl, s.dirWrite f = { s with upd := { s.upd with flash := fl } } := by
  generalize hk : 1 - s.dirBase.1 = k
  generalize hd : ({ f s.dirBase.2 with seq := (s.dirBase.2.seq + 1) % 2 ^ 32 } : Dir) = d at hf ⊢
  have hw : s.dirWrite f = (s.flashErased fun x => decide (0x1000 * k ≤ x ∧ x < 0x1000 * (k + 1))).flashPut (0x1000 * k) d.bytes := by
    rw [State.dirWrite, hk, hd]
    rfl
  refine ⟨?_, fun x hx => ?_, ⟨_, hw⟩⟩
  · rw [hw]
    refine State.dirCopy_of_bytes hf ?_
    have h := (s.flashErased fun x => decide (0x1000 * k ≤ x ∧ x < 0x1000 * (k + 1))).flashBytes_put (0x1000 * k) d.bytes
    rwa [length_dirBytes] at h
  · rw [hw, State.flashByte_put (by rw [length_dirBytes]; omega), State.flashByte_erased, if_neg]
    rw [decide_eq_true_eq]
    omega

/-! ### A command of UPD begins (R486, R487) -/

/-- The state after the unlock word has been used up. -/
def State.keyed (s : State) : State := { s with upd := { s.upd with key := false } }

theorem State.only_keyed : s.only [] [.upd] s.keyed := s.only_with_upd _

section
variable {c : Instr} {G : State → State → State}

theorem exec_updIdle (h : exec c s = .next (s.cmd UPD_CMD fun u => u.updStart (G u))) (hd : s.dark = false) (ho : s.open_ 0x16 = true) (hb : s.on UPD_STAT_BUSY = false) :
    exec c s = .next (G s s.keyed) := by
  obtain ⟨hr, hi⟩ := State.open_parts ho
  rw [h, s.cmd_run UPD_CMD _ hd hr, State.updStart, if_neg (by simp [hi]), if_neg (by simp [hb])]
  rfl

theorem exec_updBusy (h : exec c s = .next (s.cmd UPD_CMD fun u => u.updStart (G u))) (hd : s.dark = false) (ho : s.open_ 0x16 = true) (hb : s.on UPD_STAT_BUSY = true) :
    exec c s = .next (s.keyed.put UPD_STAT_REJ 1) := by
  obtain ⟨hr, hi⟩ := State.open_parts ho
  rw [h, s.cmd_run UPD_CMD _ hd hr, State.updStart, if_neg (by simp [hi]), if_pos hb]
  rfl

end

/-- A command under way: what STAT and UPD's state show of it. -/
theorem State.updBusy_spec (op code addr : Nat) (area : List Nat) : (s.updBusy op code addr area).get UPD_STAT_BUSY = 1 ∧
    (s.updBusy op code addr area).upd = { s.upd with run := some ⟨op, code, addr, area, s.sys.t⟩ } ∧
    s.only [UPD_STAT] [.upd] (s.updBusy op code addr area) :=
  ⟨State.get_put_self _ rfl (by decide), State.put_upd _ _ _, ((s.only_refl _ _).with_upd _ (by simp)).put _ (by decide)⟩

/-- A command whose outcome is known at once. -/
theorem State.updPlain (op code addr : Nat) : (s.keyed.updBusy op code addr []).get UPD_STAT_BUSY = 1 ∧
    (s.keyed.updBusy op code addr []).upd = { s.upd with key := false, run := some ⟨op, code, addr, [], s.sys.t⟩ } ∧
    s.only [UPD_STAT] [.upd] (s.keyed.updBusy op code addr []) := by
  obtain ⟨hb, hu, ho⟩ := s.keyed.updBusy_spec op code addr []
  exact ⟨hb, hu, (s.only_keyed.mono (by simp) (by simp)).trans ho⟩

theorem State.setVer_spec (slot : Nat) (v : Bool) : (s.setVer slot v).upd = { s.upd with ver := setBitTo s.upd.ver slot v } ∧
    s.only [UPD_STAT] [.upd] (s.setVer slot v) :=
  ⟨State.put_upd _ _ _, ((s.only_refl _ _).with_upd _ (by simp)).put _ (by decide)⟩

theorem run_of_timed {x : Option UpdRun} {op code at_ : Nat} (h : (x.map fun r => (r.op, r.code, r.at_)) = some (op, code, at_)) :
    (x.map fun r => (r.op, r.code)) = some (op, code) := by
  obtain ⟨r, rfl, hr⟩ := Option.map_eq_some_iff.1 h
  simp only [Prod.mk.injEq] at hr
  rw [Option.map_some, hr.1, hr.2.1]

/-- A directory write that a command makes. -/
theorem State.updDir_spec (op : Nat) (f : Dir → Dir) (hf : ({ f s.dirBase.2 with seq := (s.dirBase.2.seq + 1) % 2 ^ 32 } : Dir).Fits) :
    ∃ t, s.keyed.updDir op true f = t ∧ t.get UPD_STAT_BUSY = 1 ∧ (t.upd.run.map fun r => (r.op, r.code, r.at_)) = some (op, 0, s.sys.t) ∧
      t.upd.trial = s.upd.trial ∧
      t.dirCopy (1 - s.dirBase.1) = some { f s.dirBase.2 with seq := (s.dirBase.2.seq + 1) % 2 ^ 32 } ∧
      (∀ a, a < 0x1000 * (1 - s.dirBase.1) ∨ 0x1000 * (1 - s.dirBase.1) + 0x1000 ≤ a → t.flashNum a 1 = s.flashNum a 1) ∧ s.only [UPD_STAT] [.upd] t := by
  obtain ⟨hcopy, hbyte, fl, hfl⟩ := State.dirWrite_spec (s := s.keyed) f hf
  have hdef : s.keyed.updDir op true f =
      (s.keyed.dirWrite f).updBusy op 0 (0x1000 * (1 - s.dirBase.1)) (dirArea (1 - s.dirBase.1)) := rfl
  have honly : s.only [UPD_STAT] [.upd] (s.keyed.dirWrite f) := by
    rw [hfl]
    exact (s.only_keyed.mono (by simp) (by simp)).with_upd _ (by simp)
  have htrial : (s.keyed.dirWrite f).upd.trial = s.upd.trial := by rw [hfl]; rfl
  have ht : (s.keyed.dirWrite f).sys.t = s.sys.t := by rw [hfl]; rfl
  rw [hdef]
  generalize s.keyed.dirWrite f = w at hcopy hbyte honly htrial ht ⊢
  obtain ⟨hb, hu, ho⟩ := w.updBusy_spec op 0 (0x1000 * (1 - s.dirBase.1)) (dirArea (1 - s.dirBase.1))
  have hflash : (w.updBusy op 0 (0x1000 * (1 - s.dirBase.1)) (dirArea (1 - s.dirBase.1))).upd.flash = w.upd.flash := by rw [hu]
  refine ⟨_, rfl, hb, by rw [hu, ← ht]; rfl, by rw [hu]; exact htrial, ?_, fun a ha => ?_, honly.trans ho⟩
  · exact (State.dirCopy_congr fun x _ _ => congrArg (Tab.get flashDefault · x) hflash).trans hcopy
  · rw [State.flashNum_one, State.flashNum_one]
    exact congrArg BitVec.toNat ((congrArg (Tab.get flashDefault · a) hflash).trans (hbyte a ha))

/-! ### The flash commands (R489) -/

theorem State.flashNum_congr {t : State} (h : t.upd.flash = s.upd.flash) (a n : Nat) : t.flashNum a n = s.flashNum a n := by
  rw [State.flashNum, State.flashBytes, h, State.flashNum, State.flashBytes]

/-- What a command that writes flash leaves beside its bytes. -/
structure State.flashed (s : State) (op slot : Nat) (t : State) : Prop where
  busy : t.get UPD_STAT_BUSY = 1
  ver : t.upd.ver.testBit slot = false
  run : (t.upd.run.map fun r => (r.op, r.code)) = some (op, 0)
  only : s.only [UPD_STAT] [.upd] t

/-- A state with another flash. -/
def State.withFlash (s : State) (fl : List Host.Cell) : State := { s with upd := { s.upd with flash := fl } }

theorem State.flashPut_eq (a : Nat) (bs : List Byte) : s.flashPut a bs = s.withFlash (Tab.setList flashDefault s.upd.flash a bs) := rfl

theorem State.flash_flashPut (a : Nat) (bs : List Byte) : (s.flashPut a bs).upd.flash = Tab.setList flashDefault s.upd.flash a bs := rfl

theorem State.flashErased_eq (p : Nat → Bool) : s.flashErased p = s.withFlash (s.upd.flash.filter fun e => !p e.1) := rfl

/-- A command that has changed the flash and taken VERIFIED away. -/
theorem State.flashed_of {u : State} (op slot addr : Nat) (area : List Nat) (fl : List Host.Cell)
    (hu : u = (s.keyed.setVer slot false).withFlash fl) :
    s.flashed op slot (u.updBusy op 0 addr area) ∧ (u.updBusy op 0 addr area).upd.flash = fl := by
  obtain ⟨hver, honly⟩ := s.keyed.setVer_spec slot false
  generalize s.keyed.setVer slot false = v at hver honly hu
  obtain ⟨hb, hrun, ho⟩ := u.updBusy_spec op 0 addr area
  have hall : s.only [UPD_STAT] [.upd] u := by
    rw [hu]
    exact ((s.only_keyed.mono (by simp) (by simp)).trans honly).with_upd _ (by simp)
  have huver : u.upd.ver = setBitTo s.keyed.upd.ver slot false := by rw [hu]; exact congrArg UpdSt.ver hver
  have hufl : u.upd.flash = fl := by rw [hu]; rfl
  exact ⟨⟨hb, by rw [hrun, huver, testBit_setBitTo], by rw [hrun]; rfl, hall.trans ho⟩, by rw [hrun]; exact hufl⟩

/-- A permitted ERASE. -/
theorem State.updErase_spec {slot off : Nat} (hok : s.flashRefusal 1 s.faddr = 0) (hslot : flashSlot s.faddr = some (slot, off)) :
    s.flashed 1 slot (s.keyed.updErase true) ∧
      ∀ a, (s.keyed.updErase true).flashNum a 1 = if s.faddr ≤ a ∧ a < s.faddr + 0x10000 then 0xFF else s.flashNum a 1 := by
  obtain ⟨hver, -⟩ := s.keyed.setVer_spec slot false
  have hdef : s.keyed.updErase true =
      (((s.keyed.setVer slot false).flashErased fun x => decide (s.faddr ≤ x ∧ x < s.faddr + 0x10000)).updBusy 1 0 s.faddr
        ((List.range 0x10000).map (s.faddr + ·))) := by
    rw [State.updErase]
    generalize List.range 0x10000 = l
    dsimp only
    rw [show s.keyed.faddr = s.faddr from rfl, show s.keyed.flashRefusal 1 s.faddr = s.flashRefusal 1 s.faddr from rfl, hok, hslot]
    rfl
  obtain ⟨hspec, hfl⟩ := State.flashed_of (s := s) (u := (s.keyed.setVer slot false).flashErased fun x => decide (s.faddr ≤ x ∧ x < s.faddr + 0x10000))
    1 slot s.faddr ((List.range 0x10000).map (s.faddr + ·)) _ (State.flashErased_eq _)
  rw [hdef]
  generalize ((s.keyed.setVer slot false).flashErased fun x => decide (s.faddr ≤ x ∧ x < s.faddr + 0x10000)).updBusy 1 0 s.faddr
    ((List.range 0x10000).map (s.faddr + ·)) = t at hspec hfl ⊢
  refine ⟨hspec, fun a => ?_⟩
  have hbase : (s.keyed.setVer slot false).flashByte a = s.flashByte a := by
    rw [State.flashByte, hver]
    rfl
  have herased := (s.keyed.setVer slot false).flashByte_erased (fun x => decide (s.faddr ≤ x ∧ x < s.faddr + 0x10000)) a
  rw [hbase] at herased
  rw [State.flashNum_one, State.flashNum_one, show t.flashByte a = _ from (congrArg (Tab.get flashDefault · a) hfl).trans herased]
  by_cases h : s.faddr ≤ a ∧ a < s.faddr + 0x10000
  · rw [if_pos h, if_pos (by simpa using h)]
    rfl
  · rw [if_neg h, if_neg (by simpa using h)]

theorem length_updBuf : s.updBuf.length = 256 := by
  rw [State.updBuf, List.length_flatMap]
  simp [length_leBytes]

/-- Bytes written over erased ones. -/
theorem zipWith_erased (bs : List Byte) : List.zipWith (fun (x y : Byte) => x &&& y) (List.replicate bs.length 0xFF#8) bs = bs := by
  induction bs with
  | nil => rfl
  | cons b bs ih =>
    rw [List.length_cons, List.replicate_succ, List.zipWith_cons_cons, ih]
    exact congrArg (· :: bs) (BitVec.allOnes_and (x := b))

/-- A permitted PROGRAM of an erased page. -/
theorem State.updProgram_spec {slot off : Nat} (hok : s.flashRefusal 2 s.faddr = 0) (hslot : flashSlot s.faddr = some (slot, off))
    (herased : ∀ i, i < 256 → s.flashNum (s.faddr + i) 1 = 0xFF) :
    s.flashed 2 slot (s.keyed.updProgram true) ∧
      (∀ j, j < 64 → (s.keyed.updProgram true).flashNum (s.faddr + 4 * j) 4 = (s.rd (UPD_BUF j)).toNat) ∧
      ∀ a, a < s.faddr ∨ s.faddr + 256 ≤ a → (s.keyed.updProgram true).flashNum a 1 = s.flashNum a 1 := by
  obtain ⟨hver, honly⟩ := s.keyed.setVer_spec slot false
  have hpage : (s.keyed.setVer slot false).flashBytes s.faddr 256 = List.replicate s.updBuf.length 0xFF#8 := by
    rw [State.flashBytes, hver, length_updBuf]
    refine (s.flashBytes_eq s.faddr 256).trans (List.eq_replicate_iff.2 ⟨by simp, fun b hb => ?_⟩)
    obtain ⟨i, hi, rfl⟩ := List.mem_map.1 hb
    exact BitVec.eq_of_toNat_eq ((State.flashNum_one _).symm.trans (herased i (List.mem_range.1 hi)))
  have hbuf : (s.keyed.setVer slot false).updBuf = s.updBuf := by
    rw [State.updBuf, State.updBuf]
    refine List.flatMap_congr fun j hj => ?_
    rw [honly.1 _ (by simp only [UPD_BUF, UPD_STAT, List.mem_singleton]; omega)]
    rfl
  have hdef : s.keyed.updProgram true =
      ((s.keyed.setVer slot false).flashPut s.faddr s.updBuf).updBusy 2 0 s.faddr ((List.range 256).map (s.faddr + ·)) := by
    rw [State.updProgram]
    generalize List.range 256 = l
    dsimp only
    rw [show s.keyed.faddr = s.faddr from rfl, show s.keyed.flashRefusal 2 s.faddr = s.flashRefusal 2 s.faddr from rfl, hok, hslot, if_neg (by simp)]
    dsimp only
    rw [hpage, hbuf, zipWith_erased, if_neg (by simp)]
    rfl
  obtain ⟨hspec, hfl⟩ := State.flashed_of (s := s) (u := (s.keyed.setVer slot false).flashPut s.faddr s.updBuf) 2 slot s.faddr
    ((List.range 256).map (s.faddr + ·)) _ (State.flashPut_eq _ _)
  rw [hdef]
  generalize ((s.keyed.setVer slot false).flashPut s.faddr s.updBuf).updBusy 2 0 s.faddr ((List.range 256).map (s.faddr + ·)) = t at hspec hfl ⊢
  have hflash : t.upd.flash = ((s.keyed.setVer slot false).flashPut s.faddr s.updBuf).upd.flash := hfl.trans (State.flash_flashPut _ _).symm
  refine ⟨hspec, fun j hj => ?_, fun a ha => ?_⟩
  · rw [State.flashNum_congr hflash, State.flashNum_put (by rw [length_updBuf]; omega), State.updBuf,
      flatMap_piece _ (fun i => length_leBytes 4 _) hj, ofLeBytes_leBytes, Nat.mod_eq_of_lt (s.rd (UPD_BUF j)).isLt]
  · rw [State.flashNum_congr hflash, State.flashNum_one, State.flashByte_put (by rw [length_updBuf]; exact ha), State.flashNum_one,
      State.flashByte, hver]
    rfl

/-- A refused ERASE, PROGRAM or READ. -/
theorem State.updErase_refused (good : Bool) (h : s.flashRefusal 1 s.faddr ≠ 0) :
    s.keyed.updErase good = s.keyed.updBusy 1 (s.flashRefusal 1 s.faddr) s.faddr [] := by
  rw [State.updErase]
  generalize List.range 0x10000 = l
  exact if_pos h

theorem State.updProgram_refused (good : Bool) (h : s.flashRefusal 2 s.faddr ≠ 0) :
    s.keyed.updProgram good = s.keyed.updBusy 2 (s.flashRefusal 2 s.faddr) s.faddr [] := by
  rw [State.updProgram]
  generalize List.range 256 = l
  exact if_pos h

theorem State.updRead_refused (h : s.flashRefusal 3 s.faddr ≠ 0) : s.keyed.updRead = s.keyed.updBusy 3 (s.flashRefusal 3 s.faddr) s.faddr [] := by
  rw [State.updRead]
  generalize List.range 64 = l
  exact if_pos h

/-! ### Rows of registers written in turn -/

/-- Words written one after the other stand in their registers. -/
theorem State.rd_each_wr {R : Nat → Nat} {v : Nat → Word} (hR : ∀ i j, R i = R j → i = j) (l : List Nat) (u : State) {i : Nat} (hi : i ∈ l) :
    (u.each l fun u j => u.wr (R j) (v j)).rd (R i) = v i := by
  induction l using List.reverseRecOn with
  | nil => simp at hi
  | append_singleton l k ih =>
    rw [State.each, List.foldl_append, List.foldl_cons, List.foldl_nil]
    by_cases hk : R k = R i
    · obtain rfl := hR _ _ hk
      exact State.rd_wr_same _ _ _
    · rw [State.rd_wr_ne _ _ (Ne.symm hk)]
      refine ih ?_
      obtain h | h := List.mem_append.1 hi
      · exact h
      · exact absurd (congrArg R (List.mem_singleton.1 h)).symm hk

/-- Words whose values the writes do not change. -/
theorem State.each_wr_eq {R : Nat → Nat} {F : State → Nat → Word} (l : List Nat)
    (hF : ∀ (u : State) w, ∀ i ∈ l, ∀ j ∈ l, F (u.wr (R j) w) i = F u i) (u : State) :
    (u.each l fun u i => u.wr (R i) (F u i)) = u.each l fun x i => x.wr (R i) (F u i) := by
  suffices h : ∀ m, (∀ i ∈ m, i ∈ l) → ∀ v : State, (∀ i ∈ m, F v i = F u i) →
      (v.each m fun u i => u.wr (R i) (F u i)) = v.each m fun x i => x.wr (R i) (F u i) from h l (fun _ hi => hi) u fun _ _ => rfl
  intro m
  induction m with
  | nil => intros; rfl
  | cons k m ih =>
    intro hm v hv
    rw [State.each, State.each, List.foldl_cons, List.foldl_cons, hv k (by simp)]
    exact ih (fun i hi => hm i (by simp [hi])) _ fun i hi => (hF v _ i (hm i (by simp [hi])) k (hm k (by simp))).trans (hv i (by simp [hi]))

theorem State.only_each_wr {R : Nat → Nat} {v : Nat → Word} (l : List Nat) (u : State) : u.only (l.map R) [] (u.each l fun u j => u.wr (R j) (v j)) :=
  (u.only_refl _ _).each fun t _ hi => (t.only_refl _ _).wr _ (List.mem_map_of_mem hi)

/-- A READ. -/
theorem State.updRead_spec (hok : s.flashRefusal 3 s.faddr = 0) : ∃ t, s.keyed.updRead = t ∧ t.get UPD_STAT_BUSY = 1 ∧
    t.upd = { s.upd with key := false, run := some ⟨3, 0, s.faddr, [], s.sys.t⟩ } ∧
    (∀ j, j < 64 → (t.rd (UPD_BUF j)).toNat = s.flashNum (s.faddr + 4 * j) 4) ∧ s.only (UPD_STAT :: (List.range 64).map UPD_BUF) [.upd] t := by
  have hdef : s.keyed.updRead = (s.keyed.each (List.range 64) fun u j => u.wr (UPD_BUF j) (BitVec.ofNat 32 (s.flashNum (s.faddr + 4 * j) 4))).updBusy 3 0 s.faddr [] := by
    rw [State.updRead]
    generalize List.range 64 = l
    rw [show s.keyed.faddr = s.faddr from rfl, show s.keyed.flashRefusal 3 s.faddr = s.flashRefusal 3 s.faddr from rfl, hok, if_neg (by simp),
      State.each_wr_eq (R := UPD_BUF) (F := fun u j => BitVec.ofNat 32 (u.flashNum (s.faddr + 4 * j) 4)) l fun _ _ _ _ _ _ => rfl]
    rfl
  have hrd (j : Nat) (hj : j < 64) := State.rd_each_wr (R := UPD_BUF) (v := fun j => BitVec.ofNat 32 (s.flashNum (s.faddr + 4 * j) 4))
    (fun i j h => by simp only [UPD_BUF] at h; omega) (List.range 64) s.keyed (List.mem_range.2 hj)
  have hrow := State.only_each_wr (R := UPD_BUF) (v := fun j => BitVec.ofNat 32 (s.flashNum (s.faddr + 4 * j) 4)) (List.range 64) s.keyed
  rw [hdef]
  generalize s.keyed.each (List.range 64) _ = w at hrd hrow ⊢
  obtain ⟨hb, hu, ho⟩ := w.updBusy_spec 3 0 s.faddr []
  refine ⟨_, rfl, hb, ?_, fun j hj => ?_, (((s.only_keyed.mono (by simp) (by simp)).trans (hrow.mono (by simp) (by simp))).trans (ho.mono (by simp) (by simp)))⟩
  · rw [hu, show w.upd = s.keyed.upd from hrow.2 .upd (by simp), show w.sys = s.keyed.sys from hrow.2 .sys (by simp)]
    rfl
  · have hlt : s.flashNum (s.faddr + 4 * j) 4 < 2 ^ 32 := s.flashNum_lt _ 4
    rw [ho.1 _ (by simp only [UPD_BUF, UPD_STAT, List.mem_singleton]; omega), hrd j hj, BitVec.toNat_ofNat, Nat.mod_eq_of_lt hlt]

/-! ### VERIFY, DISARM, CONFIRM, MAC, the OTP commands and DIR_INIT (R484 to R492) -/

/-- A VERIFY with the outcome of its check. -/
theorem State.updVerify_spec (slot : Nat) : ∃ t, s.keyed.updVerify slot = t ∧ t.get UPD_STAT_BUSY = 1 ∧
    t.upd.run = some ⟨4, s.imageCheck slot true, 0, [], s.sys.t⟩ ∧ (s.imageCheck slot true ≠ 0 → t.upd.ver = s.upd.ver) ∧
    (s.imageCheck slot true = 0 → t.upd.ver.testBit slot = true) ∧ t.upd.flash = s.upd.flash ∧ s.only [UPD_STAT] [.upd] t := by
  have hdef : s.keyed.updVerify slot =
      (if s.imageCheck slot true = 0 then s.keyed.setVer slot true else s.keyed).updBusy 4 (s.imageCheck slot true) 0 [] := rfl
  rw [hdef]
  by_cases hc : s.imageCheck slot true = 0
  · obtain ⟨hver, honly⟩ := s.keyed.setVer_spec slot true
    rw [if_pos hc]
    generalize s.keyed.setVer slot true = v at hver honly ⊢
    obtain ⟨hb, hu, ho⟩ := v.updBusy_spec 4 (s.imageCheck slot true) 0 []
    refine ⟨_, rfl, hb, ?_, fun h => absurd hc h, fun _ => ?_, ?_, ((s.only_keyed.mono (by simp) (by simp)).trans honly).trans ho⟩
    · rw [hu, show v.sys = s.keyed.sys from honly.2 .sys (by simp)]
      rfl
    · rw [hu]
      exact (congrArg (fun x : UpdSt => x.ver.testBit slot) hver).trans (testBit_setBitTo _ _ _)
    · have hkeep : (v.updBusy 4 (s.imageCheck slot true) 0 []).upd.flash = v.upd.flash := by rw [hu]
      have hfl : v.upd.flash = s.upd.flash := by rw [hver]; rfl
      exact hkeep.trans hfl
  · rw [if_neg hc]
    obtain ⟨hb, hu, ho⟩ := s.updPlain 4 (s.imageCheck slot true) 0
    exact ⟨_, rfl, hb, by rw [hu], fun _ => by rw [hu], fun h => absurd h hc, by rw [hu], ho⟩

/-- Bytes of the flash left at free values, and nothing else. -/
theorem State.flashTear_spec (l : List Nat) : ∃ fl n, s.flashTear l = { s with upd := { s.upd with flash := fl, draws := n } } ∧
    ∀ a, a ∉ l → (s.flashTear l).flashByte a = s.flashByte a := by
  have heach (l : List Nat) (n : Nat) : ∃ fl, (s.each l fun s a => s.flashPut a [Config.flashTorn a s.upd.draws]) = s.withFlash fl ∧
      ∀ a, a ∉ l → Tab.get flashDefault fl a = s.flashByte a := by
    induction l using List.reverseRecOn with
    | nil => exact ⟨s.upd.flash, rfl, fun _ _ => rfl⟩
    | append_singleton l k ih =>
      obtain ⟨fl, hfl, hkeep⟩ := ih
      refine ⟨Tab.setList flashDefault fl k [Config.flashTorn k s.upd.draws], ?_, fun a ha => ?_⟩
      · rw [State.each, List.foldl_append, List.foldl_cons, List.foldl_nil, ← State.each, hfl]
        rfl
      · simp only [List.mem_append, List.mem_singleton, not_or] at ha
        rw [Tab.get_setList_out _ _ _ _ _ (by simp only [List.length_singleton]; omega)]
        exact hkeep a ha.1
  obtain ⟨fl, hfl, hkeep⟩ := heach l 0
  have hdef : s.flashTear l = { s with upd := { s.upd with flash := fl, draws := s.upd.draws + 1 } } := by
    rw [State.flashTear, hfl]
    rfl
  exact ⟨fl, _, hdef, fun a ha => by rw [hdef]; exact hkeep a ha⟩

/-- A DISARM whose flash write fails leaves the chosen copy. -/
theorem State.updDisarm_fails : ∃ t, s.keyed.updDisarm false = t ∧ t.get UPD_STAT_BUSY = 1 ∧
    (t.upd.run.map fun r => (r.op, r.code)) = some (6, 0x14) ∧ t.dirCopy s.dirBase.1 = s.dirCopy s.dirBase.1 ∧ s.only [UPD_STAT] [.upd] t := by
  have hk := (State.dirBase_fits (s := s)).1
  have hdef : s.keyed.updDisarm false = (s.keyed.flashTear (dirArea (1 - s.dirBase.1))).updBusy 6 0x14 (0x1000 * (1 - s.dirBase.1)) (dirArea (1 - s.dirBase.1)) := by
    rw [State.updDisarm, State.updDir, show s.keyed.dirBase = s.dirBase from rfl, State.updWrite]
    exact if_neg (by simp)
  obtain ⟨fl, n, hfl, hkeep⟩ := s.keyed.flashTear_spec (dirArea (1 - s.dirBase.1))
  have honly : s.only [UPD_STAT] [.upd] (s.keyed.flashTear (dirArea (1 - s.dirBase.1))) := by
    rw [hfl]
    exact (s.only_keyed.mono (by simp) (by simp)).with_upd _ (by simp)
  rw [hdef]
  generalize s.keyed.flashTear (dirArea (1 - s.dirBase.1)) = w at hkeep honly ⊢
  obtain ⟨hb, hu, ho⟩ := w.updBusy_spec 6 0x14 (0x1000 * (1 - s.dirBase.1)) (dirArea (1 - s.dirBase.1))
  refine ⟨_, rfl, hb, by rw [hu]; rfl, State.dirCopy_congr fun x h1 h2 => ?_, honly.trans ho⟩
  have hflash := congrArg UpdSt.flash hu
  refine (congrArg (Tab.get flashDefault · x) hflash).trans (hkeep x fun hx => ?_)
  obtain ⟨i, hi, rfl⟩ := List.mem_map.1 hx
  have := List.mem_range.1 hi
  omega

/-- A MAC over bytes of the store. -/
theorem State.updMac_spec {n a : Nat} (hn : s.get UPD_MLEN_BYTES = n) (ha : s.get UPD_MSRC_ADDR = a) (h8 : 8 ≤ n) (hmax : n ≤ 1048576)
    (hal : a % 8 = 0) (hlo : storeBase ≤ a) (hhi : a + n ≤ storeBase + storeSize) : ∃ t, s.keyed.updMac = t ∧ t.get UPD_STAT_BUSY = 1 ∧
    t.upd = { s.upd with key := false, run := some ⟨9, 0, 0, [], s.sys.t⟩ } ∧
    (∀ i, i < 8 → t.rd (UPD_TAG i) =
      BitVec.ofNat 32 ((Config.deviceTag ((List.range n).map fun k => s.byte (a - storeBase + k))).toNat / 2 ^ (32 * i))) ∧
    s.only (UPD_STAT :: (List.range 8).map UPD_TAG) [.upd] t := by
  have hbytes : Tab.getList memDefault s.mem (a - storeBase) n = (List.range n).map fun k => s.byte (a - storeBase + k) := Tab.getList_eq_map ..
  have hdef : s.keyed.updMac = (s.keyed.each (List.range 8) fun u i => u.wr (UPD_TAG i)
      (BitVec.ofNat 32 ((Config.deviceTag ((List.range n).map fun k => s.byte (a - storeBase + k))).toNat / 2 ^ (32 * i)))).updBusy 9 0 0 [] := by
    rw [State.updMac, ← hbytes]
    generalize List.range 8 = l
    dsimp only
    rw [show s.keyed.get UPD_MLEN_BYTES = n from hn, show s.keyed.get UPD_MSRC_ADDR = a from ha, if_neg (by omega)]
    rfl
  generalize Config.deviceTag _ = tag at hdef ⊢
  have hrd (j : Nat) (hj : j < 8) := State.rd_each_wr (R := UPD_TAG) (v := fun i => BitVec.ofNat 32 (tag.toNat / 2 ^ (32 * i)))
    (fun i j h => by simp only [UPD_TAG] at h; omega) (List.range 8) s.keyed (List.mem_range.2 hj)
  have hrow := State.only_each_wr (R := UPD_TAG) (v := fun i => BitVec.ofNat 32 (tag.toNat / 2 ^ (32 * i))) (List.range 8) s.keyed
  rw [hdef]
  generalize s.keyed.each (List.range 8) _ = w at hrd hrow ⊢
  obtain ⟨hb, hu, ho⟩ := w.updBusy_spec 9 0 0 []
  refine ⟨_, rfl, hb, ?_, fun j hj => ?_, (((s.only_keyed.mono (by simp) (by simp)).trans (hrow.mono (by simp) (by simp))).trans (ho.mono (by simp) (by simp)))⟩
  · rw [hu, show w.upd = s.keyed.upd from hrow.2 .upd (by simp), show w.sys = s.keyed.sys from hrow.2 .sys (by simp)]
    rfl
  · rw [ho.1 _ (by simp only [UPD_TAG, UPD_STAT, List.mem_singleton]; omega), hrd j hj]

theorem UPD_OTP_STAT_KEY_fits (k : Fin 4) : (UPD_OTP_STAT_KEY k.val).fits = true := by
  revert k
  decide

/-- An OTP_PROG that is allowed. -/
theorem State.updOtpProg_spec (k : Fin 4) (hmode : s.get MPC_MODE_CUR = 5) (hkey : s.get (UPD_OTP_STAT_KEY k.val) = 0) :
    ∃ t, s.keyed.updOtpProg k.val true = t ∧ t.get (UPD_OTP_STAT_KEY k.val) = 1 ∧ (∀ i, i < 8 → t.rd (UPD_KHASH k.val i) = s.rd (UPD_HASH i)) ∧
      t.get UPD_STAT_BUSY = 1 ∧ t.upd = { s.upd with key := false, run := some ⟨10, 0, 0, [], s.sys.t⟩ } ∧
      s.only (UPD_STAT :: UPD_OTP_STAT :: (List.range 8).map (UPD_KHASH k.val)) [.upd] t := by
  have hk := k.isLt
  have hdef : s.keyed.updOtpProg k.val true = ((s.keyed.each (List.range 8) fun u i => u.wr (UPD_KHASH k.val i) (s.rd (UPD_HASH i))).put
      (UPD_OTP_STAT_KEY k.val) 1).updBusy 10 0 0 [] := by
    rw [State.updOtpProg]
    have hrow : ∀ i ∈ List.range 8, i < 8 := fun i hi => List.mem_range.1 hi
    generalize List.range 8 = l at hrow
    rw [show s.keyed.get MPC_MODE_CUR = 5 from hmode, show s.keyed.get (UPD_OTP_STAT_KEY k.val) = 0 from hkey, if_neg (by simp), if_neg (by simp)]
    simp only [State.copy]
    rw [State.each_wr_eq (R := UPD_KHASH k.val) (F := fun u i => u.rd (UPD_HASH i)) l fun u w i hi j hj => State.rd_wr_ne _ _ (by
      have := hrow i hi
      have := hrow j hj
      simp only [UPD_HASH, UPD_KHASH]
      omega)]
    rfl
  have hrd (j : Nat) (hj : j < 8) := State.rd_each_wr (R := UPD_KHASH k.val) (v := fun i => s.rd (UPD_HASH i))
    (fun i j h => by simp only [UPD_KHASH] at h; omega) (List.range 8) s.keyed (List.mem_range.2 hj)
  have hrow := State.only_each_wr (R := UPD_KHASH k.val) (v := fun i => s.rd (UPD_HASH i)) (List.range 8) s.keyed
  rw [hdef]
  generalize s.keyed.each (List.range 8) _ = w at hrd hrow ⊢
  have hput : w.only [UPD_OTP_STAT] [] (w.put (UPD_OTP_STAT_KEY k.val) 1) := (w.only_refl _ _).put _ (by simp [UPD_OTP_STAT_KEY])
  have hself : (w.put (UPD_OTP_STAT_KEY k.val) 1).get (UPD_OTP_STAT_KEY k.val) = 1 := State.get_put_self _ (UPD_OTP_STAT_KEY_fits k) (by simp [UPD_OTP_STAT_KEY])
  generalize w.put (UPD_OTP_STAT_KEY k.val) 1 = x at hput hself ⊢
  obtain ⟨hb, hu, ho⟩ := x.updBusy_spec 10 0 0 []
  have hx : s.keyed.only (UPD_OTP_STAT :: (List.range 8).map (UPD_KHASH k.val)) [] x := (hrow.mono (by simp) (by simp)).trans (hput.mono (by simp) (by simp))
  refine ⟨_, rfl, ?_, fun j hj => ?_, hb, ?_, (((s.only_keyed.mono (by simp) (by simp)).trans (hx.mono (by simp) (by simp))).trans (ho.mono (by simp) (by simp)))⟩
  · rw [ho.get_eq (by simp [UPD_OTP_STAT_KEY, UPD_OTP_STAT, UPD_STAT])]
    exact hself
  · rw [ho.1 _ (by simp only [UPD_KHASH, UPD_STAT, List.mem_singleton]; omega), hput.1 _ (by simp only [UPD_KHASH, UPD_OTP_STAT, List.mem_singleton]; omega), hrd j hj]
  · rw [hu, show x.upd = s.keyed.upd from hx.2 .upd (by simp), show x.sys = s.keyed.sys from hx.2 .sys (by simp)]
    rfl

/-- One register written, and the command under way. -/
theorem State.putBusy_spec {f : Fld} {v : Nat} (hf : f.fits = true) (hv : v < 2 ^ f.w) (ha : f.apart UPD_STAT_BUSY = true) (op code : Nat) :
    ∃ t, (s.keyed.put f v).updBusy op code 0 [] = t ∧ t.get f = v ∧ t.get UPD_STAT_BUSY = 1 ∧
      t.upd = { s.upd with key := false, run := some ⟨op, code, 0, [], s.sys.t⟩ } ∧ s.only [UPD_STAT, f.off] [.upd] t := by
  have hput : s.keyed.only [f.off] [] (s.keyed.put f v) := (s.keyed.only_refl _ _).put _ (by simp)
  have hself : (s.keyed.put f v).get f = v := State.get_put_self _ hf hv
  generalize s.keyed.put f v = x at hput hself ⊢
  obtain ⟨hb, hu, ho⟩ := x.updBusy_spec op code 0 []
  refine ⟨_, rfl, ?_, hb, ?_, ((s.only_keyed.mono (by simp) (by simp)).trans (hput.mono (by simp) (by simp))).trans (ho.mono (by simp) (by simp))⟩
  · exact (State.get_put_apart _ _ ha).trans hself
  · rw [hu, show x.upd = s.keyed.upd from hput.2 .upd (by simp), show x.sys = s.keyed.sys from hput.2 .sys (by simp)]
    rfl

/-- A DIR_INIT in recovery from a valid copy. -/
theorem State.updDirInit_spec (slot : Fin 2) {k : Nat} {d : Dir} (hrec : s.on UPD_STAT_RECOVERY = true) (hch : s.dirChosen = some (k, d)) :
    ∃ t, s.keyed.updDirInit slot.val true = t ∧ t.get UPD_STAT_BUSY = 1 ∧
      t.dirCopy 0 = some ⟨(d.seq + 1) % 2 ^ 32, slot.val, 0, Config.dirCand.val⟩ ∧ t.dirCopy 1 = t.dirCopy 0 ∧
      (∀ a, 0x2000 ≤ a → t.flashNum a 1 = s.flashNum a 1) ∧ s.only [UPD_STAT] [.upd] t := by
  have hslot := slot.isLt
  have hcand := Config.dirCand.isLt
  have hdef : s.keyed.updDirInit slot.val true = (((s.keyed.flashErased fun x => decide (x < 0x2000)).flashPut 0
      (Dir.bytes ⟨(d.seq + 1) % 2 ^ 32, slot.val, 0, Config.dirCand.val⟩)).flashPut 0x1000
      (Dir.bytes ⟨(d.seq + 1) % 2 ^ 32, slot.val, 0, Config.dirCand.val⟩)).updBusy 13 0 0 (dirArea 0 ++ dirArea 1) := by
    rw [State.updDirInit, show s.keyed.on UPD_STAT_RECOVERY = true from hrec, show s.keyed.dirChosen = some (k, d) from hch]
    rfl
  generalize hd : (⟨(d.seq + 1) % 2 ^ 32, slot.val, 0, Config.dirCand.val⟩ : Dir) = e at hdef ⊢
  have hfit : e.Fits := by
    rw [← hd]
    exact ⟨Nat.mod_lt _ (by decide), by show slot.val ≤ 1; omega, Nat.zero_le _, by show Config.dirCand.val ≤ 1; omega⟩
  have hlen := length_dirBytes e
  have herased (a : Nat) (ha : 0x2000 ≤ a) : (s.keyed.flashErased fun x => decide (x < 0x2000)).flashByte a = s.flashByte a := by
    rw [State.flashByte_erased, if_neg (by simp; omega)]
    rfl
  have hone : s.keyed.only [] [.upd] (s.keyed.flashErased fun x => decide (x < 0x2000)) := s.keyed.only_with_upd _
  rw [hdef]
  generalize (s.keyed.flashErased fun x => decide (x < 0x2000)) = v at herased hone ⊢
  have hfirst := v.flashBytes_put 0 e.bytes
  have hput (x : Nat) (hx : 64 ≤ x) : (v.flashPut 0 e.bytes).flashByte x = v.flashByte x := State.flashByte_put (by omega)
  have hv : v.only [] [.upd] (v.flashPut 0 e.bytes) := v.only_with_upd _
  generalize v.flashPut 0 e.bytes = w at hfirst hput hv ⊢
  have hsecond := w.flashBytes_put 0x1000 e.bytes
  have hput2 (x : Nat) (hx : x < 0x1000 ∨ 0x1040 ≤ x) : (w.flashPut 0x1000 e.bytes).flashByte x = w.flashByte x := State.flashByte_put (by omega)
  have hw : w.only [] [.upd] (w.flashPut 0x1000 e.bytes) := w.only_with_upd _
  generalize w.flashPut 0x1000 e.bytes = x at hsecond hput2 hw ⊢
  rw [hlen] at hfirst hsecond
  obtain ⟨hb, hu, ho⟩ := x.updBusy_spec 13 0 0 (dirArea 0 ++ dirArea 1)
  have hflash : (x.updBusy 13 0 0 (dirArea 0 ++ dirArea 1)).upd.flash = x.upd.flash := by rw [hu]
  have h0 : x.dirCopy 0 = some e := (State.dirCopy_congr fun y _ hy => hput2 y (by omega)).trans (State.dirCopy_of_bytes hfit hfirst)
  have h1 : x.dirCopy 1 = some e := State.dirCopy_of_bytes hfit hsecond
  have hcopy (j : Nat) : (x.updBusy 13 0 0 (dirArea 0 ++ dirArea 1)).dirCopy j = x.dirCopy j :=
    State.dirCopy_congr fun y _ _ => congrArg (Tab.get flashDefault · y) hflash
  refine ⟨_, rfl, hb, (hcopy 0).trans h0, by rw [hcopy, hcopy, h0, h1], fun a ha => ?_,
    ((((s.only_keyed.trans hone).trans hv).trans hw).mono (by simp) (by simp)).trans ho⟩
  rw [State.flashNum_congr hflash, State.flashNum_one, hput2 a (by omega), hput a (by omega), herased a ha, State.flashNum_one]

/-! ### The end of a command (R487 to R492) -/

/-- The state in which a command no longer runs. -/
def State.stopped (s : State) : State := { s with upd := { s.upd with run := none } }

theorem State.only_stopped : s.only [] [.upd] s.stopped := s.only_with_upd _

/-- What the end of a command shows, its reports aside. -/
def State.resulted (s : State) (op code : Nat) : State :=
  (((s.put UPD_STAT_BUSY 0).put UPD_RES_CODE code).put UPD_RES_OP op).put UPD_EVT_DONE 1

theorem State.resulted_spec {op code : Nat} (hc : code < 256) : (s.resulted op code).get UPD_STAT_BUSY = 0 ∧
    (s.resulted op code).get UPD_RES_CODE = code ∧ (op < 16 → (s.resulted op code).get UPD_RES_OP = op) ∧ (s.resulted op code).get UPD_EVT_DONE = 1 ∧
    s.only [UPD_STAT, UPD_RES, UPD_EVT] [] (s.resulted op code) := by
  refine ⟨?_, ?_, fun hop => ?_, State.get_put_self _ rfl (by decide), ?_⟩
  · rw [State.resulted, State.get_put_apart _ _ (by decide), State.get_put_apart _ _ (by decide), State.get_put_apart _ _ (by decide),
      State.get_put_self _ rfl (by decide)]
  · rw [State.resulted, State.get_put_apart _ _ (by decide), State.get_put_apart _ _ (by decide), State.get_put_self _ rfl hc]
  · rw [State.resulted, State.get_put_apart _ _ (by decide), State.get_put_self _ rfl hop]
  · exact ((((s.only_refl _ _).put _ (by decide)).put _ (by decide)).put _ (by decide)).put _ (by decide)

theorem exec_updEnd {r : UpdRun} (hr : s.inReset 0x16 = false) (hrun : s.upd.run = some r) :
    exec .updCommandEnd s = .next (s.updEnd r r.code) := by
  have hexec : exec .updCommandEnd s = execUpdCommandEnd s := rfl
  rw [hexec, execUpdCommandEnd, if_neg (by simp [hr]), hrun]

/-- A command ends well. -/
theorem State.updEnd_done (r : UpdRun) : s.updEnd r 0 = (s.stopped.updAfter r 0).resulted r.op 0 := by
  rw [State.updEnd, if_pos rfl]
  rfl

/-- A command ends with a refusal. -/
theorem State.updEnd_refused (r : UpdRun) {code : Nat} (h0 : code ≠ 0) (h14 : code ≠ 0x14) :
    s.updEnd r code = ((((s.stopped.updAfter r code).resulted r.op code).put UPD_EVT_REFUSED 1).fault 0x16 0x70 code) := by
  rw [State.updEnd, if_neg h0, if_neg h14]
  rfl

/-- After an ACTIVATE the boot state names the slot (R491). -/
theorem State.activate_spec (slot : Nat) (h : slot ≤ 1) : (s.activate slot).get UPD_BOOT_STATE = 1 ∧ (s.activate slot).get UPD_BOOT_SLOT = slot ∧
    (s.activate slot).upd = { s.upd with act := true } ∧ s.only [UPD_BOOT] [.upd] (s.activate slot) := by
  refine ⟨?_, ?_, rfl, (((s.only_refl _ _).put _ (by decide)).put _ (by decide)).with_upd _ (by simp)⟩
  · show ((s.put UPD_BOOT_STATE 1).put UPD_BOOT_SLOT slot).get UPD_BOOT_STATE = 1
    rw [State.get_put_apart _ _ (by decide), State.get_put_self _ rfl (by decide)]
  · show ((s.put UPD_BOOT_STATE 1).put UPD_BOOT_SLOT slot).get UPD_BOOT_SLOT = slot
    exact State.get_put_self _ rfl (by show slot < 2; omega)

/-- A CONFIRM that has succeeded ends the trial (R492). -/
def State.confirmed (s : State) : State :=
  let s1 := ((s.put UPD_BOOT_STATE 0).put UPD_STAT_TRIAL 0).put UPD_EVT_CONFIRMED 1
  { s1 with upd := { s1.upd with trial := none } }

theorem State.confirmed_spec : s.confirmed.get UPD_STAT_TRIAL = 0 ∧ s.confirmed.get UPD_BOOT_STATE = 0 ∧ s.confirmed.get UPD_EVT_CONFIRMED = 1 ∧
    s.confirmed.upd = { s.upd with trial := none } ∧ s.only [UPD_STAT, UPD_EVT, UPD_BOOT] [.upd] s.confirmed := by
  refine ⟨?_, ?_, ?_, rfl, ((((s.only_refl _ _).put _ (by decide)).put _ (by decide)).put _ (by decide)).with_upd _ (by simp)⟩
  · show (((s.put UPD_BOOT_STATE 0).put UPD_STAT_TRIAL 0).put UPD_EVT_CONFIRMED 1).get UPD_STAT_TRIAL = 0
    rw [State.get_put_apart _ _ (by decide), State.get_put_self _ rfl (by decide)]
  · show (((s.put UPD_BOOT_STATE 0).put UPD_STAT_TRIAL 0).put UPD_EVT_CONFIRMED 1).get UPD_BOOT_STATE = 0
    rw [State.get_put_apart _ _ (by decide), State.get_put_apart _ _ (by decide), State.get_put_self _ rfl (by decide)]
  · exact State.get_put_self _ rfl (by decide)

/-- What a refused command does to the trial (R492). -/
theorem State.updAfter_refused (r : UpdRun) {code : Nat} (h0 : code ≠ 0) : (s.stopped.updAfter r code).upd =
      { s.upd with run := none, trial := if r.op = 8 then s.upd.trial.map fun u => u + (s.sys.t - r.at_) else s.upd.trial } ∧
    s.only [] [.upd] (s.stopped.updAfter r code) := by
  rw [State.updAfter, if_neg (by simp [h0])]
  by_cases h8 : r.op = 8
  · rw [if_neg (by simp [h8]), if_neg h0, if_pos h8]
    exact ⟨rfl, s.only_stopped.with_upd _ (by simp)⟩
  · rw [if_pos h8, if_neg h8]
    exact ⟨rfl, s.only_stopped⟩

end

/-- Settles O48: each command, its refusals, and the end of a command. -/
theorem updateCommands : Obligations.UpdateCommands := by
  unfold Obligations.UpdateCommands
  have hdark {s : State} (ho : s.open_ 0x16 = true) : s.dark = false := State.dark_of_runs (by decide) (State.open_parts ho).1
  refine ⟨?_, ?_, ?_, ?_, ?_, ?_, ?_, ?_, ?_, ?_, ?_, ?_, ?_, ?_, ?_, ?_, ?_, ?_, ?_, ?_, ?_, ?_, ?_, ?_, ?_, ?_, ?_, ?_⟩
  · intro c good slot k s ho hb hc
    refine ⟨s.keyed.put UPD_STAT_REJ 1, ?_, State.get_put_self _ rfl (by decide), State.put_upd _ _ _,
      (s.only_keyed.mono (by simp) (by simp)).put _ (by decide)⟩
    simp only [List.mem_cons, List.not_mem_nil, or_false] at hc
    obtain rfl | rfl | rfl | rfl | rfl | rfl | rfl | rfl | rfl | rfl | rfl | rfl | rfl := hc
    · exact exec_updBusy (G := fun _ u => u.updErase good) rfl (hdark ho) ho hb
    · exact exec_updBusy (G := fun _ u => u.updProgram good) rfl (hdark ho) ho hb
    · exact exec_updBusy (G := fun _ => State.updRead) rfl (hdark ho) ho hb
    · exact exec_updBusy (G := fun _ u => u.updVerify slot.val) rfl (hdark ho) ho hb
    · exact exec_updBusy (G := fun _ u => u.updArm slot.val good) rfl (hdark ho) ho hb
    · exact exec_updBusy (G := fun _ u => u.updDisarm good) rfl (hdark ho) ho hb
    · exact exec_updBusy (G := fun _ u => u.updActivate slot.val good) rfl (hdark ho) ho hb
    · exact exec_updBusy (G := fun _ u => u.updConfirm good) rfl (hdark ho) ho hb
    · exact exec_updBusy (G := fun _ => State.updMac) rfl (hdark ho) ho hb
    · exact exec_updBusy (G := fun v u => u.updOtpProg k.val v.upd.key) rfl (hdark ho) ho hb
    · exact exec_updBusy (G := fun v u => u.updOtpRevoke k.val v.upd.key) rfl (hdark ho) ho hb
    · exact exec_updBusy (G := fun _ => State.updCheckIsl) rfl (hdark ho) ho hb
    · exact exec_updBusy (G := fun _ u => u.updDirInit slot.val good) rfl (hdark ho) ho hb
  · intro op c good s ho hb hc href
    refine ⟨s.keyed.updBusy op (s.flashRefusal op s.faddr) s.faddr [], ?_, s.updPlain _ _ _⟩
    obtain ⟨rfl, rfl⟩ | ⟨rfl, rfl⟩ | ⟨rfl, rfl⟩ := hc
    · exact (exec_updIdle (G := fun _ u => u.updErase good) rfl (hdark ho) ho hb).trans (congrArg Host.Outcome.next (State.updErase_refused good href))
    · exact (exec_updIdle (G := fun _ u => u.updProgram good) rfl (hdark ho) ho hb).trans (congrArg Host.Outcome.next (State.updProgram_refused good href))
    · exact (exec_updIdle (G := fun _ => State.updRead) rfl (hdark ho) ho hb).trans (congrArg Host.Outcome.next (State.updRead_refused href))
  · intro slot off s ho hb hok hslot
    obtain ⟨⟨hbusy, hver, hrun, honly⟩, hflash⟩ := State.updErase_spec hok hslot
    exact ⟨_, exec_updIdle (G := fun _ u => u.updErase true) rfl (hdark ho) ho hb, hbusy, hver, hrun, hflash, honly⟩
  · intro slot off s ho hb hok hslot herased
    obtain ⟨⟨hbusy, hver, hrun, honly⟩, hwords, hflash⟩ := State.updProgram_spec hok hslot herased
    exact ⟨_, exec_updIdle (G := fun _ u => u.updProgram true) rfl (hdark ho) ho hb, hbusy, hver, hrun, hwords, hflash, honly⟩
  · intro s ho hb hok
    obtain ⟨t, rfl, hspec⟩ := State.updRead_spec hok
    exact ⟨_, exec_updIdle (G := fun _ => State.updRead) rfl (hdark ho) ho hb, hspec⟩
  · intro slot s ho hb
    obtain ⟨t, rfl, hspec⟩ := s.updVerify_spec slot.val
    exact ⟨_, exec_updIdle (G := fun _ u => u.updVerify slot.val) rfl (hdark ho) ho hb, hspec⟩
  · intro slot s ho hb hmagic
    obtain ⟨t, rfl, -, hrun, hver, -, -, honly⟩ := s.updVerify_spec slot.val
    have hcheck : s.imageCheck slot.val true = 0x01 := by
      rw [State.imageCheck]
      exact if_pos (by rw [State.hdr, Nat.add_zero]; exact hmagic)
    rw [hcheck] at hrun hver
    exact ⟨_, exec_updIdle (G := fun _ u => u.updVerify slot.val) rfl (hdark ho) ho hb, hrun, hver (by decide), honly⟩
  · intro slot c op good s ho hb hver hc
    refine ⟨s.keyed.updBusy op 0x12 0 [], ?_, s.updPlain _ _ _⟩
    obtain ⟨rfl, rfl⟩ | ⟨rfl, rfl⟩ := hc
    · exact (exec_updIdle (G := fun _ u => u.updArm slot.val good) rfl (hdark ho) ho hb).trans
        (congrArg Host.Outcome.next (if_pos (by simpa [State.keyed] using hver)))
    · exact (exec_updIdle (G := fun _ u => u.updActivate slot.val good) rfl (hdark ho) ho hb).trans
        (congrArg Host.Outcome.next (if_pos (by simpa [State.keyed] using hver)))
  · intro slot s ho hb hver
    obtain ⟨-, hfit⟩ := State.dirBase_fits (s := s)
    obtain ⟨t, ht, hbusy, hrun, -, hcopy, hflash, honly⟩ := s.updDir_spec 5 (fun d => { d with state := 1, cand := slot.val })
      ⟨Nat.mod_lt _ (by decide), hfit.active, le_refl 1, by have := slot.isLt; show slot.val ≤ 1; omega⟩
    refine ⟨t, (exec_updIdle (G := fun _ u => u.updArm slot.val true) rfl (hdark ho) ho hb).trans (congrArg Host.Outcome.next ?_), hbusy, ?_, hcopy,
      hflash, honly⟩
    · exact (if_neg (by simpa [State.keyed] using hver)).trans ht
    · exact run_of_timed hrun
  · intro s ho hb
    obtain ⟨-, hfit⟩ := State.dirBase_fits (s := s)
    obtain ⟨t, ht, hbusy, hrun, -, hcopy, -, honly⟩ := s.updDir_spec 6 (fun d => { d with state := 0 })
      ⟨Nat.mod_lt _ (by decide), hfit.active, Nat.zero_le _, hfit.cand⟩
    refine ⟨t, (exec_updIdle (G := fun _ u => u.updDisarm true) rfl (hdark ho) ho hb).trans (congrArg Host.Outcome.next ht), hbusy, run_of_timed hrun, hcopy, honly⟩
  · intro s ho hb
    obtain ⟨t, rfl, hspec⟩ := State.updDisarm_fails (s := s)
    exact ⟨_, exec_updIdle (G := fun _ u => u.updDisarm false) rfl (hdark ho) ho hb, hspec⟩
  · intro slot good s ho hb hver harm
    refine ⟨s.keyed.updBusy 7 0 0 [], ?_, s.updPlain _ _ _⟩
    exact (exec_updIdle (G := fun _ u => u.updActivate slot.val good) rfl (hdark ho) ho hb).trans
      (congrArg Host.Outcome.next ((if_neg (by simpa [State.keyed] using hver)).trans (if_pos harm)))
  · intro good s ho hb htrial
    refine ⟨s.keyed.updBusy 8 0x15 0 [], ?_, s.updPlain _ _ _⟩
    exact (exec_updIdle (G := fun _ u => u.updConfirm good) rfl (hdark ho) ho hb).trans
      (congrArg Host.Outcome.next (if_pos (congrArg (!·) htrial)))
  · intro k d s ho hb htrial hch
    have hbase : s.dirBase = (k, d) := by rw [State.dirBase, hch]
    have hfit := State.dirCopy_fits (State.dirChosen_copy hch).2
    have hspec := s.updDir_spec 8 (fun e => { e with active := d.cand, state := 0 })
      ⟨Nat.mod_lt _ (by decide), hfit.cand, Nat.zero_le _, by rw [hbase]; exact hfit.cand⟩
    rw [hbase] at hspec
    obtain ⟨t, ht, hbusy, hrun, htr, hcopy, -, honly⟩ := hspec
    refine ⟨t, (exec_updIdle (G := fun _ u => u.updConfirm true) rfl (hdark ho) ho hb).trans (congrArg Host.Outcome.next ?_), hbusy, hrun, htr, hcopy, honly⟩
    have hgo : s.keyed.updConfirm true = s.keyed.updDir 8 true fun e => { e with active := d.cand, state := 0 } := by
      have hch' : s.keyed.dirChosen = some (k, d) := hch
      rw [State.updConfirm, if_neg (by rw [show s.keyed.on UPD_STAT_TRIAL = true from htrial]; simp), hch']
    exact hgo.trans ht
  · intro n a s ho hb hn ha h8 hmax hal hlo hhi
    obtain ⟨t, rfl, hspec⟩ := State.updMac_spec hn ha h8 hmax hal hlo hhi
    exact ⟨_, exec_updIdle (G := fun _ => State.updMac) rfl (hdark ho) ho hb, hspec⟩
  · intro s ho hb hn
    refine ⟨s.keyed.updBusy 9 0x11 0 [], ?_, s.updPlain _ _ _⟩
    exact (exec_updIdle (G := fun _ => State.updMac) rfl (hdark ho) ho hb).trans (congrArg Host.Outcome.next (if_pos (.inl hn)))
  · intro k c op s ho hb hlock hc
    have hno : s.keyed.get MPC_MODE_CUR ≠ 5 ∨ (!s.upd.key) = true := hlock.imp id fun h => by simp [h]
    refine ⟨s.keyed.updBusy op 0x10 0 [], ?_, s.updPlain _ _ _⟩
    obtain ⟨rfl, rfl⟩ | ⟨rfl, rfl⟩ := hc
    · exact (exec_updIdle (G := fun v u => u.updOtpProg k.val v.upd.key) rfl (hdark ho) ho hb).trans (congrArg Host.Outcome.next (if_pos hno))
    · exact (exec_updIdle (G := fun v u => u.updOtpRevoke k.val v.upd.key) rfl (hdark ho) ho hb).trans (congrArg Host.Outcome.next (if_pos hno))
  · intro k s ho hb hmode hkey hzero
    obtain ⟨t, ht, hspec⟩ := s.updOtpProg_spec k hmode hzero
    refine ⟨t, (exec_updIdle (G := fun v u => u.updOtpProg k.val v.upd.key) rfl (hdark ho) ho hb).trans (congrArg Host.Outcome.next ?_), hspec⟩
    rw [hkey]
    exact ht
  · intro k s ho hb hmode hkey hfree
    obtain ⟨t, ht, hself, hbusy, hupd, honly⟩ := s.putBusy_spec (f := UPD_OTP_STAT_KEY k.val) (v := 2) (UPD_OTP_STAT_KEY_fits k)
      (by simp [UPD_OTP_STAT_KEY]) (Fld.apart_of_off (UPD_OTP_STAT_KEY_fits k) (by simp [UPD_OTP_STAT_KEY, UPD_OTP_STAT, UPD_STAT_BUSY, UPD_STAT])) 11 0
    refine ⟨t, (exec_updIdle (G := fun v u => u.updOtpRevoke k.val v.upd.key) rfl (hdark ho) ho hb).trans (congrArg Host.Outcome.next ?_), hself, hbusy, hupd, honly⟩
    rw [hkey, State.updOtpRevoke, if_neg (by rw [show s.keyed.get MPC_MODE_CUR = 5 from hmode]; simp), if_neg, ht]
    rw [show s.keyed.on UPD_STAT_RECOVERY = s.on UPD_STAT_RECOVERY from rfl, show s.keyed.hdr (s.keyed.get UPD_STAT_ACTIVE) 0x0C 1 = s.hdr (s.get UPD_STAT_ACTIVE) 0x0C 1 from rfl]
    obtain h | h := hfree
    · simp [h]
    · simp [h]
  · intro s ho hb
    obtain ⟨t, ht, hself, hbusy, hupd, honly⟩ := s.putBusy_spec (f := UPD_STAT_ISL_OK) (v := b2n (s.islandGood (s.get UPD_STAT_ACTIVE))) rfl
      (b2n_lt _) (by decide) 12 (if s.islandGood (s.get UPD_STAT_ACTIVE) then 0 else 0x0A)
    exact ⟨t, (exec_updIdle (G := fun _ => State.updCheckIsl) rfl (hdark ho) ho hb).trans (congrArg Host.Outcome.next ht), hbusy, hself, by rw [hupd],
      honly.mono (by decide) (by simp)⟩
  · intro slot good s ho hb hrec
    refine ⟨s.keyed.updBusy 13 0x17 0 [], ?_, s.updPlain _ _ _⟩
    exact (exec_updIdle (G := fun _ u => u.updDirInit slot.val good) rfl (hdark ho) ho hb).trans
      (congrArg Host.Outcome.next (if_pos (congrArg (!·) hrec)))
  · intro slot k d s ho hb hrec hch
    obtain ⟨t, rfl, hspec⟩ := s.updDirInit_spec slot hrec hch
    exact ⟨_, exec_updIdle (G := fun _ u => u.updDirInit slot.val true) rfl (hdark ho) ho hb, hspec⟩
  · intro v s hr
    exact ⟨s.otpKey v, congrArg Host.Outcome.next (s.cmd_run UPD_OTP_KEY _ (State.dark_of_runs (by decide) hr) hr), rfl, s.only_with_upd _⟩
  · intro r s hr hrun hcode hop h7 h8
    have hafter : s.stopped.updAfter r 0 = s.stopped := by rw [State.updAfter, if_neg (by simp [h7]), if_pos h8]
    have hend := (exec_updEnd hr hrun).trans (by rw [hcode, State.updEnd_done, hafter])
    obtain ⟨hbusy, hres, hrop, hdone, honly⟩ := s.stopped.resulted_spec (op := r.op) (code := 0) (by decide)
    have hstop : s.stopped.upd = { s.upd with run := none } := rfl
    have hall : s.only [UPD_STAT, UPD_RES, UPD_EVT] [.upd] (s.stopped.resulted r.op 0) :=
      (s.only_stopped.mono (by simp) (by simp)).trans (honly.mono (by simp) (by simp))
    exact ⟨_, hend, hbusy, hres, hrop hop, hdone, (honly.2 .upd (by simp)).trans hstop, hall⟩
  · intro r k d s hr hrun hcode hop hch
    have hafter : s.stopped.updAfter r 0 = s.stopped.activate d.cand := by
      have hch' : s.stopped.dirChosen = some (k, d) := hch
      rw [State.updAfter, if_pos ⟨hop, rfl⟩, hch']
    have hend := (exec_updEnd hr hrun).trans (by rw [hcode, State.updEnd_done, hafter])
    obtain ⟨hst, hslot, hupd, ho⟩ := s.stopped.activate_spec d.cand (State.dirCopy_fits (State.dirChosen_copy hch).2).cand
    generalize s.stopped.activate d.cand = u at hend hst hslot hupd ho
    obtain ⟨hbusy, hres, hrop, hdone, honly⟩ := u.resulted_spec (op := r.op) (code := 0) (by decide)
    refine ⟨_, hend, hbusy, hres, (hrop (by omega)).trans hop, hdone, (honly.get_eq (by decide)).trans hst, (honly.get_eq (by decide)).trans hslot,
      (honly.2 .upd (by simp)).trans hupd,
      ((s.only_stopped.mono (by simp) (by simp)).trans (ho.mono (by simp) (by simp))).trans (honly.mono (by simp) (by simp))⟩
  · intro r s hr hrun hcode hop
    have hafter : s.stopped.updAfter r 0 = s.stopped.confirmed := by
      rw [State.updAfter, if_neg (by simp [hop]), if_neg (by simp [hop]), if_pos rfl]
      rfl
    have hend := (exec_updEnd hr hrun).trans (by rw [hcode, State.updEnd_done, hafter])
    obtain ⟨htrial, hst, hev, hupd, ho⟩ := State.confirmed_spec (s := s.stopped)
    generalize s.stopped.confirmed = u at hend htrial hst hev hupd ho
    have hconf : (u.resulted r.op 0).get UPD_EVT_CONFIRMED = u.get UPD_EVT_CONFIRMED := by
      rw [State.resulted, State.get_put_apart _ _ (by decide), State.get_put_apart _ _ (by decide), State.get_put_apart _ _ (by decide),
        State.get_put_apart _ _ (by decide)]
    have htr : (u.resulted r.op 0).get UPD_STAT_TRIAL = u.get UPD_STAT_TRIAL := by
      rw [State.resulted, State.get_put_apart _ _ (by decide), State.get_put_apart _ _ (by decide), State.get_put_apart _ _ (by decide),
        State.get_put_apart _ _ (by decide)]
    obtain ⟨hbusy, hres, hrop, hdone, honly⟩ := u.resulted_spec (op := r.op) (code := 0) (by decide)
    refine ⟨_, hend, hbusy, hres, (hrop (by omega)).trans hop, hdone, htr.trans htrial, (honly.get_eq (by decide)).trans hst, hconf.trans hev,
      (honly.2 .upd (by simp)).trans hupd,
      ((s.only_stopped.mono (by simp) (by simp)).trans (ho.mono (by simp) (by simp))).trans (honly.mono (by simp) (by simp))⟩
  · intro r s hr hrun h0 h14 hlt hroom
    have hend := (exec_updEnd hr hrun).trans (by rw [State.updEnd_refused r h0 h14])
    obtain ⟨hupd, ho⟩ := State.updAfter_refused (s := s) r h0
    generalize s.stopped.updAfter r r.code = u at hend hupd ho
    obtain ⟨hbusy, hres, -, hdone, honly⟩ := u.resulted_spec (op := r.op) (code := r.code) (by omega)
    generalize u.resulted r.op r.code = v at hend hbusy hres hdone honly
    have href : v.only [UPD_EVT] [] (v.put UPD_EVT_REFUSED 1) := (v.only_refl _ _).put _ (by decide)
    have hself : (v.put UPD_EVT_REFUSED 1).get UPD_EVT_REFUSED = 1 := State.get_put_self _ rfl (by decide)
    have hdone' : (v.put UPD_EVT_REFUSED 1).get UPD_EVT_DONE = 1 := (State.get_put_apart _ _ (by decide)).trans hdone
    generalize v.put UPD_EVT_REFUSED 1 = w at hend href hself hdone'
    have hw : s.only [UPD_STAT, UPD_RES, UPD_EVT] [.upd] w :=
      ((ho.mono (by simp) (by simp)).trans (honly.mono (by simp) (by simp))).trans (href.mono (by simp) (by simp))
    have hroomy := hw.roomy hroom (by decide) (by decide) (by decide)
    have hf : w.only [] [.fltQ] (w.fault 0x16 0x70 r.code) := (w.only_refl _ _).fault hroomy _ _ _ (by simp)
    have hsent := hroomy.sent_fault 0x16 0x70 r.code
    generalize w.fault 0x16 0x70 r.code = x at hend hf hsent
    refine ⟨x, hend, ?_, ?_, ?_, ?_, hsent.of_eq (hw.2 .fltQ (by simp)) (by rw [show w.sys = s.sys from hw.2 .sys (by simp)]), ?_,
      (hw.mono (by simp) (by simp)).trans (hf.mono (by simp) (by simp))⟩
    · exact (hf.get_eq (by simp)).trans ((href.get_eq (by decide)).trans hbusy)
    · exact (hf.get_eq (by simp)).trans ((href.get_eq (by decide)).trans hres)
    · exact (hf.get_eq (by simp)).trans hdone'
    · exact (hf.get_eq (by simp)).trans hself
    · exact (hf.2 .upd (by simp)).trans ((href.2 .upd (by simp)).trans ((honly.2 .upd (by simp)).trans hupd))
  · intro s hr hrun
    have hexec : exec .updCommandEnd s = execUpdCommandEnd s := rfl
    exact ⟨s, by rw [hexec, execUpdCommandEnd, if_neg (by simp [hr]), hrun], s.only_refl _ _⟩

end Sys2Proof.Machine

/-! What the switch core's operations leave alone: the registers and counters of the blocks that they do not name. -/
namespace Sys2Proof.Machine

set_option Elab.async false

/-- What a core that wakes the hub changes of the system's record: the clock it uses, the time of the wake and the wakes held back. -/
def SysSt.wokenTo (x y : SysSt) : Prop := y = { x with rc100 := y.rc100, heldWake := y.heldWake, wakeT := y.wakeT }

theorem SysSt.wokenTo.trans {x y z : SysSt} (h : x.wokenTo y) (k : y.wokenTo z) : x.wokenTo z := by
  rw [SysSt.wokenTo] at *
  rw [k, h]

/-- Registers and counters stand as they were outside some blocks, the mode stands, and the system's record but for a wake. -/
structure State.confined (s : State) (bs : List Nat) (t : State) : Prop where
  rd : ∀ o, blkOf o ∉ bs → t.rd o = s.rd o
  cnt : ∀ o, blkOf o ∉ bs → t.cnt o = s.cnt o
  mode : ∀ f : Fld, f.off = MPC_MODE → f.apart MPC_MODE_TRANS = true → t.get f = s.get f
  sys : s.sys.wokenTo t.sys

theorem State.confined_refl (s : State) (bs : List Nat) : s.confined bs s := ⟨fun _ _ => rfl, fun _ _ => rfl, fun _ _ _ => rfl, rfl⟩

/-- The register that holds a counter's SAT lies in the counter's block. -/
theorem blkOf_satField {c : Nat} {f : Fld} (h : satField c = some f) : blkOf f.off = blkOf c := by
  rw [satField] at h
  split at h
  case h_12 hb =>
    obtain rfl := Option.some.inj h
    rw [hb]
    simp only [blkOf, MB_EVT_SAT, MB_EVT]
    omega
  case h_15 => exact absurd h (by simp)
  all_goals
    rename_i hb
    obtain rfl := Option.some.inj h
    rw [hb]
    rfl

/-- No counter shows its SAT beside the mode. -/
theorem satField_ne_mode {c : Nat} {f : Fld} (h : satField c = some f) : f.off ≠ MPC_MODE := by
  intro he
  have hb : blkOf c = 0x01 := by
    rw [← blkOf_satField h, he]
    rfl
  rw [satField, hb] at h
  exact absurd h (by simp)

namespace State.confined

variable {s t u : State} {bs : List Nat}

theorem trans (h : s.confined bs t) (k : t.confined bs u) : s.confined bs u :=
  ⟨fun o ho => (k.rd o ho).trans (h.rd o ho), fun o ho => (k.cnt o ho).trans (h.cnt o ho), fun f hf ha => (k.mode f hf ha).trans (h.mode f hf ha),
    h.sys.trans k.sys⟩

theorem mono (h : s.confined bs t) {bs' : List Nat} (hb : bs ⊆ bs') : s.confined bs' t :=
  ⟨fun o ho => h.rd o fun hi => ho (hb hi), fun o ho => h.cnt o fun hi => ho (hb hi), h.mode, h.sys⟩

theorem get_eq (h : s.confined bs t) {f : Fld} (hf : blkOf f.off ∉ bs) : t.get f = s.get f := State.get_congr (h.rd _ hf)

/-- A change that touches no register, counter or system record. -/
theorem same (h : s.confined bs t) (hr : u.regs = t.regs) (hl : u.live = t.live) (hs : u.sys = t.sys) : s.confined bs u :=
  h.trans ⟨fun o _ => State.rd_congr hr o, fun o _ => State.cnt_congr hl o, fun _ _ _ => State.get_congr (State.rd_congr hr _), hs ▸ rfl⟩

/-- A change of the system's record by a wake. -/
theorem woken (h : s.confined bs t) (hr : u.regs = t.regs) (hl : u.live = t.live) (hs : t.sys.wokenTo u.sys) : s.confined bs u :=
  h.trans ⟨fun o _ => State.rd_congr hr o, fun o _ => State.cnt_congr hl o, fun _ _ _ => State.get_congr (State.rd_congr hr _), hs⟩

theorem wr (h : s.confined bs t) {o : Nat} (v : Word) (ho : blkOf o ∈ bs) (hm : o ≠ MPC_MODE := by decide) : s.confined bs (t.wr o v) :=
  h.trans ⟨fun _ hp => State.rd_wr_ne _ _ fun he => hp (he ▸ ho), fun _ _ => rfl,
    fun f hf _ => State.get_congr (State.rd_wr_ne _ _ fun he => hm (he ▸ hf)), rfl⟩

theorem put (h : s.confined bs t) {f : Fld} (v : Nat) (ho : blkOf f.off ∈ bs) (hm : f.off ≠ MPC_MODE := by decide) : s.confined bs (t.put f v) :=
  h.wr _ ho hm

/-- The field that shows a transition stands beside the mode. -/
theorem putTrans (h : s.confined bs t) (v : Nat) (ho : 0x01 ∈ bs) : s.confined bs (t.put MPC_MODE_TRANS v) :=
  h.trans ⟨fun _ hp => State.rd_wr_ne _ _ fun he => hp (he ▸ ho), fun _ _ => rfl, fun _ _ ha => State.get_put_apart _ _ ha, rfl⟩

theorem count (h : s.confined bs t) {c : Nat} (n : Nat) (hc : blkOf c ∈ bs) : s.confined bs (t.count c n) := by
  have hrd : ∀ o, (∀ f, satField c = some f → o ≠ f.off ∧ (f = LPW_STAT_SAT → o ≠ LPW_EVT)) → (t.count c n).rd o = t.rd o := by
    intro o ho
    cases hs : satField c with
    | none => exact State.rd_count_nosat _ _ _ _ hs
    | some f =>
      obtain ⟨hne, hev⟩ := ho f hs
      by_cases hl : f = LPW_STAT_SAT
      · subst hl
        refine (t.only_count c n (os := [LPW_STAT, LPW_EVT]) (ps := [.live]) (by simp) fun g hg => ?_).1 o ?_
        · obtain rfl := Option.some.inj (hs.symm.trans hg)
          exact ⟨by simp [LPW_STAT_SAT], fun _ => by simp⟩
        · simp only [List.mem_cons, List.not_mem_nil, or_false, not_or]
          exact ⟨hne, hev rfl⟩
      · exact State.rd_count_sat _ _ _ _ _ hs hl hne
  refine h.trans ⟨fun o ho => hrd o fun f hf => ?_, fun o ho => ?_, fun g hg _ => State.get_congr (hrd _ fun f hf => ⟨?_, fun _ => ?_⟩), ?_⟩
  · have hb : blkOf f.off ∈ bs := blkOf_satField hf ▸ hc
    refine ⟨fun he => ho (he ▸ hb), fun hl he => ho ?_⟩
    subst hl
    rw [he]
    exact hb
  · rw [State.cnt_count, if_neg]
    rintro rfl
    exact ho hc
  · exact fun he => satField_ne_mode hf (he ▸ hg)
  · rw [hg]
    decide
  · rw [(State.count_foot t c n).sys rfl]
    rfl

theorem bump (h : s.confined bs t) {c : Nat} (hc : blkOf c ∈ bs) : s.confined bs (t.bump c) := h.count 1 hc

theorem when {c : Bool} {f : State → State} (h : s.confined bs t) (hf : t.confined bs (f t)) : s.confined bs (t.when c f) := by
  cases c
  · exact h
  · exact h.trans hf

theorem ite {c : Prop} [Decidable c] {v : State} (hu : s.confined bs u) (hv : s.confined bs v) : s.confined bs (if c then u else v) := by
  split
  · exact hu
  · exact hv

theorem each {α : Type} {f : State → α → State} {l : List α} (h : s.confined bs t) (hf : ∀ (t : State), ∀ a ∈ l, t.confined bs (f t a)) :
    s.confined bs (t.each l f) := by
  induction l generalizing t with
  | nil => exact h
  | cons a l ih => exact ih (h.trans (hf t a (by simp))) fun t b hb => hf t b (by simp [hb])

theorem fault (h : s.confined bs t) (src kind addr : Nat) (h5 : 0x05 ∈ bs) : s.confined bs (t.fault src kind addr) := by
  have honly := State.only_fault (s := t) src kind addr
  refine h.trans ⟨fun o ho => honly.1 o fun hi => ?_, fun o ho => State.cnt_faultMsg _ fun he => ?_,
    fun f hf _ => honly.get_eq (by rw [hf]; decide), ?_⟩
  · obtain rfl := List.mem_singleton.1 hi
    exact ho h5
  · subst he
    exact ho h5
  · rw [show (t.fault src kind addr).sys = t.sys from honly.2 .sys (by simp)]
    rfl

/-- The mode, the resets and the die stand: what runs, runs on. -/
theorem inReset_eq (h : s.confined bs t) (h2 : 0x02 ∉ bs) (u : Nat) : t.inReset u = s.inReset u := by
  have hcur : t.get MPC_MODE_CUR = s.get MPC_MODE_CUR := h.mode _ rfl rfl
  have hdark : t.dark = s.dark := by rw [State.dark, State.mode, hcur, congrArg SysSt.die h.sys, State.dark, State.mode]
  have hrst : t.rd RSTC_INRST = s.rd RSTC_INRST := h.rd _ h2
  rw [State.inReset, hdark, State.on_congr (f := RSTC_INRST_M0) hrst, State.on_congr (f := RSTC_INRST_M1) hrst, State.getBit,
    State.get_congr (f := RSTC_INRST_BLK) hrst, State.inReset, State.getBit]

end State.confined

/-- The blocks that the switch core writes when a frame leaves LOC: its own, those of the buffer, the ring lanes' schedule, the
directions and the faults, and MPC's for the wake by a class 7 frame. -/
def switchBlks : List Nat := [0x01, 0x05, 0x07, 0x0C, 0x0D, 0x0E]

section
variable {s : State}

theorem blkOf_fwdCnt {p k : Nat} (hp : p ≤ 4) (hk : k < 16) : blkOf (FWD_CNT p k) = 0x0D := by
  simp only [blkOf, FWD_CNT]
  omega

/-! ### The cells of a frame -/

theorem State.confined_cellStep (used : List Nat) (stripe : Nat) {fb : Nat} (f : Frame) (hfb : 0 < fb) (hlt : fb ≤ 2 ^ 8) (l : List Nat)
    (a : State × List Nat) : a.1.confined [0x07] (l.foldl (State.cellStep used stripe fb f) a).1 := by
  induction l generalizing a with
  | nil => exact a.1.confined_refl _
  | cons k l ih =>
    refine State.confined.trans ?_ (ih _)
    rw [State.cellStep]
    split
    · rename_i c hpick
      have hb := bankOf_pickCell hpick
      have hmod := Nat.mod_lt (stripe + k) hfb
      have hblk : blkOf (MSA_BEATS (bankOf (128 * c))) ∈ [0x07] := by
        rw [hb, List.mem_singleton]
        simp only [blkOf, MSA_BEATS]
        omega
      have hbeats : a.1.confined [0x07] (a.1.cellBeats c (cellWords f k)) := ((a.1.confined_refl _).same (u := a.1.grant (bankOf (128 * c)) 0) rfl rfl rfl).count _ hblk
      refine hbeats.trans ?_
      have hecc := ((a.1.cellBeats c (cellWords f k)).only_refl [] [.store]).eccWritten (16 * c) (cellWords f k) (by simp)
      exact ⟨fun o _ => hecc.1 o (by simp), fun o _ => State.cnt_congr (hecc.2 .live (by simp)) o, fun f _ _ => hecc.get_eq (by simp),
        hecc.2 .sys (by simp) ▸ rfl⟩
    · exact a.1.confined_refl _

theorem State.confined_writeCells (f : Frame) : s.confined [0x07] (s.writeCells f).1 := by
  have hlt : s.get MSA_PART_FB < 2 ^ MSA_PART_FB.w := s.get_lt _
  have hw : (2 : Nat) ^ MSA_PART_FB.w ≤ 2 ^ 8 := by decide
  rw [State.writeCells_eq]
  exact (State.confined_cellStep _ _ f (by omega) (by omega) _ (s, [])).same rfl rfl rfl

/-! ### Placing the copies -/

theorem State.confined_watchWake (src : Nat) : s.confined [0x01] (s.watchWake src) := by
  rw [State.watchWake]
  refine .ite (s.confined_refl _) ?_
  have hc : s.confined [0x01] (s.wr MPC_WAKE_CAUSE (s.rd MPC_WAKE_CAUSE ||| BitVec.ofNat 32 (2 ^ src))) := (s.confined_refl _).wr _ (by decide)
  generalize s.wr MPC_WAKE_CAUSE (s.rd MPC_WAKE_CAUSE ||| BitVec.ofNat 32 (2 ^ src)) = u at hc ⊢
  refine .ite (hc.woken rfl rfl rfl) (.ite (.ite ?_ hc) (s.confined_refl _))
  have hw : u.confined [0x01] (u.rcUse.put MPC_MODE_TRANS 1) := ((u.confined_refl _).woken (u := u.rcUse) rfl rfl rfl).putTrans _ (by decide)
  exact (hc.trans hw).woken rfl rfl rfl

theorem State.confined_enqueue (p qi : Nat) (x : QFrame) (spare : Bool) : s.confined switchBlks (s.enqueue p qi x spare) := by
  rw [State.enqueue]
  have hset : s.confined switchBlks (s.setQueue p qi (s.queue p qi ++ [{ x with spare := spare }])) := (s.confined_refl _).same rfl rfl rfl
  generalize s.setQueue p qi _ = u at hset ⊢
  have hsp : s.confined switchBlks (if spare = true then u.put FWD_EVT_SPARE 1 else u) := .ite (hset.put _ (by decide)) hset
  generalize (if spare = true then u.put FWD_EVT_SPARE 1 else u) = v at hsp ⊢
  refine .ite (hsp.trans ?_) hsp
  rw [State.wakeBy]
  exact .ite ((State.confined_watchWake 1).mono (by simp [switchBlks])) (v.confined_refl _)

theorem State.confined_putCopy (c : Copy) (qi : Nat) (x : QFrame) (spare : Bool) : s.confined switchBlks (s.putCopy c qi x spare) := by
  have hw : s.confined switchBlks (s.when c.wrapped fun s => s.bump (RED_CNT 6)) := (s.confined_refl _).when ((s.confined_refl _).bump (by decide))
  rw [State.putCopy]
  generalize s.when c.wrapped (fun s => s.bump (RED_CNT 6)) = u at hw ⊢
  dsimp only
  split
  · exact hw.same rfl rfl rfl
  · exact hw.trans (State.confined_enqueue _ _ _ _)

theorem State.confined_unreachLog {inPort : Nat} (f : Frame) (hp : inPort ≤ 4) : s.confined [0x0D] (s.unreachLog inPort f) := by
  have hb : blkOf (FWD_CNT inPort 5) ∈ [0x0D] := by rw [blkOf_fwdCnt hp (by decide)]; simp
  exact ((((((s.confined_refl _).bump hb).put _ (by decide)).put _ (by decide)).put _ (by decide)).put _ (by decide)).put _ (by decide)

theorem State.confined_dropCopy {inPort : Nat} (c : Copy) (hp : inPort ≤ 4) : s.confined switchBlks (s.dropCopy inPort c) := by
  have hlog := (s.confined_unreachLog c.frame hp).mono (bs' := switchBlks) (by simp [switchBlks])
  rw [State.dropCopy]
  split
  · exact (s.confined_refl _).bump (by decide)
  · exact (s.confined_refl _).bump (by decide)
  · exact (((s.confined_refl _).bump (c := RPE_CNT 3) (by decide)).put _ (by decide)).fault _ _ _ (by decide)
  · exact (hlog.put _ (by decide)).fault _ _ _ (by decide)
  · exact hlog
  · exact s.confined_refl _

theorem State.confined_dropFull {p cls : Nat} (hp : p ≤ 4) (hc : cls < 8) : s.confined switchBlks (s.dropFull p cls) :=
  ((s.confined_refl _).bump (by rw [blkOf_fwdCnt hp (by omega)]; decide)).put _ (by decide)

theorem frClass_lt (f : Frame) : frClass f < 8 := Nat.mod_lt _ (by decide)

theorem State.confined_placeCopy {inPort : Nat} (own multi : Bool) (t : Int) (cells : List Nat) {c : Copy} (hp : inPort ≤ 4) (hc : c.port ≤ 4) :
    s.confined switchBlks (s.placeCopy inPort own multi t cells c) := by
  rw [State.placeCopy]
  refine .ite ?_ (State.confined_dropCopy c hp)
  split
  · exact .ite (((s.confined_refl _).bump (by rw [blkOf_fwdCnt hc (by decide)]; decide)).put _ (by decide)) (State.confined_dropFull hc (frClass_lt _))
  · exact State.confined_putCopy _ _ _ _

theorem State.confined_place {inPort : Nat} (own : Bool) (t : Int) {l : List Copy} (hp : inPort ≤ 4) (hl : ∀ c ∈ l, c.port ≤ 4) :
    s.confined switchBlks (s.place inPort own t l) := by
  cases l with
  | nil => exact s.confined_refl _
  | cons c l =>
    rw [State.place]
    exact ((s.confined_writeCells c.frame).mono (by simp [switchBlks])).each fun t a ha => State.confined_placeCopy _ _ _ _ hp (hl a ha)

/-! ### The ports of the copies -/

theorem State.port_ringCopy (f : Frame) {d : Nat} (hd : d ≤ 2) : (s.ringCopy f d).port ≤ 4 := by
  rw [State.ringCopy]
  dsimp only
  repeat' split
  all_goals
    dsimp only
    omega

theorem State.port_stackCopy (f : Frame) {p : Nat} (hp : p ≤ 4) : (s.stackCopy f p).port ≤ 4 := by
  rw [State.stackCopy]
  split
  all_goals exact hp

theorem State.wayOf_le (f : Frame) : s.wayOf f ≤ 2 := by
  have hbit : s.pinBit (s.bucket f) ≤ 1 := by
    have := b2n_lt (s.getBit (FWD_PINT_PIN (s.bucket f / 32)) (s.bucket f % 32))
    rw [State.pinBit]
    omega
  rw [State.wayOf, State.entryDir]
  generalize s.pinBit (s.bucket f) = bit at hbit ⊢
  dsimp only
  repeat' split
  all_goals omega

/-- Copies for the five ports only. -/
def lowPorts (l : List Copy) : Prop := ∀ c ∈ l, c.port ≤ 4

theorem lowPorts_nil : lowPorts [] := fun _ h => absurd h List.not_mem_nil

theorem lowPorts_cons {c : Copy} {l : List Copy} (hc : c.port ≤ 4) (hl : lowPorts l) : lowPorts (c :: l) :=
  fun _ h => (List.mem_cons.1 h).elim (fun he => he ▸ hc) (hl _)

theorem lowPorts_one {c : Copy} (hc : c.port ≤ 4) : lowPorts [c] := lowPorts_cons hc lowPorts_nil

theorem lowPorts_append {l m : List Copy} (hl : lowPorts l) (hm : lowPorts m) : lowPorts (l ++ m) :=
  fun _ h => (List.mem_append.1 h).elim (hl _) (hm _)

theorem lowPorts_ite {c : Prop} [Decidable c] {l m : List Copy} (hl : lowPorts l) (hm : lowPorts m) : lowPorts (if c then l else m) := by
  split
  · exact hl
  · exact hm

theorem State.ports_ringOrig (f : Frame) : lowPorts (s.ringOrig f) := by
  have hone (g : Frame) (d : Nat) (hd : d ≤ 2) : (s.ringCopy g d).port ≤ 4 := State.port_ringCopy g hd
  have hway := s.wayOf_le f
  have htwo (g h : Frame) : lowPorts [s.ringCopy g 0, s.ringCopy h 1] := lowPorts_cons (hone _ 0 (by decide)) (lowPorts_one (hone _ 1 (by decide)))
  rw [State.ringOrig]
  refine lowPorts_ite (lowPorts_one (Nat.zero_le _)) (lowPorts_ite (htwo _ _) (lowPorts_ite (lowPorts_ite (lowPorts_one (hone _ 0 (by decide))) (htwo _ _))
    (lowPorts_ite (lowPorts_one (Nat.zero_le _)) ?_)))
  dsimp only
  split
  · exact lowPorts_one (hone _ _ hway)
  · split
    · exact lowPorts_one (hone _ _ hway)
    · exact lowPorts_one (hone _ _ hway)

theorem State.ports_egress (f : Frame) : lowPorts (s.egress 4 f) := by
  have hstack (p : Nat) (hp : p ≤ 4) : lowPorts [s.stackCopy f p] := lowPorts_one (State.port_stackCopy f hp)
  have hloc : lowPorts [locCopy f] := lowPorts_one (le_refl 4)
  have hs0 : lowPorts (if s.laneUp 2 = true then [⟨2, f, .queue, false⟩] else []) := lowPorts_ite (lowPorts_one (Nat.le_add_right 2 2)) lowPorts_nil
  rw [State.egress]
  refine lowPorts_ite (lowPorts_ite (lowPorts_one (le_refl 4)) (lowPorts_append (lowPorts_append (lowPorts_append (lowPorts_ite hloc lowPorts_nil)
      (lowPorts_ite hs0 lowPorts_nil)) (lowPorts_ite (hstack 3 (by decide)) lowPorts_nil)) ?_))
    (lowPorts_ite (lowPorts_ite hloc (lowPorts_ite (hstack 2 (by decide)) (hstack 3 (by decide)))) ?_)
  · exact lowPorts_ite lowPorts_nil (lowPorts_ite (lowPorts_one (State.port_ringCopy f (by decide))) (lowPorts_ite (State.ports_ringOrig f) lowPorts_nil))
  · exact lowPorts_ite (lowPorts_append (lowPorts_ite hloc lowPorts_nil) (lowPorts_one (State.port_ringCopy f (by decide))))
      (lowPorts_ite (lowPorts_one (Nat.le_add_right 3 1)) (lowPorts_ite (State.ports_ringOrig f) (hstack 3 (by decide))))

/-- A frame that names its lane names one of the four. -/
def FrameSpec.viaLane (p : FrameSpec) : Prop := ∀ l, p.via = some l → l < 4

theorem FrameSpec.viaLane_plain (cls vc kind dst dstChip tag : Nat) (payload : List DWord) : (FrameSpec.plain cls vc kind dst dstChip tag payload).viaLane :=
  fun _ h => absurd h (by simp [FrameSpec.plain])

theorem State.ports_specCopies {p : FrameSpec} (f : Frame) (hp : p.viaLane) : lowPorts (s.specCopies p f) := by
  rw [State.specCopies]
  split
  · exact State.ports_egress f
  · rename_i l hl
    have hlt := hp l hl
    by_cases h2 : 2 ≤ l
    · rw [if_pos h2]
      exact lowPorts_one (State.port_stackCopy f (by omega))
    · rw [if_neg h2]
      exact lowPorts_ite (lowPorts_one (by show l ≤ 4; omega)) (lowPorts_one (State.port_ringCopy _ (by omega)))

/-! ### Origination (R208) -/

theorem FrameSpec.viaLane_owed (f : Frame) (l : List Copy) : ∀ q ∈ owed f l, q.viaLane := by
  intro q hq
  rw [owed] at hq
  split at hq
  · obtain rfl := List.mem_singleton.1 hq
    exact FrameSpec.viaLane_plain _ _ _ _ _ _ _
  · exact absurd hq List.not_mem_nil

theorem State.confined_tryOrig {p : FrameSpec} {prod : Nat} {r : State × List FrameSpec} (hp : p.viaLane) (h : s.tryOrig p prod = some r) :
    s.confined switchBlks r.1 ∧ ∀ q ∈ r.2, q.viaLane := by
  have hnone : ∀ q ∈ ([] : List FrameSpec), q.viaLane := fun _ h => absurd h List.not_mem_nil
  unfold State.tryOrig at h
  split at h
  · obtain rfl := Option.some.inj h
    exact ⟨(s.confined_refl _).bump (c := RED_CNT 11) (by decide), hnone⟩
  · obtain rfl := Option.some.inj h
    exact ⟨s.confined_refl _, hnone⟩
  · exact absurd h (by simp)
  · extract_lets f l u v src w src' z at h
    split at h
    · exact absurd h (by simp)
    · split at h
      · exact absurd h (by simp)
      · have hports : lowPorts l := s.ports_specCopies f hp
        have hu : s.confined switchBlks u := ((s.confined_refl _).bump (by decide)).count _ (by decide)
        clear_value u l
        split at h
        · cases h
          exact ⟨hu.trans ((State.confined_unreachLog f (le_refl 4)).mono (by simp [switchBlks])), hnone⟩
        · have hv : s.confined switchBlks v := hu.trans (State.confined_place true _ (le_refl 4) hports)
          clear_value v
          have hw : s.confined switchBlks w := by
            unfold w
            exact .ite (hv.same rfl rfl rfl) hv
          clear_value w
          have hz : s.confined switchBlks z := by
            unfold z
            split
            · exact hw.same rfl rfl rfl
            · exact hw.same rfl rfl rfl
          clear_value z
          cases h
          exact ⟨hz, FrameSpec.viaLane_owed f l⟩

theorem State.confined_locWait (w : LocWait) : s.confined switchBlks (s.locWait w) := by
  rw [State.locWait]
  exact State.confined.same (.ite ((s.confined_refl switchBlks).bump (c := RED_CNT 5) (by decide)) (s.confined_refl _)) rfl rfl rfl

theorem State.confined_orig1 {p : FrameSpec} {prod : Nat} (hp : p.viaLane) :
    s.confined switchBlks (s.orig1 p prod).1 ∧ ∀ q ∈ (s.orig1 p prod).2, q.viaLane := by
  have hwait : s.confined switchBlks (s.locWait ⟨p, prod, false⟩) := State.confined_locWait _
  rw [State.orig1]
  split
  · exact ⟨s.confined_refl _, fun _ h => absurd h List.not_mem_nil⟩
  · split
    · exact ⟨hwait, fun _ h => absurd h List.not_mem_nil⟩
    · split
      · rename_i r hr
        exact State.confined_tryOrig hp hr
      · exact ⟨hwait, fun _ h => absurd h List.not_mem_nil⟩

/-- What origination leaves alone. -/
theorem State.confined_originate {p : FrameSpec} (prod : Nat) (hp : p.viaLane) : s.confined switchBlks (s.originate p prod) := by
  obtain ⟨hfirst, howed⟩ := State.confined_orig1 (s := s) (prod := prod) hp
  exact hfirst.each fun t q hq => (State.confined_orig1 (howed q hq)).1

end

end Sys2Proof.Machine

/-! The ring-wide commit: PREPARE, GO, ABORT and GUARD (R126 to R131). -/
namespace Sys2Proof.Machine

set_option Elab.async false

section
variable {s : State}

/-! ### Answers of the commit -/

/-- An answer leaves every register and counter outside the switch core's blocks. -/
theorem State.confined_cfgSend (dst : Nat × Nat) (op code cid time : Nat) : s.confined switchBlks (s.cfgSend dst op code cid time) :=
  State.confined_originate 5 (FrameSpec.viaLane_plain _ _ _ _ _ _ _)

theorem State.parts_cfgSend (dst : Nat × Nat) (op code cid time : Nat) :
    s.parts [.regs, .live, .store, .fwd, .red, .sys, .fltQ] (s.cfgSend dst op code cid time) :=
  (State.originate_foot ..).parts (by decide)

/-- With the switch core in reset nothing is sent. -/
theorem State.cfgSend_reset (dst : Nat × Nat) (op code cid time : Nat) (h : s.inReset 0x0D = true) : s.cfgSend dst op code cid time = s := by
  have horig (p : FrameSpec) : s.orig1 p 5 = (s, []) := if_pos h
  rw [State.cfgSend, State.originate, horig]
  rfl

/-! ### The check and the states -/

theorem State.runCheck_passed {timed : Bool} (h : s.checkFlaws timed = []) : s.runCheck timed = (s, 0) := by
  rw [State.runCheck, h]
  rfl

/-- The hub as the end of a ring-wide check arms it. -/
def State.ringArmed (s : State) : State :=
  (((s.put CFG_STAT_STATE 3).put CFG_STAT_RING 1).modCfg fun c => { c with way := 0 }).modCfg fun c =>
    { c with endT := (((s.put CFG_STAT_STATE 3).put CFG_STAT_RING 1).modCfg fun c => { c with way := 0 }).now }

theorem exec_consistencyCheckDone_ring (hr : s.inReset 0x04 = false) (hst : s.get CFG_STAT_STATE = 2) (hask : s.cfg.asked = 3)
    (hok : s.checkFlaws true = []) : exec .consistencyCheckDone s =
      .next (s.ringArmed.cfgSend s.cfg.head 2 0 (s.get CFG_COMMIT_CID) s.ringArmed.now) := by
  have hrun : s.runCheck (s.cfg.asked == 3 || s.cfg.asked == 2) = (s, 0) := by
    rw [hask]
    exact State.runCheck_passed hok
  have hstate : s.cfgState = 2 := hst
  change execConsistencyCheckDone s = _
  rw [execConsistencyCheckDone, if_neg (by simp [hr]), if_pos hstate]
  dsimp only
  rw [hrun, if_neg (by simp), hask, if_pos (show (3 == 3) = true from rfl)]
  rfl

theorem State.ringArmed_spec : s.ringArmed.get CFG_STAT_STATE = 3 ∧ s.ringArmed.get CFG_STAT_RING = 1 ∧
    s.ringArmed.cfg = { s.cfg with way := 0, endT := s.now } ∧ s.only [CFG_STAT] [.cfg] s.ringArmed := by
  have hst : ((s.put CFG_STAT_STATE 3).put CFG_STAT_RING 1).get CFG_STAT_STATE = 3 :=
    (State.get_put_apart _ _ rfl).trans (State.get_put_val _ _ _ rfl)
  have hring : ((s.put CFG_STAT_STATE 3).put CFG_STAT_RING 1).get CFG_STAT_RING = 1 := State.get_put_val _ _ _ rfl
  have hcfg : ((s.put CFG_STAT_STATE 3).put CFG_STAT_RING 1).cfg = s.cfg := (State.put_cfg _ _ _).trans (State.put_cfg _ _ _)
  have honly : s.only [CFG_STAT] [.cfg] ((s.put CFG_STAT_STATE 3).put CFG_STAT_RING 1) :=
    ((s.only_refl _ _).put _ (by simp [CFG_STAT_STATE])).put _ (by simp [CFG_STAT_RING])
  rw [State.ringArmed]
  generalize (s.put CFG_STAT_STATE 3).put CFG_STAT_RING 1 = u at hst hring hcfg honly ⊢
  have hnow : u.now = s.now := honly.rd64_eq (by decide) (by decide)
  refine ⟨hst, hring, ?_, (honly.with_cfg _ (by simp)).with_cfg _ (by simp)⟩
  change { u.cfg with way := 0, endT := u.now } = _
  rw [hcfg, hnow]

theorem State.toOpen_spec : s.toOpen.get CFG_STAT_STATE = 1 ∧ s.toOpen.get CFG_STAT_RING = 0 ∧ s.toOpen.cfg = { s.cfg with way := 0 } ∧
    s.only [CFG_STAT] [.cfg] s.toOpen :=
  ⟨(State.get_put_apart _ _ rfl).trans (State.get_put_val _ _ _ rfl), State.get_put_val _ _ _ rfl, (State.put_cfg _ _ _).trans (State.put_cfg _ _ _),
    (((s.only_refl _ _).with_cfg _ (by simp)).put _ (by simp [CFG_STAT_STATE])).put _ (by simp [CFG_STAT_RING])⟩

/-! ### PREPARE -/

/-- The commit that a PREPARE notes. -/
def State.commitNoted (s : State) (cid guard : Nat) (src : Nat × Nat) : State :=
  (((s.put CFG_COMMIT_CID cid).put CFG_COMMIT_APPLIED 0).wr64 CFG_GUARD guard).modCfg fun c => { c with missed := false, head := src }

theorem exec_prepare_begins {cid : BitVec 16} {guard : DWord} {node : BitVec 8} {chip : Fin 4} (ho : s.open_ 0x04 = true)
    (hf : s.rpe.floor ≠ 1) (hm : s.mode ≠ 4) (hst : s.get CFG_STAT_STATE ≤ 1) : exec (.prepare cid guard node chip) s =
      .next ((s.commitNoted cid.toNat guard.toNat (node.toNat, chip.val)).startCheck 3) := by
  have hr : s.inReset 0x04 = false := by
    have := ho
    simp only [State.open_, Bool.and_eq_true, Bool.not_eq_true'] at this
    exact this.1
  have hst' : s.cfgState ≤ 1 := hst
  change execPrepare cid guard node chip s = _
  rw [execPrepare, if_neg (by simp [hr]), State.prepare, if_neg (by simp [ho]), if_neg hf, if_neg hm,
    if_neg (by simp [show s.cfgState ≠ 3 by omega]), if_pos hst']
  rfl

theorem State.commitNoted_spec {cid guard : Nat} (src : Nat × Nat) (hc : cid < 2 ^ 16) (hg : guard < 2 ^ 64) :
    (s.commitNoted cid guard src).get CFG_COMMIT_CID = cid ∧ (s.commitNoted cid guard src).get CFG_COMMIT_APPLIED = 0 ∧
    (s.commitNoted cid guard src).rd64 CFG_GUARD = guard ∧ (s.commitNoted cid guard src).cfg = { s.cfg with missed := false, head := src } ∧
    s.only [CFG_COMMIT, CFG_GUARD, CFG_GUARD + 4] [.cfg] (s.commitNoted cid guard src) := by
  have hcid : ((s.put CFG_COMMIT_CID cid).put CFG_COMMIT_APPLIED 0).get CFG_COMMIT_CID = cid :=
    (State.get_put_apart _ _ rfl).trans (State.get_put_self _ rfl hc)
  have happ : ((s.put CFG_COMMIT_CID cid).put CFG_COMMIT_APPLIED 0).get CFG_COMMIT_APPLIED = 0 := State.get_put_val _ _ _ rfl
  have hcfg : ((s.put CFG_COMMIT_CID cid).put CFG_COMMIT_APPLIED 0).cfg = s.cfg := (State.put_cfg _ _ _).trans (State.put_cfg _ _ _)
  have honly : s.only [CFG_COMMIT, CFG_GUARD, CFG_GUARD + 4] [.cfg] ((s.put CFG_COMMIT_CID cid).put CFG_COMMIT_APPLIED 0) :=
    ((s.only_refl _ _).put _ (by simp [CFG_COMMIT_CID])).put _ (by simp [CFG_COMMIT_APPLIED])
  rw [State.commitNoted]
  generalize (s.put CFG_COMMIT_CID cid).put CFG_COMMIT_APPLIED 0 = u at hcid happ hcfg honly ⊢
  have hguard : u.only [CFG_GUARD, CFG_GUARD + 4] [] (u.wr64 CFG_GUARD guard) := (u.only_refl _ _).wr64 _ (by simp) (by simp)
  exact ⟨(hguard.get_eq (by decide)).trans hcid, (hguard.get_eq (by decide)).trans happ, (State.rd64_wr64_same _ _ _).trans (Nat.mod_eq_of_lt hg),
    congrArg (fun c : CfgSt => { c with missed := false, head := src }) hcfg, (honly.wr64 _ (by simp) (by simp)).with_cfg _ (by simp)⟩

/-! ### GO and ABORT -/

theorem State.cfgGo_armed {cid t : Nat} {src : Nat × Nat} (ho : s.open_ 0x04 = true) (hc : s.get CFG_COMMIT_CID = cid)
    (ha : s.on CFG_COMMIT_APPLIED = false) (hst : s.get CFG_STAT_STATE = 3) (hring : s.on CFG_STAT_RING = true) (hm : s.mode ≠ 4) :
    s.cfgGo cid t src = if (t + 31249) / 31250 * 31250 ≤ s.now then
      (s.put CFG_MISSED_LATE_GO (min 65535 (s.get CFG_MISSED_LATE_GO + 1))).miss 0x06 0x04 0 t
      else s.modCfg fun c => { c with way := 3, at_ := t } := by
  rw [State.cfgGo, if_neg (by simp [ho, hc]), if_neg (by simp [ha]), if_neg (by simp [State.cfgState, hst, hring, hm])]

theorem exec_go_open {cid : BitVec 16} {time : DWord} {node : BitVec 8} {chip : Fin 4} (ho : s.open_ 0x04 = true) :
    exec (.go cid time node chip) s = .next (s.cfgGo cid.toNat time.toNat (node.toNat, chip.val)) := by
  have hr : s.inReset 0x04 = false := by
    simp only [State.open_, Bool.and_eq_true, Bool.not_eq_true'] at ho
    exact ho.1
  exact if_neg (by simp [hr])

theorem exec_go_other {cid : BitVec 16} {time : DWord} {node : BitVec 8} {chip : Fin 4} (h : s.get CFG_COMMIT_CID ≠ cid.toNat) :
    exec (.go cid time node chip) s = .next s := by
  have hgo : s.cfgGo cid.toNat time.toNat (node.toNat, chip.val) = s := by rw [State.cfgGo, if_pos (by simp [h])]
  change execGo cid time node chip s = _
  rw [execGo]
  split
  · rfl
  · rw [hgo]

theorem exec_cfgAbortMsg_other {cid : BitVec 16} (h : s.get CFG_STAT_STATE ≠ 3 ∨ s.get CFG_COMMIT_CID ≠ cid.toNat) :
    exec (.cfgAbortMsg cid) s = .next s := by
  have habort : s.cfgAbortRx cid.toNat = s := by
    rw [State.cfgAbortRx, if_neg]
    obtain h | h := h <;> simp [State.cfgState, h]
  change execCfgAbortMsg cid s = _
  rw [execCfgAbortMsg]
  split
  · rfl
  · rw [habort]

/-! ### GUARD -/

theorem State.only_toBoundary : s.only [TIME_SPINDLE, TIME_SPINDLE + 4] [.time, .sys] s.toBoundary := by
  rw [State.toBoundary]
  split
  · exact s.only_refl _ _
  · exact (((s.only_refl _ _).with_time _ (by simp)).with_sys _ (by simp)).wr64 _ (by simp) (by simp)

theorem State.die_toBoundary : s.toBoundary.sys.die = s.sys.die := by
  rw [State.toBoundary]
  split
  · rfl
  · rfl

/-- The missed commit as the hub notes it, before its fault and its message. -/
def State.guardMissed (s : State) : State :=
  ((s.modCfg fun c => { c with missed := true }).put CFG_STAT_MISSED 1).satAdd CFG_MISSED_COUNT 1

theorem State.guardMissed_spec : s.guardMissed.get CFG_STAT_MISSED = 1 ∧ s.guardMissed.cfg = { s.cfg with missed := true } ∧
    s.guardMissed.get CFG_MISSED_COUNT = min 65535 (s.get CFG_MISSED_COUNT + 1) ∧ s.guardMissed.get CFG_STAT_STATE = s.get CFG_STAT_STATE ∧
    s.only [CFG_STAT, CFG_MISSED] [.cfg] s.guardMissed := by
  have hput : s.only [CFG_STAT, CFG_MISSED] [.cfg] ((s.modCfg fun c => { c with missed := true }).put CFG_STAT_MISSED 1) :=
    ((s.only_refl _ _).with_cfg _ (by simp)).put _ (by simp [CFG_STAT_MISSED])
  have hmiss : ((s.modCfg fun c => { c with missed := true }).put CFG_STAT_MISSED 1).get CFG_STAT_MISSED = 1 := State.get_put_val _ _ _ rfl
  have hcount : ((s.modCfg fun c => { c with missed := true }).put CFG_STAT_MISSED 1).get CFG_MISSED_COUNT = s.get CFG_MISSED_COUNT :=
    State.get_put_apart _ _ rfl
  have hstate : ((s.modCfg fun c => { c with missed := true }).put CFG_STAT_MISSED 1).get CFG_STAT_STATE = s.get CFG_STAT_STATE :=
    State.get_put_apart _ _ rfl
  have hcfg : ((s.modCfg fun c => { c with missed := true }).put CFG_STAT_MISSED 1).cfg = { s.cfg with missed := true } := State.put_cfg _ _ _
  rw [State.guardMissed]
  generalize (s.modCfg fun c => { c with missed := true }).put CFG_STAT_MISSED 1 = u at hput hmiss hcount hstate hcfg ⊢
  refine ⟨(State.get_put_apart _ _ rfl).trans hmiss, (State.put_cfg _ _ _).trans hcfg, ?_, (State.get_put_apart _ _ rfl).trans hstate,
    hput.satAdd _ (by simp [CFG_MISSED_COUNT])⟩
  rw [← hcount]
  exact (State.get_satAdd_self _ _ rfl).trans (Nat.min_comm _ _)

theorem exec_guardExpiry_missed (hr : s.inReset 0x04 = false) (hst : s.get CFG_STAT_STATE = 3) (hring : s.on CFG_STAT_RING = true)
    (hmiss : s.cfg.missed = false) (hg : s.toBoundary.rd64 CFG_GUARD ≤ s.toBoundary.now) : ∃ dst cid,
    exec .guardExpiry s = .next (((s.toBoundary.guardMissed).fault 0x04 0x23 (s.toBoundary.get CFG_COMMIT_CID)).cfgSend dst 7 0 cid
      (s.toBoundary.rd64 CFG_GUARD)) := by
  refine ⟨((s.toBoundary.guardMissed).fault 0x04 0x23 (s.toBoundary.get CFG_COMMIT_CID)).cfg.head,
    ((s.toBoundary.guardMissed).fault 0x04 0x23 (s.toBoundary.get CFG_COMMIT_CID)).get CFG_COMMIT_CID, ?_⟩
  change execGuardExpiry s = _
  rw [execGuardExpiry, if_neg (by simp [hr]), if_pos (by simp [State.cfgState, hst, hring, hmiss])]
  dsimp only
  rw [if_pos hg]
  rfl

end

/-- Settles O22. Each message from the state of the commit machine that lists it; an answer that leaves through the switch core writes
only that core's blocks. -/
theorem ringWideCommit : Obligations.RingWideCommit := by
  unfold Obligations.RingWideCommit
  refine ⟨?_, ?_, ?_, ?_, ?_, ?_, ?_, ?_, ?_, ?_⟩
  · intro cid guard node chip s ho hf hm hst
    obtain ⟨hcid, happ, hguard, hcfg, honly⟩ := s.commitNoted_spec (cid := cid.toNat) (node.toNat, chip.val) cid.isLt guard.isLt
    have hexec := exec_prepare_begins (cid := cid) (guard := guard) (node := node) (chip := chip) ho hf hm hst
    generalize s.commitNoted cid.toNat guard.toNat (node.toNat, chip.val) = u at hcid happ hguard hcfg honly hexec
    obtain ⟨h2, hasked, hcheck⟩ := u.startCheck_spec 3
    exact ⟨_, hexec, h2, (hcheck.get_eq (by decide)).trans hcid, (hcheck.get_eq (by decide)).trans happ,
      (hcheck.rd64_eq (by decide) (by decide)).trans hguard, by rw [hasked, hcfg],
      (honly.mono (by simp) (by simp)).trans (hcheck.mono (by simp) (by simp))⟩
  · intro s hr hst hask hok
    obtain ⟨h3, hring, hcfg, honly⟩ := s.ringArmed_spec
    have hexec := exec_consistencyCheckDone_ring hr hst hask hok
    generalize s.ringArmed = u at h3 hring hcfg honly hexec
    have hconf := State.confined_cfgSend (s := u) s.cfg.head 2 0 (s.get CFG_COMMIT_CID) u.now
    have hparts := State.parts_cfgSend (s := u) s.cfg.head 2 0 (s.get CFG_COMMIT_CID) u.now
    exact ⟨_, hexec, (hconf.get_eq (by decide)).trans h3, (hconf.get_eq (by decide)).trans hring, (hparts .cfg (by simp)).trans hcfg,
      (hparts .mem (by simp)).trans (honly.2 .mem (by simp))⟩
  · intro cid time node chip s ho hc ha hst hring hm hnow
    exact ⟨_, (exec_go_open ho).trans (congrArg _ ((State.cfgGo_armed ho hc ha hst hring hm).trans (if_neg (by omega)))), rfl,
      (s.only_refl _ _).with_cfg _ (by simp)⟩
  · intro cid time node chip s ho hc ha hst hring hm hnow h0f hq
    have hexec := (exec_go_open (time := time) (node := node) (chip := chip) ho).trans
      (congrArg _ ((State.cfgGo_armed (src := (node.toNat, chip.val)) ho hc ha hst hring hm).trans (if_pos hnow)))
    have hcount : (s.put CFG_MISSED_LATE_GO (min 65535 (s.get CFG_MISSED_LATE_GO + 1))).get CFG_MISSED_LATE_GO =
        min 65535 (s.get CFG_MISSED_LATE_GO + 1) := State.get_put_self _ rfl (Nat.lt_of_le_of_lt (Nat.min_le_left _ _) (by decide))
    have hput : s.only [CFG_MISSED] [] (s.put CFG_MISSED_LATE_GO (min 65535 (s.get CFG_MISSED_LATE_GO + 1))) :=
      (s.only_refl _ _).put _ (by simp [CFG_MISSED_LATE_GO])
    generalize s.put CFG_MISSED_LATE_GO (min 65535 (s.get CFG_MISSED_LATE_GO + 1)) = u at hexec hcount hput
    have htime : u.time = s.time := hput.2 .time (by simp)
    have hnow' : u.now = s.now := hput.rd64_eq (by decide) (by decide)
    obtain ⟨hmiss, honly⟩ := State.only_miss_room (s := u) (kind := 6) (src := 4) (index := 0) (deadline := time.toNat)
      ((hput.inReset_eq (by decide) (by decide) (by simp) _).trans h0f) (by rw [htime]; exact hq)
    rw [State.missed, hnow', htime] at hmiss
    exact ⟨_, hexec, (honly.get_eq (by simp)).trans hcount, hmiss, (hput.mono (by simp) (by simp)).trans (honly.mono (by simp) (by simp))⟩
  · intro cid time node chip s hc
    exact ⟨_, exec_go_other hc, s.only_refl _ _⟩
  · intro cid s hr hst hc
    obtain ⟨h1, hring, hcfg, honly⟩ := s.toOpen_spec
    have hexec : exec (.cfgAbortMsg cid) s = .next s.toOpen := by
      change execCfgAbortMsg cid s = _
      rw [execCfgAbortMsg, if_neg (by simp [hr]), State.cfgAbortRx, if_pos (by simp [State.cfgState, hr, hst, hc])]
    exact ⟨_, hexec, h1, hring, hcfg, honly⟩
  · intro cid s h
    exact ⟨_, exec_cfgAbortMsg_other h, s.only_refl _ _⟩
  · intro s hr hst hring hmiss hg hroomy h0d
    obtain ⟨dst, cid, hexec⟩ := exec_guardExpiry_missed hr hst hring hmiss hg
    have hbound := s.only_toBoundary
    have hcount : s.toBoundary.get CFG_MISSED_COUNT = s.get CFG_MISSED_COUNT := hbound.get_eq (by decide)
    have hcfg : s.toBoundary.cfg = s.cfg := hbound.2 .cfg (by simp)
    have hcid : s.toBoundary.get CFG_COMMIT_CID = s.get CFG_COMMIT_CID := hbound.get_eq (by decide)
    have hroom := hbound.roomy hroomy (by decide) (by decide) (by simp)
    have h0d' := (State.inReset_congr (hbound.1 _ (by decide)) (hbound.1 _ (by decide)) s.die_toBoundary 0x0D).trans h0d
    generalize s.toBoundary = u at hexec hcount hcfg hcid hroom h0d'
    obtain ⟨h1, hcfg1, hcount1, -, honly⟩ := u.guardMissed_spec
    have ht : u.guardMissed.sys = u.sys := honly.2 .sys (by simp)
    generalize u.guardMissed = v at hexec h1 hcfg1 hcount1 honly ht
    have hroom' := honly.roomy hroom (by decide) (by decide) (by simp)
    have hfault := hroom'.only_fault 0x04 0x23 (u.get CFG_COMMIT_CID)
    have hsent := (hroom'.sent_fault 0x04 0x23 (u.get CFG_COMMIT_CID)).of_eq (s := u) (honly.2 .fltQ (by simp)) (by rw [ht])
    generalize v.fault 0x04 0x23 (u.get CFG_COMMIT_CID) = w at hexec hfault hsent
    rw [State.cfgSend_reset _ _ _ _ _ ((hfault.inReset_eq (by simp) (by simp) (by simp) _).trans
      ((honly.inReset_eq (by decide) (by decide) (by simp) _).trans h0d'))] at hexec
    exact ⟨w, hexec, (hfault.get_eq (by simp)).trans h1, ((hfault.2 .cfg (by simp)).trans hcfg1).trans (by rw [hcfg]),
      ((hfault.get_eq (by simp)).trans hcount1).trans (by rw [hcount]), by rw [← hcid]; exact hsent,
      (honly.mono (by simp) (by simp)).trans (hfault.mono (by simp) (by simp))⟩
  · intro s hr hst hring hmiss hg
    obtain ⟨dst, cid, hexec⟩ := exec_guardExpiry_missed hr hst hring hmiss hg
    have hbound := s.only_toBoundary
    have hcount : s.toBoundary.get CFG_MISSED_COUNT = s.get CFG_MISSED_COUNT := hbound.get_eq (by decide)
    have hstate : s.toBoundary.get CFG_STAT_STATE = 3 := (hbound.get_eq (by decide)).trans hst
    have hcfg : s.toBoundary.cfg = s.cfg := hbound.2 .cfg (by simp)
    have hmem : s.toBoundary.mem = s.mem := hbound.2 .mem (by simp)
    generalize s.toBoundary = u at hexec hcount hstate hcfg hmem
    obtain ⟨h1, hcfg1, hcount1, hstate1, honly⟩ := u.guardMissed_spec
    have hmem1 : u.guardMissed.mem = u.mem := honly.2 .mem (by simp)
    generalize u.guardMissed = v at hexec h1 hcfg1 hcount1 hstate1 hmem1
    have hfault := v.only_fault 0x04 0x23 (u.get CFG_COMMIT_CID)
    generalize v.fault 0x04 0x23 (u.get CFG_COMMIT_CID) = w at hexec hfault
    have hconf := State.confined_cfgSend (s := w) dst 7 0 cid (u.rd64 CFG_GUARD)
    have hparts := State.parts_cfgSend (s := w) dst 7 0 cid (u.rd64 CFG_GUARD)
    exact ⟨_, hexec, (hconf.get_eq (by decide)).trans ((hfault.get_eq (by decide)).trans h1),
      ((hparts .cfg (by simp)).trans ((hfault.2 .cfg (by simp)).trans hcfg1)).trans (by rw [hcfg]),
      (hconf.get_eq (by decide)).trans ((hfault.get_eq (by decide)).trans (hcount1.trans (by rw [hcount]))),
      (hconf.get_eq (by decide)).trans ((hfault.get_eq (by decide)).trans (hstate1.trans hstate)),
      (hparts .mem (by simp)).trans ((hfault.2 .mem (by simp)).trans (hmem1.trans hmem))⟩
  · intro s hmiss
    have hexec : exec .guardExpiry s = .next s := by
      change execGuardExpiry s = _
      rw [execGuardExpiry]
      split
      · rfl
      · rw [if_neg (by simp [hmiss])]
    exact ⟨s, hexec, s.only_refl _ _⟩

end Sys2Proof.Machine

/-! A lane that goes down: what its own block shows, and what the ring does about it (R149). -/
namespace Sys2Proof.Machine

set_option Elab.async false

/-- The blocks that the fall of a ring lane reaches beside the lane's own: the switch core's, and TIME. -/
def ringBlks : List Nat := 0x0F :: switchBlks

section
variable {s : State}

theorem laneBlk_notMem {l : Nat} (hl : l < 4) : laneBlk l ∉ ringBlks := by
  interval_cases l <;> decide

/-! ### What the ring does -/

theorem State.confined_cenSend (dst lane : Nat) (ws : List DWord) (hl : lane < 4) : s.confined switchBlks (s.cenSend dst lane ws) :=
  State.confined_originate 5 fun _ h => (Option.some.inj h) ▸ hl

theorem State.confined_sendNote : s.confined switchBlks s.sendNote := by
  rw [State.sendNote]
  refine .ite (s.confined_refl _) ((s.confined_refl _).each fun t l hl => ?_)
  have hlt : l < 4 := by
    simp only [List.mem_cons, List.not_mem_nil, or_false] at hl
    omega
  exact .ite (State.confined_cenSend _ _ _ hlt) (t.confined_refl _)

theorem State.confined_lsvAnchor : s.confined [] s.lsvAnchor :=
  (s.confined_refl _).each fun t _ _ => (t.confined_refl _).same rfl rfl rfl

theorem State.confined_anchorOff : s.confined [0x0E] s.anchorOff :=
  State.confined.trans (((s.confined_refl _).put _ (by decide)).put _ (by decide)) (State.confined_lsvAnchor.mono (List.nil_subset _))

theorem State.confined_standby : s.confined [0x0E] s.standby :=
  (((s.confined_refl _).put _ (by decide)).put _ (by decide)).put _ (by decide)

theorem State.confined_claimCheck : s.confined [0x0E] s.claimCheck := by
  rw [State.claimCheck]
  exact .ite (((s.confined_refl _).put _ (by decide)).put _ (by decide)) (s.confined_refl _)

theorem State.confined_eligCheck : s.confined [0x0E] s.eligCheck := by
  rw [State.eligCheck]
  exact .ite (.ite (State.confined_standby.trans State.confined_claimCheck) (s.confined_refl _)) (.ite State.confined_anchorOff (s.confined_refl _))

theorem State.confined_conflictCheck : s.confined [0x05, 0x0E] s.conflictCheck := by
  rw [State.conflictCheck]
  refine State.confined.trans ?_ (State.confined_eligCheck.mono (by simp))
  exact (State.confined.ite (((s.confined_refl _).put _ (by decide)).fault _ _ _ (by decide)) (s.confined_refl _)).put _ (by decide)

theorem State.confined_pairCheck : s.confined [0x0E] s.pairCheck := by
  rw [State.pairCheck]
  exact .ite (s.confined_refl _) (.ite ((s.confined_refl _).put _ (by decide)) (.ite (s.confined_refl _) ((s.confined_refl _).put _ (by decide))))

theorem State.confined_setDir (d v : Nat) : s.confined [0x0E] (s.setDir d v) := by
  rw [State.setDir]
  exact .ite ((s.confined_refl _).put _ (by decide)) ((s.confined_refl _).put _ (by decide))

theorem State.confined_dirDown (d cause : Nat) (planned : Bool) : s.confined [0x0E] (s.dirDown d cause planned) := by
  have hdue : s.confined [0x0E] (s.setDue d (some cause)) := (s.confined_refl _).same rfl rfl rfl
  have hlost : s.confined [0x0E] ({ s with tst := { s.tst with lost := setBitTo s.tst.lost d true } } : State) := (s.confined_refl _).same rfl rfl rfl
  have hplan : s.confined [0x0E] (s.dirPlanned d) := hlost.trans (State.confined_setDir _ _)
  rw [State.dirDown]
  split
  · exact .ite hplan hdue
  · exact hdue
  · exact s.confined_refl _

theorem State.confined_planEnd (d cause : Nat) : s.confined [0x0E] (s.planEnd d cause) := by
  rw [State.planEnd]
  exact .ite ((s.confined_refl _).same rfl rfl rfl) (s.confined_refl _)

theorem State.confined_pdDown {p : Nat} (hp : p < 4) : s.confined [0x0F] (s.pdDown p) := by
  have hblk : blkOf (TIME_PORT_STAT_PD_VALID p).off ∈ [0x0F] := by
    interval_cases p <;> decide
  have hset : s.confined [0x0F] (s.setPd p false) := ((s.confined_refl _).put _ (by decide)).put _ hblk (by interval_cases p <;> decide)
  exact hset.same rfl rfl rfl

/-- What a lane that has gone down makes of the ring. -/
def State.ringTold (s : State) (l cause : Nat) (wasPlanned quiet : Bool) : State :=
  if l < 2 then (((if wasPlanned then s.planEnd l cause else s.dirDown l cause quiet).pdDown l).sendNote).conflictCheck else s.pdDown l

theorem State.confined_ringTold {l : Nat} (cause : Nat) (wasPlanned quiet : Bool) (hl : l < 4) :
    s.confined ringBlks (s.ringTold l cause wasPlanned quiet) := by
  rw [State.ringTold]
  have hdir : s.confined ringBlks (if wasPlanned then s.planEnd l cause else s.dirDown l cause quiet) :=
    .ite ((State.confined_planEnd _ _).mono (by decide)) ((State.confined_dirDown _ _ _).mono (by decide))
  refine .ite ?_ ((State.confined_pdDown hl).mono (by decide))
  exact ((hdir.trans ((State.confined_pdDown hl).mono (by decide))).trans (State.confined_sendNote.mono (by decide))).trans
    (State.confined_conflictCheck.mono (by decide))

/-! ### DETECT -/

/-- The fields that DETECT sets. -/
def detectFlds (l : Nat) : List Fld :=
  [LANE_TRAIN_STATE l, LANE_ALIGN_REQ l, LANE_TRAIN_ATTEMPTS l, LANE_STAT_RATE l, LANE_STAT_CDR_LOCK l, LANE_STAT_BLK_LOCK l, LANE_ALIGN_LOCK l]

theorem State.get_modLn (l : Nat) (g : LaneSt → LaneSt) (f : Fld) : (s.modLn l g).get f = s.get f := rfl

theorem State.get_satAdd_apart {f g : Fld} (n : Nat) (h : g.apart f = true) : (s.satAdd f n).get g = s.get g := State.get_put_apart _ _ h

theorem State.get_detect {l : Nat} {f : Fld} (h : (detectFlds l).all f.apart = true) : (s.detect l).get f = s.get f := by
  simp only [detectFlds, List.all_cons, List.all_nil, Bool.and_true, Bool.and_eq_true] at h
  obtain ⟨hst, hreq, hatt, hrate, hcdr, hblk, hlock⟩ := h
  rw [State.detect, State.setTrain]
  rw [State.get_modLn, State.get_put_apart _ _ hlock, State.get_put_apart _ _ hblk, State.get_put_apart _ _ hcdr, State.get_put_apart _ _ hrate,
    State.get_satAdd_apart _ hatt, State.get_put_apart _ _ hreq, State.get_put_apart _ _ hst]

theorem State.only_setTrain (l st : Nat) : s.only [LANE_TRAIN l, LANE_ALIGN l] [] (s.setTrain l st) :=
  ((s.only_refl _ _).put _ (by simp [LANE_TRAIN_STATE])).put _ (by simp [LANE_ALIGN_REQ])

theorem State.trainSt_setTrain {l st : Nat} (hl : l < 4) (hst : st < 16) : (s.setTrain l st).trainSt l = st := by
  have hap : (LANE_TRAIN_STATE l).apart (LANE_ALIGN_REQ l) = true := rfl
  exact (State.get_put_apart _ _ hap).trans (State.get_put_self _ (by interval_cases l <;> rfl) hst)

theorem State.only_detect (l : Nat) : s.only [LANE_STAT l, LANE_TRAIN l, LANE_ALIGN l] [.lane] (s.detect l) := by
  have htrain : s.only [LANE_STAT l, LANE_TRAIN l, LANE_ALIGN l] [.lane] (s.setTrain l 1) := (State.only_setTrain l 1).mono (by simp) (by simp)
  exact (((((htrain.satAdd _ (by simp [LANE_TRAIN_ATTEMPTS])).put _ (by simp [LANE_STAT_RATE])).put _ (by simp [LANE_STAT_CDR_LOCK])).put _
    (by simp [LANE_STAT_BLK_LOCK])).put _ (by simp [LANE_ALIGN_LOCK])).with_lane _ (by simp)

theorem State.trainSt_detect {l : Nat} (hl : l < 4) : (s.detect l).trainSt l = 1 := by
  have hstate := State.trainSt_setTrain (s := s) (st := 1) hl (by decide)
  have hlock : (LANE_TRAIN_STATE l).apart (LANE_ALIGN_LOCK l) = true := rfl
  have hblk : (LANE_TRAIN_STATE l).apart (LANE_STAT_BLK_LOCK l) = true := by interval_cases l <;> rfl
  have hcdr : (LANE_TRAIN_STATE l).apart (LANE_STAT_CDR_LOCK l) = true := by interval_cases l <;> rfl
  have hrate : (LANE_TRAIN_STATE l).apart (LANE_STAT_RATE l) = true := by interval_cases l <;> rfl
  have hatt : (LANE_TRAIN_STATE l).apart (LANE_TRAIN_ATTEMPTS l) = true := rfl
  rw [State.trainSt] at hstate ⊢
  rw [State.detect, State.get_modLn, State.get_put_apart _ _ hlock, State.get_put_apart _ _ hblk, State.get_put_apart _ _ hcdr,
    State.get_put_apart _ _ hrate, State.get_satAdd_apart _ hatt, hstate]

/-! ### The lane's own block -/

/-- What a lane that goes down shows first. -/
def State.downShown (s : State) (l cause : Nat) : State :=
  (((((s.rfStart l cause).put (LANE_STAT_DOWN_CAUSE l) cause).put (LANE_STAT_UP l) 0).put (LANE_STAT_VER l) 0).put (LANE_STAT_PLANNED l) 0).put
    (LANE_EVT_DOWN l) 1

/-- What a lane that goes down has counted and reported. -/
def State.downCounted (s : State) (l cause : Nat) : State :=
  ((s.downShown l cause).bump (LANE_DOWNS l)).when (!s.quietDown) fun s => s.fault (laneBlk l) 0x30 cause

/-- A lane that has gone down, before the ring hears of it. -/
def State.laneFallen (s : State) (l cause : Nat) : State :=
  ((s.downCounted l cause).when (cause == 1) fun s => s.put (LANE_TRAIN_FAILED l) 0).detect l

theorem State.laneDown_eq (l cause : Nat) :
    s.laneDown l cause = (s.laneFallen l cause).ringTold l cause (s.on (LANE_STAT_PLANNED l)) s.quietDown := by
  rw [State.laneDown, State.ringTold, State.laneFallen, State.downCounted, State.downShown]

theorem State.downShown_spec {l cause : Nat} (hl : l < 4) (hc : cause < 256) : (s.downShown l cause).get (LANE_STAT_DOWN_CAUSE l) = cause ∧
    (s.downShown l cause).get (LANE_STAT_UP l) = 0 ∧ (s.downShown l cause).get (LANE_EVT_DOWN l) = 1 ∧
    s.only [LANE_STAT l, LANE_EVT l] [.lane] (s.downShown l cause) ∧
    ∀ f, f.off = LANE_EVT l → f.apart (LANE_EVT_DOWN l) = true → (s.downShown l cause).get f = s.get f := by
  have hstat : s.only [LANE_STAT l] [.lane]
      ((((s.rfStart l cause).put (LANE_STAT_DOWN_CAUSE l) cause).put (LANE_STAT_UP l) 0).put (LANE_STAT_VER l) 0 |>.put (LANE_STAT_PLANNED l) 0) :=
    (((((s.only_refl _ _).with_lane _ (by simp)).put _ (by simp [LANE_STAT_DOWN_CAUSE])).put _ (by simp [LANE_STAT_UP])).put _
      (by simp [LANE_STAT_VER])).put _ (by simp [LANE_STAT_PLANNED])
  have hcause : ((((s.rfStart l cause).put (LANE_STAT_DOWN_CAUSE l) cause).put (LANE_STAT_UP l) 0).put (LANE_STAT_VER l) 0 |>.put
      (LANE_STAT_PLANNED l) 0).get (LANE_STAT_DOWN_CAUSE l) = cause :=
    (State.get_put_apart _ _ rfl).trans ((State.get_put_apart _ _ rfl).trans ((State.get_put_apart _ _ rfl).trans
      (State.get_put_self (f := LANE_STAT_DOWN_CAUSE l) _ (by interval_cases l <;> rfl) (show cause < 2 ^ 8 from hc))))
  have hup : ((((s.rfStart l cause).put (LANE_STAT_DOWN_CAUSE l) cause).put (LANE_STAT_UP l) 0).put (LANE_STAT_VER l) 0 |>.put
      (LANE_STAT_PLANNED l) 0).get (LANE_STAT_UP l) = 0 :=
    (State.get_put_apart _ _ rfl).trans ((State.get_put_apart _ _ rfl).trans (State.get_put_self (f := LANE_STAT_UP l) _ (by interval_cases l <;> rfl) (show 0 < 2 ^ 1 by decide)))
  rw [State.downShown]
  generalize ((((s.rfStart l cause).put (LANE_STAT_DOWN_CAUSE l) cause).put (LANE_STAT_UP l) 0).put (LANE_STAT_VER l) 0 |>.put
    (LANE_STAT_PLANNED l) 0) = u at hstat hcause hup ⊢
  have hne : LANE_STAT l ≠ LANE_EVT l := by interval_cases l <;> decide
  refine ⟨(State.get_put_ne _ _ _ _ hne).trans hcause, (State.get_put_ne _ _ _ _ hne).trans hup,
    State.get_put_self (f := LANE_EVT_DOWN l) _ (by interval_cases l <;> rfl) (show 1 < 2 ^ 1 by decide), (hstat.mono (by simp) (by simp)).put _ (by simp [LANE_EVT_DOWN]), fun f hf hap => ?_⟩
  exact (State.get_put_apart _ _ hap).trans (hstat.get_eq (by rw [hf]; simpa using hne.symm))

theorem satField_laneDowns {l : Nat} (hl : l < 4) : satField (LANE_DOWNS l) = some (LANE_EVT_SAT l) := by
  interval_cases l <;> rfl

theorem State.downCounted_spec {l cause : Nat} (hl : l < 4) (hc : cause < 256) : (s.downCounted l cause).get (LANE_STAT_DOWN_CAUSE l) = cause ∧
    (s.downCounted l cause).get (LANE_STAT_UP l) = 0 ∧ (s.downCounted l cause).get (LANE_EVT_DOWN l) = 1 ∧
    s.advanced (s.downCounted l cause) (LANE_DOWNS l) 1 ∧ s.only [LANE_STAT l, LANE_EVT l, FLT_STAT] [.live, .lane, .fltQ] (s.downCounted l cause) ∧
    (∀ f, f.off = LANE_EVT l → f.apart (LANE_EVT_DOWN l) = true → f.apart (LANE_EVT_SAT l) = true → (s.downCounted l cause).get f = s.get f) ∧
    (s.downCounted l cause).fltQ.length ≤ s.fltQ.length + 1 := by
  obtain ⟨hcause, hup, hdown, honly, hkeep⟩ := s.downShown_spec hl hc
  have hsat := satField_laneDowns hl
  have hlpw : LANE_EVT_SAT l ≠ LPW_STAT_SAT := by interval_cases l <;> decide
  have hne : LANE_STAT l ≠ LANE_EVT l := by interval_cases l <;> decide
  have hflt : LANE_STAT l ≠ FLT_STAT ∧ LANE_EVT l ≠ FLT_STAT ∧ LANE_DOWNS l ≠ FLT_CNT 5 := by interval_cases l <;> decide
  have hlive : s.cnt (LANE_DOWNS l) = (s.downShown l cause).cnt (LANE_DOWNS l) := (State.cnt_congr (honly.2 .live (by simp)) _).symm
  rw [State.downCounted]
  have hq : (s.downShown l cause).fltQ = s.fltQ := honly.2 .fltQ (by simp)
  generalize s.downShown l cause = u at hcause hup hdown honly hkeep hlive hq ⊢
  have hbcause : (u.bump (LANE_DOWNS l)).get (LANE_STAT_DOWN_CAUSE l) = cause :=
    (State.get_congr (State.rd_count _ _ hsat hlpw hne)).trans hcause
  have hbup : (u.bump (LANE_DOWNS l)).get (LANE_STAT_UP l) = 0 := (State.get_congr (State.rd_count _ _ hsat hlpw hne)).trans hup
  have hbdown : (u.bump (LANE_DOWNS l)).get (LANE_EVT_DOWN l) = 1 := (State.get_count _ _ hsat hlpw rfl).trans hdown
  have hbcnt : (u.bump (LANE_DOWNS l)).cnt (LANE_DOWNS l) = min (s.cnt (LANE_DOWNS l) + 1) (2 ^ 48 - 1) := by
    rw [hlive]
    exact State.cnt_count_self _ _ _
  have hbonly : s.only [LANE_STAT l, LANE_EVT l, FLT_STAT] [.live, .lane, .fltQ] (u.bump (LANE_DOWNS l)) := by
    refine (honly.mono (by simp) (by simp)).trans (State.only_count _ _ _ (by simp) fun f hf => ?_)
    obtain rfl := Option.some.inj (hsat.symm.trans hf)
    exact ⟨by simp [LANE_EVT_SAT], fun h => absurd h hlpw⟩
  have hbkeep : ∀ f, f.off = LANE_EVT l → f.apart (LANE_EVT_DOWN l) = true → f.apart (LANE_EVT_SAT l) = true →
      (u.bump (LANE_DOWNS l)).get f = s.get f :=
    fun f hf hap hsa => (State.get_count _ _ hsat hlpw hsa).trans (hkeep f hf hap)
  have hbq : (u.bump (LANE_DOWNS l)).fltQ = s.fltQ := ((State.bump_foot u (LANE_DOWNS l)).fltQ rfl).trans hq
  generalize u.bump (LANE_DOWNS l) = v at hbcause hbup hbdown hbcnt hbonly hbkeep hbq ⊢
  cases s.quietDown
  · have hfault := v.only_fault (laneBlk l) 0x30 cause
    have hfcnt : (v.fault (laneBlk l) 0x30 cause).cnt (LANE_DOWNS l) = v.cnt (LANE_DOWNS l) := State.cnt_faultMsg _ hflt.2.2
    have hfq : (v.fault (laneBlk l) 0x30 cause).fltQ.length ≤ v.fltQ.length + 1 := by
      rw [State.fault, State.faultMsg]
      split
      · exact Nat.le_succ _
      · split
        · exact le_of_eq (fltInsert_length _ _)
        · rw [(State.bump_foot _ _).fltQ rfl, State.put_fltQ]
          exact (List.length_take_le' _ _).trans (le_of_eq (fltInsert_length _ _))
    have hstat : LANE_STAT l ∉ [FLT_STAT] := by simpa using hflt.1
    have hevt : LANE_EVT l ∉ [FLT_STAT] := by simpa using hflt.2.1
    rw [show (v.when (!false) fun s => s.fault (laneBlk l) 0x30 cause) = v.fault (laneBlk l) 0x30 cause from rfl]
    exact ⟨(hfault.get_eq hstat).trans hbcause, (hfault.get_eq hstat).trans hbup, (hfault.get_eq hevt).trans hbdown, hfcnt.trans hbcnt,
      hbonly.trans (hfault.mono (by simp) (by simp)), fun f hf hap hsa => (hfault.get_eq (by rw [hf]; exact hevt)).trans (hbkeep f hf hap hsa),
      hbq ▸ hfq⟩
  · exact ⟨hbcause, hbup, hbdown, hbcnt, hbonly, hbkeep, hbq ▸ Nat.le_succ _⟩

theorem State.laneFallen_spec {l cause : Nat} (hl : l < 4) (hc : cause < 256) : (s.laneFallen l cause).trainSt l = 1 ∧
    (s.laneFallen l cause).get (LANE_STAT_DOWN_CAUSE l) = cause ∧
    (s.laneFallen l cause).get (LANE_STAT_UP l) = 0 ∧ (s.laneFallen l cause).get (LANE_EVT_DOWN l) = 1 ∧
    s.advanced (s.laneFallen l cause) (LANE_DOWNS l) 1 ∧
    s.only [LANE_STAT l, LANE_EVT l, LANE_TRAIN l, LANE_ALIGN l, FLT_STAT] [.live, .lane, .fltQ] (s.laneFallen l cause) ∧
    (∀ f, f.off = LANE_EVT l → f.apart (LANE_EVT_DOWN l) = true → f.apart (LANE_EVT_SAT l) = true → (s.laneFallen l cause).get f = s.get f) ∧
    (cause ≠ 1 → (s.laneFallen l cause).get (LANE_TRAIN_FAILED l) = s.get (LANE_TRAIN_FAILED l)) ∧
    (s.laneFallen l cause).fltQ.length ≤ s.fltQ.length + 1 := by
  obtain ⟨hcause, hup, hdown, hcnt, honly, hkeep, hlen⟩ := s.downCounted_spec hl hc
  rw [State.laneFallen]
  have hfailed : (s.downCounted l cause).get (LANE_TRAIN_FAILED l) = s.get (LANE_TRAIN_FAILED l) := honly.get_eq (by interval_cases l <;> decide)
  generalize s.downCounted l cause = u at hcause hup hdown hcnt honly hkeep hlen hfailed ⊢
  have hw : u.only [LANE_TRAIN l] [] (u.when (cause == 1) fun s => s.put (LANE_TRAIN_FAILED l) 0) :=
    (u.only_refl _ _).when ((u.only_refl _ _).put _ (by simp [LANE_TRAIN_FAILED]))
  have hwfail : cause ≠ 1 → (u.when (cause == 1) fun s => s.put (LANE_TRAIN_FAILED l) 0).get (LANE_TRAIN_FAILED l) = s.get (LANE_TRAIN_FAILED l) := by
    intro h1
    rw [show (cause == 1) = false by simpa using h1]
    exact hfailed
  have hwq : (u.when (cause == 1) fun s => s.put (LANE_TRAIN_FAILED l) 0).fltQ = u.fltQ := hw.2 .fltQ (by simp)
  have hwcnt := State.cnt_congr (hw.2 .live (by simp)) (LANE_DOWNS l)
  generalize u.when (cause == 1) (fun s => s.put (LANE_TRAIN_FAILED l) 0) = v at hw hwfail hwq hwcnt ⊢
  have hdet := State.only_detect (s := v) l
  have hstat : LANE_STAT l ∉ [LANE_TRAIN l] := by interval_cases l <;> decide
  have hevt : LANE_EVT l ∉ [LANE_TRAIN l] ∧ LANE_EVT l ∉ [LANE_STAT l, LANE_TRAIN l, LANE_ALIGN l] := by interval_cases l <;> decide
  have happ : (detectFlds l).all (LANE_STAT_DOWN_CAUSE l).apart = true ∧ (detectFlds l).all (LANE_STAT_UP l).apart = true ∧
      (detectFlds l).all (LANE_TRAIN_FAILED l).apart = true := by interval_cases l <;> decide
  refine ⟨State.trainSt_detect hl, (State.get_detect happ.1).trans ((hw.get_eq hstat).trans hcause),
    (State.get_detect happ.2.1).trans ((hw.get_eq hstat).trans hup), (hdet.get_eq hevt.2).trans ((hw.get_eq hevt.1).trans hdown), ?_,
    ((honly.mono (by simp) (by simp)).trans (hw.mono (by simp) (by simp))).trans (hdet.mono (by simp) (by simp)), fun f hf hap hsa => ?_,
    fun h1 => (State.get_detect happ.2.2).trans (hwfail h1), ?_⟩
  · exact (State.cnt_congr (hdet.2 .live (by simp)) _).trans (hwcnt.trans hcnt)
  · exact (hdet.get_eq (by rw [hf]; exact hevt.2)).trans ((hw.get_eq (by rw [hf]; exact hevt.1)).trans (hkeep f hf hap hsa))
  · rw [show (v.detect l).fltQ = v.fltQ from hdet.2 .fltQ (by simp), hwq]
    exact hlen

/-! ### The whole fall -/

theorem blkOf_lane {l : Nat} (hl : l < 4) : blkOf (LANE_STAT l) = laneBlk l ∧ blkOf (LANE_EVT l) = laneBlk l ∧ blkOf (LANE_TRAIN l) = laneBlk l ∧
    blkOf (LANE_ALIGN l) = laneBlk l ∧ blkOf (LANE_DOWNS l) = laneBlk l := by
  interval_cases l <;> decide

/-- What a lane's own registers show when it has gone down. -/
theorem State.laneDown_spec {l cause : Nat} (hl : l < 4) (hc : cause < 256) : (s.laneDown l cause).trainSt l = 1 ∧
    (s.laneDown l cause).get (LANE_STAT_DOWN_CAUSE l) = cause ∧ (s.laneDown l cause).get (LANE_STAT_UP l) = 0 ∧
    (s.laneDown l cause).get (LANE_EVT_DOWN l) = 1 ∧ s.advanced (s.laneDown l cause) (LANE_DOWNS l) 1 ∧
    (∀ f, f.off = LANE_EVT l → f.apart (LANE_EVT_DOWN l) = true → f.apart (LANE_EVT_SAT l) = true → (s.laneDown l cause).get f = s.get f) ∧
    (cause ≠ 1 → (s.laneDown l cause).get (LANE_TRAIN_FAILED l) = s.get (LANE_TRAIN_FAILED l)) := by
  obtain ⟨hst, hcause, hup, hdown, hcnt, honly, hkeep, hfail, -⟩ := s.laneFallen_spec hl hc
  obtain ⟨hbstat, hbevt, hbtrain, -, hbdowns⟩ := blkOf_lane hl
  have hout := laneBlk_notMem hl
  rw [State.laneDown_eq]
  have hconf := State.confined_ringTold (s := s.laneFallen l cause) cause (s.on (LANE_STAT_PLANNED l)) s.quietDown hl
  generalize s.laneFallen l cause = u at hst hcause hup hdown hcnt hkeep hfail hconf ⊢
  have hstat : blkOf (LANE_STAT l) ∉ ringBlks := hbstat ▸ hout
  have hevt : blkOf (LANE_EVT l) ∉ ringBlks := hbevt ▸ hout
  have htrain : blkOf (LANE_TRAIN l) ∉ ringBlks := hbtrain ▸ hout
  exact ⟨(hconf.get_eq htrain).trans hst, (hconf.get_eq hstat).trans hcause, (hconf.get_eq hstat).trans hup, (hconf.get_eq hevt).trans hdown,
    (hconf.cnt _ (hbdowns ▸ hout)).trans hcnt, fun f hf hap hsa => (hconf.get_eq (by rw [hf]; exact hevt)).trans (hkeep f hf hap hsa),
    fun h1 => (hconf.get_eq htrain).trans (hfail h1)⟩

theorem State.confined.modLn {t : State} {bs : List Nat} (h : s.confined bs t) (l : Nat) (g : LaneSt → LaneSt) : s.confined bs (t.modLn l g) :=
  h.same rfl rfl rfl

/-- A write of a field in a lane's own block. -/
theorem State.confined.putLane {t : State} {bs : List Nat} (h : s.confined bs t) {l : Nat} {f : Fld} (v : Nat) (hb : laneBlk l ∈ bs)
    (hl : blkOf f.off = laneBlk l) : s.confined bs (t.put f v) := by
  refine h.put v (hl ▸ hb) fun he => ?_
  rw [he] at hl
  have h1 : blkOf MPC_MODE = 1 := rfl
  rw [h1, laneBlk] at hl
  omega

theorem State.confined_setTrain {l : Nat} (st : Nat) (hl : l < 4) : s.confined [laneBlk l] (s.setTrain l st) := by
  obtain ⟨-, -, htrain, halign, -⟩ := blkOf_lane hl
  exact ((s.confined_refl _).putLane _ (by simp) htrain).putLane _ (by simp) halign

theorem State.confined_detect {l : Nat} (hl : l < 4) : s.confined [laneBlk l] (s.detect l) := by
  obtain ⟨hstat, -, htrain, halign, -⟩ := blkOf_lane hl
  have hset := State.confined_setTrain (s := s) 1 hl
  rw [State.detect]
  generalize s.setTrain l 1 = u at hset ⊢
  have hmem : laneBlk l ∈ [laneBlk l] := by simp
  have hatt : s.confined [laneBlk l] (u.satAdd (LANE_TRAIN_ATTEMPTS l) 1) := hset.putLane _ hmem htrain
  have hrate := hatt.putLane (f := LANE_STAT_RATE l) (if s.gh320 then 2 else 0) hmem hstat
  have hcdr := hrate.putLane (f := LANE_STAT_CDR_LOCK l) 0 hmem hstat
  have hblk := hcdr.putLane (f := LANE_STAT_BLK_LOCK l) 0 hmem hstat
  have hlock := hblk.putLane (f := LANE_ALIGN_LOCK l) 0 hmem halign
  exact hlock.modLn _ _

theorem State.confined_laneFallen {l : Nat} (cause : Nat) (hl : l < 4) : s.confined [0x05, laneBlk l] (s.laneFallen l cause) := by
  obtain ⟨hstat, hevt, htrain, -, hdowns⟩ := blkOf_lane hl
  have hmem : laneBlk l ∈ [0x05, laneBlk l] := by simp
  have hrf : s.confined [0x05, laneBlk l] (s.rfStart l cause) := by
    rw [State.rfStart]
    exact (s.confined_refl _).modLn _ _
  have hcause := hrf.putLane (f := LANE_STAT_DOWN_CAUSE l) cause hmem hstat
  have hup := hcause.putLane (f := LANE_STAT_UP l) 0 hmem hstat
  have hver := hup.putLane (f := LANE_STAT_VER l) 0 hmem hstat
  have hplan := hver.putLane (f := LANE_STAT_PLANNED l) 0 hmem hstat
  have hdown : s.confined [0x05, laneBlk l] (s.downShown l cause) := hplan.putLane (f := LANE_EVT_DOWN l) 1 hmem hevt
  rw [State.laneFallen, State.downCounted]
  generalize s.downShown l cause = u at hdown ⊢
  have hcount := hdown.bump (c := LANE_DOWNS l) (by simp [hdowns])
  generalize u.bump (LANE_DOWNS l) = v at hcount ⊢
  have hfault := hcount.when (c := !s.quietDown) (f := fun s => s.fault (laneBlk l) 0x30 cause) ((v.confined_refl _).fault _ _ _ (by simp))
  generalize v.when (!s.quietDown) (fun s => s.fault (laneBlk l) 0x30 cause) = w at hfault ⊢
  have hfail := hfault.when (c := cause == 1) (f := fun s => s.put (LANE_TRAIN_FAILED l) 0)
    ((w.confined_refl _).putLane _ hmem htrain)
  exact hfail.trans ((State.confined_detect hl).mono (by simp))

/-- A lane that goes down leaves the other lanes' registers. -/
theorem State.confined_laneDown {l : Nat} (cause : Nat) (hl : l < 4) : s.confined (laneBlk l :: ringBlks) (s.laneDown l cause) := by
  rw [State.laneDown_eq]
  refine ((State.confined_laneFallen cause hl).mono ?_).trans ((State.confined_ringTold _ _ _ hl).mono (by simp))
  simp [ringBlks, switchBlks]

end

end Sys2Proof.Machine

/-! Straps, rails, REFCLK, RC100 and the emptied log (R17, R18, R96 to R98, R107). -/
namespace Sys2Proof.Machine

set_option Elab.async false

section
variable {s : State}

/-! ### Straps (R96) -/

/-- The straps as they are latched. -/
def State.strapped (s : State) (tm cp : Bool) (sid : Nat) (tw hd : Bool) : State :=
  ((((({ s with sys := { s.sys with strapDue := false } } : State).put ID_STRAP_TESTMODE (b2n tm)).put ID_STRAP_COMPAT (b2n cp)).put
    ID_STRAP_STACK_ID sid).put ID_STRAP_TWIN_PREF (b2n tw)).put ID_STRAP_HEAD (b2n hd)

theorem State.strapped_spec (tm cp : Bool) {sid : Nat} (tw hd : Bool) (h : sid < 4) :
    (s.strapped tm cp sid tw hd).get ID_STRAP_TESTMODE = b2n tm ∧ (s.strapped tm cp sid tw hd).get ID_STRAP_COMPAT = b2n cp ∧
    (s.strapped tm cp sid tw hd).get ID_STRAP_STACK_ID = sid ∧ (s.strapped tm cp sid tw hd).get ID_STRAP_TWIN_PREF = b2n tw ∧
    (s.strapped tm cp sid tw hd).get ID_STRAP_HEAD = b2n hd ∧ (s.strapped tm cp sid tw hd).sys = { s.sys with strapDue := false } ∧
    s.only [ID_STRAP] [.sys] (s.strapped tm cp sid tw hd) := by
  have hb (b : Bool) : b2n b < 2 ^ 1 := b2n_lt b
  rw [State.strapped]
  refine ⟨?_, ?_, ?_, ?_, ?_, rfl, ?_⟩
  · rw [State.get_put_apart _ _ rfl, State.get_put_apart _ _ rfl, State.get_put_apart _ _ rfl, State.get_put_apart _ _ rfl]
    exact State.get_put_self _ rfl (hb tm)
  · rw [State.get_put_apart _ _ rfl, State.get_put_apart _ _ rfl, State.get_put_apart _ _ rfl]
    exact State.get_put_self _ rfl (hb cp)
  · rw [State.get_put_apart _ _ rfl, State.get_put_apart _ _ rfl]
    exact State.get_put_self _ rfl h
  · rw [State.get_put_apart _ _ rfl]
    exact State.get_put_self _ rfl (hb tw)
  · exact State.get_put_self _ rfl (hb hd)
  · exact (((((((s.only_refl _ _).with_sys _ (by simp)).put _ (by simp [ID_STRAP_TESTMODE])).put _ (by simp [ID_STRAP_COMPAT])).put _
      (by simp [ID_STRAP_STACK_ID])).put _ (by simp [ID_STRAP_TWIN_PREF])).put _ (by simp [ID_STRAP_HEAD]))

theorem State.only_levels (l : List Nat) : s.only (l.map SQ_LVL) []
    (s.each l fun s q => if s.on (SQ_LVL_LEVEL q) then s else s.put (SQ_LVL_LEVEL q) 1) := by
  refine State.only_each (fun u q hq => ?_) s
  split
  · exact u.only_refl _ _
  · exact (u.only_refl _ _).put _ (List.mem_map.2 ⟨q, hq, rfl⟩)

theorem strap_notMem_levels : ID_STRAP ∉ (List.range 64).map SQ_LVL := by
  simp only [List.mem_map, List.mem_range, not_exists, not_and]
  intro q hq he
  simp only [SQ_LVL, ID_STRAP] at he
  omega

/-- GH-320 behaviour shows beside the straps, and else in the queue levels only. -/
theorem State.setGh320_spec : s.setGh320.gh320 = (s.on CFG_CTL_LEGACY || s.on ID_STRAP_COMPAT) ∧
    (∀ f, f.off = ID_STRAP → f.apart ID_STRAP_GH320 = true → s.setGh320.get f = s.get f) ∧
    s.only (ID_STRAP :: (List.range 64).map SQ_LVL) [] s.setGh320 := by
  rw [State.setGh320]
  have hget : (s.put ID_STRAP_GH320 (b2n (s.on CFG_CTL_LEGACY || s.on ID_STRAP_COMPAT))).on ID_STRAP_GH320 =
      (s.on CFG_CTL_LEGACY || s.on ID_STRAP_COMPAT) := by
    rw [State.on, State.get_put_self _ rfl (b2n_lt _)]
    cases (s.on CFG_CTL_LEGACY || s.on ID_STRAP_COMPAT) <;> rfl
  have hkeep (f : Fld) (ha : f.apart ID_STRAP_GH320 = true) :
      (s.put ID_STRAP_GH320 (b2n (s.on CFG_CTL_LEGACY || s.on ID_STRAP_COMPAT))).get f = s.get f := State.get_put_apart _ _ ha
  have hput : s.only [ID_STRAP] [] (s.put ID_STRAP_GH320 (b2n (s.on CFG_CTL_LEGACY || s.on ID_STRAP_COMPAT))) :=
    (s.only_refl _ _).put _ (by simp [ID_STRAP_GH320])
  generalize s.put ID_STRAP_GH320 (b2n (s.on CFG_CTL_LEGACY || s.on ID_STRAP_COMPAT)) = t at hget hkeep hput ⊢
  have hnot := strap_notMem_levels
  generalize List.range 64 = l at hnot ⊢
  have hlvl : t.only (l.map SQ_LVL) [] (t.when (s.on CFG_CTL_LEGACY || s.on ID_STRAP_COMPAT) fun s =>
      s.each l fun s q => if s.on (SQ_LVL_LEVEL q) then s else s.put (SQ_LVL_LEVEL q) 1) := (t.only_refl _ _).when (t.only_levels l)
  exact ⟨(State.on_congr (hlvl.1 _ hnot)).trans hget, fun f hf ha => (hlvl.get_eq (by rw [hf]; exact hnot)).trans (hkeep f ha),
    (hput.mono (by simp) (by simp)).trans (hlvl.mono (by simp) (by simp))⟩

/-! ### REFCLK (R17) -/

/-- What the absence of REFCLK does to a lane. -/
def State.refclkLane (s : State) (l : Nat) : State :=
  if s.on (LANE_STAT_HOSTMODE l) then
    (if s.laneUp l then (s.put (LANE_STAT_UP l) 0).put (LANE_EVT_DOWN l) 1 else s).put (LANE_STAT_BLK_LOCK l) 0 |>.put (LANE_STAT_CDR_LOCK l) 0
  else if s.trainSt l = 7 then s.laneDown l 3
  else if 2 ≤ s.trainSt l ∧ s.trainSt l ≤ 6 then
    (let p := s.on (LANE_STAT_PLANNED l)
     let s1 := (s.put (LANE_STAT_PLANNED l) 0).detect l
     if l < 2 ∧ p then s1.planEnd l 3 else s1)
  else s

theorem State.refclkGone_eq : s.refclkGone = s.each (List.range 4) State.refclkLane := rfl

/-- A lane that neither trains nor is up keeps its state. -/
theorem State.refclkLane_rest {l : Nat} (hh : s.on (LANE_STAT_HOSTMODE l) = false) (hst : s.trainSt l < 2) : s.refclkLane l = s := by
  rw [State.refclkLane, if_neg (by simp [hh]), if_neg (by omega), if_neg (by omega)]

theorem State.confined_refclkLane {l : Nat} (hl : l < 4) : s.confined (laneBlk l :: ringBlks) (s.refclkLane l) := by
  obtain ⟨hstat, hevt, -⟩ := blkOf_lane hl
  have hmem : laneBlk l ∈ laneBlk l :: ringBlks := by simp
  have hup : s.confined (laneBlk l :: ringBlks) (if s.laneUp l then (s.put (LANE_STAT_UP l) 0).put (LANE_EVT_DOWN l) 1 else s) :=
    .ite (((s.confined_refl _).putLane _ hmem hstat).putLane _ hmem hevt) (s.confined_refl _)
  have hplan : s.confined (laneBlk l :: ringBlks) ((s.put (LANE_STAT_PLANNED l) 0).detect l) :=
    ((s.confined_refl _).putLane _ hmem hstat).trans ((State.confined_detect hl).mono (by simp))
  rw [State.refclkLane]
  refine .ite ((hup.putLane _ hmem hstat).putLane _ hmem hstat) (.ite (State.confined_laneDown _ hl) (.ite (.ite ?_ hplan) (s.confined_refl _)))
  exact hplan.trans ((State.confined_planEnd _ _).mono (by simp [ringBlks, switchBlks]))

/-- A lane whose state allows it to be up is not up without REFCLK. -/
theorem State.laneUp_refclkLane {l : Nat} (hl : l < 4) (h : s.laneUp l = true → s.trainSt l = 7 ∨ s.on (LANE_STAT_HOSTMODE l) = true) :
    (s.refclkLane l).laneUp l = false := by
  have hfits : (LANE_STAT_UP l).fits = true := by interval_cases l <;> rfl
  rw [State.refclkLane]
  split
  · have hblk : (LANE_STAT_UP l).apart (LANE_STAT_BLK_LOCK l) = true := by interval_cases l <;> rfl
    have hcdr : (LANE_STAT_UP l).apart (LANE_STAT_CDR_LOCK l) = true := by interval_cases l <;> rfl
    have hdown : (LANE_STAT_UP l).apart (LANE_EVT_DOWN l) = true := by interval_cases l <;> rfl
    rw [State.laneUp, State.on_eq_false, State.get_put_apart _ _ hcdr, State.get_put_apart _ _ hblk]
    split
    · rw [State.get_put_apart _ _ hdown]
      exact State.get_put_self _ hfits (show 0 < 2 ^ 1 by decide)
    · next hup =>
      simpa [State.laneUp, State.on_eq_false] using hup
  · next hh =>
    split
    · obtain ⟨-, -, hup, -⟩ := s.laneDown_spec hl (cause := 3) (by decide)
      exact State.on_eq_false.2 hup
    · next h7 =>
      have hup : s.laneUp l = false := by
        cases hu : s.laneUp l
        · rfl
        · exact absurd (h hu) (by simp [h7, hh])
      split
      · have hout : blkOf (LANE_STAT_UP l).off ∉ [0x0E] := by interval_cases l <;> decide
        have hplan : (LANE_STAT_UP l).apart (LANE_STAT_PLANNED l) = true := by interval_cases l <;> rfl
        have hdet : ((s.put (LANE_STAT_PLANNED l) 0).detect l).laneUp l = false := by
          have happ : (detectFlds l).all (LANE_STAT_UP l).apart = true := by interval_cases l <;> decide
          rw [State.laneUp, State.on_eq_false, State.get_detect happ, State.get_put_apart _ _ hplan]
          exact State.on_eq_false.1 hup
        generalize (s.put (LANE_STAT_PLANNED l) 0).detect l = u at hdet ⊢
        have hend : u.confined [0x0E] (if l < 2 ∧ s.on (LANE_STAT_PLANNED l) = true then u.planEnd l 3 else u) :=
          .ite (State.confined_planEnd _ _) (u.confined_refl _)
        exact (State.on_congr (hend.rd _ hout)).trans hdet
      · exact hup

/-- Without REFCLK no lane of a list of lanes stays up, and the others keep their registers. -/
theorem State.laneUp_each_refclkLane {ls : List Nat} (hn : ls.Nodup) (h4 : ∀ l ∈ ls, l < 4)
    (h : ∀ l ∈ ls, s.laneUp l = true → s.trainSt l = 7 ∨ s.on (LANE_STAT_HOSTMODE l) = true) :
    (∀ l ∈ ls, (s.each ls State.refclkLane).laneUp l = false) ∧
    ∀ l, l < 4 → l ∉ ls → ∀ o, blkOf o = laneBlk l → (s.each ls State.refclkLane).rd o = s.rd o := by
  induction ls generalizing s with
  | nil => exact ⟨by simp, fun _ _ _ _ _ => rfl⟩
  | cons a ls ih =>
    obtain ⟨hna, hn⟩ := List.nodup_cons.1 hn
    have ha : a < 4 := h4 a (by simp)
    have hconf := State.confined_refclkLane (s := s) ha
    have hother (l : Nat) (hl : l < 4) (hne : l ≠ a) (o : Nat) (ho : blkOf o = laneBlk l) : (s.refclkLane a).rd o = s.rd o := by
      refine hconf.rd o ?_
      rw [ho, List.mem_cons, not_or]
      exact ⟨by simp only [laneBlk]; omega, laneBlk_notMem hl⟩
    have hup := State.laneUp_refclkLane ha (h a (by simp))
    obtain ⟨hrest, hkeep⟩ := ih (s := s.refclkLane a) hn (fun l hl => h4 l (by simp [hl])) (fun l hl => by
      obtain ⟨hbstat, -, hbtrain, -⟩ := blkOf_lane (h4 l (by simp [hl]))
      have hne : l ≠ a := fun he => hna (he ▸ hl)
      have hs (f : Fld) (hf : blkOf f.off = laneBlk l) := State.get_congr (hother l (h4 l (by simp [hl])) hne f.off hf)
      have hl' := h l (by simp [hl])
      rwa [State.laneUp, State.on_congr (f := LANE_STAT_UP l) (hother l (h4 l (by simp [hl])) hne _ hbstat),
        State.on_congr (f := LANE_STAT_HOSTMODE l) (hother l (h4 l (by simp [hl])) hne _ hbstat), State.trainSt, hs (LANE_TRAIN_STATE l) hbtrain])
    refine ⟨fun l hl => ?_, fun l hl hnl o ho => ?_⟩
    · obtain rfl | hl := List.mem_cons.1 hl
      · exact (State.on_congr (hkeep l ha hna _ (blkOf_lane ha).1)).trans hup
      · exact hrest l hl
    · rw [List.mem_cons, not_or] at hnl
      exact (hkeep l hl hnl.2 o ho).trans (hother l hl hnl.1 o ho)

theorem State.sys_refclkGone : s.sys.wokenTo s.refclkGone.sys := by
  refine ((s.confined_refl (laneBlk 0 :: laneBlk 1 :: laneBlk 2 :: laneBlk 3 :: ringBlks)).each (f := State.refclkLane) (l := List.range 4) fun t l hl => ?_).sys
  refine (State.confined_refclkLane (List.mem_range.1 hl)).mono fun b hb => ?_
  obtain rfl | hb := List.mem_cons.1 hb
  · have hl := List.mem_range.1 hl
    interval_cases l <;> simp
  · simp [hb]

theorem State.each_stands {α : Type} {f : State → α → State} {l : List α} (h : ∀ a ∈ l, f s a = s) : s.each l f = s := by
  induction l with
  | nil => rfl
  | cons a l ih =>
    rw [show s.each (a :: l) f = (f s a).each l f from rfl, h a (by simp)]
    exact ih fun b hb => h b (by simp [hb])

/-! ### The log (R107) -/

theorem exec_logClear (hd : s.dark = false) (hr : s.inReset 0x02 = false) : exec .logClear s = .next s.rcUse.logClear := by
  refine congrArg Host.Outcome.next ?_
  exact s.cmd_run _ _ hd hr

/-- The emptied log's entries, one at a time. -/
def State.entryCleared (s : State) (i : Nat) : State := ((s.closeEntry i).clr (RSTC_LOG_W0 i)).clr (RSTC_LOG_W1 i)

theorem State.rd_entryCleared (i o : Nat) : (s.entryCleared i).rd o = if o = RSTC_LOG_W0 i ∨ o = RSTC_LOG_W1 i then regReset o else s.rd o := by
  rw [State.entryCleared]
  by_cases h1 : o = RSTC_LOG_W1 i
  · subst h1
    rw [if_pos (.inr rfl)]
    exact State.rd_wr_same _ _ _
  · refine (State.rd_wr_ne _ _ h1).trans ?_
    by_cases h0 : o = RSTC_LOG_W0 i
    · subst h0
      rw [if_pos (.inl rfl)]
      exact State.rd_wr_same _ _ _
    · rw [if_neg (by simp [h0, h1])]
      exact State.rd_wr_ne _ _ h0

theorem State.rd_entriesCleared (l : List Nat) (o : Nat) : (s.each l State.entryCleared).rd o =
    if ∃ i ∈ l, o = RSTC_LOG_W0 i ∨ o = RSTC_LOG_W1 i then regReset o else s.rd o := by
  induction l generalizing s with
  | nil => simp [State.each]
  | cons i l ih =>
    rw [show s.each (i :: l) State.entryCleared = (s.entryCleared i).each l State.entryCleared from rfl, ih, State.rd_entryCleared]
    by_cases hrest : ∃ j ∈ l, o = RSTC_LOG_W0 j ∨ o = RSTC_LOG_W1 j
    · obtain ⟨j, hj, ho⟩ := hrest
      rw [if_pos ⟨j, hj, ho⟩, if_pos ⟨j, by simp [hj], ho⟩]
    · rw [if_neg hrest]
      refine if_congr ⟨fun hi => ⟨i, by simp, hi⟩, fun ⟨j, hj, ho⟩ => ?_⟩ rfl rfl
      obtain rfl | hj := List.mem_cons.1 hj
      · exact ho
      · exact absurd ⟨j, hj, ho⟩ hrest

theorem State.logClear_eq : s.logClear = (s.each (List.range 16) State.entryCleared).put RSTC_LOG_HEAD_NEXT 0 := rfl

theorem regReset_logW0 {i : Nat} (hi : i < 16) : regReset (RSTC_LOG_W0 i) = 0#32 := by
  interval_cases i <;> decide

/-- What the emptied log shows, and what its emptying leaves. -/
theorem State.logClear_spec : s.logClear.get RSTC_LOG_HEAD_NEXT = 0 ∧ (∀ i, i < 16 → s.logClear.get (RSTC_LOG_W0_CODE i) = 0) ∧
    ∀ o, o < RSTC_LOG_HEAD ∨ RSTC_LOG_W1 15 < o → s.logClear.rd o = s.rd o := by
  rw [State.logClear_eq]
  have hrd := State.rd_entriesCleared (s := s) (List.range 16)
  generalize s.each (List.range 16) State.entryCleared = u at hrd ⊢
  refine ⟨State.get_put_self _ rfl (by decide), fun i hi => ?_, fun o ho => ?_⟩
  · have hne : RSTC_LOG_W0 i ≠ RSTC_LOG_HEAD := by simp only [RSTC_LOG_W0, RSTC_LOG_HEAD]; omega
    refine (State.get_put_ne _ _ _ _ hne).trans ?_
    have h0 : u.rd (RSTC_LOG_W0_CODE i).off = 0#32 :=
      (hrd (RSTC_LOG_W0 i)).trans ((if_pos ⟨i, List.mem_range.2 hi, .inl rfl⟩).trans (regReset_logW0 hi))
    rw [State.get, h0]
    rfl
  · have hne : o ≠ RSTC_LOG_HEAD_NEXT.off := by
      simp only [RSTC_LOG_HEAD_NEXT]
      simp only [RSTC_LOG_W1, RSTC_LOG_HEAD] at ho ⊢
      omega
    refine (State.rd_put_ne _ _ _ hne).trans ((hrd o).trans (if_neg ?_))
    rintro ⟨i, hi, hw⟩
    have := List.mem_range.1 hi
    simp only [RSTC_LOG_W0, RSTC_LOG_W1, RSTC_LOG_HEAD] at ho hw
    omega

end

/-- Settles O19. A lane that is up without REFCLK goes down as the fall of a lane does; the other clauses are one write each. -/
theorem strapsAndClocks : Obligations.StrapsAndClocks := by
  unfold Obligations.StrapsAndClocks
  refine ⟨?_, ?_, ?_, ?_, ?_, ?_, ?_, ?_⟩
  · intro tm cp tw hd sid s
    have hexec : exec (.strapSample tm cp sid tw hd) s = .next (s.strapped tm cp sid.val tw hd).setGh320 := rfl
    obtain ⟨htm, hcp, hsid, htw, hhd, hsys, honly⟩ := s.strapped_spec tm cp tw hd sid.isLt
    generalize s.strapped tm cp sid.val tw hd = u at hexec htm hcp hsid htw hhd hsys honly
    obtain ⟨hgh, hkeep, hlvl⟩ := u.setGh320_spec
    have hcomp : u.on ID_STRAP_COMPAT = cp := by
      rw [State.on, hcp]
      cases cp <;> rfl
    have hleg : u.on CFG_CTL_LEGACY = s.on CFG_CTL_LEGACY := State.on_congr (honly.1 _ (by decide))
    have hall := (honly.mono (os' := ID_STRAP :: (List.range 64).map SQ_LVL) (by simp) (by simp)).trans (hlvl.mono (by simp) (ps' := [.sys]) (by simp))
    refine ⟨_, hexec, (hkeep _ rfl rfl).trans htm, (hkeep _ rfl rfl).trans hcp, (hkeep _ rfl rfl).trans hsid, (hkeep _ rfl rfl).trans htw,
      (hkeep _ rfl rfl).trans hhd, by rw [hgh, hcomp, hleg], fun o ho hq => hall.1 o ?_, (hlvl.2 .sys (by simp)).trans hsys, hall.2⟩
    rw [List.mem_cons, not_or, List.mem_map]
    exact ⟨ho, fun ⟨q, hq', he⟩ => hq q (List.mem_range.1 hq') he.symm⟩
  · intro s hst hpen hin haon
    have hexec : exec .railsOk s = .next ((s.put LPW_SEQ_STAT_STATE 2).put LPW_STAT_RAILS_OK 1) :=
      congrArg Host.Outcome.next (if_pos (by simp [hst, hpen, hin, haon]))
    exact ⟨_, hexec, (State.get_put_apart _ _ rfl).trans (State.get_put_val _ _ _ rfl), State.get_put_val _ _ _ rfl,
      ((s.only_refl _ _).put _ (by simp [LPW_SEQ_STAT_STATE])).put _ (by simp [LPW_STAT_RAILS_OK])⟩
  · intro s hroom h
    have hexec : exec .refclkAbsent s = .next ((({ s with sys := { s.sys with refclk := false } } : State).refclkGone).fault 0x03 0x15 0) := rfl
    have hgone : ({ s with sys := { s.sys with refclk := false } } : State).refclkGone = { s with sys := { s.sys with refclk := false } } := by
      have hstep (l : Nat) (hl : l < 4) := State.refclkLane_rest (s := { s with sys := { s.sys with refclk := false } }) (h l hl).1 (h l hl).2
      rw [State.refclkGone_eq]
      exact State.each_stands fun l hl => hstep l (List.mem_range.1 hl)
    rw [hgone] at hexec
    have honly : s.only [] [.sys, .fltQ] { s with sys := { s.sys with refclk := false } } := (s.only_refl _ _).with_sys _ (by simp)
    have hroom' : ({ s with sys := { s.sys with refclk := false } } : State).roomy := hroom
    exact ⟨_, hexec, by rw [hroom'.fault_eq], hroom'.sent_fault _ _ _, honly.fault hroom' _ _ _ (by simp)⟩
  · intro s h
    have hexec : exec .refclkAbsent s = .next ((({ s with sys := { s.sys with refclk := false } } : State).refclkGone).fault 0x03 0x15 0) := rfl
    have hsys := State.sys_refclkGone (s := { s with sys := { s.sys with refclk := false } })
    have hup := (State.laneUp_each_refclkLane (s := { s with sys := { s.sys with refclk := false } }) (ls := List.range 4) (List.nodup_range)
      (fun l hl => List.mem_range.1 hl) fun l hl => h l (List.mem_range.1 hl)).1
    rw [← State.refclkGone_eq] at hup
    generalize ({ s with sys := { s.sys with refclk := false } } : State).refclkGone = u at hexec hsys hup
    have hfault := u.only_fault 0x03 0x15 0
    refine ⟨_, hexec, ?_, fun l hl => ?_⟩
    · rw [show (u.fault 0x03 0x15 0).sys = u.sys from hfault.2 .sys (by simp), hsys]
    · have hne : LANE_STAT l ∉ [FLT_STAT] := by interval_cases l <;> decide
      exact (State.on_congr (f := LANE_STAT_UP l) (hfault.1 _ hne)).trans (hup l (List.mem_range.2 hl))
  · intro s hroom href
    have hexec : exec .refclkAbsentReport s = .next (s.fault 0x03 0x15 0) := congrArg Host.Outcome.next (if_neg (by simp [href]))
    exact ⟨_, hexec, hroom.sent_fault _ _ _, hroom.only_fault _ _ _⟩
  · intro s
    exact ⟨_, rfl, rfl, (s.only_refl _ _).with_sys _ (by simp)⟩
  · intro s hdie hunits
    have hany : (s.sys.units.any fun e => e.2.isSome) = false := by
      rw [List.any_eq_false]
      intro e he
      simp [hunits e he]
    have hexec : exec .rc100Stop s = .next { s with sys := { s.sys with rc100 := false } } :=
      congrArg Host.Outcome.next (if_neg (by simp [hdie, hany]))
    exact ⟨_, hexec, rfl, (s.only_refl _ _).with_sys _ (by simp)⟩
  · intro s hd hr
    obtain ⟨hnext, hcode, hrd⟩ := s.rcUse.logClear_spec
    have hfoot : Foot 2097153 s s.rcUse.logClear := Foot.step (State.logClear_foot ..) rfl (Foot.step (State.rcUse_foot s) rfl Foot.refl)
    exact ⟨_, exec_logClear hd hr, hnext, hcode, hrd, hfoot.parts (by decide)⟩

end Sys2Proof.Machine

/-! Training messages and rate steps of a lane (R151 to R157). -/
namespace Sys2Proof.Machine

set_option Elab.async false

section
variable {s : State}

theorem State.ln_modLn (l : Nat) (g : LaneSt → LaneSt) : (s.modLn l g).ln l = g (s.ln l) := Tab.get_set_same _ _ _ _

theorem State.ln_modLn_ne {l k : Nat} (g : LaneSt → LaneSt) (h : k ≠ l) : (s.modLn l g).ln k = s.ln k := Tab.get_set_ne _ _ _ h

theorem State.ln_congr {t : State} (h : t.lane = s.lane) (l : Nat) : t.ln l = s.ln l := by rw [State.ln, h, State.ln]

theorem State.only_modLn (l : Nat) (g : LaneSt → LaneSt) : s.only [] [.lane] (s.modLn l g) := (s.only_refl _ _).with_lane _ (by simp)

/-! ### Training messages (R152) -/

/-- Filling a block advances the lane's pattern generator at most. -/
theorem State.fillBlock_cases (l : Nat) : (s.fillBlock l).1 = s ∨ ∃ g, (s.fillBlock l).1 = s.modLn l fun x => { x with gen := g } := by
  rw [State.fillBlock]
  split
  · exact .inl rfl
  · split
    · exact .inr ⟨_, rfl⟩
    · exact .inl rfl

theorem State.sendBlocks_ln (l : Nat) (bs : List Plain) :
    ((s.sendBlocks l bs).ln l).sent = (s.ln l).sent ∧ ((s.sendBlocks l bs).ln l).seq = (s.ln l).seq := by
  rw [State.sendBlocks, State.ln_modLn]
  exact ⟨rfl, rfl⟩

theorem State.sendFilled_ln (l : Nat) (bs : List Plain) :
    ((s.sendFilled l bs).ln l).sent = (s.ln l).sent ∧ ((s.sendFilled l bs).ln l).seq = (s.ln l).seq := by
  rw [State.sendFilled]
  obtain ⟨hsent, hseq⟩ := State.sendBlocks_ln (s := (s.fillBlock l).1) l (bs ++ [(s.fillBlock l).2])
  obtain h | ⟨g, h⟩ := s.fillBlock_cases l
  · rw [h] at hsent hseq ⊢
    exact ⟨hsent, hseq⟩
  · rw [h] at hsent hseq ⊢
    rw [State.ln_modLn] at hsent hseq
    exact ⟨hsent, hseq⟩

theorem State.only_sendFilled (l : Nat) (bs : List Plain) : s.only [] [.lane] (s.sendFilled l bs) :=
  (s.only_refl _ _).foot0 (State.sendFilled_foot ..) (by decide) rfl

theorem State.length_trainMsg (l msg target : Nat) : (s.trainMsg l msg target).length = 24 := by
  rw [State.trainMsg, List.length_append, List.length_append, length_leBytes, length_leBytes, length_leBytes]

/-- The first byte of a training message is its kind. -/
theorem State.kind_trainMsg (l target : Nat) {msg : Nat} (h : msg < 256) : (s.trainMsg l msg target).getD 0 0#8 = BitVec.ofNat 8 msg := by
  rw [State.trainMsg]
  generalize (if s.gh320 then 1 else 2) = a
  generalize s.ownCap = b
  generalize s.ownRates l = c
  generalize s.roleByte l = d
  generalize s.modeByte l = e
  generalize s.node = f
  rw [show leBytes 8 (msg + a * 2 ^ 8 + b * 2 ^ 16 + c * 2 ^ 24 + d * 2 ^ 32 + e * 2 ^ 40 + target * 2 ^ 48 + f * 2 ^ 56) =
    BitVec.ofNat 8 (msg + a * 2 ^ 8 + b * 2 ^ 16 + c * 2 ^ 24 + d * 2 ^ 32 + e * 2 ^ 40 + target * 2 ^ 48 + f * 2 ^ 56) ::
      leBytes 7 ((msg + a * 2 ^ 8 + b * 2 ^ 16 + c * 2 ^ 24 + d * 2 ^ 32 + e * 2 ^ 40 + target * 2 ^ 48 + f * 2 ^ 56) / 256) from rfl]
  rw [List.cons_append, List.cons_append, List.getD_cons_zero]
  apply BitVec.eq_of_toNat_eq
  rw [BitVec.toNat_ofNat, BitVec.toNat_ofNat]
  omega

/-- What a lane that may transmit has sent. -/
theorem State.trainTx_spec {l msg : Nat} (target : Nat) (hq : s.txQuiet l = false) (hm : msg < 256) :
    ((s.trainTx l msg target).ln l).sent.length = 24 ∧ ((s.trainTx l msg target).ln l).sent.getD 0 0#8 = BitVec.ofNat 8 msg ∧
    ((s.trainTx l msg target).ln l).seq = ((s.ln l).seq + 1) % 65536 ∧ s.only [] [.lane] (s.trainTx l msg target) := by
  rw [State.trainTx, if_neg (by simp [hq])]
  dsimp only
  have hlen := s.length_trainMsg l msg target
  have hkind := s.kind_trainMsg l target hm
  generalize s.trainMsg l msg target = m at hlen hkind ⊢
  have hmod := s.only_modLn l fun x => { x with seq := (x.seq + 1) % 65536, sent := m }
  have hln := s.ln_modLn l fun x => { x with seq := (x.seq + 1) % 65536, sent := m }
  generalize s.modLn l (fun x => { x with seq := (x.seq + 1) % 65536, sent := m }) = u at hmod hln ⊢
  obtain ⟨hsent, hseq⟩ := u.sendFilled_ln l (trainBlocks m)
  rw [hsent, hseq, hln]
  exact ⟨hlen, hkind, rfl, hmod.trans (State.only_sendFilled l _)⟩

/-! ### The step condition (R155) -/

theorem State.noteCond_lane (l : Nat) : ∃ y, s.noteCond l = { s with lane := y } := by
  rw [State.noteCond]
  split
  · split
    · exact ⟨s.lane, rfl⟩
    · exact ⟨_, rfl⟩
  · exact ⟨_, rfl⟩

/-- What is noted of the step condition leaves what the condition is made of. -/
theorem State.mayStep_modLn {l : Nat} {g : LaneSt → LaneSt} (hseen : (g (s.ln l)).seen = (s.ln l).seen) :
    (s.modLn l g).mayStep l = s.mayStep l := by
  have hmode : (s.modLn l g).modeByte l = s.modeByte l := by
    rw [State.modeByte, State.ln_modLn, hseen]
    rfl
  have hother : (s.modLn l g).otherSteps l = s.otherSteps l := by
    rw [State.otherSteps, State.otherSteps]
    refine List.any_congr rfl fun k => ?_
    by_cases hk : k = l
    · simp [hk]
    · rw [State.ln_modLn_ne _ hk]
      rfl
  rw [State.mayStep, hmode, hother]
  rfl

/-! ### Steps -/

theorem State.bestRate_lt (l : Nat) : s.bestRate l < 8 := by
  have hmem : ∀ x ∈ (List.range 5).filter (s.rateBoth l), x < 5 := fun x hx => List.mem_range.1 (List.mem_filter.1 hx).1
  rw [State.bestRate]
  generalize (List.range 5).filter (s.rateBoth l) = r at hmem
  induction r using List.reverseRecOn with
  | nil => simp
  | append_singleton r x _ =>
    rw [List.getLastD_eq_getLast?, List.getLast?_append]
    have := hmem x (by simp)
    simp
    omega

/-- A lane that has left UP for a step, before the ring hears of it. -/
def State.stepLeft (s : State) (l target : Nat) : State :=
  ((((((s.setTrain l 5).put (LANE_TRAIN_TARGET l) target).put (LANE_STAT_PLANNED l) 1).modLn l fun x =>
    { x with ackTx := false, ackRx := false, condT := none }).put (LANE_STAT_UP l) 0).put (LANE_STAT_VER l) 0).modLn l fun x => { x with hold := 0, rxf := none }

theorem State.stepTo_up {l : Nat} (target : Nat) (hup : s.trainSt l = 7) : s.stepTo l target =
    if l < 2 then ((s.stepLeft l target).pdDown l).dirDown l 0 true else (s.stepLeft l target).pdDown l := by
  unfold State.stepTo State.stepLeft
  extract_lets up
  have h : up = true := by
    unfold up
    rw [hup]
    rfl
  exact if_pos h

theorem State.stepLeft_spec {l target : Nat} (hl : l < 4) (ht : target < 8) : (s.stepLeft l target).trainSt l = 5 ∧
    (s.stepLeft l target).get (LANE_TRAIN_TARGET l) = target ∧ (s.stepLeft l target).get (LANE_STAT_PLANNED l) = 1 ∧
    (s.stepLeft l target).get (LANE_STAT_UP l) = 0 ∧ ((s.stepLeft l target).ln l).ackTx = false ∧ ((s.stepLeft l target).ln l).ackRx = false ∧
    (s.stepLeft l target).mem = s.mem := by
  have htrain := State.trainSt_setTrain (s := s) (st := 5) hl (by decide)
  have hmem : (s.setTrain l 5).mem = s.mem := (State.only_setTrain l 5).2 .mem (by simp)
  rw [State.stepLeft]
  generalize s.setTrain l 5 = u at htrain hmem ⊢
  have hchain : u.only [LANE_TRAIN l, LANE_STAT l] [.lane] (((((u.put (LANE_TRAIN_TARGET l) target).put (LANE_STAT_PLANNED l) 1).modLn l fun x =>
      { x with ackTx := false, ackRx := false, condT := none }).put (LANE_STAT_UP l) 0).put (LANE_STAT_VER l) 0 |>.modLn l fun x =>
        { x with hold := 0, rxf := none }) :=
    (((((((u.only_refl _ _).put _ (by simp [LANE_TRAIN_TARGET])).put _ (by simp [LANE_STAT_PLANNED])).trans ((State.only_modLn l _).mono (by simp)
      (by simp))).put _ (by simp [LANE_STAT_UP])).put _ (by simp [LANE_STAT_VER])).trans ((State.only_modLn l _).mono (by simp) (by simp)))
  have h1 : (LANE_TRAIN_STATE l).apart (LANE_STAT_VER l) = true ∧ (LANE_TRAIN_STATE l).apart (LANE_STAT_UP l) = true ∧
      (LANE_TRAIN_STATE l).apart (LANE_STAT_PLANNED l) = true ∧ (LANE_TRAIN_STATE l).apart (LANE_TRAIN_TARGET l) = true := by
    interval_cases l <;> decide
  have h2 : (LANE_TRAIN_TARGET l).apart (LANE_STAT_VER l) = true ∧ (LANE_TRAIN_TARGET l).apart (LANE_STAT_UP l) = true ∧
      (LANE_TRAIN_TARGET l).apart (LANE_STAT_PLANNED l) = true := by
    interval_cases l <;> decide
  have h3 : (LANE_STAT_PLANNED l).apart (LANE_STAT_VER l) = true ∧ (LANE_STAT_PLANNED l).apart (LANE_STAT_UP l) = true ∧
      (LANE_STAT_UP l).apart (LANE_STAT_VER l) = true := by
    interval_cases l <;> decide
  have hfits : (LANE_TRAIN_TARGET l).fits = true ∧ (LANE_STAT_PLANNED l).fits = true ∧ (LANE_STAT_UP l).fits = true := by
    interval_cases l <;> decide
  refine ⟨?_, ?_, ?_, ?_, ?_, ?_, (hchain.2 .mem (by simp)).trans hmem⟩
  · rw [State.trainSt] at htrain ⊢
    rw [State.get_modLn, State.get_put_apart _ _ h1.1, State.get_put_apart _ _ h1.2.1, State.get_modLn, State.get_put_apart _ _ h1.2.2.1,
      State.get_put_apart _ _ h1.2.2.2, htrain]
  · rw [State.get_modLn, State.get_put_apart _ _ h2.1, State.get_put_apart _ _ h2.2.1, State.get_modLn, State.get_put_apart _ _ h2.2.2]
    exact State.get_put_self _ hfits.1 (show target < 2 ^ 3 from ht)
  · rw [State.get_modLn, State.get_put_apart _ _ h3.1, State.get_put_apart _ _ h3.2.1, State.get_modLn]
    exact State.get_put_self _ hfits.2.1 (show 1 < 2 ^ 1 by decide)
  · rw [State.get_modLn, State.get_put_apart _ _ h3.2.2]
    exact State.get_put_self _ hfits.2.2 (show 0 < 2 ^ 1 by decide)
  all_goals
    rw [State.ln_modLn, State.ln_congr (State.put_lane _ _ _), State.ln_congr (State.put_lane _ _ _), State.ln_modLn]

/-- What a lane that is UP shows when it leaves for a step. -/
theorem State.stepTo_spec {l target : Nat} (hl : l < 4) (hup : s.trainSt l = 7) (ht : target < 8) : (s.stepTo l target).trainSt l = 5 ∧
    (s.stepTo l target).get (LANE_TRAIN_TARGET l) = target ∧ (s.stepTo l target).get (LANE_STAT_PLANNED l) = 1 ∧
    (s.stepTo l target).get (LANE_STAT_UP l) = 0 ∧ ((s.stepTo l target).ln l).ackTx = false ∧ ((s.stepTo l target).ln l).ackRx = false ∧
    (s.stepTo l target).mem = s.mem := by
  obtain ⟨htrain, htarget, hplan, hzero, htx, hrx, hmem⟩ := s.stepLeft_spec hl ht
  obtain ⟨hbstat, -, hbtrain, -⟩ := blkOf_lane hl
  have hout := laneBlk_notMem hl
  rw [State.stepTo_up target hup]
  generalize s.stepLeft l target = u at htrain htarget hplan hzero htx hrx hmem ⊢
  have hpd : u.confined ringBlks (u.pdDown l) := (State.confined_pdDown hl).mono (by decide)
  have hconf : u.confined ringBlks (if l < 2 then (u.pdDown l).dirDown l 0 true else u.pdDown l) :=
    .ite (hpd.trans ((State.confined_dirDown _ _ _).mono (by decide))) hpd
  have hfoot : Foot 263297 u (if l < 2 then (u.pdDown l).dirDown l 0 true else u.pdDown l) :=
    Foot.ite (Foot.step (State.dirDown_foot ..) rfl (Foot.step (State.pdDown_foot ..) rfl Foot.refl)) (Foot.step (State.pdDown_foot ..) rfl Foot.refl)
  have hparts := hfoot.parts (ps := [.regs, .red, .time, .tst]) (by decide)
  generalize (if l < 2 then (u.pdDown l).dirDown l 0 true else u.pdDown l) = v at hconf hparts ⊢
  have hlane := State.ln_congr (hparts .lane (by simp)) l
  have hstat : blkOf (LANE_STAT l) ∉ ringBlks := hbstat ▸ hout
  have hbt : blkOf (LANE_TRAIN l) ∉ ringBlks := hbtrain ▸ hout
  exact ⟨(hconf.get_eq hbt).trans htrain, (hconf.get_eq hbt).trans htarget, (hconf.get_eq hstat).trans hplan, (hconf.get_eq hstat).trans hzero,
    by rw [hlane]; exact htx, by rw [hlane]; exact hrx, (hparts .mem (by simp)).trans hmem⟩

/-- DETECT begins at code 0, and in GH-320 behaviour at code 2. -/
theorem State.rate_detect {l : Nat} (hl : l < 4) : (s.detect l).get (LANE_STAT_RATE l) = if s.gh320 = true then 2 else 0 := by
  have hap : (LANE_STAT_RATE l).apart (LANE_ALIGN_LOCK l) = true ∧ (LANE_STAT_RATE l).apart (LANE_STAT_BLK_LOCK l) = true ∧
      (LANE_STAT_RATE l).apart (LANE_STAT_CDR_LOCK l) = true ∧ (LANE_STAT_RATE l).fits = true := by
    interval_cases l <;> decide
  rw [State.detect, State.get_modLn, State.get_put_apart _ _ hap.1, State.get_put_apart _ _ hap.2.1, State.get_put_apart _ _ hap.2.2.1]
  refine State.get_put_self _ hap.2.2.2 (show _ < 2 ^ 3 from ?_)
  split
  · decide
  · decide

/-- A lane whose PLL has locked at the target rate. -/
def State.relocked (s : State) (l : Nat) : State :=
  (((((s.put (LANE_STAT_RATE l) (s.get (LANE_TRAIN_TARGET l))).put (LANE_STAT_CDR_LOCK l) 0).put (LANE_STAT_BLK_LOCK l) 0).put
    (LANE_ALIGN_LOCK l) 0).setTrain l 2).modLn l fun x => { x with stepped := true, ackTx := false, ackRx := false }

theorem State.relocked_spec {l : Nat} (hl : l < 4) : (s.relocked l).trainSt l = 2 ∧
    (s.relocked l).get (LANE_STAT_RATE l) = s.get (LANE_TRAIN_TARGET l) ∧ (s.relocked l).get (LANE_STAT_CDR_LOCK l) = 0 ∧
    (s.relocked l).get (LANE_ALIGN_LOCK l) = 0 ∧ ((s.relocked l).ln l).stepped = true ∧
    s.only [LANE_STAT l, LANE_TRAIN l, LANE_ALIGN l] [.lane] (s.relocked l) := by
  have hap : (LANE_STAT_RATE l).apart (LANE_ALIGN_LOCK l) = true ∧ (LANE_STAT_RATE l).apart (LANE_STAT_BLK_LOCK l) = true ∧
      (LANE_STAT_RATE l).apart (LANE_STAT_CDR_LOCK l) = true ∧ (LANE_STAT_RATE l).fits = true := by
    interval_cases l <;> decide
  have hcdr : (LANE_STAT_CDR_LOCK l).apart (LANE_ALIGN_LOCK l) = true ∧ (LANE_STAT_CDR_LOCK l).apart (LANE_STAT_BLK_LOCK l) = true ∧
      (LANE_STAT_CDR_LOCK l).fits = true := by
    interval_cases l <;> decide
  have hset : LANE_STAT l ∉ [LANE_TRAIN l, LANE_ALIGN l] ∧ (LANE_ALIGN_LOCK l).apart (LANE_ALIGN_REQ l) = true ∧
      (LANE_ALIGN_LOCK l).apart (LANE_TRAIN_STATE l) = true ∧ (LANE_ALIGN_LOCK l).fits = true := by
    interval_cases l <;> decide
  rw [State.relocked]
  have hrate : ((((s.put (LANE_STAT_RATE l) (s.get (LANE_TRAIN_TARGET l))).put (LANE_STAT_CDR_LOCK l) 0).put (LANE_STAT_BLK_LOCK l) 0).put
      (LANE_ALIGN_LOCK l) 0).get (LANE_STAT_RATE l) = s.get (LANE_TRAIN_TARGET l) := by
    rw [State.get_put_apart _ _ hap.1, State.get_put_apart _ _ hap.2.1, State.get_put_apart _ _ hap.2.2.1]
    have hlt : s.get (LANE_TRAIN_TARGET l) < 2 ^ 3 := s.get_lt _
    exact State.get_put_self _ hap.2.2.2 (show _ < 2 ^ 3 from hlt)
  have hzero : ((((s.put (LANE_STAT_RATE l) (s.get (LANE_TRAIN_TARGET l))).put (LANE_STAT_CDR_LOCK l) 0).put (LANE_STAT_BLK_LOCK l) 0).put
      (LANE_ALIGN_LOCK l) 0).get (LANE_STAT_CDR_LOCK l) = 0 := by
    rw [State.get_put_apart _ _ hcdr.1, State.get_put_apart _ _ hcdr.2.1]
    exact State.get_put_self _ hcdr.2.2 (show 0 < 2 ^ 1 by decide)
  have hlock : ((((s.put (LANE_STAT_RATE l) (s.get (LANE_TRAIN_TARGET l))).put (LANE_STAT_CDR_LOCK l) 0).put (LANE_STAT_BLK_LOCK l) 0).put
      (LANE_ALIGN_LOCK l) 0).get (LANE_ALIGN_LOCK l) = 0 := State.get_put_self _ hset.2.2.2 (show 0 < 2 ^ 1 by decide)
  have honly : s.only [LANE_STAT l, LANE_TRAIN l, LANE_ALIGN l] [.lane] ((((s.put (LANE_STAT_RATE l) (s.get (LANE_TRAIN_TARGET l))).put
      (LANE_STAT_CDR_LOCK l) 0).put (LANE_STAT_BLK_LOCK l) 0).put (LANE_ALIGN_LOCK l) 0) :=
    ((((s.only_refl _ _).put _ (by simp [LANE_STAT_RATE])).put _ (by simp [LANE_STAT_CDR_LOCK])).put _ (by simp [LANE_STAT_BLK_LOCK])).put _
      (by simp [LANE_ALIGN_LOCK])
  generalize (((s.put (LANE_STAT_RATE l) (s.get (LANE_TRAIN_TARGET l))).put (LANE_STAT_CDR_LOCK l) 0).put (LANE_STAT_BLK_LOCK l) 0).put
    (LANE_ALIGN_LOCK l) 0 = u at hrate hzero hlock honly ⊢
  have htrain := State.trainSt_setTrain (s := u) (st := 2) hl (by decide)
  have hkeep := State.only_setTrain (s := u) l 2
  have hlock' : (u.setTrain l 2).get (LANE_ALIGN_LOCK l) = 0 := by
    rw [State.setTrain, State.get_put_apart _ _ hset.2.1, State.get_put_apart _ _ hset.2.2.1]
    exact hlock
  generalize u.setTrain l 2 = v at htrain hkeep hlock' ⊢
  have hmod := State.only_modLn (s := v) l fun x => { x with stepped := true, ackTx := false, ackRx := false }
  refine ⟨?_, ?_, ?_, ?_, by rw [State.ln_modLn], (honly.trans (hkeep.mono (by simp) (by simp))).trans (hmod.mono (by simp) (by simp))⟩
  · rw [State.trainSt, State.get_modLn]
    exact htrain
  · rw [State.get_modLn, hkeep.get_eq (f := LANE_STAT_RATE l) hset.1, hrate]
  · rw [State.get_modLn, hkeep.get_eq (f := LANE_STAT_CDR_LOCK l) hset.1, hzero]
  · rw [State.get_modLn, hlock']

/-! ### Failures -/

theorem State.mem_laneDown (l cause : Nat) : (s.laneDown l cause).mem = s.mem := (State.laneDown_foot s l cause).mem rfl

/-- What a lane shows that has gone to FAULT. -/
theorem State.laneFault_spec {l cause : Nat} (hl : l < 4) (hc : cause < 256) : (s.laneFault l cause).trainSt l = 8 ∧
    (s.laneFault l cause).get (LANE_STAT_DOWN_CAUSE l) = cause ∧ (s.laneFault l cause).get (LANE_STAT_UP l) = 0 ∧
    (s.laneFault l cause).get (LANE_EVT_DOWN l) = 1 ∧ s.advanced (s.laneFault l cause) (LANE_DOWNS l) 1 ∧
    (∀ f, f.off = LANE_EVT l → f.apart (LANE_EVT_DOWN l) = true → f.apart (LANE_EVT_SAT l) = true → (s.laneFault l cause).get f = s.get f) ∧
    (cause ≠ 1 → (s.laneFault l cause).get (LANE_TRAIN_FAILED l) = s.get (LANE_TRAIN_FAILED l)) ∧ (s.laneFault l cause).mem = s.mem := by
  obtain ⟨-, hcause, hup, hdown, hcnt, hkeep, hfail⟩ := s.laneDown_spec hl hc
  have hmem := s.mem_laneDown l cause
  rw [State.laneFault]
  generalize s.laneDown l cause = u at hcause hup hdown hcnt hkeep hfail hmem ⊢
  have hset := State.only_setTrain (s := u) l 8
  have hstat : LANE_STAT l ∉ [LANE_TRAIN l, LANE_ALIGN l] ∧ LANE_EVT l ∉ [LANE_TRAIN l, LANE_ALIGN l] := by interval_cases l <;> decide
  have hap : (LANE_TRAIN_FAILED l).apart (LANE_ALIGN_REQ l) = true ∧ (LANE_TRAIN_FAILED l).apart (LANE_TRAIN_STATE l) = true := by
    interval_cases l <;> decide
  refine ⟨State.trainSt_setTrain hl (by decide), (hset.get_eq hstat.1).trans hcause, (hset.get_eq hstat.1).trans hup, (hset.get_eq hstat.2).trans hdown,
    (State.cnt_congr (hset.2 .live (by simp)) _).trans hcnt, fun f hf hd hs => (hset.get_eq (by rw [hf]; exact hstat.2)).trans (hkeep f hf hd hs),
    fun h1 => ?_, (hset.2 .mem (by simp)).trans hmem⟩
  rw [State.setTrain, State.get_put_apart _ _ hap.1, State.get_put_apart _ _ hap.2]
  exact hfail h1

/-- A rate that has failed after a step is struck out, and the lane goes down. -/
theorem State.rateFail_spec {l : Nat} (hl : l < 4) : (s.rateFail l).trainSt l = (if s.longRing l = true then 8 else 1) ∧
    (s.rateFail l).get (LANE_STAT_DOWN_CAUSE l) = 9 ∧ (s.rateFail l).get (LANE_EVT_RATE_FAIL l) = 1 ∧ (s.rateFail l).mem = s.mem ∧
    (s.get (LANE_STAT_RATE l) < 5 → (s.rateFail l).getBit (LANE_TRAIN_FAILED l) (s.get (LANE_STAT_RATE l)) = true) := by
  have hfits : (LANE_TRAIN_FAILED l).fits = true ∧ (LANE_EVT_RATE_FAIL l).fits = true := by interval_cases l <;> decide
  have hap : (LANE_TRAIN_FAILED l).off ≠ (LANE_EVT_RATE_FAIL l).off := by interval_cases l <;> decide
  have hevt : (LANE_EVT_RATE_FAIL l).apart (LANE_EVT_DOWN l) = true ∧ (LANE_EVT_RATE_FAIL l).apart (LANE_EVT_SAT l) = true := by
    interval_cases l <;> decide
  rw [State.rateFail]
  have hlong : (((s.setBit (LANE_TRAIN_FAILED l) (s.get (LANE_STAT_RATE l))).put (LANE_EVT_RATE_FAIL l) 1)).mem = s.mem := rfl
  have hrf : ((s.setBit (LANE_TRAIN_FAILED l) (s.get (LANE_STAT_RATE l))).put (LANE_EVT_RATE_FAIL l) 1).get (LANE_EVT_RATE_FAIL l) = 1 :=
    State.get_put_self _ hfits.2 (show 1 < 2 ^ 1 by decide)
  have hbit : s.get (LANE_STAT_RATE l) < 5 → ((s.setBit (LANE_TRAIN_FAILED l) (s.get (LANE_STAT_RATE l))).put (LANE_EVT_RATE_FAIL l) 1).getBit
      (LANE_TRAIN_FAILED l) (s.get (LANE_STAT_RATE l)) = true := by
    intro h5
    rw [State.getBit_congr (State.rd_put_ne _ _ _ hap), State.getBit_setBit _ _ hfits.1 h5]
    simp
  generalize (s.setBit (LANE_TRAIN_FAILED l) (s.get (LANE_STAT_RATE l))).put (LANE_EVT_RATE_FAIL l) 1 = u at hlong hrf hbit ⊢
  split
  · obtain ⟨hst, hcause, -, -, -, hkeep, hfail, hmem⟩ := u.laneFault_spec hl (cause := 9) (by decide)
    refine ⟨hst, hcause, (hkeep _ rfl hevt.1 hevt.2).trans hrf, hmem.trans hlong, fun h5 => ?_⟩
    rw [State.getBit, hfail (by decide)]
    exact hbit h5
  · obtain ⟨hst, hcause, -, -, -, hkeep, hfail⟩ := u.laneDown_spec hl (cause := 9) (by decide)
    refine ⟨hst, hcause, (hkeep _ rfl hevt.1 hevt.2).trans hrf, (u.mem_laneDown l 9).trans hlong, fun h5 => ?_⟩
    rw [State.getBit, hfail (by decide)]
    exact hbit h5

/-! ### HELLO (R151) -/

/-- The fields of a good HELLO as they are kept. -/
def State.peerKept (s : State) (l ver cap rates role mode node seq uid : Nat) : State :=
  ((((s.wr (LANE_PEER0 l) (BitVec.ofNat 32 (ver + cap * 2 ^ 8 + rates * 2 ^ 16 + role * 2 ^ 24))).wr (LANE_PEER1 l)
    (BitVec.ofNat 32 (mode + node * 2 ^ 8 + seq * 2 ^ 16))).wr (LANE_PEER2 l) (BitVec.ofNat 32 uid)).put (LANE_PEER3_UID_HI l)
    (uid / 2 ^ 32)).modLn l fun x => { x with seen := true }

theorem State.peerStore_eq (l ver cap rates role mode node seq uid : Nat) : s.peerStore l ver cap rates role mode node seq uid =
    if l < 2 then (s.peerKept l ver cap rates role mode node seq uid).conflictCheck.pairCheck else s.peerKept l ver cap rates role mode node seq uid := by
  unfold State.peerStore State.peerKept
  rfl

theorem State.peerKept_spec {l ver cap rates role mode node seq uid : Nat} (hl : l < 4) (hver : ver < 2 ^ 8) (hcap : cap < 2 ^ 8)
    (hrates : rates < 2 ^ 8) (hrole : role < 2 ^ 8) (hmode : mode < 2 ^ 8) (hnode : node < 2 ^ 8) (hseq : seq < 2 ^ 16) (huid : uid < 2 ^ 48) :
    (s.peerKept l ver cap rates role mode node seq uid).get (LANE_PEER0_VER l) = ver ∧
    (s.peerKept l ver cap rates role mode node seq uid).get (LANE_PEER0_RATES l) = rates ∧
    (s.peerKept l ver cap rates role mode node seq uid).get (LANE_PEER0_ROLE l) = role ∧
    (s.peerKept l ver cap rates role mode node seq uid).get (LANE_PEER1_NODE l) = node ∧
    (s.peerKept l ver cap rates role mode node seq uid).peerUid l = uid ∧
    (s.peerKept l ver cap rates role mode node seq uid).ln l = { s.ln l with seen := true } ∧
    s.only [LANE_PEER0 l, LANE_PEER1 l, LANE_PEER2 l, LANE_PEER3 l] [.lane] (s.peerKept l ver cap rates role mode node seq uid) := by
  have hne : LANE_PEER0 l ≠ LANE_PEER1 l ∧ LANE_PEER0 l ≠ LANE_PEER2 l ∧ LANE_PEER0 l ≠ LANE_PEER3 l ∧ LANE_PEER1 l ≠ LANE_PEER2 l ∧
      LANE_PEER1 l ≠ LANE_PEER3 l ∧ LANE_PEER2 l ≠ LANE_PEER3 l := by interval_cases l <;> decide
  obtain ⟨h01, h02, h03, h12, h13, h23⟩ := hne
  rw [State.peerKept]
  generalize hw0 : BitVec.ofNat 32 (ver + cap * 2 ^ 8 + rates * 2 ^ 16 + role * 2 ^ 24) = w0
  generalize hw1 : BitVec.ofNat 32 (mode + node * 2 ^ 8 + seq * 2 ^ 16) = w1
  have hr0 : ((((s.wr (LANE_PEER0 l) w0).wr (LANE_PEER1 l) w1).wr (LANE_PEER2 l) (BitVec.ofNat 32 uid)).put (LANE_PEER3_UID_HI l)
      (uid / 2 ^ 32)).rd (LANE_PEER0 l) = w0 := by
    rw [State.rd_put_ne _ _ _ h03, State.rd_wr_ne _ _ h02, State.rd_wr_ne _ _ h01, State.rd_wr_same]
  have hr1 : ((((s.wr (LANE_PEER0 l) w0).wr (LANE_PEER1 l) w1).wr (LANE_PEER2 l) (BitVec.ofNat 32 uid)).put (LANE_PEER3_UID_HI l)
      (uid / 2 ^ 32)).rd (LANE_PEER1 l) = w1 := by
    rw [State.rd_put_ne _ _ _ h13, State.rd_wr_ne _ _ h12, State.rd_wr_same]
  have hr2 : ((((s.wr (LANE_PEER0 l) w0).wr (LANE_PEER1 l) w1).wr (LANE_PEER2 l) (BitVec.ofNat 32 uid)).put (LANE_PEER3_UID_HI l)
      (uid / 2 ^ 32)).rd (LANE_PEER2 l) = BitVec.ofNat 32 uid := by
    rw [State.rd_put_ne _ _ _ h23, State.rd_wr_same]
  have hhi : ((((s.wr (LANE_PEER0 l) w0).wr (LANE_PEER1 l) w1).wr (LANE_PEER2 l) (BitVec.ofNat 32 uid)).put (LANE_PEER3_UID_HI l)
      (uid / 2 ^ 32)).get (LANE_PEER3_UID_HI l) = uid / 2 ^ 32 :=
    State.get_put_self _ (by interval_cases l <;> rfl) (show uid / 2 ^ 32 < 2 ^ 16 by omega)
  have honly : s.only [LANE_PEER0 l, LANE_PEER1 l, LANE_PEER2 l, LANE_PEER3 l] [.lane]
      ((((s.wr (LANE_PEER0 l) w0).wr (LANE_PEER1 l) w1).wr (LANE_PEER2 l) (BitVec.ofNat 32 uid)).put (LANE_PEER3_UID_HI l) (uid / 2 ^ 32)) :=
    ((((s.only_refl _ _).wr _ (by simp)).wr _ (by simp)).wr _ (by simp)).put _ (by simp [LANE_PEER3_UID_HI])
  have hlane : ((((s.wr (LANE_PEER0 l) w0).wr (LANE_PEER1 l) w1).wr (LANE_PEER2 l) (BitVec.ofNat 32 uid)).put (LANE_PEER3_UID_HI l)
      (uid / 2 ^ 32)).lane = s.lane := by
    rw [State.put_lane, State.wr_lane, State.wr_lane, State.wr_lane]
  generalize (((s.wr (LANE_PEER0 l) w0).wr (LANE_PEER1 l) w1).wr (LANE_PEER2 l) (BitVec.ofNat 32 uid)).put (LANE_PEER3_UID_HI l)
    (uid / 2 ^ 32) = u at hr0 hr1 hr2 hhi honly hlane ⊢
  have hfld {f : Fld} {w : Word} {lo n v : Nat} (hw : u.rd f.off = w) (hlo : f.lo = lo) (hn : f.w = n) (hv : wordField w lo n = v) :
      (u.modLn l fun x => { x with seen := true }).get f = v := by
    rw [State.get_modLn, State.get, hw, hlo, hn, hv]
  have hlo : (u.modLn l fun x => { x with seen := true }).get (LANE_PEER2_UID_LO l) = uid % 2 ^ 32 := by
    refine hfld hr2 rfl rfl ?_
    simp [wordField, LANE_PEER2_UID_LO]
  refine ⟨hfld (lo := 0) (n := 8) hr0 rfl rfl ?_, hfld (lo := 16) (n := 8) hr0 rfl rfl ?_, hfld (lo := 24) (n := 8) hr0 rfl rfl ?_,
    hfld (lo := 8) (n := 8) hr1 rfl rfl ?_, ?_, ?_, honly.with_lane _ (by simp)⟩
  · rw [← hw0]
    exact wordField_digit 0 ver (cap + rates * 2 ^ 8 + role * 2 ^ 16) (by omega) (by decide) hver (by omega)
  · rw [← hw0]
    exact wordField_digit (ver + cap * 2 ^ 8) rates role (by omega) (by omega) hrates (by omega)
  · rw [← hw0]
    exact wordField_digit (ver + cap * 2 ^ 8 + rates * 2 ^ 16) role 0 (by omega) (by omega) hrole (by omega)
  · rw [← hw1]
    exact wordField_digit mode node seq (by omega) (by omega) hnode (by omega)
  · rw [State.peerUid, hlo, State.get_modLn, hhi]
    omega
  · rw [State.ln_modLn, State.ln_congr hlane]

/-- What a good HELLO leaves: the peer's fields; on a ring lane the twin pair is looked at again, which writes RED's block only. -/
theorem State.peerStore_spec {l ver cap rates role mode node seq uid : Nat} (hl : l < 4) (hver : ver < 2 ^ 8) (hcap : cap < 2 ^ 8)
    (hrates : rates < 2 ^ 8) (hrole : role < 2 ^ 8) (hmode : mode < 2 ^ 8) (hnode : node < 2 ^ 8) (hseq : seq < 2 ^ 16) (huid : uid < 2 ^ 48)
    {t : State} (ht : s.peerStore l ver cap rates role mode node seq uid = t) :
    t.get (LANE_PEER0_VER l) = ver ∧ t.get (LANE_PEER0_RATES l) = rates ∧ t.get (LANE_PEER0_ROLE l) = role ∧ t.get (LANE_PEER1_NODE l) = node ∧
    t.peerUid l = uid ∧ t.ln l = { s.ln l with seen := true } ∧ t.mem = s.mem ∧ t.trainSt l = s.trainSt l ∧ t.chip = s.chip ∧
    t.cnt (LANE_DOWNS l) = s.cnt (LANE_DOWNS l) ∧
    (2 ≤ l → s.only [LANE_PEER0 l, LANE_PEER1 l, LANE_PEER2 l, LANE_PEER3 l] [.lane] t) := by
  obtain ⟨hv, hra, hro, hno, hui, hln, honly⟩ := s.peerKept_spec (l := l) hl hver hcap hrates hrole hmode hnode hseq huid
  rw [State.peerStore_eq] at ht
  generalize s.peerKept l ver cap rates role mode node seq uid = u at hv hra hro hno hui hln honly ht
  have hconf : u.confined [0x05, 0x0E] t := by
    rw [← ht]
    exact .ite (State.confined_conflictCheck.trans (State.confined_pairCheck.mono (by simp))) (u.confined_refl _)
  have hfoot : Foot 8390659 u t := by
    rw [← ht]
    exact Foot.ite (Foot.step (State.pairCheck_foot ..) rfl (Foot.step (State.conflictCheck_foot ..) rfl Foot.refl)) Foot.refl
  have hparts := hfoot.parts (ps := [.regs, .live, .lsv, .fltQ]) (by decide)
  have hblk : blkOf (LANE_PEER0 l) ∉ [0x05, 0x0E] ∧ blkOf (LANE_PEER1 l) ∉ [0x05, 0x0E] ∧ blkOf (LANE_PEER2 l) ∉ [0x05, 0x0E] ∧
      blkOf (LANE_PEER3 l) ∉ [0x05, 0x0E] ∧ blkOf (LANE_TRAIN l) ∉ [0x05, 0x0E] ∧ blkOf (LANE_DOWNS l) ∉ [0x05, 0x0E] := by
    interval_cases l <;> decide
  obtain ⟨hb0, hb1, hb2, hb3, hbt, hbd⟩ := hblk
  have htrain : LANE_TRAIN l ∉ [LANE_PEER0 l, LANE_PEER1 l, LANE_PEER2 l, LANE_PEER3 l] ∧
      ID_STRAP ∉ [LANE_PEER0 l, LANE_PEER1 l, LANE_PEER2 l, LANE_PEER3 l] := by
    interval_cases l <;> decide
  refine ⟨(hconf.get_eq hb0).trans hv, (hconf.get_eq hb0).trans hra, (hconf.get_eq hb0).trans hro, (hconf.get_eq hb1).trans hno, ?_,
    (State.ln_congr (hparts .lane (by simp)) l).trans hln, (hparts .mem (by simp)).trans (honly.2 .mem (by simp)),
    (hconf.get_eq hbt).trans (honly.get_eq htrain.1), (hconf.get_eq (by decide)).trans (honly.get_eq htrain.2),
    (hconf.cnt _ hbd).trans (State.cnt_congr (honly.2 .live (by simp)) _), fun h2 => ?_⟩
  · rw [State.peerUid, hconf.get_eq (f := LANE_PEER2_UID_LO l) hb2, hconf.get_eq (f := LANE_PEER3_UID_HI l) hb3]
    exact hui
  · rw [if_neg (by omega)] at ht
    exact ht ▸ honly

theorem State.rolesOk_congr {t : State} (h : t.chip = s.chip) (l role : Nat) : t.rolesOk l role = s.rolesOk l role := by
  rw [State.rolesOk, State.rolesOk, h]

theorem State.helloRx_kept {l ver cap rates role mode node seq uid : Nat} (hb : s.blocksRx l = true) (hst : s.trainSt l = 4)
    (hm : mode.testBit 7 = false) (hr : (s.peerStore l ver cap rates role mode node seq uid).rolesOk l role = true) :
    s.helloRx l ver cap rates role mode node seq uid = s.peerStore l ver cap rates role mode node seq uid := by
  unfold State.helloRx
  extract_lets st changed t
  have h4 : st = 4 := hst
  have hch : changed = false := by simp [changed, h4]
  rw [if_neg (by simp [hb]), if_neg (by simp [hch]), if_neg (by simp [t, hr]), if_neg (by simp [hm]), if_neg (by omega), if_neg (by omega)]

theorem State.helloRx_role {l ver cap rates role mode node seq uid : Nat} (hb : s.blocksRx l = true) (hst : s.trainSt l ∈ [4, 5, 6])
    (hr : (s.peerStore l ver cap rates role mode node seq uid).rolesOk l role = false) :
    s.helloRx l ver cap rates role mode node seq uid = (s.peerStore l ver cap rates role mode node seq uid).roleFault l role := by
  have hst' : 4 ≤ s.trainSt l ∧ s.trainSt l ≤ 6 := by
    simp only [List.mem_cons, List.not_mem_nil, or_false] at hst
    omega
  unfold State.helloRx
  extract_lets st changed t
  have h46 : 4 ≤ st ∧ st ≤ 6 := hst'
  have hch : changed = false := by
    simp [changed]
    omega
  rw [if_neg (by simp [hb]), if_neg (by simp [hch]), if_pos (by simp [t, hr, h46])]

theorem State.helloRx_changed {l ver cap rates role mode node seq uid : Nat} (hb : s.blocksRx l = true) (hst : s.trainSt l = 7)
    (hu : s.peerUid l ≠ uid) : s.helloRx l ver cap rates role mode node seq uid =
      ((s.peerStore l ver cap rates role mode node seq uid).put (LANE_EVT_PEER_CHANGED l) 1).laneDown l 6 := by
  unfold State.helloRx
  extract_lets st changed t
  have h7 : st = 7 := hst
  have hch : changed = true := by simp [changed, h7, hu]
  rw [if_neg (by simp [hb]), if_pos hch]

theorem mem_fltInsert_self (m : FaultMsg) (q : List FaultMsg) : m ∈ fltInsert m q := by
  induction q with
  | nil => simp [fltInsert]
  | cons x q ih =>
    rw [fltInsert]
    split
    · simp
    · exact List.mem_cons_of_mem _ ih

theorem peer_ne_mode {l : Nat} (hl : l < 4) : MPC_MODE ∉ [LANE_PEER0 l, LANE_PEER1 l, LANE_PEER2 l, LANE_PEER3 l] ∧
    RSTC_INRST ∉ [LANE_PEER0 l, LANE_PEER1 l, LANE_PEER2 l, LANE_PEER3 l] := by
  interval_cases l <;> decide

/-- The peer's identifier outlives the lane's fall. -/
theorem State.peerUid_laneDown {l cause : Nat} (hl : l < 4) (hc : cause < 256) : (s.laneDown l cause).peerUid l = s.peerUid l := by
  obtain ⟨-, -, -, -, -, honly, -⟩ := s.laneFallen_spec hl hc
  have hin : LANE_PEER2 l ∉ [LANE_STAT l, LANE_EVT l, LANE_TRAIN l, LANE_ALIGN l, FLT_STAT] ∧
      LANE_PEER3 l ∉ [LANE_STAT l, LANE_EVT l, LANE_TRAIN l, LANE_ALIGN l, FLT_STAT] ∧ blkOf (LANE_PEER2 l) ∉ ringBlks ∧
      blkOf (LANE_PEER3 l) ∉ ringBlks := by
    interval_cases l <;> decide
  obtain ⟨h2, h3, hb2, hb3⟩ := hin
  rw [State.laneDown_eq]
  have hconf := State.confined_ringTold (s := s.laneFallen l cause) cause (s.on (LANE_STAT_PLANNED l)) s.quietDown hl
  generalize s.laneFallen l cause = u at honly hconf ⊢
  rw [State.peerUid, hconf.get_eq (f := LANE_PEER2_UID_LO l) hb2, hconf.get_eq (f := LANE_PEER3_UID_HI l) hb3,
    honly.get_eq (f := LANE_PEER2_UID_LO l) h2, honly.get_eq (f := LANE_PEER3_UID_HI l) h3, State.peerUid]

/-- What a lane shows that its peer's role has taken to FAULT. -/
theorem State.roleFault_spec {l : Nat} (role : Nat) (hl : l < 4) : (s.roleFault l role).trainSt l = 8 ∧
    (s.roleFault l role).get (LANE_STAT_DOWN_CAUSE l) = 0x0A ∧ (s.roleFault l role).get (LANE_EVT_ROLE_FAULT l) = 1 ∧
    (s.roleFault l role).get (LANE_EVT_DOWN l) = 1 ∧ s.advanced (s.roleFault l role) (LANE_DOWNS l) 1 ∧ (s.roleFault l role).mem = s.mem := by
  obtain ⟨hst, hcause, -, hdown, hcnt, -, -, hmem⟩ := s.laneFault_spec hl (cause := 0x0A) (by decide)
  rw [State.roleFault]
  generalize s.laneFault l 0x0A = u at hst hcause hdown hcnt hmem ⊢
  have hfits : (LANE_EVT_ROLE_FAULT l).fits = true := by interval_cases l <;> rfl
  have hne : (LANE_TRAIN_STATE l).off ≠ (LANE_EVT_ROLE_FAULT l).off ∧ (LANE_STAT_DOWN_CAUSE l).off ≠ (LANE_EVT_ROLE_FAULT l).off ∧
      (LANE_EVT_DOWN l).apart (LANE_EVT_ROLE_FAULT l) = true ∧ LANE_DOWNS l ≠ FLT_CNT 5 := by interval_cases l <;> decide
  have hflt : LANE_TRAIN l ∉ [FLT_STAT] ∧ LANE_STAT l ∉ [FLT_STAT] ∧ LANE_EVT l ∉ [FLT_STAT] := by interval_cases l <;> decide
  have hputs : (u.put (LANE_EVT_ROLE_FAULT l) 1).trainSt l = 8 ∧ (u.put (LANE_EVT_ROLE_FAULT l) 1).get (LANE_STAT_DOWN_CAUSE l) = 0x0A ∧
      (u.put (LANE_EVT_ROLE_FAULT l) 1).get (LANE_EVT_ROLE_FAULT l) = 1 ∧ (u.put (LANE_EVT_ROLE_FAULT l) 1).get (LANE_EVT_DOWN l) = 1 ∧
      s.advanced (u.put (LANE_EVT_ROLE_FAULT l) 1) (LANE_DOWNS l) 1 ∧ (u.put (LANE_EVT_ROLE_FAULT l) 1).mem = s.mem :=
    ⟨(State.get_put_ne _ _ _ _ hne.1).trans hst, (State.get_put_ne _ _ _ _ hne.2.1).trans hcause, State.get_put_self _ hfits (show 1 < 2 ^ 1 by decide),
      (State.get_put_apart _ _ hne.2.2.1).trans hdown, (State.cnt_put _ _ _ _).trans hcnt, (State.put_mem _ _ _).trans hmem⟩
  generalize u.put (LANE_EVT_ROLE_FAULT l) 1 = v at hputs ⊢
  obtain ⟨hst, hcause, hrole, hdown, hcnt, hmem⟩ := hputs
  have hfault (src kind addr : Nat) : (v.fault src kind addr).trainSt l = 8 ∧ (v.fault src kind addr).get (LANE_STAT_DOWN_CAUSE l) = 0x0A ∧
      (v.fault src kind addr).get (LANE_EVT_ROLE_FAULT l) = 1 ∧ (v.fault src kind addr).get (LANE_EVT_DOWN l) = 1 ∧
      s.advanced (v.fault src kind addr) (LANE_DOWNS l) 1 ∧ (v.fault src kind addr).mem = s.mem := by
    have honly := v.only_fault src kind addr
    exact ⟨(honly.get_eq hflt.1).trans hst, (honly.get_eq hflt.2.1).trans hcause, (honly.get_eq hflt.2.2).trans hrole, (honly.get_eq hflt.2.2).trans hdown,
      (State.cnt_faultMsg _ hne.2.2.2).trans hcnt, (honly.2 .mem (by simp)).trans hmem⟩
  split
  · exact hfault _ _ _
  · exact hfault _ _ _

/-- A stack lane's wrong role is reported beside its fall. -/
theorem State.roleFault_reported {l role : Nat} (hl : l < 4) (h2 : 2 ≤ l) (hr : s.roomy) (hq : s.fltQ.length < 31) :
    ⟨laneBlk l, 0x32, kindSev 0x32, bits role 3 2, false, s.sys.t⟩ ∈ (s.roleFault l role).fltQ := by
  have hconf : s.confined (laneBlk l :: ringBlks) ((s.laneFault l 0x0A).put (LANE_EVT_ROLE_FAULT l) 1) :=
    ((State.confined_laneDown 0x0A hl).trans ((State.confined_setTrain 8 hl).mono (by simp))).putLane _ (by simp) (blkOf_lane hl).2.1
  have hlen : ((s.laneFault l 0x0A).put (LANE_EVT_ROLE_FAULT l) 1).fltQ.length < 32 := by
    obtain ⟨-, -, -, -, -, -, -, -, hlen⟩ := s.laneFallen_spec hl (cause := 0x0A) (by decide)
    have hset : ((s.laneDown l 0x0A).setTrain l 8).fltQ = (s.laneDown l 0x0A).fltQ := (State.only_setTrain l 8).2 .fltQ (by simp)
    rw [State.put_fltQ, State.laneFault, hset, State.laneDown_eq, State.ringTold, if_neg (by omega), (State.pdDown_foot _ l).fltQ rfl]
    omega
  obtain ⟨hmode, hrst, -⟩ := hr
  rw [State.roleFault]
  generalize (s.laneFault l 0x0A).put (LANE_EVT_ROLE_FAULT l) 1 = u at hconf hlen ⊢
  have hroom : u.roomy := by
    refine ⟨?_, ?_, hlen⟩
    · rwa [State.mode, hconf.mode MPC_MODE_CUR rfl rfl]
    · rwa [State.getBit, hconf.get_eq (f := RSTC_INRST_BLK) (by interval_cases l <;> decide)]
  have hsent := hroom.sent_fault (laneBlk l) 0x32 (bits role 3 2)
  have hbits : bits role 3 2 % 2 ^ 48 = bits role 3 2 := Nat.mod_eq_of_lt (Nat.lt_of_lt_of_le (Nat.mod_lt _ (by decide)) (by decide))
  rw [State.sent, hbits, show u.sys.t = s.sys.t by rw [hconf.sys]] at hsent
  rw [if_neg (by omega), hsent]
  exact mem_fltInsert_self _ _

end

theorem peerChanged_fits (l : Fin 4) : (LANE_EVT_PEER_CHANGED l.val).fits = true ∧
    (LANE_EVT_PEER_CHANGED l.val).apart (LANE_EVT_DOWN l.val) = true ∧ (LANE_EVT_PEER_CHANGED l.val).apart (LANE_EVT_SAT l.val) = true := by
  revert l
  decide

theorem rateFail_fits (l : Fin 4) : (LANE_EVT_RATE_FAIL l.val).fits = true ∧ (LANE_EVT_RATE_FAIL l.val).apart (LANE_EVT_DOWN l.val) = true ∧
    (LANE_EVT_RATE_FAIL l.val).apart (LANE_EVT_SAT l.val) = true := by
  revert l
  decide

theorem peer_ne_evt (l : Fin 4) : LANE_PEER2 l.val ≠ LANE_EVT l.val ∧ LANE_PEER3 l.val ≠ LANE_EVT l.val := by
  revert l
  decide

/-- Settles O25: the training messages, the two ways of HELLO, a step from UP, and the rate that fails. -/
theorem laneSteps : Obligations.LaneSteps := by
  unfold Obligations.LaneSteps
  refine ⟨?_, ?_, ?_, ?_, ?_, ?_, ?_, ?_, ?_, ?_, ?_, ?_, ?_, ?_, ?_, ?_⟩
  · intro l s h0 h8 hr hq
    obtain ⟨hlen, hkind, hseq, honly⟩ := s.trainTx_spec (l := l.val) (msg := 1) 0 hq (by decide)
    have hexec : exec (.helloTx l) s = .next (s.trainTx l.val 1 0) := congrArg Host.Outcome.next (if_neg (by simp [h0, h8, hr]))
    exact ⟨_, hexec, hlen, hkind, hseq, honly⟩
  · intro l s h5 hq
    obtain ⟨hlen, hkind, hseq, honly⟩ := s.trainTx_spec (l := l.val) (msg := 2) (s.get (LANE_TRAIN_TARGET l.val)) hq (by decide)
    have hexec : exec (.rateReqTx l) s = .next (s.trainTx l.val 2 (s.get (LANE_TRAIN_TARGET l.val))) := congrArg Host.Outcome.next (if_pos h5)
    exact ⟨_, hexec, hlen, hkind, hseq, honly⟩
  · intro l target s h5 ht hq
    obtain ⟨-, hkind, -, honly⟩ := s.trainTx_spec (l := l.val) (msg := 3) target.toNat hq (by decide)
    have hexec : exec (.rateReq l target) s = .next ((s.trainTx l.val 3 target.toNat).modLn l.val fun x => { x with ackTx := true }) := by
      change Host.Outcome.next (s.rateReqRx l.val target.toNat) = _
      rw [State.rateReqRx, if_pos (by simp [h5, hq]), if_pos ht]
    generalize s.trainTx l.val 3 target.toNat = u at hkind honly hexec
    exact ⟨_, hexec, by rw [State.ln_modLn], by rw [State.ln_modLn]; exact hkind, honly.trans (State.only_modLn _ _)⟩
  · intro l target s h5 ht hq
    obtain ⟨-, hkind, -, honly⟩ := s.trainTx_spec (l := l.val) (msg := 4) target.toNat hq (by decide)
    have hexec : exec (.rateReq l target) s = .next ((s.trainTx l.val 4 target.toNat).setTrain l.val 4) := by
      change Host.Outcome.next (s.rateReqRx l.val target.toNat) = _
      rw [State.rateReqRx, if_pos (by simp [h5, hq]), if_neg ht]
    generalize s.trainTx l.val 4 target.toNat = u at hkind honly hexec
    have hset := State.only_setTrain (s := u) l.val 4
    exact ⟨_, hexec, State.trainSt_setTrain l.isLt (by decide), by rw [State.ln_congr (hset.2 .lane (by simp))]; exact hkind,
      (honly.mono (by simp) (by simp)).trans (hset.mono (by simp) (by simp))⟩
  · intro l target s h5 ht
    have hexec : exec (.rateAck l target) s = .next (s.modLn l.val fun x => { x with ackRx := true }) := by
      change Host.Outcome.next (s.rateAckRx l.val target.toNat) = _
      rw [State.rateAckRx, if_pos ⟨h5, ht⟩]
    exact ⟨_, hexec, State.ln_modLn _ _, State.only_modLn _ _⟩
  · intro l s h5
    have hexec : exec (.rateNak l) s = .next (s.setTrain l.val 4) := by
      change Host.Outcome.next (s.rateNakRx l.val) = _
      rw [State.rateNakRx, if_pos h5]
    exact ⟨_, hexec, State.trainSt_setTrain l.isLt (by decide), State.only_setTrain _ _⟩
  · intro l s h5 htx hrx href
    obtain ⟨h2, hrate, hcdr, hlock, hstep, honly⟩ := s.relocked_spec l.isLt
    have hexec : exec (.pllRelock l) s = .next (s.relocked l.val) := by
      change execPllRelock l s = _
      rw [execPllRelock, if_pos ⟨h5, htx, hrx, href⟩, State.relocked]
    exact ⟨_, hexec, h2, hrate, hcdr, hlock, hstep, honly⟩
  · intro l ver cap rates role mode node seq uid s hb hst hm hr
    obtain ⟨hv, hra, hro, hno, hui, hln, hmem, htr, hchip, -, honly⟩ := State.peerStore_spec (s := s) l.isLt ver.isLt cap.isLt rates.isLt role.isLt mode.isLt
      node.isLt seq.isLt uid.isLt rfl
    have hexec : exec (.hello l ver cap rates role mode node seq uid) s = .next (s.peerStore l.val ver.toNat cap.toNat rates.toNat role.toNat
        mode.toNat node.toNat seq.toNat uid.toNat) :=
      congrArg Host.Outcome.next (State.helloRx_kept hb hst ((BitVec.testBit_toNat mode).trans hm) ((State.rolesOk_congr hchip _ _).trans hr))
    exact ⟨_, hexec, hv, hra, hro, hno, hui, hln, htr.trans hst, hmem, honly⟩
  · intro l ver cap rates role mode node seq uid s hb hst hr hroom hq
    obtain ⟨-, -, -, -, -, -, hmem, -, hchip, hcnt, honly⟩ := State.peerStore_spec (s := s) l.isLt ver.isLt cap.isLt rates.isLt role.isLt mode.isLt
      node.isLt seq.isLt uid.isLt rfl
    have hexec : exec (.hello l ver cap rates role mode node seq uid) s = .next ((s.peerStore l.val ver.toNat cap.toNat rates.toNat role.toNat
        mode.toNat node.toNat seq.toNat uid.toNat).roleFault l.val role.toNat) :=
      congrArg Host.Outcome.next (State.helloRx_role hb hst ((State.rolesOk_congr hchip _ _).trans hr))
    generalize s.peerStore l.val ver.toNat cap.toNat rates.toNat role.toNat mode.toNat node.toNat seq.toNat uid.toNat = u at hmem hcnt honly hexec
    obtain ⟨h8, hcause, hrole, hdown, hadv, hmem'⟩ := u.roleFault_spec role.toNat l.isLt
    rw [State.advanced, hcnt] at hadv
    refine ⟨_, hexec, h8, hcause, hrole, hdown, hadv, hmem'.trans hmem, fun h2 => ?_⟩
    have hkeep := honly h2
    have hq' : u.fltQ = s.fltQ := hkeep.2 .fltQ (by simp)
    have hne := peer_ne_mode l.isLt
    have hin := State.roleFault_reported (s := u) (role := role.toNat) l.isLt h2 (hkeep.roomy hroom hne.1 hne.2 (by simp)) (by rw [hq']; exact hq)
    rwa [show u.sys = s.sys from hkeep.2 .sys (by simp)] at hin
  · intro l ver cap rates role mode node seq uid s hb hst hu
    obtain ⟨-, -, -, -, hui, -, hmem, -⟩ := State.peerStore_spec (s := s) l.isLt ver.isLt cap.isLt rates.isLt role.isLt mode.isLt
      node.isLt seq.isLt uid.isLt rfl
    have hexec : exec (.hello l ver cap rates role mode node seq uid) s = .next (((s.peerStore l.val ver.toNat cap.toNat rates.toNat role.toNat
        mode.toNat node.toNat seq.toNat uid.toNat).put (LANE_EVT_PEER_CHANGED l.val) 1).laneDown l.val 6) :=
      congrArg Host.Outcome.next (State.helloRx_changed hb hst hu)
    generalize s.peerStore l.val ver.toNat cap.toNat rates.toNat role.toNat mode.toNat node.toNat seq.toNat uid.toNat = u at hmem hui hexec
    have hfits : (LANE_EVT_PEER_CHANGED l.val).fits = true ∧ (LANE_EVT_PEER_CHANGED l.val).apart (LANE_EVT_DOWN l.val) = true ∧
        (LANE_EVT_PEER_CHANGED l.val).apart (LANE_EVT_SAT l.val) = true := peerChanged_fits l
    have hne : LANE_PEER2 l.val ≠ LANE_EVT l.val ∧ LANE_PEER3 l.val ≠ LANE_EVT l.val := peer_ne_evt l
    have hput : (u.put (LANE_EVT_PEER_CHANGED l.val) 1).get (LANE_EVT_PEER_CHANGED l.val) = 1 :=
      State.get_put_self _ hfits.1 (show 1 < 2 ^ 1 by decide)
    have hputUid : (u.put (LANE_EVT_PEER_CHANGED l.val) 1).peerUid l.val = uid.toNat := by
      rw [State.peerUid, State.get_put_ne _ (LANE_EVT_PEER_CHANGED l.val) (LANE_PEER2_UID_LO l.val) _ hne.1,
        State.get_put_ne _ (LANE_EVT_PEER_CHANGED l.val) (LANE_PEER3_UID_HI l.val) _ hne.2]
      exact hui
    have hputMem : (u.put (LANE_EVT_PEER_CHANGED l.val) 1).mem = s.mem := (State.put_mem _ _ _).trans hmem
    generalize u.put (LANE_EVT_PEER_CHANGED l.val) 1 = v at hput hputUid hputMem hexec
    obtain ⟨h1, hcause, -, -, -, hkeep, -⟩ := v.laneDown_spec l.isLt (cause := 6) (by decide)
    exact ⟨_, hexec, h1, hcause, (hkeep _ rfl hfits.2.1 hfits.2.2).trans hput, (State.peerUid_laneDown l.isLt (by decide)).trans hputUid,
      (v.mem_laneDown _ _).trans hputMem⟩
  · intro l s h7 hkept hlong
    obtain ⟨y, hy⟩ := s.noteCond_lane l.val
    have hexec : exec (.stepCondition l) s = .next (({ s with lane := y } : State).stepTo l.val (s.bestRate l.val)) := by
      change execStepCondition l s = _
      rw [execStepCondition, if_pos h7, hy, if_pos (by simpa using (show ({ s with lane := y } : State).rateKept l.val = false from hkept)), State.rateLost,
        if_neg (by simpa using (show ({ s with lane := y } : State).longShort l.val = false from hlong))]
      rfl
    obtain ⟨h5, htarget, hplan, hup, htx, hrx, hmem⟩ := State.stepTo_spec (s := { s with lane := y }) l.isLt h7 (s.bestRate_lt l.val)
    exact ⟨_, hexec, h5, htarget, hplan, hup, htx, hrx, hmem⟩
  · intro l s h7 hkept hlong
    obtain ⟨y, hy⟩ := s.noteCond_lane l.val
    have hexec : exec (.stepCondition l) s = .next ((({ s with lane := y } : State).put (LANE_EVT_RATE_FAIL l.val) 1).laneFault l.val 9) := by
      change execStepCondition l s = _
      rw [execStepCondition, if_pos h7, hy, if_pos (by simpa using (show ({ s with lane := y } : State).rateKept l.val = false from hkept)), State.rateLost,
        if_pos (by simpa using (show ({ s with lane := y } : State).longShort l.val = true from hlong)), State.longFail]
    have hfits := rateFail_fits l
    have hput : (({ s with lane := y } : State).put (LANE_EVT_RATE_FAIL l.val) 1).get (LANE_EVT_RATE_FAIL l.val) = 1 :=
      State.get_put_self _ hfits.1 (show 1 < 2 ^ 1 by decide)
    have hmem : (({ s with lane := y } : State).put (LANE_EVT_RATE_FAIL l.val) 1).mem = s.mem := State.put_mem _ _ _
    generalize ({ s with lane := y } : State).put (LANE_EVT_RATE_FAIL l.val) 1 = u at hput hmem hexec
    obtain ⟨h8, hcause, hup, -, -, hkeep, -, hmem'⟩ := u.laneFault_spec l.isLt (cause := 9) (by decide)
    exact ⟨_, hexec, h8, hcause, (hkeep _ rfl hfits.2.1 hfits.2.2).trans hput, hup, hmem'.trans hmem⟩
  · intro l s h7 hkept hmay hheld hcond hrate
    have hnote : s.noteCond l.val = s := by
      rw [State.noteCond, if_pos hmay]
      split
      · rfl
      · next h => exact absurd h hcond
    have hexec : exec (.stepCondition l) s = .next (s.stepTo l.val (s.bestRate l.val)) := by
      change execStepCondition l s = _
      rw [execStepCondition, if_pos h7, hnote, if_neg (by simp [hkept]), if_pos (by simp [hmay, hheld, hrate])]
    obtain ⟨h5, htarget, hplan, hup, -, -, hmem⟩ := s.stepTo_spec l.isLt h7 (s.bestRate_lt l.val)
    exact ⟨_, hexec, h5, htarget, hplan, hup, hmem⟩
  · intro l s h7 hkept hmay
    have hnote : s.noteCond l.val = s.modLn l.val fun x => { x with condT := none } := by rw [State.noteCond, if_neg (by simp [hmay])]
    have hmay' : (s.modLn l.val fun x => { x with condT := none }).mayStep l.val = false := (State.mayStep_modLn rfl).trans hmay
    have hkept' : (s.modLn l.val fun x => { x with condT := none }).rateKept l.val = true := hkept
    have hexec : exec (.stepCondition l) s = .next (s.modLn l.val fun x => { x with condT := none }) := by
      change execStepCondition l s = _
      rw [execStepCondition, if_pos h7, hnote, if_neg (by simp [hkept']), if_neg (by simp [hmay'])]
    exact ⟨_, hexec, State.ln_modLn _ _, State.only_modLn _ _⟩
  · intro l s h3 hstep
    obtain ⟨hst, hcause, hrf, hmem, hbit⟩ := s.rateFail_spec l.isLt
    have hexec : exec (.alignTimeout l) s = .next (s.rateFail l.val) := by
      change execAlignTimeout l s = _
      rw [execAlignTimeout, if_pos h3, if_pos hstep]
    exact ⟨_, hexec, hst, hcause, hrf, hmem, hbit⟩
  · intro l s h8 hcause
    have hexec : exec (.rateFailHoldoff l) s = .next (s.detect l.val) := congrArg Host.Outcome.next (if_pos ⟨h8, hcause⟩)
    exact ⟨_, hexec, State.trainSt_detect l.isLt, State.rate_detect l.isLt, State.only_detect _⟩

end Sys2Proof.Machine

/-! DORMANT: its entry, its wakes and the wake pattern (R66 to R73). -/
namespace Sys2Proof.Machine

set_option Elab.async false

section
variable {s : State}

/-! ### The reset that ends DORMANT -/

/-- The boot that follows a reset stands beside what the reset writes of the mode. -/
theorem State.booting_warmLogged (cause init ftest : Nat) (multi : Bool) :
    (s.warmLogged cause init ftest multi).get MPC_MODE_BOOTING = s.get MPC_MODE_BOOTING := by
  have hgh : MPC_MODE ∉ gh320Regs := fun h => (gh320Regs_blk h).elim (by decide) (by decide)
  have hput : ((s.put MSA_STAT_INIT_DONE init).put MPC_MODE_FTEST ftest).get MPC_MODE_BOOTING = s.get MPC_MODE_BOOTING :=
    (State.get_put_apart _ _ rfl).trans (State.get_put_ne _ _ _ _ (by decide))
  rw [State.warmLogged]
  generalize (s.put MSA_STAT_INIT_DONE init).put MPC_MODE_FTEST ftest = u at hput ⊢
  have hset : u.setGh320.get MPC_MODE_BOOTING = u.get MPC_MODE_BOOTING := State.only_setGh320.get_eq hgh
  generalize u.setGh320 = v at hset ⊢
  have hcause : (v.put RSTC_CAUSE_CODE cause).get MPC_MODE_BOOTING = v.get MPC_MODE_BOOTING := State.get_put_ne _ _ _ _ (by decide)
  generalize v.put RSTC_CAUSE_CODE cause = w at hcause ⊢
  have hlt := w.get_lt RSTC_LOG_HEAD_NEXT
  have hlog : MPC_MODE ∉ RSTC_LOG_HEAD :: logEntry (w.get RSTC_LOG_HEAD_NEXT) := by
    simp only [logEntry, RSTC_LOG_W0, RSTC_LOG_W1, RSTC_LOG_HEAD, MPC_MODE, List.mem_cons, List.not_mem_nil, or_false]
    omega
  exact (((w.only_logReset cause 0xFE 1 multi 0).get_eq hlog).trans hcause).trans (hset.trans hput)

theorem State.booting_warmEnd {cause : Nat} (e : Nat) (dorm : Bool) (h2 : cause ≠ 2) :
    (s.warmEnd cause e dorm).get MPC_MODE_BOOTING = s.get MPC_MODE_BOOTING := by
  have hstale : MPC_MODE ∉ staleRegs := fun h => absurd (staleRegs_blk h) (by decide)
  rw [State.warmEnd]
  have hkeep : ({ s with sys := { s.sys with lastRst := some (s.slowCycle, cause, e, dorm) } } : State).get MPC_MODE_BOOTING = s.get MPC_MODE_BOOTING := rfl
  generalize ({ s with sys := { s.sys with lastRst := some (s.slowCycle, cause, e, dorm) } } : State) = u at hkeep ⊢
  rw [if_neg h2, ← hkeep]
  split
  · exact State.only_staleMark.get_eq hstale
  · rfl

theorem wake_notMem_warmRegs {e : Nat} (he : e < 16) : MPC_WAKE_CAUSE ∉ warmRegs e := by
  have hgh : MPC_WAKE_CAUSE ∉ gh320Regs := fun h => (gh320Regs_blk h).elim (by decide) (by decide)
  rw [List.mem_append, not_or]
  refine ⟨?_, hgh⟩
  simp only [RSTC_LOG_W0, RSTC_LOG_W1, MPC_WAKE_CAUSE, MSA_STAT, MPC_MODE, RSTC_CAUSE, RSTC_LOG_HEAD, List.mem_cons, List.not_mem_nil, or_false]
  omega

theorem State.only_dormEnd : s.only [LPW_SEQ_STAT] [.mem, .store] s.dormEnd := by
  have hput : s.only [LPW_SEQ_STAT] [.mem, .store] ((s.put LPW_SEQ_STAT_STATE 1).setBit LPW_SEQ_STAT_PEN 0) :=
    ((s.only_refl _ _).put _ (by simp [LPW_SEQ_STAT_STATE])).setBit _ (by simp [LPW_SEQ_STAT_PEN])
  rw [State.dormEnd]
  generalize (s.put LPW_SEQ_STAT_STATE 1).setBit LPW_SEQ_STAT_PEN 0 = u at hput ⊢
  exact (hput.with_mem [] (by simp)).with_store _ (by simp)

/-- What the WARM reset of a wake leaves (R71, R86). -/
theorem State.warmBody_dormant {cause : Nat} (multi : Bool) (hm : s.mode = 0) (hcause : cause < 256) (h2 : cause ≠ 2) :
    (s.warmBody cause multi).mem = [] ∧ (s.warmBody cause multi).get MSA_STAT_INIT_DONE = 0 ∧ (s.warmBody cause multi).biv.mem = s.biv.mem ∧
      (s.warmBody cause multi).get RSTC_CAUSE_CODE = cause ∧
      (s.warmBody cause multi).get (RSTC_LOG_W0_CODE (s.get RSTC_LOG_HEAD_NEXT)) = cause ∧
      (s.warmBody cause multi).rd MPC_WAKE_CAUSE = s.rd MPC_WAKE_CAUSE ∧ (s.warmBody cause multi).get LPW_SEQ_STAT_STATE = 1 ∧
      (s.warmBody cause multi).getBit LPW_SEQ_STAT_PEN 0 = true ∧ (s.warmBody cause multi).get MPC_MODE_BOOTING = 1 := by
  have hdie := State.dieKept_warmDie (s := s)
  have hnext : s.warmDie.get RSTC_LOG_HEAD_NEXT = s.get RSTC_LOG_HEAD_NEXT := State.get_congr (hdie.kept _ (by decide) (by decide) (by decide))
  have hwake : s.warmDie.rd MPC_WAKE_CAUSE = s.rd MPC_WAKE_CAUSE := hdie.kept _ (by decide) (by decide) (by decide)
  have hboot : s.warmDie.get MPC_MODE_BOOTING = 1 := by
    rw [State.get, hdie.cleared _ (by decide)]
    decide
  have hbiv := hdie.biv
  rw [State.warmBody_eq, if_pos hm]
  obtain ⟨hcd, hi, -, hw0, -, honly⟩ := State.warmLogged_spec (u := s.warmDie) (ftest := s.get MPC_MODE_FTEST) (multi := multi) hcause
    (show 0 < 2 by decide)
  have hbl := (s.warmDie.booting_warmLogged cause 0 (s.get MPC_MODE_FTEST) multi).trans hboot
  rw [hnext] at hw0 honly
  generalize s.warmDie.warmLogged cause 0 (s.get MPC_MODE_FTEST) multi = v at hcd hi hw0 honly hbl ⊢
  have hlt : s.get RSTC_LOG_HEAD_NEXT < 16 := s.get_lt RSTC_LOG_HEAD_NEXT
  generalize s.get RSTC_LOG_HEAD_NEXT = e at hw0 honly hlt ⊢
  have hvwake : v.rd MPC_WAKE_CAUSE = s.rd MPC_WAKE_CAUSE := (honly.1 _ (wake_notMem_warmRegs hlt)).trans hwake
  have hvbiv : v.biv.mem = s.biv.mem := (congrArg (·.mem) (honly.2 .biv (by simp))).trans hbiv
  have hbe := (v.booting_warmEnd e true h2).trans hbl
  obtain ⟨-, -, hend⟩ := State.warmEnd_spec (t := v) (cause := cause) (e := e) (dorm := true)
  have hout {o : Nat} (hm : o ≠ MPC_MODE) (hb : blkOf o ≠ 0x12) : o ∉ MPC_MODE :: (if v.d2dLost then staleRegs else []) := by
    rw [List.mem_cons, not_or]
    refine ⟨hm, fun h => ?_⟩
    split at h
    · exact hb (staleRegs_blk h)
    · exact absurd h (by simp)
  have hlog : RSTC_LOG_W0 e ≠ MPC_MODE ∧ blkOf (RSTC_LOG_W0 e) ≠ 0x12 ∧ RSTC_LOG_W0 e ≠ LPW_SEQ_STAT := by
    simp only [RSTC_LOG_W0, MPC_MODE, LPW_SEQ_STAT, blkOf]
    omega
  have hwinit := (hend.get_eq (f := MSA_STAT_INIT_DONE) (hout (by decide) (by decide))).trans hi
  have hwcause := (hend.get_eq (f := RSTC_CAUSE_CODE) (hout (by decide) (by decide))).trans hcd
  have hwwake := (hend.1 _ (hout (o := MPC_WAKE_CAUSE) (by decide) (by decide))).trans hvwake
  have hwlog : (v.warmEnd cause e true).get (RSTC_LOG_W0_CODE e) = cause := by
    rw [hend.get_eq (f := RSTC_LOG_W0_CODE e) (hout hlog.1 hlog.2.1), State.get, show v.rd (RSTC_LOG_W0_CODE e).off = _ from hw0]
    exact (wordField_logWord multi 0 hcause (by decide) (by decide)).1
  have hwbiv : (v.warmEnd cause e true).biv.mem = s.biv.mem := (congrArg (·.mem) (hend.2 .biv (by simp))).trans hvbiv
  generalize v.warmEnd cause e true = w at hwinit hwcause hwwake hwlog hwbiv hbe ⊢
  have hdorm := w.only_dormEnd
  have hne : RSTC_LOG_W0 e ∉ [LPW_SEQ_STAT] := by simpa using hlog.2.2
  refine ⟨rfl, (hdorm.get_eq (by decide)).trans hwinit, (congrArg (·.mem) (hdorm.2 .biv (by simp))).trans hwbiv, (hdorm.get_eq (by decide)).trans hwcause,
    (hdorm.get_eq hne).trans hwlog, (hdorm.1 _ (by decide)).trans hwwake, ?_, ?_, (hdorm.get_eq (by decide)).trans hbe⟩
  · have hst : (w.put LPW_SEQ_STAT_STATE 1).get LPW_SEQ_STAT_STATE = 1 := State.get_put_val _ _ _ rfl
    exact (State.get_put_apart _ _ rfl).trans hst
  · have hbit := (w.put LPW_SEQ_STAT_STATE 1).getBit_setBit (f := LPW_SEQ_STAT_PEN) (i := 0) 0 rfl (by decide)
    refine Eq.trans (show w.dormEnd.getBit LPW_SEQ_STAT_PEN 0 = ((w.put LPW_SEQ_STAT_STATE 1).setBit LPW_SEQ_STAT_PEN 0).getBit LPW_SEQ_STAT_PEN 0 from rfl)
      (hbit.trans ?_)
    simp

/-! ### Wakes (R70, R71) -/

/-- The hub in DORMANT with its sources noted. -/
def State.wakeNoted (s : State) (srcs : Nat) : State := s.wr MPC_WAKE_CAUSE (s.rd MPC_WAKE_CAUSE ||| BitVec.ofNat 32 srcs)

theorem State.dormantWake_eq {srcs : Nat} (hm : s.mode = 0) : ∃ pat, s.dormantWake srcs =
    ((s.wakeNoted srcs).warmBody 0x08 (s.wakeNoted srcs).unitNow).wakeNote ((s.wakeNoted srcs).wakeRuns srcs) pat := by
  have hm' : (s.wakeNoted srcs).mode = 0 := (State.get_congr (State.rd_wr_ne _ _ (by decide))).trans hm
  exact ⟨_, if_pos hm'⟩

theorem State.wakeRuns_wakeNoted (srcs : Nat) : (s.wakeNoted srcs).wakeRuns srcs = s.wakeRuns srcs := by
  have hon : (s.wakeNoted srcs).on MPC_DORM_WAKE_RUN = s.on MPC_DORM_WAKE_RUN := State.on_congr (State.rd_wr_ne _ _ (by decide))
  rw [State.wakeRuns, hon, State.wakeRuns]

/-- What a wake in DORMANT leaves. -/
theorem State.dormantWake_spec {srcs : Nat} (hm : s.mode = 0) : (∀ i, i < 32 → srcs.testBit i = true → ((s.dormantWake srcs).rd MPC_WAKE_CAUSE).getLsbD i = true) ∧
    (s.dormantWake srcs).get RSTC_CAUSE_CODE = 0x08 ∧ (s.dormantWake srcs).get (RSTC_LOG_W0_CODE (s.get RSTC_LOG_HEAD_NEXT)) = 0x08 ∧
    (s.dormantWake srcs).mem = [] ∧ (s.dormantWake srcs).get MSA_STAT_INIT_DONE = 0 ∧ (s.dormantWake srcs).biv.mem = s.biv.mem ∧
    (s.dormantWake srcs).get LPW_SEQ_STAT_STATE = 1 ∧ (s.dormantWake srcs).getBit LPW_SEQ_STAT_PEN 0 = true ∧
    (s.dormantWake srcs).sys.woke = some (s.wakeRuns srcs) ∧ (s.dormantWake srcs).get MPC_MODE_BOOTING = 1 := by
  obtain ⟨pat, heq⟩ := s.dormantWake_eq (srcs := srcs) hm
  have hcause : (s.wakeNoted srcs).rd MPC_WAKE_CAUSE = s.rd MPC_WAKE_CAUSE ||| BitVec.ofNat 32 srcs := State.rd_wr_same _ _ _
  have hm' : (s.wakeNoted srcs).mode = 0 := (State.get_congr (State.rd_wr_ne _ _ (by decide))).trans hm
  have hnext : (s.wakeNoted srcs).get RSTC_LOG_HEAD_NEXT = s.get RSTC_LOG_HEAD_NEXT := State.get_congr (State.rd_wr_ne _ _ (by decide))
  have hbiv : (s.wakeNoted srcs).biv = s.biv := rfl
  rw [heq, State.wakeRuns_wakeNoted]
  generalize s.wakeNoted srcs = u at hcause hm' hnext hbiv ⊢
  obtain ⟨hmem, hinit, hb, hcode, hlog, hwake, hst, hpen, hboot⟩ := u.warmBody_dormant u.unitNow hm' (cause := 0x08) (by decide) (by decide)
  rw [hnext] at hlog
  generalize u.warmBody 0x08 u.unitNow = v at hmem hinit hb hcode hlog hwake hst hpen hboot ⊢
  refine ⟨fun i hi hs => ?_, hcode, hlog, hmem, hinit, by rw [← hbiv]; exact hb, hst, hpen, rfl, hboot⟩
  rw [show (v.wakeNote (s.wakeRuns srcs) pat).rd MPC_WAKE_CAUSE = v.rd MPC_WAKE_CAUSE from rfl, hwake, hcause, BitVec.getLsbD_or, BitVec.getLsbD_ofNat, hs]
  simp [hi]

/-- Whether a source may wake the hub now. -/
def State.srcMay (s : State) (lane i : Nat) : Bool :=
  match i with
  | 0 => s.sys.laneArm.testBit lane
  | 1 | 4 => false
  | 2 => s.rd MPC_WAKE_TIMER != 0#32
  | 3 => true
  | _ => if i < 16 then s.mode != 0 || s.sciWakes (i - 8) else s.getBit MPC_DORM_PEN_KEEP 3

theorem State.dormantSrcs_eq (srcs lane : Nat) : s.dormantSrcs srcs lane = (List.range 20).foldl (fun a i =>
    if s.srcMay lane i && srcs.testBit i && (s.rd MPC_WAKE_EN).getLsbD i then a + 2 ^ i else a) 0 := rfl

theorem foldl_single {c : Nat → Bool} {i : Nat} (f : Nat → Nat) : ∀ n, (∀ j, j < n → (c j = true ↔ j = i)) →
    (List.range n).foldl (fun a j => if c j then a + f j else a) 0 = if i < n then f i else 0
  | 0, _ => rfl
  | n + 1, h => by
    rw [List.range_succ, List.foldl_append, foldl_single f n fun j hj => h j (by omega)]
    change (if c n then (if i < n then f i else 0) + f n else if i < n then f i else 0) = _
    by_cases hn : n = i
    · rw [if_pos ((h n (by omega)).2 hn), if_neg (by omega), if_pos (by omega), hn, Nat.zero_add]
    · rw [if_neg (fun hc => hn ((h n (by omega)).1 hc))]
      by_cases hi : i < n
      · rw [if_pos hi, if_pos (by omega)]
      · rw [if_neg hi, if_neg (by omega)]

/-- Of one source that stands, and may, that source acts. -/
theorem State.dormantSrcs_one {i lane : Nat} (hi : i < 20) (hen : (s.rd MPC_WAKE_EN).getLsbD i = true) (hok : s.srcMay lane i = true) :
    s.dormantSrcs (2 ^ i) lane = 2 ^ i := by
  rw [State.dormantSrcs_eq, foldl_single (i := i), if_pos hi]
  intro j _
  constructor
  · intro h
    simp only [Bool.and_eq_true] at h
    rw [Nat.testBit_two_pow] at h
    simp only [decide_eq_true_eq] at h
    exact h.1.2.symm
  · rintro rfl
    simp [hok, hen]

/-- The sources of the obligation's list may wake the hub. -/
theorem State.srcMay_of {i lane : Nat} (h : i = 0 ∧ s.sys.laneArm.testBit lane = true ∨ i = 2 ∧ s.rd MPC_WAKE_TIMER ≠ 0#32 ∨ i = 3 ∨
    8 ≤ i ∧ i < 16 ∧ s.sciWakes (i - 8) = true ∨ 16 ≤ i ∧ s.getBit MPC_DORM_PEN_KEEP 3 = true) : s.srcMay lane i = true := by
  obtain ⟨rfl, h⟩ | ⟨rfl, h⟩ | rfl | ⟨h8, h16, h⟩ | ⟨h16, h⟩ := h
  · exact h
  · simpa [State.srcMay] using h
  · rfl
  · unfold State.srcMay
    split
    · omega
    · omega
    · omega
    · omega
    · rfl
    · rw [if_pos h16, h, Bool.or_true]
  · unfold State.srcMay
    split
    · omega
    · omega
    · omega
    · omega
    · rfl
    · rw [if_neg (by omega), h]

/-- Which single sources go on to RUN. -/
theorem State.wakeRuns_one {i : Nat} (hi : i < 20) : s.wakeRuns (2 ^ i) = (s.on MPC_DORM_WAKE_RUN || decide (i = 3 ∨ 8 ≤ i ∧ i < 16)) := by
  have hone : ∀ i < 20, ((2 ^ i).testBit 3 || 2 ^ i / 2 ^ 8 % 2 ^ 8 != 0) = decide (i = 3 ∨ 8 ≤ i ∧ i < 16) := by decide
  rw [State.wakeRuns, Bool.or_assoc, hone i hi]

/-! ### The entry (R66, R69) -/

theorem State.only_listenCheck : s.only ((List.range 4).map MB_STAT) [] s.listenCheck := by
  refine State.only_each (fun u n hn => ?_) s
  have hmem : MB_STAT n ∈ (List.range 4).map MB_STAT := List.mem_map.2 ⟨n, hn, rfl⟩
  rw [State.listenPort]
  split
  · exact (u.only_refl _ _).put _ hmem
  · split
    · exact (u.only_refl _ _).put _ hmem
    · exact u.only_refl _ _

theorem State.only_lsvAnchor : s.only [] [.lsv] s.lsvAnchor := State.only_each (fun u _ _ => (u.only_refl _ _).with_lsv _ (by simp)) s

theorem State.only_anchorDormant : s.only (RED_TWIN_STAT :: RED_EVT :: (List.range 4).map MB_STAT) [.lsv] s.anchorDormant := by
  have hoff : s.only (RED_TWIN_STAT :: RED_EVT :: (List.range 4).map MB_STAT) [.lsv] s.anchorOff :=
    (((s.only_refl _ _).put _ (by simp [RED_TWIN_STAT_STATE])).put _ (by simp [RED_TWIN_STAT_ANCHOR_OUT])).trans (State.only_lsvAnchor.mono (by simp) (by simp))
  rw [State.anchorDormant]
  generalize s.anchorOff = u at hoff ⊢
  split
  · exact (hoff.put _ (by simp [RED_EVT_YIELD])).trans (State.only_listenCheck.mono (by simp) (by simp))
  · split
    · exact s.only_refl _ _
    · exact hoff

theorem State.only_mbDormant : s.only ((List.range 4).map MB_STAT) [.mb] s.mbDormant := by
  refine State.only_each (fun u n hn => ?_) s
  have hmem : MB_STAT n ∈ (List.range 4).map MB_STAT := List.mem_map.2 ⟨n, hn, rfl⟩
  exact ((((u.only_refl _ _).with_mb _ (by simp)).put _ hmem).put _ hmem).put _ hmem

/-- The registers that the hub writes before it shows DORMANT. -/
abbrev shutRegs : List Nat := [MPC_REQ_STAT, INTC_PEND 0 0, INTC_PEND 1 0, INTC_PEND 2 0, BIV_HOLD_LVL_A, BIV_HOLD_LVL_B, MPC_MODE, RED_TWIN_STAT,
  RED_EVT] ++ (List.range 4).map MB_STAT

/-- The hub shut down, before it shows DORMANT. -/
def State.dormantShut (s : State) : State :=
  (if s.get MPC_REQ_STAT_STATE = 1 ∧ s.sys.req.isNone then s.reqStat 2 0 else s).padCapture.anchorDormant.mbDormant.coresRun false

theorem anchorRegs_shut : (RED_TWIN_STAT :: RED_EVT :: (List.range 4).map MB_STAT) ⊆ shutRegs :=
  List.cons_subset.2 ⟨by simp, List.cons_subset.2 ⟨by simp, List.subset_append_right _ _⟩⟩

theorem State.dormantShut_spec : s.dormantShut.get MPC_MODE_AWAKE_M0 = 0 ∧ s.dormantShut.get MPC_MODE_AWAKE_M1 = 0 ∧
    s.only shutRegs [.sys, .lsv, .mb] s.dormantShut := by
  have hreq : s.only shutRegs [.sys, .lsv, .mb] (if s.get MPC_REQ_STAT_STATE = 1 ∧ s.sys.req.isNone then s.reqStat 2 0 else s) := by
    split
    · exact (State.only_reqStat 2 0).mono (by simp) (by simp)
    · exact s.only_refl _ _
  rw [State.dormantShut]
  generalize (if s.get MPC_REQ_STAT_STATE = 1 ∧ s.sys.req.isNone then s.reqStat 2 0 else s) = u at hreq ⊢
  have hpad := hreq.trans ((State.only_padCapture (s := u)).mono (by simp) (by simp))
  generalize u.padCapture = v at hpad ⊢
  have hanchor := hpad.trans ((State.only_anchorDormant (s := v)).mono anchorRegs_shut (by simp))
  generalize v.anchorDormant = w at hanchor ⊢
  have hmb := hanchor.trans ((State.only_mbDormant (s := w)).mono (List.subset_append_right _ _) (by simp))
  generalize w.mbDormant = x at hmb ⊢
  refine ⟨?_, ?_, (hmb.put _ (by simp [MPC_MODE_AWAKE_M0])).put _ (by simp [MPC_MODE_AWAKE_M1])⟩
  · exact (State.get_put_apart _ _ rfl).trans (State.get_put_val _ _ _ rfl)
  · exact State.get_put_val _ _ _ rfl

/-- The hub shown in DORMANT, from a mode. -/
def State.dormantShown (s : State) (m : Nat) : State :=
  ((((s.put MPC_MODE_PREV m).put MPC_MODE_CUR 0).put MPC_MODE_TRANS 0).railsDown).put MSA_STAT_INIT_DONE 0

theorem State.only_railsDown : s.only [LPW_SEQ_STAT, LPW_STAT] [] s.railsDown :=
  ((((s.only_refl _ _).put _ (by simp [LPW_SEQ_STAT_PEN])).put _ (by simp [LPW_SEQ_STAT_INWIN])).put _ (by simp [LPW_SEQ_STAT_STATE])).put _
    (by simp [LPW_STAT_RAILS_OK])

theorem State.pen_railsDown : s.railsDown.get LPW_SEQ_STAT_PEN = s.get LPW_SEQ_STAT_PEN &&& s.get MPC_DORM_PEN_KEEP := by
  have hlt : s.get LPW_SEQ_STAT_PEN &&& s.get MPC_DORM_PEN_KEEP < 2 ^ 4 := Nat.and_lt_two_pow _ (s.get_lt MPC_DORM_PEN_KEEP)
  rw [State.railsDown, State.get_put_ne _ _ _ _ (by decide), State.get_put_apart _ _ rfl, State.get_put_apart _ _ rfl]
  exact State.get_put_self _ rfl hlt

theorem State.dormantShown_spec {m : Nat} (hm : m < 8) : (s.dormantShown m).mode = 0 ∧ (s.dormantShown m).get MPC_MODE_PREV = m ∧
    (s.dormantShown m).get MPC_MODE_TRANS = 0 ∧ (s.dormantShown m).get MPC_MODE_AWAKE_M0 = s.get MPC_MODE_AWAKE_M0 ∧
    (s.dormantShown m).get MPC_MODE_AWAKE_M1 = s.get MPC_MODE_AWAKE_M1 ∧
    (s.dormantShown m).get LPW_SEQ_STAT_PEN = s.get LPW_SEQ_STAT_PEN &&& s.get MPC_DORM_PEN_KEEP ∧ (s.dormantShown m).get MSA_STAT_INIT_DONE = 0 ∧
    s.only [MPC_MODE, LPW_SEQ_STAT, LPW_STAT, MSA_STAT] [] (s.dormantShown m) := by
  have hprev : (((s.put MPC_MODE_PREV m).put MPC_MODE_CUR 0).put MPC_MODE_TRANS 0).get MPC_MODE_PREV = m := by
    rw [State.get_put_apart _ _ rfl, State.get_put_apart _ _ rfl]
    exact State.get_put_self _ rfl hm
  have hcur : (((s.put MPC_MODE_PREV m).put MPC_MODE_CUR 0).put MPC_MODE_TRANS 0).get MPC_MODE_CUR = 0 := by
    rw [State.get_put_apart _ _ rfl]
    exact State.get_put_self _ rfl (by decide)
  have htrans : (((s.put MPC_MODE_PREV m).put MPC_MODE_CUR 0).put MPC_MODE_TRANS 0).get MPC_MODE_TRANS = 0 := State.get_put_self _ rfl (by decide)
  have hm0 : (((s.put MPC_MODE_PREV m).put MPC_MODE_CUR 0).put MPC_MODE_TRANS 0).get MPC_MODE_AWAKE_M0 = s.get MPC_MODE_AWAKE_M0 := by
    rw [State.get_put_apart _ _ rfl, State.get_put_apart _ _ rfl, State.get_put_apart _ _ rfl]
  have hm1 : (((s.put MPC_MODE_PREV m).put MPC_MODE_CUR 0).put MPC_MODE_TRANS 0).get MPC_MODE_AWAKE_M1 = s.get MPC_MODE_AWAKE_M1 := by
    rw [State.get_put_apart _ _ rfl, State.get_put_apart _ _ rfl, State.get_put_apart _ _ rfl]
  have honly : s.only [MPC_MODE] [] (((s.put MPC_MODE_PREV m).put MPC_MODE_CUR 0).put MPC_MODE_TRANS 0) :=
    (((s.only_refl _ _).put _ (by simp [MPC_MODE_PREV])).put _ (by simp [MPC_MODE_CUR])).put _ (by simp [MPC_MODE_TRANS])
  rw [State.dormantShown]
  generalize ((s.put MPC_MODE_PREV m).put MPC_MODE_CUR 0).put MPC_MODE_TRANS 0 = u at hprev hcur htrans hm0 hm1 honly ⊢
  have hpen := u.pen_railsDown
  rw [honly.get_eq (f := LPW_SEQ_STAT_PEN) (by decide), honly.get_eq (f := MPC_DORM_PEN_KEEP) (by decide)] at hpen
  have hrails : u.only [LPW_SEQ_STAT, LPW_STAT, MSA_STAT] [] (u.railsDown.put MSA_STAT_INIT_DONE 0) :=
    (State.only_railsDown.mono (by simp) (by simp)).put _ (by simp [MSA_STAT_INIT_DONE])
  have hpen' : (u.railsDown.put MSA_STAT_INIT_DONE 0).get LPW_SEQ_STAT_PEN = s.get LPW_SEQ_STAT_PEN &&& s.get MPC_DORM_PEN_KEEP :=
    (State.get_put_ne _ _ _ _ (by decide)).trans hpen
  have hinit : (u.railsDown.put MSA_STAT_INIT_DONE 0).get MSA_STAT_INIT_DONE = 0 := State.get_put_self _ rfl (by decide)
  generalize u.railsDown.put MSA_STAT_INIT_DONE 0 = v at hrails hpen' hinit ⊢
  exact ⟨(hrails.get_eq (by decide)).trans hcur, (hrails.get_eq (by decide)).trans hprev, (hrails.get_eq (by decide)).trans htrans,
    (hrails.get_eq (by decide)).trans hm0, (hrails.get_eq (by decide)).trans hm1, hpen', hinit,
    (honly.mono (by simp) (by simp)).trans (hrails.mono (by simp) (by simp))⟩

/-- The wake timer as DORMANT finds it. -/
def State.timerArmed (s : State) : State := if s.rd MPC_WAKE_RELOAD = 0#32 then s else s.setWakeTimer (s.rd MPC_WAKE_RELOAD)

theorem State.only_timerArmed : s.only [MPC_WAKE_TIMER] [.sys] s.timerArmed := by
  rw [State.timerArmed]
  split
  · exact s.only_refl _ _
  · exact ((s.only_refl _ _).wr _ (by simp)).with_sys _ (by simp)

/-- A lane switched off. -/
def State.laneOff (s : State) (l : Nat) : State := (s.setTrain l 0).put (LANE_STAT_UP l) 0

/-- The registers of a lane that is switched off. -/
abbrev laneOffRegs (l : Nat) : List Nat := [LANE_TRAIN l, LANE_ALIGN l, LANE_STAT l]

theorem State.only_laneOff (l : Nat) : s.only (laneOffRegs l) [] (s.laneOff l) :=
  ((State.only_setTrain l 0).mono (by simp) (by simp)).put _ (by simp [LANE_STAT_UP])

theorem State.up_lanesOff : (∀ l, l < 4 → (s.each (List.range 4) State.laneOff).get (LANE_STAT_UP l) = 0) ∧
    s.only (laneOffRegs 0 ++ laneOffRegs 1 ++ laneOffRegs 2 ++ laneOffRegs 3) [] (s.each (List.range 4) State.laneOff) := by
  have hself (u : State) (l : Nat) (hl : l < 4) : (u.laneOff l).get (LANE_STAT_UP l) = 0 :=
    State.get_put_self _ (by interval_cases l <;> rfl) (show 0 < 2 ^ 1 by decide)
  have hne (u : State) {l k : Nat} (hl : l < 4) (hk : k < 4) (h : l ≠ k) : (u.laneOff k).get (LANE_STAT_UP l) = u.get (LANE_STAT_UP l) := by
    have hconf : u.confined [laneBlk k] (u.laneOff k) := (State.confined_setTrain 0 hk).putLane _ (by simp) (blkOf_lane hk).1
    refine hconf.get_eq ?_
    rw [show blkOf (LANE_STAT_UP l).off = laneBlk l from (blkOf_lane hl).1, List.mem_singleton, laneBlk, laneBlk]
    omega
  rw [show s.each (List.range 4) State.laneOff = (((s.laneOff 0).laneOff 1).laneOff 2).laneOff 3 from rfl]
  have h0 := State.only_laneOff (s := s) 0
  have h1 := State.only_laneOff (s := s.laneOff 0) 1
  have h2 := State.only_laneOff (s := (s.laneOff 0).laneOff 1) 2
  have h3 := State.only_laneOff (s := ((s.laneOff 0).laneOff 1).laneOff 2) 3
  refine ⟨fun l hl => ?_, ((h0.mono (by simp) (by simp)).trans (h1.mono (by simp) (by simp))).trans ((h2.mono (by simp) (by simp)).trans
    (h3.mono (by simp) (by simp)))⟩
  obtain rfl | rfl | rfl | rfl : l = 0 ∨ l = 1 ∨ l = 2 ∨ l = 3 := by omega
  · rw [hne _ hl (by decide) (by decide), hne _ hl (by decide) (by decide), hne _ hl (by decide) (by decide), hself _ _ hl]
  · rw [hne _ hl (by decide) (by decide), hne _ hl (by decide) (by decide), hself _ _ hl]
  · rw [hne _ hl (by decide) (by decide), hself _ _ hl]
  · exact hself _ _ hl

/-- What DORMANT keeps of the state behind MPC and RSTC. -/
def State.dormantSys (s : State) : SysSt :=
  { s.sys with
    dormT := false, retrain := false, recordOn := false, laneArm := 0, heldIsl := none, heldWake := 0, heldMode := none
    req := none, waitRun := false
    holdOe := if s.getBit MPC_DORM_PEN_KEEP 3 then s.sys.holdOe else 0 }

/-- The parts of DORMANT that stand in no register. -/
def State.dormantKept (s : State) : State := { s with lsv := { s.lsv with actQ := [] }, sys := s.dormantSys }

theorem State.dormantEntry_eq : s.dormantEntry = ((s.dormantShut.dormantShown s.mode).timerArmed.each (List.range 4) State.laneOff).dormantKept := rfl

theorem State.only_dormantKept : s.only [] [.lsv, .sys] s.dormantKept := by
  rw [State.dormantKept]
  generalize s.dormantSys = sys
  generalize ({ s.lsv with actQ := [] } : LsvSt) = lsv
  exact State.only.with_sys (State.only.with_lsv (s.only_refl [] [.lsv, .sys]) lsv (by simp)) sys (by simp)

theorem State.sys_dormantKept : s.dormantKept.sys.recordOn = false ∧ s.dormantKept.sys.dormT = false := by
  rw [State.dormantKept]
  exact ⟨rfl, rfl⟩

theorem State.mode_lt_eight : s.mode < 8 := by
  have hlt := s.get_lt MPC_MODE_CUR
  exact hlt

theorem State.dormantEntry_spec : s.dormantEntry.mode = 0 ∧ s.dormantEntry.get MPC_MODE_PREV = s.mode ∧ s.dormantEntry.get MPC_MODE_TRANS = 0 ∧
    s.dormantEntry.get LPW_SEQ_STAT_PEN = (s.get LPW_SEQ_STAT_PEN &&& s.get MPC_DORM_PEN_KEEP) ∧ s.dormantEntry.get MSA_STAT_INIT_DONE = 0 ∧
    s.dormantEntry.get MPC_MODE_AWAKE_M0 = 0 ∧ s.dormantEntry.get MPC_MODE_AWAKE_M1 = 0 ∧ (∀ l, l < 4 → s.dormantEntry.get (LANE_STAT_UP l) = 0) ∧
    s.dormantEntry.sys.recordOn = false ∧ s.dormantEntry.sys.dormT = false ∧ s.dormantEntry.biv = s.biv := by
  obtain ⟨hm0, hm1, hshut⟩ := s.dormantShut_spec
  have hpen0 : s.dormantShut.get LPW_SEQ_STAT_PEN = s.get LPW_SEQ_STAT_PEN := hshut.get_eq (by decide)
  have hkeep0 : s.dormantShut.get MPC_DORM_PEN_KEEP = s.get MPC_DORM_PEN_KEEP := hshut.get_eq (by decide)
  have hbiv0 : s.dormantShut.biv = s.biv := hshut.2 .biv (by simp)
  rw [State.dormantEntry_eq]
  generalize s.dormantShut = u at hm0 hm1 hpen0 hkeep0 hbiv0 ⊢
  obtain ⟨hmode, hprev, htrans, hs0, hs1, hpen, hinit, hshown⟩ := u.dormantShown_spec (m := s.mode) s.mode_lt_eight
  rw [hm0] at hs0
  rw [hm1] at hs1
  rw [hpen0, hkeep0] at hpen
  have hbiv1 := (hshown.2 .biv (by simp)).trans hbiv0
  generalize u.dormantShown s.mode = v at hmode hprev htrans hs0 hs1 hpen hinit hbiv1 ⊢
  obtain ⟨hup, hlanes⟩ := v.timerArmed.up_lanesOff
  have hall := ((State.only_timerArmed (s := v)).mono (os' := MPC_WAKE_TIMER :: (laneOffRegs 0 ++ laneOffRegs 1 ++ laneOffRegs 2 ++ laneOffRegs 3)) (by simp)
    (List.Subset.refl _)).trans (hlanes.mono (List.subset_cons_self _ _) (List.nil_subset _))
  generalize v.timerArmed.each (List.range 4) State.laneOff = w at hup hall ⊢
  have hreg (f : Fld) : w.dormantKept.get f = w.get f := w.only_dormantKept.get_eq (by simp)
  have hwbiv : w.dormantKept.biv = s.biv := (w.only_dormantKept.2 .biv (by simp)).trans ((hall.2 .biv (by simp)).trans hbiv1)
  have hsys := w.sys_dormantKept
  generalize w.dormantKept = x at hreg hwbiv hsys ⊢
  refine ⟨?_, ?_, ?_, ?_, ?_, ?_, ?_, fun l hl => (hreg _).trans (hup l hl), hsys.1, hsys.2, hwbiv⟩
  · rw [State.mode, hreg, hall.get_eq (f := MPC_MODE_CUR) (by decide)]
    exact hmode
  · rw [hreg, hall.get_eq (f := MPC_MODE_PREV) (by decide), hprev]
  · rw [hreg, hall.get_eq (f := MPC_MODE_TRANS) (by decide), htrans]
  · rw [hreg, hall.get_eq (f := LPW_SEQ_STAT_PEN) (by decide), hpen]
  · rw [hreg, hall.get_eq (f := MSA_STAT_INIT_DONE) (by decide), hinit]
  · rw [hreg, hall.get_eq (f := MPC_MODE_AWAKE_M0) (by decide), hs0]
  · rw [hreg, hall.get_eq (f := MPC_MODE_AWAKE_M1) (by decide), hs1]

theorem State.get_one_of_bit (h : (s.rd MPC_WAKE_CAUSE).getLsbD 0 = true) : s.get MPC_WAKE_CAUSE_LANE = 1 := by
  rw [State.get, wordField, show MPC_WAKE_CAUSE_LANE.off = MPC_WAKE_CAUSE from rfl]
  rw [← BitVec.testBit_toNat, Nat.testBit_zero] at h
  simpa [MPC_WAKE_CAUSE_LANE] using h

/-- A wake by one source that may: its timer is stopped first if it is the timer. -/
theorem exec_dormantWake {src : Nat} {lane : Fin 4} (hi : src < 20) (hm : s.mode = 0) (ha : s.lpw.aon = true)
    (hen : (s.rd MPC_WAKE_EN).getLsbD src = true) (hok : s.srcMay lane.val src = true) :
    ∃ u : State, exec (.dormantWake (BitVec.ofNat 20 (2 ^ src)) lane) s = .next (u.dormantWake (2 ^ src)) ∧ u.mode = 0 ∧
      u.get RSTC_LOG_HEAD_NEXT = s.get RSTC_LOG_HEAD_NEXT ∧ u.biv = s.biv ∧ u.wakeRuns (2 ^ src) = s.wakeRuns (2 ^ src) := by
  have hnat : (BitVec.ofNat 20 (2 ^ src)).toNat = 2 ^ src := by
    rw [BitVec.toNat_ofNat]
    exact Nat.mod_eq_of_lt (Nat.pow_lt_pow_right (by decide) hi)
  have hsrcs := State.dormantSrcs_one hi hen hok
  have hpos : (2 ^ src != 0) = true := by
    have := Nat.two_pow_pos src
    simp
  have hexec : exec (.dormantWake (BitVec.ofNat 20 (2 ^ src)) lane) s =
      .next ((if (2 ^ src).testBit 2 then s.setWakeTimer 0#32 else s).dormantWake (2 ^ src)) := by
    change execDormantWake _ lane s = _
    rw [execDormantWake, hnat, hsrcs]
    exact congrArg Host.Outcome.next (if_pos (by simp [ha, hm]))
  have hkeep : s.only [MPC_WAKE_TIMER] [.sys] (if (2 ^ src).testBit 2 then s.setWakeTimer 0#32 else s) := by
    split
    · exact ((s.only_refl _ _).wr _ (by simp)).with_sys _ (by simp)
    · exact s.only_refl _ _
  generalize (if (2 ^ src).testBit 2 then s.setWakeTimer 0#32 else s) = u at hexec hkeep
  refine ⟨u, hexec, (hkeep.get_eq (f := MPC_MODE_CUR) (by decide)).trans hm, hkeep.get_eq (f := RSTC_LOG_HEAD_NEXT) (by decide), hkeep.2 .biv (by simp), ?_⟩
  rw [State.wakeRuns, State.on_congr (f := MPC_DORM_WAKE_RUN) (hkeep.1 _ (by decide)), State.wakeRuns]

end

/-- Settles O13: the entry step by step, and the wakes as the WARM reset that ends DORMANT. -/
theorem dormantMode : Obligations.DormantMode := by
  unfold Obligations.DormantMode
  refine ⟨?_, ?_, ?_, ?_, ?_⟩
  · intro s hd hw
    have hnone : (List.range 20).foldl (fun a i => if s.sys.heldWake.testBit i && i != 1 && i != 4 then a + 2 ^ i else a) 0 = 0 := by
      rw [hw]
      decide
    have hexec : exec .dormantEntry s = .next s.dormantEntry := by
      change execDormantEntry s = _
      rw [execDormantEntry, if_pos hd, hnone]
      rfl
    exact ⟨_, hexec, s.dormantEntry_spec⟩
  · intro lane s hm
    have hexec : exec (.laneWakeArm lane false) s = .next { s with sys := { s.sys with laneArm := s.sys.laneArm ||| 2 ^ lane.val } } :=
      congrArg Host.Outcome.next (if_pos hm)
    exact ⟨_, hexec, rfl, (s.only_refl _ _).with_sys _ (by simp)⟩
  · intro lane s hm hen
    have hexec : exec (.laneWakeArm lane true) s = .next (({ s with sys := { s.sys with laneArm := s.sys.laneArm ||| 2 ^ lane.val } } : State).dormantWake 1) := by
      refine congrArg Host.Outcome.next ((if_pos hm).trans ?_)
      exact if_pos (show (true && s.on MPC_WAKE_EN_LANE) = true by rw [hen]; rfl)
    have hm' : ({ s with sys := { s.sys with laneArm := s.sys.laneArm ||| 2 ^ lane.val } } : State).mode = 0 := hm
    generalize ({ s with sys := { s.sys with laneArm := s.sys.laneArm ||| 2 ^ lane.val } } : State) = u at hexec hm'
    obtain ⟨hwake, hcause, -, hmem, -, -, hst, -⟩ := u.dormantWake_spec (srcs := 1) hm'
    refine ⟨_, hexec, ?_, hcause, hmem, hst⟩
    have h0 := hwake 0 (by decide) (by decide)
    exact State.get_one_of_bit h0
  · intro src lane s hm haon hen hsrc
    obtain ⟨u, hexec, hum, hnext, hbiv, hrun⟩ := exec_dormantWake (lane := lane) src.isLt hm haon hen (State.srcMay_of hsrc)
    obtain ⟨hwake, hcause, hlog, hmem, hinit, hb, hst, hpen, hwoke, hboot⟩ := u.dormantWake_spec (srcs := 2 ^ src.val) hum
    rw [hnext] at hlog
    rw [hrun, State.wakeRuns_one src.isLt] at hwoke
    exact ⟨_, hexec, hwake _ (by omega) (by rw [Nat.testBit_two_pow]; simp), hcause, hlog, hmem, hinit, by rw [hb, hbiv], hst, hpen, hwoke, hboot⟩
  · intro lane s hp hon hl hh hr ht
    have hexec : exec (.wakePatternEnd lane) s =
        .next (({ s with sys := { s.sys with wakePat := setBitTo s.sys.wakePat lane.val false } } : State).detect lane.val) := by
      refine congrArg Host.Outcome.next ((if_pos hp).trans (if_pos ?_))
      have hl' : ({ s with sys := { s.sys with wakePat := setBitTo s.sys.wakePat lane.val false } } : State).laneEn lane.val = true := hl
      have hh' : ({ s with sys := { s.sys with wakePat := setBitTo s.sys.wakePat lane.val false } } : State).laneHost lane.val = false := hh
      have hr' : ({ s with sys := { s.sys with wakePat := setBitTo s.sys.wakePat lane.val false } } : State).inReset (laneBlk lane.val) = false := hr
      have ht' : ({ s with sys := { s.sys with wakePat := setBitTo s.sys.wakePat lane.val false } } : State).trainSt lane.val = 0 := ht
      rw [hl', hh', hr', ht']
      simp [hon]
    have hwith : s.only [LANE_TRAIN lane.val, LANE_ALIGN lane.val, LANE_STAT lane.val] [.sys, .lane]
        { s with sys := { s.sys with wakePat := setBitTo s.sys.wakePat lane.val false } } := (s.only_refl _ _).with_sys _ (by simp)
    have hpat : ({ s with sys := { s.sys with wakePat := setBitTo s.sys.wakePat lane.val false } } : State).sys.wakePat.testBit lane.val = false :=
      testBit_setBitTo _ _ _
    generalize ({ s with sys := { s.sys with wakePat := setBitTo s.sys.wakePat lane.val false } } : State) = u at hexec hwith hpat
    have hdet := State.only_detect (s := u) lane.val
    exact ⟨_, hexec, State.trainSt_detect lane.isLt, by rw [show (u.detect lane.val).sys = u.sys from hdet.2 .sys (by simp)]; exact hpat,
      hwith.trans (hdet.mono (by simp) (by simp))⟩

end Sys2Proof.Machine

/-! What the mode's own operations leave alone: the entry to ISLAND and the way out of WATCH. -/
namespace Sys2Proof.Machine

set_option Elab.async false

section
variable {s t : State}

/-- A change of some registers and parts, the counters and the system's record not among them. -/
theorem State.only.confined {os bs : List Nat} {ps : List Part} (h : s.only os ps t) (ho : ∀ o ∈ os, blkOf o ∈ bs ∧ o ≠ MPC_MODE)
    (hl : Part.live ∉ Part.regs :: ps := by simp) (hs : Part.sys ∉ Part.regs :: ps := by simp) : s.confined bs t :=
  ⟨fun o hb => h.1 o fun hi => hb (ho o hi).1, fun o _ => State.cnt_congr (h.2 .live hl) o,
    fun _ hf _ => h.get_eq fun hi => (ho _ hi).2 hf, (h.2 .sys hs) ▸ rfl⟩

/-! ### Engines and groups -/

theorem blkOf_gg {n : Nat} (hn : n < 16) : (blkOf (GG_STAT n) = 0x10 ∧ GG_STAT n ≠ MPC_MODE) ∧ blkOf (GG_SCF n) = 0x10 ∧ GG_SCF n ≠ MPC_MODE := by
  simp only [blkOf, GG_STAT, GG_SCF, MPC_MODE]
  omega

theorem State.owns.confined {n : Nat} (h : s.owns n t) (hn : n < 16) : s.confined [0x10] t := by
  refine h.only.confined (fun o ho => ?_)
  obtain ⟨⟨hs, hsm⟩, hf, hfm⟩ := blkOf_gg hn
  simp only [List.mem_cons, List.not_mem_nil, or_false] at ho
  obtain rfl | rfl := ho
  · exact ⟨by rw [hs]; simp, hsm⟩
  · exact ⟨by rw [hf]; simp, hfm⟩

theorem lt_of_mem_bitList {n m i : Nat} (h : i ∈ bitList n m) : i < n := List.mem_range.1 (List.mem_of_mem_filter h)

theorem State.confined_groupCmd (g op : Nat) (atTime : Bool) : s.confined [0x10] (s.groupCmd g op atTime) := by
  have harm (u : State) (o : Option Nat) : u.confined [0x10] (u.setArm g o) := by
    rw [State.setArm]
    have hgg : u.confined [0x10] { u with gg := { u.gg with arm := Tab.set (fun _ => none) u.gg.arm g o } } := (u.confined_refl _).same rfl rfl rfl
    exact .ite (hgg.put _ (by decide)) (hgg.put _ (by decide))
  rw [State.groupCmd]
  refine .ite (s.confined_refl _) (.ite (harm _ _) (.ite (harm _ _) ?_))
  rw [State.groupAct_eq]
  refine (harm s none).each fun t n hn => ?_
  rw [State.memberAct]
  exact .ite (t.confined_refl _) (((State.owns_groupOp op n).confined (lt_of_mem_bitList hn)).same rfl rfl rfl)

/-! ### The entry to ISLAND -/

theorem State.confined_efFold : s.confined [0x10] s.efFold := (s.confined_refl _).put _ (by decide)

theorem State.confined_playPost (num : Nat) (island : Bool) : s.confined [0x12] (s.playPost num island) := by
  rw [State.playPost]
  exact .ite ((s.confined_refl _).put _ (by decide)) (((s.confined_refl _).same (u := { s with lsv := { s.lsv with playQ := s.lsv.playQ ++ [(num, island)] } })
    rfl rfl rfl).put _ (by decide))

theorem State.confined_actGroup (g op : Nat) : s.confined [0x10] (s.actGroup g op) := by
  rw [State.actGroup]
  exact .ite (s.confined_refl _) ((State.confined_groupCmd g op false).same rfl rfl rfl)

theorem State.confined_doAction (op arg : Nat) (island : Bool) : s.confined [0x10, 0x12] (s.doAction op arg island) := by
  have hbad : s.confined [0x10, 0x12] (s.put LSV_STAT_BAD_ACT 1) := (s.confined_refl _).put _ (by decide)
  have hset (m : Nat) : s.confined [0x10, 0x12] (s.efSet m) :=
    (((s.confined_refl [0x10]).same (u := { s with gg := { s.gg with efSet := s.gg.efSet ||| m } }) rfl rfl rfl).trans State.confined_efFold).mono (by simp)
  have hclr (m : Nat) : s.confined [0x10, 0x12] (s.efClr m) :=
    (((s.confined_refl [0x10]).same (u := { s with gg := { s.gg with efClr := s.gg.efClr ||| m } }) rfl rfl rfl).trans State.confined_efFold).mono (by simp)
  unfold State.doAction
  split
  · exact .ite (s.confined_refl _) hbad
  · exact .ite ((s.confined_refl _).when (hset _)) hbad
  · exact .ite ((s.confined_refl _).when (hclr _)) hbad
  · exact .ite ((State.confined_actGroup _ _).mono (by simp)) hbad
  · exact .ite ((State.confined_actGroup _ _).mono (by simp)) hbad
  · exact (State.confined_playPost _ _).mono (by simp)
  · exact hbad

theorem State.confined_islandActions : s.confined [0x10, 0x12] s.islandActions := by
  rw [State.islandActions]
  refine .ite (s.confined_refl _) (((s.confined_refl _).each fun t e _ => State.confined_doAction _ _ _).each fun t k _ => ?_)
  exact .ite (State.confined_doAction _ _ _) (t.confined_refl _)

theorem State.confined_drawTrim : s.confined [0x0F] s.drawTrim := by
  rw [State.drawTrim]
  exact ((s.confined_refl [0x0F]).same (u := { s with time := { s.time with draws := s.time.draws + 1 } }) rfl rfl rfl).wr _ (by decide)

theorem State.confined_holdover : s.confined [0x05, 0x0F] s.holdover := by
  have htime : s.confined [0x05, 0x0F] (s.setTime 3) := (s.confined_refl _).put _ (by decide)
  have htrim := htime.trans (State.confined_drawTrim.mono (by simp))
  rw [State.holdover]
  generalize (s.setTime 3).drawTrim = u at htrim ⊢
  have hwr : s.confined [0x05, 0x0F] (u.wr64 TIME_HOLD_T s.now) := (htrim.wr _ (by decide)).wr _ (by decide)
  generalize u.wr64 TIME_HOLD_T s.now = v at hwr ⊢
  exact (((hwr.put (f := TIME_EVT_HOLDOVER) 1 (by decide)).bump (c := TIME_CNT 6) (by decide)).fault _ _ _ (by simp)).same rfl rfl rfl

theorem State.confined_islandEntry : s.confined [0x05, 0x0F, 0x10, 0x12] s.islandEntry := by
  rw [State.islandEntry]
  exact .trans (.ite (State.confined_holdover.mono (by simp)) (s.confined_refl _)) (State.confined_islandActions.mono (by simp))

/-! ### Leaving WATCH -/

theorem State.confined_ggWake : s.confined [0x10] s.ggWake := by
  rw [State.ggWake]
  refine ((s.confined_refl _).same (u := { s with gg := { s.gg with watch := 0 } }) rfl rfl rfl).each fun t n hn => ?_
  have hn16 := List.mem_range.1 hn
  have hmod : t.owns n (t.modEng n fun e => { e with stopReq := false }) := (State.owns.refl t n).setEng _
  refine .ite ?_ (t.confined_refl _)
  have hrun : t.owns n (if (t.modEng n fun e => { e with stopReq := false }).get (GG_STAT_STATE n) = 0
      then (t.modEng n fun e => { e with stopReq := false }).runAgain n else t.modEng n fun e => { e with stopReq := false }) := by
    split
    · exact ((hmod.setEng _).put _ (.inl rfl)).pilotRun
    · exact hmod
  exact .ite ((hrun.setEng _).confined hn16) (hrun.confined hn16)

/-! ### The change of the mode (R61) -/

/-- The mode, the mode before it and what waits for a transition stand. -/
structure State.modeStands (s t : State) : Prop where
  cur : t.mode = s.mode
  prev : t.get MPC_MODE_PREV = s.get MPC_MODE_PREV
  req : t.sys.req = s.sys.req
  heldIsl : t.sys.heldIsl = s.sys.heldIsl
  heldMode : t.sys.heldMode = s.sys.heldMode
  stackTx : t.sys.stackTx = s.sys.stackTx
  waitRun : t.sys.waitRun = s.sys.waitRun

namespace State.modeStands

theorem refl (s : State) : s.modeStands s := ⟨rfl, rfl, rfl, rfl, rfl, rfl, rfl⟩

theorem trans {u : State} (h : s.modeStands t) (k : t.modeStands u) : s.modeStands u :=
  ⟨k.cur.trans h.cur, k.prev.trans h.prev, k.req.trans h.req, k.heldIsl.trans h.heldIsl, k.heldMode.trans h.heldMode, k.stackTx.trans h.stackTx,
    k.waitRun.trans h.waitRun⟩

theorem of_confined {bs : List Nat} (h : s.confined bs t) : s.modeStands t :=
  ⟨h.mode _ rfl rfl, h.mode _ rfl rfl, by rw [h.sys], by rw [h.sys], by rw [h.sys], by rw [h.sys], by rw [h.sys]⟩

theorem put {f : Fld} (v : Nat) (hc : MPC_MODE_CUR.apart f = true) (hp : MPC_MODE_PREV.apart f = true) : s.modeStands (s.put f v) :=
  ⟨State.get_put_apart _ _ hc, State.get_put_apart _ _ hp, rfl, rfl, rfl, rfl, rfl⟩

end State.modeStands

theorem State.modeStands_coresRun (v : Bool) : s.modeStands (s.coresRun v) := by
  rw [State.coresRun]
  exact (State.modeStands.put _ rfl rfl).trans (.put _ rfl rfl)

theorem State.only_wakeLat : s.only [MPC_WAKE_LAT] [.sys] s.wakeLat := by
  rw [State.wakeLat]
  split
  · exact ((s.only_refl _ _).put _ (by decide)).with_sys _ (by simp)
  · exact s.only_refl _ _

theorem State.modeStands_wakeLat : s.modeStands s.wakeLat := by
  have honly := s.only_wakeLat
  refine ⟨honly.get_eq (by decide), honly.get_eq (by decide), ?_, ?_, ?_, ?_, ?_⟩
  all_goals
    rw [State.wakeLat]
    split
    · rfl
    · rfl

/-- The entry to RUN ends the boot. -/
theorem State.runEntry_spec : s.runEntry.get MPC_MODE_BOOTING = 0 ∧ s.modeStands s.runEntry := by
  rw [State.runEntry]
  have hcores : s.modeStands ((s.coresRun true).put MPC_MODE_BOOTING 0) := (s.modeStands_coresRun true).trans (.put _ rfl rfl)
  have hboot : ((s.coresRun true).put MPC_MODE_BOOTING 0).get MPC_MODE_BOOTING = 0 := State.get_put_self _ rfl (by decide)
  generalize (s.coresRun true).put MPC_MODE_BOOTING 0 = u at hcores hboot ⊢
  have hlat := hcores.trans u.modeStands_wakeLat
  have hlow := (u.only_wakeLat.get_eq (f := MPC_MODE_BOOTING) (by decide)).trans hboot
  generalize u.wakeLat = v at hlat hlow ⊢
  exact ⟨hlow, hlat.cur, hlat.prev, hlat.req, hlat.heldIsl, hlat.heldMode, hlat.stackTx, hlat.waitRun⟩

/-- The mode's fields, before what entering it does. -/
def State.modeShown (s : State) (m : Nat) : State :=
  (((if s.mode = 3 then s.proofAbort else s).put MPC_MODE_CUR m).put MPC_MODE_PREV s.mode).put MPC_MODE_TRANS 0

/-- The handover is over and the master has sent the mode on. -/
def State.modeSent (s : State) (m : Nat) : State :=
  let s1 : State := { s with sys := { s.sys with hand := false, ownIsl := false } }
  s1.when s1.master fun s => s.stackSend m

/-- The engines of a hub that leaves WATCH run again. -/
def State.watchLeft (s : State) (old m : Nat) : State := if old = 1 ∧ m ≠ 1 then (s.coresRun true).ggWake else s

/-- What entering a mode does. -/
def State.modeEntered (s : State) (m : Nat) : State :=
  match m with
  | 1 => s.watchEntry
  | 2 => s.runEntry
  | 3 => s.proofStart
  | 4 => s.islandEntry
  | _ => s

theorem State.setMode_eq (m : Nat) : s.setMode m = (((((s.modeShown m).modeSent m).watchLeft s.mode m).modeEntered m).reqEnds m).eligCheck := rfl

theorem State.modeShown_spec {m : Nat} (hm : m < 8) : (s.modeShown m).mode = m ∧ (s.modeShown m).get MPC_MODE_PREV = s.mode ∧
    (s.mode ≠ 3 → (s.modeShown m).sys = s.sys ∧ s.only [MPC_MODE] [] (s.modeShown m)) := by
  rw [State.modeShown]
  refine ⟨?_, ?_, fun h3 => ?_⟩
  · rw [State.mode, State.get_put_apart _ _ rfl, State.get_put_apart _ _ rfl, State.get_put_self _ rfl hm]
  · rw [State.get_put_apart _ _ rfl, State.get_put_self _ rfl s.mode_lt_eight]
  · rw [if_neg h3]
    exact ⟨rfl, (((s.only_refl _ _).put _ (by decide)).put _ (by decide)).put _ (by decide)⟩

theorem State.modeSent_spec (m : Nat) : s.only [] [.sys] (s.modeSent m) ∧ (s.modeSent m).sys.req = s.sys.req ∧
    (s.modeSent m).sys.heldIsl = s.sys.heldIsl ∧ (s.modeSent m).sys.heldMode = s.sys.heldMode ∧ (s.modeSent m).sys.waitRun = s.sys.waitRun ∧
    (s.master = false → (s.modeSent m).sys.stackTx = s.sys.stackTx) := by
  have hsys := (s.only_refl [] [.sys]).with_sys { s.sys with hand := false, ownIsl := false } (by simp)
  have hmaster : ({ s with sys := { s.sys with hand := false, ownIsl := false } } : State).master = s.master := rfl
  rw [State.modeSent, State.when, hmaster]
  split
  · rename_i hm
    rw [State.stackSend]
    split
    · exact ⟨hsys.with_sys _ (by simp), rfl, rfl, rfl, rfl, fun h => absurd hm (by simp [h])⟩
    · exact ⟨hsys, rfl, rfl, rfl, rfl, fun _ => rfl⟩
  · exact ⟨hsys, rfl, rfl, rfl, rfl, fun _ => rfl⟩

theorem State.modeStands_watchLeft (old m : Nat) : s.modeStands (s.watchLeft old m) := by
  rw [State.watchLeft]
  split
  · exact (s.modeStands_coresRun true).trans (.of_confined State.confined_ggWake)
  · exact .refl s

theorem State.modeEntered_spec {m : Nat} (hm : m = 2 ∨ m = 4 ∨ m = 5) :
    s.modeStands (s.modeEntered m) ∧ (m = 2 → (s.modeEntered m).get MPC_MODE_BOOTING = 0) := by
  obtain rfl | rfl | rfl := hm
  · exact ⟨s.runEntry_spec.2, fun _ => s.runEntry_spec.1⟩
  · exact ⟨.of_confined State.confined_islandEntry, fun h => absurd h (by decide)⟩
  · exact ⟨.refl s, fun h => absurd h (by decide)⟩

/-- The mode stands at the end of what it does, and a request to RUN that waited is done. -/
theorem State.reqEnds_spec (m : Nat) : (s.reqEnds m).mode = s.mode ∧ (s.reqEnds m).get MPC_MODE_PREV = s.get MPC_MODE_PREV ∧
    (s.reqEnds m).get MPC_MODE_BOOTING = s.get MPC_MODE_BOOTING ∧ (s.reqEnds m).sys = { s.sys with waitRun := (s.reqEnds m).sys.waitRun } ∧
    (m = 2 → (s.reqEnds m).sys.waitRun = false) ∧ (m = 2 → s.sys.waitRun = true → (s.reqEnds m).get MPC_REQ_STAT_STATE = 2) := by
  have hstat (st code : Nat) : (({ s with sys := { s.sys with waitRun := false } } : State).reqStat st code).sys = { s.sys with waitRun := false } ∧
      s.only [MPC_REQ_STAT, INTC_PEND 0 0, INTC_PEND 1 0, INTC_PEND 2 0] [.sys] (({ s with sys := { s.sys with waitRun := false } } : State).reqStat st code) :=
    ⟨(State.only_reqStat _ _).2 .sys (by simp), ((s.only_refl _ _).with_sys _ (by simp)).trans ((State.only_reqStat _ _).mono (by simp) (by simp))⟩
  have hdone := State.get_reqStat (s := { s with sys := { s.sys with waitRun := false } }) (st := 2) (code := 0) (by decide) (by decide)
  rw [State.reqEnds]
  split
  · obtain ⟨hsys, honly⟩ := hstat 2 0
    exact ⟨honly.get_eq (by decide), honly.get_eq (by decide), honly.get_eq (by decide), by rw [hsys], fun _ => by rw [hsys], fun _ _ => hdone.1⟩
  · rename_i h2
    split
    · rename_i h4
      obtain ⟨hsys, honly⟩ := hstat 3 1
      exact ⟨honly.get_eq (by decide), honly.get_eq (by decide), honly.get_eq (by decide), by rw [hsys], fun _ => by rw [hsys],
        fun hm => absurd (hm.symm.trans h4.1) (by decide)⟩
    · exact ⟨rfl, rfl, rfl, rfl, fun hm => by simpa [hm] using h2, fun hm hw => absurd ⟨hm, hw⟩ h2⟩

/-- What a change to RUN, ISLAND or MAINTAIN leaves. -/
theorem State.setMode_spec {m : Nat} (hm : m = 2 ∨ m = 4 ∨ m = 5) :
    (s.setMode m).mode = m ∧ (s.setMode m).get MPC_MODE_PREV = s.mode ∧ (s.setMode m).mem = s.mem ∧
    (m = 2 → (s.setMode m).get MPC_MODE_BOOTING = 0 ∧ (s.setMode m).sys.waitRun = false) ∧
    (s.mode ≠ 3 → (s.setMode m).sys.req = s.sys.req ∧ (s.setMode m).sys.heldIsl = s.sys.heldIsl ∧ (s.setMode m).sys.heldMode = s.sys.heldMode ∧
      (s.master = false → (s.setMode m).sys.stackTx = s.sys.stackTx) ∧
      (m = 2 → s.sys.waitRun = true → (s.setMode m).get MPC_REQ_STAT_STATE = 2)) := by
  have hmem : (s.setMode m).mem = s.mem := (s.setMode_foot m).mem rfl
  obtain ⟨hcur, hprev, hplain⟩ := s.modeShown_spec (m := m) (by omega)
  rw [State.setMode_eq] at hmem ⊢
  generalize s.modeShown m = u at hcur hprev hplain hmem ⊢
  obtain ⟨hsent, hreq, hisl, hmode, hwait, htx⟩ := u.modeSent_spec m
  have hcur1 : (u.modeSent m).mode = m := (hsent.get_eq (by simp)).trans hcur
  have hprev1 : (u.modeSent m).get MPC_MODE_PREV = s.mode := (hsent.get_eq (by simp)).trans hprev
  generalize u.modeSent m = v at hreq hisl hmode hwait htx hcur1 hprev1 hmem ⊢
  have hleft := v.modeStands_watchLeft s.mode m
  generalize v.watchLeft s.mode m = w at hleft hmem ⊢
  obtain ⟨hentered, hboot⟩ := w.modeEntered_spec hm
  have hstands := hleft.trans hentered
  generalize w.modeEntered m = x at hstands hboot hmem ⊢
  obtain ⟨hcur2, hprev2, hboot2, hsys2, hwait2, hdone⟩ := x.reqEnds_spec m
  generalize x.reqEnds m = y at hcur2 hprev2 hboot2 hsys2 hwait2 hdone hmem ⊢
  have helig := y.confined_eligCheck
  have hend : y.modeStands y.eligCheck := .of_confined helig
  refine ⟨hend.cur.trans (hcur2.trans (hstands.cur.trans hcur1)), hend.prev.trans (hprev2.trans (hstands.prev.trans hprev1)), hmem,
    fun h2 => ⟨(helig.get_eq (f := MPC_MODE_BOOTING) (by decide)).trans (hboot2.trans (hboot h2)), hend.waitRun.trans (hwait2 h2)⟩, fun h3 => ?_⟩
  obtain ⟨hsys, honly⟩ := hplain h3
  refine ⟨hend.req.trans ?_, hend.heldIsl.trans ?_, hend.heldMode.trans ?_, fun hmas => hend.stackTx.trans ?_, fun h2 hw =>
    (helig.get_eq (f := MPC_REQ_STAT_STATE) (by decide)).trans (hdone h2 ?_)⟩
  · rw [hsys2, hstands.req, hreq, hsys]
  · rw [hsys2, hstands.heldIsl, hisl, hsys]
  · rw [hsys2, hstands.heldMode, hmode, hsys]
  · rw [hsys2, hstands.stackTx, htx ?_, hsys]
    rw [State.master, State.chip, honly.get_eq (by decide)]
    exact hmas
  · rw [hstands.waitRun, hwait, hsys]
    exact hw

end

end Sys2Proof.Machine

/-! Transitions take place at their boundary (R61, R63, R75 to R81). -/
namespace Sys2Proof.Machine

set_option Elab.async false

section
variable {s : State}

/-! ### The boundary and the end of a transition -/

theorem State.sys_toBoundary : s.toBoundary.sys.req = s.sys.req ∧ s.toBoundary.sys.hand = s.sys.hand ∧ s.toBoundary.sys.woke = s.sys.woke ∧
    s.toBoundary.sys.heldIsl = s.sys.heldIsl ∧ s.toBoundary.sys.heldMode = s.sys.heldMode ∧ s.toBoundary.sys.waitRun = s.sys.waitRun := by
  rw [State.toBoundary]
  split
  · exact ⟨rfl, rfl, rfl, rfl, rfl, rfl⟩
  · exact ⟨rfl, rfl, rfl, rfl, rfl, rfl⟩

/-- A transition that has held nothing back ends as it is. -/
theorem State.actHeld_settled (hisl : s.sys.heldIsl = none) (hmode : s.sys.heldMode = none) (hm : s.mode ≠ 1) :
    s.actHeld = s ∨ s.actHeld = { s with sys := { s.sys with heldIsl := none, heldWake := 0, heldMode := none } } := by
  rw [State.actHeld]
  split
  · exact .inl rfl
  · refine .inr ?_
    rw [hisl, hmode]
    simp [hm]

/-- What such an end leaves of the mode. -/
theorem State.actHeld_keeps (hisl : s.sys.heldIsl = none) (hmode : s.sys.heldMode = none) (hm : s.mode ≠ 1) :
    s.only [] [.sys] s.actHeld ∧ s.actHeld.sys.req = s.sys.req ∧ s.actHeld.sys.waitRun = s.sys.waitRun ∧ s.actHeld.sys.stackTx = s.sys.stackTx := by
  obtain h | h := State.actHeld_settled hisl hmode hm
  · rw [h]
    exact ⟨s.only_refl _ _, rfl, rfl, rfl⟩
  · rw [h]
    exact ⟨(s.only_refl _ _).with_sys _ (by simp), rfl, rfl, rfl⟩

/-! ### Requests whose boundary has come -/

theorem State.permit_maintain (hm : s.mode = 2) (hmas : s.master = true) (hf : s.on MPC_MODE_FTEST = false) : s.permit 5 false = 0 := by
  rw [State.permit, hf, hmas, hm]
  rfl

/-- A request to MAINTAIN that waits is done, and nothing held back acts after it. -/
theorem State.reqTake_maintain (hm : s.mode = 2) (hmas : s.master = true) (hf : s.on MPC_MODE_FTEST = false) (hanch : s.get RED_TWIN_STAT_STATE ≠ 2)
    (hisl : s.sys.heldIsl = none) (hheld : s.sys.heldMode = none) : (s.reqTake 5).actHeld.mode = 5 ∧ (s.reqTake 5).actHeld.get MPC_MODE_PREV = 2 ∧
    (s.reqTake 5).actHeld.get MPC_REQ_STAT_STATE = 2 ∧ (s.reqTake 5).actHeld.sys.req = none ∧ (s.reqTake 5).actHeld.mem = s.mem := by
  have hpermit : ({ s with sys := { s.sys with req := none } } : State).permit 5 false = 0 := State.permit_maintain hm hmas hf
  have htake : s.reqTake 5 = (({ s with sys := { s.sys with req := none } } : State).setMode 5).reqStat 2 0 := by
    have hto : ({ s with sys := { s.sys with req := none } } : State).toMaintain = ({ s with sys := { s.sys with req := none } } : State).setMode 5 := by
      rw [State.toMaintain, if_neg]
      show ¬(decide (s.get RED_TWIN_STAT_STATE = 2) && _ && _) = true
      simp [hanch]
    have hmode5 := (({ s with sys := { s.sys with req := none } } : State).setMode_spec (m := 5) (by simp)).1
    rw [State.reqTake, hpermit, if_neg (by decide), if_neg (by simp), if_pos rfl, hto, if_pos hmode5]
  obtain ⟨hcur, hprev, hmem, -, hkeep⟩ := ({ s with sys := { s.sys with req := none } } : State).setMode_spec (m := 5) (by simp)
  obtain ⟨hreq, hi, hh, -, -⟩ := hkeep (show s.mode ≠ 3 by omega)
  rw [htake]
  generalize ({ s with sys := { s.sys with req := none } } : State).setMode 5 = u at hcur hprev hmem hreq hi hh ⊢
  have hstat := State.only_reqStat (s := u) 2 0
  have hst := (State.get_reqStat (s := u) (st := 2) (code := 0) (by decide) (by decide)).1
  have hsys : (u.reqStat 2 0).sys = u.sys := hstat.2 .sys (by simp)
  have hcur' : (u.reqStat 2 0).mode = 5 := (hstat.get_eq (by decide)).trans hcur
  have hprev' : (u.reqStat 2 0).get MPC_MODE_PREV = s.mode := (hstat.get_eq (by decide)).trans hprev
  have hmem' : (u.reqStat 2 0).mem = s.mem := (hstat.2 .mem (by simp)).trans hmem
  rw [← hsys] at hreq hi hh
  generalize u.reqStat 2 0 = v at hst hcur' hprev' hmem' hreq hi hh ⊢
  obtain ⟨hend, hreq', -, -⟩ := State.actHeld_keeps (hi.trans hisl) (hh.trans hheld) (by omega)
  exact ⟨(hend.get_eq (by simp)).trans hcur', (hend.get_eq (by simp)).trans (hprev'.trans hm), (hend.get_eq (by simp)).trans hst,
    hreq'.trans hreq, (hend.2 .mem (by simp)).trans hmem'⟩

/-- What a change to RUN leaves once nothing held back acts after it. -/
theorem State.setMode_run_settled (h3 : s.mode ≠ 3) (hisl : s.sys.heldIsl = none) (hheld : s.sys.heldMode = none) :
    (s.setMode 2).actHeld.mode = 2 ∧ (s.setMode 2).actHeld.get MPC_MODE_PREV = s.mode ∧ (s.setMode 2).actHeld.get MPC_MODE_BOOTING = 0 ∧
    (s.setMode 2).actHeld.sys.waitRun = false ∧ (s.setMode 2).actHeld.mem = s.mem ∧
    (s.sys.waitRun = true → (s.setMode 2).actHeld.get MPC_REQ_STAT_STATE = 2) := by
  obtain ⟨hcur, hprev, hmem, hrun, hkeep⟩ := s.setMode_spec (m := 2) (by simp)
  obtain ⟨hboot, hwait⟩ := hrun rfl
  obtain ⟨-, hi, hh, -, hdone⟩ := hkeep h3
  generalize s.setMode 2 = u at hcur hprev hmem hboot hwait hi hh hdone ⊢
  obtain ⟨hend, -, hwait', -⟩ := State.actHeld_keeps (hi.trans hisl) (hh.trans hheld) (by omega)
  exact ⟨(hend.get_eq (by simp)).trans hcur, (hend.get_eq (by simp)).trans hprev, (hend.get_eq (by simp)).trans hboot, hwait'.trans hwait,
    (hend.2 .mem (by simp)).trans hmem, fun hw => (hend.get_eq (by simp)).trans (hdone rfl hw)⟩

theorem State.islandDue_false (h : s.on MPC_MODE_TRANS = false) : s.islandDue = false := by
  rw [State.islandDue, h, Bool.false_and]

theorem State.handDone_false (h : s.sys.hand = false) : s.handDone = false := by
  rw [State.handDone, h, Bool.false_and]

theorem State.modeArc_island (h : s.mode ∈ [1, 2, 3, 5]) : modeArc s.mode 4 = true := by
  simp only [List.mem_cons, List.not_mem_nil, or_false] at h
  obtain h | h | h | h := h
  all_goals
    rw [h]
    rfl

/-! ### Wakes in WATCH -/

/-- A wake in WATCH: its source is recorded, and the transition to RUN begins. -/
theorem State.watchWake_begins {src : Nat} (hs : src < 32) (hm : s.mode = 1) (hmas : s.master = true) (ht : s.on MPC_MODE_TRANS = false)
    (hen : (s.rd MPC_WAKE_EN).getLsbD src = true) : (s.wakeBy src).get MPC_MODE_TRANS = 1 ∧ (s.wakeBy src).mode = 1 ∧
    ((s.wakeBy src).rd MPC_WAKE_CAUSE).getLsbD src = true ∧ s.only [MPC_MODE, MPC_WAKE_CAUSE] [.sys] (s.wakeBy src) := by
  have hchip : s.chip = 0 := by simpa [State.master] using hmas
  have hcause : ((s.wr MPC_WAKE_CAUSE (s.rd MPC_WAKE_CAUSE ||| BitVec.ofNat 32 (2 ^ src))).rd MPC_WAKE_CAUSE).getLsbD src = true := by
    rw [State.rd_wr_same, BitVec.getLsbD_or, BitVec.getLsbD_ofNat, Nat.testBit_two_pow]
    simp [hs]
  have honly := (s.only_refl [MPC_MODE, MPC_WAKE_CAUSE] [.sys]).wr (o := MPC_WAKE_CAUSE) (s.rd MPC_WAKE_CAUSE ||| BitVec.ofNat 32 (2 ^ src)) (by simp)
  have hmode : (s.wr MPC_WAKE_CAUSE (s.rd MPC_WAKE_CAUSE ||| BitVec.ofNat 32 (2 ^ src))).mode = 1 :=
    (State.get_congr (State.rd_wr_ne _ _ (by decide))).trans hm
  rw [State.wakeBy, if_pos (by simp [hm]), State.watchWake, hen, if_neg (by decide), if_neg (by simp [ht]), if_pos hm, if_pos hchip]
  generalize s.wr MPC_WAKE_CAUSE (s.rd MPC_WAKE_CAUSE ||| BitVec.ofNat 32 (2 ^ src)) = u at hcause honly hmode ⊢
  have huse : u.only [] [.sys] u.rcUse := (u.only_refl _ _).with_sys _ (by simp)
  rw [State.startWake]
  have hcause' : (u.rcUse.rd MPC_WAKE_CAUSE).getLsbD src = true := hcause
  have hmode' : u.rcUse.mode = 1 := hmode
  have honly' := honly.trans (huse.mono (by simp) (by simp))
  generalize u.rcUse = v at hcause' hmode' honly' ⊢
  refine ⟨State.get_put_self _ rfl (by decide), (State.get_put_apart _ _ rfl).trans hmode', ?_, (honly'.put _ (by decide)).with_sys _ (by simp)⟩
  rw [← hcause']
  exact congrArg (fun w => BitVec.getLsbD w src) (State.rd_wr_ne _ _ (by decide))

/-! ### The end of a proof run -/

theorem State.lanesStop_none (h : s.tst.lanes = 0) : s.only [] [.tst] s.lanesStop ∧ s.lanesStop.tst.force = s.tst.force := by
  rw [State.lanesStop, h]
  exact ⟨(s.only_refl _ _).with_tst _ (by simp), rfl⟩

theorem State.forceEnd_none (h : s.tst.force = none) : s.forceEnd = s := by rw [State.forceEnd, h]

theorem State.only_handStop : s.only [] [.red] s.handStop := by
  rw [State.handStop]
  split
  · exact (s.only_refl _ _).with_red _ (by simp)
  · exact s.only_refl _ _

/-- A proof run without lanes or a forced wrap ends at once. -/
theorem State.proofAbort_plain (hrun : s.get TST_PSTAT_STATE = 1) (hl : s.tst.lanes = 0) (hf : s.tst.force = none) :
    s.proofAbort.get TST_PSTAT_STATE = 3 ∧ s.proofAbort.get TST_EVT_ABORT = 1 ∧ s.proofAbort.fltQ = s.fltQ := by
  obtain ⟨hstop, hforce⟩ := State.lanesStop_none hl
  have hq : s.lanesStop.handStop.proofClear.fltQ = s.fltQ :=
    ((State.only_handStop (s := s.lanesStop)).2 .fltQ (by simp)).trans (hstop.2 .fltQ (by simp))
  rw [State.proofAbort, if_pos hrun, State.forceEnd_none (hforce.trans hf)]
  generalize s.lanesStop.handStop.proofClear = u at hq ⊢
  refine ⟨?_, State.get_put_self _ rfl (by decide), ?_⟩
  · rw [State.get_put_ne _ _ _ _ (by decide), State.get_put_self _ rfl (by decide)]
  · rw [State.put_fltQ, State.put_fltQ]
    exact hq

/-! ### FACTORY TEST -/

/-- FACTORY TEST begins: a request that waited is refused. -/
theorem State.ftestBegin_spec : s.ftestBegin.get MPC_MODE_FTEST = 1 ∧ s.ftestBegin.sys.req = none ∧ s.ftestBegin.sys.waitRun = false ∧
    (if s.sys.req.isSome = true ∨ s.sys.waitRun = true then s.ftestBegin.get MPC_REQ_STAT_STATE = 3 ∧ s.ftestBegin.get MPC_REQ_STAT_CODE = 0x07
      else s.ftestBegin.rd MPC_REQ_STAT = s.rd MPC_REQ_STAT) ∧
    s.only [MPC_MODE, MPC_REQ_STAT, INTC_PEND 0 0, INTC_PEND 1 0, INTC_PEND 2 0] [.sys] s.ftestBegin := by
  have hput : s.only [MPC_MODE, MPC_REQ_STAT, INTC_PEND 0 0, INTC_PEND 1 0, INTC_PEND 2 0] [.sys] (s.put MPC_MODE_FTEST 1) :=
    (s.only_refl _ _).put _ (by decide)
  have hf : (s.put MPC_MODE_FTEST 1).get MPC_MODE_FTEST = 1 := State.get_put_self _ rfl (by decide)
  have hstat : (s.put MPC_MODE_FTEST 1).rd MPC_REQ_STAT = s.rd MPC_REQ_STAT := State.rd_wr_ne _ _ (by decide)
  rw [State.ftestBegin, show (s.put MPC_MODE_FTEST 1).sys = s.sys from State.put_sys _ _ _]
  generalize s.put MPC_MODE_FTEST 1 = u at hput hf hstat ⊢
  have hwith (v : State) (x : SysSt) : v.only [] [.sys] { v with sys := x } := (v.only_refl _ _).with_sys _ (by simp)
  by_cases h : s.sys.req.isSome = true ∨ s.sys.waitRun = true
  · rw [if_pos (by simpa using h), if_pos h]
    have honly := State.only_reqStat (s := u) 3 7
    obtain ⟨hst, hcode⟩ := State.get_reqStat (s := u) (st := 3) (code := 7) (by decide) (by decide)
    have hf' := (honly.get_eq (f := MPC_MODE_FTEST) (by decide)).trans hf
    have hall := hput.trans (honly.mono (List.subset_cons_self _ _) (List.nil_subset _))
    generalize u.reqStat 3 7 = v at hst hcode hf' hall ⊢
    have hlast := hwith v { v.sys with ftKey := none, req := none, waitRun := false, heldIsl := none, heldMode := none }
    exact ⟨(hlast.get_eq (by simp)).trans hf', rfl, rfl, ⟨(hlast.get_eq (by simp)).trans hst, (hlast.get_eq (by simp)).trans hcode⟩,
      hall.trans (hlast.mono (List.nil_subset _) (List.Subset.refl _))⟩
  · rw [if_neg (by simpa using h), if_neg h]
    have hlast := hwith u { u.sys with ftKey := none, req := none, waitRun := false, heldIsl := none, heldMode := none }
    exact ⟨(hlast.get_eq (by simp)).trans hf, rfl, rfl, (hlast.1 _ (by simp)).trans hstat, hput.trans (hlast.mono (List.nil_subset _) (List.Subset.refl _))⟩

/-! ### A stacked hub, and the end of the retrain window -/

theorem State.stackSend_spec (m : Nat) : s.only [] [.sys] (s.stackSend m) ∧ (s.stackSend m).sys.stackTx = (if s.laneUp 2 then some m else s.sys.stackTx) ∧
    (s.stackSend m).sys.heldIsl = s.sys.heldIsl ∧ (s.stackSend m).sys.heldMode = s.sys.heldMode := by
  rw [State.stackSend]
  split
  · exact ⟨(s.only_refl _ _).with_sys _ (by simp), rfl, rfl, rfl⟩
  · exact ⟨s.only_refl _ _, rfl, rfl, rfl⟩

theorem State.recordOn_stackSend (m : Nat) : (s.stackSend m).sys.recordOn = s.sys.recordOn := by
  rw [State.stackSend]
  split
  · rfl
  · rfl

theorem State.modeArc_stack {m : Nat} (h : s.mode ∈ [1, 2, 5]) (hm : m ∈ [4, 5]) (hne : s.mode ≠ m) : modeArc s.mode m = true := by
  simp only [List.mem_cons, List.not_mem_nil, or_false] at h hm
  obtain h | h | h := h
  all_goals
    rw [h] at hne ⊢
    obtain rfl | rfl := hm
  · rfl
  · rfl
  · rfl
  · rfl
  · rfl
  · exact absurd rfl hne

/-- The master's ISLAND or MAINTAIN is taken at once. -/
theorem State.takeMode_runs {m : Nat} (hf : s.on MPC_MODE_FTEST = false) (hrec : s.sys.recordOn = true) (harc : modeArc s.mode m = true)
    (hm : m ∈ [4, 5]) : s.takeMode m = s.setMode m := by
  simp only [List.mem_cons, List.not_mem_nil, or_false] at hm
  obtain rfl | rfl := hm
  · exact if_neg (by simp [hf, hrec, harc])
  · exact if_neg (by simp [hf, hrec, harc])

/-- The retrain window is over. -/
def State.retrained (s : State) : State := { s with sys := { s.sys with retrain := false } }

/-- A ring lane at the end of the retrain window. -/
def State.laneLate (s : State) (d : Nat) : State := if s.laneUp d then s else s.planEnd d 0x82

theorem exec_retrainWindowEnd (h : s.sys.retrain = true) : exec .retrainWindowEnd s = .next ((s.retrained.laneLate 0).laneLate 1) :=
  congrArg Host.Outcome.next (if_pos h)

theorem State.laneUp_retrained (l : Nat) : s.retrained.laneUp l = s.laneUp l := rfl

theorem State.laneLate_up {d : Nat} (h : s.laneUp d = true) : s.laneLate d = s := if_pos h

/-- A direction that went down as planned counts as lost once the window has passed. -/
theorem State.laneLate_down {d : Nat} (h : s.laneUp d = false) (hd : s.dirState d = 3) (hdorm : s.sys.dormT = false) :
    s.retrained.laneLate d = s.retrained.setDue d (some 0x82) := by
  have hd' : s.retrained.dirState d = 3 := hd
  have hq : s.retrained.quietDown = false := hdorm
  rw [State.laneLate, if_neg (by rw [State.laneUp_retrained, h]; decide), State.planEnd, if_pos (by simp [hd', hq])]

theorem State.setWakeTimer_only (v : Word) : s.only [MPC_WAKE_TIMER] [.sys] (s.setWakeTimer v) :=
  ((s.only_refl _ _).wr _ (by simp)).with_sys _ (by simp)

theorem State.rd_setWakeTimer (v : Word) : (s.setWakeTimer v).rd MPC_WAKE_TIMER = v := by
  have hset : (s.setWakeTimer v).rd MPC_WAKE_TIMER = (s.wr MPC_WAKE_TIMER v).rd MPC_WAKE_TIMER := State.rd_congr rfl _
  rw [hset, State.rd_wr_same]

theorem State.due_setDue (d : Nat) (c : Option Nat) : Tab.get (fun _ => none) (s.setDue d c).red.due d = c := by
  show Tab.get (fun _ => none) (Tab.set (fun _ => none) s.red.due d c) d = c
  rw [Tab.get_set_same]

theorem State.get_eq_one_of_bit {f : Fld} (hw : f.w = 1) (h : (s.rd f.off).getLsbD f.lo = true) : s.get f = 1 := by
  have hon : s.on f = true := (s.on_eq_getLsbD hw).trans h
  have hlt : s.get f < 2 := (s.get_lt f).trans_eq (by rw [hw, pow_one])
  rw [State.on, bne_iff_ne] at hon
  omega

theorem exec_wakeTimerExpiry (htim : s.rd MPC_WAKE_TIMER ≠ 0#32) (haon : s.lpw.aon = true) (hm : (s.setWakeTimer 0#32).mode ≠ 0) :
    exec .wakeTimerExpiry s = .next ((s.setWakeTimer 0#32).wakeBy 2) := by
  change execWakeTimerExpiry s = _
  rw [execWakeTimerExpiry, if_neg (by simp [htim, haon])]
  exact congrArg Host.Outcome.next (if_neg hm)

end

/-- Settles O12. -/
theorem modeTransitions : Obligations.ModeTransitions := by
  unfold Obligations.ModeTransitions
  refine ⟨?_, ?_, ?_, ?_, ?_, ?_, ?_, ?_, ?_, ?_, ?_, ?_, ?_, ?_, ?_⟩
  · intro t0 s hm ht hact hhand hmas hf hreq htime hanch hwait hisl hheld
    have hbound := s.only_toBoundary
    obtain ⟨hreq', hhand', -, hisl', hheld', -⟩ := s.sys_toBoundary
    have hact' : s.toBoundary.upd.act = false := by rw [show s.toBoundary.upd = s.upd from hbound.2 .upd (by simp)]; exact hact
    have hmas' : s.toBoundary.master = true := by rw [State.master, State.chip, hbound.get_eq (by decide)]; exact hmas
    have hf' : s.toBoundary.on MPC_MODE_FTEST = false := (State.on_congr (hbound.1 _ (by decide))).trans hf
    have hanch' : s.toBoundary.get RED_TWIN_STAT_STATE ≠ 2 := by rw [hbound.get_eq (by decide)]; exact hanch
    have hmem : s.toBoundary.mem = s.mem := hbound.2 .mem (by simp)
    rw [hreq] at hreq'
    rw [hhand] at hhand'
    rw [hisl] at hisl'
    rw [hheld] at hheld'
    have hexec : exec .modeTransition s = .next (s.toBoundary.reqTake 5).actHeld := by
      have htrans : s.toBoundary.transition = some (s.toBoundary.reqTake 5) := by
        rw [State.transition, State.handDone_false hhand', if_neg (by decide), if_neg (by simp [hm]), if_neg (by simp [ht]), hact',
          if_neg (by simp), if_neg (by simp), hreq']
        exact if_pos htime
      refine congrArg Host.Outcome.next ((if_neg (by simp [State.islandDue_false ht])).trans ?_)
      rw [htrans]
    obtain ⟨h1, h2, h3, h4, h5⟩ := State.reqTake_maintain hm hmas' hf' hanch' hisl' hheld'
    exact ⟨_, hexec, h1, h2, h3, h4, h5.trans hmem⟩
  · intro s hboot ht hact hhand hreq hwoke hisl hheld
    have hbound := s.only_toBoundary
    obtain ⟨hreq', hhand', hwoke', hisl', hheld', -⟩ := s.sys_toBoundary
    have hact' : s.toBoundary.upd.act = false := by rw [show s.toBoundary.upd = s.upd from hbound.2 .upd (by simp)]; exact hact
    have hmem : s.toBoundary.mem = s.mem := hbound.2 .mem (by simp)
    rw [hreq] at hreq'
    rw [hhand] at hhand'
    rw [hwoke] at hwoke'
    rw [hisl] at hisl'
    rw [hheld] at hheld'
    have hm5 : s.toBoundary.mode = 5 := by
      rw [State.bootDone] at hboot
      simp only [Bool.and_eq_true, beq_iff_eq] at hboot
      exact hboot.1.1.1.1.1
    have hexec : exec .modeTransition s = .next (s.toBoundary.setMode 2).actHeld := by
      have hown : s.toBoundary.ownTransition = some (s.toBoundary.setMode 2) := by
        rw [State.ownTransition, if_neg (by omega), if_pos hboot, State.bootExit, hwoke']
      have htrans : s.toBoundary.transition = some (s.toBoundary.setMode 2) := by
        rw [State.transition, State.handDone_false hhand', if_neg (by decide), if_neg (by simp [hm5]), if_neg (by simp [ht]), hact',
          if_neg (by simp), if_neg (by simp), hreq']
        exact hown
      refine congrArg Host.Outcome.next ((if_neg (by simp [State.islandDue_false ht])).trans ?_)
      rw [htrans]
    obtain ⟨h1, h2, h3, -, h5, -⟩ := State.setMode_run_settled (s := s.toBoundary) (by omega) hisl' hheld'
    exact ⟨_, hexec, h1, h2.trans hm5, h3, h5.trans hmem⟩
  · intro t0 s hm ht hreq hmas hf hpos htime hanch hwait hisl hheld
    have hbound := s.only_toBoundary
    obtain ⟨-, -, -, hisl', hheld', -⟩ := s.sys_toBoundary
    have hmas' : s.toBoundary.master = true := by rw [State.master, State.chip, hbound.get_eq (by decide)]; exact hmas
    have hf' : s.toBoundary.on MPC_MODE_FTEST = false := (State.on_congr (hbound.1 _ (by decide))).trans hf
    have hanch' : s.toBoundary.get RED_TWIN_STAT_STATE ≠ 2 := by rw [hbound.get_eq (by decide)]; exact hanch
    have hmem : s.toBoundary.mem = s.mem := hbound.2 .mem (by simp)
    have hexec : exec (.modeRequestTimed) s = .next (s.toBoundary.reqTake 5).actHeld := by
      change execModeRequestTimed s = _
      rw [execModeRequestTimed, hreq]
      exact congrArg Host.Outcome.next (if_pos (by simp [hpos, htime, ht]))
    obtain ⟨h1, h2, h3, h4, h5⟩ := State.reqTake_maintain hm hmas' hf' hanch' (hisl'.trans hisl) (hheld'.trans hheld)
    exact ⟨_, hexec, h1, h2, h3, h4, h5.trans hmem⟩
  · intro src s h0 hm hmas ht hen
    obtain ⟨h1, h2, h3, h4⟩ := State.watchWake_begins (Nat.lt_trans src.isLt (by decide)) hm hmas ht hen
    exact ⟨_, congrArg Host.Outcome.next (if_neg h0), h1, h2, h3, h4⟩
  · intro quiet s hrec hret hdorm hmas h0 h1 hf ht hm
    have hexec : exec (.islandEntry quiet) s = .next (s.setMode 4) := by
      refine congrArg Host.Outcome.next ((if_neg (by simp [hrec, hret, hdorm])).trans ((if_pos hmas).trans ((if_pos ?_).trans ?_)))
      · simp [State.cutOff, h0, h1]
      · rw [State.islandGo, hf, ht, State.modeArc_island hm]
        rfl
    obtain ⟨hcur, hprev, hmem, -⟩ := s.setMode_spec (m := 4) (by simp)
    exact ⟨_, hexec, hcur, hprev, hmem⟩
  · intro quiet s hrec hret hdorm hmas h0 h1 hf
    refine ⟨s, congrArg Host.Outcome.next ((if_neg (by simp [hrec, hret, hdorm])).trans ((if_pos hmas).trans ((if_pos ?_).trans ?_))), s.only_refl _ _⟩
    · simp [State.cutOff, h0, h1]
    · rw [State.islandGo, hf]
      rfl
  · intro s hm ht hlink hmas hlist hplay hisl hheld _ hwait
    have hbound := s.only_toBoundary
    obtain ⟨-, -, -, hisl', hheld', hwait'⟩ := s.sys_toBoundary
    have hmas' : s.toBoundary.master = true := by rw [State.master, State.chip, hbound.get_eq (by decide)]; exact hmas
    have hlist' : s.toBoundary.listed = true := (State.on_congr (hbound.1 _ (by decide))).trans hlist
    have hplay' : s.toBoundary.on MPC_ISLAND_PLAY = false := (State.on_congr (hbound.1 _ (by decide))).trans hplay
    have hmem : s.toBoundary.mem = s.mem := hbound.2 .mem (by simp)
    have hexec : exec .islandExit s = .next (s.toBoundary.setMode 2).actHeld :=
      congrArg Host.Outcome.next (if_pos (by simp [hm, ht, hmas', hlink, hlist', hplay']))
    obtain ⟨h1, h2, -, h4, h5, h6⟩ := State.setMode_run_settled (s := s.toBoundary) (by omega) (hisl'.trans hisl) (hheld'.trans hheld)
    exact ⟨_, hexec, h1, h2.trans hm, h6 (hwait'.trans hwait), h4, h5.trans hmem⟩
  · intro s habort hm hrun hroom hl hforce
    have hexec : exec .proofAbort s = .next (s.fault 0x01 0x17 (s.get TST_PSTAT_STEP)).proofAbort := by
      refine congrArg Host.Outcome.next ((if_neg habort).trans ?_)
      rw [State.proofStop, if_pos ⟨hm, hrun⟩]
    have hmem : (s.fault 0x01 0x17 (s.get TST_PSTAT_STEP)).proofAbort.mem = s.mem :=
      ((State.proofAbort_foot _).mem rfl).trans ((hroom.only_fault _ _ _).2 .mem (by simp))
    have hfault := hroom.only_fault 0x01 0x17 (s.get TST_PSTAT_STEP)
    have hsent := hroom.sent_fault 0x01 0x17 (s.get TST_PSTAT_STEP)
    have hrun' := (hfault.get_eq (f := TST_PSTAT_STATE) (by decide)).trans hrun
    have htst : (s.fault 0x01 0x17 (s.get TST_PSTAT_STEP)).tst = s.tst := hfault.2 .tst (by simp)
    rw [← htst] at hl hforce
    obtain ⟨hst, hevt, hq⟩ := State.proofAbort_plain hrun' hl hforce
    exact ⟨_, hexec, hst, hevt, hq.trans hsent, hmem⟩
  · intro s hd hr hm hstrap
    have hexec : exec (.ftestKey 0x5A3C#32) s = .next { s with sys := { s.sys with ftKey := some s.sys.t } } := by
      refine congrArg Host.Outcome.next ((s.cmd_run MPC_FTEST _ hd hr).trans ?_)
      rw [State.ftestKey, if_neg (by simp [hm, hstrap]), if_pos rfl]
    exact ⟨_, hexec, rfl, (s.only_refl _ _).with_sys _ (by simp)⟩
  · intro t0 s hd hr hm hstrap hkey htime
    have hexec : exec (.ftestKey 0xC3A5#32) s = .next s.ftestBegin := by
      refine congrArg Host.Outcome.next ((s.cmd_run MPC_FTEST _ hd hr).trans ?_)
      rw [State.ftestKey, if_neg (by simp [hm, hstrap]), if_neg (by decide), hkey]
      exact if_pos ⟨rfl, htime⟩
    obtain ⟨h1, h2, h3, h4, h5⟩ := s.ftestBegin_spec
    exact ⟨_, hexec, h1, h2, h3, h4, h5⟩
  · intro v s hd hr hv hbad
    have hexec : exec (.ftestKey v) s = .next { s with sys := { s.sys with ftKey := none } } := by
      refine congrArg Host.Outcome.next ((s.cmd_run MPC_FTEST _ hd hr).trans ?_)
      by_cases hmode : s.mode ≠ 5 ∨ (!s.on ID_STRAP_TESTMODE) = true
      · rw [State.ftestKey, if_pos hmode]
      · rw [State.ftestKey, if_neg hmode, if_neg hv]
        split
        · rename_i t0 hk
          rw [if_neg]
          rintro ⟨rfl, -⟩
          obtain h | h | h := hbad
          · rw [hk] at h
            exact absurd h (by simp)
          · exact h rfl
          · exact hmode (.inl h)
        · rfl
    exact ⟨_, hexec, rfl, (s.only_refl _ _).with_sys _ (by simp)⟩
  · intro mode s hmas hup ht hf hm hmode hne hrec hisl hheld
    obtain ⟨hsent, htx, hi, hh⟩ := s.stackSend_spec mode.val
    have hexec : exec (.stackModeRx mode) s = .next ((s.stackSend mode.val).setMode mode.val).actHeld := by
      refine congrArg Host.Outcome.next ((if_neg (by simp [hmas, hup])).trans ((if_neg (by simp [ht])).trans (congrArg State.actHeld ?_)))
      refine State.takeMode_runs ?_ ?_ ?_ hmode
      · exact (State.on_congr (hsent.1 _ (by simp))).trans hf
      · rw [State.recordOn_stackSend]
        exact hrec
      · rw [show (s.stackSend mode.val).mode = s.mode from hsent.get_eq (by simp)]
        exact State.modeArc_stack hm hmode hne
    have hmas' : (s.stackSend mode.val).master = false := by rw [State.master, State.chip, hsent.get_eq (by simp)]; exact hmas
    have hm' : (s.stackSend mode.val).mode = s.mode := hsent.get_eq (by simp)
    have hmem : (s.stackSend mode.val).mem = s.mem := hsent.2 .mem (by simp)
    generalize s.stackSend mode.val = u at hexec htx hi hh hmas' hm' hmem
    have htarget : mode.val = 2 ∨ mode.val = 4 ∨ mode.val = 5 := .inr (by simpa using hmode)
    have h3 : u.mode ≠ 3 := by
      rw [hm']
      intro he
      rw [he] at hm
      exact absurd hm (by decide)
    obtain ⟨hcur, hprev, hmem', -, hkeep⟩ := u.setMode_spec htarget
    obtain ⟨-, hi', hh', htx', -⟩ := hkeep h3
    generalize u.setMode mode.val = v at hexec hcur hprev hmem' hi' hh' htx'
    obtain ⟨hend, -, -, htx2⟩ := State.actHeld_keeps (hi'.trans (hi.trans hisl)) (hh'.trans (hh.trans hheld)) (by rw [hcur]; intro he; rw [he] at hmode; exact absurd hmode (by decide))
    exact ⟨_, hexec, (hend.get_eq (by simp)).trans hcur, (hend.get_eq (by simp)).trans (hprev.trans hm'), htx2.trans ((htx' hmas').trans htx),
      (hend.2 .mem (by simp)).trans (hmem'.trans hmem)⟩
  · intro s hret h0 h1
    have hexec : exec .retrainWindowEnd s = .next s.retrained := by
      rw [exec_retrainWindowEnd hret, State.laneLate_up ((s.laneUp_retrained 0).trans h0), State.laneLate_up ((s.laneUp_retrained 1).trans h1)]
    exact ⟨_, hexec, rfl, (s.only_refl _ _).with_sys _ (by simp)⟩
  · intro s hret h0 h1 hd hdorm
    have hexec : exec .retrainWindowEnd s = .next (s.retrained.setDue 0 (some 0x82)) := by
      rw [exec_retrainWindowEnd hret, State.laneLate_down h0 hd hdorm]
      exact congrArg Host.Outcome.next (State.laneLate_up h1)
    exact ⟨_, hexec, s.retrained.due_setDue 0 _⟩
  · intro s htim haon hmas hen hm ht
    have htimer := s.setWakeTimer_only 0#32
    have hzero : (s.setWakeTimer 0#32).rd MPC_WAKE_TIMER  = 0#32 := s.rd_setWakeTimer _
    have hm' : (s.setWakeTimer 0#32).mode = 1 := (htimer.get_eq (by decide)).trans hm
    have hexec := exec_wakeTimerExpiry htim haon (by omega)
    have hmas' : (s.setWakeTimer 0#32).master = true := by rw [State.master, State.chip, htimer.get_eq (by decide)]; exact hmas
    have ht' : (s.setWakeTimer 0#32).on MPC_MODE_TRANS = false := (State.on_congr (htimer.1 _ (by decide))).trans ht
    have hen' : ((s.setWakeTimer 0#32).rd MPC_WAKE_EN).getLsbD 2 = true := by
      rw [htimer.1 _ (by decide)]
      exact (s.on_eq_getLsbD (f := MPC_WAKE_EN_TIMER) rfl).symm.trans hen
    generalize s.setWakeTimer 0#32 = u at htimer hexec hzero hm' hmas' ht' hen'
    obtain ⟨h1, -, h3, h4⟩ := State.watchWake_begins (by decide) hm' hmas' ht' hen'
    exact ⟨_, hexec, (h4.1 _ (by decide)).trans hzero, State.get_eq_one_of_bit (f := MPC_WAKE_CAUSE_TIMER) rfl h3, h1,
      (htimer.mono (by decide) (by simp)).trans (h4.mono (by decide) (by simp))⟩

end Sys2Proof.Machine

/-! A frame of the hub's own that meets no missing slot: it reports nothing and leaves the directions' state and log. -/
namespace Sys2Proof.Machine

set_option Elab.async false

section
variable {s t u : State}

/-- The registers that show the directions, the last loss and the proof run. -/
def steadyRegs : List Nat := [RED_STAT, RED_LOSS_LOG, TST_PSTAT]

/-- No fault has been reported, and the directions, the last loss and the proof run show as they did. -/
structure State.steady (s t : State) : Prop where
  fltQ : t.fltQ = s.fltQ
  rd : ∀ o ∈ steadyRegs, t.rd o = s.rd o

/-- No counter shows its SAT among those registers. -/
theorem satField_notMem {c : Nat} {f : Fld} (h : satField c = some f) : f.off ∉ steadyRegs := by
  have hb := blkOf_satField h
  rw [satField] at h
  split at h
  case h_12 hc =>
    intro hm
    have hblk : ∀ o ∈ steadyRegs, blkOf o ≠ 0x13 := by decide
    exact hblk _ hm (hb.trans hc)
  case h_15 => exact absurd h (by simp)
  all_goals
    obtain rfl := Option.some.inj h
    decide

namespace State.steady

theorem refl (s : State) : s.steady s := ⟨rfl, fun _ _ => rfl⟩

theorem trans (h : s.steady t) (k : t.steady u) : s.steady u := ⟨k.fltQ.trans h.fltQ, fun o ho => (k.rd o ho).trans (h.rd o ho)⟩

theorem get_eq (h : s.steady t) {f : Fld} (hf : f.off ∈ steadyRegs) : t.get f = s.get f := State.get_congr (h.rd _ hf)

theorem same (h : s.steady t) (hr : u.regs = t.regs) (hq : u.fltQ = t.fltQ) : s.steady u := h.trans ⟨hq, fun o _ => State.rd_congr hr o⟩

theorem put (h : s.steady t) {f : Fld} (v : Nat) (hf : f.off ∉ steadyRegs := by decide) : s.steady (t.put f v) :=
  h.trans ⟨State.put_fltQ _ _ _, fun _ ho => State.rd_wr_ne _ _ fun he => hf (he ▸ ho)⟩

theorem wr (h : s.steady t) {o : Nat} (v : Word) (hf : o ∉ steadyRegs := by decide) : s.steady (t.wr o v) :=
  h.trans ⟨rfl, fun _ ho => State.rd_wr_ne _ _ fun he => hf (he ▸ ho)⟩

theorem count (h : s.steady t) (c n : Nat) : s.steady (t.count c n) := by
  refine h.trans ⟨(State.count_foot t c n).fltQ rfl, fun o ho => ?_⟩
  cases hs : satField c with
  | none => exact State.rd_count_nosat _ _ _ _ hs
  | some f =>
    have hne : o ≠ f.off := fun he => satField_notMem hs (he ▸ ho)
    by_cases hl : f = LPW_STAT_SAT
    · subst hl
      refine (t.only_count c n (os := [LPW_STAT, LPW_EVT]) (ps := [.live]) (by simp) fun g hg => ?_).1 o ?_
      · obtain rfl := Option.some.inj (hs.symm.trans hg)
        exact ⟨by simp [LPW_STAT_SAT], fun _ => by simp⟩
      · rintro hm
        have : ∀ o ∈ steadyRegs, o ∉ [LPW_STAT, LPW_EVT] := by decide
        exact this o ho hm
    · exact State.rd_count_sat _ _ _ _ _ hs hl hne

theorem bump (h : s.steady t) (c : Nat) : s.steady (t.bump c) := h.count c 1

theorem when {c : Bool} {f : State → State} (h : s.steady t) (hf : t.steady (f t)) : s.steady (t.when c f) := by
  cases c
  · exact h
  · exact h.trans hf

theorem ite {c : Prop} [Decidable c] {v : State} (hu : s.steady u) (hv : s.steady v) : s.steady (if c then u else v) := by
  split
  · exact hu
  · exact hv

theorem each {α : Type} {f : State → α → State} {l : List α} (h : s.steady t) (hf : ∀ (t : State), ∀ a ∈ l, t.steady (f t a)) :
    s.steady (t.each l f) := by
  induction l generalizing t with
  | nil => exact h
  | cons a l ih => exact ih (h.trans (hf t a (by simp))) fun t b hb => hf t b (by simp [hb])

theorem of_confined {bs : List Nat} (h : s.confined bs t) (hq : t.fltQ = s.fltQ) (hb : ∀ o ∈ steadyRegs, blkOf o ∉ bs := by decide) : s.steady t :=
  ⟨hq, fun o ho => h.rd o (hb o ho)⟩

end State.steady

/-! ### Copies that meet their slot -/

/-- A copy that is not reported when it is dropped. -/
def Copy.calm (c : Copy) : Prop := c.fate ≠ .noslot ∧ c.fate ≠ .unreach

theorem hwGet_hwSet_sched {lo : Nat} (x : DWord) (v : Nat) (h : lo = 18 ∨ lo = 19 ∨ lo = 20) : hwGet (hwSet x lo 1 v) 22 1 = hwGet x 22 1 := by
  have hbit (y : DWord) : hwGet y 22 1 = (y.getLsbD 22).toNat := by
    rw [hwGet, ← BitVec.testBit_toNat, Nat.testBit_eq_decide_div_mod_eq, pow_one]
    obtain h | h := Nat.mod_two_eq_zero_or_one (y.toNat / 2 ^ 22)
    · rw [h]
      rfl
    · rw [h]
      rfl
  have hv : v % 2 < 2 := Nat.mod_lt _ (by decide)
  rw [hbit, hbit]
  obtain rfl | rfl | rfl := h
  all_goals
    rw [hwSet]
    obtain h | h := Nat.mod_two_eq_zero_or_one v
    · simp [h]
    · simp [h]

theorem frSched_put (f : Frame) (v : Nat) : frSched (frPutDup f v) = frSched f ∧ frSched (frPutDir f v) = frSched f ∧
    frSched (frPutWrap f v) = frSched f :=
  ⟨hwGet_hwSet_sched _ _ (by simp), hwGet_hwSet_sched _ _ (by simp), hwGet_hwSet_sched _ _ (by simp)⟩

/-- A frame without a slot of its own asks for none. -/
theorem State.calm_ringCopy {f : Frame} (h : frSched f = 0) (d : Nat) : (s.ringCopy f d).calm := by
  have hslot (d : Nat) (g : Frame) (hg : frSched g = 0) : s.noSlot d g = false := by rw [State.noSlot, hg]; rfl
  have hw : frSched (frPutWrap f 1) = 0 := (frSched_put f 1).2.2.trans h
  rw [State.ringCopy]
  dsimp only
  rw [hslot _ _ h, hslot _ _ hw, if_neg Bool.false_ne_true, if_neg Bool.false_ne_true]
  repeat' split
  all_goals exact ⟨by simp, by simp⟩

theorem frSched_build {p : FrameSpec} (h : p.sched = 0) (a b c d : Nat) : frSched (p.build a b c d) = 0 := by
  refine hwGet_digit (2 + p.cls % 8 * 2 ^ 4 + p.vc % 2 * 2 ^ 7 + p.dst % 256 * 2 ^ 8 + p.dstChip % 4 * 2 ^ 16 + p.mcast % 2 * 2 ^ 21) 0
    (a % 256 * 2 + b % 4 * 2 ^ 9 + p.payload.length % 512 * 2 ^ 13 + c % 65536 * 2 ^ 25) ?_ (by omega) (by decide) ?_
  · rw [h]
    omega
  · rw [h]
    omega

/-! ### Origination (R208) -/

theorem State.steady_writeCells (f : Frame) : s.steady (s.writeCells f).1 :=
  .of_confined (s.confined_writeCells f) ((s.writeCells_foot f).fltQ rfl)

theorem State.steady_watchWake (src : Nat) : s.steady (s.watchWake src) :=
  .of_confined (s.confined_watchWake src) ((s.watchWake_foot src).fltQ rfl)

theorem State.steady_enqueue (p qi : Nat) (x : QFrame) (spare : Bool) : s.steady (s.enqueue p qi x spare) := by
  rw [State.enqueue]
  have hset : s.steady (s.setQueue p qi (s.queue p qi ++ [{ x with spare := spare }])) := (State.steady.refl s).same rfl rfl
  generalize s.setQueue p qi _ = u at hset ⊢
  have hsp : s.steady (if spare = true then u.put FWD_EVT_SPARE 1 else u) := .ite (hset.put _) hset
  generalize (if spare = true then u.put FWD_EVT_SPARE 1 else u) = v at hsp ⊢
  refine .ite (hsp.trans ?_) hsp
  rw [State.wakeBy]
  exact .ite (v.steady_watchWake 1) (.refl v)

theorem State.steady_putCopy (c : Copy) (qi : Nat) (x : QFrame) (spare : Bool) : s.steady (s.putCopy c qi x spare) := by
  have hw : s.steady (s.when c.wrapped fun s => s.bump (RED_CNT 6)) := (State.steady.refl s).when ((State.steady.refl s).bump _)
  rw [State.putCopy]
  generalize s.when c.wrapped (fun s => s.bump (RED_CNT 6)) = u at hw ⊢
  dsimp only
  split
  · exact hw.same rfl rfl
  · exact hw.trans (State.steady_enqueue _ _ _ _)

theorem State.steady_unreachLog (inPort : Nat) (f : Frame) : s.steady (s.unreachLog inPort f) :=
  ((((((State.steady.refl s).bump _).put _).put _).put _).put _).put _

theorem State.steady_dropCopy (inPort : Nat) {c : Copy} (hc : c.calm) : s.steady (s.dropCopy inPort c) := by
  obtain ⟨hslot, hun⟩ := hc
  rw [State.dropCopy]
  split
  · exact (State.steady.refl s).bump _
  · exact (State.steady.refl s).bump _
  · rename_i h
    exact absurd h hslot
  · rename_i h
    exact absurd h hun
  · exact State.steady_unreachLog _ _
  · exact .refl s

theorem State.steady_placeCopy {inPort : Nat} (own multi : Bool) (t : Int) (cells : List Nat) {c : Copy} (hc : c.calm) :
    s.steady (s.placeCopy inPort own multi t cells c) := by
  rw [State.placeCopy]
  refine .ite ?_ (State.steady_dropCopy inPort hc)
  split
  · exact .ite (((State.steady.refl s).bump _).put _) (((State.steady.refl s).bump _).put _)
  · exact State.steady_putCopy _ _ _ _

theorem State.steady_place {inPort : Nat} (own : Bool) (t : Int) {l : List Copy} (hl : ∀ c ∈ l, c.calm) : s.steady (s.place inPort own t l) := by
  cases l with
  | nil => exact .refl s
  | cons c l =>
    rw [State.place]
    exact (s.steady_writeCells c.frame).each fun t a ha => State.steady_placeCopy _ _ _ _ (hl a ha)

theorem State.steady_locWait (w : LocWait) : s.steady (s.locWait w) := by
  rw [State.locWait]
  exact State.steady.same (.ite ((State.steady.refl s).bump _) (State.steady.refl s)) rfl rfl

/-- A producer of the hub's own whose copies are calm reports nothing and owes nothing. -/
theorem State.steady_tryOrig {p : FrameSpec} {prod : Nat} {r : State × List FrameSpec} (hprod : prod < 16)
    (hcalm : ∀ c ∈ s.specCopies p (s.buildFrame p .own), c.calm) (h : s.tryOrig p prod = some r) : s.steady r.1 ∧ r.2 = [] := by
  have hid : s.identOf p.cls prod = .own := by rw [State.identOf, if_pos (.inl hprod)]
  have hnone {f : Frame} {l : List Copy} (hl : ∀ c ∈ l, c.calm) : owed f l = [] := by
    rw [owed, if_neg]
    simp only [Bool.and_eq_true, not_and, Bool.not_eq_true, List.any_eq_false, beq_iff_eq]
    exact fun _ c hc => (hl c hc).2
  unfold State.tryOrig at h
  split at h
  · rename_i hx
    exact absurd (hid.symm.trans hx) (by simp)
  · rename_i hx
    exact absurd (hid.symm.trans hx) (by simp)
  · exact absurd h (by simp)
  · rw [hid] at h
    extract_lets f l u v src w src' z at h
    have hl : ∀ c ∈ l, c.calm := hcalm
    split at h
    · exact absurd h (by simp)
    · split at h
      · exact absurd h (by simp)
      · have hu : s.steady u := ((State.steady.refl s).bump _).count _ _
        clear_value u l
        split at h
        · cases h
          exact ⟨hu.trans (State.steady_unreachLog _ _), rfl⟩
        · have hv : s.steady v := hu.trans (State.steady_place true _ hl)
          clear_value v
          have hw : s.steady w := by
            unfold w
            exact .ite (hv.same rfl rfl) hv
          clear_value w
          have hz : s.steady z := hw.same rfl rfl
          clear_value z
          cases h
          exact ⟨hz, hnone hl⟩

theorem State.steady_originate {p : FrameSpec} {prod : Nat} (hprod : prod < 16) (hcalm : ∀ c ∈ s.specCopies p (s.buildFrame p .own), c.calm) :
    s.steady (s.originate p prod) := by
  have hfirst : s.steady (s.orig1 p prod).1 ∧ (s.orig1 p prod).2 = [] := by
    have hwait : s.steady (s.locWait ⟨p, prod, false⟩) := State.steady_locWait _
    rw [State.orig1]
    split
    · exact ⟨.refl s, rfl⟩
    · split
      · exact ⟨hwait, rfl⟩
      · split
        · rename_i r hr
          exact State.steady_tryOrig hprod hcalm hr
        · exact ⟨hwait, rfl⟩
  rw [State.originate, hfirst.2]
  exact hfirst.1

/-- A frame that names its lane and has no slot meets no missing slot. -/
theorem State.calm_specCopies {p : FrameSpec} {f : Frame} {l : Nat} (hl : l < 2) (hv : p.via = some l) (hf : frSched f = 0) :
    ∀ c ∈ s.specCopies p f, c.calm := by
  intro c hc
  rw [State.specCopies, hv] at hc
  dsimp only at hc
  rw [if_neg (by omega)] at hc
  split at hc
  · obtain rfl := List.mem_singleton.1 hc
    exact ⟨by simp, by simp⟩
  · obtain rfl := List.mem_singleton.1 hc
    exact State.calm_ringCopy (((frSched_put _ l).2.1.trans (frSched_put f 0).1).trans hf) l

theorem State.steady_sendRed (op d : Nat) {lane : Nat} (hl : lane < 2) : s.steady (s.sendRed op d lane) :=
  State.steady_originate (by decide) (State.calm_specCopies hl rfl (frSched_build rfl _ _ _ _))

/-! ### Drains and a direction's wrap -/

theorem State.steady_openDrain (q frm : Nat) (es : List (Nat × Nat × Nat)) (pins : Nat) : s.steady (s.openDrain q frm es pins) := by
  have hbit (u : State) (v : Bool) : u.steady (u.setDrainBit q frm v) := by
    by_cases h : frm = 0
    · rw [State.setDrainBit, if_pos h]
      exact .ite ((State.steady.refl u).put _) ((State.steady.refl u).put _)
    · rw [State.setDrainBit, if_neg h]
      exact .ite ((State.steady.refl u).put _) ((State.steady.refl u).put _)
  unfold State.openDrain
  extract_lets id fwd u v p f w x c y z
  have hv : s.steady v := ((State.steady.refl s).same (u := u) rfl rfl).trans (hbit u true)
  have hf : frSched f = 0 := (frSched_put _ frm).2.1.trans (frSched_build rfl _ _ _ _)
  clear_value v f
  refine .ite (hv.trans (State.steady_unreachLog _ _)) ?_
  have hx : s.steady x := hv.trans (v.steady_writeCells f)
  clear_value x
  have hc : c.calm := State.calm_ringCopy hf frm
  clear_value c
  split
  · exact (hx.trans (State.steady_enqueue _ _ _ _)).same rfl rfl
  · exact hx.same rfl rfl
  · exact (hx.trans (State.steady_dropCopy 4 hc)).same rfl rfl

theorem State.steady_drainsAfter (old : State) (h : s.fwd.drains = []) : s.steady (s.drainsAfter old) := by
  have hdrop : s.each s.fwd.drains (fun s x => if s.returned x then s.closeDrain x x.frm else s) = s := by rw [h]; rfl
  rw [State.drainsAfter, hdrop]
  refine (State.steady.refl s).each fun t d _ => ?_
  dsimp only
  refine .ite (.refl t) ((State.steady.refl t).each fun u q _ => ?_)
  exact .ite (State.steady_openDrain _ _ _ _) (.refl u)

theorem State.steady_setReach (d v : Nat) (h : s.fwd.drains = []) : s.steady (s.setReach d v) := by
  rw [State.setReach]
  refine .ite (.refl s) ?_
  by_cases hd : d = 0
  · rw [if_pos hd]
    exact ((State.steady.refl s).put (f := FWD_REACH_CW) v).trans (State.steady_drainsAfter s ((congrArg FwdSt.drains (State.put_fwd _ _ _)).trans h))
  · rw [if_neg hd]
    exact ((State.steady.refl s).put (f := FWD_REACH_CCW) v).trans (State.steady_drainsAfter s ((congrArg FwdSt.drains (State.put_fwd _ _ _)).trans h))

/-- Nothing but empty queues of a direction written empty again. -/
structure State.stillEmpty (s : State) (d : Nat) (t : State) : Prop where
  regs : t.regs = s.regs
  fltQ : t.fltQ = s.fltQ
  held : t.fwd.held = s.fwd.held
  locWait : t.fwd.locWait = s.fwd.locWait
  drains : t.fwd.drains = s.fwd.drains
  queues : ∀ qi, qi < 9 → t.queue d qi = []

theorem State.queue_setQueue_nil {d k qi : Nat} (h : s.queue d qi = []) : (s.setQueue d k []).queue d qi = [] := by
  show Tab.get (fun _ => []) (Tab.set (fun _ => []) s.fwd.queues (16 * d + k) []) (16 * d + qi) = []
  rw [Tab.get_set]
  split
  · rfl
  · exact h

theorem State.stillEmpty_each {d : Nat} {l : List Nat} (hl : ∀ qi ∈ l, qi < 9) (h : s.stillEmpty d t) :
    s.stillEmpty d (t.each l fun s qi => (s.setQueue d qi []).each (s.queue d qi) fun s x => s.retreat d qi x) := by
  induction l generalizing t with
  | nil => exact h
  | cons k l ih =>
    refine ih (fun qi hqi => hl qi (List.mem_cons_of_mem _ hqi)) ?_
    dsimp only
    rw [h.queues k (hl k List.mem_cons_self)]
    exact ⟨h.regs, h.fltQ, h.held, h.locWait, h.drains, fun qi hqi => State.queue_setQueue_nil (h.queues qi hqi)⟩

/-- An empty direction has nothing to turn round. -/
theorem State.rewrap_empty {d : Nat} (hq : ∀ qi, qi < 9 → s.queue d qi = []) (hh : s.fwd.held = []) (hl : s.fwd.locWait = []) :
    s.steady (s.rewrap d) ∧ (s.rewrap d).fwd.drains = s.fwd.drains := by
  have hall := State.stillEmpty_each (s := s) (t := s) (d := d) (l := List.range 9) (fun qi h => List.mem_range.1 h) ⟨rfl, rfl, rfl, rfl, rfl, hq⟩
  rw [State.rewrap]
  dsimp only
  generalize s.each (List.range 9) (fun s qi => (s.setQueue d qi []).each (s.queue d qi) fun s x => s.retreat d qi x) = u at hall ⊢
  rw [State.releaseHeld_nil (hall.held.trans hh), State.locPump_nil (hall.locWait.trans hl)]
  exact ⟨(State.steady.refl s).same hall.regs hall.fltQ, hall.drains⟩

end

end Sys2Proof.Machine

/-! The steps of the proof run (R496 to R503). -/
namespace Sys2Proof.Machine

set_option Elab.async false

section
variable {s : State}

/-! ### The result of a step -/

theorem apart_pres {k r : Nat} (hk : k < 6) (hr : r < 6) (h : k ≠ r) : (TST_PRES_RES k).apart (TST_PRES_RES r) = true :=
  (show ∀ k r : Fin 6, k ≠ r → (TST_PRES_RES k).apart (TST_PRES_RES r) = true by decide) ⟨k, hk⟩ ⟨r, hr⟩ (by simpa using h)

/-- What a step leaves with its result: the fault if it has failed, and no other step's result touched. -/
structure State.recorded (s : State) (k r : Nat) (t : State) : Prop where
  res : t.get (TST_PRES_RES (k - 1)) = r
  others : ∀ j, j < 6 → j ≠ k - 1 → t.get (TST_PRES_RES j) = s.get (TST_PRES_RES j)
  passed : r ≠ 2 → s.only [TST_PRES] [] t
  failed : r = 2 → s.roomy → s.sent t 0x17 0x78 k ∧ s.only [TST_PRES] [.fltQ] t
  keeps : ∀ f : Fld, f.off ∉ [TST_PRES, FLT_STAT] → t.get f = s.get f

theorem State.recorded_proofRecord {k r : Nat} (hk : 1 ≤ k) (hk6 : k ≤ 6) (hr : r < 4) : s.recorded k r (s.proofRecord k r) := by
  have hput : s.only [TST_PRES] [] (s.put (TST_PRES_RES (k - 1)) r) := (s.only_refl _ _).put _ (by simp [TST_PRES_RES])
  have hres : (s.put (TST_PRES_RES (k - 1)) r).get (TST_PRES_RES (k - 1)) = r :=
    State.get_put_self _ (by interval_cases k <;> rfl) hr
  have hother (j : Nat) (hj : j < 6) (hne : j ≠ k - 1) : (s.put (TST_PRES_RES (k - 1)) r).get (TST_PRES_RES j) = s.get (TST_PRES_RES j) :=
    State.get_put_apart _ _ (apart_pres hj (by omega) hne)
  rw [State.proofRecord]
  generalize s.put (TST_PRES_RES (k - 1)) r = u at hput hres hother ⊢
  split
  · rename_i h2
    have hfault := State.only_fault (s := u) 0x17 0x78 k
    have hpres (j : Nat) : (u.fault 0x17 0x78 k).get (TST_PRES_RES j) = u.get (TST_PRES_RES j) :=
      hfault.get_eq (show TST_PRES ∉ [FLT_STAT] by decide)
    refine ⟨(hpres _).trans hres, fun j hj hne => (hpres _).trans (hother j hj hne), fun h => absurd h2 h, fun _ hroom => ?_, fun f hf => ?_⟩
    · have hroom' := hput.roomy hroom (by decide) (by decide) (by simp)
      exact ⟨(hroom'.sent_fault 0x17 0x78 k).of_eq (hput.2 .fltQ (by simp)) (by rw [show u.sys = s.sys from hput.2 .sys (by simp)]),
        (hput.mono (by simp) (by simp)).trans ((hroom'.only_fault _ _ _).mono (by simp) (by simp))⟩
    · simp only [List.mem_cons, List.not_mem_nil, or_false, not_or] at hf
      exact (hfault.get_eq (by simpa using hf.2)).trans (hput.get_eq (by simpa using hf.1))
  · rename_i h2
    exact ⟨hres, hother, fun _ => hput, fun h => absurd h h2, fun f hf => hput.get_eq (by simp only [List.mem_cons, not_or] at hf; simpa using hf.1)⟩

/-! ### The steps that follow -/

/-- The run goes on to its last step when the steps between are not asked for. -/
theorem State.proofFrom_six {k : Nat} (n : Nat) (hk : 1 ≤ k) (hn : k + n = 6) (hoff : ∀ i, k ≤ i + 1 → i < 5 → s.getBit TST_PCTL_STEPS i = false)
    (hon : s.getBit TST_PCTL_STEPS 5 = true) : s.proofFrom k (n + 1) = (s.put TST_PSTAT_STEP 6).proofPhase 0 := by
  induction n generalizing k with
  | zero =>
    obtain rfl : k = 6 := by omega
    exact if_pos hon
  | succ n ih =>
    refine (if_neg ?_).trans (ih (k := k + 1) (by omega) (by omega) fun i hi h5 => hoff i (by omega) h5)
    rw [hoff (k - 1) (by omega) (by omega)]
    decide

/-- What the way to the last step leaves. -/
structure State.proofLast (s : State) (k r : Nat) (t : State) : Prop where
  res : t.get (TST_PRES_RES (k - 1)) = r
  step : t.get TST_PSTAT_STEP = 6
  state : t.get TST_PSTAT_STATE = s.get TST_PSTAT_STATE
  passed : r ≠ 2 → s.only [TST_PRES, TST_PSTAT] [.tst] t
  failed : r = 2 → s.roomy → s.sent t 0x17 0x78 k ∧ s.only [TST_PRES, TST_PSTAT] [.tst, .fltQ] t
  keeps : ∀ f : Fld, f.off ∉ [TST_PRES, TST_PSTAT, FLT_STAT] → t.get f = s.get f

theorem State.proofNext_last {k r : Nat} (hk : 1 ≤ k) (hk5 : k ≤ 5) (hr : r < 4) (hoff : ∀ i, k ≤ i → i < 5 → s.getBit TST_PCTL_STEPS i = false)
    (hon : s.getBit TST_PCTL_STEPS 5 = true) : s.proofLast k r (s.proofNext k r) := by
  have hrec := State.recorded_proofRecord (s := s) hk (by omega) hr
  rw [State.proofNext]
  generalize s.proofRecord k r = u at hrec ⊢
  have hpctl (i : Nat) : u.getBit TST_PCTL_STEPS i = s.getBit TST_PCTL_STEPS i := by
    rw [State.getBit, State.getBit, hrec.keeps _ (by decide)]
  rw [show 6 - k = (5 - k) + 1 by omega, State.proofFrom_six (5 - k) (by omega) (by omega) (fun i hi h5 => (hpctl i).trans (hoff i (by omega) h5))
    ((hpctl 5).trans hon)]
  have hstep : (u.put TST_PSTAT_STEP 6).get TST_PSTAT_STEP = 6 := State.get_put_self _ rfl (by decide)
  have hstate : (u.put TST_PSTAT_STEP 6).get TST_PSTAT_STATE = u.get TST_PSTAT_STATE := State.get_put_apart _ _ rfl
  have hput : u.only [TST_PRES, TST_PSTAT] [.tst] (u.put TST_PSTAT_STEP 6) := (u.only_refl _ _).put _ (by decide)
  have hput0 : u.only [TST_PSTAT] [] (u.put TST_PSTAT_STEP 6) := (u.only_refl _ _).put _ (by decide)
  have hq : ((u.put TST_PSTAT_STEP 6).proofPhase 0).fltQ = u.fltQ := State.put_fltQ u TST_PSTAT_STEP 6
  have hphase : (u.put TST_PSTAT_STEP 6).only [] [.tst] ((u.put TST_PSTAT_STEP 6).proofPhase 0) := (State.only_refl _ _ _).with_tst _ (by simp)
  generalize u.put TST_PSTAT_STEP 6 = v at hstep hstate hput hput0 hq hphase ⊢
  generalize v.proofPhase 0 = w at hq hphase ⊢
  have hend := hput.trans (hphase.mono (List.nil_subset _) (List.Subset.refl _))
  have hpres (j : Nat) : w.get (TST_PRES_RES j) = u.get (TST_PRES_RES j) :=
    (hphase.get_eq (by simp)).trans (hput0.get_eq (show TST_PRES ∉ [TST_PSTAT] by decide))
  refine ⟨(hpres _).trans hrec.res, (hphase.get_eq (by simp)).trans hstep, (hphase.get_eq (by simp)).trans (hstate.trans (hrec.keeps _ (by decide))),
    fun h2 => ((hrec.passed h2).mono (by simp) (by simp)).trans hend, fun h2 hroom => ?_, fun f hf => ?_⟩
  · obtain ⟨hsent, honly⟩ := hrec.failed h2 hroom
    exact ⟨hq.trans hsent, (honly.mono (by simp) (by simp)).trans (hend.mono (by simp) (by simp))⟩
  · simp only [List.mem_cons, List.not_mem_nil, or_false, not_or] at hf
    obtain ⟨h1, h2, h3⟩ := hf
    exact (hphase.get_eq (by simp)).trans ((hput0.get_eq (by simpa using h2)).trans (hrec.keeps f (by simp [h1, h3])))

/-- The end of the run. -/
theorem State.proofDone_spec : s.proofDone.get TST_PSTAT_STATE = 2 ∧ s.proofDone.get TST_EVT_DONE = 1 ∧
    ((∃ k, k < 6 ∧ s.get (TST_PRES_RES k) = 2) → s.proofDone.get TST_EVT_FAIL = 1) ∧
    ((∀ k, k < 6 → s.get (TST_PRES_RES k) ≠ 2) → s.proofDone.get TST_EVT_FAIL = s.get TST_EVT_FAIL) ∧
    s.only [TST_PSTAT, TST_EVT] [] s.proofDone := by
  have hst : ((s.put TST_PSTAT_STATE 2).put TST_EVT_DONE 1).get TST_PSTAT_STATE = 2 :=
    (State.get_put_ne _ _ _ _ (by decide)).trans (State.get_put_self _ rfl (by decide))
  have hdone : ((s.put TST_PSTAT_STATE 2).put TST_EVT_DONE 1).get TST_EVT_DONE = 1 := State.get_put_self _ rfl (by decide)
  have hfail : ((s.put TST_PSTAT_STATE 2).put TST_EVT_DONE 1).get TST_EVT_FAIL = s.get TST_EVT_FAIL :=
    (State.get_put_apart _ _ rfl).trans (State.get_put_ne _ _ _ _ (by decide))
  have honly : s.only [TST_PSTAT, TST_EVT] [] ((s.put TST_PSTAT_STATE 2).put TST_EVT_DONE 1) :=
    ((s.only_refl _ _).put _ (by decide)).put _ (by decide)
  have hany : ((List.range 6).any fun k => s.get (TST_PRES_RES k) == 2) = true ↔ ∃ k, k < 6 ∧ s.get (TST_PRES_RES k) = 2 := by
    simp [List.any_eq_true]
  rw [State.proofDone]
  generalize (s.put TST_PSTAT_STATE 2).put TST_EVT_DONE 1 = u at hst hdone hfail honly ⊢
  by_cases h : ∃ k, k < 6 ∧ s.get (TST_PRES_RES k) = 2
  · rw [if_pos (hany.2 h)]
    obtain ⟨k, hk, hk2⟩ := h
    exact ⟨(State.get_put_ne _ _ _ _ (by decide)).trans hst, (State.get_put_apart _ _ rfl).trans hdone,
      fun _ => State.get_put_self _ rfl (by decide), fun hall => absurd hk2 (hall k hk), honly.put _ (by decide)⟩
  · rw [if_neg (mt hany.1 h)]
    exact ⟨hst, hdone, fun hex => absurd hex h, fun _ => hfail, honly⟩

end

end Sys2Proof.Machine

/-! The proof run, the store test and boundary scan (R496 to R506). -/
namespace Sys2Proof.Machine

set_option Elab.async false

section
variable {s : State}

/-! ### The steps -/

theorem exec_contacts (cs : List (BitVec 48 × BitVec 48)) (hr : s.inReset 0x17 = false) (hst : s.get TST_PSTAT_STATE = 1)
    (hk : s.get TST_PSTAT_STEP = 6) {bad : List Nat} (hb : ((List.range 8).filter fun n => s.on (LSV_SCI_CFG_EN n) && s.contactBad n) = bad) :
    exec (.proofStepEnd cs) s = .next ((s.put TST_PFAIL_SCI (bad.foldl (fun a n => a + 2 ^ n) 0)).proofNext 6 (if bad.isEmpty then 1 else 2)) := by
  subst hb
  change execProofStepEnd cs s = _
  rw [execProofStepEnd, if_neg (by simp [hr]), hk]
  exact congrArg Host.Outcome.next (if_neg (by omega))

theorem exec_sweeps (cs : List (BitVec 48 × BitVec 48)) (hr : s.inReset 0x17 = false) (hst : s.get TST_PSTAT_STATE = 1)
    (hk : s.get TST_PSTAT_STEP = 5) (hs : s.tst.swept = 0) :
    exec (.proofStepEnd cs) s = .next ((s.put TST_PFAIL_LINE 0).proofNext 5 1) := by
  change execProofStepEnd cs s = _
  rw [execProofStepEnd, if_neg (by simp [hr]), hk, hs]
  exact congrArg Host.Outcome.next (if_neg (by omega))

theorem exec_sweeps_running (cs : List (BitVec 48 × BitVec 48)) (hr : s.inReset 0x17 = false) (hst : s.get TST_PSTAT_STATE = 1)
    (hk : s.get TST_PSTAT_STEP = 5) (hs : s.tst.swept = 8) (hrun : (s.lsCh 3).sweep ≠ none) :
    exec (.proofStepEnd cs) s = .next s := by
  change execProofStepEnd cs s = _
  rw [execProofStepEnd, if_neg (by simp [hr]), hk, hs]
  refine congrArg Host.Outcome.next ((if_neg (by omega)).trans (if_pos ?_))
  rw [show bitList 8 8 = [3] by decide, List.any_cons]
  simp [Option.isSome_iff_ne_none, hrun]

theorem exec_handEnd (cs : List (BitVec 48 × BitVec 48)) (hr : s.inReset 0x17 = false) (hst : s.get TST_PSTAT_STATE = 1)
    (hk : s.get TST_PSTAT_STEP = 4) : exec (.proofStepEnd cs) s = .next s.handEnd := by
  change execProofStepEnd cs s = _
  rw [execProofStepEnd, if_neg (by simp [hr]), hk]
  exact congrArg Host.Outcome.next (if_neg (by omega))

theorem exec_lanesEnd (cs : List (BitVec 48 × BitVec 48)) (hr : s.inReset 0x17 = false) (hst : s.get TST_PSTAT_STATE = 1)
    (hk : s.get TST_PSTAT_STEP = 1) (hl : s.tst.lanes = 0) : exec (.proofStepEnd cs) s = .next s.lanesEnd := by
  change execProofStepEnd cs s = _
  rw [execProofStepEnd, if_neg (by simp [hr]), hk, hl]
  exact congrArg Host.Outcome.next (if_neg (by omega))

theorem exec_wrap_start (cs : List (BitVec 48 × BitVec 48)) {d : Nat} (hd : d < 2) (hr : s.inReset 0x17 = false) (hst : s.get TST_PSTAT_STATE = 1)
    (hk : s.get TST_PSTAT_STEP = 2 + d) (hp : s.tst.phase = 0) :
    exec (.proofStepEnd cs) s = .next (if s.mayForce then s.forceWrap d else s.proofNext (2 + d) 3) := by
  change execProofStepEnd cs s = _
  rw [execProofStepEnd, if_neg (by simp [hr]), hk, hp]
  refine congrArg Host.Outcome.next ((if_neg (by omega)).trans ?_)
  obtain rfl | rfl : d = 0 ∨ d = 1 := by omega
  · rfl
  · rfl

theorem exec_wrap_end (cs : List (BitVec 48 × BitVec 48)) {d : Nat} (hd : d < 2) (hr : s.inReset 0x17 = false) (hst : s.get TST_PSTAT_STATE = 1)
    (hk : s.get TST_PSTAT_STEP = 2 + d) (hp : s.tst.phase = 1) : exec (.proofStepEnd cs) s = .next (s.forceEnd.proofPhase 2) := by
  change execProofStepEnd cs s = _
  rw [execProofStepEnd, if_neg (by simp [hr]), hk, hp]
  refine congrArg Host.Outcome.next ((if_neg (by omega)).trans ?_)
  obtain rfl | rfl : d = 0 ∨ d = 1 := by omega
  · rfl
  · rfl

theorem exec_wrap_result (cs : List (BitVec 48 × BitVec 48)) (hr : s.inReset 0x17 = false) (hst : s.get TST_PSTAT_STATE = 1)
    (hk : s.get TST_PSTAT_STEP = 2) (hp : s.tst.phase = 2) :
    exec (.proofStepEnd cs) s = .next ((s.wrapResult 0).1.proofNext 2 (s.wrapResult 0).2) := by
  change execProofStepEnd cs s = _
  rw [execProofStepEnd, if_neg (by simp [hr])]
  simp only [hk, hp, hst, ne_eq, not_true_eq_false, if_false, Nat.sub_self]

/-- The number whose bits are the members of a set. -/
theorem testBit_sum_filter (p : Nat → Bool) (n : Nat) : ((List.range n).filter p).foldl (fun a i => a + 2 ^ i) 0 < 2 ^ n ∧
    ∀ i, i < n → (((List.range n).filter p).foldl (fun a i => a + 2 ^ i) 0).testBit i = p i := by
  induction n with
  | zero => exact ⟨Nat.one_pos, fun i hi => absurd hi (by omega)⟩
  | succ n ih =>
    obtain ⟨hlt, hbit⟩ := ih
    rw [List.range_succ, List.filter_append, List.foldl_append]
    generalize ((List.range n).filter p).foldl (fun a i => a + 2 ^ i) 0 = x at hlt hbit ⊢
    have hpow := Nat.pow_succ' (m := 2) (n := n)
    cases hp : p n with
    | false =>
      rw [List.filter_cons_of_neg (by simp [hp]), List.filter_nil, List.foldl_nil]
      refine ⟨by omega, fun i hi => ?_⟩
      obtain h | rfl : i < n ∨ i = n := by omega
      · exact hbit i h
      · rw [hp, Nat.testBit_lt_two_pow hlt]
    | true =>
      rw [List.filter_cons_of_pos hp, List.filter_nil, List.foldl_cons, List.foldl_nil, Nat.add_comm]
      refine ⟨by omega, fun i hi => ?_⟩
      obtain h | rfl : i < n ∨ i = n := by omega
      · rw [Nat.testBit_two_pow_add_gt h]
        exact hbit i h
      · rw [Nat.testBit_two_pow_add_eq, Nat.testBit_lt_two_pow hlt, hp]
        rfl

theorem State.contactBad_fault {n : Nat} (h : s.get (LSV_SCI_STAT_STATE n) = 4) : s.contactBad n = true := by
  rw [State.contactBad, h]
  rfl

/-! ### A forced wrap and a handover -/

theorem State.wrapResult_time {dt : Nat} (h : s.rd64 RED_WRAP_T = s.rd64 RED_LOSS_T + dt) :
    (s.rd64 RED_WRAP_T + 2 ^ 64 - s.rd64 RED_LOSS_T) % 2 ^ 64 = dt := by
  have hlt := s.rd64_lt RED_WRAP_T
  omega

/-- A wrap in time passes when the other direction has stood and both are UP. -/
theorem State.wrapResult_good {dt : Nat} (h : s.rd64 RED_WRAP_T = s.rd64 RED_LOSS_T + dt) (hdt : dt ≤ 5000) (hl : s.tst.lost.testBit 1 = false)
    (h0 : s.dirState 0 = 0) (h1 : s.dirState 1 = 0) : s.wrapResult 0 = (s.put TST_PWRAP_CW dt, 1) := by
  unfold State.wrapResult
  rw [State.wrapResult_time h]
  simp [hdt, hl, h0, h1, show min 65535 dt = dt by omega]

theorem State.wrapResult_late {dt : Nat} (h : s.rd64 RED_WRAP_T = s.rd64 RED_LOSS_T + dt) (hdt : 5000 < dt) (hlt : dt < 65536) :
    s.wrapResult 0 = (s.put TST_PWRAP_CW dt, 2) := by
  unfold State.wrapResult
  rw [State.wrapResult_time h]
  simp [show ¬dt ≤ 5000 by omega, show min 65535 dt = dt by omega]

theorem State.lanesEnd_none (h : s.tst.lanes = 0) : s.lanesEnd = s.lanesStop.proofNext 1 1 := by
  rw [State.lanesEnd, h]
  rfl

/-- The forced wrap is over, and its direction, which is as it should be, waits for its return hold. -/
theorem State.forceEnd_return {d : Nat} (hf : s.tst.force = some d) (hdir : s.dirState d = 1) (hup : s.laneUp d = true)
    (hrf : s.on (LANE_STAT_RF_RX d) = false) (hb : s.blocked d = false) (hdue : Tab.get (fun _ => none) s.red.due d = none)
    (hev : s.red.everUp.testBit d = true) : s.forceEnd = ({ s with tst := { s.tst with force := none } } : State).setDir d 2 := by
  have hok : ({ s with tst := { s.tst with force := none } } : State).dirOk d = true := by
    show (s.laneUp d && !s.on (LANE_STAT_RF_RX d) && !s.blocked d && true) = true
    rw [hup, hrf, hb]
    rfl
  have hdue' : ({ s with tst := { s.tst with force := none } } : State).lossDue d = none := hdue
  have hdir' : ({ s with tst := { s.tst with force := none } } : State).dirState d = 1 := hdir
  have hev' : ({ s with tst := { s.tst with force := none } } : State).red.everUp.testBit d = true := hev
  rw [State.forceEnd, hf]
  dsimp only
  generalize ({ s with tst := { s.tst with force := none } } : State) = u at hok hdue' hdir' hev' ⊢
  rw [State.dirRight, hdir']
  exact (if_neg (by simp [hok, hdue'])).trans (if_pos hev')

theorem State.setDir_spec {d v : Nat} (hd : d < 2) (hv : v < 4) : (s.setDir d v).dirState d = v ∧ s.only [RED_STAT] [] (s.setDir d v) := by
  obtain rfl | rfl : d = 0 ∨ d = 1 := by omega
  · exact ⟨State.get_put_self _ rfl hv, (s.only_refl _ _).put _ (by decide)⟩
  · exact ⟨State.get_put_self _ rfl hv, (s.only_refl _ _).put _ (by decide)⟩

/-- A direction's loss as its registers show it, before its fault. -/
def State.lossShown (s : State) (d cause : Nat) : State :=
  ((((s.put RED_LOSS_LOG_DIR d).put RED_LOSS_LOG_CAUSE cause).wr64 RED_LOSS_T s.now).put RED_EVT_LOSS 1).bump (RED_CNT 9)

theorem State.lossShown_spec {d cause : Nat} (hd : d < 2) (hc : cause < 256) : (s.lossShown d cause).get RED_LOSS_LOG_DIR = d ∧
    (s.lossShown d cause).get RED_LOSS_LOG_CAUSE = cause ∧
    s.only [RED_LOSS_LOG, RED_LOSS_T, RED_LOSS_T + 4, RED_EVT] [.live] (s.lossShown d cause) := by
  have hdir : ((s.put RED_LOSS_LOG_DIR d).put RED_LOSS_LOG_CAUSE cause).get RED_LOSS_LOG_DIR = d :=
    (State.get_put_apart _ _ rfl).trans (State.get_put_self _ rfl hd)
  have hcause : ((s.put RED_LOSS_LOG_DIR d).put RED_LOSS_LOG_CAUSE cause).get RED_LOSS_LOG_CAUSE = cause := State.get_put_self _ rfl hc
  have hlog : s.only [RED_LOSS_LOG] [] ((s.put RED_LOSS_LOG_DIR d).put RED_LOSS_LOG_CAUSE cause) := ((s.only_refl _ _).put _ (by decide)).put _ (by decide)
  rw [State.lossShown]
  generalize (s.put RED_LOSS_LOG_DIR d).put RED_LOSS_LOG_CAUSE cause = u at hdir hcause hlog ⊢
  have htime : u.only [RED_LOSS_T, RED_LOSS_T + 4, RED_EVT] [.live] (((u.wr64 RED_LOSS_T s.now).put RED_EVT_LOSS 1).bump (RED_CNT 9)) := by
    have hput : u.only [RED_LOSS_T, RED_LOSS_T + 4, RED_EVT] [.live] ((u.wr64 RED_LOSS_T s.now).put RED_EVT_LOSS 1) :=
      ((u.only_refl _ _).wr64 _ (by decide) (by decide)).put _ (by decide)
    exact hput.trans (State.only_count _ _ 1 (by simp) fun f hf => by
      obtain rfl := Option.some.inj hf
      exact ⟨by decide, fun h => absurd h (by decide)⟩)
  exact ⟨(htime.get_eq (by decide)).trans hdir, (htime.get_eq (by decide)).trans hcause, (hlog.mono (by simp) (by simp)).trans (htime.mono (by simp) (by simp))⟩

/-- The direction's state behind RED at its loss. -/
def State.lossNoted (s : State) (d : Nat) : State :=
  { s with
    tst := { s.tst with lost := setBitTo s.tst.lost d true }
    red := { s.red with
      due := Tab.set (fun _ => none) s.red.due d none
      epoch := (s.red.epoch + 1) % 65536
      unwrap := setBitTo s.red.unwrap d false
      wrapping := setBitTo s.red.wrapping d true } }

/-- The gap window opens and the direction is LOST. -/
def State.lossOpened (s : State) (d : Nat) : State :=
  ((s.openGap d).put RED_STAT_UNWRAP (b2n (s.red.unwrap != 0))).setDir d 1

theorem State.lossOpened_spec {d : Nat} (hd : d < 2) : (s.lossOpened d).dirState d = 1 ∧ s.only [RED_STAT] [.red] (s.lossOpened d) := by
  have hgap : s.only [RED_STAT] [.red] (s.openGap d) := by
    rw [State.openGap]
    split
    · exact (((s.only_refl _ _).with_red _ (by simp)).with_red _ (by simp)).put _ (by decide)
    · exact ((s.only_refl _ _).with_red _ (by simp)).put _ (by decide)
  rw [State.lossOpened]
  generalize s.openGap d = u at hgap ⊢
  have hput := hgap.put (f := RED_STAT_UNWRAP) (b2n (s.red.unwrap != 0)) (by decide)
  obtain ⟨hst, hset⟩ := State.setDir_spec (s := u.put RED_STAT_UNWRAP (b2n (s.red.unwrap != 0))) (v := 1) hd (by decide)
  exact ⟨hst, hput.trans (hset.mono (by simp) (by simp))⟩

/-- The rest of a direction's loss. -/
def State.lossWrapped (s : State) (d : Nat) : State := ((s.rewrap d).setReach d 0).sendRed 1 d (1 - d)

theorem State.declareLost_eq (d : Nat) : s.declareLost d 7 =
    (((((s.lossShown d 7).fault 0x0E 0x40 (7 + 2 ^ 8 * d)).lossNoted d).lossOpened d).lossWrapped d).dirRight d := rfl

theorem State.lossNoted_force (d : Nat) : (s.lossNoted d).tst.force = s.tst.force ∧ (s.lossNoted d).tst.phase = s.tst.phase ∧
    s.only [] [.tst, .red] (s.lossNoted d) := by
  refine ⟨rfl, rfl, ?_⟩
  rw [State.lossNoted]
  generalize ({ s.tst with lost := setBitTo s.tst.lost d true } : TstSt) = x
  generalize ({ s.red with due := _, epoch := _, unwrap := _, wrapping := _ } : RedSt) = y
  exact State.only.with_red (State.only.with_tst (s.only_refl [] [.tst, .red]) x (by simp)) y (by simp)

/-- What the rest leaves of a direction on which nothing waits. -/
theorem State.lossWrapped_spec {d : Nat} (hd : d < 2) (hq : ∀ qi, qi < 9 → s.queue d qi = []) (hh : s.fwd.held = []) (hl : s.fwd.locWait = [])
    (hdr : s.fwd.drains = []) : s.steady (s.lossWrapped d) ∧ (s.lossWrapped d).tst = s.tst := by
  obtain ⟨hwrap, hdrains⟩ := State.rewrap_empty hq hh hl
  have htst : (s.rewrap d).tst = s.tst := (s.rewrap_foot d).tst rfl
  rw [State.lossWrapped]
  generalize s.rewrap d = u at hwrap hdrains htst ⊢
  exact ⟨(hwrap.trans (State.steady_setReach d 0 (hdrains.trans hdr))).trans (State.steady_sendRed 1 d (by omega)),
    (((u.setReach d 0).sendRed_foot 1 d (1 - d)).tst rfl).trans (((u.setReach_foot d 0).tst rfl).trans htst)⟩

/-- A forced wrap starts: the direction counts as lost, its loss is logged and reported, and it stays so (R498). -/
theorem State.forceWrap_spec {d : Nat} (hd : d < 2) (hroom : s.roomy) (hq : ∀ qi, qi < 9 → s.queue d qi = []) (hh : s.fwd.held = [])
    (hl : s.fwd.locWait = []) (hdr : s.fwd.drains = []) : (s.forceWrap d).tst.force = some d ∧ (s.forceWrap d).tst.phase = 1 ∧
    (s.forceWrap d).dirState d = 1 ∧ (s.forceWrap d).get RED_LOSS_LOG_CAUSE = 0x07 ∧ (s.forceWrap d).get RED_LOSS_LOG_DIR = d ∧
    s.sent (s.forceWrap d) 0x0E 0x40 (7 + 2 ^ 8 * d) ∧ (s.forceWrap d).get TST_PSTAT_STEP = s.get TST_PSTAT_STEP := by
  have hbegin : s.only [] [.tst] { s with tst := { s.tst with phase := 1, force := some d, lost := 0 } } := (s.only_refl _ _).with_tst _ (by simp)
  have hforce : ({ s with tst := { s.tst with phase := 1, force := some d, lost := 0 } } : State).tst.force = some d := rfl
  have hphase : ({ s with tst := { s.tst with phase := 1, force := some d, lost := 0 } } : State).tst.phase = 1 := rfl
  rw [State.forceWrap, State.declareLost_eq]
  generalize ({ s with tst := { s.tst with phase := 1, force := some d, lost := 0 } } : State) = u at hbegin hforce hphase ⊢
  obtain ⟨hdir, hcause, hshown⟩ := u.lossShown_spec (cause := 7) hd (by decide)
  have h1 := (hbegin.mono (ps' := [.tst, .live]) (List.nil_subset _) (by simp)).trans (hshown.mono (List.Subset.refl _) (by simp))
  have htst1 : (u.lossShown d 7).tst = u.tst := hshown.2 .tst (by simp)
  generalize u.lossShown d 7 = v at hdir hcause hshown h1 htst1 ⊢
  have hroom' := h1.roomy hroom (by decide) (by decide) (by simp)
  have hsent := (hroom'.sent_fault 0x0E 0x40 (7 + 2 ^ 8 * d)).of_eq (s := s) (h1.2 .fltQ (by simp)) (by rw [show v.sys = s.sys from h1.2 .sys (by simp)])
  have hfault := hroom'.only_fault 0x0E 0x40 (7 + 2 ^ 8 * d)
  have h2 := (h1.mono (ps' := [.tst, .live, .fltQ]) (List.Subset.refl _) (by simp)).trans (hfault.mono (List.nil_subset _) (by simp))
  have hdir2 := (hfault.get_eq (f := RED_LOSS_LOG_DIR) (by decide)).trans hdir
  have hcause2 := (hfault.get_eq (f := RED_LOSS_LOG_CAUSE) (by decide)).trans hcause
  have htst2 : (v.fault 0x0E 0x40 (7 + 2 ^ 8 * d)).tst = v.tst := hfault.2 .tst (by simp)
  rw [State.sent] at hsent ⊢
  generalize v.fault 0x0E 0x40 (7 + 2 ^ 8 * d) = w at hsent h2 hdir2 hcause2 htst2 ⊢
  obtain ⟨hforce3, hphase3, hnoted⟩ := w.lossNoted_force d
  rw [htst2, htst1] at hforce3 hphase3
  have hq3 : (w.lossNoted d).fltQ = w.fltQ := hnoted.2 .fltQ (by simp)
  have h3 := (h2.mono (ps' := [.tst, .live, .fltQ, .red]) (List.Subset.refl _) (by simp)).trans (hnoted.mono (List.nil_subset _) (by simp))
  have hdir3 := (hnoted.get_eq (f := RED_LOSS_LOG_DIR) (by simp)).trans hdir2
  have hcause3 := (hnoted.get_eq (f := RED_LOSS_LOG_CAUSE) (by simp)).trans hcause2
  generalize w.lossNoted d = x at hforce3 hphase3 hq3 h3 hdir3 hcause3 ⊢
  obtain ⟨hst, hopen⟩ := x.lossOpened_spec hd
  have hfwd : (x.lossOpened d).fwd = s.fwd := (hopen.2 .fwd (by simp)).trans (h3.2 .fwd (by simp))
  have htst4 : (x.lossOpened d).tst = x.tst := hopen.2 .tst (by simp)
  have hq4 : (x.lossOpened d).fltQ = x.fltQ := hopen.2 .fltQ (by simp)
  have hdir4 := (hopen.get_eq (f := RED_LOSS_LOG_DIR) (by decide)).trans hdir3
  have hcause4 := (hopen.get_eq (f := RED_LOSS_LOG_CAUSE) (by decide)).trans hcause3
  have hstep4 := (hopen.get_eq (f := TST_PSTAT_STEP) (by decide)).trans (h3.get_eq (by decide))
  generalize x.lossOpened d = y at hst hfwd htst4 hq4 hdir4 hcause4 hstep4 ⊢
  obtain ⟨hsteady, htst5⟩ := State.lossWrapped_spec (s := y) hd (fun qi h => by rw [State.queue, hfwd]; exact hq qi h) (by rw [hfwd]; exact hh)
    (by rw [hfwd]; exact hl) (by rw [hfwd]; exact hdr)
  have hst5 : (y.lossWrapped d).dirState d = 1 := by
    obtain rfl | rfl : d = 0 ∨ d = 1 := by omega
    · exact (hsteady.get_eq (f := RED_STAT_CW) (by decide)).trans hst
    · exact (hsteady.get_eq (f := RED_STAT_CCW) (by decide)).trans hst
  have hdir5 := (hsteady.get_eq (f := RED_LOSS_LOG_DIR) (by decide)).trans hdir4
  have hcause5 := (hsteady.get_eq (f := RED_LOSS_LOG_CAUSE) (by decide)).trans hcause4
  have hstep5 := (hsteady.get_eq (f := TST_PSTAT_STEP) (by decide)).trans hstep4
  have hq5 := hsteady.fltQ
  generalize y.lossWrapped d = z at htst5 hst5 hdir5 hcause5 hstep5 hq5 ⊢
  have hforce5 : z.tst.force = some d := by rw [htst5, htst4, hforce3, hforce]
  have hstay : z.dirRight d = z := by
    have hok : z.dirOk d = false := by rw [State.dirOk, hforce5]; simp
    rw [State.dirRight, hst5]
    exact if_pos (by simp [hok])
  rw [hstay]
  exact ⟨hforce5, by rw [htst5, htst4, hphase3, hphase], hst5, hcause5, hdir5, by rw [hq5, hq4, hq3]; exact hsent, hstep5⟩

/-! ### The store test -/

theorem State.mbistStart_spec (hi : s.idling 0x17 = false) : s.mbistStart.tst = { s.tst with mbist := true } ∧
    s.mbistStart.get TST_FTCTL_MBIST_DONE = 0 ∧ s.mbistStart.get TST_FTCTL_MBIST_FAIL = 0 ∧ s.mbistStart.get MSA_STAT_INIT_DONE = 0 ∧
    s.only [TST_FTCTL, MSA_STAT] [.tst] s.mbistStart := by
  have honly : s.only [TST_FTCTL, MSA_STAT] [.tst] (((s.put TST_FTCTL_MBIST_DONE 0).put TST_FTCTL_MBIST_FAIL 0).put MSA_STAT_INIT_DONE 0) :=
    (((s.only_refl _ _).put _ (by decide)).put _ (by decide)).put _ (by decide)
  have htst : (((s.put TST_FTCTL_MBIST_DONE 0).put TST_FTCTL_MBIST_FAIL 0).put MSA_STAT_INIT_DONE 0).tst = s.tst := by
    rw [State.put_tst, State.put_tst, State.put_tst]
  have hdone : (((s.put TST_FTCTL_MBIST_DONE 0).put TST_FTCTL_MBIST_FAIL 0).put MSA_STAT_INIT_DONE 0).get TST_FTCTL_MBIST_DONE = 0 := by
    rw [State.get_put_ne _ _ _ _ (by decide), State.get_put_apart _ _ rfl, State.get_put_self _ rfl (by decide)]
  have hfail : (((s.put TST_FTCTL_MBIST_DONE 0).put TST_FTCTL_MBIST_FAIL 0).put MSA_STAT_INIT_DONE 0).get TST_FTCTL_MBIST_FAIL = 0 := by
    rw [State.get_put_ne _ _ _ _ (by decide), State.get_put_self _ rfl (by decide)]
  have hinit : (((s.put TST_FTCTL_MBIST_DONE 0).put TST_FTCTL_MBIST_FAIL 0).put MSA_STAT_INIT_DONE 0).get MSA_STAT_INIT_DONE = 0 :=
    State.get_put_self _ rfl (by decide)
  rw [State.mbistStart, if_neg (by simp [hi])]
  generalize ((s.put TST_FTCTL_MBIST_DONE 0).put TST_FTCTL_MBIST_FAIL 0).put MSA_STAT_INIT_DONE 0 = u at honly htst hdone hfail hinit ⊢
  have hwith := (u.only_refl [] [.tst]).with_tst { u.tst with mbist := true } (by simp)
  refine ⟨?_, (hwith.get_eq (by simp)).trans hdone, (hwith.get_eq (by simp)).trans hfail, (hwith.get_eq (by simp)).trans hinit,
    honly.with_tst _ (by simp)⟩
  rw [← htst]

/-- The store zeroed, and the result shown. -/
def State.mbistShown (s : State) (faulty : Bool) : State :=
  let s1 := ((s.zeroBanks 0xFFFF).put MSA_STAT_INIT_DONE 1).put TST_FTCTL_MBIST_DONE 1
  if faulty then s1.put TST_FTCTL_MBIST_FAIL 1 else s1

theorem State.mbistShown_spec (faulty : Bool) : (s.mbistShown faulty).get TST_FTCTL_MBIST_DONE = 1 ∧
    (faulty = true → (s.mbistShown faulty).get TST_FTCTL_MBIST_FAIL = 1) ∧ (s.mbistShown faulty).get MSA_STAT_INIT_DONE = 1 ∧
    (s.mbistShown faulty).mem = (s.zeroBanks 0xFFFF).mem ∧ (s.mbistShown faulty).store.wait = s.store.wait ∧
    s.only [TST_FTCTL, MSA_STAT] [.mem, .store] (s.mbistShown faulty) := by
  have hzero : s.only [TST_FTCTL, MSA_STAT] [.mem, .store] (s.zeroBanks 0xFFFF) := (s.zeroBanks_foot 0xFFFF).only rfl rfl _
  have hinit : (((s.zeroBanks 0xFFFF).put MSA_STAT_INIT_DONE 1).put TST_FTCTL_MBIST_DONE 1).get MSA_STAT_INIT_DONE = 1 :=
    (State.get_put_ne _ _ _ _ (by decide)).trans (State.get_put_self _ rfl (by decide))
  have hdone : (((s.zeroBanks 0xFFFF).put MSA_STAT_INIT_DONE 1).put TST_FTCTL_MBIST_DONE 1).get TST_FTCTL_MBIST_DONE = 1 :=
    State.get_put_self _ rfl (by decide)
  have hmem : (((s.zeroBanks 0xFFFF).put MSA_STAT_INIT_DONE 1).put TST_FTCTL_MBIST_DONE 1).mem = (s.zeroBanks 0xFFFF).mem := by
    rw [State.put_mem, State.put_mem]
  have hwait : (((s.zeroBanks 0xFFFF).put MSA_STAT_INIT_DONE 1).put TST_FTCTL_MBIST_DONE 1).store.wait = s.store.wait := by
    rw [State.put_store, State.put_store]
    rfl
  have honly := (hzero.put (f := MSA_STAT_INIT_DONE) 1 (by decide)).put (f := TST_FTCTL_MBIST_DONE) 1 (by decide)
  rw [State.mbistShown]
  generalize ((s.zeroBanks 0xFFFF).put MSA_STAT_INIT_DONE 1).put TST_FTCTL_MBIST_DONE 1 = u at hinit hdone hmem hwait honly ⊢
  cases faulty with
  | false => exact ⟨hdone, fun h => absurd h (by decide), hinit, hmem, hwait, honly⟩
  | true =>
    exact ⟨(State.get_put_apart _ _ rfl).trans hdone, fun _ => State.get_put_self _ rfl (by decide), (State.get_put_ne _ _ _ _ (by decide)).trans hinit,
      (State.put_mem _ _ _).trans hmem, by rw [← hwait]; exact congrArg StoreSt.wait (State.put_store _ _ _), honly.put _ (by decide)⟩

/-- The test is over. -/
def State.mbistEnd (s : State) (faulty : Bool) : State :=
  { s.mbistShown faulty with tst := { (s.mbistShown faulty).tst with mbist := false } }

theorem State.mbistEnd_spec (faulty : Bool) : (s.mbistEnd faulty).tst = { s.tst with mbist := false } ∧
    (s.mbistEnd faulty).get TST_FTCTL_MBIST_DONE = 1 ∧ (faulty = true → (s.mbistEnd faulty).get TST_FTCTL_MBIST_FAIL = 1) ∧
    (s.mbistEnd faulty).get MSA_STAT_INIT_DONE = 1 ∧ (∀ a, a < storeSize → (s.mbistEnd faulty).byte a = 0#8) ∧
    (s.mbistEnd faulty).store.wait = s.store.wait ∧ s.only [TST_FTCTL, MSA_STAT] [.tst, .mem, .store] (s.mbistEnd faulty) := by
  obtain ⟨hdone, hfail, hinit, hmem, hwait, honly⟩ := s.mbistShown_spec faulty
  have htst : (s.mbistShown faulty).tst = s.tst := honly.2 .tst (by simp)
  rw [State.mbistEnd]
  generalize s.mbistShown faulty = u at hdone hfail hinit hmem hwait honly htst ⊢
  have hwith := (u.only_refl [] [.tst]).with_tst { u.tst with mbist := false } (by simp)
  refine ⟨by rw [← htst], (hwith.get_eq (by simp)).trans hdone, fun h => (hwith.get_eq (by simp)).trans (hfail h), (hwith.get_eq (by simp)).trans hinit,
    fun a ha => ?_, hwait, (honly.mono (by simp) (by simp)).with_tst _ (by simp)⟩
  have hbyte : Tab.get memDefault u.mem a = (s.zeroBanks 0xFFFF).byte a := by rw [hmem, State.byte]
  have hbank : bankOf a < 16 := by
    rw [bankOf]
    rw [storeSize] at ha
    omega
  rw [State.byte_zeroBanks, if_pos] at hbyte
  · exact hbyte
  · generalize bankOf a = b at hbank
    interval_cases b <;> rfl

theorem exec_mbistDone (faulty : Bool) (hd : s.dark = false) (hm : s.tst.mbist = true) (hw : s.store.wait = []) :
    exec (.mbistDone faulty) s = .next (s.mbistEnd faulty) := by
  change execMbistDone faulty s = _
  rw [execMbistDone, if_neg (by simp [hd]), if_pos hm]
  have hserve : (s.mbistEnd faulty).serve = s.mbistEnd faulty := by
    rw [State.serve, (s.mbistEnd_spec faulty).2.2.2.2.2.1, hw]
    rfl
  exact congrArg Host.Outcome.next hserve

/-! ### JTAG (R504) -/

theorem State.pioBall_pad {i : Nat} (h : s.tst.ir = i) (hi : i < 3) (p : Nat) : s.pioBall p = s.pad p := by
  rw [State.pioBall, State.scanDrives, h, if_neg (by omega), if_neg]
  simp
  omega

/-- A cell that drives its ball, under EXTEST and CLAMP. -/
theorem State.pioBall_driven {p : Nat} {lvl : Bool} (h : s.tst.ir = 3 ∨ s.tst.ir = 5)
    (hc : Tab.get (fun _ => (false, false)) s.tst.cells p = (lvl, true)) :
    s.pioBall p = if s.on MPC_MODE_FTEST || !s.anchored p then some lvl else none := by
  have hdrive : s.scanDrives = true := by
    rw [State.scanDrives]
    obtain h | h := h
    · rw [h]
      rfl
    · rw [h]
      rfl
  rw [State.pioBall, if_neg (by omega), if_pos hdrive, hc]
  simp only [Bool.true_and]

theorem State.anchorBall_scan (h : s.tst.ir = 3) (hf : s.on MPC_MODE_FTEST = false) : s.anchorBall = some false := by
  have hdrive : s.scanDrives = true := by
    rw [State.scanDrives, h]
    rfl
  rw [State.anchorBall, if_neg (by omega), if_pos hdrive, if_pos (by simp [hf])]

theorem State.only_jtag (ir : Nat) : s.only [] [.tst] (s.jtag ir) := (s.only_refl _ _).with_tst _ (by simp)

/-- EXTEST with one cell that drives. -/
theorem State.cellsPut_one (cell : Fin 96) (v : Bool × Bool) (k : Nat) : Tab.get (fun _ => (false, false)) (s.cellsPut [(cell, v)]).tst.cells k =
    if k = cell.val then v else Tab.get (fun _ => (false, false)) s.tst.cells k := by
  show Tab.get (fun _ => (false, false)) (Tab.set (fun _ => (false, false)) s.tst.cells cell.val v) k = _
  rw [Tab.get_set]

end

/-- Settles O49. -/
theorem proofRunAndScan : Obligations.ProofRunAndScan := by
  unfold Obligations.ProofRunAndScan
  refine ⟨?_, ?_, ?_, ?_, ?_, ?_, ?_, ?_, ?_, ?_, ?_, ?_, ?_, ?_, ?_, ?_, ?_, ?_, ?_, ?_, ?_, ?_, ?_, ?_, ?_, ?_, ?_⟩
  · intro cs s hr hst
    have hexec : exec (.proofStepEnd cs) s = .next s := by
      change execProofStepEnd cs s = _
      rw [execProofStepEnd, if_neg (by simp [hr])]
      exact congrArg Host.Outcome.next (if_pos hst)
    exact ⟨s, hexec, s.only_refl _ _⟩
  · intro cs s hr hst hk hgood hres
    have hbad : ((List.range 8).filter fun n => s.on (LSV_SCI_CFG_EN n) && s.contactBad n) = [] := by
      rw [List.filter_eq_nil_iff]
      intro n hn hbad
      simp only [Bool.and_eq_true] at hbad
      rw [hgood n (List.mem_range.1 hn) hbad.1] at hbad
      exact absurd hbad.2 (by decide)
    have hexec := exec_contacts cs hr hst hk hbad
    have hput : s.only [TST_PFAIL] [] (s.put TST_PFAIL_SCI 0) := (s.only_refl _ _).put _ (by decide)
    have hsci : (s.put TST_PFAIL_SCI 0).get TST_PFAIL_SCI = 0 := State.get_put_self _ rfl (by decide)
    have hres' (k : Nat) : (s.put TST_PFAIL_SCI 0).get (TST_PRES_RES k) = s.get (TST_PRES_RES k) := hput.get_eq (show TST_PRES ∉ [TST_PFAIL] by decide)
    rw [show List.foldl (fun a n => a + 2 ^ n) 0 ([] : List Nat) = 0 from rfl, show (if ([] : List Nat).isEmpty = true then 1 else 2) = 1 from rfl] at hexec
    generalize s.put TST_PFAIL_SCI 0 = u at hexec hput hsci hres'
    have hrec := State.recorded_proofRecord (s := u) (k := 6) (r := 1) (by decide) (by decide) (by decide)
    change exec (.proofStepEnd cs) s = .next (u.proofRecord 6 1).proofDone at hexec
    have honly := hput.mono (os' := [TST_PRES, TST_PFAIL, TST_PSTAT, TST_EVT]) (ps' := []) (by simp) (by simp) |>.trans
      ((hrec.passed (by decide)).mono (by simp) (by simp))
    have hsci' := (hrec.keeps TST_PFAIL_SCI (by decide)).trans hsci
    have hfail := hrec.keeps TST_EVT_FAIL (by decide)
    have hself := hrec.res
    have hothers (k : Nat) (hk6 : k < 6) : (u.proofRecord 6 1).get (TST_PRES_RES k) ≠ 2 := by
      by_cases h5 : k = 5
      · rw [h5, hself]
        decide
      · rw [hrec.others k hk6 h5, hres' k]
        exact hres k (by omega)
    generalize u.proofRecord 6 1 = v at hexec honly hsci' hfail hself hothers
    obtain ⟨h2, hdone, -, hkeep, hend⟩ := v.proofDone_spec
    exact ⟨_, hexec, (hend.get_eq (show TST_PRES ∉ [TST_PSTAT, TST_EVT] by decide)).trans hself, (hend.get_eq (by decide)).trans hsci', h2, hdone,
      (hkeep hothers).trans (hfail.trans (hput.get_eq (by decide))), honly.trans (hend.mono (by simp) (by simp))⟩
  · intro cs n s hr hst hk hroom hen hfault
    obtain ⟨hlt, hbit⟩ := testBit_sum_filter (fun n => s.on (LSV_SCI_CFG_EN n) && s.contactBad n) 8
    have hexec := exec_contacts cs hr hst hk rfl
    have hmem : n.val ∈ (List.range 8).filter fun n => s.on (LSV_SCI_CFG_EN n) && s.contactBad n :=
      List.mem_filter.2 ⟨List.mem_range.2 n.isLt, by rw [hen, State.contactBad_fault hfault]; rfl⟩
    have hset := hbit n n.isLt
    rw [hen, State.contactBad_fault hfault] at hset
    generalize ((List.range 8).filter fun n => s.on (LSV_SCI_CFG_EN n) && s.contactBad n) = bad at hlt hset hexec hmem
    rw [if_neg (by rw [List.isEmpty_iff]; exact List.ne_nil_of_mem hmem)] at hexec
    have hput : s.only [TST_PFAIL] [] (s.put TST_PFAIL_SCI (bad.foldl (fun a n => a + 2 ^ n) 0)) := (s.only_refl _ _).put _ (by decide)
    have hsci : (s.put TST_PFAIL_SCI (bad.foldl (fun a n => a + 2 ^ n) 0)).get TST_PFAIL_SCI = bad.foldl (fun a n => a + 2 ^ n) 0 :=
      State.get_put_self _ rfl hlt
    generalize s.put TST_PFAIL_SCI (bad.foldl (fun a n => a + 2 ^ n) 0) = u at hexec hput hsci
    have hrec := State.recorded_proofRecord (s := u) (k := 6) (r := 2) (by decide) (by decide) (by decide)
    change exec (.proofStepEnd cs) s = .next (u.proofRecord 6 2).proofDone at hexec
    obtain ⟨hsent, honly⟩ := hrec.failed rfl (hput.roomy hroom (by decide) (by decide) (by simp))
    have hsent' := hsent.of_eq (hput.2 .fltQ (by simp)) (by rw [show u.sys = s.sys from hput.2 .sys (by simp)])
    have hall := (hput.mono (os' := [TST_PRES, TST_PFAIL, TST_PSTAT, TST_EVT]) (ps' := [.fltQ]) (by simp) (by simp)).trans
      (honly.mono (by simp) (by simp))
    have hsci' := (hrec.keeps TST_PFAIL_SCI (by decide)).trans hsci
    have hself := hrec.res
    generalize u.proofRecord 6 2 = v at hexec hall hsci' hself hsent'
    obtain ⟨h2, hdone, hfail, -, hend⟩ := v.proofDone_spec
    refine ⟨_, hexec, (hend.get_eq (show TST_PRES ∉ [TST_PSTAT, TST_EVT] by decide)).trans hself, ?_, h2, hdone, hfail ⟨5, by decide, hself⟩,
      (hend.2 .fltQ (by simp)).trans hsent', hall.trans (hend.mono (by simp) (by simp))⟩
    rw [State.getBit, hend.get_eq (by decide), hsci']
    exact hset
  · intro cs s hr hst hk hs hbit
    have hexec := exec_sweeps cs hr hst hk hs
    have hput : s.only [TST_PFAIL] [] (s.put TST_PFAIL_LINE 0) := (s.only_refl _ _).put _ (by decide)
    have hline : (s.put TST_PFAIL_LINE 0).get TST_PFAIL_LINE = 0 := State.get_put_self _ rfl (by decide)
    generalize s.put TST_PFAIL_LINE 0 = u at hexec hput hline
    have hlast := State.proofNext_last (s := u) (k := 5) (r := 1) (by decide) (by decide) (by decide) (fun i hi h5 => by omega)
      (by rw [State.getBit, hput.get_eq (by decide)]; exact hbit)
    exact ⟨_, hexec, hlast.res, (hlast.keeps _ (by decide)).trans hline, hlast.step, hlast.state.trans ((hput.get_eq (by decide)).trans hst),
      (hput.mono (by simp) (by simp)).trans ((hlast.passed (by decide)).mono (by simp) (by simp))⟩
  · intro cs s hr hst hk hrun hs
    exact ⟨s, exec_sweeps_running cs hr hst hk hs hrun, s.only_refl _ _⟩
  · intro cs d s hr hst hk hp hmay hb hb3 hb4 hb5
    have hexec := exec_wrap_start cs d.isLt hr hst hk hp
    rw [hmay] at hexec
    have hoff (i : Nat) (hi : 2 + d.val ≤ i) (h5 : i < 5) : s.getBit TST_PCTL_STEPS i = false := by
      obtain rfl | rfl | rfl : i = 2 + d.val ∨ i = 3 ∨ i = 4 := by omega
      · exact hb
      · exact hb3
      · exact hb4
    have hlast := State.proofNext_last (s := s) (k := 2 + d.val) (r := 3) (by omega) (by omega) (by decide) hoff hb5
    have hres := hlast.res
    rw [show 2 + d.val - 1 = 1 + d.val by omega] at hres
    exact ⟨_, hexec, hres, hlast.step, hlast.state.trans hst, hlast.passed (by decide)⟩
  · intro cs d s hr hst hk hp hmay hroom _ hq hh hl hdr _
    have hexec := exec_wrap_start cs d.isLt hr hst hk hp
    rw [if_pos hmay] at hexec
    have hmem : (s.forceWrap d.val).mem = s.mem := (s.forceWrap_foot d.val).mem rfl
    obtain ⟨h1, h2, h3, h4, h5, h6, h7⟩ := State.forceWrap_spec d.isLt hroom hq hh hl hdr
    exact ⟨_, hexec, h1, h2, h3, h4, h5, h6, h7.trans hk, hmem⟩
  · intro cs d s hr hst hk hp hf hdir hup hrf hb hdue hev
    have hexec := exec_wrap_end cs d.isLt hr hst hk hp
    rw [State.forceEnd_return hf hdir hup hrf hb hdue hev] at hexec
    have hwith : s.only [RED_STAT] [.tst] { s with tst := { s.tst with force := none } } := (s.only_refl _ _).with_tst _ (by simp)
    have hforce : ({ s with tst := { s.tst with force := none } } : State).tst.force = none := rfl
    generalize ({ s with tst := { s.tst with force := none } } : State) = u at hexec hwith hforce
    obtain ⟨hset, honly⟩ := State.setDir_spec (s := u) (v := 2) d.isLt (by decide)
    have htst : (u.setDir d.val 2).tst = u.tst := honly.2 .tst (by simp)
    have hall := hwith.trans (honly.mono (List.Subset.refl _) (List.nil_subset _))
    rw [← htst] at hforce
    generalize u.setDir d.val 2 = v at hexec hforce hset hall
    exact ⟨_, hexec, hforce, rfl, hset, hall.with_tst _ (by simp)⟩
  · intro cs dt s hr hst hk hp ht hdt hl h0 h1 hsteps
    have hexec := exec_wrap_result cs hr hst hk hp
    rw [State.wrapResult_good ht hdt hl h0 h1] at hexec
    have hput : s.only [TST_PWRAP] [] (s.put TST_PWRAP_CW dt) := (s.only_refl _ _).put _ (by decide)
    have hcw : (s.put TST_PWRAP_CW dt).get TST_PWRAP_CW = dt := State.get_put_self _ rfl (show dt < 2 ^ 16 by omega)
    dsimp only at hexec
    generalize s.put TST_PWRAP_CW dt = u at hexec hput hcw
    have hbits (i : Nat) : u.getBit TST_PCTL_STEPS i = (0x22 : Nat).testBit i := by rw [State.getBit, hput.get_eq (by decide), hsteps]
    have hlast := State.proofNext_last (s := u) (k := 2) (r := 1) (by decide) (by decide) (by decide)
      (fun i hi h5 => by rw [hbits]; interval_cases i <;> rfl) ((hbits 5).trans rfl)
    exact ⟨_, hexec, hlast.res, (hlast.keeps _ (by decide)).trans hcw, hlast.step,
      (hput.mono (by simp) (by simp)).trans ((hlast.passed (by decide)).mono (by simp) (by simp))⟩
  · intro cs dt s hr hst hk hp ht hdt hlt hsteps hroom
    have hexec := exec_wrap_result cs hr hst hk hp
    rw [State.wrapResult_late ht hdt hlt] at hexec
    have hput : s.only [TST_PWRAP] [] (s.put TST_PWRAP_CW dt) := (s.only_refl _ _).put _ (by decide)
    have hcw : (s.put TST_PWRAP_CW dt).get TST_PWRAP_CW = dt := State.get_put_self _ rfl (show dt < 2 ^ 16 by omega)
    dsimp only at hexec
    generalize s.put TST_PWRAP_CW dt = u at hexec hput hcw
    have hbits (i : Nat) : u.getBit TST_PCTL_STEPS i = (0x22 : Nat).testBit i := by rw [State.getBit, hput.get_eq (by decide), hsteps]
    have hlast := State.proofNext_last (s := u) (k := 2) (r := 2) (by decide) (by decide) (by decide)
      (fun i hi h5 => by rw [hbits]; interval_cases i <;> rfl) ((hbits 5).trans rfl)
    obtain ⟨hsent, honly⟩ := hlast.failed rfl (hput.roomy hroom (by decide) (by decide) (by simp))
    exact ⟨_, hexec, hlast.res, (hlast.keeps _ (by decide)).trans hcw,
      hsent.of_eq (hput.2 .fltQ (by simp)) (by rw [show u.sys = s.sys from hput.2 .sys (by simp)]), hlast.step,
      (hput.mono (by simp) (by simp)).trans (honly.mono (by simp) (by simp))⟩
  · intro cs s hr hst hk hp hin hle hlt
    have hhand : s.handEnd = (s.put TST_PTWIN_OUT (s.tst.riseT - s.tst.yieldT)).proofPhase 3 := by
      rw [State.handEnd]
      simp only [hp]
      rw [if_pos hin, show min 65535 (s.tst.riseT - s.tst.yieldT) = s.tst.riseT - s.tst.yieldT by omega]
    have hexec := exec_handEnd cs hr hst hk
    rw [hhand] at hexec
    have hput : s.only [TST_PTWIN] [.tst] (s.put TST_PTWIN_OUT (s.tst.riseT - s.tst.yieldT)) := (s.only_refl _ _).put _ (by decide)
    have hout : (s.put TST_PTWIN_OUT (s.tst.riseT - s.tst.yieldT)).get TST_PTWIN_OUT = s.tst.riseT - s.tst.yieldT :=
      State.get_put_self _ rfl (show _ < 2 ^ 16 by omega)
    have htst : (s.put TST_PTWIN_OUT (s.tst.riseT - s.tst.yieldT)).tst = s.tst := State.put_tst _ _ _
    generalize s.put TST_PTWIN_OUT (s.tst.riseT - s.tst.yieldT) = u at hexec hput hout htst
    exact ⟨_, hexec, hout, by rw [← htst]; rfl, hput.with_tst _ (by simp)⟩
  · intro cs s hr hst hk hp hin hb4 hb5 hroom
    have hhand : s.handEnd = s.proofNext 4 2 := by
      rw [State.handEnd]
      simp only [hp]
      rw [if_neg (by simp [hin])]
    have hexec := exec_handEnd cs hr hst hk
    rw [hhand] at hexec
    have hlast := State.proofNext_last (s := s) (k := 4) (r := 2) (by decide) (by decide) (by decide)
      (fun i hi h5 => by obtain rfl : i = 4 := by omega
                         exact hb4) hb5
    obtain ⟨hsent, honly⟩ := hlast.failed rfl hroom
    exact ⟨_, hexec, hlast.res, hsent, hlast.step, honly⟩
  · intro cs s hr hst hk hp hanch hpulse hb4 hb5
    have hhand : s.handEnd = (s.put TST_PTWIN_BACK 0).proofNext 4 1 := by
      rw [State.handEnd]
      simp only [hp, hpulse]
      rw [if_pos hanch, Option.getD_some, Nat.sub_self, Nat.min_zero]
    have hexec := exec_handEnd cs hr hst hk
    rw [hhand] at hexec
    have hput : s.only [TST_PTWIN] [] (s.put TST_PTWIN_BACK 0) := (s.only_refl _ _).put _ (by decide)
    have hback : (s.put TST_PTWIN_BACK 0).get TST_PTWIN_BACK = 0 := State.get_put_self _ rfl (by decide)
    generalize s.put TST_PTWIN_BACK 0 = u at hexec hput hback
    have hbit (i : Nat) : u.getBit TST_PCTL_STEPS i = s.getBit TST_PCTL_STEPS i := by rw [State.getBit, hput.get_eq (by decide), State.getBit]
    have hlast := State.proofNext_last (s := u) (k := 4) (r := 1) (by decide) (by decide) (by decide)
      (fun i hi h5 => by obtain rfl : i = 4 := by omega
                         exact (hbit 4).trans hb4) ((hbit 5).trans hb5)
    exact ⟨_, hexec, hlast.res, (hlast.keeps _ (by decide)).trans hback, hlast.step,
      (hput.mono (by simp) (by simp)).trans ((hlast.passed (by decide)).mono (by simp) (by simp))⟩
  · intro cs s hr hst hk hl hsteps
    have hexec := exec_lanesEnd cs hr hst hk hl
    rw [State.lanesEnd_none hl] at hexec
    have hstop := (State.lanesStop_none hl).1
    generalize s.lanesStop = u at hexec hstop
    have hbits (i : Nat) : u.getBit TST_PCTL_STEPS i = (0x21 : Nat).testBit i := by rw [State.getBit, hstop.get_eq (by simp), hsteps]
    have hlast := State.proofNext_last (s := u) (k := 1) (r := 1) (by decide) (by decide) (by decide)
      (fun i hi h5 => by rw [hbits]; interval_cases i <;> rfl) ((hbits 5).trans rfl)
    exact ⟨_, hexec, hlast.res, hlast.step, (hstop.mono (by simp) (by simp)).trans (hlast.passed (by decide))⟩
  · intro who s ho hf
    obtain ⟨hr, hi⟩ := State.open_parts ho
    have hd := State.dark_of_runs (show onDie 0x17 = true by decide) hr
    have hexec : exec (.mbist who) s = .next (s.mbistStart.answer (whoKey who) 0 0) := by
      refine congrArg Host.Outcome.next ((s.ackCmd_run TST_FTCTL (whoKey who) _ hd hr).trans ?_)
      rw [if_pos hf]
    obtain ⟨htst, hdone, hfail, hinit, honly⟩ := State.mbistStart_spec hi
    generalize s.mbistStart = u at hexec htst hdone hfail hinit honly
    have hans := (u.only_refl [] [.resp]).answer (whoKey who) 0 0 (by simp)
    exact ⟨_, hexec, rfl, (hans.2 .tst (by simp)).trans htst, (hans.get_eq (by simp)).trans hdone, (hans.get_eq (by simp)).trans hfail,
      (hans.get_eq (by simp)).trans hinit, (honly.mono (by simp) (by simp)).trans (hans.mono (by simp) (by simp))⟩
  · intro who s hr hf
    have hd := State.dark_of_runs (show onDie 0x17 = true by decide) hr
    have hexec : exec (.mbist who) s = .next (s.answer (whoKey who) 0x05 0) := by
      refine congrArg Host.Outcome.next ((s.ackCmd_run TST_FTCTL (whoKey who) _ hd hr).trans ?_)
      rw [if_neg (by simp [hf])]
    exact ⟨_, hexec, rfl, (s.only_refl _ _).answer _ _ _ (by simp)⟩
  · intro faulty s hd hm hw
    obtain ⟨htst, hdone, hfail, hinit, hzero, -, honly⟩ := s.mbistEnd_spec faulty
    exact ⟨_, exec_mbistDone faulty hd hm hw, hdone, hfail, hinit, htst, hzero, honly⟩
  · intro faulty s hd hm
    have hexec : exec (.mbistDone faulty) s = .next s := by
      change execMbistDone faulty s = _
      rw [execMbistDone, if_neg (by simp [hd])]
      exact congrArg Host.Outcome.next (if_neg (by simp [hm]))
    exact ⟨s, hexec, s.only_refl _ _⟩
  · intro s
    exact ⟨s.jtag 0, rfl, rfl, State.pioBall_pad (i := 0) rfl (by decide), s.only_jtag 0⟩
  · intro s
    exact ⟨{ s with tst := { s.tst with ir := 1, tdo := s.rd TST_IDCODE } }, rfl, rfl, State.pioBall_pad (i := 1) rfl (by decide),
      (s.only_refl _ _).with_tst _ (by simp)⟩
  · intro cell v s
    exact ⟨(s.jtag 2).cellsPut [(cell, v)], rfl, rfl, State.cellsPut_one cell v, State.pioBall_pad (i := 2) rfl (by decide),
      (s.only_refl _ _).with_tst _ (by simp)⟩
  · intro cell lvl s hc ha
    refine ⟨(s.jtag 3).cellsPut [(cell, lvl, true)], rfl, rfl, ?_, (s.only_refl _ _).with_tst _ (by simp)⟩
    have hcell := State.cellsPut_one (s := s.jtag 3) cell (lvl, true) cell.val
    rw [if_pos rfl] at hcell
    rw [State.pioBall_driven (.inl rfl) hcell, show ((s.jtag 3).cellsPut [(cell, lvl, true)]).anchored cell.val = s.anchored cell.val from rfl, ha,
      Bool.not_false, Bool.or_true, if_pos rfl]
  · intro cell lvl s hc ha hf
    refine ⟨(s.jtag 3).cellsPut [(cell, lvl, true)], rfl, ?_, ?_, (s.only_refl _ _).with_tst _ (by simp)⟩
    · have hcell := State.cellsPut_one (s := s.jtag 3) cell (lvl, true) cell.val
      rw [if_pos rfl] at hcell
      rw [State.pioBall_driven (.inl rfl) hcell, show ((s.jtag 3).cellsPut [(cell, lvl, true)]).anchored cell.val = s.anchored cell.val from rfl, ha,
        show ((s.jtag 3).cellsPut [(cell, lvl, true)]).on MPC_MODE_FTEST = s.on MPC_MODE_FTEST from rfl, hf]
      rfl
    · exact State.anchorBall_scan rfl hf
  · intro s
    exact ⟨s.jtag 4, rfl, rfl, fun p => rfl, rfl, s.only_jtag 4⟩
  · intro pin lvl s hc ha
    refine ⟨s.jtag 5, rfl, rfl, ?_, s.only_jtag 5⟩
    rw [State.pioBall_driven (s := s.jtag 5) (.inr rfl) hc, show (s.jtag 5).anchored pin.val = s.anchored pin.val from rfl, ha, Bool.not_false,
      Bool.or_true, if_pos rfl]
  · intro code s hf
    exact ⟨_, congrArg Host.Outcome.next (if_pos hf), rfl, (s.only_refl _ _).with_tst _ (by simp)⟩
  · intro code s hf
    exact ⟨_, congrArg Host.Outcome.next (if_neg (by simp [hf])), rfl, s.only_jtag 0⟩

end Sys2Proof.Machine

/-! What an apply's effects leave alone: what the loader shows, the state of the commit and of the update, and the mode. -/
namespace Sys2Proof.Machine

set_option Elab.async false

section
variable {s t u : State}

/-- The registers that show the loader's end, the commit machine and the active slot. -/
def loadRegs : List Nat := [CFG_LOAD, CFG_STAT, UPD_STAT]

/-- Those registers and the mode stand, and a record that runs still runs. -/
structure State.loadKept (s t : State) : Prop where
  rd : ∀ o ∈ loadRegs, t.rd o = s.rd o
  mode : t.mode = s.mode
  recordOn : s.sys.recordOn = true → t.sys.recordOn = true

/-- A register of another block than CFG's, UPD's and MPC's. -/
theorem notLoad_of_blk {o : Nat} (h : blkOf o ≠ 0x01 ∧ blkOf o ≠ 0x04 ∧ blkOf o ≠ 0x16) : o ∉ MPC_MODE :: loadRegs := by
  intro hm
  have hblk : ∀ o ∈ MPC_MODE :: loadRegs, blkOf o = 0x01 ∨ blkOf o = 0x04 ∨ blkOf o = 0x16 := by decide
  have := hblk o hm
  omega

/-- No counter shows its SAT in those blocks. -/
theorem satField_notLoad {c : Nat} {f : Fld} (h : satField c = some f) : f.off ∉ MPC_MODE :: loadRegs := by
  have hb := blkOf_satField h
  rw [satField] at h
  split at h
  case h_12 hc => exact notLoad_of_blk (by rw [hb, hc]; decide)
  case h_15 => exact absurd h (by simp)
  all_goals
    obtain rfl := Option.some.inj h
    decide

namespace State.loadKept

theorem refl (s : State) : s.loadKept s := ⟨fun _ _ => rfl, rfl, id⟩

theorem trans (h : s.loadKept t) (k : t.loadKept u) : s.loadKept u :=
  ⟨fun o ho => (k.rd o ho).trans (h.rd o ho), k.mode.trans h.mode, fun hr => k.recordOn (h.recordOn hr)⟩

theorem get_eq (h : s.loadKept t) {f : Fld} (hf : f.off ∈ loadRegs) : t.get f = s.get f := State.get_congr (h.rd _ hf)

/-- Registers outside the list may change, and of the system's record all but the one bit. -/
theorem of_rd (hr : ∀ o ∈ MPC_MODE :: loadRegs, t.rd o = s.rd o) (hs : t.sys.recordOn = s.sys.recordOn) : s.loadKept t :=
  ⟨fun o ho => hr o (List.mem_cons_of_mem _ ho), State.get_congr (hr _ List.mem_cons_self), fun h => hs.trans h⟩

theorem same (h : s.loadKept t) (hr : u.regs = t.regs) (hs : u.sys.recordOn = t.sys.recordOn) : s.loadKept u :=
  h.trans (of_rd (fun o _ => State.rd_congr hr o) hs)

theorem withFwd (h : s.loadKept t) (x : FwdSt) : s.loadKept { t with fwd := x } := h.same rfl rfl

theorem wr (h : s.loadKept t) {o : Nat} (v : Word) (ho : o ∉ MPC_MODE :: loadRegs := by decide) : s.loadKept (t.wr o v) :=
  h.trans (of_rd (fun _ hp => State.rd_wr_ne _ _ fun he => ho (he ▸ hp)) rfl)

theorem put (h : s.loadKept t) {f : Fld} (v : Nat) (hf : f.off ∉ MPC_MODE :: loadRegs := by decide) : s.loadKept (t.put f v) :=
  h.wr _ hf

theorem of_only {os : List Nat} {ps : List Part} (h : s.only os ps t) (ho : ∀ o ∈ MPC_MODE :: loadRegs, o ∉ os := by decide)
    (hs : Part.sys ∉ Part.regs :: ps := by simp) : s.loadKept t :=
  of_rd (fun o hp => h.1 o (ho o hp)) (by rw [h.2 .sys hs])

theorem of_confined {bs : List Nat} (h : s.confined bs t) (hb : 0x04 ∉ bs ∧ 0x16 ∉ bs := by decide) : s.loadKept t := by
  have hblk : ∀ o ∈ loadRegs, blkOf o = 0x04 ∨ blkOf o = 0x16 := by decide
  refine ⟨fun o ho => h.rd o ?_, h.mode _ rfl rfl, fun hr => by rw [h.sys]; exact hr⟩
  obtain h | h := hblk o ho
  · rw [h]
    exact hb.1
  · rw [h]
    exact hb.2

theorem count (h : s.loadKept t) (c n : Nat) : s.loadKept (t.count c n) := by
  refine h.trans (of_rd (fun o ho => ?_) (by rw [(State.count_foot t c n).sys rfl]))
  cases hs : satField c with
  | none => exact State.rd_count_nosat _ _ _ _ hs
  | some f =>
    have hne : o ≠ f.off := fun he => satField_notLoad hs (he ▸ ho)
    by_cases hl : f = LPW_STAT_SAT
    · subst hl
      refine (t.only_count c n (os := [LPW_STAT, LPW_EVT]) (ps := [.live]) (by simp) fun g hg => ?_).1 o ?_
      · obtain rfl := Option.some.inj (hs.symm.trans hg)
        exact ⟨by simp [LPW_STAT_SAT], fun _ => by simp⟩
      · have hout : ∀ o ∈ MPC_MODE :: loadRegs, o ∉ [LPW_STAT, LPW_EVT] := by decide
        exact hout o ho
    · exact State.rd_count_sat _ _ _ _ _ hs hl hne

theorem bump (h : s.loadKept t) (c : Nat) : s.loadKept (t.bump c) := h.count c 1

theorem fault (h : s.loadKept t) (src kind addr : Nat) : s.loadKept (t.fault src kind addr) := h.trans (of_only (State.only_fault src kind addr))

theorem when {c : Bool} {f : State → State} (h : s.loadKept t) (hf : ∀ u : State, u.loadKept (f u)) : s.loadKept (t.when c f) := by
  cases c
  · exact h
  · exact h.trans (hf t)

theorem ite {c : Prop} [Decidable c] {v : State} (hu : s.loadKept u) (hv : s.loadKept v) : s.loadKept (if c then u else v) := by
  split
  · exact hu
  · exact hv

theorem each {α : Type} {f : State → α → State} {l : List α} (h : s.loadKept t) (hf : ∀ (t : State), ∀ a ∈ l, t.loadKept (f t a)) :
    s.loadKept (t.each l f) := by
  induction l generalizing t with
  | nil => exact h
  | cons a l ih => exact ih (h.trans (hf t a (by simp))) fun t b hb => hf t b (by simp [hb])

end State.loadKept

/-! ### The switch core -/

theorem State.loadKept_writeCells (f : Frame) : s.loadKept (s.writeCells f).1 := .of_confined (s.confined_writeCells f)

theorem State.loadKept_enqueue (p qi : Nat) (x : QFrame) (spare : Bool) : s.loadKept (s.enqueue p qi x spare) :=
  .of_confined (s.confined_enqueue p qi x spare)

theorem State.loadKept_putCopy (c : Copy) (qi : Nat) (x : QFrame) (spare : Bool) : s.loadKept (s.putCopy c qi x spare) :=
  .of_confined (s.confined_putCopy c qi x spare)

theorem State.loadKept_unreachLog (inPort : Nat) (f : Frame) : s.loadKept (s.unreachLog inPort f) :=
  ((((((State.loadKept.refl s).bump _).put _).put _).put _).put _).put _

theorem State.loadKept_dropCopy (inPort : Nat) (c : Copy) : s.loadKept (s.dropCopy inPort c) := by
  have hlog := s.loadKept_unreachLog inPort c.frame
  rw [State.dropCopy]
  split
  · exact (State.loadKept.refl s).bump _
  · exact (State.loadKept.refl s).bump _
  · exact (((State.loadKept.refl s).bump _).put _).fault _ _ _
  · exact (hlog.put _).fault _ _ _
  · exact hlog
  · exact .refl s

theorem State.loadKept_dropFull (p cls : Nat) : s.loadKept (s.dropFull p cls) := ((State.loadKept.refl s).bump _).put _

theorem State.loadKept_placeCopy (inPort : Nat) (own multi : Bool) (t : Int) (cells : List Nat) (c : Copy) :
    s.loadKept (s.placeCopy inPort own multi t cells c) := by
  rw [State.placeCopy]
  refine .ite ?_ (s.loadKept_dropCopy inPort c)
  split
  · exact .ite (((State.loadKept.refl s).bump _).put _) (s.loadKept_dropFull _ _)
  · exact s.loadKept_putCopy _ _ _ _

theorem State.loadKept_place (inPort : Nat) (own : Bool) (t : Int) (l : List Copy) : s.loadKept (s.place inPort own t l) := by
  cases l with
  | nil => exact .refl s
  | cons c l =>
    rw [State.place]
    exact (s.loadKept_writeCells c.frame).each fun t a _ => t.loadKept_placeCopy _ _ _ _ _ a

theorem State.loadKept_tryOrig {p : FrameSpec} {prod : Nat} {r : State × List FrameSpec} (h : s.tryOrig p prod = some r) : s.loadKept r.1 := by
  unfold State.tryOrig at h
  split at h
  · obtain rfl := Option.some.inj h
    exact (State.loadKept.refl s).bump (RED_CNT 11)
  · obtain rfl := Option.some.inj h
    exact .refl s
  · exact absurd h (by simp)
  · extract_lets f l u v src w src' z at h
    split at h
    · exact absurd h (by simp)
    · split at h
      · exact absurd h (by simp)
      · have hu : s.loadKept u := ((State.loadKept.refl s).bump _).count _ _
        clear_value u l
        split at h
        · cases h
          exact hu.trans (u.loadKept_unreachLog 4 f)
        · have hv : s.loadKept v := hu.trans (u.loadKept_place 4 true _ l)
          clear_value v
          have hw : s.loadKept w := by
            unfold w
            exact .ite (hv.same rfl rfl) hv
          clear_value w
          have hz : s.loadKept z := by
            unfold z
            split
            · exact hw.same rfl rfl
            · exact hw.same rfl rfl
          clear_value z
          cases h
          exact hz

theorem State.loadKept_locWait (w : LocWait) : s.loadKept (s.locWait w) := by
  rw [State.locWait]
  exact State.loadKept.same (.ite ((State.loadKept.refl s).bump (RED_CNT 5)) (.refl s)) rfl rfl

theorem State.loadKept_orig1 (p : FrameSpec) (prod : Nat) : s.loadKept (s.orig1 p prod).1 := by
  rw [State.orig1]
  split
  · exact .refl s
  · split
    · exact s.loadKept_locWait _
    · split
      · rename_i r hr
        exact State.loadKept_tryOrig hr
      · exact s.loadKept_locWait _

/-- The frames that waited at LOC, and what they owe. -/
theorem State.loadKept_locPump : s.loadKept s.locPump := by
  rw [State.locPump]
  refine .ite (.refl s) ?_
  have hfold (l : List LocWait) (a : State × List FrameSpec) (h : s.loadKept a.1) : s.loadKept (l.foldl (fun (a : State × List FrameSpec) w =>
      if a.1.locBlocked w.spec w.prod then (a.1.locWait w, a.2)
      else match a.1.tryOrig w.spec w.prod with
        | some r => (r.1, a.2 ++ r.2)
        | none => (a.1.locWait w, a.2)) a).1 := by
    induction l generalizing a with
    | nil => exact h
    | cons w l ih =>
      refine ih _ ?_
      dsimp only
      split
      · exact h.trans (a.1.loadKept_locWait w)
      · split
        · rename_i r hr
          have hkept := h.trans (State.loadKept_tryOrig hr)
          exact hkept
        · exact h.trans (a.1.loadKept_locWait w)
  exact (hfold _ _ ((State.loadKept.refl s).same rfl rfl)).each fun t q _ => t.loadKept_orig1 q 8

theorem State.loadKept_retreat (d qi : Nat) (x : QFrame) : s.loadKept (s.retreat d qi x) := by
  rw [State.retreat]
  refine .ite (s.loadKept_dropCopy _ _) (.ite (s.loadKept_putCopy _ _ _ _) ?_)
  split
  · exact s.loadKept_dropFull _ _
  · exact s.loadKept_putCopy _ _ _ _

theorem State.loadKept_releaseHeld (why : HoldWhy) (d : Nat) : s.loadKept (s.releaseHeld why d) := by
  rw [State.releaseHeld]
  exact ((State.loadKept.refl s).withFwd _).each fun t h _ => t.loadKept_retreat _ _ _

theorem State.loadKept_setDrainBit (q frm : Nat) (v : Bool) : s.loadKept (s.setDrainBit q frm v) := by
  by_cases h : frm = 0
  · rw [State.setDrainBit, if_pos h]
    exact .ite ((State.loadKept.refl s).put _) ((State.loadKept.refl s).put _)
  · rw [State.setDrainBit, if_neg h]
    exact .ite ((State.loadKept.refl s).put _) ((State.loadKept.refl s).put _)

theorem State.loadKept_closeDrain (x : Drain) (d : Nat) : s.loadKept (s.closeDrain x d) := by
  rw [State.closeDrain]
  have hgone := (State.loadKept.refl s).withFwd { s.fwd with drains := s.fwd.drains.filter fun y => !(y.q == x.q && y.frm == x.frm) }
  generalize ({ s with fwd := { s.fwd with drains := s.fwd.drains.filter fun y => !(y.q == x.q && y.frm == x.frm) } } : State) = t at hgone ⊢
  have hbit := hgone.trans (t.loadKept_setDrainBit x.q x.frm false)
  generalize t.setDrainBit x.q x.frm false = u at hbit ⊢
  exact (hbit.trans (u.loadKept_releaseHeld _ d)).trans State.loadKept_locPump

theorem State.loadKept_openDrain (q frm : Nat) (es : List (Nat × Nat × Nat)) (pins : Nat) : s.loadKept (s.openDrain q frm es pins) := by
  unfold State.openDrain
  extract_lets id fwd u v p f w x c y z
  have hv : s.loadKept v := ((State.loadKept.refl s).same (u := u) rfl rfl).trans (u.loadKept_setDrainBit q frm true)
  clear_value v f
  refine .ite (hv.trans (v.loadKept_unreachLog _ _)) ?_
  have hx : s.loadKept x := hv.trans (v.loadKept_writeCells f)
  clear_value x c
  split
  · exact (hx.trans (x.loadKept_enqueue _ _ _ _)).same rfl rfl
  · exact hx.same rfl rfl
  · exact (hx.trans (x.loadKept_dropCopy 4 c)).same rfl rfl

theorem State.loadKept_drainsAfter (old : State) : s.loadKept (s.drainsAfter old) := by
  rw [State.drainsAfter]
  refine ((State.loadKept.refl s).each fun t x _ => .ite (t.loadKept_closeDrain x _) (.refl t)).each fun t d _ => ?_
  dsimp only
  refine .ite (.refl t) ((State.loadKept.refl t).each fun u q _ => ?_)
  exact .ite (u.loadKept_openDrain _ _ _ _) (.refl u)

theorem State.loadKept_slotsAnew : s.loadKept s.slotsAnew := by
  unfold State.slotsAnew
  extract_lets u gone out
  have hu : s.loadKept u := (State.loadKept.refl s).each fun t d _ =>
    ((State.loadKept.refl t).withFwd _).each fun v x _ => v.loadKept_dropCopy x.inPort ⟨d, x.f, .noslot, false⟩
  clear_value u out gone
  exact (hu.withFwd _).each fun v x _ => v.loadKept_dropCopy _ _

theorem State.loadKept_fwdApply (old : State) : s.loadKept (s.fwdApply old) := by
  rw [State.fwdApply]
  have hput : s.loadKept ((s.wrapAdd FWD_STAT_GEN 1).put FWD_BUF_STAT_SPARE (s.get MSA_PART_FB * 4096 - s.cellsTaken)) :=
    (State.loadKept.put (f := FWD_STAT_GEN) (.refl s) _).put _
  exact ((hput.trans State.loadKept_slotsAnew).trans (State.loadKept_drainsAfter old)).trans State.loadKept_locPump

/-! ### Ring time, engines and lanes -/

theorem State.loadKept.withTime (h : s.loadKept t) (x : TimeSt) : s.loadKept { t with time := x } := h.same rfl rfl

theorem State.loadKept.withGg (h : s.loadKept t) (x : GgSt) : s.loadKept { t with gg := x } := h.same rfl rfl

theorem State.loadKept.withLsv (h : s.loadKept t) (x : LsvSt) : s.loadKept { t with lsv := x } := h.same rfl rfl

theorem State.loadKept_timeApply (old : State) : s.loadKept (s.timeApply old) := by
  unfold State.timeApply
  extract_lets x xt u ut v
  have hu : s.loadKept u := by
    unfold u
    refine .ite ?_ (.ite ((State.loadKept.refl s).put _) (.refl s))
    exact State.loadKept.withTime (t := x) ((State.loadKept.refl s).put _) _
  clear_value u
  have hv : s.loadKept v := .ite (hu.withTime _) hu
  clear_value v
  exact State.loadKept.each (.ite hv (hv.put _)) fun t n _ => .ite ((State.loadKept.refl t).withTime _) (.refl t)

theorem State.loadKept_owns {n : Nat} (h : s.owns n t) (hn : n < 16) : s.loadKept t := .of_confined (h.confined hn)

theorem State.loadKept_ggApply (old : State) (first : Bool) : s.loadKept (s.ggApply old first) := by
  have heng (u : State) (n : Nat) (f : Eng → Eng) : u.loadKept (u.modEng n f) := (State.loadKept.refl u).withGg _
  unfold State.ggApply
  refine .ite (.refl s) ?_
  extract_lets all u cut v vg w
  have hu : s.loadKept u := (State.loadKept.refl s).each fun t n _ => (State.loadKept.refl t).each fun x k _ => .ite (heng x n _) (.refl x)
  clear_value u
  have hv : s.loadKept v := hu.each fun t n hn => by
    refine .ite ((heng t n fun e => { e with tx := [], rx := [] }).trans ?_) (.refl t)
    obtain ⟨hs, -⟩ := blkOf_gg (List.mem_range.1 hn)
    exact (State.loadKept.refl _).put _ (notLoad_of_blk (by rw [show blkOf (GG_STAT_FIFO_RESET n).off = 0x10 from hs.1]; decide))
  clear_value v
  have hw : s.loadKept w := hv.withGg _
  clear_value w
  refine hw.each fun t n hn => ?_
  have hn16 := List.mem_range.1 hn
  dsimp only
  refine .ite (.ite (.refl t) (State.loadKept_owns (State.owns_freshStart n) hn16)) (.ite (State.loadKept_owns (State.owns_ggStop n) hn16) (.refl t))

theorem State.loadKept_lane {l : Nat} (hl : l < 4) {bs : List Nat} (h : s.confined bs t) (hb : bs ⊆ laneBlk l :: ringBlks) : s.loadKept t := by
  refine .of_confined (h.mono hb) ⟨?_, ?_⟩
  all_goals interval_cases l <;> decide

theorem State.loadKept_laneApply (old : State) {l : Nat} (hl : l < 4) (first : Bool) : s.loadKept (s.laneApply old l first) := by
  obtain ⟨hstat, -, htrain, -⟩ := blkOf_lane hl
  have hput (u : State) (f : Fld) (v : Nat) (hf : blkOf f.off = laneBlk l) : u.loadKept (u.put f v) :=
    State.loadKept_lane hl ((u.confined_refl _).putLane v (List.mem_singleton_self _) hf) (by simp)
  have hdet (u : State) : u.loadKept (u.detect l) := State.loadKept_lane hl (State.confined_detect hl) (by simp)
  unfold State.laneApply
  extract_lets chg u st v w
  have hu : s.loadKept u := hput _ _ _ hstat
  clear_value u st
  refine .ite hu ?_
  have hv : s.loadKept v := .ite (hu.trans (hput _ _ _ htrain)) hu
  clear_value v
  have hw : s.loadKept w := .ite (hv.trans (State.loadKept_lane hl (State.confined_laneDown 8 hl) (List.Subset.refl _))) hv
  clear_value w
  refine .ite (hw.trans ?_) (.ite hw (.ite ((hw.trans (hput _ _ _ htrain)).trans (hdet _)) (.ite (hw.trans (hdet _)) hw)))
  exact (State.loadKept_lane hl (State.confined_setTrain 0 hl) (by simp)).trans (hput _ _ _ htrain)

/-! ### The message bus and line supervision -/

theorem notLoad_mb {o : Nat} (h : 0x130000 ≤ o ∧ o < 0x140000) : o ∉ MPC_MODE :: loadRegs := notLoad_of_blk (by
  rw [blkOf]
  omega)

theorem State.loadKept.withMb (h : s.loadKept t) (x : Tab MbSt) : s.loadKept { t with mb := x } := h.same rfl rfl

/-- The registers of a port that hold a bit for each object. -/
theorem mbObj_range {n i : Nat} (hn : n < 4) (hi : i < 1536) : ∀ map ∈ [MB_NEW_OBJ n, MB_LOST_OBJ n, MB_TXPEND_OBJ n, MB_TXDONE_OBJ n, MB_TXFAIL_OBJ n],
    0x130000 ≤ (map (i / 32)).off ∧ (map (i / 32)).off < 0x140000 := by
  simp only [List.mem_cons, List.not_mem_nil, or_false, forall_eq_or_imp, forall_eq, MB_NEW_OBJ, MB_LOST_OBJ, MB_TXPEND_OBJ, MB_TXDONE_OBJ,
    MB_TXFAIL_OBJ, MB_NEW, MB_LOST, MB_TXPEND, MB_TXDONE, MB_TXFAIL]
  omega

theorem State.loadKept_mbObjDrop {n i : Nat} (hn : n < 4) (hi : i < 1536) : s.loadKept (s.mbObjDrop n i) := by
  unfold State.mbObjDrop
  extract_lets u m
  have hu : s.loadKept u := (State.loadKept.refl s).each fun t map hm => (State.loadKept.refl t).put _ (notLoad_mb (mbObj_range hn hi map hm))
  clear_value u
  exact hu.withMb _

/-- A write of a port's own register. -/
theorem State.loadKept.putMb (h : s.loadKept t) {f : Fld} (v : Nat) (hf : 0x130000 ≤ f.off ∧ f.off < 0x140000) : s.loadKept (t.put f v) :=
  h.put v (notLoad_mb hf)

theorem State.loadKept_mbShow {n : Nat} (tec rxe : Nat) (hn : n < 4) : s.loadKept (s.mbShow n tec rxe) := by
  have herr : 0x130000 ≤ MB_ERR n ∧ MB_ERR n < 0x140000 := by
    rw [MB_ERR]
    omega
  rw [State.mbShow]
  exact ((((((State.loadKept.refl s).withMb _).putMb _ herr).putMb _ herr).putMb _ herr).putMb _ herr).putMb _ herr

theorem State.loadKept_mbFail {n i : Nat} (cause : Nat) (hn : n < 4) (hi : i < 1536) : s.loadKept (s.mbFail n cause i) := by
  have hmaps := mbObj_range hn hi
  have hevt : 0x130000 ≤ MB_EVT n ∧ MB_EVT n < 0x140000 := by
    rw [MB_EVT]
    omega
  have hlog : 0x130000 ≤ MB_TXLOG n ∧ MB_TXLOG n < 0x140000 := by
    rw [MB_TXLOG]
    omega
  rw [State.mbFail]
  exact (((((State.loadKept.refl s).putMb _ (hmaps (MB_TXPEND_OBJ n) (by simp))).putMb _ (hmaps (MB_TXFAIL_OBJ n) (by simp))).putMb _ hevt).putMb _ hlog).putMb
    _ hlog

theorem State.mem_txPending {n i : Nat} (h : i ∈ s.txPending n) : i < 1536 := by
  obtain ⟨w, hw, hi⟩ := List.mem_flatMap.1 h
  obtain ⟨k, hk, rfl⟩ := List.mem_map.1 hi
  have h1 := List.mem_range.1 hw
  have h2 := lt_of_mem_bitList hk
  omega

theorem State.loadKept_mbEnter {n : Nat} (hn : n < 4) : s.loadKept (s.mbEnter n) := by
  have hst : 0x130000 ≤ MB_STAT n ∧ MB_STAT n < 0x140000 := by
    rw [MB_STAT]
    omega
  have hevt : 0x130000 ≤ MB_EVT n ∧ MB_EVT n < 0x140000 := by
    rw [MB_EVT]
    omega
  rw [State.mbEnter]
  exact .ite ((State.loadKept.refl s).putMb _ hst) (.ite ((((State.loadKept.refl s).putMb _ hst).putMb _ hevt).fault _ _ _)
    ((State.loadKept.refl s).putMb _ hst))

theorem State.loadKept_listenPort {n : Nat} (hn : n < 4) : s.loadKept (s.listenPort n) := by
  have hst : 0x130000 ≤ MB_STAT n ∧ MB_STAT n < 0x140000 := by
    rw [MB_STAT]
    omega
  rw [State.listenPort]
  exact .ite ((State.loadKept.refl s).putMb _ hst) (.ite ((State.loadKept.refl s).putMb _ hst) (.refl s))

theorem State.loadKept_mbThroughOff {n : Nat} (hn : n < 4) : s.loadKept (s.mbThroughOff n) := by
  unfold State.mbThroughOff
  extract_lets m u v
  have hu : s.loadKept u := ((State.loadKept.refl s).withMb _).trans (State.loadKept_mbShow 0 0 hn)
  clear_value u
  have hv : s.loadKept v := .ite hu (hu.each fun t i hi => State.loadKept_mbFail 6 hn (State.mem_txPending hi))
  clear_value v
  exact hv.trans (State.loadKept_mbEnter hn)

theorem State.loadKept_mbApply (old : State) : s.loadKept (s.mbApply old) := by
  rw [State.mbApply]
  refine (State.loadKept.refl s).each fun t n hn => ?_
  have hn4 := List.mem_range.1 hn
  unfold State.mbApplyPort
  extract_lets u moved st
  have hu : t.loadKept u := (State.loadKept.refl t).each fun x i hi => State.loadKept_mbObjDrop hn4 (List.mem_range.1 (List.mem_of_mem_filter hi))
  clear_value u
  exact .ite (.ite (hu.withMb _) (hu.trans (State.loadKept_mbThroughOff hn4))) (.ite (hu.trans (State.loadKept_mbEnter hn4))
    (hu.trans (State.loadKept_listenPort hn4)))

theorem State.loadKept_listenCheck : s.loadKept s.listenCheck := by
  rw [State.listenCheck]
  exact (State.loadKept.refl s).each fun t n hn => State.loadKept_listenPort (List.mem_range.1 hn)

theorem State.loadKept_clrSci {n : Nat} (hn : n < 8) : s.loadKept (s.clr (LSV_SCI_STAT n)) :=
  (State.loadKept.refl s).wr _ (notLoad_of_blk (by
    simp only [blkOf, LSV_SCI_STAT]
    omega))

theorem State.loadKept_lsvErrs : s.loadKept s.lsvErrs := by
  have hrep (x : State) (v : Nat) : x.loadKept ((x.put LSV_EVT_CFG 1).fault 0x12 0x54 v) := ((State.loadKept.refl x).put _).fault _ _ _
  rw [State.lsvErrs]
  refine (State.loadKept.refl s).each fun t n hn => ?_
  have hn8 := List.mem_range.1 hn
  extract_lets a b x u y
  have hx : t.loadKept x := (State.loadKept_clrSci hn8).put _
  clear_value x
  have hu : t.loadKept u := .ite (hx.when fun z => hrep z _) (.refl t)
  clear_value u
  have hy : t.loadKept y := hu.put _
  clear_value y
  exact .ite (hy.when fun z => hrep z _) hu

theorem State.loadKept_pilotApply (old : State) (n : Nat) : s.loadKept (s.pilotApply old n) := by
  have hch (u : State) (k : Nat) (c : LsCh) : u.loadKept (u.setCh k c) := (State.loadKept.refl u).withLsv _
  have hstart (u : State) (k : Nat) : u.loadKept (u.pilotStart k) := by
    rw [State.pilotStart]
    exact .ite (hch u _ _) (.refl u)
  rw [State.pilotApply]
  exact .ite (.ite (.ite (hch _ _ _) (.refl s)) (.ite (hch _ _ _) (.ite ((hch _ _ _).trans (hstart _ _)) (hch _ _ _)))) (.ite (hch _ _ _) (hch _ _ _))

theorem State.loadKept_lsvApply (old : State) : s.loadKept (s.lsvApply old) := by
  rw [State.lsvApply]
  refine .ite (.refl s) ?_
  extract_lets u
  have hu : s.loadKept u := (State.loadKept.refl s).each fun t n hn => .ite (State.loadKept_clrSci (List.mem_range.1 hn)) (.refl t)
  clear_value u
  refine (hu.trans State.loadKept_lsvErrs).each fun t n _ => ?_
  exact .ite (t.loadKept_pilotApply old n) ((t.loadKept_pilotApply old n).withLsv _)

end

end Sys2Proof.Machine

/-! An apply and what the loader shows: the registers that no shadow stands for keep their values. -/
namespace Sys2Proof.Machine

set_option Elab.async false

section
variable {s t u : State}

/-! ### Where shadows lie -/

/-- Registers without a shadow that the loader reads or shows. -/
def fixedRegs : List Nat := RSTC_INRST :: MPC_MODE :: loadRegs

/-- No register of a row lies this far from the row's first one. -/
def ShRow.span (r : ShRow) : Nat := r.n1 * r.s1 + r.n2 * r.s2 + r.bytes

theorem ShRow.place_near {r : ShRow} {base o d : Nat} (h : r.place base o = some d) : o = base + d ∧ d < r.span := by
  obtain ⟨i, j, k, ho, hi, hj, hk⟩ := ShRow.place_some h
  have hi' := Nat.mul_le_mul_right r.s1 hi.le
  have hj' := Nat.mul_le_mul_right r.s2 hj.le
  have hd : d = o - base := by
    rw [ShRow.place] at h
    split at h
    · exact absurd h (by simp)
    · exact (Option.some.inj (Option.ite_none_right_eq_some.1 h).2).symm
  rw [ShRow.span]
  omega

/-- Neither the active nor the shadow registers of any row are among them. -/
theorem fixedRegs_apart : ∀ r ∈ shRows, ∀ o ∈ fixedRegs, (o < r.act ∨ r.act + r.span ≤ o) ∧ (o < r.sh ∨ r.sh + r.span ≤ o) := by decide

theorem shActive_spec {o a : Nat} {r : ShRow} (h : shActive o = some (r, a)) : r ∈ shRows ∧ ∃ d, d < r.span ∧ o = r.sh + d ∧ a = r.act + d := by
  obtain ⟨x, hx, hm⟩ := List.exists_of_findSome?_eq_some h
  obtain ⟨d, hp, he⟩ := Option.map_eq_some_iff.1 hm
  obtain ⟨rfl, rfl⟩ := Prod.mk.inj he
  obtain ⟨ho, hd⟩ := ShRow.place_near hp
  exact ⟨hx, d, hd, ho, rfl⟩

theorem shShadow_spec {o a : Nat} {r : ShRow} (h : shShadow o = some (r, a)) : r ∈ shRows ∧ ∃ d, d < r.span ∧ o = r.act + d ∧ a = r.sh + d := by
  obtain ⟨x, hx, hm⟩ := List.exists_of_findSome?_eq_some h
  obtain ⟨d, hp, he⟩ := Option.map_eq_some_iff.1 hm
  obtain ⟨rfl, rfl⟩ := Prod.mk.inj he
  obtain ⟨ho, hd⟩ := ShRow.place_near hp
  exact ⟨hx, d, hd, ho, rfl⟩

theorem shActive_fixed {o a : Nat} {r : ShRow} (h : shActive o = some (r, a)) : o ∉ fixedRegs ∧ a ∉ fixedRegs := by
  obtain ⟨hr, d, hd, rfl, rfl⟩ := shActive_spec h
  constructor
  · intro ho
    have := (fixedRegs_apart r hr _ ho).2
    omega
  · intro ho
    have := (fixedRegs_apart r hr _ ho).1
    omega

theorem shShadow_fixed {o a : Nat} {r : ShRow} (h : shShadow o = some (r, a)) : o ∉ fixedRegs ∧ a ∉ fixedRegs := by
  obtain ⟨hr, d, hd, rfl, rfl⟩ := shShadow_spec h
  constructor
  · intro ho
    have := (fixedRegs_apart r hr _ ho).1
    omega
  · intro ho
    have := (fixedRegs_apart r hr _ ho).2
    omega

theorem shActive_none {o : Nat} (ho : o ∈ fixedRegs) : shActive o = none := by
  by_contra h
  obtain ⟨⟨r, a⟩, hx⟩ := Option.ne_none_iff_exists'.1 h
  exact (shActive_fixed hx).1 ho

theorem shShadow_none {o : Nat} (ho : o ∈ fixedRegs) : shShadow o = none := by
  by_contra h
  obtain ⟨⟨r, a⟩, hx⟩ := Option.ne_none_iff_exists'.1 h
  exact (shShadow_fixed hx).1 ho

/-! ### The swap -/

/-- Writes of other keys. -/
theorem Tab.get_foldl_set_ne {α : Type} [DecidableEq α] (d : Nat → α) (l : List (Nat × α)) (t : Tab α) (o : Nat) (h : ∀ e ∈ l, e.1 ≠ o) :
    Tab.get d (l.foldl (fun t e => Tab.set d t e.1 e.2) t) o = Tab.get d t o := by
  induction l generalizing t with
  | nil => rfl
  | cons e l ih =>
    rw [List.foldl_cons, ih _ fun x hx => h x (by simp [hx]), Tab.get_set_ne _ _ _ fun he => h e (by simp) he.symm]

theorem get_applyRegs {o : Nat} (regs : Tab Word) (ho : o ∈ fixedRegs) : Tab.get regReset (applyRegs regs) o = Tab.get regReset regs o := by
  unfold applyRegs
  extract_lets here rest up down
  rw [Tab.get_foldl_set_ne]
  · refine (Tab.get_filter regReset regs (fun k => !(blkOf k != 0x15) || ((shShadow k).isNone && match shActive k with
      | some (r, _) => !r.table
      | none => true)) o).trans (if_pos ?_)
    rw [shActive_none ho, shShadow_none ho]
    simp
  · intro e he
    obtain he | he := List.mem_append.1 he
    · obtain ⟨x, -, hx⟩ := List.mem_filterMap.1 he
      obtain ⟨⟨r, a⟩, ha, rfl⟩ := Option.map_eq_some_iff.1 hx
      rintro rfl
      exact (shActive_fixed ha).2 ho
    · obtain ⟨x, -, hx⟩ := List.mem_filterMap.1 he
      obtain ⟨⟨r, a⟩, ha, hif⟩ := Option.bind_eq_some_iff.1 hx
      dsimp only at hif
      split at hif
      · obtain rfl := Option.some.inj hif
        rintro rfl
        exact (shShadow_fixed ha).2 ho
      · exact absurd hif (by simp)

theorem State.loadKept_applyRegs : s.loadKept { s with regs := applyRegs s.regs } :=
  .of_rd (fun _ ho => get_applyRegs _ (List.mem_cons_of_mem _ ho)) rfl

theorem State.rd_dropShadows {o : Nat} (ho : o ∈ fixedRegs) : s.dropShadows.rd o = s.rd o := by
  have hne : o ≠ MPC_REQ_SH := by
    rintro rfl
    exact absurd ho (by decide)
  refine (State.rd_wr_ne _ _ hne).trans ((Tab.get_filter regReset s.regs (fun k => (shActive k).isNone) o).trans (if_pos ?_))
  rw [shActive_none ho]
  rfl

/-! ### The record's own registers (R113, R114) -/

/-- Among the registers a record sets are none of these. -/
theorem recordMask_fixed : ∀ o ∈ fixedRegs, recordMask o = 0 := by decide

/-- A masked write of a register that the mask leaves alone. -/
theorem State.loadKept_ownWrite (o : Nat) (v : Word) :
    s.loadKept (s.wr o ((s.rd o &&& ~~~ (BitVec.ofNat 32 (recordMask o))) ||| (v &&& BitVec.ofNat 32 (recordMask o)))) := by
  refine .of_rd (fun p hp => ?_) rfl
  by_cases he : p = o
  · subst he
    rw [recordMask_fixed p (List.mem_cons_of_mem _ hp), State.rd_wr_same]
    exact (congrArg₂ (· ||| ·) BitVec.and_allOnes BitVec.and_zero).trans BitVec.or_zero
  · exact State.rd_wr_ne _ _ he

theorem State.loadKept_islandSection (ws : List DWord) : s.loadKept (s.islandSection ws) := by
  unfold State.islandSection
  extract_lets c lsv u
  have hu : s.loadKept u := (State.loadKept.refl s).same rfl rfl
  clear_value u
  exact hu.when fun v => (State.loadKept.refl v).put _

theorem State.loadKept.masked (h : s.loadKept t) {o : Nat} (v : Word) (ho : o ∉ MPC_MODE :: loadRegs := by decide) : s.loadKept (t.wrMasked o v) := h.wr _ ho

theorem State.loadKept.clr (h : s.loadKept t) {o : Nat} (ho : o ∉ MPC_MODE :: loadRegs := by decide) : s.loadKept (t.clr o) := h.wr _ ho

/-- The DORMANT section. -/
def State.dormOwn (s : State) (dorm : Option (List Byte)) : State :=
  match dorm with
  | some body =>
    let d := numAt body 0 8
    let s3 := if 8 ≤ body.length then
        (s.wrMasked MPC_DORM (BitVec.ofNat 32 (bits d 0 6))).wrMasked MPC_WAKE_EN (BitVec.ofNat 32 (bits d 8 20))
      else (s.clr MPC_DORM).clr MPC_WAKE_EN
    if 16 ≤ body.length then s3.wr MPC_WAKE_RELOAD (BitVec.ofNat 32 (numAt body 8 4)) else s3.clr MPC_WAKE_RELOAD
  | none => ((s.clr MPC_DORM).clr MPC_WAKE_EN).clr MPC_WAKE_RELOAD

theorem State.loadKept_dormOwn (dorm : Option (List Byte)) : s.loadKept (s.dormOwn dorm) := by
  unfold State.dormOwn
  split
  · extract_lets d u
    have hu : s.loadKept u := .ite (((State.loadKept.refl s).masked _).masked _) (((State.loadKept.refl s).clr).clr)
    clear_value u
    exact .ite (hu.wr _) hu.clr
  · exact (((State.loadKept.refl s).clr).clr).clr

theorem Parse.loadKept_own (p : Parse) : s.loadKept (p.own_ s) := by
  unfold Parse.own_
  extract_lets u v w red lsv
  have hu : s.loadKept u := (State.loadKept.refl s).each fun t e _ => t.loadKept_ownWrite e.1 e.2
  clear_value u
  have hv : s.loadKept v := .ite (hu.put _) hu
  clear_value v
  have hw : s.loadKept w := hv.trans (v.loadKept_dormOwn p.dorm)
  clear_value w
  exact State.loadKept.each (hw.same rfl rfl) fun t ws _ => t.loadKept_islandSection ws

/-! ### The rest of an apply's effects -/

theorem State.loadKept_holdApply : s.loadKept s.holdApply :=
  State.loadKept.same (((State.loadKept.refl s).wr (o := BIV_HOLD_A) _).wr (o := BIV_HOLD_B) _) rfl rfl

theorem State.loadKept_partApply (old : State) : s.loadKept (s.partApply old) := by
  unfold State.partApply
  extract_lets m
  exact .ite (.refl s) (((State.loadKept.refl s).same (u := { s with store := { s.store with zeroing := s.store.zeroing ||| m } }) rfl rfl).put _)

theorem State.loadKept_coresRun (v : Bool) : s.loadKept (s.coresRun v) := by
  have hrd : ∀ o ∈ loadRegs, (s.coresRun v).rd o = s.rd o := fun o ho => by
    have hne : o ≠ MPC_MODE := by
      rintro rfl
      exact absurd ho (by decide)
    exact (State.rd_put_ne _ _ _ hne).trans (State.rd_put_ne _ _ _ hne)
  exact ⟨hrd, (s.modeStands_coresRun v).cur, id⟩

/-- The first apply lets the cores out, and a record runs from then on. -/
theorem State.loadKept_coresOut : s.loadKept s.coresOut ∧ s.coresOut.sys.recordOn = true := by
  have hsys : s.loadKept { s with sys := { s.sys with recordOn := true, cores := true } } := ⟨fun _ _ => rfl, rfl, fun _ => rfl⟩
  have hrun := hsys.trans (State.loadKept_coresRun true)
  have hrec : (({ s with sys := { s.sys with recordOn := true, cores := true } } : State).coresRun true).sys.recordOn = true := rfl
  rw [State.coresOut]
  generalize ({ s with sys := { s.sys with recordOn := true, cores := true } } : State).coresRun true = u at hrun hrec ⊢
  dsimp only
  split
  · exact ⟨hrun.same rfl rfl, hrec⟩
  · exact ⟨hrun, hrec⟩

theorem State.loadKept_lpwApply : s.loadKept s.lpwApply := (State.loadKept.refl s).same rfl rfl

theorem State.loadKept_eligCheck : s.loadKept s.eligCheck := .of_confined State.confined_eligCheck

theorem State.loadKept_conflictCheck : s.loadKept s.conflictCheck := by
  unfold State.conflictCheck
  extract_lets c u
  have hu : s.loadKept u := .ite (((State.loadKept.refl s).put _).fault _ _ _) (.refl s)
  clear_value u
  exact (hu.put _).trans State.loadKept_eligCheck

theorem State.loadKept_pairCheck : s.loadKept s.pairCheck :=
  .ite (.refl s) (.ite ((State.loadKept.refl s).put _) (.ite (.refl s) ((State.loadKept.refl s).put _)))

theorem State.loadKept_hbrConfigured : s.loadKept s.hbrConfigured := (State.loadKept.refl s).same rfl rfl

end

end Sys2Proof.Machine

/-! An apply leaves what the loader shows, marks the record applied and lets it run. -/
namespace Sys2Proof.Machine

set_option Elab.async false

section
variable {s t u : State}

/-- The registers that show the loader's end, the commit machine and the active slot stand, and a record that runs still runs; the mode may change. -/
structure State.shownKept (s t : State) : Prop where
  rd : ∀ o ∈ loadRegs, t.rd o = s.rd o
  recordOn : s.sys.recordOn = true → t.sys.recordOn = true

namespace State.shownKept

theorem refl (s : State) : s.shownKept s := ⟨fun _ _ => rfl, id⟩

theorem trans (h : s.shownKept t) (k : t.shownKept u) : s.shownKept u :=
  ⟨fun o ho => (k.rd o ho).trans (h.rd o ho), fun hr => k.recordOn (h.recordOn hr)⟩

theorem of_only {os : List Nat} {ps : List Part} (h : s.only os ps t) (ho : ∀ o ∈ loadRegs, o ∉ os := by decide)
    (hs : t.sys.recordOn = s.sys.recordOn) : s.shownKept t := ⟨fun o hp => h.1 o (ho o hp), fun hr => hs.trans hr⟩

end State.shownKept

theorem State.loadKept.shown (h : s.loadKept t) : s.shownKept t := ⟨h.rd, h.recordOn⟩

theorem State.loadKept_reqStat (st code : Nat) : s.loadKept (s.reqStat st code) := .of_only (State.only_reqStat st code)

/-! ### RUN from MAINTAIN -/

theorem State.shownKept_modeShown {m : Nat} (hm : m < 8) (h3 : s.mode ≠ 3) : s.shownKept (s.modeShown m) := by
  obtain ⟨-, -, hplain⟩ := s.modeShown_spec hm
  obtain ⟨hsys, honly⟩ := hplain h3
  exact .of_only honly (by decide) (by rw [hsys])

theorem State.shownKept_modeSent (m : Nat) : s.shownKept (s.modeSent m) := by
  refine .of_only (s.modeSent_spec m).1 (by decide) ?_
  rw [State.modeSent, State.when, State.stackSend]
  split
  · split
    · rfl
    · rfl
  · rfl

theorem State.shownKept_wakeLat : s.shownKept s.wakeLat := by
  refine .of_only s.only_wakeLat (by decide) ?_
  rw [State.wakeLat]
  split
  · rfl
  · rfl

theorem State.shownKept_runEntry : s.shownKept s.runEntry := by
  rw [State.runEntry]
  have hrun : s.shownKept ((s.coresRun true).put MPC_MODE_BOOTING 0) := (State.loadKept_coresRun true).shown.trans
    (.of_only ((State.only_refl _ [MPC_MODE] []).put _ (by decide)) (by decide) rfl)
  have hlat := hrun.trans State.shownKept_wakeLat
  exact ⟨hlat.rd, hlat.recordOn⟩

theorem State.shownKept_reqEnds (m : Nat) : s.shownKept (s.reqEnds m) := by
  have hends (st code : Nat) : s.shownKept (({ s with sys := { s.sys with waitRun := false } } : State).reqStat st code) :=
    State.shownKept.trans (t := { s with sys := { s.sys with waitRun := false } }) ⟨fun _ _ => rfl, id⟩ (State.loadKept_reqStat st code).shown
  rw [State.reqEnds]
  split
  · exact hends 2 0
  · split
    · exact hends 3 1
    · exact .refl s

theorem State.shownKept_setRun (h : s.mode = 5) : s.shownKept (s.setMode 2) := by
  rw [State.setMode_eq]
  have hsent := (State.shownKept_modeShown (s := s) (m := 2) (by decide) (by omega)).trans (State.shownKept_modeSent 2)
  generalize (s.modeShown 2).modeSent 2 = u at hsent ⊢
  have hleft : u.watchLeft s.mode 2 = u := if_neg (by omega)
  rw [hleft]
  exact ((hsent.trans State.shownKept_runEntry).trans (State.shownKept_reqEnds 2)).trans State.loadKept_eligCheck.shown

/-! ### The mode a record asks for (R121) -/

/-- From MAINTAIN a record can ask for RUN alone. -/
theorem State.judge_maintain {target : Nat} {ring own head : Bool} (h : s.mode = 5) (hc : s.judge target false ring own head = 0) : target = 2 := by
  by_contra hne
  have hmay : mayChange 5 target ring = false := by
    unfold mayChange
    split
    all_goals simp_all
  have hp : s.permit target ring ≠ 0 := by
    rw [State.permit, h, hmay]
    split
    · decide
    · simp
  unfold State.judge at hc
  simp only [Bool.false_and, Bool.false_eq_true, if_false] at hc
  split at hc
  · exact absurd hc (by decide)
  split at hc
  · exact absurd hc (by decide)
  split at hc
  · exact absurd hc (by decide)
  split at hc
  · omega
  split at hc
  · exact absurd hc (by decide)
  · exact hp hc

theorem State.shownKept_commitMode (sh : Word) (ring : Bool) (h : s.mode = 5) : s.shownKept (s.commitMode sh ring) := by
  have hstat (st code : Nat) : s.shownKept (s.reqStat st code) := (State.loadKept_reqStat st code).shown
  unfold State.commitMode
  extract_lets target code u
  have hu : s.loadKept u := (State.loadKept.refl s).same rfl rfl
  clear_value u
  split
  · exact .refl s
  split
  · exact hstat 2 0
  split
  · exact hstat 3 code
  · rename_i hcode
    have h2 : target = 2 := State.judge_maintain h (not_not.1 hcode)
    rw [h2, if_neg (by omega)]
    have hstop : u.proofStop = u := by
      rw [State.proofStop, if_neg fun hp => absurd (hp.1.symm.trans (hu.mode.trans h)) (by decide)]
    rw [hstop]
    exact (hu.shown.trans (State.shownKept_setRun (hu.mode.trans h))).trans (State.loadKept_reqStat 2 0).shown

/-- A record that asks for an activation begins it, or has it refused. -/
theorem State.loadKept_goApply : s.loadKept s.goApply := by
  have hno (u : State) : u.loadKept ((((u.put UPD_RES_CODE 0x16).put UPD_RES_OP 0).put UPD_EVT_REFUSED 1).fault 0x16 0x70 0x16) :=
    ((((State.loadKept.refl u).put _).put _).put _).fault _ _ _
  have hact (u : State) (slot : Nat) : u.loadKept (u.activate slot) := (((State.loadKept.refl u).put _).put _).same rfl rfl
  unfold State.goApply
  extract_lets u
  have hu : s.loadKept u := (State.loadKept.refl s).put _
  clear_value u
  refine .ite (.refl s) ?_
  split
  · exact .ite (hu.trans (hact _ _)) (hu.trans (hno u))
  · exact hu.trans (hno u)

/-! ### The whole apply -/

/-- What an apply leaves in MAINTAIN, whatever the record itself names. -/
theorem State.applyAll_shown (own : State → State) (ring : Bool) (hown : ∀ u : State, u.loadKept (own u)) (h : s.mode = 5) :
    (s.applyAll own ring).rd CFG_LOAD = s.rd CFG_LOAD ∧ (s.applyAll own ring).rd UPD_STAT = s.rd UPD_STAT ∧
    (s.applyAll own ring).get CFG_STAT_APPLIED = 1 ∧ (s.applyAll own ring).sys.recordOn = true := by
  unfold State.applyAll
  extract_lets first s1 s2 s3 s4 s5 s6
  have h1 : s.loadKept s1 := State.loadKept_applyRegs.trans (hown _)
  clear_value s1
  have h2 : s.loadKept s2 := ((h1.trans State.loadKept_holdApply).trans (State.loadKept_partApply s)).trans (State.loadKept_fwdApply s)
  clear_value s2
  have h3 : s.loadKept s3 := ((h2.put _).trans (State.loadKept_timeApply s)).trans (State.loadKept_ggApply s first)
  clear_value s3
  have h4 : s.loadKept s4 ∧ s4.sys.recordOn = true := by
    have hout : s.loadKept (if first then s3.coresOut else s3) ∧ (if first then s3.coresOut else s3).sys.recordOn = true := by
      obtain ⟨hkept, hon⟩ := s3.loadKept_coresOut
      split
      · exact ⟨h3.trans hkept, hon⟩
      · rename_i hf
        exact ⟨h3, h3.recordOn (by simpa [first] using hf)⟩
    obtain ⟨hkept, hon⟩ := hout
    unfold s4
    generalize (if first then s3.coresOut else s3) = v at hkept hon ⊢
    have hlanes : v.loadKept (v.each (List.range 4) fun s' l => s'.laneApply s l first) :=
      (State.loadKept.refl v).each fun t l hl => State.loadKept_laneApply s (List.mem_range.1 hl) first
    exact ⟨hkept.trans hlanes, hlanes.recordOn hon⟩
  clear_value s4
  obtain ⟨h4, hon4⟩ := h4
  have h5 : s4.loadKept s5 := ((((((State.loadKept_mbApply s).trans (State.loadKept_lsvApply s)).trans State.loadKept_lpwApply).trans
    State.loadKept_conflictCheck).trans State.loadKept_pairCheck).trans State.loadKept_listenCheck)
  clear_value s5
  have h45 := h4.trans (h5.trans State.loadKept_hbrConfigured)
  have hon5 := (h5.trans State.loadKept_hbrConfigured).recordOn hon4
  have h6 : s6.rd CFG_LOAD = s.rd CFG_LOAD ∧ s6.rd UPD_STAT = s.rd UPD_STAT ∧ s6.get CFG_STAT_APPLIED = 1 ∧ s6.mode = 5 ∧ s6.sys.recordOn = true := by
    unfold s6
    generalize s5.hbrConfigured = v at h45 hon5 ⊢
    have honly : v.only [CFG_STAT, CFG_LAST_T, CFG_LAST_T + 4] [] (((v.put CFG_STAT_APPLIED 1).wr64 CFG_LAST_T s5.now).put CFG_STAT_STATE 4) :=
      (((v.only_refl _ _).put _ (by decide)).wr64 _ (by decide) (by decide)).put _ (by decide)
    refine ⟨(honly.1 _ (by decide)).trans (h45.rd _ (by decide)), (honly.1 _ (by decide)).trans (h45.rd _ (by decide)), ?_,
      (honly.get_eq (by decide)).trans (h45.mode.trans h), ?_⟩
    · rw [State.get_put_apart _ _ rfl]
      exact (State.get_congr (State.rd_wr64_ne _ _ (by decide) (by decide))).trans (State.get_put_self _ rfl (by decide))
    · rw [honly.2 .sys (by simp)]
      exact hon5
  clear_value s6
  obtain ⟨hload, hupd, happ, hmode, hrec⟩ := h6
  have hend := (State.shownKept_commitMode (s.rd MPC_REQ_SH) ring hmode).trans State.loadKept_goApply.shown
  exact ⟨(hend.rd _ (by decide)).trans hload, (hend.rd _ (by decide)).trans hupd, (State.get_congr (hend.rd _ (by decide))).trans happ, hend.recordOn hrec⟩

end

end Sys2Proof.Machine

/-! What the parse of a record leaves alone, and the codes that can end it. -/
namespace Sys2Proof.Machine

set_option Elab.async false

section
variable {s : State} {p : Parse}

/-- A parse so far has changed none of the registers without a shadow, and the code that ended it is one of R116. -/
structure Parse.tidy (s : State) (p : Parse) : Prop where
  rd : ∀ o ∈ fixedRegs, p.hub.rd o = s.rd o
  code : p.code ≤ 9

theorem State.rd_wrMasked_ne {o j : Nat} (v : Word) (h : j ≠ o) : (s.wrMasked o v).rd j = s.rd j := State.rd_wr_ne _ _ h

theorem regsTarget_fixed {o : Nat} (h : regsTarget o = true) : o ∉ fixedRegs := by
  intro ho
  have hne : o ≠ MPC_REQ_SH := by
    rintro rfl
    exact absurd ho (by decide)
  rw [regsTarget, shActive_none ho] at h
  simp [hne] at h

theorem Parse.tidy.entry (h : p.tidy s) (w : DWord) : (p.entry w).tidy s := by
  unfold Parse.entry
  extract_lets o v
  split
  · exact h
  split
  · rename_i ht
    refine ⟨fun j hj => (State.rd_wrMasked_ne _ ?_).trans (h.rd j hj), h.code⟩
    rintro rfl
    exact regsTarget_fixed ht hj
  split
  · exact ⟨h.rd, h.code⟩
  · exact ⟨h.rd, (by decide : 8 ≤ 9)⟩

/-- Where a table's shadow bank lies, and that an index has words. -/
theorem tableOf_range {id base n per : Nat} (h : tableOf id = some (base, n, per)) :
    0 < per ∧ 0x0C6000 ≤ base ∧ base + 4 * (per * (n + 1) - 1) ≤ 0x140000 := by
  unfold tableOf at h
  split at h
  case h_10 => exact absurd h (by simp)
  all_goals
    simp only [Option.some.injEq, Prod.mk.injEq] at h
    obtain ⟨rfl, rfl, rfl⟩ := h
    decide

/-- No word of a table's shadow bank is one of the registers. -/
theorem tableOf_apart {id base n per i : Nat} (h : tableOf id = some (base, n, per)) (hi : i + 1 < per * (n + 1)) : base + 4 * i ∉ fixedRegs := by
  obtain ⟨-, hlo, hhi⟩ := tableOf_range h
  have hfixed : ∀ o ∈ fixedRegs, o < 0x0C6000 ∨ 0x140000 ≤ o := by decide
  intro ho
  have := hfixed _ ho
  omega

theorem State.rd_each_wrMasked {α : Type} {l : List α} {off : α → Nat} {val : α → Word} {o : Nat} (h : ∀ x ∈ l, o ≠ off x) :
    (s.each l fun s x => s.wrMasked (off x) (val x)).rd o = s.rd o := by
  induction l generalizing s with
  | nil => rfl
  | cons x l ih => exact (ih (s := s.wrMasked (off x) (val x)) fun y hy => h y (by simp [hy])).trans (State.rd_wrMasked_ne _ (h x (by simp)))

theorem Parse.tidy.table (h : p.tidy s) (body : List Byte) : (p.table body).tidy s := by
  have h8 : Parse.tidy s { p with code := 0x08 } := ⟨h.rd, (by decide : 8 ≤ 9)⟩
  unfold Parse.table
  extract_lets hd ws0 ws start
  split
  · exact h8
  rename_i base n per hid
  split
  · exact h8
  clear_value ws start
  split
  · exact h8
  · rename_i hfit
    refine ⟨fun j hj => (State.rd_each_wrMasked (off := fun x : Nat × Word => base + 4 * (per * start + x.1)) fun x hx => ?_).trans (h.rd j hj), h.code⟩
    have hx1 := List.mem_range.1 (List.of_mem_zip hx).1
    have hper := (tableOf_range hid).1
    have hlen : ws.length < per * (ws.length / per) + per := by
      have := Nat.div_add_mod ws.length per
      have := Nat.mod_lt ws.length hper
      omega
    have hbound : per * (start + ws.length / per) ≤ per * n := Nat.mul_le_mul_left _ (by omega)
    rintro rfl
    refine tableOf_apart hid ?_ hj
    rw [Nat.mul_add] at hbound ⊢
    omega

theorem State.regs_loadStore (off : Nat) (bs : List Byte) : (s.loadStore off bs).regs = s.regs := (s.loadStore_foot off bs).regs rfl

theorem Parse.tidy.store (h : p.tidy s) (body : List Byte) : (p.store body).tidy s := by
  unfold Parse.store
  extract_lets off bs
  split
  · exact ⟨h.rd, (by decide : 8 ≤ 9)⟩
  · exact ⟨fun j hj => (State.rd_congr (State.regs_loadStore _ _) j).trans (h.rd j hj), h.code⟩

/-- A list of operations none of which changes a register. -/
theorem State.rd_each_const {α : Type} {l : List α} {f : State → α → State} {o : Nat} (h : ∀ (t : State), ∀ x ∈ l, (f t x).rd o = t.rd o) :
    (s.each l f).rd o = s.rd o := by
  induction l generalizing s with
  | nil => rfl
  | cons x l ih => exact (ih (s := f s x) fun t y hy => h t y (by simp [hy])).trans (h s x (by simp))

theorem State.rd_islandActs {o : Nat} (ws : List DWord) (ho : o ∈ fixedRegs) : (s.islandActs ws).rd o = s.rd o := by
  have hfixed : ∀ o ∈ fixedRegs, ∀ k < 16, o ≠ LSV_ACT_SH k := by decide
  unfold State.islandActs
  extract_lets c ne na
  refine State.rd_each_const fun t k hk => ?_
  have hne := hfixed o ho k (List.mem_range.1 hk)
  split
  · exact State.rd_wr_ne _ _ hne
  · exact State.rd_wr_ne _ _ hne

theorem twinRegs_fixed : ∀ r ∈ twinRegs, r ∉ fixedRegs := by decide

theorem Parse.tidy.foldl {α : Type} {f : Parse → α → Parse} (hf : ∀ q : Parse, q.tidy s → ∀ a, (f q a).tidy s) (l : List α) (h : p.tidy s) :
    (l.foldl f p).tidy s := by
  induction l generalizing p with
  | nil => exact h
  | cons a l ih => exact ih (hf p h a)

theorem Parse.tidy.section_ (h : p.tidy s) (x : Sect) : (p.section_ x).tidy s := by
  unfold Parse.section_
  split
  · exact h
  split
  · exact h.foldl (fun q hq w => hq.entry w) _
  · split
    · exact h
    · exact h.table _
  · split
    · exact h
    · exact h.store _
  · refine ⟨fun j hj => (State.rd_each_const fun t r hr => ?_).trans (h.rd j hj), h.code⟩
    have hne : j ≠ r.1 := fun he => twinRegs_fixed r.1 (List.of_mem_zip hr).1 (he ▸ hj)
    split
    · exact State.rd_wrMasked_ne _ hne
    · exact State.rd_wr_ne _ _ hne
  · exact ⟨h.rd, h.code⟩
  · exact ⟨fun j hj => (State.rd_islandActs _ hj).trans (h.rd j hj), h.code⟩
  · exact h
  · split
    · exact ⟨h.rd, (by decide : 7 ≤ 9)⟩
    · exact h

theorem sections_code (bs : List Byte) (stop : Nat) : ∀ fuel pos left, (sections bs stop fuel pos left).2 ≤ 9
  | 0, pos, left => by
    rw [sections]
    split
    · decide
    · decide
  | fuel + 1, pos, left => by
    rw [sections]
    split
    · decide
    split
    · decide
    extract_lets h len
    split
    · decide
    · exact sections_code bs stop fuel _ _

theorem headCode_le (bs : List Byte) : headCode bs ≤ 9 := by
  unfold headCode
  extract_lets len
  split
  · decide
  split
  · decide
  split
  · decide
  · decide

theorem Parse.tidy_parse (bs : List Byte) : (s.parse bs).tidy s := by
  have h0 : Parse.tidy s ⟨s, [], false, none, [], headCode bs⟩ := ⟨fun _ _ => rfl, headCode_le bs⟩
  unfold State.parse
  extract_lets p0 r q
  have hq : q.tidy s := h0.foldl (fun q hq x => hq.section_ x) _
  have hr : r.2 ≤ 9 := sections_code ..
  clear_value q r
  split
  · exact h0
  split
  · exact ⟨h0.rd, (by decide : 4 ≤ 9)⟩
  split
  · exact hq
  split
  · exact ⟨hq.rd, hr⟩
  split
  · exact ⟨hq.rd, (by decide : 6 ≤ 9)⟩
  · exact hq

/-! ### An attempt (R116) -/

/-- What an attempt leaves the next one and the loader's end. -/
structure State.attempted (s t : State) : Prop where
  mode : t.rd MPC_MODE = s.rd MPC_MODE
  rst : t.rd RSTC_INRST = s.rd RSTC_INRST
  cfg : t.cfg = s.cfg
  sys : t.sys = s.sys
  fltQ : t.fltQ = s.fltQ

namespace State.attempted
variable {t : State}

theorem refl (s : State) : s.attempted s := ⟨rfl, rfl, rfl, rfl, rfl⟩

theorem trans {u : State} (h : s.attempted t) (k : t.attempted u) : s.attempted u :=
  ⟨k.mode.trans h.mode, k.rst.trans h.rst, k.cfg.trans h.cfg, k.sys.trans h.sys, k.fltQ.trans h.fltQ⟩

theorem put (h : s.attempted t) {f : Fld} (v : Nat) (hf : f.off ≠ MPC_MODE ∧ f.off ≠ RSTC_INRST := by decide) : s.attempted (t.put f v) :=
  h.trans ⟨State.rd_put_ne _ _ _ hf.1.symm, State.rd_put_ne _ _ _ hf.2.symm, rfl, rfl, rfl⟩

theorem mode_eq (h : s.attempted t) : t.mode = s.mode := State.get_congr h.mode

theorem roomy (h : s.attempted t) (hr : s.roomy) : t.roomy := hr.congr h.mode h.rst h.fltQ

end State.attempted

theorem State.rd_runCheck (timed : Bool) {o : Nat} (ho : o ≠ CFG_CHECK_RES) : (s.runCheck timed).1.rd o = s.rd o := by
  unfold State.runCheck
  extract_lets l
  split
  · rfl
  · exact (State.rd_put_ne _ _ _ ho).trans ((State.rd_put_ne _ _ _ ho).trans ((State.rd_put_ne _ _ _ ho).trans (State.rd_put_ne _ _ _ ho)))

theorem Parse.outcome_tidy (h : p.tidy s) (img : Nat) (r : List Byte × Bool) :
    (∀ o ∈ fixedRegs, (p.outcome img r).1.rd o = s.rd o) ∧ (p.outcome img r).2.2.1 ≤ 10 := by
  have hdrop : ∀ o ∈ fixedRegs, p.hub.dropShadows.rd o = s.rd o := fun o ho => (State.rd_dropShadows ho).trans (h.rd o ho)
  have hcode := h.code
  unfold Parse.outcome
  split
  · exact ⟨hdrop, hcode.trans (by decide)⟩
  split
  · exact ⟨hdrop, (by decide : 2 ≤ 10)⟩
  extract_lets k
  have hk : ∀ o ∈ fixedRegs, k.1.rd o = s.rd o := fun o ho => by
    have hne : o ≠ CFG_CHECK_RES := by
      rintro rfl
      exact absurd ho (by decide)
    exact (State.rd_runCheck false hne).trans (h.rd o ho)
  clear_value k
  split
  · exact ⟨fun o ho => (State.rd_dropShadows ho).trans (hk o ho), (by decide : 9 ≤ 10)⟩
  · exact ⟨hk, (by decide : 0 ≤ 10)⟩

/-- An attempt leaves the mode, the reset, what the hub reports and what it shows; its code is one of R116. -/
theorem State.tryLoad_spec (slot : Nat) (quiet : Bool) : s.attempted (s.tryLoad slot quiet).1 ∧ (s.tryLoad slot quiet).2.2.1 ≤ 10 := by
  have hfoot := s.tryLoad_foot slot quiet
  suffices h : (∀ o ∈ fixedRegs, (s.tryLoad slot quiet).1.rd o = s.rd o) ∧ (s.tryLoad slot quiet).2.2.1 ≤ 10 from
    ⟨⟨h.1 _ (by decide), h.1 _ (by decide), hfoot.cfg rfl, hfoot.sys rfl, hfoot.fltQ rfl⟩, h.2⟩
  unfold State.tryLoad
  extract_lets none_ img s1 r
  split
  · exact ⟨fun o ho => State.rd_dropShadows ho, (by decide : 10 ≤ 10)⟩
  split
  · exact ⟨fun o ho => State.rd_dropShadows ho, (by decide : 2 ≤ 10)⟩
  · have hparse := Parse.tidy_parse (s := s1) r.1
    have hs1 : ∀ o, s1.rd o = s.rd o := fun o => State.rd_congr (State.regs_loadStore _ _) o
    obtain ⟨hrd, hcode⟩ := Parse.outcome_tidy hparse img r
    exact ⟨fun o ho => (hrd o ho).trans (hs1 o), hcode⟩

end

end Sys2Proof.Machine

/-! The loader and how it ends (R115 to R117). -/
namespace Sys2Proof.Machine

set_option Elab.async false

section
variable {s t : State}

/-- How a run of the loader shows and reports its end. -/
structure State.loaderEnds (s t : State) : Prop where
  ended : t.cfg.loading = false
  good : t.get CFG_LOAD_CODE = 0 → t.sys.recordOn = true ∧ t.get CFG_STAT_APPLIED = 1 ∧ t.get UPD_STAT_ACTIVE = t.get CFG_LOAD_SLOT
  bad : t.get CFG_LOAD_CODE ≠ 0 → t.sys.recordOn = s.sys.recordOn ∧ t.get UPD_STAT_RECOVERY = 1 ∧ t.get UPD_BOOT_STATE = 0 ∧
    s.sent t 0x04 0x21 (t.get CFG_LOAD_CODE)

/-! ### An end with nothing applied -/

/-- What CFG and UPD show at such an end. -/
def State.badShown (s : State) (code slot : Nat) : State :=
  (((((s.put CFG_LOAD_CODE code).put CFG_LOAD_SLOT slot).put CFG_LOAD_OTHER 0).put UPD_STAT_RECOVERY 1).put UPD_BOOT_STATE 0).put UPD_BOOT_SLOT 0

theorem State.loadBad_eq (code slot : Nat) :
    s.loadBad code slot = ((s.badShown code slot).modCfg fun c => { c with loading := false }).fault 0x04 0x21 code := rfl

theorem State.badShown_spec {code slot : Nat} (hc : code < 256) :
    s.only [CFG_LOAD, UPD_STAT, UPD_BOOT] [] (s.badShown code slot) ∧
    (s.badShown code slot).get CFG_LOAD_CODE = code ∧ (s.badShown code slot).get CFG_LOAD_SLOT = slot % 2 ∧
    (s.badShown code slot).get CFG_LOAD_OTHER = 0 ∧ (s.badShown code slot).get UPD_STAT_RECOVERY = 1 ∧ (s.badShown code slot).get UPD_BOOT_STATE = 0 := by
  rw [State.badShown]
  refine ⟨((((((s.only_refl _ _).put _ (by decide)).put _ (by decide)).put _ (by decide)).put _ (by decide)).put _ (by decide)).put _ (by decide),
    ?_, ?_, ?_, ?_, ?_⟩
  · rw [State.get_put_apart _ _ rfl, State.get_put_apart _ _ rfl, State.get_put_apart _ _ rfl, State.get_put_apart _ _ rfl, State.get_put_apart _ _ rfl]
    exact State.get_put_self _ rfl hc
  · rw [State.get_put_apart _ _ rfl, State.get_put_apart _ _ rfl, State.get_put_apart _ _ rfl, State.get_put_apart _ _ rfl]
    exact State.get_put_same _ _ _ (by decide)
  · rw [State.get_put_apart _ _ rfl, State.get_put_apart _ _ rfl, State.get_put_apart _ _ rfl]
    exact State.get_put_self _ rfl (by decide)
  · rw [State.get_put_apart _ _ rfl, State.get_put_apart _ _ rfl]
    exact State.get_put_self _ rfl (by decide)
  · rw [State.get_put_apart _ _ rfl]
    exact State.get_put_self _ rfl (by decide)

/-- The registers it shows, the fault it sends, and that nothing else changes. -/
theorem State.loadBad_spec {code slot : Nat} (hr : s.roomy) (hc : code < 256) :
    s.only [CFG_LOAD, UPD_STAT, UPD_BOOT] [.cfg, .fltQ] (s.loadBad code slot) ∧
    (s.loadBad code slot).get CFG_LOAD_CODE = code ∧ (s.loadBad code slot).get CFG_LOAD_SLOT = slot % 2 ∧ (s.loadBad code slot).get CFG_LOAD_OTHER = 0 ∧
    (s.loadBad code slot).get UPD_STAT_RECOVERY = 1 ∧ (s.loadBad code slot).get UPD_BOOT_STATE = 0 ∧
    (s.loadBad code slot).cfg = { s.cfg with loading := false } ∧ s.sent (s.loadBad code slot) 0x04 0x21 code := by
  obtain ⟨honly, hcode, hslot, hother, hrec, hboot⟩ := s.badShown_spec (slot := slot) hc
  have hroom := honly.roomy hr (by decide) (by decide) (by simp)
  rw [State.loadBad_eq]
  have hcfg : (s.badShown code slot).cfg = s.cfg := honly.2 .cfg (by simp)
  have hq : (s.badShown code slot).fltQ = s.fltQ := honly.2 .fltQ (by simp)
  have hsys : (s.badShown code slot).sys = s.sys := honly.2 .sys (by simp)
  generalize s.badShown code slot = u at honly hcode hslot hother hrec hboot hroom hcfg hq hsys ⊢
  have hmod : u.only [] [.cfg] (u.modCfg fun c => { c with loading := false }) := (u.only_refl [] [.cfg]).with_cfg _ (by simp)
  have hmodcfg : (u.modCfg fun c => { c with loading := false }).cfg = { s.cfg with loading := false } := by rw [State.modCfg, hcfg]
  generalize (u.modCfg fun c => { c with loading := false }) = v at hmod hmodcfg ⊢
  have hroom' : v.roomy := hmod.roomy hroom (by simp) (by simp) (by simp)
  have hfault := hroom'.only_fault 0x04 0x21 code
  have hfaultcfg : (v.fault 0x04 0x21 code).cfg = v.cfg := hfault.2 .cfg (by simp)
  have hvq : v.fltQ = u.fltQ := hmod.2 .fltQ (by simp)
  have hvsys : v.sys = u.sys := hmod.2 .sys (by simp)
  have hrd (f : Fld) : (v.fault 0x04 0x21 code).get f = u.get f := (hfault.get_eq (by simp)).trans (hmod.get_eq (by simp))
  refine ⟨((honly.mono (by simp) (by simp)).trans (hmod.mono (by simp) (by simp))).trans (hfault.mono (by simp) (by simp)), (hrd _).trans hcode,
    (hrd _).trans hslot, (hrd _).trans hother, (hrd _).trans hrec, (hrd _).trans hboot, hfaultcfg.trans hmodcfg, ?_⟩
  exact State.sent.of_eq (hroom'.sent_fault 0x04 0x21 code) (hvq.trans hq) (by rw [hvsys, hsys])

theorem State.loaderEnds_loadBad {code slot : Nat} (ha : s.attempted t) (hr : s.roomy) (hc : code ≤ 10) (h0 : code ≠ 0) :
    s.loaderEnds (t.loadBad code slot) := by
  obtain ⟨honly, hcode, -, -, hrec, hboot, hcfg, hsent⟩ := State.loadBad_spec (slot := slot) (ha.roomy hr) (show code < 256 by omega)
  refine ⟨by rw [hcfg], fun h => absurd (hcode.symm.trans h) h0, fun _ => ⟨?_, hrec, hboot, ?_⟩⟩
  · rw [honly.2 .sys (by simp), ha.sys]
  · rw [hcode]
    exact hsent.of_eq ha.fltQ (by rw [ha.sys])

/-! ### A good end -/

/-- What CFG and UPD show before the apply. -/
def State.okShown (s : State) (slot row cand : Nat) (bs : List Byte) (mig : Bool) (other : Bool) : State :=
  let trial := row == 1 && !other
  let s1 := ((s.put UPD_STAT_ACTIVE slot).put UPD_STAT_TRIAL (b2n trial)).put UPD_STAT_RECOVERY 0
  let s2 := if trial then (s1.put UPD_BOOT_STATE 2).put UPD_BOOT_SLOT cand else (s1.put UPD_BOOT_STATE 0).put UPD_BOOT_SLOT 0
  let s4 := ((((s2.put CFG_LOAD_CODE 0).put CFG_LOAD_SLOT slot).put CFG_LOAD_MIGRATED (b2n mig)).put CFG_LOAD_OTHER (b2n other)).put CFG_LOAD_FORMAT
    (numAt bs 4 2)
  s4.wr64 CFG_SERIAL (numAt bs 0x10 8)

/-- What a good end reports after the apply. -/
def State.okReported (s : State) (row cand : Nat) (first : Option (Nat × Nat)) : State :=
  let s6 := match first with
    | some (c, img) =>
      let x := s.fault 0x04 0x20 c
      if img = 0 then x else x.fault 0x16 0x70 img
    | none => s
  if row = 2 then (s6.put UPD_EVT_FELL_BACK 1).fault 0x16 0x71 cand else s6

theorem State.loadOk_eq (p : Parse) (slot row cand : Nat) (bs : List Byte) (mig : Bool) (first : Option (Nat × Nat)) :
    s.loadOk p slot row cand bs mig first =
      (((s.okShown slot row cand bs mig first.isSome).modCfg fun c => { c with loading := false }).applyAll p.own_ false).okReported row cand first := by
  simp only [State.loadOk, State.okShown, State.okReported]
  cases first
  · simp only [Option.isNone_none, Option.isSome_none, Bool.not_false]
  · simp only [Option.isNone_some, Option.isSome_some, Bool.not_true]

theorem State.okShown_spec (slot row cand : Nat) (bs : List Byte) (mig other : Bool) :
    (s.okShown slot row cand bs mig other).get CFG_LOAD_CODE = 0 ∧ (s.okShown slot row cand bs mig other).get CFG_LOAD_SLOT = slot % 2 ∧
    (s.okShown slot row cand bs mig other).get UPD_STAT_ACTIVE = slot % 2 ∧ (s.okShown slot row cand bs mig other).mode = s.mode := by
  unfold State.okShown
  extract_lets trial s1 s2 s4
  have h1 : s1.get UPD_STAT_ACTIVE = slot % 2 ∧ s1.mode = s.mode := by
    have honly : s.only [UPD_STAT] [] s1 := (((s.only_refl _ _).put _ (by decide)).put _ (by decide)).put _ (by decide)
    refine ⟨?_, honly.get_eq (by decide)⟩
    unfold s1
    rw [State.get_put_apart _ _ rfl, State.get_put_apart _ _ rfl]
    exact State.get_put_same _ _ _ (by decide)
  clear_value s1
  obtain ⟨hact1, hmode1⟩ := h1
  have h2 : s1.only [UPD_BOOT] [] s2 := by
    unfold s2
    split
    · exact ((s1.only_refl _ _).put _ (by decide)).put _ (by decide)
    · exact ((s1.only_refl _ _).put _ (by decide)).put _ (by decide)
  clear_value s2
  have h4 : s2.only [CFG_LOAD] [] s4 ∧ s4.get CFG_LOAD_CODE = 0 ∧ s4.get CFG_LOAD_SLOT = slot % 2 := by
    unfold s4
    refine ⟨(((((s2.only_refl _ _).put _ (by decide)).put _ (by decide)).put _ (by decide)).put _ (by decide)).put _ (by decide), ?_, ?_⟩
    · rw [State.get_put_apart _ _ rfl, State.get_put_apart _ _ rfl, State.get_put_apart _ _ rfl, State.get_put_apart _ _ rfl]
      exact State.get_put_self _ rfl (by decide)
    · rw [State.get_put_apart _ _ rfl, State.get_put_apart _ _ rfl, State.get_put_apart _ _ rfl]
      exact State.get_put_same _ _ _ (by decide)
  clear_value s4
  obtain ⟨h4, hcode, hslot⟩ := h4
  have hwr : s4.only [CFG_SERIAL, CFG_SERIAL + 4] [] (s4.wr64 CFG_SERIAL (numAt bs 0x10 8)) := (s4.only_refl _ _).wr64 _ (by decide) (by decide)
  refine ⟨(hwr.get_eq (by decide)).trans hcode, (hwr.get_eq (by decide)).trans hslot, ?_, ?_⟩
  · exact (hwr.get_eq (by decide)).trans ((h4.get_eq (by decide)).trans ((h2.get_eq (by decide)).trans hact1))
  · exact (hwr.get_eq (by decide)).trans ((h4.get_eq (by decide)).trans ((h2.get_eq (by decide)).trans hmode1))

theorem State.okReported_spec (row cand : Nat) (first : Option (Nat × Nat)) :
    s.loadKept (s.okReported row cand first) ∧ (s.okReported row cand first).cfg = s.cfg := by
  have hfault (u : State) (a b c : Nat) : u.loadKept (u.fault a b c) ∧ (u.fault a b c).cfg = u.cfg :=
    ⟨(State.loadKept.refl u).fault a b c, (u.fault_foot a b c).cfg rfl⟩
  unfold State.okReported
  extract_lets u
  have hu : s.loadKept u ∧ u.cfg = s.cfg := by
    unfold u
    split
    · rename_i c img
      obtain ⟨hk, hc⟩ := hfault s 0x04 0x20 c
      dsimp only
      split
      · exact ⟨hk, hc⟩
      · obtain ⟨hk', hc'⟩ := hfault (s.fault 0x04 0x20 c) 0x16 0x70 img
        exact ⟨hk.trans hk', hc'.trans hc⟩
    · exact ⟨.refl s, rfl⟩
  clear_value u
  obtain ⟨hk, hc⟩ := hu
  split
  · obtain ⟨hk', hc'⟩ := hfault (u.put UPD_EVT_FELL_BACK 1) 0x16 0x71 cand
    exact ⟨(hk.put _).trans hk', hc'.trans hc⟩
  · exact ⟨hk, hc⟩

theorem State.cfg_applyAll (p : Parse) : (s.applyAll p.own_ false).cfg = s.cfg :=
  (State.applyAll_foot (m := 10968507 ||| 2177) (by decide) (fun u => Foot.step (p.own__foot u) (by decide) Foot.refl) Foot.refl).cfg (by decide)

theorem State.loaderEnds_loadOk (p : Parse) (slot row cand : Nat) (bs : List Byte) (mig : Bool) (first : Option (Nat × Nat)) (h : t.mode = 5) :
    s.loaderEnds (t.loadOk p slot row cand bs mig first) := by
  obtain ⟨hcode, hslot, hact, hmode⟩ := t.okShown_spec slot row cand bs mig first.isSome
  rw [State.loadOk_eq]
  generalize t.okShown slot row cand bs mig first.isSome = u at hcode hslot hact hmode ⊢
  have hmod : u.only [] [.cfg] (u.modCfg fun c => { c with loading := false }) := (u.only_refl [] [.cfg]).with_cfg _ (by simp)
  have hended : (u.modCfg fun c => { c with loading := false }).cfg.loading = false := rfl
  generalize (u.modCfg fun c => { c with loading := false }) = x at hmod hended ⊢
  have hget0 (f : Fld) : x.get f = u.get f := hmod.get_eq (by simp)
  obtain ⟨hload, hupd, happ, hon⟩ := State.applyAll_shown (s := x) p.own_ false (fun _ => p.loadKept_own) ((hget0 _).trans (hmode.trans h))
  have hcfg := State.cfg_applyAll (s := x) p
  generalize x.applyAll p.own_ false = v at hload hupd happ hon hcfg ⊢
  obtain ⟨hkept, hcfg'⟩ := v.okReported_spec row cand first
  generalize v.okReported row cand first = w at hkept hcfg' ⊢
  have hget (f : Fld) (hf : f.off ∈ loadRegs) : w.get f = v.get f := hkept.get_eq hf
  have hw0 : w.get CFG_LOAD_CODE = 0 := (hget _ (by decide)).trans ((State.get_congr hload).trans ((hget0 _).trans hcode))
  refine ⟨by rw [hcfg', hcfg, hended], fun _ => ⟨hkept.recordOn hon, (hget _ (by decide)).trans happ, ?_⟩, fun hne => absurd hw0 hne⟩
  calc w.get UPD_STAT_ACTIVE = slot % 2 := (hget _ (by decide)).trans ((State.get_congr hupd).trans ((hget0 _).trans hact))
    _ = w.get CFG_LOAD_SLOT := ((hget _ (by decide)).trans ((State.get_congr hload).trans ((hget0 _).trans hslot))).symm

/-! ### The run -/

/-- Whatever the flash answers, the loader ends well or with nothing applied. -/
theorem State.loaderEnds_loader (q1 q2 : Bool) (h : s.mode = 5) (hr : s.roomy) : s.loaderEnds (s.loader q1 q2) := by
  unfold State.loader
  split
  · exact State.loaderEnds_loadBad (.refl s) hr (by decide) (by decide)
  · extract_lets bt row slot failed s0
    have h0 : s.attempted s0 := by
      unfold s0
      split
      · exact (State.attempted.refl s).put _
      · exact .refl s
    clear_value bt row slot failed s0
    obtain ⟨ha, hc⟩ := s0.tryLoad_spec slot q1
    generalize s0.tryLoad slot q1 = x at ha hc ⊢
    obtain ⟨a, p, c, img, bs, mig⟩ := x
    have h0a := h0.trans ha
    dsimp only
    split
    · exact State.loaderEnds_loadOk _ _ _ _ _ _ _ (h0a.mode_eq.trans h)
    · obtain ⟨hb, hc2⟩ := a.tryLoad_spec (1 - slot) q2
      generalize a.tryLoad (1 - slot) q2 = y at hb hc2 ⊢
      obtain ⟨b, p2, c2, img2, bs2, mig2⟩ := y
      have h0b := h0a.trans hb
      dsimp only
      split
      · exact State.loaderEnds_loadOk _ _ _ _ _ _ _ (h0b.mode_eq.trans h)
      · rename_i hne
        exact State.loaderEnds_loadBad h0b hr hc2 hne

theorem State.loaderDue_mode (h : s.loaderDue = true) : s.mode = 5 := by
  rw [State.loaderDue, Bool.and_eq_true] at h
  exact beq_iff_eq.1 h.2

theorem State.loader_none (q1 q2 : Bool) (h : s.dirChosen = none) : s.loader q1 q2 = s.loadBad 1 0 := by rw [State.loader, h]

/-- A flash that never answers lets both attempts end before they read it. -/
theorem State.loader_quiet {k : Nat} {d : Dir} (hd : s.dirChosen = some (k, d)) (hb : s.get UPD_BOOT_STATE = 0) :
    s.loader true true = (s.dropShadows.dropShadows).loadBad 0x0A (1 - d.active) := by
  have hquiet (u : State) (slot : Nat) : u.tryLoad slot true = (u.dropShadows, ⟨u, [], false, none, [], 0⟩, 0x0A, 0, [], false) := rfl
  simp only [State.loader, hd, hb, hquiet]
  simp

theorem State.dropShadows_attempted : s.attempted s.dropShadows :=
  ⟨State.rd_dropShadows (by decide), State.rd_dropShadows (by decide), rfl, rfl, rfl⟩

theorem State.parts_dropShadows : s.parts [.regs] s.dropShadows := s.dropShadows_foot.parts (by decide)

/-- Both attempts end without an answer: the last slot tried, the code, and what changes. -/
theorem State.loader_quiet_spec {k : Nat} {d : Dir} (hd : s.dirChosen = some (k, d)) (hb : s.get UPD_BOOT_STATE = 0) (ha : d.active ≤ 1) (hr : s.roomy) :
    (s.loader true true).get CFG_LOAD_CODE = 0x0A ∧ (s.loader true true).get CFG_LOAD_SLOT = 1 - d.active ∧ (s.loader true true).get CFG_LOAD_OTHER = 0 ∧
    (s.loader true true).get UPD_STAT_RECOVERY = 1 ∧ (s.loader true true).cfg = { s.cfg with loading := false } ∧
    s.sent (s.loader true true) 0x04 0x21 0x0A ∧ (s.loader true true).mem = s.mem ∧ s.parts [.regs, .cfg, .lsv, .fltQ] (s.loader true true) := by
  rw [State.loader_quiet hd hb]
  have hdrop := s.dropShadows_attempted.trans s.dropShadows.dropShadows_attempted
  have hparts : s.parts [.regs] s.dropShadows.dropShadows := fun p hp =>
    Part.same_trans (s.parts_dropShadows p hp) (s.dropShadows.parts_dropShadows p hp)
  generalize s.dropShadows.dropShadows = u at hdrop hparts ⊢
  obtain ⟨honly, hcode, hslot, hother, hrec, -, hcfg, hsent⟩ := State.loadBad_spec (code := 0x0A) (slot := 1 - d.active) (hdrop.roomy hr) (by decide)
  have hend : s.parts [.regs, .cfg, .fltQ] (u.loadBad 0x0A (1 - d.active)) := fun p hp =>
    Part.same_trans (hparts p fun hm => hp (by simp_all)) (honly.2 p hp)
  exact ⟨hcode, hslot.trans (Nat.mod_eq_of_lt (by omega)), hother, hrec, by rw [hcfg, hdrop.cfg], hsent.of_eq hdrop.fltQ (by rw [hdrop.sys]),
    hend .mem (by simp), fun p hp => hend p fun hm => hp (by simp_all)⟩

end

/-- Settles O23: the run ends well through an apply, which keeps what the loader has shown, or with nothing applied. -/
theorem recordLoader : Obligations.RecordLoader := by
  unfold Obligations.RecordLoader
  refine ⟨fun s hdue hr => ?_, fun s hdue hd hr => ?_, fun k d s hdue hd hb ha hr => ?_, fun s hdue => ?_⟩
  · obtain ⟨hend, hgood, hbad⟩ := State.loaderEnds_loader false false (State.loaderDue_mode hdue) hr
    exact ⟨s.loader false false, congrArg Host.Outcome.next (if_pos hdue), hend, hgood, hbad⟩
  · obtain ⟨honly, hcode, -, hother, hrec, hboot, hcfg, hsent⟩ := State.loadBad_spec (code := 1) (slot := 0) hr (by decide)
    refine ⟨s.loadBad 1 0, congrArg Host.Outcome.next ((if_pos hdue).trans (State.loader_none false false hd)), hcode, hother, hrec, hboot, hcfg, hsent, honly⟩
  · exact ⟨s.loader true true, congrArg Host.Outcome.next (if_pos (by rw [hdue]; rfl)), State.loader_quiet_spec hd hb ha hr⟩
  · exact ⟨s, congrArg Host.Outcome.next (if_neg (by rw [hdue]; simp)), s.only_refl _ _⟩

end Sys2Proof.Machine
